-- ==== Sys2Proof/Word.lean ====
section
/-!
DEFINITION. The words the manual counts in bits, and the register and field descriptors of its register tables.
-/
namespace Sys2Proof

/-- One byte of memory. -/
abbrev Byte := BitVec 8
/-- A 16-bit word (a Campion near-space word). -/
abbrev Half := BitVec 16
/-- A 32-bit word: a register, a memory word, a Yarrow register. -/
abbrev Word := BitVec 32
/-- A 64-bit word: the widest scalar access, TB6 system time. -/
abbrev DWord := BitVec 64
/-- A client identity, 0 to 63 (R79). -/
abbrev Cid := BitVec 6

/-- A memory-mapped register: its Yarrow byte address and the word it reads as when nothing has written it
(its reset value in the register tables). -/
structure Reg where
  addr : Nat
  rst : Word
deriving DecidableEq, Repr

/-- A field of a register: its lowest bit and its width. -/
structure Fld where
  reg : Reg
  lo : Nat
  wid : Nat
deriving DecidableEq, Repr

/-- The access codes of the register tables (R3, R510), and the two the tables spell out:
`rws` is writable only while the Teasel channel is stopped (R361), `rw1` can only be set (EVR_LOCK, R100). -/
inductive Acc where
  | rw | ro | wo | w1c | cnt | rwl | rws | rw1
deriving DecidableEq, Repr

end Sys2Proof
end

