-- ==== Sys2Proof/Syntax.lean ====
section
/-!
DEFINITION. The commands of the block: Instr, one constructor per row of spec/opcode_table.json, and the types of their
operands. An operand says who acts (a client identity, a core, a channel, a port), what is written or received, and what
only the outside world knows (a measured value, a pin level, whether a physical process succeeded; assumption log 4).
-/
namespace Sys2Proof

/-- Voltages at the analog inputs AIN0 to AIN31 and of the supplies, in nanovolts: what a sample sees. -/
structure Analog where
  ain : List Int := []
  vdda : Nat := 3300000000
  vddio : Nat := 3300000000
  vcore : Nat := 900000000
deriving DecidableEq, Repr

/-- A comparator and the voltages at the inputs at that instant (R334). -/
structure CmpEvent where
  k : Fin 8
  v : Analog := {}
deriving DecidableEq, Repr

/-- The kinds of trigger a DMA channel counts (R518). -/
inductive Trig where
  | route | sw | outWm (t : Fin 24) | inWm (t : Fin 24)
deriving DecidableEq, Repr

/-- What the I²C bus does to the port as target (R369): START with an address byte, a byte from the host, a byte to the host,
STOP. -/
inductive I2cAccess where
  | start (addr : BitVec 7) (read : Bool) | byteIn (data : Byte) | byteOut | stop
deriving DecidableEq, Repr

/-- An abstract command of the debug module (R190): read or write a register by its number (CSR, 0x1000 GPR, 0x1020 FPR), read 64 bits of a
Vetch register, or load the program buffer and execute it. -/
inductive DbgCmd where
  | readReg (regno : BitVec 16) | writeReg (regno : BitVec 16) (value : Word) | readVec (v : Fin 32) (chunk : Fin 32)
  | run (w0 w1 : Word)
deriving DecidableEq, Repr

/-- What a boot meets outside the machine (R46): the three samples of the straps (bit 0 HEAD, 1 BOOTSRC, 4:2 PSEL); whether the two reads
of the fuses agree (R460); whether a wipe of the secure bank reads back as zero; a failure of the start-up march (bank, kind, word,
element, XOR); per slot the image offset at which the flash stops reading without error; and the TB10 ticks of the steps. -/
structure BootIn where
  straps : Vector (BitVec 5) 3 := Vector.replicate 3 2#5
  fusesAgree : Bool := true
  wipeOk : Bool := true
  march : Option (Nat × Nat × Nat × Nat × BitVec 39) := none
  readErr : Option Nat × Option Nat := (none, none)
  ticks : Nat := 0
deriving DecidableEq, Repr

/-- A shared resource, each with one arbiter: a memory bank (0x40 is port A of the shared window), port B of the window, a semaphore
group, the doorbells of all mailboxes, the buffer pool, the event router. -/
inductive Resource where
  | bank (b : Fin 68) | portB | group (g : Fin 8) | bells | pool | router
deriving DecidableEq, Repr

/-- A request captured at a service point: the client with the unit it comes from (0: this one), whether it comes through port B, fetches,
or is issued with YCTM.CTM = 1 in Machine mode, and the access. The address is a Yarrow byte address; through port B an offset of the
window; of a Campion context a word of X space, of Y space (bit 16 set) or, for a fetch, a P syllable. A request of another unit carries
its originating CID and that CID's effective priority (R268). -/
structure SvcReq where
  cid : BitVec 6
  origin : BitVec 7 := 0#7
  viaB : Bool := false
  fetch : Bool := false
  ctm : Bool := false
  write : Bool
  addr : Word
  sz : Fin 4
  value : DWord := 0#64
  ocid : BitVec 6 := 0#6
  epri : BitVec 4 := 0#4
deriving DecidableEq, Repr

/-- A scheduled action that is due (R11): an output edge of a leg, a trigger compare of a carrier group, a loop trigger of a core, the
head event of a Teasel pin, a tick of a converter's timer, the start of a carrier. -/
inductive Due where
  | edge (l : Fin 16) | trigger (g : Fin 4) (k : Fin 8) | loop (c : Fin 2) | pinEvent (n : Fin 32) | adcTimer (c : Fin 4)
  | carrier (g : Fin 4)
deriving DecidableEq, Repr


/-- A command: one row of spec/opcode_table.json (assumption log 3: a command whose event cannot occur in the present
state leaves the state as it is). -/
inductive Instr where
  /-- POWER_ON_RESET (R40): VDDIO, VDDA or VCORE stays below its falling threshold for the filter time; the POR clears the address, the learned area and all RAM, and the image is reloaded. -/
  | powerOnReset
  /-- PIN_RESET (R41): nRST is held low for at least 1 µs; the pin reset clears like POR, and a pulse shorter than 100 ns is ignored. -/
  | pinReset (ns : Nat)
  /-- SOFTRST_WRITE (R42): A write to SYS_SOFTRST by CID 1 with KEY 0xA55A causes SOFT; any other write is ignored and sets KEYERR. -/
  | softrstWrite (cid : Cid) (value : Word)
  /-- BOOT_SEQUENCE (R46): When supplies are valid and nRST is high after a reset, Betony runs the boot steps in order, from regulator start to release. -/
  | bootSequence (b : BootIn)
  /-- PERSONALITY_WAIT_TIMEOUT (R60): With PSELADDR = 1, no address arrives within 20 ms of step 7, so selection falls back to the straps. -/
  | personalityWaitTimeout
  /-- BOOT_CONFIRM (R69): A write of CONFIRM = 1 by CID 1 makes Betony program the rollback fuses up to the running image's ROLLBACK. -/
  | bootConfirm (cid : Cid) (value : Word)
  /-- FUSE_BIT_DONE (R458): A fuse bit finishes blowing, and the fuse programmer moves to the next bit or the next request. -/
  | fuseBitDone (ok : Bool)
  /-- RELAY_ROUND_START (R71): A relay source with a pending request and no running round starts a round that streams its image downstream. -/
  | relayRoundStart
  /-- RELAY_FRAME_TIMEOUT (R73): A joined relay unit sees no relay frame for 1 ms, leaves the round and requests again. -/
  | relayFrameTimeout
  /-- RELAYTO_EXPIRY (R73): 5 s pass from the first request without a good round, and the relay unit enters LIMP with cause RELAYTO. -/
  | relaytoExpiry
  /-- LIMP_RELAY_RETRY (R73): A relay unit in LIMP sends a new relay request every 100 ms. -/
  | limpRelayRetry
  /-- SERVICE_POINT (R13): A shared resource finishes an operation, closes its capture latch over the pending requests and serves one winner chosen under R14. -/
  | servicePoint (q : Resource) (arrivals : List SvcReq)
  /-- SCHEDULED_ACTION (R11): The timebase count equals a programmed compare value, and the scheduled action fires on that tick. -/
  | scheduledAction (d : Due)
  /-- TIMEBASE_LOCK (R18): A timebase reaches lock, TB_LOCK is set, and TB6 starts counting on its first lock at boot. -/
  | timebaseLock (n : Fin 14)
  /-- LOSS_OF_LOCK (R19): A timebase loses lock, which clears TB_LOCK, sets TB_LOCKLOSS and applies the effects listed for that timebase. -/
  | lossOfLock (n : Fin 14)
  /-- FILTERED_ERROR_RECOMPUTATION (R513): At the end of each 1 ms interval the filtered error is recomputed, the band is reclassified and the baseline may be updated. -/
  | filteredErrorRecomputation (ratio : Nat) (err : Int)
  /-- TRIM_REMOVAL_DONE (R26): The slew that removes the chain-time trim finishes after re-entry to OK, and TRIM clears. -/
  | trimRemovalDone
  /-- MISSING_EDGE_DETECT (R22): No primary edge arrives for 2 µs, so the primary is LOST and the filter is emptied. -/
  | missingEdgeDetect
  /-- GROSS_ERROR_DETECT (R22): The error exceeds ±5 % over a 20 µs interval, so the primary is LOST and the filter is emptied. -/
  | grossErrorDetect
  /-- PRIMARY_RESTART (R513): A stopped primary's edges resume, the band becomes UNKNOWN and TB_RCRATIO is reloaded. -/
  | primaryRestart
  /-- LOOP_PULLIN (R27): The timebase loops finish pulling in to the new TB0, and HOLD clears. -/
  | loopPullin
  /-- HOLDOVER_EXPIRY (R25): No source becomes available within 1 ms of losing RC without CHAIN, so every timebase except TB10 loses lock. -/
  | holdoverExpiry
  /-- RC_LOSS (R515): The RC missing-edge detector finds RC absent, which is handled as a LOST of TB0 or as the loss of the coarse yardstick. -/
  | rcLoss
  /-- RC_RETURN (R25): RC resumes after a loss with no source, the timebases relock to it and the filter restarts. -/
  | rcReturn
  /-- RETDLY_EXPIRY (R30): The primary has been continuously OK for RETDLY, so it may return at the next zero event of group REFSYNC. -/
  | retdlyExpiry
  /-- PRIMARY_RETURN (R30): At the REFSYNC zero event, or at once, TB0 switches back to the primary without a runt and RETURNED is raised. -/
  | primaryReturn
  /-- LINE_CALIBRATION_DONE (R32): The calibration of a group's spare line completes, or the line fails and is retired with DLFAIL. -/
  | lineCalibrationDone (g : Fin 5) (ok : Bool)
  /-- LINE_SWAP (R33): In a coarse tick with no pending edge, the calibrated spare replaces the line calibrated longest ago. -/
  | lineSwap (g : Fin 5)
  /-- TB_TIMELO_READ (R37): A read of TB_TIMELO returns TB6 bits 31:0 and latches bits 63:32 into TB_TIMEHI. -/
  | tbTimeloRead (cid : Cid)
  /-- REGISTER_WRITE (R3): A write to a register field with no row of its own acts according to its access code, counter-field rule and lock. -/
  | registerWrite (cid : Cid) (addr value : Word)
  /-- EVR_YCLAIM_READ (R100): A read of EVR_YCLAIM returns the best pending Yarrow route and clears its pending bit. -/
  | evrYclaimRead (cid : Cid)
  /-- EVR_SWRAISE (R100): A write to EVR_SWRAISE raises event 0xF8 + NUM. -/
  | evrSwraise (cid : Cid) (num : Fin 4)
  /-- EVR_LOCK_WRITE (R100): Writing 1 to an EVR_LOCK bit locks that route's EVR_ROUTE until reset. -/
  | evrLockWrite (cid : Cid) (k : Fin 4) (value : Word)
  /-- EVENT_OUTPUT_PULSE_END (R100): The timed pin pulse of a TCLASS 6 route ends and its pending bit clears. -/
  | eventOutputPulseEnd (q : Fin 128)
  /-- DMA_START (R102): EN = 1 written to a stopped channel clears CODE and fetches the first descriptor. -/
  | dmaStart (cid : Cid) (n : Fin 8) (value : Word)
  /-- DMA_ABORT (R103): ABORT written to a running channel stops it with CODE 5 after the element in progress. -/
  | dmaAbort (cid : Cid) (n : Fin 8) (value : Word)
  /-- DMA_SWTRIG (R519): SWTRIG delivers one trigger, counted against the channel as it stands after EN has acted. -/
  | dmaSwtrig (cid : Cid) (n : Fin 8) (value : Word)
  /-- DMA_TRIGGER (R518): A route or Teasel watermark trigger reaches a channel, and is counted, queued, held or discarded. -/
  | dmaTrigger (n : Fin 8) (t : Trig)
  /-- DESCRIPTOR_FETCH (R101): A descriptor fetch completes, and the descriptor is checked and put in force or the channel stops. -/
  | descriptorFetch (n : Fin 8)
  /-- DMA_ELEMENT (R102): One element is read and then written, and a refusal stops the channel with CODE 2 or 3. -/
  | dmaElement (n : Fin 8)
  /-- BUNDLE_ISSUE (R109): A Campion core issues one bundle, executes its syllables and completes when all its accesses are done. -/
  | bundleIssue (c : Fin 2)
  /-- LEVEL_START (R119): A pending startable level switches in one bundle to its handler context and clears its route. -/
  | levelStart (c : Fin 2)
  /-- LOOP_TRIGGER (R128): LSOFS ticks after the selected carrier event, the scheduler stamps, opens an instance and delivers the trigger. -/
  | loopTrigger (c : Fin 2)
  /-- LSCTL_WRITE (R133): A write to LSCTL closes the open instance without a miss and clears CONSEC and PEND. -/
  | lsctlWrite (c : Fin 2) (value : BitVec 16)
  /-- CORE_RESTART (R136): A keyed RESTART by CID 1 stops the core, handles its legs, releases its resources, resets its registers and restarts or holds it. -/
  | coreRestart (cid : Cid) (c : Fin 2) (value : Word)
  /-- HOLD_RELEASE (R136): Clearing HOLD on a held core starts context 0 at P syllable 0. -/
  | holdRelease (cid : Cid) (c : Fin 2) (value : Word)
  /-- YARROW_INTEGER_INSTRUCTION (R162): Yarrow executes an RV32I, M, Zba or Zbb integer instruction. -/
  | yarrowIntegerInstruction
  /-- INTEGER_DIVISION (R177): DIV, DIVU, REM or REMU give defined results, including division by zero, and raise no exception. -/
  | integerDivision
  /-- FLOATING_POINT_ARITHMETIC (R178): An F instruction computes in IEEE binary32 with frm rounding and accrued flags. -/
  | floatingPointArithmetic
  /-- FMIN_FMAX (R179): FMIN and FMAX order −0 below +0 and handle NaN inputs. -/
  | fminFmax
  /-- CONVERSION_TO_INTEGER (R180): FCVT to an integer saturates and raises NV. -/
  | conversionToInteger
  /-- YARROW_LOAD (R170): A load is issued, checked and returns data, or traps precisely. -/
  | yarrowLoad
  /-- YARROW_STORE (R170): A store retires into the store buffer after the precise checks. -/
  | yarrowStore
  /-- STORE_BUFFER_DRAIN (R174): A buffered store completes at its target, and a late refusal records YSERR and raises YLSE. -/
  | storeBufferDrain
  /-- YARROW_BRANCH (R169): A branch resolves at execute, and a misprediction squashes the younger path. -/
  | yarrowBranch
  /-- FENCE (R171): Waits until the earlier accesses of the named kinds and the older Vetch memory instructions complete. -/
  | fence
  /-- FENCE_I (R171): Empties the prefetch buffer and the predictor. -/
  | fenceI
  /-- ECALL (R172): Raises an environment-call exception. -/
  | ecall
  /-- EBREAK (R172): Raises a breakpoint exception. -/
  | ebreak
  /-- WFI (R173): Waits in Machine mode until an interrupt is pending in mip & mie. -/
  | wfi
  /-- MRET (R187): Returns from a trap, resuming an interrupted block routine or Vetch access. -/
  | mret
  /-- CSR_ACCESS (R191): Reads or writes a standard or Octourik CSR, or raises illegal instruction. -/
  | csrAccess
  /-- VEIX_ACCESS (R225): A CSR access to VEIX waits for the older Vetch instructions to complete. -/
  | veixAccess
  /-- YSERRINFO_CLEAR (R193): Writing 0 to VALID or MORE clears the late-store record and YLSE. -/
  | yserrinfoClear
  /-- PREDICTOR_FLUSH (R193): Writing FLUSH clears the predictor tables. -/
  | predictorFlush
  /-- INTERRUPT_TAKE (R173): A pending enabled YLSE, MEI or MTI is taken at the next boundary in priority order. -/
  | interruptTake
  /-- TIMER_COMPARE_MATCH (R194): The time value reaches (YTCMPHI, YTCMPLO), and MTI becomes pending. -/
  | timerCompareMatch
  /-- BCOPY (R184): Copies x12 bytes in ascending units, interruptible at unit boundaries. -/
  | bcopy (units : Option Nat)
  /-- BFILL (R185): Fills x12 bytes with the pattern of x11. -/
  | bfill (units : Option Nat)
  /-- BCRC (R186): Feeds the source bytes into the CRC in x13, and copies them when x10 ≠ 0. -/
  | bcrc (units : Option Nat)
  /-- DEBUG_HALT (R190): A halt request stops Yarrow at an instruction or unit boundary. -/
  | debugHalt
  /-- DEBUG_RESUME (R190): The debugger resumes the hart, or single-steps it. -/
  | debugResume
  /-- ABSTRACT_COMMAND (R190): A debug abstract register access or program-buffer execution. -/
  | abstractCommand (c : DbgCmd)
  /-- SYSTEM_BUS_ACCESS (R190): A debug system-bus access is made as CID 62. -/
  | systemBusAccess (write : Bool) (addr : Word) (sz : Fin 3) (value : Word)
  /-- VLE (R204): Unit-stride vector load from VEIX onward. -/
  | vle (ahead : Bool) (passes : Option Nat)
  /-- VLSE (R204): Strided vector load. -/
  | vlse (ahead : Bool) (passes : Option Nat)
  /-- VLXE (R204): Indexed vector load. -/
  | vlxe (ahead : Bool) (passes : Option Nat)
  /-- VLR (R204): Loads a whole register group, ignoring VL and the mask. -/
  | vlr (ahead : Bool) (passes : Option Nat)
  /-- VLK (R204): Loads a mask register. -/
  | vlk (ahead : Bool) (passes : Option Nat)
  /-- VSE (R204): Unit-stride vector store. -/
  | vse (passes : Option Nat)
  /-- VSSE (R204): Strided vector store. -/
  | vsse (passes : Option Nat)
  /-- VSXE (R204): Indexed vector store. -/
  | vsxe (passes : Option Nat)
  /-- VSR (R204): Stores a whole register group. -/
  | vsr (passes : Option Nat)
  /-- VSK (R204): Stores a mask register. -/
  | vsk (passes : Option Nat)
  /-- VKAND (R204): Mask AND. -/
  | vkand (ahead : Bool)
  /-- VKOR (R204): Mask OR. -/
  | vkor (ahead : Bool)
  /-- VKXOR (R204): Mask XOR. -/
  | vkxor (ahead : Bool)
  /-- VKANDN (R204): Mask AND-NOT. -/
  | vkandn (ahead : Bool)
  /-- VKNOT (R204): Mask NOT. -/
  | vknot (ahead : Bool)
  /-- VKPOPC (R204): Counts the set mask bits below VL into x[RD]. -/
  | vkpopc
  /-- VKFIRST (R204): Returns the index of the lowest set mask bit below VL, or −1. -/
  | vkfirst
  /-- VMVXS (R204): Moves bits 31:0 of a vector element to x[RD]. -/
  | vmvxs
  /-- VMVXSH (R204): Moves bits 63:32 of a 64-bit element to x[RD]. -/
  | vmvxsh
  /-- VSETVL (R206): Sets VTYPE and VL, or sets VILL on a reserved VTYPE word. -/
  | vsetvl
  /-- VGETCFG (R204): Returns VTYPE and VL in x[RD]. -/
  | vgetcfg
  /-- VFENCE (R204): Completes when every older Vetch instruction has completed. -/
  | vfence
  /-- VSIG (R204): Acts as VFENCE and then raises event 0xFC. -/
  | vsig
  /-- VADD (R207): Element-wise add modulo 2^SEW. -/
  | vadd (ahead : Bool)
  /-- VSUB (R207): Element-wise subtract modulo 2^SEW. -/
  | vsub (ahead : Bool)
  /-- VSADD (R207): Saturating signed add. -/
  | vsadd (ahead : Bool)
  /-- VSSUB (R207): Saturating signed subtract. -/
  | vssub (ahead : Bool)
  /-- VMIN (R207): Signed element minimum. -/
  | vmin (ahead : Bool)
  /-- VMAX (R207): Signed element maximum. -/
  | vmax (ahead : Bool)
  /-- VMINU (R207): Unsigned element minimum. -/
  | vminu (ahead : Bool)
  /-- VMAXU (R207): Unsigned element maximum. -/
  | vmaxu (ahead : Bool)
  /-- VAND (R207): Element-wise AND. -/
  | vand (ahead : Bool)
  /-- VOR (R207): Element-wise OR. -/
  | vor (ahead : Bool)
  /-- VXOR (R207): Element-wise XOR. -/
  | vxor (ahead : Bool)
  /-- VSLL (R207): Element-wise logical left shift. -/
  | vsll (ahead : Bool)
  /-- VSRL (R207): Element-wise logical right shift. -/
  | vsrl (ahead : Bool)
  /-- VSRA (R207): Element-wise arithmetic right shift. -/
  | vsra (ahead : Bool)
  /-- VMUL (R207): Low SEW bits of the element product. -/
  | vmul (ahead : Bool)
  /-- VMULH (R207): Signed high SEW bits of the element product. -/
  | vmulh (ahead : Bool)
  /-- VMACC (R207): VD[i] + a × b, modulo 2^SEW. -/
  | vmacc (ahead : Bool)
  /-- VMERGE (R207): Selects b or a for each element according to the mask. -/
  | vmerge (ahead : Bool)
  /-- VMV (R207): Moves b into VD. -/
  | vmv (ahead : Bool)
  /-- VSLIDEDN (R207): Slides the elements down by k. -/
  | vslidedn (ahead : Bool)
  /-- VSLIDEUP (R207): Slides the elements up by k. -/
  | vslideup (ahead : Bool)
  /-- VMSEQ (R207): Mask ← a = b. -/
  | vmseq (ahead : Bool)
  /-- VMSNE (R207): Mask ← a ≠ b. -/
  | vmsne (ahead : Bool)
  /-- VMSLT (R207): Mask ← a < b, signed. -/
  | vmslt (ahead : Bool)
  /-- VMSLTU (R207): Mask ← a < b, unsigned. -/
  | vmsltu (ahead : Bool)
  /-- VMSLE (R207): Mask ← a ≤ b, signed. -/
  | vmsle (ahead : Bool)
  /-- VMSLEU (R207): Mask ← a ≤ b, unsigned. -/
  | vmsleu (ahead : Bool)
  /-- VWMUL (R208): Widening signed multiply. -/
  | vwmul (ahead : Bool)
  /-- VWMULU (R208): Widening unsigned multiply. -/
  | vwmulu (ahead : Bool)
  /-- VWMULSU (R208): Widening signed-by-unsigned multiply. -/
  | vwmulsu (ahead : Bool)
  /-- VWMACC (R208): Widening signed multiply-accumulate. -/
  | vwmacc (ahead : Bool)
  /-- VWMACCU (R208): Widening unsigned multiply-accumulate. -/
  | vwmaccu (ahead : Bool)
  /-- VDOT4 (R209): Signed 4-way 8-bit dot product accumulated into 32-bit lanes. -/
  | vdot4 (ahead : Bool)
  /-- VDOT4U (R209): Unsigned 4-way 8-bit dot product accumulated into 32-bit lanes. -/
  | vdot4u (ahead : Bool)
  /-- VDOT2 (R209): Signed 2-way 16-bit dot product accumulated into 64-bit lanes. -/
  | vdot2 (ahead : Bool)
  /-- VFADD (R210): Floating-point element add. -/
  | vfadd (ahead : Bool)
  /-- VFSUB (R210): Floating-point element subtract. -/
  | vfsub (ahead : Bool)
  /-- VFMUL (R210): Floating-point element multiply. -/
  | vfmul (ahead : Bool)
  /-- VFMACC (R210): Fused floating-point multiply-accumulate. -/
  | vfmacc (ahead : Bool)
  /-- VFMIN (R210): Floating-point element minimum. -/
  | vfmin (ahead : Bool)
  /-- VFMAX (R210): Floating-point element maximum. -/
  | vfmax (ahead : Bool)
  /-- VFMSEQ (R210): Floating-point compare equal into a mask. -/
  | vfmseq (ahead : Bool)
  /-- VFMSLT (R210): Floating-point compare less-than into a mask. -/
  | vfmslt (ahead : Bool)
  /-- VFMSLE (R210): Floating-point compare less-or-equal into a mask. -/
  | vfmsle (ahead : Bool)
  /-- VFCVT_F_X (R210): Converts signed integer elements to floating point. -/
  | vfcvtFX (ahead : Bool)
  /-- VFCVT_X_F (R210): Converts floating-point elements to signed integers, saturating. -/
  | vfcvtXF (ahead : Bool)
  /-- VFWMUL (R210): binary16 × binary16 to binary32. -/
  | vfwmul (ahead : Bool)
  /-- VFWMACC (R210): Fused binary32 accumulate of binary16 products. -/
  | vfwmacc (ahead : Bool)
  /-- VREDSUM (R212): Integer sum reduction into VD[0]. -/
  | vredsum (ahead : Bool)
  /-- VREDMAX (R212): Signed maximum reduction. -/
  | vredmax (ahead : Bool)
  /-- VREDMIN (R212): Signed minimum reduction. -/
  | vredmin (ahead : Bool)
  /-- VREDMAXU (R212): Unsigned maximum reduction. -/
  | vredmaxu (ahead : Bool)
  /-- VFREDSUM (R213): Pairwise tree floating-point sum reduction. -/
  | vfredsum (ahead : Bool)
  /-- VFREDMAX (R212): Floating-point maximum reduction. -/
  | vfredmax (ahead : Bool)
  /-- VETCH_RUNAHEAD_COMMIT (R227): Yarrow retires a run-ahead Vetch instruction, whose pending write lands, whose fflags accrue and whose refusal is raised. -/
  | vetchRunaheadCommit
  /-- POWER_STATE_REQUEST (R239): A MEM_PWR write requests a bank power state, applied at the next service point or refused with PWRERR. -/
  | powerStateRequest (cid : Cid) (bank : Fin 68) (value : Word)
  /-- POWER_TRANSITION_DONE (R239): A bank finishes its power transition, CHANGING clears, and event 0x28 is raised on reaching ON. -/
  | powerTransitionDone (bank : Fin 68)
  /-- SECURE_WIPE (R243): A keyed MEM_SECCTL WIPE by CID 0 or 1 starts a secure-bank wipe. -/
  | secureWipe (cid : Cid) (value : Word)
  /-- WIPE_DONE (R244): The wipe's write and read-back finish, WIPING clears and WIPECNT increments, with event 0x25 or 0x26. -/
  | wipeDone (ok : Bool)
  /-- MARCH_START (R250): A START write begins a run-time march on one bank, or is refused with REFUSED. -/
  | marchStart (cid : Cid) (value : Word)
  /-- MARCH_ABORT (R250): ABORT ends a run at the next operation boundary, or after the current segment. -/
  | marchAbort (cid : Cid) (value : Word)
  /-- MARCH_SEGMENT (R246): One transparent segment, or a destructive run's element work, runs after the bank has served its waiting accesses. -/
  | marchSegment (flips : List (Nat × Nat × BitVec 39))
  /-- SCRUB_READ (R251): Every SCRUBDIV TB10 ticks the scrubber reads and checks the next word of an ON bank. -/
  | scrubRead
  /-- INJECTION_ARM (R252): ARM is set, so the next write that covers MEM_INJADDR stores corrupted bits and ARM clears. -/
  | injectionArm (cid : Cid) (value : Word)
  /-- SEM_TRY (R261): A TRY takes a free unit or returns BUSY, AGAIN or DENIED without waiting. -/
  | semTry (cid : Cid) (k : Fin 128)
  /-- SEM_TAKE (R262): A TAKE takes a unit or queues the CID as a waiter, returning INWAIT, CYCLE or NOSLOT as stated. -/
  | semTake (cid : Cid) (k : Fin 128)
  /-- SEM_GIVE (R263): A GIVE by a holder releases the unit or hands it off to the first waiter; otherwise it returns NOTOWNER. -/
  | semGive (cid : Cid) (k : Fin 128)
  /-- SEM_CANCEL (R264): CANCEL removes the writer's wait and queues CANCELLED, or reports NOWAIT. -/
  | semCancel (cid : Cid) (k : Fin 128)
  /-- SEM_RECLAIM (R264): CID 1 reclaims a CID, cancelling its wait and giving every semaphore it holds. -/
  | semReclaim (cid target : Cid)
  /-- SEM_GRANT_READ (R265): A read of SEM_GRANT removes and returns the oldest grant-queue entry. -/
  | semGrantRead (cid : Cid)
  /-- INHERITANCE_HOP (R267): A further hop of a priority-inheritance update is served as a service step at the next group. -/
  | inheritanceHop (group : Fin 8)
  /-- MAILBOX_POST (R274): A POST sets FULL and the message, or is refused with BUSY and sets OVR, and hands over a pool handle when HANDLE = 1. -/
  | mailboxPost (cid : Cid) (m : Fin 32) (data : BitVec 16) (handle : Bool)
  /-- MAILBOX_ACK (R276): The reader's ACK clears FULL and OVR, transfers any handle, and sets ACKPEND when ACKEV is 1. -/
  | mailboxAck (cid : Cid) (m : Fin 32)
  /-- ALLOC (R280): A read of POOL_ALLOC allocates the lowest free buffer while FREE is above 32, or returns EMPTY. -/
  | alloc (cid : Cid)
  /-- POOL_FREE (R281): Returns the whole chain to FREE, with the generations incremented. -/
  | poolFree (cid : Cid) (handle : BitVec 16)
  /-- POOL_GIVE (R281): Gives the whole chain to the target CID. -/
  | poolGive (cid : Cid) (handle : BitVec 16) (target : Cid)
  /-- POOL_LINK (R281): Links n to follow h, or removes h's link. -/
  | poolLink (cid : Cid) (handle next : BitVec 16)
  /-- POOL_RECLAIM (R283): CID 1 frees every buffer that a CID owns or has reserved. -/
  | poolReclaim (cid target : Cid)
  /-- LEDGER_FAIL (R286): A ledger is still out of balance 100 µs after a quiescent point, so MBX_LEDGER and INDEX are set and event 0x01 is raised. -/
  | ledgerFail (which index : Nat)
  /-- CARRIER_START (R293): GCTL.EN starts the group carrier at the next timebase tick, or at the next chain-locked target. -/
  | carrierStart (g : Fin 4)
  /-- CARRIER_ZERO_EVENT (R293): The group's carrier reaches its zero event; the chain-locked steering acts and the events are raised. -/
  | carrierZeroEvent (g : Fin 4)
  /-- CARRIER_PEAK_EVENT (R293): The group's carrier reaches its peak event. -/
  | carrierPeakEvent (g : Fin 4)
  /-- LOCAL_ZERO (R302): At a leg's local zero, the leg forms De, classifies the period, enters RUN from ARMING and schedules its edges. -/
  | localZero (l : Fin 16)
  /-- LOCAL_PEAK (R304): At a leg's local peak, Db is clamped and the falling edge is placed. -/
  | localPeak (l : Fin 16)
  /-- OUTPUT_EDGE (R301): A scheduled HS or LS edge is launched, with dead time and the MINPW guard applied. -/
  | outputEdge (l : Fin 16)
  /-- GCOMMIT (R307): A write to PWM_GCOMMIT commits the writer's legs and the group values. -/
  | gcommit (cid : Cid) (g : Fin 4) (value : Word)
  /-- ARM (R310): ARM moves an OFF leg to ARMING, or records ARMERR. -/
  | arm (cid : Cid) (l : Fin 16)
  /-- DISARM (R311): DISARM takes both outputs to high impedance and the leg to OFF. -/
  | disarm (cid : Cid) (l : Fin 16)
  /-- CLRFLT (R318): CLRFLT moves a FAULT leg to OFF if no routed input is active. -/
  | clrflt (cid : Cid) (l : Fin 16)
  /-- LEG_CFG_WRITE (R312): A write to PWM_LnCFG while the leg is OFF sets its policy and clears ACC, and otherwise is refused with BUSY. -/
  | legCfgWrite (cid : Cid) (l : Fin 16) (value : Word)
  /-- TRIGGER_COMPARE_FIRE (R313): TCk fires at POS, drives its ADC trigger input and may raise the TC event. -/
  | triggerCompareFire (g : Fin 4) (k : Fin 8)
  /-- FAULT_INPUT (R315): An active routed fault input takes the legs' outputs to high impedance and latches FAULT. -/
  | faultInput (i : Fin 8) (ns : Option Nat)
  /-- ADC_ENABLE (R328): Setting EN puts PTR at entry 0 and starts the timer, or sets CFGERR. -/
  | adcEnable (cid : Cid) (c : Fin 4) (value : Word)
  /-- ADC_DISABLE (R330): Clearing EN lets the conversion in progress land, and returns PTR to 0. -/
  | adcDisable (cid : Cid) (c : Fin 4) (value : Word)
  /-- ADC_TIMER_FIRE (R327): The converter's timer fires every PERIOD ticks of TB3. -/
  | adcTimerFire (c : Fin 4)
  /-- ADC_SOFT (R326): A write to ADC_cSOFT gives a SOFT trigger, or is ignored. -/
  | adcSoft (cid : Cid) (c : Fin 4) (value : Word)
  /-- SAMPLING_INSTANT (R326): The converter holds its input at the trigger or at readiness, stamps TB6 and starts converting. -/
  | samplingInstant (c : Fin 4) (v : Analog)
  /-- CONVERSION_END (R328): A conversion ends, the result port is written and PTR advances or the sequence ends. -/
  | conversionEnd (c : Fin 4)
  /-- RESULT_PORT_READ (R333): A Campion read of word 0 latches words 1 to 3 of that entry for that core. -/
  | resultPortRead (core : Fin 2) (c : Fin 4) (e : Fin 16)
  /-- RESA_READ (R333): A read of ADC_cRESAe latches RESB for fabric readers. -/
  | resaRead (cid : Cid) (c : Fin 4) (e : Fin 16)
  /-- COMPARATOR_TRIP (R334): The comparator input crosses the DAC threshold and it is tripped. -/
  | comparatorTrip (c : CmpEvent)
  /-- COMPARATOR_RELEASE (R334): The comparator input returns past the threshold with hysteresis and it releases. -/
  | comparatorRelease (c : CmpEvent)
  /-- BLANKING_WINDOW_CLOSE (R335): The blanking window closes, and CMPk becomes active if the comparator is still tripped. -/
  | blankingWindowClose (k : Fin 8)
  /-- TEMPERATURE_MEASUREMENT (R337): Every 1 ms the junction temperature is measured, with TJHI, TSHUT, thermal factor and COLD tamper effects. -/
  | temperatureMeasurement (t : Int)
  /-- SUPPLY_LOW (R338): A supply monitor's live flag rises, which sets its sticky copy and raises 0xBD. -/
  | supplyLow (i : Fin 3)
  /-- DRIVE (R352): Advances TC and posts a level to a pin's event queue. -/
  | drive (t : Fin 24)
  /-- SAMPLE (R352): Reads the pin level at tick TC into C and SI. -/
  | sample (t : Fin 24)
  /-- SHIFT (R352): Shifts a register logically into DST. -/
  | shift (t : Fin 24)
  /-- FETCH (R357): Takes the oldest out-FIFO word, or stalls the channel. -/
  | fetch (t : Fin 24)
  /-- DEPOSIT (R357): Pushes a register into the in FIFO, or stalls the channel. -/
  | deposit (t : Fin 24)
  /-- AWAIT (R353): Completes when its pin, edge, route or time condition is met, or on timeout. -/
  | awaitPin (t : Fin 24)
  /-- COUNT_ADD (R352): R ← R + IMM. -/
  | countAdd (t : Fin 24)
  /-- COUNT_LOAD (R352): R ← the sign-extended IMM. -/
  | countLoad (t : Fin 24)
  /-- COUNT_STAMP (R352): R ← TC. -/
  | countStamp (t : Fin 24)
  /-- COUNT_DELTA (R352): R ← TC − R. -/
  | countDelta (t : Fin 24)
  /-- BRANCH (R354): A Teasel conditional branch on flags, pins or FIFO state. -/
  | branchTsl (t : Fin 24)
  /-- SIGNAL_EVENT (R352): Raises event 0x60 + t. -/
  | signalEvent (t : Fin 24)
  /-- SIGNAL_TRY (R352): TRY of a semaphore, with C set from the result. -/
  | signalTry (t : Fin 24)
  /-- SIGNAL_GIVE (R352): GIVE of a semaphore. -/
  | signalGive (t : Fin 24)
  /-- SIGNAL_STOP (R352): Stops the channel with cause HALT, and optionally raises its event. -/
  | signalStop (t : Fin 24)
  /-- PIN_EVENT_FIRE (R348): A queued pin event fires on its TB9 tick. -/
  | pinEventFire (n : Fin 32)
  /-- CHANNEL_START (R359): RUN = 1 starts a channel with TC = TB9 + LEAD, or sets STARTERR. -/
  | channelStart (cid : Cid) (t : Fin 24)
  /-- CHANNEL_STOP_WRITE (R360): RUN = 0 stops the channel after its current step and empties its pin queues. -/
  | channelStopWrite (cid : Cid) (t : Fin 24)
  /-- FIFO_OUT_WRITE (R356): A write to OUT pushes a word, decrements OUTST, or is refused with BUSY. -/
  | fifoOutWrite (cid : Cid) (t : Fin 24) (value : Word)
  /-- FIFO_IN_READ (R356): A read of IN pops a word, decrements OUTST, or is refused with BUSY. -/
  | fifoInRead (cid : Cid) (t : Fin 24)
  /-- UART_DATA_WRITE (R365): Pushes a byte into the transmit FIFO, or is refused with BUSY. -/
  | uartDataWrite (cid : Cid) (u : Fin 2) (value : Word)
  /-- UART_DATA_READ (R365): Pops a received byte with its error bits, or returns VALID = 0. -/
  | uartDataRead (cid : Cid) (u : Fin 2)
  /-- UART_FRAME_RECEIVED (R364): A received frame is filtered, stored or discarded with OVR, and errors are flagged. Operands: samples 7, 8
  and 9 of the bits after the start bit (R362), and the stop bit. -/
  | uartFrameReceived (u : Fin 2) (s7 s8 s9 : BitVec 9) (stop : Bool)
  /-- UART_FRAME_SENT (R363): A transmitted frame completes, and DE is released after DETAIL when the FIFO is empty. -/
  | uartFrameSent (u : Fin 2)
  /-- I2C_START (R368): Sends START or repeated START and the address byte. -/
  | i2cStart (ack : Bool)
  /-- I2C_WRITE (R368): Writes a byte, and handles a NACK from the target. -/
  | i2cWrite (ack : Bool)
  /-- I2C_READ (R368): Reads a byte into SER_IRX and sends ACK or NACK. -/
  | i2cRead (data : Byte)
  /-- I2C_STOP (R368): Sends STOP. -/
  | i2cStop
  /-- ARBITRATION_LOST (R368): Arbitration loss sets ARBLOST, flushes the FIFO and releases the bus. -/
  | arbitrationLost
  /-- I2C_TARGET_ACCESS (R369): An access to TADDR is acknowledged, with SCL stretched until ITDATA is ready. -/
  | i2cTargetAccess (a : I2cAccess)
  /-- HOST_SPI_TRANSACTION (R426): One SPI transaction carries at most one host frame in each direction. -/
  | hostSpiTransaction (mode3 : Bool) (tx : Option (Nat × List Byte)) (rx : Bool)
  /-- HOST_ABORT (R370): nSS rises mid-byte, which sets ABORT, discards the frame and raises 0x7F. -/
  | hostAbort
  /-- RECEIVER_LOCK (R378): Four consecutive valid idle symbols give lock, detect polarity and restart the credit counters. -/
  | receiverLock (p : Fin 2) (inverted : Bool) (rate : Fin 3)
  /-- LOSS_OF_CHAIN_LOCK (R378): Three cells without a mid-cell transition, or a code error outside a frame, lose lock. -/
  | lossOfChainLock (p : Fin 2) (codeErr : Bool)
  /-- LINK_DOWN (R398): The link goes down after 2 µs without lock, on ERRLIM, or on address loss, with REACH, report and orphan handling. -/
  | linkDown (p : Fin 2)
  /-- ERROR_COUNT_INTERVAL (R378): A 1 ms ERRLIM counting interval ends. -/
  | errorCountInterval (p : Fin 2)
  /-- ERRLIM_HOLDOFF_END (R378): The 100 µs ignore period after an ERRLIM link-down ends. -/
  | errlimHoldoffEnd (p : Fin 2)
  /-- IDLE_SYMBOL (R376): A valid idle symbol is received and its credit counts applied. -/
  | idleSymbol (p : Fin 2) (bytes : List Byte) (chk : Byte)
  /-- FRAME_RECEIVE (R382): A frame's EOF arrives, and the frame is checked and then acted on or discarded and counted. -/
  | frameReceive (p : Fin 2) (cls : Fin 4) (bytes : List Byte) (codeErr eofp : Bool) (residence : Nat)
  /-- CUT_THROUGH_FORWARD (R384): After the SOF and destination arrive, the forwarder starts the outgoing frame or holds it in its slot. -/
  | cutThroughForward (p : Fin 2) (cls : Fin 4) (dst : BitVec 7)
  /-- TRANSMIT_NEXT_FRAME (R388): A free transmitter picks its next eligible frame by class order, or sends an idle symbol. -/
  | transmitNextFrame (p : Fin 2) (residence : Nat)
  /-- HELLO (R391): A received HELLO updates the neighbour status and may trigger an ASSIGN or a link-down. -/
  | hello (port : Fin 3)
  /-- ASSIGN (R393): A received ASSIGN on UP takes the address, quarantines the unit, closes the ring or resolves a head conflict. -/
  | assign (port : Fin 3)
  /-- ENUMRPT (R392): The head receives an enumeration report, and LAST completes the enumeration with ROUTE and VERSION. -/
  | enumrpt (port : Fin 3)
  /-- ROUTE (R383): A ROUTE frame sets UPMAP and LIVE, and FLAG = 1 clears ORPHAN. -/
  | route (port : Fin 3)
  /-- LINKRPT (R395): The head receives a link report and updates the routes. -/
  | linkrpt (port : Fin 3)
  /-- ORPHAN (R398): A received ORPHAN sets LIVE and the ORPHAN state. -/
  | orphan (port : Fin 3)
  /-- VERSION (R402): A received VERSION records the head's protocol and sets or clears quarantine. -/
  | version (port : Fin 3)
  /-- RATECHG (R377): The neighbour announces a rate change, and the loss of lock is tolerated for 20 µs. -/
  | ratechg (port : Fin 3)
  /-- IDENT (R390): An IDENT is answered with IDENTRSP carrying the identity page. -/
  | ident (port : Fin 3)
  /-- IDENTRSP (R390): An identity response is delivered to the requester. -/
  | identrsp (port : Fin 3)
  /-- RESET (R391): A keyed MGMT RESET from address 1 on the head port causes SOFT. -/
  | resetMgmt (port : Fin 3)
  /-- REJOIN (R400): A REJOIN with a new NONCE reclaims, ends requests and filters entries for the reset unit. -/
  | rejoin (port : Fin 3)
  /-- REJOIN_SEND (R400): A reset unit with an address and its head link up broadcasts REJOIN, three times 100 µs apart. -/
  | rejoinSend
  /-- ENUMERATION_START (R392): The head's DOWN link comes up or REENUM is written, so a new TOKEN is drawn and ASSIGN(2) is sent. -/
  | enumerationStart
  /-- ENDWAIT_EXPIRY (R392): The DOWN link has not come up within ENDWAIT, so the unit reports LAST. -/
  | endwaitExpiry
  /-- UNIT_LOST (R399): An address stays out of REACH for LOSTDLY, so CHN_LOST is set, 0xD6 is raised, and reclaim and request endings follow. -/
  | unitLost (a : BitVec 7)
  /-- REMOTE_REQUEST_ISSUE (R410): A local access to region 32 or 33 is checked and sent as a chain request, or refused with REMOTE. -/
  | remoteRequestIssue (cid : Cid) (write : Bool) (addr : Word) (sz : Fin 4) (value : DWord)
  /-- POST_STAGE_STORE (R409): A store to a remote mailbox payload word is recorded in the CID's post stage. -/
  | postStageStore (cid : Cid) (unit : Fin 64) (m : Fin 32) (w : Fin 3) (value : Word)
  /-- RD (R413): The target serves a remote read at port B and answers RDRSP or ERR. -/
  | rd (port : Fin 3)
  /-- WR (R413): The target serves a remote write at port B and answers ACK or ERR. -/
  | wr (port : Fin 3)
  /-- SEMOP (R413): The target performs a remote semaphore operation, or answers it again from the duplicate filter. -/
  | semop (port : Fin 3)
  /-- MBXPOST (R413): The target performs a remote mailbox post as one operation. -/
  | mbxpost (port : Fin 3)
  /-- BWR (R413): A broadcast write is performed as CID 60, with no response. -/
  | bwr (port : Fin 3)
  /-- RDRSP (R411): Read data reaches the requester and completes the load, or is discarded as STALE. -/
  | rdrsp (port : Fin 3)
  /-- ACK (R411): An acknowledgement completes a write, post or message. -/
  | ack (port : Fin 3)
  /-- SEMRSP (R411): A semaphore result returns to the requester's grant queue or load. -/
  | semrsp (port : Fin 3)
  /-- ERR (R415): An error response refuses the local access with REMOTE and records the code. -/
  | errRsp (port : Fin 3)
  /-- RESPONSE_TIMEOUT (R412): RSPTO expires, and the request is retried or refused with TIMEOUT. -/
  | responseTimeout (i : Fin 32) (host : Option Byte)
  /-- SEMEVT (R418): A remote wait outcome enters the grant queue and is answered with SEMACK. -/
  | semevt (port : Fin 3)
  /-- SEMACK (R418): The owner receives the acknowledgement of a SEMEVT. -/
  | semack (port : Fin 3)
  /-- SEMEVT_TIMEOUT (R418): An unacknowledged SEMEVT is resent, or the owner gives the semaphore on the waiter's behalf with ORPHAN. -/
  | semevtTimeout (dst : BitVec 7) (tag : Byte)
  /-- PINOTE (R419): An inheritance notice updates a contribution or a waiter, and may be passed on. -/
  | pinote (port : Fin 3)
  /-- MSGSEND (R420): A write to CHN_MSGSEND places a chain in TRANSIT and starts sending the message. -/
  | msgsend (cid : Cid) (value : Word)
  /-- MSTART (R420): A message start is held in its slot until enough buffers are free. -/
  | mstart (port : Fin 3)
  /-- MESSAGE_ALLOCATE (R420): FREE reaches 32 + NBUF, and the receiver allocates the message buffers. -/
  | messageAllocate (port : Fin 3)
  /-- MDATA (R420): Message data is copied into the next buffer, and the last MDATA posts the message. -/
  | mdata (port : Fin 3)
  /-- MSGTO_EXPIRY (R420): A message step does not complete within MSGTO, so the buffers are freed and ERR is sent. -/
  | msgtoExpiry (held : Option (Fin 3)) (src : BitVec 7) (tag : Byte)
  /-- MSGRES_READ (R433): A read of CHN_MSGRES removes and returns the oldest message result. -/
  | msgresRead (cid : Cid)
  /-- RELAYREQ (R421): A relay request is taken by a relay source, or forwarded upstream. -/
  | relayreq (port : Fin 3)
  /-- RELAYREF (R74): A relay refusal is delivered to relay units. -/
  | relayref (port : Fin 3)
  /-- RELAYSTART (R422): A round starts, and waiting relay units join it. -/
  | relaystart (port : Fin 3)
  /-- RELAYMARK (R422): Sets the BASE of the next 16 KiB of the image. -/
  | relaymark (port : Fin 3)
  /-- RELAYDATA (R422): Delivers 64 bytes of the image at BASE + 64 × TAG. -/
  | relaydata (port : Fin 3)
  /-- RELAYEND (R72): Ends a round, and the relay unit checks the image as a slot and completes its boot. -/
  | relayend (port : Fin 3)
  /-- MOPEN (R424): Opens or renews a maintenance session. -/
  | mopen (port : Fin 3)
  /-- MREAD (R424): Reads flash bytes for the session. -/
  | mread (port : Fin 3)
  /-- MERASE (R424): Erases a flash sector or block. -/
  | merase (port : Fin 3)
  /-- MPROG (R424): Programs flash bytes within one page. -/
  | mprog (port : Fin 3)
  /-- MCLOSE (R423): Closes the session and may set TRYB and cause SOFT. -/
  | mclose (port : Fin 3)
  /-- FLASH_OPERATION_DONE (R424): The flash poll ends or times out, and MRSP is sent. -/
  | flashOperationDone (ok : Bool)
  /-- MAINTENANCE_TIMEOUT (R423): MAINTTO passes with no maintenance frame, and the session closes. -/
  | maintenanceTimeout
  /-- SYNC_SEND (R427): Every SYNCPER the head sends SYNC stamped with ORIGIN. -/
  | syncSend
  /-- SYNC_RECEIVE (R430): An accepted SYNC computes θ, steps or slews TB6, updates DISC and is forwarded with CORR. -/
  | syncReceive (port : Fin 3) (tb16 : Nat)
  /-- SYNC_LOST (R430): SYNCLOST periods pass without an accepted SYNC, so DISC clears. -/
  | syncLost
  /-- PDREQ_SEND (R429): Every 2^PDINT SYNC periods, the unit sends PDREQ on its head port. -/
  | pdreqSend
  /-- PDREQ (R429): The neighbour stamps t2 and answers PDRSP with t2 and t3. -/
  | pdreq (port : Fin 3)
  /-- PDRSP (R429): The unit stamps t4 and updates LINKDLY. -/
  | pdrsp (port : Fin 3)
  /-- TIME_SET (R427): CID 1 of the head writes CHN_TSETHI and then CHN_TSETLO, which sets TB6 at once. -/
  | timeSet (cid : Cid) (hi lo : Word)
  /-- VCORE_REACHED (R437): The regulator's slew reaches the governor's target, and EMERG ends at VMAX. -/
  | vcoreReached
  /-- POLICY_CLEAR (R441): CLR by CID 1 clears the latched triggers that are no longer active. -/
  | policyClear (cid : Cid) (value : Word)
  /-- RAMP_BACKSTOP_EXPIRY (R442): The RAMPMAX count reaches 0 with a leg still armed, so ACTION becomes STOP and 0x06 is raised. -/
  | rampBackstopExpiry
  /-- DEVELOP (R462): Life-cycle command DEVELOP from BLANK. -/
  | develop (cid : Cid) (key : BitVec 16)
  /-- SEAL (R462): Life-cycle command SEAL from DEVELOP. -/
  | seal (cid : Cid) (key : BitVec 16)
  /-- RETURN (R462): Life-cycle command RETURN from SEALED. -/
  | returnLc (cid : Cid) (key : BitVec 16)
  /-- SPEND (R462): Life-cycle command SPEND. -/
  | spend (cid : Cid) (key : BitVec 16)
  /-- KEYPROG (R462): Blows a key digest and its programmed bit. -/
  | keyprog (cid : Cid) (slot : Fin 4) (key : BitVec 16)
  /-- REVOKE (R462): Blows a key slot's revoke bit. -/
  | revoke (cid : Cid) (slot : Fin 4) (key : BitVec 16)
  /-- TAMPER_DETECT (R467): An enabled tamper source is detected and answered by its action, from LOG to KILL. -/
  | tamperDetect (source : Fin 6)
  /-- FUSE_REREAD (R467): Every second the fuses are re-read, and a difference is a FUSE tamper. -/
  | fuseReread (same : Bool)
  /-- TAMPCFG_WRITE (R469): A write to LCS_TAMPCFG, limited once LOCK is 1 to setting TEN and raising TACT. -/
  | tampcfgWrite (cid : Cid) (value : Word)
  /-- WATCHDOG_ENABLE (R472): Setting EN starts the watchdog count, or sets CFGERR for an invalid window. -/
  | watchdogEnable (cid : Cid) (n : Fin 2) (value : Word)
  /-- WATCHDOG_KICK (R470): A kick restarts the count if it is good, and otherwise records a violation. -/
  | watchdogKick (cid : Cid) (n : Fin 2) (key : BitVec 16)
  /-- WATCHDOG_LATE (R471): COUNT reaches WINHI with no good kick, so a LATE violation is recorded. -/
  | watchdogLate (n : Fin 2)
  /-- WATCHDOG_RESET (R471): 1 ms after a violation the WDR takes place. -/
  | watchdogReset
  /-- CLKMON_FAULT (R475): TB10 departs from 16 MHz or stops, measured against TB0, and CLKMON becomes active. -/
  | clkmonFault
  /-- FAULT_SET (R475): A write of LCS_FSET pulses fault source FWSET. -/
  | faultSet (cid : Cid) (value : Word)
  /-- FAULT_CLEAR (R477): A keyed LCS_FCLR clears the inactive sticky bits and clears SAFE when allowed. -/
  | faultClear (cid : Cid) (key : BitVec 16)
  /-- PIN_SWITCH_REQUEST (R490): A write to PIN_SWREQ starts a function switch, or is refused with an ERR code. -/
  | pinSwitchRequest (cid : Cid) (value : Word)
  /-- PIN_SWITCH_TAKE (R491): After the SAFELVL hold, the new function takes the pad and DONE is set. -/
  | pinSwitchTake
  /-- GPIO_SET (R492): A write to PIN_GPSET sets OUT bits. -/
  | gpioSet (cid : Cid) (k : Fin 4) (value : Word)
  /-- GPIO_CLEAR (R492): A write to PIN_GPCLR clears OUT bits. -/
  | gpioClear (cid : Cid) (k : Fin 4) (value : Word)
  /-- SUPPLY_LIVE_FLAG_CLEAR (R338): A supply returns above its monitor threshold and its live flag in ADC_SUPSTAT.LIVE falls, so fault source SUPPLY becomes inactive. -/
  | supplyLiveFlagClear (i : Fin 3)
  /-- CLKMON_RETURN (R475): TB10 comes back within ±8 % of 16 MHz against TB0, and fault source CLKMON becomes inactive. -/
  | clkmonReturn
  /-- FAULT_INPUT_INACTIVE (R318): A fault pin FLT0–FLT7 returns to its inactive level after polarity, so PWM_FLTSTAT.LIVE drops and CLRFLT and ARM may succeed. -/
  | faultInputInactive (i : Fin 8)
  /-- TEASEL_PIN_EDGE (R350): A Teasel pin changes level, is captured at a TB9 tick and enters the pin's two-entry edge record with its stamp, possibly pushing out an edge a waiting channel needed. -/
  | teaselPinEdge (n : Fin 32) (level : Bool)
  /-- TAMPER_CONDITION_END (R467): A tamper source's condition ends, such as nTAMP returning to its inactive level or VCORE back inside 0.50–1.20 V, and its LCS_TAMPSTAT.LIVE bit clears. -/
  | tamperConditionEnd (source : Fin 6)
deriving DecidableEq, Repr

end Sys2Proof
end

