-- ==== Sys2Proof/Machine/Crc.lean ====
section
/-!
DEFINITION. CRC-32C with the parameters of R381 (R186, R246).
-/
namespace Sys2Proof.Machine

/-- One bit step of the reflected CRC-32C register (polynomial 0x1EDC_6F41 reflected). -/
def crcBit (c : Word) : Word :=
  if c.getLsbD 0 then (c >>> 1) ^^^ 0x82F63B78#32 else c >>> 1

/-- One byte into the CRC register. -/
def crcByte (c : Word) (b : Byte) : Word :=
  (List.range 8).foldl (fun c _ => crcBit c) (c ^^^ b.setWidth 32)

/-- The CRC register after a list of bytes. -/
def crcBytes (c : Word) (bs : List Byte) : Word := bs.foldl crcByte c

/-- CRC-32C of a message: initial value and final XOR all ones. -/
def crc32c (bs : List Byte) : Word := crcBytes 0xFFFFFFFF#32 bs ^^^ 0xFFFFFFFF#32

/-- The low `n` bytes of a number, least significant first. -/
def leBytes (n v : Nat) : List Byte := (List.range n).map (fun i => BitVec.ofNat 8 (v / 256 ^ i))

/-- The number whose bytes, least significant first, are `bs`. -/
def ofLeBytes : List Byte → Nat
  | [] => 0
  | b :: bs => b.toNat + 256 * ofLeBytes bs

end Sys2Proof.Machine
end

