-- ==== Sys2Proof/Machine/RegMap.lean ====
section
/-!
DEFINITION. The memory-mapped registers of the manual's register tables: address, reset word, and every field
(R37 to R39, R77, R94, R100, R103, R138, R253, R270, R277, R284, R319, R341 to R343, R361, R371, R404, R433, R456,
R480, R492). An index is the manual's: block, group, channel, leg, entry, in the order of the address expression.
-/
namespace Sys2Proof.Machine

/-- What the access masks of region `r` read as before CIDCFG (R91, R94): the forced bits; `kind` 0 read mask low,
1 read mask high, 2 write mask low, 3 write mask high. -/
def accRst (kind r : Nat) : Word :=
  let cid1 : Nat := if r = 12 ∨ r = 34 ∨ (kind = 0 ∧ r = 33) ∨ (kind = 2 ∧ r = 0) then 0 else 2
  let cid25 : Nat := if r = 3 then 0x2000000 else 0
  if kind = 0 ∨ kind = 2 then BitVec.ofNat 32 (cid1 + cid25) else 0#32

/-- The default POLICY image, word `i` (R453). -/
def polImgRst (i : Nat) : Word :=
  ([0x00000001, 0x041A0258, 0x0A190384, 0x00000305, 0x73330301, 0x02000200, 0x07D00F03, 0x00000008,
    0x021C01E0, 0x00004000, 0x00000000, 0x7B8003E8, 0x0000FFFF] : List Word).getD i 0#32

/-- TB_REFCTL (R37). -/
def R.TB_REFCTL : Reg := ⟨0x50001000, 0x3E800006#32⟩
def F.TB_REFCTL_REFSEL : Fld := ⟨R.TB_REFCTL, 0, 2⟩
def F.TB_REFCTL_AUTORET : Fld := ⟨R.TB_REFCTL, 2, 1⟩
def F.TB_REFCTL_XTALHI : Fld := ⟨R.TB_REFCTL, 3, 1⟩
def F.TB_REFCTL_REFSYNC : Fld := ⟨R.TB_REFCTL, 4, 2⟩
def F.TB_REFCTL_TRIMOK : Fld := ⟨R.TB_REFCTL, 6, 1⟩
def F.TB_REFCTL_REFKHZ : Fld := ⟨R.TB_REFCTL, 16, 16⟩

/-- TB_REFSTAT (R38). -/
def R.TB_REFSTAT : Reg := ⟨0x50001004, 0xE#32⟩
def F.TB_REFSTAT_CURSRC : Fld := ⟨R.TB_REFSTAT, 0, 2⟩
def F.TB_REFSTAT_BAND : Fld := ⟨R.TB_REFSTAT, 2, 2⟩
def F.TB_REFSTAT_CHAINOK : Fld := ⟨R.TB_REFSTAT, 4, 1⟩
def F.TB_REFSTAT_FINE : Fld := ⟨R.TB_REFSTAT, 5, 1⟩
def F.TB_REFSTAT_HOLD : Fld := ⟨R.TB_REFSTAT, 6, 1⟩
def F.TB_REFSTAT_TRIM : Fld := ⟨R.TB_REFSTAT, 7, 1⟩
def F.TB_REFSTAT_RETWAIT : Fld := ⟨R.TB_REFSTAT, 8, 1⟩
def F.TB_REFSTAT_RETCNT : Fld := ⟨R.TB_REFSTAT, 16, 10⟩

/-- TB_BANDS (R38). -/
def R.TB_BANDS : Reg := ⟨0x5000100c, 0x326419#32⟩
def F.TB_BANDS_DRIFTLIM : Fld := ⟨R.TB_BANDS, 0, 8⟩
def F.TB_BANDS_LOSTLIM : Fld := ⟨R.TB_BANDS, 8, 8⟩
def F.TB_BANDS_RETDLY : Fld := ⟨R.TB_BANDS, 16, 8⟩

/-- TB_RCRATIO (R39). -/
def R.TB_RCRATIO : Reg := ⟨0x50001010, 0x1000000#32⟩
def F.TB_RCRATIO : Fld := ⟨R.TB_RCRATIO, 0, 32⟩

/-- TB_LOCK (R39). -/
def R.TB_LOCK : Reg := ⟨0x50001014, 0x400#32⟩
def F.TB_LOCK : Fld := ⟨R.TB_LOCK, 0, 14⟩

/-- TB_LOCKLOSS (R39). -/
def R.TB_LOCKLOSS : Reg := ⟨0x50001018, 0x0#32⟩
def F.TB_LOCKLOSS : Fld := ⟨R.TB_LOCKLOSS, 0, 14⟩

/-- TB_EVT (R39). -/
def R.TB_EVT : Reg := ⟨0x5000101c, 0x0#32⟩
def F.TB_EVT : Fld := ⟨R.TB_EVT, 0, 9⟩

/-- TB_EVTEN (R39). -/
def R.TB_EVTEN : Reg := ⟨0x50001020, 0x0#32⟩
def F.TB_EVTEN : Fld := ⟨R.TB_EVTEN, 0, 9⟩

/-- TB_DLSTAT (R39). -/
def R.TB_DLSTAT : Reg := ⟨0x50001024, 0x1F00#32⟩
def F.TB_DLSTAT_FINE : Fld := ⟨R.TB_DLSTAT, 0, 5⟩
def F.TB_DLSTAT_SPAREOK : Fld := ⟨R.TB_DLSTAT, 8, 5⟩

/-- TB_LOSTCNT (R39). -/
def R.TB_LOSTCNT : Reg := ⟨0x50001028, 0x0#32⟩
def F.TB_LOSTCNT_LOST : Fld := ⟨R.TB_LOSTCNT, 0, 16⟩
def F.TB_LOSTCNT_DRIFT : Fld := ⟨R.TB_LOSTCNT, 16, 16⟩

/-- TB_TIMELO (R39). -/
def R.TB_TIMELO : Reg := ⟨0x50001030, 0x0#32⟩
def F.TB_TIMELO : Fld := ⟨R.TB_TIMELO, 0, 32⟩

/-- TB_TIMEHI (R39). -/
def R.TB_TIMEHI : Reg := ⟨0x50001034, 0x0#32⟩
def F.TB_TIMEHI : Fld := ⟨R.TB_TIMEHI, 0, 32⟩

/-- SYS_RSTCAUSE (R77). -/
def R.SYS_RSTCAUSE : Reg := ⟨0x50000040, 0x0#32⟩
def F.SYS_RSTCAUSE_LAST : Fld := ⟨R.SYS_RSTCAUSE, 0, 5⟩
def F.SYS_RSTCAUSE_HIST : Fld := ⟨R.SYS_RSTCAUSE, 8, 5⟩

/-- SYS_STRAP (R77). -/
def R.SYS_STRAP : Reg := ⟨0x50000044, 0x0#32⟩
def F.SYS_STRAP_HEAD : Fld := ⟨R.SYS_STRAP, 0, 1⟩
def F.SYS_STRAP_BOOTSRC : Fld := ⟨R.SYS_STRAP, 1, 1⟩
def F.SYS_STRAP_PSEL : Fld := ⟨R.SYS_STRAP, 2, 3⟩

/-- SYS_BOOTSTAT (R77). -/
def R.SYS_BOOTSTAT : Reg := ⟨0x50000048, 0x0#32⟩
def F.SYS_BOOTSTAT_STATE : Fld := ⟨R.SYS_BOOTSTAT, 0, 4⟩
def F.SYS_BOOTSTAT_SLOT : Fld := ⟨R.SYS_BOOTSTAT, 4, 1⟩
def F.SYS_BOOTSTAT_RELAY : Fld := ⟨R.SYS_BOOTSTAT, 5, 1⟩
def F.SYS_BOOTSTAT_PERS : Fld := ⟨R.SYS_BOOTSTAT, 8, 3⟩
def F.SYS_BOOTSTAT_ERRA : Fld := ⟨R.SYS_BOOTSTAT, 16, 5⟩
def F.SYS_BOOTSTAT_ERRB : Fld := ⟨R.SYS_BOOTSTAT, 24, 5⟩

/-- SYS_IMAGEID (R77). -/
def R.SYS_IMAGEID : Reg := ⟨0x5000004c, 0x0#32⟩
def F.SYS_IMAGEID_IMAGEID : Fld := ⟨R.SYS_IMAGEID, 0, 32⟩

/-- SYS_VERS (R77). -/
def R.SYS_VERS : Reg := ⟨0x50000050, 0x0#32⟩
def F.SYS_VERS_EPOCH : Fld := ⟨R.SYS_VERS, 0, 16⟩
def F.SYS_VERS_IMGROLL : Fld := ⟨R.SYS_VERS, 16, 6⟩
def F.SYS_VERS_FUSEROLL : Fld := ⟨R.SYS_VERS, 24, 6⟩

/-- SYS_SOFTRST (R77). -/
def R.SYS_SOFTRST : Reg := ⟨0x50000054, 0x0#32⟩
def F.SYS_SOFTRST_KEY : Fld := ⟨R.SYS_SOFTRST, 0, 16⟩

/-- SYS_BOOTCTL (R77). -/
def R.SYS_BOOTCTL : Reg := ⟨0x50000058, 0x0#32⟩
def F.SYS_BOOTCTL_TRYB : Fld := ⟨R.SYS_BOOTCTL, 0, 1⟩
def F.SYS_BOOTCTL_CONFIRM : Fld := ⟨R.SYS_BOOTCTL, 1, 1⟩
def F.SYS_BOOTCTL_FUSEBUSY : Fld := ⟨R.SYS_BOOTCTL, 8, 1⟩
def F.SYS_BOOTCTL_FUSEERR : Fld := ⟨R.SYS_BOOTCTL, 9, 1⟩
def F.SYS_BOOTCTL_KEYERR : Fld := ⟨R.SYS_BOOTCTL, 10, 1⟩

/-- SYS_BOOTTIME (R77). -/
def R.SYS_BOOTTIME : Reg := ⟨0x5000005c, 0x0#32⟩
def F.SYS_BOOTTIME_TICKS : Fld := ⟨R.SYS_BOOTTIME, 0, 32⟩

/-- SYS_BERRCNT (R94). -/
def R.SYS_BERRCNT : Reg := ⟨0x50000080, 0x0#32⟩
def F.SYS_BERRCNT_COUNT : Fld := ⟨R.SYS_BERRCNT, 0, 16⟩

/-- SYS_BERRHEAD (R94). -/
def R.SYS_BERRHEAD : Reg := ⟨0x50000084, 0x0#32⟩
def F.SYS_BERRHEAD_NEXT : Fld := ⟨R.SYS_BERRHEAD, 0, 3⟩

/-- SYS_COLLCNT (R94). -/
def R.SYS_COLLCNT : Reg := ⟨0x50000088, 0x0#32⟩
def F.SYS_COLLCNT_COUNT : Fld := ⟨R.SYS_COLLCNT, 0, 16⟩

/-- SYS_COLLADDR (R94). -/
def R.SYS_COLLADDR : Reg := ⟨0x5000008c, 0x0#32⟩
def F.SYS_COLLADDR_ADDR : Fld := ⟨R.SYS_COLLADDR, 0, 32⟩

/-- SYS_BERRADDR (R94). -/
def R.SYS_BERRADDR (i : Nat) : Reg := ⟨0x500000a0 + 8 * i, 0x0#32⟩
def F.SYS_BERRADDR_ADDR (i : Nat) : Fld := ⟨R.SYS_BERRADDR i, 0, 32⟩

/-- SYS_BERRINFO (R94). -/
def R.SYS_BERRINFO (i : Nat) : Reg := ⟨0x500000a4 + 8 * i, 0x0#32⟩
def F.SYS_BERRINFO_CID (i : Nat) : Fld := ⟨R.SYS_BERRINFO i, 0, 6⟩
def F.SYS_BERRINFO_ORIGIN (i : Nat) : Fld := ⟨R.SYS_BERRINFO i, 6, 7⟩
def F.SYS_BERRINFO_WRITE (i : Nat) : Fld := ⟨R.SYS_BERRINFO i, 13, 1⟩
def F.SYS_BERRINFO_FETCH (i : Nat) : Fld := ⟨R.SYS_BERRINFO i, 14, 1⟩
def F.SYS_BERRINFO_CAUSE (i : Nat) : Fld := ⟨R.SYS_BERRINFO i, 16, 4⟩
def F.SYS_BERRINFO_VALID (i : Nat) : Fld := ⟨R.SYS_BERRINFO i, 31, 1⟩

/-- SYS_CIDPRI (R94). -/
def R.SYS_CIDPRI (i : Nat) : Reg := ⟨0x50000100 + 4 * i, 0x0#32⟩
def F.SYS_CIDPRI_PRI (i : Nat) : Fld := ⟨R.SYS_CIDPRI i, 0, 32⟩

/-- SYS_CIDEN (R94). -/
def R.SYS_CIDEN (i : Nat) : Reg := ⟨0x50000120 + 4 * i, 0x0#32⟩
def F.SYS_CIDEN_EN (i : Nat) : Fld := ⟨R.SYS_CIDEN i, 0, 32⟩

/-- SYS_ACCRLO (R94). -/
def R.SYS_ACCRLO (i : Nat) : Reg := ⟨0x50000400 + 16 * i, accRst 0 i⟩
def F.SYS_ACCRLO_MASK (i : Nat) : Fld := ⟨R.SYS_ACCRLO i, 0, 32⟩

/-- SYS_ACCRHI (R94). -/
def R.SYS_ACCRHI (i : Nat) : Reg := ⟨0x50000404 + 16 * i, accRst 1 i⟩
def F.SYS_ACCRHI_MASK (i : Nat) : Fld := ⟨R.SYS_ACCRHI i, 0, 32⟩

/-- SYS_ACCWLO (R94). -/
def R.SYS_ACCWLO (i : Nat) : Reg := ⟨0x50000408 + 16 * i, accRst 2 i⟩
def F.SYS_ACCWLO_MASK (i : Nat) : Fld := ⟨R.SYS_ACCWLO i, 0, 32⟩

/-- SYS_ACCWHI (R94). -/
def R.SYS_ACCWHI (i : Nat) : Reg := ⟨0x5000040c + 16 * i, accRst 3 i⟩
def F.SYS_ACCWHI_MASK (i : Nat) : Fld := ⟨R.SYS_ACCWHI i, 0, 32⟩

/-- EVR_ROUTE (R100). -/
def R.EVR_ROUTE (i : Nat) : Reg := ⟨0x50002000 + 4 * i, 0x0#32⟩
def F.EVR_ROUTE_SRC (i : Nat) : Fld := ⟨R.EVR_ROUTE i, 0, 8⟩
def F.EVR_ROUTE_PRI (i : Nat) : Fld := ⟨R.EVR_ROUTE i, 8, 4⟩
def F.EVR_ROUTE_TCLASS (i : Nat) : Fld := ⟨R.EVR_ROUTE i, 12, 3⟩
def F.EVR_ROUTE_TIDX (i : Nat) : Fld := ⟨R.EVR_ROUTE i, 16, 3⟩
def F.EVR_ROUTE_EN (i : Nat) : Fld := ⟨R.EVR_ROUTE i, 31, 1⟩

/-- EVR_PEND (R100). -/
def R.EVR_PEND (i : Nat) : Reg := ⟨0x50002200 + 4 * i, 0x0#32⟩
def F.EVR_PEND_PEND (i : Nat) : Fld := ⟨R.EVR_PEND i, 0, 32⟩

/-- EVR_OVF (R100). -/
def R.EVR_OVF (i : Nat) : Reg := ⟨0x50002300 + 4 * i, 0x0#32⟩
def F.EVR_OVF_OVF0 (i : Nat) : Fld := ⟨R.EVR_OVF i, 0, 8⟩
def F.EVR_OVF_OVF1 (i : Nat) : Fld := ⟨R.EVR_OVF i, 8, 8⟩
def F.EVR_OVF_OVF2 (i : Nat) : Fld := ⟨R.EVR_OVF i, 16, 8⟩
def F.EVR_OVF_OVF3 (i : Nat) : Fld := ⟨R.EVR_OVF i, 24, 8⟩

/-- EVR_YCLAIM (R100). -/
def R.EVR_YCLAIM : Reg := ⟨0x50002400, 0x0#32⟩
def F.EVR_YCLAIM_ROUTE : Fld := ⟨R.EVR_YCLAIM, 0, 7⟩
def F.EVR_YCLAIM_SRC : Fld := ⟨R.EVR_YCLAIM, 8, 8⟩
def F.EVR_YCLAIM_VALID : Fld := ⟨R.EVR_YCLAIM, 31, 1⟩

/-- EVR_YTHRESH (R100). -/
def R.EVR_YTHRESH : Reg := ⟨0x50002404, 0x0#32⟩
def F.EVR_YTHRESH_THRESH : Fld := ⟨R.EVR_YTHRESH, 0, 4⟩

/-- EVR_SWRAISE (R100). -/
def R.EVR_SWRAISE : Reg := ⟨0x50002408, 0x0#32⟩
def F.EVR_SWRAISE_NUM : Fld := ⟨R.EVR_SWRAISE, 0, 2⟩

/-- EVR_LOCK (R100). -/
def R.EVR_LOCK (i : Nat) : Reg := ⟨0x50002410 + 4 * i, 0x0#32⟩
def F.EVR_LOCK_LOCK (i : Nat) : Fld := ⟨R.EVR_LOCK i, 0, 32⟩

/-- DMA_CHnCTL (R103). -/
def R.DMA_CHnCTL (i : Nat) : Reg := ⟨0x50003000 + 64 * i, 0x0#32⟩
def F.DMA_CHnCTL_EN (i : Nat) : Fld := ⟨R.DMA_CHnCTL i, 0, 1⟩
def F.DMA_CHnCTL_ABORT (i : Nat) : Fld := ⟨R.DMA_CHnCTL i, 1, 1⟩
def F.DMA_CHnCTL_SWTRIG (i : Nat) : Fld := ⟨R.DMA_CHnCTL i, 2, 1⟩

/-- DMA_CHnDESC (R103). -/
def R.DMA_CHnDESC (i : Nat) : Reg := ⟨0x50003004 + 64 * i, 0x0#32⟩
def F.DMA_CHnDESC_ADDR (i : Nat) : Fld := ⟨R.DMA_CHnDESC i, 0, 32⟩

/-- DMA_CHnSTAT (R103). -/
def R.DMA_CHnSTAT (i : Nat) : Reg := ⟨0x50003008 + 64 * i, 0x0#32⟩
def F.DMA_CHnSTAT_BUSY (i : Nat) : Fld := ⟨R.DMA_CHnSTAT i, 0, 1⟩
def F.DMA_CHnSTAT_DONE (i : Nat) : Fld := ⟨R.DMA_CHnSTAT i, 1, 1⟩
def F.DMA_CHnSTAT_ERR (i : Nat) : Fld := ⟨R.DMA_CHnSTAT i, 2, 1⟩
def F.DMA_CHnSTAT_OVF (i : Nat) : Fld := ⟨R.DMA_CHnSTAT i, 3, 1⟩
def F.DMA_CHnSTAT_CODE (i : Nat) : Fld := ⟨R.DMA_CHnSTAT i, 4, 4⟩
def F.DMA_CHnSTAT_QUEUED (i : Nat) : Fld := ⟨R.DMA_CHnSTAT i, 8, 4⟩
def F.DMA_CHnSTAT_REMAIN (i : Nat) : Fld := ⟨R.DMA_CHnSTAT i, 16, 16⟩

/-- DMA_CHnCUR (R103). -/
def R.DMA_CHnCUR (i : Nat) : Reg := ⟨0x5000300c + 64 * i, 0x0#32⟩
def F.DMA_CHnCUR_ADDR (i : Nat) : Fld := ⟨R.DMA_CHnCUR i, 0, 32⟩

/-- DMA_CHnOWN (R103). -/
def R.DMA_CHnOWN (i : Nat) : Reg := ⟨0x50003010 + 64 * i, 0x1#32⟩
def F.DMA_CHnOWN_OWNER (i : Nat) : Fld := ⟨R.DMA_CHnOWN i, 0, 6⟩

/-- DMA_CHnERRADDR (R103). -/
def R.DMA_CHnERRADDR (i : Nat) : Reg := ⟨0x50003014 + 64 * i, 0x0#32⟩
def F.DMA_CHnERRADDR_ADDR (i : Nat) : Fld := ⟨R.DMA_CHnERRADDR i, 0, 32⟩

/-- SYS_CPnCTL (R138). -/
def R.SYS_CPnCTL (i : Nat) : Reg := ⟨0x50000200 + 32 * i, 0x0#32⟩
def F.SYS_CPnCTL_HOLD (i : Nat) : Fld := ⟨R.SYS_CPnCTL i, 0, 1⟩
def F.SYS_CPnCTL_KEEPLEGS (i : Nat) : Fld := ⟨R.SYS_CPnCTL i, 1, 1⟩
def F.SYS_CPnCTL_RESTART (i : Nat) : Fld := ⟨R.SYS_CPnCTL i, 2, 1⟩
def F.SYS_CPnCTL_KEY (i : Nat) : Fld := ⟨R.SYS_CPnCTL i, 16, 16⟩

/-- SYS_CPnSTAT (R138). -/
def R.SYS_CPnSTAT (i : Nat) : Reg := ⟨0x50000204 + 32 * i, 0x0#32⟩
def F.SYS_CPnSTAT_RUN (i : Nat) : Fld := ⟨R.SYS_CPnSTAT i, 0, 1⟩
def F.SYS_CPnSTAT_HELD (i : Nat) : Fld := ⟨R.SYS_CPnSTAT i, 1, 1⟩
def F.SYS_CPnSTAT_RESTARTING (i : Nat) : Fld := ⟨R.SYS_CPnSTAT i, 2, 1⟩
def F.SYS_CPnSTAT_CTX (i : Nat) : Fld := ⟨R.SYS_CPnSTAT i, 3, 2⟩
def F.SYS_CPnSTAT_ILL (i : Nat) : Fld := ⟨R.SYS_CPnSTAT i, 5, 1⟩
def F.SYS_CPnSTAT_KEYERR (i : Nat) : Fld := ⟨R.SYS_CPnSTAT i, 6, 1⟩

/-- SYS_CPnPC (R138). -/
def R.SYS_CPnPC (i : Nat) : Reg := ⟨0x50000208 + 32 * i, 0x0#32⟩
def F.SYS_CPnPC_PC (i : Nat) : Fld := ⟨R.SYS_CPnPC i, 0, 14⟩

/-- SYS_CPnSLACK (R138). -/
def R.SYS_CPnSLACK (i : Nat) : Reg := ⟨0x5000020c + 32 * i, 0x0#32⟩
def F.SYS_CPnSLACK_SLACK (i : Nat) : Fld := ⟨R.SYS_CPnSLACK i, 0, 16⟩
def F.SYS_CPnSLACK_MIN (i : Nat) : Fld := ⟨R.SYS_CPnSLACK i, 16, 16⟩

/-- SYS_CPnMISS (R138). -/
def R.SYS_CPnMISS (i : Nat) : Reg := ⟨0x50000210 + 32 * i, 0x0#32⟩
def F.SYS_CPnMISS_COUNT (i : Nat) : Fld := ⟨R.SYS_CPnMISS i, 0, 16⟩
def F.SYS_CPnMISS_CONSEC (i : Nat) : Fld := ⟨R.SYS_CPnMISS i, 16, 4⟩

/-- SYS_CPnMAXHOLD (R138). -/
def R.SYS_CPnMAXHOLD (i : Nat) : Reg := ⟨0x50000214 + 32 * i, 0x0#32⟩
def F.SYS_CPnMAXHOLD_BUNDLES (i : Nat) : Fld := ⟨R.SYS_CPnMAXHOLD i, 0, 11⟩

/-- SYS_CPLEGS (R138). -/
def R.SYS_CPLEGS : Reg := ⟨0x50000240, 0xFF0000FF#32⟩
def F.SYS_CPLEGS_CP0 : Fld := ⟨R.SYS_CPLEGS, 0, 16⟩
def F.SYS_CPLEGS_CP1 : Fld := ⟨R.SYS_CPLEGS, 16, 16⟩

/-- MEM_ECCCTL (R253). -/
def R.MEM_ECCCTL : Reg := ⟨0x50004000, 0x1001#32⟩
def F.MEM_ECCCTL_SCRUBEN : Fld := ⟨R.MEM_ECCCTL, 0, 1⟩
def F.MEM_ECCCTL_SCRUBDIV : Fld := ⟨R.MEM_ECCCTL, 8, 8⟩

/-- MEM_CECNT (R253). -/
def R.MEM_CECNT : Reg := ⟨0x50004004, 0x0#32⟩
def F.MEM_CECNT_CE : Fld := ⟨R.MEM_CECNT, 0, 16⟩
def F.MEM_CECNT_UE : Fld := ⟨R.MEM_CECNT, 16, 16⟩

/-- MEM_CELAST (R253). -/
def R.MEM_CELAST : Reg := ⟨0x50004008, 0x0#32⟩
def F.MEM_CELAST_ADDR : Fld := ⟨R.MEM_CELAST, 0, 32⟩

/-- MEM_CEINFO (R253). -/
def R.MEM_CEINFO : Reg := ⟨0x5000400c, 0x0#32⟩
def F.MEM_CEINFO_CID : Fld := ⟨R.MEM_CEINFO, 0, 6⟩
def F.MEM_CEINFO_BIT : Fld := ⟨R.MEM_CEINFO, 8, 6⟩

/-- MEM_UEADDR (R253). -/
def R.MEM_UEADDR (i : Nat) : Reg := ⟨0x50004010 + 8 * i, 0x0#32⟩
def F.MEM_UEADDR_ADDR (i : Nat) : Fld := ⟨R.MEM_UEADDR i, 0, 32⟩

/-- MEM_UEINFO (R253). -/
def R.MEM_UEINFO (i : Nat) : Reg := ⟨0x50004014 + 8 * i, 0x0#32⟩
def F.MEM_UEINFO_CID (i : Nat) : Fld := ⟨R.MEM_UEINFO i, 0, 6⟩
def F.MEM_UEINFO_ORIGIN (i : Nat) : Fld := ⟨R.MEM_UEINFO i, 6, 7⟩
def F.MEM_UEINFO_KIND (i : Nat) : Fld := ⟨R.MEM_UEINFO i, 16, 3⟩
def F.MEM_UEINFO_VALID (i : Nat) : Fld := ⟨R.MEM_UEINFO i, 31, 1⟩

/-- MEM_UEHEAD (R253). -/
def R.MEM_UEHEAD : Reg := ⟨0x50004030, 0x0#32⟩
def F.MEM_UEHEAD_NEXT : Fld := ⟨R.MEM_UEHEAD, 0, 2⟩

/-- MEM_INJADDR (R253). -/
def R.MEM_INJADDR : Reg := ⟨0x50004040, 0x0#32⟩
def F.MEM_INJADDR_ADDR : Fld := ⟨R.MEM_INJADDR, 0, 32⟩

/-- MEM_INJDATA (R253). -/
def R.MEM_INJDATA : Reg := ⟨0x50004044, 0x0#32⟩
def F.MEM_INJDATA_DATA : Fld := ⟨R.MEM_INJDATA, 0, 32⟩

/-- MEM_INJCTL (R253). -/
def R.MEM_INJCTL : Reg := ⟨0x50004048, 0x0#32⟩
def F.MEM_INJCTL_CHK : Fld := ⟨R.MEM_INJCTL, 0, 7⟩
def F.MEM_INJCTL_ARM : Fld := ⟨R.MEM_INJCTL, 8, 1⟩

/-- MEM_SECCTL (R253). -/
def R.MEM_SECCTL : Reg := ⟨0x50004080, 0x0#32⟩
def F.MEM_SECCTL_WIPE : Fld := ⟨R.MEM_SECCTL, 0, 1⟩
def F.MEM_SECCTL_KEY : Fld := ⟨R.MEM_SECCTL, 16, 16⟩

/-- MEM_SECSTAT (R253). -/
def R.MEM_SECSTAT : Reg := ⟨0x50004084, 0x0#32⟩
def F.MEM_SECSTAT_WIPING : Fld := ⟨R.MEM_SECSTAT, 0, 1⟩
def F.MEM_SECSTAT_WIPEERR : Fld := ⟨R.MEM_SECSTAT, 1, 1⟩
def F.MEM_SECSTAT_KEYERR : Fld := ⟨R.MEM_SECSTAT, 2, 1⟩
def F.MEM_SECSTAT_WIPECNT : Fld := ⟨R.MEM_SECSTAT, 8, 8⟩

/-- MEM_MARCHCTL (R253). -/
def R.MEM_MARCHCTL : Reg := ⟨0x500040c0, 0x3F0200#32⟩
def F.MEM_MARCHCTL_BANK : Fld := ⟨R.MEM_MARCHCTL, 0, 8⟩
def F.MEM_MARCHCTL_MODE : Fld := ⟨R.MEM_MARCHCTL, 8, 1⟩
def F.MEM_MARCHCTL_CEFAIL : Fld := ⟨R.MEM_MARCHCTL, 9, 1⟩
def F.MEM_MARCHCTL_START : Fld := ⟨R.MEM_MARCHCTL, 10, 1⟩
def F.MEM_MARCHCTL_ABORT : Fld := ⟨R.MEM_MARCHCTL, 11, 1⟩
def F.MEM_MARCHCTL_SEGLEN : Fld := ⟨R.MEM_MARCHCTL, 16, 8⟩

/-- MEM_MARCHSTAT (R253). -/
def R.MEM_MARCHSTAT : Reg := ⟨0x500040c4, 0x0#32⟩
def F.MEM_MARCHSTAT_BUSY : Fld := ⟨R.MEM_MARCHSTAT, 0, 1⟩
def F.MEM_MARCHSTAT_DONE : Fld := ⟨R.MEM_MARCHSTAT, 1, 1⟩
def F.MEM_MARCHSTAT_FAIL : Fld := ⟨R.MEM_MARCHSTAT, 2, 1⟩
def F.MEM_MARCHSTAT_REFUSED : Fld := ⟨R.MEM_MARCHSTAT, 3, 1⟩
def F.MEM_MARCHSTAT_ELEM : Fld := ⟨R.MEM_MARCHSTAT, 4, 3⟩
def F.MEM_MARCHSTAT_FAILBANK : Fld := ⟨R.MEM_MARCHSTAT, 8, 8⟩
def F.MEM_MARCHSTAT_FAILWORD : Fld := ⟨R.MEM_MARCHSTAT, 16, 14⟩
def F.MEM_MARCHSTAT_FAILKIND : Fld := ⟨R.MEM_MARCHSTAT, 30, 2⟩

/-- MEM_MARCHXOR (R253). -/
def R.MEM_MARCHXOR : Reg := ⟨0x500040c8, 0x0#32⟩
def F.MEM_MARCHXOR_XOR : Fld := ⟨R.MEM_MARCHXOR, 0, 32⟩

/-- MEM_MARCHXORC (R253). -/
def R.MEM_MARCHXORC : Reg := ⟨0x500040cc, 0x0#32⟩
def F.MEM_MARCHXORC_XOR : Fld := ⟨R.MEM_MARCHXORC, 0, 7⟩

/-- MEM_MARCHSIG (R253). -/
def R.MEM_MARCHSIG : Reg := ⟨0x500040d0, 0x0#32⟩
def F.MEM_MARCHSIG_S1 : Fld := ⟨R.MEM_MARCHSIG, 0, 32⟩

/-- MEM_PWR (R253). -/
def R.MEM_PWR (i : Nat) : Reg := ⟨0x50004100 + 4 * i, 0x4#32⟩
def F.MEM_PWR_REQ (i : Nat) : Fld := ⟨R.MEM_PWR i, 0, 2⟩
def F.MEM_PWR_AUTOWAKE (i : Nat) : Fld := ⟨R.MEM_PWR i, 2, 1⟩
def F.MEM_PWR_STATE (i : Nat) : Fld := ⟨R.MEM_PWR i, 4, 2⟩
def F.MEM_PWR_CHANGING (i : Nat) : Fld := ⟨R.MEM_PWR i, 6, 1⟩
def F.MEM_PWR_PWRERR (i : Nat) : Fld := ⟨R.MEM_PWR i, 7, 1⟩

/-- SEM_PORT (R270). -/
def R.SEM_PORT (i : Nat) : Reg := ⟨0x50005000 + 4 * i, 0x0#32⟩
def F.SEM_PORT (i : Nat) : Fld := ⟨R.SEM_PORT i, 0, 32⟩

/-- SEM_TAKE (R270). -/
def R.SEM_TAKE (i : Nat) : Reg := ⟨0x50005200 + 4 * i, 0x0#32⟩
def F.SEM_TAKE (i : Nat) : Fld := ⟨R.SEM_TAKE i, 0, 32⟩

/-- SEM_CFG (R270). -/
def R.SEM_CFG (i : Nat) : Reg := ⟨0x50005400 + 4 * i, 0x1#32⟩
def F.SEM_CFG_INIT (i : Nat) : Fld := ⟨R.SEM_CFG i, 0, 8⟩
def F.SEM_CFG_MODE (i : Nat) : Fld := ⟨R.SEM_CFG i, 8, 1⟩

/-- SEM_STAT (R270). -/
def R.SEM_STAT (i : Nat) : Reg := ⟨0x50005600 + 4 * i, 0x101#32⟩
def F.SEM_STAT_COUNT (i : Nat) : Fld := ⟨R.SEM_STAT i, 0, 8⟩
def F.SEM_STAT_INIT (i : Nat) : Fld := ⟨R.SEM_STAT i, 8, 8⟩
def F.SEM_STAT_HOLDER (i : Nat) : Fld := ⟨R.SEM_STAT i, 16, 6⟩
def F.SEM_STAT_HELD (i : Nat) : Fld := ⟨R.SEM_STAT i, 22, 1⟩
def F.SEM_STAT_MODE (i : Nat) : Fld := ⟨R.SEM_STAT i, 23, 1⟩
def F.SEM_STAT_WAITERS (i : Nat) : Fld := ⟨R.SEM_STAT i, 24, 4⟩
def F.SEM_STAT_TOPPRI (i : Nat) : Fld := ⟨R.SEM_STAT i, 28, 4⟩

/-- SEM_HOLDLO (R270). -/
def R.SEM_HOLDLO (i : Nat) : Reg := ⟨0x50005800 + 8 * i, 0x0#32⟩
def F.SEM_HOLDLO_SET (i : Nat) : Fld := ⟨R.SEM_HOLDLO i, 0, 32⟩

/-- SEM_HOLDHI (R270). -/
def R.SEM_HOLDHI (i : Nat) : Reg := ⟨0x50005804 + 8 * i, 0x0#32⟩
def F.SEM_HOLDHI_SET (i : Nat) : Fld := ⟨R.SEM_HOLDHI i, 0, 32⟩

/-- SEM_GRANT (R270). -/
def R.SEM_GRANT : Reg := ⟨0x50005c00, 0x0#32⟩
def F.SEM_GRANT_SEM : Fld := ⟨R.SEM_GRANT, 0, 7⟩
def F.SEM_GRANT_CID : Fld := ⟨R.SEM_GRANT, 8, 6⟩
def F.SEM_GRANT_UNIT : Fld := ⟨R.SEM_GRANT, 14, 7⟩
def F.SEM_GRANT_RESULT : Fld := ⟨R.SEM_GRANT, 24, 4⟩
def F.SEM_GRANT_MORE : Fld := ⟨R.SEM_GRANT, 30, 1⟩
def F.SEM_GRANT_VALID : Fld := ⟨R.SEM_GRANT, 31, 1⟩

/-- SEM_CANCEL (R270). -/
def R.SEM_CANCEL : Reg := ⟨0x50005c04, 0x0#32⟩
def F.SEM_CANCEL_SEM : Fld := ⟨R.SEM_CANCEL, 0, 7⟩

/-- SEM_RECLAIM (R270). -/
def R.SEM_RECLAIM : Reg := ⟨0x50005c08, 0x0#32⟩
def F.SEM_RECLAIM_CID : Fld := ⟨R.SEM_RECLAIM, 0, 6⟩

/-- SEM_PIPENDLO (R270). -/
def R.SEM_PIPENDLO : Reg := ⟨0x50005c10, 0x0#32⟩
def F.SEM_PIPENDLO_PEND : Fld := ⟨R.SEM_PIPENDLO, 0, 32⟩

/-- SEM_PIPENDHI (R270). -/
def R.SEM_PIPENDHI : Reg := ⟨0x50005c14, 0x0#32⟩
def F.SEM_PIPENDHI_PEND : Fld := ⟨R.SEM_PIPENDHI, 0, 32⟩

/-- SEM_EPRI (R270). -/
def R.SEM_EPRI (i : Nat) : Reg := ⟨0x50005c20 + 4 * i, 0x0#32⟩
def F.SEM_EPRI_EPRI (i : Nat) : Fld := ⟨R.SEM_EPRI i, 0, 32⟩

/-- SEM_GMASKLO (R270). -/
def R.SEM_GMASKLO (i : Nat) : Reg := ⟨0x50005c40 + 8 * i, 0x2#32⟩
def F.SEM_GMASKLO_MASK (i : Nat) : Fld := ⟨R.SEM_GMASKLO i, 0, 32⟩

/-- SEM_GMASKHI (R270). -/
def R.SEM_GMASKHI (i : Nat) : Reg := ⟨0x50005c44 + 8 * i, 0x0#32⟩
def F.SEM_GMASKHI_MASK (i : Nat) : Fld := ⟨R.SEM_GMASKHI i, 0, 32⟩

/-- SEM_ERRLOG (R270). -/
def R.SEM_ERRLOG (i : Nat) : Reg := ⟨0x50005d00 + 4 * i, 0x0#32⟩
def F.SEM_ERRLOG_SEM (i : Nat) : Fld := ⟨R.SEM_ERRLOG i, 0, 7⟩
def F.SEM_ERRLOG_CID (i : Nat) : Fld := ⟨R.SEM_ERRLOG i, 8, 6⟩
def F.SEM_ERRLOG_ORIGIN (i : Nat) : Fld := ⟨R.SEM_ERRLOG i, 14, 7⟩
def F.SEM_ERRLOG_CAUSE (i : Nat) : Fld := ⟨R.SEM_ERRLOG i, 24, 4⟩
def F.SEM_ERRLOG_VALID (i : Nat) : Fld := ⟨R.SEM_ERRLOG i, 31, 1⟩

/-- SEM_ERRHEAD (R270). -/
def R.SEM_ERRHEAD : Reg := ⟨0x50005d20, 0x0#32⟩
def F.SEM_ERRHEAD_NEXT : Fld := ⟨R.SEM_ERRHEAD, 0, 3⟩

/-- SEM_RSLOTS (R270). -/
def R.SEM_RSLOTS : Reg := ⟨0x50005d24, 0x0#32⟩
def F.SEM_RSLOTS_USED : Fld := ⟨R.SEM_RSLOTS, 0, 6⟩

/-- MBX_CFG (R277). -/
def R.MBX_CFG (i : Nat) : Reg := ⟨0x50006000 + 4 * i, 0x1#32⟩
def F.MBX_CFG_READER (i : Nat) : Fld := ⟨R.MBX_CFG i, 0, 6⟩
def F.MBX_CFG_ACKEV (i : Nat) : Fld := ⟨R.MBX_CFG i, 8, 1⟩

/-- MBX_WMASKLO (R277). -/
def R.MBX_WMASKLO (i : Nat) : Reg := ⟨0x50006080 + 8 * i, 0x2#32⟩
def F.MBX_WMASKLO_MASK (i : Nat) : Fld := ⟨R.MBX_WMASKLO i, 0, 32⟩

/-- MBX_WMASKHI (R277). -/
def R.MBX_WMASKHI (i : Nat) : Reg := ⟨0x50006084 + 8 * i, 0x0#32⟩
def F.MBX_WMASKHI_MASK (i : Nat) : Fld := ⟨R.MBX_WMASKHI i, 0, 32⟩

/-- MBX_ACKPEND (R277). -/
def R.MBX_ACKPEND : Reg := ⟨0x50006180, 0x0#32⟩
def F.MBX_ACKPEND_PEND : Fld := ⟨R.MBX_ACKPEND, 0, 32⟩

/-- MBX_FULL (R277). -/
def R.MBX_FULL : Reg := ⟨0x50006184, 0x0#32⟩
def F.MBX_FULL_FULL : Fld := ⟨R.MBX_FULL, 0, 32⟩

/-- MBX_LEDGER (R277). -/
def R.MBX_LEDGER : Reg := ⟨0x50006190, 0x0#32⟩
def F.MBX_LEDGER_FAIL : Fld := ⟨R.MBX_LEDGER, 0, 4⟩
def F.MBX_LEDGER_INDEX : Fld := ⟨R.MBX_LEDGER, 8, 8⟩

/-- POOL_ALLOC (R284). -/
def R.POOL_ALLOC : Reg := ⟨0x50006200, 0x0#32⟩
def F.POOL_ALLOC : Fld := ⟨R.POOL_ALLOC, 0, 32⟩

/-- POOL_FREE (R284). -/
def R.POOL_FREE : Reg := ⟨0x50006204, 0x0#32⟩
def F.POOL_FREE_HANDLE : Fld := ⟨R.POOL_FREE, 0, 16⟩

/-- POOL_GIVE (R284). -/
def R.POOL_GIVE : Reg := ⟨0x50006208, 0x0#32⟩
def F.POOL_GIVE : Fld := ⟨R.POOL_GIVE, 0, 22⟩

/-- POOL_LINK (R284). -/
def R.POOL_LINK : Reg := ⟨0x5000620c, 0x0#32⟩
def F.POOL_LINK : Fld := ⟨R.POOL_LINK, 0, 32⟩

/-- POOL_COUNT (R284). -/
def R.POOL_COUNT : Reg := ⟨0x50006210, 0x200#32⟩
def F.POOL_COUNT_FREE : Fld := ⟨R.POOL_COUNT, 0, 10⟩
def F.POOL_COUNT_TRANSIT : Fld := ⟨R.POOL_COUNT, 16, 10⟩
def F.POOL_COUNT_RESV : Fld := ⟨R.POOL_COUNT, 26, 6⟩

/-- POOL_LOWMARK (R284). -/
def R.POOL_LOWMARK : Reg := ⟨0x50006214, 0x40#32⟩
def F.POOL_LOWMARK_MARK : Fld := ⟨R.POOL_LOWMARK, 0, 10⟩

/-- POOL_RECLAIM (R284). -/
def R.POOL_RECLAIM : Reg := ⟨0x50006218, 0x0#32⟩
def F.POOL_RECLAIM_CID : Fld := ⟨R.POOL_RECLAIM, 0, 6⟩

/-- POOL_ERRPENDLO (R284). -/
def R.POOL_ERRPENDLO : Reg := ⟨0x50006220, 0x0#32⟩
def F.POOL_ERRPENDLO_PEND : Fld := ⟨R.POOL_ERRPENDLO, 0, 32⟩

/-- POOL_ERRPENDHI (R284). -/
def R.POOL_ERRPENDHI : Reg := ⟨0x50006224, 0x0#32⟩
def F.POOL_ERRPENDHI_PEND : Fld := ⟨R.POOL_ERRPENDHI, 0, 32⟩

/-- POOL_FORPENDLO (R284). -/
def R.POOL_FORPENDLO : Reg := ⟨0x50006228, 0x0#32⟩
def F.POOL_FORPENDLO_PEND : Fld := ⟨R.POOL_FORPENDLO, 0, 32⟩

/-- POOL_FORPENDHI (R284). -/
def R.POOL_FORPENDHI : Reg := ⟨0x5000622c, 0x0#32⟩
def F.POOL_FORPENDHI_PEND : Fld := ⟨R.POOL_FORPENDHI, 0, 32⟩

/-- POOL_ERRLOGA (R284). -/
def R.POOL_ERRLOGA (i : Nat) : Reg := ⟨0x50006240 + 8 * i, 0x0#32⟩
def F.POOL_ERRLOGA_HANDLE (i : Nat) : Fld := ⟨R.POOL_ERRLOGA i, 0, 16⟩
def F.POOL_ERRLOGA_CID (i : Nat) : Fld := ⟨R.POOL_ERRLOGA i, 16, 6⟩
def F.POOL_ERRLOGA_CAUSE (i : Nat) : Fld := ⟨R.POOL_ERRLOGA i, 24, 4⟩
def F.POOL_ERRLOGA_VALID (i : Nat) : Fld := ⟨R.POOL_ERRLOGA i, 31, 1⟩

/-- POOL_ERRLOGB (R284). -/
def R.POOL_ERRLOGB (i : Nat) : Reg := ⟨0x50006244 + 8 * i, 0x0#32⟩
def F.POOL_ERRLOGB_OWNER (i : Nat) : Fld := ⟨R.POOL_ERRLOGB i, 0, 6⟩

/-- POOL_ERRHEAD (R284). -/
def R.POOL_ERRHEAD : Reg := ⟨0x50006280, 0x0#32⟩
def F.POOL_ERRHEAD_NEXT : Fld := ⟨R.POOL_ERRHEAD, 0, 3⟩

/-- POOL_OWNCNT (R284). -/
def R.POOL_OWNCNT (i : Nat) : Reg := ⟨0x50006300 + 4 * i, 0x0#32⟩
def F.POOL_OWNCNT_COUNT (i : Nat) : Fld := ⟨R.POOL_OWNCNT i, 0, 10⟩

/-- POOL_INFO (R284). -/
def R.POOL_INFO (i : Nat) : Reg := ⟨0x50006800 + 4 * i, 0x0#32⟩
def F.POOL_INFO_GEN (i : Nat) : Fld := ⟨R.POOL_INFO i, 0, 7⟩
def F.POOL_INFO_STATE (i : Nat) : Fld := ⟨R.POOL_INFO i, 8, 2⟩
def F.POOL_INFO_PREDV (i : Nat) : Fld := ⟨R.POOL_INFO i, 10, 1⟩
def F.POOL_INFO_OWNER (i : Nat) : Fld := ⟨R.POOL_INFO i, 16, 6⟩
def F.POOL_INFO_NEXT (i : Nat) : Fld := ⟨R.POOL_INFO i, 22, 9⟩
def F.POOL_INFO_NEXTV (i : Nat) : Fld := ⟨R.POOL_INFO i, 31, 1⟩

/-- PWM_GCTL (R319). -/
def R.PWM_GCTL (i j : Nat) : Reg := ⟨0x50008000 + 4096 * i + 128 * j, 0x10#32⟩
def F.PWM_GCTL_EN (i j : Nat) : Fld := ⟨R.PWM_GCTL i j, 0, 1⟩
def F.PWM_GCTL_MODE (i j : Nat) : Fld := ⟨R.PWM_GCTL i j, 1, 1⟩
def F.PWM_GCTL_PRESC (i j : Nat) : Fld := ⟨R.PWM_GCTL i j, 2, 2⟩
def F.PWM_GCTL_LOAD (i j : Nat) : Fld := ⟨R.PWM_GCTL i j, 4, 2⟩
def F.PWM_GCTL_CLOCK (i j : Nat) : Fld := ⟨R.PWM_GCTL i j, 6, 1⟩

/-- PWM_PER (R319). -/
def R.PWM_PER (i j : Nat) : Reg := ⟨0x50008004 + 4096 * i + 128 * j, 0x271000#32⟩
def F.PWM_PER_PER (i j : Nat) : Fld := ⟨R.PWM_PER i j, 0, 24⟩

/-- PWM_GCOMMIT (R319). -/
def R.PWM_GCOMMIT (i j : Nat) : Reg := ⟨0x50008008 + 4096 * i + 128 * j, 0x0#32⟩
def F.PWM_GCOMMIT (i j : Nat) : Fld := ⟨R.PWM_GCOMMIT i j, 0, 32⟩

/-- PWM_GSTAT (R319). -/
def R.PWM_GSTAT (i j : Nat) : Reg := ⟨0x5000800c + 4096 * i + 128 * j, 0x0#32⟩
def F.PWM_GSTAT_RUN (i j : Nat) : Fld := ⟨R.PWM_GSTAT i j, 0, 1⟩
def F.PWM_GSTAT_CLLOCKED (i j : Nat) : Fld := ⟨R.PWM_GSTAT i j, 1, 1⟩
def F.PWM_GSTAT_HALF (i j : Nat) : Fld := ⟨R.PWM_GSTAT i j, 2, 1⟩
def F.PWM_GSTAT_LASTCMT (i j : Nat) : Fld := ⟨R.PWM_GSTAT i j, 3, 1⟩
def F.PWM_GSTAT_PERREJ (i j : Nat) : Fld := ⟨R.PWM_GSTAT i j, 4, 1⟩

/-- PWM_CLANCHORLO (R319). -/
def R.PWM_CLANCHORLO (i j : Nat) : Reg := ⟨0x50008010 + 4096 * i + 128 * j, 0x0#32⟩
def F.PWM_CLANCHORLO_ANCHOR (i j : Nat) : Fld := ⟨R.PWM_CLANCHORLO i j, 0, 32⟩

/-- PWM_CLANCHORHI (R319). -/
def R.PWM_CLANCHORHI (i j : Nat) : Reg := ⟨0x50008014 + 4096 * i + 128 * j, 0x0#32⟩
def F.PWM_CLANCHORHI_ANCHOR (i j : Nat) : Fld := ⟨R.PWM_CLANCHORHI i j, 0, 32⟩

/-- PWM_CLCTL (R319). -/
def R.PWM_CLCTL (i j : Nat) : Reg := ⟨0x50008018 + 4096 * i + 128 * j, 0x10#32⟩
def F.PWM_CLCTL_CLTRIM (i j : Nat) : Fld := ⟨R.PWM_CLCTL i j, 0, 8⟩

/-- PWM_CLERR (R319). -/
def R.PWM_CLERR (i j : Nat) : Reg := ⟨0x5000801c + 4096 * i + 128 * j, 0x0#32⟩
def F.PWM_CLERR_ERR (i j : Nat) : Fld := ⟨R.PWM_CLERR i j, 0, 32⟩

/-- PWM_TCk (R319). -/
def R.PWM_TCk (i j k : Nat) : Reg := ⟨0x50008020 + 4096 * i + 128 * j + 4 * k, 0x0#32⟩
def F.PWM_TCk_POS (i j k : Nat) : Fld := ⟨R.PWM_TCk i j k, 0, 24⟩
def F.PWM_TCk_EVEN (i j k : Nat) : Fld := ⟨R.PWM_TCk i j k, 30, 1⟩
def F.PWM_TCk_EN (i j k : Nat) : Fld := ⟨R.PWM_TCk i j k, 31, 1⟩

/-- PWM_GCNT (R319). -/
def R.PWM_GCNT (i j : Nat) : Reg := ⟨0x50008040 + 4096 * i + 128 * j, 0x0#32⟩
def F.PWM_GCNT_CNT (i j : Nat) : Fld := ⟨R.PWM_GCNT i j, 0, 16⟩

/-- PWM_LnDUTYQ (R319). -/
def R.PWM_LnDUTYQ (i j : Nat) : Reg := ⟨0x50008200 + 4096 * i + 64 * j, 0x0#32⟩
def F.PWM_LnDUTYQ_Q (i j : Nat) : Fld := ⟨R.PWM_LnDUTYQ i j, 0, 16⟩

/-- PWM_LnDUTYT (R319). -/
def R.PWM_LnDUTYT (i j : Nat) : Reg := ⟨0x50008204 + 4096 * i + 64 * j, 0x0#32⟩
def F.PWM_LnDUTYT_T (i j : Nat) : Fld := ⟨R.PWM_LnDUTYT i j, 0, 24⟩

/-- PWM_LnDTR (R319). -/
def R.PWM_LnDTR (i j : Nat) : Reg := ⟨0x50008208 + 4096 * i + 64 * j, 0x0#32⟩
def F.PWM_LnDTR_TAPS (i j : Nat) : Fld := ⟨R.PWM_LnDTR i j, 0, 19⟩

/-- PWM_LnDTF (R319). -/
def R.PWM_LnDTF (i j : Nat) : Reg := ⟨0x5000820c + 4096 * i + 64 * j, 0x0#32⟩
def F.PWM_LnDTF_TAPS (i j : Nat) : Fld := ⟨R.PWM_LnDTF i j, 0, 19⟩

/-- PWM_LnMINPW (R319). -/
def R.PWM_LnMINPW (i j : Nat) : Reg := ⟨0x50008210 + 4096 * i + 64 * j, 0x28#32⟩
def F.PWM_LnMINPW_TICKS (i j : Nat) : Fld := ⟨R.PWM_LnMINPW i j, 0, 11⟩

/-- PWM_LnPHASE (R319). -/
def R.PWM_LnPHASE (i j : Nat) : Reg := ⟨0x50008214 + 4096 * i + 64 * j, 0x0#32⟩
def F.PWM_LnPHASE_PH (i j : Nat) : Fld := ⟨R.PWM_LnPHASE i j, 0, 24⟩

/-- PWM_LnCFG (R319). -/
def R.PWM_LnCFG (i j : Nat) : Reg := ⟨0x50008218 + 4096 * i + 64 * j, 0x0#32⟩
def F.PWM_LnCFG_POLICY (i j : Nat) : Fld := ⟨R.PWM_LnCFG i j, 0, 2⟩
def F.PWM_LnCFG_PHMODE (i j : Nat) : Fld := ⟨R.PWM_LnCFG i j, 2, 1⟩
def F.PWM_LnCFG_BRAKE (i j : Nat) : Fld := ⟨R.PWM_LnCFG i j, 4, 2⟩
def F.PWM_LnCFG_INV (i j : Nat) : Fld := ⟨R.PWM_LnCFG i j, 6, 1⟩

/-- PWM_LnCTL (R319). -/
def R.PWM_LnCTL (i j : Nat) : Reg := ⟨0x5000821c + 4096 * i + 64 * j, 0x0#32⟩
def F.PWM_LnCTL_ARM (i j : Nat) : Fld := ⟨R.PWM_LnCTL i j, 0, 1⟩
def F.PWM_LnCTL_DISARM (i j : Nat) : Fld := ⟨R.PWM_LnCTL i j, 1, 1⟩
def F.PWM_LnCTL_CLRFLT (i j : Nat) : Fld := ⟨R.PWM_LnCTL i j, 2, 1⟩

/-- PWM_LnSTAT (R319). -/
def R.PWM_LnSTAT (i j : Nat) : Reg := ⟨0x50008220 + 4096 * i + 64 * j, 0x0#32⟩
def F.PWM_LnSTAT_STATE (i j : Nat) : Fld := ⟨R.PWM_LnSTAT i j, 0, 3⟩
def F.PWM_LnSTAT_CAUSE (i j : Nat) : Fld := ⟨R.PWM_LnSTAT i j, 4, 4⟩
def F.PWM_LnSTAT_SRC (i j : Nat) : Fld := ⟨R.PWM_LnSTAT i j, 8, 4⟩
def F.PWM_LnSTAT_ARMERR (i j : Nat) : Fld := ⟨R.PWM_LnSTAT i j, 12, 4⟩
def F.PWM_LnSTAT_DROPPED (i j : Nat) : Fld := ⟨R.PWM_LnSTAT i j, 16, 1⟩
def F.PWM_LnSTAT_STRETCHED (i j : Nat) : Fld := ⟨R.PWM_LnSTAT i j, 17, 1⟩
def F.PWM_LnSTAT_CARRIED (i j : Nat) : Fld := ⟨R.PWM_LnSTAT i j, 18, 1⟩
def F.PWM_LnSTAT_CLAMPED (i j : Nat) : Fld := ⟨R.PWM_LnSTAT i j, 19, 1⟩
def F.PWM_LnSTAT_GUARD (i j : Nat) : Fld := ⟨R.PWM_LnSTAT i j, 20, 1⟩
def F.PWM_LnSTAT_ACCSAT (i j : Nat) : Fld := ⟨R.PWM_LnSTAT i j, 21, 1⟩
def F.PWM_LnSTAT_REJ (i j : Nat) : Fld := ⟨R.PWM_LnSTAT i j, 22, 1⟩

/-- PWM_LnACC (R319). -/
def R.PWM_LnACC (i j : Nat) : Reg := ⟨0x50008224 + 4096 * i + 64 * j, 0x0#32⟩
def F.PWM_LnACC_ACC (i j : Nat) : Fld := ⟨R.PWM_LnACC i j, 0, 32⟩

/-- PWM_LnACT (R319). -/
def R.PWM_LnACT (i j : Nat) : Reg := ⟨0x50008228 + 4096 * i + 64 * j, 0x0#32⟩
def F.PWM_LnACT_D (i j : Nat) : Fld := ⟨R.PWM_LnACT i j, 0, 32⟩

/-- PWM_LnFMASK (R319). -/
def R.PWM_LnFMASK (i j : Nat) : Reg := ⟨0x5000822c + 4096 * i + 64 * j, 0x0#32⟩
def F.PWM_LnFMASK_MASK (i j : Nat) : Fld := ⟨R.PWM_LnFMASK i j, 0, 16⟩

/-- PWM_LEGGRP (R319). -/
def R.PWM_LEGGRP (i : Nat) : Reg := ⟨0x50008400 + 4096 * i, 0x0#32⟩
def F.PWM_LEGGRP_ODD (i : Nat) : Fld := ⟨R.PWM_LEGGRP i, 0, 8⟩

/-- PWM_FLTPOL (R319). -/
def R.PWM_FLTPOL : Reg := ⟨0x50008404, 0x0#32⟩
def F.PWM_FLTPOL_POL : Fld := ⟨R.PWM_FLTPOL, 0, 8⟩

/-- PWM_FLTSTAT (R319). -/
def R.PWM_FLTSTAT (i : Nat) : Reg := ⟨0x50008408 + 4096 * i, 0x00FF#32⟩
def F.PWM_FLTSTAT_LIVE (i : Nat) : Fld := ⟨R.PWM_FLTSTAT i, 0, 16⟩

/-- PWM_TCCOLL (R319). -/
def R.PWM_TCCOLL (i : Nat) : Reg := ⟨0x5000840c + 4096 * i, 0x0#32⟩
def F.PWM_TCCOLL_COUNT (i : Nat) : Fld := ⟨R.PWM_TCCOLL i, 0, 16⟩

/-- ADC_cSEQCTL (R341). -/
def R.ADC_cSEQCTL (i : Nat) : Reg := ⟨0x5000a000 + 256 * i, 0x0#32⟩
def F.ADC_cSEQCTL_EN (i : Nat) : Fld := ⟨R.ADC_cSEQCTL i, 0, 1⟩
def F.ADC_cSEQCTL_LOOP (i : Nat) : Fld := ⟨R.ADC_cSEQCTL i, 1, 1⟩

/-- ADC_cTIMER (R341). -/
def R.ADC_cTIMER (i : Nat) : Reg := ⟨0x5000a004 + 256 * i, 0x0#32⟩
def F.ADC_cTIMER_PERIOD (i : Nat) : Fld := ⟨R.ADC_cTIMER i, 0, 16⟩

/-- ADC_cSTAT (R341). -/
def R.ADC_cSTAT (i : Nat) : Reg := ⟨0x5000a008 + 256 * i, 0x0#32⟩
def F.ADC_cSTAT_PTR (i : Nat) : Fld := ⟨R.ADC_cSTAT i, 0, 4⟩
def F.ADC_cSTAT_BUSY (i : Nat) : Fld := ⟨R.ADC_cSTAT i, 4, 1⟩
def F.ADC_cSTAT_WAIT (i : Nat) : Fld := ⟨R.ADC_cSTAT i, 5, 1⟩
def F.ADC_cSTAT_LATE (i : Nat) : Fld := ⟨R.ADC_cSTAT i, 8, 1⟩
def F.ADC_cSTAT_SKIP (i : Nat) : Fld := ⟨R.ADC_cSTAT i, 9, 1⟩
def F.ADC_cSTAT_CFGERR (i : Nat) : Fld := ⟨R.ADC_cSTAT i, 10, 1⟩

/-- ADC_cSKIPCNT (R341). -/
def R.ADC_cSKIPCNT (i : Nat) : Reg := ⟨0x5000a00c + 256 * i, 0x0#32⟩
def F.ADC_cSKIPCNT_COUNT (i : Nat) : Fld := ⟨R.ADC_cSKIPCNT i, 0, 16⟩

/-- ADC_cSOFT (R341). -/
def R.ADC_cSOFT (i : Nat) : Reg := ⟨0x5000a010 + 256 * i, 0x0#32⟩
def F.ADC_cSOFT (i : Nat) : Fld := ⟨R.ADC_cSOFT i, 0, 32⟩

/-- ADC_cENTe (R341). -/
def R.ADC_cENTe (i j : Nat) : Reg := ⟨0x5000a040 + 256 * i + 4 * j, 0x40027#32⟩
def F.ADC_cENTe_CH (i j : Nat) : Fld := ⟨R.ADC_cENTe i j, 0, 6⟩
def F.ADC_cENTe_TKIND (i j : Nat) : Fld := ⟨R.ADC_cENTe i j, 6, 2⟩
def F.ADC_cENTe_TIN (i j : Nat) : Fld := ⟨R.ADC_cENTe i j, 8, 5⟩
def F.ADC_cENTe_ACQ (i j : Nat) : Fld := ⟨R.ADC_cENTe i j, 16, 4⟩
def F.ADC_cENTe_FMT (i j : Nat) : Fld := ⟨R.ADC_cENTe i j, 20, 1⟩
def F.ADC_cENTe_EV (i j : Nat) : Fld := ⟨R.ADC_cENTe i j, 21, 1⟩
def F.ADC_cENTe_END (i j : Nat) : Fld := ⟨R.ADC_cENTe i j, 22, 1⟩

/-- ADC_cRESAe (R342). -/
def R.ADC_cRESAe (i j : Nat) : Reg := ⟨0x5000a400 + 256 * i + 16 * j, 0x0#32⟩
def F.ADC_cRESAe_VALUE (i j : Nat) : Fld := ⟨R.ADC_cRESAe i j, 0, 16⟩
def F.ADC_cRESAe_STATUS (i j : Nat) : Fld := ⟨R.ADC_cRESAe i j, 16, 16⟩

/-- ADC_cRESBe (R342). -/
def R.ADC_cRESBe (i j : Nat) : Reg := ⟨0x5000a404 + 256 * i + 16 * j, 0x0#32⟩
def F.ADC_cRESBe_TS (i j : Nat) : Fld := ⟨R.ADC_cRESBe i j, 0, 32⟩

/-- ADC_TJ (R342). -/
def R.ADC_TJ : Reg := ⟨0x5000a800, 0x64#32⟩
def F.ADC_TJ_TEMP : Fld := ⟨R.ADC_TJ, 0, 12⟩
def F.ADC_TJ_TSHUT : Fld := ⟨R.ADC_TJ, 16, 1⟩

/-- ADC_TJLIM (R342). -/
def R.ADC_TJLIM : Reg := ⟨0x5000a804, 0x7D#32⟩
def F.ADC_TJLIM_THI : Fld := ⟨R.ADC_TJLIM, 0, 8⟩

/-- ADC_SUPSTAT (R342). -/
def R.ADC_SUPSTAT : Reg := ⟨0x5000a808, 0x0#32⟩
def F.ADC_SUPSTAT_LIVE : Fld := ⟨R.ADC_SUPSTAT, 0, 3⟩
def F.ADC_SUPSTAT_STICKY : Fld := ⟨R.ADC_SUPSTAT, 8, 3⟩
def F.ADC_SUPSTAT_TJHI : Fld := ⟨R.ADC_SUPSTAT, 16, 1⟩

/-- CMP_kCTL (R343). -/
def R.CMP_kCTL (i : Nat) : Reg := ⟨0x5000b000 + 8 * i, 0xC000#32⟩
def F.CMP_kCTL_EN (i : Nat) : Fld := ⟨R.CMP_kCTL i, 0, 1⟩
def F.CMP_kCTL_POL (i : Nat) : Fld := ⟨R.CMP_kCTL i, 1, 1⟩
def F.CMP_kCTL_HYST (i : Nat) : Fld := ⟨R.CMP_kCTL i, 2, 2⟩
def F.CMP_kCTL_CH (i : Nat) : Fld := ⟨R.CMP_kCTL i, 4, 6⟩
def F.CMP_kCTL_BLEG (i : Nat) : Fld := ⟨R.CMP_kCTL i, 10, 4⟩
def F.CMP_kCTL_BEDGE (i : Nat) : Fld := ⟨R.CMP_kCTL i, 14, 2⟩
def F.CMP_kCTL_BLANK (i : Nat) : Fld := ⟨R.CMP_kCTL i, 16, 10⟩

/-- CMP_kDAC (R343). -/
def R.CMP_kDAC (i : Nat) : Reg := ⟨0x5000b004 + 8 * i, 0x3FF#32⟩
def F.CMP_kDAC_CODE (i : Nat) : Fld := ⟨R.CMP_kDAC i, 0, 10⟩

/-- CMP_STAT (R343). -/
def R.CMP_STAT : Reg := ⟨0x5000b040, 0x0#32⟩
def F.CMP_STAT_OUT : Fld := ⟨R.CMP_STAT, 0, 8⟩
def F.CMP_STAT_RAW : Fld := ⟨R.CMP_STAT, 8, 8⟩

/-- CMP_PGAp (R343). -/
def R.CMP_PGAp (i : Nat) : Reg := ⟨0x5000b080 + 4 * i, 0x800#32⟩
def F.CMP_PGAp_EN (i : Nat) : Fld := ⟨R.CMP_PGAp i, 0, 1⟩
def F.CMP_PGAp_INP (i : Nat) : Fld := ⟨R.CMP_PGAp i, 1, 5⟩
def F.CMP_PGAp_INN (i : Nat) : Fld := ⟨R.CMP_PGAp i, 6, 6⟩
def F.CMP_PGAp_GAIN (i : Nat) : Fld := ⟨R.CMP_PGAp i, 12, 3⟩
def F.CMP_PGAp_OFS (i : Nat) : Fld := ⟨R.CMP_PGAp i, 15, 1⟩

/-- TSL_CHtCTL (R361). -/
def R.TSL_CHtCTL (i : Nat) : Reg := ⟨0x5000c000 + 64 * i, 0x0#32⟩
def F.TSL_CHtCTL_RUN (i : Nat) : Fld := ⟨R.TSL_CHtCTL i, 0, 1⟩

/-- TSL_CHtCFG (R361). -/
def R.TSL_CHtCFG (i : Nat) : Reg := ⟨0x5000c004 + 64 * i, 0x401000#32⟩
def F.TSL_CHtCFG_PINBASE (i : Nat) : Fld := ⟨R.TSL_CHtCFG i, 0, 5⟩
def F.TSL_CHtCFG_PINCNT (i : Nat) : Fld := ⟨R.TSL_CHtCFG i, 5, 3⟩
def F.TSL_CHtCFG_LATEPOL (i : Nat) : Fld := ⟨R.TSL_CHtCFG i, 8, 1⟩
def F.TSL_CHtCFG_RESYNC (i : Nat) : Fld := ⟨R.TSL_CHtCFG i, 9, 1⟩
def F.TSL_CHtCFG_SIDIR (i : Nat) : Fld := ⟨R.TSL_CHtCFG i, 10, 1⟩
def F.TSL_CHtCFG_OWM (i : Nat) : Fld := ⟨R.TSL_CHtCFG i, 12, 2⟩
def F.TSL_CHtCFG_IWM (i : Nat) : Fld := ⟨R.TSL_CHtCFG i, 14, 2⟩
def F.TSL_CHtCFG_LEAD (i : Nat) : Fld := ⟨R.TSL_CHtCFG i, 16, 16⟩

/-- TSL_CHtPC (R361). -/
def R.TSL_CHtPC (i : Nat) : Reg := ⟨0x5000c008 + 64 * i, 0x0#32⟩
def F.TSL_CHtPC_PC (i : Nat) : Fld := ⟨R.TSL_CHtPC i, 0, 11⟩

/-- TSL_CHtTC (R361). -/
def R.TSL_CHtTC (i : Nat) : Reg := ⟨0x5000c00c + 64 * i, 0x0#32⟩
def F.TSL_CHtTC_TC (i : Nat) : Fld := ⟨R.TSL_CHtTC i, 0, 32⟩

/-- TSL_CHtS0 (R361). -/
def R.TSL_CHtS0 (i : Nat) : Reg := ⟨0x5000c010 + 64 * i, 0x0#32⟩
def F.TSL_CHtS0 (i : Nat) : Fld := ⟨R.TSL_CHtS0 i, 0, 32⟩

/-- TSL_CHtS1 (R361). -/
def R.TSL_CHtS1 (i : Nat) : Reg := ⟨0x5000c014 + 64 * i, 0x0#32⟩
def F.TSL_CHtS1 (i : Nat) : Fld := ⟨R.TSL_CHtS1 i, 0, 32⟩

/-- TSL_CHtSI (R361). -/
def R.TSL_CHtSI (i : Nat) : Reg := ⟨0x5000c018 + 64 * i, 0x0#32⟩
def F.TSL_CHtSI (i : Nat) : Fld := ⟨R.TSL_CHtSI i, 0, 32⟩

/-- TSL_CHtSO (R361). -/
def R.TSL_CHtSO (i : Nat) : Reg := ⟨0x5000c01c + 64 * i, 0x0#32⟩
def F.TSL_CHtSO (i : Nat) : Fld := ⟨R.TSL_CHtSO i, 0, 32⟩

/-- TSL_CHtSTAT (R361). -/
def R.TSL_CHtSTAT (i : Nat) : Reg := ⟨0x5000c020 + 64 * i, 0x0#32⟩
def F.TSL_CHtSTAT_RUN (i : Nat) : Fld := ⟨R.TSL_CHtSTAT i, 0, 1⟩
def F.TSL_CHtSTAT_WAIT (i : Nat) : Fld := ⟨R.TSL_CHtSTAT i, 1, 1⟩
def F.TSL_CHtSTAT_STALL (i : Nat) : Fld := ⟨R.TSL_CHtSTAT i, 2, 1⟩
def F.TSL_CHtSTAT_C (i : Nat) : Fld := ⟨R.TSL_CHtSTAT i, 3, 3⟩
def F.TSL_CHtSTAT_STOPCAUSE (i : Nat) : Fld := ⟨R.TSL_CHtSTAT i, 8, 3⟩
def F.TSL_CHtSTAT_STARTERR (i : Nat) : Fld := ⟨R.TSL_CHtSTAT i, 11, 1⟩
def F.TSL_CHtSTAT_LATE (i : Nat) : Fld := ⟨R.TSL_CHtSTAT i, 16, 1⟩
def F.TSL_CHtSTAT_OVERRUN (i : Nat) : Fld := ⟨R.TSL_CHtSTAT i, 17, 1⟩
def F.TSL_CHtSTAT_STALLED (i : Nat) : Fld := ⟨R.TSL_CHtSTAT i, 18, 1⟩

/-- TSL_CHtLATECNT (R361). -/
def R.TSL_CHtLATECNT (i : Nat) : Reg := ⟨0x5000c024 + 64 * i, 0x0#32⟩
def F.TSL_CHtLATECNT_COUNT (i : Nat) : Fld := ⟨R.TSL_CHtLATECNT i, 0, 16⟩

/-- TSL_PINLVL (R361). -/
def R.TSL_PINLVL : Reg := ⟨0x5000c800, 0x0#32⟩
def F.TSL_PINLVL_LVL : Fld := ⟨R.TSL_PINLVL, 0, 32⟩

/-- TSL_RUNNING (R361). -/
def R.TSL_RUNNING : Reg := ⟨0x5000c804, 0x0#32⟩
def F.TSL_RUNNING_RUN : Fld := ⟨R.TSL_RUNNING, 0, 24⟩

/-- SER_UuCTL (R371). -/
def R.SER_UuCTL (i : Nat) : Reg := ⟨0x5000e000 + 256 * i, 0x0#32⟩
def F.SER_UuCTL_EN (i : Nat) : Fld := ⟨R.SER_UuCTL i, 0, 1⟩
def F.SER_UuCTL_TXEN (i : Nat) : Fld := ⟨R.SER_UuCTL i, 1, 1⟩
def F.SER_UuCTL_RXEN (i : Nat) : Fld := ⟨R.SER_UuCTL i, 2, 1⟩
def F.SER_UuCTL_FMT (i : Nat) : Fld := ⟨R.SER_UuCTL i, 3, 2⟩
def F.SER_UuCTL_HDX (i : Nat) : Fld := ⟨R.SER_UuCTL i, 5, 1⟩
def F.SER_UuCTL_ECHO (i : Nat) : Fld := ⟨R.SER_UuCTL i, 6, 1⟩
def F.SER_UuCTL_ADDRM (i : Nat) : Fld := ⟨R.SER_UuCTL i, 7, 1⟩
def F.SER_UuCTL_ADDR (i : Nat) : Fld := ⟨R.SER_UuCTL i, 8, 8⟩

/-- SER_UuBAUD (R371). -/
def R.SER_UuBAUD (i : Nat) : Reg := ⟨0x5000e004 + 256 * i, 0x1034#32⟩
def F.SER_UuBAUD_DIV (i : Nat) : Fld := ⟨R.SER_UuBAUD i, 0, 12⟩
def F.SER_UuBAUD_FRAC (i : Nat) : Fld := ⟨R.SER_UuBAUD i, 12, 4⟩

/-- SER_UuDATA (R371). -/
def R.SER_UuDATA (i : Nat) : Reg := ⟨0x5000e008 + 256 * i, 0x0#32⟩
def F.SER_UuDATA_DATA (i : Nat) : Fld := ⟨R.SER_UuDATA i, 0, 9⟩
def F.SER_UuDATA_PE (i : Nat) : Fld := ⟨R.SER_UuDATA i, 12, 1⟩
def F.SER_UuDATA_FE (i : Nat) : Fld := ⟨R.SER_UuDATA i, 13, 1⟩
def F.SER_UuDATA_BRK (i : Nat) : Fld := ⟨R.SER_UuDATA i, 14, 1⟩
def F.SER_UuDATA_VALID (i : Nat) : Fld := ⟨R.SER_UuDATA i, 31, 1⟩

/-- SER_UuSTAT (R371). -/
def R.SER_UuSTAT (i : Nat) : Reg := ⟨0x5000e00c + 256 * i, 0x0#32⟩
def F.SER_UuSTAT_TXLVL (i : Nat) : Fld := ⟨R.SER_UuSTAT i, 0, 5⟩
def F.SER_UuSTAT_RXLVL (i : Nat) : Fld := ⟨R.SER_UuSTAT i, 8, 5⟩
def F.SER_UuSTAT_TXBUSY (i : Nat) : Fld := ⟨R.SER_UuSTAT i, 16, 1⟩
def F.SER_UuSTAT_OVR (i : Nat) : Fld := ⟨R.SER_UuSTAT i, 17, 1⟩
def F.SER_UuSTAT_PE (i : Nat) : Fld := ⟨R.SER_UuSTAT i, 18, 1⟩
def F.SER_UuSTAT_FE (i : Nat) : Fld := ⟨R.SER_UuSTAT i, 19, 1⟩
def F.SER_UuSTAT_BRK (i : Nat) : Fld := ⟨R.SER_UuSTAT i, 20, 1⟩

/-- SER_UuWM (R371). -/
def R.SER_UuWM (i : Nat) : Reg := ⟨0x5000e010 + 256 * i, 0x0#32⟩
def F.SER_UuWM_TXWM (i : Nat) : Fld := ⟨R.SER_UuWM i, 0, 4⟩
def F.SER_UuWM_RXWM (i : Nat) : Fld := ⟨R.SER_UuWM i, 8, 4⟩

/-- SER_UuDE (R371). -/
def R.SER_UuDE (i : Nat) : Reg := ⟨0x5000e014 + 256 * i, 0x11#32⟩
def F.SER_UuDE_DELEAD (i : Nat) : Fld := ⟨R.SER_UuDE i, 0, 4⟩
def F.SER_UuDE_DETAIL (i : Nat) : Fld := ⟨R.SER_UuDE i, 4, 4⟩
def F.SER_UuDE_DEPOL (i : Nat) : Fld := ⟨R.SER_UuDE i, 8, 1⟩

/-- SER_ICTL (R371). -/
def R.SER_ICTL : Reg := ⟨0x5000e200, 0x0#32⟩
def F.SER_ICTL_CEN : Fld := ⟨R.SER_ICTL, 0, 1⟩
def F.SER_ICTL_TEN : Fld := ⟨R.SER_ICTL, 1, 1⟩
def F.SER_ICTL_TADDR : Fld := ⟨R.SER_ICTL, 8, 7⟩

/-- SER_ITIM (R371). -/
def R.SER_ITIM : Reg := ⟨0x5000e204, 0x1CC01F4#32⟩
def F.SER_ITIM_SCLL : Fld := ⟨R.SER_ITIM, 0, 10⟩
def F.SER_ITIM_SCLH : Fld := ⟨R.SER_ITIM, 16, 10⟩

/-- SER_ICMD (R371). -/
def R.SER_ICMD : Reg := ⟨0x5000e208, 0x0#32⟩
def F.SER_ICMD : Fld := ⟨R.SER_ICMD, 0, 24⟩

/-- SER_IRX (R371). -/
def R.SER_IRX : Reg := ⟨0x5000e20c, 0x0#32⟩
def F.SER_IRX_DATA : Fld := ⟨R.SER_IRX, 0, 8⟩
def F.SER_IRX_VALID : Fld := ⟨R.SER_IRX, 31, 1⟩

/-- SER_ISTAT (R371). -/
def R.SER_ISTAT : Reg := ⟨0x5000e210, 0x2#32⟩
def F.SER_ISTAT_BUSY : Fld := ⟨R.SER_ISTAT, 0, 1⟩
def F.SER_ISTAT_CMDEMPTY : Fld := ⟨R.SER_ISTAT, 1, 1⟩
def F.SER_ISTAT_NACK : Fld := ⟨R.SER_ISTAT, 8, 1⟩
def F.SER_ISTAT_ARBLOST : Fld := ⟨R.SER_ISTAT, 9, 1⟩
def F.SER_ISTAT_TSTART : Fld := ⟨R.SER_ISTAT, 10, 1⟩
def F.SER_ISTAT_TSTOP : Fld := ⟨R.SER_ISTAT, 11, 1⟩
def F.SER_ISTAT_TRD : Fld := ⟨R.SER_ISTAT, 12, 1⟩
def F.SER_ISTAT_TWR : Fld := ⟨R.SER_ISTAT, 13, 1⟩

/-- SER_ITDATA (R371). -/
def R.SER_ITDATA : Reg := ⟨0x5000e214, 0x0#32⟩
def F.SER_ITDATA_DATA : Fld := ⟨R.SER_ITDATA, 0, 8⟩

/-- SER_HCTL (R371). -/
def R.SER_HCTL : Reg := ⟨0x5000e300, 0x0#32⟩
def F.SER_HCTL_IRQEN : Fld := ⟨R.SER_HCTL, 0, 1⟩

/-- SER_HSTAT (R371). -/
def R.SER_HSTAT : Reg := ⟨0x5000e304, 0x0#32⟩
def F.SER_HSTAT_SELECTED : Fld := ⟨R.SER_HSTAT, 0, 1⟩
def F.SER_HSTAT_MODE3 : Fld := ⟨R.SER_HSTAT, 1, 1⟩
def F.SER_HSTAT_ABORT : Fld := ⟨R.SER_HSTAT, 8, 1⟩

/-- SER_OWN (R371). -/
def R.SER_OWN : Reg := ⟨0x5000e3f0, 0x1010101#32⟩
def F.SER_OWN_UART0 : Fld := ⟨R.SER_OWN, 0, 6⟩
def F.SER_OWN_UART1 : Fld := ⟨R.SER_OWN, 8, 6⟩
def F.SER_OWN_I2C : Fld := ⟨R.SER_OWN, 16, 6⟩
def F.SER_OWN_HOST : Fld := ⟨R.SER_OWN, 24, 6⟩

/-- CHN_CTL (R404). -/
def R.CHN_CTL : Reg := ⟨0x5000d000, 0x0#32⟩
def F.CHN_CTL_REENUM : Fld := ⟨R.CHN_CTL, 0, 1⟩

/-- CHN_CFG (R404). -/
def R.CHN_CFG : Reg := ⟨0x5000d004, 0x32141070#32⟩
def F.CHN_CFG_UPRATE : Fld := ⟨R.CHN_CFG, 0, 2⟩
def F.CHN_CFG_DNRATE : Fld := ⟨R.CHN_CFG, 2, 2⟩
def F.CHN_CFG_UPTERM : Fld := ⟨R.CHN_CFG, 4, 1⟩
def F.CHN_CFG_DNTERM : Fld := ⟨R.CHN_CFG, 5, 1⟩
def F.CHN_CFG_RINGEN : Fld := ⟨R.CHN_CFG, 6, 1⟩
def F.CHN_CFG_ERRLIM : Fld := ⟨R.CHN_CFG, 8, 8⟩
def F.CHN_CFG_LOSTDLY : Fld := ⟨R.CHN_CFG, 16, 8⟩
def F.CHN_CFG_ENDWAIT : Fld := ⟨R.CHN_CFG, 24, 8⟩

/-- CHN_ADDR (R404). -/
def R.CHN_ADDR : Reg := ⟨0x5000d008, 0x0#32⟩
def F.CHN_ADDR_NUNITS : Fld := ⟨R.CHN_ADDR, 16, 7⟩
def F.CHN_ADDR_ADDR : Fld := ⟨R.CHN_ADDR, 0, 7⟩
def F.CHN_ADDR_VALID : Fld := ⟨R.CHN_ADDR, 7, 1⟩
def F.CHN_ADDR_HEAD : Fld := ⟨R.CHN_ADDR, 8, 1⟩
def F.CHN_ADDR_RING : Fld := ⟨R.CHN_ADDR, 9, 1⟩
def F.CHN_ADDR_RINGBRK : Fld := ⟨R.CHN_ADDR, 10, 1⟩
def F.CHN_ADDR_ORPHAN : Fld := ⟨R.CHN_ADDR, 11, 1⟩
def F.CHN_ADDR_QUAR : Fld := ⟨R.CHN_ADDR, 12, 2⟩
def F.CHN_ADDR_YIELD : Fld := ⟨R.CHN_ADDR, 14, 1⟩

/-- CHN_TOKEN (R404). -/
def R.CHN_TOKEN : Reg := ⟨0x5000d00c, 0x0#32⟩
def F.CHN_TOKEN_TOKEN : Fld := ⟨R.CHN_TOKEN, 0, 32⟩

/-- CHN_pSTAT (R404). -/
def R.CHN_pSTAT (i : Nat) : Reg := ⟨0x5000d010 + 32 * i, 0x0#32⟩
def F.CHN_pSTAT_LOCK (i : Nat) : Fld := ⟨R.CHN_pSTAT i, 0, 1⟩
def F.CHN_pSTAT_LINK (i : Nat) : Fld := ⟨R.CHN_pSTAT i, 1, 1⟩
def F.CHN_pSTAT_RXINV (i : Nat) : Fld := ⟨R.CHN_pSTAT i, 2, 1⟩
def F.CHN_pSTAT_RXRATE (i : Nat) : Fld := ⟨R.CHN_pSTAT i, 3, 2⟩
def F.CHN_pSTAT_TXRATE (i : Nat) : Fld := ⟨R.CHN_pSTAT i, 5, 2⟩
def F.CHN_pSTAT_NADDR (i : Nat) : Fld := ⟨R.CHN_pSTAT i, 8, 7⟩
def F.CHN_pSTAT_NVALID (i : Nat) : Fld := ⟨R.CHN_pSTAT i, 15, 1⟩
def F.CHN_pSTAT_NHEAD (i : Nat) : Fld := ⟨R.CHN_pSTAT i, 16, 1⟩
def F.CHN_pSTAT_NVER (i : Nat) : Fld := ⟨R.CHN_pSTAT i, 24, 8⟩

/-- CHN_pCRED (R404). -/
def R.CHN_pCRED (i : Nat) : Reg := ⟨0x5000d014 + 32 * i, 0x4444#32⟩
def F.CHN_pCRED_TXCRED (i : Nat) : Fld := ⟨R.CHN_pCRED i, 0, 15⟩
def F.CHN_pCRED_RXOCC (i : Nat) : Fld := ⟨R.CHN_pCRED i, 16, 15⟩

/-- CHN_pERR (R404). -/
def R.CHN_pERR (i : Nat) : Reg := ⟨0x5000d018 + 32 * i, 0x0#32⟩
def F.CHN_pERR_CRCERR (i : Nat) : Fld := ⟨R.CHN_pERR i, 0, 16⟩
def F.CHN_pERR_CODEERR (i : Nat) : Fld := ⟨R.CHN_pERR i, 16, 8⟩
def F.CHN_pERR_LINKDN (i : Nat) : Fld := ⟨R.CHN_pERR i, 24, 8⟩

/-- CHN_pDROP (R404). -/
def R.CHN_pDROP (i : Nat) : Reg := ⟨0x5000d01c + 32 * i, 0x0#32⟩
def F.CHN_pDROP_POISON (i : Nat) : Fld := ⟨R.CHN_pDROP i, 0, 8⟩
def F.CHN_pDROP_HOPDROP (i : Nat) : Fld := ⟨R.CHN_pDROP i, 8, 8⟩
def F.CHN_pDROP_MISSFR (i : Nat) : Fld := ⟨R.CHN_pDROP i, 16, 8⟩
def F.CHN_pDROP_UNKTYPE (i : Nat) : Fld := ⟨R.CHN_pDROP i, 24, 8⟩

/-- CHN_UPMAPLO (R404). -/
def R.CHN_UPMAPLO : Reg := ⟨0x5000d050, 0x0#32⟩
def F.CHN_UPMAPLO_MAP : Fld := ⟨R.CHN_UPMAPLO, 0, 32⟩

/-- CHN_UPMAPHI (R404). -/
def R.CHN_UPMAPHI : Reg := ⟨0x5000d054, 0x0#32⟩
def F.CHN_UPMAPHI_MAP : Fld := ⟨R.CHN_UPMAPHI, 0, 32⟩

/-- CHN_LIVELO (R404). -/
def R.CHN_LIVELO : Reg := ⟨0x5000d058, 0x0#32⟩
def F.CHN_LIVELO_MAP : Fld := ⟨R.CHN_LIVELO, 0, 32⟩

/-- CHN_LIVEHI (R404). -/
def R.CHN_LIVEHI : Reg := ⟨0x5000d05c, 0x0#32⟩
def F.CHN_LIVEHI_MAP : Fld := ⟨R.CHN_LIVEHI, 0, 32⟩

/-- CHN_REACHLO (R404). -/
def R.CHN_REACHLO : Reg := ⟨0x5000d060, 0x0#32⟩
def F.CHN_REACHLO_MAP : Fld := ⟨R.CHN_REACHLO, 0, 32⟩

/-- CHN_REACHHI (R404). -/
def R.CHN_REACHHI : Reg := ⟨0x5000d064, 0x0#32⟩
def F.CHN_REACHHI_MAP : Fld := ⟨R.CHN_REACHHI, 0, 32⟩

/-- CHN_LOSTLO (R404). -/
def R.CHN_LOSTLO : Reg := ⟨0x5000d068, 0x0#32⟩
def F.CHN_LOSTLO_MAP : Fld := ⟨R.CHN_LOSTLO, 0, 32⟩

/-- CHN_LOSTHI (R404). -/
def R.CHN_LOSTHI : Reg := ⟨0x5000d06c, 0x0#32⟩
def F.CHN_LOSTHI_MAP : Fld := ⟨R.CHN_LOSTHI, 0, 32⟩

/-- CHN_VERS (R404). -/
def R.CHN_VERS : Reg := ⟨0x5000d070, 0x13#32⟩
def F.CHN_VERS_OWN : Fld := ⟨R.CHN_VERS, 0, 8⟩
def F.CHN_VERS_HEAD : Fld := ⟨R.CHN_VERS, 8, 8⟩

/-- CHN_EVT (R404). -/
def R.CHN_EVT : Reg := ⟨0x5000d078, 0x0#32⟩
def F.CHN_EVT : Fld := ⟨R.CHN_EVT, 0, 14⟩

/-- CHN_EVTEN (R404). -/
def R.CHN_EVTEN : Reg := ⟨0x5000d07c, 0x0#32⟩
def F.CHN_EVTEN : Fld := ⟨R.CHN_EVTEN, 0, 14⟩

/-- CHN_TRCFG0 (R433). -/
def R.CHN_TRCFG0 : Reg := ⟨0x5000d100, 0x320200C8#32⟩
def F.CHN_TRCFG0 : Fld := ⟨R.CHN_TRCFG0, 0, 32⟩
def F.CHN_TRCFG0_RSPTO : Fld := ⟨R.CHN_TRCFG0, 0, 16⟩
def F.CHN_TRCFG0_RETRIES : Fld := ⟨R.CHN_TRCFG0, 16, 3⟩
def F.CHN_TRCFG0_MSGTO : Fld := ⟨R.CHN_TRCFG0, 24, 8⟩

/-- CHN_TRCFG1 (R433). -/
def R.CHN_TRCFG1 : Reg := ⟨0x5000d104, 0xC94403E8#32⟩
def F.CHN_TRCFG1 : Fld := ⟨R.CHN_TRCFG1, 0, 32⟩
def F.CHN_TRCFG1_SYNCPER : Fld := ⟨R.CHN_TRCFG1, 0, 16⟩
def F.CHN_TRCFG1_SYNCLOST : Fld := ⟨R.CHN_TRCFG1, 16, 4⟩
def F.CHN_TRCFG1_PDINT : Fld := ⟨R.CHN_TRCFG1, 20, 4⟩
def F.CHN_TRCFG1_MAINTEN : Fld := ⟨R.CHN_TRCFG1, 24, 1⟩
def F.CHN_TRCFG1_MAINTTO : Fld := ⟨R.CHN_TRCFG1, 25, 7⟩

/-- CHN_TRCFG2 (R433). -/
def R.CHN_TRCFG2 : Reg := ⟨0x5000d108, 0x4103E8#32⟩
def F.CHN_TRCFG2 : Fld := ⟨R.CHN_TRCFG2, 0, 32⟩
def F.CHN_TRCFG2_STEPLIM : Fld := ⟨R.CHN_TRCFG2, 0, 16⟩
def F.CHN_TRCFG2_KP : Fld := ⟨R.CHN_TRCFG2, 16, 4⟩
def F.CHN_TRCFG2_KI : Fld := ⟨R.CHN_TRCFG2, 20, 4⟩

/-- CHN_TRCFG3 (R433). -/
def R.CHN_TRCFG3 : Reg := ⟨0x5000d10c, 0x0#32⟩
def F.CHN_TRCFG3 : Fld := ⟨R.CHN_TRCFG3, 0, 32⟩

/-- CHN_TXSTAT (R433). -/
def R.CHN_TXSTAT : Reg := ⟨0x5000d110, 0x0#32⟩
def F.CHN_TXSTAT_OUTST : Fld := ⟨R.CHN_TXSTAT, 0, 6⟩
def F.CHN_TXSTAT_STALE : Fld := ⟨R.CHN_TXSTAT, 8, 8⟩
def F.CHN_TXSTAT_STAGELOST : Fld := ⟨R.CHN_TXSTAT, 16, 1⟩

/-- CHN_TXERRHEAD (R433). -/
def R.CHN_TXERRHEAD : Reg := ⟨0x5000d114, 0x0#32⟩
def F.CHN_TXERRHEAD_NEXT : Fld := ⟨R.CHN_TXERRHEAD, 0, 3⟩

/-- CHN_TXERRA (R433). -/
def R.CHN_TXERRA (i : Nat) : Reg := ⟨0x5000d120 + 8 * i, 0x0#32⟩
def F.CHN_TXERRA_OFFSET (i : Nat) : Fld := ⟨R.CHN_TXERRA i, 0, 15⟩
def F.CHN_TXERRA_DST (i : Nat) : Fld := ⟨R.CHN_TXERRA i, 16, 7⟩

/-- CHN_TXERRB (R433). -/
def R.CHN_TXERRB (i : Nat) : Reg := ⟨0x5000d124 + 8 * i, 0x0#32⟩
def F.CHN_TXERRB_CID (i : Nat) : Fld := ⟨R.CHN_TXERRB i, 0, 6⟩
def F.CHN_TXERRB_CODE (i : Nat) : Fld := ⟨R.CHN_TXERRB i, 8, 4⟩
def F.CHN_TXERRB_KIND (i : Nat) : Fld := ⟨R.CHN_TXERRB i, 12, 2⟩
def F.CHN_TXERRB_VALID (i : Nat) : Fld := ⟨R.CHN_TXERRB i, 31, 1⟩

/-- CHN_MSGSEND (R433). -/
def R.CHN_MSGSEND : Reg := ⟨0x5000d160, 0x0#32⟩
def F.CHN_MSGSEND_HANDLE : Fld := ⟨R.CHN_MSGSEND, 0, 16⟩
def F.CHN_MSGSEND_MBX : Fld := ⟨R.CHN_MSGSEND, 16, 5⟩
def F.CHN_MSGSEND_DST : Fld := ⟨R.CHN_MSGSEND, 24, 7⟩

/-- CHN_MSGRES (R433). -/
def R.CHN_MSGRES : Reg := ⟨0x5000d164, 0x0#32⟩
def F.CHN_MSGRES_HANDLE : Fld := ⟨R.CHN_MSGRES, 0, 16⟩
def F.CHN_MSGRES_CODE : Fld := ⟨R.CHN_MSGRES, 16, 4⟩
def F.CHN_MSGRES_CID : Fld := ⟨R.CHN_MSGRES, 24, 6⟩
def F.CHN_MSGRES_VALID : Fld := ⟨R.CHN_MSGRES, 31, 1⟩

/-- CHN_TSTAT (R433). -/
def R.CHN_TSTAT : Reg := ⟨0x5000d170, 0x0#32⟩
def F.CHN_TSTAT_DISC : Fld := ⟨R.CHN_TSTAT, 0, 1⟩
def F.CHN_TSTAT_PORT : Fld := ⟨R.CHN_TSTAT, 1, 1⟩
def F.CHN_TSTAT_MISSED : Fld := ⟨R.CHN_TSTAT, 8, 8⟩
def F.CHN_TSTAT_STEPCNT : Fld := ⟨R.CHN_TSTAT, 16, 16⟩

/-- CHN_TOFFS (R433). -/
def R.CHN_TOFFS : Reg := ⟨0x5000d174, 0x0#32⟩
def F.CHN_TOFFS_THETA : Fld := ⟨R.CHN_TOFFS, 0, 32⟩

/-- CHN_TLINKDLY (R433). -/
def R.CHN_TLINKDLY : Reg := ⟨0x5000d178, 0x0#32⟩
def F.CHN_TLINKDLY_DLY : Fld := ⟨R.CHN_TLINKDLY, 0, 32⟩

/-- CHN_TFREQ (R433). -/
def R.CHN_TFREQ : Reg := ⟨0x5000d17c, 0x0#32⟩
def F.CHN_TFREQ_F : Fld := ⟨R.CHN_TFREQ, 0, 32⟩

/-- CHN_TSETLO (R433). -/
def R.CHN_TSETLO : Reg := ⟨0x5000d180, 0x0#32⟩
def F.CHN_TSETLO_TIME : Fld := ⟨R.CHN_TSETLO, 0, 32⟩

/-- CHN_TSETHI (R433). -/
def R.CHN_TSETHI : Reg := ⟨0x5000d184, 0x0#32⟩
def F.CHN_TSETHI_TIME : Fld := ⟨R.CHN_TSETHI, 0, 32⟩

/-- CHN_MAINT (R433). -/
def R.CHN_MAINT : Reg := ⟨0x5000d190, 0x0#32⟩
def F.CHN_MAINT_OPEN : Fld := ⟨R.CHN_MAINT, 0, 1⟩
def F.CHN_MAINT_HOLDER : Fld := ⟨R.CHN_MAINT, 1, 7⟩

/-- CHN_HOSTSTAT (R433). -/
def R.CHN_HOSTSTAT : Reg := ⟨0x5000d1a0, 0x4#32⟩
def F.CHN_HOSTSTAT_TXFREE : Fld := ⟨R.CHN_HOSTSTAT, 0, 3⟩
def F.CHN_HOSTSTAT_RXCNT : Fld := ⟨R.CHN_HOSTSTAT, 8, 4⟩
def F.CHN_HOSTSTAT_HDISC : Fld := ⟨R.CHN_HOSTSTAT, 16, 8⟩
def F.CHN_HOSTSTAT_HOVF : Fld := ⟨R.CHN_HOSTSTAT, 24, 8⟩

/-- CHN_XEVT (R433). -/
def R.CHN_XEVT : Reg := ⟨0x5000d1f0, 0x0#32⟩
def F.CHN_XEVT : Fld := ⟨R.CHN_XEVT, 0, 6⟩

/-- CHN_XEVTEN (R433). -/
def R.CHN_XEVTEN : Reg := ⟨0x5000d1f4, 0x0#32⟩
def F.CHN_XEVTEN : Fld := ⟨R.CHN_XEVTEN, 0, 6⟩

/-- SYS_GOVLIM (R456). -/
def R.SYS_GOVLIM : Reg := ⟨0x50000300, 0x41A0258#32⟩
def F.SYS_GOVLIM_VMIN : Fld := ⟨R.SYS_GOVLIM, 0, 11⟩
def F.SYS_GOVLIM_VMAX : Fld := ⟨R.SYS_GOVLIM, 16, 11⟩

/-- SYS_GOVCFG (R456). -/
def R.SYS_GOVCFG : Reg := ⟨0x50000304, 0x50A19#32⟩
def F.SYS_GOVCFG_TARGET : Fld := ⟨R.SYS_GOVCFG, 0, 7⟩
def F.SYS_GOVCFG_HYST : Fld := ⟨R.SYS_GOVCFG, 8, 6⟩
def F.SYS_GOVCFG_EMERG : Fld := ⟨R.SYS_GOVCFG, 16, 7⟩

/-- SYS_GOVSET (R456). -/
def R.SYS_GOVSET : Reg := ⟨0x50000308, 0x3840384#32⟩
def F.SYS_GOVSET_VIDLE : Fld := ⟨R.SYS_GOVSET, 0, 11⟩
def F.SYS_GOVSET_VFIX : Fld := ⟨R.SYS_GOVSET, 16, 11⟩
def F.SYS_GOVSET_MODE : Fld := ⟨R.SYS_GOVSET, 31, 1⟩

/-- SYS_GOVFLOOR (R456). -/
def R.SYS_GOVFLOOR : Reg := ⟨0x5000030c, 0x0#32⟩
def F.SYS_GOVFLOOR_FLOOR : Fld := ⟨R.SYS_GOVFLOOR, 0, 11⟩

/-- SYS_GOVSTAT (R456). -/
def R.SYS_GOVSTAT : Reg := ⟨0x50000310, 0x384#32⟩
def F.SYS_GOVSTAT_VTGT : Fld := ⟨R.SYS_GOVSTAT, 0, 11⟩
def F.SYS_GOVSTAT_WIN : Fld := ⟨R.SYS_GOVSTAT, 16, 7⟩
def F.SYS_GOVSTAT_STATE : Fld := ⟨R.SYS_GOVSTAT, 24, 2⟩
def F.SYS_GOVSTAT_ATMIN : Fld := ⟨R.SYS_GOVSTAT, 26, 1⟩
def F.SYS_GOVSTAT_ATMAX : Fld := ⟨R.SYS_GOVSTAT, 27, 1⟩

/-- SYS_GOVCNT (R456). -/
def R.SYS_GOVCNT : Reg := ⟨0x50000314, 0x0#32⟩
def F.SYS_GOVCNT_DOWN : Fld := ⟨R.SYS_GOVCNT, 0, 16⟩
def F.SYS_GOVCNT_UP : Fld := ⟨R.SYS_GOVCNT, 16, 8⟩
def F.SYS_GOVCNT_EMERG : Fld := ⟨R.SYS_GOVCNT, 24, 8⟩

/-- SYS_GOVSLK (R456). -/
def R.SYS_GOVSLK : Reg := ⟨0x50000318, 0x0#32⟩
def F.SYS_GOVSLK_MIN : Fld := ⟨R.SYS_GOVSLK, 0, 16⟩

/-- SYS_POLSTAT (R456). -/
def R.SYS_POLSTAT : Reg := ⟨0x50000320, 0x7FFF0000#32⟩
def F.SYS_POLSTAT_ACTION : Fld := ⟨R.SYS_POLSTAT, 0, 2⟩
def F.SYS_POLSTAT_TRIG : Fld := ⟨R.SYS_POLSTAT, 4, 9⟩
def F.SYS_POLSTAT_DERATE : Fld := ⟨R.SYS_POLSTAT, 16, 16⟩

/-- SYS_POLLATCH (R456). -/
def R.SYS_POLLATCH : Reg := ⟨0x50000324, 0x0#32⟩
def F.SYS_POLLATCH_LATCH : Fld := ⟨R.SYS_POLLATCH, 0, 9⟩

/-- SYS_POLCTL (R456). -/
def R.SYS_POLCTL : Reg := ⟨0x50000328, 0x0#32⟩
def F.SYS_POLCTL_CLR : Fld := ⟨R.SYS_POLCTL, 0, 1⟩

/-- SYS_POLSW (R456). -/
def R.SYS_POLSW : Reg := ⟨0x5000032c, 0x0#32⟩
def F.SYS_POLSW_CMWARN : Fld := ⟨R.SYS_POLSW, 0, 3⟩

/-- SYS_POLFACT (R456). -/
def R.SYS_POLFACT : Reg := ⟨0x50000330, 0x73337FFF#32⟩
def F.SYS_POLFACT_THERM : Fld := ⟨R.SYS_POLFACT, 0, 16⟩
def F.SYS_POLFACT_REF : Fld := ⟨R.SYS_POLFACT, 16, 16⟩

/-- SYS_POLRAMP (R456). -/
def R.SYS_POLRAMP : Reg := ⟨0x50000334, 0x0#32⟩
def F.SYS_POLRAMP_REMAIN : Fld := ⟨R.SYS_POLRAMP, 0, 16⟩

/-- SYS_POLIMG (R456). -/
def R.SYS_POLIMG (i : Nat) : Reg := ⟨0x50000700 + 4 * i, polImgRst i⟩
def F.SYS_POLIMG (i : Nat) : Fld := ⟨R.SYS_POLIMG i, 0, 32⟩

/-- LCS_STATE (R480). -/
def R.LCS_STATE : Reg := ⟨0x5000f000, 0x0#32⟩
def F.LCS_STATE_STATE : Fld := ⟨R.LCS_STATE, 0, 3⟩
def F.LCS_STATE_KEYPROG : Fld := ⟨R.LCS_STATE, 8, 4⟩
def F.LCS_STATE_KEYREV : Fld := ⟨R.LCS_STATE, 12, 4⟩
def F.LCS_STATE_TSET : Fld := ⟨R.LCS_STATE, 16, 5⟩
def F.LCS_STATE_TACK : Fld := ⟨R.LCS_STATE, 24, 5⟩

/-- LCS_CMD (R480). -/
def R.LCS_CMD : Reg := ⟨0x5000f010, 0x0#32⟩
def F.LCS_CMD_CMD : Fld := ⟨R.LCS_CMD, 0, 4⟩
def F.LCS_CMD_SLOT : Fld := ⟨R.LCS_CMD, 4, 2⟩
def F.LCS_CMD_KEY : Fld := ⟨R.LCS_CMD, 16, 16⟩

/-- LCS_CMDSTAT (R480). -/
def R.LCS_CMDSTAT : Reg := ⟨0x5000f014, 0x0#32⟩
def F.LCS_CMDSTAT_BUSY : Fld := ⟨R.LCS_CMDSTAT, 0, 1⟩
def F.LCS_CMDSTAT_DONE : Fld := ⟨R.LCS_CMDSTAT, 1, 1⟩
def F.LCS_CMDSTAT_ERR : Fld := ⟨R.LCS_CMDSTAT, 8, 4⟩

/-- LCS_KEYDATAi (R480). -/
def R.LCS_KEYDATAi (i : Nat) : Reg := ⟨0x5000f020 + 4 * i, 0x0#32⟩
def F.LCS_KEYDATAi (i : Nat) : Fld := ⟨R.LCS_KEYDATAi i, 0, 32⟩

/-- LCS_KEYHASH (R480). -/
def R.LCS_KEYHASH (i j : Nat) : Reg := ⟨0x5000f040 + 32 * i + 4 * j, 0x0#32⟩
def F.LCS_KEYHASH (i j : Nat) : Fld := ⟨R.LCS_KEYHASH i j, 0, 32⟩

/-- LCS_TAMPCFG (R480). -/
def R.LCS_TAMPCFG : Reg := ⟨0x5000f0c0, 0x1953E#32⟩
def F.LCS_TAMPCFG_TEN : Fld := ⟨R.LCS_TAMPCFG, 0, 6⟩
def F.LCS_TAMPCFG_TACT : Fld := ⟨R.LCS_TAMPCFG, 6, 12⟩
def F.LCS_TAMPCFG_TPOL : Fld := ⟨R.LCS_TAMPCFG, 18, 1⟩
def F.LCS_TAMPCFG_LOCK : Fld := ⟨R.LCS_TAMPCFG, 31, 1⟩

/-- LCS_TAMPSTAT (R480). -/
def R.LCS_TAMPSTAT : Reg := ⟨0x5000f0c4, 0x0#32⟩
def F.LCS_TAMPSTAT_LIVE : Fld := ⟨R.LCS_TAMPSTAT, 0, 6⟩
def F.LCS_TAMPSTAT_STICKY : Fld := ⟨R.LCS_TAMPSTAT, 8, 6⟩
def F.LCS_TAMPSTAT_LAST : Fld := ⟨R.LCS_TAMPSTAT, 16, 4⟩

/-- LCS_WDnCTL (R480). -/
def R.LCS_WDnCTL (i : Nat) : Reg := ⟨0x5000f100 + 32 * i, 0x100#32⟩
def F.LCS_WDnCTL_EN (i : Nat) : Fld := ⟨R.LCS_WDnCTL i, 0, 1⟩
def F.LCS_WDnCTL_LOCK (i : Nat) : Fld := ⟨R.LCS_WDnCTL i, 1, 1⟩
def F.LCS_WDnCTL_DBGPAUSE (i : Nat) : Fld := ⟨R.LCS_WDnCTL i, 2, 1⟩
def F.LCS_WDnCTL_KCID (i : Nat) : Fld := ⟨R.LCS_WDnCTL i, 8, 6⟩
def F.LCS_WDnCTL_CFGERR (i : Nat) : Fld := ⟨R.LCS_WDnCTL i, 16, 1⟩

/-- LCS_WDnWIN (R480). -/
def R.LCS_WDnWIN (i : Nat) : Reg := ⟨0x5000f104 + 32 * i, 0x0#32⟩
def F.LCS_WDnWIN_WINLO (i : Nat) : Fld := ⟨R.LCS_WDnWIN i, 0, 16⟩
def F.LCS_WDnWIN_WINHI (i : Nat) : Fld := ⟨R.LCS_WDnWIN i, 16, 16⟩

/-- LCS_WDnKICK (R480). -/
def R.LCS_WDnKICK (i : Nat) : Reg := ⟨0x5000f108 + 32 * i, 0x0#32⟩
def F.LCS_WDnKICK_KEY (i : Nat) : Fld := ⟨R.LCS_WDnKICK i, 0, 16⟩

/-- LCS_WDnSTAT (R480). -/
def R.LCS_WDnSTAT (i : Nat) : Reg := ⟨0x5000f10c + 32 * i, 0x0#32⟩
def F.LCS_WDnSTAT_COUNT (i : Nat) : Fld := ⟨R.LCS_WDnSTAT i, 0, 16⟩
def F.LCS_WDnSTAT_OPEN (i : Nat) : Fld := ⟨R.LCS_WDnSTAT i, 16, 1⟩
def F.LCS_WDnSTAT_NEXT (i : Nat) : Fld := ⟨R.LCS_WDnSTAT i, 17, 1⟩

/-- LCS_FACT (R480). -/
def R.LCS_FACT : Reg := ⟨0x5000f180, 0x0#32⟩
def F.LCS_FACT : Fld := ⟨R.LCS_FACT, 0, 12⟩

/-- LCS_FSTICKY (R480). -/
def R.LCS_FSTICKY : Reg := ⟨0x5000f184, 0x0#32⟩
def F.LCS_FSTICKY : Fld := ⟨R.LCS_FSTICKY, 0, 12⟩

/-- LCS_FCLASS (R480). -/
def R.LCS_FCLASS : Reg := ⟨0x5000f188, 0x0#32⟩
def F.LCS_FCLASS_PROMOTE : Fld := ⟨R.LCS_FCLASS, 5, 7⟩
def F.LCS_FCLASS_LOCK : Fld := ⟨R.LCS_FCLASS, 31, 1⟩

/-- LCS_NFMASK (R480). -/
def R.LCS_NFMASK : Reg := ⟨0x5000f18c, 0xFE0#32⟩
def F.LCS_NFMASK : Fld := ⟨R.LCS_NFMASK, 5, 7⟩

/-- LCS_FSTAT (R480). -/
def R.LCS_FSTAT : Reg := ⟨0x5000f190, 0x0#32⟩
def F.LCS_FSTAT_SAFE : Fld := ⟨R.LCS_FSTAT, 0, 1⟩
def F.LCS_FSTAT_WARN : Fld := ⟨R.LCS_FSTAT, 1, 1⟩
def F.LCS_FSTAT_NFLOW : Fld := ⟨R.LCS_FSTAT, 2, 1⟩

/-- LCS_FCLR (R480). -/
def R.LCS_FCLR : Reg := ⟨0x5000f194, 0x0#32⟩
def F.LCS_FCLR_KEY : Fld := ⟨R.LCS_FCLR, 0, 16⟩

/-- LCS_FSET (R480). -/
def R.LCS_FSET : Reg := ⟨0x5000f198, 0x0#32⟩
def F.LCS_FSET_SET : Fld := ⟨R.LCS_FSET, 0, 1⟩

/-- LCS_NFCTL (R480). -/
def R.LCS_NFCTL : Reg := ⟨0x5000f19c, 0x0#32⟩
def F.LCS_NFCTL_FORCE : Fld := ⟨R.LCS_NFCTL, 0, 1⟩

/-- LCS_WDRCAUSE (R480). -/
def R.LCS_WDRCAUSE : Reg := ⟨0x5000f1a0, 0x0#32⟩
def F.LCS_WDRCAUSE_WD : Fld := ⟨R.LCS_WDRCAUSE, 0, 1⟩
def F.LCS_WDRCAUSE_VIOL : Fld := ⟨R.LCS_WDRCAUSE, 1, 3⟩

/-- PIN_CFG (R492). -/
def R.PIN_CFG (i : Nat) : Reg := ⟨0x50007000 + 4 * i, 0x4F#32⟩
def F.PIN_CFG_FUNC (i : Nat) : Fld := ⟨R.PIN_CFG i, 0, 2⟩
def F.PIN_CFG_SAFELVL (i : Nat) : Fld := ⟨R.PIN_CFG i, 2, 2⟩
def F.PIN_CFG_PULL (i : Nat) : Fld := ⟨R.PIN_CFG i, 4, 2⟩
def F.PIN_CFG_DRIVE (i : Nat) : Fld := ⟨R.PIN_CFG i, 6, 2⟩
def F.PIN_CFG_SLOW (i : Nat) : Fld := ⟨R.PIN_CFG i, 8, 1⟩
def F.PIN_CFG_OD (i : Nat) : Fld := ⟨R.PIN_CFG i, 9, 1⟩
def F.PIN_CFG_SWITCHABLE (i : Nat) : Fld := ⟨R.PIN_CFG i, 10, 1⟩
def F.PIN_CFG_TRANS (i : Nat) : Fld := ⟨R.PIN_CFG i, 31, 1⟩

/-- PIN_GPOUT (R492). -/
def R.PIN_GPOUT (i : Nat) : Reg := ⟨0x50007200 + 32 * i, 0x0#32⟩
def F.PIN_GPOUT_OUT (i : Nat) : Fld := ⟨R.PIN_GPOUT i, 0, 32⟩

/-- PIN_GPOE (R492). -/
def R.PIN_GPOE (i : Nat) : Reg := ⟨0x50007204 + 32 * i, 0x0#32⟩
def F.PIN_GPOE_OE (i : Nat) : Fld := ⟨R.PIN_GPOE i, 0, 32⟩

/-- PIN_GPIN (R492). -/
def R.PIN_GPIN (i : Nat) : Reg := ⟨0x50007208 + 32 * i, 0x0#32⟩
def F.PIN_GPIN_IN (i : Nat) : Fld := ⟨R.PIN_GPIN i, 0, 32⟩

/-- PIN_GPSET (R492). -/
def R.PIN_GPSET (i : Nat) : Reg := ⟨0x5000720c + 32 * i, 0x0#32⟩
def F.PIN_GPSET (i : Nat) : Fld := ⟨R.PIN_GPSET i, 0, 32⟩

/-- PIN_GPCLR (R492). -/
def R.PIN_GPCLR (i : Nat) : Reg := ⟨0x50007210 + 32 * i, 0x0#32⟩
def F.PIN_GPCLR (i : Nat) : Fld := ⟨R.PIN_GPCLR i, 0, 32⟩

/-- PIN_SWREQ (R492). -/
def R.PIN_SWREQ : Reg := ⟨0x50007300, 0x0#32⟩
def F.PIN_SWREQ_PAD : Fld := ⟨R.PIN_SWREQ, 0, 7⟩
def F.PIN_SWREQ_FUNC : Fld := ⟨R.PIN_SWREQ, 8, 2⟩

/-- PIN_SWSTAT (R492). -/
def R.PIN_SWSTAT : Reg := ⟨0x50007304, 0x0#32⟩
def F.PIN_SWSTAT_BUSY : Fld := ⟨R.PIN_SWSTAT, 0, 1⟩
def F.PIN_SWSTAT_DONE : Fld := ⟨R.PIN_SWSTAT, 1, 1⟩
def F.PIN_SWSTAT_ERR : Fld := ⟨R.PIN_SWSTAT, 8, 4⟩
def F.PIN_SWSTAT_PAD : Fld := ⟨R.PIN_SWSTAT, 16, 7⟩

/-- PIN_TPDISC (R492). -/
def R.PIN_TPDISC : Reg := ⟨0x50007308, 0x0#32⟩
def F.PIN_TPDISC : Fld := ⟨R.PIN_TPDISC, 0, 32⟩

/-- TB_REFERR (R37). -/
def R.TB_REFERR : Reg := ⟨0x50001008, 0x0#32⟩
def F.TB_REFERR_ERR : Fld := ⟨R.TB_REFERR, 0, 24⟩

/-- PWM_BLKB_404 (R319). -/
def R.PWM_BLKB_404 : Reg := ⟨0x50009404, 0x0#32⟩

end Sys2Proof.Machine
end

