-- ==== Sys2Proof/Machine/StCamp.lean ====
section
/-!
DEFINITION. State of the Campion cores (04, 05).
-/
namespace Sys2Proof.Machine

/-- An active loop (R114): remaining count, start and end addresses. -/
structure Loop where
  lc : Nat
  ls : Nat
  le : Nat
deriving DecidableEq, Repr

/-- The registers of a context (R105). `sr` holds the RW fields of SR (R107); LF and LDEPTH follow from the loops. -/
structure CtxRegs where
  d : Vector Word 32 := Vector.replicate 32 0#32
  a : Vector Half 16 := Vector.replicate 16 0#16
  n : Vector Half 8 := Vector.replicate 8 0#16
  re : Vector (BitVec 40) 4 := Vector.replicate 4 0#40
  im : Vector (BitVec 40) 4 := Vector.replicate 4 0#40
  sr : Word := 0#32
  pc : BitVec 14 := 0#14
  loops : List Loop := []
deriving DecidableEq, Repr

/-- A register of a context that a syllable can write. -/
inductive CReg where
  | d (i : Nat) | a (i : Nat) | n (i : Nat) | re (i : Nat) | im (i : Nat) | sr
deriving DecidableEq, Repr

/-- A result on its way (R109 to R111): its register, the bits it replaces, their values, the slot of its syllable (0 LX to 5 BR, 6
the bundle's own ILL), the bundle that issued it, and the first bundle that can use it. -/
structure CWrite where
  reg : CReg
  mask : Nat
  val : Nat
  slot : Nat
  issued : Nat
  due : Nat
  ctx : Nat
deriving DecidableEq, Repr

/-- The delay slots of a branch (R112): how many are left, where it goes if taken, and whether it is a RETI. -/
structure Delay where
  left : Nat
  target : Option Nat
  reti : Bool
deriving DecidableEq, Repr

/-- A Campion core: whether it runs, is held; the running context and those preempted (innermost first); contexts; bundles issued;
results on their way; delay slots; repetitions left; a switch back that takes the next bundle (R120); LVLSRC1 to 3 (R122); the
first bundle that each startable level has to wait for, and the longest hold-off (R121). Every register starts at its value of R106. -/
structure Camp where
  run : Bool := false
  held : Bool := false
  ctx : Fin 4 := 0
  stack : List (Fin 4) := []
  regs : Vector CtxRegs 4 := #v[{}, { sr := 0x10#32 }, { sr := 0x20#32 }, { sr := 0x30#32 }]
  bundle : Nat := 0
  pend : List CWrite := []
  delay : Option Delay := none
  rep : Nat := 0
  back : Bool := false
  lvlsrc : Vector Nat 4 := Vector.replicate 4 0
  elig : Vector (Option Nat) 4 := Vector.replicate 4 none
  maxHold : Nat := 0
deriving DecidableEq, Repr

end Sys2Proof.Machine
end

