-- ==== Sys2Proof/Machine/StChain.lean ====
section
/-!
DEFINITION. State of the chain engine (13, 14), beyond its registers.
-/
namespace Sys2Proof.Machine

/-- A frame (R379, R380) without its CRT field and CRC, which each hop makes anew. Classes: 0 REQ, 1 RSP, 2 MSG, 3 MGMT. -/
structure Frame where
  cls : Nat
  dst : Nat
  typ : Nat
  src : Nat
  flag : Bool := false
  tag : Nat := 0
  hop : Nat := 0
  data : List Byte := []
deriving DecidableEq, Repr

/-- An occupied receive slot (R386): the frame, whether it is still to be acted on here, and the port it is to be forwarded
on. -/
structure Slot where
  f : Frame
  dlv : Bool
  fwd : Option (Fin 2)
deriving DecidableEq, Repr

/-- A frame being received whose forwarding has been decided (R384): its class, destination and whether the outgoing frame has
started. -/
structure Cut where
  cls : Nat
  dst : Nat
  started : Bool
deriving DecidableEq, Repr

/-- A port (0 UP, 1 DOWN) beyond its registers: receive slots in order of arrival, the frame in cut-through, counts of frames
accepted, released, sent and the credit return last received per class (R387, modulo 8), frames of this unit waiting to be sent,
whether the last frame sent of each class was a forwarded one and the last of REQ and MSG a REQ (R388), frames sent since the last idle
symbol, CRC and code errors of an interval with the interval they are of, and the hold-off after ERRLIM with its end (R378), when lock was
lost, the time until which a loss of lock is tolerated after RATECHG (R377), and a rate of its own to switch to. -/
structure Port where
  slots : List Slot := []
  cut : Option Cut := none
  acc : Vector Nat 4 := Vector.replicate 4 0
  rel : Vector Nat 4 := Vector.replicate 4 0
  snt : Vector Nat 4 := Vector.replicate 4 0
  crt : Vector Nat 4 := Vector.replicate 4 0
  queue : List Frame := []
  fwdLast : Vector Bool 4 := Vector.replicate 4 false
  reqLast : Bool := false
  streak : Nat := 0
  errs : Nat := 0
  errIv : Nat := 0
  ignore : Bool := false
  holdTo : Nat := 0
  lostAt : Nat := 0
  grace : Nat := 0
  rateTo : Option Nat := none
deriving DecidableEq, Repr

/-- Who waits for a chain request (R92, R410): a Yarrow load or fetch, a Yarrow store, a DMA channel's read or write of an element, the debug
module, a message, a write that no one waits for, or a requester outside the model. -/
inductive ReqBy where
  | yarrow | store | dmaRead (n : Fin 8) | dmaWrite (n : Fin 8) | sba | msg | other
deriving DecidableEq, Repr

/-- An open request (R411): the frame as sent, who waits, the window offset, the originating CID, its KIND in CHN_TXERRLOG, its
reserved buffer, the tries left, when its try times out (R412), and whether it stands for a TAKE of a CID that already waits (R262; assumption log 68). -/
structure Req where
  f : Frame
  by_ : ReqBy
  off : Nat
  cid : Nat
  kind : Nat
  buf : Nat
  tries : Nat
  due : Nat := 0
  take : Bool := false
deriving DecidableEq, Repr

/-- A request not yet issued, for 32 reservations are outstanding (R288, R410): its frame without TAG, and the rest of its record. -/
structure Plan where
  f : Frame
  by_ : ReqBy
  off : Nat
  cid : Nat
  kind : Nat
  take : Bool := false
deriving DecidableEq, Repr

/-- The post stage of a CID (R409): unit, mailbox, and words 1 to 3 where staged. -/
structure Stage where
  unit : Nat
  mbx : Nat
  w : Vector Word 3 := Vector.replicate 3 0#32
deriving DecidableEq, Repr

/-- An outcome of a remote wait not yet acknowledged (R418), and when it is to be sent again. -/
structure SemEvent where
  dst : Nat
  tag : Nat
  res : Word
  sem : Nat
  cid : Nat
  tries : Nat
  due : Nat := 0
deriving DecidableEq, Repr

/-- A message being sent (R420): its request record, the first handle, and the sending CID. -/
structure MsgOut where
  rec_ : Nat
  handle : Nat
  cid : Nat
deriving DecidableEq, Repr

/-- A message being assembled (R420): source, TAG, mailbox, the allocated buffers, how many have
been filled, and when it is given up. -/
structure MsgIn where
  src : Nat
  tag : Nat
  mbx : Nat
  bufs : List Nat
  got : Nat := 0
  due : Nat := 0
deriving DecidableEq, Repr

/-- An entry of CHN_MSGRES (R433). -/
structure MsgRes where
  handle : Nat
  code : Nat
  cid : Nat
deriving DecidableEq, Repr

/-- A flash operation of a maintenance session in progress (R424). -/
inductive FlashOp where
  | read (off n : Nat) | erase (off n : Nat) | prog (off : Nat) (data : List Byte)
deriving DecidableEq, Repr

/-- How this unit stands in the image relay: as a source, the requests waiting, the last round, and while one runs twice the offset it has
reached, plus 1 once that offset's RELAYMARK has left; where its booted image lies in flash, its length and RELAYOK; as a relay unit, the request sent, when the first and the last request were made, and the round joined with the next image offset due, the
bytes received and when the last frame came (R71 to R74, R422). -/
structure Relay where
  asked : Nat := 0
  round : Nat := 0
  sending : Option Nat := none
  requested : Bool := false
  firstAt : Option Nat := none
  askAt : Nat := 0
  frameAt : Nat := 0
  joined : Option Nat := none
  base : Nat := 0
  due : Nat := 0
  imgLen : Nat := 0
  image : List Byte := []
  srcBase : Nat := 0
  srcLen : Nat := 0
  srcOk : Bool := false
deriving DecidableEq, Repr

/-- System time (R427 to R430): the SYNC sequence and whether the next carries STEP; consecutive SYNCs within 20 ns, the exact F in 1/4096 ns,
t1 of the PDREQ sent, the last link delays in 1/16 ns (newest first), the high half of a time to set, the ns of TB6 since the last SYNC sent
or period counted and since the last PDREQ, whether SYNC stands lost, the
slew in 1/4096 ns per period with what of it is not yet applied and the ns left of its period. -/
structure Sync where
  seq : Nat := 0
  stepNext : Bool := false
  good : Nat := 0
  f : Int := 0
  slew : Int := 0
  slewAcc : Int := 0
  slewLeft : Nat := 0
  pdTag : Nat := 0
  t1 : Option Nat := none
  delays : List Int := []
  setHi : Word := 0#32
  since : Nat := 0
  pdSince : Nat := 0
  lost : Bool := false
deriving DecidableEq, Repr

/-- The chain engine: ports, the host port's frames inward and outward and its open requests with the tries left and the time of the next
timeout, this unit's open
requests and their use counts, requests waiting to be issued, accesses completed in this command and not yet taken by who
waits (none: refused with REMOTE), post stages, the duplicate filter (newest first), SEMEVTs awaiting SEMACK, the next SEMEVT TAG
per unit and the TAGs acknowledged per unit, messages out and in, MSTARTs held for want of buffers with the time each is given up (source,
TAG), message results, REJOIN nonces (own, sends left and when the next is due, last per unit), addresses out of REACH with whether each is
declared lost and since when it is out, links the head knows down (by the lower unit of the link), whether the unit awaits its DOWN link
after an ASSIGN and until when (R392), FORCE of the last ASSIGN, the TAG of the flash operation of a session, when its poll times out and when
the session does, and the rest. -/
structure Chain where
  port : Vector Port 2 := Vector.replicate 2 {}
  hostIn : List Slot := []
  hostOut : List Frame := []
  hostReqs : List (Frame × Nat × Nat) := []
  reqs : Vector (Option Req) 32 := Vector.replicate 32 none
  uses : Vector Nat 32 := Vector.replicate 32 0
  waitQ : List Plan := []
  done : List (ReqBy × Option DWord) := []
  stages : List (Nat × Stage) := []
  dup : List (Nat × Nat × Frame) := []
  events : List SemEvent := []
  evTag : List (Nat × Nat) := []
  acked : List (Nat × Nat) := []
  msgOut : List MsgOut := []
  msgIn : List MsgIn := []
  msgHeld : List (Nat × Nat × Nat) := []
  msgRes : List MsgRes := []
  nonce : Nat := 0
  rejoinLeft : Nat := 0
  rejoinAt : Nat := 0
  rejoined : List (Nat × Nat) := []
  out : List (Nat × Bool × Nat) := []
  broken : List Nat := []
  endWait : Bool := false
  endAt : Nat := 0
  force : Bool := false
  maintTag : Nat := 0
  maintAt : Nat := 0
  maintDue : Nat := 0
  maintOp : Option FlashOp := none
  relay : Relay := {}
  sync : Sync := {}
deriving DecidableEq, Repr

/-- How the QSPI port reads (R51, R52): command, dummy clocks, mode bits (with 0xEB), 4-byte addresses, the size it takes the device to
have, and SCK as a fraction of TB11. The header is read with 0x03 at TB11/16. -/
structure FlashMode where
  cmd : Nat := 0x03
  dummy : Nat := 0
  mbits : Option Nat := none
  addr4 : Bool := false
  size : Nat := 0x1000000
  div : Nat := 16
deriving DecidableEq, Repr

/-- The QSPI flash on the board: the four bytes its signature read returns, its size, whether it supports 4-byte addresses alone, the dummy
count of 0xEB where the device supports it with quad-enable set, its bytes (unlisted: erased, 0xFF); and the read mode in use. -/
structure Flash where
  sfdp : Nat := 0xFFFFFFFF
  size : Nat := 0x1000000
  wide : Bool := false
  quad : Option Nat := none
  bytes : List (Nat × Byte) := []
  mode : FlashMode := {}
deriving DecidableEq, Repr

/-- Does the signature read return "SFDP" (R51)? -/
def Flash.present (f : Flash) : Bool := f.sfdp == 0x50444653

end Sys2Proof.Machine
end

