-- ==== Sys2Proof/Machine/StCtl.lean ====
section
/-!
DEFINITION. State of the PWM generator (10), the loop schedulers (04), the governor and policy sequencer (15), and the
life-cycle block (16), beyond their registers.
-/
namespace Sys2Proof.Machine

/-- The two outputs of a leg. -/
inductive LegOut where
  | hs | ls
deriving DecidableEq, Repr

/-- A scheduled edge of a leg: its tap time on the group's time line, the output, and whether it turns on. -/
structure Edge where
  at_ : Nat
  out : LegOut
  on : Bool
deriving DecidableEq, Repr

/-- A leg's set of values (R306): the request with its kind, dead times and MINPW, and the explicit phase. -/
structure LegSet where
  absolute : Bool := true
  dutyQ : Int := 0
  dutyT : Nat := 0
  dtr : Nat := 0
  dtf : Nat := 0
  minpw : Nat := 40
  phase : Nat := 0
deriving DecidableEq, Repr

/-- The class of a period (R302). -/
inductive LegClass where
  | fullOff | fullOn | stretched | normal
deriving DecidableEq, Repr

/-- A leg beyond its registers: the kind of its shadow request, the shadow set as a COMMIT last marked it since the last shadow-load
event (R129, R306), its active set, the values in force for its period (local
zero time, PERt, mode, class, Da, dead times, MINPW), whether a load came after the local zero, the level of the request signal
as planned, the scheduled edges, and since when each output is on. `hiZ` is the high-impedance state of both outputs. -/
structure Leg where
  shadowAbs : Bool := true
  pend : Option LegSet := none
  act : LegSet := {}
  t0 : Nat := 0
  perT : Nat := 0
  upDown : Bool := true
  cls : LegClass := .fullOff
  da : Nat := 0
  dtr : Nat := 0
  dtf : Nat := 0
  minT : Nat := 0
  loaded : Bool := false
  q : Bool := false
  edges : List Edge := []
  hs : Option Nat := none
  ls : Option Nat := none
  hiZ : Bool := true
deriving DecidableEq, Repr

/-- A group's set of values (R306): PER and the trigger compares. -/
structure GrpSet where
  per : Nat := 0x271000
  tc : Vector Word 8 := Vector.replicate 8 0#32
deriving DecidableEq, Repr

/-- A carrier group beyond its registers: active PER and trigger compares, the set that a COMMIT last marked since the last shadow-load
event (R306), the period in force (PERt in taps, mode, length with any chain-lock trim), the tap time of its last zero event, the
counts of TB7 and TB8 (loop timebases) and of the PWM timebase then, the chain-lock counters, and the target, in 1/256 ns of TB6, on
which a starting carrier places its first zero event (R297). -/
structure Grp where
  perAct : Nat := 0x271000
  tcAct : Vector Word 8 := Vector.replicate 8 0#32
  pend : Option GrpSet := none
  perT : Nat := 0
  upDown : Bool := true
  len : Nat := 0
  zeroAt : Nat := 0
  zeroTb7 : Nat := 0
  zeroTb8 : Nat := 0
  zeroTbP : Nat := 0
  good : Nat := 0
  bad : Nat := 0
  startAt : Option Nat := none
deriving DecidableEq, Repr

/-- The PWM generator: legs, groups, and the levels of FLT0 to FLT7 as their pins carry them. -/
structure Pwm where
  leg : Vector Leg 16 := Vector.replicate 16 {}
  grp : Vector Grp 4 := Vector.replicate 4 {}
  flt : Vector Bool 8 := Vector.replicate 8 false
deriving DecidableEq, Repr

/-- A trigger booked by a carrier event (R128) and not yet fired: the count of the loop timebase at which it is due, the fields of LSCTL in
force, and the shadow-load events of its group since. -/
structure Booking where
  due : Nat := 0
  grp : Nat
  lvl : Nat
  need : Nat
  loads : Nat := 0
deriving DecidableEq, Repr

/-- How a loop instance stands (R130): open, met, missed with no COMMIT since, or missed with a late COMMIT. -/
inductive InstState where
  | openI | met | missed | late
deriving DecidableEq, Repr

/-- The latest loop instance, until its deadline has passed. -/
structure Instance where
  grp : Nat
  need : Nat
  loads : Nat
  st : InstState := .openI
  due : Bool := false
deriving DecidableEq, Repr

/-- A loop scheduler (R128 to R133): its near-space words, the divider, the
booked triggers, the latest instance, met instances whose slack is recorded at their deadline (group, shadow-load events
left, stamp of the COMMIT), the level triggers pending (R117), the last 64 slacks, and whether context 0 waits in WAIT. -/
structure Sched where
  ctl : Nat := 0
  ofs : Nat := 0
  pend : Bool := false
  miss : Bool := false
  late : Bool := false
  ovr : Bool := false
  slkSat : Bool := false
  consec : Nat := 0
  slack : Int := 0
  ring : List Int := []
  missCnt : Nat := 0
  ts : Nat := 0
  per : Nat := 0
  lastTrig : Option Nat := none
  limit : Nat := 3
  divCnt : Nat := 0
  booked : List Booking := []
  inst : Option Instance := none
  lvlTrig : Vector Bool 4 := Vector.replicate 4 false
  mute : Bool := false
  waiting : List (Nat × Nat × Nat) := []
  inWait : Bool := false
deriving DecidableEq, Repr

/-- The governor (R435 to R438) beyond its registers: VCORE in mV, the instances each scheduler closed in the window, whether
every slack of the window reached the lower threshold, the smallest slack of the window (in 0.1 % of LSPER), whether the
governor runs (released), an emergency rise in progress, and when the target last changed. -/
structure Gov where
  vcore : Nat := 900
  closed : Vector Nat 2 := Vector.replicate 2 0
  allHigh : Bool := true
  minSlk : Option Int := none
  released : Bool := false
  emerg : Bool := false
  movedAt : Nat := 0
deriving DecidableEq, Repr

/-- The policy sequencer (R440 to R443) beyond its registers: the ramp backstop running, its TB10 ticks into the present
millisecond, the escalation to STOP, the last thermal factors of Tj and of the external code, that
code, and the groups whose deadline fault keeps MISS active (one bit each). -/
structure Pol where
  rampOn : Bool := false
  rampSub : Nat := 0
  escalated : Bool := false
  ftJ : Nat := 0x7FFF
  ftX : Nat := 0x7FFF
  lastX : Nat := 0
  missGrp : Nat := 0
deriving DecidableEq, Repr

/-- The fuses (R459), logical bits. -/
structure Fuses where
  lcs : BitVec 4 := 0#4
  lcsAck : BitVec 4 := 0#4
  keyHash : Vector (BitVec 256) 4 := Vector.replicate 4 0#256
  keyProg : BitVec 4 := 0#4
  keyRev : BitVec 4 := 0#4
  rollback : BitVec 63 := 0#63
  tset : BitVec 16 := 0#16
  tack : BitVec 16 := 0#16
  wdAuto : Bool := false
deriving DecidableEq, Repr

/-- One fuse bit to blow. -/
inductive FuseBit where
  | lcs (i : Nat) | lcsAck (i : Nat) | keyHash (slot i : Nat) | keyProg (slot : Nat) | keyRev (slot : Nat)
  | rollback (i : Nat) | tset (i : Nat) | tack (i : Nat)
deriving DecidableEq, Repr

/-- Who asked the fuse programmer, in the order of requests captured together (R458). -/
inductive FuseFor where
  | tamper | lifeCycle | key | rollback
deriving DecidableEq, Repr

/-- A request to the fuse programmer: for whom, and the bits left, ascending. -/
structure FuseReq where
  who : FuseFor
  bits : List FuseBit
deriving DecidableEq, Repr

/-- A life-cycle command in progress (R462, R463): its code and its key slot. -/
structure LcCmd where
  cmd : Nat
  slot : Nat
deriving DecidableEq, Repr

/-- A tamper response in progress (R468): its action, and which of the fuse step, the wipe and the final step is under
way. -/
structure TampResp where
  action : Nat
  step : Nat := 3
deriving DecidableEq, Repr

/-- A watchdog beyond its registers: TB10 ticks into the present 64 µs unit. -/
structure Wd where
  sub : Nat := 0
deriving DecidableEq, Repr

/-- The life-cycle block: fuses, the boot read of them, the programmer's queue, command and tamper response in progress, the
secure bank closed, watchdogs, TB10 ticks left until a WDR is due, the key slot of the
running image, the clock monitor's source, and the watchdogs' fault sources (R475). -/
structure Lcs where
  fuses : Fuses := {}
  bootRead : Fuses := {}
  queue : List FuseReq := []
  cmd : Option LcCmd := none
  resp : Option TampResp := none
  secClosed : Bool := false
  wd : Vector Wd 2 := Vector.replicate 2 {}
  wdrDue : Option Nat := none
  rereadAt : Nat := 0
  keySlot : Nat := 0
  clkmon : Bool := false
  wdSrc : Vector Bool 2 := Vector.replicate 2 false
deriving DecidableEq, Repr

/-- A boot under way (R46): what BOOT_SEQUENCE was told of the outside, the TB10 count at step 2, the slot that waits for an address
(R60; 2 for the image of a relay round) with the end of that wait and the slots still to try after it, and that image. -/
structure Boot where
  inp : BootIn := {}
  tick0 : Nat := 0
  wait : Option Nat := none
  waitTo : Nat := 0
  rest : List Nat := []
  image : List Byte := []
deriving DecidableEq, Repr

end Sys2Proof.Machine
end

