-- ==== Sys2Proof/Config.lean ====
section
/-!
DEFINITION. The free values: what the manual leaves open and no proof may see. Each is opaque, without a body.
-/
namespace Sys2Proof.Config

/-- Value number `n` that the manual leaves open, as a natural number; its reader narrows it
(assumption log 5). UNVERIFIED: nothing is known of it. -/
opaque freeValue : Nat → Nat

/-- Byte `a` of the Betony ROM, whose contents the manual does not state (assumption log 7). -/
opaque romByte : Nat → BitVec 8

/-- What byte `a` of a bank reads as after an aborted or failed destructive march number `epoch`,
which leaves the bank undefined (R247, R250; assumption log 5). -/
opaque undefinedByte : Nat → Nat → BitVec 8

/-- What syndrome the word at `a` of such a bank then has (R247, R250; assumption log 5). -/
opaque undefinedSyndrome : Nat → Nat → BitVec 7

end Sys2Proof.Config
end

