-- ==== Sys2Proof/Machine/SMap.lean ====
section
/-!
DEFINITION. Sparse maps from Nat keys, held as lists in one canonical form: keys strictly rising, and no entry equal to
what an unlisted key reads as.
-/
namespace Sys2Proof.Machine

variable {α : Type}

/-- The value listed at key `k`. -/
def smapFind (k : Nat) : List (Nat × α) → Option α
  | [] => none
  | (j, v) :: m => if j = k then some v else smapFind k m

/-- List `v` at key `k`, keeping the keys rising. -/
def smapPut (k : Nat) (v : α) : List (Nat × α) → List (Nat × α)
  | [] => [(k, v)]
  | (j, w) :: m =>
    if k < j then (k, v) :: (j, w) :: m
    else if j = k then (k, v) :: m
    else (j, w) :: smapPut k v m

/-- Drop the entry at key `k`. -/
def smapDel (k : Nat) (m : List (Nat × α)) : List (Nat × α) := m.filter (fun p => p.1 != k)

/-- Write `v` at key `k` of a map whose unlisted keys read as `d`. -/
def smapSet [DecidableEq α] (k : Nat) (v d : α) (m : List (Nat × α)) : List (Nat × α) :=
  if v = d then smapDel k m else smapPut k v m

/-- Read key `k` of a map whose unlisted keys read as `d`. -/
def smapGet (k : Nat) (d : α) (m : List (Nat × α)) : α := (smapFind k m).getD d

/-- Do the keys rise strictly? -/
def smapSorted : List (Nat × α) → Bool
  | [] => true
  | [_] => true
  | (j, _) :: (k, w) :: m => decide (j < k) && smapSorted ((k, w) :: m)

/-- The canonical form of a map whose unlisted key `k` reads as `d k`. -/
def smapWf [DecidableEq α] (d : Nat → α) (m : List (Nat × α)) : Bool :=
  smapSorted m && m.all (fun p => decide (p.2 ≠ d p.1))

end Sys2Proof.Machine
end

