-- ==== Sys2Proof/Machine/StMem.lean ====
section
/-!
DEFINITION. State of the memories, the memory control block, the event router and the DMA channels (03, 08).
-/
namespace Sys2Proof.Machine

/-- The RAMs (R229), by Yarrow byte address. `cells` lists bytes (unlisted reads 0 after the start-up march, R245; in an
undefined bank it reads as a free value); `synd` lists, by word address, the XOR of a word's stored check bits with the
check bits of its stored data (0 is a valid code word, R230); `undef` lists the banks a destructive march left undefined,
with the number of that march (R247, R250). -/
structure Memory where
  cells : List Host.Cell := []
  synd : List (Nat × BitVec 7) := []
  undef : List (Nat × Nat) := []
deriving DecidableEq, Repr

/-- A march run in progress beyond what its registers show (R245 to R247). -/
structure March where
  bank : Nat := 0
  transparent : Bool := false
  seg : Nat := 0
  elem : Nat := 0
  abort : Bool := false
  seglen : Nat := 64
  cefail : Bool := true
deriving DecidableEq, Repr

/-- What called for a wipe of the secure bank (R243). -/
inductive WipeCause where
  | software | lifeCycle | tamper
deriving DecidableEq, Repr

/-- Memory control beyond its registers: a march run, bank power transitions in progress (bank ID, state code), power requests that
wait for the accesses captured before them, with how many are left once their service point is past (R239), the scrub
pointer (bank ID, word) with the TB10 ticks since its last read (R251), what the wipe in progress was called for, the number of undefined banks so far, and the rotating pointer of
each bank (R14). -/
structure MemCtl where
  march : Option March := none
  pwrTo : List (Nat × Nat) := []
  pwrWait : List (Nat × Nat × Option Nat) := []
  scrubBank : Nat := 0
  scrubWord : Nat := 0
  scrubTick : Nat := 0
  wipeCauses : List WipeCause := []
  epoch : Nat := 0
  ptr : Vector Nat 68 := Vector.replicate 68 0
deriving DecidableEq, Repr

/-- A DMA channel beyond its registers (R101, R102, R518): the descriptor in force (eight words), a fetch in progress,
elements done in the descriptor, elements left of the block in progress, present source and destination, triggers queued,
triggers held during a fetch, and whether an ABORT waits for the element in progress, whose read or write is on the chain. -/
structure DmaCh where
  fetching : Bool := false
  desc : List Word := []
  done : Nat := 0
  block : Nat := 0
  src : Word := 0#32
  dst : Word := 0#32
  queue : List Trig := []
  held : List Trig := []
  remote : Bool := false
  abort : Bool := false
deriving DecidableEq, Repr

/-- The event router beyond its registers: the routes whose pin pulse on an EVO output runs (R100), and event pulses not
yet delivered (assumption log 8). -/
structure Evr where
  evo : List Nat := []
  late : List Nat := []
deriving DecidableEq, Repr

end Sys2Proof.Machine
end

