-- ==== Sys2Proof/Machine/StSense.lean ====
section
/-!
DEFINITION. State of the converters, comparators and sensors (11), beyond their registers.
-/
namespace Sys2Proof.Machine

/-- A sample held by a converter until its conversion ends (R325, R331): the entry, the code, its TB6 stamp and flags. -/
structure Sample where
  entry : Nat
  code : Nat
  ts : Nat
  late : Bool
  clip : Bool
  coarse : Bool
deriving DecidableEq, Repr

/-- A trigger that came for the awaited entry (R326): whether it fired at the start of its coarse tick (R314), and whether
the converter was not ready then. -/
structure AdcTrig where
  coarse : Bool
  late : Bool
deriving DecidableEq, Repr

/-- A converter beyond its registers: the entry that waits for its sampling instant while none is converted (or that a new EN has put
PTR at while an older conversion ends), the trigger that came for the awaited entry, the conversion in progress, the TB3 tick at which
the last conversion ended, and the one at which the timer fires next (R327). -/
structure Conv where
  want : Option Nat := none
  trig : Option AdcTrig := none
  cur : Option Sample := none
  endTick : Option Nat := none
  timerAt : Option Nat := none
deriving DecidableEq, Repr

/-- The sensing block: converters; the live stamps of the result ports by 16c + e; the latched words 1 to 3 per core by
64 core + 16c + e, and of the fabric by 16c + e (R333); for each comparator in a blanking window, the tick of its leg's PWM timebase at
which the window closes (R335); the voltages that a command brought last, which the comparators' inputs follow (R334); and whether TJHI
may be raised again (R337). -/
structure Sense where
  conv : Vector Conv 4 := Vector.replicate 4 {}
  ts : List (Nat × Word) := []
  latch : List (Nat × Word × Nat) := []
  fabLatch : List (Nat × Word) := []
  blank : Vector (Option Nat) 8 := Vector.replicate 8 none
  volt : Option Analog := none
  tjReady : Bool := true
deriving DecidableEq, Repr

end Sys2Proof.Machine
end

