-- ==== Sys2Proof/Machine/StShare.lean ====
section
/-!
DEFINITION. State of the semaphores, mailboxes and buffer pool (09), beyond their registers.
-/
namespace Sys2Proof.Machine

/-- A holder or waiter (R256): a CID and its originating unit, 0 for this unit, with the effective priority its request
carried (used for other units' CIDs only). -/
structure Party where
  cid : Nat
  unit : Nat := 0
  pri : Nat := 0
deriving DecidableEq, Repr

/-- A semaphore: its holders, the most recently granted first; its waiters; the CID most recently granted; and the
contribution last sent to a holder in another unit (R268). -/
structure Sem where
  holders : List Party := []
  waiters : List Party := []
  recent : Nat := 0
  sent : Nat := 0
deriving DecidableEq, Repr

/-- An entry of the grant queue (R265). -/
structure Grant where
  sem : Nat
  cid : Nat
  unit : Nat
  res : Nat
deriving DecidableEq, Repr

/-- An inheritance contribution from another unit (R268): the owning unit, the semaphore, the local CID and the priority. -/
structure Contrib where
  unit : Nat
  sem : Nat
  cid : Nat
  pri : Nat
deriving DecidableEq, Repr

/-- The states of a buffer (R278). -/
inductive BufState where
  | free | owned | transit | reserved
deriving DecidableEq, Repr

/-- A buffer of the pool: its generation, state, owner (in transit: the mailbox, or 32 for the chain engine) and the next
buffer of its chain. -/
structure Buf where
  gen : Nat := 0
  st : BufState := .free
  owner : Nat := 0
  next : Option Nat := none
deriving DecidableEq, Repr

/-- The sharing hardware: the semaphores (unlisted: none held), the inherited part of each CID's priority (unlisted: none),
contributions from other units, waits and holdings of local CIDs on other units' semaphores (CID, unit, semaphore), the grant queue,
the semaphores whose holders a travelling inheritance update has still to reach with the hops it has made (R267, R268), the doorbell words (R272),
the buffers that are not as they are after reset, and the ledgers found out of balance (R286): the bit of MBX_LEDGER, the index, and
the TB10 count at which each was found so. -/
structure Share where
  sems : List (Nat × Sem) := []
  inh : List (Nat × Nat) := []
  contribs : List Contrib := []
  rwaits : List (Nat × Nat × Nat) := []
  rholds : List (Nat × Nat × Nat) := []
  grants : List Grant := []
  hops : List (Nat × Nat) := []
  bell : List (Nat × Word) := []
  bufs : List (Nat × Buf) := []
  ledgers : List (Nat × Nat × Nat) := []
deriving DecidableEq, Repr

/-- Service points (R13, R14): the requests pending at a resource that is not yet served, by resource in order of arrival, the rotating
pointer of the doorbell arbiter, the fetches (bank, CID) due back to back with a data access (R235), and the Teasel channel the engine
visits next (R345). The pointers of the banks stand in MemCtl. -/
structure Svc where
  pending : List (Resource × SvcReq) := []
  bellPtr : Nat := 0
  fetchDue : List (Nat × Nat) := []
  tslNext : Nat := 0
deriving DecidableEq, Repr

end Sys2Proof.Machine
end

