-- ==== Sys2Proof/Machine/StTime.lean ====
section
/-!
DEFINITION. State of the timebases, the reference monitor and the delay-line calibrators (01), beyond their registers.
-/
namespace Sys2Proof.Machine

/-- One 1 ms measurement of the primary (01, the reference monitor): the RC period in primary-source units, 8.24, and, when
it was made with the fine yardstick, the error in 0.1 ppm. -/
structure Meas where
  ratio : Nat
  fine : Option Int
deriving DecidableEq, Repr

/-- Tj (0.25 °C units) and VCORE (mV) at a line's last calibration (R32). -/
structure CalPoint where
  tj : Int := 100
  vcore : Nat := 900
deriving DecidableEq, Repr

/-- A calibration group (R34): its active lines, oldest calibration first; the place that the oldest one serves (at first the lines are
taken as calibrated in the order of their places; assumption log 65); the spare, and whether it stands calibrated; the swaps still
wanted before FINE sets (0 when none is awaited); FINE lost since it last set; FINE dead until the next reset. -/
structure CalGroup where
  lines : List CalPoint := []
  pos : Nat := 0
  spare : CalPoint := {}
  spareReady : Bool := false
  rotLeft : Nat := 0
  lost : Bool := false
  dead : Bool := false
deriving DecidableEq, Repr

/-- The timebases and the reference: tick counts of TB0 to TB13 and their fractions of a tick (kHz × ns), TB6 system time in
ns and whether it counts, the RC and the primary alive, the filter (oldest first), a gross error held, the return count in ms
whether only the zero event of condition 3 is awaited, and whether it has come (R30), the trim in 0.1 ppm and its removal, the ratio that corrects
RC as the fallback, no source left, the calibration groups, and FINEBACK awaited. -/
structure Tb where
  cnt : Vector Nat 14 := Vector.replicate 14 0
  frac : Vector Nat 14 := Vector.replicate 14 0
  time : Nat := 0
  counting : Bool := false
  rcAlive : Bool := true
  primAlive : Bool := true
  filter : List Meas := []
  gross : Bool := false
  retMs : Nat := 0
  retReady : Bool := false
  retZero : Bool := false
  trim : Nat := 0
  trimOff : Bool := false
  fbRatio : Nat := 0x1000000
  noSource : Bool := false
  chainSeen : Bool := false
  cal : Vector CalGroup 5 :=
    #v[{ lines := List.replicate 16 {} }, { lines := List.replicate 16 {} }, { lines := List.replicate 8 {} },
       { lines := List.replicate 8 {} }, { lines := List.replicate 3 {} }]
  backWait : Bool := false
deriving DecidableEq, Repr

end Sys2Proof.Machine
end

