-- ==== Sys2Proof/Machine/StTsl.lean ====
section
/-!
DEFINITION. State of Teasel, the UARTs, the I²C port and the host port (12).
-/
namespace Sys2Proof.Machine

/-- A Teasel channel beyond its registers: its two FIFOs of four words, the outstanding watermark triggers of each
(R357, R358). -/
structure TslCh where
  inq : List Word := []
  outq : List Word := []
  outstIn : Nat := 0
  outstOut : Nat := 0
deriving DecidableEq, Repr

/-- What drives a pin: nothing (high-Z), low or high (R347, R348). -/
inductive PinDrive where
  | z | low | high
deriving DecidableEq, Repr

/-- A Teasel pin beyond PINLVL: the level it drives, its event queue of two (level, TB9 tick) and every edge captured (stamp,
level), newest first, of which the newest two are the edge record (R347, R348, R350). -/
structure TslPin where
  drive : PinDrive := .z
  queue : List (PinDrive × Nat) := []
  edges : List (Nat × Bool) := []
deriving DecidableEq, Repr

/-- The pin multiplexer beyond its registers (R489, R491): the switch in progress (pad, function asked for) and when the pad went to its
safe level, and the level at which a pad with SAFELVL hold-last is kept. -/
structure Pins where
  target : Option (Nat × Nat) := none
  swAt : Nat := 0
  held : List (Nat × Bool) := []
deriving DecidableEq, Repr

/-- A UART beyond its registers (R362 to R366): its FIFOs, oldest first (a received byte with PE, FE, BRK at bits 12 to 14),
the bytes and slots announced by events, whether the 9-bit receiver is addressed, and whether DE is asserted. -/
structure Uart where
  tx : List Nat := []
  rx : List Nat := []
  outRx : Nat := 0
  outTx : Nat := 0
  sel : Bool := false
  de : Bool := false
deriving DecidableEq, Repr

/-- The I²C port beyond its registers (R368, R369): the command FIFO, whether the port is addressed as target and for a read,
whether ITDATA has been written for the host, and whether it holds a byte not yet read. -/
structure I2c where
  cmd : List Nat := []
  sel : Bool := false
  selRead : Bool := false
  ready : Bool := false
  full : Bool := false
deriving DecidableEq, Repr

end Sys2Proof.Machine
end

