-- ==== Sys2Proof/Machine/StYar.lean ====
section
/-!
DEFINITION. The state of Yarrow (06) and of the Vetch coprocessor (07) as plain data.
-/
namespace Sys2Proof.Machine

/-- A buffered store (R170): address, size in bytes, data, and the CID it carries. -/
structure YStore where
  addr : Nat
  size : Nat
  data : Nat
  cid : Nat
  ctm : Bool
deriving DecidableEq, Repr

/-- A unit of a block routine under way (R183): its length, the reads and writes left (address, size), and the bytes read. -/
structure BlkUnit where
  n : Nat
  reads : List (Nat × Nat) := []
  writes : List (Nat × Nat) := []
  data : List Byte := []
deriving DecidableEq, Repr

/-- What Yarrow waits for on the chain (R171, R175): a load (register, F or not, funct3, address, instruction length), or an
access of a unit of block routine `k`. -/
inductive YWait where
  | load (rd : Nat) (isF : Bool) (fn addr len : Nat)
  | block (k : Nat) (u : BlkUnit)
deriving DecidableEq, Repr

/-- The branch predictor (06, Pipeline): two-bit counters, the target buffer (newest first) and the return stack (PRESUMED: the
indexing; assumption log 24). -/
structure Predictor where
  bimodal : Vector (BitVec 2) 256 := Vector.replicate 256 1#2
  targets : List (Word × Word) := []
  returns : List Word := []
deriving DecidableEq, Repr

/-- Debug (R190): halted, a halt asked for at reset, one asked for while an access on the chain must end first (R187), dcsr (bits that
are kept), dpc, scratch registers, triggers, the program buffer, the error of the last abstract command (cmderr), and the half-words of
the program buffer still to run while one of its instructions waits. -/
structure YDebug where
  halted : Bool := false
  resetHalt : Bool := false
  haltReq : Bool := false
  dcsr : Word := 3#32
  dpc : Word := 0#32
  dscratch : Vector Word 2 := Vector.replicate 2 0#32
  tselect : Nat := 0
  tdata1 : Vector Word 4 := Vector.replicate 4 0x20000000#32
  tdata2 : Vector Word 4 := Vector.replicate 4 0#32
  progbuf : Vector Word 2 := Vector.replicate 2 0#32
  cmderr : Nat := 0
  prog : List Nat := []
deriving DecidableEq, Repr

/-- What stopped a vector memory instruction (R221): the element, mcause, its address, YFAULT (0 for a misaligned element), the word
address that was refused, and whether the power state of its bank refused it (R240). -/
structure VFlt where
  e : Nat
  cause : Nat
  addr : Nat
  yf : Nat
  word : Nat := 0
  power : Bool := false
deriving DecidableEq, Repr

/-- A run-ahead instruction in the pending-write buffer (R227): its address and word, the registers it writes, its fflags, whether it
makes mstatus.FS Dirty (R211), and a recorded refusal. -/
structure VPend where
  pc : Word
  word : Word
  vw : List (Nat × BitVec 2048) := []
  kw : List (Nat × BitVec 2048) := []
  fl : Nat := 0
  fp : Bool := false
  fault : Option VFlt := none
deriving DecidableEq, Repr

/-- A register-to-register instruction that Yarrow has retired into the window and that Vetch has not completed (R200, R201): the
registers it writes. -/
structure VWin where
  vw : List (Nat × BitVec 2048) := []
  kw : List (Nat × BitVec 2048) := []
deriving DecidableEq, Repr

/-- Vetch (R196): V and K registers (K0 reads all ones), VTYPE, VL, the retired instructions in the window (oldest first), the run-ahead
instructions, and the addresses that Yarrow is to retire up to the last of them. -/
structure Vet where
  v : Vector (BitVec 2048) 32 := Vector.replicate 32 0#2048
  k : Vector (BitVec 2048) 8 := Vector.replicate 8 0#2048
  sew : Nat := 0
  g : Nat := 0
  vill : Bool := false
  vl : Nat := 0
  win : List VWin := []
  pend : List VPend := []
  path : List Word := []
deriving DecidableEq, Repr

/-- Yarrow (R164, R191 to R195). `mach` is Machine mode; mstatus and fcsr are held by their fields; `sbOut` tells that the oldest
buffered store is on the chain, `fence` that a FENCE waits (R175). -/
structure Yar where
  run : Bool := false
  x : Vector Word 32 := Vector.replicate 32 0#32
  f : Vector Word 32 := Vector.replicate 32 0#32
  pc : Word := 0#32
  mach : Bool := true
  mie : Bool := false
  mpie : Bool := false
  mppM : Bool := false
  mprv : Bool := false
  fs : BitVec 2 := 0#2
  mtvec : Word := 0x10000000#32
  mscratch : Word := 0#32
  mepc : Word := 0#32
  mcause : Word := 0#32
  mtval : Word := 0#32
  ie : Word := 0#32
  mcounteren : BitVec 3 := 0#3
  mcountinhibit : BitVec 3 := 0#3
  mcycle : DWord := 0#64
  cycSub : Nat := 0
  minstret : DWord := 0#64
  pmpcfg : Vector Byte 16 := Vector.replicate 16 0#8
  pmpaddr : Vector Word 16 := Vector.replicate 16 0#32
  fflags : BitVec 5 := 0#5
  frm : BitVec 3 := 0#3
  ctm : Bool := false
  cidsel : BitVec 5 := 2#5
  veix : BitVec 12 := 0#12
  yfault : BitVec 4 := 0#4
  ytcmp : DWord := 0xFFFFFFFFFFFFFFFF#64
  serrAddr : Word := 0#32
  serrCause : BitVec 4 := 0#4
  serrMore : Bool := false
  serrValid : Bool := false
  poly : Bool := true
  bpoff : Bool := false
  rtEn : Bool := false
  rtSig : Word := 0#32
  sb : List YStore := []
  sbOut : Bool := false
  fence : Bool := false
  wfi : Bool := false
  wait : Option YWait := none
  pred : Predictor := {}
  dbg : YDebug := {}
  vet : Vet := {}
deriving DecidableEq, Repr

end Sys2Proof.Machine
end

