-- ==== Sys2Proof/Machine/State.lean ====
section
/-!
DEFINITION. The state of the machine as plain data, its reset, and the reasons a step can stop.
-/
namespace Sys2Proof.Machine

/-- Reasons to stop with a fault. The block has none: every access the manual refuses is an effect on the state (R92). -/
inductive Fault where
  /-- Raised by no command; kept so that the type is closed and named. Safe. -/
  | none
deriving DecidableEq, Repr

/-- Reasons to refuse a command. -/
inductive Refusal where
  /-- The command's meaning is not written. Raised by an arm of exec only. Safe. -/
  | notModelled (mnemonic : String)
deriving DecidableEq, Repr

/-- What the last command answered (the model's own field, assumption log 6): the data a read returned, the refusal cause
of R94 (0 none), the events it raised, in order, the frames it put on a line (port, frame, poisoned), and the bytes it sent there: a frame from
header to CRC, or an idle symbol's four. -/
structure Out where
  data : DWord := 0#64
  cause : Nat := 0
  events : List Nat := []
  sent : List (Nat × Frame × Bool) := []
  line : List (Nat × List Byte) := []
deriving DecidableEq, Repr

/-- The machine. `pending` is the queue of commands; `regs` holds every memory-mapped register that differs from its reset
word; `free` numbers the free values drawn so far; `bootLock` is the
boot lock (R46). -/
structure State where
  pending : List Instr := []
  now : Nat := 0
  free : Nat := 0
  bootLock : Bool := false
  out : Out := {}
  regs : List (Nat × Word) := []
  mem : Memory := {}
  memCtl : MemCtl := {}
  dma : Vector DmaCh 8 := Vector.replicate 8 {}
  evr : Evr := {}
  tb : Tb := {}
  pwm : Pwm := {}
  sense : Sense := {}
  sched : Vector Sched 2 := Vector.replicate 2 {}
  camp : Vector Camp 2 := Vector.replicate 2 {}
  yar : Yar := {}
  gov : Gov := {}
  pol : Pol := {}
  lcs : Lcs := {}
  tsl : Vector TslCh 24 := Vector.replicate 24 {}
  tslPin : Vector TslPin 32 := Vector.replicate 32 {}
  pins : Pins := {}
  uart : Vector Uart 2 := Vector.replicate 2 {}
  i2c : I2c := {}
  share : Share := {}
  chn : Chain := {}
  flash : Flash := {}
  boot : Boot := {}
  svc : Svc := {}
deriving DecidableEq, Repr

/-- The machine right after power-on reset (R40, R77): SYS_RSTCAUSE.LAST names POR, and the straps read as their pulls until they are
sampled (R44; assumption log 1). -/
def State.reset : State := { regs := [(0x50000040, 0x1#32), (0x50000044, 0x2#32)] }

end Sys2Proof.Machine
end

