-- ==== Sys2Proof/Machine/Ops.lean ====
section
/-!
DEFINITION. The named operations over registers and the model's own fields.
-/
namespace Sys2Proof.Machine

abbrev Result := Host.Outcome State Fault Refusal

/-- The word register `r` holds. -/
def State.word (s : State) (r : Reg) : Word := smapGet r.addr r.rst s.regs

/-- Register `r` takes `w`. -/
def State.setWord (s : State) (r : Reg) (w : Word) : State :=
  { s with regs := smapSet r.addr w r.rst s.regs }

/-- The bits of a field out of its register's word. -/
def fieldOf (lo wid : Nat) (w : Word) : Nat := w.toNat / 2 ^ lo % 2 ^ wid

/-- `w` with the field replaced by `v` modulo the field's size. -/
def fieldPut (lo wid v : Nat) (w : Word) : Word :=
  BitVec.ofNat 32 (w.toNat - fieldOf lo wid w * 2 ^ lo + v % 2 ^ wid * 2 ^ lo)

/-- The value of field `f`. -/
def State.get (s : State) (f : Fld) : Nat := fieldOf f.lo f.wid (s.word f.reg)

/-- Field `f` takes `v` (modulo its size); the register's other bits keep. -/
def State.set (s : State) (f : Fld) (v : Nat) : State :=
  s.setWord f.reg (fieldPut f.lo f.wid v (s.word f.reg))

/-- Is the (one-bit) field 1? -/
def State.on (s : State) (f : Fld) : Bool := s.get f != 0

/-- A one-bit field takes a truth value. -/
def State.setB (s : State) (f : Fld) (b : Bool) : State := s.set f (if b then 1 else 0)

/-- A saturating count: add `n`, not past the field's largest value. -/
def State.count (s : State) (f : Fld) (n : Nat := 1) : State :=
  s.set f (min (s.get f + n) (2 ^ f.wid - 1))

/-- Bit `i` of field `f`. -/
def State.bit (s : State) (f : Fld) (i : Nat) : Bool := s.get f / 2 ^ i % 2 != 0

/-- Bit `i` of field `f` takes `b`. -/
def State.setBit (s : State) (f : Fld) (i : Nat) (b : Bool) : State :=
  s.set f (s.get f - s.get f / 2 ^ i % 2 * 2 ^ i + (if b then 2 ^ i else 0))

/-- The field as a signed number. -/
def State.getInt (s : State) (f : Fld) : Int := (BitVec.ofNat f.wid (s.get f)).toInt

/-- A signed number into a field, in two's complement. -/
def State.setInt (s : State) (f : Fld) (v : Int) : State := s.set f (BitVec.ofInt f.wid v).toNat

/-- Draw the next free value (assumption log 5). -/
def State.draw (s : State) : Nat × State := (Config.freeValue s.free, { s with free := s.free + 1 })

/-- The answer of a read. -/
def State.answer (s : State) (w : Nat) : State :=
  { s with out := { s.out with data := BitVec.ofNat 64 w, cause := 0 } }

/-- The answer of a refused access (R92): data 0 and the cause of R94. -/
def State.answerRefused (s : State) (cause : Nat) : State :=
  { s with out := { s.out with data := 0#64, cause := cause } }

/-- A command's answer starts empty. -/
def State.begin (s : State) : State := { s with out := {} }

/-- TB6 as a stamp (R35, R326, R428): 1 ns resolution, or 8 ns while calibration group 4 is not fine. -/
def stampTime (s : State) : Nat := if s.bit F.TB_DLSTAT_FINE 4 then s.tb.time else s.tb.time / 8 * 8
/-- A TB6 stamp, or a difference of two, in 1/16 ns at the resolution of R35. -/
def stampFine (t16 : Nat) (s : State) : Nat := if s.bit F.TB_DLSTAT_FINE 4 then t16 else t16 / 128 * 128

/-- Bits of a natural number. -/
def natBit (n i : Nat) : Bool := n / 2 ^ i % 2 != 0

/-- `n` with bit `i` set to `b`. -/
def natSetBit (n i : Nat) (b : Bool) : Nat := n - n / 2 ^ i % 2 * 2 ^ i + (if b then 2 ^ i else 0)

/-- Run `f` for each index below `n`, in ascending order. -/
def forEach {α : Type} (n : Nat) (f : Nat → α → α) (a : α) : α := (List.range n).foldl (fun a i => f i a) a

/-- Update one element of a vector. -/
def vupd {α : Type} {n : Nat} (v : Vector α n) (i : Fin n) (f : α → α) : Vector α n :=
  v.set i.val (f (v.get i)) i.isLt

end Sys2Proof.Machine
end

