-- ==== Sys2Proof/Machine/Events.lean ====
section
/-!
DEFINITION. The event router (R97 to R100) and the counting of DMA triggers (R518).
-/
namespace Sys2Proof.Machine

/-- Channel `n` takes `c`; QUEUED shows its queue (R103). -/
def State.setDma (s : State) (n : Fin 8) (c : DmaCh) : State :=
  { s with dma := s.dma.set n.val c n.isLt }.set (F.DMA_CHnSTAT_QUEUED n) c.queue.length

/-- A watermark trigger that no channel counts goes back to its FIFO, whose OUTST falls by one (R518, R358). -/
def returnTrig (t : Trig) (s : State) : State :=
  match t with
  | .outWm c => { s with tsl := vupd s.tsl c (fun x => { x with outstOut := x.outstOut - 1 }) }
  | .inWm c => { s with tsl := vupd s.tsl c (fun x => { x with outstIn := x.outstIn - 1 }) }
  | _ => s

/-- Does the trigger match word 0 of the descriptor in force (R518)? -/
def trigMatches (w0 : Word) (t : Trig) : Bool :=
  let trig := fieldOf 6 2 w0
  let tch := fieldOf 8 5 w0
  match t with
  | .route => trig == 1
  | .outWm c => trig == 2 && tch == c.val
  | .inWm c => trig == 3 && tch == c.val
  | .sw => trig != 0

/-- Elements that one trigger moves: BLOCK, 0 meaning all that are left (R101). -/
def blockSize (w3 : Word) (remain : Nat) : Nat :=
  let b := fieldOf 16 16 w3
  if b = 0 then remain else min b remain

/-- One trigger arrives at channel `n` (R102 step 3, R518); at the end of a descriptor, with no element left, it queues for the next.
Answers whether it was the sixteenth, which is lost. -/
def takeTrig (n : Fin 8) (t : Trig) (s : State) : State × Bool :=
  let c := s.dma.get n
  if !s.on (F.DMA_CHnCTL_EN n) then (returnTrig t s, false)
  else if c.fetching then (s.setDma n { c with held := c.held ++ [t] }, false)
  else if !trigMatches (c.desc.getD 0 0#32) t then (returnTrig t s, false)
  else if c.block = 0 ∧ s.get (F.DMA_CHnSTAT_REMAIN n) ≠ 0 then
    (s.setDma n { c with block := blockSize (c.desc.getD 3 0#32) (s.get (F.DMA_CHnSTAT_REMAIN n)) }, false)
  else if c.queue.length < 15 then (s.setDma n { c with queue := c.queue ++ [t] }, false)
  else ((returnTrig t s).set (F.DMA_CHnSTAT_OVF n) 1, true)

/-- The pending bit of route `q`. -/
def routePend (q : Nat) (s : State) : Bool := s.bit (F.EVR_PEND_PEND (q / 32)) (q % 32)

/-- Set or clear the pending bit of route `q`. -/
def setRoutePend (q : Nat) (b : Bool) (s : State) : State := s.setBit (F.EVR_PEND_PEND (q / 32)) (q % 32) b

/-- The overflow count of route `q`, one of four in its word. -/
def routeOvf (q : Nat) : Fld := ⟨R.EVR_OVF (q / 4), 8 * (q % 4), 8⟩

/-- The target class route `q` acts as (R99). -/
def routeClass (q : Nat) (s : State) : Nat :=
  let c := s.get (F.EVR_ROUTE_TCLASS q)
  let i := s.get (F.EVR_ROUTE_TIDX q)
  if c = 7 then 0
  else if (c = 2 ∨ c = 3) ∧ (i = 0 ∨ 4 ≤ i) then 0
  else c

/-- A pulse of source `n` on route `q` (R100); on an EVO route, one while its pin pulse runs is overflow though the pending bit has been
cleared. Answers the channel whose trigger overflowed, if one did. -/
def pulseRoute (n q : Nat) (s : State) : State × Option (Fin 8) :=
  if s.on (F.EVR_ROUTE_EN q) && s.get (F.EVR_ROUTE_SRC q) == n then
    match routeClass q s with
    | 0 => (s, none)
    | 4 =>
      let ch : Fin 8 := ⟨s.get (F.EVR_ROUTE_TIDX q) % 8, Nat.mod_lt _ (by decide)⟩
      let r := takeTrig ch .route s
      (r.1, if r.2 then some ch else none)
    | k =>
      if routePend q s || k == 6 && s.evr.evo.contains q then (s.count (routeOvf q), none)
      else
        let s := setRoutePend q true s
        if k = 6 then ({ s with evr := { s.evr with evo := q :: s.evr.evo } }, none) else (s, none)
  else (s, none)

/-- A pulse of source `n` on every route, in ascending order; the error events of channels that overflowed follow. -/
def pulseAll (n : Nat) (s : State) : State × List Nat :=
  (List.range 128).foldl
    (fun p q =>
      let r := pulseRoute n q p.1
      (r.1, match r.2 with | some ch => p.2 ++ [0x88 + ch.val] | none => p.2)) (s, [])

/-- Deliver the pulses of a list, and the pulses those cause, to depth `fuel`; what is left waits for the idle tick
(assumption log 8: a chain of overflows deeper than the eight channels revisits a channel and has no end). -/
def deliver : Nat → List Nat → State → State
  | 0, ns, s => { s with evr := { s.evr with late := s.evr.late ++ ns } }
  | fuel + 1, ns, s =>
    let r := ns.foldl (fun p n =>
      let q := pulseAll n p.1
      (q.1, p.2 ++ q.2)) (s, ([] : List Nat))
    if r.2.isEmpty then r.1
    else deliver fuel r.2 { r.1 with out := { r.1.out with events := r.1.out.events ++ r.2 } }

/-- Event source `n` gives one pulse (R97, R100). -/
def State.raise (s : State) (n : Nat) : State :=
  deliver 9 [n] { s with out := { s.out with events := s.out.events ++ [n] } }

/-- One trigger for channel `n` from elsewhere than a route (R518, R519); a lost one raises 0x88 + n (R102 step 3). -/
def State.trigger (s : State) (n : Fin 8) (t : Trig) : State :=
  let r := takeTrig n t s
  if r.2 then r.1.raise (0x88 + n.val) else r.1

/-- An occurrence of event bit `b` of TB_EVT (R517): the bit sets, and one pulse is forwarded if enabled. -/
def State.tbEvent (s : State) (b : Nat) : State :=
  let s := s.setBit F.TB_EVT b true
  if s.bit F.TB_EVTEN b then s.raise (0x10 + b) else s

/-- The pending routes of class `k` and, for `idx ≥ 0`, index `idx`, best first: highest PRI, then lowest number (R100). -/
def bestRoute (k : Nat) (idx : Option Nat) (s : State) : Option Nat :=
  (List.range 128).foldl
    (fun best q =>
      if routePend q s && routeClass q s == k && (idx.isNone || idx == some (s.get (F.EVR_ROUTE_TIDX q))) then
        match best with
        | none => some q
        | some b => if s.get (F.EVR_ROUTE_PRI b) < s.get (F.EVR_ROUTE_PRI q) then some q else some b
      else best) none

/-- Is a Yarrow route pending with PRI greater than EVR_YTHRESH (R100)? -/
def routerInterrupt (s : State) : Bool :=
  match bestRoute 1 none s with
  | none => false
  | some q => decide (s.get F.EVR_YTHRESH_THRESH < s.get (F.EVR_ROUTE_PRI q))

/-- A read of EVR_YCLAIM: the best pending Yarrow route, whose pending bit clears; VALID = 0 if there is none. -/
def yclaimRead (s : State) : Word × State :=
  match bestRoute 1 none s with
  | none => (0#32, s)
  | some q => (BitVec.ofNat 32 (q + s.get (F.EVR_ROUTE_SRC q) * 256 + 2 ^ 31), setRoutePend q false s)

/-- A write of EVR_ROUTE q by a permitted writer. A route that is pending is delivered under its new class. -/
def routeWrite (q : Nat) (w : Word) (s : State) : State :=
  let s := s.setWord (R.EVR_ROUTE q) (w &&& 0x80077FFF#32)
  if routePend q s then
    match routeClass q s with
    | 4 =>
      let ch : Fin 8 := ⟨s.get (F.EVR_ROUTE_TIDX q) % 8, Nat.mod_lt _ (by decide)⟩
      (setRoutePend q false s).trigger ch .route
    | 6 => if s.evr.evo.contains q then s else { s with evr := { s.evr with evo := q :: s.evr.evo } }
    | _ => s
  else s

/-- The pin pulse of route `q` ends (R100): its pending bit clears. -/
def pulseEnd (q : Nat) (s : State) : State :=
  if s.evr.evo.contains q then
    let s := { s with evr := { s.evr with evo := s.evr.evo.erase q } }
    if routeClass q s = 6 then setRoutePend q false s else s
  else s

/-- The level of event output EVO k: high while a pulse runs there. -/
def evoLevel (k : Nat) (s : State) : Bool :=
  s.evr.evo.any (fun q => s.get (F.EVR_ROUTE_TIDX q) == k)

end Sys2Proof.Machine
end

