-- ==== Sys2Proof/Machine/MemArray.lean ====
section
/-!
DEFINITION. The RAM arrays: where a byte lives, the SECDED code, raw reads and writes (R229, R230, R123).
-/
namespace Sys2Proof.Machine

/-- The bank of a byte address (R229, R123); none outside RAM. -/
def bankOf (a : Nat) : Option Nat :=
  if 0x10000000 ≤ a ∧ a < 0x10080000 then some ((a - 0x10000000) / 0x8000)
  else if 0x20000000 ≤ a ∧ a < 0x20040000 then some (0x10 + a / 32 % 8)
  else if 0x30000000 ≤ a ∧ a < 0x30010000 then some 0x20
  else if 0x30010000 ≤ a ∧ a < 0x30018000 then some (0x21 + (a - 0x30010000) / 0x2000)
  else if 0x30018000 ≤ a ∧ a < 0x30020000 then some (0x25 + (a - 0x30018000) / 0x2000)
  else if 0x31000000 ≤ a ∧ a < 0x31010000 then some 0x30
  else if 0x31010000 ≤ a ∧ a < 0x31018000 then some (0x31 + (a - 0x31010000) / 0x2000)
  else if 0x31018000 ≤ a ∧ a < 0x31020000 then some (0x35 + (a - 0x31018000) / 0x2000)
  else if 0x40000000 ≤ a ∧ a < 0x40008000 then some 0x40
  else if 0x43000000 ≤ a ∧ a < 0x43008000 then some 0x41
  else if 0x41000000 ≤ a ∧ a < 0x41004000 then some 0x42
  else if 0x42000000 ≤ a ∧ a < 0x42002000 then some 0x43
  else none

/-- The 32-bit words of a bank; 0 for an ID that R229 does not list. -/
def bankWords (b : Nat) : Nat :=
  if b ≤ 0x17 then 8192
  else if b = 0x20 ∨ b = 0x30 then 16384
  else if (0x21 ≤ b ∧ b ≤ 0x28) ∨ (0x31 ≤ b ∧ b ≤ 0x38) then 2048
  else if b = 0x40 ∨ b = 0x41 then 8192
  else if b = 0x42 then 4096
  else if b = 0x43 then 2048
  else 0

/-- The byte address of word `w` of bank `b`. -/
def bankAddr (b w : Nat) : Nat :=
  if b ≤ 0x0F then 0x10000000 + b * 0x8000 + 4 * w
  else if b ≤ 0x17 then 0x20000000 + w / 8 * 256 + (b - 0x10) * 32 + w % 8 * 4
  else if b = 0x20 then 0x30000000 + 4 * w
  else if b ≤ 0x24 then 0x30010000 + (b - 0x21) * 0x2000 + 4 * w
  else if b ≤ 0x28 then 0x30018000 + (b - 0x25) * 0x2000 + 4 * w
  else if b = 0x30 then 0x31000000 + 4 * w
  else if b ≤ 0x34 then 0x31010000 + (b - 0x31) * 0x2000 + 4 * w
  else if b ≤ 0x38 then 0x31018000 + (b - 0x35) * 0x2000 + 4 * w
  else if b = 0x40 then 0x40000000 + 4 * w
  else if b = 0x41 then 0x43000000 + 4 * w
  else if b = 0x42 then 0x41000000 + 4 * w
  else 0x42000000 + 4 * w

/-- The listed bank IDs, ascending (R229). -/
def bankIds : List Nat :=
  List.range 0x18 ++ (List.range 9).map (0x20 + ·) ++ (List.range 9).map (0x30 + ·) ++ [0x40, 0x41, 0x42, 0x43]

/-- The columns H(p) of the data positions (R230). -/
def eccColumns : List (BitVec 7) :=
  [0x07, 0x0B, 0x0D, 0x0E, 0x13, 0x15, 0x16, 0x19, 0x1A, 0x1C, 0x23, 0x25, 0x26, 0x29, 0x2A, 0x2C,
   0x31, 0x32, 0x34, 0x38, 0x43, 0x45, 0x46, 0x49, 0x4A, 0x4C, 0x51, 0x52, 0x54, 0x58, 0x61, 0x62]

/-- The check bits of a data word (R230). -/
def checkBits (w : Word) : BitVec 7 :=
  (eccColumns.zipIdx).foldl (fun c p => if w.getLsbD p.2 then c ^^^ p.1 else c) 0#7

/-- How a read is classified by its syndrome (R230). -/
inductive Ecc where
  | ok | single (pos : Nat) | bad
deriving DecidableEq, Repr

def eccClass (syn : BitVec 7) : Ecc :=
  if syn = 0#7 then .ok
  else match eccColumns.idxOf? syn with
    | some p => .single p
    | none => match (List.range 7).find? (fun j => syn == BitVec.ofNat 7 (2 ^ j)) with
      | some j => .single (32 + j)
      | none => .bad

/-- The number of the march that left the bank of address `a` undefined, if one did. -/
def undefEpoch (m : Memory) (a : Nat) : Option Nat :=
  match bankOf a with
  | none => none
  | some b => (m.undef.find? (fun p => p.1 == b)).map (·.2)

/-- What an unlisted byte reads as. -/
def memBase (m : Memory) (a : Nat) : Byte :=
  match undefEpoch m a with
  | none => 0#8
  | some e => Config.undefinedByte e a

/-- What the unlisted syndrome of the word at `a` is. -/
def syndBase (m : Memory) (a : Nat) : BitVec 7 :=
  match undefEpoch m a with
  | none => 0#7
  | some e => Config.undefinedSyndrome e a

/-- The byte the array holds at `a`. -/
def memByte (m : Memory) (a : Nat) : Byte := smapGet a (memBase m a) m.cells

/-- The syndrome of the code word at word address `a`. -/
def memSynd (m : Memory) (a : Nat) : BitVec 7 := smapGet a (syndBase m a) m.synd

/-- The data bits the array holds at word address `a`, little-endian. -/
def memWord (m : Memory) (a : Nat) : Word :=
  memByte m (a + 3) ++ memByte m (a + 2) ++ memByte m (a + 1) ++ memByte m a

/-- The array takes byte `v` at `a`. -/
def setMemByte (m : Memory) (a : Nat) (v : Byte) : Memory :=
  { m with cells := smapSet a v (memBase m a) m.cells }

/-- The array takes data word `w` with syndrome `syn` at word address `a`. -/
def setMemWord (m : Memory) (a : Nat) (w : Word) (syn : BitVec 7) : Memory :=
  let m := setMemByte m a (w.extractLsb' 0 8)
  let m := setMemByte m (a + 1) (w.extractLsb' 8 8)
  let m := setMemByte m (a + 2) (w.extractLsb' 16 8)
  let m := setMemByte m (a + 3) (w.extractLsb' 24 8)
  { m with synd := smapSet a syn (syndBase m a) m.synd }

/-- Bank `b` holds zeros with valid check bits. -/
def clearBank (b : Nat) (m : Memory) : Memory :=
  { cells := m.cells.filter (fun p => bankOf p.1 != some b)
    synd := m.synd.filter (fun p => bankOf p.1 != some b)
    undef := m.undef.filter (fun p => p.1 != b) }

/-- The contents of bank `b` are undefined from march number `e` on (R247, R250). -/
def loseBank (b e : Nat) (m : Memory) : Memory :=
  let m := clearBank b m
  { m with undef := (b, e) :: m.undef }

/-- The canonical form of the memory. -/
def Memory.wf (m : Memory) : Bool := smapWf (memBase m) m.cells && smapWf (syndBase m) m.synd

/-- The word at `a` with its error corrected at position `p` (R231). -/
def correctAt (w : Word) (p : Nat) : Word :=
  if p < 32 then w ^^^ BitVec.ofNat 32 (2 ^ p) else w

/-- The word at `a` as a read gives it, without its effects; none where it is uncorrectable. -/
def peekWord (m : Memory) (a : Nat) : Option Word :=
  match eccClass (memSynd m a) with
  | .ok => some (memWord m a)
  | .single p => some (correctAt (memWord m a) p)
  | .bad => none

end Sys2Proof.Machine
end

