-- ==== Sys2Proof/Machine/Protect.lean ====
section
/-!
DEFINITION. Leg faults (R309, R315 to R317), stops of Teasel channels (R360), fault sources, SAFE, nFAULT and the fault
summary (R475 to R479).
-/
namespace Sys2Proof.Machine

/-- The STATE of leg L: 0 OFF, 1 ARMING, 2 RUN, 3 FAULT, 4 BRAKE (R309). -/
def legState (l : Nat) (s : State) : Nat := s.get (F.PWM_LnSTAT_STATE (l / 8) (l % 8))

/-- The carrier group of leg L (R291). -/
def legGroup (l : Nat) (s : State) : Nat :=
  2 * (l / 8) + (if s.bit (F.PWM_LEGGRP_ODD (l / 8)) (l % 8) then 1 else 0)

/-- Armed: ARMING, RUN, or BRAKE, which only an armed leg enters (DEDUCED, assumption log 9). -/
def legArmed (l : Nat) (s : State) : Bool := legState l s == 1 || legState l s == 2 || legState l s == 4

/-- Is any leg of group `g` armed? -/
def groupArmed (g : Nat) (s : State) : Bool :=
  (List.range 16).any (fun l => legGroup l s == g && legArmed l s)

/-- The event number of group `g` at offset `k` (R321). -/
def groupEvent (g k : Nat) : Nat := 0x90 + 0x10 * (g / 2) + 8 * (g % 2) + k

/-- The index of a leg, from any number. -/
def legIx (l : Nat) : Fin 16 := ⟨l % 16, Nat.mod_lt _ (by decide)⟩

/-- Both outputs of leg L to high impedance, scheduled edges discarded, ACC cleared. -/
def legHiZ (l : Nat) (s : State) : State :=
  { s with pwm := { s.pwm with leg := vupd s.pwm.leg (legIx l) (fun g =>
      { g with edges := [], hs := none, ls := none, hiZ := true }) } }.setWord (R.PWM_LnACC (l / 8) (l % 8)) 0#32

/-- Leg L enters FAULT at high impedance with a cause (R315, R316), whatever its state; a leg in FAULT keeps its first cause. -/
def legLatch (l cause src : Nat) (s : State) : State :=
  if legState l s = 3 then s
  else
    let s := legHiZ l s
    let s := s.set (F.PWM_LnSTAT_STATE (l / 8) (l % 8)) 3
    let s := (s.set (F.PWM_LnSTAT_CAUSE (l / 8) (l % 8)) cause).set (F.PWM_LnSTAT_SRC (l / 8) (l % 8)) src
    s.raise (groupEvent (legGroup l s) 4)

/-- Leg L faults for a cause that reaches armed and braking legs only (R19, R131, R136, R316, R442). -/
def legFault (l cause src : Nat) (s : State) : State := if legArmed l s then legLatch l cause src s else s

/-- Every leg that `p` names faults, in ascending order. -/
def legsFault (p : Nat → Bool) (cause : Nat) (s : State) : State :=
  forEach 16 (fun l s => if p l then legFault l cause 0 s else s) s

/-- Teasel channel `t` stops with `cause` (R360): the event queues of its pins are emptied without firing. -/
def tslStop (t cause : Nat) (s : State) : State :=
  let base := s.get (F.TSL_CHtCFG_PINBASE t)
  let cnt := s.get (F.TSL_CHtCFG_PINCNT t) + 1
  let s := ((s.set (F.TSL_CHtCTL_RUN t) 0).set (F.TSL_CHtSTAT_RUN t) 0).setBit F.TSL_RUNNING_RUN t false
  let s := (s.set (F.TSL_CHtSTAT_WAIT t) 0).set (F.TSL_CHtSTAT_STALL t) 0
  let s := s.set (F.TSL_CHtSTAT_STOPCAUSE t) cause
  { s with tslPin := s.tslPin.mapIdx (fun i p =>
      if base ≤ i ∧ i < base + cnt then { p with queue := [] } else p) }

/-- Every running Teasel channel stops with `cause`. -/
def tslStopAll (cause : Nat) (s : State) : State :=
  forEach 24 (fun t s => if s.on (F.TSL_CHtCTL_RUN t) then tslStop t cause s else s) s

/-- The sources that act as SAFE (R475): class SAFE, and WARN sources promoted by LCS_FCLASS. -/
def actsSafe (b : Nat) (s : State) : Bool := decide (b < 5) || s.bit F.LCS_FCLASS_PROMOTE (b - 5)

/-- Is nFAULT driven low (R478)? -/
def nfaultLow (s : State) : Bool :=
  s.get F.SYS_BOOTSTAT_STATE != 8 || s.on F.LCS_FSTAT_SAFE || s.on F.LCS_NFCTL_FORCE ||
  (List.range 7).any (fun i => s.bit F.LCS_NFMASK i && (s.bit F.LCS_FACT (i + 5) || s.bit F.LCS_FSTICKY (i + 5)))

/-- The array takes word `w` at `a` with valid check bits, or with the armed injection (R252). -/
def arrayPut (a : Nat) (w : Word) (s : State) : State :=
  if s.on F.MEM_INJCTL_ARM && s.get F.MEM_INJADDR_ADDR / 4 * 4 == a then
    let w' := w ^^^ s.word R.MEM_INJDATA
    let chk := checkBits w ^^^ BitVec.ofNat 7 (s.get F.MEM_INJCTL_CHK)
    { s with mem := setMemWord s.mem a w' (chk ^^^ checkBits w') }.set F.MEM_INJCTL_ARM 0
  else { s with mem := setMemWord s.mem a w 0#7 }

/-- Does a destructive march run on bank `b` (R245)? -/
def bankMarched (b : Nat) (s : State) : Bool :=
  match s.memCtl.march with
  | some m => m.bank == b && !m.transparent
  | none => false

/-- The identity page follows its source by the hardware's own path (R403, R479): a word that differs is written, unless a destructive
march has the bank (R245; assumption log 67). -/
def windowPut (off : Nat) (w : Word) (s : State) : State :=
  if bankMarched 0x40 s ∨ (memWord s.mem (0x40000000 + off) = w ∧ memSynd s.mem (0x40000000 + off) = 0#7) then s
  else arrayPut (0x40000000 + off) w s

/-- The fault summary on the identity page, with LCS_FSTAT's WARN and NFLOW (R478, R479). -/
def faultSummary (s : State) : State :=
  let warn := (List.range 7).any (fun i => s.bit F.LCS_FACT (i + 5))
  let s := (s.setB F.LCS_FSTAT_WARN warn).setB F.LCS_FSTAT_NFLOW (nfaultLow s)
  let b := fun (x : Bool) => if x then 1 else 0
  let s := windowPut 0x7F20 (BitVec.ofNat 32 (s.get F.LCS_FACT)) s
  let s := windowPut 0x7F24 (BitVec.ofNat 32 (s.get F.LCS_FSTICKY)) s
  let s := windowPut 0x7F28 (BitVec.ofNat 32 (b (s.on F.LCS_FSTAT_SAFE) + 2 * b warn + 4 * b (nfaultLow s)
    + 16 * s.get F.LCS_STATE_STATE + 256 * s.lcs.keySlot)) s
  let s := windowPut 0x7F2C (BitVec.ofNat 32 (s.get F.LCS_TAMPSTAT_STICKY + 65536 * s.get F.LCS_TAMPSTAT_LAST
    + 0x1000000 * s.get F.LCS_STATE_TSET)) s
  let s := windowPut 0x7F30 (s.word R.LCS_WDRCAUSE) s
  windowPut 0x7F34 (BitVec.ofNat 32 (s.get F.SYS_RSTCAUSE_LAST)) s

/-- SAFE latches (R476): armed and braking legs fault with cause SYSTEM, and running Teasel channels stop. -/
def safeEnter (s : State) : State :=
  if s.on F.LCS_FSTAT_SAFE then s
  else
    let s := (s.set F.LCS_FSTAT_SAFE 1).raise 0xE3
    tslStopAll 7 (legsFault (fun _ => true) 6 s)

/-- The level of fault source `b` (R475); the pulse sources 8, 9 and 11 have none. -/
def faultLevel (b : Nat) (s : State) : Bool :=
  match b with
  | 0 => s.lcs.wdSrc.get 0
  | 1 => s.lcs.wdSrc.get 1
  | 2 => s.lcs.resp.isSome
  | 3 => s.on F.ADC_TJ_TSHUT
  | 4 => s.lcs.clkmon
  | 5 => s.get F.MBX_LEDGER_FAIL != 0
  | 6 => s.on F.ADC_SUPSTAT_TJHI
  | 7 => s.get F.ADC_SUPSTAT_LIVE != 0
  | 10 => s.get F.TB_LOCKLOSS != 0
  | _ => false

/-- The fault sources are taken anew from their levels: rises set their sticky bits, a WARN rise raises 0xE5, and a source
that acts as SAFE latches SAFE (R475, R476). -/
def State.faultEval (s : State) : State :=
  let s := forEach 12 (fun b s =>
    let new := faultLevel b s
    let old := s.bit F.LCS_FACT b
    let s := s.setBit F.LCS_FACT b new
    if new && !old then
      let s := s.setBit F.LCS_FSTICKY b true
      if 5 ≤ b then s.raise 0xE5 else s
    else s) s
  let s := if (List.range 12).any (fun b => s.bit F.LCS_FACT b && actsSafe b s) then safeEnter s else s
  faultSummary s

/-- A pulse of fault source `b`: UE, MARCH or FWSET (R475). -/
def State.faultPulse (s : State) (b : Nat) : State :=
  let s := (s.setBit F.LCS_FSTICKY b true).raise 0xE5
  faultSummary (if actsSafe b s then safeEnter s else s)

end Sys2Proof.Machine
end

