-- ==== Sys2Proof/Machine/Mem.lean ====
section
/-!
DEFINITION. One word service of a RAM bank, its ECC reports, bank power states and injection (R231 to R241, R252).
-/
namespace Sys2Proof.Machine

/-- Who makes an access: its CID and, for a chain request, the originating unit (R79, R81); whether it is an instruction fetch;
whether YCTM.CTM was 1 in Machine mode when it was issued (R242); whether PMP allows it (R90 step 6); and, for a chain request, the
originating CID and that CID's effective priority (R268). -/
structure Who where
  cid : Nat
  origin : Nat := 0
  fetch : Bool := false
  ctm : Bool := false
  pmp : Bool := true
  party : Nat × Nat := (0, 0)
deriving DecidableEq, Repr

/-- A corrected read is counted and reported (R231). -/
def noteCorrected (who : Who) (a p : Nat) (s : State) : State :=
  let s := s.count F.MEM_CECNT_CE
  let s := s.setWord R.MEM_CELAST (BitVec.ofNat 32 a)
  let s := (s.set F.MEM_CEINFO_CID who.cid).set F.MEM_CEINFO_BIT p
  s.raise 0x20

/-- An uncorrectable word is counted, logged with its KIND and raises 0x21 (R232). -/
def noteUncorrectable (who : Who) (a kind : Nat) (s : State) : State :=
  let e := s.get F.MEM_UEHEAD_NEXT
  let s := s.count F.MEM_CECNT_UE
  let s := s.setWord (R.MEM_UEADDR e) (BitVec.ofNat 32 a)
  let s := s.set (F.MEM_UEINFO_CID e) who.cid
  let s := s.set (F.MEM_UEINFO_ORIGIN e) who.origin
  let s := s.set (F.MEM_UEINFO_KIND e) kind
  let s := s.set (F.MEM_UEINFO_VALID e) 1
  let s := s.set F.MEM_UEHEAD_NEXT (e + 1)
  (s.raise 0x21).faultPulse 8

/-- A service moves the rotating pointer of its bank past the CID served (R14). The chain's CIDs use port B of the window, which has no
pointer. -/
def bankServed (a cid : Nat) (s : State) : State :=
  if 58 ≤ cid ∧ cid ≤ 61 then s
  else match bankOf a with
    | none => s
    | some b => { s with memCtl := { s.memCtl with ptr := s.memCtl.ptr.set! b ((cid + 1) % 64) } }

/-- One read service of the word at `a`; none where the word is uncorrectable (R231, R232). -/
def ramReadWord (who : Who) (kind a : Nat) (s : State) : Option Word × State :=
  let s := bankServed a who.cid s
  let w := memWord s.mem a
  match eccClass (memSynd s.mem a) with
  | .ok => (some w, s)
  | .single p =>
    let w := correctAt w p
    (some w, noteCorrected who a p { s with mem := setMemWord s.mem a w 0#7 })
  | .bad => (none, noteUncorrectable who a kind s)

/-- Store word `w` at `a` with valid check bits, or with the armed injection (R252). -/
def storeWord (who : Who) (a : Nat) (w : Word) (s : State) : State :=
  if who.cid = 63 then { s with mem := setMemWord s.mem a w 0#7 } else arrayPut a w s

/-- The bytes of `new` that `mask` names (bit i for byte i), the others of `old`. -/
def mergeBytes (old new : Word) (mask : Nat) : Word :=
  (if natBit mask 3 then new.extractLsb' 24 8 else old.extractLsb' 24 8) ++
  (if natBit mask 2 then new.extractLsb' 16 8 else old.extractLsb' 16 8) ++
  (if natBit mask 1 then new.extractLsb' 8 8 else old.extractLsb' 8 8) ++
  (if natBit mask 0 then new.extractLsb' 0 8 else old.extractLsb' 0 8)

/-- One write service of the word at `a`: `mask` names the bytes written. A write of fewer than 32 bits reads the old word
first and is refused where that is uncorrectable (R233). Answers whether the write was done. -/
def ramWriteWord (who : Who) (a : Nat) (w : Word) (mask : Nat) (s : State) : Bool × State :=
  if mask % 16 = 15 then (true, storeWord who a w (bankServed a who.cid s))
  else match ramReadWord who 2 a s with
    | (some old, s) => (true, storeWord who a (mergeBytes old w mask) s)
    | (none, s) => (false, s)

/-- Present power state of a bank: 0 ON, 1 RETENTION, 2 OFF (R238). -/
def bankPower (b : Nat) (s : State) : Nat := s.get (F.MEM_PWR_STATE b)

/-- The state a bank's transition in progress leads to. -/
def pwrTarget (b : Nat) (s : State) : Option Nat := (s.memCtl.pwrTo.find? (fun p => p.1 == b)).map (·.2)

/-- A bank reaches power state `t` (R239): from OFF it is written with zeros, OFF loses the contents, and reaching ON
raises 0x28. -/
def bankReach (b t : Nat) (s : State) : State :=
  let wasOff := bankPower b s == 2
  let s := { s with memCtl := { s.memCtl with pwrTo := s.memCtl.pwrTo.filter (fun p => p.1 != b) } }
  let s := if t = 2 ∨ wasOff then { s with mem := clearBank b s.mem } else s
  let s := (s.set (F.MEM_PWR_STATE b) t).set (F.MEM_PWR_CHANGING b) 0
  if t = 0 then s.raise 0x28 else s

/-- An access meets the bank's power state (R240): served, after a wake where AUTOWAKE allows it, or refused with BUSY and
event 0x22. DEDUCED (assumption log 44): a bank in transition to ON completes the transition first, for the access waits. -/
def bankWake (b : Nat) (s : State) : Bool × State :=
  match pwrTarget b s with
  | some 0 => (true, bankReach b 0 s)
  | some 1 =>
    if s.on (F.MEM_PWR_AUTOWAKE b) then (true, bankReach b 0 s) else (false, s.raise 0x22)
  | some _ => (false, s.raise 0x22)
  | none =>
    match bankPower b s with
    | 0 => (true, s)
    | 1 => if s.on (F.MEM_PWR_AUTOWAKE b) then (true, bankReach b 0 s) else (false, s.raise 0x22)
    | _ => (false, s.raise 0x22)

/-- Does a destructive march run on the bank, or (the secure bank) a wipe, so that accesses are refused with BUSY
(R245, R244), or is it closed for a transition or a tamper response (R463, R468)? -/
def bankHeld (b : Nat) (s : State) : Bool :=
  bankMarched b s || (b == 0x42 && (s.on F.MEM_SECSTAT_WIPING || s.lcs.secClosed))

/-- Does the bank of address `a` take an access now? Answers false where it is refused with BUSY. -/
def bankReady (a : Nat) (s : State) : Bool × State :=
  match bankOf a with
  | none => (true, s)
  | some b => if bankHeld b s then (false, s) else bankWake b s

/-- Causes of a refused access (R94). -/
inductive Cause where
  | unmapped | disabled | align | ro | deny | busy | ecc | remote
deriving DecidableEq, Repr

def Cause.code : Cause → Nat
  | .unmapped => 1 | .disabled => 2 | .align => 3 | .ro => 4 | .deny => 5 | .busy => 6 | .ecc => 7 | .remote => 8

/-- The answer of one access: data, or the cause of its refusal. -/
inductive Ans where
  | ok (data : DWord) | refused (c : Cause)
deriving DecidableEq, Repr

def Ans.data : Ans → DWord
  | .ok d => d
  | .refused _ => 0#64

def Ans.isOk : Ans → Bool
  | .ok _ => true
  | .refused _ => false

/-- The word address that holds byte address `a`. -/
def wordAddr (a : Nat) : Nat := a / 4 * 4

/-- A read of `size` ≤ 4 aligned bytes of RAM at `a`, right-justified. `kind` is the KIND of the error log. -/
def ramReadSmall (who : Who) (kind a size : Nat) (s : State) : Ans × State :=
  match bankReady a s with
  | (false, s) => (.refused .busy, s)
  | (true, s) =>
    match ramReadWord who kind (wordAddr a) s with
    | (none, s) => (.refused .ecc, s)
    | (some w, s) => (.ok (BitVec.ofNat 64 (w.toNat / 2 ^ (8 * (a % 4)) % 2 ^ (8 * size))), s)

/-- A write of `size` ≤ 4 aligned bytes of RAM at `a`. -/
def ramWriteSmall (who : Who) (a size : Nat) (v : Nat) (s : State) : Ans × State :=
  match bankReady a s with
  | (false, s) => (.refused .busy, s)
  | (true, s) =>
    match ramWriteWord who (wordAddr a) (BitVec.ofNat 32 (v % 2 ^ (8 * size) * 2 ^ (8 * (a % 4))))
        ((2 ^ size - 1) * 2 ^ (a % 4)) s with
    | (true, s) => (.ok 0#64, s)
    | (false, s) => (.refused .ecc, s)

/-- A read of `size` (1, 2, 4 or 8) aligned bytes of RAM. An 8-byte read is refused if either word is (R86, R232). -/
def ramRead (who : Who) (kind a size : Nat) (s : State) : Ans × State :=
  if size ≤ 4 then ramReadSmall who kind a size s
  else match ramReadSmall who kind a 4 s with
    | (.refused c, s) => (.refused c, s)
    | (.ok lo, s) => match ramReadSmall who kind (a + 4) 4 s with
      | (.refused c, s) => (.refused c, s)
      | (.ok hi, s) => (.ok (lo + hi * 0x100000000#64), s)

/-- A write of `size` (1, 2, 4 or 8) aligned bytes of RAM. -/
def ramWrite (who : Who) (a size v : Nat) (s : State) : Ans × State :=
  if size ≤ 4 then ramWriteSmall who a size v s
  else match ramWriteSmall who a 4 (v % 2 ^ 32) s with
    | (.refused c, s) => (.refused c, s)
    | (.ok _, s) => ramWriteSmall who (a + 4) 4 (v / 2 ^ 32) s

end Sys2Proof.Machine
end

