-- ==== Sys2Proof/Machine/MemCtlOps.lean ====
section
/-!
DEFINITION. The memory control block: bank power requests, wipes, the march engine and the scrubber (R239 to R252).
-/
namespace Sys2Proof.Machine

/-- Is the core of Campion bank `b` held (R241, R250)? Banks of other memories need no hold. -/
def bankCoreHeld (b : Nat) (s : State) : Bool :=
  if 0x20 ≤ b ∧ b < 0x40 then (s.camp.get ⟨(b - 0x20) / 16 % 2, Nat.mod_lt _ (by decide)⟩).held else true

/-- Is a march run in progress on bank `b`? -/
def marchOn (b : Nat) (s : State) : Bool :=
  match s.memCtl.march with
  | some m => m.bank == b
  | none => false

/-- The transition of bank `b` to a requested state begins (R239). -/
def pwrBegin (b req : Nat) (s : State) : State :=
  let pw := s.memCtl.pwrTo.filter (fun p => p.1 != b)
  { s with memCtl := { s.memCtl with pwrTo := (b, req) :: pw } }.set (F.MEM_PWR_CHANGING b) 1

/-- Is a request pending at bank `b`? -/
def bankAsked (b : Nat) (s : State) : Bool :=
  s.svc.pending.any (fun e => match e.1 with
    | .bank c => c.val == b
    | _ => false)

/-- A write of MEM_PWR for bank `b` (R239, R241): AUTOWAKE is set, and the request is taken or refused with PWRERR. It takes effect at the
bank's next service point, after the accesses captured there; an idle bank is at one. The transition to a state the bank already has, with
none in progress, changes nothing. A request OFF to RETENTION is OFF to ON followed by ON to RETENTION. -/
def pwrWrite (b : Nat) (w : Word) (s : State) : State :=
  let req := fieldOf 0 2 w
  let s := s.set (F.MEM_PWR_AUTOWAKE b) (fieldOf 2 1 w)
  let s := if natBit w.toNat 7 then s.set (F.MEM_PWR_PWRERR b) 0 else s
  if req = 3 ∨ (b = 0x0F ∧ req = 2) ∨ (0x40 ≤ b ∧ req ≠ 0) ∨ !bankCoreHeld b s ∨ marchOn b s then
    s.set (F.MEM_PWR_PWRERR b) 1
  else
    let s := s.set (F.MEM_PWR_REQ b) req
    let rest := s.memCtl.pwrWait.filter (fun p => p.1 != b)
    let s := { s with memCtl := { s.memCtl with pwrWait := rest } }
    if (pwrTarget b s).isNone ∧ bankPower b s = req then s
    else if bankAsked b s then { s with memCtl := { s.memCtl with pwrWait := (b, req, none) :: rest } }
    else pwrBegin b req s

/-- The transition in progress of bank `b` ends (R239). OFF to RETENTION passes through ON. -/
def pwrDone (b : Nat) (s : State) : State :=
  match pwrTarget b s with
  | none => s
  | some 1 =>
    if bankPower b s = 2 then
      let s := bankReach b 0 s
      { s with memCtl := { s.memCtl with pwrTo := (b, 1) :: s.memCtl.pwrTo } }.set (F.MEM_PWR_CHANGING b) 1
    else bankReach b 1 s
  | some t => bankReach b t s

/-- A wipe of the secure bank starts, or a trigger merges into the wipe in progress (R244). -/
def wipeStart (c : WipeCause) (s : State) : State :=
  { s with memCtl := { s.memCtl with wipeCauses := s.memCtl.wipeCauses ++ [c] } }.set F.MEM_SECSTAT_WIPING 1

/-- Steps 3 to 5 of R244: all words zero with valid check bits, the count, and event 0x25 or 0x26. `ok` is what the
read-back of step 4 found. -/
def wipeFinish (ok : Bool) (s : State) : State :=
  let s := { s with mem := clearBank 0x42 s.mem, memCtl := { s.memCtl with wipeCauses := [] } }
  let s := (s.set F.MEM_SECSTAT_WIPING 0).count F.MEM_SECSTAT_WIPECNT
  if ok then s.raise 0x25 else (s.set F.MEM_SECSTAT_WIPEERR 1).raise 0x26

/-- A write of MEM_SECCTL by CID 0 or 1 (R243). -/
def secctlWrite (w : Word) (s : State) : State :=
  if natBit w.toNat 0 then
    if fieldOf 16 16 w = 0x5EC0 then wipeStart .software s else s.set F.MEM_SECSTAT_KEYERR 1
  else s

/-- The failure record clears at an accepted START (R247). -/
def marchClear (b : Nat) (s : State) : State :=
  let s := (s.set F.MEM_MARCHSTAT_FAILBANK b).set F.MEM_MARCHSTAT_FAILWORD 0
  let s := (s.set F.MEM_MARCHSTAT_ELEM 0).set F.MEM_MARCHSTAT_FAILKIND 0
  (s.setWord R.MEM_MARCHXOR 0#32).setWord R.MEM_MARCHXORC 0#32

/-- A run is requested with the fields of MEM_MARCHCTL (R250). -/
def marchStart (s : State) : State :=
  let b := s.get F.MEM_MARCHCTL_BANK
  let tr := s.on F.MEM_MARCHCTL_MODE
  if s.memCtl.march.isSome ∨ !bankIds.contains b ∨ bankPower b s ≠ 0 ∨ (pwrTarget b s).isSome ∨ !bankCoreHeld b s
      ∨ (!tr ∧ s.get F.MEM_MARCHCTL_SEGLEN ≠ 0) then
    s.set F.MEM_MARCHSTAT_REFUSED 1
  else
    let s := (marchClear b s).set F.MEM_MARCHSTAT_BUSY 1
    let run : March := { bank := b, transparent := tr, elem := 1, seglen := s.get F.MEM_MARCHCTL_SEGLEN + 1,
                         cefail := s.on F.MEM_MARCHCTL_CEFAIL }
    let s := { s with memCtl := { s.memCtl with march := some run } }
    if tr then s
    else { s with mem := loseBank b s.memCtl.epoch s.mem
                  memCtl := { s.memCtl with epoch := s.memCtl.epoch + 1 } }

/-- The run in progress ends: BUSY clears (R247, R250). -/
def marchEnd (s : State) : State :=
  { s with memCtl := { s.memCtl with march := none } }.set F.MEM_MARCHSTAT_BUSY 0

/-- ABORT (R250): a destructive run ends at once with the bank undefined; a transparent run first completes its
segment. -/
def marchAbort (s : State) : State :=
  match s.memCtl.march with
  | none => s
  | some m =>
    if m.transparent then { s with memCtl := { s.memCtl with march := some { m with abort := true } } }
    else marchEnd s

/-- The bits of MEM_MARCHCTL (R253): the fields are set, ABORT acts, then START. -/
def marchctlWrite (w : Word) (s : State) : State :=
  let s := s.setWord R.MEM_MARCHCTL (w &&& 0x00FF03FF#32)
  let s := if natBit w.toNat 11 then marchAbort s else s
  if natBit w.toNat 10 then marchStart s else s

/-- A march failure (R247): kind, word, element and the XOR of a compare. -/
structure MarchFail where
  kind : Nat
  word : Nat
  elem : Nat
  xor : BitVec 39 := 0#39
deriving DecidableEq, Repr

/-- The failure is recorded; FAIL is set and event 0x24 raised (R247). -/
def marchFailed (f : MarchFail) (s : State) : State :=
  let s := (s.set F.MEM_MARCHSTAT_FAILWORD f.word).set F.MEM_MARCHSTAT_ELEM f.elem
  let s := s.set F.MEM_MARCHSTAT_FAILKIND f.kind
  let s := s.setWord R.MEM_MARCHXOR (f.xor.extractLsb' 0 32)
  let s := s.set F.MEM_MARCHXORC_XOR (f.xor.extractLsb' 32 7).toNat
  (((marchEnd s).set F.MEM_MARCHSTAT_FAIL 1).raise 0x24).faultPulse 9

/-- The 39-bit code word at word address `a`: data in bits 0 to 31, check bits in 32 to 38 (R230). -/
def codeWord (m : Memory) (a : Nat) : BitVec 39 := (checkBits (memWord m a) ^^^ memSynd m a) ++ memWord m a

/-- The syndrome of a code word (R230). -/
def codeSyndrome (c : BitVec 39) : BitVec 7 := checkBits (c.extractLsb' 0 32) ^^^ c.extractLsb' 32 7

/-- The array holds code word `c` at `a`. -/
def setCodeWord (m : Memory) (a : Nat) (c : BitVec 39) : Memory :=
  setMemWord m a (c.extractLsb' 0 32) (codeSyndrome c)

/-- What the array misreads: the bits flipped in the read of element `e` at word offset `i` (an outside fact). -/
def flipOf (flips : List (Nat × Nat × BitVec 39)) (e i : Nat) : BitVec 39 :=
  match flips.find? (fun f => f.1 == e && f.2.1 == i) with
  | some f => f.2.2
  | none => 0#39

/-- The ECC check of a code word read by a transparent run (R246): the checked code word, the report, and the failure
the read makes, if it makes one. -/
def marchCheck (cefail : Bool) (e word a : Nat) (c : BitVec 39) (s : State) :
    BitVec 39 × Option MarchFail × State :=
  match eccClass (codeSyndrome c) with
  | .ok => (c, none, s)
  | .single p =>
    (c ^^^ BitVec.ofNat 39 (2 ^ p), if cefail then some { kind := 2, word, elem := e } else none,
      noteCorrected { cid := 63 } a p s)
  | .bad => (c, some { kind := 1, word, elem := e }, noteUncorrectable { cid := 63 } a 4 s)

/-- One element of a transparent segment over the word offsets `is`, in order: every word is read as `xs` (as first
read) with its flip, checked, and its checked code word is listed; the first failure stands. -/
def marchElem (m : March) (e : Nat) (flips : List (Nat × Nat × BitVec 39)) (xs : Nat → BitVec 39)
    (is : List Nat) (s : State) : List (Nat × BitVec 39) × Option MarchFail × State :=
  is.foldl
    (fun p i =>
      let word := m.seg * m.seglen + i
      let r := marchCheck m.cefail e word (bankAddr m.bank word) (xs i ^^^ flipOf flips e i) p.2.2
      (p.1 ++ [(i, r.1)], p.2.1.or r.2.1, r.2.2)) ([], none, s)

/-- The signature of an element's checked code words: CRC-32C over five bytes of each (R246). -/
def marchSig (cs : List (Nat × BitVec 39)) : Word := crc32c (cs.flatMap (fun p => leBytes 5 p.2.toNat))

/-- The code word listed for offset `i`. -/
def codeAt (cs : List (Nat × BitVec 39)) (i : Nat) : BitVec 39 :=
  match cs.find? (fun p => p.1 == i) with
  | some p => p.2
  | none => 0#39

/-- One transparent segment (R246), elements 1 to 5, with the first failure. -/
def marchSegmentRun (m : March) (flips : List (Nat × Nat × BitVec 39)) (s : State) : Option MarchFail × State :=
  let s := bankServed (bankAddr m.bank (m.seg * m.seglen)) 63 s
  let words := bankWords m.bank
  let n := min m.seglen (words - m.seg * m.seglen)
  let up := List.range n
  let down := up.reverse
  let addr := fun i => bankAddr m.bank (m.seg * m.seglen + i)
  let r1 := marchElem m 1 flips (fun i => codeWord s.mem (addr i)) up s
  let x := codeAt r1.1
  let r2 := marchElem m 2 flips x up r1.2.2
  let r3 := marchElem m 3 flips x down r2.2.2
  let r4 := marchElem m 4 flips x down r3.2.2
  let r5 := marchElem m 5 flips x up r4.2.2
  let s1 := marchSig r1.1
  let s2 := marchSig r2.1
  let s5 := marchSig r5.1
  let s := r5.2.2
  let mem := up.foldl (fun mm i =>
    let c := codeAt r5.1 i
    setCodeWord mm (addr i) (if eccClass (codeSyndrome c) = .ok then c else x i)) s.mem
  let s := { s with mem := mem }.setWord R.MEM_MARCHSIG s1
  let first := m.seg * m.seglen
  let sig : Option MarchFail :=
    if s2 ≠ s1 then some { kind := 3, word := first, elem := 2 }
    else if s5 ≠ s1 then some { kind := 3, word := first, elem := 5 } else none
  (r1.2.1.or (r2.2.1.or (r3.2.1.or (r4.2.1.or (r5.2.1.or sig)))), s)

/-- A transparent segment and its end: the next segment, the run's end, or its failure. An aborted run sets neither DONE nor FAIL
(R250). -/
def marchTransparent (m : March) (flips : List (Nat × Nat × BitVec 39)) (s : State) : State :=
  match marchSegmentRun m flips s with
  | (some f, s) => if m.abort then marchEnd s else marchFailed f s
  | (none, s) =>
    if m.abort then marchEnd s
    else if bankWords m.bank ≤ (m.seg + 1) * m.seglen then ((marchEnd s).set F.MEM_MARCHSTAT_DONE 1).raise 0x23
    else { s with memCtl := { s.memCtl with march := some { m with seg := m.seg + 1 } } }

/-- One element of a destructive run over the whole bank, its operations services of CID 63 (R235, R245): the first misread in the element's order fails the run,
which leaves the bank undefined; after element 6 the bank is zero. -/
def marchDestructive (m : March) (flips : List (Nat × Nat × BitVec 39)) (s : State) : State :=
  let s := bankServed (bankAddr m.bank 0) 63 s
  let bad := flips.filter (fun f => f.1 == m.elem && decide (f.2.1 < bankWords m.bank) && f.2.2 != 0#39)
  let pick := fun (b : Option (Nat × Nat × BitVec 39)) (f : Nat × Nat × BitVec 39) =>
    match b with
    | none => some f
    | some g => if (m.elem = 4 ∨ m.elem = 5) then (if g.2.1 < f.2.1 then some f else b)
                else (if f.2.1 < g.2.1 then some f else b)
  match (if m.elem = 1 then none else bad.foldl pick none) with
  | some f => marchFailed { kind := 0, word := f.2.1, elem := m.elem, xor := f.2.2 } s
  | none =>
    if m.elem < 6 then { s with memCtl := { s.memCtl with march := some { m with elem := m.elem + 1 } } }
    else ((marchEnd { s with mem := clearBank m.bank s.mem }).set F.MEM_MARCHSTAT_DONE 1).raise 0x23

/-- One segment of a transparent run, or one element of a destructive run. -/
def marchWork (flips : List (Nat × Nat × BitVec 39)) (s : State) : State :=
  match s.memCtl.march with
  | none => s
  | some m => if m.transparent then marchTransparent m flips s else marchDestructive m flips s

/-- May the scrubber read bank `b` (R251)? -/
def scrubbable (b : Nat) (s : State) : Bool := bankPower b s == 0 && (pwrTarget b s).isNone && !marchOn b s

/-- One scrub read (R251), where SCRUBDIV ticks of TB10 have passed since the last: the word at the pointer, or the first word of the next
bank that may be read; then the pointer moves on, and event 0x27 is raised when it wraps. -/
def scrubRead (s : State) : State :=
  if !s.on F.MEM_ECCCTL_SCRUBEN ∨ s.memCtl.scrubTick < max 1 (s.get F.MEM_ECCCTL_SCRUBDIV) then s
  else
    let s := { s with memCtl := { s.memCtl with scrubTick := 0 } }
    let b0 := s.memCtl.scrubBank
    let here := if scrubbable b0 s then some (b0, s.memCtl.scrubWord, false) else
      match bankIds.find? (fun b => decide (b0 < b) && scrubbable b s) with
      | some b => some (b, 0, false)
      | none => (bankIds.find? (fun b => scrubbable b s)).map (fun b => (b, 0, true))
    match here with
    | none => s
    | some (b, w, wrapped) =>
      let s := match ramReadWord { cid := 63 } 3 (bankAddr b w) s with
        | (_, s) => s
      let s := if wrapped then s.raise 0x27 else s
      if w + 1 < bankWords b then
        { s with memCtl := { s.memCtl with scrubBank := b, scrubWord := w + 1 } }
      else
        match bankIds.find? (fun c => decide (b < c)) with
        | some c => { s with memCtl := { s.memCtl with scrubBank := c, scrubWord := 0 } }
        | none => { s with memCtl := { s.memCtl with scrubBank := 0, scrubWord := 0 } }.raise 0x27

/-- Writes of the memory control block that act beyond their access codes (R253): refused with DENY to any CID but 0
and 1. None where the generic register write serves. -/
def memCtlWrite (cid a : Nat) (w : Word) (s : State) : Option (Ans × State) :=
  let off := a - 0x50004000
  let own := off = 0x80 ∨ off = 0xC0 ∨ (0x40 ≤ off ∧ off ≤ 0x48) ∨ 0x100 ≤ off
  if own ∧ 1 < cid then some (.refused .deny, s)
  else if off = 0x80 then some (.ok 0#64, secctlWrite w s)
  else if off = 0xC0 then some (.ok 0#64, marchctlWrite w s)
  else if 0x100 ≤ off then some (.ok 0#64, pwrWrite ((off - 0x100) / 4) w s)
  else none

end Sys2Proof.Machine
end

