-- ==== Sys2Proof/Machine/ChainBase.lean ====
section
/-!
DEFINITION. The chain engine's shared operations: its address and routing state, its events, the identity page, and the
placing of a frame of this unit on its port (R383, R403 to R405, R433).
-/
namespace Sys2Proof.Machine

def portIx (p : Nat) : Fin 2 := ⟨p % 2, Nat.mod_lt _ (by decide)⟩
def State.port (s : State) (p : Fin 2) : Port := s.chn.port.get p
def State.setPort (s : State) (p : Fin 2) (x : Port) : State :=
  { s with chn := { s.chn with port := s.chn.port.set p.val x p.isLt } }
/-- The other port. -/
def other (p : Fin 2) : Fin 2 := ⟨1 - p.val, by omega⟩

/-- This unit's address, 0 while it has none. -/
def ownAddr (s : State) : Nat := if s.on F.CHN_ADDR_VALID then s.get F.CHN_ADDR_ADDR else 0
/-- Does this unit act as the head: strapped, and it has not yielded (R397)? -/
def isHead (s : State) : Bool := s.on F.CHN_ADDR_HEAD && !s.on F.CHN_ADDR_YIELD
def quarantined (s : State) : Bool := s.get F.CHN_ADDR_QUAR != 0
def linkUp (p : Fin 2) (s : State) : Bool := s.on (F.CHN_pSTAT_LINK p.val)

/-- A 64-bit map held in two registers. -/
def State.map64 (s : State) (lo hi : Reg) : Nat := (s.word lo).toNat + (s.word hi).toNat * 2 ^ 32
def State.setMap64 (s : State) (lo hi : Reg) (v : Nat) : State :=
  (s.setWord lo (BitVec.ofNat 32 v)).setWord hi (BitVec.ofNat 32 (v / 2 ^ 32))
def upmap (s : State) : Nat := s.map64 R.CHN_UPMAPLO R.CHN_UPMAPHI
def liveMap (s : State) : Nat := s.map64 R.CHN_LIVELO R.CHN_LIVEHI
def reachMap (s : State) : Nat := s.map64 R.CHN_REACHLO R.CHN_REACHHI
def lostMap (s : State) : Nat := s.map64 R.CHN_LOSTLO R.CHN_LOSTHI
/-- Is address `n`, 1 to 64, in the map? -/
def inMap (m n : Nat) : Bool := decide (1 ≤ n) && natBit m (n - 1)
/-- The map of addresses `a` to `b`. -/
def mapOf (a b : Nat) : Nat := (List.range 64).foldl (fun m i => if a ≤ i + 1 ∧ i + 1 ≤ b then m + 2 ^ i else m) 0

/-- The port that leads to address `n` (R383). -/
def routePort (n : Nat) (s : State) : Fin 2 := if inMap (upmap s) n then 0 else 1
/-- The head port: the port through which address 1 is routed (R428). -/
def headPort (s : State) : Fin 2 := routePort 1 s

/-- An occurrence of event 0xD0 + b (R404, R517). -/
def chnEvent (b : Nat) (s : State) : State :=
  let s := s.setBit F.CHN_EVT b true
  if s.bit F.CHN_EVTEN b then s.raise (0xD0 + b) else s
/-- An occurrence of bit b of CHN_XEVT (R433, R517): event 0xDE for bits 0 to 2, 0xDF for bits 3 to 5. -/
def xEvent (b : Nat) (s : State) : State :=
  let s := s.setBit F.CHN_XEVT b true
  if s.bit F.CHN_XEVTEN b then s.raise (if b < 3 then 0xDE else 0xDF) else s

/-- The word of the identity page that shows STATE and PERS (R77, R403). -/
def pageState (s : State) : State :=
  windowPut 0x7F10 (BitVec.ofNat 32 (s.get F.SYS_BOOTSTAT_STATE + 256 * s.get F.SYS_BOOTSTAT_PERS)) s

/-- The identity page but for PERSID, which boot writes, and the fault summary (R403). -/
def idPage (s : State) : State :=
  let s := windowPut 0x7F00 (BitVec.ofNat 32 ((s.word R.CHN_ADDR).toNat % 65536)) s
  let s := windowPut 0x7F04 1#32 s
  let s := pageState (windowPut 0x7F08 (s.word R.SYS_IMAGEID) s)
  let s := windowPut 0x7F14 (s.word R.CHN_VERS) s
  let s := windowPut 0x7F18 (BitVec.ofNat 32 (s.get F.SYS_BOOTSTAT_ERRA + 256 * s.get F.SYS_BOOTSTAT_ERRB
    + 65536 * s.get F.MEM_MARCHSTAT_FAILBANK)) s
  windowPut 0x7F1C (BitVec.ofNat 32 (s.get F.CHN_ADDR_NUNITS)) s

/-- A frame of this unit waits at port `p` (R388); with the link down it is discarded (R398), except the management frames that a
port sends before its link is up. The UP port of a head without RINGEN sends idle symbols alone (R396). -/
def chainSendOn (p : Fin 2) (f : Frame) (s : State) : State :=
  if p = 0 && isHead s && !s.on F.CHN_CFG_RINGEN then s
  else if linkUp p s || (f.dst == 0 && s.on (F.CHN_pSTAT_LOCK p.val)) then
    let x := s.port p
    s.setPort p { x with queue := x.queue ++ [f] }
  else s

/-- A frame delivered to the host (R426). -/
def hostPut (f : Frame) (s : State) : State :=
  if s.chn.hostOut.length < 8 then
    let s := { s with chn := { s.chn with hostOut := s.chn.hostOut ++ [f] } }
    s.set F.CHN_HOSTSTAT_RXCNT s.chn.hostOut.length
  else s

/-- A frame this unit originates is routed (R383). A broadcast of the head leaves on UP only while RINGBRK = 1. -/
def chainSend (f : Frame) (s : State) : State :=
  let f := { f with src := ownAddr s, hop := 0 }
  if f.dst = 0x7F then
    let s := if isHead s && !s.on F.CHN_ADDR_RINGBRK then s else chainSendOn 0 f s
    chainSendOn 1 f s
  else if f.dst = ownAddr s then (if 128 ≤ f.tag then hostPut f s else s)
  else if 1 ≤ f.dst ∧ f.dst ≤ 64 then chainSendOn (routePort f.dst s) f s
  else s

/-- The number that bytes hold, lowest first. -/
abbrev leNat : List Byte → Nat := ofLeBytes
/-- The `n`-byte number at byte `i` of a payload. -/
def Frame.at_ (f : Frame) (i n : Nat) : Nat := leNat ((f.data.drop i).take n)

end Sys2Proof.Machine
end

