-- ==== Sys2Proof/Machine/PoolOps.lean ====
section
/-!
DEFINITION. The buffer pool and the mailboxes (R271 to R284, R288, R520).
-/
namespace Sys2Proof.Machine

def State.buf (s : State) (i : Nat) : Buf := smapGet i {} s.share.bufs
def State.setBuf (s : State) (i : Nat) (b : Buf) : State :=
  { s with share := { s.share with bufs := smapSet i b {} s.share.bufs } }

/-- How many buffers stand in state `st`, which is not FREE. -/
def bufCount (st : BufState) (s : State) : Nat := (s.share.bufs.filter (fun e => decide (e.2.st = st))).length
/-- FREE of POOL_COUNT: the rest of the 512, which the pool ledger keeps true (R285). -/
def freeCount (s : State) : Nat :=
  512 - (bufCount .owned s + bufCount .transit s + bufCount .reserved s)
/-- Buffers owned or reserved by a CID (POOL_OWNCNT). -/
def ownCount (c : Nat) (s : State) : Nat :=
  (s.share.bufs.filter (fun e => (decide (e.2.st = .owned) || decide (e.2.st = .reserved)) && e.2.owner == c)).length

/-- Events 0x35 and 0x36 after an operation that may have taken buffers (R284, R288). -/
def poolLevels (before : Nat) (s : State) : State :=
  let now := freeCount s
  let m := s.get F.POOL_LOWMARK_MARK
  let s := if m ≤ before ∧ now < m then s.raise 0x35 else s
  if 32 < before ∧ now ≤ 32 then s.raise 0x36 else s

/-- The lowest-numbered free buffer. -/
def lowestFree (s : State) : Option Nat := (List.range 512).find? (fun i => decide ((s.buf i).st = .free))

def handleOf (i : Nat) (s : State) : Nat := i + 512 * (s.buf i).gen

/-- The buffers of the chain from buffer `i` on. -/
def chainOf : Nat → Nat → State → List Nat
  | 0, _, _ => []
  | n + 1, i, s => i :: (match (s.buf i).next with
    | some j => chainOf n j s
    | none => [])

/-- The chain a buffer names: at most 64 buffers (R281). -/
def chain (i : Nat) (s : State) : List Nat := chainOf 64 i s

/-- The buffer that links to `i`. -/
def predOf (i : Nat) (s : State) : Option Nat := (s.share.bufs.find? (fun e => e.2.next == some i)).map (·.1)
/-- The buffers before `i` in its chain, counted. -/
def predCount : Nat → Nat → State → Nat
  | 0, _, _ => 0
  | n + 1, i, s => match predOf i s with
    | some j => 1 + predCount n j s
    | none => 0

/-- POOL_REFUSAL (R282). -/
def poolRefuse (cid h cause : Nat) (s : State) : State :=
  let i := h % 512
  let b := s.buf i
  let held := decide (b.st = .owned) || decide (b.st = .reserved)
  let e := s.get F.POOL_ERRHEAD_NEXT
  let s := s.setWord (R.POOL_ERRLOGA e) (BitVec.ofNat 32 (h + 65536 * cid + 0x1000000 * cause + 0x80000000))
  let s := s.setWord (R.POOL_ERRLOGB e) (BitVec.ofNat 32 (if held then b.owner else 63))
  let s := s.set F.POOL_ERRHEAD_NEXT (e + 1)
  let s := s.setBit (if cid < 32 then F.POOL_ERRPENDLO_PEND else F.POOL_ERRPENDHI_PEND) (cid % 32) true
  let s := if cause = 2 ∧ held then
      s.setBit (if b.owner < 32 then F.POOL_FORPENDLO_PEND else F.POOL_FORPENDHI_PEND) (b.owner % 32) true
    else s
  s.raise 0x34

/-- The first two checks of R281 on a handle: its cause, if one fails. -/
def handleCheck (cid h : Nat) (s : State) : Option Nat :=
  let i := h % 512
  if (s.buf i).gen ≠ h / 512 then some 1
  else
    let c := chain i s
    if c.all (fun j => (decide ((s.buf j).st = .owned) || decide ((s.buf j).st = .reserved)) && (s.buf j).owner == cid) then none
    else if c.any (fun j => decide ((s.buf j).st = .transit)) then some 5
    else some 2

/-- The checks of a FREE or GIVE of handle `h` to `target` (R281). -/
def moveCheck (cid h : Nat) (target : Option Nat) (s : State) : Option Nat :=
  match handleCheck cid h s with
  | some c => some c
  | none =>
    if (match target with
      | some t => !(decide (1 ≤ t ∧ t ≤ 57) || t == 62)
      | none => false) then some 3
    else if (predOf (h % 512) s).isSome then some 4
    else none

/-- Every buffer of a list moves. -/
def moveAll (f : Buf → Buf) (l : List Nat) (s : State) : State := l.foldl (fun s i => s.setBuf i (f (s.buf i))) s

/-- A buffer goes back to FREE with a new generation (R278). -/
def freed (b : Buf) : Buf := { gen := (b.gen + 1) % 128 }

/-- POOL_ALLOC (R280). -/
def poolAlloc (cid : Nat) (s : State) : Word × State :=
  if 32 < freeCount s then
    match lowestFree s with
    | some i =>
      let before := freeCount s
      let s := s.setBuf i { s.buf i with st := .owned, owner := cid, next := none }
      (BitVec.ofNat 32 (handleOf i s + 0x80000000), poolLevels before s)
    | none => (0x10000#32, s)
  else (0x10000#32, s)

/-- POOL_FREE (R281). -/
def poolFree (cid h : Nat) (s : State) : State :=
  match moveCheck cid h none s with
  | some c => poolRefuse cid h c s
  | none => moveAll freed (chain (h % 512) s) s

/-- POOL_GIVE (R281). -/
def poolGive (cid h target : Nat) (s : State) : State :=
  match moveCheck cid h (some target) s with
  | some c => poolRefuse cid h c s
  | none => moveAll (fun b => { b with st := .owned, owner := target }) (chain (h % 512) s) s

/-- A GIVE of a handle into transit: to a mailbox, or to the chain engine (32). Answers whether the pool did it (R274, R281, R420). -/
def poolTransit (cid h place : Nat) (s : State) : Bool × State :=
  match moveCheck cid h none s with
  | some c => (false, poolRefuse cid h c s)
  | none => (true, moveAll (fun b => { b with st := .transit, owner := place }) (chain (h % 512) s) s)

/-- A chain in transit comes to a CID. -/
def poolDeliver (h cid : Nat) (s : State) : State :=
  moveAll (fun b => { b with st := .owned, owner := cid }) (chain (h % 512) s) s

/-- POOL_LINK (R281). -/
def poolLink (cid h n : Nat) (s : State) : State :=
  match handleCheck cid h s with
  | some c => poolRefuse cid h c s
  | none => match handleCheck cid n s with
    | some c => poolRefuse cid n c s
    | none =>
      let i := h % 512
      let j := n % 512
      if h = n then s.setBuf i { s.buf i with next := none }
      else if (s.buf i).next.isSome ∨ (predOf j s).isSome ∨ (chain j s).contains i
          ∨ 64 < predCount 64 i s + 1 + (chain j s).length then poolRefuse cid h 4 s
      else s.setBuf i { s.buf i with next := some j }

/-- POOL_RECLAIM of a CID (R283). -/
def poolReclaim (cid : Nat) (s : State) : State :=
  moveAll freed (((s.share.bufs.filter (fun e =>
    (decide (e.2.st = .owned) || decide (e.2.st = .reserved)) && e.2.owner == cid))).map (·.1)) s

/-- RESPONSE_RESERVATION (R288): the lowest free buffer is reserved in the name of `cid`. -/
def poolReserve (cid : Nat) (s : State) : Option Nat × State :=
  if 32 ≤ bufCount .reserved s then (none, s)
  else match lowestFree s with
    | none => (none, s)
    | some i =>
      let before := freeCount s
      (some i, poolLevels before (s.setBuf i { s.buf i with st := .reserved, owner := cid, next := none }))

/-- A reservation returns to FREE (R288). -/
def poolRelease (i : Nat) (s : State) : State :=
  if (s.buf i).st = .reserved then s.setBuf i (freed (s.buf i)) else s

/-- POOL_COUNT (R284). -/
def poolCount (s : State) : Word :=
  BitVec.ofNat 32 (freeCount s + 65536 * bufCount .transit s + 0x4000000 * bufCount .reserved s)

/-- POOL_INFO (R284). -/
def poolInfo (i : Nat) (s : State) : Word :=
  let b := s.buf i
  let st := match b.st with
    | .free => 0 | .owned => 1 | .transit => 2 | .reserved => 3
  let nx := match b.next with
    | some j => j * 0x400000 + 0x80000000
    | none => 0
  BitVec.ofNat 32 (b.gen + 256 * st + (if (predOf i s).isSome then 1024 else 0) + 65536 * b.owner + nx)

/-- May the CID read or write the bytes of buffer i (R279)? -/
def bufOwner (i cid : Nat) (s : State) : Bool := decide ((s.buf i).st = .owned) && (s.buf i).owner == cid

/-- A doorbell word (R272). -/
def State.bell (s : State) (m : Nat) : Word := smapGet m 0#32 s.share.bell
def State.setBell (s : State) (m : Nat) (w : Word) : State :=
  { s with share := { s.share with bell := smapSet m w 0#32 s.share.bell } }
def bellFull (m : Nat) (s : State) : Bool := (s.bell m).getLsbD 31
/-- MBX_FULL (R277). -/
def mbxFull (s : State) : Word := BitVec.ofNat 32 ((List.range 32).foldl (fun v m => if bellFull m s then v + 2 ^ m else v) 0)

/-- Is the CID a writer of mailbox m; is it the reader (R271)? -/
def mbxWriter (m cid : Nat) (s : State) : Bool := natBit (s.map64 (R.MBX_WMASKLO m) (R.MBX_WMASKHI m)) cid
def mbxReader (m cid : Nat) (s : State) : Bool := s.get (F.MBX_CFG_READER m) == cid

/-- A message becomes unread (R274). -/
def bellSet (m data scid sorg : Nat) (handle : Bool) (s : State) : State :=
  (s.setBell m (BitVec.ofNat 32 (data + 65536 * scid + 0x400000 * sorg + (if handle then 0x20000000 else 0) + 0x80000000))).raise
    (0x40 + m)

/-- A POST refused for FULL (R274): OVR is set. -/
def bellOvr (m : Nat) (s : State) : State := s.setBell m (s.bell m ||| 0x40000000#32)

/-- MAILBOX_POST by a CID, of unit `org` where it comes through the chain (R274). -/
def mbxPost (m cid org data : Nat) (handle : Bool) (s : State) : Ans × State :=
  if bellFull m s then (.refused .busy, bellOvr m s)
  else if handle then
    if 58 ≤ cid ∧ cid ≤ 60 then (.refused .deny, s)
    else match poolTransit cid data m s with
      | (true, s) => (.ok 0#64, bellSet m data cid org true s)
      | (false, s) => (.refused .deny, s)
  else (.ok 0#64, bellSet m data cid org false s)

/-- MAILBOX_ACK by the reader (R276). -/
def mbxAck (m : Nat) (s : State) : State :=
  if bellFull m s then
    let w := s.bell m
    let s := if w.getLsbD 29 then poolDeliver (w.toNat % 65536) (s.get (F.MBX_CFG_READER m)) s else s
    let s := s.setBell m (w &&& 0x1FFFFFFF#32)
    if s.on (F.MBX_CFG_ACKEV m) then (s.setBit F.MBX_ACKPEND_PEND m true).raise 0x33 else s
  else s

/-- A write to a doorbell that the fixed rule of region 11 admits (R272, R273). -/
def bellWrite (m cid org : Nat) (w : Word) (s : State) : Ans × State :=
  match w.toNat / 0x40000000 with
  | 2 => if mbxWriter m cid s then mbxPost m cid org (w.toNat % 65536) (w.getLsbD 29) s else (.ok 0#64, s)
  | 1 => if mbxReader m cid s then (.ok 0#64, mbxAck m s) else (.ok 0#64, s)
  | _ => (.ok 0#64, s)

/-- A ledger is looked at, at a quiescent point (R286): out of balance it is noted with the TB10 count, once; in balance it is forgotten. -/
def ledgerNote (which index : Nat) (off : Bool) (s : State) : State :=
  let me := fun (e : Nat × Nat × Nat) => e.1 == which && e.2.1 == index
  let l := s.share.ledgers
  let l' := if !off then l.filter (fun e => !me e) else if (l.find? me).isSome then l else l ++ [(which, index, s.tb.cnt.get 10)]
  { s with share := { s.share with ledgers := l' } }

end Sys2Proof.Machine
end

