-- ==== Sys2Proof/Machine/SemOps.lean ====
section
/-!
DEFINITION. Semaphores, their grant queue, reclaim and priority inheritance (R255 to R270, R418, R419).
-/
namespace Sys2Proof.Machine

def State.sem (s : State) (k : Nat) : Sem := smapGet k {} s.share.sems
def State.setSem (s : State) (k : Nat) (x : Sem) : State :=
  { s with share := { s.share with sems := smapSet k x {} s.share.sems } }

/-- The base priority of a CID (R82). -/
def basePri (c : Nat) (s : State) : Nat := fieldOf (4 * (c % 8)) 4 (s.word (R.SYS_CIDPRI (c / 8)))
/-- EPRI(c) (R267). -/
def epri (c : Nat) (s : State) : Nat := max (basePri c s) (smapGet c 0 s.share.inh)
/-- The effective priority of a waiter, or of a holder apart from what it inherits. -/
def partyPri (s : State) (p : Party) : Nat := if p.unit = 0 then epri p.cid s else p.pri
/-- Are these the same holder or waiter (R256)? -/
def sameParty (p q : Party) : Bool := p.cid == q.cid && p.unit == q.unit

/-- INIT of a semaphore (R255): 1 while it is binary. -/
def semInit (k : Nat) (s : State) : Nat := if s.on (F.SEM_CFG_MODE k) then s.get (F.SEM_CFG_INIT k) else 1
/-- COUNT: INIT less the holders, which the semaphore ledger keeps true (R285). -/
def semCount (k : Nat) (s : State) : Nat := semInit k s - (s.sem k).holders.length
/-- The highest priority among the waiters, 0 with none. -/
def waitPri (k : Nat) (s : State) : Nat := (s.sem k).waiters.foldl (fun m w => max m (partyPri s w)) 0

/-- The first waiter: highest effective priority, ties to the lowest CID (R262). -/
def firstWaiter (s : State) : List Party → Option Party
  | [] => none
  | w :: ws => match firstWaiter s ws with
    | none => some w
    | some b =>
      if partyPri s b < partyPri s w ∨ (partyPri s b = partyPri s w ∧ w.cid ≤ b.cid) then some w else some b

/-- The HOLDER that results show, with its effective priority (R260, R269). -/
def semHolder (k : Nat) (s : State) : Nat × Nat :=
  let x := s.sem k
  if s.on (F.SEM_CFG_MODE k) then (x.recent, if x.recent = 0 then 0 else epri x.recent s)
  else match x.holders with
    | [] => (0, 0)
    | h :: _ => (h.cid, if h.unit = 0 then epri h.cid s else max h.pri (waitPri k s))

/-- The result word (R260). -/
def semWord (k res : Nat) (s : State) : Word :=
  let h := semHolder k s
  BitVec.ofNat 32 (res + 256 * semCount k s + 65536 * h.1 + 0x1000000 * h.2)

/-- The semaphores held by a party. -/
def semsHeld (p : Party) (s : State) : List Nat :=
  (s.share.sems.filter (fun e => e.2.holders.any (sameParty p))).map (·.1)
/-- The semaphore a party waits on. -/
def semWaited (p : Party) (s : State) : Option Nat :=
  (s.share.sems.find? (fun e => e.2.waiters.any (sameParty p))).map (·.1)
/-- The wait of a local CID on another unit's semaphore. -/
def remoteWait (c : Nat) (s : State) : Option (Nat × Nat) :=
  (s.share.rwaits.find? (fun e => e.1 == c)).map (·.2)
/-- Remote waiter slots in use (R268). -/
def rslots (s : State) : Nat :=
  s.share.sems.foldl (fun n e => n + (e.2.waiters.filter (fun w => w.unit != 0)).length) 0

/-- An entry of SEM_ERRLOG (R270), with event 0x32. -/
def semLog (k cid unit cause : Nat) (s : State) : State :=
  let e := s.get F.SEM_ERRHEAD_NEXT
  let s := s.setWord (R.SEM_ERRLOG e) (BitVec.ofNat 32 (k + 256 * cid + 16384 * unit + 0x1000000 * cause + 0x80000000))
  (s.set F.SEM_ERRHEAD_NEXT (e + 1)).raise 0x32

/-- GRANT_ENTRY (R265): a result enters the grant queue with event 0x30, or is dropped with QFULL; the CID is one of this unit. -/
def grantEntry (k cid unit res : Nat) (s : State) : State :=
  if 32 ≤ s.share.grants.length then semLog k cid 0 12 s
  else
    let s := { s with share := { s.share with grants := s.share.grants ++ [({ sem := k, cid := cid, unit := unit, res := res } : Grant)] } }
    s.raise 0x30

/-- Bit `c` of SEM_PIPEND sets; event 0x31 if it was 0 (R267). -/
def setPipend (c : Nat) (s : State) : State :=
  let f := if c < 32 then F.SEM_PIPENDLO_PEND else F.SEM_PIPENDHI_PEND
  if s.bit f (c % 32) then s else (s.setBit f (c % 32) true).raise 0x31

/-- An inheritance notice leaves (R268, R419). -/
def sendPinote (unit kind k cid pri nhop : Nat) (s : State) : State :=
  chainSend { cls := 1, dst := unit, typ := 9, src := 0,
              data := [BitVec.ofNat 8 kind, BitVec.ofNat 8 k, BitVec.ofNat 8 cid, BitVec.ofNat 8 pri,
                       BitVec.ofNat 8 nhop, 0#8, 0#8, 0#8] } s

/-- What CID c inherits: from the waiters of every semaphore it holds, and from other units (R267). -/
def inherited (c : Nat) (s : State) : Nat :=
  let h := (semsHeld ⟨c, 0, 0⟩ s).foldl (fun m k => max m (waitPri k s)) 0
  s.share.contribs.foldl (fun m x => if x.cid = c then max m x.pri else m) h

/-- EPRI(c) is taken anew. A change sets PIPEND and travels on: a hop for the semaphore c waits on, or a notice to its owner
(R267, R419). `nhop` is the hop count of notices that follow. -/
def refreshEpri (nhop c : Nat) (s : State) : State :=
  let old := epri c s
  let s := { s with share := { s.share with inh := smapSet c (inherited c s) 0 s.share.inh } }
  if epri c s = old then s
  else
    let s := setPipend c s
    let s := match semWaited ⟨c, 0, 0⟩ s with
      | some t => { s with share := { s.share with hops := s.share.hops ++ [(t, nhop)] } }
      | none => s
    match remoteWait c s with
    | some (u, t) => sendPinote u 1 (t - 96) c (epri c s) nhop s
    | none => s

/-- One hop: the holders of semaphore k follow its waiters (R267); another unit's holder is told (R268). -/
def semHop (nhop k : Nat) (s : State) : State :=
  (s.sem k).holders.foldl (fun s h =>
    if h.unit = 0 then refreshEpri nhop h.cid s
    else
      let v := waitPri k s
      let x := s.sem k
      if v = x.sent then s else sendPinote h.unit 0 (k - 96) h.cid v nhop (s.setSem k { x with sent := v })) s

/-- INHERITANCE_HOP (R267): the next hop still to be made at group `g`. -/
def nextHop (g : Nat) (s : State) : State :=
  match s.share.hops.find? (fun h => h.1 / 16 == g) with
  | some h => semHop h.2 h.1 { s with share := { s.share with hops := s.share.hops.erase h } }
  | none => s

/-- An update completes its path before the next operation is served (R267): the hops still to be made, in order. -/
def drainHops : Nat → State → State
  | 0, s => s
  | n + 1, s => match s.share.hops with
    | [] => s
    | h :: hs => drainHops n (semHop h.2 h.1 { s with share := { s.share with hops := hs } })

/-- Every hop still to be made (R267); a hop may ask for others, and the bound is never reached by paths of at most 64 CIDs. -/
def hopsAll (s : State) : State := drainHops (256 + s.share.hops.length) s

/-- When a try that leaves now times out: RSPTO, in 10 µs units (R412, R432). -/
def rspDue (s : State) : Nat := s.now + 10000 * s.get F.CHN_TRCFG0_RSPTO

/-- An outcome of a remote wait leaves as SEMEVT (R418). -/
def sendSemEvent (dst k cid res : Nat) (s : State) : State :=
  let tag := smapGet dst 0 s.chn.evTag
  let w := semWord k res s
  let s := { s with chn := { s.chn with
    evTag := smapSet dst ((tag + 1) % 256) 0 s.chn.evTag
    events := s.chn.events ++ [⟨dst, tag, w, k - 96, cid, s.get F.CHN_TRCFG0_RETRIES, rspDue s⟩] } }
  chainSend { cls := 1, dst := dst, typ := 7, src := 0, tag := tag,
              data := leBytes 4 w.toNat ++ [BitVec.ofNat 8 (k - 96), BitVec.ofNat 8 cid, 0#8, 0#8] } s

/-- A party comes to hold a unit. -/
def semHold (k : Nat) (p : Party) (s : State) : State :=
  let x := s.sem k
  s.setSem k { x with holders := p :: x.holders, recent := p.cid }

/-- A unit is given up (R263): released, or passed to the first waiter; inheritance follows in the same step. -/
def semRelease (k : Nat) (p : Party) (s : State) : State :=
  let x := s.sem k
  let s := s.setSem k { x with holders := x.holders.filter (fun h => !sameParty p h) }
  let s := match firstWaiter s x.waiters with
    | none => s
    | some w =>
      let y := s.sem k
      let s := semHold k w (s.setSem k { y with waiters := y.waiters.filter (fun v => !sameParty w v) })
      if w.unit = 0 then grantEntry k w.cid 0 1 s else sendSemEvent w.unit k w.cid 1 s
  let s := if p.unit = 0 then refreshEpri 0 p.cid s
    else if (s.sem k).sent = 0 then s
    else sendPinote p.unit 0 (k - 96) p.cid 0 0 (s.setSem k { s.sem k with sent := 0 })
  semHop 0 k s

/-- Does a path of holders and the semaphores they wait on lead from the CIDs `cs` to `c` (R262)? -/
def leadsTo (c : Nat) : Nat → List Nat → State → Bool
  | 0, _, _ => false
  | n + 1, cs, s =>
    cs.contains c ||
    (let next := cs.flatMap (fun x => match semWaited ⟨x, 0, 0⟩ s with
        | some t => ((s.sem t).holders.filter (fun h => h.unit == 0)).map (·.cid)
        | none => [])
     !next.isEmpty && leadsTo c n next.eraseDups s)

/-- The operations on a semaphore. -/
inductive SemOp where
  | try_ | take | give | cancel
deriving DecidableEq, Repr

/-- An operation in the group mask, on semaphore k for party p (R261 to R264): the result code. -/
def semDo (op : SemOp) (k : Nat) (p : Party) (s : State) : Nat × State :=
  let x := s.sem k
  match op with
  | .give => if x.holders.any (sameParty p) then (10, semRelease k p s) else (5, s)
  | .cancel =>
    if x.waiters.any (sameParty p) then
      let s := s.setSem k { x with waiters := x.waiters.filter (fun w => !sameParty p w) }
      let s := if p.unit = 0 then grantEntry k p.cid 0 9 s else s
      (9, semHop 0 k s)
    else (14, s)
  | op =>
    if x.holders.any (sameParty p) then (4, s)
    else if 0 < semCount k s then (1, semHold k p s)
    else if op = .try_ then (3, s)
    else if (semWaited p s).isSome ∨ (p.unit = 0 ∧ (remoteWait p.cid s).isSome) then (6, s)
    else if p.unit = 0 ∧ leadsTo p.cid 64 ((x.holders.filter (fun h => h.unit == 0)).map (·.cid)) s then (8, s)
    else if p.unit ≠ 0 ∧ 32 ≤ rslots s then (7, s)
    else (2, semHop 0 k (s.setSem k { x with waiters := x.waiters ++ [p] }))

/-- The group mask of semaphore k (R257). -/
def semMask (k : Nat) (s : State) : Nat := s.map64 (R.SEM_GMASKLO (k / 16)) (R.SEM_GMASKHI (k / 16))

/-- An operation reaches semaphore k from accessing CID `acid` for party p: the result (none: refused by the group mask) and the
result word (R257 to R264). -/
def semOp (op : SemOp) (write : Bool) (k acid : Nat) (p : Party) (s : State) : Option Nat × Word × State :=
  let s := hopsAll s
  if !natBit (semMask k s) acid then (none, 0#32, if write then semLog k p.cid p.unit 0 s else s)
  else if op = .take ∧ ¬((1 ≤ acid ∧ acid ≤ 16) ∨ acid = 58 ∨ acid = 59) then
    (some 0, semWord k 0 s, if write then semLog k p.cid p.unit 0 s else s)
  else
    let r := semDo op k p s
    let s := if 4 ≤ r.1 ∧ r.1 ≤ 8 then semLog k p.cid p.unit r.1 r.2 else r.2
    (some r.1, semWord k r.1 s, s)

/-- The result word and the state of an operation. -/
def semAns (r : Option Nat × Word × State) : Word × State := (r.2.1, r.2.2)

/-- An operation through a register port or a Campion word (R259). -/
def semPort (op : SemOp) (write : Bool) (k cid : Nat) (s : State) : Word × State := semAns (semOp op write k cid ⟨cid, 0, 0⟩ s)

/-- A write to a window word by a CID of this unit (R259, R265). -/
def semWindowWrite (k cid : Nat) (w : Word) (s : State) : State :=
  let go := fun op => semOp op true k cid ⟨cid, 0, 0⟩ s
  match w.toNat % 4 with
  | 1 => match go .give with
    | (some r, _, s) => if r = 10 then s else grantEntry k cid 0 r s
    | (none, _, s) => grantEntry k cid 0 0 s
  | 2 => match go .take with
    | (r, _, s) => grantEntry k cid 0 (r.getD 0) s
  | 3 => match go .cancel with
    | (_, _, s) => s
  | _ => s

/-- The status word (R269). -/
def semStatus (k : Nat) (s : State) : Word :=
  let x := s.sem k
  let h := semHolder k s
  let org := match x.holders with
    | [] => 0
    | p :: _ => p.unit
  BitVec.ofNat 32 (h.1 + 64 * org + 8192 * min 1 x.holders.length + 65536 * h.2 + 0x100000 * min 15 x.waiters.length
    + 0x1000000 * waitPri k s)

/-- SEM_STAT (R270). -/
def semStat (k : Nat) (s : State) : Word :=
  let x := s.sem k
  BitVec.ofNat 32 (semCount k s + 256 * s.get (F.SEM_CFG_INIT k) + 65536 * (semHolder k s).1
    + 0x400000 * min 1 x.holders.length + 0x800000 * s.get (F.SEM_CFG_MODE k) + 0x1000000 * min 15 x.waiters.length
    + 0x10000000 * waitPri k s)

/-- The holder set of a local semaphore (R256, R270). -/
def holdSet (k : Nat) (s : State) : Nat :=
  (s.sem k).holders.foldl (fun m h => if h.unit = 0 then m ||| 2 ^ h.cid else m) 0

/-- SEM_EPRI word i (R270). -/
def epriWord (i : Nat) (s : State) : Word :=
  BitVec.ofNat 32 ((List.range 8).foldl (fun m j => m + epri (8 * i + j) s * 16 ^ j) 0)

/-- A read of SEM_GRANT (R265, R270). -/
def grantRead (s : State) : Word × State :=
  match s.share.grants with
  | [] => (0#32, s)
  | g :: gs =>
    (BitVec.ofNat 32 (g.sem + 256 * g.cid + 16384 * g.unit + 0x1000000 * g.res + 0x40000000 * min 1 gs.length + 0x80000000),
     { s with share := { s.share with grants := gs } })

/-- A result of a remote operation for a local CID: a wait begins or ends, and a holding begins (GOT, AGAIN) or ends (GIVEN, NOTOWNER). -/
def remoteNote (unit k cid res : Nat) (s : State) : State :=
  let me := (cid, unit, k)
  let waits := s.share.rwaits.filter (fun e => e != me)
  let holds := s.share.rholds.filter (fun e => e != me)
  { s with share := { s.share with
      rwaits := if res = 2 then me :: waits else if res = 1 ∨ res = 9 then waits else s.share.rwaits
      rholds := if res = 1 ∨ res = 4 then me :: holds else if res = 5 ∨ res = 10 then holds else s.share.rholds } }

/-- A result of a remote operation for a local CID that enters the grant queue (R265, R418). -/
def remoteResult (unit k cid res : Nat) (s : State) : State := grantEntry k cid unit res (remoteNote unit k cid res s)

/-- A reclaim of a lost unit's party is logged as ORPHAN (R268). -/
def reclaimLog (orphan : Bool) (k : Nat) (p : Party) (s : State) : State := if orphan then semLog k p.cid p.unit 11 s else s

/-- A cancelled wait and every GIVE of a party, as reclaim performs them (R264). With `orphan` each is logged ORPHAN (R268). -/
def semReclaimParty (orphan : Bool) (p : Party) (s : State) : State :=
  let s := match semWaited p s with
    | some k =>
      let x := s.sem k
      let s := s.setSem k { x with waiters := x.waiters.filter (fun w => !sameParty p w) }
      let s := if p.unit = 0 then grantEntry k p.cid 0 9 s else sendSemEvent p.unit k p.cid 9 s
      hopsAll (reclaimLog orphan k p (semHop 0 k s))
    | none => s
  (semsHeld p s).foldl (fun s k => hopsAll (reclaimLog orphan k p (semRelease k p s))) s

/-- SEM_RECLAIM of a CID (R264). A wait on another unit's semaphore is cancelled there by the chain engine's SEMOP. -/
def semReclaim (cid : Nat) (s : State) : State := semReclaimParty false ⟨cid, 0, 0⟩ (hopsAll s)

/-- A unit is lost or announces REJOIN (R268): its holdings and waits are reclaimed, waits on its semaphores end, its contributions
are withdrawn. -/
def semUnitGone (unit : Nat) (s : State) : State :=
  let s := hopsAll s
  let ps := (s.share.sems.flatMap (fun e => (e.2.waiters ++ e.2.holders).filter (fun p => p.unit == unit))).map
    (fun p => ({ p with pri := 0 } : Party))
  let s := ps.eraseDups.foldl (fun s p => semReclaimParty true p s) s
  let gone := s.share.rwaits.filter (fun e => e.2.1 == unit)
  let s := gone.foldl (fun s e => semLog e.2.2 e.1 0 11 (remoteResult unit e.2.2 e.1 9 s)) s
  let s := { s with share := { s.share with rholds := s.share.rholds.filter (fun e => e.2.1 != unit) } }
  let cs := s.share.contribs.filter (fun c => c.unit == unit)
  let s := { s with share := { s.share with contribs := s.share.contribs.filter (fun c => c.unit != unit) } }
  hopsAll (cs.foldl (fun s c => refreshEpri 0 c.cid s) s)

/-- An inheritance notice arrives (R268, R419); a CID whose contribution it replaces is taken anew as well (R267). -/
def pinote (unit kind k cid pri nhop : Nat) (s : State) : State :=
  let sm := 96 + k
  if 64 ≤ nhop then semLog sm cid unit 13 s
  else if kind = 0 then
    let same := fun (c : Contrib) => c.unit == unit && c.sem == sm
    let rest := s.share.contribs.filter (fun c => !same c)
    let cids := (cid :: (s.share.contribs.filter same).map (·.cid)).eraseDups
    let put := fun (l : List Contrib) =>
      cids.foldl (fun s c => refreshEpri (nhop + 1) c s) { s with share := { s.share with contribs := l } }
    if pri ≤ basePri cid s then put rest
    else if rest.length < 16 then put (⟨unit, sm, cid, pri⟩ :: rest)
    else semLog sm cid unit 12 s
  else
    let x := s.sem sm
    let me : Party := ⟨cid, unit, pri⟩
    if x.waiters.any (sameParty me) then
      semHop (nhop + 1) sm (s.setSem sm { x with waiters := x.waiters.map (fun w => if sameParty me w then me else w) })
    else s

/-- The owner gives a semaphore on behalf of a waiter that no SEMEVT reached (R418). -/
def semOrphanGive (k : Nat) (p : Party) (s : State) : State :=
  let s := hopsAll s
  if (s.sem k).holders.any (sameParty p) then semLog k p.cid p.unit 11 (semRelease k p s) else s

end Sys2Proof.Machine
end

