-- ==== Sys2Proof/Machine/Access.lean ====
section
/-!
DEFINITION. The access checks of the fabric, the bus-error log, and the shared window with its top page (R83 to R94, R237, R259,
R269, R273, R403).
-/
namespace Sys2Proof.Machine

/-- The region of a byte address (R83). -/
def regionOf (a : Nat) : Option Nat :=
  if a < 0x10000 then some 0
  else if 0x10000000 ≤ a ∧ a < 0x10078000 then some 1
  else if 0x10078000 ≤ a ∧ a < 0x10080000 then some 2
  else if 0x20000000 ≤ a ∧ a < 0x20040000 then some 3
  else if 0x30000000 ≤ a ∧ a < 0x30010000 then some 4
  else if 0x30010000 ≤ a ∧ a < 0x30018000 then some 5
  else if 0x30018000 ≤ a ∧ a < 0x30020000 then some 6
  else if 0x31000000 ≤ a ∧ a < 0x31010000 then some 7
  else if 0x31010000 ≤ a ∧ a < 0x31018000 then some 8
  else if 0x31018000 ≤ a ∧ a < 0x31020000 then some 9
  else if 0x40000000 ≤ a ∧ a < 0x40007C00 then some 10
  else if 0x40007C00 ≤ a ∧ a < 0x40008000 then some 11
  else if 0x41000000 ≤ a ∧ a < 0x41004000 then some 12
  else if 0x42000000 ≤ a ∧ a < 0x42002000 then some 13
  else if 0x42002000 ≤ a ∧ a < 0x42003000 then some 14
  else if 0x43000000 ≤ a ∧ a < 0x43008000 then some 15
  else if 0x50000000 ≤ a ∧ a < 0x50010000 then some (16 + (a - 0x50000000) / 0x1000)
  else if 0x60000000 ≤ a ∧ a < 0x60200000 then some 32
  else if 0x60200000 ≤ a ∧ a < 0x60208000 then some 33
  else if 0x70000000 ≤ a ∧ a < 0x70010000 then some 34
  else none

/-- Is the CID enabled (R82)? -/
def cidEnabled (c : Nat) (s : State) : Bool :=
  c == 0 || c == 1 || c == 62 || c == 63 || s.bit (F.SYS_CIDEN_EN (c / 32)) (c % 32)

/-- The bit of a CID in the read or write mask of region r; the bits that R91 forces are held so (R91, R94). -/
def maskBit (r c : Nat) (write : Bool) (s : State) : Bool :=
  let w := match write, decide (c < 32) with
    | false, true => s.get (F.SYS_ACCRLO_MASK r)
    | false, false => s.get (F.SYS_ACCRHI_MASK r)
    | true, true => s.get (F.SYS_ACCWLO_MASK r)
    | true, false => s.get (F.SYS_ACCWHI_MASK r)
  natBit w (c % 32)

/-- The bits of a mask register that are free (R91): `kind` as in accRst. -/
def freeMask (kind r : Nat) : Nat :=
  if r = 12 ∨ r = 34 ∨ (r = 0 ∧ 2 ≤ kind) ∨ (r = 33 ∧ kind < 2) then 0
  else if kind % 2 = 0 then 0xFFFFFFFF - 2 - (if r = 3 then 0x2000000 else 0)
  else if r = 10 ∨ r = 11 then 0x7FFFFFFF
  else 0x43FFFFFF

/-- Does the region take accesses of this size and alignment (R86, R259, R269, R273)? -/
def sizeOk (r a size : Nat) : Bool :=
  a % size == 0 &&
  (if r = 14 ∨ (16 ≤ r ∧ r ≤ 31) ∨ r = 34 then size == 4
   else if r = 11 ∧ a % 0x8000 < 0x7D00 then size == 4
   else if r = 11 ∧ a % 0x8000 < 0x7F00 ∧ a % 16 < 4 then size == 4
   else size == 1 || size == 2 || size == 4 || size == 8)

/-- The fixed rule of a region (R83, step 4 of R90): the cause it refuses with. CID 0 is bound by no DENY before boot lock
(R91). -/
def fixedRule (r : Nat) (who : Who) (write : Bool) (a : Nat) (s : State) : Option Cause :=
  let betony := who.cid == 0 && !s.bootLock
  if r = 0 ∧ write then some .ro
  else if r = 33 ∧ !write then some .ro
  else if betony then none
  else if r = 11 then
    let off := a % 0x8000
    if off < 0x7C80 then none
    else if off < 0x7D00 ∨ 0x7F00 ≤ off then (if write then some .ro else none)
    else
      let m := (off - 0x7D00) / 16
      if mbxWriter m who.cid s then none
      else if mbxReader m who.cid s && (!write || off % 16 < 4) then none
      else some .deny
  else if r = 12 then (if who.cid = 0 ∨ (who.cid = 1 ∧ who.ctm ∧ !who.fetch) then none else some .deny)
  else if r = 15 then (if bufOwner (a % 0x8000 / 64) who.cid s then none else some .deny)
  else if r = 34 then (if who.cid = 62 then none else some .deny)
  else none

/-- FABRIC_ACCESS_CHECK, steps 1 to 6 of R90: the region, or the cause of the first check that fails. -/
def accessCheck (who : Who) (write : Bool) (a size : Nat) (s : State) : Except Cause Nat :=
  match regionOf a with
  | none => .error .unmapped
  | some r =>
    if !cidEnabled who.cid s then .error .disabled
    else if !sizeOk r a size then .error .align
    else match fixedRule r who write a s with
      | some c => .error c
      | none =>
        if r ≠ 12 ∧ r ≠ 34 ∧ !(who.cid == 0 && !s.bootLock) ∧ !maskBit r who.cid write s then .error .deny
        else if !who.pmp then .error .deny
        else .ok r

/-- A refusal is counted and logged, with event 0x00 (R93). -/
def busErr (who : Who) (write : Bool) (a : Nat) (c : Cause) (s : State) : State :=
  let e := s.get F.SYS_BERRHEAD_NEXT
  let s := s.count F.SYS_BERRCNT_COUNT
  let s := s.setWord (R.SYS_BERRADDR e) (BitVec.ofNat 32 a)
  let s := s.setWord (R.SYS_BERRINFO e) (BitVec.ofNat 32 (who.cid + 64 * who.origin + (if write then 0x2000 else 0)
    + (if who.fetch then 0x4000 else 0) + 0x10000 * c.code + 0x80000000))
  (s.set F.SYS_BERRHEAD_NEXT (e + 1)).raise 0

/-- The address of window offset `off`. -/
abbrev winAddr (off : Nat) : Nat := 0x40000000 + off

/-- A doorbell operation moves the arbiter's rotating pointer past the CID served (R14, R520). -/
def bellServed (cid : Nat) (s : State) : State := { s with svc := { s.svc with bellPtr := (cid + 1) % 64 } }

/-- Whom a semaphore operation through the window is for: the accessing CID, or for a chain request the originating CID of its unit,
with that CID's effective priority (R268). -/
def whoParty (who : Who) : Party := if who.origin = 0 then ⟨who.cid, 0, 0⟩ else ⟨who.party.1, who.origin, who.party.2⟩

/-- A read of the shared window that the checks have passed (R237, R259, R269, R272). -/
def windowRead (who : Who) (off size : Nat) (s : State) : Ans × State :=
  if 0x7C00 ≤ off ∧ off < 0x7C80 then
    match semOp .try_ false (96 + (off - 0x7C00) / 4) who.cid (whoParty who) s with
    | (_, w, s) => (.ok (w.setWidth 64), s)
  else if 0x7C80 ≤ off ∧ off < 0x7D00 then (.ok ((semStatus (96 + (off - 0x7C80) / 4) s).setWidth 64), s)
  else if 0x7D00 ≤ off ∧ off < 0x7F00 ∧ off % 16 < 4 then (.ok ((s.bell ((off - 0x7D00) / 16)).setWidth 64), bellServed who.cid s)
  else ramRead who 0 (winAddr off) size s

/-- A write of the shared window that the checks have passed (R259, R272, R275). -/
def windowWrite (who : Who) (off size v : Nat) (s : State) : Ans × State :=
  if 0x7C00 ≤ off ∧ off < 0x7C80 then
    let k := 96 + (off - 0x7C00) / 4
    if who.origin = 0 then (.ok 0#64, semWindowWrite k who.cid (BitVec.ofNat 32 v) s)
    else
      let go := fun op => match semOp op true k who.cid (whoParty who) s with
        | (_, _, s) => s
      (.ok 0#64, match v % 4 with
        | 1 => go .give
        | 2 => go .take
        | 3 => go .cancel
        | _ => s)
  else if 0x7D00 ≤ off ∧ off < 0x7F00 then
    let m := (off - 0x7D00) / 16
    if off % 16 < 4 then bellWrite m who.cid who.origin (BitVec.ofNat 32 v) (bellServed who.cid s)
    else if bellFull m s then (.refused .busy, s)
    else ramWrite who (winAddr off) size v s
  else ramWrite who (winAddr off) size v s

/-- One access to the shared window through a port, with its checks but for the log (R90, R236). -/
def windowAccess1 (who : Who) (write : Bool) (off size v : Nat) (s : State) : Ans × State :=
  match accessCheck who write (winAddr off) size s with
  | .error c => (.refused c, s)
  | .ok _ => if write then windowWrite who off size v s else windowRead who off size s

/-- The same, a refusal logged; `base` is the address by which the accessor names offset 0. -/
def windowLogged (who : Who) (write : Bool) (base off size v : Nat) (s : State) : Ans × State :=
  match windowAccess1 who write off size v s with
  | (.refused c, s) => (.refused c, busErr who write (base + off) c s)
  | r => r

/-- An access to the shared window. An 8-byte access is two word services in ascending order, each checked (R86, R413); the words that
the sharing hardware answers take no such access (R259, R269, R273). -/
def windowAccess (who : Who) (write : Bool) (base off size v : Nat) (s : State) : Ans × State :=
  if size = 8 then
    match accessCheck who write (winAddr off) 8 s with
    | .error c => (.refused c, busErr who write (base + off) c s)
    | .ok _ => match windowLogged who write base off 4 (v % 2 ^ 32) s with
      | (.refused c, s) => (.refused c, s)
      | (.ok lo, s) => match windowLogged who write base (off + 4) 4 (v / 2 ^ 32) s with
        | (.refused c, s) => (.refused c, s)
        | (.ok hi, s) => (.ok (lo + hi * 0x100000000#64), s)
  else windowLogged who write base off size v s

end Sys2Proof.Machine
end

