-- ==== Sys2Proof/Machine/Policy.lean ====
section
/-!
DEFINITION. The policy sequencer (R439 to R443) and the slack governor (R435 to R438).
-/
namespace Sys2Proof.Machine

/-- Byte `i` of the POLICY image (R453). -/
def polByte (i : Nat) (s : State) : Nat := fieldOf (8 * (i % 4)) 8 (s.word (R.SYS_POLIMG (i / 4)))

/-- The 16-bit field of the POLICY image at byte `i`. -/
def polHalf (i : Nat) (s : State) : Nat := polByte i s + 256 * polByte (i + 1) s

/-- A signed 16-bit field of the POLICY image. -/
def polInt (i : Nat) (s : State) : Int := (BitVec.ofNat 16 (polHalf i s)).toInt

/-- The action of policy trigger `b` (R440): 0 NONE, 1 DERATE, 2 RAMP, 3 STOP. -/
def polAction (b : Nat) (s : State) : Nat :=
  match b with
  | 0 => polByte 0x10 s % 4
  | 1 => polByte 0x11 s % 4
  | 2 => 1
  | 3 => polByte 0x15 s % 4
  | 4 => 3
  | 5 => polByte 0x14 s % 4
  | 6 => polByte 0x16 s % 4
  | 7 => polByte 0x17 s % 4
  | _ => polByte 0x18 s % 4

/-- Is the carrier group in ACTSCOPE (R442)? -/
def inScope (g : Nat) (s : State) : Bool := natBit (polByte 0x19 s) g

/-- ACTION, DERATE and the ramp backstop are taken anew from the triggers and latches (R441, R442). -/
def polUpdate (s : State) : State :=
  let live := fun b => s.bit F.SYS_POLSTAT_TRIG b
  let act0 := (List.range 9).foldl (fun m b =>
    if live b || s.bit F.SYS_POLLATCH_LATCH b then max m (polAction b s) else m) 0
  let esc := s.pol.escalated && decide (2 ≤ act0)
  let act := if esc then 3 else act0
  let der := (List.range 9).foldl (fun m b =>
    if live b && polAction b s == 1 then
      min m (if b = 2 then s.get F.SYS_POLFACT_THERM else s.get F.SYS_POLFACT_REF)
    else m) 0x7FFF
  let act1 := s.get F.SYS_POLSTAT_ACTION
  let der1 := s.get F.SYS_POLSTAT_DERATE
  let s := { s with pol := { s.pol with escalated := esc } }
  let s := (s.set F.SYS_POLSTAT_ACTION act).set F.SYS_POLSTAT_DERATE der
  let s := if act ≠ act1 ∨ der ≠ der1 then s.raise 0x05 else s
  let s :=
    if act = 2 ∧ act1 ≠ 2 then
      { s with pol := { s.pol with rampOn := true, rampSub := 0 } }.set F.SYS_POLRAMP_REMAIN (polHalf 0x1A s)
    else if act ≠ 2 then { s with pol := { s.pol with rampOn := false } }.set F.SYS_POLRAMP_REMAIN 0
    else s
  if act = 3 ∧ act1 ≠ 3 then legsFault (fun l => inScope (legGroup l s) s) 6 s else s

/-- Policy trigger `b` becomes active or is released, and latches where its action is RAMP or STOP (R440, R441). -/
def polMark (b : Nat) (on : Bool) (s : State) : State :=
  let was := s.bit F.SYS_POLSTAT_TRIG b
  let s := s.setBit F.SYS_POLSTAT_TRIG b on
  if on && !was && decide (2 ≤ polAction b s) then s.setBit F.SYS_POLLATCH_LATCH b true else s

/-- One trigger changes, and the actions with it. -/
def polSet (b : Nat) (on : Bool) (s : State) : State := polUpdate (polMark b on s)

/-- SYS_POLCTL.CLR by CID 1 (R441): latched triggers that are no longer active clear. -/
def polClear (s : State) : State :=
  polUpdate (s.set F.SYS_POLLATCH_LATCH
    (s.get F.SYS_POLLATCH_LATCH &&& s.get F.SYS_POLSTAT_TRIG))

/-- The ramp backstop has reached 0 (R442): with a leg in scope still armed, ACTION becomes STOP and event 0x06 is raised. -/
def rampExpire (s : State) : State :=
  if s.pol.rampOn ∧ s.get F.SYS_POLRAMP_REMAIN = 0 then
    let s := { s with pol := { s.pol with rampOn := false } }
    if (List.range 16).any (fun l => legArmed l s && inScope (legGroup l s) s) then
      polUpdate ({ s with pol := { s.pol with escalated := true } }.raise 0x06)
    else s
  else s

/-- A factor falling linearly from 0x7FFF at `a` to `lo` at `b`, `a < b` (R443, truncated). -/
def factorAt (x a b : Int) (lo : Nat) : Nat :=
  if x ≤ a then 0x7FFF
  else if b ≤ x then lo
  else 0x7FFF - (((0x7FFF - lo : Nat) : Int) * (x - a) / (b - a)).toNat

/-- The junction temperature in 0.25 °C units. -/
def tempOf (s : State) : Int := s.getInt F.ADC_TJ_TEMP

/-- The thermal factor and the triggers THERM and THERMHI are taken anew (R440, R443) from TEMP and the last external
code. -/
def thermUpdate (s : State) : State :=
  let t := tempOf s
  let ts := polInt 0x20 s
  let te := polInt 0x22 s
  let tdmin := polHalf 0x24 s
  let xen := natBit (polByte 0x26 s) 7
  let up : Int := if polHalf 0x2A s < polHalf 0x28 s then -1 else 1
  let x := up * s.pol.lastX
  let xs := up * polHalf 0x28 s
  let xe := up * polHalf 0x2A s
  let span := xe - xs
  let ftj := factorAt t ts te tdmin
  let ftx := if xen then factorAt x xs xe tdmin else 0x7FFF
  let ft := min ftj ftx
  let s := { s with pol := { s.pol with ftJ := ftj, ftX := ftx } }.set F.SYS_POLFACT_THERM ft
  let therm := s.bit F.SYS_POLSTAT_TRIG 2
  let thermNow := if ft < 0x7FFF then true
    else if t ≤ ts - 20 ∧ (!xen ∨ 2 * span ≤ 100 * (xs - x)) then false else therm
  let hi := s.bit F.SYS_POLSTAT_TRIG 3
  let hiNow := if te ≤ t ∨ (xen ∧ xe < x) then true
    else if t < te - 20 ∧ (!xen ∨ 2 * span ≤ 100 * (xe - x)) then false else hi
  polUpdate (polMark 3 hiNow (polMark 2 thermNow s))

/-- The governor's floor (R436). -/
def govFloor (s : State) : Nat := max (s.get F.SYS_GOVLIM_VMIN) (s.get F.SYS_GOVFLOOR_FLOOR)

/-- Is scheduler `c` governed (R435)? -/
def governed (c : Fin 2) (s : State) : Bool := natBit (s.sched.get c).ctl 0

/-- Is any scheduler governed? -/
def anyGoverned (s : State) : Bool := governed 0 s || governed 1 s

/-- A new window begins (R435). -/
def govWindow (s : State) : State :=
  { s with gov := { s.gov with closed := Vector.replicate 2 0, allHigh := true, minSlk := none } }.set F.SYS_GOVSTAT_WIN 0

/-- ATMIN and ATMAX are taken anew, with event 0x04 on a change (R456, R457). -/
def govEnds (s : State) : State :=
  let v := s.get F.SYS_GOVSTAT_VTGT
  let amin := decide (v = govFloor s)
  let amax := decide (v = s.get F.SYS_GOVLIM_VMAX)
  let chg := amin ≠ s.on F.SYS_GOVSTAT_ATMIN ∨ amax ≠ s.on F.SYS_GOVSTAT_ATMAX
  let s := (s.setB F.SYS_GOVSTAT_ATMIN amin).setB F.SYS_GOVSTAT_ATMAX amax
  if chg then s.raise 0x04 else s

/-- The target takes `v` (R436); a new window begins, and the regulator moves (R437). -/
def govTarget (v : Nat) (s : State) : State :=
  let s := if v = s.get F.SYS_GOVSTAT_VTGT then s else { s with gov := { s.gov with movedAt := s.now } }
  govWindow (govEnds (s.set F.SYS_GOVSTAT_VTGT v))

/-- The target is held at `v`: a window begins only where it changes (R435). -/
def govHold (v : Nat) (s : State) : State := if v = s.get F.SYS_GOVSTAT_VTGT then govEnds s else govTarget v s

/-- The situation of R438 is taken anew: before release 900 mV, FIXED at VFIX, no governed scheduler at VIDLE, else
automatic, with a target below the floor raised to it; the governor's start begins a window. -/
def govRefresh (s : State) : State :=
  if !s.gov.released then s
  else if s.on F.SYS_GOVSET_MODE then
    let v := min (max (s.get F.SYS_GOVSET_VFIX) (s.get F.SYS_GOVLIM_VMIN)) (s.get F.SYS_GOVLIM_VMAX)
    govHold v ({ s with gov := { s.gov with emerg := false } }.set F.SYS_GOVSTAT_STATE 2)
  else if !anyGoverned s then
    govHold (s.get F.SYS_GOVSET_VIDLE) ({ s with gov := { s.gov with emerg := false } }.set F.SYS_GOVSTAT_STATE 0)
  else
    let s := if s.get F.SYS_GOVSTAT_STATE % 2 = 1 then s else govWindow (s.set F.SYS_GOVSTAT_STATE 1)
    govHold (max (s.get F.SYS_GOVSTAT_VTGT) (govFloor s)) s

/-- Scheduler `c` comes to be governed, or no longer is; in the second case a new window starts. -/
def govChange (was : Bool) (s : State) : State := govRefresh (if was then govWindow s else s)

/-- Row 1 of R436: the emergency rise. -/
def govEmergency (s : State) : State :=
  let s := { s with gov := { s.gov with emerg := true } }.set F.SYS_GOVSTAT_STATE 3
  (govTarget (s.get F.SYS_GOVLIM_VMAX) (s.count F.SYS_GOVCNT_EMERG)).raise 0x03

/-- The window's end (rows 3 and 4 of R436), with SYS_GOVSLK of the completed window (R456). -/
def govWindowEnd (s : State) : State :=
  let s := match s.gov.minSlk with
    | some v => s.setInt F.SYS_GOVSLK_MIN v
    | none => s
  let t := s.get F.SYS_GOVSTAT_VTGT
  if s.gov.allHigh then
    let v := max (t - 5) (govFloor s)
    govTarget v (if v < t then s.count F.SYS_GOVCNT_DOWN else s)
  else govWindow s

/-- A governed scheduler closes an instance with slack `v`, `lsper` being its LSPER (R435, R436). -/
def govInstance (c : Fin 2) (v : Int) (lsper : Nat) (s : State) : State :=
  if !s.gov.released || s.on F.SYS_GOVSET_MODE || !governed c s then s
  else
    let tgt := s.get F.SYS_GOVCFG_TARGET
    let thr : Int := (tgt * lsper / 100 : Nat)
    let low : Int := ((tgt + s.get F.SYS_GOVCFG_HYST) * lsper / 100 : Nat)
    let emg : Int := (s.get F.SYS_GOVCFG_EMERG * lsper / 100 : Nat)
    let t := s.get F.SYS_GOVSTAT_VTGT
    if v = -32768 ∨ v < emg then govEmergency s
    else if v < thr then
      let n := min (t + 10) (s.get F.SYS_GOVLIM_VMAX)
      govTarget n (if t < n then s.count F.SYS_GOVCNT_UP else s)
    else
      let rel : Int := if lsper = 0 then 0 else Int.tdiv (v * 1000) lsper
      let g := s.gov
      let m := if lsper = 0 then g.minSlk else some (match g.minSlk with
        | some m => min m rel
        | none => rel)
      let g := { g with closed := vupd g.closed c (· + 1), allHigh := g.allHigh && decide (low ≤ v), minSlk := m }
      let s := { s with gov := g }.count F.SYS_GOVSTAT_WIN
      if (governed 0 s → 64 ≤ s.gov.closed.get 0) ∧ (governed 1 s → 64 ≤ s.gov.closed.get 1) then govWindowEnd s else s

/-- The regulator reaches the target (R437), an ordinary change at no more than 5 mV in 10 µs: EMERG ends once VCORE is at VMAX. DESIGN
CHOICE: the bound is counted from the last change of the target (assumption log 82). -/
def govReached (s : State) : State :=
  if !s.gov.emerg ∧ s.now < s.gov.movedAt + 2000 * ((s.get F.SYS_GOVSTAT_VTGT : Int) - s.gov.vcore).natAbs then s
  else
  let s := { s with gov := { s.gov with vcore := s.get F.SYS_GOVSTAT_VTGT, emerg := false } }
  if s.get F.SYS_GOVSTAT_STATE = 3 then s.set F.SYS_GOVSTAT_STATE 1 else s

end Sys2Proof.Machine
end

