-- ==== Sys2Proof/Machine/LoopSched.lean ====
section
/-!
DEFINITION. The loop schedulers: carrier events, triggers, COMMIT, deadlines (R128 to R133), and the deadline fault (R131, R317).
-/
namespace Sys2Proof.Machine

/-- Is leg L owned by core `c` (R127)? -/
def legOwnedBy (c l : Nat) (s : State) : Bool :=
  if c = 0 then s.bit F.SYS_CPLEGS_CP0 l else s.bit F.SYS_CPLEGS_CP1 l

/-- The owner of leg L: a core, or none. -/
def legOwner (l : Nat) (s : State) : Option (Fin 2) :=
  if legOwnedBy 0 l s then some 0 else if legOwnedBy 1 l s then some 1 else none

/-- The index of a group, from any number. -/
def grpIx (g : Nat) : Fin 4 := ⟨g % 4, Nat.mod_lt _ (by decide)⟩

/-- The tap time now on the time line of group `g`: its last zero event and the ticks of its PWM timebase since. -/
def groupNow (g : Nat) (s : State) : Nat :=
  let gr := s.pwm.grp.get (grpIx g)
  let c := if g / 2 = 0 then s.tb.cnt.get 1 else s.tb.cnt.get 2
  gr.zeroAt + 256 * (c - gr.zeroTbP)

/-- A leg enters its brake pattern at tap time `t` (R317): 1 LS on and HS off, 2 HS on and LS off; the output that turns on
does so after its dead time. -/
def legBrake (l t : Nat) (s : State) : State :=
  let br := s.get (F.PWM_LnCFG_BRAKE (l / 8) (l % 8))
  let s := { s with pwm := { s.pwm with leg := vupd s.pwm.leg (legIx l) (fun g =>
    if br = 1 then
      { g with hiZ := false, hs := none,
               edges := if g.ls.isSome then [] else [⟨t + g.act.dtf, .ls, true⟩] }
    else
      { g with hiZ := false, ls := none,
               edges := if g.hs.isSome then [] else [⟨t + g.act.dtr, .hs, true⟩] }) } }
  let s := s.setWord (R.PWM_LnACC (l / 8) (l % 8)) 0#32
  let s := (s.set (F.PWM_LnSTAT_STATE (l / 8) (l % 8)) 4).set (F.PWM_LnSTAT_CAUSE (l / 8) (l % 8)) 3
  (s.set (F.PWM_LnSTAT_SRC (l / 8) (l % 8)) 0).raise (groupEvent (legGroup l s) 4)

/-- The DEADLINE fault of core `c`'s armed legs in group `g` (R131, R317), and the policy trigger MISS where POLICY's
MISSFLG.UNIT asks for it (R439). A leg already braking keeps its pattern. -/
def deadlineFault (c : Fin 2) (g : Nat) (s : State) : State :=
  let brake := natBit (polByte 0x0E s) 0
  let s := forEach 16 (fun l s =>
    if legOwnedBy c.val l s && legGroup l s == g && (legState l s == 1 || legState l s == 2) then
      let br := s.get (F.PWM_LnCFG_BRAKE (l / 8) (l % 8))
      if brake && (br == 1 || br == 2) then legBrake l (groupNow g s) s else legFault l 3 0 s
    else s) s
  if natBit (polByte 0x0E s) 1 then
    polSet 4 true { s with pol := { s.pol with missGrp := natSetBit s.pol.missGrp g true } }
  else s

/-- Update scheduler `c`. -/
def State.updSched (s : State) (c : Fin 2) (f : Sched → Sched) : State := { s with sched := vupd s.sched c f }

/-- A slack value is recorded: LSSLACK, the last 64, and the governor (R130, R435). -/
def schedSlack (c : Fin 2) (v : Int) (s : State) : State :=
  let s := s.updSched c (fun x => { x with slack := v, ring := (v :: x.ring).take 64 })
  govInstance c v (s.sched.get c).per s

/-- LSMINSLK: the minimum of the last 64 slacks (R130); 0 before the first. -/
def minSlack (x : Sched) : Int :=
  match x.ring with
  | [] => 0
  | v :: vs => vs.foldl min v

/-- The instance has missed its deadline (R130, R131). -/
def schedMiss (c : Fin 2) (s : State) : State :=
  let x := s.sched.get c
  match x.inst with
  | none => s
  | some i =>
    let s := s.updSched c (fun x => { x with
      miss := true, missCnt := min (x.missCnt + 1) 0xFFFF, consec := min (x.consec + 1) 15
      inst := some { i with st := .missed } })
    let s := schedSlack c (-32768) s
    let x := s.sched.get c
    if x.limit ≤ x.consec then deadlineFault c i.grp s else s

/-- The slack of a met instance, limited to 0 … 32 767 (R130). -/
def schedMet (c : Fin 2) (diff : Int) (s : State) : State :=
  if 32767 < diff then schedSlack c 32767 (s.updSched c (fun x => { x with slkSat := true }))
  else schedSlack c (max diff 0) s

/-- The count of core `c`'s loop timebase, TB7 or TB8 (R104). -/
def loopCount (c : Fin 2) (s : State) : Nat := if c = 0 then s.tb.cnt.get 7 else s.tb.cnt.get 8

/-- The loop-timebase count of the `k`-th shadow-load event of group `g` from now, where it falls at or before the next
zero event (DEDUCED, assumption log 10). -/
def shadowAt (c : Fin 2) (g k : Nat) (s : State) : Option Nat :=
  let gr := s.pwm.grp.get (grpIx g)
  let load := s.get (F.PWM_GCTL_LOAD (g / 2) (g % 2))
  let half := s.on (F.PWM_GSTAT_HALF (g / 2) (g % 2))
  let base := if c = 0 then gr.zeroTb7 else gr.zeroTb8
  let peak := base + gr.perT / 2 / 512
  let zeroE := base + gr.len / 512
  let evs := (if natBit load 1 && !half then [peak] else []) ++ (if natBit load 0 then [zeroE] else [])
  if k = 0 then none else evs[k - 1]?

/-- A COMMIT for group `g` reaches core `c`'s scheduler (R130). -/
def schedCommit (c : Fin 2) (g : Nat) (s : State) : State :=
  let x := s.sched.get c
  match x.inst with
  | none => s
  | some i =>
    if i.grp ≠ g then s
    else match i.st with
      | .openI =>
        let stamp := loopCount c s
        match shadowAt c g (i.need - i.loads) s with
        | some d =>
          let s := s.updSched c (fun x => { x with consec := 0, inst := some { i with st := .met } })
          schedMet c ((d : Int) - stamp) s
        | none =>
          s.updSched c (fun x => { x with consec := 0, inst := some { i with st := .met }
                                          waiting := x.waiting ++ [(g, i.need - i.loads, stamp)] })
      | .missed => s.updSched c (fun x => { x with late := true, inst := some { i with st := .late } })
      | .met => s
      | .late => s

/-- A shadow-load event of group `g` reaches core `c`'s scheduler (R130): booked triggers and the instance count it, slacks
waiting for it are recorded, and an open instance whose deadline it is has missed. -/
def schedShadow (c : Fin 2) (g : Nat) (s : State) : State :=
  let x := s.sched.get c
  let due := x.waiting.filter (fun w => w.1 == g && w.2.1 ≤ 1)
  let keep := (x.waiting.filter (fun w => !(w.1 == g && w.2.1 ≤ 1))).map (fun w =>
    if w.1 == g then (w.1, w.2.1 - 1, w.2.2) else w)
  let s := s.updSched c (fun x => { x with
    waiting := keep
    booked := x.booked.map (fun b => if b.grp == g then { b with loads := b.loads + 1 } else b) })
  let s := due.foldl (fun s w => schedMet c ((loopCount c s : Int) - w.2.2) s) s
  match (s.sched.get c).inst with
  | none => s
  | some i =>
    if i.grp ≠ g ∨ i.due then s
    else
      let i := { i with loads := i.loads + 1, due := i.need ≤ i.loads + 1 }
      let s := s.updSched c (fun x => { x with inst := some i })
      if i.due ∧ i.st = .openI then schedMiss c s else s

/-- A carrier event of group `g` (`peak` or zero) reaches core `c`'s scheduler (R128, R133): field values written since the
last one apply, and every (DIV + 1)-th selected event books a trigger, due LSOFS ticks of the loop timebase later. -/
def schedCarrier (c : Fin 2) (g : Nat) (peak : Bool) (s : State) : State :=
  let x := s.sched.get c
  let a := x.ctl
  if !natBit a 0 || a / 2 % 4 != g || natBit a 5 != peak then s
  else
    let s := s.updSched c (fun x => { x with divCnt := (x.divCnt + 1) % (a / 256 % 16 + 1) })
    if x.divCnt ≠ 0 then s
    else s.updSched c (fun x => { x with
      booked := x.booked ++ [{ due := loopCount c s + x.ofs, grp := g, lvl := a / 8 % 4, need := a / 64 % 4 + 1 }] })

/-- Step 4 of R128: the trigger is delivered, unless a restart with KEEPLEGS mutes the scheduler (R136). -/
def schedDeliver (c : Fin 2) (lvl : Nat) (s : State) : State :=
  let x := s.sched.get c
  if x.mute then s
  else if lvl = 0 then
    if x.inWait then s.updSched c (fun x => { x with inWait := false })
    else s.updSched c (fun x => { x with pend := true })
  else s.updSched c (fun x => { x with lvlTrig := vupd x.lvlTrig ⟨lvl % 4, Nat.mod_lt _ (by decide)⟩ (fun _ => true) })

/-- The instance is still open for R132: no COMMIT has come, whether or not its deadline has passed. -/
def instOpen (x : Sched) : Bool := x.inst.any (fun i => i.st == .openI || i.st == .missed)

/-- The instance has not yet missed either. -/
def instUnmissed (x : Sched) : Bool := x.inst.any (fun i => i.st == .openI)

/-- The oldest booked trigger of core `c` fires, LSOFS ticks after its carrier event (R128, R132). With none booked or due nothing
happens. The stamp is TB6's (R35). -/
def schedTrigger (c : Fin 2) (s : State) : State :=
  let x := s.sched.get c
  match x.booked with
  | [] => s
  | b :: rest =>
    if loopCount c s < b.due then s
    else
    let s := s.updSched c (fun x => { x with booked := rest })
    let waiting := if b.lvl = 0 then x.pend else x.lvlTrig.get ⟨b.lvl % 4, Nat.mod_lt _ (by decide)⟩
    if waiting then s.updSched c (fun x => { x with ovr := true })
    else
      let s := if instOpen x then s.updSched c (fun x => { x with ovr := true }) else s
      let s := if instUnmissed x then schedMiss c s else s
      let k := loopCount c s
      let i : Instance := { grp := b.grp, need := b.need, loads := b.loads, due := b.need ≤ b.loads }
      let s := s.updSched c (fun x => { x with
        ts := stampTime s % 2 ^ 32
        per := match x.lastTrig with
          | some l => min (k - l) 0xFFFF
          | none => x.per
        lastTrig := some k
        inst := some i })
      let s := if i.due then schedMiss c s else s
      schedDeliver c b.lvl s

/-- A write of LSCTL (R133): the open instance closes without a miss, and CONSEC and PEND clear. -/
def lsctlWrite (c : Fin 2) (w : Nat) (s : State) : State :=
  let was := governed c s
  let s := s.updSched c (fun x => { x with
    ctl := w % 4096, consec := 0, pend := false, inst := none })
  if governed c s ≠ was then govChange was s else s

end Sys2Proof.Machine
end

