-- ==== Sys2Proof/Machine/SenseOps.lean ====
section
/-!
DEFINITION. Converters, result ports, comparators, blanking and the supply monitors (11), and fault inputs of the legs
(R315, R488).
-/
namespace Sys2Proof.Machine

/-- CID 1, Yarrow in Machine mode (R79): the only one that many rules let act. -/
def isOne (cid : Nat) : Bool := decide (cid = 1)

/-- CID 0 or 1, where a rule names both. -/
def isZeroOne (cid : Nat) : Bool := decide (cid ≤ 1)

/-- The core whose context carries the CID (R79). -/
def cidCore (cid : Nat) : Option (Fin 2) :=
  if 17 ≤ cid ∧ cid ≤ 20 then some 0 else if 21 ≤ cid ∧ cid ≤ 24 then some 1 else none

/-- Is fault input `i` active (R315, R488): pins FLT0 to FLT7 after polarity, active where no pad carries the function;
comparators after blanking. -/
def fltActive (i : Nat) (s : State) : Bool :=
  if i < 8 then
    if s.get (F.PIN_CFG_FUNC (80 + i)) = 1 ∧ !s.on (F.PIN_CFG_TRANS (80 + i)) then
      (s.pwm.flt.toList.getD i false) == s.bit (F.PWM_FLTPOL_POL) i
    else true
  else s.bit F.CMP_STAT_OUT (i - 8)

/-- An active fault input takes every leg routed to it to high impedance and latches, in whatever state the leg is (R315). -/
def faultInput (i : Nat) (s : State) : State :=
  forEach 16 (fun l s =>
    if s.bit (F.PWM_LnFMASK_MASK (l / 8) (l % 8)) i then legLatch l (if i < 8 then 1 else 2) i s else s) s

/-- Every fault input that is active acts on the legs routed to it (R315): routes and polarities have changed. -/
def faultScan (s : State) : State := forEach 16 (fun i s => if fltActive i s then faultInput i s else s) s

/-- CMPk after blanking takes `v`: its event, and the fault path (R336). -/
def cmpOut (k : Nat) (v : Bool) (s : State) : State :=
  if s.bit F.CMP_STAT_OUT k = v then s
  else
    let s := s.setBit F.CMP_STAT_OUT k v
    if v then (faultInput (8 + k) s).raise (0xC0 + k) else s.raise (0xC8 + k)

/-- The tick of its leg's PWM timebase at which the blanking window of comparator `k` closes; none where it is in none. -/
def blankEnd (k : Nat) (s : State) : Option Nat := s.sense.blank.toList.getD k none

/-- Is comparator `k` in a blanking window? -/
def cmpBlanked (k : Nat) (s : State) : Bool := (blankEnd k s).isSome

/-- Set the end of the blanking window of comparator `k`, or end it. -/
def setBlank (k : Nat) (v : Option Nat) (s : State) : State :=
  { s with sense := { s.sense with blank := s.sense.blank.mapIdx (fun i b => if i = k then v else b) } }

/-- The ticks of the PWM timebase of leg `l` (R17, R335). -/
def legTicks (l : Nat) (s : State) : Nat := if l < 8 then s.tb.cnt.get 1 else s.tb.cnt.get 2

/-- The voltages at the pins and of the supplies are `v` from now on. -/
def setVolts (v : Analog) (s : State) : State := { s with sense := { s.sense with volt := some v } }

/-- PGA p (R324), in units of 1/16 nV: its output, and whether it is saturated. -/
def pgaOut (p : Nat) (v : Analog) (s : State) : Int × Bool :=
  if !s.on (F.CMP_PGAp_EN p) then (0, true)
  else
    let inn := s.get (F.CMP_PGAp_INN p)
    let vn : Int := if 32 ≤ inn then 0 else v.ain.getD inn 0
    let vp : Int := v.ain.getD (s.get (F.CMP_PGAp_INP p)) 0
    let ofs : Int := if s.on (F.CMP_PGAp_OFS p) then v.vdda else 8 * v.vdda
    let out := ofs + (2 ^ s.get (F.CMP_PGAp_GAIN p) : Nat) * 16 * (vp - vn)
    let lo : Int := 16 * 50000000
    let hi : Int := 16 * v.vdda - 16 * 50000000
    (max lo (min hi out), decide (out < lo ∨ hi < out))

/-- The voltage of a channel in units of 1/16 nV, and whether a PGA feeding it is saturated (R322). -/
def channelVolt (ch : Nat) (v : Analog) (s : State) : Int × Bool :=
  if ch < 32 then (16 * v.ain.getD ch 0, false)
  else if ch < 36 then pgaOut (ch - 32) v s
  else if ch = 36 then (16 * 1200000000, false)
  else if ch = 37 then (8 * v.vddio, false)
  else if ch = 38 then (16 * v.vcore, false)
  else (0, false)

/-- The hysteresis of comparator `k` in units of 1/16 nV (R334). -/
def cmpHyst (k : Nat) (s : State) : Int :=
  match s.get (F.CMP_kCTL_HYST k) with
  | 0 => 0
  | 1 => 160000000
  | 2 => 320000000
  | _ => 640000000

/-- Is comparator `k` tripped with the voltages `v` (R334)? Both sides are in units of 1/16384 nV; hysteresis is applied against release. -/
def cmpTripped (k : Nat) (v : Analog) (s : State) : Bool :=
  let x := 1024 * (channelVolt (s.get (F.CMP_kCTL_CH k)) v s).1
  let d : Int := (s.get (F.CMP_kDAC_CODE k) * 16 * v.vdda : Nat)
  let h := if s.bit F.CMP_STAT_RAW k then 1024 * cmpHyst k s else 0
  s.on (F.CMP_kCTL_EN k) && (if s.on (F.CMP_kCTL_POL k) then decide (x < d + h) else decide (d - h < x))

/-- The output of comparator `k` before blanking becomes `v` (R334, R335). -/
def cmpRaw (k : Nat) (v : Bool) (s : State) : State :=
  let s := s.setBit F.CMP_STAT_RAW k v
  if cmpBlanked k s then s else cmpOut k v s

/-- Comparator `k` follows its input and its threshold (R334); before any command has brought voltages its input is not known, and only a
disabled one follows (DEDUCED, assumption log 85). -/
def cmpFollow (k : Nat) (s : State) : State :=
  let v := match s.sense.volt with
    | some v => cmpTripped k v s
    | none => s.bit F.CMP_STAT_RAW k && s.on (F.CMP_kCTL_EN k)
  if s.bit F.CMP_STAT_RAW k = v then s else cmpRaw k v s

/-- The input of comparator `k` crosses its threshold (R334), with the voltages `v`. -/
def cmpTrip (k : Nat) (v : Analog) (s : State) : State :=
  if cmpTripped k v s && !s.bit F.CMP_STAT_RAW k then cmpRaw k true (setVolts v s) else s

/-- The input of comparator `k` returns past threshold and hysteresis (R334), with the voltages `v`. -/
def cmpRelease (k : Nat) (v : Analog) (s : State) : State :=
  if s.bit F.CMP_STAT_RAW k && !cmpTripped k v s then cmpRaw k false (setVolts v s) else s

/-- The blanking window of comparator `k` closes when its ticks have passed (R335). -/
def blankClose (k : Nat) (s : State) : State :=
  match blankEnd k s with
  | none => s
  | some t =>
    if legTicks (s.get (F.CMP_kCTL_BLEG k)) s < t then s
    else
      let s := setBlank k none s
      if s.bit F.CMP_STAT_RAW k then cmpOut k true s else s

/-- A turn-on edge of leg L's output opens, or restarts, the windows of the comparators that watch it (R335). BLANK 0 gives a window of
no length. -/
def blankOpen (l : Nat) (o : LegOut) (s : State) : State :=
  forEach 8 (fun k s =>
    let e := s.get (F.CMP_kCTL_BEDGE k)
    let n := s.get (F.CMP_kCTL_BLANK k)
    if s.get (F.CMP_kCTL_BLEG k) = l ∧ (e = 2 ∨ (e = 0 ∧ o = .hs) ∨ (e = 1 ∧ o = .ls)) ∧ n ≠ 0 then
      cmpOut k false (setBlank k (some (legTicks l s + n)) s)
    else s) s

/-- A write of CMP_kCTL (R334, R343): a channel above 35 is refused; the comparator follows at once, and is released where disabled. -/
def cmpCtlWrite (k : Nat) (w : Word) (s : State) : Ans × State :=
  if 35 < fieldOf 4 6 w then (.refused .deny, s)
  else
    let s := s.setWord (R.CMP_kCTL k) (w &&& 0x03FFFFFF#32)
    if s.on (F.CMP_kCTL_EN k) then (.ok 0#64, cmpFollow k s)
    else (.ok 0#64, cmpOut k false (s.setBit F.CMP_STAT_RAW k false))

/-- A write of CMP_kDAC takes effect at its service point (R334). -/
def cmpDacWrite (k : Nat) (w : Word) (s : State) : State := cmpFollow k (s.set (F.CMP_kDAC_CODE k) (fieldOf 0 10 w))

/-- A write of CMP_PGAp (R343): GAIN 6 and 7 leave the field unchanged. -/
def pgaWrite (p : Nat) (w : Word) (s : State) : State :=
  let g := s.get (F.CMP_PGAp_GAIN p)
  let s := s.setWord (R.CMP_PGAp p) (w &&& 0xFFFF#32)
  if 6 ≤ fieldOf 12 3 w then s.set (F.CMP_PGAp_GAIN p) g else s

/-- The code of a voltage (R323). -/
def adcCode (v16 : Int) (vdda : Nat) : Nat :=
  if v16 < 0 ∨ vdda = 0 then 0 else min 4095 (4096 * v16.toNat / (16 * vdda))

/-- The VALUE of a code under FMT (R332). -/
def adcValue (fmt : Bool) (code : Nat) : Nat :=
  if fmt then (BitVec.ofInt 16 (((code : Int) - 2048) * 16)).toNat else code

/-- The index of a converter, from any number. -/
def convIx (c : Nat) : Fin 4 := ⟨c % 4, Nat.mod_lt _ (by decide)⟩

def State.setConv (s : State) (c : Nat) (x : Conv) : State :=
  { s with sense := { s.sense with conv := s.sense.conv.set (convIx c).val x (convIx c).isLt } }

def State.conv (s : State) (c : Nat) : Conv := s.sense.conv.get (convIx c)

/-- Is entry `e` the last of the sequence (R328)? -/
def adcLast (c e : Nat) (s : State) : Bool := e == 15 || s.on (F.ADC_cENTe_END c e)

/-- The entry after `e` in the sequence, as LOOP stands; none where the sequence stops there (R328). -/
def adcNext (c e : Nat) (s : State) : Option Nat :=
  if adcLast c e s then (if s.on (F.ADC_cSEQCTL_LOOP c) then some 0 else none) else some (e + 1)

/-- The entry whose sampling instant is awaited: while an entry is converted, the one that follows it as LOOP stands (R328, R329). -/
def adcAwaits (c : Nat) (s : State) : Option Nat :=
  let x := s.conv c
  if !s.on (F.ADC_cSEQCTL_EN c) then none
  else x.want.or (x.cur.bind (fun m => adcNext c m.entry s))

/-- STAT.WAIT: the awaited entry waits for a trigger that has not come (R326, R341). -/
def adcWait (c : Nat) (s : State) : State :=
  s.setB (F.ADC_cSTAT_WAIT c) (match adcAwaits c s with
    | some e => s.get (F.ADC_cENTe_TKIND c e) != 0 && (s.conv c).trig.isNone
    | none => false)

/-- The entries of the sequence: 0 up to the first with END. -/
def adcEntries (c : Nat) (s : State) : List Nat :=
  let n := (List.range 16).find? (fun e => s.on (F.ADC_cENTe_END c e))
  List.range (n.getD 15 + 1)

/-- Is converter `c` ready at this TB3 tick (R325)? -/
def adcReady (c : Nat) (s : State) : Bool :=
  let x := s.conv c
  x.cur.isNone && match x.endTick, adcAwaits c s with
    | some t, some e => decide (t + max 4 (s.get (F.ADC_cENTe_ACQ c e)) ≤ s.tb.cnt.get 3)
    | _, _ => true

/-- A trigger reaches the awaited entry (R326); a further one before its sampling instant is ignored. -/
def adcTake (c : Nat) (coarse : Bool) (s : State) : State :=
  let x := s.conv c
  match x.trig with
  | some _ => s
  | none => adcWait c (s.setConv c { x with trig := some { coarse := coarse, late := !adcReady c s } })

/-- A trigger is skipped (R329). -/
def adcSkip (c : Nat) (s : State) : State :=
  ((s.count (F.ADC_cSKIPCNT_COUNT c)).set (F.ADC_cSTAT_SKIP c) 1).raise (0xB8 + c)

/-- PWM trigger input `t` fires (R326, R329): for the awaited entry it counts; where an entry of the table other than that of PTR names
it, it is skipped. -/
def adcPwmTrigger (t : Nat) (coarse : Bool) (s : State) : State :=
  forEach 4 (fun c s =>
    let names := fun e => s.get (F.ADC_cENTe_TKIND c e) == 1 && s.get (F.ADC_cENTe_TIN c e) == t
    if !s.on (F.ADC_cSEQCTL_EN c) then s
    else if (adcAwaits c s).any names then adcTake c coarse s
    else if (List.range 16).any (fun e => e != s.get (F.ADC_cSTAT_PTR c) && names e) then adcSkip c s
    else s) s

/-- A trigger of kind TIMER (2) or SOFT (3) for converter `c` (R326, R329): it counts only for the awaited entry. -/
def adcKindTrigger (c kind : Nat) (s : State) : State :=
  if (adcAwaits c s).any (fun e => s.get (F.ADC_cENTe_TKIND c e) == kind) then adcTake c false s else s

/-- The TB3 tick at which the timer of converter `c` fires next, from tick `t` on; none where PERIOD stops it (R327). -/
def timerNext (c t : Nat) (s : State) : Option Nat :=
  let p := s.get (F.ADC_cTIMER_PERIOD c)
  if p = 0 then none else some (t + p)

/-- The timer of converter `c` fires, if the tick it is due at has come (R327). -/
def adcTimer (c : Nat) (s : State) : State :=
  match (s.conv c).timerAt with
  | none => s
  | some t =>
    if s.tb.cnt.get 3 < t ∨ !s.on (F.ADC_cSEQCTL_EN c) then s
    else adcKindTrigger c 2 (s.setConv c { s.conv c with timerAt := timerNext c t s })

/-- The sampling instant of converter `c` (R325, R326, R328): the converter is ready, and the trigger of the entry has come. -/
def adcSample (c : Nat) (v : Analog) (s : State) : State :=
  let x := s.conv c
  match adcAwaits c s with
  | none => s
  | some e =>
    let kind := s.get (F.ADC_cENTe_TKIND c e)
    if !adcReady c s || (kind != 0 && x.trig.isNone) then s
    else
      let t := x.trig.getD { coarse := false, late := false }
      let r := channelVolt (s.get (F.ADC_cENTe_CH c e)) v s
      let code := adcCode r.1 v.vdda
      let smp : Sample := { entry := e, code := code, ts := stampTime s, late := t.late
                            clip := code == 0 || code == 4095 || r.2, coarse := t.coarse }
      let s := (setVolts v s).setConv c { x with cur := some smp, trig := none, want := none }
      let s := (s.set (F.ADC_cSTAT_PTR c) e).set (F.ADC_cSTAT_BUSY c) 1
      let s := adcWait c s
      if t.late then (s.set (F.ADC_cSTAT_LATE c) 1).raise (0xB8 + c) else s

/-- A conversion of converter `c` ends: its result port, EV and END (R328, R330, R331, R333). -/
def adcEnd (c : Nat) (s : State) : State :=
  let x := s.conv c
  match x.cur with
  | none => s
  | some m =>
    let e := m.entry
    let seq := (s.get (F.ADC_cRESAe_STATUS c e) + 1) % 256
    let status := seq + (if m.late then 256 else 0) + (if m.clip then 512 else 0) + (if m.coarse then 1024 else 0)
    let s := s.set (F.ADC_cRESAe_VALUE c e) (adcValue (s.on (F.ADC_cENTe_FMT c e)) m.code)
    let s := s.set (F.ADC_cRESAe_STATUS c e) status
    let s := { s with sense := { s.sense with ts := smapSet (16 * c + e) (BitVec.ofNat 32 m.ts) 0#32 s.sense.ts } }
    let next := adcAwaits c s
    let s := s.setConv c { x with cur := none, want := next, endTick := some (s.tb.cnt.get 3)
                                  trig := if next.isSome then x.trig else none }
    let s := (s.set (F.ADC_cSTAT_BUSY c) 0).set (F.ADC_cSTAT_PTR c) (next.getD 0)
    let s := if s.on (F.ADC_cENTe_EV c e) then s.raise (0xB0 + c) else s
    let s := adcWait c (if next.isNone then s.set (F.ADC_cSEQCTL_EN c) 0 else s)
    if adcLast c e s then s.raise (0xB4 + c) else s

/-- A write of ADC_cSEQCTL (R328, R330). -/
def adcSeqctl (c : Nat) (w : Word) (s : State) : State :=
  let en := fieldOf 0 1 w != 0
  let was := s.on (F.ADC_cSEQCTL_EN c)
  let s := s.set (F.ADC_cSEQCTL_LOOP c) (fieldOf 1 1 w)
  if en && !was then
    if (adcEntries c s).any (fun e => decide (40 ≤ s.get (F.ADC_cENTe_CH c e))) then s.set (F.ADC_cSTAT_CFGERR c) 1
    else
      let x := s.conv c
      let s := (s.set (F.ADC_cSEQCTL_EN c) 1).setConv c { x with want := some 0, trig := none
                                                                 timerAt := timerNext c (s.tb.cnt.get 3) s }
      adcWait c (if x.cur.isSome then s else s.set (F.ADC_cSTAT_PTR c) 0)
  else if !en && was then
    let x := s.conv c
    let s := (s.set (F.ADC_cSEQCTL_EN c) 0).setConv c { x with want := none, trig := none, timerAt := none }
    adcWait c (if x.cur.isSome then s else s.set (F.ADC_cSTAT_PTR c) 0)
  else s

/-- The live stamp of a result port. -/
def portTs (i : Nat) (s : State) : Word := smapGet i 0#32 s.sense.ts

/-- A Campion read of word `w` of the result port of entry `e` of converter `c` by core `k` (R331, R333). -/
def portRead (k : Nat) (c e w : Nat) (s : State) : Nat × State :=
  let i := 16 * c + e
  let ts := portTs i s
  let st := s.get (F.ADC_cRESAe_STATUS c e)
  if w = 0 then
    (s.get (F.ADC_cRESAe_VALUE c e),
      { s with sense := { s.sense with latch := smapPut (64 * k + i) (ts, st) s.sense.latch } })
  else
    let l := (smapFind (64 * k + i) s.sense.latch).getD (ts, st)
    (if w = 1 then l.2 else if w = 2 then fieldOf 0 16 l.1 else fieldOf 16 16 l.1, s)

/-- A fabric read of ADC_cRESAe latches ADC_cRESBe (R333). -/
def resaRead (c e : Nat) (s : State) : Word × State :=
  (s.word (R.ADC_cRESAe c e),
    { s with sense := { s.sense with fabLatch := smapPut (16 * c + e) (portTs (16 * c + e) s) s.sense.fabLatch } })

/-- A fabric read of ADC_cRESBe: latched, or live before any read of RESA (DEDUCED from R333, assumption log 34). -/
def resbRead (c e : Nat) (s : State) : Word :=
  (smapFind (16 * c + e) s.sense.fabLatch).getD (portTs (16 * c + e) s)

/-- Special writes of the converter and comparator blocks; none where the register tables decide. -/
def senseWrite (a : Nat) (w : Word) (s : State) : Option (Ans × State) :=
  if 0x5000A000 ≤ a ∧ a < 0x5000A400 then
    let c := (a - 0x5000A000) / 0x100
    let k := a % 0x100
    if k = 0 then some (.ok 0#64, adcSeqctl c w s)
    else if k = 4 ∨ 0x40 ≤ k then
      if s.on (F.ADC_cSEQCTL_EN c) then some (.refused .busy, s) else none
    else if k = 0x10 then some (.ok 0#64, adcKindTrigger c 3 s)
    else none
  else if 0x5000B000 ≤ a ∧ a < 0x5000B040 ∧ a % 8 = 0 then some (cmpCtlWrite ((a - 0x5000B000) / 8) w s)
  else if 0x5000B000 ≤ a ∧ a < 0x5000B040 then some (.ok 0#64, cmpDacWrite ((a - 0x5000B000) / 8) w s)
  else if 0x5000B080 ≤ a ∧ a < 0x5000B090 then some (.ok 0#64, pgaWrite ((a - 0x5000B080) / 4) w s)
  else none

/-- Special reads of those blocks. -/
def senseRead (a : Nat) (s : State) : Option (Word × State) :=
  if 0x5000A400 ≤ a ∧ a < 0x5000A800 then
    let c := (a - 0x5000A400) / 0x100
    let e := a % 0x100 / 16
    if a % 16 = 0 then some (resaRead c e s)
    else if a % 16 = 4 then some (resbRead c e s, s)
    else none
  else none

/-- The junction temperature in 0.25 °C units lands in ADC_TJ (R337); TJHI and TSHUT follow. -/
def tjMeasure (t : Int) (s : State) : State :=
  let s := s.setInt F.ADC_TJ_TEMP t
  let thi := 4 * s.getInt F.ADC_TJLIM_THI
  let s :=
    if s.sense.tjReady ∧ thi ≤ t then
      ({ s with sense := { s.sense with tjReady := false } }.set F.ADC_SUPSTAT_TJHI 1).raise 0xBC
    else if t < thi - 20 then { s with sense := { s.sense with tjReady := true } }
    else s
  if 600 ≤ t then
    if s.on F.ADC_TJ_TSHUT then s else (s.set F.ADC_TJ_TSHUT 1).raise 0xBE
  else if t < 560 then s.set F.ADC_TJ_TSHUT 0
  else s

/-- A supply monitor's live flag rises (R338). -/
def supplyLow (i : Nat) (s : State) : State :=
  if s.bit F.ADC_SUPSTAT_LIVE i then s
  else (((s.setBit F.ADC_SUPSTAT_LIVE i true).setBit F.ADC_SUPSTAT_STICKY i true).raise 0xBD).faultEval

/-- A supply monitor's live flag falls (R338, R475). -/
def supplyBack (i : Nat) (s : State) : State := (s.setBit F.ADC_SUPSTAT_LIVE i false).faultEval

end Sys2Proof.Machine
end

