-- ==== Sys2Proof/Machine/PwmOps.lean ====
section
/-!
DEFINITION. The PWM generator: carriers, edge planning, shadow loads, arming, trigger compares and register writes (10).
-/
namespace Sys2Proof.Machine

def State.leg (s : State) (l : Nat) : Leg := s.pwm.leg.get (legIx l)
def State.setLeg (s : State) (l : Nat) (x : Leg) : State :=
  { s with pwm := { s.pwm with leg := s.pwm.leg.set (legIx l).val x (legIx l).isLt } }
def State.grp (s : State) (g : Nat) : Grp := s.pwm.grp.get (grpIx g)
def State.setGrp (s : State) (g : Nat) (x : Grp) : State :=
  { s with pwm := { s.pwm with grp := s.pwm.grp.set (grpIx g).val x (grpIx g).isLt } }

/-- Registers of group `g`, and of leg `l`, by block and index in the block (R319). -/
abbrev gb (g : Nat) : Nat := g / 2
abbrev gi (g : Nat) : Nat := g % 2
abbrev lb (l : Nat) : Nat := l / 8
abbrev li (l : Nat) : Nat := l % 8

/-- The prescaler P of group `g` (R292). -/
def prescaler (g : Nat) (s : State) : Nat := 2 ^ s.get (F.PWM_GCTL_PRESC (gb g) (gi g))

/-- The legs of group `g`, ascending (R291). -/
def groupLegs (g : Nat) (s : State) : List Nat := (List.range 16).filter (fun l => legGroup l s == g)

/-- PERt of a period of `per` carrier units (R293), at least one coarse tick (DESIGN CHOICE, assumption log 12). -/
def perTaps (g per : Nat) (s : State) : Nat := max 256 (per * prescaler g s)

/-- The automatic phase of leg `l` in taps, where PHMODE = 1 (R294). -/
def autoPhase (l perT : Nat) (s : State) : Nat :=
  let autos := (groupLegs (legGroup l s) s).filter (fun k => s.on (F.PWM_LnCFG_PHMODE (lb k) (li k)))
  match autos.idxOf? l with
  | some j => j * perT / autos.length
  | none => 0

/-- The phase offset φ of leg `l` in taps (R294). -/
def legPhase (l perT : Nat) (s : State) : Nat :=
  if s.on (F.PWM_LnCFG_PHMODE (lb l) (li l)) then autoPhase l perT s
  else (s.leg l).act.phase * prescaler (legGroup l s) s % perT

/-- The request D of a set of values in taps, clamped to 0 … PERt (R300). -/
def requestTaps (x : LegSet) (p perT : Nat) : Nat :=
  if x.absolute then min (x.dutyT * p) perT
  else min ((max x.dutyQ 0).toNat * perT / 32768) perT

/-- What an output does once the edges up to tap time `t` have been launched. -/
def edgesTo (t : Nat) (o : LegOut) (v : Option Nat) (es : List Edge) : Option Nat :=
  es.foldl (fun v e => if e.at_ ≤ t ∧ e.out = o then (if e.on then some (v.getD e.at_) else none) else v) v

/-- The request signal changes to `v` at tap time `t` (R301, R304): edges planned later than `t` are dropped, the output that
turns off does so when its on-time has reached MINPW, and the other turns on its dead time later. Answers whether an edge was
deferred (GUARD). -/
def planChange (v : Bool) (t : Nat) (x : Leg) : Leg × Bool :=
  let keep := x.edges.filter (fun e => e.at_ ≤ t)
  let offO := if v then LegOut.ls else .hs
  let onO := if v then LegOut.hs else .ls
  let offV := edgesTo t offO (if v then x.ls else x.hs) keep
  let onV := edgesTo t onO (if v then x.hs else x.ls) keep
  let tOff := match offV with
    | some u => max t (u + x.minT)
    | none => t
  let offE : List Edge := if offV.isSome then [⟨tOff, offO, false⟩] else []
  let onE : List Edge := if onV.isSome then [] else [⟨tOff + (if v then x.dtr else x.dtf), onO, true⟩]
  ({ x with q := v, edges := keep ++ offE ++ onE }, decide (t < tOff))

/-- Plan a change only where the planned level differs. -/
def planTo (v : Bool) (t : Nat) (p : Leg × Bool) : Leg × Bool :=
  if p.1.q = v then p else
    let r := planChange v t p.1
    (r.1, r.2 || p.2)

/-- The class of a period with effective request `de` (R302), and which short class it came from: 0 none, 1 HS, 2 LS. -/
def classify (de : Int) (perT dtr dtf minT pol : Nat) : LegClass × Nat × Int :=
  if de ≤ 0 then (.fullOff, 0, 0)
  else if (perT : Int) ≤ de then (.fullOn, 0, perT)
  else if de - dtr < minT then
    if pol = 1 then (.stretched, 1, (minT + dtr : Nat)) else (.fullOff, 1, 0)
  else if (perT : Int) - de - dtf < minT then
    if pol = 1 then (.stretched, 2, (perT : Int) - minT - dtf) else (.fullOn, 2, perT)
  else (.normal, 0, de)

/-- ACC of leg `l`, clamped to ±PERt with ACCSAT (R303). -/
def putAcc (l : Nat) (v : Int) (perT : Nat) (s : State) : State :=
  let c := max (-(perT : Int)) (min (perT : Int) v)
  let s := s.setInt (F.PWM_LnACC_ACC (lb l) (li l)) c
  if c = v then s else s.setBit ⟨R.PWM_LnSTAT (lb l) (li l), 16, 7⟩ 5 true

/-- A sticky bit of PWM_LnSTAT, 0 DROPPED to 6 REJ. -/
def legSticky (l b : Nat) (s : State) : State := s.setBit ⟨R.PWM_LnSTAT (lb l) (li l), 16, 7⟩ b true

/-- Does the policy sequencer or the fault logic shut the leg down at its RUN entry: SAFE latched (R476), or ACTION STOP
with its group in scope (R442)? -/
def legBarred (l : Nat) (s : State) : Bool :=
  s.on F.LCS_FSTAT_SAFE || (s.get F.SYS_POLSTAT_ACTION == 3 && inScope (legGroup l s) s)

/-- The local zero of leg `l` (R302, R303, R309). A leg that is not ARMING or RUN is unaffected. -/
def localZero (l : Nat) (s : State) : State :=
  let st := legState l s
  if st ≠ 1 ∧ st ≠ 2 then s
  else if st = 1 ∧ legBarred l s then legFault l 6 0 s
  else
    let g := legGroup l s
    let gr := s.grp g
    let x := s.leg l
    let perT := gr.perT
    let t0 := gr.zeroAt + legPhase l perT s
    let minT := x.act.minpw * 256
    let d := requestTaps x.act (prescaler g s) perT
    let pol := s.get (F.PWM_LnCFG_POLICY (lb l) (li l))
    let acc := s.getInt (F.PWM_LnACC_ACC (lb l) (li l))
    let de : Int := if pol = 2 then d + acc else d
    let (cls, short, eff) := classify de perT x.act.dtr x.act.dtf minT pol
    let s := s.setInt (F.PWM_LnACT_D (lb l) (li l)) de
    let s :=
      if pol = 2 then
        match cls, short with
        | .fullOff, _ => putAcc l de perT s
        | .fullOn, _ => putAcc l (de - perT) perT s
        | _, _ => putAcc l 0 perT s
      else s
    let da := eff.toNat
    let x := { x with t0 := t0, perT := perT, upDown := gr.upDown, cls := cls, da := da, loaded := false
                      dtr := x.act.dtr, dtf := x.act.dtf, minT := minT }
    let hp := perT / 2
    let qRise := if gr.upDown then t0 + hp - da / 2 else t0
    let qFall := if gr.upDown then t0 + hp + (da - da / 2) else t0 + da
    let fresh := st = 1
    let start : Leg × Bool :=
      if fresh then
        let high := cls = .fullOn ∨ (!gr.upDown ∧ (cls = .normal ∨ cls = .stretched))
        ({ x with hiZ := false, hs := none, ls := none, q := high
                  edges := if high then [⟨t0 + x.dtr, .hs, true⟩] else [⟨t0, .ls, true⟩] }, false)
      else (x, false)
    let r := match cls with
      | .fullOff => planTo false t0 start
      | .fullOn => planTo true t0 start
      | _ => planTo false qFall (planTo true qRise (if gr.upDown then planTo false t0 start else start))
    let s := s.setLeg l r.1
    let s := if fresh then s.set (F.PWM_LnSTAT_STATE (lb l) (li l)) 2 else s
    let s := if r.2 then legSticky l 4 s else s
    if short = 0 then s
    else (legSticky l (if pol = 1 then 1 else if pol = 2 then 2 else 0) s).raise (groupEvent g 5)

/-- The local peak of leg `l` in up-down mode (R295, R304): the values loaded since the local zero are used from here on. Where the period
has a falling edge it is planned anew with them; the request moves it only in a normal period of a group whose LOAD includes the
peak. -/
def localPeak (l : Nat) (s : State) : State :=
  let x := s.leg l
  let g := legGroup l s
  if legState l s ≠ 2 ∨ !x.upDown ∨ !x.loaded then s
  else
    let x := { x with loaded := false, dtr := x.act.dtr, dtf := x.act.dtf, minT := x.act.minpw * 256 }
    let s := s.setLeg l x
    if x.cls = .fullOff ∨ x.cls = .fullOn then s
    else
      let peak := natBit (s.get (F.PWM_GCTL_LOAD (gb g) (gi g))) 1
      let d : Int := if x.cls = .normal ∧ peak then requestTaps x.act (prescaler g s) x.perT else x.da
      let lo : Int := 2 * ((x.minT + x.dtr : Nat) : Int) - x.da
      let hi : Int := 2 * ((x.perT : Int) - x.minT - x.dtf) - x.da
      let db := (if x.cls = .normal then max lo (min d hi) else d).toNat
      let tp := x.t0 + x.perT / 2
      let keep := x.edges.filter (fun e => !(tp < e.at_ && (e.out == .hs) != e.on))
      let r := planChange false (tp + (db - db / 2)) { x with q := true, edges := keep }
      let s := s.setLeg l r.1
      let s := if r.2 then legSticky l 4 s else s
      if (db : Int) = d then s else legSticky l 3 s

/-- The calibration group of leg `l`'s output lines (R34). -/
def legFine (l : Nat) (s : State) : Bool := s.bit F.TB_DLSTAT_FINE (l / 8)

/-- The next scheduled edge of leg `l` is launched (R298, R301): at its tap, or at its coarse tick while FINE is 0 (R35). A
turn-on opens blanking windows (R335). -/
def outputEdge (l : Nat) (s : State) : State :=
  let x := s.leg l
  match x.edges with
  | [] => s
  | e :: rest =>
    let at' := if legFine l s then e.at_ else e.at_ / 256 * 256
    let v := if e.on then some at' else none
    let s := s.setLeg l (match e.out with
      | .hs => { x with edges := rest, hs := v }
      | .ls => { x with edges := rest, ls := v })
    if e.on then blankOpen l e.out s else s

/-- R305 for a leg of group `g`, with period `perT` in taps and values `x`. -/
def r305 (g perT : Nat) (x : LegSet) (s : State) : Bool :=
  let load := s.get (F.PWM_GCTL_LOAD (gb g) (gi g))
  decide (2 * x.minpw * 256 + x.dtr + x.dtf ≤ perT) && decide (2 ≤ x.minpw ∧ x.minpw ≤ 2047) && load != 0 &&
  (!s.on (F.PWM_GCTL_MODE (gb g) (gi g)) || load == 1)

/-- The shadow set of leg `l` (R306). -/
def shadowSet (l : Nat) (s : State) : LegSet :=
  { absolute := (s.leg l).shadowAbs
    dutyQ := s.getInt (F.PWM_LnDUTYQ_Q (lb l) (li l))
    dutyT := s.get (F.PWM_LnDUTYT_T (lb l) (li l))
    dtr := s.get (F.PWM_LnDTR_TAPS (lb l) (li l))
    dtf := s.get (F.PWM_LnDTF_TAPS (lb l) (li l))
    minpw := s.get (F.PWM_LnMINPW_TICKS (lb l) (li l))
    phase := s.get (F.PWM_LnPHASE_PH (lb l) (li l)) }

/-- The set that a COMMIT marked for leg `l` becomes active, or is rejected (R306, R308); ACC clears where PER, DTR, DTF or MINPW changed
(R303). -/
def legLoad (l perT : Nat) (perNew : Bool) (s : State) : State :=
  let x := s.leg l
  let clear := fun (s : State) => s.setWord (R.PWM_LnACC (lb l) (li l)) 0#32
  match x.pend with
  | none => if perNew then clear s else s
  | some n =>
    if legArmed l s && !r305 (legGroup l s) perT n s then
      legSticky l 6 ((if perNew then clear s else s).setLeg l { x with pend := none })
    else
      let s := s.setLeg l { x with act := n, loaded := true, pend := none }
      if perNew || n.dtr != x.act.dtr || n.dtf != x.act.dtf || n.minpw != x.act.minpw then clear s else s

/-- Would the new period leave leg `l` in violation of R305, with the set a COMMIT marked for it and without (R308)? -/
def perBreaks (g perT l : Nat) (s : State) : Bool :=
  legArmed l s && !(s.leg l).pend.any (fun n => r305 g perT n s) && !r305 g perT (s.leg l).act s

/-- A shadow-load event of group `g` (R306, R308): what a COMMIT marked since the last one becomes active. -/
def shadowLoad (g : Nat) (s : State) : State :=
  let gr := s.grp g
  let legs := groupLegs g s
  let n := gr.pend.getD { per := gr.perAct, tc := gr.tcAct }
  let refuse := gr.pend.isSome && legs.any (fun l => perBreaks g (perTaps g n.per s) l s)
  let n := if refuse then { per := gr.perAct, tc := gr.tcAct } else n
  let repeats := legs.any (fun l => legArmed l s && (s.leg l).pend.isNone)
  let s := s.setGrp g { gr with perAct := n.per, tcAct := n.tc, pend := none }
  let s := if refuse then s.set (F.PWM_GSTAT_PERREJ (gb g) (gi g)) 1 else s
  let s := legs.foldl (fun s l => legLoad l (perTaps g n.per s) (n.per != gr.perAct) s) s
  let s := s.setB (F.PWM_GSTAT_LASTCMT (gb g) (gi g)) gr.pend.isSome
  let s := if gr.pend.isSome then s.raise (groupEvent g 2) else s
  let s := if repeats then s.raise (groupEvent g 3) else s
  schedShadow 1 g (schedShadow 0 g s)

/-- The shadow set of group `g` (R306). -/
def groupShadow (g : Nat) (s : State) : GrpSet where
  per := s.get (F.PWM_PER_PER (gb g) (gi g))
  tc := Vector.ofFn (fun (k : Fin 8) => s.word (R.PWM_TCk (gb g) (gi g) k))

/-- Does a COMMIT by CID `cid` name leg `l` (R306, R307)? CID 1's names the legs of neither core, a core's its own. -/
def commitNames (cid l : Nat) (s : State) : Bool :=
  match legOwner l s with
  | some c => cidCore cid == some c
  | none => isOne cid

/-- COMMIT g by CID `cid`, or its write of GCOMMIT (R129, R307): the shadow values of the legs it names, and the group's, are marked as they
stand. A COMMIT by any other CID names no leg (DEDUCED from R306, assumption log 66). -/
def commitBy (cid g : Nat) (s : State) : State :=
  let s := (groupLegs g s).foldl (fun s l =>
    if commitNames cid l s then s.setLeg l { s.leg l with pend := some (shadowSet l s) } else s) s
  let s := s.setGrp g { s.grp g with pend := some (groupShadow g s) }
  match cidCore cid with
  | some c => schedCommit c g s
  | none => s

/-- Steering of group `g` is suspended (R296): CLLOCKED clears, with its event. -/
def clDrop (g : Nat) (s : State) : State :=
  let s := s.setGrp g { s.grp g with good := 0, bad := 0 }
  if s.on (F.PWM_GSTAT_CLLOCKED (gb g) (gi g)) then
    (s.set (F.PWM_GSTAT_CLLOCKED (gb g) (gi g)) 0).raise (groupEvent g 6)
  else s

/-- Does group `g` steer to its targets (R296)? -/
def clSteers (g : Nat) (s : State) : Bool := s.on (F.PWM_GCTL_CLOCK (gb g) (gi g)) && s.on F.TB_REFSTAT_CHAINOK

/-- ANCHOR of group `g`, in ns. -/
def clAnchor (g : Nat) (s : State) : Nat :=
  s.get (F.PWM_CLANCHORLO_ANCHOR (gb g) (gi g)) + 2 ^ 32 * s.get (F.PWM_CLANCHORHI_ANCHOR (gb g) (gi g))

/-- The first target t_k of group `g` after now, in 1/256 ns of TB6 (R296, R297). -/
def clNext (g : Nat) (s : State) : Nat :=
  let step : Int := 5 * perTaps g (s.grp g).perAct s
  let now : Int := 256 * s.tb.time
  (now + (step - (now - 256 * clAnchor g s) % step)).toNat

/-- The chain-locked steering at a zero event (R296): the stamp of TB6, CLERR, CLLOCKED and the trim of the next period, in taps. Times are in
units of 1/256 ns; a tap is 5 of them. -/
def chainSteer (g perT : Nat) (s : State) : Int × State :=
  let gr := s.grp g
  if !clSteers g s then (0, clDrop g s)
  else
    let step : Int := 5 * perT
    let r := (256 * ((stampTime s : Int) - (clAnchor g s : Int))) % step
    let e := if 2 * r ≤ step then r else r - step
    let trim := s.get (F.PWM_CLCTL_CLTRIM (gb g) (gi g))
    let n : Int := (min (e.natAbs / 5) (max trim 1) : Nat)
    let s := s.setInt (F.PWM_CLERR_ERR (gb g) (gi g)) (Int.tdiv e 256)
    let good := if e.natAbs ≤ 512 then gr.good + 1 else 0
    let bad := if 2048 < e.natAbs then gr.bad + 1 else 0
    let was := s.on (F.PWM_GSTAT_CLLOCKED (gb g) (gi g))
    let lock := if was then decide (bad < 4) else decide (16 ≤ good)
    let s := s.setGrp g { s.grp g with good := min good 16, bad := min bad 4 }
    let s := if lock = was then s else (s.setB (F.PWM_GSTAT_CLLOCKED (gb g) (gi g)) lock).raise (groupEvent g 6)
    (if 0 < e then -n else n, s)

/-- The zero event of group `g`, its carrier running (R293, R296, R306, R321). -/
def zeroEvent (g : Nat) (s : State) : State :=
  let gr := s.grp g
  let s := s.setGrp g { gr with
    zeroAt := gr.zeroAt + gr.len, zeroTb7 := s.tb.cnt.get 7, zeroTb8 := s.tb.cnt.get 8
    zeroTbP := if g / 2 = 0 then s.tb.cnt.get 1 else s.tb.cnt.get 2 }
  let s := s.set (F.PWM_GSTAT_HALF (gb g) (gi g)) 0
  let s := s.raise (groupEvent g 0)
  let s := if natBit (s.get (F.PWM_GCTL_LOAD (gb g) (gi g))) 0 then shadowLoad g s else s
  let perT := perTaps g (s.grp g).perAct s
  let r := chainSteer g perT s
  let s := r.2.setGrp g { r.2.grp g with
    perT := perT, len := ((perT : Int) + r.1).toNat, upDown := !s.on (F.PWM_GCTL_MODE (gb g) (gi g)) }
  let s := schedCarrier 1 g false (schedCarrier 0 g false s)
  if s.tb.retReady ∧ s.get F.TB_REFCTL_REFSYNC = g then { s with tb := { s.tb with retZero := true } } else s

/-- The carrier of group `g` starts with a zero event (R293): at the next tick, or once TB6 reaches the target it waits for (R297). -/
def carrierStart (g : Nat) (s : State) : State :=
  if s.on (F.PWM_GCTL_EN (gb g) (gi g)) && !s.on (F.PWM_GSTAT_RUN (gb g) (gi g))
      && (s.grp g).startAt.all (fun t => decide (t < 256 * (s.tb.time + 1))) then
    zeroEvent g ((s.set (F.PWM_GSTAT_RUN (gb g) (gi g)) 1).setGrp g
      { s.grp g with len := 0, zeroAt := 0, good := 0, bad := 0, startAt := none })
  else s

/-- The carrier of group `g` reaches its zero event. -/
def carrierZero (g : Nat) (s : State) : State :=
  if s.on (F.PWM_GSTAT_RUN (gb g) (gi g)) then zeroEvent g s else s

/-- The carrier of group `g` reaches its peak event (R293, R306). -/
def carrierPeak (g : Nat) (s : State) : State :=
  if s.on (F.PWM_GSTAT_RUN (gb g) (gi g)) && !s.on (F.PWM_GSTAT_HALF (gb g) (gi g)) then
    let s := (s.set (F.PWM_GSTAT_HALF (gb g) (gi g)) 1).raise (groupEvent g 1)
    let s := if natBit (s.get (F.PWM_GCTL_LOAD (gb g) (gi g))) 1 then shadowLoad g s else s
    schedCarrier 1 g true (schedCarrier 0 g true s)
  else s

/-- Chain locking begins with no leg of group `g` armed (R297): the first zero event is placed on the next target, be it the start of the
carrier or the end of the period that runs. -/
def clPlace (g : Nat) (s : State) : State :=
  let gr := s.grp g
  if !clSteers g s then s.setGrp g { gr with startAt := none }
  else if s.on (F.PWM_GSTAT_RUN (gb g) (gi g)) then
    s.setGrp g { gr with len := groupNow g s - gr.zeroAt + (clNext g s - 256 * s.tb.time) / 5 }
  else s.setGrp g { gr with startAt := some (clNext g s) }

/-- A write of GCTL by CID 1 with no leg of the group armed. -/
def gctlWrite (g : Nat) (w : Word) (s : State) : State :=
  let clock := s.on (F.PWM_GCTL_CLOCK (gb g) (gi g))
  let en := s.on (F.PWM_GCTL_EN (gb g) (gi g))
  let s := s.setWord (R.PWM_GCTL (gb g) (gi g)) (w &&& 0x7F#32)
  if s.on (F.PWM_GCTL_EN (gb g) (gi g)) then (if clock && en then s else clPlace g s)
  else
    let was := s.on (F.PWM_GSTAT_CLLOCKED (gb g) (gi g))
    let s := ((s.set (F.PWM_GSTAT_RUN (gb g) (gi g)) 0).set (F.PWM_GSTAT_HALF (gb g) (gi g)) 0).set
      (F.PWM_GSTAT_CLLOCKED (gb g) (gi g)) 0
    if was then s.raise (groupEvent g 6) else s

/-- Do both pads of leg `l` carry its outputs (R310, R485)? -/
def legPads (l : Nat) (s : State) : Bool :=
  [2 * l, 2 * l + 1].all (fun p => s.get (F.PIN_CFG_FUNC p) == 1 && !s.on (F.PIN_CFG_TRANS p))

/-- The first check of R310 that fails, 0 if none does. -/
def armError (l : Nat) (s : State) : Nat :=
  let g := legGroup l s
  if !r305 g (perTaps g (s.grp g).perAct s) (s.leg l).act s then 1
  else if !s.on (F.PWM_GCTL_EN (gb g) (gi g)) then 2
  else if !s.bit F.TB_LOCK (l / 8 + 1) then 3
  else if (List.range 16).any (fun i => s.bit (F.PWM_LnFMASK_MASK (lb l) (li l)) i && fltActive i s) then 4
  else if !legPads l s then 5
  else if legState l s ≠ 0 then 6
  else 0

/-- The first accepted ARM in group `g` releases its part of the trigger MISS (R440). -/
def missRelease (g : Nat) (s : State) : State :=
  if natBit s.pol.missGrp g then
    let s := { s with pol := { s.pol with missGrp := natSetBit s.pol.missGrp g false } }
    if s.pol.missGrp = 0 then polSet 4 false s else s
  else s

/-- ARM (R310): ARMERR, or ARMING. -/
def legArm (l : Nat) (s : State) : State :=
  let e := armError l s
  let s := s.set (F.PWM_LnSTAT_ARMERR (lb l) (li l)) e
  if e = 0 then
    missRelease (legGroup l s) ((s.set (F.PWM_LnSTAT_STATE (lb l) (li l)) 1).set (F.PWM_LnSTAT_CAUSE (lb l) (li l)) 0)
  else s

/-- DISARM (R311): OFF at high impedance. A fault input's latch holds until CLRFLT (R315); the other causes hold nothing. -/
def legDisarm (l : Nat) (s : State) : State :=
  if legState l s = 3 ∧ s.get (F.PWM_LnSTAT_CAUSE (lb l) (li l)) ≤ 2 then s
  else (legHiZ l s).set (F.PWM_LnSTAT_STATE (lb l) (li l)) 0

/-- CLRFLT (R318). -/
def legClrflt (l : Nat) (s : State) : State :=
  if legState l s ≠ 3 then s
  else if (List.range 16).any (fun i => s.bit (F.PWM_LnFMASK_MASK (lb l) (li l)) i && fltActive i s) then
    s.set (F.PWM_LnSTAT_ARMERR (lb l) (li l)) 4
  else s.set (F.PWM_LnSTAT_STATE (lb l) (li l)) 0

/-- May the CID act on leg `l` as its owner, or as CID 1 for an unowned leg (R311)? -/
def legRight (cid l : Nat) (s : State) : Bool :=
  match legOwner l s with
  | some c => cidCore cid == some c
  | none => isOne cid

/-- A write of PWM_LnCTL: bits together act as DISARM, CLRFLT, ARM (DEDUCED, assumption log 14). -/
def legCtl (cid l : Nat) (w : Word) (s : State) : Ans × State :=
  let arm := fieldOf 0 1 w != 0
  let dis := fieldOf 1 1 w != 0
  let clr := fieldOf 2 1 w != 0
  if legRight cid l s || (isOne cid && dis && !arm && !clr) then
    let s := if dis then legDisarm l s else s
    let s := if clr then legClrflt l s else s
    (.ok 0#64, if arm then legArm l s else s)
  else (.refused .deny, s)

/-- A write of PWM_LnCFG (R312): only while OFF; ACC clears (R303). -/
def legCfg (l : Nat) (w : Word) (s : State) : Ans × State :=
  if legState l s ≠ 0 then (.refused .busy, s)
  else (.ok 0#64, (s.setWord (R.PWM_LnCFG (lb l) (li l)) (w &&& 0x77#32)).setWord (R.PWM_LnACC (lb l) (li l)) 0#32)

/-- May the CID write PER and the trigger compares of group `g` (R319)? -/
def groupRight (cid g : Nat) (s : State) : Bool :=
  isOne cid || match cidCore cid with
    | some c => (groupLegs g s).any (fun l => legOwnedBy c.val l s)
    | none => false

/-- `old` with the bytes that `mask` names replaced. -/
def mergeMask (old w : Word) (mask : Nat) : Word := mergeBytes old w mask

/-- Special writes of the PWM blocks: `w` is the data on the bytes that `mask` names, zero elsewhere. None where the register
tables decide. -/
def pwmWrite (cid a : Nat) (w : Word) (mask : Nat) (s : State) : Option (Ans × State) :=
  if a < 0x50008000 ∨ 0x5000A000 ≤ a then none
  else
    let b := (a - 0x50008000) / 0x1000
    let off := a % 0x1000
    if off < 0x100 then
      let g := 2 * b + off / 0x80
      let k := off % 0x80
      if k = 0 then
        if !isOne cid then some (.refused .deny, s)
        else if groupArmed g s then some (.refused .busy, s)
        else some (.ok 0#64, gctlWrite g (mergeMask (s.word (R.PWM_GCTL b (off / 0x80))) w mask) s)
      else if k = 8 then some (.ok 0#64, commitBy cid g s)
      else if (k = 4 ∨ 0x20 ≤ k ∧ k < 0x40) ∧ !groupRight cid g s then some (.refused .deny, s)
      else none
    else if 0x200 ≤ off ∧ off < 0x400 then
      let l := 8 * b + (off - 0x200) / 0x40
      let k := off % 0x40
      if k = 0x1C then some (legCtl cid l w s)
      else if !legRight cid l s then some (.refused .deny, s)
      else if k = 0 then
        some (.ok 0#64, (s.setWord (R.PWM_LnDUTYQ b (li l)) (mergeMask (s.word (R.PWM_LnDUTYQ b (li l))) w mask &&& 0xFFFF#32)).setLeg l
          { s.leg l with shadowAbs := false })
      else if k = 4 then
        some (.ok 0#64, (s.setWord (R.PWM_LnDUTYT b (li l)) (mergeMask (s.word (R.PWM_LnDUTYT b (li l))) w mask &&& 0xFFFFFF#32)).setLeg l
          { s.leg l with shadowAbs := true })
      else if k = 8 then
        some (.ok 0#64, s.set (F.PWM_LnDTR_TAPS b (li l))
          (min 524032 (fieldOf 0 19 (mergeMask (s.word (R.PWM_LnDTR b (li l))) w mask))))
      else if k = 12 then
        some (.ok 0#64, s.set (F.PWM_LnDTF_TAPS b (li l))
          (min 524032 (fieldOf 0 19 (mergeMask (s.word (R.PWM_LnDTF b (li l))) w mask))))
      else if k = 16 then
        some (.ok 0#64, s.set (F.PWM_LnMINPW_TICKS b (li l))
          (max 2 (fieldOf 0 11 (mergeMask (s.word (R.PWM_LnMINPW b (li l))) w mask))))
      else if k = 0x18 then some (legCfg l (mergeMask (s.word (R.PWM_LnCFG b (li l))) w mask) s)
      else none
    else none

/-- Special reads of the PWM blocks (R294, R319). -/
def pwmRead (a : Nat) (s : State) : Option Word :=
  if a < 0x50008000 ∨ 0x5000A000 ≤ a then none
  else
    let b := (a - 0x50008000) / 0x1000
    let off := a % 0x1000
    if off < 0x100 ∧ off % 0x80 = 0x40 then
      let g := 2 * b + off / 0x80
      if s.on (F.PWM_GSTAT_RUN (gb g) (gi g)) then
        some (BitVec.ofNat 32 ((groupNow g s - (s.grp g).zeroAt) / 256 % 65536))
      else some 0#32
    else if 0x200 ≤ off ∧ off < 0x400 ∧ off % 0x40 = 0x14 then
      let l := 8 * b + (off - 0x200) / 0x40
      let g := legGroup l s
      if s.on (F.PWM_LnCFG_PHMODE (lb l) (li l)) then
        some (BitVec.ofNat 32 (autoPhase l (perTaps g (s.grp g).perAct s) s / prescaler g s))
      else none
    else if off = 0x404 ∧ b = 1 then some 0#32
    else if off = 0x408 then
      some (BitVec.ofNat 32 ((List.range 16).foldl (fun n i => if fltActive i s then n + 2 ^ i else n) 0))
    else none

/-- The coarse tick in which trigger compare k of group `g` fires in the period in force; none where it does not (R313). -/
def trigTick (g k : Nat) (s : State) : Option Nat :=
  let gr := s.grp g
  let tc := gr.tcAct.toList.getD k 0#32
  let pos := fieldOf 0 24 tc * prescaler g s
  if s.on (F.PWM_GSTAT_RUN (gb g) (gi g)) && fieldOf 31 1 tc == 1 && decide (pos < gr.perT) then some (gr.zeroTbP + pos / 256)
  else none

/-- The triggers of PWM timebase `b` that fire in a coarse tick, in the order in which they book its lines (R314). -/
def trigLine (b tick : Nat) (s : State) : List (Nat × Nat) :=
  ([2 * b, 2 * b + 1].flatMap (fun g => (List.range 8).map (fun k => (g, k)))).filter (fun x => trigTick x.1 x.2 s == some tick)

/-- Trigger compare k of group `g` reaches its position (R313, R314): it has a line where fewer than eight triggers come before it in its
coarse tick. -/
def triggerFire (g k : Nat) (s : State) : State :=
  match trigTick g k s with
  | none => s
  | some tick =>
    let b := g / 2
    let fine := s.bit F.TB_DLSTAT_FINE (2 + b)
    let free := ((trigLine b tick s).take 8).contains (g, k)
    let s := if fine && !free then s.count (F.PWM_TCCOLL_COUNT b) else s
    let s := adcPwmTrigger (8 * g + k) (!fine || !free) s
    if fieldOf 30 1 ((s.grp g).tcAct.toList.getD k 0#32) = 1 then s.raise (groupEvent g 7) else s

/-- Pin FLTi goes active for `ns` nanoseconds, or for good (R315): 10 ns always latches, under 3 ns never does, and in
between the outcome is open. -/
def fltPulse (i : Fin 8) (ns : Option Nat) (s : State) : State :=
  let act := s.bit F.PWM_FLTPOL_POL i.val
  let live := s.get (F.PIN_CFG_FUNC (80 + i.val)) == 1 && !s.on (F.PIN_CFG_TRANS (80 + i.val))
  match ns with
  | none =>
    let s := { s with pwm := { s.pwm with flt := vupd s.pwm.flt i (fun _ => act) } }
    if live then faultInput i.val s else s
  | some n =>
    if !live ∨ n < 3 then s
    else if 10 ≤ n then faultInput i.val s
    else
      let r := s.draw
      if r.1 % 2 = 1 then faultInput i.val r.2 else r.2

/-- Pin FLTi returns to its inactive level (R318). -/
def fltInactive (i : Fin 8) (s : State) : State :=
  { s with pwm := { s.pwm with flt := vupd s.pwm.flt i (fun _ => !s.bit F.PWM_FLTPOL_POL i.val) } }

end Sys2Proof.Machine
end

