-- ==== Sys2Proof/Machine/Pins.lean ====
section
/-!
DEFINITION. The pin multiplexer, pad levels and GPIO (R485 to R492), and the level a Teasel pin shows the engine.
-/
namespace Sys2Proof.Machine

/-- Does pad `i` offer function code `f` (R485, R486)? -/
def padOffers (i f : Nat) : Bool :=
  if 98 < i then false
  else match f with
    | 1 => decide (i < 64) || decide (80 ≤ i ∧ i ≤ 87) || decide (93 ≤ i)
    | 2 => decide (32 ≤ i ∧ i ≤ 44) || decide (64 ≤ i ∧ i ≤ 79)
    | _ => true

/-- Does pad `i` carry function `f` now? During a switch it carries none. -/
def padCarries (i f : Nat) (s : State) : Bool :=
  s.get (F.PIN_CFG_FUNC i) == f && !s.on (F.PIN_CFG_TRANS i)

/-- The other pad that the function `f` of pad `i` could occupy (R486): GPn and GP(40 + n), n below 8, share their F2 functions. -/
def padTwin (i f : Nat) : Option Nat :=
  if f ≠ 2 then none
  else if 32 ≤ i ∧ i ≤ 39 then some (i + 40)
  else if 72 ≤ i ∧ i ≤ 79 then some (i - 40)
  else none

/-- Does the function `f` asked for pad `i` occupy another pad? -/
def padTaken (i f : Nat) (s : State) : Bool :=
  match padTwin i f with
  | some j => s.get (F.PIN_CFG_FUNC j) == f
  | none => false

/-- Does TPn reach the engine from its pad? -/
def tpConnected (n : Nat) (s : State) : Bool := padCarries (32 + n) 1 s

/-- An edge of Teasel pin `n` is captured at the present tick of TB9 (R347, R350); no edge where the level stays. -/
def tpEdge (n : Nat) (lvl : Bool) (s : State) : State :=
  if s.bit F.TSL_PINLVL_LVL n = lvl then s
  else
    let s := s.setBit F.TSL_PINLVL_LVL n lvl
    { s with tslPin := s.tslPin.mapIdx (fun i p =>
        if i = n then { p with edges := (s.tb.cnt.get 9, lvl) :: p.edges } else p) }

/-- The level a pull gives. -/
def pullLevel (p : Nat) : Option Bool := if p = 1 then some false else if p = 2 then some true else none

/-- What a level does on the line: inactive turns to high by a pull or from outside. -/
def odLevel (od v : Bool) : Option Bool := if od && v then none else some v

/-- Is a frame of UART `u` on its line? TX is high otherwise (R362). -/
def uartSends (u : Fin 2) (s : State) : Bool :=
  s.on (F.SER_UuCTL_EN u.val) && s.on (F.SER_UuCTL_TXEN u.val) && !(s.uart.get u).tx.isEmpty

/-- The level that the function of pad `i` drives, none where it drives none or where no rule gives it. -/
def padDriven (i : Nat) (s : State) : Option Bool :=
  let od := s.on (F.PIN_CFG_OD i)
  match s.get (F.PIN_CFG_FUNC i) with
  | 0 =>
    if s.bit (F.PIN_GPOE_OE (i / 32)) (i % 32) then odLevel od (s.bit (F.PIN_GPOUT_OUT (i / 32)) (i % 32)) else none
  | 1 =>
    if i < 32 then
      let l := i / 2
      let x := s.pwm.leg.get (legIx l)
      if x.hiZ then none
      else some ((if i % 2 = 0 then x.hs.isSome else x.ls.isSome) != s.on (F.PWM_LnCFG_INV (l / 8) (l % 8)))
    else if i < 64 then
      match s.tslPin.toList[i - 32]? with
      | some p =>
        match p.drive with
        | .z => none
        | .low => some false
        | .high => odLevel od true
      | none => none
    else none
  | 2 =>
    if 64 ≤ i ∧ i < 72 then some (evoLevel (i - 64) s)
    else if i = 34 ∨ i = 74 then some ((s.uart.get 0).de != s.on (F.SER_UuDE_DEPOL 0))
    else if i = 37 ∨ i = 77 then some ((s.uart.get 1).de != s.on (F.SER_UuDE_DEPOL 1))
    else if i = 32 ∨ i = 72 then (if uartSends 0 s then none else some true)
    else if i = 35 ∨ i = 75 then (if uartSends 1 s then none else some true)
    else if i = 44 ∧ s.on F.SYS_STRAP_HEAD ∧ s.on F.SER_HCTL_IRQEN ∧ !s.chn.hostOut.isEmpty then some false
    else none
  | _ => none

/-- Before release, what holds a pad that no configuration reaches yet (R44, R76): the internal pull of a strap pad until the straps are
sampled, Betony on the QSPI pads of a unit with BOOTSRC = 1 from then on, or nothing. -/
inductive BootHold where
  | pull (up : Bool) | betony | nothing
deriving DecidableEq, Repr

def bootHold (i : Nat) (s : State) : BootHold :=
  if 88 ≤ i ∧ i ≤ 92 ∧ s.get F.SYS_BOOTSTAT_STATE = 0 then .pull (i == 89)
  else if 93 ≤ i ∧ s.get F.SYS_BOOTSTAT_STATE ≠ 0 ∧ s.get F.SYS_BOOTSTAT_STATE ≠ 8 ∧ s.on F.SYS_STRAP_BOOTSRC then .betony
  else .nothing

/-- The level of pad `i` as the rules give it: driven, the input its function carries, its pull, or its safe level (also for a
host-port function on a unit that is not the strapped head, R487). None where it comes from the board, or from Betony's transfer. -/
def padLevel (i : Nat) (s : State) : Option Bool :=
  let safe := match s.get (F.PIN_CFG_SAFELVL i) with
    | 0 => (s.pins.held.find? (fun e => e.1 == i)).map (·.2)
    | k => pullLevel k
  let deaf := decide (40 ≤ i ∧ i ≤ 44 ∧ s.get (F.PIN_CFG_FUNC i) = 2) && !s.on F.SYS_STRAP_HEAD
  match bootHold i s with
  | .pull up => some up
  | .betony => none
  | .nothing =>
  if s.on (F.PIN_CFG_TRANS i) || s.get (F.PIN_CFG_FUNC i) == 3 || deaf then safe
  else match padDriven i s with
    | some v => some v
    | none =>
      if 32 ≤ i ∧ i < 64 ∧ s.get (F.PIN_CFG_FUNC i) = 1 then some (s.bit F.TSL_PINLVL_LVL (i - 32))
      else if 80 ≤ i ∧ i ≤ 87 ∧ s.get (F.PIN_CFG_FUNC i) = 1 then some (s.pwm.flt.toList.getD (i - 80) false)
      else if i < 32 ∧ s.get (F.PIN_CFG_FUNC i) = 1 then none
      else pullLevel (s.get (F.PIN_CFG_PULL i))

/-- A read of PIN_GPINk (R488): the levels the rules give, the others free (assumption log 5). -/
def gpinRead (k : Nat) (s : State) : Word × State :=
  let r := s.draw
  let n := if k = 3 then 3 else 32
  (BitVec.ofNat 32 ((List.range n).foldl (fun v j =>
    if (padLevel (32 * k + j) s).getD (natBit r.1 j) then v + 2 ^ j else v) 0), r.2)

/-- The old function releases the pad (R491 step 2): a hold-last pad keeps its level, and the function's input sees R488. -/
def padRelease (i : Nat) (s : State) : State :=
  let r := s.draw
  let lvl := (padLevel i s).getD (r.1 % 2 == 1)
  let f := s.get (F.PIN_CFG_FUNC i)
  let s := r.2.set (F.PIN_CFG_TRANS i) 1
  let s := { s with pins := { s.pins with held := (i, lvl) :: s.pins.held.filter (fun e => e.1 != i) } }
  if f = 1 ∧ 32 ≤ i ∧ i < 64 then tpEdge (i - 32) (s.bit F.PIN_TPDISC (i - 32)) s
  else if f = 1 ∧ 80 ≤ i ∧ i ≤ 87 then faultInput (i - 80) s
  else s

/-- The error of a switch request, 0 where it is accepted (R490). -/
def switchError (i f : Nat) (s : State) : Nat :=
  if 98 < i then 1
  else if !s.on (F.PIN_CFG_SWITCHABLE i) then 1
  else if !padOffers i f then 2
  else if s.on F.PIN_SWSTAT_BUSY then 3
  else if i < 32 ∧ s.get (F.PIN_CFG_FUNC i) = 1 ∧ legState (i / 2) s ≠ 0 then 4
  else if padTaken i f s then 5
  else 0

/-- PIN_SWITCH_REQUEST (R490, R491 steps 1 and 2). PAD names the pad of this request, and an accepted one clears DONE and ERR
until it ends (DEDUCED, assumption log 59). -/
def switchRequest (w : Word) (s : State) : State :=
  let i := fieldOf 0 7 w
  let f := fieldOf 8 2 w
  let e := switchError i f s
  let s := s.set F.PIN_SWSTAT_PAD i
  if e ≠ 0 then (s.set F.PIN_SWSTAT_ERR e).set F.PIN_SWSTAT_DONE 1
  else
    let s := s.set F.PIN_SWSTAT_ERR 0
    if s.get (F.PIN_CFG_FUNC i) = f then s.set F.PIN_SWSTAT_DONE 1
    else
      let s := (s.set F.PIN_SWSTAT_DONE 0).set F.PIN_SWSTAT_BUSY 1
      padRelease i { s with pins := { s.pins with target := some (i, f), swAt := s.now } }

/-- PIN_SWITCH_TAKE (R491 step 4), after at least 20 ns at the safe level; a fault input taken by the pad acts at once if it is active (R315). -/
def switchTake (s : State) : State :=
  match s.pins.target with
  | none => s
  | some (i, f) =>
    if s.now < s.pins.swAt + 20 then s
    else
    let s := { s with pins := { s.pins with target := none } }
    let s := (s.set (F.PIN_CFG_FUNC i) f).set (F.PIN_CFG_TRANS i) 0
    let s := (s.set F.PIN_SWSTAT_BUSY 0).set F.PIN_SWSTAT_DONE 1
    if f = 1 ∧ 80 ≤ i ∧ i ≤ 87 ∧ fltActive (i - 80) s then faultInput (i - 80) s else s

/-- Writes of the pin block (R492); a write of a read-only GPIO register is ignored (R3). DEDUCED (assumption log 59): DONE and ERR of PIN_SWSTAT clear as W1C bits for CID 1, the only one that may ask for
a switch. -/
def pinWrite (cid a : Nat) (w : Word) (s : State) : Option (Ans × State) :=
  if a < 0x50007000 ∨ 0x50008000 ≤ a then none
  else
    let off := a - 0x50007000
    if 0x200 ≤ off ∧ off < 0x280 then
      let k := (off - 0x200) / 0x20
      let m := if k = 3 then 7#32 else 0xFFFFFFFF#32
      match off % 0x20 with
      | 0 => some (.ok 0#64, s.setWord (R.PIN_GPOUT k) (w &&& m))
      | 4 => some (.ok 0#64, s.setWord (R.PIN_GPOE k) (w &&& m))
      | 12 => some (.ok 0#64, s.setWord (R.PIN_GPOUT k) (s.word (R.PIN_GPOUT k) ||| (w &&& m)))
      | 16 => some (.ok 0#64, s.setWord (R.PIN_GPOUT k) (s.word (R.PIN_GPOUT k) &&& ~~~w))
      | _ => some (.ok 0#64, s)
    else if off = 0x300 ∧ isOne cid then some (.ok 0#64, switchRequest w s)
    else if off = 0x304 ∧ isOne cid then none
    else some (.refused .deny, s)

end Sys2Proof.Machine
end

