-- ==== Sys2Proof/Machine/SerialOps.lean ====
section
/-!
DEFINITION. The UARTs, the I²C port and the host port's registers (12).
-/
namespace Sys2Proof.Machine

def uartIx (u : Nat) : Fin 2 := ⟨u % 2, Nat.mod_lt _ (by decide)⟩
def State.ua (s : State) (u : Nat) : Uart := s.uart.get (uartIx u)

/-- UART `u` takes `x`; its status shows the levels (R371). -/
def State.setUa (s : State) (u : Nat) (x : Uart) : State :=
  let s := { s with uart := s.uart.set (uartIx u).val x (uartIx u).isLt }
  ((s.set (F.SER_UuSTAT_TXLVL u) x.tx.length).set (F.SER_UuSTAT_RXLVL u) x.rx.length).setB (F.SER_UuSTAT_TXBUSY u)
    ((s.on (F.SER_UuCTL_EN u) && s.on (F.SER_UuCTL_TXEN u) && !x.tx.isEmpty) || x.de)

/-- The DMA-ready events of an enabled UART (R366): one for each byte beyond RXWM, and for each free slot while
TXLVL ≤ TXWM, that none has announced. -/
def uartEvents (u : Nat) (s : State) : State :=
  if !s.on (F.SER_UuCTL_EN u) then s
  else
    let x := s.ua u
    let beyond := x.rx.length - s.get (F.SER_UuWM_RXWM u)
    let free := if x.tx.length ≤ s.get (F.SER_UuWM_TXWM u) then 16 - x.tx.length else 0
    let s := s.setUa u { x with outRx := max x.outRx beyond, outTx := max x.outTx free }
    let s := forEach (beyond - x.outRx) (fun _ s => s.raise (0x78 + 3 * u)) s
    forEach (free - x.outTx) (fun _ s => s.raise (0x79 + 3 * u)) s

/-- UART `u` takes `x`, with DE asserted while a half-duplex port has a frame to send, and held as it was until then (R363). -/
def uartDrive (u : Nat) (x : Uart) (s : State) : State :=
  let go := s.on (F.SER_UuCTL_EN u) && s.on (F.SER_UuCTL_TXEN u) && s.on (F.SER_UuCTL_HDX u)
  s.setUa u { x with de := go && (x.de || !x.tx.isEmpty) }

/-- A write of SER_UuDATA (R365). DE is asserted before the start bit (R363). -/
def uartPush (u : Nat) (d : Nat) (s : State) : Ans × State :=
  let x := s.ua u
  if 16 ≤ x.tx.length then (.refused .busy, s)
  else (.ok 0#64, uartEvents u (uartDrive u { x with tx := x.tx ++ [d % 512], outTx := x.outTx - 1 } s))

/-- The parity of a byte: is the number of ones odd? -/
def oddOnes (d : Nat) : Bool := (List.range 8).foldl (fun b i => b != natBit d i) false

/-- The bits of a frame with data `d` after its start bit (R362): eight, eight with even or odd parity in bit 8, or nine. -/
def uartBits (u d : Nat) (s : State) : Nat :=
  match s.get (F.SER_UuCTL_FMT u) with
  | 0 => d % 256
  | 1 => d % 256 + (if oddOnes d then 256 else 0)
  | 2 => d % 256 + (if oddOnes d then 0 else 256)
  | _ => d % 512

/-- A read of SER_UuDATA (R365): the oldest byte with its error bits, or VALID = 0. -/
def uartPop (u : Nat) (s : State) : Word × State :=
  let x := s.ua u
  match x.rx with
  | [] => (0#32, s)
  | b :: rest => (BitVec.ofNat 32 (b + 2 ^ 31), uartEvents u (s.setUa u { x with rx := rest, outRx := x.outRx - 1 }))

/-- A sticky error of UART `u` sets and raises the error event (R365): 0 OVR, 1 PE, 2 FE, 3 BRK. -/
def uartError (u i : Nat) (s : State) : State :=
  (s.setBit ⟨R.SER_UuSTAT u, 17, 4⟩ i true).raise (0x7A + 3 * u)

/-- Does a pad carry the UART's RX (R486)? Without one it sees 1, idle (R488). -/
def uartWired (u : Nat) (s : State) : Bool := padCarries (33 + 3 * u) 2 s || padCarries (73 + 3 * u) 2 s

/-- Do pads carry SCL and SDA (R486)? Without one both see 1 (R488). -/
def i2cWired (s : State) : Bool :=
  (padCarries 38 2 s || padCarries 78 2 s) && (padCarries 39 2 s || padCarries 79 2 s)

/-- Do pads carry HnSS, HSCK and HMOSI (R486)? Without HnSS the port is deselected, without the others no bit arrives (R488). -/
def hostWired (s : State) : Bool := padCarries 40 2 s && padCarries 41 2 s && padCarries 42 2 s

/-- The bits received: of each the majority of samples 7, 8 and 9 (R362). -/
def uartSampled (s7 s8 s9 : BitVec 9) : BitVec 9 := (s7 &&& s8) ||| (s7 &&& s9) ||| (s8 &&& s9)

/-- A frame arrives at UART `u` (R362 to R365): the bits after its start bit, in 8N1 the lower eight, and its stop bit. A frame of all zeros
with a zero stop bit is a break, and like any with a zero stop bit a framing error (DEDUCED, assumption log 81). -/
def uartReceive (u bits : Nat) (stop : Bool) (s : State) : State :=
  let x := s.ua u
  let d := if s.get (F.SER_UuCTL_FMT u) = 0 then bits % 256 else bits
  let pe := uartBits u d s != d
  let fe := !stop
  let brk := !stop && d == 0
  if !s.on (F.SER_UuCTL_EN u) || !s.on (F.SER_UuCTL_RXEN u) || !uartWired u s then s
  else if x.de && !s.on (F.SER_UuCTL_ECHO u) then s
  else
    let nine := s.get (F.SER_UuCTL_FMT u) == 3
    let filt := nine && s.on (F.SER_UuCTL_ADDRM u)
    let isAddr := natBit d 8
    let sel := if isAddr then decide (d % 256 = s.get (F.SER_UuCTL_ADDR u)) else x.sel
    let s := if filt then s.setUa u { x with sel := sel } else s
    let x := s.ua u
    if filt && !sel then s
    else if 16 ≤ x.rx.length then uartError u 0 s
    else
      let e := fun (b : Bool) (v : Nat) => if b then v else 0
      let d := if nine then d % 512 else d % 256
      let s := s.setUa u { x with rx := x.rx ++ [d + e pe 4096 + e fe 8192 + e brk 16384] }
      let s := if pe then uartError u 1 s else s
      let s := if fe then uartError u 2 s else s
      let s := if brk then uartError u 3 s else s
      uartEvents u s

/-- A frame of UART `u` has left (the answer shows its bits), or DE is released DETAIL bit times after the one that left the FIFO empty (R363; assumption
log 15). -/
def uartSent (u : Nat) (s : State) : State :=
  let x := s.ua u
  if !s.on (F.SER_UuCTL_EN u) || !s.on (F.SER_UuCTL_TXEN u) then s
  else match x.tx with
    | [] => s.setUa u { x with de := false }
    | d :: rest =>
      let hold := s.on (F.SER_UuCTL_HDX u) && (!rest.isEmpty || s.get (F.SER_UuDE_DETAIL u) != 0)
      uartEvents u ((s.setUa u { x with tx := rest, de := hold }).answer (uartBits u d s))

/-- A sticky bit of SER_ISTAT sets, with the I²C event (R372): 0 NACK, 1 ARBLOST, 2 TSTART, 3 TSTOP, 4 TRD, 5 TWR. -/
def i2cSticky (i : Nat) (s : State) : State := (s.setBit ⟨R.SER_ISTAT, 8, 6⟩ i true).raise 0x7E

/-- The command FIFO takes `l`; CMDEMPTY rising raises the I²C event. -/
def i2cFifo (l : List Nat) (s : State) : State :=
  let was := s.on F.SER_ISTAT_CMDEMPTY
  let s := { s with i2c := { s.i2c with cmd := l } }.setB F.SER_ISTAT_CMDEMPTY l.isEmpty
  if l.isEmpty && !was then s.raise 0x7E else s

/-- A NACK from the target (R368): the FIFO is flushed and STOP is sent. -/
def i2cNack (s : State) : State := (i2cFifo [] (i2cSticky 0 s)).set F.SER_ISTAT_BUSY 0

/-- The controller runs the command of OP `op` at the front of its FIFO; its fields go to `f`. -/
def i2cRun (op : Nat) (f : Nat → State → State) (s : State) : State :=
  match s.i2c.cmd with
  | [] => s
  | c :: rest => if c % 16 = op ∧ s.on F.SER_ICTL_CEN then f c (i2cFifo rest s) else s

/-- START or repeated START and the address byte, acknowledged or not. -/
def i2cStart (ack : Bool) (s : State) : State :=
  i2cRun 1 (fun _ s => let s := s.set F.SER_ISTAT_BUSY 1; if ack && i2cWired s then s else i2cNack s) s

/-- A byte is written, acknowledged or not. -/
def i2cWrite (ack : Bool) (s : State) : State := i2cRun 2 (fun _ s => if ack && i2cWired s then s else i2cNack s) s

/-- A byte is read into SER_IRX. -/
def i2cRead (d : Byte) (s : State) : State :=
  i2cRun 3 (fun _ s => (s.set F.SER_IRX_DATA (if i2cWired s then d.toNat else 255)).set F.SER_IRX_VALID 1) s

/-- STOP is sent. -/
def i2cStop (s : State) : State := i2cRun 4 (fun _ s => s.set F.SER_ISTAT_BUSY 0) s

/-- Arbitration is lost (R368): another controller has the bus. -/
def i2cArbLost (s : State) : State :=
  if s.on F.SER_ICTL_CEN && s.on F.SER_ISTAT_BUSY then i2cFifo [] (i2cSticky 1 s) else s

/-- Another controller's START and STOP show in BUSY (R371). -/
def i2cBus (a : I2cAccess) (s : State) : State :=
  match a with
  | .start _ _ => s.setB F.SER_ISTAT_BUSY (i2cWired s)
  | .stop => s.set F.SER_ISTAT_BUSY 0
  | _ => s

/-- An access to the port as target (R369): SCL is stretched until ITDATA is written for a host read, or read after a host
write. -/
def i2cTarget (a : I2cAccess) (s : State) : State :=
  let s := i2cBus a s
  if !s.on F.SER_ICTL_TEN || !i2cWired s then s
  else match a with
    | .start addr rd =>
      if addr.toNat = s.get F.SER_ICTL_TADDR then
        let s := { s with i2c := { s.i2c with sel := true, selRead := rd, ready := false } }
        let s := i2cSticky 2 s
        if rd then i2cSticky 4 s else s
      else { s with i2c := { s.i2c with sel := false } }
    | .byteIn d =>
      if s.i2c.sel && !s.i2c.selRead && !s.i2c.full then
        i2cSticky 5 ({ s with i2c := { s.i2c with full := true } }.set F.SER_ITDATA_DATA d.toNat)
      else s
    | .byteOut =>
      if s.i2c.sel && s.i2c.selRead && s.i2c.ready then
        i2cSticky 4 ({ s with i2c := { s.i2c with ready := false } }.answer (s.get F.SER_ITDATA_DATA))
      else s
    | .stop => if s.i2c.sel then i2cSticky 3 { s with i2c := { s.i2c with sel := false } } else s

/-- A write of SER_ICMD (R368). -/
def i2cCmd (w : Word) (s : State) : Ans × State :=
  let op := fieldOf 0 4 w
  if op = 0 ∨ 4 < op then (.refused .deny, s)
  else if 4 ≤ s.i2c.cmd.length then (.refused .busy, s)
  else (.ok 0#64, i2cFifo (s.i2c.cmd ++ [fieldOf 0 24 w]) s)

/-- nSS rises in the middle of a byte (R370). -/
def hostAbort (s : State) : State :=
  if s.on F.SYS_STRAP_HEAD && hostWired s then ((s.set F.SER_HSTAT_ABORT 1).set F.SER_HSTAT_SELECTED 0).raise 0x7F else s

/-- The owner of the serial port of register `a` (R371). -/
def serOwner (a : Nat) (s : State) : Nat :=
  if a < 0x5000E100 then s.get F.SER_OWN_UART0
  else if a < 0x5000E200 then s.get F.SER_OWN_UART1
  else if a < 0x5000E300 then s.get F.SER_OWN_I2C
  else s.get F.SER_OWN_HOST

/-- Special writes of the serial block; none where the register tables decide. -/
def serWrite (cid a : Nat) (w : Word) (s : State) : Option (Ans × State) :=
  if a < 0x5000E000 ∨ 0x5000E400 ≤ a then none
  else if a = 0x5000E3F0 then if s.bootLock ∨ !isZeroOne cid then some (.refused .deny, s) else none
  else if !isZeroOne cid && cid != serOwner a s then some (.refused .deny, s)
  else if 0x5000E300 ≤ a ∧ !s.on F.SYS_STRAP_HEAD then some (.ok 0#64, s)
  else if a < 0x5000E200 then
    let u := (a - 0x5000E000) / 0x100
    let k := a % 0x100
    if k = 8 then some (uartPush u (fieldOf 0 9 w) s)
    else if k = 0 then some (.ok 0#64, uartEvents u (uartDrive u (s.ua u) (s.setWord (R.SER_UuCTL u) (w &&& 0xFFFF#32))))
    else if k = 0x10 then some (.ok 0#64, uartEvents u (s.setWord (R.SER_UuWM u) (w &&& 0xF0F#32)))
    else none
  else if a = 0x5000E208 then some (i2cCmd w s)
  else if a = 0x5000E214 then
    some (.ok 0#64, { s with i2c := { s.i2c with ready := true } }.set F.SER_ITDATA_DATA (fieldOf 0 8 w))
  else none

/-- Special reads of the serial block. The host port of a unit that is not the head reads 0 (R370). -/
def serRead (a : Nat) (s : State) : Option (Word × State) :=
  if a = 0x5000E008 then some (uartPop 0 s)
  else if a = 0x5000E108 then some (uartPop 1 s)
  else if a = 0x5000E214 then some (s.word R.SER_ITDATA, { s with i2c := { s.i2c with full := false } })
  else if 0x5000E300 ≤ a ∧ a < 0x5000E3F0 ∧ !s.on F.SYS_STRAP_HEAD then some (0#32, s)
  else none

/-- TB12 loses lock (R372): every enabled port clears EN, abandons its byte and raises its error event. -/
def serialLockLoss (s : State) : State :=
  let s := forEach 2 (fun u s =>
    if s.on (F.SER_UuCTL_EN u) then
      let s := s.set (F.SER_UuCTL_EN u) 0
      (s.setUa u { s.ua u with tx := (s.ua u).tx.drop 1, de := false }).raise (0x7A + 3 * u)
    else s) s
  let s :=
    if s.on F.SER_ICTL_CEN || s.on F.SER_ICTL_TEN then
      let s := (s.set F.SER_ICTL_CEN 0).set F.SER_ICTL_TEN 0
      { s with i2c := { s.i2c with sel := false } }.raise 0x7E
    else s
  if s.on F.SYS_STRAP_HEAD then (s.set F.SER_HSTAT_SELECTED 0).raise 0x7F else s

end Sys2Proof.Machine
end

