-- ==== Sys2Proof/Machine/TimeOps.lean ====
section
/-!
DEFINITION. The reference monitor, switchover and return, lock and loss of lock, and the delay-line calibrators (01).
-/
namespace Sys2Proof.Machine

/-- Update the timebase state. -/
def State.updTb (s : State) (f : Tb → Tb) : State := { s with tb := f s.tb }

/-- The primary in use (R21, R38): RC where REFSEL or REFKHZ is refused. A head that has yielded acts as a non-head (R397). -/
def primary (s : State) : Nat :=
  let r := s.get F.TB_REFCTL_REFSEL
  let k := s.get F.TB_REFCTL_REFKHZ
  if r = 3 ∧ isHead s then 2
  else if r = 1 ∧ (k < 1000 ∨ 50000 < k) then 2
  else if r = 0 ∧ (k < 8000 ∨ 32000 < k) then 2
  else r

/-- The received cell rate in kHz (R374): RXRATE 0, 1, 2 are 50, 25, 12.5 Mbit/s. -/
def cellRate (s : State) : Nat := 50000 / 2 ^ s.get (F.CHN_pSTAT_RXRATE 0)

/-- The frequency of source `r` in kHz (R38). -/
def sourceKhz (r : Nat) (s : State) : Nat :=
  if r = 2 then 16000 else if r = 3 then cellRate s else s.get F.TB_REFCTL_REFKHZ

/-- The fine yardstick is in use (R23, R31, R514): CHAINOK = 1, the primary is not CHAIN, and no fallback but CHAIN drives TB0. The
monitor's text names CHAINOK alone; with RC as the fallback the model is coarse, as R31 says (DEDUCED, assumption log 26). -/
def fineInUse (s : State) : Bool :=
  s.on F.TB_REFSTAT_CHAINOK && primary s != 3 &&
    (s.get F.TB_REFSTAT_CURSRC == primary s || s.get F.TB_REFSTAT_CURSRC == 3)

/-- TB_REFSTAT.FINE shows which yardstick is in use (R23). -/
def fineShow (s : State) : State := s.setB F.TB_REFSTAT_FINE (fineInUse s)

/-- The nominal ratio in 8.24 fixed point (01, R514). -/
def nominalRatio (s : State) : Nat := sourceKhz (primary s) s * 2 ^ 24 / 16000

/-- Does the primary drive TB0? -/
def primaryDrives (s : State) : Bool := s.get F.TB_REFSTAT_CURSRC == primary s && !s.tb.noSource

/-- The return count restarts (R30). -/
def retReset (s : State) : State :=
  ((s.updTb (fun t => { t with retMs := 0, retReady := false, retZero := false })).set F.TB_REFSTAT_RETWAIT 0).set
    F.TB_REFSTAT_RETCNT 0

/-- FINEBACK (R512): once every group that can set FINE again has set it. -/
def fineBack (s : State) : State :=
  if s.tb.backWait && (List.range 5).all (fun g =>
      s.bit F.TB_DLSTAT_FINE g ||
      match s.tb.cal.toList[g]? with
      | some c => c.dead || (!s.bit F.TB_DLSTAT_SPAREOK g && !c.lost)
      | none => true) then
    (s.updTb (fun t => { t with backWait := false })).tbEvent 5
  else s

/-- FINE clears in every calibration group, with FINELOSS where one was set (R27 step 2, R19, R512). Rotations end; no spare calibrated
before the relock counts in the next. -/
def clearFine (s : State) : State :=
  let had := s.get F.TB_DLSTAT_FINE
  let s := s.updTb (fun t => { t with
    cal := t.cal.mapIdx (fun g c => { c with rotLeft := 0, spareReady := false, lost := c.lost || natBit had g })
    backWait := t.backWait || had != 0 })
  let s := s.set F.TB_DLSTAT_FINE 0
  if had = 0 then s else s.tbEvent 4

/-- Tj and VCORE as a calibration sees them. -/
def calNow (s : State) : CalPoint := { tj := tempOf s, vcore := s.gov.vcore }

/-- Is the window of R32 kept, from calibration `p` to now? -/
def calInside (n p : CalPoint) : Bool :=
  decide ((n.tj - p.tj).natAbs ≤ 40) && decide (((n.vcore : Int) - p.vcore).natAbs ≤ 50)

/-- The index of a calibration group, from any number. -/
def calIx (g : Nat) : Fin 5 := ⟨g % 5, Nat.mod_lt _ (by decide)⟩

def State.updCal (s : State) (g : Nat) (f : CalGroup → CalGroup) : State :=
  s.updTb (fun t => { t with cal := vupd t.cal (calIx g) f })

/-- A group that has stopped rotating sets FINE without a rotation where its lines are inside the window, and otherwise never
until reset (R36). -/
def calResume (g : Nat) (s : State) : State :=
  let c := s.tb.cal.get (calIx g)
  if c.dead || !c.lost then s
  else if c.lines.all (calInside (calNow s)) then (s.updCal g (fun c => { c with lost := false })).setBit F.TB_DLSTAT_FINE g true
  else s.updCal g (fun c => { c with dead := true })

/-- TB13 has locked or relocked (R35, R27 step 6, R19, R36): each rotating group must run a full rotation of its lines and its
spare; a stopped one acts under R36. -/
def startRotation (s : State) : State :=
  fineBack (forEach 5 (fun g s =>
    if s.bit F.TB_DLSTAT_SPAREOK g then
      if s.bit F.TB_DLSTAT_FINE g then s
      else s.updCal g (fun c => { c with rotLeft := c.lines.length + 1, spareReady := false })
    else calResume g s) s)

/-- The spare of group `g` is calibrated, or its calibration fails (R32, R36). Calibrators need TB13. -/
def calDone (g : Nat) (ok : Bool) (s : State) : State :=
  let c := s.tb.cal.get (calIx g)
  if !s.bit F.TB_LOCK 13 || !s.bit F.TB_DLSTAT_SPAREOK g || c.spareReady then s
  else if ok then s.updCal g (fun c => { c with spare := calNow s, spareReady := true })
  else
    let s := (s.setBit F.TB_DLSTAT_SPAREOK g false).tbEvent 6
    if c.rotLeft = 0 then s
    else fineBack (calResume g (s.updCal g (fun c => { c with rotLeft := 0 })))

/-- Has the line that serves place `pos` of group `g` an edge or a trigger pending, or one due in this or the next coarse tick (R33)?
Groups 0 and 1 serve the outputs HS and LS of their legs in turn; groups 2 and 3 their trigger lines, in the order of R314; the
stamp interpolators of group 4 have no schedule. -/
def lineBusy (g pos : Nat) (s : State) : Bool :=
  if g < 2 then
    let l := 8 * g + pos / 2 % 8
    let tick := groupNow (legGroup l s) s / 256 + 1
    (s.leg l).edges.any (fun e => (e.out == if pos % 2 = 0 then LegOut.hs else .ls) && decide (e.at_ / 256 ≤ tick))
  else if g < 4 then
    let tick := if g = 2 then s.tb.cnt.get 1 else s.tb.cnt.get 2
    decide (pos < (trigLine (g - 2) tick s).length ∨ pos < (trigLine (g - 2) (tick + 1) s).length)
  else false

/-- The calibrated spare of group `g` replaces the line calibrated longest ago (R33), which waits while that line is busy; the schedule
stays with the output. The last swap of a full rotation sets FINE (R35). No line is swapped while TB13 is out of lock (R19). -/
def lineSwap (g : Nat) (s : State) : State :=
  let c := s.tb.cal.get (calIx g)
  match c.lines with
  | [] => s
  | old :: rest =>
    if !c.spareReady || !s.bit F.TB_LOCK 13 || lineBusy g c.pos s then s
    else
      let s := s.updCal g (fun c => { c with lines := rest ++ [c.spare], spare := old, spareReady := false,
                                             pos := (c.pos + 1) % (rest.length + 1), rotLeft := c.rotLeft - 1 })
      if c.rotLeft = 1 then fineBack ((s.updCal g (fun c => { c with lost := false })).setBit F.TB_DLSTAT_FINE g true) else s

/-- Tj or VCORE has moved (R36): a stopped group with a line outside the window loses FINE until reset. -/
def calEnvironment (s : State) : State :=
  let n := calNow s
  let out := (List.range 5).filter (fun g =>
    !s.bit F.TB_DLSTAT_SPAREOK g && s.bit F.TB_DLSTAT_FINE g && !(s.tb.cal.get (calIx g)).lines.all (calInside n))
  if out.isEmpty then s
  else (out.foldl (fun s g => (s.setBit F.TB_DLSTAT_FINE g false).updCal g (fun c => { c with dead := true })) s).tbEvent 4

/-- BAND becomes LOST (R22, R516): counted, with TB_EVT.LOST; the trim ends and any return count restarts. -/
def enterLost (s : State) : State :=
  let s := retReset s
  if s.get F.TB_REFSTAT_BAND = 2 then s
  else
    let s := (s.set F.TB_REFSTAT_BAND 2).count F.TB_LOSTCNT_LOST
    let s := (s.updTb (fun t => { t with trim := 0, trimOff := false })).set F.TB_REFSTAT_TRIM 0
    s.tbEvent 1

/-- Step 4 of R27: TB0 switches to source `src`; RC is corrected by the ratio held now (R28). -/
def takeSource (src : Nat) (s : State) : State :=
  let s := s.updTb (fun t => { t with noSource := false, fbRatio := if src = 2 then s.get F.TB_RCRATIO else t.fbRatio })
  fineShow ((s.set F.TB_REFSTAT_CURSRC src).tbEvent 2)

/-- The policy triggers once `src` drives TB0 after a LOST (R440): REFCHAIN or REFRC for a fallback, neither for the primary itself. -/
def lossPolicy (src : Nat) (s : State) : State :=
  if src = primary s then polUpdate (polMark 1 false (polMark 0 false s))
  else if src = 3 then polSet 0 true s
  else polUpdate (polMark 1 true (polMark 0 false s))

/-- A source is there again. Where none was left (R25), the one that drove TB0 last goes on without a switchover, and another is taken as
in step 4 of R27 (DEDUCED, assumption log 61). -/
def sourceBack (src : Nat) (s : State) : State :=
  if !s.tb.noSource then s
  else if s.get F.TB_REFSTAT_CURSRC = src then s.updTb (fun t => { t with noSource := false })
  else lossPolicy src (takeSource src s)

/-- The switchover of R27 from the source driving TB0, steps 1 to 4 with the policy action of step 3. `prim`: the lost source is
the primary; the loss of a fallback raises TB_EVT.LOST and leaves the primary's BAND (DEDUCED, assumption log 62). With no source left TB0
stays in holdover (R25). -/
def switchover (prim chainloss : Bool) (s : State) : State :=
  let lost := s.get F.TB_REFSTAT_CURSRC
  let s := clearFine (s.set F.TB_REFSTAT_HOLD 1)
  let s := if prim then enterLost s else s.tbEvent 1
  let s := if chainloss then s.tbEvent 8 else s
  let next : Option Nat :=
    if s.on F.TB_REFSTAT_CHAINOK && lost != 3 then some 3
    else if s.tb.rcAlive && lost != 2 then some 2
    else none
  match next with
  | none =>
    let s := s.updTb (fun t => { t with noSource := true })
    if lost = 2 then polSet 1 true s else s
  | some src => lossPolicy src (takeSource src s)

/-- The primary is LOST (R27, R516). -/
def lostPrimary (s : State) : State :=
  if primaryDrives s then switchover true (primary s == 3) s else enterLost s

/-- No edge of RC (R25, R515): TB10 stops; a LOST of TB0 where RC drives it. -/
def rcLost (s : State) : State :=
  let s := s.updTb (fun t => { t with rcAlive := false })
  if primary s = 2 then lostPrimary (s.updTb (fun t => { t with primAlive := false, filter := [], gross := false }))
  else if s.get F.TB_REFSTAT_CURSRC = 2 then switchover false false s
  else s

/-- CHAIN is the primary and has not been available yet: BAND reads UNKNOWN, and nothing of it can be lost (R514). -/
def chainUnseen (s : State) : Bool := primary s == 3 && !s.tb.chainSeen

/-- No primary edge for 2 µs (R22, R513). -/
def missingEdge (s : State) : State :=
  if chainUnseen s then s
  else if primary s = 2 then rcLost s
  else lostPrimary (s.updTb (fun t => { t with primAlive := false, filter := [], gross := false }))

/-- Can the primary be measured at all: not RC against itself (R25), nor without a yardstick (R515)? -/
def hasYardstick (s : State) : Bool := fineInUse s || (primary s != 2 && s.tb.rcAlive)

/-- Error beyond ±5 % over 20 µs (R22, R513). -/
def grossError (s : State) : State :=
  if s.tb.primAlive && hasYardstick s && !chainUnseen s then lostPrimary (s.updTb (fun t => { t with filter := [], gross := true })) else s

/-- The filter starts again and BAND reads UNKNOWN; the baseline takes the nominal ratio (R22, R25). -/
def restartFilter (s : State) : State :=
  let s := retReset (s.updTb (fun t => { t with primAlive := true, filter := [], gross := false }))
  let s := s.set F.TB_REFSTAT_BAND 3
  if primary s = 2 then s else s.set F.TB_RCRATIO (nominalRatio s)

/-- The loops have pulled in to the new TB0 (R27 steps 5 and 6). -/
def loopPullin (s : State) : State :=
  if s.on F.TB_REFSTAT_HOLD && !s.tb.noSource then
    let s := s.set F.TB_REFSTAT_HOLD 0
    if s.bit F.TB_LOCK 13 then startRotation s else s
  else s

/-- CHAIN becomes available (R21, R514): as primary its filter starts again, and the first time TB0 switches to it. -/
def chainUp (s : State) : State :=
  let s := s.set F.TB_REFSTAT_CHAINOK 1
  let first := chainUnseen s
  let s := if primary s = 3 then restartFilter (s.updTb (fun t => { t with chainSeen := true })) else s
  fineShow (if first then (if s.tb.noSource then lossPolicy 3 (takeSource 3 s) else takeSource 3 s) else sourceBack 3 s)

/-- CHAIN is available no more (R27, R296, R514): the trim ends and no carrier is locked to it. A LOST where CHAIN drives TB0. Where CHAIN is
the primary and a fallback drives TB0, the primary is LOST as R516 has it (DEDUCED, assumption log 63). -/
def chainDown (s : State) : State :=
  let s := forEach 4 clDrop (s.set F.TB_REFSTAT_CHAINOK 0)
  let s := fineShow ((s.updTb (fun t => { t with trim := 0, trimOff := false })).set F.TB_REFSTAT_TRIM 0)
  let s := if primary s = 3 ∧ s.tb.chainSeen then s.updTb (fun t => { t with primAlive := false, filter := [], gross := false }) else s
  if s.get F.TB_REFSTAT_CURSRC = 3 then switchover (primary s == 3) true s
  else if primary s = 3 ∧ s.tb.chainSeen then enterLost s
  else s

/-- CHAINOK changes (R21, R514). -/
def setChainok (ok : Bool) (s : State) : State :=
  if s.on F.TB_REFSTAT_CHAINOK = ok then s else if ok then chainUp s else chainDown s

/-- DISC, which is CHAINOK on a unit that is not the head (R430, R21). -/
def setDisc (d : Bool) (s : State) : State :=
  let s := s.setB F.CHN_TSTAT_DISC d
  setChainok (d && !isHead s) s

/-- DISC changes, with bit 3 of CHN_XEVT (R430, R433, R517). -/
def discTo (d : Bool) (s : State) : State :=
  if s.on F.CHN_TSTAT_DISC = d then s else xEvent 3 (setDisc d s)

/-- The error of one measurement in 0.1 ppm (01): fine, or the departure of its ratio from the baseline as it stands now. -/
def measError (base : Nat) (m : Meas) : Int :=
  match m.fine with
  | some e => e
  | none => if base = 0 then 0 else Int.tdiv (((m.ratio : Int) - base) * 10000000) base

/-- The sum of the filter's errors in 0.1 ppm. -/
def filterSum (s : State) : Int := (s.tb.filter.map (measError (s.get F.TB_RCRATIO))).foldl (· + ·) 0

/-- TB_REFERR takes the filtered error, truncated and saturated (R37). -/
def putReferr (s : State) : State :=
  let n := s.tb.filter.length
  let e := if n = 0 then 0 else Int.tdiv (filterSum s) n
  s.setInt F.TB_REFERR_ERR (max (-8388607) (min 8388607 e))

/-- The band of the filtered error, compared exactly with the limits (R22, R23): 0 OK, 1 DRIFT, 2 LOST. -/
def bandOf (s : State) : Nat :=
  let n := s.tb.filter.length
  let a := (filterSum s).natAbs
  if a ≤ n * 1000 * s.get F.TB_BANDS_DRIFTLIM then 0
  else if a ≤ n * 1000 * s.get F.TB_BANDS_LOSTLIM then 1
  else 2

/-- The trim of R26 while in DRIFT: applied where CHAINOK = 1 and the primary drives TB0. -/
def trimUpdate (s : State) : State :=
  if s.on F.TB_REFSTAT_CHAINOK && primaryDrives s && primary s != 3 then
    let e := Int.tdiv (filterSum s) (max 1 s.tb.filter.length)
    (s.updTb (fun t => { t with trim := e.natAbs, trimOff := false })).set F.TB_REFSTAT_TRIM 1
  else s

/-- A recomputation reports band `b` (R26, R30, R440). -/
def setBand (b : Nat) (s : State) : State :=
  let old := s.get F.TB_REFSTAT_BAND
  if b = 2 then (if old = 2 then s else lostPrimary s)
  else
    let s := s.set F.TB_REFSTAT_BAND b
    if b = 1 then
      trimUpdate (if old = 1 then s else retReset ((s.count F.TB_LOSTCNT_DRIFT).tbEvent 0))
    else if old = 0 then s
    else
      let s := if primary s = 2 ∧ primaryDrives s then polSet 1 false s else s
      if s.on F.TB_REFSTAT_TRIM && !s.on F.TB_REFCTL_TRIMOK then s.updTb (fun t => { t with trimOff := true }) else s

/-- The baseline follows the primary while it is OK (01): to a fine measurement at once, else by at most a ten-millionth each
millisecond. -/
def followBaseline (m : Meas) (s : State) : State :=
  let b := s.get F.TB_RCRATIO
  if s.get F.TB_REFSTAT_BAND ≠ 0 ∨ primary s = 2 ∨ !s.tb.rcAlive then s
  else if m.fine.isSome then s.set F.TB_RCRATIO m.ratio
  else
    let step := b / 10000000
    s.set F.TB_RCRATIO (if b ≤ m.ratio then min m.ratio (b + step) else max m.ratio (b - step))

/-- One millisecond of the return count (R30): it runs while a fallback drives TB0, AUTORET is 1 and the primary is OK, from the
recomputation that found it OK. -/
def retTick (s : State) : State :=
  if s.get F.TB_REFSTAT_BAND = 0 ∧ s.on F.TB_REFCTL_AUTORET ∧ !primaryDrives s ∧ !s.tb.noSource then
    let s := s.updTb (fun t => { t with retMs := if s.on F.TB_REFSTAT_RETWAIT then t.retMs + 1 else 0 })
    (s.set F.TB_REFSTAT_RETWAIT 1).set F.TB_REFSTAT_RETCNT (min 1023 (s.tb.retMs / 10))
  else s

/-- The end of a 1 ms interval (R513): `ratio` is the RC period measured in primary-source units, `err` the error against chain
time in 0.1 ppm. Without a yardstick nothing is measured (R515), but for RC as primary, whose filter fills (R25). -/
def recompute (ratio : Nat) (err : Int) (s : State) : State :=
  if !s.tb.primAlive ∨ chainUnseen s ∨ (primary s ≠ 2 ∧ !hasYardstick s) then s
  else
    let m : Meas := { ratio := ratio, fine := if fineInUse s then some err else none }
    let fill := s.get F.TB_REFSTAT_BAND = 3 ∨ s.tb.gross
    let s := s.updTb (fun t => { t with filter := (t.filter ++ [m]).drop (t.filter.length - 99) })
    let n := s.tb.filter.length
    if fill ∧ n < 100 then putReferr s
    else
      let s := if s.get F.TB_REFSTAT_BAND = 3 ∧ primary s ≠ 2 ∧ s.tb.rcAlive then
          s.set F.TB_RCRATIO ((s.tb.filter.map Meas.ratio).foldl (· + ·) 0 / n)
        else s
      let s := putReferr (s.updTb (fun t => { t with gross := false }))
      let s := setBand (if primary s = 2 ∧ !fineInUse s then 0 else bandOf s) s
      retTick (followBaseline m s)

/-- The slew that removes the trim finishes (R26). -/
def trimDone (s : State) : State :=
  if s.tb.trimOff then (s.updTb (fun t => { t with trim := 0, trimOff := false })).set F.TB_REFSTAT_TRIM 0 else s

/-- Is the carrier of group REFSYNC running (R30)? -/
def syncRunning (s : State) : Bool :=
  let g := s.get F.TB_REFCTL_REFSYNC
  s.on (F.PWM_GSTAT_RUN (gb g) (gi g))

/-- The return count has reached RETDLY (R30). -/
def retdlyExpire (s : State) : State :=
  if s.on F.TB_REFSTAT_RETWAIT ∧ s.on F.TB_REFCTL_AUTORET ∧ 10 * s.get F.TB_BANDS_RETDLY ≤ s.tb.retMs then
    s.updTb (fun t => { t with retReady := true, retZero := !syncRunning s })
  else s

/-- The primary returns (R30), at the zero event of group REFSYNC or at once where that carrier does not run. -/
def primaryReturn (s : State) : State :=
  if s.tb.retReady ∧ (s.tb.retZero ∨ !syncRunning s) then
    let s := fineShow ((retReset s).set F.TB_REFSTAT_CURSRC (primary s))
    polUpdate (polMark 1 false (polMark 0 false (s.tbEvent 3)))
  else s

/-- RC resumes (R25). -/
def rcReturn (s : State) : State :=
  if s.tb.rcAlive then s
  else
    let s := s.updTb (fun t => { t with rcAlive := true })
    sourceBack 2 (if primary s = 2 then restartFilter s else s)

/-- A stopped primary's edges resume (R513); RC as primary resumes as R25 has it. -/
def primaryRestart (s : State) : State :=
  if primary s = 2 then rcReturn s
  else if s.tb.primAlive then s
  else sourceBack (primary s) (restartFilter s)

/-- Timebase `n` loses lock (R19); TB10 is the RC itself and has none to lose. TB6 does not count until it locks again (DEDUCED, assumption
log 64). -/
def loseLock (n : Nat) (s : State) : State :=
  if n = 10 ∨ 13 < n ∨ !s.bit F.TB_LOCK n then s
  else
    let s := (s.setBit F.TB_LOCK n false).setBit F.TB_LOCKLOSS n true
    let s := match n with
      | 1 => legsFault (fun l => decide (l < 8)) 5 s
      | 2 => legsFault (fun l => decide (8 ≤ l)) 5 s
      | 6 => discTo false (s.updTb (fun t => { t with counting := false }))
      | 9 => tslStopAll 6 s
      | 12 => serialLockLoss s
      | 13 => clearFine s
      | _ => s
    s.faultEval

/-- Timebase `n` reaches lock (R18, R511, R19): TB6 counts from then on; TB13 starts the rotations. -/
def gainLock (n : Nat) (s : State) : State :=
  if 13 < n ∨ n = 10 ∨ s.tb.noSource then s
  else
    let s := s.setBit F.TB_LOCK n true
    match n with
    | 6 =>
      let s := s.updTb (fun t => { t with counting := true })
      if isHead s then discTo true s else s
    | 13 => startRotation s
    | _ => s

/-- No source within 1 ms (R25): every timebase except TB10 loses lock. -/
def holdoverExpire (s : State) : State :=
  if s.tb.noSource then forEach 14 loseLock s else s

/-- The reference configuration takes effect (R20, R21, R38): CFGERR where it is refused. -/
def refConfig (s : State) : State :=
  let s := if primary s ≠ s.get F.TB_REFCTL_REFSEL then s.tbEvent 7 else s
  let p := primary s
  let s := s.set F.TB_REFSTAT_CURSRC (if p = 3 ∧ !s.on F.TB_REFSTAT_CHAINOK then 2 else p)
  let s := s.updTb (fun t => { t with chainSeen := p == 3 && s.on F.TB_REFSTAT_CHAINOK })
  restartFilter (fineShow s)

/-- TB_BANDS at boot lock (R39). -/
def bandsCheck (s : State) : State :=
  let d := s.get F.TB_BANDS_DRIFTLIM
  let l := s.get F.TB_BANDS_LOSTLIM
  let r := s.get F.TB_BANDS_RETDLY
  if (5 ≤ d ∧ d ≤ 99) ∧ (d + 1 ≤ l ∧ l ≤ 200) ∧ (10 ≤ r ∧ r ≤ 255) then s
  else (s.setWord R.TB_BANDS 0x326419#32).tbEvent 7

/-- A read of TB_TIMELO (R37). -/
def timeloRead (s : State) : Word × State :=
  (BitVec.ofNat 32 (s.tb.time % 2 ^ 32), s.set F.TB_TIMEHI (s.tb.time / 2 ^ 32))

/-- The rate of timebase `n` in kHz (R17). -/
def tbKhz (n : Nat) (s : State) : Nat :=
  match n with
  | 0 => sourceKhz (s.get F.TB_REFSTAT_CURSRC) s
  | 1 => 200000 | 2 => 200000 | 3 => 80000 | 6 => 125000 | 10 => 16000 | 12 => 96000 | 13 => 400000
  | _ => 100000

/-- One nanosecond of the timebases: each that ticks advances its count (R17); TB6 counts nanoseconds (R511). Answers whether
TB10 ticked. -/
def tbTick (s : State) : State × Bool :=
  let t := s.tb
  let run := fun (n : Nat) => if n = 10 then t.rcAlive else s.bit F.TB_LOCK n
  let frac := t.frac.mapIdx (fun n f => if run n then f + tbKhz n s else f)
  let cnt := t.cnt.mapIdx (fun n c => match frac.toList[n]? with
    | some f => c + f / 1000000
    | none => c)
  let w := (frac.toList.getD 10 0) / 1000000 != 0
  ({ s with tb := { t with frac := frac.map (· % 1000000), cnt := cnt,
                           time := if t.counting then (t.time + 1) % 2 ^ 64 else t.time } }, w)

end Sys2Proof.Machine
end

