-- ==== Sys2Proof/Machine/ChainTxn.lean ====
section
/-!
DEFINITION. Chain transactions: requests and their responses, serving requests at port B, remote semaphore results and messages
(R407 to R420).
-/
namespace Sys2Proof.Machine

def recIx (n : Nat) : Fin 32 := ⟨n % 32, Nat.mod_lt _ (by decide)⟩

/-- The receive slots of a port; port 2 is the host port (R426). -/
def slotsOf (p : Nat) (s : State) : List Slot := if p = 2 then s.chn.hostIn else (s.port (portIx p)).slots
def setSlots (p : Nat) (l : List Slot) (s : State) : State :=
  if p = 2 then { s with chn := { s.chn with hostIn := l } }
  else s.setPort (portIx p) { s.port (portIx p) with slots := l }

/-- A slot of class `c` is released (R387). -/
def releaseClass (p c : Nat) (s : State) : State :=
  if p = 2 then s
  else
    let x := s.port (portIx p)
    s.setPort (portIx p) { x with rel := x.rel.set! c ((x.rel.toList.getD c 0 + 1) % 8) }

/-- The oldest frame of a class and type still to be acted on at a port. -/
def slotFind (p cls typ : Nat) (s : State) : Option Slot :=
  (slotsOf p s).find? (fun x => x.dlv && x.f.cls == cls && x.f.typ == typ)

/-- The slot's frame has been acted on: the slot is released unless the frame is still to be forwarded. -/
def slotDone (p : Nat) (x : Slot) (s : State) : State :=
  if x.fwd.isSome then
    setSlots p ((slotsOf p s).replace x { x with dlv := false }) s
  else releaseClass p x.f.cls (setSlots p ((slotsOf p s).erase x) s)

/-- Take the oldest frame of a class and type and act on it; with none waiting, nothing happens. -/
def onFrame (p cls typ : Nat) (act : Frame → State → State) (s : State) : State :=
  match slotFind p cls typ s with
  | some x => act x.f (slotDone p x s)
  | none => s

/-- UNKTYPE counts a discarded frame (R390, R404). -/
def unkType (p : Nat) (s : State) : State := if p = 2 then s else s.count (F.CHN_pDROP_UNKTYPE p)

/-- An entry of CHN_TXERRLOG (R410, R415, R433). -/
def txErr (off dst cid code kind : Nat) (s : State) : State :=
  let e := s.get F.CHN_TXERRHEAD_NEXT
  let s := (s.set (F.CHN_TXERRA_OFFSET e) off).set (F.CHN_TXERRA_DST e) dst
  let s := s.setWord (R.CHN_TXERRB e) (BitVec.ofNat 32 (cid + 256 * code + 4096 * kind + 0x80000000))
  xEvent 0 (s.set F.CHN_TXERRHEAD_NEXT (e + 1))

/-- The checks before a request to unit n: the code of the first row that holds (R410). -/
def issueCheck (n : Nat) (s : State) : Option Nat :=
  if quarantined s ∨ ownAddr s = 0 then some 7
  else if inMap (lostMap s) n && !inMap (reachMap s) n then some 11
  else if n = 0 ∨ s.get F.CHN_ADDR_NUNITS < n ∨ !inMap (reachMap s) n then some 9
  else none

/-- The chain engine's read of word `j` of buffer `i` by its own path (R279): a refused read gives 0 (R92). -/
def bufWord (who : Who) (i j : Nat) (s : State) : Nat × State :=
  let a := 0x43000000 + 64 * i + 4 * j
  match ramReadSmall who 0 a 4 s with
  | (.ok d, s) => (d.toNat, s)
  | (.refused c, s) => (0, busErr who false a c s)

/-- The 64 bytes of a buffer, read so. -/
def bufGet (who : Who) (i : Nat) (s : State) : List Byte × State :=
  (List.range 16).foldl (fun p j => let r := bufWord who i j p.2; (p.1 ++ leBytes 4 r.1, r.2)) ([], s)

/-- The chain engine's copy of a payload into a buffer by its own path (R279, R233, R252). -/
def bufPut (who : Who) (i : Nat) (d : List Byte) (s : State) : State :=
  (List.range 16).foldl (fun s j =>
    let b := (d.drop (4 * j)).take 4
    let a := 0x43000000 + 64 * i + 4 * j
    if b.isEmpty then s
    else match ramWriteSmall who a b.length (leNat b) s with
      | (.ok _, s) => s
      | (.refused c, s) => busErr who true a c s) s

/-- One MDATA of a message (R420 step 2): buffer `i`, the last one with FLAG, read in the name of the sending CID (assumption log 69). -/
def sendData (f : Frame) (cid : Nat) (i : Nat) (last : Bool) (s : State) : State :=
  let r := bufGet { cid := cid } i s
  chainSend { f with typ := 2, flag := last, data := r.1 } r.2

/-- The frames of a request leave. -/
def sendReq (r : Req) (flag : Bool) (s : State) : State :=
  let f := { r.f with flag := flag }
  let s := chainSend f s
  if r.by_ = .msg then
    match s.chn.msgOut.find? (fun m => m.rec_ == r.f.tag % 32) with
    | some m =>
      let bufs := chain (m.handle % 512) s
      bufs.zipIdx.foldl (fun s b => sendData f m.cid b.1 (b.2 + 1 == bufs.length) s) s
    | none => s
  else s

/-- A request is issued: a response buffer is reserved, a free TAG taken and the frame sent (R410, R411); with 32 outstanding it
waits (R288). -/
def startReq (q : Plan) (s : State) : State :=
  match (List.range 32).find? (fun i => (s.chn.reqs.get (recIx i)).isNone), poolReserve q.cid s with
  | some i, (some b, s) =>
    let tag := i + 32 * (s.chn.uses.get (recIx i) % 4)
    let r : Req := { f := { q.f with tag := tag }, by_ := q.by_, off := q.off, cid := q.cid, kind := q.kind, take := q.take, buf := b,
                     tries := s.get F.CHN_TRCFG0_RETRIES, due := rspDue s }
    let mo := if q.by_ = .msg then s.chn.msgOut.map (fun m => if m.rec_ = 32 then { m with rec_ := i } else m) else s.chn.msgOut
    let s := { s with chn := { s.chn with reqs := s.chn.reqs.set (recIx i).val (some r) (recIx i).isLt, msgOut := mo } }
    sendReq r false (s.set F.CHN_TXSTAT_OUTST (s.get F.CHN_TXSTAT_OUTST + 1))
  | _, _ => { s with chn := { s.chn with waitQ := s.chn.waitQ ++ [q] } }

/-- A result for CHN_MSGRES (R420 step 6, R433); a ninth finds no place and is lost. -/
def msgResult (handle code cid : Nat) (s : State) : State :=
  let s := if s.chn.msgRes.length < 8 then
    { s with chn := { s.chn with msgRes := s.chn.msgRes ++ [⟨handle, code, cid⟩] } } else s
  xEvent 1 s

/-- A message ends at its sender: on success its chain is freed, else it returns to the sending CID (R420). -/
def msgEnd (m : MsgOut) (code : Nat) (s : State) : State :=
  let c := chain (m.handle % 512) s
  let s := { s with chn := { s.chn with msgOut := s.chn.msgOut.erase m } }
  let s := if code = 0 then moveAll freed c s else moveAll (fun b => { b with st := .owned, owner := m.cid }) c s
  msgResult m.handle code m.cid s

/-- An open request ends (R411, R412): with the data of its response, or with a code of R415. Its reservation is released, its use
count advances, who waits is told (a refused access is logged, R92, R93), and a waiting request may go. -/
def endReq (i : Nat) (res : Except Nat DWord) (s : State) : State :=
  match s.chn.reqs.get (recIx i) with
  | none => s
  | some r =>
    let s := { s with chn := { s.chn with
      reqs := s.chn.reqs.set (recIx i).val none (recIx i).isLt
      uses := vupd s.chn.uses (recIx i) (fun u => (u + 1) % 4) } }
    let s := poolRelease r.buf (s.set F.CHN_TXSTAT_OUTST (s.get F.CHN_TXSTAT_OUTST - 1))
    let s :=
      if r.by_ = .msg then
        match s.chn.msgOut.find? (fun m => m.rec_ == i) with
        | some m => msgEnd m (match res with
          | .ok _ => 0
          | .error c => c) s
        | none => s
      else match res with
        | .ok d => { s with chn := { s.chn with done := s.chn.done ++ [(r.by_, some d)] } }
        | .error c =>
          let s := txErr r.off r.f.dst r.cid c r.kind s
          let write := r.kind = 1 ∨ r.kind = 3 ∨ (r.kind = 2 ∧ (r.f.at_ 0 1 ≠ 0 ∨ r.take))
          let s := busErr { cid := r.cid } write (0x60000000 + (r.f.dst - 1) * 0x8000 + r.off) .remote s
          { s with chn := { s.chn with done := s.chn.done ++ [(r.by_, none)] } }
    match s.chn.waitQ with
    | [] => s
    | q :: qs => startReq q { s with chn := { s.chn with waitQ := qs } }

/-- A response counts as STALE (R411). -/
def staleResp (s : State) : State := s.count F.CHN_TXSTAT_STALE

/-- The open request that a response answers (R411). -/
def answered (f : Frame) (s : State) : Option Req :=
  match s.chn.reqs.get (recIx f.tag) with
  | some r => if r.f.tag = f.tag % 128 ∧ f.tag < 128 ∧ r.f.dst = f.src then some r else none
  | none => none

/-- Does this unit's RSP type answer the request (R407)? -/
def answers (typ : Nat) (f : Frame) (r : Req) : Bool :=
  if typ = 6 then true
  else if r.f.cls = 2 then typ == 2
  else match r.f.typ with
    | 1 => typ == 1 && f.data.length == 2 ^ (r.f.at_ 2 1 % 4)
    | 2 => typ == 2
    | 3 => typ == 3
    | _ => typ == 2

/-- The result of a semaphore operation on another unit: a TAKE of a CID that already waits finds INWAIT where no unit is free (R262). -/
def remoteAnswer (r : Req) (res : Nat) (s : State) : State :=
  let k := 96 + r.f.at_ 1 1
  let op := r.f.at_ 0 1
  if r.take then
    if res = 3 then remoteResult r.f.dst k r.cid 6 (semLog k r.cid 0 6 s) else remoteResult r.f.dst k r.cid res s
  else if op = 0 ∨ (op = 2 ∧ res = 10) then remoteNote r.f.dst k r.cid res s
  else remoteResult r.f.dst k r.cid res s

/-- RDRSP, ACK, SEMRSP and ERR at the requester (R411, R415): the payload lands in the reserved buffer (R279, R288). -/
def onResponse (f : Frame) (s : State) : State :=
  match answered f s with
  | none => staleResp s
  | some r =>
    if !answers f.typ f r then staleResp s
    else
      let i := f.tag % 32
      let s := bufPut { cid := r.cid } r.buf f.data s
      if f.typ = 6 then endReq i (.error (f.at_ 0 1)) s
      else if f.typ = 3 then
        remoteAnswer r (f.at_ 0 4 % 16) (endReq i (.ok (BitVec.ofNat 64 (f.at_ 0 4))) s)
      else endReq i (.ok (BitVec.ofNat 64 (leNat f.data))) s

/-- RESPONSE_TIMEOUT (R412), once RSPTO has passed: the request is sent again, or ends with TIMEOUT. -/
def respTimeout (i : Nat) (s : State) : State :=
  match s.chn.reqs.get (recIx i) with
  | none => s
  | some r =>
    if s.now < r.due then s
    else if r.tries = 0 then endReq i (.error 10) s
    else
      let r' := { r with tries := r.tries - 1, due := rspDue s }
      sendReq r' true { s with chn := { s.chn with reqs := s.chn.reqs.set (recIx i).val (some r') (recIx i).isLt } }

/-- A timeout of a request of the host (R412, R426). -/
def hostTimeout (tag : Nat) (s : State) : State :=
  match s.chn.hostReqs.find? (fun e => e.1.tag == tag) with
  | none => s
  | some e =>
    let rest := s.chn.hostReqs.erase e
    if s.now < e.2.2 then s
    else if e.2.1 = 0 then
      hostPut { cls := 1, dst := 1, typ := 6, src := e.1.dst, tag := tag, data := [10#8, BitVec.ofNat 8 e.1.typ, 0#8, 0#8] }
        { s with chn := { s.chn with hostReqs := rest } }
    else chainSend { e.1 with flag := true } { s with chn := { s.chn with hostReqs := rest ++ [(e.1, e.2.1 - 1, rspDue s)] } }

/-- Every open request to unit n ends with LOST (R412, R399, R400); SEMEVTs to it are abandoned. -/
def endRequestsTo (n : Nat) (s : State) : State :=
  let s := forEach 32 (fun i s => match s.chn.reqs.get (recIx i) with
    | some r => if r.f.dst = n then endReq i (.error 11) s else s
    | none => s) s
  { s with chn := { s.chn with events := s.chn.events.filter (fun e => e.dst != n) } }

-- Issuing (R408, R409)

/-- A request, or its refusal (R410). Answers whether it was sent or waits. -/
def issuePlan (q : Plan) (s : State) : Bool × State :=
  match issueCheck q.f.dst s with
  | some c => (false, txErr q.off q.f.dst q.cid c q.kind s)
  | none => (true, startReq q s)

/-- A request of the given class and type to unit n. -/
def issue (by_ : ReqBy) (cid n off kind cls typ : Nat) (data : List Byte) (s : State) : Bool × State :=
  issuePlan { f := { cls := cls, dst := n, typ := typ, src := 0, data := data }, by_ := by_, off := off, cid := cid, kind := kind } s

/-- Does the CID wait on any semaphore, local or remote (R262)? -/
def waitsAny (cid : Nat) (s : State) : Bool := (semWaited ⟨cid, 0, 0⟩ s).isSome || (remoteWait cid s).isSome

/-- A TAKE on another unit of a CID that already waits: it leaves as TRY, whose BUSY is INWAIT here (R262; DESIGN CHOICE, assumption
log 68). -/
def takeWaiting (by_ : ReqBy) (cid n off : Nat) (s : State) : Bool × State :=
  issuePlan { f := { cls := 0, dst := n, typ := 3, src := 0,
                     data := [0#8, BitVec.ofNat 8 ((off - 0x7C00) / 4), BitVec.ofNat 8 cid, BitVec.ofNat 8 (epri cid s)] },
              by_ := by_, off := off, cid := cid, kind := 2, take := true } s

/-- What a remote access answers at once: its result, or that it waits for its response. -/
inductive Reply where
  | ans (a : Ans) | wait
deriving DecidableEq, Repr

def issued (r : Bool × State) : Reply × State := (if r.1 then .wait else .ans (.refused .remote), r.2)

/-- The post stage of a CID. -/
def stageOf (cid : Nat) (s : State) : Option Stage := (s.chn.stages.find? (fun e => e.1 == cid)).map (·.2)
def setStage (cid : Nat) (x : Option Stage) (s : State) : State :=
  let rest := s.chn.stages.filter (fun e => e.1 != cid)
  { s with chn := { s.chn with stages := match x with
    | some g => (cid, g) :: rest
    | none => rest } }

/-- POST_STAGE_STORE (R409): `v` of `size` bytes at offset `o` (4 to 15) of mailbox m of unit n is staged. -/
def stageStore (cid n m o size v : Nat) (s : State) : State :=
  let old := stageOf cid s
  let keep := match old with
    | some g => g.unit == n && g.mbx == m
    | none => true
  let s := if keep then s else s.set F.CHN_TXSTAT_STAGELOST 1
  let g : Stage := if keep then old.getD { unit := n, mbx := m } else { unit := n, mbx := m }
  let put := fun (g : Stage) (i : Nat) =>
    let b := o - 4 + i
    let w := g.w.toList.getD (b / 4) 0#32
    { g with w := g.w.set! (b / 4) (mergeBytes w (BitVec.ofNat 32 (v / 2 ^ (8 * i) % 256 * 2 ^ (8 * (b % 4)))) (2 ^ (b % 4))) }
  setStage cid (some ((List.range size).foldl put g)) s

/-- SIZE code of an access of 1, 2, 4 or 8 bytes (R407). -/
def sizeCode (size : Nat) : Nat := if size = 1 then 0 else if size = 2 then 1 else if size = 4 then 2 else 3

/-- REMOTE_REQUEST_ISSUE (R408 to R410): an access through region 32 to another unit's window. -/
def remoteAccess (by_ : ReqBy) (cid : Nat) (write : Bool) (n off size v : Nat) (s : State) : Reply × State :=
  let cb := BitVec.ofNat 8 cid
  let head := leBytes 2 off ++ [BitVec.ofNat 8 (sizeCode size), cb]
  let semWord := decide (0x7C00 ≤ off ∧ off < 0x7C80 ∧ size = 4)
  let mbx := decide (0x7D00 ≤ off ∧ off < 0x7F00)
  let k := BitVec.ofNat 8 ((off - 0x7C00) / 4)
  let semop := fun (op : Byte) => issued (issue by_ cid n off 2 0 3 [op, k, cb, BitVec.ofNat 8 (epri cid s)] s)
  if semWord then
    if write then
      match v % 4 with
      | 1 => semop 2#8
      | 2 => if waitsAny cid s then issued (takeWaiting by_ cid n off s) else semop 1#8
      | 3 => semop 3#8
      | _ => (.ans (.ok 0#64), s)
    else semop 0#8
  else if write ∧ mbx ∧ 4 ≤ off % 16 then
    (.ans (.ok 0#64), stageStore cid n ((off - 0x7D00) / 16) (off % 16) size v s)
  else if write ∧ mbx ∧ size = 4 then
    let m := (off - 0x7D00) / 16
    if v / 0x40000000 % 4 ≠ 2 then (.ans (.ok 0#64), s)
    else if natBit v 29 then (.ans (.refused .remote), s)
    else
      let ws := match stageOf cid s with
        | some g => if g.unit = n ∧ g.mbx = m then g.w.toList else [0#32, 0#32, 0#32]
        | none => [0#32, 0#32, 0#32]
      let r := issue by_ cid n off 3 0 4
        ([BitVec.ofNat 8 m, cb] ++ leBytes 2 (v % 65536) ++ ws.flatMap (fun w => leBytes 4 w.toNat)) s
      issued (r.1, if r.1 then setStage cid none r.2 else r.2)
  else if write then issued (issue by_ cid n off 1 0 2 (head ++ leBytes size v) s)
  else issued (issue by_ cid n off 0 0 1 head s)

/-- A write to region 33 (R85, R408): BWR, without a response. -/
def broadcastWrite (cid off size v : Nat) (s : State) : Ans × State :=
  if quarantined s ∨ ownAddr s = 0 then (.refused .remote, txErr off 0x7F cid 7 1 s)
  else
    let d := leBytes 2 off ++ [BitVec.ofNat 8 (sizeCode size), BitVec.ofNat 8 cid] ++ leBytes size v
    (.ok 0#64, chainSend { cls := 0, dst := 0x7F, typ := 5, src := 0, data := d } s)

-- Serving (R413 to R415)

/-- The CID under which a request of a unit is served. -/
def portBCid (src : Nat) : Nat := if src = 1 then 58 else 59

/-- The ERR code of a refusal at port B (R415). -/
def errCode : Cause → Nat
  | .deny | .disabled | .remote => 1
  | .unmapped => 2 | .align => 3 | .ro => 4 | .busy => 5 | .ecc => 6

/-- A response to a request. -/
def reply (f : Frame) (typ : Nat) (data : List Byte) : Frame :=
  { cls := 1, dst := f.src, typ := typ, src := 0, tag := f.tag, data := data }
def errReply (f : Frame) (code : Nat) : Frame := reply f 6 [BitVec.ofNat 8 code, BitVec.ofNat 8 f.typ, 0#8, 0#8]

/-- A response that the duplicate filter keeps (R414). -/
def replyKept (f r : Frame) (s : State) : State :=
  let d := ((f.src, f.tag, r) :: s.chn.dup.filter (fun e => !(e.1 == f.src && e.2.1 == f.tag))).take 64
  chainSend r { s with chn := { s.chn with dup := d } }
/-- The response a retried request is answered with again (R414). -/
def dupFind (f : Frame) (s : State) : Option Frame :=
  if f.flag then (s.chn.dup.find? (fun e => e.1 == f.src && e.2.1 == f.tag)).map (·.2.2) else none

/-- An access at port B, logged where refused. -/
def portB (who : Who) (write : Bool) (off size v : Nat) (s : State) : Ans × State :=
  windowAccess who write (winAddr 0) off size v s

/-- The accessor of an RD, WR or BWR: its frame carries the originating CID and no priority, so at a semaphore word the priority is
free (R268; assumption log 73). -/
def frameWho (cid : Nat) (f : Frame) (s : State) : Who × State :=
  if 0x7C00 ≤ f.at_ 0 2 ∧ f.at_ 0 2 < 0x7C80 then
    let r := s.draw
    ({ cid := cid, origin := f.src, party := (f.at_ 3 1 % 64, r.1 % 16) }, r.2)
  else ({ cid := cid, origin := f.src, party := (f.at_ 3 1 % 64, 0) }, s)

/-- RD (R413). -/
def onRd (f : Frame) (s : State) : State :=
  if quarantined s then chainSend (errReply f 7) s
  else
    let off := f.at_ 0 2
    let z := f.at_ 2 1
    if 0x8000 ≤ off then chainSend (errReply f 2) s
    else if 3 < z then chainSend (errReply f 3) s
    else
      let w := frameWho (portBCid f.src) f s
      match portB w.1 false off (2 ^ z) 0 w.2 with
      | (.ok d, s) => chainSend (reply f 1 (leBytes (2 ^ z) d.toNat)) s
      | (.refused c, s) => chainSend (errReply f (errCode c)) s

/-- WR, and BWR, which answers nothing (R413). -/
def onWr (f : Frame) (s : State) : State :=
  let quiet := f.typ == 5
  let answer := fun (r : Frame) (s : State) => if quiet then s else chainSend r s
  if quarantined s then answer (errReply f 7) s
  else
    let off := f.at_ 0 2
    let z := f.at_ 2 1
    if 0x8000 ≤ off then answer (errReply f 2) s
    else if 3 < z then answer (errReply f 3) s
    else
      let w := frameWho (if quiet then 60 else portBCid f.src) f s
      match portB w.1 true off (2 ^ z) (leNat (f.data.drop 4)) w.2 with
      | (.ok _, s) => answer (reply f 2 []) s
      | (.refused c, s) => answer (errReply f (errCode c)) s

/-- The answer to a remote semaphore operation (R413). -/
def semReply (f : Frame) (r : Option Nat × Word × State) : State := replyKept f (reply f 3 (leBytes 4 r.2.1.toNat)) r.2.2

/-- SEMOP (R413, R414). -/
def onSemop (f : Frame) (s : State) : State :=
  if quarantined s then chainSend (errReply f 7) s
  else match dupFind f s with
    | some r => chainSend r s
    | none =>
      let op := f.at_ 0 1
      let k := f.at_ 1 1
      let who : Who := { cid := portBCid f.src, origin := f.src }
      if 31 < k then replyKept f (errReply f 2) s
      else if 3 < op then replyKept f (errReply f 1) s
      else
        let off := 0x7C00 + 4 * k
        match accessCheck who (op != 0) (winAddr off) 4 s with
        | .error c => replyKept f (errReply f (errCode c)) (busErr who (op != 0) (winAddr off) c s)
        | .ok _ =>
          let o : SemOp := match op with
            | 0 => .try_
            | 1 => .take
            | 2 => .give
            | _ => .cancel
          semReply f (semOp o (op != 0) (96 + k) who.cid ⟨f.at_ 2 1 % 64, f.src, f.at_ 3 1 % 16⟩ s)

/-- The single operation of a chain mailbox post (R275, R413): three payload words and the doorbell. -/
def mailboxPostB (who : Who) (m data ocid : Nat) (ws : List Nat) (s : State) : Ans × State :=
  let off := 0x7D00 + 16 * m
  match accessCheck who true (winAddr off) 4 s with
  | .error c => (.refused c, s)
  | .ok _ =>
    let s := bellServed who.cid s
    if bellFull m s then (.refused .busy, bellOvr m s)
    else
      let step := fun (p : Ans × State) (x : Nat × Nat) => match p with
        | (.refused c, s) => (Ans.refused c, s)
        | (.ok _, s) => ramWrite who (winAddr (off + 4 * (x.2 + 1))) 4 x.1 s
      match ws.zipIdx.foldl step (.ok 0#64, s) with
      | (.refused c, s) => (.refused c, s)
      | (.ok _, s) => (.ok 0#64, bellSet m data ocid who.origin false s)

/-- MBXPOST (R413, R414). -/
def onMbxpost (f : Frame) (s : State) : State :=
  if quarantined s then chainSend (errReply f 7) s
  else match dupFind f s with
    | some r => chainSend r s
    | none =>
      let m := f.at_ 0 1
      let who : Who := { cid := portBCid f.src, origin := f.src }
      if 31 < m then replyKept f (errReply f 2) s
      else match mailboxPostB who m (f.at_ 2 2) (f.at_ 1 1 % 64) [f.at_ 4 4, f.at_ 8 4, f.at_ 12 4] s with
        | (.ok _, s) => replyKept f (reply f 2 []) s
        | (.refused c, s) => replyKept f (errReply f (errCode c)) (busErr who true (winAddr (0x7D00 + 16 * m)) c s)

-- Remote semaphore results (R418, R419)

/-- SEMEVT at the waiter's unit (R418): a TAG acknowledged before is only answered. -/
def onSemevt (f : Frame) (s : State) : State :=
  let key := (f.src, f.tag)
  let s := if s.chn.acked.contains key then s
    else
      let s := { s with chn := { s.chn with acked := (key :: s.chn.acked).filter (fun e =>
        e.1 != f.src || decide ((f.tag + 256 - e.2) % 256 < 128)) } }
      remoteResult f.src (96 + f.at_ 4 1 % 32) (f.at_ 5 1 % 64) (f.at_ 0 4 % 16) s
  chainSend (reply f 8 []) s

/-- SEMACK at the owner (R418). -/
def onSemack (f : Frame) (s : State) : State :=
  { s with chn := { s.chn with events := s.chn.events.filter (fun e => !(e.dst == f.src && e.tag == f.tag)) } }

/-- SEMEVT_TIMEOUT (R418). -/
def semevtTimeout (dst tag : Nat) (s : State) : State :=
  match s.chn.events.find? (fun e => e.dst == dst && e.tag == tag) with
  | none => s
  | some e =>
    if s.now < e.due then s
    else if e.tries = 0 then
      let s := { s with chn := { s.chn with events := s.chn.events.erase e } }
      if e.res.toNat % 16 = 1 then semOrphanGive (96 + e.sem) ⟨e.cid, e.dst, 0⟩ s else s
    else
      let s := { s with chn := { s.chn with events := s.chn.events.map (fun x => if x = e then { x with tries := x.tries - 1, due := rspDue s } else x) } }
      chainSend { cls := 1, dst := dst, typ := 7, src := 0, tag := tag,
                  data := leBytes 4 e.res.toNat ++ [BitVec.ofNat 8 e.sem, BitVec.ofNat 8 e.cid, 0#8, 0#8] } s

/-- PINOTE (R419). -/
def onPinote (f : Frame) (s : State) : State :=
  pinote f.src (f.at_ 0 1) (f.at_ 1 1 % 32) (f.at_ 2 1 % 64) (f.at_ 3 1 % 16) (f.at_ 4 1) s

/-- A semaphore operation on another unit made for reclaim. -/
def reclaimAt (op : Byte) (cid u k : Nat) (s : State) : State :=
  match issue .other cid u (0x7C00 + 4 * (k - 96)) 2 0 3
      [op, BitVec.ofNat 8 (k - 96), BitVec.ofNat 8 cid, BitVec.ofNat 8 (epri cid s)] s with
  | (_, s) => s

/-- SEM_RECLAIM, with the CANCEL of a wait on another unit's semaphore and a GIVE of every semaphore of another unit that the CID holds
(R264). -/
def reclaimCid (cid : Nat) (s : State) : State :=
  let s := match remoteWait cid s with
    | some (u, k) => reclaimAt 3#8 cid u k s
    | none => s
  let held := s.share.rholds.filter (fun e => e.1 == cid)
  semReclaim cid (held.foldl (fun s e => reclaimAt 2#8 cid e.2.1 e.2.2 s) s)

-- Messages (R420)

/-- MSGSEND (R420 steps 1, 2): HANDLE, MBX and DST of the written word. -/
def msgSend (cid : Nat) (w : Word) (s : State) : State :=
  let h := w.toNat % 65536
  let m := fieldOf 16 5 w
  let dst := fieldOf 24 7 w
  match poolTransit cid h 32 s with
  | (false, s) => s
  | (true, s) =>
    let mo : MsgOut := { rec_ := 32, handle := h, cid := cid }
    let s := { s with chn := { s.chn with msgOut := s.chn.msgOut ++ [mo] } }
    match issueCheck dst s with
    | some c => msgEnd mo c s
    | none =>
      let d := [BitVec.ofNat 8 m, BitVec.ofNat 8 (chain (h % 512) s).length, 64#8, BitVec.ofNat 8 cid, 0#8, 0#8, 0#8, 0#8]
      startReq { f := { cls := 2, dst := dst, typ := 1, src := 0, data := d }, by_ := .msg, off := 0, cid := cid, kind := 3 } s

/-- The receiver can take a message of n buffers (R420 step 3). -/
def msgRoom (n : Nat) (s : State) : Bool := decide (32 + n ≤ freeCount s) && decide (s.chn.msgIn.length < 8)

/-- A buffer is taken in the name of the chain engine, while one is free. -/
def takeBuf (p : List Nat × State) : List Nat × State :=
  match lowestFree p.2 with
  | none => p
  | some i => (p.1 ++ [i], p.2.setBuf i { p.2.buf i with st := .transit, owner := 32, next := none })

/-- `n` of them. -/
def takeBufs (n : Nat) (s : State) : List Nat × State := (List.range n).foldl (fun p _ => takeBuf p) ([], s)

/-- When a step of a message that begins now is given up: MSGTO, in 100 µs units (R420, R432). -/
def msgDue (s : State) : Nat := s.now + 100000 * s.get F.CHN_TRCFG0_MSGTO

/-- Is this the note of a held MSTART of the frame's source and TAG? -/
def heldFor (f : Frame) (e : Nat × Nat × Nat) : Bool := e.1 == f.src && e.2.1 == f.tag
/-- The MSTART is held no longer. -/
def unhold (f : Frame) (s : State) : State :=
  { s with chn := { s.chn with msgHeld := s.chn.msgHeld.filter (fun e => !heldFor f e) } }

/-- The buffers of an MSTART are taken where there is room (R420 step 3); else it stays in its slot, for MSGTO from now if it has not
waited yet. -/
def msgTake (p : Nat) (x : Slot) (s : State) : State :=
  let n := x.f.at_ 1 1
  if msgRoom n s then
    let before := freeCount s
    let r := takeBufs n (slotDone p x (unhold x.f s))
    let s := poolLevels before r.2
    { s with chn := { s.chn with msgIn := s.chn.msgIn ++
      [{ src := x.f.src, tag := x.f.tag, mbx := x.f.at_ 0 1, bufs := r.1, due := msgDue s }] } }
  else if s.chn.msgHeld.any (heldFor x.f) then s
  else { s with chn := { s.chn with msgHeld := s.chn.msgHeld ++ [(x.f.src, x.f.tag, msgDue s)] } }

/-- MESSAGE_ALLOCATE (R420 step 3) for the oldest MSTART at port p, where it is held. -/
def msgAllocate (p : Nat) (s : State) : State :=
  match slotFind p 2 1 s with
  | none => s
  | some x => if s.chn.msgHeld.any (heldFor x.f) then msgTake p x s else s

/-- A message being assembled is given up: its buffers are free again. -/
def msgDrop (m : MsgIn) (s : State) : State :=
  moveAll freed m.bufs { s with chn := { s.chn with msgIn := s.chn.msgIn.erase m } }

/-- MSTART (R413, R414, R420 step 3): answered at once by a quarantined unit or from the duplicate filter, else held in its slot until
the buffers are there. -/
def onMstart (p : Nat) (s : State) : State :=
  match slotFind p 2 1 s with
  | none => s
  | some x =>
    if quarantined s then chainSend (errReply x.f 7) (slotDone p x s)
    else match dupFind x.f s with
      | some r => chainSend r (slotDone p x s)
      | none =>
        let s := match s.chn.msgIn.find? (fun m => m.src == x.f.src && m.tag == x.f.tag) with
          | some m => msgDrop m s
          | none => s
        msgTake p x s

/-- The last MDATA has come: the buffers are linked and posted (R420 steps 5, 6). -/
def msgPost (m : MsgIn) (f : Frame) (s : State) : State :=
  let start : Frame := { f with typ := 1 }
  if !mbxWriter m.mbx (portBCid m.src) s then replyKept start (errReply start 1) (msgDrop m s)
  else if bellFull m.mbx s then replyKept start (errReply start 5) (bellOvr m.mbx (msgDrop m s))
  else
    let s := { s with chn := { s.chn with msgIn := s.chn.msgIn.erase m } }
    let s := (m.bufs.zip (m.bufs.drop 1)).foldl (fun s b => s.setBuf b.1 { s.buf b.1 with next := some b.2 }) s
    let s := moveAll (fun b => { b with owner := m.mbx }) m.bufs s
    replyKept start (reply start 2 [])
      (bellSet m.mbx (handleOf (m.bufs.headD 0) s) (portBCid m.src) m.src true (bellServed (portBCid m.src) s))

/-- MDATA (R420 steps 4, 5); one of no message in assembly is discarded. -/
def onMdata (f : Frame) (s : State) : State :=
  match s.chn.msgIn.find? (fun m => m.src == f.src && m.tag == f.tag) with
  | none => s
  | some m =>
    match m.bufs[m.got]? with
    | none => s
    | some b =>
      let m' := { m with got := m.got + 1, due := msgDue s }
      let s := bufPut { cid := portBCid f.src, origin := f.src } b f.data { s with chn := { s.chn with msgIn := s.chn.msgIn.map (fun x => if x = m then m' else x) } }
      if m'.got = m'.bufs.length then msgPost m' f s else s

/-- MSGTO_EXPIRY (R420), once MSGTO has passed: for an MSTART held at port p, or for a message in assembly. -/
def msgtoHeld (p : Nat) (s : State) : State :=
  match slotFind p 2 1 s with
  | none => s
  | some x =>
    if s.chn.msgHeld.any (fun e => heldFor x.f e && decide (e.2.2 ≤ s.now)) then
      replyKept x.f (errReply x.f 8) (slotDone p x (unhold x.f s))
    else s
def msgtoAssembly (src tag : Nat) (s : State) : State :=
  match s.chn.msgIn.find? (fun m => m.src == src && m.tag == tag) with
  | none => s
  | some m =>
    if s.now < m.due then s
    else
    let start : Frame := { cls := 2, dst := 0, typ := 1, src := src, tag := tag }
    replyKept start (errReply start 8) (msgDrop m s)

/-- MSGRES_READ (R433). -/
def msgresRead (s : State) : Word × State :=
  match s.chn.msgRes with
  | [] => (0#32, s)
  | r :: rs => (BitVec.ofNat 32 (r.handle + 65536 * r.code + 0x1000000 * r.cid + 0x80000000),
      { s with chn := { s.chn with msgRes := rs } })

end Sys2Proof.Machine
end

