-- ==== Sys2Proof/Machine/ChainLink.lean ====
section
/-!
DEFINITION. The chain link: symbols, frames, credits, routing, link state, enumeration and lost units (R373 to R402).
-/
namespace Sys2Proof.Machine

/-- A link management frame to the neighbour at a port, or to an address. -/
def mgmt (dst typ : Nat) (data : List Byte) (flag : Bool := false) (tag : Nat := 0) : Frame :=
  { cls := 3, dst := dst, typ := typ, src := 0, flag := flag, tag := tag, data := data }

def b8 (n : Nat) : Byte := BitVec.ofNat 8 n
def bit01 (b : Bool) : Nat := if b then 1 else 0

-- HELLO and the address (R391, R393, R402, R403)

/-- The payload of HELLO (R390). -/
def helloData (s : State) : List Byte :=
  [b8 (ownAddr s), b8 (bit01 (s.on F.CHN_ADDR_VALID) + 2 * bit01 (s.on F.CHN_ADDR_HEAD) + 4 * bit01 (s.on F.CHN_ADDR_RING)
    + 8 * s.get F.CHN_ADDR_QUAR + 32 * bit01 (s.on F.CHN_ADDR_YIELD)), b8 (s.get F.CHN_VERS_OWN), 1#8]
    ++ leBytes 4 (s.get F.CHN_TOKEN_TOKEN)

def sendHello (p : Fin 2) (s : State) : State := chainSendOn p { mgmt 0 1 (helloData s) with src := ownAddr s } s

/-- Run an operation on the chain state; a changed HELLO field sends HELLO on both ports, and the identity page follows
(R391, R403). -/
def withHello (op : State → State) (s : State) : State :=
  let old := helloData s
  let s := idPage (op s)
  if helloData s = old then s else sendHello 1 (sendHello 0 s)

/-- A unit is declared lost (R399). -/
def declareLost (a : Nat) (s : State) : State :=
  let s := s.setMap64 R.CHN_LOSTLO R.CHN_LOSTHI (natSetBit (lostMap s) (a - 1) true)
  let s := { s with chn := { s.chn with out := (a, true, s.now) :: s.chn.out.filter (fun e => e.1 != a) } }
  endRequestsTo a (semUnitGone a (chnEvent 6 s))

/-- REACH is taken anew (R399): addresses that left it, and those that came back. -/
def reachUpdate (s : State) : State :=
  let old := reachMap s
  let live := liveMap s
  let new := (List.range 64).foldl (fun m i =>
    if natBit live i && ownAddr s != 0 && i + 1 != ownAddr s && linkUp (routePort (i + 1) s) s then m + 2 ^ i else m) 0
  let s := s.setMap64 R.CHN_REACHLO R.CHN_REACHHI new
  forEach 64 (fun i s =>
    if natBit new i && !natBit old i then
      if s.chn.out.any (fun e => e.1 == i + 1) then
        chnEvent 7 { s with chn := { s.chn with out := s.chn.out.filter (fun e => e.1 != i + 1) } }
      else s
    else if natBit old i && !natBit new i then
      let s := { s with chn := { s.chn with out := (i + 1, false, s.now) :: s.chn.out.filter (fun e => e.1 != i + 1) } }
      if s.get F.CHN_CFG_LOSTDLY = 0 then declareLost (i + 1) s else s
    else s) s

/-- UNIT_LOST (R399): an address has stayed out of REACH for LOSTDLY. -/
def unitLost (a : Nat) (s : State) : State :=
  if s.chn.out.any (fun e => e.1 == a && !e.2.1 && decide (e.2.2 + 10000 * s.get F.CHN_CFG_LOSTDLY ≤ s.now)) && !inMap (reachMap s) a then
    declareLost a s
  else s

/-- Every address leaves REACH and is lost at once (R393). -/
def loseAll (s : State) : State :=
  let left := (List.range 64).filter (fun i => natBit (reachMap s) i)
  let s := reachUpdate (s.setMap64 R.CHN_LIVELO R.CHN_LIVEHI 0)
  left.foldl (fun s i => if s.chn.out.any (fun e => e.1 == i + 1 && !e.2.1) then declareLost (i + 1) s else s) s

def setLive (m : Nat) (s : State) : State := reachUpdate (s.setMap64 R.CHN_LIVELO R.CHN_LIVEHI m)
def setUpmap (m : Nat) (s : State) : State := s.setMap64 R.CHN_UPMAPLO R.CHN_UPMAPHI m

/-- The unit takes address a, or (a = 0) none: UPMAP holds 1 to a − 1 (R383), with event 0xD4. -/
def setAddr (a : Nat) (s : State) : State :=
  let s := (s.set F.CHN_ADDR_ADDR a).setB F.CHN_ADDR_VALID (a != 0)
  let s := setUpmap (mapOf 1 (a - 1)) s
  let s := if a = 0 then setLive 0 s else reachUpdate s
  if a = 0 then s else chnEvent 4 s

/-- ORPHAN changes, with event 0xDD (R405), and the policy trigger ORPHAN with it (R440). -/
def setOrphan (v : Bool) (s : State) : State :=
  if s.on F.CHN_ADDR_ORPHAN = v then s else polSet 5 v (chnEvent 13 (s.setB F.CHN_ADDR_ORPHAN v))

/-- Quarantine is taken anew, with event 0xD8 on a change (R402): bit 0 PROTO, bit 1 ADDRESS (DEDUCED, assumption log 50). -/
def quarUpdate (address : Bool) (s : State) : State :=
  let hv := s.get F.CHN_VERS_HEAD
  let proto := !isHead s && hv != 0 && hv / 16 != s.get F.CHN_VERS_OWN / 16
  let q := bit01 proto + 2 * bit01 address
  if q = s.get F.CHN_ADDR_QUAR then s else chnEvent 8 (s.set F.CHN_ADDR_QUAR q)
def quarAddress (s : State) : Bool := natBit (s.get F.CHN_ADDR_QUAR) 1

-- Enumeration (R392 to R397)

/-- A free 32-bit draw: TOKEN and NONCE come from oscillator jitter (R392, R400). -/
def drawBits (n : Nat) (s : State) : Nat × State :=
  let r := s.draw
  (r.1 % 2 ^ n, r.2)

/-- ASSIGN to the unit below (R392, R394). -/
def assignDown (s : State) : State :=
  let v := if isHead s then s.get F.CHN_VERS_OWN else s.get F.CHN_VERS_HEAD
  chainSendOn 1 { mgmt 0 2 ([b8 (ownAddr s + 1), b8 (bit01 s.chn.force), b8 v, 0#8] ++ leBytes 4 (s.get F.CHN_TOKEN_TOKEN))
    with src := ownAddr s } s

/-- The payload of ENUMRPT (R390). -/
def reportData (a : Nat) (flags : Nat) (s : State) : List Byte :=
  let pers := (memWord s.mem (winAddr 0x7F0C)).toNat
  [b8 a, b8 (flags + 8 * s.get F.CHN_ADDR_QUAR), b8 (s.get F.CHN_VERS_OWN), 1#8, b8 (s.get F.SYS_BOOTSTAT_STATE),
    b8 (ownAddr s), 0#8, 0#8] ++ leBytes 4 (s.get F.SYS_IMAGEID_IMAGEID) ++ leBytes 4 pers

/-- ENUMRPT to the head (R390, R392, R393); a unit past the last address sends it up with SRC 0. -/
def enumReport (a : Nat) (flags : Nat) (s : State) : State :=
  let f := mgmt 1 3 (reportData a flags s)
  if ownAddr s = 0 then chainSendOn 0 f s else chainSend f s

/-- The head broadcasts ROUTE with FLAG = 1 (R395). -/
def routeAll (s : State) : State :=
  chainSend (mgmt 0x7F 4 (b8 (bit01 (s.on F.CHN_ADDR_RING)) :: leBytes 7 0 ++ leBytes 8 (liveMap s)) true) s

/-- The head sets RINGBRK, with event 0xD9 on a change (R396). -/
def setRingbrk (v : Bool) (s : State) : State :=
  if s.on F.CHN_ADDR_RINGBRK = v then s else chnEvent 9 (s.setB F.CHN_ADDR_RINGBRK v)

/-- UPMAP of unit a in a ring of n units broken first after k1 and last after k2 (R395). -/
def ringUpmap (a k1 k2 n : Nat) : Nat :=
  if a ≤ k1 then mapOf 1 (a - 1) ||| mapOf (k2 + 1) n else mapOf (k2 + 1) (a - 1)

/-- The head keeps every unit on working paths (R395): from the links known down. -/
def headRoutes (s : State) : State :=
  let n := s.get F.CHN_ADDR_NUNITS
  if n = 0 then s
  else
    let br := s.chn.broken.filter (fun k => decide (1 ≤ k ∧ k ≤ n))
    let k1 := br.foldl min n
    if !s.on F.CHN_ADDR_RING then routeAll (setLive (mapOf 1 k1) s)
    else if br.isEmpty then routeAll (setLive (mapOf 1 n) (setUpmap 0 (setRingbrk false s)))
    else
      let k2 := br.foldl max 0
      let live := mapOf 1 k1 ||| mapOf (k2 + 1) n
      let s := setLive live (setUpmap (ringUpmap 1 k1 k2 n) (setRingbrk true s))
      forEach n (fun i s =>
        let a := i + 1
        if 2 ≤ a ∧ inMap live a then
          chainSend (mgmt a 4 (leBytes 8 (ringUpmap a k1 k2 n) ++ leBytes 8 live)) s
        else s) s

/-- A link report reaches the head (R395): port p of unit a. The closing link of a ring is link NUNITS. -/
def headLink (a p : Nat) (up : Bool) (s : State) : State :=
  let k := if p = 1 then a else if a = 1 then s.get F.CHN_ADDR_NUNITS else a - 1
  let rest := s.chn.broken.filter (· != k)
  headRoutes { s with chn := { s.chn with broken := if up then rest else k :: rest } }

/-- ENUMERATION_START (R392 step 1). -/
def enumerate (force : Bool) (s : State) : State :=
  if isHead s then
    let r := drawBits 32 s
    assignDown (withHello (fun s => setAddr 1 (s.set F.CHN_TOKEN_TOKEN r.1)) { r.2 with chn := { r.2.chn with force := force } })
  else s

/-- Rows 2 to 4 of R393: ASSIGN(a) at a unit that does not hold the HEAD role. -/
def assignUnit (f : Frame) (force : Bool) (s : State) : State :=
  let a := f.at_ 0 1
  if 64 < a then enumReport a 4 (withHello (setAddr 0) s)
  else if ownAddr s = 0 ∨ ownAddr s = a ∨ force then
    let lose := ownAddr s != 0 && ownAddr s != a
    let s := { s with chn := { s.chn with force := force, endWait := false } }
    let s := (s.set F.CHN_TOKEN_TOKEN (f.at_ 4 4)).set F.CHN_VERS_HEAD (f.at_ 2 1)
    let s := setAddr a (if lose then loseAll s else s)
    let s := idPage (quarUpdate (!force && quarAddress s) s)
    let s := sendHello 1 (sendHello 0 s)
    if linkUp 1 s then enumReport a (bit01 (s.on (F.CHN_pSTAT_NHEAD 1))) (assignDown s)
    else { s with chn := { s.chn with endWait := true, endAt := s.now + 1000 * s.get F.CHN_CFG_ENDWAIT } }
  else enumReport a 2 (withHello (quarUpdate true) s)

/-- ASSIGN (R393, R396, R397). -/
def onAssign (p : Nat) (f : Frame) (s : State) : State :=
  if p ≠ 0 then unkType p s
  else
    let force := natBit (f.at_ 1 1) 0
    if isHead s then
      if f.at_ 4 4 = s.get F.CHN_TOKEN_TOKEN then
        if s.on F.CHN_CFG_RINGEN ∧ !s.on F.CHN_ADDR_RING then
          withHello (fun s => chnEvent 9 (s.set F.CHN_ADDR_RING 1)) s
        else s
      else if f.at_ 4 4 < s.get F.CHN_TOKEN_TOKEN then
        assignUnit f true (chnEvent 11 ((s.set F.CHN_ADDR_YIELD 1).set F.CHN_ADDR_HEAD 0))
      else chnEvent 11 s
    else assignUnit f force s

/-- ENDWAIT_EXPIRY (R392 step 4), once ENDWAIT has passed. -/
def endWaitExpire (s : State) : State :=
  if s.chn.endWait ∧ !linkUp 1 s ∧ s.chn.endAt ≤ s.now then enumReport (ownAddr s) 1 { s with chn := { s.chn with endWait := false } } else s

/-- ENUMRPT at the head (R392 step 5, R393). -/
def onEnumrpt (f : Frame) (s : State) : State :=
  if !isHead s then s
  else
    let fl := f.at_ 1 1
    let s := if natBit fl 2 then chnEvent 10 s else s
    if natBit fl 0 then
      let n := f.at_ 0 1
      let s := idPage (s.set F.CHN_ADDR_NUNITS n)
      let s := headRoutes { s with chn := { s.chn with broken := [] } }
      chnEvent 5 (chainSend (mgmt 0x7F 7 [b8 (s.get F.CHN_VERS_OWN), 0#8, 0#8, 0#8]) s)
    else s

/-- The highest address in a map. -/
def topAddr (m : Nat) : Nat := (List.range 64).foldl (fun t i => if natBit m i then i + 1 else t) 0

/-- ROUTE (R383, R390, R395, R401). -/
def onRoute (f : Frame) (s : State) : State :=
  let live := f.at_ 8 8
  withHello (fun s =>
    if f.flag then
      let ring := natBit (f.at_ 0 1) 0
      let s := if s.on F.CHN_ADDR_RING = ring then s else chnEvent 9 (s.setB F.CHN_ADDR_RING ring)
      let s := setUpmap (mapOf 1 (ownAddr s - 1)) s
      setLive live (setOrphan false (s.set F.CHN_ADDR_NUNITS (topAddr live)))
    else setLive live (setUpmap (f.at_ 0 8) s)) s

/-- ORPHAN (R398 step 5). -/
def onOrphan (f : Frame) (s : State) : State := idPage (setOrphan true (setLive (f.at_ 0 8) s))

/-- VERSION (R402). -/
def onVersion (f : Frame) (s : State) : State :=
  withHello (fun s => let s := s.set F.CHN_VERS_HEAD (f.at_ 0 1); quarUpdate (quarAddress s) s) s

/-- RATECHG (R377): for 20 µs the neighbour's loss of lock is tolerated. -/
def onRatechg (p : Nat) (s : State) : State :=
  if p = 2 then s else s.setPort (portIx p) { s.port (portIx p) with grace := s.now + 20000 }

/-- IDENT is answered with the identity page (R390). -/
def onIdent (f : Frame) (s : State) : State :=
  chainSend (mgmt f.src 10 ((List.range 64).map (fun i => memByte s.mem (winAddr (0x7F00 + i)))) false f.tag) s

/-- Is an MGMT RESET one that causes SOFT (R391)? -/
def resetOk (p : Nat) (f : Frame) (s : State) : Bool :=
  f.at_ 0 2 == 0xA55A && f.src == 1 && p == (headPort s).val

/-- REJOIN (R400). -/
def onRejoin (f : Frame) (s : State) : State :=
  let a := f.src
  let n := f.at_ 2 2
  if a = 0 ∨ 64 < a ∨ smapFind a s.chn.rejoined = some n then s
  else
    let s := { s with chn := { s.chn with
      rejoined := smapPut a n s.chn.rejoined
      dup := s.chn.dup.filter (fun e => e.1 != a)
      acked := s.chn.acked.filter (fun e => e.1 != a) } }
    chnEvent 7 (endRequestsTo a (semUnitGone a s))

/-- REJOIN_SEND (R400): three times, 100 µs apart. -/
def rejoinSend (s : State) : State :=
  let p : Fin 2 := if isHead s then 1 else headPort s
  if s.chn.rejoinLeft = 0 ∨ ownAddr s = 0 ∨ !linkUp p s ∨ s.now < s.chn.rejoinAt then s
  else
    let s := { s with chn := { s.chn with rejoinLeft := s.chn.rejoinLeft - 1, rejoinAt := s.now + 100000 } }
    chainSend (mgmt 0x7F 12 ([b8 (ownAddr s), b8 (s.get F.SYS_RSTCAUSE_LAST)] ++ leBytes 2 s.chn.nonce)) s

-- Link state (R378, R398)

/-- CRC-8 of R521 over bytes. -/
def crc8 (bs : List Byte) : BitVec 8 :=
  bs.foldl (fun r b => (List.range 8).foldl (fun (r : BitVec 8) _ =>
    if r.getLsbD 7 then (r <<< 1) ^^^ 0x07#8 else r <<< 1) (r ^^^ b)) 0#8

/-- The bytes of a frame from its header to its CRC, with credit return `crt` (R379 to R381). -/
def frameBytes (f : Frame) (crt : Nat) : List Byte :=
  let h := [b8 f.dst, b8 (f.typ + 64 * f.cls), b8 f.src, b8 (f.data.length + 128 * bit01 f.flag), b8 f.tag, b8 crt,
    b8 (crt / 256), b8 f.hop] ++ f.data
  h ++ leBytes 4 (crc32c h).toNat

/-- Four 3-bit counters in their places (R387). -/
def packCnt (w : Vector Nat 4) : Nat := w.get 0 % 8 + w.get 1 % 8 * 8 + w.get 2 % 8 * 64 + w.get 3 % 8 * 512

/-- The credit return that a port sends (R387); the host port has none. -/
def crtWord (p : Nat) (s : State) : Nat := if p = 2 then 0 else packCnt (s.port (portIx p)).rel

/-- The four bytes of an idle symbol of port p (R376): CRT, SNT, CHK. -/
def idleBytes (p : Fin 2) (s : State) : List Byte :=
  let b := leBytes 3 (crtWord p.val s + 4096 * packCnt (s.port p).snt)
  b ++ [crc8 b]

/-- A frame leaves on a line: shown in the command's answer, with its bytes where it is whole. -/
def lineSend (p : Nat) (f : Frame) (poison : Bool) (s : State) : State :=
  { s with out := { s.out with
    sent := s.out.sent ++ [(p, f, poison)]
    line := if poison then s.out.line else s.out.line ++ [(p, frameBytes f (crtWord p s))] } }

/-- An idle symbol leaves on port p (R376). -/
def idleSend (p : Fin 2) (s : State) : State := { s with out := { s.out with line := s.out.line ++ [(p.val, idleBytes p s)] } }

/-- POISON_FRAME (R385): a frame in cut-through from port p ends with EOFP and its slot is released. -/
def cutAbort (p : Fin 2) (s : State) : State :=
  match (s.port p).cut with
  | none => s
  | some c =>
    let s := s.setPort p { s.port p with cut := none }
    let s := releaseClass p.val c.cls s
    if c.started then lineSend (other p).val { cls := c.cls, dst := c.dst, typ := 0, src := 0 } true s else s

/-- A REQ or MSTART that cannot go on is answered UNREACH (R416); a BWR is answered by nothing (R413). -/
def unreach (f : Frame) (s : State) : State :=
  if f.dst ≠ 0x7F ∧ (f.cls = 0 ∨ (f.cls = 2 ∧ f.typ = 1)) ∧ 1 ≤ f.src ∧ f.src ≤ 64 then chainSend (errReply f 9) s else s

/-- The frames in one port's slots that wait for port q are discarded (R398 step 1). -/
def dropFor (p : Nat) (q : Fin 2) (s : State) : State :=
  let hit := (slotsOf p s).filter (fun x => x.fwd == some q)
  hit.foldl (fun s x =>
    let s := if x.dlv then setSlots p ((slotsOf p s).replace x { x with fwd := none }) s
      else releaseClass p x.f.cls (setSlots p ((slotsOf p s).erase x) s)
    unreach x.f s) s

/-- LINK_DOWN (R398). -/
def linkDown (p : Fin 2) (errlim : Bool) (s : State) : State :=
  if !linkUp p s then s
  else
    let s := (s.set (F.CHN_pSTAT_LINK p.val) 0).count (F.CHN_pERR_LINKDN p.val)
    let s := chnEvent (1 + 2 * p.val) s
    let s := if errlim then chnEvent 12 s else s
    let s := cutAbort p s
    let x := s.port p
    let s := s.setPort p { x with queue := [], errs := 0, ignore := x.ignore || errlim, holdTo := if errlim then s.now + 100000 else x.holdTo }
    let s := if errlim then (s.set (F.CHN_pSTAT_LOCK p.val) 0).setPort p { s.port p with lostAt := s.now } else s
    let s := dropFor 2 p (dropFor (other p).val p s)
    let s := reachUpdate s
    let ring := s.on F.CHN_ADDR_RING
    let rpt := mgmt 1 5 [b8 p.val, 0#8, b8 (s.get (F.CHN_pSTAT_NADDR p.val)), 0#8]
    let s := if isHead s then headLink 1 p.val false s
      else if ownAddr s = 0 then s
      else if headPort s = p ∧ ring then chainSendOn (other p) { rpt with src := ownAddr s } s
      else chainSend rpt s
    if !ring ∧ p = 0 ∧ !isHead s ∧ ownAddr s ≠ 0 then
      let live := mapOf (ownAddr s) (max (ownAddr s) (s.get F.CHN_ADDR_NUNITS))
      let s := chainSendOn 1 { mgmt 0x7F 6 (leBytes 8 live) with src := ownAddr s } s
      idPage (setOrphan true (setLive live s))
    else s

/-- The command LINK_DOWN: lock has stayed lost for 2 µs (R378), outside the tolerance of R377. -/
def lockLostLong (p : Fin 2) (s : State) : State :=
  if !s.on (F.CHN_pSTAT_LOCK p.val) ∧ max (s.port p).lostAt (s.port p).grace + 2000 ≤ s.now then linkDown p false s else s

/-- A link comes up (R378, R392, R398). -/
def linkComesUp (p : Fin 2) (s : State) : State :=
  let s := chnEvent (2 * p.val) (s.set (F.CHN_pSTAT_LINK p.val) 1)
  let s := reachUpdate s
  let s := if isHead s then headLink 1 p.val true s
    else if ownAddr s = 0 then s
    else chainSend (mgmt 1 5 [b8 p.val, 1#8, b8 (s.get (F.CHN_pSTAT_NADDR p.val)), 0#8]) s
  if p = 1 then
    if isHead s then enumerate false s
    else if s.chn.endWait then
      let s := { s with chn := { s.chn with endWait := false } }
      enumReport (ownAddr s) (bit01 (s.on (F.CHN_pSTAT_NHEAD 1))) (assignDown s)
    else s
  else s

/-- RECEIVER_LOCK (R378, R387, R391): the credit counters restart at zero, frames not yet acted on are gone, HELLO is sent. -/
def receiverLock (p : Fin 2) (inverted : Bool) (rate : Nat) (s : State) : State :=
  let x := s.port p
  if x.ignore ∨ s.on (F.CHN_pSTAT_LOCK p.val) then s
  else
    let s := ((s.set (F.CHN_pSTAT_LOCK p.val) 1).setB (F.CHN_pSTAT_RXINV p.val) inverted).set (F.CHN_pSTAT_RXRATE p.val) rate
    let z : Vector Nat 4 := Vector.replicate 4 0
    let s := x.slots.foldl (fun s y => unhold y.f s) s
    sendHello p (s.setPort p { s.port p with acc := z, rel := z, snt := z, crt := z, slots := [], cut := none })

/-- The interval of 16 000 TB10 ticks that runs (R378). -/
def errSpan (s : State) : Nat := s.tb.cnt.get 10 / 16000

/-- The errors a port has counted in the interval that runs. -/
def errCount (p : Fin 2) (s : State) : Nat := if (s.port p).errIv = errSpan s then (s.port p).errs else 0

/-- A CRC or code error counts toward ERRLIM (R378). -/
def lineError (p : Fin 2) (s : State) : State :=
  let n := errCount p s + 1
  let s := s.setPort p { s.port p with errs := n, errIv := errSpan s }
  let lim := s.get F.CHN_CFG_ERRLIM
  if lim ≠ 0 ∧ lim ≤ n then linkDown p true s else s

/-- LOSS_OF_CHAIN_LOCK (R378, R385): by missing transitions, or by a code error outside a frame. -/
def lossOfLock (p : Fin 2) (codeErr : Bool) (s : State) : State :=
  if !s.on (F.CHN_pSTAT_LOCK p.val) then s
  else
    let s := cutAbort p (s.set (F.CHN_pSTAT_LOCK p.val) 0)
    let s := s.setPort p { s.port p with lostAt := s.now }
    if codeErr then lineError p (s.count (F.CHN_pERR_CODEERR p.val)) else s

/-- ERROR_COUNT_INTERVAL (R378): the count starts again in a new interval. -/
def errInterval (p : Fin 2) (s : State) : State := s.setPort p { s.port p with errs := errCount p s, errIv := errSpan s }
/-- ERRLIM_HOLDOFF_END (R378), once 100 µs have passed. -/
def holdoffEnd (p : Fin 2) (s : State) : State :=
  if (s.port p).holdTo ≤ s.now then s.setPort p { s.port p with ignore := false } else s

/-- HELLO (R378, R391, R394): the DOWN neighbour is offered its address, once where the link's coming up has just done so. -/
def onHello (p : Nat) (f : Frame) (s : State) : State :=
  if p = 2 then s
  else
    let q := portIx p
    let was := s.on (F.CHN_pSTAT_NVALID p)
    let b := f.at_ 1 1
    let sends := !linkUp q s && (isHead s || s.chn.endWait)
    let s := (s.set (F.CHN_pSTAT_NADDR p) (f.at_ 0 1)).setB (F.CHN_pSTAT_NVALID p) (natBit b 0)
    let s := (s.setB (F.CHN_pSTAT_NHEAD p) (natBit b 1)).set (F.CHN_pSTAT_NVER p) (f.at_ 2 1)
    let s := if linkUp q s then (if was && !natBit b 0 then linkDown q false s else s)
      else if s.on (F.CHN_pSTAT_LOCK p) then linkComesUp q s else s
    if p = 1 ∧ linkUp 1 s ∧ ownAddr s ≠ 0 ∧ !sends ∧ (f.at_ 0 1 = 0 ∨ f.at_ 0 1 ≠ ownAddr s + 1) then assignDown s
    else s

/-- LINKRPT at the head (R395). -/
def onLinkrpt (f : Frame) (s : State) : State :=
  if isHead s then headLink f.src (f.at_ 0 1 % 2) (f.at_ 1 1 % 2 == 1) s else s

-- Idle symbols and credits (R376, R387, R389, R521)

/-- The 3-bit counter of class c. -/
def cnt3 (v c : Nat) : Nat := v / 8 ^ c % 8

/-- The credit returns of a header or idle symbol (R387). -/
def takeCrt (p : Fin 2) (crt : Nat) (s : State) : State :=
  s.setPort p { s.port p with crt := #v[cnt3 crt 0, cnt3 crt 1, cnt3 crt 2, cnt3 crt 3] }

/-- Credits of class c at the transmitter of port p (R387). -/
def credits (p : Fin 2) (c : Nat) (s : State) : Nat :=
  let x := s.port p
  4 - (x.snt.toList.getD c 0 + 8 - x.crt.toList.getD c 0) % 8

/-- Occupied receive slots of class c, with a frame in cut-through (R386). -/
def occupied (p : Fin 2) (c : Nat) (s : State) : Nat :=
  let x := s.port p
  (x.slots.filter (fun y => y.f.cls == c)).length + (match x.cut with
    | some k => bit01 (k.cls == c)
    | none => 0)

/-- Is the credit ledger of port p and class c out of balance (R389)? -/
def creditOff (p : Fin 2) (c : Nat) (s : State) : Bool :=
  let x := s.port p
  decide (occupied p c s ≠ (x.acc.toList.getD c 0 + 8 - x.rel.toList.getD c 0) % 8) ||
  decide (4 < (x.snt.toList.getD c 0 + 8 - x.crt.toList.getD c 0) % 8)

/-- IDLE_SYMBOL (R376, R389): bytes 0 to 2 and CHK; a wrong CHK is ignored. Its arrival is a quiescent point of the port. -/
def idleSymbol (p : Fin 2) (bytes : List Byte) (chk : Byte) (s : State) : State :=
  if bytes.length ≠ 3 ∨ crc8 bytes ≠ chk ∨ !s.on (F.CHN_pSTAT_LOCK p.val) then s
  else
    let v := leNat bytes
    let s := takeCrt p (v % 4096) s
    if linkUp p s then
      forEach 4 (fun c s =>
        let x := s.port p
        let n := (cnt3 (v / 4096) c + 8 - x.acc.toList.getD c 0) % 8
        let up := fun (w : Vector Nat 4) => w.set! c ((w.toList.getD c 0 + n) % 8)
        let s := (s.setPort p { x with acc := up x.acc, rel := up x.rel }).count (F.CHN_pDROP_MISSFR p.val) n
        ledgerNote 3 (4 * p.val + c) (creditOff p c s) s) s
    else s

/-- CHN_pCRED (R404). -/
def credWord (p : Fin 2) (s : State) : Word :=
  BitVec.ofNat 32 ((List.range 4).foldl (fun w c => w + credits p c s * 16 ^ c + occupied p c s * 16 ^ c * 65536) 0)

-- Frames (R379 to R385, R407)

/-- The frame that bytes between SOF and EOF hold, with its CRT; none where a check of R382 on its form fails. -/
def parseFrame (cls : Nat) (bs : List Byte) : Option (Frame × Nat) :=
  let g := fun i => ((bs.drop i).headD 0#8).toNat
  let len := g 3 % 128
  if bs.length ≠ len + 12 ∨ 64 < len ∨ g 1 / 64 ≠ cls ∨ 128 ≤ g 0 ∨ 128 ≤ g 2 ∨ 16 ≤ g 6 ∨ 64 ≤ g 7 then none
  else some ({ cls := cls, dst := g 0, typ := g 1 % 64, src := g 2, flag := 128 ≤ g 3, tag := g 4, hop := g 7,
               data := (bs.drop 8).take len }, g 5 + 256 * g 6)

/-- Is the CRC of the bytes good (R381)? -/
def crcGood (bs : List Byte) : Bool :=
  decide (4 ≤ bs.length) && leNat (bs.drop (bs.length - 4)) == (crc32c (bs.take (bs.length - 4))).toNat

/-- Is the type one the chain engine has, with a fitting LEN (R390, R407)? -/
def frameKnown (f : Frame) : Bool :=
  let n := f.data.length
  let z := f.at_ 2 1
  match f.cls, f.typ with
  | 0, 1 => n == 4 && f.dst != 0x7F
  | 0, 2 => decide (4 ≤ n) && (decide (3 < z) || n == 4 + 2 ^ z) && f.dst != 0x7F
  | 0, 3 => n == 4 && f.dst != 0x7F
  | 0, 4 => n == 16 && f.dst != 0x7F
  | 0, 5 => decide (4 ≤ n) && (decide (3 < z) || n == 4 + 2 ^ z) && f.dst == 0x7F
  | 1, 1 => n == 1 || n == 2 || n == 4 || n == 8
  | 1, 2 | 1, 8 => n == 0
  | 1, 3 | 1, 6 => n == 4
  | 1, 7 | 1, 9 => n == 8
  | 2, 1 => n == 8 && decide (1 ≤ f.at_ 1 1 ∧ f.at_ 1 1 ≤ 64 ∧ 1 ≤ z ∧ z ≤ 64 ∧ f.at_ 0 1 < 32)
  | 2, 2 => decide (1 ≤ n)
  | 3, t =>
    if t = 1 ∨ t = 2 ∨ t = 6 ∨ t = 0x1C - 1 ∨ t = 0x1D ∨ t = 0x22 ∨ t = 0x23 then n == 8
    else if t = 3 ∨ t = 4 ∨ t = 0x10 ∨ t = 0x12 ∨ t = 0x1A then n == 16
    else if t = 5 ∨ t = 7 ∨ t = 8 ∨ t = 11 ∨ t = 12 ∨ t = 0x18 ∨ t = 0x19 ∨ t = 0x20 ∨ t = 0x21 then n == 4
    else if t = 9 ∨ t = 0x11 then n == 0
    else if t = 10 then n == 64
    else if t = 0x1C then decide (1 ≤ n)
    else if t = 0x24 then decide (5 ≤ n)
    else if t = 0x25 then decide (4 ≤ n)
    else false
  | _, _ => false

/-- The type of the relay frames (R421). -/
def isRelay (f : Frame) : Bool := f.cls == 3 && decide (0x18 ≤ f.typ ∧ f.typ ≤ 0x1D)

/-- Where a received frame goes (R383, R421, R428): delivered here, forwarded on a port; none where it is discarded. -/
def routeIn (p : Nat) (f : Frame) (s : State) : Option (Bool × Option (Fin 2)) :=
  let q := portIx p
  let opp : Option (Fin 2) := if p = 2 then none else some (other q)
  let src1 := s.on F.SYS_STRAP_BOOTSRC
  if isRelay f then
    if f.typ = 0x18 then
      if src1 then (if p = 1 then some (true, none) else none) else if p = 0 then none else some (false, some 0)
    else if p ≠ 0 then none
    else some (true, if src1 then none else some 1)
  else if f.dst = 0 then (if f.cls = 3 then some (true, none) else none)
  else if f.dst = 0x7F then
    if f.cls = 3 ∧ f.typ = 0x10 then
      if isHead s ∨ q ≠ headPort s then none else some (true, opp)
    else if ownAddr s = 0 then (if f.cls = 3 then some (true, none) else some (false, opp))
    else some (true, if isHead s ∧ !s.on F.CHN_ADDR_RINGBRK then none else opp)
  else if 64 < f.dst then none
  else if ownAddr s = 0 then some (false, opp)
  else if f.dst = ownAddr s then some (true, none)
  else
    let o := routePort f.dst s
    if p ≠ 2 ∧ o = q then none else some (false, some o)

/-- The forwarded copy of a frame (R384, R428): HOP counts, and a SYNC gains LINKDLY and its residence time (1/16 ns). -/
def forwardCopy (f : Frame) (residence : Nat) (s : State) : Frame :=
  let f := { f with hop := f.hop + 1 }
  if f.cls = 3 ∧ f.typ = 0x10 then
    let corr := f.at_ 8 4 + (s.word R.CHN_TLINKDLY).toNat + stampFine residence s
    { f with data := f.data.take 8 ++ leBytes 4 corr ++ f.data.drop 12 }
  else f

/-- A relay request goes up (R73, R421); it counts as sent where the UP link is up. RELAYTO counts from the first one made. -/
def relayRequest (s : State) : State :=
  let r := s.chn.relay
  let r := { r with requested := linkUp 0 s, askAt := s.now, firstAt := some (r.firstAt.getD s.now) }
  chainSendOn 0 { mgmt 1 0x18 [1#8, 0#8, 0#8, 0#8] with src := ownAddr s } { s with chn := { s.chn with relay := r } }

/-- A relay unit leaves the round it has joined, and requests again (R73). -/
def relayLeave (s : State) : State :=
  if s.chn.relay.joined.isSome then
    relayRequest { s with chn := { s.chn with relay := { s.chn.relay with joined := none, image := [] } } }
  else s

/-- A received frame is discarded (R382): it counts as accepted and released, and its cause is counted. -/
def discard (p : Fin 2) (c : Nat) (why : State → State) (s : State) : State :=
  let x := s.port p
  let up := fun (w : Vector Nat 4) => w.set! c ((w.toList.getD c 0 + 1) % 8)
  let s := why (s.setPort p { x with acc := up x.acc, rel := up x.rel })
  if p = 0 then relayLeave s else s

/-- A frame delivered here that needs no slot: one for the host, or an MRSP no host waits for (R426). -/
def deliverAtOnce (f : Frame) (s : State) : Option State :=
  if f.dst = 1 ∧ isHead s ∧ 128 ≤ f.tag then
    let rest := if f.cls = 1 then s.chn.hostReqs.filter (fun e => e.1.tag != f.tag) else s.chn.hostReqs
    some (hostPut f { s with chn := { s.chn with hostReqs := rest } })
  else if f.cls = 3 ∧ f.typ = 0x25 then some s
  else none

/-- A checked frame takes its place in a slot of port p (R383, R386, R416). -/
def placeFrame (p : Nat) (f : Frame) (s : State) : State :=
  match routeIn p f s with
  | none => releaseClass p f.cls (unkType p s)
  | some (dlv, fwd) =>
    let known := frameKnown f
    let s := if dlv && !known then unkType p s else s
    let dlv := dlv && known
    let dead := match fwd with
      | some o => !linkUp o s
      | none => false
    let s := if dead then unreach f s else s
    let fwd := if dead then none else fwd
    if dlv ∧ fwd.isNone then
      match deliverAtOnce f s with
      | some s => releaseClass p f.cls s
      | none => setSlots p (slotsOf p s ++ [⟨f, true, none⟩]) s
    else if !dlv && fwd.isNone then releaseClass p f.cls s
    else setSlots p (slotsOf p s ++ [⟨f, dlv, fwd⟩]) s

/-- FRAME_RECEIVE (R382, R385): class of the SOF, the bytes up to the EOF, a code error inside the frame, EOFP in place of EOF,
and the residence time of a SYNC in cut-through. -/
def frameReceive (p : Fin 2) (cls : Nat) (bs : List Byte) (codeErr eofp : Bool) (residence : Nat) (s : State) : State :=
  if !s.on (F.CHN_pSTAT_LOCK p.val) ∨ 4 ≤ cls then s
  else
    let cut := (s.port p).cut
    let s := s.setPort p { s.port p with cut := none }
    let started := match cut with
      | some c => c.started
      | none => false
    let outc : Frame := match cut with
      | some c => { cls := c.cls, dst := c.dst, typ := 0, src := 0 }
      | none => { cls := cls, dst := 0, typ := 0, src := 0 }
    let bad := fun (why : State → State) (s : State) =>
      let s := if started then lineSend (other p).val outc true s else s
      discard p cls why s
    if codeErr then lineError p (bad (fun s => s.count (F.CHN_pERR_CODEERR p.val)) s)
    else if !crcGood bs then lineError p (bad (fun s => s.count (F.CHN_pERR_CRCERR p.val)) s)
    else if eofp then bad (fun s => s.count (F.CHN_pDROP_POISON p.val)) s
    else match parseFrame cls bs with
      | none => bad (unkType p.val) s
      | some (f, crt) =>
        if 4 ≤ occupied p cls s then bad (unkType p.val) s
        else
          let s := takeCrt p crt s
          let x := s.port p
          let s := s.setPort p { x with acc := x.acc.set! cls ((x.acc.toList.getD cls 0 + 1) % 8) }
          if started then
            if f.hop = 63 then
              releaseClass p.val cls (lineSend (other p).val (forwardCopy f residence s) true (s.count (F.CHN_pDROP_HOPDROP p.val)))
            else
              let s := lineSend (other p).val (forwardCopy f residence s) false s
              let here := match routeIn p.val f s with
                | some (d, _) => d
                | none => false
              if here && frameKnown f then setSlots p.val (slotsOf p.val s ++ [⟨f, true, none⟩]) s
              else releaseClass p.val cls (if here then unkType p.val s else s)
          else placeFrame p.val f s

/-- A frame of class c starts out on a port: it is counted, and the orders of R388 follow. -/
def sentAs (c : Nat) (fwd : Bool) (x : Port) : Port :=
  { x with
    snt := x.snt.set! c ((x.snt.toList.getD c 0 + 1) % 8)
    streak := x.streak + 1
    fwdLast := x.fwdLast.set! c fwd
    reqLast := if c = 0 then true else if c = 2 then false else x.reqLast }

/-- CUT_THROUGH_FORWARD (R384): after SOF and byte 0 the frame starts out on the other port if it may, else it is held. Relay
frames and the discards of R383 wait for the whole frame. -/
def cutThrough (p : Fin 2) (cls dst : Nat) (s : State) : State :=
  if !s.on (F.CHN_pSTAT_LOCK p.val) ∨ (s.port p).cut.isSome ∨ 4 ≤ cls ∨ 4 ≤ occupied p cls s then s
  else match routeIn p.val { cls := cls, dst := dst, typ := 0, src := 0 } s with
    | some (_, some o) =>
      let go := o = other p ∧ linkUp o s ∧ 0 < credits o cls s ∧ (s.port o).streak < 16
      let s := s.setPort p { s.port p with cut := some ⟨cls, dst, decide go⟩ }
      if go then
        let y := s.port o
        s.setPort o (sentAs cls true y)
      else s
    | _ => s

/-- The next frame of class c for port p: a forwarded one with its port and slot, or one of this unit (R388). -/
inductive TxPick where
  | fwd (from_ : Nat) (x : Slot) | own (f : Frame)
deriving DecidableEq, Repr

def pickClass (p : Fin 2) (c : Nat) (s : State) : Option TxPick :=
  let from_ := [(other p).val, 2]
  let fw := (from_.filterMap (fun q =>
    ((slotsOf q s).find? (fun x => x.fwd == some p && x.f.cls == c)).map (fun x => TxPick.fwd q x))).head?
  let ow := ((s.port p).queue.find? (fun f => f.cls == c)).map TxPick.own
  match fw, ow with
  | some a, some b => if (s.port p).fwdLast.toList.getD c false then some b else some a
  | some a, none => some a
  | none, b => b

/-- The class order of R388: RSP, MGMT, then REQ and MSG alternately. -/
def txPick (p : Fin 2) (s : State) : Option TxPick :=
  let x := s.port p
  let order := if x.reqLast then [1, 3, 2, 0] else [1, 3, 0, 2]
  (order.filterMap (fun c => if 0 < credits p c s then pickClass p c s else none)).head?

/-- The flash byte that a read of address `a` returns: with 3-byte addresses only 24 bits go out (R51). -/
def flashByte (a : Nat) (s : State) : Byte :=
  smapGet (if s.flash.mode.addr4 then a else a % 0x1000000) 0xFF#8 s.flash.bytes

/-- The next frame of a running relay round (R422): MARK, DATA, END; the image is read from the flash. -/
def relayFrame (pos : Nat) (s : State) : Frame × Option Nat :=
  let r := s.chn.relay
  let off := pos / 2
  if r.srcLen ≤ off then (mgmt 0x7F 0x1D (leBytes 4 r.srcLen ++ leBytes 4 r.round), none)
  else if off % 0x4000 = 0 ∧ pos % 2 = 0 then (mgmt 0x7F 0x1B (leBytes 4 off ++ leBytes 4 r.round), some (pos + 1))
  else
    let n := min 64 (r.srcLen - off)
    (mgmt 0x7F 0x1C ((List.range n).map (fun i => flashByte (r.srcBase + off + i) s)) false (off % 0x4000 / 64),
     some (2 * (off + n)))

/-- A running round keeps one relay frame waiting at DOWN (R421, R422). -/
def relayFeed (s : State) : State :=
  match s.chn.relay.sending with
  | none => s
  | some pos =>
    if (s.port 1).queue.any isRelay then s
    else
      let r := relayFrame pos s
      chainSendOn 1 { r.1 with src := ownAddr s } { s with chn := { s.chn with relay := { s.chn.relay with sending := r.2 } } }

/-- Does a frame in cut-through hold port p's line? -/
def cutBusy (p : Fin 2) (s : State) : Bool := match (s.port (other p)).cut with
  | some c => c.started
  | none => false

/-- TRANSMIT_NEXT_FRAME (R388): the next eligible frame, or an idle symbol (R376); `residence` is that of a forwarded SYNC. -/
def transmitNext (p : Fin 2) (residence : Nat) (s : State) : State :=
  if cutBusy p s then s
  else
  let s := if p = 1 then relayFeed s else s
  let x := s.port p
  let idle := idleSend p (s.setPort p { x with streak := 0 })
  if 16 ≤ x.streak then idle
  else match txPick p s with
    | none => idle
    | some k =>
      let c := match k with
        | .fwd _ y => y.f.cls
        | .own f => f.cls
      let isFwd := match k with
        | .fwd _ _ => true
        | .own _ => false
      let x := sentAs c isFwd x
      match k with
      | .own f =>
        let s := lineSend p.val f false (s.setPort p { x with queue := x.queue.erase f })
        if f.cls = 3 ∧ f.typ = 8 then
          match (s.port p).rateTo with
          | some r => (s.set (F.CHN_pSTAT_TXRATE p.val) r).setPort p { s.port p with rateTo := none }
          | none => s
        else s
      | .fwd q y =>
        let s := s.setPort p x
        let s := if y.dlv then setSlots q ((slotsOf q s).replace y { y with fwd := none }) s
          else releaseClass q c (setSlots q ((slotsOf q s).erase y) s)
        let hop := decide (y.f.hop = 63)
        let s := if hop ∧ q ≠ 2 then s.count (F.CHN_pDROP_HOPDROP q) else s
        lineSend p.val (forwardCopy y.f residence s) hop s

/-- A write to CHN_CFG before boot lock (R377): a changed rate of a port whose link is up is announced first. -/
def rateChange (p : Fin 2) (s : State) : State :=
  let r := if p = 0 then s.get F.CHN_CFG_UPRATE else s.get F.CHN_CFG_DNRATE
  if r = s.get (F.CHN_pSTAT_TXRATE p.val) then s
  else if linkUp p s then
    chainSendOn p { mgmt 0 8 [b8 r, 0#8, 0#8, 0#8] with src := ownAddr s } (s.setPort p { s.port p with rateTo := some r })
  else s.set (F.CHN_pSTAT_TXRATE p.val) r

end Sys2Proof.Machine
end

