-- ==== Sys2Proof/Machine/Reset.lean ====
section
/-!
DEFINITION. The resets (R40 to R43, R77, R458): what each clears and keeps.
-/
namespace Sys2Proof.Machine

/-- Resets that reload the image, by their bit in SYS_RSTCAUSE (R77): 0 POR, 1 pin, 2 WDR, 3 SOFT by Yarrow, 4 SOFT by chain. -/
abbrev ResetKind := Nat

/-- A fuse bit is blown (R459). -/
def blow (b : FuseBit) (f : Fuses) : Fuses :=
  match b with
  | .lcs i => { f with lcs := f.lcs ||| (1#4 <<< i) }
  | .lcsAck i => { f with lcsAck := f.lcsAck ||| (1#4 <<< i) }
  | .keyHash k i => { f with keyHash := f.keyHash.set! k (f.keyHash.toList.getD k 0#256 ||| (1#256 <<< i)) }
  | .keyProg k => { f with keyProg := f.keyProg ||| (1#4 <<< k) }
  | .keyRev k => { f with keyRev := f.keyRev ||| (1#4 <<< k) }
  | .rollback i => { f with rollback := f.rollback ||| (1#63 <<< i) }
  | .tset i => { f with tset := f.tset ||| (1#16 <<< i) }
  | .tack i => { f with tack := f.tack ||| (1#16 <<< i) }

/-- The fuses after the programmer was interrupted (R458): a bit begun completes, but may or may not where power failed. -/
def fusesAfter (powerLost : Bool) (s : State) : Fuses × State :=
  match s.lcs.queue with
  | ⟨_, b :: _⟩ :: _ =>
    if powerLost then
      let r := s.draw
      (if r.1 % 2 = 1 then blow b s.lcs.fuses else s.lcs.fuses, r.2)
    else (blow b s.lcs.fuses, s)
  | _ => (s.lcs.fuses, s)

/-- The ones of a thermometer. -/
def ones {n : Nat} (v : BitVec n) : Nat := ((List.range n).filter (fun i => v.getLsbD i)).length
/-- Is the pattern a thermometer? -/
def thermo {n : Nat} (v : BitVec n) : Bool := v == BitVec.ofNat n (2 ^ ones v - 1)

/-- The life-cycle state that fuses decode to (R460): 0 BLANK to 4 SPENT. -/
def decodeLcs (f : Fuses) : Nat :=
  if !thermo f.lcs ∨ !thermo f.lcsAck ∨ ones f.lcs < ones f.lcsAck then 4 else ones f.lcs

/-- The fuse fields that registers show live (R69, R480). -/
def fuseRegs (s : State) : State :=
  let f := s.lcs.fuses
  let s := (s.set F.LCS_STATE_KEYPROG f.keyProg.toNat).set F.LCS_STATE_KEYREV f.keyRev.toNat
  let s := (s.set F.LCS_STATE_TSET (ones f.tset)).set F.LCS_STATE_TACK (ones f.tack)
  let s := s.set F.SYS_VERS_FUSEROLL (ones f.rollback)
  forEach 4 (fun k s => forEach 8 (fun i s =>
    s.set (F.LCS_KEYHASH k i) ((f.keyHash.toList.getD k 0#256).extractLsb' (32 * i) 32).toNat) s) s

/-- What a reset of a kind clears and keeps beside registers (R40). POR loses every RAM; after the others RAM keeps its contents until the
start-up march. WDR and SOFT keep TB6 (R511), and a WDR due (R471: nothing cancels it). -/
def resetCore (k : ResetKind) (s : State) : State :=
  let fr := fusesAfter (k = 0) s
  let n := drawBits 16 fr.2
  { pending := s.pending
    now := s.now
    free := n.2.free
    out := s.out
    mem := if k = 0 then {} else s.mem
    memCtl := { epoch := s.memCtl.epoch }
    lcs := { fuses := fr.1, wdrDue := if 3 ≤ k then s.lcs.wdrDue else none,
             wdSrc := if 3 ≤ k then s.lcs.wdSrc else Vector.replicate 2 false }
    tb := if 2 ≤ k then { time := s.tb.time, counting := s.tb.counting } else {}
    flash := { s.flash with mode := {} }
    chn := { nonce := n.1, rejoinLeft := 3 }
    pwm := { flt := s.pwm.flt } }

/-- The machine after a reset of a kind (R40). WDR and SOFT keep the chain address and LCS_WDRCAUSE, SOFT keeps TRYB; the history,
TB_LOSTCNT and WIPECNT keep every count since POR. DEDUCED (assumption log 30): until step 3 reads the fuses, the life cycle is what they hold. -/
def resetTo (k : ResetKind) (s : State) : State :=
  let hist := if k = 0 then 0 else s.get F.SYS_RSTCAUSE_HIST ||| 2 ^ k
  let t := ((resetCore k s).set F.SYS_RSTCAUSE_LAST (2 ^ k)).set F.SYS_RSTCAUSE_HIST hist
  let t := t.setWord R.SYS_STRAP 2#32
  let t := if 1 ≤ k then (t.setWord R.TB_LOSTCNT (s.word R.TB_LOSTCNT)).set F.MEM_SECSTAT_WIPECNT (s.get F.MEM_SECSTAT_WIPECNT) else t
  let t := if 2 ≤ k then t.setWord R.LCS_WDRCAUSE (s.word R.LCS_WDRCAUSE) else t
  let t := if 3 ≤ k then t.set F.SYS_BOOTCTL_TRYB (s.get F.SYS_BOOTCTL_TRYB) else t
  let t := pageState (fuseRegs (t.set F.LCS_STATE_STATE (decodeLcs t.lcs.fuses)))
  if 2 ≤ k ∧ ownAddr s ≠ 0 then
    let a := s.get F.CHN_ADDR_ADDR
    setUpmap (mapOf 1 (a - 1)) ((t.set F.CHN_ADDR_ADDR a).set F.CHN_ADDR_VALID 1)
  else t

/-- SOFT by Yarrow or by the chain (R40, R42). -/
def softReset (chain : Bool) (s : State) : State := resetTo (if chain then 4 else 3) s

end Sys2Proof.Machine
end

