-- ==== Sys2Proof/Machine/LcsOps.lean ====
section
/-!
DEFINITION. Fuses, the life cycle, tamper, watchdogs and fault clearing (R458 to R480).
-/
namespace Sys2Proof.Machine

def State.updLcs (s : State) (f : Lcs → Lcs) : State := { s with lcs := f s.lcs }

/-- A request joins the fuse programmer's queue (R458). -/
def fuseRequest (who : FuseFor) (bits : List FuseBit) (s : State) : State :=
  s.updLcs (fun l => { l with queue := l.queue ++ [⟨who, bits⟩] })

/-- The LCS bits still to blow for a target state, ascending. -/
def lcsBits (target : Nat) (s : State) : List FuseBit :=
  ((List.range target).filter (fun i => !s.lcs.fuses.lcs.getLsbD i)).map .lcs

/-- The life cycle that governs the running unit (R480). -/
def lifeState (s : State) : Nat := s.get F.LCS_STATE_STATE
/-- JTAG boundary scan and RISC-V debug are open in these states (R461). -/
def jtagOpen (s : State) : Bool := lifeState s != 2
def debugOpen (s : State) : Bool := lifeState s == 0 || lifeState s == 1 || lifeState s == 3

-- Commands (R462, R463)

/-- A command completes with an error, event 0xE7. -/
def cmdError (e : Nat) (s : State) : State := (s.set F.LCS_CMDSTAT_ERR e).raise 0xE7
/-- A command is done, event 0xE6. -/
def cmdDone (s : State) : State :=
  ((s.updLcs (fun l => { l with cmd := none })).set F.LCS_CMDSTAT_BUSY 0 |>.set F.LCS_CMDSTAT_DONE 1).raise 0xE6

/-- A slot is programmed and not revoked. -/
def slotUsable (k : Nat) (s : State) : Bool := s.lcs.fuses.keyProg.getLsbD k && !s.lcs.fuses.keyRev.getLsbD k

/-- The error of a command, 0 where it is accepted (R462). -/
def cmdCheck (cid cmd slot : Nat) (s : State) : Nat :=
  let st := lifeState s
  let one := cid == 1
  let dbg := cid == 62
  let allowed := match cmd with
    | 1 => dbg && st == 0
    | 2 => one && st == 1
    | 3 => one && st == 2
    | 4 => st != 4 && (one || (dbg && jtagOpen s))
    | 5 => (one && st ≤ 2) || (dbg && st ≤ 1)
    | 6 => one && (st == 1 || st == 2 || st == 3)
    | _ => false
  if !allowed then 2
  else if cmd = 1 ∧ !(List.range 4).any (fun k => slotUsable k s) then 4
  else if cmd = 5 ∧ s.lcs.fuses.keyProg.getLsbD slot then 4
  else if cmd = 6 ∧ !slotUsable slot s then 4
  else if cmd = 6 ∧ !(List.range 4).any (fun k => k != slot && slotUsable k s) then 5
  else if s.bit F.ADC_SUPSTAT_LIVE 1 then 6
  else 0

/-- The digest that KEYPROG blows (R462, R480). -/
def keyDigest (s : State) : BitVec 256 :=
  (List.range 8).foldl (fun v i => v ||| ((s.word (R.LCS_KEYDATAi i)).setWidth 256 <<< (32 * i))) 0#256

/-- A write of LCS_CMD (R462, R463). -/
def lcsCommand (cid cmd slot key : Nat) (s : State) : State :=
  if s.on F.LCS_CMDSTAT_BUSY then cmdError 8 s
  else if key ≠ 0x4C43 then cmdError 1 s
  else
    let e := cmdCheck cid cmd slot s
    if e ≠ 0 then cmdError e s
    else
      let s := (s.updLcs (fun l => { l with cmd := some { cmd := cmd, slot := slot } })).set F.LCS_CMDSTAT_BUSY 1
      if cmd ≤ 4 then wipeStart .lifeCycle (s.updLcs (fun l => { l with secClosed := true }))
      else if cmd = 5 then
        let d := keyDigest s
        fuseRequest .key (((List.range 256).filter (fun i => d.getLsbD i)).map (.keyHash slot) ++ [.keyProg slot]) s
      else fuseRequest .key [.keyRev slot] s

-- The tamper response (R467, R468)

/-- TAMPSTAT records source i, with event 0xE0. -/
def tampRecord (i : Nat) (s : State) : State :=
  ((s.setBit F.LCS_TAMPSTAT_STICKY i true).set F.LCS_TAMPSTAT_LAST i).raise 0xE0

/-- The enabled action of source i (R467): none where it is disabled. In SEALED, sources 1 to 4 answer with at least WIPE. -/
def tampAction (i : Nat) (s : State) : Option Nat :=
  let act := s.get F.LCS_TAMPCFG_TACT / 4 ^ i % 4
  if lifeState s = 2 ∧ 1 ≤ i ∧ i ≤ 4 then some (max 1 act)
  else if s.bit F.LCS_TAMPCFG_TEN i then some act else none

/-- Step 3: the next TSET bit is blown; with TSET full the action becomes KILL and the wipe follows at once. -/
def tampStep3 (s : State) : State :=
  let n := ones s.lcs.fuses.tset
  if n < 16 then fuseRequest .tamper [.tset n] s
  else wipeStart .tamper (s.updLcs (fun l => { l with resp := l.resp.map (fun _ => { action := 3, step := 4 }) }))

/-- TAMPER_DETECT (R467, R468). -/
def tampDetect (i : Nat) (s : State) : State :=
  if s.bit F.LCS_TAMPSTAT_LIVE i then s
  else
    let s := s.setBit F.LCS_TAMPSTAT_LIVE i true
    match tampAction i s with
    | none => s
    | some 0 => faultSummary (tampRecord i s)
    | some act =>
      match s.lcs.resp with
      | some r => faultSummary (tampRecord i (s.updLcs (fun l => { l with resp := some { r with action := max r.action act } })))
      | none =>
        let s := s.updLcs (fun l => { l with secClosed := true, resp := some { action := act } })
        tampStep3 (tampRecord i s.faultEval)

/-- TAMPER_CONDITION_END (R467). -/
def tampEnd (i : Nat) (s : State) : State := s.setBit F.LCS_TAMPSTAT_LIVE i false

/-- Step 5 after the wipe (R468). DESIGN CHOICE (assumption log 78): its SOFT reset sets bit 3 of SYS_RSTCAUSE, as that of a life-cycle transition
does. -/
def tampFinish (s : State) : State :=
  match s.lcs.resp with
  | none => s
  | some r =>
    if r.action ≤ 1 then
      (s.updLcs (fun l => { l with resp := none, secClosed := l.cmd.isSome && decide ((l.cmd.map (·.cmd)).getD 5 ≤ 4) })).faultEval
    else if r.action = 2 then softReset false s
    else
      let s := s.updLcs (fun l => { l with resp := some { r with step := 5 } })
      match lcsBits 4 s with
      | [] => softReset false s
      | bs => fuseRequest .tamper bs s

/-- WIPE_DONE (R244, R463, R468): what called for the wipe goes on, tamper first (R458). -/
def wipeDone (ok : Bool) (s : State) : State :=
  if !s.on F.MEM_SECSTAT_WIPING then s
  else
    let causes := s.memCtl.wipeCauses
    let s := wipeFinish ok s
    let s := if causes.contains .tamper then tampFinish s else s
    if causes.contains .lifeCycle then
      match s.lcs.cmd with
      | some c => fuseRequest .lifeCycle (lcsBits c.cmd s) s
      | none => s
    else s

/-- A fuse request is complete. -/
def fuseFinished (who : FuseFor) (s : State) : State :=
  match who with
  | .tamper =>
    match s.lcs.resp with
    | some r =>
      if r.step = 5 then softReset false s
      else wipeStart .tamper (s.updLcs (fun l => { l with resp := some { r with step := 4 } }))
    | none => s
  | .lifeCycle => softReset false (cmdDone s)
  | .key => cmdDone s
  | .rollback => s.set F.SYS_BOOTCTL_FUSEBUSY 0

/-- FUSE_BIT_DONE (R458): a bit is blown; with `ok` false it stays intact, which ends a rollback request with FUSEERR (R69). -/
def fuseBitDone (ok : Bool) (s : State) : State :=
  match s.lcs.queue with
  | [] => s
  | ⟨who, []⟩ :: rest => fuseFinished who (s.updLcs (fun l => { l with queue := rest }))
  | ⟨who, b :: bs⟩ :: rest =>
    let s := if ok then s.updLcs (fun l => { l with fuses := blow b l.fuses, bootRead := blow b l.bootRead }) else s
    let s := faultSummary (fuseRegs s)
    if !ok ∧ who = .rollback then
      (s.updLcs (fun l => { l with queue := rest })).set F.SYS_BOOTCTL_FUSEBUSY 0 |>.set F.SYS_BOOTCTL_FUSEERR 1
    else if bs.isEmpty then fuseFinished who (s.updLcs (fun l => { l with queue := rest }))
    else s.updLcs (fun l => { l with queue := ⟨who, bs⟩ :: rest })

/-- BOOT_CONFIRM (R69): the rollback fuses are to reach the running image's ROLLBACK. With VDDIO low the request is refused (R458), which is
a failure of the programming (DEDUCED, assumption log 83). -/
def bootConfirm (s : State) : State :=
  let n := ones s.lcs.fuses.rollback
  let t := s.get F.SYS_VERS_IMGROLL
  if t ≤ n ∨ s.on F.SYS_BOOTCTL_FUSEBUSY then s
  else if s.bit F.ADC_SUPSTAT_LIVE 1 then s.set F.SYS_BOOTCTL_FUSEERR 1
  else
    fuseRequest .rollback (((List.range t).drop n).map .rollback) (s.set F.SYS_BOOTCTL_FUSEBUSY 1)

/-- FUSE_REREAD (R467), every 16 000 000 TB10 ticks: what the fuses read as now, against the boot read. -/
def fuseReread (match_ : Bool) (s : State) : State :=
  if s.tb.cnt.get 10 < s.lcs.rereadAt + 16000000 then s
  else
    let s := s.updLcs (fun l => { l with rereadAt := s.tb.cnt.get 10 })
    if match_ then tampEnd 4 s else tampDetect 4 s

/-- TAMPCFG_WRITE (R469). -/
def tampcfgWrite (w : Word) (s : State) : State :=
  if s.on F.LCS_TAMPCFG_LOCK then
    let old := s.get F.LCS_TAMPCFG_TACT
    let new := fieldOf 6 12 w
    let t := (List.range 6).foldl (fun v i => v + max (old / 4 ^ i % 4) (new / 4 ^ i % 4) * 4 ^ i) 0
    (s.set F.LCS_TAMPCFG_TEN (s.get F.LCS_TAMPCFG_TEN ||| fieldOf 0 6 w)).set F.LCS_TAMPCFG_TACT t
  else s.setWord R.LCS_TAMPCFG (w &&& 0x8007FFFF#32)

/-- A write of LCS_TAMPSTAT clears the sticky bits it names (R480). -/
def tampClear (w : Word) (s : State) : State :=
  s.set F.LCS_TAMPSTAT_STICKY (s.get F.LCS_TAMPSTAT_STICKY &&& (0x3F - fieldOf 8 6 w))

-- Watchdogs (R470 to R473)

def wdIx (n : Nat) : Fin 2 := ⟨n % 2, Nat.mod_lt _ (by decide)⟩
/-- The count of watchdog n, and its OPEN flag. -/
def setWdCount (n c : Nat) (s : State) : State :=
  (s.set (F.LCS_WDnSTAT_COUNT n) c).setB (F.LCS_WDnSTAT_OPEN n) (decide (s.get (F.LCS_WDnWIN_WINLO n) ≤ c))

/-- WATCHDOG_VIOLATION (R471): a second one while the WDR is due changes nothing. -/
def wdViolation (n viol : Nat) (s : State) : State :=
  if s.lcs.wdrDue.isSome then s
  else
    let s := s.updLcs (fun l => { l with wdSrc := l.wdSrc.set (wdIx n).val true (wdIx n).isLt, wdrDue := some 16000 })
    let s := (s.set F.LCS_WDRCAUSE_WD n).set F.LCS_WDRCAUSE_VIOL viol
    s.faultEval.raise (0xE1 + n)

/-- A watchdog runs while EN is 1 and the unit is not in LIMP (R473). -/
def wdRuns (n : Nat) (s : State) : Bool := s.on (F.LCS_WDnCTL_EN n) && s.get F.SYS_BOOTSTAT_STATE != 9

/-- The count of watchdog n restarts at 0 (R470). -/
def wdRestart (n : Nat) (s : State) : State :=
  setWdCount n 0 (s.updLcs (fun l => { l with wd := vupd l.wd (wdIx n) (fun _ => {}) }))

/-- EN goes from 0 to 1: the count starts, or CFGERR where the window is invalid (R470, R472). -/
def wdEnable (n : Nat) (s : State) : State :=
  let lo := s.get (F.LCS_WDnWIN_WINLO n)
  let hi := s.get (F.LCS_WDnWIN_WINHI n)
  if hi ≤ lo then s.set (F.LCS_WDnCTL_CFGERR n) 1
  else (wdRestart n (s.set (F.LCS_WDnCTL_EN n) 1)).set (F.LCS_WDnSTAT_NEXT n) 0

/-- A write of LCS_WDnCTL (R472). -/
def wdCtlWrite (n : Nat) (w : Word) (s : State) : Ans × State :=
  if s.on (F.LCS_WDnCTL_LOCK n) then (.refused .busy, s)
  else
    let en := s.on (F.LCS_WDnCTL_EN n)
    let s := ((s.set (F.LCS_WDnCTL_LOCK n) (fieldOf 1 1 w)).set (F.LCS_WDnCTL_DBGPAUSE n) (fieldOf 2 1 w)).set
      (F.LCS_WDnCTL_KCID n) (fieldOf 8 6 w)
    let s := if fieldOf 16 1 w = 1 then s.set (F.LCS_WDnCTL_CFGERR n) 0 else s
    if fieldOf 0 1 w = 0 then (.ok 0#64, s.set (F.LCS_WDnCTL_EN n) 0)
    else if en then (.ok 0#64, s)
    else (.ok 0#64, wdEnable n s)

/-- A write of LCS_WDnWIN (R472). -/
def wdWinWrite (n : Nat) (w : Word) (s : State) : Ans × State :=
  if s.on (F.LCS_WDnCTL_LOCK n) then (.refused .busy, s)
  else
    let s := s.setWord (R.LCS_WDnWIN n) w
    (.ok 0#64, setWdCount n (s.get (F.LCS_WDnSTAT_COUNT n)) s)

/-- WATCHDOG_KICK (R470, R471): the first cause that applies, in the order of the table. -/
def wdKick (n cid key : Nat) (s : State) : State :=
  if !wdRuns n s ∨ s.lcs.wdSrc.get (wdIx n) then s
  else
    let next := s.get (F.LCS_WDnSTAT_NEXT n)
    if s.get (F.LCS_WDnSTAT_COUNT n) < s.get (F.LCS_WDnWIN_WINLO n) then wdViolation n 1 s
    else if key ≠ (if next = 0 then 0xA55A else 0x5AA5) then wdViolation n 3 s
    else if cid ≠ s.get (F.LCS_WDnCTL_KCID n) then wdViolation n 4 s
    else (wdRestart n s).set (F.LCS_WDnSTAT_NEXT n) (1 - next)

/-- WATCHDOG_LATE (R471): COUNT has reached WINHI. -/
def wdLate (n : Nat) (s : State) : State :=
  if wdRuns n s ∧ s.get (F.LCS_WDnWIN_WINHI n) ≤ s.get (F.LCS_WDnSTAT_COUNT n) then wdViolation n 2 s else s

/-- WATCHDOG_RESET (R471): the WDR falls due. -/
def wdReset (s : State) : State := if s.lcs.wdrDue = some 0 then resetTo 2 s else s

/-- TB10 leaves or regains its rate against TB0 (R475). Outside BAND OK with TB_REFSTAT.FINE the monitor does not
act on a departure. -/
def clkmonSet (fault : Bool) (s : State) : State :=
  if fault && !(s.get F.TB_REFSTAT_BAND == 0 && s.on F.TB_REFSTAT_FINE) then s
  else (s.updLcs (fun l => { l with clkmon := fault })).faultEval

/-- FAULT_SET (R475). -/
def faultSet (w : Word) (s : State) : State := if fieldOf 0 1 w = 1 then s.faultPulse 11 else s

/-- FAULT_CLEAR (R477). -/
def faultClear (key : Nat) (s : State) : State :=
  if key ≠ 0xFC1A then s
  else
    let s := s.set F.LCS_FSTICKY (s.get F.LCS_FSTICKY &&& s.get F.LCS_FACT)
    let s :=
      if s.on F.LCS_FSTAT_SAFE && !(List.range 12).any (fun b => s.bit F.LCS_FACT b && actsSafe b s) then
        (s.set F.LCS_FSTAT_SAFE 0).raise 0xE4
      else s
    faultSummary s

/-- A write of LCS_FCLASS (R475): once LOCK is 1, bits can only be set. An active source that comes to act as SAFE latches SAFE
(DEDUCED from R476, assumption log 57). -/
def fclassWrite (w : Word) (s : State) : State :=
  let new := w &&& 0x80000FE0#32
  (s.setWord R.LCS_FCLASS (if s.on F.LCS_FCLASS_LOCK then s.word R.LCS_FCLASS ||| new else new)).faultEval

/-- Writes of the life-cycle block through the fabric (R480). What only CID 1 may do (R469, R475, R477) a write by CID 0 leaves undone
(DEDUCED, assumption log 11). -/
def lcsWrite (cid a : Nat) (w : Word) (s : State) : Option (Ans × State) :=
  if a < 0x5000F000 ∨ 0x50010000 ≤ a then none
  else
    let off := a - 0x5000F000
    if 0x100 ≤ off ∧ off < 0x140 ∧ off % 0x20 = 8 then
      some (.ok 0#64, wdKick ((off - 0x100) / 0x20) cid (fieldOf 0 16 w) s)
    else if 2 ≤ cid then some (.refused .deny, s)
    else if off = 0x10 then some (.ok 0#64, lcsCommand cid (fieldOf 0 4 w) (fieldOf 4 2 w) (fieldOf 16 16 w) s)
    else if cid ≠ 1 ∧ (off = 0xC0 ∨ off = 0x188 ∨ off = 0x194 ∨ off = 0x198) then some (.ok 0#64, s)
    else if off = 0xC0 then some (.ok 0#64, tampcfgWrite w s)
    else if off = 0xC4 then some (.ok 0#64, faultSummary (tampClear w s))
    else if 0x100 ≤ off ∧ off < 0x140 ∧ off % 0x20 = 0 then some (wdCtlWrite ((off - 0x100) / 0x20) w s)
    else if 0x100 ≤ off ∧ off < 0x140 ∧ off % 0x20 = 4 then some (wdWinWrite ((off - 0x100) / 0x20) w s)
    else if off = 0x188 then some (.ok 0#64, fclassWrite w s)
    else if off = 0x18C then some (.ok 0#64, faultSummary (s.setWord R.LCS_NFMASK (w &&& 0xFE0#32)))
    else if off = 0x194 then some (.ok 0#64, faultClear (fieldOf 0 16 w) s)
    else if off = 0x198 then some (.ok 0#64, faultSet w s)
    else if off = 0x19C then some (.ok 0#64, faultSummary (s.setWord R.LCS_NFCTL (w &&& 1#32)))
    else none

/-- A write by CID 62 through the TAP instruction LCSACC (R462, R466, R480): LCS_CMD and LCS_KEYDATA only, in BLANK, DEVELOP and
RETURNED. -/
def lcsAccWrite (a : Nat) (w : Word) (s : State) : Ans × State :=
  if !debugOpen s then (.refused .deny, s)
  else if a = 0x5000F010 then (.ok 0#64, lcsCommand 62 (fieldOf 0 4 w) (fieldOf 4 2 w) (fieldOf 16 16 w) s)
  else if 0x5000F020 ≤ a ∧ a < 0x5000F040 ∧ a % 4 = 0 then
    (.ok 0#64, s.setWord (R.LCS_KEYDATAi ((a - 0x5000F020) / 4)) w)
  else (.refused .deny, s)

end Sys2Proof.Machine
end

