-- ==== Sys2Proof/Machine/CampCore.lean ====
section
/-!
DEFINITION. Campion cores: levels, start, restart and the registers that show them (R106, R117 to R122, R136 to R138).
-/
namespace Sys2Proof.Machine

/-- A core's index, from any number. -/
def coreIx (n : Nat) : Fin 2 := ⟨n % 2, Nat.mod_lt _ (by decide)⟩
def State.updCamp (s : State) (c : Fin 2) (f : Camp → Camp) : State := { s with camp := vupd s.camp c f }

/-- The CID of context `k` of core `c` (R79). -/
def ctxCid (c : Fin 2) (k : Nat) : Nat := 17 + 4 * c.val + k

/-- A core after release and restart: every register of every context at its value of R106. -/
def freshCamp : Camp := {}

/-- SR as it reads (R107). -/
def srWord (k : Nat) (x : CtxRegs) : Word :=
  BitVec.ofNat 32 ((x.sr.toNat &&& 0x5F37) + k * 64 + (if x.loops.isEmpty then 0 else 0x8000) + x.loops.length * 0x10000)

/-- IPL of a context. -/
def ctxIpl (x : CtxRegs) : Nat := fieldOf 4 2 x.sr

/-- The pending routes of level `k` of core `c`, best first (R100). -/
def levelRoute (c : Fin 2) (k : Nat) (s : State) : Option Nat := bestRoute (2 + c.val) (some k) s

/-- Is level `k` of core `c` pending (R117)? -/
def levelPending (c : Fin 2) (k : Nat) (s : State) : Bool :=
  (s.sched.get c).lvlTrig.toList.getD k false || (levelRoute c k s).isSome

/-- Is level `k` above what runs on core `c` (R117)? -/
def levelAbove (c : Fin 2) (k : Nat) (s : State) : Bool :=
  let x := s.camp.get c
  decide (ctxIpl (x.regs.get x.ctx) < k) && decide (x.ctx.val < k)

/-- The highest level of core `c` that is pending and above what runs. -/
def levelReady (c : Fin 2) (s : State) : Option Nat :=
  [3, 2, 1].find? (fun k => levelAbove c k s && levelPending c k s)

/-- A result lands in a register. -/
def putReg (w : CWrite) (x : CtxRegs) : CtxRegs :=
  let merge := fun (old : Nat) => (old &&& (2 ^ 40 - 1 - w.mask)) ||| (w.val &&& w.mask)
  match w.reg with
  | .d i => { x with d := x.d.set! i (BitVec.ofNat 32 (merge (x.d.toList.getD i 0#32).toNat)) }
  | .a i => { x with a := x.a.set! i (BitVec.ofNat 16 (merge (x.a.toList.getD i 0#16).toNat)) }
  | .n i => { x with n := x.n.set! i (BitVec.ofNat 16 (merge (x.n.toList.getD i 0#16).toNat)) }
  | .re i => { x with re := x.re.set! i (BitVec.ofNat 40 w.val) }
  | .im i => { x with im := x.im.set! i (BitVec.ofNat 40 w.val) }
  | .sr => { x with sr := BitVec.ofNat 32 (merge x.sr.toNat) }

/-- An index of a context, from any number. -/
def ctxIx (k : Nat) : Fin 4 := ⟨k % 4, Nat.mod_lt _ (by decide)⟩

/-- The next bundle is reached: results due for it land in the order of their bundles (R109, R111). -/
def nextBundle (x : Camp) : Camp :=
  let k := x.bundle + 1
  let regs := (x.pend.filter (fun w => decide (w.due ≤ k))).foldl
    (fun (r : Vector CtxRegs 4) w => vupd r (ctxIx w.ctx) (putReg w)) x.regs
  { x with bundle := k, regs := regs, pend := x.pend.filter (fun w => decide (k < w.due)) }

/-- Is the core at an interruptible boundary (R118)? -/
def boundaryOpen (x : Camp) : Bool := x.delay.isNone && x.rep == 0

/-- No bundle is in progress: none has been issued, or context 0 waits (R135). -/
def noBundle (c : Fin 2) (s : State) : Bool :=
  let x := s.camp.get c
  x.bundle == 0 || (x.ctx == 0 && (s.sched.get c).inWait)

/-- Note the first bundle that each level which has become startable waits for: the one in progress, or the next (R121). -/
def noteLevels (c : Fin 2) (s : State) : State :=
  let first := if noBundle c s then (s.camp.get c).bundle + 1 else (s.camp.get c).bundle
  s.updCamp c (fun x => { x with elig := x.elig.mapIdx (fun k e =>
    if levelAbove c k s && levelPending c k s then some (e.getD first) else none) })

/-- LEVEL_START (R117 to R122): the switch into the highest startable level, in one bundle. -/
def levelStart (c : Fin 2) (s : State) : State :=
  let x := s.camp.get c
  if !x.run || !boundaryOpen x then s
  else match levelReady c s with
    | none => s
    | some k =>
      let s := noteLevels c s
      let kf : Fin 4 := ⟨k % 4, Nat.mod_lt _ (by decide)⟩
      let r : Nat × State :=
        if (s.sched.get c).lvlTrig.get kf then
          (256, s.updSched c (fun y => { y with lvlTrig := vupd y.lvlTrig kf (fun _ => false) }))
        else match levelRoute c k s with
          | some q => (s.get (F.EVR_ROUTE_SRC q) + 512 * q, setRoutePend q false s)
          | none => (0, s)
      r.2.updCamp c (fun x =>
        let x := nextBundle x
        let held := x.bundle + 1 - (x.elig.get kf).getD x.bundle
        { x with
          stack := x.ctx :: x.stack
          ctx := kf
          back := false
          lvlsrc := vupd x.lvlsrc kf (fun _ => r.1)
          elig := vupd x.elig kf (fun _ => none)
          maxHold := max x.maxHold (min held 0x7FF)
          regs := vupd x.regs kf (fun g =>
            { g with pc := BitVec.ofNat 14 (8 * k), loops := [], sr := fieldPut 4 2 k g.sr }) })

/-- Context 0 starts at P syllable 0 (R68, R136). -/
def coreStart (c : Fin 2) (s : State) : State :=
  (s.updCamp c (fun x => { x with run := true, held := false })).updSched c (fun y => { y with mute := false })

/-- CORE_RESTART (R136). DEDUCED (assumption log 48): a loop trigger waiting for WAIT or a level goes with the routes of step 4. -/
def coreRestart (c : Fin 2) (s : State) : State :=
  let keep := s.on (F.SYS_CPnCTL_KEEPLEGS c.val)
  let hold := s.on (F.SYS_CPnCTL_HOLD c.val)
  let was := governed c s
  let s :=
    if keep then s.updSched c (fun y => { y with mute := true })
    else (legsFault (fun l => legOwnedBy c.val l s) 4 s).updSched c (fun y => { limit := y.limit })
  let s := if governed c s ≠ was then govChange was s else s
  let s := forEach 128 (fun q s => if routePend q s && routeClass q s == 2 + c.val then setRoutePend q false s else s) s
  let s := s.updSched c (fun y => { y with pend := false, inWait := false, lvlTrig := Vector.replicate 4 false })
  let s := forEach 4 (fun k s => poolReclaim (ctxCid c k) (semReclaim (ctxCid c k) s)) s
  let s := s.updCamp c (fun _ => freshCamp)
  if hold then s.updCamp c (fun x => { x with held := true }) else coreStart c s

/-- A write of SYS_CPnCTL (R136 to R138): RESTART with its key, or HOLD cleared on a held core. -/
def cpCtlWrite (c : Fin 2) (cid : Nat) (w : Word) (s : State) : Ans × State :=
  if !isOne cid then (.refused .deny, s)
  else
    let bad := decide (fieldOf 2 1 w = 1 ∧ fieldOf 16 16 w ≠ 0x5AC3)
    let s :=
      if bad then s.set (F.SYS_CPnSTAT_KEYERR c.val) 1
      else (s.set (F.SYS_CPnCTL_HOLD c.val) (fieldOf 0 1 w)).set (F.SYS_CPnCTL_KEEPLEGS c.val) (fieldOf 1 1 w)
    if bad then (.ok 0#64, s)
    else if fieldOf 2 1 w = 1 then (.ok 0#64, coreRestart c s)
    else if (s.camp.get c).held && fieldOf 0 1 w == 0 then (.ok 0#64, coreStart c s)
    else (.ok 0#64, s)

/-- Sixteen bits of a signed number. -/
def bits16 (v : Int) : Nat := (BitVec.ofInt 16 v).toNat

/-- Reads of the Campion registers of the system block that show the cores as they are (R138). -/
def cpRead (a : Nat) (s : State) : Option Word :=
  let c := coreIx ((a - 0x50000200) / 0x20)
  let x := s.camp.get c
  let y := s.sched.get c
  match (a - 0x50000200) % 0x20 with
  | 4 => some (BitVec.ofNat 32 (((s.word (R.SYS_CPnSTAT c.val)).toNat &&& 0x60) + (if x.run then 1 else 0) +
      (if x.held then 2 else 0) + x.ctx.val * 8))
  | 8 => some (BitVec.ofNat 32 (x.regs.get x.ctx).pc.toNat)
  | 12 => some (BitVec.ofNat 32 (bits16 y.slack + 65536 * bits16 (minSlack y)))
  | 16 => some (BitVec.ofNat 32 (y.missCnt % 65536 + 65536 * (y.consec % 16)))
  | 20 => some (BitVec.ofNat 32 x.maxHold)
  | _ => none

end Sys2Proof.Machine
end

