-- ==== Sys2Proof/Machine/CampIsa.lean ====
section
/-!
DEFINITION. The Campion instruction set (R139 to R161): what each syllable of a bundle computes from the registers as they stand at
the bundle's issue.
-/
namespace Sys2Proof.Machine

/-- A data access of a bundle (R143, R144): its slot, whether to Y space, a write, the word address, its words, the value stored,
and where a load goes. -/
structure CMem where
  slot : Nat
  y : Bool
  write : Bool
  ea : Nat
  size : Nat
  val : Nat := 0
  dest : Option CReg := none
deriving DecidableEq, Repr

/-- What a BR syllable does to the flow (R159). A branch carries its target if taken. -/
inductive Ctrl where
  | branch (target : Option Nat) | doLoop (count le : Nat) | endDo | rep (n : Nat) | reti | wait | commit (g : Nat)
deriving DecidableEq, Repr

/-- What a syllable or bundle does: register results (register, bits, value, latency, slot), accesses, control, ILL. -/
structure COut where
  writes : List (CReg × Nat × Nat × Nat × Nat) := []
  mems : List CMem := []
  ctrl : Option Ctrl := none
  ill : Bool := false
deriving DecidableEq, Repr

/-- Where and in what a bundle issues: the context's number and registers, its results on their way, and the rules of its place (delay
slot, bundle at LE, repeated), with its address and that of the next bundle, and CALL's link. -/
structure CAt where
  k : Nat
  x : CtxRegs
  pend : List CWrite
  inDelay : Bool
  atLe : Bool
  repeated : Bool
  start : Nat
  link : Nat

def CAt.d (c : CAt) (i : Nat) : Word := c.x.d.toList.getD i 0#32
def CAt.a (c : CAt) (i : Nat) : Half := c.x.a.toList.getD i 0#16
def CAt.n (c : CAt) (i : Nat) : Half := c.x.n.toList.getD i 0#16
/-- A half of an accumulator as a move, the ALU or the other slot reads it. -/
def CAt.ca (c : CAt) (im : Bool) (i : Nat) : Int := ((if im then c.x.im else c.x.re).toList.getD i 0#40).toInt

/-- A half of an accumulator as MAC slot `slot` accumulates it: its own latest result (R109). -/
def CAt.acc (c : CAt) (slot : Nat) (im : Bool) (i : Nat) : Int :=
  match c.pend.reverse.find? (fun w => w.ctx == c.k && w.slot == slot && w.reg == (if im then .im i else .re i)) with
  | some w => (BitVec.ofNat 40 w.val).toInt
  | none => c.ca im i

/-- The SR flags: bit numbers of R107. -/
def srC : Nat := 8
def srV : Nat := 9
def srZ : Nat := 10
def srN : Nat := 11
def srSV : Nat := 12
def srILL : Nat := 14

/-- A result for the whole of a register. -/
def cput (r : CReg) (v lat slot : Nat) : CReg × Nat × Nat × Nat × Nat := (r, 2 ^ 40 - 1, v, lat, slot)

/-- Flag results: each named flag with its value, usable by the next bundle but one if `lat` says so. -/
def cflags (fs : List (Nat × Bool)) (lat slot : Nat) : CReg × Nat × Nat × Nat × Nat :=
  (.sr, fs.foldl (fun m f => m + 2 ^ f.1) 0, fs.foldl (fun m f => if f.2 then m + 2 ^ f.1 else m) 0, lat, slot)

-- LX and LY (R143 to R147)

/-- The smallest b with 2^b ≥ L. -/
def ceilLog (l : Nat) : Nat := ((List.range 16).find? (fun b => decide (l ≤ 2 ^ b))).getD 15

/-- The circular update (R146): the new address, and whether the length is invalid. -/
def circular (a step len : Half) : Half × Bool :=
  let l := len.toInt
  if l ≤ 0 ∨ 16384 < l then (a + step, true)
  else
    let b := ceilLog l.toNat
    let base := a.toNat / 2 ^ b * 2 ^ b
    let off : Int := (a.toNat : Int) - base
    (BitVec.ofNat 16 (base + ((off + step.toInt) % l).toNat), false)

/-- The order of 14 bits reversed. -/
def rev14 (v : Nat) : Nat := (List.range 14).foldl (fun r i => if natBit v i then r + 2 ^ (13 - i) else r) 0

/-- The bit-reversed update (R147). -/
def bitrev (a step : Half) : Half :=
  BitVec.ofNat 16 (a.toNat / 16384 * 16384 + rev14 ((rev14 (a.toNat % 16384) + rev14 (step.toNat % 16384)) % 16384))

/-- The registers an LX or LY operation can name: data, address or modifier. -/
def lsReg (op reg : Nat) : Option CReg :=
  match op with
  | 2 | 7 | 9 => if reg < 16 then some (.a reg) else none
  | 3 | 8 => if reg < 8 then some (.n reg) else none
  | _ => some (.d reg)

/-- Extension field legal for the mode (R143)? -/
def extOk (mode ext : Nat) : Bool :=
  if mode ≤ 2 then ext == 0 else if mode = 6 then true else ext % 512 == 0

/-- An LX or LY syllable. None: it executes as NOP and sets ILL. -/
def execLs (c : CAt) (slot : Nat) (w : Word) : Option COut :=
  let op := fieldOf 24 4 w
  let ab := fieldOf 15 4 w
  let mode := fieldOf 12 3 w
  let ext := fieldOf 0 12 w
  match lsReg op (fieldOf 19 5 w) with
  | none => none
  | some r =>
    if 9 < op ∨ !extOk mode ext ∨ (op = 9 ∧ mode < 6) then none
    else
      let a := c.a ab
      let nk := c.n (ext / 512)
      let size := if op = 1 ∨ op = 6 then 2 else 1
      let ea : Half := if mode = 6 then a + (BitVec.ofNat 12 ext).signExtend 16 else if mode = 7 then a + nk else a
      let upd : Option (Half × Bool) := match mode with
        | 1 => some (a + BitVec.ofNat 16 size, false)
        | 2 => some (a - BitVec.ofNat 16 size, false)
        | 3 => some (a + nk, false)
        | 4 => some (circular a nk (c.n (ext / 512 ^^^ 1)))
        | 5 => some (bitrev a nk, false)
        | _ => none
      let base := match upd with
        | some u => [cput (.a ab) u.1.toNat 1 slot]
        | none => []
      let ill := match upd with
        | some u => u.2
        | none => false
      let src : Nat := match r with
        | .a i => (c.a i).toNat
        | .n i => (c.n i).toNat
        | .d i => if op = 5 then (c.d i).toNat / 65536 else if op = 6 then (c.d i).toNat else (c.d i).toNat % 65536
        | _ => 0
      if op = 9 then some { writes := [cput r ea.toNat 1 slot] }
      else
        let m : CMem := { slot := slot, y := slot == 1, write := decide (4 ≤ op), ea := ea.toNat, size := size, val := src,
                          dest := if op < 4 then some r else none }
        some { writes := base, mems := [m], ill := ill }

-- MAC0 and MAC1 (R149 to R152)

/-- A half of a MAC result, limited (R151): the value, and whether it was clamped. -/
def macLimit (sat : Bool) (v : Int) : Int × Bool :=
  if sat then
    if v < -(2 ^ 31) then (-(2 ^ 31), true) else if 2 ^ 31 - 1 < v then (2 ^ 31 - 1, true) else (v, false)
  else (v, false)

/-- A MAC syllable. -/
def execMac (c : CAt) (slot : Nat) (w : Word) : Option COut :=
  let op := fieldOf 23 5 w
  let s := fieldOf 22 1 w == 1
  let ca := fieldOf 20 2 w
  let dx := fieldOf 15 5 w
  let dy := fieldOf 10 5 w
  let cb := fieldOf 8 2 w
  let xh := fieldOf 7 1 w
  let badField := fieldOf 0 7 w != 0 || (cb != 0 && op != 13 && op != 14) || (xh != 0 && op != 7 && op != 8) ||
    (op == 0 && (dx != 0 || dy != 0))
  if 14 < op ∨ badField then none
  else
    let x := c.d dx
    let y := c.d dy
    let xr := (x.extractLsb' 0 16).toInt
    let xi := (x.extractLsb' 16 16).toInt
    let yr := (y.extractLsb' 0 16).toInt
    let yi := (y.extractLsb' 16 16).toInt
    let sc := if xh = 1 then xi else xr
    let re := c.acc slot false ca
    let im := c.acc slot true ca
    let bre := if cb = ca then re else c.ca false cb
    let bim := if cb = ca then im else c.ca true cb
    let r : Int × Int := match op with
      | 0 => (0, 0)
      | 1 => (xr * yr - xi * yi, xr * yi + xi * yr)
      | 2 => (re + (xr * yr - xi * yi), im + (xr * yi + xi * yr))
      | 3 => (re - (xr * yr - xi * yi), im - (xr * yi + xi * yr))
      | 4 => (xr * yr + xi * yi, xi * yr - xr * yi)
      | 5 => (re + (xr * yr + xi * yi), im + (xi * yr - xr * yi))
      | 6 => (re - (xr * yr + xi * yi), im - (xi * yr - xr * yi))
      | 7 => (sc * yr, sc * yi)
      | 8 => (re + sc * yr, im + sc * yi)
      | 9 => (xr * yr, xi * yi)
      | 10 => (re + xr * yr, im + xi * yi)
      | 11 => (re + xr * yr + xi * yi, im)
      | 12 => (x.toInt, y.toInt)
      | 13 => (re + bre, im + bim)
      | _ => (re - bre, im - bim)
    let sat := s && op != 0 && op != 12
    let a := macLimit sat r.1
    let b := macLimit (sat && op != 11) r.2
    let put := fun (g : CReg) (v : Int) => cput g (BitVec.ofInt 40 v).toNat 3 slot
    some { writes := [put (.re ca) a.1] ++ (if op = 11 then [] else [put (.im ca) b.1]) ++
                     (if a.2 || b.2 then [cflags [(srSV, true)] 3 slot] else []) }

-- ALU (R153 to R158)

/-- A result of `wid` bits (R155, R156): the bits written, whether the exact value does not fit, and whether it was clamped. -/
def aluLimit (wid : Nat) (sat : Bool) (v : Int) : Nat × Bool × Bool :=
  let lo : Int := -(2 ^ (wid - 1))
  let hi : Int := 2 ^ (wid - 1) - 1
  let bad := decide (v < lo ∨ hi < v)
  if bad && sat then ((BitVec.ofInt wid (if v < lo then lo else hi)).toNat, true, true)
  else ((BitVec.ofInt wid v).toNat, bad, false)

/-- The Z and N of a 32-bit result. -/
def zn (r : Nat) : List (Nat × Bool) := [(srZ, r == 0), (srN, natBit r 31)]

/-- A result to Dd with the flags `fs`, and SV where it was clamped. -/
def aluOut (dd r : Nat) (fs : List (Nat × Bool)) (sv : Bool) : COut :=
  { writes := [cput (.d dd) r 1 4] ++ (if fs.isEmpty then [] else [cflags fs 1 4]) ++
              (if sv then [cflags [(srSV, true)] 1 4] else []) }

/-- An exact signed result with carry `cy`, for the C V Z N operations. -/
def aluCvzn (dd : Nat) (sat cy : Bool) (v : Int) : COut :=
  let l := aluLimit 32 sat v
  aluOut dd l.1 ([(srC, cy), (srV, l.2.1)] ++ zn l.1) l.2.2

/-- A left shift (R154). -/
def aluShl (dd : Nat) (sat : Bool) (a : Word) (k : Nat) : COut :=
  aluCvzn dd sat (decide (0 < k) && a.getLsbD (32 - k)) (a.toInt * 2 ^ k)

/-- A right shift, arithmetic or logical. -/
def aluShr (dd : Nat) (arith : Bool) (a : Word) (k : Nat) : COut :=
  let r := (if arith then a.sshiftRight k else a >>> k).toNat
  aluOut dd r ([(srC, decide (0 < k) && a.getLsbD (k - 1)), (srV, false)] ++ zn r) false

/-- A logic operation. -/
def aluLogic (dd : Nat) (r : Word) : COut := aluOut dd r.toNat ((srV, false) :: zn r.toNat) false

/-- The flags of a comparison a − b. -/
def aluCmp (a b : Word) : COut :=
  let v := a.toInt - b.toInt
  { writes := [cflags ([(srC, decide (b.toNat ≤ a.toNat)), (srV, (aluLimit 32 false v).2.1)] ++ zn (a - b).toNat) 1 4] }

/-- The signed halves of a word. -/
def halves (w : Word) : Int × Int := ((w.extractLsb' 0 16).toInt, (w.extractLsb' 16 16).toInt)

/-- A packed result from exact halves. -/
def packed (dd : Nat) (sat : Bool) (lo hi : Int) : COut :=
  let l := aluLimit 16 sat lo
  let h := aluLimit 16 sat hi
  let r := l.1 + 65536 * h.1
  aluOut dd r [(srV, l.2.1 || h.2.1), (srZ, r == 0), (srN, natBit r 31)] (l.2.2 || h.2.2)

/-- MAXI and MINI (R157). -/
def aluSearch (c : CAt) (dd : Nat) (a : Word) (isMax : Bool) : Option COut :=
  if dd % 2 = 1 then none
  else
    let best := c.d dd
    let idx := (c.d (dd + 1)).toNat
    let cnt := idx / 65536
    let better := if isMax then decide (best.toInt < a.toInt) else decide (a.toInt < best.toInt)
    some { writes := [cput (.d dd) (if better then a else best).toNat 1 4,
                      cput (.d (dd + 1)) ((if better then cnt else idx % 65536) + 65536 * ((cnt + 1) % 65536)) 1 4,
                      cflags [(srC, better)] 1 4] }

/-- A half of an accumulator under SCALE (R158). -/
def scaled (c : CAt) (im : Bool) (i : Nat) : Int :=
  let h := c.ca im i
  match fieldOf 0 3 c.x.sr with
  | 0 => h
  | 4 => h * 2
  | k => h / 2 ^ k

/-- MOVA and MOVAP (R158). -/
def aluMova (c : CAt) (dd ds1 : Nat) (sat pair : Bool) : Option COut :=
  if 8 ≤ ds1 ∨ (pair ∧ 4 ≤ ds1) then none
  else if pair then some (packed dd sat (scaled c false (ds1 % 4) / 2 ^ 15) (scaled c true (ds1 % 4) / 2 ^ 15))
  else
    let l := aluLimit 32 sat (scaled c (decide (4 ≤ ds1)) (ds1 % 4))
    some (aluOut dd l.1 ((srV, l.2.1) :: zn l.1) l.2.2)

/-- The register format of the ALU (R153, R154). -/
def execAluR (c : CAt) (op : Nat) (s : Bool) (dd ds1 ds2 : Nat) : Option COut :=
  let a := c.d ds1
  let b := c.d ds2
  let k := b.toNat % 32
  let single := op == 3 || op == 4 || op == 0xA || op == 0xF || op == 0x15 || op == 0x17 || op == 0x18 || op == 0x19 || op == 0x1A
  if single && ds2 != 0 then none
  else match op with
    | 0x00 => some {}
    | 0x01 => some (aluCvzn dd s (decide (2 ^ 32 ≤ a.toNat + b.toNat)) (a.toInt + b.toInt))
    | 0x02 => some (aluCvzn dd s (decide (b.toNat ≤ a.toNat)) (a.toInt - b.toInt))
    | 0x03 => let l := aluLimit 32 s (-a.toInt); some (aluOut dd l.1 ((srV, l.2.1) :: zn l.1) l.2.2)
    | 0x04 => let l := aluLimit 32 s a.toInt.natAbs; some (aluOut dd l.1 ((srV, l.2.1) :: zn l.1) l.2.2)
    | 0x05 => let r := (if a.toInt ≤ b.toInt then a else b).toNat; some (aluOut dd r (zn r) false)
    | 0x06 => let r := (if a.toInt ≤ b.toInt then b else a).toNat; some (aluOut dd r (zn r) false)
    | 0x07 => some (aluLogic dd (a &&& b))
    | 0x08 => some (aluLogic dd (a ||| b))
    | 0x09 => some (aluLogic dd (a ^^^ b))
    | 0x0A => some (aluLogic dd (~~~a))
    | 0x0B => some (aluShl dd s a k)
    | 0x0C => some (aluShr dd true a k)
    | 0x0D => some (aluShr dd false a k)
    | 0x0E => if dd ≠ 0 then none else some (aluCmp a b)
    | 0x0F => some (aluOut dd a.toNat (zn a.toNat) false)
    | 0x10 => some (packed dd s ((halves a).1 + (halves b).1) ((halves a).2 + (halves b).2))
    | 0x11 => some (packed dd s ((halves a).1 - (halves b).1) ((halves a).2 - (halves b).2))
    | 0x12 => some (
        aluOut dd ((BitVec.ofInt 16 (max (halves a).1 (halves b).1)).toNat +
          65536 * (BitVec.ofInt 16 (max (halves a).2 (halves b).2)).toNat) [] false)
    | 0x13 => some (aluOut dd ((BitVec.ofInt 16 (min (halves a).1 (halves b).1)).toNat +
          65536 * (BitVec.ofInt 16 (min (halves a).2 (halves b).2)).toNat) [] false)
    | 0x14 => some (aluOut dd (a.toNat % 65536 + b.toNat % 65536 * 65536) [] false)
    | 0x15 => some (aluOut dd (a.toNat / 65536 + a.toNat % 65536 * 65536) [] false)
    | 0x16 =>
      let v := min (max a.toInt (-b.toInt)) b.toInt
      let r := (BitVec.ofInt 32 v).toNat
      some (aluOut dd r ((srC, decide (v ≠ a.toInt)) :: zn r) false)
    | 0x17 => aluSearch c dd a true
    | 0x18 => aluSearch c dd a false
    | 0x19 => aluMova c dd ds1 s false
    | 0x1A => aluMova c dd ds1 s true
    | _ => none

/-- The immediate formats of the ALU. -/
def execAluI (c : CAt) (op : Nat) (s : Bool) (dd ds imm : Nat) : Option COut :=
  let a := c.d ds
  let b : Word := (BitVec.ofNat 11 imm).signExtend 32
  let k := imm % 32
  match op with
  | 0x20 => some (aluCvzn dd s (decide (2 ^ 32 ≤ a.toNat + b.toNat)) (a.toInt + b.toInt))
  | 0x21 => some (aluLogic dd (a &&& b))
  | 0x22 => some (aluLogic dd (a ||| b))
  | 0x23 => if 32 ≤ imm then none else some (aluShl dd s a k)
  | 0x24 => if 32 ≤ imm then none else some (aluShr dd true a k)
  | 0x25 => if 32 ≤ imm then none else some (aluShr dd false a k)
  | 0x26 => if dd ≠ 0 then none else some (aluCmp a b)
  | _ => none

/-- An ALU syllable. -/
def execAlu (c : CAt) (w : Word) : Option COut :=
  let op := fieldOf 22 6 w
  let s := fieldOf 21 1 w == 1
  let dd := fieldOf 16 5 w
  if op < 0x20 then
    if fieldOf 0 6 w ≠ 0 then none else execAluR c op s dd (fieldOf 11 5 w) (fieldOf 6 5 w)
  else if op < 0x30 then execAluI c op s dd (fieldOf 11 5 w) (fieldOf 0 11 w)
  else if s then none
  else if op = 0x30 then some (aluOut dd ((BitVec.ofNat 16 (fieldOf 0 16 w)).signExtend 32).toNat [] false)
  else if op = 0x31 then some { writes := [(.d dd, 0xFFFF0000, fieldOf 0 16 w * 65536, 1, 4)] }
  else none

-- BR (R159 to R161)

/-- The condition codes (R159); none where reserved. -/
def campCond (sr : Word) (cc : Nat) : Option Bool :=
  let c := sr.getLsbD srC
  let v := sr.getLsbD srV
  let z := sr.getLsbD srZ
  let n := sr.getLsbD srN
  match cc with
  | 0 => some true
  | 1 => some z
  | 2 => some (!z)
  | 3 => some (n != v)
  | 4 => some (n == v)
  | 5 => some (!z && n == v)
  | 6 => some (z || n != v)
  | 7 => some c
  | 8 => some (!c)
  | 9 => some v
  | 10 => some (!v)
  | 11 => some n
  | 12 => some (!n)
  | _ => none

/-- A register by class and index (R160): D, A, N, SR. -/
def classReg (cl i : Nat) : Option CReg :=
  match cl with
  | 0 => some (.d i)
  | 1 => if i < 16 then some (.a i) else none
  | 2 => if i < 8 then some (.n i) else none
  | _ => if i = 0 then some .sr else none

/-- What a move reads of a register (R160). -/
def classVal (c : CAt) (r : CReg) : Word :=
  match r with
  | .d i => c.d i
  | .a i => (c.a i).setWidth 32
  | .n i => (c.n i).signExtend 32
  | _ => srWord c.k c.x

/-- A write of SR by a move (R107, R108): reserved SCALE leaves it and sets ILL, and IPL stays at least the context's number. -/
def srPut (c : CAt) (v : Word) : COut :=
  let badScale := decide (4 < fieldOf 0 3 v)
  let ipl := max c.k (fieldOf 4 2 v)
  { writes := [(.sr, if badScale then 0x5F30 else 0x5F37, fieldPut 4 2 ipl v |>.toNat, 1, 5)], ill := badScale }

/-- A BR syllable that is no NOP by its place. -/
def brPlaced (c : CAt) (branchLike : Bool) (leBarred : Bool) (o : COut) : Option COut :=
  if c.repeated ∨ (c.inDelay ∧ branchLike) ∨ (c.atLe ∧ leBarred) then none else some o

/-- DO and DOI (R114, R160). -/
def brDo (c : CAt) (count le : Nat) : Option COut :=
  if le ≤ c.start ∨ 3 ≤ c.x.loops.length then none
  else brPlaced c true true { ctrl := some (.doLoop count le) }

/-- A BR syllable. -/
def execBr (c : CAt) (w : Word) : Option COut :=
  let op := fieldOf 23 5 w
  let t := fieldOf 0 14 w
  let branch := fun (take : Bool) (a : Nat) (ws : List (CReg × Nat × Nat × Nat × Nat)) =>
    brPlaced c true true { writes := ws, ctrl := some (.branch (if take then some a else none)) }
  match op with
  | 0x00 => if fieldOf 0 23 w ≠ 0 then none else brPlaced c false false {}
  | 0x01 =>
    if fieldOf 18 5 w ≠ 0 then none
    else match campCond c.x.sr (fieldOf 14 4 w) with
      | some b => branch b t []
      | none => none
  | 0x02 =>
    if fieldOf 18 5 w ≠ 0 ∨ fieldOf 4 10 w ≠ 0 then none
    else match campCond c.x.sr (fieldOf 14 4 w) with
      | some b => branch b ((c.a (fieldOf 0 4 w)).toNat % 16384) []
      | none => none
  | 0x03 => if fieldOf 14 9 w ≠ 0 then none else branch true t [cput (.a 15) c.link 1 5]
  | 0x04 => if fieldOf 14 4 w ≠ 0 then none else brDo c ((c.d (fieldOf 18 5 w)).toNat % 65536) t
  | 0x05 => brDo c (fieldOf 14 9 w) t
  | 0x06 => if fieldOf 0 23 w ≠ 0 then none else brPlaced c true false { ctrl := some .endDo }
  | 0x07 => if fieldOf 10 13 w ≠ 0 then none else brPlaced c true true { ctrl := some (.rep (fieldOf 0 10 w + 1)) }
  | 0x08 => if fieldOf 0 23 w ≠ 0 ∨ c.k = 0 then none else brPlaced c true true { ctrl := some .reti }
  | 0x09 => if fieldOf 0 23 w ≠ 0 ∨ c.k ≠ 0 then none else brPlaced c true false { ctrl := some .wait }
  | 0x0A => if fieldOf 2 21 w ≠ 0 then none else brPlaced c false false { ctrl := some (.commit (fieldOf 0 2 w)) }
  | 0x0B =>
    if fieldOf 0 9 w ≠ 0 then none
    else match classReg (fieldOf 21 2 w) (fieldOf 16 5 w), classReg (fieldOf 14 2 w) (fieldOf 9 5 w) with
      | some d, some src =>
        let v := classVal c src
        brPlaced c false false (match d with
          | .sr => srPut c v
          | .d _ => { writes := [cput d v.toNat 1 5] }
          | _ => { writes := [cput d (v.toNat % 65536) 1 5] })
      | _, _ => none
  | 0x0C =>
    let cl := fieldOf 21 2 w
    if cl ≠ 1 ∧ cl ≠ 2 then none
    else match classReg cl (fieldOf 16 5 w) with
      | some d => brPlaced c false false { writes := [cput d (fieldOf 0 16 w) 1 5] }
      | none => none
  | 0x0D =>
    if fieldOf 3 20 w ≠ 0 then none
    else if 4 < fieldOf 0 3 w then brPlaced c false false { ill := true }
    else brPlaced c false false { writes := [(.sr, 7, fieldOf 0 3 w, 1, 5)] }
  | _ => none

-- The bundle

/-- One syllable by its slot. -/
def execSyl (c : CAt) (slot : Nat) (w : Word) : Option COut :=
  match slot with
  | 0 => execLs c 0 w
  | 1 => execLs c 1 w
  | 2 => execMac c 2 w
  | 3 => execMac c 3 w
  | 4 => execAlu c w
  | 5 => execBr c w
  | _ => none

/-- The syllables of a bundle in order (R140, R141): one whose slot does not exceed that of the syllable before it, or that has no legal
meaning, executes as NOP and sets ILL. A syllable that could not be read is a NOP with ILL (R232). -/
def execSyls (c : CAt) : List (Option Word) → Option Nat → COut → COut
  | [], _, o => o
  | none :: ws, before, o => execSyls c ws before { o with ill := true }
  | some w :: ws, before, o =>
    let slot := fieldOf 28 3 w
    let late := before.any (fun t => decide (slot ≤ t))
    match (if late then none else execSyl c slot w) with
    | none => execSyls c ws (some slot) { o with ill := true }
    | some r => execSyls c ws (some slot) { writes := o.writes ++ r.writes, mems := o.mems ++ r.mems,
                                            ctrl := if r.ctrl.isSome then r.ctrl else o.ctrl, ill := o.ill || r.ill }

/-- Do two results of one bundle meet in one register (R111, R152, R161)? The flags of the ALU meet a write of SR by BR. -/
def clash (a b : CReg × Nat × Nat × Nat × Nat) : Bool :=
  match a.1, b.1 with
  | .d i, .d j => i == j
  | .a i, .a j => i == j
  | .n i, .n j => i == j
  | .re i, .re j => i == j
  | .re i, .im j => i == j
  | .im i, .re j => i == j
  | .im i, .im j => i == j
  | .sr, .sr => a.2.2.2.2 == 4 && b.2.2.2.2 == 5
  | _, _ => false

/-- The results that stand, and whether any was overridden by a later slot (R111). -/
def resolve (ws : List (CReg × Nat × Nat × Nat × Nat)) : List (CReg × Nat × Nat × Nat × Nat) × Bool :=
  let lost := fun (w : CReg × Nat × Nat × Nat × Nat) => ws.any (fun v => decide (w.2.2.2.2 < v.2.2.2.2) && clash w v)
  (ws.filter (fun w => !lost w), ws.any lost)

end Sys2Proof.Machine
end

