-- ==== Sys2Proof/Machine/ChainTime.lean ====
section
/-!
DEFINITION. System time over the chain, the image relay, maintenance sessions and the host port (R421 to R430).
-/
namespace Sys2Proof.Machine

def State.updSync (s : State) (f : Sync → Sync) : State := { s with chn := { s.chn with sync := f s.chn.sync } }
def State.updRelay (s : State) (f : Relay → Relay) : State := { s with chn := { s.chn with relay := f s.chn.relay } }

-- System time (R427 to R430)

/-- SYNCPER in ns. -/
def syncPeriod (s : State) : Nat := s.get F.CHN_TRCFG1_SYNCPER * 1000

/-- SYNC_SEND (R427) by the head, every SYNCPER of its TB6; ORIGIN is a stamp of its TB6 (R35). -/
def syncSend (s : State) : State :=
  if isHead s ∧ syncPeriod s ≤ s.chn.sync.since then
    let y := s.chn.sync
    let f := mgmt 0x7F 0x10 (leBytes 8 (stampTime s) ++ leBytes 4 0 ++ leBytes 2 y.seq ++ [b8 (bit01 y.stepNext), 0#8])
    chainSend f (s.updSync (fun y => { y with seq := (y.seq + 1) % 65536, stepNext := false, since := 0 }))
  else s

/-- TB6 moves by a number of ns (R430, R427). -/
def stepTime (d : Int) (s : State) : State := { s with tb := { s.tb with time := ((s.tb.time : Int) + d).toNat % 2 ^ 64 } }

/-- A number clamped to ± m. -/
def clampTo (m v : Int) : Int := max (-m) (min m v)

/-- SYNC_RECEIVE (R428, R430): TB6 at the first cell of the incoming SOF, in 1/16 ns. -/
def syncReceive (p : Nat) (tb16 : Nat) (f : Frame) (s : State) : State :=
  if isHead s ∨ p ≠ (headPort s).val then s
  else
    let corr : Int := (BitVec.ofNat 32 (f.at_ 8 4)).toInt
    let theta : Int := (stampFine tb16 s : Int) - (16 * (f.at_ 0 8 : Int) + corr + (s.word R.CHN_TLINKDLY).toInt)
    let ns : Int := (theta + 8) / 16
    let s := (s.setInt F.CHN_TOFFS_THETA ns).set F.CHN_TSTAT_MISSED 0
    let s := s.updSync (fun y => { y with since := 0, lost := false })
    let s := s.set F.CHN_TSTAT_PORT (headPort s).val
    if 16 * (s.get F.CHN_TRCFG2_STEPLIM : Int) < theta.natAbs then
      let s := (stepTime (-ns) s).count F.CHN_TSTAT_STEPCNT
      xEvent 4 (discTo false (s.updSync (fun y => { y with good := 0 })))
    else
      let y := s.chn.sync
      let fNew : Int := y.f - theta * 256 / (2 ^ s.get F.CHN_TRCFG2_KI : Nat)
      let lim : Int := (syncPeriod s * 4096 / 10000 : Nat)
      let slew : Int := clampTo lim (fNew - theta * 256 / (2 ^ s.get F.CHN_TRCFG2_KP : Nat))
      let good := if theta.natAbs ≤ 320 then min 8 (y.good + 1) else 0
      let s := s.updSync (fun y => { y with f := fNew, slew := slew, slewLeft := syncPeriod s, good := good })
      let s := s.setInt F.CHN_TFREQ_F (fNew / 256)
      if good = 8 then discTo true s else s

/-- SYNC_LOST (R430): SYNCLOST periods in a row have passed without an accepted SYNC. -/
def syncLost (s : State) : State :=
  if isHead s ∨ s.chn.sync.lost ∨ s.get F.CHN_TSTAT_MISSED < s.get F.CHN_TRCFG1_SYNCLOST then s
  else xEvent 5 (discTo false (s.updSync (fun y => { y with good := 0, lost := true })))

/-- One ns of TB6 toward the next SYNC, or toward the end of a period without one (R427, R433), and toward the next PDREQ (R429). -/
def syncTick (s : State) : State :=
  let n := s.chn.sync.since + 1
  let s := s.updSync (fun y => { y with since := n, pdSince := y.pdSince + 1 })
  if isHead s ∨ n < syncPeriod s then s
  else (s.updSync (fun y => { y with since := 0 })).count F.CHN_TSTAT_MISSED

/-- One ns of the slew of TB6, spread evenly over the period; past its end F stays applied (R430). Answers the ns to add. -/
def slewTick (s : State) : Int × State :=
  let y := s.chn.sync
  if y.slew = 0 ∧ y.f = 0 then (0, s)
  else
    let y := if y.slewLeft = 0 then { y with slew := y.f, slewLeft := syncPeriod s } else y
    let full : Int := (syncPeriod s * 4096 : Nat)
    let acc := y.slewAcc + y.slew
    let d : Int := if full ≤ acc then 1 else if acc ≤ -full then -1 else 0
    (d, s.updSync (fun _ => { y with slewAcc := acc - d * full, slewLeft := y.slewLeft - 1 }))

/-- PDREQ_SEND (R429), every 2^PDINT periods: t1 is the stamp of the unit's TB6 (R35). -/
def pdreqSend (s : State) : State :=
  if isHead s ∨ ownAddr s = 0 ∨ s.chn.sync.pdSince < 2 ^ s.get F.CHN_TRCFG1_PDINT * syncPeriod s then s
  else
    let tag := (s.chn.sync.pdTag + 1) % 256
    let s := s.updSync (fun y => { y with pdTag := tag, t1 := some (stampTime s), pdSince := 0 })
    chainSendOn (headPort s) { mgmt 0 0x11 [] false tag with src := ownAddr s } s

/-- PDREQ (R429): t2 and t3 are stamps of the neighbour's TB6 at its arrival and at the answer. -/
def onPdreq (p : Nat) (f : Frame) (s : State) : State :=
  if p = 2 then s
  else chainSendOn (portIx p) { mgmt 0 0x12 (leBytes 8 (stampTime s) ++ leBytes 8 (stampTime s)) false f.tag with src := ownAddr s } s

/-- PDRSP (R429): LINKDLY is averaged over the last four measurements, in 1/16 ns. -/
def onPdrsp (f : Frame) (s : State) : State :=
  match s.chn.sync.t1 with
  | none => s
  | some t1 =>
    if f.tag ≠ s.chn.sync.pdTag then s
    else
      let d : Int := (((stampTime s : Int) - t1) - ((f.at_ 8 8 : Int) - f.at_ 0 8)) * 8
      let ds := (d :: s.chn.sync.delays).take 4
      let avg : Int := ds.foldl (· + ·) 0 / (ds.length : Int)
      (s.updSync (fun y => { y with t1 := none, delays := ds })).setInt F.CHN_TLINKDLY_DLY avg

/-- TIME_SET (R427): a write of CHN_TSETHI, then of CHN_TSETLO, by CID 1 of the head. -/
def timeSet (hi : Bool) (w : Word) (s : State) : State :=
  if hi then s.updSync (fun y => { y with setHi := w })
  else { s with tb := { s.tb with time := w.toNat + s.chn.sync.setHi.toNat * 2 ^ 32 } }.updSync
    (fun y => { y with stepNext := true })

-- Image relay (R71 to R74, R421, R422)

/-- BOOTSTAT.STATE codes used here (R77). -/
def inLimp (s : State) : Bool := s.get F.SYS_BOOTSTAT_STATE == 9
def inRun (s : State) : Bool := s.get F.SYS_BOOTSTAT_STATE == 8

/-- RELAYREQ at a relay source (R74, R421): held while booting, refused in LIMP or without a relayable image. -/
def onRelayreq (s : State) : State :=
  let refuse := fun (r : Nat) (s : State) => chainSendOn 1 { mgmt 0x7F 0x19 [b8 r, 0#8, 0#8, 0#8] with src := ownAddr s } s
  if inLimp s then refuse 2 s
  else if inRun s then
    if s.chn.relay.srcLen = 0 then refuse 1 s
    else if !s.chn.relay.srcOk then refuse 3 s
    else s.updRelay (fun r => { r with asked := r.asked + 1 })
  else s.updRelay (fun r => { r with asked := r.asked + 1 })

/-- Requests held while booting are answered once the boot has ended (R421). -/
def relayAnswerHeld (s : State) : State :=
  if s.chn.relay.asked = 0 ∨ (inRun s ∧ s.chn.relay.srcOk ∧ s.chn.relay.srcLen ≠ 0) then s
  else onRelayreq (s.updRelay (fun r => { r with asked := 0 }))

/-- RELAY_ROUND_START (R71, R425). -/
def relayRoundStart (s : State) : State :=
  let r := s.chn.relay
  if r.asked = 0 ∨ r.sending.isSome ∨ s.on F.CHN_MAINT_OPEN ∨ !inRun s ∨ !r.srcOk ∨ !s.on F.SYS_STRAP_BOOTSRC then s
  else
    let n := r.round + 1
    let d := leBytes 4 r.srcLen ++ leBytes 4 (s.get F.SYS_IMAGEID_IMAGEID) ++ leBytes 4 n ++ leBytes 4 0
    chainSendOn 1 { mgmt 0x7F 0x1A d with src := ownAddr s }
      (s.updRelay (fun r => { r with asked := 0, round := n, sending := some 0 }))

/-- RELAYREF (R74): the requester goes on counting toward RELAYTO. -/
def onRelayref (s : State) : State := s

/-- RELAYSTART (R422): only a unit that has sent its request joins. -/
def onRelaystart (f : Frame) (s : State) : State :=
  let r := s.chn.relay
  if r.requested ∧ !s.on F.SYS_STRAP_BOOTSRC then
    s.updRelay (fun r => { r with joined := some (f.at_ 8 4), requested := false, base := 0, due := 0,
                                  imgLen := f.at_ 0 4, image := [], frameAt := s.now })
  else s

/-- RELAYMARK (R422). -/
def onRelaymark (f : Frame) (s : State) : State :=
  let r := s.chn.relay
  match r.joined with
  | none => s
  | some n =>
    if f.at_ 4 4 = n ∧ f.at_ 0 4 = r.due ∧ r.due % 0x4000 = 0 then s.updRelay (fun r => { r with base := f.at_ 0 4, frameAt := s.now })
    else relayLeave s

/-- RELAYDATA (R422). -/
def onRelaydata (f : Frame) (s : State) : State :=
  let r := s.chn.relay
  if r.joined.isNone then s
  else if r.base + 64 * f.tag = r.due ∧ r.due < r.base + 0x4000 ∧ f.data.length = min 64 (r.imgLen - r.due) ∧ r.due < r.imgLen then
    s.updRelay (fun r => { r with image := r.image ++ f.data, due := r.due + f.data.length, frameAt := s.now })
  else relayLeave s

/-- RELAYEND (R72, R422): the whole image, once every frame has come. -/
def onRelayend (f : Frame) (s : State) : Option (List Byte) × State :=
  let r := s.chn.relay
  match r.joined with
  | none => (none, s)
  | some n =>
    if f.at_ 4 4 = n ∧ f.at_ 0 4 = r.imgLen ∧ r.due = r.imgLen then
      (some r.image, s.updRelay (fun r => { r with joined := none, image := [] }))
    else (none, relayLeave s)

/-- RELAY_FRAME_TIMEOUT (R73, R422): 1 ms without a relay frame. -/
def relayTimeout (s : State) : State := if s.chn.relay.frameAt + 1000000 ≤ s.now then relayLeave s else s

/-- LIMP_RELAY_RETRY (R73), every 100 ms. -/
def limpRetry (s : State) : State :=
  if inLimp s ∧ !s.on F.SYS_STRAP_BOOTSRC ∧ s.chn.relay.joined.isNone ∧ s.chn.relay.askAt + 100000000 ≤ s.now then relayRequest s else s

-- Maintenance sessions (R423 to R425)

/-- MRSP (R424). -/
def mrsp (f : Frame) (status : Nat) (data : List Byte) (s : State) : State :=
  chainSend (mgmt f.src 0x25 ([b8 status, 0#8, 0#8, 0#8] ++ data) false f.tag) s

/-- Is a maintenance frame accepted (R423)? DEDUCED from R425 (a session exists only after step 12 or in LIMP): none is while
the unit boots (assumption log 49). -/
def maintOk (p : Nat) (f : Frame) (s : State) : Bool :=
  f.src == 1 && (if p = 2 then isHead s else !isHead s && p == (headPort s).val) && s.get F.LCS_STATE_STATE != 4
    && ((inRun s && s.on F.CHN_TRCFG1_MAINTEN) || inLimp s)

/-- The session opens or closes, with bit 2 of CHN_XEVT on a change (R433). -/
def setMaint (o : Bool) (holder : Nat) (s : State) : State :=
  let s' := (s.setB F.CHN_MAINT_OPEN o).set F.CHN_MAINT_HOLDER holder
  if s.on F.CHN_MAINT_OPEN = o then s' else xEvent 2 s'

/-- When a session in which a frame is accepted now closes: MAINTTO, in 10 ms units (R423, R432). -/
def maintRenew (p : Nat) (f : Frame) (s : State) : State :=
  if maintOk p f s then { s with chn := { s.chn with maintAt := s.now + 10000000 * s.get F.CHN_TRCFG1_MAINTTO } } else s

/-- MOPEN (R424). -/
def onMopen (p : Nat) (f : Frame) (s : State) : State :=
  if maintOk p f s ∧ f.at_ 0 2 = 0x4D54 then mrsp f 0 [] (setMaint true f.src (maintRenew p f s)) else mrsp f 7 [] (maintRenew p f s)

/-- Discovery finds no flash (R51, step 5): the signature read and the read of offset 0 both return all ones or all zeros. -/
def noFlash (s : State) : Bool :=
  let blank := fun (w : Nat) => w == 0xFFFFFFFF || w == 0
  blank s.flash.sfdp && blank (leNat ((List.range 4).map (fun i => flashByte i s)))

/-- The status that refuses a flash operation before it starts: REFUSED, NOSESSION, BUSY, NOFLASH, RANGE, ALIGN. The size is the one
discovery gave (R424). -/
def flashStatus (p : Nat) (f : Frame) (off n : Nat) (okCount aligned : Bool) (s : State) : Nat :=
  if !maintOk p f s then 7
  else if !s.on F.CHN_MAINT_OPEN then 1
  else if s.chn.relay.sending.isSome ∨ s.chn.maintOp.isSome then 6
  else if !s.on F.SYS_STRAP_BOOTSRC ∨ noFlash s then 2
  else if !okCount ∨ s.flash.mode.size < off + n then 3
  else if !aligned then 4
  else 0

/-- How long the poll of a flash operation goes on (R424): 2 s for MERASE, 5 ms for MPROG. -/
def flashLimit : FlashOp → Nat
  | .read _ _ => 0
  | .erase _ _ => 2000000000
  | .prog _ _ => 5000000

/-- A flash operation starts; MRSP is sent when it ends. -/
def flashStart (p : Nat) (f : Frame) (status : Nat) (op : FlashOp) (s : State) : State :=
  let s := maintRenew p f s
  if status = 0 then { s with chn := { s.chn with maintOp := some op, maintTag := f.tag, maintDue := s.now + flashLimit op } }
  else mrsp f status [] s

def onMread (p : Nat) (f : Frame) (s : State) : State :=
  let off := f.at_ 0 4
  let n := f.at_ 4 1
  flashStart p f (flashStatus p f off n (decide (1 ≤ n ∧ n ≤ 60)) true s) (.read off n) s
def onMerase (p : Nat) (f : Frame) (s : State) : State :=
  let off := f.at_ 0 4
  let n := if f.at_ 4 1 = 0 then 0x1000 else 0x10000
  flashStart p f (flashStatus p f off n (decide (f.at_ 4 1 ≤ 1)) (off % n == 0) s) (.erase off n) s
def onMprog (p : Nat) (f : Frame) (s : State) : State :=
  let off := f.at_ 0 4
  let d := f.data.drop 4
  flashStart p f (flashStatus p f off d.length true (off / 256 == (off + d.length - 1) / 256) s) (.prog off d) s

/-- The programming of a byte of the flash. -/
def setFlashByte (a : Nat) (v : Byte) (s : State) : State :=
  { s with flash := { s.flash with bytes := smapSet a v 0xFF#8 s.flash.bytes } }

/-- FLASH_OPERATION_DONE (R424): the poll ends, or times out with FLASHERR; a read does not poll. -/
def flashDone (ok : Bool) (s : State) : State :=
  match s.chn.maintOp with
  | none => s
  | some op =>
    if !ok ∧ (s.now < s.chn.maintDue ∨ flashLimit op = 0) then s
    else
    let f : Frame := { cls := 3, dst := 0, typ := 0, src := 1, tag := s.chn.maintTag }
    let s := { s with chn := { s.chn with maintOp := none } }
    if !ok then mrsp f 5 [] s
    else match op with
      | .read off n => mrsp f 0 ((List.range n).map (fun i => flashByte (off + i) s)) s
      | .erase off n =>
        let rest := s.flash.bytes.filter (fun e => decide (e.1 < off) || decide (off + n ≤ e.1))
        mrsp f 0 [] { s with flash := { s.flash with bytes := rest } }
      | .prog off d => mrsp f 0 [] (d.zipIdx.foldl (fun s b => setFlashByte (off + b.2) (b.1 &&& flashByte (off + b.2) s) s) s)

/-- MCLOSE (R423, R424): answers the ACTION that follows: 0 none, 1 SOFT, 2 TRYB then SOFT. -/
def onMclose (p : Nat) (f : Frame) (s : State) : Nat × State :=
  if !maintOk p f s then (0, mrsp f 7 [] s)
  else if !s.on F.CHN_MAINT_OPEN then (0, mrsp f 1 [] (maintRenew p f s))
  else (f.at_ 0 1, mrsp f 0 [] (setMaint false 0 s))

/-- MAINTENANCE_TIMEOUT (R423): MAINTTO has passed with no maintenance frame. -/
def maintTimeout (s : State) : State := if s.on F.CHN_MAINT_OPEN ∧ s.chn.maintAt ≤ s.now then setMaint false 0 s else s

-- The host port (R426)

/-- TXFREE: places for frames of the host, and for the responses to its requests. -/
def hostFree (s : State) : Nat := min (4 - s.chn.hostIn.length) (8 - (s.chn.hostOut.length + s.chn.hostReqs.length))

/-- CHN_HOSTSTAT's counts follow the queues. -/
def hostStat (s : State) : State := (s.set F.CHN_HOSTSTAT_TXFREE (hostFree s)).set F.CHN_HOSTSTAT_RXCNT s.chn.hostOut.length

/-- HOST_SPI_TRANSACTION (R370, R426): whether SCK was high at the fall of nSS (mode 3), the class and bytes of a frame of the host,
if it sends one, and whether it reads one. -/
def hostSpi (mode3 : Bool) (tx : Option (Nat × List Byte)) (rx : Bool) (s : State) : State :=
  if !s.on F.SYS_STRAP_HEAD || !hostWired s then s
  else if !isHead s then s.setB F.SER_HSTAT_MODE3 mode3
  else
    let s := s.setB F.SER_HSTAT_MODE3 mode3
    let s := s.answer (hostFree s + 8 * bit01 (!s.chn.hostOut.isEmpty))
    let free := hostFree s
    let s := if rx then
        match s.chn.hostOut with
        | [] => s
        | f :: fs => lineSend 2 f false { s with chn := { s.chn with hostOut := fs } }
      else s
    let s := match tx with
      | none => s
      | some (c, bs) =>
        if free = 0 then s.count F.CHN_HOSTSTAT_HOVF
        else
          let bad := s.count F.CHN_HOSTSTAT_HDISC
          if !crcGood bs then bad
          else match parseFrame c bs with
            | none => bad
            | some (f, _) =>
              if f.src ≠ 1 ∨ !((f.cls = 0 ∧ 128 ≤ f.tag) ∨ f.cls = 3) then bad
              else
                let s := if f.cls = 0 ∧ f.dst ≠ 0x7F then
                    { s with chn := { s.chn with hostReqs := s.chn.hostReqs ++ [(f, s.get F.CHN_TRCFG0_RETRIES, rspDue s)] } } else s
                if f.dst = 0x7F then chainSend f s
                else placeFrame 2 f s
    hostStat s

end Sys2Proof.Machine
end

