-- ==== Sys2Proof/Machine/TslFifo.lean ====
section
/-!
DEFINITION. The Teasel FIFOs and their DMA triggers (R356 to R358, R518).
-/
namespace Sys2Proof.Machine

def tslIx (t : Nat) : Fin 24 := ⟨t % 24, Nat.mod_lt _ (by decide)⟩
def State.ts (s : State) (t : Nat) : TslCh := s.tsl.get (tslIx t)
def State.setTs (s : State) (t : Nat) (x : TslCh) : State :=
  { s with tsl := s.tsl.set (tslIx t).val x (tslIx t).isLt }

/-- Does the out FIFO of channel `t` ask for a word (R358)? -/
def outAsks (t : Nat) (s : State) : Bool :=
  let x := s.ts t
  decide (x.outq.length ≤ s.get (F.TSL_CHtCFG_OWM t)) && decide (x.outq.length + x.outstOut < 4)

/-- Does the in FIFO of channel `t` offer a word (R358)? IWM is stored minus one. -/
def inAsks (t : Nat) (s : State) : Bool :=
  let x := s.ts t
  decide (s.get (F.TSL_CHtCFG_IWM t) + 1 ≤ x.inq.length) && decide (0 < x.inq.length - x.outstIn)

/-- The DMA channel that a watermark trigger reaches: the lowest that counts it, else the lowest that is fetching
(DEDUCED, assumption log 16). A trigger that reaches none is returned at once (R518). -/
def trigDest (t : Trig) (s : State) : Option (Fin 8) :=
  let run := (List.finRange 8).filter (fun (n : Fin 8) => s.on (F.DMA_CHnCTL_EN n.val))
  match run.find? (fun n => !(s.dma.get n).fetching && trigMatches ((s.dma.get n).desc.getD 0 0#32) t) with
  | some n => some n
  | none => run.find? (fun n => (s.dma.get n).fetching)

/-- The FIFOs of channel `t` raise the triggers they are due. -/
def fifoKick (t : Nat) (s : State) : State :=
  let s := forEach 4 (fun _ s =>
    if outAsks t s then
      match trigDest (.outWm (tslIx t)) s with
      | some n => (s.setTs t { s.ts t with outstOut := (s.ts t).outstOut + 1 }).trigger n (.outWm (tslIx t))
      | none => s
    else s) s
  forEach 4 (fun _ s =>
    if inAsks t s then
      match trigDest (.inWm (tslIx t)) s with
      | some n => (s.setTs t { s.ts t with outstIn := (s.ts t).outstIn + 1 }).trigger n (.inWm (tslIx t))
      | none => s
    else s) s

/-- Every FIFO raises the triggers it is due, as when a DMA channel comes to count them. -/
def fifoKickAll (s : State) : State := forEach 24 fifoKick s

/-- A write to OUT of channel `t` (R356, R358). -/
def fifoOutWrite (t : Nat) (w : Word) (s : State) : Ans × State :=
  let x := s.ts t
  if 4 ≤ x.outq.length then (.refused .busy, s)
  else (.ok 0#64, fifoKick t (s.setTs t { x with outq := x.outq ++ [w], outstOut := x.outstOut - 1 }))

/-- A read of IN of channel `t` (R356, R358). -/
def fifoInRead (t : Nat) (s : State) : Ans × State :=
  let x := s.ts t
  match x.inq with
  | [] => (.refused .busy, s)
  | w :: rest => (.ok (w.setWidth 64), fifoKick t (s.setTs t { x with inq := rest, outstIn := x.outstIn - 1 }))

/-- An access to region 14 (R356). -/
def fifoAccess (write : Bool) (a : Nat) (w : Word) (s : State) : Ans × State :=
  let t := (a - 0x42002000) / 0x20
  let k := a % 0x20
  if 24 ≤ t ∨ 8 < k ∨ k % 4 ≠ 0 then (.refused .unmapped, s)
  else if write then (if k = 0 then fifoOutWrite t w s else (.refused .ro, s))
  else if k = 0 then (.refused .deny, s)
  else if k = 4 then fifoInRead t s
  else (.ok (BitVec.ofNat 64 ((s.ts t).outq.length + 256 * (s.ts t).inq.length)), s)

end Sys2Proof.Machine
end

