-- ==== Sys2Proof/Machine/MemFabric.lean ====
section
/-!
DEFINITION. Fabric accesses to the memories (R83, R86, R90, R93), and the DMA channels' starting, stopping and descriptor fetch
(R101 to R103, R518, R519).
-/
namespace Sys2Proof.Machine

/-- Is the region a memory? -/
def memRegion (r : Nat) : Bool := decide (r ≤ 13) || r == 15

/-- Is the region a memory with 32-bit rows, where a 64-bit access is two word services (R86, R229)? -/
def narrowRegion (r : Nat) : Bool := r == 5 || r == 6 || decide (8 ≤ r ∧ r ≤ 13)

/-- The region whose array an access at `a` reaches: through region 32 the unit's own window is that of region 10 or 11 (R85). -/
def targetRegion (a : Nat) (s : State) : Option Nat :=
  match regionOf a with
  | some 32 => if (a - 0x60000000) / 0x8000 + 1 = ownAddr s then regionOf (winAddr (a % 0x8000)) else some 32
  | r => r

/-- One service of a memory region that the checks have passed. -/
def memTarget (who : Who) (r : Nat) (write : Bool) (a size v : Nat) (s : State) : Ans × State :=
  if r = 0 then
    (.ok (BitVec.ofNat 64 (leNat ((List.range size).map (fun i => Config.romByte (a + i))))), s)
  else if r = 10 ∨ r = 11 then
    if write then windowWrite who (a % 0x8000) size v s else windowRead who (a % 0x8000) size s
  else if write then ramWrite who a size v s
  else ramRead who (if who.fetch then 1 else 0) a size s

/-- A refusal is logged at `log`, the address the accessor issued. -/
def logged (who : Who) (write : Bool) (log : Nat) (r : Ans × State) : Ans × State :=
  match r with
  | (.refused c, s) => (.refused c, busErr who write log c s)
  | r => r

/-- One checked access of at most 32 bits, or of 64 bits to a memory with wide rows. -/
def memOne (who : Who) (write : Bool) (a size v : Nat) (s : State) : Ans × State :=
  match accessCheck who write a size s with
  | .error c => (.refused c, s)
  | .ok r => if memRegion r then memTarget who r write a size v s else (.refused .unmapped, s)

/-- An access to a memory through the fabric, checked and logged. -/
def memAccess (who : Who) (write : Bool) (a size v : Nat) (s : State) : Ans × State :=
  if size = 8 ∧ (regionOf a).any narrowRegion then
    match accessCheck who write a 8 s with
    | .error c => (.refused c, busErr who write a c s)
    | .ok _ =>
    match logged who write a (memOne who write a 4 (v % 2 ^ 32) s) with
    | (.refused c, s) => (.refused c, s)
    | (.ok lo, s) =>
      match logged who write (a + 4) (memOne who write (a + 4) 4 (v / 2 ^ 32) s) with
      | (.refused c, s) => (.refused c, s)
      | (.ok hi, s) => (.ok (lo + hi * 0x100000000#64), s)
  else logged who write a (memOne who write a size v s)

-- DMA channels

/-- DMA channel `n` as an accessor (R79). -/
def dmaWho (n : Fin 8) : Who := { cid := 50 + n.val }

/-- Word `i` of the descriptor in force. -/
def dmaWord (n : Fin 8) (i : Nat) (s : State) : Word := (s.dma.get n).desc.getD i 0#32

/-- STATUS is written back to word 7 of the descriptor (R102, R103); a refusal is logged and changes nothing else. -/
def dmaWriteBack (n : Fin 8) (code : Nat) (done : Bool) (s : State) : State :=
  if fieldOf 14 1 (dmaWord n 0 s) = 1 then
    match memAccess (dmaWho n) true (s.get (F.DMA_CHnCUR_ADDR n) + 28) 4
      ((s.dma.get n).done + 65536 * code + (if done then 2 ^ 31 else 0)) s with
    | (_, s) => s
  else s

/-- Every trigger of a list goes back to its FIFO (R518). -/
def returnAll (ts : List Trig) (s : State) : State := ts.foldl (fun s t => returnTrig t s) s

/-- The channel stops (R102 step 6, R103): queued and held triggers are discarded. -/
def dmaStop (n : Fin 8) (s : State) : State :=
  let c := s.dma.get n
  let s := (s.set (F.DMA_CHnCTL_EN n) 0).set (F.DMA_CHnSTAT_BUSY n) 0
  returnAll (c.queue ++ c.held) (s.setDma n {})

/-- The channel stops with an error (R103). -/
def dmaError (n : Fin 8) (code : Nat) (addr : Option Nat) (s : State) : State :=
  let s := if code = 2 ∨ code = 3 ∨ code = 5 then dmaWriteBack n code false s else s
  let s := (dmaStop n s).set (F.DMA_CHnSTAT_ERR n) 1 |>.set (F.DMA_CHnSTAT_CODE n) code
  let s := match addr with
    | some a => s.set (F.DMA_CHnERRADDR_ADDR n) a
    | none => s
  s.raise (0x88 + n.val)

/-- DMA_START (R102 step 1). -/
def dmaStart (n : Fin 8) (s : State) : State :=
  if s.on (F.DMA_CHnCTL_EN n) then s
  else
    let s := (s.set (F.DMA_CHnCTL_EN n) 1).set (F.DMA_CHnSTAT_BUSY n) 1 |>.set (F.DMA_CHnSTAT_CODE n) 0
    let s := s.set (F.DMA_CHnCUR_ADDR n) (s.get (F.DMA_CHnDESC_ADDR n))
    s.setDma n { fetching := true }

/-- DMA_ABORT (R103): while an element's access is on the chain, the element completes first. During a descriptor fetch there is no
descriptor to write back to. -/
def dmaAbort (n : Fin 8) (s : State) : State :=
  if !s.on (F.DMA_CHnCTL_EN n) then s
  else
    let c := s.dma.get n
    if c.remote then s.setDma n { c with abort := true } else dmaError n 5 none s

/-- A write of DMA_CHnCTL (R519). -/
def dmaCtlWrite (n : Fin 8) (w : Word) (s : State) : State :=
  if fieldOf 1 1 w = 1 ∧ s.on (F.DMA_CHnCTL_EN n) then dmaAbort n s
  else if fieldOf 1 1 w = 1 then s
  else
    let s := if fieldOf 0 1 w = 1 then dmaStart n s else s
    if fieldOf 2 1 w = 1 then s.trigger n .sw else s

/-- Writes of the DMA block (R103). -/
def dmaWrite (cid a : Nat) (w : Word) (s : State) : Option (Ans × State) :=
  if a < 0x50003000 ∨ 0x50003200 ≤ a then none
  else
    let n : Fin 8 := ⟨(a - 0x50003000) / 0x40 % 8, Nat.mod_lt _ (by decide)⟩
    let k := a % 0x40
    if !isOne cid && cid != s.get (F.DMA_CHnOWN_OWNER n) then some (.refused .deny, s)
    else if k = 0 then some (.ok 0#64, dmaCtlWrite n w s)
    else if k = 4 ∧ s.on (F.DMA_CHnSTAT_BUSY n) then some (.refused .busy, s)
    else none

/-- Is the descriptor valid (R101)? -/
def descValid (ws : List Word) : Bool :=
  let w0 := ws.getD 0 0#32
  w0 &&& 0xFFFF8000#32 == 0#32 && fieldOf 2 2 w0 != 3 && fieldOf 4 2 w0 != 3 &&
  !(2 ≤ fieldOf 6 2 w0 && 23 < fieldOf 8 5 w0) && fieldOf 0 16 (ws.getD 3 0#32) != 0 && ws.getD 6 0#32 == 0#32

/-- Is a descriptor at `a` one the channel may fetch: 8-byte aligned and wholly inside region 1, 2 or 10 (R101)? -/
def descPlace (a : Nat) : Bool :=
  a % 8 == 0 && (regionOf a == regionOf (a + 31)) && (regionOf a == some 1 || regionOf a == some 2 || regionOf a == some 10)

/-- The eight words of a descriptor, or the address of the read that was refused. -/
def descRead (n : Fin 8) (a : Nat) : Nat → List Word → State → (Except Nat (List Word)) × State
  | 0, ws, s => (.ok ws, s)
  | k + 1, ws, s =>
    let p := a + 4 * ws.length
    match memAccess (dmaWho n) false p 4 0 s with
    | (.ok d, s) => descRead n a k (ws ++ [d.setWidth 32]) s
    | (.refused _, s) => (.error p, s)

/-- Queued triggers are matched against the descriptor in force, those that do not match returned (R518). -/
def matchQueue (n : Fin 8) (ts : List Trig) (s : State) : State :=
  let w0 := dmaWord n 0 s
  let s := s.setDma n { s.dma.get n with queue := ts.filter (trigMatches w0) }
  returnAll (ts.filter (fun t => !trigMatches w0 t)) s

/-- With no block in progress, the next queued trigger starts one (R102 step 3). -/
def dmaNextBlock (n : Fin 8) (s : State) : State :=
  let c := s.dma.get n
  match c.queue with
  | _ :: rest =>
    if c.block = 0 then
      s.setDma n { c with queue := rest, block := blockSize (dmaWord n 3 s) (s.get (F.DMA_CHnSTAT_REMAIN n)) }
    else s
  | [] => s

/-- DESCRIPTOR_FETCH (R101, R518): the descriptor is checked and put in force, or the channel stops. Triggers carried over are
matched first, then those held during the fetch. -/
def descFetch (n : Fin 8) (s : State) : State :=
  if !(s.dma.get n).fetching then s
  else
    let a := s.get (F.DMA_CHnCUR_ADDR n)
    if !descPlace a then dmaError n 1 (some a) s
    else match descRead n a 8 [] s with
      | (.error p, s) => dmaError n 4 (some p) s
      | (.ok ws, s) =>
        if !descValid ws then dmaError n 1 (some a) s
        else
          let c := s.dma.get n
          let count := fieldOf 0 16 (ws.getD 3 0#32)
          let s := s.set (F.DMA_CHnSTAT_REMAIN n) count
          let s := s.setDma n { c with fetching := false, desc := ws, done := 0, src := ws.getD 1 0#32, dst := ws.getD 2 0#32,
                                       held := [], queue := [],
                                       block := if fieldOf 6 2 (ws.getD 0 0#32) = 0 then count else 0 }
          let s := dmaNextBlock n (matchQueue n c.queue s)
          fifoKickAll (c.held.foldl (fun s t => s.trigger n t) s)

end Sys2Proof.Machine
end

