-- ==== Sys2Proof/Machine/RegTable.lean ====
section
/-!
DEFINITION. The register tables as data: for every register its base, its index dimensions (stride, count) and its
fields with their access codes (R3, R4, R510). The generic register read and write are driven by it; registers whose
read or write acts beyond the code have their own operation and are dispatched before this table.
-/
namespace Sys2Proof.Machine

/-- A row of the register tables. -/
structure RegRow where
  base : Nat
  dims : List (Nat × Nat)
  rst : Word
  fields : List (Nat × Nat × Acc)
deriving DecidableEq, Repr

/-- Register rows 0 to 39. -/
def regRows0 : List RegRow := [
  ⟨0x50001000, [], 0x3E800006#32, [(0, 2, .rwl), (2, 1, .rwl), (3, 1, .rwl), (4, 2, .rwl), (6, 1, .rwl), (16, 16, .rwl)]⟩,
  ⟨0x50001004, [], 0xE#32, [(0, 2, .ro), (2, 2, .ro), (4, 1, .ro), (5, 1, .ro), (6, 1, .ro), (7, 1, .ro), (8, 1, .ro), (16, 10, .ro)]⟩,
  ⟨0x5000100C, [], 0x326419#32, [(0, 8, .rwl), (8, 8, .rwl), (16, 8, .rwl)]⟩,
  ⟨0x50001010, [], 0x1000000#32, [(0, 32, .ro)]⟩,
  ⟨0x50001014, [], 0x400#32, [(0, 14, .ro)]⟩,
  ⟨0x50001018, [], 0x0#32, [(0, 14, .w1c)]⟩,
  ⟨0x5000101C, [], 0x0#32, [(0, 9, .w1c)]⟩,
  ⟨0x50001020, [], 0x0#32, [(0, 9, .rw)]⟩,
  ⟨0x50001024, [], 0x1F00#32, [(0, 5, .ro), (8, 5, .ro)]⟩,
  ⟨0x50001028, [], 0x0#32, [(0, 16, .ro), (16, 16, .ro)]⟩,
  ⟨0x50001030, [], 0x0#32, [(0, 32, .ro)]⟩,
  ⟨0x50001034, [], 0x0#32, [(0, 32, .ro)]⟩,
  ⟨0x50000040, [], 0x0#32, [(0, 5, .ro), (8, 5, .w1c)]⟩,
  ⟨0x50000044, [], 0x0#32, [(0, 1, .ro), (1, 1, .ro), (2, 3, .ro)]⟩,
  ⟨0x50000048, [], 0x0#32, [(0, 4, .ro), (4, 1, .ro), (5, 1, .ro), (8, 3, .ro), (16, 5, .ro), (24, 5, .ro)]⟩,
  ⟨0x5000004C, [], 0x0#32, [(0, 32, .ro)]⟩,
  ⟨0x50000050, [], 0x0#32, [(0, 16, .ro), (16, 6, .ro), (24, 6, .ro)]⟩,
  ⟨0x50000054, [], 0x0#32, [(0, 16, .wo)]⟩,
  ⟨0x50000058, [], 0x0#32, [(0, 1, .rw), (1, 1, .wo), (8, 1, .ro), (9, 1, .w1c), (10, 1, .w1c)]⟩,
  ⟨0x5000005C, [], 0x0#32, [(0, 32, .ro)]⟩,
  ⟨0x50000080, [], 0x0#32, [(0, 16, .cnt)]⟩,
  ⟨0x50000084, [], 0x0#32, [(0, 3, .ro)]⟩,
  ⟨0x50000088, [], 0x0#32, [(0, 16, .cnt)]⟩,
  ⟨0x5000008C, [], 0x0#32, [(0, 32, .ro)]⟩,
  ⟨0x500000A0, [(8, 8)], 0x0#32, [(0, 32, .ro)]⟩,
  ⟨0x500000A4, [(8, 8)], 0x0#32, [(0, 6, .ro), (6, 7, .ro), (13, 1, .ro), (14, 1, .ro), (16, 4, .ro), (31, 1, .ro)]⟩,
  ⟨0x50000100, [(4, 8)], 0x0#32, [(0, 32, .rwl)]⟩,
  ⟨0x50000120, [(4, 2)], 0x0#32, [(0, 32, .rwl)]⟩,
  ⟨0x50000400, [(16, 35)], 0x0#32, [(0, 32, .rwl)]⟩,
  ⟨0x50000404, [(16, 35)], 0x0#32, [(0, 32, .rwl)]⟩,
  ⟨0x50000408, [(16, 35)], 0x0#32, [(0, 32, .rwl)]⟩,
  ⟨0x5000040C, [(16, 35)], 0x0#32, [(0, 32, .rwl)]⟩,
  ⟨0x50002000, [(4, 128)], 0x0#32, [(0, 8, .rw), (8, 4, .rw), (12, 3, .rw), (16, 3, .rw), (31, 1, .rw)]⟩,
  ⟨0x50002200, [(4, 4)], 0x0#32, [(0, 32, .w1c)]⟩,
  ⟨0x50002300, [(4, 32)], 0x0#32, [(0, 8, .cnt), (8, 8, .cnt), (16, 8, .cnt), (24, 8, .cnt)]⟩,
  ⟨0x50002400, [], 0x0#32, [(0, 7, .ro), (8, 8, .ro), (31, 1, .ro)]⟩,
  ⟨0x50002404, [], 0x0#32, [(0, 4, .rw)]⟩,
  ⟨0x50002408, [], 0x0#32, [(0, 2, .wo)]⟩,
  ⟨0x50002410, [(4, 4)], 0x0#32, [(0, 32, .rw1)]⟩,
  ⟨0x50003000, [(64, 8)], 0x0#32, [(0, 1, .rw), (1, 1, .wo), (2, 1, .wo)]⟩]

/-- Register rows 40 to 79. -/
def regRows1 : List RegRow := [
  ⟨0x50003004, [(64, 8)], 0x0#32, [(0, 32, .rw)]⟩,
  ⟨0x50003008, [(64, 8)], 0x0#32, [(0, 1, .ro), (1, 1, .w1c), (2, 1, .w1c), (3, 1, .w1c), (4, 4, .ro), (8, 4, .ro), (16, 16, .ro)]⟩,
  ⟨0x5000300C, [(64, 8)], 0x0#32, [(0, 32, .ro)]⟩,
  ⟨0x50003010, [(64, 8)], 0x1#32, [(0, 6, .rwl)]⟩,
  ⟨0x50003014, [(64, 8)], 0x0#32, [(0, 32, .ro)]⟩,
  ⟨0x50000200, [(32, 2)], 0x0#32, [(0, 1, .rw), (1, 1, .rw), (2, 1, .wo), (16, 16, .wo)]⟩,
  ⟨0x50000204, [(32, 2)], 0x0#32, [(0, 1, .ro), (1, 1, .ro), (2, 1, .ro), (3, 2, .ro), (5, 1, .w1c), (6, 1, .w1c)]⟩,
  ⟨0x50000208, [(32, 2)], 0x0#32, [(0, 14, .ro)]⟩,
  ⟨0x5000020C, [(32, 2)], 0x0#32, [(0, 16, .ro), (16, 16, .ro)]⟩,
  ⟨0x50000210, [(32, 2)], 0x0#32, [(0, 16, .ro), (16, 4, .ro)]⟩,
  ⟨0x50000214, [(32, 2)], 0x0#32, [(0, 11, .ro)]⟩,
  ⟨0x50000240, [], 0xFF0000FF#32, [(0, 16, .rwl), (16, 16, .rwl)]⟩,
  ⟨0x50004000, [], 0x1001#32, [(0, 1, .rw), (8, 8, .rw)]⟩,
  ⟨0x50004004, [], 0x0#32, [(0, 16, .cnt), (16, 16, .cnt)]⟩,
  ⟨0x50004008, [], 0x0#32, [(0, 32, .ro)]⟩,
  ⟨0x5000400C, [], 0x0#32, [(0, 6, .ro), (8, 6, .ro)]⟩,
  ⟨0x50004010, [(8, 4)], 0x0#32, [(0, 32, .ro)]⟩,
  ⟨0x50004014, [(8, 4)], 0x0#32, [(0, 6, .ro), (6, 7, .ro), (16, 3, .ro), (31, 1, .ro)]⟩,
  ⟨0x50004030, [], 0x0#32, [(0, 2, .ro)]⟩,
  ⟨0x50004040, [], 0x0#32, [(0, 32, .rw)]⟩,
  ⟨0x50004044, [], 0x0#32, [(0, 32, .rw)]⟩,
  ⟨0x50004048, [], 0x0#32, [(0, 7, .rw), (8, 1, .rw)]⟩,
  ⟨0x50004080, [], 0x0#32, [(0, 1, .wo), (16, 16, .wo)]⟩,
  ⟨0x50004084, [], 0x0#32, [(0, 1, .ro), (1, 1, .w1c), (2, 1, .w1c), (8, 8, .ro)]⟩,
  ⟨0x500040C0, [], 0x3F0200#32, [(0, 8, .rw), (8, 1, .rw), (9, 1, .rw), (10, 1, .wo), (11, 1, .wo), (16, 8, .rw)]⟩,
  ⟨0x500040C4, [], 0x0#32, [(0, 1, .ro), (1, 1, .w1c), (2, 1, .w1c), (3, 1, .w1c), (4, 3, .ro), (8, 8, .ro), (16, 14, .ro), (30, 2, .ro)]⟩,
  ⟨0x500040C8, [], 0x0#32, [(0, 32, .ro)]⟩,
  ⟨0x500040CC, [], 0x0#32, [(0, 7, .ro)]⟩,
  ⟨0x500040D0, [], 0x0#32, [(0, 32, .ro)]⟩,
  ⟨0x50004100, [(4, 24)], 0x4#32, [(0, 2, .rw), (2, 1, .rw), (4, 2, .ro), (6, 1, .ro), (7, 1, .w1c)]⟩,
  ⟨0x50004180, [(4, 9)], 0x4#32, [(0, 2, .rw), (2, 1, .rw), (4, 2, .ro), (6, 1, .ro), (7, 1, .w1c)]⟩,
  ⟨0x500041C0, [(4, 9)], 0x4#32, [(0, 2, .rw), (2, 1, .rw), (4, 2, .ro), (6, 1, .ro), (7, 1, .w1c)]⟩,
  ⟨0x50004200, [(4, 4)], 0x4#32, [(0, 2, .rw), (2, 1, .rw), (4, 2, .ro), (6, 1, .ro), (7, 1, .w1c)]⟩,
  ⟨0x50005000, [(4, 128)], 0x0#32, [(0, 32, .rw)]⟩,
  ⟨0x50005200, [(4, 128)], 0x0#32, [(0, 32, .ro)]⟩,
  ⟨0x50005400, [(4, 128)], 0x1#32, [(0, 8, .rwl), (8, 1, .rwl)]⟩,
  ⟨0x50005600, [(4, 128)], 0x101#32, [(0, 8, .ro), (8, 8, .ro), (16, 6, .ro), (22, 1, .ro), (23, 1, .ro), (24, 4, .ro), (28, 4, .ro)]⟩,
  ⟨0x50005800, [(8, 128)], 0x0#32, [(0, 32, .ro)]⟩,
  ⟨0x50005804, [(8, 128)], 0x0#32, [(0, 32, .ro)]⟩,
  ⟨0x50005C00, [], 0x0#32, [(0, 7, .ro), (8, 6, .ro), (14, 7, .ro), (24, 4, .ro), (30, 1, .ro), (31, 1, .ro)]⟩,
  ⟨0x50005C04, [], 0x0#32, [(0, 7, .wo)]⟩,
  ⟨0x50005C08, [], 0x0#32, [(0, 6, .wo)]⟩,
  ⟨0x50005C10, [], 0x0#32, [(0, 32, .w1c)]⟩]

/-- Register rows 80 to 119. -/
def regRows2 : List RegRow := [
  ⟨0x50005C14, [], 0x0#32, [(0, 32, .w1c)]⟩,
  ⟨0x50005C20, [(4, 8)], 0x0#32, [(0, 32, .ro)]⟩,
  ⟨0x50005C40, [(8, 8)], 0x2#32, [(0, 32, .rwl)]⟩,
  ⟨0x50005C44, [(8, 8)], 0x0#32, [(0, 32, .rwl)]⟩,
  ⟨0x50005D00, [(4, 8)], 0x0#32, [(0, 7, .ro), (8, 6, .ro), (14, 7, .ro), (24, 4, .ro), (31, 1, .ro)]⟩,
  ⟨0x50005D20, [], 0x0#32, [(0, 3, .ro)]⟩,
  ⟨0x50005D24, [], 0x0#32, [(0, 6, .ro)]⟩,
  ⟨0x50006000, [(4, 32)], 0x1#32, [(0, 6, .rwl), (8, 1, .rwl)]⟩,
  ⟨0x50006080, [(8, 32)], 0x2#32, [(0, 32, .rwl)]⟩,
  ⟨0x50006084, [(8, 32)], 0x0#32, [(0, 32, .rwl)]⟩,
  ⟨0x50006180, [], 0x0#32, [(0, 32, .w1c)]⟩,
  ⟨0x50006184, [], 0x0#32, [(0, 32, .ro)]⟩,
  ⟨0x50006190, [], 0x0#32, [(0, 4, .w1c), (8, 8, .ro)]⟩,
  ⟨0x50006200, [], 0x0#32, [(0, 32, .ro)]⟩,
  ⟨0x50006204, [], 0x0#32, [(0, 16, .wo)]⟩,
  ⟨0x50006208, [], 0x0#32, [(0, 22, .wo)]⟩,
  ⟨0x5000620C, [], 0x0#32, [(0, 32, .wo)]⟩,
  ⟨0x50006210, [], 0x200#32, [(0, 10, .ro), (16, 10, .ro), (26, 6, .ro)]⟩,
  ⟨0x50006214, [], 0x40#32, [(0, 10, .rw)]⟩,
  ⟨0x50006218, [], 0x0#32, [(0, 6, .wo)]⟩,
  ⟨0x50006220, [], 0x0#32, [(0, 32, .w1c)]⟩,
  ⟨0x50006224, [], 0x0#32, [(0, 32, .w1c)]⟩,
  ⟨0x50006228, [], 0x0#32, [(0, 32, .w1c)]⟩,
  ⟨0x5000622C, [], 0x0#32, [(0, 32, .w1c)]⟩,
  ⟨0x50006240, [(8, 8)], 0x0#32, [(0, 16, .ro), (16, 6, .ro), (24, 4, .ro), (31, 1, .ro)]⟩,
  ⟨0x50006244, [(8, 8)], 0x0#32, [(0, 6, .ro)]⟩,
  ⟨0x50006280, [], 0x0#32, [(0, 3, .ro)]⟩,
  ⟨0x50006300, [(4, 64)], 0x0#32, [(0, 10, .ro)]⟩,
  ⟨0x50006800, [(4, 512)], 0x0#32, [(0, 7, .ro), (8, 2, .ro), (10, 1, .ro), (16, 6, .ro), (22, 9, .ro), (31, 1, .ro)]⟩,
  ⟨0x50008000, [(4096, 2), (128, 2)], 0x10#32, [(0, 1, .rw), (1, 1, .rw), (2, 2, .rw), (4, 2, .rw), (6, 1, .rw)]⟩,
  ⟨0x50008004, [(4096, 2), (128, 2)], 0x271000#32, [(0, 24, .rw)]⟩,
  ⟨0x50008008, [(4096, 2), (128, 2)], 0x0#32, [(0, 32, .wo)]⟩,
  ⟨0x5000800C, [(4096, 2), (128, 2)], 0x0#32, [(0, 1, .ro), (1, 1, .ro), (2, 1, .ro), (3, 1, .ro), (4, 1, .w1c)]⟩,
  ⟨0x50008010, [(4096, 2), (128, 2)], 0x0#32, [(0, 32, .rw)]⟩,
  ⟨0x50008014, [(4096, 2), (128, 2)], 0x0#32, [(0, 32, .rw)]⟩,
  ⟨0x50008018, [(4096, 2), (128, 2)], 0x10#32, [(0, 8, .rw)]⟩,
  ⟨0x5000801C, [(4096, 2), (128, 2)], 0x0#32, [(0, 32, .ro)]⟩,
  ⟨0x50008020, [(4096, 2), (128, 2), (4, 8)], 0x0#32, [(0, 24, .rw), (30, 1, .rw), (31, 1, .rw)]⟩,
  ⟨0x50008040, [(4096, 2), (128, 2)], 0x0#32, [(0, 16, .ro)]⟩,
  ⟨0x50008200, [(4096, 2), (64, 8)], 0x0#32, [(0, 16, .rw)]⟩]

/-- Register rows 120 to 159. -/
def regRows3 : List RegRow := [
  ⟨0x50008204, [(4096, 2), (64, 8)], 0x0#32, [(0, 24, .rw)]⟩,
  ⟨0x50008208, [(4096, 2), (64, 8)], 0x0#32, [(0, 19, .rw)]⟩,
  ⟨0x5000820C, [(4096, 2), (64, 8)], 0x0#32, [(0, 19, .rw)]⟩,
  ⟨0x50008210, [(4096, 2), (64, 8)], 0x28#32, [(0, 11, .rw)]⟩,
  ⟨0x50008214, [(4096, 2), (64, 8)], 0x0#32, [(0, 24, .rw)]⟩,
  ⟨0x50008218, [(4096, 2), (64, 8)], 0x0#32, [(0, 2, .rw), (2, 1, .rw), (4, 2, .rw), (6, 1, .rw)]⟩,
  ⟨0x5000821C, [(4096, 2), (64, 8)], 0x0#32, [(0, 1, .wo), (1, 1, .wo), (2, 1, .wo)]⟩,
  ⟨0x50008220, [(4096, 2), (64, 8)], 0x0#32, [(0, 3, .ro), (4, 4, .ro), (8, 4, .ro), (12, 4, .ro), (16, 1, .w1c), (17, 1, .w1c), (18, 1, .w1c), (19, 1, .w1c), (20, 1, .w1c), (21, 1, .w1c), (22, 1, .w1c)]⟩,
  ⟨0x50008224, [(4096, 2), (64, 8)], 0x0#32, [(0, 32, .ro)]⟩,
  ⟨0x50008228, [(4096, 2), (64, 8)], 0x0#32, [(0, 32, .ro)]⟩,
  ⟨0x5000822C, [(4096, 2), (64, 8)], 0x0#32, [(0, 16, .rwl)]⟩,
  ⟨0x50008400, [(4096, 2)], 0x0#32, [(0, 8, .rwl)]⟩,
  ⟨0x50008404, [], 0x0#32, [(0, 8, .rwl)]⟩,
  ⟨0x50008408, [(4096, 2)], 0x0#32, [(0, 16, .ro)]⟩,
  ⟨0x5000840C, [(4096, 2)], 0x0#32, [(0, 16, .cnt)]⟩,
  ⟨0x5000A000, [(256, 4)], 0x0#32, [(0, 1, .rw), (1, 1, .rw)]⟩,
  ⟨0x5000A004, [(256, 4)], 0x0#32, [(0, 16, .rw)]⟩,
  ⟨0x5000A008, [(256, 4)], 0x0#32, [(0, 4, .ro), (4, 1, .ro), (5, 1, .ro), (8, 1, .w1c), (9, 1, .w1c), (10, 1, .w1c)]⟩,
  ⟨0x5000A00C, [(256, 4)], 0x0#32, [(0, 16, .cnt)]⟩,
  ⟨0x5000A010, [(256, 4)], 0x0#32, [(0, 32, .wo)]⟩,
  ⟨0x5000A040, [(256, 4), (4, 16)], 0x40027#32, [(0, 6, .rw), (6, 2, .rw), (8, 5, .rw), (16, 4, .rw), (20, 1, .rw), (21, 1, .rw), (22, 1, .rw)]⟩,
  ⟨0x5000A400, [(256, 4), (16, 16)], 0x0#32, [(0, 16, .ro), (16, 16, .ro)]⟩,
  ⟨0x5000A404, [(256, 4), (16, 16)], 0x0#32, [(0, 32, .ro)]⟩,
  ⟨0x5000A800, [], 0x64#32, [(0, 12, .ro), (16, 1, .ro)]⟩,
  ⟨0x5000A804, [], 0x7D#32, [(0, 8, .rwl)]⟩,
  ⟨0x5000A808, [], 0x0#32, [(0, 3, .ro), (8, 3, .w1c), (16, 1, .w1c)]⟩,
  ⟨0x5000B000, [(8, 8)], 0xC000#32, [(0, 1, .rw), (1, 1, .rw), (2, 2, .rw), (4, 6, .rw), (10, 4, .rw), (14, 2, .rw), (16, 10, .rw)]⟩,
  ⟨0x5000B004, [(8, 8)], 0x3FF#32, [(0, 10, .rw)]⟩,
  ⟨0x5000B040, [], 0x0#32, [(0, 8, .ro), (8, 8, .ro)]⟩,
  ⟨0x5000B080, [(4, 4)], 0x800#32, [(0, 1, .rw), (1, 5, .rw), (6, 6, .rw), (12, 3, .rw), (15, 1, .rw)]⟩,
  ⟨0x5000C000, [(64, 24)], 0x0#32, [(0, 1, .rw)]⟩,
  ⟨0x5000C004, [(64, 24)], 0x401000#32, [(0, 5, .rws), (5, 3, .rws), (8, 1, .rws), (9, 1, .rws), (10, 1, .rws), (12, 2, .rws), (14, 2, .rws), (16, 16, .rws)]⟩,
  ⟨0x5000C008, [(64, 24)], 0x0#32, [(0, 11, .rws)]⟩,
  ⟨0x5000C00C, [(64, 24)], 0x0#32, [(0, 32, .rws)]⟩,
  ⟨0x5000C010, [(64, 24)], 0x0#32, [(0, 32, .rws)]⟩,
  ⟨0x5000C014, [(64, 24)], 0x0#32, [(0, 32, .rws)]⟩,
  ⟨0x5000C018, [(64, 24)], 0x0#32, [(0, 32, .rws)]⟩,
  ⟨0x5000C01C, [(64, 24)], 0x0#32, [(0, 32, .rws)]⟩,
  ⟨0x5000C020, [(64, 24)], 0x0#32, [(0, 1, .ro), (1, 1, .ro), (2, 1, .ro), (3, 3, .rws), (8, 3, .ro), (11, 1, .w1c), (16, 1, .w1c), (17, 1, .w1c), (18, 1, .w1c)]⟩,
  ⟨0x5000C024, [(64, 24)], 0x0#32, [(0, 16, .cnt)]⟩]

/-- Register rows 160 to 199. -/
def regRows4 : List RegRow := [
  ⟨0x5000C800, [], 0x0#32, [(0, 32, .ro)]⟩,
  ⟨0x5000C804, [], 0x0#32, [(0, 24, .ro)]⟩,
  ⟨0x5000E000, [(256, 2)], 0x0#32, [(0, 1, .rw), (1, 1, .rw), (2, 1, .rw), (3, 2, .rw), (5, 1, .rw), (6, 1, .rw), (7, 1, .rw), (8, 8, .rw)]⟩,
  ⟨0x5000E004, [(256, 2)], 0x1034#32, [(0, 12, .rw), (12, 4, .rw)]⟩,
  ⟨0x5000E008, [(256, 2)], 0x0#32, [(0, 9, .rw), (12, 1, .ro), (13, 1, .ro), (14, 1, .ro), (31, 1, .ro)]⟩,
  ⟨0x5000E00C, [(256, 2)], 0x0#32, [(0, 5, .ro), (8, 5, .ro), (16, 1, .ro), (17, 1, .w1c), (18, 1, .w1c), (19, 1, .w1c), (20, 1, .w1c)]⟩,
  ⟨0x5000E010, [(256, 2)], 0x0#32, [(0, 4, .rw), (8, 4, .rw)]⟩,
  ⟨0x5000E014, [(256, 2)], 0x11#32, [(0, 4, .rw), (4, 4, .rw), (8, 1, .rw)]⟩,
  ⟨0x5000E200, [], 0x0#32, [(0, 1, .rw), (1, 1, .rw), (8, 7, .rw)]⟩,
  ⟨0x5000E204, [], 0x1CC01F4#32, [(0, 10, .rw), (16, 10, .rw)]⟩,
  ⟨0x5000E208, [], 0x0#32, [(0, 24, .wo)]⟩,
  ⟨0x5000E20C, [], 0x0#32, [(0, 8, .ro), (31, 1, .ro)]⟩,
  ⟨0x5000E210, [], 0x2#32, [(0, 1, .ro), (1, 1, .ro), (8, 1, .w1c), (9, 1, .w1c), (10, 1, .w1c), (11, 1, .w1c), (12, 1, .w1c), (13, 1, .w1c)]⟩,
  ⟨0x5000E214, [], 0x0#32, [(0, 8, .rw)]⟩,
  ⟨0x5000E300, [], 0x0#32, [(0, 1, .rw)]⟩,
  ⟨0x5000E304, [], 0x0#32, [(0, 1, .ro), (1, 1, .ro), (8, 1, .w1c)]⟩,
  ⟨0x5000E3F0, [], 0x1010101#32, [(0, 6, .rwl), (8, 6, .rwl), (16, 6, .rwl), (24, 6, .rwl)]⟩,
  ⟨0x5000D000, [], 0x0#32, [(0, 1, .wo)]⟩,
  ⟨0x5000D004, [], 0x32141070#32, [(0, 2, .rwl), (2, 2, .rwl), (4, 1, .rwl), (5, 1, .rwl), (6, 1, .rwl), (8, 8, .rwl), (16, 8, .rwl), (24, 8, .rwl)]⟩,
  ⟨0x5000D008, [], 0x0#32, [(16, 7, .ro)]⟩,
  ⟨0x5000D00C, [], 0x0#32, [(0, 32, .ro)]⟩,
  ⟨0x5000D010, [(32, 2)], 0x0#32, [(0, 1, .ro), (1, 1, .ro), (2, 1, .ro), (3, 2, .ro), (5, 2, .ro), (8, 7, .ro), (15, 1, .ro), (16, 1, .ro), (24, 8, .ro)]⟩,
  ⟨0x5000D014, [(32, 2)], 0x4444#32, [(0, 15, .ro), (16, 15, .ro)]⟩,
  ⟨0x5000D018, [(32, 2)], 0x0#32, [(0, 16, .cnt), (16, 8, .cnt), (24, 8, .cnt)]⟩,
  ⟨0x5000D01C, [(32, 2)], 0x0#32, [(0, 8, .cnt), (8, 8, .cnt), (16, 8, .cnt), (24, 8, .cnt)]⟩,
  ⟨0x5000D050, [], 0x0#32, [(0, 32, .ro)]⟩,
  ⟨0x5000D054, [], 0x0#32, [(0, 32, .ro)]⟩,
  ⟨0x5000D058, [], 0x0#32, [(0, 32, .ro)]⟩,
  ⟨0x5000D05C, [], 0x0#32, [(0, 32, .ro)]⟩,
  ⟨0x5000D060, [], 0x0#32, [(0, 32, .ro)]⟩,
  ⟨0x5000D064, [], 0x0#32, [(0, 32, .ro)]⟩,
  ⟨0x5000D068, [], 0x0#32, [(0, 32, .w1c)]⟩,
  ⟨0x5000D06C, [], 0x0#32, [(0, 32, .w1c)]⟩,
  ⟨0x5000D070, [], 0x13#32, [(0, 8, .ro), (8, 8, .ro)]⟩,
  ⟨0x5000D078, [], 0x0#32, [(0, 14, .w1c)]⟩,
  ⟨0x5000D07C, [], 0x0#32, [(0, 14, .rw)]⟩,
  ⟨0x5000D100, [], 0x320200C8#32, [(0, 32, .rwl)]⟩,
  ⟨0x5000D104, [], 0xC94403E8#32, [(0, 32, .rwl)]⟩,
  ⟨0x5000D108, [], 0x4103E8#32, [(0, 32, .rwl)]⟩,
  ⟨0x5000D10C, [], 0x0#32, [(0, 32, .rwl)]⟩]

/-- Register rows 200 to 239. -/
def regRows5 : List RegRow := [
  ⟨0x5000D110, [], 0x0#32, [(0, 6, .ro), (8, 8, .cnt), (16, 1, .w1c)]⟩,
  ⟨0x5000D114, [], 0x0#32, [(0, 3, .ro)]⟩,
  ⟨0x5000D120, [(8, 8)], 0x0#32, [(0, 15, .ro), (16, 7, .ro)]⟩,
  ⟨0x5000D124, [(8, 8)], 0x0#32, [(0, 6, .ro), (8, 4, .ro), (12, 2, .ro), (31, 1, .ro)]⟩,
  ⟨0x5000D160, [], 0x0#32, [(0, 16, .wo), (16, 5, .wo), (24, 7, .wo)]⟩,
  ⟨0x5000D164, [], 0x0#32, [(0, 16, .ro), (16, 4, .ro), (24, 6, .ro), (31, 1, .ro)]⟩,
  ⟨0x5000D170, [], 0x0#32, [(0, 1, .ro), (1, 1, .ro), (8, 8, .ro), (16, 16, .cnt)]⟩,
  ⟨0x5000D174, [], 0x0#32, [(0, 32, .ro)]⟩,
  ⟨0x5000D178, [], 0x0#32, [(0, 32, .ro)]⟩,
  ⟨0x5000D17C, [], 0x0#32, [(0, 32, .ro)]⟩,
  ⟨0x5000D180, [], 0x0#32, [(0, 32, .wo)]⟩,
  ⟨0x5000D184, [], 0x0#32, [(0, 32, .wo)]⟩,
  ⟨0x5000D190, [], 0x0#32, [(0, 1, .ro), (1, 7, .ro)]⟩,
  ⟨0x5000D1A0, [], 0x4#32, [(0, 3, .ro), (8, 4, .ro), (16, 8, .cnt), (24, 8, .cnt)]⟩,
  ⟨0x5000D1F0, [], 0x0#32, [(0, 6, .w1c)]⟩,
  ⟨0x5000D1F4, [], 0x0#32, [(0, 6, .rw)]⟩,
  ⟨0x50000300, [], 0x41A0258#32, [(0, 11, .rwl), (16, 11, .rwl)]⟩,
  ⟨0x50000304, [], 0x50A19#32, [(0, 7, .rwl), (8, 6, .rwl), (16, 7, .rwl)]⟩,
  ⟨0x50000308, [], 0x3840384#32, [(0, 11, .rwl), (16, 11, .rw), (31, 1, .rw)]⟩,
  ⟨0x5000030C, [], 0x0#32, [(0, 11, .rw)]⟩,
  ⟨0x50000310, [], 0x384#32, [(0, 11, .ro), (16, 7, .ro), (24, 2, .ro), (26, 1, .ro), (27, 1, .ro)]⟩,
  ⟨0x50000314, [], 0x0#32, [(0, 16, .cnt), (16, 8, .cnt), (24, 8, .cnt)]⟩,
  ⟨0x50000318, [], 0x0#32, [(0, 16, .ro)]⟩,
  ⟨0x50000320, [], 0x7FFF0000#32, [(0, 2, .ro), (4, 9, .ro), (16, 16, .ro)]⟩,
  ⟨0x50000324, [], 0x0#32, [(0, 9, .ro)]⟩,
  ⟨0x50000328, [], 0x0#32, [(0, 1, .wo)]⟩,
  ⟨0x5000032C, [], 0x0#32, [(0, 3, .rw)]⟩,
  ⟨0x50000330, [], 0x73337FFF#32, [(0, 16, .ro), (16, 16, .ro)]⟩,
  ⟨0x50000334, [], 0x0#32, [(0, 16, .ro)]⟩,
  ⟨0x50000700, [(4, 64)], 0x0#32, [(0, 32, .rwl)]⟩,
  ⟨0x5000F000, [], 0x0#32, [(0, 3, .ro), (8, 4, .ro), (12, 4, .ro), (16, 5, .ro), (24, 5, .ro)]⟩,
  ⟨0x5000F010, [], 0x0#32, [(0, 4, .wo), (4, 2, .wo), (16, 16, .wo)]⟩,
  ⟨0x5000F014, [], 0x0#32, [(0, 1, .ro), (1, 1, .w1c), (8, 4, .w1c)]⟩,
  ⟨0x5000F020, [(4, 8)], 0x0#32, [(0, 32, .rw)]⟩,
  ⟨0x5000F040, [(32, 4), (4, 8)], 0x0#32, [(0, 32, .ro)]⟩,
  ⟨0x5000F0C0, [], 0x1953E#32, [(0, 6, .rw), (6, 12, .rw), (18, 1, .rw), (31, 1, .rw)]⟩,
  ⟨0x5000F0C4, [], 0x0#32, [(0, 6, .ro), (8, 6, .w1c), (16, 4, .ro)]⟩,
  ⟨0x5000F100, [(32, 2)], 0x100#32, [(0, 1, .rw), (1, 1, .rw), (2, 1, .rw), (8, 6, .rw), (16, 1, .w1c)]⟩,
  ⟨0x5000F104, [(32, 2)], 0x0#32, [(0, 16, .rw), (16, 16, .rw)]⟩,
  ⟨0x5000F108, [(32, 2)], 0x0#32, [(0, 16, .wo)]⟩]

/-- Register rows 240 to 260. -/
def regRows6 : List RegRow := [
  ⟨0x5000F10C, [(32, 2)], 0x0#32, [(0, 16, .ro), (16, 1, .ro), (17, 1, .ro)]⟩,
  ⟨0x5000F180, [], 0x0#32, [(0, 12, .ro)]⟩,
  ⟨0x5000F184, [], 0x0#32, [(0, 12, .ro)]⟩,
  ⟨0x5000F188, [], 0x0#32, [(5, 7, .rw), (31, 1, .rw)]⟩,
  ⟨0x5000F18C, [], 0xFE0#32, [(5, 7, .rw)]⟩,
  ⟨0x5000F190, [], 0x0#32, [(0, 1, .ro), (1, 1, .ro), (2, 1, .ro)]⟩,
  ⟨0x5000F194, [], 0x0#32, [(0, 16, .wo)]⟩,
  ⟨0x5000F198, [], 0x0#32, [(0, 1, .wo)]⟩,
  ⟨0x5000F19C, [], 0x0#32, [(0, 1, .rw)]⟩,
  ⟨0x5000F1A0, [], 0x0#32, [(0, 1, .ro), (1, 3, .ro)]⟩,
  ⟨0x50007000, [(4, 99)], 0x4F#32, [(0, 2, .rwl), (2, 2, .rwl), (4, 2, .rwl), (6, 2, .rwl), (8, 1, .rwl), (9, 1, .rwl), (10, 1, .rwl), (31, 1, .ro)]⟩,
  ⟨0x50007200, [(32, 4)], 0x0#32, [(0, 32, .rw)]⟩,
  ⟨0x50007204, [(32, 4)], 0x0#32, [(0, 32, .rw)]⟩,
  ⟨0x50007208, [(32, 4)], 0x0#32, [(0, 32, .ro)]⟩,
  ⟨0x5000720C, [(32, 4)], 0x0#32, [(0, 32, .wo)]⟩,
  ⟨0x50007210, [(32, 4)], 0x0#32, [(0, 32, .wo)]⟩,
  ⟨0x50007300, [], 0x0#32, [(0, 7, .wo), (8, 2, .wo)]⟩,
  ⟨0x50007304, [], 0x0#32, [(0, 1, .ro), (1, 1, .w1c), (8, 4, .w1c), (16, 7, .ro)]⟩,
  ⟨0x50007308, [], 0x0#32, [(0, 32, .rwl)]⟩,
  ⟨0x50001008, [], 0x0#32, [(0, 24, .ro)]⟩,
  ⟨0x50009404, [], 0x0#32, []⟩]

/-- All register rows. -/
def regRows : List RegRow := regRows0 ++ regRows1 ++ regRows2 ++ regRows3 ++ regRows4 ++ regRows5 ++ regRows6

/-- Does `off`, an offset from a row's base, fall on an element of its index dimensions? -/
def dimsMatch : List (Nat × Nat) → Nat → Bool
  | [], off => off == 0
  | (stride, count) :: ds, off => decide (off / stride < count) && dimsMatch ds (off % stride)

/-- The row of the register at byte address `a`. -/
def regRow? (a : Nat) : Option RegRow :=
  regRows.find? (fun r => decide (r.base ≤ a) && dimsMatch r.dims (a - r.base))

/-- The word a register reads as when nothing has written it. -/
def resetWord (a : Nat) : Word :=
  if 0x50000400 ≤ a ∧ a < 0x50000630 then accRst (a % 16 / 4) ((a - 0x50000400) / 16)
  else if 0x50000700 ≤ a ∧ a < 0x50000800 then polImgRst ((a - 0x50000700) / 4)
  else if a = 0x50008408 ∨ a = 0x50009408 then 0x00FF#32
  else match regRow? a with
    | some r => r.rst
    | none => 0#32

end Sys2Proof.Machine
end

