-- ==== Sys2Proof/Machine/TslCtl.lean ====
section
/-!
DEFINITION. Starting and stopping Teasel channels, and the writes of the Teasel control block (R359 to R361).
-/
namespace Sys2Proof.Machine

/-- TB9's count. -/
def tb9 (s : State) : Nat := s.tb.cnt.get 9

/-- The pins of channel `t`: first and count. -/
def tslBase (t : Nat) (s : State) : Nat := s.get (F.TSL_CHtCFG_PINBASE t)
def tslCount (t : Nat) (s : State) : Nat := s.get (F.TSL_CHtCFG_PINCNT t) + 1

/-- Is channel `t` running? -/
def tslRuns (t : Nat) (s : State) : Bool := s.on (F.TSL_CHtCTL_RUN t)

/-- Do the pin windows of two channels overlap? -/
def tslOverlap (t u : Nat) (s : State) : Bool :=
  decide (tslBase t s < tslBase u s + tslCount u s) && decide (tslBase u s < tslBase t s + tslCount t s)

/-- CHANNEL_START (R359): STARTERR, or the channel runs; with SAFE latched it stops at once (R476). -/
def tslStart (t : Nat) (s : State) : State :=
  if tslRuns t s then s
  else if 32 < tslBase t s + tslCount t s ∨ (List.range 24).any (fun u => u != t && tslRuns u s && tslOverlap t u s) then
    s.set (F.TSL_CHtSTAT_STARTERR t) 1
  else
    let s := ((s.set (F.TSL_CHtCTL_RUN t) 1).set (F.TSL_CHtSTAT_RUN t) 1).setBit F.TSL_RUNNING_RUN t true
    let s := s.set (F.TSL_CHtTC_TC t) (tb9 s + s.get (F.TSL_CHtCFG_LEAD t))
    if s.on F.LCS_FSTAT_SAFE then tslStop t 7 s else s

/-- CHANNEL_STOP_WRITE (R360). -/
def tslHalt (t : Nat) (s : State) : State := if tslRuns t s then tslStop t 0 s else s

/-- Writes of the Teasel control block (R361). DEDUCED (assumption log 42): a write of TSL_CHtSTAT, which holds the flags marked "stopped", is refused
while the channel runs. -/
def tslWrite (cid a : Nat) (w : Word) (s : State) : Option (Ans × State) :=
  if a < 0x5000C000 ∨ 0x5000D000 ≤ a then none
  else if !isZeroOne cid then some (.refused .deny, s)
  else
    let t := (a - 0x5000C000) / 0x40
    let k := a % 0x40
    if 24 ≤ t then none
    else if k = 0 then
      some (.ok 0#64, if fieldOf 0 1 w = 1 then tslStart t s else tslHalt t s)
    else if k ≤ 0x20 ∧ tslRuns t s then some (.refused .busy, s)
    else if k = 4 then some (.ok 0#64, fifoKick t (s.setWord (R.TSL_CHtCFG t) (w &&& 0xFFFFF7FF#32)))
    else none

end Sys2Proof.Machine
end

