-- ==== Sys2Proof/Machine/RegAccess.lean ====
section
/-!
DEFINITION. Reads and writes of the memory-mapped registers: by their access codes (R3, R4, R510), and block by block where they act
(R94, R100, R138, R270, R277, R284, R404, R433, R456).
-/
namespace Sys2Proof.Machine

/-- The bits of a byte mask. -/
def bitMask (mask : Nat) : Nat :=
  (List.range 4).foldl (fun m i => if natBit mask i then m + 255 * 256 ^ i else m) 0

/-- What a field becomes by a write of `w` on the bits `m` (R3, R510). -/
def fieldWrite (locked : Bool) (acc : Acc) (lo wid old w m : Nat) : Nat :=
  let o := old / 2 ^ lo % 2 ^ wid
  let v := w / 2 ^ lo % 2 ^ wid
  let k := m / 2 ^ lo % 2 ^ wid
  match acc with
  | .rw | .rws => (o &&& (2 ^ wid - 1 - k)) + (v &&& k)
  | .rwl => if locked then o else (o &&& (2 ^ wid - 1 - k)) + (v &&& k)
  | .ro | .wo => o
  | .w1c => o &&& (2 ^ wid - 1 - (v &&& k))
  | .cnt => if v = 2 ^ wid - 1 ∧ k = 2 ^ wid - 1 then 0 else o
  | .rw1 => o ||| (v &&& k)

/-- The register at address `a`. -/
def regAt (a : Nat) : Reg := ⟨a, resetWord a⟩

/-- A write of register `a` of row `row` by its access codes; reserved bits stay as they are. -/
def codeWrite (row : RegRow) (a : Nat) (w : Word) (mask : Nat) (s : State) : State :=
  let old := (s.word (regAt a)).toNat
  let m := bitMask mask
  s.setWord (regAt a) (BitVec.ofNat 32 (row.fields.foldl (fun x f =>
    x - old / 2 ^ f.1 % 2 ^ f.2.1 * 2 ^ f.1 + fieldWrite s.bootLock f.2.2 f.1 f.2.1 old w.toNat m * 2 ^ f.1) old))

/-- Writes of the system control block that act beyond their access codes. -/
def sysWrite (row : RegRow) (cid a : Nat) (w : Word) (s : State) : Option (Ans × State) :=
  let off := a - 0x50000000
  if off = 0x54 then
    some (.ok 0#64, if isOne cid ∧ fieldOf 0 16 w = 0xA55A then softReset false s else s.set F.SYS_BOOTCTL_KEYERR 1)
  else if off = 0x58 then
    let s := codeWrite row a w 15 s
    some (.ok 0#64, if isOne cid ∧ fieldOf 1 1 w = 1 then bootConfirm s else s)
  else if 0x200 ≤ off ∧ off < 0x240 ∧ off % 0x20 = 0 then some (cpCtlWrite (coreIx ((off - 0x200) / 0x20)) cid w s)
  else if (0x300 ≤ off ∧ off < 0x338) ∨ (0x700 ≤ off ∧ off < 0x800) then
    if !isZeroOne cid then some (.refused .deny, s)
    else if off = 0x328 then some (.ok 0#64, if isOne cid ∧ fieldOf 0 1 w = 1 then polClear s else s)
    else
      let s := codeWrite row a w 15 s
      if off = 0x308 ∨ off = 0x30C then some (.ok 0#64, govRefresh s)
      else if off = 0x32C then
        some (.ok 0#64, polUpdate (forEach 3 (fun i s => polMark (6 + i) (s.bit ⟨R.SYS_POLSW, 0, 3⟩ i) s) s))
      else some (.ok 0#64, s)
  else if 0x400 ≤ off ∧ off < 0x630 then
    if s.bootLock then some (.ok 0#64, s)
    else
      let free := BitVec.ofNat 32 (freeMask (off % 16 / 4) ((off - 0x400) / 16))
      some (.ok 0#64, s.setWord (regAt a) ((w &&& free) ||| (s.word (regAt a) &&& ~~~free)))
  else none

/-- Writes of the event router (R100). -/
def evrWrite (cid a : Nat) (w : Word) (s : State) : Option (Ans × State) :=
  let off := a - 0x50002000
  if off < 0x200 then
    let q := off / 4
    if !isZeroOne cid ∨ s.bit (F.EVR_LOCK_LOCK (q / 32)) (q % 32) then some (.refused .deny, s)
    else some (.ok 0#64, routeWrite q w s)
  else if off = 0x408 then some (.ok 0#64, s.raise (0xF8 + fieldOf 0 2 w))
  else none

/-- Writes of the semaphore block (R259, R264, R270). -/
def semWrite (cid a : Nat) (w : Word) (s : State) : Option (Ans × State) :=
  let off := a - 0x50005000
  if off < 0x200 then match semPort .give true (off / 4) cid s with
    | (_, s) => some (.ok 0#64, s)
  else if off = 0xC04 then
    if cid = 0 ∨ 16 < cid then some (.refused .deny, s)
    else match semPort .cancel true (fieldOf 0 7 w) cid s with
      | (_, s) => some (.ok 0#64, s)
  else if off = 0xC08 then
    if isOne cid then some (.ok 0#64, reclaimCid (fieldOf 0 6 w) s) else some (.refused .deny, s)
  else none

/-- Writes of the mailbox and pool block (R281, R283, R284). -/
def poolWrite (row : RegRow) (cid a : Nat) (w : Word) (s : State) : Option (Ans × State) :=
  let off := a - 0x50006000
  if off = 0x204 then some (.ok 0#64, poolFree cid (fieldOf 0 16 w) s)
  else if off = 0x208 then some (.ok 0#64, poolGive cid (fieldOf 0 16 w) (fieldOf 16 6 w) s)
  else if off = 0x20C then some (.ok 0#64, poolLink cid (fieldOf 0 16 w) (fieldOf 16 16 w) s)
  else if off = 0x218 then
    if isOne cid then some (.ok 0#64, poolReclaim (fieldOf 0 6 w) s) else some (.refused .deny, s)
  else if off = 0x190 then some (.ok 0#64, (codeWrite row a w 15 s).faultEval)
  else none

/-- Writes of the chain block (R404, R427, R433). -/
def chnWrite (cid a : Nat) (w : Word) (s : State) : Option (Ans × State) :=
  let off := a - 0x5000D000
  if off = 0 then
    if isHead s && isOne cid then some (.ok 0#64, if fieldOf 0 1 w = 1 then enumerate true s else s)
    else some (.refused .deny, s)
  else if off = 0x160 then some (.ok 0#64, msgSend cid w s)
  else if off = 0x180 ∨ off = 0x184 then
    if isHead s && isOne cid then some (.ok 0#64, timeSet (off = 0x184) w s) else some (.refused .deny, s)
  else none

/-- Writes that act beyond their access codes; none where the codes decide. -/
def specialWrite (row : RegRow) (cid a : Nat) (w : Word) (mask : Nat) (s : State) : Option (Ans × State) :=
  match (a - 0x50000000) / 0x1000 with
  | 0 => sysWrite row cid a w s
  | 1 => if a = 0x50001018 then some (.ok 0#64, (codeWrite row a w 15 s).faultEval) else none
  | 2 => evrWrite cid a w s
  | 3 => dmaWrite cid a w s
  | 4 => memCtlWrite cid a w s
  | 5 => semWrite cid a w s
  | 6 => poolWrite row cid a w s
  | 7 => pinWrite cid a w s
  | 8 => pwmWrite cid a w mask s
  | 9 => pwmWrite cid a w mask s
  | 10 => senseWrite a w s
  | 11 => senseWrite a w s
  | 12 => tslWrite cid a w s
  | 13 => chnWrite cid a w s
  | 14 => serWrite cid a w s
  | _ => lcsWrite cid a w s

/-- A write of the register at `a` by CID `cid`, on the bytes that `mask` names. -/
def regWrite (cid a : Nat) (w : Word) (mask : Nat) (s : State) : Ans × State :=
  (regRow? a).elim (.refused .unmapped, s) (fun row =>
    (specialWrite row cid a w mask s).getD (.ok 0#64, codeWrite row a w mask s))

/-- Reads of the semaphore block. -/
def semRead (cid a : Nat) (s : State) : Option (Word × State) :=
  let off := a - 0x50005000
  if off < 0x200 then some (semPort .try_ false (off / 4) cid s)
  else if off < 0x400 then some (semPort .take false ((off - 0x200) / 4) cid s)
  else if 0x600 ≤ off ∧ off < 0x800 then some (semStat ((off - 0x600) / 4) s, s)
  else if 0x800 ≤ off ∧ off < 0xC00 then
    let h := holdSet ((off - 0x800) / 8) s
    some (BitVec.ofNat 32 (if off % 8 = 0 then h else h / 2 ^ 32), s)
  else if off = 0xC00 then some (grantRead s)
  else if 0xC20 ≤ off ∧ off < 0xC40 then some (epriWord ((off - 0xC20) / 4) s, s)
  else if off = 0xD24 then some (BitVec.ofNat 32 (rslots s), s)
  else none

/-- Reads of the mailbox and pool block. -/
def poolRead (cid a : Nat) (s : State) : Option (Word × State) :=
  let off := a - 0x50006000
  if off = 0x184 then some (mbxFull s, s)
  else if off = 0x200 then some (poolAlloc cid s)
  else if off = 0x210 then some (poolCount s, s)
  else if 0x300 ≤ off ∧ off < 0x400 then some (BitVec.ofNat 32 (ownCount ((off - 0x300) / 4) s), s)
  else if 0x800 ≤ off then some (poolInfo ((off - 0x800) / 4) s, s)
  else none

/-- Reads of the chain block. -/
def chnRead (a : Nat) (s : State) : Option (Word × State) :=
  let off := a - 0x5000D000
  if off = 0x14 then some (credWord 0 s, s)
  else if off = 0x34 then some (credWord 1 s, s)
  else if off = 0x164 then some (msgresRead s)
  else if off = 0x1A0 then
    let s := hostStat s
    some (s.word R.CHN_HOSTSTAT, s)
  else none

/-- Reads that act, or that show what registers do not hold. -/
def specialRead (cid a : Nat) (s : State) : Option (Word × State) :=
  match (a - 0x50000000) / 0x1000 with
  | 0 => if 0x50000200 ≤ a ∧ a < 0x50000240 then (cpRead a s).map (·, s) else none
  | 1 => if a = 0x50001030 then some (timeloRead s) else none
  | 2 => if a = 0x50002400 then some (yclaimRead s) else none
  | 5 => semRead cid a s
  | 6 => poolRead cid a s
  | 7 => if 0x50007200 ≤ a ∧ a < 0x50007280 ∧ a % 0x20 = 8 then some (gpinRead ((a - 0x50007200) / 0x20) s) else none
  | 8 => (pwmRead a s).map (·, s)
  | 9 => (pwmRead a s).map (·, s)
  | 10 => senseRead a s
  | 11 => senseRead a s
  | 13 => chnRead a s
  | 14 => serRead a s
  | _ => none

/-- A read of the register at `a` by CID `cid`. DEDUCED (assumption log 80): an offset that holds no register is refused with UNMAPPED by the
block, after the checks of R90 before it. -/
def regRead (cid a : Nat) (s : State) : Ans × State :=
  (regRow? a).elim (.refused .unmapped, s) (fun _ =>
    (specialRead cid a s).elim (.ok ((s.word (regAt a)).setWidth 64), s) (fun r => (.ok (r.1.setWidth 64), r.2)))

end Sys2Proof.Machine
end

