-- ==== Sys2Proof/Machine/BootCfg.lean ====
section
/-!
DEFINITION. The configuration sections of an image: what each block rejects, and what it takes (R68, R95, R96, R258, R271, R320, R340,
R406, R432, R453 to R455, R493). A section is given by its length and its bytes.
-/
namespace Sys2Proof.Machine

/-- A section as Betony's buffer holds it (R62). -/
structure Section where
  len : Nat
  byte : Nat → Byte

/-- `n` bytes from offset `o`, little-endian. -/
def Section.num (c : Section) (o n : Nat) : Nat := ofLeBytes ((List.range n).map (fun i => c.byte (o + i)))
def Section.word (c : Section) (o : Nat) : Word := BitVec.ofNat 32 (c.num o 4)
/-- Are the `n` bytes from offset `o` zero? -/
def Section.zero (c : Section) (o n : Nat) : Bool := c.num o n == 0

/-- The bits of the register at `a` that its table names. -/
def fieldBits (a : Nat) : Nat :=
  match regRow? a with
  | none => 0
  | some r => r.fields.foldl (fun m f => m ||| ((2 ^ f.2.1 - 1) * 2 ^ f.1)) 0

/-- Does the value of a register have no reserved bit set? -/
def regClean (r : Reg) (w : Word) : Bool := w.toNat &&& fieldBits r.addr == w.toNat

/-- All of `p` below `n`. -/
def allBelow (n : Nat) (p : Nat → Bool) : Bool := (List.range n).all p

/-- CIDCFG (R95, R96). -/
def applyCidcfg (c : Section) (s : State) : Option State :=
  let owners := (List.range 12).map (fun i => c.num (0x330 + i) 1)
  let maskOk := allBelow 35 (fun r => allBelow 4 (fun k =>
    let m := c.num (0x100 + 16 * r + 4 * k) 4
    m &&& (freeMask k r ||| (accRst k r).toNat) == m))
  if c.len ≠ 0x348 ∨ !allBelow 64 (fun i => c.num (4 * i) 4 &&& 0x8F == c.num (4 * i) 4) ∨ !c.zero 0x33C 12 ∨ !maskOk
      ∨ !owners.all (fun o => decide (1 ≤ o ∧ o ≤ 16)) then none
  else
    let s := forEach 8 (fun i s => s.setWord (R.SYS_CIDPRI i)
      (BitVec.ofNat 32 ((List.range 8).foldl (fun v j => v + c.num (4 * (8 * i + j)) 1 % 16 * 16 ^ j) 0))) s
    let s := forEach 2 (fun i s => s.setWord (R.SYS_CIDEN i)
      (BitVec.ofNat 32 ((List.range 32).foldl (fun v j => v + c.num (4 * (32 * i + j)) 1 / 128 % 2 * 2 ^ j) 0))) s
    let s := forEach 35 (fun r s => forEach 4 (fun k s =>
      let a := 0x50000400 + 16 * r + 4 * k
      s.setWord ⟨a, accRst k r⟩ (c.word (0x100 + 16 * r + 4 * k) ||| accRst k r)) s) s
    let s := forEach 8 (fun n s => s.set (F.DMA_CHnOWN_OWNER n) (owners.getD n 1)) s
    some (s.setWord R.SER_OWN (BitVec.ofNat 32 (c.num 0x338 4)))

/-- SEMCFG (R258). -/
def applySemcfg (c : Section) (s : State) : Option State :=
  let semOk := fun k =>
    let init := c.num (2 * k) 1
    let mode := c.num (2 * k + 1) 1
    decide (mode = 0 ∧ init = 1 ∨ mode = 1 ∧ init ≠ 0 ∧ k < 96)
  let maskOk := fun g =>
    let m := c.num (0x100 + 8 * g) 8
    !natBit m 63 && (decide (6 ≤ g) || m / 2 ^ 58 % 16 == 0)
  if c.len ≠ 0x140 ∨ !allBelow 128 semOk ∨ !allBelow 8 maskOk then none
  else
    let s := forEach 128 (fun k s => s.setWord (R.SEM_CFG k) (BitVec.ofNat 32 (c.num (2 * k) 2))) s
    some (forEach 8 (fun g s => (s.setWord (R.SEM_GMASKLO g) (c.word (0x100 + 8 * g))).setWord (R.SEM_GMASKHI g)
      (c.word (0x104 + 8 * g))) s)

/-- MBXCFG (R271). -/
def applyMbxcfg (c : Section) (s : State) : Option State :=
  let ok := fun m =>
    let r := c.num (16 * m) 1
    decide (1 ≤ r ∧ r ≤ 57 ∨ r = 62) && decide (c.num (16 * m + 1) 1 ≤ 1) && c.zero (16 * m + 2) 6
      && !natBit (c.num (16 * m + 8) 8) 63
  if c.len ≠ 0x200 ∨ !allBelow 32 ok then none
  else some (forEach 32 (fun m s =>
    ((s.setWord (R.MBX_CFG m) (BitVec.ofNat 32 (c.num (16 * m) 2))).setWord (R.MBX_WMASKLO m) (c.word (16 * m + 8))).setWord
      (R.MBX_WMASKHI m) (c.word (16 * m + 12))) s)

/-- PINCFG (R493): FUNC stays at NONE until step 12. TRANS must be zero (DEDUCED: one that is not is a reserved bit set; assumption log 29). -/
def applyPincfg (c : Section) (s : State) : Option State :=
  let cfg := fun i => c.word (0x30 + 4 * i)
  let func := fun i => fieldOf 0 2 (cfg i)
  let padOk := fun i =>
    regClean (R.PIN_CFG i) (cfg i) && !(cfg i).getLsbD 31 && padOffers i (func i)
    && (match padTwin i (func i) with
        | some j => func j != func i
        | none => true)
    && !(s.on F.SYS_STRAP_BOOTSRC && decide (93 ≤ i) && (func i != 1 || (cfg i).getLsbD 10))
  if c.len ≠ 0x1C0 ∨ !regClean R.TB_REFCTL (c.word 0) ∨ !regClean R.TB_BANDS (c.word 4) ∨ !c.zero 0xC 4 ∨ !c.zero 0x1BC 4
      ∨ 7 < c.num 0x28 4 ∨ 7 < c.num 0x2C 4 ∨ !allBelow 99 padOk then none
  else
    let s := (s.setWord R.TB_REFCTL (c.word 0)).setWord R.TB_BANDS (c.word 4)
    let s := s.setWord R.PIN_TPDISC (c.word 8)
    let s := forEach 4 (fun k s => (s.setWord (R.PIN_GPOUT k) (c.word (0x10 + 8 * k))).setWord (R.PIN_GPOE k)
      (c.word (0x14 + 8 * k))) s
    let s := forEach 99 (fun i s => s.setWord (R.PIN_CFG i) (cfg i ||| 3#32)) s
    some (refConfig s)

/-- Step 12 of PINCFG (R493): FUNC is written. A TPn that no pad carries shows its bit of PIN_TPDISC (R488). -/
def releasePins (c : Section) (s : State) : State :=
  let s := forEach 99 (fun i s => s.set (F.PIN_CFG_FUNC i) (fieldOf 0 2 (c.word (0x30 + 4 * i)))) s
  forEach 32 (fun n s => if tpConnected n s then s else s.setBit F.TSL_PINLVL_LVL n (s.bit F.PIN_TPDISC n)) s

/-- CHAINCFG (R406, R432). -/
def applyChaincfg (c : Section) (s : State) : Option State :=
  let cfg := c.word 0
  let t0 := c.word 0x20
  let t1 := c.word 0x24
  let t2 := c.word 0x28
  if c.len ≠ 0x40 ∨ !regClean R.CHN_CFG cfg ∨ !c.zero 4 28 ∨ !c.zero 0x2C 20 ∨ !regClean R.CHN_TRCFG0 t0
      ∨ !regClean R.CHN_TRCFG1 t1 ∨ !regClean R.CHN_TRCFG2 t2
      ∨ fieldOf 19 5 t0 ≠ 0 ∨ fieldOf 24 8 t2 ≠ 0 ∨ fieldOf 0 2 cfg = 3 ∨ fieldOf 2 2 cfg = 3 ∨ fieldOf 24 8 cfg < 10
      ∨ fieldOf 0 16 t0 < 10 ∨ fieldOf 24 8 t0 = 0
      ∨ fieldOf 0 16 t1 < 100 ∨ 10000 < fieldOf 0 16 t1 ∨ fieldOf 16 4 t1 < 2 ∨ 8 < fieldOf 20 4 t1 ∨ fieldOf 25 7 t1 = 0
      ∨ fieldOf 0 16 t2 < 50 ∨ 8 < fieldOf 16 4 t2 ∨ 8 < fieldOf 20 4 t2 then none
  else
    let s := (s.setWord R.CHN_CFG cfg).setWord R.CHN_TRCFG0 t0
    let s := (s.setWord R.CHN_TRCFG1 t1).setWord R.CHN_TRCFG2 t2
    some (rateChange 1 (rateChange 0 s))

/-- ADCCFG (R340): SEQCTL.EN waits for step 12. -/
def applyAdccfg (c : Section) (s : State) : Option State :=
  let ent := fun k e => c.word (0x50 * k + 8 + 4 * e)
  let convOk := fun k =>
    regClean (R.ADC_cSEQCTL k) (c.word (0x50 * k)) && regClean (R.ADC_cTIMER k) (c.word (0x50 * k + 4)) && c.zero (0x50 * k + 0x48) 8
    && allBelow 16 (fun e => regClean (R.ADC_cENTe k e) (ent k e) && decide (fieldOf 0 6 (ent k e) < 40)
        && decide (4 ≤ fieldOf 16 4 (ent k e)))
  let pgaOk := fun p =>
    let w := c.word (0x140 + 4 * p)
    regClean (R.CMP_PGAp p) w && decide (fieldOf 12 3 w < 6) && decide (fieldOf 6 6 w ≤ 32)
  let cmpOk := fun k =>
    let w := c.word (0x150 + 8 * k)
    regClean (R.CMP_kCTL k) w && regClean (R.CMP_kDAC k) (c.word (0x154 + 8 * k)) && decide (fieldOf 4 6 w ≤ 35)
  if c.len ≠ 0x1A0 ∨ !allBelow 4 convOk ∨ !allBelow 4 pgaOk ∨ !allBelow 8 cmpOk ∨ !regClean R.ADC_TJLIM (c.word 0x190)
      ∨ !c.zero 0x194 12 then none
  else
    let s := forEach 4 (fun k s =>
      let s := (s.set (F.ADC_cSEQCTL_LOOP k) (fieldOf 1 1 (c.word (0x50 * k)))).setWord (R.ADC_cTIMER k) (c.word (0x50 * k + 4))
      forEach 16 (fun e s => s.setWord (R.ADC_cENTe k e) (ent k e)) s) s
    let s := forEach 4 (fun p s => s.setWord (R.CMP_PGAp p) (c.word (0x140 + 4 * p))) s
    let s := forEach 8 (fun k s => (s.setWord (R.CMP_kCTL k) (c.word (0x150 + 8 * k))).setWord (R.CMP_kDAC k)
      (c.word (0x154 + 8 * k))) s
    some (s.setWord R.ADC_TJLIM (c.word 0x190))

/-- Step 12 of ADCCFG: the converters that EN names are enabled. -/
def releaseAdc (c : Section) (s : State) : State := forEach 4 (fun k s => adcSeqctl k (c.word (0x50 * k)) s) s

/-- PWMCFG (R320, R127): EN waits for step 12. DEDUCED (assumption log 29): the values are active as well as shadow values, for no shadow load comes before a
carrier starts. -/
def applyPwmcfg (c : Section) (s : State) : Option State :=
  let grpOk := fun g =>
    let o := 0x10 + 32 * g
    let w := c.word o
    regClean (R.PWM_GCTL (gb g) (gi g)) w && regClean (R.PWM_PER (gb g) (gi g)) (c.word (o + 4))
    && regClean (R.PWM_CLCTL (gb g) (gi g)) (c.word (o + 16)) && c.zero (o + 20) 12
    && fieldOf 4 2 w != 0 && (fieldOf 1 1 w == 0 || fieldOf 4 2 w == 1)
  let legOk := fun l =>
    let o := 0x90 + 32 * l
    let w := c.word o
    regClean (R.PWM_LnCFG (lb l) (li l)) w && regClean (R.PWM_LnFMASK (lb l) (li l)) (c.word (o + 4))
    && regClean (R.PWM_LnDTR (lb l) (li l)) (c.word (o + 8)) && regClean (R.PWM_LnDTF (lb l) (li l)) (c.word (o + 12))
    && decide (2 ≤ c.num (o + 16) 4 ∧ c.num (o + 16) 4 ≤ 2047) && regClean (R.PWM_LnPHASE (lb l) (li l)) (c.word (o + 20))
    && c.zero (o + 24) 8 && fieldOf 0 2 w != 3 && fieldOf 4 2 w != 3
  if c.len ≠ 0x290 ∨ !c.zero 7 9 ∨ c.num 0 2 &&& c.num 2 2 ≠ 0 ∨ !allBelow 4 grpOk ∨ !allBelow 16 legOk then none
  else
    let s := s.setWord R.SYS_CPLEGS (c.word 0)
    let s := forEach 2 (fun b s => s.set (F.PWM_LEGGRP_ODD b) (c.num (4 + b) 1)) s
    let s := s.set F.PWM_FLTPOL_POL (c.num 6 1)
    let s := forEach 4 (fun g s =>
      let o := 0x10 + 32 * g
      let s := (s.setWord (R.PWM_GCTL (gb g) (gi g)) (c.word o &&& 0x7E#32)).setWord (R.PWM_PER (gb g) (gi g)) (c.word (o + 4))
      let s := (s.setWord (R.PWM_CLANCHORLO (gb g) (gi g)) (c.word (o + 8))).setWord (R.PWM_CLANCHORHI (gb g) (gi g)) (c.word (o + 12))
      (s.setWord (R.PWM_CLCTL (gb g) (gi g)) (c.word (o + 16))).setGrp g { s.grp g with perAct := c.num (o + 4) 4 }) s
    some (forEach 16 (fun l s =>
      let o := 0x90 + 32 * l
      let dtr := min 524032 (c.num (o + 8) 4)
      let dtf := min 524032 (c.num (o + 12) 4)
      let s := (s.setWord (R.PWM_LnCFG (lb l) (li l)) (c.word o)).setWord (R.PWM_LnFMASK (lb l) (li l)) (c.word (o + 4))
      let s := (s.set (F.PWM_LnDTR_TAPS (lb l) (li l)) dtr).set (F.PWM_LnDTF_TAPS (lb l) (li l)) dtf
      let s := (s.setWord (R.PWM_LnMINPW (lb l) (li l)) (c.word (o + 16))).setWord (R.PWM_LnPHASE (lb l) (li l)) (c.word (o + 20))
      s.setLeg l { s.leg l with act := { (s.leg l).act with dtr := dtr, dtf := dtf, minpw := c.num (o + 16) 4,
                                                            phase := c.num (o + 20) 4 } }) s)

/-- Step 12 of PWMCFG: EN. -/
def releasePwm (c : Section) (s : State) : State :=
  forEach 4 (fun g s => if (c.word (0x10 + 32 * g)).getLsbD 0 then gctlWrite g (c.word (0x10 + 32 * g)) s else s) s

-- POLICY (R453 to R455)

/-- A 16-bit field as a signed number. -/
def Section.int16 (c : Section) (o : Nat) : Int := (BitVec.ofNat 16 (c.num o 2)).toInt

/-- The ranges of the POLICY fields before the motor entries (R453). -/
def policyHeadOk (c : Section) : Bool :=
  let b := fun o => c.num o 1
  let h := fun o => c.num o 2
  decide (h 0 = 1) && c.zero 2 2 && c.zero 0xF 1 && c.zero 0x1E 2 && c.zero 0x27 1 && c.zero 0x32 14
  && decide (600 ≤ h 4 ∧ h 4 ≤ h 8 ∧ h 8 ≤ h 6 ∧ h 6 ≤ 1050 ∧ h 4 % 5 = 0 ∧ h 6 % 5 = 0 ∧ h 8 % 5 = 0)
  && decide (10 ≤ b 0xA ∧ b 0xA ≤ 80 ∧ 2 ≤ b 0xB ∧ b 0xB ≤ 40 ∧ b 0xA + b 0xB ≤ 95)
  && decide (1 ≤ b 0xC ∧ b 0xC + 1 ≤ b 0xA ∧ 1 ≤ b 0xD ∧ b 0xD ≤ 15 ∧ b 0xE ≤ 3)
  && decide (b 0x10 ≤ 3 ∧ b 0x11 ≤ 3 ∧ 0x800 ≤ h 0x12 ∧ h 0x12 ≤ 0x7FFF)
  && decide (b 0x14 ≤ 3 ∧ 1 ≤ b 0x15 ∧ b 0x15 ≤ 3 ∧ b 0x16 ≤ 3 ∧ b 0x17 ≤ 3 ∧ b 0x18 ≤ 3 ∧ b 0x19 ≤ 15)
  && decide (10 ≤ h 0x1A ∧ h 0x1A ≤ 60000 ∧ 1 ≤ h 0x1C ∧ h 0x1C ≤ 1024)
  && decide (-160 ≤ c.int16 0x20 ∧ c.int16 0x20 + 20 ≤ c.int16 0x22 ∧ c.int16 0x22 ≤ 600)
  && decide (0x800 ≤ h 0x24 ∧ h 0x24 ≤ 0x7FFF ∧ b 0x26 / 64 % 2 = 0)
  && decide (h 0x28 ≤ 4095 ∧ h 0x2A ≤ 4095) && (!natBit (b 0x26) 7 || h 0x28 != h 0x2A)
  && decide (100 ≤ h 0x2C ∧ h 0x2C ≤ 60000 ∧ h 0x2E % 0x80 = 0 ∧ h 0x2E ≤ 0x7B80)
  && (h 0x30 == 0xFFFF || decide (h 0x30 % 0x1000 = 0 ∧ h 0x30 ≤ 0x6000))

/-- Offset of motor entry m. -/
abbrev motorAt (m : Nat) : Nat := 0x40 + 0x30 * m
/-- Is motor m enabled? -/
def motorOn (c : Section) (m : Nat) : Bool := natBit (c.num (motorAt m) 1) 0
/-- The legs of motor m. -/
def motorLegs (c : Section) (m : Nat) : List Nat := (List.range 3).map (fun i => c.num (motorAt m + 3 + i) 1)

/-- A motor entry (R454): reserved bits, and, where it is enabled, its ranges and its agreement with PWMCFG (R455). DEDUCED (assumption log 29): the fields
of a disabled entry have no range to keep. -/
def motorOk (c : Section) (s : State) (m : Nat) : Bool :=
  let o := motorAt m
  let b := fun i => c.num (o + i) 1
  let h := fun i => c.num (o + i) 2
  decide (b 0 < 64 ∧ b 0 / 2 % 4 ≠ 3) && c.zero (o + 0x17) 1 && c.zero (o + 0x2A) 6 && decide (h 0x12 < 64)
  && (!motorOn c m ||
    (decide (b 1 ≤ 1 ∧ b 2 ≤ 3 ∧ 8 ≤ h 8 ∧ h 0xC + 4096 ≤ 0x3FFF ∧ 1 ≤ b 0x16 ∧ b 0x16 ≤ 32 ∧ h 0x1A ≤ h 0xE
      ∧ h 0x1C < h 0x1E ∧ h 0x20 < h 0x22 ∧ h 0x24 < h 0x26)
     && (motorLegs c m).all (fun l => decide (l < 16) && legGroup l s == b 2 && legOwnedBy (b 1) l s)))

/-- The X and Y ranges of motor m (R134, R444): parameter block and status area in X, capture ring in Y. -/
def motorX (c : Section) (m : Nat) : List (Nat × Nat) :=
  let h := fun i => c.num (motorAt m + i) 2
  [(h 6, h 6 + 1 + 2 * h 8), (h 0xA, h 0xA + 7)]
def motorY (c : Section) (m : Nat) : Nat × Nat :=
  let cap := c.num (motorAt m + 0xC) 2
  (cap, cap + 4096)

def overlap (a b : Nat × Nat) : Bool := decide (a.1 ≤ b.2 ∧ b.1 ≤ a.2)

/-- Two enabled motors share a leg, or an X or Y range of one core (R455). -/
def motorsClash (c : Section) (m n : Nat) : Bool :=
  motorOn c m && motorOn c n &&
  ((motorLegs c m).any (fun l => (motorLegs c n).contains l) ||
   (c.num (motorAt m + 1) 1 == c.num (motorAt n + 1) 1 &&
    ((motorX c m).any (fun x => (motorX c n).any (overlap x)) || overlap (motorY c m) (motorY c n))))

/-- POLICY (R455, R439): the image, the governor's registers and LSLIMIT. -/
def applyPolicy (c : Section) (s : State) : Option State :=
  if c.len ≠ 0x100 ∨ !policyHeadOk c ∨ !allBelow 4 (motorOk c s)
      ∨ (List.range 4).any (fun m => (List.range m).any (fun n => motorsClash c m n)) then none
  else
    let s := forEach 64 (fun i s => s.setWord (R.SYS_POLIMG i) (c.word (4 * i))) s
    let s := (s.set F.SYS_GOVLIM_VMIN (c.num 4 2)).set F.SYS_GOVLIM_VMAX (c.num 6 2)
    let s := ((s.set F.SYS_GOVCFG_TARGET (c.num 0xA 1)).set F.SYS_GOVCFG_HYST (c.num 0xB 1)).set F.SYS_GOVCFG_EMERG (c.num 0xC 1)
    let s := s.set F.SYS_GOVSET_VIDLE (c.num 8 2)
    let s := forEach 2 (fun k s => s.updSched (coreIx k) (fun y => { y with limit := c.num 0xD 1 })) s
    some (thermUpdate (s.set F.SYS_POLFACT_REF (c.num 0x12 2)))

-- The learned-parameter area (R67, R450)

/-- The bytes of RAM from `a`. -/
def ramBytes (a n : Nat) (s : State) : List Byte := (List.range n).map (fun i => memByte s.mem (a + i))

/-- Is the area's validity header intact, and for this EPOCH and PERSID (R67, R450)? -/
def areaValid (epoch persid : Nat) (s : State) : Bool :=
  let at_ := fun o n => ofLeBytes (ramBytes (0x1007F000 + o) n s)
  let len := at_ 6 2
  decide (at_ 0 4 = 0x4C504152 ∧ 0x100 ≤ len ∧ len ≤ 0xFE0 ∧ len % 4 = 0 ∧ at_ 4 2 = epoch ∧ at_ 8 4 = persid)
  && (crc32c (ramBytes 0x1007F000 16 s ++ ramBytes 0x1007F020 len s)).toNat == at_ 16 4

/-- RAM takes `n` bytes from `a`, with valid check bits. -/
def putBytes (a n : Nat) (f : Nat → Byte) (m : Memory) : Memory :=
  let m := forEach n (fun i m => setMemByte m (a + i) (f i)) m
  forEach ((a % 4 + n + 3) / 4) (fun i m =>
    let w := a / 4 * 4 + 4 * i
    { m with synd := smapSet w 0#7 (syndBase m w) m.synd }) m

/-- Step 10 for the area (R67). DEDUCED (assumption log 29): a PARAM section shorter than the area leaves the rest zero. -/
def settleArea (warm : Bool) (epoch persid : Nat) (c : Option Section) (s : State) : State :=
  if warm && areaValid epoch persid s then s
  else { s with mem := putBytes 0x1007F000 0x1000 (fun i =>
    match c with
    | some c => if i < c.len then c.byte i else 0#8
    | none => 0#8) s.mem }

end Sys2Proof.Machine
end

