-- ==== Sys2Proof/Machine/Sign.lean ====
section
/-!
DEFINITION. SHA-256 and the check of an ECDSA P-256 signature (R56, R64). PRESUMED: the manual names the algorithms and leaves them
to their standards, FIPS 180-4 and FIPS 186 (assumption log 25).
-/
namespace Sys2Proof.Machine

/-- The round constants of SHA-256. -/
def shaK : List Word :=
  [0x428a2f98, 0x71374491, 0xb5c0fbcf, 0xe9b5dba5, 0x3956c25b, 0x59f111f1, 0x923f82a4, 0xab1c5ed5] ++
  [0xd807aa98, 0x12835b01, 0x243185be, 0x550c7dc3, 0x72be5d74, 0x80deb1fe, 0x9bdc06a7, 0xc19bf174] ++
  [0xe49b69c1, 0xefbe4786, 0x0fc19dc6, 0x240ca1cc, 0x2de92c6f, 0x4a7484aa, 0x5cb0a9dc, 0x76f988da] ++
  [0x983e5152, 0xa831c66d, 0xb00327c8, 0xbf597fc7, 0xc6e00bf3, 0xd5a79147, 0x06ca6351, 0x14292967] ++
  [0x27b70a85, 0x2e1b2138, 0x4d2c6dfc, 0x53380d13, 0x650a7354, 0x766a0abb, 0x81c2c92e, 0x92722c85] ++
  [0xa2bfe8a1, 0xa81a664b, 0xc24b8b70, 0xc76c51a3, 0xd192e819, 0xd6990624, 0xf40e3585, 0x106aa070] ++
  [0x19a4c116, 0x1e376c08, 0x2748774c, 0x34b0bcb5, 0x391c0cb3, 0x4ed8aa4a, 0x5b9cca4f, 0x682e6ff3] ++
  [0x748f82ee, 0x78a5636f, 0x84c87814, 0x8cc70208, 0x90befffa, 0xa4506ceb, 0xbef9a3f7, 0xc67178f2]

def shaInit : List Word :=
  [0x6a09e667, 0xbb67ae85, 0x3c6ef372, 0xa54ff53a, 0x510e527f, 0x9b05688c, 0x1f83d9ab, 0x5be0cd19]

/-- The number whose bytes, most significant first, are `bs`. -/
def ofBeBytes (bs : List Byte) : Nat := bs.foldl (fun n b => 256 * n + b.toNat) 0

/-- The message schedule: 48 words after the 16 of the block. -/
def shaExtend (w : List Word) : List Word :=
  (List.range 48).foldl (fun w t =>
    let g := fun i => w.getD i 0#32
    let a := g (t + 1)
    let b := g (t + 14)
    let s0 := a.rotateRight 7 ^^^ a.rotateRight 18 ^^^ (a >>> 3)
    let s1 := b.rotateRight 17 ^^^ b.rotateRight 19 ^^^ (b >>> 10)
    w ++ [s1 + g (t + 9) + s0 + g t]) w

/-- One round on the working variables a to h. -/
def shaRound (v : List Word) (k w : Word) : List Word :=
  match v with
  | [a, b, c, d, e, f, g, h] =>
    let t1 := h + (e.rotateRight 6 ^^^ e.rotateRight 11 ^^^ e.rotateRight 25) + ((e &&& f) ^^^ (~~~e &&& g)) + k + w
    let t2 := (a.rotateRight 2 ^^^ a.rotateRight 13 ^^^ a.rotateRight 22) + ((a &&& b) ^^^ (a &&& c) ^^^ (b &&& c))
    [t1 + t2, a, b, c, d + t1, e, f, g]
  | v => v

/-- One block of 64 bytes. -/
def shaBlock (h : List Word) (bs : List Byte) : List Word :=
  let w := shaExtend ((List.range 16).map (fun i => BitVec.ofNat 32 (ofBeBytes ((bs.drop (4 * i)).take 4))))
  let v := (shaK.zip w).foldl (fun v p => shaRound v p.1 p.2) h
  (h.zip v).map (fun p => p.1 + p.2)

/-- The padding of a message of `n` bytes. -/
def shaPad (n : Nat) : List Byte :=
  0x80#8 :: List.replicate ((119 - n % 64) % 64) 0#8 ++ (leBytes 8 (8 * n)).reverse

/-- `n` blocks of a padded message. -/
def shaBlocks : Nat → List Word → List Byte → List Word
  | 0, h, _ => h
  | n + 1, h, bs => shaBlocks n (shaBlock h (bs.take 64)) (bs.drop 64)

/-- SHA-256: the 32 bytes of the digest. -/
def sha256 (bs : List Byte) : List Byte :=
  let m := bs ++ shaPad bs.length
  (shaBlocks (m.length / 64) shaInit m).flatMap (fun w => (leBytes 4 w.toNat).reverse)

-- P-256

def p256P : Nat := 0xffffffff00000001000000000000000000000000ffffffffffffffffffffffff
def p256N : Nat := 0xffffffff00000000ffffffffffffffffbce6faada7179e84f3b9cac2fc632551
def p256B : Nat := 0x5ac635d8aa3a93e7b3ebbd55769886bc651d06b0cc53b0f63bce3c3e27d2604b
def p256G : Nat × Nat :=
  (0x6b17d1f2e12c4247f8bce6e563a440f277037d812deb33a0f4a13945d898c296,
   0x4fe342e2fe1a7f9b8ee7eb4a7c0f9e162bce33576b315ececbb6406837bf51f5)

/-- b to the e modulo m, over 256 exponent bits. -/
def powMod (b e m : Nat) : Nat :=
  ((List.range 256).foldl (fun (p : Nat × Nat) i =>
    (if e / 2 ^ i % 2 = 1 then p.1 * p.2 % m else p.1, p.2 * p.2 % m)) (1, b % m)).1

/-- The inverse modulo a prime (Fermat). -/
def invMod (a m : Nat) : Nat := powMod a (m - 2) m

/-- A point of the curve, none at infinity. -/
abbrev Point := Option (Nat × Nat)

/-- The sum of two points. -/
def ecAdd (a b : Point) : Point :=
  match a, b with
  | none, b => b
  | a, none => a
  | some (x1, y1), some (x2, y2) =>
    let q := p256P
    if x1 = x2 ∧ (y1 + y2) % q = 0 then none
    else
      let l := if x1 = x2 then (3 * x1 * x1 + (q - 3)) * invMod (2 * y1) q % q
        else (y2 + (q - y1)) * invMod (x2 + (q - x1)) q % q
      let x3 := (l * l + (q - x1) + (q - x2)) % q
      some (x3, (l * (x1 + (q - x3)) + (q - y1)) % q)

/-- k times a point. -/
def ecMul (k : Nat) (p : Point) : Point :=
  ((List.range 256).foldl (fun (r : Point × Point) i =>
    (if k / 2 ^ i % 2 = 1 then ecAdd r.1 r.2 else r.1, ecAdd r.2 r.2)) (none, p)).1

/-- Is the signature (r, s) of digest e valid under the public key (x, y)? -/
def ecdsaOk (e x y r s : Nat) : Bool :=
  let q := p256P
  let n := p256N
  let keyOk := decide (x < q ∧ y < q) && y * y % q == (x * x * x + (q - 3) * x + p256B) % q
  let inRange := decide (1 ≤ r ∧ r < n ∧ 1 ≤ s ∧ s < n)
  if !keyOk || !inRange then false
  else
    let w := invMod s n
    match ecAdd (ecMul (e * w % n) (some p256G)) (ecMul (r * w % n) (some (x, y))) with
    | none => false
    | some (x1, _) => x1 % n == r

end Sys2Proof.Machine
end

