-- ==== Sys2Proof/Machine/Fabric.lean ====
section
/-!
DEFINITION. An access through the fabric to any region (R83 to R94).
-/
namespace Sys2Proof.Machine

/-- The target of an access that the checks have passed, but for the memories and other units (regions 14, 16 to 31, 34). -/
def deviceTarget (who : Who) (r : Nat) (write : Bool) (a v : Nat) (s : State) : Ans × State :=
  if r = 14 then fifoAccess write a (BitVec.ofNat 32 v) s
  else if 16 ≤ r ∧ r ≤ 31 then
    if write then regWrite who.cid a (BitVec.ofNat 32 v) 15 s else regRead who.cid a s
  else (.refused .unmapped, s)

/-- A remote answer is logged where it is refused. -/
def loggedReply (who : Who) (write : Bool) (log : Nat) (r : Reply × State) : Reply × State :=
  match r with
  | (.ans x, s) => let r := logged who write log (x, s); (.ans r.1, r.2)
  | r => r

/-- An access of `size` aligned bytes at `a` by `who`, for whom `by_` waits if it becomes a chain request (R85, R90, R408). A CID 63 access
is not checked and never made through here. -/
def fabric (by_ : ReqBy) (who : Who) (write : Bool) (a size v : Nat) (s : State) : Reply × State :=
  match accessCheck who write a size s with
  | .error c => (.ans (.refused c), busErr who write a c s)
  | .ok r =>
    if memRegion r then let x := memAccess who write a size v s; (.ans x.1, x.2)
    else if r = 32 then
      let n := (a - 0x60000000) / 0x8000 + 1
      if n = ownAddr s then
        let x := windowAccess who write (a - a % 0x8000) (a % 0x8000) size v s
        (.ans x.1, x.2)
      else loggedReply who write a (remoteAccess by_ who.cid write n (a % 0x8000) size v s)
    else if r = 33 then
      loggedReply who write a (let x := broadcastWrite who.cid (a % 0x8000) size v s; (.ans x.1, x.2))
    else loggedReply who write a (let x := deviceTarget who r write a v s; (.ans x.1, x.2))

/-- A register write by CID `cid` through the fabric, with the command's answer. -/
def fabricWrite (cid a : Nat) (w : Word) (s : State) : State :=
  match fabric .other { cid := cid } true a 4 w.toNat s with
  | (.ans (.refused c), s) => s.answerRefused c.code
  | (_, s) => s

/-- A register read by CID `cid` through the fabric, with the command's answer. -/
def fabricRead (cid a : Nat) (s : State) : State :=
  match fabric .other { cid := cid } false a 4 0 s with
  | (.ans (.refused c), s) => s.answerRefused c.code
  | (.ans (.ok d), s) => s.answer d.toNat
  | (.wait, s) => s

end Sys2Proof.Machine
end

