-- ==== Sys2Proof/Machine/Float.lean ====
section
/-!
DEFINITION. IEEE 754 binary arithmetic of Yarrow and Vetch (R178 to R180, R210, R211). The formats and the rules of rounding are those of
IEEE 754-2008, which the manual cites (PRESUMED; assumption log 23).
-/
namespace Sys2Proof.Machine

/-- A binary format: exponent and fraction widths. -/
structure Fmt where
  eb : Nat
  mb : Nat
deriving DecidableEq, Repr

def f16 : Fmt := ⟨5, 10⟩
def f32 : Fmt := ⟨8, 23⟩

/-- The exponent of the least subnormal. -/
def Fmt.qmin (f : Fmt) : Int := 2 - (2 ^ (f.eb - 1) : Nat) - f.mb
def Fmt.wid (f : Fmt) : Nat := 1 + f.eb + f.mb
def Fmt.signBit (f : Fmt) : Nat := 2 ^ (f.eb + f.mb)
def Fmt.inf (f : Fmt) : Nat := (2 ^ f.eb - 1) * 2 ^ f.mb
def Fmt.nan (f : Fmt) : Nat := f.inf + 2 ^ (f.mb - 1)

/-- What a word of a format holds: a NaN (signalling or not), an infinity, or a finite value m × 2^e. -/
inductive Fp where
  | nan (sig : Bool) | inf (neg : Bool) | fin (neg : Bool) (m : Nat) (e : Int)
deriving DecidableEq, Repr

def Fmt.read (f : Fmt) (w : Nat) : Fp :=
  let neg := w / f.signBit % 2 == 1
  let e := w / 2 ^ f.mb % 2 ^ f.eb
  let m := w % 2 ^ f.mb
  if e = 2 ^ f.eb - 1 then
    if m = 0 then .inf neg else .nan (m < 2 ^ (f.mb - 1))
  else if e = 0 then .fin neg m f.qmin
  else .fin neg (m + 2 ^ f.mb) (f.qmin + e - 1)

def Fmt.zero (f : Fmt) (neg : Bool) : Nat := if neg then f.signBit else 0
def Fmt.infinity (f : Fmt) (neg : Bool) : Nat := f.zero neg + f.inf

/-- The accrued flags: NX 1, UF 2, OF 4, DZ 8, NV 16. -/
abbrev FlagSet := Nat

/-- Rounding modes: 0 RNE, 1 RTZ, 2 RDN, 3 RUP, 4 RMM. Does a magnitude round away, given its last bit kept, its half bit and the
rest? -/
def roundsUp (rm : Nat) (neg odd half rest : Bool) : Bool :=
  match rm with
  | 0 => half && (rest || odd)
  | 1 => false
  | 2 => neg && (half || rest)
  | 3 => !neg && (half || rest)
  | _ => half

/-- m × 2^e, with more below its last bit where `sticky`, as a multiple of 2^q; and whether it is inexact. -/
def roundAt (rm : Nat) (neg : Bool) (m : Nat) (e : Int) (sticky : Bool) (q : Int) : Nat × Bool :=
  if q ≤ e then (m * 2 ^ (e - q).toNat + (if roundsUp rm neg ((m * 2 ^ (e - q).toNat) % 2 == 1) false sticky then 1 else 0), sticky)
  else
    let d := (q - e).toNat
    let k := m / 2 ^ d
    let half := m / 2 ^ (d - 1) % 2 == 1
    let rest := m % 2 ^ (d - 1) != 0 || sticky
    (k + (if roundsUp rm neg (k % 2 == 1) half rest then 1 else 0), half || rest)

/-- Round a non-zero magnitude to the format, with tininess detected after rounding (R178). -/
def Fmt.round (f : Fmt) (rm : Nat) (neg : Bool) (m : Nat) (e : Int) (sticky : Bool) : Nat × FlagSet :=
  if m = 0 then
    (f.zero neg + (if sticky && roundsUp rm neg false false true then 1 else 0), if sticky then 3 else 0)
  else
    let top : Int := Nat.log2 m + e
    let free := top - f.mb
    let q := max free f.qmin
    let r := roundAt rm neg m e sticky q
    let packed := (q - f.qmin).toNat * 2 ^ f.mb + r.1
    let u := roundAt rm neg m e sticky free
    let tiny := decide (free < f.qmin) && !(decide (free = f.qmin - 1) && u.1 == 2 ^ (f.mb + 1))
    if f.inf ≤ packed then
      let away := roundsUp rm neg true true true
      (f.zero neg + (if away then f.inf else f.inf - 1), 5)
    else (f.zero neg + packed, (if r.2 then 1 else 0) + (if r.2 && tiny then 2 else 0))

/-- A signed value v × 2^e rounded; an exact zero has the sign `zneg`. -/
def Fmt.roundInt (f : Fmt) (rm : Nat) (zneg : Bool) (v : Int) (e : Int) : Nat × FlagSet :=
  if v = 0 then (f.zero zneg, 0) else f.round rm (v < 0) v.natAbs e false

def signed (neg : Bool) (m : Nat) : Int := if neg then -(m : Int) else m

/-- An operation's NaN result: NV where an operand signals or `inv`. -/
def Fmt.nanOut (f : Fmt) (inv : Bool) : Nat × FlagSet := (f.nan, if inv then 16 else 0)
def Fp.sig : Fp → Bool
  | .nan s => s
  | _ => false
def Fp.isNan : Fp → Bool
  | .nan _ => true
  | _ => false
def Fp.neg : Fp → Fp
  | .nan s => .nan s
  | .inf n => .inf !n
  | .fin n m e => .fin (!n) m e

/-- The sum of two finite values: v × 2^e. -/
def sumAt (an : Bool) (am : Nat) (ae : Int) (bn : Bool) (bm : Nat) (be : Int) : Int × Int :=
  let e := min ae be
  (signed an (am * 2 ^ (ae - e).toNat) + signed bn (bm * 2 ^ (be - e).toNat), e)

def fpAdd (f : Fmt) (rm : Nat) (a b : Fp) : Nat × FlagSet :=
  match a, b with
  | .nan s, y => f.nanOut (s || y.sig)
  | x, .nan s => f.nanOut (s || x.sig)
  | .inf x, .inf y => if x = y then (f.infinity x, 0) else f.nanOut true
  | .inf x, .fin .. => (f.infinity x, 0)
  | .fin .., .inf y => (f.infinity y, 0)
  | .fin an am ae, .fin bn bm be =>
    let r := sumAt an am ae bn bm be
    f.roundInt rm (if an = bn ∧ am = 0 ∧ bm = 0 then an else rm == 2) r.1 r.2

def fpMul (f : Fmt) (rm : Nat) (a b : Fp) : Nat × FlagSet :=
  match a, b with
  | .nan s, y => f.nanOut (s || y.sig)
  | x, .nan s => f.nanOut (s || x.sig)
  | .inf x, .inf y => (f.infinity (x != y), 0)
  | .inf x, .fin y m _ => if m = 0 then f.nanOut true else (f.infinity (x != y), 0)
  | .fin x m _, .inf y => if m = 0 then f.nanOut true else (f.infinity (x != y), 0)
  | .fin an am ae, .fin bn bm be =>
    if am * bm = 0 then (f.zero (an != bn), 0) else f.round rm (an != bn) (am * bm) (ae + be) false

/-- a × b + c with one rounding; 0 × ∞ + NaN raises NV (R178). -/
def fpFma (f : Fmt) (rm : Nat) (a b c : Fp) : Nat × FlagSet :=
  let zi := match a, b with
    | .inf _, .fin _ 0 _ => true
    | .fin _ 0 _, .inf _ => true
    | _, _ => false
  if a.isNan || b.isNan || c.isNan || zi then f.nanOut (a.sig || b.sig || c.sig || zi)
  else match a, b, c with
    | .fin an am ae, .fin bn bm be, .fin cn cm ce =>
      let pn := an != bn
      let r := sumAt pn (am * bm) (ae + be) cn cm ce
      f.roundInt rm (if pn = cn ∧ am * bm = 0 ∧ cm = 0 then pn else rm == 2) r.1 r.2
    | .fin .., .fin .., .inf cn => (f.infinity cn, 0)
    | x, y, z =>
      let neg := fun (v : Fp) => match v with
        | .inf n => n
        | .fin n _ _ => n
        | .nan _ => false
      let pn := neg x != neg y
      match z with
      | .inf cn => if cn = pn then (f.infinity pn, 0) else f.nanOut true
      | _ => (f.infinity pn, 0)

def fpDiv (f : Fmt) (rm : Nat) (a b : Fp) : Nat × FlagSet :=
  match a, b with
  | .nan s, y => f.nanOut (s || y.sig)
  | x, .nan s => f.nanOut (s || x.sig)
  | .inf _, .inf _ => f.nanOut true
  | .inf x, .fin y _ _ => (f.infinity (x != y), 0)
  | .fin x _ _, .inf y => (f.zero (x != y), 0)
  | .fin an am ae, .fin bn bm be =>
    if bm = 0 then (if am = 0 then f.nanOut true else (f.infinity (an != bn), 8))
    else if am = 0 then (f.zero (an != bn), 0)
    else
      let k := 2 * f.mb + 6
      f.round rm (an != bn) (am * 2 ^ k / bm) (ae - be - k) (am * 2 ^ k % bm != 0)

/-- The integer square root, a bit at a time from bit `n - 1`. -/
def isqrt (v : Nat) : Nat → Nat → Nat
  | 0, r => r
  | n + 1, r => if (r + 2 ^ n) * (r + 2 ^ n) ≤ v then isqrt v n (r + 2 ^ n) else isqrt v n r

def fpSqrt (f : Fmt) (rm : Nat) (a : Fp) : Nat × FlagSet :=
  match a with
  | .nan s => f.nanOut s
  | .inf false => (f.infinity false, 0)
  | .inf true => f.nanOut true
  | .fin neg m e =>
    if m = 0 then (f.zero neg, 0)
    else if neg then f.nanOut true
    else
      let k : Nat := 2 * f.mb + 6 + (e % 2).natAbs
      let v := m * 2 ^ k
      let r := isqrt v (2 * f.mb + 8) 0
      f.round rm false r ((e - k) / 2) (r * r != v)

/-- Is a below b, or equal? None where one is a NaN. Zeros are equal. -/
def fpOrd (a b : Fp) : Option Ordering :=
  let key := fun (v : Fp) => match v with
    | .fin n m e => if m = 0 then (0, 0, 0) else (if n then (-1 : Int) else 1, (m : Int), e)
    | .inf n => (if n then -2 else 2, 0, 0)
    | .nan _ => (0, 0, 0)
  if a.isNan || b.isNan then none
  else
    let x := key a
    let y := key b
    if x.1 ≠ y.1 then some (if x.1 < y.1 then .lt else .gt)
    else match a, b with
      | .fin an am ae, .fin bn bm be =>
        let d := (sumAt an am ae (!bn) bm be).1
        some (if d < 0 then .lt else if d = 0 then .eq else .gt)
      | _, _ => some .eq

/-- Comparisons (R179): a NaN compares false; LT and LE raise NV for any NaN, EQ for a signalling one. Kinds: 0 LE, 1 LT, 2 EQ. -/
def fpCmp (kind : Nat) (a b : Fp) : Bool × FlagSet :=
  match fpOrd a b with
  | none => (false, if kind < 2 || a.sig || b.sig then 16 else 0)
  | some o => (match kind with
    | 0 => o != .gt
    | 1 => o == .lt
    | _ => o == .eq, 0)

/-- FMIN and FMAX (R179), on words: −0 is below +0; one NaN gives the other operand. -/
def fpMinMax (f : Fmt) (isMax : Bool) (wa wb : Nat) : Nat × FlagSet :=
  let a := f.read wa
  let b := f.read wb
  let fl := if a.sig || b.sig then 16 else 0
  if a.isNan && b.isNan then (f.nan, fl)
  else if a.isNan then (wb, fl)
  else if b.isNan then (wa, fl)
  else
    let aBelow := match fpOrd a b with
      | some .lt => true
      | some .eq => wa / f.signBit % 2 == 1
      | _ => false
    (if aBelow != isMax then wa else wb, fl)

/-- A conversion to an integer of `n` bits, which saturates with NV (R180). -/
def fpToInt (n : Nat) (uns : Bool) (rm : Nat) (a : Fp) : Nat × FlagSet :=
  let hi : Int := if uns then 2 ^ n - 1 else 2 ^ (n - 1) - 1
  let lo : Int := if uns then 0 else -(2 ^ (n - 1))
  let enc := fun (v : Int) => (v % 2 ^ n).toNat
  match a with
  | .nan _ => (enc hi, 16)
  | .inf neg => (enc (if neg then lo else hi), 16)
  | .fin neg m e =>
    let r := roundAt rm neg m e false 0
    let v := signed neg r.1
    if v < lo then (enc lo, 16) else if hi < v then (enc hi, 16) else (enc v, if r.2 then 1 else 0)

/-- FCLASS's ten classes, as a bit. -/
def fpClass (f : Fmt) (w : Nat) : Nat :=
  match f.read w with
  | .nan s => if s then 0x100 else 0x200
  | .inf n => if n then 1 else 0x80
  | .fin n m e =>
    if m = 0 then (if n then 8 else 0x10)
    else if m < 2 ^ f.mb ∧ e = f.qmin then (if n then 4 else 0x20)
    else if n then 2 else 0x40

end Sys2Proof.Machine
end

