-- ==== Sys2Proof/Machine/YarIsa.lean ====
section
/-!
DEFINITION. Yarrow's instructions and their encodings (R162, R163, R182, R203, R204): RV32I, M, F, C, Zicsr, Zifencei, Zba and Zbb. The
RISC-V encodings are those of the standards the manual cites (PRESUMED; assumption log 22).
-/
namespace Sys2Proof.Machine

/-- Integer operations of RV32I, Zba and Zbb. -/
inductive AluOp where
  | add | sub | sll | slt | sltu | xor | srl | sra | or | and
  | sh1add | sh2add | sh3add
  | andn | orn | xnor | clz | ctz | cpop | max | maxu | min | minu | sextb | sexth | zexth | rol | ror | orcb | rev8
deriving DecidableEq, Repr

/-- A second operand. -/
inductive Src where
  | reg (i : Nat) | imm (v : Word)
deriving DecidableEq, Repr

/-- F operations with two operands or one. -/
inductive FpOp where
  | add | sub | mul | div | sqrt | sgnj (k : Nat) | min | max | cmp (k : Nat) | cls | toInt (uns : Bool) | ofInt (uns : Bool)
  | mvXW | mvWX
deriving DecidableEq, Repr

/-- A decoded instruction. Register fields are numbers below 32; offsets are sign-extended. -/
inductive YInstr where
  | alu (op : AluOp) (rd : Nat) (a b : Src)
  | auipc (rd : Nat) (imm : Word)
  | mul (fn rd a b : Nat)
  | div (fn rd a b : Nat)
  | branch (fn a b : Nat) (off : Word)
  | jal (rd : Nat) (off : Word)
  | jalr (rd a : Nat) (off : Word)
  | load (fn rd a : Nat) (off : Word)
  | store (fn b a : Nat) (off : Word)
  | flw (rd a : Nat) (off : Word)
  | fsw (b a : Nat) (off : Word)
  | fence
  | fenceI
  | ecall | ebreak | wfi | mret
  | csr (op rd : Nat) (src : Src) (num : Nat)
  | fp (op : FpOp) (rd a b rm : Nat)
  | fma (k rd a b c rm : Nat)
  | block (k : Nat)
  | vec (w : Word)
  | illegal
deriving DecidableEq, Repr

/-- Bits `hi` to `lo` of a word. -/
abbrev wf (w : Word) (lo wid : Nat) : Nat := w.toNat / 2 ^ lo % 2 ^ wid

/-- A signed immediate of `n` bits. -/
def simm (n v : Nat) : Word := (BitVec.ofNat n v).signExtend 32

def immI (w : Word) : Word := simm 12 (wf w 20 12)
def immS (w : Word) : Word := simm 12 (wf w 25 7 * 32 + wf w 7 5)
def immB (w : Word) : Word := simm 13 (wf w 31 1 * 4096 + wf w 7 1 * 2048 + wf w 25 6 * 32 + wf w 8 4 * 2)
def immU (w : Word) : Word := w &&& 0xFFFFF000#32
def immJ (w : Word) : Word := simm 21 (wf w 31 1 * 2 ^ 20 + wf w 12 8 * 4096 + wf w 20 1 * 2048 + wf w 21 10 * 2)

/-- OP-IMM. -/
def decOpImm (w : Word) : YInstr :=
  let rd := wf w 7 5
  let a := Src.reg (wf w 15 5)
  let f7 := wf w 25 7
  let sh := wf w 20 5
  let go := fun op => YInstr.alu op rd a (.imm (immI w))
  let shift := fun op => YInstr.alu op rd a (.imm (BitVec.ofNat 32 sh))
  match wf w 12 3 with
  | 0 => go .add
  | 2 => go .slt
  | 3 => go .sltu
  | 4 => go .xor
  | 6 => go .or
  | 7 => go .and
  | 1 =>
    if f7 = 0 then shift .sll
    else if f7 = 0x30 then
      match sh with
      | 0 => .alu .clz rd a (.imm 0#32)
      | 1 => .alu .ctz rd a (.imm 0#32)
      | 2 => .alu .cpop rd a (.imm 0#32)
      | 4 => .alu .sextb rd a (.imm 0#32)
      | 5 => .alu .sexth rd a (.imm 0#32)
      | _ => .illegal
    else .illegal
  | _ =>
    if f7 = 0 then shift .srl
    else if f7 = 0x20 then shift .sra
    else if f7 = 0x30 then shift .ror
    else if wf w 20 12 = 0x287 then .alu .orcb rd a (.imm 0#32)
    else if wf w 20 12 = 0x698 then .alu .rev8 rd a (.imm 0#32)
    else .illegal

/-- OP. -/
def decOp (w : Word) : YInstr :=
  let rd := wf w 7 5
  let a := wf w 15 5
  let b := wf w 20 5
  let go := fun op => YInstr.alu op rd (.reg a) (.reg b)
  match wf w 25 7, wf w 12 3 with
  | 0, 0 => go .add
  | 0, 1 => go .sll
  | 0, 2 => go .slt
  | 0, 3 => go .sltu
  | 0, 4 => go .xor
  | 0, 5 => go .srl
  | 0, 6 => go .or
  | 0, 7 => go .and
  | 1, fn => if fn < 4 then .mul fn rd a b else .div fn rd a b
  | 0x20, 0 => go .sub
  | 0x20, 5 => go .sra
  | 0x20, 7 => go .andn
  | 0x20, 6 => go .orn
  | 0x20, 4 => go .xnor
  | 0x10, 2 => go .sh1add
  | 0x10, 4 => go .sh2add
  | 0x10, 6 => go .sh3add
  | 5, 6 => go .max
  | 5, 7 => go .maxu
  | 5, 4 => go .min
  | 5, 5 => go .minu
  | 0x30, 1 => go .rol
  | 0x30, 5 => go .ror
  | 4, 4 => if b = 0 then .alu .zexth rd (.reg a) (.imm 0#32) else .illegal
  | _, _ => .illegal

/-- OP-FP. -/
def decFp (w : Word) : YInstr :=
  let rd := wf w 7 5
  let a := wf w 15 5
  let b := wf w 20 5
  let fn := wf w 12 3
  let go := fun op => YInstr.fp op rd a b fn
  match wf w 25 7 with
  | 0x00 => go .add
  | 0x04 => go .sub
  | 0x08 => go .mul
  | 0x0C => go .div
  | 0x2C => if b = 0 then go .sqrt else .illegal
  | 0x10 => if fn < 3 then .fp (.sgnj fn) rd a b 0 else .illegal
  | 0x14 => match fn with
    | 0 => .fp .min rd a b 0
    | 1 => .fp .max rd a b 0
    | _ => .illegal
  | 0x50 => if fn < 3 then .fp (.cmp fn) rd a b 0 else .illegal
  | 0x60 => match b with
    | 0 => go (.toInt false)
    | 1 => go (.toInt true)
    | _ => .illegal
  | 0x68 => match b with
    | 0 => go (.ofInt false)
    | 1 => go (.ofInt true)
    | _ => .illegal
  | 0x70 => if b ≠ 0 then .illegal else match fn with
    | 0 => .fp .mvXW rd a 0 0
    | 1 => .fp .cls rd a 0 0
    | _ => .illegal
  | 0x78 => if b = 0 ∧ fn = 0 then .fp .mvWX rd a 0 0 else .illegal
  | _ => .illegal

/-- SYSTEM. -/
def decSystem (w : Word) : YInstr :=
  let fn := wf w 12 3
  let a := wf w 15 5
  if fn = 0 then
    if w = 0x00000073#32 then .ecall
    else if w = 0x00100073#32 then .ebreak
    else if w = 0x10500073#32 then .wfi
    else if w = 0x30200073#32 then .mret
    else .illegal
  else if fn = 4 then .illegal
  else .csr (fn % 4) (wf w 7 5) (if fn < 4 then .reg a else .imm (BitVec.ofNat 32 a)) (wf w 20 12)

/-- Does a word of the custom-1 or custom-2 opcode name an operation of Vetch (R204, R207 to R213)? -/
def vecKnown (w : Word) : Bool :=
  if wf w 0 7 = 0x2B then
    let op := wf w 26 6
    decide (op ≤ 0x14) || decide (0x18 ≤ op ∧ op ≤ 0x25) || decide (0x28 ≤ op ∧ op ≤ 0x34) || decide (0x38 ≤ op ∧ op ≤ 0x3D)
  else
    let op := wf w 28 4
    match wf w 12 3 with
    | 0 => decide (op ≤ 4)
    | 1 => decide (op ≤ 4)
    | 2 => decide (op ≤ 4)
    | 3 => decide (op ≤ 3)
    | 4 => decide (op ≤ 3)
    | _ => false

/-- A 32-bit instruction. -/
def decode32 (w : Word) : YInstr :=
  let rd := wf w 7 5
  let a := wf w 15 5
  let b := wf w 20 5
  let fn := wf w 12 3
  match wf w 0 7 with
  | 0x37 => .alu .add rd (.imm (immU w)) (.imm 0#32)
  | 0x17 => .auipc rd (immU w)
  | 0x6F => .jal rd (immJ w)
  | 0x67 => if fn = 0 then .jalr rd a (immI w) else .illegal
  | 0x63 => if fn = 2 ∨ fn = 3 then .illegal else .branch fn a b (immB w)
  | 0x03 => if fn < 3 ∨ fn = 4 ∨ fn = 5 then .load fn rd a (immI w) else .illegal
  | 0x23 => if fn < 3 then .store fn b a (immS w) else .illegal
  | 0x07 => if fn = 2 then .flw rd a (immI w) else .illegal
  | 0x27 => if fn = 2 then .fsw b a (immS w) else .illegal
  | 0x13 => decOpImm w
  | 0x33 => decOp w
  | 0x0F => match fn with
    | 0 => .fence
    | 1 => .fenceI
    | _ => .illegal
  | 0x73 => decSystem w
  | 0x53 => decFp w
  | 0x43 => if wf w 25 2 = 0 then .fma 0 rd a b (wf w 27 5) fn else .illegal
  | 0x47 => if wf w 25 2 = 0 then .fma 1 rd a b (wf w 27 5) fn else .illegal
  | 0x4B => if wf w 25 2 = 0 then .fma 2 rd a b (wf w 27 5) fn else .illegal
  | 0x4F => if wf w 25 2 = 0 then .fma 3 rd a b (wf w 27 5) fn else .illegal
  | 0x0B =>
    if w = 0x0000000B#32 then .block 0
    else if w = 0x0000100B#32 then .block 1
    else if w = 0x0000200B#32 then .block 2
    else .illegal
  | 0x2B => if vecKnown w then .vec w else .illegal
  | 0x5B => if vecKnown w then .vec w else .illegal
  | _ => .illegal

/-- A compressed register. -/
def creg (v : Nat) : Nat := 8 + v % 8

/-- A 16-bit instruction of RV32FC (quadrants 0 to 2). -/
def decode16 (h : Nat) : YInstr :=
  let b := fun (lo wid : Nat) => h / 2 ^ lo % 2 ^ wid
  let n32 := fun (v : Nat) => BitVec.ofNat 32 v
  let rd := b 7 5
  let rs2 := b 2 5
  let c1 := creg (b 7 3)
  let c2 := creg (b 2 3)
  let imm6 := simm 6 (b 12 1 * 32 + b 2 5)
  let lw := n32 (b 10 3 * 8 + b 6 1 * 4 + b 5 1 * 64)
  let cj := simm 12 (b 12 1 * 2048 + b 11 1 * 16 + b 9 2 * 256 + b 8 1 * 1024 + b 7 1 * 64 + b 6 1 * 128 + b 3 3 * 2 + b 2 1 * 32)
  let cb := simm 9 (b 12 1 * 256 + b 10 2 * 8 + b 5 2 * 64 + b 3 2 * 2 + b 2 1 * 32)
  let lwsp := n32 (b 12 1 * 32 + b 4 3 * 4 + b 2 2 * 64)
  let swsp := n32 (b 9 4 * 4 + b 7 2 * 64)
  let alu := fun op => YInstr.alu op c1 (.reg c1) (.reg c2)
  match b 0 2, b 13 3 with
  | 0, 0 =>
    let v := b 11 2 * 16 + b 7 4 * 64 + b 6 1 * 4 + b 5 1 * 8
    if v = 0 then .illegal else .alu .add c2 (.reg 2) (.imm (n32 v))
  | 0, 2 => .load 2 c2 c1 lw
  | 0, 3 => .flw c2 c1 lw
  | 0, 6 => .store 2 c2 c1 lw
  | 0, 7 => .fsw c2 c1 lw
  | 1, 0 => .alu .add rd (.reg rd) (.imm imm6)
  | 1, 1 => .jal 1 cj
  | 1, 2 => .alu .add rd (.imm imm6) (.imm 0#32)
  | 1, 3 =>
    if rd = 2 then
      let v := b 12 1 * 512 + b 6 1 * 16 + b 5 1 * 64 + b 3 2 * 128 + b 2 1 * 32
      if v = 0 then .illegal else .alu .add 2 (.reg 2) (.imm (simm 10 v))
    else if imm6 = 0#32 then .illegal
    else .alu .add rd (.imm (imm6 <<< 12)) (.imm 0#32)
  | 1, 4 =>
    match b 10 2 with
    | 0 => if b 12 1 = 1 then .illegal else .alu .srl c1 (.reg c1) (.imm (n32 (b 2 5)))
    | 1 => if b 12 1 = 1 then .illegal else .alu .sra c1 (.reg c1) (.imm (n32 (b 2 5)))
    | 2 => .alu .and c1 (.reg c1) (.imm imm6)
    | _ =>
      if b 12 1 = 1 then .illegal
      else match b 5 2 with
        | 0 => alu .sub
        | 1 => alu .xor
        | 2 => alu .or
        | _ => alu .and
  | 1, 5 => .jal 0 cj
  | 1, 6 => .branch 0 c1 0 cb
  | 1, 7 => .branch 1 c1 0 cb
  | 2, 0 => if b 12 1 = 1 then .illegal else .alu .sll rd (.reg rd) (.imm (n32 rs2))
  | 2, 2 => if rd = 0 then .illegal else .load 2 rd 2 lwsp
  | 2, 3 => .flw rd 2 lwsp
  | 2, 4 =>
    if b 12 1 = 0 then
      if rs2 = 0 then (if rd = 0 then .illegal else .jalr 0 rd 0#32)
      else .alu .add rd (.imm 0#32) (.reg rs2)
    else if rs2 = 0 then (if rd = 0 then .ebreak else .jalr 1 rd 0#32)
    else .alu .add rd (.reg rd) (.reg rs2)
  | 2, 6 => .store 2 rs2 2 swsp
  | 2, 7 => .fsw rs2 2 swsp
  | _, _ => .illegal

/-- The result of an integer operation. -/
def aluVal (op : AluOp) (a b : Word) : Word :=
  let n := b.toNat % 32
  let bits := List.range 32
  let pop := fun (v : Word) => (bits.filter (fun i => v.getLsbD i)).length
  let byte := fun (i : Nat) => a.extractLsb' (8 * i) 8
  match op with
  | .add => a + b
  | .sub => a - b
  | .sll => a <<< n
  | .slt => if a.toInt < b.toInt then 1#32 else 0#32
  | .sltu => if a.toNat < b.toNat then 1#32 else 0#32
  | .xor => a ^^^ b
  | .srl => a >>> n
  | .sra => a.sshiftRight n
  | .or => a ||| b
  | .and => a &&& b
  | .sh1add => (a <<< 1) + b
  | .sh2add => (a <<< 2) + b
  | .sh3add => (a <<< 3) + b
  | .andn => a &&& ~~~b
  | .orn => a ||| ~~~b
  | .xnor => ~~~(a ^^^ b)
  | .clz => BitVec.ofNat 32 (((bits.reverse.find? (fun i => a.getLsbD i)).map (fun i => 31 - i)).getD 32)
  | .ctz => BitVec.ofNat 32 ((bits.find? (fun i => a.getLsbD i)).getD 32)
  | .cpop => BitVec.ofNat 32 (pop a)
  | .max => if a.toInt < b.toInt then b else a
  | .maxu => if a.toNat < b.toNat then b else a
  | .min => if b.toInt < a.toInt then b else a
  | .minu => if b.toNat < a.toNat then b else a
  | .sextb => (a.extractLsb' 0 8).signExtend 32
  | .sexth => (a.extractLsb' 0 16).signExtend 32
  | .zexth => (a.extractLsb' 0 16).setWidth 32
  | .rol => a.rotateLeft n
  | .ror => a.rotateRight n
  | .orcb => BitVec.ofNat 32 ((List.range 4).foldl (fun v i => if byte i = 0#8 then v else v + 255 * 256 ^ i) 0)
  | .rev8 => byte 0 ++ byte 1 ++ byte 2 ++ byte 3

/-- MUL, MULH, MULHSU, MULHU. -/
def mulVal (fn : Nat) (a b : Word) : Word :=
  match fn with
  | 0 => a * b
  | 1 => BitVec.ofInt 32 (a.toInt * b.toInt / 2 ^ 32)
  | 2 => BitVec.ofInt 32 (a.toInt * b.toNat / 2 ^ 32)
  | _ => BitVec.ofNat 32 (a.toNat * b.toNat / 2 ^ 32)

/-- DIV, DIVU, REM, REMU (R177). -/
def divVal (fn : Nat) (a b : Word) : Word :=
  match fn with
  | 4 => if b = 0#32 then 0xFFFFFFFF#32 else BitVec.ofInt 32 (a.toInt.tdiv b.toInt)
  | 5 => if b = 0#32 then 0xFFFFFFFF#32 else BitVec.ofNat 32 (a.toNat / b.toNat)
  | 6 => if b = 0#32 then a else BitVec.ofInt 32 (a.toInt.tmod b.toInt)
  | _ => if b = 0#32 then a else BitVec.ofNat 32 (a.toNat % b.toNat)

/-- The condition of a branch. -/
def branchTaken (fn : Nat) (a b : Word) : Bool :=
  match fn with
  | 0 => a == b
  | 1 => a != b
  | 4 => decide (a.toInt < b.toInt)
  | 5 => !decide (a.toInt < b.toInt)
  | 6 => decide (a.toNat < b.toNat)
  | _ => !decide (a.toNat < b.toNat)

end Sys2Proof.Machine
end

