-- ==== Sys2Proof/Machine/YarCore.lean ====
section
/-!
DEFINITION. Yarrow's registers, protection, accesses, traps and CSRs (R165 to R174, R190 to R195).
-/
namespace Sys2Proof.Machine

def State.updYar (s : State) (f : Yar → Yar) : State := { s with yar := f s.yar }
def State.updVet (s : State) (f : Vet → Vet) : State := s.updYar (fun y => { y with vet := f y.vet })
def State.updDbg (s : State) (f : YDebug → YDebug) : State := s.updYar (fun y => { y with dbg := f y.dbg })

/-- What an instruction comes to: it is done, by retiring or by a trap, or it is still under way. -/
inductive YOut where
  | done (s : State) | busy (s : State)

def YOut.state : YOut → State
  | .done s => s
  | .busy s => s

-- Registers

/-- Integer register `i`; x0 reads 0. -/
def yReg (i : Nat) (s : State) : Word := if i % 32 = 0 then 0#32 else s.yar.x.toList.getD (i % 32) 0#32
def srcVal (a : Src) (s : State) : Word :=
  match a with
  | .reg i => yReg i s
  | .imm v => v

/-- A write-back to x`i`, with the register-test signature (R195). -/
def yPut (i : Nat) (v : Word) (s : State) : State :=
  if i % 32 = 0 then s
  else s.updYar (fun y => { y with
    x := y.x.set! (i % 32) v
    rtSig := if y.rtEn && !y.dbg.halted then (y.rtSig.rotateLeft 1) ^^^ v else y.rtSig })

def fReg (i : Nat) (s : State) : Word := s.yar.f.toList.getD (i % 32) 0#32
/-- A write to f`i` makes mstatus.FS Dirty. -/
def fPut (i : Nat) (v : Word) (s : State) : State :=
  s.updYar (fun y => { y with f := y.f.set! (i % 32) v, fs := 3#2 })
/-- Flags accrue, which makes FS Dirty. -/
def accrue (fl : Nat) (s : State) : State :=
  if fl = 0 then s else s.updYar (fun y => { y with fflags := y.fflags ||| BitVec.ofNat 5 fl, fs := 3#2 })

-- Protection (R165, R166)

/-- The byte range of PMP entry `i`; none where it is OFF. -/
def pmpRange (i : Nat) (y : Yar) : Option (Nat × Nat) :=
  let c := y.pmpcfg.toList.getD i 0#8
  let a := (y.pmpaddr.toList.getD i 0#32).toNat
  match c.toNat / 8 % 4 with
  | 0 => none
  | 1 => some (if i = 0 then 0 else (y.pmpaddr.toList.getD (i - 1) 0#32).toNat * 4, a * 4)
  | 2 => some (a * 4, a * 4 + 4)
  | _ =>
    let t := ((List.range 32).find? (fun k => !natBit a k)).getD 32
    let base := a / 2 ^ (t + 1) * 2 ^ (t + 1) * 4
    some (base, base + 2 ^ (t + 3))

/-- Does PMP allow an access (kind 0 read, 1 write, 2 fetch) of `size` bytes at `a`? -/
def pmpAllows (mach : Bool) (kind a size : Nat) (y : Yar) : Bool :=
  match (List.range 16).find? (fun i => match pmpRange i y with
    | some (lo, hi) => decide (max lo a < min hi (a + size))
    | none => false) with
  | none => mach
  | some i =>
    let c := (y.pmpcfg.toList.getD i 0#8).toNat
    let whole := match pmpRange i y with
      | some (lo, hi) => decide (lo ≤ a ∧ a + size ≤ hi)
      | none => false
    whole && ((mach && !natBit c 7) || natBit c kind)

/-- Does a load or store act in User mode? -/
def userAccess (y : Yar) : Bool := !y.dbg.halted && (!y.mach || (y.mprv && !y.mppM))

/-- An access of Yarrow as it comes back: data, a refusal with its YFAULT cause and the refused address, or a wait for the chain. -/
inductive YReply where
  | ok (d : Nat) | fault (cause addr : Nat) | wait
deriving DecidableEq, Repr

/-- One access that the checks meet whole: kind 0 read, 1 write, 2 fetch. What a locked PMP entry denies in Machine mode is refused
inside the core (R166). -/
def yWord (by_ : ReqBy) (kind a size v : Nat) (s : State) : YReply × State :=
  let y := s.yar
  let user := if kind = 2 then !y.mach && !y.dbg.halted else userAccess y
  let ok := pmpAllows (!user) kind a size y
  if !user && !ok then (.fault 9 a, s)
  else
    let cid := if y.dbg.halted then 62 else if user then y.cidsel.toNat else 1
    match fabric by_ { cid := cid, fetch := kind == 2, ctm := y.ctm && !user, pmp := ok } (kind == 1) a size v s with
    | (.ans (.ok d), s) => (.ok d.toNat, s)
    | (.ans (.refused c), s) => (.fault c.code a, s)
    | (.wait, s) => (.wait, s)

/-- An access of Yarrow. A 64-bit access to a memory with 32-bit rows is two, each checked, PMP included, as a 32-bit access (R86, R166);
the refused address is that of the word refused. -/
def yAccess (by_ : ReqBy) (kind a size v : Nat) (s : State) : YReply × State :=
  if size = 8 ∧ (targetRegion a s).any (fun r => narrowRegion r && sizeOk r (a % 0x8000) 8) then
    match yWord by_ kind a 4 (v % 2 ^ 32) s with
    | (.ok lo, s) => match yWord by_ kind (a + 4) 4 (v / 2 ^ 32) s with
      | (.ok hi, s) => (.ok (lo + hi * 2 ^ 32), s)
      | r => r
    | r => r
  else yWord by_ kind a size v s

-- The store buffer (R170, R171, R174)

/-- Is an access at `a` strongly ordered? -/
def strongAddr (a : Nat) : Bool :=
  match regionOf a with
  | some r => r == 11 || decide (16 ≤ r ∧ r ≤ 33)
  | none => false

/-- A late refusal of a buffered store (R174). -/
def lateStore (a cause : Nat) (s : State) : State :=
  s.updYar (fun y =>
    if y.serrValid then { y with serrMore := true }
    else { y with serrValid := true, serrAddr := BitVec.ofNat 32 a, serrCause := BitVec.ofNat 4 cause })

/-- STORE_BUFFER_DRAIN: the oldest buffered store is performed, if none is on the chain. -/
def storeDrain (s : State) : State :=
  match s.yar.sb with
  | [] => s
  | e :: rest =>
    if s.yar.sbOut then s
    else match fabric .store { cid := e.cid, ctm := e.ctm } true e.addr e.size e.data s with
      | (.ans (.ok _), s) => s.updYar (fun y => { y with sb := rest })
      | (.ans (.refused c), s) => lateStore e.addr c.code (s.updYar (fun y => { y with sb := rest }))
      | (.wait, s) => s.updYar (fun y => { y with sbOut := true })

def drainAll (s : State) : State := forEach 4 (fun _ s => storeDrain s) s

/-- The chain request of the oldest store ends (R171, R174). -/
def storeRemoteDone (ok : Bool) (s : State) : State :=
  match s.yar.sb with
  | [] => s
  | e :: rest =>
    let s := s.updYar (fun y => { y with sb := rest, sbOut := false })
    if ok then s else lateStore e.addr 8 s

/-- Must the store buffer drain before an access at `a` of `size` bytes (R170)? -/
def mustDrain (a size : Nat) (s : State) : Bool :=
  strongAddr a || s.yar.sb.any (fun e => strongAddr e.addr || decide (e.addr < a + size ∧ a < e.addr + e.size))

-- Traps, retirement and debug entry

/-- Every uncommitted Vetch instruction is discarded (R228). -/
def vetSquash (s : State) : State := s.updVet (fun v => { v with pend := [], path := [] })

/-- Yarrow enters Debug Mode (R190). -/
def debugEnter (cause : Nat) (s : State) : State :=
  let s := vetSquash s
  s.updYar (fun y => { y with
    wfi := false
    fence := false
    dbg := { y.dbg with halted := true, haltReq := false, dpc := y.pc
                        dcsr := BitVec.ofNat 32 ((y.dbg.dcsr.toNat &&& 0x9E04) + cause * 64 + (if y.mach then 3 else 0)) } })

/-- A trap is taken (R172, R173). In Debug Mode it only ends the command (R190). -/
def yTrap (cause : Nat) (isInt : Bool) (tval : Word) (s : State) : State :=
  if s.yar.dbg.halted then s.updDbg (fun d => { d with cmderr := 3, prog := [] })
  else
    let s := vetSquash s
    s.updYar (fun y =>
      let base := y.mtvec &&& 0xFFFFFFC0#32
      { y with
        mepc := y.pc
        mcause := BitVec.ofNat 32 (cause + if isInt then 2 ^ 31 else 0)
        mtval := tval
        mpie := y.mie
        mie := false
        mppM := y.mach
        mach := true
        wfi := false
        fence := false
        pc := if isInt && y.mtvec.getLsbD 0 then base + BitVec.ofNat 32 (4 * cause) else base })

/-- An exception with YFAULT. For the debug port it is the abstract-command error "bus" (R92). -/
def yFault (cause yf : Nat) (a : Nat) (s : State) : State :=
  if s.yar.dbg.halted then s.updDbg (fun d => { d with cmderr := 5, prog := [] })
  else yTrap cause false (BitVec.ofNat 32 a) (s.updYar (fun y => { y with yfault := BitVec.ofNat 4 yf }))

/-- Do mcycle and minstret stand still because the hart is halted and dcsr.stopcount is 1 (R190)? -/
def countsStop (y : Yar) : Bool := y.dbg.halted && y.dbg.dcsr.getLsbD 10

/-- The instruction retires and `next` follows (R192); a path that Vetch ran ahead on and that is not taken is squashed (R228). -/
def retireTo (next : Word) (s : State) : State :=
  let s := s.updYar (fun y => { y with
    pc := next
    fence := false
    minstret := if y.mcountinhibit.getLsbD 2 || countsStop y then y.minstret else y.minstret + 1#64 })
  match s.yar.vet.path with
  | [] => s
  | m :: rest => if m = next then s.updVet (fun v => { v with path := rest }) else vetSquash s

-- Interrupts (R173, R194)

def timerPending (s : State) : Bool :=
  decide (s.yar.ytcmp.toNat ≤ s.tb.time % 2 ^ 64) && !(s.yar.dbg.halted && s.yar.dbg.dcsr.getLsbD 9)

/-- mip. -/
def mipWord (s : State) : Word :=
  BitVec.ofNat 32 ((if timerPending s then 0x80 else 0) + (if routerInterrupt s then 0x800 else 0) +
    (if s.yar.serrValid then 0x20000 else 0))

/-- The enabled interrupt of highest priority: YLSE, MEI, MTI. -/
def interruptNext (s : State) : Option Nat :=
  [17, 11, 7].find? (fun i => (mipWord s &&& s.yar.ie).getLsbD i)

/-- INTERRUPT_TAKE (R173, R187, R224). A load of region 32 delays it, and a FENCE while it waits (R175). -/
def interruptTake (s : State) : State :=
  let y := s.yar
  let masked := (y.mach && !y.mie) || (y.dbg.dcsr.getLsbD 2 && !y.dbg.dcsr.getLsbD 11)
  if !y.run || y.dbg.halted || y.wait.isSome || (y.fence && !y.sb.isEmpty) || masked then s
  else match interruptNext s with
    | none => s
    | some i => yTrap i true 0#32 s

-- CSRs (R191 to R194)

def mstatusWord (y : Yar) : Word :=
  let b := fun (v : Bool) (n : Nat) => if v then n else 0
  BitVec.ofNat 32 (b y.mie 8 + b y.mpie 0x80 + b y.mppM 0x1800 + y.fs.toNat * 0x2000 + b y.mprv 0x20000 +
    b (y.fs == 3#2) 0x80000000)

/-- dcsr, with its read-only fields (xdebugver 4). -/
def dcsrWord (y : Yar) : Word := y.dbg.dcsr ||| 0x40000000#32

/-- The CSR `n`; none where an access raises illegal instruction. -/
def csrRead (n : Nat) (s : State) : Option Word :=
  let y := s.yar
  let hi := fun (v : DWord) => some (v.extractLsb' 32 32)
  let lo := fun (v : DWord) => some (v.setWidth 32)
  let b := fun (v : Bool) (k : Nat) => if v then k else 0
  let time : DWord := BitVec.ofNat 64 s.tb.time
  if n = 1 then some (y.fflags.setWidth 32)
  else if n = 2 then some (y.frm.setWidth 32)
  else if n = 3 then some (y.frm.setWidth 32 <<< 5 ||| y.fflags.setWidth 32)
  else if (0x323 ≤ n ∧ n ≤ 0x33F) ∨ (0xB03 ≤ n ∧ n ≤ 0xB1F) ∨ (0xB83 ≤ n ∧ n ≤ 0xB9F) then some 0#32
  else if 0x3A0 ≤ n ∧ n ≤ 0x3A3 then
    some (BitVec.ofNat 32 ((List.range 4).foldl (fun v i => v + (y.pmpcfg.toList.getD (4 * (n - 0x3A0) + i) 0#8).toNat * 256 ^ i) 0))
  else if 0x3B0 ≤ n ∧ n ≤ 0x3BF then some (y.pmpaddr.toList.getD (n - 0x3B0) 0#32)
  else match n with
    | 0x300 => some (mstatusWord y)
    | 0x301 => some 0x40901124#32
    | 0x304 => some y.ie
    | 0x305 => some y.mtvec
    | 0x306 => some (y.mcounteren.setWidth 32)
    | 0x320 => some (y.mcountinhibit.setWidth 32)
    | 0x340 => some y.mscratch
    | 0x341 => some y.mepc
    | 0x342 => some y.mcause
    | 0x343 => some y.mtval
    | 0x344 => some (mipWord s)
    | 0xB00 => lo y.mcycle
    | 0xB80 => hi y.mcycle
    | 0xB02 => lo y.minstret
    | 0xB82 => hi y.minstret
    | 0xC00 => lo y.mcycle
    | 0xC80 => hi y.mcycle
    | 0xC01 => lo time
    | 0xC81 => hi time
    | 0xC02 => lo y.minstret
    | 0xC82 => hi y.minstret
    | 0xF11 => some 0#32
    | 0xF12 => some 0#32
    | 0xF13 => some 1#32
    | 0xF14 => some 0#32
    | 0x7A0 => some (BitVec.ofNat 32 y.dbg.tselect)
    | 0x7A1 => some (y.dbg.tdata1.toList.getD y.dbg.tselect 0#32)
    | 0x7A2 => some (y.dbg.tdata2.toList.getD y.dbg.tselect 0#32)
    | 0x7A4 => some 4#32
    | 0x7B0 => some (dcsrWord y)
    | 0x7B1 => some y.dbg.dpc
    | 0x7B2 => some (y.dbg.dscratch.get 0)
    | 0x7B3 => some (y.dbg.dscratch.get 1)
    | 0x7C0 => some (BitVec.ofNat 32 (b y.ctm 1))
    | 0x7C1 => some (y.cidsel.setWidth 32)
    | 0x7C2 => some (y.veix.setWidth 32)
    | 0x7C3 => some (y.yfault.setWidth 32)
    | 0x7C4 => lo y.ytcmp
    | 0x7C5 => hi y.ytcmp
    | 0x7C6 => some y.serrAddr
    | 0x7C7 => some (BitVec.ofNat 32 (y.serrCause.toNat + b y.serrMore 0x100 + b y.serrValid 0x80000000))
    | 0x7C8 => some (BitVec.ofNat 32 (b y.poly 1))
    | 0x7C9 => some (BitVec.ofNat 32 (b y.bpoff 1))
    | 0x7CA => some (BitVec.ofNat 32 (b y.rtEn 1))
    | 0x7CB => some y.rtSig
    | _ => none

/-- A byte of pmpcfg as written: a locked entry keeps it; W without R is reserved and reads as neither (PRESUMED, assumption log 22). -/
def pmpcfgByte (old new : Byte) : Byte :=
  if old.getLsbD 7 then old
  else
    let v := new &&& 0x9F#8
    if v.getLsbD 1 && !v.getLsbD 0 then v &&& 0x9D#8 else v

/-- Is pmpaddr `i` locked: by its own entry, or by the next one in TOR mode? -/
def pmpaddrLocked (i : Nat) (y : Yar) : Bool :=
  let c := (y.pmpcfg.toList.getD i 0#8).toNat
  let d := (y.pmpcfg.toList.getD (i + 1) 0#8).toNat
  natBit c 7 || (natBit d 7 && d / 8 % 4 == 1)

/-- One half of a 64-bit register takes `w`. -/
def putHalf (hi : Bool) (w : Word) (v : DWord) : DWord :=
  if hi then w ++ v.setWidth 32 else v.extractLsb' 32 32 ++ w

/-- The predictor's tables clear (R193). -/
def predFlush (s : State) : State := s.updYar (fun y => { y with pred := {} })

/-- A write of CSR `n`, for the CSRs that hold anything. -/
def csrWrite (n : Nat) (w : Word) (s : State) : State :=
  let bit := fun (i : Nat) => w.getLsbD i
  if 0x3A0 ≤ n ∧ n ≤ 0x3A3 then
    s.updYar (fun y => { y with pmpcfg := (List.range 4).foldl (fun (v : Vector Byte 16) i =>
      let j := 4 * (n - 0x3A0) + i
      v.set! j (pmpcfgByte (v.toList.getD j 0#8) (w.extractLsb' (8 * i) 8))) y.pmpcfg })
  else if 0x3B0 ≤ n ∧ n ≤ 0x3BF then
    s.updYar (fun y => if pmpaddrLocked (n - 0x3B0) y then y else { y with pmpaddr := y.pmpaddr.set! (n - 0x3B0) w })
  else match n with
    | 1 => s.updYar (fun y => { y with fflags := w.setWidth 5, fs := 3#2 })
    | 2 => s.updYar (fun y => { y with frm := w.setWidth 3, fs := 3#2 })
    | 3 => s.updYar (fun y => { y with fflags := w.setWidth 5, frm := (w >>> 5).setWidth 3, fs := 3#2 })
    | 0x300 => s.updYar (fun y => { y with
        mie := bit 3, mpie := bit 7, mppM := bit 11 && bit 12, mprv := bit 17, fs := (w >>> 13).setWidth 2 })
    | 0x304 => s.updYar (fun y => { y with ie := w &&& 0x20880#32 })
    | 0x305 => s.updYar (fun y => { y with mtvec := w &&& 0xFFFFFFC1#32 })
    | 0x306 => s.updYar (fun y => { y with mcounteren := w.setWidth 3 })
    | 0x320 => s.updYar (fun y => { y with mcountinhibit := (w &&& 5#32).setWidth 3 })
    | 0x340 => s.updYar (fun y => { y with mscratch := w })
    | 0x341 => s.updYar (fun y => { y with mepc := w &&& 0xFFFFFFFE#32 })
    | 0x342 => s.updYar (fun y => { y with mcause := w })
    | 0x343 => s.updYar (fun y => { y with mtval := w })
    | 0xB00 => s.updYar (fun y => { y with mcycle := putHalf false w y.mcycle })
    | 0xB80 => s.updYar (fun y => { y with mcycle := putHalf true w y.mcycle })
    | 0xB02 => s.updYar (fun y => { y with minstret := putHalf false w y.minstret })
    | 0xB82 => s.updYar (fun y => { y with minstret := putHalf true w y.minstret })
    | 0x7A0 => s.updDbg (fun d => { d with tselect := w.toNat % 4 })
    | 0x7A1 => s.updDbg (fun d => { d with tdata1 := d.tdata1.set! d.tselect ((w &&& 0x080017CF#32) ||| 0x20000000#32) })
    | 0x7A2 => s.updDbg (fun d => { d with tdata2 := d.tdata2.set! d.tselect w })
    | 0x7B0 => s.updDbg (fun d => { d with dcsr := (w &&& 0x9E07#32) ||| (d.dcsr &&& 0x1C0#32) })
    | 0x7B1 => s.updDbg (fun d => { d with dpc := w &&& 0xFFFFFFFE#32 })
    | 0x7B2 => s.updDbg (fun d => { d with dscratch := d.dscratch.set 0 w })
    | 0x7B3 => s.updDbg (fun d => { d with dscratch := d.dscratch.set 1 w })
    | 0x7C0 => s.updYar (fun y => { y with ctm := bit 0 })
    | 0x7C1 =>
      let v := w.toNat
      if 2 ≤ v ∧ v ≤ 16 then s.updYar (fun y => { y with cidsel := BitVec.ofNat 5 v }) else s
    | 0x7C2 => s.updYar (fun y => { y with veix := w.setWidth 12 })
    | 0x7C4 => s.updYar (fun y => { y with ytcmp := putHalf false w y.ytcmp })
    | 0x7C5 => s.updYar (fun y => { y with ytcmp := putHalf true w y.ytcmp })
    | 0x7C7 => s.updYar (fun y => { y with serrMore := y.serrMore && bit 8, serrValid := y.serrValid && bit 31 })
    | 0x7C8 => s.updYar (fun y => { y with poly := bit 0 })
    | 0x7C9 =>
      let s := s.updYar (fun y => { y with bpoff := bit 0 })
      if bit 1 then predFlush s else s
    | 0x7CA => s.updYar (fun y => { y with rtEn := bit 0 })
    | 0x7CB => s.updYar (fun y => { y with rtSig := w })
    | _ => s

/-- May CSR `n` be accessed now, and written where `write` (R191, R193, R164)? -/
def csrAllowed (n : Nat) (write : Bool) (y : Yar) : Bool :=
  let dbg := y.dbg.halted
  let mach := y.mach || dbg
  let counter := n == 0xC00 || n == 0xC01 || n == 0xC02 || n == 0xC80 || n == 0xC81 || n == 0xC82
  (mach || n / 256 % 4 == 0) && !(write && n / 1024 == 3) &&
  (!(n == 1 || n == 2 || n == 3) || y.fs != 0#2) &&
  (!(decide (0x7A0 ≤ n ∧ n ≤ 0x7BF)) || dbg) &&
  (mach || !counter || y.mcounteren.getLsbD (n % 4))

end Sys2Proof.Machine
end

