-- ==== Sys2Proof/Machine/Boot.lean ====
section
/-!
DEFINITION. Betony's boot (02): the checks of a slot, loading, configuration, release, LIMP, and the boot sequence.
-/
namespace Sys2Proof.Machine

def State.updBoot (s : State) (f : Boot → Boot) : State := { s with boot := f s.boot }

/-- An image, by its bytes from offset 0. -/
abbrev Img := Nat → Byte

/-- `n` bytes of an image from offset `o`, little-endian. -/
def imgNum (m : Img) (o n : Nat) : Nat := ofLeBytes ((List.range n).map (fun i => m (o + i)))
/-- `n` bytes of an image from offset `o`. -/
def imgBytes (m : Img) (o n : Nat) : List Byte := (List.range n).map (fun i => m (o + i))

-- The header (R55)

def hMagic (m : Img) : Nat := imgNum m 0 4
def hEpoch (m : Img) : Nat := imgNum m 6 2
def hRollback (m : Img) : Nat := imgNum m 0xC 1
def hKeyslot (m : Img) : Nat := imgNum m 0xD 1
def hNsect (m : Img) : Nat := imgNum m 0xE 1
def hNpers (m : Img) : Nat := imgNum m 0xF 1
def hSlotB (m : Img) : Nat := imgNum m 0x10 4
def hLen (m : Img) : Nat := imgNum m 0x14 4
def hImageid (m : Img) : Nat := imgNum m 0x18 4
def hFlags (m : Img) : Nat := imgNum m 0x1C 4
def hEntry (m : Img) : Nat := imgNum m 0x20 4

/-- The first of checks 1 to 6 of R64 that fails, as its error code; 0 where none does. DEDUCED (assumption log 28): a reserved FLAGS bit is FORMAT, and a
ROLLBACK above 63 is ROLLBACK. DESIGN CHOICE (assumption log 74): reserved header bytes 0x24 to 0x7F that are not zero fail no check. -/
def headerError (m : Img) (f : Fuses) : Nat :=
  let k := hKeyslot m
  if hMagic m ≠ 0x594C5243 then 2
  else if imgNum m 5 1 ≠ 1 ∨ 7 < hFlags m then 3
  else if 1 < imgNum m 8 1 ∨ imgNum m 9 1 < 1 then 4
  else if imgNum m 0xA 1 ≠ 1 ∨ 3 < imgNum m 0xB 1 then 5
  else if 3 < k ∨ !f.keyProg.getLsbD k ∨ f.keyRev.getLsbD k then 6
  else if ofLeBytes (sha256 (imgBytes m 0x80 64)) ≠ (f.keyHash.toList.getD k 0#256).toNat then 7
  else if 63 < hRollback m ∨ hRollback m < ones f.rollback then 8
  else 0

-- Sections and personalities (R57 to R60)

/-- An entry of the section table. -/
structure Sect where
  typ : Nat
  mask : Nat
  off : Nat
  len : Nat
  dest : Nat
deriving DecidableEq, Repr

def sectAt (m : Img) (i : Nat) : Sect :=
  let o := 0x100 + 16 * i
  { typ := imgNum m o 1, mask := imgNum m (o + 1) 1, off := imgNum m (o + 4) 4, len := imgNum m (o + 8) 4, dest := imgNum m (o + 12) 4 }

/-- The sections of an image. -/
def sections (m : Img) : List Sect := (List.range (hNsect m)).map (sectAt m)

/-- The target memory of a section type: its Yarrow byte address, its size, the longest section; none for a configuration section. -/
def sectTarget (t : Nat) : Option (Nat × Nat × Nat) :=
  if t = 1 ∨ t = 2 then some (0x10000000, 0x80000, 508 * 1024)
  else if t = 0x10 ∨ t = 0x18 then some (0x30000000 + (t - 0x10) / 8 * 0x1000000, 0x10000, 0x10000)
  else if t = 0x11 ∨ t = 0x19 then some (0x30010000 + (t - 0x10) / 8 * 0x1000000, 0x8000, 0x8000)
  else if t = 0x12 ∨ t = 0x1A then some (0x30018000 + (t - 0x10) / 8 * 0x1000000, 0x8000, 0x8000)
  else if t = 0x20 then some (0x20000000, 0x40000, 0x40000)
  else if t = 0x28 then some (0x42000000, 0x2000, 0x2000)
  else none

def isConfig (t : Nat) : Bool := decide (0x40 ≤ t ∧ t ≤ 0x48)

/-- A section table entry by itself (R57, R58). DEDUCED (assumption log 28): its own limits are among the checks of the table, and a
configuration section has DEST 0. -/
def sectOk (m : Img) (i : Nat) (x : Sect) : Bool :=
  imgNum m (0x102 + 16 * i) 2 == 0 && decide (0x380 ≤ x.off ∧ x.off % 4 = 0 ∧ 1 ≤ x.len ∧ x.len % 4 = 0
    ∧ x.off + x.len ≤ hLen m) &&
  match sectTarget x.typ with
  | some (_, size, most) =>
    decide (x.len ≤ most ∧ x.dest + x.len ≤ size) && (decide (2 < x.typ) || decide (x.dest + x.len ≤ 0x7F000 ∨ 0x80000 ≤ x.dest))
  | none => isConfig x.typ && decide (x.dest = 0 ∧ x.len ≤ 0x1000)

/-- Do two sections overlap in one target memory? -/
def sectsClash (a b : Sect) : Bool :=
  match sectTarget a.typ, sectTarget b.typ with
  | some (x, _, _), some (y, _, _) => x == y && decide (a.dest < b.dest + b.len ∧ b.dest < a.dest + a.len)
  | _, _ => false

/-- The sections loaded for personality `p`. -/
def sectsOf (m : Img) (p : Nat) : List Sect := (sections m).filter (fun x => natBit x.mask p)

/-- The rules of R58 for personality `p`. -/
def persSectsOk (m : Img) (p : Nat) : Bool :=
  let l := sectsOf m p
  let count := fun t => (l.filter (fun x => x.typ == t)).length
  (List.range 9).all (fun i => decide (count (0x40 + i) ≤ 1)) && count 0x43 == 1 && count 0x40 == 1
  && l.any (fun x => x.typ == 1 && decide (0x10000000 + x.dest ≤ hEntry m ∧ hEntry m < 0x10000000 + x.dest + x.len))
  && (List.range l.length).all (fun i => (List.range i).all (fun j =>
      match l[i]?, l[j]? with
      | some a, some b => !sectsClash a b
      | _, _ => true))

/-- A personality entry (R59). DESIGN CHOICE (assumption log 75): a reserved PFLAGS bit, a SELKIND above 1 or a SELVAL out of range makes the
table invalid. -/
def persOk (m : Img) (i : Nat) : Bool :=
  let o := 0x300 + 16 * i
  let kind := imgNum m (o + 1) 1
  let v := imgNum m (o + 2) 1
  imgNum m o 1 == i && (kind == 0 && decide (v ≤ 7) || kind == 1 && decide (1 ≤ v ∧ v ≤ 64))
  && decide (imgNum m (o + 3) 1 ≤ 1) && imgNum m (o + 8) 8 == 0

/-- The tables are valid (R57 to R59, check 7 of R64). DESIGN CHOICE (assumption log 74): bytes in gaps between sections that are not zero fail
no check. -/
def tablesOk (m : Img) : Bool :=
  let ns := hNsect m
  let np := hNpers m
  decide (1 ≤ ns ∧ ns ≤ 32 ∧ 1 ≤ np ∧ np ≤ 8 ∧ 0x380 ≤ hLen m ∧ hLen m % 4 = 0)
  && (List.range 32).all (fun i => if i < ns then sectOk m i (sectAt m i) else imgNum m (0x100 + 16 * i) 16 == 0)
  && (List.range (ns - 1)).all (fun i => decide ((sectAt m i).off + (sectAt m i).len ≤ (sectAt m (i + 1)).off))
  && (List.range 8).all (fun i => if i < np then persOk m i else imgNum m (0x300 + 16 * i) 16 == 0)
  && (List.range np).all (persSectsOk m)

/-- The first entry of the personality table with this SELKIND and SELVAL. -/
def persBy (m : Img) (kind v : Nat) : Option Nat :=
  (List.range (hNpers m)).find? (fun i => imgNum m (0x301 + 16 * i) 1 == kind && imgNum m (0x302 + 16 * i) 1 == v)

/-- The choice of R60: wait for an address, none (NOPERS), or the entry. `late`: the 20 ms are over. -/
inductive Choice where
  | wait | none | entry (p : Nat)
deriving DecidableEq, Repr

def choose (m : Img) (late : Bool) (s : State) : Choice :=
  let rest :=
    match persBy m 0 (s.get F.SYS_STRAP_PSEL) with
    | some p => .entry p
    | .none =>
      match (List.range (hNpers m)).find? (fun i => imgNum m (0x303 + 16 * i) 1 % 2 == 1) with
      | some p => .entry p
      | .none => .none
  if !natBit (hFlags m) 2 then rest
  else if ownAddr s = 0 then (if late then rest else .wait)
  else match persBy m 1 (ownAddr s) with
    | some p => .entry p
    | .none => rest

-- Slots (R63, R64)

/-- The flash as an image from offset `base`. -/
def flashImg (base : Nat) (s : State) : Img := fun i => flashByte (base + i) s

/-- The offset of slot B (R63). -/
def slotBase (k : Nat) (s : State) : Nat :=
  if k = 0 then 0
  else
    let a := flashImg 0 s
    let b := hSlotB a
    if hMagic a = 0x594C5243 ∧ b ≠ 0 ∧ b % 0x10000 = 0 ∧ hLen a ≤ b ∧ b < s.flash.mode.size then b else 0x800000

/-- Discovery (R51): address width and size from the SFDP table; without a signature 3 bytes and 16 MiB (R424). The header is then read with
0x03. -/
def discover (s : State) : State :=
  let f := s.flash
  let m : FlashMode := if f.present then { addr4 := f.wide, size := f.size } else {}
  { s with flash := { f with mode := m } }

/-- The read mode of step 8 and of relay rounds (R51, R52, R71): 0xEB with mode bits 0xFF where the device takes it, else 0x0B; SCK by
FASTBOOT. -/
def streamMode (fast : Bool) (s : State) : State :=
  let f := s.flash
  let q := if f.present then f.quad else none
  let m : FlashMode :=
    match q with
    | some n => { cmd := 0xEB, dummy := n, mbits := some 0xFF, addr4 := f.mode.addr4, size := f.mode.size, div := if fast then 2 else 3 }
    | .none => { cmd := 0x0B, dummy := 8, addr4 := f.mode.addr4, size := f.mode.size, div := if fast then 2 else 3 }
  { s with flash := { f with mode := m } }

/-- The image of slot `k`: 0 A, 1 B, 2 the relay round. -/
def slotImg (k : Nat) (s : State) : Img :=
  if k = 2 then fun i => s.boot.image.getD i 0#8 else flashImg (slotBase k s) s

/-- The image offset at which slot `k` can no longer be read (check 8 of R64): the end of the device, or a read error. -/
def slotEnd (k : Nat) (s : State) : Nat :=
  let past := fun (e : Option Nat) => min (e.getD (s.flash.mode.size - slotBase k s)) (s.flash.mode.size - slotBase k s)
  if k = 2 then s.boot.image.length
  else past (if k = 0 then s.boot.inp.readErr.1 else s.boot.inp.readErr.2)

/-- The signature of an image is good (R56, check 9 of R64). -/
def signatureOk (m : Img) : Bool :=
  let e := ofBeBytes (sha256 (imgBytes m 0 0xC0 ++ imgBytes m 0x100 (hLen m - 0x100)))
  let be := fun o => ofBeBytes (imgBytes m o 32)
  ecdsaOk e (be 0x80) (be 0xA0) (be 0xC0) (be 0xE0)

/-- Step 8 (R62): each memory section of personality `p` is written as far as the image is read, `upto`; or (R66) every destination
written is filled with zero. -/
def loadSects (m : Img) (p upto : Nat) (zero : Bool) (s : State) : State :=
  (sectsOf m p).foldl (fun s x =>
    match sectTarget x.typ with
    | some (base, _, _) =>
      if x.off < upto then
        let n := if zero then x.len else min x.len (upto - x.off)
        { s with mem := putBytes (base + x.dest) n (fun i => if zero then 0#8 else m (x.off + i)) s.mem }
      else s
    | none => s) s

/-- What comes of a slot: an error code, a wait for an address, or the chosen personality. -/
inductive Attempt where
  | fail (code : Nat) (s : State) | wait | good (p : Nat) (s : State)

/-- The state that an attempt leaves, from `s`. -/
def Attempt.state (a : Attempt) (s : State) : State :=
  match a with
  | .fail _ t => t
  | .wait => s
  | .good _ t => t

/-- A slot is checked in the order of R64, loaded and verified; a failure after step 8 has begun writes zero to what was written
(R66). -/
def attempt (k : Nat) (late : Bool) (s : State) : Attempt :=
  let m := slotImg k s
  if k ≠ 2 ∧ noFlash s then .fail 1 s
  else
    let e := headerError m s.lcs.fuses
    if e ≠ 0 then .fail e s
    else if !tablesOk m then .fail 9 s
    else match choose m late s with
      | .wait => .wait
      | .none => .fail 0xA s
      | .entry p =>
        let upto := slotEnd k s
        let t := loadSects m p upto false (if k = 2 then s else streamMode (natBit (hFlags m) 0) s)
        if upto < hLen m then .fail 0xB (loadSects m p upto true t)
        else if !signatureOk m then .fail 0xC (loadSects m p upto true t)
        else .good p t

-- LIMP (R75)

/-- The error code of slot `k` (2: a relay round, R77). -/
def setErr (k code : Nat) (s : State) : State :=
  if k = 1 then s.set F.SYS_BOOTSTAT_ERRB code else s.set F.SYS_BOOTSTAT_ERRA code

/-- The unit enters LIMP (R75): every pin but those of the QSPI port is in its reset state, nFAULT is low, and no processor runs. -/
def limp (s : State) : State :=
  let s := forEach 93 (fun i s => s.setWord (R.PIN_CFG i) (R.PIN_CFG i).rst) s
  let s := forEach 4 (fun k s => (s.setWord (R.PIN_GPOUT k) 0#32).setWord (R.PIN_GPOE k) 0#32) s
  let s := s.updBoot (fun b => { b with wait := none, rest := [], image := [] })
  relayAnswerHeld (faultSummary (idPage (s.set F.SYS_BOOTSTAT_STATE 9)))

/-- LIMP with its causes. -/
def limpWith (a b : Nat) (s : State) : State := limp ((s.set F.SYS_BOOTSTAT_ERRA a).set F.SYS_BOOTSTAT_ERRB b)

-- Steps 10 to 12

/-- The configuration section of a type. -/
def configOf (m : Img) (p t : Nat) : Option Section :=
  ((sectsOf m p).find? (fun x => x.typ == t)).map (fun x => { len := x.len, byte := fun i => m (x.off + i) })

/-- The reset kept RAM (R49, R67): WDR or SOFT. -/
def warmReset (s : State) : Bool := decide (4 ≤ s.get F.SYS_RSTCAUSE_LAST)

/-- A configuration section is applied where the image has one and none before it was rejected. -/
def applySect (c : Option Section) (f : Section → State → Option State) (o : Option State) : Option State :=
  match o with
  | none => none
  | some s => match c with
    | none => some s
    | some c => f c s

/-- The end of step 10 (R67, R402): the parameter area and the image's protocol version. -/
def configureEnd (m : Img) (p : Nat) (s : State) : State :=
  let own := imgNum m 0xA 1 * 16 + imgNum m 0xB 1
  withHello (fun s => idPage (quarUpdate (quarAddress s) (s.set F.CHN_VERS_OWN own)))
    (settleArea (warmReset s) (hEpoch m) (imgNum m (0x304 + 16 * p) 4) (configOf m p 0x48) s)

/-- Step 10 (R67, R68): the sections in their order, none where one is rejected. An absent section leaves the reset values. -/
def configure (m : Img) (p : Nat) (s : State) : Option State :=
  let c := configOf m p
  let o := applySect (c 0x43) applyCidcfg (some s)
  let o := applySect (c 0x40) applyPincfg (applySect (c 0x45) applyMbxcfg (applySect (c 0x44) applySemcfg o))
  let o := applySect (c 0x41) applyPwmcfg (applySect (c 0x42) applyAdccfg (applySect (c 0x46) applyChaincfg o))
  (applySect (c 0x47) applyPolicy o).map (configureEnd m p)

/-- WD0 starts at step 12 where the fuse says so (R474). -/
def wdAuto (s : State) : State :=
  if s.lcs.fuses.wdAuto then
    let s := ((s.set (F.LCS_WDnWIN_WINLO 0) 0).set (F.LCS_WDnWIN_WINHI 0) 1563).set (F.LCS_WDnCTL_KCID 0) 1
    wdEnable 0 (s.set (F.LCS_WDnCTL_LOCK 0) 0)
  else s

/-- Yarrow starts in Machine mode at YENTRY (R68, R164), or halts for the debugger (R190). -/
def yarStart (entry : Nat) (s : State) : State :=
  let d := s.yar.dbg
  let s := { s with yar := { run := true, pc := BitVec.ofNat 32 entry, dbg := { d with resetHalt := false, haltReq := false, prog := [] } } }
  if d.resetHalt then debugEnter 5 s else s

/-- Step 12 (R46, R68, R493, R320, R340, R39, R438, R474): boot lock, identity page, release. -/
def release (k : Nat) (m : Img) (p : Nat) (s : State) : State :=
  let on := fun (t : Nat) (f : Section → State → State) (s : State) =>
    match configOf m p t with
    | none => s
    | some c => f c s
  let s := bandsCheck { s with bootLock := true }
  let s := (s.setWord R.SYS_IMAGEID (BitVec.ofNat 32 (hImageid m))).set F.SYS_VERS_EPOCH (hEpoch m)
  let s := s.set F.SYS_VERS_IMGROLL (hRollback m)
  let s := s.setWord R.SYS_BOOTTIME (BitVec.ofNat 32 (s.boot.inp.ticks + (s.tb.cnt.get 10 - s.boot.tick0)))
  let s := (s.set F.SYS_BOOTSTAT_STATE 8).set F.SYS_BOOTSTAT_SLOT (if k = 1 then 1 else 0)
  let s := s.setB F.SYS_BOOTSTAT_RELAY (k == 2)
  let s := s.updLcs (fun l => { l with keySlot := hKeyslot m })
  let s := s.updRelay (fun r => if k = 2 then { r with srcLen := 0, srcOk := false }
    else { r with srcBase := slotBase k s, srcLen := hLen m, srcOk := natBit (hFlags m) 1 })
  let s := faultScan (on 0x42 releaseAdc (on 0x41 releasePwm (on 0x40 releasePins s)))
  let s := windowPut 0x7F0C (BitVec.ofNat 32 (imgNum m (0x304 + 16 * p) 4)) s
  let s := forEach 2 (fun c s => coreStart (coreIx c) (s.updCamp (coreIx c) (fun _ => freshCamp))) s
  let s := wdAuto (yarStart (hEntry m) s)
  let s := govRefresh { s with gov := { s.gov with released := true } }
  let s := s.updBoot (fun b => { b with wait := none, rest := [], image := [] })
  relayAnswerHeld (idPage s).faultEval

/-- Steps 10 to 12 for the chosen slot and personality (R68): a rejected section is LIMP with CONFIG. DESIGN CHOICE (assumption log 76): what
sections before it had set goes with it. -/
def complete (k p : Nat) (s : State) : State :=
  let m := slotImg k s
  let s := s.set F.SYS_BOOTSTAT_PERS p
  match configure m p s with
  | none => limp (setErr k 0xD s)
  | some s => release k m p (setErr k 0 s)

/-- The slots left are tried in order (R65, R66). -/
def trySlots : List Nat → Bool → State → State
  | [], _, s => limp s
  | k :: rest, late, s =>
    match attempt k late s with
    | .wait => s.updBoot (fun b => { b with wait := some k, waitTo := s.now + 20000000, rest := rest })
    | .fail c s => trySlots rest false (setErr k c s)
    | .good p s => complete k p s

/-- The boot that waits for an address goes on (R60). -/
def bootGo (late : Bool) (s : State) : State :=
  match s.boot.wait with
  | none => s
  | some k => trySlots (k :: s.boot.rest) late (s.updBoot (fun b => { b with wait := none, rest := [] }))

/-- What the chain gives a boot under way: an address it waits for, or an UP link for its relay request (DEDUCED: the request of step 6
goes out once the link is up; assumption log 30). -/
def bootPoll (s : State) : State :=
  let s := if s.boot.wait.isSome ∧ ownAddr s ≠ 0 then bootGo false s else s
  if s.get F.SYS_BOOTSTAT_STATE = 4 ∧ s.boot.wait = none ∧ !s.chn.relay.requested ∧ s.chn.relay.joined = none ∧ linkUp 0 s then
    relayRequest s
  else s

/-- PERSONALITY_WAIT_TIMEOUT (R60), 20 ms after step 7. -/
def persTimeout (s : State) : State := if s.boot.waitTo ≤ s.now then bootGo true s else s

/-- RELAYTO_EXPIRY (R73): 5 s have passed from the first request. -/
def relaytoExpire (s : State) : State :=
  if s.get F.SYS_BOOTSTAT_STATE = 4 ∧ s.boot.wait = none ∧ s.chn.relay.firstAt.any (fun t => decide (t + 5000000000 ≤ s.now)) then limpWith 0xE 0x11 s else s

/-- A whole image has come in a relay round (R72, R73): a unit that waits for it, or in LIMP, boots it. DEDUCED (assumption log 30): in LIMP with cause
LIFECYCLE none is loaded (R70). -/
def relayImage (img : List Byte) (s : State) : State :=
  if s.get F.SYS_BOOTSTAT_STATE = 4 ∨ inLimp s ∧ s.get F.SYS_BOOTSTAT_ERRA ≠ 0xF then
    trySlots [2] false (s.updBoot (fun b => { b with image := img }))
  else s

/-- RELAYEND (R422). -/
def relayEnd (f : Frame) (s : State) : State :=
  match onRelayend f s with
  | (some img, s) => relayImage img s
  | (none, s) => s

-- The sequence (R46)

/-- The majority of three samples (R44). -/
def majority (v : Vector (BitVec 5) 3) : BitVec 5 :=
  (v.get 0 &&& v.get 1) ||| (v.get 0 &&& v.get 2) ||| (v.get 1 &&& v.get 2)

/-- The acknowledgements are programmed (R464). -/
def wipeAck (s : State) : State :=
  s.updLcs (fun l =>
    let g := { l.fuses with lcsAck := l.fuses.lcsAck ||| l.fuses.lcs, tack := l.fuses.tack ||| l.fuses.tset }
    { l with fuses := g, bootRead := g })

/-- Step 4 (R48, R464): the wipe, and the acknowledgement of what asked for it. Answers whether the boot may go on. -/
def bootWipe (ok : Bool) (s : State) : Bool × State :=
  let f := s.lcs.fuses
  let st := lifeState s
  if f.lcs = f.lcsAck ∧ f.tset = f.tack ∧ st ≠ 3 ∧ st ≠ 4 then (true, s)
  else
    let s := wipeFinish ok s
    if ok then (true, fuseRegs (wipeAck s)) else (false, s)

/-- The four sequencers' banks, each group in ascending order (R245). -/
def marchGroups : List (List Nat) :=
  [List.range 16, (List.range 8).map (0x10 + ·), (List.range 9).map (0x20 + ·) ++ (List.range 9).map (0x30 + ·),
   [0x40, 0x41, 0x42, 0x43]]

/-- Does the start-up march run transparently on bank `b` (R49)? -/
def marchesClear (warm : Bool) (b : Nat) : Bool := warm && (b == 0x0F || b == 0x42)

/-- The services of a run (R248). -/
def marchServices (warm : Bool) (b : Nat) : Nat := (if marchesClear warm b then 9 else 10) * bankWords b

/-- The runs of the start-up march: each bank with the service of its group at which its run begins. -/
def startupRuns (warm : Bool) : List (Nat × Nat) :=
  marchGroups.flatMap (fun g =>
    (g.foldl (fun (p : List (Nat × Nat) × Nat) b => (p.1 ++ [(b, p.2)], p.2 + marchServices warm b)) ([], 0)).1)

/-- The service at which the run of bank `b` begins. -/
def runStart (warm : Bool) (b : Nat) : Nat := ((startupRuns warm).find? (fun r => r.1 == b)).elim 0 (·.2)

/-- The service of a destructive run at which element `e` reads word `w` (R245). -/
def marchOp (b e w : Nat) : Nat :=
  let n := bankWords b
  if e ≤ 1 then w
  else if e = 6 then 9 * n + w
  else n * (2 * e - 3) + 2 * (if 4 ≤ e then n - 1 - w else w)

/-- The service at which a given failure happens: in a transparent run, at the end of its segment. -/
def failService (warm : Bool) (b : Nat) (f : MarchFail) : Nat :=
  runStart warm b + (if marchesClear warm b then 576 * (f.word / 64 + 1) else marchOp b f.elem f.word)

/-- A failure found, with its bank, and the service at which every sequencer stops for it (R249). -/
abbrev MarchStop := Option (Nat × MarchFail × Nat)

/-- Is service `t` reached before the sequencers stop? -/
def reached (stop : MarchStop) (t : Nat) : Bool := stop.all (fun x => decide (t < x.2.2))

/-- The transparent part of the start-up march on one bank (R49, R246): its segments until the sequencers stop. -/
def startupTransparent (b : Nat) (p : MarchStop × State) : MarchStop × State :=
  let t0 := runStart true b
  forEach (bankWords b / 64) (fun i p =>
    if !reached p.1 (t0 + 576 * i) then p
    else
      let r := marchSegmentRun { bank := b, transparent := true, seg := i, cefail := p.2.on F.MEM_MARCHCTL_CEFAIL } [] p.2
      match r.1 with
      | some f => (some (b, f, t0 + 576 * (i + 1)), r.2)
      | none => (p.1, r.2)) p

/-- What the start-up march leaves in a bank that it tests destructively (R245, R247): zero; undefined where the sequencers stopped during
its run; where they stopped before it, what the reset left, which after POR is undefined. -/
def startupBank (stop : MarchStop) (cold : Bool) (s : State) (r : Nat × Nat) : State :=
  if reached stop (r.2 + marchServices false r.1) then { s with mem := clearBank r.1 s.mem }
  else if cold || reached stop r.2 || stop.any (fun x => x.1 == r.1) then
    { s with mem := loseBank r.1 s.memCtl.epoch s.mem, memCtl := { s.memCtl with epoch := s.memCtl.epoch + 1 } }
  else s

/-- What the start-up march found, into its status (R249); the scrubber is to start from word 0 of bank 0x00 (R251). -/
def startupEnd (stop : MarchStop) (s : State) : Bool × State :=
  let s := { s with memCtl := { s.memCtl with scrubBank := 0, scrubWord := 0, scrubTick := 0 } }
  match stop with
  | some (b, f, _) => (false, marchFailed f (s.set F.MEM_MARCHSTAT_FAILBANK b))
  | none => (true, (s.set F.MEM_MARCHSTAT_DONE 1).raise 0x23)

/-- The start-up march (R49, R247, R249), with the failure that the outside gives. The sequencers run in parallel at one operation a service
time, so the secure bank's run ends before that of bank 0x0F begins. Answers whether it found no failure. -/
def startupMarch (given : Option (Nat × Nat × Nat × Nat × BitVec 39)) (s : State) : Bool × State :=
  let warm := warmReset s
  let stop : MarchStop := given.map (fun g =>
    let f : MarchFail := { kind := g.2.1, word := g.2.2.1, elem := g.2.2.2.1, xor := g.2.2.2.2 }
    (g.1, f, failService warm g.1 f))
  let s := marchClear 0 s
  let r := if warm then startupTransparent 0x0F (startupTransparent 0x42 (stop, s)) else (stop, s)
  let runs := (startupRuns warm).filter (fun x => !marchesClear warm x.1)
  startupEnd r.1 (runs.foldl (startupBank r.1 (s.get F.SYS_RSTCAUSE_LAST == 1)) r.2)

/-- Steps 1 to 3 of the boot (R44, R46, R460): the straps, the head role, the two reads of the fuses. -/
def bootStart (b : BootIn) (s : State) : State :=
  let s := (s.set F.SYS_BOOTCTL_TRYB 0).updBoot (fun _ => { inp := b, tick0 := s.tb.cnt.get 10 })
  let s := s.setWord R.SYS_STRAP ((majority b.straps).setWidth 32)
  let s := withHello (fun s => s.setB F.CHN_ADDR_HEAD (s.on F.SYS_STRAP_HEAD)) s
  let s := s.updLcs (fun l => { l with bootRead := l.fuses })
  fuseRegs (s.set F.LCS_STATE_STATE (decodeLcs s.lcs.fuses))

/-- No slot has been attempted yet (R78). -/
def notTried (s : State) : State := (s.set F.SYS_BOOTSTAT_ERRA 0x11).set F.SYS_BOOTSTAT_ERRB 0x11

/-- Steps 6 on (R46, R70, R71): the slots, or the wait for a relay round. -/
def bootSource (tryb : Bool) (s : State) : State :=
  if s.on F.SYS_STRAP_BOOTSRC then
    trySlots (if tryb then [1, 0] else [0, 1]) false (discover (idPage ((notTried s).set F.SYS_BOOTSTAT_STATE 3)))
  else relayRequest (idPage ((notTried s).set F.SYS_BOOTSTAT_STATE 4))

/-- BOOT_SEQUENCE (R46): from the state after a reset to release, LIMP, or a wait for an address or a relay round. The fuses are read twice
(R460); BLANK and SPENT load no image (R70). DESIGN CHOICE (assumption log 77): after reads that differ there is no wipe but still the
start-up march, and where LIFECYCLE and MARCH both hold, ERRA shows LIFECYCLE. -/
def bootSequence (b : BootIn) (s : State) : State :=
  if s.get F.SYS_BOOTSTAT_STATE ≠ 0 ∨ s.boot.wait.isSome then s
  else
    let u := bootStart b s
    let w := if b.fusesAgree then bootWipe b.wipeOk u else (false, u)
    let r := startupMarch b.march w.2
    let t := forEach 14 gainLock r.2
    let st := lifeState t
    if !w.1 ∨ st = 0 ∨ st = 4 then limpWith 0xF 0x11 t
    else if !r.1 then limpWith 0x10 0x11 t
    else bootSource (s.on F.SYS_BOOTCTL_TRYB) t

end Sys2Proof.Machine
end

