-- ==== Sys2Proof/Machine/DmaOps.lean ====
section
/-!
DEFINITION. DMA elements and the end of a descriptor (R102, R103, R518).
-/
namespace Sys2Proof.Machine

/-- The next address of a descriptor: fixed, by the element size, or by the signed stride (R101). -/
def dmaStep (mode size : Nat) (stride : BitVec 16) (a : Word) : Word :=
  if mode = 1 then a + BitVec.ofNat 32 size else if mode = 2 then a + stride.signExtend 32 else a

/-- The bytes of an element. -/
def dmaSize (n : Fin 8) (s : State) : Nat := 2 ^ fieldOf 0 2 (dmaWord n 0 s)

/-- The end of a descriptor (R102 steps 5 and 6). -/
def dmaDescEnd (n : Fin 8) (s : State) : State :=
  let w0 := dmaWord n 0 s
  let next := dmaWord n 5 s
  let s := dmaWriteBack n 0 true s
  let s := if fieldOf 13 1 w0 = 1 then s.raise (0x80 + n.val) else s
  if next = 0#32 then (dmaStop n s).set (F.DMA_CHnSTAT_DONE n) 1
  else (s.set (F.DMA_CHnCUR_ADDR n) next.toNat).setDma n { fetching := true, queue := (s.dma.get n).queue }

/-- The element is done: counts, addresses, and what follows. -/
def dmaElemDone (n : Fin 8) (s : State) : State :=
  let c := s.dma.get n
  let w0 := dmaWord n 0 s
  let st := dmaWord n 4 s
  let size := dmaSize n s
  let left := s.get (F.DMA_CHnSTAT_REMAIN n) - 1
  let s := (s.set (F.DMA_CHnSTAT_REMAIN n) left).setDma n { c with
    remote := false, done := c.done + 1, block := c.block - 1
    src := dmaStep (fieldOf 2 2 w0) size (st.extractLsb' 0 16) c.src
    dst := dmaStep (fieldOf 4 2 w0) size (st.extractLsb' 16 16) c.dst }
  if c.abort then dmaError n 5 none s
  else if left = 0 then dmaDescEnd n s
  else dmaNextBlock n s

/-- The element's data has been read: its write (R102 step 4). DESIGN CHOICE (assumption log 79): ERRADDR is the element's address also where
the second word of a 64-bit element is refused. -/
def dmaPut (n : Fin 8) (d : DWord) (s : State) : State :=
  let c := s.dma.get n
  let s := s.setDma n { c with remote := false }
  match fabric (.dmaWrite n) (dmaWho n) true c.dst.toNat (dmaSize n s) d.toNat s with
  | (.ans (.ok _), s) => dmaElemDone n s
  | (.ans (.refused _), s) => dmaError n 3 (some c.dst.toNat) s
  | (.wait, s) => s.setDma n { s.dma.get n with remote := true }

/-- DMA_ELEMENT (R102, R103). -/
def dmaElement (n : Fin 8) (s : State) : State :=
  let c := s.dma.get n
  if !s.on (F.DMA_CHnCTL_EN n) ∨ c.fetching ∨ c.block = 0 ∨ c.remote then s
  else match fabric (.dmaRead n) (dmaWho n) false c.src.toNat (dmaSize n s) 0 s with
    | (.ans (.ok d), s) => dmaPut n d s
    | (.ans (.refused _), s) => dmaError n 2 (some c.src.toNat) s
    | (.wait, s) => s.setDma n { s.dma.get n with remote := true }

/-- A chain request of channel `n` ends. -/
def dmaRemoteDone (n : Fin 8) (write : Bool) (res : Option DWord) (s : State) : State :=
  let c := s.dma.get n
  match write, res with
  | false, some d => dmaPut n d s
  | false, none => dmaError n 2 (some c.src.toNat) s
  | true, some _ => dmaElemDone n s
  | true, none => dmaError n 3 (some c.dst.toNat) s

end Sys2Proof.Machine
end

