-- ==== Sys2Proof/Machine/CampOps.lean ====
section
/-!
DEFINITION. The issue of a Campion bundle: fetch, accesses to its own memories, the near peripherals and the window mirror, results
in flight, loops, delay slots and levels (R87 to R89, R109 to R120, R123, R124, R148).
-/
namespace Sys2Proof.Machine

/-- The byte address of P syllable `a` of core `c` (R123). -/
def sylAddr (c : Fin 2) (a : Nat) : Nat := 0x30000000 + c.val * 0x1000000 + 4 * (a % 16384)

/-- The accessor of context `k` of core `c`. -/
def campWho (c : Fin 2) (k : Nat) (fetch : Bool := false) : Who := { cid := ctxCid c k, fetch := fetch }

/-- A refused access of core `c` (R92, R93, R124): logged with the Campion word address. -/
def campRefuse (c : Fin 2) (who : Who) (write : Bool) (ea : Nat) (cause : Cause) (s : State) : State :=
  (busErr who write ea cause s).raise (0xFE + c.val)

/-- The syllables of the bundle at `a`, at most `n`: each fetched once (R140, R231, R232). -/
def fetchSyls (c : Fin 2) (k : Nat) : Nat → Nat → List (Option Word) → State → List (Option Word) × State
  | 0, _, ws, s => (ws, s)
  | n + 1, a, ws, s =>
    match ramReadWord (campWho c k true) 1 (sylAddr c a) s with
    | (some w, s) =>
      if w.getLsbD 31 then (ws ++ [some w], s) else fetchSyls c k n (a + 1) (ws ++ [some w]) s
    | (none, s) => (ws ++ [none], campRefuse c (campWho c k true) false (a % 16384) .ecc s)

/-- The bundle at `a` is fetched. A fetch that the P bank refuses with BUSY (R240, R245) is logged and ends the bundle as an uncorrectable one
does (DEDUCED, assumption log 70). -/
def fetchBundle (c : Fin 2) (k a : Nat) (s : State) : List (Option Word) × State :=
  let r := bankReady (sylAddr c a) s
  if r.1 then fetchSyls c k 6 a [] r.2
  else ([none], campRefuse c (campWho c k true) false (a % 16384) .busy r.2)

/-- Where the bundle after the one at `a` starts, read without effect. -/
def bundleAfter (c : Fin 2) : Nat → Nat → State → Nat
  | 0, a, _ => a
  | n + 1, a, s =>
    match peekWord s.mem (sylAddr c a) with
    | none => a + 1
    | some w => if w.getLsbD 31 then a + 1 else bundleAfter c n (a + 1) s

-- Near peripherals (R87, R88)

/-- The register behind a leg or group word of near space; none where there is none (R319). -/
def nearReg (ea : Nat) : Option Nat :=
  let r :=
    if ea < 0x4200 then
      let l := (ea - 0x4000) / 0x20
      0x50008000 + 0x1000 * (l / 8) + 0x200 + 0x40 * (l % 8) + ea % 0x20 / 2 * 4
    else
      let g := (ea - 0x4200) / 0x40
      0x50008000 + 0x1000 * (g / 2) + 0x80 * (g % 2) + ea % 0x40 / 2 * 4
  if ea < 0x4300 ∧ (regRow? r).isSome then some r else none

/-- A read of a loop-scheduler word (R122, R133). -/
def schedRead (c : Fin 2) (i : Nat) (s : State) : Nat :=
  let x := s.sched.get c
  let b := fun (v : Bool) => if v then 1 else 0
  match i with
  | 0 => x.ctl
  | 1 => x.ofs
  | 2 => b x.pend + 2 * b (x.inst.any (fun i => i.st == .openI)) + 4 * b x.miss + 8 * b x.late + 16 * b x.ovr +
      32 * b x.slkSat + 256 * (x.consec % 16)
  | 3 => bits16 x.slack
  | 4 => bits16 (minSlack x)
  | 5 => x.missCnt % 65536
  | 6 => x.ts % 65536
  | 7 => x.ts / 65536 % 65536
  | 8 => x.per % 65536
  | 9 => x.limit % 16
  | _ => (s.camp.get c).lvlsrc.toList.getD (i - 12) 0

/-- A write of a loop-scheduler word (R133). -/
def schedWrite (c : Fin 2) (i v : Nat) (s : State) : State :=
  match i with
  | 0 => lsctlWrite c v s
  | 1 => s.updSched c (fun x => { x with ofs := v % 65536 })
  | 2 => s.updSched c (fun x => { x with miss := x.miss && !natBit v 2, late := x.late && !natBit v 3,
                                         ovr := x.ovr && !natBit v 4, slkSat := x.slkSat && !natBit v 5 })
  | _ => s

/-- The answer of a result-port word. -/
def nearOk (r : Nat × State) : (Except Cause Nat) × State := (.ok r.1, r.2)

/-- The answer of a semaphore word. -/
def nearAns (r : Word × State) : (Except Cause Nat) × State := (.ok (r.1.toNat % 65536), r.2)

/-- A 16-bit access to a near-space word other than a leg's or group's: data or cause. -/
def nearWord (c : Fin 2) (k : Nat) (write : Bool) (ea v : Nat) (s : State) : (Except Cause Nat) × State :=
  let cid := ctxCid c k
  if 0x4400 ≤ ea ∧ ea < 0x4500 then
    if write then (.error .ro, s)
    else
      let i := ea - 0x4400
      nearOk (portRead c.val (i / 64) (i / 4 % 16) (i % 4) s)
  else if 0x4800 ≤ ea ∧ ea < 0x4810 ∧ !(0x480A ≤ ea ∧ ea ≤ 0x480C) then
    if write then (.ok 0, schedWrite c (ea - 0x4800) v s) else (.ok (schedRead c (ea - 0x4800) s), s)
  else if 0x4900 ≤ ea ∧ ea < 0x4980 then
    nearAns (semPort (if write then .give else .try_) write (ea - 0x4900) cid s)
  else if 0x4A00 ≤ ea ∧ ea < 0x4A04 then
    (.ok 0, if write then s.raise (0xF0 + 4 * c.val + v % 4) else s)
  else (.error .unmapped, s)

/-- An access of one or two words to near space (R87, R88); the semaphore words take one word only (R259). -/
def nearAccess (c : Fin 2) (k : Nat) (write : Bool) (ea size v : Nat) (s : State) : (Except Cause Nat) × State :=
  if ea < 0x4300 then
    match nearReg ea with
    | none => (.error .unmapped, s)
    | some a =>
      if ea < 0x4200 ∧ !legOwnedBy c.val ((ea - 0x4000) / 0x20) s then (.error .deny, s)
      else
        let sh := 16 * (ea % 2)
        if write then
          let r := regWrite (ctxCid c k) a (BitVec.ofNat 32 (v * 2 ^ sh)) (if size = 2 then 15 else if ea % 2 = 0 then 3 else 12) s
          match r with
          | (.ok _, s) => (.ok 0, s)
          | (.refused x, s) => (.error x, s)
        else
          match regRead (ctxCid c k) a s with
          | (.ok d, s) => (.ok (if size = 2 then d.toNat else d.toNat / 2 ^ sh % 65536), s)
          | (.refused x, s) => (.error x, s)
  else if size ≠ 1 ∧ 0x4900 ≤ ea ∧ ea < 0x4980 then (.error .align, s)
  else
    match nearWord c k write ea (v % 65536) s with
    | (.error x, s) => (.error x, s)
    | (.ok lo, s) =>
      if size = 1 then (.ok lo, s)
      else match nearWord c k write (ea + 1) (v / 65536) s with
        | (.error x, s) => (.error x, s)
        | (.ok hi, s) => (.ok (lo + 65536 * hi), s)

/-- A data access of a context (R87 to R89, R123, R124), a refusal logged. -/
def campAnswer (c : Fin 2) (k : Nat) (m : CMem) (s : State) : Ans × State :=
  let who := campWho c k
  let bytes := 2 * m.size
  let finish := fun (r : Ans × State) =>
    match r with
    | (.ok d, s) => (Ans.ok d, s)
    | (.refused x, s) => (.refused x, campRefuse c who m.write m.ea x s)
  if (if m.y then decide (0x8000 ≤ m.ea) else decide (0x6000 ≤ m.ea)) then finish (.refused .unmapped, s)
  else if m.size = 2 ∧ m.ea % 2 = 1 then finish (.refused .align, s)
  else if m.ea < 0x4000 then
    let a := 0x30010000 + c.val * 0x1000000 + (if m.y then 0x8000 else 0) + 2 * m.ea
    finish (if m.write then ramWrite who a bytes m.val s else ramRead who 0 a bytes s)
  else if m.y then finish (windowAccess1 who m.write (2 * (m.ea - 0x4000)) bytes m.val s)
  else
    match nearAccess c k m.write m.ea m.size m.val s with
    | (.ok d, s) => (.ok (BitVec.ofNat 64 d), s)
    | (.error x, s) => finish (.refused x, s)

/-- A data access of a bundle: the data, none where it was refused. -/
def campAccess (c : Fin 2) (k : Nat) (m : CMem) (s : State) : Option Nat × State :=
  match campAnswer c k m s with
  | (.ok d, s) => (some d.toNat, s)
  | (.refused _, s) => (none, s)

/-- The accesses of a bundle in slot order, and the results of its loads (R148). -/
def campAccesses (c : Fin 2) (k : Nat) : List CMem → State → List (CReg × Nat × Nat × Nat × Nat) × State
  | [], s => ([], s)
  | m :: ms, s =>
    let r := campAccess c k m s
    let rest := campAccesses c k ms r.2
    match m.dest with
    | none => rest
    | some g =>
      let v := r.1.getD 0
      let v := match g with
        | .d _ => if m.size = 1 then ((BitVec.ofNat 16 v).signExtend 32).toNat else v
        | _ => v
      (cput g v 2 m.slot :: rest.1, rest.2)

-- Flow (R112, R114 to R116, R120)

/-- The loops at the end of the bundle at `start` (R114): where execution goes, and the loops left. -/
def loopEnd (start : Nat) : List Loop → Nat → Nat × List Loop
  | [], nxt => (nxt, [])
  | l :: ls, nxt =>
    if l.le ≠ start then (nxt, l :: ls)
    else if 1 < l.lc then (l.ls, { l with lc := l.lc - 1 } :: ls)
    else loopEnd start ls nxt

/-- The flow after a bundle of context `k`: next address, loops, delay slots, repetitions. -/
def campFlow (c : Fin 2) (k : Fin 4) (start nxt0 : Nat) (ctrl : Option Ctrl) (s : State) : State :=
  let x := s.camp.get c
  let g := x.regs.get k
  let repeating := decide (1 < x.rep)
  let nxt := if repeating then start else nxt0
  let rep := match ctrl with
    | some (.rep n) => n
    | _ => x.rep - 1
  let r : Nat × List Loop := match ctrl with
    | some (.doLoop n le) => if n = 0 then (bundleAfter c 6 le s, g.loops) else (nxt, ⟨n, nxt0, le⟩ :: g.loops)
    | some .endDo => (nxt, g.loops.drop 1)
    | _ => (nxt, g.loops)
  let r := if repeating then r else loopEnd start r.2 r.1
  let done : Option Delay := match x.delay with
    | some d => if d.left ≤ 1 then some d else none
    | none => none
  let nxt := match done with
    | some d => d.target.getD r.1
    | none => r.1
  let delay : Option Delay := match ctrl with
    | some (.branch t) => some ⟨2, t, false⟩
    | some .reti => some ⟨2, none, true⟩
    | _ => match x.delay with
      | some d => if d.left ≤ 1 then none else some { d with left := d.left - 1 }
      | none => none
  let s := s.updCamp c (fun x => { x with
    rep := rep, delay := delay
    regs := vupd x.regs k (fun g => { g with pc := BitVec.ofNat 14 nxt, loops := r.2 }) })
  if done.any (·.reti) then
    s.updCamp c (fun x => match x.stack with
      | p :: rest => { x with ctx := p, stack := rest, back := true }
      | [] => x)
  else s

/-- What a bundle's WAIT or COMMIT does once it has ended (R129, R132). -/
def bundleEnd (c : Fin 2) (cid : Nat) (o : Option Ctrl) (s : State) : State :=
  match o with
  | some .wait =>
    if (s.sched.get c).pend then s.updSched c (fun y => { y with pend := false })
    else s.updSched c (fun y => { y with inWait := true })
  | some (.commit gr) => commitBy cid gr s
  | _ => s

/-- The fetched syllables `f` run as one bundle of the core as `x` holds it (R110, R111, R140). -/
def bundleRun (c : Fin 2) (x : Camp) (f : List (Option Word)) (s : State) : State :=
  let k := x.ctx
  let g := x.regs.get k
  let start := g.pc.toNat
  let nxt := (start + f.length) % 16384
  let at_ : CAt := { k := k.val, x := g, pend := x.pend, inDelay := x.delay.isSome
                     atLe := g.loops.any (fun l => l.le == start), repeated := decide (0 < x.rep), start := start
                     link := bundleAfter c 6 (bundleAfter c 6 nxt s) s % 16384 }
  let o := execSyls at_ f none {}
  let a := campAccesses c k.val o.mems s
  let r := resolve (o.writes ++ a.1)
  let ill := o.ill || r.2
  let ws := r.1 ++ (if ill then [cflags [(srILL, true)] 1 6] else [])
  let b := x.bundle
  let s := a.2.updCamp c (fun x => { x with pend := x.pend ++ ws.map (fun w =>
    { reg := w.1, mask := w.2.1, val := w.2.2.1, slot := w.2.2.2.2, issued := b, due := b + w.2.2.2.1, ctx := k.val }) })
  let s := if ill then s.set (F.SYS_CPnSTAT_ILL c.val) 1 else s
  let s := campFlow c k start nxt o.ctrl s
  bundleEnd c (ctxCid c k.val) o.ctrl (s.updCamp c nextBundle)

/-- BUNDLE_ISSUE (R109 to R116). It takes place only where the core runs and no level is to start; the bundle after a RETI's delay
slots is the switch back (R120). -/
def bundleIssue (c : Fin 2) (s : State) : State :=
  let x := s.camp.get c
  if !x.run then s
  else
    let s := noteLevels c s
    if boundaryOpen x ∧ (levelReady c s).isSome then s
    else if x.back then s.updCamp c (fun x => { nextBundle x with back := false })
    else if x.ctx = 0 ∧ (s.sched.get c).inWait then s
    else
      let f := fetchBundle c x.ctx.val (x.regs.get x.ctx).pc.toNat s
      bundleRun c x f.1 f.2

end Sys2Proof.Machine
end

