-- ==== Sys2Proof/Machine/SvcOps.lean ====
section
/-!
DEFINITION. Service points of the shared resources: capture, the winner of R14, and accesses served together (R13 to R16, R234, R235,
R239, R520).
-/
namespace Sys2Proof.Machine

def reqWho (r : SvcReq) : Who :=
  { cid := r.cid.toNat, origin := r.origin.toNat, fetch := r.fetch, ctm := r.ctm, party := (r.ocid.toNat, r.epri.toNat) }
def reqSize (r : SvcReq) : Nat := 2 ^ r.sz.val
def reqValue (r : SvcReq) : Nat := r.value.toNat % 256 ^ reqSize r

/-- The core of a Campion context's request, which addresses words of its own spaces (R87, R123). -/
def reqCore (r : SvcReq) : Option (Fin 2) := if r.viaB then none else cidCore r.cid.toNat

/-- The word a Campion context's request names, and whether it lies in Y space. -/
def campWord (r : SvcReq) : Nat := r.addr.toNat % 65536
def campY (r : SvcReq) : Bool := natBit r.addr.toNat 16

/-- The Yarrow byte address of the RAM that a Campion context's request reaches: its own memories, or the window through Y space (R89,
R123); 0 for a near peripheral. -/
def campByte (c : Fin 2) (r : SvcReq) : Nat :=
  let w := campWord r
  if r.fetch then sylAddr c w
  else if w < 0x4000 then 0x30010000 + c.val * 0x1000000 + (if campY r then 0x8000 else 0) + 2 * w
  else if campY r then winAddr (2 * (w - 0x4000))
  else 0

/-- The Yarrow byte address of a request; port B reaches the shared window only. -/
def reqAddr (r : SvcReq) : Nat :=
  match reqCore r with
  | some c => campByte c r
  | none => if r.viaB then winAddr (r.addr.toNat % 0x8000) else r.addr.toNat

/-- The group of semaphore `k` (R255). -/
def groupOf (k : Nat) : Resource := .group ⟨k / 16 % 8, Nat.mod_lt _ (by decide)⟩

/-- Is the byte address a word that the sharing hardware answers in place of the array (R237)? -/
def sharingWord (a : Nat) : Bool :=
  decide (0x40007C00 ≤ a ∧ a < 0x40007D00) || decide (0x40007D00 ≤ a ∧ a < 0x40007F00 ∧ a % 16 < 4)

/-- The resource of a byte address: the group of a semaphore word or port, the doorbells, the pool's operations, the event router, or the
bank of a RAM word. Other registers have no arbiter. -/
def resourceAt (a v : Nat) : Option Resource :=
  if 0x40007C00 ≤ a ∧ a < 0x40007C80 then some (groupOf (96 + (a - 0x40007C00) / 4))
  else if 0x40007D00 ≤ a ∧ a < 0x40007F00 ∧ a % 16 < 4 then some .bells
  else if 0x50005000 ≤ a ∧ a < 0x50005400 then some (groupOf ((a - 0x50005000) / 4 % 128))
  else if a = 0x50005C04 then some (groupOf (v % 128))
  else if (0x50006200 ≤ a ∧ a < 0x50006210) ∨ a = 0x50006218 then some .pool
  else if 0x50002000 ≤ a ∧ a < 0x50003000 then some .router
  else (bankOf a).map (fun b => .bank ⟨b % 68, Nat.mod_lt _ (by decide)⟩)

/-- The resource a request is for (R14); none where it meets no arbiter. -/
def resourceOf (r : SvcReq) : Option Resource :=
  match reqCore r with
  | some c =>
    if !r.fetch ∧ !campY r ∧ 0x4900 ≤ campWord r ∧ campWord r < 0x4980 then some (groupOf (campWord r - 0x4900))
    else resourceAt (campByte c r) 0
  | none =>
    match resourceAt (reqAddr r) (reqValue r) with
    | some (.bank b) => some (if r.viaB then .portB else .bank b)
    | q => q

/-- The requests pending at a resource, in order of arrival. -/
def pendingAt (q : Resource) (s : State) : List SvcReq := (s.svc.pending.filter (fun e => e.1 == q)).map (·.2)

/-- The access of a Campion context (R87 to R89, R123): its own memories and near peripherals are reached without a region check. -/
def campServe (c : Fin 2) (r : SvcReq) (s : State) : State :=
  let k := (r.cid.toNat - 17) % 4
  if r.fetch then
    match ramReadSmall (campWho c k true) 1 (campByte c r) 4 s with
    | (.ok d, s) => s.answer d.toNat
    | (.refused x, s) => (campRefuse c (campWho c k true) false (campWord r % 16384) x s).answerRefused x.code
  else match campAnswer c k { y := campY r, write := r.write, ea := campWord r, size := max 1 (reqSize r / 2), val := reqValue r,
                              dest := none, slot := 0 } s with
    | (.ok d, s) => s.answer d.toNat
    | (.refused x, s) => s.answerRefused x.code

/-- The march engine and the scrubber reach their words unchecked (R91, R235). -/
def engineServe (r : SvcReq) (s : State) : Ans × State :=
  if r.write then ramWrite (reqWho r) (reqAddr r) (reqSize r) (reqValue r) s
  else ramRead (reqWho r) 3 (reqAddr r) (reqSize r) s

/-- The access of a request, with its answer. -/
def svcAccess (r : SvcReq) (s : State) : State :=
  let put := fun (x : Ans × State) => match x with
    | (.ok d, s) => s.answer d.toNat
    | (.refused c, s) => s.answerRefused c.code
  match reqCore r with
  | some c => campServe c r s
  | none =>
    if r.viaB then put (portB (reqWho r) r.write (r.addr.toNat % 0x8000) (reqSize r) (reqValue r) s)
    else if r.cid = 63 then put (engineServe r s)
    else match fabric .other (reqWho r) r.write (reqAddr r) (reqSize r) (reqValue r) s with
      | (.ans x, s) => put (x, s)
      | (.wait, s) => s

/-- A request arrives: it is pending at its resource, unless the fabric's checks refuse it (R90); with no arbiter it is served at once. -/
def svcArrive (r : SvcReq) (s : State) : State :=
  match resourceOf r with
  | none => svcAccess r s
  | some q =>
    let wait := { s with svc := { s.svc with pending := s.svc.pending ++ [(q, r)] } }
    if r.viaB ∨ r.cid = 63 ∨ (reqCore r).isSome then wait
    else match accessCheck (reqWho r) r.write (reqAddr r) (reqSize r) s with
      | .error c => busErr (reqWho r) r.write (reqAddr r) c s
      | .ok _ => wait

/-- The first request with the least key. -/
def pickMin (key : SvcReq → Nat) (l : List SvcReq) : Option SvcReq :=
  l.foldl (fun b r => match b with
    | none => some r
    | some x => if key r < key x then some r else b) none

/-- Requests in the order of their keys, and of arrival where keys are equal. -/
def inOrder (key : SvcReq → Nat) : Nat → List SvcReq → List SvcReq
  | 0, _ => []
  | n + 1, l => match pickMin key l with
    | none => []
    | some r => r :: inOrder key n (l.erase r)

/-- The place of a CID after a rotating pointer, with data before a fetch of the same CID (R14, R235). -/
def ringKey (ptr : Nat) (r : SvcReq) : Nat := 2 * ((r.cid.toNat + 64 - ptr % 64) % 64) + (if r.fetch then 1 else 0)
def bankPtr (b : Nat) (s : State) : Nat := s.memCtl.ptr.toList.getD b 0

/-- The class of a request in the order of R287: chain responses and relay, processors, DMA, chain requests (DEDUCED, assumption log 71). -/
def classKey (r : SvcReq) : Nat :=
  let c := r.cid.toNat
  if c = 61 then 2 else if 50 ≤ c ∧ c ≤ 57 then 5 else if r.viaB ∨ (58 ≤ c ∧ c ≤ 60) then 6 else 4

/-- Do two requests touch one word? -/
def shareWord (x y : SvcReq) : Bool :=
  decide (reqAddr x / 4 * 4 < reqAddr y + reqSize y ∧ reqAddr y / 4 * 4 < reqAddr x + reqSize x)

/-- The requests captured together with one of resource `q` (R13): both ports of the window are one array. -/
def capturedWith (q : Resource) (s : State) : List SvcReq :=
  if q = .portB ∨ q = .bank 0x40 then pendingAt (.bank 0x40) s ++ pendingAt .portB s else pendingAt q s

/-- A bank's power request that waits for the accesses captured before it (R239). -/
def pwrWaiting (b : Nat) (s : State) : Option (Nat × Nat × Option Nat) := s.memCtl.pwrWait.find? (fun e => e.1 == b)

/-- The requests a bank may serve now: those captured at or before the service point at which a power request takes effect go first. -/
def bankCaptured (b : Fin 68) (s : State) : List SvcReq :=
  match pwrWaiting b.val s with
  | some (_, _, some n) => (pendingAt (.bank b) s).take n
  | _ => pendingAt (.bank b) s

/-- Is this the fetch that is due back to back with the data access of its CID (R235)? -/
def fetchDue (b : Fin 68) (s : State) (r : SvcReq) : Bool := r.fetch && s.svc.fetchDue.contains (b.val, r.cid.toNat)

/-- The effective priority that a semaphore request competes with: its own, or the one a chain request brings (R268). -/
def reqPri (s : State) (r : SvcReq) : Nat := if r.viaB then r.epri.toNat else epri r.cid.toNat s
/-- The CID that breaks a tie: of a chain request the originating one (DEDUCED, assumption log 71). -/
def reqTie (r : SvcReq) : Nat := if r.viaB then r.ocid.toNat else r.cid.toNat

/-- The winner at a service point (R14, R235, R287). -/
def svcWinner (q : Resource) (s : State) : Option SvcReq :=
  let l := pendingAt q s
  match q with
  | .bank b =>
    let l := bankCaptured b s
    (l.find? (fetchDue b s)).or (pickMin (ringKey (bankPtr b.val s)) l)
  | .portB =>
    match pickMin classKey l with
    | none => none
    | some r => (pickMin (ringKey (bankPtr 0x40 s)) ((pendingAt (.bank 0x40) s).filter (shareWord r))).or (some r)
  | .group _ =>
    let near := l.filter (fun r => !r.viaB)
    let far := l.filter (·.viaB)
    pickMin (fun r => (15 - reqPri s r) * 64 + reqTie r) (near ++ far.take 1)
  | .bells =>
    match pickMin (ringKey s.svc.bellPtr) (l.filter (fun r => !r.viaB)) with
    | some r => some r
    | none => l.head?
  | .pool => pickMin classKey l
  | .router => pickMin classKey l

/-- Port A before port B, and the order of R14 from the bank's pointer. -/
def writeKey (s : State) (r : SvcReq) : Nat :=
  if r.viaB then 256 else match bankOf (reqAddr r) with
    | some b => ringKey (bankPtr b s) r
    | none => 0

/-- A pair of writes to one word is counted (R16). -/
def collision (a : Nat) (s : State) : State :=
  ((s.count F.SYS_COLLCNT_COUNT).setWord R.SYS_COLLADDR (BitVec.ofNat 32 a)).raise 0x02

/-- The writes among `others` that touch a word of request `r` in an array, and that are not refused as the state is (R16). -/
def writesWith (r : SvcReq) (others : List SvcReq) (s : State) : List SvcReq :=
  if (bankOf (reqAddr r)).isNone ∨ sharingWord (reqAddr r) then []
  else others.filter (fun x => x.write && shareWord r x && (svcAccess x s).out.cause == 0)

/-- The bank serves the fetch of a CID next, back to back with its data access, and is then past that CID (R235). -/
def noteFetch (r : SvcReq) (others : List SvcReq) (s : State) : State :=
  match resourceOf r with
  | some (.bank b) =>
    let rest := s.svc.fetchDue.filter (fun e => e != (b.val, r.cid.toNat))
    let due := !r.fetch && others.any (fun x => x.fetch && x.cid == r.cid)
    { s with svc := { s.svc with fetchDue := if due then (b.val, r.cid.toNat) :: rest else rest } }
  | _ => s

/-- One captured request is served while `others` stay captured (R16, R234, R235): a read returns what the writes to its words among
them leave; a write with another write to one of its words among them counts a pair. -/
def svcServe (r : SvcReq) (others : List SvcReq) (s : State) : State :=
  let writes := writesWith r others s
  let t := svcAccess r s
  let t := if writes.isEmpty ∨ t.out.cause ≠ 0 then t
    else if r.write then
      collision (match writes with
        | x :: _ => max (reqAddr r / 4 * 4) (reqAddr x / 4 * 4)
        | [] => 0) t
    else
      let after := (inOrder (writeKey t) writes.length writes).foldl (fun s x => svcAccess x s) t
      t.answer (svcAccess r after).out.data.toNat
  noteFetch r others t

/-- The first entry of a resource's queue that holds this request goes. -/
def svcErase (r : SvcReq) (s : State) : State :=
  match resourceOf r with
  | none => s
  | some q => { s with svc := { s.svc with pending := s.svc.pending.erase (q, r) } }

/-- The service point at which a bank's power request takes effect (R239): what is captured here, `more` accesses that are not in the
queue included, is served before it. -/
def pwrCapture (b : Fin 68) (more : Nat) (s : State) : State :=
  match pwrWaiting b.val s with
  | some (_, t, none) =>
    let rest := s.memCtl.pwrWait.filter (fun e => e.1 != b.val)
    { s with memCtl := { s.memCtl with pwrWait := (b.val, t, some ((pendingAt (.bank b) s).length + more)) :: rest } }
  | _ => s

/-- One of the accesses captured before a power request has been served; after the last the transition begins. -/
def pwrServed (b : Fin 68) (s : State) : State :=
  match pwrWaiting b.val s with
  | some (_, t, some n) =>
    let rest := s.memCtl.pwrWait.filter (fun e => e.1 != b.val)
    if n ≤ 1 then pwrBegin b.val t { s with memCtl := { s.memCtl with pwrWait := rest } }
    else { s with memCtl := { s.memCtl with pwrWait := (b.val, t, some (n - 1)) :: rest } }
  | _ => s

/-- The winner among the pending requests is served; `more` are requests captured with them that do not stand in the queue. -/
def serveWith (more : List SvcReq) (q : Resource) (s : State) : State :=
  match svcWinner q s with
  | none => s
  | some r =>
    let s := svcErase r s
    svcServe r (capturedWith q s ++ more) s

/-- The winner of the captured set is served. -/
def serveWinner (q : Resource) (s : State) : State := serveWith [] q s

/-- SERVICE_POINT (R13): requests arrive, the latch closes, and one is served. A hop of an inheritance update that is still to be made goes
before any operation of its group (R267). -/
def servicePoint (q : Resource) (arrivals : List SvcReq) (s : State) : State :=
  let s := arrivals.foldl (fun s r => svcArrive r s) s
  match q with
  | .bank b => pwrServed b (serveWinner q (pwrCapture b 0 s))
  | .group g => if s.share.hops.any (fun h => h.1 / 16 == g.val) then nextHop g.val s else serveWinner q s
  | _ => serveWinner q s

end Sys2Proof.Machine
end

