-- ==== Sys2Proof/Machine/VetOps.lean ====
section
/-!
DEFINITION. The Vetch vector coprocessor (R196 to R228): operands, lanes, masks, reductions, vector memory, run-ahead.
-/
namespace Sys2Proof.Machine

-- Registers and groups (R196 to R199)

def Vet.reg (x : Vet) (n : Nat) : Nat := (x.v.toList.getD (n % 32) 0#2048).toNat
/-- Mask register `n`; K0 reads all ones. -/
def Vet.mask (x : Vet) (n : Nat) : Nat := if n % 8 = 0 then 2 ^ 2048 - 1 else (x.k.toList.getD (n % 8) 0#2048).toNat
/-- The group of `c` registers at `n`, as one number: register `n` lowest. -/
def Vet.group (x : Vet) (n c : Nat) : Nat := (List.range c).foldl (fun v j => v + x.reg (n + j) * 2 ^ (2048 * j)) 0
def Vet.width (x : Vet) : Nat := 8 * 2 ^ x.sew
def Vet.lmul (x : Vet) : Nat := 2 ^ x.g
def Vet.vlmax (x : Vet) : Nat := x.lmul * 2048 / x.width

/-- Element `i` of width `w` of a group. -/
def elt (v w i : Nat) : Nat := v / 2 ^ (i * w) % 2 ^ w
def putElt (v w i e : Nat) : Nat := v - elt v w i * 2 ^ (i * w) + e % 2 ^ w * 2 ^ (i * w)

/-- What an instruction writes: V registers, K registers, accrued flags, and whether it is a floating-point one. -/
structure VOut where
  vw : List (Nat × BitVec 2048) := []
  kw : List (Nat × BitVec 2048) := []
  fl : Nat := 0
  fp : Bool := false
deriving DecidableEq, Repr

/-- A group of `c` registers at `n` becomes `v`. -/
def groupOut (n c v : Nat) : List (Nat × BitVec 2048) :=
  (List.range c).map (fun j => (n + j, BitVec.ofNat 2048 (v / 2 ^ (2048 * j))))

/-- The registers with writes landed; K0 keeps reading all ones. -/
def Vet.land (x : Vet) (vw kw : List (Nat × BitVec 2048)) : Vet :=
  { x with v := vw.foldl (fun v e => v.set! e.1 e.2) x.v, k := kw.foldl (fun k e => k.set! e.1 e.2) x.k }

/-- The registers once the instructions in the window have completed (R201). -/
def Vet.done (x : Vet) : Vet := x.win.foldl (fun x p => x.land p.vw p.kw) x

/-- The registers as a younger instruction sees them: with what waits in the pending-write buffer (R227). -/
def Vet.view (x : Vet) : Vet := x.pend.foldl (fun x p => x.land p.vw p.kw) x.done

/-- Every instruction in the window completes. -/
def vetFinish (s : State) : State := s.updVet (fun x => { x.done with win := [] })

/-- The oldest instruction in the window completes. -/
def vetOldest (s : State) : State :=
  match s.yar.vet.win with
  | [] => s
  | p :: rest => s.updVet (fun x => { x.land p.vw p.kw with win := rest })

-- Encoding (R203 to R205, R215)

def vOp (w : Word) : Nat := wf w 26 6
def vX (w : Word) : Bool := wf w 25 1 == 1
def vVs2 (w : Word) : Nat := wf w 20 5
def vVs1 (w : Word) : Nat := wf w 15 5
def vKm (w : Word) : Nat := wf w 12 3
def vVd (w : Word) : Nat := wf w 7 5

/-- Do the register groups of `c` and `d` registers at `a` and `b` overlap? -/
def overlaps (a c b d : Nat) : Bool := decide (a < b + d ∧ b < a + c)

/-- Operations whose destination has twice the element width (R208, R210) or is VDOT2's. -/
def vWide (op : Nat) : Bool := decide (0x18 ≤ op ∧ op ≤ 0x1C) || op == 0x1F || op == 0x33 || op == 0x34
def vCompare (op : Nat) : Bool := decide (0x20 ≤ op ∧ op ≤ 0x25) || decide (0x2E ≤ op ∧ op ≤ 0x30)
def vReduce (op : Nat) : Bool := decide (0x38 ≤ op ∧ op ≤ 0x3D)
def vFloat (op : Nat) : Bool := decide (0x28 ≤ op ∧ op ≤ 0x34) || op == 0x3C || op == 0x3D
/-- Operations that round under frm. -/
def vRounds (op : Nat) : Bool :=
  decide (0x28 ≤ op ∧ op ≤ 0x2B) || op == 0x31 || op == 0x32 || op == 0x34 || op == 0x3C
/-- Operations of one source, VS1 (DEDUCED for the conversions: VS2 is unused, as in a reduction; assumption log 37). -/
def vUnary (op : Nat) : Bool := vReduce op || op == 0x31 || op == 0x32

/-- Is a custom-1 word legal (R203, R205, R215)? DEDUCED (assumption log 37): a reduction's destination is one register, and the binary16 products
take SEW 16. -/
def vLegal1 (w : Word) (x : Vet) (y : Yar) : Bool :=
  let op := vOp w
  let vd := vVd w
  let vs1 := vVs1 w
  let vs2 := vVs2 w
  let g := x.lmul
  let dg := if vReduce op then 1 else if vWide op then 2 * g else g
  let slide := op == 0x13 || op == 0x14
  vecKnown w && !x.vill &&
  (if vCompare op then vd < 8 && vd != 0 && (vKm w == 0 || vKm w != vd) else vd % dg == 0) &&
  (if op == 0x12 then vs1 == 0 else vs1 % g == 0) &&
  (if vUnary op then vs2 == 0 && !vX w else vX w || vs2 % g == 0) &&
  (!slide || vX w) &&
  (!vFloat op || (x.sew == 1 || x.sew == 2)) &&
  (!(vFloat op) || y.fs != 0#2) && (!(vRounds op) || y.frm.toNat ≤ 4) &&
  (!(op == 0x33 || op == 0x34) || x.sew == 1) &&
  (!vWide op || (g != 8 && x.sew != 3)) &&
  (!(op == 0x1D || op == 0x1E) || x.sew == 0) && (!(op == 0x1F) || x.sew == 1) &&
  (!vWide op || !(overlaps vd (2 * g) vs1 g || (!vX w && overlaps vd (2 * g) vs2 g))) &&
  (!slide || !overlaps vd g vs1 g)

def mClass (w : Word) : Nat := wf w 12 3
def mOp (w : Word) : Nat := wf w 28 4
def mKm (w : Word) : Nat := wf w 25 3

/-- Is a custom-2 word legal (R204, R205, R215)? -/
def vLegal2 (w : Word) (x : Vet) : Bool :=
  let op := mOp w
  let rd := vVd w
  let rs1 := vVs1 w
  let rs2 := vVs2 w
  let g := x.lmul
  match mClass w with
  | 2 => decide (op ≤ 4) && mKm w == 0 && rd < 8 && rd != 0 && rs1 < 8 && (if op = 4 then rs2 == 0 else rs2 < 8)
  | 4 =>
    mKm w == 0 && (match op with
      | 0 => true
      | 1 => rs1 == 0 && rs2 == 0
      | 2 => rd == 0 && rs1 == 0 && rs2 == 0
      | 3 => rd == 0 && rs1 == 0 && rs2 == 0
      | _ => false)
  | 3 =>
    !x.vill && mKm w == 0 && (match op with
      | 0 => rs1 < 8 && rs2 == 0
      | 1 => rs1 < 8 && rs2 == 0
      | 2 => rs2 % g == 0
      | 3 => rs2 % g == 0 && x.sew == 3
      | _ => false)
  | 0 =>
    !x.vill && (match op with
      | 0 => rs2 == 0 && rd % g == 0
      | 1 => rd % g == 0
      | 2 => rs2 % g == 0 && rd % g == 0 && !overlaps rd g rs2 g
      | 3 => rs2 == 0 && mKm w == 0 && rd % g == 0
      | 4 => rs2 == 0 && mKm w == 0 && rd < 8
      | _ => false)
  | 1 =>
    !x.vill && (match op with
      | 0 => rs2 == 0 && rd % g == 0
      | 1 => rd % g == 0
      | 2 => rs2 % g == 0 && rd % g == 0
      | 3 => rs2 == 0 && mKm w == 0 && rd % g == 0
      | 4 => rs2 == 0 && mKm w == 0 && rd < 8
      | _ => false)
  | _ => false

-- Lanes (R207 to R213)

/-- The signed value of an element. -/
def sgn (w v : Nat) : Int := (BitVec.ofNat w v).toInt
def wrapAt (w : Nat) (v : Int) : Nat := (v % 2 ^ w).toNat
def clampAt (w : Nat) (v : Int) : Nat := wrapAt w (max (-(2 ^ (w - 1))) (min (2 ^ (w - 1) - 1) v))

/-- The element-wise integer operations 0x00 to 0x10 (R207): `d` is VD[i]. -/
def vInt (op w a b d : Nat) : Nat :=
  let sa := sgn w a
  let sb := sgn w b
  let k := b % w
  match op with
  | 0x00 => (a + b) % 2 ^ w
  | 0x01 => wrapAt w ((a : Int) - b)
  | 0x02 => clampAt w (sa + sb)
  | 0x03 => clampAt w (sa - sb)
  | 0x04 => if sb < sa then b else a
  | 0x05 => if sa < sb then b else a
  | 0x06 => min a b
  | 0x07 => max a b
  | 0x08 => a &&& b
  | 0x09 => a ||| b
  | 0x0A => a ^^^ b
  | 0x0B => a * 2 ^ k % 2 ^ w
  | 0x0C => a / 2 ^ k
  | 0x0D => wrapAt w (sa / 2 ^ k)
  | 0x0E => a * b % 2 ^ w
  | 0x0F => wrapAt w (sa * sb / 2 ^ w)
  | _ => (d + a * b) % 2 ^ w

/-- The integer comparisons 0x20 to 0x25. -/
def vIntCmp (op w a b : Nat) : Bool :=
  match op with
  | 0x20 => a == b
  | 0x21 => a != b
  | 0x22 => decide (sgn w a < sgn w b)
  | 0x23 => decide (a < b)
  | 0x24 => decide (sgn w a ≤ sgn w b)
  | _ => decide (a ≤ b)

/-- The widening products 0x18 to 0x1C (R208). -/
def vWiden (op w a b d : Nat) : Nat :=
  let sa := sgn w a
  let sb := sgn w b
  match op with
  | 0x18 => wrapAt (2 * w) (sa * sb)
  | 0x19 => a * b
  | 0x1A => wrapAt (2 * w) (sa * b)
  | 0x1B => wrapAt (2 * w) (d + sa * sb)
  | _ => (d + a * b) % 2 ^ (2 * w)

def vFmt (w : Nat) : Fmt := if w = 16 then f16 else f32

/-- The floating-point lane operations 0x28 to 0x2D, 0x31 to 0x34 (R210). -/
def vFp (op rm w a b d : Nat) : Nat × FlagSet :=
  let f := vFmt w
  match op with
  | 0x28 => fpAdd f rm (f.read a) (f.read b)
  | 0x29 => fpAdd f rm (f.read a) (f.read b).neg
  | 0x2A => fpMul f rm (f.read a) (f.read b)
  | 0x2B => fpFma f rm (f.read a) (f.read b) (f.read d)
  | 0x2C => fpMinMax f false a b
  | 0x2D => fpMinMax f true a b
  | 0x31 => f.roundInt rm false (sgn w a) 0
  | 0x32 => fpToInt w false rm (f.read a)
  | 0x33 => fpMul f32 rm (f16.read a) (f16.read b)
  | _ => fpFma f32 rm (f16.read a) (f16.read b) (f32.read d)

/-- The floating-point comparisons 0x2E to 0x30. -/
def vFpCmp (op w a b : Nat) : Bool × FlagSet :=
  let f := vFmt w
  fpCmp (match op with
    | 0x2E => 2
    | 0x2F => 1
    | _ => 0) (f.read a) (f.read b)

/-- A balanced tree sum over 2^n elements from position `i` (R213). -/
def vTree (f : Fmt) (rm : Nat) (e : Nat → Nat) : Nat → Nat → Nat × FlagSet
  | 0, i => (e i, 0)
  | n + 1, i =>
    let l := vTree f rm e n i
    let r := vTree f rm e n (i + 2 ^ n)
    let s := fpAdd f rm (f.read l.1) (f.read r.1)
    (s.1, l.2 ||| r.2 ||| s.2)

/-- Elements `i < n` that are active become `f i`, with the flags of all. -/
def vMap (n w : Nat) (act : Nat → Bool) (f : Nat → Nat × FlagSet) (old : Nat) : Nat × FlagSet :=
  (List.range n).foldl (fun p i => if act i then let r := f i; (putElt p.1 w i r.1, p.2 ||| r.2) else p) (old, 0)

/-- A reduction over the active elements of VS1 (R212, R213). -/
def vFold (op rm w vl vlmax : Nat) (act : Nat → Bool) (a : Nat → Nat) : Nat × FlagSet :=
  let es := ((List.range vl).filter act).map a
  let f := vFmt w
  match op with
  | 0x38 => (es.foldl (fun v e => (v + e) % 2 ^ w) 0, 0)
  | 0x39 => (es.foldl (fun v e => if sgn w v < sgn w e then e else v) (2 ^ (w - 1)), 0)
  | 0x3A => (es.foldl (fun v e => if sgn w e < sgn w v then e else v) (2 ^ (w - 1) - 1), 0)
  | 0x3B => (es.foldl max 0, 0)
  | 0x3C => vTree f rm (fun i => if i < vl && act i then a i else f.signBit) (Nat.log2 vlmax) 0
  | _ => match es with
    | [] => (f.nan, 0)
    | e :: rest =>
      let r := rest.foldl (fun p e => let r := fpMinMax f true p.1 e; (r.1, p.2 ||| r.2)) (e, 0)
      (if (f.read r.1).isNan then f.nan else r.1, r.2 ||| (if (f.read e).sig then 16 else 0))

/-- The result of a legal custom-1 instruction (R207 to R215), `xb` the value of x[RS2]. With VL = 0 it changes nothing. -/
def vArith (w : Word) (x : Vet) (rm : Nat) (xb : Word) : VOut :=
  let op := vOp w
  let ew := x.width
  let g := x.lmul
  let n := x.vl
  let vd := vVd w
  let va := x.group (vVs1 w) g
  let vb := x.group (vVs2 w) g
  let km := x.mask (vKm w)
  let act := fun (i : Nat) => natBit km i
  let a := fun (i : Nat) => elt va ew i
  let b := fun (i : Nat) => if vX w then wrapAt ew xb.toInt else elt vb ew i
  let fp := vFloat op
  if n = 0 then {}
  else if vReduce op then
    let r := vFold op rm ew n x.vlmax act a
    { vw := [(vd, BitVec.ofNat 2048 (putElt (x.reg vd) ew 0 r.1))], fl := r.2, fp := fp }
  else if vCompare op then
    let r := vMap n 1 act (fun i =>
      if fp then let c := vFpCmp op ew (a i) (b i); (if c.1 then 1 else 0, c.2)
      else (if vIntCmp op ew (a i) (b i) then 1 else 0, 0)) (x.mask vd)
    { kw := [(vd, BitVec.ofNat 2048 r.1)], fl := r.2, fp := fp }
  else if vWide op && op != 0x1F then
    let old := x.group vd (2 * g)
    let r := vMap n (2 * ew) act (fun i =>
      if fp then vFp op rm ew (a i) (b i) (elt old (2 * ew) i) else (vWiden op ew (a i) (b i) (elt old (2 * ew) i), 0)) old
    { vw := groupOut vd (2 * g) r.1, fl := r.2, fp := fp }
  else if op = 0x1D ∨ op = 0x1E ∨ op = 0x1F then
    let k := if op = 0x1F then 2 else 4
    let lw := if op = 0x1F then 64 else 32
    let c := if op = 0x1F then 2 * g else g
    let old := x.group vd c
    let val := fun (v : Nat → Nat) (i : Nat) => if i < n then (if op = 0x1E then (v i : Int) else sgn ew (v i)) else 0
    let r := vMap ((n + k - 1) / k) lw act (fun i =>
      (wrapAt lw ((elt old lw i : Int) + (List.range k).foldl (fun t j => t + val a (k * i + j) * val b (k * i + j)) 0), 0)) old
    { vw := groupOut vd c r.1 }
  else
    let old := x.group vd g
    let k := xb.toNat
    let r := vMap n ew (if op = 0x11 then fun _ => true else act) (fun i =>
      match op with
      | 0x11 => (if natBit km i then b i else a i, 0)
      | 0x12 => (b i, 0)
      | 0x13 => (if i + k < x.vlmax then a (i + k) else 0, 0)
      | 0x14 => (if k ≤ i then a (i - k) else elt old ew i, 0)
      | _ => if fp then vFp op rm ew (a i) (b i) (elt old ew i) else (vInt op ew (a i) (b i) (elt old ew i), 0)) old
    { vw := groupOut vd g r.1, fl := r.2, fp := fp }

/-- The result of a legal mask operation of class 0b010 (R204). -/
def vMaskOp (w : Word) (x : Vet) : VOut :=
  let a := BitVec.ofNat 2048 (x.mask (vVs1 w))
  let b := BitVec.ofNat 2048 (x.mask (vVs2 w))
  { kw := [(vVd w, match mOp w with
      | 0 => a &&& b
      | 1 => a ||| b
      | 2 => a ^^^ b
      | 3 => a &&& ~~~b
      | _ => ~~~a)] }

-- Memory (R216 to R224)

/-- The accesses of a memory instruction: how many elements, their width, their addresses, whether each is active, the base that
must be aligned to 8 where the index counts words, and whether unit-stride rows apply. -/
structure VMem where
  n : Nat
  w : Nat
  addr : Nat → Nat
  act : Nat → Bool
  rows : Bool

/-- The accesses of a legal word of class 0b000 or 0b001. -/
def vMemOf (w : Word) (x : Vet) (base stride : Word) : VMem :=
  let ew := x.width
  let km := x.mask (mKm w)
  let idx := x.group (vVs2 w) x.lmul
  let at_ := fun (v : Int) => (v % 2 ^ 32).toNat
  let act := fun (i : Nat) => natBit km i
  match mOp w with
  | 0 => ⟨x.vl, ew, fun i => at_ (base.toNat + i * (ew / 8) : Nat), act, true⟩
  | 1 => ⟨x.vl, ew, fun i => at_ ((base.toNat : Int) + i * stride.toInt), act, false⟩
  | 2 => ⟨x.vl, ew, fun i => at_ (base.toNat + elt idx ew i : Nat), act, false⟩
  | 3 => ⟨x.lmul * 32, 64, fun i => at_ (base.toNat + 8 * i : Nat), fun _ => true, true⟩
  | _ => ⟨32, 64, fun i => at_ (base.toNat + 8 * i : Nat), fun _ => true, true⟩

/-- The element `i ≥ e` that a memory instruction comes to next. -/
def nextActive (m : VMem) (e : Nat) : Option Nat := (List.range m.n).find? (fun i => decide (e ≤ i) && m.act i)

/-- Vetch as an accessor (R79, R216). -/
def vetWho : Who := { cid := 25 }

/-- Why the access of element `e` is refused before any memory is asked (R90, R216, R217): its YFAULT, 0 where it is misaligned. -/
def eltRefused (m : VMem) (store : Bool) (e : Nat) (s : State) : Option Nat :=
  let a := m.addr e
  let size := m.w / 8
  if a % size ≠ 0 then some 0
  else if !(regionOf a == some 1 || regionOf a == some 2 || regionOf a == some 3) then some 9
  else match accessCheck vetWho store a size s with
    | .error c => some c.code
    | .ok _ => none

/-- Does an address lie in Vetch memory, which wide passes serve? -/
def inWide (a : Nat) : Bool := regionOf a == some 3

/-- The longest start of a list of elements that falls in distinct banks, none of them in `used`, up to `n` elements (R222). -/
def distinctRun (bank : Nat → Nat) : Nat → List Nat → List Nat → List Nat
  | 0, _, _ => []
  | _, _, [] => []
  | n + 1, used, i :: is => if used.contains (bank i) then [] else i :: distinctRun bank n (bank i :: used) is

/-- The elements that the pass or narrow step beginning with element `e` serves (R222, R223). -/
def passEls (m : VMem) (store : Bool) (e : Nat) (s : State) : List Nat :=
  let wide := inWide (m.addr e)
  let unit := fun (i : Nat) => if wide then m.addr i / 256 else m.addr i / 8
  let bank := fun (i : Nat) => m.addr i / 32 % 8
  let rest := ((List.range m.n).filter (fun i => decide (e < i) && m.act i)).takeWhile (fun i =>
    (inWide (m.addr i) == wide) && (eltRefused m store i s).isNone)
  if m.rows then e :: rest.takeWhile (fun i => unit i == unit e)
  else if wide then e :: distinctRun bank 7 [bank e] rest
  else [e]

/-- The words an element of `size` bytes at `a` touches. -/
def eltWords (a size : Nat) : List Nat := if size = 8 then [a, a + 4] else [wordAddr a]

/-- The words a pass touches, each once, in the order of its elements. -/
def passWordsOf (m : VMem) (els : List Nat) : List Nat :=
  els.foldl (fun ws i => ws ++ (eltWords (m.addr i) (m.w / 8)).filter (fun p => !ws.contains p)) []

/-- The element of a pass that covers byte address `a`. -/
def eltAt (m : VMem) (els : List Nat) (a : Nat) : Option Nat :=
  els.find? (fun i => decide (m.addr i ≤ a ∧ a < m.addr i + m.w / 8))

/-- The bytes of the word at `p` that a pass writes, and the value it writes there from the elements of `v` (R223, R233). -/
def passMask (m : VMem) (els : List Nat) (p : Nat) : Nat :=
  (List.range 4).foldl (fun k j => if (eltAt m els (p + j)).isSome then k + 2 ^ j else k) 0
def passValue (m : VMem) (els : List Nat) (v p : Nat) : Nat :=
  (List.range 4).foldl (fun k j => match eltAt m els (p + j) with
    | some i => k + elt v m.w i / 256 ^ (p + j - m.addr i) % 256 * 256 ^ j
    | none => k) 0

/-- The accesses of a pass as requests of CID 25. -/
def passReqs (m : VMem) (store : Bool) (els : List Nat) (v : Nat) : List SvcReq :=
  els.map (fun i => { cid := 25#6, write := store, addr := BitVec.ofNat 32 (m.addr i), sz := ⟨Nat.log2 (m.w / 8) % 4, Nat.mod_lt _ (by decide)⟩
                      value := BitVec.ofNat 64 (if store then elt v m.w i else 0) })

/-- The banks at which the pass of an element at `a` is a service: all eight of Vetch memory, or that of the unit (R218, R223). -/
def passBanks (a : Nat) : List (Fin 68) :=
  if inWide a then [0x10, 0x11, 0x12, 0x13, 0x14, 0x15, 0x16, 0x17]
  else match bankOf a with
    | some b => [⟨b % 68, Nat.mod_lt _ (by decide)⟩]
    | none => []

/-- Does another request come before CID 25 at bank `b` (R14, R235)? -/
def beforePass (b : Fin 68) (s : State) : Bool :=
  match svcWinner (.bank b) s with
  | none => false
  | some r => fetchDue b s r || decide (ringKey (bankPtr b.val s) r < ringKey (bankPtr b.val s) { cid := 25#6, write := false, addr := 0#32, sz := 0 })

/-- The bank serves one request while a pass with the accesses `reqs` waits, captured with it (R13, R16). -/
def passWaits (reqs : List SvcReq) (b : Fin 68) (s : State) : State := pwrServed b (serveWith reqs (.bank b) s)

/-- The bank serves the requests that come before CID 25, at most `n`. -/
def passAfter (reqs : List SvcReq) (b : Fin 68) : Nat → State → State
  | 0, s => s
  | n + 1, s => if beforePass b s then passAfter reqs b n (passWaits reqs b s) else s

/-- Bank `b` comes to the turn of a pass (R14, R15): first what was captured before a power request (R239), then in the order of the
rotating pointer. -/
def passTurn (reqs : List SvcReq) (b : Fin 68) (s : State) : State :=
  let s := match pwrWaiting b.val s with
    | some (_, _, some n) => forEach n (fun _ s => passWaits reqs b s) s
    | _ => s
  passAfter reqs b s.svc.pending.length (pwrCapture b 1 s)

/-- The service of one word of a pass (R16, R218, R223, R233): its data, or the cause it is refused with. -/
def passWord (m : VMem) (store : Bool) (els : List Nat) (v p : Nat) (s : State) : Except Cause Word × State :=
  match bankReady p s with
  | (false, s) => (.error .busy, s)
  | (true, s) =>
    let r : SvcReq := { cid := 25#6, write := store, addr := BitVec.ofNat 32 p, sz := 2 }
    let others := match bankOf p with
      | some b => pendingAt (.bank ⟨b % 68, Nat.mod_lt _ (by decide)⟩) s
      | none => []
    let writes := writesWith r others s
    if store then
      match ramWriteWord vetWho p (BitVec.ofNat 32 (passValue m els v p)) (passMask m els p) s with
      | (true, s) => (.ok 0#32, if writes.isEmpty then s else collision p s)
      | (false, s) => (.error .ecc, s)
    else
      match ramReadWord vetWho 0 p s with
      | (none, s) => (.error .ecc, s)
      | (some w, s) =>
        let after := (inOrder (writeKey s) writes.length writes).foldl (fun s x => svcAccess x s) s
        (.ok (if writes.isEmpty then w else (peekWord after.mem p).getD w), s)

/-- The words of a pass in turn: those served, with their data, and the first refused one with its cause and whether its bank's power state
refused it. A refusal met in a run-ahead pass leaves nothing behind (R227, R228). -/
def passRun (m : VMem) (store quiet : Bool) (els : List Nat) (v : Nat) :
    List Nat → List (Nat × Word) → State → (List (Nat × Word) × Option (Nat × Cause × Bool)) × State
  | [], got, s => ((got, none), s)
  | p :: ps, got, s =>
    match passWord m store els v p s with
    | (.ok w, s) => passRun m store quiet els v ps (got ++ [(p, w)]) s
    | (.error c, t) => ((got, some (p, c, c == .busy && !(bankOf p).any (fun b => bankHeld b s))), if quiet then s else t)

/-- The value of an element whose words have been read. -/
def eltValue (a size : Nat) (got : List (Nat × Word)) : Nat :=
  let word := fun (p : Nat) => (((got.find? (fun e => e.1 == p)).map (·.2)).getD 0#32).toNat
  if size = 8 then word a + word (a + 4) * 2 ^ 32 else word (wordAddr a) / 256 ^ (a % 4) % 256 ^ size

/-- How a memory instruction stands: the next element, the group or mask loaded so far, the fault met, and whether it stopped at a pass
boundary. -/
structure VRun where
  e : Nat
  v : Nat
  fault : Option VFlt := none
  stopped : Bool := false
deriving DecidableEq, Repr

/-- The fault of element `e` (R221). -/
def vFlt (m : VMem) (store : Bool) (e yf : Nat) : VFlt :=
  { e := e, cause := (if yf = 0 then 4 else 5) + (if store then 2 else 0), addr := m.addr e, yf := yf }

/-- One wide pass or narrow step, from active element `e` on (R218, R222, R223): its elements are served, or those below the first refused
one. -/
def vPass (m : VMem) (store quiet : Bool) (e : Nat) (r : VRun) (s : State) : VRun × State :=
  let els := passEls m store e s
  let banks := passBanks (m.addr e)
  let s := banks.foldl (fun s b => passTurn (passReqs m store els r.v) b s) s
  let x := passRun m store quiet els r.v (passWordsOf m els) [] s
  let s := banks.foldl (fun s b => pwrServed b { s with memCtl := { s.memCtl with ptr := s.memCtl.ptr.set! b 26 } }) x.2
  let size := m.w / 8
  let served := els.takeWhile (fun i => (eltWords (m.addr i) size).all (fun p => x.1.1.any (fun g => g.1 == p)))
  let v := if store then r.v else served.foldl (fun v i => putElt v m.w i (eltValue (m.addr i) size x.1.1)) r.v
  match x.1.2 with
  | none => ({ r with e := els.getLastD e + 1, v := v }, s)
  | some (p, c, power) =>
    let i := els.getD served.length e
    ({ r with e := i, v := v, fault := some { vFlt m store i c.code with word := p, power := power } },
     if quiet then s else busErr vetWho store (m.addr i) c s)

/-- The cause of a YFAULT that the fabric gives. -/
def causeOf (yf : Nat) : Option Cause :=
  [Cause.unmapped, .disabled, .align, .ro, .deny, .busy, .ecc].find? (fun c => c.code == yf)

/-- Elements from `r.e` upward, in at most `fuel` passes, with `left` of them allowed before an interrupt (R220 to R224). A store of element
values `v`. -/
def vMemRun (m : VMem) (store quiet : Bool) : Nat → Option Nat → VRun → State → VRun × State
  | 0, _, r, s => (r, s)
  | fuel + 1, left, r, s =>
    match nextActive m r.e with
    | none => ({ r with e := max r.e m.n }, s)
    | some e =>
      if left == some 0 then ({ r with e := e, stopped := true }, s)
      else match eltRefused m store e s with
        | some yf =>
          ({ r with e := e, fault := some (vFlt m store e yf) },
           match (if quiet then none else causeOf yf) with
           | some c => busErr vetWho store (m.addr e) c s
           | none => s)
        | none =>
          let x := vPass m store quiet e r s
          if x.1.fault.isSome then x else vMemRun m store quiet fuel (left.map (· - 1)) x.1 x.2

/-- The registers a load of class 0b000 has written, from the group or mask as loaded. -/
def vLoadOut (w : Word) (x : Vet) (v : Nat) : VOut :=
  if mOp w = 4 then { kw := if vVd w = 0 then [] else [(vVd w, BitVec.ofNat 2048 v)] }
  else { vw := groupOut (vVd w) x.lmul v }

/-- The group or mask that a memory instruction loads into or stores from. -/
def vMemOld (w : Word) (x : Vet) : Nat := if mOp w = 4 then x.mask (vVd w) else x.group (vVd w) x.lmul

-- Retirement and faults

/-- Writes land, flags accrue (R211). -/
def vLand (o : VOut) (s : State) : State :=
  let s := accrue o.fl (s.updVet (fun x => x.land o.vw o.kw))
  if o.fp then s.updYar (fun y => { y with fs := 3#2 }) else s

/-- A vector memory fault (R221). -/
def vFault (e cause a yf : Nat) (s : State) : State :=
  let s := s.updYar (fun y => { y with veix := BitVec.ofNat 12 e })
  let s := if yf = 0 then yTrap cause false (BitVec.ofNat 32 a) s else yFault cause yf a s
  s.raise 0xFD

def yNext (len : Nat) (s : State) : Word := s.yar.pc + BitVec.ofNat 32 len

/-- A memory instruction from element VEIX, for at most `limit` passes (R216 to R224). -/
def vMemExec (w : Word) (limit : Option Nat) (s : State) : YOut :=
  let s := drainAll s
  if !s.yar.sb.isEmpty then .busy s
  else
    let x := s.yar.vet
    let store := mClass w == 1
    let m := vMemOf w x (yReg (vVs1 w) s) (yReg (vVs2 w) s)
    let start := s.yar.veix.toNat
    let r := vMemRun m store false (m.n - start + 1) limit { e := start, v := vMemOld w x } s
    let s := r.2
    let s := if store then s else vLand (vLoadOut w x r.1.v) s
    match r.1.fault with
    | some f => .done (vFault f.e f.cause f.addr f.yf s)
    | none =>
      if r.1.stopped then .busy (s.updYar (fun y => { y with veix := BitVec.ofNat 12 r.1.e }))
      else .done (retireTo (yNext 4 s) (s.updYar (fun y => { y with veix := 0#12 })))

/-- VSETVL (R206). -/
def vSetvl (w : Word) (s : State) : State :=
  let t := yReg (vVs2 w) s
  let a := (yReg (vVs1 w) s).toNat
  if t.toNat < 16 then
    let s := s.updVet (fun x =>
      let x := { x with sew := t.toNat % 4, g := t.toNat / 4, vill := false }
      { x with vl := min a x.vlmax })
    yPut (vVd w) (BitVec.ofNat 32 s.yar.vet.vl) s
  else yPut (vVd w) 0#32 (s.updVet (fun x => { x with vill := true, vl := 0 }))

/-- The scalar result of class 0b011, or of VGETCFG (R204). -/
def vScalar (w : Word) (s : State) : Word :=
  let x := s.yar.vet
  let below := (List.range x.vl).filter (fun i => natBit (x.mask (vVs1 w)) i)
  let e := elt (x.group (vVs2 w) x.lmul) x.width (yReg (vVs1 w) s).toNat
  let inside := decide ((yReg (vVs1 w) s).toNat < x.vlmax)
  if mClass w = 4 then BitVec.ofNat 32 (x.sew + 4 * x.g + (if x.vill then 16 else 0) + x.vl * 65536)
  else match mOp w with
    | 0 => BitVec.ofNat 32 below.length
    | 1 => match below with
      | i :: _ => BitVec.ofNat 32 i
      | [] => 0xFFFFFFFF#32
    | 2 => if !inside then 0#32 else if x.width < 32 then BitVec.ofInt 32 (sgn x.width e) else BitVec.ofNat 32 e
    | _ => if inside then BitVec.ofNat 32 (e / 2 ^ 32) else 0#32

/-- Is the word a register-to-register instruction without a scalar result (R201)? -/
def vRegOnly (w : Word) : Bool := wf w 0 7 == 0x2B || mClass w == 2

/-- Its result over registers `x`. -/
def vRegResult (w : Word) (x : Vet) (s : State) : VOut :=
  if wf w 0 7 = 0x2B then vArith w x s.yar.frm.toNat (yReg (vVs2 w) s) else vMaskOp w x

/-- Is a vector instruction legal now? -/
def vLegal (w : Word) (x : Vet) (y : Yar) : Bool := if wf w 0 7 = 0x2B then vLegal1 w x y else vLegal2 w x

/-- The refusal that a run-ahead load met takes its effects (R92, R93, R221, R227, R240). -/
def vRecorded (f : VFlt) (s : State) : State :=
  let s := if f.power then s.raise 0x22 else s
  let s := if f.yf = 7 then noteUncorrectable vetWho f.word 0 s else s
  let s := match causeOf f.yf with
    | some c => busErr vetWho false f.addr c s
    | none => s
  vFault f.e f.cause f.addr f.yf s

/-- The run-ahead instruction at the head retires (R227). -/
def vCommit (p : VPend) (s : State) : State :=
  let s := s.updVet (fun x => { x with pend := x.pend.drop 1 })
  let s := vLand { vw := p.vw, kw := p.kw, fl := p.fl, fp := p.fp } s
  match p.fault with
  | none => retireTo (yNext 4 s) (if vRegOnly p.word then s else s.updYar (fun y => { y with veix := 0#12 }))
  | some f => vRecorded f s

/-- A register-to-register instruction with result `o` retires into the window (R201, R211). -/
def vEnter (o : VOut) (s : State) : State :=
  let s := accrue o.fl (s.updVet (fun x => { x with win := x.win ++ [{ vw := o.vw, kw := o.kw }] }))
  if o.fp then s.updYar (fun y => { y with fs := 3#2 }) else s

/-- A legal or illegal vector instruction at PC (R200 to R205). `limit` is the number of passes before an interrupt (R224). A
register-to-register instruction enters the window, and stalls while that is full; any other waits until the window has completed. -/
def vExec (w : Word) (limit : Option Nat) (s : State) : YOut :=
  match s.yar.vet.pend.find? (fun p => p.pc == s.yar.pc && p.word == w) with
  | some p => .done (vCommit p s)
  | none =>
    let s := vetSquash s
    let x := s.yar.vet
    if !vLegal w x s.yar then .done (yTrap 2 false w s)
    else if vRegOnly w then
      if 8 ≤ x.win.length then .busy s
      else
        let s := vEnter (vRegResult w x.done s) s
        .done (retireTo (yNext 4 s) s)
    else
    let s := vetFinish s
    match mClass w with
      | 3 => .done (let s := yPut (vVd w) (vScalar w s) s; retireTo (yNext 4 s) s)
      | 4 =>
        let s := match mOp w with
          | 0 => vSetvl w s
          | 1 => yPut (vVd w) (vScalar w s) s
          | 2 => s
          | _ => s.raise 0xFC
        .done (retireTo (yNext 4 s) s)
      | _ => vMemExec w limit s

/-- Vetch begins the instruction `w` at `pc`, which Yarrow has not yet committed (R226, R227): `path` are the addresses to be retired up
to it. Nothing happens where it may not begin. The caller sees to it that no older instruction on the path writes what it reads. -/
def vBegin (w : Word) (pc : Word) (path : List Word) (s : State) : State :=
  let x := s.yar.vet.view
  let add := fun (p : VPend) (s : State) => s.updVet (fun v => { v with pend := v.pend ++ [p], path := path })
  if 2 ≤ s.yar.vet.pend.length ∨ !vLegal w x s.yar ∨ s.yar.vet.pend.any (·.fault.isSome) then s
  else if vRegOnly w then
    let o := vRegResult w x s
    add { pc := pc, word := w, vw := o.vw, kw := o.kw, fl := o.fl, fp := o.fp } (vetFinish s)
  else if mClass w = 0 then
    let depends := mOp w == 2 && s.yar.vet.pend.any (fun p => p.vw.any (fun e =>
      decide (vVs2 w ≤ e.1 ∧ e.1 < vVs2 w + x.lmul)))
    let m := vMemOf w x (yReg (vVs1 w) s) (yReg (vVs2 w) s)
    let start := if s.yar.vet.pend.any (fun p => !vRegOnly p.word) then 0 else s.yar.veix.toNat
    let inside := (List.range m.n).all (fun e => decide (e < start) || !m.act e || regionOf (m.addr e) == some 3)
    if depends || !inside then s
    else
      let s := drainAll (vetFinish s)
      if !s.yar.sb.isEmpty then s
      else
        let r := vMemRun m false true (m.n - start + 1) none { e := start, v := vMemOld w x } s
        let o := vLoadOut w x r.1.v
        add { pc := pc, word := w, vw := o.vw, kw := o.kw, fault := r.1.fault } r.2
  else s

end Sys2Proof.Machine
end

