-- ==== Sys2Proof/Machine/YarOps.lean ====
section
/-!
DEFINITION. Yarrow's fetch and instructions (R162 to R189), one instruction at a time.
-/
namespace Sys2Proof.Machine

-- Fetch (R165 to R167)

/-- A fetch of `size` bytes at `a`: regions 1 and 2 only. The fault's YFAULT cause, or the bytes. -/
def fetchPart (a size : Nat) (s : State) : (Except Nat Nat) × State :=
  if !(regionOf a == some 1 || regionOf a == some 2) then (.error 9, s)
  else match yAccess .yarrow 2 a size 0 s with
    | (.ok d, s) => (.ok d, s)
    | (.fault c _, s) => (.error c, s)
    | (.wait, s) => (.error 8, s)

/-- The instruction at PC: its bits and length, or the refused address and YFAULT cause. -/
def yFetch (s : State) : (Except (Nat × Nat) (Word × Nat)) × State :=
  let pc := s.yar.pc.toNat
  let first := if pc % 4 = 0 ∧ pmpAllows s.yar.mach 2 (pc + 2) 2 s.yar then fetchPart pc 4 s else fetchPart pc 2 s
  match first with
  | (.error c, s) => (.error (pc, c), s)
  | (.ok v, s) =>
    if v % 4 ≠ 3 then (.ok (BitVec.ofNat 32 (v % 65536), 2), s)
    else if pc % 4 = 0 ∧ pmpAllows s.yar.mach 2 (pc + 2) 2 s.yar then (.ok (BitVec.ofNat 32 v, 4), s)
    else match fetchPart (pc + 2) 2 s with
      | (.error c, s) => (.error (pc + 2, c), s)
      | (.ok hi, s) => (.ok (BitVec.ofNat 32 (v + 65536 * hi), 4), s)

/-- The decoded instruction of fetched bits. -/
def yDecode (w : Word) (len : Nat) : YInstr := if len = 2 then decode16 w.toNat else decode32 w

-- Prediction (06, Pipeline; R169)

/-- The address the predictor follows after `i` at `pc` (PRESUMED: indexing by pc bits 8:1; assumption log 24). -/
def predictNext (y : Yar) (i : YInstr) (pc : Word) (len : Nat) : Word :=
  let next := pc + BitVec.ofNat 32 len
  match i with
  | .jal _ off => pc + off
  | .branch _ _ _ off =>
    if !y.bpoff && 2 ≤ (y.pred.bimodal.toList.getD (pc.toNat / 2 % 256) 0#2).toNat then pc + off else next
  | .jalr rd a _ =>
    if y.bpoff then next
    else if (a = 1 ∨ a = 5) ∧ rd ≠ a ∧ !y.pred.returns.isEmpty then y.pred.returns.headD next
    else ((y.pred.targets.find? (fun t => t.1 == pc)).map (·.2)).getD next
  | _ => next

/-- The predictor learns the outcome of a branch or jump. -/
def predictLearn (i : YInstr) (pc next : Word) (len : Nat) (taken : Bool) (s : State) : State :=
  let link := fun (r : Nat) => r == 1 || r == 5
  let push := fun (p : Predictor) => { p with returns := ((pc + BitVec.ofNat 32 len) :: p.returns).take 4 }
  let p := s.yar.pred
  let k := pc.toNat / 2 % 256
  let c := (p.bimodal.toList.getD k 0#2).toNat
  let new : Predictor := match i with
    | .branch .. => { p with bimodal := p.bimodal.set! k (BitVec.ofNat 2 (if taken then min (c + 1) 3 else c - 1)) }
    | .jal rd _ => if link rd then push p else p
    | .jalr rd a _ =>
      let p := if link a && rd != a then { p with returns := p.returns.drop 1 } else p
      let p := if link rd then push p else p
      { p with targets := ((pc, next) :: p.targets.filter (fun t => t.1 != pc)).take 32 }
    | _ => p
  s.updYar (fun y => { y with pred := new })

-- Triggers (R190)

/-- Does a type-2 trigger match address `a` (bit 2 execute, 1 store, 0 load)? Its action: 0 breakpoint, 1 Debug Mode. -/
def triggerHit (bit a : Nat) (s : State) : Option Nat :=
  let y := s.yar
  if y.dbg.halted then none
  else ((List.range 4).find? (fun i =>
      let t := (y.dbg.tdata1.toList.getD i 0#32)
      let v := (y.dbg.tdata2.toList.getD i 0#32).toNat
      t.getLsbD bit && (if y.mach then t.getLsbD 6 else t.getLsbD 3) &&
      (match fieldOf 7 4 t with
        | 0 => a == v
        | 2 => decide (v ≤ a)
        | 3 => decide (a < v)
        | _ => false))).map (fun i => fieldOf 12 4 (y.dbg.tdata1.toList.getD i 0#32))

/-- A trigger's action before the instruction (R190). -/
def triggerAct (act : Nat) (s : State) : State :=
  if act = 1 then debugEnter 2 s else yTrap 3 false s.yar.pc s

-- Loads and stores (R168, R170)

/-- The value a load of kind `fn` puts in its register. -/
def loadValue (fn d : Nat) : Word :=
  match fn with
  | 0 => (BitVec.ofNat 8 d).signExtend 32
  | 1 => (BitVec.ofNat 16 d).signExtend 32
  | _ => BitVec.ofNat 32 d

/-- A load ends with its data. -/
def loadDone (rd : Nat) (isF : Bool) (fn len d : Nat) (s : State) : State :=
  let s := if isF then fPut rd (BitVec.ofNat 32 d) s else yPut rd (loadValue fn d) s
  retireTo (yNext len s) s

/-- YARROW_LOAD (R168, R170, R172). -/
def yLoad (rd : Nat) (isF : Bool) (fn len : Nat) (addr : Word) (s : State) : YOut :=
  let a := addr.toNat
  let size := 2 ^ (fn % 4)
  match triggerHit 0 a s with
  | some act => .done (triggerAct act s)
  | none =>
    if a % size ≠ 0 then .done (yTrap 4 false addr s)
    else
      let s := if mustDrain a size s then drainAll s else s
      if mustDrain a size s ∧ !s.yar.sb.isEmpty then .busy s
      else match yAccess .yarrow 0 a size 0 s with
        | (.ok d, s) => .done (loadDone rd isF fn len d s)
        | (.fault c f, s) => .done (yFault 5 c f s)
        | (.wait, s) => .busy (s.updYar (fun y => { y with wait := some (.load rd isF fn a len) }))

/-- YARROW_STORE (R168, R170, R174): refusals at steps 1 to 6 are precise, later ones are late. -/
def yStore (size len : Nat) (v addr : Word) (s : State) : YOut :=
  let a := addr.toNat
  match triggerHit 1 a s with
  | some act => .done (triggerAct act s)
  | none =>
    if a % size ≠ 0 then .done (yTrap 6 false addr s)
    else
      let s := if mustDrain a size s then drainAll s else if 4 ≤ s.yar.sb.length then storeDrain s else s
      if (mustDrain a size s ∧ !s.yar.sb.isEmpty) ∨ 4 ≤ s.yar.sb.length then .busy s
      else
        let data := v.toNat % 256 ^ size
        let r := yAccess .store 1 a size data s
        let refused := match r.1 with
          | .fault c _ => if c ≤ 5 ∨ c = 9 then some c else none
          | _ => none
        match refused with
        | some c => .done (yFault 7 c a r.2)
        | none =>
          let y := s.yar
          let e : YStore := { addr := a, size := size, data := data
                              cid := if y.dbg.halted then 62 else if userAccess y then y.cidsel.toNat else 1
                              ctm := y.ctm && !userAccess y }
          let s := s.updYar (fun y => { y with sb := y.sb ++ [e] })
          .done (retireTo (yNext len s) s)

-- Floating point (R178 to R180)

/-- The rounding mode of an instruction; none where it or frm is reserved. -/
def roundMode (rm : Nat) (y : Yar) : Option Nat :=
  let r := if rm = 7 then y.frm.toNat else rm
  if r ≤ 4 then some r else none

/-- F operations on register words, with a rounding mode. The result goes to x`rd` where `toInt`. -/
def fpVal (op : FpOp) (rm : Nat) (a b : Word) (xa : Word) : Nat × FlagSet :=
  let x := f32.read a.toNat
  let y := f32.read b.toNat
  let sign := fun (s : Bool) => a.toNat % 2 ^ 31 + (if s then 2 ^ 31 else 0)
  match op with
  | .add => fpAdd f32 rm x y
  | .sub => fpAdd f32 rm x y.neg
  | .mul => fpMul f32 rm x y
  | .div => fpDiv f32 rm x y
  | .sqrt => fpSqrt f32 rm x
  | .sgnj k => (match k with
      | 0 => sign (b.getLsbD 31)
      | 1 => sign (!b.getLsbD 31)
      | _ => sign (a.getLsbD 31 != b.getLsbD 31), 0)
  | .min => fpMinMax f32 false a.toNat b.toNat
  | .max => fpMinMax f32 true a.toNat b.toNat
  | .cmp k => let r := fpCmp k x y; (if r.1 then 1 else 0, r.2)
  | .cls => (fpClass f32 a.toNat, 0)
  | .toInt u => fpToInt 32 u rm x
  | .ofInt u => f32.roundInt rm false (if u then (xa.toNat : Int) else xa.toInt) 0
  | .mvXW => (a.toNat, 0)
  | .mvWX => (xa.toNat, 0)

/-- Operations that write an integer register. -/
def fpToX (op : FpOp) : Bool :=
  match op with
  | .cmp _ => true
  | .cls => true
  | .toInt _ => true
  | .mvXW => true
  | _ => false

/-- Operations that take a rounding mode. -/
def fpRounds (op : FpOp) : Bool :=
  match op with
  | .add => true
  | .sub => true
  | .mul => true
  | .div => true
  | .sqrt => true
  | .toInt _ => true
  | .ofInt _ => true
  | _ => false

def yIllegal (w : Word) (s : State) : YOut := .done (yTrap 2 false w s)

/-- An F operation (R164, R178). -/
def yFp (w : Word) (len : Nat) (op : FpOp) (rd a b rm : Nat) (s : State) : YOut :=
  if s.yar.fs = 0#2 then yIllegal w s
  else match (if fpRounds op then roundMode rm s.yar else some 0) with
    | none => yIllegal w s
    | some r =>
      let v := fpVal op r (fReg a s) (fReg b s) (yReg a s)
      let s := accrue v.2 s
      let s := if fpToX op then yPut rd (BitVec.ofNat 32 v.1) s else fPut rd (BitVec.ofNat 32 v.1) s
      .done (retireTo (yNext len s) s)

/-- FMADD, FMSUB, FNMSUB, FNMADD. -/
def yFma (w : Word) (k rd a b c rm : Nat) (s : State) : YOut :=
  if s.yar.fs = 0#2 then yIllegal w s
  else match roundMode rm s.yar with
    | none => yIllegal w s
    | some r =>
      let x := f32.read (fReg a s).toNat
      let x := if 2 ≤ k then x.neg else x
      let z := f32.read (fReg c s).toNat
      let z := if k = 1 ∨ k = 3 then z.neg else z
      let v := fpFma f32 r x (f32.read (fReg b s).toNat) z
      let s := fPut rd (BitVec.ofNat 32 v.1) (accrue v.2 s)
      .done (retireTo (yNext 4 s) s)

-- CSR instructions (R191, R193)

/-- CSRRW (1), CSRRS (2), CSRRC (3), with a register or an immediate. An access to VEIX waits for every older Vetch instruction (R225). -/
def yCsr (w : Word) (op rd : Nat) (src : Src) (n : Nat) (s : State) : YOut :=
  let writes := op == 1 || (match src with
    | .reg i => i != 0
    | .imm v => v != 0#32)
  match (if csrAllowed n writes s.yar then csrRead n s else none) with
  | none => yIllegal w s
  | some old =>
    let s := if n = 0x7C2 then vetFinish s else s
    let v := srcVal src s
    let new := if op = 1 then v else if op = 2 then old ||| v else old &&& ~~~v
    let retired := retireTo (yNext 4 s) s
    let s := if writes then csrWrite n new retired else retired
    .done (yPut rd old s)

-- Block micro-routines (R182 to R189)

/-- The aligned accesses of at most 4 bytes that cover `n` bytes at `a`, ascending (R86). -/
def pieces : Nat → Nat → Nat → List (Nat × Nat)
  | 0, _, _ => []
  | fuel + 1, a, n =>
    if n = 0 then []
    else
      let z := if a % 4 = 0 ∧ 4 ≤ n then 4 else if a % 2 = 0 ∧ 2 ≤ n then 2 else 1
      (a % 2 ^ 32, z) :: pieces fuel (a + z) (n - z)

/-- The CRC of a byte (R186). -/
def blkCrcByte (poly : Bool) (c : Word) (b : Byte) : Word :=
  (List.range 8).foldl (fun (v : Word) _ =>
    if v.getLsbD 0 then (v >>> 1) ^^^ (if poly then 0x82F63B78#32 else 0xEDB88320#32) else v >>> 1) (c ^^^ b.setWidth 32)

/-- Does routine `k` write? BCRC does where x10 is not 0. -/
def blkWrites (k : Nat) (s : State) : Bool := k < 2 || yReg 10 s != 0#32

/-- The next unit of routine `k` (R183). -/
def blkUnit (k : Nat) (s : State) : BlkUnit :=
  let d := (yReg 10 s).toNat
  let a := (yReg 11 s).toNat
  let n := (yReg 12 s).toNat
  let base := if blkWrites k s then d else a
  let len := min n (8 - base % 8)
  let wide := decide (len = 8 ∧ d % 8 = 0 ∧ (k = 1 ∨ a % 8 = 0))
  let cut := fun (x : Nat) => if wide then [(x, 8)] else pieces 8 x len
  if k = 1 then
    { n := len, writes := cut d
      data := (List.range len).map (fun i => (yReg 11 s).extractLsb' (8 * ((d + i) % 4)) 8) }
  else { n := len, reads := if blkWrites k s then cut a else if len = 8 then [(a, 8)] else pieces 8 a len
         writes := if blkWrites k s then cut d else [] }

/-- May a block routine access `a` (R189)? -/
def blkRegion (write : Bool) (a : Nat) : Bool :=
  match regionOf a with
  | some r => r == 32 || (decide (r ≤ 15) && !(write && r == 0))
  | none => true

/-- The reads and then the writes of a unit of routine `k`: done, refused (mcause, address, YFAULT), or waiting for the chain. -/
def blkAccesses (k : Nat) : Nat → BlkUnit → State → (Except (Option (Nat × Nat × Nat)) BlkUnit) × State
  | 0, u, s => (.ok u, s)
  | fuel + 1, u, s =>
    match u.reads, u.writes with
    | (a, z) :: rest, _ =>
      if !blkRegion false a then (.error (some (5, a, 9)), s)
      else match yAccess .yarrow 0 a z 0 s with
        | (.ok d, s) => blkAccesses k fuel { u with reads := rest, data := u.data ++ leBytes z d } s
        | (.fault c f, s) => (.error (some (5, f, c)), s)
        | (.wait, s) => (.error none, s.updYar (fun y => { y with wait := some (.block k u) }))
    | [], (a, z) :: rest =>
      let at_ := u.n - (rest.foldl (fun t e => t + e.2) z)
      if !blkRegion true a then (.error (some (7, a, 9)), s)
      else match yAccess .yarrow 1 a z (ofLeBytes ((u.data.drop at_).take z)) s with
        | (.ok _, s) => blkAccesses k fuel { u with writes := rest } s
        | (.fault c f, s) => (.error (some (7, f, c)), s)
        | (.wait, s) => (.error none, s.updYar (fun y => { y with wait := some (.block k u) }))
    | [], [] => (.ok u, s)

/-- The unit ends (R183): x10 to x13 advance. -/
def blkEnd (k : Nat) (u : BlkUnit) (s : State) : State :=
  let n := BitVec.ofNat 32 u.n
  let crc := u.data.foldl (blkCrcByte s.yar.poly) (yReg 13 s)
  let s := if blkWrites k s then yPut 10 (yReg 10 s + n) s else s
  let s := if k = 1 then s else yPut 11 (yReg 11 s + n) s
  let s := yPut 12 (yReg 12 s - n) s
  if k = 2 then yPut 13 crc s else s

/-- Units of routine `k`, at most `fuel`, at most `limit` of them before an interrupt (R187, R188). -/
def blkRun (k : Nat) : Nat → Option Nat → State → YOut
  | 0, _, s => .done (retireTo (yNext 4 s) s)
  | fuel + 1, limit, s =>
    if yReg 12 s = 0#32 then .done (retireTo (yNext 4 s) s)
    else if limit = some 0 then .busy s
    else
      let u := blkUnit k s
      match blkAccesses k 20 u s with
      | (.ok u, s) => blkRun k fuel (limit.map (· - 1)) (blkEnd k u s)
      | (.error (some (c, a, yf)), s) => .done (yFault c yf a s)
      | (.error none, s) => .busy s

/-- BCOPY, BFILL, BCRC (R182 to R189). DESIGN CHOICE (assumption log 39): buffered stores drain before a routine's accesses. -/
def yBlock (k : Nat) (limit : Option Nat) (s : State) : YOut :=
  let s := drainAll s
  if !s.yar.sb.isEmpty then .busy s
  else blkRun k ((yReg 12 s).toNat + 1) limit s

/-- A unit that waited for the chain goes on with the answer of its access: as `blkAccesses`. -/
def blkAnswer (k : Nat) (u : BlkUnit) (res : Option DWord) (s : State) : (Except (Option (Nat × Nat × Nat)) BlkUnit) × State :=
  match u.reads, u.writes, res with
  | (_, z) :: rest, _, some d => blkAccesses k 20 { u with reads := rest, data := u.data ++ leBytes z d.toNat } s
  | [], _ :: rest, some _ => blkAccesses k 20 { u with writes := rest } s
  | (a, _) :: _, _, none => (.error (some (5, a, 8)), s)
  | [], (a, _) :: _, none => (.error (some (7, a, 8)), s)
  | [], [], _ => (.ok u, s)

/-- The hart after an instruction, or (`whole` false) a unit of a block routine, that waited for the chain: a halt asked for meanwhile is
made (R187), and a single step ends with its instruction (R190). -/
def afterWait (whole : Bool) (s : State) : State :=
  if s.yar.dbg.halted then s
  else if s.yar.dbg.haltReq then debugEnter 3 s
  else if whole && s.yar.dbg.dcsr.getLsbD 2 then debugEnter 4 s
  else s

/-- The chain request that Yarrow waits for ends (R92, R171, R188). In Debug Mode a block routine goes on with its next unit. -/
def yarRemoteDone (res : Option DWord) (s : State) : State :=
  let w := s.yar.wait
  let s := s.updYar (fun y => { y with wait := none })
  match w with
  | none => s
  | some (.load rd isF fn a len) =>
    afterWait true (match res with
      | some d => loadDone rd isF fn len d.toNat s
      | none => yFault 5 8 a s)
  | some (.block k u) =>
    match blkAnswer k u res s with
    | (.ok u, s) =>
      let s := blkEnd k u s
      if yReg 12 s = 0#32 then afterWait true (retireTo (yNext 4 s) s)
      else if s.yar.dbg.halted then (blkRun k ((yReg 12 s).toNat + 1) none s).state
      else afterWait false s
    | (.error (some (c, a, yf)), s) => afterWait true (yFault c yf a s)
    | (.error none, s) => s

-- The instructions

/-- An instruction `i` of bits `w` and `len` bytes at PC. -/
def yExec (w : Word) (len : Nat) (i : YInstr) (limit : Option Nat) (s : State) : YOut :=
  let next := yNext len s
  let pc := s.yar.pc
  let done := fun (s : State) => YOut.done (retireTo next s)
  let jump := fun (t : Word) (taken : Bool) (s : State) =>
    YOut.done (retireTo t (predictLearn i pc t len taken s))
  match i with
  | .alu op rd a b => done (yPut rd (aluVal op (srcVal a s) (srcVal b s)) s)
  | .auipc rd imm => done (yPut rd (pc + imm) s)
  | .mul fn rd a b => done (yPut rd (mulVal fn (yReg a s) (yReg b s)) s)
  | .div fn rd a b => done (yPut rd (divVal fn (yReg a s) (yReg b s)) s)
  | .branch fn a b off =>
    let t := branchTaken fn (yReg a s) (yReg b s)
    jump (if t then pc + off else next) t s
  | .jal rd off => jump (pc + off) true (yPut rd next s)
  | .jalr rd a off => jump ((yReg a s + off) &&& 0xFFFFFFFE#32) true (yPut rd next s)
  | .load fn rd a off => yLoad rd false fn len (yReg a s + off) s
  | .store fn b a off => yStore (2 ^ fn) len (yReg b s) (yReg a s + off) s
  | .flw rd a off => if s.yar.fs = 0#2 then yIllegal w s else yLoad rd true 2 len (yReg a s + off) s
  | .fsw b a off => if s.yar.fs = 0#2 then yIllegal w s else yStore 4 len (fReg b s) (yReg a s + off) s
  | .fence => let s := drainAll s; if s.yar.sb.isEmpty then done s else .busy (s.updYar (fun y => { y with fence := true }))
  | .fenceI => let s := drainAll s; if s.yar.sb.isEmpty then done (predFlush s) else .busy s
  | .ecall => .done (yTrap (if s.yar.mach then 11 else 8) false 0#32 s)
  | .ebreak =>
    if s.yar.dbg.dcsr.getLsbD (if s.yar.mach then 15 else 12) then .done (debugEnter 1 s)
    else .done (yTrap 3 false pc s)
  | .wfi =>
    if !s.yar.mach then yIllegal w s
    else
      let s := retireTo next s
      .done (if (mipWord s &&& s.yar.ie) = 0#32 then s.updYar (fun y => { y with wfi := true }) else s)
  | .mret =>
    if !s.yar.mach then yIllegal w s
    else
      let s := s.updYar (fun y => { y with mach := y.mppM, mie := y.mpie, mpie := true, mppM := false })
      .done (retireTo s.yar.mepc s)
  | .csr op rd src n => yCsr w op rd src n s
  | .fp op rd a b rm => yFp w len op rd a b rm s
  | .fma k rd a b c rm => yFma w k rd a b c rm s
  | .block k => yBlock k limit s
  | .vec w => vExec w limit s
  | .illegal => yIllegal w s

/-- Yarrow executes the instruction at PC if it is one that `mine` names; one that cannot be fetched or is illegal traps whatever the
command. It stands still while held, halted, waiting for the chain, or in WFI with nothing pending. A single step ends in Debug Mode. -/
def yStep (mine : YInstr → Bool) (limit : Option Nat) (s0 : State) : State :=
  let y := s0.yar
  let s := if y.wfi && (mipWord s0 &&& y.ie) != 0#32 then s0.updYar (fun y => { y with wfi := false }) else s0
  if !y.run || y.dbg.halted || y.wait.isSome || s.yar.wfi then s0
  else
    let step := fun (s : State) => if y.dbg.dcsr.getLsbD 2 && !s.yar.dbg.halted then debugEnter 4 s else s
    match triggerHit 2 y.pc.toNat s with
    | some act => step (triggerAct act s)
    | none =>
      match yFetch s with
      | (.error (a, c), s) => step (yFault 1 c a s)
      | (.ok (w, len), s1) =>
        let i := yDecode w len
        if i != .illegal && !mine i then s0
        else match yExec w len i limit s1 with
          | .done s => step s
          | .busy s => s

-- Run-ahead (R226)

/-- Does an instruction write integer register `r`? -/
def yWrites (i : YInstr) (r : Nat) : Bool :=
  match i with
  | .alu _ rd _ _ => rd == r
  | .auipc rd _ => rd == r
  | .mul _ rd _ _ => rd == r
  | .div _ rd _ _ => rd == r
  | .jal rd _ => rd == r
  | .jalr rd _ _ => rd == r
  | .load _ rd _ _ => rd == r
  | .fp op rd _ _ _ => fpToX op && rd == r
  | .block _ => decide (10 ≤ r ∧ r ≤ 13)
  | .csr _ rd _ _ => rd == r
  | .vec w => !vRegOnly w && vVd w == r
  | _ => false

/-- May Vetch begin a younger instruction before this one has retired? An instruction that ends Yarrow's own order (a CSR access, a
fence, a trap, a return), an F operation, a store, a block routine, or a Vetch instruction not yet begun stops it (DEDUCED, assumption log 36). -/
def yPassable (i : YInstr) : Bool :=
  match i with
  | .alu .. => true
  | .auipc .. => true
  | .mul .. => true
  | .div .. => true
  | .branch .. => true
  | .jal .. => true
  | .jalr .. => true
  | .load .. => true
  | .flw .. => true
  | _ => false

/-- The walk along the predicted path from `pc` to the Vetch instruction to begin: `begun` instructions already begun are passed. The
path so far (addresses after the present one), and the integer instructions older than it. -/
def aheadWalk : Nat → Word → Nat → List Word → List YInstr → State → Option (Word × Word × List Word × List YInstr)
  | 0, _, _, _, _, _ => none
  | fuel + 1, pc, begun, path, older, s =>
    match yFetch (s.updYar (fun y => { y with pc := pc })) with
    | (.error _, _) => none
    | (.ok (w, len), _) =>
      let i := yDecode w len
      match i, begun with
      | .vec w, 0 => some (w, pc, path, older)
      | .vec _, n + 1 => let next := pc + 4#32; aheadWalk fuel next n (path ++ [next]) older s
      | i, n =>
        if yPassable i then
          let next := predictNext s.yar i pc len
          aheadWalk fuel next n (path ++ [next]) (older ++ [i]) s
        else none

/-- Vetch begins the next instruction on the predicted path, if it is one that `mine` names (R226). -/
def vAhead (mine : YInstr → Bool) (s : State) : State :=
  let y := s.yar
  if !y.run || y.dbg.halted || y.wfi || y.wait.isSome || 2 ≤ y.vet.pend.length then s
  else match aheadWalk 16 y.pc y.vet.pend.length [] [] s with
    | none => s
    | some (w, pc, path, older) =>
      let reads := fun (r : Nat) => older.any (fun i => yWrites i r)
      let scalar := (wf w 0 7 == 0x2B && vX w && reads (vVs2 w)) ||
        (mClass w == 0 && wf w 0 7 == 0x5B && (reads (vVs1 w) || (mOp w == 1 && reads (vVs2 w))))
      if !mine (.vec w) || scalar then s else vBegin w pc path s

/-- VETCH_RUNAHEAD_COMMIT (R227): the oldest run-ahead instruction retires, where it is the one at PC. -/
def vRetire (s : State) : State :=
  match s.yar.vet.pend with
  | p :: _ => yStep (fun i => i == .vec p.word) none s
  | [] => s

end Sys2Proof.Machine
end

