-- ==== Sys2Proof/Machine/Settle.lean ====
section
/-!
DEFINITION. Yarrow's debug access (R190), and what happens when a chain request that someone waits for has ended (R92).
-/
namespace Sys2Proof.Machine

/-- DEBUG_HALT (R190, R187, R228). Before release it is remembered, as the reset halt; while a load or a unit of a block routine waits for
the chain, it is made when that has ended. -/
def debugHalt (s : State) : State :=
  if !debugOpen s then s
  else if !s.yar.run then s.updDbg (fun d => { d with resetHalt := true })
  else if s.yar.dbg.halted then s
  else if s.yar.wait.isSome then s.updDbg (fun d => { d with haltReq := true })
  else debugEnter 3 s

/-- Is an abstract command still under way: an instruction of the program buffer waits? -/
def progBusy (s : State) : Bool := s.yar.wait.isSome || !s.yar.dbg.prog.isEmpty

/-- DEBUG_RESUME (R190). Nothing happens while an abstract command is under way. -/
def debugResume (s : State) : State :=
  if !debugOpen s || !s.yar.dbg.halted || progBusy s then s
  else s.updYar (fun y => { y with
    pc := y.dbg.dpc
    mach := fieldOf 0 2 y.dbg.dcsr == 3
    dbg := { y.dbg with halted := false, cmderr := 0 } })

/-- The program buffer's half-words. -/
def progHalves (d : YDebug) : List Nat :=
  d.progbuf.toList.flatMap (fun w => [w.toNat % 65536, w.toNat / 65536])

/-- May the program buffer hold the instruction (PRESUMED: those whose effect does not depend on PC, and WFI, which does nothing there;
assumption log 41)? -/
def progAllows (i : YInstr) : Bool :=
  match i with
  | .alu .. => true
  | .mul .. => true
  | .div .. => true
  | .load .. => true
  | .store .. => true
  | .flw .. => true
  | .fsw .. => true
  | .fence => true
  | .fenceI => true
  | .csr .. => true
  | .fp .. => true
  | .fma .. => true
  | .block _ => true
  | .vec _ => true
  | .wfi => true
  | _ => false

/-- The program buffer runs up to an EBREAK, its end, or an error. An instruction that waits for the chain leaves the rest to be run when
its access has ended; one that waits for the store buffer is run again then. -/
def progRun : Nat → List Nat → State → State
  | 0, _, s => s
  | fuel + 1, hs, s =>
    let go := fun (w : Word) (len : Nat) (rest : List Nat) =>
      let i := yDecode w len
      if i = .ebreak then s
      else if !progAllows i then s.updDbg (fun d => { d with cmderr := 3 })
      else if i = .wfi then progRun fuel rest s
      else match yExec w len i none (vetFinish s) with
        | .done s => if s.yar.dbg.cmderr = 0 then progRun fuel rest (drainAll s) else s
        | .busy s => s.updDbg (fun d => { d with prog := if s.yar.wait.isSome then rest else hs })
    match hs with
    | [] => s
    | a :: rest =>
      if a % 4 ≠ 3 then go (BitVec.ofNat 32 a) 2 rest
      else match rest with
        | [] => s
        | b :: rest => go (BitVec.ofNat 32 (a + 65536 * b)) 4 rest

/-- The rest of the program buffer runs once what its instruction waited for has ended. -/
def progResume (s : State) : State :=
  if s.yar.dbg.prog.isEmpty ∨ s.yar.wait.isSome then s
  else progRun 4 s.yar.dbg.prog (s.updDbg (fun d => { d with prog := [] }))

/-- ABSTRACT_COMMAND (R190). cmderr: 1 busy, 2 not supported, 3 exception, 4 not halted, 5 bus (R92). -/
def abstractCommand (c : DbgCmd) (s : State) : State :=
  let err := fun (e : Nat) (s : State) => s.updDbg (fun d => { d with cmderr := e })
  if !debugOpen s then s
  else if !s.yar.dbg.halted then err 4 s
  else if progBusy s then err 1 s
  else
    let s := err 0 s
    match c with
    | .readReg r =>
      let n := r.toNat
      if n < 0x1000 then
        match (if csrAllowed n false s.yar then csrRead n s else none) with
        | some w => s.answer w.toNat
        | none => err 3 s
      else if n < 0x1020 then s.answer (yReg (n - 0x1000) s).toNat
      else if n < 0x1040 then s.answer (fReg (n - 0x1020) s).toNat
      else err 2 s
    | .writeReg r v =>
      let n := r.toNat
      if n < 0x1000 then
        if csrAllowed n true s.yar && (csrRead n s).isSome then csrWrite n v s else err 3 s
      else if n < 0x1020 then yPut (n - 0x1000) v s
      else if n < 0x1040 then s.updYar (fun y => { y with f := y.f.set! (n - 0x1020) v })
      else err 2 s
    | .readVec v k => s.answer (s.yar.vet.done.reg v.val / 2 ^ (64 * k.val) % 2 ^ 64)
    | .run w0 w1 =>
      let s := s.updDbg (fun d => { d with progbuf := #v[w0, w1] })
      progRun 4 (progHalves s.yar.dbg) s

/-- A refused access of the debug port: data 0, the cause, and abstract-command error "bus" (R92). -/
def debugRefused (cause : Nat) (s : State) : State := (s.answerRefused cause).updDbg (fun d => { d with cmderr := 5 })

/-- SYSTEM_BUS_ACCESS (R190): 8, 16 or 32 bits with CID 62. -/
def systemBus (write : Bool) (a : Word) (sz : Fin 3) (v : Word) (s : State) : State :=
  if !debugOpen s then s
  else
    let size := 2 ^ sz.val
    match fabric .sba { cid := 62 } write a.toNat size (v.toNat % 256 ^ size) s with
    | (.ans (.ok d), s) => s.answer d.toNat
    | (.ans (.refused c), s) => debugRefused c.code s
    | (.wait, s) => s

-- Completions

/-- One ended chain request reaches who waits for it. -/
def settleOne (d : ReqBy × Option DWord) (s : State) : State :=
  match d.1 with
  | .yarrow => progResume (yarRemoteDone d.2 s)
  | .store => progResume (storeRemoteDone d.2.isSome s)
  | .dmaRead n => dmaRemoteDone n false d.2 s
  | .dmaWrite n => dmaRemoteDone n true d.2 s
  | .sba => match d.2 with
    | some w => s.answer w.toNat
    | none => debugRefused 8 s
  | _ => s

/-- Requests that have ended reach who waits for them, and those that end at once thereby. -/
def settleN : Nat → State → State
  | 0, s => s
  | n + 1, s =>
    match s.chn.done with
    | [] => s
    | ds => settleN n (ds.foldl (fun s d => settleOne d s) { s with chn := { s.chn with done := [] } })

/-- Every request that has ended reaches who waits for it. -/
def settle (s : State) : State := settleN (16 + s.chn.done.length) s

/-- A command whose effect is `f`. -/
def row (f : State → State) (s : State) : Result := .next (f s.begin)

/-- A command whose effect may end chain requests. -/
def rowS (f : State → State) (s : State) : Result := .next (settle (f s.begin))

end Sys2Proof.Machine
end

