-- ==== Sys2Proof/Machine/RowsBoot.lean ====
section
/-!
DEFINITION. The commands of chapter 02: the boot sequence and the image relay's part in it.
-/
namespace Sys2Proof.Machine

/-- BOOT_SEQUENCE (R46): what the boot meets outside the machine. -/
def execBootSequence (b : BootIn) (s : State) : Result := row (bootSequence b) s

/-- PERSONALITY_WAIT_TIMEOUT (R60). -/
def execPersonalityWaitTimeout (s : State) : Result := row (persTimeout) s

/-- RELAYTO_EXPIRY (R73). -/
def execRelaytoExpiry (s : State) : Result := row (relaytoExpire) s

/-- RELAYEND (R72). -/
def execRelayend (port : Fin 3) (s : State) : Result := rowS (onFrame port.val 3 0x1D relayEnd) s

end Sys2Proof.Machine
end

