-- ==== Sys2Proof/Machine/RowsCamp.lean ====
section
/-!
DEFINITION. The commands of chapters 04 and 05: the Campion cores.
-/
namespace Sys2Proof.Machine

/-- BUNDLE_ISSUE (R109). -/
def execBundleIssue (c : Fin 2) (s : State) : Result := rowS (bundleIssue c) s

/-- LEVEL_START (R119). -/
def execLevelStart (c : Fin 2) (s : State) : Result := row (levelStart c) s

/-- LOOP_TRIGGER (R128). -/
def execLoopTrigger (c : Fin 2) (s : State) : Result := row (schedTrigger c) s

/-- LSCTL_WRITE (R133). -/
def execLsctlWrite (c : Fin 2) (value : BitVec 16) (s : State) : Result := row (lsctlWrite c value.toNat) s

/-- CORE_RESTART (R136): a write of SYS_CPnCTL with RESTART = 1. -/
def execCoreRestart (cid : Cid) (c : Fin 2) (value : Word) (s : State) : Result :=
  rowS (fabricWrite cid.toNat (R.SYS_CPnCTL c.val).addr value) s

/-- HOLD_RELEASE (R136): a write of SYS_CPnCTL with HOLD = 0. -/
def execHoldRelease (cid : Cid) (c : Fin 2) (value : Word) (s : State) : Result :=
  rowS (fabricWrite cid.toNat (R.SYS_CPnCTL c.val).addr value) s

end Sys2Proof.Machine
end

