-- ==== Sys2Proof/Machine/RowsMap.lean ====
section
/-!
DEFINITION. The commands of chapter 03: register writes, the event router and DMA.
-/
namespace Sys2Proof.Machine

/-- A register write by a client; CID 62 reaches LCS_CMD and LCS_KEYDATA through the TAP (R462, R480). -/
def writeAny (cid : Cid) (a : Nat) (w : Word) (s : State) : State :=
  if cid = 62#6 ∧ (a = R.LCS_CMD.addr ∨ ((R.LCS_KEYDATAi 0).addr ≤ a ∧ a ≤ (R.LCS_KEYDATAi 7).addr)) then
    match lcsAccWrite a w s with
    | (.ok _, s) => s
    | (.refused c, s) => s.answerRefused c.code
  else fabricWrite cid.toNat a w s

/-- REGISTER_WRITE (R3). -/
def execRegisterWrite (cid : Cid) (addr value : Word) (s : State) : Result := rowS (writeAny cid addr.toNat value) s

/-- EVR_YCLAIM_READ (R100). -/
def execEvrYclaimRead (cid : Cid) (s : State) : Result := rowS (fabricRead cid.toNat R.EVR_YCLAIM.addr) s

/-- EVR_SWRAISE (R100). -/
def execEvrSwraise (cid : Cid) (num : Fin 4) (s : State) : Result :=
  rowS (fabricWrite cid.toNat R.EVR_SWRAISE.addr (BitVec.ofNat 32 num.val)) s

/-- EVR_LOCK_WRITE (R100). -/
def execEvrLockWrite (cid : Cid) (k : Fin 4) (value : Word) (s : State) : Result :=
  rowS (fabricWrite cid.toNat (R.EVR_LOCK k.val).addr value) s

/-- EVENT_OUTPUT_PULSE_END (R100). -/
def execEventOutputPulseEnd (q : Fin 128) (s : State) : Result := row (pulseEnd q.val) s

/-- DMA_START (R102): a write of DMA_CHnCTL with EN = 1. -/
def execDmaStart (cid : Cid) (n : Fin 8) (value : Word) (s : State) : Result :=
  rowS (fabricWrite cid.toNat (R.DMA_CHnCTL n.val).addr value) s

/-- DMA_ABORT (R103): a write of DMA_CHnCTL with ABORT = 1. -/
def execDmaAbort (cid : Cid) (n : Fin 8) (value : Word) (s : State) : Result :=
  rowS (fabricWrite cid.toNat (R.DMA_CHnCTL n.val).addr value) s

/-- DMA_SWTRIG (R519): a write of DMA_CHnCTL with SWTRIG = 1. -/
def execDmaSwtrig (cid : Cid) (n : Fin 8) (value : Word) (s : State) : Result :=
  rowS (fabricWrite cid.toNat (R.DMA_CHnCTL n.val).addr value) s

/-- DMA_TRIGGER (R518). -/
def execDmaTrigger (n : Fin 8) (t : Trig) (s : State) : Result := row (fun s => s.trigger n t) s

/-- DESCRIPTOR_FETCH (R101). -/
def execDescriptorFetch (n : Fin 8) (s : State) : Result := rowS (descFetch n) s

/-- DMA_ELEMENT (R102). -/
def execDmaElement (n : Fin 8) (s : State) : Result := rowS (dmaElement n) s

end Sys2Proof.Machine
end

