-- ==== Sys2Proof/Machine/RowsLife.lean ====
section
/-!
DEFINITION. The commands of chapters 15 to 17: governor, policy, life cycle, tamper, watchdogs, faults and pins.
-/
namespace Sys2Proof.Machine

/-- A write of LCS_CMD. -/
def lcsCmd (cid : Cid) (cmd : Nat) (slot : Fin 4) (key : BitVec 16) (s : State) : State :=
  writeAny cid R.LCS_CMD.addr (BitVec.ofNat 32 (cmd + 16 * slot.val + 65536 * key.toNat)) s

/-- VCORE_REACHED (R437). -/
def execVcoreReached (s : State) : Result := row (fun s => (calEnvironment (govReached s)).faultEval) s

/-- POLICY_CLEAR (R441). -/
def execPolicyClear (cid : Cid) (value : Word) (s : State) : Result := rowS (fabricWrite cid.toNat R.SYS_POLCTL.addr value) s

/-- RAMP_BACKSTOP_EXPIRY (R442). -/
def execRampBackstopExpiry (s : State) : Result := row (rampExpire) s

/-- DEVELOP (R462). -/
def execDevelop (cid : Cid) (key : BitVec 16) (s : State) : Result := rowS (lcsCmd cid 1 0 key) s

/-- SEAL (R462). -/
def execSeal (cid : Cid) (key : BitVec 16) (s : State) : Result := rowS (lcsCmd cid 2 0 key) s

/-- RETURN (R462). -/
def execReturnLc (cid : Cid) (key : BitVec 16) (s : State) : Result := rowS (lcsCmd cid 3 0 key) s

/-- SPEND (R462). -/
def execSpend (cid : Cid) (key : BitVec 16) (s : State) : Result := rowS (lcsCmd cid 4 0 key) s

/-- KEYPROG (R462). -/
def execKeyprog (cid : Cid) (slot : Fin 4) (key : BitVec 16) (s : State) : Result := rowS (lcsCmd cid 5 slot key) s

/-- REVOKE (R462). -/
def execRevoke (cid : Cid) (slot : Fin 4) (key : BitVec 16) (s : State) : Result := rowS (lcsCmd cid 6 slot key) s

/-- TAMPER_DETECT (R467). -/
def execTamperDetect (source : Fin 6) (s : State) : Result := row (tampDetect source.val) s

/-- TAMPER_CONDITION_END (R467). -/
def execTamperConditionEnd (source : Fin 6) (s : State) : Result := row (tampEnd source.val) s

/-- FUSE_REREAD (R467): `same`: the fuses read as at boot. -/
def execFuseReread (same : Bool) (s : State) : Result := row (fuseReread same) s

/-- TAMPCFG_WRITE (R469). -/
def execTampcfgWrite (cid : Cid) (value : Word) (s : State) : Result := rowS (fabricWrite cid.toNat R.LCS_TAMPCFG.addr value) s

/-- WATCHDOG_ENABLE (R472). -/
def execWatchdogEnable (cid : Cid) (n : Fin 2) (value : Word) (s : State) : Result :=
  rowS (fabricWrite cid.toNat (R.LCS_WDnCTL n.val).addr value) s

/-- WATCHDOG_KICK (R470). -/
def execWatchdogKick (cid : Cid) (n : Fin 2) (key : BitVec 16) (s : State) : Result :=
  rowS (fabricWrite cid.toNat (R.LCS_WDnKICK n.val).addr (key.setWidth 32)) s

/-- WATCHDOG_LATE (R471). -/
def execWatchdogLate (n : Fin 2) (s : State) : Result := row (wdLate n.val) s

/-- WATCHDOG_RESET (R471). -/
def execWatchdogReset (s : State) : Result := row (wdReset) s

/-- CLKMON_FAULT (R475). -/
def execClkmonFault (s : State) : Result := row (clkmonSet true) s

/-- CLKMON_RETURN (R475). -/
def execClkmonReturn (s : State) : Result := row (clkmonSet false) s

/-- FAULT_SET (R475). -/
def execFaultSet (cid : Cid) (value : Word) (s : State) : Result := rowS (fabricWrite cid.toNat R.LCS_FSET.addr value) s

/-- FAULT_CLEAR (R477). -/
def execFaultClear (cid : Cid) (key : BitVec 16) (s : State) : Result :=
  rowS (fabricWrite cid.toNat R.LCS_FCLR.addr (key.setWidth 32)) s

/-- PIN_SWITCH_REQUEST (R490). -/
def execPinSwitchRequest (cid : Cid) (value : Word) (s : State) : Result :=
  rowS (fabricWrite cid.toNat R.PIN_SWREQ.addr value) s

/-- PIN_SWITCH_TAKE (R491). -/
def execPinSwitchTake (s : State) : Result := row (switchTake) s

/-- GPIO_SET (R492). -/
def execGpioSet (cid : Cid) (k : Fin 4) (value : Word) (s : State) : Result :=
  rowS (fabricWrite cid.toNat (R.PIN_GPSET k.val).addr value) s

/-- GPIO_CLEAR (R492). -/
def execGpioClear (cid : Cid) (k : Fin 4) (value : Word) (s : State) : Result :=
  rowS (fabricWrite cid.toNat (R.PIN_GPCLR k.val).addr value) s

end Sys2Proof.Machine
end

