-- ==== Sys2Proof/Machine/RowsLink.lean ====
section
/-!
DEFINITION. The commands of chapter 13: the chain link and its management frames.
-/
namespace Sys2Proof.Machine

/-- RECEIVER_LOCK (R378). -/
def execReceiverLock (p : Fin 2) (inverted : Bool) (rate : Fin 3) (s : State) : Result :=
  rowS (receiverLock p inverted rate.val) s

/-- LOSS_OF_CHAIN_LOCK (R378). -/
def execLossOfChainLock (p : Fin 2) (codeErr : Bool) (s : State) : Result := rowS (lossOfLock p codeErr) s

/-- LINK_DOWN (R398). -/
def execLinkDown (p : Fin 2) (s : State) : Result := rowS (lockLostLong p) s

/-- ERROR_COUNT_INTERVAL (R378). -/
def execErrorCountInterval (p : Fin 2) (s : State) : Result := row (errInterval p) s

/-- ERRLIM_HOLDOFF_END (R378). -/
def execErrlimHoldoffEnd (p : Fin 2) (s : State) : Result := row (holdoffEnd p) s

/-- IDLE_SYMBOL (R376). -/
def execIdleSymbol (p : Fin 2) (bytes : List Byte) (chk : Byte) (s : State) : Result := rowS (idleSymbol p bytes chk) s

/-- FRAME_RECEIVE (R382): the class of the SOF, the bytes up to the EOF, whether a code error came, whether EOFP ended it. -/
def execFrameReceive (p : Fin 2) (cls : Fin 4) (bytes : List Byte) (codeErr eofp : Bool) (residence : Nat) (s : State) : Result :=
  rowS (frameReceive p cls.val bytes codeErr eofp residence) s

/-- CUT_THROUGH_FORWARD (R384). -/
def execCutThroughForward (p : Fin 2) (cls : Fin 4) (dst : BitVec 7) (s : State) : Result :=
  rowS (cutThrough p cls.val dst.toNat) s

/-- TRANSMIT_NEXT_FRAME (R388). -/
def execTransmitNextFrame (p : Fin 2) (residence : Nat) (s : State) : Result := rowS (transmitNext p residence) s

/-- HELLO (R391): port 0 UP, 1 DOWN, 2 the host. -/
def execHello (port : Fin 3) (s : State) : Result := rowS (fun s => bootPoll (onFrame port.val 3 1 (onHello port.val) s)) s

/-- ASSIGN (R393). -/
def execAssign (port : Fin 3) (s : State) : Result := rowS (fun s => bootPoll (onFrame port.val 3 2 (onAssign port.val) s)) s

/-- ENUMRPT (R392). -/
def execEnumrpt (port : Fin 3) (s : State) : Result := rowS (onFrame port.val 3 3 onEnumrpt) s

/-- ROUTE (R383). -/
def execRoute (port : Fin 3) (s : State) : Result := rowS (onFrame port.val 3 4 onRoute) s

/-- LINKRPT (R395). -/
def execLinkrpt (port : Fin 3) (s : State) : Result := rowS (onFrame port.val 3 5 onLinkrpt) s

/-- ORPHAN (R398). -/
def execOrphan (port : Fin 3) (s : State) : Result := rowS (onFrame port.val 3 6 onOrphan) s

/-- VERSION (R402). -/
def execVersion (port : Fin 3) (s : State) : Result := rowS (onFrame port.val 3 7 onVersion) s

/-- RATECHG (R377). -/
def execRatechg (port : Fin 3) (s : State) : Result := rowS (onFrame port.val 3 8 (fun _ s => onRatechg port.val s)) s

/-- IDENT (R390). -/
def execIdent (port : Fin 3) (s : State) : Result := rowS (onFrame port.val 3 9 onIdent) s

/-- IDENTRSP (R390): the identity page goes to who asked for it. -/
def execIdentrsp (port : Fin 3) (s : State) : Result :=
  rowS (onFrame port.val 3 10 (fun f s => { s with out := { s.out with sent := s.out.sent ++ [(2, f, false)] } })) s

/-- RESET (R391). -/
def execResetMgmt (port : Fin 3) (s : State) : Result :=
  rowS (onFrame port.val 3 11 (fun f s => if resetOk port.val f s then softReset true s else unkType port.val s)) s

/-- REJOIN (R400). -/
def execRejoin (port : Fin 3) (s : State) : Result := rowS (onFrame port.val 3 12 onRejoin) s

/-- REJOIN_SEND (R400). -/
def execRejoinSend (s : State) : Result := row (rejoinSend) s

/-- ENUMERATION_START (R392). -/
def execEnumerationStart (s : State) : Result :=
  rowS (fun s => if isHead s ∧ linkUp 1 s then bootPoll (enumerate false s) else s) s

/-- ENDWAIT_EXPIRY (R392). -/
def execEndwaitExpiry (s : State) : Result := row (endWaitExpire) s

/-- UNIT_LOST (R399). -/
def execUnitLost (a : BitVec 7) (s : State) : Result := rowS (unitLost a.toNat) s

end Sys2Proof.Machine
end

