-- ==== Sys2Proof/Machine/RowsMem.lean ====
section
/-!
DEFINITION. The commands of chapter 08: bank power, the secure bank, the march engine, the scrubber, fault injection.
-/
namespace Sys2Proof.Machine

/-- POWER_STATE_REQUEST (R239). -/
def execPowerStateRequest (cid : Cid) (bank : Fin 68) (value : Word) (s : State) : Result :=
  rowS (fabricWrite cid.toNat (R.MEM_PWR bank.val).addr value) s

/-- POWER_TRANSITION_DONE (R239). -/
def execPowerTransitionDone (bank : Fin 68) (s : State) : Result := row (pwrDone bank.val) s

/-- SECURE_WIPE (R243). -/
def execSecureWipe (cid : Cid) (value : Word) (s : State) : Result := rowS (fabricWrite cid.toNat R.MEM_SECCTL.addr value) s

/-- WIPE_DONE (R244): `ok`: the read-back agrees. -/
def execWipeDone (ok : Bool) (s : State) : Result := row (wipeDone ok) s

/-- MARCH_START (R250). -/
def execMarchStart (cid : Cid) (value : Word) (s : State) : Result := rowS (fabricWrite cid.toNat R.MEM_MARCHCTL.addr value) s

/-- MARCH_ABORT (R250). -/
def execMarchAbort (cid : Cid) (value : Word) (s : State) : Result := rowS (fabricWrite cid.toNat R.MEM_MARCHCTL.addr value) s

/-- MARCH_SEGMENT (R246): `flips`: faults of the array: element, word and the bits that read inverted. -/
def execMarchSegment (flips : List (Nat × Nat × BitVec 39)) (s : State) : Result := row (marchWork flips) s

/-- SCRUB_READ (R251). -/
def execScrubRead (s : State) : Result := row (scrubRead) s

/-- INJECTION_ARM (R252). -/
def execInjectionArm (cid : Cid) (value : Word) (s : State) : Result := rowS (fabricWrite cid.toNat R.MEM_INJCTL.addr value) s

end Sys2Proof.Machine
end

