-- ==== Sys2Proof/Machine/RowsPwm.lean ====
section
/-!
DEFINITION. The commands of chapter 10: carriers, legs and fault inputs.
-/
namespace Sys2Proof.Machine

/-- CARRIER_START (R293). -/
def execCarrierStart (g : Fin 4) (s : State) : Result := row (carrierStart g.val) s

/-- CARRIER_ZERO_EVENT (R293). -/
def execCarrierZeroEvent (g : Fin 4) (s : State) : Result := row (carrierZero g.val) s

/-- CARRIER_PEAK_EVENT (R293). -/
def execCarrierPeakEvent (g : Fin 4) (s : State) : Result := row (carrierPeak g.val) s

/-- LOCAL_ZERO (R302). -/
def execLocalZero (l : Fin 16) (s : State) : Result := row (localZero l.val) s

/-- LOCAL_PEAK (R304). -/
def execLocalPeak (l : Fin 16) (s : State) : Result := row (localPeak l.val) s

/-- OUTPUT_EDGE (R301). -/
def execOutputEdge (l : Fin 16) (s : State) : Result := row (outputEdge l.val) s

/-- GCOMMIT (R307). -/
def execGcommit (cid : Cid) (g : Fin 4) (value : Word) (s : State) : Result :=
  rowS (fabricWrite cid.toNat (R.PWM_GCOMMIT (g.val / 2) (g.val % 2)).addr value) s

/-- ARM (R310): a write of PWM_LnCTL with ARM = 1. -/
def execArm (cid : Cid) (l : Fin 16) (s : State) : Result :=
  rowS (fabricWrite cid.toNat (R.PWM_LnCTL (l.val / 8) (l.val % 8)).addr 1#32) s

/-- DISARM (R311): a write of PWM_LnCTL with DISARM = 1. -/
def execDisarm (cid : Cid) (l : Fin 16) (s : State) : Result :=
  rowS (fabricWrite cid.toNat (R.PWM_LnCTL (l.val / 8) (l.val % 8)).addr 2#32) s

/-- CLRFLT (R318): a write of PWM_LnCTL with CLRFLT = 1. -/
def execClrflt (cid : Cid) (l : Fin 16) (s : State) : Result :=
  rowS (fabricWrite cid.toNat (R.PWM_LnCTL (l.val / 8) (l.val % 8)).addr 4#32) s

/-- LEG_CFG_WRITE (R312). -/
def execLegCfgWrite (cid : Cid) (l : Fin 16) (value : Word) (s : State) : Result :=
  rowS (fabricWrite cid.toNat (R.PWM_LnCFG (l.val / 8) (l.val % 8)).addr value) s

/-- TRIGGER_COMPARE_FIRE (R313). -/
def execTriggerCompareFire (g : Fin 4) (k : Fin 8) (s : State) : Result := row (triggerFire g.val k.val) s

/-- FAULT_INPUT (R315): pin FLTi active for `ns` nanoseconds, or from now on. -/
def execFaultInput (i : Fin 8) (ns : Option Nat) (s : State) : Result := row (fltPulse i ns) s

/-- FAULT_INPUT_INACTIVE (R318). -/
def execFaultInputInactive (i : Fin 8) (s : State) : Result := row (fltInactive i) s

end Sys2Proof.Machine
end

