-- ==== Sys2Proof/Machine/RowsSense.lean ====
section
/-!
DEFINITION. The commands of chapter 11: converters, comparators, temperature and supplies.
-/
namespace Sys2Proof.Machine

/-- ADC_ENABLE (R328): a write of ADC_cSEQCTL with EN = 1. -/
def execAdcEnable (cid : Cid) (c : Fin 4) (value : Word) (s : State) : Result :=
  rowS (fabricWrite cid.toNat (R.ADC_cSEQCTL c.val).addr value) s

/-- ADC_DISABLE (R330): a write of ADC_cSEQCTL with EN = 0. -/
def execAdcDisable (cid : Cid) (c : Fin 4) (value : Word) (s : State) : Result :=
  rowS (fabricWrite cid.toNat (R.ADC_cSEQCTL c.val).addr value) s

/-- ADC_TIMER_FIRE (R327). -/
def execAdcTimerFire (c : Fin 4) (s : State) : Result := row (adcTimer c.val) s

/-- ADC_SOFT (R326). -/
def execAdcSoft (cid : Cid) (c : Fin 4) (value : Word) (s : State) : Result :=
  rowS (fabricWrite cid.toNat (R.ADC_cSOFT c.val).addr value) s

/-- SAMPLING_INSTANT (R326): the voltages at the inputs at that instant. -/
def execSamplingInstant (c : Fin 4) (v : Analog) (s : State) : Result := row (adcSample c.val v) s

/-- The external code of the policy, in FMT 0, follows the entry that XSRC names (POLICY byte 0x26, R443). -/
def xsrcUpdate (c : Nat) (x : Sample) (s : State) : State :=
  if polByte 0x26 s = 0x80 + 16 * c + x.entry then
    thermUpdate { s with pol := { s.pol with lastX := adcValue false x.code } }
  else s

/-- CONVERSION_END (R328). -/
def execConversionEnd (c : Fin 4) (s : State) : Result :=
  row (fun s => match (s.conv c.val).cur with | some x => xsrcUpdate c.val x (adcEnd c.val s) | none => adcEnd c.val s) s

/-- RESULT_PORT_READ (R333): a Campion read of word 0 of the port. -/
def execResultPortRead (core : Fin 2) (c : Fin 4) (e : Fin 16) (s : State) : Result :=
  row (fun s => let r := portRead core.val c.val e.val 0 s; r.2.answer r.1) s

/-- RESA_READ (R333). -/
def execResaRead (cid : Cid) (c : Fin 4) (e : Fin 16) (s : State) : Result :=
  rowS (fabricRead cid.toNat (R.ADC_cRESAe c.val e.val).addr) s

/-- COMPARATOR_TRIP (R334), with the voltages at that instant. -/
def execComparatorTrip (c : CmpEvent) (s : State) : Result := row (cmpTrip c.k.val c.v) s

/-- COMPARATOR_RELEASE (R334), with the voltages at that instant. -/
def execComparatorRelease (c : CmpEvent) (s : State) : Result := row (cmpRelease c.k.val c.v) s

/-- BLANKING_WINDOW_CLOSE (R335). -/
def execBlankingWindowClose (k : Fin 8) (s : State) : Result := row (blankClose k.val) s

/-- The COLD tamper condition (R467): at or below −50 °C, in 0.25 °C units. -/
def coldCheck (t : Int) (s : State) : State := if t ≤ -200 then tampDetect 5 s else tampEnd 5 s

/-- TEMPERATURE_MEASUREMENT (R337): the junction temperature in 0.25 °C units. -/
def execTemperatureMeasurement (t : Int) (s : State) : Result :=
  row (fun s => coldCheck t (calEnvironment (thermUpdate (tjMeasure t s))).faultEval) s

/-- SUPPLY_LOW (R338). -/
def execSupplyLow (i : Fin 3) (s : State) : Result := row (supplyLow i.val) s

/-- SUPPLY_LIVE_FLAG_CLEAR (R338). -/
def execSupplyLiveFlagClear (i : Fin 3) (s : State) : Result := row (supplyBack i.val) s

end Sys2Proof.Machine
end

