-- ==== Sys2Proof/Machine/Ledger.lean ====
section
/-!
DEFINITION. The conservation ledgers (R285, R286, R389).
-/
namespace Sys2Proof.Machine

/-- The pool ledger: FREE, the counts of the CIDs and TRANSIT make 512. -/
def poolOff (s : State) : Bool :=
  freeCount s + bufCount .owned s + bufCount .reserved s + bufCount .transit s != 512

/-- The ledger of semaphore `k`: COUNT and the holders make INIT. -/
def semOff (k : Nat) (s : State) : Bool := semCount k s + (s.sem k).holders.length != semInit k s

/-- The ledger of mailbox `m`: a handle that is still to be taken stands only under FULL. -/
def mbxOff (m : Nat) (s : State) : Bool := (s.bell m).getLsbD 29 && !bellFull m s

/-- Is a ledger out of balance: `which` is its bit of MBX_LEDGER, `index` its semaphore, mailbox, or 4 × port + class? A credit ledger is
not checked while the link is down (R389). -/
def ledgerOff (which index : Nat) (s : State) : Bool :=
  match which with
  | 0 => poolOff s
  | 1 => semOff index s
  | 2 => mbxOff index s
  | _ => linkUp (portIx (index / 4)) s && creditOff (portIx (index / 4)) (index % 4) s

/-- The quiescent points of the pool, the semaphores and the mailboxes lie between commands: at each TB10 tick, ledgers back in balance
are forgotten and those newly out of balance noted. A credit ledger is looked at when an idle symbol arrives (DEDUCED, assumption log
72). -/
def ledgerScan (s : State) : State :=
  let live := s.share.ledgers.filter (fun e => decide (3 ≤ e.1) || ledgerOff e.1 e.2.1 s)
  let off := (if poolOff s then [(0, 0)] else []) ++ ((s.share.sems.filter (fun e => semOff e.1 s)).map (fun e => (1, e.1))) ++
    ((s.share.bell.filter (fun e => mbxOff e.1 s)).map (fun e => (2, e.1)))
  let new := off.filter (fun e => !live.any (fun x => x.1 == e.1 && x.2.1 == e.2))
  { s with share := { s.share with ledgers := live ++ new.map (fun e => (e.1, e.2, s.tb.cnt.get 10)) } }

/-- LEDGER_FAIL (R286): a ledger found out of balance 1600 TB10 ticks ago, and still so. -/
def ledgerFail (which index : Nat) (s : State) : State :=
  match s.share.ledgers.find? (fun e => e.1 == which && e.2.1 == index) with
  | none => s
  | some e =>
    if s.tb.cnt.get 10 < e.2.2 + 1600 ∨ !ledgerOff which index s then s
    else
      let s := { s with share := { s.share with ledgers := s.share.ledgers.erase e } }
      let s := if s.get F.MBX_LEDGER_FAIL = 0 then s.set F.MBX_LEDGER_INDEX index else s
      ((s.setBit F.MBX_LEDGER_FAIL which true).raise 0x01).faultEval

end Sys2Proof.Machine
end

