-- ==== Sys2Proof/Machine/RowsShare.lean ====
section
/-!
DEFINITION. The commands of chapter 09: semaphores, mailboxes, the buffer pool.
-/
namespace Sys2Proof.Machine

/-- SEM_TRY (R261). -/
def execSemTry (cid : Cid) (k : Fin 128) (s : State) : Result := rowS (fabricRead cid.toNat (R.SEM_PORT k.val).addr) s

/-- SEM_TAKE (R262). -/
def execSemTake (cid : Cid) (k : Fin 128) (s : State) : Result := rowS (fabricRead cid.toNat (R.SEM_TAKE k.val).addr) s

/-- SEM_GIVE (R263). -/
def execSemGive (cid : Cid) (k : Fin 128) (s : State) : Result := rowS (fabricWrite cid.toNat (R.SEM_PORT k.val).addr 0#32) s

/-- SEM_CANCEL (R264). -/
def execSemCancel (cid : Cid) (k : Fin 128) (s : State) : Result :=
  rowS (fabricWrite cid.toNat R.SEM_CANCEL.addr (BitVec.ofNat 32 k.val)) s

/-- SEM_RECLAIM (R264). -/
def execSemReclaim (cid target : Cid) (s : State) : Result :=
  rowS (fabricWrite cid.toNat R.SEM_RECLAIM.addr (target.setWidth 32)) s

/-- SEM_GRANT_READ (R265). -/
def execSemGrantRead (cid : Cid) (s : State) : Result := rowS (fabricRead cid.toNat R.SEM_GRANT.addr) s

/-- INHERITANCE_HOP (R267). -/
def execInheritanceHop (group : Fin 8) (s : State) : Result := row (nextHop group.val) s

/-- MAILBOX_POST (R274): a write of the doorbell with OP POST. -/
def execMailboxPost (cid : Cid) (m : Fin 32) (data : BitVec 16) (handle : Bool) (s : State) : Result :=
  rowS (fun s => fabricWrite cid.toNat (0x40007D00 + 16 * m.val) (BitVec.ofNat 32 (data.toNat + (if handle then 0x20000000 else 0) + 0x80000000)) s) s

/-- MAILBOX_ACK (R276): a write of the doorbell with OP ACK. -/
def execMailboxAck (cid : Cid) (m : Fin 32) (s : State) : Result :=
  rowS (fabricWrite cid.toNat (0x40007D00 + 16 * m.val) 0x40000000#32) s

/-- ALLOC (R280). -/
def execAlloc (cid : Cid) (s : State) : Result := rowS (fabricRead cid.toNat R.POOL_ALLOC.addr) s

/-- POOL_FREE (R281). -/
def execPoolFree (cid : Cid) (handle : BitVec 16) (s : State) : Result :=
  rowS (fabricWrite cid.toNat R.POOL_FREE.addr (handle.setWidth 32)) s

/-- POOL_GIVE (R281). -/
def execPoolGive (cid : Cid) (handle : BitVec 16) (target : Cid) (s : State) : Result :=
  rowS (fabricWrite cid.toNat R.POOL_GIVE.addr (BitVec.ofNat 32 (handle.toNat + 65536 * target.toNat))) s

/-- POOL_LINK (R281). -/
def execPoolLink (cid : Cid) (handle next : BitVec 16) (s : State) : Result :=
  rowS (fabricWrite cid.toNat R.POOL_LINK.addr (BitVec.ofNat 32 (handle.toNat + 65536 * next.toNat))) s

/-- POOL_RECLAIM (R283). -/
def execPoolReclaim (cid target : Cid) (s : State) : Result :=
  rowS (fabricWrite cid.toNat R.POOL_RECLAIM.addr (target.setWidth 32)) s

/-- LEDGER_FAIL (R286): `which` ledger (R285) and its INDEX. -/
def execLedgerFail (which index : Nat) (s : State) : Result := row (ledgerFail which index) s

end Sys2Proof.Machine
end

