-- ==== Sys2Proof/Machine/TslOps.lean ====
section
/-!
DEFINITION. One step of a Teasel channel (R344 to R357, R360), by instruction class, and the firing of pin events (R348).
-/
namespace Sys2Proof.Machine

/-- What a step of a channel comes to: done (PC advances, or goes where a branch says), waiting, or stopped with a cause. -/
inductive TslOut where
  | next (s : State) | goto (pc : Nat) (s : State) | wait (s : State) | stop (cause : Nat) (s : State)

def TslOut.state : TslOut → State
  | .next s => s
  | .goto _ s => s
  | .wait s => s
  | .stop _ s => s

/-- The tick that TC names, seen from TB9: the 32-bit cursor nearest to the present count. -/
def tslTick (t : Nat) (s : State) : Int :=
  let n := tb9 s
  (n : Int) + (BitVec.ofInt 32 ((s.get (F.TSL_CHtTC_TC t) : Int) - n)).toInt

def putTick (t : Nat) (k : Int) (s : State) : State := s.setInt (F.TSL_CHtTC_TC t) k

/-- The pin that instruction field `p` of channel `t` names, none where it is not in the window (R351). -/
def tslPinOf (t p : Nat) (s : State) : Option Nat :=
  if p < tslCount t s ∧ tslBase t s + p < 32 then some (tslBase t s + p) else none

def pinAt (n : Nat) (s : State) : TslPin := s.tslPin.toList.getD n {}
def setPin (n : Nat) (x : TslPin) (s : State) : State :=
  { s with tslPin := s.tslPin.mapIdx (fun i p => if i = n then x else p) }

/-- The level of pin `n` at tick `k` (R347). -/
def levelAt (n : Nat) (k : Int) (s : State) : Bool :=
  let es := (pinAt n s).edges
  match es.find? (fun e => decide ((e.1 : Int) ≤ k)) with
  | some e => e.2
  | none => match es.getLast? with
    | some e => !e.2
    | none => s.bit F.TSL_PINLVL_LVL n

/-- Is the level at tick `k` known (R347)? -/
def levelKnown (k : Int) (s : State) : Bool := decide (k + 2 ≤ (tb9 s : Int))

/-- Z and N of a result; C keeps. -/
def tslZn (t : Nat) (w : Word) (s : State) : State :=
  let c := s.get (F.TSL_CHtSTAT_C t) % 2
  s.set (F.TSL_CHtSTAT_C t) (c + (if w = 0#32 then 2 else 0) + (if w.getLsbD 31 then 4 else 0))

def tslSetC (t : Nat) (b : Bool) (s : State) : State := s.setBit (F.TSL_CHtSTAT_C t) 0 b

/-- An event is posted on pin `n` for tick `k` (R348, R349). -/
def tslPost (t n : Nat) (d : PinDrive) (k : Int) (s : State) : TslOut :=
  let x := pinAt n s
  let post := fun (k : Nat) (s : State) =>
    setPin n { x with queue := x.queue.filter (fun e => e.2 != k) ++ [(d, k)] } s
  if k < (tb9 s : Int) + 2 then
    if s.on (F.TSL_CHtCFG_LATEPOL t) then .stop 3 s
    else .next (post (tb9 s + 2) ((s.set (F.TSL_CHtSTAT_LATE t) 1).count (F.TSL_CHtLATECNT_COUNT t)))
  else .next (post k.toNat s)

/-- DRIVE (R352, R355). -/
def tslDrive (t : Nat) (w : Word) (s : State) : TslOut :=
  match tslPinOf t (fieldOf 25 3 w) s with
  | none => .stop 2 s
  | some n =>
    if fieldOf 16 6 w ≠ 0 then .stop 2 s
    else if 2 ≤ (pinAt n s).queue.length then .wait s
    else
      let d := if fieldOf 22 1 w = 1 then s.get (F.TSL_CHtS1 t) % 65536 else fieldOf 0 16 w
      let k := tslTick t s + d
      let lvl := match fieldOf 23 2 w with
        | 0 => PinDrive.low
        | 1 => .high
        | 2 => .z
        | _ => if s.get (F.TSL_CHtSO t) % 2 = 1 then .high else .low
      tslPost t n lvl k (putTick t k s)

/-- SAMPLE (R352). The level shifts into SI under SIDIR. TC moves once; the wait is for the level. -/
def tslSample (t : Nat) (w : Word) (s : State) : TslOut :=
  match tslPinOf t (fieldOf 25 3 w) s with
  | none => .stop 2 s
  | some n =>
    if fieldOf 16 9 w ≠ 0 then .stop 2 s
    else
      let k := tslTick t s + (fieldOf 0 16 w : Nat)
      if !levelKnown k s then .wait s
      else
        let v := levelAt n k s
        let b := if v then 1 else 0
        let si := s.get (F.TSL_CHtSI t)
        let si := if s.on (F.TSL_CHtCFG_SIDIR t) then si / 2 + b * 2 ^ 31 else si * 2 + b
        .next (tslSetC t v ((putTick t k s).set (F.TSL_CHtSI t) si))

/-- SHIFT (R352). -/
def tslShift (t : Nat) (w : Word) (s : State) : TslOut :=
  if fieldOf 0 18 w ≠ 0 then .stop 2 s
  else
    let reg := fun (k : Nat) => match k with
      | 0 => F.TSL_CHtSO t
      | 1 => F.TSL_CHtSI t
      | 2 => F.TSL_CHtS0 t
      | _ => F.TSL_CHtS1 t
    let a := BitVec.ofNat 32 (s.get (reg (fieldOf 24 2 w)))
    let n := fieldOf 18 5 w
    let r := if fieldOf 23 1 w = 0 then a >>> n else a <<< n
    .next (tslZn t r (s.set (reg (fieldOf 26 2 w)) r.toNat))

/-- A FIFO does not allow the operation: the channel stalls (R357). DEDUCED (assumption log 42): a stalled channel also waits (R346). -/
def tslStall (t : Nat) (s : State) : TslOut :=
  .wait ((s.set (F.TSL_CHtSTAT_STALL t) 1).set (F.TSL_CHtSTAT_STALLED t) 1)

/-- The channel resumes, if it was stalled. -/
def tslResume (t : Nat) (s : State) : State :=
  if s.on (F.TSL_CHtSTAT_STALL t) then
    let s := s.set (F.TSL_CHtSTAT_STALL t) 0
    if s.on (F.TSL_CHtCFG_RESYNC t) then
      putTick t (max (tslTick t s) ((tb9 s + s.get (F.TSL_CHtCFG_LEAD t) : Nat) : Int)) s
    else s
  else s

/-- FETCH (R352, R357). -/
def tslFetch (t : Nat) (w : Word) (s : State) : TslOut :=
  let dst := fieldOf 26 2 w
  if fieldOf 0 26 w ≠ 0 ∨ dst = 1 then .stop 2 s
  else
    let x := s.ts t
    match x.outq with
    | [] => tslStall t s
    | d :: rest =>
      let s := tslResume t s
      let f := if dst = 0 then F.TSL_CHtSO t else if dst = 2 then F.TSL_CHtS0 t else F.TSL_CHtS1 t
      .next (fifoKick t ((s.set f d.toNat).setTs t { x with outq := rest }))

/-- DEPOSIT (R352, R357). -/
def tslDeposit (t : Nat) (w : Word) (s : State) : TslOut :=
  if fieldOf 0 26 w ≠ 0 then .stop 2 s
  else
    let x := s.ts t
    if 4 ≤ x.inq.length then tslStall t s
    else
      let s := tslResume t s
      let v := match fieldOf 26 2 w with
        | 0 => s.get (F.TSL_CHtSI t)
        | 1 => s.get (F.TSL_CHtTC_TC t)
        | 2 => s.get (F.TSL_CHtS0 t)
        | _ => s.get (F.TSL_CHtS1 t)
      .next (fifoKick t (s.setTs t { x with inq := x.inq ++ [BitVec.ofNat 32 v] }))

/-- The edges of pin `n`, oldest first, that an AWAIT of condition `cond` from tick `tc` qualifies and that are known. -/
def awaitEdges (n cond : Nat) (tc : Int) (s : State) : List (Nat × Bool) :=
  ((pinAt n s).edges.filter (fun e => decide (tc < (e.1 : Int)) && levelKnown e.1 s &&
    (cond == 4 || e.2 == (cond == 1 || cond == 2)))).reverse

/-- The tick at which an AWAIT for a pin is met, with whether the edge record overran (R350, R353). -/
def awaitPinTick (n cond : Nat) (tc : Int) (s : State) : Option Int × Bool :=
  if cond < 2 ∧ levelKnown tc s ∧ levelAt n tc s = (cond == 1) then (some tc, false)
  else
    let q := awaitEdges n cond tc s
    let record := (pinAt n s).edges.take 2
    match q with
    | [] => (none, false)
    | e :: _ =>
      if record.contains e then (some e.1, false)
      else ((q.find? (fun e => record.contains e)).map (fun e => (e.1 : Int)), true)

/-- The lowest-numbered pending route of event input `p` (R99, R353). -/
def eventInput (p : Nat) (s : State) : Option Nat :=
  (List.range 128).find? (fun q => routePend q s && routeClass q s == 5 && s.get (F.EVR_ROUTE_TIDX q) == p)

/-- AWAIT (R353). A timeout is armed when TIMEOUT is non-zero, except for COND 6. -/
def tslAwait (t : Nat) (w : Word) (s : State) : TslOut :=
  let cond := fieldOf 22 3 w
  let p := fieldOf 25 3 w
  let to_ := fieldOf 0 16 w
  let tc := tslTick t s
  let now : Int := tb9 s
  let dead := tc + to_
  if fieldOf 16 6 w ≠ 0 ∨ cond = 7 then .stop 2 s
  else if cond = 6 then (if dead ≤ now then .next (putTick t dead s) else .wait s)
  else if cond = 5 then
    let open_ := decide (to_ = 0 ∨ now ≤ dead)
    match (if open_ then eventInput p s else none) with
    | some q => .next (tslSetC t true (putTick t now (setRoutePend q false s)))
    | none => if to_ ≠ 0 ∧ dead ≤ now then .next (tslSetC t false (putTick t dead s)) else .wait s
  else match tslPinOf t p s with
    | none => .stop 2 s
    | some n =>
      let r := awaitPinTick n cond tc s
      let s := if r.2 then s.set (F.TSL_CHtSTAT_OVERRUN t) 1 else s
      match r.1 with
      | some k =>
        if to_ = 0 ∨ k ≤ dead then .next (tslSetC t true (putTick t k s))
        else .next (tslSetC t false (putTick t dead s))
      | none =>
        if to_ ≠ 0 ∧ levelKnown dead s then .next (tslSetC t false (putTick t dead s)) else .wait s

/-- COUNT (R352). -/
def tslCount4 (t : Nat) (w : Word) (s : State) : TslOut :=
  let op := fieldOf 24 3 w
  if fieldOf 16 8 w ≠ 0 ∨ 4 ≤ op then .stop 2 s
  else
    let f := if fieldOf 27 1 w = 1 then F.TSL_CHtS1 t else F.TSL_CHtS0 t
    let r := BitVec.ofNat 32 (s.get f)
    let imm : Word := (BitVec.ofNat 16 (fieldOf 0 16 w)).signExtend 32
    let tc := BitVec.ofNat 32 (s.get (F.TSL_CHtTC_TC t))
    let v := match op with
      | 0 => r + imm
      | 1 => imm
      | 2 => tc
      | _ => tc - r
    .next (tslZn t v (s.set f v.toNat))

/-- BRANCH (R354). -/
def tslBranch (t : Nat) (w : Word) (s : State) : TslOut :=
  let cond := fieldOf 24 4 w
  let pa := fieldOf 21 3 w
  let pb := fieldOf 18 3 w
  let fl := s.get (F.TSL_CHtSTAT_C t)
  let x := s.ts t
  let go := fun (b : Bool) => if b then TslOut.goto (fieldOf 0 11 w) s else .next s
  let tc := tslTick t s
  if fieldOf 11 7 w ≠ 0 ∨ 12 ≤ cond ∨ (pb ≠ 0 ∧ cond ≠ 8 ∧ cond ≠ 9) then .stop 2 s
  else match cond with
    | 0 => go true
    | 1 => go (natBit fl 1)
    | 2 => go (!natBit fl 1)
    | 3 => go (natBit fl 2)
    | 4 => go (natBit fl 0)
    | 5 => go (!natBit fl 0)
    | 10 => go x.outq.isEmpty
    | 11 => go (decide (4 ≤ x.inq.length))
    | _ =>
      match tslPinOf t pa s, tslPinOf t pb s with
      | some a, some b =>
        if !levelKnown tc s then .wait s
        else
          let la := levelAt a tc s
          let lb := levelAt b tc s
          go (match cond with
            | 6 => la
            | 7 => !la
            | 8 => la == lb
            | _ => la != lb)
      | _, _ => .stop 2 s

/-- SIGNAL (R352, R360). A refused semaphore access stops the channel. -/
def tslSignal (t : Nat) (w : Word) (s : State) : TslOut :=
  let op := fieldOf 26 2 w
  let ev := fieldOf 25 1 w
  let a := 0x50005000 + 4 * fieldOf 0 7 w
  let who : Who := { cid := 26 + t }
  if fieldOf 7 18 w ≠ 0 ∨ (op < 3 ∧ ev ≠ 0) then .stop 2 s
  else match op with
    | 0 => .next (s.raise (0x60 + t))
    | 1 => match fabric .other who false a 4 0 s with
      | (.ans (.ok d), s) => .next (tslSetC t (d.toNat % 16 == 1) s)
      | (_, s) => .stop 4 s
    | 2 => match fabric .other who true a 4 0 s with
      | (.ans (.ok _), s) => .next s
      | (_, s) => .stop 4 s
    | _ => .stop 1 (if ev = 1 then s.raise (0x60 + t) else s)

/-- The instruction of a channel by CLASS (R351, R352). -/
def tslExec (t : Nat) (w : Word) (s : State) : TslOut :=
  match fieldOf 28 4 w with
  | 1 => tslDrive t w s
  | 2 => tslSample t w s
  | 3 => tslShift t w s
  | 4 => tslFetch t w s
  | 5 => tslDeposit t w s
  | 6 => tslAwait t w s
  | 7 => tslCount4 t w s
  | 8 => tslBranch t w s
  | 9 => tslSignal t w s
  | _ => .stop 2 s

/-- The address of the instruction of channel `t`. -/
def tslAddr (t : Nat) (s : State) : Nat := 0x42000000 + 4 * s.get (F.TSL_CHtPC_PC t)

/-- Is channel `t` runnable (R345): running, with an instruction that does not wait? -/
def tslReady (t : Nat) (s : State) : Bool :=
  tslRuns t s && match peekWord s.mem (tslAddr t s) with
    | none => true
    | some w => match tslExec t w s with
      | .wait _ => false
      | _ => true

/-- Does the engine come to channel `t` next (R345): is no runnable channel visited before it, from the one the engine stands at? -/
def tslTurn (t : Nat) (s : State) : Bool :=
  let d := fun (u : Nat) => (u + 24 - s.svc.tslNext) % 24
  (List.range 24).all (fun u => decide (d t ≤ d u) || !tslReady u s)

/-- The engine has served channel `t`. -/
def tslServed (t : Nat) (s : State) : State := { s with svc := { s.svc with tslNext := (t + 1) % 24 } }

/-- A running channel t takes a step when the engine comes to it, if the word at its PC is an instruction that `mine` names or no
instruction (then it stops ILLEGAL). One whose condition is unmet takes no step: it shows WAIT, and what a stall or an overrun sets
(R345, R350, R355, R357). DEDUCED (assumption log 70): a fetch refused with BUSY stops the channel as REFUSED. -/
def tslStep (t : Nat) (mine : Word → Bool) (s : State) : State :=
  if !tslRuns t s then s
  else
    let pc := s.get (F.TSL_CHtPC_PC t)
    let who : Who := { cid := 26 + t, fetch := true }
    let turn := tslTurn t s
    match bankReady (tslAddr t s) s with
    | (false, u) => if turn then tslServed t (tslStop t 4 (busErr who false (tslAddr t s) .busy u)) else s
    | (true, u) =>
      match ramReadWord who 1 (tslAddr t s) u with
      | (none, u) => if turn then tslServed t (tslStop t 5 u) else s
      | (some w, u) =>
        let go := fun (pc : Nat) (s : State) =>
          (s.set (F.TSL_CHtSTAT_WAIT t) 0).set (F.TSL_CHtPC_PC t) pc
        let legal := decide (1 ≤ fieldOf 28 4 w ∧ fieldOf 28 4 w ≤ 9)
        if legal && !mine w then s
        else match tslExec t w u with
          | .wait v =>
            if s.on (F.TSL_CHtSTAT_WAIT t) then s.setWord (R.TSL_CHtSTAT t) (v.word (R.TSL_CHtSTAT t))
            else v.set (F.TSL_CHtSTAT_WAIT t) 1
          | .next v => if turn then tslServed t (go (pc + 1) v) else s
          | .goto k v => if turn then tslServed t (go k v) else s
          | .stop c v => if turn then tslServed t (tslStop t c (if c = 1 then go (pc + 1) v else v)) else s

/-- Is the word of CLASS `c`? -/
def tslClass (c : Nat) (w : Word) : Bool := fieldOf 28 4 w == c
/-- Is the word a COUNT with OP `op`, or a reserved one? -/
def tslCountOp (op : Nat) (w : Word) : Bool := fieldOf 28 4 w == 7 && (fieldOf 24 3 w == op || decide (4 ≤ fieldOf 24 3 w))
/-- Is the word a SIGNAL with OP `op`? -/
def tslSignalOp (op : Nat) (w : Word) : Bool := fieldOf 28 4 w == 9 && fieldOf 26 2 w == op

/-- PIN_EVENT_FIRE (R348): the earliest entry of pin `n` whose tick has come launches. Where the pin is connected, the new level is
captured. -/
def pinEventFire (n : Nat) (s : State) : State :=
  let x := pinAt n s
  let due := x.queue.filter (fun e => decide (e.2 ≤ tb9 s))
  match due.foldl (fun (b : Option (PinDrive × Nat)) e => match b with
      | none => some e
      | some b => if e.2 < b.2 then some e else some b) none with
  | none => s
  | some e =>
    let s := setPin n { x with drive := e.1, queue := x.queue.erase e } s
    if tpConnected n s then
      match padLevel (32 + n) s with
      | some v => tpEdge n v s
      | none => s
    else s

end Sys2Proof.Machine
end

