-- ==== Sys2Proof/Machine/RowsSvc.lean ====
section
/-!
DEFINITION. The service points of the shared resources and the scheduled actions (R11 to R16).
-/
namespace Sys2Proof.Machine

/-- SERVICE_POINT (R13): the requests that have arrived since the last service point. -/
def execServicePoint (q : Resource) (arrivals : List SvcReq) (s : State) : Result := rowS (servicePoint q arrivals) s

/-- A scheduled action takes place (R11): the same operation as its own command's. -/
def dueAction (d : Due) (s : State) : State :=
  match d with
  | .edge l => outputEdge l.val s
  | .trigger g k => triggerFire g.val k.val s
  | .loop c => schedTrigger c s
  | .pinEvent n => pinEventFire n.val s
  | .adcTimer c => adcTimer c.val s
  | .carrier g => carrierStart g.val s

/-- SCHEDULED_ACTION (R11). -/
def execScheduledAction (d : Due) (s : State) : Result := row (dueAction d) s

end Sys2Proof.Machine
end

