-- ==== Sys2Proof/Machine/RowsTime.lean ====
section
/-!
DEFINITION. The commands of chapters 01 and 02 that need no boot: resets, fuses, the reference and the timebases.
-/
namespace Sys2Proof.Machine

/-- POWER_ON_RESET (R40). -/
def execPowerOnReset (s : State) : Result := row (resetTo 0) s

/-- PIN_RESET (R41): nRST low for `ns` nanoseconds; between 100 ns and 1 µs the outcome is open. -/
def execPinReset (ns : Nat) (s : State) : Result :=
  row (fun s => if 1000 ≤ ns then resetTo 1 s else if ns < 100 then s else let r := s.draw; if r.1 % 2 = 1 then resetTo 1 r.2 else r.2) s

/-- SOFTRST_WRITE (R42). -/
def execSoftrstWrite (cid : Cid) (value : Word) (s : State) : Result := rowS (fabricWrite cid.toNat R.SYS_SOFTRST.addr value) s

/-- BOOT_CONFIRM (R69). -/
def execBootConfirm (cid : Cid) (value : Word) (s : State) : Result := rowS (fabricWrite cid.toNat R.SYS_BOOTCTL.addr value) s

/-- FUSE_BIT_DONE (R458): `ok`: the bit reads back blown. -/
def execFuseBitDone (ok : Bool) (s : State) : Result := row (fuseBitDone ok) s

/-- RELAY_ROUND_START (R71). -/
def execRelayRoundStart (s : State) : Result := row (relayRoundStart) s

/-- RELAY_FRAME_TIMEOUT (R73). -/
def execRelayFrameTimeout (s : State) : Result := row (relayTimeout) s

/-- LIMP_RELAY_RETRY (R73). -/
def execLimpRelayRetry (s : State) : Result := row (limpRetry) s

/-- TIMEBASE_LOCK (R18). -/
def execTimebaseLock (n : Fin 14) (s : State) : Result := row (gainLock n.val) s

/-- LOSS_OF_LOCK (R19). -/
def execLossOfLock (n : Fin 14) (s : State) : Result := row (loseLock n.val) s

/-- FILTERED_ERROR_RECOMPUTATION (R513): the RC period in primary-source units (8.24) and the error against chain time in 0.1 ppm, as measured. -/
def execFilteredErrorRecomputation (ratio : Nat) (err : Int) (s : State) : Result := row (recompute ratio err) s

/-- TRIM_REMOVAL_DONE (R26). -/
def execTrimRemovalDone (s : State) : Result := row (trimDone) s

/-- MISSING_EDGE_DETECT (R22). -/
def execMissingEdgeDetect (s : State) : Result := row (missingEdge) s

/-- GROSS_ERROR_DETECT (R22). -/
def execGrossErrorDetect (s : State) : Result := row (grossError) s

/-- PRIMARY_RESTART (R513). -/
def execPrimaryRestart (s : State) : Result := row (primaryRestart) s

/-- LOOP_PULLIN (R27). -/
def execLoopPullin (s : State) : Result := row (loopPullin) s

/-- HOLDOVER_EXPIRY (R25). -/
def execHoldoverExpiry (s : State) : Result := row (holdoverExpire) s

/-- RC_LOSS (R515). -/
def execRcLoss (s : State) : Result := row (rcLost) s

/-- RC_RETURN (R25). -/
def execRcReturn (s : State) : Result := row (rcReturn) s

/-- RETDLY_EXPIRY (R30). -/
def execRetdlyExpiry (s : State) : Result := row (retdlyExpire) s

/-- PRIMARY_RETURN (R30). -/
def execPrimaryReturn (s : State) : Result := row (primaryReturn) s

/-- LINE_CALIBRATION_DONE (R32): calibration group `g`; `ok`: the line passes. -/
def execLineCalibrationDone (g : Fin 5) (ok : Bool) (s : State) : Result := row (calDone g.val ok) s

/-- LINE_SWAP (R33). -/
def execLineSwap (g : Fin 5) (s : State) : Result := row (lineSwap g.val) s

/-- TB_TIMELO_READ (R37). -/
def execTbTimeloRead (cid : Cid) (s : State) : Result := rowS (fabricRead cid.toNat R.TB_TIMELO.addr) s

end Sys2Proof.Machine
end

