-- ==== Sys2Proof/Machine/RowsTsl.lean ====
section
/-!
DEFINITION. The commands of chapter 12: Teasel, the UARTs, I²C and the host port.
-/
namespace Sys2Proof.Machine

/-- DRIVE (R352): the step of channel t at its PC. -/
def execDrive (t : Fin 24) (s : State) : Result := rowS (tslStep t.val (tslClass 1)) s

/-- SAMPLE (R352). -/
def execSample (t : Fin 24) (s : State) : Result := rowS (tslStep t.val (tslClass 2)) s

/-- SHIFT (R352). -/
def execShift (t : Fin 24) (s : State) : Result := rowS (tslStep t.val (tslClass 3)) s

/-- FETCH (R357). -/
def execFetch (t : Fin 24) (s : State) : Result := rowS (tslStep t.val (tslClass 4)) s

/-- DEPOSIT (R357). -/
def execDeposit (t : Fin 24) (s : State) : Result := rowS (tslStep t.val (tslClass 5)) s

/-- AWAIT (R353). -/
def execAwaitPin (t : Fin 24) (s : State) : Result := rowS (tslStep t.val (tslClass 6)) s

/-- COUNT_ADD (R352). -/
def execCountAdd (t : Fin 24) (s : State) : Result := rowS (tslStep t.val (tslCountOp 0)) s

/-- COUNT_LOAD (R352). -/
def execCountLoad (t : Fin 24) (s : State) : Result := rowS (tslStep t.val (tslCountOp 1)) s

/-- COUNT_STAMP (R352). -/
def execCountStamp (t : Fin 24) (s : State) : Result := rowS (tslStep t.val (tslCountOp 2)) s

/-- COUNT_DELTA (R352). -/
def execCountDelta (t : Fin 24) (s : State) : Result := rowS (tslStep t.val (tslCountOp 3)) s

/-- BRANCH (R354). -/
def execBranchTsl (t : Fin 24) (s : State) : Result := rowS (tslStep t.val (tslClass 8)) s

/-- SIGNAL_EVENT (R352). -/
def execSignalEvent (t : Fin 24) (s : State) : Result := rowS (tslStep t.val (tslSignalOp 0)) s

/-- SIGNAL_TRY (R352). -/
def execSignalTry (t : Fin 24) (s : State) : Result := rowS (tslStep t.val (tslSignalOp 1)) s

/-- SIGNAL_GIVE (R352). -/
def execSignalGive (t : Fin 24) (s : State) : Result := rowS (tslStep t.val (tslSignalOp 2)) s

/-- SIGNAL_STOP (R352). -/
def execSignalStop (t : Fin 24) (s : State) : Result := rowS (tslStep t.val (tslSignalOp 3)) s

/-- PIN_EVENT_FIRE (R348). -/
def execPinEventFire (n : Fin 32) (s : State) : Result := row (pinEventFire n.val) s

/-- CHANNEL_START (R359). -/
def execChannelStart (cid : Cid) (t : Fin 24) (s : State) : Result :=
  rowS (fabricWrite cid.toNat (R.TSL_CHtCTL t.val).addr 1#32) s

/-- CHANNEL_STOP_WRITE (R360). -/
def execChannelStopWrite (cid : Cid) (t : Fin 24) (s : State) : Result :=
  rowS (fabricWrite cid.toNat (R.TSL_CHtCTL t.val).addr 0#32) s

/-- FIFO_OUT_WRITE (R356). -/
def execFifoOutWrite (cid : Cid) (t : Fin 24) (value : Word) (s : State) : Result :=
  rowS (fabricWrite cid.toNat (0x42002000 + 0x20 * t.val) value) s

/-- FIFO_IN_READ (R356). -/
def execFifoInRead (cid : Cid) (t : Fin 24) (s : State) : Result := rowS (fabricRead cid.toNat (0x42002004 + 0x20 * t.val)) s

/-- TEASEL_PIN_EDGE (R350): the level a pad carries to pin n changes. -/
def execTeaselPinEdge (n : Fin 32) (level : Bool) (s : State) : Result :=
  row (fun s => if tpConnected n.val s then tpEdge n.val level s else s) s

/-- UART_DATA_WRITE (R365). -/
def execUartDataWrite (cid : Cid) (u : Fin 2) (value : Word) (s : State) : Result :=
  rowS (fabricWrite cid.toNat (R.SER_UuDATA u.val).addr value) s

/-- UART_DATA_READ (R365). -/
def execUartDataRead (cid : Cid) (u : Fin 2) (s : State) : Result := rowS (fabricRead cid.toNat (R.SER_UuDATA u.val).addr) s

/-- UART_FRAME_RECEIVED (R364): samples 7, 8 and 9 of the nine bits after the start bit, of which 8N1 has eight, and the stop bit. -/
def execUartFrameReceived (u : Fin 2) (s7 s8 s9 : BitVec 9) (stop : Bool) (s : State) : Result :=
  row (uartReceive u.val (uartSampled s7 s8 s9).toNat stop) s

/-- UART_FRAME_SENT (R363). -/
def execUartFrameSent (u : Fin 2) (s : State) : Result := row (uartSent u.val) s

/-- I2C_START (R368): `ack`: the target acknowledges. -/
def execI2cStart (ack : Bool) (s : State) : Result := row (i2cStart ack) s

/-- I2C_WRITE (R368). -/
def execI2cWrite (ack : Bool) (s : State) : Result := row (i2cWrite ack) s

/-- I2C_READ (R368). -/
def execI2cRead (data : Byte) (s : State) : Result := row (i2cRead data) s

/-- I2C_STOP (R368). -/
def execI2cStop (s : State) : Result := row (i2cStop) s

/-- ARBITRATION_LOST (R368). -/
def execArbitrationLost (s : State) : Result := row (i2cArbLost) s

/-- I2C_TARGET_ACCESS (R369). -/
def execI2cTargetAccess (a : I2cAccess) (s : State) : Result := row (i2cTarget a) s

/-- HOST_SPI_TRANSACTION (R426): whether SCK was high as nSS fell; class and bytes of the host's frame, if any; whether it reads one. -/
def execHostSpiTransaction (mode3 : Bool) (tx : Option (Nat × List Byte)) (rx : Bool) (s : State) : Result :=
  rowS (hostSpi mode3 tx rx) s

/-- HOST_ABORT (R370). -/
def execHostAbort (s : State) : Result := row (hostAbort) s

end Sys2Proof.Machine
end

