-- ==== Sys2Proof/Machine/RowsTxn.lean ====
section
/-!
DEFINITION. The commands of chapter 14: chain requests, messages, the image relay, maintenance and system time.
-/
namespace Sys2Proof.Machine

/-- An access to region 32 or 33 by a client, with its answer. -/
def chainAccess (cid : Cid) (write : Bool) (a : Word) (sz : Fin 4) (v : DWord) (s : State) : State :=
  match fabric .other { cid := cid.toNat } write a.toNat (2 ^ sz.val) (v.toNat % 256 ^ 2 ^ sz.val) s with
  | (.ans (.ok d), s) => s.answer d.toNat
  | (.ans (.refused c), s) => s.answerRefused c.code
  | (.wait, s) => s

/-- REMOTE_REQUEST_ISSUE (R410): an access of 2^sz bytes. -/
def execRemoteRequestIssue (cid : Cid) (write : Bool) (addr : Word) (sz : Fin 4) (value : DWord) (s : State) : Result :=
  rowS (chainAccess cid write addr sz value) s

/-- POST_STAGE_STORE (R409): a store to payload word w + 1 of mailbox m of unit `unit` + 1. -/
def execPostStageStore (cid : Cid) (unit : Fin 64) (m : Fin 32) (w : Fin 3) (value : Word) (s : State) : Result :=
  rowS (fun s => chainAccess cid true (BitVec.ofNat 32 (0x60000000 + 0x8000 * unit.val + 0x7D04 + 16 * m.val + 4 * w.val)) 2 (value.setWidth 64) s) s

/-- RD (R413). -/
def execRd (port : Fin 3) (s : State) : Result := rowS (onFrame port.val 0 1 onRd) s

/-- WR (R413). -/
def execWr (port : Fin 3) (s : State) : Result := rowS (onFrame port.val 0 2 onWr) s

/-- SEMOP (R413). -/
def execSemop (port : Fin 3) (s : State) : Result := rowS (onFrame port.val 0 3 onSemop) s

/-- MBXPOST (R413). -/
def execMbxpost (port : Fin 3) (s : State) : Result := rowS (onFrame port.val 0 4 onMbxpost) s

/-- BWR (R413). -/
def execBwr (port : Fin 3) (s : State) : Result := rowS (onFrame port.val 0 5 onWr) s

/-- RDRSP (R411). -/
def execRdrsp (port : Fin 3) (s : State) : Result := rowS (onFrame port.val 1 1 onResponse) s

/-- ACK (R411). -/
def execAck (port : Fin 3) (s : State) : Result := rowS (onFrame port.val 1 2 onResponse) s

/-- SEMRSP (R411). -/
def execSemrsp (port : Fin 3) (s : State) : Result := rowS (onFrame port.val 1 3 onResponse) s

/-- ERR (R415). -/
def execErrRsp (port : Fin 3) (s : State) : Result := rowS (onFrame port.val 1 6 onResponse) s

/-- RESPONSE_TIMEOUT (R412): the request of record i, or one of the host by its TAG. -/
def execResponseTimeout (i : Fin 32) (host : Option Byte) (s : State) : Result :=
  rowS (fun s => match host with | some t => hostTimeout t.toNat s | none => respTimeout i.val s) s

/-- SEMEVT (R418). -/
def execSemevt (port : Fin 3) (s : State) : Result := rowS (onFrame port.val 1 7 onSemevt) s

/-- SEMACK (R418). -/
def execSemack (port : Fin 3) (s : State) : Result := rowS (onFrame port.val 1 8 onSemack) s

/-- SEMEVT_TIMEOUT (R418). -/
def execSemevtTimeout (dst : BitVec 7) (tag : Byte) (s : State) : Result := rowS (semevtTimeout dst.toNat tag.toNat) s

/-- PINOTE (R419). -/
def execPinote (port : Fin 3) (s : State) : Result := rowS (onFrame port.val 1 9 onPinote) s

/-- MSGSEND (R420). -/
def execMsgsend (cid : Cid) (value : Word) (s : State) : Result := rowS (fabricWrite cid.toNat R.CHN_MSGSEND.addr value) s

/-- MSTART (R420). -/
def execMstart (port : Fin 3) (s : State) : Result := rowS (onMstart port.val) s

/-- MESSAGE_ALLOCATE (R420). -/
def execMessageAllocate (port : Fin 3) (s : State) : Result := rowS (msgAllocate port.val) s

/-- MDATA (R420). -/
def execMdata (port : Fin 3) (s : State) : Result := rowS (onFrame port.val 2 2 onMdata) s

/-- MSGTO_EXPIRY (R420): an MSTART held at a port, or the message of SRC and TAG in assembly. -/
def execMsgtoExpiry (held : Option (Fin 3)) (src : BitVec 7) (tag : Byte) (s : State) : Result :=
  rowS (fun s => match held with | some p => msgtoHeld p.val s | none => msgtoAssembly src.toNat tag.toNat s) s

/-- MSGRES_READ (R433). -/
def execMsgresRead (cid : Cid) (s : State) : Result := rowS (fabricRead cid.toNat R.CHN_MSGRES.addr) s

/-- RELAYREQ (R421). -/
def execRelayreq (port : Fin 3) (s : State) : Result := rowS (onFrame port.val 3 0x18 (fun _ s => onRelayreq s)) s

/-- RELAYREF (R74). -/
def execRelayref (port : Fin 3) (s : State) : Result := rowS (onFrame port.val 3 0x19 (fun _ s => onRelayref s)) s

/-- RELAYSTART (R422). -/
def execRelaystart (port : Fin 3) (s : State) : Result := rowS (onFrame port.val 3 0x1A onRelaystart) s

/-- RELAYMARK (R422). -/
def execRelaymark (port : Fin 3) (s : State) : Result := rowS (onFrame port.val 3 0x1B onRelaymark) s

/-- RELAYDATA (R422). -/
def execRelaydata (port : Fin 3) (s : State) : Result := rowS (onFrame port.val 3 0x1C onRelaydata) s

/-- MOPEN (R424). -/
def execMopen (port : Fin 3) (s : State) : Result := rowS (fun s => onFrame port.val 3 0x20 (onMopen port.val) s) s

/-- MREAD (R424). -/
def execMread (port : Fin 3) (s : State) : Result := rowS (fun s => onFrame port.val 3 0x22 (onMread port.val) s) s

/-- MERASE (R424). -/
def execMerase (port : Fin 3) (s : State) : Result := rowS (fun s => onFrame port.val 3 0x23 (onMerase port.val) s) s

/-- MPROG (R424). -/
def execMprog (port : Fin 3) (s : State) : Result := rowS (fun s => onFrame port.val 3 0x24 (onMprog port.val) s) s

/-- MCLOSE, with the SOFT it may ask for (R423, R424). -/
def mclose (port : Nat) (f : Frame) (s : State) : State :=
  match onMclose port f s with
  | (1, s) => softReset true s
  | (2, s) => softReset true (s.set F.SYS_BOOTCTL_TRYB 1)
  | (_, s) => s

/-- MCLOSE (R423). -/
def execMclose (port : Fin 3) (s : State) : Result := rowS (fun s => onFrame port.val 3 0x21 (mclose port.val) s) s

/-- FLASH_OPERATION_DONE (R424). -/
def execFlashOperationDone (ok : Bool) (s : State) : Result := rowS (flashDone ok) s

/-- MAINTENANCE_TIMEOUT (R423). -/
def execMaintenanceTimeout (s : State) : Result := row (maintTimeout) s

/-- SYNC_SEND (R427). -/
def execSyncSend (s : State) : Result := row (syncSend) s

/-- SYNC_RECEIVE (R430): TB6 at the first cell of the SOF, in 1/16 ns. -/
def execSyncReceive (port : Fin 3) (tb16 : Nat) (s : State) : Result :=
  rowS (fun s => onFrame port.val 3 0x10 (syncReceive port.val tb16) s) s

/-- SYNC_LOST (R430). -/
def execSyncLost (s : State) : Result := row (syncLost) s

/-- PDREQ_SEND (R429). -/
def execPdreqSend (s : State) : Result := row (pdreqSend) s

/-- PDREQ (R429). -/
def execPdreq (port : Fin 3) (s : State) : Result := rowS (fun s => onFrame port.val 3 0x11 (onPdreq port.val) s) s

/-- PDRSP (R429). -/
def execPdrsp (port : Fin 3) (s : State) : Result := rowS (onFrame port.val 3 0x12 onPdrsp) s

/-- TIME_SET (R427). -/
def execTimeSet (cid : Cid) (hi lo : Word) (s : State) : Result :=
  rowS (fun s => fabricWrite cid.toNat R.CHN_TSETLO.addr lo (fabricWrite cid.toNat R.CHN_TSETHI.addr hi s)) s

end Sys2Proof.Machine
end

