-- ==== Sys2Proof/Machine/RowsVet.lean ====
section
/-!
DEFINITION. The commands of chapter 07: Vetch's instructions. A command executes the instruction at PC; with `ahead`, Vetch begins it on the predicted path before Yarrow commits it (R226).
-/
namespace Sys2Proof.Machine

/-- Is the instruction one of custom-1 with operation `op`? -/
def isVec1 (op : Nat) (i : YInstr) : Bool :=
  match i with
  | .vec w => wf w 0 7 == 0x2B && vOp w == op
  | _ => false
/-- Is the instruction one of custom-2 with CLASS `c` and OP4 `op`? -/
def isVec2 (c op : Nat) (i : YInstr) : Bool :=
  match i with
  | .vec w => wf w 0 7 == 0x5B && mClass w == c && mOp w == op
  | _ => false
/-- A Vetch instruction that Yarrow retires, or that Vetch begins ahead of it (R226). -/
def vetRow (mine : YInstr → Bool) (ahead : Bool) (s : State) : State :=
  if ahead then vAhead mine s else yStep mine none s

/-- VLE (R204): at most `passes` passes before an interrupt (R224). -/
def execVle (ahead : Bool) (passes : Option Nat) (s : State) : Result :=
  rowS (fun s => if ahead then vAhead (isVec2 0 0) s else yStep (isVec2 0 0) passes s) s

/-- VLSE (R204): at most `passes` passes before an interrupt (R224). -/
def execVlse (ahead : Bool) (passes : Option Nat) (s : State) : Result :=
  rowS (fun s => if ahead then vAhead (isVec2 0 1) s else yStep (isVec2 0 1) passes s) s

/-- VLXE (R204): at most `passes` passes before an interrupt (R224). -/
def execVlxe (ahead : Bool) (passes : Option Nat) (s : State) : Result :=
  rowS (fun s => if ahead then vAhead (isVec2 0 2) s else yStep (isVec2 0 2) passes s) s

/-- VLR (R204): at most `passes` passes before an interrupt (R224). -/
def execVlr (ahead : Bool) (passes : Option Nat) (s : State) : Result :=
  rowS (fun s => if ahead then vAhead (isVec2 0 3) s else yStep (isVec2 0 3) passes s) s

/-- VLK (R204): at most `passes` passes before an interrupt (R224). -/
def execVlk (ahead : Bool) (passes : Option Nat) (s : State) : Result :=
  rowS (fun s => if ahead then vAhead (isVec2 0 4) s else yStep (isVec2 0 4) passes s) s

/-- VSE (R204). -/
def execVse (passes : Option Nat) (s : State) : Result := rowS (yStep (isVec2 1 0) passes) s

/-- VSSE (R204). -/
def execVsse (passes : Option Nat) (s : State) : Result := rowS (yStep (isVec2 1 1) passes) s

/-- VSXE (R204). -/
def execVsxe (passes : Option Nat) (s : State) : Result := rowS (yStep (isVec2 1 2) passes) s

/-- VSR (R204). -/
def execVsr (passes : Option Nat) (s : State) : Result := rowS (yStep (isVec2 1 3) passes) s

/-- VSK (R204). -/
def execVsk (passes : Option Nat) (s : State) : Result := rowS (yStep (isVec2 1 4) passes) s

/-- VKAND (R204). -/
def execVkand (ahead : Bool) (s : State) : Result := rowS (vetRow (isVec2 2 0) ahead) s

/-- VKOR (R204). -/
def execVkor (ahead : Bool) (s : State) : Result := rowS (vetRow (isVec2 2 1) ahead) s

/-- VKXOR (R204). -/
def execVkxor (ahead : Bool) (s : State) : Result := rowS (vetRow (isVec2 2 2) ahead) s

/-- VKANDN (R204). -/
def execVkandn (ahead : Bool) (s : State) : Result := rowS (vetRow (isVec2 2 3) ahead) s

/-- VKNOT (R204). -/
def execVknot (ahead : Bool) (s : State) : Result := rowS (vetRow (isVec2 2 4) ahead) s

/-- VKPOPC (R204). -/
def execVkpopc (s : State) : Result := rowS (yStep (isVec2 3 0) none) s

/-- VKFIRST (R204). -/
def execVkfirst (s : State) : Result := rowS (yStep (isVec2 3 1) none) s

/-- VMVXS (R204). -/
def execVmvxs (s : State) : Result := rowS (yStep (isVec2 3 2) none) s

/-- VMVXSH (R204). -/
def execVmvxsh (s : State) : Result := rowS (yStep (isVec2 3 3) none) s

/-- VSETVL (R206). -/
def execVsetvl (s : State) : Result := rowS (yStep (isVec2 4 0) none) s

/-- VGETCFG (R204). -/
def execVgetcfg (s : State) : Result := rowS (yStep (isVec2 4 1) none) s

/-- VFENCE (R204). -/
def execVfence (s : State) : Result := rowS (yStep (isVec2 4 2) none) s

/-- VSIG (R204). -/
def execVsig (s : State) : Result := rowS (yStep (isVec2 4 3) none) s

/-- VADD (R207). -/
def execVadd (ahead : Bool) (s : State) : Result := rowS (vetRow (isVec1 0x0) ahead) s

/-- VSUB (R207). -/
def execVsub (ahead : Bool) (s : State) : Result := rowS (vetRow (isVec1 0x1) ahead) s

/-- VSADD (R207). -/
def execVsadd (ahead : Bool) (s : State) : Result := rowS (vetRow (isVec1 0x2) ahead) s

/-- VSSUB (R207). -/
def execVssub (ahead : Bool) (s : State) : Result := rowS (vetRow (isVec1 0x3) ahead) s

/-- VMIN (R207). -/
def execVmin (ahead : Bool) (s : State) : Result := rowS (vetRow (isVec1 0x4) ahead) s

/-- VMAX (R207). -/
def execVmax (ahead : Bool) (s : State) : Result := rowS (vetRow (isVec1 0x5) ahead) s

/-- VMINU (R207). -/
def execVminu (ahead : Bool) (s : State) : Result := rowS (vetRow (isVec1 0x6) ahead) s

/-- VMAXU (R207). -/
def execVmaxu (ahead : Bool) (s : State) : Result := rowS (vetRow (isVec1 0x7) ahead) s

/-- VAND (R207). -/
def execVand (ahead : Bool) (s : State) : Result := rowS (vetRow (isVec1 0x8) ahead) s

/-- VOR (R207). -/
def execVor (ahead : Bool) (s : State) : Result := rowS (vetRow (isVec1 0x9) ahead) s

/-- VXOR (R207). -/
def execVxor (ahead : Bool) (s : State) : Result := rowS (vetRow (isVec1 0xa) ahead) s

/-- VSLL (R207). -/
def execVsll (ahead : Bool) (s : State) : Result := rowS (vetRow (isVec1 0xb) ahead) s

/-- VSRL (R207). -/
def execVsrl (ahead : Bool) (s : State) : Result := rowS (vetRow (isVec1 0xc) ahead) s

/-- VSRA (R207). -/
def execVsra (ahead : Bool) (s : State) : Result := rowS (vetRow (isVec1 0xd) ahead) s

/-- VMUL (R207). -/
def execVmul (ahead : Bool) (s : State) : Result := rowS (vetRow (isVec1 0xe) ahead) s

/-- VMULH (R207). -/
def execVmulh (ahead : Bool) (s : State) : Result := rowS (vetRow (isVec1 0xf) ahead) s

/-- VMACC (R207). -/
def execVmacc (ahead : Bool) (s : State) : Result := rowS (vetRow (isVec1 0x10) ahead) s

/-- VMERGE (R207). -/
def execVmerge (ahead : Bool) (s : State) : Result := rowS (vetRow (isVec1 0x11) ahead) s

/-- VMV (R207). -/
def execVmv (ahead : Bool) (s : State) : Result := rowS (vetRow (isVec1 0x12) ahead) s

/-- VSLIDEDN (R207). -/
def execVslidedn (ahead : Bool) (s : State) : Result := rowS (vetRow (isVec1 0x13) ahead) s

/-- VSLIDEUP (R207). -/
def execVslideup (ahead : Bool) (s : State) : Result := rowS (vetRow (isVec1 0x14) ahead) s

/-- VWMUL (R208). -/
def execVwmul (ahead : Bool) (s : State) : Result := rowS (vetRow (isVec1 0x18) ahead) s

/-- VWMULU (R208). -/
def execVwmulu (ahead : Bool) (s : State) : Result := rowS (vetRow (isVec1 0x19) ahead) s

/-- VWMULSU (R208). -/
def execVwmulsu (ahead : Bool) (s : State) : Result := rowS (vetRow (isVec1 0x1a) ahead) s

/-- VWMACC (R208). -/
def execVwmacc (ahead : Bool) (s : State) : Result := rowS (vetRow (isVec1 0x1b) ahead) s

/-- VWMACCU (R208). -/
def execVwmaccu (ahead : Bool) (s : State) : Result := rowS (vetRow (isVec1 0x1c) ahead) s

/-- VDOT4 (R209). -/
def execVdot4 (ahead : Bool) (s : State) : Result := rowS (vetRow (isVec1 0x1d) ahead) s

/-- VDOT4U (R209). -/
def execVdot4u (ahead : Bool) (s : State) : Result := rowS (vetRow (isVec1 0x1e) ahead) s

/-- VDOT2 (R209). -/
def execVdot2 (ahead : Bool) (s : State) : Result := rowS (vetRow (isVec1 0x1f) ahead) s

/-- VMSEQ (R207). -/
def execVmseq (ahead : Bool) (s : State) : Result := rowS (vetRow (isVec1 0x20) ahead) s

/-- VMSNE (R207). -/
def execVmsne (ahead : Bool) (s : State) : Result := rowS (vetRow (isVec1 0x21) ahead) s

/-- VMSLT (R207). -/
def execVmslt (ahead : Bool) (s : State) : Result := rowS (vetRow (isVec1 0x22) ahead) s

/-- VMSLTU (R207). -/
def execVmsltu (ahead : Bool) (s : State) : Result := rowS (vetRow (isVec1 0x23) ahead) s

/-- VMSLE (R207). -/
def execVmsle (ahead : Bool) (s : State) : Result := rowS (vetRow (isVec1 0x24) ahead) s

/-- VMSLEU (R207). -/
def execVmsleu (ahead : Bool) (s : State) : Result := rowS (vetRow (isVec1 0x25) ahead) s

/-- VFADD (R210). -/
def execVfadd (ahead : Bool) (s : State) : Result := rowS (vetRow (isVec1 0x28) ahead) s

/-- VFSUB (R210). -/
def execVfsub (ahead : Bool) (s : State) : Result := rowS (vetRow (isVec1 0x29) ahead) s

/-- VFMUL (R210). -/
def execVfmul (ahead : Bool) (s : State) : Result := rowS (vetRow (isVec1 0x2a) ahead) s

/-- VFMACC (R210). -/
def execVfmacc (ahead : Bool) (s : State) : Result := rowS (vetRow (isVec1 0x2b) ahead) s

/-- VFMIN (R210). -/
def execVfmin (ahead : Bool) (s : State) : Result := rowS (vetRow (isVec1 0x2c) ahead) s

/-- VFMAX (R210). -/
def execVfmax (ahead : Bool) (s : State) : Result := rowS (vetRow (isVec1 0x2d) ahead) s

/-- VFMSEQ (R210). -/
def execVfmseq (ahead : Bool) (s : State) : Result := rowS (vetRow (isVec1 0x2e) ahead) s

/-- VFMSLT (R210). -/
def execVfmslt (ahead : Bool) (s : State) : Result := rowS (vetRow (isVec1 0x2f) ahead) s

/-- VFMSLE (R210). -/
def execVfmsle (ahead : Bool) (s : State) : Result := rowS (vetRow (isVec1 0x30) ahead) s

/-- VFCVT_F_X (R210). -/
def execVfcvtFX (ahead : Bool) (s : State) : Result := rowS (vetRow (isVec1 0x31) ahead) s

/-- VFCVT_X_F (R210). -/
def execVfcvtXF (ahead : Bool) (s : State) : Result := rowS (vetRow (isVec1 0x32) ahead) s

/-- VFWMUL (R210). -/
def execVfwmul (ahead : Bool) (s : State) : Result := rowS (vetRow (isVec1 0x33) ahead) s

/-- VFWMACC (R210). -/
def execVfwmacc (ahead : Bool) (s : State) : Result := rowS (vetRow (isVec1 0x34) ahead) s

/-- VREDSUM (R212). -/
def execVredsum (ahead : Bool) (s : State) : Result := rowS (vetRow (isVec1 0x38) ahead) s

/-- VREDMAX (R212). -/
def execVredmax (ahead : Bool) (s : State) : Result := rowS (vetRow (isVec1 0x39) ahead) s

/-- VREDMIN (R212). -/
def execVredmin (ahead : Bool) (s : State) : Result := rowS (vetRow (isVec1 0x3a) ahead) s

/-- VREDMAXU (R212). -/
def execVredmaxu (ahead : Bool) (s : State) : Result := rowS (vetRow (isVec1 0x3b) ahead) s

/-- VFREDSUM (R213). -/
def execVfredsum (ahead : Bool) (s : State) : Result := rowS (vetRow (isVec1 0x3c) ahead) s

/-- VFREDMAX (R212). -/
def execVfredmax (ahead : Bool) (s : State) : Result := rowS (vetRow (isVec1 0x3d) ahead) s

/-- VETCH_RUNAHEAD_COMMIT (R227). -/
def execVetchRunaheadCommit (s : State) : Result := rowS (vRetire) s

end Sys2Proof.Machine
end

