-- ==== Sys2Proof/Machine/RowsYar.lean ====
section
/-!
DEFINITION. The commands of chapter 06: Yarrow's instructions, interrupts and debug. An instruction command executes the instruction at PC.
-/
namespace Sys2Proof.Machine

/-- Integer instructions of RV32I, M, Zba and Zbb. -/
def isInteger (i : YInstr) : Bool :=
  match i with
  | .alu .. => true
  | .auipc .. => true
  | .mul .. => true
  | _ => false
/-- F instructions but FMIN, FMAX and conversions to an integer. -/
def isFloat (i : YInstr) : Bool :=
  match i with
  | .fp .min _ _ _ _ => false
  | .fp .max _ _ _ _ => false
  | .fp (.toInt _) _ _ _ _ => false
  | .fp .. => true
  | .fma .. => true
  | _ => false
def isMinMax (i : YInstr) : Bool :=
  match i with
  | .fp .min _ _ _ _ => true
  | .fp .max _ _ _ _ => true
  | _ => false
def isToInt (i : YInstr) : Bool :=
  match i with
  | .fp (.toInt _) _ _ _ _ => true
  | _ => false
def isDiv (i : YInstr) : Bool :=
  match i with
  | .div .. => true
  | _ => false
def isLoad (i : YInstr) : Bool :=
  match i with
  | .load .. => true
  | .flw .. => true
  | _ => false
def isStore (i : YInstr) : Bool :=
  match i with
  | .store .. => true
  | .fsw .. => true
  | _ => false
def isBranch (i : YInstr) : Bool :=
  match i with
  | .branch .. => true
  | .jal .. => true
  | .jalr .. => true
  | _ => false
/-- A CSR instruction, for one CSR or for any. -/
def isCsr (n : Option Nat) (i : YInstr) : Bool :=
  match i with
  | .csr _ _ _ k => n.isNone || n == some k
  | _ => false

/-- YARROW_INTEGER_INSTRUCTION (R162). -/
def execYarrowIntegerInstruction (s : State) : Result := rowS (yStep isInteger none) s

/-- INTEGER_DIVISION (R177). -/
def execIntegerDivision (s : State) : Result := rowS (yStep isDiv none) s

/-- FLOATING_POINT_ARITHMETIC (R178). -/
def execFloatingPointArithmetic (s : State) : Result := rowS (yStep isFloat none) s

/-- FMIN_FMAX (R179). -/
def execFminFmax (s : State) : Result := rowS (yStep isMinMax none) s

/-- CONVERSION_TO_INTEGER (R180). -/
def execConversionToInteger (s : State) : Result := rowS (yStep isToInt none) s

/-- YARROW_LOAD (R170). -/
def execYarrowLoad (s : State) : Result := rowS (yStep isLoad none) s

/-- YARROW_STORE (R170). -/
def execYarrowStore (s : State) : Result := rowS (yStep isStore none) s

/-- STORE_BUFFER_DRAIN (R174). -/
def execStoreBufferDrain (s : State) : Result := rowS (storeDrain) s

/-- YARROW_BRANCH (R169). -/
def execYarrowBranch (s : State) : Result := rowS (yStep isBranch none) s

/-- FENCE (R171). -/
def execFence (s : State) : Result := rowS (yStep (fun i => i == .fence) none) s

/-- FENCE_I (R171). -/
def execFenceI (s : State) : Result := rowS (yStep (fun i => i == .fenceI) none) s

/-- ECALL (R172). -/
def execEcall (s : State) : Result := rowS (yStep (fun i => i == .ecall) none) s

/-- EBREAK (R172). -/
def execEbreak (s : State) : Result := rowS (yStep (fun i => i == .ebreak) none) s

/-- WFI (R173). -/
def execWfi (s : State) : Result := rowS (yStep (fun i => i == .wfi) none) s

/-- MRET (R187). -/
def execMret (s : State) : Result := rowS (yStep (fun i => i == .mret) none) s

/-- CSR_ACCESS (R191). -/
def execCsrAccess (s : State) : Result := rowS (yStep (isCsr none) none) s

/-- VEIX_ACCESS (R225). -/
def execVeixAccess (s : State) : Result := rowS (yStep (isCsr (some 0x7C2)) none) s

/-- YSERRINFO_CLEAR (R193). -/
def execYserrinfoClear (s : State) : Result := rowS (yStep (isCsr (some 0x7C7)) none) s

/-- PREDICTOR_FLUSH (R193). -/
def execPredictorFlush (s : State) : Result := rowS (yStep (isCsr (some 0x7C9)) none) s

/-- INTERRUPT_TAKE (R173). -/
def execInterruptTake (s : State) : Result := row (interruptTake) s

/-- TIMER_COMPARE_MATCH (R194): MTI is pending from then on (R194), and ends a WFI that waits for it. -/
def execTimerCompareMatch (s : State) : Result :=
  row (fun s => if timerPending s ∧ s.yar.ie.getLsbD 7 then s.updYar (fun y => { y with wfi := false }) else s) s

/-- BCOPY (R184): at most `units` units before an interrupt, or the whole routine. -/
def execBcopy (units : Option Nat) (s : State) : Result := rowS (yStep (fun i => i == .block 0) units) s

/-- BFILL (R185). -/
def execBfill (units : Option Nat) (s : State) : Result := rowS (yStep (fun i => i == .block 1) units) s

/-- BCRC (R186). -/
def execBcrc (units : Option Nat) (s : State) : Result := rowS (yStep (fun i => i == .block 2) units) s

/-- DEBUG_HALT (R190). -/
def execDebugHalt (s : State) : Result := row (debugHalt) s

/-- DEBUG_RESUME (R190). -/
def execDebugResume (s : State) : Result := row (debugResume) s

/-- ABSTRACT_COMMAND (R190). -/
def execAbstractCommand (c : DbgCmd) (s : State) : Result := rowS (abstractCommand c) s

/-- SYSTEM_BUS_ACCESS (R190): an access of 2^sz bytes. -/
def execSystemBusAccess (write : Bool) (addr : Word) (sz : Fin 3) (value : Word) (s : State) : Result :=
  rowS (systemBus write addr sz value) s

end Sys2Proof.Machine
end

