-- ==== Sys2Proof/Machine/Dispatch.lean ====
section
/-!
DEFINITION. exec: one arm per row of the opcode table.
-/
namespace Sys2Proof.Machine

open Sys2Proof

def exec (i : Instr) (s : State) : Host.Outcome State Fault Refusal :=
  match i with
  | .powerOnReset => Sys2Proof.Machine.execPowerOnReset s
  | .pinReset ns => Sys2Proof.Machine.execPinReset ns s
  | .softrstWrite cid value => Sys2Proof.Machine.execSoftrstWrite cid value s
  | .bootSequence b => Sys2Proof.Machine.execBootSequence b s
  | .personalityWaitTimeout => Sys2Proof.Machine.execPersonalityWaitTimeout s
  | .bootConfirm cid value => Sys2Proof.Machine.execBootConfirm cid value s
  | .fuseBitDone ok => Sys2Proof.Machine.execFuseBitDone ok s
  | .relayRoundStart => Sys2Proof.Machine.execRelayRoundStart s
  | .relayFrameTimeout => Sys2Proof.Machine.execRelayFrameTimeout s
  | .relaytoExpiry => Sys2Proof.Machine.execRelaytoExpiry s
  | .limpRelayRetry => Sys2Proof.Machine.execLimpRelayRetry s
  | .servicePoint q arrivals => Sys2Proof.Machine.execServicePoint q arrivals s
  | .scheduledAction d => Sys2Proof.Machine.execScheduledAction d s
  | .timebaseLock n => Sys2Proof.Machine.execTimebaseLock n s
  | .lossOfLock n => Sys2Proof.Machine.execLossOfLock n s
  | .filteredErrorRecomputation ratio err => Sys2Proof.Machine.execFilteredErrorRecomputation ratio err s
  | .trimRemovalDone => Sys2Proof.Machine.execTrimRemovalDone s
  | .missingEdgeDetect => Sys2Proof.Machine.execMissingEdgeDetect s
  | .grossErrorDetect => Sys2Proof.Machine.execGrossErrorDetect s
  | .primaryRestart => Sys2Proof.Machine.execPrimaryRestart s
  | .loopPullin => Sys2Proof.Machine.execLoopPullin s
  | .holdoverExpiry => Sys2Proof.Machine.execHoldoverExpiry s
  | .rcLoss => Sys2Proof.Machine.execRcLoss s
  | .rcReturn => Sys2Proof.Machine.execRcReturn s
  | .retdlyExpiry => Sys2Proof.Machine.execRetdlyExpiry s
  | .primaryReturn => Sys2Proof.Machine.execPrimaryReturn s
  | .lineCalibrationDone g ok => Sys2Proof.Machine.execLineCalibrationDone g ok s
  | .lineSwap g => Sys2Proof.Machine.execLineSwap g s
  | .tbTimeloRead cid => Sys2Proof.Machine.execTbTimeloRead cid s
  | .registerWrite cid addr value => Sys2Proof.Machine.execRegisterWrite cid addr value s
  | .evrYclaimRead cid => Sys2Proof.Machine.execEvrYclaimRead cid s
  | .evrSwraise cid num => Sys2Proof.Machine.execEvrSwraise cid num s
  | .evrLockWrite cid k value => Sys2Proof.Machine.execEvrLockWrite cid k value s
  | .eventOutputPulseEnd q => Sys2Proof.Machine.execEventOutputPulseEnd q s
  | .dmaStart cid n value => Sys2Proof.Machine.execDmaStart cid n value s
  | .dmaAbort cid n value => Sys2Proof.Machine.execDmaAbort cid n value s
  | .dmaSwtrig cid n value => Sys2Proof.Machine.execDmaSwtrig cid n value s
  | .dmaTrigger n t => Sys2Proof.Machine.execDmaTrigger n t s
  | .descriptorFetch n => Sys2Proof.Machine.execDescriptorFetch n s
  | .dmaElement n => Sys2Proof.Machine.execDmaElement n s
  | .bundleIssue c => Sys2Proof.Machine.execBundleIssue c s
  | .levelStart c => Sys2Proof.Machine.execLevelStart c s
  | .loopTrigger c => Sys2Proof.Machine.execLoopTrigger c s
  | .lsctlWrite c value => Sys2Proof.Machine.execLsctlWrite c value s
  | .coreRestart cid c value => Sys2Proof.Machine.execCoreRestart cid c value s
  | .holdRelease cid c value => Sys2Proof.Machine.execHoldRelease cid c value s
  | .yarrowIntegerInstruction => Sys2Proof.Machine.execYarrowIntegerInstruction s
  | .integerDivision => Sys2Proof.Machine.execIntegerDivision s
  | .floatingPointArithmetic => Sys2Proof.Machine.execFloatingPointArithmetic s
  | .fminFmax => Sys2Proof.Machine.execFminFmax s
  | .conversionToInteger => Sys2Proof.Machine.execConversionToInteger s
  | .yarrowLoad => Sys2Proof.Machine.execYarrowLoad s
  | .yarrowStore => Sys2Proof.Machine.execYarrowStore s
  | .storeBufferDrain => Sys2Proof.Machine.execStoreBufferDrain s
  | .yarrowBranch => Sys2Proof.Machine.execYarrowBranch s
  | .fence => Sys2Proof.Machine.execFence s
  | .fenceI => Sys2Proof.Machine.execFenceI s
  | .ecall => Sys2Proof.Machine.execEcall s
  | .ebreak => Sys2Proof.Machine.execEbreak s
  | .wfi => Sys2Proof.Machine.execWfi s
  | .mret => Sys2Proof.Machine.execMret s
  | .csrAccess => Sys2Proof.Machine.execCsrAccess s
  | .veixAccess => Sys2Proof.Machine.execVeixAccess s
  | .yserrinfoClear => Sys2Proof.Machine.execYserrinfoClear s
  | .predictorFlush => Sys2Proof.Machine.execPredictorFlush s
  | .interruptTake => Sys2Proof.Machine.execInterruptTake s
  | .timerCompareMatch => Sys2Proof.Machine.execTimerCompareMatch s
  | .bcopy units => Sys2Proof.Machine.execBcopy units s
  | .bfill units => Sys2Proof.Machine.execBfill units s
  | .bcrc units => Sys2Proof.Machine.execBcrc units s
  | .debugHalt => Sys2Proof.Machine.execDebugHalt s
  | .debugResume => Sys2Proof.Machine.execDebugResume s
  | .abstractCommand c => Sys2Proof.Machine.execAbstractCommand c s
  | .systemBusAccess write addr sz value => Sys2Proof.Machine.execSystemBusAccess write addr sz value s
  | .vle ahead passes => Sys2Proof.Machine.execVle ahead passes s
  | .vlse ahead passes => Sys2Proof.Machine.execVlse ahead passes s
  | .vlxe ahead passes => Sys2Proof.Machine.execVlxe ahead passes s
  | .vlr ahead passes => Sys2Proof.Machine.execVlr ahead passes s
  | .vlk ahead passes => Sys2Proof.Machine.execVlk ahead passes s
  | .vse passes => Sys2Proof.Machine.execVse passes s
  | .vsse passes => Sys2Proof.Machine.execVsse passes s
  | .vsxe passes => Sys2Proof.Machine.execVsxe passes s
  | .vsr passes => Sys2Proof.Machine.execVsr passes s
  | .vsk passes => Sys2Proof.Machine.execVsk passes s
  | .vkand ahead => Sys2Proof.Machine.execVkand ahead s
  | .vkor ahead => Sys2Proof.Machine.execVkor ahead s
  | .vkxor ahead => Sys2Proof.Machine.execVkxor ahead s
  | .vkandn ahead => Sys2Proof.Machine.execVkandn ahead s
  | .vknot ahead => Sys2Proof.Machine.execVknot ahead s
  | .vkpopc => Sys2Proof.Machine.execVkpopc s
  | .vkfirst => Sys2Proof.Machine.execVkfirst s
  | .vmvxs => Sys2Proof.Machine.execVmvxs s
  | .vmvxsh => Sys2Proof.Machine.execVmvxsh s
  | .vsetvl => Sys2Proof.Machine.execVsetvl s
  | .vgetcfg => Sys2Proof.Machine.execVgetcfg s
  | .vfence => Sys2Proof.Machine.execVfence s
  | .vsig => Sys2Proof.Machine.execVsig s
  | .vadd ahead => Sys2Proof.Machine.execVadd ahead s
  | .vsub ahead => Sys2Proof.Machine.execVsub ahead s
  | .vsadd ahead => Sys2Proof.Machine.execVsadd ahead s
  | .vssub ahead => Sys2Proof.Machine.execVssub ahead s
  | .vmin ahead => Sys2Proof.Machine.execVmin ahead s
  | .vmax ahead => Sys2Proof.Machine.execVmax ahead s
  | .vminu ahead => Sys2Proof.Machine.execVminu ahead s
  | .vmaxu ahead => Sys2Proof.Machine.execVmaxu ahead s
  | .vand ahead => Sys2Proof.Machine.execVand ahead s
  | .vor ahead => Sys2Proof.Machine.execVor ahead s
  | .vxor ahead => Sys2Proof.Machine.execVxor ahead s
  | .vsll ahead => Sys2Proof.Machine.execVsll ahead s
  | .vsrl ahead => Sys2Proof.Machine.execVsrl ahead s
  | .vsra ahead => Sys2Proof.Machine.execVsra ahead s
  | .vmul ahead => Sys2Proof.Machine.execVmul ahead s
  | .vmulh ahead => Sys2Proof.Machine.execVmulh ahead s
  | .vmacc ahead => Sys2Proof.Machine.execVmacc ahead s
  | .vmerge ahead => Sys2Proof.Machine.execVmerge ahead s
  | .vmv ahead => Sys2Proof.Machine.execVmv ahead s
  | .vslidedn ahead => Sys2Proof.Machine.execVslidedn ahead s
  | .vslideup ahead => Sys2Proof.Machine.execVslideup ahead s
  | .vmseq ahead => Sys2Proof.Machine.execVmseq ahead s
  | .vmsne ahead => Sys2Proof.Machine.execVmsne ahead s
  | .vmslt ahead => Sys2Proof.Machine.execVmslt ahead s
  | .vmsltu ahead => Sys2Proof.Machine.execVmsltu ahead s
  | .vmsle ahead => Sys2Proof.Machine.execVmsle ahead s
  | .vmsleu ahead => Sys2Proof.Machine.execVmsleu ahead s
  | .vwmul ahead => Sys2Proof.Machine.execVwmul ahead s
  | .vwmulu ahead => Sys2Proof.Machine.execVwmulu ahead s
  | .vwmulsu ahead => Sys2Proof.Machine.execVwmulsu ahead s
  | .vwmacc ahead => Sys2Proof.Machine.execVwmacc ahead s
  | .vwmaccu ahead => Sys2Proof.Machine.execVwmaccu ahead s
  | .vdot4 ahead => Sys2Proof.Machine.execVdot4 ahead s
  | .vdot4u ahead => Sys2Proof.Machine.execVdot4u ahead s
  | .vdot2 ahead => Sys2Proof.Machine.execVdot2 ahead s
  | .vfadd ahead => Sys2Proof.Machine.execVfadd ahead s
  | .vfsub ahead => Sys2Proof.Machine.execVfsub ahead s
  | .vfmul ahead => Sys2Proof.Machine.execVfmul ahead s
  | .vfmacc ahead => Sys2Proof.Machine.execVfmacc ahead s
  | .vfmin ahead => Sys2Proof.Machine.execVfmin ahead s
  | .vfmax ahead => Sys2Proof.Machine.execVfmax ahead s
  | .vfmseq ahead => Sys2Proof.Machine.execVfmseq ahead s
  | .vfmslt ahead => Sys2Proof.Machine.execVfmslt ahead s
  | .vfmsle ahead => Sys2Proof.Machine.execVfmsle ahead s
  | .vfcvtFX ahead => Sys2Proof.Machine.execVfcvtFX ahead s
  | .vfcvtXF ahead => Sys2Proof.Machine.execVfcvtXF ahead s
  | .vfwmul ahead => Sys2Proof.Machine.execVfwmul ahead s
  | .vfwmacc ahead => Sys2Proof.Machine.execVfwmacc ahead s
  | .vredsum ahead => Sys2Proof.Machine.execVredsum ahead s
  | .vredmax ahead => Sys2Proof.Machine.execVredmax ahead s
  | .vredmin ahead => Sys2Proof.Machine.execVredmin ahead s
  | .vredmaxu ahead => Sys2Proof.Machine.execVredmaxu ahead s
  | .vfredsum ahead => Sys2Proof.Machine.execVfredsum ahead s
  | .vfredmax ahead => Sys2Proof.Machine.execVfredmax ahead s
  | .vetchRunaheadCommit => Sys2Proof.Machine.execVetchRunaheadCommit s
  | .powerStateRequest cid bank value => Sys2Proof.Machine.execPowerStateRequest cid bank value s
  | .powerTransitionDone bank => Sys2Proof.Machine.execPowerTransitionDone bank s
  | .secureWipe cid value => Sys2Proof.Machine.execSecureWipe cid value s
  | .wipeDone ok => Sys2Proof.Machine.execWipeDone ok s
  | .marchStart cid value => Sys2Proof.Machine.execMarchStart cid value s
  | .marchAbort cid value => Sys2Proof.Machine.execMarchAbort cid value s
  | .marchSegment flips => Sys2Proof.Machine.execMarchSegment flips s
  | .scrubRead => Sys2Proof.Machine.execScrubRead s
  | .injectionArm cid value => Sys2Proof.Machine.execInjectionArm cid value s
  | .semTry cid k => Sys2Proof.Machine.execSemTry cid k s
  | .semTake cid k => Sys2Proof.Machine.execSemTake cid k s
  | .semGive cid k => Sys2Proof.Machine.execSemGive cid k s
  | .semCancel cid k => Sys2Proof.Machine.execSemCancel cid k s
  | .semReclaim cid target => Sys2Proof.Machine.execSemReclaim cid target s
  | .semGrantRead cid => Sys2Proof.Machine.execSemGrantRead cid s
  | .inheritanceHop group => Sys2Proof.Machine.execInheritanceHop group s
  | .mailboxPost cid m data handle => Sys2Proof.Machine.execMailboxPost cid m data handle s
  | .mailboxAck cid m => Sys2Proof.Machine.execMailboxAck cid m s
  | .alloc cid => Sys2Proof.Machine.execAlloc cid s
  | .poolFree cid handle => Sys2Proof.Machine.execPoolFree cid handle s
  | .poolGive cid handle target => Sys2Proof.Machine.execPoolGive cid handle target s
  | .poolLink cid handle next => Sys2Proof.Machine.execPoolLink cid handle next s
  | .poolReclaim cid target => Sys2Proof.Machine.execPoolReclaim cid target s
  | .ledgerFail which index => Sys2Proof.Machine.execLedgerFail which index s
  | .carrierStart g => Sys2Proof.Machine.execCarrierStart g s
  | .carrierZeroEvent g => Sys2Proof.Machine.execCarrierZeroEvent g s
  | .carrierPeakEvent g => Sys2Proof.Machine.execCarrierPeakEvent g s
  | .localZero l => Sys2Proof.Machine.execLocalZero l s
  | .localPeak l => Sys2Proof.Machine.execLocalPeak l s
  | .outputEdge l => Sys2Proof.Machine.execOutputEdge l s
  | .gcommit cid g value => Sys2Proof.Machine.execGcommit cid g value s
  | .arm cid l => Sys2Proof.Machine.execArm cid l s
  | .disarm cid l => Sys2Proof.Machine.execDisarm cid l s
  | .clrflt cid l => Sys2Proof.Machine.execClrflt cid l s
  | .legCfgWrite cid l value => Sys2Proof.Machine.execLegCfgWrite cid l value s
  | .triggerCompareFire g k => Sys2Proof.Machine.execTriggerCompareFire g k s
  | .faultInput j ns => Sys2Proof.Machine.execFaultInput j ns s
  | .adcEnable cid c value => Sys2Proof.Machine.execAdcEnable cid c value s
  | .adcDisable cid c value => Sys2Proof.Machine.execAdcDisable cid c value s
  | .adcTimerFire c => Sys2Proof.Machine.execAdcTimerFire c s
  | .adcSoft cid c value => Sys2Proof.Machine.execAdcSoft cid c value s
  | .samplingInstant c v => Sys2Proof.Machine.execSamplingInstant c v s
  | .conversionEnd c => Sys2Proof.Machine.execConversionEnd c s
  | .resultPortRead core c e => Sys2Proof.Machine.execResultPortRead core c e s
  | .resaRead cid c e => Sys2Proof.Machine.execResaRead cid c e s
  | .comparatorTrip c => Sys2Proof.Machine.execComparatorTrip c s
  | .comparatorRelease c => Sys2Proof.Machine.execComparatorRelease c s
  | .blankingWindowClose k => Sys2Proof.Machine.execBlankingWindowClose k s
  | .temperatureMeasurement t => Sys2Proof.Machine.execTemperatureMeasurement t s
  | .supplyLow j => Sys2Proof.Machine.execSupplyLow j s
  | .drive t => Sys2Proof.Machine.execDrive t s
  | .sample t => Sys2Proof.Machine.execSample t s
  | .shift t => Sys2Proof.Machine.execShift t s
  | .fetch t => Sys2Proof.Machine.execFetch t s
  | .deposit t => Sys2Proof.Machine.execDeposit t s
  | .awaitPin t => Sys2Proof.Machine.execAwaitPin t s
  | .countAdd t => Sys2Proof.Machine.execCountAdd t s
  | .countLoad t => Sys2Proof.Machine.execCountLoad t s
  | .countStamp t => Sys2Proof.Machine.execCountStamp t s
  | .countDelta t => Sys2Proof.Machine.execCountDelta t s
  | .branchTsl t => Sys2Proof.Machine.execBranchTsl t s
  | .signalEvent t => Sys2Proof.Machine.execSignalEvent t s
  | .signalTry t => Sys2Proof.Machine.execSignalTry t s
  | .signalGive t => Sys2Proof.Machine.execSignalGive t s
  | .signalStop t => Sys2Proof.Machine.execSignalStop t s
  | .pinEventFire n => Sys2Proof.Machine.execPinEventFire n s
  | .channelStart cid t => Sys2Proof.Machine.execChannelStart cid t s
  | .channelStopWrite cid t => Sys2Proof.Machine.execChannelStopWrite cid t s
  | .fifoOutWrite cid t value => Sys2Proof.Machine.execFifoOutWrite cid t value s
  | .fifoInRead cid t => Sys2Proof.Machine.execFifoInRead cid t s
  | .uartDataWrite cid u value => Sys2Proof.Machine.execUartDataWrite cid u value s
  | .uartDataRead cid u => Sys2Proof.Machine.execUartDataRead cid u s
  | .uartFrameReceived u s7 s8 s9 stop => Sys2Proof.Machine.execUartFrameReceived u s7 s8 s9 stop s
  | .uartFrameSent u => Sys2Proof.Machine.execUartFrameSent u s
  | .i2cStart ack => Sys2Proof.Machine.execI2cStart ack s
  | .i2cWrite ack => Sys2Proof.Machine.execI2cWrite ack s
  | .i2cRead data => Sys2Proof.Machine.execI2cRead data s
  | .i2cStop => Sys2Proof.Machine.execI2cStop s
  | .arbitrationLost => Sys2Proof.Machine.execArbitrationLost s
  | .i2cTargetAccess a => Sys2Proof.Machine.execI2cTargetAccess a s
  | .hostSpiTransaction mode3 tx rx => Sys2Proof.Machine.execHostSpiTransaction mode3 tx rx s
  | .hostAbort => Sys2Proof.Machine.execHostAbort s
  | .receiverLock p inverted rate => Sys2Proof.Machine.execReceiverLock p inverted rate s
  | .lossOfChainLock p codeErr => Sys2Proof.Machine.execLossOfChainLock p codeErr s
  | .linkDown p => Sys2Proof.Machine.execLinkDown p s
  | .errorCountInterval p => Sys2Proof.Machine.execErrorCountInterval p s
  | .errlimHoldoffEnd p => Sys2Proof.Machine.execErrlimHoldoffEnd p s
  | .idleSymbol p bytes chk => Sys2Proof.Machine.execIdleSymbol p bytes chk s
  | .frameReceive p cls bytes codeErr eofp residence => Sys2Proof.Machine.execFrameReceive p cls bytes codeErr eofp residence s
  | .cutThroughForward p cls dst => Sys2Proof.Machine.execCutThroughForward p cls dst s
  | .transmitNextFrame p residence => Sys2Proof.Machine.execTransmitNextFrame p residence s
  | .hello port => Sys2Proof.Machine.execHello port s
  | .assign port => Sys2Proof.Machine.execAssign port s
  | .enumrpt port => Sys2Proof.Machine.execEnumrpt port s
  | .route port => Sys2Proof.Machine.execRoute port s
  | .linkrpt port => Sys2Proof.Machine.execLinkrpt port s
  | .orphan port => Sys2Proof.Machine.execOrphan port s
  | .version port => Sys2Proof.Machine.execVersion port s
  | .ratechg port => Sys2Proof.Machine.execRatechg port s
  | .ident port => Sys2Proof.Machine.execIdent port s
  | .identrsp port => Sys2Proof.Machine.execIdentrsp port s
  | .resetMgmt port => Sys2Proof.Machine.execResetMgmt port s
  | .rejoin port => Sys2Proof.Machine.execRejoin port s
  | .rejoinSend => Sys2Proof.Machine.execRejoinSend s
  | .enumerationStart => Sys2Proof.Machine.execEnumerationStart s
  | .endwaitExpiry => Sys2Proof.Machine.execEndwaitExpiry s
  | .unitLost a => Sys2Proof.Machine.execUnitLost a s
  | .remoteRequestIssue cid write addr sz value => Sys2Proof.Machine.execRemoteRequestIssue cid write addr sz value s
  | .postStageStore cid unit m w value => Sys2Proof.Machine.execPostStageStore cid unit m w value s
  | .rd port => Sys2Proof.Machine.execRd port s
  | .wr port => Sys2Proof.Machine.execWr port s
  | .semop port => Sys2Proof.Machine.execSemop port s
  | .mbxpost port => Sys2Proof.Machine.execMbxpost port s
  | .bwr port => Sys2Proof.Machine.execBwr port s
  | .rdrsp port => Sys2Proof.Machine.execRdrsp port s
  | .ack port => Sys2Proof.Machine.execAck port s
  | .semrsp port => Sys2Proof.Machine.execSemrsp port s
  | .errRsp port => Sys2Proof.Machine.execErrRsp port s
  | .responseTimeout j host => Sys2Proof.Machine.execResponseTimeout j host s
  | .semevt port => Sys2Proof.Machine.execSemevt port s
  | .semack port => Sys2Proof.Machine.execSemack port s
  | .semevtTimeout dst tag => Sys2Proof.Machine.execSemevtTimeout dst tag s
  | .pinote port => Sys2Proof.Machine.execPinote port s
  | .msgsend cid value => Sys2Proof.Machine.execMsgsend cid value s
  | .mstart port => Sys2Proof.Machine.execMstart port s
  | .messageAllocate port => Sys2Proof.Machine.execMessageAllocate port s
  | .mdata port => Sys2Proof.Machine.execMdata port s
  | .msgtoExpiry held src tag => Sys2Proof.Machine.execMsgtoExpiry held src tag s
  | .msgresRead cid => Sys2Proof.Machine.execMsgresRead cid s
  | .relayreq port => Sys2Proof.Machine.execRelayreq port s
  | .relayref port => Sys2Proof.Machine.execRelayref port s
  | .relaystart port => Sys2Proof.Machine.execRelaystart port s
  | .relaymark port => Sys2Proof.Machine.execRelaymark port s
  | .relaydata port => Sys2Proof.Machine.execRelaydata port s
  | .relayend port => Sys2Proof.Machine.execRelayend port s
  | .mopen port => Sys2Proof.Machine.execMopen port s
  | .mread port => Sys2Proof.Machine.execMread port s
  | .merase port => Sys2Proof.Machine.execMerase port s
  | .mprog port => Sys2Proof.Machine.execMprog port s
  | .mclose port => Sys2Proof.Machine.execMclose port s
  | .flashOperationDone ok => Sys2Proof.Machine.execFlashOperationDone ok s
  | .maintenanceTimeout => Sys2Proof.Machine.execMaintenanceTimeout s
  | .syncSend => Sys2Proof.Machine.execSyncSend s
  | .syncReceive port tb16 => Sys2Proof.Machine.execSyncReceive port tb16 s
  | .syncLost => Sys2Proof.Machine.execSyncLost s
  | .pdreqSend => Sys2Proof.Machine.execPdreqSend s
  | .pdreq port => Sys2Proof.Machine.execPdreq port s
  | .pdrsp port => Sys2Proof.Machine.execPdrsp port s
  | .timeSet cid hi lo => Sys2Proof.Machine.execTimeSet cid hi lo s
  | .vcoreReached => Sys2Proof.Machine.execVcoreReached s
  | .policyClear cid value => Sys2Proof.Machine.execPolicyClear cid value s
  | .rampBackstopExpiry => Sys2Proof.Machine.execRampBackstopExpiry s
  | .develop cid key => Sys2Proof.Machine.execDevelop cid key s
  | .seal cid key => Sys2Proof.Machine.execSeal cid key s
  | .returnLc cid key => Sys2Proof.Machine.execReturnLc cid key s
  | .spend cid key => Sys2Proof.Machine.execSpend cid key s
  | .keyprog cid slot key => Sys2Proof.Machine.execKeyprog cid slot key s
  | .revoke cid slot key => Sys2Proof.Machine.execRevoke cid slot key s
  | .tamperDetect source => Sys2Proof.Machine.execTamperDetect source s
  | .fuseReread same => Sys2Proof.Machine.execFuseReread same s
  | .tampcfgWrite cid value => Sys2Proof.Machine.execTampcfgWrite cid value s
  | .watchdogEnable cid n value => Sys2Proof.Machine.execWatchdogEnable cid n value s
  | .watchdogKick cid n key => Sys2Proof.Machine.execWatchdogKick cid n key s
  | .watchdogLate n => Sys2Proof.Machine.execWatchdogLate n s
  | .watchdogReset => Sys2Proof.Machine.execWatchdogReset s
  | .clkmonFault => Sys2Proof.Machine.execClkmonFault s
  | .faultSet cid value => Sys2Proof.Machine.execFaultSet cid value s
  | .faultClear cid key => Sys2Proof.Machine.execFaultClear cid key s
  | .pinSwitchRequest cid value => Sys2Proof.Machine.execPinSwitchRequest cid value s
  | .pinSwitchTake => Sys2Proof.Machine.execPinSwitchTake s
  | .gpioSet cid k value => Sys2Proof.Machine.execGpioSet cid k value s
  | .gpioClear cid k value => Sys2Proof.Machine.execGpioClear cid k value s
  | .supplyLiveFlagClear j => Sys2Proof.Machine.execSupplyLiveFlagClear j s
  | .clkmonReturn => Sys2Proof.Machine.execClkmonReturn s
  | .faultInputInactive j => Sys2Proof.Machine.execFaultInputInactive j s
  | .teaselPinEdge n level => Sys2Proof.Machine.execTeaselPinEdge n level s
  | .tamperConditionEnd source => Sys2Proof.Machine.execTamperConditionEnd source s

end Sys2Proof.Machine
end

