-- ==== Sys2Proof/Machine/Tick.lean ====
section
/-!
DEFINITION. The idle tick of the block (assumption log 2): what passes in one nanosecond in which no command comes. Events that have a
command of their own come by that command; the tick moves the counts.
-/
namespace Sys2Proof.Machine

/-- TB6 with its slew (R430, R511), and the periods it counts. -/
def timeTick (s : State) : State :=
  if s.tb.counting then
    let r := slewTick s
    syncTick { r.2 with tb := { r.2.tb with time := ((r.2.tb.time : Int) + r.1).toNat % 2 ^ 64 } }
  else s

/-- mcycle counts TB6 ticks of 8 ns from release on (R192), unless inhibited, stopped by the debugger, or TB6 stands still. -/
def cycleTick (s : State) : State :=
  let y := s.yar
  if !y.run || !s.tb.counting || y.mcountinhibit.getLsbD 0 || countsStop y then s
  else if y.cycSub < 7 then s.updYar (fun y => { y with cycSub := y.cycSub + 1 })
  else s.updYar (fun y => { y with cycSub := 0, mcycle := y.mcycle + 1#64 })

/-- Does the count of watchdog `n` hold for the debugger (R473)? -/
def wdPaused (n : Nat) (s : State) : Bool :=
  s.on (F.LCS_WDnCTL_DBGPAUSE n) && s.yar.dbg.halted && (lifeState s == 1 || lifeState s == 3)

/-- One TB10 tick of watchdog `n` (R470): 1024 of them are a unit of 64 µs; it does not count past WINHI. -/
def wdTick (n : Nat) (s : State) : State :=
  if !wdRuns n s || wdPaused n s || s.lcs.wdSrc.get (wdIx n) || decide (s.get (F.LCS_WDnWIN_WINHI n) ≤ s.get (F.LCS_WDnSTAT_COUNT n)) then s
  else if (s.lcs.wd.get (wdIx n)).sub < 1023 then
    s.updLcs (fun l => { l with wd := vupd l.wd (wdIx n) (fun w => { sub := w.sub + 1 }) })
  else
    let s := s.updLcs (fun l => { l with wd := vupd l.wd (wdIx n) (fun _ => { sub := 0 }) })
    setWdCount n (s.get (F.LCS_WDnSTAT_COUNT n) + 1) s

/-- One TB10 tick toward a WDR (R471). -/
def wdrTick (s : State) : State := s.updLcs (fun l => { l with wdrDue := l.wdrDue.map (· - 1) })

/-- One TB10 tick of the ramp backstop (R442). -/
def rampTick (s : State) : State :=
  if !s.pol.rampOn then s
  else if s.pol.rampSub < 15999 then { s with pol := { s.pol with rampSub := s.pol.rampSub + 1 } }
  else
    { s with pol := { s.pol with rampSub := 0 } }.set F.SYS_POLRAMP_REMAIN (s.get F.SYS_POLRAMP_REMAIN - 1)

/-- One TB10 tick toward the next scrub read (R251); none is counted while the scrubber is off or the start-up march has not run. -/
def scrubWait (s : State) : State :=
  if s.on F.MEM_ECCCTL_SCRUBEN ∧ s.get F.SYS_BOOTSTAT_STATE ≠ 0 ∧ s.memCtl.scrubTick < 255 then
    { s with memCtl := { s.memCtl with scrubTick := s.memCtl.scrubTick + 1 } }
  else s

/-- One tick of TB10 (R471, R442, R286, R251). -/
def tb10Tick (s : State) : State := wdrTick (rampTick (wdTick 1 (wdTick 0 (scrubWait (ledgerScan s)))))

/-- What has fallen due with the last tick and was not commanded since: LATE, the ramp backstop, the WDR (R442, R471). -/
def dueTick (s : State) : State := wdReset (rampExpire (wdLate 1 (wdLate 0 s)))

/-- Event pulses not yet delivered go on (assumption log 8). -/
def lateTick (s : State) : State :=
  if s.evr.late.isEmpty then s else deliver 9 s.evr.late { s with evr := { s.evr with late := [] } }

/-- One nanosecond with no command. Vetch completes the oldest instruction of its window (DESIGN CHOICE: one in a tick; assumption
log 36). -/
def tick (s : State) : State :=
  let s := dueTick s.begin
  let r := tbTick { s with now := s.now + 1 }
  let s := vetOldest (lateTick (cycleTick (timeTick r.1)))
  if r.2 then tb10Tick s else s

end Sys2Proof.Machine
end

