-- ==== Sys2Proof/Safety.lean ====
section
/-!
DEFINITION. What counts as a sound state and a sound step, in the terms the statements use.
-/
namespace Sys2Proof.Machine

/-- Is fuse bit `b` blown (R459)? -/
def Fuses.blown (f : Fuses) (b : FuseBit) : Bool :=
  match b with
  | .lcs i => f.lcs.getLsbD i
  | .lcsAck i => f.lcsAck.getLsbD i
  | .keyHash k i => (f.keyHash.toList.getD k 0#256).getLsbD i
  | .keyProg k => f.keyProg.getLsbD k
  | .keyRev k => f.keyRev.getLsbD k
  | .rollback i => f.rollback.getLsbD i
  | .tset i => f.tset.getLsbD i
  | .tack i => f.tack.getLsbD i

/-- The canonical form of a state: register addresses rise strictly, and the memory is canonical. -/
def State.canon (s : State) : Bool := smapSorted s.regs && s.mem.wf

/-- The fabric checks (R90) let client `cid` read or write the register at `a`, and no chain request has ended that someone waits
for. -/
abbrev Admits (cid : Cid) (write : Bool) (a : Nat) (s : State) : Prop :=
  (accessCheck { cid := cid.toNat } write a 4 s).toOption = some (16 + (a - 0x50000000) / 0x1000) ∧ s.chn.done = []

/-- Command `c` answers a next state of which `p` holds. -/
def Ends (c : Instr) (s : State) (p : State → Prop) : Prop := ∃ t, exec c s = .next t ∧ p t

/-- Yarrow runs, waits for nothing, and fetches the `len` bytes `w` at PC; `t` is the state after the fetch (R165, R166). -/
abbrev Fetches (w : Word) (len : Nat) (s t : State) : Prop :=
  s.yar.run = true ∧ s.yar.dbg.halted = false ∧ s.yar.wait = none ∧ s.yar.wfi = false ∧ s.yar.dbg.dcsr.getLsbD 2 = false ∧
  triggerHit 2 s.yar.pc.toNat s = none ∧ (yFetch s.begin).1.toOption = some (w, len) ∧ (yFetch s.begin).2 = t

/-- The instruction of `len` bytes at PC retires and the next one follows (R169, R192). -/
def State.retired (len : Nat) (s : State) : State := retireTo (s.yar.pc + BitVec.ofNat 32 len) s

/-- A trap (R172, R173) to `target`: the Vetch instructions that ran ahead are squashed, mepc, mcause and mtval take the cause, the
interrupt enable and the mode are stacked, and Machine mode runs on at `target`. -/
def State.trapped (cause tval target : Word) (s : State) : State :=
  s.updYar fun y =>
    { y with vet := { y.vet with pend := [], path := [] }, mepc := y.pc, mcause := cause, mtval := tval, mpie := y.mie, mie := false,
             mppM := y.mach, mach := true, wfi := false, fence := false, pc := target }

/-- Where an exception goes: the base of mtvec. -/
def State.trapBase (s : State) : Word := s.yar.mtvec &&& 0xFFFFFFC0#32

/-- Yarrow fetches the legal Vetch instruction `w`, and none ran ahead (R200 to R205, R215). -/
abbrev VecRuns (w : Word) (s t : State) : Prop :=
  Fetches w 4 s t ∧ yDecode w 4 = .vec w ∧ t.yar.vet.pend = [] ∧ vLegal w { t.yar.vet with path := [] } t.yar = true

/-- A Vetch instruction whose result enters the window, where there is room (R200, R201). -/
abbrev VecEnters (w : Word) (s t : State) : Prop := VecRuns w s t ∧ t.yar.vet.win.length < 8

/-- A register-to-register instruction retires into the window with its results (R200, R201, R211). -/
def State.vecDone (o : VOut) (s : State) : State := (vEnter o (vetSquash s)).retired 4

/-- The commands of the custom-1 instructions and the words each names (R203). -/
def vecForms1 : List ((YInstr → Bool) × (Bool → Instr)) :=
  [(isVec1 0x0, .vadd), (isVec1 0x1, .vsub), (isVec1 0x2, .vsadd), (isVec1 0x3, .vssub), (isVec1 0x4, .vmin),
   (isVec1 0x5, .vmax), (isVec1 0x6, .vminu), (isVec1 0x7, .vmaxu), (isVec1 0x8, .vand), (isVec1 0x9, .vor), (isVec1 0xa, .vxor),
   (isVec1 0xb, .vsll), (isVec1 0xc, .vsrl), (isVec1 0xd, .vsra), (isVec1 0xe, .vmul), (isVec1 0xf, .vmulh),
   (isVec1 0x10, .vmacc), (isVec1 0x11, .vmerge), (isVec1 0x12, .vmv), (isVec1 0x13, .vslidedn), (isVec1 0x14, .vslideup),
   (isVec1 0x18, .vwmul), (isVec1 0x19, .vwmulu), (isVec1 0x1a, .vwmulsu), (isVec1 0x1b, .vwmacc), (isVec1 0x1c, .vwmaccu),
   (isVec1 0x1d, .vdot4), (isVec1 0x1e, .vdot4u), (isVec1 0x1f, .vdot2), (isVec1 0x20, .vmseq), (isVec1 0x21, .vmsne),
   (isVec1 0x22, .vmslt), (isVec1 0x23, .vmsltu), (isVec1 0x24, .vmsle), (isVec1 0x25, .vmsleu), (isVec1 0x28, .vfadd),
   (isVec1 0x29, .vfsub), (isVec1 0x2a, .vfmul), (isVec1 0x2b, .vfmacc), (isVec1 0x2c, .vfmin), (isVec1 0x2d, .vfmax),
   (isVec1 0x2e, .vfmseq), (isVec1 0x2f, .vfmslt), (isVec1 0x30, .vfmsle), (isVec1 0x31, .vfcvtFX), (isVec1 0x32, .vfcvtXF),
   (isVec1 0x33, .vfwmul), (isVec1 0x34, .vfwmacc), (isVec1 0x38, .vredsum), (isVec1 0x39, .vredmax), (isVec1 0x3a, .vredmin),
   (isVec1 0x3b, .vredmaxu), (isVec1 0x3c, .vfredsum), (isVec1 0x3d, .vfredmax)]

/-- The commands of the register-to-register instructions: those, and the mask operations of custom-2 (R203, R204). -/
def vecForms : List ((YInstr → Bool) × (Bool → Instr)) := vecForms1 ++
  [(isVec2 2 0, .vkand), (isVec2 2 1, .vkor), (isVec2 2 2, .vkxor), (isVec2 2 3, .vkandn), (isVec2 2 4, .vknot)]

/-- Element `i` of the first operand, VS1. -/
def vecA (w : Word) (x : Vet) (i : Nat) : Nat := elt (x.group (vVs1 w) x.lmul) x.width i

/-- Element `i` of the second operand: of VS2, or x[RS2] in every element (R205). -/
def vecB (w : Word) (x : Vet) (xb : Word) (i : Nat) : Nat :=
  if vX w then wrapAt x.width xb.toInt else elt (x.group (vVs2 w) x.lmul) x.width i

/-- Is element `i` active under the instruction's mask (R202)? -/
def vecAct (w : Word) (x : Vet) (i : Nat) : Bool := natBit (x.mask (vKm w)) i

/-- Elements of width `ew` below `n` that are active take what `f` gives; `c` registers at VD. -/
def vecOut (w : Word) (x : Vet) (n ew c : Nat) (act : Nat → Bool) (f : Nat → Nat × FlagSet) (fp : Bool) : VOut :=
  let r := vMap n ew act f (x.group (vVd w) c)
  { vw := groupOut (vVd w) c r.1, fl := r.2, fp := fp }

/-- The register at `a` takes `w` by the access codes of its fields (R3, R510). -/
def State.codeWritten (a : Nat) (w : Word) (s : State) : State :=
  match regRow? a with
  | some row => codeWrite row a w 15 s
  | none => s

/-- Running channel `t` fetches the word `w` at its PC (R344, R345); `u` is the state after the fetch. -/
abbrev TslFetches (t : Fin 24) (w : Word) (s u : State) : Prop :=
  tslRuns t s = true ∧ (bankReady (tslAddr t s) s.begin).1 = true ∧
    ramReadWord { cid := 26 + t, fetch := true } 1 (tslAddr t s) (bankReady (tslAddr t s) s.begin).2 = (some w, u)

/-- The engine serves channel `t`, which goes on at `pc`, waiting for nothing. -/
def State.tslAt (t : Fin 24) (pc : Nat) (s : State) : State :=
  tslServed t ((s.set (F.TSL_CHtSTAT_WAIT t) 0).set (F.TSL_CHtPC_PC t) pc)

/-- The engine serves channel `t`, whose instruction stops it with cause `c` (R360). -/
def State.tslStops (t : Fin 24) (c : Nat) (s : State) : State := tslServed t (tslStop t c s)

/-- Channel `t` finds its condition unmet in the step that would leave `v` (R346, R355, R357): it shows WAIT and what a stall or an overrun
sets. -/
def State.tslWaits (t : Fin 24) (s v : State) : State :=
  if s.on (F.TSL_CHtSTAT_WAIT t) then s.setWord (R.TSL_CHtSTAT t) (v.word (R.TSL_CHtSTAT t)) else v.set (F.TSL_CHtSTAT_WAIT t) 1

/-- The commands of the Teasel instructions and the words each names (R351). -/
def tslForms : List ((Word → Bool) × (Fin 24 → Instr)) :=
  [(tslClass 1, .drive), (tslClass 2, .sample), (tslClass 3, .shift), (tslClass 4, .fetch), (tslClass 5, .deposit), (tslClass 6, .awaitPin),
   (tslCountOp 0, .countAdd), (tslCountOp 1, .countLoad), (tslCountOp 2, .countStamp), (tslCountOp 3, .countDelta), (tslClass 8, .branchTsl),
   (tslSignalOp 0, .signalEvent), (tslSignalOp 1, .signalTry), (tslSignalOp 2, .signalGive), (tslSignalOp 3, .signalStop)]

/-- `f` is the oldest frame of CLASS `cls` and TYPE `typ` that waits to be acted on at port `p` (2: the host's); `u` is the state once
it has left its slot. -/
abbrev Received (p cls typ : Nat) (f : Frame) (s u : State) : Prop :=
  (slotFind p cls typ s.begin).map (fun x => (x.f, slotDone p x s.begin)) = some (f, u)

end Sys2Proof.Machine
end

