-- ==== Sys2Proof/Certificates/Slice0/Obligations.lean ====
section
/-!
DEFINITION. The statements for the provers. A docstring names the assumption log entry where a statement rests on a choice of
the model.
-/
open Sys2Proof Sys2Proof.Machine

/-- R18, R511, R35: reaching lock. TB6 counts from then on, and on the head DISC rises; TB13 starts the rotation of every group;
TB10, and every timebase without a source, has no lock to reach. R19: losing lock. TB10 has none to lose; TB1 and TB2 fault their
legs with LOCK, TB6 stops counting and DISC falls, TB9 stops Teasel, TB12 the serial ports, TB13 clears FINE and ends the rotations,
and a spare calibrated before counts no more; the legs' sources are then looked at again. It is stated of the model's choices in
assumption log 27 and 64. -/
def Obligations.TimebasesLockAndLose : Prop :=
  ((∀ (n : Fin 14) (s : State), n ≠ 6 → n ≠ 10 → n ≠ 13 → s.tb.noSource = false →
     exec (.timebaseLock n) s = .next (s.begin.setBit F.TB_LOCK n true)) ∧
   (∀ (n : Fin 14) (s : State), n = 10 ∨ s.tb.noSource = true → exec (.timebaseLock n) s = .next s.begin) ∧
   (∀ s : State, s.tb.noSource = false →
     let u := (s.begin.setBit F.TB_LOCK 6 true).updTb fun t => { t with counting := true }
     (isHead s = false → exec (.timebaseLock 6) s = .next u) ∧
     (isHead s = true → exec (.timebaseLock 6) s = .next (discTo true u)) ∧
     (isHead s = true → s.on F.CHN_TSTAT_DISC = false → s.on F.TB_REFSTAT_CHAINOK = false →
       exec (.timebaseLock 6) s = .next (xEvent 3 (u.set F.CHN_TSTAT_DISC 1)))) ∧
   (∀ s : State, s.tb.noSource = false → s.get F.TB_DLSTAT_SPAREOK = 0x1F → s.get F.TB_DLSTAT_FINE = 0 → s.tb.backWait = false →
     exec (.timebaseLock 13) s = .next ((s.begin.setBit F.TB_LOCK 13 true).updTb fun t =>
       { t with cal := t.cal.map fun c => { c with rotLeft := c.lines.length + 1, spareReady := false } }))) ∧
  ((∀ (n : Fin 14) (s : State), n = 10 ∨ s.bit F.TB_LOCK n = false → exec (.lossOfLock n) s = .next s.begin) ∧
   (∀ (n : Fin 14) (s : State), s.bit F.TB_LOCK n = true → n ≠ 10 →
     let u := (s.begin.setBit F.TB_LOCK n false).setBit F.TB_LOCKLOSS n true
     (n ∉ ([1, 2, 6, 9, 12, 13] : List (Fin 14)) → exec (.lossOfLock n) s = .next u.faultEval) ∧
     (n = 1 → exec (.lossOfLock n) s = .next (legsFault (fun l => decide (l < 8)) 5 u).faultEval) ∧
     (n = 2 → exec (.lossOfLock n) s = .next (legsFault (fun l => decide (8 ≤ l)) 5 u).faultEval) ∧
     (n = 6 → exec (.lossOfLock n) s = .next (discTo false (u.updTb fun t => { t with counting := false })).faultEval) ∧
     (n = 6 → s.on F.TB_REFSTAT_CHAINOK = false → s.on F.CHN_TSTAT_DISC = true → exec (.lossOfLock n) s =
       .next (xEvent 3 ((u.updTb fun t => { t with counting := false }).set F.CHN_TSTAT_DISC 0)).faultEval) ∧
     (n = 9 → exec (.lossOfLock n) s = .next (tslStopAll 6 u).faultEval) ∧
     (n = 12 → exec (.lossOfLock n) s = .next (serialLockLoss u).faultEval) ∧
     (n = 13 → exec (.lossOfLock n) s = .next (clearFine u).faultEval)) ∧
   (∀ s : State, s.get F.TB_DLSTAT_FINE ≠ 0 →
     clearFine s = (((s.updTb fun t =>
       { t with backWait := true, cal := t.cal.mapIdx fun g c =>
                  { c with rotLeft := 0, spareReady := false, lost := c.lost || natBit (s.get F.TB_DLSTAT_FINE) g } }).set F.TB_DLSTAT_FINE 0).tbEvent 4)))

/-- The primary is LOST while it does not drive TB0 (R22, R516): its filter empties, the trim ends, the return count restarts, BAND
reads LOST, the loss is counted and TB_EVT.LOST set; where BAND read LOST before, only the filter empties and the return count
restarts. CHAIN as a primary that has not been available yet has nothing to lose (R514). The switchover of R27 where the primary
drives TB0: HOLD, FINE cleared, LOST counted, the fallback taken, with SWITCHED, and its policy trigger set: CHAIN where chain time
is there, with the fine yardstick, else RC, with the ratio it is corrected by. With no source left TB0 stays in holdover (R25). It
is stated of the model's choices in assumption log 26, 62 and 63. -/
def Obligations.PrimaryIsLost : Prop :=
  ((∀ s : State, chainUnseen s = true → exec .missingEdgeDetect s = .next s.begin ∧ exec .grossErrorDetect s = .next s.begin) ∧
   ∀ (alive gross : Bool) (s : State), primary s ≠ 2 → primaryDrives s = false → chainUnseen s = false →
     let stop := ((s.begin.updTb fun t =>
       { t with primAlive := alive, filter := [], gross := gross, retMs := 0, retReady := false, retZero := false }).set F.TB_REFSTAT_RETWAIT 0).set F.TB_REFSTAT_RETCNT 0
     let gone := ((((stop.set F.TB_REFSTAT_BAND 2).count F.TB_LOSTCNT_LOST).updTb fun t => { t with trim := 0, trimOff := false }).set
       F.TB_REFSTAT_TRIM 0).tbEvent 1
     (alive = false → gross = false → s.get F.TB_REFSTAT_BAND ≠ 2 → exec .missingEdgeDetect s = .next gone) ∧
     (alive = false → gross = false → s.get F.TB_REFSTAT_BAND = 2 → exec .missingEdgeDetect s = .next stop) ∧
     (alive = true → gross = true → s.tb.rcAlive = true → s.tb.primAlive = true → s.get F.TB_REFSTAT_BAND ≠ 2 →
       exec .grossErrorDetect s = .next gone) ∧
     (alive = true → gross = true → s.tb.rcAlive = true → s.tb.primAlive = true → s.get F.TB_REFSTAT_BAND = 2 →
       exec .grossErrorDetect s = .next stop)) ∧
  (∀ s : State, primary s ≠ 2 → primary s ≠ 3 → primaryDrives s = true →
     let u := enterLost (clearFine ((s.begin.updTb fun t => { t with primAlive := false, filter := [], gross := false }).set
       F.TB_REFSTAT_HOLD 1))
     (s.on F.TB_REFSTAT_CHAINOK = false → s.tb.rcAlive = true → exec .missingEdgeDetect s = .next (
       polUpdate (polMark 1 true (polMark 0 false ((((u.updTb fun t => { t with noSource := false, fbRatio := u.get F.TB_RCRATIO }).set
         F.TB_REFSTAT_CURSRC 2).tbEvent 2).set F.TB_REFSTAT_FINE 0))))) ∧
     (s.on F.TB_REFSTAT_CHAINOK = true → exec .missingEdgeDetect s = .next (
       polSet 0 true ((((u.updTb fun t => { t with noSource := false }).set F.TB_REFSTAT_CURSRC 3).tbEvent 2).set F.TB_REFSTAT_FINE 1))) ∧
     (s.on F.TB_REFSTAT_CHAINOK = false → s.tb.rcAlive = false → exec .missingEdgeDetect s =
       .next (u.updTb fun t => { t with noSource := true })))

/-- R513, R25, R27 steps 5 and 6, R515: the primary's edges resume, its filter starts again, and it drives TB0 on where no source
was left; the loops pull in; RC is lost, as a yardstick only or as the fallback that drives TB0; RC resumes; and with no source in
time the timebases lose lock. The filtered error at the end of 1 ms (R513, R22, R26, R30): a stopped primary is not measured; while
the filter fills, BAND keeps; with it full the band follows the limits: in OK the baseline follows the primary, at once on the fine
yardstick and by a ten-millionth on the coarse one; DRIFT is counted and starts the return count again; beyond the limits the
primary is LOST. R26, R30: the trim is gone; the return count reaches RETDLY, in units of 10 ms; the primary returns where the
carrier of group REFSYNC does not run, or at its zero event. It is stated of the model's choices in assumption log 26 and 61. -/
def Obligations.ReferenceFollows : Prop :=
  ((∀ s : State, s.tb.primAlive = false → primary s ≠ 2 →
     let u := (((((s.begin.updTb fun t =>
       { t with primAlive := true, filter := [], gross := false, retMs := 0, retReady := false, retZero := false }).set F.TB_REFSTAT_RETWAIT 0).set F.TB_REFSTAT_RETCNT 0).set F.TB_REFSTAT_BAND 3).set
       F.TB_RCRATIO (nominalRatio s))
     (s.tb.noSource = false → exec .primaryRestart s = .next u) ∧
     (s.tb.noSource = true → s.get F.TB_REFSTAT_CURSRC = primary s →
       exec .primaryRestart s = .next (u.updTb fun t => { t with noSource := false }))) ∧
   (∀ s : State, s.tb.primAlive = true → primary s ≠ 2 → exec .primaryRestart s = .next s.begin) ∧
   (∀ s : State, s.on F.TB_REFSTAT_HOLD = true → s.tb.noSource = false →
     (s.bit F.TB_LOCK 13 = false → exec .loopPullin s = .next (s.begin.set F.TB_REFSTAT_HOLD 0)) ∧
     (s.bit F.TB_LOCK 13 = true → exec .loopPullin s = .next (startRotation (s.begin.set F.TB_REFSTAT_HOLD 0)))) ∧
   (∀ s : State, s.on F.TB_REFSTAT_HOLD = false ∨ s.tb.noSource = true → exec .loopPullin s = .next s.begin) ∧
   (∀ s : State, primary s ≠ 2 →
     (s.get F.TB_REFSTAT_CURSRC ≠ 2 → exec .rcLoss s = .next (s.begin.updTb fun t => { t with rcAlive := false })) ∧
     (s.get F.TB_REFSTAT_CURSRC = 2 → s.on F.TB_REFSTAT_CHAINOK = false → exec .rcLoss s = .next (polSet 1 true (((clearFine
       ((s.begin.updTb fun t => { t with rcAlive := false }).set F.TB_REFSTAT_HOLD 1)).tbEvent 1).updTb fun t =>
         { t with noSource := true }))) ∧
     (s.get F.TB_REFSTAT_CURSRC = 2 → s.tb.rcAlive = false → s.tb.noSource = true →
       exec .rcReturn s = .next (s.begin.updTb fun t => { t with rcAlive := true, noSource := false })) ∧
     (s.tb.rcAlive = false → s.tb.noSource = false → exec .rcReturn s = .next (s.begin.updTb fun t => { t with rcAlive := true })) ∧
     (s.tb.rcAlive = true → exec .rcReturn s = .next s.begin)) ∧
   (∀ s : State, s.tb.noSource = true →
     exec .holdoverExpiry s = .next ((List.range 14).foldl (fun t n => loseLock n t) s.begin) ∧
     (s.get F.TB_LOCK % 2 ^ 14 = 1 →
       exec .holdoverExpiry s = .next ((s.begin.setBit F.TB_LOCK 0 false).setBit F.TB_LOCKLOSS 0 true).faultEval)) ∧
   (∀ s : State, s.tb.noSource = false → exec .holdoverExpiry s = .next s.begin)) ∧
  ((∀ (ratio : Nat) (err : Int) (s : State), s.tb.primAlive = false → exec (.filteredErrorRecomputation ratio err) s = .next s.begin) ∧
   (∀ (ratio : Nat) (err : Int) (s : State), s.tb.primAlive = true → primary s ≠ 2 → primary s ≠ 3 → s.tb.rcAlive = true →
     s.get F.TB_REFSTAT_BAND = 3 → s.tb.filter.length < 99 → s.on F.TB_REFSTAT_CHAINOK = false →
     exec (.filteredErrorRecomputation ratio err) s =
       .next (putReferr (s.begin.updTb fun t => { t with filter := t.filter ++ [{ ratio := ratio, fine := none }] }))) ∧
   (∀ (ratio : Nat) (err : Int) (s : State), s.tb.primAlive = true → primary s ≠ 2 → primary s ≠ 3 → s.on F.TB_REFSTAT_CHAINOK = true →
     s.get F.TB_REFSTAT_BAND = 0 → s.tb.gross = false → primaryDrives s = true → s.tb.rcAlive = true → s.tb.filter.length < 100 →
     let u := putReferr (s.begin.updTb fun t => { t with filter := t.filter ++ [{ ratio := ratio, fine := some err }], gross := false })
     bandOf u = 0 → exec (.filteredErrorRecomputation ratio err) s = .next ((u.set F.TB_REFSTAT_BAND 0).set F.TB_RCRATIO ratio)) ∧
   (∀ (ratio : Nat) (err : Int) (s : State), s.tb.primAlive = true → primary s ≠ 2 → primary s ≠ 3 → s.on F.TB_REFSTAT_CHAINOK = false →
     s.get F.TB_REFSTAT_BAND = 0 → s.tb.gross = false → primaryDrives s = true → s.tb.rcAlive = true → s.tb.filter.length < 100 →
     let u := putReferr (s.begin.updTb fun t => { t with filter := t.filter ++ [{ ratio := ratio, fine := none }], gross := false })
     let b := s.get F.TB_RCRATIO
     (bandOf u = 0 → exec (.filteredErrorRecomputation ratio err) s = .next ((u.set F.TB_REFSTAT_BAND 0).set F.TB_RCRATIO
       (if b ≤ ratio then min ratio (b + b / 10000000) else max ratio (b - b / 10000000)))) ∧
     (bandOf u = 1 → exec (.filteredErrorRecomputation ratio err) s =
       .next (retReset (((u.set F.TB_REFSTAT_BAND 1).count F.TB_LOSTCNT_DRIFT).tbEvent 0))) ∧
     (bandOf u = 2 → Ends (.filteredErrorRecomputation ratio err) s fun t =>
       t.get F.TB_REFSTAT_BAND = 2 ∧ t.on F.TB_REFSTAT_HOLD = true ∧ t.get F.TB_REFSTAT_CURSRC = 2))) ∧
  ((∀ s : State, (s.tb.trimOff = true →
       exec .trimRemovalDone s = .next ((s.begin.updTb fun t => { t with trim := 0, trimOff := false }).set F.TB_REFSTAT_TRIM 0)) ∧
     (s.tb.trimOff = false → exec .trimRemovalDone s = .next s.begin)) ∧
   (∀ s : State, s.on F.TB_REFSTAT_RETWAIT = true → s.on F.TB_REFCTL_AUTORET = true →
     (10 * s.get F.TB_BANDS_RETDLY ≤ s.tb.retMs → exec .retdlyExpiry s =
       .next (s.begin.updTb fun t => { t with retReady := true, retZero := !syncRunning s })) ∧
     (s.tb.retMs < 10 * s.get F.TB_BANDS_RETDLY → exec .retdlyExpiry s = .next s.begin)) ∧
   (∀ s : State, s.tb.retReady = true → s.tb.retZero = true ∨ syncRunning s = false →
     exec .primaryReturn s = .next (polUpdate (polMark 1 false (polMark 0 false ((fineShow ((((s.begin.updTb fun t =>
       { t with retMs := 0, retReady := false, retZero := false }).set F.TB_REFSTAT_RETWAIT 0).set F.TB_REFSTAT_RETCNT 0).set F.TB_REFSTAT_CURSRC (primary s))).tbEvent 3))))) ∧
   (∀ s : State, s.tb.retReady = false → exec .primaryReturn s = .next s.begin))

/-- R32, R33, R35, R36: with TB13 locked the spare is calibrated at today's temperature and voltage; a line that fails retires with
DLFAIL; the calibrated spare replaces the line calibrated longest ago unless that line has an edge pending, and the last swap of a
rotation sets FINE. R37: a read of TB_TIMELO answers the low half of TB6 and latches the high half, and changes nothing else. It is
stated of the model's choices in assumption log 26 and 65. -/
def Obligations.DelayLinesAndTime : Prop :=
  ((∀ (g : Fin 5) (ok : Bool) (s : State), s.bit F.TB_LOCK 13 = false →
     exec (.lineCalibrationDone g ok) s = .next s.begin ∧ exec (.lineSwap g) s = .next s.begin) ∧
   (∀ (g : Fin 5) (s : State), s.bit F.TB_LOCK 13 = true → s.bit F.TB_DLSTAT_SPAREOK g = true → (s.tb.cal.get g).spareReady = false →
     exec (.lineCalibrationDone g true) s = .next (s.begin.updCal g fun c => { c with spare := calNow s, spareReady := true }) ∧
     ((s.tb.cal.get g).rotLeft = 0 →
       exec (.lineCalibrationDone g false) s = .next ((s.begin.setBit F.TB_DLSTAT_SPAREOK g false).tbEvent 6))) ∧
   (∀ (g : Fin 5) (s : State) (old : CalPoint) (rest : List CalPoint), s.bit F.TB_LOCK 13 = true → (s.tb.cal.get g).lines = old :: rest →
     (s.tb.cal.get g).spareReady = true →
     let u := s.begin.updCal g fun c => { c with lines := rest ++ [c.spare], spare := old, spareReady := false,
                                                 pos := (c.pos + 1) % (rest.length + 1), rotLeft := c.rotLeft - 1 }
     (lineBusy g (s.tb.cal.get g).pos s = true → exec (.lineSwap g) s = .next s.begin) ∧
     (lineBusy g (s.tb.cal.get g).pos s = false → (s.tb.cal.get g).rotLeft ≠ 1 → exec (.lineSwap g) s = .next u) ∧
     (lineBusy g (s.tb.cal.get g).pos s = false → (s.tb.cal.get g).rotLeft = 1 → s.tb.backWait = false →
       exec (.lineSwap g) s = .next ((u.updCal g fun c => { c with lost := false }).setBit F.TB_DLSTAT_FINE g true)))) ∧
  (∀ (cid : Cid) (s : State), Admits cid false R.TB_TIMELO.addr s →
     exec (.tbTimeloRead cid) s = .next ((s.begin.set F.TB_TIMEHI (s.tb.time / 2 ^ 32)).answer (s.tb.time % 2 ^ 32)))

/-- R40, R77: what State.reset holds, by the reset values the manual gives, and that it is in canonical form. It is stated of the
model's choices in assumption log 1, which names the value of RSTCAUSE.LAST; the queue, the memory list and the canonical form are
the model's. -/
def Obligations.ResetState : Prop :=
  let s := State.reset
  s.get F.SYS_RSTCAUSE_LAST = 1 ∧ s.get F.SYS_RSTCAUSE_HIST = 0 ∧ s.get F.SYS_BOOTSTAT_STATE = 0 ∧ s.get F.SYS_BOOTSTAT_ERRA = 0 ∧
  s.get F.SYS_BOOTSTAT_ERRB = 0 ∧ s.get F.SYS_BOOTCTL_TRYB = 0 ∧ s.get F.TB_REFCTL_REFSEL = 2 ∧ s.get F.TB_REFCTL_REFKHZ = 16000 ∧
  s.get F.TB_REFSTAT_BAND = 3 ∧ s.get F.TB_LOCK = 0x400 ∧ s.get F.TB_RCRATIO = 0x01000000 ∧ s.get F.TB_BANDS_RETDLY = 50 ∧
  s.get F.SYS_CPLEGS_CP0 = 0x00FF ∧ s.get F.SYS_CPLEGS_CP1 = 0xFF00 ∧ s.get F.CHN_ADDR_ADDR = 0 ∧ s.pending = [] ∧ s.mem.cells = [] ∧
  s.bootLock = false ∧ s.canon = true

/-- R40, R77, R511, R471: what a reset clears and what it keeps, for each kind (0 POR, 1 pin, 2 WDR, 3 SOFT by Yarrow, 4 SOFT by
chain). RAM keeps its contents but for the word of the identity page that shows STATE. R40 to R43, R471: the commands that reset. A
pulse on nRST shorter than 100 ns is ignored; WDR comes once 1 ms has gone by; a write of SYS_SOFTRST by CID 1 with the key is SOFT,
and any other write only sets KEYERR. It is stated of the model's choices in assumption log 1, 32 and 78. -/
def Obligations.Resets : Prop :=
  (∀ (k : Nat) (s : State), k ≤ 4 →
     let t := resetTo k s
     t.get F.SYS_RSTCAUSE_LAST = 2 ^ k ∧
     t.get F.SYS_RSTCAUSE_HIST = (if k = 0 then 0 else s.get F.SYS_RSTCAUSE_HIST ||| 2 ^ k) ∧
     t.get F.SYS_BOOTSTAT_STATE = 0 ∧ t.bootLock = false ∧ t.yar = {} ∧ t.camp = Vector.replicate 2 {} ∧ t.share = {} ∧
     t.dma = Vector.replicate 8 {} ∧ t.tsl = Vector.replicate 24 {} ∧
     (∀ a, a < 0x40007F10 ∨ 0x40007F14 ≤ a → memByte t.mem a = memByte (if k = 0 then {} else s.mem) a) ∧
     (2 ≤ k → t.tb.time = s.tb.time ∧ t.tb.counting = s.tb.counting) ∧
     (1 ≤ k → t.word R.TB_LOSTCNT = s.word R.TB_LOSTCNT ∧ t.get F.MEM_SECSTAT_WIPECNT = s.get F.MEM_SECSTAT_WIPECNT) ∧
     (2 ≤ k → t.word R.LCS_WDRCAUSE = s.word R.LCS_WDRCAUSE) ∧
     (2 ≤ k → ownAddr s ≠ 0 → t.get F.CHN_ADDR_ADDR = s.get F.CHN_ADDR_ADDR ∧ t.on F.CHN_ADDR_VALID = true) ∧
     (k < 2 → t.on F.CHN_ADDR_VALID = false) ∧
     (3 ≤ k → t.get F.SYS_BOOTCTL_TRYB = s.get F.SYS_BOOTCTL_TRYB ∧ t.lcs.wdrDue = s.lcs.wdrDue) ∧
     (1 ≤ k → s.lcs.queue = [] → t.lcs.fuses = s.lcs.fuses)) ∧
  ((∀ s : State, exec .powerOnReset s = .next (resetTo 0 s.begin)) ∧
   (∀ (ns : Nat) (s : State), 1000 ≤ ns → exec (.pinReset ns) s = .next (resetTo 1 s.begin)) ∧
   (∀ (ns : Nat) (s : State), ns < 100 → exec (.pinReset ns) s = .next s.begin) ∧
   (∀ s : State, s.lcs.wdrDue = some 0 → exec .watchdogReset s = .next (resetTo 2 s.begin)) ∧
   (∀ s : State, s.lcs.wdrDue ≠ some 0 → exec .watchdogReset s = .next s.begin) ∧
   (∀ (v : Word) (s : State), Admits 1 true R.SYS_SOFTRST.addr s → v.toNat % 2 ^ 16 = 0xA55A →
     exec (.softrstWrite 1 v) s = .next (settle (resetTo 3 s.begin))) ∧
   (∀ (cid : Cid) (v : Word) (s : State), Admits cid true R.SYS_SOFTRST.addr s → cid ≠ 1 ∨ v.toNat % 2 ^ 16 ≠ 0xA55A →
     exec (.softrstWrite cid v) s = .next (s.begin.set F.SYS_BOOTCTL_KEYERR 1)))

/-- R46, R70, R460: the boot. The straps are read and the fuses twice, the wipe runs where it is due, the march tests the banks, and
the slots are tried or a relay round is asked for; fuses that disagree, a failed wipe, BLANK and SPENT end in LIMP with cause
LIFECYCLE, a failed march in LIMP with cause MARCH. A boot under way is not begun again. R60, R64, R65, R66, R68: once the 20 ms are
over the waiting slot is chosen by the straps, and before nothing happens; the first good slot completes the boot; a failure records
its code and goes on to the next slot, and with none left the unit enters LIMP; a rejected configuration is LIMP with CONFIG. R64:
the first check of a slot that fails gives the code: magic, format, geometry and version, key slot, key digest, rollback, in this
order. It is stated of the model's choices in assumption log 27, 28, 30 and 74 to 77. -/
def Obligations.BootRuns : Prop :=
  ((∀ (b : BootIn) (s : State), s.get F.SYS_BOOTSTAT_STATE ≠ 0 ∨ s.boot.wait.isSome = true → exec (.bootSequence b) s = .next s.begin) ∧
   (∀ (b : BootIn) (s : State), s.get F.SYS_BOOTSTAT_STATE = 0 → s.boot.wait = none →
     let u := bootStart b s.begin
     let v := if u.lcs.fuses.lcs = u.lcs.fuses.lcsAck ∧ u.lcs.fuses.tset = u.lcs.fuses.tack ∧ lifeState u ≠ 3 ∧ lifeState u ≠ 4 then u
       else fuseRegs (wipeAck (wipeFinish true u))
     let t := forEach 14 gainLock (startupMarch b.march v).2
     (b.fusesAgree = false → exec (.bootSequence b) s =
       .next (limpWith 0xF 0x11 (forEach 14 gainLock (startupMarch b.march u).2))) ∧
     (b.fusesAgree = true → b.wipeOk = true → lifeState t = 0 ∨ lifeState t = 4 →
       exec (.bootSequence b) s = .next (limpWith 0xF 0x11 t)) ∧
     (b.fusesAgree = true → b.wipeOk = true → 1 ≤ lifeState t → lifeState t ≤ 3 → (startupMarch b.march v).1 = false →
       exec (.bootSequence b) s = .next (limpWith 0x10 0x11 t)) ∧
     (b.fusesAgree = true → b.wipeOk = true → 1 ≤ lifeState t → lifeState t ≤ 3 → (startupMarch b.march v).1 = true →
       exec (.bootSequence b) s = .next (bootSource (s.on F.SYS_BOOTCTL_TRYB) t)) ∧
     (b.fusesAgree = true → b.wipeOk = false → lifeState u = 3 → exec (.bootSequence b) s =
       .next (limpWith 0xF 0x11 (forEach 14 gainLock (startupMarch b.march (wipeFinish false u)).2)))) ∧
   (∀ (f : Option (Nat × Nat × Nat × Nat × BitVec 39)) (s : State), s.get F.SYS_RSTCAUSE_LAST < 4 → (startupMarch f s).1 = f.isNone) ∧
   (∀ (tryb : Bool) (s : State),
     let u := (s.set F.SYS_BOOTSTAT_ERRA 0x11).set F.SYS_BOOTSTAT_ERRB 0x11
     (s.on F.SYS_STRAP_BOOTSRC = true → bootSource tryb s =
       trySlots (if tryb then [1, 0] else [0, 1]) false (discover (idPage (u.set F.SYS_BOOTSTAT_STATE 3)))) ∧
     (s.on F.SYS_STRAP_BOOTSRC = false → bootSource tryb s = relayRequest (idPage (u.set F.SYS_BOOTSTAT_STATE 4))))) ∧
  ((∀ (k : Nat) (s : State), s.boot.wait = some k → s.boot.waitTo ≤ s.now →
     exec .personalityWaitTimeout s =
       .next (trySlots (k :: s.boot.rest) true (s.begin.updBoot fun b => { b with wait := none, rest := [] }))) ∧
   (∀ s : State, s.boot.wait = none ∨ s.now < s.boot.waitTo → exec .personalityWaitTimeout s = .next s.begin) ∧
   (∀ (s : State), s.boot.wait = some 0 → s.boot.rest = [] → s.boot.waitTo ≤ s.now → noFlash s = true → exec .personalityWaitTimeout s =
     .next (limp ((s.begin.updBoot fun b => { b with wait := none, rest := [] }).set F.SYS_BOOTSTAT_ERRA 1))) ∧
   (∀ (late : Bool) (s : State), trySlots [] late s = limp s) ∧
   (∀ (k : Nat) (late : Bool) (rest : List Nat) (s : State), trySlots (k :: rest) late s =
     match attempt k late s with
     | .wait => s.updBoot fun b => { b with wait := some k, waitTo := s.now + 20000000, rest := rest }
     | .fail c t => trySlots rest false (if k = 1 then t.set F.SYS_BOOTSTAT_ERRB c else t.set F.SYS_BOOTSTAT_ERRA c)
     | .good p t => complete k p t) ∧
   (∀ (k p : Nat) (s : State),
     let u := s.set F.SYS_BOOTSTAT_PERS p
     (configure (slotImg k u) p u = none → complete k p s =
       limp (if k = 1 then u.set F.SYS_BOOTSTAT_ERRB 0xD else u.set F.SYS_BOOTSTAT_ERRA 0xD)) ∧
     (∀ v, configure (slotImg k u) p u = some v → complete k p s =
       release k (slotImg k u) p (if k = 1 then v.set F.SYS_BOOTSTAT_ERRB 0 else v.set F.SYS_BOOTSTAT_ERRA 0)))) ∧
  (∀ (m : Img) (f : Fuses),
     (imgNum m 0 4 ≠ 0x594C5243 → headerError m f = 2) ∧
     (imgNum m 0 4 = 0x594C5243 → imgNum m 5 1 ≠ 1 → headerError m f = 3) ∧
     (headerError m f = 0 → imgNum m 0 4 = 0x594C5243 ∧ imgNum m 5 1 = 1 ∧ imgNum m 8 1 ≤ 1 ∧ 1 ≤ imgNum m 9 1 ∧ imgNum m 0xA 1 = 1 ∧
       imgNum m 0xD 1 ≤ 3 ∧ f.keyProg.getLsbD (imgNum m 0xD 1) = true ∧ f.keyRev.getLsbD (imgNum m 0xD 1) = false ∧
       ofLeBytes (sha256 (imgBytes m 0x80 64)) = (f.keyHash.toList.getD (imgNum m 0xD 1) 0#256).toNat ∧
       ones f.rollback ≤ imgNum m 0xC 1 ∧ imgNum m 0xC 1 ≤ 63))

/-- R458, R459, R69: CONFIRM asks for the rollback fuses from the next one up to the running image's ROLLBACK; a bit that has blown
moves the programmer on, and the last of a rollback request clears FUSEBUSY; one that stays intact sets FUSEERR. It is stated of the
model's choices in assumption log 3 and 83. -/
def Obligations.FusesBlowInOrder : Prop :=
  (∀ (v : Word) (s : State), Admits 1 true R.SYS_BOOTCTL.addr s → natBit v.toNat 1 = true →
    let u := s.begin.codeWritten R.SYS_BOOTCTL.addr v
    u.on F.SYS_BOOTCTL_FUSEBUSY = false → ones s.lcs.fuses.rollback < u.get F.SYS_VERS_IMGROLL →
    exec (.bootConfirm 1 v) s = .next ((u.set F.SYS_BOOTCTL_FUSEBUSY 1).updLcs fun l => { l with queue := l.queue ++
      [⟨.rollback, ((List.range (u.get F.SYS_VERS_IMGROLL)).drop (ones l.fuses.rollback)).map .rollback⟩] })) ∧
  (∀ (who : FuseFor) (b c : FuseBit) (bs : List FuseBit) (rest : List FuseReq) (s : State),
    s.lcs.queue = ⟨who, b :: c :: bs⟩ :: rest →
    exec (.fuseBitDone true) s = .next ((faultSummary (fuseRegs (s.begin.updLcs fun l =>
      { l with fuses := blow b l.fuses, bootRead := blow b l.bootRead }))).updLcs fun l => { l with queue := ⟨who, c :: bs⟩ :: rest })) ∧
  (∀ (b : FuseBit) (rest : List FuseReq) (s : State), s.lcs.queue = ⟨.rollback, [b]⟩ :: rest →
    exec (.fuseBitDone true) s = .next (((faultSummary (fuseRegs (s.begin.updLcs fun l =>
      { l with fuses := blow b l.fuses, bootRead := blow b l.bootRead }))).updLcs fun l => { l with queue := rest }).set
      F.SYS_BOOTCTL_FUSEBUSY 0)) ∧
  (∀ (b : FuseBit) (bs : List FuseBit) (rest : List FuseReq) (s : State), s.lcs.queue = ⟨.rollback, b :: bs⟩ :: rest →
    exec (.fuseBitDone false) s = .next ((((faultSummary (fuseRegs s.begin)).updLcs fun l => { l with queue := rest }).set
      F.SYS_BOOTCTL_FUSEBUSY 0).set F.SYS_BOOTCTL_FUSEERR 1))

/-- R71, R73, R425: a relay round starts with its RELAYSTART downstream, not while a maintenance session is open; a unit that has
waited 1 ms for a frame leaves the round and asks again, 5 s after its first request it enters LIMP with cause RELAYTO, and in LIMP
it asks again every 100 ms. R74, R421, R422, R72: the relay's frames. A request is held until the boot ends, joins the next round in
RUN, and is refused with a reason in LIMP or without a relayable image; a unit that asked joins at RELAYSTART, keeps the base of a
RELAYMARK that is due and the bytes of each RELAYDATA that is due, leaves the round and asks again on any other, and boots the image
that RELAYEND completes; a unit that has not joined, and a command with no frame of its kind, do nothing. It is stated of the
model's choices in assumption log 30 and 84. -/
def Obligations.RelayRoundsAndFrames : Prop :=
  ((∀ s : State, s.chn.relay.asked ≠ 0 → s.chn.relay.sending = none → s.on F.CHN_MAINT_OPEN = false → s.get F.SYS_BOOTSTAT_STATE = 8 →
     s.chn.relay.srcOk = true → s.on F.SYS_STRAP_BOOTSRC = true →
     let n := s.chn.relay.round + 1
     exec .relayRoundStart s = .next (chainSendOn 1
       { cls := 3, dst := 0x7F, typ := 0x1A, src := ownAddr s,
         data := leBytes 4 s.chn.relay.srcLen ++ leBytes 4 (s.get F.SYS_IMAGEID_IMAGEID) ++ leBytes 4 n ++ leBytes 4 0 }
       (s.begin.updRelay fun r => { r with asked := 0, round := n, sending := some 0 }))) ∧
   (∀ s : State, s.chn.relay.asked = 0 ∨ s.chn.relay.sending.isSome = true ∨ s.on F.CHN_MAINT_OPEN = true ∨
       s.get F.SYS_BOOTSTAT_STATE ≠ 8 ∨ s.chn.relay.srcOk = false ∨ s.on F.SYS_STRAP_BOOTSRC = false → exec .relayRoundStart s = .next s.begin) ∧
   (∀ s : State, s.chn.relay.joined.isSome = true →
     (s.chn.relay.frameAt + 1000000 ≤ s.now → exec .relayFrameTimeout s =
       .next (relayRequest (s.begin.updRelay fun r => { r with joined := none, image := [] }))) ∧
     (s.now < s.chn.relay.frameAt + 1000000 → exec .relayFrameTimeout s = .next s.begin)) ∧
   (∀ s : State, s.chn.relay.joined = none → exec .relayFrameTimeout s = .next s.begin) ∧
   (∀ (n : Nat) (s : State), s.get F.SYS_BOOTSTAT_STATE = 4 → s.boot.wait = none → s.chn.relay.firstAt = some n →
     (n + 5000000000 ≤ s.now → exec .relaytoExpiry s = .next (limpWith 0xE 0x11 s.begin)) ∧
     (s.now < n + 5000000000 → exec .relaytoExpiry s = .next s.begin)) ∧
   (∀ s : State, s.get F.SYS_BOOTSTAT_STATE ≠ 4 ∨ s.boot.wait ≠ none ∨ s.chn.relay.firstAt = none → exec .relaytoExpiry s = .next s.begin) ∧
   (∀ s : State, s.get F.SYS_BOOTSTAT_STATE ≠ 9 ∨ s.on F.SYS_STRAP_BOOTSRC = true ∨ s.chn.relay.joined ≠ none →
     exec .limpRelayRetry s = .next s.begin) ∧
   (∀ s : State, s.get F.SYS_BOOTSTAT_STATE = 9 → s.on F.SYS_STRAP_BOOTSRC = false → s.chn.relay.joined = none →
     (s.chn.relay.askAt + 100000000 ≤ s.now → exec .limpRelayRetry s = .next (relayRequest s.begin)) ∧
     (s.now < s.chn.relay.askAt + 100000000 → exec .limpRelayRetry s = .next s.begin)) ∧
   (∀ s : State, relayRequest s = chainSendOn 0
     { cls := 3, dst := 1, typ := 0x18, src := ownAddr s, data := [1#8, 0#8, 0#8, 0#8] }
     (s.updRelay fun r => { r with requested := linkUp 0 s, askAt := s.now, firstAt := some (r.firstAt.getD s.now) }))) ∧
  ((∀ (p : Fin 3) (f : Frame) (s u : State),
     let r := u.chn.relay
     let boot := u.get F.SYS_BOOTSTAT_STATE
     let refusal : Byte → Result := fun n => .next (settle (chainSendOn 1 { cls := 3, dst := 0x7F, typ := 0x19, src := ownAddr u, data := [n, 0#8, 0#8, 0#8] } u))
     let leave : Result := .next (settle (relayRequest (u.updRelay fun r => { r with joined := none, image := [] })))
     let nothing : Result := .next (settle u)
     (Received p 3 0x18 f s u → boot ≠ 9 → (boot = 8 → r.srcLen ≠ 0 ∧ r.srcOk = true) →
       exec (.relayreq p) s = .next (settle (u.updRelay fun r => { r with asked := r.asked + 1 }))) ∧
     (Received p 3 0x18 f s u → boot = 9 → exec (.relayreq p) s = refusal 2#8) ∧
     (Received p 3 0x18 f s u → boot = 8 → r.srcLen = 0 → exec (.relayreq p) s = refusal 1#8) ∧
     (Received p 3 0x18 f s u → boot = 8 → r.srcLen ≠ 0 → r.srcOk = false → exec (.relayreq p) s = refusal 3#8) ∧
     (Received p 3 0x19 f s u → exec (.relayref p) s = nothing) ∧
     (Received p 3 0x1A f s u → r.requested = true → u.on F.SYS_STRAP_BOOTSRC = false →
       exec (.relaystart p) s = .next (settle (u.updRelay fun r =>
         { r with joined := some (f.at_ 8 4), requested := false, base := 0, due := 0, imgLen := f.at_ 0 4, image := [], frameAt := u.now }))) ∧
     (Received p 3 0x1A f s u → r.requested = false ∨ u.on F.SYS_STRAP_BOOTSRC = true → exec (.relaystart p) s = nothing) ∧
     (∀ n, Received p 3 0x1B f s u → r.joined = some n →
       let fits := f.at_ 4 4 = n ∧ f.at_ 0 4 = r.due ∧ r.due % 0x4000 = 0
       (fits → exec (.relaymark p) s = .next (settle (u.updRelay fun r => { r with base := f.at_ 0 4, frameAt := u.now }))) ∧
       (¬fits → exec (.relaymark p) s = leave)) ∧
     (Received p 3 0x1C f s u → r.joined.isSome = true →
       let fits := r.base + 64 * f.tag = r.due ∧ r.due < r.base + 0x4000 ∧ r.due < r.imgLen ∧ f.data.length = min 64 (r.imgLen - r.due)
       (fits → exec (.relaydata p) s = .next (settle (u.updRelay fun r =>
         { r with image := r.image ++ f.data, due := r.due + f.data.length, frameAt := u.now }))) ∧
       (¬fits → exec (.relaydata p) s = leave)) ∧
     (∀ n, Received p 3 0x1D f s u → r.joined = some n →
       let fits := f.at_ 4 4 = n ∧ f.at_ 0 4 = r.imgLen ∧ r.due = r.imgLen
       (fits → exec (.relayend p) s = .next (settle (relayImage r.image (u.updRelay fun r => { r with joined := none, image := [] })))) ∧
       (¬fits → exec (.relayend p) s = leave)) ∧
     (r.joined = none → ∀ e ∈ [(0x1B, Instr.relaymark p), (0x1C, .relaydata p), (0x1D, .relayend p)],
       Received p 3 e.1 f s u → exec e.2 s = nothing)) ∧
   (∀ (img : List Byte) (s : State),
     let takes := s.get F.SYS_BOOTSTAT_STATE = 4 ∨ (s.get F.SYS_BOOTSTAT_STATE = 9 ∧ s.get F.SYS_BOOTSTAT_ERRA ≠ 0xF)
     (takes → relayImage img s = trySlots [2] false (s.updBoot fun b => { b with image := img })) ∧ (¬takes → relayImage img s = s)) ∧
   (∀ (p : Fin 3) (s : State), ∀ e ∈ [(0x18, Instr.relayreq p), (0x19, .relayref p), (0x1A, .relaystart p), (0x1B, .relaymark p),
     (0x1C, .relaydata p), (0x1D, .relayend p)], slotFind p 3 e.1 s.begin = none → exec e.2 s = .next (settle s.begin)))

/-- R3, R4, R510: what a write that no rule of its own answers leaves in each field, by the field's access code. R92 to R94: a write
that the checks refuse changes nothing but the bus-error log: the count saturates, the entry named by NEXT takes the address, the
client, the direction and the cause, NEXT moves on, and event 0x00 is raised. It is stated of the model's choices in assumption log
60 and 80. -/
def Obligations.RegisterWrites : Prop :=
  (∀ (cid : Cid) (addr w : Word) (s : State) (row : RegRow), Admits cid true addr.toNat s → cid ≠ 62 → 0x50000000 ≤ addr.toNat →
     addr.toNat < 0x50010000 → regRow? addr.toNat = some row → specialWrite row cid.toNat addr.toNat w 15 s.begin = none →
     let t := s.begin.codeWritten addr.toNat w
     exec (.registerWrite cid addr w) s = .next t ∧
     ∀ (lo wid : Nat) (acc : Acc), (lo, wid, acc) ∈ row.fields →
       let o := fieldOf lo wid (s.word (regAt addr.toNat))
       let v := fieldOf lo wid w
       let n := fieldOf lo wid (t.word (regAt addr.toNat))
       (acc = .rw ∨ acc = .rws → n = v) ∧
       (acc = .rwl → n = if s.bootLock then o else v) ∧
       (acc = .ro ∨ acc = .wo → n = o) ∧
       (acc = .w1c → ∀ i < wid, natBit n i = (natBit o i && !natBit v i)) ∧
       (acc = .cnt → n = if v = 2 ^ wid - 1 then 0 else o) ∧
       (acc = .rw1 → n = o ||| v)) ∧
  (∀ (cid : Cid) (addr w : Word) (s : State) (c : Cause), cid ≠ 62 → accessCheck { cid := cid.toNat } true addr.toNat 4 s = .error c →
     s.chn.done = [] →
     let e := s.get F.SYS_BERRHEAD_NEXT
     exec (.registerWrite cid addr w) s = .next ((((((s.begin.count F.SYS_BERRCNT_COUNT).setWord (R.SYS_BERRADDR e) addr).setWord
       (R.SYS_BERRINFO e) (BitVec.ofNat 32 (cid.toNat + 0x2000 + 0x10000 * c.code + 0x80000000))).set F.SYS_BERRHEAD_NEXT (e + 1)).raise
       0).answerRefused c.code))

/-- R100: EVR_YCLAIM answers the best pending Yarrow route and clears its pending bit; EVR_SWRAISE raises a software event; EVR_LOCK
only sets bits; the end of a pin pulse clears the route's pending bit. R100: the route that EVR_YCLAIM names is pending for Yarrow,
and no other pending Yarrow route has a higher PRI, or the same PRI and a lower number. R97, R99, R100: a pulse of an event source
sets the pending bit of every enabled route of that source whose target holds one, and touches neither the memories, the processors
nor the timebases. It is stated of the model's choices in assumption log 8. -/
def Obligations.EventRouter : Prop :=
  ((∀ (cid : Cid) (q : Nat) (s : State), Admits cid false R.EVR_YCLAIM.addr s → bestRoute 1 none s = some q → q < 128 →
     exec (.evrYclaimRead cid) s =
       .next ((setRoutePend q false s.begin).answer (q + s.get (F.EVR_ROUTE_SRC q) * 256 + 2 ^ 31))) ∧
   (∀ (cid : Cid) (s : State), Admits cid false R.EVR_YCLAIM.addr s → bestRoute 1 none s = none →
     exec (.evrYclaimRead cid) s = .next (s.begin.answer 0)) ∧
   (∀ (cid : Cid) (num : Fin 4) (s : State), Admits cid true R.EVR_SWRAISE.addr s →
     exec (.evrSwraise cid num) s = .next (s.begin.raise (0xF8 + num.val))) ∧
   (∀ (cid : Cid) (k : Fin 4) (w : Word) (s : State), Admits cid true (R.EVR_LOCK k.val).addr s →
     exec (.evrLockWrite cid k w) s = .next (s.begin.setWord (R.EVR_LOCK k.val) (s.word (R.EVR_LOCK k.val) ||| w))) ∧
   (∀ (q : Fin 128) (s : State), s.evr.evo.contains q.val = true → routeClass q.val s = 6 →
     exec (.eventOutputPulseEnd q) s =
       .next (setRoutePend q.val false { s.begin with evr := { s.evr with evo := s.evr.evo.erase q.val } }))) ∧
  (∀ (q : Nat) (s : State), bestRoute 1 none s = some q →
     q < 128 ∧ routePend q s = true ∧ routeClass q s = 1 ∧
     ∀ r < 128, routePend r s = true → routeClass r s = 1 →
       s.get (F.EVR_ROUTE_PRI r) < s.get (F.EVR_ROUTE_PRI q) ∨ (s.get (F.EVR_ROUTE_PRI r) = s.get (F.EVR_ROUTE_PRI q) ∧ q ≤ r)) ∧
  (∀ (n : Nat) (s : State),
     (∀ q < 128, s.on (F.EVR_ROUTE_EN q) = true → s.get (F.EVR_ROUTE_SRC q) = n → routeClass q s ≠ 0 → routeClass q s ≠ 4 →
       routePend q (s.raise n) = true) ∧
     (∀ q < 128, routePend q s = true → routePend q (s.raise n) = true) ∧
     (s.raise n).mem = s.mem ∧ (s.raise n).yar = s.yar ∧ (s.raise n).camp = s.camp ∧ (s.raise n).tb = s.tb ∧
     (s.raise n).pwm = s.pwm ∧ (s.raise n).share = s.share ∧ (s.raise n).chn = s.chn)

/-- R102, R103, R519: EN starts a stopped channel with a descriptor fetch; ABORT stops a running one with CODE 5; SWTRIG is one
trigger. R102 step 3, R518: a trigger that matches starts the next block, is queued behind one in progress or, at the end of a
descriptor, for the next one, up to fifteen, and the next is lost with OVF and event 0x88 + n; one that matches nothing, or meets a
stopped channel, goes back to its FIFO; during a descriptor fetch it is held. R101 to R103: a valid descriptor is put in force, a
bad one stops the channel with CODE 1, a refused word of it with CODE 4; an element is read and then written, the count falls and
the addresses advance; a refused read stops the channel with CODE 2, a refused write with CODE 3; the last element ends the
descriptor, and the channel where there is no next one. A channel that has stopped, is fetching, or has no block in progress moves
nothing. It is stated of the model's choices in assumption log 46 and 79. -/
def Obligations.DmaChannels : Prop :=
  ((∀ (cid : Cid) (n : Fin 8) (s : State), Admits cid true (R.DMA_CHnCTL n.val).addr s →
     cid.toNat ≤ 1 ∨ cid.toNat = s.get (F.DMA_CHnOWN_OWNER n.val) → s.on (F.DMA_CHnCTL_EN n.val) = false →
     exec (.dmaStart cid n 1#32) s = .next
       (let u := ((s.begin.set (F.DMA_CHnCTL_EN n.val) 1).set (F.DMA_CHnSTAT_BUSY n.val) 1).set (F.DMA_CHnSTAT_CODE n.val) 0
       (u.set (F.DMA_CHnCUR_ADDR n.val) (u.get (F.DMA_CHnDESC_ADDR n.val))).setDma n { fetching := true })) ∧
   (∀ (cid : Cid) (n : Fin 8) (v : Word) (s : State), Admits cid true (R.DMA_CHnCTL n.val).addr s →
     cid.toNat ≤ 1 ∨ cid.toNat = s.get (F.DMA_CHnOWN_OWNER n.val) → s.on (F.DMA_CHnCTL_EN n.val) = true →
     (s.dma.get n).remote = false → natBit v.toNat 1 = true →
     exec (.dmaAbort cid n v) s = .next (settle
       (((((dmaStop n (dmaWriteBack n 5 false s.begin)).set (F.DMA_CHnSTAT_ERR n.val) 1).set (F.DMA_CHnSTAT_CODE n.val) 5)).raise
         (0x88 + n.val)))) ∧
   (∀ (cid : Cid) (n : Fin 8) (v : Word) (s : State), Admits cid true (R.DMA_CHnCTL n.val).addr s →
     cid.toNat ≤ 1 ∨ cid.toNat = s.get (F.DMA_CHnOWN_OWNER n.val) → s.on (F.DMA_CHnCTL_EN n.val) = true →
     natBit v.toNat 1 = false → natBit v.toNat 2 = true →
     exec (.dmaSwtrig cid n v) s = .next (settle (s.begin.trigger n .sw))) ∧
   (∀ (n : Fin 8) (c : Nat) (a : Option Nat) (s : State), (dmaError n c a s).get (F.DMA_CHnCTL_EN n.val) = 0 ∧
     (dmaError n c a s).get (F.DMA_CHnSTAT_BUSY n.val) = 0 ∧ (dmaError n c a s).on (F.DMA_CHnSTAT_ERR n.val) = true ∧
     (dmaError n c a s).get (F.DMA_CHnSTAT_CODE n.val) = c % 16)) ∧
  (∀ (n : Fin 8) (t : Trig) (s : State),
     let c := s.dma.get n
     (s.on (F.DMA_CHnCTL_EN n.val) = true → c.fetching = false → trigMatches (c.desc.getD 0 0#32) t = true →
       (c.block = 0 → s.get (F.DMA_CHnSTAT_REMAIN n.val) ≠ 0 → exec (.dmaTrigger n t) s =
         .next (s.begin.setDma n { c with block := blockSize (c.desc.getD 3 0#32) (s.get (F.DMA_CHnSTAT_REMAIN n.val)) })) ∧
       (c.block ≠ 0 ∨ s.get (F.DMA_CHnSTAT_REMAIN n.val) = 0 → c.queue.length < 15 → exec (.dmaTrigger n t) s = .next (s.begin.setDma n { c with queue := c.queue ++ [t] })) ∧
       (c.block ≠ 0 ∨ s.get (F.DMA_CHnSTAT_REMAIN n.val) = 0 → 15 ≤ c.queue.length →
         exec (.dmaTrigger n t) s = .next (((returnTrig t s.begin).set (F.DMA_CHnSTAT_OVF n.val) 1).raise (0x88 + n.val)))) ∧
     (s.on (F.DMA_CHnCTL_EN n.val) = true → c.fetching = true →
       exec (.dmaTrigger n t) s = .next (s.begin.setDma n { c with held := c.held ++ [t] })) ∧
     (s.on (F.DMA_CHnCTL_EN n.val) = false → exec (.dmaTrigger n t) s = .next (returnTrig t s.begin)) ∧
     (s.on (F.DMA_CHnCTL_EN n.val) = true → c.fetching = false → trigMatches (c.desc.getD 0 0#32) t = false →
       exec (.dmaTrigger n t) s = .next (returnTrig t s.begin))) ∧
  ((∀ (n : Fin 8) (s : State), (s.dma.get n).fetching = false → exec (.descriptorFetch n) s = .next (settle s.begin)) ∧
   (∀ (n : Fin 8) (s : State), (s.dma.get n).fetching = true →
     let a := s.get (F.DMA_CHnCUR_ADDR n.val)
     (descPlace a = false → exec (.descriptorFetch n) s = .next (settle (dmaError n 1 (some a) s.begin))) ∧
     (∀ (p : Nat) (t : State), descPlace a = true → descRead n a 8 [] s.begin = (.error p, t) →
       exec (.descriptorFetch n) s = .next (settle (dmaError n 4 (some p) t))) ∧
     (∀ (ws : List Word) (t : State), descPlace a = true → descRead n a 8 [] s.begin = (.ok ws, t) → descValid ws = false →
       exec (.descriptorFetch n) s = .next (settle (dmaError n 1 (some a) t))) ∧
     (∀ (ws : List Word) (t : State), descPlace a = true → descRead n a 8 [] s.begin = (.ok ws, t) → descValid ws = true →
       let count := fieldOf 0 16 (ws.getD 3 0#32)
       let c := t.dma.get n
       exec (.descriptorFetch n) s = .next (settle (fifoKickAll (c.held.foldl (fun u x => u.trigger n x)
         (dmaNextBlock n (matchQueue n c.queue ((t.set (F.DMA_CHnSTAT_REMAIN n.val) count).setDma n
           { c with fetching := false, desc := ws, done := 0, src := ws.getD 1 0#32, dst := ws.getD 2 0#32, held := [],
                    queue := [], block := if fieldOf 6 2 (ws.getD 0 0#32) = 0 then count else 0 }))))))) ) ∧
   (∀ (n : Fin 8) (s : State), s.on (F.DMA_CHnCTL_EN n.val) = false ∨ (s.dma.get n).fetching = true ∨ (s.dma.get n).block = 0 ∨
     (s.dma.get n).remote = true → exec (.dmaElement n) s = .next (settle s.begin)) ∧
   (∀ (n : Fin 8) (d : DWord) (s t : State), s.on (F.DMA_CHnCTL_EN n.val) = true → (s.dma.get n).fetching = false →
     (s.dma.get n).block ≠ 0 → (s.dma.get n).remote = false →
     fabric (.dmaRead n) (dmaWho n) false (s.dma.get n).src.toNat (dmaSize n s) 0 s.begin = (.ans (.ok d), t) →
     let v := t.setDma n { t.dma.get n with remote := false }
     (∀ (x : Cause) (u : State), fabric (.dmaWrite n) (dmaWho n) true (t.dma.get n).dst.toNat (dmaSize n v) d.toNat v = (.ans (.refused x), u) →
       exec (.dmaElement n) s = .next (settle (dmaError n 3 (some (t.dma.get n).dst.toNat) u))) ∧
     (∀ (e : DWord) (u : State), fabric (.dmaWrite n) (dmaWho n) true (t.dma.get n).dst.toNat (dmaSize n v) d.toNat v = (.ans (.ok e), u) →
       (u.dma.get n).abort = false →
       let c := u.dma.get n
       let w0 := dmaWord n 0 u
       let st := dmaWord n 4 u
       let left := u.get (F.DMA_CHnSTAT_REMAIN n.val) - 1
       let moved := (u.set (F.DMA_CHnSTAT_REMAIN n.val) left).setDma n
         { c with remote := false, done := c.done + 1, block := c.block - 1,
                  src := dmaStep (fieldOf 2 2 w0) (dmaSize n u) (st.extractLsb' 0 16) c.src,
                  dst := dmaStep (fieldOf 4 2 w0) (dmaSize n u) (st.extractLsb' 16 16) c.dst }
       (left ≠ 0 → exec (.dmaElement n) s = .next (settle (dmaNextBlock n moved))) ∧
       (left = 0 → exec (.dmaElement n) s = .next (settle (dmaDescEnd n moved))))) ∧
   (∀ (n : Fin 8) (x : Cause) (s t : State), s.on (F.DMA_CHnCTL_EN n.val) = true → (s.dma.get n).fetching = false →
     (s.dma.get n).block ≠ 0 → (s.dma.get n).remote = false →
     fabric (.dmaRead n) (dmaWho n) false (s.dma.get n).src.toNat (dmaSize n s) 0 s.begin = (.ans (.refused x), t) →
     exec (.dmaElement n) s = .next (settle (dmaError n 2 (some (s.dma.get n).src.toNat) t))) ∧
   (∀ (n : Fin 8) (s : State), fieldOf 14 1 (dmaWord n 0 s) = 0 → fieldOf 13 1 (dmaWord n 0 s) = 0 → dmaWord n 5 s = 0#32 →
     dmaDescEnd n s = (dmaStop n s).set (F.DMA_CHnSTAT_DONE n.val) 1))

/-- R155, R156: ADD and SUB of a Campion ALU syllable, over every register and operand: the result modulo 2^32, or with S the
nearest limit, and C, V, Z and N of it; a clamped result sets SV. R150, R151: CMUL, CMAC and CMSC of a MAC syllable: the complex
product of the 16-bit halves, written to, added to or subtracted from the accumulator pair, and with S each half limited to 32 bits.
R145, R146: the post-increment, post-decrement and circular updates of a base register. In circular mode the address stays within
its buffer, whose base is aligned to the power of two that holds the length. -/
def Obligations.CampionArithmetic : Prop :=
  (∀ (c : CAt) (w : Word), fieldOf 0 6 w = 0 → (fieldOf 22 6 w = 1 ∨ fieldOf 22 6 w = 2) →
     let a := c.d (fieldOf 11 5 w)
     let b := c.d (fieldOf 6 5 w)
     let add := fieldOf 22 6 w = 1
     let exact : Int := if add then a.toInt + b.toInt else a.toInt - b.toInt
     let ovf := exact < -2147483648 ∨ 2147483647 < exact
     let sat := fieldOf 21 1 w = 1
     let r : Nat := if ovf ∧ sat then (if exact < 0 then 0x80000000 else 0x7FFFFFFF) else (if add then a + b else a - b).toNat
     let carry := if add then decide (2 ^ 32 ≤ a.toNat + b.toNat) else decide (b.toNat ≤ a.toNat)
     execAlu c w = some { writes := [cput (.d (fieldOf 16 5 w)) r 1 4,
       cflags [(srC, carry), (srV, decide ovf), (srZ, decide (r = 0)), (srN, natBit r 31)] 1 4] ++
       (if ovf ∧ sat then [cflags [(srSV, true)] 1 4] else []) }) ∧
  (∀ (c : CAt) (slot : Nat) (w : Word), fieldOf 0 7 w = 0 → fieldOf 8 2 w = 0 → fieldOf 7 1 w = 0 → fieldOf 22 1 w = 0 →
     let x := halves (c.d (fieldOf 15 5 w))
     let y := halves (c.d (fieldOf 10 5 w))
     let ca := fieldOf 20 2 w
     let re := x.1 * y.1 - x.2 * y.2
     let im := x.1 * y.2 + x.2 * y.1
     let out := fun (p q : Int) => some { writes := [cput (.re ca) (BitVec.ofInt 40 p).toNat 3 slot,
                                                     cput (.im ca) (BitVec.ofInt 40 q).toNat 3 slot] }
     (fieldOf 23 5 w = 1 → execMac c slot w = out re im) ∧
     (fieldOf 23 5 w = 2 → execMac c slot w = out (c.acc slot false ca + re) (c.acc slot true ca + im)) ∧
     (fieldOf 23 5 w = 3 → execMac c slot w = out (c.acc slot false ca - re) (c.acc slot true ca - im))) ∧
  ((∀ (c : CAt) (slot : Nat) (w : Word), fieldOf 24 4 w = 1 → fieldOf 12 3 w = 1 → fieldOf 0 12 w = 0 →
     execLs c slot w = some
       { writes := [cput (.a (fieldOf 15 4 w)) (c.a (fieldOf 15 4 w) + 2#16).toNat 1 slot],
         mems := [{ slot := slot, y := slot == 1, write := false, ea := (c.a (fieldOf 15 4 w)).toNat, size := 2,
                    val := (c.d (fieldOf 19 5 w)).toNat % 65536, dest := some (.d (fieldOf 19 5 w)) }] }) ∧
   ∀ (a step len : Half), 1 ≤ len.toInt → len.toInt ≤ 16384 →
     let n := 2 ^ ceilLog len.toNat
     (circular a step len).2 = false ∧ (circular a step len).1.toNat / n = a.toNat / n ∧
       (circular a step len).1.toNat % n < len.toNat)

/-- R109, R111, R112, R120, R129: a bundle of one ALU syllable puts its results on their way, moves PC on by one syllable and counts
one bundle; it writes no memory. A core that does not run issues none; context 0 issues none while it waits; a pending level that
may start comes first; the bundle after the delay slots of RETI is the switch back. It is stated of the model's choices in
assumption log 18, 47, 48 and 70. -/
def Obligations.CampionBundles : Prop :=
  (∀ (c : Fin 2) (s : State), (s.camp.get c).run = false → exec (.bundleIssue c) s = .next (settle s.begin)) ∧
  ∀ (c : Fin 2) (s : State), (s.camp.get c).run = true →
    let x := s.camp.get c
    let k := x.ctx
    let g := x.regs.get k
    let t := noteLevels c s.begin
    (boundaryOpen x = true → (levelReady c t).isSome = true → exec (.bundleIssue c) s = .next (settle t)) ∧
    (levelReady c t = none → x.back = true →
      exec (.bundleIssue c) s = .next (settle (t.updCamp c fun y => { nextBundle y with back := false }))) ∧
    (levelReady c t = none → x.back = false → k = 0 → (s.sched.get c).inWait = true → exec (.bundleIssue c) s = .next (settle t)) ∧
    (∀ (w : Word) (o : COut) (ws : List (CReg × Nat × Nat × Nat × Nat)) (u : State),
      let at_ : CAt := { k := k.val, x := g, pend := x.pend, inDelay := false, atLe := false, repeated := false, start := g.pc.toNat,
                         link := bundleAfter c 6 (bundleAfter c 6 ((g.pc.toNat + 1) % 16384) u) u % 16384 }
      levelReady c t = none → x.back = false → x.delay = none → x.rep = 0 → g.loops = [] → k ≠ 0 ∨ (s.sched.get c).inWait = false →
      fetchBundle c k.val g.pc.toNat t = ([some w], u) → fieldOf 28 3 w = 4 → execAlu at_ w = some o → o.mems = [] → o.ctrl = none →
      o.ill = false → resolve o.writes = (ws, false) →
      exec (.bundleIssue c) s = .next (settle ((campFlow c k g.pc.toNat ((g.pc.toNat + 1) % 16384) none
        (u.updCamp c fun y => { y with pend := y.pend ++ ws.map fun v =>
          { reg := v.1, mask := v.2.1, val := v.2.2.1, slot := v.2.2.2.2, issued := x.bundle, due := x.bundle + v.2.2.2.1, ctx := k.val } })).updCamp
        c nextBundle)))

/-- R119, R120, R122: the switch to a handler context: it starts at P syllable 8k with its IPL at k and no loop, the preempted
context is stacked, and LVLSRC names the loop trigger or the route, whose pending bit clears. With no level to start, or at a
boundary that is closed, nothing happens. R128, R130, R132, R133: a carrier event books a trigger, LSOFS ticks later; when it is due
it opens its instance, stamps it and wakes or marks context 0, or starts its level; one that finds its predecessor still pending
only sets OVR, and one that finds an instance without a COMMIT sets OVR too, closing it as missed; a write of LSCTL closes the
instance without a miss. R136 to R138: a keyed RESTART by CID 1 gives the core its reset registers, running at syllable 0 or held; a
wrong key only sets KEYERR; clearing HOLD starts a held core; any other client is denied. It is stated of the model's choices in
assumption log 48. -/
def Obligations.CampionLevelsAndLoops : Prop :=
  ((∀ (c : Fin 2) (s : State), (s.camp.get c).run = false ∨ boundaryOpen (s.camp.get c) = false ∨ levelReady c s = none →
     exec (.levelStart c) s = .next s.begin) ∧
   ∀ (c : Fin 2) (k : Fin 4) (s : State), (s.camp.get c).run = true → boundaryOpen (s.camp.get c) = true →
     levelReady c s = some k.val →
     Ends (.levelStart c) s fun t =>
       let x := s.camp.get c
       let y := t.camp.get c
       let g := y.regs.get k
       y.ctx = k ∧ y.stack = x.ctx :: x.stack ∧ g.pc = BitVec.ofNat 14 (8 * k.val) ∧ g.loops = [] ∧ ctxIpl g = k.val ∧ y.run = true ∧
       t.mem = s.mem ∧ t.yar = s.yar ∧ t.pwm = s.pwm ∧
       ((s.sched.get c).lvlTrig.get k = true → y.lvlsrc.get k = 256 ∧ (t.sched.get c).lvlTrig.get k = false ∧ t.regs = s.regs) ∧
       (∀ q, (s.sched.get c).lvlTrig.get k = false → levelRoute c k.val s = some q →
         y.lvlsrc.get k = s.get (F.EVR_ROUTE_SRC q) + 512 * q ∧ routePend q t = false)) ∧
  ((∀ (c : Fin 2) (s : State), (s.sched.get c).booked = [] → exec (.loopTrigger c) s = .next s.begin) ∧
   (∀ (c : Fin 2) (b : Booking) (rest : List Booking) (s : State), (s.sched.get c).booked = b :: rest →
     let x := s.sched.get c
     let k := loopCount c s
     let i : Instance := { grp := b.grp, need := b.need, loads := b.loads, due := false }
     let opened (y : Sched) : Sched := { y with booked := rest, ts := stampTime s % 2 ^ 32, lastTrig := some k, inst := some i,
                                                per := match x.lastTrig with
                                                  | some l => min (k - l) 0xFFFF
                                                  | none => x.per }
     (k < b.due → exec (.loopTrigger c) s = .next s.begin) ∧
     (b.due ≤ k → b.lvl = 0 → x.pend = true →
       exec (.loopTrigger c) s = .next (s.begin.updSched c fun y => { y with booked := rest, ovr := true })) ∧
     (b.due ≤ k → b.lvl = 0 → x.pend = false → x.inst = none → b.loads < b.need → x.mute = false →
       exec (.loopTrigger c) s = .next (s.begin.updSched c fun y =>
         { opened y with pend := !x.inWait, inWait := false })) ∧
     (∀ j : Instance, b.due ≤ k → b.lvl = 0 → x.pend = false → x.inst = some j → j.st = .missed → b.loads < b.need → x.mute = false →
       exec (.loopTrigger c) s = .next (s.begin.updSched c fun y =>
         { opened y with pend := !x.inWait, inWait := false, ovr := true })) ∧
     (∀ l : Fin 4, b.due ≤ k → l ≠ 0 → b.lvl = l.val → x.lvlTrig.get l = false → x.inst = none → b.loads < b.need → x.mute = false →
       exec (.loopTrigger c) s = .next (s.begin.updSched c fun y =>
         { opened y with lvlTrig := vupd y.lvlTrig l fun _ => true }))) ∧
   (∀ (c : Fin 2) (g : Nat) (peak : Bool) (s : State), natBit (s.sched.get c).ctl 0 = true → (s.sched.get c).ctl / 2 % 4 = g →
     natBit (s.sched.get c).ctl 5 = peak → (s.sched.get c).ctl / 256 % 16 = 0 → (s.sched.get c).divCnt = 0 →
     schedCarrier c g peak s = s.updSched c fun y => { y with divCnt := 0, booked := y.booked ++
       [{ due := loopCount c s + y.ofs, grp := g, lvl := y.ctl / 8 % 4, need := y.ctl / 64 % 4 + 1 }] }) ∧
   (∀ (c : Fin 2) (v : BitVec 16) (s : State),
     let t := s.begin.updSched c fun y => { y with ctl := v.toNat % 4096, consec := 0, pend := false, inst := none }
     exec (.lsctlWrite c v) s = .next (if governed c t = governed c s then t else govChange (governed c s) t))) ∧
  ((∀ (c : Fin 2) (v : Word) (s : State), Admits 1 true (R.SYS_CPnCTL c.val).addr s → fieldOf 2 1 v = 1 → fieldOf 16 16 v = 0x5AC3 →
     exec (.coreRestart 1 c v) s = .next (settle (coreRestart c
       ((s.begin.set (F.SYS_CPnCTL_HOLD c.val) (fieldOf 0 1 v)).set (F.SYS_CPnCTL_KEEPLEGS c.val) (fieldOf 1 1 v))))) ∧
   (∀ (c : Fin 2) (s : State), (coreRestart c s).camp.get c =
     if s.on (F.SYS_CPnCTL_HOLD c.val) then { freshCamp with held := true } else { freshCamp with run := true }) ∧
   (∀ (c : Fin 2) (v : Word) (s : State), Admits 1 true (R.SYS_CPnCTL c.val).addr s → fieldOf 2 1 v = 1 → fieldOf 16 16 v ≠ 0x5AC3 →
     exec (.coreRestart 1 c v) s = .next (settle (s.begin.set (F.SYS_CPnSTAT_KEYERR c.val) 1))) ∧
   (∀ (c : Fin 2) (v : Word) (s : State), Admits 1 true (R.SYS_CPnCTL c.val).addr s → fieldOf 0 1 v = 0 → fieldOf 2 1 v = 0 →
     let u := (s.begin.set (F.SYS_CPnCTL_HOLD c.val) 0).set (F.SYS_CPnCTL_KEEPLEGS c.val) (fieldOf 1 1 v)
     ((s.camp.get c).held = true → exec (.holdRelease 1 c v) s = .next (settle
       ((u.updCamp c fun x => { x with run := true, held := false }).updSched c fun y => { y with mute := false }))) ∧
     ((s.camp.get c).held = false → exec (.holdRelease 1 c v) s = .next (settle u))) ∧
   (∀ (cid : Cid) (c : Fin 2) (v : Word) (s : State), Admits cid true (R.SYS_CPnCTL c.val).addr s → cid ≠ 1 → cid ≠ 62 →
     let t := busErr { cid := cid.toNat } true (R.SYS_CPnCTL c.val).addr .deny s.begin
     exec (.coreRestart cid c v) s = .next (settle (t.answerRefused 5)) ∧
     exec (.holdRelease cid c v) s = .next (settle (t.answerRefused 5))))

/-- R162, R177: an integer instruction writes its result to rd and retires; division by zero and the one overflow have defined
results and raise nothing. Where another instruction stands at PC, the command does nothing. x0 discards what is written to it and
reads 0; any other register reads as written, and the rest keep. It is stated of the model's choices in assumption log 18 and 22. -/
def Obligations.YarrowIntegers : Prop :=
  ((∀ (w : Word) (len rd : Nat) (op : AluOp) (a b : Src) (s t : State), Fetches w len s t → yDecode w len = .alu op rd a b →
     exec .yarrowIntegerInstruction s = .next (settle ((yPut rd (aluVal op (srcVal a t) (srcVal b t)) t).retired len))) ∧
   (∀ (w : Word) (len rd : Nat) (imm : Word) (s t : State), Fetches w len s t → yDecode w len = .auipc rd imm →
     exec .yarrowIntegerInstruction s = .next (settle ((yPut rd (t.yar.pc + imm) t).retired len))) ∧
   (∀ (w : Word) (len : Nat) (s t : State), Fetches w len s t → yDecode w len ≠ .illegal → isInteger (yDecode w len) = false →
     exec .yarrowIntegerInstruction s = .next (settle s.begin)) ∧
   (∀ (w : Word) (len fn rd a b : Nat) (s t : State), Fetches w len s t → yDecode w len = .mul fn rd a b →
     exec .yarrowIntegerInstruction s = .next (settle ((yPut rd (mulVal fn (yReg a t) (yReg b t)) t).retired len))) ∧
   (∀ (w : Word) (len fn rd a b : Nat) (s t : State), Fetches w len s t → yDecode w len = .div fn rd a b →
     let x := yReg a t
     let y := yReg b t
     exec .integerDivision s = .next (settle ((yPut rd (divVal fn x y) t).retired len)) ∧
     (y = 0#32 → divVal 4 x y = 0xFFFFFFFF#32 ∧ divVal 5 x y = 0xFFFFFFFF#32 ∧ divVal 6 x y = x ∧ divVal 7 x y = x) ∧
     (x = 0x80000000#32 → y = 0xFFFFFFFF#32 → divVal 4 x y = 0x80000000#32 ∧ divVal 6 x y = 0#32) ∧
     (y ≠ 0#32 → divVal 5 x y = x / y ∧ divVal 7 x y = x % y))) ∧
  (∀ (i j : Fin 32) (v : Word) (s : State),
     yReg 0 s = 0#32 ∧ yPut 0 v s = s ∧ (i ≠ 0 → yReg i (yPut i v s) = v) ∧ (i ≠ j → yReg j (yPut i v s) = yReg j s) ∧
     (yPut i v s).yar.pc = s.yar.pc ∧ (yPut i v s).yar.f = s.yar.f ∧ (yPut i v s).yar.mach = s.yar.mach ∧
     (yPut i v s).yar.mepc = s.yar.mepc ∧ (yPut i v s).yar.sb = s.yar.sb ∧ (yPut i v s).yar.vet = s.yar.vet ∧
     (yPut i v s).mem = s.mem ∧ (yPut i v s).regs = s.regs)

/-- R164, R178 to R180: F instructions with FS on and a valid rounding mode write their result and accrue their flags; FMIN and FMAX
order −0 below +0 and prefer a number to a NaN; a conversion to an integer saturates with NV. With FS off, or a reserved rounding
mode, they trap with cause 2. It is stated of the model's choices in assumption log 18, 22 and 23. -/
def Obligations.YarrowFloat : Prop :=
  (∀ (w : Word) (len rd a b rm r : Nat) (op : FpOp) (s t : State), Fetches w len s t → yDecode w len = .fp op rd a b rm →
    t.yar.fs ≠ 0#2 → (if fpRounds op then roundMode rm t.yar else some 0) = some r →
    let v := fpVal op r (fReg a t) (fReg b t) (yReg a t)
    let u := accrue v.2 t
    let res := (if fpToX op then yPut rd (BitVec.ofNat 32 v.1) u else fPut rd (BitVec.ofNat 32 v.1) u).retired len
    (isFloat (.fp op rd a b rm) = true → exec .floatingPointArithmetic s = .next (settle res)) ∧
    (op = .min ∨ op = .max → exec .fminFmax s = .next (settle res)) ∧
    (∀ k, op = .toInt k → exec .conversionToInteger s = .next (settle res))) ∧
  (∀ (w : Word) (len rd a b rm : Nat) (op : FpOp) (s t : State), Fetches w len s t → yDecode w len = .fp op rd a b rm →
    t.yar.dbg.halted = false → t.yar.fs = 0#2 ∨ (fpRounds op = true ∧ roundMode rm t.yar = none) →
    let trap := t.trapped 2#32 w t.trapBase
    (isFloat (.fp op rd a b rm) = true → exec .floatingPointArithmetic s = .next (settle trap)) ∧
    (op = .min ∨ op = .max → exec .fminFmax s = .next (settle trap)) ∧
    (∀ k, op = .toInt k → exec .conversionToInteger s = .next (settle trap))) ∧
  (∀ (w : Word) (len k rd a b c rm r : Nat) (s t : State), Fetches w len s t → len = 4 → yDecode w len = .fma k rd a b c rm →
    t.yar.fs ≠ 0#2 → roundMode rm t.yar = some r →
    let x := f32.read (fReg a t).toNat
    let z := f32.read (fReg c t).toNat
    let v := fpFma f32 r (if 2 ≤ k then x.neg else x) (f32.read (fReg b t).toNat) (if k = 1 ∨ k = 3 then z.neg else z)
    exec .floatingPointArithmetic s = .next (settle ((fPut rd (BitVec.ofNat 32 v.1) (accrue v.2 t)).retired len))) ∧
  fpMinMax f32 false 0x80000000 0 = (0x80000000, 0) ∧ fpMinMax f32 true 0x80000000 0 = (0, 0) ∧
  fpMinMax f32 false 0x7FC00000 0x3F800000 = (0x3F800000, 0) ∧ fpMinMax f32 true 0x7F800001 0x7FC00000 = (0x7FC00000, 16) ∧
  fpToInt 32 false 0 (f32.read 0x4F000000) = (0x7FFFFFFF, 16) ∧ fpToInt 32 false 0 (f32.read 0xFF800000) = (0x80000000, 16) ∧
  fpToInt 32 true 0 (f32.read 0xBF800000) = (0, 16) ∧ fpToInt 32 true 0 (f32.read 0x7FC00000) = (0xFFFFFFFF, 16)

/-- R168, R170, R172, R174: a load or store first drains the store buffer where it must, and is run again while a store that must go
first is still on the chain. An aligned load that no trigger stops writes its extended data and retires, waits for the chain, or,
refused, traps with cause 5; a misaligned load or store traps with cause 4 or 6; a store joins the buffer under the CID of its mode,
or, refused before it is accepted, traps with cause 7; a buffered store completes at its target, goes on the chain, or records its
late refusal. FLW and FSW do the same with an F register. It is stated of the model's choices in assumption log 18 and 38. -/
def Obligations.YarrowLoadsAndStores : Prop :=
  (∀ (w : Word) (len fn rd a : Nat) (off : Word) (isF : Bool) (s t : State), Fetches w len s t →
    yDecode w len = (if isF then .flw rd a off else .load fn rd a off) → (isF = true → fn = 2 ∧ t.yar.fs ≠ 0#2) →
    t.yar.dbg.halted = false →
    let addr := (yReg a t + off).toNat
    let size := 2 ^ (fn % 4)
    let v := if mustDrain addr size t then drainAll t else t
    let held := mustDrain addr size v = true ∧ v.yar.sb ≠ []
    triggerHit 0 addr t = none →
    (addr % size ≠ 0 → exec .yarrowLoad s = .next (settle (t.trapped 4#32 (yReg a t + off) t.trapBase))) ∧
    (addr % size = 0 → held → exec .yarrowLoad s = .next (settle v)) ∧
    (∀ (d : Nat) (u : State), addr % size = 0 → ¬held → yAccess .yarrow 0 addr size 0 v = (.ok d, u) →
      exec .yarrowLoad s = .next (settle ((if isF then fPut rd (BitVec.ofNat 32 d) u else yPut rd (loadValue fn d) u).retired len))) ∧
    (∀ (c f : Nat) (u : State), addr % size = 0 → ¬held → u.yar.dbg.halted = false →
      yAccess .yarrow 0 addr size 0 v = (.fault c f, u) → exec .yarrowLoad s = .next (settle
        ((u.updYar fun y => { y with yfault := BitVec.ofNat 4 c }).trapped 5#32 (BitVec.ofNat 32 f) u.trapBase))) ∧
    (∀ u : State, addr % size = 0 → ¬held → yAccess .yarrow 0 addr size 0 v = (.wait, u) →
      exec .yarrowLoad s = .next (settle (u.updYar fun y => { y with wait := some (.load rd isF fn addr len) })))) ∧
  (∀ (w : Word) (len fn a b : Nat) (off : Word) (isF : Bool) (s t : State), Fetches w len s t →
    yDecode w len = (if isF then .fsw b a off else .store fn b a off) → (isF = true → fn = 2 ∧ t.yar.fs ≠ 0#2) →
    t.yar.dbg.halted = false →
    let addr := (yReg a t + off).toNat
    let size := 2 ^ fn
    let data := (if isF then fReg b t else yReg b t).toNat % 256 ^ size
    let v := if mustDrain addr size t then drainAll t else if 4 ≤ t.yar.sb.length then storeDrain t else t
    let held := (mustDrain addr size v = true ∧ v.yar.sb ≠ []) ∨ 4 ≤ v.yar.sb.length
    triggerHit 1 addr t = none →
    (addr % size ≠ 0 → exec .yarrowStore s = .next (settle (t.trapped 6#32 (yReg a t + off) t.trapBase))) ∧
    (addr % size = 0 → held → exec .yarrowStore s = .next (settle v)) ∧
    (∀ (r : YReply) (u : State), addr % size = 0 → ¬held → yAccess .store 1 addr size data v = (r, u) →
      u.yar.dbg.halted = false → v.yar.dbg.halted = false →
      let user := v.yar.mach = false ∨ (v.yar.mprv = true ∧ v.yar.mppM = false)
      let e : YStore := { addr := addr, size := size, data := data, cid := if user then v.yar.cidsel.toNat else 1, ctm := v.yar.ctm && !decide user }
      (∀ c f, r = .fault c f → c ≤ 5 ∨ c = 9 → exec .yarrowStore s = .next (settle
        ((u.updYar fun y => { y with yfault := BitVec.ofNat 4 c }).trapped 7#32 (BitVec.ofNat 32 addr) u.trapBase))) ∧
      ((∀ c f, r = .fault c f → 6 ≤ c ∧ c ≠ 9) →
        exec .yarrowStore s = .next (settle ((v.updYar fun y => { y with sb := y.sb ++ [e] }).retired len))))) ∧
  (∀ s : State, s.yar.sb = [] ∨ s.yar.sbOut = true → exec .storeBufferDrain s = .next (settle s.begin)) ∧
  (∀ (e : YStore) (rest : List YStore) (s : State), s.yar.sb = e :: rest → s.yar.sbOut = false →
    let run := fabric .store { cid := e.cid, ctm := e.ctm } true e.addr e.size e.data s.begin
    (∀ (d : DWord) (t : State), run = (.ans (.ok d), t) → exec .storeBufferDrain s = .next (settle (t.updYar fun y => { y with sb := rest }))) ∧
    (∀ t : State, run = (.wait, t) → exec .storeBufferDrain s = .next (settle (t.updYar fun y => { y with sbOut := true }))) ∧
    (∀ (c : Cause) (t : State), run = (.ans (.refused c), t) → exec .storeBufferDrain s = .next (settle (t.updYar fun y =>
      if y.serrValid then { y with sb := rest, serrMore := true }
      else { y with sb := rest, serrValid := true, serrAddr := BitVec.ofNat 32 e.addr, serrCause := BitVec.ofNat 4 c.code }))))

/-- R169, R171, R175: a branch goes to its target or falls through, a jump links, a fence drains the store buffer and retires once
it is empty, until when it waits, and FENCE.I empties the predictor too. R172, R173, R175, R187, R190, R194: ECALL and EBREAK trap,
or EBREAK enters Debug Mode; an illegal instruction traps with cause 2, as WFI and MRET do outside Machine mode; WFI waits, MRET
restores what the trap stacked, an enabled interrupt is taken in priority order and vectored, unless a load or a FENCE still waits,
and MTI ends a wait. It is stated of the model's choices in assumption log 18, 22, 24 and 40. -/
def Obligations.YarrowFlowAndTraps : Prop :=
  ((∀ (w : Word) (len fn a b : Nat) (off : Word) (s t : State), Fetches w len s t → yDecode w len = .branch fn a b off →
     let taken := branchTaken fn (yReg a t) (yReg b t)
     let target := if taken then t.yar.pc + off else t.yar.pc + BitVec.ofNat 32 len
     exec .yarrowBranch s = .next (settle (retireTo target (predictLearn (.branch fn a b off) t.yar.pc target len taken t)))) ∧
   (∀ (w : Word) (len rd : Nat) (off : Word) (s t : State), Fetches w len s t → yDecode w len = .jal rd off →
     exec .yarrowBranch s = .next (settle (retireTo (t.yar.pc + off)
       (predictLearn (.jal rd off) t.yar.pc (t.yar.pc + off) len true (yPut rd (t.yar.pc + BitVec.ofNat 32 len) t))))) ∧
   (∀ (w : Word) (len rd a : Nat) (off : Word) (s t : State), Fetches w len s t → yDecode w len = .jalr rd a off →
     let target := (yReg a t + off) &&& 0xFFFFFFFE#32
     exec .yarrowBranch s = .next (settle (retireTo target
       (predictLearn (.jalr rd a off) t.yar.pc target len true (yPut rd (t.yar.pc + BitVec.ofNat 32 len) t))))) ∧
   (∀ (w : Word) (len : Nat) (s t : State), Fetches w len s t → yDecode w len = .fence →
     let u := drainAll t
     (u.yar.sb = [] → exec .fence s = .next (settle (u.retired len))) ∧
     (u.yar.sb ≠ [] → exec .fence s = .next (settle (u.updYar fun y => { y with fence := true })))) ∧
   (∀ (w : Word) (len : Nat) (s t : State), Fetches w len s t → yDecode w len = .fenceI →
     let u := drainAll t
     (u.yar.sb = [] → exec .fenceI s = .next (settle ((u.updYar fun y => { y with pred := {} }).retired len))) ∧
     (u.yar.sb ≠ [] → exec .fenceI s = .next (settle u))) ∧
   (∀ t : State, t.yar.sb = [] → drainAll t = t)) ∧
  ((∀ (w : Word) (len : Nat) (s t : State), Fetches w len s t → t.yar.dbg.halted = false →
     (yDecode w len = .ecall → exec .ecall s = .next (settle (t.trapped (if t.yar.mach then 11#32 else 8#32) 0#32 t.trapBase))) ∧
     (yDecode w len = .ebreak → t.yar.dbg.dcsr.getLsbD (if t.yar.mach then 15 else 12) = false →
       exec .ebreak s = .next (settle (t.trapped 3#32 t.yar.pc t.trapBase))) ∧
     (yDecode w len = .ebreak → t.yar.dbg.dcsr.getLsbD (if t.yar.mach then 15 else 12) = true →
       exec .ebreak s = .next (settle (debugEnter 1 t))) ∧
     (yDecode w len = .illegal → exec .yarrowIntegerInstruction s = .next (settle (t.trapped 2#32 w t.trapBase))) ∧
     (yDecode w len = .wfi → t.yar.mach = false → exec .wfi s = .next (settle (t.trapped 2#32 w t.trapBase))) ∧
     (yDecode w len = .mret → t.yar.mach = false → exec .mret s = .next (settle (t.trapped 2#32 w t.trapBase))) ∧
     (yDecode w len = .wfi → t.yar.mach = true → (mipWord (t.retired len) &&& t.yar.ie) = 0#32 →
       exec .wfi s = .next (settle ((t.retired len).updYar fun y => { y with wfi := true }))) ∧
     (yDecode w len = .wfi → t.yar.mach = true → (mipWord (t.retired len) &&& t.yar.ie) ≠ 0#32 →
       exec .wfi s = .next (settle (t.retired len))) ∧
     (yDecode w len = .mret → t.yar.mach = true → exec .mret s = .next (settle (retireTo t.yar.mepc
       (t.updYar fun y => { y with mach := y.mppM, mie := y.mpie, mpie := true, mppM := false }))))) ∧
   (∀ (i : Nat) (s : State), s.yar.run = true → s.yar.dbg.halted = false → s.yar.wait = none → s.yar.fence = false ∨ s.yar.sb = [] →
     s.yar.mach = false ∨ s.yar.mie = true → s.yar.dbg.dcsr.getLsbD 2 = false ∨ s.yar.dbg.dcsr.getLsbD 11 = true → interruptNext s = some i →
     exec .interruptTake s = .next (s.begin.trapped (BitVec.ofNat 32 (i + 2 ^ 31)) 0#32
       (if s.yar.mtvec.getLsbD 0 then s.trapBase + BitVec.ofNat 32 (4 * i) else s.trapBase))) ∧
   (∀ s : State, s.yar.run = false ∨ s.yar.dbg.halted = true ∨ s.yar.wait.isSome = true ∨ (s.yar.fence = true ∧ s.yar.sb ≠ []) ∨
     (s.yar.mach = true ∧ s.yar.mie = false) ∨ interruptNext s = none → exec .interruptTake s = .next s.begin) ∧
   (∀ s : State, (mipWord s &&& s.yar.ie).getLsbD 17 = true → interruptNext s = some 17) ∧
   (∀ s : State, timerPending s = true → s.yar.ie.getLsbD 7 = true →
     exec .timerCompareMatch s = .next (s.begin.updYar fun y => { y with wfi := false }) ∧ (mipWord s).getLsbD 7 = true) ∧
   (∀ s : State, timerPending s = false ∨ s.yar.ie.getLsbD 7 = false → exec .timerCompareMatch s = .next s.begin))

/-- R191, R193, R225: a CSR access answers the old value in rd and writes the new one: the source, or the old value with the
source's bits set or cleared, where the source is not x0 or 0; VEIX holds 12 bits and waits for the older Vetch instructions;
YSERRINFO clears by 0; FLUSH clears the predictor. One that is not allowed traps with cause 2. It is stated of the model's choices
in assumption log 18 and 22. -/
def Obligations.YarrowCsrs : Prop :=
  (∀ (w : Word) (len op rd n : Nat) (src : Src) (s t : State), Fetches w len s t → len = 4 → yDecode w len = .csr op rd src n →
    let writes := op == 1 || (match src with
      | .reg i => i != 0
      | .imm v => v != 0#32)
    let u := if n = 0x7C2 then vetFinish t else t
    (∀ old : Word, csrAllowed n writes t.yar = true → csrRead n t = some old →
      let new := if op = 1 then srcVal src u else if op = 2 then old ||| srcVal src u else old &&& ~~~srcVal src u
      let done : Result := .next (settle (yPut rd old (if writes then csrWrite n new (u.retired len) else u.retired len)))
      exec .csrAccess s = done ∧ (n = 0x7C2 → exec .veixAccess s = done) ∧ (n = 0x7C7 → exec .yserrinfoClear s = done) ∧
      (n = 0x7C9 → exec .predictorFlush s = done)) ∧
    (csrAllowed n writes t.yar = false ∨ csrRead n t = none → t.yar.dbg.halted = false →
      exec .csrAccess s = .next (settle (t.trapped 2#32 w t.trapBase)))) ∧
  (∀ (v : Word) (s : State),
    csrWrite 0x7C2 v s = (s.updYar fun y => { y with veix := v.setWidth 12 }) ∧
    csrRead 0x7C2 (csrWrite 0x7C2 v s) = some (v &&& 0xFFF#32) ∧
    csrWrite 0x7C7 v s =
      (s.updYar fun y => { y with serrMore := y.serrMore && v.getLsbD 8, serrValid := y.serrValid && v.getLsbD 31 }) ∧
    (v.getLsbD 1 = true → csrWrite 0x7C9 v s = s.updYar fun y => { y with bpoff := v.getLsbD 0, pred := {} }))

/-- R182 to R189: a block routine first drains the store buffer (DESIGN CHOICE, assumption log 39), and is run again while a store
is on the chain. It moves one unit, which reads and writes at most 8 bytes up to an 8-byte boundary, and stands at a unit boundary
with x10 to x13 advanced, or retires with nothing left; a unit whose access is refused traps with the address refused, one that
waits for the chain waits. R190, R92: a halt request stops Yarrow in Debug Mode with its PC and mode saved, at once, after what it
waits for, or, before release, at reset; resume restores them; a single step ends in Debug Mode with its instruction, and a trigger
stops before it; abstract commands read and write registers while halted; the system bus acts as CID 62, and a refusal is the error
"bus". It is stated of the model's choices in assumption log 18, 39, 40 and 41. -/
def Obligations.YarrowBlocksAndDebug : Prop :=
  ((∀ (k : Fin 3) (units : Option Nat) (w : Word) (s t : State), Fetches w 4 s t → yDecode w 4 = .block k.val →
     let v := drainAll t
     let run : Option Nat → Result := fun n => exec (match k with | 0 => .bcopy n | 1 => .bfill n | 2 => .bcrc n) s
     (v.yar.sb ≠ [] → run units = .next (settle v)) ∧
     (v.yar.sb = [] → yReg 12 v = 0#32 → run units = .next (settle (v.retired 4))) ∧
     (v.yar.sb = [] → yReg 12 v ≠ 0#32 → run (some 0) = .next (settle v)) ∧
     (∀ (c a f : Nat) (u : State), v.yar.sb = [] → yReg 12 v ≠ 0#32 → units ≠ some 0 → u.yar.dbg.halted = false →
       blkAccesses k 20 (blkUnit k v) v = (.error (some (c, a, f)), u) → run units = .next (settle
         ((u.updYar fun y => { y with yfault := BitVec.ofNat 4 f }).trapped (BitVec.ofNat 32 c) (BitVec.ofNat 32 a) u.trapBase))) ∧
     (∀ u : State, v.yar.sb = [] → yReg 12 v ≠ 0#32 → units ≠ some 0 → blkAccesses k 20 (blkUnit k v) v = (.error none, u) →
       run units = .next (settle u)) ∧
     (∀ (x : BlkUnit) (u : State), v.yar.sb = [] → yReg 12 v ≠ 0#32 → blkAccesses k 20 (blkUnit k v) v = (.ok x, u) →
       let n := BitVec.ofNat 32 x.n
       let a := if k.val < 2 ∨ yReg 10 u ≠ 0#32 then yPut 10 (yReg 10 u + n) u else u
       let b := if k = 1 then a else yPut 11 (yReg 11 a + n) a
       let c := yPut 12 (yReg 12 b - n) b
       let e := if k = 2 then yPut 13 (x.data.foldl (blkCrcByte u.yar.poly) (yReg 13 u)) c else c
       (yReg 12 e ≠ 0#32 → run (some 1) = .next (settle e)) ∧
       (yReg 12 e = 0#32 → units ≠ some 0 → run units = .next (settle (e.retired 4))))) ∧
   (∀ (k : Fin 3) (s : State), yReg 12 s ≠ 0#32 →
     let x := blkUnit k s
     let base := if k.val < 2 ∨ yReg 10 s ≠ 0#32 then (yReg 10 s).toNat else (yReg 11 s).toNat
     x.n = min (yReg 12 s).toNat (8 - base % 8) ∧ (k = 1 → x.reads = []) ∧ (k = 2 → yReg 10 s = 0#32 → x.writes = []) ∧
     (k ≠ 1 → (x.reads.map Prod.snd).sum = x.n) ∧ (k.val < 2 ∨ yReg 10 s ≠ 0#32 → (x.writes.map Prod.snd).sum = x.n))) ∧
  ((∀ s : State, debugOpen s = true →
     (s.yar.run = true → s.yar.dbg.halted = false → s.yar.wait = none →
       exec .debugHalt s = .next ((vetSquash s.begin).updYar fun y =>
         { y with wfi := false, fence := false
                  dbg := { y.dbg with halted := true, haltReq := false, dpc := y.pc,
                                      dcsr := BitVec.ofNat 32 ((y.dbg.dcsr.toNat &&& 0x9E04) + 192 + (if y.mach then 3 else 0)) } })) ∧
     (s.yar.run = true → s.yar.dbg.halted = false → s.yar.wait.isSome = true →
       exec .debugHalt s = .next (s.begin.updDbg fun d => { d with haltReq := true })) ∧
     (s.yar.run = false → exec .debugHalt s = .next (s.begin.updDbg fun d => { d with resetHalt := true })) ∧
     (s.yar.dbg.halted = true → progBusy s = false →
       exec .debugResume s = .next (s.begin.updYar fun y =>
         { y with pc := y.dbg.dpc, mach := fieldOf 0 2 y.dbg.dcsr == 3, dbg := { y.dbg with halted := false, cmderr := 0 } }))) ∧
   (∀ s : State, debugOpen s = false → exec .debugHalt s = .next s.begin ∧ exec .debugResume s = .next s.begin) ∧
   (∀ (w : Word) (len rd : Nat) (op : AluOp) (a b : Src) (s t : State), s.yar.run = true → s.yar.dbg.halted = false → s.yar.wait = none →
     s.yar.wfi = false → s.yar.dbg.dcsr.getLsbD 2 = true → triggerHit 2 s.yar.pc.toNat s = none →
     (yFetch s.begin).1.toOption = some (w, len) → (yFetch s.begin).2 = t → t.yar.dbg.halted = false → yDecode w len = .alu op rd a b →
     exec .yarrowIntegerInstruction s =
       .next (settle (debugEnter 4 ((yPut rd (aluVal op (srcVal a t) (srcVal b t)) t).retired len)))) ∧
   (∀ (act : Nat) (s : State), s.yar.run = true → s.yar.dbg.halted = false → s.yar.wait = none → s.yar.wfi = false →
     s.yar.dbg.dcsr.getLsbD 2 = false → triggerHit 2 s.yar.pc.toNat s = some act →
     exec .yarrowIntegerInstruction s =
       .next (settle (if act = 1 then debugEnter 2 s.begin else s.begin.trapped 3#32 s.yar.pc s.trapBase))) ∧
   (∀ (i : Fin 32) (v : Word) (s : State), debugOpen s = true → s.yar.dbg.halted = true → progBusy s = false →
     exec (.abstractCommand (.readReg (BitVec.ofNat 16 (0x1000 + i.val)))) s =
       .next (settle ((s.begin.updDbg fun d => { d with cmderr := 0 }).answer (yReg i s).toNat)) ∧
     exec (.abstractCommand (.writeReg (BitVec.ofNat 16 (0x1000 + i.val)) v)) s =
       .next (settle (yPut i v (s.begin.updDbg fun d => { d with cmderr := 0 })))) ∧
   (∀ (c : DbgCmd) (s : State), debugOpen s = true → s.yar.dbg.halted = false →
     exec (.abstractCommand c) s = .next (settle (s.begin.updDbg fun d => { d with cmderr := 4 }))) ∧
   (∀ (write : Bool) (a v : Word) (sz : Fin 3) (s : State), debugOpen s = true →
     (∀ (d : DWord) (t : State),
       fabric .sba { cid := 62 } write a.toNat (2 ^ sz.val) (v.toNat % 256 ^ 2 ^ sz.val) s.begin = (.ans (.ok d), t) →
       exec (.systemBusAccess write a sz v) s = .next (settle (t.answer d.toNat))) ∧
     (∀ (c : Cause) (t : State),
       fabric .sba { cid := 62 } write a.toNat (2 ^ sz.val) (v.toNat % 256 ^ 2 ^ sz.val) s.begin = (.ans (.refused c), t) →
       exec (.systemBusAccess write a sz v) s = .next (settle ((t.answerRefused c.code).updDbg fun d => { d with cmderr := 5 })))))

/-- R207: the element-wise integer operations. Every active element below VL takes the lane's result, all others keep; with VL = 0
nothing changes. R207: merge, move and slides. VMERGE chooses by the mask and writes every element below VL; a slide fills with zero
above VLMAX, and keeps the elements below its distance upward. It is stated of the model's choices in assumption log 18. -/
def Obligations.VetchIntegers : Prop :=
  (let rows : List (Nat × (Bool → Instr) × (Nat → Nat → Nat → Nat → Nat)) :=
     [(0x00, .vadd, fun ew a b _ => (a + b) % 2 ^ ew),
      (0x01, .vsub, fun ew a b _ => wrapAt ew ((a : Int) - b)),
      (0x02, .vsadd, fun ew a b _ => clampAt ew (sgn ew a + sgn ew b)),
      (0x03, .vssub, fun ew a b _ => clampAt ew (sgn ew a - sgn ew b)),
      (0x04, .vmin, fun ew a b _ => if sgn ew b < sgn ew a then b else a),
      (0x05, .vmax, fun ew a b _ => if sgn ew a < sgn ew b then b else a),
      (0x06, .vminu, fun _ a b _ => min a b),
      (0x07, .vmaxu, fun _ a b _ => max a b),
      (0x08, .vand, fun _ a b _ => a &&& b),
      (0x09, .vor, fun _ a b _ => a ||| b),
      (0x0A, .vxor, fun _ a b _ => a ^^^ b),
      (0x0B, .vsll, fun ew a b _ => a * 2 ^ (b % ew) % 2 ^ ew),
      (0x0C, .vsrl, fun ew a b _ => a / 2 ^ (b % ew)),
      (0x0D, .vsra, fun ew a b _ => wrapAt ew (sgn ew a / 2 ^ (b % ew))),
      (0x0E, .vmul, fun ew a b _ => a * b % 2 ^ ew),
      (0x0F, .vmulh, fun ew a b _ => wrapAt ew (sgn ew a * sgn ew b / 2 ^ ew)),
      (0x10, .vmacc, fun ew a b d => (d + a * b) % 2 ^ ew)]
   ∀ e ∈ rows, ∀ (w : Word) (s t : State), VecEnters w s t → wf w 0 7 = 0x2B → vOp w = e.1 →
     let x := t.yar.vet.done
     let xb := yReg (vVs2 w) t
     (x.vl ≠ 0 → exec (e.2.1 false) s = .next (settle (t.vecDone (vecOut w x x.vl x.width x.lmul (vecAct w x)
       (fun i => (e.2.2 x.width (vecA w x i) (vecB w x xb i) (elt (x.group (vVd w) x.lmul) x.width i), 0)) false)))) ∧
     (x.vl = 0 → exec (e.2.1 false) s = .next (settle (t.vecDone {})))) ∧
  (∀ (w : Word) (s t : State), VecEnters w s t → wf w 0 7 = 0x2B →
     let x := t.yar.vet.done
     let xb := yReg (vVs2 w) t
     x.vl ≠ 0 →
     (vOp w = 0x11 → exec (.vmerge false) s = .next (settle (t.vecDone (vecOut w x x.vl x.width x.lmul (fun _ => true)
       (fun i => (if vecAct w x i then vecB w x xb i else vecA w x i, 0)) false)))) ∧
     (vOp w = 0x12 → exec (.vmv false) s = .next (settle (t.vecDone (vecOut w x x.vl x.width x.lmul (vecAct w x)
       (fun i => (vecB w x xb i, 0)) false)))) ∧
     (vOp w = 0x13 → exec (.vslidedn false) s = .next (settle (t.vecDone (vecOut w x x.vl x.width x.lmul (vecAct w x)
       (fun i => (if i + xb.toNat < x.vlmax then vecA w x (i + xb.toNat) else 0, 0)) false)))) ∧
     (vOp w = 0x14 → exec (.vslideup false) s = .next (settle (t.vecDone (vecOut w x x.vl x.width x.lmul (vecAct w x)
       (fun i => (if xb.toNat ≤ i then vecA w x (i - xb.toNat) else elt (x.group (vVd w) x.lmul) x.width i, 0)) false)))))

/-- R207, R210: the comparisons write one mask bit per active element below VL, and leave the others. R204: the mask operations
write all bits of a K register; K0 is never a destination and reads all ones. It is stated of the model's choices in assumption log
18 and 37. -/
def Obligations.VetchComparesAndMasks : Prop :=
  (let rows : List (Nat × (Bool → Instr) × (Nat → Nat → Nat → Bool)) :=
     [(0x20, .vmseq, fun _ a b => a == b), (0x21, .vmsne, fun _ a b => a != b),
      (0x22, .vmslt, fun ew a b => decide (sgn ew a < sgn ew b)), (0x23, .vmsltu, fun _ a b => decide (a < b)),
      (0x24, .vmsle, fun ew a b => decide (sgn ew a ≤ sgn ew b)), (0x25, .vmsleu, fun _ a b => decide (a ≤ b))]
   let fprows : List (Nat × (Bool → Instr) × Nat) := [(0x2E, .vfmseq, 2), (0x2F, .vfmslt, 1), (0x30, .vfmsle, 0)]
   ∀ (w : Word) (s t : State), VecEnters w s t → wf w 0 7 = 0x2B →
     let x := t.yar.vet.done
     let xb := yReg (vVs2 w) t
     let bits := fun (f : Nat → Nat × FlagSet) => vMap x.vl 1 (vecAct w x) f (x.mask (vVd w))
     let out : (Nat → Nat × FlagSet) → Bool → Result := fun f fp =>
       .next (settle (t.vecDone { kw := [(vVd w, BitVec.ofNat 2048 (bits f).1)], fl := (bits f).2, fp := fp }))
     x.vl ≠ 0 →
     (∀ e ∈ rows, vOp w = e.1 →
       exec (e.2.1 false) s = out (fun i => (if e.2.2 x.width (vecA w x i) (vecB w x xb i) then 1 else 0, 0)) false) ∧
     (∀ e ∈ fprows, vOp w = e.1 →
       exec (e.2.1 false) s = out (fun i =>
         let c := fpCmp e.2.2 ((vFmt x.width).read (vecA w x i)) ((vFmt x.width).read (vecB w x xb i))
         (if c.1 then 1 else 0, c.2)) true)) ∧
  (let rows : List (Nat × (Bool → Instr) × (BitVec 2048 → BitVec 2048 → BitVec 2048)) :=
     [(0, .vkand, fun a b => a &&& b), (1, .vkor, fun a b => a ||| b), (2, .vkxor, fun a b => a ^^^ b), (3, .vkandn, fun a b => a &&& ~~~b),
      (4, .vknot, fun a _ => ~~~a)]
   (∀ e ∈ rows, ∀ (w : Word) (s t : State), VecEnters w s t → wf w 0 7 = 0x5B → mClass w = 2 → mOp w = e.1 →
     let x := t.yar.vet.done
     exec (e.2.1 false) s = .next (settle (t.vecDone { kw := [(vVd w, e.2.2 (BitVec.ofNat 2048 (x.mask (vVs1 w)))
       (BitVec.ofNat 2048 (x.mask (vVs2 w))))] }))) ∧
   (∀ x : Vet, x.mask 0 = 2 ^ 2048 - 1))

/-- R208, R209: the widening products write elements of twice the width into a double group; the dot products add four or two
products of elements below VL to each lane. It is stated of the model's choices in assumption log 18. -/
def Obligations.VetchWidening : Prop :=
  let rows : List (Nat × (Bool → Instr) × (Nat → Nat → Nat → Nat → Nat)) :=
    [(0x18, .vwmul, fun ew a b _ => wrapAt (2 * ew) (sgn ew a * sgn ew b)), (0x19, .vwmulu, fun _ a b _ => a * b),
     (0x1A, .vwmulsu, fun ew a b _ => wrapAt (2 * ew) (sgn ew a * b)),
     (0x1B, .vwmacc, fun ew a b d => wrapAt (2 * ew) (d + sgn ew a * sgn ew b)),
     (0x1C, .vwmaccu, fun ew a b d => (d + a * b) % 2 ^ (2 * ew))]
  let dots : List (Nat × (Bool → Instr) × Nat × Nat × Nat × Bool) :=
    [(0x1D, .vdot4, 4, 32, 1, true), (0x1E, .vdot4u, 4, 32, 1, false), (0x1F, .vdot2, 2, 64, 2, true)]
  ∀ (w : Word) (s t : State), VecEnters w s t → wf w 0 7 = 0x2B →
    let x := t.yar.vet.done
    let xb := yReg (vVs2 w) t
    x.vl ≠ 0 →
    (∀ e ∈ rows, vOp w = e.1 → exec (e.2.1 false) s = .next (settle (t.vecDone (vecOut w x x.vl (2 * x.width) (2 * x.lmul) (vecAct w x)
      (fun i => (e.2.2 x.width (vecA w x i) (vecB w x xb i) (elt (x.group (vVd w) (2 * x.lmul)) (2 * x.width) i), 0)) false)))) ∧
    (∀ e ∈ dots, vOp w = e.1 →
      let val := fun (v : Nat → Nat) (i : Nat) => if i < x.vl then (if e.2.2.2.2.2 then sgn x.width (v i) else (v i : Int)) else 0
      exec (e.2.1 false) s = .next (settle (t.vecDone { vw := (vecOut w x ((x.vl + e.2.2.1 - 1) / e.2.2.1) e.2.2.2.1
        (if e.1 = 0x1F then 2 * x.lmul else x.lmul) (vecAct w x) (fun i =>
          (wrapAt e.2.2.2.1 ((elt (x.group (vVd w) (if e.1 = 0x1F then 2 * x.lmul else x.lmul)) e.2.2.2.1 i : Int) +
            (List.range e.2.2.1).foldl (fun u j => u + val (vecA w x) (e.2.2.1 * i + j) * val (vecB w x xb) (e.2.2.1 * i + j)) 0), 0))
        false).vw })))

/-- R210, R211: the floating-point lanes, in binary16 or binary32 by SEW, with the flags of every active element accrued. R212,
R213: a reduction of the active elements of VS1 below VL writes element 0 of VD, from the operation's own start value, and leaves
the rest of the register. It is stated of the model's choices in assumption log 18, 23 and 37. -/
def Obligations.VetchFloats : Prop :=
  (let rows : List (Nat × (Bool → Instr) × (Fmt → Nat → Nat → Nat → Nat → Nat → Nat × FlagSet)) :=
     [(0x28, .vfadd, fun f rm _ a b _ => fpAdd f rm (f.read a) (f.read b)),
      (0x29, .vfsub, fun f rm _ a b _ => fpAdd f rm (f.read a) (f.read b).neg),
      (0x2A, .vfmul, fun f rm _ a b _ => fpMul f rm (f.read a) (f.read b)),
      (0x2B, .vfmacc, fun f rm _ a b d => fpFma f rm (f.read a) (f.read b) (f.read d)),
      (0x2C, .vfmin, fun f _ _ a b _ => fpMinMax f false a b), (0x2D, .vfmax, fun f _ _ a b _ => fpMinMax f true a b),
      (0x31, .vfcvtFX, fun f rm ew a _ _ => f.roundInt rm false (sgn ew a) 0),
      (0x32, .vfcvtXF, fun f rm ew a _ _ => fpToInt ew false rm (f.read a))]
   let wide : List (Nat × (Bool → Instr) × (Nat → Nat → Nat → Nat → Nat × FlagSet)) :=
     [(0x33, .vfwmul, fun rm a b _ => fpMul f32 rm (f16.read a) (f16.read b)),
      (0x34, .vfwmacc, fun rm a b d => fpFma f32 rm (f16.read a) (f16.read b) (f32.read d))]
   ∀ (w : Word) (s t : State), VecEnters w s t → wf w 0 7 = 0x2B →
     let x := t.yar.vet.done
     let xb := yReg (vVs2 w) t
     let rm := t.yar.frm.toNat
     x.vl ≠ 0 →
     (∀ e ∈ rows, vOp w = e.1 → exec (e.2.1 false) s = .next (settle (t.vecDone (vecOut w x x.vl x.width x.lmul (vecAct w x)
       (fun i => e.2.2 (vFmt x.width) rm x.width (vecA w x i) (vecB w x xb i) (elt (x.group (vVd w) x.lmul) x.width i)) true)))) ∧
     (∀ e ∈ wide, vOp w = e.1 → exec (e.2.1 false) s = .next (settle (t.vecDone (vecOut w x x.vl (2 * x.width) (2 * x.lmul) (vecAct w x)
       (fun i => e.2.2 rm (vecA w x i) (vecB w x xb i) (elt (x.group (vVd w) (2 * x.lmul)) (2 * x.width) i)) true))))) ∧
  (let rows : List (Nat × (Bool → Instr) × (Nat → List Nat → Nat)) :=
     [(0x38, .vredsum, fun ew es => es.foldl (fun v e => (v + e) % 2 ^ ew) 0),
      (0x39, .vredmax, fun ew es => es.foldl (fun v e => if sgn ew v < sgn ew e then e else v) (2 ^ (ew - 1))),
      (0x3A, .vredmin, fun ew es => es.foldl (fun v e => if sgn ew e < sgn ew v then e else v) (2 ^ (ew - 1) - 1)),
      (0x3B, .vredmaxu, fun _ es => es.foldl max 0)]
   ∀ (w : Word) (s t : State), VecEnters w s t → wf w 0 7 = 0x2B →
     let x := t.yar.vet.done
     let es := ((List.range x.vl).filter (vecAct w x)).map (vecA w x)
     let out : Nat × FlagSet → Bool → Result := fun r fp =>
       .next (settle (t.vecDone { vw := [(vVd w, BitVec.ofNat 2048 (putElt (x.reg (vVd w)) x.width 0 r.1))], fl := r.2, fp := fp }))
     x.vl ≠ 0 →
     (∀ e ∈ rows, vOp w = e.1 → exec (e.2.1 false) s = out (e.2.2 x.width es, 0) false) ∧
     (vOp w = 0x3C → exec (.vfredsum false) s = out (vTree (vFmt x.width) t.yar.frm.toNat
       (fun i => if i < x.vl && vecAct w x i then vecA w x i else (vFmt x.width).signBit) (Nat.log2 x.vlmax) 0) true) ∧
     (vOp w = 0x3D → exec (.vfredmax false) s = out (match es with
       | [] => ((vFmt x.width).nan, 0)
       | e :: rest =>
         let r := rest.foldl (fun p e => let r := fpMinMax (vFmt x.width) true p.1 e; (r.1, p.2 ||| r.2)) (e, 0)
         (if ((vFmt x.width).read r.1).isNan then (vFmt x.width).nan else r.1,
          r.2 ||| (if ((vFmt x.width).read e).sig then 16 else 0))) true))

/-- R201, R204, R206: the scalar results and the configuration, once the window has completed. VSETVL takes a VTYPE word below 16
and the smaller of the asked length and VLMAX, and any other word sets VILL with VL = 0; VSIG raises event 0xFC. It is stated of the
model's choices in assumption log 18. -/
def Obligations.VetchScalarsAndConfig : Prop :=
  ∀ (w : Word) (s t : State), VecRuns w s t → wf w 0 7 = 0x5B →
    let u := vetFinish (vetSquash t)
    let x := u.yar.vet
    let below := (List.range x.vl).filter fun i => natBit (x.mask (vVs1 w)) i
    let idx := (yReg (vVs1 w) t).toNat
    let e := elt (x.group (vVs2 w) x.lmul) x.width idx
    let put : Word → Result := fun v => .next (settle ((yPut (vVd w) v u).retired 4))
    (mClass w = 3 → mOp w = 0 → exec .vkpopc s = put (BitVec.ofNat 32 below.length)) ∧
    (mClass w = 3 → mOp w = 1 → exec .vkfirst s = put (match below with
      | i :: _ => BitVec.ofNat 32 i
      | [] => 0xFFFFFFFF#32)) ∧
    (mClass w = 3 → mOp w = 2 → exec .vmvxs s = put (if x.vlmax ≤ idx then 0#32
      else if x.width < 32 then BitVec.ofInt 32 (sgn x.width e) else BitVec.ofNat 32 e)) ∧
    (mClass w = 3 → mOp w = 3 → exec .vmvxsh s = put (if idx < x.vlmax then BitVec.ofNat 32 (e / 2 ^ 32) else 0#32)) ∧
    (mClass w = 4 → mOp w = 0 → (yReg (vVs2 w) t).toNat < 16 →
      let y : Vet := { u.yar.vet with sew := (yReg (vVs2 w) t).toNat % 4, g := (yReg (vVs2 w) t).toNat / 4, vill := false }
      exec .vsetvl s = .next (settle ((yPut (vVd w) (BitVec.ofNat 32 (min idx y.vlmax))
        (u.updVet fun _ => { y with vl := min idx y.vlmax })).retired 4))) ∧
    (mClass w = 4 → mOp w = 0 → 16 ≤ (yReg (vVs2 w) t).toNat →
      exec .vsetvl s = .next (settle ((yPut (vVd w) 0#32 (u.updVet fun z => { z with vill := true, vl := 0 })).retired 4))) ∧
    (mClass w = 4 → mOp w = 1 →
      exec .vgetcfg s = put (BitVec.ofNat 32 (x.sew + 4 * x.g + (if x.vill then 16 else 0) + x.vl * 65536))) ∧
    (mClass w = 4 → mOp w = 2 → exec .vfence s = .next (settle (u.retired 4))) ∧
    (mClass w = 4 → mOp w = 3 → exec .vsig s = .next (settle ((u.raise 0xFC).retired 4)))

/-- R201, R216 to R224: a vector load or store waits for the window and the store buffer, and goes on from element VEIX, pass by
pass. Where none is refused and no interrupt stops it, VEIX returns to 0 and it retires; stopped at a pass boundary, VEIX holds the
next element and PC stays; refused, the fault is taken. What a load has read is written each time. R226, R227: Vetch begins the next
instruction on the predicted path before Yarrow reaches it, where no older instruction writes what it reads; its results wait in the
pending-write buffer of two entries. When Yarrow retires it they land, its flags accrue, and a refusal that it met takes effect. It
is stated of the model's choices in assumption log 18, 36 and 37. -/
def Obligations.VetchMemory : Prop :=
  (let loads : List (Nat × (Option Nat → Instr)) := [(0, .vle false), (1, .vlse false), (2, .vlxe false), (3, .vlr false), (4, .vlk false)]
   let stores : List (Nat × (Option Nat → Instr)) := [(0, .vse), (1, .vsse), (2, .vsxe), (3, .vsr), (4, .vsk)]
   (∀ (w : Word) (passes : Option Nat) (s t : State), VecRuns w s t → wf w 0 7 = 0x5B → mClass w ≤ 1 →
     let q := drainAll (vetFinish (vetSquash t))
     let m := vMemOf w q.yar.vet (yReg (vVs1 w) q) (yReg (vVs2 w) q)
     let start := q.yar.veix.toNat
     let run := vMemRun m (mClass w == 1) false (m.n - start + 1) passes { e := start, v := vMemOld w q.yar.vet } q
     let r := run.1
     let ended : State → Result := fun v => .next (settle (match r.fault with
       | some f => vFault f.e f.cause f.addr f.yf v
       | none => if r.stopped then v.updYar fun y => { y with veix := BitVec.ofNat 12 r.e }
         else (v.updYar fun y => { y with veix := 0#12 }).retired 4))
     (∀ e ∈ loads, mClass w = 0 → mOp w = e.1 →
       exec (e.2 passes) s = (if q.yar.sb.isEmpty then ended (vLand (vLoadOut w q.yar.vet r.v) run.2) else .next (settle q))) ∧
     (∀ e ∈ stores, mClass w = 1 → mOp w = e.1 →
       exec (e.2 passes) s = (if q.yar.sb.isEmpty then ended run.2 else .next (settle q)))) ∧
   (∀ (e cause a yf : Nat) (s : State), s.yar.dbg.halted = false →
     let v := s.updYar fun y => { y with veix := BitVec.ofNat 12 e, yfault := if yf = 0 then y.yfault else BitVec.ofNat 4 yf }
     vFault e cause a yf s = (v.trapped (BitVec.ofNat 32 cause) (BitVec.ofNat 32 a) v.trapBase).raise 0xFD)) ∧
  (let loads : List ((YInstr → Bool) × (Bool → Option Nat → Instr)) :=
     [(isVec2 0 0, .vle), (isVec2 0 1, .vlse), (isVec2 0 2, .vlxe), (isVec2 0 3, .vlr), (isVec2 0 4, .vlk)]
   let ready := fun (s : State) => s.yar.run = true ∧ s.yar.dbg.halted = false ∧ s.yar.wfi = false ∧ s.yar.wait = none ∧
     s.yar.vet.pend.length < 2
   let walk := fun (s : State) => aheadWalk 16 s.yar.pc s.yar.vet.pend.length [] [] s.begin
   let free := fun (w : Word) (older : List YInstr) => ∀ i ∈ older,
     (wf w 0 7 = 0x2B → vX w = true → yWrites i (vVs2 w) = false) ∧
     (wf w 0 7 = 0x5B → mClass w = 0 → yWrites i (vVs1 w) = false ∧ (mOp w = 1 → yWrites i (vVs2 w) = false))
   (∀ (w pc : Word) (path : List Word) (older : List YInstr) (s : State), ready s → walk s = some (w, pc, path, older) → free w older →
     (∀ e ∈ vecForms, e.1 (.vec w) = true → exec (e.2 true) s = .next (settle (vBegin w pc path s.begin))) ∧
     (∀ e ∈ loads, ∀ n, e.1 (.vec w) = true → exec (e.2 true n) s = .next (settle (vBegin w pc path s.begin)))) ∧
   (∀ s : State, ready s → walk s = none →
     (∀ e ∈ vecForms, exec (e.2 true) s = .next (settle s.begin)) ∧ (∀ e ∈ loads, ∀ n, exec (e.2 true n) s = .next (settle s.begin))) ∧
   (∀ (w pc : Word) (path : List Word) (s : State), vLegal w s.yar.vet.view s.yar = true → s.yar.vet.pend.length < 2 →
     (∀ p ∈ s.yar.vet.pend, p.fault = none) → vRegOnly w = true →
     let o := vRegResult w s.yar.vet.view s
     vBegin w pc path s = (vetFinish s).updVet fun v =>
       { v with pend := v.pend ++ [{ pc := pc, word := w, vw := o.vw, kw := o.kw, fl := o.fl, fp := o.fp }], path := path }) ∧
   (∀ (w pc : Word) (path : List Word) (s : State),
     vLegal w s.yar.vet.view s.yar = false ∨ s.yar.vet.pend.length = 2 ∨ (∃ p ∈ s.yar.vet.pend, p.fault.isSome = true) →
     vBegin w pc path s = s) ∧
   (∀ (p : VPend) (rest : List VPend) (s t : State), Fetches p.word 4 s t → yDecode p.word 4 = .vec p.word →
     s.yar.vet.pend = p :: rest → t.yar.vet.pend = p :: rest → t.yar.pc = p.pc →
     let v := vLand { vw := p.vw, kw := p.kw, fl := p.fl, fp := p.fp } (t.updVet fun v => { v with pend := rest })
     let ended : Result := .next (settle (match p.fault with
       | some f => vRecorded f v
       | none => (if vRegOnly p.word then v else v.updYar fun y => { y with veix := 0#12 }).retired 4))
     exec .vetchRunaheadCommit s = ended ∧
     (∀ e ∈ vecForms, e.1 (.vec p.word) = true → exec (e.2 false) s = ended) ∧
     (∀ e ∈ loads, ∀ n, e.1 (.vec p.word) = true → exec (e.2 false n) s = ended)) ∧
   (∀ s : State, s.yar.vet.pend = [] → exec .vetchRunaheadCommit s = .next (settle s.begin)))

/-- R197 to R199, R202: writing a group of registers and reading it back gives what was written, and leaves every other register; an
element map changes exactly the active elements below its count. R200, R201, R205, R214, R228: with VL = 0 a custom-1 instruction
writes nothing and retires; a register-to-register instruction stalls while eight wait in the window, an illegal word traps, and the
instruction of another command is left alone. It is stated of the model's choices in assumption log 36. -/
def Obligations.VetchGroups : Prop :=
  ((∀ (x : Vet) (n c v : Nat), n + c ≤ 32 →
     let y := x.land (groupOut n c v) []
     y.group n c = v % 2 ^ (2048 * c) ∧ (∀ m < 32, (m < n ∨ n + c ≤ m) → y.reg m = x.reg m) ∧ y.k = x.k ∧ y.vl = x.vl) ∧
   (∀ (n ew old i : Nat) (act : Nat → Bool) (f : Nat → Nat × FlagSet), 0 < ew →
     elt (vMap n ew act f old).1 ew i = if i < n ∧ act i = true then (f i).1 % 2 ^ ew else elt old ew i)) ∧
  ((∀ e ∈ vecForms, ∀ (w : Word) (s t : State), e.1 (.vec w) = true → Fetches w 4 s t → yDecode w 4 = .vec w → t.yar.vet.pend = [] →
     (vLegal w { t.yar.vet with path := [] } t.yar = true → t.yar.vet.win.length < 8 → wf w 0 7 = 0x2B → t.yar.vet.vl = 0 →
       exec (e.2 false) s = .next (settle (t.vecDone {}))) ∧
     (vLegal w { t.yar.vet with path := [] } t.yar = true → 8 ≤ t.yar.vet.win.length →
       exec (e.2 false) s = .next (settle (vetSquash t))) ∧
     (vLegal w { t.yar.vet with path := [] } t.yar = false → t.yar.dbg.halted = false →
       exec (e.2 false) s = .next (settle (t.trapped 2#32 w t.trapBase)))) ∧
   (∀ e ∈ vecForms, ∀ (w : Word) (len : Nat) (s t : State), Fetches w len s t → yDecode w len ≠ .illegal → e.1 (yDecode w len) = false →
     exec (e.2 false) s = .next (settle s.begin)) ∧
   (∀ e ∈ vecForms, ∀ s : State, s.yar.run = false ∨ s.yar.dbg.halted = true ∨ s.yar.wait.isSome = true →
     exec (e.2 false) s = .next (settle s.begin) ∧ exec (e.2 true) s = .next (settle s.begin)))

/-- R238 to R241: a bank's power request is refused with PWRERR, or starts its transition, at once where no access is captured at
the bank and after the captured ones otherwise; the transition's end puts the bank in the state asked for, with its contents lost
where it was OFF, OFF to RETENTION going through ON, and event 0x28 where it reaches ON. R243, R244: a keyed WIPE starts the wipe of
the secure bank and a wrong key sets KEYERR; when it is done every byte of the bank reads zero, the count has risen, and event 0x25
or 0x26 is raised. R245 to R250: START of a run on a bank that may be tested clears the failure record and begins with element 1,
the bank undefined where the run is destructive; ABORT ends a destructive run at once and a transparent one after its segment. A
destructive run goes on element by element, fails at the first misread, and leaves the bank zero with DONE and event 0x23 at its
end; a transparent run goes on segment by segment. R230, R231, R233, R251, R252: the code of a word with one bit flipped names that
bit, and with two flipped bits is neither good nor correctable; a scrub read, SCRUBDIV ticks after the last, services the word at
the pointer and moves it on; an armed injection is spent by one store. It is stated of the model's choices in assumption log 44 and
45. -/
def Obligations.MemoryControl : Prop :=
  ((∀ (cid : Cid) (b : Fin 68) (v : Word) (s : State), Admits cid true (R.MEM_PWR b.val).addr s → cid.toNat ≤ 1 →
     let req := fieldOf 0 2 v
     let u0 := s.begin.set (F.MEM_PWR_AUTOWAKE b.val) (fieldOf 2 1 v)
     let u := if natBit v.toNat 7 then u0.set (F.MEM_PWR_PWRERR b.val) 0 else u0
     let rest := s.memCtl.pwrWait.filter (fun p => p.1 != b.val)
     let w : State := { u.set (F.MEM_PWR_REQ b.val) req with memCtl := { s.memCtl with pwrWait := rest } }
     let bad := req = 3 ∨ (b.val = 0x0F ∧ req = 2) ∨ (0x40 ≤ b.val ∧ req ≠ 0) ∨ bankCoreHeld b.val s = false ∨ marchOn b.val s = true
     let same := pwrTarget b.val s = none ∧ bankPower b.val s = req
     (bad → exec (.powerStateRequest cid b v) s = .next (settle (u.set (F.MEM_PWR_PWRERR b.val) 1))) ∧
     (¬bad → same → exec (.powerStateRequest cid b v) s = .next (settle w)) ∧
     (¬bad → ¬same → pendingAt (.bank b) s = [] → exec (.powerStateRequest cid b v) s = .next (settle
       (({ w with memCtl := { w.memCtl with pwrTo := (b.val, req) :: s.memCtl.pwrTo.filter (fun p => p.1 != b.val) } } : State).set
         (F.MEM_PWR_CHANGING b.val) 1))) ∧
     (¬bad → ¬same → pendingAt (.bank b) s ≠ [] → exec (.powerStateRequest cid b v) s = .next (settle
       ({ w with memCtl := { w.memCtl with pwrWait := (b.val, req, none) :: rest } } : State)))) ∧
   (∀ (b : Fin 68) (t : Nat) (s : State), pwrTarget b.val s = some t →
     let left := s.memCtl.pwrTo.filter (fun p => p.1 != b.val)
     let reach := fun (t : Nat) => ((({ s.begin with memCtl := { s.memCtl with pwrTo := left }, mem := if t = 2 ∨ bankPower b.val s = 2 then clearBank b.val s.mem else s.mem } : State).set
       (F.MEM_PWR_STATE b.val) t).set (F.MEM_PWR_CHANGING b.val) 0)
     let on := (reach 0).raise 0x28
     (t = 0 → exec (.powerTransitionDone b) s = .next on) ∧
     (t ≠ 0 → (t = 1 → bankPower b.val s ≠ 2) → exec (.powerTransitionDone b) s = .next (reach t)) ∧
     (t = 1 → bankPower b.val s = 2 → exec (.powerTransitionDone b) s = .next
       (({ on with memCtl := { on.memCtl with pwrTo := (b.val, 1) :: left } } : State).set (F.MEM_PWR_CHANGING b.val) 1))) ∧
   (∀ (b : Fin 68) (s : State), pwrTarget b.val s = none → exec (.powerTransitionDone b) s = .next s.begin)) ∧
  ((∀ (cid : Cid) (v : Word) (s : State), Admits cid true R.MEM_SECCTL.addr s → cid.toNat ≤ 1 → natBit v.toNat 0 = true →
     (fieldOf 16 16 v = 0x5EC0 → exec (.secureWipe cid v) s = .next (settle
       (({ s.begin with memCtl := { s.memCtl with wipeCauses := s.memCtl.wipeCauses ++ [.software] } } : State).set
         F.MEM_SECSTAT_WIPING 1))) ∧
     (fieldOf 16 16 v ≠ 0x5EC0 → exec (.secureWipe cid v) s = .next (settle (s.begin.set F.MEM_SECSTAT_KEYERR 1)))) ∧
   (∀ (cid : Cid) (v : Word) (s : State), Admits cid true R.MEM_SECCTL.addr s → cid.toNat ≤ 1 → natBit v.toNat 0 = false →
     exec (.secureWipe cid v) s = .next (settle s.begin)) ∧
   (∀ (ok : Bool) (s : State), s.on F.MEM_SECSTAT_WIPING = false → exec (.wipeDone ok) s = .next s.begin) ∧
   (∀ s : State, s.on F.MEM_SECSTAT_WIPING = true → .tamper ∉ s.memCtl.wipeCauses → .lifeCycle ∉ s.memCtl.wipeCauses →
     let t := (({ s.begin with mem := clearBank 0x42 s.mem, memCtl := { s.memCtl with wipeCauses := [] } } : State).set
       F.MEM_SECSTAT_WIPING 0).count F.MEM_SECSTAT_WIPECNT
     exec (.wipeDone true) s = .next (t.raise 0x25) ∧
     exec (.wipeDone false) s = .next ((t.set F.MEM_SECSTAT_WIPEERR 1).raise 0x26)) ∧
   ∀ (m : Memory) (b a : Nat), (bankOf a = some b → memByte (clearBank b m) a = 0#8) ∧
     (bankOf a ≠ some b → memByte (clearBank b m) a = memByte m a)) ∧
  ((∀ (cid : Cid) (v : Word) (s : State), Admits cid true R.MEM_MARCHCTL.addr s → cid.toNat ≤ 1 → natBit v.toNat 10 = true →
     natBit v.toNat 11 = false →
     let u := s.begin.setWord R.MEM_MARCHCTL (v &&& 0x00FF03FF#32)
     let b := u.get F.MEM_MARCHCTL_BANK
     let tr := u.on F.MEM_MARCHCTL_MODE
     let run : March := { bank := b, transparent := tr, elem := 1, seglen := u.get F.MEM_MARCHCTL_SEGLEN + 1, cefail := u.on F.MEM_MARCHCTL_CEFAIL }
     let ok := s.memCtl.march = none ∧ b ∈ bankIds ∧ bankPower b u = 0 ∧ pwrTarget b s = none ∧ bankCoreHeld b s = true ∧
       (tr = true ∨ u.get F.MEM_MARCHCTL_SEGLEN = 0)
     let w := (marchClear b u).set F.MEM_MARCHSTAT_BUSY 1
     (¬ok → exec (.marchStart cid v) s = .next (settle (u.set F.MEM_MARCHSTAT_REFUSED 1))) ∧
     (ok → tr = true → exec (.marchStart cid v) s = .next (settle { w with memCtl := { w.memCtl with march := some run } })) ∧
     (ok → tr = false → exec (.marchStart cid v) s = .next (settle
       { w with mem := loseBank b w.memCtl.epoch w.mem, memCtl := { w.memCtl with march := some run, epoch := w.memCtl.epoch + 1 } }))) ∧
   (∀ (cid : Cid) (v : Word) (s : State), Admits cid true R.MEM_MARCHCTL.addr s → cid.toNat ≤ 1 →
     natBit v.toNat 10 = false → natBit v.toNat 11 = true →
     let u := s.begin.setWord R.MEM_MARCHCTL (v &&& 0x00FF03FF#32)
     (s.memCtl.march = none → exec (.marchAbort cid v) s = .next (settle u)) ∧
     (∀ m : March, s.memCtl.march = some m → m.transparent = false → exec (.marchAbort cid v) s = .next (settle (marchEnd u))) ∧
     (∀ m : March, s.memCtl.march = some m → m.transparent = true →
       exec (.marchAbort cid v) s = .next (settle { u with memCtl := { u.memCtl with march := some { m with abort := true } } }))) ∧
   (∀ (flips : List (Nat × Nat × BitVec 39)) (s : State), s.memCtl.march = none → exec (.marchSegment flips) s = .next s.begin) ∧
   (∀ (m : March) (flips : List (Nat × Nat × BitVec 39)) (s : State), s.memCtl.march = some m → m.transparent = false →
     let u := bankServed (bankAddr m.bank 0) 63 s.begin
     ((m.elem = 1 ∨ ∀ f ∈ flips, f.1 = m.elem → bankWords m.bank ≤ f.2.1 ∨ f.2.2 = 0#39) →
       exec (.marchSegment flips) s = .next
         (if m.elem < 6 then ({ u with memCtl := { u.memCtl with march := some { m with elem := m.elem + 1 } } } : State)
          else ((marchEnd { u with mem := clearBank m.bank s.mem }).set F.MEM_MARCHSTAT_DONE 1).raise 0x23)) ∧
     (∀ (w : Nat) (x : BitVec 39), 2 ≤ m.elem → flips = [(m.elem, w, x)] → w < bankWords m.bank → x ≠ 0#39 →
       exec (.marchSegment flips) s = .next (marchFailed { kind := 0, word := w, elem := m.elem, xor := x } u))) ∧
   (∀ (m : March) (flips : List (Nat × Nat × BitVec 39)) (s : State), s.memCtl.march = some m → m.transparent = true →
     let r := marchSegmentRun m flips s.begin
     exec (.marchSegment flips) s = .next (if m.abort then marchEnd r.2 else match r.1 with
       | some f => marchFailed f r.2
       | none => if bankWords m.bank ≤ (m.seg + 1) * m.seglen then ((marchEnd r.2).set F.MEM_MARCHSTAT_DONE 1).raise 0x23
         else { r.2 with memCtl := { r.2.memCtl with march := some { m with seg := m.seg + 1 } } }))) ∧
  ((∀ (w : Word) (p : Fin 39), eccClass (codeSyndrome ((checkBits w ++ w) ^^^ BitVec.ofNat 39 (2 ^ p.val))) = .single p) ∧
   (∀ (w : Word) (p q : Fin 39), p ≠ q →
     eccClass (codeSyndrome ((checkBits w ++ w) ^^^ BitVec.ofNat 39 (2 ^ p.val) ^^^ BitVec.ofNat 39 (2 ^ q.val))) = .bad) ∧
   (∀ (m : Memory) (a : Nat) (w : Word) (y : BitVec 7), memWord (setMemWord m a w y) a = w ∧ memSynd (setMemWord m a w y) a = y ∧
     ∀ b, b < a ∨ a + 3 < b → memByte (setMemWord m a w y) b = memByte m b) ∧
   (∀ s : State, s.on F.MEM_ECCCTL_SCRUBEN = true → s.get F.MEM_ECCCTL_SCRUBDIV ≤ s.memCtl.scrubTick → 1 ≤ s.memCtl.scrubTick →
     scrubbable s.memCtl.scrubBank s = true → s.memCtl.scrubWord + 1 < bankWords s.memCtl.scrubBank →
     let u := (ramReadWord { cid := 63 } 3 (bankAddr s.memCtl.scrubBank s.memCtl.scrubWord)
       { s.begin with memCtl := { s.memCtl with scrubTick := 0 } }).2
     exec .scrubRead s = .next { u with memCtl := { u.memCtl with scrubWord := s.memCtl.scrubWord + 1 } }) ∧
   (∀ s : State, s.on F.MEM_ECCCTL_SCRUBEN = false ∨ s.memCtl.scrubTick < max 1 (s.get F.MEM_ECCCTL_SCRUBDIV) →
     exec .scrubRead s = .next s.begin) ∧
   (∀ (who : Who) (kind a : Nat) (s : State), (memSynd s.mem a = 0#7) → ramReadWord who kind a s = (some (memWord s.mem a), bankServed a who.cid s)) ∧
   (∀ (cid : Cid) (v : Word) (s : State), Admits cid true R.MEM_INJCTL.addr s → cid.toNat ≤ 1 →
     exec (.injectionArm cid v) s = .next (settle (s.begin.codeWritten R.MEM_INJCTL.addr v))) ∧
   (∀ (who : Who) (a : Nat) (w : Word) (s : State), s.on F.MEM_INJCTL_ARM = true → s.get F.MEM_INJADDR_ADDR / 4 * 4 = a →
     who.cid ≠ 63 →
     memWord (storeWord who a w s).mem a = w ^^^ s.word R.MEM_INJDATA ∧ (storeWord who a w s).get F.MEM_INJCTL_ARM = 0))

/-- R349: an event posted while TB9 reads n is on time for a tick of n + 2 or more. A late one fires at n + 2, with LATE set and
LATECNT counted, under LATEPOL = 0; under LATEPOL = 1 nothing is posted and the channel stops with cause LATE (3). -/
def Obligations.TeaselLateEvents : Prop :=
  ∀ (t : Fin 24) (w : Word) (n : Nat) (s u : State), TslFetches t w s u → tslTurn t s.begin = true → s.chn.done = [] →
    fieldOf 28 4 w = 1 → fieldOf 16 6 w = 0 →
    tslPinOf t (fieldOf 25 3 w) u = some n → (pinAt n u).queue.length < 2 →
    let k := tslTick t u + (if fieldOf 22 1 w = 1 then u.get (F.TSL_CHtS1 t) % 65536 else fieldOf 0 16 w : Nat)
    let lvl := if fieldOf 23 2 w = 0 then PinDrive.low else if fieldOf 23 2 w = 1 then .high else if fieldOf 23 2 w = 2 then .z
      else if u.get (F.TSL_CHtSO t) % 2 = 1 then .high else .low
    ((tb9 u : Int) + 2 ≤ k → Ends (.drive t) s fun v =>
      (pinAt n v).queue = (pinAt n u).queue.filter (fun e => e.2 != k.toNat) ++ [(lvl, k.toNat)] ∧
      v.get (F.TSL_CHtSTAT_LATE t) = u.get (F.TSL_CHtSTAT_LATE t) ∧ v.get (F.TSL_CHtLATECNT_COUNT t) = u.get (F.TSL_CHtLATECNT_COUNT t) ∧
      tslRuns t v = true) ∧
    (k < (tb9 u : Int) + 2 → u.on (F.TSL_CHtCFG_LATEPOL t) = false → Ends (.drive t) s fun v =>
      (pinAt n v).queue = (pinAt n u).queue.filter (fun e => e.2 != tb9 u + 2) ++ [(lvl, tb9 u + 2)] ∧
      v.on (F.TSL_CHtSTAT_LATE t) = true ∧
      v.get (F.TSL_CHtLATECNT_COUNT t) = min (u.get (F.TSL_CHtLATECNT_COUNT t) + 1) 0xFFFF ∧ tslRuns t v = true) ∧
    (k < (tb9 u : Int) + 2 → u.on (F.TSL_CHtCFG_LATEPOL t) = true → Ends (.drive t) s fun v =>
      (pinAt n v).queue = [] ∧ tslRuns t v = false ∧ v.get (F.TSL_CHtSTAT_STOPCAUSE t) = 3)

/-- R255 to R267: once pending inheritance hops are made, TRY and TAKE of a free semaphore grant it and of one the client holds
answer AGAIN; TRY of a held one answers BUSY and changes nothing, TAKE waits unless the client waits already (INWAIT) or would close
a cycle (CYCLE); GIVE passes the semaphore to the waiter of highest effective priority, or frees it, and is NOTOWNER for any other
client; CANCEL ends a wait and puts CANCELLED in the grant queue, and is NOWAIT otherwise; a client outside the group's mask gets 0.
R262, R267: the first waiter has the highest effective priority, and of those the lowest client number; the effective priority of a
client is never below its base priority, nor below what it inherits. It is stated of the model's choices in assumption log 54 and
68. -/
def Obligations.Semaphores : Prop :=
  ((∀ (cid : Cid) (k : Fin 128) (s : State) (take : Bool), Admits cid false (if take then R.SEM_TAKE k.val else R.SEM_PORT k.val).addr s →
     let h := hopsAll s.begin
     let me : Party := ⟨cid.toNat, 0, 0⟩
     let x := h.sem k.val
     let got := h.setSem k.val { x with holders := me :: x.holders, recent := cid.toNat }
     let waits := semHop 0 k.val (h.setSem k.val { x with waiters := x.waiters ++ [me] })
     let log := fun (r : Nat) => semLog k.val cid.toNat 0 r h
     let cycle := leadsTo cid.toNat 64 ((x.holders.filter (fun h => h.unit == 0)).map (·.cid)) h
     let ends : Nat → State → Prop := fun r t =>
       exec (if take then .semTake cid k else .semTry cid k) s = .next (settle (t.answer (semWord k.val r t).toNat))
     let mine := natBit (semMask k.val h) cid.toNat = true ∧ (take = true → 1 ≤ cid.toNat ∧ cid.toNat ≤ 16)
     let has := x.holders.any (sameParty me)
     (natBit (semMask k.val h) cid.toNat = false →
       exec (if take then .semTake cid k else .semTry cid k) s = .next (settle (h.answer 0))) ∧
     (natBit (semMask k.val h) cid.toNat = true → take = true → (cid.toNat = 0 ∨ 16 < cid.toNat) → cid.toNat < 58 → ends 0 h) ∧
     (mine → has = true → ends 4 (log 4)) ∧
     (mine → has = false → 0 < semCount k.val h → ends 1 got) ∧
     (mine → has = false → semCount k.val h = 0 → take = false → ends 3 h) ∧
     (mine → has = false → semCount k.val h = 0 → take = true →
       ((semWaited me h).isSome = true ∨ (remoteWait cid.toNat h).isSome = true → ends 6 (log 6)) ∧
       (semWaited me h = none → remoteWait cid.toNat h = none → cycle = true → ends 8 (log 8)) ∧
       (semWaited me h = none → remoteWait cid.toNat h = none → cycle = false → ends 2 waits))) ∧
   (∀ (cid : Cid) (k : Fin 128) (s : State), Admits cid true (R.SEM_PORT k.val).addr s →
     let h := hopsAll s.begin
     let has := (h.sem k.val).holders.any (sameParty ⟨cid.toNat, 0, 0⟩)
     let ends : State → Prop := fun t => exec (.semGive cid k) s = .next (settle t)
     (natBit (semMask k.val h) cid.toNat = false → ends (semLog k.val cid.toNat 0 0 h)) ∧
     (natBit (semMask k.val h) cid.toNat = true → has = true → ends (semRelease k.val ⟨cid.toNat, 0, 0⟩ h)) ∧
     (natBit (semMask k.val h) cid.toNat = true → has = false → ends (semLog k.val cid.toNat 0 5 h))) ∧
   (∀ (cid : Cid) (k : Fin 128) (s : State), Admits cid true R.SEM_CANCEL.addr s → 1 ≤ cid.toNat → cid.toNat ≤ 16 →
     let h := hopsAll s.begin
     let x := h.sem k.val
     let waits := x.waiters.any (sameParty ⟨cid.toNat, 0, 0⟩)
     let ends : State → Prop := fun t => exec (.semCancel cid k) s = .next (settle t)
     (natBit (semMask k.val h) cid.toNat = false → ends (semLog k.val cid.toNat 0 0 h)) ∧
     (natBit (semMask k.val h) cid.toNat = true → waits = true → ends (semHop 0 k.val (grantEntry k.val cid.toNat 0 9
       (h.setSem k.val { x with waiters := x.waiters.filter (fun w => !sameParty ⟨cid.toNat, 0, 0⟩ w) })))) ∧
     (natBit (semMask k.val h) cid.toNat = true → waits = false → ends h)) ∧
   (∀ s : State, s.share.hops = [] → hopsAll s = s) ∧
   (∀ (k : Nat) (p : Party) (s : State),
     let rest := (s.sem k).holders.filter (fun h => !sameParty p h)
     let t := semRelease k p s
     ((s.sem k).waiters = [] → (t.sem k).holders = rest ∧ (t.sem k).waiters = []) ∧
     (∀ w, firstWaiter s (s.sem k).waiters = some w → (t.sem k).holders = w :: rest ∧ (t.sem k).recent = w.cid ∧
       (t.sem k).waiters = (s.sem k).waiters.filter (fun v => !sameParty w v)) ∧
     (∀ j, j ≠ k → t.sem j = s.sem j))) ∧
  ((∀ (ws : List Party) (w : Party) (s : State), firstWaiter s ws = some w →
     w ∈ ws ∧ ∀ v ∈ ws, partyPri s v < partyPri s w ∨ (partyPri s v = partyPri s w ∧ w.cid ≤ v.cid)) ∧
   (∀ (ws : List Party) (s : State), firstWaiter s ws = none ↔ ws = []) ∧
   (∀ (nhop c : Nat) (s : State), epri c (refreshEpri nhop c s) = max (basePri c s) (inherited c s)))

/-- R264, R265, R267, R285, R286: CID 1 reclaims what a client waits for and holds; a read of the grant queue takes its oldest
entry, and an empty queue answers 0; an inheritance hop refreshes the holders of the semaphore it was asked for; a ledger out of
balance for 1600 TB10 ticks is recorded, its INDEX once, and raises event 0x01, and one that is not changes nothing. It is stated of
the model's choices in assumption log 4 and 72. -/
def Obligations.GrantsReclaimAndLedgers : Prop :=
  (∀ (cid target : Cid) (s : State), Admits cid true R.SEM_RECLAIM.addr s →
    (cid.toNat = 1 → remoteWait target.toNat s = none → (∀ e ∈ s.share.rholds, e.1 ≠ target.toNat) →
      exec (.semReclaim cid target) s = .next (settle (semReclaimParty false ⟨target.toNat, 0, 0⟩ (hopsAll s.begin)))) ∧
    (cid.toNat ≠ 1 → exec (.semReclaim cid target) s = .next (settle
      ((busErr { cid := cid.toNat } true R.SEM_RECLAIM.addr .deny s.begin).answerRefused Cause.deny.code)))) ∧
  (∀ (p : Party) (s : State), semWaited p s = none → semsHeld p s = [] → semReclaimParty false p s = s) ∧
  (∀ (cid : Cid) (s : State), Admits cid false R.SEM_GRANT.addr s → s.share.grants = [] →
    exec (.semGrantRead cid) s = .next (settle (s.begin.answer 0))) ∧
  (∀ (cid : Cid) (g : Grant) (gs : List Grant) (s : State), Admits cid false R.SEM_GRANT.addr s → s.share.grants = g :: gs →
    exec (.semGrantRead cid) s = .next (settle (({ s.begin with share := { s.share with grants := gs } } : State).answer
      ((g.sem + 256 * g.cid + 16384 * g.unit + 0x1000000 * g.res + 0x40000000 * min 1 gs.length + 0x80000000) % 2 ^ 32)))) ∧
  (∀ (g : Fin 8) (h : Nat × Nat) (s : State), s.share.hops.find? (fun h => h.1 / 16 == g.val) = some h →
    exec (.inheritanceHop g) s = .next (semHop h.2 h.1 { s.begin with share := { s.share with hops := s.share.hops.erase h } })) ∧
  (∀ (g : Fin 8) (s : State), (∀ h ∈ s.share.hops, h.1 / 16 ≠ g.val) → exec (.inheritanceHop g) s = .next s.begin) ∧
  (∀ (which index : Nat) (e : Nat × Nat × Nat) (s : State), s.share.ledgers.find? (fun e => e.1 == which && e.2.1 == index) = some e →
    e.2.2 + 1600 ≤ s.tb.cnt.get 10 → ledgerOff which index s = true →
    let u : State := { s.begin with share := { s.share with ledgers := s.share.ledgers.erase e } }
    exec (.ledgerFail which index) s =
      .next ((((if s.get F.MBX_LEDGER_FAIL = 0 then u.set F.MBX_LEDGER_INDEX index else u).setBit F.MBX_LEDGER_FAIL which true).raise
        0x01).faultEval)) ∧
  (∀ (which index : Nat) (s : State), (∀ e ∈ s.share.ledgers, e.1 = which → e.2.1 = index →
      s.tb.cnt.get 10 < e.2.2 + 1600 ∨ ledgerOff which index s = false) →
    exec (.ledgerFail which index) s = .next s.begin)

/-- R271 to R276: a POST by a writer to an empty mailbox leaves the doorbell FULL with the data and the writer, and raises 0x40 + m;
with a handle the buffer passes into transit first, and where the pool refuses it the POST is denied; a POST to a full one is
refused with BUSY and sets OVR; the reader's ACK empties it, gives it the handle, and where ACKEV is set marks it and raises 0x33;
an ACK of an empty one, or an operation by another client, has no effect. R278 to R283: ALLOC gives the lowest free buffer, and none
while 32 or fewer are free; FREE returns a chain to the pool with new generations, GIVE hands it over, LINK joins two or unlinks,
RECLAIM by CID 1 frees all a client holds; an operation whose check fails is logged, and changes no buffer. -/
def Obligations.MailboxesAndBuffers : Prop :=
  (∀ (cid : Cid) (m : Fin 32) (s : State), (accessCheck { cid := cid.toNat } true (0x40007D00 + 16 * m.val) 4 s).toOption = some 11 → s.chn.done = [] →
     let served := bellServed cid.toNat s.begin
     let refused : Cause → State → Result := fun c t =>
       .next (settle ((busErr { cid := cid.toNat } true (0x40007D00 + 16 * m.val) c t).answerRefused c.code))
     (∀ data : BitVec 16, mbxWriter m.val cid.toNat s = true → bellFull m.val s = false →
       exec (.mailboxPost cid m data false) s = .next (settle ((served.setBell m.val
         (BitVec.ofNat 32 (data.toNat + 65536 * cid.toNat + 0x80000000))).raise (0x40 + m.val)))) ∧
     (∀ data : BitVec 16, mbxWriter m.val cid.toNat s = true → bellFull m.val s = false → cid.toNat < 58 ∨ 60 < cid.toNat →
       let chain := chain (data.toNat % 512) s
       (∀ c, moveCheck cid.toNat data.toNat none s = some c →
         exec (.mailboxPost cid m data true) s = refused .deny (poolRefuse cid.toNat data.toNat c served)) ∧
       (moveCheck cid.toNat data.toNat none s = none → exec (.mailboxPost cid m data true) s = .next (settle
         (((moveAll (fun b => { b with st := .transit, owner := m.val }) chain served).setBell m.val
           (BitVec.ofNat 32 (data.toNat + 65536 * cid.toNat + 0x20000000 + 0x80000000))).raise (0x40 + m.val))))) ∧
     (∀ data : BitVec 16, mbxWriter m.val cid.toNat s = true → bellFull m.val s = false → 58 ≤ cid.toNat → cid.toNat ≤ 60 →
       exec (.mailboxPost cid m data true) s = refused .deny served) ∧
     (∀ (data : BitVec 16) (h : Bool), mbxWriter m.val cid.toNat s = true → bellFull m.val s = true →
       exec (.mailboxPost cid m data h) s = refused .busy (served.setBell m.val (s.bell m.val ||| 0x40000000#32))) ∧
     (mbxReader m.val cid.toNat s = true → bellFull m.val s = true →
       let given := if (s.bell m.val).getLsbD 29 then poolDeliver ((s.bell m.val).toNat % 65536) (s.get (F.MBX_CFG_READER m.val)) served
         else served
       let u := given.setBell m.val (s.bell m.val &&& 0x1FFFFFFF#32)
       exec (.mailboxAck cid m) s =
         .next (settle (if s.on (F.MBX_CFG_ACKEV m.val) then (u.setBit F.MBX_ACKPEND_PEND m.val true).raise 0x33 else u))) ∧
     (mbxReader m.val cid.toNat s = true → bellFull m.val s = false → exec (.mailboxAck cid m) s = .next (settle served)) ∧
     (mbxReader m.val cid.toNat s = false → mbxWriter m.val cid.toNat s = true → exec (.mailboxAck cid m) s = .next (settle served)) ∧
     (∀ (data : BitVec 16) (h : Bool), mbxWriter m.val cid.toNat s = false → mbxReader m.val cid.toNat s = true →
       exec (.mailboxPost cid m data h) s = .next (settle served))) ∧
  ((∀ (cid : Cid) (i : Nat) (s : State), Admits cid false R.POOL_ALLOC.addr s → 32 < freeCount s → lowestFree s = some i →
     let u := s.begin.setBuf i { s.buf i with st := .owned, owner := cid.toNat, next := none }
     exec (.alloc cid) s = .next (settle ((poolLevels (freeCount s) u).answer
       (BitVec.ofNat 32 (handleOf i u + 0x80000000)).toNat))) ∧
   (∀ (cid : Cid) (s : State), Admits cid false R.POOL_ALLOC.addr s → freeCount s ≤ 32 →
     exec (.alloc cid) s = .next (settle (s.begin.answer 0x10000))) ∧
   (∀ (cid : Cid) (h : BitVec 16) (s : State), Admits cid true R.POOL_FREE.addr s →
     (moveCheck cid.toNat h.toNat none s = none → exec (.poolFree cid h) s =
       .next (settle (moveAll freed (chain (h.toNat % 512) s) s.begin))) ∧
     (∀ c, moveCheck cid.toNat h.toNat none s = some c → exec (.poolFree cid h) s =
       .next (settle (poolRefuse cid.toNat h.toNat c s.begin)))) ∧
   (∀ (cid target : Cid) (h : BitVec 16) (s : State), Admits cid true R.POOL_GIVE.addr s →
     (moveCheck cid.toNat h.toNat (some target.toNat) s = none → exec (.poolGive cid h target) s = .next (settle
       (moveAll (fun b => { b with st := .owned, owner := target.toNat }) (chain (h.toNat % 512) s) s.begin))) ∧
     (∀ c, moveCheck cid.toNat h.toNat (some target.toNat) s = some c → exec (.poolGive cid h target) s = .next (settle
       (poolRefuse cid.toNat h.toNat c s.begin)))) ∧
   (∀ (cid : Cid) (h n : BitVec 16) (s : State), Admits cid true R.POOL_LINK.addr s →
     let i := h.toNat % 512
     let j := n.toNat % 512
     let ends : State → Prop := fun t => exec (.poolLink cid h n) s = .next (settle t)
     let joins := (s.buf i).next = none ∧ predOf j s = none ∧ (chain j s).contains i = false ∧
       predCount 64 i s + 1 + (chain j s).length ≤ 64
     (∀ c, handleCheck cid.toNat h.toNat s = some c → ends (poolRefuse cid.toNat h.toNat c s.begin)) ∧
     (handleCheck cid.toNat h.toNat s = none →
       (∀ c, handleCheck cid.toNat n.toNat s = some c → ends (poolRefuse cid.toNat n.toNat c s.begin)) ∧
       (handleCheck cid.toNat n.toNat s = none →
         (h = n → ends (s.begin.setBuf i { s.buf i with next := none })) ∧
         (h ≠ n → joins → ends (s.begin.setBuf i { s.buf i with next := some j })) ∧
         (h ≠ n → ¬joins → ends (poolRefuse cid.toNat h.toNat 4 s.begin))))) ∧
   (∀ (cid target : Cid) (s : State), Admits cid true R.POOL_RECLAIM.addr s →
     (cid.toNat = 1 → exec (.poolReclaim cid target) s = .next (settle (moveAll freed ((s.share.bufs.filter (fun e =>
       (decide (e.2.st = .owned) || decide (e.2.st = .reserved)) && e.2.owner == target.toNat)).map (·.1)) s.begin))) ∧
     (cid.toNat ≠ 1 → exec (.poolReclaim cid target) s = .next (settle
       ((busErr { cid := cid.toNat } true R.POOL_RECLAIM.addr .deny s.begin).answerRefused Cause.deny.code)))) ∧
   (∀ (cid h c i : Nat) (s : State), (poolRefuse cid h c s).buf i = s.buf i) ∧
   (∀ (l : List Nat) (i : Nat) (s : State), l.Nodup → (moveAll freed l s).buf i = if i ∈ l then freed (s.buf i) else s.buf i))

/-- R293, R296, R297, R306, R313, R314, R321: an enabled carrier starts, not before the target it waits for, and passes its zero and
its peak: the zero event moves the group's time line on by the period's length and takes the period in force anew; the peak event
raises its event and loads where LOAD says so. A trigger compare fires in its coarse tick, at its tap where its lines are fine and
one of the eight is left. R295, R300 to R304, R298, R309: at the local zero an armed leg takes its period's class and on-time from
the clamped request, and an ARMING one enters RUN unless it is barred, when it faults; at the local peak the values loaded since
come into use; the earliest scheduled edge is launched at its tap, or at its coarse tick while the delay line is not fine. It is
stated of the model's choices in assumption log 12, 13 and 33. -/
def Obligations.CarriersAndPeriods : Prop :=
  ((∀ (g : Fin 4) (s : State),
     let starts := s.on (F.PWM_GCTL_EN (gb g) (gi g)) = true ∧ s.on (F.PWM_GSTAT_RUN (gb g) (gi g)) = false ∧
       (∀ t ∈ (s.grp g).startAt, t < 256 * (s.tb.time + 1))
     (starts → exec (.carrierStart g) s = .next (zeroEvent g ((s.begin.set (F.PWM_GSTAT_RUN (gb g) (gi g)) 1).setGrp g
       { s.grp g with len := 0, zeroAt := 0, good := 0, bad := 0, startAt := none }))) ∧
     (¬starts → exec (.carrierStart g) s = .next s.begin)) ∧
   (∀ (g : Fin 4) (s : State), exec (.carrierZeroEvent g) s =
     .next (if s.on (F.PWM_GSTAT_RUN (gb g) (gi g)) then zeroEvent g s.begin else s.begin)) ∧
   (∀ (g : Fin 4) (s : State),
     let t := zeroEvent g s
     (t.grp g).zeroAt = (s.grp g).zeroAt + (s.grp g).len ∧ (t.grp g).perT = perTaps g (t.grp g).perAct t ∧
     t.get (F.PWM_GSTAT_HALF (gb g) (gi g)) = 0 ∧ (t.grp g).upDown = !s.on (F.PWM_GCTL_MODE (gb g) (gi g)) ∧
     (s.on (F.PWM_GCTL_CLOCK (gb g) (gi g)) = false → (t.grp g).len = (t.grp g).perT) ∧
     (∀ h : Fin 4, h ≠ g → t.grp h = s.grp h) ∧ t.mem = s.mem ∧ t.yar = s.yar) ∧
   (∀ (g : Fin 4) (s : State),
     let passes := s.on (F.PWM_GSTAT_RUN (gb g) (gi g)) = true ∧ s.on (F.PWM_GSTAT_HALF (gb g) (gi g)) = false
     let u := (s.begin.set (F.PWM_GSTAT_HALF (gb g) (gi g)) 1).raise (groupEvent g 1)
     (passes → exec (.carrierPeakEvent g) s = .next (schedCarrier 1 g true (schedCarrier 0 g true
       (if natBit (u.get (F.PWM_GCTL_LOAD (gb g) (gi g))) 1 then shadowLoad g u else u)))) ∧
     (¬passes → exec (.carrierPeakEvent g) s = .next s.begin)) ∧
   (∀ (g : Fin 4) (k : Fin 8) (s : State),
     let tc := (s.grp g).tcAct.get k
     let fires := s.on (F.PWM_GSTAT_RUN (gb g) (gi g)) = true ∧ fieldOf 31 1 tc = 1 ∧ fieldOf 0 24 tc * prescaler g s < (s.grp g).perT
     let fine := s.bit F.TB_DLSTAT_FINE (2 + gb g)
     let tick := (s.grp g).zeroTbP + fieldOf 0 24 tc * prescaler g s / 256
     let left := ((trigLine (gb g) tick s).take 8).contains (g.val, k.val)
     let told := fun (u : State) => if fieldOf 30 1 tc = 1 then u.raise (groupEvent g 7) else u
     (¬fires → exec (.triggerCompareFire g k) s = .next s.begin) ∧
     (fires → fine = false → exec (.triggerCompareFire g k) s = .next (told (adcPwmTrigger (8 * g + k) true s.begin))) ∧
     (fires → fine = true → left = true → exec (.triggerCompareFire g k) s = .next (told (adcPwmTrigger (8 * g + k) false s.begin))) ∧
     (fires → fine = true → left = false →
       exec (.triggerCompareFire g k) s = .next (told (adcPwmTrigger (8 * g + k) true (s.begin.count (F.PWM_TCCOLL_COUNT (gb g)))))))) ∧
  ((∀ (l : Fin 16) (s : State),
     let g := legGroup l s
     let x := s.leg l
     let perT := (s.grp g).perT
     let pol := s.get (F.PWM_LnCFG_POLICY (lb l) (li l))
     let req : Int := requestTaps x.act (prescaler g s) perT
     let d := if pol = 2 then req + s.getInt (F.PWM_LnACC_ACC (lb l) (li l)) else req
     let c := classify d perT x.act.dtr x.act.dtf (x.act.minpw * 256) pol
     (legState l s ≠ 1 → legState l s ≠ 2 → exec (.localZero l) s = .next s.begin) ∧
     (legState l s = 1 → legBarred l s = true → exec (.localZero l) s = .next (legFault l 6 0 s.begin)) ∧
     (legState l s = 2 ∨ (legState l s = 1 ∧ legBarred l s = false) →
       Ends (.localZero l) s fun t =>
         (t.leg l).t0 = (s.grp g).zeroAt + legPhase l perT s ∧ (t.leg l).perT = perT ∧ (t.leg l).cls = c.1 ∧
         (t.leg l).da = c.2.2.toNat ∧ (t.leg l).loaded = false ∧ (t.leg l).dtr = x.act.dtr ∧ (t.leg l).dtf = x.act.dtf ∧
         legState l t = 2 ∧ (∀ k : Fin 16, k ≠ l → t.leg k = s.leg k) ∧ t.mem = s.mem ∧ t.yar = s.yar)) ∧
   (∀ (de : Int) (perT dtr dtf minT pol : Nat), 0 < perT →
     (de ≤ 0 → classify de perT dtr dtf minT pol = (LegClass.fullOff, 0, 0)) ∧
     ((perT : Int) ≤ de → classify de perT dtr dtf minT pol = (LegClass.fullOn, 0, (perT : Int))) ∧
     (0 < de → de < perT → de < (minT + dtr : Nat) → classify de perT dtr dtf minT pol =
       if pol = 1 then (LegClass.stretched, 1, ((minT + dtr : Nat) : Int)) else (LegClass.fullOff, 1, 0)) ∧
     (0 < de → de < perT → (minT + dtr : Nat) ≤ de → perT < de + (minT + dtf : Nat) → classify de perT dtr dtf minT pol =
       if pol = 1 then (LegClass.stretched, 2, (perT : Int) - minT - dtf) else (LegClass.fullOn, 2, (perT : Int))) ∧
     (0 < de → 0 < minT → (minT + dtr : Nat) ≤ de → de + (minT + dtf : Nat) ≤ perT → classify de perT dtr dtf minT pol = (LegClass.normal, 0, de))) ∧
   (∀ (l : Fin 16) (s : State),
     let x := s.leg l
     let y : Leg := { x with loaded := false, dtr := x.act.dtr, dtf := x.act.dtf, minT := x.act.minpw * 256 }
     (legState l s ≠ 2 ∨ x.upDown = false ∨ x.loaded = false → exec (.localPeak l) s = .next s.begin) ∧
     (legState l s = 2 → x.upDown = true → x.loaded = true → x.cls = .fullOff ∨ x.cls = .fullOn →
       exec (.localPeak l) s = .next (s.begin.setLeg l y)) ∧
     (legState l s = 2 → x.upDown = true → x.loaded = true → x.cls = .stretched ∨ x.cls = .normal →
       Ends (.localPeak l) s fun t =>
         (t.leg l).loaded = false ∧ (t.leg l).dtr = y.dtr ∧ (t.leg l).dtf = y.dtf ∧ (t.leg l).minT = y.minT ∧ (t.leg l).q = false ∧
         (t.leg l).t0 = x.t0 ∧ (t.leg l).perT = x.perT ∧ (t.leg l).cls = x.cls ∧
         (∀ k : Fin 16, k ≠ l → t.leg k = s.leg k) ∧ t.pwm.grp = s.pwm.grp ∧ t.mem = s.mem ∧ t.yar = s.yar)) ∧
   (∀ (l : Fin 16) (s : State), (s.leg l).edges = [] → exec (.outputEdge l) s = .next s.begin) ∧
   (∀ (l : Fin 16) (e : Edge) (rest : List Edge) (s : State), (s.leg l).edges = e :: rest →
     let at' := if legFine l s then e.at_ else e.at_ / 256 * 256
     let v := if e.on then some at' else none
     let u := s.begin.setLeg l (match e.out with
       | .hs => { s.leg l with edges := rest, hs := v }
       | .ls => { s.leg l with edges := rest, ls := v })
     exec (.outputEdge l) s = .next (if e.on then blankOpen l e.out u else u)) ∧
   (∀ (v : Bool) (t : Nat) (x : Leg), ∀ e ∈ (planChange v t x).1.edges, e.at_ ≤ t ∨ e.on = false ∨
     t + (if v then x.dtr else x.dtf) ≤ e.at_))

/-- R306, R307, R310 to R312, R315, R318: a COMMIT marks the shadow values of the legs it names, and the group's, as they stand; ARM
with every check passed arms the leg, and the first failing check is its ARMERR; DISARM takes it to OFF unless a fault input's latch
holds it; CLRFLT takes it from FAULT to OFF when no routed input is active; its configuration is written only in OFF and clears ACC.
Other clients than the leg's are refused with DENY, but CID 1 may always disarm. R309, R315, R316, R318: an active fault input takes
every leg that is routed to it to FAULT at high impedance, whatever its state, and touches no other leg; a leg in FAULT keeps its
first cause. A pulse of 10 ns always acts, one under 3 ns never, and between them a free value decides; a pad that does not carry
the input does not act. It is stated of the model's choices in assumption log 9, 14, 33 and 66. -/
def Obligations.LegCommandsAndFaults : Prop :=
  ((∀ (cid : Cid) (g : Fin 4) (v : Word) (s : State), Admits cid true (R.PWM_GCOMMIT (g.val / 2) (g.val % 2)).addr s →
     exec (.gcommit cid g v) s = .next (settle (commitBy cid.toNat g s.begin))) ∧
   (∀ (cid : Nat) (g : Fin 4) (s : State),
     let t := commitBy cid g s
     (∀ l : Fin 16, t.leg l = if legGroup l s = g.val ∧ commitNames cid l s = true then { s.leg l with pend := some (shadowSet l s) } else s.leg l) ∧
     t.grp g = { s.grp g with pend := some (groupShadow g s) } ∧ (∀ h : Fin 4, h ≠ g → t.grp h = s.grp h) ∧
     (cidCore cid = none → t.sched = s.sched) ∧ t.mem = s.mem ∧ t.yar = s.yar) ∧
   (∀ (cid : Cid) (l : Fin 16) (s : State), Admits cid true (R.PWM_LnCTL (l.val / 8) (l.val % 8)).addr s →
     let err := s.begin.set (F.PWM_LnSTAT_ARMERR (lb l) (li l)) (armError l s)
     let active := (List.range 16).any fun i => s.bit (F.PWM_LnFMASK_MASK (lb l) (li l)) i && fltActive i s
     let held := legState l s = 3 ∧ s.get (F.PWM_LnSTAT_CAUSE (lb l) (li l)) ≤ 2
     let off := (legHiZ l s.begin).set (F.PWM_LnSTAT_STATE (lb l) (li l)) 0
     let denied : Result := .next (settle
       ((busErr { cid := cid.toNat } true (R.PWM_LnCTL (l.val / 8) (l.val % 8)).addr .deny s.begin).answerRefused Cause.deny.code))
     (legRight cid.toNat l s = true →
       (armError l s = 0 → exec (.arm cid l) s = .next (settle (missRelease (legGroup l s)
         ((err.set (F.PWM_LnSTAT_STATE (lb l) (li l)) 1).set (F.PWM_LnSTAT_CAUSE (lb l) (li l)) 0)))) ∧
       (armError l s ≠ 0 → exec (.arm cid l) s = .next (settle err)) ∧
       (legState l s ≠ 3 → exec (.clrflt cid l) s = .next (settle s.begin)) ∧
       (legState l s = 3 → active = false →
         exec (.clrflt cid l) s = .next (settle (s.begin.set (F.PWM_LnSTAT_STATE (lb l) (li l)) 0))) ∧
       (legState l s = 3 → active = true →
         exec (.clrflt cid l) s = .next (settle (s.begin.set (F.PWM_LnSTAT_ARMERR (lb l) (li l)) 4)))) ∧
     (legRight cid.toNat l s = true ∨ cid.toNat = 1 →
       (held → exec (.disarm cid l) s = .next (settle s.begin)) ∧ (¬held → exec (.disarm cid l) s = .next (settle off))) ∧
     (legRight cid.toNat l s = false → exec (.arm cid l) s = denied ∧ exec (.clrflt cid l) s = denied ∧
       (cid.toNat ≠ 1 → exec (.disarm cid l) s = denied))) ∧
   (∀ (g : Nat) (s : State), natBit s.pol.missGrp g = false → missRelease g s = s) ∧
   (∀ (cid : Cid) (l : Fin 16) (v : Word) (s : State), Admits cid true (R.PWM_LnCFG (l.val / 8) (l.val % 8)).addr s →
     let refused : Cause → Result := fun c => .next (settle
       ((busErr { cid := cid.toNat } true (R.PWM_LnCFG (l.val / 8) (l.val % 8)).addr c s.begin).answerRefused c.code))
     (legRight cid.toNat l s = true → legState l s = 0 → exec (.legCfgWrite cid l v) s = .next (settle
       ((s.begin.setWord (R.PWM_LnCFG (lb l) (li l)) (v &&& 0x77#32)).setWord (R.PWM_LnACC (lb l) (li l)) 0#32))) ∧
     (legRight cid.toNat l s = true → legState l s ≠ 0 → exec (.legCfgWrite cid l v) s = refused .busy) ∧
     (legRight cid.toNat l s = false → exec (.legCfgWrite cid l v) s = refused .deny))) ∧
  ((∀ (j : Fin 8) (s : State),
     let live := s.get (F.PIN_CFG_FUNC (80 + j.val)) = 1 ∧ s.on (F.PIN_CFG_TRANS (80 + j.val)) = false
     let low : State := { s.begin with pwm := { s.pwm with flt := vupd s.pwm.flt j (fun _ => s.bit F.PWM_FLTPOL_POL j.val) } }
     (live → exec (.faultInput j none) s = .next (faultInput j.val low)) ∧
     (¬live → exec (.faultInput j none) s = .next low) ∧
     (live → ∀ ns, 10 ≤ ns → exec (.faultInput j (some ns)) s = .next (faultInput j.val s.begin)) ∧
     (live → ∀ ns, 3 ≤ ns → ns < 10 → exec (.faultInput j (some ns)) s =
       .next (if s.begin.draw.1 % 2 = 1 then faultInput j.val s.begin.draw.2 else s.begin.draw.2)) ∧
     (∀ ns, ns < 3 → exec (.faultInput j (some ns)) s = .next s.begin) ∧
     (¬live → ∀ ns, exec (.faultInput j (some ns)) s = .next s.begin)) ∧
   (∀ (j : Fin 8) (s : State), exec (.faultInputInactive j) s =
     .next { s.begin with pwm := { s.pwm with flt := vupd s.pwm.flt j (fun _ => !s.bit F.PWM_FLTPOL_POL j.val) } }) ∧
   (∀ (j : Fin 16) (l : Fin 16) (s : State),
     let t := faultInput j.val s
     let routed := s.bit (F.PWM_LnFMASK_MASK (lb l) (li l)) j.val = true ∧ legState l s ≠ 3
     (routed → legState l t = 3 ∧ t.get (F.PWM_LnSTAT_CAUSE (lb l) (li l)) = (if j.val < 8 then 1 else 2) ∧
       t.get (F.PWM_LnSTAT_SRC (lb l) (li l)) = j.val ∧ (t.leg l).hiZ = true ∧ (t.leg l).edges = []) ∧
     (¬routed → t.leg l = s.leg l ∧ legState l t = legState l s) ∧
     t.mem = s.mem ∧ t.pwm.grp = s.pwm.grp ∧ t.yar = s.yar))

/-- R325 to R333: enabling a converter awaits its first entry and starts its timer, disabling drops both; a trigger of the awaited
kind is taken, the timer's at its tick; at the sampling instant of a ready converter with its trigger the code of the channel is
taken; the end of the conversion puts value, sequence number, flags and stamp in the result port; a read of word 0 latches the
others. R334 to R338, R467: an enabled comparator is tripped while its input is beyond its threshold; a trip outside a blanking
window faults the legs routed to it and raises its event; its release and the end of a window; a temperature measurement takes TEMP
and the shutdown flag, and is the COLD condition at −50 °C or below; a supply monitor's flags. It is stated of the model's choices
in assumption log 34 and 85. -/
def Obligations.Sensing : Prop :=
  ((∀ (cid : Cid) (c : Fin 4) (v : Word) (s : State), Admits cid true (R.ADC_cSEQCTL c.val).addr s →
     let u := s.begin.set (F.ADC_cSEQCTL_LOOP c.val) (fieldOf 1 1 v)
     let bad := (adcEntries c.val u).any (fun e => decide (40 ≤ u.get (F.ADC_cENTe_CH c.val e)))
     let on := (u.set (F.ADC_cSEQCTL_EN c.val) 1).setConv c.val
       { s.conv c.val with want := some 0, trig := none, timerAt := timerNext c.val (s.tb.cnt.get 3) s }
     let off := (u.set (F.ADC_cSEQCTL_EN c.val) 0).setConv c.val { s.conv c.val with want := none, trig := none, timerAt := none }
     let ends : State → Result := fun t => .next (settle (adcWait c.val (if (s.conv c.val).cur.isSome then t else t.set (F.ADC_cSTAT_PTR c.val) 0)))
     let was := s.on (F.ADC_cSEQCTL_EN c.val)
     (natBit v.toNat 0 = true → was = false → bad = false → exec (.adcEnable cid c v) s = ends on) ∧
     (natBit v.toNat 0 = true → was = false → bad = true → exec (.adcEnable cid c v) s = .next (settle (u.set (F.ADC_cSTAT_CFGERR c.val) 1))) ∧
     (natBit v.toNat 0 = true → was = true → exec (.adcEnable cid c v) s = .next (settle u)) ∧
     (natBit v.toNat 0 = false → was = true → exec (.adcDisable cid c v) s = ends off) ∧
     (natBit v.toNat 0 = false → was = false → exec (.adcDisable cid c v) s = .next (settle u))) ∧
   (∀ (c : Fin 4) (s : State),
     let awaits := fun (kind : Nat) => (adcAwaits c.val s).any fun e => s.get (F.ADC_cENTe_TKIND c.val e) == kind
     (∀ t, (s.conv c.val).timerAt = some t → t ≤ s.tb.cnt.get 3 → s.on (F.ADC_cSEQCTL_EN c.val) = true →
       let u := s.begin.setConv c.val { s.conv c.val with timerAt := timerNext c.val t s }
       exec (.adcTimerFire c) s = .next (if awaits 2 then adcTake c.val false u else u)) ∧
     (((s.conv c.val).timerAt.all fun t => decide (s.tb.cnt.get 3 < t)) = true ∨ s.on (F.ADC_cSEQCTL_EN c.val) = false →
       exec (.adcTimerFire c) s = .next s.begin) ∧
     (∀ (cid : Cid) (v : Word), Admits cid true (R.ADC_cSOFT c.val).addr s →
       exec (.adcSoft cid c v) s = .next (settle (if awaits 3 then adcTake c.val false s.begin else s.begin))) ∧
     (∀ coarse, (s.conv c.val).trig = none → adcTake c.val coarse s = adcWait c.val (s.setConv c.val
       { s.conv c.val with trig := some { coarse := coarse, late := !adcReady c.val s } })) ∧
     (∀ coarse, (s.conv c.val).trig.isSome = true → adcTake c.val coarse s = s)) ∧
   (∀ (c : Fin 4) (v : Analog) (s : State),
     (∀ e, adcAwaits c.val s = some e → adcReady c.val s = true →
       s.get (F.ADC_cENTe_TKIND c.val e) = 0 ∨ (s.conv c.val).trig.isSome = true →
       let tr := (s.conv c.val).trig.getD { coarse := false, late := false }
       let r := channelVolt (s.get (F.ADC_cENTe_CH c.val e)) v s
       let code := adcCode r.1 v.vdda
       let smp : Sample := { entry := e, code := code, ts := stampTime s, late := tr.late, clip := code == 0 || code == 4095 || r.2, coarse := tr.coarse }
       let u := adcWait c.val ((((setVolts v s.begin).setConv c.val
         { s.conv c.val with cur := some smp, trig := none, want := none }).set (F.ADC_cSTAT_PTR c.val) e).set (F.ADC_cSTAT_BUSY c.val) 1)
       exec (.samplingInstant c v) s = .next (if tr.late then (u.set (F.ADC_cSTAT_LATE c.val) 1).raise (0xB8 + c.val) else u)) ∧
     (adcAwaits c.val s = none ∨ adcReady c.val s = false → exec (.samplingInstant c v) s = .next s.begin) ∧
     (∀ e, adcAwaits c.val s = some e → s.get (F.ADC_cENTe_TKIND c.val e) ≠ 0 → (s.conv c.val).trig = none →
       exec (.samplingInstant c v) s = .next s.begin)) ∧
   (∀ (c : Fin 4) (s : State), (s.conv c.val).cur = none → exec (.conversionEnd c) s = .next s.begin) ∧
   (∀ (c : Fin 4) (m : Sample) (s : State), (s.conv c.val).cur = some m → m.entry < 16 →
     Ends (.conversionEnd c) s fun t =>
       t.get (F.ADC_cRESAe_VALUE c.val m.entry) = adcValue (s.on (F.ADC_cENTe_FMT c.val m.entry)) m.code % 65536 ∧
       t.get (F.ADC_cRESAe_STATUS c.val m.entry) = (s.get (F.ADC_cRESAe_STATUS c.val m.entry) + 1) % 256 +
         (if m.late then 256 else 0) + (if m.clip then 512 else 0) + (if m.coarse then 1024 else 0) ∧
       portTs (16 * c.val + m.entry) t = BitVec.ofNat 32 m.ts ∧ (t.conv c.val).cur = none ∧ (t.conv c.val).endTick = some (s.tb.cnt.get 3) ∧ t.get (F.ADC_cSTAT_BUSY c.val) = 0 ∧
       t.mem = s.mem ∧ t.yar = s.yar) ∧
   (∀ (k : Fin 2) (c : Fin 4) (e : Fin 16) (s : State),
     let kept := (portTs (16 * c.val + e.val) s, s.get (F.ADC_cRESAe_STATUS c.val e.val))
     let latch := smapPut (64 * k.val + (16 * c.val + e.val)) kept s.sense.latch
     exec (.resultPortRead k c e) s = .next
       (({ s.begin with sense := { s.sense with latch := latch } } : State).answer (s.get (F.ADC_cRESAe_VALUE c.val e.val)))) ∧
   (∀ (cid : Cid) (c : Fin 4) (e : Fin 16) (s : State), Admits cid false (R.ADC_cRESAe c.val e.val).addr s →
     let latch := smapPut (16 * c.val + e.val) (portTs (16 * c.val + e.val) s) s.sense.fabLatch
     exec (.resaRead cid c e) s = .next (settle
       (({ s.begin with sense := { s.sense with fabLatch := latch } } : State).answer (s.word (R.ADC_cRESAe c.val e.val)).toNat)))) ∧
  ((∀ (k : Fin 8) (v : Analog) (s : State), s.on (F.CMP_kCTL_EN k.val) = true → s.bit F.CMP_STAT_RAW k.val = false →
     let x := 1024 * (channelVolt (s.get (F.CMP_kCTL_CH k.val)) v s).1
     let d : Int := (s.get (F.CMP_kDAC_CODE k.val) * 16 * v.vdda : Nat)
     cmpTripped k.val v s = if s.on (F.CMP_kCTL_POL k.val) then decide (x < d) else decide (d < x)) ∧
   (∀ (k : Fin 8) (v : Analog) (s : State),
     let raw := (setVolts v s.begin).setBit F.CMP_STAT_RAW k.val true
     let low := (setVolts v s.begin).setBit F.CMP_STAT_RAW k.val false
     let shut := cmpBlanked k.val s
     let out := s.bit F.CMP_STAT_OUT k.val
     let trips := cmpTripped k.val v s = true ∧ s.bit F.CMP_STAT_RAW k.val = false
     let releases := cmpTripped k.val v s = false ∧ s.bit F.CMP_STAT_RAW k.val = true
     let fault := fun (u : State) => (faultInput (8 + k.val) (u.setBit F.CMP_STAT_OUT k.val true)).raise (0xC0 + k.val)
     (trips → shut = true ∨ out = true → exec (.comparatorTrip ⟨k, v⟩) s = .next raw) ∧
     (trips → shut = false → out = false → exec (.comparatorTrip ⟨k, v⟩) s = .next (fault raw)) ∧
     (¬trips → exec (.comparatorTrip ⟨k, v⟩) s = .next s.begin) ∧
     (releases → shut = true ∨ out = false → exec (.comparatorRelease ⟨k, v⟩) s = .next low) ∧
     (releases → shut = false → out = true →
       exec (.comparatorRelease ⟨k, v⟩) s = .next ((low.setBit F.CMP_STAT_OUT k.val false).raise (0xC8 + k.val))) ∧
     (¬releases → exec (.comparatorRelease ⟨k, v⟩) s = .next s.begin) ∧
     (∀ t, blankEnd k.val s = some t → t ≤ legTicks (s.get (F.CMP_kCTL_BLEG k.val)) s →
       (s.bit F.CMP_STAT_RAW k.val = true → out = false →
         exec (.blankingWindowClose k) s = .next (fault (setBlank k.val none s.begin))) ∧
       (s.bit F.CMP_STAT_RAW k.val = false ∨ out = true → exec (.blankingWindowClose k) s = .next (setBlank k.val none s.begin))) ∧
     (((blankEnd k.val s).all fun t => decide (legTicks (s.get (F.CMP_kCTL_BLEG k.val)) s < t)) = true →
       exec (.blankingWindowClose k) s = .next s.begin)) ∧
   (∀ (x : Int) (s : State), -200 < x → x ≤ 2047 → Ends (.temperatureMeasurement x) s fun t =>
     tempOf t = x ∧ (600 ≤ x → t.on F.ADC_TJ_TSHUT = true) ∧ (x < 560 → t.on F.ADC_TJ_TSHUT = false) ∧
     (560 ≤ x → x < 600 → t.on F.ADC_TJ_TSHUT = s.on F.ADC_TJ_TSHUT)) ∧
   (∀ (x : Int) (s : State), x ≤ -200 →
     exec (.temperatureMeasurement x) s = .next (tampDetect 5 (calEnvironment (thermUpdate (tjMeasure x s.begin))).faultEval)) ∧
   (∀ (j : Fin 3) (s : State),
     (s.bit F.ADC_SUPSTAT_LIVE j.val = false → exec (.supplyLow j) s =
       .next ((((s.begin.setBit F.ADC_SUPSTAT_LIVE j.val true).setBit F.ADC_SUPSTAT_STICKY j.val true).raise 0xBD).faultEval)) ∧
     (s.bit F.ADC_SUPSTAT_LIVE j.val = true → exec (.supplyLow j) s = .next s.begin) ∧
     exec (.supplyLiveFlagClear j) s = .next ((s.begin.setBit F.ADC_SUPSTAT_LIVE j.val false).faultEval)))

/-- R346 to R352, R355: in its turn a channel's DRIVE posts its level for the tick its cursor comes to, waits while the pin's two
entries are taken, and follows LATEPOL where the tick is late; SAMPLE shifts the level at that tick into SI and C once it is known;
SHIFT writes Z and N; COUNT adds, loads, stamps and measures. A word with a reserved bit, or a pin outside the window, is illegal
and stops the channel. R351 to R357, R360: in its turn a channel's FETCH and DEPOSIT move words, and stall on an empty or a full
FIFO; AWAIT ends at its condition's tick or at its timeout, and waits until then; BRANCH goes or falls through; SIGNAL raises the
channel's event, tries, gives, or stops the channel, and a refused access stops it. A word with a reserved bit, or a pin outside the
window, is illegal. R345, R351, R355, R357, R360: a channel takes a step only while it runs and in its turn, which comes after every
runnable channel that the engine visits before it; a word of no instruction stops it ILLEGAL, a refused or uncorrectable fetch stops
it too, and the instruction of another command is left alone. A channel that resumes takes up its cursor anew where RESYNC says so.
It is stated of the model's choices in assumption log 18, 42 and 70. -/
def Obligations.TeaselInstructions : Prop :=
  (∀ (t : Fin 24) (w : Word) (s u : State), TslFetches t w s u → tslTurn t s.begin = true →
     let pc := s.get (F.TSL_CHtPC_PC t) + 1
     let ends : State → Result := fun v => .next (settle v)
     let reg := fun (k : Nat) => if k = 0 then F.TSL_CHtSO t else if k = 1 then F.TSL_CHtSI t else if k = 2 then F.TSL_CHtS0 t else F.TSL_CHtS1 t
     let pin := tslPinOf t (fieldOf 25 3 w) u
     (fieldOf 28 4 w = 1 →
       (fieldOf 16 6 w ≠ 0 ∨ pin = none → exec (.drive t) s = ends (u.tslStops t 2)) ∧
       (∀ n, fieldOf 16 6 w = 0 → pin = some n →
         let k := tslTick t u + (if fieldOf 22 1 w = 1 then u.get (F.TSL_CHtS1 t) % 65536 else fieldOf 0 16 w : Nat)
         let lvl := if fieldOf 23 2 w = 0 then PinDrive.low else if fieldOf 23 2 w = 1 then .high else if fieldOf 23 2 w = 2 then .z
           else if u.get (F.TSL_CHtSO t) % 2 = 1 then .high else .low
         let full := 2 ≤ (pinAt n u).queue.length
         let v := putTick t k u
         let post := fun (k : Nat) (v : State) => setPin n { pinAt n u with queue := (pinAt n u).queue.filter (fun e => e.2 != k) ++ [(lvl, k)] } v
         (full → exec (.drive t) s = ends (s.begin.tslWaits t u)) ∧
         (¬full → (tb9 u : Int) + 2 ≤ k → exec (.drive t) s = ends ((post k.toNat v).tslAt t pc)) ∧
         (¬full → k < (tb9 u : Int) + 2 → u.on (F.TSL_CHtCFG_LATEPOL t) = true → exec (.drive t) s = ends (v.tslStops t 3)) ∧
         (¬full → k < (tb9 u : Int) + 2 → u.on (F.TSL_CHtCFG_LATEPOL t) = false → exec (.drive t) s =
           ends ((post (tb9 u + 2) ((v.set (F.TSL_CHtSTAT_LATE t) 1).count (F.TSL_CHtLATECNT_COUNT t))).tslAt t pc)))) ∧
     (fieldOf 28 4 w = 2 →
       (fieldOf 16 9 w ≠ 0 ∨ pin = none → exec (.sample t) s = ends (u.tslStops t 2)) ∧
       (∀ n, fieldOf 16 9 w = 0 → pin = some n →
         let k := tslTick t u + (fieldOf 0 16 w : Nat)
         let b := if levelAt n k u then 1 else 0
         let si := u.get (F.TSL_CHtSI t)
         (levelKnown k u = false → exec (.sample t) s = ends (s.begin.tslWaits t u)) ∧
         (levelKnown k u = true → exec (.sample t) s = ends ((tslSetC t (levelAt n k u) ((putTick t k u).set (F.TSL_CHtSI t)
           (if u.on (F.TSL_CHtCFG_SIDIR t) then si / 2 + b * 2 ^ 31 else si * 2 + b))).tslAt t pc)))) ∧
     (fieldOf 28 4 w = 3 →
       let a := BitVec.ofNat 32 (u.get (reg (fieldOf 24 2 w)))
       let r := if fieldOf 23 1 w = 0 then a >>> fieldOf 18 5 w else a <<< fieldOf 18 5 w
       (fieldOf 0 18 w = 0 → exec (.shift t) s = ends ((tslZn t r (u.set (reg (fieldOf 26 2 w)) r.toNat)).tslAt t pc)) ∧
       (fieldOf 0 18 w ≠ 0 → exec (.shift t) s = ends (u.tslStops t 2))) ∧
     (fieldOf 28 4 w = 7 →
       let f := if fieldOf 27 1 w = 1 then F.TSL_CHtS1 t else F.TSL_CHtS0 t
       let r := BitVec.ofNat 32 (u.get f)
       let imm : Word := (BitVec.ofNat 16 (fieldOf 0 16 w)).signExtend 32
       let tc := BitVec.ofNat 32 (u.get (F.TSL_CHtTC_TC t))
       let put : Word → Result := fun v => ends ((tslZn t v (u.set f v.toNat)).tslAt t pc)
       (fieldOf 16 8 w = 0 → (fieldOf 24 3 w = 0 → exec (.countAdd t) s = put (r + imm)) ∧ (fieldOf 24 3 w = 1 → exec (.countLoad t) s = put imm) ∧
         (fieldOf 24 3 w = 2 → exec (.countStamp t) s = put tc) ∧ (fieldOf 24 3 w = 3 → exec (.countDelta t) s = put (tc - r))) ∧
       (4 ≤ fieldOf 24 3 w → exec (.countAdd t) s = ends (u.tslStops t 2)) ∧
       (fieldOf 16 8 w ≠ 0 → fieldOf 24 3 w = 0 → exec (.countAdd t) s = ends (u.tslStops t 2)))) ∧
  (∀ (t : Fin 24) (w : Word) (s u : State), TslFetches t w s u → tslTurn t s.begin = true →
     let pc := s.get (F.TSL_CHtPC_PC t) + 1
     let ends : State → Result := fun v => .next (settle v)
     let illegal := ends (u.tslStops t 2)
     let stalls := ends (s.begin.tslWaits t ((u.set (F.TSL_CHtSTAT_STALL t) 1).set (F.TSL_CHtSTAT_STALLED t) 1))
     let waits := ends (s.begin.tslWaits t u)
     let x := u.ts t
     let dst := fieldOf 26 2 w
     let v := tslResume t u
     (fieldOf 28 4 w = 4 →
       (fieldOf 0 26 w ≠ 0 ∨ dst = 1 → exec (.fetch t) s = illegal) ∧
       (fieldOf 0 26 w = 0 → dst ≠ 1 → x.outq = [] → exec (.fetch t) s = stalls) ∧
       (∀ d rest, fieldOf 0 26 w = 0 → dst ≠ 1 → x.outq = d :: rest →
         exec (.fetch t) s = ends ((fifoKick t ((v.set (if dst = 0 then F.TSL_CHtSO t else if dst = 2 then F.TSL_CHtS0 t
           else F.TSL_CHtS1 t) d.toNat).setTs t { x with outq := rest })).tslAt t pc))) ∧
     (fieldOf 28 4 w = 5 →
       (fieldOf 0 26 w ≠ 0 → exec (.deposit t) s = illegal) ∧
       (fieldOf 0 26 w = 0 → 4 ≤ x.inq.length → exec (.deposit t) s = stalls) ∧
       (fieldOf 0 26 w = 0 → x.inq.length < 4 →
         exec (.deposit t) s = ends ((fifoKick t (v.setTs t { x with inq := x.inq ++ [BitVec.ofNat 32 (v.get
           (if dst = 0 then F.TSL_CHtSI t else if dst = 1 then F.TSL_CHtTC_TC t else if dst = 2 then F.TSL_CHtS0 t
             else F.TSL_CHtS1 t))] })).tslAt t pc))) ∧
     (fieldOf 28 4 w = 6 →
       let tc := tslTick t u
       let dead := tc + (fieldOf 0 16 w : Nat)
       let timed := fieldOf 0 16 w ≠ 0
       let cond := fieldOf 22 3 w
       (fieldOf 16 6 w ≠ 0 ∨ cond = 7 → exec (.awaitPin t) s = illegal) ∧
       (fieldOf 16 6 w = 0 → cond = 6 → exec (.awaitPin t) s = if dead ≤ tb9 u then ends ((putTick t dead u).tslAt t pc) else waits) ∧
       (fieldOf 16 6 w = 0 → cond = 5 →
         (∀ q, (timed → (tb9 u : Int) ≤ dead) → eventInput (fieldOf 25 3 w) u = some q →
           exec (.awaitPin t) s = ends ((tslSetC t true (putTick t (tb9 u) (setRoutePend q false u))).tslAt t pc)) ∧
         ((timed → (tb9 u : Int) ≤ dead) → eventInput (fieldOf 25 3 w) u = none → ¬(timed ∧ dead ≤ tb9 u) → exec (.awaitPin t) s = waits) ∧
         (timed → dead < tb9 u ∨ (dead = tb9 u ∧ eventInput (fieldOf 25 3 w) u = none) →
           exec (.awaitPin t) s = ends ((tslSetC t false (putTick t dead u)).tslAt t pc))) ∧
       (fieldOf 16 6 w = 0 → cond < 5 → tslPinOf t (fieldOf 25 3 w) u = none → exec (.awaitPin t) s = illegal) ∧
       (∀ n, fieldOf 16 6 w = 0 → cond < 5 → tslPinOf t (fieldOf 25 3 w) u = some n →
         let r := awaitPinTick n cond tc u
         let o := if r.2 then u.set (F.TSL_CHtSTAT_OVERRUN t) 1 else u
         (∀ k, r.1 = some k → ¬timed ∨ k ≤ dead → exec (.awaitPin t) s = ends ((tslSetC t true (putTick t k o)).tslAt t pc)) ∧
         (∀ k, r.1 = some k → timed → dead < k → exec (.awaitPin t) s = ends ((tslSetC t false (putTick t dead o)).tslAt t pc)) ∧
         (r.1 = none → timed → levelKnown dead o = true → exec (.awaitPin t) s = ends ((tslSetC t false (putTick t dead o)).tslAt t pc)) ∧
         (r.1 = none → ¬timed ∨ levelKnown dead o = false → exec (.awaitPin t) s = ends (s.begin.tslWaits t o)))) ∧
     (fieldOf 28 4 w = 8 →
       let fl := u.get (F.TSL_CHtSTAT_C t)
       let cond := fieldOf 24 4 w
       let pa := tslPinOf t (fieldOf 21 3 w) u
       let pb := tslPinOf t (fieldOf 18 3 w) u
       let go : Bool → Result := fun b => ends (u.tslAt t (if b then fieldOf 0 11 w else pc))
       let conds := [(0, true), (1, natBit fl 1), (2, !natBit fl 1), (3, natBit fl 2), (4, natBit fl 0), (5, !natBit fl 0),
         (10, x.outq.isEmpty), (11, decide (4 ≤ x.inq.length))]
       let formed := fieldOf 11 7 w = 0 ∧ (fieldOf 18 3 w = 0 ∨ cond = 8 ∨ cond = 9)
       (¬formed ∨ 12 ≤ cond → exec (.branchTsl t) s = illegal) ∧
       (formed → ∀ e ∈ conds, cond = e.1 → exec (.branchTsl t) s = go e.2) ∧
       (formed → 6 ≤ cond → cond ≤ 9 → pa = none ∨ pb = none → exec (.branchTsl t) s = illegal) ∧
       (∀ a b, formed → 6 ≤ cond → cond ≤ 9 → pa = some a → pb = some b →
         let la := levelAt a (tslTick t u) u
         let lb := levelAt b (tslTick t u) u
         exec (.branchTsl t) s = if levelKnown (tslTick t u) u
           then go (if cond = 6 then la else if cond = 7 then !la else if cond = 8 then la == lb else la != lb) else waits)) ∧
     (fieldOf 28 4 w = 9 →
       let a := 0x50005000 + 4 * fieldOf 0 7 w
       let ev := fieldOf 25 1 w
       let tried := fabric .other { cid := 26 + t } false a 4 0 u
       let given := fabric .other { cid := 26 + t } true a 4 0 u
       let formed := fieldOf 7 18 w = 0
       (formed → dst = 0 → ev = 0 → exec (.signalEvent t) s = ends ((u.raise (0x60 + t)).tslAt t pc)) ∧
       (formed → dst = 1 → ev = 0 →
         (∀ d, tried.1 = .ans (.ok d) → exec (.signalTry t) s = ends ((tslSetC t (d.toNat % 16 == 1) tried.2).tslAt t pc)) ∧
         (∀ c, tried.1 = .ans (.refused c) → exec (.signalTry t) s = ends (tried.2.tslStops t 4))) ∧
       (formed → dst = 2 → ev = 0 →
         (∀ d, given.1 = .ans (.ok d) → exec (.signalGive t) s = ends (given.2.tslAt t pc)) ∧
         (∀ c, given.1 = .ans (.refused c) → exec (.signalGive t) s = ends (given.2.tslStops t 4))) ∧
       (formed → dst = 3 → exec (.signalStop t) s = ends
         ((((if ev = 1 then u.raise (0x60 + t) else u).set (F.TSL_CHtSTAT_WAIT t) 0).set (F.TSL_CHtPC_PC t) pc).tslStops t 1)) ∧
       (¬formed ∨ (dst ≠ 3 ∧ ev ≠ 0) →
         (dst = 0 → exec (.signalEvent t) s = illegal) ∧ (dst = 1 → exec (.signalTry t) s = illegal) ∧
         (dst = 2 → exec (.signalGive t) s = illegal) ∧ (dst = 3 → exec (.signalStop t) s = illegal)))) ∧
  ((∀ e ∈ tslForms, ∀ (t : Fin 24) (s : State), tslRuns t s = false → exec (e.2 t) s = .next (settle s.begin)) ∧
   (∀ e ∈ tslForms, ∀ (t : Fin 24) (w : Word) (s u : State), TslFetches t w s u →
     (fieldOf 28 4 w = 0 ∨ 9 < fieldOf 28 4 w → tslTurn t s.begin = true → exec (e.2 t) s = .next (settle (u.tslStops t 2))) ∧
     (1 ≤ fieldOf 28 4 w → fieldOf 28 4 w ≤ 9 → e.1 w = false → exec (e.2 t) s = .next (settle s.begin)) ∧
     (tslTurn t s.begin = false → (∀ v, tslExec t w u ≠ .wait v) → exec (e.2 t) s = .next (settle s.begin))) ∧
   (∀ e ∈ tslForms, ∀ (t : Fin 24) (s : State), tslRuns t s = true → tslTurn t s.begin = true →
     let who : Who := { cid := 26 + t, fetch := true }
     let r := bankReady (tslAddr t s) s.begin
     (r.1 = false → exec (e.2 t) s = .next (settle ((busErr who false (tslAddr t s) .busy r.2).tslStops t 4))) ∧
     (∀ u, r.1 = true → ramReadWord who 1 (tslAddr t s) r.2 = (none, u) → exec (e.2 t) s = .next (settle (u.tslStops t 5)))) ∧
   (∀ (t : Fin 24) (s : State), tslTurn t s = true ↔ (
     ∀ u < 24, tslReady u s = true → (t.val + 24 - s.svc.tslNext) % 24 ≤ (u + 24 - s.svc.tslNext) % 24)) ∧
   (∀ (t : Fin 24) (s : State),
     let v := s.set (F.TSL_CHtSTAT_STALL t) 0
     (s.on (F.TSL_CHtSTAT_STALL t) = false → tslResume t s = s) ∧
     (s.on (F.TSL_CHtSTAT_STALL t) = true → tslResume t s = if s.on (F.TSL_CHtCFG_RESYNC t)
       then putTick t (max (tslTick t s) ((tb9 s + s.get (F.TSL_CHtCFG_LEAD t) : Nat) : Int)) v else v)))

/-- R348, R350, R356, R359, R360, R476: a start is refused with STARTERR where pins overlap, and otherwise sets RUN and the cursor,
and the channel stops at once while SAFE is latched; a stop write stops with cause 0; a write to a full out FIFO and a read of an
empty in FIFO are refused with BUSY; the earliest pin event that is due launches; an edge from outside is captured. It is stated of
the model's choices in assumption log 31 and 42. -/
def Obligations.TeaselChannels : Prop :=
  (∀ (cid : Cid) (t : Fin 24) (s : State), Admits cid true (R.TSL_CHtCTL t.val).addr s → cid.toNat ≤ 1 →
    let clash := 32 < tslBase t s + tslCount t s ∨ (List.range 24).any (fun u => u != t.val && tslRuns u s && tslOverlap t u s) = true
    (tslRuns t s = false → clash → exec (.channelStart cid t) s = .next (settle (s.begin.set (F.TSL_CHtSTAT_STARTERR t) 1))) ∧
    (tslRuns t s = false → ¬clash →
      let u := (((s.begin.set (F.TSL_CHtCTL_RUN t) 1).set (F.TSL_CHtSTAT_RUN t) 1).setBit F.TSL_RUNNING_RUN t true).set (F.TSL_CHtTC_TC t)
        (tb9 s + s.get (F.TSL_CHtCFG_LEAD t))
      exec (.channelStart cid t) s = .next (settle (if s.on F.LCS_FSTAT_SAFE then tslStop t 7 u else u))) ∧
    (tslRuns t s = true → exec (.channelStart cid t) s = .next (settle s.begin)) ∧
    (tslRuns t s = true → exec (.channelStopWrite cid t) s = .next (settle (tslStop t 0 s.begin))) ∧
    (tslRuns t s = false → exec (.channelStopWrite cid t) s = .next (settle s.begin))) ∧
  (∀ (cid : Cid) (t : Fin 24) (v : Word) (s : State),
    (accessCheck { cid := cid.toNat } true (0x42002000 + 0x20 * t.val) 4 s).toOption = some 14 → s.chn.done = [] →
    ((s.ts t).outq.length < 4 → exec (.fifoOutWrite cid t v) s = .next (settle (fifoKick t (s.begin.setTs t
      { s.ts t with outq := (s.ts t).outq ++ [v], outstOut := (s.ts t).outstOut - 1 })))) ∧
    (4 ≤ (s.ts t).outq.length → exec (.fifoOutWrite cid t v) s = .next (settle
      ((busErr { cid := cid.toNat } true (0x42002000 + 0x20 * t.val) .busy s.begin).answerRefused Cause.busy.code)))) ∧
  (∀ (cid : Cid) (t : Fin 24) (s : State),
    (accessCheck { cid := cid.toNat } false (0x42002004 + 0x20 * t.val) 4 s).toOption = some 14 → s.chn.done = [] →
    (∀ v rest, (s.ts t).inq = v :: rest → exec (.fifoInRead cid t) s = .next (settle ((fifoKick t (s.begin.setTs t
      { s.ts t with inq := rest, outstIn := (s.ts t).outstIn - 1 })).answer v.toNat))) ∧
    ((s.ts t).inq = [] → exec (.fifoInRead cid t) s = .next (settle
      ((busErr { cid := cid.toNat } false (0x42002004 + 0x20 * t.val) .busy s.begin).answerRefused Cause.busy.code)))) ∧
  (∀ (n : Fin 32) (s : State), (∀ e ∈ (pinAt n s).queue, tb9 s < e.2) → exec (.pinEventFire n) s = .next s.begin) ∧
  (∀ (n : Fin 32) (e : PinDrive × Nat) (s : State), e ∈ (pinAt n s).queue → e.2 ≤ tb9 s →
    (∀ f ∈ (pinAt n s).queue, f = e ∨ e.2 < f.2) →
    let u := setPin n { pinAt n s with drive := e.1, queue := (pinAt n s).queue.erase e } s.begin
    exec (.pinEventFire n) s = .next (if tpConnected n s then (match padLevel (32 + n) u with
      | some v => tpEdge n v u
      | none => u) else u)) ∧
  (∀ (n : Fin 32) (v : Bool) (s : State), tpConnected n s = true → s.bit F.TSL_PINLVL_LVL n = !v → Ends (.teaselPinEdge n v) s fun u =>
    u.bit F.TSL_PINLVL_LVL n = v ∧ (pinAt n u).edges = (tb9 s, v) :: (pinAt n s).edges ∧ u.mem = s.mem) ∧
  (∀ (n : Fin 32) (v : Bool) (s : State), tpConnected n s = false ∨ s.bit F.TSL_PINLVL_LVL n = v →
    exec (.teaselPinEdge n v) s = .next s.begin) ∧
  (∀ (t : Fin 24) (c : Nat) (s : State),
    let u := tslStop t c s
    tslRuns t u = false ∧ u.get (F.TSL_CHtSTAT_STOPCAUSE t) = c % 2 ^ (F.TSL_CHtSTAT_STOPCAUSE t).wid ∧
    (∀ n : Fin 32, tslBase t s ≤ n → n < tslBase t s + tslCount t s → (pinAt n u).queue = []))

/-- R362 to R366: a write of a UART's DATA by its owner, CID 0 or CID 1 joins its transmit FIFO, asserting DE in half duplex; from
others it is denied, and a full FIFO refuses it; a read takes the oldest byte received, or answers VALID = 0. A frame that arrives
in the format of the port, each bit the majority of its samples, joins the receive FIFO with its parity error, framing error and
break, which set their sticky copies (which frames are in error is DEDUCED, assumption log 81); a full FIFO discards it and sets
OVR; a port that is off, has no pad or drives DE without ECHO receives nothing, and the 9-bit address filter discards the frames of
others. A frame sent leaves the transmit FIFO in that format. R367 to R369, R371: the I²C controller runs the command at the front
of its FIFO and no other, and none while it is off; a NACK, or a missing pad, flushes it and stops; lost arbitration flushes it. As
target the port answers its own address, takes and gives one byte at a time, and reports the STOP; BUSY shows another controller's
START and STOP. R370, R426: a transaction at the head shows the clock's mode and the port's status, gives the host the oldest frame
that waits if it reads one, and takes the host's frame: with no space it is discarded as HOVF, with a bad CRC, form, source, class
or tag as HDISC; a request keeps a place for its response; then it goes on into the chain, or a broadcast to the head and its
subtrees. nSS rising in mid-byte sets ABORT and raises 0x7F. A unit that is not the strapped head, or has no pads for the port, does
nothing, and a strapped head that is not the head of a chain only samples the mode. It is stated of the model's choices in
assumption log 15, 31, 35 and 81. -/
def Obligations.SerialPorts : Prop :=
  (∀ (u : Fin 2) (s : State),
     let x := s.ua u
     let on := s.on (F.SER_UuCTL_EN u) = true
     let fmt := s.get (F.SER_UuCTL_FMT u)
     (∀ (cid : Cid) (v : Word), Admits cid true (R.SER_UuDATA u).addr s →
       let may := cid.toNat ≤ 1 ∨ cid.toNat = serOwner (R.SER_UuDATA u).addr s
       let go := s.on (F.SER_UuCTL_EN u) && s.on (F.SER_UuCTL_TXEN u) && s.on (F.SER_UuCTL_HDX u)
       let refuse : Cause → Result := fun c =>
         .next (settle ((busErr { cid := cid.toNat } true (R.SER_UuDATA u).addr c s.begin).answerRefused c.code))
       (may → x.tx.length < 16 → exec (.uartDataWrite cid u v) s = .next (settle (uartEvents u (s.begin.setUa u
         { x with tx := x.tx ++ [v.toNat % 512], outTx := x.outTx - 1, de := go })))) ∧
       (may → 16 ≤ x.tx.length → exec (.uartDataWrite cid u v) s = refuse .busy) ∧
       (¬may → exec (.uartDataWrite cid u v) s = refuse .deny)) ∧
     (∀ (cid : Cid) (b : Nat) (rest : List Nat), Admits cid false (R.SER_UuDATA u).addr s → x.rx = b :: rest →
       exec (.uartDataRead cid u) s = .next (settle ((uartEvents u (s.begin.setUa u
         { x with rx := rest, outRx := x.outRx - 1 })).answer (BitVec.ofNat 32 (b + 2 ^ 31)).toNat))) ∧
     (∀ cid : Cid, Admits cid false (R.SER_UuDATA u).addr s → x.rx = [] → exec (.uartDataRead cid u) s = .next (settle (s.begin.answer 0))) ∧
     (∀ (s7 s8 s9 : BitVec 9) (stop : Bool),
       let b := (s7 &&& s8) ||| (s7 &&& s9) ||| (s8 &&& s9)
       let d := if fmt = 0 then b.toNat % 256 else b.toNat
       let live := on ∧ s.on (F.SER_UuCTL_RXEN u) = true ∧ uartWired u s = true ∧ (x.de = false ∨ s.on (F.SER_UuCTL_ECHO u) = true)
       let filt := fmt = 3 ∧ s.on (F.SER_UuCTL_ADDRM u) = true
       let sel := if natBit d 8 then decide (d % 256 = s.get (F.SER_UuCTL_ADDR u)) else x.sel
       let y := if filt then { x with sel := sel } else x
       let k := if filt then s.begin.setUa u y else s.begin
       let pe := (fmt = 1 ∧ natBit d 8 ≠ oddOnes d) ∨ (fmt = 2 ∧ natBit d 8 = oddOnes d)
       let brk := stop = false ∧ d = 0
       let n := (if fmt = 3 then d else d % 256) + (if pe then 4096 else 0) + (if stop then 0 else 8192) + (if brk then 16384 else 0)
       let a := k.setUa u { y with rx := x.rx ++ [n] }
       let a := if pe then uartError u 1 a else a
       let a := if stop then a else uartError u 2 a
       let a := if brk then uartError u 3 a else a
       (¬live → exec (.uartFrameReceived u s7 s8 s9 stop) s = .next s.begin) ∧
       (live → filt ∧ sel = false → exec (.uartFrameReceived u s7 s8 s9 stop) s = .next k) ∧
       (live → ¬(filt ∧ sel = false) → 16 ≤ x.rx.length → exec (.uartFrameReceived u s7 s8 s9 stop) s = .next (uartError u 0 k)) ∧
       (live → ¬(filt ∧ sel = false) → x.rx.length < 16 → exec (.uartFrameReceived u s7 s8 s9 stop) s = .next (uartEvents u a))) ∧
     (∀ (d : Nat) (rest : List Nat), on → s.on (F.SER_UuCTL_TXEN u) = true → x.tx = d :: rest →
       let hold := s.on (F.SER_UuCTL_HDX u) && (!rest.isEmpty || s.get (F.SER_UuDE_DETAIL u) != 0)
       exec (.uartFrameSent u) s = .next (uartEvents u ((s.begin.setUa u { x with tx := rest, de := hold }).answer (if fmt = 3 then d % 512
         else d % 256 + (if fmt ≠ 0 ∧ oddOnes d = decide (fmt = 1) then 256 else 0))))) ∧
     (on → s.on (F.SER_UuCTL_TXEN u) = true → x.tx = [] → exec (.uartFrameSent u) s = .next (s.begin.setUa u { x with de := false })) ∧
     (¬on ∨ s.on (F.SER_UuCTL_TXEN u) = false → exec (.uartFrameSent u) s = .next s.begin)) ∧
  (∀ s : State,
   (∀ (c : Nat) (rest : List Nat), s.i2c.cmd = c :: rest → s.on F.SER_ICTL_CEN = true →
     let u := i2cFifo rest s.begin
     let ok : Bool → State → State := fun ack v => if ack && i2cWired u then v else i2cNack v
     (∀ ack : Bool, c % 16 = 1 → exec (.i2cStart ack) s = .next (ok ack (u.set F.SER_ISTAT_BUSY 1))) ∧
     (∀ ack : Bool, c % 16 = 2 → exec (.i2cWrite ack) s = .next (ok ack u)) ∧
     (∀ d : Byte, c % 16 = 3 → exec (.i2cRead d) s =
       .next ((u.set F.SER_IRX_DATA (if i2cWired u then d.toNat else 255)).set F.SER_IRX_VALID 1)) ∧
     (c % 16 = 4 → exec .i2cStop s = .next (u.set F.SER_ISTAT_BUSY 0))) ∧
   (∀ (ack : Bool) (d : Byte), ∀ e ∈ [(1, Instr.i2cStart ack), (2, .i2cWrite ack), (3, .i2cRead d), (4, .i2cStop)],
     s.on F.SER_ICTL_CEN = false ∨ (s.i2c.cmd.head?.map fun c => c % 16) ≠ some e.1 → exec e.2 s = .next s.begin) ∧
   (s.on F.SER_ICTL_CEN = true → s.on F.SER_ISTAT_BUSY = true →
     exec .arbitrationLost s = .next (i2cFifo [] ((s.begin.setBit ⟨R.SER_ISTAT, 8, 6⟩ 1 true).raise 0x7E))) ∧
   (s.on F.SER_ICTL_CEN = false ∨ s.on F.SER_ISTAT_BUSY = false → exec .arbitrationLost s = .next s.begin) ∧
   (let tgt := s.on F.SER_ICTL_TEN = true ∧ i2cWired s = true
    let x := s.i2c
    (∀ (a : BitVec 7) (rd : Bool),
      let b := s.begin.setB F.SER_ISTAT_BUSY (i2cWired s)
      let v := i2cSticky 2 { b with i2c := { x with sel := true, selRead := rd, ready := false } }
      (tgt → a.toNat = s.get F.SER_ICTL_TADDR → exec (.i2cTargetAccess (.start a rd)) s = .next (if rd then i2cSticky 4 v else v)) ∧
      (tgt → a.toNat ≠ s.get F.SER_ICTL_TADDR → exec (.i2cTargetAccess (.start a rd)) s = .next { b with i2c := { x with sel := false } }) ∧
      (¬tgt → exec (.i2cTargetAccess (.start a rd)) s = .next b)) ∧
    (∀ d : Byte,
      let may := tgt ∧ x.sel = true ∧ x.selRead = false ∧ x.full = false
      (may → exec (.i2cTargetAccess (.byteIn d)) s =
        .next (i2cSticky 5 (({ s.begin with i2c := { x with full := true } } : State).set F.SER_ITDATA_DATA d.toNat))) ∧
      (¬may → exec (.i2cTargetAccess (.byteIn d)) s = .next s.begin)) ∧
    (let may := tgt ∧ x.sel = true ∧ x.selRead = true ∧ x.ready = true
     (may → exec (.i2cTargetAccess .byteOut) s =
       .next (i2cSticky 4 (({ s.begin with i2c := { x with ready := false } } : State).answer (s.get F.SER_ITDATA_DATA)))) ∧
     (¬may → exec (.i2cTargetAccess .byteOut) s = .next s.begin)) ∧
    (let b := s.begin.set F.SER_ISTAT_BUSY 0
     (tgt → x.sel = true → exec (.i2cTargetAccess .stop) s = .next (i2cSticky 3 { b with i2c := { x with sel := false } })) ∧
     (¬(tgt ∧ x.sel = true) → exec (.i2cTargetAccess .stop) s = .next b)))) ∧
  (∀ s : State,
   let port := s.on F.SYS_STRAP_HEAD = true ∧ hostWired s = true
   (∀ (mode3 rx : Bool), port → isHead s = true →
     let q := s.chn.hostOut
     let u := (s.begin.setB F.SER_HSTAT_MODE3 mode3).answer (hostFree s + 8 * bit01 (!q.isEmpty))
     let v := match rx, q with
       | true, f :: fs => lineSend 2 f false { u with chn := { s.chn with hostOut := fs } }
       | _, _ => u
     let ends : State → Result := fun t => .next (settle (hostStat t))
     (exec (.hostSpiTransaction mode3 none rx) s = ends v) ∧
     (∀ (cls : Nat) (bs : List Byte),
       let tx : Option (Nat × List Byte) := some (cls, bs)
       let disc : Result := ends (v.count F.CHN_HOSTSTAT_HDISC)
       (hostFree s = 0 → exec (.hostSpiTransaction mode3 tx rx) s = ends (v.count F.CHN_HOSTSTAT_HOVF)) ∧
       (0 < hostFree s → crcGood bs = false ∨ parseFrame cls bs = none → exec (.hostSpiTransaction mode3 tx rx) s = disc) ∧
       (∀ (f : Frame) (crt : Nat), 0 < hostFree s → crcGood bs = true → parseFrame cls bs = some (f, crt) →
         let legal := f.src = 1 ∧ ((f.cls = 0 ∧ 128 ≤ f.tag) ∨ f.cls = 3)
         let w := if f.cls = 0 ∧ f.dst ≠ 0x7F then
           { v with chn := { v.chn with hostReqs := v.chn.hostReqs ++ [(f, v.get F.CHN_TRCFG0_RETRIES, rspDue v)] } } else v
         (¬legal → exec (.hostSpiTransaction mode3 tx rx) s = disc) ∧
         (legal → f.dst = 0x7F → exec (.hostSpiTransaction mode3 tx rx) s = ends (chainSend f w)) ∧
         (legal → f.dst ≠ 0x7F → exec (.hostSpiTransaction mode3 tx rx) s = ends (placeFrame 2 f w))))) ∧
   (∀ (mode3 rx : Bool) (tx : Option (Nat × List Byte)),
     (port → isHead s = false → exec (.hostSpiTransaction mode3 tx rx) s = .next (settle (s.begin.setB F.SER_HSTAT_MODE3 mode3))) ∧
     (¬port → exec (.hostSpiTransaction mode3 tx rx) s = .next (settle s.begin))) ∧
   (port → exec .hostAbort s = .next (((s.begin.set F.SER_HSTAT_ABORT 1).set F.SER_HSTAT_SELECTED 0).raise 0x7F)) ∧
   (¬port → exec .hostAbort s = .next s.begin))

/-- R377, R378, R398: receiver lock, where the port is not held off and has none, restarts its credits, drops the frames not yet
acted on and sends HELLO; loss of lock ends a frame in cut-through and, by a code error, counts toward ERRLIM; the command LINK_DOWN
takes effect once lock has stayed lost for 2 µs outside the tolerance of RATECHG; an interval and a hold-off end. An idle symbol
with a wrong CHK does nothing, and a good one returns credits and, on a link that is up, shows the frames that were lost. R379 to
R389: a frame received on a locked port with a code error, a bad CRC, EOFP, a bad form, or no slot left is counted and discarded,
its copy in cut-through ending with EOFP; a good one takes its place, for this unit in a receive slot, or ends the copy that went
ahead. After SOF and byte 0 a frame to another unit starts out on the other port where that has credit, and is else held. The next
frame of this unit, or one to be forwarded, leaves the transmitter, by class and turn; with none eligible an idle symbol leaves. It
is stated of the model's choices in assumption log 50. -/
def Obligations.ChainLinksAndFrames : Prop :=
  (∀ (p : Fin 2) (s : State),
     let x := s.port p
     let z : Vector Nat 4 := Vector.replicate 4 0
     let lock := s.on (F.CHN_pSTAT_LOCK p) = true
     let none : Result := .next (settle s.begin)
     (∀ (inv : Bool) (rate : Fin 3),
       let v := x.slots.foldl (fun v y => unhold y.f v)
         (((s.begin.set (F.CHN_pSTAT_LOCK p) 1).setB (F.CHN_pSTAT_RXINV p) inv).set (F.CHN_pSTAT_RXRATE p) rate.val)
       (x.ignore = false → ¬lock → exec (.receiverLock p inv rate) s = .next (settle (sendHello p
         (v.setPort p { x with acc := z, rel := z, snt := z, crt := z, slots := [], cut := Option.none })))) ∧
       (x.ignore = true ∨ lock → exec (.receiverLock p inv rate) s = none)) ∧
     (let v := cutAbort p (s.begin.set (F.CHN_pSTAT_LOCK p) 0)
      let w := v.setPort p { v.port p with lostAt := s.now }
      (lock → exec (.lossOfChainLock p false) s = .next (settle w)) ∧
      (lock → exec (.lossOfChainLock p true) s = .next (settle (lineError p (w.count (F.CHN_pERR_CODEERR p))))) ∧
      (∀ e : Bool, ¬lock → exec (.lossOfChainLock p e) s = none)) ∧
     (let n := errCount p s + 1
      let lim := s.get F.CHN_CFG_ERRLIM
      let v := s.setPort p { x with errs := n, errIv := errSpan s }
      lineError p s = if lim = 0 ∨ n < lim then v else linkDown p true v) ∧
     (let long := s.on (F.CHN_pSTAT_LOCK p) = false ∧ max x.lostAt x.grace + 2000 ≤ s.now
      (long → exec (.linkDown p) s = .next (settle (linkDown p false s.begin))) ∧ (¬long → exec (.linkDown p) s = none)) ∧
     (∀ e : Bool, linkUp p (linkDown p e s) = false) ∧
     exec (.errorCountInterval p) s = .next (s.begin.setPort p { x with errs := errCount p s, errIv := errSpan s }) ∧
     (x.holdTo ≤ s.now → exec (.errlimHoldoffEnd p) s = .next (s.begin.setPort p { x with ignore := false })) ∧
     (s.now < x.holdTo → exec (.errlimHoldoffEnd p) s = .next s.begin) ∧
     (∀ (bs : List Byte) (chk : Byte),
       let good := bs.length = 3 ∧ crc8 bs = chk ∧ lock
       let v := takeCrt p (leNat bs % 4096) s.begin
       (¬good → exec (.idleSymbol p bs chk) s = none) ∧
       (good → linkUp p s = false → exec (.idleSymbol p bs chk) s = .next (settle v)) ∧
       (good → linkUp p s = true → (∀ c : Fin 4, x.acc.get c < 8) → s.chn.done = [] → Ends (.idleSymbol p bs chk) s fun t =>
         ∀ c : Fin 4, (t.port p).acc.get c = cnt3 (leNat bs / 4096) c ∧
           (t.port p).rel.get c = (x.rel.get c + (cnt3 (leNat bs / 4096) c + 8 - x.acc.get c) % 8) % 8))) ∧
  ((∀ (p : Fin 2) (cls : Fin 4) (bs : List Byte) (err eofp : Bool) (n : Nat) (s : State), s.on (F.CHN_pSTAT_LOCK p) = true →
     let u := s.begin.setPort p { s.port p with cut := none }
     let ahead := (s.port p).cut.any (fun c => c.started)
     let w := match (s.port p).cut with
       | some c => if c.started then lineSend (other p) { cls := c.cls, dst := c.dst, typ := 0, src := 0 } true u else u
       | none => u
     let bad : (State → State) → State := fun why => discard p cls why w
     let ends : State → Result := fun t => .next (settle t)
     (err = true → exec (.frameReceive p cls bs err eofp n) s = ends (lineError p (bad fun v => v.count (F.CHN_pERR_CODEERR p)))) ∧
     (err = false → crcGood bs = false →
       exec (.frameReceive p cls bs err eofp n) s = ends (lineError p (bad fun v => v.count (F.CHN_pERR_CRCERR p)))) ∧
     (err = false → crcGood bs = true → eofp = true →
       exec (.frameReceive p cls bs err eofp n) s = ends (bad fun v => v.count (F.CHN_pDROP_POISON p))) ∧
     (err = false → crcGood bs = true → eofp = false → parseFrame cls bs = none ∨ 4 ≤ occupied p cls u →
       exec (.frameReceive p cls bs err eofp n) s = ends (bad (unkType p))) ∧
     (∀ f crt, err = false → crcGood bs = true → eofp = false → parseFrame cls bs = some (f, crt) → occupied p cls u < 4 →
       let v := takeCrt p crt u
       let y := v.port p
       let v := v.setPort p { y with acc := y.acc.set! cls ((y.acc.toList.getD cls 0 + 1) % 8) }
       let here := (routeIn p f v).any (fun r => r.1)
       let out : Bool → State → State := fun bad t => lineSend (other p) (forwardCopy f n v) bad t
       (ahead = false → exec (.frameReceive p cls bs err eofp n) s = ends (placeFrame p f v)) ∧
       (ahead = true → f.hop = 63 → exec (.frameReceive p cls bs err eofp n) s =
         ends (releaseClass p cls (out true (v.count (F.CHN_pDROP_HOPDROP p))))) ∧
       (ahead = true → f.hop ≠ 63 → here = true → frameKnown f = true → exec (.frameReceive p cls bs err eofp n) s =
         ends (setSlots p (slotsOf p v ++ [⟨f, true, none⟩]) (out false v))) ∧
       (ahead = true → f.hop ≠ 63 → here = false → exec (.frameReceive p cls bs err eofp n) s = ends (releaseClass p cls (out false v))) ∧
       (ahead = true → f.hop ≠ 63 → here = true → frameKnown f = false → exec (.frameReceive p cls bs err eofp n) s =
         ends (releaseClass p cls (unkType p (out false v)))))) ∧
   (∀ (p : Fin 2) (cls : Fin 4) (bs : List Byte) (err eofp : Bool) (n : Nat) (s : State), s.on (F.CHN_pSTAT_LOCK p) = false →
     exec (.frameReceive p cls bs err eofp n) s = .next (settle s.begin)) ∧
   (∀ (p : Fin 2) (f : Frame) (s : State), routeIn p f s = some (true, none) → frameKnown f = true → deliverAtOnce f s = none →
     placeFrame p f s = setSlots p (slotsOf p s ++ [⟨f, true, none⟩]) s) ∧
   (∀ (p : Fin 2) (f : Frame) (o : Fin 2) (s : State), routeIn p f s = some (false, some o) →
     (linkUp o s = true → placeFrame p f s = setSlots p (slotsOf p s ++ [⟨f, false, some o⟩]) s) ∧
     (linkUp o s = false → placeFrame p f s = releaseClass p f.cls (unreach f s))) ∧
   (∀ (p : Fin 2) (f : Frame) (s : State), routeIn p f s = none → placeFrame p f s = releaseClass p f.cls (unkType p s)) ∧
   (∀ (p : Fin 2) (cls : Fin 4) (dst : BitVec 7) (s : State),
     let may := s.on (F.CHN_pSTAT_LOCK p) = true ∧ (s.port p).cut = none ∧ occupied p cls s < 4
     let r := routeIn p { cls := cls, dst := dst.toNat, typ := 0, src := 0 } s
     let cut : Bool → State := fun go => s.begin.setPort p { s.port p with cut := some ⟨cls, dst.toNat, go⟩ }
     (∀ (d : Bool) (o : Fin 2), may → r = some (d, some o) →
       let go := o = other p ∧ linkUp o s = true ∧ 0 < credits o cls s ∧ (s.port o).streak < 16
       (go → exec (.cutThroughForward p cls dst) s = .next (settle ((cut true).setPort o (sentAs cls true (s.port o))))) ∧
       (¬go → exec (.cutThroughForward p cls dst) s = .next (settle (cut false)))) ∧
     (¬may ∨ (r.bind fun e => e.2) = none → exec (.cutThroughForward p cls dst) s = .next (settle s.begin))) ∧
   (∀ (p : Fin 2) (n : Nat) (s : State),
     let v := if p = 1 then relayFeed s.begin else s.begin
     let x := v.port p
     let ends : State → Result := fun t => .next (settle t)
     (cutBusy p s = true → exec (.transmitNextFrame p n) s = ends s.begin) ∧
     (cutBusy p s = false → 16 ≤ x.streak ∨ txPick p v = none →
       exec (.transmitNextFrame p n) s = ends (idleSend p (v.setPort p { x with streak := 0 }))) ∧
     (∀ f : Frame, cutBusy p s = false → x.streak < 16 → txPick p v = some (.own f) →
       let y := sentAs f.cls false x
       let w := lineSend p f false (v.setPort p { y with queue := x.queue.erase f })
       (f.cls ≠ 3 ∨ f.typ ≠ 8 ∨ x.rateTo = none → exec (.transmitNextFrame p n) s = ends w) ∧
       (∀ r, f.cls = 3 → f.typ = 8 → x.rateTo = some r → exec (.transmitNextFrame p n) s =
         ends ((w.set (F.CHN_pSTAT_TXRATE p) r).setPort p { y with queue := x.queue.erase f, rateTo := none }))) ∧
     (∀ (q : Fin 2) (y : Slot), cutBusy p s = false → x.streak < 16 → txPick p v = some (.fwd q y) → y.dlv = false → y.f.hop ≠ 63 →
       let w := v.setPort p (sentAs y.f.cls true x)
       exec (.transmitNextFrame p n) s = ends (lineSend p (forwardCopy y.f n w) false
         (releaseClass q y.f.cls (setSlots q ((slotsOf q w).erase y) w))))))

/-- R379 to R382: the bytes of a frame and its credit return, sent and received, give the same frame and credit return, with a good
CRC. -/
def Obligations.FramesRoundTrip : Prop :=
  ∀ (f : Frame) (crt : Nat), f.cls < 4 → f.dst < 128 → f.typ < 64 → f.src < 128 → f.tag < 256 → f.hop < 64 → f.data.length ≤ 64 →
    crt < 4096 → parseFrame f.cls (frameBytes f crt) = some (f, crt) ∧ crcGood (frameBytes f crt) = true

/-- R383, R391 to R402: what each link management frame does at the unit it is for: HELLO, ASSIGN, ENUMRPT, ROUTE, LINKRPT, ORPHAN;
how an enumeration starts and ends, and when a unit out of REACH is lost. It is stated of the model's choices in assumption log 51.
-/
def Obligations.Enumeration : Prop :=
  (∀ (p : Fin 2) (f : Frame) (s u : State), Received p 3 1 f s u →
    let b := f.at_ 1 1
    let v := (((u.set (F.CHN_pSTAT_NADDR p) (f.at_ 0 1)).setB (F.CHN_pSTAT_NVALID p) (natBit b 0)).setB (F.CHN_pSTAT_NHEAD p)
      (natBit b 1)).set (F.CHN_pSTAT_NVER p) (f.at_ 2 1)
    let w := if linkUp p u then (if u.on (F.CHN_pSTAT_NVALID p) && !natBit b 0 then linkDown p false v else v)
      else if u.on (F.CHN_pSTAT_LOCK p) then linkComesUp p v else v
    let offered := linkUp p u = false ∧ (isHead u = true ∨ u.chn.endWait = true)
    let due := p = 1 ∧ linkUp 1 w = true ∧ ownAddr w ≠ 0 ∧ ¬offered ∧ f.at_ 0 1 ≠ ownAddr w + 1
    (due → exec (.hello (p.castLE (by decide))) s = .next (settle (bootPoll (assignDown w)))) ∧
    (¬due → exec (.hello (p.castLE (by decide))) s = .next (settle (bootPoll w)))) ∧
  (∀ (f : Frame) (s u : State), Received 0 3 2 f s u →
    let ends : State → Result := fun t => .next (settle (bootPoll t))
    let tok := f.at_ 4 4
    let own := u.get F.CHN_TOKEN_TOKEN
    (isHead u = false → exec (.assign 0) s = ends (assignUnit f (natBit (f.at_ 1 1) 0) u)) ∧
    (isHead u = true → tok = own → u.on F.CHN_CFG_RINGEN = true → u.on F.CHN_ADDR_RING = false →
      exec (.assign 0) s = ends (withHello (fun v => chnEvent 9 (v.set F.CHN_ADDR_RING 1)) u)) ∧
    (isHead u = true → tok = own → u.on F.CHN_CFG_RINGEN = true → u.on F.CHN_ADDR_RING = true → exec (.assign 0) s = ends u) ∧
    (isHead u = true → tok = own → u.on F.CHN_CFG_RINGEN = false → exec (.assign 0) s = ends u) ∧
    (isHead u = true → tok < own →
      exec (.assign 0) s = ends (assignUnit f true (chnEvent 11 ((u.set F.CHN_ADDR_YIELD 1).set F.CHN_ADDR_HEAD 0)))) ∧
    (isHead u = true → own < tok → exec (.assign 0) s = ends (chnEvent 11 u))) ∧
  (∀ (p : Fin 3) (f : Frame) (s u : State), Received p 3 2 f s u → p ≠ 0 → exec (.assign p) s = .next (settle (bootPoll (unkType p u)))) ∧
  (∀ (f : Frame) (s : State), 1 ≤ f.at_ 0 1 → f.at_ 0 1 ≤ 64 → ownAddr s = 0 →
    let t := assignUnit f false s
    ownAddr t = f.at_ 0 1 ∧ upmap t = mapOf 1 (f.at_ 0 1 - 1) ∧ t.get F.CHN_VERS_HEAD = f.at_ 2 1 ∧ t.get F.CHN_TOKEN_TOKEN = f.at_ 4 4) ∧
  (∀ (p : Fin 3) (f : Frame) (s u : State), Received p 3 3 f s u →
    let a := if natBit (f.at_ 1 1) 2 then chnEvent 10 u else u
    let v := idPage (a.set F.CHN_ADDR_NUNITS (f.at_ 0 1))
    let w := headRoutes { v with chn := { v.chn with broken := [] } }
    (isHead u = true → natBit (f.at_ 1 1) 0 = false → exec (.enumrpt p) s = .next (settle a)) ∧
    (isHead u = true → natBit (f.at_ 1 1) 0 = true →
      exec (.enumrpt p) s = .next (settle (chnEvent 5 (chainSend (mgmt 0x7F 7 [b8 (w.get F.CHN_VERS_OWN), 0#8, 0#8, 0#8]) w)))) ∧
    (isHead u = false → exec (.enumrpt p) s = .next (settle u))) ∧
  (∀ (p : Fin 3) (f : Frame) (s u : State), Received p 3 4 f s u →
    let ring : State → State := fun v =>
      if v.on F.CHN_ADDR_RING = natBit (f.at_ 0 1) 0 then v else chnEvent 9 (v.setB F.CHN_ADDR_RING (natBit (f.at_ 0 1) 0))
    (f.flag = false → exec (.route p) s = .next (settle (withHello (fun v => setLive (f.at_ 8 8) (setUpmap (f.at_ 0 8) v)) u))) ∧
    (f.flag = true → exec (.route p) s = .next (settle (withHello (fun v => setLive (f.at_ 8 8) (setOrphan false
      ((setUpmap (mapOf 1 (ownAddr (ring v) - 1)) (ring v)).set F.CHN_ADDR_NUNITS (topAddr (f.at_ 8 8))))) u)))) ∧
  (∀ (m : Nat) (s : State), m < 2 ^ 64 → upmap (setUpmap m s) = m ∧ liveMap (setLive m s) = m) ∧
  (∀ (p : Fin 3) (f : Frame) (s u : State), Received p 3 5 f s u →
    (isHead u = true → exec (.linkrpt p) s = .next (settle (headLink f.src (f.at_ 0 1 % 2) (f.at_ 1 1 % 2 == 1) u))) ∧
    (isHead u = false → exec (.linkrpt p) s = .next (settle u))) ∧
  (∀ (p : Fin 3) (f : Frame) (s u : State), Received p 3 6 f s u →
    exec (.orphan p) s = .next (settle (idPage (setOrphan true (setLive (f.at_ 0 8) u))))) ∧
  (∀ s : State,
    let r := drawBits 32 s.begin
    let go := isHead s = true ∧ linkUp 1 s = true
    (go → exec .enumerationStart s = .next (settle (bootPoll (assignDown (withHello (fun v => setAddr 1 (v.set F.CHN_TOKEN_TOKEN r.1))
      { r.2 with chn := { r.2.chn with force := false } }))))) ∧
    (¬go → exec .enumerationStart s = .next (settle s.begin))) ∧
  (∀ s : State,
    let go := s.chn.endWait = true ∧ linkUp 1 s = false ∧ s.chn.endAt ≤ s.now
    (go → exec .endwaitExpiry s = .next (enumReport (ownAddr s) 1 { s.begin with chn := { s.chn with endWait := false } })) ∧
    (¬go → exec .endwaitExpiry s = .next s.begin)) ∧
  (∀ (a : BitVec 7) (s : State),
    let go := (∃ e ∈ s.chn.out, e.1 = a.toNat ∧ e.2.1 = false ∧ e.2.2 + 10000 * s.get F.CHN_CFG_LOSTDLY ≤ s.now) ∧
      inMap (reachMap s) a.toNat = false
    (go → exec (.unitLost a) s = .next (settle (declareLost a.toNat s.begin))) ∧
    (¬go → exec (.unitLost a) s = .next (settle s.begin))) ∧
  (∀ (f : Frame) (s u : State), Received 2 3 1 f s u → exec (.hello 2) s = .next (settle (bootPoll u)))

/-- R377, R390, R391, R400, R402: VERSION, RATECHG, IDENT and its answer, RESET and REJOIN; and with no frame of its kind waiting at
its port, a command of a management frame does nothing, but for the boot's own steps that HELLO and ASSIGN look at. It is stated of
the model's choices in assumption log 50 and 67. -/
def Obligations.ManagementFrames : Prop :=
  (∀ (p : Fin 3) (f : Frame) (s u : State), Received p 3 7 f s u → exec (.version p) s = .next (settle (withHello (fun v =>
    quarUpdate (quarAddress (v.set F.CHN_VERS_HEAD (f.at_ 0 1))) (v.set F.CHN_VERS_HEAD (f.at_ 0 1))) u))) ∧
  (∀ (p : Fin 2) (f : Frame) (s u : State), Received p 3 8 f s u →
    exec (.ratechg (p.castLE (by decide))) s = .next (settle (u.setPort p { u.port p with grace := u.now + 20000 }))) ∧
  (∀ (p : Fin 3) (f : Frame) (s u : State), Received p 3 9 f s u → exec (.ident p) s = .next (settle (chainSend
    (mgmt f.src 10 ((List.range 64).map (fun i => memByte u.mem (winAddr (0x7F00 + i)))) false f.tag) u))) ∧
  (∀ (p : Fin 3) (f : Frame) (s u : State), Received p 3 10 f s u →
    exec (.identrsp p) s = .next (settle { u with out := { u.out with sent := u.out.sent ++ [(2, f, false)] } })) ∧
  (∀ (p : Fin 3) (f : Frame) (s u : State), Received p 3 11 f s u →
    let ok := f.at_ 0 2 = 0xA55A ∧ f.src = 1 ∧ (headPort u).val = p.val
    (ok → exec (.resetMgmt p) s = .next (settle (softReset true u))) ∧
    (¬ok → exec (.resetMgmt p) s = .next (settle (unkType p u)))) ∧
  (∀ (p : Fin 3) (f : Frame) (s u : State), Received p 3 12 f s u →
    let new := 1 ≤ f.src ∧ f.src ≤ 64 ∧ smapFind f.src u.chn.rejoined ≠ some (f.at_ 2 2)
    let v : State := { u with chn := { u.chn with
      rejoined := smapPut f.src (f.at_ 2 2) u.chn.rejoined, dup := u.chn.dup.filter (fun e => e.1 != f.src),
      acked := u.chn.acked.filter (fun e => e.1 != f.src) } }
    (new → exec (.rejoin p) s = .next (settle (chnEvent 7 (endRequestsTo f.src (semUnitGone f.src v))))) ∧
    (¬new → exec (.rejoin p) s = .next (settle u))) ∧
  (∀ s : State,
    let go := s.chn.rejoinLeft ≠ 0 ∧ ownAddr s ≠ 0 ∧ linkUp (if isHead s then 1 else headPort s) s = true ∧ s.chn.rejoinAt ≤ s.now
    (go → exec .rejoinSend s =
      .next (chainSend (mgmt 0x7F 12 ([b8 (ownAddr s), b8 (s.get F.SYS_RSTCAUSE_LAST)] ++ leBytes 2 s.chn.nonce))
        { s.begin with chn := { s.chn with rejoinLeft := s.chn.rejoinLeft - 1, rejoinAt := s.now + 100000 } })) ∧
    (¬go → exec .rejoinSend s = .next s.begin)) ∧
  (∀ (p : Fin 3) (s : State), ∀ e ∈ [(3, Instr.enumrpt p), (4, .route p), (5, .linkrpt p), (6, .orphan p), (7, .version p), (8, .ratechg p),
    (9, .ident p), (10, .identrsp p), (11, .resetMgmt p), (12, .rejoin p)],
    slotFind p 3 e.1 s.begin = none → exec e.2 s = .next (settle s.begin)) ∧
  (∀ (p : Fin 3) (s : State), ∀ e ∈ [(1, Instr.hello p), (2, .assign p)],
    slotFind p 3 e.1 s.begin = none → exec e.2 s = .next (settle (bootPoll s.begin))) ∧
  (∀ (f : Frame) (s u : State), Received 2 3 8 f s u → exec (.ratechg 2) s = .next (settle u))

/-- R85, R262, R408 to R412: an access to another unit's window opens a request, a semaphore operation or a mailbox post with a
record, a reservation and a TAG, waits where none is free, or is refused with REMOTE and logged; a store to a mailbox's payload is
staged; a write to region 33 is broadcast. A TAKE of a CID that already waits leaves as TRY (the model's choice, assumption log 68).
R279, R288, R411, R412: a response lands in the reserved buffer and ends the request it answers, a semaphore's result going on to
the CID; a response to no open request, or of the wrong kind, counts as STALE; a request that times out, of this unit or of the
host, is sent again while tries are left and then ends with TIMEOUT, and before its time nothing happens. It is stated of the
model's choices in assumption log 52 and 68. -/
def Obligations.RemoteRequests : Prop :=
  ((∀ (cid : Cid) (w : Bool) (a : Word) (sz : Fin 4) (v : DWord) (s : State),
     let run : Result := exec (.remoteRequestIssue cid w a sz v) s
     let n := (a.toNat - 0x60000000) / 0x8000 + 1
     let off := a.toNat % 0x8000
     let d := v.toNat % 256 ^ 2 ^ sz.val
     let cb := BitVec.ofNat 8 cid.toNat
     let k := BitVec.ofNat 8 ((off - 0x7C00) / 4)
     let check := (accessCheck { cid := cid.toNat } w a.toNat (2 ^ sz.val) s).toOption
     let reach := check = some 32 ∧ n ≠ ownAddr s
     let sem := 0x7C00 ≤ off ∧ off < 0x7C80 ∧ sz = 2
     let pay := w = true ∧ 0x7D00 ≤ off ∧ off < 0x7F00 ∧ 4 ≤ off % 16
     let bell := w = true ∧ 0x7D00 ≤ off ∧ off < 0x7F00 ∧ off % 16 < 4 ∧ sz = 2
     let refused : State → Result := fun t => .next (settle ((busErr { cid := cid.toNat } w a.toNat .remote t).answerRefused Cause.remote.code))
     let plan : Nat → Nat → List Byte → Plan := fun typ kind data =>
       { f := { cls := 0, dst := n, typ := typ, src := 0, data := data }, by_ := .other, off := off, cid := cid.toNat, kind := kind }
     let sends : Plan → Result := fun q => match issueCheck n s with
       | none => .next (settle (startReq q s.begin))
       | some e => refused (txErr off n cid.toNat e q.kind s.begin)
     let semop : Byte → Plan := fun op => plan 3 2 [op, k, cb, BitVec.ofNat 8 (epri cid.toNat s)]
     let head := leBytes 2 off ++ [BitVec.ofNat 8 sz.val, cb]
     let nothing : Result := .next (settle (s.begin.answer 0))
     (reach → ¬sem → w = false → run = sends (plan 1 0 head)) ∧
     (reach → ¬sem → w = true → ¬pay → ¬bell → run = sends (plan 2 1 (head ++ leBytes (2 ^ sz.val) d))) ∧
     (reach → sem → w = false → run = sends (semop 0)) ∧
     (reach → sem → w = true → d % 4 = 1 → run = sends (semop 2)) ∧
     (reach → sem → w = true → d % 4 = 2 → run = if waitsAny cid.toNat s then sends { semop 0 with take := true } else sends (semop 1)) ∧
     (reach → sem → w = true → d % 4 = 3 → run = sends (semop 3)) ∧
     (reach → sem → w = true → d % 4 = 0 → run = nothing) ∧
     (reach → pay → run =
       .next (settle ((stageStore cid.toNat n ((off - 0x7D00) / 16) (off % 16) (2 ^ sz.val) d s.begin).answer 0))) ∧
     (reach → bell → d / 0x40000000 % 4 ≠ 2 → run = nothing) ∧
     (reach → bell → d / 0x40000000 % 4 = 2 → natBit d 29 = true → run = refused s.begin) ∧
     (reach → bell → d / 0x40000000 % 4 = 2 → natBit d 29 = false →
       let m := (off - 0x7D00) / 16
       let staged := (stageOf cid.toNat s).filter fun g => g.unit == n && g.mbx == m
       let words := match staged with
         | some g => g.w.toList
         | none => [0#32, 0#32, 0#32]
       let q := plan 4 3 ([BitVec.ofNat 8 m, cb] ++ leBytes 2 (d % 65536) ++ words.flatMap fun x => leBytes 4 x.toNat)
       run = match issueCheck n s with
         | none => .next (settle (setStage cid.toNat none (startReq q s.begin)))
         | some e => refused (txErr off n cid.toNat e 3 s.begin)) ∧
     (check = some 33 → w = true → quarantined s = false → ownAddr s ≠ 0 → run = .next (settle ((chainSend
       { cls := 0, dst := 0x7F, typ := 5, src := 0, data := head ++ leBytes (2 ^ sz.val) d } s.begin).answer 0))) ∧
     (check = some 33 → w = true → quarantined s = true ∨ ownAddr s = 0 →
       run = refused (txErr off 0x7F cid.toNat 7 1 s.begin))) ∧
   (∀ (q : Plan) (s : State),
     let free := (List.range 32).find? (fun i => (s.chn.reqs.get (recIx i)).isNone)
     (∀ (i b : Nat) (v : State), free = some i → poolReserve q.cid s = (some b, v) →
       let t := startReq q s
       ∃ r, t.chn.reqs.get (recIx i) = some r ∧ r.f = { q.f with tag := i + 32 * (s.chn.uses.get (recIx i) % 4) } ∧ r.buf = b ∧
         r.cid = q.cid ∧ r.by_ = q.by_ ∧ r.tries = v.get F.CHN_TRCFG0_RETRIES ∧ r.due = rspDue s ∧ (t.buf b).st = .reserved) ∧
     (free = none ∨ (poolReserve q.cid s).1 = none → startReq q s = { s with chn := { s.chn with waitQ := s.chn.waitQ ++ [q] } })) ∧
   (∀ (cid : Cid) (n : Fin 64) (m : Fin 32) (w : Fin 3) (v : Word) (s : State),
     (accessCheck { cid := cid.toNat } true (0x60000000 + 0x8000 * n.val + 0x7D04 + 16 * m.val + 4 * w.val) 4 s).toOption = some 32 →
     n.val + 1 ≠ ownAddr s →
     exec (.postStageStore cid n m w v) s =
       .next (settle ((stageStore cid.toNat (n.val + 1) m.val (4 + 4 * w.val) 4 v.toNat s.begin).answer 0)))) ∧
  ((∀ (p : Fin 3) (f : Frame) (r : Req) (s u : State), answered f u = some r →
     let v := bufPut { cid := r.cid } r.buf f.data u
     let i := f.tag % 32
     let ok := (Except.ok (BitVec.ofNat 64 (leNat f.data)) : Except Nat DWord)
     (Received p 1 1 f s u → f.typ = 1 → exec (.rdrsp p) s = .next (settle (if answers 1 f r then endReq i ok v else u.count F.CHN_TXSTAT_STALE))) ∧
     (Received p 1 2 f s u → f.typ = 2 → exec (.ack p) s = .next (settle (if answers 2 f r then endReq i ok v else u.count F.CHN_TXSTAT_STALE))) ∧
     (Received p 1 3 f s u → f.typ = 3 → exec (.semrsp p) s = .next (settle (if answers 3 f r
       then remoteAnswer r (f.at_ 0 4 % 16) (endReq i (.ok (BitVec.ofNat 64 (f.at_ 0 4))) v) else u.count F.CHN_TXSTAT_STALE))) ∧
     (Received p 1 6 f s u → f.typ = 6 → exec (.errRsp p) s = .next (settle (endReq i (.error (f.at_ 0 1)) v)))) ∧
   (∀ (p : Fin 3) (f : Frame) (s u : State), ∀ e ∈ [(1, Instr.rdrsp p), (2, .ack p), (3, .semrsp p), (6, .errRsp p)],
     Received p 1 e.1 f s u → answered f u = none → exec e.2 s = .next (settle (u.count F.CHN_TXSTAT_STALE))) ∧
   (∀ (j : Fin 32) (s : State),
     (∀ r : Req, s.chn.reqs.get j = some r →
       (s.now < r.due → exec (.responseTimeout j none) s = .next (settle s.begin)) ∧
       (r.due ≤ s.now → r.tries = 0 → exec (.responseTimeout j none) s = .next (settle (endReq j (.error 10) s.begin))) ∧
       (r.due ≤ s.now → r.tries ≠ 0 →
         let r' := { r with tries := r.tries - 1, due := rspDue s }
         exec (.responseTimeout j none) s = .next (settle (sendReq r' true
           { s.begin with chn := { s.chn with reqs := s.chn.reqs.set j (some r') } })))) ∧
     (s.chn.reqs.get j = none → exec (.responseTimeout j none) s = .next (settle s.begin)) ∧
     (∀ (tag : Byte) (f : Frame) (tries due : Nat), s.chn.hostReqs.find? (fun e => e.1.tag == tag.toNat) = some (f, tries, due) →
       let rest := s.chn.hostReqs.erase (f, tries, due)
       (s.now < due → exec (.responseTimeout j (some tag)) s = .next (settle s.begin)) ∧
       (due ≤ s.now → tries = 0 → exec (.responseTimeout j (some tag)) s = .next (settle (hostPut
         { cls := 1, dst := 1, typ := 6, src := f.dst, tag := tag.toNat, data := [10#8, BitVec.ofNat 8 f.typ, 0#8, 0#8] }
         { s.begin with chn := { s.chn with hostReqs := rest } }))) ∧
       (due ≤ s.now → tries ≠ 0 → exec (.responseTimeout j (some tag)) s = .next (settle (chainSend { f with flag := true }
         { s.begin with chn := { s.chn with hostReqs := rest ++ [(f, tries - 1, rspDue s)] } })))) ∧
     (∀ tag : Byte, s.chn.hostReqs.find? (fun e => e.1.tag == tag.toNat) = none →
       exec (.responseTimeout j (some tag)) s = .next (settle s.begin))) ∧
   (∀ (i : Nat) (x : Except Nat DWord) (s : State), s.chn.waitQ = [] → (endReq i x s).chn.reqs.get (recIx i) = none))

/-- R402, R413 to R415: what a unit does with a request of another: RD, WR, BWR, SEMOP and MBXPOST act at port B under the
requester's client, and answer with data, with an acknowledgement, with the operation's result, or with an error code; a quarantined
unit answers QUAR, and a retried operation is answered again and not done twice. The priority that an RD or WR of a semaphore word
brings is a free value (assumption log 73). It is stated of the model's choices in assumption log 52 and 73. -/
def Obligations.ServingRequests : Prop :=
  ∀ (p : Fin 3) (f : Frame) (s u : State),
    let off := f.at_ 0 2
    let z := f.at_ 2 1
    let who := frameWho (portBCid f.src) f u
    let cast := frameWho 60 f u
    let ends : State → Result := fun v => .next (settle v)
    let tell : Frame → State → Result := fun r v => .next (settle (chainSend r v))
    let keeps : Frame → State → Result := fun r v => .next (settle (replyKept f r v))
    let err := errReply f
    let good := quarantined u = false ∧ off < 0x8000 ∧ z ≤ 3
    let data := leNat (f.data.drop 4)
    (Received p 0 1 f s u →
      (quarantined u = true → exec (.rd p) s = tell (err 7) u) ∧
      (quarantined u = false → 0x8000 ≤ off → exec (.rd p) s = tell (err 2) u) ∧
      (quarantined u = false → off < 0x8000 → 3 < z → exec (.rd p) s = tell (err 3) u) ∧
      (∀ d v, good → portB who.1 false off (2 ^ z) 0 who.2 = (.ok d, v) → exec (.rd p) s = tell (reply f 1 (leBytes (2 ^ z) d.toNat)) v) ∧
      (∀ c v, good → portB who.1 false off (2 ^ z) 0 who.2 = (.refused c, v) → exec (.rd p) s = tell (err (errCode c)) v)) ∧
    (Received p 0 2 f s u → f.typ = 2 →
      (quarantined u = true → exec (.wr p) s = tell (err 7) u) ∧
      (quarantined u = false → 0x8000 ≤ off → exec (.wr p) s = tell (err 2) u) ∧
      (quarantined u = false → off < 0x8000 → 3 < z → exec (.wr p) s = tell (err 3) u) ∧
      (∀ d v, good → portB who.1 true off (2 ^ z) data who.2 = (.ok d, v) → exec (.wr p) s = tell (reply f 2 []) v) ∧
      (∀ c v, good → portB who.1 true off (2 ^ z) data who.2 = (.refused c, v) → exec (.wr p) s = tell (err (errCode c)) v)) ∧
    (Received p 0 5 f s u → f.typ = 5 →
      (good → exec (.bwr p) s = ends (portB cast.1 true off (2 ^ z) data cast.2).2) ∧ (¬good → exec (.bwr p) s = ends u)) ∧
    (Received p 0 3 f s u →
      let k := f.at_ 1 1
      let w : Who := { cid := portBCid f.src, origin := f.src }
      let check : Nat → Except Cause Nat := fun op => accessCheck w (op != 0) (winAddr (0x7C00 + 4 * k)) 4 u
      let new := quarantined u = false ∧ dupFind f u = none
      (quarantined u = true → exec (.semop p) s = tell (err 7) u) ∧
      (∀ r, quarantined u = false → dupFind f u = some r → exec (.semop p) s = tell r u) ∧
      (new → 31 < k → exec (.semop p) s = keeps (err 2) u) ∧
      (new → k ≤ 31 → 3 < f.at_ 0 1 → exec (.semop p) s = keeps (err 1) u) ∧
      (∀ c, new → k ≤ 31 → f.at_ 0 1 ≤ 3 → check (f.at_ 0 1) = .error c →
        exec (.semop p) s = keeps (err (errCode c)) (busErr w (f.at_ 0 1 != 0) (winAddr (0x7C00 + 4 * k)) c u)) ∧
      (new → k ≤ 31 → ∀ e ∈ [(0, SemOp.try_), (1, .take), (2, .give), (3, .cancel)], f.at_ 0 1 = e.1 → (check e.1).isOk = true →
        exec (.semop p) s = .next (settle (semReply f (semOp e.2 (e.1 != 0) (96 + k) (portBCid f.src) ⟨f.at_ 2 1 % 64, f.src, f.at_ 3 1 % 16⟩ u))))) ∧
    (Received p 0 4 f s u →
      let m := f.at_ 0 1
      let w : Who := { cid := portBCid f.src, origin := f.src }
      let r := mailboxPostB w m (f.at_ 2 2) (f.at_ 1 1 % 64) [f.at_ 4 4, f.at_ 8 4, f.at_ 12 4] u
      let new := quarantined u = false ∧ dupFind f u = none
      (quarantined u = true → exec (.mbxpost p) s = tell (err 7) u) ∧
      (∀ r, quarantined u = false → dupFind f u = some r → exec (.mbxpost p) s = tell r u) ∧
      (new → 31 < m → exec (.mbxpost p) s = keeps (err 2) u) ∧
      (∀ d, new → m ≤ 31 → r.1 = .ok d → exec (.mbxpost p) s = keeps (reply f 2 []) r.2) ∧
      (∀ c, new → m ≤ 31 → r.1 = .refused c → exec (.mbxpost p) s = keeps (err (errCode c)) (busErr w true (winAddr (0x7D00 + 16 * m)) c r.2)))

/-- R418, R419: SEMEVT puts a new outcome in the grant queue and is always acknowledged; SEMACK ends it at the owner; without one it
is sent again while tries are left, and before its time nothing happens; PINOTE carries an inherited priority. R420, R433: a
message's chain of buffers goes into transit and its MSTART out, or the message ends at once with its code; the receiver takes
buffers for it, now or when MESSAGE_ALLOCATE finds room for one that it holds, fills them with its MDATA, and posts the last; a
message that stays held or unfinished for MSGTO ends; CHN_MSGRES gives the oldest result. It is stated of the model's choices in
assumption log 53, 54 and 69. -/
def Obligations.SemaphoreEventsAndMessages : Prop :=
  ((∀ (p : Fin 3) (f : Frame) (s u : State), Received p 1 7 f s u →
     let acked := ((f.src, f.tag) :: u.chn.acked).filter (fun e => e.1 != f.src || decide ((f.tag + 256 - e.2) % 256 < 128))
     (u.chn.acked.contains (f.src, f.tag) = true → exec (.semevt p) s = .next (settle (chainSend (reply f 8 []) u))) ∧
     (u.chn.acked.contains (f.src, f.tag) = false →
       exec (.semevt p) s = .next (settle (chainSend (reply f 8 []) (remoteResult f.src (96 + f.at_ 4 1 % 32) (f.at_ 5 1 % 64)
         (f.at_ 0 4 % 16) { u with chn := { u.chn with acked := acked } }))))) ∧
   (∀ (p : Fin 3) (f : Frame) (s u : State), Received p 1 8 f s u → exec (.semack p) s = .next (settle
     { u with chn := { u.chn with events := u.chn.events.filter (fun e => !(e.dst == f.src && e.tag == f.tag)) } })) ∧
   (∀ (dst : BitVec 7) (tag : Byte) (s : State),
     let found := s.chn.events.find? (fun e => e.dst == dst.toNat && e.tag == tag.toNat)
     (∀ e : SemEvent, found = some e →
       let gone : State := { s.begin with chn := { s.chn with events := s.chn.events.erase e } }
       let evs := s.chn.events.map (fun x => if x = e then { x with tries := x.tries - 1, due := rspDue s } else x)
       (s.now < e.due → exec (.semevtTimeout dst tag) s = .next (settle s.begin)) ∧
       (e.due ≤ s.now → e.tries = 0 → e.res.toNat % 16 ≠ 1 → exec (.semevtTimeout dst tag) s = .next (settle gone)) ∧
       (e.due ≤ s.now → e.tries = 0 → e.res.toNat % 16 = 1 →
         exec (.semevtTimeout dst tag) s = .next (settle (semOrphanGive (96 + e.sem) ⟨e.cid, e.dst, 0⟩ gone))) ∧
       (e.due ≤ s.now → e.tries ≠ 0 → exec (.semevtTimeout dst tag) s = .next (settle (chainSend
         { cls := 1, dst := dst.toNat, typ := 7, src := 0, tag := tag.toNat,
           data := leBytes 4 e.res.toNat ++ [BitVec.ofNat 8 e.sem, BitVec.ofNat 8 e.cid, 0#8, 0#8] }
         { s.begin with chn := { s.chn with events := evs } })))) ∧
     (found = none → exec (.semevtTimeout dst tag) s = .next (settle s.begin))) ∧
   (∀ (p : Fin 3) (f : Frame) (s u : State), Received p 1 9 f s u → exec (.pinote p) s = .next (settle
     (Machine.pinote f.src (f.at_ 0 1) (f.at_ 1 1 % 32) (f.at_ 2 1 % 64) (f.at_ 3 1 % 16) (f.at_ 4 1) u)))) ∧
  ((∀ (cid : Cid) (v : Word) (s u : State), Admits cid true R.CHN_MSGSEND.addr s →
     let h := v.toNat % 65536
     let dst := fieldOf 24 7 v
     let mo : MsgOut := { rec_ := 32, handle := h, cid := cid.toNat }
     let w : State := { u with chn := { u.chn with msgOut := u.chn.msgOut ++ [mo] } }
     (poolTransit cid.toNat h 32 s.begin = (false, u) → exec (.msgsend cid v) s = .next (settle u)) ∧
     (∀ c, poolTransit cid.toNat h 32 s.begin = (true, u) → issueCheck dst w = some c → exec (.msgsend cid v) s = .next (settle (msgEnd mo c w))) ∧
     (poolTransit cid.toNat h 32 s.begin = (true, u) → issueCheck dst w = none → exec (.msgsend cid v) s = .next (settle (startReq
       { f := { cls := 2, dst := dst, typ := 1, src := 0, data := [BitVec.ofNat 8 (fieldOf 16 5 v), BitVec.ofNat 8 (chain (h % 512) w).length, 64#8, BitVec.ofNat 8 cid.toNat, 0#8, 0#8, 0#8, 0#8] },
         by_ := .msg, off := 0, cid := cid.toNat, kind := 3 } w)))) ∧
   (∀ (p : Fin 3) (x : Slot) (s : State), slotFind p 2 1 s.begin = some x →
     let f := x.f
     let n := f.at_ 1 1
     let held := s.chn.msgHeld.any (heldFor f)
     let taken : State → List Nat × State := fun b => takeBufs n (slotDone p x (unhold f b))
     let into : List Nat → State → State := fun l v => { v with chn := { v.chn with msgIn := v.chn.msgIn ++ [{ src := f.src, tag := f.tag, mbx := f.at_ 0 1, bufs := l, due := msgDue s }] } }
     let note : State → State := fun b => { b with chn := { b.chn with msgHeld := b.chn.msgHeld ++ [(f.src, f.tag, msgDue s)] } }
     let take : State → State := fun b => if msgRoom n b then into (taken b).1 (poolLevels (freeCount b) (taken b).2) else if held then b else note b
     let open_ := s.chn.msgIn.find? (fun m => m.src == f.src && m.tag == f.tag)
     (held = true → exec (.messageAllocate p) s = .next (settle (take s.begin))) ∧
     (held = false → exec (.messageAllocate p) s = .next (settle s.begin)) ∧
     (quarantined s = true → exec (.mstart p) s = .next (settle (chainSend (errReply f 7) (slotDone p x s.begin)))) ∧
     (∀ r, quarantined s = false → dupFind f s = some r → exec (.mstart p) s = .next (settle (chainSend r (slotDone p x s.begin)))) ∧
     (quarantined s = false → dupFind f s = none → open_ = none → exec (.mstart p) s = .next (settle (take s.begin))) ∧
     (∀ m, quarantined s = false → dupFind f s = none → open_ = some m → exec (.mstart p) s = .next (settle (take (msgDrop m s.begin))))) ∧
   (∀ (p : Fin 3) (s : State), slotFind p 2 1 s.begin = none →
     exec (.messageAllocate p) s = .next (settle s.begin) ∧ exec (.mstart p) s = .next (settle s.begin)) ∧
   (∀ (p : Fin 3) (f : Frame) (s u : State), Received p 2 2 f s u →
     let open_ := u.chn.msgIn.find? (fun m => m.src == f.src && m.tag == f.tag)
     (∀ (m : MsgIn) (b : Nat), open_ = some m → m.bufs[m.got]? = some b →
       let m' := { m with got := m.got + 1, due := msgDue u }
       let v := bufPut { cid := portBCid f.src, origin := f.src } b f.data { u with chn := { u.chn with msgIn := u.chn.msgIn.map (fun x => if x = m then m' else x) } }
       exec (.mdata p) s = .next (settle (if m.got + 1 = m.bufs.length then msgPost m' f v else v))) ∧
     (open_ = none → exec (.mdata p) s = .next (settle u))) ∧
   (∀ (p : Fin 3) (src : BitVec 7) (tag : Byte) (x : Slot) (s : State), slotFind p 2 1 s.begin = some x →
     let late := s.chn.msgHeld.any (fun e => heldFor x.f e && decide (e.2.2 ≤ s.now))
     exec (.msgtoExpiry (some p) src tag) s =
       .next (settle (if late then replyKept x.f (errReply x.f 8) (slotDone p x (unhold x.f s.begin)) else s.begin))) ∧
   (∀ (src : BitVec 7) (tag : Byte) (m : MsgIn) (s : State),
     s.chn.msgIn.find? (fun m => m.src == src.toNat && m.tag == tag.toNat) = some m →
     let start : Frame := { cls := 2, dst := 0, typ := 1, src := src.toNat, tag := tag.toNat }
     (m.due ≤ s.now → exec (.msgtoExpiry none src tag) s = .next (settle (replyKept start (errReply start 8) (msgDrop m s.begin)))) ∧
     (s.now < m.due → exec (.msgtoExpiry none src tag) s = .next (settle s.begin))) ∧
   (∀ (cid : Cid) (s : State), Admits cid false R.CHN_MSGRES.addr s →
     (∀ (r : MsgRes) (rs : List MsgRes), s.chn.msgRes = r :: rs →
       exec (.msgresRead cid) s = .next (settle (({ s.begin with chn := { s.chn with msgRes := rs } } : State).answer
         ((r.handle + 65536 * r.code + 0x1000000 * r.cid + 0x80000000) % 2 ^ 32)))) ∧
     (s.chn.msgRes = [] → exec (.msgresRead cid) s = .next (settle (s.begin.answer 0)))))

/-- R423 to R425: a maintenance session opens with its key, from address 1 on the port that leads to it; flash operations start in a
session and are refused by status otherwise, their answer comes when the flash has done, or when its time is up; programming only
clears bits; closing answers first, then resets if asked; an accepted frame renews the session, and MAINTTO without one ends it. It
is stated of the model's choices in assumption log 49 and 84. -/
def Obligations.MaintenanceSessions : Prop :=
  (∀ (p : Fin 3) (f : Frame) (s u : State),
    let ok := maintOk p f u = true
    let held := u.on F.CHN_MAINT_OPEN = true
    let answer : Nat → State → State := fun n t => chainSend { cls := 3, dst := f.src, typ := 0x25, src := 0, tag := f.tag, data := [BitVec.ofNat 8 n, 0#8, 0#8, 0#8] } t
    let ends : State → Result := fun t => .next (settle t)
    let v := maintRenew p f u
    (ok → maintRenew p f u = { u with chn := { u.chn with maintAt := u.now + 10000000 * u.get F.CHN_TRCFG1_MAINTTO } }) ∧
    (¬ok → maintRenew p f u = u) ∧
    (Received p 3 0x20 f s u → ok → f.at_ 0 2 = 0x4D54 → exec (.mopen p) s = ends (answer 0 (setMaint true f.src v))) ∧
    (Received p 3 0x20 f s u → ¬ok ∨ f.at_ 0 2 ≠ 0x4D54 → exec (.mopen p) s = ends (answer 7 v)) ∧
    (let off := f.at_ 0 4
     let data := f.data.drop 4
     let status : Nat → Bool → Bool → Nat := fun n count aligned => if ¬ok then 7 else if ¬held then 1
       else if u.chn.relay.sending.isSome ∨ u.chn.maintOp.isSome then 6 else if u.on F.SYS_STRAP_BOOTSRC = false ∨ noFlash u = true then 2
       else if count = false ∨ u.flash.mode.size < off + n then 3 else if aligned = false then 4 else 0
     let starts : Nat → FlashOp → Nat → Result := fun st op wait => ends (if st = 0 then { v with chn := { v.chn with maintOp := some op, maintTag := f.tag, maintDue := v.now + wait } } else answer st v)
     let n := f.at_ 4 1
     let m := if n = 0 then 0x1000 else 0x10000
     (Received p 3 0x22 f s u → exec (.mread p) s = starts (status n (decide (1 ≤ n ∧ n ≤ 60)) true) (.read off n) 0) ∧
     (Received p 3 0x23 f s u → exec (.merase p) s = starts (status m (decide (n ≤ 1)) (decide (off % m = 0))) (.erase off m) 2000000000) ∧
     (Received p 3 0x24 f s u → exec (.mprog p) s =
       starts (status data.length true (decide (off / 256 = (off + data.length - 1) / 256))) (.prog off data) 5000000)) ∧
    (Received p 3 0x21 f s u → ok → held →
      let w := answer 0 (setMaint false 0 u)
      (f.at_ 0 1 = 1 → exec (.mclose p) s = ends (softReset true w)) ∧
      (f.at_ 0 1 = 2 → exec (.mclose p) s = ends (softReset true (w.set F.SYS_BOOTCTL_TRYB 1))) ∧
      (f.at_ 0 1 ≠ 1 → f.at_ 0 1 ≠ 2 → exec (.mclose p) s = ends w)) ∧
    (Received p 3 0x21 f s u → ok → ¬held → exec (.mclose p) s = ends (answer 1 v)) ∧
    (Received p 3 0x21 f s u → ¬ok → exec (.mclose p) s = ends (answer 7 u))) ∧
  (∀ (op : FlashOp) (s : State), s.chn.maintOp = some op →
    let t : State := { s.begin with chn := { s.chn with maintOp := none } }
    let answer : Nat → List Byte → State → State := fun n d t => chainSend { cls := 3, dst := 1, typ := 0x25, src := 0, tag := s.chn.maintTag, data := [BitVec.ofNat 8 n, 0#8, 0#8, 0#8] ++ d } t
    let polls := flashLimit op ≠ 0
    (polls → s.chn.maintDue ≤ s.now → exec (.flashOperationDone false) s = .next (settle (answer 5 [] t))) ∧
    (¬polls ∨ s.now < s.chn.maintDue → exec (.flashOperationDone false) s = .next (settle s.begin)) ∧
    (∀ off n, op = .read off n →
      exec (.flashOperationDone true) s = .next (settle (answer 0 ((List.range n).map fun i => flashByte (off + i) s) t))) ∧
    (∀ off n, op = .erase off n → ∃ bs, let v : State := { t with flash := { t.flash with bytes := bs } }
      exec (.flashOperationDone true) s = .next (settle (answer 0 [] v)) ∧
      ∀ a, a < 0x1000000 ∨ s.flash.mode.addr4 = true → flashByte a v = if off ≤ a ∧ a < off + n then 0xFF#8 else flashByte a s) ∧
    (∀ off d, op = .prog off d → ∃ bs, let v : State := { t with flash := { t.flash with bytes := bs } }
      exec (.flashOperationDone true) s = .next (settle (answer 0 [] v)) ∧
      ∀ a, a < 0x1000000 ∨ s.flash.mode.addr4 = true →
        flashByte a v = if off ≤ a ∧ a < off + d.length then flashByte a s &&& d.getD (a - off) 0#8 else flashByte a s)) ∧
  (∀ (ok : Bool) (s : State), s.chn.maintOp = none → exec (.flashOperationDone ok) s = .next (settle s.begin)) ∧
  (∀ s : State,
    let go := s.on F.CHN_MAINT_OPEN = true ∧ s.chn.maintAt ≤ s.now
    (go → exec .maintenanceTimeout s = .next (xEvent 2 ((s.begin.setB F.CHN_MAINT_OPEN false).set F.CHN_MAINT_HOLDER 0))) ∧
    (¬go → exec .maintenanceTimeout s = .next s.begin)) ∧
  (∀ (p : Fin 3) (s : State), ∀ e ∈ [(0x20, Instr.mopen p), (0x21, .mclose p), (0x22, .mread p), (0x23, .merase p), (0x24, .mprog p)],
    slotFind p 3 e.1 s.begin = none → exec e.2 s = .next (settle s.begin))

/-- R425: while a session is open no relay round starts, and requests wait; a flash operation that arrives during a round, or while
another runs, is answered BUSY, and one at a unit with BOOTSRC = 0, or whose flash does not answer, NOFLASH; a frame of a session is
accepted only after step 12 or in LIMP. -/
def Obligations.MaintenanceExcludesRelay : Prop :=
  (∀ s : State, s.on F.CHN_MAINT_OPEN = true → exec .relayRoundStart s = .next s.begin) ∧
  (∀ (p : Fin 3) (f : Frame) (s u : State), maintOk p f u = true → u.on F.CHN_MAINT_OPEN = true →
    let answer (n : Byte) : State := chainSend
      { cls := 3, dst := f.src, typ := 0x25, src := 0, tag := f.tag, data := [n, 0#8, 0#8, 0#8] } (maintRenew p f u)
    (u.chn.relay.sending.isSome = true ∨ u.chn.maintOp.isSome = true →
      (Received p 3 0x22 f s u → exec (.mread p) s = .next (settle (answer 6#8))) ∧
      (Received p 3 0x23 f s u → exec (.merase p) s = .next (settle (answer 6#8))) ∧
      (Received p 3 0x24 f s u → exec (.mprog p) s = .next (settle (answer 6#8)))) ∧
    (u.chn.relay.sending = none → u.chn.maintOp = none → u.on F.SYS_STRAP_BOOTSRC = false ∨ noFlash u = true →
      (Received p 3 0x22 f s u → exec (.mread p) s = .next (settle (answer 2#8))) ∧
      (Received p 3 0x23 f s u → exec (.merase p) s = .next (settle (answer 2#8))) ∧
      (Received p 3 0x24 f s u → exec (.mprog p) s = .next (settle (answer 2#8))))) ∧
  (∀ (p : Fin 3) (f : Frame) (s : State), maintOk p f s = true → s.get F.SYS_BOOTSTAT_STATE = 8 ∨ s.get F.SYS_BOOTSTAT_STATE = 9)

/-- R427 to R430, R35: every SYNCPER the head's SYNC carries a stamp of TB6, SEQ and STEP; a unit that receives it on the port that
leads to the head steps TB6 where the offset passes STEPLIM, else slews it by F − θ / 2^KP within 100 ppm, and after eight small
offsets sets DISC; the link's delay is measured by PDREQ, every 2^PDINT periods, and PDRSP; SYNCLOST periods without SYNC clear
DISC, once; the head's time is set by CID 1, and by no other. It is stated of the model's choices in assumption log 55 and 84. -/
def Obligations.ChainTime : Prop :=
  (∀ s : State,
    let y := s.chn.sync
    let d := leBytes 8 (stampTime s) ++ leBytes 4 0 ++ leBytes 2 y.seq ++ [if y.stepNext then 1#8 else 0#8, 0#8]
    let go := isHead s = true ∧ syncPeriod s ≤ y.since
    (go → exec .syncSend s = .next (chainSend { cls := 3, dst := 0x7F, typ := 0x10, src := 0, data := d }
      (s.begin.updSync fun y => { y with seq := (y.seq + 1) % 65536, stepNext := false, since := 0 }))) ∧
    (¬go → exec .syncSend s = .next s.begin)) ∧
  (∀ (p : Fin 3) (tb16 : Nat) (f : Frame) (s u : State), Received p 3 0x10 f s u →
    let theta : Int := (stampFine tb16 u : Int) - (16 * (f.at_ 0 8 : Int) + (BitVec.ofNat 32 (f.at_ 8 4)).toInt + (u.word R.CHN_TLINKDLY).toInt)
    let v := (((u.setInt F.CHN_TOFFS_THETA ((theta + 8) / 16)).set F.CHN_TSTAT_MISSED 0).set F.CHN_TSTAT_PORT (headPort u).val).updSync fun y => { y with since := 0, lost := false }
    let period := u.get F.CHN_TRCFG1_SYNCPER * 1000
    let here := isHead u = false ∧ p.val = (headPort u).val
    (here → 16 * (u.get F.CHN_TRCFG2_STEPLIM : Int) < theta.natAbs →
      exec (.syncReceive p tb16) s = .next (settle (xEvent 4 (discTo false
        ((stepTime (-((theta + 8) / 16)) v).count F.CHN_TSTAT_STEPCNT |>.updSync fun y => { y with good := 0 }))))) ∧
    (here → theta.natAbs ≤ 16 * u.get F.CHN_TRCFG2_STEPLIM →
      let fNew : Int := u.chn.sync.f - theta * 256 / (2 ^ u.get F.CHN_TRCFG2_KI : Nat)
      let lim : Int := (period * 4096 / 10000 : Nat)
      let slew : Int := max (-lim) (min lim (fNew - theta * 256 / (2 ^ u.get F.CHN_TRCFG2_KP : Nat)))
      let good := if theta.natAbs ≤ 320 then min 8 (u.chn.sync.good + 1) else 0
      let w := (v.updSync fun y => { y with f := fNew, slew := slew, slewLeft := period, good := good }).setInt F.CHN_TFREQ_F (fNew / 256)
      exec (.syncReceive p tb16) s = .next (settle (if good = 8 then discTo true w else w))) ∧
    (¬here → exec (.syncReceive p tb16) s = .next (settle u))) ∧
  (∀ s : State,
    let go := isHead s = false ∧ s.chn.sync.lost = false ∧ s.get F.CHN_TRCFG1_SYNCLOST ≤ s.get F.CHN_TSTAT_MISSED
    (go → exec .syncLost s = .next (xEvent 5 (discTo false (s.begin.updSync fun y => { y with good := 0, lost := true })))) ∧
    (¬go → exec .syncLost s = .next s.begin)) ∧
  (∀ s : State,
    let tag := (s.chn.sync.pdTag + 1) % 256
    let go := isHead s = false ∧ ownAddr s ≠ 0 ∧ 2 ^ s.get F.CHN_TRCFG1_PDINT * syncPeriod s ≤ s.chn.sync.pdSince
    (go → exec .pdreqSend s = .next (chainSendOn (headPort s) { cls := 3, dst := 0, typ := 0x11, tag := tag, src := ownAddr s }
      (s.begin.updSync fun y => { y with pdTag := tag, t1 := some (stampTime s), pdSince := 0 }))) ∧
    (¬go → exec .pdreqSend s = .next s.begin)) ∧
  (∀ (p : Fin 2) (f : Frame) (s u : State), Received p 3 0x11 f s u → exec (.pdreq (p.castLE (by decide))) s = .next (settle (chainSendOn p
    { cls := 3, dst := 0, typ := 0x12, tag := f.tag, src := ownAddr u, data := leBytes 8 (stampTime u) ++ leBytes 8 (stampTime u) } u))) ∧
  (∀ (f : Frame) (s u : State), Received 2 3 0x11 f s u → exec (.pdreq 2) s = .next (settle u)) ∧
  (∀ (p : Fin 3) (f : Frame) (s u : State), Received p 3 0x12 f s u →
    (∀ t1 : Nat, u.chn.sync.t1 = some t1 → f.tag = u.chn.sync.pdTag →
      let d : Int := (((stampTime u : Int) - t1) - ((f.at_ 8 8 : Int) - f.at_ 0 8)) * 8
      let ds := (d :: u.chn.sync.delays).take 4
      exec (.pdrsp p) s = .next (settle ((u.updSync fun y => { y with t1 := none, delays := ds }).setInt F.CHN_TLINKDLY_DLY
        (ds.foldl (· + ·) 0 / (ds.length : Int))))) ∧
    (u.chn.sync.t1 = none ∨ f.tag ≠ u.chn.sync.pdTag → exec (.pdrsp p) s = .next (settle u))) ∧
  (∀ (hi lo : Word) (s : State), isHead s = true → Admits 1 true R.CHN_TSETHI.addr s → Admits 1 true R.CHN_TSETLO.addr s →
    exec (.timeSet 1 hi lo) s = .next (settle (State.updSync { s.begin with tb := { s.tb with time := lo.toNat + hi.toNat * 2 ^ 32 } }
      fun y => { y with setHi := hi, stepNext := true }))) ∧
  (∀ (cid : Cid) (hi lo : Word) (s : State), isHead s = false ∨ cid ≠ 1 → Admits cid true R.CHN_TSETHI.addr s →
    Admits cid true R.CHN_TSETLO.addr s →
    let deny : Reg → State → State := fun r t => (busErr { cid := cid.toNat } true r.addr .deny t).answerRefused Cause.deny.code
    exec (.timeSet cid hi lo) s = .next (settle (deny R.CHN_TSETLO (deny R.CHN_TSETHI s.begin)))) ∧
  (∀ (p : Fin 3) (tb16 : Nat) (s : State), ∀ e ∈ [(0x10, Instr.syncReceive p tb16), (0x11, .pdreq p), (0x12, .pdrsp p)],
    slotFind p 3 e.1 s.begin = none → exec e.2 s = .next (settle s.begin))

/-- R435 to R437: the governor. An instance whose slack is negative beyond measure or below EMERG raises the target to VMAX at once;
one below TARGET raises it by 10 mV, within VMAX; any other counts toward the window, whose end, with high slack in all of it,
lowers the target by 5 mV, not below the floor; a scheduler that is not governed moves nothing; VCORE reaches the target, an
ordinary change no faster than 5 mV in 10 µs (counted from the target's last change, the model's choice, assumption log 82). R440 to
R443: a policy trigger that acts with RAMP or STOP latches; CLR by CID 1 clears the latches whose trigger is over, and by others it
does not; STOP faults the legs in scope; the ramp's end, once REMAIN is 0, with a leg still armed escalates to STOP; the thermal
factor falls linearly and is monotone. It is stated of the model's choices in assumption log 58 and 82. -/
def Obligations.GovernorAndPolicy : Prop :=
  ((∀ (c : Fin 2) (v : Int) (lsper : Nat) (s : State),
     let runs := s.gov.released = true ∧ s.on F.SYS_GOVSET_MODE = false ∧ governed c s = true
     let tgt := s.get F.SYS_GOVCFG_TARGET
     let emg : Int := (s.get F.SYS_GOVCFG_EMERG * lsper / 100 : Nat)
     let thr : Int := (tgt * lsper / 100 : Nat)
     let t := govInstance c v lsper s
     let done := vupd s.gov.closed c (· + 1)
     let full := (governed 0 s = true → 64 ≤ done.get 0) ∧ (governed 1 s = true → 64 ≤ done.get 1)
     let high := s.gov.allHigh = true ∧ ((tgt + s.get F.SYS_GOVCFG_HYST) * lsper / 100 : Nat) ≤ v
     (runs → v = -32768 ∨ v < emg → t.get F.SYS_GOVSTAT_VTGT = s.get F.SYS_GOVLIM_VMAX ∧ t.get F.SYS_GOVSTAT_STATE = 3) ∧
     (runs → v ≠ -32768 → emg ≤ v → v < thr →
       t.get F.SYS_GOVSTAT_VTGT = min (s.get F.SYS_GOVSTAT_VTGT + 10) (s.get F.SYS_GOVLIM_VMAX)) ∧
     (runs → v ≠ -32768 → emg ≤ v → thr ≤ v → ¬full → t.get F.SYS_GOVSTAT_VTGT = s.get F.SYS_GOVSTAT_VTGT ∧ t.gov.closed = done) ∧
     (runs → v ≠ -32768 → emg ≤ v → thr ≤ v → full →
       t.get F.SYS_GOVSTAT_VTGT = (if high then max (s.get F.SYS_GOVSTAT_VTGT - 5) (govFloor s) else s.get F.SYS_GOVSTAT_VTGT) ∧
         t.gov.closed = Vector.replicate 2 0) ∧
     (¬runs → t = s)) ∧
   (∀ s : State,
     let soon := s.gov.emerg = false ∧ s.now < s.gov.movedAt + 2000 * ((s.get F.SYS_GOVSTAT_VTGT : Int) - s.gov.vcore).natAbs
     let t : State := { s.begin with gov := { s.gov with vcore := s.get F.SYS_GOVSTAT_VTGT, emerg := false } }
     (¬soon → exec .vcoreReached s = .next (calEnvironment (if s.get F.SYS_GOVSTAT_STATE = 3 then t.set F.SYS_GOVSTAT_STATE 1 else t)).faultEval) ∧
     (soon → exec .vcoreReached s = .next (calEnvironment s.begin).faultEval))) ∧
  ((∀ (b : Nat) (s : State), b < 9 →
     (polSet b true s).bit F.SYS_POLSTAT_TRIG b = true ∧ (polSet b false s).bit F.SYS_POLSTAT_TRIG b = false ∧
     (2 ≤ polAction b s → s.bit F.SYS_POLSTAT_TRIG b = false → (polSet b true s).bit F.SYS_POLLATCH_LATCH b = true) ∧
     (∀ c, s.bit F.SYS_POLLATCH_LATCH c = true → (polSet b false s).bit F.SYS_POLLATCH_LATCH c = true)) ∧
   (∀ (b l : Nat) (s : State), b < 9 → l < 16 → polAction b s = 3 → s.get F.SYS_POLSTAT_ACTION ≠ 3 → inScope (legGroup l s) s = true →
     legArmed l s = true → legState l (polSet b true s) = 3) ∧
   (∀ (cid : Cid) (w : Word) (s : State), Admits cid true R.SYS_POLCTL.addr s →
     let clears := cid = 1 ∧ fieldOf 0 1 w = 1
     (clears → exec (.policyClear cid w) s = .next (settle (polUpdate (s.begin.set F.SYS_POLLATCH_LATCH
       (s.get F.SYS_POLLATCH_LATCH &&& s.get F.SYS_POLSTAT_TRIG))))) ∧
     (cid.toNat ≤ 1 → ¬clears → exec (.policyClear cid w) s = .next (settle s.begin)) ∧
     (2 ≤ cid.toNat → exec (.policyClear cid w) s = .next (settle
       ((busErr { cid := cid.toNat } true R.SYS_POLCTL.addr .deny s.begin).answerRefused Cause.deny.code)))) ∧
   (∀ s : State,
     let due := s.pol.rampOn = true ∧ s.get F.SYS_POLRAMP_REMAIN = 0
     let t : State := { s.begin with pol := { s.pol with rampOn := false } }
     (due → (∃ l < 16, legArmed l t = true ∧ inScope (legGroup l t) t = true) →
       exec .rampBackstopExpiry s = .next (polUpdate ({ t with pol := { t.pol with escalated := true } }.raise 0x06))) ∧
     (due → (∀ l < 16, ¬ (legArmed l t = true ∧ inScope (legGroup l t) t = true)) → exec .rampBackstopExpiry s = .next t) ∧
     (¬due → exec .rampBackstopExpiry s = .next s.begin)) ∧
   (∀ (x y a b : Int) (lo : Nat), a < b → lo ≤ 0x7FFF → x ≤ y →
     lo ≤ factorAt y a b lo ∧ factorAt y a b lo ≤ factorAt x a b lo ∧ factorAt x a b lo ≤ 0x7FFF))

/-- R458, R462, R463, R466 to R469: a command to LCS_CMD by CID 0, CID 1 or CID 62 through the TAP, of others denied: while one is
under way ERR BUSY, with another key ERR KEY, in a state or of a client that the table does not allow its ERR, with event 0xE7 and
nothing else changed; an accepted transition closes the secure bank and starts the wipe before any fuse is blown, KEYPROG blows the
digest and then the slot's flag, REVOKE its revocation. A tamper source that appears and is enabled is recorded and summed, or
raises the action of the response under way, or closes the bank and blows the next TSET bit first, and with TSET full wipes at once
for KILL; a source already there does nothing. The fuses are read again every 16 000 000 TB10 ticks. LCS_TAMPCFG is written by CID
1, locked only upward, a write by CID 0 leaves it (DEDUCED, assumption log 11). It is stated of the model's choices in assumption
log 11, 56, 78 and 83. -/
def Obligations.LifeCycleAndTamper : Prop :=
  (∀ (cid : Cid) (slot : Fin 4) (key : BitVec 16) (s : State), cid = 62 ∨ Admits cid true R.LCS_CMD.addr s →
    let k := cid.toNat
    let err : Nat → Result := fun e => .next (settle ((s.begin.set F.LCS_CMDSTAT_ERR e).raise 0xE7))
    let shut : Result := .next (settle (s.begin.answerRefused Cause.deny.code))
    let deny : Result := .next (settle ((busErr { cid := k } true R.LCS_CMD.addr .deny s.begin).answerRefused Cause.deny.code))
    let took : Nat → Nat → State := fun cmd n => (s.begin.updLcs fun l => { l with cmd := some { cmd := cmd, slot := n } }).set F.LCS_CMDSTAT_BUSY 1
    let move : Nat → State := fun cmd => wipeStart .lifeCycle ((took cmd 0).updLcs fun l => { l with secClosed := true })
    let hash := ((List.range 256).filter fun i => (keyDigest s).getLsbD i).map (FuseBit.keyHash slot)
    let may := if cid = 62 then debugOpen s else decide (k ≤ 1)
    let out : Nat → Nat → State → Result := fun cmd n v => if !may then (if cid = 62 then shut else deny) else if s.on F.LCS_CMDSTAT_BUSY then err 8 else if key ≠ 0x4C43#16 then err 1 else if cmdCheck k cmd n s ≠ 0 then err (cmdCheck k cmd n s) else .next (settle v)
    exec (.develop cid key) s = out 1 0 (move 1) ∧
    exec (.seal cid key) s = out 2 0 (move 2) ∧
    exec (.returnLc cid key) s = out 3 0 (move 3) ∧
    exec (.spend cid key) s = out 4 0 (move 4) ∧
    exec (.keyprog cid slot key) s = out 5 slot (fuseRequest .key (hash ++ [.keyProg slot]) (took 5 slot)) ∧
    exec (.revoke cid slot key) s = out 6 slot (fuseRequest .key [.keyRev slot] (took 6 slot))) ∧
  (∀ (cid slot : Nat) (s : State),
    (cmdCheck cid 1 slot s = 0 → cid = 62 ∧ lifeState s = 0) ∧ (cmdCheck cid 2 slot s = 0 → cid = 1 ∧ lifeState s = 1) ∧
    (cmdCheck cid 3 slot s = 0 → cid = 1 ∧ lifeState s = 2) ∧
    (cmdCheck cid 4 slot s = 0 → lifeState s ≠ 4 ∧ (cid = 1 ∨ (cid = 62 ∧ lifeState s ≠ 2))) ∧
    (cmdCheck cid 5 slot s = 0 → lifeState s ≤ 2 ∧ (cid = 1 ∨ (cid = 62 ∧ lifeState s ≤ 1)) ∧ s.lcs.fuses.keyProg.getLsbD slot = false) ∧
    (cmdCheck cid 6 slot s = 0 → cid = 1 ∧ slotUsable slot s = true ∧ ∃ k < 4, k ≠ slot ∧ slotUsable k s = true) ∧
    (∀ cmd, cmdCheck cid cmd slot s = 0 → 1 ≤ cmd ∧ cmd ≤ 6 ∧ s.bit F.ADC_SUPSTAT_LIVE 1 = false)) ∧
  (∀ (i : Fin 6) (s : State),
    let u := s.begin.setBit F.LCS_TAMPSTAT_LIVE i true
    (s.bit F.LCS_TAMPSTAT_LIVE i = true → exec (.tamperDetect i) s = .next s.begin) ∧
    (s.bit F.LCS_TAMPSTAT_LIVE i = false →
      (tampAction i u = none → exec (.tamperDetect i) s = .next u) ∧
      (tampAction i u = some 0 → exec (.tamperDetect i) s = .next (faultSummary (tampRecord i u))) ∧
      (∀ act, tampAction i u = some act → act ≠ 0 → s.lcs.resp = none →
        exec (.tamperDetect i) s = .next (tampStep3 (tampRecord i
          (u.updLcs fun l => { l with secClosed := true, resp := some { action := act } }).faultEval))) ∧
      (∀ act r, tampAction i u = some act → act ≠ 0 → s.lcs.resp = some r →
        exec (.tamperDetect i) s = .next (faultSummary (tampRecord i
          (u.updLcs fun l => { l with resp := some { r with action := max r.action act } })))))) ∧
  (∀ (i : Fin 6) (s : State), exec (.tamperConditionEnd i) s = .next (s.begin.setBit F.LCS_TAMPSTAT_LIVE i false)) ∧
  (∀ (same : Bool) (s : State),
    let v := s.updLcs fun l => { l with rereadAt := s.tb.cnt.get 10 }
    (s.tb.cnt.get 10 < s.lcs.rereadAt + 16000000 → exec (.fuseReread same) s = .next s.begin) ∧
    (s.lcs.rereadAt + 16000000 ≤ s.tb.cnt.get 10 →
      exec (.fuseReread same) s = if same then .next (v.begin.setBit F.LCS_TAMPSTAT_LIVE 4 false) else exec (.tamperDetect 4) v)) ∧
  (∀ s : State,
    (ones s.lcs.fuses.tset < 16 → tampStep3 s = fuseRequest .tamper [.tset (ones s.lcs.fuses.tset)] s) ∧
    (∀ r, s.lcs.fuses.tset = 0xFFFF#16 → s.lcs.resp = some r →
      tampStep3 s = wipeStart .tamper (s.updLcs fun l => { l with resp := some { action := 3, step := 4 } }))) ∧
  (∀ (w : Word) (s : State),
    (Admits 1 true R.LCS_TAMPCFG.addr s →
      (s.on F.LCS_TAMPCFG_LOCK = false →
        exec (.tampcfgWrite 1 w) s = .next (settle (s.begin.setWord R.LCS_TAMPCFG (w &&& 0x8007FFFF#32)))) ∧
      (∀ n < 4096, s.on F.LCS_TAMPCFG_LOCK = true →
        (∀ i < 6, n / 4 ^ i % 4 = max (s.get F.LCS_TAMPCFG_TACT / 4 ^ i % 4) (w.toNat / 64 / 4 ^ i % 4)) →
        exec (.tampcfgWrite 1 w) s = .next (settle
          ((s.begin.set F.LCS_TAMPCFG_TEN (s.get F.LCS_TAMPCFG_TEN ||| w.toNat % 64)).set F.LCS_TAMPCFG_TACT n)))) ∧
    (Admits 0 true R.LCS_TAMPCFG.addr s → exec (.tampcfgWrite 0 w) s = .next (settle s.begin)) ∧
    (∀ cid : Cid, 2 ≤ cid.toNat → Admits cid true R.LCS_TAMPCFG.addr s → exec (.tampcfgWrite cid w) s =
      .next (settle ((busErr { cid := cid.toNat } true R.LCS_TAMPCFG.addr .deny s.begin).answerRefused Cause.deny.code))))

/-- R470 to R473, R475 to R477: a write of LCS_WDnCTL, refused BUSY once LOCK is 1: enabling starts the count, or sets CFGERR for an
empty window; a kick in the window with the key that is due, by KCID, restarts it and turns to the other key, and any other kick, or
none up to WINHI, is a violation with its cause, of which the first makes a WDR due in 16000 TB10 ticks; a watchdog that does not
run, or has had its violation, ignores kicks. The clock monitor, and FSET: a write by CID 0 of FSET or FCLR does nothing (DEDUCED,
assumption log 11), of others but CID 1 it is denied. It is stated of the model's choices in assumption log 57. -/
def Obligations.Watchdogs : Prop :=
  (∀ (cid : Cid) (n : Fin 2) (w : Word) (s : State), Admits cid true (R.LCS_WDnCTL n).addr s →
    let a := (R.LCS_WDnCTL n).addr
    let refuse : Cause → Result := fun c => .next (settle ((busErr { cid := cid.toNat } true a c s.begin).answerRefused c.code))
    let u := ((s.begin.set (F.LCS_WDnCTL_LOCK n) (w.toNat / 2 % 2)).set (F.LCS_WDnCTL_DBGPAUSE n) (w.toNat / 4 % 2)).set (F.LCS_WDnCTL_KCID n) (w.toNat / 256 % 64)
    let u := if w.getLsbD 16 then u.set (F.LCS_WDnCTL_CFGERR n) 0 else u
    let go := cid.toNat ≤ 1 ∧ s.on (F.LCS_WDnCTL_LOCK n) = false
    let ends : State → Prop := fun t => exec (.watchdogEnable cid n w) s = .next (settle t)
    (2 ≤ cid.toNat → exec (.watchdogEnable cid n w) s = refuse .deny) ∧
    (cid.toNat ≤ 1 → s.on (F.LCS_WDnCTL_LOCK n) = true → exec (.watchdogEnable cid n w) s = refuse .busy) ∧
    (go → w.getLsbD 0 = false → ends (u.set (F.LCS_WDnCTL_EN n) 0)) ∧
    (go → w.getLsbD 0 = true → s.on (F.LCS_WDnCTL_EN n) = true → ends u) ∧
    (go → w.getLsbD 0 = true → s.on (F.LCS_WDnCTL_EN n) = false → s.get (F.LCS_WDnWIN_WINLO n) < s.get (F.LCS_WDnWIN_WINHI n) →
      ends ((wdRestart n (u.set (F.LCS_WDnCTL_EN n) 1)).set (F.LCS_WDnSTAT_NEXT n) 0)) ∧
    (go → w.getLsbD 0 = true → s.on (F.LCS_WDnCTL_EN n) = false → s.get (F.LCS_WDnWIN_WINHI n) ≤ s.get (F.LCS_WDnWIN_WINLO n) →
      ends (u.set (F.LCS_WDnCTL_CFGERR n) 1))) ∧
  (∀ (cid : Cid) (n : Fin 2) (key : BitVec 16) (s : State), Admits cid true (R.LCS_WDnKICK n).addr s →
    let next := s.get (F.LCS_WDnSTAT_NEXT n)
    let due := if next = 0 then 0xA55A#16 else 0x5AA5#16
    let live := wdRuns n s = true ∧ s.lcs.wdSrc.get n = false
    let early := s.get (F.LCS_WDnSTAT_COUNT n) < s.get (F.LCS_WDnWIN_WINLO n)
    let run : Result := exec (.watchdogKick cid n key) s
    (¬live → run = .next (settle s.begin)) ∧
    (live → early → run = .next (settle (wdViolation n 1 s.begin))) ∧
    (live → ¬early → key ≠ due → run = .next (settle (wdViolation n 3 s.begin))) ∧
    (live → ¬early → key = due → cid.toNat ≠ s.get (F.LCS_WDnCTL_KCID n) → run = .next (settle (wdViolation n 4 s.begin))) ∧
    (live → ¬early → key = due → cid.toNat = s.get (F.LCS_WDnCTL_KCID n) →
      run = .next (settle ((wdRestart n s.begin).set (F.LCS_WDnSTAT_NEXT n) (1 - next))))) ∧
  (∀ (n : Fin 2) (s : State),
    let late := wdRuns n s = true ∧ s.get (F.LCS_WDnWIN_WINHI n) ≤ s.get (F.LCS_WDnSTAT_COUNT n)
    (late → exec (.watchdogLate n) s = .next (wdViolation n 2 s.begin)) ∧
    (¬late → exec (.watchdogLate n) s = .next s.begin)) ∧
  (∀ (n : Fin 2) (viol : Nat) (s : State),
    (s.lcs.wdrDue = none → (wdViolation n viol s).lcs.wdSrc.get n = true ∧ (wdViolation n viol s).lcs.wdrDue = some 16000 ∧
      (wdViolation n viol s).get F.LCS_WDRCAUSE_WD = n ∧ (viol < 8 → (wdViolation n viol s).get F.LCS_WDRCAUSE_VIOL = viol)) ∧
    (∀ d, s.lcs.wdrDue = some d → wdViolation n viol s = s)) ∧
  (∀ s : State, (s.lcs.wdrDue = some 0 → exec .watchdogReset s = .next (resetTo 2 s.begin)) ∧
    (s.lcs.wdrDue ≠ some 0 → exec .watchdogReset s = .next s.begin)) ∧
  (∀ s : State,
    let acts := s.get F.TB_REFSTAT_BAND = 0 ∧ s.on F.TB_REFSTAT_FINE = true
    (acts → exec .clkmonFault s = .next (s.begin.updLcs fun l => { l with clkmon := true }).faultEval) ∧
    (¬acts → exec .clkmonFault s = .next s.begin) ∧
    exec .clkmonReturn s = .next (s.begin.updLcs fun l => { l with clkmon := false }).faultEval) ∧
  (∀ (w : Word) (s : State),
    let a := R.LCS_FSET.addr
    (Admits 1 true a s → exec (.faultSet 1 w) s = .next (settle (if w.getLsbD 0 then s.begin.faultPulse 11 else s.begin))) ∧
    (Admits 0 true a s → exec (.faultSet 0 w) s = .next (settle s.begin)) ∧
    (∀ cid : Cid, 2 ≤ cid.toNat → Admits cid true a s → exec (.faultSet cid w) s =
      .next (settle ((busErr { cid := cid.toNat } true a .deny s.begin).answerRefused Cause.deny.code)))) ∧
  (∀ (key : BitVec 16) (s : State),
    let a := R.LCS_FCLR.addr
    (Admits 0 true a s → exec (.faultClear 0 key) s = .next (settle s.begin)) ∧
    (∀ cid : Cid, 2 ≤ cid.toNat → Admits cid true a s → exec (.faultClear cid key) s =
      .next (settle ((busErr { cid := cid.toNat } true a .deny s.begin).answerRefused Cause.deny.code))))

/-- R477: a write of LCS_FCLR by CID 1 with KEY 0xFC1A clears the sticky bits whose source is inactive, and SAFE with event 0xE4
where no source acting as SAFE is active; with another KEY it does nothing. -/
def Obligations.FaultClear : Prop :=
  ∀ (key : BitVec 16) (s : State), Admits 1 true R.LCS_FCLR.addr s →
    let u := s.begin.set F.LCS_FSTICKY (s.get F.LCS_FSTICKY &&& s.get F.LCS_FACT)
    let ends : State → Prop := fun t => exec (.faultClear 1 key) s = .next (settle t)
    (key ≠ 0xFC1A#16 → ends s.begin) ∧
    (key = 0xFC1A#16 → (∃ b < 12, s.bit F.LCS_FACT b = true ∧ actsSafe b s = true) → ends (faultSummary u)) ∧
    (key = 0xFC1A#16 → s.on F.LCS_FSTAT_SAFE = false → ends (faultSummary u)) ∧
    (key = 0xFC1A#16 → s.on F.LCS_FSTAT_SAFE = true → (∀ b < 12, ¬ (s.bit F.LCS_FACT b = true ∧ actsSafe b s = true)) →
      ends (faultSummary ((u.set F.LCS_FSTAT_SAFE 0).raise 0xE4)))

/-- R487 to R492: a switch request by CID 1, of others denied, that R490 refuses records its code and changes no function; an
accepted one releases the pad, which carries no function until the take, 20 ns later at the soonest, puts the asked one in force,
and with it a fault input that is active; GPSET and GPCLR change the named outputs and no other. It is stated of the model's choices
in assumption log 59. -/
def Obligations.Pins : Prop :=
  (∀ (cid : Cid) (w : Word) (s : State), Admits cid true R.PIN_SWREQ.addr s →
    let i := w.toNat % 128
    let f := w.toNat / 256 % 4
    let u := s.begin.set F.PIN_SWSTAT_PAD i
    let ends : State → Prop := fun t => exec (.pinSwitchRequest cid w) s = .next (settle t)
    (cid ≠ 1 → ends ((busErr { cid := cid.toNat } true R.PIN_SWREQ.addr .deny s.begin).answerRefused Cause.deny.code)) ∧
    (cid = 1 → switchError i f s ≠ 0 → ends ((u.set F.PIN_SWSTAT_ERR (switchError i f s)).set F.PIN_SWSTAT_DONE 1)) ∧
    (cid = 1 → switchError i f s = 0 → s.get (F.PIN_CFG_FUNC i) = f → ends ((u.set F.PIN_SWSTAT_ERR 0).set F.PIN_SWSTAT_DONE 1)) ∧
    (cid = 1 → switchError i f s = 0 → s.get (F.PIN_CFG_FUNC i) ≠ f →
      let v := ((u.set F.PIN_SWSTAT_ERR 0).set F.PIN_SWSTAT_DONE 0).set F.PIN_SWSTAT_BUSY 1
      ends (padRelease i { v with pins := { v.pins with target := some (i, f), swAt := s.now } }))) ∧
  (∀ (i f : Nat) (s : State), switchError i f s = 0 → i ≤ 98 ∧ s.on (F.PIN_CFG_SWITCHABLE i) = true ∧ padOffers i f = true ∧
    s.on F.PIN_SWSTAT_BUSY = false ∧ padTaken i f s = false ∧ ¬(i < 32 ∧ s.get (F.PIN_CFG_FUNC i) = 1 ∧ legState (i / 2) s ≠ 0)) ∧
  (∀ (i f : Nat) (s : State), s.pins.target = some (i, f) →
    let u : State := { s.begin with pins := { s.pins with target := none } }
    let v := (((u.set (F.PIN_CFG_FUNC i) f).set (F.PIN_CFG_TRANS i) 0).set F.PIN_SWSTAT_BUSY 0).set F.PIN_SWSTAT_DONE 1
    let acts := f = 1 ∧ 80 ≤ i ∧ i ≤ 87 ∧ fltActive (i - 80) v = true
    (s.pins.swAt + 20 ≤ s.now → acts → exec .pinSwitchTake s = .next (faultInput (i - 80) v)) ∧
    (s.pins.swAt + 20 ≤ s.now → ¬acts → exec .pinSwitchTake s = .next v) ∧
    (s.now < s.pins.swAt + 20 → exec .pinSwitchTake s = .next s.begin)) ∧
  (∀ s : State, s.pins.target = none → exec .pinSwitchTake s = .next s.begin) ∧
  (∀ (cid : Cid) (k : Fin 4) (w : Word) (s : State),
    let m := if k = 3 then w &&& 7#32 else w
    let old := s.word (R.PIN_GPOUT k)
    (Admits cid true (R.PIN_GPSET k).addr s →
      exec (.gpioSet cid k w) s = .next (settle (s.begin.setWord (R.PIN_GPOUT k) (old ||| m)))) ∧
    (Admits cid true (R.PIN_GPCLR k).addr s →
      exec (.gpioClear cid k w) s = .next (settle (s.begin.setWord (R.PIN_GPOUT k) (old &&& ~~~w)))))

/-- R13 to R16, R235, R239, R267, R287: at a service point the requests that have arrived pend, one is served while the others stay
captured, and the resource idles where none pends. A bank serves a fetch due back to back first, else the CID that comes soonest
after its pointer, and what was captured before a power request before the power request; a group makes a hop of an inheritance
update first, and else serves the highest effective priority among the local requests and the first of port B, and of equal ones the
least CID; port B, the pool and the event router take the least class of R287, where at port B a request of the window's bank for
the same word goes first by the bank's order; doorbells go in ring order, local ones first. A request that shares no word with a
captured write is served as its access is. R11: a scheduled action is the operation of its own event's command. It is stated of the
model's choices in assumption log 19, 20 and 71. -/
def Obligations.ServicePointsAndSchedules : Prop :=
  ((∀ (q : Resource) (l : List SvcReq) (s : State),
     let u := l.foldl (fun s r => svcArrive r s) s.begin
     let serve : SvcReq → State → State := fun r v => svcServe r (capturedWith q (svcErase r v)) (svcErase r v)
     (∀ b, q = .bank b →
       let v := pwrCapture b 0 u
       (svcWinner q v = none → exec (.servicePoint q l) s = .next (settle (pwrServed b v))) ∧
       (∀ r, svcWinner q v = some r → exec (.servicePoint q l) s = .next (settle (pwrServed b (serve r v))))) ∧
     (∀ g, q = .group g → (u.share.hops.any fun h => h.1 / 16 == (g : Nat)) = true →
       exec (.servicePoint q l) s = .next (settle (nextHop g u))) ∧
     ((∃ g, q = .group g ∧ (u.share.hops.any fun h => h.1 / 16 == (g : Nat)) = false) ∨ q ∈ [.portB, .bells, .pool, .router] →
       (svcWinner q u = none → exec (.servicePoint q l) s = .next (settle u)) ∧
       (∀ r, svcWinner q u = some r → exec (.servicePoint q l) s = .next (settle (serve r u))))) ∧
   (∀ (b : Fin 68) (r : SvcReq) (s : State), svcWinner (.bank b) s = some r →
     let l := pendingAt (.bank b) s
     (pwrWaiting b s = none → (l.any fun x => fetchDue b s x) = true → r ∈ l ∧ fetchDue b s r = true) ∧
     (pwrWaiting b s = none → (l.any fun x => fetchDue b s x) = false →
       r ∈ l ∧ ∀ x ∈ l, ringKey (bankPtr b s) r ≤ ringKey (bankPtr b s) x) ∧
     (∀ k t n, pwrWaiting b s = some (k, t, some n) → r ∈ l.take n)) ∧
   (∀ (g : Fin 8) (r x : SvcReq) (s : State),
     let l := pendingAt (.group g) s
     let c := (l.filter fun y => !y.viaB) ++ (l.filter fun y => y.viaB).take 1
     svcWinner (.group g) s = some r → x ∈ c → reqPri s r ≤ 15 → reqPri s x ≤ 15 →
     r ∈ c ∧ (reqPri s x < reqPri s r ∨ (reqPri s x = reqPri s r ∧ reqTie r ≤ reqTie x))) ∧
   (∀ (r x : SvcReq) (s : State),
     (∀ q ∈ [Resource.pool, .router], svcWinner q s = some r → x ∈ pendingAt q s → r ∈ pendingAt q s ∧ classKey r ≤ classKey x) ∧
     (svcWinner .portB s = some r → ∃ m ∈ pendingAt .portB s, (x ∈ pendingAt .portB s → classKey m ≤ classKey x) ∧
       (r = m ∨ (r ∈ pendingAt (.bank 0x40) s ∧ shareWord m r = true ∧
         (x ∈ pendingAt (.bank 0x40) s → shareWord m x = true → ringKey (bankPtr 0x40 s) r ≤ ringKey (bankPtr 0x40 s) x)))) ∧
     (svcWinner .bells s = some r → x ∈ pendingAt .bells s → x.viaB = false →
       r ∈ pendingAt .bells s ∧ r.viaB = false ∧ ringKey s.svc.bellPtr r ≤ ringKey s.svc.bellPtr x) ∧
     (svcWinner .bells s = some r → (∀ y ∈ pendingAt .bells s, y.viaB = true) → (pendingAt .bells s).head? = some r)) ∧
   (∀ (q : Resource) (s : State), (∀ b : Fin 68, q = .bank b → pwrWaiting b s = none) → (svcWinner q s = none ↔ pendingAt q s = [])) ∧
   (∀ (r : SvcReq) (others : List SvcReq) (s : State), writesWith r others s = [] → svcServe r others s = noteFetch r others (svcAccess r s))) ∧
  ((∀ (l : Fin 16) (s : State), exec (.scheduledAction (.edge l)) s = .next (outputEdge l.val s.begin)) ∧
   (∀ (g : Fin 4) (k : Fin 8) (s : State), exec (.scheduledAction (.trigger g k)) s = .next (triggerFire g.val k.val s.begin)) ∧
   (∀ (c : Fin 2) (s : State), exec (.scheduledAction (.loop c)) s = .next (schedTrigger c s.begin)) ∧
   (∀ (n : Fin 32) (s : State), exec (.scheduledAction (.pinEvent n)) s = .next (pinEventFire n.val s.begin)) ∧
   (∀ (c : Fin 4) (s : State), exec (.scheduledAction (.adcTimer c)) s = .next (adcTimer c.val s.begin)) ∧
   (∀ (g : Fin 4) (s : State), exec (.scheduledAction (.carrier g)) s = .next (carrierStart g.val s.begin)))

/-- A step takes the command at the front of the queue and runs it on the state with the queue's rest; with an empty queue it is one
idle tick. It is stated of the model's choices in assumption log 2 and 17. -/
def Obligations.StepRunsFrontCommand : Prop :=
  (∀ (c : Instr) (rest : List Instr) (s : State), s.pending = c :: rest → step s = exec c { s with pending := rest }) ∧
  (∀ s : State, s.pending = [] → step s = .next (tick s))

/-- Every command runs to a next state from every state, and leaves the queue of waiting commands as it is. It is stated of the
model's choices in assumption log 3. -/
def Obligations.EveryCommandCompletes : Prop :=
  ∀ (c : Instr) (s : State), ∃ t, exec c s = .next t ∧ t.pending = s.pending

/-- Every step keeps the canonical form: the listed register addresses rise strictly, and the memory lists nothing that reads as an
unlisted word. -/
def Obligations.StepKeepsCanonicalForm : Prop :=
  ∀ s t : State, s.canon = true → step s = .next t → t.canon = true

/-- R459: a blown fuse stays blown: whatever the step, every fuse bit that reads 1 before reads 1 after. -/
def Obligations.StepKeepsBlownFuses : Prop :=
  ∀ (b : FuseBit) (s t : State), s.lcs.fuses.blown b = true → step s = .next t → t.lcs.fuses.blown b = true

/-- R22 to R36: the commands of the reference and of the delay lines touch the timebases, the event router, the DMA triggers, the
policy sequencer and the legs only. Memory, the processors, the pins, the chain and every other block stay as they are, and so does
every register outside the blocks of system control, the timebases, the router, the DMA and the PWM generator. It is stated of the
model's choices in assumption log 26. -/
def Obligations.ReferenceCommandsFrame : Prop :=
  ∀ (ratio : Nat) (err : Int) (g : Fin 5) (ok : Bool) (s t : State),
    ∀ c ∈ [Instr.filteredErrorRecomputation ratio err, .trimRemovalDone, .missingEdgeDetect, .grossErrorDetect, .primaryRestart,
      .loopPullin, .rcLoss, .rcReturn, .retdlyExpiry, .primaryReturn, .lineCalibrationDone g ok, .lineSwap g],
    exec c s = .next t →
    t.mem = s.mem ∧ t.memCtl = s.memCtl ∧ t.camp = s.camp ∧ t.yar = s.yar ∧ t.share = s.share ∧ t.chn = s.chn ∧ t.lcs = s.lcs ∧
    t.pins = s.pins ∧ t.tsl = s.tsl ∧ t.tslPin = s.tslPin ∧ t.uart = s.uart ∧ t.i2c = s.i2c ∧ t.sense = s.sense ∧ t.sched = s.sched ∧
    t.gov = s.gov ∧ t.flash = s.flash ∧ t.boot = s.boot ∧ t.svc = s.svc ∧ t.now = s.now ∧ t.free = s.free ∧
    ∀ r : Reg, (0x50004000 ≤ r.addr ∧ r.addr < 0x50008000) ∨ 0x5000A000 ≤ r.addr → t.word r = s.word r
end

