-- ==== Sys2Proof/Laws/Fields.lean ====
section
/-!
SUPPORT. Laws of the bit fields of a word: a field reads as written, and the others keep.
-/
namespace Sys2Proof.Machine

/-- A word as the bits below a field, the field, and those above. -/
theorem field_split (lo wid n : Nat) :
    n = n % 2 ^ lo + n / 2 ^ lo % 2 ^ wid * 2 ^ lo + n / 2 ^ (lo + wid) * 2 ^ (lo + wid) := by
  have h1 := Nat.div_add_mod n (2 ^ lo)
  have h2 := Nat.div_add_mod (n / 2 ^ lo) (2 ^ wid)
  rw [Nat.div_div_eq_div_mul, ← pow_add] at h2
  have h3 : 2 ^ (lo + wid) = 2 ^ wid * 2 ^ lo := by rw [pow_add, mul_comm]
  calc n = 2 ^ lo * (n / 2 ^ lo) + n % 2 ^ lo := h1.symm
    _ = 2 ^ lo * (2 ^ wid * (n / 2 ^ (lo + wid)) + n / 2 ^ lo % 2 ^ wid) + n % 2 ^ lo := by rw [h2]
    _ = _ := by rw [h3]; ring

theorem fieldPut_toNat {lo wid : Nat} (h : lo + wid ≤ 32) (v : Nat) (w : Word) :
    (fieldPut lo wid v w).toNat =
      w.toNat % 2 ^ lo + v % 2 ^ wid * 2 ^ lo + w.toNat / 2 ^ (lo + wid) * 2 ^ (lo + wid) := by
  have hs := field_split lo wid w.toNat
  have hw := w.isLt
  have hp : 2 ^ (lo + wid) = 2 ^ wid * 2 ^ lo := by rw [pow_add, mul_comm]
  have hlo : w.toNat % 2 ^ lo < 2 ^ lo := Nat.mod_lt _ (by positivity)
  have hv : v % 2 ^ wid < 2 ^ wid := Nat.mod_lt _ (by positivity)
  have hv' : v % 2 ^ wid * 2 ^ lo + 2 ^ lo ≤ 2 ^ (lo + wid) := by
    rw [hp]; nlinarith [Nat.two_pow_pos lo]
  have h32 : (2 : Nat) ^ 32 = 2 ^ (32 - (lo + wid)) * 2 ^ (lo + wid) := by
    rw [← pow_add]; congr 1; omega
  have hq : w.toNat / 2 ^ (lo + wid) < 2 ^ (32 - (lo + wid)) := by
    apply Nat.div_lt_of_lt_mul
    rw [mul_comm, ← h32]; exact hw
  have hq' : w.toNat / 2 ^ (lo + wid) * 2 ^ (lo + wid) + 2 ^ (lo + wid) ≤ 2 ^ 32 := by
    rw [h32]; nlinarith [Nat.two_pow_pos (lo + wid)]
  unfold fieldPut fieldOf
  rw [BitVec.toNat_ofNat]
  generalize w.toNat % 2 ^ lo = a at *
  generalize w.toNat / 2 ^ lo % 2 ^ wid * 2 ^ lo = b at *
  generalize w.toNat / 2 ^ (lo + wid) * 2 ^ (lo + wid) = c at *
  generalize v % 2 ^ wid * 2 ^ lo = d at *
  rw [Nat.mod_eq_of_lt] <;> omega

/-- A field just written. -/
theorem fieldOf_put_same {lo wid : Nat} (h : lo + wid ≤ 32) (v : Nat) (w : Word) :
    fieldOf lo wid (fieldPut lo wid v w) = v % 2 ^ wid := by
  unfold fieldOf
  rw [fieldPut_toNat h]
  have hp : 2 ^ (lo + wid) = 2 ^ lo * 2 ^ wid := pow_add ..
  have e : w.toNat % 2 ^ lo + v % 2 ^ wid * 2 ^ lo + w.toNat / 2 ^ (lo + wid) * 2 ^ (lo + wid)
      = w.toNat % 2 ^ lo + 2 ^ lo * (v % 2 ^ wid + 2 ^ wid * (w.toNat / 2 ^ (lo + wid))) := by rw [hp]; ring
  rw [e, Nat.add_mul_div_left _ _ (by positivity), Nat.div_eq_of_lt (Nat.mod_lt _ (by positivity)), Nat.zero_add,
    Nat.add_mul_mod_self_left, Nat.mod_mod]

/-- The other fields of the word keep. -/
theorem fieldOf_put_other {lo wid lo' wid' : Nat} (h : lo + wid ≤ 32) (hd : lo' + wid' ≤ lo ∨ lo + wid ≤ lo') (v : Nat) (w : Word) :
    fieldOf lo' wid' (fieldPut lo wid v w) = fieldOf lo' wid' w := by
  unfold fieldOf
  rw [fieldPut_toNat h]
  have hp : 2 ^ (lo + wid) = 2 ^ lo * 2 ^ wid := pow_add ..
  rcases hd with hd | hd
  · obtain ⟨k, rfl⟩ := Nat.exists_eq_add_of_le hd
    have e2 : (2:Nat) ^ (lo' + wid' + k) = 2 ^ lo' * 2 ^ wid' * 2 ^ k := by rw [pow_add, pow_add]
    have e : ∀ n v q : Nat, n % 2 ^ (lo' + wid' + k) + v * 2 ^ (lo' + wid' + k) + q * 2 ^ (lo' + wid' + k + wid)
        = n % 2 ^ (lo' + wid' + k) + 2 ^ (lo' + wid' + k) * (v + q * 2 ^ wid) := by
      intro n v q; rw [pow_add (2:Nat) (lo' + wid' + k) wid]; ring
    have key : ∀ n m : Nat, n % 2 ^ (lo' + wid' + k) = m % 2 ^ (lo' + wid' + k) →
        n / 2 ^ lo' % 2 ^ wid' = m / 2 ^ lo' % 2 ^ wid' := by
      intro n m hnm
      have hdvd : 2 ^ lo' * 2 ^ wid' ∣ 2 ^ (lo' + wid' + k) := ⟨2 ^ k, e2⟩
      have h4 : n % (2 ^ lo' * 2 ^ wid') = m % (2 ^ lo' * 2 ^ wid') := by
        rw [← Nat.mod_mod_of_dvd n hdvd, hnm, Nat.mod_mod_of_dvd m hdvd]
      rw [← Nat.mod_mul_right_div_self, ← Nat.mod_mul_right_div_self, h4]
    apply key
    rw [e, Nat.add_mul_mod_self_left, Nat.mod_mod]
  · obtain ⟨k, rfl⟩ := Nat.exists_eq_add_of_le hd
    have e2 : (2:Nat) ^ (lo + wid + k) = 2 ^ (lo + wid) * 2 ^ k := pow_add ..
    rw [e2, ← Nat.div_div_eq_div_mul, ← Nat.div_div_eq_div_mul]
    congr 2
    have hb : w.toNat % 2 ^ lo + v % 2 ^ wid * 2 ^ lo < 2 ^ (lo + wid) := by
      have h1 : w.toNat % 2 ^ lo < 2 ^ lo := Nat.mod_lt _ (by positivity)
      have h2 : v % 2 ^ wid < 2 ^ wid := Nat.mod_lt _ (by positivity)
      rw [hp]; nlinarith [Nat.two_pow_pos lo]
    rw [mul_comm (w.toNat / 2 ^ (lo + wid)), Nat.add_mul_div_left _ _ (by positivity), Nat.div_eq_of_lt hb, Nat.zero_add]

end Sys2Proof.Machine
end

