-- ==== Sys2Proof/Laws/SMap.lean ====
section
/-!
SUPPORT. Laws of the sparse maps: a read after a write, and the canonical form under a write.
-/
namespace Sys2Proof.Machine

variable {α : Type}

theorem smapFind_put_same (k : Nat) (v : α) : ∀ m : List (Nat × α), smapFind k (smapPut k v m) = some v
  | [] => by simp [smapPut, smapFind]
  | (j, w) :: m => by
    unfold smapPut
    split_ifs with h1 h2
    · simp [smapFind]
    · simp [smapFind]
    · simp [smapFind, h2, smapFind_put_same k v m]

theorem smapFind_put_other {k i : Nat} (v : α) (h : i ≠ k) :
    ∀ m : List (Nat × α), smapFind i (smapPut k v m) = smapFind i m
  | [] => by simp [smapPut, smapFind, h.symm]
  | (j, w) :: m => by
    unfold smapPut
    split_ifs with h1 h2
    · simp [smapFind, h.symm]
    · subst h2
      simp [smapFind, h.symm]
    · simp [smapFind, smapFind_put_other v h m]

theorem smapFind_del_other {k i : Nat} (h : i ≠ k) (m : List (Nat × α)) : smapFind i (smapDel k m) = smapFind i m := by
  induction m with
  | nil => rfl
  | cons p m ih =>
    obtain ⟨j, w⟩ := p
    by_cases hj : j = k
    · have h2 : smapDel k ((j, w) :: m) = smapDel k m := by simp [smapDel, hj]
      rw [h2, ih]
      simp [smapFind, hj, h.symm]
    · have h2 : smapDel k ((j, w) :: m) = (j, w) :: smapDel k m := by simp [smapDel, hj]
      rw [h2]
      simp [smapFind, ih]

theorem smapSorted_tail {p : Nat × α} {m : List (Nat × α)} (h : smapSorted (p :: m) = true) : smapSorted m = true := by
  cases m with
  | nil => rfl
  | cons q m => simp [smapSorted] at h; exact h.2

theorem smapSorted_below {j : Nat} {v : α} : ∀ {m : List (Nat × α)}, smapSorted ((j, v) :: m) = true → ∀ p ∈ m, j < p.1
  | [], _ => by simp
  | (k, w) :: m, h => by
    have h' : j < k ∧ smapSorted ((k, w) :: m) = true := by simpa [smapSorted] using h
    intro p hp
    rcases List.mem_cons.1 hp with rfl | hp
    · exact h'.1
    · exact lt_trans h'.1 (smapSorted_below h'.2 p hp)

theorem smapSorted_cons {j : Nat} {v : α} {m : List (Nat × α)} (h : smapSorted m = true) (hb : ∀ p ∈ m, j < p.1) :
    smapSorted ((j, v) :: m) = true := by
  cases m with
  | nil => rfl
  | cons q m =>
    obtain ⟨k, w⟩ := q
    have := hb (k, w) (by simp)
    simp only at this
    simp [smapSorted, this, h]

theorem smapFind_del_same (k : Nat) (m : List (Nat × α)) : smapFind k (smapDel k m) = none := by
  induction m with
  | nil => rfl
  | cons p m ih =>
    obtain ⟨j, w⟩ := p
    by_cases hj : j = k
    · simpa [smapDel, hj] using ih
    · have h2 : smapDel k ((j, w) :: m) = (j, w) :: smapDel k m := by simp [smapDel, hj]
      rw [h2]; unfold smapFind; simp [hj, ih]

theorem mem_smapPut {k : Nat} {v : α} : ∀ {m : List (Nat × α)} {p : Nat × α}, p ∈ smapPut k v m → p = (k, v) ∨ p ∈ m
  | [], p, h => by simpa [smapPut] using h
  | (j, w) :: m, p, h => by
    unfold smapPut at h
    split_ifs at h with h1 h2
    · simpa using h
    · rcases List.mem_cons.1 h with h | h
      · exact .inl h
      · exact .inr (List.mem_cons_of_mem _ h)
    · rcases List.mem_cons.1 h with h | h
      · exact .inr (by simp [h])
      · rcases mem_smapPut h with h | h
        · exact .inl h
        · exact .inr (List.mem_cons_of_mem _ h)

theorem smapSorted_put (k : Nat) (v : α) : ∀ {m : List (Nat × α)}, smapSorted m = true → smapSorted (smapPut k v m) = true
  | [], _ => rfl
  | (j, w) :: m, h => by
    have hb := smapSorted_below h
    have ht := smapSorted_tail h
    unfold smapPut
    split_ifs with h1 h2
    · refine smapSorted_cons h ?_
      intro p hp
      rcases List.mem_cons.1 hp with rfl | hp
      · exact h1
      · exact lt_trans h1 (hb p hp)
    · subst h2
      exact smapSorted_cons ht hb
    · refine smapSorted_cons (smapSorted_put k v ht) ?_
      intro p hp
      rcases mem_smapPut hp with rfl | hp
      · simp only; omega
      · exact hb p hp

theorem smapSorted_filter (f : Nat × α → Bool) : ∀ {m : List (Nat × α)}, smapSorted m = true → smapSorted (m.filter f) = true
  | [], _ => rfl
  | (j, w) :: m, h => by
    have hb := smapSorted_below h
    have ih := smapSorted_filter f (smapSorted_tail h)
    rw [List.filter_cons]
    split_ifs
    · exact smapSorted_cons ih (fun p hp => hb p (List.mem_filter.1 hp).1)
    · exact ih

theorem smapSorted_set [DecidableEq α] (k : Nat) (v d : α) {m : List (Nat × α)} (h : smapSorted m = true) :
    smapSorted (smapSet k v d m) = true := by
  unfold smapSet
  split_ifs
  · exact smapSorted_filter _ h
  · exact smapSorted_put k v h

/-- A read of the key just written. -/
theorem smapGet_set_same [DecidableEq α] (k : Nat) (v d : α) (m : List (Nat × α)) : smapGet k d (smapSet k v d m) = v := by
  unfold smapGet smapSet
  split_ifs with h
  · simp [smapFind_del_same, h]
  · simp [smapFind_put_same]

/-- A write leaves every other key alone. -/
theorem smapGet_set_other [DecidableEq α] {k i : Nat} (v d e : α) (m : List (Nat × α)) (h : i ≠ k) :
    smapGet i e (smapSet k v d m) = smapGet i e m := by
  unfold smapGet smapSet
  split_ifs
  · rw [smapFind_del_other h]
  · rw [smapFind_put_other v h]

/-- A write of a value that the key may hold keeps the canonical form. -/
theorem smapWf_set [DecidableEq α] {d : Nat → α} (k : Nat) (v : α) {m : List (Nat × α)} (h : smapWf d m = true) :
    smapWf d (smapSet k v (d k) m) = true := by
  simp only [smapWf, Bool.and_eq_true, List.all_eq_true, decide_eq_true_eq] at h ⊢
  refine ⟨smapSorted_set k v (d k) h.1, ?_⟩
  intro p hp
  unfold smapSet at hp
  split_ifs at hp with hv
  · exact h.2 p (List.mem_filter.1 hp).1
  · rcases mem_smapPut hp with rfl | hp
    · exact hv
    · exact h.2 p hp

end Sys2Proof.Machine
end

