-- ==== Sys2Proof/Laws/State.lean ====
section
/-!
SUPPORT. Laws of the register operations on State: what a register reads after a write, and that no other part of the state
changes.
-/
namespace Sys2Proof.Machine

variable (s : State)

@[simp] theorem State.setWord_pending (r : Reg) (w : Word) : (s.setWord r w).pending = s.pending := rfl
@[simp] theorem State.setWord_now (r : Reg) (w : Word) : (s.setWord r w).now = s.now := rfl
@[simp] theorem State.setWord_free (r : Reg) (w : Word) : (s.setWord r w).free = s.free := rfl
@[simp] theorem State.setWord_bootLock (r : Reg) (w : Word) : (s.setWord r w).bootLock = s.bootLock := rfl
@[simp] theorem State.setWord_mem (r : Reg) (w : Word) : (s.setWord r w).mem = s.mem := rfl
@[simp] theorem State.setWord_memCtl (r : Reg) (w : Word) : (s.setWord r w).memCtl = s.memCtl := rfl
@[simp] theorem State.setWord_dma (r : Reg) (w : Word) : (s.setWord r w).dma = s.dma := rfl
@[simp] theorem State.setWord_evr (r : Reg) (w : Word) : (s.setWord r w).evr = s.evr := rfl
@[simp] theorem State.setWord_tb (r : Reg) (w : Word) : (s.setWord r w).tb = s.tb := rfl
@[simp] theorem State.setWord_pwm (r : Reg) (w : Word) : (s.setWord r w).pwm = s.pwm := rfl
@[simp] theorem State.setWord_sense (r : Reg) (w : Word) : (s.setWord r w).sense = s.sense := rfl
@[simp] theorem State.setWord_sched (r : Reg) (w : Word) : (s.setWord r w).sched = s.sched := rfl
@[simp] theorem State.setWord_camp (r : Reg) (w : Word) : (s.setWord r w).camp = s.camp := rfl
@[simp] theorem State.setWord_yar (r : Reg) (w : Word) : (s.setWord r w).yar = s.yar := rfl
@[simp] theorem State.setWord_gov (r : Reg) (w : Word) : (s.setWord r w).gov = s.gov := rfl
@[simp] theorem State.setWord_pol (r : Reg) (w : Word) : (s.setWord r w).pol = s.pol := rfl
@[simp] theorem State.setWord_lcs (r : Reg) (w : Word) : (s.setWord r w).lcs = s.lcs := rfl
@[simp] theorem State.setWord_tsl (r : Reg) (w : Word) : (s.setWord r w).tsl = s.tsl := rfl
@[simp] theorem State.setWord_tslPin (r : Reg) (w : Word) : (s.setWord r w).tslPin = s.tslPin := rfl
@[simp] theorem State.setWord_pins (r : Reg) (w : Word) : (s.setWord r w).pins = s.pins := rfl
@[simp] theorem State.setWord_uart (r : Reg) (w : Word) : (s.setWord r w).uart = s.uart := rfl
@[simp] theorem State.setWord_i2c (r : Reg) (w : Word) : (s.setWord r w).i2c = s.i2c := rfl
@[simp] theorem State.setWord_share (r : Reg) (w : Word) : (s.setWord r w).share = s.share := rfl
@[simp] theorem State.setWord_chn (r : Reg) (w : Word) : (s.setWord r w).chn = s.chn := rfl
@[simp] theorem State.setWord_flash (r : Reg) (w : Word) : (s.setWord r w).flash = s.flash := rfl
@[simp] theorem State.setWord_boot (r : Reg) (w : Word) : (s.setWord r w).boot = s.boot := rfl
@[simp] theorem State.setWord_svc (r : Reg) (w : Word) : (s.setWord r w).svc = s.svc := rfl
@[simp] theorem State.setWord_out (r : Reg) (w : Word) : (s.setWord r w).out = s.out := rfl

@[simp] theorem State.set_pending (f : Fld) (v : Nat) : (s.set f v).pending = s.pending := rfl
@[simp] theorem State.set_now (f : Fld) (v : Nat) : (s.set f v).now = s.now := rfl
@[simp] theorem State.set_free (f : Fld) (v : Nat) : (s.set f v).free = s.free := rfl
@[simp] theorem State.set_bootLock (f : Fld) (v : Nat) : (s.set f v).bootLock = s.bootLock := rfl
@[simp] theorem State.set_mem (f : Fld) (v : Nat) : (s.set f v).mem = s.mem := rfl
@[simp] theorem State.set_memCtl (f : Fld) (v : Nat) : (s.set f v).memCtl = s.memCtl := rfl
@[simp] theorem State.set_dma (f : Fld) (v : Nat) : (s.set f v).dma = s.dma := rfl
@[simp] theorem State.set_evr (f : Fld) (v : Nat) : (s.set f v).evr = s.evr := rfl
@[simp] theorem State.set_tb (f : Fld) (v : Nat) : (s.set f v).tb = s.tb := rfl
@[simp] theorem State.set_pwm (f : Fld) (v : Nat) : (s.set f v).pwm = s.pwm := rfl
@[simp] theorem State.set_sense (f : Fld) (v : Nat) : (s.set f v).sense = s.sense := rfl
@[simp] theorem State.set_sched (f : Fld) (v : Nat) : (s.set f v).sched = s.sched := rfl
@[simp] theorem State.set_camp (f : Fld) (v : Nat) : (s.set f v).camp = s.camp := rfl
@[simp] theorem State.set_yar (f : Fld) (v : Nat) : (s.set f v).yar = s.yar := rfl
@[simp] theorem State.set_gov (f : Fld) (v : Nat) : (s.set f v).gov = s.gov := rfl
@[simp] theorem State.set_pol (f : Fld) (v : Nat) : (s.set f v).pol = s.pol := rfl
@[simp] theorem State.set_lcs (f : Fld) (v : Nat) : (s.set f v).lcs = s.lcs := rfl
@[simp] theorem State.set_tsl (f : Fld) (v : Nat) : (s.set f v).tsl = s.tsl := rfl
@[simp] theorem State.set_tslPin (f : Fld) (v : Nat) : (s.set f v).tslPin = s.tslPin := rfl
@[simp] theorem State.set_pins (f : Fld) (v : Nat) : (s.set f v).pins = s.pins := rfl
@[simp] theorem State.set_uart (f : Fld) (v : Nat) : (s.set f v).uart = s.uart := rfl
@[simp] theorem State.set_i2c (f : Fld) (v : Nat) : (s.set f v).i2c = s.i2c := rfl
@[simp] theorem State.set_share (f : Fld) (v : Nat) : (s.set f v).share = s.share := rfl
@[simp] theorem State.set_chn (f : Fld) (v : Nat) : (s.set f v).chn = s.chn := rfl
@[simp] theorem State.set_flash (f : Fld) (v : Nat) : (s.set f v).flash = s.flash := rfl
@[simp] theorem State.set_boot (f : Fld) (v : Nat) : (s.set f v).boot = s.boot := rfl
@[simp] theorem State.set_svc (f : Fld) (v : Nat) : (s.set f v).svc = s.svc := rfl
@[simp] theorem State.set_out (f : Fld) (v : Nat) : (s.set f v).out = s.out := rfl

@[simp] theorem State.setB_pending (f : Fld) (b : Bool) : (s.setB f b).pending = s.pending := rfl
@[simp] theorem State.setB_now (f : Fld) (b : Bool) : (s.setB f b).now = s.now := rfl
@[simp] theorem State.setB_free (f : Fld) (b : Bool) : (s.setB f b).free = s.free := rfl
@[simp] theorem State.setB_bootLock (f : Fld) (b : Bool) : (s.setB f b).bootLock = s.bootLock := rfl
@[simp] theorem State.setB_mem (f : Fld) (b : Bool) : (s.setB f b).mem = s.mem := rfl
@[simp] theorem State.setB_memCtl (f : Fld) (b : Bool) : (s.setB f b).memCtl = s.memCtl := rfl
@[simp] theorem State.setB_dma (f : Fld) (b : Bool) : (s.setB f b).dma = s.dma := rfl
@[simp] theorem State.setB_evr (f : Fld) (b : Bool) : (s.setB f b).evr = s.evr := rfl
@[simp] theorem State.setB_tb (f : Fld) (b : Bool) : (s.setB f b).tb = s.tb := rfl
@[simp] theorem State.setB_pwm (f : Fld) (b : Bool) : (s.setB f b).pwm = s.pwm := rfl
@[simp] theorem State.setB_sense (f : Fld) (b : Bool) : (s.setB f b).sense = s.sense := rfl
@[simp] theorem State.setB_sched (f : Fld) (b : Bool) : (s.setB f b).sched = s.sched := rfl
@[simp] theorem State.setB_camp (f : Fld) (b : Bool) : (s.setB f b).camp = s.camp := rfl
@[simp] theorem State.setB_yar (f : Fld) (b : Bool) : (s.setB f b).yar = s.yar := rfl
@[simp] theorem State.setB_gov (f : Fld) (b : Bool) : (s.setB f b).gov = s.gov := rfl
@[simp] theorem State.setB_pol (f : Fld) (b : Bool) : (s.setB f b).pol = s.pol := rfl
@[simp] theorem State.setB_lcs (f : Fld) (b : Bool) : (s.setB f b).lcs = s.lcs := rfl
@[simp] theorem State.setB_tsl (f : Fld) (b : Bool) : (s.setB f b).tsl = s.tsl := rfl
@[simp] theorem State.setB_tslPin (f : Fld) (b : Bool) : (s.setB f b).tslPin = s.tslPin := rfl
@[simp] theorem State.setB_pins (f : Fld) (b : Bool) : (s.setB f b).pins = s.pins := rfl
@[simp] theorem State.setB_uart (f : Fld) (b : Bool) : (s.setB f b).uart = s.uart := rfl
@[simp] theorem State.setB_i2c (f : Fld) (b : Bool) : (s.setB f b).i2c = s.i2c := rfl
@[simp] theorem State.setB_share (f : Fld) (b : Bool) : (s.setB f b).share = s.share := rfl
@[simp] theorem State.setB_chn (f : Fld) (b : Bool) : (s.setB f b).chn = s.chn := rfl
@[simp] theorem State.setB_flash (f : Fld) (b : Bool) : (s.setB f b).flash = s.flash := rfl
@[simp] theorem State.setB_boot (f : Fld) (b : Bool) : (s.setB f b).boot = s.boot := rfl
@[simp] theorem State.setB_svc (f : Fld) (b : Bool) : (s.setB f b).svc = s.svc := rfl
@[simp] theorem State.setB_out (f : Fld) (b : Bool) : (s.setB f b).out = s.out := rfl

@[simp] theorem State.setBit_pending (f : Fld) (i : Nat) (b : Bool) : (s.setBit f i b).pending = s.pending := rfl
@[simp] theorem State.setBit_now (f : Fld) (i : Nat) (b : Bool) : (s.setBit f i b).now = s.now := rfl
@[simp] theorem State.setBit_free (f : Fld) (i : Nat) (b : Bool) : (s.setBit f i b).free = s.free := rfl
@[simp] theorem State.setBit_bootLock (f : Fld) (i : Nat) (b : Bool) : (s.setBit f i b).bootLock = s.bootLock := rfl
@[simp] theorem State.setBit_mem (f : Fld) (i : Nat) (b : Bool) : (s.setBit f i b).mem = s.mem := rfl
@[simp] theorem State.setBit_memCtl (f : Fld) (i : Nat) (b : Bool) : (s.setBit f i b).memCtl = s.memCtl := rfl
@[simp] theorem State.setBit_dma (f : Fld) (i : Nat) (b : Bool) : (s.setBit f i b).dma = s.dma := rfl
@[simp] theorem State.setBit_evr (f : Fld) (i : Nat) (b : Bool) : (s.setBit f i b).evr = s.evr := rfl
@[simp] theorem State.setBit_tb (f : Fld) (i : Nat) (b : Bool) : (s.setBit f i b).tb = s.tb := rfl
@[simp] theorem State.setBit_pwm (f : Fld) (i : Nat) (b : Bool) : (s.setBit f i b).pwm = s.pwm := rfl
@[simp] theorem State.setBit_sense (f : Fld) (i : Nat) (b : Bool) : (s.setBit f i b).sense = s.sense := rfl
@[simp] theorem State.setBit_sched (f : Fld) (i : Nat) (b : Bool) : (s.setBit f i b).sched = s.sched := rfl
@[simp] theorem State.setBit_camp (f : Fld) (i : Nat) (b : Bool) : (s.setBit f i b).camp = s.camp := rfl
@[simp] theorem State.setBit_yar (f : Fld) (i : Nat) (b : Bool) : (s.setBit f i b).yar = s.yar := rfl
@[simp] theorem State.setBit_gov (f : Fld) (i : Nat) (b : Bool) : (s.setBit f i b).gov = s.gov := rfl
@[simp] theorem State.setBit_pol (f : Fld) (i : Nat) (b : Bool) : (s.setBit f i b).pol = s.pol := rfl
@[simp] theorem State.setBit_lcs (f : Fld) (i : Nat) (b : Bool) : (s.setBit f i b).lcs = s.lcs := rfl
@[simp] theorem State.setBit_tsl (f : Fld) (i : Nat) (b : Bool) : (s.setBit f i b).tsl = s.tsl := rfl
@[simp] theorem State.setBit_tslPin (f : Fld) (i : Nat) (b : Bool) : (s.setBit f i b).tslPin = s.tslPin := rfl
@[simp] theorem State.setBit_pins (f : Fld) (i : Nat) (b : Bool) : (s.setBit f i b).pins = s.pins := rfl
@[simp] theorem State.setBit_uart (f : Fld) (i : Nat) (b : Bool) : (s.setBit f i b).uart = s.uart := rfl
@[simp] theorem State.setBit_i2c (f : Fld) (i : Nat) (b : Bool) : (s.setBit f i b).i2c = s.i2c := rfl
@[simp] theorem State.setBit_share (f : Fld) (i : Nat) (b : Bool) : (s.setBit f i b).share = s.share := rfl
@[simp] theorem State.setBit_chn (f : Fld) (i : Nat) (b : Bool) : (s.setBit f i b).chn = s.chn := rfl
@[simp] theorem State.setBit_flash (f : Fld) (i : Nat) (b : Bool) : (s.setBit f i b).flash = s.flash := rfl
@[simp] theorem State.setBit_boot (f : Fld) (i : Nat) (b : Bool) : (s.setBit f i b).boot = s.boot := rfl
@[simp] theorem State.setBit_svc (f : Fld) (i : Nat) (b : Bool) : (s.setBit f i b).svc = s.svc := rfl
@[simp] theorem State.setBit_out (f : Fld) (i : Nat) (b : Bool) : (s.setBit f i b).out = s.out := rfl

@[simp] theorem State.count_pending (f : Fld) (n : Nat) : (s.count f n).pending = s.pending := rfl
@[simp] theorem State.count_now (f : Fld) (n : Nat) : (s.count f n).now = s.now := rfl
@[simp] theorem State.count_free (f : Fld) (n : Nat) : (s.count f n).free = s.free := rfl
@[simp] theorem State.count_bootLock (f : Fld) (n : Nat) : (s.count f n).bootLock = s.bootLock := rfl
@[simp] theorem State.count_mem (f : Fld) (n : Nat) : (s.count f n).mem = s.mem := rfl
@[simp] theorem State.count_memCtl (f : Fld) (n : Nat) : (s.count f n).memCtl = s.memCtl := rfl
@[simp] theorem State.count_dma (f : Fld) (n : Nat) : (s.count f n).dma = s.dma := rfl
@[simp] theorem State.count_evr (f : Fld) (n : Nat) : (s.count f n).evr = s.evr := rfl
@[simp] theorem State.count_tb (f : Fld) (n : Nat) : (s.count f n).tb = s.tb := rfl
@[simp] theorem State.count_pwm (f : Fld) (n : Nat) : (s.count f n).pwm = s.pwm := rfl
@[simp] theorem State.count_sense (f : Fld) (n : Nat) : (s.count f n).sense = s.sense := rfl
@[simp] theorem State.count_sched (f : Fld) (n : Nat) : (s.count f n).sched = s.sched := rfl
@[simp] theorem State.count_camp (f : Fld) (n : Nat) : (s.count f n).camp = s.camp := rfl
@[simp] theorem State.count_yar (f : Fld) (n : Nat) : (s.count f n).yar = s.yar := rfl
@[simp] theorem State.count_gov (f : Fld) (n : Nat) : (s.count f n).gov = s.gov := rfl
@[simp] theorem State.count_pol (f : Fld) (n : Nat) : (s.count f n).pol = s.pol := rfl
@[simp] theorem State.count_lcs (f : Fld) (n : Nat) : (s.count f n).lcs = s.lcs := rfl
@[simp] theorem State.count_tsl (f : Fld) (n : Nat) : (s.count f n).tsl = s.tsl := rfl
@[simp] theorem State.count_tslPin (f : Fld) (n : Nat) : (s.count f n).tslPin = s.tslPin := rfl
@[simp] theorem State.count_pins (f : Fld) (n : Nat) : (s.count f n).pins = s.pins := rfl
@[simp] theorem State.count_uart (f : Fld) (n : Nat) : (s.count f n).uart = s.uart := rfl
@[simp] theorem State.count_i2c (f : Fld) (n : Nat) : (s.count f n).i2c = s.i2c := rfl
@[simp] theorem State.count_share (f : Fld) (n : Nat) : (s.count f n).share = s.share := rfl
@[simp] theorem State.count_chn (f : Fld) (n : Nat) : (s.count f n).chn = s.chn := rfl
@[simp] theorem State.count_flash (f : Fld) (n : Nat) : (s.count f n).flash = s.flash := rfl
@[simp] theorem State.count_boot (f : Fld) (n : Nat) : (s.count f n).boot = s.boot := rfl
@[simp] theorem State.count_svc (f : Fld) (n : Nat) : (s.count f n).svc = s.svc := rfl
@[simp] theorem State.count_out (f : Fld) (n : Nat) : (s.count f n).out = s.out := rfl

@[simp] theorem State.setInt_pending (f : Fld) (v : Int) : (s.setInt f v).pending = s.pending := rfl
@[simp] theorem State.setInt_now (f : Fld) (v : Int) : (s.setInt f v).now = s.now := rfl
@[simp] theorem State.setInt_free (f : Fld) (v : Int) : (s.setInt f v).free = s.free := rfl
@[simp] theorem State.setInt_bootLock (f : Fld) (v : Int) : (s.setInt f v).bootLock = s.bootLock := rfl
@[simp] theorem State.setInt_mem (f : Fld) (v : Int) : (s.setInt f v).mem = s.mem := rfl
@[simp] theorem State.setInt_memCtl (f : Fld) (v : Int) : (s.setInt f v).memCtl = s.memCtl := rfl
@[simp] theorem State.setInt_dma (f : Fld) (v : Int) : (s.setInt f v).dma = s.dma := rfl
@[simp] theorem State.setInt_evr (f : Fld) (v : Int) : (s.setInt f v).evr = s.evr := rfl
@[simp] theorem State.setInt_tb (f : Fld) (v : Int) : (s.setInt f v).tb = s.tb := rfl
@[simp] theorem State.setInt_pwm (f : Fld) (v : Int) : (s.setInt f v).pwm = s.pwm := rfl
@[simp] theorem State.setInt_sense (f : Fld) (v : Int) : (s.setInt f v).sense = s.sense := rfl
@[simp] theorem State.setInt_sched (f : Fld) (v : Int) : (s.setInt f v).sched = s.sched := rfl
@[simp] theorem State.setInt_camp (f : Fld) (v : Int) : (s.setInt f v).camp = s.camp := rfl
@[simp] theorem State.setInt_yar (f : Fld) (v : Int) : (s.setInt f v).yar = s.yar := rfl
@[simp] theorem State.setInt_gov (f : Fld) (v : Int) : (s.setInt f v).gov = s.gov := rfl
@[simp] theorem State.setInt_pol (f : Fld) (v : Int) : (s.setInt f v).pol = s.pol := rfl
@[simp] theorem State.setInt_lcs (f : Fld) (v : Int) : (s.setInt f v).lcs = s.lcs := rfl
@[simp] theorem State.setInt_tsl (f : Fld) (v : Int) : (s.setInt f v).tsl = s.tsl := rfl
@[simp] theorem State.setInt_tslPin (f : Fld) (v : Int) : (s.setInt f v).tslPin = s.tslPin := rfl
@[simp] theorem State.setInt_pins (f : Fld) (v : Int) : (s.setInt f v).pins = s.pins := rfl
@[simp] theorem State.setInt_uart (f : Fld) (v : Int) : (s.setInt f v).uart = s.uart := rfl
@[simp] theorem State.setInt_i2c (f : Fld) (v : Int) : (s.setInt f v).i2c = s.i2c := rfl
@[simp] theorem State.setInt_share (f : Fld) (v : Int) : (s.setInt f v).share = s.share := rfl
@[simp] theorem State.setInt_chn (f : Fld) (v : Int) : (s.setInt f v).chn = s.chn := rfl
@[simp] theorem State.setInt_flash (f : Fld) (v : Int) : (s.setInt f v).flash = s.flash := rfl
@[simp] theorem State.setInt_boot (f : Fld) (v : Int) : (s.setInt f v).boot = s.boot := rfl
@[simp] theorem State.setInt_svc (f : Fld) (v : Int) : (s.setInt f v).svc = s.svc := rfl
@[simp] theorem State.setInt_out (f : Fld) (v : Int) : (s.setInt f v).out = s.out := rfl

@[simp] theorem State.answer_pending (w : Nat) : (s.answer w).pending = s.pending := rfl
@[simp] theorem State.answer_now (w : Nat) : (s.answer w).now = s.now := rfl
@[simp] theorem State.answer_free (w : Nat) : (s.answer w).free = s.free := rfl
@[simp] theorem State.answer_bootLock (w : Nat) : (s.answer w).bootLock = s.bootLock := rfl
@[simp] theorem State.answer_mem (w : Nat) : (s.answer w).mem = s.mem := rfl
@[simp] theorem State.answer_memCtl (w : Nat) : (s.answer w).memCtl = s.memCtl := rfl
@[simp] theorem State.answer_dma (w : Nat) : (s.answer w).dma = s.dma := rfl
@[simp] theorem State.answer_evr (w : Nat) : (s.answer w).evr = s.evr := rfl
@[simp] theorem State.answer_tb (w : Nat) : (s.answer w).tb = s.tb := rfl
@[simp] theorem State.answer_pwm (w : Nat) : (s.answer w).pwm = s.pwm := rfl
@[simp] theorem State.answer_sense (w : Nat) : (s.answer w).sense = s.sense := rfl
@[simp] theorem State.answer_sched (w : Nat) : (s.answer w).sched = s.sched := rfl
@[simp] theorem State.answer_camp (w : Nat) : (s.answer w).camp = s.camp := rfl
@[simp] theorem State.answer_yar (w : Nat) : (s.answer w).yar = s.yar := rfl
@[simp] theorem State.answer_gov (w : Nat) : (s.answer w).gov = s.gov := rfl
@[simp] theorem State.answer_pol (w : Nat) : (s.answer w).pol = s.pol := rfl
@[simp] theorem State.answer_lcs (w : Nat) : (s.answer w).lcs = s.lcs := rfl
@[simp] theorem State.answer_tsl (w : Nat) : (s.answer w).tsl = s.tsl := rfl
@[simp] theorem State.answer_tslPin (w : Nat) : (s.answer w).tslPin = s.tslPin := rfl
@[simp] theorem State.answer_pins (w : Nat) : (s.answer w).pins = s.pins := rfl
@[simp] theorem State.answer_uart (w : Nat) : (s.answer w).uart = s.uart := rfl
@[simp] theorem State.answer_i2c (w : Nat) : (s.answer w).i2c = s.i2c := rfl
@[simp] theorem State.answer_share (w : Nat) : (s.answer w).share = s.share := rfl
@[simp] theorem State.answer_chn (w : Nat) : (s.answer w).chn = s.chn := rfl
@[simp] theorem State.answer_flash (w : Nat) : (s.answer w).flash = s.flash := rfl
@[simp] theorem State.answer_boot (w : Nat) : (s.answer w).boot = s.boot := rfl
@[simp] theorem State.answer_svc (w : Nat) : (s.answer w).svc = s.svc := rfl
@[simp] theorem State.answer_regs (w : Nat) : (s.answer w).regs = s.regs := rfl

@[simp] theorem State.answerRefused_pending (c : Nat) : (s.answerRefused c).pending = s.pending := rfl
@[simp] theorem State.answerRefused_now (c : Nat) : (s.answerRefused c).now = s.now := rfl
@[simp] theorem State.answerRefused_free (c : Nat) : (s.answerRefused c).free = s.free := rfl
@[simp] theorem State.answerRefused_bootLock (c : Nat) : (s.answerRefused c).bootLock = s.bootLock := rfl
@[simp] theorem State.answerRefused_mem (c : Nat) : (s.answerRefused c).mem = s.mem := rfl
@[simp] theorem State.answerRefused_memCtl (c : Nat) : (s.answerRefused c).memCtl = s.memCtl := rfl
@[simp] theorem State.answerRefused_dma (c : Nat) : (s.answerRefused c).dma = s.dma := rfl
@[simp] theorem State.answerRefused_evr (c : Nat) : (s.answerRefused c).evr = s.evr := rfl
@[simp] theorem State.answerRefused_tb (c : Nat) : (s.answerRefused c).tb = s.tb := rfl
@[simp] theorem State.answerRefused_pwm (c : Nat) : (s.answerRefused c).pwm = s.pwm := rfl
@[simp] theorem State.answerRefused_sense (c : Nat) : (s.answerRefused c).sense = s.sense := rfl
@[simp] theorem State.answerRefused_sched (c : Nat) : (s.answerRefused c).sched = s.sched := rfl
@[simp] theorem State.answerRefused_camp (c : Nat) : (s.answerRefused c).camp = s.camp := rfl
@[simp] theorem State.answerRefused_yar (c : Nat) : (s.answerRefused c).yar = s.yar := rfl
@[simp] theorem State.answerRefused_gov (c : Nat) : (s.answerRefused c).gov = s.gov := rfl
@[simp] theorem State.answerRefused_pol (c : Nat) : (s.answerRefused c).pol = s.pol := rfl
@[simp] theorem State.answerRefused_lcs (c : Nat) : (s.answerRefused c).lcs = s.lcs := rfl
@[simp] theorem State.answerRefused_tsl (c : Nat) : (s.answerRefused c).tsl = s.tsl := rfl
@[simp] theorem State.answerRefused_tslPin (c : Nat) : (s.answerRefused c).tslPin = s.tslPin := rfl
@[simp] theorem State.answerRefused_pins (c : Nat) : (s.answerRefused c).pins = s.pins := rfl
@[simp] theorem State.answerRefused_uart (c : Nat) : (s.answerRefused c).uart = s.uart := rfl
@[simp] theorem State.answerRefused_i2c (c : Nat) : (s.answerRefused c).i2c = s.i2c := rfl
@[simp] theorem State.answerRefused_share (c : Nat) : (s.answerRefused c).share = s.share := rfl
@[simp] theorem State.answerRefused_chn (c : Nat) : (s.answerRefused c).chn = s.chn := rfl
@[simp] theorem State.answerRefused_flash (c : Nat) : (s.answerRefused c).flash = s.flash := rfl
@[simp] theorem State.answerRefused_boot (c : Nat) : (s.answerRefused c).boot = s.boot := rfl
@[simp] theorem State.answerRefused_svc (c : Nat) : (s.answerRefused c).svc = s.svc := rfl
@[simp] theorem State.answerRefused_regs (c : Nat) : (s.answerRefused c).regs = s.regs := rfl

@[simp] theorem State.begin_pending : (s.begin).pending = s.pending := rfl
@[simp] theorem State.begin_now : (s.begin).now = s.now := rfl
@[simp] theorem State.begin_free : (s.begin).free = s.free := rfl
@[simp] theorem State.begin_bootLock : (s.begin).bootLock = s.bootLock := rfl
@[simp] theorem State.begin_mem : (s.begin).mem = s.mem := rfl
@[simp] theorem State.begin_memCtl : (s.begin).memCtl = s.memCtl := rfl
@[simp] theorem State.begin_dma : (s.begin).dma = s.dma := rfl
@[simp] theorem State.begin_evr : (s.begin).evr = s.evr := rfl
@[simp] theorem State.begin_tb : (s.begin).tb = s.tb := rfl
@[simp] theorem State.begin_pwm : (s.begin).pwm = s.pwm := rfl
@[simp] theorem State.begin_sense : (s.begin).sense = s.sense := rfl
@[simp] theorem State.begin_sched : (s.begin).sched = s.sched := rfl
@[simp] theorem State.begin_camp : (s.begin).camp = s.camp := rfl
@[simp] theorem State.begin_yar : (s.begin).yar = s.yar := rfl
@[simp] theorem State.begin_gov : (s.begin).gov = s.gov := rfl
@[simp] theorem State.begin_pol : (s.begin).pol = s.pol := rfl
@[simp] theorem State.begin_lcs : (s.begin).lcs = s.lcs := rfl
@[simp] theorem State.begin_tsl : (s.begin).tsl = s.tsl := rfl
@[simp] theorem State.begin_tslPin : (s.begin).tslPin = s.tslPin := rfl
@[simp] theorem State.begin_pins : (s.begin).pins = s.pins := rfl
@[simp] theorem State.begin_uart : (s.begin).uart = s.uart := rfl
@[simp] theorem State.begin_i2c : (s.begin).i2c = s.i2c := rfl
@[simp] theorem State.begin_share : (s.begin).share = s.share := rfl
@[simp] theorem State.begin_chn : (s.begin).chn = s.chn := rfl
@[simp] theorem State.begin_flash : (s.begin).flash = s.flash := rfl
@[simp] theorem State.begin_boot : (s.begin).boot = s.boot := rfl
@[simp] theorem State.begin_svc : (s.begin).svc = s.svc := rfl
@[simp] theorem State.begin_regs : (s.begin).regs = s.regs := rfl

@[simp] theorem State.draw_pending : s.draw.2.pending = s.pending := rfl
@[simp] theorem State.draw_now : s.draw.2.now = s.now := rfl
@[simp] theorem State.draw_bootLock : s.draw.2.bootLock = s.bootLock := rfl
@[simp] theorem State.draw_mem : s.draw.2.mem = s.mem := rfl
@[simp] theorem State.draw_memCtl : s.draw.2.memCtl = s.memCtl := rfl
@[simp] theorem State.draw_dma : s.draw.2.dma = s.dma := rfl
@[simp] theorem State.draw_evr : s.draw.2.evr = s.evr := rfl
@[simp] theorem State.draw_tb : s.draw.2.tb = s.tb := rfl
@[simp] theorem State.draw_pwm : s.draw.2.pwm = s.pwm := rfl
@[simp] theorem State.draw_sense : s.draw.2.sense = s.sense := rfl
@[simp] theorem State.draw_sched : s.draw.2.sched = s.sched := rfl
@[simp] theorem State.draw_camp : s.draw.2.camp = s.camp := rfl
@[simp] theorem State.draw_yar : s.draw.2.yar = s.yar := rfl
@[simp] theorem State.draw_gov : s.draw.2.gov = s.gov := rfl
@[simp] theorem State.draw_pol : s.draw.2.pol = s.pol := rfl
@[simp] theorem State.draw_lcs : s.draw.2.lcs = s.lcs := rfl
@[simp] theorem State.draw_tsl : s.draw.2.tsl = s.tsl := rfl
@[simp] theorem State.draw_tslPin : s.draw.2.tslPin = s.tslPin := rfl
@[simp] theorem State.draw_pins : s.draw.2.pins = s.pins := rfl
@[simp] theorem State.draw_uart : s.draw.2.uart = s.uart := rfl
@[simp] theorem State.draw_i2c : s.draw.2.i2c = s.i2c := rfl
@[simp] theorem State.draw_share : s.draw.2.share = s.share := rfl
@[simp] theorem State.draw_chn : s.draw.2.chn = s.chn := rfl
@[simp] theorem State.draw_flash : s.draw.2.flash = s.flash := rfl
@[simp] theorem State.draw_boot : s.draw.2.boot = s.boot := rfl
@[simp] theorem State.draw_svc : s.draw.2.svc = s.svc := rfl
@[simp] theorem State.draw_regs : s.draw.2.regs = s.regs := rfl
@[simp] theorem State.draw_out : s.draw.2.out = s.out := rfl

@[simp] theorem State.begin_out : s.begin.out = {} := rfl
@[simp] theorem State.answer_data (w : Nat) : (s.answer w).out.data = BitVec.ofNat 64 w := rfl
@[simp] theorem State.answerRefused_cause (c : Nat) : (s.answerRefused c).out.cause = c := rfl
@[simp] theorem State.draw_fst : s.draw.1 = Config.freeValue s.free := rfl

/-- Registers are read from `regs` alone. -/
theorem State.word_congr {s t : State} (h : t.regs = s.regs) (r : Reg) : t.word r = s.word r := by
  simp [State.word, h]

theorem State.get_congr {s t : State} (h : t.regs = s.regs) (f : Fld) : t.get f = s.get f := by
  simp [State.get, State.word_congr h]

@[simp] theorem State.word_begin (r : Reg) : s.begin.word r = s.word r := rfl
@[simp] theorem State.get_begin (f : Fld) : s.begin.get f = s.get f := rfl
@[simp] theorem State.on_begin (f : Fld) : s.begin.on f = s.on f := rfl
@[simp] theorem State.bit_begin (f : Fld) (i : Nat) : s.begin.bit f i = s.bit f i := rfl
@[simp] theorem State.word_answer (w : Nat) (r : Reg) : (s.answer w).word r = s.word r := rfl
@[simp] theorem State.get_answer (w : Nat) (f : Fld) : (s.answer w).get f = s.get f := rfl
@[simp] theorem State.word_draw (r : Reg) : s.draw.2.word r = s.word r := rfl
@[simp] theorem State.get_draw (f : Fld) : s.draw.2.get f = s.get f := rfl

/-- A register reads as written. -/
@[simp] theorem State.word_setWord_same (r : Reg) (w : Word) : (s.setWord r w).word r = w := by
  simp [State.word, State.setWord, smapGet_set_same]

/-- A write of one register leaves every other register alone. -/
theorem State.word_setWord_other {r q : Reg} (w : Word) (h : q.addr ≠ r.addr) : (s.setWord r w).word q = s.word q := by
  simp [State.word, State.setWord, smapGet_set_other w r.rst q.rst s.regs h]

/-- A field reads as written. -/
theorem State.get_set_same {f : Fld} (h : f.lo + f.wid ≤ 32) (v : Nat) : (s.set f v).get f = v % 2 ^ f.wid := by
  simp [State.get, State.set, fieldOf_put_same h]

/-- A field of another register keeps. -/
theorem State.get_set_other {f g : Fld} (h : g.reg.addr ≠ f.reg.addr) (v : Nat) : (s.set f v).get g = s.get g := by
  simp [State.get, State.set, State.word_setWord_other s _ h]

/-- Another field of the same register keeps. -/
theorem State.get_set_beside {f g : Fld} (hr : g.reg = f.reg) (h : f.lo + f.wid ≤ 32)
    (hd : g.lo + g.wid ≤ f.lo ∨ f.lo + f.wid ≤ g.lo) (v : Nat) : (s.set f v).get g = s.get g := by
  simp [State.get, State.set, hr, fieldOf_put_other h hd]

theorem State.word_set_other {f : Fld} {r : Reg} (h : r.addr ≠ f.reg.addr) (v : Nat) : (s.set f v).word r = s.word r := by
  simp [State.set, State.word_setWord_other s _ h]

/-- A truth value in a one-bit field. -/
theorem State.on_setB_same {f : Fld} (h : f.lo + f.wid ≤ 32) (hw : 0 < f.wid) (b : Bool) : (s.setB f b).on f = b := by
  have h1 : 1 < 2 ^ f.wid := Nat.one_lt_two_pow (by omega)
  cases b <;> simp [State.on, State.setB, State.get_set_same s h, Nat.mod_eq_of_lt h1]

/-- A saturating count. -/
theorem State.get_count_same {f : Fld} (h : f.lo + f.wid ≤ 32) (n : Nat) :
    (s.count f n).get f = min (s.get f + n) (2 ^ f.wid - 1) := by
  have h1 : min (s.get f + n) (2 ^ f.wid - 1) < 2 ^ f.wid := by
    have := Nat.two_pow_pos f.wid
    omega
  simp only [State.count, State.get_set_same s h]
  exact Nat.mod_eq_of_lt h1

/-- A field never exceeds its width. -/
theorem State.get_lt (f : Fld) : s.get f < 2 ^ f.wid := Nat.mod_lt _ (Nat.two_pow_pos _)

end Sys2Proof.Machine
end

