-- ==== Sys2Proof/Laws/Events.lean ====
section
/-!
SUPPORT. What the event router can do (R97 to R100, R102, R518): an event reaches its routes, the channels and watermark counts they
trigger, and nothing else.
-/
namespace Sys2Proof.Machine

/-- `t` differs from `s` at most in the registers of the event router and of the DMA channels, the channels, pulses under way,
watermark counts, and the list of events raised. -/
structure RouterOnly (s t : State) : Prop where
  word : ∀ r : Reg, (r.addr < 0x50002000 ∨ 0x50004000 ≤ r.addr) → t.word r = s.word r
  rest : { t with regs := s.regs, dma := s.dma, evr := s.evr, tsl := s.tsl, out := { t.out with events := s.out.events } } = s

theorem RouterOnly.refl (s : State) : RouterOnly s s := ⟨fun _ _ => rfl, rfl⟩

/-- What `RouterOnly` lets change, taken back from `s`. -/
def routerBlank (s t : State) : State :=
  { t with regs := s.regs, dma := s.dma, evr := s.evr, tsl := s.tsl, out := { t.out with events := s.out.events } }

theorem RouterOnly.trans {s t u : State} (h : RouterOnly s t) (k : RouterOnly t u) : RouterOnly s u := by
  refine ⟨fun r hr => (k.word r hr).trans (h.word r hr), ?_⟩
  have e : routerBlank s u = routerBlank s (routerBlank t u) := rfl
  have hk : routerBlank t u = t := k.rest
  have hh : routerBlank s t = s := h.rest
  exact e.trans (by rw [hk, hh])

theorem routerOnly_set {f : Fld} (h : 0x50002000 ≤ f.reg.addr ∧ f.reg.addr < 0x50004000) (v : Nat) (s : State) :
    RouterOnly s (s.set f v) :=
  ⟨fun r hr => State.word_set_other s (by omega) v, rfl⟩

theorem routerOnly_setDma (n : Fin 8) (c : DmaCh) (s : State) : RouterOnly s (s.setDma n c) := by
  have hn := n.isLt
  refine RouterOnly.trans (t := { s with dma := s.dma.set n.val c n.isLt }) ⟨fun _ _ => rfl, rfl⟩ ?_
  refine routerOnly_set ?_ _ _
  simp only [F.DMA_CHnSTAT_QUEUED, R.DMA_CHnSTAT]
  omega

theorem routerOnly_returnTrig (t : Trig) (s : State) : RouterOnly s (returnTrig t s) := by
  cases t <;> exact ⟨fun _ _ => rfl, rfl⟩

theorem routerOnly_takeTrig (n : Fin 8) (t : Trig) (s : State) : RouterOnly s (takeTrig n t s).1 := by
  have hn := n.isLt
  unfold takeTrig
  simp only
  split_ifs
  · exact routerOnly_returnTrig t s
  · exact routerOnly_setDma ..
  · exact routerOnly_returnTrig t s
  · exact routerOnly_setDma ..
  · exact routerOnly_setDma ..
  · refine (routerOnly_returnTrig t s).trans (routerOnly_set ?_ _ _)
    simp only [F.DMA_CHnSTAT_OVF, R.DMA_CHnSTAT]
    omega

theorem routerOnly_setRoutePend {q : Nat} (h : q < 128) (b : Bool) (s : State) : RouterOnly s (setRoutePend q b s) := by
  refine routerOnly_set ?_ _ _
  simp only [F.EVR_PEND_PEND, R.EVR_PEND]
  omega

theorem routerOnly_pulseRoute (n : Nat) {q : Nat} (h : q < 128) (s : State) : RouterOnly s (pulseRoute n q s).1 := by
  unfold pulseRoute
  split
  · split
    · exact .refl s
    · exact routerOnly_takeTrig ..
    · split
      · refine routerOnly_set ?_ _ _
        simp only [routeOvf, R.EVR_OVF]
        omega
      · simp only
        split
        · exact (routerOnly_setRoutePend h true s).trans ⟨fun _ _ => rfl, rfl⟩
        · exact routerOnly_setRoutePend h true s
  · exact .refl s

theorem routerOnly_foldl {β : Type} (f : State × β → Nat → State × β) : ∀ (l : List Nat) (p : State × β),
    (∀ p, ∀ q ∈ l, RouterOnly p.1 (f p q).1) → RouterOnly p.1 (l.foldl f p).1
  | [], p, _ => .refl p.1
  | q :: l, p, h =>
    (h p q (by simp)).trans (routerOnly_foldl f l (f p q) (fun p x hx => h p x (List.mem_cons_of_mem _ hx)))

theorem routerOnly_pulseAll (n : Nat) (s : State) : RouterOnly s (pulseAll n s).1 :=
  routerOnly_foldl _ _ (s, []) (fun p _ hq => routerOnly_pulseRoute n (List.mem_range.1 hq) p.1)

theorem routerOnly_events (s : State) (l : List Nat) : RouterOnly s { s with out := { s.out with events := l } } :=
  ⟨fun _ _ => rfl, rfl⟩

theorem routerOnly_deliver : ∀ (fuel : Nat) (ns : List Nat) (s : State), RouterOnly s (deliver fuel ns s)
  | 0, ns, s => ⟨fun _ _ => rfl, rfl⟩
  | fuel + 1, ns, s => by
    have h := routerOnly_foldl (fun (p : State × List Nat) n => ((pulseAll n p.1).1, p.2 ++ (pulseAll n p.1).2)) ns (s, [])
      (fun p n _ => routerOnly_pulseAll n p.1)
    unfold deliver
    simp only
    split_ifs
    · exact h
    · exact (h.trans (routerOnly_events _ _)).trans (routerOnly_deliver fuel _ _)

/-- An event changes nothing but the router, the channels it triggers and the list of events (R98). -/
theorem routerOnly_raise (s : State) (n : Nat) : RouterOnly s (s.raise n) :=
  RouterOnly.trans (t := { s with out := { s.out with events := s.out.events ++ [n] } }) ⟨fun _ _ => rfl, rfl⟩
    (routerOnly_deliver ..)

theorem routerOnly_trigger (s : State) (n : Fin 8) (t : Trig) : RouterOnly s (s.trigger n t) := by
  unfold State.trigger
  simp only
  split_ifs
  · exact (routerOnly_takeTrig n t s).trans (routerOnly_raise _ _)
  · exact routerOnly_takeTrig n t s

theorem RouterOnly.get {s t : State} (h : RouterOnly s t) {f : Fld} (hf : f.reg.addr < 0x50002000 ∨ 0x50004000 ≤ f.reg.addr) :
    t.get f = s.get f := by
  simp [State.get, h.word f.reg hf]
theorem RouterOnly.pending_eq {s t : State} (h : RouterOnly s t) : t.pending = s.pending :=
  (show State.pending (routerBlank s t) = State.pending s from congrArg State.pending h.rest)
theorem RouterOnly.now_eq {s t : State} (h : RouterOnly s t) : t.now = s.now :=
  (show State.now (routerBlank s t) = State.now s from congrArg State.now h.rest)
theorem RouterOnly.free_eq {s t : State} (h : RouterOnly s t) : t.free = s.free :=
  (show State.free (routerBlank s t) = State.free s from congrArg State.free h.rest)
theorem RouterOnly.bootLock_eq {s t : State} (h : RouterOnly s t) : t.bootLock = s.bootLock :=
  (show State.bootLock (routerBlank s t) = State.bootLock s from congrArg State.bootLock h.rest)
theorem RouterOnly.mem_eq {s t : State} (h : RouterOnly s t) : t.mem = s.mem :=
  (show State.mem (routerBlank s t) = State.mem s from congrArg State.mem h.rest)
theorem RouterOnly.memCtl_eq {s t : State} (h : RouterOnly s t) : t.memCtl = s.memCtl :=
  (show State.memCtl (routerBlank s t) = State.memCtl s from congrArg State.memCtl h.rest)
theorem RouterOnly.tb_eq {s t : State} (h : RouterOnly s t) : t.tb = s.tb :=
  (show State.tb (routerBlank s t) = State.tb s from congrArg State.tb h.rest)
theorem RouterOnly.pwm_eq {s t : State} (h : RouterOnly s t) : t.pwm = s.pwm :=
  (show State.pwm (routerBlank s t) = State.pwm s from congrArg State.pwm h.rest)
theorem RouterOnly.sense_eq {s t : State} (h : RouterOnly s t) : t.sense = s.sense :=
  (show State.sense (routerBlank s t) = State.sense s from congrArg State.sense h.rest)
theorem RouterOnly.sched_eq {s t : State} (h : RouterOnly s t) : t.sched = s.sched :=
  (show State.sched (routerBlank s t) = State.sched s from congrArg State.sched h.rest)
theorem RouterOnly.camp_eq {s t : State} (h : RouterOnly s t) : t.camp = s.camp :=
  (show State.camp (routerBlank s t) = State.camp s from congrArg State.camp h.rest)
theorem RouterOnly.yar_eq {s t : State} (h : RouterOnly s t) : t.yar = s.yar :=
  (show State.yar (routerBlank s t) = State.yar s from congrArg State.yar h.rest)
theorem RouterOnly.gov_eq {s t : State} (h : RouterOnly s t) : t.gov = s.gov :=
  (show State.gov (routerBlank s t) = State.gov s from congrArg State.gov h.rest)
theorem RouterOnly.pol_eq {s t : State} (h : RouterOnly s t) : t.pol = s.pol :=
  (show State.pol (routerBlank s t) = State.pol s from congrArg State.pol h.rest)
theorem RouterOnly.lcs_eq {s t : State} (h : RouterOnly s t) : t.lcs = s.lcs :=
  (show State.lcs (routerBlank s t) = State.lcs s from congrArg State.lcs h.rest)
theorem RouterOnly.tslPin_eq {s t : State} (h : RouterOnly s t) : t.tslPin = s.tslPin :=
  (show State.tslPin (routerBlank s t) = State.tslPin s from congrArg State.tslPin h.rest)
theorem RouterOnly.pins_eq {s t : State} (h : RouterOnly s t) : t.pins = s.pins :=
  (show State.pins (routerBlank s t) = State.pins s from congrArg State.pins h.rest)
theorem RouterOnly.uart_eq {s t : State} (h : RouterOnly s t) : t.uart = s.uart :=
  (show State.uart (routerBlank s t) = State.uart s from congrArg State.uart h.rest)
theorem RouterOnly.i2c_eq {s t : State} (h : RouterOnly s t) : t.i2c = s.i2c :=
  (show State.i2c (routerBlank s t) = State.i2c s from congrArg State.i2c h.rest)
theorem RouterOnly.share_eq {s t : State} (h : RouterOnly s t) : t.share = s.share :=
  (show State.share (routerBlank s t) = State.share s from congrArg State.share h.rest)
theorem RouterOnly.chn_eq {s t : State} (h : RouterOnly s t) : t.chn = s.chn :=
  (show State.chn (routerBlank s t) = State.chn s from congrArg State.chn h.rest)
theorem RouterOnly.flash_eq {s t : State} (h : RouterOnly s t) : t.flash = s.flash :=
  (show State.flash (routerBlank s t) = State.flash s from congrArg State.flash h.rest)
theorem RouterOnly.boot_eq {s t : State} (h : RouterOnly s t) : t.boot = s.boot :=
  (show State.boot (routerBlank s t) = State.boot s from congrArg State.boot h.rest)
theorem RouterOnly.svc_eq {s t : State} (h : RouterOnly s t) : t.svc = s.svc :=
  (show State.svc (routerBlank s t) = State.svc s from congrArg State.svc h.rest)
theorem RouterOnly.data_eq {s t : State} (h : RouterOnly s t) : t.out.data = s.out.data :=
  (show (routerBlank s t).out.data = s.out.data from congrArg (·.out.data) h.rest)
theorem RouterOnly.cause_eq {s t : State} (h : RouterOnly s t) : t.out.cause = s.out.cause :=
  (show (routerBlank s t).out.cause = s.out.cause from congrArg (·.out.cause) h.rest)
theorem RouterOnly.sent_eq {s t : State} (h : RouterOnly s t) : t.out.sent = s.out.sent :=
  (show (routerBlank s t).out.sent = s.out.sent from congrArg (·.out.sent) h.rest)

@[simp] theorem State.raise_pending (s : State) (n : Nat) : (s.raise n).pending = s.pending := (routerOnly_raise s n).pending_eq
@[simp] theorem State.raise_now (s : State) (n : Nat) : (s.raise n).now = s.now := (routerOnly_raise s n).now_eq
@[simp] theorem State.raise_free (s : State) (n : Nat) : (s.raise n).free = s.free := (routerOnly_raise s n).free_eq
@[simp] theorem State.raise_bootLock (s : State) (n : Nat) : (s.raise n).bootLock = s.bootLock := (routerOnly_raise s n).bootLock_eq
@[simp] theorem State.raise_mem (s : State) (n : Nat) : (s.raise n).mem = s.mem := (routerOnly_raise s n).mem_eq
@[simp] theorem State.raise_memCtl (s : State) (n : Nat) : (s.raise n).memCtl = s.memCtl := (routerOnly_raise s n).memCtl_eq
@[simp] theorem State.raise_tb (s : State) (n : Nat) : (s.raise n).tb = s.tb := (routerOnly_raise s n).tb_eq
@[simp] theorem State.raise_pwm (s : State) (n : Nat) : (s.raise n).pwm = s.pwm := (routerOnly_raise s n).pwm_eq
@[simp] theorem State.raise_sense (s : State) (n : Nat) : (s.raise n).sense = s.sense := (routerOnly_raise s n).sense_eq
@[simp] theorem State.raise_sched (s : State) (n : Nat) : (s.raise n).sched = s.sched := (routerOnly_raise s n).sched_eq
@[simp] theorem State.raise_camp (s : State) (n : Nat) : (s.raise n).camp = s.camp := (routerOnly_raise s n).camp_eq
@[simp] theorem State.raise_yar (s : State) (n : Nat) : (s.raise n).yar = s.yar := (routerOnly_raise s n).yar_eq
@[simp] theorem State.raise_gov (s : State) (n : Nat) : (s.raise n).gov = s.gov := (routerOnly_raise s n).gov_eq
@[simp] theorem State.raise_pol (s : State) (n : Nat) : (s.raise n).pol = s.pol := (routerOnly_raise s n).pol_eq
@[simp] theorem State.raise_lcs (s : State) (n : Nat) : (s.raise n).lcs = s.lcs := (routerOnly_raise s n).lcs_eq
@[simp] theorem State.raise_tslPin (s : State) (n : Nat) : (s.raise n).tslPin = s.tslPin := (routerOnly_raise s n).tslPin_eq
@[simp] theorem State.raise_pins (s : State) (n : Nat) : (s.raise n).pins = s.pins := (routerOnly_raise s n).pins_eq
@[simp] theorem State.raise_uart (s : State) (n : Nat) : (s.raise n).uart = s.uart := (routerOnly_raise s n).uart_eq
@[simp] theorem State.raise_i2c (s : State) (n : Nat) : (s.raise n).i2c = s.i2c := (routerOnly_raise s n).i2c_eq
@[simp] theorem State.raise_share (s : State) (n : Nat) : (s.raise n).share = s.share := (routerOnly_raise s n).share_eq
@[simp] theorem State.raise_chn (s : State) (n : Nat) : (s.raise n).chn = s.chn := (routerOnly_raise s n).chn_eq
@[simp] theorem State.raise_flash (s : State) (n : Nat) : (s.raise n).flash = s.flash := (routerOnly_raise s n).flash_eq
@[simp] theorem State.raise_boot (s : State) (n : Nat) : (s.raise n).boot = s.boot := (routerOnly_raise s n).boot_eq
@[simp] theorem State.raise_svc (s : State) (n : Nat) : (s.raise n).svc = s.svc := (routerOnly_raise s n).svc_eq
@[simp] theorem State.raise_data (s : State) (n : Nat) : (s.raise n).out.data = s.out.data := (routerOnly_raise s n).data_eq
@[simp] theorem State.raise_cause (s : State) (n : Nat) : (s.raise n).out.cause = s.out.cause := (routerOnly_raise s n).cause_eq
@[simp] theorem State.raise_sent (s : State) (n : Nat) : (s.raise n).out.sent = s.out.sent := (routerOnly_raise s n).sent_eq

/-- A field outside the router and the DMA block keeps when an event is raised. -/
theorem State.get_raise (s : State) (n : Nat) {f : Fld} (hf : f.reg.addr < 0x50002000 ∨ 0x50004000 ≤ f.reg.addr) :
    (s.raise n).get f = s.get f := (routerOnly_raise s n).get hf

end Sys2Proof.Machine
end

