-- ==== Sys2Proof/Laws/Fabric.lean ====
section
/-!
SUPPORT. What an access through the fabric comes to where the checks pass, and settling where no chain request has ended.
-/
namespace Sys2Proof.Machine

/-- With no ended chain request, nothing remains to settle. -/
theorem settle_of_nil {s : State} (h : s.chn.done = []) : settle s = s := by
  unfold settle
  rw [h]
  simp [settleN, h]

theorem accessCheck_begin (who : Who) (w : Bool) (a sz : Nat) (s : State) : accessCheck who w a sz s.begin = accessCheck who w a sz s := rfl

/-- A register write that the checks let through and the register takes. -/
theorem fabricWrite_ok {cid a r : Nat} {w : Word} {d : DWord} {s u : State} (h : accessCheck { cid := cid } true a 4 s = .ok r)
    (hr : 16 ≤ r ∧ r ≤ 31) (hw : regWrite cid a w 15 s = (.ok d, u)) : fabricWrite cid a w s = u := by
  have h1 : memRegion r = false := by
    unfold memRegion
    simp
    omega
  have : ¬ r = 32 := by omega
  have : ¬ r = 33 := by omega
  have : ¬ r = 14 := by omega
  unfold fabricWrite fabric
  simp only [h, h1]
  simp [*, deviceTarget, loggedReply, logged]

/-- A register read that the checks let through. -/
theorem fabricRead_ok {cid a r : Nat} {d : DWord} {s u : State} (h : accessCheck { cid := cid } false a 4 s = .ok r)
    (hr : 16 ≤ r ∧ r ≤ 31) (hw : regRead cid a s = (.ok d, u)) : fabricRead cid a s = u.answer d.toNat := by
  have h1 : memRegion r = false := by
    unfold memRegion
    simp
    omega
  have : ¬ r = 32 := by omega
  have : ¬ r = 33 := by omega
  have : ¬ r = 14 := by omega
  unfold fabricRead fabric
  simp only [h, h1]
  simp [*, deviceTarget, loggedReply, logged]

theorem optElim {α β : Type} {o : Option α} {x : α} {d : β} {f : α → β} (h : o = some x) : o.elim d f = f x := by
  subst h
  rfl

theorem optGetD {α : Type} {o : Option α} {x d : α} (h : o = some x) : o.getD d = x := by
  subst h
  rfl

theorem optGetD_none {α : Type} {o : Option α} {d : α} (h : o = none) : o.getD d = d := by
  subst h
  rfl

/-- A write that a register's own rule answers. -/
theorem regWrite_special {cid a mask : Nat} {w : Word} {s : State} {row : RegRow} {r : Ans × State} (hr : regRow? a = some row)
    (h : specialWrite row cid a w mask s = some r) : regWrite cid a w mask s = r := by
  unfold regWrite
  exact (optElim hr).trans (optGetD h)

/-- A write that the access codes decide. -/
theorem regWrite_code {cid a mask : Nat} {w : Word} {s : State} {row : RegRow} (hr : regRow? a = some row)
    (h : specialWrite row cid a w mask s = none) : regWrite cid a w mask s = (.ok 0#64, codeWrite row a w mask s) := by
  unfold regWrite
  exact (optElim hr).trans (optGetD_none h)

/-- A read that a register's own rule answers. -/
theorem regRead_special {cid a : Nat} {s : State} {row : RegRow} {r : Word × State} (hr : regRow? a = some row)
    (h : specialRead cid a s = some r) : regRead cid a s = (.ok (r.1.setWidth 64), r.2) := by
  unfold regRead
  exact (optElim hr).trans (optElim h)

theorem optElim_none {α β : Type} {o : Option α} {d : β} {f : α → β} (h : o = none) : o.elim d f = d := by
  subst h
  rfl

/-- A plain read. -/
theorem regRead_plain {cid a : Nat} {s : State} {row : RegRow} (hr : regRow? a = some row)
    (h : specialRead cid a s = none) : regRead cid a s = (.ok ((s.word (regAt a)).setWidth 64), s) := by
  unfold regRead
  exact (optElim hr).trans (optElim_none h)

end Sys2Proof.Machine
end

