-- ==== Sys2Proof/Laws/Memory.lean ====
section
/-!
SUPPORT. Laws of the RAM arrays: a read after a write, and the canonical form under every memory operation.
-/
namespace Sys2Proof.Machine

/-- What an unlisted byte reads as does not depend on what is listed. -/
@[simp] theorem memBase_setMemByte (m : Memory) (a i : Nat) (v : Byte) : memBase (setMemByte m a v) i = memBase m i := rfl
@[simp] theorem syndBase_setMemByte (m : Memory) (a i : Nat) (v : Byte) : syndBase (setMemByte m a v) i = syndBase m i := rfl

/-- A byte reads as written. -/
theorem memByte_set_same (m : Memory) (a : Nat) (v : Byte) : memByte (setMemByte m a v) a = v := by
  unfold memByte
  rw [memBase_setMemByte]
  exact smapGet_set_same ..

/-- Every other byte keeps. -/
theorem memByte_set_other (m : Memory) {a i : Nat} (v : Byte) (h : i ≠ a) : memByte (setMemByte m a v) i = memByte m i := by
  unfold memByte
  rw [memBase_setMemByte]
  exact smapGet_set_other v _ _ _ h

theorem setMemByte_wf {m : Memory} (h : m.wf = true) (a : Nat) (v : Byte) : (setMemByte m a v).wf = true := by
  simp only [Memory.wf, Bool.and_eq_true] at h ⊢
  exact ⟨smapWf_set a v h.1, h.2⟩

theorem setSynd_wf {m : Memory} (h : m.wf = true) (a : Nat) (v : BitVec 7) :
    Memory.wf { m with synd := smapSet a v (syndBase m a) m.synd } = true := by
  simp only [Memory.wf, Bool.and_eq_true] at h ⊢
  exact ⟨h.1, smapWf_set a v h.2⟩

theorem setMemWord_wf {m : Memory} (h : m.wf = true) (a : Nat) (w : Word) (c : BitVec 7) : (setMemWord m a w c).wf = true :=
  setSynd_wf (setMemByte_wf (setMemByte_wf (setMemByte_wf (setMemByte_wf h _ _) _ _) _ _) _ _) a c

/-- A word is its four bytes. -/
theorem bytes_of_word (w : Word) :
    w.extractLsb' 24 8 ++ w.extractLsb' 16 8 ++ w.extractLsb' 8 8 ++ w.extractLsb' 0 8 = w := by
  ext i hi
  simp only [BitVec.getElem_append, BitVec.getElem_extractLsb']
  rw [← BitVec.getLsbD_eq_getElem]
  split_ifs <;> congr 1 <;> omega

/-- A word reads as written, with its syndrome. -/
theorem memWord_setMemWord (m : Memory) (a : Nat) (w : Word) (c : BitVec 7) : memWord (setMemWord m a w c) a = w := by
  have hs : ∀ (m : Memory) (l : List (Nat × BitVec 7)) (i : Nat), memByte { m with synd := l } i = memByte m i := fun _ _ _ => rfl
  unfold memWord setMemWord
  simp only [hs]
  rw [memByte_set_same, memByte_set_other _ _ (by omega), memByte_set_same, memByte_set_other _ _ (by omega),
    memByte_set_other _ _ (by omega), memByte_set_same, memByte_set_other _ _ (by omega), memByte_set_other _ _ (by omega),
    memByte_set_other _ _ (by omega), memByte_set_same]
  exact bytes_of_word w

theorem undef_find_filter {b c : Nat} (h : c ≠ b) (l : List (Nat × Nat)) :
    (l.filter (fun p => p.1 != b)).find? (fun p => p.1 == c) = l.find? (fun p => p.1 == c) := by
  induction l with
  | nil => rfl
  | cons p l ih =>
    by_cases hb : p.1 = b
    · have hc : ¬ p.1 = c := by omega
      have hb' : ¬ b = c := fun e => h e.symm
      simp [hb, ih, hb']
    · by_cases hc : p.1 = c
      · simp [hc, h]
      · simp [hb, hc, ih]

theorem undefEpoch_clearBank {m : Memory} {a b : Nat} (h : bankOf a ≠ some b) : undefEpoch (clearBank b m) a = undefEpoch m a := by
  unfold undefEpoch clearBank
  split
  · rfl
  · rename_i c hc
    have : c ≠ b := fun e => h (by rw [hc, e])
    simp only [undef_find_filter this]

theorem undefEpoch_loseBank {m : Memory} {a b : Nat} (e : Nat) (h : bankOf a ≠ some b) : undefEpoch (loseBank b e m) a = undefEpoch m a := by
  rw [← undefEpoch_clearBank (m := m) h]
  unfold undefEpoch loseBank
  split
  · rfl
  · rename_i c hc
    have : ¬ b = c := fun e => h (by rw [hc, e])
    simp [this]

theorem smapWf_filter {α : Type} [DecidableEq α] {d d' : Nat → α} {p : Nat × α → Bool} {m : List (Nat × α)} (h : smapWf d m = true)
    (hd : ∀ x ∈ m, p x = true → d' x.1 = d x.1) : smapWf d' (m.filter p) = true := by
  simp only [smapWf, Bool.and_eq_true, List.all_eq_true, decide_eq_true_eq] at h ⊢
  refine ⟨smapSorted_filter p h.1, fun x hx => ?_⟩
  have hx' := List.mem_filter.1 hx
  rw [hd x hx'.1 hx'.2]
  exact h.2 x hx'.1

theorem clearBank_wf {m : Memory} (h : m.wf = true) (b : Nat) : (clearBank b m).wf = true := by
  simp only [Memory.wf, Bool.and_eq_true] at h ⊢
  refine ⟨smapWf_filter h.1 ?_, smapWf_filter h.2 ?_⟩
  all_goals
    intro x _ hx
    have hb : bankOf x.1 ≠ some b := by simpa using hx
    first
      | (unfold memBase; rw [undefEpoch_clearBank hb])
      | (unfold syndBase; rw [undefEpoch_clearBank hb])

theorem loseBank_wf {m : Memory} (h : m.wf = true) (b e : Nat) : (loseBank b e m).wf = true := by
  simp only [Memory.wf, Bool.and_eq_true] at h ⊢
  refine ⟨smapWf_filter h.1 ?_, smapWf_filter h.2 ?_⟩
  all_goals
    intro x _ hx
    have hb : bankOf x.1 ≠ some b := by simpa using hx
    first
      | (unfold memBase; rw [undefEpoch_loseBank e hb])
      | (unfold syndBase; rw [undefEpoch_loseBank e hb])

theorem foldl_wf {β : Type} (l : List β) {f : Memory → β → Memory} (hf : ∀ m b, m.wf = true → (f m b).wf = true) {m : Memory}
    (h : m.wf = true) : (l.foldl f m).wf = true := by
  induction l generalizing m with
  | nil => exact h
  | cons i l ih => exact ih (hf m i h)

theorem Memory.wf_empty : Memory.wf {} = true := by decide

end Sys2Proof.Machine
end

