-- ==== Sys2Proof/Laws/Sound.lean ====
section
/-!
SUPPORT. The relation that every operation keeps: the queue is left alone, no fuse bit is unblown, free values are not used twice, and
the canonical form of registers and memory is kept.
-/
namespace Sys2Proof.Machine

/-- `t` is a sound successor of `s`. -/
structure Sound (s t : State) : Prop where
  pending : t.pending = s.pending
  fuses : ∀ b, s.lcs.fuses.blown b = true → t.lcs.fuses.blown b = true
  free : s.free ≤ t.free
  canon : s.canon = true → t.canon = true

theorem Sound.refl (s : State) : Sound s s := ⟨rfl, fun _ h => h, le_rfl, fun h => h⟩

theorem Sound.trans {s t u : State} (h : Sound s t) (k : Sound t u) : Sound s u :=
  ⟨k.pending.trans h.pending, fun b hb => k.fuses b (h.fuses b hb), h.free.trans k.free, fun hc => k.canon (h.canon hc)⟩

theorem Sound.ite {s a b : State} {c : Prop} [Decidable c] (ha : Sound s a) (hb : Sound s b) : Sound s (if c then a else b) := by
  split
  · exact ha
  · exact hb

/-- The third component. -/
abbrev thd {α β γ : Type} (r : α × β × γ) : γ := r.2.2

/-- The part of a result that `g` names is a sound successor of `s`. -/
def SoundR {α : Type} (g : α → State) (s : State) (r : α) : Prop := Sound s (g r)

/-- So is that of a result that may be absent. -/
structure SoundO {α : Type} (g : α → State) (s : State) (o : Option α) : Prop where
  out : ∀ r, o = some r → Sound s (g r)

variable {α β γ δ : Type} {g : α → State} {s e t : State}

theorem SoundR.intro (h : SoundR id s t) : Sound s t := h

theorem SoundR.self (s : State) : SoundR id s s := Sound.refl s

theorem SoundR.app (h : Sound e t) (k : SoundR id s e) : SoundR id s t := Sound.trans k h

theorem SoundR.appG {r : α} (h : SoundR g e r) (k : SoundR id s e) : SoundR g s r := Sound.trans k h

theorem SoundR.ite {a b : α} {c : Prop} [Decidable c] (ha : SoundR g s a) (hb : SoundR g s b) : SoundR g s (if c then a else b) := by
  split
  · exact ha
  · exact hb

theorem SoundR.dite {c : Prop} [Decidable c] {a : c → α} {b : ¬c → α} (ha : ∀ h, SoundR g s (a h)) (hb : ∀ h, SoundR g s (b h)) :
    SoundR g s (dite c a b) := by
  split
  · exact ha _
  · exact hb _

theorem SoundR.mkSnd {a : β} (h : SoundR id s t) : SoundR Prod.snd s (a, t) := h
theorem SoundR.mkFst {a : β} (h : SoundR id s t) : SoundR Prod.fst s (t, a) := h
theorem SoundR.mkThd {a : β} {b : γ} (h : SoundR id s t) : SoundR thd s (a, b, t) := h
theorem SoundR.ofSnd {r : β × State} (h : SoundR Prod.snd s r) : SoundR id s r.2 := h
theorem SoundR.ofFst {r : State × β} (h : SoundR Prod.fst s r) : SoundR id s r.1 := h
theorem SoundR.ofThd {r : β × γ × State} (h : SoundR thd s r) : SoundR id s r.2.2 := h

theorem SoundR.ofThd2 {r : β × γ × State} (h : SoundR thd s r) : SoundR Prod.snd s r.2 := h

/-- The state of an answer that a match has named. -/
theorem SoundR.of2 {a : β} {p : β × State} (e : p = (a, t)) (h : SoundR Prod.snd s p) : SoundR id s t := by
  subst e; exact h

theorem SoundR.of1 {a : β} {p : State × β} (e : p = (t, a)) (h : SoundR Prod.fst s p) : SoundR id s t := by
  subst e; exact h

theorem SoundR.of3 {a : β} {b : γ} {p : β × γ × State} (e : p = (a, b, t)) (h : SoundR thd s p) : SoundR id s t := by
  subst e; exact h

theorem SoundO.ofSome {o : Option α} {r : α} (e : o = some r) (h : SoundO g s o) : SoundR g s r := h.out r e
theorem SoundO.ofSome0 {o : Option State} (e : o = some t) (h : SoundO id s o) : SoundR id s t := h.out t e
theorem SoundO.ofSome2 {a : β} {o : Option (β × State)} (e : o = some (a, t)) (h : SoundO Prod.snd s o) : SoundR id s t := h.out (a, t) e

theorem SoundO.none : SoundO g s none := ⟨fun _ h => by cases h⟩
theorem SoundO.some {r : α} (h : SoundR g s r) : SoundO g s (some r) := ⟨fun _ e => by cases e; exact h⟩
theorem SoundO.app {o : Option α} (h : SoundO g e o) (k : SoundR id s e) : SoundO g s o := ⟨fun r hr => Sound.trans k (h.out r hr)⟩
theorem SoundO.mapPair {o : Option β} (h : SoundR id s t) : SoundO Prod.snd s (o.map (fun x => (x, t))) := by
  refine ⟨fun r hr => ?_⟩
  cases o with
  | none => cases hr
  | some x => cases hr; exact h

theorem SoundO.map {o : Option State} {f : State → State} (h : SoundO id s o) (hf : ∀ t, Sound t (f t)) : SoundO id s (o.map f) := by
  refine ⟨fun r hr => ?_⟩
  cases o with
  | none => cases hr
  | some x =>
    cases hr
    exact Sound.trans (h.out x rfl) (hf x)

theorem SoundO.ite {a b : Option α} {c : Prop} [Decidable c] (ha : SoundO g s a) (hb : SoundO g s b) :
    SoundO g s (if c then a else b) := by
  split
  · exact ha
  · exact hb

/-- A fold keeps what its step keeps. -/
theorem SoundR.fold (l : List β) {f : α → β → α} (hf : ∀ a b, SoundR g (g a) (f a b)) {a : α} (h : SoundR g s a) :
    SoundR g s (l.foldl f a) := by
  induction l generalizing a with
  | nil => exact h
  | cons i l ih => exact ih (Sound.trans h (hf a i))

theorem SoundR.foldl (l : List β) {f : State → β → State} {a : State} (hf : ∀ t b, SoundR id t (f t b)) (h : SoundR id s a) :
    SoundR id s (l.foldl f a) := SoundR.fold l hf h
theorem SoundR.foldlFst (l : List β) {f : State × γ → β → State × γ} {a : State × γ} (hf : ∀ t x b, SoundR Prod.fst t (f (t, x) b))
    (h : SoundR Prod.fst s a) : SoundR Prod.fst s (l.foldl f a) := SoundR.fold l (fun a b => hf a.1 a.2 b) h
theorem SoundR.foldlSnd (l : List β) {f : γ × State → β → γ × State} {a : γ × State} (hf : ∀ x t b, SoundR Prod.snd t (f (x, t) b))
    (h : SoundR Prod.snd s a) : SoundR Prod.snd s (l.foldl f a) := SoundR.fold l (fun a b => hf a.1 a.2 b) h
theorem SoundR.foldlThd (l : List β) {f : γ × δ × State → β → γ × δ × State} {a : γ × δ × State}
    (hf : ∀ x y t b, SoundR thd t (f (x, y, t) b)) (h : SoundR thd s a) : SoundR thd s (l.foldl f a) :=
  SoundR.fold l (fun a b => hf a.1 a.2.1 a.2.2 b) h
theorem SoundR.forEach (n : Nat) {f : Nat → State → State} {a : State} (hf : ∀ i t, SoundR id t (f i t)) (h : SoundR id s a) :
    SoundR id s (Machine.forEach n f a) := SoundR.foldl _ (fun t i => hf i t) h
theorem SoundR.forEachSnd (n : Nat) {f : Nat → γ × State → γ × State} {a : γ × State} (hf : ∀ i x t, SoundR Prod.snd t (f i (x, t)))
    (h : SoundR Prod.snd s a) : SoundR Prod.snd s (Machine.forEach n f a) := SoundR.foldlSnd _ (fun x t i => hf i x t) h

/-- A record update of parts the relation does not speak of. -/
theorem SoundR.mk' {s e : State} {now' : Nat} {bootLock' : Bool} {out' : Out} {memCtl' : MemCtl} {dma' : Vector DmaCh 8} {evr' : Evr} {tb' : Tb} {pwm' : Pwm} {sense' : Sense} {sched' : Vector Sched 2} {camp' : Vector Camp 2} {yar' : Yar} {gov' : Gov} {pol' : Pol} {lcs' : Lcs} {tsl' : Vector TslCh 24} {tslPin' : Vector TslPin 32} {pins' : Pins} {uart' : Vector Uart 2} {i2c' : I2c} {share' : Share} {chn' : Chain} {flash' : Flash} {boot' : Boot} {svc' : Svc}
    (hl : lcs'.fuses = e.lcs.fuses) (h : SoundR id s e) :
    SoundR id s ⟨e.pending, now', e.free, bootLock', out', e.regs, e.mem, memCtl', dma', evr', tb', pwm', sense', sched', camp', yar', gov', pol', lcs', tsl', tslPin', pins', uart', i2c', share', chn', flash', boot', svc'⟩ :=
  Sound.trans h ⟨rfl, fun b hb => (congrArg (fun f => Fuses.blown f b) hl).trans hb, le_rfl, fun hc => hc⟩

/-- A record update of the memory, among others. -/
theorem SoundR.mkMem {s e : State} {now' : Nat} {bootLock' : Bool} {out' : Out} {memCtl' : MemCtl} {dma' : Vector DmaCh 8} {evr' : Evr} {tb' : Tb} {pwm' : Pwm} {sense' : Sense} {sched' : Vector Sched 2} {camp' : Vector Camp 2} {yar' : Yar} {gov' : Gov} {pol' : Pol} {lcs' : Lcs} {tsl' : Vector TslCh 24} {tslPin' : Vector TslPin 32} {pins' : Pins} {uart' : Vector Uart 2} {i2c' : I2c} {share' : Share} {chn' : Chain} {flash' : Flash} {boot' : Boot} {svc' : Svc} {mem' : Memory}
    (hl : lcs'.fuses = e.lcs.fuses) (hm : e.mem.wf = true → mem'.wf = true) (h : SoundR id s e) :
    SoundR id s ⟨e.pending, now', e.free, bootLock', out', e.regs, mem', memCtl', dma', evr', tb', pwm', sense', sched', camp', yar', gov', pol', lcs', tsl', tslPin', pins', uart', i2c', share', chn', flash', boot', svc'⟩ :=
  Sound.trans h ⟨rfl, fun b hb => (congrArg (fun f => Fuses.blown f b) hl).trans hb, le_rfl, fun hc => by
    simp only [State.canon, Bool.and_eq_true] at hc ⊢
    exact ⟨hc.1, hm hc.2⟩⟩


variable (s : State)

theorem sound_setWord (r : Reg) (w : Word) : Sound s (s.setWord r w) :=
  ⟨rfl, fun _ h => h, le_rfl, fun h => by
    simp only [State.canon, Bool.and_eq_true, State.setWord] at h ⊢
    exact ⟨smapSorted_set _ _ _ h.1, h.2⟩⟩
theorem sound_set (f : Fld) (v : Nat) : Sound s (s.set f v) := sound_setWord ..
theorem sound_setB (f : Fld) (b : Bool) : Sound s (s.setB f b) := sound_setWord ..
theorem sound_count (f : Fld) (n : Nat) : Sound s (s.count f n) := sound_setWord ..
theorem sound_setBit (f : Fld) (i : Nat) (b : Bool) : Sound s (s.setBit f i b) := sound_setWord ..
theorem sound_setInt (f : Fld) (v : Int) : Sound s (s.setInt f v) := sound_setWord ..
theorem sound_draw : SoundR Prod.snd s s.draw := ⟨rfl, fun _ h => h, Nat.le_succ _, fun h => h⟩
theorem sound_answer (w : Nat) : Sound s (s.answer w) := ⟨rfl, fun _ h => h, le_rfl, fun h => h⟩
theorem sound_answerRefused (c : Nat) : Sound s (s.answerRefused c) := ⟨rfl, fun _ h => h, le_rfl, fun h => h⟩
theorem sound_begin : Sound s s.begin := ⟨rfl, fun _ h => h, le_rfl, fun h => h⟩

end Sys2Proof.Machine
end

