-- ==== Sys2Proof/Laws/SoundEvents.lean ====
section
/-!
SUPPORT. Every operation of the named files is sound (Laws/Sound.lean).
-/
set_option linter.unusedVariables false
namespace Sys2Proof.Machine
open Sys2Proof

theorem sound_setDma (s : State) (n : Fin 8) (c : DmaCh) : Sound s (State.setDma s n c) := by
  unfold State.setDma
  refine SoundR.intro ?_
  refine SoundR.app (sound_set ..) ?_
  refine SoundR.mk' rfl ?_
  exact SoundR.self _

theorem sound_returnTrig (t : Trig) (s : State) : Sound s (returnTrig t s) := by
  unfold returnTrig
  refine SoundR.intro ?_
  split
  · rename_i v1 v2
    refine SoundR.mk' rfl ?_
    exact SoundR.self _
  · rename_i v3 v4
    refine SoundR.mk' rfl ?_
    exact SoundR.self _
  · rename_i v5 v6 v7
    exact SoundR.self _

theorem sound_takeTrig (n : Fin 8) (t : Trig) (s : State) : SoundR Prod.fst s (takeTrig n t s) := by
  unfold takeTrig
  extract_lets +onlyGivenNames x1
  clear_value x1
  refine SoundR.ite ?_ ?_
  · refine SoundR.mkFst ?_
    refine SoundR.app (sound_returnTrig ..) ?_
    exact SoundR.self _
  · refine SoundR.ite ?_ ?_
    · refine SoundR.mkFst ?_
      refine SoundR.app (sound_setDma ..) ?_
      exact SoundR.self _
    · refine SoundR.ite ?_ ?_
      · refine SoundR.mkFst ?_
        refine SoundR.app (sound_returnTrig ..) ?_
        exact SoundR.self _
      · refine SoundR.ite ?_ ?_
        · refine SoundR.mkFst ?_
          refine SoundR.app (sound_setDma ..) ?_
          exact SoundR.self _
        · refine SoundR.ite ?_ ?_
          · refine SoundR.mkFst ?_
            refine SoundR.app (sound_setDma ..) ?_
            exact SoundR.self _
          · refine SoundR.mkFst ?_
            refine SoundR.app (sound_set ..) ?_
            refine SoundR.app (sound_returnTrig ..) ?_
            exact SoundR.self _

theorem sound_setRoutePend (q : Nat) (b : Bool) (s : State) : Sound s (setRoutePend q b s) := by
  unfold setRoutePend
  refine SoundR.intro ?_
  refine SoundR.app (sound_setBit ..) ?_
  exact SoundR.self _

theorem sound_pulseRoute (n q : Nat) (s : State) : SoundR Prod.fst s (pulseRoute n q s) := by
  unfold pulseRoute
  refine SoundR.ite ?_ ?_
  · split
    · rename_i v1 v2
      refine SoundR.mkFst ?_
      exact SoundR.self _
    · rename_i v3 v4
      extract_lets +onlyGivenNames x5
      clear_value x5
      extract_lets +onlyGivenNames x6
      have h7 : SoundR Prod.fst s x6 := by
        unfold x6
        refine SoundR.appG (sound_takeTrig ..) ?_
        exact SoundR.self _
      clear_value x6
      refine SoundR.mkFst ?_
      exact h7
    · rename_i v8 v9 v10
      refine SoundR.ite ?_ ?_
      · refine SoundR.mkFst ?_
        refine SoundR.app (sound_count ..) ?_
        exact SoundR.self _
      · extract_lets +onlyGivenNames x11
        have h12 : SoundR id s x11 := by
          unfold x11
          refine SoundR.app (sound_setRoutePend ..) ?_
          exact SoundR.self _
        clear_value x11
        refine SoundR.ite ?_ ?_
        · refine SoundR.mkFst ?_
          refine SoundR.mk' rfl ?_
          exact h12
        · refine SoundR.mkFst ?_
          exact h12
  · refine SoundR.mkFst ?_
    exact SoundR.self _

theorem sound_pulseAll (n : Nat) (s : State) : SoundR Prod.fst s (pulseAll n s) := by
  unfold pulseAll
  refine SoundR.foldlFst _ ?_ ?_
  · intro a1 a2 a3
    extract_lets +onlyGivenNames x4
    have h5 : SoundR Prod.fst a1 x4 := by
      unfold x4
      refine SoundR.appG (sound_pulseRoute ..) ?_
      refine SoundR.ofFst ?_
      refine SoundR.mkFst ?_
      exact SoundR.self _
    clear_value x4
    refine SoundR.mkFst ?_
    exact h5
  · refine SoundR.mkFst ?_
    exact SoundR.self _

theorem sound_deliver : ∀ (fuel : Nat) (ns : List Nat) (s : State), Sound s (deliver fuel ns s)
  | 0, ns, s => by
    unfold deliver
    exact SoundR.mk' rfl (SoundR.self s)
  | fuel + 1, ns, s => by
    unfold deliver
    refine SoundR.intro ?_
    extract_lets +onlyGivenNames r
    have h : SoundR Prod.fst s r := by
      unfold r
      refine SoundR.foldlFst _ ?_ (SoundR.mkFst (SoundR.self s))
      intro t x b
      exact SoundR.mkFst (SoundR.ofFst (SoundR.appG (sound_pulseAll ..) (SoundR.self t)))
    clear_value r
    refine SoundR.ite (SoundR.ofFst h) (SoundR.app (sound_deliver fuel _ _) ?_)
    exact SoundR.mk' rfl (SoundR.ofFst h)

theorem sound_raise (s : State) (n : Nat) : Sound s (State.raise s n) := by
  unfold State.raise
  refine SoundR.intro ?_
  refine SoundR.app (sound_deliver ..) ?_
  refine SoundR.mk' rfl ?_
  exact SoundR.self _

theorem sound_trigger (s : State) (n : Fin 8) (t : Trig) : Sound s (State.trigger s n t) := by
  unfold State.trigger
  refine SoundR.intro ?_
  extract_lets +onlyGivenNames x1
  have h2 : SoundR Prod.fst s x1 := by
    unfold x1
    refine SoundR.appG (sound_takeTrig ..) ?_
    exact SoundR.self _
  clear_value x1
  refine SoundR.ite ?_ ?_
  · refine SoundR.app (sound_raise ..) ?_
    exact h2
  · exact h2

theorem sound_tbEvent (s : State) (b : Nat) : Sound s (State.tbEvent s b) := by
  unfold State.tbEvent
  refine SoundR.intro ?_
  extract_lets +onlyGivenNames x1
  have h2 : SoundR id s x1 := by
    unfold x1
    refine SoundR.app (sound_setBit ..) ?_
    exact SoundR.self _
  clear_value x1
  refine SoundR.ite ?_ ?_
  · refine SoundR.app (sound_raise ..) ?_
    exact h2
  · exact h2

theorem sound_yclaimRead (s : State) : SoundR Prod.snd s (yclaimRead s) := by
  unfold yclaimRead
  split
  · rename_i v1 v2
    refine SoundR.mkSnd ?_
    exact SoundR.self _
  · rename_i v3 v4 v5
    refine SoundR.mkSnd ?_
    refine SoundR.app (sound_setRoutePend ..) ?_
    exact SoundR.self _

theorem sound_routeWrite (q : Nat) (w : Word) (s : State) : Sound s (routeWrite q w s) := by
  unfold routeWrite
  refine SoundR.intro ?_
  extract_lets +onlyGivenNames x1
  have h2 : SoundR id s x1 := by
    unfold x1
    refine SoundR.app (sound_setWord ..) ?_
    exact SoundR.self _
  refine SoundR.ite ?_ ?_
  · split
    · rename_i v3 v4
      extract_lets +onlyGivenNames x5
      clear_value x5
      refine SoundR.app (sound_trigger ..) ?_
      refine SoundR.app (sound_setRoutePend ..) ?_
      exact h2
    · rename_i v6 v7
      refine SoundR.ite ?_ ?_
      · exact h2
      · refine SoundR.mk' rfl ?_
        exact h2
    · rename_i v8 v9 v10
      exact h2
  · exact h2

theorem sound_pulseEnd (q : Nat) (s : State) : Sound s (pulseEnd q s) := by
  unfold pulseEnd
  refine SoundR.intro ?_
  refine SoundR.ite ?_ ?_
  · extract_lets +onlyGivenNames x1
    clear_value x1
    extract_lets +onlyGivenNames x2
    have h3 : SoundR id s x2 := by
      unfold x2
      refine SoundR.mk' rfl ?_
      exact SoundR.self _
    clear_value x2
    refine SoundR.ite ?_ ?_
    · refine SoundR.app (sound_setRoutePend ..) ?_
      exact h3
    · exact h3
  · exact SoundR.self _

end Sys2Proof.Machine
end

