-- ==== Sys2Proof/Laws/SoundMem.lean ====
section
/-!
SUPPORT. Every operation of the named files is sound (Laws/Sound.lean).
-/
set_option linter.unusedVariables false
namespace Sys2Proof.Machine
open Sys2Proof

theorem sound_legHiZ (l : Nat) (s : State) : Sound s (legHiZ l s) := by
  unfold legHiZ
  refine SoundR.intro ?_
  refine SoundR.app (sound_setWord ..) ?_
  refine SoundR.mk' rfl ?_
  exact SoundR.self _

theorem sound_legLatch (l cause src : Nat) (s : State) : Sound s (legLatch l cause src s) := by
  unfold legLatch
  refine SoundR.intro ?_
  refine SoundR.ite ?_ ?_
  · exact SoundR.self _
  · extract_lets +onlyGivenNames x1
    have h2 : SoundR id s x1 := by
      unfold x1
      refine SoundR.app (sound_legHiZ ..) ?_
      exact SoundR.self _
    clear_value x1
    extract_lets +onlyGivenNames x3
    have h4 : SoundR id s x3 := by
      unfold x3
      refine SoundR.app (sound_set ..) ?_
      exact h2
    clear_value x3
    extract_lets +onlyGivenNames x5
    have h6 : SoundR id s x5 := by
      unfold x5
      refine SoundR.app (sound_set ..) ?_
      refine SoundR.app (sound_set ..) ?_
      exact h4
    clear_value x5
    refine SoundR.app (sound_raise ..) ?_
    exact h6

theorem sound_legFault (l cause src : Nat) (s : State) : Sound s (legFault l cause src s) := by
  unfold legFault
  refine SoundR.intro ?_
  refine SoundR.ite ?_ ?_
  · refine SoundR.app (sound_legLatch ..) ?_
    exact SoundR.self _
  · exact SoundR.self _

theorem sound_legsFault (p : Nat → Bool) (cause : Nat) (s : State) : Sound s (legsFault p cause s) := by
  unfold legsFault
  refine SoundR.intro ?_
  refine SoundR.forEach _ ?_ ?_
  · intro a1 a2
    refine SoundR.ite ?_ ?_
    · refine SoundR.app (sound_legFault ..) ?_
      exact SoundR.self _
    · exact SoundR.self _
  · exact SoundR.self _

theorem sound_tslStop (t cause : Nat) (s : State) : Sound s (tslStop t cause s) := by
  unfold tslStop
  refine SoundR.intro ?_
  extract_lets +onlyGivenNames x1
  clear_value x1
  extract_lets +onlyGivenNames x2
  clear_value x2
  extract_lets +onlyGivenNames x3
  have h4 : SoundR id s x3 := by
    unfold x3
    refine SoundR.app (sound_setBit ..) ?_
    refine SoundR.app (sound_set ..) ?_
    refine SoundR.app (sound_set ..) ?_
    exact SoundR.self _
  clear_value x3
  extract_lets +onlyGivenNames x5
  have h6 : SoundR id s x5 := by
    unfold x5
    refine SoundR.app (sound_set ..) ?_
    refine SoundR.app (sound_set ..) ?_
    exact h4
  clear_value x5
  extract_lets +onlyGivenNames x7
  have h8 : SoundR id s x7 := by
    unfold x7
    refine SoundR.app (sound_set ..) ?_
    exact h6
  clear_value x7
  refine SoundR.mk' rfl ?_
  exact h8

theorem sound_tslStopAll (cause : Nat) (s : State) : Sound s (tslStopAll cause s) := by
  unfold tslStopAll
  refine SoundR.intro ?_
  refine SoundR.forEach _ ?_ ?_
  · intro a1 a2
    refine SoundR.ite ?_ ?_
    · refine SoundR.app (sound_tslStop ..) ?_
      exact SoundR.self _
    · exact SoundR.self _
  · exact SoundR.self _

theorem sound_arrayPut (a : Nat) (w : Word) (s : State) : Sound s (arrayPut a w s) := by
  unfold arrayPut
  refine SoundR.intro ?_
  refine SoundR.ite ?_ ?_
  · extract_lets +onlyGivenNames x1
    clear_value x1
    extract_lets +onlyGivenNames x2
    clear_value x2
    refine SoundR.app (sound_set ..) ?_
    refine SoundR.mkMem rfl ?_ ?_
    · exact fun h => setMemWord_wf h ..
    · exact SoundR.self _
  · refine SoundR.mkMem rfl ?_ ?_
    · exact fun h => setMemWord_wf h ..
    · exact SoundR.self _

theorem sound_windowPut (off : Nat) (w : Word) (s : State) : Sound s (windowPut off w s) := by
  unfold windowPut
  refine SoundR.intro ?_
  refine SoundR.ite ?_ ?_
  · exact SoundR.self _
  · refine SoundR.app (sound_arrayPut ..) ?_
    exact SoundR.self _

theorem sound_faultSummary (s : State) : Sound s (faultSummary s) := by
  unfold faultSummary
  refine SoundR.intro ?_
  extract_lets +onlyGivenNames x1
  clear_value x1
  extract_lets +onlyGivenNames x2
  have h3 : SoundR id s x2 := by
    unfold x2
    refine SoundR.app (sound_setB ..) ?_
    refine SoundR.app (sound_setB ..) ?_
    exact SoundR.self _
  clear_value x2
  extract_lets +onlyGivenNames x4
  clear_value x4
  extract_lets +onlyGivenNames x5
  have h6 : SoundR id s x5 := by
    unfold x5
    refine SoundR.app (sound_windowPut ..) ?_
    exact h3
  clear_value x5
  extract_lets +onlyGivenNames x7
  have h8 : SoundR id s x7 := by
    unfold x7
    refine SoundR.app (sound_windowPut ..) ?_
    exact h6
  clear_value x7
  extract_lets +onlyGivenNames x9
  have h10 : SoundR id s x9 := by
    unfold x9
    refine SoundR.app (sound_windowPut ..) ?_
    exact h8
  clear_value x9
  extract_lets +onlyGivenNames x11
  have h12 : SoundR id s x11 := by
    unfold x11
    refine SoundR.app (sound_windowPut ..) ?_
    exact h10
  clear_value x11
  extract_lets +onlyGivenNames x13
  have h14 : SoundR id s x13 := by
    unfold x13
    refine SoundR.app (sound_windowPut ..) ?_
    exact h12
  clear_value x13
  refine SoundR.app (sound_windowPut ..) ?_
  exact h14

theorem sound_safeEnter (s : State) : Sound s (safeEnter s) := by
  unfold safeEnter
  refine SoundR.intro ?_
  refine SoundR.ite ?_ ?_
  · exact SoundR.self _
  · extract_lets +onlyGivenNames x1
    have h2 : SoundR id s x1 := by
      unfold x1
      refine SoundR.app (sound_raise ..) ?_
      refine SoundR.app (sound_set ..) ?_
      exact SoundR.self _
    clear_value x1
    refine SoundR.app (sound_tslStopAll ..) ?_
    refine SoundR.app (sound_legsFault ..) ?_
    exact h2

theorem sound_faultEval (s : State) : Sound s (State.faultEval s) := by
  unfold State.faultEval
  refine SoundR.intro ?_
  extract_lets +onlyGivenNames x1
  have h2 : SoundR id s x1 := by
    unfold x1
    refine SoundR.forEach _ ?_ ?_
    · intro a3 a4
      extract_lets +onlyGivenNames x5
      clear_value x5
      extract_lets +onlyGivenNames x6
      clear_value x6
      extract_lets +onlyGivenNames x7
      have h8 : SoundR id a4 x7 := by
        unfold x7
        refine SoundR.app (sound_setBit ..) ?_
        exact SoundR.self _
      clear_value x7
      refine SoundR.ite ?_ ?_
      · extract_lets +onlyGivenNames x9
        have h10 : SoundR id a4 x9 := by
          unfold x9
          refine SoundR.app (sound_setBit ..) ?_
          exact h8
        clear_value x9
        refine SoundR.ite ?_ ?_
        · refine SoundR.app (sound_raise ..) ?_
          exact h10
        · exact h10
      · exact h8
    · exact SoundR.self _
  clear_value x1
  extract_lets +onlyGivenNames x11
  have h12 : SoundR id s x11 := by
    unfold x11
    refine SoundR.ite ?_ ?_
    · refine SoundR.app (sound_safeEnter ..) ?_
      exact h2
    · exact h2
  clear_value x11
  refine SoundR.app (sound_faultSummary ..) ?_
  exact h12

theorem sound_faultPulse (s : State) (b : Nat) : Sound s (State.faultPulse s b) := by
  unfold State.faultPulse
  refine SoundR.intro ?_
  extract_lets +onlyGivenNames x1
  have h2 : SoundR id s x1 := by
    unfold x1
    refine SoundR.app (sound_raise ..) ?_
    refine SoundR.app (sound_setBit ..) ?_
    exact SoundR.self _
  clear_value x1
  refine SoundR.app (sound_faultSummary ..) ?_
  refine SoundR.ite ?_ ?_
  · refine SoundR.app (sound_safeEnter ..) ?_
    exact h2
  · exact h2

theorem sound_noteCorrected (who : Who) (a p : Nat) (s : State) : Sound s (noteCorrected who a p s) := by
  unfold noteCorrected
  refine SoundR.intro ?_
  extract_lets +onlyGivenNames x1
  have h2 : SoundR id s x1 := by
    unfold x1
    refine SoundR.app (sound_count ..) ?_
    exact SoundR.self _
  clear_value x1
  extract_lets +onlyGivenNames x3
  have h4 : SoundR id s x3 := by
    unfold x3
    refine SoundR.app (sound_setWord ..) ?_
    exact h2
  clear_value x3
  extract_lets +onlyGivenNames x5
  have h6 : SoundR id s x5 := by
    unfold x5
    refine SoundR.app (sound_set ..) ?_
    refine SoundR.app (sound_set ..) ?_
    exact h4
  clear_value x5
  refine SoundR.app (sound_raise ..) ?_
  exact h6

theorem sound_noteUncorrectable (who : Who) (a kind : Nat) (s : State) : Sound s (noteUncorrectable who a kind s) := by
  unfold noteUncorrectable
  refine SoundR.intro ?_
  extract_lets +onlyGivenNames x1
  clear_value x1
  extract_lets +onlyGivenNames x2
  have h3 : SoundR id s x2 := by
    unfold x2
    refine SoundR.app (sound_count ..) ?_
    exact SoundR.self _
  clear_value x2
  extract_lets +onlyGivenNames x4
  have h5 : SoundR id s x4 := by
    unfold x4
    refine SoundR.app (sound_setWord ..) ?_
    exact h3
  clear_value x4
  extract_lets +onlyGivenNames x6
  have h7 : SoundR id s x6 := by
    unfold x6
    refine SoundR.app (sound_set ..) ?_
    exact h5
  clear_value x6
  extract_lets +onlyGivenNames x8
  have h9 : SoundR id s x8 := by
    unfold x8
    refine SoundR.app (sound_set ..) ?_
    exact h7
  clear_value x8
  extract_lets +onlyGivenNames x10
  have h11 : SoundR id s x10 := by
    unfold x10
    refine SoundR.app (sound_set ..) ?_
    exact h9
  clear_value x10
  extract_lets +onlyGivenNames x12
  have h13 : SoundR id s x12 := by
    unfold x12
    refine SoundR.app (sound_set ..) ?_
    exact h11
  clear_value x12
  extract_lets +onlyGivenNames x14
  have h15 : SoundR id s x14 := by
    unfold x14
    refine SoundR.app (sound_set ..) ?_
    exact h13
  clear_value x14
  refine SoundR.app (sound_faultPulse ..) ?_
  refine SoundR.app (sound_raise ..) ?_
  exact h15

theorem sound_bankServed (a cid : Nat) (s : State) : Sound s (bankServed a cid s) := by
  unfold bankServed
  refine SoundR.intro ?_
  refine SoundR.ite ?_ ?_
  · exact SoundR.self _
  · split
    · rename_i v1 v2
      exact SoundR.self _
    · rename_i v3 v4 v5
      refine SoundR.mk' rfl ?_
      exact SoundR.self _

theorem sound_ramReadWord (who : Who) (kind a : Nat) (s : State) : SoundR Prod.snd s (ramReadWord who kind a s) := by
  unfold ramReadWord
  extract_lets +onlyGivenNames x1
  have h2 : SoundR id s x1 := by
    unfold x1
    refine SoundR.app (sound_bankServed ..) ?_
    exact SoundR.self _
  clear_value x1
  extract_lets +onlyGivenNames x3
  clear_value x3
  split
  · rename_i v4 v5
    refine SoundR.mkSnd ?_
    exact h2
  · rename_i v6 v7 v8
    extract_lets +onlyGivenNames x9
    clear_value x9
    refine SoundR.mkSnd ?_
    refine SoundR.app (sound_noteCorrected ..) ?_
    refine SoundR.mkMem rfl ?_ ?_
    · exact fun h => setMemWord_wf h ..
    · exact h2
  · rename_i v10 v11
    refine SoundR.mkSnd ?_
    refine SoundR.app (sound_noteUncorrectable ..) ?_
    exact h2

theorem sound_storeWord (who : Who) (a : Nat) (w : Word) (s : State) : Sound s (storeWord who a w s) := by
  unfold storeWord
  refine SoundR.intro ?_
  refine SoundR.ite ?_ ?_
  · refine SoundR.mkMem rfl ?_ ?_
    · exact fun h => setMemWord_wf h ..
    · exact SoundR.self _
  · refine SoundR.app (sound_arrayPut ..) ?_
    exact SoundR.self _

theorem sound_ramWriteWord (who : Who) (a : Nat) (w : Word) (mask : Nat) (s : State) : SoundR Prod.snd s (ramWriteWord who a w mask s) := by
  unfold ramWriteWord
  refine SoundR.ite ?_ ?_
  · refine SoundR.mkSnd ?_
    refine SoundR.app (sound_storeWord ..) ?_
    refine SoundR.app (sound_bankServed ..) ?_
    exact SoundR.self _
  · split
    · rename_i v1 v2 v3 v4
      have h5 : SoundR id s v3 := by
        refine SoundR.of2 v4 ?_
        refine SoundR.appG (sound_ramReadWord ..) ?_
        exact SoundR.self _
      refine SoundR.mkSnd ?_
      refine SoundR.app (sound_storeWord ..) ?_
      exact h5
    · rename_i v6 v7 v8
      have h9 : SoundR id s v7 := by
        refine SoundR.of2 v8 ?_
        refine SoundR.appG (sound_ramReadWord ..) ?_
        exact SoundR.self _
      refine SoundR.mkSnd ?_
      exact h9

theorem sound_bankReach (b t : Nat) (s : State) : Sound s (bankReach b t s) := by
  unfold bankReach
  refine SoundR.intro ?_
  extract_lets +onlyGivenNames x1
  clear_value x1
  extract_lets +onlyGivenNames x2
  clear_value x2
  extract_lets +onlyGivenNames x3
  have h4 : SoundR id s x3 := by
    unfold x3
    refine SoundR.mk' rfl ?_
    exact SoundR.self _
  clear_value x3
  extract_lets +onlyGivenNames x5
  have h6 : SoundR id s x5 := by
    unfold x5
    refine SoundR.ite ?_ ?_
    · refine SoundR.mkMem rfl ?_ ?_
      · exact fun h => clearBank_wf h ..
      · exact h4
    · exact h4
  clear_value x5
  extract_lets +onlyGivenNames x7
  have h8 : SoundR id s x7 := by
    unfold x7
    refine SoundR.app (sound_set ..) ?_
    refine SoundR.app (sound_set ..) ?_
    exact h6
  clear_value x7
  refine SoundR.ite ?_ ?_
  · refine SoundR.app (sound_raise ..) ?_
    exact h8
  · exact h8

theorem sound_bankWake (b : Nat) (s : State) : SoundR Prod.snd s (bankWake b s) := by
  unfold bankWake
  split
  · rename_i v1 v2
    refine SoundR.mkSnd ?_
    refine SoundR.app (sound_bankReach ..) ?_
    exact SoundR.self _
  · rename_i v3 v4
    refine SoundR.ite ?_ ?_
    · refine SoundR.mkSnd ?_
      refine SoundR.app (sound_bankReach ..) ?_
      exact SoundR.self _
    · refine SoundR.mkSnd ?_
      refine SoundR.app (sound_raise ..) ?_
      exact SoundR.self _
  · rename_i v5 v6 v7 v8 v9
    refine SoundR.mkSnd ?_
    refine SoundR.app (sound_raise ..) ?_
    exact SoundR.self _
  · rename_i v10 v11
    split
    · rename_i v12 v13
      refine SoundR.mkSnd ?_
      exact SoundR.self _
    · rename_i v14 v15
      refine SoundR.ite ?_ ?_
      · refine SoundR.mkSnd ?_
        refine SoundR.app (sound_bankReach ..) ?_
        exact SoundR.self _
      · refine SoundR.mkSnd ?_
        refine SoundR.app (sound_raise ..) ?_
        exact SoundR.self _
    · rename_i v16 v17 v18
      refine SoundR.mkSnd ?_
      refine SoundR.app (sound_raise ..) ?_
      exact SoundR.self _

theorem sound_bankReady (a : Nat) (s : State) : SoundR Prod.snd s (bankReady a s) := by
  unfold bankReady
  split
  · rename_i v1 v2
    refine SoundR.mkSnd ?_
    exact SoundR.self _
  · rename_i v3 v4 v5
    refine SoundR.ite ?_ ?_
    · refine SoundR.mkSnd ?_
      exact SoundR.self _
    · refine SoundR.appG (sound_bankWake ..) ?_
      exact SoundR.self _

theorem sound_ramReadSmall (who : Who) (kind a size : Nat) (s : State) : SoundR Prod.snd s (ramReadSmall who kind a size s) := by
  unfold ramReadSmall
  split
  · rename_i v1 v2 v3
    have h4 : SoundR id s v2 := by
      refine SoundR.of2 v3 ?_
      refine SoundR.appG (sound_bankReady ..) ?_
      exact SoundR.self _
    refine SoundR.mkSnd ?_
    exact h4
  · rename_i v5 v6 v7
    have h8 : SoundR id s v6 := by
      refine SoundR.of2 v7 ?_
      refine SoundR.appG (sound_bankReady ..) ?_
      exact SoundR.self _
    split
    · rename_i v9 v10 v11
      have h12 : SoundR id s v10 := by
        refine SoundR.of2 v11 ?_
        refine SoundR.appG (sound_ramReadWord ..) ?_
        exact h8
      refine SoundR.mkSnd ?_
      exact h12
    · rename_i v13 v14 v15 v16
      have h17 : SoundR id s v15 := by
        refine SoundR.of2 v16 ?_
        refine SoundR.appG (sound_ramReadWord ..) ?_
        exact h8
      refine SoundR.mkSnd ?_
      exact h17

theorem sound_ramWriteSmall (who : Who) (a size : Nat) (v : Nat) (s : State) : SoundR Prod.snd s (ramWriteSmall who a size v s) := by
  unfold ramWriteSmall
  split
  · rename_i v1 v2 v3
    have h4 : SoundR id s v2 := by
      refine SoundR.of2 v3 ?_
      refine SoundR.appG (sound_bankReady ..) ?_
      exact SoundR.self _
    refine SoundR.mkSnd ?_
    exact h4
  · rename_i v5 v6 v7
    have h8 : SoundR id s v6 := by
      refine SoundR.of2 v7 ?_
      refine SoundR.appG (sound_bankReady ..) ?_
      exact SoundR.self _
    split
    · rename_i v9 v10 v11
      have h12 : SoundR id s v10 := by
        refine SoundR.of2 v11 ?_
        refine SoundR.appG (sound_ramWriteWord ..) ?_
        exact h8
      refine SoundR.mkSnd ?_
      exact h12
    · rename_i v13 v14 v15
      have h16 : SoundR id s v14 := by
        refine SoundR.of2 v15 ?_
        refine SoundR.appG (sound_ramWriteWord ..) ?_
        exact h8
      refine SoundR.mkSnd ?_
      exact h16

theorem sound_ramRead (who : Who) (kind a size : Nat) (s : State) : SoundR Prod.snd s (ramRead who kind a size s) := by
  unfold ramRead
  refine SoundR.ite ?_ ?_
  · refine SoundR.appG (sound_ramReadSmall ..) ?_
    exact SoundR.self _
  · split
    · rename_i v1 v2 v3 v4
      have h5 : SoundR id s v3 := by
        refine SoundR.of2 v4 ?_
        refine SoundR.appG (sound_ramReadSmall ..) ?_
        exact SoundR.self _
      refine SoundR.mkSnd ?_
      exact h5
    · rename_i v6 v7 v8 v9
      have h10 : SoundR id s v8 := by
        refine SoundR.of2 v9 ?_
        refine SoundR.appG (sound_ramReadSmall ..) ?_
        exact SoundR.self _
      split
      · rename_i v11 v12 v13 v14
        have h15 : SoundR id s v13 := by
          refine SoundR.of2 v14 ?_
          refine SoundR.appG (sound_ramReadSmall ..) ?_
          exact h10
        refine SoundR.mkSnd ?_
        exact h15
      · rename_i v16 v17 v18 v19
        have h20 : SoundR id s v18 := by
          refine SoundR.of2 v19 ?_
          refine SoundR.appG (sound_ramReadSmall ..) ?_
          exact h10
        refine SoundR.mkSnd ?_
        exact h20

theorem sound_ramWrite (who : Who) (a size v : Nat) (s : State) : SoundR Prod.snd s (ramWrite who a size v s) := by
  unfold ramWrite
  refine SoundR.ite ?_ ?_
  · refine SoundR.appG (sound_ramWriteSmall ..) ?_
    exact SoundR.self _
  · split
    · rename_i v1 v2 v3 v4
      have h5 : SoundR id s v3 := by
        refine SoundR.of2 v4 ?_
        refine SoundR.appG (sound_ramWriteSmall ..) ?_
        exact SoundR.self _
      refine SoundR.mkSnd ?_
      exact h5
    · rename_i v6 v7 v8 v9
      have h10 : SoundR id s v8 := by
        refine SoundR.of2 v9 ?_
        refine SoundR.appG (sound_ramWriteSmall ..) ?_
        exact SoundR.self _
      refine SoundR.appG (sound_ramWriteSmall ..) ?_
      exact h10

theorem sound_pwrBegin (b req : Nat) (s : State) : Sound s (pwrBegin b req s) := by
  unfold pwrBegin
  refine SoundR.intro ?_
  extract_lets +onlyGivenNames x1
  clear_value x1
  refine SoundR.app (sound_set ..) ?_
  refine SoundR.mk' rfl ?_
  exact SoundR.self _

theorem sound_pwrWrite (b : Nat) (w : Word) (s : State) : Sound s (pwrWrite b w s) := by
  unfold pwrWrite
  refine SoundR.intro ?_
  extract_lets +onlyGivenNames x1
  clear_value x1
  extract_lets +onlyGivenNames x2
  have h3 : SoundR id s x2 := by
    unfold x2
    refine SoundR.app (sound_set ..) ?_
    exact SoundR.self _
  clear_value x2
  extract_lets +onlyGivenNames x4
  have h5 : SoundR id s x4 := by
    unfold x4
    refine SoundR.ite ?_ ?_
    · refine SoundR.app (sound_set ..) ?_
      exact h3
    · exact h3
  clear_value x4
  refine SoundR.ite ?_ ?_
  · refine SoundR.app (sound_set ..) ?_
    exact h5
  · extract_lets +onlyGivenNames x6
    have h7 : SoundR id s x6 := by
      unfold x6
      refine SoundR.app (sound_set ..) ?_
      exact h5
    clear_value x6
    extract_lets +onlyGivenNames x8
    clear_value x8
    extract_lets +onlyGivenNames x9
    clear_value x9
    extract_lets +onlyGivenNames x10
    have h11 : SoundR id s x10 := by
      unfold x10
      refine SoundR.mk' rfl ?_
      exact h7
    clear_value x10
    refine SoundR.ite ?_ ?_
    · exact h11
    · refine SoundR.ite ?_ ?_
      · refine SoundR.mk' rfl ?_
        exact h11
      · refine SoundR.app (sound_pwrBegin ..) ?_
        exact h11

theorem sound_pwrDone (b : Nat) (s : State) : Sound s (pwrDone b s) := by
  unfold pwrDone
  refine SoundR.intro ?_
  split
  · rename_i v1 v2
    exact SoundR.self _
  · rename_i v3 v4
    refine SoundR.ite ?_ ?_
    · extract_lets +onlyGivenNames x5
      have h6 : SoundR id s x5 := by
        unfold x5
        refine SoundR.app (sound_bankReach ..) ?_
        exact SoundR.self _
      clear_value x5
      refine SoundR.app (sound_set ..) ?_
      refine SoundR.mk' rfl ?_
      exact h6
    · refine SoundR.app (sound_bankReach ..) ?_
      exact SoundR.self _
  · rename_i v7 v8 v9 v10
    refine SoundR.app (sound_bankReach ..) ?_
    exact SoundR.self _

theorem sound_wipeStart (c : WipeCause) (s : State) : Sound s (wipeStart c s) := by
  unfold wipeStart
  refine SoundR.intro ?_
  refine SoundR.app (sound_set ..) ?_
  refine SoundR.mk' rfl ?_
  exact SoundR.self _

theorem sound_wipeFinish (ok : Bool) (s : State) : Sound s (wipeFinish ok s) := by
  unfold wipeFinish
  refine SoundR.intro ?_
  extract_lets +onlyGivenNames x1
  clear_value x1
  extract_lets +onlyGivenNames x2
  have h3 : SoundR id s x2 := by
    unfold x2
    refine SoundR.mkMem rfl ?_ ?_
    · exact fun h => clearBank_wf h ..
    · exact SoundR.self _
  clear_value x2
  extract_lets +onlyGivenNames x4
  have h5 : SoundR id s x4 := by
    unfold x4
    refine SoundR.app (sound_count ..) ?_
    refine SoundR.app (sound_set ..) ?_
    exact h3
  clear_value x4
  refine SoundR.ite ?_ ?_
  · refine SoundR.app (sound_raise ..) ?_
    exact h5
  · refine SoundR.app (sound_raise ..) ?_
    refine SoundR.app (sound_set ..) ?_
    exact h5

theorem sound_secctlWrite (w : Word) (s : State) : Sound s (secctlWrite w s) := by
  unfold secctlWrite
  refine SoundR.intro ?_
  refine SoundR.ite ?_ ?_
  · refine SoundR.ite ?_ ?_
    · refine SoundR.app (sound_wipeStart ..) ?_
      exact SoundR.self _
    · refine SoundR.app (sound_set ..) ?_
      exact SoundR.self _
  · exact SoundR.self _

theorem sound_marchClear (b : Nat) (s : State) : Sound s (marchClear b s) := by
  unfold marchClear
  refine SoundR.intro ?_
  extract_lets +onlyGivenNames x1
  have h2 : SoundR id s x1 := by
    unfold x1
    refine SoundR.app (sound_set ..) ?_
    refine SoundR.app (sound_set ..) ?_
    exact SoundR.self _
  clear_value x1
  extract_lets +onlyGivenNames x3
  have h4 : SoundR id s x3 := by
    unfold x3
    refine SoundR.app (sound_set ..) ?_
    refine SoundR.app (sound_set ..) ?_
    exact h2
  clear_value x3
  refine SoundR.app (sound_setWord ..) ?_
  refine SoundR.app (sound_setWord ..) ?_
  exact h4

theorem sound_marchStart (s : State) : Sound s (marchStart s) := by
  unfold marchStart
  refine SoundR.intro ?_
  extract_lets +onlyGivenNames x1
  clear_value x1
  extract_lets +onlyGivenNames x2
  clear_value x2
  refine SoundR.ite ?_ ?_
  · refine SoundR.app (sound_set ..) ?_
    exact SoundR.self _
  · extract_lets +onlyGivenNames x3
    have h4 : SoundR id s x3 := by
      unfold x3
      refine SoundR.app (sound_set ..) ?_
      refine SoundR.app (sound_marchClear ..) ?_
      exact SoundR.self _
    clear_value x3
    extract_lets +onlyGivenNames x5
    clear_value x5
    extract_lets +onlyGivenNames x6
    clear_value x6
    extract_lets +onlyGivenNames x7
    have h8 : SoundR id s x7 := by
      unfold x7
      refine SoundR.mk' rfl ?_
      exact h4
    clear_value x7
    refine SoundR.ite ?_ ?_
    · exact h8
    · refine SoundR.mkMem rfl ?_ ?_
      · exact fun h => loseBank_wf h ..
      · exact h8

theorem sound_marchEnd (s : State) : Sound s (marchEnd s) := by
  unfold marchEnd
  refine SoundR.intro ?_
  refine SoundR.app (sound_set ..) ?_
  refine SoundR.mk' rfl ?_
  exact SoundR.self _

theorem sound_marchAbort (s : State) : Sound s (marchAbort s) := by
  unfold marchAbort
  refine SoundR.intro ?_
  split
  · rename_i v1 v2
    exact SoundR.self _
  · rename_i v3 v4 v5
    refine SoundR.ite ?_ ?_
    · refine SoundR.mk' rfl ?_
      exact SoundR.self _
    · refine SoundR.app (sound_marchEnd ..) ?_
      exact SoundR.self _

theorem sound_marchctlWrite (w : Word) (s : State) : Sound s (marchctlWrite w s) := by
  unfold marchctlWrite
  refine SoundR.intro ?_
  extract_lets +onlyGivenNames x1
  have h2 : SoundR id s x1 := by
    unfold x1
    refine SoundR.app (sound_setWord ..) ?_
    exact SoundR.self _
  clear_value x1
  extract_lets +onlyGivenNames x3
  have h4 : SoundR id s x3 := by
    unfold x3
    refine SoundR.ite ?_ ?_
    · refine SoundR.app (sound_marchAbort ..) ?_
      exact h2
    · exact h2
  clear_value x3
  refine SoundR.ite ?_ ?_
  · refine SoundR.app (sound_marchStart ..) ?_
    exact h4
  · exact h4

theorem sound_marchFailed (f : MarchFail) (s : State) : Sound s (marchFailed f s) := by
  unfold marchFailed
  refine SoundR.intro ?_
  extract_lets +onlyGivenNames x1
  have h2 : SoundR id s x1 := by
    unfold x1
    refine SoundR.app (sound_set ..) ?_
    refine SoundR.app (sound_set ..) ?_
    exact SoundR.self _
  clear_value x1
  extract_lets +onlyGivenNames x3
  have h4 : SoundR id s x3 := by
    unfold x3
    refine SoundR.app (sound_set ..) ?_
    exact h2
  clear_value x3
  extract_lets +onlyGivenNames x5
  have h6 : SoundR id s x5 := by
    unfold x5
    refine SoundR.app (sound_setWord ..) ?_
    exact h4
  clear_value x5
  extract_lets +onlyGivenNames x7
  have h8 : SoundR id s x7 := by
    unfold x7
    refine SoundR.app (sound_set ..) ?_
    exact h6
  clear_value x7
  refine SoundR.app (sound_faultPulse ..) ?_
  refine SoundR.app (sound_raise ..) ?_
  refine SoundR.app (sound_set ..) ?_
  refine SoundR.app (sound_marchEnd ..) ?_
  exact h8

theorem sound_marchCheck (cefail : Bool) (e word a : Nat) (c : BitVec 39) (s : State) : SoundR thd s (marchCheck cefail e word a c s) := by
  unfold marchCheck
  split
  · rename_i v1 v2
    refine SoundR.mkThd ?_
    exact SoundR.self _
  · rename_i v3 v4 v5
    refine SoundR.mkThd ?_
    refine SoundR.app (sound_noteCorrected ..) ?_
    exact SoundR.self _
  · rename_i v6 v7
    refine SoundR.mkThd ?_
    refine SoundR.app (sound_noteUncorrectable ..) ?_
    exact SoundR.self _

theorem sound_marchElem (m : March) (e : Nat) (flips : List (Nat × Nat × BitVec 39)) (xs : Nat → BitVec 39) (is : List Nat) (s : State) : SoundR thd s (marchElem m e flips xs is s) := by
  unfold marchElem
  refine SoundR.foldlThd _ ?_ ?_
  · intro a1 a2 a3 a4
    extract_lets +onlyGivenNames x5
    clear_value x5
    extract_lets +onlyGivenNames x6
    have h7 : SoundR thd a3 x6 := by
      unfold x6
      refine SoundR.appG (sound_marchCheck ..) ?_
      refine SoundR.ofThd ?_
      refine SoundR.mkThd ?_
      exact SoundR.self _
    clear_value x6
    refine SoundR.mkThd ?_
    exact h7
  · refine SoundR.mkThd ?_
    exact SoundR.self _

theorem sound_marchSegmentRun (m : March) (flips : List (Nat × Nat × BitVec 39)) (s : State) : SoundR Prod.snd s (marchSegmentRun m flips s) := by
  unfold marchSegmentRun
  extract_lets +onlyGivenNames x1
  have h2 : SoundR id s x1 := by
    unfold x1
    refine SoundR.app (sound_bankServed ..) ?_
    exact SoundR.self _
  clear_value x1
  extract_lets +onlyGivenNames x3
  clear_value x3
  extract_lets +onlyGivenNames x4
  clear_value x4
  extract_lets +onlyGivenNames x5
  clear_value x5
  extract_lets +onlyGivenNames x6
  clear_value x6
  extract_lets +onlyGivenNames x7
  clear_value x7
  extract_lets +onlyGivenNames x8
  have h9 : SoundR thd s x8 := by
    unfold x8
    refine SoundR.appG (sound_marchElem ..) ?_
    exact h2
  clear_value x8
  extract_lets +onlyGivenNames x10
  clear_value x10
  extract_lets +onlyGivenNames x11
  have h12 : SoundR thd s x11 := by
    unfold x11
    refine SoundR.appG (sound_marchElem ..) ?_
    exact h9
  clear_value x11
  extract_lets +onlyGivenNames x13
  have h14 : SoundR thd s x13 := by
    unfold x13
    refine SoundR.appG (sound_marchElem ..) ?_
    exact h12
  clear_value x13
  extract_lets +onlyGivenNames x15
  have h16 : SoundR thd s x15 := by
    unfold x15
    refine SoundR.appG (sound_marchElem ..) ?_
    exact h14
  clear_value x15
  extract_lets +onlyGivenNames x17
  have h18 : SoundR thd s x17 := by
    unfold x17
    refine SoundR.appG (sound_marchElem ..) ?_
    exact h16
  clear_value x17
  extract_lets +onlyGivenNames x19
  clear_value x19
  extract_lets +onlyGivenNames x20
  clear_value x20
  extract_lets +onlyGivenNames x21
  clear_value x21
  extract_lets +onlyGivenNames x22
  have h23 : SoundR id s x22 := by
    unfold x22
    exact h18
  clear_value x22
  extract_lets +onlyGivenNames x24
  extract_lets +onlyGivenNames x25
  have h26 : SoundR id s x25 := by
    unfold x25
    refine SoundR.app (sound_setWord ..) ?_
    refine SoundR.mkMem rfl ?_ ?_
    · exact fun h => foldl_wf _ (fun _ _ hm => setMemWord_wf hm ..) h
    · exact h23
  clear_value x25
  extract_lets +onlyGivenNames x27
  clear_value x27
  extract_lets +onlyGivenNames x28
  clear_value x28
  refine SoundR.mkSnd ?_
  exact h26

theorem sound_marchTransparent (m : March) (flips : List (Nat × Nat × BitVec 39)) (s : State) : Sound s (marchTransparent m flips s) := by
  unfold marchTransparent
  refine SoundR.intro ?_
  split
  · rename_i v1 v2 v3 v4
    have h5 : SoundR id s v3 := by
      refine SoundR.of2 v4 ?_
      refine SoundR.appG (sound_marchSegmentRun ..) ?_
      exact SoundR.self _
    refine SoundR.ite ?_ ?_
    · refine SoundR.app (sound_marchEnd ..) ?_
      exact h5
    · refine SoundR.app (sound_marchFailed ..) ?_
      exact h5
  · rename_i v6 v7 v8
    have h9 : SoundR id s v7 := by
      refine SoundR.of2 v8 ?_
      refine SoundR.appG (sound_marchSegmentRun ..) ?_
      exact SoundR.self _
    refine SoundR.ite ?_ ?_
    · refine SoundR.app (sound_marchEnd ..) ?_
      exact h9
    · refine SoundR.ite ?_ ?_
      · refine SoundR.app (sound_raise ..) ?_
        refine SoundR.app (sound_set ..) ?_
        refine SoundR.app (sound_marchEnd ..) ?_
        exact h9
      · refine SoundR.mk' rfl ?_
        exact h9

theorem sound_marchDestructive (m : March) (flips : List (Nat × Nat × BitVec 39)) (s : State) : Sound s (marchDestructive m flips s) := by
  unfold marchDestructive
  refine SoundR.intro ?_
  extract_lets +onlyGivenNames x1
  have h2 : SoundR id s x1 := by
    unfold x1
    refine SoundR.app (sound_bankServed ..) ?_
    exact SoundR.self _
  clear_value x1
  extract_lets +onlyGivenNames x3
  clear_value x3
  extract_lets +onlyGivenNames x4
  clear_value x4
  split
  · rename_i v5 v6 v7
    refine SoundR.app (sound_marchFailed ..) ?_
    exact h2
  · rename_i v8 v9
    refine SoundR.ite ?_ ?_
    · refine SoundR.mk' rfl ?_
      exact h2
    · refine SoundR.app (sound_raise ..) ?_
      refine SoundR.app (sound_set ..) ?_
      refine SoundR.app (sound_marchEnd ..) ?_
      refine SoundR.mkMem rfl ?_ ?_
      · exact fun h => clearBank_wf h ..
      · exact h2

theorem sound_marchWork (flips : List (Nat × Nat × BitVec 39)) (s : State) : Sound s (marchWork flips s) := by
  unfold marchWork
  refine SoundR.intro ?_
  split
  · rename_i v1 v2
    exact SoundR.self _
  · rename_i v3 v4 v5
    refine SoundR.ite ?_ ?_
    · refine SoundR.app (sound_marchTransparent ..) ?_
      exact SoundR.self _
    · refine SoundR.app (sound_marchDestructive ..) ?_
      exact SoundR.self _

theorem sound_scrubRead (s : State) : Sound s (scrubRead s) := by
  unfold scrubRead
  refine SoundR.intro ?_
  refine SoundR.ite ?_ ?_
  · exact SoundR.self _
  · extract_lets +onlyGivenNames x1
    clear_value x1
    extract_lets +onlyGivenNames x2
    have h3 : SoundR id s x2 := by
      unfold x2
      refine SoundR.mk' rfl ?_
      exact SoundR.self _
    clear_value x2
    extract_lets +onlyGivenNames x4
    clear_value x4
    extract_lets +onlyGivenNames x5
    clear_value x5
    split
    · rename_i v6
      exact h3
    · rename_i v7 v8 v9 v10
      extract_lets +onlyGivenNames x11
      have h12 : SoundR id s x11 := by
        unfold x11
        split
        rename_i v13 v14 v15 v16
        have h17 : SoundR id s v15 := by
          refine SoundR.of2 v16 ?_
          refine SoundR.appG (sound_ramReadWord ..) ?_
          exact h3
        exact h17
      clear_value x11
      extract_lets +onlyGivenNames x18
      have h19 : SoundR id s x18 := by
        unfold x18
        refine SoundR.ite ?_ ?_
        · refine SoundR.app (sound_raise ..) ?_
          exact h12
        · exact h12
      clear_value x18
      refine SoundR.ite ?_ ?_
      · refine SoundR.mk' rfl ?_
        exact h19
      · split
        · rename_i v20 v21 v22
          refine SoundR.mk' rfl ?_
          exact h19
        · rename_i v23 v24
          refine SoundR.app (sound_raise ..) ?_
          refine SoundR.mk' rfl ?_
          exact h19

theorem sound_memCtlWrite (cid a : Nat) (w : Word) (s : State) : SoundO Prod.snd s (memCtlWrite cid a w s) := by
  unfold memCtlWrite
  extract_lets +onlyGivenNames x1
  clear_value x1
  extract_lets +onlyGivenNames x2
  refine SoundO.ite ?_ ?_
  · refine SoundO.some ?_
    refine SoundR.mkSnd ?_
    exact SoundR.self _
  · refine SoundO.ite ?_ ?_
    · refine SoundO.some ?_
      refine SoundR.mkSnd ?_
      refine SoundR.app (sound_secctlWrite ..) ?_
      exact SoundR.self _
    · refine SoundO.ite ?_ ?_
      · refine SoundO.some ?_
        refine SoundR.mkSnd ?_
        refine SoundR.app (sound_marchctlWrite ..) ?_
        exact SoundR.self _
      · refine SoundO.ite ?_ ?_
        · refine SoundO.some ?_
          refine SoundR.mkSnd ?_
          refine SoundR.app (sound_pwrWrite ..) ?_
          exact SoundR.self _
        · exact SoundO.none

end Sys2Proof.Machine
end

