-- ==== Sys2Proof/Laws/SoundShare.lean ====
section
/-!
SUPPORT. Every operation of the named files is sound (Laws/Sound.lean).
-/
set_option linter.unusedVariables false
namespace Sys2Proof.Machine
open Sys2Proof

theorem sound_setPort (s : State) (p : Fin 2) (x : Port) : Sound s (State.setPort s p x) := by
  unfold State.setPort
  refine SoundR.intro ?_
  refine SoundR.mk' rfl ?_
  exact SoundR.self _

theorem sound_setMap64 (s : State) (lo hi : Reg) (v : Nat) : Sound s (State.setMap64 s lo hi v) := by
  unfold State.setMap64
  refine SoundR.intro ?_
  refine SoundR.app (sound_setWord ..) ?_
  refine SoundR.app (sound_setWord ..) ?_
  exact SoundR.self _

theorem sound_chnEvent (b : Nat) (s : State) : Sound s (chnEvent b s) := by
  unfold chnEvent
  refine SoundR.intro ?_
  extract_lets +onlyGivenNames x1
  have h2 : SoundR id s x1 := by
    unfold x1
    refine SoundR.app (sound_setBit ..) ?_
    exact SoundR.self _
  clear_value x1
  refine SoundR.ite ?_ ?_
  · refine SoundR.app (sound_raise ..) ?_
    exact h2
  · exact h2

theorem sound_xEvent (b : Nat) (s : State) : Sound s (xEvent b s) := by
  unfold xEvent
  refine SoundR.intro ?_
  extract_lets +onlyGivenNames x1
  have h2 : SoundR id s x1 := by
    unfold x1
    refine SoundR.app (sound_setBit ..) ?_
    exact SoundR.self _
  clear_value x1
  refine SoundR.ite ?_ ?_
  · refine SoundR.app (sound_raise ..) ?_
    exact h2
  · exact h2

theorem sound_pageState (s : State) : Sound s (pageState s) := by
  unfold pageState
  refine SoundR.intro ?_
  refine SoundR.app (sound_windowPut ..) ?_
  exact SoundR.self _

theorem sound_idPage (s : State) : Sound s (idPage s) := by
  unfold idPage
  refine SoundR.intro ?_
  extract_lets +onlyGivenNames x1
  have h2 : SoundR id s x1 := by
    unfold x1
    refine SoundR.app (sound_windowPut ..) ?_
    exact SoundR.self _
  clear_value x1
  extract_lets +onlyGivenNames x3
  have h4 : SoundR id s x3 := by
    unfold x3
    refine SoundR.app (sound_windowPut ..) ?_
    exact h2
  clear_value x3
  extract_lets +onlyGivenNames x5
  have h6 : SoundR id s x5 := by
    unfold x5
    refine SoundR.app (sound_pageState ..) ?_
    refine SoundR.app (sound_windowPut ..) ?_
    exact h4
  clear_value x5
  extract_lets +onlyGivenNames x7
  have h8 : SoundR id s x7 := by
    unfold x7
    refine SoundR.app (sound_windowPut ..) ?_
    exact h6
  clear_value x7
  extract_lets +onlyGivenNames x9
  have h10 : SoundR id s x9 := by
    unfold x9
    refine SoundR.app (sound_windowPut ..) ?_
    exact h8
  clear_value x9
  refine SoundR.app (sound_windowPut ..) ?_
  exact h10

theorem sound_chainSendOn (p : Fin 2) (f : Frame) (s : State) : Sound s (chainSendOn p f s) := by
  unfold chainSendOn
  refine SoundR.intro ?_
  refine SoundR.ite ?_ ?_
  · exact SoundR.self _
  · refine SoundR.ite ?_ ?_
    · extract_lets +onlyGivenNames x1
      clear_value x1
      refine SoundR.app (sound_setPort ..) ?_
      exact SoundR.self _
    · exact SoundR.self _

theorem sound_hostPut (f : Frame) (s : State) : Sound s (hostPut f s) := by
  unfold hostPut
  refine SoundR.intro ?_
  refine SoundR.ite ?_ ?_
  · extract_lets +onlyGivenNames x1
    clear_value x1
    extract_lets +onlyGivenNames x2
    have h3 : SoundR id s x2 := by
      unfold x2
      refine SoundR.mk' rfl ?_
      exact SoundR.self _
    clear_value x2
    refine SoundR.app (sound_set ..) ?_
    exact h3
  · exact SoundR.self _

theorem sound_chainSend (f : Frame) (s : State) : Sound s (chainSend f s) := by
  unfold chainSend
  refine SoundR.intro ?_
  extract_lets +onlyGivenNames x1
  refine SoundR.ite ?_ ?_
  · extract_lets +onlyGivenNames x2
    have h3 : SoundR id s x2 := by
      unfold x2
      refine SoundR.ite ?_ ?_
      · exact SoundR.self _
      · refine SoundR.app (sound_chainSendOn ..) ?_
        exact SoundR.self _
    clear_value x2
    refine SoundR.app (sound_chainSendOn ..) ?_
    exact h3
  · refine SoundR.ite ?_ ?_
    · refine SoundR.ite ?_ ?_
      · refine SoundR.app (sound_hostPut ..) ?_
        exact SoundR.self _
      · exact SoundR.self _
    · refine SoundR.ite ?_ ?_
      · refine SoundR.app (sound_chainSendOn ..) ?_
        exact SoundR.self _
      · exact SoundR.self _

theorem sound_setBuf (s : State) (i : Nat) (b : Buf) : Sound s (State.setBuf s i b) := by
  unfold State.setBuf
  refine SoundR.intro ?_
  refine SoundR.mk' rfl ?_
  exact SoundR.self _

theorem sound_poolLevels (before : Nat) (s : State) : Sound s (poolLevels before s) := by
  unfold poolLevels
  refine SoundR.intro ?_
  extract_lets +onlyGivenNames x1
  clear_value x1
  extract_lets +onlyGivenNames x2
  clear_value x2
  extract_lets +onlyGivenNames x3
  have h4 : SoundR id s x3 := by
    unfold x3
    refine SoundR.ite ?_ ?_
    · refine SoundR.app (sound_raise ..) ?_
      exact SoundR.self _
    · exact SoundR.self _
  clear_value x3
  refine SoundR.ite ?_ ?_
  · refine SoundR.app (sound_raise ..) ?_
    exact h4
  · exact h4

theorem sound_poolRefuse (cid h cause : Nat) (s : State) : Sound s (poolRefuse cid h cause s) := by
  unfold poolRefuse
  refine SoundR.intro ?_
  extract_lets +onlyGivenNames x1
  clear_value x1
  extract_lets +onlyGivenNames x2
  clear_value x2
  extract_lets +onlyGivenNames x3
  clear_value x3
  extract_lets +onlyGivenNames x4
  clear_value x4
  extract_lets +onlyGivenNames x5
  have h6 : SoundR id s x5 := by
    unfold x5
    refine SoundR.app (sound_setWord ..) ?_
    exact SoundR.self _
  clear_value x5
  extract_lets +onlyGivenNames x7
  have h8 : SoundR id s x7 := by
    unfold x7
    refine SoundR.app (sound_setWord ..) ?_
    exact h6
  clear_value x7
  extract_lets +onlyGivenNames x9
  have h10 : SoundR id s x9 := by
    unfold x9
    refine SoundR.app (sound_set ..) ?_
    exact h8
  clear_value x9
  extract_lets +onlyGivenNames x11
  have h12 : SoundR id s x11 := by
    unfold x11
    refine SoundR.app (sound_setBit ..) ?_
    exact h10
  clear_value x11
  extract_lets +onlyGivenNames x13
  have h14 : SoundR id s x13 := by
    unfold x13
    refine SoundR.ite ?_ ?_
    · refine SoundR.app (sound_setBit ..) ?_
      exact h12
    · exact h12
  clear_value x13
  refine SoundR.app (sound_raise ..) ?_
  exact h14

theorem sound_moveAll (f : Buf → Buf) (l : List Nat) (s : State) : Sound s (moveAll f l s) := by
  unfold moveAll
  refine SoundR.intro ?_
  refine SoundR.foldl _ ?_ ?_
  · intro a1 a2
    refine SoundR.app (sound_setBuf ..) ?_
    exact SoundR.self _
  · exact SoundR.self _

theorem sound_poolAlloc (cid : Nat) (s : State) : SoundR Prod.snd s (poolAlloc cid s) := by
  unfold poolAlloc
  refine SoundR.ite ?_ ?_
  · split
    · rename_i v1 v2 v3
      extract_lets +onlyGivenNames x4
      clear_value x4
      extract_lets +onlyGivenNames x5
      clear_value x5
      extract_lets +onlyGivenNames x6
      have h7 : SoundR id s x6 := by
        unfold x6
        refine SoundR.app (sound_setBuf ..) ?_
        exact SoundR.self _
      clear_value x6
      refine SoundR.mkSnd ?_
      refine SoundR.app (sound_poolLevels ..) ?_
      exact h7
    · rename_i v8 v9
      refine SoundR.mkSnd ?_
      exact SoundR.self _
  · refine SoundR.mkSnd ?_
    exact SoundR.self _

theorem sound_poolFree (cid h : Nat) (s : State) : Sound s (poolFree cid h s) := by
  unfold poolFree
  refine SoundR.intro ?_
  split
  · rename_i v1 v2 v3
    refine SoundR.app (sound_poolRefuse ..) ?_
    exact SoundR.self _
  · rename_i v4 v5
    refine SoundR.app (sound_moveAll ..) ?_
    exact SoundR.self _

theorem sound_poolGive (cid h target : Nat) (s : State) : Sound s (poolGive cid h target s) := by
  unfold poolGive
  refine SoundR.intro ?_
  split
  · rename_i v1 v2 v3
    refine SoundR.app (sound_poolRefuse ..) ?_
    exact SoundR.self _
  · rename_i v4 v5
    refine SoundR.app (sound_moveAll ..) ?_
    exact SoundR.self _

theorem sound_poolTransit (cid h place : Nat) (s : State) : SoundR Prod.snd s (poolTransit cid h place s) := by
  unfold poolTransit
  split
  · rename_i v1 v2 v3
    refine SoundR.mkSnd ?_
    refine SoundR.app (sound_poolRefuse ..) ?_
    exact SoundR.self _
  · rename_i v4 v5
    refine SoundR.mkSnd ?_
    refine SoundR.app (sound_moveAll ..) ?_
    exact SoundR.self _

theorem sound_poolDeliver (h cid : Nat) (s : State) : Sound s (poolDeliver h cid s) := by
  unfold poolDeliver
  refine SoundR.intro ?_
  refine SoundR.app (sound_moveAll ..) ?_
  exact SoundR.self _

theorem sound_poolLink (cid h n : Nat) (s : State) : Sound s (poolLink cid h n s) := by
  unfold poolLink
  refine SoundR.intro ?_
  split
  · rename_i v1 v2 v3
    refine SoundR.app (sound_poolRefuse ..) ?_
    exact SoundR.self _
  · rename_i v4 v5
    split
    · rename_i v6 v7 v8
      refine SoundR.app (sound_poolRefuse ..) ?_
      exact SoundR.self _
    · rename_i v9 v10
      extract_lets +onlyGivenNames x11
      clear_value x11
      extract_lets +onlyGivenNames x12
      clear_value x12
      refine SoundR.ite ?_ ?_
      · refine SoundR.app (sound_setBuf ..) ?_
        exact SoundR.self _
      · refine SoundR.ite ?_ ?_
        · refine SoundR.app (sound_poolRefuse ..) ?_
          exact SoundR.self _
        · refine SoundR.app (sound_setBuf ..) ?_
          exact SoundR.self _

theorem sound_poolReclaim (cid : Nat) (s : State) : Sound s (poolReclaim cid s) := by
  unfold poolReclaim
  refine SoundR.intro ?_
  refine SoundR.app (sound_moveAll ..) ?_
  exact SoundR.self _

theorem sound_poolReserve (cid : Nat) (s : State) : SoundR Prod.snd s (poolReserve cid s) := by
  unfold poolReserve
  refine SoundR.ite ?_ ?_
  · refine SoundR.mkSnd ?_
    exact SoundR.self _
  · split
    · rename_i v1 v2
      refine SoundR.mkSnd ?_
      exact SoundR.self _
    · rename_i v3 v4 v5
      extract_lets +onlyGivenNames x6
      clear_value x6
      refine SoundR.mkSnd ?_
      refine SoundR.app (sound_poolLevels ..) ?_
      refine SoundR.app (sound_setBuf ..) ?_
      exact SoundR.self _

theorem sound_poolRelease (i : Nat) (s : State) : Sound s (poolRelease i s) := by
  unfold poolRelease
  refine SoundR.intro ?_
  refine SoundR.ite ?_ ?_
  · refine SoundR.app (sound_setBuf ..) ?_
    exact SoundR.self _
  · exact SoundR.self _

theorem sound_setBell (s : State) (m : Nat) (w : Word) : Sound s (State.setBell s m w) := by
  unfold State.setBell
  refine SoundR.intro ?_
  refine SoundR.mk' rfl ?_
  exact SoundR.self _

theorem sound_bellSet (m data scid sorg : Nat) (handle : Bool) (s : State) : Sound s (bellSet m data scid sorg handle s) := by
  unfold bellSet
  refine SoundR.intro ?_
  refine SoundR.app (sound_raise ..) ?_
  refine SoundR.app (sound_setBell ..) ?_
  exact SoundR.self _

theorem sound_bellOvr (m : Nat) (s : State) : Sound s (bellOvr m s) := by
  unfold bellOvr
  refine SoundR.intro ?_
  refine SoundR.app (sound_setBell ..) ?_
  exact SoundR.self _

theorem sound_mbxPost (m cid org data : Nat) (handle : Bool) (s : State) : SoundR Prod.snd s (mbxPost m cid org data handle s) := by
  unfold mbxPost
  refine SoundR.ite ?_ ?_
  · refine SoundR.mkSnd ?_
    refine SoundR.app (sound_bellOvr ..) ?_
    exact SoundR.self _
  · refine SoundR.ite ?_ ?_
    · refine SoundR.ite ?_ ?_
      · refine SoundR.mkSnd ?_
        exact SoundR.self _
      · split
        · rename_i v1 v2 v3
          have h4 : SoundR id s v2 := by
            refine SoundR.of2 v3 ?_
            refine SoundR.appG (sound_poolTransit ..) ?_
            exact SoundR.self _
          refine SoundR.mkSnd ?_
          refine SoundR.app (sound_bellSet ..) ?_
          exact h4
        · rename_i v5 v6 v7
          have h8 : SoundR id s v6 := by
            refine SoundR.of2 v7 ?_
            refine SoundR.appG (sound_poolTransit ..) ?_
            exact SoundR.self _
          refine SoundR.mkSnd ?_
          exact h8
    · refine SoundR.mkSnd ?_
      refine SoundR.app (sound_bellSet ..) ?_
      exact SoundR.self _

theorem sound_mbxAck (m : Nat) (s : State) : Sound s (mbxAck m s) := by
  unfold mbxAck
  refine SoundR.intro ?_
  refine SoundR.ite ?_ ?_
  · extract_lets +onlyGivenNames x1
    clear_value x1
    extract_lets +onlyGivenNames x2
    have h3 : SoundR id s x2 := by
      unfold x2
      refine SoundR.ite ?_ ?_
      · refine SoundR.app (sound_poolDeliver ..) ?_
        exact SoundR.self _
      · exact SoundR.self _
    clear_value x2
    extract_lets +onlyGivenNames x4
    have h5 : SoundR id s x4 := by
      unfold x4
      refine SoundR.app (sound_setBell ..) ?_
      exact h3
    clear_value x4
    refine SoundR.ite ?_ ?_
    · refine SoundR.app (sound_raise ..) ?_
      refine SoundR.app (sound_setBit ..) ?_
      exact h5
    · exact h5
  · exact SoundR.self _

theorem sound_bellWrite (m cid org : Nat) (w : Word) (s : State) : SoundR Prod.snd s (bellWrite m cid org w s) := by
  unfold bellWrite
  split
  · rename_i v1 v2
    refine SoundR.ite ?_ ?_
    · refine SoundR.appG (sound_mbxPost ..) ?_
      exact SoundR.self _
    · refine SoundR.mkSnd ?_
      exact SoundR.self _
  · rename_i v3 v4
    refine SoundR.ite ?_ ?_
    · refine SoundR.mkSnd ?_
      refine SoundR.app (sound_mbxAck ..) ?_
      exact SoundR.self _
    · refine SoundR.mkSnd ?_
      exact SoundR.self _
  · rename_i v5 v6 v7
    refine SoundR.mkSnd ?_
    exact SoundR.self _

theorem sound_ledgerNote (which index : Nat) (off : Bool) (s : State) : Sound s (ledgerNote which index off s) := by
  unfold ledgerNote
  refine SoundR.intro ?_
  extract_lets +onlyGivenNames x1
  clear_value x1
  extract_lets +onlyGivenNames x2
  clear_value x2
  extract_lets +onlyGivenNames x3
  clear_value x3
  refine SoundR.mk' rfl ?_
  exact SoundR.self _

theorem sound_setSem (s : State) (k : Nat) (x : Sem) : Sound s (State.setSem s k x) := by
  unfold State.setSem
  refine SoundR.intro ?_
  refine SoundR.mk' rfl ?_
  exact SoundR.self _

theorem sound_semLog (k cid unit cause : Nat) (s : State) : Sound s (semLog k cid unit cause s) := by
  unfold semLog
  refine SoundR.intro ?_
  extract_lets +onlyGivenNames x1
  clear_value x1
  extract_lets +onlyGivenNames x2
  have h3 : SoundR id s x2 := by
    unfold x2
    refine SoundR.app (sound_setWord ..) ?_
    exact SoundR.self _
  clear_value x2
  refine SoundR.app (sound_raise ..) ?_
  refine SoundR.app (sound_set ..) ?_
  exact h3

theorem sound_grantEntry (k cid unit res : Nat) (s : State) : Sound s (grantEntry k cid unit res s) := by
  unfold grantEntry
  refine SoundR.intro ?_
  refine SoundR.ite ?_ ?_
  · refine SoundR.app (sound_semLog ..) ?_
    exact SoundR.self _
  · extract_lets +onlyGivenNames x1
    clear_value x1
    extract_lets +onlyGivenNames x2
    have h3 : SoundR id s x2 := by
      unfold x2
      refine SoundR.mk' rfl ?_
      exact SoundR.self _
    clear_value x2
    refine SoundR.app (sound_raise ..) ?_
    exact h3

theorem sound_setPipend (c : Nat) (s : State) : Sound s (setPipend c s) := by
  unfold setPipend
  refine SoundR.intro ?_
  extract_lets +onlyGivenNames x1
  clear_value x1
  refine SoundR.ite ?_ ?_
  · exact SoundR.self _
  · refine SoundR.app (sound_raise ..) ?_
    refine SoundR.app (sound_setBit ..) ?_
    exact SoundR.self _

theorem sound_sendPinote (unit kind k cid pri nhop : Nat) (s : State) : Sound s (sendPinote unit kind k cid pri nhop s) := by
  unfold sendPinote
  refine SoundR.intro ?_
  refine SoundR.app (sound_chainSend ..) ?_
  exact SoundR.self _

theorem sound_refreshEpri (nhop c : Nat) (s : State) : Sound s (refreshEpri nhop c s) := by
  unfold refreshEpri
  refine SoundR.intro ?_
  extract_lets +onlyGivenNames x1
  clear_value x1
  extract_lets +onlyGivenNames x2
  clear_value x2
  extract_lets +onlyGivenNames x3
  have h4 : SoundR id s x3 := by
    unfold x3
    refine SoundR.mk' rfl ?_
    exact SoundR.self _
  clear_value x3
  refine SoundR.ite ?_ ?_
  · exact h4
  · extract_lets +onlyGivenNames x5
    have h6 : SoundR id s x5 := by
      unfold x5
      refine SoundR.app (sound_setPipend ..) ?_
      exact h4
    clear_value x5
    extract_lets +onlyGivenNames x7
    clear_value x7
    extract_lets +onlyGivenNames x8
    have h9 : SoundR id s x8 := by
      unfold x8
      split
      · rename_i v10 v11 v12
        refine SoundR.mk' rfl ?_
        exact h6
      · rename_i v13 v14
        exact h6
    clear_value x8
    split
    · rename_i v15 v16 v17 v18
      refine SoundR.app (sound_sendPinote ..) ?_
      exact h9
    · rename_i v19 v20
      exact h9

theorem sound_semHop (nhop k : Nat) (s : State) : Sound s (semHop nhop k s) := by
  unfold semHop
  refine SoundR.intro ?_
  refine SoundR.foldl _ ?_ ?_
  · intro a1 a2
    refine SoundR.ite ?_ ?_
    · refine SoundR.app (sound_refreshEpri ..) ?_
      exact SoundR.self _
    · extract_lets +onlyGivenNames x3
      clear_value x3
      extract_lets +onlyGivenNames x4
      clear_value x4
      refine SoundR.ite ?_ ?_
      · exact SoundR.self _
      · refine SoundR.app (sound_sendPinote ..) ?_
        refine SoundR.app (sound_setSem ..) ?_
        exact SoundR.self _
  · exact SoundR.self _

theorem sound_nextHop (g : Nat) (s : State) : Sound s (nextHop g s) := by
  unfold nextHop
  refine SoundR.intro ?_
  split
  · rename_i v1 v2 v3
    refine SoundR.app (sound_semHop ..) ?_
    refine SoundR.mk' rfl ?_
    exact SoundR.self _
  · rename_i v4 v5
    exact SoundR.self _

theorem sound_drainHops : ∀ (n : Nat) (s : State), Sound s (drainHops n s)
  | 0, s => Sound.refl s
  | n + 1, s => by
    unfold drainHops
    refine SoundR.intro ?_
    split
    · exact SoundR.self s
    · exact SoundR.app (sound_drainHops n _) (SoundR.app (sound_semHop ..) (SoundR.mk' rfl (SoundR.self s)))

theorem sound_hopsAll (s : State) : Sound s (hopsAll s) := by
  unfold hopsAll
  refine SoundR.intro ?_
  refine SoundR.app (sound_drainHops ..) ?_
  exact SoundR.self _

theorem sound_sendSemEvent (dst k cid res : Nat) (s : State) : Sound s (sendSemEvent dst k cid res s) := by
  unfold sendSemEvent
  refine SoundR.intro ?_
  extract_lets +onlyGivenNames x1
  clear_value x1
  extract_lets +onlyGivenNames x2
  clear_value x2
  extract_lets +onlyGivenNames x3
  clear_value x3
  extract_lets +onlyGivenNames x4
  have h5 : SoundR id s x4 := by
    unfold x4
    refine SoundR.mk' rfl ?_
    exact SoundR.self _
  clear_value x4
  refine SoundR.app (sound_chainSend ..) ?_
  exact h5

theorem sound_semHold (k : Nat) (p : Party) (s : State) : Sound s (semHold k p s) := by
  unfold semHold
  refine SoundR.intro ?_
  extract_lets +onlyGivenNames x1
  clear_value x1
  refine SoundR.app (sound_setSem ..) ?_
  exact SoundR.self _

theorem sound_semRelease (k : Nat) (p : Party) (s : State) : Sound s (semRelease k p s) := by
  unfold semRelease
  refine SoundR.intro ?_
  extract_lets +onlyGivenNames x1
  clear_value x1
  extract_lets +onlyGivenNames x2
  have h3 : SoundR id s x2 := by
    unfold x2
    refine SoundR.app (sound_setSem ..) ?_
    exact SoundR.self _
  clear_value x2
  extract_lets +onlyGivenNames x4
  clear_value x4
  extract_lets +onlyGivenNames x5
  have h6 : SoundR id s x5 := by
    unfold x5
    split
    · rename_i v7 v8
      exact h3
    · rename_i v9 v10 v11
      extract_lets +onlyGivenNames x12
      have h13 : SoundR id s x12 := by
        unfold x12
        refine SoundR.app (sound_semHold ..) ?_
        refine SoundR.app (sound_setSem ..) ?_
        exact h3
      clear_value x12
      refine SoundR.ite ?_ ?_
      · refine SoundR.app (sound_grantEntry ..) ?_
        exact h13
      · refine SoundR.app (sound_sendSemEvent ..) ?_
        exact h13
  clear_value x5
  extract_lets +onlyGivenNames x14
  clear_value x14
  extract_lets +onlyGivenNames x15
  have h16 : SoundR id s x15 := by
    unfold x15
    refine SoundR.ite ?_ ?_
    · refine SoundR.app (sound_refreshEpri ..) ?_
      exact h6
    · refine SoundR.ite ?_ ?_
      · exact h6
      · refine SoundR.app (sound_sendPinote ..) ?_
        refine SoundR.app (sound_setSem ..) ?_
        exact h6
  clear_value x15
  refine SoundR.app (sound_semHop ..) ?_
  exact h16

theorem sound_semDo (op : SemOp) (k : Nat) (p : Party) (s : State) : SoundR Prod.snd s (semDo op k p s) := by
  unfold semDo
  extract_lets +onlyGivenNames x1
  clear_value x1
  split
  · rename_i v2
    refine SoundR.ite ?_ ?_
    · refine SoundR.mkSnd ?_
      refine SoundR.app (sound_semRelease ..) ?_
      exact SoundR.self _
    · refine SoundR.mkSnd ?_
      exact SoundR.self _
  · rename_i v3
    refine SoundR.ite ?_ ?_
    · extract_lets +onlyGivenNames x4
      have h5 : SoundR id s x4 := by
        unfold x4
        refine SoundR.app (sound_setSem ..) ?_
        exact SoundR.self _
      clear_value x4
      extract_lets +onlyGivenNames x6
      have h7 : SoundR id s x6 := by
        unfold x6
        refine SoundR.ite ?_ ?_
        · refine SoundR.app (sound_grantEntry ..) ?_
          exact h5
        · exact h5
      clear_value x6
      refine SoundR.mkSnd ?_
      refine SoundR.app (sound_semHop ..) ?_
      exact h7
    · refine SoundR.mkSnd ?_
      exact SoundR.self _
  · rename_i v8 v9 v10
    refine SoundR.ite ?_ ?_
    · refine SoundR.mkSnd ?_
      exact SoundR.self _
    · refine SoundR.ite ?_ ?_
      · refine SoundR.mkSnd ?_
        refine SoundR.app (sound_semHold ..) ?_
        exact SoundR.self _
      · refine SoundR.ite ?_ ?_
        · refine SoundR.mkSnd ?_
          exact SoundR.self _
        · refine SoundR.ite ?_ ?_
          · refine SoundR.mkSnd ?_
            exact SoundR.self _
          · refine SoundR.ite ?_ ?_
            · refine SoundR.mkSnd ?_
              exact SoundR.self _
            · refine SoundR.ite ?_ ?_
              · refine SoundR.mkSnd ?_
                exact SoundR.self _
              · refine SoundR.mkSnd ?_
                refine SoundR.app (sound_semHop ..) ?_
                refine SoundR.app (sound_setSem ..) ?_
                exact SoundR.self _

theorem sound_semOp (op : SemOp) (write : Bool) (k acid : Nat) (p : Party) (s : State) : SoundR thd s (semOp op write k acid p s) := by
  unfold semOp
  extract_lets +onlyGivenNames x1
  have h2 : SoundR id s x1 := by
    unfold x1
    refine SoundR.app (sound_hopsAll ..) ?_
    exact SoundR.self _
  clear_value x1
  refine SoundR.ite ?_ ?_
  · refine SoundR.mkThd ?_
    refine SoundR.ite ?_ ?_
    · refine SoundR.app (sound_semLog ..) ?_
      exact h2
    · exact h2
  · refine SoundR.ite ?_ ?_
    · refine SoundR.mkThd ?_
      refine SoundR.ite ?_ ?_
      · refine SoundR.app (sound_semLog ..) ?_
        exact h2
      · exact h2
    · extract_lets +onlyGivenNames x3
      have h4 : SoundR Prod.snd s x3 := by
        unfold x3
        refine SoundR.appG (sound_semDo ..) ?_
        exact h2
      clear_value x3
      extract_lets +onlyGivenNames x5
      have h6 : SoundR id s x5 := by
        unfold x5
        refine SoundR.ite ?_ ?_
        · refine SoundR.app (sound_semLog ..) ?_
          exact h4
        · exact h4
      clear_value x5
      refine SoundR.mkThd ?_
      exact h6

theorem SoundR.semAns {s : State} {r : Option Nat × Word × State} (h : SoundR thd s r) : SoundR Prod.snd s (Machine.semAns r) := h

theorem sound_semPort (op : SemOp) (write : Bool) (k cid : Nat) (s : State) : SoundR Prod.snd s (semPort op write k cid s) := by
  unfold semPort
  exact SoundR.semAns (sound_semOp ..)

theorem sound_semWindowWrite (k cid : Nat) (w : Word) (s : State) : Sound s (semWindowWrite k cid w s) := by
  unfold semWindowWrite
  refine SoundR.intro ?_
  extract_lets +onlyGivenNames x1
  split
  · rename_i v2 v3
    split
    · rename_i v4 v5 v6 v7 v8
      have h9 : SoundR id s v7 := by
        refine SoundR.of3 v8 ?_
        unfold x1
        refine SoundR.appG (sound_semOp ..) ?_
        exact SoundR.self _
      refine SoundR.ite ?_ ?_
      · exact h9
      · refine SoundR.app (sound_grantEntry ..) ?_
        exact h9
    · rename_i v10 v11 v12 v13
      have h14 : SoundR id s v12 := by
        refine SoundR.of3 v13 ?_
        unfold x1
        refine SoundR.appG (sound_semOp ..) ?_
        exact SoundR.self _
      refine SoundR.app (sound_grantEntry ..) ?_
      exact h14
  · rename_i v15 v16
    split
    rename_i v17 v18 v19 v20 v21
    have h22 : SoundR id s v20 := by
      refine SoundR.of3 v21 ?_
      unfold x1
      refine SoundR.appG (sound_semOp ..) ?_
      exact SoundR.self _
    refine SoundR.app (sound_grantEntry ..) ?_
    exact h22
  · rename_i v23 v24
    split
    rename_i v25 v26 v27 v28 v29
    have h30 : SoundR id s v28 := by
      refine SoundR.of3 v29 ?_
      unfold x1
      refine SoundR.appG (sound_semOp ..) ?_
      exact SoundR.self _
    exact h30
  · rename_i v31 v32 v33 v34
    exact SoundR.self _

theorem sound_grantRead (s : State) : SoundR Prod.snd s (grantRead s) := by
  unfold grantRead
  split
  · rename_i v1 v2
    refine SoundR.mkSnd ?_
    exact SoundR.self _
  · rename_i v3 v4 v5 v6
    refine SoundR.mkSnd ?_
    refine SoundR.mk' rfl ?_
    exact SoundR.self _

theorem sound_remoteNote (unit k cid res : Nat) (s : State) : Sound s (remoteNote unit k cid res s) := by
  unfold remoteNote
  refine SoundR.intro ?_
  extract_lets +onlyGivenNames x1
  clear_value x1
  extract_lets +onlyGivenNames x2
  clear_value x2
  extract_lets +onlyGivenNames x3
  clear_value x3
  refine SoundR.mk' rfl ?_
  exact SoundR.self _

theorem sound_remoteResult (unit k cid res : Nat) (s : State) : Sound s (remoteResult unit k cid res s) := by
  unfold remoteResult
  refine SoundR.intro ?_
  refine SoundR.app (sound_grantEntry ..) ?_
  refine SoundR.app (sound_remoteNote ..) ?_
  exact SoundR.self _

theorem sound_reclaimLog (orphan : Bool) (k : Nat) (p : Party) (s : State) : Sound s (reclaimLog orphan k p s) := by
  unfold reclaimLog
  refine SoundR.intro ?_
  refine SoundR.ite ?_ ?_
  · refine SoundR.app (sound_semLog ..) ?_
    exact SoundR.self _
  · exact SoundR.self _

theorem sound_semReclaimParty (orphan : Bool) (p : Party) (s : State) : Sound s (semReclaimParty orphan p s) := by
  unfold semReclaimParty
  refine SoundR.intro ?_
  extract_lets +onlyGivenNames x1
  have h2 : SoundR id s x1 := by
    unfold x1
    split
    · rename_i v3 v4 v5
      extract_lets +onlyGivenNames x6
      clear_value x6
      extract_lets +onlyGivenNames x7
      have h8 : SoundR id s x7 := by
        unfold x7
        refine SoundR.app (sound_setSem ..) ?_
        exact SoundR.self _
      clear_value x7
      extract_lets +onlyGivenNames x9
      have h10 : SoundR id s x9 := by
        unfold x9
        refine SoundR.ite ?_ ?_
        · refine SoundR.app (sound_grantEntry ..) ?_
          exact h8
        · refine SoundR.app (sound_sendSemEvent ..) ?_
          exact h8
      clear_value x9
      refine SoundR.app (sound_hopsAll ..) ?_
      refine SoundR.app (sound_reclaimLog ..) ?_
      refine SoundR.app (sound_semHop ..) ?_
      exact h10
    · rename_i v11 v12
      exact SoundR.self _
  clear_value x1
  refine SoundR.foldl _ ?_ ?_
  · intro a13 a14
    refine SoundR.app (sound_hopsAll ..) ?_
    refine SoundR.app (sound_reclaimLog ..) ?_
    refine SoundR.app (sound_semRelease ..) ?_
    exact SoundR.self _
  · exact h2

theorem sound_semReclaim (cid : Nat) (s : State) : Sound s (semReclaim cid s) := by
  unfold semReclaim
  refine SoundR.intro ?_
  refine SoundR.app (sound_semReclaimParty ..) ?_
  refine SoundR.app (sound_hopsAll ..) ?_
  exact SoundR.self _

theorem sound_semUnitGone (unit : Nat) (s : State) : Sound s (semUnitGone unit s) := by
  unfold semUnitGone
  refine SoundR.intro ?_
  extract_lets +onlyGivenNames x1
  have h2 : SoundR id s x1 := by
    unfold x1
    refine SoundR.app (sound_hopsAll ..) ?_
    exact SoundR.self _
  clear_value x1
  extract_lets +onlyGivenNames x3
  clear_value x3
  extract_lets +onlyGivenNames x4
  have h5 : SoundR id s x4 := by
    unfold x4
    refine SoundR.foldl _ ?_ ?_
    · intro a6 a7
      refine SoundR.app (sound_semReclaimParty ..) ?_
      exact SoundR.self _
    · exact h2
  clear_value x4
  extract_lets +onlyGivenNames x8
  clear_value x8
  extract_lets +onlyGivenNames x9
  have h10 : SoundR id s x9 := by
    unfold x9
    refine SoundR.foldl _ ?_ ?_
    · intro a11 a12
      refine SoundR.app (sound_semLog ..) ?_
      refine SoundR.app (sound_remoteResult ..) ?_
      exact SoundR.self _
    · exact h5
  clear_value x9
  extract_lets +onlyGivenNames x13
  clear_value x13
  extract_lets +onlyGivenNames x14
  have h15 : SoundR id s x14 := by
    unfold x14
    refine SoundR.mk' rfl ?_
    exact h10
  clear_value x14
  extract_lets +onlyGivenNames x16
  clear_value x16
  extract_lets +onlyGivenNames x17
  clear_value x17
  extract_lets +onlyGivenNames x18
  have h19 : SoundR id s x18 := by
    unfold x18
    refine SoundR.mk' rfl ?_
    exact h15
  clear_value x18
  refine SoundR.app (sound_hopsAll ..) ?_
  refine SoundR.foldl _ ?_ ?_
  · intro a20 a21
    refine SoundR.app (sound_refreshEpri ..) ?_
    exact SoundR.self _
  · exact h19

theorem sound_pinote (unit kind k cid pri nhop : Nat) (s : State) : Sound s (pinote unit kind k cid pri nhop s) := by
  unfold pinote
  refine SoundR.intro ?_
  extract_lets +onlyGivenNames x1
  clear_value x1
  refine SoundR.ite ?_ ?_
  · refine SoundR.app (sound_semLog ..) ?_
    exact SoundR.self _
  · refine SoundR.ite ?_ ?_
    · extract_lets +onlyGivenNames x2
      clear_value x2
      extract_lets +onlyGivenNames x3
      clear_value x3
      extract_lets +onlyGivenNames x4
      clear_value x4
      extract_lets +onlyGivenNames x5
      clear_value x5
      extract_lets +onlyGivenNames x6
      refine SoundR.ite ?_ ?_
      · unfold x6
        refine SoundR.foldl _ ?_ ?_
        · intro a7 a8
          refine SoundR.app (sound_refreshEpri ..) ?_
          exact SoundR.self _
        · refine SoundR.mk' rfl ?_
          exact SoundR.self _
      · refine SoundR.ite ?_ ?_
        · unfold x6
          refine SoundR.foldl _ ?_ ?_
          · intro a9 a10
            refine SoundR.app (sound_refreshEpri ..) ?_
            exact SoundR.self _
          · refine SoundR.mk' rfl ?_
            exact SoundR.self _
        · refine SoundR.app (sound_semLog ..) ?_
          exact SoundR.self _
    · extract_lets +onlyGivenNames x11
      clear_value x11
      extract_lets +onlyGivenNames x12
      clear_value x12
      refine SoundR.ite ?_ ?_
      · refine SoundR.app (sound_semHop ..) ?_
        refine SoundR.app (sound_setSem ..) ?_
        exact SoundR.self _
      · exact SoundR.self _

theorem sound_semOrphanGive (k : Nat) (p : Party) (s : State) : Sound s (semOrphanGive k p s) := by
  unfold semOrphanGive
  refine SoundR.intro ?_
  extract_lets +onlyGivenNames x1
  have h2 : SoundR id s x1 := by
    unfold x1
    refine SoundR.app (sound_hopsAll ..) ?_
    exact SoundR.self _
  clear_value x1
  refine SoundR.ite ?_ ?_
  · refine SoundR.app (sound_semLog ..) ?_
    refine SoundR.app (sound_semRelease ..) ?_
    exact h2
  · exact h2

theorem sound_busErr (who : Who) (write : Bool) (a : Nat) (c : Cause) (s : State) : Sound s (busErr who write a c s) := by
  unfold busErr
  refine SoundR.intro ?_
  extract_lets +onlyGivenNames x1
  clear_value x1
  extract_lets +onlyGivenNames x2
  have h3 : SoundR id s x2 := by
    unfold x2
    refine SoundR.app (sound_count ..) ?_
    exact SoundR.self _
  clear_value x2
  extract_lets +onlyGivenNames x4
  have h5 : SoundR id s x4 := by
    unfold x4
    refine SoundR.app (sound_setWord ..) ?_
    exact h3
  clear_value x4
  extract_lets +onlyGivenNames x6
  have h7 : SoundR id s x6 := by
    unfold x6
    refine SoundR.app (sound_setWord ..) ?_
    exact h5
  clear_value x6
  refine SoundR.app (sound_raise ..) ?_
  refine SoundR.app (sound_set ..) ?_
  exact h7

theorem sound_bellServed (cid : Nat) (s : State) : Sound s (bellServed cid s) := by
  unfold bellServed
  refine SoundR.intro ?_
  refine SoundR.mk' rfl ?_
  exact SoundR.self _

theorem sound_windowRead (who : Who) (off size : Nat) (s : State) : SoundR Prod.snd s (windowRead who off size s) := by
  unfold windowRead
  refine SoundR.ite ?_ ?_
  · split
    rename_i v1 v2 v3 v4 v5
    have h6 : SoundR id s v4 := by
      refine SoundR.of3 v5 ?_
      refine SoundR.appG (sound_semOp ..) ?_
      exact SoundR.self _
    refine SoundR.mkSnd ?_
    exact h6
  · refine SoundR.ite ?_ ?_
    · refine SoundR.mkSnd ?_
      exact SoundR.self _
    · refine SoundR.ite ?_ ?_
      · refine SoundR.mkSnd ?_
        refine SoundR.app (sound_bellServed ..) ?_
        exact SoundR.self _
      · refine SoundR.appG (sound_ramRead ..) ?_
        exact SoundR.self _

theorem sound_windowWrite (who : Who) (off size v : Nat) (s : State) : SoundR Prod.snd s (windowWrite who off size v s) := by
  unfold windowWrite
  refine SoundR.ite ?_ ?_
  · extract_lets +onlyGivenNames x1
    clear_value x1
    refine SoundR.ite ?_ ?_
    · refine SoundR.mkSnd ?_
      refine SoundR.app (sound_semWindowWrite ..) ?_
      exact SoundR.self _
    · extract_lets +onlyGivenNames x2
      refine SoundR.mkSnd ?_
      split
      · rename_i v3 v4
        unfold x2
        split
        rename_i v5 v6 v7 v8 v9
        have h10 : SoundR id s v8 := by
          refine SoundR.of3 v9 ?_
          refine SoundR.appG (sound_semOp ..) ?_
          exact SoundR.self _
        exact h10
      · rename_i v11 v12
        unfold x2
        split
        rename_i v13 v14 v15 v16 v17
        have h18 : SoundR id s v16 := by
          refine SoundR.of3 v17 ?_
          refine SoundR.appG (sound_semOp ..) ?_
          exact SoundR.self _
        exact h18
      · rename_i v19 v20
        unfold x2
        split
        rename_i v21 v22 v23 v24 v25
        have h26 : SoundR id s v24 := by
          refine SoundR.of3 v25 ?_
          refine SoundR.appG (sound_semOp ..) ?_
          exact SoundR.self _
        exact h26
      · rename_i v27 v28 v29 v30
        exact SoundR.self _
  · refine SoundR.ite ?_ ?_
    · extract_lets +onlyGivenNames x31
      clear_value x31
      refine SoundR.ite ?_ ?_
      · refine SoundR.appG (sound_bellWrite ..) ?_
        refine SoundR.app (sound_bellServed ..) ?_
        exact SoundR.self _
      · refine SoundR.ite ?_ ?_
        · refine SoundR.mkSnd ?_
          exact SoundR.self _
        · refine SoundR.appG (sound_ramWrite ..) ?_
          exact SoundR.self _
    · refine SoundR.appG (sound_ramWrite ..) ?_
      exact SoundR.self _

theorem sound_windowAccess1 (who : Who) (write : Bool) (off size v : Nat) (s : State) : SoundR Prod.snd s (windowAccess1 who write off size v s) := by
  unfold windowAccess1
  split
  · rename_i v1 v2 v3
    refine SoundR.mkSnd ?_
    exact SoundR.self _
  · rename_i v4 v5 v6
    refine SoundR.ite ?_ ?_
    · refine SoundR.appG (sound_windowWrite ..) ?_
      exact SoundR.self _
    · refine SoundR.appG (sound_windowRead ..) ?_
      exact SoundR.self _

theorem sound_windowLogged (who : Who) (write : Bool) (base off size v : Nat) (s : State) : SoundR Prod.snd s (windowLogged who write base off size v s) := by
  unfold windowLogged
  split
  · rename_i v1 v2 v3 v4
    have h5 : SoundR id s v3 := by
      refine SoundR.of2 v4 ?_
      refine SoundR.appG (sound_windowAccess1 ..) ?_
      exact SoundR.self _
    refine SoundR.mkSnd ?_
    refine SoundR.app (sound_busErr ..) ?_
    exact h5
  · rename_i v6 v7
    refine SoundR.appG (sound_windowAccess1 ..) ?_
    exact SoundR.self _

theorem sound_windowAccess (who : Who) (write : Bool) (base off size v : Nat) (s : State) : SoundR Prod.snd s (windowAccess who write base off size v s) := by
  unfold windowAccess
  refine SoundR.ite ?_ ?_
  · split
    · rename_i v1 v2 v3
      refine SoundR.mkSnd ?_
      refine SoundR.app (sound_busErr ..) ?_
      exact SoundR.self _
    · rename_i v4 v5 v6
      split
      · rename_i v7 v8 v9 v10
        have h11 : SoundR id s v9 := by
          refine SoundR.of2 v10 ?_
          refine SoundR.appG (sound_windowLogged ..) ?_
          exact SoundR.self _
        refine SoundR.mkSnd ?_
        exact h11
      · rename_i v12 v13 v14 v15
        have h16 : SoundR id s v14 := by
          refine SoundR.of2 v15 ?_
          refine SoundR.appG (sound_windowLogged ..) ?_
          exact SoundR.self _
        split
        · rename_i v17 v18 v19 v20
          have h21 : SoundR id s v19 := by
            refine SoundR.of2 v20 ?_
            refine SoundR.appG (sound_windowLogged ..) ?_
            exact h16
          refine SoundR.mkSnd ?_
          exact h21
        · rename_i v22 v23 v24 v25
          have h26 : SoundR id s v24 := by
            refine SoundR.of2 v25 ?_
            refine SoundR.appG (sound_windowLogged ..) ?_
            exact h16
          refine SoundR.mkSnd ?_
          exact h26
  · refine SoundR.appG (sound_windowLogged ..) ?_
    exact SoundR.self _

end Sys2Proof.Machine
end

