-- ==== Sys2Proof/Laws/SoundPwm.lean ====
section
/-!
SUPPORT. Every operation of the named files is sound (Laws/Sound.lean).
-/
set_option linter.unusedVariables false
namespace Sys2Proof.Machine
open Sys2Proof

theorem sound_polUpdate (s : State) : Sound s (polUpdate s) := by
  unfold polUpdate
  refine SoundR.intro ?_
  extract_lets +onlyGivenNames x1
  clear_value x1
  extract_lets +onlyGivenNames x2
  clear_value x2
  extract_lets +onlyGivenNames x3
  clear_value x3
  extract_lets +onlyGivenNames x4
  clear_value x4
  extract_lets +onlyGivenNames x5
  clear_value x5
  extract_lets +onlyGivenNames x6
  clear_value x6
  extract_lets +onlyGivenNames x7
  clear_value x7
  extract_lets +onlyGivenNames x8
  clear_value x8
  extract_lets +onlyGivenNames x9
  have h10 : SoundR id s x9 := by
    unfold x9
    refine SoundR.mk' rfl ?_
    exact SoundR.self _
  clear_value x9
  extract_lets +onlyGivenNames x11
  have h12 : SoundR id s x11 := by
    unfold x11
    refine SoundR.app (sound_set ..) ?_
    refine SoundR.app (sound_set ..) ?_
    exact h10
  clear_value x11
  extract_lets +onlyGivenNames x13
  have h14 : SoundR id s x13 := by
    unfold x13
    refine SoundR.ite ?_ ?_
    · refine SoundR.app (sound_raise ..) ?_
      exact h12
    · exact h12
  clear_value x13
  extract_lets +onlyGivenNames x15
  clear_value x15
  extract_lets +onlyGivenNames x16
  have h17 : SoundR id s x16 := by
    unfold x16
    refine SoundR.ite ?_ ?_
    · refine SoundR.app (sound_set ..) ?_
      refine SoundR.mk' rfl ?_
      exact h14
    · refine SoundR.ite ?_ ?_
      · refine SoundR.app (sound_set ..) ?_
        refine SoundR.mk' rfl ?_
        exact h14
      · exact h14
  clear_value x16
  refine SoundR.ite ?_ ?_
  · refine SoundR.app (sound_legsFault ..) ?_
    exact h17
  · exact h17

theorem sound_polMark (b : Nat) (on : Bool) (s : State) : Sound s (polMark b on s) := by
  unfold polMark
  refine SoundR.intro ?_
  extract_lets +onlyGivenNames x1
  clear_value x1
  extract_lets +onlyGivenNames x2
  have h3 : SoundR id s x2 := by
    unfold x2
    refine SoundR.app (sound_setBit ..) ?_
    exact SoundR.self _
  clear_value x2
  refine SoundR.ite ?_ ?_
  · refine SoundR.app (sound_setBit ..) ?_
    exact h3
  · exact h3

theorem sound_polSet (b : Nat) (on : Bool) (s : State) : Sound s (polSet b on s) := by
  unfold polSet
  refine SoundR.intro ?_
  refine SoundR.app (sound_polUpdate ..) ?_
  refine SoundR.app (sound_polMark ..) ?_
  exact SoundR.self _

theorem sound_polClear (s : State) : Sound s (polClear s) := by
  unfold polClear
  refine SoundR.intro ?_
  refine SoundR.app (sound_polUpdate ..) ?_
  refine SoundR.app (sound_set ..) ?_
  exact SoundR.self _

theorem sound_rampExpire (s : State) : Sound s (rampExpire s) := by
  unfold rampExpire
  refine SoundR.intro ?_
  refine SoundR.ite ?_ ?_
  · extract_lets +onlyGivenNames x1
    clear_value x1
    extract_lets +onlyGivenNames x2
    have h3 : SoundR id s x2 := by
      unfold x2
      refine SoundR.mk' rfl ?_
      exact SoundR.self _
    clear_value x2
    refine SoundR.ite ?_ ?_
    · refine SoundR.app (sound_polUpdate ..) ?_
      refine SoundR.app (sound_raise ..) ?_
      refine SoundR.mk' rfl ?_
      exact h3
    · exact h3
  · exact SoundR.self _

theorem sound_thermUpdate (s : State) : Sound s (thermUpdate s) := by
  unfold thermUpdate
  refine SoundR.intro ?_
  extract_lets +onlyGivenNames x1
  clear_value x1
  extract_lets +onlyGivenNames x2
  clear_value x2
  extract_lets +onlyGivenNames x3
  clear_value x3
  extract_lets +onlyGivenNames x4
  clear_value x4
  extract_lets +onlyGivenNames x5
  clear_value x5
  extract_lets +onlyGivenNames x6
  clear_value x6
  extract_lets +onlyGivenNames x7
  clear_value x7
  extract_lets +onlyGivenNames x8
  clear_value x8
  extract_lets +onlyGivenNames x9
  clear_value x9
  extract_lets +onlyGivenNames x10
  clear_value x10
  extract_lets +onlyGivenNames x11
  clear_value x11
  extract_lets +onlyGivenNames x12
  clear_value x12
  extract_lets +onlyGivenNames x13
  clear_value x13
  extract_lets +onlyGivenNames x14
  clear_value x14
  extract_lets +onlyGivenNames x15
  have h16 : SoundR id s x15 := by
    unfold x15
    refine SoundR.app (sound_set ..) ?_
    refine SoundR.mk' rfl ?_
    exact SoundR.self _
  clear_value x15
  extract_lets +onlyGivenNames x17
  clear_value x17
  extract_lets +onlyGivenNames x18
  clear_value x18
  extract_lets +onlyGivenNames x19
  clear_value x19
  extract_lets +onlyGivenNames x20
  clear_value x20
  refine SoundR.app (sound_polUpdate ..) ?_
  refine SoundR.app (sound_polMark ..) ?_
  refine SoundR.app (sound_polMark ..) ?_
  exact h16

theorem sound_govWindow (s : State) : Sound s (govWindow s) := by
  unfold govWindow
  refine SoundR.intro ?_
  refine SoundR.app (sound_set ..) ?_
  refine SoundR.mk' rfl ?_
  exact SoundR.self _

theorem sound_govEnds (s : State) : Sound s (govEnds s) := by
  unfold govEnds
  refine SoundR.intro ?_
  extract_lets +onlyGivenNames x1
  clear_value x1
  extract_lets +onlyGivenNames x2
  clear_value x2
  extract_lets +onlyGivenNames x3
  clear_value x3
  extract_lets +onlyGivenNames x4
  extract_lets +onlyGivenNames x5
  have h6 : SoundR id s x5 := by
    unfold x5
    refine SoundR.app (sound_setB ..) ?_
    refine SoundR.app (sound_setB ..) ?_
    exact SoundR.self _
  clear_value x5
  refine SoundR.ite ?_ ?_
  · refine SoundR.app (sound_raise ..) ?_
    exact h6
  · exact h6

theorem sound_govTarget (v : Nat) (s : State) : Sound s (govTarget v s) := by
  unfold govTarget
  refine SoundR.intro ?_
  extract_lets +onlyGivenNames x1
  clear_value x1
  extract_lets +onlyGivenNames x2
  have h3 : SoundR id s x2 := by
    unfold x2
    refine SoundR.ite ?_ ?_
    · exact SoundR.self _
    · refine SoundR.mk' rfl ?_
      exact SoundR.self _
  clear_value x2
  refine SoundR.app (sound_govWindow ..) ?_
  refine SoundR.app (sound_govEnds ..) ?_
  refine SoundR.app (sound_set ..) ?_
  exact h3

theorem sound_govHold (v : Nat) (s : State) : Sound s (govHold v s) := by
  unfold govHold
  refine SoundR.intro ?_
  refine SoundR.ite ?_ ?_
  · refine SoundR.app (sound_govEnds ..) ?_
    exact SoundR.self _
  · refine SoundR.app (sound_govTarget ..) ?_
    exact SoundR.self _

theorem sound_govRefresh (s : State) : Sound s (govRefresh s) := by
  unfold govRefresh
  refine SoundR.intro ?_
  refine SoundR.ite ?_ ?_
  · exact SoundR.self _
  · refine SoundR.ite ?_ ?_
    · extract_lets +onlyGivenNames x1
      clear_value x1
      refine SoundR.app (sound_govHold ..) ?_
      refine SoundR.app (sound_set ..) ?_
      refine SoundR.mk' rfl ?_
      exact SoundR.self _
    · refine SoundR.ite ?_ ?_
      · refine SoundR.app (sound_govHold ..) ?_
        refine SoundR.app (sound_set ..) ?_
        refine SoundR.mk' rfl ?_
        exact SoundR.self _
      · extract_lets +onlyGivenNames x2
        have h3 : SoundR id s x2 := by
          unfold x2
          refine SoundR.ite ?_ ?_
          · exact SoundR.self _
          · refine SoundR.app (sound_govWindow ..) ?_
            refine SoundR.app (sound_set ..) ?_
            exact SoundR.self _
        clear_value x2
        refine SoundR.app (sound_govHold ..) ?_
        exact h3

theorem sound_govChange (was : Bool) (s : State) : Sound s (govChange was s) := by
  unfold govChange
  refine SoundR.intro ?_
  refine SoundR.app (sound_govRefresh ..) ?_
  refine SoundR.ite ?_ ?_
  · refine SoundR.app (sound_govWindow ..) ?_
    exact SoundR.self _
  · exact SoundR.self _

theorem sound_govEmergency (s : State) : Sound s (govEmergency s) := by
  unfold govEmergency
  refine SoundR.intro ?_
  extract_lets +onlyGivenNames x1
  clear_value x1
  extract_lets +onlyGivenNames x2
  have h3 : SoundR id s x2 := by
    unfold x2
    refine SoundR.app (sound_set ..) ?_
    refine SoundR.mk' rfl ?_
    exact SoundR.self _
  clear_value x2
  refine SoundR.app (sound_raise ..) ?_
  refine SoundR.app (sound_govTarget ..) ?_
  refine SoundR.app (sound_count ..) ?_
  exact h3

theorem sound_govWindowEnd (s : State) : Sound s (govWindowEnd s) := by
  unfold govWindowEnd
  refine SoundR.intro ?_
  extract_lets +onlyGivenNames x1
  have h2 : SoundR id s x1 := by
    unfold x1
    split
    · rename_i v3 v4 v5
      refine SoundR.app (sound_setInt ..) ?_
      exact SoundR.self _
    · rename_i v6 v7
      exact SoundR.self _
  clear_value x1
  extract_lets +onlyGivenNames x8
  clear_value x8
  refine SoundR.ite ?_ ?_
  · extract_lets +onlyGivenNames x9
    clear_value x9
    refine SoundR.app (sound_govTarget ..) ?_
    refine SoundR.ite ?_ ?_
    · refine SoundR.app (sound_count ..) ?_
      exact h2
    · exact h2
  · refine SoundR.app (sound_govWindow ..) ?_
    exact h2

theorem sound_govInstance (c : Fin 2) (v : Int) (lsper : Nat) (s : State) : Sound s (govInstance c v lsper s) := by
  unfold govInstance
  refine SoundR.intro ?_
  refine SoundR.ite ?_ ?_
  · exact SoundR.self _
  · extract_lets +onlyGivenNames x1
    clear_value x1
    extract_lets +onlyGivenNames x2
    clear_value x2
    extract_lets +onlyGivenNames x3
    clear_value x3
    extract_lets +onlyGivenNames x4
    clear_value x4
    extract_lets +onlyGivenNames x5
    clear_value x5
    refine SoundR.ite ?_ ?_
    · refine SoundR.app (sound_govEmergency ..) ?_
      exact SoundR.self _
    · refine SoundR.ite ?_ ?_
      · extract_lets +onlyGivenNames x6
        clear_value x6
        refine SoundR.app (sound_govTarget ..) ?_
        refine SoundR.ite ?_ ?_
        · refine SoundR.app (sound_count ..) ?_
          exact SoundR.self _
        · exact SoundR.self _
      · extract_lets +onlyGivenNames x7
        clear_value x7
        extract_lets +onlyGivenNames x8
        clear_value x8
        extract_lets +onlyGivenNames x9
        clear_value x9
        extract_lets +onlyGivenNames x10
        clear_value x10
        extract_lets +onlyGivenNames x11
        have h12 : SoundR id s x11 := by
          unfold x11
          refine SoundR.app (sound_count ..) ?_
          refine SoundR.mk' rfl ?_
          exact SoundR.self _
        clear_value x11
        refine SoundR.ite ?_ ?_
        · refine SoundR.app (sound_govWindowEnd ..) ?_
          exact h12
        · exact h12

theorem sound_govReached (s : State) : Sound s (govReached s) := by
  unfold govReached
  refine SoundR.intro ?_
  refine SoundR.ite ?_ ?_
  · exact SoundR.self _
  · extract_lets +onlyGivenNames x1
    clear_value x1
    extract_lets +onlyGivenNames x2
    have h3 : SoundR id s x2 := by
      unfold x2
      refine SoundR.mk' rfl ?_
      exact SoundR.self _
    refine SoundR.ite ?_ ?_
    · refine SoundR.app (sound_set ..) ?_
      exact h3
    · exact h3

theorem sound_legBrake (l t : Nat) (s : State) : Sound s (legBrake l t s) := by
  unfold legBrake
  refine SoundR.intro ?_
  extract_lets +onlyGivenNames x1
  clear_value x1
  extract_lets +onlyGivenNames x2
  clear_value x2
  extract_lets +onlyGivenNames x3
  have h4 : SoundR id s x3 := by
    unfold x3
    refine SoundR.mk' rfl ?_
    exact SoundR.self _
  clear_value x3
  extract_lets +onlyGivenNames x5
  have h6 : SoundR id s x5 := by
    unfold x5
    refine SoundR.app (sound_setWord ..) ?_
    exact h4
  clear_value x5
  extract_lets +onlyGivenNames x7
  have h8 : SoundR id s x7 := by
    unfold x7
    refine SoundR.app (sound_set ..) ?_
    refine SoundR.app (sound_set ..) ?_
    exact h6
  clear_value x7
  refine SoundR.app (sound_raise ..) ?_
  refine SoundR.app (sound_set ..) ?_
  exact h8

theorem sound_deadlineFault (c : Fin 2) (g : Nat) (s : State) : Sound s (deadlineFault c g s) := by
  unfold deadlineFault
  refine SoundR.intro ?_
  extract_lets +onlyGivenNames x1
  clear_value x1
  extract_lets +onlyGivenNames x2
  have h3 : SoundR id s x2 := by
    unfold x2
    refine SoundR.forEach _ ?_ ?_
    · intro a4 a5
      refine SoundR.ite ?_ ?_
      · extract_lets +onlyGivenNames x6
        clear_value x6
        refine SoundR.ite ?_ ?_
        · refine SoundR.app (sound_legBrake ..) ?_
          exact SoundR.self _
        · refine SoundR.app (sound_legFault ..) ?_
          exact SoundR.self _
      · exact SoundR.self _
    · exact SoundR.self _
  clear_value x2
  refine SoundR.ite ?_ ?_
  · refine SoundR.app (sound_polSet ..) ?_
    refine SoundR.mk' rfl ?_
    exact h3
  · exact h3

theorem sound_updSched (s : State) (c : Fin 2) (f : Sched → Sched) : Sound s (State.updSched s c f) := by
  unfold State.updSched
  refine SoundR.intro ?_
  refine SoundR.mk' rfl ?_
  exact SoundR.self _

theorem sound_schedSlack (c : Fin 2) (v : Int) (s : State) : Sound s (schedSlack c v s) := by
  unfold schedSlack
  refine SoundR.intro ?_
  extract_lets +onlyGivenNames x1
  have h2 : SoundR id s x1 := by
    unfold x1
    refine SoundR.app (sound_updSched ..) ?_
    exact SoundR.self _
  clear_value x1
  refine SoundR.app (sound_govInstance ..) ?_
  exact h2

theorem sound_schedMiss (c : Fin 2) (s : State) : Sound s (schedMiss c s) := by
  unfold schedMiss
  refine SoundR.intro ?_
  extract_lets +onlyGivenNames x1
  clear_value x1
  split
  · rename_i v2 v3
    exact SoundR.self _
  · rename_i v4 v5 v6
    extract_lets +onlyGivenNames x7
    have h8 : SoundR id s x7 := by
      unfold x7
      refine SoundR.app (sound_updSched ..) ?_
      exact SoundR.self _
    clear_value x7
    extract_lets +onlyGivenNames x9
    have h10 : SoundR id s x9 := by
      unfold x9
      refine SoundR.app (sound_schedSlack ..) ?_
      exact h8
    clear_value x9
    extract_lets +onlyGivenNames x11
    clear_value x11
    refine SoundR.ite ?_ ?_
    · refine SoundR.app (sound_deadlineFault ..) ?_
      exact h10
    · exact h10

theorem sound_schedMet (c : Fin 2) (diff : Int) (s : State) : Sound s (schedMet c diff s) := by
  unfold schedMet
  refine SoundR.intro ?_
  refine SoundR.ite ?_ ?_
  · refine SoundR.app (sound_schedSlack ..) ?_
    refine SoundR.app (sound_updSched ..) ?_
    exact SoundR.self _
  · refine SoundR.app (sound_schedSlack ..) ?_
    exact SoundR.self _

theorem sound_schedCommit (c : Fin 2) (g : Nat) (s : State) : Sound s (schedCommit c g s) := by
  unfold schedCommit
  refine SoundR.intro ?_
  extract_lets +onlyGivenNames x1
  clear_value x1
  split
  · rename_i v2 v3
    exact SoundR.self _
  · rename_i v4 v5 v6
    refine SoundR.ite ?_ ?_
    · exact SoundR.self _
    · split
      · rename_i v7 v8
        extract_lets +onlyGivenNames x9
        clear_value x9
        split
        · rename_i v10 v11 v12
          extract_lets +onlyGivenNames x13
          have h14 : SoundR id s x13 := by
            unfold x13
            refine SoundR.app (sound_updSched ..) ?_
            exact SoundR.self _
          clear_value x13
          refine SoundR.app (sound_schedMet ..) ?_
          exact h14
        · rename_i v15 v16
          refine SoundR.app (sound_updSched ..) ?_
          exact SoundR.self _
      · rename_i v17 v18
        refine SoundR.app (sound_updSched ..) ?_
        exact SoundR.self _
      · rename_i v19 v20
        exact SoundR.self _
      · rename_i v21 v22
        exact SoundR.self _

theorem sound_schedShadow (c : Fin 2) (g : Nat) (s : State) : Sound s (schedShadow c g s) := by
  unfold schedShadow
  refine SoundR.intro ?_
  extract_lets +onlyGivenNames x1
  clear_value x1
  extract_lets +onlyGivenNames x2
  clear_value x2
  extract_lets +onlyGivenNames x3
  clear_value x3
  extract_lets +onlyGivenNames x4
  have h5 : SoundR id s x4 := by
    unfold x4
    refine SoundR.app (sound_updSched ..) ?_
    exact SoundR.self _
  clear_value x4
  extract_lets +onlyGivenNames x6
  have h7 : SoundR id s x6 := by
    unfold x6
    refine SoundR.foldl _ ?_ ?_
    · intro a8 a9
      refine SoundR.app (sound_schedMet ..) ?_
      exact SoundR.self _
    · exact h5
  clear_value x6
  split
  · rename_i v10 v11
    exact h7
  · rename_i v12 v13 v14
    refine SoundR.ite ?_ ?_
    · exact h7
    · extract_lets +onlyGivenNames x15
      clear_value x15
      extract_lets +onlyGivenNames x16
      have h17 : SoundR id s x16 := by
        unfold x16
        refine SoundR.app (sound_updSched ..) ?_
        exact h7
      clear_value x16
      refine SoundR.ite ?_ ?_
      · refine SoundR.app (sound_schedMiss ..) ?_
        exact h17
      · exact h17

theorem sound_schedCarrier (c : Fin 2) (g : Nat) (peak : Bool) (s : State) : Sound s (schedCarrier c g peak s) := by
  unfold schedCarrier
  refine SoundR.intro ?_
  extract_lets +onlyGivenNames x1
  clear_value x1
  extract_lets +onlyGivenNames x2
  clear_value x2
  refine SoundR.ite ?_ ?_
  · exact SoundR.self _
  · extract_lets +onlyGivenNames x3
    have h4 : SoundR id s x3 := by
      unfold x3
      refine SoundR.app (sound_updSched ..) ?_
      exact SoundR.self _
    clear_value x3
    refine SoundR.ite ?_ ?_
    · exact h4
    · refine SoundR.app (sound_updSched ..) ?_
      exact h4

theorem sound_schedDeliver (c : Fin 2) (lvl : Nat) (s : State) : Sound s (schedDeliver c lvl s) := by
  unfold schedDeliver
  refine SoundR.intro ?_
  extract_lets +onlyGivenNames x1
  clear_value x1
  refine SoundR.ite ?_ ?_
  · exact SoundR.self _
  · refine SoundR.ite ?_ ?_
    · refine SoundR.ite ?_ ?_
      · refine SoundR.app (sound_updSched ..) ?_
        exact SoundR.self _
      · refine SoundR.app (sound_updSched ..) ?_
        exact SoundR.self _
    · refine SoundR.app (sound_updSched ..) ?_
      exact SoundR.self _

theorem sound_schedTrigger (c : Fin 2) (s : State) : Sound s (schedTrigger c s) := by
  unfold schedTrigger
  refine SoundR.intro ?_
  extract_lets +onlyGivenNames x1
  clear_value x1
  split
  · rename_i v2 v3
    exact SoundR.self _
  · rename_i v4 v5 v6 v7
    refine SoundR.ite ?_ ?_
    · exact SoundR.self _
    · extract_lets +onlyGivenNames x8
      have h9 : SoundR id s x8 := by
        unfold x8
        refine SoundR.app (sound_updSched ..) ?_
        exact SoundR.self _
      clear_value x8
      extract_lets +onlyGivenNames x10
      clear_value x10
      refine SoundR.ite ?_ ?_
      · refine SoundR.app (sound_updSched ..) ?_
        exact h9
      · extract_lets +onlyGivenNames x11
        have h12 : SoundR id s x11 := by
          unfold x11
          refine SoundR.ite ?_ ?_
          · refine SoundR.app (sound_updSched ..) ?_
            exact h9
          · exact h9
        clear_value x11
        extract_lets +onlyGivenNames x13
        have h14 : SoundR id s x13 := by
          unfold x13
          refine SoundR.ite ?_ ?_
          · refine SoundR.app (sound_schedMiss ..) ?_
            exact h12
          · exact h12
        clear_value x13
        extract_lets +onlyGivenNames x15
        clear_value x15
        extract_lets +onlyGivenNames x16
        clear_value x16
        extract_lets +onlyGivenNames x17
        have h18 : SoundR id s x17 := by
          unfold x17
          refine SoundR.app (sound_updSched ..) ?_
          exact h14
        clear_value x17
        extract_lets +onlyGivenNames x19
        have h20 : SoundR id s x19 := by
          unfold x19
          refine SoundR.ite ?_ ?_
          · refine SoundR.app (sound_schedMiss ..) ?_
            exact h18
          · exact h18
        clear_value x19
        refine SoundR.app (sound_schedDeliver ..) ?_
        exact h20

theorem sound_lsctlWrite (c : Fin 2) (w : Nat) (s : State) : Sound s (lsctlWrite c w s) := by
  unfold lsctlWrite
  refine SoundR.intro ?_
  extract_lets +onlyGivenNames x1
  clear_value x1
  extract_lets +onlyGivenNames x2
  have h3 : SoundR id s x2 := by
    unfold x2
    refine SoundR.app (sound_updSched ..) ?_
    exact SoundR.self _
  clear_value x2
  refine SoundR.ite ?_ ?_
  · refine SoundR.app (sound_govChange ..) ?_
    exact h3
  · exact h3

theorem sound_faultInput (i : Nat) (s : State) : Sound s (faultInput i s) := by
  unfold faultInput
  refine SoundR.intro ?_
  refine SoundR.forEach _ ?_ ?_
  · intro a1 a2
    refine SoundR.ite ?_ ?_
    · refine SoundR.app (sound_legLatch ..) ?_
      exact SoundR.self _
    · exact SoundR.self _
  · exact SoundR.self _

theorem sound_faultScan (s : State) : Sound s (faultScan s) := by
  unfold faultScan
  refine SoundR.intro ?_
  refine SoundR.forEach _ ?_ ?_
  · intro a1 a2
    refine SoundR.ite ?_ ?_
    · refine SoundR.app (sound_faultInput ..) ?_
      exact SoundR.self _
    · exact SoundR.self _
  · exact SoundR.self _

theorem sound_cmpOut (k : Nat) (v : Bool) (s : State) : Sound s (cmpOut k v s) := by
  unfold cmpOut
  refine SoundR.intro ?_
  refine SoundR.ite ?_ ?_
  · exact SoundR.self _
  · extract_lets +onlyGivenNames x1
    have h2 : SoundR id s x1 := by
      unfold x1
      refine SoundR.app (sound_setBit ..) ?_
      exact SoundR.self _
    clear_value x1
    refine SoundR.ite ?_ ?_
    · refine SoundR.app (sound_raise ..) ?_
      refine SoundR.app (sound_faultInput ..) ?_
      exact h2
    · refine SoundR.app (sound_raise ..) ?_
      exact h2

theorem sound_setBlank (k : Nat) (v : Option Nat) (s : State) : Sound s (setBlank k v s) := by
  unfold setBlank
  refine SoundR.intro ?_
  refine SoundR.mk' rfl ?_
  exact SoundR.self _

theorem sound_setVolts (v : Analog) (s : State) : Sound s (setVolts v s) := by
  unfold setVolts
  refine SoundR.intro ?_
  refine SoundR.mk' rfl ?_
  exact SoundR.self _

theorem sound_cmpRaw (k : Nat) (v : Bool) (s : State) : Sound s (cmpRaw k v s) := by
  unfold cmpRaw
  refine SoundR.intro ?_
  extract_lets +onlyGivenNames x1
  have h2 : SoundR id s x1 := by
    unfold x1
    refine SoundR.app (sound_setBit ..) ?_
    exact SoundR.self _
  clear_value x1
  refine SoundR.ite ?_ ?_
  · exact h2
  · refine SoundR.app (sound_cmpOut ..) ?_
    exact h2

theorem sound_cmpFollow (k : Nat) (s : State) : Sound s (cmpFollow k s) := by
  unfold cmpFollow
  refine SoundR.intro ?_
  extract_lets +onlyGivenNames x1
  clear_value x1
  refine SoundR.ite ?_ ?_
  · exact SoundR.self _
  · refine SoundR.app (sound_cmpRaw ..) ?_
    exact SoundR.self _

theorem sound_cmpTrip (k : Nat) (v : Analog) (s : State) : Sound s (cmpTrip k v s) := by
  unfold cmpTrip
  refine SoundR.intro ?_
  refine SoundR.ite ?_ ?_
  · refine SoundR.app (sound_cmpRaw ..) ?_
    refine SoundR.app (sound_setVolts ..) ?_
    exact SoundR.self _
  · exact SoundR.self _

theorem sound_cmpRelease (k : Nat) (v : Analog) (s : State) : Sound s (cmpRelease k v s) := by
  unfold cmpRelease
  refine SoundR.intro ?_
  refine SoundR.ite ?_ ?_
  · refine SoundR.app (sound_cmpRaw ..) ?_
    refine SoundR.app (sound_setVolts ..) ?_
    exact SoundR.self _
  · exact SoundR.self _

theorem sound_blankClose (k : Nat) (s : State) : Sound s (blankClose k s) := by
  unfold blankClose
  refine SoundR.intro ?_
  split
  · rename_i v1 v2
    exact SoundR.self _
  · rename_i v3 v4 v5
    refine SoundR.ite ?_ ?_
    · exact SoundR.self _
    · extract_lets +onlyGivenNames x6
      have h7 : SoundR id s x6 := by
        unfold x6
        refine SoundR.app (sound_setBlank ..) ?_
        exact SoundR.self _
      clear_value x6
      refine SoundR.ite ?_ ?_
      · refine SoundR.app (sound_cmpOut ..) ?_
        exact h7
      · exact h7

theorem sound_blankOpen (l : Nat) (o : LegOut) (s : State) : Sound s (blankOpen l o s) := by
  unfold blankOpen
  refine SoundR.intro ?_
  refine SoundR.forEach _ ?_ ?_
  · intro a1 a2
    extract_lets +onlyGivenNames x3
    clear_value x3
    extract_lets +onlyGivenNames x4
    clear_value x4
    refine SoundR.ite ?_ ?_
    · refine SoundR.app (sound_cmpOut ..) ?_
      refine SoundR.app (sound_setBlank ..) ?_
      exact SoundR.self _
    · exact SoundR.self _
  · exact SoundR.self _

theorem sound_cmpCtlWrite (k : Nat) (w : Word) (s : State) : SoundR Prod.snd s (cmpCtlWrite k w s) := by
  unfold cmpCtlWrite
  refine SoundR.ite ?_ ?_
  · refine SoundR.mkSnd ?_
    exact SoundR.self _
  · extract_lets +onlyGivenNames x1
    have h2 : SoundR id s x1 := by
      unfold x1
      refine SoundR.app (sound_setWord ..) ?_
      exact SoundR.self _
    clear_value x1
    refine SoundR.ite ?_ ?_
    · refine SoundR.mkSnd ?_
      refine SoundR.app (sound_cmpFollow ..) ?_
      exact h2
    · refine SoundR.mkSnd ?_
      refine SoundR.app (sound_cmpOut ..) ?_
      refine SoundR.app (sound_setBit ..) ?_
      exact h2

theorem sound_cmpDacWrite (k : Nat) (w : Word) (s : State) : Sound s (cmpDacWrite k w s) := by
  unfold cmpDacWrite
  refine SoundR.intro ?_
  refine SoundR.app (sound_cmpFollow ..) ?_
  refine SoundR.app (sound_set ..) ?_
  exact SoundR.self _

theorem sound_pgaWrite (p : Nat) (w : Word) (s : State) : Sound s (pgaWrite p w s) := by
  unfold pgaWrite
  refine SoundR.intro ?_
  extract_lets +onlyGivenNames x1
  clear_value x1
  extract_lets +onlyGivenNames x2
  have h3 : SoundR id s x2 := by
    unfold x2
    refine SoundR.app (sound_setWord ..) ?_
    exact SoundR.self _
  clear_value x2
  refine SoundR.ite ?_ ?_
  · refine SoundR.app (sound_set ..) ?_
    exact h3
  · exact h3

theorem sound_setConv (s : State) (c : Nat) (x : Conv) : Sound s (State.setConv s c x) := by
  unfold State.setConv
  refine SoundR.intro ?_
  refine SoundR.mk' rfl ?_
  exact SoundR.self _

theorem sound_adcWait (c : Nat) (s : State) : Sound s (adcWait c s) := by
  unfold adcWait
  refine SoundR.intro ?_
  refine SoundR.app (sound_setB ..) ?_
  exact SoundR.self _

theorem sound_adcTake (c : Nat) (coarse : Bool) (s : State) : Sound s (adcTake c coarse s) := by
  unfold adcTake
  refine SoundR.intro ?_
  extract_lets +onlyGivenNames x1
  clear_value x1
  split
  · rename_i v2 v3 v4
    exact SoundR.self _
  · rename_i v5 v6
    refine SoundR.app (sound_adcWait ..) ?_
    refine SoundR.app (sound_setConv ..) ?_
    exact SoundR.self _

theorem sound_adcSkip (c : Nat) (s : State) : Sound s (adcSkip c s) := by
  unfold adcSkip
  refine SoundR.intro ?_
  refine SoundR.app (sound_raise ..) ?_
  refine SoundR.app (sound_set ..) ?_
  refine SoundR.app (sound_count ..) ?_
  exact SoundR.self _

theorem sound_adcPwmTrigger (t : Nat) (coarse : Bool) (s : State) : Sound s (adcPwmTrigger t coarse s) := by
  unfold adcPwmTrigger
  refine SoundR.intro ?_
  refine SoundR.forEach _ ?_ ?_
  · intro a1 a2
    extract_lets +onlyGivenNames x3
    clear_value x3
    refine SoundR.ite ?_ ?_
    · exact SoundR.self _
    · refine SoundR.ite ?_ ?_
      · refine SoundR.app (sound_adcTake ..) ?_
        exact SoundR.self _
      · refine SoundR.ite ?_ ?_
        · refine SoundR.app (sound_adcSkip ..) ?_
          exact SoundR.self _
        · exact SoundR.self _
  · exact SoundR.self _

theorem sound_adcKindTrigger (c kind : Nat) (s : State) : Sound s (adcKindTrigger c kind s) := by
  unfold adcKindTrigger
  refine SoundR.intro ?_
  refine SoundR.ite ?_ ?_
  · refine SoundR.app (sound_adcTake ..) ?_
    exact SoundR.self _
  · exact SoundR.self _

theorem sound_adcTimer (c : Nat) (s : State) : Sound s (adcTimer c s) := by
  unfold adcTimer
  refine SoundR.intro ?_
  split
  · rename_i v1 v2
    exact SoundR.self _
  · rename_i v3 v4 v5
    refine SoundR.ite ?_ ?_
    · exact SoundR.self _
    · refine SoundR.app (sound_adcKindTrigger ..) ?_
      refine SoundR.app (sound_setConv ..) ?_
      exact SoundR.self _

theorem sound_adcSample (c : Nat) (v : Analog) (s : State) : Sound s (adcSample c v s) := by
  unfold adcSample
  refine SoundR.intro ?_
  extract_lets +onlyGivenNames x1
  clear_value x1
  split
  · rename_i v2 v3
    exact SoundR.self _
  · rename_i v4 v5 v6
    extract_lets +onlyGivenNames x7
    clear_value x7
    refine SoundR.ite ?_ ?_
    · exact SoundR.self _
    · extract_lets +onlyGivenNames x8
      clear_value x8
      extract_lets +onlyGivenNames x9
      clear_value x9
      extract_lets +onlyGivenNames x10
      clear_value x10
      extract_lets +onlyGivenNames x11
      clear_value x11
      extract_lets +onlyGivenNames x12
      have h13 : SoundR id s x12 := by
        unfold x12
        refine SoundR.app (sound_setConv ..) ?_
        refine SoundR.app (sound_setVolts ..) ?_
        exact SoundR.self _
      clear_value x12
      extract_lets +onlyGivenNames x14
      have h15 : SoundR id s x14 := by
        unfold x14
        refine SoundR.app (sound_set ..) ?_
        refine SoundR.app (sound_set ..) ?_
        exact h13
      clear_value x14
      extract_lets +onlyGivenNames x16
      have h17 : SoundR id s x16 := by
        unfold x16
        refine SoundR.app (sound_adcWait ..) ?_
        exact h15
      clear_value x16
      refine SoundR.ite ?_ ?_
      · refine SoundR.app (sound_raise ..) ?_
        refine SoundR.app (sound_set ..) ?_
        exact h17
      · exact h17

theorem sound_adcEnd (c : Nat) (s : State) : Sound s (adcEnd c s) := by
  unfold adcEnd
  refine SoundR.intro ?_
  extract_lets +onlyGivenNames x1
  clear_value x1
  split
  · rename_i v2 v3
    exact SoundR.self _
  · rename_i v4 v5 v6
    extract_lets +onlyGivenNames x7
    clear_value x7
    extract_lets +onlyGivenNames x8
    clear_value x8
    extract_lets +onlyGivenNames x9
    clear_value x9
    extract_lets +onlyGivenNames x10
    have h11 : SoundR id s x10 := by
      unfold x10
      refine SoundR.app (sound_set ..) ?_
      exact SoundR.self _
    clear_value x10
    extract_lets +onlyGivenNames x12
    have h13 : SoundR id s x12 := by
      unfold x12
      refine SoundR.app (sound_set ..) ?_
      exact h11
    clear_value x12
    extract_lets +onlyGivenNames x14
    clear_value x14
    extract_lets +onlyGivenNames x15
    have h16 : SoundR id s x15 := by
      unfold x15
      refine SoundR.mk' rfl ?_
      exact h13
    clear_value x15
    extract_lets +onlyGivenNames x17
    clear_value x17
    extract_lets +onlyGivenNames x18
    have h19 : SoundR id s x18 := by
      unfold x18
      refine SoundR.app (sound_setConv ..) ?_
      exact h16
    clear_value x18
    extract_lets +onlyGivenNames x20
    have h21 : SoundR id s x20 := by
      unfold x20
      refine SoundR.app (sound_set ..) ?_
      refine SoundR.app (sound_set ..) ?_
      exact h19
    clear_value x20
    extract_lets +onlyGivenNames x22
    have h23 : SoundR id s x22 := by
      unfold x22
      refine SoundR.ite ?_ ?_
      · refine SoundR.app (sound_raise ..) ?_
        exact h21
      · exact h21
    clear_value x22
    extract_lets +onlyGivenNames x24
    have h25 : SoundR id s x24 := by
      unfold x24
      refine SoundR.app (sound_adcWait ..) ?_
      refine SoundR.ite ?_ ?_
      · refine SoundR.app (sound_set ..) ?_
        exact h23
      · exact h23
    clear_value x24
    refine SoundR.ite ?_ ?_
    · refine SoundR.app (sound_raise ..) ?_
      exact h25
    · exact h25

theorem sound_adcSeqctl (c : Nat) (w : Word) (s : State) : Sound s (adcSeqctl c w s) := by
  unfold adcSeqctl
  refine SoundR.intro ?_
  extract_lets +onlyGivenNames x1
  clear_value x1
  extract_lets +onlyGivenNames x2
  clear_value x2
  extract_lets +onlyGivenNames x3
  have h4 : SoundR id s x3 := by
    unfold x3
    refine SoundR.app (sound_set ..) ?_
    exact SoundR.self _
  clear_value x3
  refine SoundR.ite ?_ ?_
  · refine SoundR.ite ?_ ?_
    · refine SoundR.app (sound_set ..) ?_
      exact h4
    · extract_lets +onlyGivenNames x5
      clear_value x5
      extract_lets +onlyGivenNames x6
      have h7 : SoundR id s x6 := by
        unfold x6
        refine SoundR.app (sound_setConv ..) ?_
        refine SoundR.app (sound_set ..) ?_
        exact h4
      clear_value x6
      refine SoundR.app (sound_adcWait ..) ?_
      refine SoundR.ite ?_ ?_
      · exact h7
      · refine SoundR.app (sound_set ..) ?_
        exact h7
  · refine SoundR.ite ?_ ?_
    · extract_lets +onlyGivenNames x8
      clear_value x8
      extract_lets +onlyGivenNames x9
      have h10 : SoundR id s x9 := by
        unfold x9
        refine SoundR.app (sound_setConv ..) ?_
        refine SoundR.app (sound_set ..) ?_
        exact h4
      clear_value x9
      refine SoundR.app (sound_adcWait ..) ?_
      refine SoundR.ite ?_ ?_
      · exact h10
      · refine SoundR.app (sound_set ..) ?_
        exact h10
    · exact h4

theorem sound_portRead (k : Nat) (c e w : Nat) (s : State) : SoundR Prod.snd s (portRead k c e w s) := by
  unfold portRead
  extract_lets +onlyGivenNames x1
  clear_value x1
  extract_lets +onlyGivenNames x2
  clear_value x2
  extract_lets +onlyGivenNames x3
  clear_value x3
  refine SoundR.ite ?_ ?_
  · refine SoundR.mkSnd ?_
    refine SoundR.mk' rfl ?_
    exact SoundR.self _
  · extract_lets +onlyGivenNames x4
    clear_value x4
    refine SoundR.mkSnd ?_
    exact SoundR.self _

theorem sound_resaRead (c e : Nat) (s : State) : SoundR Prod.snd s (resaRead c e s) := by
  unfold resaRead
  refine SoundR.mkSnd ?_
  refine SoundR.mk' rfl ?_
  exact SoundR.self _

theorem sound_senseWrite (a : Nat) (w : Word) (s : State) : SoundO Prod.snd s (senseWrite a w s) := by
  unfold senseWrite
  refine SoundO.ite ?_ ?_
  · extract_lets +onlyGivenNames x1
    clear_value x1
    extract_lets +onlyGivenNames x2
    clear_value x2
    refine SoundO.ite ?_ ?_
    · refine SoundO.some ?_
      refine SoundR.mkSnd ?_
      refine SoundR.app (sound_adcSeqctl ..) ?_
      exact SoundR.self _
    · refine SoundO.ite ?_ ?_
      · refine SoundO.ite ?_ ?_
        · refine SoundO.some ?_
          refine SoundR.mkSnd ?_
          exact SoundR.self _
        · exact SoundO.none
      · refine SoundO.ite ?_ ?_
        · refine SoundO.some ?_
          refine SoundR.mkSnd ?_
          refine SoundR.app (sound_adcKindTrigger ..) ?_
          exact SoundR.self _
        · exact SoundO.none
  · refine SoundO.ite ?_ ?_
    · refine SoundO.some ?_
      refine SoundR.appG (sound_cmpCtlWrite ..) ?_
      exact SoundR.self _
    · refine SoundO.ite ?_ ?_
      · refine SoundO.some ?_
        refine SoundR.mkSnd ?_
        refine SoundR.app (sound_cmpDacWrite ..) ?_
        exact SoundR.self _
      · refine SoundO.ite ?_ ?_
        · refine SoundO.some ?_
          refine SoundR.mkSnd ?_
          refine SoundR.app (sound_pgaWrite ..) ?_
          exact SoundR.self _
        · exact SoundO.none

theorem sound_senseRead (a : Nat) (s : State) : SoundO Prod.snd s (senseRead a s) := by
  unfold senseRead
  refine SoundO.ite ?_ ?_
  · extract_lets +onlyGivenNames x1
    clear_value x1
    extract_lets +onlyGivenNames x2
    clear_value x2
    refine SoundO.ite ?_ ?_
    · refine SoundO.some ?_
      refine SoundR.appG (sound_resaRead ..) ?_
      exact SoundR.self _
    · refine SoundO.ite ?_ ?_
      · refine SoundO.some ?_
        refine SoundR.mkSnd ?_
        exact SoundR.self _
      · exact SoundO.none
  · exact SoundO.none

theorem sound_tjMeasure (t : Int) (s : State) : Sound s (tjMeasure t s) := by
  unfold tjMeasure
  refine SoundR.intro ?_
  extract_lets +onlyGivenNames x1
  have h2 : SoundR id s x1 := by
    unfold x1
    refine SoundR.app (sound_setInt ..) ?_
    exact SoundR.self _
  clear_value x1
  extract_lets +onlyGivenNames x3
  clear_value x3
  extract_lets +onlyGivenNames x4
  clear_value x4
  extract_lets +onlyGivenNames x5
  have h6 : SoundR id s x5 := by
    unfold x5
    refine SoundR.ite ?_ ?_
    · refine SoundR.app (sound_raise ..) ?_
      refine SoundR.app (sound_set ..) ?_
      refine SoundR.mk' rfl ?_
      exact h2
    · refine SoundR.ite ?_ ?_
      · refine SoundR.mk' rfl ?_
        exact h2
      · exact h2
  clear_value x5
  refine SoundR.ite ?_ ?_
  · refine SoundR.ite ?_ ?_
    · exact h6
    · refine SoundR.app (sound_raise ..) ?_
      refine SoundR.app (sound_set ..) ?_
      exact h6
  · refine SoundR.ite ?_ ?_
    · refine SoundR.app (sound_set ..) ?_
      exact h6
    · exact h6

theorem sound_supplyLow (i : Nat) (s : State) : Sound s (supplyLow i s) := by
  unfold supplyLow
  refine SoundR.intro ?_
  refine SoundR.ite ?_ ?_
  · exact SoundR.self _
  · refine SoundR.app (sound_faultEval ..) ?_
    refine SoundR.app (sound_raise ..) ?_
    refine SoundR.app (sound_setBit ..) ?_
    refine SoundR.app (sound_setBit ..) ?_
    exact SoundR.self _

theorem sound_supplyBack (i : Nat) (s : State) : Sound s (supplyBack i s) := by
  unfold supplyBack
  refine SoundR.intro ?_
  refine SoundR.app (sound_faultEval ..) ?_
  refine SoundR.app (sound_setBit ..) ?_
  exact SoundR.self _

theorem sound_setLeg (s : State) (l : Nat) (x : Leg) : Sound s (State.setLeg s l x) := by
  unfold State.setLeg
  refine SoundR.intro ?_
  refine SoundR.mk' rfl ?_
  exact SoundR.self _

theorem sound_setGrp (s : State) (g : Nat) (x : Grp) : Sound s (State.setGrp s g x) := by
  unfold State.setGrp
  refine SoundR.intro ?_
  refine SoundR.mk' rfl ?_
  exact SoundR.self _

theorem sound_putAcc (l : Nat) (v : Int) (perT : Nat) (s : State) : Sound s (putAcc l v perT s) := by
  unfold putAcc
  refine SoundR.intro ?_
  extract_lets +onlyGivenNames x1
  clear_value x1
  extract_lets +onlyGivenNames x2
  have h3 : SoundR id s x2 := by
    unfold x2
    refine SoundR.app (sound_setInt ..) ?_
    exact SoundR.self _
  clear_value x2
  refine SoundR.ite ?_ ?_
  · exact h3
  · refine SoundR.app (sound_setBit ..) ?_
    exact h3

theorem sound_legSticky (l b : Nat) (s : State) : Sound s (legSticky l b s) := by
  unfold legSticky
  refine SoundR.intro ?_
  refine SoundR.app (sound_setBit ..) ?_
  exact SoundR.self _

theorem sound_localZero (l : Nat) (s : State) : Sound s (localZero l s) := by
  unfold localZero
  refine SoundR.intro ?_
  extract_lets +onlyGivenNames x1
  clear_value x1
  refine SoundR.ite ?_ ?_
  · exact SoundR.self _
  · refine SoundR.ite ?_ ?_
    · refine SoundR.app (sound_legFault ..) ?_
      exact SoundR.self _
    · extract_lets +onlyGivenNames x2
      clear_value x2
      extract_lets +onlyGivenNames x3
      clear_value x3
      extract_lets +onlyGivenNames x4
      clear_value x4
      extract_lets +onlyGivenNames x5
      clear_value x5
      extract_lets +onlyGivenNames x6
      clear_value x6
      extract_lets +onlyGivenNames x7
      clear_value x7
      extract_lets +onlyGivenNames x8
      clear_value x8
      extract_lets +onlyGivenNames x9
      clear_value x9
      extract_lets +onlyGivenNames x10
      clear_value x10
      extract_lets +onlyGivenNames x11
      clear_value x11
      split
      rename_i v12 v13 v14 v15 v16
      extract_lets +onlyGivenNames x17
      have h18 : SoundR id s x17 := by
        unfold x17
        refine SoundR.app (sound_setInt ..) ?_
        exact SoundR.self _
      clear_value x17
      extract_lets +onlyGivenNames x19
      have h20 : SoundR id s x19 := by
        unfold x19
        refine SoundR.ite ?_ ?_
        · split
          · rename_i v21 v22
            refine SoundR.app (sound_putAcc ..) ?_
            exact h18
          · rename_i v23 v24
            refine SoundR.app (sound_putAcc ..) ?_
            exact h18
          · rename_i v25 v26 v27 v28
            refine SoundR.app (sound_putAcc ..) ?_
            exact h18
        · exact h18
      clear_value x19
      extract_lets +onlyGivenNames x29
      clear_value x29
      extract_lets +onlyGivenNames x30
      clear_value x30
      extract_lets +onlyGivenNames x31
      clear_value x31
      extract_lets +onlyGivenNames x32
      clear_value x32
      extract_lets +onlyGivenNames x33
      clear_value x33
      extract_lets +onlyGivenNames x34
      extract_lets +onlyGivenNames x35
      extract_lets +onlyGivenNames x36
      clear_value x36
      extract_lets +onlyGivenNames x37
      clear_value x37
      extract_lets +onlyGivenNames x38
      have h39 : SoundR id s x38 := by
        unfold x38
        refine SoundR.app (sound_setLeg ..) ?_
        exact h20
      clear_value x38
      extract_lets +onlyGivenNames x40
      have h41 : SoundR id s x40 := by
        unfold x40
        refine SoundR.ite ?_ ?_
        · refine SoundR.app (sound_set ..) ?_
          exact h39
        · exact h39
      clear_value x40
      extract_lets +onlyGivenNames x42
      have h43 : SoundR id s x42 := by
        unfold x42
        refine SoundR.ite ?_ ?_
        · refine SoundR.app (sound_legSticky ..) ?_
          exact h41
        · exact h41
      clear_value x42
      refine SoundR.ite ?_ ?_
      · exact h43
      · refine SoundR.app (sound_raise ..) ?_
        refine SoundR.app (sound_legSticky ..) ?_
        exact h43

theorem sound_localPeak (l : Nat) (s : State) : Sound s (localPeak l s) := by
  unfold localPeak
  refine SoundR.intro ?_
  extract_lets +onlyGivenNames x1
  clear_value x1
  extract_lets +onlyGivenNames x2
  clear_value x2
  refine SoundR.ite ?_ ?_
  · exact SoundR.self _
  · extract_lets +onlyGivenNames x3
    clear_value x3
    extract_lets +onlyGivenNames x4
    have h5 : SoundR id s x4 := by
      unfold x4
      refine SoundR.app (sound_setLeg ..) ?_
      exact SoundR.self _
    clear_value x4
    refine SoundR.ite ?_ ?_
    · exact h5
    · extract_lets +onlyGivenNames x6
      clear_value x6
      extract_lets +onlyGivenNames x7
      clear_value x7
      extract_lets +onlyGivenNames x8
      clear_value x8
      extract_lets +onlyGivenNames x9
      clear_value x9
      extract_lets +onlyGivenNames x10
      clear_value x10
      extract_lets +onlyGivenNames x11
      clear_value x11
      extract_lets +onlyGivenNames x12
      clear_value x12
      extract_lets +onlyGivenNames x13
      clear_value x13
      extract_lets +onlyGivenNames x14
      have h15 : SoundR id s x14 := by
        unfold x14
        refine SoundR.app (sound_setLeg ..) ?_
        exact h5
      clear_value x14
      extract_lets +onlyGivenNames x16
      have h17 : SoundR id s x16 := by
        unfold x16
        refine SoundR.ite ?_ ?_
        · refine SoundR.app (sound_legSticky ..) ?_
          exact h15
        · exact h15
      clear_value x16
      refine SoundR.ite ?_ ?_
      · exact h17
      · refine SoundR.app (sound_legSticky ..) ?_
        exact h17

theorem sound_outputEdge (l : Nat) (s : State) : Sound s (outputEdge l s) := by
  unfold outputEdge
  refine SoundR.intro ?_
  extract_lets +onlyGivenNames x1
  clear_value x1
  split
  · rename_i v2 v3
    exact SoundR.self _
  · rename_i v4 v5 v6 v7
    extract_lets +onlyGivenNames x8
    clear_value x8
    extract_lets +onlyGivenNames x9
    clear_value x9
    extract_lets +onlyGivenNames x10
    have h11 : SoundR id s x10 := by
      unfold x10
      refine SoundR.app (sound_setLeg ..) ?_
      exact SoundR.self _
    clear_value x10
    refine SoundR.ite ?_ ?_
    · refine SoundR.app (sound_blankOpen ..) ?_
      exact h11
    · exact h11

theorem sound_legLoad (l perT : Nat) (perNew : Bool) (s : State) : Sound s (legLoad l perT perNew s) := by
  unfold legLoad
  refine SoundR.intro ?_
  extract_lets +onlyGivenNames x1
  clear_value x1
  extract_lets +onlyGivenNames x2
  split
  · rename_i v3 v4
    refine SoundR.ite ?_ ?_
    · unfold x2
      refine SoundR.app (sound_setWord ..) ?_
      exact SoundR.self _
    · exact SoundR.self _
  · rename_i v5 v6 v7
    refine SoundR.ite ?_ ?_
    · refine SoundR.app (sound_legSticky ..) ?_
      refine SoundR.app (sound_setLeg ..) ?_
      refine SoundR.ite ?_ ?_
      · unfold x2
        refine SoundR.app (sound_setWord ..) ?_
        exact SoundR.self _
      · exact SoundR.self _
    · extract_lets +onlyGivenNames x8
      have h9 : SoundR id s x8 := by
        unfold x8
        refine SoundR.app (sound_setLeg ..) ?_
        exact SoundR.self _
      clear_value x8
      refine SoundR.ite ?_ ?_
      · unfold x2
        refine SoundR.app (sound_setWord ..) ?_
        exact h9
      · exact h9

theorem sound_shadowLoad (g : Nat) (s : State) : Sound s (shadowLoad g s) := by
  unfold shadowLoad
  refine SoundR.intro ?_
  extract_lets +onlyGivenNames x1
  clear_value x1
  extract_lets +onlyGivenNames x2
  clear_value x2
  extract_lets +onlyGivenNames x3
  clear_value x3
  extract_lets +onlyGivenNames x4
  clear_value x4
  extract_lets +onlyGivenNames x5
  clear_value x5
  extract_lets +onlyGivenNames x6
  clear_value x6
  extract_lets +onlyGivenNames x7
  have h8 : SoundR id s x7 := by
    unfold x7
    refine SoundR.app (sound_setGrp ..) ?_
    exact SoundR.self _
  clear_value x7
  extract_lets +onlyGivenNames x9
  have h10 : SoundR id s x9 := by
    unfold x9
    refine SoundR.ite ?_ ?_
    · refine SoundR.app (sound_set ..) ?_
      exact h8
    · exact h8
  clear_value x9
  extract_lets +onlyGivenNames x11
  have h12 : SoundR id s x11 := by
    unfold x11
    refine SoundR.foldl _ ?_ ?_
    · intro a13 a14
      refine SoundR.app (sound_legLoad ..) ?_
      exact SoundR.self _
    · exact h10
  clear_value x11
  extract_lets +onlyGivenNames x15
  have h16 : SoundR id s x15 := by
    unfold x15
    refine SoundR.app (sound_setB ..) ?_
    exact h12
  clear_value x15
  extract_lets +onlyGivenNames x17
  have h18 : SoundR id s x17 := by
    unfold x17
    refine SoundR.ite ?_ ?_
    · refine SoundR.app (sound_raise ..) ?_
      exact h16
    · exact h16
  clear_value x17
  extract_lets +onlyGivenNames x19
  have h20 : SoundR id s x19 := by
    unfold x19
    refine SoundR.ite ?_ ?_
    · refine SoundR.app (sound_raise ..) ?_
      exact h18
    · exact h18
  clear_value x19
  refine SoundR.app (sound_schedShadow ..) ?_
  refine SoundR.app (sound_schedShadow ..) ?_
  exact h20

theorem sound_commitBy (cid g : Nat) (s : State) : Sound s (commitBy cid g s) := by
  unfold commitBy
  refine SoundR.intro ?_
  extract_lets +onlyGivenNames x1
  have h2 : SoundR id s x1 := by
    unfold x1
    refine SoundR.foldl _ ?_ ?_
    · intro a3 a4
      refine SoundR.ite ?_ ?_
      · refine SoundR.app (sound_setLeg ..) ?_
        exact SoundR.self _
      · exact SoundR.self _
    · exact SoundR.self _
  clear_value x1
  extract_lets +onlyGivenNames x5
  clear_value x5
  extract_lets +onlyGivenNames x6
  have h7 : SoundR id s x6 := by
    unfold x6
    refine SoundR.app (sound_setGrp ..) ?_
    exact h2
  clear_value x6
  split
  · rename_i v8 v9 v10
    refine SoundR.app (sound_schedCommit ..) ?_
    exact h7
  · rename_i v11 v12
    exact h7

theorem sound_clDrop (g : Nat) (s : State) : Sound s (clDrop g s) := by
  unfold clDrop
  refine SoundR.intro ?_
  extract_lets +onlyGivenNames x1
  clear_value x1
  extract_lets +onlyGivenNames x2
  have h3 : SoundR id s x2 := by
    unfold x2
    refine SoundR.app (sound_setGrp ..) ?_
    exact SoundR.self _
  clear_value x2
  refine SoundR.ite ?_ ?_
  · refine SoundR.app (sound_raise ..) ?_
    refine SoundR.app (sound_set ..) ?_
    exact h3
  · exact h3

theorem sound_chainSteer (g perT : Nat) (s : State) : SoundR Prod.snd s (chainSteer g perT s) := by
  unfold chainSteer
  extract_lets +onlyGivenNames x1
  clear_value x1
  refine SoundR.ite ?_ ?_
  · refine SoundR.mkSnd ?_
    refine SoundR.app (sound_clDrop ..) ?_
    exact SoundR.self _
  · extract_lets +onlyGivenNames x2
    clear_value x2
    extract_lets +onlyGivenNames x3
    clear_value x3
    extract_lets +onlyGivenNames x4
    clear_value x4
    extract_lets +onlyGivenNames x5
    clear_value x5
    extract_lets +onlyGivenNames x6
    clear_value x6
    extract_lets +onlyGivenNames x7
    have h8 : SoundR id s x7 := by
      unfold x7
      refine SoundR.app (sound_setInt ..) ?_
      exact SoundR.self _
    clear_value x7
    extract_lets +onlyGivenNames x9
    clear_value x9
    extract_lets +onlyGivenNames x10
    clear_value x10
    extract_lets +onlyGivenNames x11
    clear_value x11
    extract_lets +onlyGivenNames x12
    clear_value x12
    extract_lets +onlyGivenNames x13
    clear_value x13
    extract_lets +onlyGivenNames x14
    have h15 : SoundR id s x14 := by
      unfold x14
      refine SoundR.app (sound_setGrp ..) ?_
      exact h8
    clear_value x14
    extract_lets +onlyGivenNames x16
    have h17 : SoundR id s x16 := by
      unfold x16
      refine SoundR.ite ?_ ?_
      · exact h15
      · refine SoundR.app (sound_raise ..) ?_
        refine SoundR.app (sound_setB ..) ?_
        exact h15
    clear_value x16
    refine SoundR.mkSnd ?_
    exact h17

theorem sound_zeroEvent (g : Nat) (s : State) : Sound s (zeroEvent g s) := by
  unfold zeroEvent
  refine SoundR.intro ?_
  extract_lets +onlyGivenNames x1
  clear_value x1
  extract_lets +onlyGivenNames x2
  have h3 : SoundR id s x2 := by
    unfold x2
    refine SoundR.app (sound_setGrp ..) ?_
    exact SoundR.self _
  clear_value x2
  extract_lets +onlyGivenNames x4
  have h5 : SoundR id s x4 := by
    unfold x4
    refine SoundR.app (sound_set ..) ?_
    exact h3
  clear_value x4
  extract_lets +onlyGivenNames x6
  have h7 : SoundR id s x6 := by
    unfold x6
    refine SoundR.app (sound_raise ..) ?_
    exact h5
  clear_value x6
  extract_lets +onlyGivenNames x8
  have h9 : SoundR id s x8 := by
    unfold x8
    refine SoundR.ite ?_ ?_
    · refine SoundR.app (sound_shadowLoad ..) ?_
      exact h7
    · exact h7
  clear_value x8
  extract_lets +onlyGivenNames x10
  clear_value x10
  extract_lets +onlyGivenNames x11
  have h12 : SoundR Prod.snd s x11 := by
    unfold x11
    refine SoundR.appG (sound_chainSteer ..) ?_
    exact h9
  clear_value x11
  extract_lets +onlyGivenNames x13
  clear_value x13
  extract_lets +onlyGivenNames x14
  have h15 : SoundR id s x14 := by
    unfold x14
    refine SoundR.app (sound_setGrp ..) ?_
    exact h12
  clear_value x14
  extract_lets +onlyGivenNames x16
  have h17 : SoundR id s x16 := by
    unfold x16
    refine SoundR.app (sound_schedCarrier ..) ?_
    refine SoundR.app (sound_schedCarrier ..) ?_
    exact h15
  clear_value x16
  refine SoundR.ite ?_ ?_
  · refine SoundR.mk' rfl ?_
    exact h17
  · exact h17

theorem sound_carrierStart (g : Nat) (s : State) : Sound s (carrierStart g s) := by
  unfold carrierStart
  refine SoundR.intro ?_
  refine SoundR.ite ?_ ?_
  · refine SoundR.app (sound_zeroEvent ..) ?_
    refine SoundR.app (sound_setGrp ..) ?_
    refine SoundR.app (sound_set ..) ?_
    exact SoundR.self _
  · exact SoundR.self _

theorem sound_carrierZero (g : Nat) (s : State) : Sound s (carrierZero g s) := by
  unfold carrierZero
  refine SoundR.intro ?_
  refine SoundR.ite ?_ ?_
  · refine SoundR.app (sound_zeroEvent ..) ?_
    exact SoundR.self _
  · exact SoundR.self _

theorem sound_carrierPeak (g : Nat) (s : State) : Sound s (carrierPeak g s) := by
  unfold carrierPeak
  refine SoundR.intro ?_
  refine SoundR.ite ?_ ?_
  · extract_lets +onlyGivenNames x1
    have h2 : SoundR id s x1 := by
      unfold x1
      refine SoundR.app (sound_raise ..) ?_
      refine SoundR.app (sound_set ..) ?_
      exact SoundR.self _
    clear_value x1
    extract_lets +onlyGivenNames x3
    have h4 : SoundR id s x3 := by
      unfold x3
      refine SoundR.ite ?_ ?_
      · refine SoundR.app (sound_shadowLoad ..) ?_
        exact h2
      · exact h2
    clear_value x3
    refine SoundR.app (sound_schedCarrier ..) ?_
    refine SoundR.app (sound_schedCarrier ..) ?_
    exact h4
  · exact SoundR.self _

theorem sound_clPlace (g : Nat) (s : State) : Sound s (clPlace g s) := by
  unfold clPlace
  refine SoundR.intro ?_
  extract_lets +onlyGivenNames x1
  clear_value x1
  refine SoundR.ite ?_ ?_
  · refine SoundR.app (sound_setGrp ..) ?_
    exact SoundR.self _
  · refine SoundR.ite ?_ ?_
    · refine SoundR.app (sound_setGrp ..) ?_
      exact SoundR.self _
    · refine SoundR.app (sound_setGrp ..) ?_
      exact SoundR.self _

theorem sound_gctlWrite (g : Nat) (w : Word) (s : State) : Sound s (gctlWrite g w s) := by
  unfold gctlWrite
  refine SoundR.intro ?_
  extract_lets +onlyGivenNames x1
  clear_value x1
  extract_lets +onlyGivenNames x2
  clear_value x2
  extract_lets +onlyGivenNames x3
  have h4 : SoundR id s x3 := by
    unfold x3
    refine SoundR.app (sound_setWord ..) ?_
    exact SoundR.self _
  clear_value x3
  refine SoundR.ite ?_ ?_
  · refine SoundR.ite ?_ ?_
    · exact h4
    · refine SoundR.app (sound_clPlace ..) ?_
      exact h4
  · extract_lets +onlyGivenNames x5
    clear_value x5
    extract_lets +onlyGivenNames x6
    have h7 : SoundR id s x6 := by
      unfold x6
      refine SoundR.app (sound_set ..) ?_
      refine SoundR.app (sound_set ..) ?_
      refine SoundR.app (sound_set ..) ?_
      exact h4
    clear_value x6
    refine SoundR.ite ?_ ?_
    · refine SoundR.app (sound_raise ..) ?_
      exact h7
    · exact h7

theorem sound_missRelease (g : Nat) (s : State) : Sound s (missRelease g s) := by
  unfold missRelease
  refine SoundR.intro ?_
  refine SoundR.ite ?_ ?_
  · extract_lets +onlyGivenNames x1
    clear_value x1
    extract_lets +onlyGivenNames x2
    have h3 : SoundR id s x2 := by
      unfold x2
      refine SoundR.mk' rfl ?_
      exact SoundR.self _
    refine SoundR.ite ?_ ?_
    · refine SoundR.app (sound_polSet ..) ?_
      exact h3
    · exact h3
  · exact SoundR.self _

theorem sound_legArm (l : Nat) (s : State) : Sound s (legArm l s) := by
  unfold legArm
  refine SoundR.intro ?_
  extract_lets +onlyGivenNames x1
  clear_value x1
  extract_lets +onlyGivenNames x2
  have h3 : SoundR id s x2 := by
    unfold x2
    refine SoundR.app (sound_set ..) ?_
    exact SoundR.self _
  clear_value x2
  refine SoundR.ite ?_ ?_
  · refine SoundR.app (sound_missRelease ..) ?_
    refine SoundR.app (sound_set ..) ?_
    refine SoundR.app (sound_set ..) ?_
    exact h3
  · exact h3

theorem sound_legDisarm (l : Nat) (s : State) : Sound s (legDisarm l s) := by
  unfold legDisarm
  refine SoundR.intro ?_
  refine SoundR.ite ?_ ?_
  · exact SoundR.self _
  · refine SoundR.app (sound_set ..) ?_
    refine SoundR.app (sound_legHiZ ..) ?_
    exact SoundR.self _

theorem sound_legClrflt (l : Nat) (s : State) : Sound s (legClrflt l s) := by
  unfold legClrflt
  refine SoundR.intro ?_
  refine SoundR.ite ?_ ?_
  · exact SoundR.self _
  · refine SoundR.ite ?_ ?_
    · refine SoundR.app (sound_set ..) ?_
      exact SoundR.self _
    · refine SoundR.app (sound_set ..) ?_
      exact SoundR.self _

theorem sound_legCtl (cid l : Nat) (w : Word) (s : State) : SoundR Prod.snd s (legCtl cid l w s) := by
  unfold legCtl
  extract_lets +onlyGivenNames x1
  clear_value x1
  extract_lets +onlyGivenNames x2
  clear_value x2
  extract_lets +onlyGivenNames x3
  clear_value x3
  refine SoundR.ite ?_ ?_
  · extract_lets +onlyGivenNames x4
    have h5 : SoundR id s x4 := by
      unfold x4
      refine SoundR.ite ?_ ?_
      · refine SoundR.app (sound_legDisarm ..) ?_
        exact SoundR.self _
      · exact SoundR.self _
    clear_value x4
    extract_lets +onlyGivenNames x6
    have h7 : SoundR id s x6 := by
      unfold x6
      refine SoundR.ite ?_ ?_
      · refine SoundR.app (sound_legClrflt ..) ?_
        exact h5
      · exact h5
    clear_value x6
    refine SoundR.mkSnd ?_
    refine SoundR.ite ?_ ?_
    · refine SoundR.app (sound_legArm ..) ?_
      exact h7
    · exact h7
  · refine SoundR.mkSnd ?_
    exact SoundR.self _

theorem sound_legCfg (l : Nat) (w : Word) (s : State) : SoundR Prod.snd s (legCfg l w s) := by
  unfold legCfg
  refine SoundR.ite ?_ ?_
  · refine SoundR.mkSnd ?_
    exact SoundR.self _
  · refine SoundR.mkSnd ?_
    refine SoundR.app (sound_setWord ..) ?_
    refine SoundR.app (sound_setWord ..) ?_
    exact SoundR.self _

theorem sound_pwmWrite (cid a : Nat) (w : Word) (mask : Nat) (s : State) : SoundO Prod.snd s (pwmWrite cid a w mask s) := by
  unfold pwmWrite
  refine SoundO.ite ?_ ?_
  · exact SoundO.none
  · extract_lets +onlyGivenNames x1
    clear_value x1
    extract_lets +onlyGivenNames x2
    clear_value x2
    refine SoundO.ite ?_ ?_
    · extract_lets +onlyGivenNames x3
      clear_value x3
      extract_lets +onlyGivenNames x4
      clear_value x4
      refine SoundO.ite ?_ ?_
      · refine SoundO.ite ?_ ?_
        · refine SoundO.some ?_
          refine SoundR.mkSnd ?_
          exact SoundR.self _
        · refine SoundO.ite ?_ ?_
          · refine SoundO.some ?_
            refine SoundR.mkSnd ?_
            exact SoundR.self _
          · refine SoundO.some ?_
            refine SoundR.mkSnd ?_
            refine SoundR.app (sound_gctlWrite ..) ?_
            exact SoundR.self _
      · refine SoundO.ite ?_ ?_
        · refine SoundO.some ?_
          refine SoundR.mkSnd ?_
          refine SoundR.app (sound_commitBy ..) ?_
          exact SoundR.self _
        · refine SoundO.ite ?_ ?_
          · refine SoundO.some ?_
            refine SoundR.mkSnd ?_
            exact SoundR.self _
          · exact SoundO.none
    · refine SoundO.ite ?_ ?_
      · extract_lets +onlyGivenNames x5
        clear_value x5
        extract_lets +onlyGivenNames x6
        clear_value x6
        refine SoundO.ite ?_ ?_
        · refine SoundO.some ?_
          refine SoundR.appG (sound_legCtl ..) ?_
          exact SoundR.self _
        · refine SoundO.ite ?_ ?_
          · refine SoundO.some ?_
            refine SoundR.mkSnd ?_
            exact SoundR.self _
          · refine SoundO.ite ?_ ?_
            · refine SoundO.some ?_
              refine SoundR.mkSnd ?_
              refine SoundR.app (sound_setLeg ..) ?_
              refine SoundR.app (sound_setWord ..) ?_
              exact SoundR.self _
            · refine SoundO.ite ?_ ?_
              · refine SoundO.some ?_
                refine SoundR.mkSnd ?_
                refine SoundR.app (sound_setLeg ..) ?_
                refine SoundR.app (sound_setWord ..) ?_
                exact SoundR.self _
              · refine SoundO.ite ?_ ?_
                · refine SoundO.some ?_
                  refine SoundR.mkSnd ?_
                  refine SoundR.app (sound_set ..) ?_
                  exact SoundR.self _
                · refine SoundO.ite ?_ ?_
                  · refine SoundO.some ?_
                    refine SoundR.mkSnd ?_
                    refine SoundR.app (sound_set ..) ?_
                    exact SoundR.self _
                  · refine SoundO.ite ?_ ?_
                    · refine SoundO.some ?_
                      refine SoundR.mkSnd ?_
                      refine SoundR.app (sound_set ..) ?_
                      exact SoundR.self _
                    · refine SoundO.ite ?_ ?_
                      · refine SoundO.some ?_
                        refine SoundR.appG (sound_legCfg ..) ?_
                        exact SoundR.self _
                      · exact SoundO.none
      · exact SoundO.none

theorem sound_triggerFire (g k : Nat) (s : State) : Sound s (triggerFire g k s) := by
  unfold triggerFire
  refine SoundR.intro ?_
  split
  · rename_i v1 v2
    exact SoundR.self _
  · rename_i v3 v4 v5
    extract_lets +onlyGivenNames x6
    clear_value x6
    extract_lets +onlyGivenNames x7
    clear_value x7
    extract_lets +onlyGivenNames x8
    clear_value x8
    extract_lets +onlyGivenNames x9
    have h10 : SoundR id s x9 := by
      unfold x9
      refine SoundR.ite ?_ ?_
      · refine SoundR.app (sound_count ..) ?_
        exact SoundR.self _
      · exact SoundR.self _
    clear_value x9
    extract_lets +onlyGivenNames x11
    have h12 : SoundR id s x11 := by
      unfold x11
      refine SoundR.app (sound_adcPwmTrigger ..) ?_
      exact h10
    clear_value x11
    refine SoundR.ite ?_ ?_
    · refine SoundR.app (sound_raise ..) ?_
      exact h12
    · exact h12

theorem sound_fltPulse (i : Fin 8) (ns : Option Nat) (s : State) : Sound s (fltPulse i ns s) := by
  unfold fltPulse
  refine SoundR.intro ?_
  extract_lets +onlyGivenNames x1
  clear_value x1
  extract_lets +onlyGivenNames x2
  clear_value x2
  split
  · rename_i v3
    extract_lets +onlyGivenNames x4
    clear_value x4
    extract_lets +onlyGivenNames x5
    have h6 : SoundR id s x5 := by
      unfold x5
      refine SoundR.mk' rfl ?_
      exact SoundR.self _
    clear_value x5
    refine SoundR.ite ?_ ?_
    · refine SoundR.app (sound_faultInput ..) ?_
      exact h6
    · exact h6
  · rename_i v7 v8
    refine SoundR.ite ?_ ?_
    · exact SoundR.self _
    · refine SoundR.ite ?_ ?_
      · refine SoundR.app (sound_faultInput ..) ?_
        exact SoundR.self _
      · extract_lets +onlyGivenNames x9
        have h10 : SoundR Prod.snd s x9 := by
          unfold x9
          refine SoundR.appG (sound_draw ..) ?_
          exact SoundR.self _
        clear_value x9
        refine SoundR.ite ?_ ?_
        · refine SoundR.app (sound_faultInput ..) ?_
          exact h10
        · exact h10

theorem sound_fltInactive (i : Fin 8) (s : State) : Sound s (fltInactive i s) := by
  unfold fltInactive
  refine SoundR.intro ?_
  refine SoundR.mk' rfl ?_
  exact SoundR.self _

theorem sound_tpEdge (n : Nat) (lvl : Bool) (s : State) : Sound s (tpEdge n lvl s) := by
  unfold tpEdge
  refine SoundR.intro ?_
  refine SoundR.ite ?_ ?_
  · exact SoundR.self _
  · extract_lets +onlyGivenNames x1
    have h2 : SoundR id s x1 := by
      unfold x1
      refine SoundR.app (sound_setBit ..) ?_
      exact SoundR.self _
    clear_value x1
    refine SoundR.mk' rfl ?_
    exact h2

theorem sound_gpinRead (k : Nat) (s : State) : SoundR Prod.snd s (gpinRead k s) := by
  unfold gpinRead
  extract_lets +onlyGivenNames x1
  have h2 : SoundR Prod.snd s x1 := by
    unfold x1
    refine SoundR.appG (sound_draw ..) ?_
    exact SoundR.self _
  clear_value x1
  extract_lets +onlyGivenNames x3
  clear_value x3
  refine SoundR.mkSnd ?_
  exact h2

theorem sound_padRelease (i : Nat) (s : State) : Sound s (padRelease i s) := by
  unfold padRelease
  refine SoundR.intro ?_
  extract_lets +onlyGivenNames x1
  have h2 : SoundR Prod.snd s x1 := by
    unfold x1
    refine SoundR.appG (sound_draw ..) ?_
    exact SoundR.self _
  clear_value x1
  extract_lets +onlyGivenNames x3
  clear_value x3
  extract_lets +onlyGivenNames x4
  clear_value x4
  extract_lets +onlyGivenNames x5
  have h6 : SoundR id s x5 := by
    unfold x5
    refine SoundR.app (sound_set ..) ?_
    exact h2
  clear_value x5
  extract_lets +onlyGivenNames x7
  clear_value x7
  extract_lets +onlyGivenNames x8
  have h9 : SoundR id s x8 := by
    unfold x8
    refine SoundR.mk' rfl ?_
    exact h6
  clear_value x8
  refine SoundR.ite ?_ ?_
  · refine SoundR.app (sound_tpEdge ..) ?_
    exact h9
  · refine SoundR.ite ?_ ?_
    · refine SoundR.app (sound_faultInput ..) ?_
      exact h9
    · exact h9

theorem sound_switchRequest (w : Word) (s : State) : Sound s (switchRequest w s) := by
  unfold switchRequest
  refine SoundR.intro ?_
  extract_lets +onlyGivenNames x1
  clear_value x1
  extract_lets +onlyGivenNames x2
  clear_value x2
  extract_lets +onlyGivenNames x3
  clear_value x3
  extract_lets +onlyGivenNames x4
  have h5 : SoundR id s x4 := by
    unfold x4
    refine SoundR.app (sound_set ..) ?_
    exact SoundR.self _
  clear_value x4
  refine SoundR.ite ?_ ?_
  · refine SoundR.app (sound_set ..) ?_
    refine SoundR.app (sound_set ..) ?_
    exact h5
  · extract_lets +onlyGivenNames x6
    have h7 : SoundR id s x6 := by
      unfold x6
      refine SoundR.app (sound_set ..) ?_
      exact h5
    clear_value x6
    refine SoundR.ite ?_ ?_
    · refine SoundR.app (sound_set ..) ?_
      exact h7
    · extract_lets +onlyGivenNames x8
      have h9 : SoundR id s x8 := by
        unfold x8
        refine SoundR.app (sound_set ..) ?_
        refine SoundR.app (sound_set ..) ?_
        exact h7
      clear_value x8
      refine SoundR.app (sound_padRelease ..) ?_
      refine SoundR.mk' rfl ?_
      exact h9

theorem sound_switchTake (s : State) : Sound s (switchTake s) := by
  unfold switchTake
  refine SoundR.intro ?_
  split
  · rename_i v1 v2
    exact SoundR.self _
  · rename_i v3 v4 v5 v6
    refine SoundR.ite ?_ ?_
    · exact SoundR.self _
    · extract_lets +onlyGivenNames x7
      clear_value x7
      extract_lets +onlyGivenNames x8
      have h9 : SoundR id s x8 := by
        unfold x8
        refine SoundR.mk' rfl ?_
        exact SoundR.self _
      clear_value x8
      extract_lets +onlyGivenNames x10
      have h11 : SoundR id s x10 := by
        unfold x10
        refine SoundR.app (sound_set ..) ?_
        refine SoundR.app (sound_set ..) ?_
        exact h9
      clear_value x10
      extract_lets +onlyGivenNames x12
      have h13 : SoundR id s x12 := by
        unfold x12
        refine SoundR.app (sound_set ..) ?_
        refine SoundR.app (sound_set ..) ?_
        exact h11
      clear_value x12
      refine SoundR.ite ?_ ?_
      · refine SoundR.app (sound_faultInput ..) ?_
        exact h13
      · exact h13

theorem sound_pinWrite (cid a : Nat) (w : Word) (s : State) : SoundO Prod.snd s (pinWrite cid a w s) := by
  unfold pinWrite
  refine SoundO.ite ?_ ?_
  · exact SoundO.none
  · extract_lets +onlyGivenNames x1
    clear_value x1
    refine SoundO.ite ?_ ?_
    · extract_lets +onlyGivenNames x2
      clear_value x2
      extract_lets +onlyGivenNames x3
      clear_value x3
      split
      · rename_i v4 v5
        refine SoundO.some ?_
        refine SoundR.mkSnd ?_
        refine SoundR.app (sound_setWord ..) ?_
        exact SoundR.self _
      · rename_i v6 v7
        refine SoundO.some ?_
        refine SoundR.mkSnd ?_
        refine SoundR.app (sound_setWord ..) ?_
        exact SoundR.self _
      · rename_i v8 v9
        refine SoundO.some ?_
        refine SoundR.mkSnd ?_
        refine SoundR.app (sound_setWord ..) ?_
        exact SoundR.self _
      · rename_i v10 v11
        refine SoundO.some ?_
        refine SoundR.mkSnd ?_
        refine SoundR.app (sound_setWord ..) ?_
        exact SoundR.self _
      · rename_i v12 v13 v14 v15 v16
        refine SoundO.some ?_
        refine SoundR.mkSnd ?_
        exact SoundR.self _
    · refine SoundO.ite ?_ ?_
      · refine SoundO.some ?_
        refine SoundR.mkSnd ?_
        refine SoundR.app (sound_switchRequest ..) ?_
        exact SoundR.self _
      · refine SoundO.ite ?_ ?_
        · exact SoundO.none
        · refine SoundO.some ?_
          refine SoundR.mkSnd ?_
          exact SoundR.self _

end Sys2Proof.Machine
end

