-- ==== Sys2Proof/Laws/SoundLink.lean ====
section
/-!
SUPPORT. Every operation of the named files is sound (Laws/Sound.lean).
-/
set_option linter.unusedVariables false
namespace Sys2Proof.Machine
open Sys2Proof

theorem sound_setUa (s : State) (u : Nat) (x : Uart) : Sound s (State.setUa s u x) := by
  unfold State.setUa
  refine SoundR.intro ?_
  extract_lets +onlyGivenNames x1
  have h2 : SoundR id s x1 := by
    unfold x1
    refine SoundR.mk' rfl ?_
    exact SoundR.self _
  clear_value x1
  refine SoundR.app (sound_setB ..) ?_
  refine SoundR.app (sound_set ..) ?_
  refine SoundR.app (sound_set ..) ?_
  exact h2

theorem sound_uartEvents (u : Nat) (s : State) : Sound s (uartEvents u s) := by
  unfold uartEvents
  refine SoundR.intro ?_
  refine SoundR.ite ?_ ?_
  · exact SoundR.self _
  · extract_lets +onlyGivenNames x1
    clear_value x1
    extract_lets +onlyGivenNames x2
    clear_value x2
    extract_lets +onlyGivenNames x3
    clear_value x3
    extract_lets +onlyGivenNames x4
    have h5 : SoundR id s x4 := by
      unfold x4
      refine SoundR.app (sound_setUa ..) ?_
      exact SoundR.self _
    clear_value x4
    extract_lets +onlyGivenNames x6
    have h7 : SoundR id s x6 := by
      unfold x6
      refine SoundR.forEach _ ?_ ?_
      · intro a8 a9
        refine SoundR.app (sound_raise ..) ?_
        exact SoundR.self _
      · exact h5
    clear_value x6
    refine SoundR.forEach _ ?_ ?_
    · intro a10 a11
      refine SoundR.app (sound_raise ..) ?_
      exact SoundR.self _
    · exact h7

theorem sound_uartDrive (u : Nat) (x : Uart) (s : State) : Sound s (uartDrive u x s) := by
  unfold uartDrive
  refine SoundR.intro ?_
  extract_lets +onlyGivenNames x1
  clear_value x1
  refine SoundR.app (sound_setUa ..) ?_
  exact SoundR.self _

theorem sound_uartPush (u : Nat) (d : Nat) (s : State) : SoundR Prod.snd s (uartPush u d s) := by
  unfold uartPush
  extract_lets +onlyGivenNames x1
  clear_value x1
  refine SoundR.ite ?_ ?_
  · refine SoundR.mkSnd ?_
    exact SoundR.self _
  · refine SoundR.mkSnd ?_
    refine SoundR.app (sound_uartEvents ..) ?_
    refine SoundR.app (sound_uartDrive ..) ?_
    exact SoundR.self _

theorem sound_uartPop (u : Nat) (s : State) : SoundR Prod.snd s (uartPop u s) := by
  unfold uartPop
  extract_lets +onlyGivenNames x1
  clear_value x1
  split
  · rename_i v2 v3
    refine SoundR.mkSnd ?_
    exact SoundR.self _
  · rename_i v4 v5 v6 v7
    refine SoundR.mkSnd ?_
    refine SoundR.app (sound_uartEvents ..) ?_
    refine SoundR.app (sound_setUa ..) ?_
    exact SoundR.self _

theorem sound_uartError (u i : Nat) (s : State) : Sound s (uartError u i s) := by
  unfold uartError
  refine SoundR.intro ?_
  refine SoundR.app (sound_raise ..) ?_
  refine SoundR.app (sound_setBit ..) ?_
  exact SoundR.self _

theorem sound_uartReceive (u bits : Nat) (stop : Bool) (s : State) : Sound s (uartReceive u bits stop s) := by
  unfold uartReceive
  refine SoundR.intro ?_
  extract_lets +onlyGivenNames x1
  clear_value x1
  extract_lets +onlyGivenNames x2
  clear_value x2
  extract_lets +onlyGivenNames x3
  clear_value x3
  extract_lets +onlyGivenNames x4
  clear_value x4
  extract_lets +onlyGivenNames x5
  clear_value x5
  refine SoundR.ite ?_ ?_
  · exact SoundR.self _
  · refine SoundR.ite ?_ ?_
    · exact SoundR.self _
    · extract_lets +onlyGivenNames x6
      clear_value x6
      extract_lets +onlyGivenNames x7
      clear_value x7
      extract_lets +onlyGivenNames x8
      clear_value x8
      extract_lets +onlyGivenNames x9
      clear_value x9
      extract_lets +onlyGivenNames x10
      have h11 : SoundR id s x10 := by
        unfold x10
        refine SoundR.ite ?_ ?_
        · refine SoundR.app (sound_setUa ..) ?_
          exact SoundR.self _
        · exact SoundR.self _
      clear_value x10
      extract_lets +onlyGivenNames x12
      clear_value x12
      refine SoundR.ite ?_ ?_
      · exact h11
      · refine SoundR.ite ?_ ?_
        · refine SoundR.app (sound_uartError ..) ?_
          exact h11
        · extract_lets +onlyGivenNames x13
          clear_value x13
          extract_lets +onlyGivenNames x14
          clear_value x14
          extract_lets +onlyGivenNames x15
          have h16 : SoundR id s x15 := by
            unfold x15
            refine SoundR.app (sound_setUa ..) ?_
            exact h11
          clear_value x15
          extract_lets +onlyGivenNames x17
          have h18 : SoundR id s x17 := by
            unfold x17
            refine SoundR.ite ?_ ?_
            · refine SoundR.app (sound_uartError ..) ?_
              exact h16
            · exact h16
          clear_value x17
          extract_lets +onlyGivenNames x19
          have h20 : SoundR id s x19 := by
            unfold x19
            refine SoundR.ite ?_ ?_
            · refine SoundR.app (sound_uartError ..) ?_
              exact h18
            · exact h18
          clear_value x19
          extract_lets +onlyGivenNames x21
          have h22 : SoundR id s x21 := by
            unfold x21
            refine SoundR.ite ?_ ?_
            · refine SoundR.app (sound_uartError ..) ?_
              exact h20
            · exact h20
          clear_value x21
          refine SoundR.app (sound_uartEvents ..) ?_
          exact h22

theorem sound_uartSent (u : Nat) (s : State) : Sound s (uartSent u s) := by
  unfold uartSent
  refine SoundR.intro ?_
  extract_lets +onlyGivenNames x1
  clear_value x1
  refine SoundR.ite ?_ ?_
  · exact SoundR.self _
  · split
    · rename_i v2 v3
      refine SoundR.app (sound_setUa ..) ?_
      exact SoundR.self _
    · rename_i v4 v5 v6 v7
      extract_lets +onlyGivenNames x8
      clear_value x8
      refine SoundR.app (sound_uartEvents ..) ?_
      refine SoundR.app (sound_answer ..) ?_
      refine SoundR.app (sound_setUa ..) ?_
      exact SoundR.self _

theorem sound_i2cSticky (i : Nat) (s : State) : Sound s (i2cSticky i s) := by
  unfold i2cSticky
  refine SoundR.intro ?_
  refine SoundR.app (sound_raise ..) ?_
  refine SoundR.app (sound_setBit ..) ?_
  exact SoundR.self _

theorem sound_i2cFifo (l : List Nat) (s : State) : Sound s (i2cFifo l s) := by
  unfold i2cFifo
  refine SoundR.intro ?_
  extract_lets +onlyGivenNames x1
  clear_value x1
  extract_lets +onlyGivenNames x2
  clear_value x2
  extract_lets +onlyGivenNames x3
  have h4 : SoundR id s x3 := by
    unfold x3
    refine SoundR.app (sound_setB ..) ?_
    refine SoundR.mk' rfl ?_
    exact SoundR.self _
  clear_value x3
  refine SoundR.ite ?_ ?_
  · refine SoundR.app (sound_raise ..) ?_
    exact h4
  · exact h4

theorem sound_i2cNack (s : State) : Sound s (i2cNack s) := by
  unfold i2cNack
  refine SoundR.intro ?_
  refine SoundR.app (sound_set ..) ?_
  refine SoundR.app (sound_i2cFifo ..) ?_
  refine SoundR.app (sound_i2cSticky ..) ?_
  exact SoundR.self _

theorem sound_i2cRun {op : Nat} {f : Nat → State → State} {s : State} (hf : ∀ x t, SoundR id t (f x t)) : Sound s (i2cRun op f s) := by
  unfold i2cRun
  refine SoundR.intro ?_
  split
  · rename_i v1 v2
    exact SoundR.self _
  · rename_i v3 v4 v5 v6
    refine SoundR.ite ?_ ?_
    · refine SoundR.app (hf ..) ?_
      refine SoundR.app (sound_i2cFifo ..) ?_
      exact SoundR.self _
    · exact SoundR.self _

theorem sound_i2cStart (ack : Bool) (s : State) : Sound s (i2cStart ack s) := by
  unfold i2cStart
  refine SoundR.intro ?_
  refine SoundR.app (sound_i2cRun ?_) ?_
  · intro a1 a2
    extract_lets +onlyGivenNames x3
    have h4 : SoundR id a2 x3 := by
      unfold x3
      refine SoundR.app (sound_set ..) ?_
      exact SoundR.self _
    clear_value x3
    refine SoundR.ite ?_ ?_
    · exact h4
    · refine SoundR.app (sound_i2cNack ..) ?_
      exact h4
  · exact SoundR.self _

theorem sound_i2cWrite (ack : Bool) (s : State) : Sound s (i2cWrite ack s) := by
  unfold i2cWrite
  refine SoundR.intro ?_
  refine SoundR.app (sound_i2cRun ?_) ?_
  · intro a1 a2
    refine SoundR.ite ?_ ?_
    · exact SoundR.self _
    · refine SoundR.app (sound_i2cNack ..) ?_
      exact SoundR.self _
  · exact SoundR.self _

theorem sound_i2cRead (d : Byte) (s : State) : Sound s (i2cRead d s) := by
  unfold i2cRead
  refine SoundR.intro ?_
  refine SoundR.app (sound_i2cRun ?_) ?_
  · intro a1 a2
    refine SoundR.app (sound_set ..) ?_
    refine SoundR.app (sound_set ..) ?_
    exact SoundR.self _
  · exact SoundR.self _

theorem sound_i2cStop (s : State) : Sound s (i2cStop s) := by
  unfold i2cStop
  refine SoundR.intro ?_
  refine SoundR.app (sound_i2cRun ?_) ?_
  · intro a1 a2
    refine SoundR.app (sound_set ..) ?_
    exact SoundR.self _
  · exact SoundR.self _

theorem sound_i2cArbLost (s : State) : Sound s (i2cArbLost s) := by
  unfold i2cArbLost
  refine SoundR.intro ?_
  refine SoundR.ite ?_ ?_
  · refine SoundR.app (sound_i2cFifo ..) ?_
    refine SoundR.app (sound_i2cSticky ..) ?_
    exact SoundR.self _
  · exact SoundR.self _

theorem sound_i2cBus (a : I2cAccess) (s : State) : Sound s (i2cBus a s) := by
  unfold i2cBus
  refine SoundR.intro ?_
  split
  · rename_i v1 v2 v3
    refine SoundR.app (sound_setB ..) ?_
    exact SoundR.self _
  · rename_i v4
    refine SoundR.app (sound_set ..) ?_
    exact SoundR.self _
  · rename_i v5 v6 v7
    exact SoundR.self _

theorem sound_i2cTarget (a : I2cAccess) (s : State) : Sound s (i2cTarget a s) := by
  unfold i2cTarget
  refine SoundR.intro ?_
  extract_lets +onlyGivenNames x1
  have h2 : SoundR id s x1 := by
    unfold x1
    refine SoundR.app (sound_i2cBus ..) ?_
    exact SoundR.self _
  clear_value x1
  refine SoundR.ite ?_ ?_
  · exact h2
  · split
    · rename_i v3 v4 v5
      refine SoundR.ite ?_ ?_
      · extract_lets +onlyGivenNames x6
        clear_value x6
        extract_lets +onlyGivenNames x7
        have h8 : SoundR id s x7 := by
          unfold x7
          refine SoundR.mk' rfl ?_
          exact h2
        clear_value x7
        extract_lets +onlyGivenNames x9
        have h10 : SoundR id s x9 := by
          unfold x9
          refine SoundR.app (sound_i2cSticky ..) ?_
          exact h8
        clear_value x9
        refine SoundR.ite ?_ ?_
        · refine SoundR.app (sound_i2cSticky ..) ?_
          exact h10
        · exact h10
      · refine SoundR.mk' rfl ?_
        exact h2
    · rename_i v11 v12
      refine SoundR.ite ?_ ?_
      · refine SoundR.app (sound_i2cSticky ..) ?_
        refine SoundR.app (sound_set ..) ?_
        refine SoundR.mk' rfl ?_
        exact h2
      · exact h2
    · rename_i v13
      refine SoundR.ite ?_ ?_
      · refine SoundR.app (sound_i2cSticky ..) ?_
        refine SoundR.app (sound_answer ..) ?_
        refine SoundR.mk' rfl ?_
        exact h2
      · exact h2
    · rename_i v14
      refine SoundR.ite ?_ ?_
      · refine SoundR.app (sound_i2cSticky ..) ?_
        refine SoundR.mk' rfl ?_
        exact h2
      · exact h2

theorem sound_i2cCmd (w : Word) (s : State) : SoundR Prod.snd s (i2cCmd w s) := by
  unfold i2cCmd
  extract_lets +onlyGivenNames x1
  clear_value x1
  refine SoundR.ite ?_ ?_
  · refine SoundR.mkSnd ?_
    exact SoundR.self _
  · refine SoundR.ite ?_ ?_
    · refine SoundR.mkSnd ?_
      exact SoundR.self _
    · refine SoundR.mkSnd ?_
      refine SoundR.app (sound_i2cFifo ..) ?_
      exact SoundR.self _

theorem sound_hostAbort (s : State) : Sound s (hostAbort s) := by
  unfold hostAbort
  refine SoundR.intro ?_
  refine SoundR.ite ?_ ?_
  · refine SoundR.app (sound_raise ..) ?_
    refine SoundR.app (sound_set ..) ?_
    refine SoundR.app (sound_set ..) ?_
    exact SoundR.self _
  · exact SoundR.self _

theorem sound_serWrite (cid a : Nat) (w : Word) (s : State) : SoundO Prod.snd s (serWrite cid a w s) := by
  unfold serWrite
  refine SoundO.ite ?_ ?_
  · exact SoundO.none
  · refine SoundO.ite ?_ ?_
    · refine SoundO.ite ?_ ?_
      · refine SoundO.some ?_
        refine SoundR.mkSnd ?_
        exact SoundR.self _
      · exact SoundO.none
    · refine SoundO.ite ?_ ?_
      · refine SoundO.some ?_
        refine SoundR.mkSnd ?_
        exact SoundR.self _
      · refine SoundO.ite ?_ ?_
        · refine SoundO.some ?_
          refine SoundR.mkSnd ?_
          exact SoundR.self _
        · refine SoundO.ite ?_ ?_
          · extract_lets +onlyGivenNames x1
            clear_value x1
            extract_lets +onlyGivenNames x2
            clear_value x2
            refine SoundO.ite ?_ ?_
            · refine SoundO.some ?_
              refine SoundR.appG (sound_uartPush ..) ?_
              exact SoundR.self _
            · refine SoundO.ite ?_ ?_
              · refine SoundO.some ?_
                refine SoundR.mkSnd ?_
                refine SoundR.app (sound_uartEvents ..) ?_
                refine SoundR.app (sound_uartDrive ..) ?_
                refine SoundR.app (sound_setWord ..) ?_
                exact SoundR.self _
              · refine SoundO.ite ?_ ?_
                · refine SoundO.some ?_
                  refine SoundR.mkSnd ?_
                  refine SoundR.app (sound_uartEvents ..) ?_
                  refine SoundR.app (sound_setWord ..) ?_
                  exact SoundR.self _
                · exact SoundO.none
          · refine SoundO.ite ?_ ?_
            · refine SoundO.some ?_
              refine SoundR.appG (sound_i2cCmd ..) ?_
              exact SoundR.self _
            · refine SoundO.ite ?_ ?_
              · refine SoundO.some ?_
                refine SoundR.mkSnd ?_
                refine SoundR.app (sound_set ..) ?_
                refine SoundR.mk' rfl ?_
                exact SoundR.self _
              · exact SoundO.none

theorem sound_serRead (a : Nat) (s : State) : SoundO Prod.snd s (serRead a s) := by
  unfold serRead
  refine SoundO.ite ?_ ?_
  · refine SoundO.some ?_
    refine SoundR.appG (sound_uartPop ..) ?_
    exact SoundR.self _
  · refine SoundO.ite ?_ ?_
    · refine SoundO.some ?_
      refine SoundR.appG (sound_uartPop ..) ?_
      exact SoundR.self _
    · refine SoundO.ite ?_ ?_
      · refine SoundO.some ?_
        refine SoundR.mkSnd ?_
        refine SoundR.mk' rfl ?_
        exact SoundR.self _
      · refine SoundO.ite ?_ ?_
        · refine SoundO.some ?_
          refine SoundR.mkSnd ?_
          exact SoundR.self _
        · exact SoundO.none

theorem sound_serialLockLoss (s : State) : Sound s (serialLockLoss s) := by
  unfold serialLockLoss
  refine SoundR.intro ?_
  extract_lets +onlyGivenNames x1
  have h2 : SoundR id s x1 := by
    unfold x1
    refine SoundR.forEach _ ?_ ?_
    · intro a3 a4
      refine SoundR.ite ?_ ?_
      · extract_lets +onlyGivenNames x5
        have h6 : SoundR id a4 x5 := by
          unfold x5
          refine SoundR.app (sound_set ..) ?_
          exact SoundR.self _
        clear_value x5
        refine SoundR.app (sound_raise ..) ?_
        refine SoundR.app (sound_setUa ..) ?_
        exact h6
      · exact SoundR.self _
    · exact SoundR.self _
  clear_value x1
  extract_lets +onlyGivenNames x7
  have h8 : SoundR id s x7 := by
    unfold x7
    refine SoundR.app (sound_set ..) ?_
    refine SoundR.app (sound_set ..) ?_
    exact h2
  clear_value x7
  extract_lets +onlyGivenNames x9
  clear_value x9
  extract_lets +onlyGivenNames x10
  have h11 : SoundR id s x10 := by
    unfold x10
    refine SoundR.ite ?_ ?_
    · refine SoundR.app (sound_raise ..) ?_
      refine SoundR.mk' rfl ?_
      exact h8
    · exact h2
  clear_value x10
  refine SoundR.ite ?_ ?_
  · refine SoundR.app (sound_raise ..) ?_
    refine SoundR.app (sound_set ..) ?_
    exact h11
  · exact h11

theorem sound_updTb (s : State) (f : Tb → Tb) : Sound s (State.updTb s f) := by
  unfold State.updTb
  refine SoundR.intro ?_
  refine SoundR.mk' rfl ?_
  exact SoundR.self _

theorem sound_fineShow (s : State) : Sound s (fineShow s) := by
  unfold fineShow
  refine SoundR.intro ?_
  refine SoundR.app (sound_setB ..) ?_
  exact SoundR.self _

theorem sound_retReset (s : State) : Sound s (retReset s) := by
  unfold retReset
  refine SoundR.intro ?_
  refine SoundR.app (sound_set ..) ?_
  refine SoundR.app (sound_set ..) ?_
  refine SoundR.app (sound_updTb ..) ?_
  exact SoundR.self _

theorem sound_fineBack (s : State) : Sound s (fineBack s) := by
  unfold fineBack
  refine SoundR.intro ?_
  refine SoundR.ite ?_ ?_
  · refine SoundR.app (sound_tbEvent ..) ?_
    refine SoundR.app (sound_updTb ..) ?_
    exact SoundR.self _
  · exact SoundR.self _

theorem sound_clearFine (s : State) : Sound s (clearFine s) := by
  unfold clearFine
  refine SoundR.intro ?_
  extract_lets +onlyGivenNames x1
  clear_value x1
  extract_lets +onlyGivenNames x2
  have h3 : SoundR id s x2 := by
    unfold x2
    refine SoundR.app (sound_updTb ..) ?_
    exact SoundR.self _
  clear_value x2
  extract_lets +onlyGivenNames x4
  have h5 : SoundR id s x4 := by
    unfold x4
    refine SoundR.app (sound_set ..) ?_
    exact h3
  clear_value x4
  refine SoundR.ite ?_ ?_
  · exact h5
  · refine SoundR.app (sound_tbEvent ..) ?_
    exact h5

theorem sound_updCal (s : State) (g : Nat) (f : CalGroup → CalGroup) : Sound s (State.updCal s g f) := by
  unfold State.updCal
  refine SoundR.intro ?_
  refine SoundR.app (sound_updTb ..) ?_
  exact SoundR.self _

theorem sound_calResume (g : Nat) (s : State) : Sound s (calResume g s) := by
  unfold calResume
  refine SoundR.intro ?_
  extract_lets +onlyGivenNames x1
  clear_value x1
  refine SoundR.ite ?_ ?_
  · exact SoundR.self _
  · refine SoundR.ite ?_ ?_
    · refine SoundR.app (sound_setBit ..) ?_
      refine SoundR.app (sound_updCal ..) ?_
      exact SoundR.self _
    · refine SoundR.app (sound_updCal ..) ?_
      exact SoundR.self _

theorem sound_startRotation (s : State) : Sound s (startRotation s) := by
  unfold startRotation
  refine SoundR.intro ?_
  refine SoundR.app (sound_fineBack ..) ?_
  refine SoundR.forEach _ ?_ ?_
  · intro a1 a2
    refine SoundR.ite ?_ ?_
    · refine SoundR.ite ?_ ?_
      · exact SoundR.self _
      · refine SoundR.app (sound_updCal ..) ?_
        exact SoundR.self _
    · refine SoundR.app (sound_calResume ..) ?_
      exact SoundR.self _
  · exact SoundR.self _

theorem sound_calDone (g : Nat) (ok : Bool) (s : State) : Sound s (calDone g ok s) := by
  unfold calDone
  refine SoundR.intro ?_
  extract_lets +onlyGivenNames x1
  clear_value x1
  refine SoundR.ite ?_ ?_
  · exact SoundR.self _
  · refine SoundR.ite ?_ ?_
    · refine SoundR.app (sound_updCal ..) ?_
      exact SoundR.self _
    · extract_lets +onlyGivenNames x2
      have h3 : SoundR id s x2 := by
        unfold x2
        refine SoundR.app (sound_tbEvent ..) ?_
        refine SoundR.app (sound_setBit ..) ?_
        exact SoundR.self _
      clear_value x2
      refine SoundR.ite ?_ ?_
      · exact h3
      · refine SoundR.app (sound_fineBack ..) ?_
        refine SoundR.app (sound_calResume ..) ?_
        refine SoundR.app (sound_updCal ..) ?_
        exact h3

theorem sound_lineSwap (g : Nat) (s : State) : Sound s (lineSwap g s) := by
  unfold lineSwap
  refine SoundR.intro ?_
  extract_lets +onlyGivenNames x1
  clear_value x1
  split
  · rename_i v2 v3
    exact SoundR.self _
  · rename_i v4 v5 v6 v7
    refine SoundR.ite ?_ ?_
    · exact SoundR.self _
    · extract_lets +onlyGivenNames x8
      have h9 : SoundR id s x8 := by
        unfold x8
        refine SoundR.app (sound_updCal ..) ?_
        exact SoundR.self _
      clear_value x8
      refine SoundR.ite ?_ ?_
      · refine SoundR.app (sound_fineBack ..) ?_
        refine SoundR.app (sound_setBit ..) ?_
        refine SoundR.app (sound_updCal ..) ?_
        exact h9
      · exact h9

theorem sound_calEnvironment (s : State) : Sound s (calEnvironment s) := by
  unfold calEnvironment
  refine SoundR.intro ?_
  extract_lets +onlyGivenNames x1
  clear_value x1
  extract_lets +onlyGivenNames x2
  clear_value x2
  refine SoundR.ite ?_ ?_
  · exact SoundR.self _
  · refine SoundR.app (sound_tbEvent ..) ?_
    refine SoundR.foldl _ ?_ ?_
    · intro a3 a4
      refine SoundR.app (sound_updCal ..) ?_
      refine SoundR.app (sound_setBit ..) ?_
      exact SoundR.self _
    · exact SoundR.self _

theorem sound_enterLost (s : State) : Sound s (enterLost s) := by
  unfold enterLost
  refine SoundR.intro ?_
  extract_lets +onlyGivenNames x1
  have h2 : SoundR id s x1 := by
    unfold x1
    refine SoundR.app (sound_retReset ..) ?_
    exact SoundR.self _
  clear_value x1
  refine SoundR.ite ?_ ?_
  · exact h2
  · extract_lets +onlyGivenNames x3
    have h4 : SoundR id s x3 := by
      unfold x3
      refine SoundR.app (sound_count ..) ?_
      refine SoundR.app (sound_set ..) ?_
      exact h2
    clear_value x3
    extract_lets +onlyGivenNames x5
    have h6 : SoundR id s x5 := by
      unfold x5
      refine SoundR.app (sound_set ..) ?_
      refine SoundR.app (sound_updTb ..) ?_
      exact h4
    clear_value x5
    refine SoundR.app (sound_tbEvent ..) ?_
    exact h6

theorem sound_takeSource (src : Nat) (s : State) : Sound s (takeSource src s) := by
  unfold takeSource
  refine SoundR.intro ?_
  extract_lets +onlyGivenNames x1
  have h2 : SoundR id s x1 := by
    unfold x1
    refine SoundR.app (sound_updTb ..) ?_
    exact SoundR.self _
  clear_value x1
  refine SoundR.app (sound_fineShow ..) ?_
  refine SoundR.app (sound_tbEvent ..) ?_
  refine SoundR.app (sound_set ..) ?_
  exact h2

theorem sound_lossPolicy (src : Nat) (s : State) : Sound s (lossPolicy src s) := by
  unfold lossPolicy
  refine SoundR.intro ?_
  refine SoundR.ite ?_ ?_
  · refine SoundR.app (sound_polUpdate ..) ?_
    refine SoundR.app (sound_polMark ..) ?_
    refine SoundR.app (sound_polMark ..) ?_
    exact SoundR.self _
  · refine SoundR.ite ?_ ?_
    · refine SoundR.app (sound_polSet ..) ?_
      exact SoundR.self _
    · refine SoundR.app (sound_polUpdate ..) ?_
      refine SoundR.app (sound_polMark ..) ?_
      refine SoundR.app (sound_polMark ..) ?_
      exact SoundR.self _

theorem sound_sourceBack (src : Nat) (s : State) : Sound s (sourceBack src s) := by
  unfold sourceBack
  refine SoundR.intro ?_
  refine SoundR.ite ?_ ?_
  · exact SoundR.self _
  · refine SoundR.ite ?_ ?_
    · refine SoundR.app (sound_updTb ..) ?_
      exact SoundR.self _
    · refine SoundR.app (sound_lossPolicy ..) ?_
      refine SoundR.app (sound_takeSource ..) ?_
      exact SoundR.self _

theorem sound_switchover (prim chainloss : Bool) (s : State) : Sound s (switchover prim chainloss s) := by
  unfold switchover
  refine SoundR.intro ?_
  extract_lets +onlyGivenNames x1
  clear_value x1
  extract_lets +onlyGivenNames x2
  have h3 : SoundR id s x2 := by
    unfold x2
    refine SoundR.app (sound_clearFine ..) ?_
    refine SoundR.app (sound_set ..) ?_
    exact SoundR.self _
  clear_value x2
  extract_lets +onlyGivenNames x4
  have h5 : SoundR id s x4 := by
    unfold x4
    refine SoundR.ite ?_ ?_
    · refine SoundR.app (sound_enterLost ..) ?_
      exact h3
    · refine SoundR.app (sound_tbEvent ..) ?_
      exact h3
  clear_value x4
  extract_lets +onlyGivenNames x6
  have h7 : SoundR id s x6 := by
    unfold x6
    refine SoundR.ite ?_ ?_
    · refine SoundR.app (sound_tbEvent ..) ?_
      exact h5
    · exact h5
  clear_value x6
  extract_lets +onlyGivenNames x8
  clear_value x8
  split
  · rename_i v9
    extract_lets +onlyGivenNames x10
    have h11 : SoundR id s x10 := by
      unfold x10
      refine SoundR.app (sound_updTb ..) ?_
      exact h7
    clear_value x10
    refine SoundR.ite ?_ ?_
    · refine SoundR.app (sound_polSet ..) ?_
      exact h11
    · exact h11
  · rename_i v12 v13
    refine SoundR.app (sound_lossPolicy ..) ?_
    refine SoundR.app (sound_takeSource ..) ?_
    exact h7

theorem sound_lostPrimary (s : State) : Sound s (lostPrimary s) := by
  unfold lostPrimary
  refine SoundR.intro ?_
  refine SoundR.ite ?_ ?_
  · refine SoundR.app (sound_switchover ..) ?_
    exact SoundR.self _
  · refine SoundR.app (sound_enterLost ..) ?_
    exact SoundR.self _

theorem sound_rcLost (s : State) : Sound s (rcLost s) := by
  unfold rcLost
  refine SoundR.intro ?_
  extract_lets +onlyGivenNames x1
  have h2 : SoundR id s x1 := by
    unfold x1
    refine SoundR.app (sound_updTb ..) ?_
    exact SoundR.self _
  clear_value x1
  refine SoundR.ite ?_ ?_
  · refine SoundR.app (sound_lostPrimary ..) ?_
    refine SoundR.app (sound_updTb ..) ?_
    exact h2
  · refine SoundR.ite ?_ ?_
    · refine SoundR.app (sound_switchover ..) ?_
      exact h2
    · exact h2

theorem sound_missingEdge (s : State) : Sound s (missingEdge s) := by
  unfold missingEdge
  refine SoundR.intro ?_
  refine SoundR.ite ?_ ?_
  · exact SoundR.self _
  · refine SoundR.ite ?_ ?_
    · refine SoundR.app (sound_rcLost ..) ?_
      exact SoundR.self _
    · refine SoundR.app (sound_lostPrimary ..) ?_
      refine SoundR.app (sound_updTb ..) ?_
      exact SoundR.self _

theorem sound_grossError (s : State) : Sound s (grossError s) := by
  unfold grossError
  refine SoundR.intro ?_
  refine SoundR.ite ?_ ?_
  · refine SoundR.app (sound_lostPrimary ..) ?_
    refine SoundR.app (sound_updTb ..) ?_
    exact SoundR.self _
  · exact SoundR.self _

theorem sound_restartFilter (s : State) : Sound s (restartFilter s) := by
  unfold restartFilter
  refine SoundR.intro ?_
  extract_lets +onlyGivenNames x1
  have h2 : SoundR id s x1 := by
    unfold x1
    refine SoundR.app (sound_retReset ..) ?_
    refine SoundR.app (sound_updTb ..) ?_
    exact SoundR.self _
  clear_value x1
  extract_lets +onlyGivenNames x3
  have h4 : SoundR id s x3 := by
    unfold x3
    refine SoundR.app (sound_set ..) ?_
    exact h2
  clear_value x3
  refine SoundR.ite ?_ ?_
  · exact h4
  · refine SoundR.app (sound_set ..) ?_
    exact h4

theorem sound_loopPullin (s : State) : Sound s (loopPullin s) := by
  unfold loopPullin
  refine SoundR.intro ?_
  refine SoundR.ite ?_ ?_
  · extract_lets +onlyGivenNames x1
    have h2 : SoundR id s x1 := by
      unfold x1
      refine SoundR.app (sound_set ..) ?_
      exact SoundR.self _
    clear_value x1
    refine SoundR.ite ?_ ?_
    · refine SoundR.app (sound_startRotation ..) ?_
      exact h2
    · exact h2
  · exact SoundR.self _

theorem sound_chainUp (s : State) : Sound s (chainUp s) := by
  unfold chainUp
  refine SoundR.intro ?_
  extract_lets +onlyGivenNames x1
  have h2 : SoundR id s x1 := by
    unfold x1
    refine SoundR.app (sound_set ..) ?_
    exact SoundR.self _
  clear_value x1
  extract_lets +onlyGivenNames x3
  clear_value x3
  extract_lets +onlyGivenNames x4
  have h5 : SoundR id s x4 := by
    unfold x4
    refine SoundR.ite ?_ ?_
    · refine SoundR.app (sound_restartFilter ..) ?_
      refine SoundR.app (sound_updTb ..) ?_
      exact h2
    · exact h2
  clear_value x4
  refine SoundR.app (sound_fineShow ..) ?_
  refine SoundR.ite ?_ ?_
  · refine SoundR.ite ?_ ?_
    · refine SoundR.app (sound_lossPolicy ..) ?_
      refine SoundR.app (sound_takeSource ..) ?_
      exact h5
    · refine SoundR.app (sound_takeSource ..) ?_
      exact h5
  · refine SoundR.app (sound_sourceBack ..) ?_
    exact h5

theorem sound_chainDown (s : State) : Sound s (chainDown s) := by
  unfold chainDown
  refine SoundR.intro ?_
  extract_lets +onlyGivenNames x1
  have h2 : SoundR id s x1 := by
    unfold x1
    refine SoundR.forEach _ ?_ ?_
    · intro a3 a4
      refine SoundR.app (sound_clDrop ..) ?_
      exact SoundR.self _
    · refine SoundR.app (sound_set ..) ?_
      exact SoundR.self _
  clear_value x1
  extract_lets +onlyGivenNames x5
  have h6 : SoundR id s x5 := by
    unfold x5
    refine SoundR.app (sound_fineShow ..) ?_
    refine SoundR.app (sound_set ..) ?_
    refine SoundR.app (sound_updTb ..) ?_
    exact h2
  clear_value x5
  extract_lets +onlyGivenNames x7
  have h8 : SoundR id s x7 := by
    unfold x7
    refine SoundR.ite ?_ ?_
    · refine SoundR.app (sound_updTb ..) ?_
      exact h6
    · exact h6
  clear_value x7
  refine SoundR.ite ?_ ?_
  · refine SoundR.app (sound_switchover ..) ?_
    exact h8
  · refine SoundR.ite ?_ ?_
    · refine SoundR.app (sound_enterLost ..) ?_
      exact h8
    · exact h8

theorem sound_setChainok (ok : Bool) (s : State) : Sound s (setChainok ok s) := by
  unfold setChainok
  refine SoundR.intro ?_
  refine SoundR.ite ?_ ?_
  · exact SoundR.self _
  · refine SoundR.ite ?_ ?_
    · refine SoundR.app (sound_chainUp ..) ?_
      exact SoundR.self _
    · refine SoundR.app (sound_chainDown ..) ?_
      exact SoundR.self _

theorem sound_setDisc (d : Bool) (s : State) : Sound s (setDisc d s) := by
  unfold setDisc
  refine SoundR.intro ?_
  extract_lets +onlyGivenNames x1
  have h2 : SoundR id s x1 := by
    unfold x1
    refine SoundR.app (sound_setB ..) ?_
    exact SoundR.self _
  clear_value x1
  refine SoundR.app (sound_setChainok ..) ?_
  exact h2

theorem sound_discTo (d : Bool) (s : State) : Sound s (discTo d s) := by
  unfold discTo
  refine SoundR.intro ?_
  refine SoundR.ite ?_ ?_
  · exact SoundR.self _
  · refine SoundR.app (sound_xEvent ..) ?_
    refine SoundR.app (sound_setDisc ..) ?_
    exact SoundR.self _

theorem sound_putReferr (s : State) : Sound s (putReferr s) := by
  unfold putReferr
  refine SoundR.intro ?_
  extract_lets +onlyGivenNames x1
  clear_value x1
  extract_lets +onlyGivenNames x2
  clear_value x2
  refine SoundR.app (sound_setInt ..) ?_
  exact SoundR.self _

theorem sound_trimUpdate (s : State) : Sound s (trimUpdate s) := by
  unfold trimUpdate
  refine SoundR.intro ?_
  refine SoundR.ite ?_ ?_
  · extract_lets +onlyGivenNames x1
    clear_value x1
    refine SoundR.app (sound_set ..) ?_
    refine SoundR.app (sound_updTb ..) ?_
    exact SoundR.self _
  · exact SoundR.self _

theorem sound_setBand (b : Nat) (s : State) : Sound s (setBand b s) := by
  unfold setBand
  refine SoundR.intro ?_
  extract_lets +onlyGivenNames x1
  clear_value x1
  refine SoundR.ite ?_ ?_
  · refine SoundR.ite ?_ ?_
    · exact SoundR.self _
    · refine SoundR.app (sound_lostPrimary ..) ?_
      exact SoundR.self _
  · extract_lets +onlyGivenNames x2
    have h3 : SoundR id s x2 := by
      unfold x2
      refine SoundR.app (sound_set ..) ?_
      exact SoundR.self _
    clear_value x2
    refine SoundR.ite ?_ ?_
    · refine SoundR.app (sound_trimUpdate ..) ?_
      refine SoundR.ite ?_ ?_
      · exact h3
      · refine SoundR.app (sound_retReset ..) ?_
        refine SoundR.app (sound_tbEvent ..) ?_
        refine SoundR.app (sound_count ..) ?_
        exact h3
    · refine SoundR.ite ?_ ?_
      · exact h3
      · extract_lets +onlyGivenNames x4
        have h5 : SoundR id s x4 := by
          unfold x4
          refine SoundR.ite ?_ ?_
          · refine SoundR.app (sound_polSet ..) ?_
            exact h3
          · exact h3
        clear_value x4
        refine SoundR.ite ?_ ?_
        · refine SoundR.app (sound_updTb ..) ?_
          exact h5
        · exact h5

theorem sound_followBaseline (m : Meas) (s : State) : Sound s (followBaseline m s) := by
  unfold followBaseline
  refine SoundR.intro ?_
  extract_lets +onlyGivenNames x1
  clear_value x1
  refine SoundR.ite ?_ ?_
  · exact SoundR.self _
  · refine SoundR.ite ?_ ?_
    · refine SoundR.app (sound_set ..) ?_
      exact SoundR.self _
    · extract_lets +onlyGivenNames x2
      clear_value x2
      refine SoundR.app (sound_set ..) ?_
      exact SoundR.self _

theorem sound_retTick (s : State) : Sound s (retTick s) := by
  unfold retTick
  refine SoundR.intro ?_
  refine SoundR.ite ?_ ?_
  · extract_lets +onlyGivenNames x1
    have h2 : SoundR id s x1 := by
      unfold x1
      refine SoundR.app (sound_updTb ..) ?_
      exact SoundR.self _
    clear_value x1
    refine SoundR.app (sound_set ..) ?_
    refine SoundR.app (sound_set ..) ?_
    exact h2
  · exact SoundR.self _

theorem sound_recompute (ratio : Nat) (err : Int) (s : State) : Sound s (recompute ratio err s) := by
  unfold recompute
  refine SoundR.intro ?_
  refine SoundR.ite ?_ ?_
  · exact SoundR.self _
  · extract_lets +onlyGivenNames x1
    clear_value x1
    extract_lets +onlyGivenNames x2
    extract_lets +onlyGivenNames x3
    have h4 : SoundR id s x3 := by
      unfold x3
      refine SoundR.app (sound_updTb ..) ?_
      exact SoundR.self _
    clear_value x3
    extract_lets +onlyGivenNames x5
    clear_value x5
    refine SoundR.ite ?_ ?_
    · refine SoundR.app (sound_putReferr ..) ?_
      exact h4
    · extract_lets +onlyGivenNames x6
      have h7 : SoundR id s x6 := by
        unfold x6
        refine SoundR.ite ?_ ?_
        · refine SoundR.app (sound_set ..) ?_
          exact h4
        · exact h4
      clear_value x6
      extract_lets +onlyGivenNames x8
      have h9 : SoundR id s x8 := by
        unfold x8
        refine SoundR.app (sound_putReferr ..) ?_
        refine SoundR.app (sound_updTb ..) ?_
        exact h7
      clear_value x8
      extract_lets +onlyGivenNames x10
      have h11 : SoundR id s x10 := by
        unfold x10
        refine SoundR.app (sound_setBand ..) ?_
        exact h9
      clear_value x10
      refine SoundR.app (sound_retTick ..) ?_
      refine SoundR.app (sound_followBaseline ..) ?_
      exact h11

theorem sound_trimDone (s : State) : Sound s (trimDone s) := by
  unfold trimDone
  refine SoundR.intro ?_
  refine SoundR.ite ?_ ?_
  · refine SoundR.app (sound_set ..) ?_
    refine SoundR.app (sound_updTb ..) ?_
    exact SoundR.self _
  · exact SoundR.self _

theorem sound_retdlyExpire (s : State) : Sound s (retdlyExpire s) := by
  unfold retdlyExpire
  refine SoundR.intro ?_
  refine SoundR.ite ?_ ?_
  · refine SoundR.app (sound_updTb ..) ?_
    exact SoundR.self _
  · exact SoundR.self _

theorem sound_primaryReturn (s : State) : Sound s (primaryReturn s) := by
  unfold primaryReturn
  refine SoundR.intro ?_
  refine SoundR.ite ?_ ?_
  · extract_lets +onlyGivenNames x1
    have h2 : SoundR id s x1 := by
      unfold x1
      refine SoundR.app (sound_fineShow ..) ?_
      refine SoundR.app (sound_set ..) ?_
      refine SoundR.app (sound_retReset ..) ?_
      exact SoundR.self _
    clear_value x1
    refine SoundR.app (sound_polUpdate ..) ?_
    refine SoundR.app (sound_polMark ..) ?_
    refine SoundR.app (sound_polMark ..) ?_
    refine SoundR.app (sound_tbEvent ..) ?_
    exact h2
  · exact SoundR.self _

theorem sound_rcReturn (s : State) : Sound s (rcReturn s) := by
  unfold rcReturn
  refine SoundR.intro ?_
  refine SoundR.ite ?_ ?_
  · exact SoundR.self _
  · extract_lets +onlyGivenNames x1
    have h2 : SoundR id s x1 := by
      unfold x1
      refine SoundR.app (sound_updTb ..) ?_
      exact SoundR.self _
    clear_value x1
    refine SoundR.app (sound_sourceBack ..) ?_
    refine SoundR.ite ?_ ?_
    · refine SoundR.app (sound_restartFilter ..) ?_
      exact h2
    · exact h2

theorem sound_primaryRestart (s : State) : Sound s (primaryRestart s) := by
  unfold primaryRestart
  refine SoundR.intro ?_
  refine SoundR.ite ?_ ?_
  · refine SoundR.app (sound_rcReturn ..) ?_
    exact SoundR.self _
  · refine SoundR.ite ?_ ?_
    · exact SoundR.self _
    · refine SoundR.app (sound_sourceBack ..) ?_
      refine SoundR.app (sound_restartFilter ..) ?_
      exact SoundR.self _

theorem sound_loseLock (n : Nat) (s : State) : Sound s (loseLock n s) := by
  unfold loseLock
  refine SoundR.intro ?_
  refine SoundR.ite ?_ ?_
  · exact SoundR.self _
  · extract_lets +onlyGivenNames x1
    have h2 : SoundR id s x1 := by
      unfold x1
      refine SoundR.app (sound_setBit ..) ?_
      refine SoundR.app (sound_setBit ..) ?_
      exact SoundR.self _
    clear_value x1
    extract_lets +onlyGivenNames x3
    have h4 : SoundR id s x3 := by
      unfold x3
      split
      · rename_i v5
        refine SoundR.app (sound_legsFault ..) ?_
        exact h2
      · rename_i v6
        refine SoundR.app (sound_legsFault ..) ?_
        exact h2
      · rename_i v7
        refine SoundR.app (sound_discTo ..) ?_
        refine SoundR.app (sound_updTb ..) ?_
        exact h2
      · rename_i v8
        refine SoundR.app (sound_tslStopAll ..) ?_
        exact h2
      · rename_i v9
        refine SoundR.app (sound_serialLockLoss ..) ?_
        exact h2
      · rename_i v10
        refine SoundR.app (sound_clearFine ..) ?_
        exact h2
      · rename_i v11 v12 v13 v14 v15 v16 v17
        exact h2
    clear_value x3
    refine SoundR.app (sound_faultEval ..) ?_
    exact h4

theorem sound_gainLock (n : Nat) (s : State) : Sound s (gainLock n s) := by
  unfold gainLock
  refine SoundR.intro ?_
  refine SoundR.ite ?_ ?_
  · exact SoundR.self _
  · extract_lets +onlyGivenNames x1
    have h2 : SoundR id s x1 := by
      unfold x1
      refine SoundR.app (sound_setBit ..) ?_
      exact SoundR.self _
    clear_value x1
    split
    · rename_i v3
      extract_lets +onlyGivenNames x4
      have h5 : SoundR id s x4 := by
        unfold x4
        refine SoundR.app (sound_updTb ..) ?_
        exact h2
      clear_value x4
      refine SoundR.ite ?_ ?_
      · refine SoundR.app (sound_discTo ..) ?_
        exact h5
      · exact h5
    · rename_i v6
      refine SoundR.app (sound_startRotation ..) ?_
      exact h2
    · rename_i v7 v8 v9
      exact h2

theorem sound_holdoverExpire (s : State) : Sound s (holdoverExpire s) := by
  unfold holdoverExpire
  refine SoundR.intro ?_
  refine SoundR.ite ?_ ?_
  · refine SoundR.forEach _ ?_ ?_
    · intro a1 a2
      refine SoundR.app (sound_loseLock ..) ?_
      exact SoundR.self _
    · exact SoundR.self _
  · exact SoundR.self _

theorem sound_refConfig (s : State) : Sound s (refConfig s) := by
  unfold refConfig
  refine SoundR.intro ?_
  extract_lets +onlyGivenNames x1
  have h2 : SoundR id s x1 := by
    unfold x1
    refine SoundR.ite ?_ ?_
    · refine SoundR.app (sound_tbEvent ..) ?_
      exact SoundR.self _
    · exact SoundR.self _
  clear_value x1
  extract_lets +onlyGivenNames x3
  clear_value x3
  extract_lets +onlyGivenNames x4
  have h5 : SoundR id s x4 := by
    unfold x4
    refine SoundR.app (sound_set ..) ?_
    exact h2
  clear_value x4
  extract_lets +onlyGivenNames x6
  have h7 : SoundR id s x6 := by
    unfold x6
    refine SoundR.app (sound_updTb ..) ?_
    exact h5
  clear_value x6
  refine SoundR.app (sound_restartFilter ..) ?_
  refine SoundR.app (sound_fineShow ..) ?_
  exact h7

theorem sound_bandsCheck (s : State) : Sound s (bandsCheck s) := by
  unfold bandsCheck
  refine SoundR.intro ?_
  extract_lets +onlyGivenNames x1
  clear_value x1
  extract_lets +onlyGivenNames x2
  clear_value x2
  extract_lets +onlyGivenNames x3
  clear_value x3
  refine SoundR.ite ?_ ?_
  · exact SoundR.self _
  · refine SoundR.app (sound_tbEvent ..) ?_
    refine SoundR.app (sound_setWord ..) ?_
    exact SoundR.self _

theorem sound_timeloRead (s : State) : SoundR Prod.snd s (timeloRead s) := by
  unfold timeloRead
  refine SoundR.mkSnd ?_
  refine SoundR.app (sound_set ..) ?_
  exact SoundR.self _

theorem sound_tbTick (s : State) : SoundR Prod.fst s (tbTick s) := by
  unfold tbTick
  extract_lets +onlyGivenNames x1
  clear_value x1
  extract_lets +onlyGivenNames x2
  clear_value x2
  extract_lets +onlyGivenNames x3
  clear_value x3
  extract_lets +onlyGivenNames x4
  clear_value x4
  extract_lets +onlyGivenNames x5
  clear_value x5
  refine SoundR.mkFst ?_
  refine SoundR.mk' rfl ?_
  exact SoundR.self _

theorem sound_setSlots (p : Nat) (l : List Slot) (s : State) : Sound s (setSlots p l s) := by
  unfold setSlots
  refine SoundR.intro ?_
  refine SoundR.ite ?_ ?_
  · refine SoundR.mk' rfl ?_
    exact SoundR.self _
  · refine SoundR.app (sound_setPort ..) ?_
    exact SoundR.self _

theorem sound_releaseClass (p c : Nat) (s : State) : Sound s (releaseClass p c s) := by
  unfold releaseClass
  refine SoundR.intro ?_
  refine SoundR.ite ?_ ?_
  · exact SoundR.self _
  · extract_lets +onlyGivenNames x1
    clear_value x1
    refine SoundR.app (sound_setPort ..) ?_
    exact SoundR.self _

theorem sound_slotDone (p : Nat) (x : Slot) (s : State) : Sound s (slotDone p x s) := by
  unfold slotDone
  refine SoundR.intro ?_
  refine SoundR.ite ?_ ?_
  · refine SoundR.app (sound_setSlots ..) ?_
    exact SoundR.self _
  · refine SoundR.app (sound_releaseClass ..) ?_
    refine SoundR.app (sound_setSlots ..) ?_
    exact SoundR.self _

theorem sound_onFrame {p cls typ : Nat} {act : Frame → State → State} {s : State} (hf : ∀ x t, SoundR id t (act x t)) : Sound s (onFrame p cls typ act s) := by
  unfold onFrame
  refine SoundR.intro ?_
  split
  · rename_i v1 v2 v3
    refine SoundR.app (hf ..) ?_
    refine SoundR.app (sound_slotDone ..) ?_
    exact SoundR.self _
  · rename_i v4 v5
    exact SoundR.self _

theorem sound_unkType (p : Nat) (s : State) : Sound s (unkType p s) := by
  unfold unkType
  refine SoundR.intro ?_
  refine SoundR.ite ?_ ?_
  · exact SoundR.self _
  · refine SoundR.app (sound_count ..) ?_
    exact SoundR.self _

theorem sound_txErr (off dst cid code kind : Nat) (s : State) : Sound s (txErr off dst cid code kind s) := by
  unfold txErr
  refine SoundR.intro ?_
  extract_lets +onlyGivenNames x1
  clear_value x1
  extract_lets +onlyGivenNames x2
  have h3 : SoundR id s x2 := by
    unfold x2
    refine SoundR.app (sound_set ..) ?_
    refine SoundR.app (sound_set ..) ?_
    exact SoundR.self _
  clear_value x2
  extract_lets +onlyGivenNames x4
  have h5 : SoundR id s x4 := by
    unfold x4
    refine SoundR.app (sound_setWord ..) ?_
    exact h3
  clear_value x4
  refine SoundR.app (sound_xEvent ..) ?_
  refine SoundR.app (sound_set ..) ?_
  exact h5

theorem sound_bufWord (who : Who) (i j : Nat) (s : State) : SoundR Prod.snd s (bufWord who i j s) := by
  unfold bufWord
  extract_lets +onlyGivenNames x1
  clear_value x1
  split
  · rename_i v2 v3 v4 v5
    have h6 : SoundR id s v4 := by
      refine SoundR.of2 v5 ?_
      refine SoundR.appG (sound_ramReadSmall ..) ?_
      exact SoundR.self _
    refine SoundR.mkSnd ?_
    exact h6
  · rename_i v7 v8 v9 v10
    have h11 : SoundR id s v9 := by
      refine SoundR.of2 v10 ?_
      refine SoundR.appG (sound_ramReadSmall ..) ?_
      exact SoundR.self _
    refine SoundR.mkSnd ?_
    refine SoundR.app (sound_busErr ..) ?_
    exact h11

theorem sound_bufGet (who : Who) (i : Nat) (s : State) : SoundR Prod.snd s (bufGet who i s) := by
  unfold bufGet
  refine SoundR.foldlSnd _ ?_ ?_
  · intro a1 a2 a3
    extract_lets +onlyGivenNames x4
    have h5 : SoundR Prod.snd a2 x4 := by
      unfold x4
      refine SoundR.appG (sound_bufWord ..) ?_
      refine SoundR.ofSnd ?_
      refine SoundR.mkSnd ?_
      exact SoundR.self _
    clear_value x4
    refine SoundR.mkSnd ?_
    exact h5
  · refine SoundR.mkSnd ?_
    exact SoundR.self _

theorem sound_bufPut (who : Who) (i : Nat) (d : List Byte) (s : State) : Sound s (bufPut who i d s) := by
  unfold bufPut
  refine SoundR.intro ?_
  refine SoundR.foldl _ ?_ ?_
  · intro a1 a2
    extract_lets +onlyGivenNames x3
    clear_value x3
    extract_lets +onlyGivenNames x4
    clear_value x4
    refine SoundR.ite ?_ ?_
    · exact SoundR.self _
    · split
      · rename_i v5 v6 v7 v8
        have h9 : SoundR id a1 v7 := by
          refine SoundR.of2 v8 ?_
          refine SoundR.appG (sound_ramWriteSmall ..) ?_
          exact SoundR.self _
        exact h9
      · rename_i v10 v11 v12 v13
        have h14 : SoundR id a1 v12 := by
          refine SoundR.of2 v13 ?_
          refine SoundR.appG (sound_ramWriteSmall ..) ?_
          exact SoundR.self _
        refine SoundR.app (sound_busErr ..) ?_
        exact h14
  · exact SoundR.self _

theorem sound_sendData (f : Frame) (cid : Nat) (i : Nat) (last : Bool) (s : State) : Sound s (sendData f cid i last s) := by
  unfold sendData
  refine SoundR.intro ?_
  extract_lets +onlyGivenNames x1
  have h2 : SoundR Prod.snd s x1 := by
    unfold x1
    refine SoundR.appG (sound_bufGet ..) ?_
    exact SoundR.self _
  clear_value x1
  refine SoundR.app (sound_chainSend ..) ?_
  exact h2

theorem sound_sendReq (r : Req) (flag : Bool) (s : State) : Sound s (sendReq r flag s) := by
  unfold sendReq
  refine SoundR.intro ?_
  extract_lets +onlyGivenNames x1
  clear_value x1
  extract_lets +onlyGivenNames x2
  clear_value x2
  extract_lets +onlyGivenNames x3
  have h4 : SoundR id s x3 := by
    unfold x3
    refine SoundR.app (sound_chainSend ..) ?_
    exact SoundR.self _
  clear_value x3
  refine SoundR.ite ?_ ?_
  · split
    · rename_i v5 v6 v7
      extract_lets +onlyGivenNames x8
      clear_value x8
      refine SoundR.foldl _ ?_ ?_
      · intro a9 a10
        refine SoundR.app (sound_sendData ..) ?_
        exact SoundR.self _
      · exact h4
    · rename_i v11 v12
      exact h4
  · exact h4

theorem sound_startReq (q : Plan) (s : State) : Sound s (startReq q s) := by
  unfold startReq
  refine SoundR.intro ?_
  split
  · rename_i v1 v2 v3 v4 v5 v6 v7
    have h8 : SoundR id s v5 := by
      refine SoundR.of2 v7 ?_
      refine SoundR.appG (sound_poolReserve ..) ?_
      exact SoundR.self _
    extract_lets +onlyGivenNames x9
    clear_value x9
    extract_lets +onlyGivenNames x10
    clear_value x10
    extract_lets +onlyGivenNames x11
    clear_value x11
    extract_lets +onlyGivenNames x12
    clear_value x12
    extract_lets +onlyGivenNames x13
    clear_value x13
    extract_lets +onlyGivenNames x14
    have h15 : SoundR id s x14 := by
      unfold x14
      refine SoundR.mk' rfl ?_
      exact h8
    clear_value x14
    refine SoundR.app (sound_sendReq ..) ?_
    refine SoundR.app (sound_set ..) ?_
    exact h15
  · rename_i v16 v17 v18
    refine SoundR.mk' rfl ?_
    exact SoundR.self _

theorem sound_msgResult (handle code cid : Nat) (s : State) : Sound s (msgResult handle code cid s) := by
  unfold msgResult
  refine SoundR.intro ?_
  extract_lets +onlyGivenNames x1
  clear_value x1
  extract_lets +onlyGivenNames x2
  have h3 : SoundR id s x2 := by
    unfold x2
    refine SoundR.ite ?_ ?_
    · refine SoundR.mk' rfl ?_
      exact SoundR.self _
    · exact SoundR.self _
  clear_value x2
  refine SoundR.app (sound_xEvent ..) ?_
  exact h3

theorem sound_msgEnd (m : MsgOut) (code : Nat) (s : State) : Sound s (msgEnd m code s) := by
  unfold msgEnd
  refine SoundR.intro ?_
  extract_lets +onlyGivenNames x1
  clear_value x1
  extract_lets +onlyGivenNames x2
  clear_value x2
  extract_lets +onlyGivenNames x3
  have h4 : SoundR id s x3 := by
    unfold x3
    refine SoundR.mk' rfl ?_
    exact SoundR.self _
  clear_value x3
  extract_lets +onlyGivenNames x5
  have h6 : SoundR id s x5 := by
    unfold x5
    refine SoundR.ite ?_ ?_
    · refine SoundR.app (sound_moveAll ..) ?_
      exact h4
    · refine SoundR.app (sound_moveAll ..) ?_
      exact h4
  clear_value x5
  refine SoundR.app (sound_msgResult ..) ?_
  exact h6

theorem sound_endReq (i : Nat) (res : Except Nat DWord) (s : State) : Sound s (endReq i res s) := by
  unfold endReq
  refine SoundR.intro ?_
  split
  · rename_i v1 v2
    exact SoundR.self _
  · rename_i v3 v4 v5
    extract_lets +onlyGivenNames x6
    clear_value x6
    extract_lets +onlyGivenNames x7
    have h8 : SoundR id s x7 := by
      unfold x7
      refine SoundR.mk' rfl ?_
      exact SoundR.self _
    clear_value x7
    extract_lets +onlyGivenNames x9
    have h10 : SoundR id s x9 := by
      unfold x9
      refine SoundR.app (sound_poolRelease ..) ?_
      refine SoundR.app (sound_set ..) ?_
      exact h8
    clear_value x9
    extract_lets +onlyGivenNames x11
    clear_value x11
    extract_lets +onlyGivenNames x12
    extract_lets +onlyGivenNames x13
    have h14 : SoundR id s x13 := by
      unfold x13
      refine SoundR.ite ?_ ?_
      · split
        · rename_i v15 v16 v17
          refine SoundR.app (sound_msgEnd ..) ?_
          exact h10
        · rename_i v18 v19
          exact h10
      · split
        · rename_i v20 v21
          refine SoundR.mk' rfl ?_
          exact h10
        · rename_i v22 v23
          extract_lets +onlyGivenNames x24
          have h25 : SoundR id s x24 := by
            unfold x24
            refine SoundR.app (sound_txErr ..) ?_
            exact h10
          clear_value x24
          extract_lets +onlyGivenNames x26
          have h27 : SoundR id s x26 := by
            unfold x26
            refine SoundR.app (sound_busErr ..) ?_
            exact h25
          clear_value x26
          refine SoundR.mk' rfl ?_
          exact h27
    clear_value x13
    split
    · rename_i v28 v29
      exact h14
    · rename_i v30 v31 v32 v33
      refine SoundR.app (sound_startReq ..) ?_
      refine SoundR.mk' rfl ?_
      exact h14

theorem sound_staleResp (s : State) : Sound s (staleResp s) := by
  unfold staleResp
  refine SoundR.intro ?_
  refine SoundR.app (sound_count ..) ?_
  exact SoundR.self _

theorem sound_remoteAnswer (r : Req) (res : Nat) (s : State) : Sound s (remoteAnswer r res s) := by
  unfold remoteAnswer
  refine SoundR.intro ?_
  extract_lets +onlyGivenNames x1
  clear_value x1
  extract_lets +onlyGivenNames x2
  clear_value x2
  refine SoundR.ite ?_ ?_
  · refine SoundR.ite ?_ ?_
    · refine SoundR.app (sound_remoteResult ..) ?_
      refine SoundR.app (sound_semLog ..) ?_
      exact SoundR.self _
    · refine SoundR.app (sound_remoteResult ..) ?_
      exact SoundR.self _
  · refine SoundR.ite ?_ ?_
    · refine SoundR.app (sound_remoteNote ..) ?_
      exact SoundR.self _
    · refine SoundR.app (sound_remoteResult ..) ?_
      exact SoundR.self _

theorem sound_onResponse (f : Frame) (s : State) : Sound s (onResponse f s) := by
  unfold onResponse
  refine SoundR.intro ?_
  split
  · rename_i v1 v2
    refine SoundR.app (sound_staleResp ..) ?_
    exact SoundR.self _
  · rename_i v3 v4 v5
    refine SoundR.ite ?_ ?_
    · refine SoundR.app (sound_staleResp ..) ?_
      exact SoundR.self _
    · extract_lets +onlyGivenNames x6
      clear_value x6
      extract_lets +onlyGivenNames x7
      have h8 : SoundR id s x7 := by
        unfold x7
        refine SoundR.app (sound_bufPut ..) ?_
        exact SoundR.self _
      clear_value x7
      refine SoundR.ite ?_ ?_
      · refine SoundR.app (sound_endReq ..) ?_
        exact h8
      · refine SoundR.ite ?_ ?_
        · refine SoundR.app (sound_remoteAnswer ..) ?_
          refine SoundR.app (sound_endReq ..) ?_
          exact h8
        · refine SoundR.app (sound_endReq ..) ?_
          exact h8

theorem sound_respTimeout (i : Nat) (s : State) : Sound s (respTimeout i s) := by
  unfold respTimeout
  refine SoundR.intro ?_
  split
  · rename_i v1 v2
    exact SoundR.self _
  · rename_i v3 v4 v5
    refine SoundR.ite ?_ ?_
    · exact SoundR.self _
    · refine SoundR.ite ?_ ?_
      · refine SoundR.app (sound_endReq ..) ?_
        exact SoundR.self _
      · extract_lets +onlyGivenNames x6
        clear_value x6
        refine SoundR.app (sound_sendReq ..) ?_
        refine SoundR.mk' rfl ?_
        exact SoundR.self _

theorem sound_hostTimeout (tag : Nat) (s : State) : Sound s (hostTimeout tag s) := by
  unfold hostTimeout
  refine SoundR.intro ?_
  split
  · rename_i v1 v2
    exact SoundR.self _
  · rename_i v3 v4 v5
    extract_lets +onlyGivenNames x6
    clear_value x6
    refine SoundR.ite ?_ ?_
    · exact SoundR.self _
    · refine SoundR.ite ?_ ?_
      · refine SoundR.app (sound_hostPut ..) ?_
        refine SoundR.mk' rfl ?_
        exact SoundR.self _
      · refine SoundR.app (sound_chainSend ..) ?_
        refine SoundR.mk' rfl ?_
        exact SoundR.self _

theorem sound_endRequestsTo (n : Nat) (s : State) : Sound s (endRequestsTo n s) := by
  unfold endRequestsTo
  refine SoundR.intro ?_
  extract_lets +onlyGivenNames x1
  have h2 : SoundR id s x1 := by
    unfold x1
    refine SoundR.forEach _ ?_ ?_
    · intro a3 a4
      split
      · rename_i v5 v6 v7
        refine SoundR.ite ?_ ?_
        · refine SoundR.app (sound_endReq ..) ?_
          exact SoundR.self _
        · exact SoundR.self _
      · rename_i v8 v9
        exact SoundR.self _
    · exact SoundR.self _
  clear_value x1
  refine SoundR.mk' rfl ?_
  exact h2

theorem sound_issuePlan (q : Plan) (s : State) : SoundR Prod.snd s (issuePlan q s) := by
  unfold issuePlan
  split
  · rename_i v1 v2 v3
    refine SoundR.mkSnd ?_
    refine SoundR.app (sound_txErr ..) ?_
    exact SoundR.self _
  · rename_i v4 v5
    refine SoundR.mkSnd ?_
    refine SoundR.app (sound_startReq ..) ?_
    exact SoundR.self _

theorem sound_issue (by_ : ReqBy) (cid n off kind cls typ : Nat) (data : List Byte) (s : State) : SoundR Prod.snd s (issue by_ cid n off kind cls typ data s) := by
  unfold issue
  refine SoundR.appG (sound_issuePlan ..) ?_
  exact SoundR.self _

theorem sound_takeWaiting (by_ : ReqBy) (cid n off : Nat) (s : State) : SoundR Prod.snd s (takeWaiting by_ cid n off s) := by
  unfold takeWaiting
  refine SoundR.appG (sound_issuePlan ..) ?_
  exact SoundR.self _

theorem sound_issued {s : State} {r : Bool × State} (h : SoundR Prod.snd s r) : SoundR Prod.snd s (issued r) := h

theorem sound_setStage (cid : Nat) (x : Option Stage) (s : State) : Sound s (setStage cid x s) := by
  unfold setStage
  refine SoundR.intro ?_
  extract_lets +onlyGivenNames x1
  clear_value x1
  refine SoundR.mk' rfl ?_
  exact SoundR.self _

theorem sound_stageStore (cid n m o size v : Nat) (s : State) : Sound s (stageStore cid n m o size v s) := by
  unfold stageStore
  refine SoundR.intro ?_
  extract_lets +onlyGivenNames x1
  clear_value x1
  extract_lets +onlyGivenNames x2
  clear_value x2
  extract_lets +onlyGivenNames x3
  have h4 : SoundR id s x3 := by
    unfold x3
    refine SoundR.ite ?_ ?_
    · exact SoundR.self _
    · refine SoundR.app (sound_set ..) ?_
      exact SoundR.self _
  clear_value x3
  extract_lets +onlyGivenNames x5
  clear_value x5
  extract_lets +onlyGivenNames x6
  clear_value x6
  refine SoundR.app (sound_setStage ..) ?_
  exact h4

theorem sound_remoteAccess (by_ : ReqBy) (cid : Nat) (write : Bool) (n off size v : Nat) (s : State) : SoundR Prod.snd s (remoteAccess by_ cid write n off size v s) := by
  unfold remoteAccess
  extract_lets +onlyGivenNames x1
  clear_value x1
  extract_lets +onlyGivenNames x2
  clear_value x2
  extract_lets +onlyGivenNames x3
  clear_value x3
  extract_lets +onlyGivenNames x4
  clear_value x4
  extract_lets +onlyGivenNames x5
  clear_value x5
  extract_lets +onlyGivenNames x6
  refine SoundR.ite ?_ ?_
  · refine SoundR.ite ?_ ?_
    · split
      · rename_i v7 v8
        unfold x6
        refine sound_issued ?_
        refine SoundR.appG (sound_issue ..) ?_
        exact SoundR.self _
      · rename_i v9 v10
        refine SoundR.ite ?_ ?_
        · refine sound_issued ?_
          refine SoundR.appG (sound_takeWaiting ..) ?_
          exact SoundR.self _
        · unfold x6
          refine sound_issued ?_
          refine SoundR.appG (sound_issue ..) ?_
          exact SoundR.self _
      · rename_i v11 v12
        unfold x6
        refine sound_issued ?_
        refine SoundR.appG (sound_issue ..) ?_
        exact SoundR.self _
      · rename_i v13 v14 v15 v16
        refine SoundR.mkSnd ?_
        exact SoundR.self _
    · unfold x6
      refine sound_issued ?_
      refine SoundR.appG (sound_issue ..) ?_
      exact SoundR.self _
  · refine SoundR.ite ?_ ?_
    · refine SoundR.mkSnd ?_
      refine SoundR.app (sound_stageStore ..) ?_
      exact SoundR.self _
    · refine SoundR.ite ?_ ?_
      · extract_lets +onlyGivenNames x17
        clear_value x17
        refine SoundR.ite ?_ ?_
        · refine SoundR.mkSnd ?_
          exact SoundR.self _
        · refine SoundR.ite ?_ ?_
          · refine SoundR.mkSnd ?_
            exact SoundR.self _
          · extract_lets +onlyGivenNames x18
            clear_value x18
            extract_lets +onlyGivenNames x19
            have h20 : SoundR Prod.snd s x19 := by
              unfold x19
              refine SoundR.appG (sound_issue ..) ?_
              exact SoundR.self _
            clear_value x19
            refine sound_issued ?_
            refine SoundR.mkSnd ?_
            refine SoundR.ite ?_ ?_
            · refine SoundR.app (sound_setStage ..) ?_
              exact h20
            · exact h20
      · refine SoundR.ite ?_ ?_
        · refine sound_issued ?_
          refine SoundR.appG (sound_issue ..) ?_
          exact SoundR.self _
        · refine sound_issued ?_
          refine SoundR.appG (sound_issue ..) ?_
          exact SoundR.self _

theorem sound_broadcastWrite (cid off size v : Nat) (s : State) : SoundR Prod.snd s (broadcastWrite cid off size v s) := by
  unfold broadcastWrite
  refine SoundR.ite ?_ ?_
  · refine SoundR.mkSnd ?_
    refine SoundR.app (sound_txErr ..) ?_
    exact SoundR.self _
  · extract_lets +onlyGivenNames x1
    clear_value x1
    refine SoundR.mkSnd ?_
    refine SoundR.app (sound_chainSend ..) ?_
    exact SoundR.self _

theorem sound_replyKept (f r : Frame) (s : State) : Sound s (replyKept f r s) := by
  unfold replyKept
  refine SoundR.intro ?_
  extract_lets +onlyGivenNames x1
  clear_value x1
  refine SoundR.app (sound_chainSend ..) ?_
  refine SoundR.mk' rfl ?_
  exact SoundR.self _

theorem sound_portB (who : Who) (write : Bool) (off size v : Nat) (s : State) : SoundR Prod.snd s (portB who write off size v s) := by
  unfold portB
  refine SoundR.appG (sound_windowAccess ..) ?_
  exact SoundR.self _

theorem sound_frameWho (cid : Nat) (f : Frame) (s : State) : SoundR Prod.snd s (frameWho cid f s) := by
  unfold frameWho
  refine SoundR.ite ?_ ?_
  · extract_lets +onlyGivenNames x1
    have h2 : SoundR Prod.snd s x1 := by
      unfold x1
      refine SoundR.appG (sound_draw ..) ?_
      exact SoundR.self _
    clear_value x1
    refine SoundR.mkSnd ?_
    exact h2
  · refine SoundR.mkSnd ?_
    exact SoundR.self _

theorem sound_onRd (f : Frame) (s : State) : Sound s (onRd f s) := by
  unfold onRd
  refine SoundR.intro ?_
  refine SoundR.ite ?_ ?_
  · refine SoundR.app (sound_chainSend ..) ?_
    exact SoundR.self _
  · extract_lets +onlyGivenNames x1
    clear_value x1
    extract_lets +onlyGivenNames x2
    clear_value x2
    refine SoundR.ite ?_ ?_
    · refine SoundR.app (sound_chainSend ..) ?_
      exact SoundR.self _
    · refine SoundR.ite ?_ ?_
      · refine SoundR.app (sound_chainSend ..) ?_
        exact SoundR.self _
      · extract_lets +onlyGivenNames x3
        have h4 : SoundR Prod.snd s x3 := by
          unfold x3
          refine SoundR.appG (sound_frameWho ..) ?_
          exact SoundR.self _
        clear_value x3
        split
        · rename_i v5 v6 v7 v8
          have h9 : SoundR id s v7 := by
            refine SoundR.of2 v8 ?_
            refine SoundR.appG (sound_portB ..) ?_
            exact h4
          refine SoundR.app (sound_chainSend ..) ?_
          exact h9
        · rename_i v10 v11 v12 v13
          have h14 : SoundR id s v12 := by
            refine SoundR.of2 v13 ?_
            refine SoundR.appG (sound_portB ..) ?_
            exact h4
          refine SoundR.app (sound_chainSend ..) ?_
          exact h14

theorem sound_onWr (f : Frame) (s : State) : Sound s (onWr f s) := by
  unfold onWr
  refine SoundR.intro ?_
  extract_lets +onlyGivenNames x1
  clear_value x1
  extract_lets +onlyGivenNames x2
  refine SoundR.ite ?_ ?_
  · unfold x2
    refine SoundR.ite ?_ ?_
    · exact SoundR.self _
    · refine SoundR.app (sound_chainSend ..) ?_
      exact SoundR.self _
  · extract_lets +onlyGivenNames x3
    clear_value x3
    extract_lets +onlyGivenNames x4
    clear_value x4
    refine SoundR.ite ?_ ?_
    · unfold x2
      refine SoundR.ite ?_ ?_
      · exact SoundR.self _
      · refine SoundR.app (sound_chainSend ..) ?_
        exact SoundR.self _
    · refine SoundR.ite ?_ ?_
      · unfold x2
        refine SoundR.ite ?_ ?_
        · exact SoundR.self _
        · refine SoundR.app (sound_chainSend ..) ?_
          exact SoundR.self _
      · extract_lets +onlyGivenNames x5
        have h6 : SoundR Prod.snd s x5 := by
          unfold x5
          refine SoundR.appG (sound_frameWho ..) ?_
          exact SoundR.self _
        clear_value x5
        split
        · rename_i v7 v8 v9 v10
          have h11 : SoundR id s v9 := by
            refine SoundR.of2 v10 ?_
            refine SoundR.appG (sound_portB ..) ?_
            exact h6
          unfold x2
          refine SoundR.ite ?_ ?_
          · exact h11
          · refine SoundR.app (sound_chainSend ..) ?_
            exact h11
        · rename_i v12 v13 v14 v15
          have h16 : SoundR id s v14 := by
            refine SoundR.of2 v15 ?_
            refine SoundR.appG (sound_portB ..) ?_
            exact h6
          unfold x2
          refine SoundR.ite ?_ ?_
          · exact h16
          · refine SoundR.app (sound_chainSend ..) ?_
            exact h16

theorem sound_semReply {f : Frame} {s : State} {r : Option Nat × Word × State} (h : SoundR thd s r) : SoundR id s (semReply f r) := by
  unfold semReply
  exact SoundR.app (sound_replyKept ..) (SoundR.ofThd h)

theorem sound_onSemop (f : Frame) (s : State) : Sound s (onSemop f s) := by
  unfold onSemop
  refine SoundR.intro ?_
  refine SoundR.ite ?_ ?_
  · refine SoundR.app (sound_chainSend ..) ?_
    exact SoundR.self _
  · split
    · rename_i v1 v2 v3
      refine SoundR.app (sound_chainSend ..) ?_
      exact SoundR.self _
    · rename_i v4 v5
      extract_lets +onlyGivenNames x6
      clear_value x6
      extract_lets +onlyGivenNames x7
      clear_value x7
      extract_lets +onlyGivenNames x8
      clear_value x8
      refine SoundR.ite ?_ ?_
      · refine SoundR.app (sound_replyKept ..) ?_
        exact SoundR.self _
      · refine SoundR.ite ?_ ?_
        · refine SoundR.app (sound_replyKept ..) ?_
          exact SoundR.self _
        · extract_lets +onlyGivenNames x9
          clear_value x9
          split
          · rename_i v10 v11 v12
            refine SoundR.app (sound_replyKept ..) ?_
            refine SoundR.app (sound_busErr ..) ?_
            exact SoundR.self _
          · rename_i v13 v14 v15
            extract_lets +onlyGivenNames x16
            clear_value x16
            refine sound_semReply ?_
            refine SoundR.appG (sound_semOp ..) ?_
            exact SoundR.self _

theorem sound_mailboxPostB (who : Who) (m data ocid : Nat) (ws : List Nat) (s : State) :
    SoundR Prod.snd s (mailboxPostB who m data ocid ws s) := by
  unfold mailboxPostB
  extract_lets +onlyGivenNames off
  split
  · exact SoundR.mkSnd (SoundR.self s)
  · have hb : SoundR id s (bellServed who.cid s) := SoundR.mk' rfl (SoundR.self s)
    extract_lets +onlyGivenNames t
    have ht : SoundR id s t := hb
    clear_value t
    refine SoundR.ite (SoundR.mkSnd (SoundR.app (sound_bellOvr ..) ht)) ?_
    extract_lets +onlyGivenNames step
    have hs : ∀ p x, SoundR Prod.snd p.2 (step p x) := by
      rintro ⟨a, t⟩ x
      cases a with
      | refused c => exact SoundR.mkSnd (SoundR.self t)
      | ok d => exact sound_ramWrite ..
    have h : SoundR Prod.snd s (ws.zipIdx.foldl step (.ok 0#64, t)) := SoundR.fold _ hs (SoundR.mkSnd ht)
    clear_value step
    generalize ws.zipIdx.foldl step (.ok 0#64, t) = r at h
    obtain ⟨a, t⟩ := r
    cases a with
    | refused c => exact h
    | ok d => exact SoundR.mkSnd (SoundR.app (sound_bellSet ..) h)

theorem sound_onMbxpost (f : Frame) (s : State) : Sound s (onMbxpost f s) := by
  unfold onMbxpost
  refine SoundR.intro ?_
  refine SoundR.ite ?_ ?_
  · refine SoundR.app (sound_chainSend ..) ?_
    exact SoundR.self _
  · split
    · rename_i v1 v2 v3
      refine SoundR.app (sound_chainSend ..) ?_
      exact SoundR.self _
    · rename_i v4 v5
      extract_lets +onlyGivenNames x6
      clear_value x6
      extract_lets +onlyGivenNames x7
      clear_value x7
      refine SoundR.ite ?_ ?_
      · refine SoundR.app (sound_replyKept ..) ?_
        exact SoundR.self _
      · split
        · rename_i v8 v9 v10 v11
          have h12 : SoundR id s v10 := by
            refine SoundR.of2 v11 ?_
            refine SoundR.appG (sound_mailboxPostB ..) ?_
            exact SoundR.self _
          refine SoundR.app (sound_replyKept ..) ?_
          exact h12
        · rename_i v13 v14 v15 v16
          have h17 : SoundR id s v15 := by
            refine SoundR.of2 v16 ?_
            refine SoundR.appG (sound_mailboxPostB ..) ?_
            exact SoundR.self _
          refine SoundR.app (sound_replyKept ..) ?_
          refine SoundR.app (sound_busErr ..) ?_
          exact h17

theorem sound_onSemevt (f : Frame) (s : State) : Sound s (onSemevt f s) := by
  unfold onSemevt
  refine SoundR.intro ?_
  extract_lets +onlyGivenNames x1
  clear_value x1
  extract_lets +onlyGivenNames x2
  clear_value x2
  extract_lets +onlyGivenNames x3
  have h4 : SoundR id s x3 := by
    unfold x3
    refine SoundR.mk' rfl ?_
    exact SoundR.self _
  clear_value x3
  extract_lets +onlyGivenNames x5
  have h6 : SoundR id s x5 := by
    unfold x5
    refine SoundR.ite ?_ ?_
    · exact SoundR.self _
    · refine SoundR.app (sound_remoteResult ..) ?_
      exact h4
  clear_value x5
  refine SoundR.app (sound_chainSend ..) ?_
  exact h6

theorem sound_onSemack (f : Frame) (s : State) : Sound s (onSemack f s) := by
  unfold onSemack
  refine SoundR.intro ?_
  refine SoundR.mk' rfl ?_
  exact SoundR.self _

theorem sound_semevtTimeout (dst tag : Nat) (s : State) : Sound s (semevtTimeout dst tag s) := by
  unfold semevtTimeout
  refine SoundR.intro ?_
  split
  · rename_i v1 v2
    exact SoundR.self _
  · rename_i v3 v4 v5
    refine SoundR.ite ?_ ?_
    · exact SoundR.self _
    · refine SoundR.ite ?_ ?_
      · extract_lets +onlyGivenNames x6
        clear_value x6
        extract_lets +onlyGivenNames x7
        have h8 : SoundR id s x7 := by
          unfold x7
          refine SoundR.mk' rfl ?_
          exact SoundR.self _
        clear_value x7
        refine SoundR.ite ?_ ?_
        · refine SoundR.app (sound_semOrphanGive ..) ?_
          exact h8
        · exact h8
      · extract_lets +onlyGivenNames x9
        clear_value x9
        extract_lets +onlyGivenNames x10
        have h11 : SoundR id s x10 := by
          unfold x10
          refine SoundR.mk' rfl ?_
          exact SoundR.self _
        clear_value x10
        refine SoundR.app (sound_chainSend ..) ?_
        exact h11

theorem sound_onPinote (f : Frame) (s : State) : Sound s (onPinote f s) := by
  unfold onPinote
  refine SoundR.intro ?_
  refine SoundR.app (sound_pinote ..) ?_
  exact SoundR.self _

theorem sound_reclaimAt (op : Byte) (cid u k : Nat) (s : State) : Sound s (reclaimAt op cid u k s) := by
  unfold reclaimAt
  refine SoundR.intro ?_
  split
  rename_i v1 v2 v3 v4
  have h5 : SoundR id s v3 := by
    refine SoundR.of2 v4 ?_
    refine SoundR.appG (sound_issue ..) ?_
    exact SoundR.self _
  exact h5

theorem sound_reclaimCid (cid : Nat) (s : State) : Sound s (reclaimCid cid s) := by
  unfold reclaimCid
  refine SoundR.intro ?_
  extract_lets +onlyGivenNames x1
  have h2 : SoundR id s x1 := by
    unfold x1
    split
    · rename_i v3 v4 v5 v6
      refine SoundR.app (sound_reclaimAt ..) ?_
      exact SoundR.self _
    · rename_i v7 v8
      exact SoundR.self _
  clear_value x1
  extract_lets +onlyGivenNames x9
  clear_value x9
  refine SoundR.app (sound_semReclaim ..) ?_
  refine SoundR.foldl _ ?_ ?_
  · intro a10 a11
    refine SoundR.app (sound_reclaimAt ..) ?_
    exact SoundR.self _
  · exact h2

theorem sound_msgSend (cid : Nat) (w : Word) (s : State) : Sound s (msgSend cid w s) := by
  unfold msgSend
  refine SoundR.intro ?_
  extract_lets +onlyGivenNames x1
  clear_value x1
  extract_lets +onlyGivenNames x2
  clear_value x2
  extract_lets +onlyGivenNames x3
  clear_value x3
  split
  · rename_i v4 v5 v6
    have h7 : SoundR id s v5 := by
      refine SoundR.of2 v6 ?_
      refine SoundR.appG (sound_poolTransit ..) ?_
      exact SoundR.self _
    exact h7
  · rename_i v8 v9 v10
    have h11 : SoundR id s v9 := by
      refine SoundR.of2 v10 ?_
      refine SoundR.appG (sound_poolTransit ..) ?_
      exact SoundR.self _
    extract_lets +onlyGivenNames x12
    clear_value x12
    extract_lets +onlyGivenNames x13
    clear_value x13
    extract_lets +onlyGivenNames x14
    have h15 : SoundR id s x14 := by
      unfold x14
      refine SoundR.mk' rfl ?_
      exact h11
    clear_value x14
    split
    · rename_i v16 v17 v18
      refine SoundR.app (sound_msgEnd ..) ?_
      exact h15
    · rename_i v19 v20
      extract_lets +onlyGivenNames x21
      clear_value x21
      refine SoundR.app (sound_startReq ..) ?_
      exact h15

theorem sound_takeBuf (p : List Nat × State) : SoundR Prod.snd p.2 (takeBuf p) := by
  unfold takeBuf
  split
  · exact Sound.refl _
  · refine SoundR.mkSnd ?_
    refine SoundR.app (sound_setBuf ..) ?_
    exact SoundR.self _

theorem sound_takeBufs (n : Nat) (s : State) : SoundR Prod.snd s (takeBufs n s) := by
  unfold takeBufs
  exact SoundR.fold _ (fun p _ => sound_takeBuf p) (SoundR.mkSnd (SoundR.self s))

theorem sound_unhold (f : Frame) (s : State) : Sound s (unhold f s) := by
  unfold unhold
  refine SoundR.intro ?_
  refine SoundR.mk' rfl ?_
  exact SoundR.self _

theorem sound_msgTake (p : Nat) (x : Slot) (s : State) : Sound s (msgTake p x s) := by
  unfold msgTake
  refine SoundR.intro ?_
  extract_lets +onlyGivenNames x1
  clear_value x1
  refine SoundR.ite ?_ ?_
  · extract_lets +onlyGivenNames x2
    clear_value x2
    extract_lets +onlyGivenNames x3
    have h4 : SoundR Prod.snd s x3 := by
      unfold x3
      refine SoundR.appG (sound_takeBufs ..) ?_
      refine SoundR.app (sound_slotDone ..) ?_
      refine SoundR.app (sound_unhold ..) ?_
      exact SoundR.self _
    clear_value x3
    extract_lets +onlyGivenNames x5
    have h6 : SoundR id s x5 := by
      unfold x5
      refine SoundR.app (sound_poolLevels ..) ?_
      exact h4
    clear_value x5
    refine SoundR.mk' rfl ?_
    exact h6
  · refine SoundR.ite ?_ ?_
    · exact SoundR.self _
    · refine SoundR.mk' rfl ?_
      exact SoundR.self _

theorem sound_msgAllocate (p : Nat) (s : State) : Sound s (msgAllocate p s) := by
  unfold msgAllocate
  refine SoundR.intro ?_
  split
  · rename_i v1 v2
    exact SoundR.self _
  · rename_i v3 v4 v5
    refine SoundR.ite ?_ ?_
    · refine SoundR.app (sound_msgTake ..) ?_
      exact SoundR.self _
    · exact SoundR.self _

theorem sound_msgDrop (m : MsgIn) (s : State) : Sound s (msgDrop m s) := by
  unfold msgDrop
  refine SoundR.intro ?_
  refine SoundR.app (sound_moveAll ..) ?_
  refine SoundR.mk' rfl ?_
  exact SoundR.self _

theorem sound_onMstart (p : Nat) (s : State) : Sound s (onMstart p s) := by
  unfold onMstart
  refine SoundR.intro ?_
  split
  · rename_i v1 v2
    exact SoundR.self _
  · rename_i v3 v4 v5
    refine SoundR.ite ?_ ?_
    · refine SoundR.app (sound_chainSend ..) ?_
      refine SoundR.app (sound_slotDone ..) ?_
      exact SoundR.self _
    · split
      · rename_i v6 v7 v8
        refine SoundR.app (sound_chainSend ..) ?_
        refine SoundR.app (sound_slotDone ..) ?_
        exact SoundR.self _
      · rename_i v9 v10
        extract_lets +onlyGivenNames x11
        have h12 : SoundR id s x11 := by
          unfold x11
          split
          · rename_i v13 v14 v15
            refine SoundR.app (sound_msgDrop ..) ?_
            exact SoundR.self _
          · rename_i v16 v17
            exact SoundR.self _
        clear_value x11
        refine SoundR.app (sound_msgTake ..) ?_
        exact h12

theorem sound_msgPost (m : MsgIn) (f : Frame) (s : State) : Sound s (msgPost m f s) := by
  unfold msgPost
  refine SoundR.intro ?_
  extract_lets +onlyGivenNames x1
  clear_value x1
  refine SoundR.ite ?_ ?_
  · refine SoundR.app (sound_replyKept ..) ?_
    refine SoundR.app (sound_msgDrop ..) ?_
    exact SoundR.self _
  · refine SoundR.ite ?_ ?_
    · refine SoundR.app (sound_replyKept ..) ?_
      refine SoundR.app (sound_bellOvr ..) ?_
      refine SoundR.app (sound_msgDrop ..) ?_
      exact SoundR.self _
    · extract_lets +onlyGivenNames x2
      clear_value x2
      extract_lets +onlyGivenNames x3
      have h4 : SoundR id s x3 := by
        unfold x3
        refine SoundR.mk' rfl ?_
        exact SoundR.self _
      clear_value x3
      extract_lets +onlyGivenNames x5
      have h6 : SoundR id s x5 := by
        unfold x5
        refine SoundR.foldl _ ?_ ?_
        · intro a7 a8
          refine SoundR.app (sound_setBuf ..) ?_
          exact SoundR.self _
        · exact h4
      clear_value x5
      extract_lets +onlyGivenNames x9
      have h10 : SoundR id s x9 := by
        unfold x9
        refine SoundR.app (sound_moveAll ..) ?_
        exact h6
      clear_value x9
      refine SoundR.app (sound_replyKept ..) ?_
      refine SoundR.app (sound_bellSet ..) ?_
      refine SoundR.app (sound_bellServed ..) ?_
      exact h10

theorem sound_onMdata (f : Frame) (s : State) : Sound s (onMdata f s) := by
  unfold onMdata
  refine SoundR.intro ?_
  split
  · rename_i v1 v2
    exact SoundR.self _
  · rename_i v3 v4 v5
    split
    · rename_i v6 v7
      exact SoundR.self _
    · rename_i v8 v9 v10
      extract_lets +onlyGivenNames x11
      clear_value x11
      extract_lets +onlyGivenNames x12
      clear_value x12
      extract_lets +onlyGivenNames x13
      have h14 : SoundR id s x13 := by
        unfold x13
        refine SoundR.app (sound_bufPut ..) ?_
        refine SoundR.mk' rfl ?_
        exact SoundR.self _
      clear_value x13
      refine SoundR.ite ?_ ?_
      · refine SoundR.app (sound_msgPost ..) ?_
        exact h14
      · exact h14

theorem sound_msgtoHeld (p : Nat) (s : State) : Sound s (msgtoHeld p s) := by
  unfold msgtoHeld
  refine SoundR.intro ?_
  split
  · rename_i v1 v2
    exact SoundR.self _
  · rename_i v3 v4 v5
    refine SoundR.ite ?_ ?_
    · refine SoundR.app (sound_replyKept ..) ?_
      refine SoundR.app (sound_slotDone ..) ?_
      refine SoundR.app (sound_unhold ..) ?_
      exact SoundR.self _
    · exact SoundR.self _

theorem sound_msgtoAssembly (src tag : Nat) (s : State) : Sound s (msgtoAssembly src tag s) := by
  unfold msgtoAssembly
  refine SoundR.intro ?_
  split
  · rename_i v1 v2
    exact SoundR.self _
  · rename_i v3 v4 v5
    refine SoundR.ite ?_ ?_
    · exact SoundR.self _
    · extract_lets +onlyGivenNames x6
      clear_value x6
      refine SoundR.app (sound_replyKept ..) ?_
      refine SoundR.app (sound_msgDrop ..) ?_
      exact SoundR.self _

theorem sound_msgresRead (s : State) : SoundR Prod.snd s (msgresRead s) := by
  unfold msgresRead
  split
  · rename_i v1 v2
    refine SoundR.mkSnd ?_
    exact SoundR.self _
  · rename_i v3 v4 v5 v6
    refine SoundR.mkSnd ?_
    refine SoundR.mk' rfl ?_
    exact SoundR.self _

theorem sound_sendHello (p : Fin 2) (s : State) : Sound s (sendHello p s) := by
  unfold sendHello
  refine SoundR.intro ?_
  refine SoundR.app (sound_chainSendOn ..) ?_
  exact SoundR.self _

theorem sound_withHello {op : State → State} {s : State} (hf : ∀ t, SoundR id t (op t)) : Sound s (withHello op s) := by
  unfold withHello
  refine SoundR.intro ?_
  extract_lets +onlyGivenNames x1
  clear_value x1
  extract_lets +onlyGivenNames x2
  have h3 : SoundR id s x2 := by
    unfold x2
    refine SoundR.app (sound_idPage ..) ?_
    refine SoundR.app (hf ..) ?_
    exact SoundR.self _
  clear_value x2
  refine SoundR.ite ?_ ?_
  · exact h3
  · refine SoundR.app (sound_sendHello ..) ?_
    refine SoundR.app (sound_sendHello ..) ?_
    exact h3

theorem sound_declareLost (a : Nat) (s : State) : Sound s (declareLost a s) := by
  unfold declareLost
  refine SoundR.intro ?_
  extract_lets +onlyGivenNames x1
  have h2 : SoundR id s x1 := by
    unfold x1
    refine SoundR.app (sound_setMap64 ..) ?_
    exact SoundR.self _
  clear_value x1
  extract_lets +onlyGivenNames x3
  clear_value x3
  extract_lets +onlyGivenNames x4
  have h5 : SoundR id s x4 := by
    unfold x4
    refine SoundR.mk' rfl ?_
    exact h2
  clear_value x4
  refine SoundR.app (sound_endRequestsTo ..) ?_
  refine SoundR.app (sound_semUnitGone ..) ?_
  refine SoundR.app (sound_chnEvent ..) ?_
  exact h5

theorem sound_reachUpdate (s : State) : Sound s (reachUpdate s) := by
  unfold reachUpdate
  refine SoundR.intro ?_
  extract_lets +onlyGivenNames x1
  clear_value x1
  extract_lets +onlyGivenNames x2
  clear_value x2
  extract_lets +onlyGivenNames x3
  clear_value x3
  extract_lets +onlyGivenNames x4
  have h5 : SoundR id s x4 := by
    unfold x4
    refine SoundR.app (sound_setMap64 ..) ?_
    exact SoundR.self _
  clear_value x4
  refine SoundR.forEach _ ?_ ?_
  · intro a6 a7
    refine SoundR.ite ?_ ?_
    · refine SoundR.ite ?_ ?_
      · refine SoundR.app (sound_chnEvent ..) ?_
        refine SoundR.mk' rfl ?_
        exact SoundR.self _
      · exact SoundR.self _
    · refine SoundR.ite ?_ ?_
      · extract_lets +onlyGivenNames x8
        clear_value x8
        extract_lets +onlyGivenNames x9
        have h10 : SoundR id a7 x9 := by
          unfold x9
          refine SoundR.mk' rfl ?_
          exact SoundR.self _
        refine SoundR.ite ?_ ?_
        · refine SoundR.app (sound_declareLost ..) ?_
          exact h10
        · exact h10
      · exact SoundR.self _
  · exact h5

theorem sound_unitLost (a : Nat) (s : State) : Sound s (unitLost a s) := by
  unfold unitLost
  refine SoundR.intro ?_
  refine SoundR.ite ?_ ?_
  · refine SoundR.app (sound_declareLost ..) ?_
    exact SoundR.self _
  · exact SoundR.self _

theorem sound_loseAll (s : State) : Sound s (loseAll s) := by
  unfold loseAll
  refine SoundR.intro ?_
  extract_lets +onlyGivenNames x1
  clear_value x1
  extract_lets +onlyGivenNames x2
  have h3 : SoundR id s x2 := by
    unfold x2
    refine SoundR.app (sound_reachUpdate ..) ?_
    refine SoundR.app (sound_setMap64 ..) ?_
    exact SoundR.self _
  clear_value x2
  refine SoundR.foldl _ ?_ ?_
  · intro a4 a5
    refine SoundR.ite ?_ ?_
    · refine SoundR.app (sound_declareLost ..) ?_
      exact SoundR.self _
    · exact SoundR.self _
  · exact h3

theorem sound_setLive (m : Nat) (s : State) : Sound s (setLive m s) := by
  unfold setLive
  refine SoundR.intro ?_
  refine SoundR.app (sound_reachUpdate ..) ?_
  refine SoundR.app (sound_setMap64 ..) ?_
  exact SoundR.self _

theorem sound_setUpmap (m : Nat) (s : State) : Sound s (setUpmap m s) := by
  unfold setUpmap
  refine SoundR.intro ?_
  refine SoundR.app (sound_setMap64 ..) ?_
  exact SoundR.self _

theorem sound_setAddr (a : Nat) (s : State) : Sound s (setAddr a s) := by
  unfold setAddr
  refine SoundR.intro ?_
  extract_lets +onlyGivenNames x1
  have h2 : SoundR id s x1 := by
    unfold x1
    refine SoundR.app (sound_setB ..) ?_
    refine SoundR.app (sound_set ..) ?_
    exact SoundR.self _
  clear_value x1
  extract_lets +onlyGivenNames x3
  have h4 : SoundR id s x3 := by
    unfold x3
    refine SoundR.app (sound_setUpmap ..) ?_
    exact h2
  clear_value x3
  extract_lets +onlyGivenNames x5
  have h6 : SoundR id s x5 := by
    unfold x5
    refine SoundR.ite ?_ ?_
    · refine SoundR.app (sound_setLive ..) ?_
      exact h4
    · refine SoundR.app (sound_reachUpdate ..) ?_
      exact h4
  clear_value x5
  refine SoundR.ite ?_ ?_
  · exact h6
  · refine SoundR.app (sound_chnEvent ..) ?_
    exact h6

theorem sound_setOrphan (v : Bool) (s : State) : Sound s (setOrphan v s) := by
  unfold setOrphan
  refine SoundR.intro ?_
  refine SoundR.ite ?_ ?_
  · exact SoundR.self _
  · refine SoundR.app (sound_polSet ..) ?_
    refine SoundR.app (sound_chnEvent ..) ?_
    refine SoundR.app (sound_setB ..) ?_
    exact SoundR.self _

theorem sound_quarUpdate (address : Bool) (s : State) : Sound s (quarUpdate address s) := by
  unfold quarUpdate
  refine SoundR.intro ?_
  extract_lets +onlyGivenNames x1
  clear_value x1
  extract_lets +onlyGivenNames x2
  clear_value x2
  extract_lets +onlyGivenNames x3
  clear_value x3
  refine SoundR.ite ?_ ?_
  · exact SoundR.self _
  · refine SoundR.app (sound_chnEvent ..) ?_
    refine SoundR.app (sound_set ..) ?_
    exact SoundR.self _

theorem sound_drawBits (n : Nat) (s : State) : SoundR Prod.snd s (drawBits n s) := by
  unfold drawBits
  extract_lets +onlyGivenNames x1
  have h2 : SoundR Prod.snd s x1 := by
    unfold x1
    refine SoundR.appG (sound_draw ..) ?_
    exact SoundR.self _
  clear_value x1
  refine SoundR.mkSnd ?_
  exact h2

theorem sound_assignDown (s : State) : Sound s (assignDown s) := by
  unfold assignDown
  refine SoundR.intro ?_
  extract_lets +onlyGivenNames x1
  clear_value x1
  refine SoundR.app (sound_chainSendOn ..) ?_
  exact SoundR.self _

theorem sound_enumReport (a : Nat) (flags : Nat) (s : State) : Sound s (enumReport a flags s) := by
  unfold enumReport
  refine SoundR.intro ?_
  extract_lets +onlyGivenNames x1
  clear_value x1
  refine SoundR.ite ?_ ?_
  · refine SoundR.app (sound_chainSendOn ..) ?_
    exact SoundR.self _
  · refine SoundR.app (sound_chainSend ..) ?_
    exact SoundR.self _

theorem sound_routeAll (s : State) : Sound s (routeAll s) := by
  unfold routeAll
  refine SoundR.intro ?_
  refine SoundR.app (sound_chainSend ..) ?_
  exact SoundR.self _

theorem sound_setRingbrk (v : Bool) (s : State) : Sound s (setRingbrk v s) := by
  unfold setRingbrk
  refine SoundR.intro ?_
  refine SoundR.ite ?_ ?_
  · exact SoundR.self _
  · refine SoundR.app (sound_chnEvent ..) ?_
    refine SoundR.app (sound_setB ..) ?_
    exact SoundR.self _

theorem sound_headRoutes (s : State) : Sound s (headRoutes s) := by
  unfold headRoutes
  refine SoundR.intro ?_
  extract_lets +onlyGivenNames x1
  clear_value x1
  refine SoundR.ite ?_ ?_
  · exact SoundR.self _
  · extract_lets +onlyGivenNames x2
    clear_value x2
    extract_lets +onlyGivenNames x3
    clear_value x3
    refine SoundR.ite ?_ ?_
    · refine SoundR.app (sound_routeAll ..) ?_
      refine SoundR.app (sound_setLive ..) ?_
      exact SoundR.self _
    · refine SoundR.ite ?_ ?_
      · refine SoundR.app (sound_routeAll ..) ?_
        refine SoundR.app (sound_setLive ..) ?_
        refine SoundR.app (sound_setUpmap ..) ?_
        refine SoundR.app (sound_setRingbrk ..) ?_
        exact SoundR.self _
      · extract_lets +onlyGivenNames x4
        clear_value x4
        extract_lets +onlyGivenNames x5
        clear_value x5
        extract_lets +onlyGivenNames x6
        have h7 : SoundR id s x6 := by
          unfold x6
          refine SoundR.app (sound_setLive ..) ?_
          refine SoundR.app (sound_setUpmap ..) ?_
          refine SoundR.app (sound_setRingbrk ..) ?_
          exact SoundR.self _
        clear_value x6
        refine SoundR.forEach _ ?_ ?_
        · intro a8 a9
          extract_lets +onlyGivenNames x10
          clear_value x10
          refine SoundR.ite ?_ ?_
          · refine SoundR.app (sound_chainSend ..) ?_
            exact SoundR.self _
          · exact SoundR.self _
        · exact h7

theorem sound_headLink (a p : Nat) (up : Bool) (s : State) : Sound s (headLink a p up s) := by
  unfold headLink
  refine SoundR.intro ?_
  extract_lets +onlyGivenNames x1
  clear_value x1
  extract_lets +onlyGivenNames x2
  clear_value x2
  refine SoundR.app (sound_headRoutes ..) ?_
  refine SoundR.mk' rfl ?_
  exact SoundR.self _

theorem sound_enumerate (force : Bool) (s : State) : Sound s (enumerate force s) := by
  unfold enumerate
  refine SoundR.intro ?_
  refine SoundR.ite ?_ ?_
  · extract_lets +onlyGivenNames x1
    have h2 : SoundR Prod.snd s x1 := by
      unfold x1
      refine SoundR.appG (sound_drawBits ..) ?_
      exact SoundR.self _
    clear_value x1
    refine SoundR.app (sound_assignDown ..) ?_
    refine SoundR.app (sound_withHello ?_) ?_
    · intro a3
      refine SoundR.app (sound_setAddr ..) ?_
      refine SoundR.app (sound_set ..) ?_
      exact SoundR.self _
    · extract_lets +onlyGivenNames x4
      have h5 : SoundR id s x4 := by
        unfold x4
        exact h2
      clear_value x4
      refine SoundR.mk' rfl ?_
      exact h5
  · exact SoundR.self _

theorem sound_assignUnit (f : Frame) (force : Bool) (s : State) : Sound s (assignUnit f force s) := by
  unfold assignUnit
  refine SoundR.intro ?_
  extract_lets +onlyGivenNames x1
  clear_value x1
  refine SoundR.ite ?_ ?_
  · refine SoundR.app (sound_enumReport ..) ?_
    refine SoundR.app (sound_withHello ?_) ?_
    · intro a2
      refine SoundR.app (sound_setAddr ..) ?_
      exact SoundR.self _
    · exact SoundR.self _
  · refine SoundR.ite ?_ ?_
    · extract_lets +onlyGivenNames x3
      clear_value x3
      extract_lets +onlyGivenNames x4
      clear_value x4
      extract_lets +onlyGivenNames x5
      have h6 : SoundR id s x5 := by
        unfold x5
        refine SoundR.mk' rfl ?_
        exact SoundR.self _
      clear_value x5
      extract_lets +onlyGivenNames x7
      have h8 : SoundR id s x7 := by
        unfold x7
        refine SoundR.app (sound_set ..) ?_
        refine SoundR.app (sound_set ..) ?_
        exact h6
      clear_value x7
      extract_lets +onlyGivenNames x9
      have h10 : SoundR id s x9 := by
        unfold x9
        refine SoundR.app (sound_setAddr ..) ?_
        refine SoundR.ite ?_ ?_
        · refine SoundR.app (sound_loseAll ..) ?_
          exact h8
        · exact h8
      clear_value x9
      extract_lets +onlyGivenNames x11
      have h12 : SoundR id s x11 := by
        unfold x11
        refine SoundR.app (sound_idPage ..) ?_
        refine SoundR.app (sound_quarUpdate ..) ?_
        exact h10
      clear_value x11
      extract_lets +onlyGivenNames x13
      have h14 : SoundR id s x13 := by
        unfold x13
        refine SoundR.app (sound_sendHello ..) ?_
        refine SoundR.app (sound_sendHello ..) ?_
        exact h12
      clear_value x13
      refine SoundR.ite ?_ ?_
      · refine SoundR.app (sound_enumReport ..) ?_
        refine SoundR.app (sound_assignDown ..) ?_
        exact h14
      · refine SoundR.mk' rfl ?_
        exact h14
    · refine SoundR.app (sound_enumReport ..) ?_
      refine SoundR.app (sound_withHello ?_) ?_
      · intro a15
        refine SoundR.app (sound_quarUpdate ..) ?_
        exact SoundR.self _
      · exact SoundR.self _

theorem sound_onAssign (p : Nat) (f : Frame) (s : State) : Sound s (onAssign p f s) := by
  unfold onAssign
  refine SoundR.intro ?_
  refine SoundR.ite ?_ ?_
  · refine SoundR.app (sound_unkType ..) ?_
    exact SoundR.self _
  · extract_lets +onlyGivenNames x1
    clear_value x1
    refine SoundR.ite ?_ ?_
    · refine SoundR.ite ?_ ?_
      · refine SoundR.ite ?_ ?_
        · refine SoundR.app (sound_withHello ?_) ?_
          · intro a2
            refine SoundR.app (sound_chnEvent ..) ?_
            refine SoundR.app (sound_set ..) ?_
            exact SoundR.self _
          · exact SoundR.self _
        · exact SoundR.self _
      · refine SoundR.ite ?_ ?_
        · refine SoundR.app (sound_assignUnit ..) ?_
          refine SoundR.app (sound_chnEvent ..) ?_
          refine SoundR.app (sound_set ..) ?_
          refine SoundR.app (sound_set ..) ?_
          exact SoundR.self _
        · refine SoundR.app (sound_chnEvent ..) ?_
          exact SoundR.self _
    · refine SoundR.app (sound_assignUnit ..) ?_
      exact SoundR.self _

theorem sound_endWaitExpire (s : State) : Sound s (endWaitExpire s) := by
  unfold endWaitExpire
  refine SoundR.intro ?_
  refine SoundR.ite ?_ ?_
  · refine SoundR.app (sound_enumReport ..) ?_
    refine SoundR.mk' rfl ?_
    exact SoundR.self _
  · exact SoundR.self _

theorem sound_onEnumrpt (f : Frame) (s : State) : Sound s (onEnumrpt f s) := by
  unfold onEnumrpt
  refine SoundR.intro ?_
  refine SoundR.ite ?_ ?_
  · exact SoundR.self _
  · extract_lets +onlyGivenNames x1
    clear_value x1
    extract_lets +onlyGivenNames x2
    have h3 : SoundR id s x2 := by
      unfold x2
      refine SoundR.ite ?_ ?_
      · refine SoundR.app (sound_chnEvent ..) ?_
        exact SoundR.self _
      · exact SoundR.self _
    clear_value x2
    refine SoundR.ite ?_ ?_
    · extract_lets +onlyGivenNames x4
      clear_value x4
      extract_lets +onlyGivenNames x5
      have h6 : SoundR id s x5 := by
        unfold x5
        refine SoundR.app (sound_idPage ..) ?_
        refine SoundR.app (sound_set ..) ?_
        exact h3
      clear_value x5
      extract_lets +onlyGivenNames x7
      clear_value x7
      extract_lets +onlyGivenNames x8
      have h9 : SoundR id s x8 := by
        unfold x8
        refine SoundR.app (sound_headRoutes ..) ?_
        refine SoundR.mk' rfl ?_
        exact h6
      clear_value x8
      refine SoundR.app (sound_chnEvent ..) ?_
      refine SoundR.app (sound_chainSend ..) ?_
      exact h9
    · exact h3

theorem sound_onRoute (f : Frame) (s : State) : Sound s (onRoute f s) := by
  unfold onRoute
  refine SoundR.intro ?_
  extract_lets +onlyGivenNames x1
  clear_value x1
  refine SoundR.app (sound_withHello ?_) ?_
  · intro a2
    refine SoundR.ite ?_ ?_
    · extract_lets +onlyGivenNames x3
      clear_value x3
      extract_lets +onlyGivenNames x4
      have h5 : SoundR id a2 x4 := by
        unfold x4
        refine SoundR.ite ?_ ?_
        · exact SoundR.self _
        · refine SoundR.app (sound_chnEvent ..) ?_
          refine SoundR.app (sound_setB ..) ?_
          exact SoundR.self _
      clear_value x4
      extract_lets +onlyGivenNames x6
      have h7 : SoundR id a2 x6 := by
        unfold x6
        refine SoundR.app (sound_setUpmap ..) ?_
        exact h5
      clear_value x6
      refine SoundR.app (sound_setLive ..) ?_
      refine SoundR.app (sound_setOrphan ..) ?_
      refine SoundR.app (sound_set ..) ?_
      exact h7
    · refine SoundR.app (sound_setLive ..) ?_
      refine SoundR.app (sound_setUpmap ..) ?_
      exact SoundR.self _
  · exact SoundR.self _

theorem sound_onOrphan (f : Frame) (s : State) : Sound s (onOrphan f s) := by
  unfold onOrphan
  refine SoundR.intro ?_
  refine SoundR.app (sound_idPage ..) ?_
  refine SoundR.app (sound_setOrphan ..) ?_
  refine SoundR.app (sound_setLive ..) ?_
  exact SoundR.self _

theorem sound_onVersion (f : Frame) (s : State) : Sound s (onVersion f s) := by
  unfold onVersion
  refine SoundR.intro ?_
  refine SoundR.app (sound_withHello ?_) ?_
  · intro a1
    extract_lets +onlyGivenNames x2
    have h3 : SoundR id a1 x2 := by
      unfold x2
      refine SoundR.app (sound_set ..) ?_
      exact SoundR.self _
    clear_value x2
    refine SoundR.app (sound_quarUpdate ..) ?_
    exact h3
  · exact SoundR.self _

theorem sound_onRatechg (p : Nat) (s : State) : Sound s (onRatechg p s) := by
  unfold onRatechg
  refine SoundR.intro ?_
  refine SoundR.ite ?_ ?_
  · exact SoundR.self _
  · refine SoundR.app (sound_setPort ..) ?_
    exact SoundR.self _

theorem sound_onIdent (f : Frame) (s : State) : Sound s (onIdent f s) := by
  unfold onIdent
  refine SoundR.intro ?_
  refine SoundR.app (sound_chainSend ..) ?_
  exact SoundR.self _

theorem sound_onRejoin (f : Frame) (s : State) : Sound s (onRejoin f s) := by
  unfold onRejoin
  refine SoundR.intro ?_
  extract_lets +onlyGivenNames x1
  clear_value x1
  extract_lets +onlyGivenNames x2
  clear_value x2
  refine SoundR.ite ?_ ?_
  · exact SoundR.self _
  · extract_lets +onlyGivenNames x3
    clear_value x3
    extract_lets +onlyGivenNames x4
    have h5 : SoundR id s x4 := by
      unfold x4
      refine SoundR.mk' rfl ?_
      exact SoundR.self _
    clear_value x4
    refine SoundR.app (sound_chnEvent ..) ?_
    refine SoundR.app (sound_endRequestsTo ..) ?_
    refine SoundR.app (sound_semUnitGone ..) ?_
    exact h5

theorem sound_rejoinSend (s : State) : Sound s (rejoinSend s) := by
  unfold rejoinSend
  refine SoundR.intro ?_
  extract_lets +onlyGivenNames x1
  clear_value x1
  refine SoundR.ite ?_ ?_
  · exact SoundR.self _
  · extract_lets +onlyGivenNames x2
    clear_value x2
    extract_lets +onlyGivenNames x3
    have h4 : SoundR id s x3 := by
      unfold x3
      refine SoundR.mk' rfl ?_
      exact SoundR.self _
    clear_value x3
    refine SoundR.app (sound_chainSend ..) ?_
    exact h4

theorem sound_lineSend (p : Nat) (f : Frame) (poison : Bool) (s : State) : Sound s (lineSend p f poison s) := by
  unfold lineSend
  refine SoundR.intro ?_
  refine SoundR.mk' rfl ?_
  exact SoundR.self _

theorem sound_idleSend (p : Fin 2) (s : State) : Sound s (idleSend p s) := by
  unfold idleSend
  refine SoundR.intro ?_
  refine SoundR.mk' rfl ?_
  exact SoundR.self _

theorem sound_cutAbort (p : Fin 2) (s : State) : Sound s (cutAbort p s) := by
  unfold cutAbort
  refine SoundR.intro ?_
  split
  · rename_i v1 v2
    exact SoundR.self _
  · rename_i v3 v4 v5
    extract_lets +onlyGivenNames x6
    clear_value x6
    extract_lets +onlyGivenNames x7
    have h8 : SoundR id s x7 := by
      unfold x7
      refine SoundR.app (sound_setPort ..) ?_
      exact SoundR.self _
    clear_value x7
    extract_lets +onlyGivenNames x9
    have h10 : SoundR id s x9 := by
      unfold x9
      refine SoundR.app (sound_releaseClass ..) ?_
      exact h8
    clear_value x9
    refine SoundR.ite ?_ ?_
    · refine SoundR.app (sound_lineSend ..) ?_
      exact h10
    · exact h10

theorem sound_unreach (f : Frame) (s : State) : Sound s (unreach f s) := by
  unfold unreach
  refine SoundR.intro ?_
  refine SoundR.ite ?_ ?_
  · refine SoundR.app (sound_chainSend ..) ?_
    exact SoundR.self _
  · exact SoundR.self _

theorem sound_dropFor (p : Nat) (q : Fin 2) (s : State) : Sound s (dropFor p q s) := by
  unfold dropFor
  refine SoundR.intro ?_
  extract_lets +onlyGivenNames x1
  clear_value x1
  refine SoundR.foldl _ ?_ ?_
  · intro a2 a3
    extract_lets +onlyGivenNames x4
    have h5 : SoundR id a2 x4 := by
      unfold x4
      refine SoundR.ite ?_ ?_
      · refine SoundR.app (sound_setSlots ..) ?_
        exact SoundR.self _
      · refine SoundR.app (sound_releaseClass ..) ?_
        refine SoundR.app (sound_setSlots ..) ?_
        exact SoundR.self _
    clear_value x4
    refine SoundR.app (sound_unreach ..) ?_
    exact h5
  · exact SoundR.self _

theorem sound_linkDown (p : Fin 2) (errlim : Bool) (s : State) : Sound s (linkDown p errlim s) := by
  unfold linkDown
  refine SoundR.intro ?_
  refine SoundR.ite ?_ ?_
  · exact SoundR.self _
  · extract_lets +onlyGivenNames x1
    have h2 : SoundR id s x1 := by
      unfold x1
      refine SoundR.app (sound_count ..) ?_
      refine SoundR.app (sound_set ..) ?_
      exact SoundR.self _
    clear_value x1
    extract_lets +onlyGivenNames x3
    have h4 : SoundR id s x3 := by
      unfold x3
      refine SoundR.app (sound_chnEvent ..) ?_
      exact h2
    clear_value x3
    extract_lets +onlyGivenNames x5
    have h6 : SoundR id s x5 := by
      unfold x5
      refine SoundR.ite ?_ ?_
      · refine SoundR.app (sound_chnEvent ..) ?_
        exact h4
      · exact h4
    clear_value x5
    extract_lets +onlyGivenNames x7
    have h8 : SoundR id s x7 := by
      unfold x7
      refine SoundR.app (sound_cutAbort ..) ?_
      exact h6
    clear_value x7
    extract_lets +onlyGivenNames x9
    clear_value x9
    extract_lets +onlyGivenNames x10
    have h11 : SoundR id s x10 := by
      unfold x10
      refine SoundR.app (sound_setPort ..) ?_
      exact h8
    clear_value x10
    extract_lets +onlyGivenNames x12
    clear_value x12
    extract_lets +onlyGivenNames x13
    have h14 : SoundR id s x13 := by
      unfold x13
      refine SoundR.ite ?_ ?_
      · refine SoundR.app (sound_setPort ..) ?_
        refine SoundR.app (sound_set ..) ?_
        exact h11
      · exact h11
    clear_value x13
    extract_lets +onlyGivenNames x15
    have h16 : SoundR id s x15 := by
      unfold x15
      refine SoundR.app (sound_dropFor ..) ?_
      refine SoundR.app (sound_dropFor ..) ?_
      exact h14
    clear_value x15
    extract_lets +onlyGivenNames x17
    have h18 : SoundR id s x17 := by
      unfold x17
      refine SoundR.app (sound_reachUpdate ..) ?_
      exact h16
    clear_value x17
    extract_lets +onlyGivenNames x19
    clear_value x19
    extract_lets +onlyGivenNames x20
    clear_value x20
    extract_lets +onlyGivenNames x21
    have h22 : SoundR id s x21 := by
      unfold x21
      refine SoundR.ite ?_ ?_
      · refine SoundR.app (sound_headLink ..) ?_
        exact h18
      · refine SoundR.ite ?_ ?_
        · exact h18
        · refine SoundR.ite ?_ ?_
          · refine SoundR.app (sound_chainSendOn ..) ?_
            exact h18
          · refine SoundR.app (sound_chainSend ..) ?_
            exact h18
    clear_value x21
    refine SoundR.ite ?_ ?_
    · extract_lets +onlyGivenNames x23
      clear_value x23
      extract_lets +onlyGivenNames x24
      clear_value x24
      extract_lets +onlyGivenNames x25
      have h26 : SoundR id s x25 := by
        unfold x25
        refine SoundR.app (sound_chainSendOn ..) ?_
        exact h22
      clear_value x25
      refine SoundR.app (sound_idPage ..) ?_
      refine SoundR.app (sound_setOrphan ..) ?_
      refine SoundR.app (sound_setLive ..) ?_
      exact h26
    · exact h22

theorem sound_lockLostLong (p : Fin 2) (s : State) : Sound s (lockLostLong p s) := by
  unfold lockLostLong
  refine SoundR.intro ?_
  refine SoundR.ite ?_ ?_
  · refine SoundR.app (sound_linkDown ..) ?_
    exact SoundR.self _
  · exact SoundR.self _

theorem sound_linkComesUp (p : Fin 2) (s : State) : Sound s (linkComesUp p s) := by
  unfold linkComesUp
  refine SoundR.intro ?_
  extract_lets +onlyGivenNames x1
  have h2 : SoundR id s x1 := by
    unfold x1
    refine SoundR.app (sound_chnEvent ..) ?_
    refine SoundR.app (sound_set ..) ?_
    exact SoundR.self _
  clear_value x1
  extract_lets +onlyGivenNames x3
  have h4 : SoundR id s x3 := by
    unfold x3
    refine SoundR.app (sound_reachUpdate ..) ?_
    exact h2
  clear_value x3
  extract_lets +onlyGivenNames x5
  have h6 : SoundR id s x5 := by
    unfold x5
    refine SoundR.ite ?_ ?_
    · refine SoundR.app (sound_headLink ..) ?_
      exact h4
    · refine SoundR.ite ?_ ?_
      · exact h4
      · refine SoundR.app (sound_chainSend ..) ?_
        exact h4
  clear_value x5
  refine SoundR.ite ?_ ?_
  · refine SoundR.ite ?_ ?_
    · refine SoundR.app (sound_enumerate ..) ?_
      exact h6
    · refine SoundR.ite ?_ ?_
      · extract_lets +onlyGivenNames x7
        clear_value x7
        extract_lets +onlyGivenNames x8
        have h9 : SoundR id s x8 := by
          unfold x8
          refine SoundR.mk' rfl ?_
          exact h6
        clear_value x8
        refine SoundR.app (sound_enumReport ..) ?_
        refine SoundR.app (sound_assignDown ..) ?_
        exact h9
      · exact h6
  · exact h6

theorem sound_receiverLock (p : Fin 2) (inverted : Bool) (rate : Nat) (s : State) : Sound s (receiverLock p inverted rate s) := by
  unfold receiverLock
  refine SoundR.intro ?_
  extract_lets +onlyGivenNames x1
  clear_value x1
  refine SoundR.ite ?_ ?_
  · exact SoundR.self _
  · extract_lets +onlyGivenNames x2
    have h3 : SoundR id s x2 := by
      unfold x2
      refine SoundR.app (sound_set ..) ?_
      refine SoundR.app (sound_setB ..) ?_
      refine SoundR.app (sound_set ..) ?_
      exact SoundR.self _
    clear_value x2
    extract_lets +onlyGivenNames x4
    clear_value x4
    extract_lets +onlyGivenNames x5
    have h6 : SoundR id s x5 := by
      unfold x5
      refine SoundR.foldl _ ?_ ?_
      · intro a7 a8
        refine SoundR.app (sound_unhold ..) ?_
        exact SoundR.self _
      · exact h3
    clear_value x5
    refine SoundR.app (sound_sendHello ..) ?_
    refine SoundR.app (sound_setPort ..) ?_
    exact h6

theorem sound_lineError (p : Fin 2) (s : State) : Sound s (lineError p s) := by
  unfold lineError
  refine SoundR.intro ?_
  extract_lets +onlyGivenNames x1
  clear_value x1
  extract_lets +onlyGivenNames x2
  clear_value x2
  extract_lets +onlyGivenNames x3
  have h4 : SoundR id s x3 := by
    unfold x3
    refine SoundR.app (sound_setPort ..) ?_
    exact SoundR.self _
  clear_value x3
  extract_lets +onlyGivenNames x5
  clear_value x5
  refine SoundR.ite ?_ ?_
  · refine SoundR.app (sound_linkDown ..) ?_
    exact h4
  · exact h4

theorem sound_lossOfLock (p : Fin 2) (codeErr : Bool) (s : State) : Sound s (lossOfLock p codeErr s) := by
  unfold lossOfLock
  refine SoundR.intro ?_
  refine SoundR.ite ?_ ?_
  · exact SoundR.self _
  · extract_lets +onlyGivenNames x1
    have h2 : SoundR id s x1 := by
      unfold x1
      refine SoundR.app (sound_cutAbort ..) ?_
      refine SoundR.app (sound_set ..) ?_
      exact SoundR.self _
    clear_value x1
    extract_lets +onlyGivenNames x3
    clear_value x3
    extract_lets +onlyGivenNames x4
    have h5 : SoundR id s x4 := by
      unfold x4
      refine SoundR.app (sound_setPort ..) ?_
      exact h2
    clear_value x4
    refine SoundR.ite ?_ ?_
    · refine SoundR.app (sound_lineError ..) ?_
      refine SoundR.app (sound_count ..) ?_
      exact h5
    · exact h5

theorem sound_errInterval (p : Fin 2) (s : State) : Sound s (errInterval p s) := by
  unfold errInterval
  refine SoundR.intro ?_
  refine SoundR.app (sound_setPort ..) ?_
  exact SoundR.self _

theorem sound_holdoffEnd (p : Fin 2) (s : State) : Sound s (holdoffEnd p s) := by
  unfold holdoffEnd
  refine SoundR.intro ?_
  refine SoundR.ite ?_ ?_
  · refine SoundR.app (sound_setPort ..) ?_
    exact SoundR.self _
  · exact SoundR.self _

theorem sound_onHello (p : Nat) (f : Frame) (s : State) : Sound s (onHello p f s) := by
  unfold onHello
  refine SoundR.intro ?_
  refine SoundR.ite ?_ ?_
  · exact SoundR.self _
  · extract_lets +onlyGivenNames x1
    clear_value x1
    extract_lets +onlyGivenNames x2
    clear_value x2
    extract_lets +onlyGivenNames x3
    clear_value x3
    extract_lets +onlyGivenNames x4
    clear_value x4
    extract_lets +onlyGivenNames x5
    have h6 : SoundR id s x5 := by
      unfold x5
      refine SoundR.app (sound_setB ..) ?_
      refine SoundR.app (sound_set ..) ?_
      exact SoundR.self _
    clear_value x5
    extract_lets +onlyGivenNames x7
    have h8 : SoundR id s x7 := by
      unfold x7
      refine SoundR.app (sound_set ..) ?_
      refine SoundR.app (sound_setB ..) ?_
      exact h6
    clear_value x7
    extract_lets +onlyGivenNames x9
    have h10 : SoundR id s x9 := by
      unfold x9
      refine SoundR.ite ?_ ?_
      · refine SoundR.ite ?_ ?_
        · refine SoundR.app (sound_linkDown ..) ?_
          exact h8
        · exact h8
      · refine SoundR.ite ?_ ?_
        · refine SoundR.app (sound_linkComesUp ..) ?_
          exact h8
        · exact h8
    clear_value x9
    refine SoundR.ite ?_ ?_
    · refine SoundR.app (sound_assignDown ..) ?_
      exact h10
    · exact h10

theorem sound_onLinkrpt (f : Frame) (s : State) : Sound s (onLinkrpt f s) := by
  unfold onLinkrpt
  refine SoundR.intro ?_
  refine SoundR.ite ?_ ?_
  · refine SoundR.app (sound_headLink ..) ?_
    exact SoundR.self _
  · exact SoundR.self _

theorem sound_takeCrt (p : Fin 2) (crt : Nat) (s : State) : Sound s (takeCrt p crt s) := by
  unfold takeCrt
  refine SoundR.intro ?_
  refine SoundR.app (sound_setPort ..) ?_
  exact SoundR.self _

theorem sound_idleSymbol (p : Fin 2) (bytes : List Byte) (chk : Byte) (s : State) : Sound s (idleSymbol p bytes chk s) := by
  unfold idleSymbol
  refine SoundR.intro ?_
  refine SoundR.ite ?_ ?_
  · exact SoundR.self _
  · extract_lets +onlyGivenNames x1
    clear_value x1
    extract_lets +onlyGivenNames x2
    have h3 : SoundR id s x2 := by
      unfold x2
      refine SoundR.app (sound_takeCrt ..) ?_
      exact SoundR.self _
    clear_value x2
    refine SoundR.ite ?_ ?_
    · refine SoundR.forEach _ ?_ ?_
      · intro a4 a5
        extract_lets +onlyGivenNames x6
        clear_value x6
        extract_lets +onlyGivenNames x7
        clear_value x7
        extract_lets +onlyGivenNames x8
        clear_value x8
        extract_lets +onlyGivenNames x9
        have h10 : SoundR id a5 x9 := by
          unfold x9
          refine SoundR.app (sound_count ..) ?_
          refine SoundR.app (sound_setPort ..) ?_
          exact SoundR.self _
        clear_value x9
        refine SoundR.app (sound_ledgerNote ..) ?_
        exact h10
      · exact h3
    · exact h3

theorem sound_relayRequest (s : State) : Sound s (relayRequest s) := by
  unfold relayRequest
  refine SoundR.intro ?_
  extract_lets +onlyGivenNames x1
  clear_value x1
  extract_lets +onlyGivenNames x2
  clear_value x2
  refine SoundR.app (sound_chainSendOn ..) ?_
  refine SoundR.mk' rfl ?_
  exact SoundR.self _

theorem sound_relayLeave (s : State) : Sound s (relayLeave s) := by
  unfold relayLeave
  refine SoundR.intro ?_
  refine SoundR.ite ?_ ?_
  · refine SoundR.app (sound_relayRequest ..) ?_
    refine SoundR.mk' rfl ?_
    exact SoundR.self _
  · exact SoundR.self _

theorem sound_discard {p : Fin 2} {c : Nat} {why : State → State} {s : State} (hf : ∀ t, SoundR id t (why t)) : Sound s (discard p c why s) := by
  unfold discard
  refine SoundR.intro ?_
  extract_lets +onlyGivenNames x1
  clear_value x1
  extract_lets +onlyGivenNames x2
  clear_value x2
  extract_lets +onlyGivenNames x3
  have h4 : SoundR id s x3 := by
    unfold x3
    refine SoundR.app (hf ..) ?_
    refine SoundR.app (sound_setPort ..) ?_
    exact SoundR.self _
  clear_value x3
  refine SoundR.ite ?_ ?_
  · refine SoundR.app (sound_relayLeave ..) ?_
    exact h4
  · exact h4

theorem sound_deliverAtOnce (f : Frame) (s : State) : SoundO id s (deliverAtOnce f s) := by
  unfold deliverAtOnce
  refine SoundO.ite ?_ ?_
  · extract_lets +onlyGivenNames x1
    clear_value x1
    refine SoundO.some ?_
    refine SoundR.app (sound_hostPut ..) ?_
    refine SoundR.mk' rfl ?_
    exact SoundR.self _
  · refine SoundO.ite ?_ ?_
    · refine SoundO.some ?_
      exact SoundR.self _
    · exact SoundO.none

theorem sound_placeFrame (p : Nat) (f : Frame) (s : State) : Sound s (placeFrame p f s) := by
  unfold placeFrame
  refine SoundR.intro ?_
  split
  · exact SoundR.app (sound_releaseClass ..) (SoundR.app (sound_unkType ..) (SoundR.self s))
  · extract_lets +onlyGivenNames known t
    have h : SoundR id s t := by
      unfold t
      exact SoundR.ite (SoundR.app (sound_unkType ..) (SoundR.self s)) (SoundR.self s)
    extract_lets +onlyGivenNames dlv dead u
    have k : SoundR id s u := by
      unfold u
      exact SoundR.ite (SoundR.app (sound_unreach ..) h) h
    extract_lets +onlyGivenNames fwd
    refine SoundR.ite ?_ ?_
    · split
      · rename_i w he
        have m : SoundR id s w := SoundO.ofSome0 he (SoundO.app (sound_deliverAtOnce ..) k)
        exact SoundR.app (sound_releaseClass ..) m
      · exact SoundR.app (sound_setSlots ..) k
    · exact SoundR.ite (SoundR.app (sound_releaseClass ..) k) (SoundR.app (sound_setSlots ..) k)

theorem sound_frameReceive (p : Fin 2) (cls : Nat) (bs : List Byte) (codeErr eofp : Bool) (residence : Nat) (s : State) : Sound s (frameReceive p cls bs codeErr eofp residence s) := by
  unfold frameReceive
  refine SoundR.intro ?_
  refine SoundR.ite ?_ ?_
  · exact SoundR.self _
  · extract_lets +onlyGivenNames x1
    clear_value x1
    extract_lets +onlyGivenNames x2
    clear_value x2
    extract_lets +onlyGivenNames x3
    have h4 : SoundR id s x3 := by
      unfold x3
      refine SoundR.app (sound_setPort ..) ?_
      exact SoundR.self _
    clear_value x3
    extract_lets +onlyGivenNames x5
    clear_value x5
    extract_lets +onlyGivenNames x6
    clear_value x6
    extract_lets +onlyGivenNames x7
    refine SoundR.ite ?_ ?_
    · refine SoundR.app (sound_lineError ..) ?_
      unfold x7
      extract_lets +onlyGivenNames x8
      have h9 : SoundR id s x8 := by
        unfold x8
        refine SoundR.ite ?_ ?_
        · refine SoundR.app (sound_lineSend ..) ?_
          exact h4
        · exact h4
      clear_value x8
      refine SoundR.app (sound_discard ?_) ?_
      · intro a10
        refine SoundR.app (sound_count ..) ?_
        exact SoundR.self _
      · exact h9
    · refine SoundR.ite ?_ ?_
      · refine SoundR.app (sound_lineError ..) ?_
        unfold x7
        extract_lets +onlyGivenNames x11
        have h12 : SoundR id s x11 := by
          unfold x11
          refine SoundR.ite ?_ ?_
          · refine SoundR.app (sound_lineSend ..) ?_
            exact h4
          · exact h4
        clear_value x11
        refine SoundR.app (sound_discard ?_) ?_
        · intro a13
          refine SoundR.app (sound_count ..) ?_
          exact SoundR.self _
        · exact h12
      · refine SoundR.ite ?_ ?_
        · unfold x7
          extract_lets +onlyGivenNames x14
          have h15 : SoundR id s x14 := by
            unfold x14
            refine SoundR.ite ?_ ?_
            · refine SoundR.app (sound_lineSend ..) ?_
              exact h4
            · exact h4
          clear_value x14
          refine SoundR.app (sound_discard ?_) ?_
          · intro a16
            refine SoundR.app (sound_count ..) ?_
            exact SoundR.self _
          · exact h15
        · split
          · rename_i v17 v18
            unfold x7
            extract_lets +onlyGivenNames x19
            have h20 : SoundR id s x19 := by
              unfold x19
              refine SoundR.ite ?_ ?_
              · refine SoundR.app (sound_lineSend ..) ?_
                exact h4
              · exact h4
            clear_value x19
            refine SoundR.app (sound_discard ?_) ?_
            · intro a21
              refine SoundR.app (sound_unkType ..) ?_
              exact SoundR.self _
            · exact h20
          · rename_i v22 v23 v24 v25
            refine SoundR.ite ?_ ?_
            · unfold x7
              extract_lets +onlyGivenNames x26
              have h27 : SoundR id s x26 := by
                unfold x26
                refine SoundR.ite ?_ ?_
                · refine SoundR.app (sound_lineSend ..) ?_
                  exact h4
                · exact h4
              clear_value x26
              refine SoundR.app (sound_discard ?_) ?_
              · intro a28
                refine SoundR.app (sound_unkType ..) ?_
                exact SoundR.self _
              · exact h27
            · extract_lets +onlyGivenNames x29
              have h30 : SoundR id s x29 := by
                unfold x29
                refine SoundR.app (sound_takeCrt ..) ?_
                exact h4
              clear_value x29
              extract_lets +onlyGivenNames x31
              clear_value x31
              extract_lets +onlyGivenNames x32
              have h33 : SoundR id s x32 := by
                unfold x32
                refine SoundR.app (sound_setPort ..) ?_
                exact h30
              clear_value x32
              refine SoundR.ite ?_ ?_
              · refine SoundR.ite ?_ ?_
                · refine SoundR.app (sound_releaseClass ..) ?_
                  refine SoundR.app (sound_lineSend ..) ?_
                  refine SoundR.app (sound_count ..) ?_
                  exact h33
                · extract_lets +onlyGivenNames x34
                  have h35 : SoundR id s x34 := by
                    unfold x34
                    refine SoundR.app (sound_lineSend ..) ?_
                    exact h33
                  clear_value x34
                  extract_lets +onlyGivenNames x36
                  clear_value x36
                  refine SoundR.ite ?_ ?_
                  · refine SoundR.app (sound_setSlots ..) ?_
                    exact h35
                  · refine SoundR.app (sound_releaseClass ..) ?_
                    refine SoundR.ite ?_ ?_
                    · refine SoundR.app (sound_unkType ..) ?_
                      exact h35
                    · exact h35
              · refine SoundR.app (sound_placeFrame ..) ?_
                exact h33

theorem sound_cutThrough (p : Fin 2) (cls dst : Nat) (s : State) : Sound s (cutThrough p cls dst s) := by
  unfold cutThrough
  refine SoundR.intro ?_
  refine SoundR.ite ?_ ?_
  · exact SoundR.self _
  · split
    · rename_i v1 v2 v3 v4
      extract_lets +onlyGivenNames x5
      extract_lets +onlyGivenNames x6
      clear_value x6
      extract_lets +onlyGivenNames x7
      have h8 : SoundR id s x7 := by
        unfold x7
        refine SoundR.app (sound_setPort ..) ?_
        exact SoundR.self _
      clear_value x7
      refine SoundR.ite ?_ ?_
      · extract_lets +onlyGivenNames x9
        clear_value x9
        refine SoundR.app (sound_setPort ..) ?_
        exact h8
      · exact h8
    · rename_i v10 v11
      exact SoundR.self _

theorem sound_relayFeed (s : State) : Sound s (relayFeed s) := by
  unfold relayFeed
  refine SoundR.intro ?_
  split
  · rename_i v1 v2
    exact SoundR.self _
  · rename_i v3 v4 v5
    refine SoundR.ite ?_ ?_
    · exact SoundR.self _
    · extract_lets +onlyGivenNames x6
      clear_value x6
      refine SoundR.app (sound_chainSendOn ..) ?_
      refine SoundR.mk' rfl ?_
      exact SoundR.self _

theorem sound_transmitNext (p : Fin 2) (residence : Nat) (s : State) : Sound s (transmitNext p residence s) := by
  unfold transmitNext
  refine SoundR.intro ?_
  refine SoundR.ite ?_ ?_
  · exact SoundR.self _
  · extract_lets +onlyGivenNames x1
    have h2 : SoundR id s x1 := by
      unfold x1
      refine SoundR.ite ?_ ?_
      · refine SoundR.app (sound_relayFeed ..) ?_
        exact SoundR.self _
      · exact SoundR.self _
    clear_value x1
    extract_lets +onlyGivenNames x3
    clear_value x3
    extract_lets +onlyGivenNames x4
    have h5 : SoundR id s x4 := by
      unfold x4
      refine SoundR.app (sound_idleSend ..) ?_
      refine SoundR.app (sound_setPort ..) ?_
      exact h2
    clear_value x4
    refine SoundR.ite ?_ ?_
    · exact h5
    · split
      · rename_i v6 v7
        exact h5
      · rename_i v8 v9 v10
        extract_lets +onlyGivenNames x11
        clear_value x11
        extract_lets +onlyGivenNames x12
        clear_value x12
        extract_lets +onlyGivenNames x13
        clear_value x13
        split
        · rename_i v14 v15
          extract_lets +onlyGivenNames x16
          have h17 : SoundR id s x16 := by
            unfold x16
            refine SoundR.app (sound_lineSend ..) ?_
            refine SoundR.app (sound_setPort ..) ?_
            exact h2
          clear_value x16
          refine SoundR.ite ?_ ?_
          · split
            · rename_i v18 v19 v20
              refine SoundR.app (sound_setPort ..) ?_
              refine SoundR.app (sound_set ..) ?_
              exact h17
            · rename_i v21 v22
              exact h17
          · exact h17
        · rename_i v23 v24 v25
          extract_lets +onlyGivenNames x26
          have h27 : SoundR id s x26 := by
            unfold x26
            refine SoundR.app (sound_setPort ..) ?_
            exact h2
          clear_value x26
          extract_lets +onlyGivenNames x28
          have h29 : SoundR id s x28 := by
            unfold x28
            refine SoundR.ite ?_ ?_
            · refine SoundR.app (sound_setSlots ..) ?_
              exact h27
            · refine SoundR.app (sound_releaseClass ..) ?_
              refine SoundR.app (sound_setSlots ..) ?_
              exact h27
          clear_value x28
          extract_lets +onlyGivenNames x30
          clear_value x30
          extract_lets +onlyGivenNames x31
          have h32 : SoundR id s x31 := by
            unfold x31
            refine SoundR.ite ?_ ?_
            · refine SoundR.app (sound_count ..) ?_
              exact h29
            · exact h29
          clear_value x31
          refine SoundR.app (sound_lineSend ..) ?_
          exact h32

theorem sound_rateChange (p : Fin 2) (s : State) : Sound s (rateChange p s) := by
  unfold rateChange
  refine SoundR.intro ?_
  extract_lets +onlyGivenNames x1
  clear_value x1
  refine SoundR.ite ?_ ?_
  · exact SoundR.self _
  · refine SoundR.ite ?_ ?_
    · refine SoundR.app (sound_chainSendOn ..) ?_
      refine SoundR.app (sound_setPort ..) ?_
      exact SoundR.self _
    · refine SoundR.app (sound_set ..) ?_
      exact SoundR.self _

end Sys2Proof.Machine
end

