-- ==== Sys2Proof/Laws/SoundCore.lean ====
section
/-!
SUPPORT. Every operation of the named files is sound (Laws/Sound.lean).
-/
set_option linter.unusedVariables false
namespace Sys2Proof.Machine
open Sys2Proof

theorem keyHash_mono (v : Vector (BitVec 256) 4) (k k' i' : Nat) (x : BitVec 256)
    (h : (v.toList.getD k' 0#256).getLsbD i' = true) : ((v.set! k (v.toList.getD k 0#256 ||| x)).toList.getD k' 0#256).getLsbD i' = true := by
  simp only [Vector.set!_eq_setIfInBounds, List.getD_eq_getElem?_getD, Vector.getElem?_toList] at h ⊢
  rw [Vector.getElem?_setIfInBounds]
  split
  · rename_i e
    subst e
    split
    · simp only [Option.getD_some, BitVec.getLsbD_or, h, Bool.true_or]
    · rename_i hk
      rw [Vector.getElem?_eq_none (by omega)] at h
      simp at h
  · exact h

theorem blow_mono (c b : FuseBit) (f : Fuses) (h : f.blown b = true) : (blow c f).blown b = true := by
  cases c <;> cases b <;> simp only [Fuses.blown, blow] at h ⊢ <;> try simp only [BitVec.getLsbD_or, h, Bool.true_or]
  exact keyHash_mono _ _ _ _ _ h

theorem sound_fusesAfter (p : Bool) (s : State) : SoundR Prod.snd s (fusesAfter p s) := by
  unfold fusesAfter
  split
  · refine SoundR.ite ?_ ?_
    · exact SoundR.mkSnd (SoundR.ofSnd (sound_draw ..))
    · exact SoundR.mkSnd (SoundR.self s)
  · exact SoundR.mkSnd (SoundR.self s)

theorem fusesAfter_mono (p : Bool) (s : State) (b : FuseBit) (h : s.lcs.fuses.blown b = true) : (fusesAfter p s).1.blown b = true := by
  unfold fusesAfter
  split
  · rename_i c bs rest e
    split
    · simp only
      split
      · exact blow_mono _ _ _ h
      · exact h
    · exact blow_mono _ _ _ h
  · exact h

theorem sound_fuseRegs (s : State) : Sound s (fuseRegs s) := by
  unfold fuseRegs
  refine SoundR.intro ?_
  extract_lets +onlyGivenNames x1
  clear_value x1
  extract_lets +onlyGivenNames x2
  have h3 : SoundR id s x2 := by
    unfold x2
    refine SoundR.app (sound_set ..) ?_
    refine SoundR.app (sound_set ..) ?_
    exact SoundR.self _
  clear_value x2
  extract_lets +onlyGivenNames x4
  have h5 : SoundR id s x4 := by
    unfold x4
    refine SoundR.app (sound_set ..) ?_
    refine SoundR.app (sound_set ..) ?_
    exact h3
  clear_value x4
  extract_lets +onlyGivenNames x6
  have h7 : SoundR id s x6 := by
    unfold x6
    refine SoundR.app (sound_set ..) ?_
    exact h5
  clear_value x6
  refine SoundR.forEach _ ?_ ?_
  · intro a8 a9
    refine SoundR.forEach _ ?_ ?_
    · intro a10 a11
      refine SoundR.app (sound_set ..) ?_
      exact SoundR.self _
    · exact SoundR.self _
  · exact h7

theorem sound_resetCore (k : ResetKind) (s : State) : Sound s (resetCore k s) where
  pending := rfl
  fuses b h := fusesAfter_mono _ _ _ h
  free := Nat.le_trans (sound_fusesAfter (k = 0) s).free (sound_drawBits 16 _).free
  canon h := by
    simp only [State.canon, resetCore, Bool.and_eq_true] at h ⊢
    refine ⟨rfl, ?_⟩
    split
    · exact Memory.wf_empty
    · exact h.2

theorem sound_resetTo (k : ResetKind) (s : State) : Sound s (resetTo k s) := by
  unfold resetTo
  refine SoundR.intro ?_
  extract_lets +onlyGivenNames x1
  clear_value x1
  extract_lets +onlyGivenNames x2
  have h3 : SoundR id s x2 := by
    unfold x2
    refine SoundR.app (sound_set ..) ?_
    refine SoundR.app (sound_set ..) ?_
    refine SoundR.app (sound_resetCore ..) ?_
    exact SoundR.self _
  clear_value x2
  extract_lets +onlyGivenNames x4
  have h5 : SoundR id s x4 := by
    unfold x4
    refine SoundR.app (sound_setWord ..) ?_
    exact h3
  clear_value x4
  extract_lets +onlyGivenNames x6
  have h7 : SoundR id s x6 := by
    unfold x6
    refine SoundR.ite ?_ ?_
    · refine SoundR.app (sound_set ..) ?_
      refine SoundR.app (sound_setWord ..) ?_
      exact h5
    · exact h5
  clear_value x6
  extract_lets +onlyGivenNames x8
  have h9 : SoundR id s x8 := by
    unfold x8
    refine SoundR.ite ?_ ?_
    · refine SoundR.app (sound_setWord ..) ?_
      exact h7
    · exact h7
  clear_value x8
  extract_lets +onlyGivenNames x10
  have h11 : SoundR id s x10 := by
    unfold x10
    refine SoundR.ite ?_ ?_
    · refine SoundR.app (sound_set ..) ?_
      exact h9
    · exact h9
  clear_value x10
  extract_lets +onlyGivenNames x12
  have h13 : SoundR id s x12 := by
    unfold x12
    refine SoundR.app (sound_pageState ..) ?_
    refine SoundR.app (sound_fuseRegs ..) ?_
    refine SoundR.app (sound_set ..) ?_
    exact h11
  clear_value x12
  refine SoundR.ite ?_ ?_
  · extract_lets +onlyGivenNames x14
    clear_value x14
    refine SoundR.app (sound_setUpmap ..) ?_
    refine SoundR.app (sound_set ..) ?_
    refine SoundR.app (sound_set ..) ?_
    exact h13
  · exact h13

theorem sound_softReset (chain : Bool) (s : State) : Sound s (softReset chain s) := by
  unfold softReset
  refine SoundR.intro ?_
  refine SoundR.app (sound_resetTo ..) ?_
  exact SoundR.self _

theorem sound_updLcs {s : State} {f : Lcs → Lcs} (h : ∀ l, (f l).fuses = l.fuses) : Sound s (s.updLcs f) :=
  SoundR.mk' (h s.lcs) (SoundR.self s)

theorem sound_fuseRequest (who : FuseFor) (bits : List FuseBit) (s : State) : Sound s (fuseRequest who bits s) := by
  unfold fuseRequest
  refine SoundR.intro ?_
  refine SoundR.app (sound_updLcs (fun _ => rfl)) ?_
  exact SoundR.self _

theorem sound_cmdError (e : Nat) (s : State) : Sound s (cmdError e s) := by
  unfold cmdError
  refine SoundR.intro ?_
  refine SoundR.app (sound_raise ..) ?_
  refine SoundR.app (sound_set ..) ?_
  exact SoundR.self _

theorem sound_cmdDone (s : State) : Sound s (cmdDone s) := by
  unfold cmdDone
  refine SoundR.intro ?_
  refine SoundR.app (sound_raise ..) ?_
  refine SoundR.app (sound_set ..) ?_
  refine SoundR.app (sound_set ..) ?_
  refine SoundR.app (sound_updLcs (fun _ => rfl)) ?_
  exact SoundR.self _

theorem sound_lcsCommand (cid cmd slot key : Nat) (s : State) : Sound s (lcsCommand cid cmd slot key s) := by
  unfold lcsCommand
  refine SoundR.intro ?_
  refine SoundR.ite ?_ ?_
  · refine SoundR.app (sound_cmdError ..) ?_
    exact SoundR.self _
  · refine SoundR.ite ?_ ?_
    · refine SoundR.app (sound_cmdError ..) ?_
      exact SoundR.self _
    · extract_lets +onlyGivenNames x1
      clear_value x1
      refine SoundR.ite ?_ ?_
      · refine SoundR.app (sound_cmdError ..) ?_
        exact SoundR.self _
      · extract_lets +onlyGivenNames x2
        have h3 : SoundR id s x2 := by
          unfold x2
          refine SoundR.app (sound_set ..) ?_
          refine SoundR.app (sound_updLcs (fun _ => rfl)) ?_
          exact SoundR.self _
        clear_value x2
        refine SoundR.ite ?_ ?_
        · refine SoundR.app (sound_wipeStart ..) ?_
          refine SoundR.app (sound_updLcs (fun _ => rfl)) ?_
          exact h3
        · refine SoundR.ite ?_ ?_
          · extract_lets +onlyGivenNames x4
            clear_value x4
            refine SoundR.app (sound_fuseRequest ..) ?_
            exact h3
          · refine SoundR.app (sound_fuseRequest ..) ?_
            exact h3

theorem sound_tampRecord (i : Nat) (s : State) : Sound s (tampRecord i s) := by
  unfold tampRecord
  refine SoundR.intro ?_
  refine SoundR.app (sound_raise ..) ?_
  refine SoundR.app (sound_set ..) ?_
  refine SoundR.app (sound_setBit ..) ?_
  exact SoundR.self _

theorem sound_tampStep3 (s : State) : Sound s (tampStep3 s) := by
  unfold tampStep3
  refine SoundR.intro ?_
  extract_lets +onlyGivenNames x1
  clear_value x1
  refine SoundR.ite ?_ ?_
  · refine SoundR.app (sound_fuseRequest ..) ?_
    exact SoundR.self _
  · refine SoundR.app (sound_wipeStart ..) ?_
    refine SoundR.app (sound_updLcs (fun _ => rfl)) ?_
    exact SoundR.self _

theorem sound_tampDetect (i : Nat) (s : State) : Sound s (tampDetect i s) := by
  unfold tampDetect
  refine SoundR.intro ?_
  refine SoundR.ite ?_ ?_
  · exact SoundR.self _
  · extract_lets +onlyGivenNames x1
    have h2 : SoundR id s x1 := by
      unfold x1
      refine SoundR.app (sound_setBit ..) ?_
      exact SoundR.self _
    clear_value x1
    split
    · rename_i v3 v4
      exact h2
    · rename_i v5 v6
      refine SoundR.app (sound_faultSummary ..) ?_
      refine SoundR.app (sound_tampRecord ..) ?_
      exact h2
    · rename_i v7 v8 v9 v10
      split
      · rename_i v11 v12 v13
        refine SoundR.app (sound_faultSummary ..) ?_
        refine SoundR.app (sound_tampRecord ..) ?_
        refine SoundR.app (sound_updLcs (fun _ => rfl)) ?_
        exact h2
      · rename_i v14 v15
        extract_lets +onlyGivenNames x16
        have h17 : SoundR id s x16 := by
          unfold x16
          refine SoundR.app (sound_updLcs (fun _ => rfl)) ?_
          exact h2
        clear_value x16
        refine SoundR.app (sound_tampStep3 ..) ?_
        refine SoundR.app (sound_tampRecord ..) ?_
        refine SoundR.app (sound_faultEval ..) ?_
        exact h17

theorem sound_tampEnd (i : Nat) (s : State) : Sound s (tampEnd i s) := by
  unfold tampEnd
  refine SoundR.intro ?_
  refine SoundR.app (sound_setBit ..) ?_
  exact SoundR.self _

theorem sound_tampFinish (s : State) : Sound s (tampFinish s) := by
  unfold tampFinish
  refine SoundR.intro ?_
  split
  · rename_i v1 v2
    exact SoundR.self _
  · rename_i v3 v4 v5
    refine SoundR.ite ?_ ?_
    · refine SoundR.app (sound_faultEval ..) ?_
      refine SoundR.app (sound_updLcs (fun _ => rfl)) ?_
      exact SoundR.self _
    · refine SoundR.ite ?_ ?_
      · refine SoundR.app (sound_softReset ..) ?_
        exact SoundR.self _
      · extract_lets +onlyGivenNames x6
        have h7 : SoundR id s x6 := by
          unfold x6
          refine SoundR.app (sound_updLcs (fun _ => rfl)) ?_
          exact SoundR.self _
        clear_value x6
        split
        · rename_i v8 v9
          refine SoundR.app (sound_softReset ..) ?_
          exact h7
        · rename_i v10 v11
          refine SoundR.app (sound_fuseRequest ..) ?_
          exact h7

theorem sound_wipeDone (ok : Bool) (s : State) : Sound s (wipeDone ok s) := by
  unfold wipeDone
  refine SoundR.intro ?_
  refine SoundR.ite ?_ ?_
  · exact SoundR.self _
  · extract_lets +onlyGivenNames x1
    clear_value x1
    extract_lets +onlyGivenNames x2
    have h3 : SoundR id s x2 := by
      unfold x2
      refine SoundR.app (sound_wipeFinish ..) ?_
      exact SoundR.self _
    clear_value x2
    extract_lets +onlyGivenNames x4
    have h5 : SoundR id s x4 := by
      unfold x4
      refine SoundR.ite ?_ ?_
      · refine SoundR.app (sound_tampFinish ..) ?_
        exact h3
      · exact h3
    clear_value x4
    refine SoundR.ite ?_ ?_
    · split
      · rename_i v6 v7 v8
        refine SoundR.app (sound_fuseRequest ..) ?_
        exact h5
      · rename_i v9 v10
        exact h5
    · exact h5

theorem sound_fuseFinished (who : FuseFor) (s : State) : Sound s (fuseFinished who s) := by
  unfold fuseFinished
  refine SoundR.intro ?_
  split
  · rename_i v1
    split
    · rename_i v2 v3 v4
      refine SoundR.ite ?_ ?_
      · refine SoundR.app (sound_softReset ..) ?_
        exact SoundR.self _
      · refine SoundR.app (sound_wipeStart ..) ?_
        refine SoundR.app (sound_updLcs (fun _ => rfl)) ?_
        exact SoundR.self _
    · rename_i v5 v6
      exact SoundR.self _
  · rename_i v7
    refine SoundR.app (sound_softReset ..) ?_
    refine SoundR.app (sound_cmdDone ..) ?_
    exact SoundR.self _
  · rename_i v8
    refine SoundR.app (sound_cmdDone ..) ?_
    exact SoundR.self _
  · rename_i v9
    refine SoundR.app (sound_set ..) ?_
    exact SoundR.self _

theorem sound_blowBit (b : FuseBit) (s : State) :
    Sound s (s.updLcs (fun l => { l with fuses := blow b l.fuses, bootRead := blow b l.bootRead })) :=
  ⟨rfl, fun c h => blow_mono b c _ h, le_rfl, fun h => h⟩

theorem sound_fuseBitDone (ok : Bool) (s : State) : Sound s (fuseBitDone ok s) := by
  unfold fuseBitDone
  refine SoundR.intro ?_
  split
  · exact SoundR.self s
  · refine SoundR.app (sound_fuseFinished ..) ?_
    refine SoundR.app (sound_updLcs (fun _ => rfl)) ?_
    exact SoundR.self s
  · extract_lets +onlyGivenNames t
    have h : SoundR id s t := by
      unfold t
      exact SoundR.ite (SoundR.app (sound_blowBit ..) (SoundR.self s)) (SoundR.self s)
    clear_value t
    extract_lets +onlyGivenNames u
    have k : SoundR id s u := by
      unfold u
      exact SoundR.app (sound_faultSummary ..) (SoundR.app (sound_fuseRegs ..) h)
    clear_value u
    refine SoundR.ite ?_ (SoundR.ite ?_ ?_)
    · refine SoundR.app (sound_set ..) ?_
      refine SoundR.app (sound_set ..) ?_
      refine SoundR.app (sound_updLcs (fun _ => rfl)) ?_
      exact k
    · refine SoundR.app (sound_fuseFinished ..) ?_
      refine SoundR.app (sound_updLcs (fun _ => rfl)) ?_
      exact k
    · refine SoundR.app (sound_updLcs (fun _ => rfl)) ?_
      exact k

theorem sound_bootConfirm (s : State) : Sound s (bootConfirm s) := by
  unfold bootConfirm
  refine SoundR.intro ?_
  extract_lets +onlyGivenNames x1
  clear_value x1
  extract_lets +onlyGivenNames x2
  clear_value x2
  refine SoundR.ite ?_ ?_
  · exact SoundR.self _
  · refine SoundR.ite ?_ ?_
    · refine SoundR.app (sound_set ..) ?_
      exact SoundR.self _
    · refine SoundR.app (sound_fuseRequest ..) ?_
      refine SoundR.app (sound_set ..) ?_
      exact SoundR.self _

theorem sound_fuseReread (match_ : Bool) (s : State) : Sound s (fuseReread match_ s) := by
  unfold fuseReread
  refine SoundR.intro ?_
  refine SoundR.ite ?_ ?_
  · exact SoundR.self _
  · extract_lets +onlyGivenNames x1
    have h2 : SoundR id s x1 := by
      unfold x1
      refine SoundR.app (sound_updLcs (fun _ => rfl)) ?_
      exact SoundR.self _
    clear_value x1
    refine SoundR.ite ?_ ?_
    · refine SoundR.app (sound_tampEnd ..) ?_
      exact h2
    · refine SoundR.app (sound_tampDetect ..) ?_
      exact h2

theorem sound_tampcfgWrite (w : Word) (s : State) : Sound s (tampcfgWrite w s) := by
  unfold tampcfgWrite
  refine SoundR.intro ?_
  refine SoundR.ite ?_ ?_
  · extract_lets +onlyGivenNames x1
    clear_value x1
    extract_lets +onlyGivenNames x2
    clear_value x2
    extract_lets +onlyGivenNames x3
    clear_value x3
    refine SoundR.app (sound_set ..) ?_
    refine SoundR.app (sound_set ..) ?_
    exact SoundR.self _
  · refine SoundR.app (sound_setWord ..) ?_
    exact SoundR.self _

theorem sound_tampClear (w : Word) (s : State) : Sound s (tampClear w s) := by
  unfold tampClear
  refine SoundR.intro ?_
  refine SoundR.app (sound_set ..) ?_
  exact SoundR.self _

theorem sound_setWdCount (n c : Nat) (s : State) : Sound s (setWdCount n c s) := by
  unfold setWdCount
  refine SoundR.intro ?_
  refine SoundR.app (sound_setB ..) ?_
  refine SoundR.app (sound_set ..) ?_
  exact SoundR.self _

theorem sound_wdViolation (n viol : Nat) (s : State) : Sound s (wdViolation n viol s) := by
  unfold wdViolation
  refine SoundR.intro ?_
  refine SoundR.ite ?_ ?_
  · exact SoundR.self _
  · extract_lets +onlyGivenNames x1
    have h2 : SoundR id s x1 := by
      unfold x1
      refine SoundR.app (sound_updLcs (fun _ => rfl)) ?_
      exact SoundR.self _
    clear_value x1
    extract_lets +onlyGivenNames x3
    have h4 : SoundR id s x3 := by
      unfold x3
      refine SoundR.app (sound_set ..) ?_
      refine SoundR.app (sound_set ..) ?_
      exact h2
    clear_value x3
    refine SoundR.app (sound_raise ..) ?_
    refine SoundR.app (sound_faultEval ..) ?_
    exact h4

theorem sound_wdRestart (n : Nat) (s : State) : Sound s (wdRestart n s) := by
  unfold wdRestart
  refine SoundR.intro ?_
  refine SoundR.app (sound_setWdCount ..) ?_
  refine SoundR.app (sound_updLcs (fun _ => rfl)) ?_
  exact SoundR.self _

theorem sound_wdEnable (n : Nat) (s : State) : Sound s (wdEnable n s) := by
  unfold wdEnable
  refine SoundR.intro ?_
  extract_lets +onlyGivenNames x1
  clear_value x1
  extract_lets +onlyGivenNames x2
  clear_value x2
  refine SoundR.ite ?_ ?_
  · refine SoundR.app (sound_set ..) ?_
    exact SoundR.self _
  · refine SoundR.app (sound_set ..) ?_
    refine SoundR.app (sound_wdRestart ..) ?_
    refine SoundR.app (sound_set ..) ?_
    exact SoundR.self _

theorem sound_wdCtlWrite (n : Nat) (w : Word) (s : State) : SoundR Prod.snd s (wdCtlWrite n w s) := by
  unfold wdCtlWrite
  refine SoundR.ite ?_ ?_
  · refine SoundR.mkSnd ?_
    exact SoundR.self _
  · extract_lets +onlyGivenNames x1
    clear_value x1
    extract_lets +onlyGivenNames x2
    have h3 : SoundR id s x2 := by
      unfold x2
      refine SoundR.app (sound_set ..) ?_
      refine SoundR.app (sound_set ..) ?_
      refine SoundR.app (sound_set ..) ?_
      exact SoundR.self _
    clear_value x2
    extract_lets +onlyGivenNames x4
    have h5 : SoundR id s x4 := by
      unfold x4
      refine SoundR.ite ?_ ?_
      · refine SoundR.app (sound_set ..) ?_
        exact h3
      · exact h3
    clear_value x4
    refine SoundR.ite ?_ ?_
    · refine SoundR.mkSnd ?_
      refine SoundR.app (sound_set ..) ?_
      exact h5
    · refine SoundR.ite ?_ ?_
      · refine SoundR.mkSnd ?_
        exact h5
      · refine SoundR.mkSnd ?_
        refine SoundR.app (sound_wdEnable ..) ?_
        exact h5

theorem sound_wdWinWrite (n : Nat) (w : Word) (s : State) : SoundR Prod.snd s (wdWinWrite n w s) := by
  unfold wdWinWrite
  refine SoundR.ite ?_ ?_
  · refine SoundR.mkSnd ?_
    exact SoundR.self _
  · extract_lets +onlyGivenNames x1
    have h2 : SoundR id s x1 := by
      unfold x1
      refine SoundR.app (sound_setWord ..) ?_
      exact SoundR.self _
    clear_value x1
    refine SoundR.mkSnd ?_
    refine SoundR.app (sound_setWdCount ..) ?_
    exact h2

theorem sound_wdKick (n cid key : Nat) (s : State) : Sound s (wdKick n cid key s) := by
  unfold wdKick
  refine SoundR.intro ?_
  refine SoundR.ite ?_ ?_
  · exact SoundR.self _
  · extract_lets +onlyGivenNames x1
    clear_value x1
    refine SoundR.ite ?_ ?_
    · refine SoundR.app (sound_wdViolation ..) ?_
      exact SoundR.self _
    · refine SoundR.ite ?_ ?_
      · refine SoundR.app (sound_wdViolation ..) ?_
        exact SoundR.self _
      · refine SoundR.ite ?_ ?_
        · refine SoundR.app (sound_wdViolation ..) ?_
          exact SoundR.self _
        · refine SoundR.app (sound_set ..) ?_
          refine SoundR.app (sound_wdRestart ..) ?_
          exact SoundR.self _

theorem sound_wdLate (n : Nat) (s : State) : Sound s (wdLate n s) := by
  unfold wdLate
  refine SoundR.intro ?_
  refine SoundR.ite ?_ ?_
  · refine SoundR.app (sound_wdViolation ..) ?_
    exact SoundR.self _
  · exact SoundR.self _

theorem sound_wdReset (s : State) : Sound s (wdReset s) := by
  unfold wdReset
  refine SoundR.intro ?_
  refine SoundR.ite ?_ ?_
  · refine SoundR.app (sound_resetTo ..) ?_
    exact SoundR.self _
  · exact SoundR.self _

theorem sound_clkmonSet (fault : Bool) (s : State) : Sound s (clkmonSet fault s) := by
  unfold clkmonSet
  refine SoundR.intro ?_
  refine SoundR.ite ?_ ?_
  · exact SoundR.self _
  · refine SoundR.app (sound_faultEval ..) ?_
    refine SoundR.app (sound_updLcs (fun _ => rfl)) ?_
    exact SoundR.self _

theorem sound_faultSet (w : Word) (s : State) : Sound s (faultSet w s) := by
  unfold faultSet
  refine SoundR.intro ?_
  refine SoundR.ite ?_ ?_
  · refine SoundR.app (sound_faultPulse ..) ?_
    exact SoundR.self _
  · exact SoundR.self _

theorem sound_faultClear (key : Nat) (s : State) : Sound s (faultClear key s) := by
  unfold faultClear
  refine SoundR.intro ?_
  refine SoundR.ite ?_ ?_
  · exact SoundR.self _
  · extract_lets +onlyGivenNames x1
    have h2 : SoundR id s x1 := by
      unfold x1
      refine SoundR.app (sound_set ..) ?_
      exact SoundR.self _
    clear_value x1
    extract_lets +onlyGivenNames x3
    have h4 : SoundR id s x3 := by
      unfold x3
      refine SoundR.ite ?_ ?_
      · refine SoundR.app (sound_raise ..) ?_
        refine SoundR.app (sound_set ..) ?_
        exact h2
      · exact h2
    clear_value x3
    refine SoundR.app (sound_faultSummary ..) ?_
    exact h4

theorem sound_fclassWrite (w : Word) (s : State) : Sound s (fclassWrite w s) := by
  unfold fclassWrite
  refine SoundR.intro ?_
  extract_lets +onlyGivenNames x1
  clear_value x1
  refine SoundR.app (sound_faultEval ..) ?_
  refine SoundR.app (sound_setWord ..) ?_
  exact SoundR.self _

theorem sound_lcsWrite (cid a : Nat) (w : Word) (s : State) : SoundO Prod.snd s (lcsWrite cid a w s) := by
  unfold lcsWrite
  refine SoundO.ite ?_ ?_
  · exact SoundO.none
  · extract_lets +onlyGivenNames x1
    clear_value x1
    refine SoundO.ite ?_ ?_
    · refine SoundO.some ?_
      refine SoundR.mkSnd ?_
      refine SoundR.app (sound_wdKick ..) ?_
      exact SoundR.self _
    · refine SoundO.ite ?_ ?_
      · refine SoundO.some ?_
        refine SoundR.mkSnd ?_
        exact SoundR.self _
      · refine SoundO.ite ?_ ?_
        · refine SoundO.some ?_
          refine SoundR.mkSnd ?_
          refine SoundR.app (sound_lcsCommand ..) ?_
          exact SoundR.self _
        · refine SoundO.ite ?_ ?_
          · refine SoundO.some ?_
            refine SoundR.mkSnd ?_
            exact SoundR.self _
          · refine SoundO.ite ?_ ?_
            · refine SoundO.some ?_
              refine SoundR.mkSnd ?_
              refine SoundR.app (sound_tampcfgWrite ..) ?_
              exact SoundR.self _
            · refine SoundO.ite ?_ ?_
              · refine SoundO.some ?_
                refine SoundR.mkSnd ?_
                refine SoundR.app (sound_faultSummary ..) ?_
                refine SoundR.app (sound_tampClear ..) ?_
                exact SoundR.self _
              · refine SoundO.ite ?_ ?_
                · refine SoundO.some ?_
                  refine SoundR.appG (sound_wdCtlWrite ..) ?_
                  exact SoundR.self _
                · refine SoundO.ite ?_ ?_
                  · refine SoundO.some ?_
                    refine SoundR.appG (sound_wdWinWrite ..) ?_
                    exact SoundR.self _
                  · refine SoundO.ite ?_ ?_
                    · refine SoundO.some ?_
                      refine SoundR.mkSnd ?_
                      refine SoundR.app (sound_fclassWrite ..) ?_
                      exact SoundR.self _
                    · refine SoundO.ite ?_ ?_
                      · refine SoundO.some ?_
                        refine SoundR.mkSnd ?_
                        refine SoundR.app (sound_faultSummary ..) ?_
                        refine SoundR.app (sound_setWord ..) ?_
                        exact SoundR.self _
                      · refine SoundO.ite ?_ ?_
                        · refine SoundO.some ?_
                          refine SoundR.mkSnd ?_
                          refine SoundR.app (sound_faultClear ..) ?_
                          exact SoundR.self _
                        · refine SoundO.ite ?_ ?_
                          · refine SoundO.some ?_
                            refine SoundR.mkSnd ?_
                            refine SoundR.app (sound_faultSet ..) ?_
                            exact SoundR.self _
                          · refine SoundO.ite ?_ ?_
                            · refine SoundO.some ?_
                              refine SoundR.mkSnd ?_
                              refine SoundR.app (sound_faultSummary ..) ?_
                              refine SoundR.app (sound_setWord ..) ?_
                              exact SoundR.self _
                            · exact SoundO.none

theorem sound_lcsAccWrite (a : Nat) (w : Word) (s : State) : SoundR Prod.snd s (lcsAccWrite a w s) := by
  unfold lcsAccWrite
  refine SoundR.ite ?_ ?_
  · refine SoundR.mkSnd ?_
    exact SoundR.self _
  · refine SoundR.ite ?_ ?_
    · refine SoundR.mkSnd ?_
      refine SoundR.app (sound_lcsCommand ..) ?_
      exact SoundR.self _
    · refine SoundR.ite ?_ ?_
      · refine SoundR.mkSnd ?_
        refine SoundR.app (sound_setWord ..) ?_
        exact SoundR.self _
      · refine SoundR.mkSnd ?_
        exact SoundR.self _

theorem sound_updCamp (s : State) (c : Fin 2) (f : Camp → Camp) : Sound s (State.updCamp s c f) := by
  unfold State.updCamp
  refine SoundR.intro ?_
  refine SoundR.mk' rfl ?_
  exact SoundR.self _

theorem sound_noteLevels (c : Fin 2) (s : State) : Sound s (noteLevels c s) := by
  unfold noteLevels
  refine SoundR.intro ?_
  extract_lets +onlyGivenNames x1
  clear_value x1
  refine SoundR.app (sound_updCamp ..) ?_
  exact SoundR.self _

theorem sound_levelStart (c : Fin 2) (s : State) : Sound s (levelStart c s) := by
  unfold levelStart
  refine SoundR.intro ?_
  extract_lets +onlyGivenNames x1
  clear_value x1
  refine SoundR.ite ?_ ?_
  · exact SoundR.self _
  · split
    · rename_i v2 v3
      exact SoundR.self _
    · rename_i v4 v5 v6
      extract_lets +onlyGivenNames x7
      have h8 : SoundR id s x7 := by
        unfold x7
        refine SoundR.app (sound_noteLevels ..) ?_
        exact SoundR.self _
      clear_value x7
      extract_lets +onlyGivenNames x9
      clear_value x9
      extract_lets +onlyGivenNames x10
      have h11 : SoundR Prod.snd s x10 := by
        unfold x10
        refine SoundR.ite ?_ ?_
        · refine SoundR.mkSnd ?_
          refine SoundR.app (sound_updSched ..) ?_
          exact h8
        · split
          · rename_i v12 v13 v14
            refine SoundR.mkSnd ?_
            refine SoundR.app (sound_setRoutePend ..) ?_
            exact h8
          · rename_i v15 v16
            refine SoundR.mkSnd ?_
            exact h8
      clear_value x10
      refine SoundR.app (sound_updCamp ..) ?_
      exact h11

theorem sound_coreStart (c : Fin 2) (s : State) : Sound s (coreStart c s) := by
  unfold coreStart
  refine SoundR.intro ?_
  refine SoundR.app (sound_updSched ..) ?_
  refine SoundR.app (sound_updCamp ..) ?_
  exact SoundR.self _

theorem sound_coreRestart (c : Fin 2) (s : State) : Sound s (coreRestart c s) := by
  unfold coreRestart
  refine SoundR.intro ?_
  extract_lets +onlyGivenNames x1
  clear_value x1
  extract_lets +onlyGivenNames x2
  clear_value x2
  extract_lets +onlyGivenNames x3
  clear_value x3
  extract_lets +onlyGivenNames x4
  have h5 : SoundR id s x4 := by
    unfold x4
    refine SoundR.ite ?_ ?_
    · refine SoundR.app (sound_updSched ..) ?_
      exact SoundR.self _
    · refine SoundR.app (sound_updSched ..) ?_
      refine SoundR.app (sound_legsFault ..) ?_
      exact SoundR.self _
  clear_value x4
  extract_lets +onlyGivenNames x6
  have h7 : SoundR id s x6 := by
    unfold x6
    refine SoundR.ite ?_ ?_
    · refine SoundR.app (sound_govChange ..) ?_
      exact h5
    · exact h5
  clear_value x6
  extract_lets +onlyGivenNames x8
  have h9 : SoundR id s x8 := by
    unfold x8
    refine SoundR.forEach _ ?_ ?_
    · intro a10 a11
      refine SoundR.ite ?_ ?_
      · refine SoundR.app (sound_setRoutePend ..) ?_
        exact SoundR.self _
      · exact SoundR.self _
    · exact h7
  clear_value x8
  extract_lets +onlyGivenNames x12
  have h13 : SoundR id s x12 := by
    unfold x12
    refine SoundR.app (sound_updSched ..) ?_
    exact h9
  clear_value x12
  extract_lets +onlyGivenNames x14
  have h15 : SoundR id s x14 := by
    unfold x14
    refine SoundR.forEach _ ?_ ?_
    · intro a16 a17
      refine SoundR.app (sound_poolReclaim ..) ?_
      refine SoundR.app (sound_semReclaim ..) ?_
      exact SoundR.self _
    · exact h13
  clear_value x14
  extract_lets +onlyGivenNames x18
  have h19 : SoundR id s x18 := by
    unfold x18
    refine SoundR.app (sound_updCamp ..) ?_
    exact h15
  clear_value x18
  refine SoundR.ite ?_ ?_
  · refine SoundR.app (sound_updCamp ..) ?_
    exact h19
  · refine SoundR.app (sound_coreStart ..) ?_
    exact h19

theorem sound_cpCtlWrite (c : Fin 2) (cid : Nat) (w : Word) (s : State) : SoundR Prod.snd s (cpCtlWrite c cid w s) := by
  unfold cpCtlWrite
  refine SoundR.ite ?_ ?_
  · refine SoundR.mkSnd ?_
    exact SoundR.self _
  · extract_lets +onlyGivenNames x1
    clear_value x1
    extract_lets +onlyGivenNames x2
    have h3 : SoundR id s x2 := by
      unfold x2
      refine SoundR.ite ?_ ?_
      · refine SoundR.app (sound_set ..) ?_
        exact SoundR.self _
      · refine SoundR.app (sound_set ..) ?_
        refine SoundR.app (sound_set ..) ?_
        exact SoundR.self _
    clear_value x2
    refine SoundR.ite ?_ ?_
    · refine SoundR.mkSnd ?_
      exact h3
    · refine SoundR.ite ?_ ?_
      · refine SoundR.mkSnd ?_
        refine SoundR.app (sound_coreRestart ..) ?_
        exact h3
      · refine SoundR.ite ?_ ?_
        · refine SoundR.mkSnd ?_
          refine SoundR.app (sound_coreStart ..) ?_
          exact h3
        · refine SoundR.mkSnd ?_
          exact h3

theorem sound_updSync (s : State) (f : Sync → Sync) : Sound s (State.updSync s f) := by
  unfold State.updSync
  refine SoundR.intro ?_
  refine SoundR.mk' rfl ?_
  exact SoundR.self _

theorem sound_updRelay (s : State) (f : Relay → Relay) : Sound s (State.updRelay s f) := by
  unfold State.updRelay
  refine SoundR.intro ?_
  refine SoundR.mk' rfl ?_
  exact SoundR.self _

theorem sound_syncSend (s : State) : Sound s (syncSend s) := by
  unfold syncSend
  refine SoundR.intro ?_
  refine SoundR.ite ?_ ?_
  · extract_lets +onlyGivenNames x1
    clear_value x1
    extract_lets +onlyGivenNames x2
    clear_value x2
    refine SoundR.app (sound_chainSend ..) ?_
    refine SoundR.app (sound_updSync ..) ?_
    exact SoundR.self _
  · exact SoundR.self _

theorem sound_stepTime (d : Int) (s : State) : Sound s (stepTime d s) := by
  unfold stepTime
  refine SoundR.intro ?_
  refine SoundR.mk' rfl ?_
  exact SoundR.self _

theorem sound_syncReceive (p : Nat) (tb16 : Nat) (f : Frame) (s : State) : Sound s (syncReceive p tb16 f s) := by
  unfold syncReceive
  refine SoundR.intro ?_
  refine SoundR.ite ?_ ?_
  · exact SoundR.self _
  · extract_lets +onlyGivenNames x1
    clear_value x1
    extract_lets +onlyGivenNames x2
    clear_value x2
    extract_lets +onlyGivenNames x3
    clear_value x3
    extract_lets +onlyGivenNames x4
    have h5 : SoundR id s x4 := by
      unfold x4
      refine SoundR.app (sound_set ..) ?_
      refine SoundR.app (sound_setInt ..) ?_
      exact SoundR.self _
    clear_value x4
    extract_lets +onlyGivenNames x6
    have h7 : SoundR id s x6 := by
      unfold x6
      refine SoundR.app (sound_updSync ..) ?_
      exact h5
    clear_value x6
    extract_lets +onlyGivenNames x8
    have h9 : SoundR id s x8 := by
      unfold x8
      refine SoundR.app (sound_set ..) ?_
      exact h7
    clear_value x8
    refine SoundR.ite ?_ ?_
    · extract_lets +onlyGivenNames x10
      have h11 : SoundR id s x10 := by
        unfold x10
        refine SoundR.app (sound_count ..) ?_
        refine SoundR.app (sound_stepTime ..) ?_
        exact h9
      clear_value x10
      refine SoundR.app (sound_xEvent ..) ?_
      refine SoundR.app (sound_discTo ..) ?_
      refine SoundR.app (sound_updSync ..) ?_
      exact h11
    · extract_lets +onlyGivenNames x12
      clear_value x12
      extract_lets +onlyGivenNames x13
      clear_value x13
      extract_lets +onlyGivenNames x14
      clear_value x14
      extract_lets +onlyGivenNames x15
      clear_value x15
      extract_lets +onlyGivenNames x16
      clear_value x16
      extract_lets +onlyGivenNames x17
      have h18 : SoundR id s x17 := by
        unfold x17
        refine SoundR.app (sound_updSync ..) ?_
        exact h9
      clear_value x17
      extract_lets +onlyGivenNames x19
      have h20 : SoundR id s x19 := by
        unfold x19
        refine SoundR.app (sound_setInt ..) ?_
        exact h18
      clear_value x19
      refine SoundR.ite ?_ ?_
      · refine SoundR.app (sound_discTo ..) ?_
        exact h20
      · exact h20

theorem sound_syncLost (s : State) : Sound s (syncLost s) := by
  unfold syncLost
  refine SoundR.intro ?_
  refine SoundR.ite ?_ ?_
  · exact SoundR.self _
  · refine SoundR.app (sound_xEvent ..) ?_
    refine SoundR.app (sound_discTo ..) ?_
    refine SoundR.app (sound_updSync ..) ?_
    exact SoundR.self _

theorem sound_syncTick (s : State) : Sound s (syncTick s) := by
  unfold syncTick
  refine SoundR.intro ?_
  extract_lets +onlyGivenNames x1
  clear_value x1
  extract_lets +onlyGivenNames x2
  have h3 : SoundR id s x2 := by
    unfold x2
    refine SoundR.app (sound_updSync ..) ?_
    exact SoundR.self _
  clear_value x2
  refine SoundR.ite ?_ ?_
  · exact h3
  · refine SoundR.app (sound_count ..) ?_
    refine SoundR.app (sound_updSync ..) ?_
    exact h3

theorem sound_slewTick (s : State) : SoundR Prod.snd s (slewTick s) := by
  unfold slewTick
  extract_lets +onlyGivenNames x1
  clear_value x1
  refine SoundR.ite ?_ ?_
  · refine SoundR.mkSnd ?_
    exact SoundR.self _
  · extract_lets +onlyGivenNames x2
    clear_value x2
    extract_lets +onlyGivenNames x3
    clear_value x3
    extract_lets +onlyGivenNames x4
    clear_value x4
    extract_lets +onlyGivenNames x5
    clear_value x5
    refine SoundR.mkSnd ?_
    refine SoundR.app (sound_updSync ..) ?_
    exact SoundR.self _

theorem sound_pdreqSend (s : State) : Sound s (pdreqSend s) := by
  unfold pdreqSend
  refine SoundR.intro ?_
  refine SoundR.ite ?_ ?_
  · exact SoundR.self _
  · extract_lets +onlyGivenNames x1
    clear_value x1
    extract_lets +onlyGivenNames x2
    have h3 : SoundR id s x2 := by
      unfold x2
      refine SoundR.app (sound_updSync ..) ?_
      exact SoundR.self _
    clear_value x2
    refine SoundR.app (sound_chainSendOn ..) ?_
    exact h3

theorem sound_onPdreq (p : Nat) (f : Frame) (s : State) : Sound s (onPdreq p f s) := by
  unfold onPdreq
  refine SoundR.intro ?_
  refine SoundR.ite ?_ ?_
  · exact SoundR.self _
  · refine SoundR.app (sound_chainSendOn ..) ?_
    exact SoundR.self _

theorem sound_onPdrsp (f : Frame) (s : State) : Sound s (onPdrsp f s) := by
  unfold onPdrsp
  refine SoundR.intro ?_
  split
  · rename_i v1 v2
    exact SoundR.self _
  · rename_i v3 v4 v5
    refine SoundR.ite ?_ ?_
    · exact SoundR.self _
    · extract_lets +onlyGivenNames x6
      clear_value x6
      extract_lets +onlyGivenNames x7
      clear_value x7
      extract_lets +onlyGivenNames x8
      clear_value x8
      refine SoundR.app (sound_setInt ..) ?_
      refine SoundR.app (sound_updSync ..) ?_
      exact SoundR.self _

theorem sound_timeSet (hi : Bool) (w : Word) (s : State) : Sound s (timeSet hi w s) := by
  unfold timeSet
  refine SoundR.intro ?_
  refine SoundR.ite ?_ ?_
  · refine SoundR.app (sound_updSync ..) ?_
    exact SoundR.self _
  · refine SoundR.app (sound_updSync ..) ?_
    refine SoundR.mk' rfl ?_
    exact SoundR.self _

theorem sound_onRelayreq (s : State) : Sound s (onRelayreq s) := by
  unfold onRelayreq
  refine SoundR.intro ?_
  extract_lets +onlyGivenNames x1
  refine SoundR.ite ?_ ?_
  · unfold x1
    refine SoundR.app (sound_chainSendOn ..) ?_
    exact SoundR.self _
  · refine SoundR.ite ?_ ?_
    · refine SoundR.ite ?_ ?_
      · unfold x1
        refine SoundR.app (sound_chainSendOn ..) ?_
        exact SoundR.self _
      · refine SoundR.ite ?_ ?_
        · unfold x1
          refine SoundR.app (sound_chainSendOn ..) ?_
          exact SoundR.self _
        · refine SoundR.app (sound_updRelay ..) ?_
          exact SoundR.self _
    · refine SoundR.app (sound_updRelay ..) ?_
      exact SoundR.self _

theorem sound_relayAnswerHeld (s : State) : Sound s (relayAnswerHeld s) := by
  unfold relayAnswerHeld
  refine SoundR.intro ?_
  refine SoundR.ite ?_ ?_
  · exact SoundR.self _
  · refine SoundR.app (sound_onRelayreq ..) ?_
    refine SoundR.app (sound_updRelay ..) ?_
    exact SoundR.self _

theorem sound_relayRoundStart (s : State) : Sound s (relayRoundStart s) := by
  unfold relayRoundStart
  refine SoundR.intro ?_
  extract_lets +onlyGivenNames x1
  clear_value x1
  refine SoundR.ite ?_ ?_
  · exact SoundR.self _
  · extract_lets +onlyGivenNames x2
    clear_value x2
    extract_lets +onlyGivenNames x3
    clear_value x3
    refine SoundR.app (sound_chainSendOn ..) ?_
    refine SoundR.app (sound_updRelay ..) ?_
    exact SoundR.self _

theorem sound_onRelayref (s : State) : Sound s (onRelayref s) := by
  unfold onRelayref
  refine SoundR.intro ?_
  exact SoundR.self _

theorem sound_onRelaystart (f : Frame) (s : State) : Sound s (onRelaystart f s) := by
  unfold onRelaystart
  refine SoundR.intro ?_
  extract_lets +onlyGivenNames x1
  clear_value x1
  refine SoundR.ite ?_ ?_
  · refine SoundR.app (sound_updRelay ..) ?_
    exact SoundR.self _
  · exact SoundR.self _

theorem sound_onRelaymark (f : Frame) (s : State) : Sound s (onRelaymark f s) := by
  unfold onRelaymark
  refine SoundR.intro ?_
  extract_lets +onlyGivenNames x1
  clear_value x1
  split
  · rename_i v2 v3
    exact SoundR.self _
  · rename_i v4 v5 v6
    refine SoundR.ite ?_ ?_
    · refine SoundR.app (sound_updRelay ..) ?_
      exact SoundR.self _
    · refine SoundR.app (sound_relayLeave ..) ?_
      exact SoundR.self _

theorem sound_onRelaydata (f : Frame) (s : State) : Sound s (onRelaydata f s) := by
  unfold onRelaydata
  refine SoundR.intro ?_
  extract_lets +onlyGivenNames x1
  clear_value x1
  refine SoundR.ite ?_ ?_
  · exact SoundR.self _
  · refine SoundR.ite ?_ ?_
    · refine SoundR.app (sound_updRelay ..) ?_
      exact SoundR.self _
    · refine SoundR.app (sound_relayLeave ..) ?_
      exact SoundR.self _

theorem sound_onRelayend (f : Frame) (s : State) : SoundR Prod.snd s (onRelayend f s) := by
  unfold onRelayend
  extract_lets +onlyGivenNames x1
  clear_value x1
  split
  · rename_i v2 v3
    refine SoundR.mkSnd ?_
    exact SoundR.self _
  · rename_i v4 v5 v6
    refine SoundR.ite ?_ ?_
    · refine SoundR.mkSnd ?_
      refine SoundR.app (sound_updRelay ..) ?_
      exact SoundR.self _
    · refine SoundR.mkSnd ?_
      refine SoundR.app (sound_relayLeave ..) ?_
      exact SoundR.self _

theorem sound_relayTimeout (s : State) : Sound s (relayTimeout s) := by
  unfold relayTimeout
  refine SoundR.intro ?_
  refine SoundR.ite ?_ ?_
  · refine SoundR.app (sound_relayLeave ..) ?_
    exact SoundR.self _
  · exact SoundR.self _

theorem sound_limpRetry (s : State) : Sound s (limpRetry s) := by
  unfold limpRetry
  refine SoundR.intro ?_
  refine SoundR.ite ?_ ?_
  · refine SoundR.app (sound_relayRequest ..) ?_
    exact SoundR.self _
  · exact SoundR.self _

theorem sound_mrsp (f : Frame) (status : Nat) (data : List Byte) (s : State) : Sound s (mrsp f status data s) := by
  unfold mrsp
  refine SoundR.intro ?_
  refine SoundR.app (sound_chainSend ..) ?_
  exact SoundR.self _

theorem sound_setMaint (o : Bool) (holder : Nat) (s : State) : Sound s (setMaint o holder s) := by
  unfold setMaint
  refine SoundR.intro ?_
  extract_lets +onlyGivenNames x1
  have h2 : SoundR id s x1 := by
    unfold x1
    refine SoundR.app (sound_set ..) ?_
    refine SoundR.app (sound_setB ..) ?_
    exact SoundR.self _
  clear_value x1
  refine SoundR.ite ?_ ?_
  · exact h2
  · refine SoundR.app (sound_xEvent ..) ?_
    exact h2

theorem sound_maintRenew (p : Nat) (f : Frame) (s : State) : Sound s (maintRenew p f s) := by
  unfold maintRenew
  refine SoundR.intro ?_
  refine SoundR.ite ?_ ?_
  · refine SoundR.mk' rfl ?_
    exact SoundR.self _
  · exact SoundR.self _

theorem sound_onMopen (p : Nat) (f : Frame) (s : State) : Sound s (onMopen p f s) := by
  unfold onMopen
  refine SoundR.intro ?_
  refine SoundR.ite ?_ ?_
  · refine SoundR.app (sound_mrsp ..) ?_
    refine SoundR.app (sound_setMaint ..) ?_
    refine SoundR.app (sound_maintRenew ..) ?_
    exact SoundR.self _
  · refine SoundR.app (sound_mrsp ..) ?_
    refine SoundR.app (sound_maintRenew ..) ?_
    exact SoundR.self _

theorem sound_flashStart (p : Nat) (f : Frame) (status : Nat) (op : FlashOp) (s : State) : Sound s (flashStart p f status op s) := by
  unfold flashStart
  refine SoundR.intro ?_
  extract_lets +onlyGivenNames x1
  have h2 : SoundR id s x1 := by
    unfold x1
    refine SoundR.app (sound_maintRenew ..) ?_
    exact SoundR.self _
  clear_value x1
  refine SoundR.ite ?_ ?_
  · refine SoundR.mk' rfl ?_
    exact h2
  · refine SoundR.app (sound_mrsp ..) ?_
    exact h2

theorem sound_onMread (p : Nat) (f : Frame) (s : State) : Sound s (onMread p f s) := by
  unfold onMread
  refine SoundR.intro ?_
  extract_lets +onlyGivenNames x1
  clear_value x1
  extract_lets +onlyGivenNames x2
  clear_value x2
  refine SoundR.app (sound_flashStart ..) ?_
  exact SoundR.self _

theorem sound_onMerase (p : Nat) (f : Frame) (s : State) : Sound s (onMerase p f s) := by
  unfold onMerase
  refine SoundR.intro ?_
  extract_lets +onlyGivenNames x1
  clear_value x1
  extract_lets +onlyGivenNames x2
  clear_value x2
  refine SoundR.app (sound_flashStart ..) ?_
  exact SoundR.self _

theorem sound_onMprog (p : Nat) (f : Frame) (s : State) : Sound s (onMprog p f s) := by
  unfold onMprog
  refine SoundR.intro ?_
  extract_lets +onlyGivenNames x1
  clear_value x1
  extract_lets +onlyGivenNames x2
  clear_value x2
  refine SoundR.app (sound_flashStart ..) ?_
  exact SoundR.self _

theorem sound_setFlashByte (a : Nat) (v : Byte) (s : State) : Sound s (setFlashByte a v s) := by
  unfold setFlashByte
  refine SoundR.intro ?_
  refine SoundR.mk' rfl ?_
  exact SoundR.self _

theorem sound_flashDone (ok : Bool) (s : State) : Sound s (flashDone ok s) := by
  unfold flashDone
  refine SoundR.intro ?_
  split
  · rename_i v1 v2
    exact SoundR.self _
  · rename_i v3 v4 v5
    refine SoundR.ite ?_ ?_
    · exact SoundR.self _
    · extract_lets +onlyGivenNames x6
      clear_value x6
      extract_lets +onlyGivenNames x7
      clear_value x7
      extract_lets +onlyGivenNames x8
      have h9 : SoundR id s x8 := by
        unfold x8
        refine SoundR.mk' rfl ?_
        exact SoundR.self _
      clear_value x8
      refine SoundR.ite ?_ ?_
      · refine SoundR.app (sound_mrsp ..) ?_
        exact h9
      · split
        · rename_i v10 v11 v12
          refine SoundR.app (sound_mrsp ..) ?_
          exact h9
        · rename_i v13 v14 v15
          extract_lets +onlyGivenNames x16
          clear_value x16
          refine SoundR.app (sound_mrsp ..) ?_
          refine SoundR.mk' rfl ?_
          exact h9
        · rename_i v17 v18 v19
          refine SoundR.app (sound_mrsp ..) ?_
          refine SoundR.foldl _ ?_ ?_
          · intro a20 a21
            refine SoundR.app (sound_setFlashByte ..) ?_
            exact SoundR.self _
          · exact h9

theorem sound_onMclose (p : Nat) (f : Frame) (s : State) : SoundR Prod.snd s (onMclose p f s) := by
  unfold onMclose
  refine SoundR.ite ?_ ?_
  · refine SoundR.mkSnd ?_
    refine SoundR.app (sound_mrsp ..) ?_
    exact SoundR.self _
  · refine SoundR.ite ?_ ?_
    · refine SoundR.mkSnd ?_
      refine SoundR.app (sound_mrsp ..) ?_
      refine SoundR.app (sound_maintRenew ..) ?_
      exact SoundR.self _
    · refine SoundR.mkSnd ?_
      refine SoundR.app (sound_mrsp ..) ?_
      refine SoundR.app (sound_setMaint ..) ?_
      exact SoundR.self _

theorem sound_maintTimeout (s : State) : Sound s (maintTimeout s) := by
  unfold maintTimeout
  refine SoundR.intro ?_
  refine SoundR.ite ?_ ?_
  · refine SoundR.app (sound_setMaint ..) ?_
    exact SoundR.self _
  · exact SoundR.self _

theorem sound_hostStat (s : State) : Sound s (hostStat s) := by
  unfold hostStat
  refine SoundR.intro ?_
  refine SoundR.app (sound_set ..) ?_
  refine SoundR.app (sound_set ..) ?_
  exact SoundR.self _

theorem sound_hostSpi (mode3 : Bool) (tx : Option (Nat × List Byte)) (rx : Bool) (s : State) : Sound s (hostSpi mode3 tx rx s) := by
  unfold hostSpi
  refine SoundR.intro ?_
  refine SoundR.ite ?_ ?_
  · exact SoundR.self _
  · refine SoundR.ite ?_ ?_
    · refine SoundR.app (sound_setB ..) ?_
      exact SoundR.self _
    · extract_lets +onlyGivenNames x1
      have h2 : SoundR id s x1 := by
        unfold x1
        refine SoundR.app (sound_setB ..) ?_
        exact SoundR.self _
      clear_value x1
      extract_lets +onlyGivenNames x3
      have h4 : SoundR id s x3 := by
        unfold x3
        refine SoundR.app (sound_answer ..) ?_
        exact h2
      clear_value x3
      extract_lets +onlyGivenNames x5
      clear_value x5
      extract_lets +onlyGivenNames x6
      clear_value x6
      extract_lets +onlyGivenNames x7
      have h8 : SoundR id s x7 := by
        unfold x7
        refine SoundR.ite ?_ ?_
        · split
          · rename_i v9 v10
            exact h4
          · rename_i v11 v12 v13 v14
            refine SoundR.app (sound_lineSend ..) ?_
            refine SoundR.mk' rfl ?_
            exact h4
        · exact h4
      clear_value x7
      extract_lets +onlyGivenNames x15
      have h16 : SoundR id s x15 := by
        unfold x15
        refine SoundR.app (sound_count ..) ?_
        exact h8
      clear_value x15
      extract_lets +onlyGivenNames x17
      clear_value x17
      extract_lets +onlyGivenNames x18
      have h19 : SoundR id s x18 := by
        unfold x18
        split
        · rename_i v20
          exact h8
        · rename_i v21 v22 v23
          refine SoundR.ite ?_ ?_
          · refine SoundR.app (sound_count ..) ?_
            exact h8
          · refine SoundR.ite ?_ ?_
            · exact h16
            · split
              · rename_i v24 v25
                exact h16
              · rename_i v26 v27 v28 v29
                refine SoundR.ite ?_ ?_
                · exact h16
                · extract_lets +onlyGivenNames x30
                  have h31 : SoundR id s x30 := by
                    unfold x30
                    refine SoundR.ite ?_ ?_
                    · refine SoundR.mk' rfl ?_
                      exact h8
                    · exact h8
                  clear_value x30
                  refine SoundR.ite ?_ ?_
                  · refine SoundR.app (sound_chainSend ..) ?_
                    exact h31
                  · refine SoundR.app (sound_placeFrame ..) ?_
                    exact h31
      clear_value x18
      refine SoundR.app (sound_hostStat ..) ?_
      exact h19

theorem sound_setTs (s : State) (t : Nat) (x : TslCh) : Sound s (State.setTs s t x) := by
  unfold State.setTs
  refine SoundR.intro ?_
  refine SoundR.mk' rfl ?_
  exact SoundR.self _

theorem sound_fifoKick (t : Nat) (s : State) : Sound s (fifoKick t s) := by
  unfold fifoKick
  refine SoundR.intro ?_
  extract_lets +onlyGivenNames x1
  have h2 : SoundR id s x1 := by
    unfold x1
    refine SoundR.forEach _ ?_ ?_
    · intro a3 a4
      refine SoundR.ite ?_ ?_
      · split
        · rename_i v5 v6 v7
          refine SoundR.app (sound_trigger ..) ?_
          refine SoundR.app (sound_setTs ..) ?_
          exact SoundR.self _
        · rename_i v8 v9
          exact SoundR.self _
      · exact SoundR.self _
    · exact SoundR.self _
  clear_value x1
  refine SoundR.forEach _ ?_ ?_
  · intro a10 a11
    refine SoundR.ite ?_ ?_
    · split
      · rename_i v12 v13 v14
        refine SoundR.app (sound_trigger ..) ?_
        refine SoundR.app (sound_setTs ..) ?_
        exact SoundR.self _
      · rename_i v15 v16
        exact SoundR.self _
    · exact SoundR.self _
  · exact h2

theorem sound_fifoKickAll (s : State) : Sound s (fifoKickAll s) := by
  unfold fifoKickAll
  refine SoundR.intro ?_
  refine SoundR.forEach _ ?_ ?_
  · intro a1 a2
    refine SoundR.app (sound_fifoKick ..) ?_
    exact SoundR.self _
  · exact SoundR.self _

theorem sound_fifoOutWrite (t : Nat) (w : Word) (s : State) : SoundR Prod.snd s (fifoOutWrite t w s) := by
  unfold fifoOutWrite
  extract_lets +onlyGivenNames x1
  clear_value x1
  refine SoundR.ite ?_ ?_
  · refine SoundR.mkSnd ?_
    exact SoundR.self _
  · refine SoundR.mkSnd ?_
    refine SoundR.app (sound_fifoKick ..) ?_
    refine SoundR.app (sound_setTs ..) ?_
    exact SoundR.self _

theorem sound_fifoInRead (t : Nat) (s : State) : SoundR Prod.snd s (fifoInRead t s) := by
  unfold fifoInRead
  extract_lets +onlyGivenNames x1
  clear_value x1
  split
  · rename_i v2 v3
    refine SoundR.mkSnd ?_
    exact SoundR.self _
  · rename_i v4 v5 v6 v7
    refine SoundR.mkSnd ?_
    refine SoundR.app (sound_fifoKick ..) ?_
    refine SoundR.app (sound_setTs ..) ?_
    exact SoundR.self _

theorem sound_fifoAccess (write : Bool) (a : Nat) (w : Word) (s : State) : SoundR Prod.snd s (fifoAccess write a w s) := by
  unfold fifoAccess
  extract_lets +onlyGivenNames x1
  clear_value x1
  extract_lets +onlyGivenNames x2
  clear_value x2
  refine SoundR.ite ?_ ?_
  · refine SoundR.mkSnd ?_
    exact SoundR.self _
  · refine SoundR.ite ?_ ?_
    · refine SoundR.ite ?_ ?_
      · refine SoundR.appG (sound_fifoOutWrite ..) ?_
        exact SoundR.self _
      · refine SoundR.mkSnd ?_
        exact SoundR.self _
    · refine SoundR.ite ?_ ?_
      · refine SoundR.mkSnd ?_
        exact SoundR.self _
      · refine SoundR.ite ?_ ?_
        · refine SoundR.appG (sound_fifoInRead ..) ?_
          exact SoundR.self _
        · refine SoundR.mkSnd ?_
          exact SoundR.self _

theorem sound_memTarget (who : Who) (r : Nat) (write : Bool) (a size v : Nat) (s : State) : SoundR Prod.snd s (memTarget who r write a size v s) := by
  unfold memTarget
  refine SoundR.ite ?_ ?_
  · refine SoundR.mkSnd ?_
    exact SoundR.self _
  · refine SoundR.ite ?_ ?_
    · refine SoundR.ite ?_ ?_
      · refine SoundR.appG (sound_windowWrite ..) ?_
        exact SoundR.self _
      · refine SoundR.appG (sound_windowRead ..) ?_
        exact SoundR.self _
    · refine SoundR.ite ?_ ?_
      · refine SoundR.appG (sound_ramWrite ..) ?_
        exact SoundR.self _
      · refine SoundR.appG (sound_ramRead ..) ?_
        exact SoundR.self _

theorem sound_logged {who : Who} {write : Bool} {log : Nat} {s : State} {r : Ans × State} (h : SoundR Prod.snd s r) :
    SoundR Prod.snd s (logged who write log r) := by
  obtain ⟨a, t⟩ := r
  cases a with
  | refused c => exact SoundR.mkSnd (SoundR.app (sound_busErr ..) h)
  | ok d => exact h

theorem sound_memOne (who : Who) (write : Bool) (a size v : Nat) (s : State) : SoundR Prod.snd s (memOne who write a size v s) := by
  unfold memOne
  split
  · rename_i v1 v2 v3
    refine SoundR.mkSnd ?_
    exact SoundR.self _
  · rename_i v4 v5 v6
    refine SoundR.ite ?_ ?_
    · refine SoundR.appG (sound_memTarget ..) ?_
      exact SoundR.self _
    · refine SoundR.mkSnd ?_
      exact SoundR.self _

theorem sound_memAccess (who : Who) (write : Bool) (a size v : Nat) (s : State) : SoundR Prod.snd s (memAccess who write a size v s) := by
  unfold memAccess
  refine SoundR.ite ?_ ?_
  · split
    · rename_i v1 v2 v3
      refine SoundR.mkSnd ?_
      refine SoundR.app (sound_busErr ..) ?_
      exact SoundR.self _
    · rename_i v4 v5 v6
      split
      · rename_i v7 v8 v9 v10
        have h11 : SoundR id s v9 := by
          refine SoundR.of2 v10 ?_
          refine sound_logged ?_
          refine SoundR.appG (sound_memOne ..) ?_
          exact SoundR.self _
        refine SoundR.mkSnd ?_
        exact h11
      · rename_i v12 v13 v14 v15
        have h16 : SoundR id s v14 := by
          refine SoundR.of2 v15 ?_
          refine sound_logged ?_
          refine SoundR.appG (sound_memOne ..) ?_
          exact SoundR.self _
        split
        · rename_i v17 v18 v19 v20
          have h21 : SoundR id s v19 := by
            refine SoundR.of2 v20 ?_
            refine sound_logged ?_
            refine SoundR.appG (sound_memOne ..) ?_
            exact h16
          refine SoundR.mkSnd ?_
          exact h21
        · rename_i v22 v23 v24 v25
          have h26 : SoundR id s v24 := by
            refine SoundR.of2 v25 ?_
            refine sound_logged ?_
            refine SoundR.appG (sound_memOne ..) ?_
            exact h16
          refine SoundR.mkSnd ?_
          exact h26
  · refine sound_logged ?_
    refine SoundR.appG (sound_memOne ..) ?_
    exact SoundR.self _

theorem sound_dmaWriteBack (n : Fin 8) (code : Nat) (done : Bool) (s : State) : Sound s (dmaWriteBack n code done s) := by
  unfold dmaWriteBack
  refine SoundR.intro ?_
  refine SoundR.ite ?_ ?_
  · split
    rename_i v1 v2 v3 v4
    have h5 : SoundR id s v3 := by
      refine SoundR.of2 v4 ?_
      refine SoundR.appG (sound_memAccess ..) ?_
      exact SoundR.self _
    exact h5
  · exact SoundR.self _

theorem sound_returnAll (ts : List Trig) (s : State) : Sound s (returnAll ts s) := by
  unfold returnAll
  refine SoundR.intro ?_
  refine SoundR.foldl _ ?_ ?_
  · intro a1 a2
    refine SoundR.app (sound_returnTrig ..) ?_
    exact SoundR.self _
  · exact SoundR.self _

theorem sound_dmaStop (n : Fin 8) (s : State) : Sound s (dmaStop n s) := by
  unfold dmaStop
  refine SoundR.intro ?_
  extract_lets +onlyGivenNames x1
  clear_value x1
  extract_lets +onlyGivenNames x2
  have h3 : SoundR id s x2 := by
    unfold x2
    refine SoundR.app (sound_set ..) ?_
    refine SoundR.app (sound_set ..) ?_
    exact SoundR.self _
  clear_value x2
  refine SoundR.app (sound_returnAll ..) ?_
  refine SoundR.app (sound_setDma ..) ?_
  exact h3

theorem sound_dmaError (n : Fin 8) (code : Nat) (addr : Option Nat) (s : State) : Sound s (dmaError n code addr s) := by
  unfold dmaError
  refine SoundR.intro ?_
  extract_lets +onlyGivenNames x1
  have h2 : SoundR id s x1 := by
    unfold x1
    refine SoundR.ite ?_ ?_
    · refine SoundR.app (sound_dmaWriteBack ..) ?_
      exact SoundR.self _
    · exact SoundR.self _
  clear_value x1
  extract_lets +onlyGivenNames x3
  have h4 : SoundR id s x3 := by
    unfold x3
    refine SoundR.app (sound_set ..) ?_
    refine SoundR.app (sound_set ..) ?_
    refine SoundR.app (sound_dmaStop ..) ?_
    exact h2
  clear_value x3
  extract_lets +onlyGivenNames x5
  have h6 : SoundR id s x5 := by
    unfold x5
    split
    · rename_i v7 v8
      refine SoundR.app (sound_set ..) ?_
      exact h4
    · rename_i v9
      exact h4
  clear_value x5
  refine SoundR.app (sound_raise ..) ?_
  exact h6

theorem sound_dmaStart (n : Fin 8) (s : State) : Sound s (dmaStart n s) := by
  unfold dmaStart
  refine SoundR.intro ?_
  refine SoundR.ite ?_ ?_
  · exact SoundR.self _
  · extract_lets +onlyGivenNames x1
    have h2 : SoundR id s x1 := by
      unfold x1
      refine SoundR.app (sound_set ..) ?_
      refine SoundR.app (sound_set ..) ?_
      refine SoundR.app (sound_set ..) ?_
      exact SoundR.self _
    clear_value x1
    extract_lets +onlyGivenNames x3
    have h4 : SoundR id s x3 := by
      unfold x3
      refine SoundR.app (sound_set ..) ?_
      exact h2
    clear_value x3
    refine SoundR.app (sound_setDma ..) ?_
    exact h4

theorem sound_dmaAbort (n : Fin 8) (s : State) : Sound s (dmaAbort n s) := by
  unfold dmaAbort
  refine SoundR.intro ?_
  refine SoundR.ite ?_ ?_
  · exact SoundR.self _
  · extract_lets +onlyGivenNames x1
    clear_value x1
    refine SoundR.ite ?_ ?_
    · refine SoundR.app (sound_setDma ..) ?_
      exact SoundR.self _
    · refine SoundR.app (sound_dmaError ..) ?_
      exact SoundR.self _

theorem sound_dmaCtlWrite (n : Fin 8) (w : Word) (s : State) : Sound s (dmaCtlWrite n w s) := by
  unfold dmaCtlWrite
  refine SoundR.intro ?_
  refine SoundR.ite ?_ ?_
  · refine SoundR.app (sound_dmaAbort ..) ?_
    exact SoundR.self _
  · refine SoundR.ite ?_ ?_
    · exact SoundR.self _
    · extract_lets +onlyGivenNames x1
      have h2 : SoundR id s x1 := by
        unfold x1
        refine SoundR.ite ?_ ?_
        · refine SoundR.app (sound_dmaStart ..) ?_
          exact SoundR.self _
        · exact SoundR.self _
      clear_value x1
      refine SoundR.ite ?_ ?_
      · refine SoundR.app (sound_trigger ..) ?_
        exact h2
      · exact h2

theorem sound_dmaWrite (cid a : Nat) (w : Word) (s : State) : SoundO Prod.snd s (dmaWrite cid a w s) := by
  unfold dmaWrite
  refine SoundO.ite ?_ ?_
  · exact SoundO.none
  · extract_lets +onlyGivenNames x1
    clear_value x1
    extract_lets +onlyGivenNames x2
    clear_value x2
    refine SoundO.ite ?_ ?_
    · refine SoundO.some ?_
      refine SoundR.mkSnd ?_
      exact SoundR.self _
    · refine SoundO.ite ?_ ?_
      · refine SoundO.some ?_
        refine SoundR.mkSnd ?_
        refine SoundR.app (sound_dmaCtlWrite ..) ?_
        exact SoundR.self _
      · refine SoundO.ite ?_ ?_
        · refine SoundO.some ?_
          refine SoundR.mkSnd ?_
          exact SoundR.self _
        · exact SoundO.none

theorem sound_descRead (n : Fin 8) (a : Nat) : ∀ (k : Nat) (ws : List Word) (s : State), SoundR Prod.snd s (descRead n a k ws s)
  | 0, ws, s => by
    unfold descRead
    exact SoundR.mkSnd (SoundR.self s)
  | k + 1, ws, s => by
    unfold descRead
    extract_lets +onlyGivenNames p
    have h : SoundR Prod.snd s (memAccess (dmaWho n) false p 4 0 s) := sound_memAccess ..
    generalize memAccess (dmaWho n) false p 4 0 s = r at h
    obtain ⟨x, t⟩ := r
    cases x with
    | ok d => exact SoundR.appG (sound_descRead n a k _ _) h
    | refused c => exact SoundR.mkSnd h

theorem sound_matchQueue (n : Fin 8) (ts : List Trig) (s : State) : Sound s (matchQueue n ts s) := by
  unfold matchQueue
  refine SoundR.intro ?_
  extract_lets +onlyGivenNames x1
  clear_value x1
  extract_lets +onlyGivenNames x2
  clear_value x2
  extract_lets +onlyGivenNames x3
  have h4 : SoundR id s x3 := by
    unfold x3
    refine SoundR.app (sound_setDma ..) ?_
    exact SoundR.self _
  clear_value x3
  refine SoundR.app (sound_returnAll ..) ?_
  exact h4

theorem sound_dmaNextBlock (n : Fin 8) (s : State) : Sound s (dmaNextBlock n s) := by
  unfold dmaNextBlock
  refine SoundR.intro ?_
  extract_lets +onlyGivenNames x1
  clear_value x1
  split
  · rename_i v2 v3 v4 v5
    refine SoundR.ite ?_ ?_
    · refine SoundR.app (sound_setDma ..) ?_
      exact SoundR.self _
    · exact SoundR.self _
  · rename_i v6 v7
    exact SoundR.self _

theorem sound_descFetch (n : Fin 8) (s : State) : Sound s (descFetch n s) := by
  unfold descFetch
  refine SoundR.intro ?_
  refine SoundR.ite ?_ ?_
  · exact SoundR.self _
  · extract_lets +onlyGivenNames x1
    clear_value x1
    refine SoundR.ite ?_ ?_
    · refine SoundR.app (sound_dmaError ..) ?_
      exact SoundR.self _
    · split
      · rename_i v2 v3 v4 v5
        have h6 : SoundR id s v4 := by
          refine SoundR.of2 v5 ?_
          refine SoundR.appG (sound_descRead ..) ?_
          exact SoundR.self _
        refine SoundR.app (sound_dmaError ..) ?_
        exact h6
      · rename_i v7 v8 v9 v10
        have h11 : SoundR id s v9 := by
          refine SoundR.of2 v10 ?_
          refine SoundR.appG (sound_descRead ..) ?_
          exact SoundR.self _
        refine SoundR.ite ?_ ?_
        · refine SoundR.app (sound_dmaError ..) ?_
          exact h11
        · extract_lets +onlyGivenNames x12
          clear_value x12
          extract_lets +onlyGivenNames x13
          clear_value x13
          extract_lets +onlyGivenNames x14
          have h15 : SoundR id s x14 := by
            unfold x14
            refine SoundR.app (sound_set ..) ?_
            exact h11
          clear_value x14
          extract_lets +onlyGivenNames x16
          have h17 : SoundR id s x16 := by
            unfold x16
            refine SoundR.app (sound_setDma ..) ?_
            exact h15
          clear_value x16
          extract_lets +onlyGivenNames x18
          have h19 : SoundR id s x18 := by
            unfold x18
            refine SoundR.app (sound_dmaNextBlock ..) ?_
            refine SoundR.app (sound_matchQueue ..) ?_
            exact h17
          clear_value x18
          refine SoundR.app (sound_fifoKickAll ..) ?_
          refine SoundR.foldl _ ?_ ?_
          · intro a20 a21
            refine SoundR.app (sound_trigger ..) ?_
            exact SoundR.self _
          · exact h19

theorem sound_tslStart (t : Nat) (s : State) : Sound s (tslStart t s) := by
  unfold tslStart
  refine SoundR.intro ?_
  refine SoundR.ite ?_ ?_
  · exact SoundR.self _
  · refine SoundR.ite ?_ ?_
    · refine SoundR.app (sound_set ..) ?_
      exact SoundR.self _
    · extract_lets +onlyGivenNames x1
      have h2 : SoundR id s x1 := by
        unfold x1
        refine SoundR.app (sound_setBit ..) ?_
        refine SoundR.app (sound_set ..) ?_
        refine SoundR.app (sound_set ..) ?_
        exact SoundR.self _
      clear_value x1
      extract_lets +onlyGivenNames x3
      have h4 : SoundR id s x3 := by
        unfold x3
        refine SoundR.app (sound_set ..) ?_
        exact h2
      clear_value x3
      refine SoundR.ite ?_ ?_
      · refine SoundR.app (sound_tslStop ..) ?_
        exact h4
      · exact h4

theorem sound_tslHalt (t : Nat) (s : State) : Sound s (tslHalt t s) := by
  unfold tslHalt
  refine SoundR.intro ?_
  refine SoundR.ite ?_ ?_
  · refine SoundR.app (sound_tslStop ..) ?_
    exact SoundR.self _
  · exact SoundR.self _

theorem sound_tslWrite (cid a : Nat) (w : Word) (s : State) : SoundO Prod.snd s (tslWrite cid a w s) := by
  unfold tslWrite
  refine SoundO.ite ?_ ?_
  · exact SoundO.none
  · refine SoundO.ite ?_ ?_
    · refine SoundO.some ?_
      refine SoundR.mkSnd ?_
      exact SoundR.self _
    · extract_lets +onlyGivenNames x1
      clear_value x1
      extract_lets +onlyGivenNames x2
      clear_value x2
      refine SoundO.ite ?_ ?_
      · exact SoundO.none
      · refine SoundO.ite ?_ ?_
        · refine SoundO.some ?_
          refine SoundR.mkSnd ?_
          refine SoundR.ite ?_ ?_
          · refine SoundR.app (sound_tslStart ..) ?_
            exact SoundR.self _
          · refine SoundR.app (sound_tslHalt ..) ?_
            exact SoundR.self _
        · refine SoundO.ite ?_ ?_
          · refine SoundO.some ?_
            refine SoundR.mkSnd ?_
            exact SoundR.self _
          · refine SoundO.ite ?_ ?_
            · refine SoundO.some ?_
              refine SoundR.mkSnd ?_
              refine SoundR.app (sound_fifoKick ..) ?_
              refine SoundR.app (sound_setWord ..) ?_
              exact SoundR.self _
            · exact SoundO.none

end Sys2Proof.Machine
end

