-- ==== Sys2Proof/Laws/SoundFabric.lean ====
section
/-!
SUPPORT. Every operation of the named files is sound (Laws/Sound.lean).
-/
set_option linter.unusedVariables false
namespace Sys2Proof.Machine
open Sys2Proof

theorem sound_codeWrite (row : RegRow) (a : Nat) (w : Word) (mask : Nat) (s : State) : Sound s (codeWrite row a w mask s) := by
  unfold codeWrite
  refine SoundR.intro ?_
  extract_lets +onlyGivenNames x1
  clear_value x1
  extract_lets +onlyGivenNames x2
  clear_value x2
  refine SoundR.app (sound_setWord ..) ?_
  exact SoundR.self _

theorem sound_sysWrite (row : RegRow) (cid a : Nat) (w : Word) (s : State) : SoundO Prod.snd s (sysWrite row cid a w s) := by
  unfold sysWrite
  extract_lets +onlyGivenNames x1
  clear_value x1
  refine SoundO.ite ?_ ?_
  · refine SoundO.some ?_
    refine SoundR.mkSnd ?_
    refine SoundR.ite ?_ ?_
    · refine SoundR.app (sound_softReset ..) ?_
      exact SoundR.self _
    · refine SoundR.app (sound_set ..) ?_
      exact SoundR.self _
  · refine SoundO.ite ?_ ?_
    · extract_lets +onlyGivenNames x2
      have h3 : SoundR id s x2 := by
        unfold x2
        refine SoundR.app (sound_codeWrite ..) ?_
        exact SoundR.self _
      clear_value x2
      refine SoundO.some ?_
      refine SoundR.mkSnd ?_
      refine SoundR.ite ?_ ?_
      · refine SoundR.app (sound_bootConfirm ..) ?_
        exact h3
      · exact h3
    · refine SoundO.ite ?_ ?_
      · refine SoundO.some ?_
        refine SoundR.appG (sound_cpCtlWrite ..) ?_
        exact SoundR.self _
      · refine SoundO.ite ?_ ?_
        · refine SoundO.ite ?_ ?_
          · refine SoundO.some ?_
            refine SoundR.mkSnd ?_
            exact SoundR.self _
          · refine SoundO.ite ?_ ?_
            · refine SoundO.some ?_
              refine SoundR.mkSnd ?_
              refine SoundR.ite ?_ ?_
              · refine SoundR.app (sound_polClear ..) ?_
                exact SoundR.self _
              · exact SoundR.self _
            · extract_lets +onlyGivenNames x4
              have h5 : SoundR id s x4 := by
                unfold x4
                refine SoundR.app (sound_codeWrite ..) ?_
                exact SoundR.self _
              clear_value x4
              refine SoundO.ite ?_ ?_
              · refine SoundO.some ?_
                refine SoundR.mkSnd ?_
                refine SoundR.app (sound_govRefresh ..) ?_
                exact h5
              · refine SoundO.ite ?_ ?_
                · refine SoundO.some ?_
                  refine SoundR.mkSnd ?_
                  refine SoundR.app (sound_polUpdate ..) ?_
                  refine SoundR.forEach _ ?_ ?_
                  · intro a6 a7
                    refine SoundR.app (sound_polMark ..) ?_
                    exact SoundR.self _
                  · exact h5
                · refine SoundO.some ?_
                  refine SoundR.mkSnd ?_
                  exact h5
        · refine SoundO.ite ?_ ?_
          · refine SoundO.ite ?_ ?_
            · refine SoundO.some ?_
              refine SoundR.mkSnd ?_
              exact SoundR.self _
            · extract_lets +onlyGivenNames x8
              clear_value x8
              refine SoundO.some ?_
              refine SoundR.mkSnd ?_
              refine SoundR.app (sound_setWord ..) ?_
              exact SoundR.self _
          · exact SoundO.none

theorem sound_evrWrite (cid a : Nat) (w : Word) (s : State) : SoundO Prod.snd s (evrWrite cid a w s) := by
  unfold evrWrite
  extract_lets +onlyGivenNames x1
  clear_value x1
  refine SoundO.ite ?_ ?_
  · extract_lets +onlyGivenNames x2
    clear_value x2
    refine SoundO.ite ?_ ?_
    · refine SoundO.some ?_
      refine SoundR.mkSnd ?_
      exact SoundR.self _
    · refine SoundO.some ?_
      refine SoundR.mkSnd ?_
      refine SoundR.app (sound_routeWrite ..) ?_
      exact SoundR.self _
  · refine SoundO.ite ?_ ?_
    · refine SoundO.some ?_
      refine SoundR.mkSnd ?_
      refine SoundR.app (sound_raise ..) ?_
      exact SoundR.self _
    · exact SoundO.none

theorem sound_semWrite (cid a : Nat) (w : Word) (s : State) : SoundO Prod.snd s (semWrite cid a w s) := by
  unfold semWrite
  extract_lets +onlyGivenNames x1
  clear_value x1
  refine SoundO.ite ?_ ?_
  · split
    rename_i v2 v3 v4 v5
    have h6 : SoundR id s v4 := by
      refine SoundR.of2 v5 ?_
      refine SoundR.appG (sound_semPort ..) ?_
      exact SoundR.self _
    refine SoundO.some ?_
    refine SoundR.mkSnd ?_
    exact h6
  · refine SoundO.ite ?_ ?_
    · refine SoundO.ite ?_ ?_
      · refine SoundO.some ?_
        refine SoundR.mkSnd ?_
        exact SoundR.self _
      · split
        rename_i v7 v8 v9 v10
        have h11 : SoundR id s v9 := by
          refine SoundR.of2 v10 ?_
          refine SoundR.appG (sound_semPort ..) ?_
          exact SoundR.self _
        refine SoundO.some ?_
        refine SoundR.mkSnd ?_
        exact h11
    · refine SoundO.ite ?_ ?_
      · refine SoundO.ite ?_ ?_
        · refine SoundO.some ?_
          refine SoundR.mkSnd ?_
          refine SoundR.app (sound_reclaimCid ..) ?_
          exact SoundR.self _
        · refine SoundO.some ?_
          refine SoundR.mkSnd ?_
          exact SoundR.self _
      · exact SoundO.none

theorem sound_poolWrite (row : RegRow) (cid a : Nat) (w : Word) (s : State) : SoundO Prod.snd s (poolWrite row cid a w s) := by
  unfold poolWrite
  extract_lets +onlyGivenNames x1
  clear_value x1
  refine SoundO.ite ?_ ?_
  · refine SoundO.some ?_
    refine SoundR.mkSnd ?_
    refine SoundR.app (sound_poolFree ..) ?_
    exact SoundR.self _
  · refine SoundO.ite ?_ ?_
    · refine SoundO.some ?_
      refine SoundR.mkSnd ?_
      refine SoundR.app (sound_poolGive ..) ?_
      exact SoundR.self _
    · refine SoundO.ite ?_ ?_
      · refine SoundO.some ?_
        refine SoundR.mkSnd ?_
        refine SoundR.app (sound_poolLink ..) ?_
        exact SoundR.self _
      · refine SoundO.ite ?_ ?_
        · refine SoundO.ite ?_ ?_
          · refine SoundO.some ?_
            refine SoundR.mkSnd ?_
            refine SoundR.app (sound_poolReclaim ..) ?_
            exact SoundR.self _
          · refine SoundO.some ?_
            refine SoundR.mkSnd ?_
            exact SoundR.self _
        · refine SoundO.ite ?_ ?_
          · refine SoundO.some ?_
            refine SoundR.mkSnd ?_
            refine SoundR.app (sound_faultEval ..) ?_
            refine SoundR.app (sound_codeWrite ..) ?_
            exact SoundR.self _
          · exact SoundO.none

theorem sound_chnWrite (cid a : Nat) (w : Word) (s : State) : SoundO Prod.snd s (chnWrite cid a w s) := by
  unfold chnWrite
  extract_lets +onlyGivenNames x1
  clear_value x1
  refine SoundO.ite ?_ ?_
  · refine SoundO.ite ?_ ?_
    · refine SoundO.some ?_
      refine SoundR.mkSnd ?_
      refine SoundR.ite ?_ ?_
      · refine SoundR.app (sound_enumerate ..) ?_
        exact SoundR.self _
      · exact SoundR.self _
    · refine SoundO.some ?_
      refine SoundR.mkSnd ?_
      exact SoundR.self _
  · refine SoundO.ite ?_ ?_
    · refine SoundO.some ?_
      refine SoundR.mkSnd ?_
      refine SoundR.app (sound_msgSend ..) ?_
      exact SoundR.self _
    · refine SoundO.ite ?_ ?_
      · refine SoundO.ite ?_ ?_
        · refine SoundO.some ?_
          refine SoundR.mkSnd ?_
          refine SoundR.app (sound_timeSet ..) ?_
          exact SoundR.self _
        · refine SoundO.some ?_
          refine SoundR.mkSnd ?_
          exact SoundR.self _
      · exact SoundO.none

theorem sound_specialWrite (row : RegRow) (cid a : Nat) (w : Word) (mask : Nat) (s : State) : SoundO Prod.snd s (specialWrite row cid a w mask s) := by
  unfold specialWrite
  split
  · rename_i v1 v2
    refine SoundO.app (sound_sysWrite ..) ?_
    exact SoundR.self _
  · rename_i v3 v4
    refine SoundO.ite ?_ ?_
    · refine SoundO.some ?_
      refine SoundR.mkSnd ?_
      refine SoundR.app (sound_faultEval ..) ?_
      refine SoundR.app (sound_codeWrite ..) ?_
      exact SoundR.self _
    · exact SoundO.none
  · rename_i v5 v6
    refine SoundO.app (sound_evrWrite ..) ?_
    exact SoundR.self _
  · rename_i v7 v8
    refine SoundO.app (sound_dmaWrite ..) ?_
    exact SoundR.self _
  · rename_i v9 v10
    refine SoundO.app (sound_memCtlWrite ..) ?_
    exact SoundR.self _
  · rename_i v11 v12
    refine SoundO.app (sound_semWrite ..) ?_
    exact SoundR.self _
  · rename_i v13 v14
    refine SoundO.app (sound_poolWrite ..) ?_
    exact SoundR.self _
  · rename_i v15 v16
    refine SoundO.app (sound_pinWrite ..) ?_
    exact SoundR.self _
  · rename_i v17 v18
    refine SoundO.app (sound_pwmWrite ..) ?_
    exact SoundR.self _
  · rename_i v19 v20
    refine SoundO.app (sound_pwmWrite ..) ?_
    exact SoundR.self _
  · rename_i v21 v22
    refine SoundO.app (sound_senseWrite ..) ?_
    exact SoundR.self _
  · rename_i v23 v24
    refine SoundO.app (sound_senseWrite ..) ?_
    exact SoundR.self _
  · rename_i v25 v26
    refine SoundO.app (sound_tslWrite ..) ?_
    exact SoundR.self _
  · rename_i v27 v28
    refine SoundO.app (sound_chnWrite ..) ?_
    exact SoundR.self _
  · rename_i v29 v30
    refine SoundO.app (sound_serWrite ..) ?_
    exact SoundR.self _
  · rename_i v31 v32 v33 v34 v35 v36 v37 v38 v39 v40 v41 v42 v43 v44 v45 v46
    refine SoundO.app (sound_lcsWrite ..) ?_
    exact SoundR.self _

theorem SoundR.getD {α : Type} {g : α → State} {s : State} {o : Option α} {d : α} (ho : SoundO g s o) (hd : SoundR g s d) :
    SoundR g s (o.getD d) := by
  cases o with
  | none => exact hd
  | some r => exact ho.out r rfl

theorem SoundR.elim {α β : Type} {g : β → State} {s : State} {o : Option α} {d : β} {f : α → β} (hd : SoundR g s d)
    (hf : ∀ r, o = some r → SoundR g s (f r)) : SoundR g s (o.elim d f) := by
  cases o with
  | none => exact hd
  | some r => exact hf r rfl

theorem sound_regWrite (cid a : Nat) (w : Word) (mask : Nat) (s : State) : SoundR Prod.snd s (regWrite cid a w mask s) := by
  unfold regWrite
  refine SoundR.elim (SoundR.mkSnd (SoundR.self s)) (fun row _ => ?_)
  exact SoundR.getD (sound_specialWrite row cid a w mask s) (SoundR.mkSnd (SoundR.app (sound_codeWrite ..) (SoundR.self s)))

theorem sound_semRead (cid a : Nat) (s : State) : SoundO Prod.snd s (semRead cid a s) := by
  unfold semRead
  extract_lets +onlyGivenNames x1
  clear_value x1
  refine SoundO.ite ?_ ?_
  · refine SoundO.some ?_
    refine SoundR.appG (sound_semPort ..) ?_
    exact SoundR.self _
  · refine SoundO.ite ?_ ?_
    · refine SoundO.some ?_
      refine SoundR.appG (sound_semPort ..) ?_
      exact SoundR.self _
    · refine SoundO.ite ?_ ?_
      · refine SoundO.some ?_
        refine SoundR.mkSnd ?_
        exact SoundR.self _
      · refine SoundO.ite ?_ ?_
        · extract_lets +onlyGivenNames x2
          clear_value x2
          refine SoundO.some ?_
          refine SoundR.mkSnd ?_
          exact SoundR.self _
        · refine SoundO.ite ?_ ?_
          · refine SoundO.some ?_
            refine SoundR.appG (sound_grantRead ..) ?_
            exact SoundR.self _
          · refine SoundO.ite ?_ ?_
            · refine SoundO.some ?_
              refine SoundR.mkSnd ?_
              exact SoundR.self _
            · refine SoundO.ite ?_ ?_
              · refine SoundO.some ?_
                refine SoundR.mkSnd ?_
                exact SoundR.self _
              · exact SoundO.none

theorem sound_poolRead (cid a : Nat) (s : State) : SoundO Prod.snd s (poolRead cid a s) := by
  unfold poolRead
  extract_lets +onlyGivenNames x1
  clear_value x1
  refine SoundO.ite ?_ ?_
  · refine SoundO.some ?_
    refine SoundR.mkSnd ?_
    exact SoundR.self _
  · refine SoundO.ite ?_ ?_
    · refine SoundO.some ?_
      refine SoundR.appG (sound_poolAlloc ..) ?_
      exact SoundR.self _
    · refine SoundO.ite ?_ ?_
      · refine SoundO.some ?_
        refine SoundR.mkSnd ?_
        exact SoundR.self _
      · refine SoundO.ite ?_ ?_
        · refine SoundO.some ?_
          refine SoundR.mkSnd ?_
          exact SoundR.self _
        · refine SoundO.ite ?_ ?_
          · refine SoundO.some ?_
            refine SoundR.mkSnd ?_
            exact SoundR.self _
          · exact SoundO.none

theorem sound_chnRead (a : Nat) (s : State) : SoundO Prod.snd s (chnRead a s) := by
  unfold chnRead
  extract_lets +onlyGivenNames x1
  clear_value x1
  refine SoundO.ite ?_ ?_
  · refine SoundO.some ?_
    refine SoundR.mkSnd ?_
    exact SoundR.self _
  · refine SoundO.ite ?_ ?_
    · refine SoundO.some ?_
      refine SoundR.mkSnd ?_
      exact SoundR.self _
    · refine SoundO.ite ?_ ?_
      · refine SoundO.some ?_
        refine SoundR.appG (sound_msgresRead ..) ?_
        exact SoundR.self _
      · refine SoundO.ite ?_ ?_
        · extract_lets +onlyGivenNames x2
          have h3 : SoundR id s x2 := by
            unfold x2
            refine SoundR.app (sound_hostStat ..) ?_
            exact SoundR.self _
          clear_value x2
          refine SoundO.some ?_
          refine SoundR.mkSnd ?_
          exact h3
        · exact SoundO.none

theorem sound_specialRead (cid a : Nat) (s : State) : SoundO Prod.snd s (specialRead cid a s) := by
  unfold specialRead
  split
  · rename_i v1 v2
    refine SoundO.ite ?_ ?_
    · refine SoundO.mapPair ?_
      exact SoundR.self _
    · exact SoundO.none
  · rename_i v3 v4
    refine SoundO.ite ?_ ?_
    · refine SoundO.some ?_
      refine SoundR.appG (sound_timeloRead ..) ?_
      exact SoundR.self _
    · exact SoundO.none
  · rename_i v5 v6
    refine SoundO.ite ?_ ?_
    · refine SoundO.some ?_
      refine SoundR.appG (sound_yclaimRead ..) ?_
      exact SoundR.self _
    · exact SoundO.none
  · rename_i v7 v8
    refine SoundO.app (sound_semRead ..) ?_
    exact SoundR.self _
  · rename_i v9 v10
    refine SoundO.app (sound_poolRead ..) ?_
    exact SoundR.self _
  · rename_i v11 v12
    refine SoundO.ite ?_ ?_
    · refine SoundO.some ?_
      refine SoundR.appG (sound_gpinRead ..) ?_
      exact SoundR.self _
    · exact SoundO.none
  · rename_i v13 v14
    refine SoundO.mapPair ?_
    exact SoundR.self _
  · rename_i v15 v16
    refine SoundO.mapPair ?_
    exact SoundR.self _
  · rename_i v17 v18
    refine SoundO.app (sound_senseRead ..) ?_
    exact SoundR.self _
  · rename_i v19 v20
    refine SoundO.app (sound_senseRead ..) ?_
    exact SoundR.self _
  · rename_i v21 v22
    refine SoundO.app (sound_chnRead ..) ?_
    exact SoundR.self _
  · rename_i v23 v24
    refine SoundO.app (sound_serRead ..) ?_
    exact SoundR.self _
  · rename_i v25 v26 v27 v28 v29 v30 v31 v32 v33 v34 v35 v36 v37
    exact SoundO.none

theorem sound_regRead (cid a : Nat) (s : State) : SoundR Prod.snd s (regRead cid a s) := by
  unfold regRead
  refine SoundR.elim (SoundR.mkSnd (SoundR.self s)) (fun row _ => ?_)
  exact SoundR.elim (SoundR.mkSnd (SoundR.self s)) (fun r h => SoundR.mkSnd ((sound_specialRead cid a s).out r h))

theorem sound_applyCidcfg (c : Section) (s : State) : SoundO id s (applyCidcfg c s) := by
  unfold applyCidcfg
  extract_lets +onlyGivenNames x1
  clear_value x1
  extract_lets +onlyGivenNames x2
  clear_value x2
  refine SoundO.ite ?_ ?_
  · exact SoundO.none
  · extract_lets +onlyGivenNames x3
    have h4 : SoundR id s x3 := by
      unfold x3
      refine SoundR.forEach _ ?_ ?_
      · intro a5 a6
        refine SoundR.app (sound_setWord ..) ?_
        exact SoundR.self _
      · exact SoundR.self _
    clear_value x3
    extract_lets +onlyGivenNames x7
    have h8 : SoundR id s x7 := by
      unfold x7
      refine SoundR.forEach _ ?_ ?_
      · intro a9 a10
        refine SoundR.app (sound_setWord ..) ?_
        exact SoundR.self _
      · exact h4
    clear_value x7
    extract_lets +onlyGivenNames x11
    have h12 : SoundR id s x11 := by
      unfold x11
      refine SoundR.forEach _ ?_ ?_
      · intro a13 a14
        refine SoundR.forEach _ ?_ ?_
        · intro a15 a16
          extract_lets +onlyGivenNames x17
          clear_value x17
          refine SoundR.app (sound_setWord ..) ?_
          exact SoundR.self _
        · exact SoundR.self _
      · exact h8
    clear_value x11
    extract_lets +onlyGivenNames x18
    have h19 : SoundR id s x18 := by
      unfold x18
      refine SoundR.forEach _ ?_ ?_
      · intro a20 a21
        refine SoundR.app (sound_set ..) ?_
        exact SoundR.self _
      · exact h12
    clear_value x18
    refine SoundO.some ?_
    refine SoundR.app (sound_setWord ..) ?_
    exact h19

theorem sound_applySemcfg (c : Section) (s : State) : SoundO id s (applySemcfg c s) := by
  unfold applySemcfg
  extract_lets +onlyGivenNames x1
  clear_value x1
  extract_lets +onlyGivenNames x2
  clear_value x2
  refine SoundO.ite ?_ ?_
  · exact SoundO.none
  · extract_lets +onlyGivenNames x3
    have h4 : SoundR id s x3 := by
      unfold x3
      refine SoundR.forEach _ ?_ ?_
      · intro a5 a6
        refine SoundR.app (sound_setWord ..) ?_
        exact SoundR.self _
      · exact SoundR.self _
    clear_value x3
    refine SoundO.some ?_
    refine SoundR.forEach _ ?_ ?_
    · intro a7 a8
      refine SoundR.app (sound_setWord ..) ?_
      refine SoundR.app (sound_setWord ..) ?_
      exact SoundR.self _
    · exact h4

theorem sound_applyMbxcfg (c : Section) (s : State) : SoundO id s (applyMbxcfg c s) := by
  unfold applyMbxcfg
  extract_lets +onlyGivenNames x1
  clear_value x1
  refine SoundO.ite ?_ ?_
  · exact SoundO.none
  · refine SoundO.some ?_
    refine SoundR.forEach _ ?_ ?_
    · intro a2 a3
      refine SoundR.app (sound_setWord ..) ?_
      refine SoundR.app (sound_setWord ..) ?_
      refine SoundR.app (sound_setWord ..) ?_
      exact SoundR.self _
    · exact SoundR.self _

theorem sound_applyPincfg (c : Section) (s : State) : SoundO id s (applyPincfg c s) := by
  unfold applyPincfg
  extract_lets +onlyGivenNames x1
  clear_value x1
  extract_lets +onlyGivenNames x2
  clear_value x2
  extract_lets +onlyGivenNames x3
  clear_value x3
  refine SoundO.ite ?_ ?_
  · exact SoundO.none
  · extract_lets +onlyGivenNames x4
    have h5 : SoundR id s x4 := by
      unfold x4
      refine SoundR.app (sound_setWord ..) ?_
      refine SoundR.app (sound_setWord ..) ?_
      exact SoundR.self _
    clear_value x4
    extract_lets +onlyGivenNames x6
    have h7 : SoundR id s x6 := by
      unfold x6
      refine SoundR.app (sound_setWord ..) ?_
      exact h5
    clear_value x6
    extract_lets +onlyGivenNames x8
    have h9 : SoundR id s x8 := by
      unfold x8
      refine SoundR.forEach _ ?_ ?_
      · intro a10 a11
        refine SoundR.app (sound_setWord ..) ?_
        refine SoundR.app (sound_setWord ..) ?_
        exact SoundR.self _
      · exact h7
    clear_value x8
    extract_lets +onlyGivenNames x12
    have h13 : SoundR id s x12 := by
      unfold x12
      refine SoundR.forEach _ ?_ ?_
      · intro a14 a15
        refine SoundR.app (sound_setWord ..) ?_
        exact SoundR.self _
      · exact h9
    clear_value x12
    refine SoundO.some ?_
    refine SoundR.app (sound_refConfig ..) ?_
    exact h13

theorem sound_releasePins (c : Section) (s : State) : Sound s (releasePins c s) := by
  unfold releasePins
  refine SoundR.intro ?_
  extract_lets +onlyGivenNames x1
  have h2 : SoundR id s x1 := by
    unfold x1
    refine SoundR.forEach _ ?_ ?_
    · intro a3 a4
      refine SoundR.app (sound_set ..) ?_
      exact SoundR.self _
    · exact SoundR.self _
  clear_value x1
  refine SoundR.forEach _ ?_ ?_
  · intro a5 a6
    refine SoundR.ite ?_ ?_
    · exact SoundR.self _
    · refine SoundR.app (sound_setBit ..) ?_
      exact SoundR.self _
  · exact h2

theorem sound_applyChaincfg (c : Section) (s : State) : SoundO id s (applyChaincfg c s) := by
  unfold applyChaincfg
  extract_lets +onlyGivenNames x1
  clear_value x1
  extract_lets +onlyGivenNames x2
  clear_value x2
  extract_lets +onlyGivenNames x3
  clear_value x3
  extract_lets +onlyGivenNames x4
  clear_value x4
  refine SoundO.ite ?_ ?_
  · exact SoundO.none
  · extract_lets +onlyGivenNames x5
    have h6 : SoundR id s x5 := by
      unfold x5
      refine SoundR.app (sound_setWord ..) ?_
      refine SoundR.app (sound_setWord ..) ?_
      exact SoundR.self _
    clear_value x5
    extract_lets +onlyGivenNames x7
    have h8 : SoundR id s x7 := by
      unfold x7
      refine SoundR.app (sound_setWord ..) ?_
      refine SoundR.app (sound_setWord ..) ?_
      exact h6
    clear_value x7
    refine SoundO.some ?_
    refine SoundR.app (sound_rateChange ..) ?_
    refine SoundR.app (sound_rateChange ..) ?_
    exact h8

theorem sound_applyAdccfg (c : Section) (s : State) : SoundO id s (applyAdccfg c s) := by
  unfold applyAdccfg
  extract_lets +onlyGivenNames x1
  clear_value x1
  extract_lets +onlyGivenNames x2
  clear_value x2
  extract_lets +onlyGivenNames x3
  clear_value x3
  extract_lets +onlyGivenNames x4
  clear_value x4
  refine SoundO.ite ?_ ?_
  · exact SoundO.none
  · extract_lets +onlyGivenNames x5
    have h6 : SoundR id s x5 := by
      unfold x5
      refine SoundR.forEach _ ?_ ?_
      · intro a7 a8
        extract_lets +onlyGivenNames x9
        have h10 : SoundR id a8 x9 := by
          unfold x9
          refine SoundR.app (sound_setWord ..) ?_
          refine SoundR.app (sound_set ..) ?_
          exact SoundR.self _
        clear_value x9
        refine SoundR.forEach _ ?_ ?_
        · intro a11 a12
          refine SoundR.app (sound_setWord ..) ?_
          exact SoundR.self _
        · exact h10
      · exact SoundR.self _
    clear_value x5
    extract_lets +onlyGivenNames x13
    have h14 : SoundR id s x13 := by
      unfold x13
      refine SoundR.forEach _ ?_ ?_
      · intro a15 a16
        refine SoundR.app (sound_setWord ..) ?_
        exact SoundR.self _
      · exact h6
    clear_value x13
    extract_lets +onlyGivenNames x17
    have h18 : SoundR id s x17 := by
      unfold x17
      refine SoundR.forEach _ ?_ ?_
      · intro a19 a20
        refine SoundR.app (sound_setWord ..) ?_
        refine SoundR.app (sound_setWord ..) ?_
        exact SoundR.self _
      · exact h14
    clear_value x17
    refine SoundO.some ?_
    refine SoundR.app (sound_setWord ..) ?_
    exact h18

theorem sound_releaseAdc (c : Section) (s : State) : Sound s (releaseAdc c s) := by
  unfold releaseAdc
  refine SoundR.intro ?_
  refine SoundR.forEach _ ?_ ?_
  · intro a1 a2
    refine SoundR.app (sound_adcSeqctl ..) ?_
    exact SoundR.self _
  · exact SoundR.self _

theorem sound_applyPwmcfg (c : Section) (s : State) : SoundO id s (applyPwmcfg c s) := by
  unfold applyPwmcfg
  extract_lets +onlyGivenNames x1
  clear_value x1
  extract_lets +onlyGivenNames x2
  clear_value x2
  refine SoundO.ite ?_ ?_
  · exact SoundO.none
  · extract_lets +onlyGivenNames x3
    have h4 : SoundR id s x3 := by
      unfold x3
      refine SoundR.app (sound_setWord ..) ?_
      exact SoundR.self _
    clear_value x3
    extract_lets +onlyGivenNames x5
    have h6 : SoundR id s x5 := by
      unfold x5
      refine SoundR.forEach _ ?_ ?_
      · intro a7 a8
        refine SoundR.app (sound_set ..) ?_
        exact SoundR.self _
      · exact h4
    clear_value x5
    extract_lets +onlyGivenNames x9
    have h10 : SoundR id s x9 := by
      unfold x9
      refine SoundR.app (sound_set ..) ?_
      exact h6
    clear_value x9
    extract_lets +onlyGivenNames x11
    have h12 : SoundR id s x11 := by
      unfold x11
      refine SoundR.forEach _ ?_ ?_
      · intro a13 a14
        extract_lets +onlyGivenNames x15
        clear_value x15
        extract_lets +onlyGivenNames x16
        have h17 : SoundR id a14 x16 := by
          unfold x16
          refine SoundR.app (sound_setWord ..) ?_
          refine SoundR.app (sound_setWord ..) ?_
          exact SoundR.self _
        clear_value x16
        extract_lets +onlyGivenNames x18
        have h19 : SoundR id a14 x18 := by
          unfold x18
          refine SoundR.app (sound_setWord ..) ?_
          refine SoundR.app (sound_setWord ..) ?_
          exact h17
        clear_value x18
        refine SoundR.app (sound_setGrp ..) ?_
        refine SoundR.app (sound_setWord ..) ?_
        exact h19
      · exact h10
    clear_value x11
    refine SoundO.some ?_
    refine SoundR.forEach _ ?_ ?_
    · intro a20 a21
      extract_lets +onlyGivenNames x22
      clear_value x22
      extract_lets +onlyGivenNames x23
      clear_value x23
      extract_lets +onlyGivenNames x24
      clear_value x24
      extract_lets +onlyGivenNames x25
      have h26 : SoundR id a21 x25 := by
        unfold x25
        refine SoundR.app (sound_setWord ..) ?_
        refine SoundR.app (sound_setWord ..) ?_
        exact SoundR.self _
      clear_value x25
      extract_lets +onlyGivenNames x27
      have h28 : SoundR id a21 x27 := by
        unfold x27
        refine SoundR.app (sound_set ..) ?_
        refine SoundR.app (sound_set ..) ?_
        exact h26
      clear_value x27
      extract_lets +onlyGivenNames x29
      have h30 : SoundR id a21 x29 := by
        unfold x29
        refine SoundR.app (sound_setWord ..) ?_
        refine SoundR.app (sound_setWord ..) ?_
        exact h28
      clear_value x29
      refine SoundR.app (sound_setLeg ..) ?_
      exact h30
    · exact h12

theorem sound_releasePwm (c : Section) (s : State) : Sound s (releasePwm c s) := by
  unfold releasePwm
  refine SoundR.intro ?_
  refine SoundR.forEach _ ?_ ?_
  · intro a1 a2
    refine SoundR.ite ?_ ?_
    · refine SoundR.app (sound_gctlWrite ..) ?_
      exact SoundR.self _
    · exact SoundR.self _
  · exact SoundR.self _

theorem sound_applyPolicy (c : Section) (s : State) : SoundO id s (applyPolicy c s) := by
  unfold applyPolicy
  refine SoundO.ite ?_ ?_
  · exact SoundO.none
  · extract_lets +onlyGivenNames x1
    have h2 : SoundR id s x1 := by
      unfold x1
      refine SoundR.forEach _ ?_ ?_
      · intro a3 a4
        refine SoundR.app (sound_setWord ..) ?_
        exact SoundR.self _
      · exact SoundR.self _
    clear_value x1
    extract_lets +onlyGivenNames x5
    have h6 : SoundR id s x5 := by
      unfold x5
      refine SoundR.app (sound_set ..) ?_
      refine SoundR.app (sound_set ..) ?_
      exact h2
    clear_value x5
    extract_lets +onlyGivenNames x7
    have h8 : SoundR id s x7 := by
      unfold x7
      refine SoundR.app (sound_set ..) ?_
      refine SoundR.app (sound_set ..) ?_
      refine SoundR.app (sound_set ..) ?_
      exact h6
    clear_value x7
    extract_lets +onlyGivenNames x9
    have h10 : SoundR id s x9 := by
      unfold x9
      refine SoundR.app (sound_set ..) ?_
      exact h8
    clear_value x9
    extract_lets +onlyGivenNames x11
    have h12 : SoundR id s x11 := by
      unfold x11
      refine SoundR.forEach _ ?_ ?_
      · intro a13 a14
        refine SoundR.app (sound_updSched ..) ?_
        exact SoundR.self _
      · exact h10
    clear_value x11
    refine SoundO.some ?_
    refine SoundR.app (sound_thermUpdate ..) ?_
    refine SoundR.app (sound_set ..) ?_
    exact h12

theorem forEach_wf {f : Nat → Memory → Memory} (hf : ∀ i m, m.wf = true → (f i m).wf = true) (n : Nat) {m : Memory} (h : m.wf = true) :
    (forEach n f m).wf = true := foldl_wf _ (fun m i hm => hf i m hm) h

theorem putBytes_wf {m : Memory} (h : m.wf = true) (a n : Nat) (f : Nat → Byte) : (putBytes a n f m).wf = true := by
  unfold putBytes
  exact forEach_wf (fun i m hm => setSynd_wf hm _ _) _ (forEach_wf (fun i m hm => setMemByte_wf hm _ _) _ h)

theorem sound_settleArea (warm : Bool) (epoch persid : Nat) (c : Option Section) (s : State) : Sound s (settleArea warm epoch persid c s) := by
  unfold settleArea
  refine SoundR.intro ?_
  refine SoundR.ite (SoundR.self s) ?_
  exact SoundR.mkMem rfl (fun h => putBytes_wf h ..) (SoundR.self s)

theorem sound_deviceTarget (who : Who) (r : Nat) (write : Bool) (a v : Nat) (s : State) : SoundR Prod.snd s (deviceTarget who r write a v s) := by
  unfold deviceTarget
  refine SoundR.ite ?_ ?_
  · refine SoundR.appG (sound_fifoAccess ..) ?_
    exact SoundR.self _
  · refine SoundR.ite ?_ ?_
    · refine SoundR.ite ?_ ?_
      · refine SoundR.appG (sound_regWrite ..) ?_
        exact SoundR.self _
      · refine SoundR.appG (sound_regRead ..) ?_
        exact SoundR.self _
    · refine SoundR.mkSnd ?_
      exact SoundR.self _

theorem sound_loggedReply {who : Who} {write : Bool} {log : Nat} {s : State} {r : Reply × State} (h : SoundR Prod.snd s r) :
    SoundR Prod.snd s (loggedReply who write log r) := by
  obtain ⟨a, t⟩ := r
  cases a with
  | ans x => exact SoundR.mkSnd (SoundR.ofSnd (sound_logged h))
  | wait => exact h

theorem sound_fabric (by_ : ReqBy) (who : Who) (write : Bool) (a size v : Nat) (s : State) : SoundR Prod.snd s (fabric by_ who write a size v s) := by
  unfold fabric
  split
  · rename_i v1 v2 v3
    refine SoundR.mkSnd ?_
    refine SoundR.app (sound_busErr ..) ?_
    exact SoundR.self _
  · rename_i v4 v5 v6
    refine SoundR.ite ?_ ?_
    · extract_lets +onlyGivenNames x7
      have h8 : SoundR Prod.snd s x7 := by
        unfold x7
        refine SoundR.appG (sound_memAccess ..) ?_
        exact SoundR.self _
      clear_value x7
      refine SoundR.mkSnd ?_
      exact h8
    · refine SoundR.ite ?_ ?_
      · extract_lets +onlyGivenNames x9
        clear_value x9
        refine SoundR.ite ?_ ?_
        · extract_lets +onlyGivenNames x10
          have h11 : SoundR Prod.snd s x10 := by
            unfold x10
            refine SoundR.appG (sound_windowAccess ..) ?_
            exact SoundR.self _
          clear_value x10
          refine SoundR.mkSnd ?_
          exact h11
        · refine sound_loggedReply ?_
          refine SoundR.appG (sound_remoteAccess ..) ?_
          exact SoundR.self _
      · refine SoundR.ite ?_ ?_
        · refine sound_loggedReply ?_
          extract_lets +onlyGivenNames x12
          have h13 : SoundR Prod.snd s x12 := by
            unfold x12
            refine SoundR.appG (sound_broadcastWrite ..) ?_
            exact SoundR.self _
          clear_value x12
          refine SoundR.mkSnd ?_
          exact h13
        · refine sound_loggedReply ?_
          extract_lets +onlyGivenNames x14
          have h15 : SoundR Prod.snd s x14 := by
            unfold x14
            refine SoundR.appG (sound_deviceTarget ..) ?_
            exact SoundR.self _
          clear_value x14
          refine SoundR.mkSnd ?_
          exact h15

theorem sound_fabricWrite (cid a : Nat) (w : Word) (s : State) : Sound s (fabricWrite cid a w s) := by
  unfold fabricWrite
  refine SoundR.intro ?_
  split
  · rename_i v1 v2 v3 v4
    have h5 : SoundR id s v3 := by
      refine SoundR.of2 v4 ?_
      refine SoundR.appG (sound_fabric ..) ?_
      exact SoundR.self _
    refine SoundR.app (sound_answerRefused ..) ?_
    exact h5
  · rename_i v6 v7 v8 v9 v10
    have h11 : SoundR id s v8 := by
      refine SoundR.of2 v10 ?_
      refine SoundR.appG (sound_fabric ..) ?_
      exact SoundR.self _
    exact h11

theorem sound_fabricRead (cid a : Nat) (s : State) : Sound s (fabricRead cid a s) := by
  unfold fabricRead
  refine SoundR.intro ?_
  split
  · rename_i v1 v2 v3 v4
    have h5 : SoundR id s v3 := by
      refine SoundR.of2 v4 ?_
      refine SoundR.appG (sound_fabric ..) ?_
      exact SoundR.self _
    refine SoundR.app (sound_answerRefused ..) ?_
    exact h5
  · rename_i v6 v7 v8 v9
    have h10 : SoundR id s v8 := by
      refine SoundR.of2 v9 ?_
      refine SoundR.appG (sound_fabric ..) ?_
      exact SoundR.self _
    refine SoundR.app (sound_answer ..) ?_
    exact h10
  · rename_i v11 v12 v13
    have h14 : SoundR id s v12 := by
      refine SoundR.of2 v13 ?_
      refine SoundR.appG (sound_fabric ..) ?_
      exact SoundR.self _
    exact h14

theorem sound_updYar (s : State) (f : Yar → Yar) : Sound s (State.updYar s f) := by
  unfold State.updYar
  refine SoundR.intro ?_
  refine SoundR.mk' rfl ?_
  exact SoundR.self _

theorem sound_updVet (s : State) (f : Vet → Vet) : Sound s (State.updVet s f) := by
  unfold State.updVet
  refine SoundR.intro ?_
  refine SoundR.app (sound_updYar ..) ?_
  exact SoundR.self _

theorem sound_updDbg (s : State) (f : YDebug → YDebug) : Sound s (State.updDbg s f) := by
  unfold State.updDbg
  refine SoundR.intro ?_
  refine SoundR.app (sound_updYar ..) ?_
  exact SoundR.self _

theorem sound_yPut (i : Nat) (v : Word) (s : State) : Sound s (yPut i v s) := by
  unfold yPut
  refine SoundR.intro ?_
  refine SoundR.ite ?_ ?_
  · exact SoundR.self _
  · refine SoundR.app (sound_updYar ..) ?_
    exact SoundR.self _

theorem sound_fPut (i : Nat) (v : Word) (s : State) : Sound s (fPut i v s) := by
  unfold fPut
  refine SoundR.intro ?_
  refine SoundR.app (sound_updYar ..) ?_
  exact SoundR.self _

theorem sound_accrue (fl : Nat) (s : State) : Sound s (accrue fl s) := by
  unfold accrue
  refine SoundR.intro ?_
  refine SoundR.ite ?_ ?_
  · exact SoundR.self _
  · refine SoundR.app (sound_updYar ..) ?_
    exact SoundR.self _

theorem sound_yWord (by_ : ReqBy) (kind a size v : Nat) (s : State) : SoundR Prod.snd s (yWord by_ kind a size v s) := by
  unfold yWord
  extract_lets +onlyGivenNames x1
  clear_value x1
  extract_lets +onlyGivenNames x2
  clear_value x2
  extract_lets +onlyGivenNames x3
  clear_value x3
  refine SoundR.ite ?_ ?_
  · refine SoundR.mkSnd ?_
    exact SoundR.self _
  · extract_lets +onlyGivenNames x4
    clear_value x4
    split
    · rename_i v5 v6 v7 v8
      have h9 : SoundR id s v7 := by
        refine SoundR.of2 v8 ?_
        refine SoundR.appG (sound_fabric ..) ?_
        exact SoundR.self _
      refine SoundR.mkSnd ?_
      exact h9
    · rename_i v10 v11 v12 v13
      have h14 : SoundR id s v12 := by
        refine SoundR.of2 v13 ?_
        refine SoundR.appG (sound_fabric ..) ?_
        exact SoundR.self _
      refine SoundR.mkSnd ?_
      exact h14
    · rename_i v15 v16 v17
      have h18 : SoundR id s v16 := by
        refine SoundR.of2 v17 ?_
        refine SoundR.appG (sound_fabric ..) ?_
        exact SoundR.self _
      refine SoundR.mkSnd ?_
      exact h18

theorem sound_yAccess (by_ : ReqBy) (kind a size v : Nat) (s : State) : SoundR Prod.snd s (yAccess by_ kind a size v s) := by
  unfold yAccess
  refine SoundR.ite ?_ ?_
  · split
    · rename_i v1 v2 v3 v4
      have h5 : SoundR id s v3 := by
        refine SoundR.of2 v4 ?_
        refine SoundR.appG (sound_yWord ..) ?_
        exact SoundR.self _
      split
      · rename_i v6 v7 v8 v9
        have h10 : SoundR id s v8 := by
          refine SoundR.of2 v9 ?_
          refine SoundR.appG (sound_yWord ..) ?_
          exact h5
        refine SoundR.mkSnd ?_
        exact h10
      · rename_i v11 v12
        refine SoundR.appG (sound_yWord ..) ?_
        exact h5
    · rename_i v13 v14
      refine SoundR.appG (sound_yWord ..) ?_
      exact SoundR.self _
  · refine SoundR.appG (sound_yWord ..) ?_
    exact SoundR.self _

theorem sound_lateStore (a cause : Nat) (s : State) : Sound s (lateStore a cause s) := by
  unfold lateStore
  refine SoundR.intro ?_
  refine SoundR.app (sound_updYar ..) ?_
  exact SoundR.self _

theorem sound_storeDrain (s : State) : Sound s (storeDrain s) := by
  unfold storeDrain
  refine SoundR.intro ?_
  split
  · rename_i v1 v2
    exact SoundR.self _
  · rename_i v3 v4 v5 v6
    refine SoundR.ite ?_ ?_
    · exact SoundR.self _
    · split
      · rename_i v7 v8 v9 v10
        have h11 : SoundR id s v9 := by
          refine SoundR.of2 v10 ?_
          refine SoundR.appG (sound_fabric ..) ?_
          exact SoundR.self _
        refine SoundR.app (sound_updYar ..) ?_
        exact h11
      · rename_i v12 v13 v14 v15
        have h16 : SoundR id s v14 := by
          refine SoundR.of2 v15 ?_
          refine SoundR.appG (sound_fabric ..) ?_
          exact SoundR.self _
        refine SoundR.app (sound_lateStore ..) ?_
        refine SoundR.app (sound_updYar ..) ?_
        exact h16
      · rename_i v17 v18 v19
        have h20 : SoundR id s v18 := by
          refine SoundR.of2 v19 ?_
          refine SoundR.appG (sound_fabric ..) ?_
          exact SoundR.self _
        refine SoundR.app (sound_updYar ..) ?_
        exact h20

theorem sound_drainAll (s : State) : Sound s (drainAll s) := by
  unfold drainAll
  refine SoundR.intro ?_
  refine SoundR.forEach _ ?_ ?_
  · intro a1 a2
    refine SoundR.app (sound_storeDrain ..) ?_
    exact SoundR.self _
  · exact SoundR.self _

theorem sound_storeRemoteDone (ok : Bool) (s : State) : Sound s (storeRemoteDone ok s) := by
  unfold storeRemoteDone
  refine SoundR.intro ?_
  split
  · rename_i v1 v2
    exact SoundR.self _
  · rename_i v3 v4 v5 v6
    extract_lets +onlyGivenNames x7
    have h8 : SoundR id s x7 := by
      unfold x7
      refine SoundR.app (sound_updYar ..) ?_
      exact SoundR.self _
    clear_value x7
    refine SoundR.ite ?_ ?_
    · exact h8
    · refine SoundR.app (sound_lateStore ..) ?_
      exact h8

theorem sound_vetSquash (s : State) : Sound s (vetSquash s) := by
  unfold vetSquash
  refine SoundR.intro ?_
  refine SoundR.app (sound_updVet ..) ?_
  exact SoundR.self _

theorem sound_debugEnter (cause : Nat) (s : State) : Sound s (debugEnter cause s) := by
  unfold debugEnter
  refine SoundR.intro ?_
  extract_lets +onlyGivenNames x1
  have h2 : SoundR id s x1 := by
    unfold x1
    refine SoundR.app (sound_vetSquash ..) ?_
    exact SoundR.self _
  clear_value x1
  refine SoundR.app (sound_updYar ..) ?_
  exact h2

theorem sound_yTrap (cause : Nat) (isInt : Bool) (tval : Word) (s : State) : Sound s (yTrap cause isInt tval s) := by
  unfold yTrap
  refine SoundR.intro ?_
  refine SoundR.ite ?_ ?_
  · refine SoundR.app (sound_updDbg ..) ?_
    exact SoundR.self _
  · extract_lets +onlyGivenNames x1
    have h2 : SoundR id s x1 := by
      unfold x1
      refine SoundR.app (sound_vetSquash ..) ?_
      exact SoundR.self _
    clear_value x1
    refine SoundR.app (sound_updYar ..) ?_
    exact h2

theorem sound_yFault (cause yf : Nat) (a : Nat) (s : State) : Sound s (yFault cause yf a s) := by
  unfold yFault
  refine SoundR.intro ?_
  refine SoundR.ite ?_ ?_
  · refine SoundR.app (sound_updDbg ..) ?_
    exact SoundR.self _
  · refine SoundR.app (sound_yTrap ..) ?_
    refine SoundR.app (sound_updYar ..) ?_
    exact SoundR.self _

theorem sound_retireTo (next : Word) (s : State) : Sound s (retireTo next s) := by
  unfold retireTo
  refine SoundR.intro ?_
  extract_lets +onlyGivenNames x1
  have h2 : SoundR id s x1 := by
    unfold x1
    refine SoundR.app (sound_updYar ..) ?_
    exact SoundR.self _
  clear_value x1
  split
  · rename_i v3 v4
    exact h2
  · rename_i v5 v6 v7 v8
    refine SoundR.ite ?_ ?_
    · refine SoundR.app (sound_updVet ..) ?_
      exact h2
    · refine SoundR.app (sound_vetSquash ..) ?_
      exact h2

theorem sound_interruptTake (s : State) : Sound s (interruptTake s) := by
  unfold interruptTake
  refine SoundR.intro ?_
  extract_lets +onlyGivenNames x1
  clear_value x1
  extract_lets +onlyGivenNames x2
  clear_value x2
  refine SoundR.ite ?_ ?_
  · exact SoundR.self _
  · split
    · rename_i v3 v4
      exact SoundR.self _
    · rename_i v5 v6 v7
      refine SoundR.app (sound_yTrap ..) ?_
      exact SoundR.self _

theorem sound_predFlush (s : State) : Sound s (predFlush s) := by
  unfold predFlush
  refine SoundR.intro ?_
  refine SoundR.app (sound_updYar ..) ?_
  exact SoundR.self _

theorem sound_csrWrite (n : Nat) (w : Word) (s : State) : Sound s (csrWrite n w s) := by
  unfold csrWrite
  refine SoundR.intro ?_
  extract_lets +onlyGivenNames x1
  clear_value x1
  refine SoundR.ite ?_ ?_
  · refine SoundR.app (sound_updYar ..) ?_
    exact SoundR.self _
  · refine SoundR.ite ?_ ?_
    · refine SoundR.app (sound_updYar ..) ?_
      exact SoundR.self _
    · split
      · rename_i v2
        refine SoundR.app (sound_updYar ..) ?_
        exact SoundR.self _
      · rename_i v3
        refine SoundR.app (sound_updYar ..) ?_
        exact SoundR.self _
      · rename_i v4
        refine SoundR.app (sound_updYar ..) ?_
        exact SoundR.self _
      · rename_i v5
        refine SoundR.app (sound_updYar ..) ?_
        exact SoundR.self _
      · rename_i v6
        refine SoundR.app (sound_updYar ..) ?_
        exact SoundR.self _
      · rename_i v7
        refine SoundR.app (sound_updYar ..) ?_
        exact SoundR.self _
      · rename_i v8
        refine SoundR.app (sound_updYar ..) ?_
        exact SoundR.self _
      · rename_i v9
        refine SoundR.app (sound_updYar ..) ?_
        exact SoundR.self _
      · rename_i v10
        refine SoundR.app (sound_updYar ..) ?_
        exact SoundR.self _
      · rename_i v11
        refine SoundR.app (sound_updYar ..) ?_
        exact SoundR.self _
      · rename_i v12
        refine SoundR.app (sound_updYar ..) ?_
        exact SoundR.self _
      · rename_i v13
        refine SoundR.app (sound_updYar ..) ?_
        exact SoundR.self _
      · rename_i v14
        refine SoundR.app (sound_updYar ..) ?_
        exact SoundR.self _
      · rename_i v15
        refine SoundR.app (sound_updYar ..) ?_
        exact SoundR.self _
      · rename_i v16
        refine SoundR.app (sound_updYar ..) ?_
        exact SoundR.self _
      · rename_i v17
        refine SoundR.app (sound_updYar ..) ?_
        exact SoundR.self _
      · rename_i v18
        refine SoundR.app (sound_updDbg ..) ?_
        exact SoundR.self _
      · rename_i v19
        refine SoundR.app (sound_updDbg ..) ?_
        exact SoundR.self _
      · rename_i v20
        refine SoundR.app (sound_updDbg ..) ?_
        exact SoundR.self _
      · rename_i v21
        refine SoundR.app (sound_updDbg ..) ?_
        exact SoundR.self _
      · rename_i v22
        refine SoundR.app (sound_updDbg ..) ?_
        exact SoundR.self _
      · rename_i v23
        refine SoundR.app (sound_updDbg ..) ?_
        exact SoundR.self _
      · rename_i v24
        refine SoundR.app (sound_updDbg ..) ?_
        exact SoundR.self _
      · rename_i v25
        refine SoundR.app (sound_updYar ..) ?_
        exact SoundR.self _
      · rename_i v26
        extract_lets +onlyGivenNames x27
        clear_value x27
        refine SoundR.ite ?_ ?_
        · refine SoundR.app (sound_updYar ..) ?_
          exact SoundR.self _
        · exact SoundR.self _
      · rename_i v28
        refine SoundR.app (sound_updYar ..) ?_
        exact SoundR.self _
      · rename_i v29
        refine SoundR.app (sound_updYar ..) ?_
        exact SoundR.self _
      · rename_i v30
        refine SoundR.app (sound_updYar ..) ?_
        exact SoundR.self _
      · rename_i v31
        refine SoundR.app (sound_updYar ..) ?_
        exact SoundR.self _
      · rename_i v32
        refine SoundR.app (sound_updYar ..) ?_
        exact SoundR.self _
      · rename_i v33
        extract_lets +onlyGivenNames x34
        have h35 : SoundR id s x34 := by
          unfold x34
          refine SoundR.app (sound_updYar ..) ?_
          exact SoundR.self _
        clear_value x34
        refine SoundR.ite ?_ ?_
        · refine SoundR.app (sound_predFlush ..) ?_
          exact h35
        · exact h35
      · rename_i v36
        refine SoundR.app (sound_updYar ..) ?_
        exact SoundR.self _
      · rename_i v37
        refine SoundR.app (sound_updYar ..) ?_
        exact SoundR.self _
      · rename_i v38 v39 v40 v41 v42 v43 v44 v45 v46 v47 v48 v49 v50 v51 v52 v53 v54 v55 v56 v57 v58 v59 v60 v61 v62 v63 v64 v65 v66 v67 v68 v69 v70 v71
        exact SoundR.self _

end Sys2Proof.Machine
end

