-- ==== Sys2Proof/Laws/SoundYar.lean ====
section
/-!
SUPPORT. Every operation of the named files is sound (Laws/Sound.lean).
-/
set_option linter.unusedVariables false
namespace Sys2Proof.Machine
open Sys2Proof

theorem sound_dmaDescEnd (n : Fin 8) (s : State) : Sound s (dmaDescEnd n s) := by
  unfold dmaDescEnd
  refine SoundR.intro ?_
  extract_lets +onlyGivenNames x1
  clear_value x1
  extract_lets +onlyGivenNames x2
  clear_value x2
  extract_lets +onlyGivenNames x3
  have h4 : SoundR id s x3 := by
    unfold x3
    refine SoundR.app (sound_dmaWriteBack ..) ?_
    exact SoundR.self _
  clear_value x3
  extract_lets +onlyGivenNames x5
  have h6 : SoundR id s x5 := by
    unfold x5
    refine SoundR.ite ?_ ?_
    · refine SoundR.app (sound_raise ..) ?_
      exact h4
    · exact h4
  clear_value x5
  refine SoundR.ite ?_ ?_
  · refine SoundR.app (sound_set ..) ?_
    refine SoundR.app (sound_dmaStop ..) ?_
    exact h6
  · refine SoundR.app (sound_setDma ..) ?_
    refine SoundR.app (sound_set ..) ?_
    exact h6

theorem sound_dmaElemDone (n : Fin 8) (s : State) : Sound s (dmaElemDone n s) := by
  unfold dmaElemDone
  refine SoundR.intro ?_
  extract_lets +onlyGivenNames x1
  clear_value x1
  extract_lets +onlyGivenNames x2
  clear_value x2
  extract_lets +onlyGivenNames x3
  clear_value x3
  extract_lets +onlyGivenNames x4
  clear_value x4
  extract_lets +onlyGivenNames x5
  clear_value x5
  extract_lets +onlyGivenNames x6
  have h7 : SoundR id s x6 := by
    unfold x6
    refine SoundR.app (sound_setDma ..) ?_
    refine SoundR.app (sound_set ..) ?_
    exact SoundR.self _
  clear_value x6
  refine SoundR.ite ?_ ?_
  · refine SoundR.app (sound_dmaError ..) ?_
    exact h7
  · refine SoundR.ite ?_ ?_
    · refine SoundR.app (sound_dmaDescEnd ..) ?_
      exact h7
    · refine SoundR.app (sound_dmaNextBlock ..) ?_
      exact h7

theorem sound_dmaPut (n : Fin 8) (d : DWord) (s : State) : Sound s (dmaPut n d s) := by
  unfold dmaPut
  refine SoundR.intro ?_
  extract_lets +onlyGivenNames x1
  clear_value x1
  extract_lets +onlyGivenNames x2
  have h3 : SoundR id s x2 := by
    unfold x2
    refine SoundR.app (sound_setDma ..) ?_
    exact SoundR.self _
  clear_value x2
  split
  · rename_i v4 v5 v6 v7
    have h8 : SoundR id s v6 := by
      refine SoundR.of2 v7 ?_
      refine SoundR.appG (sound_fabric ..) ?_
      exact h3
    refine SoundR.app (sound_dmaElemDone ..) ?_
    exact h8
  · rename_i v9 v10 v11 v12
    have h13 : SoundR id s v11 := by
      refine SoundR.of2 v12 ?_
      refine SoundR.appG (sound_fabric ..) ?_
      exact h3
    refine SoundR.app (sound_dmaError ..) ?_
    exact h13
  · rename_i v14 v15 v16
    have h17 : SoundR id s v15 := by
      refine SoundR.of2 v16 ?_
      refine SoundR.appG (sound_fabric ..) ?_
      exact h3
    refine SoundR.app (sound_setDma ..) ?_
    exact h17

theorem sound_dmaElement (n : Fin 8) (s : State) : Sound s (dmaElement n s) := by
  unfold dmaElement
  refine SoundR.intro ?_
  extract_lets +onlyGivenNames x1
  clear_value x1
  refine SoundR.ite ?_ ?_
  · exact SoundR.self _
  · split
    · rename_i v2 v3 v4 v5
      have h6 : SoundR id s v4 := by
        refine SoundR.of2 v5 ?_
        refine SoundR.appG (sound_fabric ..) ?_
        exact SoundR.self _
      refine SoundR.app (sound_dmaPut ..) ?_
      exact h6
    · rename_i v7 v8 v9 v10
      have h11 : SoundR id s v9 := by
        refine SoundR.of2 v10 ?_
        refine SoundR.appG (sound_fabric ..) ?_
        exact SoundR.self _
      refine SoundR.app (sound_dmaError ..) ?_
      exact h11
    · rename_i v12 v13 v14
      have h15 : SoundR id s v13 := by
        refine SoundR.of2 v14 ?_
        refine SoundR.appG (sound_fabric ..) ?_
        exact SoundR.self _
      refine SoundR.app (sound_setDma ..) ?_
      exact h15

theorem sound_dmaRemoteDone (n : Fin 8) (write : Bool) (res : Option DWord) (s : State) : Sound s (dmaRemoteDone n write res s) := by
  unfold dmaRemoteDone
  refine SoundR.intro ?_
  extract_lets +onlyGivenNames x1
  clear_value x1
  split
  · rename_i v2 v3 v4
    refine SoundR.app (sound_dmaPut ..) ?_
    exact SoundR.self _
  · rename_i v5 v6
    refine SoundR.app (sound_dmaError ..) ?_
    exact SoundR.self _
  · rename_i v7 v8 v9
    refine SoundR.app (sound_dmaElemDone ..) ?_
    exact SoundR.self _
  · rename_i v10 v11
    refine SoundR.app (sound_dmaError ..) ?_
    exact SoundR.self _

theorem sound_campRefuse (c : Fin 2) (who : Who) (write : Bool) (ea : Nat) (cause : Cause) (s : State) : Sound s (campRefuse c who write ea cause s) := by
  unfold campRefuse
  refine SoundR.intro ?_
  refine SoundR.app (sound_raise ..) ?_
  refine SoundR.app (sound_busErr ..) ?_
  exact SoundR.self _

theorem sound_fetchSyls (c : Fin 2) (k : Nat) : ∀ (n a : Nat) (ws : List (Option Word)) (s : State),
    SoundR Prod.snd s (fetchSyls c k n a ws s)
  | 0, a, ws, s => by
    unfold fetchSyls
    exact SoundR.mkSnd (SoundR.self s)
  | n + 1, a, ws, s => by
    unfold fetchSyls
    have h : SoundR Prod.snd s (ramReadWord (campWho c k true) 1 (sylAddr c a) s) := sound_ramReadWord ..
    generalize ramReadWord (campWho c k true) 1 (sylAddr c a) s = r at h
    obtain ⟨o, t⟩ := r
    cases o with
    | none => exact SoundR.mkSnd (SoundR.app (sound_campRefuse ..) h)
    | some w => exact SoundR.ite h (SoundR.appG (sound_fetchSyls c k n ..) h)

theorem sound_fetchBundle (c : Fin 2) (k a : Nat) (s : State) : SoundR Prod.snd s (fetchBundle c k a s) := by
  unfold fetchBundle
  extract_lets +onlyGivenNames r
  have h : SoundR Prod.snd s r := sound_bankReady ..
  clear_value r
  refine SoundR.ite ?_ ?_
  · exact SoundR.appG (sound_fetchSyls ..) (SoundR.ofSnd h)
  · exact SoundR.mkSnd (SoundR.app (sound_campRefuse ..) (SoundR.ofSnd h))

theorem sound_schedWrite (c : Fin 2) (i v : Nat) (s : State) : Sound s (schedWrite c i v s) := by
  unfold schedWrite
  refine SoundR.intro ?_
  split
  · rename_i v1
    refine SoundR.app (sound_lsctlWrite ..) ?_
    exact SoundR.self _
  · rename_i v2
    refine SoundR.app (sound_updSched ..) ?_
    exact SoundR.self _
  · rename_i v3
    refine SoundR.app (sound_updSched ..) ?_
    exact SoundR.self _
  · rename_i v4 v5 v6 v7
    exact SoundR.self _

theorem sound_nearOk {s : State} {r : Nat × State} (h : SoundR Prod.snd s r) : SoundR Prod.snd s (nearOk r) := h

theorem sound_nearAns {s : State} {r : Word × State} (h : SoundR Prod.snd s r) : SoundR Prod.snd s (nearAns r) := h

theorem sound_nearWord (c : Fin 2) (k : Nat) (write : Bool) (ea v : Nat) (s : State) : SoundR Prod.snd s (nearWord c k write ea v s) := by
  unfold nearWord
  extract_lets +onlyGivenNames x1
  clear_value x1
  refine SoundR.ite ?_ ?_
  · refine SoundR.ite ?_ ?_
    · refine SoundR.mkSnd ?_
      exact SoundR.self _
    · extract_lets +onlyGivenNames x2
      clear_value x2
      refine sound_nearOk ?_
      refine SoundR.appG (sound_portRead ..) ?_
      exact SoundR.self _
  · refine SoundR.ite ?_ ?_
    · refine SoundR.ite ?_ ?_
      · refine SoundR.mkSnd ?_
        refine SoundR.app (sound_schedWrite ..) ?_
        exact SoundR.self _
      · refine SoundR.mkSnd ?_
        exact SoundR.self _
    · refine SoundR.ite ?_ ?_
      · refine sound_nearAns ?_
        refine SoundR.appG (sound_semPort ..) ?_
        exact SoundR.self _
      · refine SoundR.ite ?_ ?_
        · refine SoundR.mkSnd ?_
          refine SoundR.ite ?_ ?_
          · refine SoundR.app (sound_raise ..) ?_
            exact SoundR.self _
          · exact SoundR.self _
        · refine SoundR.mkSnd ?_
          exact SoundR.self _

theorem sound_nearAccess (c : Fin 2) (k : Nat) (write : Bool) (ea size v : Nat) (s : State) : SoundR Prod.snd s (nearAccess c k write ea size v s) := by
  unfold nearAccess
  refine SoundR.ite ?_ ?_
  · split
    · rename_i v1 v2
      refine SoundR.mkSnd ?_
      exact SoundR.self _
    · rename_i v3 v4 v5
      refine SoundR.ite ?_ ?_
      · refine SoundR.mkSnd ?_
        exact SoundR.self _
      · extract_lets +onlyGivenNames x6
        clear_value x6
        refine SoundR.ite ?_ ?_
        · extract_lets +onlyGivenNames x7
          have h8 : SoundR Prod.snd s x7 := by
            unfold x7
            refine SoundR.appG (sound_regWrite ..) ?_
            exact SoundR.self _
          clear_value x7
          split
          · rename_i v9 v10 v11
            refine SoundR.mkSnd ?_
            exact h8
          · rename_i v12 v13 v14
            refine SoundR.mkSnd ?_
            exact h8
        · split
          · rename_i v15 v16 v17 v18
            have h19 : SoundR id s v17 := by
              refine SoundR.of2 v18 ?_
              refine SoundR.appG (sound_regRead ..) ?_
              exact SoundR.self _
            refine SoundR.mkSnd ?_
            exact h19
          · rename_i v20 v21 v22 v23
            have h24 : SoundR id s v22 := by
              refine SoundR.of2 v23 ?_
              refine SoundR.appG (sound_regRead ..) ?_
              exact SoundR.self _
            refine SoundR.mkSnd ?_
            exact h24
  · refine SoundR.ite ?_ ?_
    · refine SoundR.mkSnd ?_
      exact SoundR.self _
    · split
      · rename_i v25 v26 v27 v28
        have h29 : SoundR id s v27 := by
          refine SoundR.of2 v28 ?_
          refine SoundR.appG (sound_nearWord ..) ?_
          exact SoundR.self _
        refine SoundR.mkSnd ?_
        exact h29
      · rename_i v30 v31 v32 v33
        have h34 : SoundR id s v32 := by
          refine SoundR.of2 v33 ?_
          refine SoundR.appG (sound_nearWord ..) ?_
          exact SoundR.self _
        refine SoundR.ite ?_ ?_
        · refine SoundR.mkSnd ?_
          exact h34
        · split
          · rename_i v35 v36 v37 v38
            have h39 : SoundR id s v37 := by
              refine SoundR.of2 v38 ?_
              refine SoundR.appG (sound_nearWord ..) ?_
              exact h34
            refine SoundR.mkSnd ?_
            exact h39
          · rename_i v40 v41 v42 v43
            have h44 : SoundR id s v42 := by
              refine SoundR.of2 v43 ?_
              refine SoundR.appG (sound_nearWord ..) ?_
              exact h34
            refine SoundR.mkSnd ?_
            exact h44

theorem sound_campAnswer (c : Fin 2) (k : Nat) (m : CMem) (s : State) : SoundR Prod.snd s (campAnswer c k m s) := by
  unfold campAnswer
  extract_lets +onlyGivenNames x1
  clear_value x1
  extract_lets +onlyGivenNames x2
  clear_value x2
  extract_lets +onlyGivenNames x3
  refine SoundR.ite ?_ ?_
  · unfold x3
    split
    · rename_i v4 v5 v6 v7
      have h8 : SoundR id s v6 := by
        refine SoundR.of2 v7 ?_
        refine SoundR.mkSnd ?_
        exact SoundR.self _
      refine SoundR.mkSnd ?_
      exact h8
    · rename_i v9 v10 v11 v12
      have h13 : SoundR id s v11 := by
        refine SoundR.of2 v12 ?_
        refine SoundR.mkSnd ?_
        exact SoundR.self _
      refine SoundR.mkSnd ?_
      refine SoundR.app (sound_campRefuse ..) ?_
      exact h13
  · refine SoundR.ite ?_ ?_
    · unfold x3
      split
      · rename_i v14 v15 v16 v17
        have h18 : SoundR id s v16 := by
          refine SoundR.of2 v17 ?_
          refine SoundR.mkSnd ?_
          exact SoundR.self _
        refine SoundR.mkSnd ?_
        exact h18
      · rename_i v19 v20 v21 v22
        have h23 : SoundR id s v21 := by
          refine SoundR.of2 v22 ?_
          refine SoundR.mkSnd ?_
          exact SoundR.self _
        refine SoundR.mkSnd ?_
        refine SoundR.app (sound_campRefuse ..) ?_
        exact h23
    · refine SoundR.ite ?_ ?_
      · extract_lets +onlyGivenNames x24
        clear_value x24
        unfold x3
        split
        · rename_i v25 v26 v27 v28
          have h29 : SoundR id s v27 := by
            refine SoundR.of2 v28 ?_
            refine SoundR.ite ?_ ?_
            · refine SoundR.appG (sound_ramWrite ..) ?_
              exact SoundR.self _
            · refine SoundR.appG (sound_ramRead ..) ?_
              exact SoundR.self _
          refine SoundR.mkSnd ?_
          exact h29
        · rename_i v30 v31 v32 v33
          have h34 : SoundR id s v32 := by
            refine SoundR.of2 v33 ?_
            refine SoundR.ite ?_ ?_
            · refine SoundR.appG (sound_ramWrite ..) ?_
              exact SoundR.self _
            · refine SoundR.appG (sound_ramRead ..) ?_
              exact SoundR.self _
          refine SoundR.mkSnd ?_
          refine SoundR.app (sound_campRefuse ..) ?_
          exact h34
      · refine SoundR.ite ?_ ?_
        · unfold x3
          split
          · rename_i v35 v36 v37 v38
            have h39 : SoundR id s v37 := by
              refine SoundR.of2 v38 ?_
              refine SoundR.appG (sound_windowAccess1 ..) ?_
              exact SoundR.self _
            refine SoundR.mkSnd ?_
            exact h39
          · rename_i v40 v41 v42 v43
            have h44 : SoundR id s v42 := by
              refine SoundR.of2 v43 ?_
              refine SoundR.appG (sound_windowAccess1 ..) ?_
              exact SoundR.self _
            refine SoundR.mkSnd ?_
            refine SoundR.app (sound_campRefuse ..) ?_
            exact h44
        · split
          · rename_i v45 v46 v47 v48
            have h49 : SoundR id s v47 := by
              refine SoundR.of2 v48 ?_
              refine SoundR.appG (sound_nearAccess ..) ?_
              exact SoundR.self _
            refine SoundR.mkSnd ?_
            exact h49
          · rename_i v50 v51 v52 v53
            have h54 : SoundR id s v52 := by
              refine SoundR.of2 v53 ?_
              refine SoundR.appG (sound_nearAccess ..) ?_
              exact SoundR.self _
            unfold x3
            split
            · rename_i v55 v56 v57 v58
              have h59 : SoundR id s v57 := by
                refine SoundR.of2 v58 ?_
                refine SoundR.mkSnd ?_
                exact h54
              refine SoundR.mkSnd ?_
              exact h59
            · rename_i v60 v61 v62 v63
              have h64 : SoundR id s v62 := by
                refine SoundR.of2 v63 ?_
                refine SoundR.mkSnd ?_
                exact h54
              refine SoundR.mkSnd ?_
              refine SoundR.app (sound_campRefuse ..) ?_
              exact h64

theorem sound_campAccess (c : Fin 2) (k : Nat) (m : CMem) (s : State) : SoundR Prod.snd s (campAccess c k m s) := by
  unfold campAccess
  split
  · rename_i v1 v2 v3 v4
    have h5 : SoundR id s v3 := by
      refine SoundR.of2 v4 ?_
      refine SoundR.appG (sound_campAnswer ..) ?_
      exact SoundR.self _
    refine SoundR.mkSnd ?_
    exact h5
  · rename_i v6 v7 v8 v9
    have h10 : SoundR id s v8 := by
      refine SoundR.of2 v9 ?_
      refine SoundR.appG (sound_campAnswer ..) ?_
      exact SoundR.self _
    refine SoundR.mkSnd ?_
    exact h10

theorem sound_campAccesses (c : Fin 2) (k : Nat) : ∀ (ms : List CMem) (s : State), SoundR Prod.snd s (campAccesses c k ms s)
  | [], s => by
    unfold campAccesses
    exact SoundR.mkSnd (SoundR.self s)
  | m :: ms, s => by
    unfold campAccesses
    extract_lets +onlyGivenNames r rest
    have h : SoundR Prod.snd s r := by
      unfold r
      exact sound_campAccess ..
    have k : SoundR Prod.snd s rest := by
      unfold rest
      exact SoundR.appG (sound_campAccesses c k ms _) (SoundR.ofSnd h)
    clear_value rest
    clear_value r
    split
    · exact k
    · exact SoundR.mkSnd (SoundR.ofSnd k)

theorem sound_campFlow (c : Fin 2) (k : Fin 4) (start nxt0 : Nat) (ctrl : Option Ctrl) (s : State) : Sound s (campFlow c k start nxt0 ctrl s) := by
  unfold campFlow
  refine SoundR.intro ?_
  extract_lets +onlyGivenNames x1
  clear_value x1
  extract_lets +onlyGivenNames x2
  clear_value x2
  extract_lets +onlyGivenNames x3
  clear_value x3
  extract_lets +onlyGivenNames x4
  clear_value x4
  extract_lets +onlyGivenNames x5
  clear_value x5
  extract_lets +onlyGivenNames x6
  clear_value x6
  extract_lets +onlyGivenNames x7
  clear_value x7
  extract_lets +onlyGivenNames x8
  clear_value x8
  extract_lets +onlyGivenNames x9
  clear_value x9
  extract_lets +onlyGivenNames x10
  clear_value x10
  extract_lets +onlyGivenNames x11
  have h12 : SoundR id s x11 := by
    unfold x11
    refine SoundR.app (sound_updCamp ..) ?_
    exact SoundR.self _
  clear_value x11
  refine SoundR.ite ?_ ?_
  · refine SoundR.app (sound_updCamp ..) ?_
    exact h12
  · exact h12

theorem sound_bundleEnd (c : Fin 2) (cid : Nat) (o : Option Ctrl) (s : State) : Sound s (bundleEnd c cid o s) := by
  unfold bundleEnd
  refine SoundR.intro ?_
  split
  · rename_i v1
    refine SoundR.ite ?_ ?_
    · refine SoundR.app (sound_updSched ..) ?_
      exact SoundR.self _
    · refine SoundR.app (sound_updSched ..) ?_
      exact SoundR.self _
  · rename_i v2 v3
    refine SoundR.app (sound_commitBy ..) ?_
    exact SoundR.self _
  · rename_i v4 v5 v6
    exact SoundR.self _

theorem sound_bundleRun (c : Fin 2) (x : Camp) (f : List (Option Word)) (s : State) : Sound s (bundleRun c x f s) := by
  unfold bundleRun
  refine SoundR.intro ?_
  extract_lets +onlyGivenNames x1
  clear_value x1
  extract_lets +onlyGivenNames x2
  clear_value x2
  extract_lets +onlyGivenNames x3
  clear_value x3
  extract_lets +onlyGivenNames x4
  clear_value x4
  extract_lets +onlyGivenNames x5
  clear_value x5
  extract_lets +onlyGivenNames x6
  clear_value x6
  extract_lets +onlyGivenNames x7
  have h8 : SoundR Prod.snd s x7 := by
    unfold x7
    refine SoundR.appG (sound_campAccesses ..) ?_
    exact SoundR.self _
  clear_value x7
  extract_lets +onlyGivenNames x9
  clear_value x9
  extract_lets +onlyGivenNames x10
  clear_value x10
  extract_lets +onlyGivenNames x11
  clear_value x11
  extract_lets +onlyGivenNames x12
  clear_value x12
  extract_lets +onlyGivenNames x13
  have h14 : SoundR id s x13 := by
    unfold x13
    refine SoundR.app (sound_updCamp ..) ?_
    exact h8
  clear_value x13
  extract_lets +onlyGivenNames x15
  have h16 : SoundR id s x15 := by
    unfold x15
    refine SoundR.ite ?_ ?_
    · refine SoundR.app (sound_set ..) ?_
      exact h14
    · exact h14
  clear_value x15
  extract_lets +onlyGivenNames x17
  have h18 : SoundR id s x17 := by
    unfold x17
    refine SoundR.app (sound_campFlow ..) ?_
    exact h16
  clear_value x17
  refine SoundR.app (sound_bundleEnd ..) ?_
  refine SoundR.app (sound_updCamp ..) ?_
  exact h18

theorem sound_bundleIssue (c : Fin 2) (s : State) : Sound s (bundleIssue c s) := by
  unfold bundleIssue
  dsimp only
  apply SoundR.intro
  have h : SoundR id s (noteLevels c s) := sound_noteLevels ..
  generalize noteLevels c s = t at h
  have h2 : SoundR Prod.snd t (fetchBundle c (s.camp.get c).ctx.val ((s.camp.get c).regs.get (s.camp.get c).ctx).pc.toNat t) :=
    sound_fetchBundle ..
  generalize fetchBundle c (s.camp.get c).ctx.val ((s.camp.get c).regs.get (s.camp.get c).ctx).pc.toNat t = f at h2
  obtain ⟨f, u⟩ := f
  have h3 : SoundR id t u := h2
  have h4 : SoundR id s (bundleRun c (s.camp.get c) f u) := SoundR.app (sound_bundleRun ..) (SoundR.app h3 h)
  refine SoundR.ite (SoundR.self s) ?_
  refine SoundR.ite h ?_
  refine SoundR.ite (SoundR.app (sound_updCamp ..) h) ?_
  exact SoundR.ite h h4

theorem sound_campServe (c : Fin 2) (r : SvcReq) (s : State) : Sound s (campServe c r s) := by
  unfold campServe
  refine SoundR.intro ?_
  extract_lets +onlyGivenNames x1
  clear_value x1
  refine SoundR.ite ?_ ?_
  · split
    · rename_i v2 v3 v4 v5
      have h6 : SoundR id s v4 := by
        refine SoundR.of2 v5 ?_
        refine SoundR.appG (sound_ramReadSmall ..) ?_
        exact SoundR.self _
      refine SoundR.app (sound_answer ..) ?_
      exact h6
    · rename_i v7 v8 v9 v10
      have h11 : SoundR id s v9 := by
        refine SoundR.of2 v10 ?_
        refine SoundR.appG (sound_ramReadSmall ..) ?_
        exact SoundR.self _
      refine SoundR.app (sound_answerRefused ..) ?_
      refine SoundR.app (sound_campRefuse ..) ?_
      exact h11
  · split
    · rename_i v12 v13 v14 v15
      have h16 : SoundR id s v14 := by
        refine SoundR.of2 v15 ?_
        refine SoundR.appG (sound_campAnswer ..) ?_
        exact SoundR.self _
      refine SoundR.app (sound_answer ..) ?_
      exact h16
    · rename_i v17 v18 v19 v20
      have h21 : SoundR id s v19 := by
        refine SoundR.of2 v20 ?_
        refine SoundR.appG (sound_campAnswer ..) ?_
        exact SoundR.self _
      refine SoundR.app (sound_answerRefused ..) ?_
      exact h21

theorem sound_engineServe (r : SvcReq) (s : State) : SoundR Prod.snd s (engineServe r s) := by
  unfold engineServe
  refine SoundR.ite ?_ ?_
  · refine SoundR.appG (sound_ramWrite ..) ?_
    exact SoundR.self _
  · refine SoundR.appG (sound_ramRead ..) ?_
    exact SoundR.self _

theorem sound_svcAccess (r : SvcReq) (s : State) : Sound s (svcAccess r s) := by
  unfold svcAccess
  refine SoundR.intro ?_
  extract_lets +onlyGivenNames x1
  split
  · rename_i v2 v3 v4
    refine SoundR.app (sound_campServe ..) ?_
    exact SoundR.self _
  · rename_i v5 v6
    refine SoundR.ite ?_ ?_
    · unfold x1
      split
      · rename_i v7 v8 v9 v10
        have h11 : SoundR id s v9 := by
          refine SoundR.of2 v10 ?_
          refine SoundR.appG (sound_portB ..) ?_
          exact SoundR.self _
        refine SoundR.app (sound_answer ..) ?_
        exact h11
      · rename_i v12 v13 v14 v15
        have h16 : SoundR id s v14 := by
          refine SoundR.of2 v15 ?_
          refine SoundR.appG (sound_portB ..) ?_
          exact SoundR.self _
        refine SoundR.app (sound_answerRefused ..) ?_
        exact h16
    · refine SoundR.ite ?_ ?_
      · unfold x1
        split
        · rename_i v17 v18 v19 v20
          have h21 : SoundR id s v19 := by
            refine SoundR.of2 v20 ?_
            refine SoundR.appG (sound_engineServe ..) ?_
            exact SoundR.self _
          refine SoundR.app (sound_answer ..) ?_
          exact h21
        · rename_i v22 v23 v24 v25
          have h26 : SoundR id s v24 := by
            refine SoundR.of2 v25 ?_
            refine SoundR.appG (sound_engineServe ..) ?_
            exact SoundR.self _
          refine SoundR.app (sound_answerRefused ..) ?_
          exact h26
      · split
        · rename_i v27 v28 v29 v30
          have h31 : SoundR id s v29 := by
            refine SoundR.of2 v30 ?_
            refine SoundR.appG (sound_fabric ..) ?_
            exact SoundR.self _
          unfold x1
          split
          · rename_i v32 v33 v34 v35
            have h36 : SoundR id s v34 := by
              refine SoundR.of2 v35 ?_
              refine SoundR.mkSnd ?_
              exact h31
            refine SoundR.app (sound_answer ..) ?_
            exact h36
          · rename_i v37 v38 v39 v40
            have h41 : SoundR id s v39 := by
              refine SoundR.of2 v40 ?_
              refine SoundR.mkSnd ?_
              exact h31
            refine SoundR.app (sound_answerRefused ..) ?_
            exact h41
        · rename_i v42 v43 v44
          have h45 : SoundR id s v43 := by
            refine SoundR.of2 v44 ?_
            refine SoundR.appG (sound_fabric ..) ?_
            exact SoundR.self _
          exact h45

theorem sound_svcArrive (r : SvcReq) (s : State) : Sound s (svcArrive r s) := by
  unfold svcArrive
  refine SoundR.intro ?_
  split
  · rename_i v1 v2
    refine SoundR.app (sound_svcAccess ..) ?_
    exact SoundR.self _
  · rename_i v3 v4 v5
    extract_lets +onlyGivenNames x6
    clear_value x6
    extract_lets +onlyGivenNames x7
    have h8 : SoundR id s x7 := by
      unfold x7
      refine SoundR.mk' rfl ?_
      exact SoundR.self _
    clear_value x7
    refine SoundR.ite ?_ ?_
    · exact h8
    · split
      · rename_i v9 v10 v11
        refine SoundR.app (sound_busErr ..) ?_
        exact SoundR.self _
      · rename_i v12 v13 v14
        exact h8

theorem sound_collision (a : Nat) (s : State) : Sound s (collision a s) := by
  unfold collision
  refine SoundR.intro ?_
  refine SoundR.app (sound_raise ..) ?_
  refine SoundR.app (sound_setWord ..) ?_
  refine SoundR.app (sound_count ..) ?_
  exact SoundR.self _

theorem sound_noteFetch (r : SvcReq) (others : List SvcReq) (s : State) : Sound s (noteFetch r others s) := by
  unfold noteFetch
  refine SoundR.intro ?_
  split
  · rename_i v1 v2 v3
    extract_lets +onlyGivenNames x4
    clear_value x4
    extract_lets +onlyGivenNames x5
    clear_value x5
    refine SoundR.mk' rfl ?_
    exact SoundR.self _
  · rename_i v6 v7
    exact SoundR.self _

theorem sound_svcServe (r : SvcReq) (others : List SvcReq) (s : State) : Sound s (svcServe r others s) := by
  unfold svcServe
  refine SoundR.intro ?_
  extract_lets +onlyGivenNames x1
  clear_value x1
  extract_lets +onlyGivenNames x2
  have h3 : SoundR id s x2 := by
    unfold x2
    refine SoundR.app (sound_svcAccess ..) ?_
    exact SoundR.self _
  clear_value x2
  extract_lets +onlyGivenNames x4
  have h5 : SoundR id s x4 := by
    unfold x4
    refine SoundR.foldl _ ?_ ?_
    · intro a6 a7
      refine SoundR.app (sound_svcAccess ..) ?_
      exact SoundR.self _
    · exact h3
  clear_value x4
  extract_lets +onlyGivenNames x8
  have h9 : SoundR id s x8 := by
    unfold x8
    refine SoundR.ite ?_ ?_
    · exact h3
    · refine SoundR.ite ?_ ?_
      · refine SoundR.app (sound_collision ..) ?_
        exact h3
      · refine SoundR.app (sound_answer ..) ?_
        exact h3
  clear_value x8
  refine SoundR.app (sound_noteFetch ..) ?_
  exact h9

theorem sound_svcErase (r : SvcReq) (s : State) : Sound s (svcErase r s) := by
  unfold svcErase
  refine SoundR.intro ?_
  split
  · rename_i v1 v2
    exact SoundR.self _
  · rename_i v3 v4 v5
    refine SoundR.mk' rfl ?_
    exact SoundR.self _

theorem sound_pwrCapture (b : Fin 68) (more : Nat) (s : State) : Sound s (pwrCapture b more s) := by
  unfold pwrCapture
  refine SoundR.intro ?_
  split
  · rename_i v1 v2 v3 v4
    extract_lets +onlyGivenNames x5
    clear_value x5
    refine SoundR.mk' rfl ?_
    exact SoundR.self _
  · rename_i v6 v7
    exact SoundR.self _

theorem sound_pwrServed (b : Fin 68) (s : State) : Sound s (pwrServed b s) := by
  unfold pwrServed
  refine SoundR.intro ?_
  split
  · rename_i v1 v2 v3 v4 v5
    extract_lets +onlyGivenNames x6
    clear_value x6
    refine SoundR.ite ?_ ?_
    · refine SoundR.app (sound_pwrBegin ..) ?_
      refine SoundR.mk' rfl ?_
      exact SoundR.self _
    · refine SoundR.mk' rfl ?_
      exact SoundR.self _
  · rename_i v7 v8
    exact SoundR.self _

theorem sound_serveWith (more : List SvcReq) (q : Resource) (s : State) : Sound s (serveWith more q s) := by
  unfold serveWith
  refine SoundR.intro ?_
  split
  · rename_i v1 v2
    exact SoundR.self _
  · rename_i v3 v4 v5
    extract_lets +onlyGivenNames x6
    have h7 : SoundR id s x6 := by
      unfold x6
      refine SoundR.app (sound_svcErase ..) ?_
      exact SoundR.self _
    clear_value x6
    refine SoundR.app (sound_svcServe ..) ?_
    exact h7

theorem sound_serveWinner (q : Resource) (s : State) : Sound s (serveWinner q s) := by
  unfold serveWinner
  refine SoundR.intro ?_
  refine SoundR.app (sound_serveWith ..) ?_
  exact SoundR.self _

theorem sound_servicePoint (q : Resource) (arrivals : List SvcReq) (s : State) : Sound s (servicePoint q arrivals s) := by
  unfold servicePoint
  refine SoundR.intro ?_
  extract_lets +onlyGivenNames x1
  have h2 : SoundR id s x1 := by
    unfold x1
    refine SoundR.foldl _ ?_ ?_
    · intro a3 a4
      refine SoundR.app (sound_svcArrive ..) ?_
      exact SoundR.self _
    · exact SoundR.self _
  clear_value x1
  split
  · rename_i v5 v6
    refine SoundR.app (sound_pwrServed ..) ?_
    refine SoundR.app (sound_serveWinner ..) ?_
    refine SoundR.app (sound_pwrCapture ..) ?_
    exact h2
  · rename_i v7 v8
    refine SoundR.ite ?_ ?_
    · refine SoundR.app (sound_nextHop ..) ?_
      exact h2
    · refine SoundR.app (sound_serveWinner ..) ?_
      exact h2
  · rename_i v9 v10 v11
    refine SoundR.app (sound_serveWinner ..) ?_
    exact h2

theorem sound_vetFinish (s : State) : Sound s (vetFinish s) := by
  unfold vetFinish
  refine SoundR.intro ?_
  refine SoundR.app (sound_updVet ..) ?_
  exact SoundR.self _

theorem sound_vetOldest (s : State) : Sound s (vetOldest s) := by
  unfold vetOldest
  refine SoundR.intro ?_
  split
  · rename_i v1 v2
    exact SoundR.self _
  · rename_i v3 v4 v5 v6
    refine SoundR.app (sound_updVet ..) ?_
    exact SoundR.self _

theorem sound_passWaits (reqs : List SvcReq) (b : Fin 68) (s : State) : Sound s (passWaits reqs b s) := by
  unfold passWaits
  refine SoundR.intro ?_
  refine SoundR.app (sound_pwrServed ..) ?_
  refine SoundR.app (sound_serveWith ..) ?_
  exact SoundR.self _

theorem sound_passAfter (reqs : List SvcReq) (b : Fin 68) : ∀ (n : Nat) (s : State), Sound s (passAfter reqs b n s)
  | 0, s => by
    unfold passAfter
    exact Sound.refl s
  | n + 1, s => by
    unfold passAfter
    refine SoundR.intro ?_
    exact SoundR.ite (SoundR.app (sound_passAfter reqs b n _) (SoundR.app (sound_passWaits ..) (SoundR.self s))) (SoundR.self s)

theorem sound_passTurn (reqs : List SvcReq) (b : Fin 68) (s : State) : Sound s (passTurn reqs b s) := by
  unfold passTurn
  refine SoundR.intro ?_
  extract_lets +onlyGivenNames x1
  have h2 : SoundR id s x1 := by
    unfold x1
    split
    · rename_i v3 v4 v5 v6 v7
      refine SoundR.forEach _ ?_ ?_
      · intro a8 a9
        refine SoundR.app (sound_passWaits ..) ?_
        exact SoundR.self _
      · exact SoundR.self _
    · rename_i v10 v11
      exact SoundR.self _
  clear_value x1
  refine SoundR.app (sound_passAfter ..) ?_
  refine SoundR.app (sound_pwrCapture ..) ?_
  exact h2

theorem sound_passWord (m : VMem) (store : Bool) (els : List Nat) (v p : Nat) (s : State) : SoundR Prod.snd s (passWord m store els v p s) := by
  unfold passWord
  split
  · rename_i v1 v2 v3
    have h4 : SoundR id s v2 := by
      refine SoundR.of2 v3 ?_
      refine SoundR.appG (sound_bankReady ..) ?_
      exact SoundR.self _
    refine SoundR.mkSnd ?_
    exact h4
  · rename_i v5 v6 v7
    have h8 : SoundR id s v6 := by
      refine SoundR.of2 v7 ?_
      refine SoundR.appG (sound_bankReady ..) ?_
      exact SoundR.self _
    extract_lets +onlyGivenNames x9
    clear_value x9
    extract_lets +onlyGivenNames x10
    clear_value x10
    extract_lets +onlyGivenNames x11
    clear_value x11
    refine SoundR.ite ?_ ?_
    · split
      · rename_i v12 v13 v14
        have h15 : SoundR id s v13 := by
          refine SoundR.of2 v14 ?_
          refine SoundR.appG (sound_ramWriteWord ..) ?_
          exact h8
        refine SoundR.mkSnd ?_
        refine SoundR.ite ?_ ?_
        · exact h15
        · refine SoundR.app (sound_collision ..) ?_
          exact h15
      · rename_i v16 v17 v18
        have h19 : SoundR id s v17 := by
          refine SoundR.of2 v18 ?_
          refine SoundR.appG (sound_ramWriteWord ..) ?_
          exact h8
        refine SoundR.mkSnd ?_
        exact h19
    · split
      · rename_i v20 v21 v22
        have h23 : SoundR id s v21 := by
          refine SoundR.of2 v22 ?_
          refine SoundR.appG (sound_ramReadWord ..) ?_
          exact h8
        refine SoundR.mkSnd ?_
        exact h23
      · rename_i v24 v25 v26 v27
        have h28 : SoundR id s v26 := by
          refine SoundR.of2 v27 ?_
          refine SoundR.appG (sound_ramReadWord ..) ?_
          exact h8
        extract_lets +onlyGivenNames x29
        have h30 : SoundR id s x29 := by
          unfold x29
          refine SoundR.foldl _ ?_ ?_
          · intro a31 a32
            refine SoundR.app (sound_svcAccess ..) ?_
            exact SoundR.self _
          · exact h28
        clear_value x29
        refine SoundR.mkSnd ?_
        exact h28

theorem sound_passRun (m : VMem) (store quiet : Bool) (els : List Nat) (v : Nat) :
    ∀ (ps : List Nat) (got : List (Nat × Word)) (s : State), SoundR Prod.snd s (passRun m store quiet els v ps got s)
  | [], got, s => by
    unfold passRun
    exact SoundR.mkSnd (SoundR.self s)
  | p :: ps, got, s => by
    unfold passRun
    have h : SoundR Prod.snd s (passWord m store els v p s) := sound_passWord ..
    generalize passWord m store els v p s = r at h
    obtain ⟨x, t⟩ := r
    cases x with
    | ok w => exact SoundR.appG (sound_passRun m store quiet els v ps _ _) h
    | error c => exact SoundR.mkSnd (SoundR.ite (SoundR.self s) h)

theorem sound_vPass (m : VMem) (store quiet : Bool) (e : Nat) (r : VRun) (s : State) : SoundR Prod.snd s (vPass m store quiet e r s) := by
  unfold vPass
  extract_lets +onlyGivenNames x1
  clear_value x1
  extract_lets +onlyGivenNames x2
  clear_value x2
  extract_lets +onlyGivenNames x3
  have h4 : SoundR id s x3 := by
    unfold x3
    refine SoundR.foldl _ ?_ ?_
    · intro a5 a6
      refine SoundR.app (sound_passTurn ..) ?_
      exact SoundR.self _
    · exact SoundR.self _
  clear_value x3
  extract_lets +onlyGivenNames x7
  have h8 : SoundR Prod.snd s x7 := by
    unfold x7
    refine SoundR.appG (sound_passRun ..) ?_
    exact h4
  clear_value x7
  extract_lets +onlyGivenNames x9
  have h10 : SoundR id s x9 := by
    unfold x9
    refine SoundR.foldl _ ?_ ?_
    · intro a11 a12
      refine SoundR.app (sound_pwrServed ..) ?_
      refine SoundR.mk' rfl ?_
      exact SoundR.self _
    · exact h8
  clear_value x9
  extract_lets +onlyGivenNames x13
  clear_value x13
  extract_lets +onlyGivenNames x14
  clear_value x14
  extract_lets +onlyGivenNames x15
  clear_value x15
  split
  · rename_i v16 v17
    refine SoundR.mkSnd ?_
    exact h10
  · rename_i v18 v19 v20 v21 v22
    extract_lets +onlyGivenNames x23
    clear_value x23
    refine SoundR.mkSnd ?_
    refine SoundR.ite ?_ ?_
    · exact h10
    · refine SoundR.app (sound_busErr ..) ?_
      exact h10

theorem SoundR.mkDone {s t : State} (h : SoundR id s t) : SoundR YOut.state s (.done t) := h
theorem SoundR.mkBusy {s t : State} (h : SoundR id s t) : SoundR YOut.state s (.busy t) := h
theorem SoundR.ofDone {s t : State} {o : YOut} (e : o = .done t) (h : SoundR YOut.state s o) : SoundR id s t := by
  subst e; exact h
theorem SoundR.ofBusy {s t : State} {o : YOut} (e : o = .busy t) (h : SoundR YOut.state s o) : SoundR id s t := by
  subst e; exact h

theorem sound_vMemRun (m : VMem) (store quiet : Bool) : ∀ (fuel : Nat) (left : Option Nat) (r : VRun) (s : State),
    SoundR Prod.snd s (vMemRun m store quiet fuel left r s)
  | 0, left, r, s => by
    unfold vMemRun
    exact SoundR.mkSnd (SoundR.self s)
  | fuel + 1, left, r, s => by
    unfold vMemRun
    split
    · exact SoundR.mkSnd (SoundR.self s)
    · refine SoundR.ite (SoundR.mkSnd (SoundR.self s)) ?_
      split
      · refine SoundR.mkSnd ?_
        split
        · exact SoundR.app (sound_busErr ..) (SoundR.self s)
        · exact SoundR.self s
      · rename_i e _ _
        extract_lets +onlyGivenNames x
        have h : SoundR Prod.snd s x := by
          unfold x
          exact sound_vPass ..
        clear_value x
        exact SoundR.ite h (SoundR.appG (sound_vMemRun m store quiet fuel ..) (SoundR.ofSnd h))

theorem sound_vLand (o : VOut) (s : State) : Sound s (vLand o s) := by
  unfold vLand
  refine SoundR.intro ?_
  extract_lets +onlyGivenNames x1
  have h2 : SoundR id s x1 := by
    unfold x1
    refine SoundR.app (sound_accrue ..) ?_
    refine SoundR.app (sound_updVet ..) ?_
    exact SoundR.self _
  clear_value x1
  refine SoundR.ite ?_ ?_
  · refine SoundR.app (sound_updYar ..) ?_
    exact h2
  · exact h2

theorem sound_vFault (e cause a yf : Nat) (s : State) : Sound s (vFault e cause a yf s) := by
  unfold vFault
  refine SoundR.intro ?_
  extract_lets +onlyGivenNames x1
  have h2 : SoundR id s x1 := by
    unfold x1
    refine SoundR.app (sound_updYar ..) ?_
    exact SoundR.self _
  clear_value x1
  extract_lets +onlyGivenNames x3
  have h4 : SoundR id s x3 := by
    unfold x3
    refine SoundR.ite ?_ ?_
    · refine SoundR.app (sound_yTrap ..) ?_
      exact h2
    · refine SoundR.app (sound_yFault ..) ?_
      exact h2
  clear_value x3
  refine SoundR.app (sound_raise ..) ?_
  exact h4

theorem sound_vMemExec (w : Word) (limit : Option Nat) (s : State) : SoundR YOut.state s (vMemExec w limit s) := by
  unfold vMemExec
  extract_lets +onlyGivenNames x1
  have h2 : SoundR id s x1 := by
    unfold x1
    refine SoundR.app (sound_drainAll ..) ?_
    exact SoundR.self _
  clear_value x1
  refine SoundR.ite ?_ ?_
  · refine SoundR.mkBusy ?_
    exact h2
  · extract_lets +onlyGivenNames x3
    clear_value x3
    extract_lets +onlyGivenNames x4
    clear_value x4
    extract_lets +onlyGivenNames x5
    clear_value x5
    extract_lets +onlyGivenNames x6
    clear_value x6
    extract_lets +onlyGivenNames x7
    have h8 : SoundR Prod.snd s x7 := by
      unfold x7
      refine SoundR.appG (sound_vMemRun ..) ?_
      exact h2
    clear_value x7
    extract_lets +onlyGivenNames x9
    have h10 : SoundR id s x9 := by
      unfold x9
      exact h8
    clear_value x9
    extract_lets +onlyGivenNames x11
    have h12 : SoundR id s x11 := by
      unfold x11
      refine SoundR.ite ?_ ?_
      · exact h10
      · refine SoundR.app (sound_vLand ..) ?_
        exact h10
    clear_value x11
    split
    · rename_i v13 v14 v15
      refine SoundR.mkDone ?_
      refine SoundR.app (sound_vFault ..) ?_
      exact h12
    · rename_i v16 v17
      refine SoundR.ite ?_ ?_
      · refine SoundR.mkBusy ?_
        refine SoundR.app (sound_updYar ..) ?_
        exact h12
      · refine SoundR.mkDone ?_
        refine SoundR.app (sound_retireTo ..) ?_
        refine SoundR.app (sound_updYar ..) ?_
        exact h12

theorem sound_vSetvl (w : Word) (s : State) : Sound s (vSetvl w s) := by
  unfold vSetvl
  refine SoundR.intro ?_
  extract_lets +onlyGivenNames x1
  clear_value x1
  extract_lets +onlyGivenNames x2
  clear_value x2
  refine SoundR.ite ?_ ?_
  · extract_lets +onlyGivenNames x3
    have h4 : SoundR id s x3 := by
      unfold x3
      refine SoundR.app (sound_updVet ..) ?_
      exact SoundR.self _
    clear_value x3
    refine SoundR.app (sound_yPut ..) ?_
    exact h4
  · refine SoundR.app (sound_yPut ..) ?_
    refine SoundR.app (sound_updVet ..) ?_
    exact SoundR.self _

theorem sound_vRecorded (f : VFlt) (s : State) : Sound s (vRecorded f s) := by
  unfold vRecorded
  refine SoundR.intro ?_
  extract_lets +onlyGivenNames x1
  have h2 : SoundR id s x1 := by
    unfold x1
    refine SoundR.ite ?_ ?_
    · refine SoundR.app (sound_raise ..) ?_
      exact SoundR.self _
    · exact SoundR.self _
  clear_value x1
  extract_lets +onlyGivenNames x3
  have h4 : SoundR id s x3 := by
    unfold x3
    refine SoundR.ite ?_ ?_
    · refine SoundR.app (sound_noteUncorrectable ..) ?_
      exact h2
    · exact h2
  clear_value x3
  extract_lets +onlyGivenNames x5
  have h6 : SoundR id s x5 := by
    unfold x5
    split
    · rename_i v7 v8 v9
      refine SoundR.app (sound_busErr ..) ?_
      exact h4
    · rename_i v10 v11
      exact h4
  clear_value x5
  refine SoundR.app (sound_vFault ..) ?_
  exact h6

theorem sound_vCommit (p : VPend) (s : State) : Sound s (vCommit p s) := by
  unfold vCommit
  refine SoundR.intro ?_
  extract_lets +onlyGivenNames x1
  have h2 : SoundR id s x1 := by
    unfold x1
    refine SoundR.app (sound_updVet ..) ?_
    exact SoundR.self _
  clear_value x1
  extract_lets +onlyGivenNames x3
  have h4 : SoundR id s x3 := by
    unfold x3
    refine SoundR.app (sound_vLand ..) ?_
    exact h2
  clear_value x3
  split
  · rename_i v5 v6
    refine SoundR.app (sound_retireTo ..) ?_
    refine SoundR.ite ?_ ?_
    · exact h4
    · refine SoundR.app (sound_updYar ..) ?_
      exact h4
  · rename_i v7 v8 v9
    refine SoundR.app (sound_vRecorded ..) ?_
    exact h4

theorem sound_vEnter (o : VOut) (s : State) : Sound s (vEnter o s) := by
  unfold vEnter
  refine SoundR.intro ?_
  extract_lets +onlyGivenNames x1
  have h2 : SoundR id s x1 := by
    unfold x1
    refine SoundR.app (sound_accrue ..) ?_
    refine SoundR.app (sound_updVet ..) ?_
    exact SoundR.self _
  clear_value x1
  refine SoundR.ite ?_ ?_
  · refine SoundR.app (sound_updYar ..) ?_
    exact h2
  · exact h2

theorem sound_vExec (w : Word) (limit : Option Nat) (s : State) : SoundR YOut.state s (vExec w limit s) := by
  unfold vExec
  split
  · rename_i v1 v2 v3
    refine SoundR.mkDone ?_
    refine SoundR.app (sound_vCommit ..) ?_
    exact SoundR.self _
  · rename_i v4 v5
    extract_lets +onlyGivenNames x6
    have h7 : SoundR id s x6 := by
      unfold x6
      refine SoundR.app (sound_vetSquash ..) ?_
      exact SoundR.self _
    clear_value x6
    extract_lets +onlyGivenNames x8
    clear_value x8
    refine SoundR.ite ?_ ?_
    · refine SoundR.mkDone ?_
      refine SoundR.app (sound_yTrap ..) ?_
      exact h7
    · refine SoundR.ite ?_ ?_
      · refine SoundR.ite ?_ ?_
        · refine SoundR.mkBusy ?_
          exact h7
        · extract_lets +onlyGivenNames x9
          have h10 : SoundR id s x9 := by
            unfold x9
            refine SoundR.app (sound_vEnter ..) ?_
            exact h7
          clear_value x9
          refine SoundR.mkDone ?_
          refine SoundR.app (sound_retireTo ..) ?_
          exact h10
      · extract_lets +onlyGivenNames x11
        have h12 : SoundR id s x11 := by
          unfold x11
          refine SoundR.app (sound_vetFinish ..) ?_
          exact h7
        clear_value x11
        split
        · rename_i v13 v14
          refine SoundR.mkDone ?_
          extract_lets +onlyGivenNames x15
          have h16 : SoundR id s x15 := by
            unfold x15
            refine SoundR.app (sound_yPut ..) ?_
            exact h12
          clear_value x15
          refine SoundR.app (sound_retireTo ..) ?_
          exact h16
        · rename_i v17 v18
          extract_lets +onlyGivenNames x19
          have h20 : SoundR id s x19 := by
            unfold x19
            split
            · rename_i v21 v22
              refine SoundR.app (sound_vSetvl ..) ?_
              exact h12
            · rename_i v23 v24
              refine SoundR.app (sound_yPut ..) ?_
              exact h12
            · rename_i v25 v26
              exact h12
            · rename_i v27 v28 v29 v30
              refine SoundR.app (sound_raise ..) ?_
              exact h12
          clear_value x19
          refine SoundR.mkDone ?_
          refine SoundR.app (sound_retireTo ..) ?_
          exact h20
        · rename_i v31 v32 v33
          refine SoundR.appG (sound_vMemExec ..) ?_
          exact h12

theorem sound_vBegin (w : Word) (pc : Word) (path : List Word) (s : State) : Sound s (vBegin w pc path s) := by
  unfold vBegin
  refine SoundR.intro ?_
  extract_lets +onlyGivenNames x1
  clear_value x1
  extract_lets +onlyGivenNames x2
  refine SoundR.ite ?_ ?_
  · exact SoundR.self _
  · refine SoundR.ite ?_ ?_
    · extract_lets +onlyGivenNames x3
      clear_value x3
      unfold x2
      refine SoundR.app (sound_updVet ..) ?_
      refine SoundR.app (sound_vetFinish ..) ?_
      exact SoundR.self _
    · refine SoundR.ite ?_ ?_
      · extract_lets +onlyGivenNames x4
        clear_value x4
        extract_lets +onlyGivenNames x5
        clear_value x5
        extract_lets +onlyGivenNames x6
        clear_value x6
        extract_lets +onlyGivenNames x7
        clear_value x7
        refine SoundR.ite ?_ ?_
        · exact SoundR.self _
        · extract_lets +onlyGivenNames x8
          have h9 : SoundR id s x8 := by
            unfold x8
            refine SoundR.app (sound_drainAll ..) ?_
            refine SoundR.app (sound_vetFinish ..) ?_
            exact SoundR.self _
          clear_value x8
          refine SoundR.ite ?_ ?_
          · exact h9
          · extract_lets +onlyGivenNames x10
            have h11 : SoundR Prod.snd s x10 := by
              unfold x10
              refine SoundR.appG (sound_vMemRun ..) ?_
              exact h9
            clear_value x10
            extract_lets +onlyGivenNames x12
            clear_value x12
            unfold x2
            refine SoundR.app (sound_updVet ..) ?_
            exact h11
      · exact SoundR.self _

theorem sound_fetchPart (a size : Nat) (s : State) : SoundR Prod.snd s (fetchPart a size s) := by
  unfold fetchPart
  refine SoundR.ite (SoundR.mkSnd (SoundR.self s)) ?_
  have h : SoundR Prod.snd s (yAccess .yarrow 2 a size 0 s) := sound_yAccess ..
  generalize yAccess .yarrow 2 a size 0 s = r at h
  obtain ⟨y, t⟩ := r
  cases y with
  | ok d => exact h
  | fault c f => exact h
  | wait => exact h

theorem sound_yFetch (s : State) : SoundR Prod.snd s (yFetch s) := by
  unfold yFetch
  extract_lets +onlyGivenNames x1
  clear_value x1
  extract_lets +onlyGivenNames x2
  have h3 : SoundR Prod.snd s x2 := by
    unfold x2
    refine SoundR.ite ?_ ?_
    · refine SoundR.appG (sound_fetchPart ..) ?_
      exact SoundR.self _
    · refine SoundR.appG (sound_fetchPart ..) ?_
      exact SoundR.self _
  clear_value x2
  split
  · rename_i v4 v5 v6
    refine SoundR.mkSnd ?_
    exact h3
  · rename_i v7 v8 v9
    refine SoundR.ite ?_ ?_
    · refine SoundR.mkSnd ?_
      exact h3
    · refine SoundR.ite ?_ ?_
      · refine SoundR.mkSnd ?_
        exact h3
      · split
        · rename_i v10 v11 v12 v13
          have h14 : SoundR id s v12 := by
            refine SoundR.of2 v13 ?_
            refine SoundR.appG (sound_fetchPart ..) ?_
            exact h3
          refine SoundR.mkSnd ?_
          exact h14
        · rename_i v15 v16 v17 v18
          have h19 : SoundR id s v17 := by
            refine SoundR.of2 v18 ?_
            refine SoundR.appG (sound_fetchPart ..) ?_
            exact h3
          refine SoundR.mkSnd ?_
          exact h19

theorem sound_predictLearn (i : YInstr) (pc next : Word) (len : Nat) (taken : Bool) (s : State) : Sound s (predictLearn i pc next len taken s) := by
  unfold predictLearn
  refine SoundR.intro ?_
  extract_lets +onlyGivenNames x1
  clear_value x1
  extract_lets +onlyGivenNames x2
  clear_value x2
  extract_lets +onlyGivenNames x3
  clear_value x3
  extract_lets +onlyGivenNames x4
  clear_value x4
  extract_lets +onlyGivenNames x5
  clear_value x5
  extract_lets +onlyGivenNames x6
  clear_value x6
  refine SoundR.app (sound_updYar ..) ?_
  exact SoundR.self _

theorem sound_triggerAct (act : Nat) (s : State) : Sound s (triggerAct act s) := by
  unfold triggerAct
  refine SoundR.intro ?_
  refine SoundR.ite ?_ ?_
  · refine SoundR.app (sound_debugEnter ..) ?_
    exact SoundR.self _
  · refine SoundR.app (sound_yTrap ..) ?_
    exact SoundR.self _

theorem sound_loadDone (rd : Nat) (isF : Bool) (fn len d : Nat) (s : State) : Sound s (loadDone rd isF fn len d s) := by
  unfold loadDone
  refine SoundR.intro ?_
  extract_lets +onlyGivenNames x1
  have h2 : SoundR id s x1 := by
    unfold x1
    refine SoundR.ite ?_ ?_
    · refine SoundR.app (sound_fPut ..) ?_
      exact SoundR.self _
    · refine SoundR.app (sound_yPut ..) ?_
      exact SoundR.self _
  clear_value x1
  refine SoundR.app (sound_retireTo ..) ?_
  exact h2

theorem sound_yLoad (rd : Nat) (isF : Bool) (fn len : Nat) (addr : Word) (s : State) : SoundR YOut.state s (yLoad rd isF fn len addr s) := by
  unfold yLoad
  extract_lets +onlyGivenNames x1
  clear_value x1
  extract_lets +onlyGivenNames x2
  clear_value x2
  split
  · rename_i v3 v4 v5
    refine SoundR.mkDone ?_
    refine SoundR.app (sound_triggerAct ..) ?_
    exact SoundR.self _
  · rename_i v6 v7
    refine SoundR.ite ?_ ?_
    · refine SoundR.mkDone ?_
      refine SoundR.app (sound_yTrap ..) ?_
      exact SoundR.self _
    · extract_lets +onlyGivenNames x8
      have h9 : SoundR id s x8 := by
        unfold x8
        refine SoundR.ite ?_ ?_
        · refine SoundR.app (sound_drainAll ..) ?_
          exact SoundR.self _
        · exact SoundR.self _
      clear_value x8
      refine SoundR.ite ?_ ?_
      · refine SoundR.mkBusy ?_
        exact h9
      · split
        · rename_i v10 v11 v12 v13
          have h14 : SoundR id s v12 := by
            refine SoundR.of2 v13 ?_
            refine SoundR.appG (sound_yAccess ..) ?_
            exact h9
          refine SoundR.mkDone ?_
          refine SoundR.app (sound_loadDone ..) ?_
          exact h14
        · rename_i v15 v16 v17 v18 v19
          have h20 : SoundR id s v18 := by
            refine SoundR.of2 v19 ?_
            refine SoundR.appG (sound_yAccess ..) ?_
            exact h9
          refine SoundR.mkDone ?_
          refine SoundR.app (sound_yFault ..) ?_
          exact h20
        · rename_i v21 v22 v23
          have h24 : SoundR id s v22 := by
            refine SoundR.of2 v23 ?_
            refine SoundR.appG (sound_yAccess ..) ?_
            exact h9
          refine SoundR.mkBusy ?_
          refine SoundR.app (sound_updYar ..) ?_
          exact h24

theorem sound_yStore (size len : Nat) (v addr : Word) (s : State) : SoundR YOut.state s (yStore size len v addr s) := by
  unfold yStore
  extract_lets +onlyGivenNames x1
  clear_value x1
  split
  · rename_i v2 v3 v4
    refine SoundR.mkDone ?_
    refine SoundR.app (sound_triggerAct ..) ?_
    exact SoundR.self _
  · rename_i v5 v6
    refine SoundR.ite ?_ ?_
    · refine SoundR.mkDone ?_
      refine SoundR.app (sound_yTrap ..) ?_
      exact SoundR.self _
    · extract_lets +onlyGivenNames x7
      have h8 : SoundR id s x7 := by
        unfold x7
        refine SoundR.ite ?_ ?_
        · refine SoundR.app (sound_drainAll ..) ?_
          exact SoundR.self _
        · refine SoundR.ite ?_ ?_
          · refine SoundR.app (sound_storeDrain ..) ?_
            exact SoundR.self _
          · exact SoundR.self _
      clear_value x7
      refine SoundR.ite ?_ ?_
      · refine SoundR.mkBusy ?_
        exact h8
      · extract_lets +onlyGivenNames x9
        clear_value x9
        extract_lets +onlyGivenNames x10
        have h11 : SoundR Prod.snd s x10 := by
          unfold x10
          refine SoundR.appG (sound_yAccess ..) ?_
          exact h8
        clear_value x10
        extract_lets +onlyGivenNames x12
        clear_value x12
        split
        · rename_i v13 v14
          refine SoundR.mkDone ?_
          refine SoundR.app (sound_yFault ..) ?_
          exact h11
        · rename_i v15
          extract_lets +onlyGivenNames x16
          clear_value x16
          extract_lets +onlyGivenNames x17
          clear_value x17
          extract_lets +onlyGivenNames x18
          have h19 : SoundR id s x18 := by
            unfold x18
            refine SoundR.app (sound_updYar ..) ?_
            exact h8
          clear_value x18
          refine SoundR.mkDone ?_
          refine SoundR.app (sound_retireTo ..) ?_
          exact h19

theorem sound_yIllegal (w : Word) (s : State) : SoundR YOut.state s (yIllegal w s) := by
  unfold yIllegal
  refine SoundR.mkDone ?_
  refine SoundR.app (sound_yTrap ..) ?_
  exact SoundR.self _

theorem sound_yFp (w : Word) (len : Nat) (op : FpOp) (rd a b rm : Nat) (s : State) : SoundR YOut.state s (yFp w len op rd a b rm s) := by
  unfold yFp
  refine SoundR.ite ?_ ?_
  · refine SoundR.appG (sound_yIllegal ..) ?_
    exact SoundR.self _
  · split
    · rename_i v1 v2
      refine SoundR.appG (sound_yIllegal ..) ?_
      exact SoundR.self _
    · rename_i v3 v4 v5
      extract_lets +onlyGivenNames x6
      clear_value x6
      extract_lets +onlyGivenNames x7
      have h8 : SoundR id s x7 := by
        unfold x7
        refine SoundR.app (sound_accrue ..) ?_
        exact SoundR.self _
      clear_value x7
      extract_lets +onlyGivenNames x9
      have h10 : SoundR id s x9 := by
        unfold x9
        refine SoundR.ite ?_ ?_
        · refine SoundR.app (sound_yPut ..) ?_
          exact h8
        · refine SoundR.app (sound_fPut ..) ?_
          exact h8
      clear_value x9
      refine SoundR.mkDone ?_
      refine SoundR.app (sound_retireTo ..) ?_
      exact h10

theorem sound_yFma (w : Word) (k rd a b c rm : Nat) (s : State) : SoundR YOut.state s (yFma w k rd a b c rm s) := by
  unfold yFma
  refine SoundR.ite ?_ ?_
  · refine SoundR.appG (sound_yIllegal ..) ?_
    exact SoundR.self _
  · split
    · rename_i v1 v2
      refine SoundR.appG (sound_yIllegal ..) ?_
      exact SoundR.self _
    · rename_i v3 v4 v5
      extract_lets +onlyGivenNames x6
      clear_value x6
      extract_lets +onlyGivenNames x7
      clear_value x7
      extract_lets +onlyGivenNames x8
      clear_value x8
      extract_lets +onlyGivenNames x9
      clear_value x9
      extract_lets +onlyGivenNames x10
      clear_value x10
      extract_lets +onlyGivenNames x11
      have h12 : SoundR id s x11 := by
        unfold x11
        refine SoundR.app (sound_fPut ..) ?_
        refine SoundR.app (sound_accrue ..) ?_
        exact SoundR.self _
      clear_value x11
      refine SoundR.mkDone ?_
      refine SoundR.app (sound_retireTo ..) ?_
      exact h12

theorem sound_yCsr (w : Word) (op rd : Nat) (src : Src) (n : Nat) (s : State) : SoundR YOut.state s (yCsr w op rd src n s) := by
  unfold yCsr
  extract_lets +onlyGivenNames x1
  clear_value x1
  split
  · rename_i v2 v3
    refine SoundR.appG (sound_yIllegal ..) ?_
    exact SoundR.self _
  · rename_i v4 v5 v6
    extract_lets +onlyGivenNames x7
    have h8 : SoundR id s x7 := by
      unfold x7
      refine SoundR.ite ?_ ?_
      · refine SoundR.app (sound_vetFinish ..) ?_
        exact SoundR.self _
      · exact SoundR.self _
    clear_value x7
    extract_lets +onlyGivenNames x9
    clear_value x9
    extract_lets +onlyGivenNames x10
    clear_value x10
    extract_lets +onlyGivenNames x11
    have h12 : SoundR id s x11 := by
      unfold x11
      refine SoundR.app (sound_retireTo ..) ?_
      exact h8
    clear_value x11
    extract_lets +onlyGivenNames x13
    have h14 : SoundR id s x13 := by
      unfold x13
      refine SoundR.ite ?_ ?_
      · refine SoundR.app (sound_csrWrite ..) ?_
        exact h12
      · exact h12
    clear_value x13
    refine SoundR.mkDone ?_
    refine SoundR.app (sound_yPut ..) ?_
    exact h14

theorem sound_blkAccesses (k : Nat) : ∀ (fuel : Nat) (u : BlkUnit) (s : State), SoundR Prod.snd s (blkAccesses k fuel u s)
  | 0, u, s => by
    unfold blkAccesses
    exact SoundR.mkSnd (SoundR.self s)
  | fuel + 1, u, s => by
    unfold blkAccesses
    split
    · rename_i a z rest _
      refine SoundR.ite (SoundR.mkSnd (SoundR.self s)) ?_
      have h : SoundR Prod.snd s (yAccess .yarrow 0 a z 0 s) := sound_yAccess ..
      generalize yAccess .yarrow 0 a z 0 s = r at h
      obtain ⟨y, t⟩ := r
      cases y with
      | ok d => exact SoundR.appG (sound_blkAccesses k fuel ..) h
      | fault c f => exact h
      | wait => exact SoundR.mkSnd (SoundR.app (sound_updYar ..) h)
    · rename_i a z rest _ _
      extract_lets +onlyGivenNames j
      refine SoundR.ite (SoundR.mkSnd (SoundR.self s)) ?_
      have h : SoundR Prod.snd s (yAccess .yarrow 1 a z (ofLeBytes ((u.data.drop j).take z)) s) := sound_yAccess ..
      generalize yAccess .yarrow 1 a z (ofLeBytes ((u.data.drop j).take z)) s = r at h
      obtain ⟨y, t⟩ := r
      cases y with
      | ok d => exact SoundR.appG (sound_blkAccesses k fuel ..) h
      | fault c f => exact h
      | wait => exact SoundR.mkSnd (SoundR.app (sound_updYar ..) h)
    · exact SoundR.mkSnd (SoundR.self s)

theorem sound_blkEnd (k : Nat) (u : BlkUnit) (s : State) : Sound s (blkEnd k u s) := by
  unfold blkEnd
  refine SoundR.intro ?_
  extract_lets +onlyGivenNames x1
  clear_value x1
  extract_lets +onlyGivenNames x2
  clear_value x2
  extract_lets +onlyGivenNames x3
  have h4 : SoundR id s x3 := by
    unfold x3
    refine SoundR.ite ?_ ?_
    · refine SoundR.app (sound_yPut ..) ?_
      exact SoundR.self _
    · exact SoundR.self _
  clear_value x3
  extract_lets +onlyGivenNames x5
  have h6 : SoundR id s x5 := by
    unfold x5
    refine SoundR.ite ?_ ?_
    · exact h4
    · refine SoundR.app (sound_yPut ..) ?_
      exact h4
  clear_value x5
  extract_lets +onlyGivenNames x7
  have h8 : SoundR id s x7 := by
    unfold x7
    refine SoundR.app (sound_yPut ..) ?_
    exact h6
  clear_value x7
  refine SoundR.ite ?_ ?_
  · refine SoundR.app (sound_yPut ..) ?_
    exact h8
  · exact h8

theorem sound_blkRun (k : Nat) : ∀ (fuel : Nat) (limit : Option Nat) (s : State), SoundR YOut.state s (blkRun k fuel limit s)
  | 0, limit, s => by
    unfold blkRun
    exact SoundR.mkDone (SoundR.app (sound_retireTo ..) (SoundR.self s))
  | fuel + 1, limit, s => by
    unfold blkRun
    refine SoundR.ite (SoundR.mkDone (SoundR.app (sound_retireTo ..) (SoundR.self s))) ?_
    refine SoundR.ite (SoundR.mkBusy (SoundR.self s)) ?_
    extract_lets +onlyGivenNames u
    clear_value u
    have h : SoundR Prod.snd s (blkAccesses k 20 u s) := sound_blkAccesses ..
    generalize blkAccesses k 20 u s = r at h
    obtain ⟨y, t⟩ := r
    cases y with
    | ok u => exact SoundR.appG (sound_blkRun k fuel ..) (SoundR.app (sound_blkEnd ..) h)
    | error e =>
      cases e with
      | none => exact SoundR.mkBusy h
      | some x =>
        obtain ⟨c, a, yf⟩ := x
        exact SoundR.mkDone (SoundR.app (sound_yFault ..) h)

theorem sound_yBlock (k : Nat) (limit : Option Nat) (s : State) : SoundR YOut.state s (yBlock k limit s) := by
  unfold yBlock
  extract_lets +onlyGivenNames x1
  have h2 : SoundR id s x1 := by
    unfold x1
    refine SoundR.app (sound_drainAll ..) ?_
    exact SoundR.self _
  clear_value x1
  refine SoundR.ite ?_ ?_
  · refine SoundR.mkBusy ?_
    exact h2
  · refine SoundR.appG (sound_blkRun ..) ?_
    exact h2

theorem sound_blkAnswer (k : Nat) (u : BlkUnit) (res : Option DWord) (s : State) : SoundR Prod.snd s (blkAnswer k u res s) := by
  unfold blkAnswer
  split
  · exact sound_blkAccesses ..
  · exact sound_blkAccesses ..
  · exact SoundR.mkSnd (SoundR.self s)
  · exact SoundR.mkSnd (SoundR.self s)
  · exact SoundR.mkSnd (SoundR.self s)

theorem sound_afterWait (whole : Bool) (s : State) : Sound s (afterWait whole s) := by
  unfold afterWait
  refine SoundR.intro ?_
  refine SoundR.ite ?_ ?_
  · exact SoundR.self _
  · refine SoundR.ite ?_ ?_
    · refine SoundR.app (sound_debugEnter ..) ?_
      exact SoundR.self _
    · refine SoundR.ite ?_ ?_
      · refine SoundR.app (sound_debugEnter ..) ?_
        exact SoundR.self _
      · exact SoundR.self _

theorem sound_yarRemoteDone (res : Option DWord) (s : State) : Sound s (yarRemoteDone res s) := by
  unfold yarRemoteDone
  refine SoundR.intro ?_
  extract_lets +onlyGivenNames w t
  have h : SoundR id s t := by
    unfold t
    exact SoundR.app (sound_updYar ..) (SoundR.self s)
  clear_value t w
  split
  · exact h
  · refine SoundR.app (sound_afterWait ..) ?_
    split
    · exact SoundR.app (sound_loadDone ..) h
    · exact SoundR.app (sound_yFault ..) h
  · rename_i k u
    have k2 : SoundR Prod.snd t (blkAnswer k u res t) := sound_blkAnswer ..
    generalize blkAnswer k u res t = r at k2
    obtain ⟨x, v⟩ := r
    have hv : SoundR id s v := SoundR.app k2 h
    cases x with
    | ok u =>
      simp only
      have hb : SoundR id s (blkEnd k u v) := SoundR.app (sound_blkEnd ..) hv
      generalize blkEnd k u v = y at hb
      refine SoundR.ite (SoundR.app (sound_afterWait ..) (SoundR.app (sound_retireTo ..) hb)) ?_
      refine SoundR.ite ?_ (SoundR.app (sound_afterWait ..) hb)
      have hr : SoundR YOut.state y (blkRun k ((yReg 12 y).toNat + 1) none y) := sound_blkRun ..
      exact SoundR.app hr hb
    | error e =>
      cases e with
      | none => exact hv
      | some z =>
        obtain ⟨c, a, yf⟩ := z
        exact SoundR.app (sound_afterWait ..) (SoundR.app (sound_yFault ..) hv)

theorem sound_yExec (w : Word) (len : Nat) (i : YInstr) (limit : Option Nat) (s : State) : SoundR YOut.state s (yExec w len i limit s) := by
  unfold yExec
  extract_lets +onlyGivenNames x1
  clear_value x1
  extract_lets +onlyGivenNames x2
  clear_value x2
  extract_lets +onlyGivenNames x3
  extract_lets +onlyGivenNames x4
  split
  · rename_i v5 v6 v7 v8 v9
    unfold x3
    refine SoundR.mkDone ?_
    refine SoundR.app (sound_retireTo ..) ?_
    refine SoundR.app (sound_yPut ..) ?_
    exact SoundR.self _
  · rename_i v10 v11 v12
    unfold x3
    refine SoundR.mkDone ?_
    refine SoundR.app (sound_retireTo ..) ?_
    refine SoundR.app (sound_yPut ..) ?_
    exact SoundR.self _
  · rename_i v13 v14 v15 v16 v17
    unfold x3
    refine SoundR.mkDone ?_
    refine SoundR.app (sound_retireTo ..) ?_
    refine SoundR.app (sound_yPut ..) ?_
    exact SoundR.self _
  · rename_i v18 v19 v20 v21 v22
    unfold x3
    refine SoundR.mkDone ?_
    refine SoundR.app (sound_retireTo ..) ?_
    refine SoundR.app (sound_yPut ..) ?_
    exact SoundR.self _
  · rename_i v23 v24 v25 v26 v27
    extract_lets +onlyGivenNames x28
    clear_value x28
    unfold x4
    refine SoundR.mkDone ?_
    refine SoundR.app (sound_retireTo ..) ?_
    refine SoundR.app (sound_predictLearn ..) ?_
    exact SoundR.self _
  · rename_i v29 v30 v31
    unfold x4
    refine SoundR.mkDone ?_
    refine SoundR.app (sound_retireTo ..) ?_
    refine SoundR.app (sound_predictLearn ..) ?_
    refine SoundR.app (sound_yPut ..) ?_
    exact SoundR.self _
  · rename_i v32 v33 v34 v35
    unfold x4
    refine SoundR.mkDone ?_
    refine SoundR.app (sound_retireTo ..) ?_
    refine SoundR.app (sound_predictLearn ..) ?_
    refine SoundR.app (sound_yPut ..) ?_
    exact SoundR.self _
  · rename_i v36 v37 v38 v39 v40
    refine SoundR.appG (sound_yLoad ..) ?_
    exact SoundR.self _
  · rename_i v41 v42 v43 v44 v45
    refine SoundR.appG (sound_yStore ..) ?_
    exact SoundR.self _
  · rename_i v46 v47 v48 v49
    refine SoundR.ite ?_ ?_
    · refine SoundR.appG (sound_yIllegal ..) ?_
      exact SoundR.self _
    · refine SoundR.appG (sound_yLoad ..) ?_
      exact SoundR.self _
  · rename_i v50 v51 v52 v53
    refine SoundR.ite ?_ ?_
    · refine SoundR.appG (sound_yIllegal ..) ?_
      exact SoundR.self _
    · refine SoundR.appG (sound_yStore ..) ?_
      exact SoundR.self _
  · rename_i v54
    extract_lets +onlyGivenNames x55
    have h56 : SoundR id s x55 := by
      unfold x55
      refine SoundR.app (sound_drainAll ..) ?_
      exact SoundR.self _
    clear_value x55
    refine SoundR.ite ?_ ?_
    · unfold x3
      refine SoundR.mkDone ?_
      refine SoundR.app (sound_retireTo ..) ?_
      exact h56
    · refine SoundR.mkBusy ?_
      refine SoundR.app (sound_updYar ..) ?_
      exact h56
  · rename_i v57
    extract_lets +onlyGivenNames x58
    have h59 : SoundR id s x58 := by
      unfold x58
      refine SoundR.app (sound_drainAll ..) ?_
      exact SoundR.self _
    clear_value x58
    refine SoundR.ite ?_ ?_
    · unfold x3
      refine SoundR.mkDone ?_
      refine SoundR.app (sound_retireTo ..) ?_
      refine SoundR.app (sound_predFlush ..) ?_
      exact h59
    · refine SoundR.mkBusy ?_
      exact h59
  · rename_i v60
    refine SoundR.mkDone ?_
    refine SoundR.app (sound_yTrap ..) ?_
    exact SoundR.self _
  · rename_i v61
    refine SoundR.ite ?_ ?_
    · refine SoundR.mkDone ?_
      refine SoundR.app (sound_debugEnter ..) ?_
      exact SoundR.self _
    · refine SoundR.mkDone ?_
      refine SoundR.app (sound_yTrap ..) ?_
      exact SoundR.self _
  · rename_i v62
    refine SoundR.ite ?_ ?_
    · refine SoundR.appG (sound_yIllegal ..) ?_
      exact SoundR.self _
    · extract_lets +onlyGivenNames x63
      have h64 : SoundR id s x63 := by
        unfold x63
        refine SoundR.app (sound_retireTo ..) ?_
        exact SoundR.self _
      clear_value x63
      refine SoundR.mkDone ?_
      refine SoundR.ite ?_ ?_
      · refine SoundR.app (sound_updYar ..) ?_
        exact h64
      · exact h64
  · rename_i v65
    refine SoundR.ite ?_ ?_
    · refine SoundR.appG (sound_yIllegal ..) ?_
      exact SoundR.self _
    · extract_lets +onlyGivenNames x66
      have h67 : SoundR id s x66 := by
        unfold x66
        refine SoundR.app (sound_updYar ..) ?_
        exact SoundR.self _
      clear_value x66
      refine SoundR.mkDone ?_
      refine SoundR.app (sound_retireTo ..) ?_
      exact h67
  · rename_i v68 v69 v70 v71 v72
    refine SoundR.appG (sound_yCsr ..) ?_
    exact SoundR.self _
  · rename_i v73 v74 v75 v76 v77 v78
    refine SoundR.appG (sound_yFp ..) ?_
    exact SoundR.self _
  · rename_i v79 v80 v81 v82 v83 v84 v85
    refine SoundR.appG (sound_yFma ..) ?_
    exact SoundR.self _
  · rename_i v86 v87
    refine SoundR.appG (sound_yBlock ..) ?_
    exact SoundR.self _
  · rename_i v88 v89
    refine SoundR.appG (sound_vExec ..) ?_
    exact SoundR.self _
  · rename_i v90
    refine SoundR.appG (sound_yIllegal ..) ?_
    exact SoundR.self _

theorem sound_yStep (mine : YInstr → Bool) (limit : Option Nat) (s0 : State) : Sound s0 (yStep mine limit s0) := by
  unfold yStep
  refine SoundR.intro ?_
  extract_lets +onlyGivenNames x1
  clear_value x1
  extract_lets +onlyGivenNames x2
  have h3 : SoundR id s0 x2 := by
    unfold x2
    refine SoundR.ite ?_ ?_
    · refine SoundR.app (sound_updYar ..) ?_
      exact SoundR.self _
    · exact SoundR.self _
  clear_value x2
  refine SoundR.ite ?_ ?_
  · exact SoundR.self _
  · extract_lets +onlyGivenNames x4
    split
    · rename_i v5 v6 v7
      unfold x4
      refine SoundR.ite ?_ ?_
      · refine SoundR.app (sound_debugEnter ..) ?_
        refine SoundR.app (sound_triggerAct ..) ?_
        exact h3
      · refine SoundR.app (sound_triggerAct ..) ?_
        exact h3
    · rename_i v8 v9
      split
      · rename_i v10 v11 v12 v13 v14
        have h15 : SoundR id s0 v13 := by
          refine SoundR.of2 v14 ?_
          refine SoundR.appG (sound_yFetch ..) ?_
          exact h3
        unfold x4
        refine SoundR.ite ?_ ?_
        · refine SoundR.app (sound_debugEnter ..) ?_
          refine SoundR.app (sound_yFault ..) ?_
          exact h15
        · refine SoundR.app (sound_yFault ..) ?_
          exact h15
      · rename_i v16 v17 v18 v19 v20
        have h21 : SoundR id s0 v19 := by
          refine SoundR.of2 v20 ?_
          refine SoundR.appG (sound_yFetch ..) ?_
          exact h3
        extract_lets +onlyGivenNames x22
        clear_value x22
        refine SoundR.ite ?_ ?_
        · exact SoundR.self _
        · split
          · rename_i v23 v24 v25
            have h26 : SoundR id s0 v24 := by
              refine SoundR.ofDone v25 ?_
              refine SoundR.appG (sound_yExec ..) ?_
              exact h21
            unfold x4
            refine SoundR.ite ?_ ?_
            · refine SoundR.app (sound_debugEnter ..) ?_
              exact h26
            · exact h26
          · rename_i v27 v28 v29
            have h30 : SoundR id s0 v28 := by
              refine SoundR.ofBusy v29 ?_
              refine SoundR.appG (sound_yExec ..) ?_
              exact h21
            exact h30

theorem sound_vAhead (mine : YInstr → Bool) (s : State) : Sound s (vAhead mine s) := by
  unfold vAhead
  refine SoundR.intro ?_
  extract_lets +onlyGivenNames x1
  clear_value x1
  refine SoundR.ite ?_ ?_
  · exact SoundR.self _
  · split
    · rename_i v2 v3
      exact SoundR.self _
    · rename_i v4 v5 v6 v7 v8 v9
      extract_lets +onlyGivenNames x10
      clear_value x10
      extract_lets +onlyGivenNames x11
      clear_value x11
      refine SoundR.ite ?_ ?_
      · exact SoundR.self _
      · refine SoundR.app (sound_vBegin ..) ?_
        exact SoundR.self _

theorem sound_vRetire (s : State) : Sound s (vRetire s) := by
  unfold vRetire
  refine SoundR.intro ?_
  split
  · rename_i v1 v2 v3 v4
    refine SoundR.app (sound_yStep ..) ?_
    exact SoundR.self _
  · rename_i v5 v6
    exact SoundR.self _

theorem sound_debugHalt (s : State) : Sound s (debugHalt s) := by
  unfold debugHalt
  refine SoundR.intro ?_
  refine SoundR.ite ?_ ?_
  · exact SoundR.self _
  · refine SoundR.ite ?_ ?_
    · refine SoundR.app (sound_updDbg ..) ?_
      exact SoundR.self _
    · refine SoundR.ite ?_ ?_
      · exact SoundR.self _
      · refine SoundR.ite ?_ ?_
        · refine SoundR.app (sound_updDbg ..) ?_
          exact SoundR.self _
        · refine SoundR.app (sound_debugEnter ..) ?_
          exact SoundR.self _

theorem sound_debugResume (s : State) : Sound s (debugResume s) := by
  unfold debugResume
  refine SoundR.intro ?_
  refine SoundR.ite ?_ ?_
  · exact SoundR.self _
  · refine SoundR.app (sound_updYar ..) ?_
    exact SoundR.self _

theorem sound_progRun : ∀ (fuel : Nat) (hs : List Nat) (s : State), Sound s (progRun fuel hs s)
  | 0, hs, s => by
    unfold progRun
    exact Sound.refl s
  | fuel + 1, hs, s => by
    unfold progRun
    refine SoundR.intro ?_
    extract_lets +onlyGivenNames go
    have hg : ∀ w len rest, SoundR id s (go w len rest) := by
      intro w len rest
      unfold go
      extract_lets +onlyGivenNames i
      clear_value i
      refine SoundR.ite (SoundR.self s) ?_
      refine SoundR.ite (SoundR.app (sound_updDbg ..) (SoundR.self s)) ?_
      refine SoundR.ite (SoundR.app (sound_progRun fuel ..) (SoundR.self s)) ?_
      have h0 : SoundR id s (vetFinish s) := SoundR.app (sound_vetFinish ..) (SoundR.self s)
      have h : SoundR YOut.state s (yExec w len i none (vetFinish s)) := SoundR.appG (sound_yExec ..) h0
      generalize yExec w len i none (vetFinish s) = o at h
      cases o with
      | done t =>
        exact SoundR.ite (SoundR.app (sound_progRun fuel ..) (SoundR.app (sound_drainAll ..) h)) h
      | busy t => exact SoundR.app (sound_updDbg ..) h
    clear_value go
    split
    · exact SoundR.self s
    · refine SoundR.ite (hg ..) ?_
      split
      · exact SoundR.self s
      · exact hg ..

theorem sound_progResume (s : State) : Sound s (progResume s) := by
  unfold progResume
  refine SoundR.intro ?_
  refine SoundR.ite ?_ ?_
  · exact SoundR.self _
  · refine SoundR.app (sound_progRun ..) ?_
    refine SoundR.app (sound_updDbg ..) ?_
    exact SoundR.self _

theorem sound_abstractCommand (c : DbgCmd) (s : State) : Sound s (abstractCommand c s) := by
  unfold abstractCommand
  refine SoundR.intro ?_
  extract_lets +onlyGivenNames x1
  refine SoundR.ite ?_ ?_
  · exact SoundR.self _
  · refine SoundR.ite ?_ ?_
    · unfold x1
      refine SoundR.app (sound_updDbg ..) ?_
      exact SoundR.self _
    · refine SoundR.ite ?_ ?_
      · unfold x1
        refine SoundR.app (sound_updDbg ..) ?_
        exact SoundR.self _
      · extract_lets +onlyGivenNames x2
        have h3 : SoundR id s x2 := by
          unfold x2
          unfold x1
          refine SoundR.app (sound_updDbg ..) ?_
          exact SoundR.self _
        clear_value x2
        split
        · rename_i v4 v5
          extract_lets +onlyGivenNames x6
          clear_value x6
          refine SoundR.ite ?_ ?_
          · split
            · rename_i v7 v8 v9
              refine SoundR.app (sound_answer ..) ?_
              exact h3
            · rename_i v10 v11
              unfold x1
              refine SoundR.app (sound_updDbg ..) ?_
              exact h3
          · refine SoundR.ite ?_ ?_
            · refine SoundR.app (sound_answer ..) ?_
              exact h3
            · refine SoundR.ite ?_ ?_
              · refine SoundR.app (sound_answer ..) ?_
                exact h3
              · unfold x1
                refine SoundR.app (sound_updDbg ..) ?_
                exact h3
        · rename_i v12 v13 v14
          extract_lets +onlyGivenNames x15
          clear_value x15
          refine SoundR.ite ?_ ?_
          · refine SoundR.ite ?_ ?_
            · refine SoundR.app (sound_csrWrite ..) ?_
              exact h3
            · unfold x1
              refine SoundR.app (sound_updDbg ..) ?_
              exact h3
          · refine SoundR.ite ?_ ?_
            · refine SoundR.app (sound_yPut ..) ?_
              exact h3
            · refine SoundR.ite ?_ ?_
              · refine SoundR.app (sound_updYar ..) ?_
                exact h3
              · unfold x1
                refine SoundR.app (sound_updDbg ..) ?_
                exact h3
        · rename_i v16 v17 v18
          refine SoundR.app (sound_answer ..) ?_
          exact h3
        · rename_i v19 v20 v21
          extract_lets +onlyGivenNames x22
          have h23 : SoundR id s x22 := by
            unfold x22
            refine SoundR.app (sound_updDbg ..) ?_
            exact h3
          clear_value x22
          refine SoundR.app (sound_progRun ..) ?_
          exact h23

theorem sound_debugRefused (cause : Nat) (s : State) : Sound s (debugRefused cause s) := by
  unfold debugRefused
  refine SoundR.intro ?_
  refine SoundR.app (sound_updDbg ..) ?_
  refine SoundR.app (sound_answerRefused ..) ?_
  exact SoundR.self _

theorem sound_systemBus (write : Bool) (a : Word) (sz : Fin 3) (v : Word) (s : State) : Sound s (systemBus write a sz v s) := by
  unfold systemBus
  refine SoundR.intro ?_
  refine SoundR.ite ?_ ?_
  · exact SoundR.self _
  · extract_lets +onlyGivenNames x1
    clear_value x1
    split
    · rename_i v2 v3 v4 v5
      have h6 : SoundR id s v4 := by
        refine SoundR.of2 v5 ?_
        refine SoundR.appG (sound_fabric ..) ?_
        exact SoundR.self _
      refine SoundR.app (sound_answer ..) ?_
      exact h6
    · rename_i v7 v8 v9 v10
      have h11 : SoundR id s v9 := by
        refine SoundR.of2 v10 ?_
        refine SoundR.appG (sound_fabric ..) ?_
        exact SoundR.self _
      refine SoundR.app (sound_debugRefused ..) ?_
      exact h11
    · rename_i v12 v13 v14
      have h15 : SoundR id s v13 := by
        refine SoundR.of2 v14 ?_
        refine SoundR.appG (sound_fabric ..) ?_
        exact SoundR.self _
      exact h15

theorem sound_settleOne (d : ReqBy × Option DWord) (s : State) : Sound s (settleOne d s) := by
  unfold settleOne
  refine SoundR.intro ?_
  split
  · rename_i v1 v2
    refine SoundR.app (sound_progResume ..) ?_
    refine SoundR.app (sound_yarRemoteDone ..) ?_
    exact SoundR.self _
  · rename_i v3 v4
    refine SoundR.app (sound_progResume ..) ?_
    refine SoundR.app (sound_storeRemoteDone ..) ?_
    exact SoundR.self _
  · rename_i v5 v6 v7
    refine SoundR.app (sound_dmaRemoteDone ..) ?_
    exact SoundR.self _
  · rename_i v8 v9 v10
    refine SoundR.app (sound_dmaRemoteDone ..) ?_
    exact SoundR.self _
  · rename_i v11 v12
    split
    · rename_i v13 v14 v15
      refine SoundR.app (sound_answer ..) ?_
      exact SoundR.self _
    · rename_i v16 v17
      refine SoundR.app (sound_debugRefused ..) ?_
      exact SoundR.self _
  · rename_i v18 v19 v20 v21 v22 v23
    exact SoundR.self _

theorem sound_settleN : ∀ (n : Nat) (s : State), Sound s (settleN n s)
  | 0, s => by
    unfold settleN
    exact Sound.refl s
  | n + 1, s => by
    unfold settleN
    refine SoundR.intro ?_
    split
    · exact SoundR.self s
    · refine SoundR.app (sound_settleN n _) ?_
      refine SoundR.foldl _ (fun t d => SoundR.app (sound_settleOne d t) (SoundR.self t)) ?_
      exact SoundR.mk' rfl (SoundR.self s)

theorem sound_settle (s : State) : Sound s (settle s) := by
  unfold settle
  refine SoundR.intro ?_
  refine SoundR.app (sound_settleN ..) ?_
  exact SoundR.self _

end Sys2Proof.Machine
end

