-- ==== Sys2Proof/Laws/SoundTop.lean ====
section
/-!
SUPPORT. Every operation of the named files is sound (Laws/Sound.lean).
-/
set_option linter.unusedVariables false
namespace Sys2Proof.Machine
open Sys2Proof

theorem sound_updBoot (s : State) (f : Boot → Boot) : Sound s (State.updBoot s f) := by
  unfold State.updBoot
  refine SoundR.intro ?_
  refine SoundR.mk' rfl ?_
  exact SoundR.self _

theorem sound_discover (s : State) : Sound s (discover s) := by
  unfold discover
  refine SoundR.intro ?_
  extract_lets +onlyGivenNames x1
  clear_value x1
  extract_lets +onlyGivenNames x2
  clear_value x2
  refine SoundR.mk' rfl ?_
  exact SoundR.self _

theorem sound_streamMode (fast : Bool) (s : State) : Sound s (streamMode fast s) := by
  unfold streamMode
  refine SoundR.intro ?_
  extract_lets +onlyGivenNames x1
  clear_value x1
  extract_lets +onlyGivenNames x2
  clear_value x2
  extract_lets +onlyGivenNames x3
  clear_value x3
  refine SoundR.mk' rfl ?_
  exact SoundR.self _

theorem sound_loadSects (m : Img) (p upto : Nat) (zero : Bool) (s : State) : Sound s (loadSects m p upto zero s) := by
  unfold loadSects
  refine SoundR.intro ?_
  refine SoundR.foldl _ ?_ ?_
  · intro a1 a2
    split
    · rename_i v3 v4 v5 v6 v7
      refine SoundR.ite ?_ ?_
      · extract_lets +onlyGivenNames x8
        clear_value x8
        refine SoundR.mkMem rfl ?_ ?_
        · exact fun h => putBytes_wf h ..
        · exact SoundR.self _
      · exact SoundR.self _
    · rename_i v9 v10
      exact SoundR.self _
  · exact SoundR.self _

theorem sound_attempt (k : Nat) (late : Bool) (s : State) : Sound s ((attempt k late s).state s) := by
  have hs : ∀ c, Sound s ((Attempt.fail c s).state s) := fun c => Sound.refl s
  unfold attempt
  extract_lets +onlyGivenNames m
  clear_value m
  split
  · exact hs _
  · extract_lets +onlyGivenNames e
    clear_value e
    split
    · exact hs _
    · split
      · exact hs _
      · split
        · exact Sound.refl s
        · exact hs _
        · extract_lets +onlyGivenNames upto t
          have ht : SoundR id s t := by
            unfold t
            exact SoundR.app (sound_loadSects ..) (SoundR.ite (SoundR.self s) (SoundR.app (sound_streamMode ..) (SoundR.self s)))
          clear_value t upto
          split
          · exact SoundR.app (sound_loadSects ..) ht
          · split
            · exact SoundR.app (sound_loadSects ..) ht
            · exact ht

theorem sound_setErr (k code : Nat) (s : State) : Sound s (setErr k code s) := by
  unfold setErr
  refine SoundR.intro ?_
  refine SoundR.ite ?_ ?_
  · refine SoundR.app (sound_set ..) ?_
    exact SoundR.self _
  · refine SoundR.app (sound_set ..) ?_
    exact SoundR.self _

theorem sound_limp (s : State) : Sound s (limp s) := by
  unfold limp
  refine SoundR.intro ?_
  extract_lets +onlyGivenNames x1
  have h2 : SoundR id s x1 := by
    unfold x1
    refine SoundR.forEach _ ?_ ?_
    · intro a3 a4
      refine SoundR.app (sound_setWord ..) ?_
      exact SoundR.self _
    · exact SoundR.self _
  clear_value x1
  extract_lets +onlyGivenNames x5
  have h6 : SoundR id s x5 := by
    unfold x5
    refine SoundR.forEach _ ?_ ?_
    · intro a7 a8
      refine SoundR.app (sound_setWord ..) ?_
      refine SoundR.app (sound_setWord ..) ?_
      exact SoundR.self _
    · exact h2
  clear_value x5
  extract_lets +onlyGivenNames x9
  have h10 : SoundR id s x9 := by
    unfold x9
    refine SoundR.app (sound_updBoot ..) ?_
    exact h6
  clear_value x9
  refine SoundR.app (sound_relayAnswerHeld ..) ?_
  refine SoundR.app (sound_faultSummary ..) ?_
  refine SoundR.app (sound_idPage ..) ?_
  refine SoundR.app (sound_set ..) ?_
  exact h10

theorem sound_limpWith (a b : Nat) (s : State) : Sound s (limpWith a b s) := by
  unfold limpWith
  refine SoundR.intro ?_
  refine SoundR.app (sound_limp ..) ?_
  refine SoundR.app (sound_set ..) ?_
  refine SoundR.app (sound_set ..) ?_
  exact SoundR.self _

theorem SoundO.bindMatch {s : State} {o : Option State} {c : Option Section} {f : Section → State → Option State}
    (h : SoundO id s o) (hf : ∀ c t, SoundO id t (f c t)) : SoundO id s (applySect c f o) := by
  cases o with
  | none => exact SoundO.none
  | some t =>
    cases c with
    | none => exact h
    | some c => exact SoundO.app (hf c t) (h.out t rfl)

theorem sound_configureEnd (m : Img) (p : Nat) (s : State) : Sound s (configureEnd m p s) := by
  unfold configureEnd
  refine SoundR.intro ?_
  extract_lets +onlyGivenNames own
  clear_value own
  refine SoundR.app (sound_withHello ?_) ?_
  · intro t
    beta_reduce
    refine SoundR.app (sound_idPage ..) ?_
    refine SoundR.app (sound_quarUpdate ..) ?_
    refine SoundR.app (sound_set ..) ?_
    exact SoundR.self t
  · refine SoundR.app (sound_settleArea ..) ?_
    exact SoundR.self s

theorem sound_configure (m : Img) (p : Nat) (s : State) : SoundO id s (configure m p s) := by
  unfold configure
  extract_lets +onlyGivenNames c o1 o2 o3
  have h1 : SoundO id s o1 := by
    unfold o1
    exact SoundO.bindMatch (SoundO.some (SoundR.self s)) sound_applyCidcfg
  clear_value o1
  have h2 : SoundO id s o2 := by
    unfold o2
    refine SoundO.bindMatch ?_ sound_applyPincfg
    refine SoundO.bindMatch ?_ sound_applyMbxcfg
    exact SoundO.bindMatch h1 sound_applySemcfg
  clear_value o2
  have h3 : SoundO id s o3 := by
    unfold o3
    refine SoundO.bindMatch ?_ sound_applyPwmcfg
    refine SoundO.bindMatch ?_ sound_applyAdccfg
    exact SoundO.bindMatch h2 sound_applyChaincfg
  clear_value o3
  refine SoundO.map ?_ (sound_configureEnd m p)
  exact SoundO.bindMatch h3 sound_applyPolicy

theorem sound_wdAuto (s : State) : Sound s (wdAuto s) := by
  unfold wdAuto
  refine SoundR.intro ?_
  refine SoundR.ite ?_ ?_
  · extract_lets +onlyGivenNames x1
    have h2 : SoundR id s x1 := by
      unfold x1
      refine SoundR.app (sound_set ..) ?_
      refine SoundR.app (sound_set ..) ?_
      refine SoundR.app (sound_set ..) ?_
      exact SoundR.self _
    clear_value x1
    refine SoundR.app (sound_wdEnable ..) ?_
    refine SoundR.app (sound_set ..) ?_
    exact h2
  · exact SoundR.self _

theorem sound_yarStart (entry : Nat) (s : State) : Sound s (yarStart entry s) := by
  unfold yarStart
  refine SoundR.intro ?_
  extract_lets +onlyGivenNames x1
  clear_value x1
  extract_lets +onlyGivenNames x2
  have h3 : SoundR id s x2 := by
    unfold x2
    refine SoundR.mk' rfl ?_
    exact SoundR.self _
  clear_value x2
  refine SoundR.ite ?_ ?_
  · refine SoundR.app (sound_debugEnter ..) ?_
    exact h3
  · exact h3

theorem sound_release (k : Nat) (m : Img) (p : Nat) (s : State) : Sound s (release k m p s) := by
  unfold release
  refine SoundR.intro ?_
  extract_lets +onlyGivenNames x1
  extract_lets +onlyGivenNames x2
  have h3 : SoundR id s x2 := by
    unfold x2
    refine SoundR.app (sound_bandsCheck ..) ?_
    refine SoundR.mk' rfl ?_
    exact SoundR.self _
  clear_value x2
  extract_lets +onlyGivenNames x4
  have h5 : SoundR id s x4 := by
    unfold x4
    refine SoundR.app (sound_set ..) ?_
    refine SoundR.app (sound_setWord ..) ?_
    exact h3
  clear_value x4
  extract_lets +onlyGivenNames x6
  have h7 : SoundR id s x6 := by
    unfold x6
    refine SoundR.app (sound_set ..) ?_
    exact h5
  clear_value x6
  extract_lets +onlyGivenNames x8
  have h9 : SoundR id s x8 := by
    unfold x8
    refine SoundR.app (sound_setWord ..) ?_
    exact h7
  clear_value x8
  extract_lets +onlyGivenNames x10
  have h11 : SoundR id s x10 := by
    unfold x10
    refine SoundR.app (sound_set ..) ?_
    refine SoundR.app (sound_set ..) ?_
    exact h9
  clear_value x10
  extract_lets +onlyGivenNames x12
  have h13 : SoundR id s x12 := by
    unfold x12
    refine SoundR.app (sound_setB ..) ?_
    exact h11
  clear_value x12
  extract_lets +onlyGivenNames x14
  have h15 : SoundR id s x14 := by
    unfold x14
    refine SoundR.app (sound_updLcs (fun _ => rfl)) ?_
    exact h13
  clear_value x14
  extract_lets +onlyGivenNames x16
  have h17 : SoundR id s x16 := by
    unfold x16
    refine SoundR.app (sound_updRelay ..) ?_
    exact h15
  clear_value x16
  extract_lets +onlyGivenNames x18
  have h19 : SoundR id s x18 := by
    unfold x18
    refine SoundR.app (sound_faultScan ..) ?_
    unfold x1
    split
    · rename_i v20 v21
      split
      · rename_i v22 v23
        split
        · rename_i v24 v25
          exact h17
        · rename_i v26 v27 v28
          refine SoundR.app (sound_releasePins ..) ?_
          exact h17
      · rename_i v29 v30 v31
        refine SoundR.app (sound_releasePwm ..) ?_
        split
        · rename_i v32 v33
          exact h17
        · rename_i v34 v35 v36
          refine SoundR.app (sound_releasePins ..) ?_
          exact h17
    · rename_i v37 v38 v39
      refine SoundR.app (sound_releaseAdc ..) ?_
      split
      · rename_i v40 v41
        split
        · rename_i v42 v43
          exact h17
        · rename_i v44 v45 v46
          refine SoundR.app (sound_releasePins ..) ?_
          exact h17
      · rename_i v47 v48 v49
        refine SoundR.app (sound_releasePwm ..) ?_
        split
        · rename_i v50 v51
          exact h17
        · rename_i v52 v53 v54
          refine SoundR.app (sound_releasePins ..) ?_
          exact h17
  clear_value x18
  extract_lets +onlyGivenNames x55
  have h56 : SoundR id s x55 := by
    unfold x55
    refine SoundR.app (sound_windowPut ..) ?_
    exact h19
  clear_value x55
  extract_lets +onlyGivenNames x57
  have h58 : SoundR id s x57 := by
    unfold x57
    refine SoundR.forEach _ ?_ ?_
    · intro a59 a60
      refine SoundR.app (sound_coreStart ..) ?_
      refine SoundR.app (sound_updCamp ..) ?_
      exact SoundR.self _
    · exact h56
  clear_value x57
  extract_lets +onlyGivenNames x61
  have h62 : SoundR id s x61 := by
    unfold x61
    refine SoundR.app (sound_wdAuto ..) ?_
    refine SoundR.app (sound_yarStart ..) ?_
    exact h58
  clear_value x61
  extract_lets +onlyGivenNames x63
  clear_value x63
  extract_lets +onlyGivenNames x64
  have h65 : SoundR id s x64 := by
    unfold x64
    refine SoundR.app (sound_govRefresh ..) ?_
    refine SoundR.mk' rfl ?_
    exact h62
  clear_value x64
  extract_lets +onlyGivenNames x66
  have h67 : SoundR id s x66 := by
    unfold x66
    refine SoundR.app (sound_updBoot ..) ?_
    exact h65
  clear_value x66
  refine SoundR.app (sound_relayAnswerHeld ..) ?_
  refine SoundR.app (sound_faultEval ..) ?_
  refine SoundR.app (sound_idPage ..) ?_
  exact h67

theorem sound_complete (k p : Nat) (s : State) : Sound s (complete k p s) := by
  unfold complete
  refine SoundR.intro ?_
  extract_lets +onlyGivenNames x1
  clear_value x1
  extract_lets +onlyGivenNames x2
  have h3 : SoundR id s x2 := by
    unfold x2
    refine SoundR.app (sound_set ..) ?_
    exact SoundR.self _
  clear_value x2
  split
  · rename_i v4 v5
    refine SoundR.app (sound_limp ..) ?_
    refine SoundR.app (sound_setErr ..) ?_
    exact h3
  · rename_i v6 v7 v8
    have h9 : SoundR id s v7 := by
      refine SoundO.ofSome0 v8 ?_
      refine SoundO.app (sound_configure ..) ?_
      exact h3
    refine SoundR.app (sound_release ..) ?_
    refine SoundR.app (sound_setErr ..) ?_
    exact h9

theorem sound_trySlots : ∀ (l : List Nat) (late : Bool) (s : State), Sound s (trySlots l late s)
  | [], late, s => by
    unfold trySlots
    exact sound_limp ..
  | k :: rest, late, s => by
    unfold trySlots
    refine SoundR.intro ?_
    have h : Sound s ((attempt k late s).state s) := sound_attempt ..
    generalize attempt k late s = r at h
    cases r with
    | wait => exact SoundR.app (sound_updBoot ..) (SoundR.self s)
    | fail c t => exact SoundR.app (sound_trySlots rest ..) (SoundR.app (sound_setErr ..) h)
    | good p t => exact SoundR.app (sound_complete ..) h

theorem sound_bootGo (late : Bool) (s : State) : Sound s (bootGo late s) := by
  unfold bootGo
  refine SoundR.intro ?_
  split
  · rename_i v1 v2
    exact SoundR.self _
  · rename_i v3 v4 v5
    refine SoundR.app (sound_trySlots ..) ?_
    refine SoundR.app (sound_updBoot ..) ?_
    exact SoundR.self _

theorem sound_bootPoll (s : State) : Sound s (bootPoll s) := by
  unfold bootPoll
  refine SoundR.intro ?_
  extract_lets +onlyGivenNames x1
  have h2 : SoundR id s x1 := by
    unfold x1
    refine SoundR.ite ?_ ?_
    · refine SoundR.app (sound_bootGo ..) ?_
      exact SoundR.self _
    · exact SoundR.self _
  clear_value x1
  refine SoundR.ite ?_ ?_
  · refine SoundR.app (sound_relayRequest ..) ?_
    exact h2
  · exact h2

theorem sound_persTimeout (s : State) : Sound s (persTimeout s) := by
  unfold persTimeout
  refine SoundR.intro ?_
  refine SoundR.ite ?_ ?_
  · refine SoundR.app (sound_bootGo ..) ?_
    exact SoundR.self _
  · exact SoundR.self _

theorem sound_relaytoExpire (s : State) : Sound s (relaytoExpire s) := by
  unfold relaytoExpire
  refine SoundR.intro ?_
  refine SoundR.ite ?_ ?_
  · refine SoundR.app (sound_limpWith ..) ?_
    exact SoundR.self _
  · exact SoundR.self _

theorem sound_relayImage (img : List Byte) (s : State) : Sound s (relayImage img s) := by
  unfold relayImage
  refine SoundR.intro ?_
  refine SoundR.ite ?_ ?_
  · refine SoundR.app (sound_trySlots ..) ?_
    refine SoundR.app (sound_updBoot ..) ?_
    exact SoundR.self _
  · exact SoundR.self _

theorem sound_relayEnd (f : Frame) (s : State) : Sound s (relayEnd f s) := by
  unfold relayEnd
  refine SoundR.intro ?_
  split
  · rename_i v1 v2 v3 v4
    have h5 : SoundR id s v3 := by
      refine SoundR.of2 v4 ?_
      refine SoundR.appG (sound_onRelayend ..) ?_
      exact SoundR.self _
    refine SoundR.app (sound_relayImage ..) ?_
    exact h5
  · rename_i v6 v7 v8
    have h9 : SoundR id s v7 := by
      refine SoundR.of2 v8 ?_
      refine SoundR.appG (sound_onRelayend ..) ?_
      exact SoundR.self _
    exact h9

theorem blown_or (f : Fuses) (a : BitVec 4) (b : BitVec 16) (x : FuseBit) (h : f.blown x = true) :
    Fuses.blown { f with lcsAck := f.lcsAck ||| a, tack := f.tack ||| b } x = true := by
  cases x <;> simp only [Fuses.blown] at h ⊢ <;> try simp only [BitVec.getLsbD_or, h, Bool.true_or]

theorem sound_wipeAck (s : State) : Sound s (wipeAck s) where
  pending := rfl
  fuses b h := blown_or _ _ _ b h
  free := le_rfl
  canon h := h

theorem sound_bootWipe (ok : Bool) (s : State) : SoundR Prod.snd s (bootWipe ok s) := by
  unfold bootWipe
  extract_lets +onlyGivenNames x1
  clear_value x1
  extract_lets +onlyGivenNames x2
  clear_value x2
  refine SoundR.ite ?_ ?_
  · refine SoundR.mkSnd ?_
    exact SoundR.self _
  · extract_lets +onlyGivenNames x3
    have h4 : SoundR id s x3 := by
      unfold x3
      refine SoundR.app (sound_wipeFinish ..) ?_
      exact SoundR.self _
    clear_value x3
    refine SoundR.ite ?_ ?_
    · refine SoundR.mkSnd ?_
      refine SoundR.app (sound_fuseRegs ..) ?_
      refine SoundR.app (sound_wipeAck ..) ?_
      exact h4
    · refine SoundR.mkSnd ?_
      exact h4

theorem sound_startupBank (stop : MarchStop) (cold : Bool) (s : State) (r : Nat × Nat) : Sound s (startupBank stop cold s r) := by
  unfold startupBank
  refine SoundR.intro ?_
  refine SoundR.ite ?_ ?_
  · refine SoundR.mkMem rfl ?_ ?_
    · exact fun h => clearBank_wf h ..
    · exact SoundR.self _
  · refine SoundR.ite ?_ ?_
    · refine SoundR.mkMem rfl ?_ ?_
      · exact fun h => loseBank_wf h ..
      · exact SoundR.self _
    · exact SoundR.self _

theorem sound_startupEnd (stop : MarchStop) (s : State) : SoundR Prod.snd s (startupEnd stop s) := by
  unfold startupEnd
  extract_lets +onlyGivenNames x1
  clear_value x1
  extract_lets +onlyGivenNames x2
  have h3 : SoundR id s x2 := by
    unfold x2
    refine SoundR.mk' rfl ?_
    exact SoundR.self _
  clear_value x2
  split
  · rename_i v4 v5 v6 v7
    refine SoundR.mkSnd ?_
    refine SoundR.app (sound_marchFailed ..) ?_
    refine SoundR.app (sound_set ..) ?_
    exact h3
  · rename_i v8
    refine SoundR.mkSnd ?_
    refine SoundR.app (sound_raise ..) ?_
    refine SoundR.app (sound_set ..) ?_
    exact h3

theorem sound_startupMarch (given : Option (Nat × Nat × Nat × Nat × BitVec 39)) (s : State) : SoundR Prod.snd s (startupMarch given s) := by
  unfold startupMarch
  extract_lets +onlyGivenNames x1
  clear_value x1
  extract_lets +onlyGivenNames x2
  clear_value x2
  extract_lets +onlyGivenNames x3
  have h4 : SoundR id s x3 := by
    unfold x3
    refine SoundR.app (sound_marchClear ..) ?_
    exact SoundR.self _
  clear_value x3
  extract_lets +onlyGivenNames x5
  have h6 : SoundR Prod.snd s x5 := by
    unfold x5
    refine SoundR.ite ?_ ?_
    · unfold startupTransparent
      extract_lets +onlyGivenNames x7
      clear_value x7
      refine SoundR.forEachSnd _ ?_ ?_
      · intro a8 a9 a10
        refine SoundR.ite ?_ ?_
        · refine SoundR.mkSnd ?_
          exact SoundR.self _
        · extract_lets +onlyGivenNames x11
          have h12 : SoundR Prod.snd a10 x11 := by
            unfold x11
            refine SoundR.appG (sound_marchSegmentRun ..) ?_
            refine SoundR.ofSnd ?_
            refine SoundR.mkSnd ?_
            exact SoundR.self _
          clear_value x11
          split
          · rename_i v13 v14 v15
            refine SoundR.mkSnd ?_
            exact h12
          · rename_i v16 v17
            refine SoundR.mkSnd ?_
            exact h12
      · extract_lets +onlyGivenNames x18
        clear_value x18
        refine SoundR.forEachSnd _ ?_ ?_
        · intro a19 a20 a21
          refine SoundR.ite ?_ ?_
          · refine SoundR.mkSnd ?_
            exact SoundR.self _
          · extract_lets +onlyGivenNames x22
            have h23 : SoundR Prod.snd a21 x22 := by
              unfold x22
              refine SoundR.appG (sound_marchSegmentRun ..) ?_
              refine SoundR.ofSnd ?_
              refine SoundR.mkSnd ?_
              exact SoundR.self _
            clear_value x22
            split
            · rename_i v24 v25 v26
              refine SoundR.mkSnd ?_
              exact h23
            · rename_i v27 v28
              refine SoundR.mkSnd ?_
              exact h23
        · refine SoundR.mkSnd ?_
          exact h4
    · refine SoundR.mkSnd ?_
      exact h4
  clear_value x5
  extract_lets +onlyGivenNames x29
  clear_value x29
  refine SoundR.appG (sound_startupEnd ..) ?_
  refine SoundR.foldl _ ?_ ?_
  · intro a30 a31
    refine SoundR.app (sound_startupBank ..) ?_
    exact SoundR.self _
  · exact h6

theorem sound_bootStart (b : BootIn) (s : State) : Sound s (bootStart b s) := by
  unfold bootStart
  refine SoundR.intro ?_
  extract_lets +onlyGivenNames x1
  have h2 : SoundR id s x1 := by
    unfold x1
    refine SoundR.app (sound_updBoot ..) ?_
    refine SoundR.app (sound_set ..) ?_
    exact SoundR.self _
  clear_value x1
  extract_lets +onlyGivenNames x3
  have h4 : SoundR id s x3 := by
    unfold x3
    refine SoundR.app (sound_setWord ..) ?_
    exact h2
  clear_value x3
  extract_lets +onlyGivenNames x5
  have h6 : SoundR id s x5 := by
    unfold x5
    refine SoundR.app (sound_withHello ?_) ?_
    · intro a7
      refine SoundR.app (sound_setB ..) ?_
      exact SoundR.self _
    · exact h4
  clear_value x5
  extract_lets +onlyGivenNames x8
  have h9 : SoundR id s x8 := by
    unfold x8
    refine SoundR.app (sound_updLcs (fun _ => rfl)) ?_
    exact h6
  clear_value x8
  refine SoundR.app (sound_fuseRegs ..) ?_
  refine SoundR.app (sound_set ..) ?_
  exact h9

theorem sound_notTried (s : State) : Sound s (notTried s) := by
  unfold notTried
  refine SoundR.intro ?_
  refine SoundR.app (sound_set ..) ?_
  refine SoundR.app (sound_set ..) ?_
  exact SoundR.self _

theorem sound_bootSource (tryb : Bool) (s : State) : Sound s (bootSource tryb s) := by
  unfold bootSource
  refine SoundR.intro ?_
  refine SoundR.ite ?_ ?_
  · refine SoundR.app (sound_trySlots ..) ?_
    refine SoundR.app (sound_discover ..) ?_
    refine SoundR.app (sound_idPage ..) ?_
    refine SoundR.app (sound_set ..) ?_
    refine SoundR.app (sound_notTried ..) ?_
    exact SoundR.self _
  · refine SoundR.app (sound_relayRequest ..) ?_
    refine SoundR.app (sound_idPage ..) ?_
    refine SoundR.app (sound_set ..) ?_
    refine SoundR.app (sound_notTried ..) ?_
    exact SoundR.self _

theorem sound_bootSequence (b : BootIn) (s : State) : Sound s (bootSequence b s) := by
  unfold bootSequence
  refine SoundR.intro ?_
  refine SoundR.ite ?_ ?_
  · exact SoundR.self _
  · extract_lets +onlyGivenNames x1
    have h2 : SoundR id s x1 := by
      unfold x1
      refine SoundR.app (sound_bootStart ..) ?_
      exact SoundR.self _
    clear_value x1
    extract_lets +onlyGivenNames x3
    have h4 : SoundR Prod.snd s x3 := by
      unfold x3
      refine SoundR.ite ?_ ?_
      · refine SoundR.appG (sound_bootWipe ..) ?_
        exact h2
      · refine SoundR.mkSnd ?_
        exact h2
    clear_value x3
    extract_lets +onlyGivenNames x5
    have h6 : SoundR Prod.snd s x5 := by
      unfold x5
      refine SoundR.appG (sound_startupMarch ..) ?_
      exact h4
    clear_value x5
    extract_lets +onlyGivenNames x7
    have h8 : SoundR id s x7 := by
      unfold x7
      refine SoundR.forEach _ ?_ ?_
      · intro a9 a10
        refine SoundR.app (sound_gainLock ..) ?_
        exact SoundR.self _
      · exact h6
    clear_value x7
    extract_lets +onlyGivenNames x11
    clear_value x11
    refine SoundR.ite ?_ ?_
    · refine SoundR.app (sound_limpWith ..) ?_
      exact h8
    · refine SoundR.ite ?_ ?_
      · refine SoundR.app (sound_limpWith ..) ?_
        exact h8
      · refine SoundR.app (sound_bootSource ..) ?_
        exact h8

theorem sound_ledgerScan (s : State) : Sound s (ledgerScan s) := by
  unfold ledgerScan
  refine SoundR.intro ?_
  extract_lets +onlyGivenNames x1
  clear_value x1
  extract_lets +onlyGivenNames x2
  clear_value x2
  extract_lets +onlyGivenNames x3
  clear_value x3
  refine SoundR.mk' rfl ?_
  exact SoundR.self _

theorem sound_ledgerFail (which index : Nat) (s : State) : Sound s (ledgerFail which index s) := by
  unfold ledgerFail
  refine SoundR.intro ?_
  split
  · rename_i v1 v2
    exact SoundR.self _
  · rename_i v3 v4 v5
    refine SoundR.ite ?_ ?_
    · exact SoundR.self _
    · extract_lets +onlyGivenNames x6
      clear_value x6
      extract_lets +onlyGivenNames x7
      have h8 : SoundR id s x7 := by
        unfold x7
        refine SoundR.mk' rfl ?_
        exact SoundR.self _
      extract_lets +onlyGivenNames x9
      have h10 : SoundR id s x9 := by
        unfold x9
        refine SoundR.ite ?_ ?_
        · refine SoundR.app (sound_set ..) ?_
          exact h8
        · exact h8
      clear_value x9
      refine SoundR.app (sound_faultEval ..) ?_
      refine SoundR.app (sound_raise ..) ?_
      refine SoundR.app (sound_setBit ..) ?_
      exact h10

theorem sound_putTick (t : Nat) (k : Int) (s : State) : Sound s (putTick t k s) := by
  unfold putTick
  refine SoundR.intro ?_
  refine SoundR.app (sound_setInt ..) ?_
  exact SoundR.self _

theorem sound_setPin (n : Nat) (x : TslPin) (s : State) : Sound s (setPin n x s) := by
  unfold setPin
  refine SoundR.intro ?_
  refine SoundR.mk' rfl ?_
  exact SoundR.self _

theorem sound_tslZn (t : Nat) (w : Word) (s : State) : Sound s (tslZn t w s) := by
  unfold tslZn
  refine SoundR.intro ?_
  extract_lets +onlyGivenNames x1
  clear_value x1
  refine SoundR.app (sound_set ..) ?_
  exact SoundR.self _

theorem sound_tslSetC (t : Nat) (b : Bool) (s : State) : Sound s (tslSetC t b s) := by
  unfold tslSetC
  refine SoundR.intro ?_
  refine SoundR.app (sound_setBit ..) ?_
  exact SoundR.self _

theorem SoundR.tslNext {s t : State} (h : SoundR id s t) : SoundR TslOut.state s (.next t) := h
theorem SoundR.tslGoto {s t : State} {n : Nat} (h : SoundR id s t) : SoundR TslOut.state s (.goto n t) := h
theorem SoundR.tslWait {s t : State} (h : SoundR id s t) : SoundR TslOut.state s (.wait t) := h
theorem SoundR.tslStop' {s t : State} {n : Nat} (h : SoundR id s t) : SoundR TslOut.state s (.stop n t) := h
theorem SoundR.ofTslNext {s t : State} {o : TslOut} (e : o = .next t) (h : SoundR TslOut.state s o) : SoundR id s t := by
  subst e; exact h
theorem SoundR.ofTslGoto {s t : State} {o : TslOut} {n : Nat} (e : o = .goto n t) (h : SoundR TslOut.state s o) : SoundR id s t := by
  subst e; exact h
theorem SoundR.ofTslWait {s t : State} {o : TslOut} (e : o = .wait t) (h : SoundR TslOut.state s o) : SoundR id s t := by
  subst e; exact h
theorem SoundR.ofTslStop {s t : State} {o : TslOut} {n : Nat} (e : o = .stop n t) (h : SoundR TslOut.state s o) : SoundR id s t := by
  subst e; exact h

theorem sound_tslPost (t n : Nat) (d : PinDrive) (k : Int) (s : State) : SoundR TslOut.state s (tslPost t n d k s) := by
  unfold tslPost
  extract_lets +onlyGivenNames x post
  have hp : ∀ k u, SoundR id u (post k u) := by
    intro k u
    unfold post
    exact SoundR.app (sound_setPin ..) (SoundR.self u)
  clear_value post
  refine SoundR.ite (SoundR.ite (SoundR.tslStop' (SoundR.self s)) (SoundR.tslNext (SoundR.app (hp ..) ?_))) (SoundR.tslNext (hp ..))
  exact SoundR.app (sound_count ..) (SoundR.app (sound_set ..) (SoundR.self s))

theorem sound_tslDrive (t : Nat) (w : Word) (s : State) : SoundR TslOut.state s (tslDrive t w s) := by
  unfold tslDrive
  split
  · rename_i v1 v2
    refine SoundR.tslStop' ?_
    exact SoundR.self _
  · rename_i v3 v4 v5
    refine SoundR.ite ?_ ?_
    · refine SoundR.tslStop' ?_
      exact SoundR.self _
    · refine SoundR.ite ?_ ?_
      · refine SoundR.tslWait ?_
        exact SoundR.self _
      · extract_lets +onlyGivenNames x6
        clear_value x6
        extract_lets +onlyGivenNames x7
        clear_value x7
        extract_lets +onlyGivenNames x8
        clear_value x8
        refine SoundR.appG (sound_tslPost ..) ?_
        refine SoundR.app (sound_putTick ..) ?_
        exact SoundR.self _

theorem sound_tslSample (t : Nat) (w : Word) (s : State) : SoundR TslOut.state s (tslSample t w s) := by
  unfold tslSample
  split
  · rename_i v1 v2
    refine SoundR.tslStop' ?_
    exact SoundR.self _
  · rename_i v3 v4 v5
    refine SoundR.ite ?_ ?_
    · refine SoundR.tslStop' ?_
      exact SoundR.self _
    · extract_lets +onlyGivenNames x6
      clear_value x6
      refine SoundR.ite ?_ ?_
      · refine SoundR.tslWait ?_
        exact SoundR.self _
      · extract_lets +onlyGivenNames x7
        clear_value x7
        extract_lets +onlyGivenNames x8
        clear_value x8
        extract_lets +onlyGivenNames x9
        clear_value x9
        extract_lets +onlyGivenNames x10
        clear_value x10
        refine SoundR.tslNext ?_
        refine SoundR.app (sound_tslSetC ..) ?_
        refine SoundR.app (sound_set ..) ?_
        refine SoundR.app (sound_putTick ..) ?_
        exact SoundR.self _

theorem sound_tslShift (t : Nat) (w : Word) (s : State) : SoundR TslOut.state s (tslShift t w s) := by
  unfold tslShift
  refine SoundR.ite ?_ ?_
  · refine SoundR.tslStop' ?_
    exact SoundR.self _
  · extract_lets +onlyGivenNames x1
    clear_value x1
    extract_lets +onlyGivenNames x2
    clear_value x2
    extract_lets +onlyGivenNames x3
    clear_value x3
    extract_lets +onlyGivenNames x4
    clear_value x4
    refine SoundR.tslNext ?_
    refine SoundR.app (sound_tslZn ..) ?_
    refine SoundR.app (sound_set ..) ?_
    exact SoundR.self _

theorem sound_tslStall (t : Nat) (s : State) : SoundR TslOut.state s (tslStall t s) := by
  unfold tslStall
  refine SoundR.tslWait ?_
  refine SoundR.app (sound_set ..) ?_
  refine SoundR.app (sound_set ..) ?_
  exact SoundR.self _

theorem sound_tslResume (t : Nat) (s : State) : Sound s (tslResume t s) := by
  unfold tslResume
  refine SoundR.intro ?_
  refine SoundR.ite ?_ ?_
  · extract_lets +onlyGivenNames x1
    have h2 : SoundR id s x1 := by
      unfold x1
      refine SoundR.app (sound_set ..) ?_
      exact SoundR.self _
    clear_value x1
    refine SoundR.ite ?_ ?_
    · refine SoundR.app (sound_putTick ..) ?_
      exact h2
    · exact h2
  · exact SoundR.self _

theorem sound_tslFetch (t : Nat) (w : Word) (s : State) : SoundR TslOut.state s (tslFetch t w s) := by
  unfold tslFetch
  extract_lets +onlyGivenNames x1
  clear_value x1
  refine SoundR.ite ?_ ?_
  · refine SoundR.tslStop' ?_
    exact SoundR.self _
  · extract_lets +onlyGivenNames x2
    clear_value x2
    split
    · rename_i v3 v4
      refine SoundR.appG (sound_tslStall ..) ?_
      exact SoundR.self _
    · rename_i v5 v6 v7 v8
      extract_lets +onlyGivenNames x9
      have h10 : SoundR id s x9 := by
        unfold x9
        refine SoundR.app (sound_tslResume ..) ?_
        exact SoundR.self _
      clear_value x9
      extract_lets +onlyGivenNames x11
      clear_value x11
      refine SoundR.tslNext ?_
      refine SoundR.app (sound_fifoKick ..) ?_
      refine SoundR.app (sound_setTs ..) ?_
      refine SoundR.app (sound_set ..) ?_
      exact h10

theorem sound_tslDeposit (t : Nat) (w : Word) (s : State) : SoundR TslOut.state s (tslDeposit t w s) := by
  unfold tslDeposit
  refine SoundR.ite ?_ ?_
  · refine SoundR.tslStop' ?_
    exact SoundR.self _
  · extract_lets +onlyGivenNames x1
    clear_value x1
    refine SoundR.ite ?_ ?_
    · refine SoundR.appG (sound_tslStall ..) ?_
      exact SoundR.self _
    · extract_lets +onlyGivenNames x2
      have h3 : SoundR id s x2 := by
        unfold x2
        refine SoundR.app (sound_tslResume ..) ?_
        exact SoundR.self _
      clear_value x2
      extract_lets +onlyGivenNames x4
      clear_value x4
      refine SoundR.tslNext ?_
      refine SoundR.app (sound_fifoKick ..) ?_
      refine SoundR.app (sound_setTs ..) ?_
      exact h3

theorem sound_tslAwait (t : Nat) (w : Word) (s : State) : SoundR TslOut.state s (tslAwait t w s) := by
  unfold tslAwait
  extract_lets +onlyGivenNames x1
  clear_value x1
  extract_lets +onlyGivenNames x2
  clear_value x2
  extract_lets +onlyGivenNames x3
  clear_value x3
  extract_lets +onlyGivenNames x4
  clear_value x4
  extract_lets +onlyGivenNames x5
  clear_value x5
  extract_lets +onlyGivenNames x6
  clear_value x6
  refine SoundR.ite ?_ ?_
  · refine SoundR.tslStop' ?_
    exact SoundR.self _
  · refine SoundR.ite ?_ ?_
    · refine SoundR.ite ?_ ?_
      · refine SoundR.tslNext ?_
        refine SoundR.app (sound_putTick ..) ?_
        exact SoundR.self _
      · refine SoundR.tslWait ?_
        exact SoundR.self _
    · refine SoundR.ite ?_ ?_
      · extract_lets +onlyGivenNames x7
        clear_value x7
        split
        · rename_i v8 v9 v10
          refine SoundR.tslNext ?_
          refine SoundR.app (sound_tslSetC ..) ?_
          refine SoundR.app (sound_putTick ..) ?_
          refine SoundR.app (sound_setRoutePend ..) ?_
          exact SoundR.self _
        · rename_i v11 v12
          refine SoundR.ite ?_ ?_
          · refine SoundR.tslNext ?_
            refine SoundR.app (sound_tslSetC ..) ?_
            refine SoundR.app (sound_putTick ..) ?_
            exact SoundR.self _
          · refine SoundR.tslWait ?_
            exact SoundR.self _
      · split
        · rename_i v13 v14
          refine SoundR.tslStop' ?_
          exact SoundR.self _
        · rename_i v15 v16 v17
          extract_lets +onlyGivenNames x18
          clear_value x18
          extract_lets +onlyGivenNames x19
          have h20 : SoundR id s x19 := by
            unfold x19
            refine SoundR.ite ?_ ?_
            · refine SoundR.app (sound_set ..) ?_
              exact SoundR.self _
            · exact SoundR.self _
          clear_value x19
          split
          · rename_i v21 v22 v23
            refine SoundR.ite ?_ ?_
            · refine SoundR.tslNext ?_
              refine SoundR.app (sound_tslSetC ..) ?_
              refine SoundR.app (sound_putTick ..) ?_
              exact h20
            · refine SoundR.tslNext ?_
              refine SoundR.app (sound_tslSetC ..) ?_
              refine SoundR.app (sound_putTick ..) ?_
              exact h20
          · rename_i v24 v25
            refine SoundR.ite ?_ ?_
            · refine SoundR.tslNext ?_
              refine SoundR.app (sound_tslSetC ..) ?_
              refine SoundR.app (sound_putTick ..) ?_
              exact h20
            · refine SoundR.tslWait ?_
              exact h20

theorem sound_tslCount4 (t : Nat) (w : Word) (s : State) : SoundR TslOut.state s (tslCount4 t w s) := by
  unfold tslCount4
  extract_lets +onlyGivenNames x1
  clear_value x1
  refine SoundR.ite ?_ ?_
  · refine SoundR.tslStop' ?_
    exact SoundR.self _
  · extract_lets +onlyGivenNames x2
    clear_value x2
    extract_lets +onlyGivenNames x3
    clear_value x3
    extract_lets +onlyGivenNames x4
    clear_value x4
    extract_lets +onlyGivenNames x5
    clear_value x5
    extract_lets +onlyGivenNames x6
    clear_value x6
    refine SoundR.tslNext ?_
    refine SoundR.app (sound_tslZn ..) ?_
    refine SoundR.app (sound_set ..) ?_
    exact SoundR.self _

theorem sound_tslBranch (t : Nat) (w : Word) (s : State) : SoundR TslOut.state s (tslBranch t w s) := by
  unfold tslBranch
  extract_lets +onlyGivenNames x1
  clear_value x1
  extract_lets +onlyGivenNames x2
  clear_value x2
  extract_lets +onlyGivenNames x3
  clear_value x3
  extract_lets +onlyGivenNames x4
  clear_value x4
  extract_lets +onlyGivenNames x5
  clear_value x5
  extract_lets +onlyGivenNames x6
  extract_lets +onlyGivenNames x7
  clear_value x7
  refine SoundR.ite ?_ ?_
  · refine SoundR.tslStop' ?_
    exact SoundR.self _
  · split
    · rename_i v8
      unfold x6
      refine SoundR.ite ?_ ?_
      · refine SoundR.tslGoto ?_
        exact SoundR.self _
      · refine SoundR.tslNext ?_
        exact SoundR.self _
    · rename_i v9
      unfold x6
      refine SoundR.ite ?_ ?_
      · refine SoundR.tslGoto ?_
        exact SoundR.self _
      · refine SoundR.tslNext ?_
        exact SoundR.self _
    · rename_i v10
      unfold x6
      refine SoundR.ite ?_ ?_
      · refine SoundR.tslGoto ?_
        exact SoundR.self _
      · refine SoundR.tslNext ?_
        exact SoundR.self _
    · rename_i v11
      unfold x6
      refine SoundR.ite ?_ ?_
      · refine SoundR.tslGoto ?_
        exact SoundR.self _
      · refine SoundR.tslNext ?_
        exact SoundR.self _
    · rename_i v12
      unfold x6
      refine SoundR.ite ?_ ?_
      · refine SoundR.tslGoto ?_
        exact SoundR.self _
      · refine SoundR.tslNext ?_
        exact SoundR.self _
    · rename_i v13
      unfold x6
      refine SoundR.ite ?_ ?_
      · refine SoundR.tslGoto ?_
        exact SoundR.self _
      · refine SoundR.tslNext ?_
        exact SoundR.self _
    · rename_i v14
      unfold x6
      refine SoundR.ite ?_ ?_
      · refine SoundR.tslGoto ?_
        exact SoundR.self _
      · refine SoundR.tslNext ?_
        exact SoundR.self _
    · rename_i v15
      unfold x6
      refine SoundR.ite ?_ ?_
      · refine SoundR.tslGoto ?_
        exact SoundR.self _
      · refine SoundR.tslNext ?_
        exact SoundR.self _
    · rename_i v16 v17 v18 v19 v20 v21 v22 v23 v24
      split
      · rename_i v25 v26 v27 v28 v29 v30
        refine SoundR.ite ?_ ?_
        · refine SoundR.tslWait ?_
          exact SoundR.self _
        · extract_lets +onlyGivenNames x31
          clear_value x31
          extract_lets +onlyGivenNames x32
          clear_value x32
          unfold x6
          refine SoundR.ite ?_ ?_
          · refine SoundR.tslGoto ?_
            exact SoundR.self _
          · refine SoundR.tslNext ?_
            exact SoundR.self _
      · rename_i v33 v34 v35
        refine SoundR.tslStop' ?_
        exact SoundR.self _

theorem sound_tslSignal (t : Nat) (w : Word) (s : State) : SoundR TslOut.state s (tslSignal t w s) := by
  unfold tslSignal
  extract_lets +onlyGivenNames x1
  clear_value x1
  extract_lets +onlyGivenNames x2
  clear_value x2
  extract_lets +onlyGivenNames x3
  clear_value x3
  extract_lets +onlyGivenNames x4
  clear_value x4
  refine SoundR.ite ?_ ?_
  · refine SoundR.tslStop' ?_
    exact SoundR.self _
  · split
    · rename_i v5
      refine SoundR.tslNext ?_
      refine SoundR.app (sound_raise ..) ?_
      exact SoundR.self _
    · rename_i v6
      split
      · rename_i v7 v8 v9 v10
        have h11 : SoundR id s v9 := by
          refine SoundR.of2 v10 ?_
          refine SoundR.appG (sound_fabric ..) ?_
          exact SoundR.self _
        refine SoundR.tslNext ?_
        refine SoundR.app (sound_tslSetC ..) ?_
        exact h11
      · rename_i v12 v13 v14 v15 v16
        have h17 : SoundR id s v14 := by
          refine SoundR.of2 v16 ?_
          refine SoundR.appG (sound_fabric ..) ?_
          exact SoundR.self _
        refine SoundR.tslStop' ?_
        exact h17
    · rename_i v18
      split
      · rename_i v19 v20 v21 v22
        have h23 : SoundR id s v21 := by
          refine SoundR.of2 v22 ?_
          refine SoundR.appG (sound_fabric ..) ?_
          exact SoundR.self _
        refine SoundR.tslNext ?_
        exact h23
      · rename_i v24 v25 v26 v27 v28
        have h29 : SoundR id s v26 := by
          refine SoundR.of2 v28 ?_
          refine SoundR.appG (sound_fabric ..) ?_
          exact SoundR.self _
        refine SoundR.tslStop' ?_
        exact h29
    · rename_i v30 v31 v32 v33
      refine SoundR.tslStop' ?_
      refine SoundR.ite ?_ ?_
      · refine SoundR.app (sound_raise ..) ?_
        exact SoundR.self _
      · exact SoundR.self _

theorem sound_tslExec (t : Nat) (w : Word) (s : State) : SoundR TslOut.state s (tslExec t w s) := by
  unfold tslExec
  split
  · rename_i v1 v2
    refine SoundR.appG (sound_tslDrive ..) ?_
    exact SoundR.self _
  · rename_i v3 v4
    refine SoundR.appG (sound_tslSample ..) ?_
    exact SoundR.self _
  · rename_i v5 v6
    refine SoundR.appG (sound_tslShift ..) ?_
    exact SoundR.self _
  · rename_i v7 v8
    refine SoundR.appG (sound_tslFetch ..) ?_
    exact SoundR.self _
  · rename_i v9 v10
    refine SoundR.appG (sound_tslDeposit ..) ?_
    exact SoundR.self _
  · rename_i v11 v12
    refine SoundR.appG (sound_tslAwait ..) ?_
    exact SoundR.self _
  · rename_i v13 v14
    refine SoundR.appG (sound_tslCount4 ..) ?_
    exact SoundR.self _
  · rename_i v15 v16
    refine SoundR.appG (sound_tslBranch ..) ?_
    exact SoundR.self _
  · rename_i v17 v18
    refine SoundR.appG (sound_tslSignal ..) ?_
    exact SoundR.self _
  · rename_i v19 v20 v21 v22 v23 v24 v25 v26 v27 v28
    refine SoundR.tslStop' ?_
    exact SoundR.self _

theorem sound_tslServed (t : Nat) (s : State) : Sound s (tslServed t s) := by
  unfold tslServed
  refine SoundR.intro ?_
  refine SoundR.mk' rfl ?_
  exact SoundR.self _

theorem sound_tslStep (t : Nat) (mine : Word → Bool) (s : State) : Sound s (tslStep t mine s) := by
  unfold tslStep
  refine SoundR.intro ?_
  refine SoundR.ite ?_ ?_
  · exact SoundR.self _
  · extract_lets +onlyGivenNames x1
    clear_value x1
    extract_lets +onlyGivenNames x2
    clear_value x2
    extract_lets +onlyGivenNames x3
    clear_value x3
    split
    · rename_i v4 v5 v6
      have h7 : SoundR id s v5 := by
        refine SoundR.of2 v6 ?_
        refine SoundR.appG (sound_bankReady ..) ?_
        exact SoundR.self _
      refine SoundR.ite ?_ ?_
      · refine SoundR.app (sound_tslServed ..) ?_
        refine SoundR.app (sound_tslStop ..) ?_
        refine SoundR.app (sound_busErr ..) ?_
        exact h7
      · exact SoundR.self _
    · rename_i v8 v9 v10
      have h11 : SoundR id s v9 := by
        refine SoundR.of2 v10 ?_
        refine SoundR.appG (sound_bankReady ..) ?_
        exact SoundR.self _
      split
      · rename_i v12 v13 v14
        have h15 : SoundR id s v13 := by
          refine SoundR.of2 v14 ?_
          refine SoundR.appG (sound_ramReadWord ..) ?_
          exact h11
        refine SoundR.ite ?_ ?_
        · refine SoundR.app (sound_tslServed ..) ?_
          refine SoundR.app (sound_tslStop ..) ?_
          exact h15
        · exact SoundR.self _
      · rename_i v16 v17 v18 v19
        have h20 : SoundR id s v18 := by
          refine SoundR.of2 v19 ?_
          refine SoundR.appG (sound_ramReadWord ..) ?_
          exact h11
        extract_lets +onlyGivenNames x21
        extract_lets +onlyGivenNames x22
        clear_value x22
        refine SoundR.ite ?_ ?_
        · exact SoundR.self _
        · split
          · rename_i v23 v24 v25
            have h26 : SoundR id s v24 := by
              refine SoundR.ofTslWait v25 ?_
              refine SoundR.appG (sound_tslExec ..) ?_
              exact h20
            refine SoundR.ite ?_ ?_
            · refine SoundR.app (sound_setWord ..) ?_
              exact SoundR.self _
            · refine SoundR.app (sound_set ..) ?_
              exact h26
          · rename_i v27 v28 v29
            have h30 : SoundR id s v28 := by
              refine SoundR.ofTslNext v29 ?_
              refine SoundR.appG (sound_tslExec ..) ?_
              exact h20
            refine SoundR.ite ?_ ?_
            · refine SoundR.app (sound_tslServed ..) ?_
              unfold x21
              refine SoundR.app (sound_set ..) ?_
              refine SoundR.app (sound_set ..) ?_
              exact h30
            · exact SoundR.self _
          · rename_i v31 v32 v33 v34
            have h35 : SoundR id s v33 := by
              refine SoundR.ofTslGoto v34 ?_
              refine SoundR.appG (sound_tslExec ..) ?_
              exact h20
            refine SoundR.ite ?_ ?_
            · refine SoundR.app (sound_tslServed ..) ?_
              unfold x21
              refine SoundR.app (sound_set ..) ?_
              refine SoundR.app (sound_set ..) ?_
              exact h35
            · exact SoundR.self _
          · rename_i v36 v37 v38 v39
            have h40 : SoundR id s v38 := by
              refine SoundR.ofTslStop v39 ?_
              refine SoundR.appG (sound_tslExec ..) ?_
              exact h20
            refine SoundR.ite ?_ ?_
            · refine SoundR.app (sound_tslServed ..) ?_
              refine SoundR.app (sound_tslStop ..) ?_
              refine SoundR.ite ?_ ?_
              · unfold x21
                refine SoundR.app (sound_set ..) ?_
                refine SoundR.app (sound_set ..) ?_
                exact h40
              · exact h40
            · exact SoundR.self _

theorem sound_pinEventFire (n : Nat) (s : State) : Sound s (pinEventFire n s) := by
  unfold pinEventFire
  refine SoundR.intro ?_
  extract_lets +onlyGivenNames x1
  clear_value x1
  extract_lets +onlyGivenNames x2
  clear_value x2
  split
  · rename_i v3 v4
    exact SoundR.self _
  · rename_i v5 v6 v7
    extract_lets +onlyGivenNames x8
    have h9 : SoundR id s x8 := by
      unfold x8
      refine SoundR.app (sound_setPin ..) ?_
      exact SoundR.self _
    clear_value x8
    refine SoundR.ite ?_ ?_
    · split
      · rename_i v10 v11 v12
        refine SoundR.app (sound_tpEdge ..) ?_
        exact h9
      · rename_i v13 v14
        exact h9
    · exact h9

theorem sound_timeTick (s : State) : Sound s (timeTick s) := by
  unfold timeTick
  refine SoundR.intro ?_
  refine SoundR.ite ?_ ?_
  · extract_lets +onlyGivenNames x1
    have h2 : SoundR Prod.snd s x1 := by
      unfold x1
      refine SoundR.appG (sound_slewTick ..) ?_
      exact SoundR.self _
    clear_value x1
    refine SoundR.app (sound_syncTick ..) ?_
    extract_lets +onlyGivenNames x3
    have h4 : SoundR id s x3 := by
      unfold x3
      exact h2
    clear_value x3
    refine SoundR.mk' rfl ?_
    exact h4
  · exact SoundR.self _

theorem sound_cycleTick (s : State) : Sound s (cycleTick s) := by
  unfold cycleTick
  refine SoundR.intro ?_
  extract_lets +onlyGivenNames x1
  clear_value x1
  refine SoundR.ite ?_ ?_
  · exact SoundR.self _
  · refine SoundR.ite ?_ ?_
    · refine SoundR.app (sound_updYar ..) ?_
      exact SoundR.self _
    · refine SoundR.app (sound_updYar ..) ?_
      exact SoundR.self _

theorem sound_wdTick (n : Nat) (s : State) : Sound s (wdTick n s) := by
  unfold wdTick
  refine SoundR.intro ?_
  refine SoundR.ite ?_ ?_
  · exact SoundR.self _
  · refine SoundR.ite ?_ ?_
    · refine SoundR.app (sound_updLcs (fun _ => rfl)) ?_
      exact SoundR.self _
    · extract_lets +onlyGivenNames x1
      have h2 : SoundR id s x1 := by
        unfold x1
        refine SoundR.app (sound_updLcs (fun _ => rfl)) ?_
        exact SoundR.self _
      clear_value x1
      refine SoundR.app (sound_setWdCount ..) ?_
      exact h2

theorem sound_wdrTick (s : State) : Sound s (wdrTick s) := by
  unfold wdrTick
  refine SoundR.intro ?_
  refine SoundR.app (sound_updLcs (fun _ => rfl)) ?_
  exact SoundR.self _

theorem sound_rampTick (s : State) : Sound s (rampTick s) := by
  unfold rampTick
  refine SoundR.intro ?_
  refine SoundR.ite ?_ ?_
  · exact SoundR.self _
  · refine SoundR.ite ?_ ?_
    · refine SoundR.mk' rfl ?_
      exact SoundR.self _
    · refine SoundR.app (sound_set ..) ?_
      refine SoundR.mk' rfl ?_
      exact SoundR.self _

theorem sound_scrubWait (s : State) : Sound s (scrubWait s) := by
  unfold scrubWait
  refine SoundR.intro ?_
  refine SoundR.ite ?_ ?_
  · refine SoundR.mk' rfl ?_
    exact SoundR.self _
  · exact SoundR.self _

theorem sound_tb10Tick (s : State) : Sound s (tb10Tick s) := by
  unfold tb10Tick
  refine SoundR.intro ?_
  refine SoundR.app (sound_wdrTick ..) ?_
  refine SoundR.app (sound_rampTick ..) ?_
  refine SoundR.app (sound_wdTick ..) ?_
  refine SoundR.app (sound_wdTick ..) ?_
  refine SoundR.app (sound_scrubWait ..) ?_
  refine SoundR.app (sound_ledgerScan ..) ?_
  exact SoundR.self _

theorem sound_dueTick (s : State) : Sound s (dueTick s) := by
  unfold dueTick
  refine SoundR.intro ?_
  refine SoundR.app (sound_wdReset ..) ?_
  refine SoundR.app (sound_rampExpire ..) ?_
  refine SoundR.app (sound_wdLate ..) ?_
  refine SoundR.app (sound_wdLate ..) ?_
  exact SoundR.self _

theorem sound_lateTick (s : State) : Sound s (lateTick s) := by
  unfold lateTick
  refine SoundR.intro ?_
  refine SoundR.ite ?_ ?_
  · exact SoundR.self _
  · refine SoundR.app (sound_deliver ..) ?_
    refine SoundR.mk' rfl ?_
    exact SoundR.self _

theorem sound_tick (s : State) : Sound s (tick s) := by
  unfold tick
  refine SoundR.intro ?_
  extract_lets +onlyGivenNames x1
  have h2 : SoundR id s x1 := by
    unfold x1
    refine SoundR.app (sound_dueTick ..) ?_
    refine SoundR.app (sound_begin ..) ?_
    exact SoundR.self _
  clear_value x1
  extract_lets +onlyGivenNames x3
  have h4 : SoundR Prod.fst s x3 := by
    unfold x3
    refine SoundR.appG (sound_tbTick ..) ?_
    refine SoundR.mk' rfl ?_
    exact h2
  clear_value x3
  extract_lets +onlyGivenNames x5
  have h6 : SoundR id s x5 := by
    unfold x5
    refine SoundR.app (sound_vetOldest ..) ?_
    refine SoundR.app (sound_lateTick ..) ?_
    refine SoundR.app (sound_cycleTick ..) ?_
    refine SoundR.app (sound_timeTick ..) ?_
    exact h4
  clear_value x5
  refine SoundR.ite ?_ ?_
  · refine SoundR.app (sound_tb10Tick ..) ?_
    exact h6
  · exact h6

end Sys2Proof.Machine
end

