-- ==== Sys2Proof/Laws/SoundRows.lean ====
section
/-!
SUPPORT. Every operation of the named files is sound (Laws/Sound.lean).
-/
set_option linter.unusedVariables false
namespace Sys2Proof.Machine
open Sys2Proof

theorem sound_writeAny (cid : Cid) (a : Nat) (w : Word) (s : State) : Sound s (writeAny cid a w s) := by
  unfold writeAny
  refine SoundR.intro ?_
  refine SoundR.ite ?_ ?_
  · split
    · rename_i v1 v2 v3 v4
      have h5 : SoundR id s v3 := by
        refine SoundR.of2 v4 ?_
        refine SoundR.appG (sound_lcsAccWrite ..) ?_
        exact SoundR.self _
      exact h5
    · rename_i v6 v7 v8 v9
      have h10 : SoundR id s v8 := by
        refine SoundR.of2 v9 ?_
        refine SoundR.appG (sound_lcsAccWrite ..) ?_
        exact SoundR.self _
      refine SoundR.app (sound_answerRefused ..) ?_
      exact h10
  · refine SoundR.app (sound_fabricWrite ..) ?_
    exact SoundR.self _

theorem sound_lcsCmd (cid : Cid) (cmd : Nat) (slot : Fin 4) (key : BitVec 16) (s : State) : Sound s (lcsCmd cid cmd slot key s) := by
  unfold lcsCmd
  refine SoundR.intro ?_
  refine SoundR.app (sound_writeAny ..) ?_
  exact SoundR.self _

theorem sound_xsrcUpdate (c : Nat) (x : Sample) (s : State) : Sound s (xsrcUpdate c x s) := by
  unfold xsrcUpdate
  refine SoundR.intro ?_
  refine SoundR.ite ?_ ?_
  · refine SoundR.app (sound_thermUpdate ..) ?_
    refine SoundR.mk' rfl ?_
    exact SoundR.self _
  · exact SoundR.self _

theorem sound_coldCheck (t : Int) (s : State) : Sound s (coldCheck t s) := by
  unfold coldCheck
  refine SoundR.intro ?_
  refine SoundR.ite ?_ ?_
  · refine SoundR.app (sound_tampDetect ..) ?_
    exact SoundR.self _
  · refine SoundR.app (sound_tampEnd ..) ?_
    exact SoundR.self _

theorem sound_dueAction (d : Due) (s : State) : Sound s (dueAction d s) := by
  unfold dueAction
  refine SoundR.intro ?_
  split
  · rename_i v1 v2
    refine SoundR.app (sound_outputEdge ..) ?_
    exact SoundR.self _
  · rename_i v3 v4 v5
    refine SoundR.app (sound_triggerFire ..) ?_
    exact SoundR.self _
  · rename_i v6 v7
    refine SoundR.app (sound_schedTrigger ..) ?_
    exact SoundR.self _
  · rename_i v8 v9
    refine SoundR.app (sound_pinEventFire ..) ?_
    exact SoundR.self _
  · rename_i v10 v11
    refine SoundR.app (sound_adcTimer ..) ?_
    exact SoundR.self _
  · rename_i v12 v13
    refine SoundR.app (sound_carrierStart ..) ?_
    exact SoundR.self _

theorem sound_chainAccess (cid : Cid) (write : Bool) (a : Word) (sz : Fin 4) (v : DWord) (s : State) : Sound s (chainAccess cid write a sz v s) := by
  unfold chainAccess
  refine SoundR.intro ?_
  split
  · rename_i v1 v2 v3 v4
    have h5 : SoundR id s v3 := by
      refine SoundR.of2 v4 ?_
      refine SoundR.appG (sound_fabric ..) ?_
      exact SoundR.self _
    refine SoundR.app (sound_answer ..) ?_
    exact h5
  · rename_i v6 v7 v8 v9
    have h10 : SoundR id s v8 := by
      refine SoundR.of2 v9 ?_
      refine SoundR.appG (sound_fabric ..) ?_
      exact SoundR.self _
    refine SoundR.app (sound_answerRefused ..) ?_
    exact h10
  · rename_i v11 v12 v13
    have h14 : SoundR id s v12 := by
      refine SoundR.of2 v13 ?_
      refine SoundR.appG (sound_fabric ..) ?_
      exact SoundR.self _
    exact h14

theorem sound_mclose (port : Nat) (f : Frame) (s : State) : Sound s (mclose port f s) := by
  unfold mclose
  refine SoundR.intro ?_
  split
  · rename_i v1 v2 v3
    have h4 : SoundR id s v2 := by
      refine SoundR.of2 v3 ?_
      refine SoundR.appG (sound_onMclose ..) ?_
      exact SoundR.self _
    refine SoundR.app (sound_softReset ..) ?_
    exact h4
  · rename_i v5 v6 v7
    have h8 : SoundR id s v6 := by
      refine SoundR.of2 v7 ?_
      refine SoundR.appG (sound_onMclose ..) ?_
      exact SoundR.self _
    refine SoundR.app (sound_softReset ..) ?_
    refine SoundR.app (sound_set ..) ?_
    exact h8
  · rename_i v9 v10 v11 v12 v13 v14
    have h15 : SoundR id s v11 := by
      refine SoundR.of2 v14 ?_
      refine SoundR.appG (sound_onMclose ..) ?_
      exact SoundR.self _
    exact h15

theorem sound_vetRow (mine : YInstr → Bool) (ahead : Bool) (s : State) : Sound s (vetRow mine ahead s) := by
  unfold vetRow
  refine SoundR.intro ?_
  refine SoundR.ite ?_ ?_
  · refine SoundR.app (sound_vAhead ..) ?_
    exact SoundR.self _
  · refine SoundR.app (sound_yStep ..) ?_
    exact SoundR.self _

end Sys2Proof.Machine
end

