-- ==== Sys2Proof/Laws/Steps.lean ====
section
/-!
SUPPORT. What the hypotheses of the statements give: a register access that the fabric admits, a fetched instruction, a received frame.
-/
namespace Sys2Proof.Machine

/-- An answer that is not a refusal is the one named. -/
theorem ok_of_toOption {ε α : Type} {x : Except ε α} {v : α} (h : x.toOption = some v) : x = .ok v := by
  cases x with
  | ok w => simpa [Except.toOption] using h
  | error e => simp [Except.toOption] at h

theorem Admits.ok {cid : Cid} {write : Bool} {a : Nat} {s : State} (h : Admits cid write a s) :
    accessCheck { cid := cid.toNat } write a 4 s = .ok (16 + (a - 0x50000000) / 0x1000) := ok_of_toOption h.1

theorem Admits.done {cid : Cid} {write : Bool} {a : Nat} {s : State} (h : Admits cid write a s) : s.chn.done = [] := h.2

theorem Fetches.eq {w : Word} {len : Nat} {s t : State} (h : Fetches w len s t) : yFetch s.begin = (.ok (w, len), t) :=
  Prod.ext (ok_of_toOption h.2.2.2.2.2.2.1) h.2.2.2.2.2.2.2

/-- A frame row whose frame waits runs its operation on that frame, once it has left its slot. -/
theorem Received.onFrame {p cls typ : Nat} {f : Frame} {s u : State} {op : Frame → State → State} (h : Received p cls typ f s u) :
    onFrame p cls typ op s.begin = op f u := by
  unfold Received at h
  unfold Machine.onFrame
  cases hx : slotFind p cls typ s.begin with
  | none => simp [hx] at h
  | some x =>
    simp only [hx, Option.map_some, Option.some.injEq, Prod.mk.injEq] at h
    simp [h.1, h.2]

theorem TslFetches.eq {t : Fin 24} {w : Word} {s u : State} (h : TslFetches t w s u) :
    ∃ v, bankReady (0x42000000 + 4 * s.get (F.TSL_CHtPC_PC t)) s.begin = (true, v) ∧
      ramReadWord { cid := 26 + t, fetch := true } 1 (0x42000000 + 4 * s.get (F.TSL_CHtPC_PC t)) v = (some w, u) :=
  ⟨_, Prod.ext h.2.1 rfl, h.2.2⟩

/-- A register read that the register's own rule answers. -/
theorem read_row {s : State} {cid : Cid} {a : Nat} {row : RegRow} {r : Word × State} (h : Admits cid false a s)
    (hr : regRow? a = some row) (hs : specialRead cid.toNat a s.begin = some r) (ha : 0x50000000 ≤ a ∧ a < 0x50010000)
    (hd : r.2.chn.done = s.chn.done) : rowS (fabricRead cid.toNat a) s = .next (r.2.answer r.1.toNat) := by
  unfold rowS
  rw [fabricRead_ok (s := s.begin) h.ok (by omega) (regRead_special hr hs)]
  rw [settle_of_nil (by rw [← h.2, ← hd]; rfl)]
  have : (BitVec.setWidth 64 r.1).toNat = r.1.toNat := by simp; omega
  rw [this]

/-- A register read that shows what the register holds. -/
theorem read_plain {s : State} {cid : Cid} {a : Nat} {row : RegRow} (h : Admits cid false a s) (hr : regRow? a = some row)
    (hs : specialRead cid.toNat a s.begin = none) (ha : 0x50000000 ≤ a ∧ a < 0x50010000) :
    rowS (fabricRead cid.toNat a) s = .next (s.begin.answer (s.word (regAt a)).toNat) := by
  unfold rowS
  rw [fabricRead_ok (s := s.begin) h.ok (by omega) (regRead_plain hr hs)]
  rw [settle_of_nil (by rw [← h.2]; rfl)]
  have : (BitVec.setWidth 64 (s.word (regAt a))).toNat = (s.word (regAt a)).toNat := by simp; omega
  rw [State.word_begin, this]

/-- A register write that the register's own rule takes. -/
theorem write_row {s : State} {cid : Cid} {a : Nat} {w : Word} {row : RegRow} {d : DWord} {u : State} (h : Admits cid true a s)
    (hr : regRow? a = some row) (hs : specialWrite row cid.toNat a w 15 s.begin = some (.ok d, u))
    (ha : 0x50000000 ≤ a ∧ a < 0x50010000) : rowS (fabricWrite cid.toNat a w) s = .next (settle u) := by
  unfold rowS
  rw [fabricWrite_ok (s := s.begin) h.ok (by omega) (regWrite_special hr hs)]

/-- A register write that the access codes decide. -/
theorem write_code {s : State} {cid : Cid} {a : Nat} {w : Word} {row : RegRow} (h : Admits cid true a s) (hr : regRow? a = some row)
    (hs : specialWrite row cid.toNat a w 15 s.begin = none) (ha : 0x50000000 ≤ a ∧ a < 0x50010000) :
    rowS (fabricWrite cid.toNat a w) s = .next (settle (codeWrite row a w 15 s.begin)) := by
  unfold rowS
  rw [fabricWrite_ok (s := s.begin) h.ok (by omega) (regWrite_code hr hs)]

end Sys2Proof.Machine
end

