-- ==== Sys2Proof/WellFormed.lean ====
section
/-!
DEFINITION. Well-formed commands: operands that name what they must. A command that is a register write named after what it asks for
carries the bit that asks for it; a number of a timebase, ledger, unit or byte count lies in the range its rule gives.
-/
namespace Sys2Proof

/-- Is the command well-formed? Meanings are total: exec gives an ill-formed command a next state too. The ranges: timebases with a
lock (R18, R19), the register bits that name DMA_START to WATCHDOG_ENABLE, ledgers (R285), units (R379), idle symbols (R376), the march
elements (R245), analog inputs (11), TEMP (R337). -/
def Instr.wf (i : Instr) : Bool :=
  match i with
  | .powerOnReset => true
  | .pinReset _ => true
  | .softrstWrite _ _ => true
  | .bootSequence _ => true
  | .personalityWaitTimeout => true
  | .bootConfirm _ value => value.getLsbD 1
  | .fuseBitDone _ => true
  | .relayRoundStart => true
  | .relayFrameTimeout => true
  | .relaytoExpiry => true
  | .limpRelayRetry => true
  | .servicePoint _ arrivals => arrivals.all (fun q => decide (q.origin.toNat ≤ 64))
  | .scheduledAction _ => true
  | .timebaseLock n => n != 10
  | .lossOfLock n => n != 10
  | .filteredErrorRecomputation ratio _ => decide (ratio < 2 ^ 32)
  | .trimRemovalDone => true
  | .missingEdgeDetect => true
  | .grossErrorDetect => true
  | .primaryRestart => true
  | .loopPullin => true
  | .holdoverExpiry => true
  | .rcLoss => true
  | .rcReturn => true
  | .retdlyExpiry => true
  | .primaryReturn => true
  | .lineCalibrationDone _ _ => true
  | .lineSwap _ => true
  | .tbTimeloRead _ => true
  | .registerWrite _ _ _ => true
  | .evrYclaimRead _ => true
  | .evrSwraise _ _ => true
  | .evrLockWrite _ _ _ => true
  | .eventOutputPulseEnd _ => true
  | .dmaStart _ _ value => value.getLsbD 0
  | .dmaAbort _ _ value => value.getLsbD 1
  | .dmaSwtrig _ _ value => value.getLsbD 2
  | .dmaTrigger _ _ => true
  | .descriptorFetch _ => true
  | .dmaElement _ => true
  | .bundleIssue _ => true
  | .levelStart _ => true
  | .loopTrigger _ => true
  | .lsctlWrite _ _ => true
  | .coreRestart _ _ value => value.getLsbD 2
  | .holdRelease _ _ value => !value.getLsbD 0
  | .yarrowIntegerInstruction => true
  | .integerDivision => true
  | .floatingPointArithmetic => true
  | .fminFmax => true
  | .conversionToInteger => true
  | .yarrowLoad => true
  | .yarrowStore => true
  | .storeBufferDrain => true
  | .yarrowBranch => true
  | .fence => true
  | .fenceI => true
  | .ecall => true
  | .ebreak => true
  | .wfi => true
  | .mret => true
  | .csrAccess => true
  | .veixAccess => true
  | .yserrinfoClear => true
  | .predictorFlush => true
  | .interruptTake => true
  | .timerCompareMatch => true
  | .bcopy _ => true
  | .bfill _ => true
  | .bcrc _ => true
  | .debugHalt => true
  | .debugResume => true
  | .abstractCommand _ => true
  | .systemBusAccess _ _ _ _ => true
  | .vle _ _ => true
  | .vlse _ _ => true
  | .vlxe _ _ => true
  | .vlr _ _ => true
  | .vlk _ _ => true
  | .vse _ => true
  | .vsse _ => true
  | .vsxe _ => true
  | .vsr _ => true
  | .vsk _ => true
  | .vkand _ => true
  | .vkor _ => true
  | .vkxor _ => true
  | .vkandn _ => true
  | .vknot _ => true
  | .vkpopc => true
  | .vkfirst => true
  | .vmvxs => true
  | .vmvxsh => true
  | .vsetvl => true
  | .vgetcfg => true
  | .vfence => true
  | .vsig => true
  | .vadd _ => true
  | .vsub _ => true
  | .vsadd _ => true
  | .vssub _ => true
  | .vmin _ => true
  | .vmax _ => true
  | .vminu _ => true
  | .vmaxu _ => true
  | .vand _ => true
  | .vor _ => true
  | .vxor _ => true
  | .vsll _ => true
  | .vsrl _ => true
  | .vsra _ => true
  | .vmul _ => true
  | .vmulh _ => true
  | .vmacc _ => true
  | .vmerge _ => true
  | .vmv _ => true
  | .vslidedn _ => true
  | .vslideup _ => true
  | .vmseq _ => true
  | .vmsne _ => true
  | .vmslt _ => true
  | .vmsltu _ => true
  | .vmsle _ => true
  | .vmsleu _ => true
  | .vwmul _ => true
  | .vwmulu _ => true
  | .vwmulsu _ => true
  | .vwmacc _ => true
  | .vwmaccu _ => true
  | .vdot4 _ => true
  | .vdot4u _ => true
  | .vdot2 _ => true
  | .vfadd _ => true
  | .vfsub _ => true
  | .vfmul _ => true
  | .vfmacc _ => true
  | .vfmin _ => true
  | .vfmax _ => true
  | .vfmseq _ => true
  | .vfmslt _ => true
  | .vfmsle _ => true
  | .vfcvtFX _ => true
  | .vfcvtXF _ => true
  | .vfwmul _ => true
  | .vfwmacc _ => true
  | .vredsum _ => true
  | .vredmax _ => true
  | .vredmin _ => true
  | .vredmaxu _ => true
  | .vfredsum _ => true
  | .vfredmax _ => true
  | .vetchRunaheadCommit => true
  | .powerStateRequest _ _ _ => true
  | .powerTransitionDone _ => true
  | .secureWipe _ value => value.getLsbD 0
  | .wipeDone _ => true
  | .marchStart _ value => value.getLsbD 10
  | .marchAbort _ value => value.getLsbD 11
  | .marchSegment flips => flips.all (fun f => decide (1 ≤ f.1 ∧ f.1 ≤ 6))
  | .scrubRead => true
  | .injectionArm _ _ => true
  | .semTry _ _ => true
  | .semTake _ _ => true
  | .semGive _ _ => true
  | .semCancel _ _ => true
  | .semReclaim _ _ => true
  | .semGrantRead _ => true
  | .inheritanceHop _ => true
  | .mailboxPost _ _ _ _ => true
  | .mailboxAck _ _ => true
  | .alloc _ => true
  | .poolFree _ _ => true
  | .poolGive _ _ _ => true
  | .poolLink _ _ _ => true
  | .poolReclaim _ _ => true
  | .ledgerFail which index => decide (which < 4) && decide (index < 256)
  | .carrierStart _ => true
  | .carrierZeroEvent _ => true
  | .carrierPeakEvent _ => true
  | .localZero _ => true
  | .localPeak _ => true
  | .outputEdge _ => true
  | .gcommit _ _ _ => true
  | .arm _ _ => true
  | .disarm _ _ => true
  | .clrflt _ _ => true
  | .legCfgWrite _ _ _ => true
  | .triggerCompareFire _ _ => true
  | .faultInput _ _ => true
  | .adcEnable _ _ value => value.getLsbD 0
  | .adcDisable _ _ value => !value.getLsbD 0
  | .adcTimerFire _ => true
  | .adcSoft _ _ _ => true
  | .samplingInstant _ v => decide (v.ain.length ≤ 32)
  | .conversionEnd _ => true
  | .resultPortRead _ _ _ => true
  | .resaRead _ _ _ => true
  | .comparatorTrip c => decide (c.v.ain.length ≤ 32)
  | .comparatorRelease c => decide (c.v.ain.length ≤ 32)
  | .blankingWindowClose _ => true
  | .temperatureMeasurement t => decide (-2048 ≤ t ∧ t ≤ 2047)
  | .supplyLow _ => true
  | .drive _ => true
  | .sample _ => true
  | .shift _ => true
  | .fetch _ => true
  | .deposit _ => true
  | .awaitPin _ => true
  | .countAdd _ => true
  | .countLoad _ => true
  | .countStamp _ => true
  | .countDelta _ => true
  | .branchTsl _ => true
  | .signalEvent _ => true
  | .signalTry _ => true
  | .signalGive _ => true
  | .signalStop _ => true
  | .pinEventFire _ => true
  | .channelStart _ _ => true
  | .channelStopWrite _ _ => true
  | .fifoOutWrite _ _ _ => true
  | .fifoInRead _ _ => true
  | .uartDataWrite _ _ _ => true
  | .uartDataRead _ _ => true
  | .uartFrameReceived _ _ _ _ _ => true
  | .uartFrameSent _ => true
  | .i2cStart _ => true
  | .i2cWrite _ => true
  | .i2cRead _ => true
  | .i2cStop => true
  | .arbitrationLost => true
  | .i2cTargetAccess _ => true
  | .hostSpiTransaction _ tx _ => (match tx with
    | some (c, _) => decide (c < 4)
    | none => true)
  | .hostAbort => true
  | .receiverLock _ _ _ => true
  | .lossOfChainLock _ _ => true
  | .linkDown _ => true
  | .errorCountInterval _ => true
  | .errlimHoldoffEnd _ => true
  | .idleSymbol _ bytes _ => bytes.length == 3
  | .frameReceive _ _ _ _ _ _ => true
  | .cutThroughForward _ _ _ => true
  | .transmitNextFrame _ _ => true
  | .hello _ => true
  | .assign _ => true
  | .enumrpt _ => true
  | .route _ => true
  | .linkrpt _ => true
  | .orphan _ => true
  | .version _ => true
  | .ratechg _ => true
  | .ident _ => true
  | .identrsp _ => true
  | .resetMgmt _ => true
  | .rejoin _ => true
  | .rejoinSend => true
  | .enumerationStart => true
  | .endwaitExpiry => true
  | .unitLost a => decide (1 ≤ a.toNat ∧ a.toNat ≤ 64)
  | .remoteRequestIssue _ _ _ _ _ => true
  | .postStageStore _ _ _ _ _ => true
  | .rd _ => true
  | .wr _ => true
  | .semop _ => true
  | .mbxpost _ => true
  | .bwr _ => true
  | .rdrsp _ => true
  | .ack _ => true
  | .semrsp _ => true
  | .errRsp _ => true
  | .responseTimeout _ _ => true
  | .semevt _ => true
  | .semack _ => true
  | .semevtTimeout _ _ => true
  | .pinote _ => true
  | .msgsend _ _ => true
  | .mstart _ => true
  | .messageAllocate _ => true
  | .mdata _ => true
  | .msgtoExpiry _ _ _ => true
  | .msgresRead _ => true
  | .relayreq _ => true
  | .relayref _ => true
  | .relaystart _ => true
  | .relaymark _ => true
  | .relaydata _ => true
  | .relayend _ => true
  | .mopen _ => true
  | .mread _ => true
  | .merase _ => true
  | .mprog _ => true
  | .mclose _ => true
  | .flashOperationDone _ => true
  | .maintenanceTimeout => true
  | .syncSend => true
  | .syncReceive _ _ => true
  | .syncLost => true
  | .pdreqSend => true
  | .pdreq _ => true
  | .pdrsp _ => true
  | .timeSet _ _ _ => true
  | .vcoreReached => true
  | .policyClear _ value => value.getLsbD 0
  | .rampBackstopExpiry => true
  | .develop _ _ => true
  | .seal _ _ => true
  | .returnLc _ _ => true
  | .spend _ _ => true
  | .keyprog _ _ _ => true
  | .revoke _ _ _ => true
  | .tamperDetect _ => true
  | .fuseReread _ => true
  | .tampcfgWrite _ _ => true
  | .watchdogEnable _ _ value => value.getLsbD 0
  | .watchdogKick _ _ _ => true
  | .watchdogLate _ => true
  | .watchdogReset => true
  | .clkmonFault => true
  | .faultSet _ _ => true
  | .faultClear _ _ => true
  | .pinSwitchRequest _ _ => true
  | .pinSwitchTake => true
  | .gpioSet _ _ _ => true
  | .gpioClear _ _ _ => true
  | .supplyLiveFlagClear _ => true
  | .clkmonReturn => true
  | .faultInputInactive _ => true
  | .teaselPinEdge _ _ => true
  | .tamperConditionEnd _ => true

end Sys2Proof
end

