-- ==== Sys2Proof/Tests/Slice0.lean ====
section
/-!
SUPPORT. Tests: one term that each check of WellFormed refuses, values from the spec's worked examples, and the witnesses of the
statements. wit_<X> shows concrete states and operands that meet all hypotheses of a clause of the statement X was merged into
(named in its docstring), one conjunct for each case: the operands are the let lines, the hypotheses stand below them.
-/

namespace Sys2Proof.Tests
set_option Elab.async false
open Sys2Proof Sys2Proof.Machine

def wSet (l : List (Fld × Nat)) (s : State := State.reset) : State := l.foldl (fun s p => s.set p.1 p.2) s
def wSlot (p : Nat) (f : Frame) (s : State := State.reset) : State := setSlots p (slotsOf p s ++ [⟨f, true, none⟩]) s
def wTook (p : Nat) (f : Frame) (s : State) : State := slotDone p ⟨f, true, none⟩ s.begin
def wChn (g : Chain → Chain) (s : State := State.reset) : State := { s with chn := g s.chn }
def wRelay (g : Relay → Relay) (s : State := State.reset) : State := s.updRelay g
def wF (cls typ : Nat) (data : List Byte := []) (src : Nat := 1) (tag : Nat := 0) (dst : Nat := 0x7F) : Frame :=
  { cls := cls, dst := dst, typ := typ, src := src, tag := tag, data := data }
def wMem (a : Nat) (ws : List Word) (s : State) : State := ws.zipIdx.foldl (fun s p => { s with mem := setMemWord s.mem (a + 4 * p.2) p.1 0#7 }) s
def wYar (g : Yar → Yar) (s : State := State.reset) : State := s.updYar g
def wRun (w : Word) (g : Yar → Yar := id) (s : State := State.reset) : State :=
  wMem 0x10000000 [w] (wYar (fun y => g { y with run := true, pc := 0x10000000#32 }) s)
def wGot (s : State) : State := (yFetch s.begin).2
/-- The state after a command that completes. -/
def after (r : Result) : State :=
  match r with
  | .next t => t
  | _ => State.reset

-- WellFormed refuses a term for each of its checks

theorem test_wf_refuses_filteredErrorRecomputation : Instr.wf (.filteredErrorRecomputation (2 ^ 32) 0) = false := by decide +kernel
theorem test_wf_refuses_timebaseLock : Instr.wf (.timebaseLock 10) = false := by decide +kernel
theorem test_wf_refuses_lossOfLock : Instr.wf (.lossOfLock 10) = false := by decide +kernel
theorem test_wf_refuses_bootConfirm : Instr.wf (.bootConfirm 1#6 5#32) = false := by decide +kernel
theorem test_wf_refuses_dmaStart : Instr.wf (.dmaStart 1#6 0 2#32) = false := by decide +kernel
theorem test_wf_refuses_dmaAbort : Instr.wf (.dmaAbort 1#6 0 1#32) = false := by decide +kernel
theorem test_wf_refuses_dmaSwtrig : Instr.wf (.dmaSwtrig 1#6 0 3#32) = false := by decide +kernel
theorem test_wf_refuses_coreRestart : Instr.wf (.coreRestart 1#6 0 3#32) = false := by decide +kernel
theorem test_wf_refuses_holdRelease : Instr.wf (.holdRelease 1#6 0 1#32) = false := by decide +kernel
theorem test_wf_refuses_secureWipe : Instr.wf (.secureWipe 1#6 2#32) = false := by decide +kernel
theorem test_wf_refuses_marchStart : Instr.wf (.marchStart 1#6 0x3FF#32) = false := by decide +kernel
theorem test_wf_refuses_marchAbort : Instr.wf (.marchAbort 1#6 0x400#32) = false := by decide +kernel
theorem test_wf_refuses_marchSegment : Instr.wf (.marchSegment [(7, 0, 0)]) = false := by decide +kernel
theorem test_wf_refuses_ledgerFail : Instr.wf (.ledgerFail 4 0) = false := by decide +kernel
theorem test_wf_refuses_ledgerFail_index : Instr.wf (.ledgerFail 0 256) = false := by decide +kernel
theorem test_wf_refuses_adcEnable : Instr.wf (.adcEnable 1#6 0 2#32) = false := by decide +kernel
theorem test_wf_refuses_adcDisable : Instr.wf (.adcDisable 1#6 0 1#32) = false := by decide +kernel
theorem test_wf_refuses_samplingInstant : Instr.wf (.samplingInstant 0 { ain := List.replicate 33 0 }) = false := by decide +kernel
theorem test_wf_refuses_temperatureMeasurement : Instr.wf (.temperatureMeasurement 2048) = false := by decide +kernel
theorem test_wf_refuses_idleSymbol : Instr.wf (.idleSymbol 0 [0, 0] 0) = false := by decide +kernel
theorem test_wf_refuses_hostSpiTransaction : Instr.wf (.hostSpiTransaction 0 (some (4, [])) false) = false := by decide +kernel
theorem test_wf_refuses_unitLost : Instr.wf (.unitLost 0#7) = false := by decide +kernel
theorem test_wf_refuses_watchdogEnable : Instr.wf (.watchdogEnable 1#6 0 2#32) = false := by decide +kernel
theorem test_wf_refuses_policyClear : Instr.wf (.policyClear 1#6 0#32) = false := by decide +kernel
theorem test_wf_refuses_servicePoint : Instr.wf (.servicePoint (.bank 0) [{ cid := 1, origin := 65, write := false, addr := 0#32, sz := 2 }]) = false := by decide +kernel

-- Values the spec's own text gives

/-- R381 and the example of 06_yarrow.md: the CRC-32C of "123456789" is 0xE3069283. -/
theorem test_crc32c : crc32c [0x31, 0x32, 0x33, 0x34, 0x35, 0x36, 0x37, 0x38, 0x39] = 0xE3069283#32 := by decide +kernel

/-- R521: the CRC-8 of "123456789" is 0xF4. -/
theorem test_crc8 : crc8 [0x31, 0x32, 0x33, 0x34, 0x35, 0x36, 0x37, 0x38, 0x39] = 0xF4#8 := by decide +kernel

/-- The example of 07_vetch.md: VDOT2 v8, v0, v2, unmasked, is 0x7C20042B (R212). -/
theorem test_vdot2_word : (wf 0x7C20042B#32 0 7, vOp 0x7C20042B#32, vX 0x7C20042B#32, vVs2 0x7C20042B#32, vVs1 0x7C20042B#32) =
    (0x2B, 0x1F, false, 2, 0) := by decide +kernel

/-- The example of 10_pwm.md: 600 ns asked, dead times 500 ns, MINPW 200 ns; DROP leaves the HS short. -/
theorem test_classify_drop : classify 30720 2560000 25600 25600 10240 0 = (.fullOff, 1, 0) := by decide +kernel

/-- The same under STRETCH: D' is 700 ns, 35840 taps. -/
theorem test_classify_stretch : classify 30720 2560000 25600 25600 10240 1 = (.stretched, 1, 35840) := by decide +kernel

/-- The odd period under CARRY: De is 1200 ns, and it runs as it is. -/
theorem test_classify_carried : classify 61440 2560000 25600 25600 10240 2 = (.normal, 0, 61440) := by decide +kernel

/-- The example of 11_sensing.md: 2.05 V at VDDA 3.30 V gives code 2544 and, under FMT 1, VALUE 0x1F00. -/
theorem test_adc_phase_a : adcCode (16 * 2050000000) 3300000000 = 2544 ∧ adcValue true 2544 = 0x1F00 := by decide +kernel

/-- The same: 1.49 V gives code 1849 and VALUE 0xF390. -/
theorem test_adc_phase_b : adcCode (16 * 1490000000) 3300000000 = 1849 ∧ adcValue true 1849 = 0xF390 := by decide +kernel

/-- Semaphore 5 of the example of 09_sharing.md: INIT 1, CID 3 with base priority 2 holds it, CID 7 has 9. -/
def semEx : State :=
  (wSet [(F.SYS_CIDPRI_PRI 0, 0x90002000), (F.SYS_CIDEN_EN 0, 0xFFFFFFFF), (F.SYS_ACCRLO_MASK 21, 0xFFFFFFFF), (F.SYS_ACCWLO_MASK 21, 0xFFFFFFFF),
    (F.SEM_GMASKLO_MASK 0, 0x88)]).setSem 5 { holders := [⟨3, 0, 0⟩], recent := 3 }

/-- Step 3 of that example: the load returns WAITING, COUNT 0, HOLDER 3, HEPRI 9. -/
theorem test_sem_take_waits : (after (exec (.semTake 7#6 5) semEx)).out.data = 0x09030002#64 := by decide +kernel

/-- That example before step 5, with CID 7 waiting. -/
def semEx7 : State := semEx.setSem 5 { holders := [⟨3, 0, 0⟩], recent := 3, waiters := [⟨7, 0, 0⟩] }

/-- Step 6: CID 3 gives, and the semaphore is handed to CID 7 with a grant entry. -/
theorem test_sem_give_hands_off : ((after (exec (.semGive 3#6 5) semEx7)).sem 5).holders = [⟨7, 0, 0⟩] ∧
    (after (exec (.semGive 3#6 5) semEx7)).share.grants = [⟨5, 7, 0, 1⟩] := by decide +kernel

/-- SEM_GRANT of that example reads 0x81000705. -/
theorem test_sem_grant_read :
    (after (exec (.semGrantRead 1#6) { semEx with share := { semEx.share with grants := [⟨5, 7, 0, 1⟩] } })).out.data = 0x81000705#64 := by
  decide +kernel

/-- No row of the table has bits, so no word spells a command. -/
theorem test_no_word_decodes : decodeTableWord 32 0 = none := by decide

-- The witnesses of the statements

/-- A frame that waits in its slot is received (R386). -/
theorem rec_of {p cls typ : Nat} {f : Frame} {s : State} (h : slotFind p cls typ s.begin = some ⟨f, true, none⟩) :
    Received p cls typ f s (wTook p f s) := by
  show Option.map _ _ = _
  rw [h]; rfl

/-- What Yarrow fetches leaves `wGot`. -/
theorem fet_of {w : Word} {len : Nat} {s : State} (h : s.yar.run = true ∧ s.yar.dbg.halted = false ∧ s.yar.wait = none ∧
    s.yar.wfi = false ∧ s.yar.dbg.dcsr.getLsbD 2 = false ∧ triggerHit 2 s.yar.pc.toNat s = none ∧
    (yFetch s.begin).1.toOption = some (w, len)) : Fetches w len s (wGot s) :=
  ⟨h.1, h.2.1, h.2.2.1, h.2.2.2.1, h.2.2.2.2.1, h.2.2.2.2.2.1, h.2.2.2.2.2.2, rfl⟩

/-- An answer with its state, by its two parts. -/
theorem pair_of {α : Type} {x : α × State} {a : α} {u : State} (h1 : x.1 = a) (h2 : x.2 = u) : x = (a, u) :=
  Prod.ext h1 h2

/-- What a Teasel instruction that does not wait answers. -/
theorem no_wait {r : TslOut} (h : (match r with | .wait _ => true | _ => false) = false) : ∀ v, r ≠ .wait v := by
  rintro v rfl; cases h

/-- An answer that is no refusal. -/
theorem ok_of {α ε : Type} {x : Except ε α} {v : α} (h : x.toOption = some v) : x = .ok v := by
  cases x <;> simp_all [Except.toOption]

/-- Witness for Obligations.YarrowIntegers, the clauses of YarrowRegisters. -/
theorem wit_YarrowRegisters : (31 : Fin 32) ≠ 0 ∧ (31 : Fin 32) ≠ 1 := by decide

/-- Witness for Obligations.StepKeepsCanonicalForm. -/
theorem wit_StepKeepsCanonicalForm : ∃ t, State.reset.canon = true ∧ step State.reset = .next t :=
  ⟨_, by decide +kernel, rfl⟩

/-- An OPEN unit (first life-cycle bit blown). -/
def wOpen : State := { State.reset with lcs := { State.reset.lcs with fuses := { State.reset.lcs.fuses with lcs := 1#4 } } }

/-- Witness for Obligations.StepKeepsBlownFuses. -/
theorem wit_StepKeepsBlownFuses : ∃ t, wOpen.lcs.fuses.blown (.lcs 0) = true ∧ step wOpen = .next t :=
  ⟨_, by decide +kernel, rfl⟩


end Sys2Proof.Tests

namespace Sys2Proof.Tests.T01
set_option Elab.async false
open Sys2Proof Sys2Proof.Machine Sys2Proof.Tests

def wLock : State := wSet [(F.TB_LOCK, 0x3FFF)]
def wRef (src : Nat) : State := { wSet [(F.TB_REFCTL_REFSEL, 0), (F.TB_REFCTL_REFKHZ, 10000), (F.TB_REFSTAT_CURSRC, src), (F.TB_REFSTAT_BAND, 0)] with tb := { primAlive := true, rcAlive := true } }
def wNoSrc : State := { wSet [(F.TB_LOCK, 1)] with tb := { noSource := true } }
def wRet (n : Nat) : State := (wSet [(F.TB_REFSTAT_RETWAIT, 1), (F.TB_REFCTL_AUTORET, 1), (F.TB_BANDS_RETDLY, 64)]).updTb fun t => { t with retMs := n }
def wCal (k r : Nat) : State := wLock.updTb fun t => { t with cal := t.cal.map fun c => { c with spareReady := true, rotLeft := r, lines := (List.replicate k {}) } }
def wCalEdge : State := (wCal 32 2).setLeg 0 { (State.reset.leg 0) with edges := [{ out := LegOut.hs, at_ := 0, on := true }] }

/-- Witnesses for Obligations.TimebasesLockAndLose, the clauses of TimebaseLocks. -/
theorem wit_TimebaseLocks_1 :
    (let n : Fin 14 := 0
     let s : State := State.reset
     (n ≠ 6) ∧ (n ≠ 10) ∧ (n ≠ 13) ∧ (s.tb.noSource = false)) ∧
    (let n : Fin 14 := 10
     let s : State := State.reset
     (n = 10 ∨ s.tb.noSource = true)) ∧
    (let n : Fin 14 := 6
     let s : State := State.reset.updTb fun t => { t with noSource := true }
     (n = 10 ∨ s.tb.noSource = true)) :=
  by decide +kernel

/-- Witnesses for Obligations.TimebasesLockAndLose, the clauses of TimebaseLocks. -/
theorem wit_TimebaseLocks_2 :
    (let s : State := wSet [(F.SYS_STRAP_HEAD, 0)]
     (s.tb.noSource = false) ∧ (isHead s = false)) ∧
    (let s : State := wSet [(F.SYS_STRAP_HEAD, 1), (F.CHN_ADDR_HEAD, 1)]
     (s.tb.noSource = false) ∧ (isHead s = true)) ∧
    (let s : State := wSet [(F.SYS_STRAP_HEAD, 1), (F.CHN_ADDR_HEAD, 1)]
     (s.tb.noSource = false) ∧ (isHead s = true) ∧ (s.on F.CHN_TSTAT_DISC = false) ∧ (s.on F.TB_REFSTAT_CHAINOK = false)) :=
  by decide +kernel

/-- Witnesses for Obligations.TimebasesLockAndLose, the clauses of TimebaseLocks. -/
theorem wit_TimebaseLocks_3 :
    (let s : State := wSet [(F.TB_DLSTAT_SPAREOK, 0x1F)]
     (s.tb.noSource = false) ∧ (s.get F.TB_DLSTAT_SPAREOK = 0x1F) ∧ (s.get F.TB_DLSTAT_FINE = 0) ∧ (s.tb.backWait = false)) :=
  by decide +kernel

/-- Witnesses for Obligations.TimebasesLockAndLose, the clauses of TimebaseLosesLock. -/
theorem wit_TimebaseLosesLock_1 :
    (let n : Fin 14 := 10
     let s : State := wLock
     (n = 10 ∨ s.bit F.TB_LOCK n = false)) ∧
    (let n : Fin 14 := 13
     let s : State := State.reset
     (n = 10 ∨ s.bit F.TB_LOCK n = false)) ∧
    (let n : Fin 14 := 0
     let s : State := wLock
     (s.bit F.TB_LOCK n = true) ∧ (n ≠ 10) ∧ (n ∉ ([1, 2, 6, 9, 12, 13] : List (Fin 14)))) :=
  by decide +kernel

/-- Witnesses for Obligations.TimebasesLockAndLose, the clauses of TimebaseLosesLock. -/
theorem wit_TimebaseLosesLock_2 :
    (let n : Fin 14 := 1
     let s : State := wLock
     (s.bit F.TB_LOCK n = true) ∧ (n ≠ 10) ∧ (n = 1)) ∧
    (let n : Fin 14 := 2
     let s : State := wLock
     (s.bit F.TB_LOCK n = true) ∧ (n ≠ 10) ∧ (n = 2)) ∧
    (let n : Fin 14 := 6
     let s : State := wLock
     (s.bit F.TB_LOCK n = true) ∧ (n ≠ 10) ∧ (n = 6)) :=
  by decide +kernel

/-- Witnesses for Obligations.TimebasesLockAndLose, the clauses of TimebaseLosesLock. -/
theorem wit_TimebaseLosesLock_3 :
    (let n : Fin 14 := 6
     let s : State := wSet [(F.CHN_TSTAT_DISC, 1)] wLock
     (s.bit F.TB_LOCK n = true) ∧ (n ≠ 10) ∧ (n = 6) ∧ (s.on F.TB_REFSTAT_CHAINOK = false) ∧ (s.on F.CHN_TSTAT_DISC = true)) ∧
    (let n : Fin 14 := 9
     let s : State := wLock
     (s.bit F.TB_LOCK n = true) ∧ (n ≠ 10) ∧ (n = 9)) ∧
    (let n : Fin 14 := 12
     let s : State := wLock
     (s.bit F.TB_LOCK n = true) ∧ (n ≠ 10) ∧ (n = 12)) :=
  by decide +kernel

/-- Witnesses for Obligations.TimebasesLockAndLose, the clauses of TimebaseLosesLock. -/
theorem wit_TimebaseLosesLock_4 :
    (let n : Fin 14 := 13
     let s : State := wLock
     (s.bit F.TB_LOCK n = true) ∧ (n ≠ 10) ∧ (n = 13)) ∧
    (let s : State := wSet [(F.TB_DLSTAT_FINE, 0x11)]
     (s.get F.TB_DLSTAT_FINE ≠ 0)) :=
  by decide +kernel

/-- Witnesses for Obligations.PrimaryIsLost, the clauses of LostPrimaryNotDriving. -/
theorem wit_LostPrimaryNotDriving_1 :
    (let s : State := wSet [(F.TB_REFCTL_REFSEL, 3)]
     (chainUnseen s = true)) ∧
    (let alive : Bool := false
     let gross : Bool := false
     let s : State := wRef 2
     (primary s ≠ 2) ∧ (primaryDrives s = false) ∧ (chainUnseen s = false) ∧ (alive = false) ∧ (gross = false) ∧
     (s.get F.TB_REFSTAT_BAND ≠ 2)) ∧
    (let alive : Bool := false
     let gross : Bool := false
     let s : State := wSet [(F.TB_REFSTAT_BAND, 2)] (wRef 2)
     (primary s ≠ 2) ∧ (primaryDrives s = false) ∧ (chainUnseen s = false) ∧ (alive = false) ∧ (gross = false) ∧
     (s.get F.TB_REFSTAT_BAND = 2)) :=
  by decide +kernel

/-- Witnesses for Obligations.PrimaryIsLost, the clauses of LostPrimaryNotDriving. -/
theorem wit_LostPrimaryNotDriving_2 :
    (let alive : Bool := true
     let gross : Bool := true
     let s : State := wRef 2
     (primary s ≠ 2) ∧ (primaryDrives s = false) ∧ (chainUnseen s = false) ∧ (alive = true) ∧ (gross = true) ∧
     (s.tb.rcAlive = true) ∧ (s.tb.primAlive = true) ∧ (s.get F.TB_REFSTAT_BAND ≠ 2)) ∧
    (let alive : Bool := true
     let gross : Bool := true
     let s : State := wSet [(F.TB_REFSTAT_BAND, 2)] (wRef 2)
     (primary s ≠ 2) ∧ (primaryDrives s = false) ∧ (chainUnseen s = false) ∧ (alive = true) ∧ (gross = true) ∧
     (s.tb.rcAlive = true) ∧ (s.tb.primAlive = true) ∧ (s.get F.TB_REFSTAT_BAND = 2)) :=
  by decide +kernel

/-- Witnesses for Obligations.PrimaryIsLost, the clauses of SwitchoverToRc. -/
theorem wit_SwitchoverToRc :
    (let s : State := wRef 0
     (primary s ≠ 2) ∧ (primary s ≠ 3) ∧ (primaryDrives s = true) ∧ (s.on F.TB_REFSTAT_CHAINOK = false) ∧ (s.tb.rcAlive = true)) ∧
    (let s : State := wSet [(F.TB_REFSTAT_CHAINOK, 1)] (wRef 0)
     (primary s ≠ 2) ∧ (primary s ≠ 3) ∧ (primaryDrives s = true) ∧ (s.on F.TB_REFSTAT_CHAINOK = true)) ∧
    (let s : State := (wRef 0).updTb fun t => { t with rcAlive := false }
     (primary s ≠ 2) ∧ (primary s ≠ 3) ∧ (primaryDrives s = true) ∧ (s.on F.TB_REFSTAT_CHAINOK = false) ∧ (s.tb.rcAlive = false)) :=
  by decide +kernel

/-- Witnesses for Obligations.ReferenceFollows, the clauses of SourcesComeAndGo. -/
theorem wit_SourcesComeAndGo_1 :
    (let s : State := (wRef 2).updTb fun t => { t with primAlive := false }
     (s.tb.primAlive = false) ∧ (primary s ≠ 2) ∧ (s.tb.noSource = false)) ∧
    (let s : State := (wRef 0).updTb fun t => { t with primAlive := false, noSource := true }
     (s.tb.primAlive = false) ∧ (primary s ≠ 2) ∧ (s.tb.noSource = true) ∧ (s.get F.TB_REFSTAT_CURSRC = primary s)) ∧
    (let s : State := wRef 0
     (s.tb.primAlive = true) ∧ (primary s ≠ 2)) :=
  by decide +kernel

/-- Witnesses for Obligations.ReferenceFollows, the clauses of SourcesComeAndGo. -/
theorem wit_SourcesComeAndGo_2 :
    (let s : State := wSet [(F.TB_REFSTAT_HOLD, 1), (F.TB_LOCK, 0)]
     (s.on F.TB_REFSTAT_HOLD = true) ∧ (s.tb.noSource = false) ∧ (s.bit F.TB_LOCK 13 = false)) ∧
    (let s : State := wSet [(F.TB_REFSTAT_HOLD, 1)] wLock
     (s.on F.TB_REFSTAT_HOLD = true) ∧ (s.tb.noSource = false) ∧ (s.bit F.TB_LOCK 13 = true)) ∧
    (let s : State := State.reset
     (s.on F.TB_REFSTAT_HOLD = false ∨ s.tb.noSource = true)) :=
  by decide +kernel

/-- Witnesses for Obligations.ReferenceFollows, the clauses of SourcesComeAndGo. -/
theorem wit_SourcesComeAndGo_3 :
    (let s : State := wRef 0
     (primary s ≠ 2) ∧ (s.get F.TB_REFSTAT_CURSRC ≠ 2)) ∧
    (let s : State := wRef 2
     (primary s ≠ 2) ∧ (s.get F.TB_REFSTAT_CURSRC = 2) ∧ (s.on F.TB_REFSTAT_CHAINOK = false)) ∧
    (let s : State := (wRef 2).updTb fun t => { t with rcAlive := false, noSource := true }
     (primary s ≠ 2) ∧ (s.get F.TB_REFSTAT_CURSRC = 2) ∧ (s.tb.rcAlive = false) ∧ (s.tb.noSource = true)) :=
  by decide +kernel

/-- Witnesses for Obligations.ReferenceFollows, the clauses of SourcesComeAndGo. -/
theorem wit_SourcesComeAndGo_4 :
    (let s : State := (wRef 2).updTb fun t => { t with rcAlive := false }
     (primary s ≠ 2) ∧ (s.tb.rcAlive = false) ∧ (s.tb.noSource = false)) ∧
    (let s : State := wRef 2
     (primary s ≠ 2) ∧ (s.tb.rcAlive = true)) ∧
    (let s : State := wNoSrc
     (s.tb.noSource = true)) :=
  by decide +kernel

/-- Witnesses for Obligations.ReferenceFollows, the clauses of SourcesComeAndGo. -/
theorem wit_SourcesComeAndGo_5 :
    (let s : State := State.reset
     (s.tb.noSource = false)) :=
  by decide +kernel

/-- Witnesses for Obligations.ReferenceFollows, the clauses of FilteredErrorRecomputed. -/
theorem wit_FilteredErrorRecomputed_1 :
    (let s : State := (wRef 2).updTb fun t => { t with primAlive := false }
     (s.tb.primAlive = false)) ∧
    (let s : State := wSet [(F.TB_REFSTAT_BAND, 3)] (wRef 0)
     (s.tb.primAlive = true) ∧ (primary s ≠ 2) ∧ (primary s ≠ 3) ∧ (s.tb.rcAlive = true) ∧ (s.get F.TB_REFSTAT_BAND = 3) ∧
     (s.tb.filter.length < 99) ∧ (s.on F.TB_REFSTAT_CHAINOK = false)) ∧
    (let ratio : Nat := 0x1000000
     let err : Int := 0
     let s : State := wSet [(F.TB_REFSTAT_CHAINOK, 1)] (wRef 0)
     let u := putReferr (s.begin.updTb fun t => { t with filter := t.filter ++ [{ ratio := ratio, fine := some err }], gross := false })
     (s.tb.primAlive = true) ∧ (primary s ≠ 2) ∧ (primary s ≠ 3) ∧ (s.on F.TB_REFSTAT_CHAINOK = true) ∧
     (s.get F.TB_REFSTAT_BAND = 0) ∧ (s.tb.gross = false) ∧ (primaryDrives s = true) ∧ (s.tb.rcAlive = true) ∧
     (s.tb.filter.length < 100) ∧ (bandOf u = 0)) :=
  by decide +kernel

/-- Witnesses for Obligations.ReferenceFollows, the clauses of FilteredErrorRecomputed. -/
theorem wit_FilteredErrorRecomputed_2 :
    (let ratio : Nat := 0x1000100
     let s : State := wSet [(F.TB_RCRATIO, 0x1000000)] (wRef 0)
     let u := putReferr (s.begin.updTb fun t => { t with filter := t.filter ++ [{ ratio := ratio, fine := none }], gross := false })
     (s.tb.primAlive = true) ∧ (primary s ≠ 2) ∧ (primary s ≠ 3) ∧ (s.on F.TB_REFSTAT_CHAINOK = false) ∧
     (s.get F.TB_REFSTAT_BAND = 0) ∧ (s.tb.gross = false) ∧ (primaryDrives s = true) ∧ (s.tb.rcAlive = true) ∧
     (s.tb.filter.length < 100) ∧ (bandOf u = 0)) ∧
    (let ratio : Nat := 0x1010000
     let s : State := wSet [(F.TB_RCRATIO, 0x1000000)] (wRef 0)
     let u := putReferr (s.begin.updTb fun t => { t with filter := t.filter ++ [{ ratio := ratio, fine := none }], gross := false })
     (s.tb.primAlive = true) ∧ (primary s ≠ 2) ∧ (primary s ≠ 3) ∧ (s.on F.TB_REFSTAT_CHAINOK = false) ∧
     (s.get F.TB_REFSTAT_BAND = 0) ∧ (s.tb.gross = false) ∧ (primaryDrives s = true) ∧ (s.tb.rcAlive = true) ∧
     (s.tb.filter.length < 100) ∧ (bandOf u = 1)) ∧
    (let ratio : Nat := 0x1080000
     let s : State := wSet [(F.TB_RCRATIO, 0x1000000)] (wRef 0)
     let u := putReferr (s.begin.updTb fun t => { t with filter := t.filter ++ [{ ratio := ratio, fine := none }], gross := false })
     (s.tb.primAlive = true) ∧ (primary s ≠ 2) ∧ (primary s ≠ 3) ∧ (s.on F.TB_REFSTAT_CHAINOK = false) ∧
     (s.get F.TB_REFSTAT_BAND = 0) ∧ (s.tb.gross = false) ∧ (primaryDrives s = true) ∧ (s.tb.rcAlive = true) ∧
     (s.tb.filter.length < 100) ∧ (bandOf u = 2)) :=
  by decide +kernel

/-- Witnesses for Obligations.ReferenceFollows, the clauses of PrimaryReturns. -/
theorem wit_PrimaryReturns_1 :
    (let s : State := State.reset.updTb fun t => { t with trimOff := true }
     (s.tb.trimOff = true)) ∧
    (let s : State := State.reset
     (s.tb.trimOff = false)) ∧
    (let s : State := wRet 640
     (s.on F.TB_REFSTAT_RETWAIT = true) ∧ (s.on F.TB_REFCTL_AUTORET = true) ∧ (10 * s.get F.TB_BANDS_RETDLY ≤ s.tb.retMs)) :=
  by decide +kernel

/-- Witnesses for Obligations.ReferenceFollows, the clauses of PrimaryReturns. -/
theorem wit_PrimaryReturns_2 :
    (let s : State := wRet 639
     (s.on F.TB_REFSTAT_RETWAIT = true) ∧ (s.on F.TB_REFCTL_AUTORET = true) ∧ (s.tb.retMs < 10 * s.get F.TB_BANDS_RETDLY)) ∧
    (let s : State := (wRef 2).updTb fun t => { t with retReady := true }
     (s.tb.retReady = true) ∧ (s.tb.retZero = true ∨ syncRunning s = false)) ∧
    (let s : State := State.reset
     (s.tb.retReady = false)) :=
  by decide +kernel

/-- Witnesses for Obligations.DelayLinesAndTime, the clauses of DelayLines. -/
theorem wit_DelayLines_1 :
    (let s : State := State.reset
     (s.bit F.TB_LOCK 13 = false)) ∧
    (let g : Fin 5 := 4
     let s : State := wLock
     (s.bit F.TB_LOCK 13 = true) ∧ (s.bit F.TB_DLSTAT_SPAREOK g = true) ∧ ((s.tb.cal.get g).spareReady = false)) ∧
    (let g : Fin 5 := 0
     let s : State := wCalEdge
     let old : CalPoint := {}
     let rest : List CalPoint := List.replicate 31 {}
     (s.bit F.TB_LOCK 13 = true) ∧ ((s.tb.cal.get g).lines = old :: rest) ∧ ((s.tb.cal.get g).spareReady = true) ∧
     (lineBusy g (s.tb.cal.get g).pos s = true)) :=
  by decide +kernel

/-- Witnesses for Obligations.DelayLinesAndTime, the clauses of DelayLines. -/
theorem wit_DelayLines_2 :
    (let g : Fin 5 := 4
     let s : State := wCal 2 2
     let old : CalPoint := {}
     let rest : List CalPoint := [{}]
     (s.bit F.TB_LOCK 13 = true) ∧ ((s.tb.cal.get g).lines = old :: rest) ∧ ((s.tb.cal.get g).spareReady = true) ∧
     (lineBusy g (s.tb.cal.get g).pos s = false) ∧ ((s.tb.cal.get g).rotLeft ≠ 1)) ∧
    (let g : Fin 5 := 0
     let s : State := wCal 1 1
     let old : CalPoint := {}
     let rest : List CalPoint := []
     (s.bit F.TB_LOCK 13 = true) ∧ ((s.tb.cal.get g).lines = old :: rest) ∧ ((s.tb.cal.get g).spareReady = true) ∧
     (lineBusy g (s.tb.cal.get g).pos s = false) ∧ ((s.tb.cal.get g).rotLeft = 1) ∧ (s.tb.backWait = false)) :=
  by decide +kernel

/-- Witnesses for Obligations.DelayLinesAndTime, the clauses of TimeloReadLatches. -/
theorem wit_TimeloReadLatches :
    (let cid : Cid := 1#6
     let s : State := State.reset.updTb fun t => { t with time := 0x123456789 }
     (Admits cid false R.TB_TIMELO.addr s)) :=
  by decide +kernel

end Sys2Proof.Tests.T01

namespace Sys2Proof.Tests.T02
set_option Elab.async false
open Sys2Proof Sys2Proof.Machine Sys2Proof.Tests

def wFuse (n : BitVec 4) : State := { wSet [(F.LCS_STATE_STATE, 0)] with lcs := { fuses := { lcs := n, lcsAck := n } } }
def wBad : BootIn := { fusesAgree := false }
def wMarch : BootIn := { march := some (15, 0, 8191, 5, 1#39) }
def wWait (n : Nat) (s : State := State.reset) : State := s.updBoot fun b => { b with wait := some 0, waitTo := n }
def wConf (n : Nat) : State := wSet [(F.SYS_VERS_IMGROLL, n)]
def wQ (w : FuseFor) (l : List FuseBit) : State := State.reset.updLcs fun x => { x with queue := [⟨w, l⟩] }
def wSrc : State := wRelay (fun r => { r with asked := 1, srcOk := true }) (wSet [(F.SYS_BOOTSTAT_STATE, 8), (F.SYS_STRAP_BOOTSRC, 1)])
def wNow (n : Nat) (s : State := State.reset) : State := { s with now := n }
def wTo (n : Nat) : State := wNow n (wRelay (fun r => { r with firstAt := some 7 }) (wSet [(F.SYS_BOOTSTAT_STATE, 4)]))
def wLimp (n : Nat) : State := wNow n (wSet [(F.SYS_BOOTSTAT_STATE, 9), (F.SYS_STRAP_BOOTSRC, 0)])
def wImg : Img := fun i => ([0x43, 0x52, 0x4C, 0x59, 0, 1, 0, 0, 0, 1, 1, 0, 0, 3] : List Byte).getD i 0#8
def wKeys : Fuses := { keyProg := 8#4, keyHash := #v[0#256, 0#256, 0#256, BitVec.ofNat 256 (ofLeBytes (sha256 (List.replicate 64 0#8)))] }

/-- Witnesses for Obligations.Resets, the clauses of ResetKeepsAndClears. -/
theorem wit_ResetKeepsAndClears :
    (let k : Nat := 0
     (k ≤ 4)) ∧
    (let k : Nat := 4
     (k ≤ 4)) :=
  by decide +kernel

/-- Witnesses for Obligations.Resets, the clauses of ResetCommands. -/
theorem wit_ResetCommands_1 :
    (let ns : Nat := 1000
     (1000 ≤ ns)) ∧
    (let ns : Nat := 99
     (ns < 100)) ∧
    (let s : State := State.reset.updLcs fun l => { l with wdrDue := some 0 }
     (s.lcs.wdrDue = some 0)) :=
  by decide +kernel

/-- Witnesses for Obligations.Resets, the clauses of ResetCommands. -/
theorem wit_ResetCommands_2 :
    (let s : State := State.reset
     (s.lcs.wdrDue ≠ some 0)) ∧
    (let v : Word := 0xA55A#32
     let s : State := State.reset
     (Admits 1 true R.SYS_SOFTRST.addr s) ∧ (v.toNat % 2 ^ 16 = 0xA55A)) ∧
    (let cid : Cid := 1#6
     let v : Word := 0#32
     let s : State := State.reset
     (Admits cid true R.SYS_SOFTRST.addr s) ∧ (cid ≠ 1 ∨ v.toNat % 2 ^ 16 ≠ 0xA55A)) :=
  by decide +kernel

/-- Witnesses for Obligations.Resets, the clauses of ResetCommands. -/
theorem wit_ResetCommands_3 :
    (let cid : Cid := 0#6
     let v : Word := 0xA55A#32
     let s : State := State.reset
     (Admits cid true R.SYS_SOFTRST.addr s) ∧ (cid ≠ 1 ∨ v.toNat % 2 ^ 16 ≠ 0xA55A)) :=
  by decide +kernel

/-- Witnesses for Obligations.BootRuns, the clauses of BootSequenceRuns. -/
theorem wit_BootSequenceRuns_1 :
    (let s : State := wSet [(F.SYS_BOOTSTAT_STATE, 8)]
     (s.get F.SYS_BOOTSTAT_STATE ≠ 0 ∨ s.boot.wait.isSome = true)) ∧
    (let b : BootIn := wBad
     let s : State := wFuse 1#4
     (s.get F.SYS_BOOTSTAT_STATE = 0) ∧ (s.boot.wait = none) ∧ (b.fusesAgree = false)) ∧
    (let b : BootIn := {}
     let s : State := wFuse 0#4
     let u := bootStart b s.begin
     let v := if u.lcs.fuses.lcs = u.lcs.fuses.lcsAck ∧ u.lcs.fuses.tset = u.lcs.fuses.tack ∧ lifeState u ≠ 3 ∧ lifeState u ≠ 4 then u else fuseRegs (wipeAck (wipeFinish true u))
     let t := forEach 14 gainLock (startupMarch b.march v).2
     (s.get F.SYS_BOOTSTAT_STATE = 0) ∧ (s.boot.wait = none) ∧ (b.fusesAgree = true) ∧ (b.wipeOk = true) ∧
     (lifeState t = 0 ∨ lifeState t = 4)) :=
  by decide +kernel

/-- Witnesses for Obligations.BootRuns, the clauses of BootSequenceRuns. -/
theorem wit_BootSequenceRuns_2 :
    (let b : BootIn := wMarch
     let s : State := wFuse 1#4
     let u := bootStart b s.begin
     let v := if u.lcs.fuses.lcs = u.lcs.fuses.lcsAck ∧ u.lcs.fuses.tset = u.lcs.fuses.tack ∧ lifeState u ≠ 3 ∧ lifeState u ≠ 4 then u else fuseRegs (wipeAck (wipeFinish true u))
     let t := forEach 14 gainLock (startupMarch b.march v).2
     (s.get F.SYS_BOOTSTAT_STATE = 0) ∧ (s.boot.wait = none) ∧ (b.fusesAgree = true) ∧ (b.wipeOk = true) ∧ (1 ≤ lifeState t) ∧
     (lifeState t ≤ 3) ∧ ((startupMarch b.march v).1 = false)) ∧
    (let b : BootIn := {}
     let s : State := wFuse 1#4
     let u := bootStart b s.begin
     let v := if u.lcs.fuses.lcs = u.lcs.fuses.lcsAck ∧ u.lcs.fuses.tset = u.lcs.fuses.tack ∧ lifeState u ≠ 3 ∧ lifeState u ≠ 4 then u else fuseRegs (wipeAck (wipeFinish true u))
     let t := forEach 14 gainLock (startupMarch b.march v).2
     (s.get F.SYS_BOOTSTAT_STATE = 0) ∧ (s.boot.wait = none) ∧ (b.fusesAgree = true) ∧ (b.wipeOk = true) ∧ (1 ≤ lifeState t) ∧
     (lifeState t ≤ 3) ∧ ((startupMarch b.march v).1 = true)) ∧
    (let b : BootIn := { wipeOk := false }
     let s : State := wFuse 7#4
     let u := bootStart b s.begin
     (s.get F.SYS_BOOTSTAT_STATE = 0) ∧ (s.boot.wait = none) ∧ (b.fusesAgree = true) ∧ (b.wipeOk = false) ∧ (lifeState u = 3)) :=
  by decide +kernel

/-- Witnesses for Obligations.BootRuns, the clauses of BootSequenceRuns. -/
theorem wit_BootSequenceRuns_3 :
    (let s : State := State.reset
     (s.get F.SYS_RSTCAUSE_LAST < 4)) ∧
    (let s : State := wSet [(F.SYS_STRAP_BOOTSRC, 1)]
     (s.on F.SYS_STRAP_BOOTSRC = true)) ∧
    (let s : State := wSet [(F.SYS_STRAP_BOOTSRC, 0)]
     (s.on F.SYS_STRAP_BOOTSRC = false)) :=
  by decide +kernel

/-- Witnesses for Obligations.BootRuns, the clauses of SlotsAreTried. -/
theorem wit_SlotsAreTried :
    (let k : Nat := 0
     let s : State := wWait 0
     (s.boot.wait = some k) ∧ (s.boot.waitTo ≤ s.now)) ∧
    (let s : State := wWait 20000000
     (s.boot.wait = none ∨ s.now < s.boot.waitTo)) ∧
    (let s : State := wWait 0
     (s.boot.wait = some 0) ∧ (s.boot.rest = []) ∧ (s.boot.waitTo ≤ s.now) ∧ (noFlash s = true)) :=
  by decide +kernel

/-- Witnesses for Obligations.FusesBlowInOrder. -/
theorem wit_FusesBlowInOrder_1 :
    (let v : Word := 2#32
     let s : State := wConf 63
     let u := s.begin.codeWritten R.SYS_BOOTCTL.addr v
     (Admits 1 true R.SYS_BOOTCTL.addr s) ∧ (natBit v.toNat 1 = true) ∧ (u.on F.SYS_BOOTCTL_FUSEBUSY = false) ∧
     (ones s.lcs.fuses.rollback < u.get F.SYS_VERS_IMGROLL)) ∧
    (let who : FuseFor := .tamper
     let b : FuseBit := .tset 0
     let c : FuseBit := .tset 1
     let bs : List FuseBit := []
     let rest : List FuseReq := []
     let s : State := wQ .tamper [.tset 0, .tset 1]
     (s.lcs.queue = ⟨who, b :: c :: bs⟩ :: rest)) ∧
    (let b : FuseBit := .rollback 62
     let rest : List FuseReq := []
     let s : State := wQ .rollback [.rollback 62]
     (s.lcs.queue = ⟨.rollback, [b]⟩ :: rest)) :=
  by decide +kernel

/-- Witnesses for Obligations.FusesBlowInOrder. -/
theorem wit_FusesBlowInOrder_2 :
    (let b : FuseBit := .rollback 0
     let bs : List FuseBit := []
     let rest : List FuseReq := []
     let s : State := wQ .rollback [.rollback 0]
     (s.lcs.queue = ⟨.rollback, b :: bs⟩ :: rest)) :=
  by decide +kernel

/-- Witnesses for Obligations.RelayRoundsAndFrames, the clauses of RelayRounds. -/
theorem wit_RelayRounds_1 :
    (let s : State := wSrc
     (s.chn.relay.asked ≠ 0) ∧ (s.chn.relay.sending = none) ∧ (s.on F.CHN_MAINT_OPEN = false) ∧ (s.get F.SYS_BOOTSTAT_STATE = 8) ∧
     (s.chn.relay.srcOk = true) ∧ (s.on F.SYS_STRAP_BOOTSRC = true)) ∧
    (let s : State := wSet [(F.CHN_MAINT_OPEN, 1)] wSrc
     (s.chn.relay.asked = 0 ∨ s.chn.relay.sending.isSome = true ∨ s.on F.CHN_MAINT_OPEN = true ∨ s.get F.SYS_BOOTSTAT_STATE ≠ 8 ∨ s.chn.relay.srcOk = false ∨ s.on F.SYS_STRAP_BOOTSRC = false)) ∧
    (let s : State := wNow 1000000 (wRelay fun r => { r with joined := some 1 })
     (s.chn.relay.joined.isSome = true) ∧ (s.chn.relay.frameAt + 1000000 ≤ s.now)) :=
  by decide +kernel

/-- Witnesses for Obligations.RelayRoundsAndFrames, the clauses of RelayRounds. -/
theorem wit_RelayRounds_2 :
    (let s : State := wNow 999999 (wRelay fun r => { r with joined := some 1 })
     (s.chn.relay.joined.isSome = true) ∧ (s.now < s.chn.relay.frameAt + 1000000)) ∧
    (let n : Nat := 7
     let s : State := wTo 5000000007
     (s.get F.SYS_BOOTSTAT_STATE = 4) ∧ (s.boot.wait = none) ∧ (s.chn.relay.firstAt = some n) ∧ (n + 5000000000 ≤ s.now)) ∧
    (let n : Nat := 7
     let s : State := wTo 5000000006
     (s.get F.SYS_BOOTSTAT_STATE = 4) ∧ (s.boot.wait = none) ∧ (s.chn.relay.firstAt = some n) ∧ (s.now < n + 5000000000)) :=
  by decide +kernel

/-- Witnesses for Obligations.RelayRoundsAndFrames, the clauses of RelayRounds. -/
theorem wit_RelayRounds_3 :
    (let s : State := wLimp 100000000
     (s.get F.SYS_BOOTSTAT_STATE = 9) ∧ (s.on F.SYS_STRAP_BOOTSRC = false) ∧ (s.chn.relay.joined = none) ∧
     (s.chn.relay.askAt + 100000000 ≤ s.now)) ∧
    (let s : State := wLimp 99999999
     (s.get F.SYS_BOOTSTAT_STATE = 9) ∧ (s.on F.SYS_STRAP_BOOTSRC = false) ∧ (s.chn.relay.joined = none) ∧
     (s.now < s.chn.relay.askAt + 100000000)) ∧
    (let s : State := State.reset
     (s.chn.relay.joined = none)) :=
  by decide +kernel

/-- Witnesses for Obligations.RelayRoundsAndFrames, the clauses of RelayRounds. -/
theorem wit_RelayRounds_4 :
    (let s : State := State.reset
     (s.get F.SYS_BOOTSTAT_STATE ≠ 4 ∨ s.boot.wait ≠ none ∨ s.chn.relay.firstAt = none)) ∧
    (let s : State := State.reset
     (s.get F.SYS_BOOTSTAT_STATE ≠ 9 ∨ s.on F.SYS_STRAP_BOOTSRC = true ∨ s.chn.relay.joined ≠ none)) :=
  by decide +kernel

/-- Witnesses for Obligations.BootRuns, the clauses of HeaderChecksInOrder. -/
theorem wit_HeaderChecksInOrder :
    (let m : Img := fun _ => 0#8
     (imgNum m 0 4 ≠ 0x594C5243)) ∧
    (let m : Img := fun i => wImg i + (if i = 5 then 1 else 0)
     (imgNum m 0 4 = 0x594C5243) ∧ (imgNum m 5 1 ≠ 1)) ∧
    (let m : Img := wImg
     let f : Fuses := wKeys
     (headerError m f = 0)) :=
  by decide +kernel

end Sys2Proof.Tests.T02

namespace Sys2Proof.Tests.T03
set_option Elab.async false
open Sys2Proof Sys2Proof.Machine Sys2Proof.Tests

def wRow (a : Nat) : RegRow := (regRow? a).getD { base := 0, dims := [], rst := 0, fields := [] }
def wRoute (q : Nat) (fs : List (Fld × Nat)) : State := wSet (fs ++ [(F.EVR_ROUTE_EN q, 1)])
def wY127 : State := setRoutePend 127 true (wRoute 127 [(F.EVR_ROUTE_TCLASS 127, 1), (F.EVR_ROUTE_SRC 127, 255), (F.EVR_ROUTE_PRI 127, 3)])
def wEvo : State := { wRoute 5 [(F.EVR_ROUTE_TCLASS 5, 6)] with evr := { evo := [5] } }
def wY126 : State := setRoutePend 126 true (wSet [(F.EVR_ROUTE_EN 126, 1), (F.EVR_ROUTE_TCLASS 126, 1), (F.EVR_ROUTE_PRI 126, 3)] wY127)
def wDma (n : Fin 8) (c : DmaCh) : State := (wSet [(F.DMA_CHnCTL_EN n, 1)]).setDma n c
def wTr : DmaCh := { desc := [0x40#32, 0, 0, 0x10001#32, 0, 0, 0, 0] }
def wTrL : State := wSet [(F.DMA_CHnSTAT_REMAIN 7, 3)] (wDma 7 wTr)
def wDesc : List Word := [0x40#32, 0x10000100#32, 0x10000200#32, 0x10002#32, 0x40004#32, 0, 0, 0]
def wPerm : List (Fld × Nat) := [(F.SYS_ACCRHI_MASK 1, 0xFFFFFFFF), (F.SYS_ACCWHI_MASK 1, 0xFFFFFFFF), (F.SYS_CIDEN_EN 1, 0xFFFFFFFF)]
def wDm : State := wMem 0x10000000 wDesc (wSet (wPerm ++ [(F.DMA_CHnCUR_ADDR 7, 0x10000000), (F.DMA_CHnSTAT_REMAIN 7, 2)]) (wDma 7 { fetching := true }))
def wDm1 : State := wSet [(F.DMA_CHnCUR_ADDR 7, 0x1000001C)] wDm
def wDm6 : State := wSet [(F.DMA_CHnCUR_ADDR 7, 0x10000000)] (wDma 7 { fetching := true })
def wDm7 : State := wMem 0x10000000 (List.replicate 8 0xFFFFFFFF#32) wDm
def wDm2 : State := (wSet (wPerm ++ [(F.DMA_CHnSTAT_REMAIN 7, 2)]) (wDma 7 { desc := wDesc, block := 1, src := 0x10000100#32, dst := 0x10000200#32 }))
def wDm3 : State := (fabric (.dmaRead 7) (dmaWho 7) false 0x10000100 (dmaSize 7 wDm2) 0 wDm2.begin).2
def wDm4 : State := wDm3.setDma 7 { wDm3.dma.get 7 with remote := false }
def wDm8 : State := wSet [(F.DMA_CHnSTAT_REMAIN 7, 1)] wDm2
def wDm9 : State := (fabric (.dmaRead 7) (dmaWho 7) false 0x10000100 (dmaSize 7 wDm8) 0 wDm8.begin).2
def wDmA : State := wDm9.setDma 7 { wDm9.dma.get 7 with remote := false }
def wDmB : State := wDm2.setDma 7 { desc := wDesc, block := 1, src := 0x10000100#32, dst := 0x90000100#32 }
def wDmC : State := (fabric (.dmaRead 7) (dmaWho 7) false 0x10000100 (dmaSize 7 wDmB) 0 wDmB.begin).2
def wDmD : State := wDmC.setDma 7 { wDmC.dma.get 7 with remote := false }
def wDm5 : State := (wSet (wPerm ++ [(F.DMA_CHnSTAT_REMAIN 7, 2)]) (wDma 7 { desc := wDesc, block := 1, src := 0x90000100#32, dst := 0x10000200#32 }))

/-- Witnesses for Obligations.RegisterWrites, the clauses of RegisterAccessCodes. -/
theorem wit_RegisterAccessCodes :
    (let cid : Cid := 1#6
     let addr : Word := 0x50001020#32
     let w : Word := 0x1FF#32
     let s : State := State.reset
     let row : RegRow := wRow 0x50001020
     (Admits cid true addr.toNat s) ∧ (cid ≠ 62) ∧ (0x50000000 ≤ addr.toNat) ∧ (addr.toNat < 0x50010000) ∧
     (regRow? addr.toNat = some row) ∧ (specialWrite row cid.toNat addr.toNat w 15 s.begin = none)) :=
  by decide +kernel

/-- Witnesses for Obligations.RegisterWrites, the clauses of RefusedAccessIsLogged. -/
theorem wit_RefusedAccessIsLogged :
    (let cid : Cid := 1#6
     let addr : Word := 0x50010000#32
     let s : State := wSet [(F.SYS_BERRHEAD_NEXT, 7), (F.SYS_BERRCNT_COUNT, 0xFFFF)]
     let c : Cause := .unmapped
     (cid ≠ 62) ∧ (accessCheck { cid := cid.toNat } true addr.toNat 4 s = .error c) ∧ (s.chn.done = [])) :=
  by decide +kernel

/-- Witnesses for Obligations.EventRouter, the clauses of RouterCommands. -/
theorem wit_RouterCommands_1 :
    (let cid : Cid := 1#6
     let q : Nat := 127
     let s : State := wY127
     (Admits cid false R.EVR_YCLAIM.addr s) ∧ (bestRoute 1 none s = some q) ∧ (q < 128)) ∧
    (let cid : Cid := 1#6
     let s : State := State.reset
     (Admits cid false R.EVR_YCLAIM.addr s) ∧ (bestRoute 1 none s = none)) ∧
    (let cid : Cid := 1#6
     let s : State := State.reset
     (Admits cid true R.EVR_SWRAISE.addr s)) :=
  by decide +kernel

/-- Witnesses for Obligations.EventRouter, the clauses of RouterCommands. -/
theorem wit_RouterCommands_2 :
    (let cid : Cid := 1#6
     let k : Fin 4 := 3
     let s : State := State.reset
     (Admits cid true (R.EVR_LOCK k.val).addr s)) ∧
    (let q : Fin 128 := 5
     let s : State := wEvo
     (s.evr.evo.contains q.val = true) ∧ (routeClass q.val s = 6)) :=
  by decide +kernel

/-- Witnesses for Obligations.EventRouter, the clauses of YarrowClaimsBestRoute. -/
theorem wit_YarrowClaimsBestRoute :
    (let q : Nat := 126
     let s : State := wY126
     let r := 127
     (bestRoute 1 none s = some q) ∧ (r < 128) ∧ (routePend r s = true) ∧ (routeClass r s = 1)) :=
  by decide +kernel

/-- Witnesses for Obligations.EventRouter, the clauses of EventPulseSetsPending. -/
theorem wit_EventPulseSetsPending :
    (let n : Nat := 255
     let s : State := wRoute 127 [(F.EVR_ROUTE_TCLASS 127, 1), (F.EVR_ROUTE_SRC 127, 255)]
     let q := 127
     (q < 128) ∧ (s.on (F.EVR_ROUTE_EN q) = true) ∧ (s.get (F.EVR_ROUTE_SRC q) = n) ∧ (routeClass q s ≠ 0) ∧
     (routeClass q s ≠ 4)) ∧
    (let s : State := wY127
     let q := 127
     (q < 128) ∧ (routePend q s = true)) :=
  by decide +kernel

/-- Witnesses for Obligations.DmaChannels, the clauses of DmaStartsAndStops. -/
theorem wit_DmaStartsAndStops :
    (let cid : Cid := 1#6
     let n : Fin 8 := 7
     let s : State := State.reset
     (Admits cid true (R.DMA_CHnCTL n.val).addr s) ∧ (cid.toNat ≤ 1 ∨ cid.toNat = s.get (F.DMA_CHnOWN_OWNER n.val)) ∧
     (s.on (F.DMA_CHnCTL_EN n.val) = false)) ∧
    (let cid : Cid := 1#6
     let n : Fin 8 := 7
     let v : Word := 2#32
     let s : State := wDma 7 {}
     (Admits cid true (R.DMA_CHnCTL n.val).addr s) ∧ (cid.toNat ≤ 1 ∨ cid.toNat = s.get (F.DMA_CHnOWN_OWNER n.val)) ∧
     (s.on (F.DMA_CHnCTL_EN n.val) = true) ∧ ((s.dma.get n).remote = false) ∧ (natBit v.toNat 1 = true)) ∧
    (let cid : Cid := 1#6
     let n : Fin 8 := 7
     let v : Word := 4#32
     let s : State := wDma 7 {}
     (Admits cid true (R.DMA_CHnCTL n.val).addr s) ∧ (cid.toNat ≤ 1 ∨ cid.toNat = s.get (F.DMA_CHnOWN_OWNER n.val)) ∧
     (s.on (F.DMA_CHnCTL_EN n.val) = true) ∧ (natBit v.toNat 1 = false) ∧ (natBit v.toNat 2 = true)) :=
  by decide +kernel

/-- Witnesses for Obligations.DmaChannels, the clauses of DmaTriggers. -/
theorem wit_DmaTriggers_1 :
    (let n : Fin 8 := 7
     let t : Trig := .sw
     let s : State := wTrL
     let c := s.dma.get n
     (s.on (F.DMA_CHnCTL_EN n.val) = true) ∧ (c.fetching = false) ∧ (trigMatches (c.desc.getD 0 0#32) t = true) ∧ (c.block = 0) ∧
     (s.get (F.DMA_CHnSTAT_REMAIN n.val) ≠ 0)) ∧
    (let n : Fin 8 := 7
     let t : Trig := .sw
     let s : State := wDma 7 wTr
     let c := s.dma.get n
     (s.on (F.DMA_CHnCTL_EN n.val) = true) ∧ (c.fetching = false) ∧ (trigMatches (c.desc.getD 0 0#32) t = true) ∧
     (c.block ≠ 0 ∨ s.get (F.DMA_CHnSTAT_REMAIN n.val) = 0) ∧ (c.queue.length < 15)) ∧
    (let n : Fin 8 := 7
     let t : Trig := .sw
     let s : State := wDma 7 { wTr with block := 1, queue := List.replicate 14 .sw }
     let c := s.dma.get n
     (s.on (F.DMA_CHnCTL_EN n.val) = true) ∧ (c.fetching = false) ∧ (trigMatches (c.desc.getD 0 0#32) t = true) ∧
     (c.block ≠ 0 ∨ s.get (F.DMA_CHnSTAT_REMAIN n.val) = 0) ∧ (c.queue.length < 15)) :=
  by decide +kernel

/-- Witnesses for Obligations.DmaChannels, the clauses of DmaTriggers. -/
theorem wit_DmaTriggers_2 :
    (let n : Fin 8 := 7
     let t : Trig := .sw
     let s : State := wDma 7 { wTr with block := 1, queue := List.replicate 15 .sw }
     let c := s.dma.get n
     (s.on (F.DMA_CHnCTL_EN n.val) = true) ∧ (c.fetching = false) ∧ (trigMatches (c.desc.getD 0 0#32) t = true) ∧
     (c.block ≠ 0 ∨ s.get (F.DMA_CHnSTAT_REMAIN n.val) = 0) ∧ (15 ≤ c.queue.length)) ∧
    (let n : Fin 8 := 7
     let s : State := wDma 7 { wTr with fetching := true }
     let c := s.dma.get n
     (s.on (F.DMA_CHnCTL_EN n.val) = true) ∧ (c.fetching = true)) ∧
    (let n : Fin 8 := 7
     let s : State := State.reset
     (s.on (F.DMA_CHnCTL_EN n.val) = false)) :=
  by decide +kernel

/-- Witnesses for Obligations.DmaChannels, the clauses of DmaTriggers. -/
theorem wit_DmaTriggers_3 :
    (let n : Fin 8 := 7
     let t : Trig := .route
     let s : State := wDma 7 { wTr with desc := [0#32] }
     let c := s.dma.get n
     (s.on (F.DMA_CHnCTL_EN n.val) = true) ∧ (c.fetching = false) ∧ (trigMatches (c.desc.getD 0 0#32) t = false)) :=
  by decide +kernel

/-- Witnesses for Obligations.DmaChannels, the clauses of DmaMovesElements. -/
theorem wit_DmaMovesElements_1 :
    (let n : Fin 8 := 7
     let s : State := wDm6
     let a := s.get (F.DMA_CHnCUR_ADDR n.val)
     let p : Nat := 0x10000000
     let t : State := (descRead 7 0x10000000 8 [] wDm6.begin).2
     (descRead n a 8 [] s.begin = (.error p, t)) ∧ ((s.dma.get n).fetching = true) ∧ (descPlace a = true)) ∧
    (let n : Fin 8 := 7
     let s : State := wDm7
     let a := s.get (F.DMA_CHnCUR_ADDR n.val)
     let ws : List Word := List.replicate 8 0xFFFFFFFF#32
     let t : State := (descRead 7 0x10000000 8 [] wDm7.begin).2
     (descRead n a 8 [] s.begin = (.ok ws, t)) ∧ ((s.dma.get n).fetching = true) ∧ (descPlace a = true) ∧ (descValid ws = false)) ∧
    (let n : Fin 8 := 7
     let s : State := wDm
     let a := s.get (F.DMA_CHnCUR_ADDR n.val)
     let ws : List Word := wDesc
     let t : State := (descRead 7 0x10000000 8 [] wDm.begin).2
     (descRead n a 8 [] s.begin = (.ok ws, t)) ∧ ((s.dma.get n).fetching = true) ∧ (descPlace a = true) ∧ (descValid ws = true)) :=
  ⟨⟨pair_of (by decide +kernel) rfl, by decide +kernel⟩,
   ⟨pair_of (ok_of (by decide +kernel)) rfl, by decide +kernel⟩,
   ⟨pair_of (ok_of (by decide +kernel)) rfl, by decide +kernel⟩⟩

/-- Witnesses for Obligations.DmaChannels, the clauses of DmaMovesElements. -/
theorem wit_DmaMovesElements_2 :
    (let n : Fin 8 := 7
     let d : DWord := 0
     let s : State := wDm2
     let t : State := wDm3
     let v := t.setDma n { t.dma.get n with remote := false }
     let e : DWord := 0
     let u : State := (fabric (.dmaWrite 7) (dmaWho 7) true 0x10000200 (dmaSize 7 wDm4) 0 wDm4).2
     let left := u.get (F.DMA_CHnSTAT_REMAIN n.val) - 1
     (fabric (.dmaRead n) (dmaWho n) false (s.dma.get n).src.toNat (dmaSize n s) 0 s.begin = (.ans (.ok d), t)) ∧
     (fabric (.dmaWrite n) (dmaWho n) true (t.dma.get n).dst.toNat (dmaSize n v) d.toNat v = (.ans (.ok e), u)) ∧
     (s.on (F.DMA_CHnCTL_EN n.val) = true) ∧ ((s.dma.get n).fetching = false) ∧ ((s.dma.get n).block ≠ 0) ∧
     ((s.dma.get n).remote = false) ∧ ((u.dma.get n).abort = false) ∧ (left ≠ 0)) ∧
    (let n : Fin 8 := 7
     let d : DWord := 0
     let s : State := wDm8
     let t : State := wDm9
     let v := t.setDma n { t.dma.get n with remote := false }
     let e : DWord := 0
     let u : State := (fabric (.dmaWrite 7) (dmaWho 7) true 0x10000200 (dmaSize 7 wDmA) 0 wDmA).2
     let left := u.get (F.DMA_CHnSTAT_REMAIN n.val) - 1
     (fabric (.dmaRead n) (dmaWho n) false (s.dma.get n).src.toNat (dmaSize n s) 0 s.begin = (.ans (.ok d), t)) ∧
     (fabric (.dmaWrite n) (dmaWho n) true (t.dma.get n).dst.toNat (dmaSize n v) d.toNat v = (.ans (.ok e), u)) ∧
     (s.on (F.DMA_CHnCTL_EN n.val) = true) ∧ ((s.dma.get n).fetching = false) ∧ ((s.dma.get n).block ≠ 0) ∧
     ((s.dma.get n).remote = false) ∧ ((u.dma.get n).abort = false) ∧ (left = 0)) ∧
    (let n : Fin 8 := 7
     let d : DWord := 0
     let s : State := wDmB
     let t : State := wDmC
     let v := t.setDma n { t.dma.get n with remote := false }
     let x : Cause := .unmapped
     let u : State := (fabric (.dmaWrite 7) (dmaWho 7) true 0x90000100 (dmaSize 7 wDmD) 0 wDmD).2
     (fabric (.dmaRead n) (dmaWho n) false (s.dma.get n).src.toNat (dmaSize n s) 0 s.begin = (.ans (.ok d), t)) ∧
     (fabric (.dmaWrite n) (dmaWho n) true (t.dma.get n).dst.toNat (dmaSize n v) d.toNat v = (.ans (.refused x), u)) ∧
     (s.on (F.DMA_CHnCTL_EN n.val) = true) ∧ ((s.dma.get n).fetching = false) ∧ ((s.dma.get n).block ≠ 0) ∧
     ((s.dma.get n).remote = false)) :=
  ⟨⟨pair_of (by decide +kernel) rfl, pair_of (by decide +kernel) rfl, by decide +kernel⟩,
   ⟨pair_of (by decide +kernel) rfl, pair_of (by decide +kernel) rfl, by decide +kernel⟩,
   ⟨pair_of (by decide +kernel) rfl, pair_of (by decide +kernel) rfl, by decide +kernel⟩⟩

/-- Witnesses for Obligations.DmaChannels, the clauses of DmaMovesElements. -/
theorem wit_DmaMovesElements_3 :
    (let n : Fin 8 := 7
     let x : Cause := .unmapped
     let s : State := wDm5
     let t : State := (fabric (.dmaRead 7) (dmaWho 7) false 0x90000100 (dmaSize 7 wDm5) 0 wDm5.begin).2
     (fabric (.dmaRead n) (dmaWho n) false (s.dma.get n).src.toNat (dmaSize n s) 0 s.begin = (.ans (.refused x), t)) ∧
     (s.on (F.DMA_CHnCTL_EN n.val) = true) ∧ ((s.dma.get n).fetching = false) ∧ ((s.dma.get n).block ≠ 0) ∧
     ((s.dma.get n).remote = false)) :=
  ⟨pair_of (by decide +kernel) rfl, by decide +kernel⟩

/-- Witnesses for Obligations.DmaChannels, the clauses of DmaMovesElements. -/
theorem wit_DmaMovesElements_4 :
    (let n : Fin 8 := 7
     let s : State := State.reset
     ((s.dma.get n).fetching = false)) ∧
    (let n : Fin 8 := 7
     let s : State := wDm1
     let a := s.get (F.DMA_CHnCUR_ADDR n.val)
     ((s.dma.get n).fetching = true) ∧ (descPlace a = false)) ∧
    (let n : Fin 8 := 7
     let s : State := wDm
     (s.on (F.DMA_CHnCTL_EN n.val) = false ∨ (s.dma.get n).fetching = true ∨ (s.dma.get n).block = 0 ∨ (s.dma.get n).remote = true)) :=
  by decide +kernel

/-- Witnesses for Obligations.DmaChannels, the clauses of DmaMovesElements. -/
theorem wit_DmaMovesElements_5 :
    (let n : Fin 8 := 7
     let s : State := wDma 7 { desc := List.replicate 8 0#32 }
     (fieldOf 14 1 (dmaWord n 0 s) = 0) ∧ (fieldOf 13 1 (dmaWord n 0 s) = 0) ∧ (dmaWord n 5 s = 0#32)) :=
  by decide +kernel

end Sys2Proof.Tests.T03

namespace Sys2Proof.Tests.T04
set_option Elab.async false
open Sys2Proof Sys2Proof.Machine Sys2Proof.Tests

def wAt : CAt := { k := 0, x := { d := (Vector.replicate 32 0x7FFFFFFF#32) }, pend := [], inDelay := false, atLe := false, repeated := false, start := 0, link := 0 }
def wCamp (g : Camp → Camp) (s : State := State.reset) : State := s.updCamp 0 g
def wB0 : State := wMem 0x30000000 [BitVec.ofNat 32 (12 * 2^28 + 2^22)] (wCamp fun x => { x with run := true })
def wB1 : State := noteLevels 0 wB0.begin
def wB3 : State := (fetchBundle 0 0 0 wB1).2
def wBo : COut := ((execAlu { k := 0, x := {}, pend := [], inDelay := false, atLe := false, repeated := false, start := 0, link := bundleAfter 0 6 (bundleAfter 0 6 1 wB3) wB3 % 16384 } (BitVec.ofNat 32 (12 * 2^28 + 2^22))).getD {})
def wLvl : State := (wCamp fun x => { x with run := true }).updSched 0 fun y => { y with lvlTrig := #v[false, true, false, false] }
def wBook (b : Booking) (g : Sched → Sched) : State := State.reset.updSched 1 fun y => g { y with booked := [b] }
def wBk : Booking := { grp := 0, lvl := 0, need := 1 }
def wBkL : Booking := { grp := 0, lvl := 3, need := 1 }

/-- Witnesses for Obligations.CampionArithmetic, the clauses of CampionAddSub. -/
theorem wit_CampionAddSub :
    (let w : Word := BitVec.ofNat 32 (2^22 + 2^21)
     (fieldOf 0 6 w = 0) ∧ ((fieldOf 22 6 w = 1 ∨ fieldOf 22 6 w = 2))) ∧
    (let w : Word := BitVec.ofNat 32 (2 * 2^22)
     (fieldOf 0 6 w = 0) ∧ ((fieldOf 22 6 w = 1 ∨ fieldOf 22 6 w = 2))) :=
  by decide +kernel

/-- Witnesses for Obligations.CampionArithmetic, the clauses of CampionComplexMac. -/
theorem wit_CampionComplexMac :
    (let w : Word := BitVec.ofNat 32 (1 * 2^23)
     (fieldOf 0 7 w = 0) ∧ (fieldOf 8 2 w = 0) ∧ (fieldOf 7 1 w = 0) ∧ (fieldOf 22 1 w = 0) ∧ (fieldOf 23 5 w = 1)) ∧
    (let w : Word := BitVec.ofNat 32 (2 * 2^23 + 3 * 2^20)
     (fieldOf 0 7 w = 0) ∧ (fieldOf 8 2 w = 0) ∧ (fieldOf 7 1 w = 0) ∧ (fieldOf 22 1 w = 0) ∧ (fieldOf 23 5 w = 2)) ∧
    (let w : Word := BitVec.ofNat 32 (3 * 2^23)
     (fieldOf 0 7 w = 0) ∧ (fieldOf 8 2 w = 0) ∧ (fieldOf 7 1 w = 0) ∧ (fieldOf 22 1 w = 0) ∧ (fieldOf 23 5 w = 3)) :=
  by decide +kernel

/-- Witnesses for Obligations.CampionArithmetic, the clauses of CampionAddressing. -/
theorem wit_CampionAddressing :
    (let w : Word := BitVec.ofNat 32 (2^24 + 2^12)
     (fieldOf 24 4 w = 1) ∧ (fieldOf 12 3 w = 1) ∧ (fieldOf 0 12 w = 0)) ∧
    (let len : Half := 1#16
     (1 ≤ len.toInt) ∧ (len.toInt ≤ 16384)) ∧
    (let len : Half := 16384#16
     (1 ≤ len.toInt) ∧ (len.toInt ≤ 16384)) :=
  by decide +kernel

/-- Witnesses for Obligations.CampionBundles, the clauses of BundleIssues. -/
theorem wit_BundleIssues_1 :
    (let c : Fin 2 := 0
     let s : State := wB0
     let x := s.camp.get c
     let k := x.ctx
     let g := x.regs.get k
     let t := noteLevels c s.begin
     let w : Word := BitVec.ofNat 32 (12 * 2^28 + 2^22)
     let o : COut := wBo
     let ws : List (CReg × Nat × Nat × Nat × Nat) := (resolve wBo.writes).1
     let u : State := wB3
     let at_ : CAt := { k := k.val, x := g, pend := x.pend, inDelay := false, atLe := false, repeated := false, start := g.pc.toNat, link := bundleAfter c 6 (bundleAfter c 6 ((g.pc.toNat + 1) % 16384) u) u % 16384 }
     (fetchBundle c k.val g.pc.toNat t = ([some w], u)) ∧ ((s.camp.get c).run = true) ∧ (levelReady c t = none) ∧
     (x.back = false) ∧ (x.delay = none) ∧ (x.rep = 0) ∧ (g.loops = []) ∧ (k ≠ 0 ∨ (s.sched.get c).inWait = false) ∧
     (fieldOf 28 3 w = 4) ∧ (execAlu at_ w = some o) ∧ (o.mems = []) ∧ (o.ctrl = none) ∧ (o.ill = false) ∧
     (resolve o.writes = (ws, false))) :=
  ⟨pair_of (by decide +kernel) rfl, by decide +kernel⟩

/-- Witnesses for Obligations.CampionBundles, the clauses of BundleIssues. -/
theorem wit_BundleIssues_2 :
    (let c : Fin 2 := 0
     let s : State := State.reset
     ((s.camp.get c).run = false)) ∧
    (let c : Fin 2 := 0
     let s : State := wLvl
     let x := s.camp.get c
     let t := noteLevels c s.begin
     ((s.camp.get c).run = true) ∧ (boundaryOpen x = true) ∧ ((levelReady c t).isSome = true)) ∧
    (let c : Fin 2 := 0
     let s : State := wCamp fun x => { x with run := true, back := true }
     let x := s.camp.get c
     let t := noteLevels c s.begin
     ((s.camp.get c).run = true) ∧ (levelReady c t = none) ∧ (x.back = true)) :=
  by decide +kernel

/-- Witnesses for Obligations.CampionBundles, the clauses of BundleIssues. -/
theorem wit_BundleIssues_3 :
    (let c : Fin 2 := 0
     let s : State := wB0.updSched 0 fun y => { y with inWait := true }
     let x := s.camp.get c
     let k := x.ctx
     let t := noteLevels c s.begin
     ((s.camp.get c).run = true) ∧ (levelReady c t = none) ∧ (x.back = false) ∧ (k = 0) ∧ ((s.sched.get c).inWait = true)) :=
  by decide +kernel

/-- Witnesses for Obligations.CampionLevelsAndLoops, the clauses of LevelStarts. -/
theorem wit_LevelStarts :
    (let c : Fin 2 := 0
     let s : State := State.reset
     ((s.camp.get c).run = false ∨ boundaryOpen (s.camp.get c) = false ∨ levelReady c s = none)) ∧
    (let c : Fin 2 := 0
     let k : Fin 4 := 1
     let s : State := wLvl
     ((s.camp.get c).run = true) ∧ (boundaryOpen (s.camp.get c) = true) ∧ (levelReady c s = some k.val)) :=
  by decide +kernel

/-- Witnesses for Obligations.CampionLevelsAndLoops, the clauses of LoopSchedulers. -/
theorem wit_LoopSchedulers_1 :
    (let c : Fin 2 := 1
     let s : State := State.reset
     ((s.sched.get c).booked = [])) ∧
    (let c : Fin 2 := 1
     let b : Booking := { wBk with due := 1 }
     let rest : List Booking := []
     let s : State := wBook { wBk with due := 1 } id
     let k := loopCount c s
     ((s.sched.get c).booked = b :: rest) ∧ (k < b.due)) ∧
    (let c : Fin 2 := 1
     let b : Booking := wBk
     let rest : List Booking := []
     let s : State := wBook wBk fun y => { y with pend := true }
     let x := s.sched.get c
     let k := loopCount c s
     ((s.sched.get c).booked = b :: rest) ∧ (b.due ≤ k) ∧ (b.lvl = 0) ∧ (x.pend = true)) :=
  by decide +kernel

/-- Witnesses for Obligations.CampionLevelsAndLoops, the clauses of LoopSchedulers. -/
theorem wit_LoopSchedulers_2 :
    (let c : Fin 2 := 1
     let b : Booking := wBk
     let rest : List Booking := []
     let s : State := wBook wBk id
     let x := s.sched.get c
     let k := loopCount c s
     ((s.sched.get c).booked = b :: rest) ∧ (b.due ≤ k) ∧ (b.lvl = 0) ∧ (x.pend = false) ∧ (x.inst = none) ∧ (b.loads < b.need) ∧
     (x.mute = false)) ∧
    (let c : Fin 2 := 1
     let b : Booking := wBk
     let rest : List Booking := []
     let s : State := wBook wBk fun y => { y with inst := some { grp := 0, need := 1, loads := 1, due := true, st := .missed } }
     let x := s.sched.get c
     let k := loopCount c s
     let j : Instance := { grp := 0, need := 1, loads := 1, due := true, st := .missed }
     ((s.sched.get c).booked = b :: rest) ∧ (b.due ≤ k) ∧ (b.lvl = 0) ∧ (x.pend = false) ∧ (x.inst = some j) ∧ (j.st = .missed) ∧
     (b.loads < b.need) ∧ (x.mute = false)) ∧
    (let c : Fin 2 := 1
     let b : Booking := wBkL
     let rest : List Booking := []
     let s : State := wBook wBkL id
     let x := s.sched.get c
     let k := loopCount c s
     let l : Fin 4 := 3
     ((s.sched.get c).booked = b :: rest) ∧ (b.due ≤ k) ∧ (l ≠ 0) ∧ (b.lvl = l.val) ∧ (x.lvlTrig.get l = false) ∧
     (x.inst = none) ∧ (b.loads < b.need) ∧ (x.mute = false)) :=
  by decide +kernel

/-- Witnesses for Obligations.CampionLevelsAndLoops, the clauses of LoopSchedulers. -/
theorem wit_LoopSchedulers_3 :
    (let c : Fin 2 := 1
     let g : Nat := 3
     let peak : Bool := true
     let s : State := State.reset.updSched 1 fun y => { y with ctl := 0x27 }
     (natBit (s.sched.get c).ctl 0 = true) ∧ ((s.sched.get c).ctl / 2 % 4 = g) ∧ (natBit (s.sched.get c).ctl 5 = peak) ∧
     ((s.sched.get c).ctl / 256 % 16 = 0) ∧ ((s.sched.get c).divCnt = 0)) :=
  by decide +kernel

/-- Witnesses for Obligations.CampionLevelsAndLoops, the clauses of CoreRestartsAndHolds. -/
theorem wit_CoreRestartsAndHolds_1 :
    (let c : Fin 2 := 1
     let v : Word := 0x5AC30004#32
     let s : State := State.reset
     (Admits 1 true (R.SYS_CPnCTL c.val).addr s) ∧ (fieldOf 2 1 v = 1) ∧ (fieldOf 16 16 v = 0x5AC3)) ∧
    (let c : Fin 2 := 1
     let v : Word := 0x5AC20004#32
     let s : State := State.reset
     (Admits 1 true (R.SYS_CPnCTL c.val).addr s) ∧ (fieldOf 2 1 v = 1) ∧ (fieldOf 16 16 v ≠ 0x5AC3)) ∧
    (let c : Fin 2 := 0
     let v : Word := 0#32
     let s : State := wCamp fun x => { x with held := true }
     (Admits 1 true (R.SYS_CPnCTL c.val).addr s) ∧ (fieldOf 0 1 v = 0) ∧ (fieldOf 2 1 v = 0) ∧ ((s.camp.get c).held = true)) :=
  by decide +kernel

/-- Witnesses for Obligations.CampionLevelsAndLoops, the clauses of CoreRestartsAndHolds. -/
theorem wit_CoreRestartsAndHolds_2 :
    (let c : Fin 2 := 0
     let v : Word := 0#32
     let s : State := State.reset
     (Admits 1 true (R.SYS_CPnCTL c.val).addr s) ∧ (fieldOf 0 1 v = 0) ∧ (fieldOf 2 1 v = 0) ∧ ((s.camp.get c).held = false)) ∧
    (let cid : Cid := 0#6
     let c : Fin 2 := 0
     let s : State := State.reset
     (Admits cid true (R.SYS_CPnCTL c.val).addr s) ∧ (cid ≠ 1) ∧ (cid ≠ 62)) :=
  by decide +kernel

end Sys2Proof.Tests.T04

namespace Sys2Proof.Tests.T05
set_option Elab.async false
open Sys2Proof Sys2Proof.Machine Sys2Proof.Tests

def wX (a b : Word) (y : Yar) : Yar := { y with x := (y.x.set! 1 a).set! 2 b }
def wAdd : State := wRun 0x002081B3#32 (wX 0xFFFFFFFF#32 1#32)
def wMul : State := wRun 0x022091B3#32 (wX 0x80000000#32 0x80000000#32)
def wDiv0 : State := wRun 0x0220C1B3#32 (wX 7#32 0#32)
def wDivO : State := wRun 0x0220C1B3#32 (wX 0x80000000#32 0xFFFFFFFF#32)
def wFx (a b : Word) (y : Yar) : Yar := { y with fs := 1#2, f := (y.f.set! 1 a).set! 2 b }
def wFadd : State := wRun 0x0020F1D3#32 (wFx 0x3F800000#32 0x33800000#32)
def wFmin : State := wRun 0x282081D3#32 (wFx 0x80000000#32 0#32)
def wFcvt : State := wRun 0xC000F1D3#32 (wFx 0x7FC00000#32 0#32)
def wFma : State := wRun 0x1020F1C3#32 (wFx 0x3F800000#32 0x3F800000#32)
def wLd (a : Word) : State := wMem 0x10000100 [0x80FF7F01#32] (wRun 0x00009183#32 (wX a 0#32))
def wSt : State := wRun 0x0020A023#32 (wX 0x10000100#32 5#32)
def wSb (a : Nat) : State := wYar fun y => { y with sb := [{ addr := a, size := 4, data := 9, cid := 1, ctm := false }] }
def wBeq : State := wRun 0xFE208EE3#32
def wJal : State := wRun 0x008000EF#32
def wFe : State := wRun 0x0FF0000F#32
def wFi : State := wRun 0x0000100F#32
def wEc : State := wRun 0x00000073#32
def wEb : State := wRun 0x00100073#32
def wIl : State := wRun 0xFFFFFFFF#32
def wWf : State := wRun 0x10500073#32
def wMr : State := wRun 0x30200073#32
def wTim : State := wYar fun y => { y with run := true, mie := true, ie := 0x80#32, ytcmp := 0#64, wfi := true }
def wCs (w : Word) : State := wRun w
def wBl (k a b n : Word) : State := wRun k fun y => { y with x := (((y.x.set! 10 a).set! 11 b).set! 12 n).set! 13 0xFFFFFFFF#32 }
def wBz : State := wBl 0x0000000B#32 0#32 0#32 0#32
def wBc : State := wBl 0x0000000B#32 0x10000100#32 0x10000200#32 16#32
def wBf : State := wBl 0x0000100B#32 0x10000101#32 0x44332211#32 16#32
def wBr : State := wBl 0x0000200B#32 0#32 0x10000200#32 16#32
def wDb (h : Bool) : State := wYar fun y => { y with run := true, dbg := { y.dbg with halted := h } }
def wDbm : State := wSet [(F.SYS_ACCRHI_MASK 1, 0xFFFFFFFF)]
def wUsr : State := wRun 0x34009173#32 (fun y => { y with mach := false, pmpcfg := y.pmpcfg.set! 0 0x1F#8, pmpaddr := y.pmpaddr.set! 0 0x3FFFFFFF#32 }) (wSet [(F.SYS_CIDEN_EN 0, 4), (F.SYS_ACCRLO_MASK 1, 6)])
def wY17 : State := setRoutePend 127 true (wSet [(F.EVR_ROUTE_EN 127, 1), (F.EVR_ROUTE_TCLASS 127, 1), (F.EVR_ROUTE_PRI 127, 3)] (wYar fun y => { y with run := true, mie := true, ie := 0x20000#32, serrValid := true }))
def wAui : State := wRun 0x12345197#32
def wNm : State := wRun 0x00000073#32
def wFo (w : Word) : State := wRun w
def wFr : State := wRun 0xC000D1D3#32 (wFx 0#32 0#32)
def wJr : State := wRun 0x004100E7#32 (wX 0#32 0x10000101#32)
def wFeS (w : Word) : State := wRun w (fun y => { y with sb := [{ addr := 0x10000100, size := 4, data := 9, cid := 1, ctm := false }], sbOut := true })
def wEbD : State := wRun 0x00100073#32 (fun y => { y with dbg := { y.dbg with dcsr := 0x8000#32 } })
def wU (w : Word) : State := wRun w (fun y => { y with mach := false, pmpcfg := y.pmpcfg.set! 0 0x1F#8, pmpaddr := y.pmpaddr.set! 0 0x3FFFFFFF#32 }) (wSet [(F.SYS_CIDEN_EN 0, 4), (F.SYS_ACCRLO_MASK 1, 6)])
def wWp : State := wRun 0x10500073#32 (fun y => { y with ie := 0x80#32, ytcmp := 0#64 })
def wStp : State := wRun 0x002081B3#32 (fun y => { wX 0xFFFFFFFF#32 1#32 y with dbg := { y.dbg with dcsr := 4#32 } })
def wTrg (act : Word) : State := wRun 0x002081B3#32 (fun y => { y with dbg := { y.dbg with tdata1 := y.dbg.tdata1.set! 0 (0x44#32 ||| act), tdata2 := y.dbg.tdata2.set! 0 0x10000000#32 } })
def wFl : State := wMem 0x10000100 [0x80FF7F01#32] (wRun 0x0000A187#32 (fun y => { wX 0x10000100#32 0#32 y with fs := 1#2 }))
def wSm : State := wRun 0x0020A023#32 (wX 0x10000102#32 5#32)
def wSr : State := wRun 0x0020A023#32 (wX 0x90000100#32 5#32)
def wBx : State := wBl 0x0000000B#32 0x10000100#32 0x90000200#32 16#32
def wUn : List (Fld × Nat) := [(F.CHN_pSTAT_LOCK 0, 1), (F.CHN_pSTAT_LOCK 1, 1), (F.CHN_pSTAT_LINK 0, 1), (F.CHN_pSTAT_LINK 1, 1), (F.CHN_ADDR_VALID, 1), (F.CHN_ADDR_ADDR, 2), (F.CHN_UPMAPLO_MAP, 1), (F.CHN_LIVELO_MAP, 7), (F.CHN_REACHLO_MAP, 7), (F.CHN_ADDR_NUNITS, 3), (F.SYS_CIDEN_EN 1, 0xFFFFFFFF), (F.SYS_ACCRHI_MASK 10, 0xFFFFFFFF), (F.SYS_ACCRHI_MASK 11, 0xFFFFFFFF), (F.SYS_ACCWHI_MASK 10, 0xFFFFFFFF), (F.SYS_ACCWHI_MASK 11, 0xFFFFFFFF)]
def wBw : State := wSet wUn (wBl 0x0000000B#32 0x10000100#32 0x60010010#32 16#32)
def wBs : State := wBl 0x0000200B#32 0x10000205#32 0x10000100#32 3#32
def wLr : State := wSet wUn (wLd 0x60010010#32)
def wHeld (w a : Word) (n : Nat) : State := wRun w (fun y => { wX a 5#32 y with sb := List.replicate n { addr := 0x10000100, size := 4, data := 9, cid := 1, ctm := false }, sbOut := true })

/-- Witnesses for Obligations.YarrowIntegers, the clauses of YarrowInteger. -/
theorem wit_YarrowInteger_1 :
    (let w : Word := 0x002081B3#32
     let len : Nat := 4
     let rd : Nat := 3
     let op : AluOp := .add
     let a : Src := .reg 1
     let b : Src := .reg 2
     let s : State := wAdd
     let t : State := wGot wAdd
     (Fetches w len s t) ∧ (yDecode w len = .alu op rd a b)) ∧
    (let w : Word := 0x12345197#32
     let len : Nat := 4
     let rd : Nat := 3
     let imm : Word := 0x12345000#32
     let s : State := wAui
     let t : State := wGot wAui
     (Fetches w len s t) ∧ (yDecode w len = .auipc rd imm)) ∧
    (let w : Word := 0x00000073#32
     let len : Nat := 4
     let s : State := wNm
     let t : State := wGot wNm
     (Fetches w len s t) ∧ (yDecode w len ≠ .illegal) ∧ (isInteger (yDecode w len) = false)) :=
  ⟨⟨fet_of (by decide +kernel), by decide +kernel⟩,
   ⟨fet_of (by decide +kernel), by decide +kernel⟩,
   ⟨fet_of (by decide +kernel), by decide +kernel⟩⟩

/-- Witnesses for Obligations.YarrowIntegers, the clauses of YarrowInteger. -/
theorem wit_YarrowInteger_2 :
    (let w : Word := 0x022091B3#32
     let len : Nat := 4
     let fn : Nat := 1
     let rd : Nat := 3
     let a : Nat := 1
     let b : Nat := 2
     let s : State := wMul
     let t : State := wGot wMul
     (Fetches w len s t) ∧ (yDecode w len = .mul fn rd a b)) ∧
    (let w : Word := 0x0220C1B3#32
     let len : Nat := 4
     let fn : Nat := 4
     let rd : Nat := 3
     let a : Nat := 1
     let b : Nat := 2
     let s : State := wDivO
     let t : State := wGot wDivO
     (Fetches w len s t) ∧ (yDecode w len = .div fn rd a b)) ∧
    (let w : Word := 0x0220C1B3#32
     let len : Nat := 4
     let fn : Nat := 4
     let rd : Nat := 3
     let a : Nat := 1
     let b : Nat := 2
     let s : State := wDiv0
     let t : State := wGot wDiv0
     let y := yReg b t
     (Fetches w len s t) ∧ (yDecode w len = .div fn rd a b) ∧ (y = 0#32)) :=
  ⟨⟨fet_of (by decide +kernel), by decide +kernel⟩,
   ⟨fet_of (by decide +kernel), by decide +kernel⟩,
   ⟨fet_of (by decide +kernel), by decide +kernel⟩⟩

/-- Witnesses for Obligations.YarrowIntegers, the clauses of YarrowInteger. -/
theorem wit_YarrowInteger_3 :
    (let w : Word := 0x0220C1B3#32
     let len : Nat := 4
     let fn : Nat := 4
     let rd : Nat := 3
     let a : Nat := 1
     let b : Nat := 2
     let s : State := wDivO
     let t : State := wGot wDivO
     let x := yReg a t
     let y := yReg b t
     (Fetches w len s t) ∧ (yDecode w len = .div fn rd a b) ∧ (x = 0x80000000#32) ∧ (y = 0xFFFFFFFF#32)) ∧
    (let w : Word := 0x0220C1B3#32
     let len : Nat := 4
     let fn : Nat := 4
     let rd : Nat := 3
     let a : Nat := 1
     let b : Nat := 2
     let s : State := wDivO
     let t : State := wGot wDivO
     let y := yReg b t
     (Fetches w len s t) ∧ (yDecode w len = .div fn rd a b) ∧ (y ≠ 0#32)) :=
  ⟨⟨fet_of (by decide +kernel), by decide +kernel⟩,
   ⟨fet_of (by decide +kernel), by decide +kernel⟩⟩

/-- Witnesses for Obligations.YarrowFloat. -/
theorem wit_YarrowFloat_1 :
    (let w : Word := 0x0020F1D3#32
     let len : Nat := 4
     let rd : Nat := 3
     let a : Nat := 1
     let b : Nat := 2
     let rm : Nat := 7
     let r : Nat := 0
     let op : FpOp := .add
     let s : State := wFadd
     let t : State := wGot wFadd
     (Fetches w len s t) ∧ (yDecode w len = .fp op rd a b rm) ∧ (t.yar.fs ≠ 0#2) ∧
     ((if fpRounds op then roundMode rm t.yar else some 0) = some r) ∧ (isFloat (.fp op rd a b rm) = true)) ∧
    (let w : Word := 0x282081D3#32
     let len : Nat := 4
     let rd : Nat := 3
     let a : Nat := 1
     let b : Nat := 2
     let rm : Nat := 0
     let r : Nat := 0
     let op : FpOp := .min
     let s : State := wFmin
     let t : State := wGot wFmin
     (Fetches w len s t) ∧ (yDecode w len = .fp op rd a b rm) ∧ (t.yar.fs ≠ 0#2) ∧
     ((if fpRounds op then roundMode rm t.yar else some 0) = some r) ∧ (op = .min ∨ op = .max)) ∧
    (let w : Word := 0xC000F1D3#32
     let len : Nat := 4
     let rd : Nat := 3
     let a : Nat := 1
     let b : Nat := 0
     let rm : Nat := 7
     let r : Nat := 0
     let op : FpOp := .toInt false
     let s : State := wFcvt
     let t : State := wGot wFcvt
     let k := false
     (Fetches w len s t) ∧ (yDecode w len = .fp op rd a b rm) ∧ (t.yar.fs ≠ 0#2) ∧
     ((if fpRounds op then roundMode rm t.yar else some 0) = some r) ∧ (op = .toInt k)) :=
  ⟨⟨fet_of (by decide +kernel), by decide +kernel⟩,
   ⟨fet_of (by decide +kernel), by decide +kernel⟩,
   ⟨fet_of (by decide +kernel), by decide +kernel⟩⟩

/-- Witnesses for Obligations.YarrowFloat. -/
theorem wit_YarrowFloat_2 :
    (let w : Word := 0x0020F1D3#32
     let len : Nat := 4
     let rd : Nat := 3
     let a : Nat := 1
     let b : Nat := 2
     let rm : Nat := 7
     let op : FpOp := .add
     let s : State := wFo 0x0020F1D3#32
     let t : State := wGot (wFo 0x0020F1D3#32)
     (Fetches w len s t) ∧ (yDecode w len = .fp op rd a b rm) ∧ (t.yar.dbg.halted = false) ∧
     (t.yar.fs = 0#2 ∨ (fpRounds op = true ∧ roundMode rm t.yar = none)) ∧ (isFloat (.fp op rd a b rm) = true)) ∧
    (let w : Word := 0x282081D3#32
     let len : Nat := 4
     let rd : Nat := 3
     let a : Nat := 1
     let b : Nat := 2
     let rm : Nat := 0
     let op : FpOp := .min
     let s : State := wFo 0x282081D3#32
     let t : State := wGot (wFo 0x282081D3#32)
     (Fetches w len s t) ∧ (yDecode w len = .fp op rd a b rm) ∧ (t.yar.dbg.halted = false) ∧
     (t.yar.fs = 0#2 ∨ (fpRounds op = true ∧ roundMode rm t.yar = none)) ∧ (op = .min ∨ op = .max)) ∧
    (let w : Word := 0xC000D1D3#32
     let len : Nat := 4
     let rd : Nat := 3
     let a : Nat := 1
     let b : Nat := 0
     let rm : Nat := 5
     let op : FpOp := .toInt false
     let s : State := wFr
     let t : State := wGot wFr
     let k := false
     (Fetches w len s t) ∧ (yDecode w len = .fp op rd a b rm) ∧ (t.yar.dbg.halted = false) ∧
     (t.yar.fs = 0#2 ∨ (fpRounds op = true ∧ roundMode rm t.yar = none)) ∧ (op = .toInt k)) :=
  ⟨⟨fet_of (by decide +kernel), by decide +kernel⟩,
   ⟨fet_of (by decide +kernel), by decide +kernel⟩,
   ⟨fet_of (by decide +kernel), by decide +kernel⟩⟩

/-- Witnesses for Obligations.YarrowFloat. -/
theorem wit_YarrowFloat_3 :
    (let w : Word := 0x1020F1C3#32
     let len : Nat := 4
     let k : Nat := 0
     let rd : Nat := 3
     let a : Nat := 1
     let b : Nat := 2
     let c : Nat := 2
     let rm : Nat := 7
     let r : Nat := 0
     let s : State := wFma
     let t : State := wGot wFma
     (Fetches w len s t) ∧ (len = 4) ∧ (yDecode w len = .fma k rd a b c rm) ∧ (t.yar.fs ≠ 0#2) ∧ (roundMode rm t.yar = some r)) :=
  ⟨fet_of (by decide +kernel), by decide +kernel⟩

/-- Witnesses for Obligations.YarrowFlowAndTraps, the clauses of YarrowFlow. -/
theorem wit_YarrowFlow_1 :
    (let w : Word := 0xFE208EE3#32
     let len : Nat := 4
     let fn : Nat := 0
     let a : Nat := 1
     let b : Nat := 2
     let off : Word := 0xFFFFFFFC#32
     let s : State := wBeq
     let t : State := wGot wBeq
     (Fetches w len s t) ∧ (yDecode w len = .branch fn a b off)) ∧
    (let w : Word := 0x008000EF#32
     let len : Nat := 4
     let rd : Nat := 1
     let off : Word := 8#32
     let s : State := wJal
     let t : State := wGot wJal
     (Fetches w len s t) ∧ (yDecode w len = .jal rd off)) ∧
    (let w : Word := 0x004100E7#32
     let len : Nat := 4
     let rd : Nat := 1
     let a : Nat := 2
     let off : Word := 4#32
     let s : State := wJr
     let t : State := wGot wJr
     (Fetches w len s t) ∧ (yDecode w len = .jalr rd a off)) :=
  ⟨⟨fet_of (by decide +kernel), by decide +kernel⟩,
   ⟨fet_of (by decide +kernel), by decide +kernel⟩,
   ⟨fet_of (by decide +kernel), by decide +kernel⟩⟩

/-- Witnesses for Obligations.YarrowFlowAndTraps, the clauses of YarrowFlow. -/
theorem wit_YarrowFlow_2 :
    (let w : Word := 0x0FF0000F#32
     let len : Nat := 4
     let s : State := wFe
     let t : State := wGot wFe
     let u := drainAll t
     (Fetches w len s t) ∧ (yDecode w len = .fence) ∧ (u.yar.sb = [])) ∧
    (let w : Word := 0x0FF0000F#32
     let len : Nat := 4
     let s : State := wFeS 0x0FF0000F#32
     let t : State := wGot (wFeS 0x0FF0000F#32)
     let u := drainAll t
     (Fetches w len s t) ∧ (yDecode w len = .fence) ∧ (u.yar.sb ≠ [])) ∧
    (let w : Word := 0x0000100F#32
     let len : Nat := 4
     let s : State := wFi
     let t : State := wGot wFi
     let u := drainAll t
     (Fetches w len s t) ∧ (yDecode w len = .fenceI) ∧ (u.yar.sb = [])) :=
  ⟨⟨fet_of (by decide +kernel), by decide +kernel⟩,
   ⟨fet_of (by decide +kernel), by decide +kernel⟩,
   ⟨fet_of (by decide +kernel), by decide +kernel⟩⟩

/-- Witnesses for Obligations.YarrowFlowAndTraps, the clauses of YarrowFlow. -/
theorem wit_YarrowFlow_3 :
    (let w : Word := 0x0000100F#32
     let len : Nat := 4
     let s : State := wFeS 0x0000100F#32
     let t : State := wGot (wFeS 0x0000100F#32)
     let u := drainAll t
     (Fetches w len s t) ∧ (yDecode w len = .fenceI) ∧ (u.yar.sb ≠ [])) :=
  ⟨fet_of (by decide +kernel), by decide +kernel⟩

/-- Witnesses for Obligations.YarrowFlowAndTraps, the clauses of YarrowFlow. -/
theorem wit_YarrowFlow_4 :
    (let t : State := State.reset
     (t.yar.sb = [])) :=
  by decide +kernel

/-- Witnesses for Obligations.YarrowFlowAndTraps, the clauses of YarrowTraps. -/
theorem wit_YarrowTraps_1 :
    (let w : Word := 0x00000073#32
     let len : Nat := 4
     let s : State := wEc
     let t : State := wGot wEc
     (Fetches w len s t) ∧ (t.yar.dbg.halted = false) ∧ (yDecode w len = .ecall)) ∧
    (let w : Word := 0x00100073#32
     let len : Nat := 4
     let s : State := wEb
     let t : State := wGot wEb
     (Fetches w len s t) ∧ (t.yar.dbg.halted = false) ∧ (yDecode w len = .ebreak) ∧
     (t.yar.dbg.dcsr.getLsbD (if t.yar.mach then 15 else 12) = false)) ∧
    (let w : Word := 0x00100073#32
     let len : Nat := 4
     let s : State := wEbD
     let t : State := wGot wEbD
     (Fetches w len s t) ∧ (t.yar.dbg.halted = false) ∧ (yDecode w len = .ebreak) ∧
     (t.yar.dbg.dcsr.getLsbD (if t.yar.mach then 15 else 12) = true)) :=
  ⟨⟨fet_of (by decide +kernel), by decide +kernel⟩,
   ⟨fet_of (by decide +kernel), by decide +kernel⟩,
   ⟨fet_of (by decide +kernel), by decide +kernel⟩⟩

/-- Witnesses for Obligations.YarrowFlowAndTraps, the clauses of YarrowTraps. -/
theorem wit_YarrowTraps_2 :
    (let w : Word := 0xFFFFFFFF#32
     let len : Nat := 4
     let s : State := wIl
     let t : State := wGot wIl
     (Fetches w len s t) ∧ (t.yar.dbg.halted = false) ∧ (yDecode w len = .illegal)) ∧
    (let w : Word := 0x10500073#32
     let len : Nat := 4
     let s : State := wU 0x10500073#32
     let t : State := wGot (wU 0x10500073#32)
     (Fetches w len s t) ∧ (t.yar.dbg.halted = false) ∧ (yDecode w len = .wfi) ∧ (t.yar.mach = false)) ∧
    (let w : Word := 0x30200073#32
     let len : Nat := 4
     let s : State := wU 0x30200073#32
     let t : State := wGot (wU 0x30200073#32)
     (Fetches w len s t) ∧ (t.yar.dbg.halted = false) ∧ (yDecode w len = .mret) ∧ (t.yar.mach = false)) :=
  ⟨⟨fet_of (by decide +kernel), by decide +kernel⟩,
   ⟨fet_of (by decide +kernel), by decide +kernel⟩,
   ⟨fet_of (by decide +kernel), by decide +kernel⟩⟩

/-- Witnesses for Obligations.YarrowFlowAndTraps, the clauses of YarrowTraps. -/
theorem wit_YarrowTraps_3 :
    (let w : Word := 0x10500073#32
     let len : Nat := 4
     let s : State := wWf
     let t : State := wGot wWf
     (Fetches w len s t) ∧ (t.yar.dbg.halted = false) ∧ (yDecode w len = .wfi) ∧ (t.yar.mach = true) ∧
     ((mipWord (t.retired len) &&& t.yar.ie) = 0#32)) ∧
    (let w : Word := 0x10500073#32
     let len : Nat := 4
     let s : State := wWp
     let t : State := wGot wWp
     (Fetches w len s t) ∧ (t.yar.dbg.halted = false) ∧ (yDecode w len = .wfi) ∧ (t.yar.mach = true) ∧
     ((mipWord (t.retired len) &&& t.yar.ie) ≠ 0#32)) ∧
    (let w : Word := 0x30200073#32
     let len : Nat := 4
     let s : State := wMr
     let t : State := wGot wMr
     (Fetches w len s t) ∧ (t.yar.dbg.halted = false) ∧ (yDecode w len = .mret) ∧ (t.yar.mach = true)) :=
  ⟨⟨fet_of (by decide +kernel), by decide +kernel⟩,
   ⟨fet_of (by decide +kernel), by decide +kernel⟩,
   ⟨fet_of (by decide +kernel), by decide +kernel⟩⟩

/-- Witnesses for Obligations.YarrowFlowAndTraps, the clauses of YarrowTraps. -/
theorem wit_YarrowTraps_4 :
    (let i : Nat := 7
     let s : State := wTim
     (s.yar.run = true) ∧ (s.yar.dbg.halted = false) ∧ (s.yar.wait = none) ∧ (s.yar.fence = false ∨ s.yar.sb = []) ∧
     (s.yar.mach = false ∨ s.yar.mie = true) ∧ (s.yar.dbg.dcsr.getLsbD 2 = false ∨ s.yar.dbg.dcsr.getLsbD 11 = true) ∧
     (interruptNext s = some i)) ∧
    (let s : State := State.reset
     (s.yar.run = false ∨ s.yar.dbg.halted = true ∨ s.yar.wait.isSome = true ∨ (s.yar.fence = true ∧
     s.yar.sb ≠ []) ∨ (s.yar.mach = true ∧ s.yar.mie = false) ∨ interruptNext s = none)) ∧
    (let s : State := wY17
     ((mipWord s &&& s.yar.ie).getLsbD 17 = true)) :=
  by decide +kernel

/-- Witnesses for Obligations.YarrowFlowAndTraps, the clauses of YarrowTraps. -/
theorem wit_YarrowTraps_5 :
    (let s : State := wTim
     (timerPending s = true) ∧ (s.yar.ie.getLsbD 7 = true)) ∧
    (let s : State := State.reset
     (timerPending s = false ∨ s.yar.ie.getLsbD 7 = false)) :=
  by decide +kernel

/-- Witnesses for Obligations.YarrowCsrs. -/
theorem wit_YarrowCsrs_1 :
    (let w : Word := 0x34001173#32
     let len : Nat := 4
     let op : Nat := 1
     let rd : Nat := 2
     let n : Nat := 0x340
     let src : Src := .reg 0
     let s : State := wCs 0x34001173#32
     let t : State := wGot (wCs 0x34001173#32)
     let writes := op == 1 || (match src with | .reg i => i != 0 | .imm v => v != 0#32)
     let old : Word := 0#32
     (Fetches w len s t) ∧ (len = 4) ∧ (yDecode w len = .csr op rd src n) ∧ (csrAllowed n writes t.yar = true) ∧
     (csrRead n t = some old)) ∧
    (let w : Word := 0x3400F173#32
     let len : Nat := 4
     let op : Nat := 3
     let rd : Nat := 2
     let n : Nat := 0x340
     let src : Src := .imm 1#32
     let s : State := wCs 0x3400F173#32
     let t : State := wGot (wCs 0x3400F173#32)
     let writes := op == 1 || (match src with | .reg i => i != 0 | .imm v => v != 0#32)
     let old : Word := 0#32
     (Fetches w len s t) ∧ (len = 4) ∧ (yDecode w len = .csr op rd src n) ∧ (csrAllowed n writes t.yar = true) ∧
     (csrRead n t = some old)) ∧
    (let w : Word := 0x7C209173#32
     let len : Nat := 4
     let op : Nat := 1
     let rd : Nat := 2
     let n : Nat := 0x7C2
     let src : Src := .reg 1
     let s : State := wCs 0x7C209173#32
     let t : State := wGot (wCs 0x7C209173#32)
     let writes := op == 1 || (match src with | .reg i => i != 0 | .imm v => v != 0#32)
     let old : Word := 0#32
     (Fetches w len s t) ∧ (len = 4) ∧ (yDecode w len = .csr op rd src n) ∧ (csrAllowed n writes t.yar = true) ∧
     (csrRead n t = some old)) :=
  ⟨⟨fet_of (by decide +kernel), by decide +kernel⟩,
   ⟨fet_of (by decide +kernel), by decide +kernel⟩,
   ⟨fet_of (by decide +kernel), by decide +kernel⟩⟩

/-- Witnesses for Obligations.YarrowCsrs. -/
theorem wit_YarrowCsrs_2 :
    (let w : Word := 0x7C709173#32
     let len : Nat := 4
     let op : Nat := 1
     let rd : Nat := 2
     let n : Nat := 0x7C7
     let src : Src := .reg 1
     let s : State := wCs 0x7C709173#32
     let t : State := wGot (wCs 0x7C709173#32)
     let writes := op == 1 || (match src with | .reg i => i != 0 | .imm v => v != 0#32)
     let old : Word := 0#32
     (Fetches w len s t) ∧ (len = 4) ∧ (yDecode w len = .csr op rd src n) ∧ (csrAllowed n writes t.yar = true) ∧
     (csrRead n t = some old)) ∧
    (let w : Word := 0x7C909173#32
     let len : Nat := 4
     let op : Nat := 1
     let rd : Nat := 2
     let n : Nat := 0x7C9
     let src : Src := .reg 1
     let s : State := wCs 0x7C909173#32
     let t : State := wGot (wCs 0x7C909173#32)
     let writes := op == 1 || (match src with | .reg i => i != 0 | .imm v => v != 0#32)
     let old : Word := 0#32
     (Fetches w len s t) ∧ (len = 4) ∧ (yDecode w len = .csr op rd src n) ∧ (csrAllowed n writes t.yar = true) ∧
     (csrRead n t = some old)) ∧
    (let w : Word := 0x34009173#32
     let len : Nat := 4
     let op : Nat := 1
     let rd : Nat := 2
     let n : Nat := 0x340
     let src : Src := .reg 1
     let s : State := wUsr
     let t : State := wGot wUsr
     let writes := op == 1 || (match src with | .reg i => i != 0 | .imm v => v != 0#32)
     (Fetches w len s t) ∧ (len = 4) ∧ (yDecode w len = .csr op rd src n) ∧
     (csrAllowed n writes t.yar = false ∨ csrRead n t = none) ∧ (t.yar.dbg.halted = false)) :=
  ⟨⟨fet_of (by decide +kernel), by decide +kernel⟩,
   ⟨fet_of (by decide +kernel), by decide +kernel⟩,
   ⟨fet_of (by decide +kernel), by decide +kernel⟩⟩

/-- Witnesses for Obligations.YarrowBlocksAndDebug, the clauses of YarrowDebug. -/
theorem wit_YarrowDebug_1 :
    (let w : Word := 0x002081B3#32
     let len : Nat := 4
     let rd : Nat := 3
     let op : AluOp := .add
     let a : Src := .reg 1
     let b : Src := .reg 2
     let s : State := wStp
     let t : State := wGot wStp
     ((yFetch s.begin).2 = t) ∧ (s.yar.run = true) ∧ (s.yar.dbg.halted = false) ∧ (s.yar.wait = none) ∧ (s.yar.wfi = false) ∧
     (s.yar.dbg.dcsr.getLsbD 2 = true) ∧ (triggerHit 2 s.yar.pc.toNat s = none) ∧ ((yFetch s.begin).1.toOption = some (w, len)) ∧
     (t.yar.dbg.halted = false) ∧ (yDecode w len = .alu op rd a b)) ∧
    (let write : Bool := false
     let a : Word := 0x10000000#32
     let v : Word := 0#32
     let sz : Fin 3 := 2
     let s : State := wDbm
     let d : DWord := 0
     let t : State := (fabric .sba { cid := 62 } false 0x10000000 4 0 wDbm.begin).2
     (fabric .sba { cid := 62 } write a.toNat (2 ^ sz.val) (v.toNat % 256 ^ 2 ^ sz.val) s.begin = (.ans (.ok d), t)) ∧
     (debugOpen s = true)) ∧
    (let write : Bool := true
     let a : Word := 0x90000000#32
     let v : Word := 0#32
     let sz : Fin 3 := 2
     let s : State := wDbm
     let c : Cause := .unmapped
     let t : State := (fabric .sba { cid := 62 } true 0x90000000 4 0 wDbm.begin).2
     (fabric .sba { cid := 62 } write a.toNat (2 ^ sz.val) (v.toNat % 256 ^ 2 ^ sz.val) s.begin = (.ans (.refused c), t)) ∧
     (debugOpen s = true)) :=
  ⟨⟨rfl, by decide +kernel⟩,
   ⟨pair_of (by decide +kernel) rfl, by decide +kernel⟩,
   ⟨pair_of (by decide +kernel) rfl, by decide +kernel⟩⟩

/-- Witnesses for Obligations.YarrowBlocksAndDebug, the clauses of YarrowDebug. -/
theorem wit_YarrowDebug_2 :
    (let s : State := wDb false
     (debugOpen s = true) ∧ (s.yar.run = true) ∧ (s.yar.dbg.halted = false) ∧ (s.yar.wait = none)) ∧
    (let s : State := wYar (fun y => { y with run := true, wait := some (.load 1 false 2 0x90000000 4) })
     (debugOpen s = true) ∧ (s.yar.run = true) ∧ (s.yar.dbg.halted = false) ∧ (s.yar.wait.isSome = true)) ∧
    (let s : State := State.reset
     (debugOpen s = true) ∧ (s.yar.run = false)) :=
  by decide +kernel

/-- Witnesses for Obligations.YarrowBlocksAndDebug, the clauses of YarrowDebug. -/
theorem wit_YarrowDebug_3 :
    (let s : State := wDb true
     (debugOpen s = true) ∧ (s.yar.dbg.halted = true) ∧ (progBusy s = false)) ∧
    (let s : State := wSet [(F.LCS_STATE_STATE, 2)]
     (debugOpen s = false)) ∧
    (let act : Nat := 1
     let s : State := wTrg 0x1000#32
     (s.yar.run = true) ∧ (s.yar.dbg.halted = false) ∧ (s.yar.wait = none) ∧ (s.yar.wfi = false) ∧
     (s.yar.dbg.dcsr.getLsbD 2 = false) ∧ (triggerHit 2 s.yar.pc.toNat s = some act)) :=
  by decide +kernel

/-- Witnesses for Obligations.YarrowBlocksAndDebug, the clauses of YarrowDebug. -/
theorem wit_YarrowDebug_4 :
    (let act : Nat := 0
     let s : State := wTrg 0#32
     (s.yar.run = true) ∧ (s.yar.dbg.halted = false) ∧ (s.yar.wait = none) ∧ (s.yar.wfi = false) ∧
     (s.yar.dbg.dcsr.getLsbD 2 = false) ∧ (triggerHit 2 s.yar.pc.toNat s = some act)) ∧
    (let s : State := wDb false
     (debugOpen s = true) ∧ (s.yar.dbg.halted = false)) :=
  by decide +kernel

/-- Witnesses for Obligations.YarrowLoadsAndStores. -/
theorem wit_YarrowLoadsAndStores_1 :
    (let w : Word := 0x00009183#32
     let len : Nat := 4
     let fn : Nat := 1
     let rd : Nat := 3
     let a : Nat := 1
     let off : Word := 0#32
     let isF : Bool := false
     let s : State := wLd 0x10000101#32
     let t : State := wGot (wLd 0x10000101#32)
     let addr := (yReg a t + off).toNat
     let size := 2 ^ (fn % 4)
     (Fetches w len s t) ∧ (yDecode w len = (if isF then .flw rd a off else .load fn rd a off)) ∧ ((isF = true → fn = 2 ∧
     t.yar.fs ≠ 0#2)) ∧ (t.yar.dbg.halted = false) ∧ (triggerHit 0 addr t = none) ∧ (addr % size ≠ 0)) :=
  ⟨fet_of (by decide +kernel), by decide +kernel⟩

/-- Witnesses for Obligations.YarrowLoadsAndStores. -/
theorem wit_YarrowLoadsAndStores_2 :
    (let w : Word := 0x00009183#32
     let len : Nat := 4
     let fn : Nat := 1
     let rd : Nat := 3
     let a : Nat := 1
     let off : Word := 0#32
     let isF : Bool := false
     let s : State := wHeld 0x00009183#32 0x10000102#32 1
     let t : State := wGot (wHeld 0x00009183#32 0x10000102#32 1)
     let addr := (yReg a t + off).toNat
     let size := 2 ^ (fn % 4)
     let v := if mustDrain addr size t then drainAll t else t
     let held := mustDrain addr size v = true ∧ v.yar.sb ≠ []
     (Fetches w len s t) ∧ (yDecode w len = (if isF then .flw rd a off else .load fn rd a off)) ∧ ((isF = true → fn = 2 ∧
     t.yar.fs ≠ 0#2)) ∧ (t.yar.dbg.halted = false) ∧ (triggerHit 0 addr t = none) ∧ (addr % size = 0) ∧ (held)) :=
  ⟨fet_of (by decide +kernel), by decide +kernel⟩

/-- Witnesses for Obligations.YarrowLoadsAndStores. -/
theorem wit_YarrowLoadsAndStores_3 :
    (let w : Word := 0x00009183#32
     let len : Nat := 4
     let fn : Nat := 1
     let rd : Nat := 3
     let a : Nat := 1
     let off : Word := 0#32
     let isF : Bool := false
     let s : State := wLd 0x10000100#32
     let t : State := wGot (wLd 0x10000100#32)
     let addr := (yReg a t + off).toNat
     let size := 2 ^ (fn % 4)
     let v := if mustDrain addr size t then drainAll t else t
     let held := mustDrain addr size v = true ∧ v.yar.sb ≠ []
     let d : Nat := 0x7F01
     let u : State := (yAccess .yarrow 0 addr size 0 v).2
     (Fetches w len s t) ∧ (yAccess .yarrow 0 addr size 0 v = (.ok d, u)) ∧
     (yDecode w len = (if isF then .flw rd a off else .load fn rd a off)) ∧ ((isF = true → fn = 2 ∧ t.yar.fs ≠ 0#2)) ∧
     (t.yar.dbg.halted = false) ∧ (triggerHit 0 addr t = none) ∧ (addr % size = 0) ∧ (¬held)) :=
  ⟨fet_of (by decide +kernel), pair_of (by decide +kernel) rfl, by decide +kernel⟩

/-- Witnesses for Obligations.YarrowLoadsAndStores. -/
theorem wit_YarrowLoadsAndStores_4 :
    (let w : Word := 0x0000A187#32
     let len : Nat := 4
     let fn : Nat := 2
     let rd : Nat := 3
     let a : Nat := 1
     let off : Word := 0#32
     let isF : Bool := true
     let s : State := wFl
     let t : State := wGot wFl
     let addr := (yReg a t + off).toNat
     let size := 2 ^ (fn % 4)
     let v := if mustDrain addr size t then drainAll t else t
     let held := mustDrain addr size v = true ∧ v.yar.sb ≠ []
     let d : Nat := 0x80FF7F01
     let u : State := (yAccess .yarrow 0 addr size 0 v).2
     (Fetches w len s t) ∧ (yAccess .yarrow 0 addr size 0 v = (.ok d, u)) ∧
     (yDecode w len = (if isF then .flw rd a off else .load fn rd a off)) ∧ ((isF = true → fn = 2 ∧ t.yar.fs ≠ 0#2)) ∧
     (t.yar.dbg.halted = false) ∧ (triggerHit 0 addr t = none) ∧ (addr % size = 0) ∧ (¬held)) :=
  ⟨fet_of (by decide +kernel), pair_of (by decide +kernel) rfl, by decide +kernel⟩

/-- Witnesses for Obligations.YarrowLoadsAndStores. -/
theorem wit_YarrowLoadsAndStores_5 :
    (let w : Word := 0x00009183#32
     let len : Nat := 4
     let fn : Nat := 1
     let rd : Nat := 3
     let a : Nat := 1
     let off : Word := 0#32
     let isF : Bool := false
     let s : State := wLd 0x90000100#32
     let t : State := wGot (wLd 0x90000100#32)
     let addr := (yReg a t + off).toNat
     let size := 2 ^ (fn % 4)
     let v := if mustDrain addr size t then drainAll t else t
     let held := mustDrain addr size v = true ∧ v.yar.sb ≠ []
     let c : Nat := 1
     let f : Nat := 0x90000100
     let u : State := (yAccess .yarrow 0 addr size 0 v).2
     (Fetches w len s t) ∧ (yAccess .yarrow 0 addr size 0 v = (.fault c f, u)) ∧
     (yDecode w len = (if isF then .flw rd a off else .load fn rd a off)) ∧ ((isF = true → fn = 2 ∧ t.yar.fs ≠ 0#2)) ∧
     (t.yar.dbg.halted = false) ∧ (triggerHit 0 addr t = none) ∧ (addr % size = 0) ∧ (¬held) ∧ (u.yar.dbg.halted = false)) :=
  ⟨fet_of (by decide +kernel), pair_of (by decide +kernel) rfl, by decide +kernel⟩

/-- Witnesses for Obligations.YarrowLoadsAndStores. -/
theorem wit_YarrowLoadsAndStores_6 :
    (let w : Word := 0x00009183#32
     let len : Nat := 4
     let fn : Nat := 1
     let rd : Nat := 3
     let a : Nat := 1
     let off : Word := 0#32
     let isF : Bool := false
     let s : State := wLr
     let t : State := wGot wLr
     let addr := (yReg a t + off).toNat
     let size := 2 ^ (fn % 4)
     let v := if mustDrain addr size t then drainAll t else t
     let held := mustDrain addr size v = true ∧ v.yar.sb ≠ []
     let u : State := (yAccess .yarrow 0 addr size 0 v).2
     (Fetches w len s t) ∧ (yAccess .yarrow 0 addr size 0 v = (.wait, u)) ∧
     (yDecode w len = (if isF then .flw rd a off else .load fn rd a off)) ∧ ((isF = true → fn = 2 ∧ t.yar.fs ≠ 0#2)) ∧
     (t.yar.dbg.halted = false) ∧ (triggerHit 0 addr t = none) ∧ (addr % size = 0) ∧ (¬held)) :=
  ⟨fet_of (by decide +kernel), pair_of (by decide +kernel) rfl, by decide +kernel⟩

/-- Witnesses for Obligations.YarrowLoadsAndStores. -/
theorem wit_YarrowLoadsAndStores_7 :
    (let w : Word := 0x0020A023#32
     let len : Nat := 4
     let fn : Nat := 2
     let a : Nat := 1
     let b : Nat := 2
     let off : Word := 0#32
     let isF : Bool := false
     let s : State := wSm
     let t : State := wGot wSm
     let addr := (yReg a t + off).toNat
     let size := 2 ^ fn
     (Fetches w len s t) ∧ (yDecode w len = (if isF then .fsw b a off else .store fn b a off)) ∧ ((isF = true → fn = 2 ∧
     t.yar.fs ≠ 0#2)) ∧ (t.yar.dbg.halted = false) ∧ (triggerHit 1 addr t = none) ∧ (addr % size ≠ 0)) :=
  ⟨fet_of (by decide +kernel), by decide +kernel⟩

/-- Witnesses for Obligations.YarrowLoadsAndStores. -/
theorem wit_YarrowLoadsAndStores_8 :
    (let w : Word := 0x0020A023#32
     let len : Nat := 4
     let fn : Nat := 2
     let a : Nat := 1
     let b : Nat := 2
     let off : Word := 0#32
     let isF : Bool := false
     let s : State := wHeld 0x0020A023#32 0x10000200#32 4
     let t : State := wGot (wHeld 0x0020A023#32 0x10000200#32 4)
     let addr := (yReg a t + off).toNat
     let size := 2 ^ fn
     let v := if mustDrain addr size t then drainAll t else if 4 ≤ t.yar.sb.length then storeDrain t else t
     let held := (mustDrain addr size v = true ∧ v.yar.sb ≠ []) ∨ 4 ≤ v.yar.sb.length
     (Fetches w len s t) ∧ (yDecode w len = (if isF then .fsw b a off else .store fn b a off)) ∧ ((isF = true → fn = 2 ∧
     t.yar.fs ≠ 0#2)) ∧ (t.yar.dbg.halted = false) ∧ (triggerHit 1 addr t = none) ∧ (addr % size = 0) ∧ (held)) :=
  ⟨fet_of (by decide +kernel), by decide +kernel⟩

/-- Witnesses for Obligations.YarrowLoadsAndStores. -/
theorem wit_YarrowLoadsAndStores_9 :
    (let w : Word := 0x0020A023#32
     let len : Nat := 4
     let fn : Nat := 2
     let a : Nat := 1
     let b : Nat := 2
     let off : Word := 0#32
     let isF : Bool := false
     let s : State := wSr
     let t : State := wGot wSr
     let addr := (yReg a t + off).toNat
     let size := 2 ^ fn
     let data := (if isF then fReg b t else yReg b t).toNat % 256 ^ size
     let v := if mustDrain addr size t then drainAll t else if 4 ≤ t.yar.sb.length then storeDrain t else t
     let held := (mustDrain addr size v = true ∧ v.yar.sb ≠ []) ∨ 4 ≤ v.yar.sb.length
     let r : YReply := .fault 1 0x90000100
     let u : State := (yAccess .store 1 addr size data v).2
     let c := 1
     let f := 0x90000100
     (Fetches w len s t) ∧ (yAccess .store 1 addr size data v = (r, u)) ∧
     (yDecode w len = (if isF then .fsw b a off else .store fn b a off)) ∧ ((isF = true → fn = 2 ∧ t.yar.fs ≠ 0#2)) ∧
     (t.yar.dbg.halted = false) ∧ (triggerHit 1 addr t = none) ∧ (addr % size = 0) ∧ (¬held) ∧ (u.yar.dbg.halted = false) ∧
     (v.yar.dbg.halted = false) ∧ (r = .fault c f) ∧ (c ≤ 5 ∨ c = 9)) :=
  ⟨fet_of (by decide +kernel), pair_of (by decide +kernel) rfl, by decide +kernel⟩

/-- Witnesses for Obligations.YarrowLoadsAndStores. -/
theorem wit_YarrowLoadsAndStores_10 :
    (let w : Word := 0x0020A023#32
     let len : Nat := 4
     let fn : Nat := 2
     let a : Nat := 1
     let b : Nat := 2
     let off : Word := 0#32
     let isF : Bool := false
     let s : State := wSt
     let t : State := wGot wSt
     let addr := (yReg a t + off).toNat
     let size := 2 ^ fn
     let data := (if isF then fReg b t else yReg b t).toNat % 256 ^ size
     let v := if mustDrain addr size t then drainAll t else if 4 ≤ t.yar.sb.length then storeDrain t else t
     let held := (mustDrain addr size v = true ∧ v.yar.sb ≠ []) ∨ 4 ≤ v.yar.sb.length
     let r : YReply := .ok 0
     let u : State := (yAccess .store 1 addr size data v).2
     (Fetches w len s t) ∧ (yAccess .store 1 addr size data v = (r, u)) ∧ ((∀ c f, r = .fault c f → 6 ≤ c ∧ c ≠ 9)) ∧
     (yDecode w len = (if isF then .fsw b a off else .store fn b a off)) ∧ ((isF = true → fn = 2 ∧ t.yar.fs ≠ 0#2)) ∧
     (t.yar.dbg.halted = false) ∧ (triggerHit 1 addr t = none) ∧ (addr % size = 0) ∧ (¬held) ∧ (u.yar.dbg.halted = false) ∧
     (v.yar.dbg.halted = false)) :=
  ⟨fet_of (by decide +kernel), pair_of (by decide +kernel) rfl, nofun, by decide +kernel⟩

/-- Witnesses for Obligations.YarrowLoadsAndStores. -/
theorem wit_YarrowLoadsAndStores_11 :
    (let e : YStore := { addr := 0x10000100, size := 4, data := 9, cid := 1, ctm := false }
     let rest : List YStore := []
     let s : State := wSb 0x10000100
     let run := fabric .store { cid := e.cid, ctm := e.ctm } true e.addr e.size e.data s.begin
     let d : DWord := 0
     let t : State := (fabric .store { cid := 1 } true 0x10000100 4 9 (wSb 0x10000100).begin).2
     (run = (.ans (.ok d), t)) ∧ (s.yar.sb = e :: rest) ∧ (s.yar.sbOut = false)) :=
  ⟨pair_of (by decide +kernel) rfl, by decide +kernel⟩

/-- Witnesses for Obligations.YarrowLoadsAndStores. -/
theorem wit_YarrowLoadsAndStores_12 :
    (let e : YStore := { addr := 0x60010010, size := 4, data := 9, cid := 1, ctm := false }
     let rest : List YStore := []
     let s : State := wSet wUn (wSb 0x60010010)
     let run := fabric .store { cid := e.cid, ctm := e.ctm } true e.addr e.size e.data s.begin
     let t : State := (fabric .store { cid := 1 } true 0x60010010 4 9 (wSet wUn (wSb 0x60010010)).begin).2
     (run = (.wait, t)) ∧ (s.yar.sb = e :: rest) ∧ (s.yar.sbOut = false)) :=
  ⟨pair_of (by decide +kernel) rfl, by decide +kernel⟩

/-- Witnesses for Obligations.YarrowLoadsAndStores. -/
theorem wit_YarrowLoadsAndStores_13 :
    (let e : YStore := { addr := 0x90000000, size := 4, data := 9, cid := 1, ctm := false }
     let rest : List YStore := []
     let s : State := wSb 0x90000000
     let run := fabric .store { cid := e.cid, ctm := e.ctm } true e.addr e.size e.data s.begin
     let c : Cause := .unmapped
     let t : State := (fabric .store { cid := 1 } true 0x90000000 4 9 (wSb 0x90000000).begin).2
     (run = (.ans (.refused c), t)) ∧ (s.yar.sb = e :: rest) ∧ (s.yar.sbOut = false)) :=
  ⟨pair_of (by decide +kernel) rfl, by decide +kernel⟩

/-- Witnesses for Obligations.YarrowLoadsAndStores. -/
theorem wit_YarrowLoadsAndStores_14 :
    (let s : State := State.reset
     (s.yar.sb = [] ∨ s.yar.sbOut = true)) :=
  by decide +kernel

/-- Witnesses for Obligations.YarrowBlocksAndDebug, the clauses of YarrowBlockRoutines. -/
theorem wit_YarrowBlockRoutines_1 :
    (let k : Fin 3 := 0
     let w : Word := 0x0000000B#32
     let s : State := wHeld 0x0000000B#32 0#32 1
     let t : State := wGot (wHeld 0x0000000B#32 0#32 1)
     let v := drainAll t
     (Fetches w 4 s t) ∧ (yDecode w 4 = .block k.val) ∧ (v.yar.sb ≠ [])) :=
  ⟨fet_of (by decide +kernel), by decide +kernel⟩

/-- Witnesses for Obligations.YarrowBlocksAndDebug, the clauses of YarrowBlockRoutines. -/
theorem wit_YarrowBlockRoutines_2 :
    (let k : Fin 3 := 0
     let w : Word := 0x0000000B#32
     let s : State := wBz
     let t : State := wGot wBz
     let v := drainAll t
     (Fetches w 4 s t) ∧ (yDecode w 4 = .block k.val) ∧ (v.yar.sb = []) ∧ (yReg 12 v = 0#32)) :=
  ⟨fet_of (by decide +kernel), by decide +kernel⟩

/-- Witnesses for Obligations.YarrowBlocksAndDebug, the clauses of YarrowBlockRoutines. -/
theorem wit_YarrowBlockRoutines_3 :
    (let k : Fin 3 := 0
     let w : Word := 0x0000000B#32
     let s : State := wBc
     let t : State := wGot wBc
     let v := drainAll t
     (Fetches w 4 s t) ∧ (yDecode w 4 = .block k.val) ∧ (v.yar.sb = []) ∧ (yReg 12 v ≠ 0#32)) :=
  ⟨fet_of (by decide +kernel), by decide +kernel⟩

/-- Witnesses for Obligations.YarrowBlocksAndDebug, the clauses of YarrowBlockRoutines. -/
theorem wit_YarrowBlockRoutines_4 :
    (let k : Fin 3 := 0
     let units : Option Nat := none
     let w : Word := 0x0000000B#32
     let s : State := wBx
     let t : State := wGot wBx
     let v := drainAll t
     let c : Nat := 5
     let a : Nat := 0x90000200
     let f : Nat := 1
     let u : State := (blkAccesses k 20 (blkUnit k v) v).2
     (Fetches w 4 s t) ∧ (blkAccesses k 20 (blkUnit k v) v = (.error (some (c, a, f)), u)) ∧ (yDecode w 4 = .block k.val) ∧
     (v.yar.sb = []) ∧ (yReg 12 v ≠ 0#32) ∧ (units ≠ some 0) ∧ (u.yar.dbg.halted = false)) :=
  ⟨fet_of (by decide +kernel), pair_of (by decide +kernel) rfl, by decide +kernel⟩

/-- Witnesses for Obligations.YarrowBlocksAndDebug, the clauses of YarrowBlockRoutines. -/
theorem wit_YarrowBlockRoutines_5 :
    (let k : Fin 3 := 0
     let units : Option Nat := none
     let w : Word := 0x0000000B#32
     let s : State := wBw
     let t : State := wGot wBw
     let v := drainAll t
     let u : State := (blkAccesses k 20 (blkUnit k v) v).2
     (Fetches w 4 s t) ∧ (blkAccesses k 20 (blkUnit k v) v = (.error none, u)) ∧ (yDecode w 4 = .block k.val) ∧ (v.yar.sb = []) ∧
     (yReg 12 v ≠ 0#32) ∧ (units ≠ some 0)) :=
  ⟨fet_of (by decide +kernel), pair_of (by decide +kernel) rfl, by decide +kernel⟩

/-- Witnesses for Obligations.YarrowBlocksAndDebug, the clauses of YarrowBlockRoutines. -/
theorem wit_YarrowBlockRoutines_6 :
    (let k : Fin 3 := 0
     let w : Word := 0x0000000B#32
     let s : State := wBc
     let t : State := wGot wBc
     let v := drainAll t
     let x : BlkUnit := ((blkAccesses k 20 (blkUnit k v) v).1.toOption.getD { n := 0 })
     let u : State := (blkAccesses k 20 (blkUnit k v) v).2
     let n := BitVec.ofNat 32 x.n
     let a := if k.val < 2 ∨ yReg 10 u ≠ 0#32 then yPut 10 (yReg 10 u + n) u else u
     let b := if k = 1 then a else yPut 11 (yReg 11 a + n) a
     let c := yPut 12 (yReg 12 b - n) b
     let e := if k = 2 then yPut 13 (x.data.foldl (blkCrcByte u.yar.poly) (yReg 13 u)) c else c
     (Fetches w 4 s t) ∧ (blkAccesses k 20 (blkUnit k v) v = (.ok x, u)) ∧ (yDecode w 4 = .block k.val) ∧ (v.yar.sb = []) ∧
     (yReg 12 v ≠ 0#32) ∧ (yReg 12 e ≠ 0#32)) :=
  ⟨fet_of (by decide +kernel), pair_of (ok_of (by decide +kernel)) rfl, by decide +kernel⟩

/-- Witnesses for Obligations.YarrowBlocksAndDebug, the clauses of YarrowBlockRoutines. -/
theorem wit_YarrowBlockRoutines_7 :
    (let k : Fin 3 := 1
     let w : Word := 0x0000100B#32
     let s : State := wBf
     let t : State := wGot wBf
     let v := drainAll t
     let x : BlkUnit := ((blkAccesses k 20 (blkUnit k v) v).1.toOption.getD { n := 0 })
     let u : State := (blkAccesses k 20 (blkUnit k v) v).2
     let n := BitVec.ofNat 32 x.n
     let a := if k.val < 2 ∨ yReg 10 u ≠ 0#32 then yPut 10 (yReg 10 u + n) u else u
     let b := if k = 1 then a else yPut 11 (yReg 11 a + n) a
     let c := yPut 12 (yReg 12 b - n) b
     let e := if k = 2 then yPut 13 (x.data.foldl (blkCrcByte u.yar.poly) (yReg 13 u)) c else c
     (Fetches w 4 s t) ∧ (blkAccesses k 20 (blkUnit k v) v = (.ok x, u)) ∧ (yDecode w 4 = .block k.val) ∧ (v.yar.sb = []) ∧
     (yReg 12 v ≠ 0#32) ∧ (yReg 12 e ≠ 0#32)) :=
  ⟨fet_of (by decide +kernel), pair_of (ok_of (by decide +kernel)) rfl, by decide +kernel⟩

/-- Witnesses for Obligations.YarrowBlocksAndDebug, the clauses of YarrowBlockRoutines. -/
theorem wit_YarrowBlockRoutines_8 :
    (let k : Fin 3 := 2
     let w : Word := 0x0000200B#32
     let s : State := wBr
     let t : State := wGot wBr
     let v := drainAll t
     let x : BlkUnit := ((blkAccesses k 20 (blkUnit k v) v).1.toOption.getD { n := 0 })
     let u : State := (blkAccesses k 20 (blkUnit k v) v).2
     let n := BitVec.ofNat 32 x.n
     let a := if k.val < 2 ∨ yReg 10 u ≠ 0#32 then yPut 10 (yReg 10 u + n) u else u
     let b := if k = 1 then a else yPut 11 (yReg 11 a + n) a
     let c := yPut 12 (yReg 12 b - n) b
     let e := if k = 2 then yPut 13 (x.data.foldl (blkCrcByte u.yar.poly) (yReg 13 u)) c else c
     (Fetches w 4 s t) ∧ (blkAccesses k 20 (blkUnit k v) v = (.ok x, u)) ∧ (yDecode w 4 = .block k.val) ∧ (v.yar.sb = []) ∧
     (yReg 12 v ≠ 0#32) ∧ (yReg 12 e ≠ 0#32)) :=
  ⟨fet_of (by decide +kernel), pair_of (ok_of (by decide +kernel)) rfl, by decide +kernel⟩

/-- Witnesses for Obligations.YarrowBlocksAndDebug, the clauses of YarrowBlockRoutines. -/
theorem wit_YarrowBlockRoutines_9 :
    (let k : Fin 3 := 2
     let units : Option Nat := none
     let w : Word := 0x0000200B#32
     let s : State := wBs
     let t : State := wGot wBs
     let v := drainAll t
     let x : BlkUnit := ((blkAccesses k 20 (blkUnit k v) v).1.toOption.getD { n := 0 })
     let u : State := (blkAccesses k 20 (blkUnit k v) v).2
     let n := BitVec.ofNat 32 x.n
     let a := if k.val < 2 ∨ yReg 10 u ≠ 0#32 then yPut 10 (yReg 10 u + n) u else u
     let b := if k = 1 then a else yPut 11 (yReg 11 a + n) a
     let c := yPut 12 (yReg 12 b - n) b
     let e := if k = 2 then yPut 13 (x.data.foldl (blkCrcByte u.yar.poly) (yReg 13 u)) c else c
     (Fetches w 4 s t) ∧ (blkAccesses k 20 (blkUnit k v) v = (.ok x, u)) ∧ (yDecode w 4 = .block k.val) ∧ (v.yar.sb = []) ∧
     (yReg 12 v ≠ 0#32) ∧ (yReg 12 e = 0#32) ∧ (units ≠ some 0)) :=
  ⟨fet_of (by decide +kernel), pair_of (ok_of (by decide +kernel)) rfl, by decide +kernel⟩

/-- Witnesses for Obligations.YarrowBlocksAndDebug, the clauses of YarrowBlockRoutines. -/
theorem wit_YarrowBlockRoutines_10 :
    (let s : State := wBs
     (yReg 12 s ≠ 0#32)) :=
  by decide +kernel

end Sys2Proof.Tests.T05

namespace Sys2Proof.Tests.T06
set_option Elab.async false
open Sys2Proof Sys2Proof.Machine Sys2Proof.Tests

def vw1 (op x vs2 vs1 km vd : Nat) : Word := BitVec.ofNat 32 (op * 2 ^ 26 + x * 2 ^ 25 + vs2 * 2 ^ 20 + vs1 * 2 ^ 15 + km * 2 ^ 12 + vd * 128 + 0x2B)
def vw2 (op km vs2 vs1 c vd : Nat) : Word := BitVec.ofNat 32 (op * 2 ^ 28 + km * 2 ^ 25 + vs2 * 2 ^ 20 + vs1 * 2 ^ 15 + c * 2 ^ 12 + vd * 128 + 0x5B)
def wVet (w : Word) (sew : Nat) (vl : Nat := 2) (s : State := State.reset) : State := wRun w (fun y => { y with fs := 1#2, vet := { y.vet with sew := sew, g := 0, vl := vl, vill := false, v := (y.vet.v.set! 1 0x3F800000FF017F02#2048).set! 2 0x40000000800000FE#2048 } }) s
def wVadd : State := wVet (vw1 0 0 2 1 0 4) 0
def wVadd0 : State := wVet (vw1 0 0 2 1 0 4) 0 0
def wVsub : State := wVet (vw1 1 0 2 1 0 4) 0
def wVssub : State := wVet (vw1 3 0 2 1 0 4) 0
def wVmin : State := wVet (vw1 4 0 2 1 0 4) 0
def wVsra : State := wVet (vw1 0xD 0 2 1 0 4) 0
def wVsll : State := wVet (vw1 0xB 0 2 1 0 4) 0
def wVmulh : State := wVet (vw1 0xF 0 2 1 0 4) 0
def wVmacc : State := wVet (vw1 0x10 0 2 1 0 4) 0
def wVmerge : State := wVet (vw1 0x11 0 2 1 0 4) 0
def wVmv : State := wVet (vw1 0x12 0 2 0 0 4) 0
def wVdn : State := wVet (vw1 0x13 1 2 1 0 4) 0
def wVup : State := wVet (vw1 0x14 1 2 1 0 4) 0
def wVlt : State := wVet (vw1 0x22 0 2 1 0 3) 0
def wVflt : State := wVet (vw1 0x2F 0 2 1 0 3) 2
def wVwm : State := wVet (vw1 0x18 0 2 1 0 4) 0
def wVd4 : State := wVet (vw1 0x1D 0 2 1 0 4) 0
def wVd2 : State := wVet (vw1 0x1F 0 2 1 0 4) 1
def wVfa : State := wVet (vw1 0x28 0 2 1 0 4) 2
def wVfs : State := wVet (vw1 0x29 0 2 1 0 4) 2
def wVfc : State := wVet (vw1 0x31 0 0 1 0 4) 2
def wVfx : State := wVet (vw1 0x32 0 0 1 0 4) 1
def wVfw : State := wVet (vw1 0x34 0 2 1 0 4) 1
def wVrs : State := wVet (vw1 0x38 0 0 1 0 4) 0
def wVrm : State := wVet (vw1 0x3A 0 0 1 0 4) 0
def wVfr : State := wVet (vw1 0x3C 0 0 1 0 4) 2
def wVfn : State := wVet (vw1 0x3D 0 0 1 1 4) 2
def wVf1 : State := wVet (vw1 0x3D 0 0 1 0 4) 2 1
def wVf2 : State := wVet (vw1 0x3D 0 0 2 0 4) 2 1
def wVkn : State := wVet (vw2 3 0 2 1 2 3) 0
def wVk (k c : Nat) (a b : Word) (d : Nat := 3) (z : Nat := 2) (f : Nat := 1) (sew : Nat := 0) : State := wYar (fun y => { y with x := (y.x.set! 1 a).set! 2 b }) (wVet (vw2 k 0 z f c d) sew)
def wVfm : State := wVet (vw1 0x3D 0 0 1 0 4) 2 4
def wVl (op c : Nat) (a : Word) : State := wMem 0x20000000 [0x04030201#32] (wVk op c a 1#32 4 0 1) |> wSet [(F.SYS_CIDEN_EN 0, 0x2000004), (F.SYS_ACCRLO_MASK 1, 0x2000002), (F.SYS_ACCWLO_MASK 1, 0x2000002), (F.SYS_ACCRLO_MASK 3, 0x2000002), (F.SYS_ACCWLO_MASK 3, 0x2000002)]
def wVs (c : Nat) : State := wMem 0x10000100 [0x04030201#32] (wVk 1 c 0x10000100#32 1#32 4 2 1) |> wSet [(F.SYS_CIDEN_EN 0, 0x2000004), (F.SYS_ACCRLO_MASK 1, 0x2000002), (F.SYS_ACCWLO_MASK 1, 0x2000002)]
def wVl0 : State := wVl 0 0 0x20000000#32
def wVst : State := wVl 0 1 0x20000000#32
def wVs1 : State := wVs 1
def wVl2 : State := wVs 0
def wVdeny : State := wVl 0 0 0x30000000#32
def wVfull : State := wYar (fun y => { y with vet := { y.vet with win := List.replicate 8 {} } }) wVadd
def wVill : State := wYar (fun y => { y with vet := { y.vet with vill := true } }) wVadd
def wVah : State := wMem 0x10000004 [vw1 0 0 2 1 0 4] (wVet 0x00000013#32 0)
def wVahl : State := wMem 0x10000004 [vw2 0 0 0 1 0 4] (wVet 0x00000013#32 0)
def wVan : State := wRun 0x00000073#32
def wVp : VPend := { pc := 0x10000000#32, word := vw1 0 0 2 1 0 4, vw := [(4, 5#2048)], kw := [], fl := 0 }
def wVc : State := wYar (fun y => { y with vet := { y.vet with pend := [wVp] } }) (wVet (vw1 0 0 2 1 0 4) 0)
def wVq : VPend := { pc := 0x10000000#32, word := vw2 0 0 0 1 0 4, vw := [(4, 5#2048)], kw := [], fl := 0, fault := some { e := 1, cause := 5, addr := 0x40000001, yf := 5 } }
def wVcl : State := wYar (fun y => { y with vet := { y.vet with pend := [wVq] } }) (wVet (vw2 0 0 0 1 0 4) 0)

/-- Witnesses for Obligations.VetchIntegers, the clauses of VetchIntegerLanes. -/
theorem wit_VetchIntegerLanes_1 :
    (let rows : List (Nat × (Bool → Instr) × (Nat → Nat → Nat → Nat → Nat)) := [(0x00, .vadd, fun ew a b _ => (a + b) % 2 ^ ew), (0x01, .vsub, fun ew a b _ => wrapAt ew ((a : Int) - b)), (0x02, .vsadd, fun ew a b _ => clampAt ew (sgn ew a + sgn ew b)), (0x03, .vssub, fun ew a b _ => clampAt ew (sgn ew a - sgn ew b)), (0x04, .vmin, fun ew a b _ => if sgn ew b < sgn ew a then b else a), (0x05, .vmax, fun ew a b _ => if sgn ew a < sgn ew b then b else a), (0x06, .vminu, fun _ a b _ => min a b), (0x07, .vmaxu, fun _ a b _ => max a b), (0x08, .vand, fun _ a b _ => a &&& b), (0x09, .vor, fun _ a b _ => a ||| b), (0x0A, .vxor, fun _ a b _ => a ^^^ b), (0x0B, .vsll, fun ew a b _ => a * 2 ^ (b % ew) % 2 ^ ew), (0x0C, .vsrl, fun ew a b _ => a / 2 ^ (b % ew)), (0x0D, .vsra, fun ew a b _ => wrapAt ew (sgn ew a / 2 ^ (b % ew))), (0x0E, .vmul, fun ew a b _ => a * b % 2 ^ ew), (0x0F, .vmulh, fun ew a b _ => wrapAt ew (sgn ew a * sgn ew b / 2 ^ ew)), (0x10, .vmacc, fun ew a b d => (d + a * b) % 2 ^ ew)]
     let e : Nat × (Bool → Instr) × (Nat → Nat → Nat → Nat → Nat) := (0x00, .vadd, fun ew a b _ => (a + b) % 2 ^ ew)
     let w : Word := vw1 0 0 2 1 0 4
     let s : State := wVadd
     let t : State := wGot wVadd
     let x := t.yar.vet.done
     (e ∈ rows) ∧ (VecEnters w s t) ∧ (wf w 0 7 = 0x2B) ∧ (vOp w = e.1) ∧ (x.vl ≠ 0)) ∧
    (let rows : List (Nat × (Bool → Instr) × (Nat → Nat → Nat → Nat → Nat)) := [(0x00, .vadd, fun ew a b _ => (a + b) % 2 ^ ew), (0x01, .vsub, fun ew a b _ => wrapAt ew ((a : Int) - b)), (0x02, .vsadd, fun ew a b _ => clampAt ew (sgn ew a + sgn ew b)), (0x03, .vssub, fun ew a b _ => clampAt ew (sgn ew a - sgn ew b)), (0x04, .vmin, fun ew a b _ => if sgn ew b < sgn ew a then b else a), (0x05, .vmax, fun ew a b _ => if sgn ew a < sgn ew b then b else a), (0x06, .vminu, fun _ a b _ => min a b), (0x07, .vmaxu, fun _ a b _ => max a b), (0x08, .vand, fun _ a b _ => a &&& b), (0x09, .vor, fun _ a b _ => a ||| b), (0x0A, .vxor, fun _ a b _ => a ^^^ b), (0x0B, .vsll, fun ew a b _ => a * 2 ^ (b % ew) % 2 ^ ew), (0x0C, .vsrl, fun ew a b _ => a / 2 ^ (b % ew)), (0x0D, .vsra, fun ew a b _ => wrapAt ew (sgn ew a / 2 ^ (b % ew))), (0x0E, .vmul, fun ew a b _ => a * b % 2 ^ ew), (0x0F, .vmulh, fun ew a b _ => wrapAt ew (sgn ew a * sgn ew b / 2 ^ ew)), (0x10, .vmacc, fun ew a b d => (d + a * b) % 2 ^ ew)]
     let e : Nat × (Bool → Instr) × (Nat → Nat → Nat → Nat → Nat) := (0x00, .vadd, fun ew a b _ => (a + b) % 2 ^ ew)
     let w : Word := vw1 0 0 2 1 0 4
     let s : State := wVadd0
     let t : State := wGot wVadd0
     let x := t.yar.vet.done
     (e ∈ rows) ∧ (VecEnters w s t) ∧ (wf w 0 7 = 0x2B) ∧ (vOp w = e.1) ∧ (x.vl = 0)) ∧
    (let rows : List (Nat × (Bool → Instr) × (Nat → Nat → Nat → Nat → Nat)) := [(0x00, .vadd, fun ew a b _ => (a + b) % 2 ^ ew), (0x01, .vsub, fun ew a b _ => wrapAt ew ((a : Int) - b)), (0x02, .vsadd, fun ew a b _ => clampAt ew (sgn ew a + sgn ew b)), (0x03, .vssub, fun ew a b _ => clampAt ew (sgn ew a - sgn ew b)), (0x04, .vmin, fun ew a b _ => if sgn ew b < sgn ew a then b else a), (0x05, .vmax, fun ew a b _ => if sgn ew a < sgn ew b then b else a), (0x06, .vminu, fun _ a b _ => min a b), (0x07, .vmaxu, fun _ a b _ => max a b), (0x08, .vand, fun _ a b _ => a &&& b), (0x09, .vor, fun _ a b _ => a ||| b), (0x0A, .vxor, fun _ a b _ => a ^^^ b), (0x0B, .vsll, fun ew a b _ => a * 2 ^ (b % ew) % 2 ^ ew), (0x0C, .vsrl, fun ew a b _ => a / 2 ^ (b % ew)), (0x0D, .vsra, fun ew a b _ => wrapAt ew (sgn ew a / 2 ^ (b % ew))), (0x0E, .vmul, fun ew a b _ => a * b % 2 ^ ew), (0x0F, .vmulh, fun ew a b _ => wrapAt ew (sgn ew a * sgn ew b / 2 ^ ew)), (0x10, .vmacc, fun ew a b d => (d + a * b) % 2 ^ ew)]
     let e : Nat × (Bool → Instr) × (Nat → Nat → Nat → Nat → Nat) := (0x01, .vsub, fun ew a b _ => wrapAt ew ((a : Int) - b))
     let w : Word := vw1 1 0 2 1 0 4
     let s : State := wVsub
     let t : State := wGot wVsub
     let x := t.yar.vet.done
     (e ∈ rows) ∧ (VecEnters w s t) ∧ (wf w 0 7 = 0x2B) ∧ (vOp w = e.1) ∧ (x.vl ≠ 0)) :=
  ⟨⟨by repeat (first | exact .head _ | apply List.Mem.tail), ⟨⟨fet_of (by decide +kernel), by decide +kernel⟩, by decide +kernel⟩, by decide +kernel⟩,
   ⟨by repeat (first | exact .head _ | apply List.Mem.tail), ⟨⟨fet_of (by decide +kernel), by decide +kernel⟩, by decide +kernel⟩, by decide +kernel⟩,
   ⟨by repeat (first | exact .head _ | apply List.Mem.tail), ⟨⟨fet_of (by decide +kernel), by decide +kernel⟩, by decide +kernel⟩, by decide +kernel⟩⟩

/-- Witnesses for Obligations.VetchIntegers, the clauses of VetchIntegerLanes. -/
theorem wit_VetchIntegerLanes_2 :
    (let rows : List (Nat × (Bool → Instr) × (Nat → Nat → Nat → Nat → Nat)) := [(0x00, .vadd, fun ew a b _ => (a + b) % 2 ^ ew), (0x01, .vsub, fun ew a b _ => wrapAt ew ((a : Int) - b)), (0x02, .vsadd, fun ew a b _ => clampAt ew (sgn ew a + sgn ew b)), (0x03, .vssub, fun ew a b _ => clampAt ew (sgn ew a - sgn ew b)), (0x04, .vmin, fun ew a b _ => if sgn ew b < sgn ew a then b else a), (0x05, .vmax, fun ew a b _ => if sgn ew a < sgn ew b then b else a), (0x06, .vminu, fun _ a b _ => min a b), (0x07, .vmaxu, fun _ a b _ => max a b), (0x08, .vand, fun _ a b _ => a &&& b), (0x09, .vor, fun _ a b _ => a ||| b), (0x0A, .vxor, fun _ a b _ => a ^^^ b), (0x0B, .vsll, fun ew a b _ => a * 2 ^ (b % ew) % 2 ^ ew), (0x0C, .vsrl, fun ew a b _ => a / 2 ^ (b % ew)), (0x0D, .vsra, fun ew a b _ => wrapAt ew (sgn ew a / 2 ^ (b % ew))), (0x0E, .vmul, fun ew a b _ => a * b % 2 ^ ew), (0x0F, .vmulh, fun ew a b _ => wrapAt ew (sgn ew a * sgn ew b / 2 ^ ew)), (0x10, .vmacc, fun ew a b d => (d + a * b) % 2 ^ ew)]
     let e : Nat × (Bool → Instr) × (Nat → Nat → Nat → Nat → Nat) := (0x03, .vssub, fun ew a b _ => clampAt ew (sgn ew a - sgn ew b))
     let w : Word := vw1 3 0 2 1 0 4
     let s : State := wVssub
     let t : State := wGot wVssub
     let x := t.yar.vet.done
     (e ∈ rows) ∧ (VecEnters w s t) ∧ (wf w 0 7 = 0x2B) ∧ (vOp w = e.1) ∧ (x.vl ≠ 0)) ∧
    (let rows : List (Nat × (Bool → Instr) × (Nat → Nat → Nat → Nat → Nat)) := [(0x00, .vadd, fun ew a b _ => (a + b) % 2 ^ ew), (0x01, .vsub, fun ew a b _ => wrapAt ew ((a : Int) - b)), (0x02, .vsadd, fun ew a b _ => clampAt ew (sgn ew a + sgn ew b)), (0x03, .vssub, fun ew a b _ => clampAt ew (sgn ew a - sgn ew b)), (0x04, .vmin, fun ew a b _ => if sgn ew b < sgn ew a then b else a), (0x05, .vmax, fun ew a b _ => if sgn ew a < sgn ew b then b else a), (0x06, .vminu, fun _ a b _ => min a b), (0x07, .vmaxu, fun _ a b _ => max a b), (0x08, .vand, fun _ a b _ => a &&& b), (0x09, .vor, fun _ a b _ => a ||| b), (0x0A, .vxor, fun _ a b _ => a ^^^ b), (0x0B, .vsll, fun ew a b _ => a * 2 ^ (b % ew) % 2 ^ ew), (0x0C, .vsrl, fun ew a b _ => a / 2 ^ (b % ew)), (0x0D, .vsra, fun ew a b _ => wrapAt ew (sgn ew a / 2 ^ (b % ew))), (0x0E, .vmul, fun ew a b _ => a * b % 2 ^ ew), (0x0F, .vmulh, fun ew a b _ => wrapAt ew (sgn ew a * sgn ew b / 2 ^ ew)), (0x10, .vmacc, fun ew a b d => (d + a * b) % 2 ^ ew)]
     let e : Nat × (Bool → Instr) × (Nat → Nat → Nat → Nat → Nat) := (0x04, .vmin, fun ew a b _ => if sgn ew b < sgn ew a then b else a)
     let w : Word := vw1 4 0 2 1 0 4
     let s : State := wVmin
     let t : State := wGot wVmin
     let x := t.yar.vet.done
     (e ∈ rows) ∧ (VecEnters w s t) ∧ (wf w 0 7 = 0x2B) ∧ (vOp w = e.1) ∧ (x.vl ≠ 0)) ∧
    (let rows : List (Nat × (Bool → Instr) × (Nat → Nat → Nat → Nat → Nat)) := [(0x00, .vadd, fun ew a b _ => (a + b) % 2 ^ ew), (0x01, .vsub, fun ew a b _ => wrapAt ew ((a : Int) - b)), (0x02, .vsadd, fun ew a b _ => clampAt ew (sgn ew a + sgn ew b)), (0x03, .vssub, fun ew a b _ => clampAt ew (sgn ew a - sgn ew b)), (0x04, .vmin, fun ew a b _ => if sgn ew b < sgn ew a then b else a), (0x05, .vmax, fun ew a b _ => if sgn ew a < sgn ew b then b else a), (0x06, .vminu, fun _ a b _ => min a b), (0x07, .vmaxu, fun _ a b _ => max a b), (0x08, .vand, fun _ a b _ => a &&& b), (0x09, .vor, fun _ a b _ => a ||| b), (0x0A, .vxor, fun _ a b _ => a ^^^ b), (0x0B, .vsll, fun ew a b _ => a * 2 ^ (b % ew) % 2 ^ ew), (0x0C, .vsrl, fun ew a b _ => a / 2 ^ (b % ew)), (0x0D, .vsra, fun ew a b _ => wrapAt ew (sgn ew a / 2 ^ (b % ew))), (0x0E, .vmul, fun ew a b _ => a * b % 2 ^ ew), (0x0F, .vmulh, fun ew a b _ => wrapAt ew (sgn ew a * sgn ew b / 2 ^ ew)), (0x10, .vmacc, fun ew a b d => (d + a * b) % 2 ^ ew)]
     let e : Nat × (Bool → Instr) × (Nat → Nat → Nat → Nat → Nat) := (0x0D, .vsra, fun ew a b _ => wrapAt ew (sgn ew a / 2 ^ (b % ew)))
     let w : Word := vw1 0xD 0 2 1 0 4
     let s : State := wVsra
     let t : State := wGot wVsra
     let x := t.yar.vet.done
     (e ∈ rows) ∧ (VecEnters w s t) ∧ (wf w 0 7 = 0x2B) ∧ (vOp w = e.1) ∧ (x.vl ≠ 0)) :=
  ⟨⟨by repeat (first | exact .head _ | apply List.Mem.tail), ⟨⟨fet_of (by decide +kernel), by decide +kernel⟩, by decide +kernel⟩, by decide +kernel⟩,
   ⟨by repeat (first | exact .head _ | apply List.Mem.tail), ⟨⟨fet_of (by decide +kernel), by decide +kernel⟩, by decide +kernel⟩, by decide +kernel⟩,
   ⟨by repeat (first | exact .head _ | apply List.Mem.tail), ⟨⟨fet_of (by decide +kernel), by decide +kernel⟩, by decide +kernel⟩, by decide +kernel⟩⟩

/-- Witnesses for Obligations.VetchIntegers, the clauses of VetchIntegerLanes. -/
theorem wit_VetchIntegerLanes_3 :
    (let rows : List (Nat × (Bool → Instr) × (Nat → Nat → Nat → Nat → Nat)) := [(0x00, .vadd, fun ew a b _ => (a + b) % 2 ^ ew), (0x01, .vsub, fun ew a b _ => wrapAt ew ((a : Int) - b)), (0x02, .vsadd, fun ew a b _ => clampAt ew (sgn ew a + sgn ew b)), (0x03, .vssub, fun ew a b _ => clampAt ew (sgn ew a - sgn ew b)), (0x04, .vmin, fun ew a b _ => if sgn ew b < sgn ew a then b else a), (0x05, .vmax, fun ew a b _ => if sgn ew a < sgn ew b then b else a), (0x06, .vminu, fun _ a b _ => min a b), (0x07, .vmaxu, fun _ a b _ => max a b), (0x08, .vand, fun _ a b _ => a &&& b), (0x09, .vor, fun _ a b _ => a ||| b), (0x0A, .vxor, fun _ a b _ => a ^^^ b), (0x0B, .vsll, fun ew a b _ => a * 2 ^ (b % ew) % 2 ^ ew), (0x0C, .vsrl, fun ew a b _ => a / 2 ^ (b % ew)), (0x0D, .vsra, fun ew a b _ => wrapAt ew (sgn ew a / 2 ^ (b % ew))), (0x0E, .vmul, fun ew a b _ => a * b % 2 ^ ew), (0x0F, .vmulh, fun ew a b _ => wrapAt ew (sgn ew a * sgn ew b / 2 ^ ew)), (0x10, .vmacc, fun ew a b d => (d + a * b) % 2 ^ ew)]
     let e : Nat × (Bool → Instr) × (Nat → Nat → Nat → Nat → Nat) := (0x0B, .vsll, fun ew a b _ => a * 2 ^ (b % ew) % 2 ^ ew)
     let w : Word := vw1 0xB 0 2 1 0 4
     let s : State := wVsll
     let t : State := wGot wVsll
     let x := t.yar.vet.done
     (e ∈ rows) ∧ (VecEnters w s t) ∧ (wf w 0 7 = 0x2B) ∧ (vOp w = e.1) ∧ (x.vl ≠ 0)) ∧
    (let rows : List (Nat × (Bool → Instr) × (Nat → Nat → Nat → Nat → Nat)) := [(0x00, .vadd, fun ew a b _ => (a + b) % 2 ^ ew), (0x01, .vsub, fun ew a b _ => wrapAt ew ((a : Int) - b)), (0x02, .vsadd, fun ew a b _ => clampAt ew (sgn ew a + sgn ew b)), (0x03, .vssub, fun ew a b _ => clampAt ew (sgn ew a - sgn ew b)), (0x04, .vmin, fun ew a b _ => if sgn ew b < sgn ew a then b else a), (0x05, .vmax, fun ew a b _ => if sgn ew a < sgn ew b then b else a), (0x06, .vminu, fun _ a b _ => min a b), (0x07, .vmaxu, fun _ a b _ => max a b), (0x08, .vand, fun _ a b _ => a &&& b), (0x09, .vor, fun _ a b _ => a ||| b), (0x0A, .vxor, fun _ a b _ => a ^^^ b), (0x0B, .vsll, fun ew a b _ => a * 2 ^ (b % ew) % 2 ^ ew), (0x0C, .vsrl, fun ew a b _ => a / 2 ^ (b % ew)), (0x0D, .vsra, fun ew a b _ => wrapAt ew (sgn ew a / 2 ^ (b % ew))), (0x0E, .vmul, fun ew a b _ => a * b % 2 ^ ew), (0x0F, .vmulh, fun ew a b _ => wrapAt ew (sgn ew a * sgn ew b / 2 ^ ew)), (0x10, .vmacc, fun ew a b d => (d + a * b) % 2 ^ ew)]
     let e : Nat × (Bool → Instr) × (Nat → Nat → Nat → Nat → Nat) := (0x0F, .vmulh, fun ew a b _ => wrapAt ew (sgn ew a * sgn ew b / 2 ^ ew))
     let w : Word := vw1 0xF 0 2 1 0 4
     let s : State := wVmulh
     let t : State := wGot wVmulh
     let x := t.yar.vet.done
     (e ∈ rows) ∧ (VecEnters w s t) ∧ (wf w 0 7 = 0x2B) ∧ (vOp w = e.1) ∧ (x.vl ≠ 0)) ∧
    (let rows : List (Nat × (Bool → Instr) × (Nat → Nat → Nat → Nat → Nat)) := [(0x00, .vadd, fun ew a b _ => (a + b) % 2 ^ ew), (0x01, .vsub, fun ew a b _ => wrapAt ew ((a : Int) - b)), (0x02, .vsadd, fun ew a b _ => clampAt ew (sgn ew a + sgn ew b)), (0x03, .vssub, fun ew a b _ => clampAt ew (sgn ew a - sgn ew b)), (0x04, .vmin, fun ew a b _ => if sgn ew b < sgn ew a then b else a), (0x05, .vmax, fun ew a b _ => if sgn ew a < sgn ew b then b else a), (0x06, .vminu, fun _ a b _ => min a b), (0x07, .vmaxu, fun _ a b _ => max a b), (0x08, .vand, fun _ a b _ => a &&& b), (0x09, .vor, fun _ a b _ => a ||| b), (0x0A, .vxor, fun _ a b _ => a ^^^ b), (0x0B, .vsll, fun ew a b _ => a * 2 ^ (b % ew) % 2 ^ ew), (0x0C, .vsrl, fun ew a b _ => a / 2 ^ (b % ew)), (0x0D, .vsra, fun ew a b _ => wrapAt ew (sgn ew a / 2 ^ (b % ew))), (0x0E, .vmul, fun ew a b _ => a * b % 2 ^ ew), (0x0F, .vmulh, fun ew a b _ => wrapAt ew (sgn ew a * sgn ew b / 2 ^ ew)), (0x10, .vmacc, fun ew a b d => (d + a * b) % 2 ^ ew)]
     let e : Nat × (Bool → Instr) × (Nat → Nat → Nat → Nat → Nat) := (0x10, .vmacc, fun ew a b d => (d + a * b) % 2 ^ ew)
     let w : Word := vw1 0x10 0 2 1 0 4
     let s : State := wVmacc
     let t : State := wGot wVmacc
     let x := t.yar.vet.done
     (e ∈ rows) ∧ (VecEnters w s t) ∧ (wf w 0 7 = 0x2B) ∧ (vOp w = e.1) ∧ (x.vl ≠ 0)) :=
  ⟨⟨by repeat (first | exact .head _ | apply List.Mem.tail), ⟨⟨fet_of (by decide +kernel), by decide +kernel⟩, by decide +kernel⟩, by decide +kernel⟩,
   ⟨by repeat (first | exact .head _ | apply List.Mem.tail), ⟨⟨fet_of (by decide +kernel), by decide +kernel⟩, by decide +kernel⟩, by decide +kernel⟩,
   ⟨by repeat (first | exact .head _ | apply List.Mem.tail), ⟨⟨fet_of (by decide +kernel), by decide +kernel⟩, by decide +kernel⟩, by decide +kernel⟩⟩

/-- Witnesses for Obligations.VetchIntegers, the clauses of VetchMovesAndSlides. -/
theorem wit_VetchMovesAndSlides_1 :
    (let w : Word := vw1 0x11 0 2 1 0 4
     let s : State := wVmerge
     let t : State := wGot wVmerge
     let x := t.yar.vet.done
     (VecEnters w s t) ∧ (wf w 0 7 = 0x2B) ∧ (x.vl ≠ 0) ∧ (vOp w = 0x11)) ∧
    (let w : Word := vw1 0x12 0 2 0 0 4
     let s : State := wVmv
     let t : State := wGot wVmv
     let x := t.yar.vet.done
     (VecEnters w s t) ∧ (wf w 0 7 = 0x2B) ∧ (x.vl ≠ 0) ∧ (vOp w = 0x12)) ∧
    (let w : Word := vw1 0x13 1 2 1 0 4
     let s : State := wVdn
     let t : State := wGot wVdn
     let x := t.yar.vet.done
     (VecEnters w s t) ∧ (wf w 0 7 = 0x2B) ∧ (x.vl ≠ 0) ∧ (vOp w = 0x13)) :=
  ⟨⟨⟨⟨fet_of (by decide +kernel), by decide +kernel⟩, by decide +kernel⟩, by decide +kernel⟩,
   ⟨⟨⟨fet_of (by decide +kernel), by decide +kernel⟩, by decide +kernel⟩, by decide +kernel⟩,
   ⟨⟨⟨fet_of (by decide +kernel), by decide +kernel⟩, by decide +kernel⟩, by decide +kernel⟩⟩

/-- Witnesses for Obligations.VetchIntegers, the clauses of VetchMovesAndSlides. -/
theorem wit_VetchMovesAndSlides_2 :
    (let w : Word := vw1 0x14 1 2 1 0 4
     let s : State := wVup
     let t : State := wGot wVup
     let x := t.yar.vet.done
     (VecEnters w s t) ∧ (wf w 0 7 = 0x2B) ∧ (x.vl ≠ 0) ∧ (vOp w = 0x14)) :=
  ⟨⟨⟨fet_of (by decide +kernel), by decide +kernel⟩, by decide +kernel⟩, by decide +kernel⟩

/-- Witnesses for Obligations.VetchComparesAndMasks, the clauses of VetchCompares. -/
theorem wit_VetchCompares :
    (let rows : List (Nat × (Bool → Instr) × (Nat → Nat → Nat → Bool)) := [(0x20, .vmseq, fun _ a b => a == b), (0x21, .vmsne, fun _ a b => a != b), (0x22, .vmslt, fun ew a b => decide (sgn ew a < sgn ew b)), (0x23, .vmsltu, fun _ a b => decide (a < b)), (0x24, .vmsle, fun ew a b => decide (sgn ew a ≤ sgn ew b)), (0x25, .vmsleu, fun _ a b => decide (a ≤ b))]
     let w : Word := vw1 0x22 0 2 1 0 3
     let s : State := wVlt
     let t : State := wGot wVlt
     let x := t.yar.vet.done
     let e : Nat × (Bool → Instr) × (Nat → Nat → Nat → Bool) := (0x22, .vmslt, fun ew a b => decide (sgn ew a < sgn ew b))
     (VecEnters w s t) ∧ (e ∈ rows) ∧ (wf w 0 7 = 0x2B) ∧ (x.vl ≠ 0) ∧ (vOp w = e.1)) ∧
    (let fprows : List (Nat × (Bool → Instr) × Nat) := [(0x2E, .vfmseq, 2), (0x2F, .vfmslt, 1), (0x30, .vfmsle, 0)]
     let w : Word := vw1 0x2F 0 2 1 0 3
     let s : State := wVflt
     let t : State := wGot wVflt
     let x := t.yar.vet.done
     let e : Nat × (Bool → Instr) × Nat := (0x2F, .vfmslt, 1)
     (VecEnters w s t) ∧ (e ∈ fprows) ∧ (wf w 0 7 = 0x2B) ∧ (x.vl ≠ 0) ∧ (vOp w = e.1)) :=
  ⟨⟨⟨⟨fet_of (by decide +kernel), by decide +kernel⟩, by decide +kernel⟩, by repeat (first | exact .head _ | apply List.Mem.tail), by decide +kernel⟩,
   ⟨⟨⟨fet_of (by decide +kernel), by decide +kernel⟩, by decide +kernel⟩, by repeat (first | exact .head _ | apply List.Mem.tail), by decide +kernel⟩⟩

/-- Witnesses for Obligations.VetchWidening. -/
theorem wit_VetchWidening :
    (let rows : List (Nat × (Bool → Instr) × (Nat → Nat → Nat → Nat → Nat)) := [(0x18, .vwmul, fun ew a b _ => wrapAt (2 * ew) (sgn ew a * sgn ew b)), (0x19, .vwmulu, fun _ a b _ => a * b), (0x1A, .vwmulsu, fun ew a b _ => wrapAt (2 * ew) (sgn ew a * b)), (0x1B, .vwmacc, fun ew a b d => wrapAt (2 * ew) (d + sgn ew a * sgn ew b)), (0x1C, .vwmaccu, fun ew a b d => (d + a * b) % 2 ^ (2 * ew))]
     let w : Word := vw1 0x18 0 2 1 0 4
     let s : State := wVwm
     let t : State := wGot wVwm
     let x := t.yar.vet.done
     let e : Nat × (Bool → Instr) × (Nat → Nat → Nat → Nat → Nat) := (0x18, .vwmul, fun ew a b _ => wrapAt (2 * ew) (sgn ew a * sgn ew b))
     (VecEnters w s t) ∧ (e ∈ rows) ∧ (wf w 0 7 = 0x2B) ∧ (x.vl ≠ 0) ∧ (vOp w = e.1)) ∧
    (let dots : List (Nat × (Bool → Instr) × Nat × Nat × Nat × Bool) := [(0x1D, .vdot4, 4, 32, 1, true), (0x1E, .vdot4u, 4, 32, 1, false), (0x1F, .vdot2, 2, 64, 2, true)]
     let w : Word := vw1 0x1D 0 2 1 0 4
     let s : State := wVd4
     let t : State := wGot wVd4
     let x := t.yar.vet.done
     let e : Nat × (Bool → Instr) × Nat × Nat × Nat × Bool := (0x1D, .vdot4, 4, 32, 1, true)
     (VecEnters w s t) ∧ (e ∈ dots) ∧ (wf w 0 7 = 0x2B) ∧ (x.vl ≠ 0) ∧ (vOp w = e.1)) ∧
    (let dots : List (Nat × (Bool → Instr) × Nat × Nat × Nat × Bool) := [(0x1D, .vdot4, 4, 32, 1, true), (0x1E, .vdot4u, 4, 32, 1, false), (0x1F, .vdot2, 2, 64, 2, true)]
     let w : Word := vw1 0x1F 0 2 1 0 4
     let s : State := wVd2
     let t : State := wGot wVd2
     let x := t.yar.vet.done
     let e : Nat × (Bool → Instr) × Nat × Nat × Nat × Bool := (0x1F, .vdot2, 2, 64, 2, true)
     (VecEnters w s t) ∧ (e ∈ dots) ∧ (wf w 0 7 = 0x2B) ∧ (x.vl ≠ 0) ∧ (vOp w = e.1)) :=
  ⟨⟨⟨⟨fet_of (by decide +kernel), by decide +kernel⟩, by decide +kernel⟩, by repeat (first | exact .head _ | apply List.Mem.tail), by decide +kernel⟩,
   ⟨⟨⟨fet_of (by decide +kernel), by decide +kernel⟩, by decide +kernel⟩, by repeat (first | exact .head _ | apply List.Mem.tail), by decide +kernel⟩,
   ⟨⟨⟨fet_of (by decide +kernel), by decide +kernel⟩, by decide +kernel⟩, by repeat (first | exact .head _ | apply List.Mem.tail), by decide +kernel⟩⟩

/-- Witnesses for Obligations.VetchFloats, the clauses of VetchFloatLanes. -/
theorem wit_VetchFloatLanes_1 :
    (let rows : List (Nat × (Bool → Instr) × (Fmt → Nat → Nat → Nat → Nat → Nat → Nat × FlagSet)) := [(0x28, .vfadd, fun f rm _ a b _ => fpAdd f rm (f.read a) (f.read b)), (0x29, .vfsub, fun f rm _ a b _ => fpAdd f rm (f.read a) (f.read b).neg), (0x2A, .vfmul, fun f rm _ a b _ => fpMul f rm (f.read a) (f.read b)), (0x2B, .vfmacc, fun f rm _ a b d => fpFma f rm (f.read a) (f.read b) (f.read d)), (0x2C, .vfmin, fun f _ _ a b _ => fpMinMax f false a b), (0x2D, .vfmax, fun f _ _ a b _ => fpMinMax f true a b), (0x31, .vfcvtFX, fun f rm ew a _ _ => f.roundInt rm false (sgn ew a) 0), (0x32, .vfcvtXF, fun f rm ew a _ _ => fpToInt ew false rm (f.read a))]
     let w : Word := vw1 0x28 0 2 1 0 4
     let s : State := wVfa
     let t : State := wGot wVfa
     let x := t.yar.vet.done
     let rm := t.yar.frm.toNat
     let e : Nat × (Bool → Instr) × (Fmt → Nat → Nat → Nat → Nat → Nat → Nat × FlagSet) := (0x28, .vfadd, fun f rm _ a b _ => fpAdd f rm (f.read a) (f.read b))
     (VecEnters w s t) ∧ (e ∈ rows) ∧ (wf w 0 7 = 0x2B) ∧ (x.vl ≠ 0) ∧ (vOp w = e.1)) ∧
    (let rows : List (Nat × (Bool → Instr) × (Fmt → Nat → Nat → Nat → Nat → Nat → Nat × FlagSet)) := [(0x28, .vfadd, fun f rm _ a b _ => fpAdd f rm (f.read a) (f.read b)), (0x29, .vfsub, fun f rm _ a b _ => fpAdd f rm (f.read a) (f.read b).neg), (0x2A, .vfmul, fun f rm _ a b _ => fpMul f rm (f.read a) (f.read b)), (0x2B, .vfmacc, fun f rm _ a b d => fpFma f rm (f.read a) (f.read b) (f.read d)), (0x2C, .vfmin, fun f _ _ a b _ => fpMinMax f false a b), (0x2D, .vfmax, fun f _ _ a b _ => fpMinMax f true a b), (0x31, .vfcvtFX, fun f rm ew a _ _ => f.roundInt rm false (sgn ew a) 0), (0x32, .vfcvtXF, fun f rm ew a _ _ => fpToInt ew false rm (f.read a))]
     let w : Word := vw1 0x29 0 2 1 0 4
     let s : State := wVfs
     let t : State := wGot wVfs
     let x := t.yar.vet.done
     let rm := t.yar.frm.toNat
     let e : Nat × (Bool → Instr) × (Fmt → Nat → Nat → Nat → Nat → Nat → Nat × FlagSet) := (0x29, .vfsub, fun f rm _ a b _ => fpAdd f rm (f.read a) (f.read b).neg)
     (VecEnters w s t) ∧ (e ∈ rows) ∧ (wf w 0 7 = 0x2B) ∧ (x.vl ≠ 0) ∧ (vOp w = e.1)) ∧
    (let rows : List (Nat × (Bool → Instr) × (Fmt → Nat → Nat → Nat → Nat → Nat → Nat × FlagSet)) := [(0x28, .vfadd, fun f rm _ a b _ => fpAdd f rm (f.read a) (f.read b)), (0x29, .vfsub, fun f rm _ a b _ => fpAdd f rm (f.read a) (f.read b).neg), (0x2A, .vfmul, fun f rm _ a b _ => fpMul f rm (f.read a) (f.read b)), (0x2B, .vfmacc, fun f rm _ a b d => fpFma f rm (f.read a) (f.read b) (f.read d)), (0x2C, .vfmin, fun f _ _ a b _ => fpMinMax f false a b), (0x2D, .vfmax, fun f _ _ a b _ => fpMinMax f true a b), (0x31, .vfcvtFX, fun f rm ew a _ _ => f.roundInt rm false (sgn ew a) 0), (0x32, .vfcvtXF, fun f rm ew a _ _ => fpToInt ew false rm (f.read a))]
     let w : Word := vw1 0x31 0 0 1 0 4
     let s : State := wVfc
     let t : State := wGot wVfc
     let x := t.yar.vet.done
     let rm := t.yar.frm.toNat
     let e : Nat × (Bool → Instr) × (Fmt → Nat → Nat → Nat → Nat → Nat → Nat × FlagSet) := (0x31, .vfcvtFX, fun f rm ew a _ _ => f.roundInt rm false (sgn ew a) 0)
     (VecEnters w s t) ∧ (e ∈ rows) ∧ (wf w 0 7 = 0x2B) ∧ (x.vl ≠ 0) ∧ (vOp w = e.1)) :=
  ⟨⟨⟨⟨fet_of (by decide +kernel), by decide +kernel⟩, by decide +kernel⟩, by repeat (first | exact .head _ | apply List.Mem.tail), by decide +kernel⟩,
   ⟨⟨⟨fet_of (by decide +kernel), by decide +kernel⟩, by decide +kernel⟩, by repeat (first | exact .head _ | apply List.Mem.tail), by decide +kernel⟩,
   ⟨⟨⟨fet_of (by decide +kernel), by decide +kernel⟩, by decide +kernel⟩, by repeat (first | exact .head _ | apply List.Mem.tail), by decide +kernel⟩⟩

/-- Witnesses for Obligations.VetchFloats, the clauses of VetchFloatLanes. -/
theorem wit_VetchFloatLanes_2 :
    (let rows : List (Nat × (Bool → Instr) × (Fmt → Nat → Nat → Nat → Nat → Nat → Nat × FlagSet)) := [(0x28, .vfadd, fun f rm _ a b _ => fpAdd f rm (f.read a) (f.read b)), (0x29, .vfsub, fun f rm _ a b _ => fpAdd f rm (f.read a) (f.read b).neg), (0x2A, .vfmul, fun f rm _ a b _ => fpMul f rm (f.read a) (f.read b)), (0x2B, .vfmacc, fun f rm _ a b d => fpFma f rm (f.read a) (f.read b) (f.read d)), (0x2C, .vfmin, fun f _ _ a b _ => fpMinMax f false a b), (0x2D, .vfmax, fun f _ _ a b _ => fpMinMax f true a b), (0x31, .vfcvtFX, fun f rm ew a _ _ => f.roundInt rm false (sgn ew a) 0), (0x32, .vfcvtXF, fun f rm ew a _ _ => fpToInt ew false rm (f.read a))]
     let w : Word := vw1 0x32 0 0 1 0 4
     let s : State := wVfx
     let t : State := wGot wVfx
     let x := t.yar.vet.done
     let rm := t.yar.frm.toNat
     let e : Nat × (Bool → Instr) × (Fmt → Nat → Nat → Nat → Nat → Nat → Nat × FlagSet) := (0x32, .vfcvtXF, fun f rm ew a _ _ => fpToInt ew false rm (f.read a))
     (VecEnters w s t) ∧ (e ∈ rows) ∧ (wf w 0 7 = 0x2B) ∧ (x.vl ≠ 0) ∧ (vOp w = e.1)) ∧
    (let wide : List (Nat × (Bool → Instr) × (Nat → Nat → Nat → Nat → Nat × FlagSet)) := [(0x33, .vfwmul, fun rm a b _ => fpMul f32 rm (f16.read a) (f16.read b)), (0x34, .vfwmacc, fun rm a b d => fpFma f32 rm (f16.read a) (f16.read b) (f32.read d))]
     let w : Word := vw1 0x34 0 2 1 0 4
     let s : State := wVfw
     let t : State := wGot wVfw
     let x := t.yar.vet.done
     let rm := t.yar.frm.toNat
     let e : Nat × (Bool → Instr) × (Nat → Nat → Nat → Nat → Nat × FlagSet) := (0x34, .vfwmacc, fun rm a b d => fpFma f32 rm (f16.read a) (f16.read b) (f32.read d))
     (VecEnters w s t) ∧ (e ∈ wide) ∧ (wf w 0 7 = 0x2B) ∧ (x.vl ≠ 0) ∧ (vOp w = e.1)) :=
  ⟨⟨⟨⟨fet_of (by decide +kernel), by decide +kernel⟩, by decide +kernel⟩, by repeat (first | exact .head _ | apply List.Mem.tail), by decide +kernel⟩,
   ⟨⟨⟨fet_of (by decide +kernel), by decide +kernel⟩, by decide +kernel⟩, by repeat (first | exact .head _ | apply List.Mem.tail), by decide +kernel⟩⟩

/-- Witnesses for Obligations.VetchFloats, the clauses of VetchReductions. -/
theorem wit_VetchReductions_1 :
    (let rows : List (Nat × (Bool → Instr) × (Nat → List Nat → Nat)) := [(0x38, .vredsum, fun ew es => es.foldl (fun v e => (v + e) % 2 ^ ew) 0), (0x39, .vredmax, fun ew es => es.foldl (fun v e => if sgn ew v < sgn ew e then e else v) (2 ^ (ew - 1))), (0x3A, .vredmin, fun ew es => es.foldl (fun v e => if sgn ew e < sgn ew v then e else v) (2 ^ (ew - 1) - 1)), (0x3B, .vredmaxu, fun _ es => es.foldl max 0)]
     let w : Word := vw1 0x38 0 0 1 0 4
     let s : State := wVrs
     let t : State := wGot wVrs
     let x := t.yar.vet.done
     let es := ((List.range x.vl).filter (vecAct w x)).map (vecA w x)
     let e : Nat × (Bool → Instr) × (Nat → List Nat → Nat) := (0x38, .vredsum, fun ew es => es.foldl (fun v e => (v + e) % 2 ^ ew) 0)
     (VecEnters w s t) ∧ (e ∈ rows) ∧ (wf w 0 7 = 0x2B) ∧ (x.vl ≠ 0) ∧ (vOp w = e.1)) ∧
    (let rows : List (Nat × (Bool → Instr) × (Nat → List Nat → Nat)) := [(0x38, .vredsum, fun ew es => es.foldl (fun v e => (v + e) % 2 ^ ew) 0), (0x39, .vredmax, fun ew es => es.foldl (fun v e => if sgn ew v < sgn ew e then e else v) (2 ^ (ew - 1))), (0x3A, .vredmin, fun ew es => es.foldl (fun v e => if sgn ew e < sgn ew v then e else v) (2 ^ (ew - 1) - 1)), (0x3B, .vredmaxu, fun _ es => es.foldl max 0)]
     let w : Word := vw1 0x3A 0 0 1 0 4
     let s : State := wVrm
     let t : State := wGot wVrm
     let x := t.yar.vet.done
     let es := ((List.range x.vl).filter (vecAct w x)).map (vecA w x)
     let e : Nat × (Bool → Instr) × (Nat → List Nat → Nat) := (0x3A, .vredmin, fun ew es => es.foldl (fun v e => if sgn ew e < sgn ew v then e else v) (2 ^ (ew - 1) - 1))
     (VecEnters w s t) ∧ (e ∈ rows) ∧ (wf w 0 7 = 0x2B) ∧ (x.vl ≠ 0) ∧ (vOp w = e.1)) ∧
    (let w : Word := vw1 0x3C 0 0 1 0 4
     let s : State := wVfr
     let t : State := wGot wVfr
     let x := t.yar.vet.done
     (VecEnters w s t) ∧ (wf w 0 7 = 0x2B) ∧ (x.vl ≠ 0) ∧ (vOp w = 0x3C)) :=
  ⟨⟨⟨⟨fet_of (by decide +kernel), by decide +kernel⟩, by decide +kernel⟩, by repeat (first | exact .head _ | apply List.Mem.tail), by decide +kernel⟩,
   ⟨⟨⟨fet_of (by decide +kernel), by decide +kernel⟩, by decide +kernel⟩, by repeat (first | exact .head _ | apply List.Mem.tail), by decide +kernel⟩,
   ⟨⟨⟨fet_of (by decide +kernel), by decide +kernel⟩, by decide +kernel⟩, by decide +kernel⟩⟩

/-- Witnesses for Obligations.VetchFloats, the clauses of VetchReductions. -/
theorem wit_VetchReductions_2 :
    (let w : Word := vw1 0x3D 0 0 1 1 4
     let s : State := wVfn
     let t : State := wGot wVfn
     let x := t.yar.vet.done
     (VecEnters w s t) ∧ (wf w 0 7 = 0x2B) ∧ (x.vl ≠ 0) ∧ (vOp w = 0x3D)) ∧
    (let w : Word := vw1 0x3D 0 0 1 0 4
     let s : State := wVf1
     let t : State := wGot wVf1
     let x := t.yar.vet.done
     (VecEnters w s t) ∧ (wf w 0 7 = 0x2B) ∧ (x.vl ≠ 0) ∧ (vOp w = 0x3D)) ∧
    (let w : Word := vw1 0x3D 0 0 2 0 4
     let s : State := wVf2
     let t : State := wGot wVf2
     let x := t.yar.vet.done
     (VecEnters w s t) ∧ (wf w 0 7 = 0x2B) ∧ (x.vl ≠ 0) ∧ (vOp w = 0x3D)) :=
  ⟨⟨⟨⟨fet_of (by decide +kernel), by decide +kernel⟩, by decide +kernel⟩, by decide +kernel⟩,
   ⟨⟨⟨fet_of (by decide +kernel), by decide +kernel⟩, by decide +kernel⟩, by decide +kernel⟩,
   ⟨⟨⟨fet_of (by decide +kernel), by decide +kernel⟩, by decide +kernel⟩, by decide +kernel⟩⟩

/-- Witnesses for Obligations.VetchFloats, the clauses of VetchReductions. -/
theorem wit_VetchReductions_3 :
    (let w : Word := vw1 0x3D 0 0 1 0 4
     let s : State := wVfm
     let t : State := wGot wVfm
     let x := t.yar.vet.done
     (VecEnters w s t) ∧ (wf w 0 7 = 0x2B) ∧ (x.vl ≠ 0) ∧ (vOp w = 0x3D)) :=
  ⟨⟨⟨fet_of (by decide +kernel), by decide +kernel⟩, by decide +kernel⟩, by decide +kernel⟩

/-- Witnesses for Obligations.VetchComparesAndMasks, the clauses of VetchMasks. -/
theorem wit_VetchMasks :
    (let rows : List (Nat × (Bool → Instr) × (BitVec 2048 → BitVec 2048 → BitVec 2048)) := [(0, .vkand, fun a b => a &&& b), (1, .vkor, fun a b => a ||| b), (2, .vkxor, fun a b => a ^^^ b), (3, .vkandn, fun a b => a &&& ~~~b), (4, .vknot, fun a _ => ~~~a)]
     let e : Nat × (Bool → Instr) × (BitVec 2048 → BitVec 2048 → BitVec 2048) := (3, .vkandn, fun (a b : BitVec 2048) => a &&& ~~~b)
     let w : Word := vw2 3 0 2 1 2 3
     let s : State := wVkn
     let t : State := wGot wVkn
     (e ∈ rows) ∧ (VecEnters w s t) ∧ (wf w 0 7 = 0x5B) ∧ (mClass w = 2) ∧ (mOp w = e.1)) :=
  ⟨by repeat (first | exact .head _ | apply List.Mem.tail), ⟨⟨fet_of (by decide +kernel), by decide +kernel⟩, by decide +kernel⟩, by decide +kernel⟩

/-- Witnesses for Obligations.VetchScalarsAndConfig. -/
theorem wit_VetchScalarsAndConfig_1 :
    (let w : Word := vw2 0 0 0 1 3 3
     let s : State := wVk 0 3 0#32 0#32 3 0 1
     let t : State := wGot (wVk 0 3 0#32 0#32 3 0 1)
     (VecRuns w s t) ∧ (wf w 0 7 = 0x5B) ∧ (mClass w = 3) ∧ (mOp w = 0)) ∧
    (let w : Word := vw2 1 0 0 1 3 3
     let s : State := wVk 1 3 0#32 0#32 3 0 1
     let t : State := wGot (wVk 1 3 0#32 0#32 3 0 1)
     (VecRuns w s t) ∧ (wf w 0 7 = 0x5B) ∧ (mClass w = 3) ∧ (mOp w = 1)) ∧
    (let w : Word := vw2 2 0 2 1 3 3
     let s : State := wVk 2 3 0#32 0#32 3 2 1
     let t : State := wGot (wVk 2 3 0#32 0#32 3 2 1)
     (VecRuns w s t) ∧ (wf w 0 7 = 0x5B) ∧ (mClass w = 3) ∧ (mOp w = 2)) :=
  ⟨⟨⟨fet_of (by decide +kernel), by decide +kernel⟩, by decide +kernel⟩,
   ⟨⟨fet_of (by decide +kernel), by decide +kernel⟩, by decide +kernel⟩,
   ⟨⟨fet_of (by decide +kernel), by decide +kernel⟩, by decide +kernel⟩⟩

/-- Witnesses for Obligations.VetchScalarsAndConfig. -/
theorem wit_VetchScalarsAndConfig_2 :
    (let w : Word := vw2 3 0 2 1 3 3
     let s : State := wVk 3 3 0#32 0#32 3 2 1 3
     let t : State := wGot (wVk 3 3 0#32 0#32 3 2 1 3)
     (VecRuns w s t) ∧ (wf w 0 7 = 0x5B) ∧ (mClass w = 3) ∧ (mOp w = 3)) ∧
    (let w : Word := vw2 0 0 2 1 4 3
     let s : State := wVk 0 4 9#32 15#32 3 2 1
     let t : State := wGot (wVk 0 4 9#32 15#32 3 2 1)
     (VecRuns w s t) ∧ (wf w 0 7 = 0x5B) ∧ (mClass w = 4) ∧ (mOp w = 0) ∧ ((yReg (vVs2 w) t).toNat < 16)) ∧
    (let w : Word := vw2 0 0 2 1 4 3
     let s : State := wVk 0 4 9#32 16#32 3 2 1
     let t : State := wGot (wVk 0 4 9#32 16#32 3 2 1)
     (VecRuns w s t) ∧ (wf w 0 7 = 0x5B) ∧ (mClass w = 4) ∧ (mOp w = 0) ∧ (16 ≤ (yReg (vVs2 w) t).toNat)) :=
  ⟨⟨⟨fet_of (by decide +kernel), by decide +kernel⟩, by decide +kernel⟩,
   ⟨⟨fet_of (by decide +kernel), by decide +kernel⟩, by decide +kernel⟩,
   ⟨⟨fet_of (by decide +kernel), by decide +kernel⟩, by decide +kernel⟩⟩

/-- Witnesses for Obligations.VetchScalarsAndConfig. -/
theorem wit_VetchScalarsAndConfig_3 :
    (let w : Word := vw2 1 0 0 0 4 3
     let s : State := wVk 1 4 9#32 16#32 3 0 0
     let t : State := wGot (wVk 1 4 9#32 16#32 3 0 0)
     (VecRuns w s t) ∧ (wf w 0 7 = 0x5B) ∧ (mClass w = 4) ∧ (mOp w = 1)) ∧
    (let w : Word := vw2 2 0 0 0 4 0
     let s : State := wVk 2 4 9#32 16#32 0 0 0
     let t : State := wGot (wVk 2 4 9#32 16#32 0 0 0)
     (VecRuns w s t) ∧ (wf w 0 7 = 0x5B) ∧ (mClass w = 4) ∧ (mOp w = 2)) ∧
    (let w : Word := vw2 3 0 0 0 4 0
     let s : State := wVk 3 4 9#32 16#32 0 0 0
     let t : State := wGot (wVk 3 4 9#32 16#32 0 0 0)
     (VecRuns w s t) ∧ (wf w 0 7 = 0x5B) ∧ (mClass w = 4) ∧ (mOp w = 3)) :=
  ⟨⟨⟨fet_of (by decide +kernel), by decide +kernel⟩, by decide +kernel⟩,
   ⟨⟨fet_of (by decide +kernel), by decide +kernel⟩, by decide +kernel⟩,
   ⟨⟨fet_of (by decide +kernel), by decide +kernel⟩, by decide +kernel⟩⟩

/-- Witnesses for Obligations.VetchGroups, the clauses of VetchWindow. -/
theorem wit_VetchWindow_1 :
    (let e := (isVec1 0x0, Instr.vadd)
     let w : Word := vw1 0 0 2 1 0 4
     let s : State := wVadd0
     let t : State := wGot wVadd0
     (e ∈ vecForms) ∧ (Fetches w 4 s t) ∧ (e.1 (.vec w) = true) ∧ (yDecode w 4 = .vec w) ∧ (t.yar.vet.pend = []) ∧
     (vLegal w { t.yar.vet with path := [] } t.yar = true) ∧ (t.yar.vet.win.length < 8) ∧ (wf w 0 7 = 0x2B) ∧ (t.yar.vet.vl = 0)) ∧
    (let e := (isVec1 0x0, Instr.vadd)
     let w : Word := vw1 0 0 2 1 0 4
     let s : State := wVfull
     let t : State := wGot wVfull
     (e ∈ vecForms) ∧ (Fetches w 4 s t) ∧ (e.1 (.vec w) = true) ∧ (yDecode w 4 = .vec w) ∧ (t.yar.vet.pend = []) ∧
     (vLegal w { t.yar.vet with path := [] } t.yar = true) ∧ (8 ≤ t.yar.vet.win.length)) ∧
    (let e := (isVec1 0x0, Instr.vadd)
     let w : Word := vw1 0 0 2 1 0 4
     let s : State := wVill
     let t : State := wGot wVill
     (e ∈ vecForms) ∧ (Fetches w 4 s t) ∧ (e.1 (.vec w) = true) ∧ (yDecode w 4 = .vec w) ∧ (t.yar.vet.pend = []) ∧
     (vLegal w { t.yar.vet with path := [] } t.yar = false) ∧ (t.yar.dbg.halted = false)) :=
  ⟨⟨by repeat (first | exact .head _ | apply List.Mem.tail), fet_of (by decide +kernel), by decide +kernel⟩,
   ⟨by repeat (first | exact .head _ | apply List.Mem.tail), fet_of (by decide +kernel), by decide +kernel⟩,
   ⟨by repeat (first | exact .head _ | apply List.Mem.tail), fet_of (by decide +kernel), by decide +kernel⟩⟩

/-- Witnesses for Obligations.VetchGroups, the clauses of VetchWindow. -/
theorem wit_VetchWindow_2 :
    (let e := (isVec1 0x1, Instr.vsub)
     let w : Word := vw1 0 0 2 1 0 4
     let len : Nat := 4
     let s : State := wVadd
     let t : State := wGot wVadd
     (e ∈ vecForms) ∧ (Fetches w len s t) ∧ (yDecode w len ≠ .illegal) ∧ (e.1 (yDecode w len) = false)) ∧
    (let e := (isVec1 0x1, Instr.vsub)
     let s : State := State.reset
     (e ∈ vecForms) ∧ (s.yar.run = false ∨ s.yar.dbg.halted = true ∨ s.yar.wait.isSome = true)) :=
  ⟨⟨by repeat (first | exact .head _ | apply List.Mem.tail), fet_of (by decide +kernel), by decide +kernel⟩,
   ⟨by repeat (first | exact .head _ | apply List.Mem.tail), by decide +kernel⟩⟩

/-- Witnesses for Obligations.VetchMemory. -/
theorem wit_VetchMemory_1 :
    (let loads : List (Nat × (Option Nat → Instr)) := [(0, .vle false), (1, .vlse false), (2, .vlxe false), (3, .vlr false), (4, .vlk false)]
     let w : Word := vw2 0 0 0 1 0 4
     let s : State := wVl0
     let t : State := wGot wVl0
     let e : Nat × (Option Nat → Instr) := (0, .vle false)
     (VecRuns w s t) ∧ (e ∈ loads) ∧ (wf w 0 7 = 0x5B) ∧ (mClass w ≤ 1) ∧ (mClass w = 0) ∧ (mOp w = e.1)) ∧
    (let loads : List (Nat × (Option Nat → Instr)) := [(0, .vle false), (1, .vlse false), (2, .vlxe false), (3, .vlr false), (4, .vlk false)]
     let w : Word := vw2 0 0 0 1 0 4
     let s : State := wVdeny
     let t : State := wGot wVdeny
     let e : Nat × (Option Nat → Instr) := (0, .vle false)
     (VecRuns w s t) ∧ (e ∈ loads) ∧ (wf w 0 7 = 0x5B) ∧ (mClass w ≤ 1) ∧ (mClass w = 0) ∧ (mOp w = e.1)) ∧
    (let loads : List (Nat × (Option Nat → Instr)) := [(0, .vle false), (1, .vlse false), (2, .vlxe false), (3, .vlr false), (4, .vlk false)]
     let w : Word := vw2 1 0 2 1 0 4
     let s : State := wVl2
     let t : State := wGot wVl2
     let e : Nat × (Option Nat → Instr) := (1, .vlse false)
     (VecRuns w s t) ∧ (e ∈ loads) ∧ (wf w 0 7 = 0x5B) ∧ (mClass w ≤ 1) ∧ (mClass w = 0) ∧ (mOp w = e.1)) :=
  ⟨⟨⟨fet_of (by decide +kernel), by decide +kernel⟩, by repeat (first | exact .head _ | apply List.Mem.tail), by decide +kernel⟩,
   ⟨⟨fet_of (by decide +kernel), by decide +kernel⟩, by repeat (first | exact .head _ | apply List.Mem.tail), by decide +kernel⟩,
   ⟨⟨fet_of (by decide +kernel), by decide +kernel⟩, by repeat (first | exact .head _ | apply List.Mem.tail), by decide +kernel⟩⟩

/-- Witnesses for Obligations.VetchMemory. -/
theorem wit_VetchMemory_2 :
    (let stores : List (Nat × (Option Nat → Instr)) := [(0, .vse), (1, .vsse), (2, .vsxe), (3, .vsr), (4, .vsk)]
     let w : Word := vw2 0 0 0 1 1 4
     let s : State := wVst
     let t : State := wGot wVst
     let e : Nat × (Option Nat → Instr) := (0, .vse)
     (VecRuns w s t) ∧ (e ∈ stores) ∧ (wf w 0 7 = 0x5B) ∧ (mClass w ≤ 1) ∧ (mClass w = 1) ∧ (mOp w = e.1)) ∧
    (let stores : List (Nat × (Option Nat → Instr)) := [(0, .vse), (1, .vsse), (2, .vsxe), (3, .vsr), (4, .vsk)]
     let w : Word := vw2 1 0 2 1 1 4
     let s : State := wVs1
     let t : State := wGot wVs1
     let e : Nat × (Option Nat → Instr) := (1, .vsse)
     (VecRuns w s t) ∧ (e ∈ stores) ∧ (wf w 0 7 = 0x5B) ∧ (mClass w ≤ 1) ∧ (mClass w = 1) ∧ (mOp w = e.1)) :=
  ⟨⟨⟨fet_of (by decide +kernel), by decide +kernel⟩, by repeat (first | exact .head _ | apply List.Mem.tail), by decide +kernel⟩,
   ⟨⟨fet_of (by decide +kernel), by decide +kernel⟩, by repeat (first | exact .head _ | apply List.Mem.tail), by decide +kernel⟩⟩

/-- Witnesses for Obligations.VetchMemory. -/
theorem wit_VetchMemory_3 :
    (let s : State := State.reset
     (s.yar.dbg.halted = false)) :=
  by decide +kernel

/-- Witnesses for Obligations.VetchMemory, the clauses of VetchRunsAhead. -/
theorem wit_VetchRunsAhead_1 :
    (let ready := fun (s : State) => s.yar.run = true ∧ s.yar.dbg.halted = false ∧ s.yar.wfi = false ∧ s.yar.wait = none ∧ s.yar.vet.pend.length < 2
     let walk := fun (s : State) => aheadWalk 16 s.yar.pc s.yar.vet.pend.length [] [] s.begin
     let free := fun (w : Word) (older : List YInstr) => ∀ i ∈ older, (wf w 0 7 = 0x2B → vX w = true → yWrites i (vVs2 w) = false) ∧ (wf w 0 7 = 0x5B → mClass w = 0 → yWrites i (vVs1 w) = false ∧ (mOp w = 1 → yWrites i (vVs2 w) = false))
     let w : Word := vw1 0 0 2 1 0 4
     let pc : Word := 0x10000004#32
     let path : List Word := [0x10000004#32]
     let older : List YInstr := [yDecode 0x13#32 4]
     let s : State := wVah
     let e := (isVec1 0x0, Instr.vadd)
     (e ∈ vecForms) ∧ (ready s) ∧ (walk s = some (w, pc, path, older)) ∧ (free w older) ∧ (e.1 (.vec w) = true)) ∧
    (let loads : List ((YInstr → Bool) × (Bool → Option Nat → Instr)) := [(isVec2 0 0, .vle), (isVec2 0 1, .vlse), (isVec2 0 2, .vlxe), (isVec2 0 3, .vlr), (isVec2 0 4, .vlk)]
     let ready := fun (s : State) => s.yar.run = true ∧ s.yar.dbg.halted = false ∧ s.yar.wfi = false ∧ s.yar.wait = none ∧ s.yar.vet.pend.length < 2
     let walk := fun (s : State) => aheadWalk 16 s.yar.pc s.yar.vet.pend.length [] [] s.begin
     let free := fun (w : Word) (older : List YInstr) => ∀ i ∈ older, (wf w 0 7 = 0x2B → vX w = true → yWrites i (vVs2 w) = false) ∧ (wf w 0 7 = 0x5B → mClass w = 0 → yWrites i (vVs1 w) = false ∧ (mOp w = 1 → yWrites i (vVs2 w) = false))
     let w : Word := vw2 0 0 0 1 0 4
     let pc : Word := 0x10000004#32
     let path : List Word := [0x10000004#32]
     let older : List YInstr := [yDecode 0x13#32 4]
     let s : State := wVahl
     let e : (YInstr → Bool) × (Bool → Option Nat → Instr) := (isVec2 0 0, Instr.vle)
     (e ∈ loads) ∧ (ready s) ∧ (walk s = some (w, pc, path, older)) ∧ (free w older) ∧ (e.1 (.vec w) = true)) ∧
    (let ready := fun (s : State) => s.yar.run = true ∧ s.yar.dbg.halted = false ∧ s.yar.wfi = false ∧ s.yar.wait = none ∧ s.yar.vet.pend.length < 2
     let walk := fun (s : State) => aheadWalk 16 s.yar.pc s.yar.vet.pend.length [] [] s.begin
     let s : State := wVan
     let e := (isVec1 0x0, Instr.vadd)
     (e ∈ vecForms) ∧ (ready s) ∧ (walk s = none)) :=
  ⟨⟨by repeat (first | exact .head _ | apply List.Mem.tail), by decide +kernel⟩,
   ⟨by repeat (first | exact .head _ | apply List.Mem.tail), by decide +kernel⟩,
   ⟨by repeat (first | exact .head _ | apply List.Mem.tail), by decide +kernel⟩⟩

/-- Witnesses for Obligations.VetchMemory, the clauses of VetchRunsAhead. -/
theorem wit_VetchRunsAhead_2 :
    (let loads : List ((YInstr → Bool) × (Bool → Option Nat → Instr)) := [(isVec2 0 0, .vle), (isVec2 0 1, .vlse), (isVec2 0 2, .vlxe), (isVec2 0 3, .vlr), (isVec2 0 4, .vlk)]
     let ready := fun (s : State) => s.yar.run = true ∧ s.yar.dbg.halted = false ∧ s.yar.wfi = false ∧ s.yar.wait = none ∧ s.yar.vet.pend.length < 2
     let walk := fun (s : State) => aheadWalk 16 s.yar.pc s.yar.vet.pend.length [] [] s.begin
     let s : State := wVan
     let e : (YInstr → Bool) × (Bool → Option Nat → Instr) := (isVec2 0 0, Instr.vle)
     (e ∈ loads) ∧ (ready s) ∧ (walk s = none)) ∧
    (let p : VPend := wVp
     let rest : List VPend := []
     let s : State := wVc
     let t : State := wGot wVc
     (Fetches p.word 4 s t) ∧ (yDecode p.word 4 = .vec p.word) ∧ (s.yar.vet.pend = p :: rest) ∧ (t.yar.vet.pend = p :: rest) ∧
     (t.yar.pc = p.pc)) ∧
    (let p : VPend := wVp
     let rest : List VPend := []
     let s : State := wVc
     let t : State := wGot wVc
     let e := (isVec1 0x0, Instr.vadd)
     (Fetches p.word 4 s t) ∧ (e ∈ vecForms) ∧ (yDecode p.word 4 = .vec p.word) ∧ (s.yar.vet.pend = p :: rest) ∧
     (t.yar.vet.pend = p :: rest) ∧ (t.yar.pc = p.pc) ∧ (e.1 (.vec p.word) = true)) :=
  ⟨⟨by repeat (first | exact .head _ | apply List.Mem.tail), by decide +kernel⟩,
   ⟨fet_of (by decide +kernel), by decide +kernel⟩,
   ⟨fet_of (by decide +kernel), by repeat (first | exact .head _ | apply List.Mem.tail), by decide +kernel⟩⟩

/-- Witnesses for Obligations.VetchMemory, the clauses of VetchRunsAhead. -/
theorem wit_VetchRunsAhead_3 :
    (let loads : List ((YInstr → Bool) × (Bool → Option Nat → Instr)) := [(isVec2 0 0, .vle), (isVec2 0 1, .vlse), (isVec2 0 2, .vlxe), (isVec2 0 3, .vlr), (isVec2 0 4, .vlk)]
     let p : VPend := wVq
     let rest : List VPend := []
     let s : State := wVcl
     let t : State := wGot wVcl
     let e : (YInstr → Bool) × (Bool → Option Nat → Instr) := (isVec2 0 0, Instr.vle)
     (Fetches p.word 4 s t) ∧ (e ∈ loads) ∧ (yDecode p.word 4 = .vec p.word) ∧ (s.yar.vet.pend = p :: rest) ∧
     (t.yar.vet.pend = p :: rest) ∧ (t.yar.pc = p.pc) ∧ (e.1 (.vec p.word) = true)) :=
  ⟨fet_of (by decide +kernel), by repeat (first | exact .head _ | apply List.Mem.tail), by decide +kernel⟩

/-- Witnesses for Obligations.VetchMemory, the clauses of VetchRunsAhead. -/
theorem wit_VetchRunsAhead_4 :
    (let w : Word := vw1 0 0 2 1 0 4
     let s : State := wVah
     (vLegal w s.yar.vet.view s.yar = true) ∧ (s.yar.vet.pend.length < 2) ∧ ((∀ p ∈ s.yar.vet.pend, p.fault = none)) ∧
     (vRegOnly w = true)) ∧
    (let w : Word := vw1 0 0 2 1 0 4
     let s : State := wVill
     (vLegal w s.yar.vet.view s.yar = false ∨ s.yar.vet.pend.length = 2 ∨ (∃ p ∈ s.yar.vet.pend, p.fault.isSome = true))) ∧
    (let s : State := State.reset
     (s.yar.vet.pend = [])) :=
  by decide +kernel

/-- Witnesses for Obligations.VetchGroups. -/
theorem wit_VetchGroups :
    (let n : Nat := 1
     let c : Nat := 2
     (n + c ≤ 32)) ∧
    (let ew : Nat := 8
     (0 < ew)) :=
  by decide +kernel

end Sys2Proof.Tests.T06

namespace Sys2Proof.Tests.T07
set_option Elab.async false
open Sys2Proof Sys2Proof.Machine Sys2Proof.Tests

def wMc (g : MemCtl → MemCtl) (s : State := State.reset) : State := { s with memCtl := g s.memCtl }
def wMarch (e : Nat) : State := wMc fun m => { m with march := some { bank := 3, elem := e } }
def wMtr : State := wMc fun m => { m with march := some { bank := 3, elem := 1, transparent := true, seglen := 2 } }

/-- Witnesses for Obligations.MemoryControl, the clauses of BankPower. -/
theorem wit_BankPower_1 :
    (let cid : Cid := 1#6
     let b : Fin 68 := 67
     let v : Word := 1#32
     let s : State := State.reset
     let req := fieldOf 0 2 v
     let bad := req = 3 ∨ (b.val = 0x0F ∧ req = 2) ∨ (0x40 ≤ b.val ∧ req ≠ 0) ∨ bankCoreHeld b.val s = false ∨ marchOn b.val s = true
     (Admits cid true (R.MEM_PWR b.val).addr s) ∧ (cid.toNat ≤ 1) ∧ (bad)) ∧
    (let cid : Cid := 1#6
     let b : Fin 68 := 15
     let v : Word := 2#32
     let s : State := State.reset
     let req := fieldOf 0 2 v
     let bad := req = 3 ∨ (b.val = 0x0F ∧ req = 2) ∨ (0x40 ≤ b.val ∧ req ≠ 0) ∨ bankCoreHeld b.val s = false ∨ marchOn b.val s = true
     (Admits cid true (R.MEM_PWR b.val).addr s) ∧ (cid.toNat ≤ 1) ∧ (bad)) ∧
    (let cid : Cid := 1#6
     let b : Fin 68 := 23
     let v : Word := 3#32
     let s : State := State.reset
     let req := fieldOf 0 2 v
     let bad := req = 3 ∨ (b.val = 0x0F ∧ req = 2) ∨ (0x40 ≤ b.val ∧ req ≠ 0) ∨ bankCoreHeld b.val s = false ∨ marchOn b.val s = true
     (Admits cid true (R.MEM_PWR b.val).addr s) ∧ (cid.toNat ≤ 1) ∧ (bad)) :=
  by decide +kernel

/-- Witnesses for Obligations.MemoryControl, the clauses of BankPower. -/
theorem wit_BankPower_2 :
    (let cid : Cid := 1#6
     let b : Fin 68 := 23
     let v : Word := 4#32
     let s : State := State.reset
     let req := fieldOf 0 2 v
     let bad := req = 3 ∨ (b.val = 0x0F ∧ req = 2) ∨ (0x40 ≤ b.val ∧ req ≠ 0) ∨ bankCoreHeld b.val s = false ∨ marchOn b.val s = true
     let same := pwrTarget b.val s = none ∧ bankPower b.val s = req
     (Admits cid true (R.MEM_PWR b.val).addr s) ∧ (cid.toNat ≤ 1) ∧ (¬bad) ∧ (same)) ∧
    (let cid : Cid := 1#6
     let b : Fin 68 := 23
     let v : Word := 2#32
     let s : State := State.reset
     let req := fieldOf 0 2 v
     let bad := req = 3 ∨ (b.val = 0x0F ∧ req = 2) ∨ (0x40 ≤ b.val ∧ req ≠ 0) ∨ bankCoreHeld b.val s = false ∨ marchOn b.val s = true
     let same := pwrTarget b.val s = none ∧ bankPower b.val s = req
     (Admits cid true (R.MEM_PWR b.val).addr s) ∧ (cid.toNat ≤ 1) ∧ (¬bad) ∧ (¬same) ∧ (pendingAt (.bank b) s = [])) ∧
    (let cid : Cid := 1#6
     let b : Fin 68 := 23
     let v : Word := 0#32
     let s : State := wMc fun m => { m with pwrTo := [(23, 2), (22, 1)] }
     let req := fieldOf 0 2 v
     let bad := req = 3 ∨ (b.val = 0x0F ∧ req = 2) ∨ (0x40 ≤ b.val ∧ req ≠ 0) ∨ bankCoreHeld b.val s = false ∨ marchOn b.val s = true
     let same := pwrTarget b.val s = none ∧ bankPower b.val s = req
     (Admits cid true (R.MEM_PWR b.val).addr s) ∧ (cid.toNat ≤ 1) ∧ (¬bad) ∧ (¬same) ∧ (pendingAt (.bank b) s = [])) :=
  by decide +kernel

/-- Witnesses for Obligations.MemoryControl, the clauses of BankPower. -/
theorem wit_BankPower_3 :
    (let cid : Cid := 1#6
     let b : Fin 68 := 23
     let v : Word := 0x82#32
     let s : State := { State.reset with svc := { State.reset.svc with pending := [(.bank 23, { cid := 1, write := false, addr := 0x20000000#32, sz := 2 })] } }
     let req := fieldOf 0 2 v
     let bad := req = 3 ∨ (b.val = 0x0F ∧ req = 2) ∨ (0x40 ≤ b.val ∧ req ≠ 0) ∨ bankCoreHeld b.val s = false ∨ marchOn b.val s = true
     let same := pwrTarget b.val s = none ∧ bankPower b.val s = req
     (Admits cid true (R.MEM_PWR b.val).addr s) ∧ (cid.toNat ≤ 1) ∧ (¬bad) ∧ (¬same) ∧ (pendingAt (.bank b) s ≠ [])) ∧
    (let b : Fin 68 := 23
     let t : Nat := 0
     let s : State := wMc (fun m => { m with pwrTo := [(23, 0)] }) (wSet [(F.MEM_PWR_STATE 23, 2)])
     (pwrTarget b.val s = some t) ∧ (t = 0)) ∧
    (let b : Fin 68 := 23
     let t : Nat := 2
     let s : State := wMem 0x20000000 [5#32] (wMc fun m => { m with pwrTo := [(23, 2)] })
     (pwrTarget b.val s = some t) ∧ (t ≠ 0) ∧ ((t = 1 → bankPower b.val s ≠ 2))) :=
  by decide +kernel

/-- Witnesses for Obligations.MemoryControl, the clauses of BankPower. -/
theorem wit_BankPower_4 :
    (let b : Fin 68 := 23
     let t : Nat := 1
     let s : State := wMc (fun m => { m with pwrTo := [(23, 1)] })
     (pwrTarget b.val s = some t) ∧ (t ≠ 0) ∧ ((t = 1 → bankPower b.val s ≠ 2))) ∧
    (let b : Fin 68 := 23
     let t : Nat := 1
     let s : State := wMc (fun m => { m with pwrTo := [(23, 1)] }) (wSet [(F.MEM_PWR_STATE 23, 2)])
     (pwrTarget b.val s = some t) ∧ (t = 1) ∧ (bankPower b.val s = 2)) ∧
    (let b : Fin 68 := 23
     let s : State := State.reset
     (pwrTarget b.val s = none)) :=
  by decide +kernel

/-- Witnesses for Obligations.MemoryControl, the clauses of SecureWipe. -/
theorem wit_SecureWipe_1 :
    (let cid : Cid := 1#6
     let v : Word := 0x5EC00001#32
     let s : State := State.reset
     (Admits cid true R.MEM_SECCTL.addr s) ∧ (cid.toNat ≤ 1) ∧ (natBit v.toNat 0 = true) ∧ (fieldOf 16 16 v = 0x5EC0)) ∧
    (let cid : Cid := 1#6
     let v : Word := 0x5EC10001#32
     let s : State := State.reset
     (Admits cid true R.MEM_SECCTL.addr s) ∧ (cid.toNat ≤ 1) ∧ (natBit v.toNat 0 = true) ∧ (fieldOf 16 16 v ≠ 0x5EC0)) ∧
    (let cid : Cid := 1#6
     let v : Word := 0x5EC00002#32
     let s : State := State.reset
     (Admits cid true R.MEM_SECCTL.addr s) ∧ (cid.toNat ≤ 1) ∧ (natBit v.toNat 0 = false)) :=
  by decide +kernel

/-- Witnesses for Obligations.MemoryControl, the clauses of SecureWipe. -/
theorem wit_SecureWipe_2 :
    (let s : State := State.reset
     (s.on F.MEM_SECSTAT_WIPING = false)) ∧
    (let s : State := wMc (fun m => { m with wipeCauses := [.software] }) (wSet [(F.MEM_SECSTAT_WIPING, 1)])
     (s.on F.MEM_SECSTAT_WIPING = true) ∧ (.tamper ∉ s.memCtl.wipeCauses) ∧ (.lifeCycle ∉ s.memCtl.wipeCauses)) :=
  by decide +kernel

/-- Witnesses for Obligations.MemoryControl, the clauses of MarchRuns. -/
theorem wit_MarchRuns_1 :
    (let cid : Cid := 1#6
     let v : Word := 0x003F0640#32
     let s : State := State.reset
     let u := s.begin.setWord R.MEM_MARCHCTL (v &&& 0x00FF03FF#32)
     let b := u.get F.MEM_MARCHCTL_BANK
     let tr := u.on F.MEM_MARCHCTL_MODE
     let ok := s.memCtl.march = none ∧ b ∈ bankIds ∧ bankPower b u = 0 ∧ pwrTarget b s = none ∧ bankCoreHeld b s = true ∧ (tr = true ∨ u.get F.MEM_MARCHCTL_SEGLEN = 0)
     (Admits cid true R.MEM_MARCHCTL.addr s) ∧ (cid.toNat ≤ 1) ∧ (natBit v.toNat 10 = true) ∧ (natBit v.toNat 11 = false) ∧
     (¬ok)) ∧
    (let cid : Cid := 1#6
     let v : Word := 0x003F0503#32
     let s : State := State.reset
     let u := s.begin.setWord R.MEM_MARCHCTL (v &&& 0x00FF03FF#32)
     let b := u.get F.MEM_MARCHCTL_BANK
     let tr := u.on F.MEM_MARCHCTL_MODE
     let ok := s.memCtl.march = none ∧ b ∈ bankIds ∧ bankPower b u = 0 ∧ pwrTarget b s = none ∧ bankCoreHeld b s = true ∧ (tr = true ∨ u.get F.MEM_MARCHCTL_SEGLEN = 0)
     (Admits cid true R.MEM_MARCHCTL.addr s) ∧ (cid.toNat ≤ 1) ∧ (natBit v.toNat 10 = true) ∧ (natBit v.toNat 11 = false) ∧ (ok) ∧
     (tr = true)) ∧
    (let cid : Cid := 1#6
     let v : Word := 0x00000603#32
     let s : State := State.reset
     let u := s.begin.setWord R.MEM_MARCHCTL (v &&& 0x00FF03FF#32)
     let b := u.get F.MEM_MARCHCTL_BANK
     let tr := u.on F.MEM_MARCHCTL_MODE
     let ok := s.memCtl.march = none ∧ b ∈ bankIds ∧ bankPower b u = 0 ∧ pwrTarget b s = none ∧ bankCoreHeld b s = true ∧ (tr = true ∨ u.get F.MEM_MARCHCTL_SEGLEN = 0)
     (Admits cid true R.MEM_MARCHCTL.addr s) ∧ (cid.toNat ≤ 1) ∧ (natBit v.toNat 10 = true) ∧ (natBit v.toNat 11 = false) ∧ (ok) ∧
     (tr = false)) :=
  by decide +kernel

/-- Witnesses for Obligations.MemoryControl, the clauses of MarchRuns. -/
theorem wit_MarchRuns_2 :
    (let cid : Cid := 1#6
     let v : Word := 0x00000803#32
     let s : State := State.reset
     (Admits cid true R.MEM_MARCHCTL.addr s) ∧ (cid.toNat ≤ 1) ∧ (natBit v.toNat 10 = false) ∧ (natBit v.toNat 11 = true) ∧
     (s.memCtl.march = none)) ∧
    (let cid : Cid := 1#6
     let v : Word := 0x00000803#32
     let s : State := wMarch 1
     let m : March := { bank := 3, elem := 1 }
     (Admits cid true R.MEM_MARCHCTL.addr s) ∧ (cid.toNat ≤ 1) ∧ (natBit v.toNat 10 = false) ∧ (natBit v.toNat 11 = true) ∧
     (s.memCtl.march = some m) ∧ (m.transparent = false)) ∧
    (let cid : Cid := 1#6
     let v : Word := 0x00000803#32
     let s : State := wMtr
     let m : March := { bank := 3, elem := 1, transparent := true, seglen := 2 }
     (Admits cid true R.MEM_MARCHCTL.addr s) ∧ (cid.toNat ≤ 1) ∧ (natBit v.toNat 10 = false) ∧ (natBit v.toNat 11 = true) ∧
     (s.memCtl.march = some m) ∧ (m.transparent = true)) :=
  by decide +kernel

/-- Witnesses for Obligations.MemoryControl, the clauses of MarchRuns. -/
theorem wit_MarchRuns_3 :
    (let s : State := State.reset
     (s.memCtl.march = none)) ∧
    (let m : March := { bank := 3, elem := 5 }
     let flips : List (Nat × Nat × BitVec 39) := [(5, 9000, 1#39), (4, 1, 1#39)]
     let s : State := wMarch 5
     (s.memCtl.march = some m) ∧ (m.transparent = false) ∧
     ((m.elem = 1 ∨ ∀ f ∈ flips, f.1 = m.elem → bankWords m.bank ≤ f.2.1 ∨ f.2.2 = 0#39))) ∧
    (let m : March := { bank := 3, elem := 6 }
     let flips : List (Nat × Nat × BitVec 39) := []
     let s : State := wMarch 6
     (s.memCtl.march = some m) ∧ (m.transparent = false) ∧
     ((m.elem = 1 ∨ ∀ f ∈ flips, f.1 = m.elem → bankWords m.bank ≤ f.2.1 ∨ f.2.2 = 0#39))) :=
  by decide +kernel

/-- Witnesses for Obligations.MemoryControl, the clauses of MarchRuns. -/
theorem wit_MarchRuns_4 :
    (let m : March := { bank := 3, elem := 2 }
     let flips : List (Nat × Nat × BitVec 39) := [(2, 8191, 5#39)]
     let s : State := wMarch 2
     let w : Nat := 8191
     let x : BitVec 39 := 5#39
     (s.memCtl.march = some m) ∧ (m.transparent = false) ∧ (2 ≤ m.elem) ∧ (flips = [(m.elem, w, x)]) ∧ (w < bankWords m.bank) ∧
     (x ≠ 0#39)) ∧
    (let m : March := { bank := 3, elem := 1, transparent := true, seglen := 2 }
     let s : State := wMtr
     (s.memCtl.march = some m) ∧ (m.transparent = true)) :=
  by decide +kernel

/-- Witnesses for Obligations.MemoryControl, the clauses of WordsAreCoded. -/
theorem wit_WordsAreCoded_1 :
    (let p : Fin 39 := 38
     let q : Fin 39 := 31
     (p ≠ q)) ∧
    (let s : State := wMc (fun m => { m with scrubWord := 8190, scrubTick := 4 }) (wSet [(F.MEM_ECCCTL_SCRUBEN, 1), (F.MEM_ECCCTL_SCRUBDIV, 4)])
     (s.on F.MEM_ECCCTL_SCRUBEN = true) ∧ (s.get F.MEM_ECCCTL_SCRUBDIV ≤ s.memCtl.scrubTick) ∧ (1 ≤ s.memCtl.scrubTick) ∧
     (scrubbable s.memCtl.scrubBank s = true) ∧ (s.memCtl.scrubWord + 1 < bankWords s.memCtl.scrubBank)) ∧
    (let s : State := wMc (fun m => { m with scrubTick := 3 }) (wSet [(F.MEM_ECCCTL_SCRUBEN, 1), (F.MEM_ECCCTL_SCRUBDIV, 4)])
     (s.on F.MEM_ECCCTL_SCRUBEN = false ∨ s.memCtl.scrubTick < max 1 (s.get F.MEM_ECCCTL_SCRUBDIV))) :=
  by decide +kernel

/-- Witnesses for Obligations.MemoryControl, the clauses of WordsAreCoded. -/
theorem wit_WordsAreCoded_2 :
    (let a : Nat := 0x10000000
     let s : State := wMem 0x10000000 [5#32] State.reset
     ((memSynd s.mem a = 0#7))) ∧
    (let cid : Cid := 1#6
     let s : State := State.reset
     (Admits cid true R.MEM_INJCTL.addr s) ∧ (cid.toNat ≤ 1)) ∧
    (let who : Who := { cid := 1 }
     let a : Nat := 0x10000004
     let s : State := wSet [(F.MEM_INJCTL_ARM, 1), (F.MEM_INJADDR_ADDR, 0x10000006), (F.MEM_INJDATA_DATA, 3)]
     (s.on F.MEM_INJCTL_ARM = true) ∧ (s.get F.MEM_INJADDR_ADDR / 4 * 4 = a) ∧ (who.cid ≠ 63)) :=
  by decide +kernel

end Sys2Proof.Tests.T07

namespace Sys2Proof.Tests.T08
set_option Elab.async false
open Sys2Proof Sys2Proof.Machine Sys2Proof.Tests

def wShare (g : Share → Share) (s : State := State.reset) : State := { s with share := g s.share }
def wSem (k : Nat) (x : Sem) (s : State := State.reset) : State := s.setSem k x
def wBell : State := State.reset.setBell 31 0x80010005#32
def wOwned : State := State.reset.setBuf 5 { st := .owned, owner := 1 }
def wFull : State := wShare fun x => { x with bufs := (List.range 480).map fun i => (i, { st := .owned, owner := 2 }) }
def wOwn2 : State := wOwned.setBuf 6 { st := .owned, owner := 1 }
def wS2 : State := wSem 0 { holders := [⟨2, 0, 0⟩], recent := 2 }
def wS1 : State := wSem 0 { holders := [⟨1, 0, 0⟩], recent := 1, waiters := [⟨3, 0, 0⟩, ⟨2, 0, 0⟩] }
def wLed : State := wChn (fun x => x) (wShare (fun x => { x with ledgers := [(2, 31, 5)] }) (({ State.reset with tb := { State.reset.tb with cnt := State.reset.tb.cnt.set! 10 1605 } } : State).setBell 31 0x20000005#32))

/-- Witnesses for Obligations.Semaphores, the clauses of SemaphoreOperations. -/
theorem wit_SemaphoreOperations_1 :
    (let cid : Cid := 1#6
     let k : Fin 128 := 127
     let s : State := wSet [(F.SEM_GMASKLO_MASK 7, 0)]
     let take : Bool := false
     let h := hopsAll s.begin
     (Admits cid false (if take then R.SEM_TAKE k.val else R.SEM_PORT k.val).addr s) ∧
     (natBit (semMask k.val h) cid.toNat = false)) ∧
    (let cid : Cid := 20#6
     let k : Fin 128 := 0
     let s : State := wSet [(F.SYS_CIDEN_EN 0, 0x100002), (F.SYS_ACCRLO_MASK 21, 0x100002), (F.SEM_GMASKLO_MASK 0, 0x100000)]
     let take : Bool := true
     let h := hopsAll s.begin
     (Admits cid false (if take then R.SEM_TAKE k.val else R.SEM_PORT k.val).addr s) ∧
     (natBit (semMask k.val h) cid.toNat = true) ∧ (take = true) ∧ ((cid.toNat = 0 ∨ 16 < cid.toNat)) ∧ (cid.toNat < 58)) ∧
    (let cid : Cid := 1#6
     let k : Fin 128 := 0
     let s : State := wS1
     let take : Bool := false
     let h := hopsAll s.begin
     let me : Party := ⟨cid.toNat, 0, 0⟩
     let x := h.sem k.val
     let mine := natBit (semMask k.val h) cid.toNat = true ∧ (take = true → 1 ≤ cid.toNat ∧ cid.toNat ≤ 16)
     let has := x.holders.any (sameParty me)
     (Admits cid false (if take then R.SEM_TAKE k.val else R.SEM_PORT k.val).addr s) ∧ (mine) ∧ (has = true)) :=
  by decide +kernel

/-- Witnesses for Obligations.Semaphores, the clauses of SemaphoreOperations. -/
theorem wit_SemaphoreOperations_2 :
    (let cid : Cid := 1#6
     let k : Fin 128 := 127
     let s : State := State.reset
     let take : Bool := false
     let h := hopsAll s.begin
     let me : Party := ⟨cid.toNat, 0, 0⟩
     let x := h.sem k.val
     let mine := natBit (semMask k.val h) cid.toNat = true ∧ (take = true → 1 ≤ cid.toNat ∧ cid.toNat ≤ 16)
     let has := x.holders.any (sameParty me)
     (Admits cid false (if take then R.SEM_TAKE k.val else R.SEM_PORT k.val).addr s) ∧ (mine) ∧ (has = false) ∧
     (0 < semCount k.val h)) ∧
    (let cid : Cid := 1#6
     let k : Fin 128 := 127
     let s : State := State.reset
     let take : Bool := true
     let h := hopsAll s.begin
     let me : Party := ⟨cid.toNat, 0, 0⟩
     let x := h.sem k.val
     let mine := natBit (semMask k.val h) cid.toNat = true ∧ (take = true → 1 ≤ cid.toNat ∧ cid.toNat ≤ 16)
     let has := x.holders.any (sameParty me)
     (Admits cid false (if take then R.SEM_TAKE k.val else R.SEM_PORT k.val).addr s) ∧ (mine) ∧ (has = false) ∧
     (0 < semCount k.val h)) ∧
    (let cid : Cid := 1#6
     let k : Fin 128 := 0
     let s : State := wS2
     let take : Bool := false
     let h := hopsAll s.begin
     let me : Party := ⟨cid.toNat, 0, 0⟩
     let x := h.sem k.val
     let mine := natBit (semMask k.val h) cid.toNat = true ∧ (take = true → 1 ≤ cid.toNat ∧ cid.toNat ≤ 16)
     let has := x.holders.any (sameParty me)
     (Admits cid false (if take then R.SEM_TAKE k.val else R.SEM_PORT k.val).addr s) ∧ (mine) ∧ (has = false) ∧
     (semCount k.val h = 0) ∧ (take = false)) :=
  by decide +kernel

/-- Witnesses for Obligations.Semaphores, the clauses of SemaphoreOperations. -/
theorem wit_SemaphoreOperations_3 :
    (let cid : Cid := 1#6
     let k : Fin 128 := 0
     let s : State := wSem 1 { holders := [⟨3, 0, 0⟩], recent := 3, waiters := [⟨1, 0, 0⟩] } wS2
     let take : Bool := true
     let h := hopsAll s.begin
     let me : Party := ⟨cid.toNat, 0, 0⟩
     let x := h.sem k.val
     let mine := natBit (semMask k.val h) cid.toNat = true ∧ (take = true → 1 ≤ cid.toNat ∧ cid.toNat ≤ 16)
     let has := x.holders.any (sameParty me)
     (Admits cid false (if take then R.SEM_TAKE k.val else R.SEM_PORT k.val).addr s) ∧ (mine) ∧ (has = false) ∧
     (semCount k.val h = 0) ∧ (take = true) ∧ ((semWaited me h).isSome = true ∨ (remoteWait cid.toNat h).isSome = true)) ∧
    (let cid : Cid := 1#6
     let k : Fin 128 := 0
     let s : State := wSem 1 { holders := [⟨1, 0, 0⟩], recent := 1, waiters := [⟨2, 0, 0⟩] } wS2
     let take : Bool := true
     let h := hopsAll s.begin
     let me : Party := ⟨cid.toNat, 0, 0⟩
     let x := h.sem k.val
     let cycle := leadsTo cid.toNat 64 ((x.holders.filter (fun h => h.unit == 0)).map (·.cid)) h
     let mine := natBit (semMask k.val h) cid.toNat = true ∧ (take = true → 1 ≤ cid.toNat ∧ cid.toNat ≤ 16)
     let has := x.holders.any (sameParty me)
     (Admits cid false (if take then R.SEM_TAKE k.val else R.SEM_PORT k.val).addr s) ∧ (mine) ∧ (has = false) ∧
     (semCount k.val h = 0) ∧ (take = true) ∧ (semWaited me h = none) ∧ (remoteWait cid.toNat h = none) ∧ (cycle = true)) ∧
    (let cid : Cid := 1#6
     let k : Fin 128 := 0
     let s : State := wSet [(F.SYS_CIDPRI_PRI 1, 3)] wS2
     let take : Bool := true
     let h := hopsAll s.begin
     let me : Party := ⟨cid.toNat, 0, 0⟩
     let x := h.sem k.val
     let cycle := leadsTo cid.toNat 64 ((x.holders.filter (fun h => h.unit == 0)).map (·.cid)) h
     let mine := natBit (semMask k.val h) cid.toNat = true ∧ (take = true → 1 ≤ cid.toNat ∧ cid.toNat ≤ 16)
     let has := x.holders.any (sameParty me)
     (Admits cid false (if take then R.SEM_TAKE k.val else R.SEM_PORT k.val).addr s) ∧ (mine) ∧ (has = false) ∧
     (semCount k.val h = 0) ∧ (take = true) ∧ (semWaited me h = none) ∧ (remoteWait cid.toNat h = none) ∧ (cycle = false)) :=
  by decide +kernel

/-- Witnesses for Obligations.Semaphores, the clauses of SemaphoreOperations. -/
theorem wit_SemaphoreOperations_4 :
    (let cid : Cid := 1#6
     let k : Fin 128 := 0
     let s : State := wSet [(F.SEM_GMASKLO_MASK 0, 0)] wS1
     let h := hopsAll s.begin
     (Admits cid true (R.SEM_PORT k.val).addr s) ∧ (natBit (semMask k.val h) cid.toNat = false)) ∧
    (let cid : Cid := 1#6
     let k : Fin 128 := 0
     let s : State := wS1
     let h := hopsAll s.begin
     let has := (h.sem k.val).holders.any (sameParty ⟨cid.toNat, 0, 0⟩)
     (Admits cid true (R.SEM_PORT k.val).addr s) ∧ (natBit (semMask k.val h) cid.toNat = true) ∧ (has = true)) ∧
    (let cid : Cid := 1#6
     let k : Fin 128 := 0
     let s : State := wS2
     let h := hopsAll s.begin
     let has := (h.sem k.val).holders.any (sameParty ⟨cid.toNat, 0, 0⟩)
     (Admits cid true (R.SEM_PORT k.val).addr s) ∧ (natBit (semMask k.val h) cid.toNat = true) ∧ (has = false)) :=
  by decide +kernel

/-- Witnesses for Obligations.Semaphores, the clauses of SemaphoreOperations. -/
theorem wit_SemaphoreOperations_5 :
    (let cid : Cid := 1#6
     let k : Fin 128 := 0
     let s : State := wSet [(F.SEM_GMASKLO_MASK 0, 0)]
     let h := hopsAll s.begin
     (Admits cid true R.SEM_CANCEL.addr s) ∧ (1 ≤ cid.toNat) ∧ (cid.toNat ≤ 16) ∧ (natBit (semMask k.val h) cid.toNat = false)) ∧
    (let cid : Cid := 1#6
     let k : Fin 128 := 0
     let s : State := wSem 0 { holders := [⟨2, 0, 0⟩], recent := 2, waiters := [⟨1, 0, 0⟩] }
     let h := hopsAll s.begin
     let x := h.sem k.val
     let waits := x.waiters.any (sameParty ⟨cid.toNat, 0, 0⟩)
     (Admits cid true R.SEM_CANCEL.addr s) ∧ (1 ≤ cid.toNat) ∧ (cid.toNat ≤ 16) ∧ (natBit (semMask k.val h) cid.toNat = true) ∧
     (waits = true)) ∧
    (let cid : Cid := 1#6
     let k : Fin 128 := 0
     let s : State := wS2
     let h := hopsAll s.begin
     let x := h.sem k.val
     let waits := x.waiters.any (sameParty ⟨cid.toNat, 0, 0⟩)
     (Admits cid true R.SEM_CANCEL.addr s) ∧ (1 ≤ cid.toNat) ∧ (cid.toNat ≤ 16) ∧ (natBit (semMask k.val h) cid.toNat = true) ∧
     (waits = false)) :=
  by decide +kernel

/-- Witnesses for Obligations.Semaphores, the clauses of SemaphoreOperations. -/
theorem wit_SemaphoreOperations_6 :
    (let s : State := State.reset
     (s.share.hops = [])) ∧
    (let k : Nat := 0
     let s : State := wS1
     let w := ⟨2, 0, 0⟩
     (firstWaiter s (s.sem k).waiters = some w)) ∧
    (let k : Nat := 0
     let s : State := wSem 0 { holders := [⟨1, 0, 0⟩], recent := 1 }
     ((s.sem k).waiters = [])) :=
  by decide +kernel

/-- Witnesses for Obligations.Semaphores, the clauses of SemaphoreOperations. -/
theorem wit_SemaphoreOperations_7 :
    (let k : Nat := 0
     let j := 1
     (j ≠ k)) :=
  by decide +kernel

/-- Witnesses for Obligations.GrantsReclaimAndLedgers. -/
theorem wit_GrantsReclaimAndLedgers_1 :
    (let cid : Cid := 1#6
     let target : Cid := 2#6
     let s : State := wSem 0 { holders := [⟨2, 0, 0⟩], recent := 2, waiters := [⟨1, 0, 0⟩] }
     (Admits cid true R.SEM_RECLAIM.addr s) ∧ (cid.toNat = 1) ∧ (remoteWait target.toNat s = none) ∧
     ((∀ e ∈ s.share.rholds, e.1 ≠ target.toNat))) ∧
    (let cid : Cid := 0#6
     let s : State := State.reset
     (Admits cid true R.SEM_RECLAIM.addr s) ∧ (cid.toNat ≠ 1)) ∧
    (let p : Party := (⟨2, 0, 0⟩ : Party)
     let s : State := State.reset
     (semWaited p s = none) ∧ (semsHeld p s = [])) :=
  by decide +kernel

/-- Witnesses for Obligations.GrantsReclaimAndLedgers. -/
theorem wit_GrantsReclaimAndLedgers_2 :
    (let cid : Cid := 1#6
     let s : State := State.reset
     (Admits cid false R.SEM_GRANT.addr s) ∧ (s.share.grants = [])) ∧
    (let cid : Cid := 1#6
     let g : Grant := ⟨127, 57, 63, 9⟩
     let gs : List Grant := [⟨1, 2, 3, 1⟩]
     let s : State := wShare fun x => { x with grants := [⟨127, 57, 63, 9⟩, ⟨1, 2, 3, 1⟩] }
     (Admits cid false R.SEM_GRANT.addr s) ∧ (s.share.grants = g :: gs)) ∧
    (let g : Fin 8 := 7
     let h : Nat × Nat := (113, 2)
     let s : State := wShare fun x => { x with hops := [(5, 1), (113, 2)] }
     (s.share.hops.find? (fun h => h.1 / 16 == g.val) = some h)) :=
  by decide +kernel

/-- Witnesses for Obligations.GrantsReclaimAndLedgers. -/
theorem wit_GrantsReclaimAndLedgers_3 :
    (let g : Fin 8 := 7
     let s : State := wShare fun x => { x with hops := [(5, 1)] }
     ((∀ h ∈ s.share.hops, h.1 / 16 ≠ g.val))) ∧
    (let which : Nat := 2
     let index : Nat := 31
     let e : Nat × Nat × Nat := (2, 31, 5)
     let s : State := wLed
     (s.share.ledgers.find? (fun e => e.1 == which && e.2.1 == index) = some e) ∧ (e.2.2 + 1600 ≤ s.tb.cnt.get 10) ∧
     (ledgerOff which index s = true)) ∧
    (let which : Nat := 2
     let index : Nat := 31
     let e : Nat × Nat × Nat := (2, 31, 5)
     let s : State := wSet [(F.MBX_LEDGER_FAIL, 1)] wLed
     (s.share.ledgers.find? (fun e => e.1 == which && e.2.1 == index) = some e) ∧ (e.2.2 + 1600 ≤ s.tb.cnt.get 10) ∧
     (ledgerOff which index s = true)) :=
  by decide +kernel

/-- Witnesses for Obligations.GrantsReclaimAndLedgers. -/
theorem wit_GrantsReclaimAndLedgers_4 :
    (let which : Nat := 2
     let index : Nat := 31
     let s : State := wShare (fun x => { x with ledgers := [(2, 31, 6)] }) wLed
     ((∀ e ∈ s.share.ledgers, e.1 = which → e.2.1 = index → s.tb.cnt.get 10 < e.2.2 + 1600 ∨ ledgerOff which index s = false))) :=
  by decide +kernel

/-- Witnesses for Obligations.MailboxesAndBuffers, the clauses of MailboxPostAndAck. -/
theorem wit_MailboxPostAndAck_1 :
    (let cid : Cid := 1#6
     let m : Fin 32 := 31
     let s : State := State.reset
     ((accessCheck { cid := cid.toNat } true (0x40007D00 + 16 * m.val) 4 s).toOption = some 11) ∧ (s.chn.done = []) ∧
     (mbxWriter m.val cid.toNat s = true) ∧ (bellFull m.val s = false)) ∧
    (let cid : Cid := 1#6
     let m : Fin 32 := 31
     let s : State := wOwned
     let data : BitVec 16 := 6#16
     let c := 2
     ((accessCheck { cid := cid.toNat } true (0x40007D00 + 16 * m.val) 4 s).toOption = some 11) ∧ (s.chn.done = []) ∧
     (mbxWriter m.val cid.toNat s = true) ∧ (bellFull m.val s = false) ∧ (cid.toNat < 58 ∨ 60 < cid.toNat) ∧
     (moveCheck cid.toNat data.toNat none s = some c)) ∧
    (let cid : Cid := 1#6
     let m : Fin 32 := 31
     let s : State := wOwned
     let data : BitVec 16 := 5#16
     ((accessCheck { cid := cid.toNat } true (0x40007D00 + 16 * m.val) 4 s).toOption = some 11) ∧ (s.chn.done = []) ∧
     (mbxWriter m.val cid.toNat s = true) ∧ (bellFull m.val s = false) ∧ (cid.toNat < 58 ∨ 60 < cid.toNat) ∧
     (moveCheck cid.toNat data.toNat none s = none)) :=
  by decide +kernel

/-- Witnesses for Obligations.MailboxesAndBuffers, the clauses of MailboxPostAndAck. -/
theorem wit_MailboxPostAndAck_2 :
    (let cid : Cid := 1#6
     let m : Fin 32 := 31
     let s : State := wBell
     ((accessCheck { cid := cid.toNat } true (0x40007D00 + 16 * m.val) 4 s).toOption = some 11) ∧ (s.chn.done = []) ∧
     (mbxWriter m.val cid.toNat s = true) ∧ (bellFull m.val s = true)) ∧
    (let cid : Cid := 1#6
     let m : Fin 32 := 31
     let s : State := wSet [(F.MBX_CFG_ACKEV 31, 1)] wBell
     ((accessCheck { cid := cid.toNat } true (0x40007D00 + 16 * m.val) 4 s).toOption = some 11) ∧ (s.chn.done = []) ∧
     (mbxReader m.val cid.toNat s = true) ∧ (bellFull m.val s = true)) ∧
    (let cid : Cid := 1#6
     let m : Fin 32 := 31
     let s : State := (wOwned.setBell 31 0xA0010005#32)
     ((accessCheck { cid := cid.toNat } true (0x40007D00 + 16 * m.val) 4 s).toOption = some 11) ∧ (s.chn.done = []) ∧
     (mbxReader m.val cid.toNat s = true) ∧ (bellFull m.val s = true)) :=
  by decide +kernel

/-- Witnesses for Obligations.MailboxesAndBuffers, the clauses of MailboxPostAndAck. -/
theorem wit_MailboxPostAndAck_3 :
    (let cid : Cid := 1#6
     let m : Fin 32 := 31
     let s : State := State.reset
     ((accessCheck { cid := cid.toNat } true (0x40007D00 + 16 * m.val) 4 s).toOption = some 11) ∧ (s.chn.done = []) ∧
     (mbxReader m.val cid.toNat s = true) ∧ (bellFull m.val s = false)) ∧
    (let cid : Cid := 1#6
     let m : Fin 32 := 31
     let s : State := wSet [(F.MBX_CFG_READER 31, 2)] wBell
     ((accessCheck { cid := cid.toNat } true (0x40007D00 + 16 * m.val) 4 s).toOption = some 11) ∧ (s.chn.done = []) ∧
     (mbxReader m.val cid.toNat s = false) ∧ (mbxWriter m.val cid.toNat s = true)) ∧
    (let cid : Cid := 1#6
     let m : Fin 32 := 31
     let s : State := wSet [(F.MBX_WMASKLO_MASK 31, 0)] wBell
     ((accessCheck { cid := cid.toNat } true (0x40007D00 + 16 * m.val) 4 s).toOption = some 11) ∧ (s.chn.done = []) ∧
     (mbxWriter m.val cid.toNat s = false) ∧ (mbxReader m.val cid.toNat s = true)) :=
  by decide +kernel

/-- Witnesses for Obligations.MailboxesAndBuffers, the clauses of MailboxPostAndAck. -/
theorem wit_MailboxPostAndAck_4 :
    (let cid : Cid := 58#6
     let m : Fin 32 := 0
     let s : State := wSet [(F.SYS_CIDEN_EN 1, 0x4000000), (F.SYS_ACCRHI_MASK 11, 0x4000000), (F.SYS_ACCWHI_MASK 11, 0x4000000), (F.MBX_WMASKHI_MASK 0, 0x4000000)]
     ((accessCheck { cid := cid.toNat } true (0x40007D00 + 16 * m.val) 4 s).toOption = some 11) ∧ (s.chn.done = []) ∧
     (mbxWriter m.val cid.toNat s = true) ∧ (bellFull m.val s = false) ∧ (58 ≤ cid.toNat) ∧ (cid.toNat ≤ 60)) :=
  by decide +kernel

/-- Witnesses for Obligations.MailboxesAndBuffers, the clauses of BufferPool. -/
theorem wit_BufferPool_1 :
    (let cid : Cid := 1#6
     let i : Nat := 0
     let s : State := State.reset
     (Admits cid false R.POOL_ALLOC.addr s) ∧ (32 < freeCount s) ∧ (lowestFree s = some i)) ∧
    (let cid : Cid := 1#6
     let s : State := wFull
     (Admits cid false R.POOL_ALLOC.addr s) ∧ (freeCount s ≤ 32)) ∧
    (let cid : Cid := 1#6
     let h : BitVec 16 := 5#16
     let s : State := wOwned
     (Admits cid true R.POOL_FREE.addr s) ∧ (moveCheck cid.toNat h.toNat none s = none)) :=
  by decide +kernel

/-- Witnesses for Obligations.MailboxesAndBuffers, the clauses of BufferPool. -/
theorem wit_BufferPool_2 :
    (let cid : Cid := 1#6
     let h : BitVec 16 := 6#16
     let s : State := wOwned
     let c := 2
     (Admits cid true R.POOL_FREE.addr s) ∧ (moveCheck cid.toNat h.toNat none s = some c)) ∧
    (let cid : Cid := 1#6
     let target : Cid := 2#6
     let h : BitVec 16 := 5#16
     let s : State := wOwned
     (Admits cid true R.POOL_GIVE.addr s) ∧ (moveCheck cid.toNat h.toNat (some target.toNat) s = none)) ∧
    (let cid : Cid := 1#6
     let target : Cid := 63#6
     let h : BitVec 16 := 5#16
     let s : State := wOwned
     let c := 3
     (Admits cid true R.POOL_GIVE.addr s) ∧ (moveCheck cid.toNat h.toNat (some target.toNat) s = some c)) :=
  by decide +kernel

/-- Witnesses for Obligations.MailboxesAndBuffers, the clauses of BufferPool. -/
theorem wit_BufferPool_3 :
    (let cid : Cid := 1#6
     let h : BitVec 16 := 6#16
     let s : State := wOwned
     let c := 2
     (Admits cid true R.POOL_LINK.addr s) ∧ (handleCheck cid.toNat h.toNat s = some c)) ∧
    (let cid : Cid := 1#6
     let h : BitVec 16 := 5#16
     let n : BitVec 16 := 6#16
     let s : State := wOwned
     let c := 2
     (Admits cid true R.POOL_LINK.addr s) ∧ (handleCheck cid.toNat h.toNat s = none) ∧
     (handleCheck cid.toNat n.toNat s = some c)) ∧
    (let cid : Cid := 1#6
     let h : BitVec 16 := 5#16
     let n : BitVec 16 := 5#16
     let s : State := wOwned
     (Admits cid true R.POOL_LINK.addr s) ∧ (handleCheck cid.toNat h.toNat s = none) ∧ (handleCheck cid.toNat n.toNat s = none) ∧
     (h = n)) :=
  by decide +kernel

/-- Witnesses for Obligations.MailboxesAndBuffers, the clauses of BufferPool. -/
theorem wit_BufferPool_4 :
    (let cid : Cid := 1#6
     let h : BitVec 16 := 5#16
     let n : BitVec 16 := 6#16
     let s : State := wOwn2
     let i := h.toNat % 512
     let j := n.toNat % 512
     let joins := (s.buf i).next = none ∧ predOf j s = none ∧ (chain j s).contains i = false ∧ predCount 64 i s + 1 + (chain j s).length ≤ 64
     (Admits cid true R.POOL_LINK.addr s) ∧ (handleCheck cid.toNat h.toNat s = none) ∧ (handleCheck cid.toNat n.toNat s = none) ∧
     (h ≠ n) ∧ (joins)) ∧
    (let cid : Cid := 1#6
     let h : BitVec 16 := 5#16
     let n : BitVec 16 := 6#16
     let s : State := (wOwn2.setBuf 6 { st := .owned, owner := 1, next := some 5 })
     let i := h.toNat % 512
     let j := n.toNat % 512
     let joins := (s.buf i).next = none ∧ predOf j s = none ∧ (chain j s).contains i = false ∧ predCount 64 i s + 1 + (chain j s).length ≤ 64
     (Admits cid true R.POOL_LINK.addr s) ∧ (handleCheck cid.toNat h.toNat s = none) ∧ (handleCheck cid.toNat n.toNat s = none) ∧
     (h ≠ n) ∧ (¬joins)) ∧
    (let cid : Cid := 1#6
     let s : State := wOwn2
     (Admits cid true R.POOL_RECLAIM.addr s) ∧ (cid.toNat = 1)) :=
  by decide +kernel

/-- Witnesses for Obligations.MailboxesAndBuffers, the clauses of BufferPool. -/
theorem wit_BufferPool_5 :
    (let cid : Cid := 0#6
     let s : State := wOwn2
     (Admits cid true R.POOL_RECLAIM.addr s) ∧ (cid.toNat ≠ 1)) ∧
    (let l : List Nat := [5, 6]
     (l.Nodup)) :=
  by decide +kernel

/-- Witnesses for Obligations.Semaphores, the clauses of FirstWaiterIsBest. -/
theorem wit_FirstWaiterIsBest_1 :
    (let ws : List Party := [⟨3, 0, 0⟩, ⟨2, 0, 0⟩]
     let w : Party := ⟨2, 0, 0⟩
     let s : State := State.reset
     let v := ⟨3, 0, 0⟩
     (v ∈ ws) ∧ (firstWaiter s ws = some w)) :=
  ⟨by repeat (first | exact .head _ | apply List.Mem.tail), by decide +kernel⟩

/-- Witnesses for Obligations.Semaphores, the clauses of FirstWaiterIsBest. -/
theorem wit_FirstWaiterIsBest_2 :
    (let ws : List Party := [⟨3, 0, 0⟩, ⟨2, 0, 0⟩]
     let w : Party := ⟨2, 0, 0⟩
     let s : State := State.reset
     (firstWaiter s ws = some w)) :=
  by decide +kernel

end Sys2Proof.Tests.T08

namespace Sys2Proof.Tests.T09
set_option Elab.async false
open Sys2Proof Sys2Proof.Machine Sys2Proof.Tests

def wPwm (g : Pwm → Pwm) (s : State := State.reset) : State := { s with pwm := g s.pwm }
def wGr (g : Grp) (s : State := State.reset) : State := s.setGrp 3 g
def wRunning : State := wSet [(F.PWM_GCTL_EN 1 1, 1), (F.PWM_GSTAT_RUN 1 1, 1)] (wGr { len := 640000, zeroAt := 1000, perT := 640000 })
def wTc : State := wSet [(F.PWM_GSTAT_RUN 1 1, 1)] (wGr { perT := 640000, tcAct := (Vector.replicate 8 0#32).set! 7 0xC0000010#32 })
def wTcn : State := wSet [(F.PWM_GSTAT_RUN 1 0, 1), (F.TB_DLSTAT_FINE, 0xFF)] ((wTc.setGrp 3 { perT := 640000, tcAct := Vector.replicate 8 0xC0000010#32 }).setGrp 2 { perT := 640000, tcAct := Vector.replicate 8 0xC0000010#32 })
def wLegRun (x : Leg) (s : State := wRunning) : State := wSet [(F.PWM_LnSTAT_STATE 1 7, 2), (F.PWM_GCTL_LOAD 1 1, 3), (F.PWM_LEGGRP_ODD 1, 0x80)] (s.setLeg 15 x)
def wArm (fs : List (Fld × Nat) := []) (s : State := wRunning) : State := wSet ([(F.PIN_CFG_FUNC 30, 1), (F.PIN_CFG_FUNC 31, 1), (F.TB_LOCK, 0xFF), (F.SYS_CPLEGS_CP1, 0), (F.PWM_LEGGRP_ODD 1, 0x80), (F.PWM_GCTL_LOAD 1 1, 3)] ++ fs) s
def wOwned0 : State := wArm [(F.SYS_CPLEGS_CP0, 0x8000), (F.PWM_LnSTAT_STATE 1 7, 2)]
def wFlt : State := wSet [(F.PIN_CFG_FUNC 87, 1), (F.PWM_LnFMASK_MASK 1 7, 0xFFFF), (F.PWM_LnSTAT_STATE 1 7, 2)]

/-- Witnesses for Obligations.CarriersAndPeriods, the clauses of CarrierEvents. -/
theorem wit_CarrierEvents_1 :
    (let g : Fin 4 := 3
     let s : State := wSet [(F.PWM_GCTL_EN 1 1, 1)]
     let starts := s.on (F.PWM_GCTL_EN (gb g) (gi g)) = true ∧ s.on (F.PWM_GSTAT_RUN (gb g) (gi g)) = false ∧ (∀ t ∈ (s.grp g).startAt, t < 256 * (s.tb.time + 1))
     (starts)) ∧
    (let g : Fin 4 := 3
     let s : State := wGr { startAt := some 256 } (wSet [(F.PWM_GCTL_EN 1 1, 1)])
     let starts := s.on (F.PWM_GCTL_EN (gb g) (gi g)) = true ∧ s.on (F.PWM_GSTAT_RUN (gb g) (gi g)) = false ∧ (∀ t ∈ (s.grp g).startAt, t < 256 * (s.tb.time + 1))
     (¬starts)) ∧
    (let g : Fin 4 := 3
     let s : State := wRunning
     let passes := s.on (F.PWM_GSTAT_RUN (gb g) (gi g)) = true ∧ s.on (F.PWM_GSTAT_HALF (gb g) (gi g)) = false
     (passes)) :=
  by decide +kernel

/-- Witnesses for Obligations.CarriersAndPeriods, the clauses of CarrierEvents. -/
theorem wit_CarrierEvents_2 :
    (let g : Fin 4 := 3
     let s : State := State.reset
     let passes := s.on (F.PWM_GSTAT_RUN (gb g) (gi g)) = true ∧ s.on (F.PWM_GSTAT_HALF (gb g) (gi g)) = false
     (¬passes)) ∧
    (let g : Fin 4 := 3
     let k : Fin 8 := 7
     let s : State := wRunning
     let tc := (s.grp g).tcAct.get k
     let fires := s.on (F.PWM_GSTAT_RUN (gb g) (gi g)) = true ∧ fieldOf 31 1 tc = 1 ∧ fieldOf 0 24 tc * prescaler g s < (s.grp g).perT
     (¬fires)) ∧
    (let g : Fin 4 := 3
     let k : Fin 8 := 7
     let s : State := wTc
     let tc := (s.grp g).tcAct.get k
     let fires := s.on (F.PWM_GSTAT_RUN (gb g) (gi g)) = true ∧ fieldOf 31 1 tc = 1 ∧ fieldOf 0 24 tc * prescaler g s < (s.grp g).perT
     let fine := s.bit F.TB_DLSTAT_FINE (2 + gb g)
     (fires) ∧ (fine = false)) :=
  by decide +kernel

/-- Witnesses for Obligations.CarriersAndPeriods, the clauses of CarrierEvents. -/
theorem wit_CarrierEvents_3 :
    (let g : Fin 4 := 3
     let k : Fin 8 := 7
     let s : State := wSet [(F.TB_DLSTAT_FINE, 0xFF)] wTc
     let tc := (s.grp g).tcAct.get k
     let fires := s.on (F.PWM_GSTAT_RUN (gb g) (gi g)) = true ∧ fieldOf 31 1 tc = 1 ∧ fieldOf 0 24 tc * prescaler g s < (s.grp g).perT
     let fine := s.bit F.TB_DLSTAT_FINE (2 + gb g)
     let tick := (s.grp g).zeroTbP + fieldOf 0 24 tc * prescaler g s / 256
     let left := ((trigLine (gb g) tick s).take 8).contains (g.val, k.val)
     (fires) ∧ (fine = true) ∧ (left = true)) ∧
    (let g : Fin 4 := 3
     let k : Fin 8 := 7
     let s : State := wTcn
     let tc := (s.grp g).tcAct.get k
     let fires := s.on (F.PWM_GSTAT_RUN (gb g) (gi g)) = true ∧ fieldOf 31 1 tc = 1 ∧ fieldOf 0 24 tc * prescaler g s < (s.grp g).perT
     let fine := s.bit F.TB_DLSTAT_FINE (2 + gb g)
     let tick := (s.grp g).zeroTbP + fieldOf 0 24 tc * prescaler g s / 256
     let left := ((trigLine (gb g) tick s).take 8).contains (g.val, k.val)
     (fires) ∧ (fine = true) ∧ (left = false)) :=
  by decide +kernel

/-- Witnesses for Obligations.CarriersAndPeriods, the clauses of LegPeriods. -/
theorem wit_LegPeriods_1 :
    (let l : Fin 16 := 15
     let s : State := State.reset
     (legState l s ≠ 1) ∧ (legState l s ≠ 2)) ∧
    (let l : Fin 16 := 15
     let s : State := wSet [(F.PWM_LnSTAT_STATE 1 7, 1), (F.LCS_FSTAT_SAFE, 1)] wRunning
     (legState l s = 1) ∧ (legBarred l s = true)) ∧
    (let l : Fin 16 := 15
     let s : State := wLegRun { act := { absolute := false, dutyQ := 0x4000, dtr := 100, dtf := 100 } }
     (legState l s = 2 ∨ (legState l s = 1 ∧ legBarred l s = false))) :=
  by decide +kernel

/-- Witnesses for Obligations.CarriersAndPeriods, the clauses of LegPeriods. -/
theorem wit_LegPeriods_2 :
    (let l : Fin 16 := 15
     let s : State := wLegRun {}
     (legState l s = 2 ∨ (legState l s = 1 ∧ legBarred l s = false))) ∧
    (let l : Fin 16 := 15
     let s : State := wSet [(F.PWM_LnSTAT_STATE 1 7, 1)] (wLegRun {})
     (legState l s = 2 ∨ (legState l s = 1 ∧ legBarred l s = false))) ∧
    (let l : Fin 16 := 15
     let s : State := wSet [(F.PWM_LnCFG_POLICY 1 7, 2), (F.PWM_LnACC_ACC 1 7, 300)] (wLegRun { act := { absolute := false, dutyQ := 0x4000 } })
     (legState l s = 2 ∨ (legState l s = 1 ∧ legBarred l s = false))) :=
  by decide +kernel

/-- Witnesses for Obligations.CarriersAndPeriods, the clauses of LegPeriods. -/
theorem wit_LegPeriods_3 :
    (let de : Int := 0
     let perT : Nat := 640000
     (0 < perT) ∧ (de ≤ 0)) ∧
    (let de : Int := 640000
     let perT : Nat := 640000
     (0 < perT) ∧ ((perT : Int) ≤ de)) ∧
    (let de : Int := 1099
     let perT : Nat := 640000
     let dtr : Nat := 100
     let minT : Nat := 1000
     (0 < perT) ∧ (0 < de) ∧ (de < perT) ∧ (de < (minT + dtr : Nat))) :=
  by decide +kernel

/-- Witnesses for Obligations.CarriersAndPeriods, the clauses of LegPeriods. -/
theorem wit_LegPeriods_4 :
    (let de : Int := 1
     let perT : Nat := 640000
     let dtr : Nat := 100
     let minT : Nat := 1000
     (0 < perT) ∧ (0 < de) ∧ (de < perT) ∧ (de < (minT + dtr : Nat))) ∧
    (let de : Int := 638901
     let perT : Nat := 640000
     let dtr : Nat := 100
     let dtf : Nat := 100
     let minT : Nat := 1000
     (0 < perT) ∧ (0 < de) ∧ (de < perT) ∧ ((minT + dtr : Nat) ≤ de) ∧ (perT < de + (minT + dtf : Nat))) ∧
    (let de : Int := 639999
     let perT : Nat := 640000
     let dtr : Nat := 100
     let dtf : Nat := 100
     let minT : Nat := 1000
     (0 < perT) ∧ (0 < de) ∧ (de < perT) ∧ ((minT + dtr : Nat) ≤ de) ∧ (perT < de + (minT + dtf : Nat))) :=
  by decide +kernel

/-- Witnesses for Obligations.CarriersAndPeriods, the clauses of LegPeriods. -/
theorem wit_LegPeriods_5 :
    (let de : Int := 1100
     let perT : Nat := 640000
     let dtr : Nat := 100
     let dtf : Nat := 100
     let minT : Nat := 1000
     (0 < perT) ∧ (0 < de) ∧ (0 < minT) ∧ ((minT + dtr : Nat) ≤ de) ∧ (de + (minT + dtf : Nat) ≤ perT)) ∧
    (let de : Int := 638900
     let perT : Nat := 640000
     let dtr : Nat := 100
     let dtf : Nat := 100
     let minT : Nat := 1000
     (0 < perT) ∧ (0 < de) ∧ (0 < minT) ∧ ((minT + dtr : Nat) ≤ de) ∧ (de + (minT + dtf : Nat) ≤ perT)) ∧
    (let l : Fin 16 := 15
     let s : State := wLegRun {}
     let x := s.leg l
     (legState l s ≠ 2 ∨ x.upDown = false ∨ x.loaded = false)) :=
  by decide +kernel

/-- Witnesses for Obligations.CarriersAndPeriods, the clauses of LegPeriods. -/
theorem wit_LegPeriods_6 :
    (let l : Fin 16 := 15
     let s : State := wLegRun { loaded := true, act := { dtr := 7 } }
     let x := s.leg l
     (legState l s = 2) ∧ (x.upDown = true) ∧ (x.loaded = true) ∧ (x.cls = .fullOff ∨ x.cls = .fullOn)) ∧
    (let l : Fin 16 := 15
     let s : State := wLegRun { loaded := true, cls := .normal, perT := 640000, da := 3000, act := { dtr := 7, dutyT := 4000 } }
     let x := s.leg l
     (legState l s = 2) ∧ (x.upDown = true) ∧ (x.loaded = true) ∧ (x.cls = .stretched ∨ x.cls = .normal)) ∧
    (let l : Fin 16 := 15
     let s : State := wLegRun { loaded := true, cls := .stretched, perT := 640000, da := 3000, act := { dtr := 7, dutyT := 4000 } }
     let x := s.leg l
     (legState l s = 2) ∧ (x.upDown = true) ∧ (x.loaded = true) ∧ (x.cls = .stretched ∨ x.cls = .normal)) :=
  by decide +kernel

/-- Witnesses for Obligations.CarriersAndPeriods, the clauses of LegPeriods. -/
theorem wit_LegPeriods_7 :
    (let l : Fin 16 := 15
     let s : State := wLegRun {}
     ((s.leg l).edges = [])) ∧
    (let l : Fin 16 := 15
     let e : Edge := ⟨5000, .hs, true⟩
     let rest : List Edge := [⟨9000, .ls, true⟩]
     let s : State := wLegRun { edges := [⟨5000, .hs, true⟩, ⟨9000, .ls, true⟩] }
     ((s.leg l).edges = e :: rest)) ∧
    (let l : Fin 16 := 15
     let e : Edge := ⟨5000, .ls, false⟩
     let rest : List Edge := []
     let s : State := wLegRun { edges := [⟨5000, .ls, false⟩] }
     ((s.leg l).edges = e :: rest)) :=
  by decide +kernel

/-- Witnesses for Obligations.CarriersAndPeriods, the clauses of LegPeriods. -/
theorem wit_LegPeriods_8 :
    (let v : Bool := true
     let t : Nat := 5000
     let x : Leg := { dtr := 100, dtf := 200, ls := some 100, edges := [⟨4000, .hs, false⟩] }
     let e := (⟨5100, .hs, true⟩ : Edge)
     (e ∈ (planChange v t x).1.edges)) ∧
    (let v : Bool := false
     let t : Nat := 5000
     let x : Leg := { dtr := 100, dtf := 200, hs := some 100, edges := [⟨4000, .ls, false⟩] }
     let e := (⟨5200, .ls, true⟩ : Edge)
     (e ∈ (planChange v t x).1.edges)) :=
  by decide +kernel

/-- Witnesses for Obligations.LegCommandsAndFaults, the clauses of LegCommands. -/
theorem wit_LegCommands_1 :
    (let cid : Cid := 1#6
     let g : Fin 4 := 3
     let s : State := State.reset
     (Admits cid true (R.PWM_GCOMMIT (g.val / 2) (g.val % 2)).addr s)) ∧
    (let cid : Cid := 1#6
     let l : Fin 16 := 15
     let s : State := wArm
     (Admits cid true (R.PWM_LnCTL (l.val / 8) (l.val % 8)).addr s) ∧ (legRight cid.toNat l s = true) ∧ (armError l s = 0)) ∧
    (let cid : Cid := 1#6
     let l : Fin 16 := 15
     let s : State := wArm [(F.PIN_CFG_FUNC 30, 0)]
     (Admits cid true (R.PWM_LnCTL (l.val / 8) (l.val % 8)).addr s) ∧ (legRight cid.toNat l s = true) ∧ (armError l s ≠ 0)) :=
  by decide +kernel

/-- Witnesses for Obligations.LegCommandsAndFaults, the clauses of LegCommands. -/
theorem wit_LegCommands_2 :
    (let cid : Cid := 1#6
     let l : Fin 16 := 15
     let s : State := wArm
     (Admits cid true (R.PWM_LnCTL (l.val / 8) (l.val % 8)).addr s) ∧ (legRight cid.toNat l s = true) ∧ (legState l s ≠ 3)) ∧
    (let cid : Cid := 1#6
     let l : Fin 16 := 15
     let s : State := wArm [(F.PWM_LnSTAT_STATE 1 7, 3), (F.PWM_LnFMASK_MASK 1 7, 0x8000)]
     let active := (List.range 16).any fun i => s.bit (F.PWM_LnFMASK_MASK (lb l) (li l)) i && fltActive i s
     (Admits cid true (R.PWM_LnCTL (l.val / 8) (l.val % 8)).addr s) ∧ (legRight cid.toNat l s = true) ∧ (legState l s = 3) ∧
     (active = false)) ∧
    (let cid : Cid := 1#6
     let l : Fin 16 := 15
     let s : State := wArm [(F.PWM_LnSTAT_STATE 1 7, 3), (F.PWM_LnFMASK_MASK 1 7, 0x8000), (F.CMP_STAT_OUT, 0x80)]
     let active := (List.range 16).any fun i => s.bit (F.PWM_LnFMASK_MASK (lb l) (li l)) i && fltActive i s
     (Admits cid true (R.PWM_LnCTL (l.val / 8) (l.val % 8)).addr s) ∧ (legRight cid.toNat l s = true) ∧ (legState l s = 3) ∧
     (active = true)) :=
  by decide +kernel

/-- Witnesses for Obligations.LegCommandsAndFaults, the clauses of LegCommands. -/
theorem wit_LegCommands_3 :
    (let cid : Cid := 1#6
     let l : Fin 16 := 15
     let s : State := wArm [(F.PWM_LnSTAT_STATE 1 7, 3), (F.PWM_LnSTAT_CAUSE 1 7, 2)]
     let held := legState l s = 3 ∧ s.get (F.PWM_LnSTAT_CAUSE (lb l) (li l)) ≤ 2
     (Admits cid true (R.PWM_LnCTL (l.val / 8) (l.val % 8)).addr s) ∧ (legRight cid.toNat l s = true ∨ cid.toNat = 1) ∧ (held)) ∧
    (let cid : Cid := 1#6
     let l : Fin 16 := 15
     let s : State := wArm [(F.PWM_LnSTAT_STATE 1 7, 3), (F.PWM_LnSTAT_CAUSE 1 7, 3)]
     let held := legState l s = 3 ∧ s.get (F.PWM_LnSTAT_CAUSE (lb l) (li l)) ≤ 2
     (Admits cid true (R.PWM_LnCTL (l.val / 8) (l.val % 8)).addr s) ∧ (legRight cid.toNat l s = true ∨ cid.toNat = 1) ∧ (¬held)) ∧
    (let cid : Cid := 1#6
     let l : Fin 16 := 15
     let s : State := wOwned0
     let held := legState l s = 3 ∧ s.get (F.PWM_LnSTAT_CAUSE (lb l) (li l)) ≤ 2
     (Admits cid true (R.PWM_LnCTL (l.val / 8) (l.val % 8)).addr s) ∧ (legRight cid.toNat l s = true ∨ cid.toNat = 1) ∧ (¬held)) :=
  by decide +kernel

/-- Witnesses for Obligations.LegCommandsAndFaults, the clauses of LegCommands. -/
theorem wit_LegCommands_4 :
    (let cid : Cid := 1#6
     let l : Fin 16 := 15
     let s : State := wOwned0
     (Admits cid true (R.PWM_LnCTL (l.val / 8) (l.val % 8)).addr s) ∧ (legRight cid.toNat l s = false)) ∧
    (let cid : Cid := 0#6
     let l : Fin 16 := 15
     let s : State := wOwned0
     (Admits cid true (R.PWM_LnCTL (l.val / 8) (l.val % 8)).addr s) ∧ (legRight cid.toNat l s = false) ∧ (cid.toNat ≠ 1)) ∧
    (let g : Nat := 0
     let s : State := State.reset
     (natBit s.pol.missGrp g = false)) :=
  by decide +kernel

/-- Witnesses for Obligations.LegCommandsAndFaults, the clauses of LegCommands. -/
theorem wit_LegCommands_5 :
    (let cid : Cid := 1#6
     let l : Fin 16 := 15
     let s : State := wArm
     (Admits cid true (R.PWM_LnCFG (l.val / 8) (l.val % 8)).addr s) ∧ (legRight cid.toNat l s = true) ∧ (legState l s = 0)) ∧
    (let cid : Cid := 1#6
     let l : Fin 16 := 15
     let s : State := wArm [(F.PWM_LnSTAT_STATE 1 7, 2)]
     (Admits cid true (R.PWM_LnCFG (l.val / 8) (l.val % 8)).addr s) ∧ (legRight cid.toNat l s = true) ∧ (legState l s ≠ 0)) ∧
    (let cid : Cid := 1#6
     let l : Fin 16 := 15
     let s : State := wOwned0
     (Admits cid true (R.PWM_LnCFG (l.val / 8) (l.val % 8)).addr s) ∧ (legRight cid.toNat l s = false)) :=
  by decide +kernel

/-- Witnesses for Obligations.LegCommandsAndFaults, the clauses of FaultInputs. -/
theorem wit_FaultInputs_1 :
    (let j : Fin 8 := 7
     let s : State := wFlt
     let live := s.get (F.PIN_CFG_FUNC (80 + j.val)) = 1 ∧ s.on (F.PIN_CFG_TRANS (80 + j.val)) = false
     (live)) ∧
    (let j : Fin 8 := 7
     let s : State := State.reset
     let live := s.get (F.PIN_CFG_FUNC (80 + j.val)) = 1 ∧ s.on (F.PIN_CFG_TRANS (80 + j.val)) = false
     (¬live)) ∧
    (let j : Fin 8 := 7
     let s : State := wFlt
     let live := s.get (F.PIN_CFG_FUNC (80 + j.val)) = 1 ∧ s.on (F.PIN_CFG_TRANS (80 + j.val)) = false
     let ns := 10
     (live) ∧ (10 ≤ ns)) :=
  by decide +kernel

/-- Witnesses for Obligations.LegCommandsAndFaults, the clauses of FaultInputs. -/
theorem wit_FaultInputs_2 :
    (let j : Fin 8 := 7
     let s : State := wFlt
     let live := s.get (F.PIN_CFG_FUNC (80 + j.val)) = 1 ∧ s.on (F.PIN_CFG_TRANS (80 + j.val)) = false
     let ns := 9
     (live) ∧ (3 ≤ ns) ∧ (ns < 10)) ∧
    (let ns := 2
     (ns < 3)) ∧
    (let j : Fin 16 := 8
     let l : Fin 16 := 15
     let s : State := wFlt
     let routed := s.bit (F.PWM_LnFMASK_MASK (lb l) (li l)) j.val = true ∧ legState l s ≠ 3
     (routed)) :=
  by decide +kernel

/-- Witnesses for Obligations.LegCommandsAndFaults, the clauses of FaultInputs. -/
theorem wit_FaultInputs_3 :
    (let j : Fin 16 := 8
     let l : Fin 16 := 15
     let s : State := wSet [(F.PWM_LnSTAT_STATE 1 7, 0)] wFlt
     let routed := s.bit (F.PWM_LnFMASK_MASK (lb l) (li l)) j.val = true ∧ legState l s ≠ 3
     (routed)) ∧
    (let j : Fin 16 := 15
     let l : Fin 16 := 14
     let s : State := wFlt
     let routed := s.bit (F.PWM_LnFMASK_MASK (lb l) (li l)) j.val = true ∧ legState l s ≠ 3
     (¬routed)) ∧
    (let j : Fin 16 := 15
     let l : Fin 16 := 15
     let s : State := wSet [(F.PWM_LnSTAT_STATE 1 7, 3)] wFlt
     let routed := s.bit (F.PWM_LnFMASK_MASK (lb l) (li l)) j.val = true ∧ legState l s ≠ 3
     (¬routed)) :=
  by decide +kernel

end Sys2Proof.Tests.T09

namespace Sys2Proof.Tests.T10
set_option Elab.async false
open Sys2Proof Sys2Proof.Machine Sys2Proof.Tests

def wConv (c : Nat) (x : Conv) (s : State := State.reset) : State := s.setConv c x
def wCnt (i : Fin 14) (n : Nat) (s : State := State.reset) : State := { s with tb := { s.tb with cnt := s.tb.cnt.set i n } }
def wAdc (kind : Nat) (x : Conv := { want := some 15, timerAt := some 5 }) : State := wCnt 3 5 (wSet [(F.ADC_cSEQCTL_EN 3, 1), (F.ADC_cENTe_TKIND 3 15, kind), (F.ADC_cTIMER_PERIOD 3, 100), (F.ADC_cENTe_CH 3 15, 3)] (wConv 3 x))
def wAdcT : State := wAdc 2 { want := some 15, trig := some { coarse := true, late := true } }
def wCmp (fs : List (Fld × Nat)) (b : Option Nat := none) : State := setBlank 7 b (wSet ((F.CMP_kCTL_EN 7, 1) :: (F.CMP_kDAC_CODE 7, 512) :: (F.PWM_LnFMASK_MASK 1 7, 0xFFFF) :: (F.PWM_LnSTAT_STATE 1 7, 2) :: fs))
def wHot : Analog := { ain := [3000000000], vdda := 3300000000 }

/-- Witnesses for Obligations.Sensing, the clauses of Converters. -/
theorem wit_Converters_1 :
    (let cid : Cid := 1#6
     let c : Fin 4 := 3
     let v : Word := 3#32
     let s : State := State.reset
     let u := s.begin.set (F.ADC_cSEQCTL_LOOP c.val) (fieldOf 1 1 v)
     let bad := (adcEntries c.val u).any (fun e => decide (40 ≤ u.get (F.ADC_cENTe_CH c.val e)))
     let was := s.on (F.ADC_cSEQCTL_EN c.val)
     (Admits cid true (R.ADC_cSEQCTL c.val).addr s) ∧ (natBit v.toNat 0 = true) ∧ (was = false) ∧ (bad = false)) ∧
    (let cid : Cid := 1#6
     let c : Fin 4 := 3
     let v : Word := 1#32
     let s : State := wConv 3 { cur := some ⟨5, 1, 2, false, false, false⟩ }
     let u := s.begin.set (F.ADC_cSEQCTL_LOOP c.val) (fieldOf 1 1 v)
     let bad := (adcEntries c.val u).any (fun e => decide (40 ≤ u.get (F.ADC_cENTe_CH c.val e)))
     let was := s.on (F.ADC_cSEQCTL_EN c.val)
     (Admits cid true (R.ADC_cSEQCTL c.val).addr s) ∧ (natBit v.toNat 0 = true) ∧ (was = false) ∧ (bad = false)) ∧
    (let cid : Cid := 1#6
     let c : Fin 4 := 3
     let v : Word := 1#32
     let s : State := wSet [(F.ADC_cENTe_CH 3 0, 63)]
     let u := s.begin.set (F.ADC_cSEQCTL_LOOP c.val) (fieldOf 1 1 v)
     let bad := (adcEntries c.val u).any (fun e => decide (40 ≤ u.get (F.ADC_cENTe_CH c.val e)))
     let was := s.on (F.ADC_cSEQCTL_EN c.val)
     (Admits cid true (R.ADC_cSEQCTL c.val).addr s) ∧ (natBit v.toNat 0 = true) ∧ (was = false) ∧ (bad = true)) :=
  by decide +kernel

/-- Witnesses for Obligations.Sensing, the clauses of Converters. -/
theorem wit_Converters_2 :
    (let cid : Cid := 1#6
     let c : Fin 4 := 3
     let v : Word := 3#32
     let s : State := wSet [(F.ADC_cSEQCTL_EN 3, 1)]
     let was := s.on (F.ADC_cSEQCTL_EN c.val)
     (Admits cid true (R.ADC_cSEQCTL c.val).addr s) ∧ (natBit v.toNat 0 = true) ∧ (was = true)) ∧
    (let cid : Cid := 1#6
     let c : Fin 4 := 3
     let v : Word := 2#32
     let s : State := wSet [(F.ADC_cSEQCTL_EN 3, 1)]
     let was := s.on (F.ADC_cSEQCTL_EN c.val)
     (Admits cid true (R.ADC_cSEQCTL c.val).addr s) ∧ (natBit v.toNat 0 = false) ∧ (was = true)) ∧
    (let cid : Cid := 1#6
     let c : Fin 4 := 3
     let v : Word := 2#32
     let s : State := State.reset
     let was := s.on (F.ADC_cSEQCTL_EN c.val)
     (Admits cid true (R.ADC_cSEQCTL c.val).addr s) ∧ (natBit v.toNat 0 = false) ∧ (was = false)) :=
  by decide +kernel

/-- Witnesses for Obligations.Sensing, the clauses of Converters. -/
theorem wit_Converters_3 :
    (let c : Fin 4 := 3
     let s : State := wAdc 2
     let t := 5
     ((s.conv c.val).timerAt = some t) ∧ (t ≤ s.tb.cnt.get 3) ∧ (s.on (F.ADC_cSEQCTL_EN c.val) = true)) ∧
    (let c : Fin 4 := 3
     let s : State := wAdc 3
     let t := 5
     ((s.conv c.val).timerAt = some t) ∧ (t ≤ s.tb.cnt.get 3) ∧ (s.on (F.ADC_cSEQCTL_EN c.val) = true)) ∧
    (let c : Fin 4 := 3
     let s : State := State.reset
     (((s.conv c.val).timerAt.all fun t => decide (s.tb.cnt.get 3 < t)) = true ∨ s.on (F.ADC_cSEQCTL_EN c.val) = false)) :=
  by decide +kernel

/-- Witnesses for Obligations.Sensing, the clauses of Converters. -/
theorem wit_Converters_4 :
    (let c : Fin 4 := 3
     let s : State := wAdc 3
     let cid : Cid := 1#6
     (Admits cid true (R.ADC_cSOFT c.val).addr s)) ∧
    (let c : Fin 4 := 3
     let s : State := wAdc 2
     let cid : Cid := 1#6
     (Admits cid true (R.ADC_cSOFT c.val).addr s)) ∧
    (let c : Fin 4 := 3
     let s : State := wAdc 2
     ((s.conv c.val).trig = none)) :=
  by decide +kernel

/-- Witnesses for Obligations.Sensing, the clauses of Converters. -/
theorem wit_Converters_5 :
    (let c : Fin 4 := 3
     let s : State := wAdcT
     ((s.conv c.val).trig.isSome = true)) ∧
    (let c : Fin 4 := 3
     let s : State := wAdc 0
     let e := 15
     (adcAwaits c.val s = some e) ∧ (adcReady c.val s = true) ∧
     (s.get (F.ADC_cENTe_TKIND c.val e) = 0 ∨ (s.conv c.val).trig.isSome = true)) ∧
    (let c : Fin 4 := 3
     let s : State := wAdcT
     let e := 15
     (adcAwaits c.val s = some e) ∧ (adcReady c.val s = true) ∧
     (s.get (F.ADC_cENTe_TKIND c.val e) = 0 ∨ (s.conv c.val).trig.isSome = true)) :=
  by decide +kernel

/-- Witnesses for Obligations.Sensing, the clauses of Converters. -/
theorem wit_Converters_6 :
    (let c : Fin 4 := 3
     let s : State := State.reset
     (adcAwaits c.val s = none ∨ adcReady c.val s = false)) ∧
    (let c : Fin 4 := 3
     let s : State := wAdc 1
     let e := 15
     (adcAwaits c.val s = some e) ∧ (s.get (F.ADC_cENTe_TKIND c.val e) ≠ 0) ∧ ((s.conv c.val).trig = none)) ∧
    (let c : Fin 4 := 0
     let s : State := State.reset
     ((s.conv c.val).cur = none)) :=
  by decide +kernel

/-- Witnesses for Obligations.Sensing, the clauses of Converters. -/
theorem wit_Converters_7 :
    (let c : Fin 4 := 3
     let m : Sample := ⟨15, 4095, 77, true, true, true⟩
     let s : State := wConv 3 { cur := some ⟨15, 4095, 77, true, true, true⟩ } (wSet [(F.ADC_cRESAe_STATUS 3 15, 0xFF)])
     ((s.conv c.val).cur = some m) ∧ (m.entry < 16)) ∧
    (let c : Fin 4 := 0
     let m : Sample := ⟨0, 0, 0, false, false, false⟩
     let s : State := wConv 0 { cur := some ⟨0, 0, 0, false, false, false⟩ } (wSet [(F.ADC_cENTe_FMT 0 0, 1)])
     ((s.conv c.val).cur = some m) ∧ (m.entry < 16)) ∧
    (let cid : Cid := 1#6
     let c : Fin 4 := 3
     let e : Fin 16 := 15
     let s : State := State.reset
     (Admits cid false (R.ADC_cRESAe c.val e.val).addr s)) :=
  by decide +kernel

/-- Witnesses for Obligations.Sensing, the clauses of ComparatorsAndSensors. -/
theorem wit_ComparatorsAndSensors_1 :
    (let k : Fin 8 := 7
     let s : State := wCmp []
     (s.on (F.CMP_kCTL_EN k.val) = true) ∧ (s.bit F.CMP_STAT_RAW k.val = false)) ∧
    (let k : Fin 8 := 7
     let s : State := wCmp [(F.CMP_kCTL_POL 7, 1)]
     (s.on (F.CMP_kCTL_EN k.val) = true) ∧ (s.bit F.CMP_STAT_RAW k.val = false)) ∧
    (let k : Fin 8 := 7
     let v : Analog := wHot
     let s : State := wCmp [] (some 0)
     let shut := cmpBlanked k.val s
     let out := s.bit F.CMP_STAT_OUT k.val
     let trips := cmpTripped k.val v s = true ∧ s.bit F.CMP_STAT_RAW k.val = false
     (trips) ∧ (shut = true ∨ out = true)) :=
  by decide +kernel

/-- Witnesses for Obligations.Sensing, the clauses of ComparatorsAndSensors. -/
theorem wit_ComparatorsAndSensors_2 :
    (let k : Fin 8 := 7
     let v : Analog := wHot
     let s : State := wCmp []
     let shut := cmpBlanked k.val s
     let out := s.bit F.CMP_STAT_OUT k.val
     let trips := cmpTripped k.val v s = true ∧ s.bit F.CMP_STAT_RAW k.val = false
     (trips) ∧ (shut = false) ∧ (out = false)) ∧
    (let k : Fin 8 := 7
     let v : Analog := {}
     let s : State := wCmp []
     let trips := cmpTripped k.val v s = true ∧ s.bit F.CMP_STAT_RAW k.val = false
     (¬trips)) ∧
    (let k : Fin 8 := 7
     let v : Analog := {}
     let s : State := wCmp [(F.CMP_STAT_RAW, 0x80), (F.CMP_STAT_OUT, 0x80)] (some 0)
     let shut := cmpBlanked k.val s
     let out := s.bit F.CMP_STAT_OUT k.val
     let releases := cmpTripped k.val v s = false ∧ s.bit F.CMP_STAT_RAW k.val = true
     (releases) ∧ (shut = true ∨ out = false)) :=
  by decide +kernel

/-- Witnesses for Obligations.Sensing, the clauses of ComparatorsAndSensors. -/
theorem wit_ComparatorsAndSensors_3 :
    (let k : Fin 8 := 7
     let v : Analog := {}
     let s : State := wCmp [(F.CMP_STAT_RAW, 0x80), (F.CMP_STAT_OUT, 0x80)]
     let shut := cmpBlanked k.val s
     let out := s.bit F.CMP_STAT_OUT k.val
     let releases := cmpTripped k.val v s = false ∧ s.bit F.CMP_STAT_RAW k.val = true
     (releases) ∧ (shut = false) ∧ (out = true)) ∧
    (let k : Fin 8 := 7
     let v : Analog := {}
     let s : State := wCmp []
     let releases := cmpTripped k.val v s = false ∧ s.bit F.CMP_STAT_RAW k.val = true
     (¬releases)) ∧
    (let k : Fin 8 := 7
     let s : State := wCmp [(F.CMP_STAT_RAW, 0x80)] (some 0)
     let out := s.bit F.CMP_STAT_OUT k.val
     let t := 0
     (blankEnd k.val s = some t) ∧ (t ≤ legTicks (s.get (F.CMP_kCTL_BLEG k.val)) s) ∧ (s.bit F.CMP_STAT_RAW k.val = true) ∧
     (out = false)) :=
  by decide +kernel

/-- Witnesses for Obligations.Sensing, the clauses of ComparatorsAndSensors. -/
theorem wit_ComparatorsAndSensors_4 :
    (let k : Fin 8 := 7
     let s : State := wCmp [] (some 0)
     let out := s.bit F.CMP_STAT_OUT k.val
     let t := 0
     (blankEnd k.val s = some t) ∧ (t ≤ legTicks (s.get (F.CMP_kCTL_BLEG k.val)) s) ∧
     (s.bit F.CMP_STAT_RAW k.val = false ∨ out = true)) ∧
    (let k : Fin 8 := 7
     let s : State := wCmp [] (some 1)
     (((blankEnd k.val s).all fun t => decide (legTicks (s.get (F.CMP_kCTL_BLEG k.val)) s < t)) = true)) ∧
    (let x : Int := 600
     (-200 < x) ∧ (x ≤ 2047)) :=
  by decide +kernel

/-- Witnesses for Obligations.Sensing, the clauses of ComparatorsAndSensors. -/
theorem wit_ComparatorsAndSensors_5 :
    (let x : Int := 2047
     (-200 < x) ∧ (x ≤ 2047)) ∧
    (let x : Int := 559
     (-200 < x) ∧ (x ≤ 2047)) ∧
    (let x : Int := 560
     (-200 < x) ∧ (x ≤ 2047)) :=
  by decide +kernel

/-- Witnesses for Obligations.Sensing, the clauses of ComparatorsAndSensors. -/
theorem wit_ComparatorsAndSensors_6 :
    (let x : Int := -199
     (-200 < x) ∧ (x ≤ 2047)) ∧
    (let x : Int := -200
     (x ≤ -200)) ∧
    (let j : Fin 3 := 2
     let s : State := State.reset
     (s.bit F.ADC_SUPSTAT_LIVE j.val = false)) :=
  by decide +kernel

/-- Witnesses for Obligations.Sensing, the clauses of ComparatorsAndSensors. -/
theorem wit_ComparatorsAndSensors_7 :
    (let j : Fin 3 := 2
     let s : State := wSet [(F.ADC_SUPSTAT_LIVE, 4)]
     (s.bit F.ADC_SUPSTAT_LIVE j.val = true)) :=
  by decide +kernel

end Sys2Proof.Tests.T10

namespace Sys2Proof.Tests.T11
set_option Elab.async false
open Sys2Proof Sys2Proof.Machine Sys2Proof.Tests

def wTsl (w : Nat) (fs : List (Fld × Nat) := []) (g : State → State := id) : State := wMem 0x42001FFC [BitVec.ofNat 32 w] (g (wSet ([(F.TSL_CHtCTL_RUN 23, 1), (F.TSL_CHtPC_PC 23, 2047), (F.TSL_CHtTC_TC 23, 1000), (F.TSL_CHtCFG_PINBASE 23, 24), (F.TSL_CHtCFG_PINCNT 23, 7)] ++ fs) { State.reset with tb := { State.reset.tb with cnt := State.reset.tb.cnt.set! 9 1000 } }))
def wTu (s : State) : State := (ramReadWord { cid := 49, fetch := true } 1 0x42001FFC (bankReady 0x42001FFC s.begin).2).2
def wTurn (n : Nat) (s : State) : State := { s with svc := { s.svc with tslNext := n } }
def wDrv : State := wTsl 0x1E800005
def wDrq : State := wTsl 0x1E800005 [(F.TSL_CHtSTAT_WAIT 23, 1)] fun s => setPin 31 { queue := [(.low, 2000), (.z, 3000)] } s
def wSmp : State := wTsl 0x2E000000 [(F.TSL_CHtTC_TC 23, 998), (F.TSL_PINLVL_LVL, 0x80000000), (F.TSL_CHtSI 23, 0x80000001)]
def wShf : State := wTsl 0x3EFC0000 [(F.TSL_CHtS0 23, 3)]
def wCa : State := wTsl 0x7800FFFF [(F.TSL_CHtS1 23, 3)]
def wCl : State := wTsl 0x71008000
def wCs : State := wTsl 0x7A000000
def wCd : State := wTsl 0x73000000 [(F.TSL_CHtS0 23, 1001)]
def wFe : State := wTsl 0x4C000000 [] fun s => s.setTs 23 { outq := [5#32, 6#32] }
def wDe : State := wTsl 0x54000000 [] fun s => s.setTs 23 { inq := [5#32, 6#32, 7#32] }
def wFs : State := wTsl 0x40000000
def wA6 : State := wTsl 0x61800000
def wA1 : State := wTsl 0x6E400005 [(F.TSL_CHtTC_TC 23, 990)] fun s => setPin 31 { edges := [(995, true)] } (s.setBit F.TSL_PINLVL_LVL 31 true)
def wAt : State := wTsl 0x6E400005 [(F.TSL_CHtTC_TC 23, 990)]
def wBr : State := wTsl 0x810007FF [(F.TSL_CHtSTAT_C 23, 2)]
def wBf : State := wTsl 0x8B0007FF
def wSe : State := wTsl 0x90000000
def wTperm : List (Fld × Nat) := [(F.SEM_GMASKHI_MASK 7, 0xFFFFFFFF), (F.SYS_CIDEN_EN 1, 0xFFFFFFFF), (F.SYS_ACCRHI_MASK 21, 0xFFFFFFFF), (F.SYS_ACCWHI_MASK 21, 0xFFFFFFFF)]
def wSt : State := wTsl 0x9400007F wTperm
def wStv : Reply × State := fabric .other { cid := 26 + 23 } false (0x50005000 + 4 * 127) 4 0 (wTu wSt)
def wRd (r : Reply) : DWord := match r with | .ans (.ok d) => d | _ => 0#64
def wSg : State := wTsl 0x9800007F wTperm fun s => s.setSem 127 { holders := [⟨49, 0, 0⟩], recent := 49 }
def wSgv : Reply × State := fabric .other { cid := 26 + 23 } true (0x50005000 + 4 * 127) 4 0 (wTu wSg)
def wSs : State := wTsl 0x9E000000
def wI0 : State := wTsl 0x00000000
def wIA : State := wTsl 0xA0000000
def wDrf : State := wTsl 0x1E810005
def wDrl : State := wTsl 0x1E800001 [(F.TSL_CHtCFG_LATEPOL 23, 1)]
def wDr0 : State := wTsl 0x1F800001 [(F.TSL_CHtSO 23, 1)]
def wSmw : State := wTsl 0x2E000000
def wSmx : State := wTsl 0x2E010000
def wShx : State := wTsl 0x3EFC0001
def wCx : State := wTsl 0x7F000000
def wCy : State := wTsl 0x70010000
def wFx : State := wTsl 0x44000000
def wDx : State := wTsl 0x54000001
def wDf : State := wTsl 0x54000000 [] fun s => s.setTs 23 { inq := [5#32, 6#32, 7#32, 8#32] }
def wFer : State := wTsl 0x4C000000 [(F.TSL_CHtSTAT_STALL 23, 1), (F.TSL_CHtSTAT_WAIT 23, 1), (F.TSL_CHtCFG_RESYNC 23, 1), (F.TSL_CHtCFG_LEAD 23, 9)] fun s => s.setTs 23 { outq := [5#32, 6#32] }
def wA7 : State := wTsl 0x61C00000
def wA6w : State := wTsl 0x61800009
def wA5 : State := wTsl 0x61400000 [(F.EVR_ROUTE_TCLASS 127, 5)] fun s => setRoutePend 127 true s
def wA5w : State := wTsl 0x61400009
def wA5t : State := wTsl 0x61400009 [(F.TSL_CHtTC_TC 23, 900)]
def wApx : State := wTsl 0x6E400005 [(F.TSL_CHtCFG_PINCNT 23, 6)]
def wA1l : State := wTsl 0x6E400002 [(F.TSL_CHtTC_TC 23, 990)] fun s => setPin 31 { edges := [(995, true)] } (s.setBit F.TSL_PINLVL_LVL 31 true)
def wAw : State := wTsl 0x6E400000 [(F.TSL_CHtTC_TC 23, 990)]
def wBx : State := wTsl 0x8C0007FF
def wB6 : State := wTsl 0x860007FF [(F.TSL_CHtTC_TC 23, 990)] fun s => s.setBit F.TSL_PINLVL_LVL 24 true
def wB9 : State := wTsl 0x894407FF
def wBp : State := wTsl 0x86E007FF [(F.TSL_CHtCFG_PINCNT 23, 6)]
def wSt0 : State := wTsl 0x9400007F
def wSg0 : State := wTsl 0x9800007F
def wSx : State := wTsl 0x92000000
def wSy : State := wTsl 0x9C000080
def wRc (r : Reply) : Cause := match r with | .ans (.refused c) => c | _ => .deny
def wDrt : State := wSet [(F.TSL_CHtCTL_RUN 22, 1), (F.TSL_CHtPC_PC 22, 2046)] (wTurn 22 wDrv)
def wDoff : State := wSet [(F.MEM_PWR_STATE 0x43, 2)] wDrv
def wDbad : State := { wDrv with mem := setMemWord wDrv.mem 0x42001FFC 5#32 3#7 }
def wDbadu : State := (ramReadWord { cid := 49, fetch := true } 1 0x42001FFC (bankReady 0x42001FFC wDbad.begin).2).2

/-- Witnesses for Obligations.TeaselInstructions, the clauses of TeaselPinsAndCounts. -/
theorem wit_TeaselPinsAndCounts_1 :
    (let t : Fin 24 := 23
     let w : Word := 0x1E810005#32
     let s : State := wDrf
     let u : State := wTu wDrf
     let pin := tslPinOf t (fieldOf 25 3 w) u
     (TslFetches t w s u) ∧ (tslTurn t s.begin = true) ∧ (fieldOf 28 4 w = 1) ∧ (fieldOf 16 6 w ≠ 0 ∨ pin = none)) ∧
    (let t : Fin 24 := 23
     let w : Word := 0x1E800005#32
     let s : State := wDrq
     let u : State := wTu wDrq
     let pin := tslPinOf t (fieldOf 25 3 w) u
     let n := 31
     let full := 2 ≤ (pinAt n u).queue.length
     (TslFetches t w s u) ∧ (tslTurn t s.begin = true) ∧ (fieldOf 28 4 w = 1) ∧ (fieldOf 16 6 w = 0) ∧ (pin = some n) ∧ (full)) ∧
    (let t : Fin 24 := 23
     let w : Word := 0x1E800005#32
     let s : State := wDrv
     let u : State := wTu wDrv
     let pin := tslPinOf t (fieldOf 25 3 w) u
     let n := 31
     let k := tslTick t u + (if fieldOf 22 1 w = 1 then u.get (F.TSL_CHtS1 t) % 65536 else fieldOf 0 16 w : Nat)
     let full := 2 ≤ (pinAt n u).queue.length
     (TslFetches t w s u) ∧ (tslTurn t s.begin = true) ∧ (fieldOf 28 4 w = 1) ∧ (fieldOf 16 6 w = 0) ∧ (pin = some n) ∧ (¬full) ∧
     ((tb9 u : Int) + 2 ≤ k)) :=
  ⟨⟨⟨by decide +kernel, by decide +kernel, pair_of (by decide +kernel) rfl⟩, by decide +kernel⟩,
   ⟨⟨by decide +kernel, by decide +kernel, pair_of (by decide +kernel) rfl⟩, by decide +kernel⟩,
   ⟨⟨by decide +kernel, by decide +kernel, pair_of (by decide +kernel) rfl⟩, by decide +kernel⟩⟩

/-- Witnesses for Obligations.TeaselInstructions, the clauses of TeaselPinsAndCounts. -/
theorem wit_TeaselPinsAndCounts_2 :
    (let t : Fin 24 := 23
     let w : Word := 0x1E800001#32
     let s : State := wDrl
     let u : State := wTu wDrl
     let pin := tslPinOf t (fieldOf 25 3 w) u
     let n := 31
     let k := tslTick t u + (if fieldOf 22 1 w = 1 then u.get (F.TSL_CHtS1 t) % 65536 else fieldOf 0 16 w : Nat)
     let full := 2 ≤ (pinAt n u).queue.length
     (TslFetches t w s u) ∧ (tslTurn t s.begin = true) ∧ (fieldOf 28 4 w = 1) ∧ (fieldOf 16 6 w = 0) ∧ (pin = some n) ∧ (¬full) ∧
     (k < (tb9 u : Int) + 2) ∧ (u.on (F.TSL_CHtCFG_LATEPOL t) = true)) ∧
    (let t : Fin 24 := 23
     let w : Word := 0x1F800001#32
     let s : State := wDr0
     let u : State := wTu wDr0
     let pin := tslPinOf t (fieldOf 25 3 w) u
     let n := 31
     let k := tslTick t u + (if fieldOf 22 1 w = 1 then u.get (F.TSL_CHtS1 t) % 65536 else fieldOf 0 16 w : Nat)
     let full := 2 ≤ (pinAt n u).queue.length
     (TslFetches t w s u) ∧ (tslTurn t s.begin = true) ∧ (fieldOf 28 4 w = 1) ∧ (fieldOf 16 6 w = 0) ∧ (pin = some n) ∧ (¬full) ∧
     (k < (tb9 u : Int) + 2) ∧ (u.on (F.TSL_CHtCFG_LATEPOL t) = false)) ∧
    (let t : Fin 24 := 23
     let w : Word := 0x2E010000#32
     let s : State := wSmx
     let u : State := wTu wSmx
     let pin := tslPinOf t (fieldOf 25 3 w) u
     (TslFetches t w s u) ∧ (tslTurn t s.begin = true) ∧ (fieldOf 28 4 w = 2) ∧ (fieldOf 16 9 w ≠ 0 ∨ pin = none)) :=
  ⟨⟨⟨by decide +kernel, by decide +kernel, pair_of (by decide +kernel) rfl⟩, by decide +kernel⟩,
   ⟨⟨by decide +kernel, by decide +kernel, pair_of (by decide +kernel) rfl⟩, by decide +kernel⟩,
   ⟨⟨by decide +kernel, by decide +kernel, pair_of (by decide +kernel) rfl⟩, by decide +kernel⟩⟩

/-- Witnesses for Obligations.TeaselInstructions, the clauses of TeaselPinsAndCounts. -/
theorem wit_TeaselPinsAndCounts_3 :
    (let t : Fin 24 := 23
     let w : Word := 0x2E000000#32
     let s : State := wSmw
     let u : State := wTu wSmw
     let pin := tslPinOf t (fieldOf 25 3 w) u
     let n := 31
     let k := tslTick t u + (fieldOf 0 16 w : Nat)
     (TslFetches t w s u) ∧ (tslTurn t s.begin = true) ∧ (fieldOf 28 4 w = 2) ∧ (fieldOf 16 9 w = 0) ∧ (pin = some n) ∧
     (levelKnown k u = false)) ∧
    (let t : Fin 24 := 23
     let w : Word := 0x2E000000#32
     let s : State := wSmp
     let u : State := wTu wSmp
     let pin := tslPinOf t (fieldOf 25 3 w) u
     let n := 31
     let k := tslTick t u + (fieldOf 0 16 w : Nat)
     (TslFetches t w s u) ∧ (tslTurn t s.begin = true) ∧ (fieldOf 28 4 w = 2) ∧ (fieldOf 16 9 w = 0) ∧ (pin = some n) ∧
     (levelKnown k u = true)) ∧
    (let t : Fin 24 := 23
     let w : Word := 0x3EFC0000#32
     let s : State := wShf
     let u : State := wTu wShf
     (TslFetches t w s u) ∧ (tslTurn t s.begin = true) ∧ (fieldOf 28 4 w = 3) ∧ (fieldOf 0 18 w = 0)) :=
  ⟨⟨⟨by decide +kernel, by decide +kernel, pair_of (by decide +kernel) rfl⟩, by decide +kernel⟩,
   ⟨⟨by decide +kernel, by decide +kernel, pair_of (by decide +kernel) rfl⟩, by decide +kernel⟩,
   ⟨⟨by decide +kernel, by decide +kernel, pair_of (by decide +kernel) rfl⟩, by decide +kernel⟩⟩

/-- Witnesses for Obligations.TeaselInstructions, the clauses of TeaselPinsAndCounts. -/
theorem wit_TeaselPinsAndCounts_4 :
    (let t : Fin 24 := 23
     let w : Word := 0x3EFC0001#32
     let s : State := wShx
     let u : State := wTu wShx
     (TslFetches t w s u) ∧ (tslTurn t s.begin = true) ∧ (fieldOf 28 4 w = 3) ∧ (fieldOf 0 18 w ≠ 0)) ∧
    (let t : Fin 24 := 23
     let w : Word := 0x7800FFFF#32
     let s : State := wCa
     let u : State := wTu wCa
     (TslFetches t w s u) ∧ (tslTurn t s.begin = true) ∧ (fieldOf 28 4 w = 7) ∧ (fieldOf 16 8 w = 0) ∧ (fieldOf 24 3 w = 0)) ∧
    (let t : Fin 24 := 23
     let w : Word := 0x71008000#32
     let s : State := wCl
     let u : State := wTu wCl
     (TslFetches t w s u) ∧ (tslTurn t s.begin = true) ∧ (fieldOf 28 4 w = 7) ∧ (fieldOf 16 8 w = 0) ∧ (fieldOf 24 3 w = 1)) :=
  ⟨⟨⟨by decide +kernel, by decide +kernel, pair_of (by decide +kernel) rfl⟩, by decide +kernel⟩,
   ⟨⟨by decide +kernel, by decide +kernel, pair_of (by decide +kernel) rfl⟩, by decide +kernel⟩,
   ⟨⟨by decide +kernel, by decide +kernel, pair_of (by decide +kernel) rfl⟩, by decide +kernel⟩⟩

/-- Witnesses for Obligations.TeaselInstructions, the clauses of TeaselPinsAndCounts. -/
theorem wit_TeaselPinsAndCounts_5 :
    (let t : Fin 24 := 23
     let w : Word := 0x7A000000#32
     let s : State := wCs
     let u : State := wTu wCs
     (TslFetches t w s u) ∧ (tslTurn t s.begin = true) ∧ (fieldOf 28 4 w = 7) ∧ (fieldOf 16 8 w = 0) ∧ (fieldOf 24 3 w = 2)) ∧
    (let t : Fin 24 := 23
     let w : Word := 0x73000000#32
     let s : State := wCd
     let u : State := wTu wCd
     (TslFetches t w s u) ∧ (tslTurn t s.begin = true) ∧ (fieldOf 28 4 w = 7) ∧ (fieldOf 16 8 w = 0) ∧ (fieldOf 24 3 w = 3)) ∧
    (let t : Fin 24 := 23
     let w : Word := 0x7F000000#32
     let s : State := wCx
     let u : State := wTu wCx
     (TslFetches t w s u) ∧ (tslTurn t s.begin = true) ∧ (fieldOf 28 4 w = 7) ∧ (4 ≤ fieldOf 24 3 w)) :=
  ⟨⟨⟨by decide +kernel, by decide +kernel, pair_of (by decide +kernel) rfl⟩, by decide +kernel⟩,
   ⟨⟨by decide +kernel, by decide +kernel, pair_of (by decide +kernel) rfl⟩, by decide +kernel⟩,
   ⟨⟨by decide +kernel, by decide +kernel, pair_of (by decide +kernel) rfl⟩, by decide +kernel⟩⟩

/-- Witnesses for Obligations.TeaselInstructions, the clauses of TeaselPinsAndCounts. -/
theorem wit_TeaselPinsAndCounts_6 :
    (let t : Fin 24 := 23
     let w : Word := 0x70010000#32
     let s : State := wCy
     let u : State := wTu wCy
     (TslFetches t w s u) ∧ (tslTurn t s.begin = true) ∧ (fieldOf 28 4 w = 7) ∧ (fieldOf 16 8 w ≠ 0) ∧ (fieldOf 24 3 w = 0)) :=
  ⟨⟨by decide +kernel, by decide +kernel, pair_of (by decide +kernel) rfl⟩, by decide +kernel⟩

/-- Witnesses for Obligations.TeaselInstructions, the clauses of TeaselFlow. -/
theorem wit_TeaselFlow_1 :
    (let t : Fin 24 := 23
     let w : Word := 0x44000000#32
     let s : State := wFx
     let u : State := wTu wFx
     let dst := fieldOf 26 2 w
     (TslFetches t w s u) ∧ (tslTurn t s.begin = true) ∧ (fieldOf 28 4 w = 4) ∧ (fieldOf 0 26 w ≠ 0 ∨ dst = 1)) ∧
    (let t : Fin 24 := 23
     let w : Word := 0x40000000#32
     let s : State := wFs
     let u : State := wTu wFs
     let x := u.ts t
     let dst := fieldOf 26 2 w
     (TslFetches t w s u) ∧ (tslTurn t s.begin = true) ∧ (fieldOf 28 4 w = 4) ∧ (fieldOf 0 26 w = 0) ∧ (dst ≠ 1) ∧ (x.outq = [])) ∧
    (let t : Fin 24 := 23
     let w : Word := 0x4C000000#32
     let s : State := wFe
     let u : State := wTu wFe
     let x := u.ts t
     let dst := fieldOf 26 2 w
     let d := 5#32
     let rest := [6#32]
     (TslFetches t w s u) ∧ (tslTurn t s.begin = true) ∧ (fieldOf 28 4 w = 4) ∧ (fieldOf 0 26 w = 0) ∧ (dst ≠ 1) ∧
     (x.outq = d :: rest)) :=
  ⟨⟨⟨by decide +kernel, by decide +kernel, pair_of (by decide +kernel) rfl⟩, by decide +kernel⟩,
   ⟨⟨by decide +kernel, by decide +kernel, pair_of (by decide +kernel) rfl⟩, by decide +kernel⟩,
   ⟨⟨by decide +kernel, by decide +kernel, pair_of (by decide +kernel) rfl⟩, by decide +kernel⟩⟩

/-- Witnesses for Obligations.TeaselInstructions, the clauses of TeaselFlow. -/
theorem wit_TeaselFlow_2 :
    (let t : Fin 24 := 23
     let w : Word := 0x4C000000#32
     let s : State := wFer
     let u : State := wTu wFer
     let x := u.ts t
     let dst := fieldOf 26 2 w
     let d := 5#32
     let rest := [6#32]
     (TslFetches t w s u) ∧ (tslTurn t s.begin = true) ∧ (fieldOf 28 4 w = 4) ∧ (fieldOf 0 26 w = 0) ∧ (dst ≠ 1) ∧
     (x.outq = d :: rest)) ∧
    (let t : Fin 24 := 23
     let w : Word := 0x54000001#32
     let s : State := wDx
     let u : State := wTu wDx
     (TslFetches t w s u) ∧ (tslTurn t s.begin = true) ∧ (fieldOf 28 4 w = 5) ∧ (fieldOf 0 26 w ≠ 0)) ∧
    (let t : Fin 24 := 23
     let w : Word := 0x54000000#32
     let s : State := wDf
     let u : State := wTu wDf
     let x := u.ts t
     (TslFetches t w s u) ∧ (tslTurn t s.begin = true) ∧ (fieldOf 28 4 w = 5) ∧ (fieldOf 0 26 w = 0) ∧ (4 ≤ x.inq.length)) :=
  ⟨⟨⟨by decide +kernel, by decide +kernel, pair_of (by decide +kernel) rfl⟩, by decide +kernel⟩,
   ⟨⟨by decide +kernel, by decide +kernel, pair_of (by decide +kernel) rfl⟩, by decide +kernel⟩,
   ⟨⟨by decide +kernel, by decide +kernel, pair_of (by decide +kernel) rfl⟩, by decide +kernel⟩⟩

/-- Witnesses for Obligations.TeaselInstructions, the clauses of TeaselFlow. -/
theorem wit_TeaselFlow_3 :
    (let t : Fin 24 := 23
     let w : Word := 0x54000000#32
     let s : State := wDe
     let u : State := wTu wDe
     let x := u.ts t
     (TslFetches t w s u) ∧ (tslTurn t s.begin = true) ∧ (fieldOf 28 4 w = 5) ∧ (fieldOf 0 26 w = 0) ∧ (x.inq.length < 4)) ∧
    (let t : Fin 24 := 23
     let w : Word := 0x61C00000#32
     let s : State := wA7
     let u : State := wTu wA7
     let cond := fieldOf 22 3 w
     (TslFetches t w s u) ∧ (tslTurn t s.begin = true) ∧ (fieldOf 28 4 w = 6) ∧ (fieldOf 16 6 w ≠ 0 ∨ cond = 7)) ∧
    (let t : Fin 24 := 23
     let w : Word := 0x61800000#32
     let s : State := wA6
     let u : State := wTu wA6
     let cond := fieldOf 22 3 w
     (TslFetches t w s u) ∧ (tslTurn t s.begin = true) ∧ (fieldOf 28 4 w = 6) ∧ (fieldOf 16 6 w = 0) ∧ (cond = 6)) :=
  ⟨⟨⟨by decide +kernel, by decide +kernel, pair_of (by decide +kernel) rfl⟩, by decide +kernel⟩,
   ⟨⟨by decide +kernel, by decide +kernel, pair_of (by decide +kernel) rfl⟩, by decide +kernel⟩,
   ⟨⟨by decide +kernel, by decide +kernel, pair_of (by decide +kernel) rfl⟩, by decide +kernel⟩⟩

/-- Witnesses for Obligations.TeaselInstructions, the clauses of TeaselFlow. -/
theorem wit_TeaselFlow_4 :
    (let t : Fin 24 := 23
     let w : Word := 0x61800009#32
     let s : State := wA6w
     let u : State := wTu wA6w
     let cond := fieldOf 22 3 w
     (TslFetches t w s u) ∧ (tslTurn t s.begin = true) ∧ (fieldOf 28 4 w = 6) ∧ (fieldOf 16 6 w = 0) ∧ (cond = 6)) ∧
    (let t : Fin 24 := 23
     let w : Word := 0x61400000#32
     let s : State := wA5
     let u : State := wTu wA5
     let tc := tslTick t u
     let dead := tc + (fieldOf 0 16 w : Nat)
     let timed := fieldOf 0 16 w ≠ 0
     let cond := fieldOf 22 3 w
     let q := 127
     (TslFetches t w s u) ∧ (tslTurn t s.begin = true) ∧ (fieldOf 28 4 w = 6) ∧ (fieldOf 16 6 w = 0) ∧ (cond = 5) ∧
     ((timed → (tb9 u : Int) ≤ dead)) ∧ (eventInput (fieldOf 25 3 w) u = some q)) ∧
    (let t : Fin 24 := 23
     let w : Word := 0x61400009#32
     let s : State := wA5w
     let u : State := wTu wA5w
     let tc := tslTick t u
     let dead := tc + (fieldOf 0 16 w : Nat)
     let timed := fieldOf 0 16 w ≠ 0
     let cond := fieldOf 22 3 w
     (TslFetches t w s u) ∧ (tslTurn t s.begin = true) ∧ (fieldOf 28 4 w = 6) ∧ (fieldOf 16 6 w = 0) ∧ (cond = 5) ∧
     ((timed → (tb9 u : Int) ≤ dead)) ∧ (eventInput (fieldOf 25 3 w) u = none) ∧ (¬(timed ∧ dead ≤ tb9 u))) :=
  ⟨⟨⟨by decide +kernel, by decide +kernel, pair_of (by decide +kernel) rfl⟩, by decide +kernel⟩,
   ⟨⟨by decide +kernel, by decide +kernel, pair_of (by decide +kernel) rfl⟩, by decide +kernel⟩,
   ⟨⟨by decide +kernel, by decide +kernel, pair_of (by decide +kernel) rfl⟩, by decide +kernel⟩⟩

/-- Witnesses for Obligations.TeaselInstructions, the clauses of TeaselFlow. -/
theorem wit_TeaselFlow_5 :
    (let t : Fin 24 := 23
     let w : Word := 0x61400009#32
     let s : State := wA5t
     let u : State := wTu wA5t
     let tc := tslTick t u
     let dead := tc + (fieldOf 0 16 w : Nat)
     let timed := fieldOf 0 16 w ≠ 0
     let cond := fieldOf 22 3 w
     (TslFetches t w s u) ∧ (tslTurn t s.begin = true) ∧ (fieldOf 28 4 w = 6) ∧ (fieldOf 16 6 w = 0) ∧ (cond = 5) ∧ (timed) ∧
     (dead < tb9 u ∨ (dead = tb9 u ∧ eventInput (fieldOf 25 3 w) u = none))) ∧
    (let t : Fin 24 := 23
     let w : Word := 0x6E400005#32
     let s : State := wApx
     let u : State := wTu wApx
     let cond := fieldOf 22 3 w
     (TslFetches t w s u) ∧ (tslTurn t s.begin = true) ∧ (fieldOf 28 4 w = 6) ∧ (fieldOf 16 6 w = 0) ∧ (cond < 5) ∧
     (tslPinOf t (fieldOf 25 3 w) u = none)) ∧
    (let t : Fin 24 := 23
     let w : Word := 0x6E400005#32
     let s : State := wA1
     let u : State := wTu wA1
     let tc := tslTick t u
     let dead := tc + (fieldOf 0 16 w : Nat)
     let timed := fieldOf 0 16 w ≠ 0
     let cond := fieldOf 22 3 w
     let n := 31
     let r := awaitPinTick n cond tc u
     let k := 995
     (TslFetches t w s u) ∧ (tslTurn t s.begin = true) ∧ (fieldOf 28 4 w = 6) ∧ (fieldOf 16 6 w = 0) ∧ (cond < 5) ∧
     (tslPinOf t (fieldOf 25 3 w) u = some n) ∧ (r.1 = some k) ∧ (¬timed ∨ k ≤ dead)) :=
  ⟨⟨⟨by decide +kernel, by decide +kernel, pair_of (by decide +kernel) rfl⟩, by decide +kernel⟩,
   ⟨⟨by decide +kernel, by decide +kernel, pair_of (by decide +kernel) rfl⟩, by decide +kernel⟩,
   ⟨⟨by decide +kernel, by decide +kernel, pair_of (by decide +kernel) rfl⟩, by decide +kernel⟩⟩

/-- Witnesses for Obligations.TeaselInstructions, the clauses of TeaselFlow. -/
theorem wit_TeaselFlow_6 :
    (let t : Fin 24 := 23
     let w : Word := 0x6E400002#32
     let s : State := wA1l
     let u : State := wTu wA1l
     let tc := tslTick t u
     let dead := tc + (fieldOf 0 16 w : Nat)
     let timed := fieldOf 0 16 w ≠ 0
     let cond := fieldOf 22 3 w
     let n := 31
     let r := awaitPinTick n cond tc u
     let k := 995
     (TslFetches t w s u) ∧ (tslTurn t s.begin = true) ∧ (fieldOf 28 4 w = 6) ∧ (fieldOf 16 6 w = 0) ∧ (cond < 5) ∧
     (tslPinOf t (fieldOf 25 3 w) u = some n) ∧ (r.1 = some k) ∧ (timed) ∧ (dead < k)) ∧
    (let t : Fin 24 := 23
     let w : Word := 0x6E400005#32
     let s : State := wAt
     let u : State := wTu wAt
     let tc := tslTick t u
     let dead := tc + (fieldOf 0 16 w : Nat)
     let timed := fieldOf 0 16 w ≠ 0
     let cond := fieldOf 22 3 w
     let n := 31
     let r := awaitPinTick n cond tc u
     let o := if r.2 then u.set (F.TSL_CHtSTAT_OVERRUN t) 1 else u
     (TslFetches t w s u) ∧ (tslTurn t s.begin = true) ∧ (fieldOf 28 4 w = 6) ∧ (fieldOf 16 6 w = 0) ∧ (cond < 5) ∧
     (tslPinOf t (fieldOf 25 3 w) u = some n) ∧ (r.1 = none) ∧ (timed) ∧ (levelKnown dead o = true)) ∧
    (let t : Fin 24 := 23
     let w : Word := 0x6E400000#32
     let s : State := wAw
     let u : State := wTu wAw
     let tc := tslTick t u
     let dead := tc + (fieldOf 0 16 w : Nat)
     let timed := fieldOf 0 16 w ≠ 0
     let cond := fieldOf 22 3 w
     let n := 31
     let r := awaitPinTick n cond tc u
     let o := if r.2 then u.set (F.TSL_CHtSTAT_OVERRUN t) 1 else u
     (TslFetches t w s u) ∧ (tslTurn t s.begin = true) ∧ (fieldOf 28 4 w = 6) ∧ (fieldOf 16 6 w = 0) ∧ (cond < 5) ∧
     (tslPinOf t (fieldOf 25 3 w) u = some n) ∧ (r.1 = none) ∧ (¬timed ∨ levelKnown dead o = false)) :=
  ⟨⟨⟨by decide +kernel, by decide +kernel, pair_of (by decide +kernel) rfl⟩, by decide +kernel⟩,
   ⟨⟨by decide +kernel, by decide +kernel, pair_of (by decide +kernel) rfl⟩, by decide +kernel⟩,
   ⟨⟨by decide +kernel, by decide +kernel, pair_of (by decide +kernel) rfl⟩, by decide +kernel⟩⟩

/-- Witnesses for Obligations.TeaselInstructions, the clauses of TeaselFlow. -/
theorem wit_TeaselFlow_7 :
    (let t : Fin 24 := 23
     let w : Word := 0x8C0007FF#32
     let s : State := wBx
     let u : State := wTu wBx
     let cond := fieldOf 24 4 w
     let formed := fieldOf 11 7 w = 0 ∧ (fieldOf 18 3 w = 0 ∨ cond = 8 ∨ cond = 9)
     (TslFetches t w s u) ∧ (tslTurn t s.begin = true) ∧ (fieldOf 28 4 w = 8) ∧ (¬formed ∨ 12 ≤ cond)) ∧
    (let t : Fin 24 := 23
     let w : Word := 0x810007FF#32
     let s : State := wBr
     let u : State := wTu wBr
     let x := u.ts t
     let fl := u.get (F.TSL_CHtSTAT_C t)
     let cond := fieldOf 24 4 w
     let conds := [(0, true), (1, natBit fl 1), (2, !natBit fl 1), (3, natBit fl 2), (4, natBit fl 0), (5, !natBit fl 0), (10, x.outq.isEmpty), (11, decide (4 ≤ x.inq.length))]
     let formed := fieldOf 11 7 w = 0 ∧ (fieldOf 18 3 w = 0 ∨ cond = 8 ∨ cond = 9)
     let e := (1, true)
     (TslFetches t w s u) ∧ (e ∈ conds) ∧ (tslTurn t s.begin = true) ∧ (fieldOf 28 4 w = 8) ∧ (formed) ∧ (cond = e.1)) ∧
    (let t : Fin 24 := 23
     let w : Word := 0x8B0007FF#32
     let s : State := wBf
     let u : State := wTu wBf
     let x := u.ts t
     let fl := u.get (F.TSL_CHtSTAT_C t)
     let cond := fieldOf 24 4 w
     let conds := [(0, true), (1, natBit fl 1), (2, !natBit fl 1), (3, natBit fl 2), (4, natBit fl 0), (5, !natBit fl 0), (10, x.outq.isEmpty), (11, decide (4 ≤ x.inq.length))]
     let formed := fieldOf 11 7 w = 0 ∧ (fieldOf 18 3 w = 0 ∨ cond = 8 ∨ cond = 9)
     let e := (11, false)
     (TslFetches t w s u) ∧ (e ∈ conds) ∧ (tslTurn t s.begin = true) ∧ (fieldOf 28 4 w = 8) ∧ (formed) ∧ (cond = e.1)) :=
  ⟨⟨⟨by decide +kernel, by decide +kernel, pair_of (by decide +kernel) rfl⟩, by decide +kernel⟩,
   ⟨⟨by decide +kernel, by decide +kernel, pair_of (by decide +kernel) rfl⟩, by repeat (first | exact .head _ | apply List.Mem.tail), by decide +kernel⟩,
   ⟨⟨by decide +kernel, by decide +kernel, pair_of (by decide +kernel) rfl⟩, by repeat (first | exact .head _ | apply List.Mem.tail), by decide +kernel⟩⟩

/-- Witnesses for Obligations.TeaselInstructions, the clauses of TeaselFlow. -/
theorem wit_TeaselFlow_8 :
    (let t : Fin 24 := 23
     let w : Word := 0x86E007FF#32
     let s : State := wBp
     let u : State := wTu wBp
     let cond := fieldOf 24 4 w
     let pa := tslPinOf t (fieldOf 21 3 w) u
     let pb := tslPinOf t (fieldOf 18 3 w) u
     let formed := fieldOf 11 7 w = 0 ∧ (fieldOf 18 3 w = 0 ∨ cond = 8 ∨ cond = 9)
     (TslFetches t w s u) ∧ (tslTurn t s.begin = true) ∧ (fieldOf 28 4 w = 8) ∧ (formed) ∧ (6 ≤ cond) ∧ (cond ≤ 9) ∧
     (pa = none ∨ pb = none)) ∧
    (let t : Fin 24 := 23
     let w : Word := 0x860007FF#32
     let s : State := wB6
     let u : State := wTu wB6
     let cond := fieldOf 24 4 w
     let pa := tslPinOf t (fieldOf 21 3 w) u
     let pb := tslPinOf t (fieldOf 18 3 w) u
     let formed := fieldOf 11 7 w = 0 ∧ (fieldOf 18 3 w = 0 ∨ cond = 8 ∨ cond = 9)
     let a := 24
     let b := 24
     (TslFetches t w s u) ∧ (tslTurn t s.begin = true) ∧ (fieldOf 28 4 w = 8) ∧ (formed) ∧ (6 ≤ cond) ∧ (cond ≤ 9) ∧
     (pa = some a) ∧ (pb = some b)) ∧
    (let t : Fin 24 := 23
     let w : Word := 0x894407FF#32
     let s : State := wB9
     let u : State := wTu wB9
     let cond := fieldOf 24 4 w
     let pa := tslPinOf t (fieldOf 21 3 w) u
     let pb := tslPinOf t (fieldOf 18 3 w) u
     let formed := fieldOf 11 7 w = 0 ∧ (fieldOf 18 3 w = 0 ∨ cond = 8 ∨ cond = 9)
     let a := 26
     let b := 25
     (TslFetches t w s u) ∧ (tslTurn t s.begin = true) ∧ (fieldOf 28 4 w = 8) ∧ (formed) ∧ (6 ≤ cond) ∧ (cond ≤ 9) ∧
     (pa = some a) ∧ (pb = some b)) :=
  ⟨⟨⟨by decide +kernel, by decide +kernel, pair_of (by decide +kernel) rfl⟩, by decide +kernel⟩,
   ⟨⟨by decide +kernel, by decide +kernel, pair_of (by decide +kernel) rfl⟩, by decide +kernel⟩,
   ⟨⟨by decide +kernel, by decide +kernel, pair_of (by decide +kernel) rfl⟩, by decide +kernel⟩⟩

/-- Witnesses for Obligations.TeaselInstructions, the clauses of TeaselFlow. -/
theorem wit_TeaselFlow_9 :
    (let t : Fin 24 := 23
     let w : Word := 0x90000000#32
     let s : State := wSe
     let u : State := wTu wSe
     let dst := fieldOf 26 2 w
     let ev := fieldOf 25 1 w
     let formed := fieldOf 7 18 w = 0
     (TslFetches t w s u) ∧ (tslTurn t s.begin = true) ∧ (fieldOf 28 4 w = 9) ∧ (formed) ∧ (dst = 0) ∧ (ev = 0)) ∧
    (let t : Fin 24 := 23
     let w : Word := 0x9400007F#32
     let s : State := wSt
     let u : State := wTu wSt
     let dst := fieldOf 26 2 w
     let a := 0x50005000 + 4 * fieldOf 0 7 w
     let ev := fieldOf 25 1 w
     let tried := fabric .other { cid := 26 + t } false a 4 0 u
     let formed := fieldOf 7 18 w = 0
     let d := wRd wStv.1
     (TslFetches t w s u) ∧ (tslTurn t s.begin = true) ∧ (fieldOf 28 4 w = 9) ∧ (formed) ∧ (dst = 1) ∧ (ev = 0) ∧
     (tried.1 = .ans (.ok d))) ∧
    (let t : Fin 24 := 23
     let w : Word := 0x9400007F#32
     let s : State := wSt0
     let u : State := wTu wSt0
     let dst := fieldOf 26 2 w
     let a := 0x50005000 + 4 * fieldOf 0 7 w
     let ev := fieldOf 25 1 w
     let tried := fabric .other { cid := 26 + t } false a 4 0 u
     let formed := fieldOf 7 18 w = 0
     let c := wRc (fabric .other { cid := 26 + 23 } false (0x50005000 + 4 * 127) 4 0 (wTu wSt0)).1
     (TslFetches t w s u) ∧ (tslTurn t s.begin = true) ∧ (fieldOf 28 4 w = 9) ∧ (formed) ∧ (dst = 1) ∧ (ev = 0) ∧
     (tried.1 = .ans (.refused c))) :=
  ⟨⟨⟨by decide +kernel, by decide +kernel, pair_of (by decide +kernel) rfl⟩, by decide +kernel⟩,
   ⟨⟨by decide +kernel, by decide +kernel, pair_of (by decide +kernel) rfl⟩, by decide +kernel⟩,
   ⟨⟨by decide +kernel, by decide +kernel, pair_of (by decide +kernel) rfl⟩, by decide +kernel⟩⟩

/-- Witnesses for Obligations.TeaselInstructions, the clauses of TeaselFlow. -/
theorem wit_TeaselFlow_10 :
    (let t : Fin 24 := 23
     let w : Word := 0x9800007F#32
     let s : State := wSg
     let u : State := wTu wSg
     let dst := fieldOf 26 2 w
     let a := 0x50005000 + 4 * fieldOf 0 7 w
     let ev := fieldOf 25 1 w
     let given := fabric .other { cid := 26 + t } true a 4 0 u
     let formed := fieldOf 7 18 w = 0
     let d := wRd wSgv.1
     (TslFetches t w s u) ∧ (tslTurn t s.begin = true) ∧ (fieldOf 28 4 w = 9) ∧ (formed) ∧ (dst = 2) ∧ (ev = 0) ∧
     (given.1 = .ans (.ok d))) ∧
    (let t : Fin 24 := 23
     let w : Word := 0x9800007F#32
     let s : State := wSg0
     let u : State := wTu wSg0
     let dst := fieldOf 26 2 w
     let a := 0x50005000 + 4 * fieldOf 0 7 w
     let ev := fieldOf 25 1 w
     let given := fabric .other { cid := 26 + t } true a 4 0 u
     let formed := fieldOf 7 18 w = 0
     let c := wRc (fabric .other { cid := 26 + 23 } true (0x50005000 + 4 * 127) 4 0 (wTu wSg0)).1
     (TslFetches t w s u) ∧ (tslTurn t s.begin = true) ∧ (fieldOf 28 4 w = 9) ∧ (formed) ∧ (dst = 2) ∧ (ev = 0) ∧
     (given.1 = .ans (.refused c))) ∧
    (let t : Fin 24 := 23
     let w : Word := 0x9E000000#32
     let s : State := wSs
     let u : State := wTu wSs
     let dst := fieldOf 26 2 w
     let formed := fieldOf 7 18 w = 0
     (TslFetches t w s u) ∧ (tslTurn t s.begin = true) ∧ (fieldOf 28 4 w = 9) ∧ (formed) ∧ (dst = 3)) :=
  ⟨⟨⟨by decide +kernel, by decide +kernel, pair_of (by decide +kernel) rfl⟩, by decide +kernel⟩,
   ⟨⟨by decide +kernel, by decide +kernel, pair_of (by decide +kernel) rfl⟩, by decide +kernel⟩,
   ⟨⟨by decide +kernel, by decide +kernel, pair_of (by decide +kernel) rfl⟩, by decide +kernel⟩⟩

/-- Witnesses for Obligations.TeaselInstructions, the clauses of TeaselFlow. -/
theorem wit_TeaselFlow_11 :
    (let t : Fin 24 := 23
     let w : Word := 0x92000000#32
     let s : State := wSx
     let u : State := wTu wSx
     let dst := fieldOf 26 2 w
     let ev := fieldOf 25 1 w
     let formed := fieldOf 7 18 w = 0
     (TslFetches t w s u) ∧ (tslTurn t s.begin = true) ∧ (fieldOf 28 4 w = 9) ∧ (¬formed ∨ (dst ≠ 3 ∧ ev ≠ 0)) ∧ (dst = 0)) ∧
    (let t : Fin 24 := 23
     let w : Word := 0x9C000080#32
     let s : State := wSy
     let u : State := wTu wSy
     let dst := fieldOf 26 2 w
     let ev := fieldOf 25 1 w
     let formed := fieldOf 7 18 w = 0
     (TslFetches t w s u) ∧ (tslTurn t s.begin = true) ∧ (fieldOf 28 4 w = 9) ∧ (¬formed ∨ (dst ≠ 3 ∧ ev ≠ 0)) ∧ (dst = 3)) :=
  ⟨⟨⟨by decide +kernel, by decide +kernel, pair_of (by decide +kernel) rfl⟩, by decide +kernel⟩,
   ⟨⟨by decide +kernel, by decide +kernel, pair_of (by decide +kernel) rfl⟩, by decide +kernel⟩⟩

/-- Witnesses for Obligations.TeaselInstructions, the clauses of TeaselSteps. -/
theorem wit_TeaselSteps_1 :
    (let e := (tslClass 1, Instr.drive)
     let t : Fin 24 := 23
     let s : State := State.reset
     (e ∈ tslForms) ∧ (tslRuns t s = false)) ∧
    (let e := (tslClass 1, Instr.drive)
     let t : Fin 24 := 23
     let w : Word := 0x00000000#32
     let s : State := wI0
     let u : State := wTu wI0
     (e ∈ tslForms) ∧ (TslFetches t w s u) ∧ (fieldOf 28 4 w = 0 ∨ 9 < fieldOf 28 4 w) ∧ (tslTurn t s.begin = true)) ∧
    (let e := (tslClass 1, Instr.drive)
     let t : Fin 24 := 23
     let w : Word := 0xA0000000#32
     let s : State := wIA
     let u : State := wTu wIA
     (e ∈ tslForms) ∧ (TslFetches t w s u) ∧ (fieldOf 28 4 w = 0 ∨ 9 < fieldOf 28 4 w) ∧ (tslTurn t s.begin = true)) :=
  ⟨⟨by repeat (first | exact .head _ | apply List.Mem.tail), by decide +kernel⟩,
   ⟨by repeat (first | exact .head _ | apply List.Mem.tail), ⟨by decide +kernel, by decide +kernel, pair_of (by decide +kernel) rfl⟩, by decide +kernel⟩,
   ⟨by repeat (first | exact .head _ | apply List.Mem.tail), ⟨by decide +kernel, by decide +kernel, pair_of (by decide +kernel) rfl⟩, by decide +kernel⟩⟩

/-- Witnesses for Obligations.TeaselInstructions, the clauses of TeaselSteps. -/
theorem wit_TeaselSteps_2 :
    (let e := (tslClass 2, Instr.sample)
     let t : Fin 24 := 23
     let w : Word := 0x1E800005#32
     let s : State := wDrv
     let u : State := wTu wDrv
     (e ∈ tslForms) ∧ (TslFetches t w s u) ∧ (1 ≤ fieldOf 28 4 w) ∧ (fieldOf 28 4 w ≤ 9) ∧ (e.1 w = false)) ∧
    (let e := (tslClass 1, Instr.drive)
     let t : Fin 24 := 23
     let w : Word := 0x1E800005#32
     let s : State := wDrt
     let u : State := wTu wDrt
     (e ∈ tslForms) ∧ (TslFetches t w s u) ∧ ((∀ v, tslExec t w u ≠ .wait v)) ∧ (tslTurn t s.begin = false)) ∧
    (let e := (tslClass 1, Instr.drive)
     let t : Fin 24 := 23
     let s : State := wDoff
     let r := bankReady (tslAddr t s) s.begin
     (e ∈ tslForms) ∧ (tslRuns t s = true) ∧ (tslTurn t s.begin = true) ∧ (r.1 = false)) :=
  ⟨⟨by repeat (first | exact .head _ | apply List.Mem.tail), ⟨by decide +kernel, by decide +kernel, pair_of (by decide +kernel) rfl⟩, by decide +kernel⟩,
   ⟨by repeat (first | exact .head _ | apply List.Mem.tail), ⟨by decide +kernel, by decide +kernel, pair_of (by decide +kernel) rfl⟩, no_wait (by decide +kernel), by decide +kernel⟩,
   ⟨by repeat (first | exact .head _ | apply List.Mem.tail), by decide +kernel⟩⟩

/-- Witnesses for Obligations.TeaselInstructions, the clauses of TeaselSteps. -/
theorem wit_TeaselSteps_3 :
    (let e := (tslClass 1, Instr.drive)
     let t : Fin 24 := 23
     let s : State := wDbad
     let who : Who := { cid := 26 + t, fetch := true }
     let r := bankReady (tslAddr t s) s.begin
     let u := wDbadu
     (e ∈ tslForms) ∧ (tslRuns t s = true) ∧ (tslTurn t s.begin = true) ∧ (r.1 = true) ∧
     (ramReadWord who 1 (tslAddr t s) r.2 = (none, u))) :=
  ⟨by repeat (first | exact .head _ | apply List.Mem.tail), by decide +kernel⟩

/-- Witnesses for Obligations.TeaselInstructions, the clauses of TeaselSteps. -/
theorem wit_TeaselSteps_4 :
    (let t : Fin 24 := 23
     let s : State := wDrv
     (s.on (F.TSL_CHtSTAT_STALL t) = false)) ∧
    (let t : Fin 24 := 23
     let s : State := wFer
     (s.on (F.TSL_CHtSTAT_STALL t) = true)) :=
  by decide +kernel

/-- Witnesses for Obligations.TeaselChannels. -/
theorem wit_TeaselChannels_1 :
    (let cid : Cid := 1#6
     let t : Fin 24 := 23
     let s : State := wSet [(F.TSL_CHtCFG_PINBASE 23, 31), (F.TSL_CHtCFG_PINCNT 23, 1)]
     let clash := 32 < tslBase t s + tslCount t s ∨ (List.range 24).any (fun u => u != t.val && tslRuns u s && tslOverlap t u s) = true
     (Admits cid true (R.TSL_CHtCTL t.val).addr s) ∧ (cid.toNat ≤ 1) ∧ (tslRuns t s = false) ∧ (clash)) ∧
    (let cid : Cid := 1#6
     let t : Fin 24 := 23
     let s : State := wSet [(F.TSL_CHtCFG_PINBASE 23, 31), (F.TSL_CHtCFG_LEAD 23, 5)]
     let clash := 32 < tslBase t s + tslCount t s ∨ (List.range 24).any (fun u => u != t.val && tslRuns u s && tslOverlap t u s) = true
     (Admits cid true (R.TSL_CHtCTL t.val).addr s) ∧ (cid.toNat ≤ 1) ∧ (tslRuns t s = false) ∧ (¬clash)) ∧
    (let cid : Cid := 1#6
     let t : Fin 24 := 23
     let s : State := wSet [(F.TSL_CHtCFG_PINBASE 23, 31), (F.LCS_FSTAT_SAFE, 1)]
     let clash := 32 < tslBase t s + tslCount t s ∨ (List.range 24).any (fun u => u != t.val && tslRuns u s && tslOverlap t u s) = true
     (Admits cid true (R.TSL_CHtCTL t.val).addr s) ∧ (cid.toNat ≤ 1) ∧ (tslRuns t s = false) ∧ (¬clash)) :=
  by decide +kernel

/-- Witnesses for Obligations.TeaselChannels. -/
theorem wit_TeaselChannels_2 :
    (let cid : Cid := 1#6
     let t : Fin 24 := 23
     let s : State := wDrv
     (Admits cid true (R.TSL_CHtCTL t.val).addr s) ∧ (cid.toNat ≤ 1) ∧ (tslRuns t s = true)) ∧
    (let cid : Cid := 1#6
     let t : Fin 24 := 23
     let s : State := State.reset
     (Admits cid true (R.TSL_CHtCTL t.val).addr s) ∧ (cid.toNat ≤ 1) ∧ (tslRuns t s = false)) ∧
    (let cid : Cid := 1#6
     let t : Fin 24 := 23
     let s : State := State.reset.setTs 23 { outq := [1#32, 2#32, 3#32], outstOut := 3 }
     ((accessCheck { cid := cid.toNat } true (0x42002000 + 0x20 * t.val) 4 s).toOption = some 14) ∧ (s.chn.done = []) ∧
     ((s.ts t).outq.length < 4)) :=
  by decide +kernel

/-- Witnesses for Obligations.TeaselChannels. -/
theorem wit_TeaselChannels_3 :
    (let cid : Cid := 1#6
     let t : Fin 24 := 23
     let s : State := State.reset.setTs 23 { outq := [1#32, 2#32, 3#32, 4#32] }
     ((accessCheck { cid := cid.toNat } true (0x42002000 + 0x20 * t.val) 4 s).toOption = some 14) ∧ (s.chn.done = []) ∧
     (4 ≤ (s.ts t).outq.length)) ∧
    (let cid : Cid := 1#6
     let t : Fin 24 := 23
     let s : State := State.reset.setTs 23 { inq := [9#32, 8#32], outstIn := 3 }
     let v := 9#32
     let rest := [8#32]
     ((accessCheck { cid := cid.toNat } false (0x42002004 + 0x20 * t.val) 4 s).toOption = some 14) ∧ (s.chn.done = []) ∧
     ((s.ts t).inq = v :: rest)) ∧
    (let cid : Cid := 1#6
     let t : Fin 24 := 23
     let s : State := State.reset
     ((accessCheck { cid := cid.toNat } false (0x42002004 + 0x20 * t.val) 4 s).toOption = some 14) ∧ (s.chn.done = []) ∧
     ((s.ts t).inq = [])) :=
  by decide +kernel

/-- Witnesses for Obligations.TeaselChannels. -/
theorem wit_TeaselChannels_4 :
    (let n : Fin 32 := 31
     let s : State := setPin 31 { queue := [(.high, 1)] } State.reset
     ((∀ e ∈ (pinAt n s).queue, tb9 s < e.2))) ∧
    (let n : Fin 32 := 31
     let e : PinDrive × Nat := (.high, 0)
     let s : State := setPin 31 { queue := [(.high, 0)] } State.reset
     (e ∈ (pinAt n s).queue) ∧ (e.2 ≤ tb9 s) ∧ ((∀ f ∈ (pinAt n s).queue, f = e ∨ e.2 < f.2))) ∧
    (let n : Fin 32 := 31
     let e : PinDrive × Nat := (.low, 0)
     let s : State := wSet [(F.PIN_CFG_FUNC 63, 1)] (setPin 31 { queue := [(.high, 5), (.low, 0)] } State.reset)
     (e ∈ (pinAt n s).queue) ∧ (e.2 ≤ tb9 s) ∧ ((∀ f ∈ (pinAt n s).queue, f = e ∨ e.2 < f.2))) :=
  by decide +kernel

/-- Witnesses for Obligations.TeaselChannels. -/
theorem wit_TeaselChannels_5 :
    (let n : Fin 32 := 31
     let v : Bool := true
     let s : State := wSet [(F.PIN_CFG_FUNC 63, 1)]
     (tpConnected n s = true) ∧ (s.bit F.TSL_PINLVL_LVL n = !v)) ∧
    (let n : Fin 32 := 31
     let v : Bool := false
     let s : State := wSet [(F.PIN_CFG_FUNC 63, 1)]
     (tpConnected n s = false ∨ s.bit F.TSL_PINLVL_LVL n = v)) ∧
    (let t : Fin 24 := 23
     let s : State := setPin 31 { queue := [(.high, 0)] } (wTsl 0)
     let n : Fin 32 := 31
     (tslBase t s ≤ n) ∧ (n < tslBase t s + tslCount t s)) :=
  by decide +kernel

end Sys2Proof.Tests.T11

namespace Sys2Proof.Tests.T12
set_option Elab.async false
open Sys2Proof Sys2Proof.Machine Sys2Proof.Tests

def wUa (x : Uart) (fs : List (Fld × Nat)) : State := (wSet ([(F.SER_UuCTL_EN 1, 1), (F.SER_UuCTL_TXEN 1, 1), (F.SER_UuCTL_RXEN 1, 1), (F.PIN_CFG_FUNC 36, 2)] ++ fs)).setUa 1 x
def wI2 (x : I2c) (fs : List (Fld × Nat) := []) : State := { wSet ([(F.SER_ICTL_CEN, 1), (F.SER_ICTL_TEN, 1), (F.SER_ICTL_TADDR, 0x55), (F.PIN_CFG_FUNC 38, 2), (F.PIN_CFG_FUNC 39, 2)] ++ fs) with i2c := x }
def wHost (g : Chain → Chain := id) : State := wChn g (wSet [(F.SYS_STRAP_HEAD, 1), (F.CHN_ADDR_HEAD, 1), (F.PIN_CFG_FUNC 40, 2), (F.PIN_CFG_FUNC 41, 2), (F.PIN_CFG_FUNC 42, 2)])
def wHf : Frame := wF 3 1 (List.replicate 16 5#8) 1 0 3
def wHr : Frame := wF 0 1 [0#8, 0#8, 0#8, 0#8, 0#8] 1 130 3

/-- Witnesses for Obligations.SerialPorts, the clauses of Uarts. -/
theorem wit_Uarts_1 :
    (let u : Fin 2 := 1
     let s : State := wUa { tx := List.replicate 15 7, outTx := 1 } [(F.SER_UuCTL_HDX 1, 1)]
     let x := s.ua u
     let cid : Cid := 1#6
     let may := cid.toNat ≤ 1 ∨ cid.toNat = serOwner (R.SER_UuDATA u).addr s
     (Admits cid true (R.SER_UuDATA u).addr s) ∧ (may) ∧ (x.tx.length < 16)) ∧
    (let u : Fin 2 := 1
     let s : State := wUa { tx := List.replicate 16 7, outTx := 1 } [(F.SER_UuCTL_HDX 1, 1)]
     let x := s.ua u
     let cid : Cid := 1#6
     let may := cid.toNat ≤ 1 ∨ cid.toNat = serOwner (R.SER_UuDATA u).addr s
     (Admits cid true (R.SER_UuDATA u).addr s) ∧ (may) ∧ (16 ≤ x.tx.length)) ∧
    (let u : Fin 2 := 1
     let s : State := wUa {} [(F.SER_OWN_UART1, 3), (F.SYS_CIDEN_EN 0, 0x102), (F.SYS_ACCWLO_MASK 30, 0x102)]
     let cid : Cid := 8#6
     let may := cid.toNat ≤ 1 ∨ cid.toNat = serOwner (R.SER_UuDATA u).addr s
     (Admits cid true (R.SER_UuDATA u).addr s) ∧ (¬may)) :=
  by decide +kernel

/-- Witnesses for Obligations.SerialPorts, the clauses of Uarts. -/
theorem wit_Uarts_2 :
    (let u : Fin 2 := 1
     let s : State := wUa { rx := [0x7001, 5], outRx := 2 } []
     let x := s.ua u
     let cid : Cid := 1#6
     let b : Nat := 0x7001
     let rest : List Nat := [5]
     (Admits cid false (R.SER_UuDATA u).addr s) ∧ (x.rx = b :: rest)) ∧
    (let u : Fin 2 := 1
     let s : State := wUa {} []
     let x := s.ua u
     let cid : Cid := 1#6
     (Admits cid false (R.SER_UuDATA u).addr s) ∧ (x.rx = [])) ∧
    (let u : Fin 2 := 1
     let s : State := wUa { de := true } []
     let x := s.ua u
     let on := s.on (F.SER_UuCTL_EN u) = true
     let live := on ∧ s.on (F.SER_UuCTL_RXEN u) = true ∧ uartWired u s = true ∧ (x.de = false ∨ s.on (F.SER_UuCTL_ECHO u) = true)
     (¬live)) :=
  by decide +kernel

/-- Witnesses for Obligations.SerialPorts, the clauses of Uarts. -/
theorem wit_Uarts_3 :
    (let u : Fin 2 := 1
     let s : State := wUa { sel := true } [(F.SER_UuCTL_FMT 1, 3), (F.SER_UuCTL_ADDRM 1, 1), (F.SER_UuCTL_ADDR 1, 7)]
     let x := s.ua u
     let on := s.on (F.SER_UuCTL_EN u) = true
     let fmt := s.get (F.SER_UuCTL_FMT u)
     let s7 : BitVec 9 := 0x1A5#9
     let s8 : BitVec 9 := 0x1FF#9
     let s9 : BitVec 9 := 0x1A5#9
     let b := (s7 &&& s8) ||| (s7 &&& s9) ||| (s8 &&& s9)
     let d := if fmt = 0 then b.toNat % 256 else b.toNat
     let live := on ∧ s.on (F.SER_UuCTL_RXEN u) = true ∧ uartWired u s = true ∧ (x.de = false ∨ s.on (F.SER_UuCTL_ECHO u) = true)
     let filt := fmt = 3 ∧ s.on (F.SER_UuCTL_ADDRM u) = true
     let sel := if natBit d 8 then decide (d % 256 = s.get (F.SER_UuCTL_ADDR u)) else x.sel
     (live) ∧ (filt ∧ sel = false)) ∧
    (let u : Fin 2 := 1
     let s : State := wUa { rx := List.replicate 16 7 } [(F.SER_UuCTL_FMT 1, 3), (F.SER_UuCTL_ADDRM 1, 1), (F.SER_UuCTL_ADDR 1, 7)]
     let x := s.ua u
     let on := s.on (F.SER_UuCTL_EN u) = true
     let fmt := s.get (F.SER_UuCTL_FMT u)
     let s7 : BitVec 9 := 0x107#9
     let s8 : BitVec 9 := 0x1FF#9
     let s9 : BitVec 9 := 0x107#9
     let b := (s7 &&& s8) ||| (s7 &&& s9) ||| (s8 &&& s9)
     let d := if fmt = 0 then b.toNat % 256 else b.toNat
     let live := on ∧ s.on (F.SER_UuCTL_RXEN u) = true ∧ uartWired u s = true ∧ (x.de = false ∨ s.on (F.SER_UuCTL_ECHO u) = true)
     let filt := fmt = 3 ∧ s.on (F.SER_UuCTL_ADDRM u) = true
     let sel := if natBit d 8 then decide (d % 256 = s.get (F.SER_UuCTL_ADDR u)) else x.sel
     (live) ∧ (¬(filt ∧ sel = false)) ∧ (16 ≤ x.rx.length)) ∧
    (let u : Fin 2 := 1
     let s : State := wUa { rx := List.replicate 15 7 } [(F.SER_UuCTL_FMT 1, 1)]
     let x := s.ua u
     let on := s.on (F.SER_UuCTL_EN u) = true
     let fmt := s.get (F.SER_UuCTL_FMT u)
     let s7 : BitVec 9 := 0x101#9
     let s8 : BitVec 9 := 0x1FF#9
     let s9 : BitVec 9 := 0x101#9
     let b := (s7 &&& s8) ||| (s7 &&& s9) ||| (s8 &&& s9)
     let d := if fmt = 0 then b.toNat % 256 else b.toNat
     let live := on ∧ s.on (F.SER_UuCTL_RXEN u) = true ∧ uartWired u s = true ∧ (x.de = false ∨ s.on (F.SER_UuCTL_ECHO u) = true)
     let filt := fmt = 3 ∧ s.on (F.SER_UuCTL_ADDRM u) = true
     let sel := if natBit d 8 then decide (d % 256 = s.get (F.SER_UuCTL_ADDR u)) else x.sel
     (live) ∧ (¬(filt ∧ sel = false)) ∧ (x.rx.length < 16)) :=
  by decide +kernel

/-- Witnesses for Obligations.SerialPorts, the clauses of Uarts. -/
theorem wit_Uarts_4 :
    (let u : Fin 2 := 1
     let s : State := wUa { rx := List.replicate 15 7 } [(F.SER_UuCTL_FMT 1, 1)]
     let x := s.ua u
     let on := s.on (F.SER_UuCTL_EN u) = true
     let fmt := s.get (F.SER_UuCTL_FMT u)
     let s7 : BitVec 9 := 0x001#9
     let s8 : BitVec 9 := 0x1FF#9
     let s9 : BitVec 9 := 0x001#9
     let b := (s7 &&& s8) ||| (s7 &&& s9) ||| (s8 &&& s9)
     let d := if fmt = 0 then b.toNat % 256 else b.toNat
     let live := on ∧ s.on (F.SER_UuCTL_RXEN u) = true ∧ uartWired u s = true ∧ (x.de = false ∨ s.on (F.SER_UuCTL_ECHO u) = true)
     let filt := fmt = 3 ∧ s.on (F.SER_UuCTL_ADDRM u) = true
     let sel := if natBit d 8 then decide (d % 256 = s.get (F.SER_UuCTL_ADDR u)) else x.sel
     (live) ∧ (¬(filt ∧ sel = false)) ∧ (x.rx.length < 16)) ∧
    (let u : Fin 2 := 1
     let s : State := wUa { rx := [] } [(F.SER_UuCTL_FMT 1, 2)]
     let x := s.ua u
     let on := s.on (F.SER_UuCTL_EN u) = true
     let fmt := s.get (F.SER_UuCTL_FMT u)
     let s7 : BitVec 9 := 0x000#9
     let s8 : BitVec 9 := 0x1FF#9
     let s9 : BitVec 9 := 0x000#9
     let b := (s7 &&& s8) ||| (s7 &&& s9) ||| (s8 &&& s9)
     let d := if fmt = 0 then b.toNat % 256 else b.toNat
     let live := on ∧ s.on (F.SER_UuCTL_RXEN u) = true ∧ uartWired u s = true ∧ (x.de = false ∨ s.on (F.SER_UuCTL_ECHO u) = true)
     let filt := fmt = 3 ∧ s.on (F.SER_UuCTL_ADDRM u) = true
     let sel := if natBit d 8 then decide (d % 256 = s.get (F.SER_UuCTL_ADDR u)) else x.sel
     (live) ∧ (¬(filt ∧ sel = false)) ∧ (x.rx.length < 16)) ∧
    (let u : Fin 2 := 1
     let s : State := wUa { rx := [] } [(F.SER_UuCTL_FMT 1, 2)]
     let x := s.ua u
     let on := s.on (F.SER_UuCTL_EN u) = true
     let fmt := s.get (F.SER_UuCTL_FMT u)
     let s7 : BitVec 9 := 0x103#9
     let s8 : BitVec 9 := 0x1FF#9
     let s9 : BitVec 9 := 0x103#9
     let b := (s7 &&& s8) ||| (s7 &&& s9) ||| (s8 &&& s9)
     let d := if fmt = 0 then b.toNat % 256 else b.toNat
     let live := on ∧ s.on (F.SER_UuCTL_RXEN u) = true ∧ uartWired u s = true ∧ (x.de = false ∨ s.on (F.SER_UuCTL_ECHO u) = true)
     let filt := fmt = 3 ∧ s.on (F.SER_UuCTL_ADDRM u) = true
     let sel := if natBit d 8 then decide (d % 256 = s.get (F.SER_UuCTL_ADDR u)) else x.sel
     (live) ∧ (¬(filt ∧ sel = false)) ∧ (x.rx.length < 16)) :=
  by decide +kernel

/-- Witnesses for Obligations.SerialPorts, the clauses of Uarts. -/
theorem wit_Uarts_5 :
    (let u : Fin 2 := 1
     let s : State := wUa { rx := [] } []
     let x := s.ua u
     let on := s.on (F.SER_UuCTL_EN u) = true
     let fmt := s.get (F.SER_UuCTL_FMT u)
     let s7 : BitVec 9 := 0x100#9
     let s8 : BitVec 9 := 0x1FF#9
     let s9 : BitVec 9 := 0x100#9
     let b := (s7 &&& s8) ||| (s7 &&& s9) ||| (s8 &&& s9)
     let d := if fmt = 0 then b.toNat % 256 else b.toNat
     let live := on ∧ s.on (F.SER_UuCTL_RXEN u) = true ∧ uartWired u s = true ∧ (x.de = false ∨ s.on (F.SER_UuCTL_ECHO u) = true)
     let filt := fmt = 3 ∧ s.on (F.SER_UuCTL_ADDRM u) = true
     let sel := if natBit d 8 then decide (d % 256 = s.get (F.SER_UuCTL_ADDR u)) else x.sel
     (live) ∧ (¬(filt ∧ sel = false)) ∧ (x.rx.length < 16)) ∧
    (let u : Fin 2 := 1
     let s : State := wUa { tx := [0x1A5], de := true } [(F.SER_UuCTL_HDX 1, 1), (F.SER_UuDE_DETAIL 1, 0)]
     let x := s.ua u
     let on := s.on (F.SER_UuCTL_EN u) = true
     let d : Nat := 0x1A5
     let rest : List Nat := []
     (on) ∧ (s.on (F.SER_UuCTL_TXEN u) = true) ∧ (x.tx = d :: rest)) ∧
    (let u : Fin 2 := 1
     let s : State := wUa { tx := [0x1A5], de := true } [(F.SER_UuCTL_HDX 1, 1), (F.SER_UuDE_DETAIL 1, 5), (F.SER_UuCTL_FMT 1, 2)]
     let x := s.ua u
     let on := s.on (F.SER_UuCTL_EN u) = true
     let d : Nat := 0x1A5
     let rest : List Nat := []
     (on) ∧ (s.on (F.SER_UuCTL_TXEN u) = true) ∧ (x.tx = d :: rest)) :=
  by decide +kernel

/-- Witnesses for Obligations.SerialPorts, the clauses of Uarts. -/
theorem wit_Uarts_6 :
    (let u : Fin 2 := 1
     let s : State := wUa { tx := [0x1A4], de := true } [(F.SER_UuCTL_HDX 1, 1), (F.SER_UuDE_DETAIL 1, 5), (F.SER_UuCTL_FMT 1, 1)]
     let x := s.ua u
     let on := s.on (F.SER_UuCTL_EN u) = true
     let d : Nat := 0x1A4
     let rest : List Nat := []
     (on) ∧ (s.on (F.SER_UuCTL_TXEN u) = true) ∧ (x.tx = d :: rest)) ∧
    (let u : Fin 2 := 1
     let s : State := wUa { tx := [0x1A5, 3], de := true } [(F.SER_UuCTL_FMT 1, 3)]
     let x := s.ua u
     let on := s.on (F.SER_UuCTL_EN u) = true
     let d : Nat := 0x1A5
     let rest : List Nat := [3]
     (on) ∧ (s.on (F.SER_UuCTL_TXEN u) = true) ∧ (x.tx = d :: rest)) ∧
    (let u : Fin 2 := 1
     let s : State := wUa { de := true } [(F.SER_UuCTL_HDX 1, 1)]
     let x := s.ua u
     let on := s.on (F.SER_UuCTL_EN u) = true
     (on) ∧ (s.on (F.SER_UuCTL_TXEN u) = true) ∧ (x.tx = [])) :=
  by decide +kernel

/-- Witnesses for Obligations.SerialPorts, the clauses of Uarts. -/
theorem wit_Uarts_7 :
    (let u : Fin 2 := 1
     let s : State := wUa { tx := [1] } [(F.SER_UuCTL_TXEN 1, 0)]
     let on := s.on (F.SER_UuCTL_EN u) = true
     (¬on ∨ s.on (F.SER_UuCTL_TXEN u) = false)) :=
  by decide +kernel

/-- Witnesses for Obligations.SerialPorts, the clauses of I2cPort. -/
theorem wit_I2cPort_1 :
    (let s : State := wI2 { cmd := [4] } [(F.SER_ISTAT_BUSY, 1)]
     let ack : Bool := true
     let d : Byte := 3#8
     let e := ((1, Instr.i2cStart true) : Nat × Instr)
     (e ∈ [(1, Instr.i2cStart ack), (2, .i2cWrite ack), (3, .i2cRead d), (4, .i2cStop)]) ∧
     (s.on F.SER_ICTL_CEN = false ∨ (s.i2c.cmd.head?.map fun c => c % 16) ≠ some e.1)) ∧
    (let s : State := wI2 { cmd := [4] } [(F.SER_ICTL_CEN, 0)]
     let ack : Bool := true
     let d : Byte := 3#8
     let e := ((4, Instr.i2cStop) : Nat × Instr)
     (e ∈ [(1, Instr.i2cStart ack), (2, .i2cWrite ack), (3, .i2cRead d), (4, .i2cStop)]) ∧
     (s.on F.SER_ICTL_CEN = false ∨ (s.i2c.cmd.head?.map fun c => c % 16) ≠ some e.1)) :=
  ⟨⟨by repeat (first | exact .head _ | apply List.Mem.tail), by decide +kernel⟩,
   ⟨by repeat (first | exact .head _ | apply List.Mem.tail), by decide +kernel⟩⟩

/-- Witnesses for Obligations.SerialPorts, the clauses of I2cPort. -/
theorem wit_I2cPort_2 :
    (let s : State := wI2 { cmd := [0xA01, 2] }
     let c : Nat := 0xA01
     let rest : List Nat := [2]
     (s.i2c.cmd = c :: rest) ∧ (s.on F.SER_ICTL_CEN = true) ∧ (c % 16 = 1)) ∧
    (let s : State := wI2 { cmd := [0xA02] }
     let c : Nat := 0xA02
     let rest : List Nat := []
     (s.i2c.cmd = c :: rest) ∧ (s.on F.SER_ICTL_CEN = true) ∧ (c % 16 = 2)) ∧
    (let s : State := wI2 { cmd := [0xA02] } [(F.PIN_CFG_FUNC 39, 0)]
     let c : Nat := 0xA02
     let rest : List Nat := []
     (s.i2c.cmd = c :: rest) ∧ (s.on F.SER_ICTL_CEN = true) ∧ (c % 16 = 2)) :=
  by decide +kernel

/-- Witnesses for Obligations.SerialPorts, the clauses of I2cPort. -/
theorem wit_I2cPort_3 :
    (let s : State := wI2 { cmd := [3, 4] }
     let c : Nat := 3
     let rest : List Nat := [4]
     (s.i2c.cmd = c :: rest) ∧ (s.on F.SER_ICTL_CEN = true) ∧ (c % 16 = 3)) ∧
    (let s : State := wI2 { cmd := [3, 4] } [(F.PIN_CFG_FUNC 39, 0)]
     let c : Nat := 3
     let rest : List Nat := [4]
     (s.i2c.cmd = c :: rest) ∧ (s.on F.SER_ICTL_CEN = true) ∧ (c % 16 = 3)) ∧
    (let s : State := wI2 { cmd := [4] } [(F.SER_ISTAT_BUSY, 1)]
     let c : Nat := 4
     let rest : List Nat := []
     (s.i2c.cmd = c :: rest) ∧ (s.on F.SER_ICTL_CEN = true) ∧ (c % 16 = 4)) :=
  by decide +kernel

/-- Witnesses for Obligations.SerialPorts, the clauses of I2cPort. -/
theorem wit_I2cPort_4 :
    (let s : State := wI2 { cmd := [3, 4] } [(F.SER_ISTAT_BUSY, 1)]
     (s.on F.SER_ICTL_CEN = true) ∧ (s.on F.SER_ISTAT_BUSY = true)) ∧
    (let s : State := wI2 { cmd := [3, 4] } [(F.SER_ISTAT_BUSY, 0)]
     (s.on F.SER_ICTL_CEN = false ∨ s.on F.SER_ISTAT_BUSY = false)) ∧
    (let s : State := wI2 {}
     let tgt := s.on F.SER_ICTL_TEN = true ∧ i2cWired s = true
     let a : BitVec 7 := 0x55#7
     (tgt) ∧ (a.toNat = s.get F.SER_ICTL_TADDR)) :=
  by decide +kernel

/-- Witnesses for Obligations.SerialPorts, the clauses of I2cPort. -/
theorem wit_I2cPort_5 :
    (let s : State := wI2 { sel := true }
     let tgt := s.on F.SER_ICTL_TEN = true ∧ i2cWired s = true
     let a : BitVec 7 := 0x54#7
     (tgt) ∧ (a.toNat ≠ s.get F.SER_ICTL_TADDR)) ∧
    (let s : State := wI2 { sel := true } [(F.SER_ICTL_TEN, 0)]
     let tgt := s.on F.SER_ICTL_TEN = true ∧ i2cWired s = true
     (¬tgt)) ∧
    (let s : State := wI2 { sel := true }
     let tgt := s.on F.SER_ICTL_TEN = true ∧ i2cWired s = true
     let x := s.i2c
     let may := tgt ∧ x.sel = true ∧ x.selRead = false ∧ x.full = false
     (may)) :=
  by decide +kernel

/-- Witnesses for Obligations.SerialPorts, the clauses of I2cPort. -/
theorem wit_I2cPort_6 :
    (let s : State := wI2 { sel := true, full := true }
     let tgt := s.on F.SER_ICTL_TEN = true ∧ i2cWired s = true
     let x := s.i2c
     let may := tgt ∧ x.sel = true ∧ x.selRead = false ∧ x.full = false
     (¬may)) ∧
    (let s : State := wI2 { sel := true, selRead := true, ready := true } [(F.SER_ITDATA_DATA, 77)]
     let tgt := s.on F.SER_ICTL_TEN = true ∧ i2cWired s = true
     let x := s.i2c
     let may := tgt ∧ x.sel = true ∧ x.selRead = true ∧ x.ready = true
     (may)) ∧
    (let s : State := wI2 { sel := true, selRead := true } [(F.SER_ITDATA_DATA, 77)]
     let tgt := s.on F.SER_ICTL_TEN = true ∧ i2cWired s = true
     let x := s.i2c
     let may := tgt ∧ x.sel = true ∧ x.selRead = true ∧ x.ready = true
     (¬may)) :=
  by decide +kernel

/-- Witnesses for Obligations.SerialPorts, the clauses of I2cPort. -/
theorem wit_I2cPort_7 :
    (let s : State := wI2 { sel := true } [(F.SER_ISTAT_BUSY, 1)]
     let tgt := s.on F.SER_ICTL_TEN = true ∧ i2cWired s = true
     let x := s.i2c
     (tgt) ∧ (x.sel = true)) ∧
    (let s : State := wI2 {} [(F.SER_ISTAT_BUSY, 1)]
     let tgt := s.on F.SER_ICTL_TEN = true ∧ i2cWired s = true
     let x := s.i2c
     (¬(tgt ∧ x.sel = true))) :=
  by decide +kernel

/-- Witnesses for Obligations.SerialPorts, the clauses of HostPort. -/
theorem wit_HostPort_1 :
    (let s : State := wHost fun g => { g with hostOut := [wF 3 1] }
     let port := s.on F.SYS_STRAP_HEAD = true ∧ hostWired s = true
     (port) ∧ (isHead s = true)) ∧
    (let s : State := wHost
     let port := s.on F.SYS_STRAP_HEAD = true ∧ hostWired s = true
     (port) ∧ (isHead s = true)) ∧
    (let s : State := wHost fun g => { g with hostOut := List.replicate 8 wHf }
     let port := s.on F.SYS_STRAP_HEAD = true ∧ hostWired s = true
     (port) ∧ (isHead s = true) ∧ (hostFree s = 0)) :=
  by decide +kernel

/-- Witnesses for Obligations.SerialPorts, the clauses of HostPort. -/
theorem wit_HostPort_2 :
    (let s : State := wHost
     let port := s.on F.SYS_STRAP_HEAD = true ∧ hostWired s = true
     let cls : Nat := 3
     let bs : List Byte := [0#8, 1#8]
     (port) ∧ (isHead s = true) ∧ (0 < hostFree s) ∧ (crcGood bs = false ∨ parseFrame cls bs = none)) ∧
    (let s : State := wHost
     let port := s.on F.SYS_STRAP_HEAD = true ∧ hostWired s = true
     let cls : Nat := 3
     let bs : List Byte := frameBytes wHf 0
     let f : Frame := wHf
     let crt : Nat := 0
     let legal := f.src = 1 ∧ ((f.cls = 0 ∧ 128 ≤ f.tag) ∨ f.cls = 3)
     (port) ∧ (isHead s = true) ∧ (0 < hostFree s) ∧ (crcGood bs = true) ∧ (parseFrame cls bs = some (f, crt)) ∧ (legal) ∧
     (f.dst ≠ 0x7F)) ∧
    (let s : State := wHost fun g => { g with hostOut := [wF 3 1] }
     let port := s.on F.SYS_STRAP_HEAD = true ∧ hostWired s = true
     let cls : Nat := 0
     let bs : List Byte := frameBytes wHr 0
     let f : Frame := wHr
     let crt : Nat := 0
     let legal := f.src = 1 ∧ ((f.cls = 0 ∧ 128 ≤ f.tag) ∨ f.cls = 3)
     (port) ∧ (isHead s = true) ∧ (0 < hostFree s) ∧ (crcGood bs = true) ∧ (parseFrame cls bs = some (f, crt)) ∧ (legal) ∧
     (f.dst ≠ 0x7F)) :=
  by decide +kernel

/-- Witnesses for Obligations.SerialPorts, the clauses of HostPort. -/
theorem wit_HostPort_3 :
    (let s : State := wHost
     let port := s.on F.SYS_STRAP_HEAD = true ∧ hostWired s = true
     let cls : Nat := 3
     let bs : List Byte := frameBytes (wF 3 1 (List.replicate 16 5#8) 2 0 3) 0
     let f : Frame := wF 3 1 (List.replicate 16 5#8) 2 0 3
     let crt : Nat := 0
     let legal := f.src = 1 ∧ ((f.cls = 0 ∧ 128 ≤ f.tag) ∨ f.cls = 3)
     (port) ∧ (isHead s = true) ∧ (0 < hostFree s) ∧ (crcGood bs = true) ∧ (parseFrame cls bs = some (f, crt)) ∧ (¬legal)) ∧
    (let s : State := wHost
     let port := s.on F.SYS_STRAP_HEAD = true ∧ hostWired s = true
     let cls : Nat := 3
     let bs : List Byte := frameBytes { wHf with dst := 0x7F } 0
     let f : Frame := { wHf with dst := 0x7F }
     let crt : Nat := 0
     let legal := f.src = 1 ∧ ((f.cls = 0 ∧ 128 ≤ f.tag) ∨ f.cls = 3)
     (port) ∧ (isHead s = true) ∧ (0 < hostFree s) ∧ (crcGood bs = true) ∧ (parseFrame cls bs = some (f, crt)) ∧ (legal) ∧
     (f.dst = 0x7F)) ∧
    (let s : State := wChn id (wSet [(F.SYS_STRAP_HEAD, 1), (F.PIN_CFG_FUNC 40, 2), (F.PIN_CFG_FUNC 41, 2), (F.PIN_CFG_FUNC 42, 2)])
     let port := s.on F.SYS_STRAP_HEAD = true ∧ hostWired s = true
     (port) ∧ (isHead s = false)) :=
  by decide +kernel

/-- Witnesses for Obligations.SerialPorts, the clauses of HostPort. -/
theorem wit_HostPort_4 :
    (let s : State := State.reset
     let port := s.on F.SYS_STRAP_HEAD = true ∧ hostWired s = true
     (¬port)) ∧
    (let s : State := wHost
     let port := s.on F.SYS_STRAP_HEAD = true ∧ hostWired s = true
     (port)) :=
  by decide +kernel

end Sys2Proof.Tests.T12

namespace Sys2Proof.Tests.T13
set_option Elab.async false
open Sys2Proof Sys2Proof.Machine Sys2Proof.Tests

def wP (x : Port) (fs : List (Fld × Nat) := []) : State := (wSet fs).setPort 0 x
def wLate (s : State) : State := { s with now := 10 ^ 11 }
def wLk : List (Fld × Nat) := [(F.CHN_pSTAT_LOCK 0, 1), (F.CHN_pSTAT_LOCK 1, 1), (F.CHN_pSTAT_LINK 0, 1), (F.CHN_pSTAT_LINK 1, 1)]
def wUn : List (Fld × Nat) := wLk ++ [(F.CHN_ADDR_VALID, 1), (F.CHN_ADDR_ADDR, 2), (F.CHN_UPMAPLO_MAP, 1)]
def wHd : List (Fld × Nat) := wLk ++ [(F.CHN_ADDR_HEAD, 1), (F.CHN_ADDR_VALID, 1), (F.CHN_ADDR_ADDR, 1)]
def wRx : Frame := wF 1 1 [5] 1 0 2
def wFar : Frame := wF 1 1 [5] 1 0 3
def wCut : State := wP { cut := some ⟨1, 3, true⟩ } wUn
def wAll : Frame := wF 0 5 [0, 0, 0, 0, 1] 1
def wAs : Frame := wF 3 2 [2, 0, 1, 0, 7, 0, 0, 0] 1 0 0
def wAsS (fs : List (Fld × Nat)) : State := wSlot 0 wAs (wSet fs)
def wRt : Frame := wF 3 4 [1, 0, 0, 0, 0, 0, 0, 0, 7, 0, 0, 0, 0, 0, 0, 0] 1 0 2
def wId : Frame := wF 3 10 (List.replicate 64 1#8) 2 5 1

/-- Witnesses for Obligations.ChainLinksAndFrames, the clauses of ChainLinks. -/
theorem wit_ChainLinks_1 :
    (let p : Fin 2 := 1
     let s : State := wSet []
     let x := s.port p
     let lock := s.on (F.CHN_pSTAT_LOCK p) = true
     (x.ignore = false) ∧ (¬lock)) ∧
    (let p : Fin 2 := 0
     let s : State := wP { ignore := true }
     let x := s.port p
     let lock := s.on (F.CHN_pSTAT_LOCK p) = true
     (x.ignore = true ∨ lock)) ∧
    (let p : Fin 2 := 1
     let s : State := wSet [(F.CHN_pSTAT_LOCK 1, 1)]
     let lock := s.on (F.CHN_pSTAT_LOCK p) = true
     (lock)) :=
  by decide +kernel

/-- Witnesses for Obligations.ChainLinksAndFrames, the clauses of ChainLinks. -/
theorem wit_ChainLinks_2 :
    (let p : Fin 2 := 1
     let s : State := wSet []
     let lock := s.on (F.CHN_pSTAT_LOCK p) = true
     (¬lock)) ∧
    (let p : Fin 2 := 1
     let s : State := wLate (wSet [(F.CHN_pSTAT_LINK 1, 1)])
     let x := s.port p
     let long := s.on (F.CHN_pSTAT_LOCK p) = false ∧ max x.lostAt x.grace + 2000 ≤ s.now
     (long)) ∧
    (let p : Fin 2 := 1
     let s : State := wSet [(F.CHN_pSTAT_LINK 1, 1)]
     let x := s.port p
     let long := s.on (F.CHN_pSTAT_LOCK p) = false ∧ max x.lostAt x.grace + 2000 ≤ s.now
     (¬long)) :=
  by decide +kernel

/-- Witnesses for Obligations.ChainLinksAndFrames, the clauses of ChainLinks. -/
theorem wit_ChainLinks_3 :
    (let p : Fin 2 := 0
     let s : State := wP { ignore := true }
     let x := s.port p
     (x.holdTo ≤ s.now)) ∧
    (let p : Fin 2 := 0
     let s : State := wP { ignore := true, holdTo := 10 ^ 9 }
     let x := s.port p
     (s.now < x.holdTo)) ∧
    (let p : Fin 2 := 0
     let s : State := State.reset
     let lock := s.on (F.CHN_pSTAT_LOCK p) = true
     let bs : List Byte := [1#8, 2#8, 3#8]
     let chk : Byte := 0#8
     let good := bs.length = 3 ∧ crc8 bs = chk ∧ lock
     (¬good)) :=
  by decide +kernel

/-- Witnesses for Obligations.ChainLinksAndFrames, the clauses of ChainLinks. -/
theorem wit_ChainLinks_4 :
    (let p : Fin 2 := 0
     let s : State := wSet [(F.CHN_pSTAT_LOCK 0, 1)]
     let lock := s.on (F.CHN_pSTAT_LOCK p) = true
     let bs : List Byte := [0x11#8, 0xFF#8, 3#8]
     let chk : Byte := crc8 [0x11#8, 0xFF#8, 3#8]
     let good := bs.length = 3 ∧ crc8 bs = chk ∧ lock
     (good) ∧ (linkUp p s = false)) ∧
    (let p : Fin 2 := 0
     let s : State := wP { acc := #v[7, 1, 0, 3], rel := #v[1, 7, 0, 3] } [(F.CHN_pSTAT_LOCK 0, 1), (F.CHN_pSTAT_LINK 0, 1)]
     let x := s.port p
     let lock := s.on (F.CHN_pSTAT_LOCK p) = true
     let bs : List Byte := [0x11#8, 0xFF#8, 3#8]
     let chk : Byte := crc8 [0x11#8, 0xFF#8, 3#8]
     let good := bs.length = 3 ∧ crc8 bs = chk ∧ lock
     (good) ∧ (linkUp p s = true) ∧ ((∀ c : Fin 4, x.acc.get c < 8)) ∧ (s.chn.done = [])) :=
  by decide +kernel

/-- Witnesses for Obligations.ChainLinksAndFrames, the clauses of ChainFrames. -/
theorem wit_ChainFrames_1 :
    (let p : Fin 2 := 0
     let err : Bool := true
     let s : State := wCut
     (s.on (F.CHN_pSTAT_LOCK p) = true) ∧ (err = true)) ∧
    (let p : Fin 2 := 0
     let bs : List Byte := [1#8, 2#8]
     let err : Bool := false
     let s : State := wSet wUn
     (s.on (F.CHN_pSTAT_LOCK p) = true) ∧ (err = false) ∧ (crcGood bs = false)) ∧
    (let p : Fin 2 := 0
     let bs : List Byte := frameBytes wRx 0
     let err : Bool := false
     let eofp : Bool := true
     let s : State := wSet wUn
     (s.on (F.CHN_pSTAT_LOCK p) = true) ∧ (err = false) ∧ (crcGood bs = true) ∧ (eofp = true)) :=
  by decide +kernel

/-- Witnesses for Obligations.ChainLinksAndFrames, the clauses of ChainFrames. -/
theorem wit_ChainFrames_2 :
    (let p : Fin 2 := 0
     let cls : Fin 4 := 2
     let bs : List Byte := frameBytes wRx 0
     let err : Bool := false
     let eofp : Bool := false
     let s : State := wSet wUn
     let u := s.begin.setPort p { s.port p with cut := none }
     (s.on (F.CHN_pSTAT_LOCK p) = true) ∧ (err = false) ∧ (crcGood bs = true) ∧ (eofp = false) ∧
     (parseFrame cls bs = none ∨ 4 ≤ occupied p cls u)) ∧
    (let p : Fin 2 := 0
     let cls : Fin 4 := 1
     let bs : List Byte := frameBytes wRx 0
     let err : Bool := false
     let eofp : Bool := false
     let s : State := wP { slots := List.replicate 4 ⟨wRx, true, none⟩ } wUn
     let u := s.begin.setPort p { s.port p with cut := none }
     (s.on (F.CHN_pSTAT_LOCK p) = true) ∧ (err = false) ∧ (crcGood bs = true) ∧ (eofp = false) ∧
     (parseFrame cls bs = none ∨ 4 ≤ occupied p cls u)) ∧
    (let p : Fin 2 := 0
     let cls : Fin 4 := 1
     let bs : List Byte := frameBytes wRx 0xFFF
     let err : Bool := false
     let eofp : Bool := false
     let s : State := wSet wUn
     let u := s.begin.setPort p { s.port p with cut := none }
     let ahead := (s.port p).cut.any (fun c => c.started)
     let f := wRx
     let crt := 0xFFF
     (s.on (F.CHN_pSTAT_LOCK p) = true) ∧ (err = false) ∧ (crcGood bs = true) ∧ (eofp = false) ∧
     (parseFrame cls bs = some (f, crt)) ∧ (occupied p cls u < 4) ∧ (ahead = false)) :=
  by decide +kernel

/-- Witnesses for Obligations.ChainLinksAndFrames, the clauses of ChainFrames. -/
theorem wit_ChainFrames_3 :
    (let p : Fin 2 := 0
     let cls : Fin 4 := 1
     let bs : List Byte := frameBytes { wFar with hop := 63 } 0
     let err : Bool := false
     let eofp : Bool := false
     let s : State := wCut
     let u := s.begin.setPort p { s.port p with cut := none }
     let ahead := (s.port p).cut.any (fun c => c.started)
     let f := { wFar with hop := 63 }
     let crt := 0
     (s.on (F.CHN_pSTAT_LOCK p) = true) ∧ (err = false) ∧ (crcGood bs = true) ∧ (eofp = false) ∧
     (parseFrame cls bs = some (f, crt)) ∧ (occupied p cls u < 4) ∧ (ahead = true) ∧ (f.hop = 63)) ∧
    (let p : Fin 2 := 0
     let cls : Fin 4 := 0
     let bs : List Byte := frameBytes wAll 0
     let err : Bool := false
     let eofp : Bool := false
     let s : State := wP { cut := some ⟨0, 0x7F, true⟩ } wUn
     let u := s.begin.setPort p { s.port p with cut := none }
     let ahead := (s.port p).cut.any (fun c => c.started)
     let f := wAll
     let crt := 0
     let v := takeCrt p crt u
     let y := v.port p
     let v := v.setPort p { y with acc := y.acc.set! cls ((y.acc.toList.getD cls 0 + 1) % 8) }
     let here := (routeIn p f v).any (fun r => r.1)
     (s.on (F.CHN_pSTAT_LOCK p) = true) ∧ (err = false) ∧ (crcGood bs = true) ∧ (eofp = false) ∧
     (parseFrame cls bs = some (f, crt)) ∧ (occupied p cls u < 4) ∧ (ahead = true) ∧ (f.hop ≠ 63) ∧ (here = true) ∧
     (frameKnown f = true)) ∧
    (let p : Fin 2 := 0
     let cls : Fin 4 := 1
     let bs : List Byte := frameBytes wFar 0
     let err : Bool := false
     let eofp : Bool := false
     let s : State := wCut
     let u := s.begin.setPort p { s.port p with cut := none }
     let ahead := (s.port p).cut.any (fun c => c.started)
     let f := wFar
     let crt := 0
     let v := takeCrt p crt u
     let y := v.port p
     let v := v.setPort p { y with acc := y.acc.set! cls ((y.acc.toList.getD cls 0 + 1) % 8) }
     let here := (routeIn p f v).any (fun r => r.1)
     (s.on (F.CHN_pSTAT_LOCK p) = true) ∧ (err = false) ∧ (crcGood bs = true) ∧ (eofp = false) ∧
     (parseFrame cls bs = some (f, crt)) ∧ (occupied p cls u < 4) ∧ (ahead = true) ∧ (f.hop ≠ 63) ∧ (here = false)) :=
  by decide +kernel

/-- Witnesses for Obligations.ChainLinksAndFrames, the clauses of ChainFrames. -/
theorem wit_ChainFrames_4 :
    (let p : Fin 2 := 0
     let cls : Fin 4 := 0
     let bs : List Byte := frameBytes { wAll with typ := 9 } 0
     let err : Bool := false
     let eofp : Bool := false
     let s : State := wP { cut := some ⟨0, 0x7F, true⟩ } wUn
     let u := s.begin.setPort p { s.port p with cut := none }
     let ahead := (s.port p).cut.any (fun c => c.started)
     let f := { wAll with typ := 9 }
     let crt := 0
     let v := takeCrt p crt u
     let y := v.port p
     let v := v.setPort p { y with acc := y.acc.set! cls ((y.acc.toList.getD cls 0 + 1) % 8) }
     let here := (routeIn p f v).any (fun r => r.1)
     (s.on (F.CHN_pSTAT_LOCK p) = true) ∧ (err = false) ∧ (crcGood bs = true) ∧ (eofp = false) ∧
     (parseFrame cls bs = some (f, crt)) ∧ (occupied p cls u < 4) ∧ (ahead = true) ∧ (f.hop ≠ 63) ∧ (here = true) ∧
     (frameKnown f = false)) ∧
    (let p : Fin 2 := 0
     let s : State := State.reset
     (s.on (F.CHN_pSTAT_LOCK p) = false)) ∧
    (let p : Fin 2 := 0
     let f : Frame := wRx
     let s : State := wSet wUn
     (routeIn p f s = some (true, none)) ∧ (frameKnown f = true) ∧ (deliverAtOnce f s = none)) :=
  by decide +kernel

/-- Witnesses for Obligations.ChainLinksAndFrames, the clauses of ChainFrames. -/
theorem wit_ChainFrames_5 :
    (let p : Fin 2 := 0
     let f : Frame := wFar
     let o : Fin 2 := 1
     let s : State := wSet wUn
     (routeIn p f s = some (false, some o)) ∧ (linkUp o s = true)) ∧
    (let p : Fin 2 := 0
     let f : Frame := { wFar with cls := 0 }
     let o : Fin 2 := 1
     let s : State := wSet (wUn ++ [(F.CHN_pSTAT_LINK 1, 0)])
     (routeIn p f s = some (false, some o)) ∧ (linkUp o s = false)) ∧
    (let p : Fin 2 := 0
     let f : Frame := { wFar with dst := 100 }
     let s : State := wSet wUn
     (routeIn p f s = none)) :=
  by decide +kernel

/-- Witnesses for Obligations.ChainLinksAndFrames, the clauses of ChainFrames. -/
theorem wit_ChainFrames_6 :
    (let p : Fin 2 := 0
     let cls : Fin 4 := 1
     let dst : BitVec 7 := 3#7
     let s : State := wP {} wUn
     let may := s.on (F.CHN_pSTAT_LOCK p) = true ∧ (s.port p).cut = none ∧ occupied p cls s < 4
     let r := routeIn p { cls := cls, dst := dst.toNat, typ := 0, src := 0 } s
     let d : Bool := false
     let o : Fin 2 := 1
     let go := o = other p ∧ linkUp o s = true ∧ 0 < credits o cls s ∧ (s.port o).streak < 16
     (may) ∧ (r = some (d, some o)) ∧ (go)) ∧
    (let p : Fin 2 := 0
     let cls : Fin 4 := 1
     let dst : BitVec 7 := 3#7
     let s : State := wSet (wUn ++ [(F.CHN_pSTAT_LINK 1, 0)])
     let may := s.on (F.CHN_pSTAT_LOCK p) = true ∧ (s.port p).cut = none ∧ occupied p cls s < 4
     let r := routeIn p { cls := cls, dst := dst.toNat, typ := 0, src := 0 } s
     let d : Bool := false
     let o : Fin 2 := 1
     let go := o = other p ∧ linkUp o s = true ∧ 0 < credits o cls s ∧ (s.port o).streak < 16
     (may) ∧ (r = some (d, some o)) ∧ (¬go)) ∧
    (let p : Fin 2 := 0
     let cls : Fin 4 := 1
     let dst : BitVec 7 := 2#7
     let s : State := wP {} wUn
     let may := s.on (F.CHN_pSTAT_LOCK p) = true ∧ (s.port p).cut = none ∧ occupied p cls s < 4
     let r := routeIn p { cls := cls, dst := dst.toNat, typ := 0, src := 0 } s
     (¬may ∨ (r.bind fun e => e.2) = none)) :=
  by decide +kernel

/-- Witnesses for Obligations.ChainLinksAndFrames, the clauses of ChainFrames. -/
theorem wit_ChainFrames_7 :
    (let p : Fin 2 := 1
     let s : State := wCut
     (cutBusy p s = true)) ∧
    (let p : Fin 2 := 0
     let s : State := wP { streak := 15 } wUn
     let v := if p = 1 then relayFeed s.begin else s.begin
     let x := v.port p
     (cutBusy p s = false) ∧ (16 ≤ x.streak ∨ txPick p v = none)) ∧
    (let p : Fin 2 := 0
     let s : State := wP { streak := 16, queue := [wF 1 1 [5] 2 0 1] } wUn
     let v := if p = 1 then relayFeed s.begin else s.begin
     let x := v.port p
     (cutBusy p s = false) ∧ (16 ≤ x.streak ∨ txPick p v = none)) :=
  by decide +kernel

/-- Witnesses for Obligations.ChainLinksAndFrames, the clauses of ChainFrames. -/
theorem wit_ChainFrames_8 :
    (let p : Fin 2 := 0
     let s : State := wP { queue := [wF 1 1 [5] 2 0 1, wF 1 1 [6] 2 0 1], streak := 15 } wUn
     let v := if p = 1 then relayFeed s.begin else s.begin
     let x := v.port p
     let f : Frame := wF 1 1 [5] 2 0 1
     (cutBusy p s = false) ∧ (x.streak < 16) ∧ (txPick p v = some (.own f)) ∧ (f.cls ≠ 3 ∨ f.typ ≠ 8 ∨ x.rateTo = none)) ∧
    (let p : Fin 2 := 0
     let s : State := wP { queue := [wF 3 8 [1, 0, 0, 0] 2 0 0], rateTo := some 1 } wUn
     let v := if p = 1 then relayFeed s.begin else s.begin
     let x := v.port p
     let f : Frame := wF 3 8 [1, 0, 0, 0] 2 0 0
     let r := 1
     (cutBusy p s = false) ∧ (x.streak < 16) ∧ (txPick p v = some (.own f)) ∧ (f.cls = 3) ∧ (f.typ = 8) ∧ (x.rateTo = some r)) ∧
    (let p : Fin 2 := 1
     let s : State := wP { slots := [⟨wFar, false, some 1⟩] } wUn
     let v := if p = 1 then relayFeed s.begin else s.begin
     let x := v.port p
     let q : Fin 2 := 0
     let y : Slot := ⟨wFar, false, some 1⟩
     (cutBusy p s = false) ∧ (x.streak < 16) ∧ (txPick p v = some (.fwd q y)) ∧ (y.dlv = false) ∧ (y.f.hop ≠ 63)) :=
  by decide +kernel

/-- Witnesses for Obligations.FramesRoundTrip. -/
theorem wit_FramesRoundTrip :
    (let f : Frame := { cls := 3, dst := 127, typ := 63, src := 127, flag := true, tag := 255, hop := 63, data := List.replicate 64 0xFF#8 }
     let crt : Nat := 0xFFF
     (f.cls < 4) ∧ (f.dst < 128) ∧ (f.typ < 64) ∧ (f.src < 128) ∧ (f.tag < 256) ∧ (f.hop < 64) ∧ (f.data.length ≤ 64) ∧
     (crt < 4096)) :=
  by decide +kernel

/-- Witnesses for Obligations.Enumeration. -/
theorem wit_Enumeration_1 :
    (let p : Fin 2 := 0
     let f : Frame := wF 3 1 [1, 2, 2, 0] 1 0 0
     let s : State := wSlot 0 (wF 3 1 [1, 2, 2, 0] 1 0 0) (wSet (wUn ++ [(F.CHN_pSTAT_NVALID 0, 1)]))
     let u : State := wTook 0 (wF 3 1 [1, 2, 2, 0] 1 0 0) (wSlot 0 (wF 3 1 [1, 2, 2, 0] 1 0 0) (wSet (wUn ++ [(F.CHN_pSTAT_NVALID 0, 1)])))
     let b := f.at_ 1 1
     let v := (((u.set (F.CHN_pSTAT_NADDR p) (f.at_ 0 1)).setB (F.CHN_pSTAT_NVALID p) (natBit b 0)).setB (F.CHN_pSTAT_NHEAD p) (natBit b 1)).set (F.CHN_pSTAT_NVER p) (f.at_ 2 1)
     let w := if linkUp p u then (if u.on (F.CHN_pSTAT_NVALID p) && !natBit b 0 then linkDown p false v else v) else if u.on (F.CHN_pSTAT_LOCK p) then linkComesUp p v else v
     let offered := linkUp p u = false ∧ (isHead u = true ∨ u.chn.endWait = true)
     let due := p = 1 ∧ linkUp 1 w = true ∧ ownAddr w ≠ 0 ∧ ¬offered ∧ f.at_ 0 1 ≠ ownAddr w + 1
     (Received p 3 1 f s u) ∧ (¬due)) ∧
    (let p : Fin 2 := 1
     let f : Frame := wF 3 1 [0, 1, 2, 0] 1 0 0
     let s : State := wSlot 1 (wF 3 1 [0, 1, 2, 0] 1 0 0) (wSet (wUn ++ [(F.CHN_pSTAT_NVALID 1, 1)]))
     let u : State := wTook 1 (wF 3 1 [0, 1, 2, 0] 1 0 0) (wSlot 1 (wF 3 1 [0, 1, 2, 0] 1 0 0) (wSet (wUn ++ [(F.CHN_pSTAT_NVALID 1, 1)])))
     let b := f.at_ 1 1
     let v := (((u.set (F.CHN_pSTAT_NADDR p) (f.at_ 0 1)).setB (F.CHN_pSTAT_NVALID p) (natBit b 0)).setB (F.CHN_pSTAT_NHEAD p) (natBit b 1)).set (F.CHN_pSTAT_NVER p) (f.at_ 2 1)
     let w := if linkUp p u then (if u.on (F.CHN_pSTAT_NVALID p) && !natBit b 0 then linkDown p false v else v) else if u.on (F.CHN_pSTAT_LOCK p) then linkComesUp p v else v
     let offered := linkUp p u = false ∧ (isHead u = true ∨ u.chn.endWait = true)
     let due := p = 1 ∧ linkUp 1 w = true ∧ ownAddr w ≠ 0 ∧ ¬offered ∧ f.at_ 0 1 ≠ ownAddr w + 1
     (Received p 3 1 f s u) ∧ (due)) ∧
    (let p : Fin 2 := 1
     let f : Frame := wF 3 1 [2, 1, 2, 0] 1 0 0
     let s : State := wSlot 1 (wF 3 1 [2, 1, 2, 0] 1 0 0) (wSet (wHd ++ [(F.CHN_pSTAT_NVALID 1, 1)]))
     let u : State := wTook 1 (wF 3 1 [2, 1, 2, 0] 1 0 0) (wSlot 1 (wF 3 1 [2, 1, 2, 0] 1 0 0) (wSet (wHd ++ [(F.CHN_pSTAT_NVALID 1, 1)])))
     let b := f.at_ 1 1
     let v := (((u.set (F.CHN_pSTAT_NADDR p) (f.at_ 0 1)).setB (F.CHN_pSTAT_NVALID p) (natBit b 0)).setB (F.CHN_pSTAT_NHEAD p) (natBit b 1)).set (F.CHN_pSTAT_NVER p) (f.at_ 2 1)
     let w := if linkUp p u then (if u.on (F.CHN_pSTAT_NVALID p) && !natBit b 0 then linkDown p false v else v) else if u.on (F.CHN_pSTAT_LOCK p) then linkComesUp p v else v
     let offered := linkUp p u = false ∧ (isHead u = true ∨ u.chn.endWait = true)
     let due := p = 1 ∧ linkUp 1 w = true ∧ ownAddr w ≠ 0 ∧ ¬offered ∧ f.at_ 0 1 ≠ ownAddr w + 1
     (Received p 3 1 f s u) ∧ (¬due)) :=
  ⟨⟨rec_of (by decide +kernel), by decide +kernel⟩,
   ⟨rec_of (by decide +kernel), by decide +kernel⟩,
   ⟨rec_of (by decide +kernel), by decide +kernel⟩⟩

/-- Witnesses for Obligations.Enumeration. -/
theorem wit_Enumeration_2 :
    (let f : Frame := wAs
     let s : State := wAsS (wLk)
     let u : State := wTook 0 wAs (wAsS (wLk))
     (Received 0 3 2 f s u) ∧ (isHead u = false)) ∧
    (let f : Frame := wAs
     let s : State := wAsS ((wHd ++ [(F.CHN_TOKEN_TOKEN, 7), (F.CHN_CFG_RINGEN, 1)]))
     let u : State := wTook 0 wAs (wAsS ((wHd ++ [(F.CHN_TOKEN_TOKEN, 7), (F.CHN_CFG_RINGEN, 1)])))
     let tok := f.at_ 4 4
     let own := u.get F.CHN_TOKEN_TOKEN
     (Received 0 3 2 f s u) ∧ (tok = own) ∧ (isHead u = true) ∧ (u.on F.CHN_CFG_RINGEN = true) ∧ (u.on F.CHN_ADDR_RING = false)) ∧
    (let f : Frame := wAs
     let s : State := wAsS ((wHd ++ [(F.CHN_TOKEN_TOKEN, 7), (F.CHN_CFG_RINGEN, 1), (F.CHN_ADDR_RING, 1)]))
     let u : State := wTook 0 wAs (wAsS ((wHd ++ [(F.CHN_TOKEN_TOKEN, 7), (F.CHN_CFG_RINGEN, 1), (F.CHN_ADDR_RING, 1)])))
     let tok := f.at_ 4 4
     let own := u.get F.CHN_TOKEN_TOKEN
     (Received 0 3 2 f s u) ∧ (tok = own) ∧ (isHead u = true) ∧ (u.on F.CHN_CFG_RINGEN = true) ∧ (u.on F.CHN_ADDR_RING = true)) :=
  ⟨⟨rec_of (by decide +kernel), by decide +kernel⟩,
   ⟨rec_of (by decide +kernel), rfl, by decide +kernel⟩,
   ⟨rec_of (by decide +kernel), rfl, by decide +kernel⟩⟩

/-- Witnesses for Obligations.Enumeration. -/
theorem wit_Enumeration_3 :
    (let f : Frame := wAs
     let s : State := wAsS (wHd ++ [(F.CHN_TOKEN_TOKEN, 7), (F.CHN_CFG_RINGEN, 0)])
     let u : State := wTook 0 wAs (wAsS (wHd ++ [(F.CHN_TOKEN_TOKEN, 7), (F.CHN_CFG_RINGEN, 0)]))
     let tok := f.at_ 4 4
     let own := u.get F.CHN_TOKEN_TOKEN
     (Received 0 3 2 f s u) ∧ (tok = own) ∧ (isHead u = true) ∧ (u.on F.CHN_CFG_RINGEN = false)) ∧
    (let f : Frame := wAs
     let s : State := wAsS ((wHd ++ [(F.CHN_TOKEN_TOKEN, 8)]))
     let u : State := wTook 0 wAs (wAsS ((wHd ++ [(F.CHN_TOKEN_TOKEN, 8)])))
     let tok := f.at_ 4 4
     let own := u.get F.CHN_TOKEN_TOKEN
     (Received 0 3 2 f s u) ∧ (isHead u = true) ∧ (tok < own)) ∧
    (let f : Frame := wAs
     let s : State := wAsS ((wHd ++ [(F.CHN_TOKEN_TOKEN, 6)]))
     let u : State := wTook 0 wAs (wAsS ((wHd ++ [(F.CHN_TOKEN_TOKEN, 6)])))
     let tok := f.at_ 4 4
     let own := u.get F.CHN_TOKEN_TOKEN
     (Received 0 3 2 f s u) ∧ (isHead u = true) ∧ (own < tok)) :=
  ⟨⟨rec_of (by decide +kernel), rfl, by decide +kernel⟩,
   ⟨rec_of (by decide +kernel), by decide +kernel⟩,
   ⟨rec_of (by decide +kernel), by decide +kernel⟩⟩

/-- Witnesses for Obligations.Enumeration. -/
theorem wit_Enumeration_4 :
    (let p : Fin 3 := 1
     let f : Frame := wAs
     let s : State := wSlot 1 wAs (wSet wUn)
     let u : State := wTook 1 wAs (wSlot 1 wAs (wSet wUn))
     (Received p 3 2 f s u) ∧ (p ≠ 0)) ∧
    (let f : Frame := wF 3 1 [1, 2, 2, 0] 1 0 0
     let s : State := wSlot 2 (wF 3 1 [1, 2, 2, 0] 1 0 0) (wSet wHd)
     let u : State := wTook 2 (wF 3 1 [1, 2, 2, 0] 1 0 0) (wSlot 2 (wF 3 1 [1, 2, 2, 0] 1 0 0) (wSet wHd))
     (Received 2 3 1 f s u)) ∧
    (let p : Fin 3 := 1
     let f : Frame := wF 3 3 [2, 4] 2 0 1
     let s : State := wSlot 1 (wF 3 3 [2, 4] 2 0 1) (wSet wHd)
     let u : State := wTook 1 (wF 3 3 [2, 4] 2 0 1) (wSlot 1 (wF 3 3 [2, 4] 2 0 1) (wSet wHd))
     (Received p 3 3 f s u) ∧ (isHead u = true) ∧ (natBit (f.at_ 1 1) 0 = false)) :=
  ⟨⟨rec_of (by decide +kernel), by decide +kernel⟩,
   rec_of (by decide +kernel),
   ⟨rec_of (by decide +kernel), by decide +kernel⟩⟩

/-- Witnesses for Obligations.Enumeration. -/
theorem wit_Enumeration_5 :
    (let p : Fin 3 := 1
     let f : Frame := wF 3 3 [2, 1] 2 0 1
     let s : State := wSlot 1 (wF 3 3 [2, 1] 2 0 1) (wSet wHd)
     let u : State := wTook 1 (wF 3 3 [2, 1] 2 0 1) (wSlot 1 (wF 3 3 [2, 1] 2 0 1) (wSet wHd))
     (Received p 3 3 f s u) ∧ (isHead u = true) ∧ (natBit (f.at_ 1 1) 0 = true)) ∧
    (let p : Fin 3 := 0
     let f : Frame := wF 3 3 [2, 1] 2 0 1
     let s : State := wSlot 0 (wF 3 3 [2, 1] 2 0 1) (wSet wUn)
     let u : State := wTook 0 (wF 3 3 [2, 1] 2 0 1) (wSlot 0 (wF 3 3 [2, 1] 2 0 1) (wSet wUn))
     (Received p 3 3 f s u) ∧ (isHead u = false)) ∧
    (let p : Fin 3 := 0
     let f : Frame := wRt
     let s : State := wSlot 0 wRt (wSet wUn)
     let u : State := wTook 0 wRt (wSlot 0 wRt (wSet wUn))
     (Received p 3 4 f s u) ∧ (f.flag = false)) :=
  ⟨⟨rec_of (by decide +kernel), by decide +kernel⟩,
   ⟨rec_of (by decide +kernel), by decide +kernel⟩,
   ⟨rec_of (by decide +kernel), by decide +kernel⟩⟩

/-- Witnesses for Obligations.Enumeration. -/
theorem wit_Enumeration_6 :
    (let p : Fin 3 := 0
     let f : Frame := { wRt with flag := true, dst := 0x7F }
     let s : State := wSlot 0 ({ wRt with flag := true, dst := 0x7F }) (wSet wUn)
     let u : State := wTook 0 ({ wRt with flag := true, dst := 0x7F }) (wSlot 0 ({ wRt with flag := true, dst := 0x7F }) (wSet wUn))
     (Received p 3 4 f s u) ∧ (f.flag = true)) ∧
    (let p : Fin 3 := 1
     let f : Frame := wF 3 5 [1, 1] 2 0 1
     let s : State := wSlot 1 (wF 3 5 [1, 1] 2 0 1) (wSet wHd)
     let u : State := wTook 1 (wF 3 5 [1, 1] 2 0 1) (wSlot 1 (wF 3 5 [1, 1] 2 0 1) (wSet wHd))
     (Received p 3 5 f s u) ∧ (isHead u = true)) ∧
    (let p : Fin 3 := 1
     let f : Frame := wF 3 5 [1, 1] 2 0 1
     let s : State := wSlot 1 (wF 3 5 [1, 1] 2 0 1) (wSet wUn)
     let u : State := wTook 1 (wF 3 5 [1, 1] 2 0 1) (wSlot 1 (wF 3 5 [1, 1] 2 0 1) (wSet wUn))
     (Received p 3 5 f s u) ∧ (isHead u = false)) :=
  ⟨⟨rec_of (by decide +kernel), by decide +kernel⟩,
   ⟨rec_of (by decide +kernel), by decide +kernel⟩,
   ⟨rec_of (by decide +kernel), by decide +kernel⟩⟩

/-- Witnesses for Obligations.Enumeration. -/
theorem wit_Enumeration_7 :
    (let p : Fin 3 := 0
     let f : Frame := wF 3 6 [4, 0, 0, 0, 0, 0, 0, 0] 2
     let s : State := wSlot 0 (wF 3 6 [4, 0, 0, 0, 0, 0, 0, 0] 2) (wSet wUn)
     let u : State := wTook 0 (wF 3 6 [4, 0, 0, 0, 0, 0, 0, 0] 2) (wSlot 0 (wF 3 6 [4, 0, 0, 0, 0, 0, 0, 0] 2) (wSet wUn))
     (Received p 3 6 f s u)) :=
  rec_of (by decide +kernel)

/-- Witnesses for Obligations.Enumeration. -/
theorem wit_Enumeration_8 :
    (let f : Frame := wF 3 2 [64, 0, 1, 0, 7, 0, 0, 0] 1 0 0
     let s : State := wSet wLk
     (1 ≤ f.at_ 0 1) ∧ (f.at_ 0 1 ≤ 64) ∧ (ownAddr s = 0)) ∧
    (let m : Nat := 2 ^ 64 - 1
     (m < 2 ^ 64)) ∧
    (let s : State := wSet wHd
     let go := isHead s = true ∧ linkUp 1 s = true
     (go)) :=
  by decide +kernel

/-- Witnesses for Obligations.Enumeration. -/
theorem wit_Enumeration_9 :
    (let s : State := wSet wUn
     let go := isHead s = true ∧ linkUp 1 s = true
     (¬go)) ∧
    (let s : State := wChn (fun g => { g with endWait := true })
     let go := s.chn.endWait = true ∧ linkUp 1 s = false ∧ s.chn.endAt ≤ s.now
     (go)) ∧
    (let s : State := wChn (fun g => { g with endWait := true, endAt := 10 ^ 9 })
     let go := s.chn.endWait = true ∧ linkUp 1 s = false ∧ s.chn.endAt ≤ s.now
     (¬go)) :=
  by decide +kernel

/-- Witnesses for Obligations.Enumeration. -/
theorem wit_Enumeration_10 :
    (let a : BitVec 7 := 5#7
     let s : State := wLate (wChn (fun g => { g with out := [(5, false, 0)] }))
     let go := (∃ e ∈ s.chn.out, e.1 = a.toNat ∧ e.2.1 = false ∧ e.2.2 + 10000 * s.get F.CHN_CFG_LOSTDLY ≤ s.now) ∧ inMap (reachMap s) a.toNat = false
     (go)) ∧
    (let a : BitVec 7 := 5#7
     let s : State := wChn (fun g => { g with out := [(5, true, 0)] })
     let go := (∃ e ∈ s.chn.out, e.1 = a.toNat ∧ e.2.1 = false ∧ e.2.2 + 10000 * s.get F.CHN_CFG_LOSTDLY ≤ s.now) ∧ inMap (reachMap s) a.toNat = false
     (¬go)) :=
  by decide +kernel

/-- Witnesses for Obligations.ManagementFrames. -/
theorem wit_ManagementFrames_1 :
    (let p : Fin 3 := 0
     let f : Frame := wF 3 7 [3, 0, 0, 0]
     let s : State := wSlot 0 (wF 3 7 [3, 0, 0, 0]) (wSet wUn)
     let u : State := wTook 0 (wF 3 7 [3, 0, 0, 0]) (wSlot 0 (wF 3 7 [3, 0, 0, 0]) (wSet wUn))
     (Received p 3 7 f s u)) ∧
    (let p : Fin 2 := 1
     let f : Frame := wF 3 8 [0] 3 0 0
     let s : State := wSlot 1 (wF 3 8 [0] 3 0 0) (wSet wUn)
     let u : State := wTook 1 (wF 3 8 [0] 3 0 0) (wSlot 1 (wF 3 8 [0] 3 0 0) (wSet wUn))
     (Received p 3 8 f s u)) ∧
    (let f : Frame := wF 3 8 [0] 3 0 0
     let s : State := wSlot 2 (wF 3 8 [0] 3 0 0) (wSet wUn)
     let u : State := wTook 2 (wF 3 8 [0] 3 0 0) (wSlot 2 (wF 3 8 [0] 3 0 0) (wSet wUn))
     (Received 2 3 8 f s u)) :=
  ⟨rec_of (by decide +kernel),
   rec_of (by decide +kernel),
   rec_of (by decide +kernel)⟩

/-- Witnesses for Obligations.ManagementFrames. -/
theorem wit_ManagementFrames_2 :
    (let p : Fin 3 := 2
     let f : Frame := wF 3 9 [] 1 5 2
     let s : State := wSlot 2 (wF 3 9 [] 1 5 2) (wSet wUn)
     let u : State := wTook 2 (wF 3 9 [] 1 5 2) (wSlot 2 (wF 3 9 [] 1 5 2) (wSet wUn))
     (Received p 3 9 f s u)) ∧
    (let p : Fin 3 := 1
     let f : Frame := wId
     let s : State := wSlot 1 wId (wSet wHd)
     let u : State := wTook 1 wId (wSlot 1 wId (wSet wHd))
     (Received p 3 10 f s u)) ∧
    (let p : Fin 3 := 0
     let f : Frame := wF 3 11 [0x5A, 0xA5]
     let s : State := wSlot 0 (wF 3 11 [0x5A, 0xA5]) (wSet wUn)
     let u : State := wTook 0 (wF 3 11 [0x5A, 0xA5]) (wSlot 0 (wF 3 11 [0x5A, 0xA5]) (wSet wUn))
     let ok := f.at_ 0 2 = 0xA55A ∧ f.src = 1 ∧ (headPort u).val = p.val
     (Received p 3 11 f s u) ∧ (ok)) :=
  ⟨rec_of (by decide +kernel),
   rec_of (by decide +kernel),
   ⟨rec_of (by decide +kernel), by decide +kernel⟩⟩

/-- Witnesses for Obligations.ManagementFrames. -/
theorem wit_ManagementFrames_3 :
    (let p : Fin 3 := 1
     let f : Frame := wF 3 11 [0x5A, 0xA5]
     let s : State := wSlot 1 (wF 3 11 [0x5A, 0xA5]) (wSet wUn)
     let u : State := wTook 1 (wF 3 11 [0x5A, 0xA5]) (wSlot 1 (wF 3 11 [0x5A, 0xA5]) (wSet wUn))
     let ok := f.at_ 0 2 = 0xA55A ∧ f.src = 1 ∧ (headPort u).val = p.val
     (Received p 3 11 f s u) ∧ (¬ok)) ∧
    (let p : Fin 3 := 0
     let f : Frame := wF 3 12 [5, 0, 0xFF, 0xFF] 64
     let s : State := wSlot 0 (wF 3 12 [5, 0, 0xFF, 0xFF] 64) (wSet wUn)
     let u : State := wTook 0 (wF 3 12 [5, 0, 0xFF, 0xFF] 64) (wSlot 0 (wF 3 12 [5, 0, 0xFF, 0xFF] 64) (wSet wUn))
     let new := 1 ≤ f.src ∧ f.src ≤ 64 ∧ smapFind f.src u.chn.rejoined ≠ some (f.at_ 2 2)
     (Received p 3 12 f s u) ∧ (new)) ∧
    (let p : Fin 3 := 0
     let f : Frame := wF 3 12 [5, 0, 0xFF, 0xFF] 0
     let s : State := wSlot 0 (wF 3 12 [5, 0, 0xFF, 0xFF] 0) (wSet wUn)
     let u : State := wTook 0 (wF 3 12 [5, 0, 0xFF, 0xFF] 0) (wSlot 0 (wF 3 12 [5, 0, 0xFF, 0xFF] 0) (wSet wUn))
     let new := 1 ≤ f.src ∧ f.src ≤ 64 ∧ smapFind f.src u.chn.rejoined ≠ some (f.at_ 2 2)
     (Received p 3 12 f s u) ∧ (¬new)) :=
  ⟨⟨rec_of (by decide +kernel), by decide +kernel⟩,
   ⟨rec_of (by decide +kernel), by decide +kernel⟩,
   ⟨rec_of (by decide +kernel), by decide +kernel⟩⟩

/-- Witnesses for Obligations.ManagementFrames. -/
theorem wit_ManagementFrames_4 :
    (let p : Fin 3 := 2
     let s : State := State.reset
     let e := ((9, Instr.ident 2) : Nat × Instr)
     (e ∈ [(3, Instr.enumrpt p), (4, .route p), (5, .linkrpt p), (6, .orphan p), (7, .version p), (8, .ratechg p),
    (9, .ident p), (10, .identrsp p), (11, .resetMgmt p), (12, .rejoin p)]) ∧
     (slotFind p 3 e.1 s.begin = none)) ∧
    (let p : Fin 3 := 0
     let s : State := State.reset
     let e := ((1, Instr.hello 0) : Nat × Instr)
     (e ∈ [(1, Instr.hello p), (2, .assign p)]) ∧ (slotFind p 3 e.1 s.begin = none)) :=
  ⟨⟨by repeat (first | exact .head _ | apply List.Mem.tail), by decide +kernel⟩,
   ⟨by repeat (first | exact .head _ | apply List.Mem.tail), by decide +kernel⟩⟩

/-- Witnesses for Obligations.ManagementFrames. -/
theorem wit_ManagementFrames_5 :
    (let s : State := wChn (fun g => { g with rejoinLeft := 3, nonce := 77 }) (wSet wUn)
     let go := s.chn.rejoinLeft ≠ 0 ∧ ownAddr s ≠ 0 ∧ linkUp (if isHead s then 1 else headPort s) s = true ∧ s.chn.rejoinAt ≤ s.now
     (go)) ∧
    (let s : State := wChn (fun g => { g with rejoinLeft := 3, rejoinAt := 10 ^ 9 }) (wSet wUn)
     let go := s.chn.rejoinLeft ≠ 0 ∧ ownAddr s ≠ 0 ∧ linkUp (if isHead s then 1 else headPort s) s = true ∧ s.chn.rejoinAt ≤ s.now
     (¬go)) :=
  by decide +kernel

end Sys2Proof.Tests.T13

namespace Sys2Proof.Tests.T14
set_option Elab.async false
open Sys2Proof Sys2Proof.Machine Sys2Proof.Tests

def wLk : List (Fld × Nat) := [(F.CHN_pSTAT_LOCK 0, 1), (F.CHN_pSTAT_LOCK 1, 1), (F.CHN_pSTAT_LINK 0, 1), (F.CHN_pSTAT_LINK 1, 1)]
def wUn : List (Fld × Nat) := wLk ++ [(F.CHN_ADDR_VALID, 1), (F.CHN_ADDR_ADDR, 2), (F.CHN_UPMAPLO_MAP, 1), (F.CHN_LIVELO_MAP, 7), (F.CHN_REACHLO_MAP, 7), (F.CHN_ADDR_NUNITS, 3), (F.SYS_CIDEN_EN 1, 0xFFFFFFFF), (F.SYS_ACCRHI_MASK 10, 0xFFFFFFFF), (F.SYS_ACCRHI_MASK 11, 0xFFFFFFFF), (F.SYS_ACCWHI_MASK 10, 0xFFFFFFFF), (F.SYS_ACCWHI_MASK 11, 0xFFFFFFFF)]
def wU : State := wSet wUn
def wLate (s : State) : State := { s with now := 10 ^ 11 }
def wStg : State := wChn (fun g => { g with stages := [(1, { unit := 3, mbx := 31, w := #v[1#32, 2#32, 3#32] })] }) wU
def wAll : List (Fld × Nat) := wUn
def wPlan : Plan := { f := { cls := 0, dst := 3, typ := 1, src := 0, data := leBytes 2 0x10 ++ [2#8, 1#8] }, by_ := .other, off := 0x10, cid := 1, kind := 0 }
def wBusyRecs : State := wChn (fun g => { g with reqs := g.reqs.set! 0 (some { f := wPlan.f, by_ := .other, off := 0, cid := 1, kind := 0, buf := 0, tries := 0 }) }) wU
def wFullRecs : State := wChn (fun g => { g with reqs := Vector.replicate 32 (some { f := wPlan.f, by_ := .other, off := 0, cid := 1, kind := 0, buf := 0, tries := 0 }) }) wU
def wReq (typ : Nat) (z : Nat := 2) : Req := { f := wF 0 typ [0x10, 0, BitVec.ofNat 8 z, 1] 2 0 3, by_ := .other, off := 0x10, cid := 1, kind := 0, buf := 3, tries := 0 }
def wQ (r : Req) : State := wChn (fun g => { g with reqs := g.reqs.set! 0 (some r) }) (wU.setBuf 3 { st := .reserved, owner := 1 })
def wA1 : Frame := wF 1 1 [1, 2, 3, 4] 3 0 2
def wA2 : Frame := wF 1 2 [] 3 0 2
def wA3 : Frame := wF 1 3 [1, 2, 3, 4] 3 0 2
def wReqS : Req := { wReq 3 with f := wF 0 3 [0, 5, 1, 0] 2 0 3, kind := 1 }
def wA6 : Frame := wF 1 6 [9, 0, 0, 0] 3 0 2
def wHq (n d : Nat) : State := wChn (fun g => { g with hostReqs := [(wPlan.f, n, d)] }) wU
def wZ : State := wSet [(F.CHN_ADDR_QUAR, 1)] wU
def wTk (f : Frame) (s : State := wU) : State := wTook 0 f (wSlot 0 f s)
def wA (a : Ans) : DWord := match a with | .ok d => d | _ => 0#64
def wB (f : Frame) (w : Bool) (d : Nat) (c : Nat := portBCid f.src) : Ans × State := portB (frameWho c f (wTk f)).1 w (f.at_ 0 2) (2 ^ f.at_ 2 1) d (frameWho c f (wTk f)).2
def wPrd : Frame := wF 0 1 [0x00, 0x7F, 2, 1] 1 7 2
def wPbad : Frame := wF 0 1 [0x02, 0x7F, 2, 1] 3 7 2
def wPfar : Frame := wF 0 1 [0x00, 0x80, 2, 1] 3 7 2
def wPsz : Frame := wF 0 1 [0x00, 0x70, 4, 1] 3 7 2
def wPsm : Frame := wF 0 1 [0x04, 0x7C, 2, 1] 3 7 2
def wPwr : Frame := wF 0 2 [0x00, 0x00, 2, 1, 1, 2, 3, 4] 1 7 2
def wPwb : Frame := { wF 0 2 [0x00, 0x7F, 2, 1, 1, 2, 3, 4] 3 7 2 with flag := false }
def wPwf : Frame := wF 0 2 [0x00, 0xFF, 2, 1, 1, 2, 3, 4] 1 7 2
def wPwz : Frame := wF 0 2 [0x00, 0x0F, 9, 1, 1, 2, 3, 4] 1 7 2
def wCs (a : Ans) : Cause := match a with | .refused c => c | _ => .deny
def wPbw : Frame := wF 0 5 [0x00, 0x00, 2, 1, 1, 2, 3, 4] 1 7 0x7F
def wPse : Frame := wF 0 3 [1, 31, 5, 2] 1 7 2
def wPsf : Frame := { wPse with flag := true }
def wPsk : Frame := wF 0 3 [1, 32, 5, 2] 1 7 2
def wPso : Frame := wF 0 3 [4, 31, 5, 2] 1 7 2
def wDup : State := wChn (fun g => { g with dup := [(1, 7, wF 1 2 [] 2 7 1)] }) wU
def wNo : State := wSet [(F.SYS_CIDEN_EN 1, 0)] wU
def wPmb : Frame := wF 0 4 [31, 1, 5, 0, 1, 0, 0, 0, 2, 0, 0, 0, 3, 0, 0, 0] 1 7 2
def wPmf : Frame := { wPmb with flag := true }
def wPmk : Frame := wF 0 4 [32, 1, 5, 0, 1, 0, 0, 0, 2, 0, 0, 0, 3, 0, 0, 0] 1 7 2
def wMbs : State := wSet [(F.MBX_WMASKHI_MASK 31, 0xFFFFFFFF)] wU
def wPmv (s : State) : Ans := (mailboxPostB { cid := portBCid 1, origin := 1 } 31 5 1 [1, 2, 3] (wTk wPmb s)).1
def wEv : Frame := wF 1 7 [1, 0, 0, 0, 5, 1, 0, 0] 3 9 2
def wEv1 : State := wChn (fun g => { g with acked := [(3, 9)] }) wU
def wSe : SemEvent := ⟨3, 9, 1#32, 5, 1, 0, 0⟩
def wSes (e : SemEvent) : State := wChn (fun g => { g with events := [e] }) wU
def wAk : Frame := wF 1 8 [] 3 9 2
def wPn : Frame := wF 1 9 [0, 5, 1, 15, 2, 0, 0, 0] 3 0 2
def wOb : State := wU.setBuf 5 { st := .owned, owner := 1 }
def wMs : Frame := wF 2 1 [31, 2, 64, 1, 0, 0, 0, 0] 3 9 2
def wMx : Slot := ⟨wMs, true, none⟩
def wHe (t : Nat) (s : State := wU) : State := wChn (fun g => { g with msgHeld := [(3, 9, t)] }) (wSlot 1 wMs s)
def wNoB (s : State) : State := (List.range 500).foldl (fun s i => s.setBuf i { st := .owned, owner := 1 }) s
def wMf : Slot := ⟨{ wMs with flag := true }, true, none⟩
def wDupM : State := wChn (fun g => { g with dup := [(3, 9, wF 1 2 [] 2 9 3)] }) wU
def wMd : Frame := wF 2 2 (List.replicate 64 7) 3 9 2
def wMi : MsgIn := { src := 3, tag := 9, mbx := 31, bufs := [5, 6], got := 1 }
def wMis : State := wChn (fun g => { g with msgIn := [wMi] }) ((wU.setBuf 5 { st := .transit, owner := 31, next := some 6 }).setBuf 6 { st := .transit, owner := 31 })
def wMi0 : State := wSlot 1 wMd (wChn (fun g => { g with msgIn := [{ wMi with got := 0 }] }) wMis)

/-- Witnesses for Obligations.RemoteRequests. -/
theorem wit_RemoteRequests_1 :
    (let q : Plan := wPlan
     let s : State := wBusyRecs
     let free := (List.range 32).find? (fun i => (s.chn.reqs.get (recIx i)).isNone)
     let i : Nat := 1
     let b : Nat := 0
     let v : State := (poolReserve 1 wBusyRecs).2
     (poolReserve q.cid s = (some b, v)) ∧ (free = some i)) :=
  ⟨pair_of (by decide +kernel) rfl, by decide +kernel⟩

/-- Witnesses for Obligations.RemoteRequests. -/
theorem wit_RemoteRequests_2 :
    (let cid : Cid := 1#6
     let w : Bool := false
     let a : Word := 0x60010010#32
     let sz : Fin 4 := 2
     let s : State := wU
     let n := (a.toNat - 0x60000000) / 0x8000 + 1
     let off := a.toNat % 0x8000
     let check := (accessCheck { cid := cid.toNat } w a.toNat (2 ^ sz.val) s).toOption
     let reach := check = some 32 ∧ n ≠ ownAddr s
     let sem := 0x7C00 ≤ off ∧ off < 0x7C80 ∧ sz = 2
     (reach) ∧ (¬sem) ∧ (w = false)) ∧
    (let cid : Cid := 1#6
     let w : Bool := false
     let a : Word := 0x600F8010#32
     let sz : Fin 4 := 3
     let s : State := wU
     let n := (a.toNat - 0x60000000) / 0x8000 + 1
     let off := a.toNat % 0x8000
     let check := (accessCheck { cid := cid.toNat } w a.toNat (2 ^ sz.val) s).toOption
     let reach := check = some 32 ∧ n ≠ ownAddr s
     let sem := 0x7C00 ≤ off ∧ off < 0x7C80 ∧ sz = 2
     (reach) ∧ (¬sem) ∧ (w = false)) ∧
    (let cid : Cid := 1#6
     let w : Bool := true
     let a : Word := 0x60010012#32
     let sz : Fin 4 := 1
     let s : State := wU
     let n := (a.toNat - 0x60000000) / 0x8000 + 1
     let off := a.toNat % 0x8000
     let check := (accessCheck { cid := cid.toNat } w a.toNat (2 ^ sz.val) s).toOption
     let reach := check = some 32 ∧ n ≠ ownAddr s
     let sem := 0x7C00 ≤ off ∧ off < 0x7C80 ∧ sz = 2
     let pay := w = true ∧ 0x7D00 ≤ off ∧ off < 0x7F00 ∧ 4 ≤ off % 16
     let bell := w = true ∧ 0x7D00 ≤ off ∧ off < 0x7F00 ∧ off % 16 < 4 ∧ sz = 2
     (reach) ∧ (¬sem) ∧ (w = true) ∧ (¬pay) ∧ (¬bell)) :=
  by decide +kernel

/-- Witnesses for Obligations.RemoteRequests. -/
theorem wit_RemoteRequests_3 :
    (let cid : Cid := 1#6
     let w : Bool := false
     let a : Word := 0x60017C14#32
     let sz : Fin 4 := 2
     let s : State := wU
     let n := (a.toNat - 0x60000000) / 0x8000 + 1
     let off := a.toNat % 0x8000
     let check := (accessCheck { cid := cid.toNat } w a.toNat (2 ^ sz.val) s).toOption
     let reach := check = some 32 ∧ n ≠ ownAddr s
     let sem := 0x7C00 ≤ off ∧ off < 0x7C80 ∧ sz = 2
     (reach) ∧ (sem) ∧ (w = false)) ∧
    (let cid : Cid := 1#6
     let w : Bool := true
     let a : Word := 0x60017C14#32
     let sz : Fin 4 := 2
     let v : DWord := 1#64
     let s : State := wU
     let n := (a.toNat - 0x60000000) / 0x8000 + 1
     let off := a.toNat % 0x8000
     let d := v.toNat % 256 ^ 2 ^ sz.val
     let check := (accessCheck { cid := cid.toNat } w a.toNat (2 ^ sz.val) s).toOption
     let reach := check = some 32 ∧ n ≠ ownAddr s
     let sem := 0x7C00 ≤ off ∧ off < 0x7C80 ∧ sz = 2
     (reach) ∧ (sem) ∧ (w = true) ∧ (d % 4 = 1)) ∧
    (let cid : Cid := 1#6
     let w : Bool := true
     let a : Word := 0x60017C14#32
     let sz : Fin 4 := 2
     let v : DWord := 2#64
     let s : State := wU
     let n := (a.toNat - 0x60000000) / 0x8000 + 1
     let off := a.toNat % 0x8000
     let d := v.toNat % 256 ^ 2 ^ sz.val
     let check := (accessCheck { cid := cid.toNat } w a.toNat (2 ^ sz.val) s).toOption
     let reach := check = some 32 ∧ n ≠ ownAddr s
     let sem := 0x7C00 ≤ off ∧ off < 0x7C80 ∧ sz = 2
     (reach) ∧ (sem) ∧ (w = true) ∧ (d % 4 = 2)) :=
  by decide +kernel

/-- Witnesses for Obligations.RemoteRequests. -/
theorem wit_RemoteRequests_4 :
    (let cid : Cid := 1#6
     let w : Bool := true
     let a : Word := 0x60017C14#32
     let sz : Fin 4 := 2
     let v : DWord := 2#64
     let s : State := (wU.setSem 7 { waiters := [⟨1, 0, 0⟩] })
     let n := (a.toNat - 0x60000000) / 0x8000 + 1
     let off := a.toNat % 0x8000
     let d := v.toNat % 256 ^ 2 ^ sz.val
     let check := (accessCheck { cid := cid.toNat } w a.toNat (2 ^ sz.val) s).toOption
     let reach := check = some 32 ∧ n ≠ ownAddr s
     let sem := 0x7C00 ≤ off ∧ off < 0x7C80 ∧ sz = 2
     (reach) ∧ (sem) ∧ (w = true) ∧ (d % 4 = 2)) ∧
    (let cid : Cid := 1#6
     let w : Bool := true
     let a : Word := 0x60017C14#32
     let sz : Fin 4 := 2
     let v : DWord := 3#64
     let s : State := wU
     let n := (a.toNat - 0x60000000) / 0x8000 + 1
     let off := a.toNat % 0x8000
     let d := v.toNat % 256 ^ 2 ^ sz.val
     let check := (accessCheck { cid := cid.toNat } w a.toNat (2 ^ sz.val) s).toOption
     let reach := check = some 32 ∧ n ≠ ownAddr s
     let sem := 0x7C00 ≤ off ∧ off < 0x7C80 ∧ sz = 2
     (reach) ∧ (sem) ∧ (w = true) ∧ (d % 4 = 3)) ∧
    (let cid : Cid := 1#6
     let w : Bool := true
     let a : Word := 0x60017C14#32
     let sz : Fin 4 := 2
     let v : DWord := 4#64
     let s : State := wU
     let n := (a.toNat - 0x60000000) / 0x8000 + 1
     let off := a.toNat % 0x8000
     let d := v.toNat % 256 ^ 2 ^ sz.val
     let check := (accessCheck { cid := cid.toNat } w a.toNat (2 ^ sz.val) s).toOption
     let reach := check = some 32 ∧ n ≠ ownAddr s
     let sem := 0x7C00 ≤ off ∧ off < 0x7C80 ∧ sz = 2
     (reach) ∧ (sem) ∧ (w = true) ∧ (d % 4 = 0)) :=
  by decide +kernel

/-- Witnesses for Obligations.RemoteRequests. -/
theorem wit_RemoteRequests_5 :
    (let cid : Cid := 1#6
     let w : Bool := true
     let a : Word := 0x60017EFE#32
     let sz : Fin 4 := 1
     let s : State := wU
     let n := (a.toNat - 0x60000000) / 0x8000 + 1
     let off := a.toNat % 0x8000
     let check := (accessCheck { cid := cid.toNat } w a.toNat (2 ^ sz.val) s).toOption
     let reach := check = some 32 ∧ n ≠ ownAddr s
     let pay := w = true ∧ 0x7D00 ≤ off ∧ off < 0x7F00 ∧ 4 ≤ off % 16
     (reach) ∧ (pay)) ∧
    (let cid : Cid := 1#6
     let w : Bool := true
     let a : Word := 0x60017EF0#32
     let sz : Fin 4 := 2
     let v : DWord := 0x40000000#64
     let s : State := wU
     let n := (a.toNat - 0x60000000) / 0x8000 + 1
     let off := a.toNat % 0x8000
     let d := v.toNat % 256 ^ 2 ^ sz.val
     let check := (accessCheck { cid := cid.toNat } w a.toNat (2 ^ sz.val) s).toOption
     let reach := check = some 32 ∧ n ≠ ownAddr s
     let bell := w = true ∧ 0x7D00 ≤ off ∧ off < 0x7F00 ∧ off % 16 < 4 ∧ sz = 2
     (reach) ∧ (bell) ∧ (d / 0x40000000 % 4 ≠ 2)) ∧
    (let cid : Cid := 1#6
     let w : Bool := true
     let a : Word := 0x60017EF0#32
     let sz : Fin 4 := 2
     let v : DWord := 0xA0000000#64
     let s : State := wU
     let n := (a.toNat - 0x60000000) / 0x8000 + 1
     let off := a.toNat % 0x8000
     let d := v.toNat % 256 ^ 2 ^ sz.val
     let check := (accessCheck { cid := cid.toNat } w a.toNat (2 ^ sz.val) s).toOption
     let reach := check = some 32 ∧ n ≠ ownAddr s
     let bell := w = true ∧ 0x7D00 ≤ off ∧ off < 0x7F00 ∧ off % 16 < 4 ∧ sz = 2
     (reach) ∧ (bell) ∧ (d / 0x40000000 % 4 = 2) ∧ (natBit d 29 = true)) :=
  by decide +kernel

/-- Witnesses for Obligations.RemoteRequests. -/
theorem wit_RemoteRequests_6 :
    (let cid : Cid := 1#6
     let w : Bool := true
     let a : Word := 0x60017EF0#32
     let sz : Fin 4 := 2
     let v : DWord := 0x80001234#64
     let s : State := wStg
     let n := (a.toNat - 0x60000000) / 0x8000 + 1
     let off := a.toNat % 0x8000
     let d := v.toNat % 256 ^ 2 ^ sz.val
     let check := (accessCheck { cid := cid.toNat } w a.toNat (2 ^ sz.val) s).toOption
     let reach := check = some 32 ∧ n ≠ ownAddr s
     let bell := w = true ∧ 0x7D00 ≤ off ∧ off < 0x7F00 ∧ off % 16 < 4 ∧ sz = 2
     (reach) ∧ (bell) ∧ (d / 0x40000000 % 4 = 2) ∧ (natBit d 29 = false)) ∧
    (let cid : Cid := 1#6
     let w : Bool := true
     let a : Word := 0x600FFEF0#32
     let sz : Fin 4 := 2
     let v : DWord := 0x80001234#64
     let s : State := wStg
     let n := (a.toNat - 0x60000000) / 0x8000 + 1
     let off := a.toNat % 0x8000
     let d := v.toNat % 256 ^ 2 ^ sz.val
     let check := (accessCheck { cid := cid.toNat } w a.toNat (2 ^ sz.val) s).toOption
     let reach := check = some 32 ∧ n ≠ ownAddr s
     let bell := w = true ∧ 0x7D00 ≤ off ∧ off < 0x7F00 ∧ off % 16 < 4 ∧ sz = 2
     (reach) ∧ (bell) ∧ (d / 0x40000000 % 4 = 2) ∧ (natBit d 29 = false)) ∧
    (let cid : Cid := 1#6
     let w : Bool := true
     let a : Word := 0x60200010#32
     let sz : Fin 4 := 2
     let s : State := wU
     let check := (accessCheck { cid := cid.toNat } w a.toNat (2 ^ sz.val) s).toOption
     (check = some 33) ∧ (w = true) ∧ (quarantined s = false) ∧ (ownAddr s ≠ 0)) :=
  by decide +kernel

/-- Witnesses for Obligations.RemoteRequests. -/
theorem wit_RemoteRequests_7 :
    (let cid : Cid := 1#6
     let w : Bool := true
     let a : Word := 0x60200010#32
     let sz : Fin 4 := 2
     let s : State := (wSet [(F.CHN_ADDR_QUAR, 1)] wU)
     let check := (accessCheck { cid := cid.toNat } w a.toNat (2 ^ sz.val) s).toOption
     (check = some 33) ∧ (w = true) ∧ (quarantined s = true ∨ ownAddr s = 0)) ∧
    (let q : Plan := wPlan
     let s : State := wFullRecs
     let free := (List.range 32).find? (fun i => (s.chn.reqs.get (recIx i)).isNone)
     (free = none ∨ (poolReserve q.cid s).1 = none)) ∧
    (let cid : Cid := 1#6
     let n : Fin 64 := 63
     let m : Fin 32 := 31
     let w : Fin 3 := 2
     let s : State := wU
     ((accessCheck { cid := cid.toNat } true (0x60000000 + 0x8000 * n.val + 0x7D04 + 16 * m.val + 4 * w.val) 4 s).toOption = some 32) ∧
     (n.val + 1 ≠ ownAddr s)) :=
  by decide +kernel

/-- Witnesses for Obligations.RemoteRequests, the clauses of Responses. -/
theorem wit_Responses_1 :
    (let p : Fin 3 := 1
     let f : Frame := wA1
     let r : Req := (wReq 1)
     let s : State := wSlot 1 wA1 (wQ (wReq 1))
     let u : State := wTook 1 wA1 (wSlot 1 wA1 (wQ (wReq 1)))
     (Received p 1 1 f s u) ∧ (answered f u = some r) ∧ (f.typ = 1)) ∧
    (let p : Fin 3 := 1
     let f : Frame := wA1
     let r : Req := (wReq 2)
     let s : State := wSlot 1 wA1 (wQ (wReq 2))
     let u : State := wTook 1 wA1 (wSlot 1 wA1 (wQ (wReq 2)))
     (Received p 1 1 f s u) ∧ (answered f u = some r) ∧ (f.typ = 1)) ∧
    (let p : Fin 3 := 1
     let f : Frame := wA2
     let r : Req := (wReq 2)
     let s : State := wSlot 1 wA2 (wQ (wReq 2))
     let u : State := wTook 1 wA2 (wSlot 1 wA2 (wQ (wReq 2)))
     (Received p 1 2 f s u) ∧ (answered f u = some r) ∧ (f.typ = 2)) :=
  ⟨⟨rec_of (by decide +kernel), by decide +kernel⟩,
   ⟨rec_of (by decide +kernel), by decide +kernel⟩,
   ⟨rec_of (by decide +kernel), by decide +kernel⟩⟩

/-- Witnesses for Obligations.RemoteRequests, the clauses of Responses. -/
theorem wit_Responses_2 :
    (let p : Fin 3 := 1
     let f : Frame := wA3
     let r : Req := wReqS
     let s : State := wSlot 1 wA3 (wQ (wReqS))
     let u : State := wTook 1 wA3 (wSlot 1 wA3 (wQ (wReqS)))
     (Received p 1 3 f s u) ∧ (answered f u = some r) ∧ (f.typ = 3)) ∧
    (let p : Fin 3 := 1
     let f : Frame := wA6
     let r : Req := (wReq 1)
     let s : State := wSlot 1 wA6 (wQ (wReq 1))
     let u : State := wTook 1 wA6 (wSlot 1 wA6 (wQ (wReq 1)))
     (Received p 1 6 f s u) ∧ (answered f u = some r) ∧ (f.typ = 6)) ∧
    (let p : Fin 3 := 1
     let f : Frame := wA1
     let s : State := wSlot 1 wA1 wU
     let u : State := wTook 1 wA1 (wSlot 1 wA1 wU)
     let e := ((1, Instr.rdrsp 1) : Nat × Instr)
     (e ∈ [(1, Instr.rdrsp p), (2, .ack p), (3, .semrsp p), (6, .errRsp p)]) ∧ (Received p 1 e.1 f s u) ∧ (answered f u = none)) :=
  ⟨⟨rec_of (by decide +kernel), by decide +kernel⟩,
   ⟨rec_of (by decide +kernel), by decide +kernel⟩,
   ⟨by repeat (first | exact .head _ | apply List.Mem.tail), rec_of (by decide +kernel), by decide +kernel⟩⟩

/-- Witnesses for Obligations.RemoteRequests, the clauses of Responses. -/
theorem wit_Responses_3 :
    (let j : Fin 32 := 0
     let s : State := wQ { wReq 1 with due := 5 }
     let r : Req := { wReq 1 with due := 5 }
     (s.chn.reqs.get j = some r) ∧ (s.now < r.due)) ∧
    (let j : Fin 32 := 0
     let s : State := wQ (wReq 1)
     let r : Req := wReq 1
     (s.chn.reqs.get j = some r) ∧ (r.due ≤ s.now) ∧ (r.tries = 0)) ∧
    (let j : Fin 32 := 0
     let s : State := wQ { wReq 1 with tries := 2 }
     let r : Req := { wReq 1 with tries := 2 }
     let r' := { r with tries := r.tries - 1, due := rspDue s }
     (s.chn.reqs.get j = some r) ∧ (r.due ≤ s.now) ∧ (r.tries ≠ 0)) :=
  by decide +kernel

/-- Witnesses for Obligations.RemoteRequests, the clauses of Responses. -/
theorem wit_Responses_4 :
    (let j : Fin 32 := 0
     let s : State := wU
     (s.chn.reqs.get j = none)) ∧
    (let s : State := wHq 0 5
     let tag : Byte := 0#8
     let f : Frame := wPlan.f
     let tries : Nat := 0
     let due : Nat := 5
     (s.chn.hostReqs.find? (fun e => e.1.tag == tag.toNat) = some (f, tries, due)) ∧ (s.now < due)) ∧
    (let s : State := wHq 0 0
     let tag : Byte := 0#8
     let f : Frame := wPlan.f
     let tries : Nat := 0
     let due : Nat := 0
     (s.chn.hostReqs.find? (fun e => e.1.tag == tag.toNat) = some (f, tries, due)) ∧ (due ≤ s.now) ∧ (tries = 0)) :=
  by decide +kernel

/-- Witnesses for Obligations.RemoteRequests, the clauses of Responses. -/
theorem wit_Responses_5 :
    (let s : State := wHq 2 0
     let tag : Byte := 0#8
     let f : Frame := wPlan.f
     let tries : Nat := 2
     let due : Nat := 0
     (s.chn.hostReqs.find? (fun e => e.1.tag == tag.toNat) = some (f, tries, due)) ∧ (due ≤ s.now) ∧ (tries ≠ 0)) ∧
    (let s : State := wU
     let tag : Byte := 7#8
     (s.chn.hostReqs.find? (fun e => e.1.tag == tag.toNat) = none)) ∧
    (let s : State := wQ (wReq 1)
     (s.chn.waitQ = [])) :=
  by decide +kernel

/-- Witnesses for Obligations.ServingRequests. -/
theorem wit_ServingRequests_1 :
    (let p : Fin 3 := 0
     let f : Frame := wPrd
     let s : State := wSlot 0 wPrd wZ
     let u : State := wTk wPrd wZ
     (Received p 0 1 f s u) ∧ (quarantined u = true)) ∧
    (let p : Fin 3 := 0
     let f : Frame := wPfar
     let s : State := wSlot 0 wPfar wU
     let u : State := wTk wPfar wU
     let off := f.at_ 0 2
     (Received p 0 1 f s u) ∧ (quarantined u = false) ∧ (0x8000 ≤ off)) ∧
    (let p : Fin 3 := 0
     let f : Frame := wPsz
     let s : State := wSlot 0 wPsz wU
     let u : State := wTk wPsz wU
     let off := f.at_ 0 2
     let z := f.at_ 2 1
     (Received p 0 1 f s u) ∧ (quarantined u = false) ∧ (off < 0x8000) ∧ (3 < z)) :=
  ⟨⟨rec_of (by decide +kernel), by decide +kernel⟩,
   ⟨rec_of (by decide +kernel), by decide +kernel⟩,
   ⟨rec_of (by decide +kernel), by decide +kernel⟩⟩

/-- Witnesses for Obligations.ServingRequests. -/
theorem wit_ServingRequests_2 :
    (let p : Fin 3 := 0
     let f : Frame := wPrd
     let s : State := wSlot 0 wPrd wU
     let u : State := wTk wPrd wU
     let off := f.at_ 0 2
     let z := f.at_ 2 1
     let who := frameWho (portBCid f.src) f u
     let good := quarantined u = false ∧ off < 0x8000 ∧ z ≤ 3
     let d := wA (wB wPrd false 0).1
     let v := (wB wPrd false 0).2
     (Received p 0 1 f s u) ∧ (portB who.1 false off (2 ^ z) 0 who.2 = (.ok d, v)) ∧ (good)) ∧
    (let p : Fin 3 := 0
     let f : Frame := wPbad
     let s : State := wSlot 0 wPbad wU
     let u : State := wTk wPbad wU
     let off := f.at_ 0 2
     let z := f.at_ 2 1
     let who := frameWho (portBCid f.src) f u
     let good := quarantined u = false ∧ off < 0x8000 ∧ z ≤ 3
     let c := Cause.align
     let v := (wB wPbad false 0).2
     (Received p 0 1 f s u) ∧ (portB who.1 false off (2 ^ z) 0 who.2 = (.refused c, v)) ∧ (good)) ∧
    (let p : Fin 3 := 0
     let f : Frame := wPsm
     let s : State := wSlot 0 wPsm wU
     let u : State := wTk wPsm wU
     let off := f.at_ 0 2
     let z := f.at_ 2 1
     let who := frameWho (portBCid f.src) f u
     let good := quarantined u = false ∧ off < 0x8000 ∧ z ≤ 3
     let d := wA (wB wPsm false 0).1
     let v := (wB wPsm false 0).2
     (Received p 0 1 f s u) ∧ (portB who.1 false off (2 ^ z) 0 who.2 = (.ok d, v)) ∧ (good)) :=
  ⟨⟨rec_of (by decide +kernel), pair_of (by decide +kernel) rfl, by decide +kernel⟩,
   ⟨rec_of (by decide +kernel), pair_of (by decide +kernel) rfl, by decide +kernel⟩,
   ⟨rec_of (by decide +kernel), pair_of (by decide +kernel) rfl, by decide +kernel⟩⟩

/-- Witnesses for Obligations.ServingRequests. -/
theorem wit_ServingRequests_3 :
    (let p : Fin 3 := 0
     let f : Frame := wPwr
     let s : State := wSlot 0 wPwr wZ
     let u : State := wTk wPwr wZ
     (Received p 0 2 f s u) ∧ (f.typ = 2) ∧ (quarantined u = true)) ∧
    (let p : Fin 3 := 0
     let f : Frame := wPwf
     let s : State := wSlot 0 wPwf wU
     let u : State := wTk wPwf wU
     let off := f.at_ 0 2
     (Received p 0 2 f s u) ∧ (f.typ = 2) ∧ (quarantined u = false) ∧ (0x8000 ≤ off)) ∧
    (let p : Fin 3 := 0
     let f : Frame := wPwz
     let s : State := wSlot 0 wPwz wU
     let u : State := wTk wPwz wU
     let off := f.at_ 0 2
     let z := f.at_ 2 1
     (Received p 0 2 f s u) ∧ (f.typ = 2) ∧ (quarantined u = false) ∧ (off < 0x8000) ∧ (3 < z)) :=
  ⟨⟨rec_of (by decide +kernel), by decide +kernel⟩,
   ⟨rec_of (by decide +kernel), by decide +kernel⟩,
   ⟨rec_of (by decide +kernel), by decide +kernel⟩⟩

/-- Witnesses for Obligations.ServingRequests. -/
theorem wit_ServingRequests_4 :
    (let p : Fin 3 := 0
     let f : Frame := wPwr
     let s : State := wSlot 0 wPwr wU
     let u : State := wTk wPwr wU
     let off := f.at_ 0 2
     let z := f.at_ 2 1
     let who := frameWho (portBCid f.src) f u
     let good := quarantined u = false ∧ off < 0x8000 ∧ z ≤ 3
     let data := leNat (f.data.drop 4)
     let d := wA (wB wPwr true 0x04030201).1
     let v := (wB wPwr true 0x04030201).2
     (Received p 0 2 f s u) ∧ (portB who.1 true off (2 ^ z) data who.2 = (.ok d, v)) ∧ (f.typ = 2) ∧ (good)) ∧
    (let p : Fin 3 := 0
     let f : Frame := wPwb
     let s : State := wSlot 0 wPwb wU
     let u : State := wTk wPwb wU
     let off := f.at_ 0 2
     let z := f.at_ 2 1
     let who := frameWho (portBCid f.src) f u
     let good := quarantined u = false ∧ off < 0x8000 ∧ z ≤ 3
     let data := leNat (f.data.drop 4)
     let c := wCs (wB wPwb true 0x04030201).1
     let v := (wB wPwb true 0x04030201).2
     (Received p 0 2 f s u) ∧ (portB who.1 true off (2 ^ z) data who.2 = (.refused c, v)) ∧ (f.typ = 2) ∧ (good)) ∧
    (let p : Fin 3 := 0
     let f : Frame := wPbw
     let s : State := wSlot 0 wPbw wU
     let u : State := wTk wPbw wU
     let off := f.at_ 0 2
     let z := f.at_ 2 1
     let good := quarantined u = false ∧ off < 0x8000 ∧ z ≤ 3
     (Received p 0 5 f s u) ∧ (f.typ = 5) ∧ (good)) :=
  ⟨⟨rec_of (by decide +kernel), pair_of (by decide +kernel) rfl, by decide +kernel⟩,
   ⟨rec_of (by decide +kernel), pair_of (by decide +kernel) rfl, by decide +kernel⟩,
   ⟨rec_of (by decide +kernel), by decide +kernel⟩⟩

/-- Witnesses for Obligations.ServingRequests. -/
theorem wit_ServingRequests_5 :
    (let p : Fin 3 := 0
     let f : Frame := wPbw
     let s : State := wSlot 0 wPbw wZ
     let u : State := wTk wPbw wZ
     let off := f.at_ 0 2
     let z := f.at_ 2 1
     let good := quarantined u = false ∧ off < 0x8000 ∧ z ≤ 3
     (Received p 0 5 f s u) ∧ (f.typ = 5) ∧ (¬good)) ∧
    (let p : Fin 3 := 0
     let f : Frame := wPse
     let s : State := wSlot 0 wPse wZ
     let u : State := wTk wPse wZ
     (Received p 0 3 f s u) ∧ (quarantined u = true)) ∧
    (let p : Fin 3 := 0
     let f : Frame := wPsf
     let s : State := wSlot 0 wPsf wDup
     let u : State := wTk wPsf wDup
     let r := wF 1 2 [] 2 7 1
     (Received p 0 3 f s u) ∧ (quarantined u = false) ∧ (dupFind f u = some r)) :=
  ⟨⟨rec_of (by decide +kernel), by decide +kernel⟩,
   ⟨rec_of (by decide +kernel), by decide +kernel⟩,
   ⟨rec_of (by decide +kernel), by decide +kernel⟩⟩

/-- Witnesses for Obligations.ServingRequests. -/
theorem wit_ServingRequests_6 :
    (let p : Fin 3 := 0
     let f : Frame := wPsk
     let s : State := wSlot 0 wPsk wU
     let u : State := wTk wPsk wU
     let k := f.at_ 1 1
     let new := quarantined u = false ∧ dupFind f u = none
     (Received p 0 3 f s u) ∧ (new) ∧ (31 < k)) ∧
    (let p : Fin 3 := 0
     let f : Frame := wPso
     let s : State := wSlot 0 wPso wU
     let u : State := wTk wPso wU
     let k := f.at_ 1 1
     let new := quarantined u = false ∧ dupFind f u = none
     (Received p 0 3 f s u) ∧ (new) ∧ (k ≤ 31) ∧ (3 < f.at_ 0 1)) ∧
    (let p : Fin 3 := 0
     let f : Frame := wPse
     let s : State := wSlot 0 wPse wNo
     let u : State := wTk wPse wNo
     let k := f.at_ 1 1
     let w : Who := { cid := portBCid f.src, origin := f.src }
     let check : Nat → Except Cause Nat := fun op => accessCheck w (op != 0) (winAddr (0x7C00 + 4 * k)) 4 u
     let new := quarantined u = false ∧ dupFind f u = none
     let c := Cause.disabled
     (Received p 0 3 f s u) ∧ (new) ∧ (k ≤ 31) ∧ (f.at_ 0 1 ≤ 3) ∧ (check (f.at_ 0 1) = .error c)) :=
  ⟨⟨rec_of (by decide +kernel), by decide +kernel⟩,
   ⟨rec_of (by decide +kernel), by decide +kernel⟩,
   ⟨rec_of (by decide +kernel), by decide +kernel⟩⟩

/-- Witnesses for Obligations.ServingRequests. -/
theorem wit_ServingRequests_7 :
    (let p : Fin 3 := 0
     let f : Frame := wPse
     let s : State := wSlot 0 wPse wU
     let u : State := wTk wPse wU
     let k := f.at_ 1 1
     let w : Who := { cid := portBCid f.src, origin := f.src }
     let check : Nat → Except Cause Nat := fun op => accessCheck w (op != 0) (winAddr (0x7C00 + 4 * k)) 4 u
     let new := quarantined u = false ∧ dupFind f u = none
     let e := ((1, .take) : Nat × SemOp)
     (Received p 0 3 f s u) ∧ (e ∈ [(0, SemOp.try_), (1, .take), (2, .give), (3, .cancel)]) ∧ (new) ∧ (k ≤ 31) ∧
     (f.at_ 0 1 = e.1) ∧ ((check e.1).isOk = true)) ∧
    (let p : Fin 3 := 0
     let f : Frame := wPmb
     let s : State := wSlot 0 wPmb wZ
     let u : State := wTk wPmb wZ
     (Received p 0 4 f s u) ∧ (quarantined u = true)) ∧
    (let p : Fin 3 := 0
     let f : Frame := wPmf
     let s : State := wSlot 0 wPmf wDup
     let u : State := wTk wPmf wDup
     let m := f.at_ 0 1
     let w : Who := { cid := portBCid f.src, origin := f.src }
     let r := mailboxPostB w m (f.at_ 2 2) (f.at_ 1 1 % 64) [f.at_ 4 4, f.at_ 8 4, f.at_ 12 4] u
     let r := wF 1 2 [] 2 7 1
     (Received p 0 4 f s u) ∧ (quarantined u = false) ∧ (dupFind f u = some r)) :=
  ⟨⟨rec_of (by decide +kernel), by repeat (first | exact .head _ | apply List.Mem.tail), by decide +kernel⟩,
   ⟨rec_of (by decide +kernel), by decide +kernel⟩,
   ⟨rec_of (by decide +kernel), by decide +kernel⟩⟩

/-- Witnesses for Obligations.ServingRequests. -/
theorem wit_ServingRequests_8 :
    (let p : Fin 3 := 0
     let f : Frame := wPmk
     let s : State := wSlot 0 wPmk wU
     let u : State := wTk wPmk wU
     let m := f.at_ 0 1
     let new := quarantined u = false ∧ dupFind f u = none
     (Received p 0 4 f s u) ∧ (new) ∧ (31 < m)) ∧
    (let p : Fin 3 := 0
     let f : Frame := wPmb
     let s : State := wSlot 0 wPmb wMbs
     let u : State := wTk wPmb wMbs
     let m := f.at_ 0 1
     let w : Who := { cid := portBCid f.src, origin := f.src }
     let r := mailboxPostB w m (f.at_ 2 2) (f.at_ 1 1 % 64) [f.at_ 4 4, f.at_ 8 4, f.at_ 12 4] u
     let new := quarantined u = false ∧ dupFind f u = none
     let d := wA (wPmv wMbs)
     (Received p 0 4 f s u) ∧ (new) ∧ (m ≤ 31) ∧ (r.1 = .ok d)) ∧
    (let p : Fin 3 := 0
     let f : Frame := wPmb
     let s : State := wSlot 0 wPmb wNo
     let u : State := wTk wPmb wNo
     let m := f.at_ 0 1
     let w : Who := { cid := portBCid f.src, origin := f.src }
     let r := mailboxPostB w m (f.at_ 2 2) (f.at_ 1 1 % 64) [f.at_ 4 4, f.at_ 8 4, f.at_ 12 4] u
     let new := quarantined u = false ∧ dupFind f u = none
     let c := wCs (wPmv wNo)
     (Received p 0 4 f s u) ∧ (new) ∧ (m ≤ 31) ∧ (r.1 = .refused c)) :=
  ⟨⟨rec_of (by decide +kernel), by decide +kernel⟩,
   ⟨rec_of (by decide +kernel), by decide +kernel⟩,
   ⟨rec_of (by decide +kernel), by decide +kernel⟩⟩

/-- Witnesses for Obligations.SemaphoreEventsAndMessages, the clauses of RemoteSemaphoreEvents. -/
theorem wit_RemoteSemaphoreEvents_1 :
    (let p : Fin 3 := 1
     let f : Frame := wEv
     let s : State := wSlot 1 wEv wEv1
     let u : State := wTook 1 wEv (wSlot 1 wEv wEv1)
     (Received p 1 7 f s u) ∧ (u.chn.acked.contains (f.src, f.tag) = true)) ∧
    (let p : Fin 3 := 1
     let f : Frame := wEv
     let s : State := wSlot 1 wEv wU
     let u : State := wTook 1 wEv (wSlot 1 wEv wU)
     (Received p 1 7 f s u) ∧ (u.chn.acked.contains (f.src, f.tag) = false)) ∧
    (let p : Fin 3 := 1
     let f : Frame := wAk
     let s : State := wSlot 1 wAk (wSes wSe)
     let u : State := wTook 1 wAk (wSlot 1 wAk (wSes wSe))
     (Received p 1 8 f s u)) :=
  ⟨⟨rec_of (by decide +kernel), by decide +kernel⟩,
   ⟨rec_of (by decide +kernel), by decide +kernel⟩,
   rec_of (by decide +kernel)⟩

/-- Witnesses for Obligations.SemaphoreEventsAndMessages, the clauses of RemoteSemaphoreEvents. -/
theorem wit_RemoteSemaphoreEvents_2 :
    (let p : Fin 3 := 1
     let f : Frame := wPn
     let s : State := wSlot 1 wPn wU
     let u : State := wTook 1 wPn (wSlot 1 wPn wU)
     (Received p 1 9 f s u)) :=
  rec_of (by decide +kernel)

/-- Witnesses for Obligations.SemaphoreEventsAndMessages, the clauses of RemoteSemaphoreEvents. -/
theorem wit_RemoteSemaphoreEvents_3 :
    (let dst : BitVec 7 := 3#7
     let tag : Byte := 9#8
     let s : State := wSes { wSe with due := 5 }
     let found := s.chn.events.find? (fun e => e.dst == dst.toNat && e.tag == tag.toNat)
     let e : SemEvent := { wSe with due := 5 }
     (found = some e) ∧ (s.now < e.due)) ∧
    (let dst : BitVec 7 := 3#7
     let tag : Byte := 9#8
     let s : State := wSes { wSe with res := 9#32 }
     let found := s.chn.events.find? (fun e => e.dst == dst.toNat && e.tag == tag.toNat)
     let e : SemEvent := { wSe with res := 9#32 }
     (found = some e) ∧ (e.due ≤ s.now) ∧ (e.tries = 0) ∧ (e.res.toNat % 16 ≠ 1)) ∧
    (let dst : BitVec 7 := 3#7
     let tag : Byte := 9#8
     let s : State := (wSes wSe).setSem 101 { holders := [⟨1, 3, 0⟩] }
     let found := s.chn.events.find? (fun e => e.dst == dst.toNat && e.tag == tag.toNat)
     let e : SemEvent := wSe
     (found = some e) ∧ (e.due ≤ s.now) ∧ (e.tries = 0) ∧ (e.res.toNat % 16 = 1)) :=
  by decide +kernel

/-- Witnesses for Obligations.SemaphoreEventsAndMessages, the clauses of RemoteSemaphoreEvents. -/
theorem wit_RemoteSemaphoreEvents_4 :
    (let dst : BitVec 7 := 3#7
     let tag : Byte := 9#8
     let s : State := wSes { wSe with tries := 2 }
     let found := s.chn.events.find? (fun e => e.dst == dst.toNat && e.tag == tag.toNat)
     let e : SemEvent := { wSe with tries := 2 }
     (found = some e) ∧ (e.due ≤ s.now) ∧ (e.tries ≠ 0)) ∧
    (let dst : BitVec 7 := 3#7
     let tag : Byte := 9#8
     let s : State := wU
     let found := s.chn.events.find? (fun e => e.dst == dst.toNat && e.tag == tag.toNat)
     (found = none)) :=
  by decide +kernel

/-- Witnesses for Obligations.SemaphoreEventsAndMessages, the clauses of Messages. -/
theorem wit_Messages_1 :
    (let cid : Cid := 1#6
     let v : Word := 0x030A0005#32
     let s : State := wU
     let u : State := (poolTransit 1 5 32 wU.begin).2
     let h := v.toNat % 65536
     (poolTransit cid.toNat h 32 s.begin = (false, u)) ∧ (Admits cid true R.CHN_MSGSEND.addr s)) ∧
    (let cid : Cid := 1#6
     let v : Word := 0x0B0A0005#32
     let s : State := wOb
     let u : State := (poolTransit 1 5 32 wOb.begin).2
     let h := v.toNat % 65536
     let dst := fieldOf 24 7 v
     let mo : MsgOut := { rec_ := 32, handle := h, cid := cid.toNat }
     let w : State := { u with chn := { u.chn with msgOut := u.chn.msgOut ++ [mo] } }
     let c := 9
     (poolTransit cid.toNat h 32 s.begin = (true, u)) ∧ (Admits cid true R.CHN_MSGSEND.addr s) ∧ (issueCheck dst w = some c)) ∧
    (let cid : Cid := 1#6
     let v : Word := 0x030A0005#32
     let s : State := wOb
     let u : State := (poolTransit 1 5 32 wOb.begin).2
     let h := v.toNat % 65536
     let dst := fieldOf 24 7 v
     let mo : MsgOut := { rec_ := 32, handle := h, cid := cid.toNat }
     let w : State := { u with chn := { u.chn with msgOut := u.chn.msgOut ++ [mo] } }
     (poolTransit cid.toNat h 32 s.begin = (true, u)) ∧ (Admits cid true R.CHN_MSGSEND.addr s) ∧ (issueCheck dst w = none)) :=
  ⟨⟨pair_of (by decide +kernel) rfl, by decide +kernel⟩,
   ⟨pair_of (by decide +kernel) rfl, by decide +kernel⟩,
   ⟨pair_of (by decide +kernel) rfl, by decide +kernel⟩⟩

/-- Witnesses for Obligations.SemaphoreEventsAndMessages, the clauses of Messages. -/
theorem wit_Messages_2 :
    (let p : Fin 3 := 1
     let f : Frame := wMd
     let s : State := wSlot 1 wMd wMis
     let u : State := wTook 1 wMd (wSlot 1 wMd wMis)
     let open_ := u.chn.msgIn.find? (fun m => m.src == f.src && m.tag == f.tag)
     let m : MsgIn := wMi
     let b : Nat := 6
     let m' := { m with got := m.got + 1, due := msgDue u }
     (Received p 2 2 f s u) ∧ (open_ = some m) ∧ (m.bufs[m.got]? = some b)) ∧
    (let p : Fin 3 := 1
     let f : Frame := wMd
     let s : State := wMi0
     let u : State := wTook 1 wMd wMi0
     let open_ := u.chn.msgIn.find? (fun m => m.src == f.src && m.tag == f.tag)
     let m : MsgIn := { wMi with got := 0 }
     let b : Nat := 5
     let m' := { m with got := m.got + 1, due := msgDue u }
     (Received p 2 2 f s u) ∧ (open_ = some m) ∧ (m.bufs[m.got]? = some b)) ∧
    (let p : Fin 3 := 1
     let f : Frame := wMd
     let s : State := wSlot 1 wMd wU
     let u : State := wTook 1 wMd (wSlot 1 wMd wU)
     let open_ := u.chn.msgIn.find? (fun m => m.src == f.src && m.tag == f.tag)
     (Received p 2 2 f s u) ∧ (open_ = none)) :=
  ⟨⟨rec_of (by decide +kernel), by decide +kernel⟩,
   ⟨rec_of (by decide +kernel), by decide +kernel⟩,
   ⟨rec_of (by decide +kernel), by decide +kernel⟩⟩

/-- Witnesses for Obligations.SemaphoreEventsAndMessages, the clauses of Messages. -/
theorem wit_Messages_3 :
    (let p : Fin 3 := 1
     let x : Slot := wMx
     let s : State := wHe 5
     let f := x.f
     let held := s.chn.msgHeld.any (heldFor f)
     (slotFind p 2 1 s.begin = some x) ∧ (held = true)) ∧
    (let p : Fin 3 := 1
     let x : Slot := wMx
     let s : State := wNoB (wHe 5)
     let f := x.f
     let held := s.chn.msgHeld.any (heldFor f)
     (slotFind p 2 1 s.begin = some x) ∧ (held = true)) ∧
    (let p : Fin 3 := 1
     let x : Slot := wMx
     let s : State := wSlot 1 wMs wU
     let f := x.f
     let held := s.chn.msgHeld.any (heldFor f)
     (slotFind p 2 1 s.begin = some x) ∧ (held = false)) :=
  by decide +kernel

/-- Witnesses for Obligations.SemaphoreEventsAndMessages, the clauses of Messages. -/
theorem wit_Messages_4 :
    (let p : Fin 3 := 1
     let x : Slot := wMx
     let s : State := wSlot 1 wMs wZ
     (slotFind p 2 1 s.begin = some x) ∧ (quarantined s = true)) ∧
    (let p : Fin 3 := 1
     let x : Slot := wMf
     let s : State := wSlot 1 wMf.f wDupM
     let f := x.f
     let r := wF 1 2 [] 2 9 3
     (slotFind p 2 1 s.begin = some x) ∧ (quarantined s = false) ∧ (dupFind f s = some r)) ∧
    (let p : Fin 3 := 1
     let x : Slot := wMx
     let s : State := wSlot 1 wMs wU
     let f := x.f
     let open_ := s.chn.msgIn.find? (fun m => m.src == f.src && m.tag == f.tag)
     (slotFind p 2 1 s.begin = some x) ∧ (quarantined s = false) ∧ (dupFind f s = none) ∧ (open_ = none)) :=
  by decide +kernel

/-- Witnesses for Obligations.SemaphoreEventsAndMessages, the clauses of Messages. -/
theorem wit_Messages_5 :
    (let p : Fin 3 := 1
     let x : Slot := wMx
     let s : State := wNoB (wSlot 1 wMs wU)
     let f := x.f
     let open_ := s.chn.msgIn.find? (fun m => m.src == f.src && m.tag == f.tag)
     (slotFind p 2 1 s.begin = some x) ∧ (quarantined s = false) ∧ (dupFind f s = none) ∧ (open_ = none)) ∧
    (let p : Fin 3 := 1
     let x : Slot := wMx
     let s : State := wSlot 1 wMs wMis
     let f := x.f
     let open_ := s.chn.msgIn.find? (fun m => m.src == f.src && m.tag == f.tag)
     let m := wMi
     (slotFind p 2 1 s.begin = some x) ∧ (quarantined s = false) ∧ (dupFind f s = none) ∧ (open_ = some m)) ∧
    (let p : Fin 3 := 1
     let s : State := wU
     (slotFind p 2 1 s.begin = none)) :=
  by decide +kernel

/-- Witnesses for Obligations.SemaphoreEventsAndMessages, the clauses of Messages. -/
theorem wit_Messages_6 :
    (let p : Fin 3 := 1
     let x : Slot := wMx
     let s : State := wHe 0
     (slotFind p 2 1 s.begin = some x)) ∧
    (let p : Fin 3 := 1
     let x : Slot := wMx
     let s : State := wHe 5
     (slotFind p 2 1 s.begin = some x)) ∧
    (let src : BitVec 7 := 3#7
     let tag : Byte := 9#8
     let m : MsgIn := wMi
     let s : State := wMis
     (s.chn.msgIn.find? (fun m => m.src == src.toNat && m.tag == tag.toNat) = some m) ∧ (m.due ≤ s.now)) :=
  by decide +kernel

/-- Witnesses for Obligations.SemaphoreEventsAndMessages, the clauses of Messages. -/
theorem wit_Messages_7 :
    (let src : BitVec 7 := 3#7
     let tag : Byte := 9#8
     let m : MsgIn := { wMi with due := 5 }
     let s : State := wChn (fun g => { g with msgIn := [{ wMi with due := 5 }] }) wMis
     (s.chn.msgIn.find? (fun m => m.src == src.toNat && m.tag == tag.toNat) = some m) ∧ (s.now < m.due)) ∧
    (let cid : Cid := 1#6
     let s : State := wChn (fun g => { g with msgRes := [⟨5, 7, 1⟩] }) wU
     let r : MsgRes := ⟨5, 7, 1⟩
     let rs : List MsgRes := []
     (Admits cid false R.CHN_MSGRES.addr s) ∧ (s.chn.msgRes = r :: rs)) ∧
    (let cid : Cid := 1#6
     let s : State := wU
     (Admits cid false R.CHN_MSGRES.addr s) ∧ (s.chn.msgRes = [])) :=
  by decide +kernel

end Sys2Proof.Tests.T14

namespace Sys2Proof.Tests.T15
set_option Elab.async false
open Sys2Proof Sys2Proof.Machine Sys2Proof.Tests

def wR1 : State := wRelay (fun r => { r with srcLen := 4 }) (wSet [(F.SYS_BOOTSTAT_STATE, 8)])
def wR2 : State := wRelay (fun r => { r with requested := true }) (wSet [(F.SYS_STRAP_BOOTSRC, 0)])
def wMk : Frame := wF 3 0x1B [0,0,0,0,3,0,0,0]
def wJ (n l d : Nat) : State := wRelay (fun r => { r with joined := some n, imgLen := l, due := d })
def wDa (t : Nat := 0) : Frame := wF 3 0x1C [1,2,3,4] 1 t
def wEn : Frame := wF 3 0x1D [4,0,0,0,3,0,0,0]
def wMaint (o : Nat) : State := { wSet [(F.SYS_BOOTSTAT_STATE, 9), (F.CHN_MAINT_OPEN, o), (F.SYS_STRAP_BOOTSRC, 1), (F.CHN_ADDR_VALID, 1), (F.CHN_ADDR_ADDR, 2), (F.CHN_UPMAPLO_MAP, 1)] with flash := { sfdp := 0x50444653 } }
def wMo : Frame := wF 3 0x20 [0x54, 0x4D, 0, 0]
def wMop : State := wChn (fun c => { c with maintOp := some (.read 0 2) }) (wMaint 1)
def wMsrc : State := wSet [(F.SYS_STRAP_BOOTSRC, 0)] (wMaint 1)
def wFo (op : FlashOp) (d : Nat := 0) : State := wChn fun c => { c with maintOp := some op, maintDue := d }
def wHead (y : Sync → Sync := id) : State := (wSet [(F.CHN_ADDR_HEAD, 1), (F.CHN_ADDR_VALID, 1), (F.CHN_ADDR_ADDR, 1), (F.CHN_pSTAT_LINK 1, 1)]).updSync y
def wUnit (y : Sync → Sync := id) (l : List (Fld × Nat) := []) : State := (wSet ([(F.CHN_ADDR_VALID, 1), (F.CHN_ADDR_ADDR, 2), (F.CHN_UPMAPLO_MAP, 1), (F.CHN_pSTAT_LINK 0, 1), (F.CHN_pSTAT_LINK 1, 1)] ++ l)).updSync y
def wSy : Frame := wF 3 0x10 [0,0,0,0,0,0,0,0]
def wLim : List (Fld × Nat) := [(F.CHN_TRCFG2_STEPLIM, 1000)]
def wPr : Frame := wF 3 0x12 [0,0,0,0,0,0,0,0,1,0,0,0,0,0,0,0]

/-- Witnesses for Obligations.RelayRoundsAndFrames, the clauses of RelayFrames. -/
theorem wit_RelayFrames_1 :
    (let p : Fin 3 := 1
     let f : Frame := wF 3 0x18
     let s : State := wSlot 1 (wF 3 0x18) State.reset
     let u : State := wTook 1 (wF 3 0x18) (wSlot 1 (wF 3 0x18) State.reset)
     let r := u.chn.relay
     let boot := u.get F.SYS_BOOTSTAT_STATE
     (Received p 3 0x18 f s u) ∧ (boot ≠ 9) ∧ ((boot = 8 → r.srcLen ≠ 0 ∧ r.srcOk = true))) ∧
    (let p : Fin 3 := 1
     let f : Frame := wF 3 0x18
     let s : State := wSlot 1 (wF 3 0x18) (wSet [(F.SYS_BOOTSTAT_STATE, 9)])
     let u : State := wTook 1 (wF 3 0x18) (wSlot 1 (wF 3 0x18) (wSet [(F.SYS_BOOTSTAT_STATE, 9)]))
     let boot := u.get F.SYS_BOOTSTAT_STATE
     (Received p 3 0x18 f s u) ∧ (boot = 9)) ∧
    (let p : Fin 3 := 1
     let f : Frame := wF 3 0x18
     let s : State := wSlot 1 (wF 3 0x18) (wSet [(F.SYS_BOOTSTAT_STATE, 8)])
     let u : State := wTook 1 (wF 3 0x18) (wSlot 1 (wF 3 0x18) (wSet [(F.SYS_BOOTSTAT_STATE, 8)]))
     let r := u.chn.relay
     let boot := u.get F.SYS_BOOTSTAT_STATE
     (Received p 3 0x18 f s u) ∧ (boot = 8) ∧ (r.srcLen = 0)) :=
  ⟨⟨rec_of (by decide +kernel), by decide +kernel⟩,
   ⟨rec_of (by decide +kernel), by decide +kernel⟩,
   ⟨rec_of (by decide +kernel), by decide +kernel⟩⟩

/-- Witnesses for Obligations.RelayRoundsAndFrames, the clauses of RelayFrames. -/
theorem wit_RelayFrames_2 :
    (let p : Fin 3 := 1
     let f : Frame := wF 3 0x18
     let s : State := wSlot 1 (wF 3 0x18) wR1
     let u : State := wTook 1 (wF 3 0x18) (wSlot 1 (wF 3 0x18) wR1)
     let r := u.chn.relay
     let boot := u.get F.SYS_BOOTSTAT_STATE
     (Received p 3 0x18 f s u) ∧ (boot = 8) ∧ (r.srcLen ≠ 0) ∧ (r.srcOk = false)) ∧
    (let p : Fin 3 := 0
     let f : Frame := wF 3 0x19
     let s : State := wSlot 0 (wF 3 0x19) State.reset
     let u : State := wTook 0 (wF 3 0x19) (wSlot 0 (wF 3 0x19) State.reset)
     (Received p 3 0x19 f s u)) ∧
    (let p : Fin 3 := 0
     let f : Frame := wF 3 0x1A
     let s : State := wSlot 0 (wF 3 0x1A) wR2
     let u : State := wTook 0 (wF 3 0x1A) (wSlot 0 (wF 3 0x1A) wR2)
     let r := u.chn.relay
     (Received p 3 0x1A f s u) ∧ (r.requested = true) ∧ (u.on F.SYS_STRAP_BOOTSRC = false)) :=
  ⟨⟨rec_of (by decide +kernel), by decide +kernel⟩,
   rec_of (by decide +kernel),
   ⟨rec_of (by decide +kernel), by decide +kernel⟩⟩

/-- Witnesses for Obligations.RelayRoundsAndFrames, the clauses of RelayFrames. -/
theorem wit_RelayFrames_3 :
    (let p : Fin 3 := 0
     let f : Frame := wF 3 0x1A
     let s : State := wSlot 0 (wF 3 0x1A) State.reset
     let u : State := wTook 0 (wF 3 0x1A) (wSlot 0 (wF 3 0x1A) State.reset)
     let r := u.chn.relay
     (Received p 3 0x1A f s u) ∧ (r.requested = false ∨ u.on F.SYS_STRAP_BOOTSRC = true)) ∧
    (let p : Fin 3 := 0
     let f : Frame := wMk
     let s : State := wSlot 0 wMk (wJ 3 0 0)
     let u : State := wTook 0 wMk (wSlot 0 wMk (wJ 3 0 0))
     let r := u.chn.relay
     let n := 3
     let fits := f.at_ 4 4 = n ∧ f.at_ 0 4 = r.due ∧ r.due % 0x4000 = 0
     (Received p 3 0x1B f s u) ∧ (r.joined = some n) ∧ (fits)) ∧
    (let p : Fin 3 := 0
     let f : Frame := wMk
     let s : State := wSlot 0 wMk (wJ 2 0 0)
     let u : State := wTook 0 wMk (wSlot 0 wMk (wJ 2 0 0))
     let r := u.chn.relay
     let n := 2
     let fits := f.at_ 4 4 = n ∧ f.at_ 0 4 = r.due ∧ r.due % 0x4000 = 0
     (Received p 3 0x1B f s u) ∧ (r.joined = some n) ∧ (¬fits)) :=
  ⟨⟨rec_of (by decide +kernel), by decide +kernel⟩,
   ⟨rec_of (by decide +kernel), by decide +kernel⟩,
   ⟨rec_of (by decide +kernel), by decide +kernel⟩⟩

/-- Witnesses for Obligations.RelayRoundsAndFrames, the clauses of RelayFrames. -/
theorem wit_RelayFrames_4 :
    (let p : Fin 3 := 0
     let f : Frame := wDa
     let s : State := wSlot 0 wDa (wJ 3 4 0)
     let u : State := wTook 0 wDa (wSlot 0 wDa (wJ 3 4 0))
     let r := u.chn.relay
     let fits := r.base + 64 * f.tag = r.due ∧ r.due < r.base + 0x4000 ∧ r.due < r.imgLen ∧ f.data.length = min 64 (r.imgLen - r.due)
     (Received p 3 0x1C f s u) ∧ (r.joined.isSome = true) ∧ (fits)) ∧
    (let p : Fin 3 := 0
     let f : Frame := wDa 1
     let s : State := wSlot 0 (wDa 1) (wJ 3 4 0)
     let u : State := wTook 0 (wDa 1) (wSlot 0 (wDa 1) (wJ 3 4 0))
     let r := u.chn.relay
     let fits := r.base + 64 * f.tag = r.due ∧ r.due < r.base + 0x4000 ∧ r.due < r.imgLen ∧ f.data.length = min 64 (r.imgLen - r.due)
     (Received p 3 0x1C f s u) ∧ (r.joined.isSome = true) ∧ (¬fits)) ∧
    (let p : Fin 3 := 0
     let f : Frame := wEn
     let s : State := wSlot 0 wEn (wJ 3 4 4)
     let u : State := wTook 0 wEn (wSlot 0 wEn (wJ 3 4 4))
     let r := u.chn.relay
     let n := 3
     let fits := f.at_ 4 4 = n ∧ f.at_ 0 4 = r.imgLen ∧ r.due = r.imgLen
     (Received p 3 0x1D f s u) ∧ (r.joined = some n) ∧ (fits)) :=
  ⟨⟨rec_of (by decide +kernel), by decide +kernel⟩,
   ⟨rec_of (by decide +kernel), by decide +kernel⟩,
   ⟨rec_of (by decide +kernel), by decide +kernel⟩⟩

/-- Witnesses for Obligations.RelayRoundsAndFrames, the clauses of RelayFrames. -/
theorem wit_RelayFrames_5 :
    (let p : Fin 3 := 0
     let f : Frame := wEn
     let s : State := wSlot 0 wEn (wJ 3 4 0)
     let u : State := wTook 0 wEn (wSlot 0 wEn (wJ 3 4 0))
     let r := u.chn.relay
     let n := 3
     let fits := f.at_ 4 4 = n ∧ f.at_ 0 4 = r.imgLen ∧ r.due = r.imgLen
     (Received p 3 0x1D f s u) ∧ (r.joined = some n) ∧ (¬fits)) ∧
    (let p : Fin 3 := 0
     let f : Frame := wEn
     let s : State := wSlot 0 wEn State.reset
     let u : State := wTook 0 wEn (wSlot 0 wEn State.reset)
     let r := u.chn.relay
     let e := ((0x1D, Instr.relayend 0) : Nat × Instr)
     (e ∈ [(0x1B, Instr.relaymark p), (0x1C, .relaydata p), (0x1D, .relayend p)]) ∧ (Received p 3 e.1 f s u) ∧ (r.joined = none)) ∧
    (let p : Fin 3 := 0
     let s : State := State.reset
     let e := ((0x1D, Instr.relayend 0) : Nat × Instr)
     (e ∈ [(0x18, Instr.relayreq p), (0x19, .relayref p), (0x1A, .relaystart p), (0x1B, .relaymark p),
    (0x1C, .relaydata p), (0x1D, .relayend p)]) ∧
     (slotFind p 3 e.1 s.begin = none)) :=
  ⟨⟨rec_of (by decide +kernel), by decide +kernel⟩,
   ⟨by repeat (first | exact .head _ | apply List.Mem.tail), rec_of (by decide +kernel), by decide +kernel⟩,
   ⟨by repeat (first | exact .head _ | apply List.Mem.tail), by decide +kernel⟩⟩

/-- Witnesses for Obligations.RelayRoundsAndFrames, the clauses of RelayFrames. -/
theorem wit_RelayFrames_6 :
    (let s : State := wSet [(F.SYS_BOOTSTAT_STATE, 4)]
     let takes := s.get F.SYS_BOOTSTAT_STATE = 4 ∨ (s.get F.SYS_BOOTSTAT_STATE = 9 ∧ s.get F.SYS_BOOTSTAT_ERRA ≠ 0xF)
     (takes)) ∧
    (let s : State := wSet [(F.SYS_BOOTSTAT_STATE, 9), (F.SYS_BOOTSTAT_ERRA, 2)]
     let takes := s.get F.SYS_BOOTSTAT_STATE = 4 ∨ (s.get F.SYS_BOOTSTAT_STATE = 9 ∧ s.get F.SYS_BOOTSTAT_ERRA ≠ 0xF)
     (takes)) ∧
    (let s : State := wSet [(F.SYS_BOOTSTAT_STATE, 9), (F.SYS_BOOTSTAT_ERRA, 15)]
     let takes := s.get F.SYS_BOOTSTAT_STATE = 4 ∨ (s.get F.SYS_BOOTSTAT_STATE = 9 ∧ s.get F.SYS_BOOTSTAT_ERRA ≠ 0xF)
     (¬takes)) :=
  by decide +kernel

/-- Witnesses for Obligations.MaintenanceSessions. -/
theorem wit_MaintenanceSessions_1 :
    (let p : Fin 3 := 0
     let f : Frame := wMo
     let s : State := wSlot 0 wMo (wMaint 0)
     let u : State := wTook 0 wMo (wSlot 0 wMo (wMaint 0))
     let ok := maintOk p f u = true
     (Received p 3 0x20 f s u) ∧ (ok) ∧ (f.at_ 0 2 = 0x4D54)) ∧
    (let p : Fin 3 := 1
     let f : Frame := wMo
     let s : State := wSlot 1 wMo (wMaint 0)
     let u : State := wTook 1 wMo (wSlot 1 wMo (wMaint 0))
     let ok := maintOk p f u = true
     (Received p 3 0x20 f s u) ∧ (¬ok ∨ f.at_ 0 2 ≠ 0x4D54)) ∧
    (let p : Fin 3 := 0
     let f : Frame := wF 3 0x20 [0x55, 0x4D, 0, 0]
     let s : State := wSlot 0 (wF 3 0x20 [0x55, 0x4D, 0, 0]) (wMaint 0)
     let u : State := wTook 0 (wF 3 0x20 [0x55, 0x4D, 0, 0]) (wSlot 0 (wF 3 0x20 [0x55, 0x4D, 0, 0]) (wMaint 0))
     let ok := maintOk p f u = true
     (Received p 3 0x20 f s u) ∧ (¬ok ∨ f.at_ 0 2 ≠ 0x4D54)) :=
  ⟨⟨rec_of (by decide +kernel), by decide +kernel⟩,
   ⟨rec_of (by decide +kernel), by decide +kernel⟩,
   ⟨rec_of (by decide +kernel), by decide +kernel⟩⟩

/-- Witnesses for Obligations.MaintenanceSessions. -/
theorem wit_MaintenanceSessions_2 :
    (let p : Fin 3 := 0
     let f : Frame := wF 3 0x22 [0,0,0,0,60]
     let s : State := wSlot 0 (wF 3 0x22 [0,0,0,0,60]) (wMaint 1)
     let u : State := wTook 0 (wF 3 0x22 [0,0,0,0,60]) (wSlot 0 (wF 3 0x22 [0,0,0,0,60]) (wMaint 1))
     (Received p 3 0x22 f s u)) ∧
    (let p : Fin 3 := 0
     let f : Frame := wF 3 0x22 [0,0,0,0,61]
     let s : State := wSlot 0 (wF 3 0x22 [0,0,0,0,61]) (wMaint 1)
     let u : State := wTook 0 (wF 3 0x22 [0,0,0,0,61]) (wSlot 0 (wF 3 0x22 [0,0,0,0,61]) (wMaint 1))
     (Received p 3 0x22 f s u)) ∧
    (let p : Fin 3 := 0
     let f : Frame := wF 3 0x22 [0,0,0,0,0]
     let s : State := wSlot 0 (wF 3 0x22 [0,0,0,0,0]) (wMaint 1)
     let u : State := wTook 0 (wF 3 0x22 [0,0,0,0,0]) (wSlot 0 (wF 3 0x22 [0,0,0,0,0]) (wMaint 1))
     (Received p 3 0x22 f s u)) :=
  ⟨rec_of (by decide +kernel),
   rec_of (by decide +kernel),
   rec_of (by decide +kernel)⟩

/-- Witnesses for Obligations.MaintenanceSessions. -/
theorem wit_MaintenanceSessions_3 :
    (let p : Fin 3 := 0
     let f : Frame := wF 3 0x22 [0,0,0,0,1]
     let s : State := wSlot 0 (wF 3 0x22 [0,0,0,0,1]) (wMaint 0)
     let u : State := wTook 0 (wF 3 0x22 [0,0,0,0,1]) (wSlot 0 (wF 3 0x22 [0,0,0,0,1]) (wMaint 0))
     (Received p 3 0x22 f s u)) ∧
    (let p : Fin 3 := 1
     let f : Frame := wF 3 0x22 [0,0,0,0,1]
     let s : State := wSlot 1 (wF 3 0x22 [0,0,0,0,1]) (wMaint 1)
     let u : State := wTook 1 (wF 3 0x22 [0,0,0,0,1]) (wSlot 1 (wF 3 0x22 [0,0,0,0,1]) (wMaint 1))
     (Received p 3 0x22 f s u)) ∧
    (let p : Fin 3 := 0
     let f : Frame := wF 3 0x22 [0xFF,0xFF,0xFF,0,2]
     let s : State := wSlot 0 (wF 3 0x22 [0xFF,0xFF,0xFF,0,2]) (wMaint 1)
     let u : State := wTook 0 (wF 3 0x22 [0xFF,0xFF,0xFF,0,2]) (wSlot 0 (wF 3 0x22 [0xFF,0xFF,0xFF,0,2]) (wMaint 1))
     (Received p 3 0x22 f s u)) :=
  ⟨rec_of (by decide +kernel),
   rec_of (by decide +kernel),
   rec_of (by decide +kernel)⟩

/-- Witnesses for Obligations.MaintenanceSessions. -/
theorem wit_MaintenanceSessions_4 :
    (let p : Fin 3 := 0
     let f : Frame := wF 3 0x23 [0,0x10,0,0,0]
     let s : State := wSlot 0 (wF 3 0x23 [0,0x10,0,0,0]) (wMaint 1)
     let u : State := wTook 0 (wF 3 0x23 [0,0x10,0,0,0]) (wSlot 0 (wF 3 0x23 [0,0x10,0,0,0]) (wMaint 1))
     (Received p 3 0x23 f s u)) ∧
    (let p : Fin 3 := 0
     let f : Frame := wF 3 0x23 [0,0,1,0,1]
     let s : State := wSlot 0 (wF 3 0x23 [0,0,1,0,1]) (wMaint 1)
     let u : State := wTook 0 (wF 3 0x23 [0,0,1,0,1]) (wSlot 0 (wF 3 0x23 [0,0,1,0,1]) (wMaint 1))
     (Received p 3 0x23 f s u)) ∧
    (let p : Fin 3 := 0
     let f : Frame := wF 3 0x23 [0,0x10,0,0,1]
     let s : State := wSlot 0 (wF 3 0x23 [0,0x10,0,0,1]) (wMaint 1)
     let u : State := wTook 0 (wF 3 0x23 [0,0x10,0,0,1]) (wSlot 0 (wF 3 0x23 [0,0x10,0,0,1]) (wMaint 1))
     (Received p 3 0x23 f s u)) :=
  ⟨rec_of (by decide +kernel),
   rec_of (by decide +kernel),
   rec_of (by decide +kernel)⟩

/-- Witnesses for Obligations.MaintenanceSessions. -/
theorem wit_MaintenanceSessions_5 :
    (let p : Fin 3 := 0
     let f : Frame := wF 3 0x23 [0,0,0,0,2]
     let s : State := wSlot 0 (wF 3 0x23 [0,0,0,0,2]) (wMaint 1)
     let u : State := wTook 0 (wF 3 0x23 [0,0,0,0,2]) (wSlot 0 (wF 3 0x23 [0,0,0,0,2]) (wMaint 1))
     (Received p 3 0x23 f s u)) ∧
    (let p : Fin 3 := 0
     let f : Frame := wF 3 0x24 [0xFF,0,0,0,9]
     let s : State := wSlot 0 (wF 3 0x24 [0xFF,0,0,0,9]) (wMaint 1)
     let u : State := wTook 0 (wF 3 0x24 [0xFF,0,0,0,9]) (wSlot 0 (wF 3 0x24 [0xFF,0,0,0,9]) (wMaint 1))
     (Received p 3 0x24 f s u)) ∧
    (let p : Fin 3 := 0
     let f : Frame := wF 3 0x24 [0xFF,0,0,0,9,9]
     let s : State := wSlot 0 (wF 3 0x24 [0xFF,0,0,0,9,9]) (wMaint 1)
     let u : State := wTook 0 (wF 3 0x24 [0xFF,0,0,0,9,9]) (wSlot 0 (wF 3 0x24 [0xFF,0,0,0,9,9]) (wMaint 1))
     (Received p 3 0x24 f s u)) :=
  ⟨rec_of (by decide +kernel),
   rec_of (by decide +kernel),
   rec_of (by decide +kernel)⟩

/-- Witnesses for Obligations.MaintenanceSessions. -/
theorem wit_MaintenanceSessions_6 :
    (let p : Fin 3 := 0
     let f : Frame := wF 3 0x22 [0,0,0,0,60]
     let s : State := wSlot 0 (wF 3 0x22 [0,0,0,0,60]) wMop
     let u : State := wTook 0 (wF 3 0x22 [0,0,0,0,60]) (wSlot 0 (wF 3 0x22 [0,0,0,0,60]) wMop)
     (Received p 3 0x22 f s u)) ∧
    (let p : Fin 3 := 0
     let f : Frame := wF 3 0x24 [0xFF,0,0,0,9]
     let s : State := wSlot 0 (wF 3 0x24 [0xFF,0,0,0,9]) wMsrc
     let u : State := wTook 0 (wF 3 0x24 [0xFF,0,0,0,9]) (wSlot 0 (wF 3 0x24 [0xFF,0,0,0,9]) wMsrc)
     (Received p 3 0x24 f s u)) ∧
    (let p : Fin 3 := 0
     let f : Frame := wF 3 0x21 [1]
     let s : State := wSlot 0 (wF 3 0x21 [1]) (wMaint 1)
     let u : State := wTook 0 (wF 3 0x21 [1]) (wSlot 0 (wF 3 0x21 [1]) (wMaint 1))
     let ok := maintOk p f u = true
     let held := u.on F.CHN_MAINT_OPEN = true
     (Received p 3 0x21 f s u) ∧ (ok) ∧ (held) ∧ (f.at_ 0 1 = 1)) :=
  ⟨rec_of (by decide +kernel),
   rec_of (by decide +kernel),
   ⟨rec_of (by decide +kernel), by decide +kernel⟩⟩

/-- Witnesses for Obligations.MaintenanceSessions. -/
theorem wit_MaintenanceSessions_7 :
    (let p : Fin 3 := 0
     let f : Frame := wF 3 0x21 [2]
     let s : State := wSlot 0 (wF 3 0x21 [2]) (wMaint 1)
     let u : State := wTook 0 (wF 3 0x21 [2]) (wSlot 0 (wF 3 0x21 [2]) (wMaint 1))
     let ok := maintOk p f u = true
     let held := u.on F.CHN_MAINT_OPEN = true
     (Received p 3 0x21 f s u) ∧ (ok) ∧ (held) ∧ (f.at_ 0 1 = 2)) ∧
    (let p : Fin 3 := 0
     let f : Frame := wF 3 0x21 [0]
     let s : State := wSlot 0 (wF 3 0x21 [0]) (wMaint 1)
     let u : State := wTook 0 (wF 3 0x21 [0]) (wSlot 0 (wF 3 0x21 [0]) (wMaint 1))
     let ok := maintOk p f u = true
     let held := u.on F.CHN_MAINT_OPEN = true
     (Received p 3 0x21 f s u) ∧ (ok) ∧ (held) ∧ (f.at_ 0 1 ≠ 1) ∧ (f.at_ 0 1 ≠ 2)) ∧
    (let p : Fin 3 := 0
     let f : Frame := wF 3 0x21 [3]
     let s : State := wSlot 0 (wF 3 0x21 [3]) (wMaint 1)
     let u : State := wTook 0 (wF 3 0x21 [3]) (wSlot 0 (wF 3 0x21 [3]) (wMaint 1))
     let ok := maintOk p f u = true
     let held := u.on F.CHN_MAINT_OPEN = true
     (Received p 3 0x21 f s u) ∧ (ok) ∧ (held) ∧ (f.at_ 0 1 ≠ 1) ∧ (f.at_ 0 1 ≠ 2)) :=
  ⟨⟨rec_of (by decide +kernel), by decide +kernel⟩,
   ⟨rec_of (by decide +kernel), by decide +kernel⟩,
   ⟨rec_of (by decide +kernel), by decide +kernel⟩⟩

/-- Witnesses for Obligations.MaintenanceSessions. -/
theorem wit_MaintenanceSessions_8 :
    (let p : Fin 3 := 0
     let f : Frame := wF 3 0x21 [0]
     let s : State := wSlot 0 (wF 3 0x21 [0]) (wMaint 0)
     let u : State := wTook 0 (wF 3 0x21 [0]) (wSlot 0 (wF 3 0x21 [0]) (wMaint 0))
     let ok := maintOk p f u = true
     let held := u.on F.CHN_MAINT_OPEN = true
     (Received p 3 0x21 f s u) ∧ (ok) ∧ (¬held)) ∧
    (let p : Fin 3 := 1
     let f : Frame := wF 3 0x21 [0]
     let s : State := wSlot 1 (wF 3 0x21 [0]) (wMaint 1)
     let u : State := wTook 1 (wF 3 0x21 [0]) (wSlot 1 (wF 3 0x21 [0]) (wMaint 1))
     let ok := maintOk p f u = true
     (Received p 3 0x21 f s u) ∧ (¬ok)) ∧
    (let p : Fin 3 := 0
     let s : State := State.reset
     let e := ((0x20, Instr.mopen 0) : Nat × Instr)
     (e ∈ [(0x20, Instr.mopen p), (0x21, .mclose p), (0x22, .mread p), (0x23, .merase p), (0x24, .mprog p)]) ∧
     (slotFind p 3 e.1 s.begin = none)) :=
  ⟨⟨rec_of (by decide +kernel), by decide +kernel⟩,
   ⟨rec_of (by decide +kernel), by decide +kernel⟩,
   ⟨by repeat (first | exact .head _ | apply List.Mem.tail), by decide +kernel⟩⟩

/-- Witnesses for Obligations.MaintenanceSessions. -/
theorem wit_MaintenanceSessions_9 :
    (let p : Fin 3 := 0
     let f : Frame := wMo
     let u : State := wTook 0 wMo (wSlot 0 wMo (wMaint 0))
     let ok := maintOk p f u = true
     (ok)) ∧
    (let p : Fin 3 := 1
     let f : Frame := wMo
     let u : State := wTook 1 wMo (wSlot 1 wMo (wMaint 0))
     let ok := maintOk p f u = true
     (¬ok)) ∧
    (let op : FlashOp := .erase 0 0x1000
     let s : State := wFo (.erase 0 0x1000)
     let polls := flashLimit op ≠ 0
     (s.chn.maintOp = some op) ∧ (polls) ∧ (s.chn.maintDue ≤ s.now)) :=
  by decide +kernel

/-- Witnesses for Obligations.MaintenanceSessions. -/
theorem wit_MaintenanceSessions_10 :
    (let op : FlashOp := .erase 0 0x1000
     let s : State := wFo (.erase 0 0x1000) 5
     let polls := flashLimit op ≠ 0
     (s.chn.maintOp = some op) ∧ (¬polls ∨ s.now < s.chn.maintDue)) ∧
    (let op : FlashOp := .read 0 2
     let s : State := wFo (.read 0 2)
     let polls := flashLimit op ≠ 0
     (s.chn.maintOp = some op) ∧ (¬polls ∨ s.now < s.chn.maintDue)) ∧
    (let op : FlashOp := .read 0 2
     let s : State := wFo (.read 0 2)
     let off := 0
     let n := 2
     (s.chn.maintOp = some op) ∧ (op = .read off n)) :=
  by decide +kernel

/-- Witnesses for Obligations.MaintenanceSessions. -/
theorem wit_MaintenanceSessions_11 :
    (let op : FlashOp := .erase 0 0x1000
     let s : State := wFo (.erase 0 0x1000)
     let off := 0
     let n := 0x1000
     (s.chn.maintOp = some op) ∧ (op = .erase off n)) ∧
    (let op : FlashOp := .prog 0 [1]
     let s : State := wFo (.prog 0 [1])
     let off := 0
     let d := [1]
     (s.chn.maintOp = some op) ∧ (op = .prog off d)) ∧
    (let s : State := State.reset
     (s.chn.maintOp = none)) :=
  by decide +kernel

/-- Witnesses for Obligations.MaintenanceSessions. -/
theorem wit_MaintenanceSessions_12 :
    (let s : State := wMaint 1
     let go := s.on F.CHN_MAINT_OPEN = true ∧ s.chn.maintAt ≤ s.now
     (go)) ∧
    (let s : State := wChn (fun c => { c with maintAt := 5 }) (wMaint 1)
     let go := s.on F.CHN_MAINT_OPEN = true ∧ s.chn.maintAt ≤ s.now
     (¬go)) :=
  by decide +kernel

/-- Witnesses for Obligations.ChainTime. -/
theorem wit_ChainTime_1 :
    (let p : Fin 3 := 0
     let tb16 : Nat := 16777216
     let f : Frame := wSy
     let s : State := wSlot 0 wSy wUnit
     let u : State := wTook 0 wSy (wSlot 0 wSy wUnit)
     let theta : Int := (stampFine tb16 u : Int) - (16 * (f.at_ 0 8 : Int) + (BitVec.ofNat 32 (f.at_ 8 4)).toInt + (u.word R.CHN_TLINKDLY).toInt)
     let here := isHead u = false ∧ p.val = (headPort u).val
     (Received p 3 0x10 f s u) ∧ (here) ∧ (16 * (u.get F.CHN_TRCFG2_STEPLIM : Int) < theta.natAbs)) ∧
    (let p : Fin 3 := 0
     let tb16 : Nat := 300
     let f : Frame := wSy
     let s : State := wSlot 0 wSy (wUnit id wLim)
     let u : State := wTook 0 wSy (wSlot 0 wSy (wUnit id wLim))
     let theta : Int := (stampFine tb16 u : Int) - (16 * (f.at_ 0 8 : Int) + (BitVec.ofNat 32 (f.at_ 8 4)).toInt + (u.word R.CHN_TLINKDLY).toInt)
     let here := isHead u = false ∧ p.val = (headPort u).val
     (Received p 3 0x10 f s u) ∧ (here) ∧ (theta.natAbs ≤ 16 * u.get F.CHN_TRCFG2_STEPLIM)) ∧
    (let p : Fin 3 := 0
     let tb16 : Nat := 300
     let f : Frame := wSy
     let s : State := wSlot 0 wSy (wUnit (fun y => { y with good := 7, f := -5 }) wLim)
     let u : State := wTook 0 wSy (wSlot 0 wSy (wUnit (fun y => { y with good := 7, f := -5 }) wLim))
     let theta : Int := (stampFine tb16 u : Int) - (16 * (f.at_ 0 8 : Int) + (BitVec.ofNat 32 (f.at_ 8 4)).toInt + (u.word R.CHN_TLINKDLY).toInt)
     let here := isHead u = false ∧ p.val = (headPort u).val
     (Received p 3 0x10 f s u) ∧ (here) ∧ (theta.natAbs ≤ 16 * u.get F.CHN_TRCFG2_STEPLIM)) :=
  ⟨⟨rec_of (by decide +kernel), by decide +kernel⟩,
   ⟨rec_of (by decide +kernel), by decide +kernel⟩,
   ⟨rec_of (by decide +kernel), by decide +kernel⟩⟩

/-- Witnesses for Obligations.ChainTime. -/
theorem wit_ChainTime_2 :
    (let p : Fin 3 := 0
     let tb16 : Nat := 16001
     let f : Frame := wSy
     let s : State := wSlot 0 wSy (wUnit id wLim)
     let u : State := wTook 0 wSy (wSlot 0 wSy (wUnit id wLim))
     let theta : Int := (stampFine tb16 u : Int) - (16 * (f.at_ 0 8 : Int) + (BitVec.ofNat 32 (f.at_ 8 4)).toInt + (u.word R.CHN_TLINKDLY).toInt)
     let here := isHead u = false ∧ p.val = (headPort u).val
     (Received p 3 0x10 f s u) ∧ (here) ∧ (theta.natAbs ≤ 16 * u.get F.CHN_TRCFG2_STEPLIM)) ∧
    (let p : Fin 3 := 0
     let f : Frame := wSy
     let s : State := wSlot 0 wSy wHead
     let u : State := wTook 0 wSy (wSlot 0 wSy wHead)
     let here := isHead u = false ∧ p.val = (headPort u).val
     (Received p 3 0x10 f s u) ∧ (¬here)) ∧
    (let p : Fin 3 := 1
     let f : Frame := wSy
     let s : State := wSlot 1 wSy wUnit
     let u : State := wTook 1 wSy (wSlot 1 wSy wUnit)
     let here := isHead u = false ∧ p.val = (headPort u).val
     (Received p 3 0x10 f s u) ∧ (¬here)) :=
  ⟨⟨rec_of (by decide +kernel), by decide +kernel⟩,
   ⟨rec_of (by decide +kernel), by decide +kernel⟩,
   ⟨rec_of (by decide +kernel), by decide +kernel⟩⟩

/-- Witnesses for Obligations.ChainTime. -/
theorem wit_ChainTime_3 :
    (let p : Fin 2 := 0
     let f : Frame := wF 3 0x11 [] 0
     let s : State := wSlot 0 (wF 3 0x11 [] 0) wUnit
     let u : State := wTook 0 (wF 3 0x11 [] 0) (wSlot 0 (wF 3 0x11 [] 0) wUnit)
     (Received p 3 0x11 f s u)) ∧
    (let f : Frame := wF 3 0x11 [] 0
     let s : State := wSlot 2 (wF 3 0x11 [] 0) wUnit
     let u : State := wTook 2 (wF 3 0x11 [] 0) (wSlot 2 (wF 3 0x11 [] 0) wUnit)
     (Received 2 3 0x11 f s u)) ∧
    (let p : Fin 3 := 0
     let f : Frame := wPr
     let s : State := wSlot 0 wPr (wUnit fun y => { y with t1 := some 0, delays := [1, -2, 3, 4] })
     let u : State := wTook 0 wPr (wSlot 0 wPr (wUnit fun y => { y with t1 := some 0, delays := [1, -2, 3, 4] }))
     let t1 : Nat := 0
     (Received p 3 0x12 f s u) ∧ (u.chn.sync.t1 = some t1) ∧ (f.tag = u.chn.sync.pdTag)) :=
  ⟨rec_of (by decide +kernel),
   rec_of (by decide +kernel),
   ⟨rec_of (by decide +kernel), by decide +kernel⟩⟩

/-- Witnesses for Obligations.ChainTime. -/
theorem wit_ChainTime_4 :
    (let p : Fin 3 := 0
     let f : Frame := wPr
     let s : State := wSlot 0 wPr wUnit
     let u : State := wTook 0 wPr (wSlot 0 wPr wUnit)
     (Received p 3 0x12 f s u) ∧ (u.chn.sync.t1 = none ∨ f.tag ≠ u.chn.sync.pdTag)) ∧
    (let p : Fin 3 := 0
     let tb16 : Nat := 5
     let s : State := State.reset
     let e := ((0x12, Instr.pdrsp 0) : Nat × Instr)
     (e ∈ [(0x10, Instr.syncReceive p tb16), (0x11, .pdreq p), (0x12, .pdrsp p)]) ∧ (slotFind p 3 e.1 s.begin = none)) :=
  ⟨⟨rec_of (by decide +kernel), by decide +kernel⟩,
   ⟨by repeat (first | exact .head _ | apply List.Mem.tail), by decide +kernel⟩⟩

/-- Witnesses for Obligations.ChainTime. -/
theorem wit_ChainTime_5 :
    (let s : State := wHead fun y => { y with since := 10 ^ 9, stepNext := true }
     let y := s.chn.sync
     let go := isHead s = true ∧ syncPeriod s ≤ y.since
     (go)) ∧
    (let s : State := wHead
     let y := s.chn.sync
     let go := isHead s = true ∧ syncPeriod s ≤ y.since
     (¬go)) ∧
    (let s : State := wUnit id [(F.CHN_TSTAT_MISSED, 255)]
     let go := isHead s = false ∧ s.chn.sync.lost = false ∧ s.get F.CHN_TRCFG1_SYNCLOST ≤ s.get F.CHN_TSTAT_MISSED
     (go)) :=
  by decide +kernel

/-- Witnesses for Obligations.ChainTime. -/
theorem wit_ChainTime_6 :
    (let s : State := wUnit (fun y => { y with lost := true })
     let go := isHead s = false ∧ s.chn.sync.lost = false ∧ s.get F.CHN_TRCFG1_SYNCLOST ≤ s.get F.CHN_TSTAT_MISSED
     (¬go)) ∧
    (let s : State := wUnit fun y => { y with pdSince := 10 ^ 9, pdTag := 255 }
     let go := isHead s = false ∧ ownAddr s ≠ 0 ∧ 2 ^ s.get F.CHN_TRCFG1_PDINT * syncPeriod s ≤ s.chn.sync.pdSince
     (go)) ∧
    (let s : State := wUnit
     let go := isHead s = false ∧ ownAddr s ≠ 0 ∧ 2 ^ s.get F.CHN_TRCFG1_PDINT * syncPeriod s ≤ s.chn.sync.pdSince
     (¬go)) :=
  by decide +kernel

/-- Witnesses for Obligations.ChainTime. -/
theorem wit_ChainTime_7 :
    (let s : State := wHead
     (isHead s = true) ∧ (Admits 1 true R.CHN_TSETHI.addr s) ∧ (Admits 1 true R.CHN_TSETLO.addr s)) ∧
    (let cid : Cid := 1#6
     let s : State := wUnit
     (isHead s = false ∨ cid ≠ 1) ∧ (Admits cid true R.CHN_TSETHI.addr s) ∧ (Admits cid true R.CHN_TSETLO.addr s)) :=
  by decide +kernel

end Sys2Proof.Tests.T15

namespace Sys2Proof.Tests.T16
set_option Elab.async false
open Sys2Proof Sys2Proof.Machine Sys2Proof.Tests

def wGov : State := { wSet [(F.SYS_GOVSTAT_VTGT, 900), (F.SYS_GOVLIM_VMAX, 1050), (F.SYS_GOVLIM_VMIN, 600), (F.SYS_GOVCFG_TARGET, 20), (F.SYS_GOVCFG_EMERG, 5), (F.SYS_GOVCFG_HYST, 10)] with gov := { released := true }, sched := #v[{ ctl := 1 }, {}] }
def wGovEnd : State := { wGov with gov := { released := true, closed := #v[63, 0], allHigh := true } }
def wPol : State := wSet [(F.SYS_POLLATCH_LATCH, 3), (F.SYS_POLSTAT_TRIG, 1)]
def wRamp : State := { wSet [(F.SYS_POLRAMP_REMAIN, 0)] with pol := { rampOn := true } }
def wArmed : List (Fld × Nat) := [(F.PWM_LnSTAT_STATE 0 0, 2), (F.SYS_POLIMG 6, 0x100)]
def wRampArmed : State := wSet wArmed wRamp

/-- Witnesses for Obligations.GovernorAndPolicy, the clauses of GovernorMovesTarget. -/
theorem wit_GovernorMovesTarget_1 :
    (let c : Fin 2 := 0
     let v : Int := -32768
     let lsper : Nat := 1000
     let s : State := wGov
     let runs := s.gov.released = true ∧ s.on F.SYS_GOVSET_MODE = false ∧ governed c s = true
     let emg : Int := (s.get F.SYS_GOVCFG_EMERG * lsper / 100 : Nat)
     (runs) ∧ (v = -32768 ∨ v < emg)) ∧
    (let c : Fin 2 := 0
     let v : Int := 49
     let lsper : Nat := 1000
     let s : State := wGov
     let runs := s.gov.released = true ∧ s.on F.SYS_GOVSET_MODE = false ∧ governed c s = true
     let emg : Int := (s.get F.SYS_GOVCFG_EMERG * lsper / 100 : Nat)
     (runs) ∧ (v = -32768 ∨ v < emg)) ∧
    (let c : Fin 2 := 0
     let v : Int := 50
     let lsper : Nat := 1000
     let s : State := wGov
     let runs := s.gov.released = true ∧ s.on F.SYS_GOVSET_MODE = false ∧ governed c s = true
     let tgt := s.get F.SYS_GOVCFG_TARGET
     let emg : Int := (s.get F.SYS_GOVCFG_EMERG * lsper / 100 : Nat)
     let thr : Int := (tgt * lsper / 100 : Nat)
     (runs) ∧ (v ≠ -32768) ∧ (emg ≤ v) ∧ (v < thr)) :=
  by decide +kernel

/-- Witnesses for Obligations.GovernorAndPolicy, the clauses of GovernorMovesTarget. -/
theorem wit_GovernorMovesTarget_2 :
    (let c : Fin 2 := 0
     let v : Int := 199
     let lsper : Nat := 1000
     let s : State := wGov
     let runs := s.gov.released = true ∧ s.on F.SYS_GOVSET_MODE = false ∧ governed c s = true
     let tgt := s.get F.SYS_GOVCFG_TARGET
     let emg : Int := (s.get F.SYS_GOVCFG_EMERG * lsper / 100 : Nat)
     let thr : Int := (tgt * lsper / 100 : Nat)
     (runs) ∧ (v ≠ -32768) ∧ (emg ≤ v) ∧ (v < thr)) ∧
    (let c : Fin 2 := 0
     let v : Int := 200
     let lsper : Nat := 1000
     let s : State := wGov
     let runs := s.gov.released = true ∧ s.on F.SYS_GOVSET_MODE = false ∧ governed c s = true
     let tgt := s.get F.SYS_GOVCFG_TARGET
     let emg : Int := (s.get F.SYS_GOVCFG_EMERG * lsper / 100 : Nat)
     let thr : Int := (tgt * lsper / 100 : Nat)
     let done := vupd s.gov.closed c (· + 1)
     let full := (governed 0 s = true → 64 ≤ done.get 0) ∧ (governed 1 s = true → 64 ≤ done.get 1)
     (runs) ∧ (v ≠ -32768) ∧ (emg ≤ v) ∧ (thr ≤ v) ∧ (¬full)) ∧
    (let c : Fin 2 := 0
     let v : Int := 300
     let lsper : Nat := 1000
     let s : State := wGovEnd
     let runs := s.gov.released = true ∧ s.on F.SYS_GOVSET_MODE = false ∧ governed c s = true
     let tgt := s.get F.SYS_GOVCFG_TARGET
     let emg : Int := (s.get F.SYS_GOVCFG_EMERG * lsper / 100 : Nat)
     let thr : Int := (tgt * lsper / 100 : Nat)
     let done := vupd s.gov.closed c (· + 1)
     let full := (governed 0 s = true → 64 ≤ done.get 0) ∧ (governed 1 s = true → 64 ≤ done.get 1)
     (runs) ∧ (v ≠ -32768) ∧ (emg ≤ v) ∧ (thr ≤ v) ∧ (full)) :=
  by decide +kernel

/-- Witnesses for Obligations.GovernorAndPolicy, the clauses of GovernorMovesTarget. -/
theorem wit_GovernorMovesTarget_3 :
    (let c : Fin 2 := 0
     let v : Int := 299
     let lsper : Nat := 1000
     let s : State := wGovEnd
     let runs := s.gov.released = true ∧ s.on F.SYS_GOVSET_MODE = false ∧ governed c s = true
     let tgt := s.get F.SYS_GOVCFG_TARGET
     let emg : Int := (s.get F.SYS_GOVCFG_EMERG * lsper / 100 : Nat)
     let thr : Int := (tgt * lsper / 100 : Nat)
     let done := vupd s.gov.closed c (· + 1)
     let full := (governed 0 s = true → 64 ≤ done.get 0) ∧ (governed 1 s = true → 64 ≤ done.get 1)
     (runs) ∧ (v ≠ -32768) ∧ (emg ≤ v) ∧ (thr ≤ v) ∧ (full)) ∧
    (let c : Fin 2 := 1
     let s : State := wGov
     let runs := s.gov.released = true ∧ s.on F.SYS_GOVSET_MODE = false ∧ governed c s = true
     (¬runs)) ∧
    (let s : State := { wGov with now := 10 ^ 7 }
     let soon := s.gov.emerg = false ∧ s.now < s.gov.movedAt + 2000 * ((s.get F.SYS_GOVSTAT_VTGT : Int) - s.gov.vcore).natAbs
     (¬soon)) :=
  by decide +kernel

/-- Witnesses for Obligations.GovernorAndPolicy, the clauses of GovernorMovesTarget. -/
theorem wit_GovernorMovesTarget_4 :
    (let s : State := { wSet [(F.SYS_GOVSTAT_STATE, 3)] with gov := { emerg := true } }
     let soon := s.gov.emerg = false ∧ s.now < s.gov.movedAt + 2000 * ((s.get F.SYS_GOVSTAT_VTGT : Int) - s.gov.vcore).natAbs
     (¬soon)) ∧
    (let s : State := { wSet [(F.SYS_GOVSTAT_VTGT, 1000)] with gov := { vcore := 900, movedAt := 5 } }
     let soon := s.gov.emerg = false ∧ s.now < s.gov.movedAt + 2000 * ((s.get F.SYS_GOVSTAT_VTGT : Int) - s.gov.vcore).natAbs
     (soon)) :=
  by decide +kernel

/-- Witnesses for Obligations.GovernorAndPolicy, the clauses of PolicyActs. -/
theorem wit_PolicyActs_1 :
    (let b : Nat := 4
     (b < 9)) ∧
    (let b : Nat := 8
     (b < 9)) ∧
    (let b : Nat := 4
     let s : State := State.reset
     (b < 9) ∧ (2 ≤ polAction b s) ∧ (s.bit F.SYS_POLSTAT_TRIG b = false)) :=
  by decide +kernel

/-- Witnesses for Obligations.GovernorAndPolicy, the clauses of PolicyActs. -/
theorem wit_PolicyActs_2 :
    (let b : Nat := 0
     let s : State := wPol
     let c := 1
     (b < 9) ∧ (s.bit F.SYS_POLLATCH_LATCH c = true)) ∧
    (let b : Nat := 4
     let l : Nat := 0
     let s : State := wSet wArmed
     (b < 9) ∧ (l < 16) ∧ (polAction b s = 3) ∧ (s.get F.SYS_POLSTAT_ACTION ≠ 3) ∧ (inScope (legGroup l s) s = true) ∧
     (legArmed l s = true)) ∧
    (let cid : Cid := 1#6
     let w : Word := 0xFFFFFFFF#32
     let s : State := wPol
     let clears := cid = 1 ∧ fieldOf 0 1 w = 1
     (Admits cid true R.SYS_POLCTL.addr s) ∧ (clears)) :=
  by decide +kernel

/-- Witnesses for Obligations.GovernorAndPolicy, the clauses of PolicyActs. -/
theorem wit_PolicyActs_3 :
    (let cid : Cid := 1#6
     let w : Word := 0xFFFFFFFE#32
     let s : State := wPol
     let clears := cid = 1 ∧ fieldOf 0 1 w = 1
     (Admits cid true R.SYS_POLCTL.addr s) ∧ (cid.toNat ≤ 1) ∧ (¬clears)) ∧
    (let cid : Cid := 20#6
     let s : State := wSet [(F.SYS_CIDEN_EN 0, 0x100002), (F.SYS_ACCWLO_MASK 16, 0x100002)] wPol
     (Admits cid true R.SYS_POLCTL.addr s) ∧ (2 ≤ cid.toNat)) ∧
    (let s : State := wRampArmed
     let due := s.pol.rampOn = true ∧ s.get F.SYS_POLRAMP_REMAIN = 0
     let t : State := { s.begin with pol := { s.pol with rampOn := false } }
     (due) ∧ ((∃ l < 16, legArmed l t = true ∧ inScope (legGroup l t) t = true))) :=
  by decide +kernel

/-- Witnesses for Obligations.GovernorAndPolicy, the clauses of PolicyActs. -/
theorem wit_PolicyActs_4 :
    (let s : State := wRamp
     let due := s.pol.rampOn = true ∧ s.get F.SYS_POLRAMP_REMAIN = 0
     let t : State := { s.begin with pol := { s.pol with rampOn := false } }
     (due) ∧ ((∀ l < 16, ¬ (legArmed l t = true ∧ inScope (legGroup l t) t = true)))) ∧
    (let s : State := wSet [(F.SYS_POLRAMP_REMAIN, 1)] wRamp
     let due := s.pol.rampOn = true ∧ s.get F.SYS_POLRAMP_REMAIN = 0
     (¬due)) ∧
    (let x : Int := 1
     let y : Int := 2
     let a : Int := 0
     let b : Int := 3
     let lo : Nat := 100
     (a < b) ∧ (lo ≤ 0x7FFF) ∧ (x ≤ y)) :=
  by decide +kernel

end Sys2Proof.Tests.T16

namespace Sys2Proof.Tests.T17
set_option Elab.async false
open Sys2Proof Sys2Proof.Machine Sys2Proof.Tests

def wLcB (fs : List (Fld × Nat) := []) : State := wSet ([(F.SYS_CIDEN_EN 0, 0x103), (F.SYS_ACCWLO_MASK 31, 0x103)] ++ fs)
def wLc (n : Nat) (fs : List (Fld × Nat) := []) : State := { wLcB ([(F.LCS_STATE_STATE, n)] ++ fs) with lcs := { fuses := { keyProg := 3#4 } } }

/-- Witnesses for Obligations.Watchdogs, the clauses of WatchdogsAndFaults. -/
theorem wit_WatchdogsAndFaults_1 :
    (let cid : Cid := 1
     let n : Fin 2 := 0
     let w : Word := 1#32
     let s : State := wSet [(F.LCS_WDnWIN_WINHI 0, 1)]
     let go := cid.toNat ≤ 1 ∧ s.on (F.LCS_WDnCTL_LOCK n) = false
     (Admits cid true (R.LCS_WDnCTL n).addr s) ∧ (go) ∧ (w.getLsbD 0 = true) ∧ (s.on (F.LCS_WDnCTL_EN n) = false) ∧
     (s.get (F.LCS_WDnWIN_WINLO n) < s.get (F.LCS_WDnWIN_WINHI n))) ∧
    (let cid : Cid := 1
     let n : Fin 2 := 1
     let w : Word := 0x13F07#32
     let s : State := wSet [(F.LCS_WDnWIN_WINHI 1, 0), (F.LCS_WDnCTL_CFGERR 1, 1)]
     let go := cid.toNat ≤ 1 ∧ s.on (F.LCS_WDnCTL_LOCK n) = false
     (Admits cid true (R.LCS_WDnCTL n).addr s) ∧ (go) ∧ (w.getLsbD 0 = true) ∧ (s.on (F.LCS_WDnCTL_EN n) = false) ∧
     (s.get (F.LCS_WDnWIN_WINHI n) ≤ s.get (F.LCS_WDnWIN_WINLO n))) ∧
    (let cid : Cid := 1
     let n : Fin 2 := 1
     let w : Word := 0x13F07#32
     let s : State := wSet [(F.LCS_WDnWIN_WINHI 1, 5), (F.LCS_WDnCTL_CFGERR 1, 1)]
     let go := cid.toNat ≤ 1 ∧ s.on (F.LCS_WDnCTL_LOCK n) = false
     (Admits cid true (R.LCS_WDnCTL n).addr s) ∧ (go) ∧ (w.getLsbD 0 = true) ∧ (s.on (F.LCS_WDnCTL_EN n) = false) ∧
     (s.get (F.LCS_WDnWIN_WINLO n) < s.get (F.LCS_WDnWIN_WINHI n))) :=
  by decide +kernel

/-- Witnesses for Obligations.Watchdogs, the clauses of WatchdogsAndFaults. -/
theorem wit_WatchdogsAndFaults_2 :
    (let cid : Cid := 1
     let n : Fin 2 := 1
     let w : Word := 0x13F06#32
     let s : State := wSet [(F.LCS_WDnCTL_EN 1, 1), (F.LCS_WDnCTL_CFGERR 1, 1)]
     let go := cid.toNat ≤ 1 ∧ s.on (F.LCS_WDnCTL_LOCK n) = false
     (Admits cid true (R.LCS_WDnCTL n).addr s) ∧ (go) ∧ (w.getLsbD 0 = false)) ∧
    (let cid : Cid := 0
     let n : Fin 2 := 1
     let w : Word := 0x3F05#32
     let s : State := wLcB [(F.LCS_WDnCTL_EN 1, 1), (F.LCS_WDnCTL_CFGERR 1, 1)]
     let go := cid.toNat ≤ 1 ∧ s.on (F.LCS_WDnCTL_LOCK n) = false
     (Admits cid true (R.LCS_WDnCTL n).addr s) ∧ (go) ∧ (w.getLsbD 0 = true) ∧ (s.on (F.LCS_WDnCTL_EN n) = true)) ∧
    (let cid : Cid := 1
     let n : Fin 2 := 1
     let s : State := wSet [(F.LCS_WDnCTL_EN 1, 1), (F.LCS_WDnCTL_LOCK 1, 1)]
     (Admits cid true (R.LCS_WDnCTL n).addr s) ∧ (cid.toNat ≤ 1) ∧ (s.on (F.LCS_WDnCTL_LOCK n) = true)) :=
  by decide +kernel

/-- Witnesses for Obligations.Watchdogs, the clauses of WatchdogsAndFaults. -/
theorem wit_WatchdogsAndFaults_3 :
    (let cid : Cid := 8
     let n : Fin 2 := 1
     let s : State := wLcB
     (Admits cid true (R.LCS_WDnCTL n).addr s) ∧ (2 ≤ cid.toNat)) ∧
    (let cid : Cid := 1
     let n : Fin 2 := 1
     let s : State := wSet [(F.LCS_WDnCTL_KCID 1, 1)]
     let live := wdRuns n s = true ∧ s.lcs.wdSrc.get n = false
     (Admits cid true (R.LCS_WDnKICK n).addr s) ∧ (¬live)) ∧
    (let cid : Cid := 1
     let n : Fin 2 := 1
     let s : State := wSet [(F.LCS_WDnCTL_EN 1, 1), (F.LCS_WDnSTAT_COUNT 1, 0), (F.LCS_WDnWIN_WINLO 1, 1),(F.LCS_WDnCTL_KCID 1, 1)]
     let live := wdRuns n s = true ∧ s.lcs.wdSrc.get n = false
     let early := s.get (F.LCS_WDnSTAT_COUNT n) < s.get (F.LCS_WDnWIN_WINLO n)
     (Admits cid true (R.LCS_WDnKICK n).addr s) ∧ (live) ∧ (early)) :=
  by decide +kernel

/-- Witnesses for Obligations.Watchdogs, the clauses of WatchdogsAndFaults. -/
theorem wit_WatchdogsAndFaults_4 :
    (let cid : Cid := 1
     let n : Fin 2 := 1
     let key : BitVec 16 := 0#16
     let s : State := wSet [(F.LCS_WDnCTL_EN 1, 1)]
     let next := s.get (F.LCS_WDnSTAT_NEXT n)
     let due := if next = 0 then 0xA55A#16 else 0x5AA5#16
     let live := wdRuns n s = true ∧ s.lcs.wdSrc.get n = false
     let early := s.get (F.LCS_WDnSTAT_COUNT n) < s.get (F.LCS_WDnWIN_WINLO n)
     (Admits cid true (R.LCS_WDnKICK n).addr s) ∧ (live) ∧ (¬early) ∧ (key ≠ due)) ∧
    (let cid : Cid := 1
     let n : Fin 2 := 1
     let key : BitVec 16 := 0xA55A#16
     let s : State := wSet [(F.LCS_WDnCTL_EN 1, 1),(F.LCS_WDnCTL_KCID 1, 5)]
     let next := s.get (F.LCS_WDnSTAT_NEXT n)
     let due := if next = 0 then 0xA55A#16 else 0x5AA5#16
     let live := wdRuns n s = true ∧ s.lcs.wdSrc.get n = false
     let early := s.get (F.LCS_WDnSTAT_COUNT n) < s.get (F.LCS_WDnWIN_WINLO n)
     (Admits cid true (R.LCS_WDnKICK n).addr s) ∧ (live) ∧ (¬early) ∧ (key = due) ∧ (cid.toNat ≠ s.get (F.LCS_WDnCTL_KCID n))) ∧
    (let cid : Cid := 1
     let n : Fin 2 := 1
     let key : BitVec 16 := 0xA55A#16
     let s : State := wSet [(F.LCS_WDnCTL_EN 1, 1),(F.LCS_WDnCTL_KCID 1, 1)]
     let next := s.get (F.LCS_WDnSTAT_NEXT n)
     let due := if next = 0 then 0xA55A#16 else 0x5AA5#16
     let live := wdRuns n s = true ∧ s.lcs.wdSrc.get n = false
     let early := s.get (F.LCS_WDnSTAT_COUNT n) < s.get (F.LCS_WDnWIN_WINLO n)
     (Admits cid true (R.LCS_WDnKICK n).addr s) ∧ (live) ∧ (¬early) ∧ (key = due) ∧ (cid.toNat = s.get (F.LCS_WDnCTL_KCID n))) :=
  by decide +kernel

/-- Witnesses for Obligations.Watchdogs, the clauses of WatchdogsAndFaults. -/
theorem wit_WatchdogsAndFaults_5 :
    (let cid : Cid := 1
     let n : Fin 2 := 0
     let key : BitVec 16 := 0x5AA5#16
     let s : State := wSet [(F.LCS_WDnCTL_EN 0, 1),(F.LCS_WDnCTL_KCID 0, 1),(F.LCS_WDnSTAT_NEXT 0, 1)]
     let next := s.get (F.LCS_WDnSTAT_NEXT n)
     let due := if next = 0 then 0xA55A#16 else 0x5AA5#16
     let live := wdRuns n s = true ∧ s.lcs.wdSrc.get n = false
     let early := s.get (F.LCS_WDnSTAT_COUNT n) < s.get (F.LCS_WDnWIN_WINLO n)
     (Admits cid true (R.LCS_WDnKICK n).addr s) ∧ (live) ∧ (¬early) ∧ (key = due) ∧ (cid.toNat = s.get (F.LCS_WDnCTL_KCID n))) ∧
    (let n : Fin 2 := 0
     let s : State := wSet [(F.LCS_WDnCTL_EN 0, 1),(F.LCS_WDnWIN_WINHI 0, 5),(F.LCS_WDnSTAT_COUNT 0, 5)]
     let late := wdRuns n s = true ∧ s.get (F.LCS_WDnWIN_WINHI n) ≤ s.get (F.LCS_WDnSTAT_COUNT n)
     (late)) ∧
    (let n : Fin 2 := 0
     let s : State := wSet [(F.LCS_WDnCTL_EN 0, 1),(F.LCS_WDnWIN_WINHI 0, 5),(F.LCS_WDnSTAT_COUNT 0, 4)]
     let late := wdRuns n s = true ∧ s.get (F.LCS_WDnWIN_WINHI n) ≤ s.get (F.LCS_WDnSTAT_COUNT n)
     (¬late)) :=
  by decide +kernel

/-- Witnesses for Obligations.Watchdogs, the clauses of WatchdogsAndFaults. -/
theorem wit_WatchdogsAndFaults_6 :
    (let s : State := State.reset
     (s.lcs.wdrDue = none)) ∧
    (let s : State := ({ State.reset with lcs := { wdrDue := some 5 } } : State)
     let d := 5
     (s.lcs.wdrDue = some d)) ∧
    (let s : State := ({ State.reset with lcs := { wdrDue := some 0 } } : State)
     (s.lcs.wdrDue = some 0)) :=
  by decide +kernel

/-- Witnesses for Obligations.Watchdogs, the clauses of WatchdogsAndFaults. -/
theorem wit_WatchdogsAndFaults_7 :
    (let s : State := ({ State.reset with lcs := { wdrDue := some 1 } } : State)
     (s.lcs.wdrDue ≠ some 0)) ∧
    (let s : State := wSet [(F.TB_REFSTAT_BAND, 0), (F.TB_REFSTAT_FINE,1)]
     let acts := s.get F.TB_REFSTAT_BAND = 0 ∧ s.on F.TB_REFSTAT_FINE = true
     (acts)) ∧
    (let s : State := wSet [(F.TB_REFSTAT_BAND, 1), (F.TB_REFSTAT_FINE,1)]
     let acts := s.get F.TB_REFSTAT_BAND = 0 ∧ s.on F.TB_REFSTAT_FINE = true
     (¬acts)) :=
  by decide +kernel

/-- Witnesses for Obligations.Watchdogs, the clauses of WatchdogsAndFaults. -/
theorem wit_WatchdogsAndFaults_8 :
    (let s : State := State.reset
     let a := R.LCS_FSET.addr
     (Admits 1 true a s)) ∧
    (let s : State := wLcB
     let a := R.LCS_FSET.addr
     (Admits 0 true a s)) ∧
    (let s : State := wLcB
     let a := R.LCS_FSET.addr
     let cid : Cid := 8
     (2 ≤ cid.toNat) ∧ (Admits cid true a s)) :=
  by decide +kernel

/-- Witnesses for Obligations.Watchdogs, the clauses of WatchdogsAndFaults. -/
theorem wit_WatchdogsAndFaults_9 :
    (let s : State := wLcB [(F.LCS_FSTICKY, 7),(F.LCS_FACT, 1)]
     let a := R.LCS_FCLR.addr
     (Admits 0 true a s)) ∧
    (let s : State := wLcB [(F.LCS_FSTICKY, 7),(F.LCS_FACT, 1)]
     let a := R.LCS_FCLR.addr
     let cid : Cid := 8
     (2 ≤ cid.toNat) ∧ (Admits cid true a s)) :=
  by decide +kernel

/-- Witnesses for Obligations.LifeCycleAndTamper. -/
theorem wit_LifeCycleAndTamper_1 :
    (let cid : Cid := 62
     let s : State := wLc 0
     (cid = 62 ∨ Admits cid true R.LCS_CMD.addr s)) ∧
    (let cid : Cid := 62
     let s : State := wLc 2
     (cid = 62 ∨ Admits cid true R.LCS_CMD.addr s)) ∧
    (let cid : Cid := 1
     let s : State := wLc 1
     (cid = 62 ∨ Admits cid true R.LCS_CMD.addr s)) :=
  by decide +kernel

/-- Witnesses for Obligations.LifeCycleAndTamper. -/
theorem wit_LifeCycleAndTamper_2 :
    (let cid : Cid := 1
     let s : State := wLc 0
     (cid = 62 ∨ Admits cid true R.LCS_CMD.addr s)) ∧
    (let cid : Cid := 0
     let s : State := wLc 1
     (cid = 62 ∨ Admits cid true R.LCS_CMD.addr s)) ∧
    (let cid : Cid := 8
     let s : State := wLc 1
     (cid = 62 ∨ Admits cid true R.LCS_CMD.addr s)) :=
  by decide +kernel

/-- Witnesses for Obligations.LifeCycleAndTamper. -/
theorem wit_LifeCycleAndTamper_3 :
    (let cid : Cid := 1
     let s : State := wLc 1 [(F.LCS_CMDSTAT_BUSY, 1)]
     (cid = 62 ∨ Admits cid true R.LCS_CMD.addr s)) ∧
    (let cid : Cid := 1
     let s : State := wLc 2
     (cid = 62 ∨ Admits cid true R.LCS_CMD.addr s)) ∧
    (let cid : Cid := 1
     let s : State := wLc 3
     (cid = 62 ∨ Admits cid true R.LCS_CMD.addr s)) :=
  by decide +kernel

/-- Witnesses for Obligations.LifeCycleAndTamper. -/
theorem wit_LifeCycleAndTamper_4 :
    (let cid : Cid := 62
     let s : State := wLc 3
     (cid = 62 ∨ Admits cid true R.LCS_CMD.addr s)) ∧
    (let cid : Cid := 1
     let s : State := wLc 3 [(F.ADC_SUPSTAT_LIVE, 2)]
     (cid = 62 ∨ Admits cid true R.LCS_CMD.addr s)) ∧
    (let cid : Nat := 62
     let slot : Nat := 0
     let s : State := wLc 0
     (cmdCheck cid 1 slot s = 0)) :=
  by decide +kernel

/-- Witnesses for Obligations.LifeCycleAndTamper. -/
theorem wit_LifeCycleAndTamper_5 :
    (let cid : Nat := 1
     let slot : Nat := 0
     let s : State := wLc 1
     (cmdCheck cid 2 slot s = 0)) ∧
    (let cid : Nat := 1
     let slot : Nat := 0
     let s : State := wLc 2
     (cmdCheck cid 3 slot s = 0)) ∧
    (let cid : Nat := 1
     let slot : Nat := 0
     let s : State := wLc 3
     (cmdCheck cid 4 slot s = 0)) :=
  by decide +kernel

/-- Witnesses for Obligations.LifeCycleAndTamper. -/
theorem wit_LifeCycleAndTamper_6 :
    (let cid : Nat := 1
     let slot : Nat := 2
     let s : State := wLc 2
     (cmdCheck cid 5 slot s = 0)) ∧
    (let cid : Nat := 1
     let slot : Nat := 1
     let s : State := wLc 3
     (cmdCheck cid 6 slot s = 0)) ∧
    (let cid : Nat := 1
     let slot : Nat := 1
     let s : State := wLc 3
     let cmd := 6
     (cmdCheck cid cmd slot s = 0)) :=
  by decide +kernel

/-- Witnesses for Obligations.LifeCycleAndTamper. -/
theorem wit_LifeCycleAndTamper_7 :
    (let i : Fin 6 := 0
     let s : State := wSet [(F.LCS_TAMPSTAT_LIVE, 1)]
     (s.bit F.LCS_TAMPSTAT_LIVE i = true)) ∧
    (let i : Fin 6 := 0
     let s : State := wLc 1
     let u := s.begin.setBit F.LCS_TAMPSTAT_LIVE i true
     (s.bit F.LCS_TAMPSTAT_LIVE i = false) ∧ (tampAction i u = none)) ∧
    (let i : Fin 6 := 0
     let s : State := wSet [(F.LCS_TAMPCFG_TEN, 1), (F.LCS_TAMPCFG_TACT, 0), (F.LCS_STATE_STATE, 1)]
     let u := s.begin.setBit F.LCS_TAMPSTAT_LIVE i true
     (s.bit F.LCS_TAMPSTAT_LIVE i = false) ∧ (tampAction i u = some 0)) :=
  by decide +kernel

/-- Witnesses for Obligations.LifeCycleAndTamper. -/
theorem wit_LifeCycleAndTamper_8 :
    (let i : Fin 6 := 5
     let s : State := wSet [(F.LCS_TAMPCFG_TEN, 0x20), (F.LCS_TAMPCFG_TACT, 0xC00), (F.LCS_STATE_STATE, 1)]
     let u := s.begin.setBit F.LCS_TAMPSTAT_LIVE i true
     let act := 3
     (s.bit F.LCS_TAMPSTAT_LIVE i = false) ∧ (tampAction i u = some act) ∧ (act ≠ 0) ∧ (s.lcs.resp = none)) ∧
    (let i : Fin 6 := 5
     let s : State := ({ wSet [(F.LCS_TAMPCFG_TEN, 0x20), (F.LCS_TAMPCFG_TACT, 0xC00), (F.LCS_STATE_STATE, 1)] with lcs := { resp := some { action := 1 } } } : State)
     let u := s.begin.setBit F.LCS_TAMPSTAT_LIVE i true
     let act := 3
     let r := ({ action := 1 } : TampResp)
     (s.bit F.LCS_TAMPSTAT_LIVE i = false) ∧ (tampAction i u = some act) ∧ (act ≠ 0) ∧ (s.lcs.resp = some r)) ∧
    (let s : State := State.reset
     (s.tb.cnt.get 10 < s.lcs.rereadAt + 16000000)) :=
  by decide +kernel

/-- Witnesses for Obligations.LifeCycleAndTamper. -/
theorem wit_LifeCycleAndTamper_9 :
    (let s : State := ({ State.reset with tb := { State.reset.tb with cnt := Vector.replicate 14 16000000 } } : State)
     (s.lcs.rereadAt + 16000000 ≤ s.tb.cnt.get 10)) ∧
    (let s : State := State.reset
     (ones s.lcs.fuses.tset < 16)) ∧
    (let s : State := ({ State.reset with lcs := { fuses := { tset := 0xFFFF#16 }, resp := some { action := 1 } } } : State)
     let r := ({ action := 1 } : TampResp)
     (s.lcs.fuses.tset = 0xFFFF#16) ∧ (s.lcs.resp = some r)) :=
  by decide +kernel

/-- Witnesses for Obligations.LifeCycleAndTamper. -/
theorem wit_LifeCycleAndTamper_10 :
    (let s : State := State.reset
     (Admits 1 true R.LCS_TAMPCFG.addr s) ∧ (s.on F.LCS_TAMPCFG_LOCK = false)) ∧
    (let w : Word := 0xFFF#32
     let s : State := wSet [(F.LCS_TAMPCFG_LOCK, 1), (F.LCS_TAMPCFG_TACT, 0x800)]
     let n := 0x83F
     (Admits 1 true R.LCS_TAMPCFG.addr s) ∧ (n < 4096) ∧ (s.on F.LCS_TAMPCFG_LOCK = true) ∧
     ((∀ i < 6, n / 4 ^ i % 4 = max (s.get F.LCS_TAMPCFG_TACT / 4 ^ i % 4) (w.toNat / 64 / 4 ^ i % 4)))) ∧
    (let s : State := wLcB
     (Admits 0 true R.LCS_TAMPCFG.addr s)) :=
  by decide +kernel

/-- Witnesses for Obligations.LifeCycleAndTamper. -/
theorem wit_LifeCycleAndTamper_11 :
    (let s : State := wLcB
     let cid : Cid := 8
     (2 ≤ cid.toNat) ∧ (Admits cid true R.LCS_TAMPCFG.addr s)) :=
  by decide +kernel

end Sys2Proof.Tests.T17

namespace Sys2Proof.Tests.T18
set_option Elab.async false
open Sys2Proof Sys2Proof.Machine Sys2Proof.Tests

def wPin (fs : List (Fld × Nat) := []) : State := wSet ([(F.PIN_CFG_SWITCHABLE 33, 1), (F.PIN_CFG_FUNC 33, 1)] ++ fs)
def wTake (i f n : Nat) (s : State := State.reset) : State := { s with now := n, pins := { target := some (i, f), swAt := 5 } }
def wR (cid : BitVec 6) (a : Word) (b : Bool := false) (e : BitVec 4 := 0) (w : Bool := false) : SvcReq := { cid := cid, write := w, addr := a, sz := 2, viaB := b, epri := e }
def wPend (l : List (Resource × SvcReq)) (s : State := State.reset) : State := { s with svc := { s.svc with pending := l } }
def wYram : Word := 0x20000000#32
def wPw (n : Option Nat) (s : State := State.reset) : State := { s with memCtl := { s.memCtl with pwrWait := [(16, 1, n)] } }

/-- Witnesses for Obligations.Pins, the clauses of PinsSwitchAndDrive. -/
theorem wit_PinsSwitchAndDrive_1 :
    (let cid : Cid := 8#6
     let s : State := wPin [(F.SYS_CIDEN_EN 0, 0x102), (F.SYS_ACCWLO_MASK 23, 0x102)]
     (Admits cid true R.PIN_SWREQ.addr s) ∧ (cid ≠ 1)) ∧
    (let cid : Cid := 1#6
     let w : Word := 0x63#32
     let s : State := State.reset
     let i := w.toNat % 128
     let f := w.toNat / 256 % 4
     (Admits cid true R.PIN_SWREQ.addr s) ∧ (cid = 1) ∧ (switchError i f s ≠ 0)) ∧
    (let cid : Cid := 1#6
     let w : Word := 0x121#32
     let s : State := wPin
     let i := w.toNat % 128
     let f := w.toNat / 256 % 4
     (Admits cid true R.PIN_SWREQ.addr s) ∧ (cid = 1) ∧ (switchError i f s = 0) ∧ (s.get (F.PIN_CFG_FUNC i) = f)) :=
  by decide +kernel

/-- Witnesses for Obligations.Pins, the clauses of PinsSwitchAndDrive. -/
theorem wit_PinsSwitchAndDrive_2 :
    (let cid : Cid := 1#6
     let w : Word := 0x21#32
     let s : State := wPin
     let i := w.toNat % 128
     let f := w.toNat / 256 % 4
     (Admits cid true R.PIN_SWREQ.addr s) ∧ (cid = 1) ∧ (switchError i f s = 0) ∧ (s.get (F.PIN_CFG_FUNC i) ≠ f)) ∧
    (let i : Nat := 33
     let f : Nat := 0
     let s : State := wPin
     (switchError i f s = 0)) ∧
    (let i : Nat := 80
     let f : Nat := 1
     let s : State := wTake 80 1 25 { wSet [(F.PWM_FLTPOL_POL, 0xFF)] with pwm := { State.reset.pwm with flt := Vector.replicate 8 true } }
     let u : State := { s.begin with pins := { s.pins with target := none } }
     let v := (((u.set (F.PIN_CFG_FUNC i) f).set (F.PIN_CFG_TRANS i) 0).set F.PIN_SWSTAT_BUSY 0).set F.PIN_SWSTAT_DONE 1
     let acts := f = 1 ∧ 80 ≤ i ∧ i ≤ 87 ∧ fltActive (i - 80) v = true
     (s.pins.target = some (i, f)) ∧ (s.pins.swAt + 20 ≤ s.now) ∧ (acts)) :=
  by decide +kernel

/-- Witnesses for Obligations.Pins, the clauses of PinsSwitchAndDrive. -/
theorem wit_PinsSwitchAndDrive_3 :
    (let i : Nat := 98
     let f : Nat := 3
     let s : State := wTake 98 3 25
     let u : State := { s.begin with pins := { s.pins with target := none } }
     let v := (((u.set (F.PIN_CFG_FUNC i) f).set (F.PIN_CFG_TRANS i) 0).set F.PIN_SWSTAT_BUSY 0).set F.PIN_SWSTAT_DONE 1
     let acts := f = 1 ∧ 80 ≤ i ∧ i ≤ 87 ∧ fltActive (i - 80) v = true
     (s.pins.target = some (i, f)) ∧ (s.pins.swAt + 20 ≤ s.now) ∧ (¬acts)) ∧
    (let i : Nat := 98
     let f : Nat := 3
     let s : State := wTake 98 3 24
     (s.pins.target = some (i, f)) ∧ (s.now < s.pins.swAt + 20)) ∧
    (let s : State := State.reset
     (s.pins.target = none)) :=
  by decide +kernel

/-- Witnesses for Obligations.Pins, the clauses of PinsSwitchAndDrive. -/
theorem wit_PinsSwitchAndDrive_4 :
    (let cid : Cid := 1#6
     let k : Fin 4 := 3
     let s : State := State.reset
     (Admits cid true (R.PIN_GPSET k).addr s)) ∧
    (let cid : Cid := 1#6
     let k : Fin 4 := 3
     let s : State := wSet [(F.PIN_GPOUT_OUT 3, 7)]
     (Admits cid true (R.PIN_GPCLR k).addr s)) :=
  by decide +kernel

/-- Witnesses for Obligations.ServicePointsAndSchedules, the clauses of ServicePoints. -/
theorem wit_ServicePoints_1 :
    (let g : Fin 8 := 0
     let r : SvcReq := wR 2 0
     let x : SvcReq := wR 3 0
     let s : State := wPend [(.group 0, wR 3 0), (.group 0, wR 2 0)]
     let l := pendingAt (.group g) s
     let c := (l.filter fun y => !y.viaB) ++ (l.filter fun y => y.viaB).take 1
     (x ∈ c) ∧ (svcWinner (.group g) s = some r) ∧ (reqPri s r ≤ 15) ∧ (reqPri s x ≤ 15)) ∧
    (let g : Fin 8 := 0
     let r : SvcReq := wR 58 0 true 5
     let x : SvcReq := wR 2 0
     let s : State := wPend [(.group 0, wR 58 0 true 5), (.group 0, wR 2 0), (.group 0, wR 59 0 true 15)]
     let l := pendingAt (.group g) s
     let c := (l.filter fun y => !y.viaB) ++ (l.filter fun y => y.viaB).take 1
     (x ∈ c) ∧ (svcWinner (.group g) s = some r) ∧ (reqPri s r ≤ 15) ∧ (reqPri s x ≤ 15)) ∧
    (let r : SvcReq := wR 1 0
     let x : SvcReq := wR 50 0
     let s : State := wPend [(.pool, wR 50 0), (.pool, wR 1 0)]
     let q := .pool
     (q ∈ [Resource.pool, .router]) ∧ (svcWinner q s = some r) ∧ (x ∈ pendingAt q s)) :=
  ⟨⟨by repeat (first | exact .head _ | apply List.Mem.tail), by decide +kernel⟩,
   ⟨by repeat (first | exact .head _ | apply List.Mem.tail), by decide +kernel⟩,
   ⟨by repeat (first | exact .head _ | apply List.Mem.tail), by decide +kernel⟩⟩

/-- Witnesses for Obligations.ServicePointsAndSchedules, the clauses of ServicePoints. -/
theorem wit_ServicePoints_2 :
    (let q : Resource := .bank 16
     let l : List SvcReq := []
     let s : State := State.reset
     let u := l.foldl (fun s r => svcArrive r s) s.begin
     let b := 16
     let v := pwrCapture b 0 u
     (q = .bank b) ∧ (svcWinner q v = none)) ∧
    (let q : Resource := .bank 16
     let l : List SvcReq := []
     let s : State := wPw none
     let u := l.foldl (fun s r => svcArrive r s) s.begin
     let b := 16
     let v := pwrCapture b 0 u
     (q = .bank b) ∧ (svcWinner q v = none)) ∧
    (let q : Resource := .bank 16
     let l : List SvcReq := [wR 1 wYram]
     let s : State := State.reset
     let u := l.foldl (fun s r => svcArrive r s) s.begin
     let b := 16
     let v := pwrCapture b 0 u
     let r := wR 1 wYram
     (q = .bank b) ∧ (svcWinner q v = some r)) :=
  by decide +kernel

/-- Witnesses for Obligations.ServicePointsAndSchedules, the clauses of ServicePoints. -/
theorem wit_ServicePoints_3 :
    (let q : Resource := .bank 16
     let l : List SvcReq := [wR 1 wYram, wR 2 wYram]
     let s : State := wPw none
     let u := l.foldl (fun s r => svcArrive r s) s.begin
     let b := 16
     let v := pwrCapture b 0 u
     let r := wR 1 wYram
     (q = .bank b) ∧ (svcWinner q v = some r)) ∧
    (let q : Resource := .bank 16
     let l : List SvcReq := [wR 1 wYram, wR 63 wYram false 0 true]
     let s : State := State.reset
     let u := l.foldl (fun s r => svcArrive r s) s.begin
     let b := 16
     let v := pwrCapture b 0 u
     let r := wR 1 wYram
     (q = .bank b) ∧ (svcWinner q v = some r)) ∧
    (let q : Resource := .group 1
     let l : List SvcReq := []
     let s : State := { State.reset with share := { hops := [(17, 0)] } }
     let u := l.foldl (fun s r => svcArrive r s) s.begin
     let g := 1
     (q = .group g) ∧ ((u.share.hops.any fun h => h.1 / 16 == (g : Nat)) = true)) :=
  by decide +kernel

/-- Witnesses for Obligations.ServicePointsAndSchedules, the clauses of ServicePoints. -/
theorem wit_ServicePoints_4 :
    (let q : Resource := .bells
     let l : List SvcReq := []
     let s : State := State.reset
     let u := l.foldl (fun s r => svcArrive r s) s.begin
     ((∃ g, q = .group g ∧ (u.share.hops.any fun h => h.1 / 16 == (g : Nat)) = false) ∨ q ∈ [.portB, .bells, .pool, .router]) ∧
     (svcWinner q u = none)) ∧
    (let q : Resource := .group 1
     let l : List SvcReq := [wR 1 0x50005040#32]
     let s : State := State.reset
     let u := l.foldl (fun s r => svcArrive r s) s.begin
     let r := wR 1 0x50005040#32
     ((∃ g, q = .group g ∧ (u.share.hops.any fun h => h.1 / 16 == (g : Nat)) = false) ∨ q ∈ [.portB, .bells, .pool, .router]) ∧
     (svcWinner q u = some r)) ∧
    (let q : Resource := .pool
     let l : List SvcReq := [wR 1 0x50006200#32]
     let s : State := State.reset
     let u := l.foldl (fun s r => svcArrive r s) s.begin
     let r := wR 1 0x50006200#32
     ((∃ g, q = .group g ∧ (u.share.hops.any fun h => h.1 / 16 == (g : Nat)) = false) ∨ q ∈ [.portB, .bells, .pool, .router]) ∧
     (svcWinner q u = some r)) :=
  by decide +kernel

/-- Witnesses for Obligations.ServicePointsAndSchedules, the clauses of ServicePoints. -/
theorem wit_ServicePoints_5 :
    (let b : Fin 68 := 16
     let r : SvcReq := { wR 2 wYram with fetch := true }
     let s : State := { wPend [(.bank 16, wR 1 wYram), (.bank 16, { wR 2 wYram with fetch := true })] with svc := { pending := [(.bank 16, wR 1 wYram), (.bank 16, { wR 2 wYram with fetch := true })], fetchDue := [(16, 2)] } }
     let l := pendingAt (.bank b) s
     (svcWinner (.bank b) s = some r) ∧ (pwrWaiting b s = none) ∧ ((l.any fun x => fetchDue b s x) = true)) ∧
    (let b : Fin 68 := 16
     let r : SvcReq := wR 1 wYram
     let s : State := wPend [(.bank 16, wR 2 wYram), (.bank 16, wR 1 wYram)]
     let l := pendingAt (.bank b) s
     (svcWinner (.bank b) s = some r) ∧ (pwrWaiting b s = none) ∧ ((l.any fun x => fetchDue b s x) = false)) ∧
    (let b : Fin 68 := 16
     let r : SvcReq := wR 2 wYram
     let s : State := wPend [(.bank 16, wR 2 wYram), (.bank 16, wR 1 wYram)] (wPw (some 1))
     let k := 16
     let t := 1
     let n := 1
     (svcWinner (.bank b) s = some r) ∧ (pwrWaiting b s = some (k, t, some n))) :=
  by decide +kernel

/-- Witnesses for Obligations.ServicePointsAndSchedules, the clauses of ServicePoints. -/
theorem wit_ServicePoints_6 :
    (let r : SvcReq := wR 61 0 true
     let s : State := wPend [(.portB, wR 58 0 true), (.portB, wR 61 0 true)]
     (svcWinner .portB s = some r)) ∧
    (let r : SvcReq := wR 2 0x40000000#32
     let s : State := wPend [(.portB, wR 58 0 true), (.bank 64, wR 3 0x40000000#32), (.bank 64, wR 2 0x40000000#32)]
     (svcWinner .portB s = some r)) ∧
    (let r : SvcReq := wR 1 0
     let x : SvcReq := wR 2 0
     let s : State := wPend [(.bells, wR 58 0 true), (.bells, wR 2 0), (.bells, wR 1 0)]
     (svcWinner .bells s = some r) ∧ (x ∈ pendingAt .bells s) ∧ (x.viaB = false)) :=
  by decide +kernel

/-- Witnesses for Obligations.ServicePointsAndSchedules, the clauses of ServicePoints. -/
theorem wit_ServicePoints_7 :
    (let r : SvcReq := wR 58 0 true
     let s : State := wPend [(.bells, wR 58 0 true), (.bells, wR 59 0 true)]
     (svcWinner .bells s = some r) ∧ ((∀ y ∈ pendingAt .bells s, y.viaB = true))) ∧
    (let q : Resource := .bells
     let s : State := State.reset
     ((∀ b : Fin 68, q = .bank b → pwrWaiting b s = none))) ∧
    (let r : SvcReq := wR 1 wYram
     let others : List SvcReq := [wR 2 wYram]
     let s : State := State.reset
     (writesWith r others s = [])) :=
  by decide +kernel

end Sys2Proof.Tests.T18

namespace Sys2Proof.Tests.T19
set_option Elab.async false
open Sys2Proof Sys2Proof.Machine Sys2Proof.Tests



/-- Witnesses for Obligations.StepRunsFrontCommand. -/
theorem wit_StepRunsFrontCommand :
    (let c : Instr := .powerOnReset
     let rest : List Instr := []
     let s : State := { State.reset with pending := [.powerOnReset] }
     (s.pending = c :: rest)) ∧
    (let s : State := State.reset
     (s.pending = [])) :=
  by decide +kernel

end Sys2Proof.Tests.T19

namespace Sys2Proof.Tests.T20
set_option Elab.async false
open Sys2Proof Sys2Proof.Machine Sys2Proof.Tests

def wMt (fs : List (Fld × Nat) := []) : State := { wSet ([(F.SYS_BOOTSTAT_STATE, 8), (F.CHN_TRCFG1_MAINTEN, 1), (F.CHN_MAINT_OPEN, 1), (F.SYS_STRAP_BOOTSRC, 1), (F.CHN_ADDR_VALID, 1), (F.CHN_ADDR_ADDR, 2), (F.CHN_UPMAPLO_MAP, 1)] ++ fs) with flash := { sfdp := 0x50444653 } }
def wMr : State := wRelay (fun r => { r with sending := some 0 }) wMt
def wFs (fs : List (Fld × Nat)) : State := wSet ((F.LCS_FSTICKY, 0xFFF) :: fs)
def wTsl (w : Nat) (fs : List (Fld × Nat) := []) (g : State → State := id) : State :=
  wMem 0x42001FFC [BitVec.ofNat 32 w] (g (wSet ([(F.TSL_CHtCTL_RUN 23, 1), (F.TSL_CHtPC_PC 23, 2047), (F.TSL_CHtTC_TC 23, 1000), (F.TSL_CHtCFG_PINBASE 23, 24), (F.TSL_CHtCFG_PINCNT 23, 7)] ++ fs) { State.reset with tb := { State.reset.tb with cnt := State.reset.tb.cnt.set! 9 1000 } }))
def wTu (s : State) : State := (ramReadWord { cid := 49, fetch := true } 1 0x42001FFC (bankReady 0x42001FFC s.begin).2).2
def wD0 : State := wTsl 0x1F800002
def wD1 : State := wTsl 0x1F800001 [(F.TSL_CHtLATECNT_COUNT 23, 0xFFFF)]
def wD2 : State := wTsl 0x1F800001 [(F.TSL_CHtCFG_LATEPOL 23, 1)]
def wNx (c : Instr) (s : State) : State := match exec c s with | .next t => t | _ => s
def wRef : State := { wSet [(F.TB_REFCTL_REFKHZ, 24000), (F.TB_REFSTAT_CURSRC, 0), (F.TB_EVTEN, 0x1FF), (F.SYS_POLIMG 4, 0x303)] with pol := {} }

/-- Witnesses for Obligations.MaintenanceExcludesRelay. -/
theorem wit_MaintenanceExcludesRelay_1 :
    (let p : Fin 3 := 0
     let f : Frame := wF 3 0x22 [0, 0, 0, 0, 60]
     let s : State := wSlot 0 (wF 3 0x22 [0, 0, 0, 0, 60]) wMr
     let u : State := wTook 0 (wF 3 0x22 [0, 0, 0, 0, 60]) (wSlot 0 (wF 3 0x22 [0, 0, 0, 0, 60]) wMr)
     (Received p 3 0x22 f s u) ∧ (maintOk p f u = true) ∧ (u.on F.CHN_MAINT_OPEN = true) ∧
     (u.chn.relay.sending.isSome = true ∨ u.chn.maintOp.isSome = true)) ∧
    (let p : Fin 3 := 0
     let f : Frame := wF 3 0x23 [0, 0, 0, 0, 0]
     let s : State := wSlot 0 (wF 3 0x23 [0, 0, 0, 0, 0]) wMr
     let u : State := wTook 0 (wF 3 0x23 [0, 0, 0, 0, 0]) (wSlot 0 (wF 3 0x23 [0, 0, 0, 0, 0]) wMr)
     (Received p 3 0x23 f s u) ∧ (maintOk p f u = true) ∧ (u.on F.CHN_MAINT_OPEN = true) ∧
     (u.chn.relay.sending.isSome = true ∨ u.chn.maintOp.isSome = true)) ∧
    (let p : Fin 3 := 0
     let f : Frame := wF 3 0x24 [0, 0, 0, 0, 9]
     let s : State := wSlot 0 (wF 3 0x24 [0, 0, 0, 0, 9]) wMr
     let u : State := wTook 0 (wF 3 0x24 [0, 0, 0, 0, 9]) (wSlot 0 (wF 3 0x24 [0, 0, 0, 0, 9]) wMr)
     (Received p 3 0x24 f s u) ∧ (maintOk p f u = true) ∧ (u.on F.CHN_MAINT_OPEN = true) ∧
     (u.chn.relay.sending.isSome = true ∨ u.chn.maintOp.isSome = true)) :=
  ⟨⟨rec_of (by decide +kernel), by decide +kernel⟩,
   ⟨rec_of (by decide +kernel), by decide +kernel⟩,
   ⟨rec_of (by decide +kernel), by decide +kernel⟩⟩

/-- Witnesses for Obligations.MaintenanceExcludesRelay. -/
theorem wit_MaintenanceExcludesRelay_2 :
    (let p : Fin 3 := 0
     let f : Frame := wF 3 0x22 [0, 0, 0, 0, 60]
     let s : State := wSlot 0 (wF 3 0x22 [0, 0, 0, 0, 60]) (wMt [(F.SYS_STRAP_BOOTSRC, 0)])
     let u : State := wTook 0 (wF 3 0x22 [0, 0, 0, 0, 60]) (wSlot 0 (wF 3 0x22 [0, 0, 0, 0, 60]) (wMt [(F.SYS_STRAP_BOOTSRC, 0)]))
     (Received p 3 0x22 f s u) ∧ (maintOk p f u = true) ∧ (u.on F.CHN_MAINT_OPEN = true) ∧ (u.chn.relay.sending = none) ∧
     (u.chn.maintOp = none) ∧ (u.on F.SYS_STRAP_BOOTSRC = false ∨ noFlash u = true)) ∧
    (let p : Fin 3 := 0
     let f : Frame := wF 3 0x23 [0, 0, 0, 0, 0]
     let s : State := wSlot 0 (wF 3 0x23 [0, 0, 0, 0, 0]) (wMt [(F.SYS_STRAP_BOOTSRC, 0)])
     let u : State := wTook 0 (wF 3 0x23 [0, 0, 0, 0, 0]) (wSlot 0 (wF 3 0x23 [0, 0, 0, 0, 0]) (wMt [(F.SYS_STRAP_BOOTSRC, 0)]))
     (Received p 3 0x23 f s u) ∧ (maintOk p f u = true) ∧ (u.on F.CHN_MAINT_OPEN = true) ∧ (u.chn.relay.sending = none) ∧
     (u.chn.maintOp = none) ∧ (u.on F.SYS_STRAP_BOOTSRC = false ∨ noFlash u = true)) ∧
    (let p : Fin 3 := 0
     let f : Frame := wF 3 0x24 [0, 0, 0, 0, 9]
     let s : State := wSlot 0 (wF 3 0x24 [0, 0, 0, 0, 9]) (wMt [(F.SYS_STRAP_BOOTSRC, 0)])
     let u : State := wTook 0 (wF 3 0x24 [0, 0, 0, 0, 9]) (wSlot 0 (wF 3 0x24 [0, 0, 0, 0, 9]) (wMt [(F.SYS_STRAP_BOOTSRC, 0)]))
     (Received p 3 0x24 f s u) ∧ (maintOk p f u = true) ∧ (u.on F.CHN_MAINT_OPEN = true) ∧ (u.chn.relay.sending = none) ∧
     (u.chn.maintOp = none) ∧ (u.on F.SYS_STRAP_BOOTSRC = false ∨ noFlash u = true)) :=
  ⟨⟨rec_of (by decide +kernel), by decide +kernel⟩,
   ⟨rec_of (by decide +kernel), by decide +kernel⟩,
   ⟨rec_of (by decide +kernel), by decide +kernel⟩⟩

/-- Witnesses for Obligations.MaintenanceExcludesRelay. -/
theorem wit_MaintenanceExcludesRelay_3 :
    (let p : Fin 3 := 0
     let f : Frame := wF 3 0x24 [0, 0, 0, 0, 9]
     let s : State := wSlot 0 (wF 3 0x24 [0, 0, 0, 0, 9]) (wChn (fun c => { c with maintOp := some (.read 0 2) }) wMt)
     let u : State := wTook 0 (wF 3 0x24 [0, 0, 0, 0, 9]) (wSlot 0 (wF 3 0x24 [0, 0, 0, 0, 9]) (wChn (fun c => { c with maintOp := some (.read 0 2) }) wMt))
     (Received p 3 0x24 f s u) ∧ (maintOk p f u = true) ∧ (u.on F.CHN_MAINT_OPEN = true) ∧
     (u.chn.relay.sending.isSome = true ∨ u.chn.maintOp.isSome = true)) ∧
    (let p : Fin 3 := 0
     let f : Frame := wF 3 0x22 [0, 0, 0, 0, 60]
     let s : State := wSlot 0 (wF 3 0x22 [0, 0, 0, 0, 60]) ({ wMt with flash := { sfdp := 0 } })
     let u : State := wTook 0 (wF 3 0x22 [0, 0, 0, 0, 60]) (wSlot 0 (wF 3 0x22 [0, 0, 0, 0, 60]) ({ wMt with flash := { sfdp := 0 } }))
     (Received p 3 0x22 f s u) ∧ (maintOk p f u = true) ∧ (u.on F.CHN_MAINT_OPEN = true) ∧ (u.chn.relay.sending = none) ∧
     (u.chn.maintOp = none) ∧ (u.on F.SYS_STRAP_BOOTSRC = false ∨ noFlash u = true)) :=
  ⟨⟨rec_of (by decide +kernel), by decide +kernel⟩,
   ⟨rec_of (by decide +kernel), by decide +kernel⟩⟩

/-- Witnesses for Obligations.MaintenanceExcludesRelay. -/
theorem wit_MaintenanceExcludesRelay_4 :
    (let s : State := wRelay (fun r => { r with asked := 1, srcOk := true, srcLen := 4 }) wMt
     (s.on F.CHN_MAINT_OPEN = true)) ∧
    (let p : Fin 3 := 0
     let f : Frame := wF 3 0x22
     let s : State := wMt
     (maintOk p f s = true)) :=
  by decide +kernel

/-- Witnesses for Obligations.FaultClear. -/
theorem wit_FaultClear_1 :
    (let key : BitVec 16 := 0xFC1B#16
     let s : State := wFs []
     (Admits 1 true R.LCS_FCLR.addr s) ∧ (key ≠ 0xFC1A#16)) ∧
    (let key : BitVec 16 := 0xFC1A#16
     let s : State := wFs [(F.LCS_FACT, 0x800), (F.LCS_FCLASS_PROMOTE, 0x40), (F.LCS_FSTAT_SAFE, 1)]
     (Admits 1 true R.LCS_FCLR.addr s) ∧ (key = 0xFC1A#16) ∧ ((∃ b < 12, s.bit F.LCS_FACT b = true ∧ actsSafe b s = true))) ∧
    (let key : BitVec 16 := 0xFC1A#16
     let s : State := wFs []
     (Admits 1 true R.LCS_FCLR.addr s) ∧ (key = 0xFC1A#16) ∧ (s.on F.LCS_FSTAT_SAFE = false)) :=
  by decide +kernel

/-- Witnesses for Obligations.FaultClear. -/
theorem wit_FaultClear_2 :
    (let key : BitVec 16 := 0xFC1A#16
     let s : State := wFs [(F.LCS_FACT, 0x800), (F.LCS_FSTAT_SAFE, 1)]
     (Admits 1 true R.LCS_FCLR.addr s) ∧ (key = 0xFC1A#16) ∧ (s.on F.LCS_FSTAT_SAFE = true) ∧
     ((∀ b < 12, ¬ (s.bit F.LCS_FACT b = true ∧ actsSafe b s = true)))) :=
  by decide +kernel

/-- Witnesses for Obligations.TeaselLateEvents. -/
theorem wit_TeaselLateEvents :
    (let t : Fin 24 := 23
     let w : Word := 0x1F800002#32
     let n : Nat := 31
     let s : State := wD0
     let u : State := wTu wD0
     let k := tslTick t u + (if fieldOf 22 1 w = 1 then u.get (F.TSL_CHtS1 t) % 65536 else fieldOf 0 16 w : Nat)
     (TslFetches t w s u) ∧ (tslTurn t s.begin = true) ∧ (s.chn.done = []) ∧ (fieldOf 28 4 w = 1) ∧ (fieldOf 16 6 w = 0) ∧
     (tslPinOf t (fieldOf 25 3 w) u = some n) ∧ ((pinAt n u).queue.length < 2) ∧ ((tb9 u : Int) + 2 ≤ k)) ∧
    (let t : Fin 24 := 23
     let w : Word := 0x1F800001#32
     let n : Nat := 31
     let s : State := wD1
     let u : State := wTu wD1
     let k := tslTick t u + (if fieldOf 22 1 w = 1 then u.get (F.TSL_CHtS1 t) % 65536 else fieldOf 0 16 w : Nat)
     (TslFetches t w s u) ∧ (tslTurn t s.begin = true) ∧ (s.chn.done = []) ∧ (fieldOf 28 4 w = 1) ∧ (fieldOf 16 6 w = 0) ∧
     (tslPinOf t (fieldOf 25 3 w) u = some n) ∧ ((pinAt n u).queue.length < 2) ∧ (k < (tb9 u : Int) + 2) ∧
     (u.on (F.TSL_CHtCFG_LATEPOL t) = false)) ∧
    (let t : Fin 24 := 23
     let w : Word := 0x1F800001#32
     let n : Nat := 31
     let s : State := wD2
     let u : State := wTu wD2
     let k := tslTick t u + (if fieldOf 22 1 w = 1 then u.get (F.TSL_CHtS1 t) % 65536 else fieldOf 0 16 w : Nat)
     (TslFetches t w s u) ∧ (tslTurn t s.begin = true) ∧ (s.chn.done = []) ∧ (fieldOf 28 4 w = 1) ∧ (fieldOf 16 6 w = 0) ∧
     (tslPinOf t (fieldOf 25 3 w) u = some n) ∧ ((pinAt n u).queue.length < 2) ∧ (k < (tb9 u : Int) + 2) ∧
     (u.on (F.TSL_CHtCFG_LATEPOL t) = true)) :=
  ⟨⟨⟨by decide +kernel, by decide +kernel, pair_of (by decide +kernel) rfl⟩, by decide +kernel⟩,
   ⟨⟨by decide +kernel, by decide +kernel, pair_of (by decide +kernel) rfl⟩, by decide +kernel⟩,
   ⟨⟨by decide +kernel, by decide +kernel, pair_of (by decide +kernel) rfl⟩, by decide +kernel⟩⟩

/-- Witnesses for Obligations.ReferenceCommandsFrame. -/
theorem wit_ReferenceCommandsFrame :
    (let ratio : Nat := 0
     let err : Int := 0
     let g : Fin 5 := 0
     let ok : Bool := true
     let c : Instr := .missingEdgeDetect
     (c ∈ [Instr.filteredErrorRecomputation ratio err, .trimRemovalDone, .missingEdgeDetect, .grossErrorDetect, .primaryRestart,
      .loopPullin, .rcLoss, .rcReturn, .retdlyExpiry, .primaryReturn, .lineCalibrationDone g ok, .lineSwap g])) ∧
    (let ratio : Nat := 0
     let err : Int := 0
     let g : Fin 5 := 0
     let ok : Bool := true
     let c : Instr := .rcLoss
     (c ∈ [Instr.filteredErrorRecomputation ratio err, .trimRemovalDone, .missingEdgeDetect, .grossErrorDetect, .primaryRestart,
      .loopPullin, .rcLoss, .rcReturn, .retdlyExpiry, .primaryReturn, .lineCalibrationDone g ok, .lineSwap g])) :=
  ⟨by repeat (first | exact .head _ | apply List.Mem.tail),
   by repeat (first | exact .head _ | apply List.Mem.tail)⟩

end Sys2Proof.Tests.T20
end

section
/-!
PROOFS. A Teasel DRIVE and late events (R348, R349, R352).
-/
namespace Sys2Proof.Machine

/-! What the fetch of an instruction leaves alone (R231, R240): a wake of the bank and a corrected read reach the router and the
memory control block. -/

/-- `t` has the chain of `s`, and every register above the memory control block. -/
structure BelowDevices (s t : State) : Prop where
  word : ∀ r : Reg, 0x50005000 ≤ r.addr → t.word r = s.word r
  chn : t.chn = s.chn

theorem BelowDevices.refl (s : State) : BelowDevices s s := ⟨fun _ _ => rfl, rfl⟩

theorem BelowDevices.trans {s t u : State} (h : BelowDevices s t) (k : BelowDevices t u) : BelowDevices s u :=
  ⟨fun r hr => (k.word r hr).trans (h.word r hr), k.chn.trans h.chn⟩

theorem BelowDevices.get {s t : State} (h : BelowDevices s t) {f : Fld} (hf : 0x50005000 ≤ f.reg.addr) : t.get f = s.get f := by
  simp [State.get, h.word f.reg hf]

theorem BelowDevices.ite {s a b : State} {c : Prop} [Decidable c] (ha : BelowDevices s a) (hb : BelowDevices s b) :
    BelowDevices s (if c then a else b) := by
  split
  · exact ha
  · exact hb

theorem BelowDevices.of_router {s t : State} (h : RouterOnly s t) : BelowDevices s t :=
  ⟨fun r hr => h.word r (.inr (by omega)), h.chn_eq⟩

theorem belowDevices_setWord {r : Reg} (h : r.addr < 0x50005000) (w : Word) (s : State) : BelowDevices s (s.setWord r w) :=
  ⟨fun _ hq => s.word_setWord_other w (by omega), rfl⟩

theorem belowDevices_set {f : Fld} (h : f.reg.addr < 0x50005000) (v : Nat) (s : State) : BelowDevices s (s.set f v) :=
  belowDevices_setWord h _ s

theorem belowDevices_mem (m : Memory) (s : State) : BelowDevices s { s with mem := m } := ⟨fun _ _ => rfl, rfl⟩

theorem belowDevices_raise (n : Nat) (s : State) : BelowDevices s (s.raise n) := .of_router (routerOnly_raise s n)

theorem lt_of_mem_ite_some {c : Prop} [Decidable c] {x n : Nat} {o : Option Nat} (hx : c → x < n) (ho : ∀ b ∈ o, b < n) :
    ∀ b ∈ (if c then some x else o), b < n := by
  split
  · next hc => simpa using hx hc
  · exact ho

/-- The banks of R229 have numbers below 0x44. -/
theorem bankOf_lt {a : Nat} : ∀ b ∈ bankOf a, b < 0x44 := by
  unfold bankOf
  repeat' refine lt_of_mem_ite_some (fun _ => by omega) ?_
  simp

theorem belowDevices_bankReach {b : Nat} (hb : b < 0x44) (t : Nat) (s : State) : BelowDevices s (bankReach b t s) := by
  have hr : (R.MEM_PWR b).addr < 0x50005000 := by simp only [R.MEM_PWR]; omega
  unfold bankReach
  extract_lets wasOff ctl left array reached
  have hleft : BelowDevices s left := ⟨fun _ _ => rfl, rfl⟩
  have harray : BelowDevices left array := .ite (belowDevices_mem ..) (.refl _)
  have hreached : BelowDevices array reached :=
    (belowDevices_set (f := F.MEM_PWR_STATE b) hr t _).trans (belowDevices_set (f := F.MEM_PWR_CHANGING b) hr 0 _)
  exact hleft.trans (harray.trans (hreached.trans (.ite (belowDevices_raise ..) (.refl _))))

theorem belowDevices_bankWake {b : Nat} (hb : b < 0x44) (s : State) : BelowDevices s (bankWake b s).2 := by
  have hon := belowDevices_bankReach hb 0 s
  have hbusy := belowDevices_raise 0x22 s
  unfold bankWake
  split
  · exact hon
  · split
    · exact hon
    · exact hbusy
  · exact hbusy
  · split
    · exact .refl s
    · split
      · exact hon
      · exact hbusy
    · exact hbusy

theorem belowDevices_bankReady (a : Nat) (s : State) : BelowDevices s (bankReady a s).2 := by
  unfold bankReady
  split
  · exact .refl s
  · next b hb =>
    split
    · exact .refl s
    · exact belowDevices_bankWake (bankOf_lt b hb) s

theorem belowDevices_bankServed (a cid : Nat) (s : State) : BelowDevices s (bankServed a cid s) := by
  unfold bankServed
  split
  · exact .refl s
  · split
    · exact .refl s
    · exact ⟨fun _ _ => rfl, rfl⟩

theorem belowDevices_noteCorrected (who : Who) (a p : Nat) (s : State) : BelowDevices s (noteCorrected who a p s) := by
  unfold noteCorrected State.count
  exact ((((belowDevices_set (f := F.MEM_CECNT_CE) (by decide) _ s).trans
    (belowDevices_setWord (r := R.MEM_CELAST) (by decide) _ _)).trans
    (belowDevices_set (f := F.MEM_CEINFO_CID) (by decide) _ _)).trans
    (belowDevices_set (f := F.MEM_CEINFO_BIT) (by decide) _ _)).trans (belowDevices_raise ..)

/-- A read that gives a word was good or corrected (R231). -/
theorem belowDevices_ramReadWord {who : Who} {kind a : Nat} {w : Word} {s u : State} (h : ramReadWord who kind a s = (some w, u)) :
    BelowDevices s u := by
  have hs := belowDevices_bankServed a who.cid s
  unfold ramReadWord at h
  dsimp only at h
  split at h
  · rw [← (Prod.mk.inj h).2]
    exact hs
  · rw [← (Prod.mk.inj h).2]
    exact hs.trans ((belowDevices_mem _ _).trans (belowDevices_noteCorrected ..))
  · exact absurd (Prod.mk.inj h).1 (by simp)

theorem TslFetches.belowDevices {t : Fin 24} {w : Word} {s u : State} (h : TslFetches t w s u) : BelowDevices s u :=
  have hb : BelowDevices s s.begin := ⟨fun _ _ => rfl, rfl⟩
  (hb.trans (belowDevices_bankReady ..)).trans (belowDevices_ramReadWord h.2.2)

/-- A channel that fetches runs on. -/
theorem TslFetches.runs {t : Fin 24} {w : Word} {s u : State} (h : TslFetches t w s u) : tslRuns t u = true := by
  have hg : u.get (F.TSL_CHtCTL_RUN t) = s.get (F.TSL_CHtCTL_RUN t) :=
    h.belowDevices.get (by simp only [F.TSL_CHtCTL_RUN, R.TSL_CHtCTL]; omega)
  have hr := h.1
  unfold tslRuns State.on at hr ⊢
  rwa [hg]

/-! The step of a channel whose turn it is, on the word it fetches. -/

section
variable {t : Fin 24} {w : Word} {s u : State} {mine : Word → Bool}

theorem tslStep_of_next {v : State} (hf : TslFetches t w s u) (ht : tslTurn t s.begin = true) (hm : mine w = true)
    (hx : tslExec t w u = .next v) : tslStep t mine s.begin = v.tslAt t (s.get (F.TSL_CHtPC_PC t) + 1) := by
  obtain ⟨e, hready, hread⟩ := hf.eq
  have hrun : tslRuns t s.begin = true := hf.1
  simp [tslStep, tslAddr, hrun, hready, hread, hm, hx, ht, State.tslAt]

theorem tslStep_of_stop {c : Nat} {v : State} (hf : TslFetches t w s u) (ht : tslTurn t s.begin = true) (hm : mine w = true)
    (hc : c ≠ 1) (hx : tslExec t w u = .stop c v) : tslStep t mine s.begin = v.tslStops t c := by
  obtain ⟨e, hready, hread⟩ := hf.eq
  have hrun : tslRuns t s.begin = true := hf.1
  simp [tslStep, tslAddr, hrun, hready, hread, hm, hx, ht, hc, State.tslStops]

end

/-! The parts of a state after the operations of a DRIVE: a post, a write of TC, the end of the step, and a stop. -/

/-- Pin `n` takes the event `(d, k)`, in place of one for the same tick (R348). -/
def State.postPin (n : Nat) (d : PinDrive) (k : Nat) (s : State) : State :=
  setPin n { pinAt n s with queue := (pinAt n s).queue.filter (fun e => e.2 != k) ++ [(d, k)] } s

theorem pinAt_setPin_same {n : Nat} (hn : n < 32) (x : TslPin) (s : State) : pinAt n (setPin n x s) = x := by
  simp [pinAt, setPin, hn]

theorem queue_postPin {n : Nat} (hn : n < 32) (d : PinDrive) (k : Nat) (s : State) :
    (pinAt n (s.postPin n d k)).queue = (pinAt n s).queue.filter (fun e => e.2 != k) ++ [(d, k)] := by
  rw [State.postPin, pinAt_setPin_same hn]

theorem pinAt_congr {s t : State} (h : t.tslPin = s.tslPin) (n : Nat) : pinAt n t = pinAt n s := by rw [pinAt, pinAt, h]

@[simp] theorem State.get_postPin (n : Nat) (d : PinDrive) (k : Nat) (s : State) (f : Fld) : (s.postPin n d k).get f = s.get f :=
  State.get_congr rfl f
@[simp] theorem State.chn_postPin (n : Nat) (d : PinDrive) (k : Nat) (s : State) : (s.postPin n d k).chn = s.chn := by
  simp [State.postPin, setPin]

@[simp] theorem pinAt_putTick (n t : Nat) (k : Int) (s : State) : pinAt n (putTick t k s) = pinAt n s :=
  pinAt_congr (s.set_tslPin (F.TSL_CHtTC_TC t) _) n
@[simp] theorem pinAt_tslAt (n : Nat) (t : Fin 24) (pc : Nat) (s : State) : pinAt n (s.tslAt t pc) = pinAt n s :=
  pinAt_congr (by simp [State.tslAt, tslServed]) n
@[simp] theorem tb9_putTick (t : Nat) (k : Int) (s : State) : tb9 (putTick t k s) = tb9 s := rfl
@[simp] theorem chn_putTick (t : Nat) (k : Int) (s : State) : (putTick t k s).chn = s.chn := s.set_chn (F.TSL_CHtTC_TC t) _
@[simp] theorem chn_tslAt (t : Fin 24) (pc : Nat) (s : State) : (s.tslAt t pc).chn = s.chn := by
  simp [State.tslAt, tslServed]
@[simp] theorem chn_tslStops (t : Fin 24) (c : Nat) (s : State) : (s.tslStops t c).chn = s.chn := by
  simp [State.tslStops, tslServed, tslStop]
@[simp] theorem get_tslServed (t : Nat) (s : State) (f : Fld) : (tslServed t s).get f = s.get f := rfl

theorem get_putTick {t : Nat} {f : Fld} (h : f.reg.addr ≠ (R.TSL_CHtTC t).addr) (k : Int) (s : State) :
    (putTick t k s).get f = s.get f := s.get_set_other h _

/-- The end of a step writes PC and WAIT alone. -/
theorem get_tslAt {t : Fin 24} {f : Fld} (hpc : f.reg.addr ≠ (R.TSL_CHtPC t).addr)
    (hw : f.reg.addr ≠ (R.TSL_CHtSTAT t).addr ∨ f.reg = R.TSL_CHtSTAT t ∧ 2 ≤ f.lo) (pc : Nat) (s : State) :
    (s.tslAt t pc).get f = s.get f := by
  rw [State.tslAt, get_tslServed, State.get_set_other _ hpc]
  rcases hw with hw | ⟨hr, hlo⟩
  · exact s.get_set_other hw 0
  · exact s.get_set_beside (f := F.TSL_CHtSTAT_WAIT t) hr (by simp [F.TSL_CHtSTAT_WAIT]) (.inr hlo) 0

theorem get_withPins (p : Vector TslPin 32) (s : State) (f : Fld) : { s with tslPin := p }.get f = s.get f := rfl

/-- A stopped channel does not run (R360): of the writes of a stop, only that of RUN itself reaches TSL_CHtCTL. -/
theorem tslRuns_tslStops (t : Fin 24) (c : Nat) (s : State) : tslRuns t (s.tslStops t c) = false := by
  have hstat : (R.TSL_CHtCTL t).addr ≠ (R.TSL_CHtSTAT t).addr := by simp only [R.TSL_CHtCTL, R.TSL_CHtSTAT]; omega
  have hrunning : (R.TSL_CHtCTL t).addr ≠ R.TSL_RUNNING.addr := by simp only [R.TSL_CHtCTL, R.TSL_RUNNING]; omega
  have hget : (s.tslStops t c).get (F.TSL_CHtCTL_RUN t) = 0 := by
    rw [State.tslStops, get_tslServed, tslStop]
    simp only [get_withPins, State.setBit]
    rw [State.get_set_other _ hstat, State.get_set_other _ hstat, State.get_set_other _ hstat, State.get_set_other _ hrunning,
      State.get_set_other _ hstat, State.get_set_same _ (by simp [F.TSL_CHtCTL_RUN])]
    rfl
  simp [tslRuns, State.on, hget]

theorem get_stopcause_tslStops (t : Fin 24) (c : Nat) (s : State) :
    (s.tslStops t c).get (F.TSL_CHtSTAT_STOPCAUSE t) = c % 8 := by
  rw [State.tslStops, get_tslServed, tslStop]
  simp only [get_withPins]
  exact State.get_set_same _ (by simp [F.TSL_CHtSTAT_STOPCAUSE]) c

/-- A pin that an instruction names lies in the channel's window and among the 32 pins (R351). -/
theorem tslPinOf_bounds {t p n : Nat} {s : State} (h : tslPinOf t p s = some n) :
    tslBase t s ≤ n ∧ n < tslBase t s + tslCount t s ∧ n < 32 := by
  unfold tslPinOf at h
  split at h
  · next hp =>
    have hn : tslBase t s + p = n := Option.some.inj h
    omega
  · cases h

/-- A stop empties the queues of the pins in the channel's window (R360). -/
theorem queue_tslStops {t : Fin 24} {n : Nat} {s : State} (hlo : tslBase t s ≤ n) (hhi : n < tslBase t s + tslCount t s)
    (hn : n < 32) (c : Nat) : (pinAt n (s.tslStops t c)).queue = [] := by
  unfold tslBase tslCount at *
  simp [State.tslStops, tslServed, tslStop, pinAt, hn, hlo, hhi]

/-! A post (R349) and a DRIVE (R352). -/

/-- Channel `t` notes a late event: LATE sets and LATECNT counts (R349). -/
def State.noteLate (t : Nat) (s : State) : State := (s.set (F.TSL_CHtSTAT_LATE t) 1).count (F.TSL_CHtLATECNT_COUNT t)

@[simp] theorem pinAt_noteLate (n t : Nat) (s : State) : pinAt n (s.noteLate t) = pinAt n s :=
  pinAt_congr (((s.set _ 1).set_tslPin (F.TSL_CHtLATECNT_COUNT t) _).trans (s.set_tslPin (F.TSL_CHtSTAT_LATE t) 1)) n
@[simp] theorem chn_noteLate (t : Nat) (s : State) : (s.noteLate t).chn = s.chn :=
  ((s.set _ 1).set_chn (F.TSL_CHtLATECNT_COUNT t) _).trans (s.set_chn (F.TSL_CHtSTAT_LATE t) 1)

theorem tslPost_of_onTime {t n : Nat} {d : PinDrive} {k : Int} {s : State} (h : (tb9 s : Int) + 2 ≤ k) :
    tslPost t n d k s = .next (s.postPin n d k.toNat) := by
  simp [tslPost, State.postPin, not_lt.2 h]

theorem tslPost_of_late {t n : Nat} {d : PinDrive} {k : Int} {s : State} (h : k < (tb9 s : Int) + 2)
    (hp : s.on (F.TSL_CHtCFG_LATEPOL t) = false) :
    tslPost t n d k s = .next ((s.noteLate t).postPin n d (tb9 s + 2)) := by
  rw [State.postPin, pinAt_noteLate, State.noteLate]
  simp [tslPost, h, hp]

theorem tslPost_of_late_stop {t n : Nat} {d : PinDrive} {k : Int} {s : State} (h : k < (tb9 s : Int) + 2)
    (hp : s.on (F.TSL_CHtCFG_LATEPOL t) = true) : tslPost t n d k s = .stop 3 s := by
  simp [tslPost, h, hp]

/-- The level that DRIVE `w` names (R352). -/
def driveLevel (t : Nat) (w : Word) (s : State) : PinDrive :=
  if fieldOf 23 2 w = 0 then .low else if fieldOf 23 2 w = 1 then .high else if fieldOf 23 2 w = 2 then .z
  else if s.get (F.TSL_CHtSO t) % 2 = 1 then .high else .low

/-- The tick that DRIVE `w` moves TC to (R352). -/
def driveTick (t : Nat) (w : Word) (s : State) : Int :=
  tslTick t s + (if fieldOf 22 1 w = 1 then s.get (F.TSL_CHtS1 t) % 65536 else fieldOf 0 16 w : Nat)

/-- A well-formed DRIVE to a pin whose queue has room posts its level at the new TC (R352, R355). -/
theorem tslExec_drive {t : Nat} {w : Word} {n : Nat} {s : State} (hc : fieldOf 28 4 w = 1) (hz : fieldOf 16 6 w = 0)
    (hn : tslPinOf t (fieldOf 25 3 w) s = some n) (hq : (pinAt n s).queue.length < 2) :
    tslExec t w s = tslPost t n (driveLevel t w s) (driveTick t w s) (putTick t (driveTick t w s) s) := by
  simp only [tslExec, hc, tslDrive, hn, hz, ne_eq, not_true_eq_false, if_false, not_le.2 hq]
  congr 1
  unfold driveLevel
  split
  · next h => rw [if_pos h]
  · next h => simp [h]
  · next h => simp [h]
  · next hlow hhigh hoff => rw [if_neg hlow, if_neg hhigh, if_neg hoff]

section
variable {t : Fin 24} {w : Word} {n : Nat} {s u v : State}

/-- A DRIVE that goes on. -/
theorem exec_drive_of_next (hf : TslFetches t w s u) (ht : tslTurn t s.begin = true) (hd : s.chn.done = [])
    (hc : fieldOf 28 4 w = 1) (hx : tslExec t w u = .next v) (hv : v.chn = u.chn) :
    exec (.drive t) s = .next (v.tslAt t (s.get (F.TSL_CHtPC_PC t) + 1)) := by
  change rowS (tslStep t (tslClass 1)) s = _
  rw [rowS, tslStep_of_next hf ht (by simp [tslClass, hc]) hx, settle_of_nil (by simp [hv, hf.belowDevices.chn, hd])]

/-- A DRIVE that stops its channel. -/
theorem exec_drive_of_stop {c : Nat} (hf : TslFetches t w s u) (ht : tslTurn t s.begin = true) (hd : s.chn.done = [])
    (hc : fieldOf 28 4 w = 1) (hhalt : c ≠ 1) (hx : tslExec t w u = .stop c v) (hv : v.chn = u.chn) :
    exec (.drive t) s = .next (v.tslStops t c) := by
  change rowS (tslStep t (tslClass 1)) s = _
  rw [rowS, tslStep_of_stop hf ht (by simp [tslClass, hc]) hhalt hx, settle_of_nil (by simp [hv, hf.belowDevices.chn, hd])]

end

/-! What a channel's registers read after a DRIVE has moved TC and gone on. -/

section
variable (t : Fin 24) (pc : Nat) (k : Int) (s : State)

@[simp] theorem get_run_tslAt : (s.tslAt t pc).get (F.TSL_CHtCTL_RUN t) = s.get (F.TSL_CHtCTL_RUN t) :=
  get_tslAt (by simp [F.TSL_CHtCTL_RUN, R.TSL_CHtCTL, R.TSL_CHtPC]) (.inl (by simp [F.TSL_CHtCTL_RUN, R.TSL_CHtCTL, R.TSL_CHtSTAT])) pc s
@[simp] theorem get_late_tslAt : (s.tslAt t pc).get (F.TSL_CHtSTAT_LATE t) = s.get (F.TSL_CHtSTAT_LATE t) :=
  get_tslAt (by simp [F.TSL_CHtSTAT_LATE, R.TSL_CHtSTAT, R.TSL_CHtPC]) (.inr ⟨rfl, by simp [F.TSL_CHtSTAT_LATE]⟩) pc s
@[simp] theorem get_latecnt_tslAt : (s.tslAt t pc).get (F.TSL_CHtLATECNT_COUNT t) = s.get (F.TSL_CHtLATECNT_COUNT t) :=
  get_tslAt (by simp [F.TSL_CHtLATECNT_COUNT, R.TSL_CHtLATECNT, R.TSL_CHtPC])
    (.inl (by simp [F.TSL_CHtLATECNT_COUNT, R.TSL_CHtLATECNT, R.TSL_CHtSTAT])) pc s

@[simp] theorem get_run_putTick : (putTick t k s).get (F.TSL_CHtCTL_RUN t) = s.get (F.TSL_CHtCTL_RUN t) :=
  get_putTick (by simp [F.TSL_CHtCTL_RUN, R.TSL_CHtCTL, R.TSL_CHtTC]) k s
@[simp] theorem get_late_putTick : (putTick t k s).get (F.TSL_CHtSTAT_LATE t) = s.get (F.TSL_CHtSTAT_LATE t) :=
  get_putTick (by simp [F.TSL_CHtSTAT_LATE, R.TSL_CHtSTAT, R.TSL_CHtTC]) k s
@[simp] theorem get_latecnt_putTick : (putTick t k s).get (F.TSL_CHtLATECNT_COUNT t) = s.get (F.TSL_CHtLATECNT_COUNT t) :=
  get_putTick (by simp [F.TSL_CHtLATECNT_COUNT, R.TSL_CHtLATECNT, R.TSL_CHtTC]) k s
theorem word_cfg_putTick : (putTick t k s).word (R.TSL_CHtCFG t) = s.word (R.TSL_CHtCFG t) :=
  s.word_set_other (f := F.TSL_CHtTC_TC t) (by simp [F.TSL_CHtTC_TC, R.TSL_CHtTC, R.TSL_CHtCFG]) _
theorem on_latepol_putTick : (putTick t k s).on (F.TSL_CHtCFG_LATEPOL t) = s.on (F.TSL_CHtCFG_LATEPOL t) := by
  simp [State.on, State.get, F.TSL_CHtCFG_LATEPOL, word_cfg_putTick]
theorem tslPinOf_putTick (p : Nat) : tslPinOf t p (putTick t k s) = tslPinOf t p s := by
  simp [tslPinOf, tslCount, tslBase, State.get, F.TSL_CHtCFG_PINBASE, F.TSL_CHtCFG_PINCNT, word_cfg_putTick]

theorem on_late_noteLate : (s.noteLate t).on (F.TSL_CHtSTAT_LATE t) = true := by
  have h : (s.noteLate t).get (F.TSL_CHtSTAT_LATE t) = 1 := by
    rw [State.noteLate, State.count,
      State.get_set_other _ (by simp [F.TSL_CHtSTAT_LATE, F.TSL_CHtLATECNT_COUNT, R.TSL_CHtSTAT, R.TSL_CHtLATECNT]),
      State.get_set_same _ (by simp [F.TSL_CHtSTAT_LATE])]
    rfl
  simp [State.on, h]

theorem get_latecnt_noteLate :
    (s.noteLate t).get (F.TSL_CHtLATECNT_COUNT t) = min (s.get (F.TSL_CHtLATECNT_COUNT t) + 1) 0xFFFF := by
  rw [State.noteLate, State.get_count_same _ (by simp [F.TSL_CHtLATECNT_COUNT]),
    State.get_set_other _ (by simp [F.TSL_CHtSTAT_LATE, F.TSL_CHtLATECNT_COUNT, R.TSL_CHtSTAT, R.TSL_CHtLATECNT])]
  rfl

@[simp] theorem get_run_noteLate : (s.noteLate t).get (F.TSL_CHtCTL_RUN t) = s.get (F.TSL_CHtCTL_RUN t) := by
  rw [State.noteLate, State.count,
    State.get_set_other _ (by simp [F.TSL_CHtCTL_RUN, F.TSL_CHtLATECNT_COUNT, R.TSL_CHtCTL, R.TSL_CHtLATECNT]),
    State.get_set_other _ (by simp [F.TSL_CHtCTL_RUN, F.TSL_CHtSTAT_LATE, R.TSL_CHtCTL, R.TSL_CHtSTAT])]

end

/-! The three ends of a DRIVE whose event finds room (R349). -/

section
variable {t : Fin 24} {w : Word} {n : Nat} {s u : State} (hf : TslFetches t w s u) (ht : tslTurn t s.begin = true)
  (hd : s.chn.done = []) (hc : fieldOf 28 4 w = 1) (hz : fieldOf 16 6 w = 0) (hn : tslPinOf t (fieldOf 25 3 w) u = some n)
  (hq : (pinAt n u).queue.length < 2)
include hf ht hd hc hz hn hq

theorem drive_onTime (hk : (tb9 u : Int) + 2 ≤ driveTick t w u) : Ends (.drive t) s fun v =>
    (pinAt n v).queue = (pinAt n u).queue.filter (fun e => e.2 != (driveTick t w u).toNat) ++
      [(driveLevel t w u, (driveTick t w u).toNat)] ∧
    v.get (F.TSL_CHtSTAT_LATE t) = u.get (F.TSL_CHtSTAT_LATE t) ∧
    v.get (F.TSL_CHtLATECNT_COUNT t) = u.get (F.TSL_CHtLATECNT_COUNT t) ∧ tslRuns t v = true := by
  obtain ⟨-, -, hn32⟩ := tslPinOf_bounds hn
  have hx := (tslExec_drive hc hz hn hq).trans (tslPost_of_onTime (by rwa [tb9_putTick]))
  refine ⟨_, exec_drive_of_next hf ht hd hc hx (by simp), ?_, by simp, by simp, ?_⟩
  · simp [queue_postPin hn32]
  · simpa [tslRuns, State.on] using hf.runs

theorem drive_late (hk : driveTick t w u < (tb9 u : Int) + 2) (hp : u.on (F.TSL_CHtCFG_LATEPOL t) = false) :
    Ends (.drive t) s fun v =>
      (pinAt n v).queue = (pinAt n u).queue.filter (fun e => e.2 != tb9 u + 2) ++ [(driveLevel t w u, tb9 u + 2)] ∧
      v.on (F.TSL_CHtSTAT_LATE t) = true ∧
      v.get (F.TSL_CHtLATECNT_COUNT t) = min (u.get (F.TSL_CHtLATECNT_COUNT t) + 1) 0xFFFF ∧ tslRuns t v = true := by
  obtain ⟨-, -, hn32⟩ := tslPinOf_bounds hn
  have hx := (tslExec_drive hc hz hn hq).trans (tslPost_of_late (by rwa [tb9_putTick]) (by rwa [on_latepol_putTick]))
  refine ⟨_, exec_drive_of_next hf ht hd hc hx (by simp), ?_, ?_, ?_, ?_⟩
  · simp [queue_postPin hn32]
  · simpa [State.on] using on_late_noteLate t (putTick t (driveTick t w u) u)
  · simp [get_latecnt_noteLate]
  · simpa [tslRuns, State.on] using hf.runs

theorem drive_late_stops (hk : driveTick t w u < (tb9 u : Int) + 2) (hp : u.on (F.TSL_CHtCFG_LATEPOL t) = true) :
    Ends (.drive t) s fun v =>
      (pinAt n v).queue = [] ∧ tslRuns t v = false ∧ v.get (F.TSL_CHtSTAT_STOPCAUSE t) = 3 := by
  have hx := (tslExec_drive hc hz hn hq).trans (tslPost_of_late_stop (by rwa [tb9_putTick]) (by rwa [on_latepol_putTick]))
  obtain ⟨hlo, hhi, hn32⟩ := tslPinOf_bounds ((tslPinOf_putTick t (driveTick t w u) u (fieldOf 25 3 w)).trans hn)
  exact ⟨_, exec_drive_of_stop hf ht hd hc (by decide) hx (chn_putTick ..), queue_tslStops hlo hhi hn32 3,
    tslRuns_tslStops .., get_stopcause_tslStops ..⟩

end

/-- Settles O30: a DRIVE posts its event through `tslPost`, whose three cases are those of R349; the fetch before it and the end of the
step after it touch neither the pins, LATE nor LATECNT. -/
theorem teaselLateEvents : Obligations.TeaselLateEvents := by
  unfold Obligations.TeaselLateEvents
  intro t w n s u hf ht hd hc hz hn hq
  exact ⟨drive_onTime hf ht hd hc hz hn hq, drive_late hf ht hd hc hz hn hq, drive_late_stops hf ht hd hc hz hn hq⟩

end Sys2Proof.Machine
end

section
/-!
PROOFS. Maintenance sessions and relay rounds (R423 to R425).
-/
namespace Sys2Proof.Machine

/-- While a maintenance session is open the relay source waits (R425). -/
theorem relayRoundStart_of_session {s : State} (h : s.on F.CHN_MAINT_OPEN = true) : relayRoundStart s = s := by
  simp [relayRoundStart, h]

/-- A maintenance frame is accepted only in RUN, after step 12, or in LIMP (R425). -/
theorem bootState_of_maintOk {p : Nat} {f : Frame} {s : State} (h : maintOk p f s = true) :
    s.get F.SYS_BOOTSTAT_STATE = 8 ∨ s.get F.SYS_BOOTSTAT_STATE = 9 := by
  simp only [maintOk, inRun, inLimp, Bool.and_eq_true, Bool.or_eq_true, beq_iff_eq] at h
  obtain ⟨-, ⟨hrun, -⟩ | hlimp⟩ := h
  · exact .inl hrun
  · exact .inr hlimp

section
variable {p : Nat} {f : Frame} {u : State}

/-! What the status of a flash operation is in an open session (R424): BUSY is decided before NOFLASH, and both before the operands. -/

theorem flashStatus_of_busy (hok : maintOk p f u = true) (hopen : u.on F.CHN_MAINT_OPEN = true)
    (hbusy : u.chn.relay.sending.isSome = true ∨ u.chn.maintOp.isSome = true) (off n : Nat) (count aligned : Bool) :
    flashStatus p f off n count aligned u = 6 := by
  simp [flashStatus, hok, hopen, hbusy]

theorem flashStatus_of_noFlash (hok : maintOk p f u = true) (hopen : u.on F.CHN_MAINT_OPEN = true)
    (hround : u.chn.relay.sending = none) (hop : u.chn.maintOp = none)
    (hflash : u.on F.SYS_STRAP_BOOTSRC = false ∨ noFlash u = true) (off n : Nat) (count aligned : Bool) :
    flashStatus p f off n count aligned u = 2 := by
  simp [flashStatus, hok, hopen, hround, hop, hflash]

/-- A status other than 0 answers the operation, which does not start (R424). -/
theorem flashStart_of_refused {status : Nat} (h : status ≠ 0) (op : FlashOp) :
    flashStart p f status op u = mrsp f status [] (maintRenew p f u) := by
  simp [flashStart, h]

end

/-- A command that acts on the frame `Received` ends with what its operation does to that frame. -/
theorem Received.rowS {p cls typ : Nat} {f : Frame} {s u : State} (h : Received p cls typ f s u) (op : Frame → State → State) :
    rowS (Machine.onFrame p cls typ op) s = .next (settle (op f u)) := by
  rw [Machine.rowS, h.onFrame]

/-- Where the status is `n` whatever the operands of a flash operation, each of the three operations is answered `n` (R424). -/
theorem flashOperations_refused {p : Fin 3} {f : Frame} {s u : State} {n : Nat} (hn : n ≠ 0)
    (hstatus : ∀ off len count aligned, flashStatus p f off len count aligned u = n) :
    let refused : Result := .next (settle (mrsp f n [] (maintRenew p f u)))
    (Received p 3 0x22 f s u → exec (.mread p) s = refused) ∧
    (Received p 3 0x23 f s u → exec (.merase p) s = refused) ∧
    (Received p 3 0x24 f s u → exec (.mprog p) s = refused) := by
  refine ⟨fun h => (h.rowS _).trans ?_, fun h => (h.rowS _).trans ?_, fun h => (h.rowS _).trans ?_⟩
  · rw [onMread, hstatus, flashStart_of_refused hn]
  · rw [onMerase, hstatus, flashStart_of_refused hn]
  · rw [onMprog, hstatus, flashStart_of_refused hn]

/-- Settles O48: an open session holds back the round, and in a session the status of a flash operation is BUSY, else NOFLASH, before
its operands are looked at. -/
theorem maintenanceExcludesRelay : Obligations.MaintenanceExcludesRelay := by
  unfold Obligations.MaintenanceExcludesRelay
  refine ⟨fun s hopen => ?_, fun p f s u hok hopen => ⟨fun hbusy => ?_, fun hround hop hflash => ?_⟩,
    fun p f s hok => bootState_of_maintOk hok⟩
  · exact congrArg Host.Outcome.next (relayRoundStart_of_session (s := s.begin) hopen)
  · exact flashOperations_refused (by decide) (flashStatus_of_busy hok hopen hbusy)
  · exact flashOperations_refused (by decide) (flashStatus_of_noFlash hok hopen hround hop hflash)

end Sys2Proof.Machine
end

section
/-!
PROOFS. Clearing faults through LCS_FCLR (R477).
-/
namespace Sys2Proof.Machine

/-- LCS_FCLR stands in the register tables (R480). -/
theorem regRow?_lcsFclr : ∃ row, regRow? R.LCS_FCLR.addr = some row :=
  Option.isSome_iff_exists.mp (by decide +kernel)

/-- A write of LCS_FCLR by CID 1 is a fault clear with the KEY written. -/
theorem specialWrite_lcsFclr (row : RegRow) (w : Word) (mask : Nat) (s : State) :
    specialWrite row 1 R.LCS_FCLR.addr w mask s = some (.ok 0#64, faultClear (fieldOf 0 16 w) s) := by
  simp [specialWrite, lcsWrite, R.LCS_FCLR]

theorem fieldOf_setWidth_key (key : BitVec 16) : fieldOf 0 16 (key.setWidth 32) = key.toNat := by
  simp only [fieldOf, BitVec.toNat_setWidth]
  omega

theorem exec_faultClear {key : BitVec 16} {s : State} (h : Admits 1 true R.LCS_FCLR.addr s) :
    exec (.faultClear 1 key) s = .next (settle (faultClear key.toNat s.begin)) := by
  obtain ⟨row, hrow⟩ := regRow?_lcsFclr
  have hw := specialWrite_lcsFclr row (key.setWidth 32) 15 s.begin
  rw [fieldOf_setWidth_key] at hw
  exact write_row h hrow hw (by decide)

/-- `s` with the sticky bits of inactive sources cleared: the first effect of a keyed write (R477). -/
def dropInactiveSticky (s : State) : State := s.set F.LCS_FSTICKY (s.get F.LCS_FSTICKY &&& s.get F.LCS_FACT)

/-- Is a source that acts as SAFE active (R475, R477)? -/
def safeSourceActive (s : State) : Bool := (List.range 12).any fun b => s.bit F.LCS_FACT b && actsSafe b s

theorem safeSourceActive_iff {s : State} :
    safeSourceActive s = true ↔ ∃ b < 12, s.bit F.LCS_FACT b = true ∧ actsSafe b s = true := by
  simp [safeSourceActive]

@[simp] theorem on_safe_dropInactiveSticky (s : State) :
    (dropInactiveSticky s).on F.LCS_FSTAT_SAFE = s.on F.LCS_FSTAT_SAFE := by
  rw [State.on, State.on, dropInactiveSticky, State.get_set_other _ (by decide)]

@[simp] theorem safeSourceActive_dropInactiveSticky (s : State) :
    safeSourceActive (dropInactiveSticky s) = safeSourceActive s := by
  simp only [safeSourceActive, actsSafe, State.bit, dropInactiveSticky]
  rw [State.get_set_other _ (by decide), State.get_set_other _ (by decide)]

/-! A write with another KEY, and the two ends of a keyed one: SAFE keeps, or clears with its event (R477). -/

theorem faultClear_of_ne_key {key : Nat} (h : key ≠ 0xFC1A) (s : State) : faultClear key s = s := if_pos h

theorem faultClear_keyed (s : State) : faultClear 0xFC1A s =
    faultSummary (if s.on F.LCS_FSTAT_SAFE && !safeSourceActive s then
      ((dropInactiveSticky s).set F.LCS_FSTAT_SAFE 0).raise 0xE4 else dropInactiveSticky s) := by
  rw [← on_safe_dropInactiveSticky, ← safeSourceActive_dropInactiveSticky]
  rfl

theorem faultClear_of_safe_kept {s : State} (h : s.on F.LCS_FSTAT_SAFE = false ∨ safeSourceActive s = true) :
    faultClear 0xFC1A s = faultSummary (dropInactiveSticky s) := by
  obtain hoff | hactive := h
  · simp [faultClear_keyed, hoff]
  · simp [faultClear_keyed, hactive]

theorem faultClear_of_safe_cleared {s : State} (hon : s.on F.LCS_FSTAT_SAFE = true) (hquiet : safeSourceActive s = false) :
    faultClear 0xFC1A s = faultSummary (((dropInactiveSticky s).set F.LCS_FSTAT_SAFE 0).raise 0xE4) := by
  simp [faultClear_keyed, hon, hquiet]

end Sys2Proof.Machine

namespace Sys2Proof.Proofs
open Sys2Proof.Machine

/-- Settles O53: the write runs `faultClear` with its KEY, and dropping the inactive sticky bits changes neither SAFE nor what decides
whether it clears. -/
theorem faultClear : Obligations.FaultClear := by
  unfold Obligations.FaultClear
  intro key s hadm u ends
  have hends {t : State} (h : Machine.faultClear key.toNat s.begin = t) : ends t := h ▸ exec_faultClear hadm
  refine ⟨fun hkey => ?_, ?_, ?_, ?_⟩
  · exact hends (faultClear_of_ne_key (fun h => hkey (BitVec.eq_of_toNat_eq h)) _)
  · rintro rfl hsource
    exact hends (faultClear_of_safe_kept (.inr (safeSourceActive_iff.mpr hsource)))
  · rintro rfl hoff
    exact hends (faultClear_of_safe_kept (.inl hoff))
  · rintro rfl hon hnone
    have hquiet : safeSourceActive s.begin = false :=
      Bool.eq_false_iff.mpr fun h =>
        have ⟨b, hb, hsource⟩ := safeSourceActive_iff.mp h
        hnone b hb hsource
    exact hends (faultClear_of_safe_cleared hon hquiet)

end Sys2Proof.Proofs
end

section
/-!
PROOFS. Every command answers a next state, and every step is sound (Laws/Sound.lean): the queue is left alone, no blown fuse is undone
and the canonical form is kept.
-/
namespace Sys2Proof.Machine
open Sys2Proof

/-- The outcome is a next state that is a sound successor of `s`. -/
def EndsSound (s : State) (r : Result) : Prop := ∃ t, r = .next t ∧ Sound s t

theorem EndsSound.row {f : State → State} (hf : ∀ t, Sound t (f t)) {s : State} : EndsSound s (row f s) :=
  ⟨_, rfl, (sound_begin s).trans (hf _)⟩

theorem EndsSound.rowS {f : State → State} (hf : ∀ t, Sound t (f t)) {s : State} : EndsSound s (rowS f s) :=
  ⟨_, rfl, ((sound_begin s).trans (hf _)).trans (sound_settle _)⟩

theorem EndsSound.onFrame {p cls typ : Nat} {op : Frame → State → State} (hop : ∀ f t, Sound t (op f t)) {s : State} :
    EndsSound s (Machine.rowS (Machine.onFrame p cls typ op) s) := .rowS fun _ => sound_onFrame hop

/-! The effects that a row of the table writes out, case by case. -/

/-- A pulse on nRST: a whole one, none, or one that a free value decides (R41). -/
theorem sound_pinPulse (ns : Nat) (s : State) :
    Sound s (if 1000 ≤ ns then resetTo 1 s else if ns < 100 then s else
      let r := s.draw
      if r.1 % 2 = 1 then resetTo 1 r.2 else r.2) :=
  .ite (sound_resetTo ..) (.ite (.refl s) (.ite (.trans (sound_draw s) (sound_resetTo ..)) (sound_draw s)))

theorem sound_conversionEnd (c : Nat) (s : State) :
    Sound s (match (s.conv c).cur with | some x => xsrcUpdate c x (adcEnd c s) | none => adcEnd c s) := by
  split
  · exact (sound_adcEnd ..).trans (sound_xsrcUpdate ..)
  · exact sound_adcEnd ..

theorem sound_responseTimeout (i : Nat) (host : Option Byte) (s : State) :
    Sound s (match host with | some t => hostTimeout t.toNat s | none => respTimeout i s) := by
  split
  · exact sound_hostTimeout ..
  · exact sound_respTimeout ..

theorem sound_msgtoExpiry (held : Option (Fin 3)) (src tag : Nat) (s : State) :
    Sound s (match held with | some p => msgtoHeld p.val s | none => msgtoAssembly src tag s) := by
  split
  · exact sound_msgtoHeld ..
  · exact sound_msgtoAssembly ..

/-- Every command answers a next state, a sound successor: one case for each shared operation that rows of the table run. -/
theorem exec_endsSound (c : Instr) (s : State) : EndsSound s (exec c s) := by
  unfold exec
  cases c with
  | powerOnReset => exact .row (fun _ => sound_resetTo ..)
  | softrstWrite | bootConfirm | evrSwraise | evrLockWrite | dmaStart | dmaAbort | dmaSwtrig | coreRestart | holdRelease
  | powerStateRequest | secureWipe | marchStart | marchAbort | injectionArm | semGive | semCancel | semReclaim | mailboxAck | poolFree
  | poolGive | poolLink | poolReclaim | gcommit | arm | disarm | clrflt | legCfgWrite | adcEnable | adcDisable | adcSoft | channelStart
  | channelStopWrite | fifoOutWrite | uartDataWrite | msgsend | policyClear | tampcfgWrite | watchdogEnable | watchdogKick | faultSet
  | faultClear | pinSwitchRequest | gpioSet | gpioClear => exact .rowS (fun _ => sound_fabricWrite ..)
  | bootSequence => exact .row (fun _ => sound_bootSequence ..)
  | personalityWaitTimeout => exact .row (fun _ => sound_persTimeout ..)
  | fuseBitDone => exact .row (fun _ => sound_fuseBitDone ..)
  | relayRoundStart => exact .row (fun _ => sound_relayRoundStart ..)
  | relayFrameTimeout => exact .row (fun _ => sound_relayTimeout ..)
  | relaytoExpiry => exact .row (fun _ => sound_relaytoExpire ..)
  | limpRelayRetry => exact .row (fun _ => sound_limpRetry ..)
  | servicePoint => exact .rowS (fun _ => sound_servicePoint ..)
  | scheduledAction => exact .row (fun _ => sound_dueAction ..)
  | timebaseLock => exact .row (fun _ => sound_gainLock ..)
  | lossOfLock => exact .row (fun _ => sound_loseLock ..)
  | filteredErrorRecomputation => exact .row (fun _ => sound_recompute ..)
  | trimRemovalDone => exact .row (fun _ => sound_trimDone ..)
  | missingEdgeDetect => exact .row (fun _ => sound_missingEdge ..)
  | grossErrorDetect => exact .row (fun _ => sound_grossError ..)
  | primaryRestart => exact .row (fun _ => sound_primaryRestart ..)
  | loopPullin => exact .row (fun _ => sound_loopPullin ..)
  | holdoverExpiry => exact .row (fun _ => sound_holdoverExpire ..)
  | rcLoss => exact .row (fun _ => sound_rcLost ..)
  | rcReturn => exact .row (fun _ => sound_rcReturn ..)
  | retdlyExpiry => exact .row (fun _ => sound_retdlyExpire ..)
  | primaryReturn => exact .row (fun _ => sound_primaryReturn ..)
  | lineCalibrationDone => exact .row (fun _ => sound_calDone ..)
  | lineSwap => exact .row (fun _ => sound_lineSwap ..)
  | tbTimeloRead | evrYclaimRead | semTry | semTake | semGrantRead | alloc | resaRead | fifoInRead | uartDataRead | msgresRead =>
    exact .rowS (fun _ => sound_fabricRead ..)
  | registerWrite => exact .rowS (fun _ => sound_writeAny ..)
  | eventOutputPulseEnd => exact .row (fun _ => sound_pulseEnd ..)
  | descriptorFetch => exact .rowS (fun _ => sound_descFetch ..)
  | dmaElement => exact .rowS (fun _ => sound_dmaElement ..)
  | bundleIssue => exact .rowS (fun _ => sound_bundleIssue ..)
  | levelStart => exact .row (fun _ => sound_levelStart ..)
  | loopTrigger => exact .row (fun _ => sound_schedTrigger ..)
  | lsctlWrite => exact .row (fun _ => sound_lsctlWrite ..)
  | yarrowIntegerInstruction | integerDivision | floatingPointArithmetic | fminFmax | conversionToInteger | yarrowLoad | yarrowStore
  | yarrowBranch | fence | fenceI | ecall | ebreak | wfi | mret | csrAccess | veixAccess | yserrinfoClear | predictorFlush | bcopy
  | bfill | bcrc | vse | vsse | vsxe | vsr | vsk | vkpopc | vkfirst | vmvxs | vmvxsh | vsetvl | vgetcfg | vfence | vsig =>
    exact .rowS (fun _ => sound_yStep ..)
  | storeBufferDrain => exact .rowS (fun _ => sound_storeDrain ..)
  | interruptTake => exact .row (fun _ => sound_interruptTake ..)
  | debugHalt => exact .row (fun _ => sound_debugHalt ..)
  | debugResume => exact .row (fun _ => sound_debugResume ..)
  | abstractCommand => exact .rowS (fun _ => sound_abstractCommand ..)
  | systemBusAccess => exact .rowS (fun _ => sound_systemBus ..)
  | vkand | vkor | vkxor | vkandn | vknot | vadd | vsub | vsadd | vssub | vmin | vmax | vminu | vmaxu | vand | vor | vxor | vsll | vsrl
  | vsra | vmul | vmulh | vmacc | vmerge | vmv | vslidedn | vslideup | vmseq | vmsne | vmslt | vmsltu | vmsle | vmsleu | vwmul | vwmulu
  | vwmulsu | vwmacc | vwmaccu | vdot4 | vdot4u | vdot2 | vfadd | vfsub | vfmul | vfmacc | vfmin | vfmax | vfmseq | vfmslt | vfmsle
  | vfcvtFX | vfcvtXF | vfwmul | vfwmacc | vredsum | vredmax | vredmin | vredmaxu | vfredsum | vfredmax =>
    exact .rowS (fun _ => sound_vetRow ..)
  | vetchRunaheadCommit => exact .rowS (fun _ => sound_vRetire ..)
  | powerTransitionDone => exact .row (fun _ => sound_pwrDone ..)
  | wipeDone => exact .row (fun _ => sound_wipeDone ..)
  | marchSegment => exact .row (fun _ => sound_marchWork ..)
  | scrubRead => exact .row (fun _ => sound_scrubRead ..)
  | inheritanceHop => exact .row (fun _ => sound_nextHop ..)
  | ledgerFail => exact .row (fun _ => sound_ledgerFail ..)
  | carrierStart => exact .row (fun _ => sound_carrierStart ..)
  | carrierZeroEvent => exact .row (fun _ => sound_carrierZero ..)
  | carrierPeakEvent => exact .row (fun _ => sound_carrierPeak ..)
  | localZero => exact .row (fun _ => sound_localZero ..)
  | localPeak => exact .row (fun _ => sound_localPeak ..)
  | outputEdge => exact .row (fun _ => sound_outputEdge ..)
  | triggerCompareFire => exact .row (fun _ => sound_triggerFire ..)
  | faultInput => exact .row (fun _ => sound_fltPulse ..)
  | adcTimerFire => exact .row (fun _ => sound_adcTimer ..)
  | samplingInstant => exact .row (fun _ => sound_adcSample ..)
  | comparatorTrip => exact .row (fun _ => sound_cmpTrip ..)
  | comparatorRelease => exact .row (fun _ => sound_cmpRelease ..)
  | blankingWindowClose => exact .row (fun _ => sound_blankClose ..)
  | supplyLow => exact .row (fun _ => sound_supplyLow ..)
  | drive | sample | shift | fetch | deposit | awaitPin | countAdd | countLoad | countStamp | countDelta | branchTsl | signalEvent
  | signalTry | signalGive | signalStop => exact .rowS (fun _ => sound_tslStep ..)
  | pinEventFire => exact .row (fun _ => sound_pinEventFire ..)
  | uartFrameReceived => exact .row (fun _ => sound_uartReceive ..)
  | uartFrameSent => exact .row (fun _ => sound_uartSent ..)
  | i2cStart => exact .row (fun _ => sound_i2cStart ..)
  | i2cWrite => exact .row (fun _ => sound_i2cWrite ..)
  | i2cRead => exact .row (fun _ => sound_i2cRead ..)
  | i2cStop => exact .row (fun _ => sound_i2cStop ..)
  | arbitrationLost => exact .row (fun _ => sound_i2cArbLost ..)
  | i2cTargetAccess => exact .row (fun _ => sound_i2cTarget ..)
  | hostSpiTransaction => exact .rowS (fun _ => sound_hostSpi ..)
  | hostAbort => exact .row (fun _ => sound_hostAbort ..)
  | receiverLock => exact .rowS (fun _ => sound_receiverLock ..)
  | lossOfChainLock => exact .rowS (fun _ => sound_lossOfLock ..)
  | linkDown => exact .rowS (fun _ => sound_lockLostLong ..)
  | errorCountInterval => exact .row (fun _ => sound_errInterval ..)
  | errlimHoldoffEnd => exact .row (fun _ => sound_holdoffEnd ..)
  | idleSymbol => exact .rowS (fun _ => sound_idleSymbol ..)
  | frameReceive => exact .rowS (fun _ => sound_frameReceive ..)
  | cutThroughForward => exact .rowS (fun _ => sound_cutThrough ..)
  | transmitNextFrame => exact .rowS (fun _ => sound_transmitNext ..)
  | enumrpt => exact .onFrame (fun _ _ => sound_onEnumrpt ..)
  | route => exact .onFrame (fun _ _ => sound_onRoute ..)
  | linkrpt => exact .onFrame (fun _ _ => sound_onLinkrpt ..)
  | orphan => exact .onFrame (fun _ _ => sound_onOrphan ..)
  | version => exact .onFrame (fun _ _ => sound_onVersion ..)
  | ratechg => exact .onFrame (fun _ _ => sound_onRatechg ..)
  | ident => exact .onFrame (fun _ _ => sound_onIdent ..)
  | rejoin => exact .onFrame (fun _ _ => sound_onRejoin ..)
  | rd => exact .onFrame (fun _ _ => sound_onRd ..)
  | wr | bwr => exact .onFrame (fun _ _ => sound_onWr ..)
  | semop => exact .onFrame (fun _ _ => sound_onSemop ..)
  | mbxpost => exact .onFrame (fun _ _ => sound_onMbxpost ..)
  | rdrsp | ack | semrsp | errRsp => exact .onFrame (fun _ _ => sound_onResponse ..)
  | semevt => exact .onFrame (fun _ _ => sound_onSemevt ..)
  | semack => exact .onFrame (fun _ _ => sound_onSemack ..)
  | pinote => exact .onFrame (fun _ _ => sound_onPinote ..)
  | mdata => exact .onFrame (fun _ _ => sound_onMdata ..)
  | relayreq => exact .onFrame (fun _ _ => sound_onRelayreq ..)
  | relayref => exact .onFrame (fun _ _ => sound_onRelayref ..)
  | relaystart => exact .onFrame (fun _ _ => sound_onRelaystart ..)
  | relaymark => exact .onFrame (fun _ _ => sound_onRelaymark ..)
  | relaydata => exact .onFrame (fun _ _ => sound_onRelaydata ..)
  | relayend => exact .onFrame (fun _ _ => sound_relayEnd ..)
  | pdrsp => exact .onFrame (fun _ _ => sound_onPdrsp ..)
  | rejoinSend => exact .row (fun _ => sound_rejoinSend ..)
  | endwaitExpiry => exact .row (fun _ => sound_endWaitExpire ..)
  | unitLost => exact .rowS (fun _ => sound_unitLost ..)
  | remoteRequestIssue => exact .rowS (fun _ => sound_chainAccess ..)
  | semevtTimeout => exact .rowS (fun _ => sound_semevtTimeout ..)
  | mstart => exact .rowS (fun _ => sound_onMstart ..)
  | messageAllocate => exact .rowS (fun _ => sound_msgAllocate ..)
  | flashOperationDone => exact .rowS (fun _ => sound_flashDone ..)
  | maintenanceTimeout => exact .row (fun _ => sound_maintTimeout ..)
  | syncSend => exact .row (fun _ => sound_syncSend ..)
  | syncLost => exact .row (fun _ => sound_syncLost ..)
  | pdreqSend => exact .row (fun _ => sound_pdreqSend ..)
  | rampBackstopExpiry => exact .row (fun _ => sound_rampExpire ..)
  | tamperDetect => exact .row (fun _ => sound_tampDetect ..)
  | fuseReread => exact .row (fun _ => sound_fuseReread ..)
  | watchdogLate => exact .row (fun _ => sound_wdLate ..)
  | watchdogReset => exact .row (fun _ => sound_wdReset ..)
  | clkmonFault | clkmonReturn => exact .row (fun _ => sound_clkmonSet ..)
  | pinSwitchTake => exact .row (fun _ => sound_switchTake ..)
  | supplyLiveFlagClear => exact .row (fun _ => sound_supplyBack ..)
  | faultInputInactive => exact .row (fun _ => sound_fltInactive ..)
  | tamperConditionEnd => exact .row (fun _ => sound_tampEnd ..)
  | pinReset => exact .row (sound_pinPulse _)
  | dmaTrigger => exact .row (fun _ => sound_trigger ..)
  | timerCompareMatch => exact .row (fun _ => .ite (sound_updYar ..) (.refl _))
  | conversionEnd => exact .row (sound_conversionEnd _)
  | resultPortRead => exact .row (fun _ => (sound_portRead ..).trans (sound_answer ..))
  | temperatureMeasurement =>
    exact .row (fun _ => (((sound_tjMeasure ..).trans (sound_thermUpdate ..)).trans (sound_calEnvironment ..)).trans
      (sound_faultEval ..) |>.trans (sound_coldCheck ..))
  | vcoreReached => exact .row (fun _ => ((sound_govReached ..).trans (sound_calEnvironment ..)).trans (sound_faultEval ..))
  | teaselPinEdge => exact .row (fun _ => .ite (sound_tpEdge ..) (.refl _))
  | mailboxPost => exact .rowS (fun _ => sound_fabricWrite ..)
  | hello => exact .rowS (fun _ => (sound_onFrame fun _ _ => sound_onHello ..).trans (sound_bootPoll ..))
  | assign => exact .rowS (fun _ => (sound_onFrame fun _ _ => sound_onAssign ..).trans (sound_bootPoll ..))
  | enumerationStart => exact .rowS (fun _ => .ite ((sound_enumerate ..).trans (sound_bootPoll ..)) (.refl _))
  | postStageStore => exact .rowS (fun _ => sound_chainAccess ..)
  | responseTimeout => exact .rowS (sound_responseTimeout _ _)
  | msgtoExpiry => exact .rowS (sound_msgtoExpiry _ _ _)
  | mopen => exact .onFrame (fun _ _ => sound_onMopen ..)
  | mread => exact .onFrame (fun _ _ => sound_onMread ..)
  | merase => exact .onFrame (fun _ _ => sound_onMerase ..)
  | mprog => exact .onFrame (fun _ _ => sound_onMprog ..)
  | mclose => exact .onFrame (fun _ _ => sound_mclose ..)
  | syncReceive => exact .onFrame (fun _ _ => sound_syncReceive ..)
  | pdreq => exact .onFrame (fun _ _ => sound_onPdreq ..)
  | timeSet => exact .rowS (fun _ => (sound_fabricWrite ..).trans (sound_fabricWrite ..))
  | identrsp => exact .rowS (fun _ => sound_onFrame fun _ t => .mk' rfl (.self t))
  | resetMgmt => exact .onFrame (fun _ _ => .ite (sound_softReset ..) (sound_unkType ..))
  | vle | vlse | vlxe | vlr | vlk => exact .rowS (fun _ => .ite (sound_vAhead ..) (sound_yStep ..))
  -- the life-cycle commands are left; one of their names is a word of Lean's own
  | _ => exact .rowS (fun _ => sound_lcsCmd ..)

theorem step_endsSound (s : State) : ∃ t, step s = .next t ∧ Sound { s with pending := s.pending.tail } t := by
  unfold step
  split
  · next h =>
    have hs : { s with pending := s.pending.tail } = s := by rw [h, List.tail_nil, ← h]
    exact ⟨_, rfl, hs.symm ▸ sound_tick s⟩
  · next c rest h =>
    rw [h, List.tail_cons]
    exact exec_endsSound c { s with pending := rest }

/-- A step that answers `t` makes it a sound successor of the state without the front command. -/
theorem sound_of_step {s t : State} (h : step s = .next t) : Sound { s with pending := s.pending.tail } t := by
  obtain ⟨u, hu, hsound⟩ := step_endsSound s
  obtain rfl : u = t := by simpa [hu] using h
  exact hsound

/-- Settles O57: every command ends soundly, and a sound successor has the queue as it was. -/
theorem everyCommandCompletes : Obligations.EveryCommandCompletes := by
  unfold Obligations.EveryCommandCompletes
  intro c s
  obtain ⟨t, ht, hsound⟩ := exec_endsSound c s
  exact ⟨t, ht, hsound.pending⟩

/-- Settles O58: the canonical form speaks of registers and memory, which the queue is not part of, and sound steps keep it. -/
theorem stepKeepsCanonicalForm : Obligations.StepKeepsCanonicalForm := by
  unfold Obligations.StepKeepsCanonicalForm
  intro s t hs h
  exact (sound_of_step h).canon hs

/-- Settles O59: a sound step keeps every blown bit. -/
theorem stepKeepsBlownFuses : Obligations.StepKeepsBlownFuses := by
  unfold Obligations.StepKeepsBlownFuses
  intro b s t hb h
  exact (sound_of_step h).fuses b hb

/-- Settles O56: the two cases of `step`, by the queue. -/
theorem stepRunsFrontCommand : Obligations.StepRunsFrontCommand := by
  unfold Obligations.StepRunsFrontCommand
  refine ⟨fun c rest s h => ?_, fun s h => ?_⟩
  · rw [step, h]
  · rw [step, h]

/-- Settles O5: each value is read off the reset words of the register tables; only SYS_RSTCAUSE and SYS_STRAP are listed apart. -/
theorem resetState : Obligations.ResetState := by
  unfold Obligations.ResetState
  decide

end Sys2Proof.Machine
end

section
/-!
PROOFS. The encoding of frames (R380, R381).
-/
namespace Sys2Proof.Machine

@[simp] theorem length_leBytes (n v : Nat) : (leBytes n v).length = n := by simp [leBytes]

/-- The lowest byte of a number, and the bytes above it. -/
theorem leBytes_succ (n v : Nat) : leBytes (n + 1) v = BitVec.ofNat 8 v :: leBytes n (v / 256) := by
  simp [leBytes, List.range_succ_eq_map, Function.comp_def, Nat.pow_succ', Nat.div_div_eq_div_mul]

/-- Bytes give back the number they were taken from. -/
theorem ofLeBytes_leBytes (n v : Nat) : ofLeBytes (leBytes n v) = v % 256 ^ n := by
  induction n generalizing v with
  | zero => simp [leBytes, ofLeBytes, Nat.mod_one]
  | succ n ih =>
    have hbyte : (BitVec.ofNat 8 v).toNat = v % 256 := BitVec.toNat_ofNat ..
    rw [leBytes_succ, ofLeBytes, ih, hbyte, pow_succ', Nat.mod_mul]

/-- Bytes that end in the CRC of the others have a good CRC. -/
theorem crcGood_append_crc (bs : List Byte) : crcGood (bs ++ leBytes 4 (crc32c bs).toNat) = true := by
  simpa [crcGood, ofLeBytes_leBytes] using (crc32c bs).isLt

/-- The eight header bytes of a frame (R380). -/
def frameHeader (f : Frame) (crt : Nat) : List Byte :=
  [b8 f.dst, b8 (f.typ + 64 * f.cls), b8 f.src, b8 (f.data.length + 128 * bit01 f.flag), b8 f.tag, b8 crt, b8 (crt / 256), b8 f.hop]

theorem frameBytes_eq (f : Frame) (crt : Nat) :
    frameBytes f crt = (frameHeader f crt ++ f.data) ++ leBytes 4 (crc32c (frameHeader f crt ++ f.data)).toNat := rfl

theorem toNat_b8 {n : Nat} (h : n < 256) : (b8 n).toNat = n := by
  simp only [b8, BitVec.toNat_ofNat]
  omega

/-- Byte 3 holds the payload's length and the flag. -/
theorem lenByte_bounds (f : Frame) (h : f.data.length ≤ 64) :
    f.data.length + 128 * bit01 f.flag < 256 ∧ (f.data.length + 128 * bit01 f.flag) % 128 = f.data.length ∧
      decide (128 ≤ f.data.length + 128 * bit01 f.flag) = f.flag := by
  cases hf : f.flag <;> simp [bit01] <;> omega

/-- The parser finds the fields of the header again, and behind them the payload (R382). -/
theorem parseFrame_header_append {f : Frame} {crt : Nat} {crc : List Byte} (hcls : f.cls < 4) (hdst : f.dst < 128) (htyp : f.typ < 64)
    (hsrc : f.src < 128) (htag : f.tag < 256) (hhop : f.hop < 64) (hlen : f.data.length ≤ 64) (hcrt : crt < 4096)
    (hcrc : crc.length = 4) : parseFrame f.cls (frameHeader f crt ++ f.data ++ crc) = some (f, crt) := by
  obtain ⟨hbyte, hmod, hflag⟩ := lenByte_bounds f hlen
  have hlow : (b8 crt).toNat = crt % 256 := by simp [b8]
  have hval : ¬ ((frameHeader f crt ++ f.data ++ crc).length ≠ f.data.length + 12 ∨ 64 < f.data.length ∨
      (f.typ + 64 * f.cls) / 64 ≠ f.cls ∨ 128 ≤ f.dst ∨ 128 ≤ f.src ∨ 16 ≤ crt / 256 ∨ 64 ≤ f.hop) := by
    simp [frameHeader, hcrc]
    omega
  have htypMod : (f.typ + 64 * f.cls) % 64 = f.typ := by omega
  have hcrtSum : crt % 256 + 256 * (crt / 256) = crt := Nat.mod_add_div crt 256
  unfold parseFrame
  simp only [frameHeader, List.cons_append, List.nil_append, List.drop_succ_cons, List.drop_zero, List.headD_cons] at hval ⊢
  rw [toNat_b8 hbyte, hmod, toNat_b8 (by omega : f.dst < 256), toNat_b8 (by omega : f.src < 256), toNat_b8 htag,
    toNat_b8 (by omega : f.hop < 256), toNat_b8 (by omega : f.typ + 64 * f.cls < 256), toNat_b8 (by omega : crt / 256 < 256),
    hlow, if_neg hval, hflag, htypMod, hcrtSum]
  simp

/-- Settles O41: the header's bytes give back its fields, the payload follows them, and the last four bytes are the CRC of the rest. -/
theorem framesRoundTrip : Obligations.FramesRoundTrip := by
  unfold Obligations.FramesRoundTrip
  intro f crt hcls hdst htyp hsrc htag hhop hlen hcrt
  rw [frameBytes_eq]
  exact ⟨parseFrame_header_append hcls hdst htyp hsrc htag hhop hlen hcrt (length_leBytes ..), crcGood_append_crc _⟩

end Sys2Proof.Machine
end

section
/-!
PROOFS. Reading registers through the writes of the model: what a field reads after a write elsewhere, for every kind of write, and
through the updates of the parts that hold no register.
-/
namespace Sys2Proof.Machine

/-- A write of `f` leaves `g` alone: another register, or other bits of the same one. -/
abbrev Apart (f g : Fld) : Prop :=
  g.reg.addr ≠ f.reg.addr ∨ g.reg = f.reg ∧ f.lo + f.wid ≤ 32 ∧ (g.lo + g.wid ≤ f.lo ∨ f.lo + f.wid ≤ g.lo)

variable {f g : Fld} {r : Reg} (s : State)

theorem State.get_set_apart (h : Apart f g) (v : Nat) : (s.set f v).get g = s.get g := by
  obtain h | ⟨hr, hf, hd⟩ := h
  · exact s.get_set_other h v
  · exact s.get_set_beside hr hf hd v

theorem State.get_setB_apart (h : Apart f g) (b : Bool) : (s.setB f b).get g = s.get g := s.get_set_apart h _
theorem State.get_setBit_apart (h : Apart f g) (i : Nat) (b : Bool) : (s.setBit f i b).get g = s.get g := s.get_set_apart h _
theorem State.get_count_apart (h : Apart f g) (n : Nat) : (s.count f n).get g = s.get g := s.get_set_apart h _
theorem State.get_setInt_apart (h : Apart f g) (v : Int) : (s.setInt f v).get g = s.get g := s.get_set_apart h _

theorem State.on_congr {s t : State} (h : t.get f = s.get f) : t.on f = s.on f := by rw [State.on, State.on, h]
theorem State.bit_congr {s t : State} (h : t.get f = s.get f) (i : Nat) : t.bit f i = s.bit f i := by rw [State.bit, State.bit, h]

theorem State.on_set_apart (h : Apart f g) (v : Nat) : (s.set f v).on g = s.on g := on_congr (s.get_set_apart h v)
theorem State.on_setB_apart (h : Apart f g) (b : Bool) : (s.setB f b).on g = s.on g := on_congr (s.get_setB_apart h b)
theorem State.on_setBit_apart (h : Apart f g) (i : Nat) (b : Bool) : (s.setBit f i b).on g = s.on g :=
  on_congr (s.get_setBit_apart h i b)
theorem State.on_count_apart (h : Apart f g) (n : Nat) : (s.count f n).on g = s.on g := on_congr (s.get_count_apart h n)
theorem State.bit_set_apart (h : Apart f g) (v i : Nat) : (s.set f v).bit g i = s.bit g i := bit_congr (s.get_set_apart h v) i
theorem State.bit_setB_apart (h : Apart f g) (b : Bool) (i : Nat) : (s.setB f b).bit g i = s.bit g i :=
  bit_congr (s.get_setB_apart h b) i
theorem State.bit_setBit_apart (h : Apart f g) (j : Nat) (b : Bool) (i : Nat) : (s.setBit f j b).bit g i = s.bit g i :=
  bit_congr (s.get_setBit_apart h j b) i

theorem State.bit_of_get {s : State} {f : Fld} {n : Nat} (h : s.get f = n) (i : Nat) : s.bit f i = natBit n i := by
  rw [State.bit, h, natBit]

/-! A write touches the registers alone. -/

@[simp] theorem State.tb_setBit (i : Nat) (b : Bool) : (s.setBit f i b).tb = s.tb := rfl
@[simp] theorem State.tb_count (n : Nat) : (s.count f n).tb = s.tb := rfl
@[simp] theorem State.tb_setB (b : Bool) : (s.setB f b).tb = s.tb := rfl

/-! The updates of the timebase state write no register. -/

@[simp] theorem State.get_updTb (u : Tb → Tb) (f : Fld) : (s.updTb u).get f = s.get f := rfl
@[simp] theorem State.on_updTb (u : Tb → Tb) (f : Fld) : (s.updTb u).on f = s.on f := rfl
@[simp] theorem State.bit_updTb (u : Tb → Tb) (f : Fld) (i : Nat) : (s.updTb u).bit f i = s.bit f i := rfl
@[simp] theorem State.word_updTb (u : Tb → Tb) (r : Reg) : (s.updTb u).word r = s.word r := rfl
@[simp] theorem State.tb_updTb (u : Tb → Tb) : (s.updTb u).tb = u s.tb := rfl

/-! An occurrence of a bit of TB_EVT (R37) writes that register, and those of the router and the DMA block. -/

theorem State.get_tbEvent (h : Apart F.TB_EVT f) (hr : f.reg.addr < 0x50002000 ∨ 0x50004000 ≤ f.reg.addr) (b : Nat) :
    (s.tbEvent b).get f = s.get f := by
  unfold State.tbEvent
  dsimp only
  split
  · rw [State.get_raise _ _ hr, State.get_setBit_apart _ h]
  · rw [State.get_setBit_apart _ h]

theorem State.on_tbEvent (h : Apart F.TB_EVT f) (hr : f.reg.addr < 0x50002000 ∨ 0x50004000 ≤ f.reg.addr) (b : Nat) :
    (s.tbEvent b).on f = s.on f := on_congr (s.get_tbEvent h hr b)

@[simp] theorem State.tb_tbEvent (b : Nat) : (s.tbEvent b).tb = s.tb := by
  unfold State.tbEvent
  dsimp only
  split
  · rw [State.raise_tb, State.tb_setBit]
  · rw [State.tb_setBit]

end Sys2Proof.Machine
end

section
/-!
PROOFS. Lock and loss of lock of the timebases (R18, R19, R35, R511).
-/
namespace Sys2Proof.Machine

/-- A lock on a timebase that needs no more than its LOCK bit. -/
theorem gainLock_plain {n : Fin 14} {s : State} (h6 : n ≠ 6) (h10 : n ≠ 10) (h13 : n ≠ 13) (hsrc : s.tb.noSource = false) :
    gainLock n s = s.setBit F.TB_LOCK n true := by
  have hn := n.isLt
  unfold gainLock
  rw [if_neg (by simp [hsrc]; omega)]
  split
  · next h => exact absurd (Fin.ext h) h6
  · next h => exact absurd (Fin.ext h) h13
  · rfl

theorem gainLock_none {n : Fin 14} {s : State} (h : n = 10 ∨ s.tb.noSource = true) : gainLock n s = s := by
  unfold gainLock
  rw [if_pos]
  rcases h with rfl | h
  · exact .inr (.inl rfl)
  · exact .inr (.inr h)

@[simp] theorem isHead_begin (s : State) : isHead s.begin = isHead s := rfl
@[simp] theorem isHead_updTb (s : State) (u : Tb → Tb) : isHead (s.updTb u) = isHead s := rfl
theorem isHead_setBit {f : Fld} (h : f.reg.addr ≠ R.CHN_ADDR.addr) (i : Nat) (b : Bool) (s : State) :
    isHead (s.setBit f i b) = isHead s := by
  unfold isHead
  rw [State.on_setBit_apart s (g := F.CHN_ADDR_HEAD) (.inl h.symm), State.on_setBit_apart s (g := F.CHN_ADDR_YIELD) (.inl h.symm)]

theorem gainLock_tb6 {s : State} (hsrc : s.tb.noSource = false) :
    gainLock 6 s = 
     let u := (s.setBit F.TB_LOCK 6 true).updTb fun t => { t with counting := true }
     if isHead s then discTo true u else u := by
  have hhead := isHead_setBit (f := F.TB_LOCK) (by decide) 6 true s
  unfold gainLock
  rw [if_neg (by simp [hsrc])]
  simp only [isHead_updTb, hhead]

theorem gainLock_tb13 (s : State) (hsrc : s.tb.noSource = false) : gainLock 13 s = startRotation (s.setBit F.TB_LOCK 13 true) := by
  unfold gainLock
  rw [if_neg (by simp [hsrc])]
  rfl

@[simp] theorem State.bit_updCal (s : State) (g : Nat) (c : CalGroup → CalGroup) (f : Fld) (i : Nat) :
    (s.updCal g c).bit f i = s.bit f i := rfl
@[simp] theorem State.backWait_updCal (s : State) (g : Nat) (c : CalGroup → CalGroup) :
    (s.updCal g c).tb.backWait = s.tb.backWait := rfl

theorem fineBack_of_noWait {s : State} (h : s.tb.backWait = false) : fineBack s = s := by simp [fineBack, h]

/-- Every group of calibration lines updated alike. -/
theorem updCal_all (f : CalGroup → CalGroup) (s : State) :
    ((((s.updCal 0 f).updCal 1 f).updCal 2 f).updCal 3 f).updCal 4 f = s.updTb fun t => { t with cal := t.cal.map f } := by
  have h (v : Vector CalGroup 5) :
      vupd (vupd (vupd (vupd (vupd v (calIx 0) f) (calIx 1) f) (calIx 2) f) (calIx 3) f) (calIx 4) f = v.map f := by
    ext i hi : 1
    simp only [vupd, calIx, Vector.get_eq_getElem, Vector.getElem_set, Vector.getElem_map]
    interval_cases i <;> rfl
  simp only [State.updCal, State.updTb, h]

/-- The start of the rotations where every group has its spare and none is fine (R35). -/
theorem startRotation_of_all {s : State} (hok : ∀ g < 5, s.bit F.TB_DLSTAT_SPAREOK g = true)
    (hfine : ∀ g < 5, s.bit F.TB_DLSTAT_FINE g = false) (hwait : s.tb.backWait = false) :
    startRotation s = s.updTb fun t =>
      { t with cal := t.cal.map fun c => { c with rotLeft := c.lines.length + 1, spareReady := false } } := by
  rw [← updCal_all]
  unfold startRotation
  rw [fineBack_of_noWait] <;>
    simp [forEach, List.range_succ, hok, hfine, hwait]

/-! Losing lock (R19): the effect of the timebase that lost it, then the sources of the legs. -/

section
variable {n : Fin 14} {s : State}

theorem loseLock_none (h : n = 10 ∨ s.bit F.TB_LOCK n = false) : loseLock n s = s := by
  unfold loseLock
  rw [if_pos]
  rcases h with rfl | h
  · exact .inl rfl
  · simp [h]

/-- LOCK clears and LOCKLOSS sets. -/
def unlocked (n : Nat) (s : State) : State := (s.setBit F.TB_LOCK n false).setBit F.TB_LOCKLOSS n true

/-- What the loss of lock of timebase `n` does of its own (R19). -/
def lockEffect (n : Nat) (s : State) : State :=
  match n with
  | 1 => legsFault (fun l => decide (l < 8)) 5 s
  | 2 => legsFault (fun l => decide (8 ≤ l)) 5 s
  | 6 => discTo false (s.updTb (fun t => { t with counting := false }))
  | 9 => tslStopAll 6 s
  | 12 => serialLockLoss s
  | 13 => clearFine s
  | _ => s

theorem loseLock_locked (hlock : s.bit F.TB_LOCK n = true) (h10 : n ≠ 10) :
    loseLock n s = (lockEffect n (unlocked n s)).faultEval := by
  have h : ¬ ((n : Nat) = 10 ∨ 13 < (n : Nat) ∨ (!s.bit F.TB_LOCK n) = true) := by
    have hn := n.isLt
    simp only [hlock, Bool.not_true, Bool.false_eq_true, or_false]
    omega
  unfold loseLock
  rw [if_neg h]
  rfl

theorem lockEffect_plain (h : n ∉ ([1, 2, 6, 9, 12, 13] : List (Fin 14))) : lockEffect n s = s := by
  revert h
  fin_cases n <;> simp [lockEffect]

end

theorem isHead_setB {f : Fld} (h : f.reg.addr ≠ R.CHN_ADDR.addr) (b : Bool) (s : State) : isHead (s.setB f b) = isHead s := by
  unfold isHead State.setB
  rw [State.on_set_apart s (g := F.CHN_ADDR_HEAD) (.inl h.symm), State.on_set_apart s (g := F.CHN_ADDR_YIELD) (.inl h.symm)]

/-- DISC changes on the head, or falls: CHAINOK, where it is 0, stays (R430, R21). -/
theorem discTo_of_noChain {d : Bool} {s : State} (hd : s.on F.CHN_TSTAT_DISC = !d) (hok : s.on F.TB_REFSTAT_CHAINOK = false)
    (hhead : d = true → isHead s = true) : discTo d s = xEvent 3 (s.setB F.CHN_TSTAT_DISC d) := by
  have hok' : (s.setB F.CHN_TSTAT_DISC d).on F.TB_REFSTAT_CHAINOK = false := (s.on_set_apart (by decide) _).trans hok
  have hto : (d && !isHead s) = false := by cases d <;> simp_all
  rw [discTo, hd, if_neg (by cases d <;> decide), setDisc]
  simp only [isHead_setB (show F.CHN_TSTAT_DISC.reg.addr ≠ R.CHN_ADDR.addr by decide), hto]
  rw [setChainok, if_pos hok']

/-- Settles O1: `gainLock` and `loseLock` case by case, by the number of the timebase. -/
theorem timebasesLockAndLose : Obligations.TimebasesLockAndLose := by
  unfold Obligations.TimebasesLockAndLose
  refine ⟨⟨fun n s h6 h10 h13 hsrc => ?_, fun n s h => ?_, fun s hsrc => ?_, fun s hsrc hok hfine hwait => ?_⟩,
    fun n s h => ?_, fun n s hlock h10 => ?_, fun s hfine => ?_⟩
  · exact congrArg Host.Outcome.next (gainLock_plain (s := s.begin) h6 h10 h13 hsrc)
  · exact congrArg Host.Outcome.next (gainLock_none (s := s.begin) h)
  · have hrun := gainLock_tb6 (s := s.begin) hsrc
    have hlock6 (f : Fld) (hf : Apart F.TB_LOCK f) : (s.begin.setBit F.TB_LOCK 6 true).on f = s.on f :=
      s.begin.on_setBit_apart hf 6 true
    refine ⟨fun hhead => ?_, fun hhead => ?_, fun hhead hdisc hchain => ?_⟩
    · exact congrArg Host.Outcome.next (hrun.trans (if_neg (by simp [hhead])))
    · exact congrArg Host.Outcome.next (hrun.trans (if_pos hhead))
    · refine congrArg Host.Outcome.next ((hrun.trans (if_pos hhead)).trans (discTo_of_noChain (d := true) ?_ ?_ fun _ => ?_))
      · exact (hlock6 F.CHN_TSTAT_DISC (by decide)).trans hdisc
      · exact (hlock6 F.TB_REFSTAT_CHAINOK (by decide)).trans hchain
      · rw [isHead_updTb, isHead_setBit (by decide), isHead_begin, hhead]
  · refine congrArg Host.Outcome.next ((gainLock_tb13 s.begin hsrc).trans (startRotation_of_all (fun g hg => ?_) (fun g hg => ?_) hwait))
    · rw [State.bit_setBit_apart _ (by decide), State.bit_begin, State.bit_of_get hok]
      interval_cases g <;> rfl
    · rw [State.bit_setBit_apart _ (by decide), State.bit_begin, State.bit_of_get hfine]
      interval_cases g <;> rfl
  · exact congrArg Host.Outcome.next (loseLock_none (s := s.begin) h)
  · have hlose : exec (.lossOfLock n) s = .next (lockEffect n (unlocked n s.begin)).faultEval :=
      congrArg Host.Outcome.next (loseLock_locked (s := s.begin) hlock h10)
    have hkeep (f : Fld) (hf : Apart F.TB_LOCK f) (hf' : Apart F.TB_LOCKLOSS f) :
        (unlocked n s.begin).on f = s.on f :=
      ((s.begin.setBit F.TB_LOCK n false).on_setBit_apart hf' n true).trans (s.begin.on_setBit_apart hf n false)
    rw [hlose]
    refine ⟨fun hn => ?_, ?_, ?_, ?_, ?_, ?_, ?_, ?_⟩
    · rw [lockEffect_plain hn, unlocked]
    · rintro rfl; rfl
    · rintro rfl; rfl
    · rintro rfl; rfl
    · rintro rfl hchain hdisc
      refine congrArg (fun u => Host.Outcome.next (State.faultEval u)) (discTo_of_noChain (d := false) ?_ ?_ nofun)
      · exact (hkeep F.CHN_TSTAT_DISC (by decide) (by decide)).trans hdisc
      · exact (hkeep F.TB_REFSTAT_CHAINOK (by decide) (by decide)).trans hchain
    · rintro rfl; rfl
    · rintro rfl; rfl
    · rintro rfl; rfl
  · have hhad : (s.get F.TB_DLSTAT_FINE != 0) = true := by simpa using hfine
    simp [clearFine, hfine, hhad]

end Sys2Proof.Machine
end

section
/-!
PROOFS. The loss of the primary reference (R22, R25, R27, R514, R516).
-/
namespace Sys2Proof.Machine

/-! What the return count's restart, a LOST and the loss of FINE leave alone. -/

section
variable {f : Fld} (s : State)

theorem get_retReset (hw : Apart F.TB_REFSTAT_RETWAIT f) (hc : Apart F.TB_REFSTAT_RETCNT f) : (retReset s).get f = s.get f := by
  rw [retReset, State.get_set_apart _ hc, State.get_set_apart _ hw, State.get_updTb]

/-- A LOST with BAND already there only restarts the return count (R516). -/
theorem enterLost_of_lost {s : State} (h : s.get F.TB_REFSTAT_BAND = 2) : enterLost s = retReset s := by
  simp [enterLost, get_retReset s (f := F.TB_REFSTAT_BAND) (by decide) (by decide), h]

theorem enterLost_of_notLost {s : State} (h : s.get F.TB_REFSTAT_BAND ≠ 2) : enterLost s =
    (((((retReset s).set F.TB_REFSTAT_BAND 2).count F.TB_LOSTCNT_LOST).updTb fun t => { t with trim := 0, trimOff := false }).set
      F.TB_REFSTAT_TRIM 0).tbEvent 1 := by
  simp [enterLost, get_retReset s (f := F.TB_REFSTAT_BAND) (by decide) (by decide), h]

/-- The fields that a LOST and the loss of FINE write. -/
abbrev lostFields : List Fld :=
  [F.TB_EVT, F.TB_REFSTAT_RETWAIT, F.TB_REFSTAT_RETCNT, F.TB_REFSTAT_BAND, F.TB_REFSTAT_TRIM, F.TB_LOSTCNT_LOST, F.TB_DLSTAT_FINE,
   F.TB_REFSTAT_HOLD]

/-- A field that neither they nor the event router writes. -/
abbrev LostApart (f : Fld) : Prop := (∀ w ∈ lostFields, Apart w f) ∧ (f.reg.addr < 0x50002000 ∨ 0x50004000 ≤ f.reg.addr)

theorem get_enterLost (h : LostApart f) : (enterLost s).get f = s.get f := by
  obtain ⟨h, hr⟩ := h
  by_cases hb : s.get F.TB_REFSTAT_BAND = 2
  · rw [enterLost_of_lost hb, get_retReset s (h _ (by simp)) (h _ (by simp))]
  · rw [enterLost_of_notLost hb, State.get_tbEvent _ (h _ (by simp)) hr, State.get_set_apart _ (h _ (by simp)), State.get_updTb,
      State.get_count_apart _ (h _ (by simp)), State.get_set_apart _ (h _ (by simp)), get_retReset s (h _ (by simp)) (h _ (by simp))]

theorem get_clearFine (h : LostApart f) : (clearFine s).get f = s.get f := by
  obtain ⟨h, hr⟩ := h
  unfold clearFine
  dsimp only
  split
  · rw [State.get_set_apart _ (h _ (by simp)), State.get_updTb]
  · rw [State.get_tbEvent _ (h _ (by simp)) hr, State.get_set_apart _ (h _ (by simp)), State.get_updTb]

@[simp] theorem rcAlive_enterLost : (enterLost s).tb.rcAlive = s.tb.rcAlive := by
  by_cases hb : s.get F.TB_REFSTAT_BAND = 2
  · rw [enterLost_of_lost hb, retReset]; rfl
  · rw [enterLost_of_notLost hb, State.tb_tbEvent]; rfl

@[simp] theorem rcAlive_clearFine : (clearFine s).tb.rcAlive = s.tb.rcAlive := by
  unfold clearFine
  dsimp only
  split
  · rfl
  · rw [State.tb_tbEvent]; rfl

end

/-- The primary depends on REFSEL, REFKHZ and whether the unit is the head. -/
theorem primary_congr {s t : State} (hsel : t.get F.TB_REFCTL_REFSEL = s.get F.TB_REFCTL_REFSEL)
    (hkhz : t.get F.TB_REFCTL_REFKHZ = s.get F.TB_REFCTL_REFKHZ) (hhead : t.get F.CHN_ADDR_HEAD = s.get F.CHN_ADDR_HEAD)
    (hyield : t.get F.CHN_ADDR_YIELD = s.get F.CHN_ADDR_YIELD) : primary t = primary s := by
  unfold primary isHead State.on
  rw [hsel, hkhz, hhead, hyield]

/-- HOLD, the loss of FINE and the LOST of a primary that drove TB0: steps 1 and 2 of R27. -/
def heldLost (s : State) : State := enterLost (clearFine (s.set F.TB_REFSTAT_HOLD 1))

theorem get_heldLost {f : Fld} (h : LostApart f) (s : State) : (heldLost s).get f = s.get f := by
  rw [heldLost, get_enterLost _ h, get_clearFine _ h, State.get_set_apart _ (h.1 _ (by simp))]

@[simp] theorem rcAlive_heldLost (s : State) : (heldLost s).tb.rcAlive = s.tb.rcAlive := by
  rw [heldLost, rcAlive_enterLost, rcAlive_clearFine]; rfl

theorem primary_heldLost (s : State) : primary (heldLost s) = primary s :=
  primary_congr (get_heldLost (by decide) s) (get_heldLost (by decide) s) (get_heldLost (by decide) s) (get_heldLost (by decide) s)

theorem on_chainok_heldLost (s : State) : (heldLost s).on F.TB_REFSTAT_CHAINOK = s.on F.TB_REFSTAT_CHAINOK :=
  State.on_congr (get_heldLost (by decide) s)

/-- A LOST of the primary where neither RC nor CHAIN drove TB0 takes CHAIN, else RC, else nothing (R27 step 4, R25). -/
theorem switchover_primary {s : State} (h2 : s.get F.TB_REFSTAT_CURSRC ≠ 2) (h3 : s.get F.TB_REFSTAT_CURSRC ≠ 3) :
    switchover true false s =
      if s.on F.TB_REFSTAT_CHAINOK then lossPolicy 3 (takeSource 3 (heldLost s))
      else if s.tb.rcAlive then lossPolicy 2 (takeSource 2 (heldLost s))
      else (heldLost s).updTb fun t => { t with noSource := true } := by
  have hok := on_chainok_heldLost s
  have hrc := rcAlive_heldLost s
  unfold switchover
  simp only [if_true, Bool.false_eq_true, if_false]
  rw [heldLost] at hok hrc ⊢
  rw [hok, hrc]
  cases s.on F.TB_REFSTAT_CHAINOK <;> cases s.tb.rcAlive <;> simp [h2, h3]

/-- The yardstick once source `n` is taken in place of the primary (R31). -/
theorem fineInUse_taken {s : State} (h3 : primary s ≠ 3) {n : Nat} (hn : n < 4) (u : Tb → Tb) :
    fineInUse ((((heldLost s).updTb u).set F.TB_REFSTAT_CURSRC n).tbEvent 2) =
      (s.on F.TB_REFSTAT_CHAINOK && (n == primary s || n == 3)) := by
  have hkeep {f : Fld} (h : LostApart f) (hc : Apart F.TB_REFSTAT_CURSRC f) :
      ((((heldLost s).updTb u).set F.TB_REFSTAT_CURSRC n).tbEvent 2).get f = s.get f := by
    rw [State.get_tbEvent _ (h.1 _ (by simp)) h.2, State.get_set_apart _ hc, State.get_updTb, get_heldLost h]
  have hprim := primary_congr (hkeep (f := F.TB_REFCTL_REFSEL) (by decide) (by decide))
    (hkeep (f := F.TB_REFCTL_REFKHZ) (by decide) (by decide)) (hkeep (f := F.CHN_ADDR_HEAD) (by decide) (by decide))
    (hkeep (f := F.CHN_ADDR_YIELD) (by decide) (by decide))
  have hsrc : ((((heldLost s).updTb u).set F.TB_REFSTAT_CURSRC n).tbEvent 2).get F.TB_REFSTAT_CURSRC = n := by
    rw [State.get_tbEvent _ (by decide) (by decide), State.get_set_same _ (by decide)]
    exact Nat.mod_eq_of_lt hn
  have hchain := State.on_congr (hkeep (f := F.TB_REFSTAT_CHAINOK) (by decide) (by decide))
  have hnot : (primary s != 3) = true := by simpa using h3
  simp only [fineInUse, hprim, hsrc, hchain, hnot, Bool.and_true]

theorem takeSource_rc {s : State} (h2 : primary s ≠ 2) (h3 : primary s ≠ 3) : takeSource 2 (heldLost s) =
    ((((heldLost s).updTb fun t => { t with noSource := false, fbRatio := (heldLost s).get F.TB_RCRATIO }).set
      F.TB_REFSTAT_CURSRC 2).tbEvent 2).set F.TB_REFSTAT_FINE 0 := by
  unfold takeSource fineShow
  dsimp only [State.setB]
  rw [fineInUse_taken h3 (by decide)]
  simp [h2.symm]

theorem takeSource_chain {s : State} (h3 : primary s ≠ 3) (hchain : s.on F.TB_REFSTAT_CHAINOK = true) : takeSource 3 (heldLost s) =
    ((((heldLost s).updTb fun t => { t with noSource := false }).set F.TB_REFSTAT_CURSRC 3).tbEvent 2).set F.TB_REFSTAT_FINE 1 := by
  unfold takeSource fineShow
  dsimp only [State.setB]
  rw [fineInUse_taken h3 (by decide)]
  simp [hchain]

theorem primary_takeSource (src : Nat) (s : State) : primary (takeSource src s) = primary s := by
  have hkeep {f : Fld} (h : LostApart f) (hc : Apart F.TB_REFSTAT_CURSRC f) (hf : Apart F.TB_REFSTAT_FINE f) :
      (takeSource src s).get f = s.get f := by
    rw [takeSource, fineShow, State.get_setB_apart _ hf, State.get_tbEvent _ (h.1 _ (by simp)) h.2, State.get_set_apart _ hc,
      State.get_updTb]
  exact primary_congr (hkeep (by decide) (by decide) (by decide)) (hkeep (by decide) (by decide) (by decide))
    (hkeep (by decide) (by decide) (by decide)) (hkeep (by decide) (by decide) (by decide))

/-- The primary is no fallback: the policy triggers REFCHAIN or REFRC follow the source taken (R440). -/
theorem lossPolicy_heldLost {s : State} {src : Nat} (h : src ≠ primary s) : lossPolicy src (takeSource src (heldLost s)) =
    if src = 3 then polSet 0 true (takeSource src (heldLost s))
    else polUpdate (polMark 1 true (polMark 0 false (takeSource src (heldLost s)))) := by
  rw [lossPolicy, primary_takeSource, primary_heldLost, if_neg h]

/-- The primary with its edges or its filter gone, and `alive` and `gross` as the cause of the loss leaves them. -/
def emptied (alive gross : Bool) (s : State) : State := s.updTb fun t => { t with primAlive := alive, filter := [], gross := gross }

theorem missingEdge_eq {s : State} (h2 : primary s ≠ 2) (hseen : chainUnseen s = false) :
    missingEdge s = lostPrimary (emptied false false s) := by
  simp [missingEdge, emptied, h2, hseen]

theorem grossError_eq {s : State} (h2 : primary s ≠ 2) (hseen : chainUnseen s = false) (hrc : s.tb.rcAlive = true)
    (halive : s.tb.primAlive = true) : grossError s = lostPrimary (emptied true true s) := by
  have hmeasured : (s.tb.primAlive && hasYardstick s && !chainUnseen s) = true := by simp [hasYardstick, hseen, hrc, halive, h2]
  have hsame : (s.updTb fun t => { t with filter := [], gross := true }) = emptied true true s := by
    simp only [emptied, State.updTb, halive]
  rw [grossError, if_pos hmeasured, hsame]

theorem chainUnseen_kept {s : State} (h : chainUnseen s = true) : missingEdge s = s ∧ grossError s = s := by
  simp [missingEdge, grossError, h]

theorem lostPrimary_of_idle {s : State} (h : primaryDrives s = false) : lostPrimary s = enterLost s := by
  simp [lostPrimary, h]

theorem lostPrimary_of_drives {s : State} (h3 : primary s ≠ 3) (h : primaryDrives s = true) : lostPrimary s = switchover true false s := by
  have hnot : (primary s == 3) = false := by simpa using h3
  rw [lostPrimary, if_pos h, hnot]

/-- Settles O2: a primary that does not drive TB0 enters LOST; one that does is switched over, to CHAIN, to RC, or to nothing. -/
theorem primaryIsLost : Obligations.PrimaryIsLost := by
  unfold Obligations.PrimaryIsLost
  refine ⟨⟨fun s hseen => ?_, fun alive gross s h2 hidle hseen => ?_⟩, fun s h2 h3 hdrives => ?_⟩
  · obtain ⟨hmissing, hgross⟩ := chainUnseen_kept (s := s.begin) hseen
    exact ⟨congrArg Host.Outcome.next hmissing, congrArg Host.Outcome.next hgross⟩
  · have hlost (a g : Bool) : lostPrimary (emptied a g s.begin) = enterLost (emptied a g s.begin) := lostPrimary_of_idle hidle
    have hmissing := (missingEdge_eq (s := s.begin) h2 hseen).trans (hlost false false)
    have hgross (hrc : s.tb.rcAlive = true) (hprim : s.tb.primAlive = true) :=
      (grossError_eq (s := s.begin) h2 hseen hrc hprim).trans (hlost true true)
    refine ⟨?_, ?_, ?_, ?_⟩
    · rintro rfl rfl hband
      exact congrArg Host.Outcome.next (hmissing.trans (enterLost_of_notLost hband))
    · rintro rfl rfl hband
      exact congrArg Host.Outcome.next (hmissing.trans (enterLost_of_lost hband))
    · rintro rfl rfl hrc hprim hband
      exact congrArg Host.Outcome.next ((hgross hrc hprim).trans (enterLost_of_notLost hband))
    · rintro rfl rfl hrc hprim hband
      exact congrArg Host.Outcome.next ((hgross hrc hprim).trans (enterLost_of_lost hband))
  · have hseen : chainUnseen s.begin = false := by
      have h : (primary s == 3) = false := by simpa using h3
      exact Bool.and_eq_false_imp.mpr fun hprim => absurd (h.symm.trans hprim) (by decide)
    have hsrc : s.get F.TB_REFSTAT_CURSRC = primary s := by
      simp only [primaryDrives, Bool.and_eq_true, beq_iff_eq] at hdrives
      exact hdrives.1
    have hswitch := ((missingEdge_eq (s := s.begin) h2 hseen).trans
      (lostPrimary_of_drives (s := emptied false false s.begin) h3 hdrives)).trans
      (switchover_primary (s := emptied false false s.begin) (by exact hsrc ▸ h2) (by exact hsrc ▸ h3))
    refine ⟨fun hchain hrc => ?_, fun hchain => ?_, fun hchain hrc => ?_⟩
    · rw [if_neg (by simp [emptied, hchain]), if_pos (by exact hrc), lossPolicy_heldLost (s := emptied false false s.begin) (Ne.symm h2),
        if_neg (by decide), takeSource_rc (s := emptied false false s.begin) h2 h3] at hswitch
      exact congrArg Host.Outcome.next hswitch
    · rw [if_pos (by exact hchain), lossPolicy_heldLost (s := emptied false false s.begin) (Ne.symm h3), if_pos rfl,
        takeSource_chain (s := emptied false false s.begin) h3 hchain] at hswitch
      exact congrArg Host.Outcome.next hswitch
    · rw [if_neg (by simp [emptied, hchain]), if_neg (by simp [emptied, hrc])] at hswitch
      exact congrArg Host.Outcome.next hswitch

end Sys2Proof.Machine
end

section
/-!
PROOFS. Calibration of the delay lines and the time read (R32 to R37), and the frame of the commands of the reference.
-/
namespace Sys2Proof.Machine

/-! An event pulse goes to routes and DMA channels by a route trigger, which no FIFO of Teasel waits for (R518). -/

theorem tsl_takeTrig_route (n : Fin 8) (s : State) : (takeTrig n .route s).1.tsl = s.tsl := by
  unfold takeTrig
  dsimp only
  split_ifs <;> rfl

theorem tsl_pulseRoute (n q : Nat) (s : State) : (pulseRoute n q s).1.tsl = s.tsl := by
  unfold pulseRoute
  split
  · split
    · rfl
    · exact tsl_takeTrig_route ..
    · split
      · rfl
      · dsimp only
        split <;> rfl
  · rfl

theorem tsl_foldl {β γ : Type} (f : State × β → γ → State × β) (hf : ∀ p x, (f p x).1.tsl = p.1.tsl) :
    ∀ (l : List γ) (p : State × β), (l.foldl f p).1.tsl = p.1.tsl
  | [], _ => rfl
  | x :: l, p => (tsl_foldl f hf l (f p x)).trans (hf p x)

theorem tsl_pulseAll (n : Nat) (s : State) : (pulseAll n s).1.tsl = s.tsl := by
  unfold pulseAll
  refine tsl_foldl _ ?_ _ (s, [])
  exact fun p q => tsl_pulseRoute n q p.1

theorem tsl_deliver : ∀ (fuel : Nat) (ns : List Nat) (s : State), (deliver fuel ns s).tsl = s.tsl
  | 0, _, _ => rfl
  | fuel + 1, ns, s => by
    have h := tsl_foldl (fun (p : State × List Nat) n => ((pulseAll n p.1).1, p.2 ++ (pulseAll n p.1).2))
      (fun p n => tsl_pulseAll n p.1) ns (s, [])
    unfold deliver
    dsimp only
    split
    · exact h
    · exact (tsl_deliver fuel _ _).trans h

@[simp] theorem State.raise_tsl (s : State) (n : Nat) : (s.raise n).tsl = s.tsl := tsl_deliver ..

/-- The registers of system control, the timebases, the router, the DMA channels and the PWM generator. -/
abbrev RefReg (r : Reg) : Prop := r.addr < 0x50004000 ∨ 0x50008000 ≤ r.addr ∧ r.addr < 0x5000A000

/-- `t` differs from `s` in the timebases, the router, the DMA channels, the legs, the policy sequencer and the answer alone. -/
structure RefFrame (s t : State) : Prop where
  word : ∀ r : Reg, ¬ RefReg r → t.word r = s.word r
  rest : { t with regs := s.regs, dma := s.dma, evr := s.evr, tb := s.tb, pwm := s.pwm, pol := s.pol, out := s.out } = s

namespace RefFrame

variable {s t u : State}

theorem refl (s : State) : RefFrame s s := ⟨fun _ _ => rfl, rfl⟩

theorem trans (h : RefFrame s t) (k : RefFrame t u) : RefFrame s u := by
  refine ⟨fun r hr => (k.word r hr).trans (h.word r hr), ?_⟩
  exact (congrArg (fun v : State =>
    { v with regs := s.regs, dma := s.dma, evr := s.evr, tb := s.tb, pwm := s.pwm, pol := s.pol, out := s.out }) k.rest).trans h.rest

theorem set {f : Fld} (h : RefReg f.reg) (v : Nat) (s : State) : RefFrame s (s.set f v) :=
  ⟨fun r hr => State.word_set_other s (fun heq => hr (by rw [RefReg, heq]; exact h)) v, rfl⟩
theorem setWord {q : Reg} (h : RefReg q) (w : Word) (s : State) : RefFrame s (s.setWord q w) :=
  ⟨fun r hr => State.word_setWord_other s w (fun heq => hr (by rw [RefReg, heq]; exact h)), rfl⟩
theorem updTb (f : Tb → Tb) (s : State) : RefFrame s (s.updTb f) := ⟨fun _ _ => rfl, rfl⟩
theorem begin (s : State) : RefFrame s s.begin := ⟨fun _ _ => rfl, rfl⟩

theorem raise (n : Nat) (s : State) : RefFrame s (s.raise n) := by
  exact ⟨fun r hr => (routerOnly_raise s n).word r (by simp only [RefReg] at hr; omega), by simp⟩

theorem ite {c : Prop} [Decidable c] (ht : RefFrame s t) (hu : RefFrame s u) : RefFrame s (if c then t else u) := by
  split
  · exact ht
  · exact hu

theorem foldl {β : Type} {f : State → β → State} : ∀ (l : List β), (∀ t, ∀ b ∈ l, RefFrame t (f t b)) → ∀ t, RefFrame t (l.foldl f t)
  | [], _, t => refl t
  | b :: l, hf, t => (hf t b (by simp)).trans (foldl l (fun u x hx => hf u x (List.mem_cons_of_mem _ hx)) _)

theorem forEach {n : Nat} {f : Nat → State → State} (hf : ∀ t, ∀ i < n, RefFrame t (f i t)) (t : State) :
    RefFrame t (Machine.forEach n f t) := foldl _ (fun u i hi => hf u i (List.mem_range.mp hi)) t

theorem setBit {f : Fld} (h : RefReg f.reg) (i : Nat) (b : Bool) (s : State) : RefFrame s (s.setBit f i b) := set h _ s
theorem count {f : Fld} (h : RefReg f.reg) (n : Nat) (s : State) : RefFrame s (s.count f n) := set h _ s

theorem tbEvent (b : Nat) (s : State) : RefFrame s (s.tbEvent b) := by
  unfold State.tbEvent
  exact ite ((setBit (by decide) _ _ _).trans (raise _ _)) (setBit (by decide) _ _ _)

theorem updCal (g : Nat) (f : CalGroup → CalGroup) (s : State) : RefFrame s (s.updCal g f) := updTb _ s

theorem setPol (p : Pol) (s : State) : RefFrame s { s with pol := p } := ⟨fun _ _ => rfl, rfl⟩

theorem setPwm (p : Pwm) (s : State) : RefFrame s { s with pwm := p } := ⟨fun _ _ => rfl, rfl⟩

/-! The legs and the policy sequencer (R315, R316, R440 to R442). -/

theorem legHiZ {l : Nat} (h : l < 16) (s : State) : RefFrame s (legHiZ l s) := by
  have hacc : RefReg (R.PWM_LnACC (l / 8) (l % 8)) := by
    simp only [RefReg, R.PWM_LnACC]
    omega
  unfold Machine.legHiZ
  exact (setPwm _ s).trans (setWord hacc _ _)

theorem legLatch {l : Nat} (h : l < 16) (cause src : Nat) (s : State) : RefFrame s (legLatch l cause src s) := by
  have hstat (f : Fld) (hf : f.reg = R.PWM_LnSTAT (l / 8) (l % 8)) : RefReg f.reg := by
    simp only [hf, RefReg, R.PWM_LnSTAT]
    omega
  unfold Machine.legLatch
  exact ite (refl s) (((((legHiZ h s).trans (set (hstat _ rfl) _ _)).trans (set (hstat _ rfl) _ _)).trans (set (hstat _ rfl) _ _)).trans
    (raise _ _))

theorem legsFault (p : Nat → Bool) (cause : Nat) (s : State) : RefFrame s (legsFault p cause s) :=
  forEach (fun t _ hl => ite (ite (legLatch hl cause 0 t) (refl t)) (refl t)) s

theorem polMark (b : Nat) (on : Bool) (s : State) : RefFrame s (polMark b on s) := by
  unfold Machine.polMark
  exact ite ((setBit (by decide) _ _ _).trans (setBit (by decide) _ _ _)) (setBit (by decide) _ _ _)

theorem polUpdate (s : State) : RefFrame s (polUpdate s) := by
  unfold Machine.polUpdate
  extract_lets +onlyGivenNames live act0 esc act der act1 der1 p s1 s2 s3 q s4
  have h1 : RefFrame s s1 := setPol _ s
  have h2 : RefFrame s s2 := (h1.trans (set (by decide) _ _)).trans (set (by decide) _ _)
  have h3 : RefFrame s s3 := ite (h2.trans (raise _ _)) h2
  have h4 : RefFrame s s4 := ite ((h3.trans (setPol _ _)).trans (set (by decide) _ _))
    (ite ((h3.trans (setPol _ _)).trans (set (by decide) _ _)) h3)
  exact ite (h4.trans (legsFault _ _ _)) h4

theorem polSet (b : Nat) (on : Bool) (s : State) : RefFrame s (polSet b on s) := (polMark b on s).trans (polUpdate _)

/-! The reference monitor and the switchover (R22 to R31). -/

theorem retReset (s : State) : RefFrame s (retReset s) := ((updTb _ s).trans (set (by decide) _ _)).trans (set (by decide) _ _)

theorem fineShow (s : State) : RefFrame s (fineShow s) := set (by decide) _ s

theorem fineBack (s : State) : RefFrame s (fineBack s) := by
  unfold Machine.fineBack
  exact ite ((updTb _ s).trans (tbEvent _ _)) (refl s)

theorem clearFine (s : State) : RefFrame s (clearFine s) := by
  unfold Machine.clearFine
  exact ite ((updTb _ s).trans (set (by decide) _ _)) (((updTb _ s).trans (set (by decide) _ _)).trans (tbEvent _ _))

theorem enterLost (s : State) : RefFrame s (enterLost s) := by
  unfold Machine.enterLost
  have h := retReset s
  exact ite h (((((h.trans (set (by decide) _ _)).trans (count (by decide) _ _)).trans (updTb _ _)).trans (set (by decide) _ _)).trans
    (tbEvent _ _))

theorem takeSource (src : Nat) (s : State) : RefFrame s (takeSource src s) :=
  (((updTb _ s).trans (set (by decide) _ _)).trans (tbEvent _ _)).trans (fineShow _)

theorem lossPolicy (src : Nat) (s : State) : RefFrame s (lossPolicy src s) := by
  unfold Machine.lossPolicy
  exact ite (((polMark _ _ s).trans (polMark _ _ _)).trans (polUpdate _))
    (ite (polSet _ _ s) (((polMark _ _ s).trans (polMark _ _ _)).trans (polUpdate _)))

theorem sourceBack (src : Nat) (s : State) : RefFrame s (sourceBack src s) := by
  unfold Machine.sourceBack
  exact ite (refl s) (ite (updTb _ s) ((takeSource src s).trans (lossPolicy src _)))

theorem switchover (prim chainloss : Bool) (s : State) : RefFrame s (switchover prim chainloss s) := by
  unfold Machine.switchover
  extract_lets +onlyGivenNames lost s1 s2 s3 src
  have h1 : RefFrame s s1 := (set (by decide) _ s).trans (clearFine _)
  have h2 : RefFrame s s2 := ite (h1.trans (enterLost _)) (h1.trans (tbEvent _ _))
  have h3 : RefFrame s s3 := ite (h2.trans (tbEvent _ _)) h2
  clear_value src
  split
  · have h4 := h3.trans (updTb (fun t => { t with noSource := true }) s3)
    exact ite (h4.trans (polSet _ _ _)) h4
  · exact (h3.trans (takeSource _ _)).trans (lossPolicy _ _)

theorem lostPrimary (s : State) : RefFrame s (lostPrimary s) := by
  unfold Machine.lostPrimary
  exact ite (switchover _ _ s) (enterLost s)

theorem rcLost (s : State) : RefFrame s (rcLost s) := by
  unfold Machine.rcLost
  have h := updTb (fun t => { t with rcAlive := false }) s
  exact ite ((h.trans (updTb _ _)).trans (lostPrimary _)) (ite (h.trans (switchover _ _ _)) h)

theorem missingEdge (s : State) : RefFrame s (missingEdge s) := by
  unfold Machine.missingEdge
  exact ite (refl s) (ite (rcLost s) ((updTb _ s).trans (lostPrimary _)))

theorem grossError (s : State) : RefFrame s (grossError s) := by
  unfold Machine.grossError
  exact ite ((updTb _ s).trans (lostPrimary _)) (refl s)

theorem restartFilter (s : State) : RefFrame s (restartFilter s) := by
  unfold Machine.restartFilter
  have h := ((updTb (fun t => { t with primAlive := true, filter := [], gross := false }) s).trans (retReset _)).trans
    (set (f := F.TB_REFSTAT_BAND) (by decide) 3 _)
  exact ite h (h.trans (set (by decide) _ _))

theorem rcReturn (s : State) : RefFrame s (rcReturn s) := by
  unfold Machine.rcReturn
  have h := updTb (fun t => { t with rcAlive := true }) s
  exact ite (refl s) (h.trans ((ite (restartFilter _) (refl _)).trans (sourceBack _ _)))

theorem primaryRestart (s : State) : RefFrame s (primaryRestart s) := by
  unfold Machine.primaryRestart
  exact ite (rcReturn s) (ite (refl s) ((restartFilter s).trans (sourceBack _ _)))

theorem putReferr (s : State) : RefFrame s (putReferr s) := set (by decide) _ s

theorem trimUpdate (s : State) : RefFrame s (trimUpdate s) := by
  unfold Machine.trimUpdate
  exact ite ((updTb _ s).trans (set (by decide) _ _)) (refl s)

theorem setBand (b : Nat) (s : State) : RefFrame s (setBand b s) := by
  unfold Machine.setBand
  have h := set (f := F.TB_REFSTAT_BAND) (by decide) b s
  refine ite (ite (refl s) (lostPrimary s)) (ite (.trans (ite h ?_) (trimUpdate _)) (ite h ?_))
  · exact ((h.trans (count (by decide) _ _)).trans (tbEvent _ _)).trans (retReset _)
  · have hpol := ite (c := primary (s.set F.TB_REFSTAT_BAND b) = 2 ∧ primaryDrives (s.set F.TB_REFSTAT_BAND b) = true)
      (h.trans (polSet 1 false _)) h
    exact ite (hpol.trans (updTb _ _)) hpol

theorem followBaseline (m : Meas) (s : State) : RefFrame s (followBaseline m s) := by
  unfold Machine.followBaseline
  exact ite (refl s) (ite (set (by decide) _ s) (set (by decide) _ s))

theorem retTick (s : State) : RefFrame s (retTick s) := by
  unfold Machine.retTick
  exact ite (((updTb _ s).trans (set (by decide) _ _)).trans (set (by decide) _ _)) (refl s)

theorem recompute (ratio : Nat) (err : Int) (s : State) : RefFrame s (recompute ratio err s) := by
  unfold Machine.recompute
  extract_lets m fill s1 n s2 s3 s4
  have h1 : RefFrame s s1 := updTb _ s
  have h2 : RefFrame s s2 := ite (h1.trans (set (by decide) _ _)) h1
  have h3 : RefFrame s s3 := (h2.trans (updTb _ _)).trans (putReferr _)
  have h4 : RefFrame s s4 := h3.trans (setBand _ _)
  exact ite (refl s) (ite (h1.trans (putReferr _)) ((h4.trans (followBaseline _ _)).trans (retTick _)))

theorem trimDone (s : State) : RefFrame s (trimDone s) := by
  unfold Machine.trimDone
  exact ite ((updTb _ s).trans (set (by decide) _ _)) (refl s)

theorem retdlyExpire (s : State) : RefFrame s (retdlyExpire s) := by
  unfold Machine.retdlyExpire
  exact ite (updTb _ s) (refl s)

theorem primaryReturn (s : State) : RefFrame s (primaryReturn s) := by
  unfold Machine.primaryReturn
  exact ite (((((((retReset s).trans (set (by decide) _ _)).trans (fineShow _)).trans (tbEvent _ _)).trans (polMark _ _ _)).trans
    (polMark _ _ _)).trans (polUpdate _)) (refl s)

/-! The delay lines (R32 to R36). -/

theorem calResume (g : Nat) (s : State) : RefFrame s (calResume g s) := by
  unfold Machine.calResume
  exact ite (refl s) (ite ((updCal _ _ s).trans (setBit (by decide) _ _ _)) (updCal _ _ s))

theorem startRotation (s : State) : RefFrame s (startRotation s) :=
  (forEach (fun t g _ => ite (ite (refl t) (updCal _ _ t)) (calResume g t)) s).trans (fineBack _)

theorem loopPullin (s : State) : RefFrame s (loopPullin s) := by
  unfold Machine.loopPullin
  have h := set (f := F.TB_REFSTAT_HOLD) (by decide) 0 s
  exact ite (ite (h.trans (startRotation _)) h) (refl s)

theorem calDone (g : Nat) (ok : Bool) (s : State) : RefFrame s (calDone g ok s) := by
  unfold Machine.calDone
  have h := (setBit (f := F.TB_DLSTAT_SPAREOK) (by decide) g false s).trans (tbEvent 6 _)
  exact ite (refl s) (ite (updCal _ _ s) (ite h (((h.trans (updCal _ _ _)).trans (calResume _ _)).trans (fineBack _))))

theorem lineSwap (g : Nat) (s : State) : RefFrame s (lineSwap g s) := by
  unfold Machine.lineSwap
  extract_lets +onlyGivenNames c
  split
  · exact refl s
  · exact ite (refl s) (ite ((((updCal _ _ s).trans (updCal _ _ _)).trans (setBit (by decide) _ _ _)).trans (fineBack _)) (updCal _ _ s))

end RefFrame

theorem refFrame_of_row {op : State → State} (h : ∀ u, RefFrame u (op u)) {s t : State} (he : row op s = .next t) : RefFrame s t := by
  obtain rfl : op s.begin = t := by simpa [row] using he
  exact (RefFrame.begin s).trans (h _)

/-- Every command of the reference and the delay lines keeps to its frame. -/
theorem exec_refFrame {ratio : Nat} {err : Int} {g : Fin 5} {ok : Bool} {s t : State} {c : Instr}
    (hc : c ∈ [Instr.filteredErrorRecomputation ratio err, .trimRemovalDone, .missingEdgeDetect, .grossErrorDetect, .primaryRestart,
      .loopPullin, .rcLoss, .rcReturn, .retdlyExpiry, .primaryReturn, .lineCalibrationDone g ok, .lineSwap g])
    (he : exec c s = .next t) : RefFrame s t := by
  simp only [List.mem_cons, List.not_mem_nil, or_false] at hc
  obtain rfl | rfl | rfl | rfl | rfl | rfl | rfl | rfl | rfl | rfl | rfl | rfl := hc
  · exact refFrame_of_row (RefFrame.recompute ratio err) he
  · exact refFrame_of_row RefFrame.trimDone he
  · exact refFrame_of_row RefFrame.missingEdge he
  · exact refFrame_of_row RefFrame.grossError he
  · exact refFrame_of_row RefFrame.primaryRestart he
  · exact refFrame_of_row RefFrame.loopPullin he
  · exact refFrame_of_row RefFrame.rcLost he
  · exact refFrame_of_row RefFrame.rcReturn he
  · exact refFrame_of_row RefFrame.retdlyExpire he
  · exact refFrame_of_row RefFrame.primaryReturn he
  · exact refFrame_of_row (RefFrame.calDone g ok) he
  · exact refFrame_of_row (RefFrame.lineSwap g) he

/-- Settles O60: the frame of the twelve commands, part by part. -/
theorem referenceCommandsFrame : Obligations.ReferenceCommandsFrame := by
  unfold Obligations.ReferenceCommandsFrame
  intro ratio err g ok s t c hc he
  obtain ⟨hword, hrest⟩ := exec_refFrame hc he
  have part {α : Type} (p : State → α) : p { t with regs := s.regs, dma := s.dma, evr := s.evr, tb := s.tb, pwm := s.pwm, pol := s.pol, out := s.out } = p s :=
    congrArg p hrest
  exact ⟨part State.mem, part State.memCtl, part State.camp, part State.yar, part State.share, part State.chn, part State.lcs,
    part State.pins, part State.tsl, part State.tslPin, part State.uart, part State.i2c, part State.sense, part State.sched,
    part State.gov, part State.flash, part State.boot, part State.svc, part State.now, part State.free,
    fun r hr => hword r (by simp only [RefReg]; omega)⟩

/-! Calibration and swap of one line (R32, R33, R35), by what the group's state is. -/

@[simp] theorem calIx_val (g : Fin 5) : calIx g = g := Fin.ext (Nat.mod_eq_of_lt g.isLt)

section
variable {g : Fin 5} {s : State}

theorem calDone_of_unlocked (h : s.bit F.TB_LOCK 13 = false) (ok : Bool) : calDone g ok s = s := by simp [calDone, h]

theorem lineSwap_of_unlocked (h : s.bit F.TB_LOCK 13 = false) : lineSwap g s = s := by
  unfold lineSwap
  dsimp only
  split
  · rfl
  · simp [h]

theorem calDone_of_spare (hlock : s.bit F.TB_LOCK 13 = true) (hok : s.bit F.TB_DLSTAT_SPAREOK g = true)
    (hready : (s.tb.cal.get g).spareReady = false) :
    calDone g true s = s.updCal g (fun c => { c with spare := calNow s, spareReady := true }) ∧
    ((s.tb.cal.get g).rotLeft = 0 → calDone g false s = (s.setBit F.TB_DLSTAT_SPAREOK g false).tbEvent 6) := by
  refine ⟨by simp [calDone, hlock, hok, hready], fun hrot => by simp [calDone, hlock, hok, hready, hrot]⟩

/-- The group once its spare has taken the place of its oldest line. -/
def swapped (g : Nat) (old : CalPoint) (rest : List CalPoint) (s : State) : State :=
  s.updCal g fun c => { c with lines := rest ++ [c.spare], spare := old, spareReady := false,
                               pos := (c.pos + 1) % (rest.length + 1), rotLeft := c.rotLeft - 1 }

variable {old : CalPoint} {rest : List CalPoint}

theorem lineSwap_of_spare (hlock : s.bit F.TB_LOCK 13 = true) (hlines : (s.tb.cal.get g).lines = old :: rest)
    (hready : (s.tb.cal.get g).spareReady = true) : lineSwap g s =
      if lineBusy g (s.tb.cal.get g).pos s then s
      else if (s.tb.cal.get g).rotLeft = 1 then
        fineBack (((swapped g old rest s).updCal g fun c => { c with lost := false }).setBit F.TB_DLSTAT_FINE g true)
      else swapped g old rest s := by
  unfold lineSwap
  rw [calIx_val]
  dsimp only
  rw [hlines]
  simp [hlock, hready, swapped]

end

theorem regRow?_tbTimelo : ∃ row, regRow? R.TB_TIMELO.addr = some row := Option.isSome_iff_exists.mp (by decide +kernel)

theorem specialRead_tbTimelo (cid : Nat) (s : State) : specialRead cid R.TB_TIMELO.addr s = some (timeloRead s) := by
  simp [specialRead, R.TB_TIMELO]

/-- Settles O4: calibration and swap by what the group's state is, and the read of TB_TIMELO by its own rule. -/
theorem delayLinesAndTime : Obligations.DelayLinesAndTime := by
  unfold Obligations.DelayLinesAndTime
  refine ⟨⟨fun g ok s h => ?_, fun g s hlock hok hready => ?_, fun g s old rest hlock hlines hready => ?_⟩, fun cid s h => ?_⟩
  · exact ⟨congrArg Host.Outcome.next (calDone_of_unlocked (s := s.begin) h ok),
      congrArg Host.Outcome.next (lineSwap_of_unlocked (s := s.begin) h)⟩
  · obtain ⟨hgood, hbad⟩ := calDone_of_spare (s := s.begin) hlock hok hready
    exact ⟨congrArg Host.Outcome.next hgood, fun hrot => congrArg Host.Outcome.next (hbad hrot)⟩
  · have hswap := lineSwap_of_spare (s := s.begin) hlock hlines hready
    refine ⟨fun hbusy => ?_, fun hbusy hrot => ?_, fun hbusy hrot hwait => ?_⟩
    · exact congrArg Host.Outcome.next (hswap.trans (if_pos hbusy))
    · exact congrArg Host.Outcome.next (hswap.trans ((if_neg (Bool.eq_false_iff.mp hbusy)).trans (if_neg hrot)))
    · exact congrArg Host.Outcome.next
        ((hswap.trans ((if_neg (Bool.eq_false_iff.mp hbusy)).trans (if_pos hrot))).trans (fineBack_of_noWait hwait))
  · obtain ⟨row, hrow⟩ := regRow?_tbTimelo
    refine (read_row h hrow (specialRead_tbTimelo ..) (by decide) rfl).trans ?_
    simp [timeloRead]

end Sys2Proof.Machine
end

section
/-!
PROOFS. One step of Yarrow on the instruction it fetches, and the integer instructions and register x0 (R162, R177).
-/
namespace Sys2Proof.Machine

variable {w : Word} {len : Nat} {s t : State}

/-- What the step of a command comes to once Yarrow has fetched: the command's own instructions, and illegal ones, are executed. -/
theorem Fetches.yStep (h : Fetches w len s t) (mine : YInstr → Bool) (limit : Option Nat) :
    yStep mine limit s.begin =
      if (yDecode w len != .illegal && !mine (yDecode w len)) = true then s.begin
      else (yExec w len (yDecode w len) limit t).state := by
  obtain ⟨hrun, hhalt, hwait, hwfi, hstep, htrig, -, -⟩ := id h
  have hsame : (if (s.begin.yar.wfi && (mipWord s.begin &&& s.begin.yar.ie) != 0#32) = true then
      s.begin.updYar fun y => { y with wfi := false } else s.begin) = s.begin := if_neg (by simp [hwfi])
  unfold Machine.yStep
  dsimp only
  rw [hsame, if_neg (by simp [hrun, hhalt, hwait, hwfi])]
  have htrig' : triggerHit 2 s.begin.yar.pc.toNat s.begin = none := htrig
  rw [htrig']
  dsimp only
  rw [h.eq]
  dsimp only
  split
  · rfl
  · cases yExec w len (yDecode w len) limit t with
    | done u =>
      have hstep' : s.begin.yar.dbg.dcsr.getLsbD 2 = false := hstep
      exact if_neg (by rw [hstep', Bool.false_and]; decide)
    | busy u => rfl

/-- An instruction of the command's own kind is executed. -/
theorem Fetches.exec_mine (h : Fetches w len s t) {mine : YInstr → Bool} (limit : Option Nat) {i : YInstr}
    (hi : yDecode w len = i) (hmine : mine i = true) :
    rowS (Machine.yStep mine limit) s = .next (settle (yExec w len i limit t).state) := by
  subst hi
  rw [rowS, h.yStep, if_neg (by simp [hmine])]

/-- An illegal instruction is executed by every command. -/
theorem Fetches.exec_illegal (h : Fetches w len s t) {mine : YInstr → Bool} (limit : Option Nat) (hi : yDecode w len = .illegal) :
    rowS (Machine.yStep mine limit) s = .next (settle (yExec w len .illegal limit t).state) := by
  rw [rowS, h.yStep, hi, if_neg (by simp)]

/-- A legal instruction of another kind is left to its own command. -/
theorem Fetches.exec_other (h : Fetches w len s t) {mine : YInstr → Bool} (limit : Option Nat) (hi : yDecode w len ≠ .illegal)
    (hmine : mine (yDecode w len) = false) : rowS (Machine.yStep mine limit) s = .next (settle s.begin) := by
  rw [rowS, h.yStep, if_pos (by simp [hmine, hi])]

/-! A write of an integer register (R162): x0 discards it, and nothing but the register and the test signature takes it. -/

section
variable (i : Nat) (v : Word) (s : State)

@[simp] theorem yPut_zero : yPut 0 v s = s := rfl

@[simp] theorem yPut_pc : (yPut i v s).yar.pc = s.yar.pc := by unfold yPut; split <;> rfl
@[simp] theorem yPut_f : (yPut i v s).yar.f = s.yar.f := by unfold yPut; split <;> rfl
@[simp] theorem yPut_mach : (yPut i v s).yar.mach = s.yar.mach := by unfold yPut; split <;> rfl
@[simp] theorem yPut_mepc : (yPut i v s).yar.mepc = s.yar.mepc := by unfold yPut; split <;> rfl
@[simp] theorem yPut_sb : (yPut i v s).yar.sb = s.yar.sb := by unfold yPut; split <;> rfl
@[simp] theorem yPut_vet : (yPut i v s).yar.vet = s.yar.vet := by unfold yPut; split <;> rfl
@[simp] theorem yPut_mem : (yPut i v s).mem = s.mem := by unfold yPut; split <;> rfl
@[simp] theorem yPut_regs : (yPut i v s).regs = s.regs := by unfold yPut; split <;> rfl

end

theorem yReg_zero (s : State) : yReg 0 s = 0#32 := rfl

theorem yReg_yPut_same {i : Fin 32} (hi : i ≠ 0) (v : Word) (s : State) : yReg i (yPut i v s) = v := by
  have hmod : (i : Nat) % 32 = i := Nat.mod_eq_of_lt i.isLt
  have hne : (i : Nat) ≠ 0 := fun h => hi (Fin.ext h)
  simp [yReg, yPut, hmod, hne, State.updYar, Vector.set!, List.getD_eq_getElem?_getD]

theorem yReg_yPut_other {i j : Fin 32} (hij : i ≠ j) (v : Word) (s : State) : yReg j (yPut i v s) = yReg j s := by
  have hi : (i : Nat) % 32 = i := Nat.mod_eq_of_lt i.isLt
  have hj : (j : Nat) % 32 = j := Nat.mod_eq_of_lt j.isLt
  have hne : (i : Nat) ≠ j := fun h => hij (Fin.ext h)
  unfold yPut
  split
  · rfl
  · simp [yReg, hi, hj, State.updYar, Vector.set!, List.getD_eq_getElem?_getD, hne]

/-! Division at its edges (R177). -/

theorem divVal_zero (x : Word) :
    divVal 4 x 0#32 = 0xFFFFFFFF#32 ∧ divVal 5 x 0#32 = 0xFFFFFFFF#32 ∧ divVal 6 x 0#32 = x ∧ divVal 7 x 0#32 = x := by
  simp [divVal]

theorem divVal_overflow : divVal 4 0x80000000#32 0xFFFFFFFF#32 = 0x80000000#32 ∧ divVal 6 0x80000000#32 0xFFFFFFFF#32 = 0#32 := by
  decide

theorem divVal_unsigned {y : Word} (h : y ≠ 0#32) (x : Word) : divVal 5 x y = x / y ∧ divVal 7 x y = x % y := by
  simp [divVal, h, BitVec.udiv_def, BitVec.umod_def]

/-- Settles O16: the step runs `yExec` on the fetched instruction, whose cases are the integer instructions; x0 by `yPut`'s two cases. -/
theorem yarrowIntegers : Obligations.YarrowIntegers := by
  unfold Obligations.YarrowIntegers
  refine ⟨⟨fun w len rd op a b s t h hi => ?_, fun w len rd imm s t h hi => ?_, fun w len s t h hlegal hother => ?_,
    fun w len fn rd a b s t h hi => ?_, fun w len fn rd a b s t h hi => ⟨?_, ?_, ?_, ?_⟩⟩, fun i j v s => ?_⟩
  · refine (h.exec_mine (mine := isInteger) none hi rfl).trans ?_
    simp [yExec, YOut.state, State.retired, yNext]
  · refine (h.exec_mine (mine := isInteger) none hi rfl).trans ?_
    simp [yExec, YOut.state, State.retired, yNext]
  · exact h.exec_other none hlegal hother
  · refine (h.exec_mine (mine := isInteger) none hi rfl).trans ?_
    simp [yExec, YOut.state, State.retired, yNext]
  · refine (h.exec_mine (mine := isDiv) none hi rfl).trans ?_
    simp [yExec, YOut.state, State.retired, yNext]
  · intro hy
    rw [hy]
    exact divVal_zero _
  · intro hx hy
    rw [hx, hy]
    exact divVal_overflow
  · exact fun hy => divVal_unsigned hy _
  · exact ⟨yReg_zero s, yPut_zero v s, fun hi => yReg_yPut_same hi v s, fun hij => yReg_yPut_other hij v s, by simp⟩

end Sys2Proof.Machine
end

section
/-!
PROOFS. Traps of Yarrow and its floating-point instructions (R164, R172, R178 to R180).
-/
namespace Sys2Proof.Machine

variable {w : Word} {len : Nat} {s t : State}

/-- An exception outside Debug Mode is the trap of R172. -/
theorem yTrap_exception (h : t.yar.dbg.halted = false) (cause : Nat) (tval : Word) :
    yTrap cause false tval t = t.trapped (BitVec.ofNat 32 cause) tval t.trapBase := by
  unfold yTrap State.trapped State.trapBase
  rw [if_neg (by simp [h])]
  rfl

theorem yFault_exception (h : t.yar.dbg.halted = false) (cause yf a : Nat) : yFault cause yf a t =
    (t.updYar fun y => { y with yfault := BitVec.ofNat 4 yf }).trapped (BitVec.ofNat 32 cause) (BitVec.ofNat 32 a) t.trapBase := by
  unfold yFault
  rw [if_neg (by simp [h]), yTrap_exception (by exact h)]
  rfl

theorem yIllegal_exception (h : t.yar.dbg.halted = false) (w : Word) : (yIllegal w t).state = t.trapped 2#32 w t.trapBase :=
  yTrap_exception h 2 w

/-! An F operation (R164, R178): with FS on and a valid rounding mode its result, else the trap. -/

/-- `t` once the F operation has written its result and accrued its flags. -/
def fpDone (op : FpOp) (rd a b r : Nat) (t : State) : State :=
  let v := fpVal op r (fReg a t) (fReg b t) (yReg a t)
  if fpToX op then yPut rd (BitVec.ofNat 32 v.1) (accrue v.2 t) else fPut rd (BitVec.ofNat 32 v.1) (accrue v.2 t)

@[simp] theorem accrue_pc (fl : Nat) (t : State) : (accrue fl t).yar.pc = t.yar.pc := by unfold accrue; split <;> rfl
@[simp] theorem fPut_pc (i : Nat) (v : Word) (t : State) : (fPut i v t).yar.pc = t.yar.pc := rfl

@[simp] theorem fpDone_pc (op : FpOp) (rd a b r : Nat) (t : State) : (fpDone op rd a b r t).yar.pc = t.yar.pc := by
  unfold fpDone
  dsimp only
  split <;> simp

section
variable {op : FpOp} {rd a b rm : Nat}

theorem yFp_of_valid {r : Nat} (hfs : t.yar.fs ≠ 0#2) (hr : (if fpRounds op then roundMode rm t.yar else some 0) = some r) :
    (yFp w len op rd a b rm t).state = (fpDone op rd a b r t).retired len := by
  unfold yFp State.retired
  rw [if_neg hfs, hr, fpDone_pc]
  have hnext (v : Word) (u : State) : (if fpToX op then yPut rd v u else fPut rd v u).yar.pc = u.yar.pc := by split <;> simp
  simp only [YOut.state, yNext, hnext, accrue_pc]
  rfl

theorem yFp_of_invalid (hhalt : t.yar.dbg.halted = false)
    (h : t.yar.fs = 0#2 ∨ fpRounds op = true ∧ roundMode rm t.yar = none) :
    (yFp w len op rd a b rm t).state = t.trapped 2#32 w t.trapBase := by
  rw [← yIllegal_exception hhalt]
  unfold yFp
  obtain hfs | ⟨hrounds, hmode⟩ := h
  · rw [if_pos hfs]
  · split
    · rfl
    · rw [hmode]

/-- Every command of F operations that counts this one as its own runs it. -/
theorem Fetches.exec_fp (h : Fetches w len s t) (hi : yDecode w len = .fp op rd a b rm) {u : State}
    (hu : (yFp w len op rd a b rm t).state = u) :
    (isFloat (.fp op rd a b rm) = true → exec .floatingPointArithmetic s = .next (settle u)) ∧
    (op = .min ∨ op = .max → exec .fminFmax s = .next (settle u)) ∧
    (∀ k, op = .toInt k → exec .conversionToInteger s = .next (settle u)) := by
  subst hu
  refine ⟨fun hmine => h.exec_mine (mine := isFloat) none hi hmine, ?_, ?_⟩
  · rintro (rfl | rfl)
    · exact h.exec_mine (mine := isMinMax) none hi rfl
    · exact h.exec_mine (mine := isMinMax) none hi rfl
  · rintro k rfl
    exact h.exec_mine (mine := isToInt) none hi rfl

end

theorem yFma_of_valid {k rd a b c rm r : Nat} (hfs : t.yar.fs ≠ 0#2) (hr : roundMode rm t.yar = some r) :
    (yFma w k rd a b c rm t).state =
      let x := f32.read (fReg a t).toNat
      let z := f32.read (fReg c t).toNat
      let v := fpFma f32 r (if 2 ≤ k then x.neg else x) (f32.read (fReg b t).toNat) (if k = 1 ∨ k = 3 then z.neg else z)
      (fPut rd (BitVec.ofNat 32 v.1) (accrue v.2 t)).retired 4 := by
  unfold yFma
  rw [if_neg hfs, hr]
  simp only [YOut.state, State.retired, yNext, fPut_pc, accrue_pc]

/-- Settles O17: an F operation runs `yFp` or `yFma`; the edges of R179 and R180 are computed. -/
theorem yarrowFloat : Obligations.YarrowFloat := by
  unfold Obligations.YarrowFloat
  refine ⟨fun w len rd a b rm r op s t h hi hfs hr => ?_, fun w len rd a b rm op s t h hi hhalt hbad => ?_,
    fun w len k rd a b c rm r s t h hlen hi hfs hr => ?_, ?_⟩
  · exact h.exec_fp hi (yFp_of_valid hfs hr)
  · exact h.exec_fp hi (yFp_of_invalid hhalt hbad)
  · subst hlen
    refine (h.exec_mine (mine := isFloat) none hi rfl).trans ?_
    exact congrArg (fun u => Host.Outcome.next (settle u)) (yFma_of_valid hfs hr)
  · decide +kernel

end Sys2Proof.Machine
end

section
/-!
PROOFS. The control and status registers of Yarrow (R191, R193, R225).
-/
namespace Sys2Proof.Machine

variable {w : Word} {len op rd n : Nat} {src : Src} {s t : State}

/-- Does a CSR instruction write: CSRRW always, the others where the source is not x0 or 0? -/
def csrWrites (op : Nat) (src : Src) : Bool :=
  op == 1 || (match src with
    | .reg i => i != 0
    | .imm v => v != 0#32)

/-- The state that a CSR instruction acts on: an access to VEIX waits for the older Vetch instructions (R225). -/
def csrBase (n : Nat) (t : State) : State := if n = 0x7C2 then vetFinish t else t

/-- A CSR instruction that is allowed: the new value of its CSR, and the old one in rd. -/
def csrDone (op rd : Nat) (src : Src) (n : Nat) (old : Word) (t : State) : State :=
  let u := csrBase n t
  let new := if op = 1 then srcVal src u else if op = 2 then old ||| srcVal src u else old &&& ~~~srcVal src u
  yPut rd old (if csrWrites op src then csrWrite n new (u.retired 4) else u.retired 4)

theorem yCsr_eq {o : Option Word} (h : (if csrAllowed n (csrWrites op src) t.yar = true then csrRead n t else none) = o) :
    (yCsr w op rd src n t).state = o.elim (yIllegal w t).state fun old => csrDone op rd src n old t := by
  cases src with
  | reg i =>
    have h' : (if csrAllowed n (op == 1 || i != 0) t.yar = true then csrRead n t else none) = o := h
    unfold yCsr
    dsimp only
    rw [h']
    cases o <;> rfl
  | imm v =>
    have h' : (if csrAllowed n (op == 1 || v != 0#32) t.yar = true then csrRead n t else none) = o := h
    unfold yCsr
    dsimp only
    rw [h']
    cases o <;> rfl

theorem yCsr_of_allowed {old : Word} (hallowed : csrAllowed n (csrWrites op src) t.yar = true) (hread : csrRead n t = some old) :
    (yCsr w op rd src n t).state = csrDone op rd src n old t := yCsr_eq (by rw [if_pos hallowed, hread])

theorem yCsr_of_refused (hhalt : t.yar.dbg.halted = false)
    (h : csrAllowed n (csrWrites op src) t.yar = false ∨ csrRead n t = none) :
    (yCsr w op rd src n t).state = t.trapped 2#32 w t.trapBase := by
  rw [← yIllegal_exception hhalt]
  refine yCsr_eq (o := none) ?_
  obtain h | h := h
  · rw [h, if_neg (by decide)]
  · rw [h, ite_self]

/-! The CSRs with an effect of their own (R193, R225). -/

theorem csrWrite_veix (v : Word) (s : State) : csrWrite 0x7C2 v s = s.updYar fun y => { y with veix := v.setWidth 12 } := by
  simp [csrWrite]

theorem csrRead_veix (s : State) : csrRead 0x7C2 s = some (s.yar.veix.setWidth 32) := by simp [csrRead]

theorem csrWrite_yserrinfo (v : Word) (s : State) : csrWrite 0x7C7 v s =
    s.updYar fun y => { y with serrMore := y.serrMore && v.getLsbD 8, serrValid := y.serrValid && v.getLsbD 31 } := by
  simp [csrWrite]

theorem csrWrite_flush {v : Word} (h : v.getLsbD 1 = true) (s : State) :
    csrWrite 0x7C9 v s = s.updYar fun y => { y with bpoff := v.getLsbD 0, pred := {} } := by
  unfold csrWrite
  simp only [h]
  rfl

/-- Settles O20: a CSR instruction runs `yCsr`, and the special CSRs are cases of `csrRead` and `csrWrite`. -/
theorem yarrowCsrs : Obligations.YarrowCsrs := by
  unfold Obligations.YarrowCsrs
  refine ⟨?_, fun v s => ⟨csrWrite_veix v s, ?_, csrWrite_yserrinfo v s, fun h => csrWrite_flush h s⟩⟩
  · intro w len op rd n src s t h hlen hi
    subst hlen
    refine ⟨fun old hallowed hread => ?_, fun hbad hhalt => ?_⟩
    · have hdone {mine : YInstr → Bool} (hmine : mine (.csr op rd src n) = true) :=
        (h.exec_mine none hi hmine).trans (congrArg (fun u => Host.Outcome.next (settle u)) (yCsr_of_allowed hallowed hread))
      exact ⟨hdone (mine := isCsr none) rfl, by rintro rfl; exact hdone (mine := isCsr (some 0x7C2)) rfl,
        by rintro rfl; exact hdone (mine := isCsr (some 0x7C7)) rfl, by rintro rfl; exact hdone (mine := isCsr (some 0x7C9)) rfl⟩
    · exact (h.exec_mine (mine := isCsr none) none hi rfl).trans
        (congrArg (fun u => Host.Outcome.next (settle u)) (yCsr_of_refused hhalt hbad))
  · rw [csrWrite_veix, csrRead_veix]
    have hlow := Nat.and_two_pow_sub_one_eq_mod v.toNat 12
    refine congrArg some (BitVec.eq_of_toNat_eq ?_)
    simp only [State.updYar, BitVec.toNat_setWidth, BitVec.toNat_and, BitVec.toNat_ofNat, Nat.reducePow, Nat.reduceMod,
      Nat.reduceSub] at hlow ⊢
    omega

end Sys2Proof.Machine
end

section
/-!
PROOFS. Loads, stores and the store buffer of Yarrow (R168, R170, R172, R174).
-/
namespace Sys2Proof.Machine

variable {w : Word} {len : Nat} {s t u v : State}

/-- An instruction that is executed and comes to `u`. -/
theorem Fetches.ends (h : Fetches w len s t) {mine : YInstr → Bool} {limit : Option Nat} {i : YInstr} (hi : yDecode w len = i)
    (hmine : mine i = true) (hu : (yExec w len i limit t).state = u) : rowS (Machine.yStep mine limit) s = .next (settle u) :=
  hu ▸ h.exec_mine limit hi hmine

/-! A load (R168, R170), by its address and what the fabric answers. -/

section
variable {rd fn : Nat} {isF : Bool} {addr : Word}

/-- The store buffer before a load of `size` bytes at `a`: drained where a store must go first (R170). -/
def loadBase (a size : Nat) (t : State) : State := if mustDrain a size t then drainAll t else t

/-- A store that must go first is still on the chain. -/
abbrev LoadHeld (a size : Nat) (v : State) : Prop := mustDrain a size v = true ∧ v.yar.sb ≠ []

theorem yLoad_of_misaligned (htrig : triggerHit 0 addr.toNat t = none) (hmis : addr.toNat % 2 ^ (fn % 4) ≠ 0) :
    (yLoad rd isF fn len addr t).state = yTrap 4 false addr t := by
  unfold yLoad
  simp only [htrig, if_pos hmis]
  rfl

theorem yLoad_of_held (htrig : triggerHit 0 addr.toNat t = none) (hal : addr.toNat % 2 ^ (fn % 4) = 0)
    (hheld : LoadHeld addr.toNat (2 ^ (fn % 4)) (loadBase addr.toNat (2 ^ (fn % 4)) t)) :
    (yLoad rd isF fn len addr t).state = loadBase addr.toNat (2 ^ (fn % 4)) t := by
  have hbusy : mustDrain addr.toNat (2 ^ (fn % 4)) (loadBase addr.toNat (2 ^ (fn % 4)) t) = true ∧
      (!(loadBase addr.toNat (2 ^ (fn % 4)) t).yar.sb.isEmpty) = true := ⟨hheld.1, by simpa using hheld.2⟩
  unfold loadBase at hbusy ⊢
  unfold yLoad
  simp only [htrig, hal, ne_eq, not_true_eq_false, if_false, if_pos hbusy]
  rfl

theorem yLoad_of_access (htrig : triggerHit 0 addr.toNat t = none) (hal : addr.toNat % 2 ^ (fn % 4) = 0)
    (hfree : ¬ LoadHeld addr.toNat (2 ^ (fn % 4)) (loadBase addr.toNat (2 ^ (fn % 4)) t)) :
    (yLoad rd isF fn len addr t).state =
      match yAccess .yarrow 0 addr.toNat (2 ^ (fn % 4)) 0 (loadBase addr.toNat (2 ^ (fn % 4)) t) with
      | (.ok d, s) => loadDone rd isF fn len d s
      | (.fault c f, s) => yFault 5 c f s
      | (.wait, s) => s.updYar fun y => { y with wait := some (.load rd isF fn addr.toNat len) } := by
  have hbusy : ¬ (mustDrain addr.toNat (2 ^ (fn % 4)) (loadBase addr.toNat (2 ^ (fn % 4)) t) = true ∧
      (!(loadBase addr.toNat (2 ^ (fn % 4)) t).yar.sb.isEmpty) = true) := fun h => hfree ⟨h.1, by simpa using h.2⟩
  unfold loadBase at hbusy ⊢
  unfold yLoad
  simp only [htrig, hal, ne_eq, not_true_eq_false, if_false, if_neg hbusy]
  generalize yAccess .yarrow 0 addr.toNat (2 ^ (fn % 4)) 0 _ = r
  obtain ⟨_ | _ | _, v⟩ := r <;> rfl

/-- LW, LH, LB and FLW run `yLoad`. -/
theorem Fetches.exec_load {a : Nat} {off : Word} (h : Fetches w len s t)
    (hi : yDecode w len = (if isF then .flw rd a off else .load fn rd a off)) (hf : isF = true → fn = 2 ∧ t.yar.fs ≠ 0#2)
    (hu : (yLoad rd isF fn len (yReg a t + off) t).state = u) : exec .yarrowLoad s = .next (settle u) := by
  cases isF with
  | true =>
    obtain ⟨rfl, hfs⟩ := hf rfl
    exact h.ends (mine := isLoad) hi rfl ((congrArg YOut.state (if_neg hfs)).trans hu)
  | false => exact h.ends (mine := isLoad) hi rfl hu

theorem loadDone_eq (d : Nat) (u : State) : loadDone rd isF fn len d u =
    (if isF then fPut rd (BitVec.ofNat 32 d) u else yPut rd (loadValue fn d) u).retired len := rfl

end

/-! A store (R168, R170, R174). -/

section
variable {size : Nat} {d addr : Word}

/-- The store buffer before a store: drained where a store must go first, and its oldest store performed where it is full. -/
def storeBase (a size : Nat) (t : State) : State :=
  if mustDrain a size t then drainAll t else if 4 ≤ t.yar.sb.length then storeDrain t else t

/-- The store finds no place. -/
abbrev StoreHeld (a size : Nat) (v : State) : Prop := (mustDrain a size v = true ∧ v.yar.sb ≠ []) ∨ 4 ≤ v.yar.sb.length

/-- A store in Machine mode, or in that of MPRV or User mode (R165). -/
abbrev StoreUser (v : State) : Prop := v.yar.mach = false ∨ (v.yar.mprv = true ∧ v.yar.mppM = false)

/-- The buffered store. -/
def bufferedStore (a size data : Nat) (v : State) : YStore :=
  { addr := a, size := size, data := data, cid := if StoreUser v then v.yar.cidsel.toNat else 1, ctm := v.yar.ctm && !decide (StoreUser v) }

theorem yStore_of_misaligned (htrig : triggerHit 1 addr.toNat t = none) (hmis : addr.toNat % size ≠ 0) :
    (yStore size len d addr t).state = yTrap 6 false addr t := by
  unfold yStore
  simp only [htrig, if_pos hmis]
  rfl

theorem yStore_of_held (htrig : triggerHit 1 addr.toNat t = none) (hal : addr.toNat % size = 0)
    (hheld : StoreHeld addr.toNat size (storeBase addr.toNat size t)) :
    (yStore size len d addr t).state = storeBase addr.toNat size t := by
  have hbusy : (mustDrain addr.toNat size (storeBase addr.toNat size t) = true ∧
      (!(storeBase addr.toNat size t).yar.sb.isEmpty) = true) ∨ 4 ≤ (storeBase addr.toNat size t).yar.sb.length :=
    hheld.imp_left fun h => ⟨h.1, by simpa using h.2⟩
  unfold storeBase at hbusy ⊢
  unfold yStore
  simp only [htrig, hal, ne_eq, not_true_eq_false, if_false, if_pos hbusy]
  rfl

theorem userAccess_eq (h : v.yar.dbg.halted = false) : userAccess v.yar = decide (StoreUser v) := by
  simp [userAccess, h, StoreUser]

/-- A store that finds a place asks the fabric: a refusal at steps 1 to 6 traps, any other answer lets it join the buffer (R174). -/
theorem yStore_of_refused (htrig : triggerHit 1 addr.toNat t = none) (hal : addr.toNat % size = 0)
    (hfree : ¬ StoreHeld addr.toNat size (storeBase addr.toNat size t)) {c f : Nat} (hc : c ≤ 5 ∨ c = 9)
    (hr : yAccess .store 1 addr.toNat size (d.toNat % 256 ^ size) (storeBase addr.toNat size t) = (.fault c f, u)) :
    (yStore size len d addr t).state = yFault 7 c addr.toNat u := by
  have hbusy : ¬ ((mustDrain addr.toNat size (storeBase addr.toNat size t) = true ∧
      (!(storeBase addr.toNat size t).yar.sb.isEmpty) = true) ∨ 4 ≤ (storeBase addr.toNat size t).yar.sb.length) :=
    fun h => hfree (h.imp_left fun h => ⟨h.1, by simpa using h.2⟩)
  unfold storeBase at hbusy hr
  unfold yStore
  simp only [htrig, hal, ne_eq, not_true_eq_false, if_false, if_neg hbusy, hr, if_pos hc]
  rfl

theorem yStore_of_buffered (htrig : triggerHit 1 addr.toNat t = none) (hal : addr.toNat % size = 0)
    (hfree : ¬ StoreHeld addr.toNat size (storeBase addr.toNat size t)) {r : YReply} (hlate : ∀ c f, r = .fault c f → 6 ≤ c ∧ c ≠ 9)
    (hr : yAccess .store 1 addr.toNat size (d.toNat % 256 ^ size) (storeBase addr.toNat size t) = (r, u))
    (hhalt : (storeBase addr.toNat size t).yar.dbg.halted = false) :
    (yStore size len d addr t).state = ((storeBase addr.toNat size t).updYar fun y =>
      { y with sb := y.sb ++ [bufferedStore addr.toNat size (d.toNat % 256 ^ size) (storeBase addr.toNat size t)] }).retired len := by
  have hbusy : ¬ ((mustDrain addr.toNat size (storeBase addr.toNat size t) = true ∧
      (!(storeBase addr.toNat size t).yar.sb.isEmpty) = true) ∨ 4 ≤ (storeBase addr.toNat size t).yar.sb.length) :=
    fun h => hfree (h.imp_left fun h => ⟨h.1, by simpa using h.2⟩)
  have huser := userAccess_eq hhalt
  unfold bufferedStore
  unfold storeBase at hbusy hr huser hhalt ⊢
  unfold yStore
  cases r with
  | fault c f =>
    obtain ⟨hlo, hne⟩ := hlate c f rfl
    simp only [htrig, hal, ne_eq, not_true_eq_false, if_false, if_neg hbusy, hr, if_neg (show ¬ (c ≤ 5 ∨ c = 9) by omega), hhalt, huser,
      Bool.false_eq_true, decide_eq_true_eq]
    rfl
  | ok | wait =>
    simp only [htrig, hal, ne_eq, not_true_eq_false, if_false, if_neg hbusy, hr, hhalt, huser, Bool.false_eq_true, decide_eq_true_eq]
    rfl

/-- SW, SH, SB and FSW run `yStore`. -/
theorem Fetches.exec_store {fn a b : Nat} {isF : Bool} {off : Word} (h : Fetches w len s t)
    (hi : yDecode w len = (if isF then .fsw b a off else .store fn b a off)) (hf : isF = true → fn = 2 ∧ t.yar.fs ≠ 0#2)
    (hu : (yStore (2 ^ fn) len (if isF then fReg b t else yReg b t) (yReg a t + off) t).state = u) :
    exec .yarrowStore s = .next (settle u) := by
  cases isF with
  | true =>
    obtain ⟨rfl, hfs⟩ := hf rfl
    exact h.ends (mine := isStore) hi rfl ((congrArg YOut.state (if_neg hfs)).trans hu)
  | false => exact h.ends (mine := isStore) hi rfl hu

end

/-! The drain of the oldest buffered store (R170, R174). -/

theorem storeDrain_of_idle (h : s.yar.sb = [] ∨ s.yar.sbOut = true) : storeDrain s = s := by
  unfold storeDrain
  obtain h | h := h
  · rw [h]
  · split
    · rfl
    · rw [if_pos h]

theorem storeDrain_of_store {e : YStore} {rest : List YStore} (hsb : s.yar.sb = e :: rest) (hout : s.yar.sbOut = false) :
    storeDrain s = match fabric .store { cid := e.cid, ctm := e.ctm } true e.addr e.size e.data s with
      | (.ans (.ok _), s) => s.updYar (fun y => { y with sb := rest })
      | (.ans (.refused c), s) => lateStore e.addr c.code (s.updYar (fun y => { y with sb := rest }))
      | (.wait, s) => s.updYar (fun y => { y with sbOut := true }) := by
  unfold storeDrain
  rw [hsb]
  dsimp only
  generalize fabric .store { cid := e.cid, ctm := e.ctm } true e.addr e.size e.data s = r
  obtain ⟨(_ | _) | _, u⟩ := r <;> exact if_neg (by simp [hout])

theorem lateStore_of_store (a c : Nat) (rest : List YStore) (s : State) : lateStore a c (s.updYar fun y => { y with sb := rest }) =
    s.updYar fun y =>
      if y.serrValid then { y with sb := rest, serrMore := true }
      else { y with sb := rest, serrValid := true, serrAddr := BitVec.ofNat 32 a, serrCause := BitVec.ofNat 4 c } := by
  unfold lateStore State.updYar
  rfl

/-- Settles O18: a load runs `yLoad`, a store `yStore`, and a drain `storeDrain`, each by its cases. -/
theorem yarrowLoadsAndStores : Obligations.YarrowLoadsAndStores := by
  unfold Obligations.YarrowLoadsAndStores
  refine ⟨?_, ?_, fun s h => ?_, fun e rest s hsb hout => ⟨fun d t hrun => ?_, fun t hrun => ?_, fun c t hrun => ?_⟩⟩
  · intro w len fn rd a off isF s t h hi hf hhalt addr size v held htrig
    have hends {u : State} (hu : (yLoad rd isF fn len (yReg a t + off) t).state = u) := h.exec_load hi hf hu
    refine ⟨fun hmis => ?_, fun hal hheld => ?_, fun d u hal hfree hacc => ?_, fun c f u hal hfree hu hacc => ?_, fun u hal hfree hacc => ?_⟩
    · exact hends ((yLoad_of_misaligned htrig hmis).trans (yTrap_exception hhalt _ _))
    · exact hends (yLoad_of_held htrig hal hheld)
    · have hrun := yLoad_of_access (len := len) (rd := rd) (isF := isF) htrig hal hfree
      rw [show yAccess .yarrow 0 _ _ 0 (loadBase _ _ t) = (YReply.ok d, u) from hacc] at hrun
      exact hends hrun
    · have hrun := yLoad_of_access (len := len) (rd := rd) (isF := isF) htrig hal hfree
      rw [show yAccess .yarrow 0 _ _ 0 (loadBase _ _ t) = (YReply.fault c f, u) from hacc] at hrun
      exact hends (hrun.trans (yFault_exception hu _ _ _))
    · have hrun := yLoad_of_access (len := len) (rd := rd) (isF := isF) htrig hal hfree
      rw [show yAccess .yarrow 0 _ _ 0 (loadBase _ _ t) = (YReply.wait, u) from hacc] at hrun
      exact hends hrun
  · intro w len fn a b off isF s t h hi hf hhalt addr size data v held htrig
    have hends {u : State} (hu : (yStore (2 ^ fn) len (if isF then fReg b t else yReg b t) (yReg a t + off) t).state = u) :=
      h.exec_store hi hf hu
    refine ⟨fun hmis => ?_, fun hal hheld => ?_, fun r u hal hfree hacc hu hv => ⟨fun c f hr hc => ?_, fun hlate => ?_⟩⟩
    · exact hends ((yStore_of_misaligned htrig hmis).trans (yTrap_exception hhalt _ _))
    · exact hends (yStore_of_held htrig hal hheld)
    · subst hr
      exact hends ((yStore_of_refused htrig hal hfree hc hacc).trans (yFault_exception hu _ _ _))
    · exact hends (yStore_of_buffered htrig hal hfree hlate hacc hv)
  · exact congrArg (fun u => Host.Outcome.next (settle u)) (storeDrain_of_idle (s := s.begin) h)
  · have hdrain := storeDrain_of_store (s := s.begin) hsb hout
    rw [hrun] at hdrain
    exact congrArg (fun u => Host.Outcome.next (settle u)) hdrain
  · have hdrain := storeDrain_of_store (s := s.begin) hsb hout
    rw [hrun] at hdrain
    exact congrArg (fun u => Host.Outcome.next (settle u)) hdrain
  · have hdrain := storeDrain_of_store (s := s.begin) hsb hout
    rw [hrun] at hdrain
    exact congrArg (fun u => Host.Outcome.next (settle u)) (hdrain.trans (lateStore_of_store ..))

end Sys2Proof.Machine
end

section
/-!
PROOFS. A FENCE whose drain resets Yarrow: against the return address of R171.
-/
namespace Sys2Proof.Machine

/-- A buffered store of the key to SYS_SOFTRST (R42). -/
def resetStore : YStore := { addr := 0x50000054, size := 4, data := 0xA55A, cid := 1, ctm := false }

/-- Yarrow stands at a FENCE in region 1, with that store in its buffer. -/
def fenceThenReset : State :=
  { State.reset with
    mem := setMemWord {} 0x10000000 0x0000000F#32 0#7
    yar := { run := true, pc := 0x10000000#32, sb := [resetStore] } }

/-- `fenceThenReset` once the FENCE is fetched. -/
def fenceFetched : State := (yFetch fenceThenReset.begin).2

theorem fetches_fenceThenReset : Fetches 0x0000000F#32 4 fenceThenReset fenceFetched :=
  ⟨rfl, rfl, rfl, rfl, rfl, by decide +kernel, by decide +kernel, rfl⟩

theorem yDecode_fence : yDecode 0x0000000F#32 4 = .fence := by decide +kernel

/-- The drain performs the store, which resets Yarrow and with it the buffer. -/
theorem sb_drained_fenceThenReset : (drainAll fenceFetched).yar.sb = [] := by decide +kernel

/-- The FENCE retires to the address after its own. -/
theorem pc_fenceThenReset : (settle (yStep (fun i => i == .fence) none fenceThenReset.begin)).yar.pc = 0x10000004#32 := by decide +kernel

/-- Read off the state after the drain, the next address is the one after PC as the reset left it. -/
theorem pc_retired_fenceThenReset : (settle ((drainAll fenceFetched).retired 4)).yar.pc = 0x4#32 := by decide +kernel

/-- Refutes O19: where the store that a FENCE drains is a SOFT reset, PC is 0 after the drain, but the FENCE retires to the address after
its own; the statement takes PC from the state after the drain. -/
theorem not_yarrowFlowAndTraps : ¬ Obligations.YarrowFlowAndTraps := by
  unfold Obligations.YarrowFlowAndTraps
  intro h
  obtain ⟨⟨-, -, -, hfence, -⟩, -⟩ := h
  have hends := (hfence _ _ _ _ fetches_fenceThenReset yDecode_fence).1 sb_drained_fenceThenReset
  have hsame : settle (yStep (fun i => i == .fence) none fenceThenReset.begin) = settle ((drainAll fenceFetched).retired 4) :=
    Host.Outcome.next.inj hends
  have hpc := congrArg (fun u : State => u.yar.pc) hsame
  exact absurd ((pc_fenceThenReset.symm.trans hpc).trans pc_retired_fenceThenReset) (by decide)

end Sys2Proof.Machine
end

section
/-!
PROOFS. Register writes by their access codes (R3, R4, R510), and refused ones (R92 to R94).
-/
namespace Sys2Proof.Machine

/-- Fields of one word that fit in it and do not overlap. -/
def fieldsApart (fs : List (Nat × Nat × Acc)) : Bool :=
  fs.all (fun f => decide (f.1 + f.2.1 ≤ 32)) &&
    decide (fs.Pairwise fun f g => f.1 + f.2.1 ≤ g.1 ∨ g.1 + g.2.1 ≤ f.1)

/-- Every register's fields lie apart. -/
theorem fieldsApart_of_row {a : Nat} {row : RegRow} (h : regRow? a = some row) : fieldsApart row.fields = true := by
  have hall : regRows.all (fun r => fieldsApart r.fields) = true := by decide +kernel
  exact List.all_eq_true.mp hall row (List.mem_of_find?_eq_some h)

/-- Fields of a word replaced one by one. -/
def putFields (g : Nat × Nat × Acc → Nat) (fs : List (Nat × Nat × Acc)) (w : Word) : Word :=
  fs.foldl (fun u f => fieldPut f.1 f.2.1 (g f) u) w

/-- A field kept at its old place while others are replaced. -/
theorem fieldOf_putFields_other (g : Nat × Nat × Acc → Nat) (lo wid : Nat) :
    ∀ (fs : List (Nat × Nat × Acc)) (w : Word), (∀ f ∈ fs, f.1 + f.2.1 ≤ 32 ∧ (f.1 + f.2.1 ≤ lo ∨ lo + wid ≤ f.1)) →
      fieldOf lo wid (putFields g fs w) = fieldOf lo wid w
  | [], _, _ => rfl
  | f :: fs, w, h => by
    obtain ⟨hfit, hd⟩ := h f List.mem_cons_self
    calc fieldOf lo wid (putFields g fs (fieldPut f.1 f.2.1 (g f) w))
        = fieldOf lo wid (fieldPut f.1 f.2.1 (g f) w) :=
          fieldOf_putFields_other g lo wid fs _ (fun x hx => h x (List.mem_cons_of_mem _ hx))
      _ = fieldOf lo wid w := fieldOf_put_other hfit hd.symm _ w

/-- Each of the fields replaced reads as what it took. -/
theorem fieldOf_putFields (g : Nat × Nat × Acc → Nat) :
    ∀ (fs : List (Nat × Nat × Acc)) (w : Word), fieldsApart fs = true → ∀ f ∈ fs,
      fieldOf f.1 f.2.1 (putFields g fs w) = g f % 2 ^ f.2.1
  | [], _, _, _, hf => by simp at hf
  | e :: fs, w, h, f, hf => by
    simp only [fieldsApart, List.all_cons, List.pairwise_cons, Bool.and_eq_true, decide_eq_true_eq] at h
    obtain ⟨⟨hfit, hall⟩, hd, hp⟩ := h
    rcases List.mem_cons.mp hf with rfl | hmem
    · rw [putFields, List.foldl_cons]
      refine (fieldOf_putFields_other g _ _ fs _ fun x hx => ⟨by simpa using List.all_eq_true.mp hall x hx, (hd x hx).symm⟩).trans ?_
      exact fieldOf_put_same hfit _ w
    · exact fieldOf_putFields g fs _ (by simp [fieldsApart, hall, hp]) f hmem

/-- The model's field-by-field write of a register is the replacement of its fields. -/
theorem writeFold_eq (g : Nat × Nat × Acc → Nat) (old : Word) :
    ∀ (fs : List (Nat × Nat × Acc)) (w : Word), fieldsApart fs = true → (∀ f ∈ fs, g f < 2 ^ f.2.1) →
      (∀ f ∈ fs, fieldOf f.1 f.2.1 w = fieldOf f.1 f.2.1 old) →
      fs.foldl (fun x f => x - old.toNat / 2 ^ f.1 % 2 ^ f.2.1 * 2 ^ f.1 + g f * 2 ^ f.1) w.toNat = (putFields g fs w).toNat
  | [], _, _, _, _ => rfl
  | f :: fs, w, h, hg, hk => by
    simp only [fieldsApart, List.all_cons, List.pairwise_cons, Bool.and_eq_true, decide_eq_true_eq] at h
    obtain ⟨⟨hfit, hall⟩, hd, hp⟩ := h
    have hstep : w.toNat - old.toNat / 2 ^ f.1 % 2 ^ f.2.1 * 2 ^ f.1 + g f * 2 ^ f.1 = (fieldPut f.1 f.2.1 (g f) w).toNat := by
      have hs := field_split f.1 f.2.1 w.toNat
      have hf := hk f List.mem_cons_self
      unfold fieldOf at hf
      rw [fieldPut_toNat hfit, Nat.mod_eq_of_lt (hg f List.mem_cons_self), ← hf]
      omega
    rw [List.foldl_cons, hstep]
    refine writeFold_eq g old fs _ (by simp [fieldsApart, hall, hp]) (fun x hx => hg x (List.mem_cons_of_mem _ hx)) fun x hx => ?_
    rw [fieldOf_put_other hfit (hd x hx).symm]
    exact hk x (List.mem_cons_of_mem _ hx)

/-- The bits of a field of a mask of all ones. -/
theorem fullMask_field {lo wid : Nat} (h : lo + wid ≤ 32) : bitMask 15 / 2 ^ lo % 2 ^ wid = 2 ^ wid - 1 := by
  have hm : bitMask 15 = 2 ^ 32 - 1 := by decide
  have hlt := Nat.two_pow_pos wid
  rw [hm]
  apply Nat.eq_of_testBit_eq
  intro i
  have h32 := Nat.testBit_two_pow_sub_one 32 (lo + i)
  rw [Nat.testBit_mod_two_pow, Nat.testBit_div_two_pow, Nat.add_comm i, h32, Nat.testBit_two_pow_sub_one]
  by_cases hi : i < wid
  · simp [hi, show lo + i < 32 by omega]
  · simp [hi]

/-- What a write of all four bytes makes of a field, by its access code. -/
theorem fieldWrite_full (locked : Bool) {lo wid : Nat} (h : lo + wid ≤ 32) (old w : Nat) :
    let o := old / 2 ^ lo % 2 ^ wid
    let v := w / 2 ^ lo % 2 ^ wid
    ∀ acc : Acc, fieldWrite locked acc lo wid old w (bitMask 15) = match acc with
      | .rw | .rws => v
      | .rwl => if locked then o else v
      | .ro | .wo => o
      | .w1c => o &&& (2 ^ wid - (v + 1))
      | .cnt => if v = 2 ^ wid - 1 then 0 else o
      | .rw1 => o ||| v := by
  intro o v acc
  have hv : v &&& (2 ^ wid - 1) = v := by
    rw [Nat.and_two_pow_sub_one_eq_mod]
    exact Nat.mod_mod _ _
  have hk := fullMask_field h
  cases acc <;> simp only [fieldWrite, hk, Nat.sub_self, Nat.and_zero, Nat.zero_add, and_true] <;>
    simp only [show w / 2 ^ lo % 2 ^ wid = v from rfl, show old / 2 ^ lo % 2 ^ wid = o from rfl, hv]
  rw [Nat.sub_sub, Nat.add_comm 1]

theorem natBit_eq_testBit (n i : Nat) : natBit n i = n.testBit i := by
  rw [Nat.testBit_eq_decide_div_mod_eq, natBit]
  have := Nat.mod_two_eq_zero_or_one (n / 2 ^ i)
  rcases this with h | h <;> simp [h]

/-- A bit of a field that clears where 1 is written. -/
theorem natBit_clear {wid v i : Nat} (o : Nat) (hv : v < 2 ^ wid) (hi : i < wid) :
    natBit (o &&& (2 ^ wid - (v + 1))) i = (natBit o i && !natBit v i) := by
  simp only [natBit_eq_testBit]
  rw [Nat.testBit_and, Nat.testBit_two_pow_sub_succ hv, decide_eq_true hi, Bool.true_and]

/-- No access code makes a field outgrow its width. -/
theorem fieldWrite_full_lt (locked : Bool) {lo wid : Nat} (h : lo + wid ≤ 32) (old w : Nat) (acc : Acc) :
    fieldWrite locked acc lo wid old w (bitMask 15) < 2 ^ wid := by
  have hp := Nat.two_pow_pos wid
  have ho : old / 2 ^ lo % 2 ^ wid < 2 ^ wid := Nat.mod_lt _ hp
  have hv : w / 2 ^ lo % 2 ^ wid < 2 ^ wid := Nat.mod_lt _ hp
  rw [fieldWrite_full locked h old w acc]
  cases acc with
  | rw => exact hv
  | rws => exact hv
  | ro => exact ho
  | wo => exact ho
  | rwl => dsimp only; split <;> assumption
  | w1c => exact lt_of_le_of_lt Nat.and_le_left ho
  | cnt => dsimp only; split <;> assumption
  | rw1 => exact Nat.or_lt_two_pow ho hv

/-- What a register holds in each field once a write has gone by its access codes. -/
theorem fieldOf_codeWrite {a : Nat} {row : RegRow} (hr : regRow? a = some row) (w : Word) (s : State) {f : Nat × Nat × Acc}
    (hf : f ∈ row.fields) :
    fieldOf f.1 f.2.1 ((codeWrite row a w 15 s).word (regAt a)) =
      fieldWrite s.bootLock f.2.2 f.1 f.2.1 (s.word (regAt a)).toNat w.toNat (bitMask 15) := by
  have hrow := fieldsApart_of_row hr
  have hfit : ∀ x ∈ row.fields, x.1 + x.2.1 ≤ 32 := fun x hx => by
    simp only [fieldsApart, Bool.and_eq_true] at hrow
    simpa using List.all_eq_true.mp hrow.1 x hx
  let g := fun x : Nat × Nat × Acc =>
    fieldWrite s.bootLock x.2.2 x.1 x.2.1 (s.word (regAt a)).toNat w.toNat (bitMask 15)
  have hg : ∀ x ∈ row.fields, g x < 2 ^ x.2.1 := fun x hx => fieldWrite_full_lt _ (hfit x hx) _ _ _
  have hword : (codeWrite row a w 15 s).word (regAt a) = putFields g row.fields (s.word (regAt a)) := by
    unfold codeWrite
    rw [State.word_setWord_same, writeFold_eq g _ row.fields _ hrow hg fun _ _ => rfl, BitVec.ofNat_toNat, BitVec.setWidth_eq]
  rw [hword, fieldOf_putFields g row.fields _ hrow f hf]
  exact Nat.mod_eq_of_lt (hg f hf)

/-- A write that the access checks refuse is logged, and answers its cause. -/
theorem registerWrite_of_refused {cid : Cid} {addr w : Word} {s : State} {c : Cause} (hcid : cid ≠ 62)
    (h : accessCheck { cid := cid.toNat } true addr.toNat 4 s = .error c) (hd : s.chn.done = []) :
    exec (.registerWrite cid addr w) s =
      .next ((busErr { cid := cid.toNat } true addr.toNat c s.begin).answerRefused c.code) := by
  have hw : writeAny cid addr.toNat w s.begin =
      (busErr { cid := cid.toNat } true addr.toNat c s.begin).answerRefused c.code := by
    unfold writeAny
    rw [if_neg (fun hx => hcid hx.1)]
    unfold fabricWrite fabric
    rw [show accessCheck { cid := cid.toNat } true addr.toNat 4 s.begin = .error c from h]
  have hset : settle (writeAny cid addr.toNat w s.begin) = writeAny cid addr.toNat w s.begin := by
    apply settle_of_nil
    rw [hw]
    simp only [busErr, State.answerRefused, State.raise_chn]
    exact hd
  exact congrArg Host.Outcome.next (hset.trans hw)

/-- The log of a refused write, entry by entry. -/
theorem busErr_write (cid : Cid) (addr : Word) (c : Cause) (s : State) :
    busErr { cid := cid.toNat } true addr.toNat c s =
      ((((s.count F.SYS_BERRCNT_COUNT).setWord (R.SYS_BERRADDR (s.get F.SYS_BERRHEAD_NEXT)) addr).setWord
        (R.SYS_BERRINFO (s.get F.SYS_BERRHEAD_NEXT)) (BitVec.ofNat 32 (cid.toNat + 0x2000 + 0x10000 * c.code + 0x80000000))).set
        F.SYS_BERRHEAD_NEXT (s.get F.SYS_BERRHEAD_NEXT + 1)).raise 0 := by
  simp [busErr]

/-- Settles O10: each field by its access code, and the log of a refused write. -/
theorem registerWrites : Obligations.RegisterWrites := by
  unfold Obligations.RegisterWrites
  refine ⟨fun cid addr w s row ha hcid hlo hhi hr hs => ?_, fun cid addr w s c hcid hc hd => ?_⟩
  · have ht : s.begin.codeWritten addr.toNat w = codeWrite row addr.toNat w 15 s.begin := by
      unfold State.codeWritten
      rw [hr]
    intro t
    refine ⟨?_, fun lo wid acc hf => ?_⟩
    · have hw := write_code ha hr hs ⟨hlo, hhi⟩
      have hset : settle (codeWrite row addr.toNat w 15 s.begin) = codeWrite row addr.toNat w 15 s.begin :=
        settle_of_nil ha.2
      have hany : writeAny cid addr.toNat w s.begin = fabricWrite cid.toNat addr.toNat w s.begin :=
        if_neg fun hx => hcid hx.1
      calc exec (.registerWrite cid addr w) s = rowS (writeAny cid addr.toNat w) s := rfl
        _ = rowS (fabricWrite cid.toNat addr.toNat w) s := by unfold rowS; rw [hany]
        _ = .next t := by rw [hw, hset, ← ht]
    · have hfit : lo + wid ≤ 32 := by
        have hrow := fieldsApart_of_row hr
        simp only [fieldsApart, Bool.and_eq_true] at hrow
        simpa using List.all_eq_true.mp hrow.1 _ hf
      intro o v n
      have hn : n = fieldWrite s.bootLock acc lo wid (s.word (regAt addr.toNat)).toNat w.toNat (bitMask 15) := by
        show fieldOf lo wid (t.word (regAt addr.toNat)) = _
        rw [show t = _ from ht]
        exact fieldOf_codeWrite hr w s.begin hf
      rw [fieldWrite_full _ hfit] at hn
      refine ⟨?_, ?_, ?_, ?_, ?_, ?_⟩
      · rintro (rfl | rfl) <;> exact hn
      · rintro rfl; exact hn
      · rintro (rfl | rfl) <;> exact hn
      · rintro rfl i hi
        rw [hn]
        exact natBit_clear o (Nat.mod_lt _ (Nat.two_pow_pos _)) hi
      · rintro rfl; exact hn
      · rintro rfl; exact hn
  · intro e
    rw [registerWrite_of_refused hcid hc hd, busErr_write]
    rfl

end Sys2Proof.Machine
end

section
/-!
PROOFS. What one command of a Vetch instruction comes to: it enters the window, stalls, or is illegal (R200 to R205).
-/
namespace Sys2Proof.Machine

variable {w : Word} {s t : State}

/-- Landing registers leaves what Vetch holds beside them, and does not look at it. -/
theorem Vet.done_eq (x : Vet) : ∃ v k, x.done = { x with v := v, k := k } ∧
    ∀ pend path, ({ x with pend := pend, path := path } : Vet).done = { x with v := v, k := k, pend := pend, path := path } := by
  have key : ∀ (win : List VWin) (x : Vet), ∃ v k, win.foldl (fun x p => x.land p.vw p.kw) x = { x with v := v, k := k } ∧
      ∀ pend path, win.foldl (fun x p => x.land p.vw p.kw) { x with pend := pend, path := path }
        = { x with v := v, k := k, pend := pend, path := path } := by
    intro win
    induction win with
    | nil => exact fun x => ⟨x.v, x.k, rfl, fun _ _ => rfl⟩
    | cons p win ih =>
      intro x
      obtain ⟨v, k, h1, h2⟩ := ih (x.land p.vw p.kw)
      exact ⟨v, k, h1, h2⟩
  obtain ⟨v, k, h1, h2⟩ := key x.win x
  exact ⟨v, k, h1, fun pend path => h2 pend path⟩

@[simp] theorem Vet.done_vl (x : Vet) : x.done.vl = x.vl := by
  obtain ⟨v, k, h, -⟩ := x.done_eq
  rw [h]

/-- A result does not depend on what ran ahead. -/
theorem vRegResult_squash (w : Word) (t : State) :
    vRegResult w (vetSquash t).yar.vet.done (vetSquash t) = vRegResult w t.yar.vet.done t := by
  obtain ⟨v, k, h1, h2⟩ := t.yar.vet.done_eq
  have h3 : (vetSquash t).yar.vet.done = { t.yar.vet with v := v, k := k, pend := [], path := [] } := h2 [] []
  rw [h1, h3]
  rfl

/-- With none run ahead, legality is that of the registers alone. -/
theorem vLegal_squash (hp : t.yar.vet.pend = []) :
    vLegal w (vetSquash t).yar.vet (vetSquash t).yar = vLegal w { t.yar.vet with path := [] } t.yar := by
  have h : (vetSquash t).yar.vet = { t.yar.vet with path := [] } := by
    show ({ t.yar.vet with pend := [], path := [] } : Vet) = { t.yar.vet with path := [] }
    rw [← hp]
  rw [h]
  rfl

/-- An illegal Vetch word traps (R203). -/
theorem vExec_of_illegal (limit : Option Nat) (hp : t.yar.vet.pend = []) (hh : t.yar.dbg.halted = false)
    (h : vLegal w { t.yar.vet with path := [] } t.yar = false) :
    (vExec w limit t).state = t.trapped 2#32 w t.trapBase := by
  unfold vExec
  rw [hp]
  dsimp only [List.find?_nil]
  rw [vLegal_squash hp, h]
  simp only [Bool.not_false, if_true, YOut.state]
  exact yTrap_exception (t := vetSquash t) hh 2 w

/-- A register-to-register instruction waits while the window is full (R201). -/
theorem vExec_of_full (limit : Option Nat) (hp : t.yar.vet.pend = []) (h : vLegal w { t.yar.vet with path := [] } t.yar = true)
    (hr : vRegOnly w = true) (hw : 8 ≤ t.yar.vet.win.length) : (vExec w limit t).state = vetSquash t := by
  unfold vExec
  rw [hp]
  dsimp only [List.find?_nil]
  rw [vLegal_squash hp, h, hr]
  simp only [Bool.not_true, if_true]
  rw [if_neg (by decide), if_pos (show 8 ≤ (vetSquash t).yar.vet.win.length from hw)]
  rfl

/-- A register-to-register instruction enters the window (R200). -/
theorem vExec_of_room (limit : Option Nat) (hp : t.yar.vet.pend = []) (h : vLegal w { t.yar.vet with path := [] } t.yar = true)
    (hr : vRegOnly w = true) (hw : t.yar.vet.win.length < 8) :
    (vExec w limit t).state = t.vecDone (vRegResult w t.yar.vet.done t) := by
  unfold vExec
  rw [hp]
  dsimp only [List.find?_nil]
  rw [vLegal_squash hp, h, hr]
  simp only [Bool.not_true, if_true]
  rw [if_neg (by decide), if_neg (show ¬ 8 ≤ (vetSquash t).yar.vet.win.length from Nat.not_le.mpr hw), vRegResult_squash]
  rfl

/-- The command of a register-to-register instruction, once it may enter the window. -/
theorem VecEnters.exec (h : VecEnters w s t) (hr : vRegOnly w = true) {mine : YInstr → Bool} (hm : mine (.vec w) = true) :
    rowS (vetRow mine false) s = .next (settle (t.vecDone (vRegResult w t.yar.vet.done t))) := by
  obtain ⟨⟨hf, hdec, hp, hl⟩, hwin⟩ := h
  exact (hf.exec_mine none hdec hm).trans
    (congrArg (fun u => Host.Outcome.next (settle u)) (vExec_of_room none hp hl hr hwin))

/-- The result of a custom-1 instruction is that of its operation over the registers with the window completed. -/
theorem VecEnters.exec_arith (h : VecEnters w s t) (hc : wf w 0 7 = 0x2B) {op : Nat} (ho : vOp w = op) {o : VOut}
    (hres : vArith w t.yar.vet.done t.yar.frm.toNat (yReg (vVs2 w) t) = o) :
    rowS (vetRow (isVec1 op) false) s = .next (settle (t.vecDone o)) := by
  have hm : isVec1 op (.vec w) = true := by simp [isVec1, hc, ho]
  have hr : vRegResult w t.yar.vet.done t = o := by rw [vRegResult, if_pos hc, hres]
  rw [VecEnters.exec h (by simp [vRegOnly, hc]) hm, hr]

/-- A Vetch command finds Yarrow not running, halted or waiting. -/
theorem vetRow_of_idle (h : s.yar.run = false ∨ s.yar.dbg.halted = true ∨ s.yar.wait.isSome = true) (mine : YInstr → Bool) (ahead : Bool) :
    vetRow mine ahead s = s := by
  cases ahead with
  | true =>
    unfold vetRow vAhead
    rw [if_pos rfl]
    dsimp only
    rw [if_pos (by rcases h with h | h | h <;> simp [h])]
  | false =>
    unfold vetRow Machine.yStep
    rw [if_neg (by decide)]
    dsimp only
    rw [if_pos (by rcases h with h | h | h <;> simp [h])]

end Sys2Proof.Machine
end

section
/-!
PROOFS. Register groups, element maps, and the window (R196 to R202).
-/
namespace Sys2Proof.Machine

/-- An element put among the others, as the part below it, the element, and the part above. -/
theorem putElt_eq (v w i e : Nat) :
    putElt v w i e = v % 2 ^ (i * w) + 2 ^ (i * w) * (e % 2 ^ w + 2 ^ w * (v / 2 ^ (i * w) / 2 ^ w)) := by
  have h := field_split (i * w) w v
  rw [Nat.pow_add, ← Nat.div_div_eq_div_mul] at h
  unfold putElt elt
  generalize v / 2 ^ (i * w) % 2 ^ w = a at h ⊢
  generalize v / 2 ^ (i * w) / 2 ^ w = c at h ⊢
  have h2 : c * (2 ^ (i * w) * 2 ^ w) = 2 ^ (i * w) * (2 ^ w * c) := by ring
  have h3 : 2 ^ (i * w) * (e % 2 ^ w + 2 ^ w * c) = e % 2 ^ w * 2 ^ (i * w) + 2 ^ (i * w) * (2 ^ w * c) := by ring
  rw [h3]
  omega

theorem elt_putElt_same (v w i e : Nat) : elt (putElt v w i e) w i = e % 2 ^ w := by
  have hp := Nat.two_pow_pos (i * w)
  rw [elt, putElt_eq, Nat.add_mul_div_left _ _ hp, Nat.div_eq_of_lt (Nat.mod_lt _ hp), Nat.zero_add,
    Nat.add_mul_mod_self_left, Nat.mod_mod]

theorem elt_putElt_other {i j : Nat} (h : j ≠ i) (v w e : Nat) : elt (putElt v w i e) w j = elt v w j := by
  have hp := Nat.two_pow_pos (i * w)
  rcases Nat.lt_or_gt_of_ne h with hlt | hgt
  · have hdvd : 2 ^ (j * w) * 2 ^ w ∣ 2 ^ (i * w) := by
      rw [← Nat.pow_add, ← Nat.succ_mul]
      exact Nat.pow_dvd_pow 2 (Nat.mul_le_mul_right w hlt)
    have hlow : ∀ n, elt n w j = n % 2 ^ (i * w) % (2 ^ (j * w) * 2 ^ w) / 2 ^ (j * w) := fun n => by
      rw [elt, ← Nat.mod_mul_right_div_self, Nat.mod_mod_of_dvd _ hdvd]
    rw [hlow, hlow v, putElt_eq, Nat.add_mul_mod_self_left, Nat.mod_mod]
  · obtain ⟨k, rfl⟩ : ∃ k, j = i + 1 + k := ⟨j - (i + 1), by omega⟩
    have hpow : 2 ^ ((i + 1 + k) * w) = 2 ^ (i * w) * 2 ^ w * 2 ^ (k * w) := by rw [← Nat.pow_add, ← Nat.pow_add]; ring_nf
    have hhigh : ∀ n, elt n w (i + 1 + k) = n / 2 ^ (i * w) / 2 ^ w / 2 ^ (k * w) % 2 ^ w := fun n => by
      rw [elt, hpow, ← Nat.div_div_eq_div_mul, ← Nat.div_div_eq_div_mul]
    have hw := Nat.two_pow_pos w
    rw [hhigh, hhigh v, putElt_eq, Nat.add_mul_div_left _ _ hp, Nat.div_eq_of_lt (Nat.mod_lt _ hp), Nat.zero_add,
      Nat.add_mul_div_left _ _ hw, Nat.div_eq_of_lt (Nat.mod_lt _ hw), Nat.zero_add]

/-- One more element of a map. -/
theorem vMap_succ (n w : Nat) (act : Nat → Bool) (f : Nat → Nat × FlagSet) (old : Nat) :
    (vMap (n + 1) w act f old).1 = if act n = true then putElt (vMap n w act f old).1 w n (f n).1 else (vMap n w act f old).1 := by
  unfold vMap
  rw [List.range_succ, List.foldl_append, List.foldl_cons, List.foldl_nil]
  split <;> rfl

/-- An element map changes exactly the active elements below its count (R202). -/
theorem elt_vMap (w old i : Nat) (act : Nat → Bool) (f : Nat → Nat × FlagSet) (n : Nat) :
    elt (vMap n w act f old).1 w i = if i < n ∧ act i = true then (f i).1 % 2 ^ w else elt old w i := by
  induction n with
  | zero => rw [if_neg (by omega)]; rfl
  | succ n ih =>
    rw [vMap_succ]
    by_cases hn : act n = true
    · rw [if_pos hn]
      by_cases hi : i = n
      · subst hi
        rw [elt_putElt_same, if_pos ⟨Nat.lt_succ_self _, hn⟩]
      · rw [elt_putElt_other hi, ih]
        have : i < n + 1 ↔ i < n := by omega
        simp only [this]
    · rw [if_neg hn, ih]
      by_cases hi : i = n
      · subst hi
        rw [if_neg (fun h => hn h.2), if_neg (fun h => hn h.2)]
      · have : i < n + 1 ↔ i < n := by omega
        simp only [this]

/-- One more register of a group written. -/
theorem land_groupOut_succ (x : Vet) (n c v : Nat) :
    x.land (groupOut n (c + 1) v) [] =
      { x.land (groupOut n c v) [] with v := (x.land (groupOut n c v) []).v.set! (n + c) (BitVec.ofNat 2048 (v / 2 ^ (2048 * c))) } := by
  simp only [groupOut, Vet.land, List.range_succ, List.map_append, List.foldl_append, List.map_cons, List.map_nil, List.foldl_cons,
    List.foldl_nil]

theorem reg_set (x : Vet) {m : Nat} (hm : m < 32) (b : BitVec 2048) {i : Nat} (hi : i < 32) :
    ({ x with v := x.v.set! m b } : Vet).reg i = if i = m then b.toNat else x.reg i := by
  have hm' : i % 32 = i := Nat.mod_eq_of_lt hi
  unfold Vet.reg
  rw [hm']
  by_cases h : i = m
  · subst h
    simp [Vector.set!_eq_setIfInBounds, hi, List.getD, Vector.toList_setIfInBounds]
  · simp [h, Vector.set!_eq_setIfInBounds, List.getD, Vector.toList_setIfInBounds, Ne.symm h]

/-- Each register once a group has been written: its part of the group, or what it held. -/
theorem reg_land_groupOut (x : Vet) (n v : Nat) {i : Nat} (hi : i < 32) :
    ∀ c, n + c ≤ 32 → (x.land (groupOut n c v) []).reg i =
      if n ≤ i ∧ i < n + c then v / 2 ^ (2048 * (i - n)) % 2 ^ 2048 else x.reg i := by
  intro c
  induction c with
  | zero => intro _; rw [if_neg (by omega)]; rfl
  | succ c ih =>
    intro hc
    rw [land_groupOut_succ, reg_set _ (by omega) _ hi, ih (by omega)]
    by_cases h : i = n + c
    · subst h
      rw [if_pos rfl, if_pos (by omega), BitVec.toNat_ofNat, Nat.add_sub_cancel_left]
    · have : i < n + (c + 1) ↔ i < n + c := by omega
      rw [if_neg h]
      simp only [this]

/-- The parts of a number, put together again. -/
theorem group_eq_mod (x : Vet) (n v : Nat) :
    ∀ c, (∀ j < c, x.reg (n + j) = v / 2 ^ (2048 * j) % 2 ^ 2048) → x.group n c = v % 2 ^ (2048 * c) := by
  intro c
  induction c with
  | zero => intro _; rw [Nat.mul_zero, Nat.pow_zero, Nat.mod_one]; rfl
  | succ c ih =>
    intro h
    have hg : x.group n (c + 1) = x.group n c + x.reg (n + c) * 2 ^ (2048 * c) := by
      unfold Vet.group
      rw [List.range_succ, List.foldl_append, List.foldl_cons, List.foldl_nil]
    have hmod := Nat.mod_pow_succ (x := v) (b := 2 ^ 2048) (k := c)
    rw [← Nat.pow_mul, ← Nat.pow_mul] at hmod
    rw [hg, ih fun j hj => h j (by omega), h c (by omega), hmod]
    ring

/-- The operations of custom-1 that have a command. -/
def vec1Ops : List Nat := List.range 0x15 ++ List.range' 0x18 14 ++ List.range' 0x28 13 ++ List.range' 0x38 6

/-- The command of each register-to-register instruction is one step on its own words. -/
theorem exec_vecForm : ∀ e ∈ vecForms, ∀ a s, exec (e.2 a) s = rowS (vetRow e.1 a) s := by
  have h : vecForms.map (fun e a s => exec (e.2 a) s) = vecForms.map (fun e a s => rowS (vetRow e.1 a) s) := rfl
  intro e he a s
  exact congrFun (congrFun (List.map_inj_left.mp h e he) a) s

/-- The words that a register-to-register command names are register-to-register instructions. -/
theorem vRegOnly_of_vecForm {w : Word} : ∀ e ∈ vecForms, e.1 (.vec w) = true → vRegOnly w = true := by
  have h1 : vecForms.map Prod.fst = vec1Ops.map isVec1 ++ (List.range 5).map (isVec2 2) := rfl
  intro e he hw
  have hmem : e.1 ∈ vec1Ops.map isVec1 ++ (List.range 5).map (isVec2 2) := h1 ▸ List.mem_map_of_mem he
  rcases List.mem_append.mp hmem with hm | hm
  · obtain ⟨op, -, hop⟩ := List.mem_map.mp hm
    rw [← hop] at hw
    simp only [isVec1, Bool.and_eq_true] at hw
    simp [vRegOnly, hw.1]
  · obtain ⟨op, -, hop⟩ := List.mem_map.mp hm
    rw [← hop] at hw
    simp only [isVec2, Bool.and_eq_true] at hw
    simp [vRegOnly, hw.1.2]

/-- With no element in VL, an instruction of custom-1 writes nothing (R202). -/
theorem vArith_of_empty {x : Vet} (h : x.vl = 0) (w : Word) (rm : Nat) (xb : Word) : vArith w x rm xb = {} := if_pos h

/-- Settles O28: groups read back as written, maps keep inactive elements, and the window takes, stalls or traps. -/
theorem vetchGroups : Obligations.VetchGroups := by
  unfold Obligations.VetchGroups
  refine ⟨⟨fun x n c v hc => ?_, fun n ew old i act f _ => elt_vMap ew old i act f n⟩, ?_, ?_, ?_⟩
  · intro y
    have hreg : ∀ i < 32, y.reg i = if n ≤ i ∧ i < n + c then v / 2 ^ (2048 * (i - n)) % 2 ^ 2048 else x.reg i :=
      fun i hi => reg_land_groupOut x n v hi c hc
    refine ⟨group_eq_mod y n v c fun j hj => ?_, fun m hm hout => ?_, rfl, rfl⟩
    · rw [hreg _ (by omega), if_pos (by omega), Nat.add_sub_cancel_left]
    · rw [hreg m hm, if_neg (by omega)]
  · intro e he w s t hw hf hdec hp
    have hx := exec_vecForm e he false s
    have hreg := vRegOnly_of_vecForm e he hw
    refine ⟨fun hl hwin hc hvl => ?_, fun hl hwin => ?_, fun hl hh => ?_⟩
    · have hempty : vRegResult w t.yar.vet.done t = {} := by
        rw [vRegResult, if_pos hc, vArith_of_empty (by rw [Vet.done_vl, hvl])]
      rw [hx, VecEnters.exec ⟨⟨hf, hdec, hp, hl⟩, hwin⟩ hreg hw, hempty]
    · exact hx.trans ((hf.exec_mine none hdec hw).trans
        (congrArg (fun u => Host.Outcome.next (settle u)) (vExec_of_full none hp hl hreg hwin)))
    · exact hx.trans ((hf.exec_mine none hdec hw).trans
        (congrArg (fun u => Host.Outcome.next (settle u)) (vExec_of_illegal none hp hh hl)))
  · intro e he w len s t hf hill hother
    exact (exec_vecForm e he false s).trans (hf.exec_other none hill hother)
  · intro e he s hidle
    have hrow : ∀ a, rowS (vetRow e.1 a) s = .next (settle s.begin) := fun a =>
      congrArg (fun u => Host.Outcome.next (settle u)) (vetRow_of_idle (s := s.begin) hidle e.1 a)
    exact ⟨(exec_vecForm e he false s).trans (hrow false), (exec_vecForm e he true s).trans (hrow true)⟩

end Sys2Proof.Machine
end

section
/-!
PROOFS. The element-wise integer operations of Vetch, merge, move and slides (R207).
-/
namespace Sys2Proof.Machine

variable {w : Word} {x : Vet} {rm : Nat} {xb : Word}

/-- The lanes of the integer operations, over the active elements below VL. -/
theorem vArith_of_int (hn : x.vl ≠ 0) (ho : vOp w ≤ 0x10) : vArith w x rm xb =
    vecOut w x x.vl x.width x.lmul (vecAct w x)
      (fun i => (vInt (vOp w) x.width (vecA w x i) (vecB w x xb i) (elt (x.group (vVd w) x.lmul) x.width i), 0)) false := by
  unfold vArith
  rw [if_neg hn]
  generalize vOp w = op at ho
  interval_cases op <;> rfl

theorem vArith_of_merge (hn : x.vl ≠ 0) (ho : vOp w = 0x11) : vArith w x rm xb =
    vecOut w x x.vl x.width x.lmul (fun _ => true) (fun i => (if vecAct w x i then vecB w x xb i else vecA w x i, 0)) false := by
  unfold vArith
  rw [if_neg hn, ho]
  rfl

theorem vArith_of_move (hn : x.vl ≠ 0) (ho : vOp w = 0x12) : vArith w x rm xb =
    vecOut w x x.vl x.width x.lmul (vecAct w x) (fun i => (vecB w x xb i, 0)) false := by
  unfold vArith
  rw [if_neg hn, ho]
  rfl

theorem vArith_of_slidedown (hn : x.vl ≠ 0) (ho : vOp w = 0x13) : vArith w x rm xb =
    vecOut w x x.vl x.width x.lmul (vecAct w x)
      (fun i => (if i + xb.toNat < x.vlmax then vecA w x (i + xb.toNat) else 0, 0)) false := by
  unfold vArith
  rw [if_neg hn, ho]
  rfl

theorem vArith_of_slideup (hn : x.vl ≠ 0) (ho : vOp w = 0x14) : vArith w x rm xb =
    vecOut w x x.vl x.width x.lmul (vecAct w x)
      (fun i => (if xb.toNat ≤ i then vecA w x (i - xb.toNat) else elt (x.group (vVd w) x.lmul) x.width i, 0)) false := by
  unfold vArith
  rw [if_neg hn, ho]
  rfl

/-- Settles O22: each lane by `vInt`, and the operations that move elements. -/
theorem vetchIntegers : Obligations.VetchIntegers := by
  unfold Obligations.VetchIntegers
  refine ⟨?_, ?_⟩
  · intro rows e he w s t h hc ho
    have hrow : e.1 ≤ 0x10 ∧ (∀ s, exec (e.2.1 false) s = rowS (vetRow (isVec1 e.1) false) s) ∧ e.2.2 = vInt e.1 := by
      simp only [rows] at he
      fin_cases he <;> exact ⟨by decide, fun _ => rfl, rfl⟩
    obtain ⟨hop, hcmd, hlane⟩ := hrow
    intro x xb
    refine ⟨fun hn => ?_, fun hn => ?_⟩
    · rw [hcmd, hlane]
      refine h.exec_arith hc ho ?_
      rw [vArith_of_int hn (ho ▸ hop), ho]
    · rw [hcmd]
      exact h.exec_arith hc ho (vArith_of_empty hn ..)
  · intro w s t h hc x xb hn
    exact ⟨fun ho => h.exec_arith hc ho (vArith_of_merge hn ho), fun ho => h.exec_arith hc ho (vArith_of_move hn ho),
      fun ho => h.exec_arith hc ho (vArith_of_slidedown hn ho), fun ho => h.exec_arith hc ho (vArith_of_slideup hn ho)⟩

end Sys2Proof.Machine
end

section
/-!
PROOFS. Comparisons and mask operations, widening and dot products, floating-point lanes and reductions of Vetch (R207 to R213).
-/
namespace Sys2Proof.Machine

variable {w : Word} {x : Vet} {rm : Nat} {xb : Word}

/-- A comparison writes one bit for each active element below VL (R207). -/
theorem vArith_of_compare (hn : x.vl ≠ 0) (ho : 0x20 ≤ vOp w ∧ vOp w ≤ 0x25) : vArith w x rm xb =
    let r := vMap x.vl 1 (vecAct w x) (fun i => (if vIntCmp (vOp w) x.width (vecA w x i) (vecB w x xb i) then 1 else 0, 0)) (x.mask (vVd w))
    { kw := [(vVd w, BitVec.ofNat 2048 r.1)], fl := r.2, fp := false } := by
  unfold vArith
  rw [if_neg hn]
  generalize vOp w = op at ho
  obtain ⟨hlo, hhi⟩ := ho
  interval_cases op <;> rfl

theorem vArith_of_fcompare (hn : x.vl ≠ 0) (ho : 0x2E ≤ vOp w ∧ vOp w ≤ 0x30) : vArith w x rm xb =
    let r := vMap x.vl 1 (vecAct w x)
      (fun i => let c := vFpCmp (vOp w) x.width (vecA w x i) (vecB w x xb i); (if c.1 then 1 else 0, c.2)) (x.mask (vVd w))
    { kw := [(vVd w, BitVec.ofNat 2048 r.1)], fl := r.2, fp := true } := by
  unfold vArith
  rw [if_neg hn]
  generalize vOp w = op at ho
  obtain ⟨hlo, hhi⟩ := ho
  interval_cases op <;> rfl

/-- The widening products (R208). -/
theorem vArith_of_widen (hn : x.vl ≠ 0) (ho : 0x18 ≤ vOp w ∧ vOp w ≤ 0x1C) : vArith w x rm xb =
    vecOut w x x.vl (2 * x.width) (2 * x.lmul) (vecAct w x) (fun i =>
      (vWiden (vOp w) x.width (vecA w x i) (vecB w x xb i) (elt (x.group (vVd w) (2 * x.lmul)) (2 * x.width) i), 0)) false := by
  unfold vArith
  rw [if_neg hn]
  generalize vOp w = op at ho
  obtain ⟨hlo, hhi⟩ := ho
  interval_cases op <;> rfl

/-- The floating-point lanes of the width of their elements (R210). -/
theorem vArith_of_float (hn : x.vl ≠ 0) (ho : 0x28 ≤ vOp w ∧ vOp w ≤ 0x2D ∨ 0x31 ≤ vOp w ∧ vOp w ≤ 0x32) : vArith w x rm xb =
    vecOut w x x.vl x.width x.lmul (vecAct w x) (fun i =>
      vFp (vOp w) rm x.width (vecA w x i) (vecB w x xb i) (elt (x.group (vVd w) x.lmul) x.width i)) true := by
  unfold vArith
  rw [if_neg hn]
  generalize vOp w = op at ho
  obtain ⟨hlo, hhi⟩ | ⟨hlo, hhi⟩ := ho <;> interval_cases op <;> rfl

/-- The floating-point products into elements of twice the width (R210). -/
theorem vArith_of_floatWide (hn : x.vl ≠ 0) (ho : 0x33 ≤ vOp w ∧ vOp w ≤ 0x34) : vArith w x rm xb =
    vecOut w x x.vl (2 * x.width) (2 * x.lmul) (vecAct w x) (fun i =>
      vFp (vOp w) rm x.width (vecA w x i) (vecB w x xb i) (elt (x.group (vVd w) (2 * x.lmul)) (2 * x.width) i)) true := by
  unfold vArith
  rw [if_neg hn]
  generalize vOp w = op at ho
  obtain ⟨hlo, hhi⟩ := ho
  interval_cases op <;> rfl

/-- A reduction writes element 0 of VD (R212, R213). -/
theorem vArith_of_reduce (hn : x.vl ≠ 0) (ho : 0x38 ≤ vOp w ∧ vOp w ≤ 0x3D) : vArith w x rm xb =
    let r := vFold (vOp w) rm x.width x.vl x.vlmax (vecAct w x) (vecA w x)
    { vw := [(vVd w, BitVec.ofNat 2048 (putElt (x.reg (vVd w)) x.width 0 r.1))], fl := r.2, fp := decide (0x3C ≤ vOp w) } := by
  unfold vArith
  rw [if_neg hn]
  generalize vOp w = op at ho
  obtain ⟨hlo, hhi⟩ := ho
  interval_cases op <;> rfl

/-- The command of a mask operation, once it may enter the window (R204). -/
theorem VecEnters.exec_mask {s t : State} (h : VecEnters w s t) (hc : wf w 0 7 = 0x5B) (hm : mClass w = 2) {op : Nat} (ho : mOp w = op)
    {o : VOut} (hres : vMaskOp w t.yar.vet.done = o) : rowS (vetRow (isVec2 2 op) false) s = .next (settle (t.vecDone o)) := by
  have hmine : isVec2 2 op (.vec w) = true := by simp [isVec2, hc, hm, ho]
  have hr : vRegResult w t.yar.vet.done t = o := by rw [vRegResult, if_neg (by rw [hc]; decide), hres]
  rw [VecEnters.exec h (by simp [vRegOnly, hm]) hmine, hr]

/-- Settles O23: each comparison by `vIntCmp` or `vFpCmp`, and each mask operation. -/
theorem vetchComparesAndMasks : Obligations.VetchComparesAndMasks := by
  unfold Obligations.VetchComparesAndMasks
  refine ⟨?_, ?_, fun x => rfl⟩
  · intro rows fprows w s t h hc x xb bits out hn
    refine ⟨fun e he ho => ?_, fun e he ho => ?_⟩
    · have hrow : (0x20 ≤ e.1 ∧ e.1 ≤ 0x25) ∧ (∀ s, exec (e.2.1 false) s = rowS (vetRow (isVec1 e.1) false) s) ∧ e.2.2 = vIntCmp e.1 := by
        simp only [rows] at he
        fin_cases he <;> exact ⟨by decide, fun _ => rfl, rfl⟩
      obtain ⟨hop, hcmd, hlane⟩ := hrow
      rw [hcmd, hlane]
      refine h.exec_arith hc ho ?_
      rw [vArith_of_compare hn (ho ▸ hop), ho]
    · have hrow : (0x2E ≤ e.1 ∧ e.1 ≤ 0x30) ∧ (∀ s, exec (e.2.1 false) s = rowS (vetRow (isVec1 e.1) false) s) ∧
          ∀ ew a b, fpCmp e.2.2 ((vFmt ew).read a) ((vFmt ew).read b) = vFpCmp e.1 ew a b := by
        simp only [fprows] at he
        fin_cases he <;> exact ⟨by decide, fun _ => rfl, fun _ _ _ => rfl⟩
      obtain ⟨hop, hcmd, hlane⟩ := hrow
      rw [hcmd]
      refine h.exec_arith hc ho ?_
      simp only [hlane]
      rw [vArith_of_fcompare hn (ho ▸ hop), ho]
  · intro e he w s t h hc hm ho x
    have hrow : (∀ s, exec (e.2.1 false) s = rowS (vetRow (isVec2 2 e.1) false) s) ∧
        (mOp w = e.1 → vMaskOp w x = { kw := [(vVd w, e.2.2 (BitVec.ofNat 2048 (x.mask (vVs1 w))) (BitVec.ofNat 2048 (x.mask (vVs2 w))))] }) := by
      fin_cases he <;> exact ⟨fun _ => rfl, fun h => by unfold vMaskOp; generalize mOp w = op at h; subst h; rfl⟩
    rw [hrow.1]
    exact h.exec_mask hc hm ho (hrow.2 ho)

/-- Settles O24: the widening products by `vWiden`, and the dot products. -/
theorem vetchWidening : Obligations.VetchWidening := by
  unfold Obligations.VetchWidening
  intro rows dots w s t h hc x xb hn
  refine ⟨fun e he ho => ?_, fun e he ho => ?_⟩
  · have hrow : (0x18 ≤ e.1 ∧ e.1 ≤ 0x1C) ∧ (∀ s, exec (e.2.1 false) s = rowS (vetRow (isVec1 e.1) false) s) ∧ e.2.2 = vWiden e.1 := by
      simp only [rows] at he
      fin_cases he <;> exact ⟨by decide, fun _ => rfl, rfl⟩
    obtain ⟨hop, hcmd, hlane⟩ := hrow
    rw [hcmd, hlane]
    refine h.exec_arith hc ho ?_
    rw [vArith_of_widen hn (ho ▸ hop), ho]
  · simp only [dots] at he
    fin_cases he <;>
    · refine h.exec_arith hc ho ?_
      unfold vArith
      rw [if_neg hn, ho]
      rfl

/-- Settles O25: each lane by `vFp`, and each reduction by `vFold`. -/
theorem vetchFloats : Obligations.VetchFloats := by
  unfold Obligations.VetchFloats
  refine ⟨?_, ?_⟩
  · intro rows wide w s t h hc x xb rm hn
    refine ⟨fun e he ho => ?_, fun e he ho => ?_⟩
    · have hrow : (0x28 ≤ e.1 ∧ e.1 ≤ 0x2D ∨ 0x31 ≤ e.1 ∧ e.1 ≤ 0x32) ∧
          (∀ s, exec (e.2.1 false) s = rowS (vetRow (isVec1 e.1) false) s) ∧
          ∀ rm ew a b d, e.2.2 (vFmt ew) rm ew a b d = vFp e.1 rm ew a b d := by
        simp only [rows] at he
        fin_cases he <;> exact ⟨by decide, fun _ => rfl, fun _ _ _ _ _ => rfl⟩
      obtain ⟨hop, hcmd, hlane⟩ := hrow
      rw [hcmd]
      refine h.exec_arith hc ho ?_
      simp only [hlane]
      rw [vArith_of_float hn (ho ▸ hop), ho]
    · have hrow : (0x33 ≤ e.1 ∧ e.1 ≤ 0x34) ∧ (∀ s, exec (e.2.1 false) s = rowS (vetRow (isVec1 e.1) false) s) ∧
          ∀ rm ew a b d, e.2.2 rm a b d = vFp e.1 rm ew a b d := by
        simp only [wide] at he
        fin_cases he <;> exact ⟨by decide, fun _ => rfl, fun _ _ _ _ _ => rfl⟩
      obtain ⟨hop, hcmd, hlane⟩ := hrow
      rw [hcmd]
      refine h.exec_arith hc ho ?_
      simp only [hlane _ x.width]
      rw [vArith_of_floatWide hn (ho ▸ hop), ho]
  · intro rows w s t h hc x es out hn
    refine ⟨fun e he ho => ?_, fun ho => ?_, fun ho => ?_⟩
    · have hrow : (0x38 ≤ e.1 ∧ e.1 ≤ 0x3B) ∧ (∀ s, exec (e.2.1 false) s = rowS (vetRow (isVec1 e.1) false) s) ∧
          ∀ rm, vFold e.1 rm x.width x.vl x.vlmax (vecAct w x) (vecA w x) = (e.2.2 x.width es, 0) := by
        simp only [rows] at he
        fin_cases he <;> exact ⟨by decide, fun _ => rfl, fun _ => rfl⟩
      obtain ⟨hop, hcmd, hlane⟩ := hrow
      rw [hcmd]
      refine h.exec_arith hc ho ?_
      rw [vArith_of_reduce hn ⟨ho ▸ hop.1, ho ▸ by omega⟩, ho]
      dsimp only
      rw [hlane, decide_eq_false (by omega)]
    · refine h.exec_arith hc ho ?_
      rw [vArith_of_reduce hn (by rw [ho]; decide), ho]
      rfl
    · refine h.exec_arith hc ho ?_
      rw [vArith_of_reduce hn (by rw [ho]; decide), ho]
      have hes : ((List.range x.vl).filter (vecAct w x)).map (vecA w x) = es := rfl
      unfold vFold
      dsimp only
      rw [hes]
      clear_value es
      cases es <;> rfl

end Sys2Proof.Machine
end

section
/-!
PROOFS. Scalar results and configuration of Vetch (R204, R206).
-/
namespace Sys2Proof.Machine

variable {w : Word} {s t : State}

/-- An instruction that needs the window completed, and how it goes on (R201). -/
theorem vExec_of_other (limit : Option Nat) (hp : t.yar.vet.pend = []) (h : vLegal w { t.yar.vet with path := [] } t.yar = true)
    (hr : vRegOnly w = false) {u : State} (hu : vetFinish (vetSquash t) = u) :
    (mClass w = 3 → (vExec w limit t).state = (yPut (vVd w) (vScalar w u) u).retired 4) ∧
    (mClass w = 4 → (vExec w limit t).state = State.retired 4 (if mOp w = 0 then vSetvl w u
      else if mOp w = 1 then yPut (vVd w) (vScalar w u) u else if mOp w = 2 then u else u.raise 0xFC)) ∧
    (mClass w ≤ 1 → (vExec w limit t).state = (vMemExec w limit u).state) := by
  unfold vExec
  rw [hp]
  dsimp only [List.find?_nil]
  rw [vLegal_squash hp, h, hr, hu]
  simp only [Bool.not_true, Bool.false_eq_true, if_false]
  refine ⟨fun hc => ?_, fun hc => ?_, fun hc => ?_⟩
  · rw [hc]
    rfl
  · rw [hc]
    generalize mOp w = op
    match op with
    | 0 => rfl
    | 1 => rfl
    | 2 => rfl
    | _ + 3 => rfl
  · generalize mClass w = c at hc
    interval_cases c <;> rfl

/-- The command of an instruction of custom-2 that needs the window completed. -/
theorem VecRuns.exec_other (h : VecRuns w s t) (hf : wf w 0 7 = 0x5B) {c op : Nat} (hc : mClass w = c) (ho : mOp w = op) (hne : c ≠ 2)
    (limit : Option Nat) {v : State} (hv : vRegOnly w = false → (vExec w limit t).state = v) :
    rowS (Machine.yStep (isVec2 c op) limit) s = .next (settle v) := by
  obtain ⟨hft, hdec, -, -⟩ := h
  have hr : vRegOnly w = false := by simp [vRegOnly, hf, hc, hne]
  have hm : isVec2 c op (.vec w) = true := by simp [isVec2, hf, hc, ho]
  exact (hft.exec_mine limit hdec hm).trans (congrArg (fun u => Host.Outcome.next (settle u)) (hv hr))

/-- A scalar result of class 0b011 is written once the window has completed. -/
theorem VecRuns.exec_scalar (h : VecRuns w s t) (hf : wf w 0 7 = 0x5B) {op : Nat} (hc : mClass w = 3) (ho : mOp w = op)
    {v : Word} (hv : vScalar w (vetFinish (vetSquash t)) = v) :
    rowS (Machine.yStep (isVec2 3 op) none) s = .next (settle ((yPut (vVd w) v (vetFinish (vetSquash t))).retired 4)) := by
  obtain ⟨-, -, hp, hl⟩ := id h
  refine VecRuns.exec_other h hf hc ho (by decide) none fun hr => ?_
  rw [(vExec_of_other none hp hl hr rfl).1 hc, hv]

/-- A configuration instruction of class 0b100, once the window has completed. -/
theorem VecRuns.exec_config (h : VecRuns w s t) (hf : wf w 0 7 = 0x5B) {op : Nat} (hc : mClass w = 4) (ho : mOp w = op)
    {v : State} (hv : (let u := vetFinish (vetSquash t)
      if op = 0 then vSetvl w u else if op = 1 then yPut (vVd w) (vScalar w u) u else if op = 2 then u else u.raise 0xFC) = v) :
    rowS (Machine.yStep (isVec2 4 op) none) s = .next (settle (v.retired 4)) := by
  obtain ⟨-, -, hp, hl⟩ := id h
  refine VecRuns.exec_other h hf hc ho (by decide) none fun hr => ?_
  rw [(vExec_of_other none hp hl hr rfl).2.1 hc, ho, ← hv]

/-- Settles O26: each scalar result by `vScalar`, and VSETVL by its two cases. -/
theorem vetchScalarsAndConfig : Obligations.VetchScalarsAndConfig := by
  unfold Obligations.VetchScalarsAndConfig
  intro w s t h hf u x below idx e put
  refine ⟨fun hc ho => ?_, fun hc ho => ?_, fun hc ho => ?_, fun hc ho => ?_, fun hc ho hlt => ?_, fun hc ho hge => ?_, fun hc ho => ?_,
    fun hc ho => ?_, fun hc ho => ?_⟩
  · refine VecRuns.exec_scalar h hf hc ho ?_
    unfold vScalar
    dsimp only
    rw [if_neg (by rw [hc]; decide), ho]
    rfl
  · refine VecRuns.exec_scalar h hf hc ho ?_
    have hb : ((List.range u.yar.vet.vl).filter fun i => natBit (u.yar.vet.mask (vVs1 w)) i) = below := rfl
    unfold vScalar
    dsimp only
    rw [if_neg (by rw [hc]; decide), ho, hb]
    clear_value below
    cases below <;> rfl
  · refine VecRuns.exec_scalar h hf hc ho ?_
    unfold vScalar
    dsimp only
    rw [if_neg (by rw [hc]; decide), ho]
    by_cases hi : idx < x.vlmax
    · rw [if_neg (Nat.not_le.mpr hi)]
      exact if_neg (show ¬ (!decide (idx < x.vlmax)) = true by simpa using hi)
    · rw [if_pos (Nat.not_lt.mp hi)]
      exact if_pos (show (!decide (idx < x.vlmax)) = true by simpa using hi)
  · refine VecRuns.exec_scalar h hf hc ho ?_
    unfold vScalar
    dsimp only
    rw [if_neg (by rw [hc]; decide), ho]
    by_cases hi : idx < x.vlmax
    · rw [if_pos hi]
      exact if_pos (decide_eq_true hi)
    · rw [if_neg hi]
      exact if_neg (show ¬ decide (idx < x.vlmax) = true by simpa using hi)
  · refine VecRuns.exec_config h hf hc ho ?_
    exact if_pos hlt
  · refine VecRuns.exec_config h hf hc ho ?_
    exact if_neg (Nat.not_lt.mpr hge)
  · refine VecRuns.exec_config h hf hc ho ?_
    unfold vScalar
    dsimp only
    rw [if_neg (by decide), if_pos rfl, if_pos hc]
  · refine VecRuns.exec_config (v := u) h hf hc ho ?_
    dsimp only
    rw [if_neg (by decide), if_neg (by decide), if_pos rfl]
  · refine VecRuns.exec_config (v := u.raise 0xFC) h hf hc ho ?_
    dsimp only
    rw [if_neg (by decide), if_neg (by decide), if_neg (by decide)]

end Sys2Proof.Machine
end

section
/-!
PROOFS. Vector loads and stores from VEIX, run-ahead, and the retirement of what ran ahead (R216 to R228).
-/
namespace Sys2Proof.Machine

variable {w : Word} {s t : State}

/-- How a memory instruction ends on the state `v` its run leaves: in its fault, stopped at a pass boundary, or retired (R220 to R224). -/
def vMemEnd (r : VRun) (v : State) : State :=
  match r.fault with
  | some f => vFault f.e f.cause f.addr f.yf v
  | none => if r.stopped then v.updYar fun y => { y with veix := BitVec.ofNat 12 r.e }
    else (v.updYar fun y => { y with veix := 0#12 }).retired 4

/-- The run of a memory instruction from VEIX on, over the state with the store buffer drained. -/
def vMemRunOf (w : Word) (passes : Option Nat) (q : State) : VRun × State :=
  let m := vMemOf w q.yar.vet (yReg (vVs1 w) q) (yReg (vVs2 w) q)
  let start := q.yar.veix.toNat
  vMemRun m (mClass w == 1) false (m.n - start + 1) passes { e := start, v := vMemOld w q.yar.vet } q

theorem vMemExec_of_held {u : State} (passes : Option Nat) (h : (drainAll u).yar.sb.isEmpty = false) :
    (vMemExec w passes u).state = drainAll u := by
  unfold vMemExec
  dsimp only
  rw [if_pos (by rw [h]; rfl)]
  rfl

theorem vMemExec_of_drained {u : State} (passes : Option Nat) (h : (drainAll u).yar.sb.isEmpty = true) :
    (vMemExec w passes u).state =
      let x := vMemRunOf w passes (drainAll u)
      vMemEnd x.1 (if (mClass w == 1) = true then x.2 else vLand (vLoadOut w (drainAll u).yar.vet x.1.v) x.2) := by
  unfold vMemExec vMemEnd
  dsimp only
  rw [if_neg (by rw [h]; decide)]
  have hx : vMemRun (vMemOf w (drainAll u).yar.vet (yReg (vVs1 w) (drainAll u)) (yReg (vVs2 w) (drainAll u))) (mClass w == 1) false
      ((vMemOf w (drainAll u).yar.vet (yReg (vVs1 w) (drainAll u)) (yReg (vVs2 w) (drainAll u))).n - (drainAll u).yar.veix.toNat + 1)
      passes { e := (drainAll u).yar.veix.toNat, v := vMemOld w (drainAll u).yar.vet } (drainAll u)
      = vMemRunOf w passes (drainAll u) := rfl
  rw [hx]
  generalize vMemRunOf w passes (drainAll u) = x
  obtain ⟨⟨e, v, fault, stopped⟩, z⟩ := x
  cases fault with
  | some f => rfl
  | none => cases stopped <;> rfl

/-- A memory instruction at PC, as its command runs it. -/
theorem VecRuns.exec_memory (h : VecRuns w s t) (hf : wf w 0 7 = 0x5B) {c op : Nat} (hc : mClass w = c) (ho : mOp w = op) (hle : c ≤ 1)
    (passes : Option Nat) : rowS (Machine.yStep (isVec2 c op) passes) s =
      let q := drainAll (vetFinish (vetSquash t))
      let x := vMemRunOf w passes q
      if q.yar.sb.isEmpty then
        .next (settle (vMemEnd x.1 (if (mClass w == 1) = true then x.2 else vLand (vLoadOut w q.yar.vet x.1.v) x.2)))
      else .next (settle q) := by
  obtain ⟨-, -, hp, hl⟩ := id h
  have hv : vRegOnly w = false → (vExec w passes t).state = (vMemExec w passes (vetFinish (vetSquash t))).state := fun hr =>
    (vExec_of_other passes hp hl hr rfl).2.2 (hc ▸ hle)
  rw [VecRuns.exec_other h hf hc ho (by omega) passes hv]
  dsimp only
  cases hsb : (drainAll (vetFinish (vetSquash t))).yar.sb.isEmpty with
  | true => rw [vMemExec_of_drained passes hsb, if_pos rfl]
  | false => rw [vMemExec_of_held passes hsb, if_neg (by decide)]

/-- A vector memory fault outside Debug Mode (R221). -/
theorem vFault_exception (e cause a yf : Nat) (h : s.yar.dbg.halted = false) :
    let v := s.updYar fun y => { y with veix := BitVec.ofNat 12 e, yfault := if yf = 0 then y.yfault else BitVec.ofNat 4 yf }
    vFault e cause a yf s = (v.trapped (BitVec.ofNat 32 cause) (BitVec.ofNat 32 a) v.trapBase).raise 0xFD := by
  unfold vFault
  dsimp only
  by_cases hyf : yf = 0
  · rw [if_pos hyf]
    simp only [if_pos hyf]
    exact congrArg (fun u => u.raise 0xFD) (yTrap_exception (t := s.updYar fun y => { y with veix := BitVec.ofNat 12 e }) h ..)
  · rw [if_neg hyf]
    simp only [if_neg hyf]
    exact congrArg (fun u => u.raise 0xFD) (yFault_exception (t := s.updYar fun y => { y with veix := BitVec.ofNat 12 e }) h ..)

/-! Run-ahead (R226 to R228). -/

/-- Yarrow runs, and Vetch has room for another instruction ahead of it. -/
abbrev AheadReady (s : State) : Prop :=
  s.yar.run = true ∧ s.yar.dbg.halted = false ∧ s.yar.wfi = false ∧ s.yar.wait = none ∧ s.yar.vet.pend.length < 2

/-- No older instruction on the path writes a register that `w` reads. -/
abbrev AheadFree (w : Word) (older : List YInstr) : Prop := ∀ i ∈ older,
  (wf w 0 7 = 0x2B → vX w = true → yWrites i (vVs2 w) = false) ∧
  (wf w 0 7 = 0x5B → mClass w = 0 → yWrites i (vVs1 w) = false ∧ (mOp w = 1 → yWrites i (vVs2 w) = false))

theorem vAhead_eq (h : AheadReady s) (mine : YInstr → Bool) :
    vAhead mine s = match aheadWalk 16 s.yar.pc s.yar.vet.pend.length [] [] s with
      | none => s
      | some (w, pc, path, older) =>
        if (!mine (.vec w) || ((wf w 0 7 == 0x2B && vX w && older.any fun i => yWrites i (vVs2 w)) ||
          (mClass w == 0 && wf w 0 7 == 0x5B && ((older.any fun i => yWrites i (vVs1 w)) || (mOp w == 1 && older.any fun i => yWrites i (vVs2 w))))))
            = true then s else vBegin w pc path s := by
  obtain ⟨hrun, hhalt, hwfi, hwait, hroom⟩ := h
  unfold vAhead
  dsimp only
  refine (if_neg (by simp [hrun, hhalt, hwfi, hwait, hroom])).trans ?_
  generalize aheadWalk 16 s.yar.pc s.yar.vet.pend.length [] [] s = r
  cases r <;> rfl

/-- The instruction found on the path begins where it is the command's and nothing older is in its way. -/
theorem vAhead_of_found (h : AheadReady s) {mine : YInstr → Bool} {pc : Word} {path : List Word} {older : List YInstr}
    (hr : aheadWalk 16 s.yar.pc s.yar.vet.pend.length [] [] s = some (w, pc, path, older)) (hfree : AheadFree w older)
    (hm : mine (.vec w) = true) : vAhead mine s = vBegin w pc path s := by
  rw [vAhead_eq h mine, hr]
  have hnone : ∀ r, (∀ i ∈ older, yWrites i r = false) → older.any (fun i => yWrites i r) = false := fun r hr => by
    simpa using hr
  have h1 : (wf w 0 7 == 0x2B && vX w && older.any fun i => yWrites i (vVs2 w)) = false := by
    by_cases hc : wf w 0 7 = 0x2B ∧ vX w = true
    · rw [hnone _ fun i hi => (hfree i hi).1 hc.1 hc.2, Bool.and_false]
    · have : (wf w 0 7 == 0x2B && vX w) = false := by simpa using hc
      rw [this, Bool.false_and]
  have h2 : (mClass w == 0 && wf w 0 7 == 0x5B &&
      ((older.any fun i => yWrites i (vVs1 w)) || (mOp w == 1 && older.any fun i => yWrites i (vVs2 w)))) = false := by
    by_cases hc : mClass w = 0 ∧ wf w 0 7 = 0x5B
    · have h3 : (mOp w == 1 && older.any fun i => yWrites i (vVs2 w)) = false := by
        by_cases ho : mOp w = 1
        · rw [hnone _ fun i hi => ((hfree i hi).2 hc.2 hc.1).2 ho, Bool.and_false]
        · have : (mOp w == 1) = false := by simpa using ho
          rw [this, Bool.false_and]
      rw [hnone _ fun i hi => ((hfree i hi).2 hc.2 hc.1).1, h3, Bool.or_false, Bool.and_false]
    · have : (mClass w == 0 && wf w 0 7 == 0x5B) = false := by simpa using hc
      rw [this, Bool.false_and]
  dsimp only
  rw [hm, h1, h2]
  exact if_neg (by decide)

theorem vAhead_of_none (h : AheadReady s) (mine : YInstr → Bool)
    (hr : aheadWalk 16 s.yar.pc s.yar.vet.pend.length [] [] s = none) : vAhead mine s = s := by
  rw [vAhead_eq h mine, hr]

/-- What ran ahead retires as its recorded results, or its recorded refusal (R227). -/
def vCommitEnd (p : VPend) (rest : List VPend) (t : State) : State :=
  let v := vLand { vw := p.vw, kw := p.kw, fl := p.fl, fp := p.fp } (t.updVet fun v => { v with pend := rest })
  match p.fault with
  | some f => vRecorded f v
  | none => (if vRegOnly p.word then v else v.updYar fun y => { y with veix := 0#12 }).retired 4

theorem vExec_of_ahead (limit : Option Nat) {p : VPend} {rest : List VPend} (hp : t.yar.vet.pend = p :: rest) (hpc : t.yar.pc = p.pc) :
    (vExec p.word limit t).state = vCommitEnd p rest t := by
  have hfind : t.yar.vet.pend.find? (fun x => x.pc == t.yar.pc && x.word == p.word) = some p := by
    rw [hp]
    exact List.find?_cons_of_pos (by simp [hpc])
  have hrest : t.yar.vet.pend.drop 1 = rest := by rw [hp, List.drop_one, List.tail_cons]
  have hdrop : (t.updVet fun x => { x with pend := x.pend.drop 1 }) = t.updVet fun v => { v with pend := rest } := by
    unfold State.updVet State.updYar
    dsimp only
    rw [hrest]
  unfold vExec
  rw [hfind]
  show vCommit p t = _
  unfold vCommit vCommitEnd
  dsimp only
  rw [hdrop]
  cases p.fault with
  | some f => rfl
  | none => cases vRegOnly p.word <;> rfl

/-- The command of the instruction at PC retires what ran ahead there. -/
theorem Fetches.exec_ahead {p : VPend} {rest : List VPend} (h : Fetches p.word 4 s t) (hdec : yDecode p.word 4 = .vec p.word)
    (hp : t.yar.vet.pend = p :: rest) (hpc : t.yar.pc = p.pc) {mine : YInstr → Bool} (hm : mine (.vec p.word) = true)
    (limit : Option Nat) : rowS (Machine.yStep mine limit) s = .next (settle (vCommitEnd p rest t)) :=
  (h.exec_mine limit hdec hm).trans (congrArg (fun u => Host.Outcome.next (settle u)) (vExec_of_ahead limit hp hpc))

/-- Settles O27: memory instructions by `vMemRunOf`, run-ahead by `vBegin`, retirement by `vCommitEnd`. -/
theorem vetchMemory : Obligations.VetchMemory := by
  unfold Obligations.VetchMemory
  refine ⟨⟨?_, fun e cause a yf s h => vFault_exception e cause a yf h⟩, ?_⟩
  · intro w passes s t h hf hcl q m start run r ended
    have hend : ∀ v, ended v = .next (settle (vMemEnd r v)) := fun v => by
      show Host.Outcome.next (settle _) = _
      unfold vMemEnd
      cases r.fault with
      | some f => rfl
      | none => cases r.stopped <;> rfl
    refine ⟨fun e he hc ho => ?_, fun e he hc ho => ?_⟩
    · have hcmd : exec (e.2 passes) s = rowS (Machine.yStep (isVec2 0 e.1) passes) s := by
        fin_cases he <;> rfl
      rw [hcmd, VecRuns.exec_memory h hf hc ho (by decide) passes, hend, hc]
      rfl
    · have hcmd : exec (e.2 passes) s = rowS (Machine.yStep (isVec2 1 e.1) passes) s := by
        fin_cases he <;> rfl
      rw [hcmd, VecRuns.exec_memory h hf hc ho (by decide) passes, hend, hc]
      rfl
  · intro loads ready walk free
    have hload : ∀ e ∈ loads, ∀ a n s, exec (e.2 a n) s = rowS (fun s => if a then vAhead e.1 s else Machine.yStep e.1 n s) s := by
      intro e he a n s
      simp only [loads] at he
      fin_cases he <;> rfl
    refine ⟨?_, ?_, ?_, ?_, ?_, ?_⟩
    · intro w pc path older s hr hw hfree
      refine ⟨fun e he hm => ?_, fun e he n hm => ?_⟩
      · exact (exec_vecForm e he true s).trans (congrArg (fun u => Host.Outcome.next (settle u))
          (vAhead_of_found (s := s.begin) hr hw hfree hm))
      · exact (hload e he true n s).trans (congrArg (fun u => Host.Outcome.next (settle u))
          (vAhead_of_found (s := s.begin) hr hw hfree hm))
    · intro s hr hw
      refine ⟨fun e he => ?_, fun e he n => ?_⟩
      · exact (exec_vecForm e he true s).trans (congrArg (fun u => Host.Outcome.next (settle u))
          (vAhead_of_none (s := s.begin) hr e.1 hw))
      · exact (hload e he true n s).trans (congrArg (fun u => Host.Outcome.next (settle u))
          (vAhead_of_none (s := s.begin) hr e.1 hw))
    · intro w pc path s hl hroom hfault hreg o
      have hany : (s.yar.vet.pend.any fun p => p.fault.isSome) = false := by
        simpa using hfault
      unfold vBegin
      dsimp only
      rw [if_neg (by simp [hl, hany, hroom]), if_pos hreg]
    · intro w pc path s h
      unfold vBegin
      dsimp only
      refine if_pos ?_
      rcases h with h | h | h
      · exact .inr (.inl (by simp [h]))
      · exact .inl (by omega)
      · exact .inr (.inr (by simpa using h))
    · intro p rest s t hf hdec hs ht hpc v ended
      have hend : ended = .next (settle (vCommitEnd p rest t)) := by
        show Host.Outcome.next (settle _) = _
        unfold vCommitEnd
        cases p.fault <;> rfl
      rw [hend]
      refine ⟨?_, fun e he hm => ?_, fun e he n hm => ?_⟩
      · have hret : vRetire s.begin = Machine.yStep (fun i => i == .vec p.word) none s.begin := by
          unfold vRetire
          rw [show s.begin.yar.vet.pend = p :: rest from hs]
        exact (congrArg (fun u => Host.Outcome.next (settle u)) hret).trans
          (hf.exec_ahead hdec ht hpc (mine := fun i => i == .vec p.word) (by simp) none)
      · exact (exec_vecForm e he false s).trans (hf.exec_ahead hdec ht hpc hm none)
      · exact (hload e he false n s).trans (hf.exec_ahead hdec ht hpc hm n)
    · intro s hs
      refine congrArg (fun u => Host.Outcome.next (settle u)) (?_ : vRetire s.begin = s.begin)
      unfold vRetire
      rw [show s.begin.yar.vet.pend = [] from hs]

end Sys2Proof.Machine
end

section
/-!
PROOFS. A pulse on an event output whose pin pulse still runs: against the pending bit of R100.
-/
namespace Sys2Proof.Machine

/-- Route 0 is an enabled event output of source 0xF8. -/
def outputRoute : State :=
  ((State.reset.set (F.EVR_ROUTE_EN 0) 1).set (F.EVR_ROUTE_SRC 0) 0xF8).set (F.EVR_ROUTE_TCLASS 0) 6

/-- Its source has given one pulse, and its pending bit has been cleared while the pin pulse runs. -/
def pulsingRoute : State := setRoutePend 0 false (outputRoute.raise 0xF8)

theorem pulsingRoute_takes : pulsingRoute.on (F.EVR_ROUTE_EN 0) = true ∧ pulsingRoute.get (F.EVR_ROUTE_SRC 0) = 0xF8 ∧
    routeClass 0 pulsingRoute = 6 := by decide +kernel

/-- The next pulse is an overflow, and leaves the pending bit 0. -/
theorem routePend_pulsingRoute : routePend 0 (pulsingRoute.raise 0xF8) = false := by decide +kernel

/-- Refutes O11: a pulse on an event output whose pin pulse runs is counted as overflow, and sets no pending bit. -/
theorem not_eventRouter : ¬ Obligations.EventRouter := by
  unfold Obligations.EventRouter
  intro h
  obtain ⟨-, -, hraise⟩ := h
  obtain ⟨hen, hsrc, hclass⟩ := pulsingRoute_takes
  have hpend := (hraise 0xF8 pulsingRoute).1 0 (by decide) hen hsrc (by rw [hclass]; decide) (by rw [hclass]; decide)
  rw [routePend_pulsingRoute] at hpend
  exact absurd hpend (by decide)

end Sys2Proof.Machine
end

section
/-!
PROOFS. Register accesses by a register's own rule, whatever its row, taken or denied.
-/
namespace Sys2Proof.Machine

variable {s u : State} {cid : Cid} {a : Nat} {w : Word} {d : DWord}

/-- A write that the register's own rule takes. -/
theorem write_takes (h : Admits cid true a s) (hr : (regRow? a).isSome = true) (ha : 0x50000000 ≤ a ∧ a < 0x50010000)
    (hs : ∀ row, specialWrite row cid.toNat a w 15 s.begin = some (.ok d, u)) :
    rowS (fabricWrite cid.toNat a w) s = .next (settle u) := by
  obtain ⟨row, hrow⟩ := Option.isSome_iff_exists.mp hr
  exact write_row h hrow (hs row) ha

/-- A register write that the checks let through and the register refuses. -/
theorem fabricWrite_refused {cid a r : Nat} {c : Cause} (h : accessCheck { cid := cid } true a 4 s = .ok r) (hr : 16 ≤ r ∧ r ≤ 31)
    (hw : regWrite cid a w 15 s = (.refused c, u)) :
    fabricWrite cid a w s = (busErr { cid := cid } true a c u).answerRefused c.code := by
  have hmem : memRegion r = false := by
    unfold memRegion
    simp
    omega
  have h32 : r ≠ 32 := by omega
  have h33 : r ≠ 33 := by omega
  have h14 : r ≠ 14 := by omega
  have hword : BitVec.ofNat 32 w.toNat = w := BitVec.ofNat_toNat ..
  unfold fabricWrite fabric
  simp only [h, hmem, Bool.false_eq_true, if_false, if_neg h32, if_neg h33, deviceTarget, if_neg h14, if_pos hr, if_true, hword, hw,
    loggedReply, logged]

/-- A write that the register's own rule refuses is logged, and answers its cause (R92, R94). -/
theorem write_denied {c : Cause} (h : Admits cid true a s) (hr : (regRow? a).isSome = true) (ha : 0x50000000 ≤ a ∧ a < 0x50010000)
    (hs : ∀ row, specialWrite row cid.toNat a w 15 s.begin = some (.refused c, u)) :
    rowS (fabricWrite cid.toNat a w) s = .next (settle ((busErr { cid := cid.toNat } true a c u).answerRefused c.code)) := by
  obtain ⟨row, hrow⟩ := Option.isSome_iff_exists.mp hr
  unfold rowS
  rw [fabricWrite_refused (s := s.begin) h.ok (by omega) (regWrite_special hrow (hs row))]

/-- A register read that the register's own rule answers. -/
theorem read_takes {r : Word × State} (h : Admits cid false a s) (hr : (regRow? a).isSome = true) (ha : 0x50000000 ≤ a ∧ a < 0x50010000)
    (hs : specialRead cid.toNat a s.begin = some r) :
    rowS (fabricRead cid.toNat a) s = .next (settle (r.2.answer r.1.toNat)) := by
  obtain ⟨row, hrow⟩ := Option.isSome_iff_exists.mp hr
  unfold rowS
  rw [fabricRead_ok (s := s.begin) h.ok (by omega) (regRead_special hrow hs)]
  have : (BitVec.setWidth 64 r.1).toNat = r.1.toNat := by simp; omega
  rw [this]

/-- A write that the access codes decide. -/
theorem write_plain (h : Admits cid true a s) (hr : (regRow? a).isSome = true) (ha : 0x50000000 ≤ a ∧ a < 0x50010000)
    (hs : ∀ row, specialWrite row cid.toNat a w 15 s.begin = none) :
    rowS (fabricWrite cid.toNat a w) s = .next (settle (s.begin.codeWritten a w)) := by
  obtain ⟨row, hrow⟩ := Option.isSome_iff_exists.mp hr
  rw [write_code h hrow (hs row) ha]
  unfold State.codeWritten
  rw [hrow]

/-! Which block's rule a register of the block follows (R3). -/

section
variable {row : RegRow} {c : Nat} {mask : Nat}

theorem specialWriteSys (h : (a - 0x50000000) / 0x1000 = 0) : specialWrite row c a w mask s = sysWrite row c a w s := by
  unfold specialWrite
  simp only [h]

theorem specialWriteEvr (h : (a - 0x50000000) / 0x1000 = 2) : specialWrite row c a w mask s = evrWrite c a w s := by
  unfold specialWrite
  simp only [h]

theorem specialWriteDma (h : (a - 0x50000000) / 0x1000 = 3) : specialWrite row c a w mask s = dmaWrite c a w s := by
  unfold specialWrite
  simp only [h]

theorem specialWriteMem (h : (a - 0x50000000) / 0x1000 = 4) : specialWrite row c a w mask s = memCtlWrite c a w s := by
  unfold specialWrite
  simp only [h]

theorem specialWriteSem (h : (a - 0x50000000) / 0x1000 = 5) : specialWrite row c a w mask s = semWrite c a w s := by
  unfold specialWrite
  simp only [h]

theorem specialWritePool (h : (a - 0x50000000) / 0x1000 = 6) : specialWrite row c a w mask s = poolWrite row c a w s := by
  unfold specialWrite
  simp only [h]

theorem specialWritePin (h : (a - 0x50000000) / 0x1000 = 7) : specialWrite row c a w mask s = pinWrite c a w s := by
  unfold specialWrite
  simp only [h]

theorem specialWritePwm (h : (a - 0x50000000) / 0x1000 = 8) : specialWrite row c a w mask s = pwmWrite c a w mask s := by
  unfold specialWrite
  simp only [h]

theorem specialWritePwmB (h : (a - 0x50000000) / 0x1000 = 9) : specialWrite row c a w mask s = pwmWrite c a w mask s := by
  unfold specialWrite
  simp only [h]

theorem specialWriteSense (h : (a - 0x50000000) / 0x1000 = 10) : specialWrite row c a w mask s = senseWrite a w s := by
  unfold specialWrite
  simp only [h]

theorem specialWriteSenseB (h : (a - 0x50000000) / 0x1000 = 11) : specialWrite row c a w mask s = senseWrite a w s := by
  unfold specialWrite
  simp only [h]

theorem specialWriteTsl (h : (a - 0x50000000) / 0x1000 = 12) : specialWrite row c a w mask s = tslWrite c a w s := by
  unfold specialWrite
  simp only [h]

theorem specialWriteChn (h : (a - 0x50000000) / 0x1000 = 13) : specialWrite row c a w mask s = chnWrite c a w s := by
  unfold specialWrite
  simp only [h]

theorem specialWriteSer (h : (a - 0x50000000) / 0x1000 = 14) : specialWrite row c a w mask s = serWrite c a w s := by
  unfold specialWrite
  simp only [h]

theorem specialWriteLcs (h : (a - 0x50000000) / 0x1000 = 15) : specialWrite row c a w mask s = lcsWrite c a w s := by
  unfold specialWrite
  simp only [h]

theorem specialReadSem (h : (a - 0x50000000) / 0x1000 = 5) : specialRead c a s = semRead c a s := by
  unfold specialRead
  simp only [h]

theorem specialReadPool (h : (a - 0x50000000) / 0x1000 = 6) : specialRead c a s = poolRead c a s := by
  unfold specialRead
  simp only [h]

theorem specialReadPwm (h : (a - 0x50000000) / 0x1000 = 8) : specialRead c a s = (pwmRead a s).map (·, s) := by
  unfold specialRead
  simp only [h]

theorem specialReadSense (h : (a - 0x50000000) / 0x1000 = 10) : specialRead c a s = senseRead a s := by
  unfold specialRead
  simp only [h]

theorem specialReadChn (h : (a - 0x50000000) / 0x1000 = 13) : specialRead c a s = chnRead a s := by
  unfold specialRead
  simp only [h]

theorem specialReadSer (h : (a - 0x50000000) / 0x1000 = 14) : specialRead c a s = serRead a s := by
  unfold specialRead
  simp only [h]

end

end Sys2Proof.Machine
end

section
/-!
PROOFS. The grant queue, reclaim, inheritance hops and ledgers (R264, R265, R267, R286), pad switches and GPIO (R490 to R492).
-/
namespace Sys2Proof.Machine

/-- Nobody waits and nothing is held: a reclaim changes nothing. -/
theorem semReclaimParty_of_none {p : Party} {s : State} (hw : semWaited p s = none) (hh : semsHeld p s = []) :
    semReclaimParty false p s = s := by
  unfold semReclaimParty
  rw [hw]
  dsimp only
  rw [hh]
  rfl

theorem reclaimCid_of_local {c : Nat} {s : State} (hw : remoteWait c s = none) (hh : ∀ e ∈ s.share.rholds, e.1 ≠ c) :
    reclaimCid c s = semReclaimParty false ⟨c, 0, 0⟩ (hopsAll s) := by
  have hnone : s.share.rholds.filter (fun e => e.1 == c) = [] := List.filter_eq_nil_iff.mpr fun e he => by simpa using hh e he
  unfold reclaimCid
  rw [hw]
  dsimp only
  rw [hnone]
  rfl

theorem semWrite_reclaim {a : Nat} (h : a - 0x50005000 = 0xC08) (c : Nat) (w : Word) (s : State) : semWrite c a w s =
    if isOne c then some (.ok 0#64, reclaimCid (fieldOf 0 6 w) s) else some (.refused .deny, s) := by
  simp [semWrite, h]

theorem semRead_grant {a : Nat} (h : a - 0x50005000 = 0xC00) (c : Nat) (s : State) : semRead c a s = some (grantRead s) := by
  simp [semRead, h]

theorem grantRead_cons {g : Grant} {gs : List Grant} {s : State} (h : s.share.grants = g :: gs) : grantRead s =
    (BitVec.ofNat 32 (g.sem + 256 * g.cid + 16384 * g.unit + 0x1000000 * g.res + 0x40000000 * min 1 gs.length + 0x80000000),
      { s with share := { s.share with grants := gs } }) := by
  unfold grantRead
  rw [h]

/-- Settles O32: the reclaim, the grant queue, the hop and the ledger, each by the cases of its rule. -/
theorem grantsReclaimAndLedgers : Obligations.GrantsReclaimAndLedgers := by
  unfold Obligations.GrantsReclaimAndLedgers
  refine ⟨?_, fun p s => semReclaimParty_of_none, ?_, ?_, ?_, ?_, ?_, ?_⟩
  · intro cid target s ha
    have hrow : (regRow? R.SEM_RECLAIM.addr).isSome = true := by decide +kernel
    refine ⟨fun hc hw hh => ?_, fun hc => ?_⟩
    · have hs : ∀ row, specialWrite row cid.toNat R.SEM_RECLAIM.addr (target.setWidth 32) 15 s.begin =
          some (.ok 0#64, reclaimCid target.toNat s.begin) := fun row => by
        rw [hc]
        have htarget : fieldOf 0 6 (target.setWidth 32) = target.toNat := by
          unfold fieldOf
          simp
          omega
        rw [specialWriteSem (by decide), semWrite_reclaim (by decide), htarget]
        exact if_pos rfl
      have hx := write_takes ha hrow (by decide) hs
      exact hx.trans (congrArg (fun u => Host.Outcome.next (settle u)) (reclaimCid_of_local (s := s.begin) hw hh))
    · refine write_denied ha hrow (by decide) fun row => ?_
      rw [specialWriteSem (by decide), semWrite_reclaim (by decide)]
      exact if_neg (by simpa [isOne] using hc)
  · intro cid s ha hg
    refine (read_takes ha (by decide +kernel) (by decide) (r := (0#32, s.begin)) ?_)
    rw [specialReadSem (by decide), semRead_grant (by decide)]
    unfold grantRead
    rw [show s.begin.share.grants = [] from hg]
  · intro cid g gs s ha hg
    have hr : specialRead cid.toNat R.SEM_GRANT.addr s.begin = some (BitVec.ofNat 32
        (g.sem + 256 * g.cid + 16384 * g.unit + 0x1000000 * g.res + 0x40000000 * min 1 gs.length + 0x80000000),
        { s.begin with share := { s.share with grants := gs } }) := by
      rw [specialReadSem (by decide), semRead_grant (by decide)]
      exact congrArg some (grantRead_cons (s := s.begin) hg)
    have hx := read_takes ha (by decide +kernel) (by decide) hr
    rw [BitVec.toNat_ofNat] at hx
    exact hx
  · intro g h s hf
    refine congrArg Host.Outcome.next (?_ : nextHop g.val s.begin = _)
    unfold nextHop
    rw [show s.begin.share.hops.find? (fun h => h.1 / 16 == g.val) = some h from hf]
    rfl
  · intro g s hf
    refine congrArg Host.Outcome.next (?_ : nextHop g.val s.begin = _)
    have hnone : s.begin.share.hops.find? (fun h => h.1 / 16 == g.val) = none :=
      List.find?_eq_none.mpr fun h hh => by simpa using hf h hh
    unfold nextHop
    rw [hnone]
  · intro which index e s hf hdue hoff u
    refine congrArg Host.Outcome.next (?_ : ledgerFail which index s.begin = _)
    unfold ledgerFail
    rw [show s.begin.share.ledgers.find? (fun e => e.1 == which && e.2.1 == index) = some e from hf]
    have hoff' : ledgerOff which index s.begin = true := hoff
    have hdue' : ¬ s.begin.tb.cnt.get 10 < e.2.2 + 1600 := Nat.not_lt.mpr hdue
    dsimp only
    rw [if_neg (by rw [hoff']; simpa using hdue')]
    rfl
  · intro which index s hnot
    refine congrArg Host.Outcome.next (?_ : ledgerFail which index s.begin = _)
    unfold ledgerFail
    cases hf : s.begin.share.ledgers.find? (fun e => e.1 == which && e.2.1 == index) with
    | none => rfl
    | some e =>
      have hp := List.find?_some hf
      simp only [Bool.and_eq_true, beq_iff_eq] at hp
      have hcase := hnot e (List.mem_of_find?_eq_some hf) hp.1 hp.2
      have hoff' : ledgerOff which index s.begin = ledgerOff which index s := rfl
      dsimp only
      rw [if_pos (by rw [hoff']; simpa using hcase)]

/-! Pads (R488 to R492). -/

theorem pinWrite_switch {a : Nat} (h : a = 0x50007300) (c : Nat) (w : Word) (s : State) : pinWrite c a w s =
    if isOne c then some (.ok 0#64, switchRequest w s) else some (.refused .deny, s) := by
  subst h
  cases hc : isOne c <;> simp [pinWrite, hc]

theorem pinWrite_gpset {a : Nat} (k : Fin 4) (h : a = 0x5000720C + 0x20 * k) (c : Nat) (w : Word) (s : State) : pinWrite c a w s =
    some (.ok 0#64, s.setWord (R.PIN_GPOUT k) (s.word (R.PIN_GPOUT k) ||| (if k = 3 then w &&& 7#32 else w))) := by
  subst h
  have h32 : w &&& 0xFFFFFFFF#32 = w := BitVec.and_allOnes (x := w)
  fin_cases k <;> simp [pinWrite, h32]

theorem pinWrite_gpclr {a : Nat} (k : Fin 4) (h : a = 0x50007210 + 0x20 * k) (c : Nat) (w : Word) (s : State) : pinWrite c a w s =
    some (.ok 0#64, s.setWord (R.PIN_GPOUT k) (s.word (R.PIN_GPOUT k) &&& ~~~w)) := by
  subst h
  fin_cases k <;> simp [pinWrite]

/-- The fields a switch request names. -/
theorem switchRequest_fields (w : Word) : fieldOf 0 7 w = w.toNat % 128 ∧ fieldOf 8 2 w = w.toNat / 256 % 4 := by
  unfold fieldOf
  omega

/-- PIN_SWSTAT is no pad's PIN_CFG. -/
theorem swstat_ne_cfg (i : Nat) (hi : i < 128) : (F.PIN_CFG_FUNC i).reg.addr ≠ R.PIN_SWSTAT.addr := by
  simp only [F.PIN_CFG_FUNC, R.PIN_CFG, R.PIN_SWSTAT]
  omega

/-- A switch request that R490 refuses. -/
theorem switchRequest_of_error {w : Word} {s : State} {i f : Nat} (hi : fieldOf 0 7 w = i) (hf : fieldOf 8 2 w = f)
    (h : switchError i f s ≠ 0) : switchRequest w s =
      (((s.set F.PIN_SWSTAT_PAD i).set F.PIN_SWSTAT_ERR (switchError i f s)).set F.PIN_SWSTAT_DONE 1) := by
  unfold switchRequest
  dsimp only
  rw [hi, hf, if_pos h]

/-- A switch to the function already in force. -/
theorem switchRequest_of_same {w : Word} {s : State} {i f : Nat} (hi : fieldOf 0 7 w = i) (hf : fieldOf 8 2 w = f)
    (h : switchError i f s = 0) (hsame : s.get (F.PIN_CFG_FUNC i) = f) : switchRequest w s =
      (((s.set F.PIN_SWSTAT_PAD i).set F.PIN_SWSTAT_ERR 0).set F.PIN_SWSTAT_DONE 1) := by
  have hlt : i < 128 := hi ▸ Nat.mod_lt _ (by decide)
  have hkeep : ((s.set F.PIN_SWSTAT_PAD i).set F.PIN_SWSTAT_ERR 0).get (F.PIN_CFG_FUNC i) = s.get (F.PIN_CFG_FUNC i) := by
    rw [State.get_set_other _ (swstat_ne_cfg i hlt), State.get_set_other _ (swstat_ne_cfg i hlt)]
  unfold switchRequest
  dsimp only
  rw [hi, hf, if_neg (not_not.mpr h), hkeep, if_pos hsame]

/-- An accepted switch releases the pad. -/
theorem switchRequest_of_other {w : Word} {s : State} {i f : Nat} (hi : fieldOf 0 7 w = i) (hf : fieldOf 8 2 w = f)
    (h : switchError i f s = 0) (hother : s.get (F.PIN_CFG_FUNC i) ≠ f) : switchRequest w s =
      let v := (((s.set F.PIN_SWSTAT_PAD i).set F.PIN_SWSTAT_ERR 0).set F.PIN_SWSTAT_DONE 0).set F.PIN_SWSTAT_BUSY 1
      padRelease i { v with pins := { v.pins with target := some (i, f), swAt := s.now } } := by
  have hlt : i < 128 := hi ▸ Nat.mod_lt _ (by decide)
  have hkeep : ((s.set F.PIN_SWSTAT_PAD i).set F.PIN_SWSTAT_ERR 0).get (F.PIN_CFG_FUNC i) = s.get (F.PIN_CFG_FUNC i) := by
    rw [State.get_set_other _ (swstat_ne_cfg i hlt), State.get_set_other _ (swstat_ne_cfg i hlt)]
  unfold switchRequest
  dsimp only
  rw [hi, hf, if_neg (not_not.mpr h), hkeep, if_neg hother]
  rfl

/-- What R490 asks of an accepted switch. -/
theorem switchError_eq_zero {i f : Nat} {s : State} (h : switchError i f s = 0) :
    i ≤ 98 ∧ s.on (F.PIN_CFG_SWITCHABLE i) = true ∧ padOffers i f = true ∧ s.on F.PIN_SWSTAT_BUSY = false ∧ padTaken i f s = false ∧
      ¬(i < 32 ∧ s.get (F.PIN_CFG_FUNC i) = 1 ∧ legState (i / 2) s ≠ 0) := by
  unfold switchError at h
  split_ifs at h with h1 h2 h3 h4 h5 h6
  exact ⟨by omega, by simpa using h2, by simpa using h3, by simpa using h4, by simpa using h6, h5⟩

/-- Settles O54: the request by the cases of R490, the take, and the GPIO writes. -/
theorem pins : Obligations.Pins := by
  unfold Obligations.Pins
  refine ⟨?_, fun i f s => switchError_eq_zero, ?_, ?_, ?_⟩
  · intro cid w s ha i f u ends
    have hrow : (regRow? R.PIN_SWREQ.addr).isSome = true := by decide +kernel
    obtain ⟨hi, hf⟩ := switchRequest_fields w
    have hone : ∀ {v : State}, cid = 1 → switchRequest w s.begin = v → ends v := fun hc hv => by
      subst hv
      refine write_takes ha hrow (by decide) (d := 0#64) fun row => ?_
      rw [specialWritePin (by decide), pinWrite_switch (a := R.PIN_SWREQ.addr) rfl, hc]
      rfl
    refine ⟨fun hc => ?_, fun hc he => hone hc ?_, fun hc he hsame => hone hc ?_, fun hc he hother => hone hc ?_⟩
    · refine write_denied ha hrow (by decide) fun row => ?_
      rw [specialWritePin (by decide), pinWrite_switch (a := R.PIN_SWREQ.addr) rfl, if_neg]
      simpa [isOne, BitVec.toNat_eq] using hc
    · exact switchRequest_of_error hi hf he
    · exact switchRequest_of_same hi hf he hsame
    · exact switchRequest_of_other hi hf he hother
  · intro i f s ht u v acts
    have hrun : ∀ {x : State}, switchTake s.begin = x → exec .pinSwitchTake s = .next x := fun h =>
      congrArg Host.Outcome.next h
    have htake : switchTake s.begin = if s.now < s.pins.swAt + 20 then s.begin else if acts then faultInput (i - 80) v else v := by
      unfold switchTake
      rw [show s.begin.pins.target = some (i, f) from ht]
      rfl
    refine ⟨fun hdue hacts => hrun ?_, fun hdue hacts => hrun ?_, fun hearly => hrun ?_⟩
    · rw [htake, if_neg (Nat.not_lt.mpr hdue), if_pos hacts]
    · rw [htake, if_neg (Nat.not_lt.mpr hdue), if_neg hacts]
    · rw [htake, if_pos hearly]
  · intro s ht
    refine congrArg Host.Outcome.next (?_ : switchTake s.begin = s.begin)
    unfold switchTake
    rw [show s.begin.pins.target = none from ht]
  · intro cid k w s m old
    refine ⟨fun ha => ?_, fun ha => ?_⟩
    · have hrow : ∀ k : Fin 4, (regRow? (R.PIN_GPSET k).addr).isSome = true ∧
          (0x50000000 ≤ (R.PIN_GPSET k).addr ∧ (R.PIN_GPSET k).addr < 0x50010000) ∧
          ((R.PIN_GPSET k).addr - 0x50000000) / 0x1000 = 7 ∧ (R.PIN_GPSET k).addr = 0x5000720C + 0x20 * k := by decide +kernel
      obtain ⟨hr, hrange, hblock, haddr⟩ := hrow k
      refine write_takes ha hr hrange (d := 0#64) fun row => ?_
      rw [specialWritePin hblock, pinWrite_gpset k haddr]
      rfl
    · have hrow : ∀ k : Fin 4, (regRow? (R.PIN_GPCLR k).addr).isSome = true ∧
          (0x50000000 ≤ (R.PIN_GPCLR k).addr ∧ (R.PIN_GPCLR k).addr < 0x50010000) ∧
          ((R.PIN_GPCLR k).addr - 0x50000000) / 0x1000 = 7 ∧ (R.PIN_GPCLR k).addr = 0x50007210 + 0x20 * k := by decide +kernel
      obtain ⟨hr, hrange, hblock, haddr⟩ := hrow k
      refine write_takes ha hr hrange (d := 0#64) fun row => ?_
      rw [specialWritePin hblock, pinWrite_gpclr k haddr]
      rfl

end Sys2Proof.Machine
end

section
/-!
PROOFS. What each kind of reset clears and keeps (R40 to R43, R77, R471, R511).
-/
namespace Sys2Proof.Machine

/-- `t` is `s` but for the registers at the addresses of `l` and the word of the identity page that shows STATE. -/
def WritesOnly (l : List Nat) (s t : State) : Prop :=
  (∃ regs mem, t = { s with regs := regs, mem := mem }) ∧ (∀ r : Reg, r.addr ∉ l → t.word r = s.word r) ∧
    ∀ a, a < 0x40007F10 ∨ 0x40007F14 ≤ a → memByte t.mem a = memByte s.mem a

namespace WritesOnly

variable {l m : List Nat} {s t u : State}

theorem refl (l : List Nat) (s : State) : WritesOnly l s s := ⟨⟨s.regs, s.mem, rfl⟩, fun _ _ => rfl, fun _ _ => rfl⟩

theorem trans (h : WritesOnly l s t) (k : WritesOnly m t u) : WritesOnly (l ++ m) s u := by
  obtain ⟨⟨r1, m1, rfl⟩, hw1, hm1⟩ := h
  obtain ⟨⟨r2, m2, rfl⟩, hw2, hm2⟩ := k
  refine ⟨⟨r2, m2, rfl⟩, fun r hr => ?_, fun a ha => (hm2 a ha).trans (hm1 a ha)⟩
  rw [List.mem_append, not_or] at hr
  exact (hw2 r hr.2).trans (hw1 r hr.1)

theorem mono (h : WritesOnly l s t) (hl : ∀ a ∈ l, a ∈ m) : WritesOnly m s t := by
  obtain ⟨hs, hw, hm⟩ := h
  exact ⟨hs, fun r hr => hw r fun ha => hr (hl _ ha), hm⟩

theorem setWord (r : Reg) (w : Word) (s : State) : WritesOnly [r.addr] s (s.setWord r w) :=
  ⟨⟨_, s.mem, rfl⟩, fun _ hq => s.word_setWord_other w (by simpa using hq), fun _ _ => rfl⟩

theorem set (f : Fld) (v : Nat) (s : State) : WritesOnly [f.reg.addr] s (s.set f v) := setWord f.reg _ s

theorem get (h : WritesOnly l s t) {f : Fld} (hf : f.reg.addr ∉ l) : t.get f = s.get f := by
  obtain ⟨-, hw, -⟩ := h
  rw [State.get, State.get, hw f.reg hf]

theorem forEach (n : Nat) {f : Nat → State → State} (hf : ∀ i < n, ∀ s, WritesOnly l s (f i s)) (s : State) :
    WritesOnly l s (Machine.forEach n f s) := by
  unfold Machine.forEach
  have key : ∀ (is : List Nat), (∀ i ∈ is, i < n) → ∀ s, WritesOnly l s (is.foldl (fun a i => f i a) s) := by
    intro is
    induction is with
    | nil => exact fun _ s => refl l s
    | cons i is ih =>
      intro hi s
      have h1 := hf i (hi i List.mem_cons_self) s
      have h2 := ih (fun j hj => hi j (List.mem_cons_of_mem _ hj)) (f i s)
      exact (h1.trans h2).mono fun a ha => by simpa using ha
  exact key _ (fun i hi => List.mem_range.mp hi) s

end WritesOnly

/-! The stages of a reset (R40, R42, R77). -/

/-- The causes and the straps. -/
def resetCause (k : Nat) (s : State) : State :=
  (((resetCore k s).set F.SYS_RSTCAUSE_LAST (2 ^ k)).set F.SYS_RSTCAUSE_HIST
    (if k = 0 then 0 else s.get F.SYS_RSTCAUSE_HIST ||| 2 ^ k)).setWord R.SYS_STRAP 2#32

/-- The counts since POR, the cause of a WDR, and TRYB. -/
def resetCounts (k : Nat) (s t : State) : State :=
  let t := if 1 ≤ k then (t.setWord R.TB_LOSTCNT (s.word R.TB_LOSTCNT)).set F.MEM_SECSTAT_WIPECNT (s.get F.MEM_SECSTAT_WIPECNT) else t
  let t := if 2 ≤ k then t.setWord R.LCS_WDRCAUSE (s.word R.LCS_WDRCAUSE) else t
  if 3 ≤ k then t.set F.SYS_BOOTCTL_TRYB (s.get F.SYS_BOOTCTL_TRYB) else t

/-- The life cycle as the fuses hold it, and the identity page. -/
def resetLife (t : State) : State := pageState (fuseRegs (t.set F.LCS_STATE_STATE (decodeLcs t.lcs.fuses)))

/-- The chain address that WDR and SOFT keep. -/
def resetAddr (k : Nat) (s t : State) : State :=
  if 2 ≤ k ∧ ownAddr s ≠ 0 then
    setUpmap (mapOf 1 (s.get F.CHN_ADDR_ADDR - 1)) ((t.set F.CHN_ADDR_ADDR (s.get F.CHN_ADDR_ADDR)).set F.CHN_ADDR_VALID 1)
  else t

theorem resetTo_eq (k : Nat) (s : State) : resetTo k s = resetAddr k s (resetLife (resetCounts k s (resetCause k s))) := rfl

theorem writes_arrayPut {a : Nat} (ha : a = 0x40007F10) (w : Word) (s : State) :
    WritesOnly [F.MEM_INJCTL_ARM.reg.addr] s (arrayPut a w s) := by
  subst ha
  have hbyte : ∀ (m : Memory) (w : Word) (c : BitVec 7) (a : Nat), a < 0x40007F10 ∨ 0x40007F14 ≤ a →
      memByte (setMemWord m 0x40007F10 w c) a = memByte m a := fun m w c a ha => by
    have hs : ∀ (m : Memory) (l : List (Nat × BitVec 7)) (i : Nat), memByte { m with synd := l } i = memByte m i := fun _ _ _ => rfl
    unfold setMemWord
    simp only [hs]
    rw [memByte_set_other _ _ (by omega), memByte_set_other _ _ (by omega), memByte_set_other _ _ (by omega),
      memByte_set_other _ _ (by omega)]
  unfold arrayPut
  dsimp only
  split
  · have h1 : ∀ (w : Word) (c : BitVec 7), WritesOnly [] s { s with mem := setMemWord s.mem 0x40007F10 w c } := fun w c =>
      ⟨⟨s.regs, _, rfl⟩, fun _ _ => rfl, fun a ha => hbyte s.mem w c a ha⟩
    exact (h1 _ _).trans (WritesOnly.set ..)
  · exact ⟨⟨s.regs, _, rfl⟩, fun _ _ => rfl, fun a ha => hbyte s.mem w 0#7 a ha⟩

theorem writes_pageState (s : State) : WritesOnly [F.MEM_INJCTL_ARM.reg.addr] s (pageState s) := by
  unfold pageState windowPut
  split
  · exact WritesOnly.refl ..
  · exact writes_arrayPut (by decide) ..

/-- The registers that show the fuses. -/
def fuseAddrs : List Nat :=
  [R.LCS_STATE.addr, R.SYS_VERS.addr] ++ (List.range 4).flatMap fun k => (List.range 8).map fun i => (R.LCS_KEYHASH k i).addr

theorem writes_fuseRegs (s : State) : WritesOnly fuseAddrs s (fuseRegs s) := by
  have hone : ∀ (f : Fld) (v : Nat) (s : State), f.reg.addr ∈ fuseAddrs → WritesOnly fuseAddrs s (s.set f v) := fun f v s hf =>
    (WritesOnly.set f v s).mono fun a ha => by rw [List.mem_singleton.mp ha]; exact hf
  have htwice : ∀ {s t u : State}, WritesOnly fuseAddrs s t → WritesOnly fuseAddrs t u → WritesOnly fuseAddrs s u := fun h k =>
    (h.trans k).mono fun a ha => by simpa using ha
  unfold fuseRegs
  dsimp only
  refine htwice ?_ (WritesOnly.forEach 4 (fun k hk s => WritesOnly.forEach 8 (fun i hi s => hone _ _ _ ?_) s) _)
  · refine htwice ?_ (hone _ _ _ (by decide))
    refine htwice ?_ (hone _ _ _ (by decide))
    refine htwice ?_ (hone _ _ _ (by decide))
    refine htwice ?_ (hone _ _ _ (by decide))
    exact hone _ _ _ (by decide)
  · exact List.mem_append_right _ (List.mem_flatMap.mpr ⟨k, List.mem_range.mpr hk, List.mem_map.mpr ⟨i, List.mem_range.mpr hi, rfl⟩⟩)

theorem writes_resetCause (k : Nat) (s : State) : WritesOnly [R.SYS_RSTCAUSE.addr, R.SYS_STRAP.addr] (resetCore k s) (resetCause k s) := by
  unfold resetCause
  exact (((WritesOnly.set ..).trans (WritesOnly.set ..)).trans (WritesOnly.setWord ..)).mono (by decide)

theorem writes_resetCounts (k : Nat) (s t : State) :
    WritesOnly [R.TB_LOSTCNT.addr, R.MEM_SECSTAT.addr, R.LCS_WDRCAUSE.addr, R.SYS_BOOTCTL.addr] t (resetCounts k s t) := by
  unfold resetCounts
  have hif : ∀ (c : Prop) [Decidable c] {l : List Nat} {t u : State}, WritesOnly l t u → WritesOnly l t (if c then u else t) :=
    fun c _ l t u h => by
      split
      · exact h
      · exact WritesOnly.refl ..
  exact (((hif _ ((WritesOnly.setWord ..).trans (WritesOnly.set ..))).trans (hif _ (WritesOnly.setWord ..))).trans
    (hif _ (WritesOnly.set ..))).mono (by decide)

theorem writes_resetLife (t : State) : WritesOnly (F.MEM_INJCTL_ARM.reg.addr :: fuseAddrs) t (resetLife t) := by
  unfold resetLife
  exact (((WritesOnly.set ..).trans (writes_fuseRegs _)).trans (writes_pageState _)).mono (by decide)

theorem writes_resetAddr (k : Nat) (s t : State) :
    WritesOnly [R.CHN_ADDR.addr, R.CHN_UPMAPLO.addr, R.CHN_UPMAPHI.addr] t (resetAddr k s t) := by
  unfold resetAddr setUpmap State.setMap64
  split
  · exact (((WritesOnly.set ..).trans (WritesOnly.set ..)).trans ((WritesOnly.setWord ..).trans (WritesOnly.setWord ..))).mono
      (by decide)
  · exact WritesOnly.refl ..

/-- All that a reset writes over what `resetCore` leaves. -/
def resetAddrs : List Nat :=
  [R.SYS_RSTCAUSE.addr, R.SYS_STRAP.addr] ++ [R.TB_LOSTCNT.addr, R.MEM_SECSTAT.addr, R.LCS_WDRCAUSE.addr, R.SYS_BOOTCTL.addr] ++
    (F.MEM_INJCTL_ARM.reg.addr :: fuseAddrs) ++ [R.CHN_ADDR.addr, R.CHN_UPMAPLO.addr, R.CHN_UPMAPHI.addr]

theorem writes_resetTo (k : Nat) (s : State) : WritesOnly resetAddrs (resetCore k s) (resetTo k s) := by
  rw [resetTo_eq]
  exact (((writes_resetCause k s).trans (writes_resetCounts ..)).trans (writes_resetLife _)).trans (writes_resetAddr ..)

/-- What the later stages of a reset write. -/
theorem writes_afterCounts (k : Nat) (s : State) : WritesOnly ((F.MEM_INJCTL_ARM.reg.addr :: fuseAddrs) ++
    [R.CHN_ADDR.addr, R.CHN_UPMAPLO.addr, R.CHN_UPMAPHI.addr]) (resetCounts k s (resetCause k s)) (resetTo k s) := by
  rw [resetTo_eq]
  exact (writes_resetLife _).trans (writes_resetAddr ..)

theorem get_resetTo_cause {f : Fld} (hf : f.reg = R.SYS_RSTCAUSE) (k : Nat) (s : State) :
    (resetTo k s).get f = (resetCause k s).get f := by
  rw [(writes_afterCounts k s).get (by rw [hf]; decide), (writes_resetCounts k s _).get (by rw [hf]; decide)]

theorem rstcause_last {k : Nat} (hk : k ≤ 4) (s : State) : (resetTo k s).get F.SYS_RSTCAUSE_LAST = 2 ^ k := by
  rw [get_resetTo_cause rfl, resetCause, (WritesOnly.setWord ..).get (by decide), State.get_set_apart _ (by decide),
    State.get_set_same _ (by decide)]
  exact Nat.mod_eq_of_lt (Nat.pow_lt_pow_right (by decide) (show k < 5 by omega))

theorem rstcause_hist {k : Nat} (hk : k ≤ 4) (s : State) :
    (resetTo k s).get F.SYS_RSTCAUSE_HIST = if k = 0 then 0 else s.get F.SYS_RSTCAUSE_HIST ||| 2 ^ k := by
  rw [get_resetTo_cause rfl, resetCause, (WritesOnly.setWord ..).get (by decide), State.get_set_same _ (by decide)]
  refine Nat.mod_eq_of_lt ?_
  split
  · decide
  · exact Nat.or_lt_two_pow (State.get_lt ..) (Nat.pow_lt_pow_right (by decide) (show k < 5 by omega))

/-- The counts since POR, over a state that the later stages leave alone there. -/
theorem resetCounts_kept {k : Nat} (s t : State) :
    (1 ≤ k → (resetCounts k s t).word R.TB_LOSTCNT = s.word R.TB_LOSTCNT ∧
      (resetCounts k s t).get F.MEM_SECSTAT_WIPECNT = s.get F.MEM_SECSTAT_WIPECNT) ∧
    (2 ≤ k → (resetCounts k s t).word R.LCS_WDRCAUSE = s.word R.LCS_WDRCAUSE) ∧
    (3 ≤ k → (resetCounts k s t).get F.SYS_BOOTCTL_TRYB = s.get F.SYS_BOOTCTL_TRYB) := by
  have hlt : ∀ f : Fld, s.get f % 2 ^ f.wid = s.get f := fun f => Nat.mod_eq_of_lt (s.get_lt f)
  unfold resetCounts
  dsimp only
  refine ⟨fun h1 => ?_, fun h2 => ?_, fun h3 => ?_⟩
  · rw [if_pos h1]
    have hx : ∀ (c : Prop) [Decidable c] (u v : State) (r : Reg), v.word r = u.word r → (if c then v else u).word r = u.word r :=
      fun c _ u v r h => by split <;> simp [h]
    have hget : ∀ {u v : State} {f : Fld}, v.word f.reg = u.word f.reg → v.get f = u.get f := fun h => by rw [State.get, State.get, h]
    refine ⟨?_, (hget ((hx _ _ _ _ ?_).trans (hx _ _ _ _ ?_))).trans ?_⟩
    · rw [hx _ _ _ _ (State.word_set_other _ (by decide) _), hx _ _ _ _ (State.word_setWord_other _ _ (by decide)),
        State.word_set_other _ (by decide), State.word_setWord_same]
    · exact State.word_set_other _ (by decide) _
    · exact State.word_setWord_other _ _ (by decide)
    · rw [State.get_set_same _ (by decide), hlt]
  · rw [if_pos h2]
    split
    · rw [State.word_set_other _ (by decide), State.word_setWord_same]
    · rw [State.word_setWord_same]
  · rw [if_pos h3, State.get_set_same _ (by decide), hlt]

theorem chainAddr_kept {k : Nat} {s : State} (hk : 2 ≤ k) (ha : ownAddr s ≠ 0) :
    (resetTo k s).get F.CHN_ADDR_ADDR = s.get F.CHN_ADDR_ADDR ∧ (resetTo k s).on F.CHN_ADDR_VALID = true := by
  rw [resetTo_eq, resetAddr, if_pos ⟨hk, ha⟩, setUpmap, State.setMap64]
  have hkeep : ∀ (f : Fld) (a b : Word) (u : State), f.reg = R.CHN_ADDR →
      ((u.setWord R.CHN_UPMAPLO a).setWord R.CHN_UPMAPHI b).get f = u.get f := fun f a b u hf => by
    rw [(WritesOnly.setWord ..).get (by rw [hf]; decide), (WritesOnly.setWord ..).get (by rw [hf]; decide)]
  refine ⟨?_, ?_⟩
  · rw [hkeep _ _ _ _ rfl, State.get_set_apart _ (by decide), State.get_set_same _ (by decide)]
    exact Nat.mod_eq_of_lt (State.get_lt ..)
  · rw [State.on, hkeep _ _ _ _ rfl, State.get_set_same _ (by decide)]
    rfl

/-- Over what `resetCore` leaves, every register shows its reset value. -/
theorem get_resetCore (k : Nat) (s : State) (f : Fld) : (resetCore k s).get f = fieldOf f.lo f.wid f.reg.rst := rfl

theorem chainAddr_dropped {k : Nat} {s : State} (hk : k < 2) : (resetTo k s).on F.CHN_ADDR_VALID = false := by
  rw [resetTo_eq, resetAddr, if_neg (by omega), State.on, (writes_resetLife _).get (by decide), (writes_resetCounts ..).get (by decide),
    (writes_resetCause ..).get (by decide), get_resetCore]
  decide

/-- With nothing queued, the fuses keep. -/
theorem fusesAfter_of_nil {s : State} (h : s.lcs.queue = []) (lost : Bool) : fusesAfter lost s = (s.lcs.fuses, s) := by
  unfold fusesAfter
  rw [h]

/-- SYS_SOFTRST (R42). -/
theorem sysWrite_softrst {a : Nat} (h : a - 0x50000000 = 0x54) (row : RegRow) (c : Nat) (w : Word) (s : State) : sysWrite row c a w s =
    some (.ok 0#64, if isOne c ∧ fieldOf 0 16 w = 0xA55A then softReset false s else s.set F.SYS_BOOTCTL_KEYERR 1) := by
  simp [sysWrite, h]

/-- Settles O6: the reset by its stages, and the commands that reset. -/
theorem resets : Obligations.Resets := by
  unfold Obligations.Resets
  refine ⟨fun k s hk => ?_, fun s => rfl, fun ns s h => ?_, fun ns s h => ?_, fun s h => ?_, fun s h => ?_, fun v s ha hv => ?_,
    fun cid v s ha hv => ?_⟩
  · intro t
    obtain ⟨⟨regs, mem, ht⟩, hword, hbyte⟩ := writes_resetTo k s
    obtain ⟨hcounts, hcause, htry⟩ := resetCounts_kept (k := k) s (resetCause k s)
    have hlate := writes_afterCounts k s
    have hget : ∀ {f : Fld}, f.reg.addr ∉ resetAddrs → t.get f = (resetCore k s).get f := (writes_resetTo k s).get
    have htb : t.tb = (resetCore k s).tb := by rw [show t = _ from ht]
    have hlcs : t.lcs = (resetCore k s).lcs := by rw [show t = _ from ht]
    refine ⟨rstcause_last hk s, rstcause_hist hk s, (hget (f := F.SYS_BOOTSTAT_STATE) (by decide)).trans (by rw [get_resetCore]; decide), ?_, ?_, ?_, ?_, ?_, ?_, fun a ha => ?_, fun h2 => ?_, fun h1 => ?_,
      fun h2 => ?_, fun h2 ha => chainAddr_kept h2 ha, fun h2 => chainAddr_dropped h2, fun h3 => ?_, fun h1 hq => ?_⟩
    · rw [show t = _ from ht]; rfl
    · rw [show t = _ from ht]; rfl
    · rw [show t = _ from ht]; rfl
    · rw [show t = _ from ht]; rfl
    · rw [show t = _ from ht]; rfl
    · rw [show t = _ from ht]; rfl
    · exact hbyte a ha
    · rw [htb]
      have : (resetCore k s).tb = { time := s.tb.time, counting := s.tb.counting } := if_pos h2
      rw [this]
      exact ⟨rfl, rfl⟩
    · obtain ⟨hlost, hwipe⟩ := hcounts h1
      exact ⟨(hlate.2.1 _ (by decide)).trans hlost, (hlate.get (by decide)).trans hwipe⟩
    · exact (hlate.2.1 _ (by decide)).trans (hcause h2)
    · refine ⟨(hlate.get (by decide)).trans (htry h3), ?_⟩
      rw [hlcs]
      exact if_pos h3
    · rw [hlcs]
      show (fusesAfter (decide (k = 0)) s).1 = _
      rw [fusesAfter_of_nil hq]
  · refine congrArg Host.Outcome.next ?_
    exact if_pos h
  · refine congrArg Host.Outcome.next ?_
    exact (if_neg (by omega)).trans (if_pos h)
  · refine congrArg Host.Outcome.next ?_
    exact if_pos h
  · refine congrArg Host.Outcome.next ?_
    exact if_neg h
  · refine write_takes (d := 0#64) ha (by decide +kernel) (by decide) fun row => ?_
    rw [specialWriteSys (by decide), sysWrite_softrst (by decide)]
    have hkey : fieldOf 0 16 v = 0xA55A := by
      unfold fieldOf
      rw [Nat.pow_zero, Nat.div_one, hv]
    exact congrArg (fun u => some (Ans.ok 0#64, u)) (if_pos ⟨rfl, hkey⟩)
  · have hset : settle (s.begin.set F.SYS_BOOTCTL_KEYERR 1) = s.begin.set F.SYS_BOOTCTL_KEYERR 1 := settle_of_nil ha.2
    have hx : rowS (fabricWrite cid.toNat R.SYS_SOFTRST.addr v) s = .next (settle (s.begin.set F.SYS_BOOTCTL_KEYERR 1)) := by
      refine write_takes (d := 0#64) ha (by decide +kernel) (by decide) fun row => ?_
      rw [specialWriteSys (by decide), sysWrite_softrst (by decide)]
      refine congrArg (fun u => some (Ans.ok 0#64, u)) (if_neg fun hc => ?_)
      obtain ⟨hone, hkey⟩ := hc
      unfold fieldOf at hkey
      rw [Nat.pow_zero, Nat.div_one] at hkey
      rcases hv with hv | hv
      · exact hv (BitVec.eq_of_toNat_eq (by simpa [isOne] using hone))
      · exact hv hkey
    rw [hset] at hx
    exact hx

end Sys2Proof.Machine
end

section
/-!
PROOFS. Campion arithmetic, address updates, and a bundle of one ALU syllable (R109 to R116, R140 to R158).
-/
namespace Sys2Proof.Machine

/-! Limits (R155). -/

/-- A 32-bit result: the limit where it is clamped, else the value modulo 2^32. -/
theorem aluLimit32 (sat : Bool) (v : Int) : aluLimit 32 sat v =
    let ovf := v < -2147483648 ∨ 2147483647 < v
    (if ovf ∧ sat = true then (if v < 0 then 0x80000000 else 0x7FFFFFFF) else (BitVec.ofInt 32 v).toNat, decide ovf,
      decide (ovf ∧ sat = true)) := by
  have hlo : -(2 : Int) ^ (32 - 1) = -2147483648 := by decide
  have hhi : (2 : Int) ^ (32 - 1) - 1 = 2147483647 := by decide
  unfold aluLimit
  dsimp only
  rw [hlo, hhi]
  by_cases hb : v < -2147483648 ∨ 2147483647 < v
  · cases sat with
    | false => simp [hb]
    | true =>
      simp only [hb, decide_true, Bool.and_self, if_true, and_self]
      by_cases hneg : v < -2147483648
      · rw [if_pos hneg, if_pos (by omega)]
        rfl
      · rw [if_neg hneg, if_neg (by omega)]
        rfl
  · simp [hb]

/-- What an operation with C, V, Z and N writes. -/
theorem aluCvzn_eq (dd : Nat) (sat cy : Bool) (v : Int) (w : Word) (hw : BitVec.ofInt 32 v = w) : aluCvzn dd sat cy v =
    let ovf := v < -2147483648 ∨ 2147483647 < v
    let r : Nat := if ovf ∧ sat = true then (if v < 0 then 0x80000000 else 0x7FFFFFFF) else w.toNat
    { writes := [cput (.d dd) r 1 4, cflags [(srC, cy), (srV, decide ovf), (srZ, decide (r = 0)), (srN, natBit r 31)] 1 4] ++
        (if ovf ∧ sat = true then [cflags [(srSV, true)] 1 4] else []) } := by
  subst hw
  unfold aluCvzn aluOut
  dsimp only
  rw [aluLimit32]
  dsimp only
  congr 2
  simp only [decide_eq_true_eq]

/-- A syllable of the register format (R153). -/
theorem execAlu_of_register {c : CAt} {w : Word} (hz : fieldOf 0 6 w = 0) (ho : fieldOf 22 6 w < 0x20) : execAlu c w =
    execAluR c (fieldOf 22 6 w) (fieldOf 21 1 w == 1) (fieldOf 16 5 w) (fieldOf 11 5 w) (fieldOf 6 5 w) := by
  unfold execAlu
  dsimp only
  rw [if_pos ho, if_neg (not_not.mpr hz)]

theorem execAluR_add (c : CAt) (s : Bool) (dd i j : Nat) : execAluR c 1 s dd i j =
    some (aluCvzn dd s (decide (2 ^ 32 ≤ (c.d i).toNat + (c.d j).toNat)) ((c.d i).toInt + (c.d j).toInt)) := rfl

theorem execAluR_sub (c : CAt) (s : Bool) (dd i j : Nat) : execAluR c 2 s dd i j =
    some (aluCvzn dd s (decide ((c.d j).toNat ≤ (c.d i).toNat)) ((c.d i).toInt - (c.d j).toInt)) := rfl

/-- A complex product of a MAC syllable without S (R149, R150). -/
theorem execMac_product {c : CAt} {slot : Nat} {w : Word} (hz : fieldOf 0 7 w = 0) (hb : fieldOf 8 2 w = 0) (hx : fieldOf 7 1 w = 0)
    (hs : fieldOf 22 1 w = 0) :
    let x := halves (c.d (fieldOf 15 5 w))
    let y := halves (c.d (fieldOf 10 5 w))
    let ca := fieldOf 20 2 w
    let re := x.1 * y.1 - x.2 * y.2
    let im := x.1 * y.2 + x.2 * y.1
    let out := fun (p q : Int) => some { writes := [cput (.re ca) (BitVec.ofInt 40 p).toNat 3 slot,
                                                    cput (.im ca) (BitVec.ofInt 40 q).toNat 3 slot] }
    (fieldOf 23 5 w = 1 → execMac c slot w = out re im) ∧
    (fieldOf 23 5 w = 2 → execMac c slot w = out (c.acc slot false ca + re) (c.acc slot true ca + im)) ∧
    (fieldOf 23 5 w = 3 → execMac c slot w = out (c.acc slot false ca - re) (c.acc slot true ca - im)) := by
  refine ⟨fun ho => ?_, fun ho => ?_, fun ho => ?_⟩ <;>
  · unfold execMac
    rw [hz, hb, hx, hs, ho]
    rfl

/-- A load of two words with post-increment (R143, R144). -/
theorem execLs_postIncrement {c : CAt} {slot : Nat} {w : Word} (ho : fieldOf 24 4 w = 1) (hm : fieldOf 12 3 w = 1) (he : fieldOf 0 12 w = 0) :
    execLs c slot w = some
      { writes := [cput (.a (fieldOf 15 4 w)) (c.a (fieldOf 15 4 w) + 2#16).toNat 1 slot],
        mems := [{ slot := slot, y := slot == 1, write := false, ea := (c.a (fieldOf 15 4 w)).toNat, size := 2,
                   val := (c.d (fieldOf 19 5 w)).toNat % 65536, dest := some (.d (fieldOf 19 5 w)) }] } := by
  unfold execLs
  rw [ho, hm, he]
  rfl

/-! The circular update (R146). -/

/-- The power of two that holds a length of at most 2^14. -/
theorem ceilLog_spec {l : Nat} (h : l ≤ 16384) : l ≤ 2 ^ ceilLog l ∧ ceilLog l ≤ 14 := by
  unfold ceilLog
  cases hf : (List.range 16).find? (fun b => decide (l ≤ 2 ^ b)) with
  | none =>
    have := List.find?_eq_none.mp hf 14 (by decide)
    simp only [decide_eq_true_eq] at this
    omega
  | some b =>
    have hb : l ≤ 2 ^ b := by simpa using List.find?_some hf
    refine ⟨hb, ?_⟩
    by_contra hgt
    have hgt' : 14 < b := Nat.not_le.mp hgt
    have hlt := List.find?_eq_some_iff_getElem.mp hf
    obtain ⟨-, i, hi, hib, hbefore⟩ := hlt
    have hib' : i = b := by simpa using hib
    have h14 := hbefore 14 (by omega)
    simp at h14
    omega

theorem circular_inside (a step len : Half) (h1 : 1 ≤ len.toInt) (h2 : len.toInt ≤ 16384) :
    (circular a step len).2 = false ∧ (circular a step len).1.toNat / 2 ^ ceilLog len.toNat = a.toNat / 2 ^ ceilLog len.toNat ∧
      (circular a step len).1.toNat % 2 ^ ceilLog len.toNat < len.toNat := by
  have hlen : (len.toNat : Int) = len.toInt := by
    rw [BitVec.toInt_eq_toNat_cond] at h1 ⊢
    split at h1 <;> rename_i hc
    · rw [if_pos hc]
    · have := len.isLt
      omega
  obtain ⟨hle, h14⟩ := ceilLog_spec (l := len.toNat) (by omega)
  have hcirc : circular a step len = (BitVec.ofNat 16 (a.toNat / 2 ^ ceilLog len.toNat * 2 ^ ceilLog len.toNat +
      (((a.toNat : Int) - (a.toNat / 2 ^ ceilLog len.toNat * 2 ^ ceilLog len.toNat : Nat) + step.toInt) % len.toInt).toNat), false) := by
    have hto : len.toInt.toNat = len.toNat := by omega
    unfold circular
    dsimp only
    rw [if_neg (by omega), hto]
  have hpos : (0 : Int) < len.toInt := by omega
  have hr0 := Int.emod_nonneg
    ((a.toNat : Int) - (a.toNat / 2 ^ ceilLog len.toNat * 2 ^ ceilLog len.toNat : Nat) + step.toInt) (ne_of_gt hpos)
  have hr1 := Int.emod_lt_of_pos
    ((a.toNat : Int) - (a.toNat / 2 ^ ceilLog len.toNat * 2 ^ ceilLog len.toNat : Nat) + step.toInt) hpos
  generalize ((a.toNat : Int) - (a.toNat / 2 ^ ceilLog len.toNat * 2 ^ ceilLog len.toNat : Nat) + step.toInt) % len.toInt = r
    at hcirc hr0 hr1
  generalize hk : ceilLog len.toNat = k at *
  have hm : r.toNat < 2 ^ k := by omega
  have hbound : a.toNat / 2 ^ k * 2 ^ k + r.toNat < 2 ^ 16 := by
    have hsplit : (2 : Nat) ^ 16 = 2 ^ (16 - k) * 2 ^ k := by rw [← pow_add]; congr 1; omega
    have hq : a.toNat / 2 ^ k < 2 ^ (16 - k) := Nat.div_lt_of_lt_mul (by rw [mul_comm, ← hsplit]; exact a.isLt)
    calc a.toNat / 2 ^ k * 2 ^ k + r.toNat < a.toNat / 2 ^ k * 2 ^ k + 2 ^ k := by omega
      _ = (a.toNat / 2 ^ k + 1) * 2 ^ k := by ring
      _ ≤ 2 ^ (16 - k) * 2 ^ k := Nat.mul_le_mul_right _ hq
      _ = 2 ^ 16 := hsplit.symm
  have hp := Nat.two_pow_pos k
  have hval : (circular a step len).1.toNat = r.toNat + 2 ^ k * (a.toNat / 2 ^ k) := by
    rw [hcirc, BitVec.toNat_ofNat, Nat.mod_eq_of_lt hbound]
    ring
  refine ⟨by rw [hcirc], ?_, ?_⟩
  · rw [hval, Nat.add_mul_div_left _ _ hp, Nat.div_eq_of_lt hm, Nat.zero_add]
  · rw [hval, Nat.add_mul_mod_self_left, Nat.mod_eq_of_lt hm]
    omega

/-- Settles O13: ADD and SUB by `aluCvzn`, the products, and the address updates. -/
theorem campionArithmetic : Obligations.CampionArithmetic := by
  unfold Obligations.CampionArithmetic
  refine ⟨?_, fun c slot w hz hb hx hs => execMac_product hz hb hx hs, fun c slot w ho hm he => execLs_postIncrement ho hm he,
    fun a step len h1 h2 => circular_inside a step len h1 h2⟩
  intro c w hz ho a b add exact ovf sat r carry
  have hsat : (fieldOf 21 1 w == 1) = true ↔ sat := beq_iff_eq
  rcases ho with ho | ho
  · have hadd : add := ho
    have hexact : exact = a.toInt + b.toInt := if_pos hadd
    have hw : BitVec.ofInt 32 exact = a + b := by rw [hexact, BitVec.ofInt_add, BitVec.ofInt_toInt, BitVec.ofInt_toInt]
    have hr : r = if ovf ∧ sat then (if exact < 0 then 0x80000000 else 0x7FFFFFFF) else (a + b).toNat := by
      show (if ovf ∧ sat then _ else (if add then a + b else a - b).toNat) = _
      rw [if_pos hadd]
    have hc : carry = decide (2 ^ 32 ≤ a.toNat + b.toNat) := if_pos hadd
    rw [execAlu_of_register hz (by omega), ho, execAluR_add, ← hexact, aluCvzn_eq _ _ _ _ _ hw, hr, hc]
    simp only [hsat]
    rfl
  · have hadd : ¬ add := by show ¬ fieldOf 22 6 w = 1; omega
    have hexact : exact = a.toInt - b.toInt := if_neg hadd
    have hw : BitVec.ofInt 32 exact = a - b := by rw [hexact, Int.sub_eq_add_neg, BitVec.ofInt_add, BitVec.ofInt_neg, BitVec.ofInt_toInt, BitVec.ofInt_toInt, BitVec.sub_eq_add_neg]
    have hr : r = if ovf ∧ sat then (if exact < 0 then 0x80000000 else 0x7FFFFFFF) else (a - b).toNat := by
      show (if ovf ∧ sat then _ else (if add then a + b else a - b).toNat) = _
      rw [if_neg hadd]
    have hc : carry = decide (b.toNat ≤ a.toNat) := if_neg hadd
    rw [execAlu_of_register hz (by omega), ho, execAluR_sub, ← hexact, aluCvzn_eq _ _ _ _ _ hw, hr, hc]
    simp only [hsat]
    rfl

/-! A bundle of one ALU syllable (R109, R140). -/

theorem execSyls_alu {c : CAt} {w : Word} {o : COut} (hs : fieldOf 28 3 w = 4) (h : execAlu c w = some o) :
    execSyls c [some w] none {} = o := by
  have hsyl : execSyl c 4 w = some o := h
  unfold execSyls
  rw [hs]
  simp only [Option.any_none, Bool.false_eq_true, if_false, hsyl]
  unfold execSyls
  obtain ⟨writes, mems, ctrl, ill⟩ := o
  cases ctrl <;> simp

/-- Where and in what the core issues a bundle of `len` syllables. -/
def bundleAt (c : Fin 2) (x : Camp) (len : Nat) (s : State) : CAt :=
  let g := x.regs.get x.ctx
  { k := x.ctx.val, x := g, pend := x.pend, inDelay := x.delay.isSome
    atLe := g.loops.any (fun l => l.le == g.pc.toNat), repeated := decide (0 < x.rep), start := g.pc.toNat
    link := bundleAfter c 6 (bundleAfter c 6 ((g.pc.toNat + len) % 16384) s) s % 16384 }

/-- A bundle of one syllable with results alone, none of them overridden. -/
theorem bundleRun_of_results {c : Fin 2} {x : Camp} {w : Word} {u : State} {o : COut} {ws : List (CReg × Nat × Nat × Nat × Nat)}
    (ho : execSyls (bundleAt c x 1 u) [some w] none {} = o) (hmems : o.mems = []) (hctrl : o.ctrl = none) (hill : o.ill = false)
    (hres : resolve o.writes = (ws, false)) : bundleRun c x [some w] u =
      (campFlow c x.ctx (x.regs.get x.ctx).pc.toNat (((x.regs.get x.ctx).pc.toNat + 1) % 16384) none
        (u.updCamp c fun y => { y with pend := y.pend ++ ws.map fun v =>
          { reg := v.1, mask := v.2.1, val := v.2.2.1, slot := v.2.2.2.2, issued := x.bundle, due := x.bundle + v.2.2.2.1,
            ctx := x.ctx.val } })).updCamp c nextBundle := by
  have hat : execSyls { k := x.ctx.val, x := x.regs.get x.ctx, pend := x.pend, inDelay := x.delay.isSome
                        atLe := (x.regs.get x.ctx).loops.any (fun l => l.le == (x.regs.get x.ctx).pc.toNat)
                        repeated := decide (0 < x.rep), start := (x.regs.get x.ctx).pc.toNat
                        link := bundleAfter c 6 (bundleAfter c 6 (((x.regs.get x.ctx).pc.toNat + 1) % 16384) u) u % 16384 }
      [some w] none {} = o := ho
  unfold bundleRun
  dsimp only [List.length_cons, List.length_nil, Nat.zero_add]
  rw [hat, hmems, hctrl, hill]
  unfold campAccesses
  dsimp only
  rw [List.append_nil, hres]
  simp only [Bool.or_self, Bool.false_eq_true, if_false, List.append_nil]
  rfl

/-- Settles O14: the bundle by the order of `bundleIssue`'s checks. -/
theorem campionBundles : Obligations.CampionBundles := by
  unfold Obligations.CampionBundles
  have hrow : ∀ {c : Fin 2} {s t : State}, bundleIssue c s.begin = t → exec (.bundleIssue c) s = .next (settle t) := fun h =>
    congrArg (fun u => Host.Outcome.next (settle u)) h
  refine ⟨fun c s hrun => hrow (if_pos (by rw [show (s.begin.camp.get c).run = false from hrun]; rfl)), fun c s hrun => ?_⟩
  intro x k g t
  have hgo : bundleIssue c s.begin = if boundaryOpen x ∧ (levelReady c t).isSome then t
      else if x.back then t.updCamp c fun y => { nextBundle y with back := false }
      else if k = 0 ∧ (s.sched.get c).inWait then t
      else bundleRun c x (fetchBundle c k.val g.pc.toNat t).1 (fetchBundle c k.val g.pc.toNat t).2 :=
    if_neg (by rw [show (s.begin.camp.get c).run = true from hrun]; decide)
  refine ⟨fun hb hl => hrow ?_, fun hl hback => hrow ?_, fun hl hback hk hw => hrow ?_, ?_⟩
  · rw [hgo, if_pos ⟨hb, hl⟩]
  · rw [hgo, if_neg (by simp [hl]), if_pos hback]
  · rw [hgo, if_neg (by simp [hl]), if_neg (by simp [hback]), if_pos ⟨hk, hw⟩]
  · intro w o ws u at_ hl hback hdelay hrep hloops hk hf hslot ho hmems hctrl hill hres
    have hnowait : ¬ (k = 0 ∧ (s.sched.get c).inWait = true) := by
      rintro ⟨h0, hw⟩
      rcases hk with hk | hk
      · exact hk h0
      · rw [hk] at hw
        exact absurd hw (by decide)
    refine hrow ?_
    rw [hgo, if_neg (by simp [hl]), if_neg (by simp [hback]), if_neg hnowait, hf]
    have hat : bundleAt c x 1 u = at_ := by
      unfold bundleAt
      dsimp only
      rw [hdelay, show (x.regs.get x.ctx).loops = [] from hloops, hrep]
      rfl
    exact bundleRun_of_results (w := w) (hat ▸ execSyls_alu hslot ho) hmems hctrl hill hres

end Sys2Proof.Machine
end

section
/-!
PROOFS. Levels, loop triggers, LSCTL, restart and hold of a Campion core (R117 to R122, R128 to R138).
-/
namespace Sys2Proof.Machine

/-! One element of a vector updated. -/

section
variable {α : Type} {n : Nat}

@[simp] theorem vupd_get_same (v : Vector α n) (i : Fin n) (f : α → α) : (vupd v i f).get i = f (v.get i) := by
  simp [vupd, Vector.get_eq_getElem]

theorem vupd_get_other (v : Vector α n) {i j : Fin n} (h : j ≠ i) (f : α → α) : (vupd v i f).get j = v.get j := by
  have : i.val ≠ j.val := fun h' => h (Fin.ext h'.symm)
  simp [vupd, Vector.get_eq_getElem, this]

theorem vupd_vupd (v : Vector α n) (i : Fin n) (f g : α → α) : vupd (vupd v i f) i g = vupd v i (fun x => g (f x)) := by
  simp [vupd, Vector.get_eq_getElem]

theorem vupd_congr (v : Vector α n) (i : Fin n) {f g : α → α} (h : f (v.get i) = g (v.get i)) : vupd v i f = vupd v i g := by
  unfold vupd
  rw [h]

end

section
variable (c : Fin 2) (s : State)

@[simp] theorem State.sched_updSched (f : Sched → Sched) : (s.updSched c f).sched.get c = f (s.sched.get c) := vupd_get_same ..
@[simp] theorem State.camp_updCamp (f : Camp → Camp) : (s.updCamp c f).camp.get c = f (s.camp.get c) := vupd_get_same ..

theorem State.updSched_updSched (f g : Sched → Sched) : (s.updSched c f).updSched c g = s.updSched c (fun y => g (f y)) := by
  unfold State.updSched
  dsimp only
  rw [vupd_vupd]

theorem State.updSched_congr {f g : Sched → Sched} (h : f (s.sched.get c) = g (s.sched.get c)) : s.updSched c f = s.updSched c g := by
  unfold State.updSched
  rw [vupd_congr _ _ h]

@[simp] theorem State.camp_updSched (f : Sched → Sched) : (s.updSched c f).camp = s.camp := rfl

end

/-! The switch into a level (R117 to R122). -/

/-- What makes the level pending clears, and what LVLSRC names for it. -/
def levelSource (c : Fin 2) (k : Fin 4) (s : State) : Nat × State :=
  if (s.sched.get c).lvlTrig.get k then
    (256, s.updSched c (fun y => { y with lvlTrig := vupd y.lvlTrig k (fun _ => false) }))
  else match levelRoute c k.val s with
    | some q => (s.get (F.EVR_ROUTE_SRC q) + 512 * q, setRoutePend q false s)
    | none => (0, s)

/-- The core as the switch into level `k` leaves it. -/
def levelSwitched (k : Fin 4) (src : Nat) (x : Camp) : Camp :=
  let x := nextBundle x
  let held := x.bundle + 1 - (x.elig.get k).getD x.bundle
  { x with
    stack := x.ctx :: x.stack
    ctx := k
    back := false
    lvlsrc := vupd x.lvlsrc k (fun _ => src)
    elig := vupd x.elig k (fun _ => none)
    maxHold := max x.maxHold (min held 0x7FF)
    regs := vupd x.regs k (fun g => { g with pc := BitVec.ofNat 14 (8 * k.val), loops := [], sr := fieldPut 4 2 k.val g.sr }) }

theorem levelStart_of_ready {c : Fin 2} {k : Fin 4} {s : State} (hrun : (s.camp.get c).run = true)
    (hopen : boundaryOpen (s.camp.get c) = true) (hready : levelReady c s = some k.val) : levelStart c s =
      let r := levelSource c k (noteLevels c s)
      r.2.updCamp c (levelSwitched k r.1) := by
  have hk : (⟨k.val % 4, Nat.mod_lt _ (by decide)⟩ : Fin 4) = k := Fin.ext (Nat.mod_eq_of_lt k.isLt)
  unfold levelStart
  dsimp only
  rw [if_neg (by simp [hrun, hopen]), hready]
  dsimp only
  rw [hk]
  rfl

theorem levelStart_of_none {c : Fin 2} {s : State} (h : (s.camp.get c).run = false ∨ boundaryOpen (s.camp.get c) = false ∨
    levelReady c s = none) : levelStart c s = s := by
  unfold levelStart
  dsimp only
  by_cases hc : (!(s.camp.get c).run || !boundaryOpen (s.camp.get c)) = true
  · rw [if_pos hc]
  · rw [if_neg hc]
    simp only [Bool.or_eq_true, Bool.not_eq_true', not_or, Bool.not_eq_false] at hc
    rcases h with h | h | h
    · rw [h] at hc
      exact absurd hc.1 (by decide)
    · rw [h] at hc
      exact absurd hc.2 (by decide)
    · rw [h]

/-- A switch touches the scheduler's triggers and the routes' pending bits alone. -/
theorem levelSource_keeps (c : Fin 2) (k : Fin 4) (s : State) :
    let t := (levelSource c k s).2
    t.camp = s.camp ∧ t.mem = s.mem ∧ t.yar = s.yar ∧ t.pwm = s.pwm := by
  unfold levelSource
  dsimp only
  split
  · exact ⟨rfl, rfl, rfl, rfl⟩
  · split <;> exact ⟨rfl, rfl, rfl, rfl⟩

/-- A bit set or cleared is an element of width 1 put in place. -/
theorem setBit_eq_putElt (n i : Nat) (b : Bool) : n - n / 2 ^ i % 2 * 2 ^ i + (if b then 2 ^ i else 0) = putElt n 1 i (if b then 1 else 0) := by
  unfold putElt elt
  rw [Nat.mul_one]
  cases b <;> simp

/-- Each bit of a field once one of them has been set or cleared. -/
theorem State.bit_setBit {f : Fld} (hf : f.lo + f.wid ≤ 32) {i j : Nat} (hj : j < f.wid) (b : Bool) (s : State) :
    (s.setBit f i b).bit f j = if j = i then b else s.bit f j := by
  have hget : (s.setBit f i b).get f = putElt (s.get f) 1 i (if b then 1 else 0) % 2 ^ f.wid := by
    rw [State.setBit, State.get_set_same _ hf, setBit_eq_putElt]
  have hmod : ∀ n : Nat, natBit (n % 2 ^ f.wid) j = natBit n j := fun n => by
    rw [natBit_eq_testBit, natBit_eq_testBit, Nat.testBit_mod_two_pow, decide_eq_true hj, Bool.true_and]
  have helt : ∀ n : Nat, natBit n j = (elt n 1 j != 0) := fun n => by
    unfold natBit elt
    rw [Nat.mul_one, Nat.pow_one]
  rw [State.bit_of_get hget, hmod, helt]
  by_cases h : j = i
  · subst h
    rw [elt_putElt_same, if_pos rfl]
    cases b <;> rfl
  · rw [elt_putElt_other h, if_neg h, ← helt]
    rfl

theorem routePend_setRoutePend (q : Nat) (b : Bool) (s : State) : routePend q (setRoutePend q b s) = b :=
  (State.bit_setBit (f := F.EVR_PEND_PEND (q / 32)) (Nat.le_refl 32) (i := q % 32) (j := q % 32) (Nat.mod_lt _ (by decide)) b s).trans
    (if_pos rfl)

theorem levelSource_of_trigger {c : Fin 2} {k : Fin 4} {s : State} (h : (s.sched.get c).lvlTrig.get k = true) :
    levelSource c k s = (256, s.updSched c (fun y => { y with lvlTrig := vupd y.lvlTrig k (fun _ => false) })) := if_pos h

theorem levelSource_of_route {c : Fin 2} {k : Fin 4} {s : State} {q : Nat} (h : (s.sched.get c).lvlTrig.get k = false)
    (hq : levelRoute c k.val s = some q) :
    levelSource c k s = (s.get (F.EVR_ROUTE_SRC q) + 512 * q, setRoutePend q false s) := by
  unfold levelSource
  rw [if_neg (by rw [h]; decide), hq]

/-! The loop trigger (R128, R132). -/

/-- The loop pass that a trigger opens. -/
def opensInstance (b : Booking) : Instance := { grp := b.grp, need := b.need, loads := b.loads, due := decide (b.need ≤ b.loads) }

/-- The scheduler as a trigger that is delivered stamps it. -/
def triggerStamped (k stamp : Nat) (b : Booking) (y : Sched) : Sched :=
  { y with ts := stamp, per := match y.lastTrig with
                          | some l => min (k - l) 0xFFFF
                          | none => y.per
           lastTrig := some k, inst := some (opensInstance b) }

theorem schedTrigger_of_early {c : Fin 2} {b : Booking} {rest : List Booking} {s : State} (hb : (s.sched.get c).booked = b :: rest)
    (h : loopCount c s < b.due) : schedTrigger c s = s := by
  unfold schedTrigger
  dsimp only
  rw [hb]
  dsimp only
  rw [if_pos h]

/-- A trigger that finds its predecessor pending only sets OVR. -/
theorem schedTrigger_of_pending {c : Fin 2} {b : Booking} {rest : List Booking} {s : State} (hb : (s.sched.get c).booked = b :: rest)
    (h : b.due ≤ loopCount c s) (hp : (if b.lvl = 0 then (s.sched.get c).pend
      else (s.sched.get c).lvlTrig.get ⟨b.lvl % 4, Nat.mod_lt _ (by decide)⟩) = true) :
    schedTrigger c s = s.updSched c fun y => { y with booked := rest, ovr := true } := by
  unfold schedTrigger
  dsimp only
  rw [hb]
  dsimp only
  rw [if_neg (Nat.not_lt.mpr h), if_pos hp, State.updSched_updSched]

/-- A trigger that opens its loop pass, where none of its predecessors is left to miss. -/
theorem schedTrigger_of_open {c : Fin 2} {b : Booking} {rest : List Booking} {s : State} (hb : (s.sched.get c).booked = b :: rest)
    (h : b.due ≤ loopCount c s) (hp : (if b.lvl = 0 then (s.sched.get c).pend
      else (s.sched.get c).lvlTrig.get ⟨b.lvl % 4, Nat.mod_lt _ (by decide)⟩) = false)
    (hmiss : instUnmissed (s.sched.get c) = false) (hneed : b.loads < b.need) :
    schedTrigger c s = schedDeliver c b.lvl (s.updSched c fun y => triggerStamped (loopCount c s) (stampTime s % 2 ^ 32) b
      { y with booked := rest, ovr := y.ovr || instOpen (s.sched.get c) }) := by
  have hdue : decide (b.need ≤ b.loads) = false := decide_eq_false (Nat.not_le.mpr hneed)
  unfold schedTrigger
  dsimp only
  rw [hb]
  dsimp only
  rw [if_neg (Nat.not_lt.mpr h), hp]
  simp only [Bool.false_eq_true, if_false, hmiss, hdue]
  refine congrArg (schedDeliver c b.lvl) ?_
  cases hopen : instOpen (s.sched.get c)
  · simp only [Bool.false_eq_true, if_false, Bool.or_false]
    rw [State.updSched_updSched]
    unfold triggerStamped opensInstance
    simp only [hdue] <;> rfl
  · simp only [if_true, Bool.or_true]
    rw [State.updSched_updSched, State.updSched_updSched]
    unfold triggerStamped opensInstance
    simp only [hdue] <;> rfl

theorem schedDeliver_zero {c : Fin 2} {s : State} (hmute : (s.sched.get c).mute = false) : schedDeliver c 0 s =
    s.updSched c fun y => { y with pend := y.pend || !y.inWait, inWait := false } := by
  unfold schedDeliver
  dsimp only
  rw [if_neg (by rw [hmute]; decide), if_pos rfl]
  split
  · rename_i hw
    exact s.updSched_congr c (by simp [hw])
  · rename_i hw
    exact s.updSched_congr c (by simp [hw])

theorem schedDeliver_level {c : Fin 2} {s : State} {l : Fin 4} (hmute : (s.sched.get c).mute = false) (hl : l ≠ 0) :
    schedDeliver c l.val s = s.updSched c fun y => { y with lvlTrig := vupd y.lvlTrig l fun _ => true } := by
  have hix : (⟨l.val % 4, Nat.mod_lt _ (by decide)⟩ : Fin 4) = l := Fin.ext (Nat.mod_eq_of_lt l.isLt)
  have hne : l.val ≠ 0 := fun h => hl (Fin.ext h)
  unfold schedDeliver
  dsimp only
  rw [if_neg (by rw [hmute]; decide), if_neg hne, hix]

end Sys2Proof.Machine
end

section
/-!
PROOFS. Carrier events, LSCTL, restart and hold of a Campion core (R128, R133, R136).
-/
namespace Sys2Proof.Machine

/-- A selected carrier event, where every one is taken, books a trigger (R128). -/
theorem schedCarrier_of_taken {c : Fin 2} {g : Nat} {peak : Bool} {s : State} (hon : natBit (s.sched.get c).ctl 0 = true)
    (hg : (s.sched.get c).ctl / 2 % 4 = g) (hp : natBit (s.sched.get c).ctl 5 = peak) (hdiv : (s.sched.get c).ctl / 256 % 16 = 0)
    (hcnt : (s.sched.get c).divCnt = 0) :
    schedCarrier c g peak s = s.updSched c fun y => { y with divCnt := 0, booked := y.booked ++
      [{ due := loopCount c s + y.ofs, grp := g, lvl := y.ctl / 8 % 4, need := y.ctl / 64 % 4 + 1 }] } := by
  unfold schedCarrier
  dsimp only
  rw [if_neg (by simp [hon, hg, hp]), if_neg (not_not.mpr hcnt), State.updSched_updSched]
  exact s.updSched_congr c (by simp [hdiv, Nat.mod_one]; rfl)

/-- A keyed RESTART, a wrong key, or a write of HOLD and KEEPLEGS (R136). -/
theorem cpCtlWrite_eq (c : Fin 2) (w : Word) (s : State) :
    let u := (s.set (F.SYS_CPnCTL_HOLD c.val) (fieldOf 0 1 w)).set (F.SYS_CPnCTL_KEEPLEGS c.val) (fieldOf 1 1 w)
    (fieldOf 2 1 w = 1 → fieldOf 16 16 w = 0x5AC3 → cpCtlWrite c 1 w s = (.ok 0#64, coreRestart c u)) ∧
    (fieldOf 2 1 w = 1 → fieldOf 16 16 w ≠ 0x5AC3 → cpCtlWrite c 1 w s = (.ok 0#64, s.set (F.SYS_CPnSTAT_KEYERR c.val) 1)) ∧
    (fieldOf 2 1 w = 0 → fieldOf 0 1 w = 0 → (s.camp.get c).held = true → cpCtlWrite c 1 w s = (.ok 0#64, coreStart c u)) ∧
    (fieldOf 2 1 w = 0 → (s.camp.get c).held = false → cpCtlWrite c 1 w s = (.ok 0#64, u)) := by
  have hone : isOne 1 = true := rfl
  unfold cpCtlWrite
  refine ⟨fun hr hk => ?_, fun hr hk => ?_, fun hr h0 hh => ?_, fun hr hh => ?_⟩
  · simp [hone, hr, hk]
  · simp [hone, hr, hk]
  · simp [hone, hr, h0, hh]
  · simp [hone, hr, hh]

theorem sysWrite_cpctl {a : Nat} {c : Fin 2} (h : a - 0x50000000 = 0x200 + 0x20 * c.val) (row : RegRow) (cid : Nat) (w : Word) (s : State) :
    sysWrite row cid a w s = some (cpCtlWrite c cid w s) := by
  fin_cases c <;> simp [sysWrite, h, coreIx]

/-- The registers of the cores. -/
theorem cpctl_row (c : Fin 2) : (regRow? (R.SYS_CPnCTL c.val).addr).isSome = true ∧
    (0x50000000 ≤ (R.SYS_CPnCTL c.val).addr ∧ (R.SYS_CPnCTL c.val).addr < 0x50010000) ∧
    ((R.SYS_CPnCTL c.val).addr - 0x50000000) / 0x1000 = 0 ∧ (R.SYS_CPnCTL c.val).addr - 0x50000000 = 0x200 + 0x20 * c.val := by
  revert c
  decide +kernel

/-- A write of SYS_CPnCTL that the core takes. -/
theorem write_cpctl {c : Fin 2} {w : Word} {s u : State} (ha : Admits 1 true (R.SYS_CPnCTL c.val).addr s)
    (h : cpCtlWrite c 1 w s.begin = (.ok 0#64, u)) :
    rowS (fabricWrite (1 : Cid).toNat (R.SYS_CPnCTL c.val).addr w) s = .next (settle u) := by
  obtain ⟨hr, hrange, hblock, hoff⟩ := cpctl_row c
  refine write_takes (d := 0#64) ha hr hrange fun row => ?_
  rw [specialWriteSys hblock, sysWrite_cpctl hoff]
  exact congrArg some h

/-- A restart leaves the core at its reset registers, running or held. -/
theorem camp_coreRestart (c : Fin 2) (s : State) : (coreRestart c s).camp.get c =
    if s.on (F.SYS_CPnCTL_HOLD c.val) then { freshCamp with held := true } else { freshCamp with run := true } := by
  unfold coreRestart
  extract_lets keep hold was s1 s2 s3 s4 s5 s6
  have h6 : s6.camp.get c = freshCamp := State.camp_updCamp ..
  clear_value s6
  by_cases hh : s.on (F.SYS_CPnCTL_HOLD c.val) = true
  · rw [if_pos hh, if_pos hh, State.camp_updCamp, h6]
  · rw [if_neg hh, if_neg hh]
    show ((s6.updCamp c _).updSched c _).camp.get c = _
    rw [State.camp_updSched, State.camp_updCamp, h6]
    rfl

/-- What the switch into level `k` does, and what it leaves (R119, R122). -/
theorem levelStart_effects {c : Fin 2} {k : Fin 4} {s : State} (hrun : (s.camp.get c).run = true)
    (hopen : boundaryOpen (s.camp.get c) = true) (hready : levelReady c s = some k.val) :
    let t := levelStart c s
    let x := s.camp.get c
    let y := t.camp.get c
    let g := y.regs.get k
    y.ctx = k ∧ y.stack = x.ctx :: x.stack ∧ g.pc = BitVec.ofNat 14 (8 * k.val) ∧ g.loops = [] ∧ ctxIpl g = k.val ∧ y.run = true ∧
      t.mem = s.mem ∧ t.yar = s.yar ∧ t.pwm = s.pwm ∧
      ((s.sched.get c).lvlTrig.get k = true → y.lvlsrc.get k = 256 ∧ (t.sched.get c).lvlTrig.get k = false ∧ t.regs = s.regs) ∧
      ∀ q, (s.sched.get c).lvlTrig.get k = false → levelRoute c k.val s = some q →
        y.lvlsrc.get k = s.get (F.EVR_ROUTE_SRC q) + 512 * q ∧ routePend q t = false := by
  intro t x y g
  have ht : t = (levelSource c k (noteLevels c s)).2.updCamp c (levelSwitched k (levelSource c k (noteLevels c s)).1) :=
    levelStart_of_ready hrun hopen hready
  obtain ⟨hcamp, hmem, hyar, hpwm⟩ := levelSource_keeps c k (noteLevels c s)
  obtain ⟨e, hnoted⟩ : ∃ e, (noteLevels c s).camp.get c = { x with elig := e } := ⟨_, State.camp_updCamp ..⟩
  have hy : y = levelSwitched k (levelSource c k (noteLevels c s)).1 { x with elig := e } := by
    show t.camp.get c = _
    rw [ht, State.camp_updCamp, hcamp, hnoted]
  obtain ⟨r, hg⟩ : ∃ r : CtxRegs, g = { r with pc := BitVec.ofNat 14 (8 * k.val), loops := [], sr := fieldPut 4 2 k.val r.sr } :=
    ⟨_, (congrArg (fun z : Camp => z.regs.get k) hy).trans (vupd_get_same ..)⟩
  clear_value t
  refine ⟨by rw [hy]; rfl, by rw [hy]; rfl, by rw [hg], by rw [hg], ?_, by rw [hy]; exact hrun, by rw [ht]; exact hmem,
    by rw [ht]; exact hyar, by rw [ht]; exact hpwm, fun htrig => ?_, fun q htrig hq => ?_⟩
  · rw [hg, ctxIpl, fieldOf_put_same (by decide)]
    exact Nat.mod_eq_of_lt k.isLt
  · rw [levelSource_of_trigger (s := noteLevels c s) htrig] at ht hy
    refine ⟨by rw [hy]; exact vupd_get_same .., ?_, by rw [ht]; rfl⟩
    rw [ht]
    show (((noteLevels c s).updSched c _).sched.get c).lvlTrig.get k = false
    rw [State.sched_updSched]
    exact vupd_get_same ..
  · rw [levelSource_of_route (s := noteLevels c s) htrig hq] at ht hy
    refine ⟨by rw [hy]; exact vupd_get_same .., ?_⟩
    rw [ht]
    exact routePend_setRoutePend q false (noteLevels c s)

/-- Settles O15: levels, triggers and restarts, each by the cases of its rule. -/
theorem campionLevelsAndLoops : Obligations.CampionLevelsAndLoops := by
  unfold Obligations.CampionLevelsAndLoops
  refine ⟨⟨fun c s h => congrArg Host.Outcome.next (levelStart_of_none (s := s.begin) h), fun c k s hrun hopen hready => ?_⟩,
    ⟨fun c s hb => ?_, fun c b rest s hb => ?_, fun c g peak s h1 h2 h3 h4 h5 => schedCarrier_of_taken h1 h2 h3 h4 h5,
      fun c v s => ?_⟩,
    fun c v s ha hr hk => write_cpctl ha ((cpCtlWrite_eq c v s.begin).1 hr hk), camp_coreRestart,
    fun c v s ha hr hk => write_cpctl ha ((cpCtlWrite_eq c v s.begin).2.1 hr hk), fun c v s ha h0 hr => ?_, fun cid c v s ha hc h62 => ?_⟩
  · exact ⟨levelStart c s.begin, rfl, levelStart_effects (s := s.begin) hrun hopen hready⟩
  · refine congrArg Host.Outcome.next (?_ : schedTrigger c s.begin = s.begin)
    unfold schedTrigger
    dsimp only
    rw [show (s.begin.sched.get c).booked = [] from hb]
  · intro x k i opened
    have hrow : ∀ {t : State}, schedTrigger c s.begin = t → exec (.loopTrigger c) s = .next t := fun h => congrArg Host.Outcome.next h
    have hb' : (s.begin.sched.get c).booked = b :: rest := hb
    have hx0 : s.begin.sched.get c = x := rfl
    refine ⟨fun h => hrow (schedTrigger_of_early hb' h), fun h hl hp => hrow (schedTrigger_of_pending hb' h (by rw [if_pos hl]; exact hp)),
      fun h hl hp hi hn hm => hrow ?_, fun j h hl hp hi hj hn hm => hrow ?_, fun l h hl hlv hp hi hn hm => hrow ?_⟩
    · have hx : schedTrigger c s.begin = _ := schedTrigger_of_open hb' h (by rw [if_pos hl]; exact hp)
        (by show instUnmissed x = false; rw [instUnmissed, hi]; rfl) hn
      rw [hx, hl, schedDeliver_zero (by rw [State.sched_updSched]; exact hm), State.updSched_updSched]
      refine State.updSched_congr _ _ ?_
      have hopen : instOpen x = false := by rw [instOpen, hi]; rfl
      simp only [triggerStamped, opensInstance, decide_eq_false (Nat.not_le.mpr hn), hx0, hopen, hp, Bool.false_or, Bool.or_false, opened, i] <;> rfl
    · have hx : schedTrigger c s.begin = _ := schedTrigger_of_open hb' h (by rw [if_pos hl]; exact hp)
        (by show instUnmissed x = false; rw [instUnmissed, hi, Option.any_some, hj]; rfl) hn
      rw [hx, hl, schedDeliver_zero (by rw [State.sched_updSched]; exact hm), State.updSched_updSched]
      refine State.updSched_congr _ _ ?_
      have hopen : instOpen x = true := by rw [instOpen, hi, Option.any_some, hj]; rfl
      simp only [triggerStamped, opensInstance, decide_eq_false (Nat.not_le.mpr hn), hx0, hopen, hp, Bool.false_or, Bool.or_true, opened, i] <;> rfl
    · have hlvl : b.lvl ≠ 0 := fun h0 => hl (Fin.ext (hlv.symm.trans h0))
      have hix : (⟨b.lvl % 4, Nat.mod_lt _ (by decide)⟩ : Fin 4) = l := Fin.ext (by
        show b.lvl % 4 = l.val
        rw [hlv, Nat.mod_eq_of_lt l.isLt])
      have hx : schedTrigger c s.begin = _ := schedTrigger_of_open hb' h (by rw [if_neg hlvl, hix]; exact hp)
        (by show instUnmissed x = false; rw [instUnmissed, hi]; rfl) hn
      rw [hx, hlv, schedDeliver_level (by rw [State.sched_updSched]; exact hm) hl, State.updSched_updSched]
      refine State.updSched_congr _ _ ?_
      have hopen : instOpen x = false := by rw [instOpen, hi]; rfl
      simp only [triggerStamped, opensInstance, decide_eq_false (Nat.not_le.mpr hn), hx0, hopen, Bool.or_false, opened, i] <;> rfl
  · refine congrArg Host.Outcome.next ?_
    show lsctlWrite c v.toNat s.begin = _
    unfold lsctlWrite
    dsimp only
    split
    · rename_i h
      exact (if_neg h).symm
    · rename_i h
      exact (if_pos (not_not.mp h)).symm
  · obtain ⟨-, -, hheld, hkeep⟩ := cpCtlWrite_eq c v s.begin
    rw [h0] at hheld hkeep
    exact ⟨fun hh => write_cpctl ha (hheld hr rfl hh), fun hh => write_cpctl ha (hkeep hr hh)⟩
  · have hx : rowS (fabricWrite cid.toNat (R.SYS_CPnCTL c.val).addr v) s =
        .next (settle ((busErr { cid := cid.toNat } true (R.SYS_CPnCTL c.val).addr .deny s.begin).answerRefused 5)) := by
      obtain ⟨hr, hrange, hblock, hoff⟩ := cpctl_row c
      refine write_denied (c := .deny) ha hr hrange fun row => ?_
      rw [specialWriteSys hblock, sysWrite_cpctl hoff]
      have hone : isOne cid.toNat = false := by simpa [isOne, BitVec.toNat_eq] using hc
      unfold cpCtlWrite
      rw [hone]
      rfl
    exact ⟨hx, hx⟩

end Sys2Proof.Machine
end

section
/-!
PROOFS. What the fault sources, SAFE and the summary of R475 to R479 can change.
-/
namespace Sys2Proof.Machine

/-- The registers of the router, the DMA channels, the PWM generator and Teasel, the fault registers that the hardware writes, and the
armed injection. -/
abbrev FaultReg (r : Reg) : Prop :=
  0x50002000 ≤ r.addr ∧ r.addr < 0x50004000 ∨ 0x50008000 ≤ r.addr ∧ r.addr < 0x5000A000 ∨ 0x5000C000 ≤ r.addr ∧ r.addr < 0x5000D000 ∨
    r.addr ∈ [R.LCS_FACT.addr, R.LCS_FSTICKY.addr, R.LCS_FSTAT.addr, R.MEM_INJCTL.addr]

/-- `t` differs from `s` in the router, the DMA channels, the legs, Teasel, memory, the fault registers and the answer alone. -/
structure FaultFrame (s t : State) : Prop where
  word : ∀ r : Reg, ¬ FaultReg r → t.word r = s.word r
  rest : { t with regs := s.regs, mem := s.mem, dma := s.dma, evr := s.evr, pwm := s.pwm, tsl := s.tsl, tslPin := s.tslPin, out := s.out } = s

namespace FaultFrame

variable {s t u : State}

theorem refl (s : State) : FaultFrame s s := ⟨fun _ _ => rfl, rfl⟩

theorem trans (h : FaultFrame s t) (k : FaultFrame t u) : FaultFrame s u := by
  refine ⟨fun r hr => (k.word r hr).trans (h.word r hr), ?_⟩
  exact (congrArg (fun v : State => { v with
    regs := s.regs, mem := s.mem, dma := s.dma, evr := s.evr, pwm := s.pwm, tsl := s.tsl, tslPin := s.tslPin, out := s.out }) k.rest).trans
    h.rest

theorem get (h : FaultFrame s t) {f : Fld} (hf : ¬ FaultReg f.reg) : t.get f = s.get f := by
  rw [State.get, State.get, h.word f.reg hf]

theorem lcs_eq (h : FaultFrame s t) : t.lcs = s.lcs := (congrArg State.lcs h.rest :)

theorem setWord {q : Reg} (h : FaultReg q) (w : Word) (s : State) : FaultFrame s (s.setWord q w) :=
  ⟨fun r hr => State.word_setWord_other s w (fun heq => hr (by rw [FaultReg, heq]; exact h)), rfl⟩
theorem set {f : Fld} (h : FaultReg f.reg) (v : Nat) (s : State) : FaultFrame s (s.set f v) := setWord h _ s
theorem setB {f : Fld} (h : FaultReg f.reg) (b : Bool) (s : State) : FaultFrame s (s.setB f b) := set h _ s
theorem setBit {f : Fld} (h : FaultReg f.reg) (i : Nat) (b : Bool) (s : State) : FaultFrame s (s.setBit f i b) := set h _ s
theorem setMem (m : Memory) (s : State) : FaultFrame s { s with mem := m } := ⟨fun _ _ => rfl, rfl⟩
theorem setPwm (p : Pwm) (s : State) : FaultFrame s { s with pwm := p } := ⟨fun _ _ => rfl, rfl⟩
theorem setPins (p : Vector TslPin 32) (s : State) : FaultFrame s { s with tslPin := p } := ⟨fun _ _ => rfl, rfl⟩

theorem raise (n : Nat) (s : State) : FaultFrame s (s.raise n) :=
  ⟨fun r hr => (routerOnly_raise s n).word r (by simp only [FaultReg] at hr; omega), by simp⟩

theorem ite {c : Prop} [Decidable c] (ht : FaultFrame s t) (hu : FaultFrame s u) : FaultFrame s (if c then t else u) := by
  split
  · exact ht
  · exact hu

theorem foldl {β : Type} {f : State → β → State} :
    ∀ (l : List β), (∀ t, ∀ b ∈ l, FaultFrame t (f t b)) → ∀ t, FaultFrame t (l.foldl f t)
  | [], _, t => refl t
  | b :: l, hf, t => (hf t b (by simp)).trans (foldl l (fun u x hx => hf u x (List.mem_cons_of_mem _ hx)) _)

theorem forEach {n : Nat} {f : Nat → State → State} (hf : ∀ t, ∀ i < n, FaultFrame t (f i t)) (t : State) :
    FaultFrame t (Machine.forEach n f t) := foldl _ (fun u i hi => hf u i (List.mem_range.mp hi)) t

theorem legHiZ {l : Nat} (h : l < 16) (s : State) : FaultFrame s (legHiZ l s) := by
  have hacc : FaultReg (R.PWM_LnACC (l / 8) (l % 8)) := by
    refine .inr (.inl ?_)
    simp only [R.PWM_LnACC]
    omega
  unfold Machine.legHiZ
  exact (setPwm _ s).trans (setWord hacc _ _)

theorem legLatch {l : Nat} (h : l < 16) (cause src : Nat) (s : State) : FaultFrame s (legLatch l cause src s) := by
  have hstat (f : Fld) (hf : f.reg = R.PWM_LnSTAT (l / 8) (l % 8)) : FaultReg f.reg := by
    refine .inr (.inl ?_)
    simp only [hf, R.PWM_LnSTAT]
    omega
  unfold Machine.legLatch
  exact ite (refl s) (((((legHiZ h s).trans (set (hstat _ rfl) _ _)).trans (set (hstat _ rfl) _ _)).trans (set (hstat _ rfl) _ _)).trans
    (raise _ _))

theorem legsFault (p : Nat → Bool) (cause : Nat) (s : State) : FaultFrame s (legsFault p cause s) :=
  forEach (fun t _ hl => ite (ite (legLatch hl cause 0 t) (refl t)) (refl t)) s

theorem tslStop {n : Nat} (h : n < 24) (cause : Nat) (s : State) : FaultFrame s (tslStop n cause s) := by
  have hreg {r : Reg} (hr : r = R.TSL_CHtCTL n ∨ r = R.TSL_CHtSTAT n) : FaultReg r := by
    refine .inr (.inr (.inl ?_))
    rcases hr with rfl | rfl
    · simp only [R.TSL_CHtCTL]; omega
    · simp only [R.TSL_CHtSTAT]; omega
  unfold Machine.tslStop
  extract_lets base cnt s1 s2 s3
  have h1 : FaultFrame s s1 := ((set (hreg (.inl rfl)) _ _).trans (set (hreg (.inr rfl)) _ _)).trans (setBit (by decide) _ _ _)
  have h2 : FaultFrame s s2 := (h1.trans (set (hreg (.inr rfl)) _ _)).trans (set (hreg (.inr rfl)) _ _)
  exact (h2.trans (set (hreg (.inr rfl)) _ _)).trans (setPins _ _)

theorem tslStopAll (cause : Nat) (s : State) : FaultFrame s (tslStopAll cause s) :=
  forEach (fun t _ hn => ite (tslStop hn cause t) (refl t)) s

theorem safeEnter (s : State) : FaultFrame s (safeEnter s) :=
  ite (refl s) ((((set (by decide) _ _).trans (raise _ _)).trans (legsFault _ _ _)).trans (tslStopAll _ _))

theorem windowPut (off : Nat) (w : Word) (s : State) : FaultFrame s (windowPut off w s) := by
  have hset (s : State) (a : Nat) : FaultFrame s (arrayPut a w s) := by
    unfold arrayPut
    exact ite ((setMem _ _).trans (set (by decide) _ _)) (setMem _ _)
  exact ite (refl s) (hset s _)

theorem faultSummary (s : State) : FaultFrame s (faultSummary s) := by
  unfold Machine.faultSummary
  extract_lets warn s0 b s1 s2 s3 s4 s5
  have h0 : FaultFrame s s0 := (setB (by decide) _ _).trans (setB (by decide) _ _)
  exact (((((h0.trans (windowPut ..)).trans (windowPut ..)).trans (windowPut ..)).trans (windowPut ..)).trans (windowPut ..)).trans
    (windowPut ..)

theorem faultEval (s : State) : FaultFrame s s.faultEval := by
  unfold State.faultEval
  extract_lets s0 s1
  have h0 : FaultFrame s s0 := by
    refine forEach (fun t b _ => ?_) s
    extract_lets new old t1 t2
    have h1 : FaultFrame t t1 := setBit (by decide) _ _ _
    have h2 : FaultFrame t t2 := h1.trans (setBit (by decide) _ _ _)
    exact ite (ite (h2.trans (raise _ _)) h2) h1
  exact (h0.trans (ite (safeEnter _) (refl _))).trans (faultSummary _)

theorem faultPulse (b : Nat) (s : State) : FaultFrame s (s.faultPulse b) :=
  (((setBit (by decide) _ _ _).trans (raise _ _)).trans (ite (safeEnter _) (refl _))).trans (faultSummary _)

end FaultFrame

end Sys2Proof.Machine
end

section
/-!
PROOFS. The watchdogs, the clock monitor and FSET (R470 to R475).
-/
namespace Sys2Proof.Machine

variable {a c : Nat} {w : Word} {s : State}

/-! The rules of the registers of the block (R480). -/

theorem lcsWrite_wdKick {n : Nat} (hn : n < 2) (h : a = 0x5000F108 + 0x20 * n) :
    lcsWrite c a w s = some (.ok 0#64, wdKick n c (fieldOf 0 16 w) s) := by
  subst h
  interval_cases n <;> simp [lcsWrite]

theorem lcsWrite_deny (hc : 2 ≤ c) (ha : 0x5000F000 ≤ a ∧ a < 0x50010000) (hk : a ≠ 0x5000F108 ∧ a ≠ 0x5000F128) :
    lcsWrite c a w s = some (.refused .deny, s) := by
  unfold lcsWrite
  rw [if_neg (by omega)]
  dsimp only
  rw [if_neg (by omega), if_pos hc]

theorem lcsWrite_wdCtl {n : Nat} (hn : n < 2) (hc : c ≤ 1) (h : a = 0x5000F100 + 0x20 * n) :
    lcsWrite c a w s = some (wdCtlWrite n w s) := by
  have hc2 : ¬ 2 ≤ c := by omega
  subst h
  interval_cases n <;> simp [lcsWrite, hc2]

theorem lcsWrite_host {off : Nat} (hoff : off ∈ [0xC0, 0x188, 0x194, 0x198]) (h : a = 0x5000F000 + off) :
    lcsWrite 0 a w s = some (.ok 0#64, s) := by
  subst h
  fin_cases hoff <;> simp [lcsWrite]

theorem lcsWrite_fset (h : a = 0x5000F198) : lcsWrite 1 a w s = some (.ok 0#64, faultSet w s) := by
  subst h
  simp [lcsWrite]

/-- The registers of the watchdogs have their rows, and their places in the block. -/
theorem watchdog_rows (n : Fin 2) :
    ((regRow? (R.LCS_WDnCTL n).addr).isSome = true ∧ (R.LCS_WDnCTL n).addr = 0x5000F100 + 0x20 * n.val) ∧
      (regRow? (R.LCS_WDnKICK n).addr).isSome = true ∧ (R.LCS_WDnKICK n).addr = 0x5000F108 + 0x20 * n.val := by
  revert n
  decide +kernel

/-! A write of LCS_WDnCTL (R472). -/

/-- The settings a write of LCS_WDnCTL takes, and the error it clears. -/
def wdSettings (n : Nat) (w : Word) (s : State) : State :=
  let u := ((s.set (F.LCS_WDnCTL_LOCK n) (w.toNat / 2 % 2)).set (F.LCS_WDnCTL_DBGPAUSE n) (w.toNat / 4 % 2)).set (F.LCS_WDnCTL_KCID n)
    (w.toNat / 256 % 64)
  if w.getLsbD 16 then u.set (F.LCS_WDnCTL_CFGERR n) 0 else u

/-- A one-bit field of a word. -/
theorem fieldOf_one (i : Nat) : fieldOf i 1 w = if w.getLsbD i = true then 1 else 0 := by
  rw [fieldOf, Nat.pow_one, ← BitVec.testBit_toNat, Nat.testBit_eq_decide_div_mod_eq]
  simp only [decide_eq_true_eq]
  split <;> omega

theorem faultSet_eq : faultSet w s = if w.getLsbD 0 then s.faultPulse 11 else s := by
  unfold faultSet
  rw [fieldOf_one]
  cases w.getLsbD 0 <;> rfl

theorem wdCtlWrite_of_locked {n : Nat} (h : s.on (F.LCS_WDnCTL_LOCK n) = true) : wdCtlWrite n w s = (.refused .busy, s) := if_pos h

theorem wdCtlWrite_of_open {n : Nat} (h : s.on (F.LCS_WDnCTL_LOCK n) = false) : wdCtlWrite n w s =
    if w.getLsbD 0 = false then (.ok 0#64, (wdSettings n w s).set (F.LCS_WDnCTL_EN n) 0)
    else if s.on (F.LCS_WDnCTL_EN n) = true then (.ok 0#64, wdSettings n w s)
    else (.ok 0#64, wdEnable n (wdSettings n w s)) := by
  have hset : (if fieldOf 16 1 w = 1 then
        (((s.set (F.LCS_WDnCTL_LOCK n) (fieldOf 1 1 w)).set (F.LCS_WDnCTL_DBGPAUSE n) (fieldOf 2 1 w)).set (F.LCS_WDnCTL_KCID n)
          (fieldOf 8 6 w)).set (F.LCS_WDnCTL_CFGERR n) 0
      else ((s.set (F.LCS_WDnCTL_LOCK n) (fieldOf 1 1 w)).set (F.LCS_WDnCTL_DBGPAUSE n) (fieldOf 2 1 w)).set (F.LCS_WDnCTL_KCID n)
          (fieldOf 8 6 w)) = wdSettings n w s := by
    unfold wdSettings
    refine (if_congr ?_ rfl rfl)
    rw [fieldOf_one]
    split <;> simp_all
  unfold wdCtlWrite
  rw [if_neg (by simp [h])]
  dsimp only
  rw [hset, fieldOf_one 0]
  cases w.getLsbD 0 <;> rfl

theorem get_wdSettings {n : Nat} {f : Fld} (h : f.reg.addr ≠ (R.LCS_WDnCTL n).addr) : (wdSettings n w s).get f = s.get f := by
  have hset (lo wid v : Nat) (t : State) : (t.set ⟨R.LCS_WDnCTL n, lo, wid⟩ v).get f = t.get f := t.get_set_other h v
  unfold wdSettings
  dsimp only
  split
  · exact (hset ..).trans ((hset ..).trans ((hset ..).trans (hset ..)))
  · exact (hset ..).trans ((hset ..).trans (hset ..))

theorem wdEnable_wdSettings {n : Nat} : wdEnable n (wdSettings n w s) =
    if s.get (F.LCS_WDnWIN_WINHI n) ≤ s.get (F.LCS_WDnWIN_WINLO n) then (wdSettings n w s).set (F.LCS_WDnCTL_CFGERR n) 1
    else (wdRestart n ((wdSettings n w s).set (F.LCS_WDnCTL_EN n) 1)).set (F.LCS_WDnSTAT_NEXT n) 0 := by
  have hwin : ∀ f : Fld, f.reg = R.LCS_WDnWIN n → f.reg.addr ≠ (R.LCS_WDnCTL n).addr := fun f hf => by
    rw [hf]
    simp only [R.LCS_WDnWIN, R.LCS_WDnCTL]
    omega
  unfold wdEnable
  rw [get_wdSettings (hwin _ rfl), get_wdSettings (hwin _ rfl)]

/-! A kick (R470, R471). -/

theorem wdKick_of_idle {n key : Nat} (h : ¬ (wdRuns n s = true ∧ s.lcs.wdSrc.get (wdIx n) = false)) : wdKick n c key s = s := by
  unfold wdKick
  rw [if_pos]
  cases hr : wdRuns n s <;> cases hv : s.lcs.wdSrc.get (wdIx n) <;> simp_all

theorem wdKick_of_live {n key : Nat} (hr : wdRuns n s = true) (hv : s.lcs.wdSrc.get (wdIx n) = false) : wdKick n c key s =
    if s.get (F.LCS_WDnSTAT_COUNT n) < s.get (F.LCS_WDnWIN_WINLO n) then wdViolation n 1 s
    else if key ≠ (if s.get (F.LCS_WDnSTAT_NEXT n) = 0 then 0xA55A else 0x5AA5) then wdViolation n 3 s
    else if c ≠ s.get (F.LCS_WDnCTL_KCID n) then wdViolation n 4 s
    else (wdRestart n s).set (F.LCS_WDnSTAT_NEXT n) (1 - s.get (F.LCS_WDnSTAT_NEXT n)) := by
  unfold wdKick
  rw [if_neg (by simp [hr, hv])]

theorem wdIx_fin (n : Fin 2) : wdIx n = n := Fin.ext (Nat.mod_eq_of_lt n.isLt)

/-- The key that is due, as the bits of the word say it. -/
theorem key_due_iff (key : BitVec 16) (p : Prop) [Decidable p] :
    key.toNat ≠ (if p then 0xA55A else 0x5AA5) ↔ key ≠ if p then 0xA55A#16 else 0x5AA5#16 := by
  split <;> simp [BitVec.toNat_eq]

/-! A violation (R471). -/

theorem wdViolation_of_first {n viol : Nat} (h : s.lcs.wdrDue = none) : wdViolation n viol s =
    (((s.updLcs fun l => { l with wdSrc := l.wdSrc.set (wdIx n).val true (wdIx n).isLt, wdrDue := some 16000 }).set F.LCS_WDRCAUSE_WD n).set
      F.LCS_WDRCAUSE_VIOL viol).faultEval.raise (0xE1 + n) := by
  unfold wdViolation
  rw [if_neg (by simp [h])]

theorem wdViolation_of_due {n viol d : Nat} (h : s.lcs.wdrDue = some d) : wdViolation n viol s = s := if_pos (by simp [h])

/-- What a first violation records. -/
theorem wdViolation_effects (n : Fin 2) (viol : Nat) (h : s.lcs.wdrDue = none) :
    let t := wdViolation n viol s
    t.lcs.wdSrc.get n = true ∧ t.lcs.wdrDue = some 16000 ∧ t.get F.LCS_WDRCAUSE_WD = n ∧ t.get F.LCS_WDRCAUSE_VIOL = viol % 8 := by
  intro t
  have ht : t = _ := wdViolation_of_first h
  clear_value t
  subst ht
  have hframe := fun s : State => (FaultFrame.faultEval s).trans (FaultFrame.raise (0xE1 + n) _)
  refine ⟨?_, congrArg Lcs.wdrDue (hframe _).lcs_eq, ?_, ?_⟩
  · rw [(hframe _).lcs_eq]
    exact (congrArg (fun i : Fin 2 => (s.lcs.wdSrc.set i.val true i.isLt).get n) (wdIx_fin n)).trans (Vector.getElem_set_self ..)
  · rw [(hframe _).get (by decide), State.get_set_apart _ (by decide), State.get_set_same _ (by decide)]
    exact Nat.mod_eq_of_lt n.isLt
  · rw [(hframe _).get (by decide), State.get_set_same _ (by decide)]
    rfl

/-- Settles O52: each write by the rule of its register, the violation by what it records. -/
theorem watchdogs : Obligations.Watchdogs := by
  unfold Obligations.Watchdogs
  refine ⟨?_, ?_, ?_, ?_, ?_, ?_, ?_, ?_⟩
  · intro cid n w s ha a refuse u v go ends
    obtain ⟨⟨hrow, haddr⟩, -⟩ := watchdog_rows n
    have hrange : 0x50000000 ≤ (R.LCS_WDnCTL n).addr ∧ (R.LCS_WDnCTL n).addr < 0x50010000 := by omega
    have hwrite {r : Ans × State} (hc : cid.toNat ≤ 1) (hr : wdCtlWrite n w s.begin = r) (row : RegRow) :
        specialWrite row cid.toNat (R.LCS_WDnCTL n).addr w 15 s.begin = some r := by
      rw [specialWriteLcs (by omega), lcsWrite_wdCtl n.isLt hc haddr, hr]
    have hends {t : State} (hgo : go) (hr : wdCtlWrite n w s.begin = (.ok 0#64, t)) : ends t :=
      write_takes ha hrow hrange (hwrite hgo.1 hr)
    have hopen (hgo : go) := wdCtlWrite_of_open (w := w) (s := s.begin) hgo.2
    have hv : v = wdSettings n w s.begin := rfl
    clear_value v
    subst hv
    refine ⟨fun hc => ?_, fun hc hl => ?_, fun hgo h0 => hends hgo ?_, fun hgo h0 hen => hends hgo ?_, fun hgo h0 hen hwin => hends hgo ?_,
      fun hgo h0 hen hwin => hends hgo ?_⟩
    · refine write_denied ha hrow hrange fun row => ?_
      rw [specialWriteLcs (by omega), lcsWrite_deny hc (by omega) (by omega)]
    · exact write_denied ha hrow hrange (hwrite hc (wdCtlWrite_of_locked hl))
    · rw [hopen hgo, if_pos h0]
    · rw [hopen hgo, if_neg (by simp [h0])]
      exact if_pos hen
    · rw [hopen hgo, if_neg (by simp [h0]), if_neg (by simp [hen]), wdEnable_wdSettings]
      exact congrArg (Prod.mk _) (if_neg (Nat.not_le.mpr hwin))
    · rw [hopen hgo, if_neg (by simp [h0]), if_neg (by simp [hen]), wdEnable_wdSettings]
      exact congrArg (Prod.mk _) (if_pos hwin)
  · intro cid n key s ha next due live early run
    obtain ⟨-, hrow, haddr⟩ := watchdog_rows n
    have hkick {t : State} (hr : wdKick n cid.toNat key.toNat s.begin = t) : run = .next (settle t) := by
      refine write_takes (d := 0#64) ha hrow (by omega) fun row => ?_
      rw [specialWriteLcs (by omega), lcsWrite_wdKick n.isLt haddr, fieldOf_setWidth_key, hr]
    have hlive (h : live) := wdKick_of_live (c := cid.toNat) (key := key.toNat) (s := s.begin) h.1 (by rw [wdIx_fin]; exact h.2)
    refine ⟨fun h => hkick ?_, fun h he => hkick ?_, fun h he hk => hkick ?_, fun h he hk hc => hkick ?_, fun h he hk hc => hkick ?_⟩
    · exact wdKick_of_idle (by rw [wdIx_fin]; exact h)
    · exact (hlive h).trans (if_pos he)
    · exact (hlive h).trans ((if_neg he).trans (if_pos ((key_due_iff ..).mpr hk)))
    · exact (hlive h).trans ((if_neg he).trans ((if_neg fun h => (key_due_iff ..).mp h hk).trans (if_pos hc)))
    · exact (hlive h).trans ((if_neg he).trans ((if_neg fun h => (key_due_iff ..).mp h hk).trans (if_neg (not_not.mpr hc))))
  · exact fun n s => ⟨fun h => congrArg Host.Outcome.next (if_pos h), fun h => congrArg Host.Outcome.next (if_neg h)⟩
  · intro n viol s
    refine ⟨fun h => ?_, fun d h => wdViolation_of_due h⟩
    obtain ⟨hsrc, hdue, hwd, hviol⟩ := wdViolation_effects n viol h
    exact ⟨hsrc, hdue, hwd, fun hlt => hviol.trans (Nat.mod_eq_of_lt hlt)⟩
  · exact fun s => ⟨fun h => congrArg Host.Outcome.next (if_pos h), fun h => congrArg Host.Outcome.next (if_neg h)⟩
  · intro s acts
    have hacts : acts ↔ (s.begin.get F.TB_REFSTAT_BAND == 0 && s.begin.on F.TB_REFSTAT_FINE) = true := by
      rw [Bool.and_eq_true, beq_iff_eq]
      rfl
    refine ⟨fun h => congrArg Host.Outcome.next (if_neg ?_), fun h => congrArg Host.Outcome.next (if_pos ?_), ?_⟩
    · rw [hacts.mp h]; decide
    · rw [Bool.eq_false_iff.mpr (fun hb => h (hacts.mpr hb))]; decide
    · exact congrArg Host.Outcome.next (if_neg (by simp))
  · intro w s a
    have hrow : (regRow? R.LCS_FSET.addr).isSome = true := by decide +kernel
    refine ⟨fun ha => ?_, fun ha => ?_, fun cid hc ha => ?_⟩
    · refine write_takes (d := 0#64) ha hrow (by decide) fun row => ?_
      rw [specialWriteLcs (by decide)]
      exact (lcsWrite_fset (a := R.LCS_FSET.addr) rfl).trans (congrArg (fun t => some (Ans.ok 0#64, t)) faultSet_eq)
    · refine write_takes (d := 0#64) ha hrow (by decide) fun row => ?_
      rw [specialWriteLcs (by decide)]
      exact lcsWrite_host (off := 0x198) (by decide) rfl
    · refine write_denied ha hrow (by decide) fun row => ?_
      rw [specialWriteLcs (by decide), lcsWrite_deny hc (by decide) (by decide)]
  · intro key s a
    have hrow : (regRow? R.LCS_FCLR.addr).isSome = true := by decide +kernel
    refine ⟨fun ha => ?_, fun cid hc ha => ?_⟩
    · refine write_takes (d := 0#64) ha hrow (by decide) fun row => ?_
      rw [specialWriteLcs (by decide)]
      exact lcsWrite_host (off := 0x194) (by decide) rfl
    · refine write_denied ha hrow (by decide) fun row => ?_
      rw [specialWriteLcs (by decide), lcsWrite_deny hc (by decide) (by decide)]

end Sys2Proof.Machine
end

section
/-!
PROOFS. VERSION, RATECHG, IDENT, RESET and REJOIN, and a management command with no frame (R377, R390, R391, R400, R402).
-/
namespace Sys2Proof.Machine

/-- A frame's command with no frame of its kind waiting at the port does nothing. -/
theorem onFrame_of_none {p cls typ : Nat} {s : State} (h : slotFind p cls typ s = none) (op : Frame → State → State) :
    onFrame p cls typ op s = s := by
  unfold onFrame
  rw [h]

theorem rowS_onFrame_of_none {p cls typ : Nat} {s : State} (h : slotFind p cls typ s.begin = none) (op : Frame → State → State) :
    rowS (onFrame p cls typ op) s = .next (settle s.begin) := by
  rw [rowS, onFrame_of_none h]

theorem resetOk_iff {p : Nat} {f : Frame} {s : State} :
    resetOk p f s = true ↔ f.at_ 0 2 = 0xA55A ∧ f.src = 1 ∧ (headPort s).val = p := by
  unfold resetOk
  simp only [Bool.and_eq_true, beq_iff_eq, and_assoc]
  exact and_congr_right fun _ => and_congr_right fun _ => eq_comm

/-- A REJOIN with a nonce of its own (R400). -/
theorem onRejoin_of_new {f : Frame} {s : State} (h : 1 ≤ f.src ∧ f.src ≤ 64 ∧ smapFind f.src s.chn.rejoined ≠ some (f.at_ 2 2)) :
    onRejoin f s = chnEvent 7 (endRequestsTo f.src (semUnitGone f.src { s with chn := { s.chn with
      rejoined := smapPut f.src (f.at_ 2 2) s.chn.rejoined, dup := s.chn.dup.filter (fun e => e.1 != f.src),
      acked := s.chn.acked.filter (fun e => e.1 != f.src) } })) := by
  obtain ⟨h1, h64, hnew⟩ := h
  refine if_neg ?_
  rintro (h | h | h)
  · omega
  · omega
  · exact hnew h

theorem onRejoin_of_old {f : Frame} {s : State} (h : ¬(1 ≤ f.src ∧ f.src ≤ 64 ∧ smapFind f.src s.chn.rejoined ≠ some (f.at_ 2 2))) :
    onRejoin f s = s := by
  refine if_pos ?_
  by_cases h0 : f.src = 0
  · exact .inl h0
  · by_cases h64 : 64 < f.src
    · exact .inr (.inl h64)
    · exact .inr (.inr (not_not.mp fun hn => h ⟨by omega, by omega, hn⟩))

theorem portIx_val (p : Fin 2) : portIx p.val = p := by
  revert p
  decide

/-- Is a REJOIN due to be sent (R400)? -/
def rejoinDue (s : State) : Prop :=
  s.chn.rejoinLeft ≠ 0 ∧ ownAddr s ≠ 0 ∧ linkUp (if isHead s then 1 else headPort s) s = true ∧ s.chn.rejoinAt ≤ s.now

theorem not_rejoinDue_iff {s : State} : ¬ rejoinDue s ↔
    s.chn.rejoinLeft = 0 ∨ ownAddr s = 0 ∨ (!linkUp (if isHead s then 1 else headPort s) s) = true ∨ s.now < s.chn.rejoinAt := by
  simp only [rejoinDue, not_and_or, not_not, Nat.not_le, Bool.not_eq_true, Bool.not_eq_true', ne_eq]

theorem rejoinSend_of_due {s : State} (h : rejoinDue s) : rejoinSend s =
    chainSend (mgmt 0x7F 12 ([b8 (ownAddr s), b8 (s.get F.SYS_RSTCAUSE_LAST)] ++ leBytes 2 s.chn.nonce))
      { s with chn := { s.chn with rejoinLeft := s.chn.rejoinLeft - 1, rejoinAt := s.now + 100000 } } :=
  if_neg fun hn => not_rejoinDue_iff.mpr hn h

theorem rejoinSend_of_not_due {s : State} (h : ¬ rejoinDue s) : rejoinSend s = s := if_pos (not_rejoinDue_iff.mp h)

/-- Settles O43: the rule of each frame, by its type. -/
theorem managementFrames : Obligations.ManagementFrames := by
  unfold Obligations.ManagementFrames
  refine ⟨fun p f s u h => h.rowS _, fun p f s u h => (h.rowS _).trans ?_, fun p f s u h => h.rowS _, fun p f s u h => h.rowS _,
    fun p f s u h => ?_, fun p f s u h => ?_, fun s => ?_, fun p s e he h => ?_, fun p s e he h => ?_, fun f s u h => h.rowS _⟩
  · have hp : p.val ≠ 2 := by omega
    have hix : portIx p.val = p := portIx_val p
    refine congrArg (fun v => Host.Outcome.next (settle v)) ((if_neg hp).trans ?_)
    exact congrArg (fun q => u.setPort q { u.port q with grace := u.now + 20000 }) hix
  · have hrun := h.rowS fun f s => if resetOk p.val f s then softReset true s else unkType p.val s
    refine ⟨fun hok => hrun.trans ?_, fun hbad => hrun.trans ?_⟩
    · rw [if_pos (resetOk_iff.mpr hok)]
    · rw [if_neg fun hok => hbad (resetOk_iff.mp hok)]
  · refine ⟨fun hnew => (h.rowS onRejoin).trans ?_, fun hold => (h.rowS onRejoin).trans ?_⟩
    · rw [onRejoin_of_new hnew]
    · rw [onRejoin_of_old hold]
  · exact ⟨fun h => congrArg Host.Outcome.next (rejoinSend_of_due (s := s.begin) h),
      fun h => congrArg Host.Outcome.next (rejoinSend_of_not_due (s := s.begin) h)⟩
  · fin_cases he <;> exact rowS_onFrame_of_none h _
  · fin_cases he <;>
    · refine congrArg (fun v => Host.Outcome.next (settle (bootPoll v))) (onFrame_of_none ?_ _)
      exact h

end Sys2Proof.Machine
end

section
/-!
PROOFS. Teasel channels: start and stop, FIFO words, pin events and captured edges (R348, R350, R356, R359, R360).
-/
namespace Sys2Proof.Machine

/-! The start and the stop of a channel. -/

theorem tslWrite_ctl {c t a : Nat} {w : Word} {s : State} (hc : c ≤ 1) (ht : t < 24) (h : a = 0x5000C000 + 0x40 * t) :
    tslWrite c a w s = some (.ok 0#64, if fieldOf 0 1 w = 1 then tslStart t s else tslHalt t s) := by
  have hix : (a - 0x5000C000) / 0x40 = t := by omega
  have hcid : (!isZeroOne c) = false := by simpa [isZeroOne] using hc
  unfold tslWrite
  rw [if_neg (by omega), if_neg (by simp [hcid])]
  dsimp only
  rw [hix, if_neg (by omega), if_pos (by omega)]

theorem tslCtl_row (t : Fin 24) : (regRow? (R.TSL_CHtCTL t).addr).isSome = true ∧ (R.TSL_CHtCTL t).addr = 0x5000C000 + 0x40 * t.val := by
  revert t
  decide +kernel

/-- Does the window of channel `t` pass the last pin, or overlap a running channel's (R351)? -/
def tslClash (t : Nat) (s : State) : Prop :=
  32 < tslBase t s + tslCount t s ∨ (List.range 24).any (fun u => u != t && tslRuns u s && tslOverlap t u s) = true

theorem tslStart_of_running {t : Nat} {s : State} (h : tslRuns t s = true) : tslStart t s = s := if_pos h

theorem tslStart_of_clash {t : Nat} {s : State} (h : tslRuns t s = false) (hc : tslClash t s) :
    tslStart t s = s.set (F.TSL_CHtSTAT_STARTERR t) 1 := by
  unfold tslStart
  rw [if_neg (by simp [h])]
  exact if_pos hc

/-- A channel that runs from now on, its cursor LEAD ahead (R350). -/
def tslStarted (t : Nat) (s : State) : State :=
  (((s.set (F.TSL_CHtCTL_RUN t) 1).set (F.TSL_CHtSTAT_RUN t) 1).setBit F.TSL_RUNNING_RUN t true).set (F.TSL_CHtTC_TC t)
    (tb9 s + s.get (F.TSL_CHtCFG_LEAD t))

theorem get_tslStarted {t : Nat} (ht : t < 24) {f : Fld} (s : State)
    (h : f.reg.addr < 0x5000C000 ∨ 0x5000D000 ≤ f.reg.addr) : (tslStarted t s).get f = s.get f := by
  unfold tslStarted State.setBit
  rw [State.get_set_other, State.get_set_other, State.get_set_other, State.get_set_other] <;>
    simp only [F.TSL_CHtTC_TC, R.TSL_CHtTC, F.TSL_RUNNING_RUN, R.TSL_RUNNING, F.TSL_CHtSTAT_RUN, R.TSL_CHtSTAT, F.TSL_CHtCTL_RUN,
      R.TSL_CHtCTL] <;> omega

theorem tslStart_of_free {t : Fin 24} {s : State} (h : tslRuns t s = false) (hc : ¬ tslClash t s) :
    tslStart t s = if s.on F.LCS_FSTAT_SAFE then tslStop t 7 (tslStarted t s) else tslStarted t s := by
  have hlead : (((s.set (F.TSL_CHtCTL_RUN t) 1).set (F.TSL_CHtSTAT_RUN t) 1).setBit F.TSL_RUNNING_RUN t true).get
      (F.TSL_CHtCFG_LEAD t) = s.get (F.TSL_CHtCFG_LEAD t) := by
    unfold State.setBit
    rw [State.get_set_other, State.get_set_other, State.get_set_other] <;>
      simp only [F.TSL_CHtCFG_LEAD, R.TSL_CHtCFG, F.TSL_RUNNING_RUN, R.TSL_RUNNING, F.TSL_CHtSTAT_RUN, R.TSL_CHtSTAT, F.TSL_CHtCTL_RUN,
        R.TSL_CHtCTL] <;> omega
  have hsafe : (tslStarted t s).on F.LCS_FSTAT_SAFE = s.on F.LCS_FSTAT_SAFE :=
    State.on_congr (get_tslStarted t.isLt s (by decide))
  unfold tslStart
  rw [if_neg (by simp [h])]
  refine (if_neg hc).trans ?_
  dsimp only
  rw [hlead]
  rw [← hsafe]
  rfl

theorem tslHalt_of_running {t : Nat} {s : State} (h : tslRuns t s = true) : tslHalt t s = tslStop t 0 s := if_pos h
theorem tslHalt_of_stopped {t : Nat} {s : State} (h : tslRuns t s = false) : tslHalt t s = s := if_neg (by simp [h])

/-! FIFO words through the fabric (R356). -/

theorem fabric_fifo {who : Who} {write : Bool} {a v : Nat} {s : State} (h : accessCheck who write a 4 s = .ok 14) :
    fabric .other who write a 4 v s = loggedReply who write a (.ans (fifoAccess write a (BitVec.ofNat 32 v) s).1,
      (fifoAccess write a (BitVec.ofNat 32 v) s).2) := by
  have hmem : memRegion 14 = false := by decide
  unfold fabric
  simp only [h, hmem, Bool.false_eq_true, if_false, show (14 : Nat) ≠ 32 from by decide, show (14 : Nat) ≠ 33 from by decide,
    deviceTarget, if_true]

theorem fifoAccess_out {t : Nat} (ht : t < 24) (w : Word) (s : State) :
    fifoAccess true (0x42002000 + 0x20 * t) w s = fifoOutWrite t w s := by
  have h1 : (0x42002000 + 0x20 * t - 0x42002000) / 0x20 = t := by omega
  have h2 : (0x42002000 + 0x20 * t) % 0x20 = 0 := by omega
  unfold fifoAccess
  simp only [h1, h2]
  rw [if_neg (by omega)]
  rfl

theorem fifoAccess_in {t : Nat} (ht : t < 24) (w : Word) (s : State) :
    fifoAccess false (0x42002004 + 0x20 * t) w s = fifoInRead t s := by
  have h1 : (0x42002004 + 0x20 * t - 0x42002000) / 0x20 = t := by omega
  have h2 : (0x42002004 + 0x20 * t) % 0x20 = 4 := by omega
  unfold fifoAccess
  simp only [h1, h2]
  rw [if_neg (by omega)]
  rfl

theorem accessCheck_of_toOption {who : Who} {write : Bool} {a size r : Nat} {s : State}
    (h : (accessCheck who write a size s).toOption = some r) : accessCheck who write a size s = .ok r := by
  cases hx : accessCheck who write a size s with
  | error c => simp [hx, Except.toOption] at h
  | ok q => simpa [hx, Except.toOption] using h

section
variable {cid a : Nat} {w : Word} {d : DWord} {c : Cause} {s u : State}

theorem fabricWrite_fifo (h : (accessCheck { cid := cid } true a 4 s).toOption = some 14) (hx : fifoAccess true a w s = (.ok d, u)) :
    fabricWrite cid a w s = u := by
  have hw : BitVec.ofNat 32 w.toNat = w := BitVec.ofNat_toNat ..
  unfold fabricWrite
  rw [fabric_fifo (accessCheck_of_toOption h), hw, hx]
  rfl

theorem fabricWrite_fifo_refused (h : (accessCheck { cid := cid } true a 4 s).toOption = some 14)
    (hx : fifoAccess true a w s = (.refused c, u)) : fabricWrite cid a w s = (busErr { cid := cid } true a c u).answerRefused c.code := by
  have hw : BitVec.ofNat 32 w.toNat = w := BitVec.ofNat_toNat ..
  unfold fabricWrite
  rw [fabric_fifo (accessCheck_of_toOption h), hw, hx]
  simp only [loggedReply, logged]

theorem fabricRead_fifo (h : (accessCheck { cid := cid } false a 4 s).toOption = some 14)
    (hx : ∀ w, fifoAccess false a w s = (.ok d, u)) : fabricRead cid a s = u.answer d.toNat := by
  unfold fabricRead
  rw [fabric_fifo (accessCheck_of_toOption h), hx]
  rfl

theorem fabricRead_fifo_refused (h : (accessCheck { cid := cid } false a 4 s).toOption = some 14)
    (hx : ∀ w, fifoAccess false a w s = (.refused c, u)) :
    fabricRead cid a s = (busErr { cid := cid } false a c u).answerRefused c.code := by
  unfold fabricRead
  rw [fabric_fifo (accessCheck_of_toOption h), hx]
  simp only [loggedReply, logged]

theorem fifoOutWrite_of_room {t : Nat} (h : (s.ts t).outq.length < 4) : fifoOutWrite t w s =
    (.ok 0#64, fifoKick t (s.setTs t { s.ts t with outq := (s.ts t).outq ++ [w], outstOut := (s.ts t).outstOut - 1 })) :=
  if_neg (Nat.not_le.mpr h)

theorem fifoOutWrite_of_full {t : Nat} (h : 4 ≤ (s.ts t).outq.length) : fifoOutWrite t w s = (.refused .busy, s) := if_pos h

theorem fifoInRead_of_word {t : Nat} {rest : List Word} (h : (s.ts t).inq = w :: rest) : fifoInRead t s =
    (.ok (w.setWidth 64), fifoKick t (s.setTs t { s.ts t with inq := rest, outstIn := (s.ts t).outstIn - 1 })) := by
  unfold fifoInRead
  dsimp only
  rw [h]

theorem fifoInRead_of_empty {t : Nat} (h : (s.ts t).inq = []) : fifoInRead t s = (.refused .busy, s) := by
  unfold fifoInRead
  dsimp only
  rw [h]

end

/-! The earliest event of a pin that is due (R348). -/

/-- The earlier of the event found so far and the next one; of equal ones the first. -/
def earlierDrive (b : Option (PinDrive × Nat)) (e : PinDrive × Nat) : Option (PinDrive × Nat) :=
  match b with
  | none => some e
  | some b => if e.2 < b.2 then some e else some b

/-- An event that every other one follows is the earliest. -/
theorem foldl_earlierDrive {e : PinDrive × Nat} : ∀ (l : List (PinDrive × Nat)) (b : Option (PinDrive × Nat)),
    (∀ f ∈ l, f = e ∨ e.2 < f.2) → (∀ f, b = some f → f = e ∨ e.2 < f.2) → (e ∈ l ∨ b = some e) → l.foldl earlierDrive b = some e
  | [], _, _, _, hin => hin.resolve_left (by simp)
  | x :: l, b, hl, hb, hin => by
    have hx := hl x List.mem_cons_self
    refine foldl_earlierDrive l _ (fun f hf => hl f (List.mem_cons_of_mem _ hf)) ?_ ?_
    · intro f hf
      cases b with
      | none => exact Option.some.inj hf ▸ hx
      | some b =>
        simp only [earlierDrive] at hf
        split at hf
        · exact Option.some.inj hf ▸ hx
        · exact hb f hf
    · rcases hin with hin | rfl
      · rcases List.mem_cons.mp hin with rfl | hin
        · right
          cases b with
          | none => rfl
          | some b =>
            rcases hb b rfl with rfl | hlt
            · exact if_neg (lt_irrefl _)
            · exact if_pos hlt
        · exact .inl hin
      · right
        refine if_neg ?_
        rcases hx with rfl | hlt
        · exact lt_irrefl _
        · omega

/-- Pin `n` takes the level of event `e`, and follows it where the pad carries it (R348, R350). -/
def launchDrive (n : Nat) (e : PinDrive × Nat) (s : State) : State :=
  let u := setPin n { pinAt n s with drive := e.1, queue := (pinAt n s).queue.erase e } s
  if tpConnected n u then
    match padLevel (32 + n) u with
    | some v => tpEdge n v u
    | none => u
  else u

theorem pinEventFire_eq (n : Nat) (s : State) : pinEventFire n s =
    (((pinAt n s).queue.filter fun e => decide (e.2 ≤ tb9 s)).foldl earlierDrive none).elim s (launchDrive n · s) := by
  show (match ((pinAt n s).queue.filter fun e => decide (e.2 ≤ tb9 s)).foldl earlierDrive none with
    | none => s
    | some e => launchDrive n e s) = _
  cases ((pinAt n s).queue.filter fun e => decide (e.2 ≤ tb9 s)).foldl earlierDrive none <;> rfl

theorem pinEventFire_of_none_due {n : Nat} {s : State} (h : ∀ e ∈ (pinAt n s).queue, tb9 s < e.2) : pinEventFire n s = s := by
  have hnil : ((pinAt n s).queue.filter fun e => decide (e.2 ≤ tb9 s)) = [] :=
    List.filter_eq_nil_iff.mpr fun e he => by simpa using h e he
  rw [pinEventFire_eq, hnil]
  rfl

theorem pinEventFire_of_first {n : Nat} {e : PinDrive × Nat} {s : State} (he : e ∈ (pinAt n s).queue) (hdue : e.2 ≤ tb9 s)
    (hfirst : ∀ f ∈ (pinAt n s).queue, f = e ∨ e.2 < f.2) : pinEventFire n s = launchDrive n e s := by
  rw [pinEventFire_eq, foldl_earlierDrive _ none (fun f hf => hfirst f (List.mem_of_mem_filter hf)) (by simp)
    (.inl (List.mem_filter.mpr ⟨he, by simpa using hdue⟩))]
  rfl

/-- A pad that carries the pin has one function, which a launch leaves as it is. -/
theorem tpConnected_setPin (n : Nat) (x : TslPin) (s : State) : tpConnected n (setPin n x s) = tpConnected n s := rfl

/-! A captured edge (R350). -/

theorem tpEdge_of_same {n : Nat} {v : Bool} {s : State} (h : s.bit F.TSL_PINLVL_LVL n = v) : tpEdge n v s = s := if_pos h

theorem tpEdge_effects {n : Fin 32} {v : Bool} {s : State} (h : s.bit F.TSL_PINLVL_LVL n = !v) :
    let u := tpEdge n v s
    u.bit F.TSL_PINLVL_LVL n = v ∧ (pinAt n u).edges = (tb9 s, v) :: (pinAt n s).edges ∧ u.mem = s.mem := by
  have hpins : (s.tslPin.mapIdx fun i p => if i = n.val then { p with edges := (tb9 s, v) :: p.edges } else p) =
      s.tslPin.mapIdx fun i p => if i = n.val then { pinAt n s with edges := (tb9 s, v) :: (pinAt n s).edges } else p := by
    refine Vector.ext fun i hi => ?_
    rw [Vector.getElem_mapIdx, Vector.getElem_mapIdx]
    by_cases hin : i = n.val
    · have hp : pinAt n s = s.tslPin[i] := by simp [pinAt, ← hin, hi]
      rw [if_pos hin, if_pos hin, hp]
    · rw [if_neg hin, if_neg hin]
  have hu : tpEdge n v s = setPin n { pinAt n s with edges := (tb9 s, v) :: (pinAt n s).edges } (s.setBit F.TSL_PINLVL_LVL n v) :=
    (if_neg (by simp [h])).trans (congrArg (fun q => { s.setBit F.TSL_PINLVL_LVL n v with tslPin := q }) hpins)
  intro u
  have hu' : u = _ := hu
  clear_value u
  subst hu'
  refine ⟨?_, by rw [pinAt_setPin_same n.isLt], rfl⟩
  exact (State.bit_setBit (f := F.TSL_PINLVL_LVL) (Nat.le_refl 32) (i := n) n.isLt v s).trans (if_pos rfl)

theorem tslPin_tslServed (t : Nat) (s : State) : (tslServed t s).tslPin = s.tslPin := rfl

/-- Settles O38: the start and stop by the channel's own register, the rest by the operation of each command. -/
theorem teaselChannels : Obligations.TeaselChannels := by
  unfold Obligations.TeaselChannels
  refine ⟨?_, ?_, ?_, fun n s h => ?_, fun n e s he hdue hfirst => ?_, fun n v s hc hv => ?_, fun n v s h => ?_, fun t c s => ?_⟩
  · intro cid t s ha hc clash
    obtain ⟨hrow, haddr⟩ := tslCtl_row t
    have hwrite {w : Word} {u : State} (h : (if fieldOf 0 1 w = 1 then tslStart t s.begin else tslHalt t s.begin) = u) :
        rowS (fabricWrite cid.toNat (R.TSL_CHtCTL t).addr w) s = .next (settle u) :=
      write_takes (d := 0#64) ha hrow (by omega) fun row => by
        rw [specialWriteTsl (by omega), tslWrite_ctl hc t.isLt haddr, h]
    refine ⟨fun hr hcl => hwrite (w := 1#32) ?_, fun hr hcl => hwrite (w := 1#32) ?_, fun hr => hwrite (w := 1#32) ?_,
      fun hr => hwrite (w := 0#32) ?_, fun hr => hwrite (w := 0#32) ?_⟩
    · exact tslStart_of_clash (s := s.begin) hr hcl
    · exact tslStart_of_free (s := s.begin) hr hcl
    · exact tslStart_of_running (s := s.begin) hr
    · exact tslHalt_of_running (s := s.begin) hr
    · exact tslHalt_of_stopped (s := s.begin) hr
  · intro cid t v s ha hd
    refine ⟨fun hroom => ?_, fun hfull => ?_⟩
    · exact congrArg (fun u => Host.Outcome.next (settle u))
        (fabricWrite_fifo (s := s.begin) ha ((fifoAccess_out t.isLt v _).trans (fifoOutWrite_of_room (s := s.begin) hroom)))
    · exact congrArg (fun u => Host.Outcome.next (settle u))
        (fabricWrite_fifo_refused (s := s.begin) ha ((fifoAccess_out t.isLt v _).trans (fifoOutWrite_of_full (s := s.begin) hfull)))
  · intro cid t s ha hd
    refine ⟨fun v rest hq => ?_, fun hq => ?_⟩
    · have hnat : (v.setWidth 64).toNat = v.toNat := by simp; omega
      refine congrArg (fun u => Host.Outcome.next (settle u)) ((fabricRead_fifo (s := s.begin) ha
        fun w => (fifoAccess_in t.isLt w _).trans (fifoInRead_of_word (s := s.begin) hq)).trans ?_)
      rw [hnat]
      rfl
    · exact congrArg (fun u => Host.Outcome.next (settle u)) (fabricRead_fifo_refused (s := s.begin) ha
        fun w => (fifoAccess_in t.isLt w _).trans (fifoInRead_of_empty (s := s.begin) hq))
  · exact congrArg Host.Outcome.next (pinEventFire_of_none_due (s := s.begin) h)
  · exact congrArg Host.Outcome.next (pinEventFire_of_first (s := s.begin) he hdue hfirst)
  · exact ⟨tpEdge n v s.begin, congrArg Host.Outcome.next (if_pos hc), tpEdge_effects (s := s.begin) hv⟩
  · rcases h with hc | hv
    · exact congrArg Host.Outcome.next (if_neg (show ¬ tpConnected n s.begin = true from by simp [show tpConnected n s.begin = false from hc]))
    · refine congrArg Host.Outcome.next ?_
      show (if tpConnected n s.begin = true then tpEdge n v s.begin else s.begin) = _
      rw [tpEdge_of_same (s := s.begin) hv, ite_self]
  · intro u
    have hget (f : Fld) : u.get f = (s.tslStops t c).get f := (get_tslServed t u f).symm
    have hpin (n : Nat) : pinAt n u = pinAt n (s.tslStops t c) := pinAt_congr (tslPin_tslServed t u).symm n
    clear_value u
    refine ⟨?_, (hget _).trans (get_stopcause_tslStops t c s), fun n hlo hhi => ?_⟩
    · exact (State.on_congr (hget _)).trans (tslRuns_tslStops t c s)
    · rw [hpin]
      exact queue_tslStops hlo hhi n.isLt c

end Sys2Proof.Machine
end

section
/-!
PROOFS. Service points of arbitrated resources, and scheduled actions (R11, R13, R14, R235, R239, R267, R287).
-/
namespace Sys2Proof.Machine

/-! The request with the least key. -/

section
variable {key : SvcReq → Nat} {r : SvcReq} {l : List SvcReq}

/-- The request with the lesser key of the one found so far and the next one. -/
def lesserReq (key : SvcReq → Nat) (b : Option SvcReq) (r : SvcReq) : Option SvcReq :=
  match b with
  | none => some r
  | some x => if key r < key x then some r else b

theorem pickMin_eq (key : SvcReq → Nat) (l : List SvcReq) : pickMin key l = l.foldl (lesserReq key) none := rfl

theorem foldl_lesserReq : ∀ (l : List SvcReq) (x : SvcReq), ∃ r, l.foldl (lesserReq key) (some x) = some r ∧ r ∈ x :: l ∧
    ∀ y ∈ x :: l, key r ≤ key y
  | [], x => ⟨x, rfl, by simp⟩
  | y :: l, x => by
    by_cases hy : key y < key x
    · obtain ⟨r, hr, hmem, hmin⟩ := foldl_lesserReq l y
      have hstep : lesserReq key (some x) y = some y := if_pos hy
      refine ⟨r, by rw [List.foldl_cons, hstep, hr], List.mem_cons_of_mem _ hmem, fun z hz => ?_⟩
      rcases List.mem_cons.mp hz with rfl | hz
      · exact (hmin y List.mem_cons_self).trans hy.le
      · exact hmin z hz
    · obtain ⟨r, hr, hmem, hmin⟩ := foldl_lesserReq l x
      have hstep : lesserReq key (some x) y = some x := if_neg hy
      refine ⟨r, by rw [List.foldl_cons, hstep, hr], ?_, fun z hz => ?_⟩
      · rcases List.mem_cons.mp hmem with rfl | hmem
        · exact List.mem_cons_self
        · exact List.mem_cons_of_mem _ (List.mem_cons_of_mem _ hmem)
      · rcases List.mem_cons.mp hz with rfl | hz
        · exact hmin z List.mem_cons_self
        · rcases List.mem_cons.mp hz with rfl | hz
          · exact (hmin x List.mem_cons_self).trans (Nat.le_of_not_lt hy)
          · exact hmin z (List.mem_cons_of_mem _ hz)

theorem pickMin_cons (x : SvcReq) (l : List SvcReq) : ∃ r, pickMin key (x :: l) = some r ∧ r ∈ x :: l ∧ ∀ y ∈ x :: l, key r ≤ key y :=
  foldl_lesserReq l x

theorem pickMin_eq_none : pickMin key l = none ↔ l = [] := by
  cases l with
  | nil => simp [pickMin_eq]
  | cons x l =>
    obtain ⟨r, hr, -⟩ := pickMin_cons (key := key) x l
    simp [hr]

/-- What `pickMin` answers is in the list, and no other key there is less. -/
theorem pickMin_least (h : pickMin key l = some r) : r ∈ l ∧ ∀ y ∈ l, key r ≤ key y := by
  cases l with
  | nil => cases h
  | cons x l =>
    obtain ⟨q, hq, hmin⟩ := pickMin_cons (key := key) x l
    rw [h] at hq
    exact Option.some.inj hq ▸ hmin

end

/-! A service point by its resource. -/

section
variable {q : Resource} {s : State} {r : SvcReq}

theorem serveWinner_of_none (h : svcWinner q s = none) : serveWinner q s = s := by
  unfold serveWinner serveWith
  rw [h]

theorem serveWinner_of_some (h : svcWinner q s = some r) :
    serveWinner q s = svcServe r (capturedWith q (svcErase r s)) (svcErase r s) := by
  unfold serveWinner serveWith
  rw [h]
  dsimp only
  rw [List.append_nil]

/-- The state once the arrivals of a service point pend. -/
def arrived (l : List SvcReq) (s : State) : State := l.foldl (fun s r => svcArrive r s) s

theorem servicePoint_bank (b : Fin 68) (l : List SvcReq) (s : State) :
    servicePoint (.bank b) l s = pwrServed b (serveWinner (.bank b) (pwrCapture b 0 (arrived l s))) := rfl

theorem servicePoint_hop {g : Fin 8} {l : List SvcReq} (h : ((arrived l s).share.hops.any fun h => h.1 / 16 == g.val) = true) :
    servicePoint (.group g) l s = nextHop g (arrived l s) := if_pos h

theorem servicePoint_winner {l : List SvcReq} (h : (∃ g : Fin 8, q = .group g ∧
    ((arrived l s).share.hops.any fun h => h.1 / 16 == g.val) = false) ∨ q ∈ [.portB, .bells, .pool, .router]) :
    servicePoint q l s = serveWinner q (arrived l s) := by
  rcases h with ⟨g, rfl, hg⟩ | h
  · exact if_neg (ne_true_of_eq_false hg)
  · fin_cases h <;> rfl

theorem svcServe_of_no_writes {others : List SvcReq} (h : writesWith r others s = []) :
    svcServe r others s = noteFetch r others (svcAccess r s) := by
  unfold svcServe
  dsimp only
  rw [h, if_pos (.inl rfl)]

/-! The winner by its resource (R14, R235, R287). -/

theorem svcWinner_bank (b : Fin 68) (s : State) : svcWinner (.bank b) s =
    ((bankCaptured b s).find? (fetchDue b s)).or (pickMin (ringKey (bankPtr b s)) (bankCaptured b s)) := rfl

theorem bankCaptured_of_none {b : Fin 68} (h : pwrWaiting b s = none) : bankCaptured b s = pendingAt (.bank b) s := by
  unfold bankCaptured
  rw [h]

theorem bankCaptured_of_captured {b : Fin 68} {k t n : Nat} (h : pwrWaiting b s = some (k, t, some n)) :
    bankCaptured b s = (pendingAt (.bank b) s).take n := by
  unfold bankCaptured
  rw [h]

theorem mem_of_svcWinner_bank {b : Fin 68} (h : svcWinner (.bank b) s = some r) : r ∈ bankCaptured b s := by
  rw [svcWinner_bank, Option.or_eq_some_iff] at h
  rcases h with h | ⟨-, h⟩
  · exact List.mem_of_find?_eq_some h
  · exact (pickMin_least h).1

theorem svcWinner_bank_fetch {b : Fin 68} (h : svcWinner (.bank b) s = some r) (hany : (bankCaptured b s).any (fetchDue b s) = true) :
    fetchDue b s r = true := by
  rw [svcWinner_bank, Option.or_eq_some_iff] at h
  rcases h with h | ⟨h, -⟩
  · exact List.find?_some h
  · obtain ⟨x, hx, hdue⟩ := List.any_eq_true.mp hany
    exact absurd hdue (List.find?_eq_none.mp h x hx)

theorem svcWinner_bank_ring {b : Fin 68} (h : svcWinner (.bank b) s = some r) (hnone : (bankCaptured b s).any (fetchDue b s) = false) :
    ∀ x ∈ bankCaptured b s, ringKey (bankPtr b s) r ≤ ringKey (bankPtr b s) x := by
  rw [svcWinner_bank, Option.or_eq_some_iff] at h
  rcases h with h | ⟨-, h⟩
  · exact absurd (List.find?_some h) (by simpa using List.any_eq_false.mp hnone r (List.mem_of_find?_eq_some h))
  · exact (pickMin_least h).2

/-- The key of a group's request: the effective priority from the highest down, then the CID (R14). -/
def groupKey (s : State) (r : SvcReq) : Nat := (15 - reqPri s r) * 64 + reqTie r

/-- The requests a group chooses from: the local ones and the first of port B. -/
def groupRequests (g : Fin 8) (s : State) : List SvcReq :=
  ((pendingAt (.group g) s).filter fun y => !y.viaB) ++ ((pendingAt (.group g) s).filter fun y => y.viaB).take 1

theorem svcWinner_group (g : Fin 8) (s : State) : svcWinner (.group g) s = pickMin (groupKey s) (groupRequests g s) := rfl

theorem groupRequests_eq_nil {g : Fin 8} : groupRequests g s = [] ↔ pendingAt (.group g) s = [] := by
  unfold groupRequests
  rw [List.append_eq_nil_iff, List.take_eq_nil_iff]
  refine ⟨fun ⟨hnear, hfar⟩ => List.eq_nil_iff_forall_not_mem.mpr fun x hx => ?_, fun h => by simp [h]⟩
  have hfar := hfar.resolve_left (by decide)
  cases hv : x.viaB
  · exact List.not_mem_nil (hnear ▸ List.mem_filter.mpr ⟨hx, by simp [hv]⟩)
  · exact List.not_mem_nil (hfar ▸ List.mem_filter.mpr ⟨hx, hv⟩)

theorem reqTie_lt (r : SvcReq) : reqTie r < 64 := by
  unfold reqTie
  split <;> exact BitVec.isLt _

/-- A lesser key of a group: a higher priority, or an equal one and no higher CID. -/
theorem priority_of_groupKey_le {x : SvcReq} (h : groupKey s r ≤ groupKey s x) (hr : reqPri s r ≤ 15) (hx : reqPri s x ≤ 15) :
    reqPri s x < reqPri s r ∨ (reqPri s x = reqPri s r ∧ reqTie r ≤ reqTie x) := by
  have hr64 := reqTie_lt r
  have hx64 := reqTie_lt x
  unfold groupKey at h
  omega

theorem svcWinner_portB (s : State) : svcWinner .portB s = (pickMin classKey (pendingAt .portB s)).bind fun m =>
    (pickMin (ringKey (bankPtr 0x40 s)) ((pendingAt (.bank 0x40) s).filter (shareWord m))).or (some m) := by
  unfold svcWinner
  dsimp only
  cases pickMin classKey (pendingAt .portB s) <;> rfl

theorem svcWinner_bells (s : State) : svcWinner .bells s =
    (pickMin (ringKey s.svc.bellPtr) ((pendingAt .bells s).filter fun r => !r.viaB)).or (pendingAt .bells s).head? := by
  unfold svcWinner
  dsimp only
  cases pickMin (ringKey s.svc.bellPtr) ((pendingAt .bells s).filter fun r => !r.viaB) <;> rfl

/-- A resource idles where no request pends. -/
theorem svcWinner_eq_none (h : ∀ b : Fin 68, q = .bank b → pwrWaiting b s = none) : svcWinner q s = none ↔ pendingAt q s = [] := by
  cases q with
  | bank b =>
    rw [svcWinner_bank, Option.or_eq_none_iff, pickMin_eq_none, bankCaptured_of_none (h b rfl), and_iff_right_iff_imp]
    exact fun h => by rw [h]; rfl
  | portB =>
    rw [svcWinner_portB, Option.bind_eq_none_iff]
    refine ⟨fun h => ?_, fun h => by simp [h, pickMin_eq]⟩
    cases hm : pickMin classKey (pendingAt .portB s) with
    | none => exact pickMin_eq_none.mp hm
    | some m => exact absurd (h m hm) (by simp)
  | group g => rw [svcWinner_group, pickMin_eq_none, groupRequests_eq_nil]
  | bells =>
    rw [svcWinner_bells, Option.or_eq_none_iff, List.head?_eq_none_iff, and_iff_right_iff_imp]
    exact fun h => by rw [h]; rfl
  | pool => exact pickMin_eq_none
  | router => exact pickMin_eq_none

end

/-- Settles O55: the winner as the least key among the requests of its resource. -/
theorem servicePointsAndSchedules : Obligations.ServicePointsAndSchedules := by
  unfold Obligations.ServicePointsAndSchedules
  refine ⟨⟨?_, ?_, ?_, fun r x s => ?_, fun q s => svcWinner_eq_none,
    fun r others s => svcServe_of_no_writes⟩, fun l s => rfl, fun g k s => rfl, fun c s => rfl, fun n s => rfl, fun c s => rfl, fun g s => rfl⟩
  · intro q l s u serve
    have hrun {t : State} (h : servicePoint q l s.begin = t) : exec (.servicePoint q l) s = .next (settle t) :=
      congrArg (fun v => Host.Outcome.next (settle v)) h
    refine ⟨?_, fun g hq hop => hrun ?_, fun hq => ⟨fun hw => hrun ?_, fun r hw => hrun ?_⟩⟩
    · intro b hq v
      subst hq
      refine ⟨fun hw => hrun ?_, fun r hw => hrun ?_⟩
      · exact congrArg (pwrServed b) (serveWinner_of_none hw)
      · exact congrArg (pwrServed b) (serveWinner_of_some hw)
    · subst hq
      exact servicePoint_hop hop
    · exact (servicePoint_winner hq).trans (serveWinner_of_none hw)
    · exact (servicePoint_winner hq).trans (serveWinner_of_some hw)
  · intro b r s hw l
    refine ⟨fun hp hany => ?_, fun hp hnone => ?_, fun k t n hp => bankCaptured_of_captured hp ▸ mem_of_svcWinner_bank hw⟩
    · have hl : bankCaptured b s = l := bankCaptured_of_none hp
      exact ⟨hl ▸ mem_of_svcWinner_bank hw, svcWinner_bank_fetch hw (hl ▸ hany)⟩
    · have hl : bankCaptured b s = l := bankCaptured_of_none hp
      exact ⟨hl ▸ mem_of_svcWinner_bank hw, hl ▸ svcWinner_bank_ring hw (hl ▸ hnone)⟩
  · intro g r x s l c hw hx hr hxp
    obtain ⟨hmem, hmin⟩ := pickMin_least (svcWinner_group g s ▸ hw)
    exact ⟨hmem, priority_of_groupKey_le (hmin x hx) hr hxp⟩
  · refine ⟨fun q hq hw hx => ?_, fun hw => ?_, fun hw hx hlocal => ?_, fun hw hall => ?_⟩
    · fin_cases hq
      · exact ⟨(pickMin_least hw).1, (pickMin_least hw).2 x hx⟩
      · exact ⟨(pickMin_least hw).1, (pickMin_least hw).2 x hx⟩
    · rw [svcWinner_portB, Option.bind_eq_some_iff] at hw
      obtain ⟨m, hm, hw⟩ := hw
      refine ⟨m, (pickMin_least hm).1, (pickMin_least hm).2 x, ?_⟩
      rw [Option.or_eq_some_iff] at hw
      rcases hw with hw | ⟨-, hw⟩
      · obtain ⟨hmem, hmin⟩ := pickMin_least hw
        obtain ⟨hr, hshare⟩ := List.mem_filter.mp hmem
        exact .inr ⟨hr, hshare, fun hx hxs => hmin x (List.mem_filter.mpr ⟨hx, hxs⟩)⟩
      · exact .inl (Option.some.inj hw).symm
    · have hxf : x ∈ (pendingAt .bells s).filter fun r => !r.viaB := List.mem_filter.mpr ⟨hx, by simp [hlocal]⟩
      rw [svcWinner_bells, Option.or_eq_some_iff] at hw
      rcases hw with hw | ⟨hw, -⟩
      · obtain ⟨hmem, hmin⟩ := pickMin_least hw
        obtain ⟨hr, hv⟩ := List.mem_filter.mp hmem
        exact ⟨hr, by simpa using hv, hmin x hxf⟩
      · exact absurd hxf (by rw [pickMin_eq_none.mp hw]; exact List.not_mem_nil)
    · have hnil : ((pendingAt .bells s).filter fun r => !r.viaB) = [] :=
        List.filter_eq_nil_iff.mpr fun y hy => by simp [hall y hy]
      rwa [svcWinner_bells, hnil] at hw

end Sys2Proof.Machine
end

section
/-!
PROOFS. Requests of another unit, served at port B (R413).
-/
namespace Sys2Proof.Machine

variable {f : Frame} {s : State}

/-! A read. -/

theorem onRd_of_quarantined (h : quarantined s = true) : onRd f s = chainSend (errReply f 7) s := if_pos h

theorem onRd_of_free (h : quarantined s = false) : onRd f s =
    if 0x8000 ≤ f.at_ 0 2 then chainSend (errReply f 2) s
    else if 3 < f.at_ 2 1 then chainSend (errReply f 3) s
    else
      let r := portB (frameWho (portBCid f.src) f s).1 false (f.at_ 0 2) (2 ^ f.at_ 2 1) 0 (frameWho (portBCid f.src) f s).2
      match r.1 with
      | .ok d => chainSend (reply f 1 (leBytes (2 ^ f.at_ 2 1) d.toNat)) r.2
      | .refused c => chainSend (errReply f (errCode c)) r.2 := by
  refine (if_neg (by simp [h])).trans ?_
  dsimp only
  generalize portB _ _ _ _ _ _ = r
  obtain ⟨_ | _, v⟩ := r <;> rfl

/-! A write, answered but for a broadcast one. -/

/-- The answer to a write; a broadcast write has none. -/
def writeAnswer (f r : Frame) (s : State) : State := if f.typ = 5 then s else chainSend r s

theorem writeAnswer_of_wr (h : f.typ = 2) (r : Frame) (s : State) : writeAnswer f r s = chainSend r s := if_neg (by simp [h])
theorem writeAnswer_of_bwr (h : f.typ = 5) (r : Frame) (s : State) : writeAnswer f r s = s := if_pos h

theorem onWr_of_quarantined (h : quarantined s = true) : onWr f s = writeAnswer f (errReply f 7) s := by
  unfold onWr writeAnswer
  rw [if_pos h]
  simp only [beq_iff_eq]

theorem onWr_of_free (h : quarantined s = false) : onWr f s =
    if 0x8000 ≤ f.at_ 0 2 then writeAnswer f (errReply f 2) s
    else if 3 < f.at_ 2 1 then writeAnswer f (errReply f 3) s
    else
      let w := frameWho (if f.typ = 5 then 60 else portBCid f.src) f s
      let r := portB w.1 true (f.at_ 0 2) (2 ^ f.at_ 2 1) (leNat (f.data.drop 4)) w.2
      writeAnswer f (match r.1 with
        | .ok _ => reply f 2 []
        | .refused c => errReply f (errCode c)) r.2 := by
  unfold onWr writeAnswer
  rw [if_neg (by simp [h])]
  simp only [beq_iff_eq]
  generalize portB _ _ _ _ _ _ = r
  obtain ⟨_ | _, v⟩ := r <;> rfl

/-! A semaphore operation, done once (R413). -/

theorem onSemop_of_quarantined (h : quarantined s = true) : onSemop f s = chainSend (errReply f 7) s := if_pos h

theorem onSemop_of_repeated {r : Frame} (hq : quarantined s = false) (hd : dupFind f s = some r) : onSemop f s = chainSend r s := by
  unfold onSemop
  rw [if_neg (by simp [hq]), hd]

/-- The operation that code `op` names. -/
def semopOf (op : Nat) : SemOp :=
  match op with
  | 0 => .try_
  | 1 => .take
  | 2 => .give
  | _ => .cancel

theorem onSemop_of_new (hq : quarantined s = false) (hd : dupFind f s = none) : onSemop f s =
    let op := f.at_ 0 1
    let k := f.at_ 1 1
    let who : Who := { cid := portBCid f.src, origin := f.src }
    if 31 < k then replyKept f (errReply f 2) s
    else if 3 < op then replyKept f (errReply f 1) s
    else match accessCheck who (op != 0) (winAddr (0x7C00 + 4 * k)) 4 s with
      | .error c => replyKept f (errReply f (errCode c)) (busErr who (op != 0) (winAddr (0x7C00 + 4 * k)) c s)
      | .ok _ => semReply f (semOp (semopOf op) (op != 0) (96 + k) who.cid ⟨f.at_ 2 1 % 64, f.src, f.at_ 3 1 % 16⟩ s) := by
  unfold onSemop
  rw [if_neg (by simp [hq]), hd]
  dsimp only
  generalize accessCheck _ _ _ _ _ = r
  cases r <;> rfl

/-! A mailbox post, done once. -/

theorem onMbxpost_of_quarantined (h : quarantined s = true) : onMbxpost f s = chainSend (errReply f 7) s := if_pos h

theorem onMbxpost_of_repeated {r : Frame} (hq : quarantined s = false) (hd : dupFind f s = some r) :
    onMbxpost f s = chainSend r s := by
  unfold onMbxpost
  rw [if_neg (by simp [hq]), hd]

theorem onMbxpost_of_new (hq : quarantined s = false) (hd : dupFind f s = none) : onMbxpost f s =
    let m := f.at_ 0 1
    let who : Who := { cid := portBCid f.src, origin := f.src }
    if 31 < m then replyKept f (errReply f 2) s
    else
      let r := mailboxPostB who m (f.at_ 2 2) (f.at_ 1 1 % 64) [f.at_ 4 4, f.at_ 8 4, f.at_ 12 4] s
      match r.1 with
      | .ok _ => replyKept f (reply f 2 []) r.2
      | .refused c => replyKept f (errReply f (errCode c)) (busErr who true (winAddr (0x7D00 + 16 * m)) c r.2) := by
  unfold onMbxpost
  rw [if_neg (by simp [hq]), hd]
  dsimp only
  generalize mailboxPostB _ _ _ _ _ _ = r
  obtain ⟨_ | _, v⟩ := r <;> rfl

/-- Settles O45: each frame by the checks its request passes. -/
theorem servingRequests : Obligations.ServingRequests := by
  unfold Obligations.ServingRequests
  intro p f s u off z who cast ends tell keeps err good data
  refine ⟨fun h => ?_, fun h ht => ?_, fun h ht => ?_, ?_, ?_⟩
  · have hrun {v : State} (hv : onRd f u = v) : exec (.rd p) s = ends v := (h.rowS onRd).trans (congrArg ends hv)
    refine ⟨fun hq => hrun (onRd_of_quarantined hq), fun hq hoff => hrun ?_, fun hq hoff hz => hrun ?_, fun d v hgood hr => hrun ?_,
      fun c v hgood hr => hrun ?_⟩
    · exact (onRd_of_free hq).trans (if_pos hoff)
    · exact (onRd_of_free hq).trans ((if_neg (Nat.not_le.mpr hoff)).trans (if_pos hz))
    · obtain ⟨hq, hoff, hz⟩ := hgood
      refine (onRd_of_free hq).trans ((if_neg (Nat.not_le.mpr hoff)).trans ((if_neg (Nat.not_lt.mpr hz)).trans ?_))
      rw [hr]
    · obtain ⟨hq, hoff, hz⟩ := hgood
      refine (onRd_of_free hq).trans ((if_neg (Nat.not_le.mpr hoff)).trans ((if_neg (Nat.not_lt.mpr hz)).trans ?_))
      rw [hr]
  · have hrun {r : Frame} {v : State} (hv : onWr f u = writeAnswer f r v) : exec (.wr p) s = tell r v :=
      (h.rowS onWr).trans (congrArg ends (hv.trans (writeAnswer_of_wr ht r v)))
    have hcid : (if f.typ = 5 then 60 else portBCid f.src) = portBCid f.src := if_neg (by simp [ht])
    refine ⟨fun hq => hrun (onWr_of_quarantined hq), fun hq hoff => hrun ?_, fun hq hoff hz => hrun ?_, fun d v hgood hr => hrun ?_,
      fun c v hgood hr => hrun ?_⟩
    · exact (onWr_of_free hq).trans (if_pos hoff)
    · exact (onWr_of_free hq).trans ((if_neg (Nat.not_le.mpr hoff)).trans (if_pos hz))
    · obtain ⟨hq, hoff, hz⟩ := hgood
      refine (onWr_of_free hq).trans ((if_neg (Nat.not_le.mpr hoff)).trans ((if_neg (Nat.not_lt.mpr hz)).trans ?_))
      rw [hcid]
      dsimp only
      rw [hr]
    · obtain ⟨hq, hoff, hz⟩ := hgood
      refine (onWr_of_free hq).trans ((if_neg (Nat.not_le.mpr hoff)).trans ((if_neg (Nat.not_lt.mpr hz)).trans ?_))
      rw [hcid]
      dsimp only
      rw [hr]
  · have hrun {r : Frame} {v : State} (hv : onWr f u = writeAnswer f r v) : exec (.bwr p) s = ends v :=
      (h.rowS onWr).trans (congrArg ends (hv.trans (writeAnswer_of_bwr ht r v)))
    have hcid : (if f.typ = 5 then 60 else portBCid f.src) = 60 := if_pos ht
    refine ⟨fun hgood => ?_, fun hbad => ?_⟩
    · obtain ⟨hq, hoff, hz⟩ := hgood
      have hwr := (onWr_of_free hq).trans ((if_neg (Nat.not_le.mpr hoff)).trans ((if_neg (Nat.not_lt.mpr hz)).trans
        (writeAnswer_of_bwr ht _ _)))
      rw [hcid] at hwr
      exact (h.rowS onWr).trans (congrArg ends hwr)
    · cases hq : quarantined u with
      | true => exact hrun (onWr_of_quarantined hq)
      | false =>
        by_cases hoff : 0x8000 ≤ off
        · exact hrun ((onWr_of_free hq).trans (if_pos hoff))
        · by_cases hz : 3 < z
          · exact hrun ((onWr_of_free hq).trans ((if_neg hoff).trans (if_pos hz)))
          · exact absurd ⟨hq, Nat.lt_of_not_le hoff, Nat.le_of_not_lt hz⟩ hbad
  · intro h k w check new
    have hrun {v : State} (hv : onSemop f u = v) : exec (.semop p) s = ends v := (h.rowS onSemop).trans (congrArg ends hv)
    have hnew (hn : new) := onSemop_of_new hn.1 hn.2
    refine ⟨fun hq => hrun (onSemop_of_quarantined hq), fun r hq hd => hrun (onSemop_of_repeated hq hd), fun hn hk => hrun ?_,
      fun hn hk hop => hrun ?_, fun c hn hk hop hc => hrun ?_, fun hn hk e he hop hok => hrun ?_⟩
    · exact (hnew hn).trans (if_pos hk)
    · exact (hnew hn).trans ((if_neg (Nat.not_lt.mpr hk)).trans (if_pos hop))
    · refine (hnew hn).trans ((if_neg (Nat.not_lt.mpr hk)).trans ((if_neg (Nat.not_lt.mpr hop)).trans ?_))
      rw [show accessCheck _ _ _ _ _ = .error c from hc]
    · have hop3 : e.1 ≤ 3 := by fin_cases he <;> decide
      have hsem : semopOf e.1 = e.2 := by fin_cases he <;> rfl
      refine (hnew hn).trans ((if_neg (Nat.not_lt.mpr hk)).trans ((if_neg (by rw [hop]; exact Nat.not_lt.mpr hop3)).trans ?_))
      rw [hop, hsem]
      cases hc : check e.1 with
      | error c => rw [hc] at hok; cases hok
      | ok r => rw [show accessCheck _ _ _ _ _ = .ok r from hc]
  · intro h m w r new
    have hrun {v : State} (hv : onMbxpost f u = v) : exec (.mbxpost p) s = ends v := (h.rowS onMbxpost).trans (congrArg ends hv)
    have hnew (hn : new) := onMbxpost_of_new hn.1 hn.2
    refine ⟨fun hq => hrun (onMbxpost_of_quarantined hq), fun r hq hd => hrun (onMbxpost_of_repeated hq hd), fun hn hm => hrun ?_,
      fun d hn hm hr => hrun ?_, fun c hn hm hr => hrun ?_⟩
    · exact (hnew hn).trans (if_pos hm)
    · refine (hnew hn).trans ((if_neg (Nat.not_lt.mpr hm)).trans ?_)
      dsimp only
      rw [show Prod.fst (mailboxPostB _ _ _ _ _ _) = .ok d from hr]
    · refine (hnew hn).trans ((if_neg (Nat.not_lt.mpr hm)).trans ?_)
      dsimp only
      rw [show Prod.fst (mailboxPostB _ _ _ _ _ _) = .refused c from hr]

end Sys2Proof.Machine
end

section
/-!
PROOFS. The state of a leg after other legs fault (R315, R316).
-/
namespace Sys2Proof.Machine

/-- What a loop over numbers leaves of a part that only its step `i` touches. -/
theorem forEach_view {α : Type} {view : State → α} {g : α → α} {f : Nat → State → State} {i : Nat} (hi : ∀ s, view (f i s) = g (view s)) :
    ∀ (n : Nat) (_ : ∀ j < n, j ≠ i → ∀ s, view (f j s) = view s) (s : State),
      view (forEach n f s) = if i < n then g (view s) else view s
  | 0, _, _ => rfl
  | n + 1, hother, s => by
    have hstep : forEach (n + 1) f s = f n (forEach n f s) := by
      simp only [forEach, List.range_succ, List.foldl_append, List.foldl_cons, List.foldl_nil]
    have ih := forEach_view hi n (fun j hj => hother j (by omega)) s
    rw [hstep]
    by_cases hn : n = i
    · subst hn
      rw [hi, ih, if_neg (lt_irrefl n), if_pos (by omega)]
    · rw [hother n (by omega) hn, ih]
      by_cases hlt : i < n
      · rw [if_pos hlt, if_pos (by omega)]
      · rw [if_neg hlt, if_neg (by omega)]

/-- A register of the timebases, of system control, or of a block above the DMA channels: what no event pulse writes. -/
abbrev NoRouter (f : Fld) : Prop := f.reg.addr < 0x50002000 ∨ 0x50004000 ≤ f.reg.addr

section
variable {l : Nat} {f : Fld} {s : State}

/-- A leg's latch writes its own STAT and ACC, and raises an event. -/
theorem get_legLatch (hr : NoRouter f) (hstat : f.reg.addr ≠ (R.PWM_LnSTAT (l / 8) (l % 8)).addr)
    (hacc : f.reg.addr ≠ (R.PWM_LnACC (l / 8) (l % 8)).addr) (c x : Nat) (s : State) : (legLatch l c x s).get f = s.get f := by
  have hset (lo wid v : Nat) (t : State) : (t.set ⟨R.PWM_LnSTAT (l / 8) (l % 8), lo, wid⟩ v).get f = t.get f :=
    t.get_set_other hstat v
  have hz : (legHiZ l s).get f = s.get f := by
    unfold legHiZ State.get
    rw [State.word_setWord_other _ _ hacc]
    rfl
  unfold legLatch
  split
  · rfl
  · exact (State.get_raise _ _ hr).trans ((hset ..).trans ((hset ..).trans ((hset ..).trans hz)))

theorem noRouter_legStat (l : Nat) : NoRouter (F.PWM_LnSTAT_STATE (l / 8) (l % 8)) := by
  refine .inr ?_
  simp only [F.PWM_LnSTAT_STATE, R.PWM_LnSTAT]
  omega

theorem legState_legLatch_same (l c x : Nat) (s : State) : legState l (legLatch l c x s) = 3 := by
  have hbeside (lo wid v : Nat) (h32 : lo + wid ≤ 32) (h3 : 0 + 3 ≤ lo) (t : State) :
      (t.set ⟨R.PWM_LnSTAT (l / 8) (l % 8), lo, wid⟩ v).get (F.PWM_LnSTAT_STATE (l / 8) (l % 8)) =
        t.get (F.PWM_LnSTAT_STATE (l / 8) (l % 8)) :=
    t.get_set_beside (f := ⟨R.PWM_LnSTAT (l / 8) (l % 8), lo, wid⟩) (g := F.PWM_LnSTAT_STATE (l / 8) (l % 8)) rfl h32 (.inl h3) v
  unfold legLatch legState
  split
  · next h => exact h
  · refine (State.get_raise _ _ (noRouter_legStat l)).trans ((hbeside _ _ _ (by decide) (by decide) _).trans
      ((hbeside _ _ _ (by decide) (by decide) _).trans ?_))
    rw [State.get_set_same _ (show 0 + 3 ≤ 32 by decide)]
    rfl

theorem legState_legLatch_other {k : Nat} (hk : k < 16) (hl : l < 16) (h : l ≠ k) (c x : Nat) (s : State) :
    legState l (legLatch k c x s) = legState l s := by
  refine get_legLatch (noRouter_legStat l) ?_ ?_ c x s <;>
    simp only [F.PWM_LnSTAT_STATE, R.PWM_LnSTAT, R.PWM_LnACC] <;> omega

theorem legArmed_iff {l : Nat} {s : State} : legArmed l s = true ↔ legState l s ∈ [1, 2, 4] := by
  simp [legArmed, or_assoc]

/-- The legs that a fault takes: those it names that are armed. -/
theorem legState_legsFault {p : Nat → Bool} (hl : l < 16) (c : Nat) (s : State) :
    legState l (legsFault p c s) = if p l = true ∧ legArmed l s = true then 3 else legState l s := by
  have hview := forEach_view (view := legState l) (g := fun n => if p l = true ∧ n ∈ [1, 2, 4] then 3 else n)
    (f := fun k s => if p k then legFault k c 0 s else s) (i := l) (fun s => ?_) 16 (fun k hk hne s => ?_) s
  · refine (hview.trans (if_pos hl)).trans ?_
    exact if_congr (and_congr_right fun _ => legArmed_iff.symm) rfl rfl
  · show legState l (if p l then legFault l c 0 s else s) = _
    unfold legFault
    by_cases hp : p l = true
    · by_cases ha : legArmed l s = true
      · rw [if_pos hp, if_pos ha, if_pos ⟨hp, legArmed_iff.mp ha⟩]
        exact legState_legLatch_same ..
      · rw [if_pos hp, if_neg ha, if_neg fun h => ha (legArmed_iff.mpr h.2)]
    · rw [if_neg hp, if_neg fun h => hp h.1]
  · show legState l (if p k then legFault k c 0 s else s) = _
    unfold legFault
    split_ifs
    · exact legState_legLatch_other hk hl (Ne.symm hne) c 0 s
    · rfl
    · rfl

end

end Sys2Proof.Machine
end

section
/-!
PROOFS. The slack governor and the policy sequencer (R435 to R443).
-/
namespace Sys2Proof.Machine

/-! The governor's target (R436, R437, R456). -/

section
variable {f : Fld} {s : State}

theorem get_govEnds (hr : NoRouter f) (hmin : Apart F.SYS_GOVSTAT_ATMIN f) (hmax : Apart F.SYS_GOVSTAT_ATMAX f) (s : State) :
    (govEnds s).get f = s.get f := by
  have h : ∀ a b : Bool, ((s.setB F.SYS_GOVSTAT_ATMIN a).setB F.SYS_GOVSTAT_ATMAX b).get f = s.get f := fun a b => by
    rw [State.get_setB_apart _ hmax, State.get_setB_apart _ hmin]
  unfold govEnds
  dsimp only
  split
  · rw [State.get_raise _ _ hr, h]
  · exact h ..

theorem gov_govEnds (s : State) : (govEnds s).gov = s.gov := by
  unfold govEnds
  dsimp only
  split
  · rw [State.raise_gov, State.setB_gov, State.setB_gov]
  · rw [State.setB_gov, State.setB_gov]

/-- A new target, and what stands beside it. -/
theorem get_govTarget_vtgt {v : Nat} (hv : v < 2 ^ 11) (s : State) : (govTarget v s).get F.SYS_GOVSTAT_VTGT = v := by
  unfold govTarget govWindow
  rw [State.get_set_apart _ (by decide)]
  refine (get_govEnds (by decide) (by decide) (by decide) _).trans ?_
  rw [State.get_set_same _ (by decide)]
  exact Nat.mod_eq_of_lt hv

theorem get_govTarget (hr : NoRouter f) (hmin : Apart F.SYS_GOVSTAT_ATMIN f) (hmax : Apart F.SYS_GOVSTAT_ATMAX f)
    (hwin : Apart F.SYS_GOVSTAT_WIN f) (hvtgt : Apart F.SYS_GOVSTAT_VTGT f) (v : Nat) (s : State) : (govTarget v s).get f = s.get f := by
  unfold govTarget govWindow
  rw [State.get_set_apart _ hwin]
  refine (get_govEnds hr hmin hmax _).trans ?_
  rw [State.get_set_apart _ hvtgt]
  split <;> rfl

theorem closed_govTarget (v : Nat) (s : State) : (govTarget v s).gov.closed = Vector.replicate 2 0 := rfl

/-! A loop pass by its slack (R435, R436). -/

theorem govInstance_of_idle {c : Fin 2} {v : Int} {lsper : Nat}
    (h : ¬(s.gov.released = true ∧ s.on F.SYS_GOVSET_MODE = false ∧ governed c s = true)) : govInstance c v lsper s = s := by
  unfold govInstance
  rw [if_pos]
  cases hr : s.gov.released <;> cases hm : s.on F.SYS_GOVSET_MODE <;> cases hg : governed c s <;> simp_all

/-- The governor once scheduler `c` has closed a pass that counts toward the window. -/
def govCounted (c : Fin 2) (v : Int) (lsper : Nat) (s : State) : Gov :=
  let rel : Int := if lsper = 0 then 0 else Int.tdiv (v * 1000) lsper
  { s.gov with
    closed := vupd s.gov.closed c (· + 1)
    allHigh := s.gov.allHigh && decide ((((s.get F.SYS_GOVCFG_TARGET + s.get F.SYS_GOVCFG_HYST) * lsper / 100 : Nat) : Int) ≤ v)
    minSlk := if lsper = 0 then s.gov.minSlk else some (match s.gov.minSlk with
      | some m => min m rel
      | none => rel) }

theorem govInstance_of_runs {c : Fin 2} {v : Int} {lsper : Nat}
    (h : s.gov.released = true ∧ s.on F.SYS_GOVSET_MODE = false ∧ governed c s = true) : govInstance c v lsper s =
      if v = -32768 ∨ v < ((s.get F.SYS_GOVCFG_EMERG * lsper / 100 : Nat) : Int) then govEmergency s
      else if v < ((s.get F.SYS_GOVCFG_TARGET * lsper / 100 : Nat) : Int) then
        let n := min (s.get F.SYS_GOVSTAT_VTGT + 10) (s.get F.SYS_GOVLIM_VMAX)
        govTarget n (if s.get F.SYS_GOVSTAT_VTGT < n then s.count F.SYS_GOVCNT_UP else s)
      else
        let u := { s with gov := govCounted c v lsper s }.count F.SYS_GOVSTAT_WIN
        if (governed 0 u → 64 ≤ u.gov.closed.get 0) ∧ (governed 1 u → 64 ≤ u.gov.closed.get 1) then govWindowEnd u else u := by
  obtain ⟨hr, hm, hg⟩ := h
  unfold govInstance
  rw [if_neg (by simp [hr, hm, hg])]
  rfl

theorem vtgt_lt (s : State) : s.get F.SYS_GOVSTAT_VTGT < 2 ^ 11 := State.get_lt s F.SYS_GOVSTAT_VTGT
theorem vmax_lt (s : State) : s.get F.SYS_GOVLIM_VMAX < 2 ^ 11 := State.get_lt s F.SYS_GOVLIM_VMAX

theorem govFloor_lt (s : State) : govFloor s < 2 ^ 11 :=
  max_lt (State.get_lt s F.SYS_GOVLIM_VMIN) (State.get_lt s F.SYS_GOVFLOOR_FLOOR)

theorem govEmergency_target (s : State) : (govEmergency s).get F.SYS_GOVSTAT_VTGT = s.get F.SYS_GOVLIM_VMAX ∧
    (govEmergency s).get F.SYS_GOVSTAT_STATE = 3 := by
  have hmax : ∀ g : Gov, ({ s with gov := g }.set F.SYS_GOVSTAT_STATE 3).get F.SYS_GOVLIM_VMAX = s.get F.SYS_GOVLIM_VMAX := fun g =>
    State.get_set_apart _ (by decide) _
  unfold govEmergency
  dsimp only
  rw [hmax]
  refine ⟨(State.get_raise _ _ (by decide)).trans (get_govTarget_vtgt (vmax_lt s) _), (State.get_raise _ _ (by decide)).trans ?_⟩
  rw [get_govTarget (by decide) (by decide) (by decide) (by decide) (by decide), State.get_count_apart _ (by decide),
    State.get_set_same _ (by decide)]
  rfl

/-- The window's end: the target falls where every slack in it was high (R436). -/
theorem govWindowEnd_target (s : State) : (govWindowEnd s).get F.SYS_GOVSTAT_VTGT =
      (if s.gov.allHigh = true then max (s.get F.SYS_GOVSTAT_VTGT - 5) (govFloor s) else s.get F.SYS_GOVSTAT_VTGT) ∧
    (govWindowEnd s).gov.closed = Vector.replicate 2 0 := by
  have hlt : max (s.get F.SYS_GOVSTAT_VTGT - 5) (govFloor s) < 2 ^ 11 :=
    max_lt (lt_of_le_of_lt (Nat.sub_le _ _) (vtgt_lt s)) (govFloor_lt s)
  obtain ⟨u, hu, hg, hgov⟩ : ∃ u : State, (∀ f : Fld, Apart F.SYS_GOVSLK_MIN f → u.get f = s.get f) ∧ u.gov = s.gov ∧
      govWindowEnd s = if u.gov.allHigh then
        govTarget (max (u.get F.SYS_GOVSTAT_VTGT - 5) (govFloor u))
          (if max (u.get F.SYS_GOVSTAT_VTGT - 5) (govFloor u) < u.get F.SYS_GOVSTAT_VTGT then u.count F.SYS_GOVCNT_DOWN else u)
      else govWindow u := by
    cases hm : s.gov.minSlk with
    | none => exact ⟨s, fun _ _ => rfl, rfl, by unfold govWindowEnd; rw [hm]⟩
    | some v =>
      exact ⟨s.setInt F.SYS_GOVSLK_MIN v, fun f hf => State.get_setInt_apart s hf v, rfl, by unfold govWindowEnd; rw [hm]⟩
  have hfloor : govFloor u = govFloor s := by rw [govFloor, govFloor, hu _ (by decide), hu _ (by decide)]
  have hvtgt := hu F.SYS_GOVSTAT_VTGT (by decide)
  rw [hgov, hg, hfloor, hvtgt]
  cases s.gov.allHigh
  · exact ⟨(State.get_set_apart _ (by decide) _).trans hvtgt, rfl⟩
  · exact ⟨get_govTarget_vtgt hlt _, rfl⟩

/-- The regulator reaches the target (R437). -/
theorem govReached_of_due (h : ¬(s.gov.emerg = false ∧
    s.now < s.gov.movedAt + 2000 * ((s.get F.SYS_GOVSTAT_VTGT : Int) - s.gov.vcore).natAbs)) : govReached s =
      let t : State := { s with gov := { s.gov with vcore := s.get F.SYS_GOVSTAT_VTGT, emerg := false } }
      if s.get F.SYS_GOVSTAT_STATE = 3 then t.set F.SYS_GOVSTAT_STATE 1 else t :=
  if_neg fun hn => h ⟨by simpa using hn.1, hn.2⟩

theorem govReached_of_soon (h : s.gov.emerg = false ∧
    s.now < s.gov.movedAt + 2000 * ((s.get F.SYS_GOVSTAT_VTGT : Int) - s.gov.vcore).natAbs) : govReached s = s :=
  if_pos ⟨by simp [h.1], h.2⟩

end

/-! The policy sequencer (R440 to R443). -/

/-- Which action the triggers and latches ask for (R441). -/
def askedAction (s : State) : Nat := (List.range 9).foldl (fun m b =>
  if s.bit F.SYS_POLSTAT_TRIG b || s.bit F.SYS_POLLATCH_LATCH b then max m (polAction b s) else m) 0

/-- ACTION, with the escalation of a ramp that has run out (R442). -/
def takenAction (s : State) : Nat := if s.pol.escalated && decide (2 ≤ askedAction s) then 3 else askedAction s

theorem foldl_max_ge {p : Nat → Bool} {g : Nat → Nat} : ∀ (l : List Nat) (m : Nat),
    m ≤ l.foldl (fun m b => if p b then max m (g b) else m) m ∧
      ∀ b ∈ l, p b = true → g b ≤ l.foldl (fun m b => if p b then max m (g b) else m) m
  | [], m => ⟨le_refl m, by simp⟩
  | x :: l, m => by
    obtain ⟨hm, hl⟩ := foldl_max_ge (p := p) (g := g) l (if p x then max m (g x) else m)
    have hx : m ≤ (if p x then max m (g x) else m) := by
      split
      · exact le_max_left ..
      · exact le_refl m
    refine ⟨hx.trans hm, fun b hb hp => ?_⟩
    rcases List.mem_cons.mp hb with rfl | hb
    · refine le_trans ?_ hm
      rw [if_pos hp]
      exact le_max_right ..
    · exact hl b hb hp

theorem foldl_max_le {p : Nat → Bool} {g : Nat → Nat} {n : Nat} (hg : ∀ b, g b ≤ n) : ∀ (l : List Nat) (m : Nat), m ≤ n →
    l.foldl (fun m b => if p b then max m (g b) else m) m ≤ n
  | [], _, hm => hm
  | x :: l, m, hm => by
    refine foldl_max_le hg l _ ?_
    dsimp only
    split
    · exact max_le hm (hg x)
    · exact hm

theorem polAction_le (b : Nat) (s : State) : polAction b s ≤ 3 := by
  unfold polAction
  split <;> omega

/-- A trigger that is there and asks for STOP takes ACTION to STOP. -/
theorem takenAction_of_stop {b : Nat} {s : State} (hb : b < 9) (ht : s.bit F.SYS_POLSTAT_TRIG b = true) (h3 : polAction b s = 3) :
    takenAction s = 3 := by
  have hge := (foldl_max_ge (p := fun b => s.bit F.SYS_POLSTAT_TRIG b || s.bit F.SYS_POLLATCH_LATCH b) (g := fun b => polAction b s)
    (List.range 9) 0).2 b (List.mem_range.mpr hb) (by simp [ht])
  have hle := foldl_max_le (p := fun b => s.bit F.SYS_POLSTAT_TRIG b || s.bit F.SYS_POLLATCH_LATCH b) (g := fun b => polAction b s)
    (fun b => polAction_le b s) (List.range 9) 0 (by decide)
  have hasked : askedAction s = 3 := le_antisymm hle (h3 ▸ hge)
  unfold takenAction
  rw [hasked, ite_self]

/-- The registers of system control that `polUpdate` leaves. -/
structure PolKept (f : Fld) : Prop where
  action : Apart F.SYS_POLSTAT_ACTION f
  derate : Apart F.SYS_POLSTAT_DERATE f
  remain : Apart F.SYS_POLRAMP_REMAIN f
  router : NoRouter f

/-- `polUpdate` first takes ACTION, DERATE and the ramp anew; with ACTION risen to STOP it then faults the legs in scope. -/
theorem polUpdate_stages (s : State) : ∃ u : State, (∀ f : Fld, PolKept f → u.get f = s.get f) ∧
    polUpdate s = if takenAction s = 3 ∧ s.get F.SYS_POLSTAT_ACTION ≠ 3 then legsFault (fun l => inScope (legGroup l u) u) 6 u else u := by
  unfold polUpdate
  extract_lets live act0 esc act der act1 der1 p s1 s2 s3 q s4
  refine ⟨s4, fun f hf => ?_, rfl⟩
  have h2 : s2.get f = s.get f := by
    show ((s1.set F.SYS_POLSTAT_ACTION act).set F.SYS_POLSTAT_DERATE der).get f = _
    rw [State.get_set_apart _ hf.derate, State.get_set_apart _ hf.action]
    rfl
  have h3 : s3.get f = s.get f := by
    show (if act ≠ act1 ∨ der ≠ der1 then s2.raise 0x05 else s2).get f = _
    split
    · exact (State.get_raise _ _ hf.router).trans h2
    · exact h2
  clear_value s3
  show (if act = 2 ∧ act1 ≠ 2 then _ else if act ≠ 2 then _ else s3 : State).get f = _
  split
  · exact (State.get_set_apart _ hf.remain _).trans h3
  · split
    · exact (State.get_set_apart _ hf.remain _).trans h3
    · exact h3

end Sys2Proof.Machine
end

section
/-!
PROOFS. The policy sequencer's triggers, its stop and its derating (R440 to R443), and the governor's instances.
-/
namespace Sys2Proof.Machine

section
variable {s : State}

theorem polKept_trig : PolKept F.SYS_POLSTAT_TRIG := ⟨by decide, by decide, by decide, by decide⟩
theorem polKept_latch : PolKept F.SYS_POLLATCH_LATCH := ⟨by decide, by decide, by decide, by decide⟩

/-- What a policy update leaves of the registers that no fault of a leg writes either. -/
theorem get_polUpdate {f : Fld} (hf : PolKept f) (hfault : ¬ FaultReg f.reg) (s : State) : (polUpdate s).get f = s.get f := by
  obtain ⟨u, hu, hrun⟩ := polUpdate_stages s
  rw [hrun]
  split
  · exact ((FaultFrame.legsFault ..).get hfault).trans (hu f hf)
  · exact hu f hf

theorem bit_polUpdate_trig (s : State) (i : Nat) : (polUpdate s).bit F.SYS_POLSTAT_TRIG i = s.bit F.SYS_POLSTAT_TRIG i :=
  State.bit_congr (get_polUpdate polKept_trig (by decide) s) i

theorem bit_polUpdate_latch (s : State) (i : Nat) : (polUpdate s).bit F.SYS_POLLATCH_LATCH i = s.bit F.SYS_POLLATCH_LATCH i :=
  State.bit_congr (get_polUpdate polKept_latch (by decide) s) i

theorem polAction_setBit {f : Fld} (h : f.reg.addr < 0x50000700) (b i : Nat) (v : Bool) (s : State) :
    polAction b (s.setBit f i v) = polAction b s := by
  have hbyte (k : Nat) : polByte k (s.setBit f i v) = polByte k s := by
    unfold polByte State.setBit
    rw [State.word_set_other _ (by simp only [R.SYS_POLIMG]; omega)]
  unfold polAction
  simp only [hbyte]

/-- The trigger of a mark, and the latch that an action of RAMP or STOP takes with its rise (R440). -/
theorem polMark_eq (b : Nat) (on : Bool) (s : State) : polMark b on s =
    if on && !s.bit F.SYS_POLSTAT_TRIG b && decide (2 ≤ polAction b s) then
      (s.setBit F.SYS_POLSTAT_TRIG b on).setBit F.SYS_POLLATCH_LATCH b true
    else s.setBit F.SYS_POLSTAT_TRIG b on := by
  unfold polMark
  dsimp only
  rw [polAction_setBit (by decide)]

theorem bit_polMark_trig {b : Nat} (hb : b < 9) (on : Bool) (s : State) : (polMark b on s).bit F.SYS_POLSTAT_TRIG b = on := by
  have h : (s.setBit F.SYS_POLSTAT_TRIG b on).bit F.SYS_POLSTAT_TRIG b = on :=
    (State.bit_setBit (f := F.SYS_POLSTAT_TRIG) (by decide) (i := b) (j := b) hb on s).trans (if_pos rfl)
  rw [polMark_eq]
  split
  · rw [State.bit_setBit_apart _ (by decide), h]
  · exact h

theorem bit_polMark_latch {b : Nat} (hb : b < 9) (hact : 2 ≤ polAction b s) (hrise : s.bit F.SYS_POLSTAT_TRIG b = false) :
    (polMark b true s).bit F.SYS_POLLATCH_LATCH b = true := by
  rw [polMark_eq, if_pos (by simp [hrise, hact])]
  exact (State.bit_setBit (f := F.SYS_POLLATCH_LATCH) (by decide) (i := b) (j := b) hb true _).trans (if_pos rfl)

theorem polMark_off (b : Nat) (s : State) : polMark b false s = s.setBit F.SYS_POLSTAT_TRIG b false := by
  rw [polMark_eq]
  rfl

theorem get_polMark {b : Nat} {on : Bool} {f : Fld} (ht : Apart F.SYS_POLSTAT_TRIG f) (hl : Apart F.SYS_POLLATCH_LATCH f) (s : State) :
    (polMark b on s).get f = s.get f := by
  rw [polMark_eq]
  split
  · rw [State.get_setBit_apart _ hl, State.get_setBit_apart _ ht]
  · rw [State.get_setBit_apart _ ht]

theorem word_of_get {s t : State} {r : Reg} (h : t.get ⟨r, 0, 32⟩ = s.get ⟨r, 0, 32⟩) : t.word r = s.word r := by
  simp only [State.get, fieldOf, Nat.pow_zero, Nat.div_one] at h
  exact BitVec.eq_of_toNat_eq (by omega)

theorem polKept_of_addr {f : Fld} (h : f.reg.addr ≠ R.SYS_POLSTAT.addr ∧ f.reg.addr ≠ R.SYS_POLRAMP.addr) (hr : NoRouter f) :
    PolKept f := ⟨.inl h.1, .inl h.1, .inl h.2, hr⟩

/-- The registers that say which legs a STOP takes. -/
theorem legScope_congr {u : State} {l : Nat}
    (h : ∀ f : Fld, 0x50000700 ≤ f.reg.addr → NoRouter f → u.get f = s.get f) :
    legState l u = legState l s ∧ legGroup l u = legGroup l s ∧ ∀ g, inScope g u = inScope g s := by
  refine ⟨h _ ?_ (noRouter_legStat l), ?_, fun g => ?_⟩
  · simp only [F.PWM_LnSTAT_STATE, R.PWM_LnSTAT]
    omega
  · have hgrp : u.get (F.PWM_LEGGRP_ODD (l / 8)) = s.get (F.PWM_LEGGRP_ODD (l / 8)) := by
      refine h _ ?_ (.inr ?_) <;>
      · simp only [F.PWM_LEGGRP_ODD, R.PWM_LEGGRP]
        omega
    unfold legGroup
    rw [State.bit_congr hgrp]
  · unfold inScope polByte
    rw [word_of_get (h ⟨R.SYS_POLIMG (0x19 / 4), 0, 32⟩ (by decide) (by decide))]

/-- A STOP faults the armed legs in scope (R442). -/
theorem legState_polSet_stop {b l : Nat} (hb : b < 9) (hl : l < 16) (h3 : polAction b s = 3) (hact : s.get F.SYS_POLSTAT_ACTION ≠ 3)
    (hscope : inScope (legGroup l s) s = true) (harmed : legArmed l s = true) : legState l (polSet b true s) = 3 := by
  have hmark (f : Fld) (hf : 0x50000700 ≤ f.reg.addr) : (polMark b true s).get f = s.get f :=
    get_polMark (.inl (by simp only [F.SYS_POLSTAT_TRIG, R.SYS_POLSTAT]; omega))
      (.inl (by simp only [F.SYS_POLLATCH_LATCH, R.SYS_POLLATCH]; omega)) s
  have hmact : polAction b (polMark b true s) = 3 := by
    rw [polMark_eq]
    split
    · rw [polAction_setBit (by decide), polAction_setBit (by decide), h3]
    · rw [polAction_setBit (by decide), h3]
  have hbefore : (polMark b true s).get F.SYS_POLSTAT_ACTION ≠ 3 := by
    rw [get_polMark (by decide) (by decide)]
    exact hact
  obtain ⟨u, hu, hrun⟩ := polUpdate_stages (polMark b true s)
  obtain ⟨hstate, hgroup, hin⟩ := legScope_congr (l := l) (s := s) (u := u) fun f hf hr => by
    have hkept : PolKept f := polKept_of_addr (by simp only [R.SYS_POLSTAT, R.SYS_POLRAMP]; omega) hr
    exact (hu f hkept).trans (hmark f hf)
  unfold polSet
  rw [hrun, if_pos ⟨takenAction_of_stop hb (bit_polMark_trig hb true s) hmact, hbefore⟩, legState_legsFault hl, if_pos]
  rw [hgroup, hin]
  exact ⟨hscope, by rw [legArmed_iff, hstate, ← legArmed_iff]; exact harmed⟩

/-! The clear (R441), and the derating's factor (R443). -/

theorem sysWrite_polctl {row : RegRow} {c a : Nat} {w : Word} (h : a - 0x50000000 = 0x328) (s : State) : sysWrite row c a w s =
    if !isZeroOne c then some (.refused .deny, s)
    else some (.ok 0#64, if isOne c ∧ fieldOf 0 1 w = 1 then polClear s else s) := by
  unfold sysWrite
  simp [h]

theorem factorAt_of_inner {x a b : Int} {lo : Nat} (h1 : a < x) (h2 : x < b) :
    factorAt x a b lo = 0x7FFF - (((0x7FFF - lo : Nat) : Int) * (x - a) / (b - a)).toNat := by
  unfold factorAt
  rw [if_neg (by omega), if_neg (by omega)]

theorem factorAt_bounds {x a b : Int} {lo : Nat} (hlo : lo ≤ 0x7FFF) (hab : a < b) : lo ≤ factorAt x a b lo ∧ factorAt x a b lo ≤ 0x7FFF := by
  unfold factorAt
  split
  · omega
  · split
    · omega
    · have hpos : 0 < b - a := by omega
      have hle : ((0x7FFF - lo : Nat) : Int) * (x - a) / (b - a) ≤ ((0x7FFF - lo : Nat) : Int) := by
        refine Int.ediv_le_of_le_mul hpos (mul_le_mul_of_nonneg_left (by omega) (by omega))
      omega

/-- The factor falls as its argument rises. -/
theorem factorAt_antitone {x y a b : Int} {lo : Nat} (hab : a < b) (hlo : lo ≤ 0x7FFF) (hxy : x ≤ y) : factorAt y a b lo ≤ factorAt x a b lo := by
  by_cases hx : x ≤ a
  · rw [show factorAt x a b lo = 0x7FFF from if_pos hx]
    exact (factorAt_bounds hlo hab).2
  · by_cases hy : b ≤ y
    · have hya : ¬ y ≤ a := by omega
      rw [show factorAt y a b lo = lo from (if_neg hya).trans (if_pos hy)]
      exact (factorAt_bounds hlo hab).1
    · rw [factorAt_of_inner (by omega) (by omega), factorAt_of_inner (by omega) (by omega)]
      have hmono : ((0x7FFF - lo : Nat) : Int) * (x - a) / (b - a) ≤ ((0x7FFF - lo : Nat) : Int) * (y - a) / (b - a) :=
        Int.ediv_le_ediv (by omega) (mul_le_mul_of_nonneg_left (by omega) (by omega))
      omega

theorem rampExpire_of_due (h : s.pol.rampOn = true ∧ s.get F.SYS_POLRAMP_REMAIN = 0) : rampExpire s =
    let t : State := { s with pol := { s.pol with rampOn := false } }
    if (List.range 16).any (fun l => legArmed l t && inScope (legGroup l t) t) then
      polUpdate ({ t with pol := { t.pol with escalated := true } }.raise 0x06)
    else t := if_pos h

end

/-- Settles O50: the governor by the cases of R436, the sequencer by what a mark and an update change. -/
theorem governorAndPolicy : Obligations.GovernorAndPolicy := by
  unfold Obligations.GovernorAndPolicy
  refine ⟨⟨?_, ?_⟩, fun b s hb => ?_, fun b l s hb hl h3 hact hscope harmed => legState_polSet_stop hb hl h3 hact hscope harmed, ?_, ?_,
    fun x y a b lo hab hlo hxy => ?_⟩
  · intro c v lsper s runs tgt emg thr t done full high
    have hrun (hr : runs) := govInstance_of_runs (v := v) (lsper := lsper) hr
    have hcount (hr : runs) (h1 : v ≠ -32768) (h2 : emg ≤ v) (h3 : thr ≤ v) := (hrun hr).trans
      ((if_neg (not_or.mpr ⟨h1, Int.not_lt.mpr h2⟩)).trans (if_neg (Int.not_lt.mpr h3)))
    refine ⟨fun hr hlow => ?_, fun hr h1 h2 h3 => ?_, fun hr h1 h2 h3 hnf => ?_, fun hr h1 h2 h3 hf => ?_, fun hn => govInstance_of_idle hn⟩
    · have ht : t = govEmergency s := (hrun hr).trans (if_pos hlow)
      rw [ht]
      exact govEmergency_target s
    · have ht : t = _ := (hrun hr).trans ((if_neg (not_or.mpr ⟨h1, Int.not_lt.mpr h2⟩)).trans (if_pos h3))
      rw [ht]
      exact get_govTarget_vtgt (lt_of_le_of_lt (min_le_right ..) (vmax_lt s)) _
    · have ht : t = _ := (hcount hr h1 h2 h3).trans (if_neg hnf)
      rw [ht]
      exact ⟨State.get_count_apart _ (by decide) _, rfl⟩
    · have ht : t = _ := (hcount hr h1 h2 h3).trans (if_pos hf)
      obtain ⟨hvtgt, hclosed⟩ := govWindowEnd_target (({ s with gov := govCounted c v lsper s } : State).count F.SYS_GOVSTAT_WIN)
      have hkeep {f : Fld} (hf : Apart F.SYS_GOVSTAT_WIN f) :
          (({ s with gov := govCounted c v lsper s } : State).count F.SYS_GOVSTAT_WIN).get f = s.get f := State.get_count_apart _ hf _
      rw [govFloor, hkeep (by decide), hkeep (by decide), hkeep (by decide)] at hvtgt
      rw [ht]
      refine ⟨hvtgt.trans (if_congr ?_ rfl rfl), hclosed⟩
      show (s.gov.allHigh && decide _) = true ↔ _
      rw [Bool.and_eq_true, decide_eq_true_eq]
  · intro s soon t
    refine ⟨fun h => ?_, fun h => ?_⟩
    · exact congrArg (fun v : State => Host.Outcome.next (calEnvironment v).faultEval) (govReached_of_due (s := s.begin) h)
    · exact congrArg (fun v : State => Host.Outcome.next (calEnvironment v).faultEval) (govReached_of_soon (s := s.begin) h)
  · refine ⟨?_, ?_, fun hact hrise => ?_, fun c hc => ?_⟩
    · exact (bit_polUpdate_trig ..).trans (bit_polMark_trig hb true s)
    · exact (bit_polUpdate_trig ..).trans (bit_polMark_trig hb false s)
    · exact (bit_polUpdate_latch ..).trans (bit_polMark_latch hb hact hrise)
    · refine (bit_polUpdate_latch ..).trans ?_
      rw [polMark_off, State.bit_setBit_apart _ (by decide), hc]
  · intro cid w s ha clears
    have hrow : (regRow? R.SYS_POLCTL.addr).isSome = true := by decide +kernel
    have hone : (isOne cid.toNat = true ∧ fieldOf 0 1 w = 1) ↔ clears := by simp [clears, isOne, BitVec.toNat_eq]
    have htake {u : State} (hc : cid.toNat ≤ 1) (hu : (if isOne cid.toNat = true ∧ fieldOf 0 1 w = 1 then polClear s.begin else s.begin) = u) :
        exec (.policyClear cid w) s = .next (settle u) := by
      refine write_takes (d := 0#64) ha hrow (by decide) fun row => ?_
      rw [specialWriteSys (by decide), sysWrite_polctl (a := R.SYS_POLCTL.addr) (by decide), if_neg (by simp [isZeroOne, hc]), hu]
    refine ⟨fun hc => htake ?_ (if_pos (hone.mpr hc)), fun hc hn => htake hc (if_neg fun h => hn (hone.mp h)), fun hc => ?_⟩
    · rw [hc.1]
      decide
    · refine write_denied ha hrow (by decide) fun row => ?_
      rw [specialWriteSys (by decide), sysWrite_polctl (a := R.SYS_POLCTL.addr) (by decide), if_pos (by simp [isZeroOne]; omega)]
  · intro s due t
    refine ⟨fun hd hex => ?_, fun hd hno => ?_, fun hn => congrArg Host.Outcome.next (if_neg hn)⟩
    · obtain ⟨l, hl, ha, hs⟩ := hex
      refine congrArg Host.Outcome.next ((rampExpire_of_due (s := s.begin) hd).trans (if_pos ?_))
      exact List.any_eq_true.mpr ⟨l, List.mem_range.mpr hl, Bool.and_eq_true_iff.mpr ⟨ha, hs⟩⟩
    · refine congrArg Host.Outcome.next ((rampExpire_of_due (s := s.begin) hd).trans (if_neg ?_))
      rw [List.any_eq_true]
      rintro ⟨l, hl, hb⟩
      exact hno l (List.mem_range.mp hl) (Bool.and_eq_true_iff.mp hb)
  · exact ⟨(factorAt_bounds hlo hab).1, factorAt_antitone hab hlo hxy, (factorAt_bounds hlo hab).2⟩

end Sys2Proof.Machine
end

section
/-!
PROOFS. What a frame that leaves changes, and what the operations on semaphores leave of each other (R262 to R268).
-/
namespace Sys2Proof.Machine

/-- `t` differs from `s` in the chain, the router, the DMA channels and the answer's events alone. -/
structure ChainFrame (s t : State) : Prop where
  word : ∀ r : Reg, (r.addr < 0x50002000 ∨ 0x50004000 ≤ r.addr) → (r.addr < 0x5000D000 ∨ 0x5000E000 ≤ r.addr) → t.word r = s.word r
  rest : { t with regs := s.regs, dma := s.dma, evr := s.evr, tsl := s.tsl, chn := s.chn, out := s.out } = s

namespace ChainFrame

variable {s t u : State}

theorem refl (s : State) : ChainFrame s s := ⟨fun _ _ _ => rfl, rfl⟩

theorem trans (h : ChainFrame s t) (k : ChainFrame t u) : ChainFrame s u := by
  refine ⟨fun r h1 h2 => (k.word r h1 h2).trans (h.word r h1 h2), ?_⟩
  exact (congrArg (fun v : State => { v with
    regs := s.regs, dma := s.dma, evr := s.evr, tsl := s.tsl, chn := s.chn, out := s.out }) k.rest).trans h.rest

theorem share_eq (h : ChainFrame s t) : t.share = s.share := (congrArg State.share h.rest :)
theorem mem_eq (h : ChainFrame s t) : t.mem = s.mem := (congrArg State.mem h.rest :)
theorem now_eq (h : ChainFrame s t) : t.now = s.now := (congrArg State.now h.rest :)
theorem boot_eq (h : ChainFrame s t) : t.boot = s.boot := (congrArg State.boot h.rest :)

theorem ite {c : Prop} [Decidable c] (ht : ChainFrame s t) (hu : ChainFrame s u) : ChainFrame s (if c then t else u) := by
  split
  · exact ht
  · exact hu

theorem setChn (c : Chain) (s : State) : ChainFrame s { s with chn := c } := ⟨fun _ _ _ => rfl, rfl⟩

theorem set {f : Fld} (h : 0x5000D000 ≤ f.reg.addr ∧ f.reg.addr < 0x5000E000) (v : Nat) (s : State) : ChainFrame s (s.set f v) :=
  ⟨fun r _ hr => State.word_set_other s (by omega) v, rfl⟩

theorem raise (n : Nat) (s : State) : ChainFrame s (s.raise n) := ⟨fun r hr _ => (routerOnly_raise s n).word r hr, by simp⟩

theorem chainSendOn (p : Fin 2) (f : Frame) (s : State) : ChainFrame s (chainSendOn p f s) :=
  ite (refl s) (ite (setChn _ s) (refl s))

theorem hostPut (f : Frame) (s : State) : ChainFrame s (hostPut f s) := by
  unfold Machine.hostPut
  exact ite ((setChn _ s).trans (set (by decide) _ _)) (refl s)

theorem chainSend (f : Frame) (s : State) : ChainFrame s (chainSend f s) := by
  unfold Machine.chainSend
  dsimp only
  exact ite ((ite (refl s) (chainSendOn ..)).trans (chainSendOn ..)) (ite (ite (hostPut ..) (refl s)) (ite (chainSendOn ..) (refl s)))

theorem chnEvent (b : Nat) (s : State) : ChainFrame s (chnEvent b s) := by
  unfold Machine.chnEvent
  dsimp only
  exact ite ((set (by decide) _ _).trans (raise _ _)) (set (by decide) _ _)

theorem xEvent (b : Nat) (s : State) : ChainFrame s (xEvent b s) := by
  unfold Machine.xEvent
  dsimp only
  exact ite ((set (by decide) _ _).trans (raise _ _)) (set (by decide) _ _)

end ChainFrame

/-! The semaphores after an operation on another part. -/

section
variable {s t : State} {k c nhop : Nat}

theorem sem_setSem_same (k : Nat) (x : Sem) (s : State) : (s.setSem k x).sem k = x := smapGet_set_same ..

theorem sem_setSem_other {j : Nat} (h : j ≠ k) (x : Sem) (s : State) : (s.setSem k x).sem j = s.sem j := smapGet_set_other _ _ _ _ h

theorem share_written (q : Reg) (w : Word) (f : Fld) (v n : Nat) (s : State) : (((s.setWord q w).set f v).raise n).share = s.share := by
  rw [State.raise_share, State.set_share, State.setWord_share]

theorem share_semLog (k cid unit cause : Nat) (s : State) : (semLog k cid unit cause s).share = s.share := share_written ..

/-- PIPEND's bit of a CID sets, with an event: the router and the semaphores' own registers alone (R267). -/
theorem setPipend_frame (c : Nat) (s : State) : (setPipend c s).share = s.share ∧
    ∀ r : Reg, r.addr < 0x50002000 → (setPipend c s).word r = s.word r := by
  have hone : ∀ f : Fld, 0x50004000 ≤ f.reg.addr → ∀ t : State, (t = if s.bit f (c % 32) then s else (s.setBit f (c % 32) true).raise 0x31) →
      t.share = s.share ∧ ∀ r : Reg, r.addr < 0x50002000 → t.word r = s.word r := by
    rintro f hf t rfl
    split
    · exact ⟨rfl, fun _ _ => rfl⟩
    · refine ⟨by rw [State.raise_share, State.setBit_share], fun r hr => ?_⟩
      rw [(routerOnly_raise _ _).word r (.inl hr), State.setBit, State.word_set_other _ (by omega)]
  refine hone (if c < 32 then F.SEM_PIPENDLO_PEND else F.SEM_PIPENDHI_PEND) ?_ _ rfl
  split <;> decide

theorem sem_congr (h : t.share.sems = s.share.sems) (j : Nat) : t.sem j = s.sem j := by rw [State.sem, State.sem, h]

theorem sems_grantEntry (k cid unit res : Nat) (s : State) : (grantEntry k cid unit res s).share.sems = s.share.sems := by
  unfold grantEntry
  split
  · rw [share_semLog]
  · rw [State.raise_share]

theorem share_sendPinote (unit kind k cid pri nhop : Nat) (s : State) : (sendPinote unit kind k cid pri nhop s).share = s.share :=
  (ChainFrame.chainSend ..).share_eq

theorem share_sendSemEvent (dst k cid res : Nat) (s : State) : (sendSemEvent dst k cid res s).share = s.share :=
  ((ChainFrame.setChn _ s).trans (ChainFrame.chainSend ..)).share_eq

/-- EPRI(c) taken anew (R267): what is inherited is stored, and what follows leaves the priorities. -/
theorem refreshEpri_stages (nhop c : Nat) (s : State) : ∃ h : List (Nat × Nat),
    (refreshEpri nhop c s).share = { s.share with inh := smapSet c (inherited c s) 0 s.share.inh, hops := h } ∧
    ∀ r : Reg, r.addr < 0x50002000 → (refreshEpri nhop c s).word r = s.word r := by
  unfold refreshEpri
  extract_lets old sh s0 s1 sh1 s2
  have h1 : s1.share = s0.share ∧ ∀ r : Reg, r.addr < 0x50002000 → s1.word r = s0.word r := setPipend_frame c s0
  have h2 : (∃ h, s2.share = { s0.share with hops := h }) ∧ ∀ r : Reg, r.addr < 0x50002000 → s2.word r = s0.word r := by
    have hs2 : s2 = match semWaited ⟨c, 0, 0⟩ s1 with
      | some t => { s1 with share := { s1.share with hops := s1.share.hops ++ [(t, nhop)] } }
      | none => s1 := rfl
    clear_value s2
    subst hs2
    cases semWaited ⟨c, 0, 0⟩ s1 with
    | some t => exact ⟨⟨_, congrArg (fun x : Share => { x with hops := s1.share.hops ++ [(t, nhop)] }) h1.1⟩, h1.2⟩
    | none => exact ⟨⟨s0.share.hops, h1.1⟩, h1.2⟩
  obtain ⟨⟨hh, hshare⟩, hword⟩ := h2
  split
  · exact ⟨s.share.hops, rfl, fun _ _ => rfl⟩
  · split
    · refine ⟨hh, (share_sendPinote ..).trans hshare, fun r hr => ?_⟩
      exact ((ChainFrame.chainSend ..).word r (.inl hr) (.inl (by omega))).trans (hword r hr)
    · exact ⟨hh, hshare, hword⟩

theorem sems_refreshEpri (nhop c : Nat) (s : State) : (refreshEpri nhop c s).share.sems = s.share.sems := by
  obtain ⟨h, hshare, -⟩ := refreshEpri_stages nhop c s
  rw [hshare]

/-- A semaphore but for the priority last told to another unit's holder. -/
def Sem.parties (x : Sem) : List Party × List Party × Nat := (x.holders, x.waiters, x.recent)

/-- A hop changes no holder and no waiter. -/
theorem parties_semHop (nhop k j : Nat) (s : State) : ((semHop nhop k s).sem j).parties = (s.sem j).parties ∧
    (j ≠ k → (semHop nhop k s).sem j = s.sem j) := by
  have hall : ∀ (l : List Party) (s : State), (let t := l.foldl (fun s h =>
      if h.unit = 0 then refreshEpri nhop h.cid s
      else
        let v := waitPri k s
        let x := s.sem k
        if v = x.sent then s else sendPinote h.unit 0 (k - 96) h.cid v nhop (s.setSem k { x with sent := v })) s
      (t.sem j).parties = (s.sem j).parties ∧ (j ≠ k → t.sem j = s.sem j)) := by
    intro l
    induction l with
    | nil => exact fun s => ⟨rfl, fun _ => rfl⟩
    | cons h l ih =>
      intro s
      obtain ⟨h1, h2⟩ := ih _
      have hstep : ∀ t : State, (t = if h.unit = 0 then refreshEpri nhop h.cid s
          else if waitPri k s = (s.sem k).sent then s
          else sendPinote h.unit 0 (k - 96) h.cid (waitPri k s) nhop (s.setSem k { s.sem k with sent := waitPri k s })) →
          (t.sem j).parties = (s.sem j).parties ∧ (j ≠ k → t.sem j = s.sem j) := by
        rintro t rfl
        split_ifs with hu hv
        · have := sem_congr (sems_refreshEpri nhop h.cid s) j
          exact ⟨by rw [this], fun _ => this⟩
        · exact ⟨rfl, fun _ => rfl⟩
        · have hset := sem_congr (congrArg Share.sems (share_sendPinote h.unit 0 (k - 96) h.cid (waitPri k s) nhop
            (s.setSem k { s.sem k with sent := waitPri k s }))) j
          by_cases hj : j = k
          · subst hj
            rw [hset, sem_setSem_same]
            exact ⟨rfl, fun hne => absurd rfl hne⟩
          · rw [hset, sem_setSem_other hj]
            exact ⟨rfl, fun _ => rfl⟩
      obtain ⟨h3, h4⟩ := hstep _ rfl
      exact ⟨h1.trans h3, fun hj => (h2 hj).trans (h4 hj)⟩
  exact hall (s.sem k).holders s

end

end Sys2Proof.Machine
end

section
/-!
PROOFS. The effective priority of a number beyond the 64 clients: against the last clause of O31.
-/
namespace Sys2Proof.Machine

/-- The word of SYS_CIDPRI that this number's base priority would stand in is SEM_PIPENDHI. -/
def farClient : Nat := 46634

theorem farClient_word : (R.SYS_CIDPRI (farClient / 8)).addr = R.SEM_PIPENDHI.addr := rfl

/-- It has inherited a priority, which no waiter gives it any more. -/
def staleInheritance : State := { State.reset with share := { State.reset.share with inh := [(farClient, 15)] } }

/-- Its inheritance ends, and the bit of SEM_PIPENDHI that shows the change is then read as a base priority. -/
theorem epri_staleInheritance : epri farClient (refreshEpri 0 farClient staleInheritance) = 4 ∧
    max (basePri farClient staleInheritance) (inherited farClient staleInheritance) = 0 := by decide +kernel

/-- Refutes O31: its last clause ranges over every number, and one that is no client's shares its base priority with SEM_PIPENDHI. -/
theorem not_semaphores : ¬ Obligations.Semaphores := by
  unfold Obligations.Semaphores
  rintro ⟨-, -, -, hepri⟩
  obtain ⟨hnew, hmax⟩ := epri_staleInheritance
  have h := hepri 0 farClient staleInheritance
  rw [hnew, hmax] at h
  exact absurd h (by decide)

end Sys2Proof.Machine
end

section
/-!
PROOFS. The boot sequence, the slots in order, and the checks of a header (R46, R60, R64 to R68).
-/
namespace Sys2Proof.Machine

/-! The sequence (R46). -/

section
variable {b : BootIn} {s : State}

theorem bootSequence_of_begun (h : s.get F.SYS_BOOTSTAT_STATE ≠ 0 ∨ s.boot.wait.isSome = true) : bootSequence b s = s := if_pos h

/-- The rest of the sequence, from what the wipe answers and leaves. -/
def bootFrom (b : BootIn) (tryb : Bool) (w : Bool × State) : State :=
  let r := startupMarch b.march w.2
  let t := forEach 14 gainLock r.2
  if !w.1 ∨ lifeState t = 0 ∨ lifeState t = 4 then limpWith 0xF 0x11 t
  else if !r.1 then limpWith 0x10 0x11 t
  else bootSource tryb t

theorem bootSequence_of_fresh (h : s.get F.SYS_BOOTSTAT_STATE = 0) (hw : s.boot.wait = none) : bootSequence b s =
    bootFrom b (s.on F.SYS_BOOTCTL_TRYB) (if b.fusesAgree then bootWipe b.wipeOk (bootStart b s) else (false, bootStart b s)) :=
  if_neg (by simp [h, hw])

theorem bootFrom_of_bad (tryb : Bool) (u : State) :
    bootFrom b tryb (false, u) = limpWith 0xF 0x11 (forEach 14 gainLock (startupMarch b.march u).2) := by
  unfold bootFrom
  dsimp only
  rw [if_pos (.inl (Bool.not_false))]

/-- The wipe where it is due succeeds (R48, R464). -/
theorem bootWipe_ok (u : State) : bootWipe true u = (true,
    if u.lcs.fuses.lcs = u.lcs.fuses.lcsAck ∧ u.lcs.fuses.tset = u.lcs.fuses.tack ∧ lifeState u ≠ 3 ∧ lifeState u ≠ 4 then u
    else fuseRegs (wipeAck (wipeFinish true u))) := by
  unfold bootWipe
  dsimp only
  split <;> rfl

/-- The wipe fails where it is due (R464): RETURNED asks for one at every boot. -/
theorem bootWipe_failed {u : State} (h : lifeState u = 3) : bootWipe false u = (false, wipeFinish false u) := by
  unfold bootWipe
  dsimp only
  rw [if_neg fun hn => hn.2.2.1 h]
  rfl

theorem startupMarch_cold {f : Option (Nat × Nat × Nat × Nat × BitVec 39)} (h : s.get F.SYS_RSTCAUSE_LAST < 4) :
    (startupMarch f s).1 = f.isNone := by
  have hcold : warmReset s = false := decide_eq_false (Nat.not_le.mpr h)
  unfold startupMarch
  rw [hcold]
  cases f <;> rfl

end

/-! The slots (R60, R65, R66). -/

section
variable {s : State}

theorem persTimeout_of_due {k : Nat} (hw : s.boot.wait = some k) (h : s.boot.waitTo ≤ s.now) :
    persTimeout s = trySlots (k :: s.boot.rest) true (s.updBoot fun b => { b with wait := none, rest := [] }) := by
  refine (if_pos h).trans ?_
  unfold bootGo
  rw [hw]

theorem persTimeout_of_not_due (h : s.boot.wait = none ∨ s.now < s.boot.waitTo) : persTimeout s = s := by
  rcases h with hw | h
  · unfold persTimeout bootGo
    rw [hw]
    exact ite_self _
  · exact if_neg (Nat.not_le.mpr h)

theorem trySlots_cons (k : Nat) (late : Bool) (rest : List Nat) (s : State) : trySlots (k :: rest) late s =
    match attempt k late s with
    | .wait => s.updBoot fun b => { b with wait := some k, waitTo := s.now + 20000000, rest := rest }
    | .fail c t => trySlots rest false (if k = 1 then t.set F.SYS_BOOTSTAT_ERRB c else t.set F.SYS_BOOTSTAT_ERRA c)
    | .good p t => complete k p t := by
  rw [trySlots]
  cases attempt k late s <;> rfl

theorem attempt_of_noFlash {k : Nat} {late : Bool} (hk : k ≠ 2) (h : noFlash s = true) : attempt k late s = .fail 1 s := if_pos ⟨hk, h⟩

/-- A slot's image does not stand in the registers. -/
theorem complete_eq (k p : Nat) (s : State) : complete k p s =
    match configure (slotImg k (s.set F.SYS_BOOTSTAT_PERS p)) p (s.set F.SYS_BOOTSTAT_PERS p) with
    | none => limp (if k = 1 then (s.set F.SYS_BOOTSTAT_PERS p).set F.SYS_BOOTSTAT_ERRB 0xD
        else (s.set F.SYS_BOOTSTAT_PERS p).set F.SYS_BOOTSTAT_ERRA 0xD)
    | some v => release k (slotImg k (s.set F.SYS_BOOTSTAT_PERS p)) p
        (if k = 1 then v.set F.SYS_BOOTSTAT_ERRB 0 else v.set F.SYS_BOOTSTAT_ERRA 0) := by
  have himg : slotImg k (s.set F.SYS_BOOTSTAT_PERS p) = slotImg k s := rfl
  rw [himg]
  unfold complete
  dsimp only
  cases configure (slotImg k s) p (s.set F.SYS_BOOTSTAT_PERS p) <;> rfl

end

/-! The header (R64). -/

theorem headerError_good {m : Img} {f : Fuses} (h : headerError m f = 0) : imgNum m 0 4 = 0x594C5243 ∧ imgNum m 5 1 = 1 ∧
    imgNum m 8 1 ≤ 1 ∧ 1 ≤ imgNum m 9 1 ∧ imgNum m 0xA 1 = 1 ∧ imgNum m 0xD 1 ≤ 3 ∧ f.keyProg.getLsbD (imgNum m 0xD 1) = true ∧
    f.keyRev.getLsbD (imgNum m 0xD 1) = false ∧
    ofLeBytes (sha256 (imgBytes m 0x80 64)) = (f.keyHash.toList.getD (imgNum m 0xD 1) 0#256).toNat ∧
    ones f.rollback ≤ imgNum m 0xC 1 ∧ imgNum m 0xC 1 ≤ 63 := by
  unfold headerError hMagic hFlags hKeyslot hRollback at h
  generalize sha256 (imgBytes m 0x80 64) = digest at h ⊢
  dsimp only at h
  split_ifs at h with h1 h2 h3 h4 h5 h6 h7
  simp only [not_or, not_not, Bool.not_eq_true', Bool.not_eq_false, Bool.not_eq_true, Nat.not_lt] at h1 h2 h3 h4 h5 h6 h7
  exact ⟨h1, h2.1, h3.1, h3.2, h4.1, h5.1, h5.2.1, h5.2.2, h6, h7.2, h7.1⟩

theorem headerError_of_magic {m : Img} {f : Fuses} (h : imgNum m 0 4 ≠ 0x594C5243) : headerError m f = 2 := if_pos h

theorem headerError_of_format {m : Img} {f : Fuses} (h : imgNum m 0 4 = 0x594C5243) (h5 : imgNum m 5 1 ≠ 1) : headerError m f = 3 :=
  (if_neg (not_not.mpr h)).trans (if_pos (.inl h5))

/-- Settles O7: the sequence by what the fuses, the wipe and the march answer, the slots in order, the header by its checks. -/
theorem bootRuns : Obligations.BootRuns := by
  unfold Obligations.BootRuns
  refine ⟨⟨fun b s h => congrArg Host.Outcome.next (bootSequence_of_begun (s := s.begin) h), ?_, fun f s => startupMarch_cold, ?_⟩,
    ⟨fun k s hw h => congrArg Host.Outcome.next (persTimeout_of_due (s := s.begin) hw h),
      fun s h => congrArg Host.Outcome.next (persTimeout_of_not_due (s := s.begin) h), fun s hw hr hd hn => ?_, fun late s => rfl,
      trySlots_cons, ?_⟩,
    fun m f => ⟨headerError_of_magic, headerError_of_format, headerError_good⟩⟩
  · intro b s h0 hw u v t
    have hrun {x : State} (hx : bootFrom b (s.on F.SYS_BOOTCTL_TRYB) (if b.fusesAgree then bootWipe b.wipeOk u else (false, u)) = x) :
        exec (.bootSequence b) s = .next x :=
      congrArg Host.Outcome.next ((bootSequence_of_fresh (s := s.begin) h0 hw).trans hx)
    have hok (ha : b.fusesAgree = true) (hwipe : b.wipeOk = true) :
        (if b.fusesAgree then bootWipe b.wipeOk u else (false, u)) = (true, v) := by
      rw [if_pos ha, hwipe]
      exact bootWipe_ok u
    refine ⟨fun ha => hrun ?_, fun ha hwipe hl => hrun ?_, fun ha hwipe h1 h3 hm => hrun ?_, fun ha hwipe h1 h3 hm => hrun ?_,
      fun ha hwipe hl => hrun ?_⟩
    · rw [if_neg (by simp [ha])]
      exact bootFrom_of_bad ..
    · rw [hok ha hwipe]
      exact if_pos (.inr hl)
    · rw [hok ha hwipe]
      refine (if_neg ?_).trans (if_pos (by simp [hm]))
      rintro (h | h | h)
      · exact absurd h Bool.false_ne_true
      · exact absurd h (show lifeState t ≠ 0 by omega)
      · exact absurd h (show lifeState t ≠ 4 by omega)
    · rw [hok ha hwipe]
      refine (if_neg ?_).trans (if_neg (by simp [hm]))
      rintro (h | h | h)
      · exact absurd h Bool.false_ne_true
      · exact absurd h (show lifeState t ≠ 0 by omega)
      · exact absurd h (show lifeState t ≠ 4 by omega)
    · rw [if_pos ha, hwipe, bootWipe_failed hl]
      exact bootFrom_of_bad ..
  · intro tryb s u
    exact ⟨fun h => if_pos h, fun h => if_neg (by simp [h])⟩
  · refine congrArg Host.Outcome.next ((persTimeout_of_due (s := s.begin) hw hd).trans ?_)
    rw [show s.begin.boot.rest = [] from hr, trySlots_cons,
      attempt_of_noFlash (k := 0) (by decide) (show noFlash (s.begin.updBoot _) = true from hn)]
    rfl
  · intro k p s u
    have hrun := complete_eq k p s
    refine ⟨fun h => hrun.trans ?_, fun v h => hrun.trans ?_⟩
    · rw [h]
    · rw [h]

end Sys2Proof.Machine
end

section
/-!
PROOFS. A maintenance session, its flash operations and its end (R423, R424).
-/
namespace Sys2Proof.Machine

variable {p : Nat} {f : Frame} {s : State}

/-! The session. -/

theorem maintRenew_of_ok (h : maintOk p f s = true) :
    maintRenew p f s = { s with chn := { s.chn with maintAt := s.now + 10000000 * s.get F.CHN_TRCFG1_MAINTTO } } := if_pos h

theorem maintRenew_of_not_ok (h : ¬ maintOk p f s = true) : maintRenew p f s = s := if_neg h

theorem now_maintRenew (p : Nat) (f : Frame) (s : State) : (maintRenew p f s).now = s.now := by
  unfold maintRenew
  split <;> rfl

theorem onMopen_of_key (h : maintOk p f s = true) (hk : f.at_ 0 2 = 0x4D54) :
    onMopen p f s = mrsp f 0 [] (setMaint true f.src (maintRenew p f s)) := if_pos ⟨h, hk⟩

theorem onMopen_of_other (h : ¬ maintOk p f s = true ∨ f.at_ 0 2 ≠ 0x4D54) : onMopen p f s = mrsp f 7 [] (maintRenew p f s) :=
  if_neg fun hn => h.elim (fun h => h hn.1) fun h => h hn.2

/-- The reset that an MCLOSE asks for (R424). -/
def afterClose (act : Nat) (s : State) : State :=
  if act = 1 then softReset true s else if act = 2 then softReset true (s.set F.SYS_BOOTCTL_TRYB 1) else s

theorem mclose_eq (p : Nat) (f : Frame) (s : State) : mclose p f s = afterClose (onMclose p f s).1 (onMclose p f s).2 := by
  unfold mclose
  obtain ⟨_ | _ | _ | _, u⟩ := onMclose p f s <;> rfl

theorem mclose_of_held (h : maintOk p f s = true) (ho : s.on F.CHN_MAINT_OPEN = true) :
    mclose p f s = afterClose (f.at_ 0 1) (mrsp f 0 [] (setMaint false 0 s)) := by
  rw [mclose_eq, onMclose, if_neg (by simp [h]), if_neg (by simp [ho])]

theorem mclose_of_none (h : maintOk p f s = true) (ho : ¬ s.on F.CHN_MAINT_OPEN = true) :
    mclose p f s = mrsp f 1 [] (maintRenew p f s) := by
  rw [mclose_eq, onMclose, if_neg (by simp [h]), if_pos (by simpa using ho)]
  rfl

theorem mclose_of_not_ok (h : ¬ maintOk p f s = true) : mclose p f s = mrsp f 7 [] s := by
  rw [mclose_eq, onMclose, if_pos (by simpa using h)]
  rfl

theorem setMaint_of_change {o : Bool} {holder : Nat} (h : s.on F.CHN_MAINT_OPEN = !o) :
    setMaint o holder s = xEvent 2 ((s.setB F.CHN_MAINT_OPEN o).set F.CHN_MAINT_HOLDER holder) := if_neg (by simp [h])

/-! The start of a flash operation (R424). -/

/-- The status of a flash operation, by the checks in their order. -/
def statusOf (p : Nat) (f : Frame) (off n : Nat) (count aligned : Bool) (s : State) : Nat :=
  if ¬ maintOk p f s = true then 7 else if ¬ s.on F.CHN_MAINT_OPEN = true then 1
  else if s.chn.relay.sending.isSome ∨ s.chn.maintOp.isSome then 6 else if s.on F.SYS_STRAP_BOOTSRC = false ∨ noFlash s = true then 2
  else if count = false ∨ s.flash.mode.size < off + n then 3 else if aligned = false then 4 else 0

theorem flashStatus_eq (off n : Nat) (count aligned : Bool) : flashStatus p f off n count aligned s = statusOf p f off n count aligned s := by
  unfold flashStatus statusOf
  simp only [Bool.not_eq_true', Bool.not_eq_true]

theorem flashStart_eq (status : Nat) (op : FlashOp) (s : State) : flashStart p f status op s =
    if status = 0 then { maintRenew p f s with
      chn := { (maintRenew p f s).chn with maintOp := some op, maintTag := f.tag, maintDue := (maintRenew p f s).now + flashLimit op } }
    else mrsp f status [] (maintRenew p f s) := rfl

/-! The end of a flash operation (R424). -/

/-- Does a read of address `a` reach the byte at `a` (R51)? -/
theorem flashByte_direct {a : Nat} (h : a < 0x1000000 ∨ s.flash.mode.addr4 = true) :
    flashByte a s = smapGet a 0xFF#8 s.flash.bytes := by
  unfold flashByte
  rcases h with h | h
  · rw [Nat.mod_eq_of_lt h, ite_self]
  · rw [if_pos h]

theorem smapFind_filter {α : Type} {keep : Nat → Bool} (k : Nat) (m : List (Nat × α)) :
    smapFind k (m.filter fun e => keep e.1) = if keep k then smapFind k m else none := by
  induction m with
  | nil => exact (ite_self _).symm
  | cons e m ih =>
    by_cases he : keep e.1 = true
    · rw [List.filter_cons_of_pos (p := fun e : Nat × α => keep e.1) he, smapFind, smapFind, ih]
      by_cases hk : e.1 = k
      · rw [if_pos hk, if_pos hk, if_pos (hk ▸ he)]
      · rw [if_neg hk, if_neg hk]
    · rw [List.filter_cons_of_neg (p := fun e : Nat × α => keep e.1) he, ih, smapFind]
      by_cases hk : e.1 = k
      · rw [if_neg (hk ▸ he), if_neg (hk ▸ he)]
      · rw [if_neg hk]

/-- The bytes of the flash once `n` of them from `off` are erased. -/
def erasedBytes (off n : Nat) (s : State) : List (Nat × Byte) :=
  s.flash.bytes.filter fun e => decide (e.1 < off) || decide (off + n ≤ e.1)

theorem smapGet_erasedBytes (off n a : Nat) (s : State) : smapGet a 0xFF#8 (erasedBytes off n s) =
    if off ≤ a ∧ a < off + n then 0xFF#8 else smapGet a 0xFF#8 s.flash.bytes := by
  unfold smapGet erasedBytes
  rw [smapFind_filter (keep := fun k => decide (k < off) || decide (off + n ≤ k))]
  by_cases h : off ≤ a ∧ a < off + n
  · rw [if_pos h, if_neg (by simp; omega)]
    rfl
  · rw [if_neg h, if_pos (by simp; omega)]

/-- One byte after another is programmed: bits only clear. -/
def programmed (off : Nat) (d : List (Byte × Nat)) (s : State) : State :=
  d.foldl (fun s b => setFlashByte (off + b.2) (b.1 &&& flashByte (off + b.2) s) s) s

theorem programmed_bytes (off : Nat) : ∀ (d : List Byte) (k : Nat) (s : State), ∃ bs : List (Nat × Byte),
    programmed off (d.zipIdx k) s = { s with flash := { s.flash with bytes := bs } } ∧
      ∀ a, a < 0x1000000 ∨ s.flash.mode.addr4 = true → smapGet a 0xFF#8 bs =
        if off + k ≤ a ∧ a < off + k + d.length then smapGet a 0xFF#8 s.flash.bytes &&& d.getD (a - (off + k)) 0#8
        else smapGet a 0xFF#8 s.flash.bytes
  | [], k, s => ⟨s.flash.bytes, rfl, fun a _ => (if_neg (by simp)).symm⟩
  | b :: d, k, s => by
    obtain ⟨bs, hrun, hbytes⟩ := programmed_bytes off d (k + 1) (setFlashByte (off + k) (b &&& flashByte (off + k) s) s)
    refine ⟨bs, hrun, fun a ha => (hbytes a ha).trans ?_⟩
    have hset : ∀ i, smapGet i 0xFF#8 (setFlashByte (off + k) (b &&& flashByte (off + k) s) s).flash.bytes =
        if i = off + k then b &&& flashByte (off + k) s else smapGet i 0xFF#8 s.flash.bytes := fun i => by
      by_cases hi : i = off + k
      · rw [if_pos hi, hi]
        exact smapGet_set_same ..
      · rw [if_neg hi]
        exact smapGet_set_other _ _ _ _ hi
    rw [hset, List.length_cons]
    by_cases hk : a = off + k
    · subst hk
      rw [if_neg (by omega), if_pos rfl, if_pos (by omega), flashByte_direct ha, BitVec.and_comm, Nat.sub_self]
      rfl
    · rw [if_neg hk]
      by_cases hin : off + (k + 1) ≤ a ∧ a < off + (k + 1) + d.length
      · rw [if_pos hin, if_pos (by omega), show a - (off + k) = a - (off + (k + 1)) + 1 from by omega, List.getD_cons_succ]
      · rw [if_neg hin, if_neg (by omega)]

/-- The frame that the end of a flash operation answers. -/
def flashAsker (s : State) : Frame := { cls := 3, dst := 0, typ := 0, src := 1, tag := s.chn.maintTag }

/-- The operation is over. -/
def operationOver (s : State) : State := { s with chn := { s.chn with maintOp := none } }

theorem flashDone_of_none (h : s.chn.maintOp = none) (ok : Bool) : flashDone ok s = s := by
  unfold flashDone
  rw [h]

/-- What the end of an operation leaves and answers. -/
def operationDone (op : FlashOp) (s : State) : State :=
  match op with
  | .read off n => mrsp (flashAsker s) 0 ((List.range n).map fun i => flashByte (off + i) s) (operationOver s)
  | .erase off n => mrsp (flashAsker s) 0 [] { operationOver s with flash := { s.flash with bytes := erasedBytes off n s } }
  | .prog off d => mrsp (flashAsker s) 0 [] (programmed off d.zipIdx (operationOver s))

theorem flashDone_of_good {op : FlashOp} (h : s.chn.maintOp = some op) : flashDone true s = operationDone op s := by
  have hok : ¬ (!true) = true := Bool.false_ne_true
  unfold flashDone
  rw [h]
  dsimp only
  rw [if_neg fun hn => hok hn.1, if_neg hok]
  cases op <;> rfl

theorem flashDone_of_bad {op : FlashOp} (h : s.chn.maintOp = some op) (hd : ¬(s.now < s.chn.maintDue ∨ flashLimit op = 0)) :
    flashDone false s = mrsp (flashAsker s) 5 [] (operationOver s) := by
  unfold flashDone
  rw [h]
  dsimp only
  rw [if_neg fun hn => hd hn.2, if_pos Bool.not_false]
  rfl

theorem flashDone_of_early {op : FlashOp} (h : s.chn.maintOp = some op) (hd : s.now < s.chn.maintDue ∨ flashLimit op = 0) :
    flashDone false s = s := by
  unfold flashDone
  rw [h]
  exact if_pos ⟨Bool.not_false, hd⟩

/-- Settles O47: the session by what accepts a frame, the operations by their status and their end. -/
theorem maintenanceSessions : Obligations.MaintenanceSessions := by
  unfold Obligations.MaintenanceSessions
  refine ⟨?_, ?_, fun ok s h => ?_, ?_, fun p s e he h => ?_⟩
  · intro p f s u ok held answer ends v
    have hends {t v : State} (h : t = v) : ends t = ends v := congrArg ends h
    refine ⟨maintRenew_of_ok, maintRenew_of_not_ok, fun h hok hk => (h.rowS _).trans (hends (onMopen_of_key hok hk)),
      fun h hn => (h.rowS _).trans (hends (onMopen_of_other hn)), ?_, ?_, fun h hok hn => (h.rowS _).trans (hends (mclose_of_none hok hn)),
      fun h hn => (h.rowS _).trans (hends (mclose_of_not_ok hn))⟩
    · intro off data status starts n m
      have hstatus (n : Nat) (count aligned : Bool) : flashStatus p f off n count aligned u = status n count aligned :=
        flashStatus_eq off n count aligned
      have hstart (st : Nat) (op : FlashOp) : ends (flashStart p f st op u) = starts st op (flashLimit op) := hends (flashStart_eq st op u)
      refine ⟨fun h => (h.rowS _).trans ?_, fun h => (h.rowS _).trans ?_, fun h => (h.rowS _).trans ?_⟩
      · rw [← hstatus]
        exact hstart _ (.read off n)
      · rw [← hstatus]
        exact hstart _ (.erase off m)
      · rw [← hstatus]
        exact hstart _ (.prog off data)
    · intro h hok ho w
      have hrun := (h.rowS (mclose p.val)).trans (hends (mclose_of_held hok ho))
      refine ⟨fun h1 => hrun.trans (hends ?_), fun h2 => hrun.trans (hends ?_), fun h1 h2 => hrun.trans (hends ?_)⟩
      · exact if_pos h1
      · exact (if_neg (by simp [h2])).trans (if_pos h2)
      · exact (if_neg h1).trans (if_neg h2)
  · intro op s h t answer polls
    have hrun {ok : Bool} {v : State} (hv : flashDone ok s.begin = v) : exec (.flashOperationDone ok) s = .next (settle v) :=
      congrArg (fun x => Host.Outcome.next (settle x)) hv
    have hgood := flashDone_of_good (s := s.begin) h
    refine ⟨fun hp hd => hrun ?_, fun hn => hrun ?_, fun off n ho => hrun ?_, fun off n ho => ?_, fun off d ho => ?_⟩
    · refine flashDone_of_bad (s := s.begin) h ?_
      rintro (hl | hl)
      · exact absurd hd (Nat.not_le.mpr hl)
      · exact hp hl
    · exact flashDone_of_early (s := s.begin) h <| hn.elim (fun hn => .inr (not_not.mp hn)) .inl
    · subst ho
      exact hgood
    · subst ho
      refine ⟨erasedBytes off n s, hrun hgood, fun a ha => ?_⟩
      rw [flashByte_direct (s := s) ha]
      exact (flashByte_direct (s := { t with flash := { t.flash with bytes := erasedBytes off n s } }) ha).trans
        (smapGet_erasedBytes off n a s)
    · subst ho
      obtain ⟨bs, hprog, hbytes⟩ := programmed_bytes off d 0 (operationOver s.begin)
      refine ⟨bs, hrun (hgood.trans (congrArg (mrsp (flashAsker s.begin) 0 []) hprog)), fun a ha => ?_⟩
      rw [flashByte_direct (s := s) ha]
      exact (flashByte_direct (s := { t with flash := { t.flash with bytes := bs } }) ha).trans (hbytes a ha)
  · exact congrArg (fun x => Host.Outcome.next (settle x)) (flashDone_of_none (s := s.begin) h ok)
  · intro s go
    refine ⟨fun h => congrArg Host.Outcome.next ((if_pos h).trans ?_), fun h => congrArg Host.Outcome.next (if_neg h)⟩
    exact setMaint_of_change (s := s.begin) (o := false) h.1
  · fin_cases he <;> exact rowS_onFrame_of_none h _

end Sys2Proof.Machine
end

section
/-!
PROOFS. System time over the chain: SYNC, the delay measurement, a lost SYNC, and the setting of the time (R427 to R430).
-/
namespace Sys2Proof.Machine

/-! The bus-error log (R94) keeps its own registers, and raises its event. -/

/-- The entry of the bus-error log, with the word that describes the access (R94). -/
def busLogged (a : Nat) (w : Word) (s : State) : State :=
  ((((s.count F.SYS_BERRCNT_COUNT).setWord (R.SYS_BERRADDR (s.get F.SYS_BERRHEAD_NEXT)) (BitVec.ofNat 32 a)).setWord
    (R.SYS_BERRINFO (s.get F.SYS_BERRHEAD_NEXT)) w).set F.SYS_BERRHEAD_NEXT (s.get F.SYS_BERRHEAD_NEXT + 1)).raise 0

theorem busErr_logged (who : Who) (write : Bool) (a : Nat) (c : Cause) (s : State) : ∃ w, busErr who write a c s = busLogged a w s :=
  ⟨_, rfl⟩

theorem get_busLogged (a : Nat) (w : Word) (s : State) {f : Fld} (hlog : f.reg.addr < 0x50000080 ∨ 0x500000e0 ≤ f.reg.addr)
    (hr : f.reg.addr < 0x50002000 ∨ 0x50004000 ≤ f.reg.addr) : (busLogged a w s).get f = s.get f := by
  have hnext : s.get F.SYS_BERRHEAD_NEXT < 2 ^ 3 := s.get_lt _
  have hword : ∀ (r : Reg) (w : Word) (t : State), f.reg.addr ≠ r.addr → (t.setWord r w).get f = t.get f := fun r w t h =>
    congrArg (fieldOf f.lo f.wid) (t.word_setWord_other w h)
  unfold busLogged
  rw [State.get_raise _ _ hr, State.get_set_other, hword, hword, State.count, State.get_set_other] <;>
    simp only [F.SYS_BERRHEAD_NEXT, R.SYS_BERRHEAD, R.SYS_BERRADDR, R.SYS_BERRINFO, F.SYS_BERRCNT_COUNT, R.SYS_BERRCNT] at hnext ⊢ <;>
    omega

theorem get_busErr (who : Who) (write : Bool) (a : Nat) (c : Cause) (s : State) {f : Fld}
    (hlog : f.reg.addr < 0x50000080 ∨ 0x500000e0 ≤ f.reg.addr) (hr : f.reg.addr < 0x50002000 ∨ 0x50004000 ≤ f.reg.addr) :
    (busErr who write a c s).get f = s.get f := by
  obtain ⟨w, hw⟩ := busErr_logged who write a c s
  rw [hw, get_busLogged a w s hlog hr]

theorem bootLock_busLogged (a : Nat) (w : Word) (s : State) : (busLogged a w s).bootLock = s.bootLock := by
  unfold busLogged
  rw [State.raise_bootLock, State.set_bootLock, State.setWord_bootLock, State.setWord_bootLock, State.count, State.set_bootLock]

theorem bootLock_busErr (who : Who) (write : Bool) (a : Nat) (c : Cause) (s : State) :
    (busErr who write a c s).bootLock = s.bootLock := by
  obtain ⟨w, hw⟩ := busErr_logged who write a c s
  exact (congrArg State.bootLock hw).trans (bootLock_busLogged a w s)

theorem get_answerRefused (s : State) (n : Nat) (f : Fld) : (s.answerRefused n).get f = s.get f := rfl

/-- The check of an access to a register of the chain block reads the access-control registers and the boot lock alone (R92, R93). -/
theorem accessCheck_chn_congr {cid a : Nat} {write : Bool} {s t : State} (ha : regionOf a = some 29) (hc : cid < 64)
    (hlock : t.bootLock = s.bootLock)
    (hget : ∀ f : Fld, 0x50000120 ≤ f.reg.addr → f.reg.addr < 0x50000700 → t.get f = s.get f) :
    accessCheck { cid := cid } write a 4 t = accessCheck { cid := cid } write a 4 s := by
  have hen : cidEnabled cid t = cidEnabled cid s := by
    have : t.bit (F.SYS_CIDEN_EN (cid / 32)) (cid % 32) = s.bit (F.SYS_CIDEN_EN (cid / 32)) (cid % 32) :=
      State.bit_congr (hget _ (by simp only [F.SYS_CIDEN_EN, R.SYS_CIDEN]; omega) (by simp only [F.SYS_CIDEN_EN, R.SYS_CIDEN]; omega)) _
    unfold cidEnabled
    rw [this]
  have hmask : maskBit 29 cid write t = maskBit 29 cid write s := by
    unfold maskBit
    rw [hget (F.SYS_ACCRLO_MASK 29) (by decide) (by decide), hget (F.SYS_ACCRHI_MASK 29) (by decide) (by decide),
      hget (F.SYS_ACCWLO_MASK 29) (by decide) (by decide), hget (F.SYS_ACCWHI_MASK 29) (by decide) (by decide)]
  have hrule : fixedRule 29 { cid := cid } write a t = fixedRule 29 { cid := cid } write a s := by
    simp [fixedRule, hlock]
  unfold accessCheck
  simp only [ha, hen, hmask, hrule, hlock]

/-! The setting of the time (R427). -/

theorem chnWrite_time {c a : Nat} (h : a = 0x5000D180 ∨ a = 0x5000D184) (w : Word) (s : State) :
    chnWrite c a w s = if isHead s && isOne c then some (.ok 0#64, timeSet (a = 0x5000D184) w s) else some (.refused .deny, s) := by
  obtain rfl | rfl := h <;> rfl

theorem timeSet_hi {a : Nat} (h : a = 0x5000D184) (w : Word) (s : State) :
    timeSet (a = 0x5000D184) w s = s.updSync (fun y => { y with setHi := w }) := by
  subst h
  rfl

/-- TB6 set to `n` ns. -/
def State.timed (s : State) (n : Nat) : State := { s with tb := { s.tb with time := n } }

theorem timeSet_lo {a : Nat} (h : a = 0x5000D180) (w : Word) {v : Word} {s : State} (hv : s.chn.sync.setHi = v) :
    timeSet (a = 0x5000D184) w s = (s.timed (w.toNat + v.toNat * 2 ^ 32)).updSync (fun y => { y with stepNext := true }) := by
  subst h hv
  rfl

theorem updSync_timed_updSync (n : Nat) (f g : Sync → Sync) (s : State) :
    ((s.updSync f).timed n).updSync g = (s.timed n).updSync (fun y => g (f y)) := rfl

theorem setHi_updSync (w : Word) (s : State) : (s.updSync fun y => { y with setHi := w }).chn.sync.setHi = w := rfl

theorem isHead_updSync (f : Sync → Sync) (s : State) : isHead (s.updSync f) = isHead s := rfl

/-- The registers that set the time are registers of the chain block. -/
theorem timeReg {a : Nat} (h : a = 0x5000D180 ∨ a = 0x5000D184) :
    regionOf a = some 29 ∧ (regRow? a).isSome = true ∧ 16 ≤ 16 + (a - 0x50000000) / 0x1000 ∧ 16 + (a - 0x50000000) / 0x1000 ≤ 31 ∧
      (a - 0x50000000) / 0x1000 = 13 := by
  obtain rfl | rfl := h <;> decide +kernel

section
variable {cid a r : Nat} {w : Word} {s : State}

theorem fabricWrite_time (ha : a = 0x5000D180 ∨ a = 0x5000D184) (h : accessCheck { cid := cid } true a 4 s = .ok r)
    (hr : r = 16 + (a - 0x50000000) / 0x1000) (hgo : (isHead s && isOne cid) = true) :
    fabricWrite cid a w s = timeSet (a = 0x5000D184) w s := by
  obtain ⟨_, hrow, h16, h31, hblk⟩ := timeReg ha
  obtain ⟨row, hrow⟩ := Option.isSome_iff_exists.mp hrow
  exact fabricWrite_ok h (by omega)
    (regWrite_special hrow ((specialWriteChn hblk).trans ((chnWrite_time ha w s).trans (if_pos hgo))))

theorem fabricWrite_time_denied (ha : a = 0x5000D180 ∨ a = 0x5000D184) (h : accessCheck { cid := cid } true a 4 s = .ok r)
    (hr : r = 16 + (a - 0x50000000) / 0x1000) (hgo : ¬ (isHead s && isOne cid) = true) :
    fabricWrite cid a w s = (busErr { cid := cid } true a .deny s).answerRefused Cause.deny.code := by
  obtain ⟨_, hrow, h16, h31, hblk⟩ := timeReg ha
  obtain ⟨row, hrow⟩ := Option.isSome_iff_exists.mp hrow
  exact fabricWrite_refused h (by omega)
    (regWrite_special hrow ((specialWriteChn hblk).trans ((chnWrite_time ha w s).trans (if_neg hgo))))

end

theorem admits_begin {cid : Cid} {write : Bool} {a : Nat} {s : State} (h : Admits cid write a s) : Admits cid write a s.begin := h

/-- A write of CHN_TSETLO that the checks let through in a state is let through in any that agrees on what they read. -/
theorem admits_time {cid : Cid} {a : Nat} {s t : State} (h : Admits cid true a s) (ha : a = 0x5000D180 ∨ a = 0x5000D184)
    (hlock : t.bootLock = s.bootLock)
    (hget : ∀ f : Fld, 0x50000120 ≤ f.reg.addr → f.reg.addr < 0x50000700 → t.get f = s.get f) :
    accessCheck { cid := cid.toNat } true a 4 t = .ok (16 + (a - 0x50000000) / 0x1000) :=
  (accessCheck_chn_congr (timeReg ha).1 cid.isLt hlock hget).trans h.ok

theorem timeDenied {cid : Cid} {s : State} (h : isHead s = false ∨ cid ≠ 1) : ¬ (isHead s && isOne cid.toNat) = true := by
  have hone : cid ≠ 1 → isOne cid.toNat = false := fun h => by
    have : cid.toNat ≠ 1 := fun e => h (BitVec.eq_of_toNat_eq e)
    simpa [isOne] using this
  obtain h | h := h
  · simp [h]
  · simp [hone h]

section
variable {cid : Cid} {ahi alo : Nat} {hi lo : Word} {s : State} (hhi : ahi = 0x5000D184) (hlo : alo = 0x5000D180)
include hhi hlo

theorem timeSet_by_head (hgo : (isHead s && isOne cid.toNat) = true) (ha : Admits cid true ahi s) (hb : Admits cid true alo s) :
    fabricWrite cid.toNat alo lo (fabricWrite cid.toNat ahi hi s) =
      (s.timed (lo.toNat + hi.toNat * 2 ^ 32)).updSync (fun y => { y with setHi := hi, stepNext := true }) := by
  have hfirst : fabricWrite cid.toNat ahi hi s = s.updSync (fun y => { y with setHi := hi }) :=
    (fabricWrite_time (.inr hhi) (Admits.ok ha) rfl hgo).trans (timeSet_hi hhi hi s)
  have hadmit : accessCheck { cid := cid.toNat } true alo 4 (s.updSync fun y => { y with setHi := hi }) =
      .ok (16 + (alo - 0x50000000) / 0x1000) := admits_time hb (.inl hlo) rfl fun _ _ _ => rfl
  have hsecond := fabricWrite_time (w := lo) (.inl hlo) hadmit rfl ((congrArg (· && isOne cid.toNat) (isHead_updSync _ s)).trans hgo)
  have hset : timeSet (alo = 0x5000D184) lo (s.updSync fun y => { y with setHi := hi }) = _ := timeSet_lo hlo lo (setHi_updSync hi s)
  rw [hfirst]
  exact hsecond.trans (hset.trans (updSync_timed_updSync _ _ _ s))

theorem timeSet_denied (hgo : ¬ (isHead s && isOne cid.toNat) = true) (ha : Admits cid true ahi s) (hb : Admits cid true alo s) :
    fabricWrite cid.toNat alo lo (fabricWrite cid.toNat ahi hi s) =
      (busErr { cid := cid.toNat } true alo .deny
        ((busErr { cid := cid.toNat } true ahi .deny s).answerRefused Cause.deny.code)).answerRefused Cause.deny.code := by
  have hget : ∀ f : Fld, f.reg.addr < 0x50000080 ∨ 0x500000e0 ≤ f.reg.addr → f.reg.addr < 0x50002000 ∨ 0x50004000 ≤ f.reg.addr →
      ((busErr { cid := cid.toNat } true ahi .deny s).answerRefused Cause.deny.code).get f = s.get f := fun f h h' =>
    (get_answerRefused _ _ _).trans (get_busErr _ _ _ _ _ h h')
  have hhead : isHead ((busErr { cid := cid.toNat } true ahi .deny s).answerRefused Cause.deny.code) = isHead s :=
    congrArg₂ (fun a b => a && !b) (State.on_congr (hget F.CHN_ADDR_HEAD (by decide) (by decide)))
      (State.on_congr (hget F.CHN_ADDR_YIELD (by decide) (by decide)))
  rw [fabricWrite_time_denied (.inr hhi) (Admits.ok ha) rfl hgo, fabricWrite_time_denied (s := State.answerRefused _ _) (.inl hlo)
    (admits_time hb (.inl hlo) ((State.answerRefused_bootLock ..).trans (bootLock_busErr ..)) fun f h1 h2 => hget f (by omega) (by omega)) rfl (by rwa [hhead])]

end

/-! SYNC, sent and lost (R427, R430). -/

/-- The data of the SYNC that the head sends (R427). -/
def syncData (s : State) : List Byte :=
  leBytes 8 (stampTime s) ++ leBytes 4 0 ++ leBytes 2 s.chn.sync.seq ++ [if s.chn.sync.stepNext then 1#8 else 0#8, 0#8]

theorem syncSend_due {s : State} (h : isHead s = true ∧ syncPeriod s ≤ s.chn.sync.since) :
    syncSend s = chainSend { cls := 3, dst := 0x7F, typ := 0x10, src := 0, data := syncData s }
      (s.updSync fun y => { y with seq := (y.seq + 1) % 65536, stepNext := false, since := 0 }) := by
  have hb : b8 (bit01 s.chn.sync.stepNext) = if s.chn.sync.stepNext then 1#8 else 0#8 := by cases s.chn.sync.stepNext <;> rfl
  unfold syncSend syncData
  rw [if_pos h, ← hb]
  rfl

theorem syncSend_idle {s : State} (h : ¬ (isHead s = true ∧ syncPeriod s ≤ s.chn.sync.since)) : syncSend s = s := if_neg h

/-- Is the loss of SYNC due (R430)? -/
def syncLostDue (s : State) : Prop :=
  isHead s = false ∧ s.chn.sync.lost = false ∧ s.get F.CHN_TRCFG1_SYNCLOST ≤ s.get F.CHN_TSTAT_MISSED

theorem syncLost_due {s : State} (h : syncLostDue s) :
    syncLost s = xEvent 5 (discTo false (s.updSync fun y => { y with good := 0, lost := true })) := by
  obtain ⟨hh, hl, hm⟩ := h
  exact if_neg (by simp [hh, hl]; omega)

theorem syncLost_idle {s : State} (h : ¬ syncLostDue s) : syncLost s = s := by
  refine if_pos ?_
  by_contra hn
  simp only [not_or, Bool.not_eq_true, Nat.not_lt] at hn
  exact h hn

/-! The measurement of the link's delay (R429). -/

/-- Is a PDREQ due (R429)? -/
def pdreqDue (s : State) : Prop :=
  isHead s = false ∧ ownAddr s ≠ 0 ∧ 2 ^ s.get F.CHN_TRCFG1_PDINT * syncPeriod s ≤ s.chn.sync.pdSince

theorem pdreqSend_due {s : State} (h : pdreqDue s) :
    pdreqSend s = chainSendOn (headPort s)
      { cls := 3, dst := 0, typ := 0x11, tag := (s.chn.sync.pdTag + 1) % 256, src := ownAddr s }
      (s.updSync fun y => { y with pdTag := (s.chn.sync.pdTag + 1) % 256, t1 := some (stampTime s), pdSince := 0 }) := by
  obtain ⟨hh, ha, hd⟩ := h
  unfold pdreqSend
  rw [if_neg (by simp [hh, ha]; omega)]
  rfl

theorem pdreqSend_idle {s : State} (h : ¬ pdreqDue s) : pdreqSend s = s := by
  refine if_pos ?_
  by_contra hn
  simp only [not_or, Bool.not_eq_true, Nat.not_lt] at hn
  exact h hn

theorem onPdrsp_none {f : Frame} {u : State} (h : u.chn.sync.t1 = none) : onPdrsp f u = u := by
  unfold onPdrsp
  rw [h]

/-- The last four measurements of the link's delay, with the one that the answer `f` gives (R429). -/
def pdDelays (f : Frame) (t1 : Nat) (u : State) : List Int :=
  ((((stampTime u : Int) - t1) - ((f.at_ 8 8 : Int) - f.at_ 0 8)) * 8 :: u.chn.sync.delays).take 4

theorem onPdrsp_mine {f : Frame} {u : State} {t1 : Nat} (h : u.chn.sync.t1 = some t1) (ht : f.tag = u.chn.sync.pdTag) :
    onPdrsp f u = (u.updSync fun y => { y with t1 := none, delays := pdDelays f t1 u }).setInt F.CHN_TLINKDLY_DLY
      ((pdDelays f t1 u).foldl (· + ·) 0 / ((pdDelays f t1 u).length : Int)) := by
  unfold onPdrsp
  rw [h]
  exact if_neg (not_not.mpr ht)

theorem onPdrsp_other {f : Frame} {u : State} (h : u.chn.sync.t1 = none ∨ f.tag ≠ u.chn.sync.pdTag) : onPdrsp f u = u := by
  cases ht : u.chn.sync.t1 with
  | none => exact onPdrsp_none ht
  | some t1 =>
    unfold onPdrsp
    rw [ht]
    exact if_pos (h.resolve_left (by simp [ht]))

/-! SYNC, received (R428, R430). -/

/-- The offset θ that SYNC shows, in 1/16 ns (R428). -/
def syncTheta (tb16 : Nat) (f : Frame) (u : State) : Int :=
  (stampFine tb16 u : Int) - (16 * (f.at_ 0 8 : Int) + (BitVec.ofNat 32 (f.at_ 8 4)).toInt + (u.word R.CHN_TLINKDLY).toInt)

/-- What an accepted SYNC of offset `theta` shows and restarts, before TB6 moves (R428, R430). -/
def syncNoted (theta : Int) (u : State) : State :=
  (((u.setInt F.CHN_TOFFS_THETA ((theta + 8) / 16)).set F.CHN_TSTAT_MISSED 0).set F.CHN_TSTAT_PORT (headPort u).val).updSync
    fun y => { y with since := 0, lost := false }

theorem get_updSync (g : Sync → Sync) (s : State) (f : Fld) : (s.updSync g).get f = s.get f := rfl
theorem set_updSync (g : Sync → Sync) (s : State) (f : Fld) (n : Nat) : (s.updSync g).set f n = (s.set f n).updSync g := rfl

theorem get_syncNoted {f : Fld} (theta : Int) (u : State) (h : Apart F.CHN_TOFFS_THETA f) (hm : Apart F.CHN_TSTAT_MISSED f)
    (hp : Apart F.CHN_TSTAT_PORT f) : (syncNoted theta u).get f = u.get f := by
  unfold syncNoted
  rw [get_updSync, State.get_set_apart _ hp, State.get_set_apart _ hm, State.get_setInt_apart _ h]

theorem headPort_congr {s t : State} (hlo : t.word R.CHN_UPMAPLO = s.word R.CHN_UPMAPLO)
    (hhi : t.word R.CHN_UPMAPHI = s.word R.CHN_UPMAPHI) : headPort t = headPort s := by
  unfold headPort routePort upmap State.map64
  rw [hlo, hhi]

theorem word_set_apart (f : Fld) (n : Nat) (r : Reg) (s : State) (h : r.addr ≠ f.reg.addr) : (s.set f n).word r = s.word r :=
  State.word_setWord_other _ _ h

section
variable {p tb16 : Nat} {f : Frame} {u : State}

theorem headPort_updSync (g : Sync → Sync) (s : State) : headPort (s.updSync g) = headPort s := rfl

theorem headPort_toffs (n m : Nat) (u : State) : headPort ((u.set F.CHN_TOFFS_THETA n).set F.CHN_TSTAT_MISSED m) = headPort u :=
  headPort_congr ((word_set_apart _ _ _ _ (by decide)).trans (word_set_apart _ _ _ _ (by decide)))
    ((word_set_apart _ _ _ _ (by decide)).trans (word_set_apart _ _ _ _ (by decide)))

/-- F after an offset, and the slew of a period that follows from it, within 100 ppm (R430). -/
def syncFreq (theta : Int) (u : State) : Int := u.chn.sync.f - theta * 256 / (2 ^ u.get F.CHN_TRCFG2_KI : Nat)
def syncSlew (theta : Int) (u : State) : Int :=
  clampTo (syncPeriod u * 4096 / 10000 : Nat) (syncFreq theta u - theta * 256 / (2 ^ u.get F.CHN_TRCFG2_KP : Nat))
def syncGood (theta : Int) (u : State) : Nat := if theta.natAbs ≤ 320 then min 8 (u.chn.sync.good + 1) else 0

/-- TB6 steps by the offset (R430). -/
def syncStepped (theta : Int) (v : State) : State :=
  xEvent 4 (discTo false (((stepTime (-((theta + 8) / 16)) v).count F.CHN_TSTAT_STEPCNT).updSync fun y => { y with good := 0 }))

/-- TB6 slews by what F and the offset give, and counts small offsets (R430). -/
def syncSlewed (theta : Int) (v : State) : State :=
  let w := (v.updSync fun y =>
    { y with f := syncFreq theta v, slew := syncSlew theta v, slewLeft := syncPeriod v, good := syncGood theta v }).setInt F.CHN_TFREQ_F
      (syncFreq theta v / 256)
  if syncGood theta v = 8 then discTo true w else w

theorem syncReceive_here (h : isHead u = false ∧ p = (headPort u).val) : syncReceive p tb16 f u =
    if 16 * (u.get F.CHN_TRCFG2_STEPLIM : Int) < (syncTheta tb16 f u).natAbs then syncStepped (syncTheta tb16 f u) (syncNoted (syncTheta tb16 f u) u)
    else syncSlewed (syncTheta tb16 f u) (syncNoted (syncTheta tb16 f u) u) := by
  have hget : (syncNoted (syncTheta tb16 f u) u).get F.CHN_TRCFG2_STEPLIM = u.get F.CHN_TRCFG2_STEPLIM :=
    get_syncNoted _ u (by decide) (by decide) (by decide)
  have hhead : headPort (((u.setInt F.CHN_TOFFS_THETA ((syncTheta tb16 f u + 8) / 16)).set F.CHN_TSTAT_MISSED 0).updSync
      fun y => { y with since := 0, lost := false }) = headPort u := (headPort_updSync _ _).trans (headPort_toffs _ _ u)
  have hv : ((((u.setInt F.CHN_TOFFS_THETA ((syncTheta tb16 f u + 8) / 16)).set F.CHN_TSTAT_MISSED 0).updSync
      fun y => { y with since := 0, lost := false }).set F.CHN_TSTAT_PORT
      (headPort (((u.setInt F.CHN_TOFFS_THETA ((syncTheta tb16 f u + 8) / 16)).set F.CHN_TSTAT_MISSED 0).updSync
      fun y => { y with since := 0, lost := false })).val) = syncNoted (syncTheta tb16 f u) u := by
    rw [hhead, set_updSync, syncNoted]
  rw [← hget, ← hv]
  unfold syncReceive
  rw [if_neg (by simp [h.1, h.2])]
  rfl

theorem syncReceive_elsewhere (h : ¬ (isHead u = false ∧ p = (headPort u).val)) : syncReceive p tb16 f u = u := by
  refine if_pos ?_
  by_contra hn
  simp only [not_or, Bool.not_eq_true, not_not, ne_eq] at hn
  exact h hn

theorem syncPeriod_syncNoted (theta : Int) (u : State) : syncPeriod (syncNoted theta u) = syncPeriod u := by
  unfold syncPeriod
  rw [get_syncNoted theta u (by decide) (by decide) (by decide)]

theorem sync_updSync (g : Sync → Sync) (s : State) : (s.updSync g).chn.sync = g s.chn.sync := rfl

theorem sync_syncNoted (theta : Int) (u : State) :
    (syncNoted theta u).chn.sync = { u.chn.sync with since := 0, lost := false } := by
  rw [syncNoted, sync_updSync, State.set_chn, State.set_chn, State.setInt, State.set_chn]

theorem syncFreq_syncNoted (theta d : Int) (u : State) : syncFreq theta (syncNoted d u) = syncFreq theta u := by
  unfold syncFreq
  rw [get_syncNoted d u (by decide) (by decide) (by decide), sync_syncNoted]

theorem syncSlew_syncNoted (theta d : Int) (u : State) : syncSlew theta (syncNoted d u) = syncSlew theta u := by
  unfold syncSlew
  rw [syncPeriod_syncNoted, syncFreq_syncNoted, get_syncNoted d u (by decide) (by decide) (by decide)]

theorem syncGood_syncNoted (theta d : Int) (u : State) : syncGood theta (syncNoted d u) = syncGood theta u := by
  unfold syncGood
  rw [sync_syncNoted]

/-- A slew by what the unit held before SYNC (R430). -/
theorem syncSlewed_syncNoted (theta : Int) (u : State) : syncSlewed theta (syncNoted theta u) =
    let w := ((syncNoted theta u).updSync fun y =>
      { y with f := syncFreq theta u, slew := syncSlew theta u, slewLeft := syncPeriod u, good := syncGood theta u }).setInt F.CHN_TFREQ_F
        (syncFreq theta u / 256)
    if syncGood theta u = 8 then discTo true w else w := by
  unfold syncSlewed
  rw [syncPeriod_syncNoted, syncFreq_syncNoted, syncSlew_syncNoted, syncGood_syncNoted]

end

/-- Settles O49: SYNC, the delay measurement and the setting of the time, each by the rule of its own step; a denied write of CHN_TSETHI
touches none of the registers that the check of CHN_TSETLO reads. -/
theorem chainTime : Obligations.ChainTime := by
  unfold Obligations.ChainTime
  refine ⟨fun s => ?_, fun p tb16 f s u h => ?_, fun s => ?_, fun s => ?_, fun p f s u h => ?_, fun f s u h => ?_, fun p f s u h => ?_,
    fun hi lo s hh ha hb => ?_, fun cid hi lo s hn ha hb => ?_, fun p tb16 s e he hnone => ?_⟩
  · intro y d go
    exact ⟨fun h => congrArg Host.Outcome.next (syncSend_due (s := s.begin) h),
      fun h => congrArg Host.Outcome.next (syncSend_idle (s := s.begin) h)⟩
  · intro theta v period here
    have hrow : exec (.syncReceive p tb16) s = .next (settle (syncReceive p.val tb16 f u)) := h.rowS _
    refine ⟨fun hp hlim => ?_, fun hp hlim => ?_, fun hp => ?_⟩
    · exact hrow.trans (congrArg (fun u => Host.Outcome.next (settle u)) ((syncReceive_here hp).trans (if_pos hlim)))
    · intro fNew lim slew good w
      have hlim' : ¬ 16 * (u.get F.CHN_TRCFG2_STEPLIM : Int) < (syncTheta tb16 f u).natAbs := by
        have : (syncTheta tb16 f u).natAbs ≤ 16 * u.get F.CHN_TRCFG2_STEPLIM := hlim
        omega
      exact hrow.trans (congrArg (fun u => Host.Outcome.next (settle u))
        ((syncReceive_here hp).trans ((if_neg hlim').trans (syncSlewed_syncNoted _ u))))
    · rw [hrow, syncReceive_elsewhere hp]
  · intro go
    exact ⟨fun h => congrArg Host.Outcome.next (syncLost_due (s := s.begin) h),
      fun h => congrArg Host.Outcome.next (syncLost_idle (s := s.begin) h)⟩
  · intro tag go
    exact ⟨fun h => congrArg Host.Outcome.next (pdreqSend_due (s := s.begin) h),
      fun h => congrArg Host.Outcome.next (pdreqSend_idle (s := s.begin) h)⟩
  · have hrow : exec (.pdreq (p.castLE (by decide))) s = .next (settle (onPdreq p.val f u)) := h.rowS _
    rw [hrow, onPdreq, if_neg (by omega), portIx_val]
    rfl
  · exact h.rowS _
  · have hrow : exec (.pdrsp p) s = .next (settle (onPdrsp f u)) := h.rowS _
    refine ⟨fun t1 ht htag => ?_, fun hn => ?_⟩
    · rw [hrow, onPdrsp_mine ht htag]
      rfl
    · rw [hrow, onPdrsp_other hn]
  · have hgo : (isHead s.begin && isOne (1 : Cid).toNat) = true := by simpa [isOne] using hh
    have ha' : Admits 1 true R.CHN_TSETHI.addr s.begin := admits_begin ha
    have hb' : Admits 1 true R.CHN_TSETLO.addr s.begin := admits_begin hb
    exact congrArg (fun u => Host.Outcome.next (settle u)) (timeSet_by_head (by decide) (by decide) hgo ha' hb')
  · have ha' : Admits cid true R.CHN_TSETHI.addr s.begin := admits_begin ha
    have hb' : Admits cid true R.CHN_TSETLO.addr s.begin := admits_begin hb
    exact congrArg (fun u => Host.Outcome.next (settle u)) (timeSet_denied (by decide) (by decide) (timeDenied hn) ha' hb')
  · fin_cases he <;> exact rowS_onFrame_of_none hnone _

end Sys2Proof.Machine
end

section
/-!
PROOFS. Life-cycle commands and the tamper response (R462 to R469).
-/
namespace Sys2Proof.Machine

/-! The word of a command (R462): its command, its slot and its key. -/

/-- The word that a command writes to LCS_CMD. -/
abbrev lcsWord (cmd : Nat) (slot : Fin 4) (key : BitVec 16) : Word := BitVec.ofNat 32 (cmd + 16 * slot.val + 65536 * key.toNat)

theorem lcsWord_fields {cmd : Nat} (slot : Fin 4) (key : BitVec 16) (h : cmd < 16) :
    fieldOf 0 4 (lcsWord cmd slot key) = cmd ∧ fieldOf 4 2 (lcsWord cmd slot key) = slot.val ∧
      fieldOf 16 16 (lcsWord cmd slot key) = key.toNat := by
  have hk := key.isLt
  have hs := slot.isLt
  have hw : (lcsWord cmd slot key).toNat = cmd + 16 * slot.val + 65536 * key.toNat := by
    rw [BitVec.toNat_ofNat, Nat.mod_eq_of_lt (by omega)]
  simp only [fieldOf, hw]
  omega

section
variable {a c : Nat} {w : Word} {s : State}

theorem lcsWrite_cmd (hc : c ≤ 1) (h : a = 0x5000F010) :
    lcsWrite c a w s = some (.ok 0#64, lcsCommand c (fieldOf 0 4 w) (fieldOf 4 2 w) (fieldOf 16 16 w) s) := by
  have hc2 : ¬ 2 ≤ c := by omega
  subst h
  simp [lcsWrite, hc2]

theorem lcsWrite_tampcfg (h : a = 0x5000F0C0) : lcsWrite 1 a w s = some (.ok 0#64, tampcfgWrite w s) := by
  subst h
  simp [lcsWrite]

theorem lcsAccWrite_cmd (h : a = 0x5000F010) (hd : debugOpen s = true) :
    lcsAccWrite a w s = (.ok 0#64, lcsCommand 62 (fieldOf 0 4 w) (fieldOf 4 2 w) (fieldOf 16 16 w) s) := by
  subst h
  simp [lcsAccWrite, hd]

theorem lcsAccWrite_closed (hd : debugOpen s = false) : lcsAccWrite a w s = (.refused .deny, s) := by
  simp [lcsAccWrite, hd]

end

/-! A command, through the TAP or the fabric (R462). -/

/-- The state that has taken a command (R462). -/
def lcsTook (cmd slot : Nat) (s : State) : State :=
  (s.updLcs fun l => { l with cmd := some { cmd := cmd, slot := slot } }).set F.LCS_CMDSTAT_BUSY 1

/-- What an accepted command starts (R462, R463). -/
def lcsStart (cmd slot : Nat) (s : State) : State :=
  if cmd ≤ 4 then wipeStart .lifeCycle ((lcsTook cmd slot s).updLcs fun l => { l with secClosed := true })
  else if cmd = 5 then
    fuseRequest .key (((List.range 256).filter fun i => (keyDigest s).getLsbD i).map (.keyHash slot) ++ [.keyProg slot]) (lcsTook cmd slot s)
  else fuseRequest .key [.keyRev slot] (lcsTook cmd slot s)

theorem word_lcsTook {cmd slot : Nat} {s : State} {r : Reg} (h : r.addr ≠ R.LCS_CMDSTAT.addr) : (lcsTook cmd slot s).word r = s.word r :=
  word_set_apart _ _ _ _ h

theorem keyDigest_lcsTook (cmd slot : Nat) (s : State) : keyDigest (lcsTook cmd slot s) = keyDigest s := by
  have hword (i : Nat) : (lcsTook cmd slot s).word (R.LCS_KEYDATAi i) = s.word (R.LCS_KEYDATAi i) :=
    word_lcsTook (by simp only [R.LCS_KEYDATAi, R.LCS_CMDSTAT]; omega)
  unfold keyDigest
  simp only [hword]

theorem lcsCommand_eq (cid cmd slot key : Nat) (s : State) : lcsCommand cid cmd slot key s =
    if s.on F.LCS_CMDSTAT_BUSY then cmdError 8 s
    else if key ≠ 0x4C43 then cmdError 1 s
    else if cmdCheck cid cmd slot s ≠ 0 then cmdError (cmdCheck cid cmd slot s) s
    else lcsStart cmd slot s := by
  unfold lcsStart
  rw [← keyDigest_lcsTook cmd slot s]
  rfl

section
variable {cid : Cid} {cmd a : Nat} {slot : Fin 4} {key : BitVec 16} {w : Word} {s : State}

theorem writeAny_tap (h : a = R.LCS_CMD.addr) : writeAny 62 a w s =
    if debugOpen s then lcsCommand 62 (fieldOf 0 4 w) (fieldOf 4 2 w) (fieldOf 16 16 w) s else s.answerRefused Cause.deny.code := by
  unfold writeAny
  rw [if_pos ⟨rfl, .inl h⟩]
  cases hd : debugOpen s with
  | true => rw [lcsAccWrite_cmd h hd]; rfl
  | false => rw [lcsAccWrite_closed hd]; rfl

theorem writeAny_host (h : cid ≠ 62) : writeAny cid a w s = fabricWrite cid.toNat a w s := if_neg fun hn => h hn.1

theorem lcsCmd_row : (regRow? R.LCS_CMD.addr).isSome = true := by decide +kernel

theorem rowS_lcsCmd_host (h : cid ≠ 62) (ha : Admits cid true R.LCS_CMD.addr s) :
    rowS (writeAny cid R.LCS_CMD.addr w) s =
      if cid.toNat ≤ 1 then .next (settle (lcsCommand cid.toNat (fieldOf 0 4 w) (fieldOf 4 2 w) (fieldOf 16 16 w) s.begin))
      else .next (settle ((busErr { cid := cid.toNat } true R.LCS_CMD.addr .deny s.begin).answerRefused Cause.deny.code)) := by
  have hfun : rowS (writeAny cid R.LCS_CMD.addr w) s = rowS (fabricWrite cid.toNat R.LCS_CMD.addr w) s :=
    congrArg (fun u => Host.Outcome.next (settle u)) (writeAny_host h)
  rw [hfun]
  by_cases hc : cid.toNat ≤ 1
  · rw [if_pos hc]
    exact write_takes (d := 0#64) ha lcsCmd_row (by decide) fun row => (specialWriteLcs (by decide)).trans (lcsWrite_cmd hc rfl)
  · rw [if_neg hc]
    exact write_denied ha lcsCmd_row (by decide) fun row =>
      (specialWriteLcs (by decide)).trans (lcsWrite_deny (by omega) (by decide) (by decide))

/-- What a command ends in (R462): denied, an error, or what it starts. -/
theorem rowS_lcsCmd (hcmd : cmd < 16) (h : cid = 62 ∨ Admits cid true R.LCS_CMD.addr s) :
    rowS (lcsCmd cid cmd slot key) s =
      if !(if cid = 62 then debugOpen s else decide (cid.toNat ≤ 1)) then
        (if cid = 62 then .next (settle (s.begin.answerRefused Cause.deny.code))
          else .next (settle ((busErr { cid := cid.toNat } true R.LCS_CMD.addr .deny s.begin).answerRefused Cause.deny.code)))
      else .next (settle (lcsCommand cid.toNat cmd slot key.toNat s.begin)) := by
  obtain ⟨hc, hs, hk⟩ := lcsWord_fields slot key hcmd
  have hrow : rowS (lcsCmd cid cmd slot key) s = rowS (writeAny cid R.LCS_CMD.addr (lcsWord cmd slot key)) s := rfl
  rw [hrow]
  by_cases h62 : cid = 62
  · subst h62
    have htap : rowS (writeAny 62 R.LCS_CMD.addr (lcsWord cmd slot key)) s = _ :=
      congrArg (fun u => Host.Outcome.next (settle u)) (writeAny_tap rfl)
    rw [htap, hc, hs, hk, if_pos rfl, if_pos rfl]
    cases hd : debugOpen s with
    | true => exact congrArg (fun u => Host.Outcome.next (settle u)) (if_pos hd)
    | false => exact congrArg (fun u => Host.Outcome.next (settle u)) (if_neg (Bool.eq_false_iff.mp hd))
  · rw [rowS_lcsCmd_host h62 (h.resolve_left h62), hc, hs, hk, if_neg h62, if_neg h62]
    by_cases hone : cid.toNat ≤ 1 <;> simp [hone]

theorem key_iff : key.toNat ≠ 0x4C43 ↔ key ≠ 0x4C43#16 := by
  rw [ne_eq, ne_eq, ← BitVec.toNat_inj]
  rfl

/-- The errors of a command that is let through, in their order (R462). -/
theorem next_lcsCommand (c n : Nat) : Host.Outcome.next (settle (lcsCommand c cmd n key.toNat s.begin)) =
    if s.on F.LCS_CMDSTAT_BUSY then (.next (settle ((s.begin.set F.LCS_CMDSTAT_ERR 8).raise 0xE7)) : Result)
    else if key ≠ 0x4C43#16 then .next (settle ((s.begin.set F.LCS_CMDSTAT_ERR 1).raise 0xE7))
    else if cmdCheck c cmd n s ≠ 0 then .next (settle ((s.begin.set F.LCS_CMDSTAT_ERR (cmdCheck c cmd n s)).raise 0xE7))
    else .next (settle (lcsStart cmd n s.begin)) := by
  rw [lcsCommand_eq, apply_ite settle, apply_ite Host.Outcome.next]
  refine if_congr Iff.rfl rfl ?_
  rw [apply_ite settle, apply_ite Host.Outcome.next]
  refine if_congr key_iff rfl ?_
  rw [apply_ite settle, apply_ite Host.Outcome.next]
  exact if_congr Iff.rfl rfl rfl

/-- A command of LCS_CMD, with what an accepted one starts (R462). -/
theorem rowS_lcsCmd_start {v : State} (hcmd : cmd < 16) (h : cid = 62 ∨ Admits cid true R.LCS_CMD.addr s) (hv : lcsStart cmd slot s.begin = v) :
    rowS (lcsCmd cid cmd slot key) s =
      if !(if cid = 62 then debugOpen s else decide (cid.toNat ≤ 1)) then
        (if cid = 62 then .next (settle (s.begin.answerRefused Cause.deny.code))
          else .next (settle ((busErr { cid := cid.toNat } true R.LCS_CMD.addr .deny s.begin).answerRefused Cause.deny.code)))
      else if s.on F.LCS_CMDSTAT_BUSY then .next (settle ((s.begin.set F.LCS_CMDSTAT_ERR 8).raise 0xE7))
      else if key ≠ 0x4C43#16 then .next (settle ((s.begin.set F.LCS_CMDSTAT_ERR 1).raise 0xE7))
      else if cmdCheck cid.toNat cmd slot s ≠ 0 then
        .next (settle ((s.begin.set F.LCS_CMDSTAT_ERR (cmdCheck cid.toNat cmd slot s)).raise 0xE7))
      else .next (settle v) := by
  rw [rowS_lcsCmd hcmd h, next_lcsCommand, hv]

end

/-! What a command asks for (R462). -/

section
variable {cid cmd slot : Nat} {s : State}

/-- Is the command allowed to the client in the present state (R462)? -/
def cmdAllowed (cid cmd : Nat) (s : State) : Bool :=
  match cmd with
  | 1 => cid == 62 && lifeState s == 0
  | 2 => cid == 1 && lifeState s == 1
  | 3 => cid == 1 && lifeState s == 2
  | 4 => lifeState s != 4 && (cid == 1 || (cid == 62 && jtagOpen s))
  | 5 => (cid == 1 && lifeState s ≤ 2) || (cid == 62 && lifeState s ≤ 1)
  | 6 => cid == 1 && (lifeState s == 1 || lifeState s == 2 || lifeState s == 3)
  | _ => false

theorem cmdCheck_eq (cid cmd slot : Nat) (s : State) : cmdCheck cid cmd slot s =
    if (!cmdAllowed cid cmd s) = true then 2
    else if cmd = 1 ∧ (!(List.range 4).any fun k => slotUsable k s) = true then 4
    else if cmd = 5 ∧ s.lcs.fuses.keyProg.getLsbD slot = true then 4
    else if cmd = 6 ∧ (!slotUsable slot s) = true then 4
    else if cmd = 6 ∧ (!(List.range 4).any fun k => k != slot && slotUsable k s) = true then 5
    else if s.bit F.ADC_SUPSTAT_LIVE 1 = true then 6
    else 0 := rfl

/-- What an accepted command has passed (R462). -/
theorem cmdCheck_zero (h : cmdCheck cid cmd slot s = 0) : cmdAllowed cid cmd s = true ∧
    (cmd = 5 → s.lcs.fuses.keyProg.getLsbD slot = false) ∧
    (cmd = 6 → slotUsable slot s = true ∧ (List.range 4).any (fun k => k != slot && slotUsable k s) = true) ∧
    s.bit F.ADC_SUPSTAT_LIVE 1 = false := by
  rw [cmdCheck_eq] at h
  by_cases hall : (!cmdAllowed cid cmd s) = true
  · simp [hall] at h
  by_cases hslots : cmd = 1 ∧ (!(List.range 4).any fun k => slotUsable k s) = true
  · simp only [if_neg hall, if_pos hslots] at h
    omega
  by_cases hprog : cmd = 5 ∧ s.lcs.fuses.keyProg.getLsbD slot = true
  · simp only [if_neg hall, if_neg hslots, if_pos hprog] at h
    omega
  by_cases husable : cmd = 6 ∧ (!slotUsable slot s) = true
  · simp only [if_neg hall, if_neg hslots, if_neg hprog, if_pos husable] at h
    omega
  by_cases hother : cmd = 6 ∧ (!(List.range 4).any fun k => k != slot && slotUsable k s) = true
  · simp only [if_neg hall, if_neg hslots, if_neg hprog, if_neg husable, if_pos hother] at h
    omega
  by_cases hsup : s.bit F.ADC_SUPSTAT_LIVE 1 = true
  · simp only [if_neg hall, if_neg hslots, if_neg hprog, if_neg husable, if_neg hother, if_pos hsup] at h
    omega
  exact ⟨by simpa using hall, fun h5 => Bool.eq_false_iff.mpr fun hp => hprog ⟨h5, hp⟩,
    fun h6 => ⟨by_contra fun hn => husable ⟨h6, by simpa using hn⟩, by_contra fun hn => hother ⟨h6, by simpa using hn⟩⟩,
    Bool.eq_false_iff.mpr hsup⟩

theorem cmdAllowed_range (h : cmdAllowed cid cmd s = true) : 1 ≤ cmd ∧ cmd ≤ 6 := by
  unfold cmdAllowed at h
  split at h <;> simp_all

end

/-! The tamper response (R467 to R469). -/

section
variable {i : Nat} {s u : State}

theorem tampDetect_live (h : s.bit F.LCS_TAMPSTAT_LIVE i = true) : tampDetect i s = s := if_pos h

/-- What a source that appears does (R467), by its enabled action. -/
def tampRespond (i : Nat) (u : State) : State :=
  match tampAction i u with
  | none => u
  | some 0 => faultSummary (tampRecord i u)
  | some act =>
    match u.lcs.resp with
    | some r => faultSummary (tampRecord i (u.updLcs fun l => { l with resp := some { r with action := max r.action act } }))
    | none => tampStep3 (tampRecord i (u.updLcs fun l => { l with secClosed := true, resp := some { action := act } }).faultEval)

theorem tampDetect_appears (h : s.bit F.LCS_TAMPSTAT_LIVE i = false) :
    tampDetect i s = tampRespond i (s.setBit F.LCS_TAMPSTAT_LIVE i true) := by
  unfold tampDetect
  rw [if_neg (by simp [h])]
  rfl

theorem tampRespond_none (h : tampAction i u = none) : tampRespond i u = u := by
  unfold tampRespond
  rw [h]

theorem tampRespond_zero (h : tampAction i u = some 0) : tampRespond i u = faultSummary (tampRecord i u) := by
  unfold tampRespond
  rw [h]
  rfl

theorem tampRespond_first {act : Nat} (h : tampAction i u = some act) (h0 : act ≠ 0) (hr : u.lcs.resp = none) : tampRespond i u =
    tampStep3 (tampRecord i (u.updLcs fun l => { l with secClosed := true, resp := some { action := act } }).faultEval) := by
  unfold tampRespond
  rw [h]
  cases act with
  | zero => exact absurd rfl h0
  | succ n =>
    rw [hr]
    rfl

theorem tampRespond_again {act : Nat} {r : TampResp} (h : tampAction i u = some act) (h0 : act ≠ 0) (hr : u.lcs.resp = some r) :
    tampRespond i u =
      faultSummary (tampRecord i (u.updLcs fun l => { l with resp := some { r with action := max r.action act } })) := by
  unfold tampRespond
  rw [h]
  cases act with
  | zero => exact absurd rfl h0
  | succ n =>
    rw [hr]
    rfl

end

/-! LCS_TAMPCFG (R469). -/

/-- The actions of the six sources, each the greater of what stands and what is written (R469). -/
def tactMax (old new : Nat) : Nat := (List.range 6).foldl (fun v i => v + max (old / 4 ^ i % 4) (new / 4 ^ i % 4) * 4 ^ i) 0

/-- A number below 4^6 is the sum of its base-4 digits. -/
theorem digits_six (n : Nat) (h : n < 4096) : (List.range 6).foldl (fun v i => v + n / 4 ^ i % 4 * 4 ^ i) 0 = n := by
  simp [List.range, List.range.loop]
  omega

theorem tactMax_eq {old new n : Nat} (hn : n < 4096) (h : ∀ i < 6, n / 4 ^ i % 4 = max (old / 4 ^ i % 4) (new / 4 ^ i % 4)) :
    tactMax old new = n := by
  refine Eq.trans ?_ (digits_six n hn)
  unfold tactMax
  refine List.foldl_ext _ _ _ fun v i hi => ?_
  rw [h i (List.mem_range.mp hi)]

theorem tampcfgWrite_open {w : Word} {s : State} (h : s.on F.LCS_TAMPCFG_LOCK = false) :
    tampcfgWrite w s = s.setWord R.LCS_TAMPCFG (w &&& 0x8007FFFF#32) := if_neg (by simp [h])

theorem tampcfgWrite_locked {w : Word} {s : State} {n : Nat} (h : s.on F.LCS_TAMPCFG_LOCK = true) (hn : n < 4096)
    (hd : ∀ i < 6, n / 4 ^ i % 4 = max (s.get F.LCS_TAMPCFG_TACT / 4 ^ i % 4) (w.toNat / 64 / 4 ^ i % 4)) :
    tampcfgWrite w s = (s.set F.LCS_TAMPCFG_TEN (s.get F.LCS_TAMPCFG_TEN ||| w.toNat % 64)).set F.LCS_TAMPCFG_TACT n := by
  have hmax : tactMax (s.get F.LCS_TAMPCFG_TACT) (fieldOf 6 12 w) = n := by
    refine tactMax_eq hn fun i hi => ?_
    rw [hd i hi]
    congr 1
    unfold fieldOf
    interval_cases i <;> omega
  have hten : fieldOf 0 6 w = w.toNat % 64 := by simp [fieldOf]
  have hlocked : tampcfgWrite w s = (s.set F.LCS_TAMPCFG_TEN (s.get F.LCS_TAMPCFG_TEN ||| fieldOf 0 6 w)).set F.LCS_TAMPCFG_TACT
      (tactMax (s.get F.LCS_TAMPCFG_TACT) (fieldOf 6 12 w)) := if_pos h
  rw [hlocked, hmax, hten]

/-! The next step of a response (R468). -/

theorem updLcs_congr {s : State} {f g : Lcs → Lcs} (h : f s.lcs = g s.lcs) : s.updLcs f = s.updLcs g := by
  unfold State.updLcs
  rw [h]

theorem tampStep3_blow {s : State} (h : ones s.lcs.fuses.tset < 16) :
    tampStep3 s = fuseRequest .tamper [.tset (ones s.lcs.fuses.tset)] s := if_pos h

theorem tampStep3_full {s : State} {r : TampResp} (h : s.lcs.fuses.tset = 0xFFFF#16) (hr : s.lcs.resp = some r) :
    tampStep3 s = wipeStart .tamper (s.updLcs fun l => { l with resp := some { action := 3, step := 4 } }) := by
  have hones : ¬ ones s.lcs.fuses.tset < 16 := by
    rw [h]
    decide
  unfold tampStep3
  rw [if_neg hones]
  refine congrArg _ (updLcs_congr ?_)
  rw [hr]
  rfl

theorem tampcfg_row : (regRow? R.LCS_TAMPCFG.addr).isSome = true := by decide +kernel

/-- Settles O51: a command is let through by its client, its key and the table before it starts anything; a tamper source acts by its
enabled action and the response under way; LCS_TAMPCFG, once locked, only rises. -/
theorem lifeCycleAndTamper : Obligations.LifeCycleAndTamper := by
  unfold Obligations.LifeCycleAndTamper
  refine ⟨?_, fun cid slot s => ?_, fun i s => ?_, fun i s => rfl, fun same s => ?_, fun s => ⟨tampStep3_blow, fun r => tampStep3_full⟩,
    fun w s => ⟨fun ha => ⟨fun hl => ?_, fun n hn hl hd => ?_⟩, fun ha => ?_, fun cid hc ha => ?_⟩⟩
  · intro cid slot key s h k err shut deny took move hash may out
    exact ⟨rowS_lcsCmd_start (slot := 0) (by decide) h rfl, rowS_lcsCmd_start (slot := 0) (by decide) h rfl,
      rowS_lcsCmd_start (slot := 0) (by decide) h rfl, rowS_lcsCmd_start (slot := 0) (by decide) h rfl,
      rowS_lcsCmd_start (by decide) h rfl, rowS_lcsCmd_start (by decide) h rfl⟩
  · refine ⟨fun h => ?_, fun h => ?_, fun h => ?_, fun h => ?_, fun h => ?_, fun h => ?_, fun cmd h => ?_⟩
    all_goals obtain ⟨hall, hprog, husable, hsup⟩ := cmdCheck_zero h
    · simpa [cmdAllowed] using hall
    · simpa [cmdAllowed] using hall
    · simpa [cmdAllowed] using hall
    · simpa [cmdAllowed, jtagOpen] using hall
    · have : (cid = 1 ∧ lifeState s ≤ 2) ∨ (cid = 62 ∧ lifeState s ≤ 1) := by simpa [cmdAllowed] using hall
      exact ⟨by omega, by omega, hprog rfl⟩
    · obtain ⟨hu, ho⟩ := husable rfl
      exact ⟨by simp [cmdAllowed] at hall; exact hall.1, hu, by simpa using ho⟩
    · obtain ⟨h1, h6⟩ := cmdAllowed_range hall
      exact ⟨h1, h6, hsup⟩
  · intro u
    refine ⟨fun h => congrArg Host.Outcome.next (tampDetect_live (s := s.begin) h), fun h => ?_⟩
    have happ : exec (.tamperDetect i) s = .next (tampRespond i u) := congrArg Host.Outcome.next (tampDetect_appears (s := s.begin) h)
    exact ⟨fun ha => happ.trans (congrArg _ (tampRespond_none ha)), fun ha => happ.trans (congrArg _ (tampRespond_zero ha)),
      fun act ha h0 hr => happ.trans (congrArg _ (tampRespond_first ha h0 hr)),
      fun act r ha h0 hr => happ.trans (congrArg _ (tampRespond_again ha h0 hr))⟩
  · intro v
    refine ⟨fun h => congrArg Host.Outcome.next (if_pos h), fun h => ?_⟩
    refine (congrArg Host.Outcome.next (if_neg (Nat.not_lt.mpr h))).trans ?_
    cases same <;> rfl
  · exact (write_takes (d := 0#64) ha tampcfg_row (by decide) fun row => (specialWriteLcs (by decide)).trans (lcsWrite_tampcfg rfl)).trans
      (congrArg (fun u => Host.Outcome.next (settle u)) (tampcfgWrite_open (s := s.begin) hl))
  · exact (write_takes (d := 0#64) ha tampcfg_row (by decide) fun row => (specialWriteLcs (by decide)).trans (lcsWrite_tampcfg rfl)).trans
      (congrArg (fun u => Host.Outcome.next (settle u)) (tampcfgWrite_locked (s := s.begin) hl hn hd))
  · exact write_takes (d := 0#64) ha tampcfg_row (by decide) fun row =>
      (specialWriteLcs (by decide)).trans (lcsWrite_host (off := 0xC0) (by decide) rfl)
  · exact write_denied ha tampcfg_row (by decide) fun row => (specialWriteLcs (by decide)).trans (lcsWrite_deny hc (by decide) (by decide))

end Sys2Proof.Machine
end

section
/-!
PROOFS. COMMIT, ARM, DISARM, CLRFLT and the configuration of a leg, and the fault inputs (R307 to R318).
-/
namespace Sys2Proof.Machine

/-- A write of all four bytes leaves nothing of the old word. -/
theorem mergeMask_all (old w : Word) : mergeMask old w 15 = w := by
  have h : ∀ k < 4, natBit 15 k = true := by decide
  unfold mergeMask mergeBytes
  rw [h 0 (by decide), h 1 (by decide), h 2 (by decide), h 3 (by decide)]
  simp only [if_true]
  refine BitVec.eq_of_getLsbD_eq fun i hi => ?_
  simp only [BitVec.getLsbD_append, BitVec.getLsbD_extractLsb']
  grind

/-! The legs and the groups, read after a write of one of them. -/

section
variable {l k : Nat} {s : State}

theorem legIx_fin (l : Fin 16) : legIx l = l := Fin.ext (Nat.mod_eq_of_lt l.isLt)
theorem grpIx_fin (g : Fin 4) : grpIx g = g := Fin.ext (Nat.mod_eq_of_lt g.isLt)

theorem leg_setLeg_same (x : Leg) : (s.setLeg l x).leg l = x := by
  unfold State.leg State.setLeg
  exact Vector.getElem_set_self ..

theorem leg_setLeg_other (h : legIx k ≠ legIx l) (x : Leg) : (s.setLeg l x).leg k = s.leg k := by
  unfold State.leg State.setLeg
  exact Vector.getElem_set_ne (Fin.isLt _) (Fin.isLt _) fun he => h (Fin.ext he.symm)

theorem grp_setGrp_same (x : Grp) : (s.setGrp l x).grp l = x := by
  unfold State.grp State.setGrp
  exact Vector.getElem_set_self ..

theorem grp_setGrp_other (h : grpIx k ≠ grpIx l) (x : Grp) : (s.setGrp l x).grp k = s.grp k := by
  unfold State.grp State.setGrp
  exact Vector.getElem_set_ne (Fin.isLt _) (Fin.isLt _) fun he => h (Fin.ext he.symm)

end

/-! COMMIT (R307) marks the shadow values as they stand. -/

/-- The state with other legs: all else as it stands. -/
def State.withLegs (s : State) (v : Vector Leg 16) : State := { s with pwm := { s.pwm with leg := v } }

/-- What a COMMIT does to leg `l`, which stands as `x`, where all else stands as in `b`. -/
def commitLeg (cid l : Nat) (x : Leg) (b : State) : Leg :=
  if commitNames cid l b then { x with pend := some { shadowSet l b with absolute := x.shadowAbs } } else x

/-- A COMMIT of one leg of group `g`, as the group stands in `s`. -/
def commitStep (cid g : Nat) (s : State) (l : Nat) (t : State) : State :=
  if legGroup l s == g then
    if commitNames cid l t then t.setLeg l { t.leg l with pend := some (shadowSet l t) } else t
  else t

section
variable {cid g l k : Nat} {s t : State} (v : Vector Leg 16)

theorem leg_commitStep_same : (commitStep cid g s l t).leg l =
    if legGroup l s == g then commitLeg cid l (t.leg l) (t.withLegs v) else t.leg l := by
  unfold commitStep commitLeg
  split
  · have hnames : commitNames cid l (t.withLegs v) = commitNames cid l t := rfl
    rw [hnames]
    split
    · rw [leg_setLeg_same]
      rfl
    · rfl
  · rfl

theorem leg_commitStep_other (hk : k < 16) (hl : l < 16) (h : k ≠ l) : (commitStep cid g s k t).leg l = t.leg l := by
  have hix : legIx l ≠ legIx k := fun he => by
    have : l % 16 = k % 16 := congrArg Fin.val he
    omega
  unfold commitStep
  split_ifs
  · exact leg_setLeg_other hix _
  · rfl
  · rfl

theorem withLegs_commitStep : (commitStep cid g s k t).withLegs v = t.withLegs v := by
  unfold commitStep
  split_ifs <;> rfl

/-- All legs after a COMMIT of their group's (R307). -/
theorem commitSteps_view (l : Fin 16) (s : State) :
    (forEach 16 (commitStep cid g s) s).leg l = (if legGroup l s == g then commitLeg cid l (s.leg l) (s.withLegs v) else s.leg l) ∧
      (forEach 16 (commitStep cid g s) s).withLegs v = s.withLegs v := by
  have hview := forEach_view (view := fun t => (t.leg l, t.withLegs v))
    (g := fun x => (if legGroup l s == g then commitLeg cid l x.1 x.2 else x.1, x.2)) (f := commitStep cid g s) (i := l)
    (fun t => Prod.ext (leg_commitStep_same v) (withLegs_commitStep v)) 16
    (fun k hk hne t => Prod.ext (leg_commitStep_other hk l.isLt hne) (withLegs_commitStep v)) s
  rw [if_pos l.isLt] at hview
  exact ⟨congrArg Prod.fst hview, congrArg Prod.snd hview⟩

end

/-- The part of a COMMIT that marks the shadow values, and the scheduler's (R307, R130). -/
theorem commitBy_eq (cid g : Nat) (s : State) : commitBy cid g s =
    let t := forEach 16 (commitStep cid g s) s
    let t := t.setGrp g { t.grp g with pend := some (groupShadow g t) }
    (cidCore cid).elim t (fun c => schedCommit c g t) := by
  have hfold : (groupLegs g s).foldl (fun t l =>
      if commitNames cid l t then t.setLeg l { t.leg l with pend := some (shadowSet l t) } else t) s = forEach 16 (commitStep cid g s) s := by
    unfold groupLegs forEach
    exact List.foldl_filter ..
  unfold commitBy
  rw [hfold]
  cases cidCore cid <;> rfl

/-! The scheduler and the governor leave the legs, the groups, memory and Yarrow alone. -/

/-- The parts that a governor's or a scheduler's step keeps. -/
structure PlantKept (s t : State) : Prop where
  pwm : t.pwm = s.pwm
  mem : t.mem = s.mem
  yar : t.yar = s.yar

namespace PlantKept
variable {s t u : State}

theorem refl (s : State) : PlantKept s s := ⟨rfl, rfl, rfl⟩
theorem trans (h : PlantKept s t) (k : PlantKept t u) : PlantKept s u := ⟨k.pwm.trans h.pwm, k.mem.trans h.mem, k.yar.trans h.yar⟩
theorem set (f : Fld) (v : Nat) (s : State) : PlantKept s (s.set f v) := ⟨rfl, rfl, rfl⟩
theorem gov (x : Gov) (s : State) : PlantKept s { s with gov := x } := ⟨rfl, rfl, rfl⟩
theorem sched (c : Fin 2) (f : Sched → Sched) (s : State) : PlantKept s (s.updSched c f) := ⟨rfl, rfl, rfl⟩
theorem raise (n : Nat) (s : State) : PlantKept s (s.raise n) := ⟨State.raise_pwm s n, State.raise_mem s n, State.raise_yar s n⟩

theorem ite {c : Prop} [Decidable c] (ht : PlantKept s t) (hu : PlantKept s u) : PlantKept s (if c then t else u) := by
  split
  · exact ht
  · exact hu

theorem govEnds (s : State) : PlantKept s (govEnds s) := by
  have h : PlantKept s ((s.setB F.SYS_GOVSTAT_ATMIN (decide (s.get F.SYS_GOVSTAT_VTGT = govFloor s))).setB F.SYS_GOVSTAT_ATMAX
      (decide (s.get F.SYS_GOVSTAT_VTGT = s.get F.SYS_GOVLIM_VMAX))) := (set ..).trans (set ..)
  exact ite (h.trans (raise ..)) h

theorem govTarget (v : Nat) (s : State) : PlantKept s (govTarget v s) := by
  have h : PlantKept s (if v = s.get F.SYS_GOVSTAT_VTGT then s else { s with gov := { s.gov with movedAt := s.now } }) :=
    ite (refl s) (gov _ s)
  exact h.trans ((set ..).trans ((govEnds _).trans ((gov ..).trans (set ..))))

theorem govEmergency (s : State) : PlantKept s (govEmergency s) :=
  (gov _ s).trans ((set ..).trans ((set ..).trans ((govTarget ..).trans (raise ..))))

theorem govWindowEnd (s : State) : PlantKept s (govWindowEnd s) := by
  unfold Machine.govWindowEnd
  have hmin : PlantKept s (match s.gov.minSlk with
      | some v => s.setInt F.SYS_GOVSLK_MIN v
      | none => s) := by
    cases s.gov.minSlk with
    | none => exact refl s
    | some v => exact set ..
  exact hmin.trans (ite ((ite (set ..) (refl _)).trans (govTarget ..)) ((gov ..).trans (set ..)))

theorem govInstance (c : Fin 2) (v : Int) (lsper : Nat) (s : State) : PlantKept s (govInstance c v lsper s) :=
  ite (refl s) (ite (govEmergency s) (ite ((ite (set ..) (refl s)).trans (govTarget ..))
    (((gov _ s).trans (set ..)).trans (ite (govWindowEnd _) (refl _)))))

theorem schedSlack (c : Fin 2) (v : Int) (s : State) : PlantKept s (schedSlack c v s) := (sched ..).trans (govInstance ..)

theorem schedMet (c : Fin 2) (d : Int) (s : State) : PlantKept s (schedMet c d s) :=
  ite ((sched ..).trans (schedSlack ..)) (schedSlack ..)

theorem schedCommit (c : Fin 2) (g : Nat) (s : State) : PlantKept s (schedCommit c g s) := by
  unfold Machine.schedCommit
  dsimp only
  split
  · exact refl s
  · split
    · exact refl s
    · split
      · split
        · exact (sched ..).trans (schedMet ..)
        · exact sched ..
      · exact sched ..
      · exact refl s
      · exact refl s

end PlantKept

section
variable {cid : Nat} {g : Fin 4} {s : State}

/-- The state in which a COMMIT has marked the shadow values. -/
def committed (cid : Nat) (g : Fin 4) (s : State) : State :=
  let t := forEach 16 (commitStep cid g s) s
  t.setGrp g { t.grp g with pend := some (groupShadow g t) }

theorem commitBy_kept : PlantKept (committed cid g s) (commitBy cid g s) := by
  rw [commitBy_eq]
  cases cidCore cid with
  | none => exact .refl _
  | some c => exact .schedCommit c g _

theorem commitBy_sched (h : cidCore cid = none) : (commitBy cid g s).sched = s.sched := by
  have hrest := (commitSteps_view (cid := cid) (g := g) s.pwm.leg 0 s).2
  rw [commitBy_eq, h]
  exact (congrArg State.sched hrest :)

theorem leg_committed (l : Fin 16) : (committed cid g s).leg l =
    if legGroup l s = g.val ∧ commitNames cid l s = true then { s.leg l with pend := some (shadowSet l s) } else s.leg l := by
  have hleg := (commitSteps_view (cid := cid) (g := g) s.pwm.leg l s).1
  refine Eq.trans (show (committed cid g s).leg l = _ from hleg) ?_
  unfold commitLeg
  by_cases hg : legGroup l s = g.val
  · rw [if_pos (by simpa using hg)]
    exact if_congr (by simp [hg]; rfl) rfl rfl
  · rw [if_neg (by simpa using hg), if_neg fun h => hg h.1]

theorem grp_committed (h : Fin 4) : (committed cid g s).grp h =
    if h = g then { s.grp g with pend := some (groupShadow g s) } else s.grp h := by
  have hrest := (commitSteps_view (cid := cid) (g := g) s.pwm.leg 0 s).2
  have hgrp (k : Nat) : (forEach 16 (commitStep cid g s) s).grp k = s.grp k := (congrArg (fun u : State => u.grp k) hrest :)
  have hshadow : groupShadow g (forEach 16 (commitStep cid g s) s) = groupShadow g s := (congrArg (groupShadow g) hrest :)
  unfold committed
  dsimp only
  by_cases hg : h = g
  · subst hg
    rw [if_pos rfl, grp_setGrp_same, hgrp, hshadow]
  · rw [if_neg hg, grp_setGrp_other (by simpa [grpIx_fin] using hg), hgrp]

theorem rest_committed : (committed cid g s).mem = s.mem ∧ (committed cid g s).yar = s.yar := by
  have hrest := (commitSteps_view (cid := cid) (g := g) s.pwm.leg 0 s).2
  exact ⟨(congrArg State.mem hrest :), (congrArg State.yar hrest :)⟩

end

/-! Writes of the registers of a leg (R310 to R312, R318). -/

section
variable {a c l : Nat} {w : Word} {s : State}

theorem pwmWrite_leg {k : Nat} (hl : l < 16) (hk : k < 64) (h : a = 0x50008200 + 4096 * (l / 8) + 64 * (l % 8) + k) :
    pwmWrite c a w 15 s =
      if k = 0x1C then some (legCtl c l w s)
      else if !legRight c l s then some (.refused .deny, s)
      else if k = 0x18 then some (legCfg l w s)
      else pwmWrite c a w 15 s := by
  have hb : (a - 0x50008000) / 0x1000 = l / 8 := by omega
  have hoff : a % 0x1000 = 0x200 + 64 * (l % 8) + k := by omega
  have hix : 8 * (l / 8) + (0x200 + 64 * (l % 8) + k - 0x200) / 0x40 = l := by omega
  have hrem : (0x200 + 64 * (l % 8) + k) % 0x40 = k := by omega
  have hin : 0x200 ≤ 0x200 + 64 * (l % 8) + k ∧ 0x200 + 64 * (l % 8) + k < 0x400 := by omega
  have hnot : ¬ 0x200 + 64 * (l % 8) + k < 0x100 := by omega
  by_cases hctl : k = 0x1C
  · subst hctl
    unfold pwmWrite
    rw [if_neg (by omega)]
    dsimp only
    rw [hb, hoff, if_neg hnot, if_pos hin, hix, hrem, if_pos rfl, if_pos rfl]
  · rw [if_neg hctl]
    by_cases hr : (!legRight c l s) = true
    · rw [if_pos hr]
      unfold pwmWrite
      rw [if_neg (by omega)]
      dsimp only
      rw [hb, hoff, if_neg hnot, if_pos hin, hix, hrem, if_neg hctl, if_pos hr]
    · rw [if_neg hr]
      by_cases hcfg : k = 0x18
      · subst hcfg
        rw [if_pos rfl]
        unfold pwmWrite
        rw [if_neg (by omega)]
        dsimp only
        rw [hb, hoff, if_neg hnot, if_pos hin, hix, hrem, if_neg hctl, if_neg hr, if_neg (by decide), if_neg (by decide), if_neg (by decide),
          if_neg (by decide), if_neg (by decide), if_pos rfl, mergeMask_all]
      · rw [if_neg hcfg]

theorem pwmWrite_commit {g : Fin 4} (h : a = 0x50008008 + 4096 * (g.val / 2) + 128 * (g.val % 2)) :
    pwmWrite c a w 15 s = some (.ok 0#64, commitBy c g s) := by
  have hg := g.isLt
  have hb : (a - 0x50008000) / 0x1000 = g.val / 2 := by omega
  have hoff : a % 0x1000 = 128 * (g.val % 2) + 8 := by omega
  have hix : 2 * (g.val / 2) + (128 * (g.val % 2) + 8) / 0x80 = g := by omega
  have hrem : (128 * (g.val % 2) + 8) % 0x80 = 8 := by omega
  unfold pwmWrite
  rw [if_neg (by omega)]
  dsimp only
  rw [hb, hoff, if_pos (by omega), hix, hrem, if_neg (by decide), if_pos rfl]

/-- The three operations of PWM_LnCTL (R310, R311, R318), each alone. -/
theorem legCtl_arm : legCtl c l 1#32 s = if legRight c l s then (.ok 0#64, legArm l s) else (.refused .deny, s) := by
  have : (isOne c && (fieldOf 1 1 (1#32) != 0) && !(fieldOf 0 1 (1#32) != 0) && !(fieldOf 2 1 (1#32) != 0)) = false := by
    simp [fieldOf]
  unfold legCtl
  dsimp only
  rw [this, Bool.or_false]
  rfl

theorem legCtl_disarm : legCtl c l 2#32 s = if legRight c l s || isOne c then (.ok 0#64, legDisarm l s) else (.refused .deny, s) := by
  have : (isOne c && (fieldOf 1 1 (2#32) != 0) && !(fieldOf 0 1 (2#32) != 0) && !(fieldOf 2 1 (2#32) != 0)) = isOne c := by
    simp [fieldOf]
  unfold legCtl
  dsimp only
  rw [this]
  rfl

theorem legCtl_clrflt : legCtl c l 4#32 s = if legRight c l s then (.ok 0#64, legClrflt l s) else (.refused .deny, s) := by
  have : (isOne c && (fieldOf 1 1 (4#32) != 0) && !(fieldOf 0 1 (4#32) != 0) && !(fieldOf 2 1 (4#32) != 0)) = false := by
    simp [fieldOf]
  unfold legCtl
  dsimp only
  rw [this, Bool.or_false]
  rfl

end

/-- The registers of a leg's CTL and CFG and of a group's COMMIT have their rows, and their places in the blocks. -/
theorem leg_rows (l : Fin 16) :
    ((regRow? (R.PWM_LnCTL (l.val / 8) (l.val % 8)).addr).isSome = true ∧
      (R.PWM_LnCTL (l.val / 8) (l.val % 8)).addr = 0x50008200 + 4096 * (l.val / 8) + 64 * (l.val % 8) + 0x1C) ∧
    (regRow? (R.PWM_LnCFG (l.val / 8) (l.val % 8)).addr).isSome = true ∧
      (R.PWM_LnCFG (l.val / 8) (l.val % 8)).addr = 0x50008200 + 4096 * (l.val / 8) + 64 * (l.val % 8) + 0x18 := by
  revert l
  decide +kernel

theorem gcommit_row (g : Fin 4) : (regRow? (R.PWM_GCOMMIT (g.val / 2) (g.val % 2)).addr).isSome = true ∧
    (R.PWM_GCOMMIT (g.val / 2) (g.val % 2)).addr = 0x50008008 + 4096 * (g.val / 2) + 128 * (g.val % 2) := by
  revert g
  decide +kernel

theorem specialWritePwm_any {row : RegRow} {c a : Nat} {w : Word} {mask : Nat} {s : State} (h : 0x50008000 ≤ a ∧ a < 0x5000A000) :
    specialWrite row c a w mask s = pwmWrite c a w mask s := by
  obtain h8 | h9 : (a - 0x50000000) / 0x1000 = 8 ∨ (a - 0x50000000) / 0x1000 = 9 := by omega
  · exact specialWritePwm h8
  · exact specialWritePwmB h9

section
variable {cid : Cid} {l : Fin 16} {w : Word} {s : State}

/-- A write of PWM_LnCTL ends in what its operation gives, or is denied. -/
theorem write_legCtl {b : Bool} {u : State} (ha : Admits cid true (R.PWM_LnCTL (l.val / 8) (l.val % 8)).addr s)
    (h : legCtl cid.toNat l w s.begin = if b then (.ok 0#64, u) else (.refused .deny, s.begin)) :
    rowS (fabricWrite cid.toNat (R.PWM_LnCTL (l.val / 8) (l.val % 8)).addr w) s = if b then .next (settle u) else
      .next (settle ((busErr { cid := cid.toNat } true (R.PWM_LnCTL (l.val / 8) (l.val % 8)).addr .deny s.begin).answerRefused
        Cause.deny.code)) := by
  obtain ⟨⟨hrow, haddr⟩, -⟩ := leg_rows l
  have hl := l.isLt
  have hspecial (row : RegRow) : specialWrite row cid.toNat (R.PWM_LnCTL (l.val / 8) (l.val % 8)).addr w 15 s.begin =
      some (legCtl cid.toNat l w s.begin) := by
    rw [specialWritePwm_any (by omega), pwmWrite_leg l.isLt (by decide) haddr, if_pos rfl]
  cases b with
  | true => exact write_takes ha hrow (by omega) fun row => (hspecial row).trans (congrArg some h)
  | false => exact write_denied ha hrow (by omega) fun row => (hspecial row).trans (congrArg some h)

/-- A write of PWM_LnCFG (R312). -/
theorem write_legCfg_denied (ha : Admits cid true (R.PWM_LnCFG (l.val / 8) (l.val % 8)).addr s) (h : legRight cid.toNat l s.begin = false) :
    rowS (fabricWrite cid.toNat (R.PWM_LnCFG (l.val / 8) (l.val % 8)).addr w) s =
      .next (settle ((busErr { cid := cid.toNat } true (R.PWM_LnCFG (l.val / 8) (l.val % 8)).addr .deny s.begin).answerRefused
        Cause.deny.code)) := by
  obtain ⟨-, hrow, haddr⟩ := leg_rows l
  have hl := l.isLt
  have hr : (!legRight cid.toNat l s.begin) = true := by simpa using h
  refine write_denied ha hrow (by omega) fun row => ?_
  rw [specialWritePwm_any (by omega), pwmWrite_leg l.isLt (by decide) haddr, if_neg (by decide), if_pos hr]

theorem legCfg_special (h : legRight cid.toNat l s.begin = true) (row : RegRow) :
    specialWrite row cid.toNat (R.PWM_LnCFG (l.val / 8) (l.val % 8)).addr w 15 s.begin = some (legCfg l w s.begin) := by
  obtain ⟨-, -, haddr⟩ := leg_rows l
  have hl := l.isLt
  have hr : ¬ (!legRight cid.toNat l s.begin) = true := by simpa using h
  rw [specialWritePwm_any (by omega), pwmWrite_leg l.isLt (by decide) haddr, if_neg (by decide), if_neg hr, if_pos rfl]

end

/-! The operations on a leg (R310, R311, R318). -/

section
variable {l : Fin 16} {s : State}

theorem legGroup_armErr (n : Nat) (s : State) : legGroup l (s.set (F.PWM_LnSTAT_ARMERR (lb l) (li l)) n) = legGroup l s := by
  have hl := l.isLt
  have hodd : (s.set (F.PWM_LnSTAT_ARMERR (lb l) (li l)) n).bit (F.PWM_LEGGRP_ODD (l / 8)) (l % 8) =
      s.bit (F.PWM_LEGGRP_ODD (l / 8)) (l % 8) :=
    State.bit_congr (State.get_set_other _ (by
      simp only [F.PWM_LEGGRP_ODD, R.PWM_LEGGRP, F.PWM_LnSTAT_ARMERR, R.PWM_LnSTAT]
      omega) n) _
  unfold legGroup
  rw [hodd]

theorem legArm_ok (h : armError l s = 0) : legArm l s = missRelease (legGroup l s)
    (((s.set (F.PWM_LnSTAT_ARMERR (lb l) (li l)) (armError l s)).set (F.PWM_LnSTAT_STATE (lb l) (li l)) 1).set
      (F.PWM_LnSTAT_CAUSE (lb l) (li l)) 0) := by
  unfold legArm
  dsimp only
  rw [if_pos h, legGroup_armErr]

theorem legArm_refused (h : armError l s ≠ 0) : legArm l s = s.set (F.PWM_LnSTAT_ARMERR (lb l) (li l)) (armError l s) := if_neg h

/-- Is a fault input that is routed to the leg active (R318)? -/
def fltHolds (l : Nat) (s : State) : Bool :=
  (List.range 16).any fun i => s.bit (F.PWM_LnFMASK_MASK (lb l) (li l)) i && fltActive i s

theorem legClrflt_idle (h : legState l s ≠ 3) : legClrflt l s = s := if_pos h

theorem legClrflt_free (h : legState l s = 3) (hf : fltHolds l s = false) :
    legClrflt l s = s.set (F.PWM_LnSTAT_STATE (lb l) (li l)) 0 :=
  (if_neg (not_not.mpr h)).trans (if_neg (Bool.eq_false_iff.mp hf))

theorem legClrflt_held (h : legState l s = 3) (hf : fltHolds l s = true) :
    legClrflt l s = s.set (F.PWM_LnSTAT_ARMERR (lb l) (li l)) 4 := (if_neg (not_not.mpr h)).trans (if_pos hf)

theorem legCfg_off {w : Word} (h : legState l s = 0) : legCfg l w s =
    (.ok 0#64, (s.setWord (R.PWM_LnCFG (lb l) (li l)) (w &&& 0x77#32)).setWord (R.PWM_LnACC (lb l) (li l)) 0#32) :=
  if_neg (not_not.mpr h)

theorem legCfg_busy {w : Word} (h : legState l s ≠ 0) : legCfg l w s = (.refused .busy, s) := if_pos h

end

/-! An active fault input (R315, R316). -/

section
variable {l j k : Nat} {s t : State}

/-- What a fault input shows of a leg: its route, its state, cause and source, and its outputs. -/
def legView (j l : Nat) (s : State) : Bool × Nat × Nat × Nat × Leg :=
  (s.bit (F.PWM_LnFMASK_MASK (l / 8) (l % 8)) j, legState l s, s.get (F.PWM_LnSTAT_CAUSE (l / 8) (l % 8)),
    s.get (F.PWM_LnSTAT_SRC (l / 8) (l % 8)), s.leg l)

/-- A routed leg that is not in FAULT goes there, its outputs at high impedance (R315). -/
def legTripped (j : Nat) (v : Bool × Nat × Nat × Nat × Leg) : Bool × Nat × Nat × Nat × Leg :=
  if v.1 = true ∧ v.2.1 ≠ 3 then
    (v.1, 3, if j < 8 then 1 else 2, j, { v.2.2.2.2 with edges := [], hs := none, ls := none, hiZ := true })
  else v

theorem leg_legHiZ_same : (legHiZ l s).leg l = { s.leg l with edges := [], hs := none, ls := none, hiZ := true } :=
  vupd_get_same ..

theorem leg_legHiZ_other (h : legIx l ≠ legIx k) : (legHiZ k s).leg l = s.leg l := vupd_get_other _ h _

theorem leg_legLatch (c x : Nat) (s : State) (h : legState k s ≠ 3) : (legLatch k c x s).leg l = (legHiZ k s).leg l := by
  unfold legLatch State.leg
  rw [if_neg h, State.raise_pwm]
  rfl

theorem legLatch_of_fault {c x : Nat} (h : legState k s = 3) : legLatch k c x s = s := if_pos h

theorem legView_other (hk : k < 16) (hl : l < 16) (h : k ≠ l) (c x : Nat) (s : State) : legView j l (legLatch k c x s) = legView j l s := by
  by_cases h3 : legState k s = 3
  · rw [legLatch_of_fault h3]
  · have hix : legIx l ≠ legIx k := fun he => by
      have : l % 16 = k % 16 := congrArg Fin.val he
      omega
    have hget {f : Fld} (hr : NoRouter f) (hs : f.reg.addr ≠ (R.PWM_LnSTAT (k / 8) (k % 8)).addr)
        (ha : f.reg.addr ≠ (R.PWM_LnACC (k / 8) (k % 8)).addr) := get_legLatch hr hs ha c x s
    have hmask := hget (f := F.PWM_LnFMASK_MASK (l / 8) (l % 8))
      (by simp only [NoRouter, F.PWM_LnFMASK_MASK, R.PWM_LnFMASK]; omega)
      (by simp only [F.PWM_LnFMASK_MASK, R.PWM_LnFMASK, R.PWM_LnSTAT]; omega)
      (by simp only [F.PWM_LnFMASK_MASK, R.PWM_LnFMASK, R.PWM_LnACC]; omega)
    have hstat (lo wid : Nat) := hget (f := ⟨R.PWM_LnSTAT (l / 8) (l % 8), lo, wid⟩)
      (by simp only [NoRouter, R.PWM_LnSTAT]; omega)
      (by simp only [R.PWM_LnSTAT]; omega)
      (by simp only [R.PWM_LnSTAT, R.PWM_LnACC]; omega)
    have hleg : (legLatch k c x s).leg l = s.leg l := (leg_legLatch c x s h3).trans (leg_legHiZ_other hix)
    exact Prod.ext (State.bit_congr hmask j) (Prod.ext (hstat 0 3) (Prod.ext (hstat 4 4) (Prod.ext (hstat 8 4) hleg)))

/-- A leg's latch, on the leg itself. -/
theorem legView_same (hj : j < 16) (hb : s.bit (F.PWM_LnFMASK_MASK (l / 8) (l % 8)) j = true) :
    legView j l (legLatch l (if j < 8 then 1 else 2) j s) = legTripped j (legView j l s) := by
  by_cases h3 : legState l s = 3
  · rw [legLatch_of_fault h3]
    exact (if_neg fun h => h.2 h3).symm
  · have hmask : (legLatch l (if j < 8 then 1 else 2) j s).get (F.PWM_LnFMASK_MASK (l / 8) (l % 8)) = s.get (F.PWM_LnFMASK_MASK (l / 8) (l % 8)) :=
      get_legLatch (by simp only [NoRouter, F.PWM_LnFMASK_MASK, R.PWM_LnFMASK]; omega)
        (by simp only [F.PWM_LnFMASK_MASK, R.PWM_LnFMASK, R.PWM_LnSTAT]; omega)
        (by simp only [F.PWM_LnFMASK_MASK, R.PWM_LnFMASK, R.PWM_LnACC]; omega) _ _ s
    have hstat (lo wid : Nat) (t : State) (n : Nat) : (t.raise n).get ⟨R.PWM_LnSTAT (l / 8) (l % 8), lo, wid⟩ =
        t.get ⟨R.PWM_LnSTAT (l / 8) (l % 8), lo, wid⟩ := State.get_raise _ _ (by simp only [R.PWM_LnSTAT]; omega)
    have hcause : (legLatch l (if j < 8 then 1 else 2) j s).get (F.PWM_LnSTAT_CAUSE (l / 8) (l % 8)) = if j < 8 then 1 else 2 := by
      unfold legLatch
      rw [if_neg h3]
      refine (hstat 4 4 _ _).trans ((State.get_set_beside (f := F.PWM_LnSTAT_SRC (l / 8) (l % 8)) (g := F.PWM_LnSTAT_CAUSE (l / 8) (l % 8)) _
        rfl (show 8 + 4 ≤ 32 by decide) (.inl (show 4 + 4 ≤ 8 by decide)) _).trans
        ((State.get_set_same (f := F.PWM_LnSTAT_CAUSE (l / 8) (l % 8)) _ (show 4 + 4 ≤ 32 by decide) _).trans (Nat.mod_eq_of_lt ?_)))
      show (if j < 8 then 1 else 2) < 2 ^ 4
      split <;> decide
    have hsrc : (legLatch l (if j < 8 then 1 else 2) j s).get (F.PWM_LnSTAT_SRC (l / 8) (l % 8)) = j := by
      unfold legLatch
      rw [if_neg h3]
      exact (hstat 8 4 _ _).trans ((State.get_set_same (f := F.PWM_LnSTAT_SRC (l / 8) (l % 8)) _ (show 8 + 4 ≤ 32 by decide) _).trans
        (Nat.mod_eq_of_lt hj))
    have hleg : (legLatch l (if j < 8 then 1 else 2) j s).leg l = { s.leg l with edges := [], hs := none, ls := none, hiZ := true } :=
      (leg_legLatch _ _ s h3).trans leg_legHiZ_same
    refine Eq.trans ?_ (if_pos ⟨hb, h3⟩).symm
    exact Prod.ext (State.bit_congr hmask j) (Prod.ext (legState_legLatch_same ..) (Prod.ext hcause (Prod.ext hsrc hleg)))

/-- Every leg after a fault input (R315, R316): the routed ones have tripped. -/
theorem legView_faultInput (hj : j < 16) (hl : l < 16) (s : State) : legView j l (faultInput j s) = legTripped j (legView j l s) := by
  have hview := forEach_view (view := legView j l) (g := legTripped j)
    (f := fun k s => if s.bit (F.PWM_LnFMASK_MASK (k / 8) (k % 8)) j then legLatch k (if j < 8 then 1 else 2) j s else s) (i := l)
    (fun t => ?_) 16 (fun k hk hne t => ?_) s
  · exact hview.trans (if_pos hl)
  · by_cases hb : t.bit (F.PWM_LnFMASK_MASK (l / 8) (l % 8)) j = true
    · rw [if_pos hb]
      exact legView_same hj hb
    · rw [if_neg hb]
      exact (if_neg fun h => hb h.1).symm
  · split
    · exact legView_other hk hl hne ..
    · rfl

theorem legLatch_rest (c x : Nat) (s : State) : (legLatch k c x s).mem = s.mem ∧ (legLatch k c x s).pwm.grp = s.pwm.grp ∧
    (legLatch k c x s).yar = s.yar := by
  unfold legLatch
  split
  · exact ⟨rfl, rfl, rfl⟩
  · rw [State.raise_mem, State.raise_pwm, State.raise_yar]
    exact ⟨rfl, rfl, rfl⟩

/-- A fault input touches no memory, no group and no processor. -/
theorem faultInput_rest (s : State) : (faultInput j s).mem = s.mem ∧ (faultInput j s).pwm.grp = s.pwm.grp ∧ (faultInput j s).yar = s.yar := by
  have hstep (k : Nat) (t : State) (c x : Nat) :
      ((legLatch k c x t).mem, (legLatch k c x t).pwm.grp, (legLatch k c x t).yar) = (t.mem, t.pwm.grp, t.yar) := by
    obtain ⟨hmem, hgrp, hyar⟩ := legLatch_rest (k := k) c x t
    rw [hmem, hgrp, hyar]
  have hstep' (k : Nat) (t : State) : (fun u : State => (u.mem, u.pwm.grp, u.yar))
      (if t.bit (F.PWM_LnFMASK_MASK (k / 8) (k % 8)) j then legLatch k (if j < 8 then 1 else 2) j t else t) = (t.mem, t.pwm.grp, t.yar) := by
    split
    · exact hstep ..
    · rfl
  have hview := forEach_view (view := fun t : State => (t.mem, t.pwm.grp, t.yar)) (g := id) (i := 16) (hstep' 16) 16
    (fun k _ _ => hstep' k) s
  rw [if_neg (lt_irrefl _)] at hview
  exact ⟨congrArg Prod.fst hview, congrArg (·.2.1) hview, congrArg (·.2.2) hview⟩

end

/-! The pin of a fault input (R315). -/

section
variable {j : Fin 8} {s : State}

/-- Does the pad carry the fault input? -/
def fltLive (j : Fin 8) (s : State) : Bool := s.get (F.PIN_CFG_FUNC (80 + j.val)) == 1 && !s.on (F.PIN_CFG_TRANS (80 + j.val))

theorem fltLive_iff : fltLive j s = true ↔ s.get (F.PIN_CFG_FUNC (80 + j.val)) = 1 ∧ s.on (F.PIN_CFG_TRANS (80 + j.val)) = false := by
  simp [fltLive]

theorem fltPulse_level : fltPulse j none s =
    if fltLive j s then faultInput j { s with pwm := { s.pwm with flt := vupd s.pwm.flt j fun _ => s.bit F.PWM_FLTPOL_POL j.val } }
    else { s with pwm := { s.pwm with flt := vupd s.pwm.flt j fun _ => s.bit F.PWM_FLTPOL_POL j.val } } := rfl

theorem fltPulse_idle {n : Nat} (h : fltLive j s = false ∨ n < 3) : fltPulse j (some n) s = s :=
  if_pos (h.imp_left fun h => by simp only [fltLive] at h; simp [h])

theorem fltPulse_pulse {n : Nat} (h : fltLive j s = true) (hn : 3 ≤ n) : fltPulse j (some n) s =
    if 10 ≤ n then faultInput j s else if s.draw.1 % 2 = 1 then faultInput j s.draw.2 else s.draw.2 := by
  refine if_neg ?_
  rw [not_or]
  exact ⟨by simp only [fltLive] at h; simp [h], by omega⟩

end

/-- Settles O35: a COMMIT's loop over its legs, the operations of a leg's registers by their first failing check, and a fault input's loop
over the legs, each read at one leg. -/
theorem legCommandsAndFaults : Obligations.LegCommandsAndFaults := by
  unfold Obligations.LegCommandsAndFaults
  refine ⟨⟨fun cid g v s ha => ?_, fun cid g s => ?_, fun cid l s ha => ?_, fun g s h => ?_, fun cid l v s ha => ?_⟩,
    fun j s => ?_, fun j s => rfl, fun j l s => ?_⟩
  · obtain ⟨hrow, haddr⟩ := gcommit_row g
    have hg := g.isLt
    exact write_takes (d := 0#64) ha hrow (by omega) fun row => (specialWritePwm_any (by omega)).trans (pwmWrite_commit haddr)
  · intro t
    have hkept := commitBy_kept (cid := cid) (g := g) (s := s)
    have hleg (l : Fin 16) : t.leg l = (committed cid g s).leg l := congrArg (fun p : Pwm => p.leg.get (legIx l)) hkept.pwm
    have hgrp (h : Fin 4) : t.grp h = (committed cid g s).grp h := congrArg (fun p : Pwm => p.grp.get (grpIx h)) hkept.pwm
    exact ⟨fun l => (hleg l).trans (leg_committed l), (hgrp g).trans ((grp_committed g).trans (if_pos rfl)),
      fun h hne => (hgrp h).trans ((grp_committed h).trans (if_neg hne)), commitBy_sched, hkept.mem.trans rest_committed.1,
      hkept.yar.trans rest_committed.2⟩
  · intro err active held off denied
    have harm : exec (.arm cid l) s = if legRight cid.toNat l s.begin then .next (settle (legArm l s.begin)) else denied :=
      write_legCtl ha legCtl_arm
    have hdis : exec (.disarm cid l) s =
        if legRight cid.toNat l s.begin || isOne cid.toNat then .next (settle (legDisarm l s.begin)) else denied :=
      write_legCtl ha legCtl_disarm
    have hclr : exec (.clrflt cid l) s = if legRight cid.toNat l s.begin then .next (settle (legClrflt l s.begin)) else denied :=
      write_legCtl ha legCtl_clrflt
    have hright (hr : legRight cid.toNat l s = true ∨ cid.toNat = 1) :
        (legRight cid.toNat l s.begin || isOne cid.toNat) = true := by
      have hr' : legRight cid.toNat l s.begin = true ∨ cid.toNat = 1 := hr
      simpa [isOne] using hr'
    have hends {u v : State} (h : u = v) : (.next (settle u) : Result) = .next (settle v) := congrArg (fun u => Host.Outcome.next (settle u)) h
    refine ⟨fun hr => ⟨fun h0 => ?_, fun h0 => ?_, fun h3 => ?_, fun h3 hf => ?_, fun h3 hf => ?_⟩, fun hr => ⟨fun hh => ?_, fun hh => ?_⟩,
      fun hr => ⟨harm.trans (if_neg (Bool.eq_false_iff.mp hr)), hclr.trans (if_neg (Bool.eq_false_iff.mp hr)), fun h1 => ?_⟩⟩
    · exact (harm.trans (if_pos hr)).trans (hends (legArm_ok (s := s.begin) h0))
    · exact (harm.trans (if_pos hr)).trans (hends (legArm_refused (s := s.begin) h0))
    · exact (hclr.trans (if_pos hr)).trans (hends (legClrflt_idle (s := s.begin) h3))
    · exact (hclr.trans (if_pos hr)).trans (hends (legClrflt_free (s := s.begin) h3 hf))
    · exact (hclr.trans (if_pos hr)).trans (hends (legClrflt_held (s := s.begin) h3 hf))
    · exact (hdis.trans (if_pos (hright hr))).trans (hends (if_pos hh))
    · exact (hdis.trans (if_pos (hright hr))).trans (hends (if_neg hh))
    · have hr' : legRight cid.toNat l s.begin = false := hr
      exact hdis.trans (if_neg (by simp [hr', isOne, h1]))
  · exact if_neg (by simp [h])
  · intro refused
    obtain ⟨-, hrow, haddr⟩ := leg_rows l
    have hl := l.isLt
    refine ⟨fun hr h0 => ?_, fun hr h0 => ?_, fun hr => write_legCfg_denied ha hr⟩
    · exact write_takes (d := 0#64) ha hrow (by omega) fun row => (legCfg_special hr row).trans (congrArg some (legCfg_off h0))
    · exact write_denied ha hrow (by omega) fun row => (legCfg_special hr row).trans (congrArg some (legCfg_busy h0))
  · intro live low
    have hlive : fltLive j s.begin = true ↔ live := fltLive_iff (s := s.begin)
    refine ⟨fun h => ?_, fun h => ?_, fun h ns hns => ?_, fun h ns h3 h10 => ?_, fun ns hns => ?_, fun h ns => ?_⟩
    · exact congrArg Host.Outcome.next ((fltPulse_level (s := s.begin)).trans (if_pos (hlive.mpr h)))
    · exact congrArg Host.Outcome.next ((fltPulse_level (s := s.begin)).trans (if_neg fun hl => h (hlive.mp hl)))
    · exact congrArg Host.Outcome.next ((fltPulse_pulse (s := s.begin) (hlive.mpr h) (by omega)).trans (if_pos hns))
    · exact congrArg Host.Outcome.next ((fltPulse_pulse (s := s.begin) (hlive.mpr h) h3).trans (if_neg (by omega)))
    · exact congrArg Host.Outcome.next (fltPulse_idle (s := s.begin) (.inr hns))
    · exact congrArg Host.Outcome.next (fltPulse_idle (s := s.begin) (.inl (Bool.eq_false_iff.mpr fun hl => h (hlive.mp hl))))
  · intro t routed
    have hview := legView_faultInput j.isLt l.isLt s
    refine ⟨fun h => ?_, fun h => ?_, faultInput_rest s⟩
    · have htrip := hview.trans (if_pos h)
      have hleg := congrArg (·.2.2.2.2) htrip
      exact ⟨congrArg (·.2.1) htrip, congrArg (·.2.2.1) htrip, congrArg (·.2.2.2.1) htrip, congrArg Leg.hiZ hleg, congrArg Leg.edges hleg⟩
    · have hkept := hview.trans (if_neg h)
      exact ⟨congrArg (·.2.2.2.2) hkept, congrArg (·.2.1) hkept⟩

end Sys2Proof.Machine
end

section
/-!
PROOFS. The registers of a unit's address and routes (R383, R390) through the steps of a unit's loss: semaphores, requests and buffers
of other units touch none of them.
-/
namespace Sys2Proof.Machine

/-- The registers of the address, the token, the ports' status, UPMAP, LIVE and the versions. -/
abbrev IdReg (a : Nat) : Prop := 0x5000D008 ≤ a ∧ a < 0x5000D014 ∨ a = 0x5000D030 ∨ 0x5000D050 ≤ a ∧ a < 0x5000D060 ∨ a = 0x5000D070

/-- `t` shows what `s` shows in the registers of the address, the ports and the routes. -/
structure IdKept (s t : State) : Prop where
  word : ∀ r : Reg, IdReg r.addr → t.word r = s.word r

namespace IdKept

variable {s t : State}

theorem refl (s : State) : IdKept s s := ⟨fun _ _ => rfl⟩
theorem trans {u : State} (h : IdKept s t) (k : IdKept t u) : IdKept s u := ⟨fun r hr => (k.word r hr).trans (h.word r hr)⟩
theorem get (h : IdKept s t) {f : Fld} (hf : IdReg f.reg.addr) : t.get f = s.get f := by rw [State.get, State.get, h.word f.reg hf]
theorem on (h : IdKept s t) {f : Fld} (hf : IdReg f.reg.addr) : t.on f = s.on f := State.on_congr (h.get hf)

theorem ite {u : State} {c : Prop} [Decidable c] (ht : IdKept s t) (hu : IdKept s u) : IdKept s (if c then t else u) := by
  split
  · exact ht
  · exact hu

theorem foldl {β : Type} {f : State → β → State} (hf : ∀ u b, IdKept s u → IdKept s (f u b)) :
    ∀ (l : List β) {t : State}, IdKept s t → IdKept s (l.foldl f t)
  | [], _, h => h
  | b :: l, _, h => foldl hf l (hf _ b h)

theorem forEach {n : Nat} {f : Nat → State → State} (hf : ∀ i u, IdKept s u → IdKept s (f i u)) (h : IdKept s t) :
    IdKept s (Machine.forEach n f t) := foldl (fun u i => hf i u) _ h

theorem fault (h : FaultFrame s t) : IdKept s t := ⟨fun r hr => h.word r (by
  simp only [IdReg, FaultReg, List.mem_cons, List.not_mem_nil, or_false, R.LCS_FACT, R.LCS_FSTICKY, R.LCS_FSTAT, R.MEM_INJCTL] at hr ⊢
  omega)⟩

section
variable (h : IdKept s t)
include h

theorem setWord {q : Reg} (hq : ¬ IdReg q.addr) (w : Word) : IdKept s (t.setWord q w) :=
  ⟨fun r hr => (State.word_setWord_other t w fun he => hq (he ▸ hr)).trans (h.word r hr)⟩
theorem set {f : Fld} (hf : ¬ IdReg f.reg.addr) (v : Nat) : IdKept s (t.set f v) := setWord h hf _
theorem setBit {f : Fld} (hf : ¬ IdReg f.reg.addr) (i : Nat) (b : Bool) : IdKept s (t.setBit f i b) := set h hf _
theorem count {f : Fld} (hf : ¬ IdReg f.reg.addr) (n : Nat) : IdKept s (t.count f n) := set h hf _

theorem raise (n : Nat) : IdKept s (t.raise n) :=
  h.trans ⟨fun r hr => (routerOnly_raise t n).word r (by simp only [IdReg] at hr; omega)⟩

/-! The parts that hold no register. -/

theorem setShare (x : Share) : IdKept s { t with share := x } := ⟨h.word⟩
theorem setChn (x : Chain) : IdKept s { t with chn := x } := ⟨h.word⟩
theorem setMem (x : Memory) : IdKept s { t with mem := x } := ⟨h.word⟩
theorem setMemCtl (x : MemCtl) : IdKept s { t with memCtl := x } := ⟨h.word⟩
theorem setPort (p : Fin 2) (x : Port) : IdKept s (t.setPort p x) := ⟨h.word⟩
theorem setSem (k : Nat) (x : Sem) : IdKept s (t.setSem k x) := ⟨h.word⟩
theorem setBuf (i : Nat) (b : Buf) : IdKept s (t.setBuf i b) := ⟨h.word⟩

/-! The chain's sends and events. -/

theorem chainSendOn (p : Fin 2) (f : Frame) : IdKept s (chainSendOn p f t) := ite h (ite (setPort h _ _) h)

theorem hostPut (f : Frame) : IdKept s (hostPut f t) := by
  unfold Machine.hostPut
  exact ite (set (setChn h _) (by decide) _) h

theorem chainSend (f : Frame) : IdKept s (chainSend f t) := by
  unfold Machine.chainSend
  exact ite (chainSendOn (ite h (chainSendOn h _ _)) _ _) (ite (ite (hostPut h _) h) (ite (chainSendOn h _ _) h))

theorem chnEvent (b : Nat) : IdKept s (chnEvent b t) := by
  have hev : IdKept s (t.setBit F.CHN_EVT b true) := setBit h (by decide) _ _
  exact ite (raise hev _) hev

theorem xEvent (b : Nat) : IdKept s (xEvent b t) := by
  have hev : IdKept s (t.setBit F.CHN_XEVT b true) := setBit h (by decide) _ _
  exact ite (raise hev _) hev

theorem busErr (who : Who) (write : Bool) (a : Nat) (c : Cause) : IdKept s (busErr who write a c t) := h.trans ⟨fun r hr => by
  simp only [IdReg] at hr
  exact word_of_get (get_busErr who write a c t (by dsimp only; omega) (by dsimp only; omega))⟩

/-! Semaphores (R261 to R268). -/

theorem semLog (k cid unit cause : Nat) : IdKept s (semLog k cid unit cause t) := by
  have hnext : t.get F.SEM_ERRHEAD_NEXT < 2 ^ F.SEM_ERRHEAD_NEXT.wid := t.get_lt _
  have hlog : ¬ IdReg (R.SEM_ERRLOG (t.get F.SEM_ERRHEAD_NEXT)).addr := by
    simp only [F.SEM_ERRHEAD_NEXT, R.SEM_ERRLOG, IdReg] at hnext ⊢
    omega
  unfold Machine.semLog
  exact raise (set (setWord h hlog _) (by decide) _) _

theorem grantEntry (k cid unit res : Nat) : IdKept s (grantEntry k cid unit res t) := by
  unfold Machine.grantEntry
  exact ite (semLog h _ _ _ _) (raise (setShare h _) _)

theorem setPipend (c : Nat) : IdKept s (setPipend c t) := by
  have hf : ¬ IdReg (if c < 32 then F.SEM_PIPENDLO_PEND else F.SEM_PIPENDHI_PEND).reg.addr := by split <;> decide
  exact ite h (raise (setBit h hf _ _) _)

theorem sendPinote (unit kind k cid pri nhop : Nat) : IdKept s (sendPinote unit kind k cid pri nhop t) := chainSend h _

theorem sendSemEvent (dst k cid res : Nat) : IdKept s (sendSemEvent dst k cid res t) := by
  unfold Machine.sendSemEvent
  exact chainSend (setChn h _) _

theorem hopAsked (c nhop : Nat) : IdKept s (match semWaited ⟨c, 0, 0⟩ t with
    | some k => { t with share := { t.share with hops := t.share.hops ++ [(k, nhop)] } }
    | none => t) := by
  split
  · exact setShare h _
  · exact h

theorem priorityTold (nhop c : Nat) : IdKept s (match remoteWait c t with
    | some (u, k) => Machine.sendPinote u 1 (k - 96) c (epri c t) nhop t
    | none => t) := by
  split
  · exact sendPinote h _ _ _ _ _ _
  · exact h

theorem refreshEpri (nhop c : Nat) : IdKept s (refreshEpri nhop c t) := by
  unfold Machine.refreshEpri
  refine ite (setShare h _) ?_
  have hhop := hopAsked (setPipend (setShare h { t.share with inh := smapSet c (inherited c t) 0 t.share.inh }) c) c nhop
  exact priorityTold hhop nhop c

theorem semHop (nhop k : Nat) : IdKept s (semHop nhop k t) := by
  unfold Machine.semHop
  exact foldl (fun u _ hu => ite (refreshEpri hu _ _) (ite hu (sendPinote (setSem hu _ _) _ _ _ _ _ _))) _ h

end

theorem drainHops : ∀ (n : Nat) {t : State}, IdKept s t → IdKept s (drainHops n t)
  | 0, _, h => h
  | n + 1, t, h => by
    unfold Machine.drainHops
    split
    · exact h
    · exact drainHops n (semHop (setShare h _) _ _)

section
variable (h : IdKept s t)
include h

theorem hopsAll : IdKept s (hopsAll t) := drainHops _ h

theorem semPassed (k : Nat) (l : List Party) : IdKept s (match firstWaiter t l with
    | none => t
    | some w =>
      let y := t.sem k
      let s := semHold k w (t.setSem k { y with waiters := y.waiters.filter (fun v => !sameParty w v) })
      if w.unit = 0 then Machine.grantEntry k w.cid 0 1 s else Machine.sendSemEvent w.unit k w.cid 1 s) := by
  split
  · exact h
  · exact ite (grantEntry (setSem (setSem h _ _) _ _) _ _ _ _) (sendSemEvent (setSem (setSem h _ _) _ _) _ _ _ _)

theorem semRelease (k : Nat) (p : Party) : IdKept s (semRelease k p t) := by
  unfold Machine.semRelease
  have hpass := semPassed (setSem h k { t.sem k with holders := (t.sem k).holders.filter (fun h => !sameParty p h) }) k (t.sem k).waiters
  exact semHop (ite (refreshEpri hpass _ _) (ite hpass (sendPinote (setSem hpass _ _) _ _ _ _ _ _))) _ _

theorem reclaimLog (o : Bool) (k : Nat) (p : Party) : IdKept s (reclaimLog o k p t) := ite (semLog h _ _ _ _) h

theorem semReclaimParty (o : Bool) (p : Party) : IdKept s (semReclaimParty o p t) := by
  unfold Machine.semReclaimParty
  refine foldl (fun u k hu => hopsAll (reclaimLog (semRelease hu _ _) _ _ _)) _ ?_
  split
  · exact hopsAll (reclaimLog (semHop (ite (grantEntry (setSem h _ _) _ _ _ _) (sendSemEvent (setSem h _ _) _ _ _ _)) _ _) _ _ _)
  · exact h

theorem remoteResult (unit k cid res : Nat) : IdKept s (remoteResult unit k cid res t) :=
  grantEntry (show IdKept s (remoteNote unit k cid res t) from setShare h _) _ _ _ _

theorem semUnitGone (unit : Nat) : IdKept s (semUnitGone unit t) := by
  unfold Machine.semUnitGone
  refine hopsAll (foldl (fun u c hu => refreshEpri hu _ _) _ (setShare (setShare ?_ _) _))
  exact foldl (fun u e hu => semLog (remoteResult hu _ _ _ _) _ _ _ _) _ (foldl (fun u p hu => semReclaimParty hu _ _) _ (hopsAll h))

/-! One word of RAM, and a buffer of the pool (R231 to R241, R279). -/

theorem noteCorrected (who : Who) (a p : Nat) : IdKept s (noteCorrected who a p t) := by
  unfold Machine.noteCorrected
  exact raise (set (set (setWord (count h (by decide) _) (by decide) _) (by decide) _) (by decide) _) _

theorem noteUncorrectable (who : Who) (a kind : Nat) : IdKept s (noteUncorrectable who a kind t) := by
  have hnext : t.get F.MEM_UEHEAD_NEXT < 2 ^ F.MEM_UEHEAD_NEXT.wid := t.get_lt _
  have haddr : ¬ IdReg (R.MEM_UEADDR (t.get F.MEM_UEHEAD_NEXT)).addr := by
    simp only [F.MEM_UEHEAD_NEXT, R.MEM_UEADDR, IdReg] at hnext ⊢
    omega
  have hinfo : ¬ IdReg (R.MEM_UEINFO (t.get F.MEM_UEHEAD_NEXT)).addr := by
    simp only [F.MEM_UEHEAD_NEXT, R.MEM_UEINFO, IdReg] at hnext ⊢
    omega
  unfold Machine.noteUncorrectable
  refine trans ?_ (fault (.faultPulse _ _))
  exact raise (set (set (set (set (set (setWord (count h (by decide) _) haddr _) hinfo _) hinfo _) hinfo _) hinfo _) (by decide) _) _

theorem bankServed (a cid : Nat) : IdKept s (bankServed a cid t) := by
  unfold Machine.bankServed
  split
  · exact h
  · split
    · exact h
    · exact setMemCtl h _

theorem bankReach {b : Nat} (hb : b < 0x44) (n : Nat) : IdKept s (bankReach b n t) := by
  have hpwr : ¬ IdReg (R.MEM_PWR b).addr := by
    simp only [R.MEM_PWR, IdReg]
    omega
  unfold Machine.bankReach
  extract_lets wasOff mc s1 s2 s3
  have h1 : IdKept s s1 := setMemCtl h _
  have h2 : IdKept s s2 := ite (setMem h1 _) h1
  have h3 : IdKept s s3 := set (f := F.MEM_PWR_CHANGING b) (set (f := F.MEM_PWR_STATE b) h2 hpwr _) hpwr _
  exact ite (raise h3 _) h3

theorem bankWake {b : Nat} (hb : b < 0x44) : IdKept s (bankWake b t).2 := by
  unfold Machine.bankWake
  split
  · exact bankReach h hb 0
  · split
    · exact bankReach h hb 0
    · exact raise h _
  · exact raise h _
  · split
    · exact h
    · split
      · exact bankReach h hb 0
      · exact raise h _
    · exact raise h _

end

/-- A word of a pool buffer, read at its address. -/
theorem bufWord_at (who : Who) {a i j : Nat} (ha : a = 0x43000000 + 64 * i + 4 * j) (s : State) : Machine.bufWord who i j s =
    match Machine.ramReadSmall who 0 a 4 s with
    | (.ok d, s) => (d.toNat, s)
    | (.refused c, s) => (0, Machine.busErr who false a c s) := by
  subst ha
  rfl

section
variable (h : IdKept s t)
include h

theorem bankReady (a : Nat) : IdKept s (bankReady a t).2 := by
  unfold Machine.bankReady
  split
  · exact h
  · next b hb =>
    split
    · exact h
    · exact bankWake h (bankOf_lt _ hb)

theorem ramReadWord (who : Who) (kind a : Nat) : IdKept s (ramReadWord who kind a t).2 := by
  unfold Machine.ramReadWord
  dsimp only
  split
  · exact bankServed h _ _
  · exact noteCorrected (setMem (bankServed h _ _) _) _ _ _
  · exact noteUncorrectable (bankServed h _ _) _ _ _

theorem ramReadSmall (who : Who) (kind a size : Nat) : IdKept s (ramReadSmall who kind a size t).2 := by
  have hready := bankReady h a
  unfold Machine.ramReadSmall
  generalize Machine.bankReady a t = r at hready
  obtain ⟨_ | _, u⟩ := r
  · exact hready
  · have hread := ramReadWord hready who kind (wordAddr a)
    dsimp only at hread ⊢
    generalize Machine.ramReadWord who kind (wordAddr a) u = q at hread
    obtain ⟨_ | w, v⟩ := q <;> exact hread

theorem bufWord (who : Who) (i j : Nat) : IdKept s (bufWord who i j t).2 := by
  obtain ⟨a, ha⟩ : ∃ a, a = 0x43000000 + 64 * i + 4 * j := ⟨_, rfl⟩
  have hread := ramReadSmall h who 0 a 4
  rw [bufWord_at who ha]
  generalize Machine.ramReadSmall who 0 a 4 t = r at hread
  obtain ⟨d | c, v⟩ := r
  · exact hread
  · exact busErr (show IdKept s v from hread) who false a c

theorem bufGet (who : Who) (i : Nat) : IdKept s (bufGet who i t).2 := by
  have hall : ∀ (l : List Nat) (p : List Byte × State), IdKept s p.2 →
      IdKept s (l.foldl (fun p j => let r := Machine.bufWord who i j p.2; (p.1 ++ leBytes 4 r.1, r.2)) p).2 := by
    intro l
    induction l with
    | nil => exact fun _ hp => hp
    | cons j l ih => exact fun p hp => ih _ (bufWord hp who i j)
  exact hall _ ([], t) h

theorem sendData (f : Frame) (cid i : Nat) (last : Bool) : IdKept s (sendData f cid i last t) := by
  unfold Machine.sendData
  exact chainSend (bufGet h _ _) _

theorem sendReq (r : Req) (flag : Bool) : IdKept s (sendReq r flag t) := by
  unfold Machine.sendReq
  refine ite ?_ (chainSend h _)
  split
  · exact foldl (fun u b hu => sendData hu _ _ _ _) _ (chainSend h _)
  · exact chainSend h _

/-! The pool and the requests (R279, R410 to R412). -/

theorem poolLevels (n : Nat) : IdKept s (poolLevels n t) := by
  have hlow : IdKept s (if t.get F.POOL_LOWMARK_MARK ≤ n ∧ freeCount t < t.get F.POOL_LOWMARK_MARK then t.raise 0x35 else t) :=
    ite (raise h _) h
  exact ite (raise hlow _) hlow

theorem poolReserve (cid : Nat) : IdKept s (poolReserve cid t).2 := by
  unfold Machine.poolReserve
  split
  · exact h
  · split
    · exact h
    · exact poolLevels (setBuf h _ _) _

theorem poolRelease (i : Nat) : IdKept s (poolRelease i t) := ite (setBuf h _ _) h

theorem moveAll (f : Buf → Buf) (l : List Nat) : IdKept s (moveAll f l t) := foldl (fun _ _ hu => setBuf hu _ _) _ h

theorem startReq (q : Plan) : IdKept s (startReq q t) := by
  have hres := poolReserve h q.cid
  unfold Machine.startReq
  split
  · next i b u hu =>
    rw [hu] at hres
    exact sendReq (set (setChn hres _) (by decide) _) _ _
  · exact setChn h _

theorem msgResult (handle code cid : Nat) : IdKept s (msgResult handle code cid t) := xEvent (ite (setChn h _) h) _

theorem msgEnd (m : MsgOut) (code : Nat) : IdKept s (msgEnd m code t) := by
  unfold Machine.msgEnd
  exact msgResult (ite (moveAll (setChn h _) _ _) (moveAll (setChn h _) _ _)) _ _ _

theorem txErr (off dst cid code kind : Nat) : IdKept s (txErr off dst cid code kind t) := by
  have hnext : t.get F.CHN_TXERRHEAD_NEXT < 2 ^ F.CHN_TXERRHEAD_NEXT.wid := t.get_lt _
  have ha : ¬ IdReg (R.CHN_TXERRA (t.get F.CHN_TXERRHEAD_NEXT)).addr := by
    simp only [F.CHN_TXERRHEAD_NEXT, R.CHN_TXERRA, IdReg] at hnext ⊢
    omega
  have hb : ¬ IdReg (R.CHN_TXERRB (t.get F.CHN_TXERRHEAD_NEXT)).addr := by
    simp only [F.CHN_TXERRHEAD_NEXT, R.CHN_TXERRB, IdReg] at hnext ⊢
    omega
  unfold Machine.txErr
  exact xEvent (set (setWord (set (set h ha _) ha _) hb _) (by decide) _) _

theorem endReq (i : Nat) (res : Except Nat DWord) : IdKept s (endReq i res t) := by
  unfold Machine.endReq
  split
  · exact h
  · next r _ =>
    dsimp only
    have hfree (x : Chain) (n : Nat) : IdKept s (Machine.poolRelease r.buf (State.set { t with chn := x } F.CHN_TXSTAT_OUTST n)) :=
      poolRelease (set (setChn h x) (by decide) n) _
    have hnext {u : State} (hu : IdKept s u) : IdKept s (match u.chn.waitQ with
        | [] => u
        | q :: qs => Machine.startReq q { u with chn := { u.chn with waitQ := qs } }) := by
      split
      · exact hu
      · exact startReq (setChn hu _) _
    refine hnext (ite ?_ ?_)
    · split
      · exact msgEnd (hfree _ _) _ _
      · exact hfree _ _
    · split
      · exact setChn (hfree _ _) _
      · exact setChn (busErr (txErr (hfree _ _) _ _ _ _ _) _ _ _ _) _

theorem endRequestsTo (n : Nat) : IdKept s (endRequestsTo n t) := by
  unfold Machine.endRequestsTo
  refine setChn (forEach (fun i u hu => ?_) h) _
  split
  · exact ite (endReq hu _ _) hu
  · exact hu

/-! A unit's loss, and REACH (R399). -/

theorem setMap64 {lo hi : Reg} (hlo : ¬ IdReg lo.addr) (hhi : ¬ IdReg hi.addr) (m : Nat) : IdKept s (t.setMap64 lo hi m) :=
  setWord (setWord h hlo _) hhi _

theorem declareLost (a : Nat) : IdKept s (declareLost a t) := by
  unfold Machine.declareLost
  exact endRequestsTo (semUnitGone (chnEvent (setChn (setMap64 h (by decide) (by decide) _) _) _) _) _

theorem reachUpdate : IdKept s (reachUpdate t) := by
  unfold Machine.reachUpdate
  refine forEach (fun i u hu => ?_) (setMap64 h (by decide) (by decide) _)
  exact ite (ite (chnEvent (setChn hu _) _) hu) (ite (ite (declareLost (setChn hu _) _) (setChn hu _)) hu)

end

end IdKept

end Sys2Proof.Machine
end

section
/-!
PROOFS. Enumeration: HELLO, ASSIGN, ENUMRPT, ROUTE, LINKRPT and ORPHAN, and the loss of a unit (R390 to R399).
-/
namespace Sys2Proof.Machine

/-! The maps of addresses (R383). -/

theorem map64_setMap64 {lo hi : Reg} (h : lo.addr ≠ hi.addr) {m : Nat} (hm : m < 2 ^ 64) (s : State) :
    (s.setMap64 lo hi m).map64 lo hi = m := by
  unfold State.map64 State.setMap64
  rw [State.word_setWord_same, State.word_setWord_other _ _ h, State.word_setWord_same, BitVec.toNat_ofNat, BitVec.toNat_ofNat]
  omega

theorem mapOf_lt (a b : Nat) : mapOf a b < 2 ^ 64 := by
  have h : ∀ n, (List.range n).foldl (fun m i => if a ≤ i + 1 ∧ i + 1 ≤ b then m + 2 ^ i else m) 0 < 2 ^ n := by
    intro n
    induction n with
    | zero => exact Nat.one_pos
    | succ n ih =>
      rw [List.range_succ, List.foldl_append, List.foldl_cons, List.foldl_nil, pow_succ]
      split <;> omega
  exact h 64

theorem upmap_setUpmap {m : Nat} (h : m < 2 ^ 64) (s : State) : upmap (setUpmap m s) = m := map64_setMap64 (by decide) h s

theorem map64_congr {s t : State} {lo hi : Reg} (h : t.word lo = s.word lo) (k : t.word hi = s.word hi) : t.map64 lo hi = s.map64 lo hi := by
  rw [State.map64, State.map64, h, k]

theorem liveMap_setLive {m : Nat} (h : m < 2 ^ 64) (s : State) : liveMap (setLive m s) = m := by
  have hkept : IdKept (s.setMap64 R.CHN_LIVELO R.CHN_LIVEHI m) (setLive m s) := .reachUpdate (.refl _)
  exact (map64_congr (hkept.word R.CHN_LIVELO (by decide)) (hkept.word R.CHN_LIVEHI (by decide))).trans
    (map64_setMap64 (by decide) h s)

/-! HELLO (R391, R392). -/

section
variable {p : Fin 2} {f : Frame} {u : State}

/-- What HELLO shows of the neighbour at a port (R391). -/
def helloNoted (p : Fin 2) (f : Frame) (u : State) : State :=
  (((u.set (F.CHN_pSTAT_NADDR p) (f.at_ 0 1)).setB (F.CHN_pSTAT_NVALID p) (natBit (f.at_ 1 1) 0)).setB (F.CHN_pSTAT_NHEAD p)
    (natBit (f.at_ 1 1) 1)).set (F.CHN_pSTAT_NVER p) (f.at_ 2 1)

theorem get_helloNoted {lo wid : Nat} (h : lo + wid ≤ 8) : (helloNoted p f u).get ⟨R.CHN_pSTAT p, lo, wid⟩ = u.get ⟨R.CHN_pSTAT p, lo, wid⟩ := by
  have hbeside {lo' wid' : Nat} (h32 : lo' + wid' ≤ 32) (hd : lo + wid ≤ lo') (n : Nat) (s : State) :
      (s.set ⟨R.CHN_pSTAT p, lo', wid'⟩ n).get ⟨R.CHN_pSTAT p, lo, wid⟩ = s.get ⟨R.CHN_pSTAT p, lo, wid⟩ :=
    s.get_set_apart (f := ⟨R.CHN_pSTAT p, lo', wid'⟩) (g := ⟨R.CHN_pSTAT p, lo, wid⟩) (.inr ⟨rfl, h32, .inl hd⟩) n
  exact (hbeside (show 24 + 8 ≤ 32 by decide) (by omega) _ _).trans ((hbeside (show 16 + 1 ≤ 32 by decide) (by omega) _ _).trans
    ((hbeside (show 15 + 1 ≤ 32 by decide) (by omega) _ _).trans (hbeside (show 8 + 7 ≤ 32 by decide) (by omega) _ _)))

theorem linkUp_helloNoted : linkUp p (helloNoted p f u) = linkUp p u := State.on_congr (get_helloNoted (show 1 + 1 ≤ 8 by decide))

theorem lock_helloNoted : (helloNoted p f u).on (F.CHN_pSTAT_LOCK p) = u.on (F.CHN_pSTAT_LOCK p) :=
  State.on_congr (get_helloNoted (show 0 + 1 ≤ 8 by decide))

/-- The link after HELLO: it goes down where the neighbour lost its address, and comes up on a locked port (R378, R391). -/
def helloLinked (p : Fin 2) (f : Frame) (u : State) : State :=
  if linkUp p u then
    (if u.on (F.CHN_pSTAT_NVALID p) && !natBit (f.at_ 1 1) 0 then linkDown p false (helloNoted p f u) else helloNoted p f u)
  else if u.on (F.CHN_pSTAT_LOCK p) then linkComesUp p (helloNoted p f u) else helloNoted p f u

/-- Is the neighbour below to be given its address (R392, R394)? -/
def helloAssigns (p : Fin 2) (f : Frame) (u : State) : Prop :=
  p = 1 ∧ linkUp 1 (helloLinked p f u) = true ∧ ownAddr (helloLinked p f u) ≠ 0 ∧
    ¬ (linkUp p u = false ∧ (isHead u = true ∨ u.chn.endWait = true)) ∧ f.at_ 0 1 ≠ ownAddr (helloLinked p f u) + 1

theorem offered_iff (a b c : Bool) : (!(!a && (b || c))) = true ↔ ¬ (a = false ∧ (b = true ∨ c = true)) := by
  revert a b c
  decide

theorem onHello_branches : onHello p.val f u =
    if p.val = 1 ∧ linkUp 1 (helloLinked p f u) = true ∧ ownAddr (helloLinked p f u) ≠ 0 ∧
      (!(!linkUp p u && (isHead u || u.chn.endWait))) = true ∧ (f.at_ 0 1 = 0 ∨ f.at_ 0 1 ≠ ownAddr (helloLinked p f u) + 1)
    then assignDown (helloLinked p f u) else helloLinked p f u := by
  have hp : p.val ≠ 2 := by omega
  have hlinked : helloLinked p f u =
      if linkUp p (helloNoted p f u) then
        (if u.on (F.CHN_pSTAT_NVALID p) && !natBit (f.at_ 1 1) 0 then linkDown p false (helloNoted p f u) else helloNoted p f u)
      else if (helloNoted p f u).on (F.CHN_pSTAT_LOCK p) then linkComesUp p (helloNoted p f u) else helloNoted p f u := by
    rw [linkUp_helloNoted, lock_helloNoted, helloLinked]
  rw [hlinked]
  unfold onHello
  rw [if_neg hp, portIx_val]
  rfl

theorem onHello_assigns (h : helloAssigns p f u) : onHello p.val f u = assignDown (helloLinked p f u) := by
  obtain ⟨rfl, hup, hown, hoff, ha⟩ := h
  rw [onHello_branches, if_pos ⟨rfl, hup, hown, (offered_iff ..).mpr hoff, .inr ha⟩]

theorem onHello_rests (h : ¬ helloAssigns p f u) : onHello p.val f u = helloLinked p f u := by
  rw [onHello_branches, if_neg]
  rintro ⟨hp, hup, hown, hoff, ha⟩
  exact h ⟨Fin.ext hp, hup, hown, (offered_iff ..).mp hoff, ha.elim (by omega) id⟩

end

/-! ASSIGN (R393, R396, R397). -/

section
variable {f : Frame} {s u : State}

/-- The fields of the address and the routes but for the quarantine. -/
abbrev AddrFld (f : Fld) : Prop := IdReg f.reg.addr ∧ Apart F.CHN_ADDR_QUAR f

theorem get_quarUpdate {g : Fld} (hg : AddrFld g) (b : Bool) (s : State) : (quarUpdate b s).get g = s.get g := by
  have hset (n : Nat) : (chnEvent 8 (s.set F.CHN_ADDR_QUAR n)).get g = s.get g :=
    ((IdKept.refl _).chnEvent 8 |>.get hg.1).trans (State.get_set_apart _ hg.2 n)
  unfold quarUpdate
  dsimp only
  split
  · rfl
  · exact hset _

theorem idKept_idPage (s : State) : IdKept s (idPage s) := by
  unfold idPage pageState
  exact .fault ((((((FaultFrame.windowPut ..).trans (.windowPut ..)).trans ((FaultFrame.windowPut ..).trans (.windowPut ..))).trans
    (.windowPut ..)).trans (.windowPut ..)).trans (.windowPut ..))

theorem idKept_assigned {a : Nat} (h : IdKept s u) : IdKept s
    (if linkUp 1 u then enumReport a (bit01 (u.on (F.CHN_pSTAT_NHEAD 1))) (assignDown u)
      else { u with chn := { u.chn with endWait := true, endAt := u.now + 1000 * u.get F.CHN_CFG_ENDWAIT } }) := by
  refine .ite ?_ (h.setChn _)
  unfold enumReport
  exact .ite ((h.chainSendOn _ _).chainSendOn _ _) ((h.chainSendOn _ _).chainSend _)

/-- What a unit holds once it has taken an address (R383, R393). -/
def addrTaken (f : Frame) (s : State) : State :=
  setUpmap (mapOf 1 (f.at_ 0 1 - 1)) ((((({ s with chn := { s.chn with force := false, endWait := false } } : State).set
    F.CHN_TOKEN_TOKEN (f.at_ 4 4)).set F.CHN_VERS_HEAD (f.at_ 2 1)).set F.CHN_ADDR_ADDR (f.at_ 0 1)).setB F.CHN_ADDR_VALID
    (f.at_ 0 1 != 0))

theorem get_assignUnit (h1 : 1 ≤ f.at_ 0 1) (h64 : f.at_ 0 1 ≤ 64) (hown : ownAddr s = 0) {g : Fld} (hg : AddrFld g) :
    (assignUnit f false s).get g = (addrTaken f s).get g := by
  have hlose : (ownAddr s != 0 && ownAddr s != f.at_ 0 1) = false := by simp [hown]
  have haddr : IdKept (addrTaken f s) (setAddr (f.at_ 0 1) ((({ s with chn := { s.chn with force := false, endWait := false } } : State).set
      F.CHN_TOKEN_TOKEN (f.at_ 4 4)).set F.CHN_VERS_HEAD (f.at_ 2 1))) := by
    have h0 : f.at_ 0 1 ≠ 0 := by omega
    unfold setAddr
    dsimp only
    rw [if_neg h0, if_neg h0]
    exact ((IdKept.refl _).reachUpdate).chnEvent 4
  unfold assignUnit
  dsimp only
  rw [if_neg (by omega), if_pos (.inl hown), hlose]
  exact ((idKept_assigned ((((idKept_idPage _).chainSendOn _ _).chainSendOn _ _))).get hg.1).trans
    ((get_quarUpdate hg _ _).trans (haddr.get hg.1))

theorem leNat_lt : ∀ l : List Byte, leNat l < 256 ^ l.length
  | [] => Nat.one_pos
  | b :: l => by
    have hb := b.isLt
    have ih := leNat_lt l
    simp only [leNat, ofLeBytes, List.length_cons, pow_succ] at ih ⊢
    omega

theorem at_lt (f : Frame) (i n : Nat) : f.at_ i n < 256 ^ n :=
  (leNat_lt _).trans_le (Nat.pow_le_pow_right (by decide) (List.length_take_le ..))

theorem get_setUpmap {g : Fld} (hlo : g.reg.addr ≠ R.CHN_UPMAPLO.addr) (hhi : g.reg.addr ≠ R.CHN_UPMAPHI.addr) (m : Nat) (s : State) :
    (setUpmap m s).get g = s.get g := by
  unfold setUpmap State.setMap64 State.get
  rw [State.word_setWord_other _ _ hhi, State.word_setWord_other _ _ hlo]

theorem upmap_addrTaken (f : Frame) (s : State) : upmap (addrTaken f s) = mapOf 1 (f.at_ 0 1 - 1) :=
  upmap_setUpmap (mapOf_lt 1 (f.at_ 0 1 - 1)) _

/-- A unit without an address takes the one that ASSIGN gives, with its routes, the head's version and the token (R383, R393). -/
theorem assignUnit_first (h1 : 1 ≤ f.at_ 0 1) (h64 : f.at_ 0 1 ≤ 64) (hown : ownAddr s = 0) :
    ownAddr (assignUnit f false s) = f.at_ 0 1 ∧ upmap (assignUnit f false s) = mapOf 1 (f.at_ 0 1 - 1) ∧
      (assignUnit f false s).get F.CHN_VERS_HEAD = f.at_ 2 1 ∧ (assignUnit f false s).get F.CHN_TOKEN_TOKEN = f.at_ 4 4 := by
  have hget {g : Fld} (hg : AddrFld g) := get_assignUnit h1 h64 hown hg
  have hvalid : (assignUnit f false s).get F.CHN_ADDR_VALID = 1 := by
    have h0 : (f.at_ 0 1 != 0) = true := by simp; omega
    rw [hget (by decide), addrTaken, get_setUpmap (by decide) (by decide), h0]
    exact State.get_set_same (f := F.CHN_ADDR_VALID) _ (by decide) 1
  have haddr : (assignUnit f false s).get F.CHN_ADDR_ADDR = f.at_ 0 1 := by
    rw [hget (by decide), addrTaken, get_setUpmap (by decide) (by decide), State.get_setB_apart _ (by decide),
      State.get_set_same (f := F.CHN_ADDR_ADDR) _ (by decide)]
    exact Nat.mod_eq_of_lt (show f.at_ 0 1 < 2 ^ 7 by omega)
  refine ⟨?_, ?_, ?_, ?_⟩
  · unfold ownAddr State.on
    rw [hvalid, haddr]
    rfl
  · exact (map64_congr (word_of_get (hget (g := ⟨R.CHN_UPMAPLO, 0, 32⟩) (by decide)))
      (word_of_get (hget (g := ⟨R.CHN_UPMAPHI, 0, 32⟩) (by decide)))).trans (upmap_addrTaken f s)
  · rw [hget (by decide), addrTaken, get_setUpmap (by decide) (by decide), State.get_setB_apart _ (by decide),
      State.get_set_apart _ (by decide), State.get_set_same (f := F.CHN_VERS_HEAD) _ (by decide)]
    exact Nat.mod_eq_of_lt (at_lt f 2 1)
  · rw [hget (by decide), addrTaken, get_setUpmap (by decide) (by decide), State.get_setB_apart _ (by decide),
      State.get_set_apart _ (by decide), State.get_set_apart _ (by decide), State.get_set_same (f := F.CHN_TOKEN_TOKEN) _ (by decide)]
    exact Nat.mod_eq_of_lt (at_lt f 4 4)

theorem onAssign_unit (h : isHead u = false) : onAssign 0 f u = assignUnit f (natBit (f.at_ 1 1) 0) u := by
  unfold onAssign
  rw [if_neg (by decide)]
  exact if_neg (by simp [h])

theorem onAssign_head (h : isHead u = true) : onAssign 0 f u =
    if f.at_ 4 4 = u.get F.CHN_TOKEN_TOKEN then
      if u.on F.CHN_CFG_RINGEN = true ∧ (!u.on F.CHN_ADDR_RING) = true then withHello (fun s => chnEvent 9 (s.set F.CHN_ADDR_RING 1)) u else u
    else if f.at_ 4 4 < u.get F.CHN_TOKEN_TOKEN then
      assignUnit f true (chnEvent 11 ((u.set F.CHN_ADDR_YIELD 1).set F.CHN_ADDR_HEAD 0))
    else chnEvent 11 u := by
  unfold onAssign
  rw [if_neg (by decide)]
  exact if_pos h

end

/-! ENDWAIT and the loss of a unit (R392, R399). -/

section
variable {s : State}

/-- Has ENDWAIT passed (R392)? -/
def endWaitDue (s : State) : Prop := s.chn.endWait = true ∧ linkUp 1 s = false ∧ s.chn.endAt ≤ s.now

theorem endWaitExpire_due (h : endWaitDue s) :
    endWaitExpire s = enumReport (ownAddr s) 1 { s with chn := { s.chn with endWait := false } } := by
  obtain ⟨hw, hl, ha⟩ := h
  exact if_pos ⟨hw, by simp [hl], ha⟩

theorem endWaitExpire_idle (h : ¬ endWaitDue s) : endWaitExpire s = s :=
  if_neg fun hn => h ⟨hn.1, by simpa using hn.2.1, hn.2.2⟩

/-- Has address `a` stayed out of REACH for LOSTDLY (R399)? -/
def lostDue (a : Nat) (s : State) : Prop :=
  (∃ e ∈ s.chn.out, e.1 = a ∧ e.2.1 = false ∧ e.2.2 + 10000 * s.get F.CHN_CFG_LOSTDLY ≤ s.now) ∧ inMap (reachMap s) a = false

theorem lostDue_iff {a : Nat} : lostDue a s ↔
    (s.chn.out.any (fun e => e.1 == a && !e.2.1 && decide (e.2.2 + 10000 * s.get F.CHN_CFG_LOSTDLY ≤ s.now)) && !inMap (reachMap s) a) = true := by
  simp only [lostDue, Bool.and_eq_true, List.any_eq_true, beq_iff_eq, Bool.not_eq_true', decide_eq_true_eq, and_assoc]

theorem unitLost_due {a : Nat} (h : lostDue a s) : unitLost a s = declareLost a s := if_pos (lostDue_iff.mp h)
theorem unitLost_idle {a : Nat} (h : ¬ lostDue a s) : unitLost a s = s := if_neg fun hn => h (lostDue_iff.mpr hn)

end

/-- Settles O42: each frame by the unit it is for; the maps read back as written, and a unit's loss touches none of the registers of its
address and routes. -/
theorem enumeration : Obligations.Enumeration := by
  unfold Obligations.Enumeration
  refine ⟨fun p f s u h => ?_, fun f s u h => ?_, fun p f s u h hp => ?_, fun f s h1 h64 hown => assignUnit_first h1 h64 hown,
    fun p f s u h => ?_, fun p f s u h => ?_, fun m s hm => ⟨upmap_setUpmap hm s, liveMap_setLive hm s⟩, fun p f s u h => ?_,
    fun p f s u h => h.rowS _, fun s => ?_, fun s => ?_, fun a s => ?_, fun f s u h => ?_⟩
  · intro b v w offered due
    have hrow : exec (.hello (p.castLE (by decide))) s = .next (settle (bootPoll (onHello p.val f u))) :=
      congrArg (fun v => Host.Outcome.next (settle (bootPoll v))) (h.onFrame (op := onHello p.val))
    exact ⟨fun hd => hrow.trans (congrArg (fun v => Host.Outcome.next (settle (bootPoll v))) (onHello_assigns hd)),
      fun hd => hrow.trans (congrArg (fun v => Host.Outcome.next (settle (bootPoll v))) (onHello_rests hd))⟩
  · intro ends tok own
    have hrow : exec (.assign 0) s = ends (onAssign 0 f u) :=
      congrArg (fun v => Host.Outcome.next (settle (bootPoll v))) (h.onFrame (op := onAssign 0))
    have hhead (hh : isHead u = true) := hrow.trans (congrArg ends (onAssign_head hh))
    refine ⟨fun hh => hrow.trans (congrArg ends (onAssign_unit hh)), fun hh ht he hr => (hhead hh).trans (congrArg ends ?_),
      fun hh ht he hr => (hhead hh).trans (congrArg ends ?_), fun hh ht he => (hhead hh).trans (congrArg ends ?_),
      fun hh ht => (hhead hh).trans (congrArg ends ?_), fun hh ht => (hhead hh).trans (congrArg ends ?_)⟩
    · exact (if_pos ht).trans (if_pos ⟨he, by simp [hr]⟩)
    · exact (if_pos ht).trans (if_neg fun hn => by simp [hr] at hn)
    · exact (if_pos ht).trans (if_neg fun hn => by simp [he] at hn)
    · exact (if_neg (Nat.ne_of_lt ht)).trans (if_pos ht)
    · exact (if_neg (Nat.ne_of_gt ht)).trans (if_neg (Nat.not_lt.mpr (Nat.le_of_lt ht)))
  · have hrow : exec (.assign p) s = .next (settle (bootPoll (onAssign p.val f u))) :=
      congrArg (fun v => Host.Outcome.next (settle (bootPoll v))) (h.onFrame (op := onAssign p.val))
    exact hrow.trans (congrArg (fun v => Host.Outcome.next (settle (bootPoll v))) (if_pos fun he => hp (Fin.ext he)))
  · intro a v w
    have hrow : exec (.enumrpt p) s = .next (settle (onEnumrpt f u)) := h.rowS _
    refine ⟨fun hh h0 => hrow.trans ?_, fun hh h0 => hrow.trans ?_, fun hh => hrow.trans ?_⟩
    · exact congrArg (fun u => Host.Outcome.next (settle u)) ((if_neg (by simp [hh])).trans (if_neg (by simp [h0])))
    · exact congrArg (fun u => Host.Outcome.next (settle u)) ((if_neg (by simp [hh])).trans (if_pos h0))
    · exact congrArg (fun u => Host.Outcome.next (settle u)) (if_pos (by simp [hh]))
  · intro ring
    have hrow : exec (.route p) s = .next (settle (onRoute f u)) := h.rowS _
    refine ⟨fun hf => hrow.trans ?_, fun hf => hrow.trans ?_⟩
    · unfold onRoute
      rw [hf]
      rfl
    · unfold onRoute
      rw [hf]
      rfl
  · have hrow : exec (.linkrpt p) s = .next (settle (onLinkrpt f u)) := h.rowS _
    exact ⟨fun hh => hrow.trans (congrArg (fun u => Host.Outcome.next (settle u)) (if_pos hh)),
      fun hh => hrow.trans (congrArg (fun u => Host.Outcome.next (settle u)) (if_neg (by simp [hh])))⟩
  · intro r go
    refine ⟨fun hg => congrArg (fun u => Host.Outcome.next (settle u)) ((if_pos hg).trans ?_),
      fun hg => congrArg (fun u => Host.Outcome.next (settle u)) (if_neg hg)⟩
    exact congrArg bootPoll (if_pos hg.1)
  · intro go
    exact ⟨fun hg => congrArg Host.Outcome.next (endWaitExpire_due (s := s.begin) hg),
      fun hg => congrArg Host.Outcome.next (endWaitExpire_idle (s := s.begin) hg)⟩
  · intro go
    exact ⟨fun hg => congrArg (fun u => Host.Outcome.next (settle u)) (unitLost_due (s := s.begin) hg),
      fun hg => congrArg (fun u => Host.Outcome.next (settle u)) (unitLost_idle (s := s.begin) hg)⟩
  · exact congrArg (fun v => Host.Outcome.next (settle (bootPoll v))) (h.onFrame (op := onHello 2))

end Sys2Proof.Machine
end

section
/-!
PROOFS. Image relay: rounds, requests, and the frames of a round (R71 to R74, R421, R422).
-/
namespace Sys2Proof.Machine

section
variable {f : Frame} {s u : State}

/-! Rounds and timeouts (R71, R73). -/

theorem relayRoundStart_due (ha : s.chn.relay.asked ≠ 0) (hs : s.chn.relay.sending = none) (ho : s.on F.CHN_MAINT_OPEN = false)
    (hb : s.get F.SYS_BOOTSTAT_STATE = 8) (hok : s.chn.relay.srcOk = true) (hsrc : s.on F.SYS_STRAP_BOOTSRC = true) :
    relayRoundStart s = chainSendOn 1
      { cls := 3, dst := 0x7F, typ := 0x1A, src := ownAddr s,
        data := leBytes 4 s.chn.relay.srcLen ++ leBytes 4 (s.get F.SYS_IMAGEID_IMAGEID) ++ leBytes 4 (s.chn.relay.round + 1) ++ leBytes 4 0 }
      (s.updRelay fun r => { r with asked := 0, round := s.chn.relay.round + 1, sending := some 0 }) := by
  unfold relayRoundStart
  dsimp only
  rw [if_neg (by simp [ha, hs, ho, inRun, hb, hok, hsrc])]
  rfl

theorem relayRoundStart_idle (h : s.chn.relay.asked = 0 ∨ s.chn.relay.sending.isSome = true ∨ s.on F.CHN_MAINT_OPEN = true ∨
    s.get F.SYS_BOOTSTAT_STATE ≠ 8 ∨ s.chn.relay.srcOk = false ∨ s.on F.SYS_STRAP_BOOTSRC = false) : relayRoundStart s = s :=
  if_pos (by simpa [inRun] using h)

theorem relayLeave_joined (h : s.chn.relay.joined.isSome = true) :
    relayLeave s = relayRequest (s.updRelay fun r => { r with joined := none, image := [] }) := if_pos h

theorem relayLeave_apart (h : s.chn.relay.joined = none) : relayLeave s = s := if_neg (by simp [h])

theorem relayTimeout_apart (h : s.chn.relay.joined = none) : relayTimeout s = s := by
  unfold relayTimeout
  rw [relayLeave_apart h, ite_self]

/-- RELAYTO after a time `d` (R73). -/
def relaytoAfter (d : Nat) (s : State) : State :=
  if s.get F.SYS_BOOTSTAT_STATE = 4 ∧ s.boot.wait = none ∧ s.chn.relay.firstAt.any (fun t => decide (t + d ≤ s.now)) then limpWith 0xE 0x11 s else s

theorem relaytoExpire_eq (s : State) : relaytoExpire s = relaytoAfter 5000000000 s := rfl

theorem relaytoAfter_due (d : Nat) {n : Nat} (h4 : s.get F.SYS_BOOTSTAT_STATE = 4) (hw : s.boot.wait = none)
    (hn : s.chn.relay.firstAt = some n) (hnow : n + d ≤ s.now) : relaytoAfter d s = limpWith 0xE 0x11 s :=
  if_pos ⟨h4, hw, by rw [hn]; exact decide_eq_true hnow⟩

theorem relaytoAfter_soon (d : Nat) {n : Nat} (hn : s.chn.relay.firstAt = some n) (hnow : s.now < n + d) : relaytoAfter d s = s :=
  if_neg fun h => by
    obtain ⟨-, -, h⟩ := h
    rw [hn] at h
    exact absurd (of_decide_eq_true h) (Nat.not_le.mpr hnow)

theorem relaytoAfter_idle (d : Nat) (h : s.get F.SYS_BOOTSTAT_STATE ≠ 4 ∨ s.boot.wait ≠ none ∨ s.chn.relay.firstAt = none) :
    relaytoAfter d s = s :=
  if_neg fun ⟨h4, hw, hn⟩ => by
    rcases h with h | h | h
    · exact h h4
    · exact h hw
    · rw [h] at hn
      exact Bool.false_ne_true hn

theorem limpRetry_due (h9 : s.get F.SYS_BOOTSTAT_STATE = 9) (hs : s.on F.SYS_STRAP_BOOTSRC = false) (hj : s.chn.relay.joined = none)
    (hnow : s.chn.relay.askAt + 100000000 ≤ s.now) : limpRetry s = relayRequest s :=
  if_pos ⟨by simp [inLimp, h9], by simp [hs], by simp [hj], hnow⟩

theorem limpRetry_soon (h : s.now < s.chn.relay.askAt + 100000000) : limpRetry s = s :=
  if_neg fun hn => absurd hn.2.2.2 (Nat.not_le.mpr h)

theorem limpRetry_idle (h : s.get F.SYS_BOOTSTAT_STATE ≠ 9 ∨ s.on F.SYS_STRAP_BOOTSRC = true ∨ s.chn.relay.joined ≠ none) : limpRetry s = s := by
  refine if_neg fun hn => ?_
  obtain ⟨h9, hs, hj, -⟩ := hn
  simp only [inLimp, beq_iff_eq, Bool.not_eq_true', Option.isNone_iff_eq_none] at h9 hs hj
  rcases h with h | h | h
  · exact h h9
  · simp [hs] at h
  · exact h hj

/-! The frames (R421, R422). -/

/-- The refusal of a relay request (R421). -/
def relayRefusal (n : Byte) (u : State) : State :=
  chainSendOn 1 { cls := 3, dst := 0x7F, typ := 0x19, src := ownAddr u, data := [n, 0#8, 0#8, 0#8] } u

theorem onRelayreq_held (h9 : u.get F.SYS_BOOTSTAT_STATE ≠ 9)
    (h8 : u.get F.SYS_BOOTSTAT_STATE = 8 → u.chn.relay.srcLen ≠ 0 ∧ u.chn.relay.srcOk = true) :
    onRelayreq u = u.updRelay fun r => { r with asked := r.asked + 1 } := by
  unfold onRelayreq
  dsimp only
  rw [if_neg (by simpa [inLimp] using h9)]
  by_cases hrun : u.get F.SYS_BOOTSTAT_STATE = 8
  · obtain ⟨hlen, hok⟩ := h8 hrun
    rw [if_pos (by simpa [inRun] using hrun), if_neg hlen, if_neg (by simp [hok])]
  · rw [if_neg (by simpa [inRun] using hrun)]

theorem onRelayreq_limp (h : u.get F.SYS_BOOTSTAT_STATE = 9) : onRelayreq u = relayRefusal 2#8 u := if_pos (by simp [inLimp, h])

theorem onRelayreq_empty (h8 : u.get F.SYS_BOOTSTAT_STATE = 8) (h : u.chn.relay.srcLen = 0) : onRelayreq u = relayRefusal 1#8 u :=
  (if_neg (by simp [inLimp, h8])).trans ((if_pos (by simp [inRun, h8])).trans (if_pos h))

theorem onRelayreq_bad (h8 : u.get F.SYS_BOOTSTAT_STATE = 8) (h : u.chn.relay.srcLen ≠ 0) (hok : u.chn.relay.srcOk = false) :
    onRelayreq u = relayRefusal 3#8 u :=
  (if_neg (by simp [inLimp, h8])).trans ((if_pos (by simp [inRun, h8])).trans ((if_neg h).trans (if_pos (by simp [hok]))))

theorem onRelaystart_asked (h : u.chn.relay.requested = true) (hs : u.on F.SYS_STRAP_BOOTSRC = false) :
    onRelaystart f u = u.updRelay fun r =>
      { r with joined := some (f.at_ 8 4), requested := false, base := 0, due := 0, imgLen := f.at_ 0 4, image := [], frameAt := u.now } :=
  if_pos ⟨h, by simp [hs]⟩

theorem onRelaystart_unasked (h : u.chn.relay.requested = false ∨ u.on F.SYS_STRAP_BOOTSRC = true) : onRelaystart f u = u :=
  if_neg fun hn => by simp [hn.1] at h; simp [h] at hn

theorem onRelaymark_joined {n : Nat} (h : u.chn.relay.joined = some n) : onRelaymark f u =
    if f.at_ 4 4 = n ∧ f.at_ 0 4 = u.chn.relay.due ∧ u.chn.relay.due % 0x4000 = 0 then
      u.updRelay fun r => { r with base := f.at_ 0 4, frameAt := u.now }
    else relayLeave u := by
  unfold onRelaymark
  dsimp only
  rw [h]

theorem onRelaydata_joined (h : u.chn.relay.joined.isSome = true) : onRelaydata f u =
    if u.chn.relay.base + 64 * f.tag = u.chn.relay.due ∧ u.chn.relay.due < u.chn.relay.base + 0x4000 ∧
      u.chn.relay.due < u.chn.relay.imgLen ∧ f.data.length = min 64 (u.chn.relay.imgLen - u.chn.relay.due) then
      u.updRelay fun r => { r with image := r.image ++ f.data, due := r.due + f.data.length, frameAt := u.now }
    else relayLeave u :=
  (if_neg (by simp [Option.isSome_iff_ne_none.mp h])).trans
    (if_congr (and_congr_right fun _ => and_congr_right fun _ => and_comm) rfl rfl)

theorem relayEnd_joined {n : Nat} (h : u.chn.relay.joined = some n) : relayEnd f u =
    if f.at_ 4 4 = n ∧ f.at_ 0 4 = u.chn.relay.imgLen ∧ u.chn.relay.due = u.chn.relay.imgLen then
      relayImage u.chn.relay.image (u.updRelay fun r => { r with joined := none, image := [] })
    else relayLeave u := by
  unfold relayEnd onRelayend
  dsimp only
  rw [h]
  dsimp only
  by_cases hfits : f.at_ 4 4 = n ∧ f.at_ 0 4 = u.chn.relay.imgLen ∧ u.chn.relay.due = u.chn.relay.imgLen
  · rw [if_pos hfits, if_pos hfits]
  · rw [if_neg hfits, if_neg hfits]

theorem frames_apart (h : u.chn.relay.joined = none) : onRelaymark f u = u ∧ onRelaydata f u = u ∧ relayEnd f u = u := by
  unfold onRelaymark onRelaydata relayEnd onRelayend
  dsimp only
  rw [h]
  exact ⟨rfl, rfl, rfl⟩

/-- Does the unit take a relayed image now (R72)? -/
def relayTakes (s : State) : Prop :=
  s.get F.SYS_BOOTSTAT_STATE = 4 ∨ (s.get F.SYS_BOOTSTAT_STATE = 9 ∧ s.get F.SYS_BOOTSTAT_ERRA ≠ 0xF)

theorem relayTakes_iff : s.get F.SYS_BOOTSTAT_STATE = 4 ∨ inLimp s = true ∧ s.get F.SYS_BOOTSTAT_ERRA ≠ 0xF ↔ relayTakes s := by
  simp [relayTakes, inLimp]

end

/-- Settles O9: a round by its conditions, the timeouts by their clocks, and each frame by what the unit has joined. -/
theorem relayRoundsAndFrames : Obligations.RelayRoundsAndFrames := by
  unfold Obligations.RelayRoundsAndFrames
  refine ⟨⟨fun s ha hs ho hb hok hsrc => ?_, fun s h => congrArg Host.Outcome.next (relayRoundStart_idle (s := s.begin) h), fun s hj => ⟨fun h => ?_, fun h => ?_⟩,
    fun s h => congrArg Host.Outcome.next (relayTimeout_apart (s := s.begin) h), fun n s h4 hw hn => ⟨fun h => ?_, fun h => ?_⟩,
    fun s h => congrArg Host.Outcome.next ((relaytoExpire_eq _).trans (relaytoAfter_idle (s := s.begin) _ h)),
    fun s h => congrArg Host.Outcome.next (limpRetry_idle (s := s.begin) h), fun s h9 hs hj => ⟨fun h => ?_, fun h => ?_⟩,
    fun s => rfl⟩, fun p f s u => ?_, fun img s => ?_, fun p s e he hnone => ?_⟩
  · exact congrArg Host.Outcome.next (relayRoundStart_due (s := s.begin) ha hs ho hb hok hsrc)
  · exact congrArg Host.Outcome.next ((if_pos h).trans (relayLeave_joined (s := s.begin) hj))
  · exact congrArg Host.Outcome.next (if_neg (Nat.not_le.mpr h))
  · exact congrArg Host.Outcome.next ((relaytoExpire_eq _).trans (relaytoAfter_due (s := s.begin) _ h4 hw hn h))
  · exact congrArg Host.Outcome.next ((relaytoExpire_eq _).trans (relaytoAfter_soon (s := s.begin) _ hn h))
  · exact congrArg Host.Outcome.next (limpRetry_due (s := s.begin) h9 hs hj h)
  · exact congrArg Host.Outcome.next (limpRetry_soon (s := s.begin) h)
  · intro r boot refusal leave nothing
    have hnext {u v : State} (h : u = v) : (.next (settle u) : Result) = .next (settle v) := congrArg (fun u => Host.Outcome.next (settle u)) h
    refine ⟨fun h h9 h8 => (h.rowS _).trans (hnext (onRelayreq_held h9 h8)), fun h h9 => (h.rowS _).trans (hnext (onRelayreq_limp h9)),
      fun h h8 hl => (h.rowS _).trans (hnext (onRelayreq_empty h8 hl)), fun h h8 hl hok => (h.rowS _).trans (hnext (onRelayreq_bad h8 hl hok)),
      fun h => h.rowS _, fun h hr hs => (h.rowS _).trans (hnext (onRelaystart_asked hr hs)),
      fun h hr => (h.rowS _).trans (hnext (onRelaystart_unasked hr)), fun n h hj => ?_, fun h hj => ?_, fun n h hj => ?_, fun hj e he h => ?_⟩
    · intro fits
      have hleave : relayLeave u = relayRequest (u.updRelay fun r => { r with joined := none, image := [] }) :=
        relayLeave_joined (by rw [hj]; rfl)
      exact ⟨fun hf => (h.rowS _).trans (hnext ((onRelaymark_joined hj).trans (if_pos hf))),
        fun hf => (h.rowS _).trans (hnext ((onRelaymark_joined hj).trans ((if_neg hf).trans hleave)))⟩
    · intro fits
      exact ⟨fun hf => (h.rowS _).trans (hnext ((onRelaydata_joined hj).trans (if_pos hf))),
        fun hf => (h.rowS _).trans (hnext ((onRelaydata_joined hj).trans ((if_neg hf).trans (relayLeave_joined hj))))⟩
    · intro fits
      have hleave : relayLeave u = relayRequest (u.updRelay fun r => { r with joined := none, image := [] }) :=
        relayLeave_joined (by rw [hj]; rfl)
      exact ⟨fun hf => (h.rowS relayEnd).trans (hnext ((relayEnd_joined hj).trans (if_pos hf))),
        fun hf => (h.rowS relayEnd).trans (hnext ((relayEnd_joined hj).trans ((if_neg hf).trans hleave)))⟩
    · obtain ⟨hmark, hdata, hend⟩ := frames_apart (f := f) hj
      fin_cases he
      · exact (h.rowS onRelaymark).trans (hnext hmark)
      · exact (h.rowS onRelaydata).trans (hnext hdata)
      · exact (h.rowS relayEnd).trans (hnext hend)
  · intro takes
    exact ⟨fun h => if_pos (relayTakes_iff.mpr h), fun h => if_neg fun hn => h (relayTakes_iff.mp hn)⟩
  · fin_cases he <;> exact rowS_onFrame_of_none hnone _

end Sys2Proof.Machine
end

section
/-!
PROOFS. Mailboxes and the buffer pool: an access to a doorbell comes to the word's own rule, and what the pool's checks look at.
-/
namespace Sys2Proof.Machine

variable {s t u : State} {cid a m : Nat} {w : Word}

/-! What the pool reads of a state are its buffers. -/

theorem buf_congr (h : t.share = s.share) (i : Nat) : t.buf i = s.buf i := by
  unfold State.buf
  rw [h]

theorem chainOf_congr (h : t.share = s.share) : ∀ n i, chainOf n i t = chainOf n i s
  | 0, _ => rfl
  | n + 1, i => by
    unfold chainOf
    rw [buf_congr h]
    cases (s.buf i).next with
    | none => rfl
    | some j => exact congrArg (i :: ·) (chainOf_congr h n j)

theorem chain_congr (h : t.share = s.share) (i : Nat) : chain i t = chain i s := chainOf_congr h ..

theorem predOf_congr (h : t.share = s.share) (i : Nat) : predOf i t = predOf i s := by
  unfold predOf
  rw [h]

theorem predCount_congr (h : t.share = s.share) : ∀ n i, predCount n i t = predCount n i s
  | 0, _ => rfl
  | n + 1, i => by
    unfold predCount
    rw [predOf_congr h]
    cases predOf i s with
    | none => rfl
    | some j => exact congrArg (1 + ·) (predCount_congr h n j)

theorem handleCheck_congr (h : t.share = s.share) (cid n : Nat) : handleCheck cid n t = handleCheck cid n s := by
  unfold handleCheck
  simp only [buf_congr h, chain_congr h]

theorem moveCheck_congr (h : t.share = s.share) (cid n : Nat) (target : Option Nat) :
    moveCheck cid n target t = moveCheck cid n target s := by
  unfold moveCheck
  rw [handleCheck_congr h, predOf_congr h]

theorem share_noted (q r : Reg) (v w : Word) (f g : Fld) (n i : Nat) (s : State) :
    ((((s.setWord q v).setWord r w).set f n).setBit g i true).share = s.share := rfl

theorem share_flagged (h : t.share = s.share) {p : Prop} [Decidable p] {g : Fld} {i : Nat} :
    (if p then t.setBit g i true else t).share = s.share := by
  split
  · exact h
  · exact h

theorem poolRefuse_share (cid h c : Nat) (s : State) : (poolRefuse cid h c s).share = s.share := by
  unfold poolRefuse
  extract_lets
  exact (State.raise_share ..).trans (share_flagged (share_noted ..))

theorem buf_setBuf_same (i : Nat) (b : Buf) (s : State) : (s.setBuf i b).buf i = b := smapGet_set_same ..

theorem buf_setBuf_other {i j : Nat} (h : j ≠ i) (b : Buf) (s : State) : (s.setBuf i b).buf j = s.buf j := smapGet_set_other _ _ _ _ h

theorem buf_moveAll (f : Buf → Buf) (i : Nat) (l : List Nat) (hl : l.Nodup) (s : State) :
    (moveAll f l s).buf i = if i ∈ l then f (s.buf i) else s.buf i := by
  induction l generalizing s with
  | nil => simp [moveAll]
  | cons j js ih =>
    obtain ⟨hj, hjs⟩ := List.nodup_cons.mp hl
    have hrest : (moveAll f (j :: js) s).buf i = (moveAll f js (s.setBuf j (f (s.buf j)))).buf i := rfl
    rw [hrest, ih hjs]
    by_cases hi : i = j
    · subst hi
      rw [if_neg hj, if_pos List.mem_cons_self, buf_setBuf_same]
    · rw [buf_setBuf_other hi]
      simp only [List.mem_cons, hi, false_or]

/-! A write of a doorbell (R272, R273). -/

theorem memOne_of_ok {who : Who} {write : Bool} {size r v : Nat} (h : accessCheck who write a size s = .ok r) (hr : memRegion r = true) :
    memOne who write a size v s = memTarget who r write a size v s := by
  unfold memOne
  simp only [h, hr, if_true]

theorem fabric_memory {who : Who} {write : Bool} {r v : Nat} (h : accessCheck who write a 4 s = .ok r) (hr : memRegion r = true) :
    fabric .other who write a 4 v s = (.ans (logged who write a (memTarget who r write a 4 v s)).1,
      (logged who write a (memTarget who r write a 4 v s)).2) := by
  have hmem : memAccess who write a 4 v s = logged who write a (memTarget who r write a 4 v s) :=
    (if_neg (by simp)).trans (congrArg (logged who write a) (memOne_of_ok h hr))
  unfold fabric
  simp only [h, hr, if_true, hmem]

/-- The doorbell's own address within the window. -/
theorem memTarget_bell (hm : m < 32) (who : Who) (v : Nat) (s : State) : memTarget who 11 true (0x40007D00 + 16 * m) 4 v s =
    bellWrite m who.cid who.origin (BitVec.ofNat 32 v) (bellServed who.cid s) := by
  have hoff : (0x40007D00 + 16 * m) % 0x8000 = 0x7D00 + 16 * m := by omega
  have hix : (0x7D00 + 16 * m - 0x7D00) / 16 = m := by omega
  have hal : (0x7D00 + 16 * m) % 16 < 4 := by omega
  unfold memTarget windowWrite
  rw [if_neg (by decide), if_pos (by decide), if_pos rfl, hoff, if_neg (by omega), if_pos (by omega)]
  simp only [hix, if_pos hal]

section
variable {d : DWord} {c : Cause}

theorem fabricWrite_bell (hm : m < 32) (h : (accessCheck { cid := cid } true (0x40007D00 + 16 * m) 4 s).toOption = some 11)
    (hx : bellWrite m cid 0 w (bellServed cid s) = (.ok d, u)) : fabricWrite cid (0x40007D00 + 16 * m) w s = u := by
  have hw : BitVec.ofNat 32 w.toNat = w := BitVec.ofNat_toNat ..
  unfold fabricWrite
  rw [fabric_memory (accessCheck_of_toOption h) (by decide), memTarget_bell hm, hw, hx]
  rfl

theorem fabricWrite_bell_refused (hm : m < 32) (h : (accessCheck { cid := cid } true (0x40007D00 + 16 * m) 4 s).toOption = some 11)
    (hx : bellWrite m cid 0 w (bellServed cid s) = (.refused c, u)) : fabricWrite cid (0x40007D00 + 16 * m) w s =
      (busErr { cid := cid } true (0x40007D00 + 16 * m) c u).answerRefused c.code := by
  have hw : BitVec.ofNat 32 w.toNat = w := BitVec.ofNat_toNat ..
  unfold fabricWrite
  rw [fabric_memory (accessCheck_of_toOption h) (by decide), memTarget_bell hm, hw, hx]
  simp only [logged]

end

/-- The word of a POST: the data, the handle's flag, and OP 2. -/
def postWord (data : BitVec 16) (handle : Bool) : Word := BitVec.ofNat 32 (data.toNat + (if handle then 0x20000000 else 0) + 0x80000000)

theorem postWord_toNat (data : BitVec 16) (handle : Bool) :
    (postWord data handle).toNat = data.toNat + (if handle then 0x20000000 else 0) + 0x80000000 := by
  unfold postWord
  rw [BitVec.toNat_ofNat]
  cases handle
  · rw [if_neg Bool.false_ne_true]
    omega
  · rw [if_pos rfl]
    omega

theorem postWord_op (data : BitVec 16) (handle : Bool) : (postWord data handle).toNat / 0x40000000 = 2 := by
  rw [postWord_toNat]
  cases handle
  · rw [if_neg Bool.false_ne_true]
    omega
  · rw [if_pos rfl]
    omega

theorem postWord_data (data : BitVec 16) (handle : Bool) : (postWord data handle).toNat % 65536 = data.toNat := by
  rw [postWord_toNat]
  cases handle
  · rw [if_neg Bool.false_ne_true]
    omega
  · rw [if_pos rfl]
    omega

theorem postWord_handle (data : BitVec 16) (handle : Bool) : (postWord data handle).getLsbD 29 = handle := by
  rw [BitVec.getLsbD, Nat.testBit_eq_decide_div_mod_eq, postWord_toNat]
  cases handle
  · rw [if_neg Bool.false_ne_true, decide_eq_false]
    omega
  · rw [if_pos rfl, decide_eq_true]
    omega

section
variable {org : Nat} {data : BitVec 16} {handle : Bool}

theorem bellWrite_of_post (h : w.toNat / 0x40000000 = 2) (s : State) : bellWrite m cid org w s =
    if mbxWriter m cid s then mbxPost m cid org (w.toNat % 65536) (w.getLsbD 29) s else (.ok 0#64, s) := by
  unfold bellWrite
  simp only [h]

theorem bellWrite_post (h : mbxWriter m cid s = true) :
    bellWrite m cid org (postWord data handle) s = mbxPost m cid org data.toNat handle s := by
  rw [bellWrite_of_post (postWord_op ..), if_pos h, postWord_data, postWord_handle]

theorem bellWrite_post_other (h : mbxWriter m cid s = false) : bellWrite m cid org (postWord data handle) s = (.ok 0#64, s) := by
  rw [bellWrite_of_post (postWord_op ..), if_neg (Bool.eq_false_iff.mp h)]

theorem bellWrite_ack (h : mbxReader m cid s = true) : bellWrite m cid org 0x40000000#32 s = (.ok 0#64, mbxAck m s) := if_pos h

theorem bellWrite_ack_other (h : mbxReader m cid s = false) : bellWrite m cid org 0x40000000#32 s = (.ok 0#64, s) :=
  if_neg (Bool.eq_false_iff.mp h)

end

theorem bellSet_eq {m data cid org n : Nat} {handle : Bool}
    (h : data + 65536 * cid + 0x400000 * org + (if handle then 0x20000000 else 0) + 0x80000000 = n) (s : State) :
    bellSet m data cid org handle s = (s.setBell m (BitVec.ofNat 32 n)).raise (0x40 + m) := by
  subst h
  rfl

theorem sum_zero (a b c d e : Nat) : a + b + c * 0 + d + e = a + b + d + e := by rw [Nat.mul_zero, Nat.add_zero]

theorem sum_zeros (a b c e : Nat) : a + b + c * 0 + 0 + e = a + b + e := by rw [Nat.mul_zero, Nat.add_zero]

theorem bellSet_local (m data cid : Nat) (s : State) : bellSet m data cid 0 false s =
    (s.setBell m (BitVec.ofNat 32 (data + 65536 * cid + 0x80000000))).raise (0x40 + m) := by
  refine bellSet_eq ?_ s
  rewrite [if_neg Bool.false_ne_true]
  exact sum_zeros _ _ 0x400000 _

theorem bellSet_handle (m data cid : Nat) (s : State) : bellSet m data cid 0 true s =
    (s.setBell m (BitVec.ofNat 32 (data + 65536 * cid + 0x20000000 + 0x80000000))).raise (0x40 + m) := by
  refine bellSet_eq ?_ s
  rewrite [if_pos rfl]
  exact sum_zero _ _ 0x400000 _ _

section
variable {org data : Nat} {handle : Bool} {c : Nat}

theorem mbxPost_full (h : bellFull m s = true) : mbxPost m cid org data handle s = (.refused .busy, bellOvr m s) := if_pos h

theorem mbxPost_word (h : bellFull m s = false) : mbxPost m cid org data false s = (.ok 0#64, bellSet m data cid org false s) :=
  (if_neg (Bool.eq_false_iff.mp h)).trans (if_neg Bool.false_ne_true)

theorem mbxPost_internal (h : bellFull m s = false) (hc : 58 ≤ cid ∧ cid ≤ 60) :
    mbxPost m cid org data true s = (.refused .deny, s) :=
  (if_neg (Bool.eq_false_iff.mp h)).trans ((if_pos rfl).trans (if_pos hc))

theorem mbxPost_moved (h : bellFull m s = false) (hc : ¬(58 ≤ cid ∧ cid ≤ 60)) (hm : moveCheck cid data none s = none) :
    mbxPost m cid org data true s =
      (.ok 0#64, bellSet m data cid org true (moveAll (fun b => { b with st := .transit, owner := m }) (chain (data % 512) s) s)) := by
  unfold mbxPost poolTransit
  rw [if_neg (Bool.eq_false_iff.mp h), if_pos rfl, if_neg hc, hm]

theorem mbxPost_unmoved (h : bellFull m s = false) (hc : ¬(58 ≤ cid ∧ cid ≤ 60)) (hm : moveCheck cid data none s = some c) :
    mbxPost m cid org data true s = (.refused .deny, poolRefuse cid data c s) := by
  unfold mbxPost poolTransit
  rw [if_neg (Bool.eq_false_iff.mp h), if_pos rfl, if_neg hc, hm]

end

theorem mbxAck_empty (h : bellFull m s = false) : mbxAck m s = s := if_neg (Bool.eq_false_iff.mp h)

/-- The mailbox given to its reader: its handle's buffers, if it has any, and its word. -/
def bellTaken (m : Nat) (s : State) : State :=
  (if (s.bell m).getLsbD 29 then poolDeliver ((s.bell m).toNat % 65536) (s.get (F.MBX_CFG_READER m)) s else s).setBell m
    (s.bell m &&& 0x1FFFFFFF#32)

theorem moveAll_regs (f : Buf → Buf) (l : List Nat) (s : State) : (moveAll f l s).regs = s.regs := by
  induction l generalizing s with
  | nil => rfl
  | cons i l ih => exact ih _

theorem on_bellTaken (f : Fld) : (bellTaken m s).on f = s.on f := by
  unfold bellTaken
  split
  · exact State.on_congr (State.get_congr (moveAll_regs ..) f)
  · rfl

theorem mbxAck_full (h : bellFull m s = true) : mbxAck m s =
    if s.on (F.MBX_CFG_ACKEV m) then ((bellTaken m s).setBit F.MBX_ACKPEND_PEND m true).raise 0x33 else bellTaken m s := by
  rw [← on_bellTaken]
  exact if_pos h

end Sys2Proof.Machine
end

section
/-!
PROOFS. The commands of the mailboxes and of the buffer pool.
-/
namespace Sys2Proof.Machine

variable {s u : State} {cid a : Nat} {w : Word}

/-- The words that the pool's commands write, field by field. -/
theorem fieldOf_low (h : BitVec 16) : fieldOf 0 16 (h.setWidth 32) = h.toNat := by
  unfold fieldOf
  rw [BitVec.toNat_setWidth]
  omega

theorem fieldOf_low_pair {h n : Nat} (hh : h < 2 ^ 16) : fieldOf 0 16 (BitVec.ofNat 32 (h + 65536 * n)) = h := by
  unfold fieldOf
  rw [BitVec.toNat_ofNat]
  omega

theorem fieldOf_high_pair {h n : Nat} (hh : h < 2 ^ 16) (hn : n < 2 ^ 16) : fieldOf 16 16 (BitVec.ofNat 32 (h + 65536 * n)) = n := by
  unfold fieldOf
  rw [BitVec.toNat_ofNat]
  omega

theorem fieldOf_target_pair {h n : Nat} (hh : h < 2 ^ 16) (hn : n < 2 ^ 6) : fieldOf 16 6 (BitVec.ofNat 32 (h + 65536 * n)) = n := by
  unfold fieldOf
  rw [BitVec.toNat_ofNat]
  omega

theorem fieldOf_cid (c : Cid) : fieldOf 0 6 (c.setWidth 32) = c.toNat := by
  unfold fieldOf
  rw [BitVec.toNat_setWidth]
  omega

section
variable {row : RegRow}

theorem poolWrite_free (h : a - 0x50006000 = 0x204) :
    poolWrite row cid a w s = some (.ok 0#64, poolFree cid (fieldOf 0 16 w) s) := by
  simp [poolWrite, h]

theorem poolWrite_give (h : a - 0x50006000 = 0x208) :
    poolWrite row cid a w s = some (.ok 0#64, poolGive cid (fieldOf 0 16 w) (fieldOf 16 6 w) s) := by
  simp [poolWrite, h]

theorem poolWrite_link (h : a - 0x50006000 = 0x20C) :
    poolWrite row cid a w s = some (.ok 0#64, poolLink cid (fieldOf 0 16 w) (fieldOf 16 16 w) s) := by
  simp [poolWrite, h]

theorem poolWrite_reclaim (h : a - 0x50006000 = 0x218) (hc : cid = 1) :
    poolWrite row cid a w s = some (.ok 0#64, poolReclaim (fieldOf 0 6 w) s) := by
  simp [poolWrite, h, isOne, hc]

theorem poolWrite_reclaim_denied (h : a - 0x50006000 = 0x218) (hc : cid ≠ 1) :
    poolWrite row cid a w s = some (.refused .deny, s) := by
  simp [poolWrite, h, isOne, hc]

end

theorem poolRead_alloc (h : a - 0x50006000 = 0x200) : poolRead cid a s = some (poolAlloc cid s) := by
  simp [poolRead, h]

section
variable {i h : Nat} {c : Nat}

theorem poolAlloc_of_free (hf : 32 < freeCount s) (hi : lowestFree s = some i) : poolAlloc cid s =
    (BitVec.ofNat 32 (handleOf i (s.setBuf i { s.buf i with st := .owned, owner := cid, next := none }) + 0x80000000),
      poolLevels (freeCount s) (s.setBuf i { s.buf i with st := .owned, owner := cid, next := none })) := by
  unfold poolAlloc
  rw [if_pos hf, hi]

theorem poolAlloc_of_few (hf : freeCount s ≤ 32) : poolAlloc cid s = (0x10000#32, s) := if_neg (Nat.not_lt.mpr hf)

theorem poolFree_of_none (hm : moveCheck cid h none s = none) : poolFree cid h s = moveAll freed (chain (h % 512) s) s := by
  unfold poolFree
  rw [hm]

theorem poolFree_of_some (hm : moveCheck cid h none s = some c) : poolFree cid h s = poolRefuse cid h c s := by
  unfold poolFree
  rw [hm]

variable {target : Nat}

theorem poolGive_of_none (hm : moveCheck cid h (some target) s = none) : poolGive cid h target s =
    moveAll (fun b => { b with st := .owned, owner := target }) (chain (h % 512) s) s := by
  unfold poolGive
  rw [hm]

theorem poolGive_of_some (hm : moveCheck cid h (some target) s = some c) : poolGive cid h target s = poolRefuse cid h c s := by
  unfold poolGive
  rw [hm]

variable {n : Nat}

theorem poolLink_of_first (hh : handleCheck cid h s = some c) : poolLink cid h n s = poolRefuse cid h c s := by
  unfold poolLink
  rw [hh]

theorem poolLink_of_second (hh : handleCheck cid h s = none) (hn : handleCheck cid n s = some c) :
    poolLink cid h n s = poolRefuse cid n c s := by
  unfold poolLink
  rw [hh, hn]

theorem poolLink_self (hh : handleCheck cid h s = none) :
    poolLink cid h h s = s.setBuf (h % 512) { s.buf (h % 512) with next := none } := by
  unfold poolLink
  rw [hh]
  exact if_pos rfl

/-- Buffer `i` may take chain `j` behind it (R281): it is a last one, `j` a first one, of another chain, and both together are no more
than 64. -/
abbrev Joins (i j : Nat) (s : State) : Prop :=
  (s.buf i).next = none ∧ predOf j s = none ∧ (chain j s).contains i = false ∧ predCount 64 i s + 1 + (chain j s).length ≤ 64

theorem joins_iff (i j : Nat) (s : State) : Joins i j s ↔ ¬((s.buf i).next.isSome ∨ (predOf j s).isSome ∨ (chain j s).contains i
    ∨ 64 < predCount 64 i s + 1 + (chain j s).length) := by
  simp only [Joins, not_or, Bool.not_eq_true, Option.isSome_eq_false_iff, Option.isNone_iff_eq_none, not_lt]

theorem poolLink_joined (hh : handleCheck cid h s = none) (hn : handleCheck cid n s = none) (hne : h ≠ n)
    (hj : Joins (h % 512) (n % 512) s) : poolLink cid h n s = s.setBuf (h % 512) { s.buf (h % 512) with next := some (n % 512) } := by
  unfold poolLink
  rw [hh, hn]
  exact (if_neg hne).trans (if_neg ((joins_iff ..).mp hj))

theorem poolLink_unjoined (hh : handleCheck cid h s = none) (hn : handleCheck cid n s = none) (hne : h ≠ n)
    (hj : ¬Joins (h % 512) (n % 512) s) : poolLink cid h n s = poolRefuse cid h 4 s := by
  unfold poolLink
  rw [hh, hn]
  exact (if_neg hne).trans (if_pos (not_not.mp (mt (joins_iff ..).mpr hj)))

end

/-! The commands, once the access is let through. -/

section
variable {cid : Cid} {s : State}

theorem exec_alloc (h : Admits cid false R.POOL_ALLOC.addr s) : exec (.alloc cid) s =
    .next (settle ((poolAlloc cid.toNat s.begin).2.answer (poolAlloc cid.toNat s.begin).1.toNat)) :=
  read_takes h (by decide +kernel) (by decide) ((specialReadPool (by decide)).trans (poolRead_alloc (by decide)))

theorem exec_poolFree (h : Admits cid true R.POOL_FREE.addr s) (n : BitVec 16) :
    exec (.poolFree cid n) s = .next (settle (poolFree cid.toNat n.toNat s.begin)) := by
  rw [← fieldOf_low n]
  exact write_takes (d := 0#64) h (by decide +kernel) (by decide) fun _ => (specialWritePool (by decide)).trans (poolWrite_free (by decide))

theorem exec_poolGive (h : Admits cid true R.POOL_GIVE.addr s) (n : BitVec 16) (target : Cid) :
    exec (.poolGive cid n target) s = .next (settle (poolGive cid.toNat n.toNat target.toNat s.begin)) := by
  have hrow := write_takes (d := 0#64) (w := BitVec.ofNat 32 (n.toNat + 65536 * target.toNat)) h (by decide +kernel) (by decide)
    fun _ => (specialWritePool (by decide)).trans (poolWrite_give (by decide))
  rw [fieldOf_low_pair n.isLt, fieldOf_target_pair n.isLt target.isLt] at hrow
  exact hrow

theorem exec_poolLink (h : Admits cid true R.POOL_LINK.addr s) (n m : BitVec 16) :
    exec (.poolLink cid n m) s = .next (settle (poolLink cid.toNat n.toNat m.toNat s.begin)) := by
  have hrow := write_takes (d := 0#64) (w := BitVec.ofNat 32 (n.toNat + 65536 * m.toNat)) h (by decide +kernel) (by decide)
    fun _ => (specialWritePool (by decide)).trans (poolWrite_link (by decide))
  rw [fieldOf_low_pair n.isLt, fieldOf_high_pair n.isLt m.isLt] at hrow
  exact hrow

theorem exec_poolReclaim (h : Admits cid true R.POOL_RECLAIM.addr s) (target : Cid) (hc : cid.toNat = 1) :
    exec (.poolReclaim cid target) s = .next (settle (poolReclaim target.toNat s.begin)) := by
  rw [← fieldOf_cid target]
  exact write_takes (d := 0#64) h (by decide +kernel) (by decide) fun _ => (specialWritePool (by decide)).trans (poolWrite_reclaim (by decide) hc)

theorem exec_poolReclaim_denied (h : Admits cid true R.POOL_RECLAIM.addr s) (target : Cid) (hc : cid.toNat ≠ 1) :
    exec (.poolReclaim cid target) s =
      .next (settle ((busErr { cid := cid.toNat } true R.POOL_RECLAIM.addr .deny s.begin).answerRefused Cause.deny.code)) :=
  write_denied h (by decide +kernel) (by decide) fun _ => (specialWritePool (by decide)).trans (poolWrite_reclaim_denied (by decide) hc)

variable {m : Fin 32} {d : DWord} {u : State} {c : Cause} {data : BitVec 16} {handle : Bool}

/-- A doorbell write that the checks let through. -/
abbrev BellAdmits (cid : Cid) (m : Fin 32) (s : State) : Prop :=
  (accessCheck { cid := cid.toNat } true (0x40007D00 + 16 * m.val) 4 s).toOption = some 11

theorem exec_mailboxPost (h : BellAdmits cid m s)
    (hx : bellWrite m cid.toNat 0 (postWord data handle) (bellServed cid.toNat s.begin) = (.ok d, u)) :
    exec (.mailboxPost cid m data handle) s = .next (settle u) :=
  congrArg (fun u => Host.Outcome.next (settle u)) (fabricWrite_bell m.isLt (s := s.begin) h hx)

theorem exec_mailboxPost_refused (h : BellAdmits cid m s)
    (hx : bellWrite m cid.toNat 0 (postWord data handle) (bellServed cid.toNat s.begin) = (.refused c, u)) :
    exec (.mailboxPost cid m data handle) s =
      .next (settle ((busErr { cid := cid.toNat } true (0x40007D00 + 16 * m.val) c u).answerRefused c.code)) :=
  congrArg (fun u => Host.Outcome.next (settle u)) (fabricWrite_bell_refused m.isLt (s := s.begin) h hx)

theorem exec_mailboxAck (h : BellAdmits cid m s)
    (hx : bellWrite m cid.toNat 0 0x40000000#32 (bellServed cid.toNat s.begin) = (.ok d, u)) :
    exec (.mailboxAck cid m) s = .next (settle u) :=
  congrArg (fun u => Host.Outcome.next (settle u)) (fabricWrite_bell m.isLt (s := s.begin) h hx)

end

/-- Settles O33: a doorbell write comes to the word's POST or ACK, a write of a pool register to the pool's operation, and each of these
goes by its check; a refusal writes no buffer, and freeing a list without repeats frees each of its buffers once. -/
theorem mailboxesAndBuffers : Obligations.MailboxesAndBuffers := by
  unfold Obligations.MailboxesAndBuffers
  refine ⟨fun cid m s h _ => ?_, ?_, ?_, ?_, ?_, ?_, ?_, ?_, ?_⟩
  · intro served refused
    have hshare : served.share = s.share := rfl
    refine ⟨fun data hw hf => ?_, fun data hw hf hc => ?_, fun data hw hf hl hh => ?_, fun data hd hw hf => ?_, fun hr hf => ?_,
      fun hr hf => ?_, fun hr hw => ?_, fun data hd hw hr => ?_⟩
    · exact exec_mailboxPost h ((bellWrite_post (s := served) hw).trans ((mbxPost_word (s := served) hf).trans
        (congrArg (Prod.mk _) (bellSet_local ..))))
    · have hin : ¬(58 ≤ cid.toNat ∧ cid.toNat ≤ 60) := by omega
      intro chain'
      refine ⟨fun c hm => ?_, fun hm => ?_⟩
      · rw [← moveCheck_congr hshare] at hm
        exact exec_mailboxPost_refused h ((bellWrite_post (s := served) hw).trans (mbxPost_unmoved (s := served) hf hin hm))
      · rw [← moveCheck_congr hshare] at hm
        have hchain : chain (data.toNat % 512) served = chain' := chain_congr hshare _
        rw [← hchain]
        exact exec_mailboxPost h ((bellWrite_post (s := served) hw).trans ((mbxPost_moved (s := served) hf hin hm).trans
          (congrArg (Prod.mk _) (bellSet_handle ..))))
    · exact exec_mailboxPost_refused h ((bellWrite_post (s := served) hw).trans (mbxPost_internal (s := served) hf ⟨hl, hh⟩))
    · exact exec_mailboxPost_refused h ((bellWrite_post (s := served) hw).trans (mbxPost_full (s := served) hf))
    · exact exec_mailboxAck h ((bellWrite_ack (s := served) hr).trans (congrArg (Prod.mk _) (mbxAck_full (s := served) hf)))
    · exact exec_mailboxAck h ((bellWrite_ack (s := served) hr).trans (congrArg (Prod.mk _) (mbxAck_empty (s := served) hf)))
    · exact exec_mailboxAck h (bellWrite_ack_other (s := served) hr)
    · exact exec_mailboxPost h (bellWrite_post_other (s := served) hw)
  · intro cid i s h hf hi u
    exact (exec_alloc h).trans (congrArg (fun r : Word × State => Host.Outcome.next (settle (r.2.answer r.1.toNat)))
      (poolAlloc_of_free (s := s.begin) hf hi))
  · intro cid s h hf
    exact (exec_alloc h).trans (congrArg (fun r : Word × State => Host.Outcome.next (settle (r.2.answer r.1.toNat)))
      (poolAlloc_of_few (s := s.begin) hf))
  · intro cid h s ha
    have hs : s.begin.share = s.share := rfl
    refine ⟨fun hm => ?_, fun c hm => ?_⟩
    · rw [exec_poolFree ha, poolFree_of_none ((moveCheck_congr hs ..).trans hm), chain_congr hs]
    · rw [exec_poolFree ha, poolFree_of_some ((moveCheck_congr hs ..).trans hm)]
  · intro cid target h s ha
    have hs : s.begin.share = s.share := rfl
    refine ⟨fun hm => ?_, fun c hm => ?_⟩
    · rw [exec_poolGive ha, poolGive_of_none ((moveCheck_congr hs ..).trans hm), chain_congr hs]
    · rw [exec_poolGive ha, poolGive_of_some ((moveCheck_congr hs ..).trans hm)]
  · intro cid h n s ha i j ends joins
    have hs : s.begin.share = s.share := rfl
    have hends : ∀ t, poolLink cid.toNat h.toNat n.toNat s.begin = t → ends t := fun t ht => by
      subst ht
      exact exec_poolLink ha h n
    have hjoins : Joins i j s.begin ↔ joins := by
      show Joins i j s.begin ↔ Joins i j s
      rw [Joins, Joins, buf_congr hs, predOf_congr hs, chain_congr hs, predCount_congr hs]
    refine ⟨fun c hh => hends _ (poolLink_of_first ((handleCheck_congr hs ..).trans hh)), fun hh => ?_⟩
    rw [← handleCheck_congr hs] at hh
    refine ⟨fun c hn => hends _ (poolLink_of_second hh ((handleCheck_congr hs ..).trans hn)), fun hn => ?_⟩
    rw [← handleCheck_congr hs] at hn
    refine ⟨fun he => ?_, fun hne hj => ?_, fun hne hj => ?_⟩
    · subst he
      exact hends _ (poolLink_self hh)
    · exact hends _ (poolLink_joined hh hn (mt BitVec.eq_of_toNat_eq hne) (hjoins.mpr hj))
    · exact hends _ (poolLink_unjoined hh hn (mt BitVec.eq_of_toNat_eq hne) (mt hjoins.mp hj))
  · intro cid target s ha
    exact ⟨fun hc => exec_poolReclaim ha target hc, fun hc => exec_poolReclaim_denied ha target hc⟩
  · exact fun cid h c i s => buf_congr (poolRefuse_share ..) i
  · exact fun l i s hl => buf_moveAll freed i l hl s

end Sys2Proof.Machine
end

section
/-!
PROOFS. The block routines of Yarrow, unit by unit, and the debug module.
-/
namespace Sys2Proof.Machine

variable {s t u : State}

/-! A routine runs unit by unit until its count is 0, its limit is reached, or an access of a unit stops it (R184 to R186). -/

section
variable {k : Nat} {limit : Option Nat}

theorem yBlock_of_stores (h : (drainAll t).yar.sb ≠ []) : yBlock k limit t = .busy (drainAll t) :=
  if_pos (by simpa using h)

theorem yBlock_of_empty (h : (drainAll t).yar.sb = []) :
    yBlock k limit t = blkRun k ((yReg 12 (drainAll t)).toNat + 1) limit (drainAll t) :=
  if_neg (by simp [h])

theorem blkRun_of_none_left (h : yReg 12 s = 0#32) (fuel : Nat) : blkRun k fuel limit s = .done (s.retired 4) := by
  cases fuel with
  | zero => rfl
  | succ fuel => exact if_pos h

variable {fuel : Nat}

theorem blkRun_of_limit (h : yReg 12 s ≠ 0#32) : blkRun k (fuel + 1) (some 0) s = .busy s := (if_neg h).trans (if_pos rfl)

/-- A unit whose accesses are all done leaves the rest to the next ones. -/
theorem blkRun_of_unit (h : yReg 12 s ≠ 0#32) (hl : limit ≠ some 0) {x : BlkUnit} (hx : blkAccesses k 20 (blkUnit k s) s = (.ok x, u)) :
    blkRun k (fuel + 1) limit s = blkRun k fuel (limit.map (· - 1)) (blkEnd k x u) := by
  refine (if_neg h).trans ((if_neg hl).trans ?_)
  dsimp only
  rw [hx]

theorem blkRun_of_fault (h : yReg 12 s ≠ 0#32) (hl : limit ≠ some 0) {c a f : Nat}
    (hx : blkAccesses k 20 (blkUnit k s) s = (.error (some (c, a, f)), u)) : blkRun k (fuel + 1) limit s = .done (yFault c f a u) := by
  refine (if_neg h).trans ((if_neg hl).trans ?_)
  dsimp only
  rw [hx]

theorem blkRun_of_wait (h : yReg 12 s ≠ 0#32) (hl : limit ≠ some 0)
    (hx : blkAccesses k 20 (blkUnit k s) s = (.error none, u)) : blkRun k (fuel + 1) limit s = .busy u := by
  refine (if_neg h).trans ((if_neg hl).trans ?_)
  dsimp only
  rw [hx]

end

theorem blkWrites_iff (k : Nat) (s : State) : blkWrites k s = true ↔ k < 2 ∨ yReg 10 s ≠ 0#32 := by
  unfold blkWrites
  simp

/-- The registers of a routine after a unit: the addresses advance, the count falls, and BCRC's sum takes the unit's bytes. -/
theorem blkEnd_eq (k : Fin 3) (x : BlkUnit) (u : State) :
    blkEnd k x u =
      (let n := BitVec.ofNat 32 x.n
       let a := if k.val < 2 ∨ yReg 10 u ≠ 0#32 then yPut 10 (yReg 10 u + n) u else u
       let b := if k = 1 then a else yPut 11 (yReg 11 a + n) a
       let c := yPut 12 (yReg 12 b - n) b
       if k = 2 then yPut 13 (x.data.foldl (blkCrcByte u.yar.poly) (yReg 13 u)) c else c) := by
  have h1 : (k.val = 1) = (k = 1) := propext (Fin.ext_iff (a := k) (b := 1)).symm
  have h2 : (k.val = 2) = (k = 2) := propext (Fin.ext_iff (a := k) (b := 2)).symm
  unfold blkEnd
  simp only [blkWrites_iff, h1, h2]

/-- The command of block routine `k`. -/
abbrev blockCmd (k : Fin 3) (n : Option Nat) : Instr := match k with
  | 0 => .bcopy n
  | 1 => .bfill n
  | 2 => .bcrc n

theorem Fetches.exec_block {k : Fin 3} {w : Word} (h : Fetches w 4 s t) (hi : yDecode w 4 = .block k.val) (n : Option Nat) :
    exec (blockCmd k n) s = .next (settle (yBlock k n t).state) :=
  match k with
  | 0 => h.exec_mine n hi rfl
  | 1 => h.exec_mine n hi rfl
  | 2 => h.exec_mine n hi rfl

/-! The pieces of a unit. -/

theorem sum_pieces : ∀ fuel a n, n ≤ fuel → ((pieces fuel a n).map Prod.snd).sum = n
  | 0, a, n, h => by
    rw [Nat.le_zero.mp h]
    rfl
  | fuel + 1, a, n, h => by
    unfold pieces
    split
    · next hn =>
      rw [hn]
      rfl
    · extract_lets z
      have hz : 1 ≤ z ∧ z ≤ n := by
        unfold z
        split
        · omega
        · split <;> omega
      rw [List.map_cons, List.sum_cons, sum_pieces fuel (a + z) (n - z) (by omega)]
      omega

/-- A unit's bytes at one side: in one access of 8 bytes, or in pieces. -/
theorem sum_cut {p : Prop} [Decidable p] {a n : Nat} (hp : p → n = 8) (hn : n ≤ 8) :
    ((if p then [(a, 8)] else pieces 8 a n).map Prod.snd).sum = n := by
  split
  · next h => rw [hp h]; rfl
  · exact sum_pieces 8 a n hn

section
variable {k : Fin 3}

/-- Where the unit begins, up to whose next 8-byte boundary it goes. -/
def unitBase (k : Fin 3) (s : State) : Nat := if k.val < 2 ∨ yReg 10 s ≠ 0#32 then (yReg 10 s).toNat else (yReg 11 s).toNat

theorem blkUnit_n (k : Fin 3) (s : State) : (blkUnit k s).n = min (yReg 12 s).toNat (8 - unitBase k s % 8) := by
  unfold blkUnit unitBase
  simp only [blkWrites_iff]
  split <;> rfl

theorem reads_of_fill (s : State) : (blkUnit (1 : Fin 3) s).reads = [] := rfl

theorem writes_of_sum (h : yReg 10 s = 0#32) : (blkUnit (2 : Fin 3) s).writes = [] := by
  have hw : blkWrites 2 s = false := Bool.eq_false_iff.mpr fun hw => ((blkWrites_iff ..).mp hw).elim (by decide) fun hne => hne h
  show (if blkWrites 2 s then _ else []) = []
  rw [hw]
  rfl

theorem reads_sum (hk : k ≠ 1) (s : State) : ((blkUnit k s).reads.map Prod.snd).sum = (blkUnit k s).n := by
  have hk' : ¬k.val = 1 := fun h => hk (Fin.ext h)
  unfold blkUnit
  dsimp only
  rw [if_neg hk']
  dsimp only
  split
  · exact sum_cut (fun hw => (of_decide_eq_true hw).1) (by omega)
  · exact sum_cut id (by omega)

theorem writes_sum (h : k.val < 2 ∨ yReg 10 s ≠ 0#32) : ((blkUnit k s).writes.map Prod.snd).sum = (blkUnit k s).n := by
  unfold blkUnit
  dsimp only
  rw [(blkWrites_iff ..).mpr h]
  split
  · exact sum_cut (fun hw => (of_decide_eq_true hw).1) (by omega)
  · exact sum_cut (fun hw => (of_decide_eq_true hw).1) (by omega)

end

/-! The debug module (R190). -/

theorem debugHalt_closed (h : debugOpen s = false) : debugHalt s = s := if_pos (by rw [h]; rfl)

theorem debugResume_closed (h : debugOpen s = false) : debugResume s = s := if_pos (by rw [h]; rfl)

theorem debugHalt_running (h : debugOpen s = true) (hr : s.yar.run = true) (hh : s.yar.dbg.halted = false) (hw : s.yar.wait = none) :
    debugHalt s = debugEnter 3 s := by
  simp [debugHalt, h, hr, hh, hw]

theorem debugHalt_waiting (h : debugOpen s = true) (hr : s.yar.run = true) (hh : s.yar.dbg.halted = false)
    (hw : s.yar.wait.isSome = true) : debugHalt s = s.updDbg fun d => { d with haltReq := true } := by
  simp [debugHalt, h, hr, hh, hw]

theorem debugHalt_held (h : debugOpen s = true) (hr : s.yar.run = false) :
    debugHalt s = s.updDbg fun d => { d with resetHalt := true } := by
  simp [debugHalt, h, hr]

theorem debugResume_halted (h : debugOpen s = true) (hh : s.yar.dbg.halted = true) (hp : progBusy s = false) :
    debugResume s = s.updYar fun y =>
      { y with pc := y.dbg.dpc, mach := fieldOf 0 2 y.dbg.dcsr == 3, dbg := { y.dbg with halted := false, cmderr := 0 } } :=
  if_neg (by simp [h, hh, hp])

/-- A running Yarrow with nothing pending steps; `yStep` of such a state looks at the trigger at PC first. -/
theorem yStep_of_trigger {act : Nat} (mine : YInstr → Bool) (limit : Option Nat) (hr : s.yar.run = true) (hh : s.yar.dbg.halted = false)
    (hw : s.yar.wait = none) (hi : s.yar.wfi = false) (hs : s.yar.dbg.dcsr.getLsbD 2 = false)
    (ht : triggerHit 2 s.yar.pc.toNat s = some act) : yStep mine limit s = triggerAct act s := by
  have hs' : s.yar.dbg.dcsr[2] = false := hs
  unfold yStep
  simp [hr, hh, hw, hi, hs', ht]

/-- A single step: what the instruction leaves, in Debug Mode. -/
theorem yStep_of_single {w : Word} {len : Nat} {mine : YInstr → Bool} (limit : Option Nat) (hr : s.yar.run = true)
    (hh : s.yar.dbg.halted = false) (hw : s.yar.wait = none) (hi : s.yar.wfi = false) (hs : s.yar.dbg.dcsr.getLsbD 2 = true)
    (ht : triggerHit 2 s.yar.pc.toNat s = none) (hf : yFetch s = (.ok (w, len), t)) (hm : mine (yDecode w len) = true)
    (hx : yExec w len (yDecode w len) limit t = .done u) (hu : u.yar.dbg.halted = false) :
    yStep mine limit s = debugEnter 4 u := by
  unfold yStep
  simp [hr, hh, hw, hi, hs, ht, hf, hm, hx, hu]

@[simp] theorem yPut_dbg (i : Nat) (v : Word) (s : State) : (yPut i v s).yar.dbg = s.yar.dbg := by
  unfold yPut
  split <;> rfl

theorem dbg_retireTo (next : Word) (s : State) : (retireTo next s).yar.dbg = s.yar.dbg := by
  unfold retireTo
  extract_lets v
  cases v.yar.vet.path with
  | nil => rfl
  | cons m rest =>
    dsimp only
    split
    · rfl
    · rfl

section
variable {c : DbgCmd}

theorem abstractCommand_running (h : debugOpen s = true) (hh : s.yar.dbg.halted = false) :
    abstractCommand c s = s.updDbg fun d => { d with cmderr := 4 } := by
  simp [abstractCommand, h, hh]

variable {r : BitVec 16} {i : Nat}

theorem abstractCommand_readReg (h : debugOpen s = true) (hh : s.yar.dbg.halted = true) (hp : progBusy s = false) (hi : i < 32)
    (hr : r.toNat = 0x1000 + i) :
    abstractCommand (.readReg r) s = (s.updDbg fun d => { d with cmderr := 0 }).answer (yReg i s).toNat := by
  have hn : 0x1000 + i - 0x1000 = i := by omega
  unfold abstractCommand
  simp only [h, hh, hp, hr, hn, Bool.not_true, Bool.false_eq_true, if_false, if_neg (show ¬0x1000 + i < 0x1000 by omega),
    if_pos (show 0x1000 + i < 0x1020 by omega)]
  rfl

theorem abstractCommand_writeReg (h : debugOpen s = true) (hh : s.yar.dbg.halted = true) (hp : progBusy s = false) (hi : i < 32)
    (hr : r.toNat = 0x1000 + i) (v : Word) :
    abstractCommand (.writeReg r v) s = yPut i v (s.updDbg fun d => { d with cmderr := 0 }) := by
  have hn : 0x1000 + i - 0x1000 = i := by omega
  unfold abstractCommand
  simp only [h, hh, hp, hr, hn, Bool.not_true, Bool.false_eq_true, if_false, if_neg (show ¬0x1000 + i < 0x1000 by omega),
    if_pos (show 0x1000 + i < 0x1020 by omega)]

end

section
variable {write : Bool} {a v : Word} {sz : Fin 3}

theorem systemBus_ok (h : debugOpen s = true) {d : DWord}
    (hf : fabric .sba { cid := 62 } write a.toNat (2 ^ sz.val) (v.toNat % 256 ^ 2 ^ sz.val) s = (.ans (.ok d), t)) :
    systemBus write a sz v s = t.answer d.toNat := by
  unfold systemBus
  rw [if_neg (by simp [h])]
  dsimp only
  rw [hf]

theorem systemBus_refused (h : debugOpen s = true) {c : Cause}
    (hf : fabric .sba { cid := 62 } write a.toNat (2 ^ sz.val) (v.toNat % 256 ^ 2 ^ sz.val) s = (.ans (.refused c), t)) :
    systemBus write a sz v s = (t.answerRefused c.code).updDbg fun d => { d with cmderr := 5 } := by
  unfold systemBus
  rw [if_neg (by simp [h])]
  dsimp only
  rw [hf]
  rfl

end

/-- Settles O21: a routine's command executes `yBlock`, whose loop runs one unit at a time; the debug module's operations by the branches
of `debugHalt`, `debugResume`, `abstractCommand` and `systemBus`. -/
theorem yarrowBlocksAndDebug : Obligations.YarrowBlocksAndDebug := by
  unfold Obligations.YarrowBlocksAndDebug
  refine ⟨⟨fun k units w s t h hi => ?_, fun k s _ => ?_⟩, fun s ho => ⟨?_, ?_, ?_, ?_⟩, fun s ho => ⟨?_, ?_⟩, ?_, ?_, ?_, ?_, ?_⟩
  · intro v run
    have hrun : ∀ n, run n = .next (settle (yBlock k n t).state) := fun n => h.exec_block hi n
    have hfuel : yReg 12 v ≠ 0#32 → ∃ f, (yReg 12 v).toNat = f + 1 := fun hne =>
      Nat.exists_eq_succ_of_ne_zero fun h0 => hne (BitVec.eq_of_toNat_eq h0)
    refine ⟨fun hsb => ?_, fun hsb h0 => ?_, fun hsb hne => ?_, fun c a f u hsb hne hl hh hx => ?_, fun u hsb hne hl hx => ?_,
      fun x u hsb hne hx => ?_⟩
    · rw [hrun, yBlock_of_stores hsb]
      rfl
    · rw [hrun, yBlock_of_empty hsb, blkRun_of_none_left h0]
      rfl
    · rw [hrun, yBlock_of_empty hsb, blkRun_of_limit hne]
      rfl
    · rw [hrun, yBlock_of_empty hsb, blkRun_of_fault hne hl hx, ← yFault_exception hh]
      rfl
    · rw [hrun, yBlock_of_empty hsb, blkRun_of_wait hne hl hx]
      rfl
    · intro n a b c e
      have hend : blkEnd k x u = e := blkEnd_eq k x u
      refine ⟨fun hleft => ?_, fun hnone hl => ?_⟩
      · obtain ⟨f, hf⟩ := hfuel hne
        rw [hrun, yBlock_of_empty hsb, blkRun_of_unit hne (by decide) hx, hend, hf]
        exact congrArg (fun o : YOut => Host.Outcome.next (settle o.state)) (blkRun_of_limit hleft)
      · rw [hrun, yBlock_of_empty hsb, blkRun_of_unit hne hl hx, hend, blkRun_of_none_left hnone]
        rfl
  · intro x base
    refine ⟨blkUnit_n k s, fun hk => ?_, fun hk h0 => ?_, fun hk => reads_sum hk s, fun hw => writes_sum hw⟩
    · subst hk
      exact reads_of_fill s
    · subst hk
      exact writes_of_sum h0
  · exact fun hr hh hw => congrArg Host.Outcome.next (debugHalt_running (s := s.begin) ho hr hh hw)
  · exact fun hr hh hw => congrArg Host.Outcome.next (debugHalt_waiting (s := s.begin) ho hr hh hw)
  · exact fun hr => congrArg Host.Outcome.next (debugHalt_held (s := s.begin) ho hr)
  · exact fun hh hp => congrArg Host.Outcome.next (debugResume_halted (s := s.begin) ho hh hp)
  · exact congrArg Host.Outcome.next (debugHalt_closed (s := s.begin) ho)
  · exact congrArg Host.Outcome.next (debugResume_closed (s := s.begin) ho)
  · intro w len rd op a b s t hr hh hw hi hs ht hf hft hth hd
    have hfetch : yFetch s.begin = (.ok (w, len), t) := Prod.ext (ok_of_toOption hf) hft
    have hpc : (yPut rd (aluVal op (srcVal a t) (srcVal b t)) t).retired len =
        retireTo (yNext len t) (yPut rd (aluVal op (srcVal a t) (srcVal b t)) t) := by
      unfold State.retired yNext
      rw [yPut_pc]
    rw [hpc]
    refine congrArg (fun u => Host.Outcome.next (settle u)) (yStep_of_single (s := s.begin) none hr hh hw hi hs ht hfetch ?_ ?_ ?_)
    · rw [hd]
      rfl
    · rw [hd]
      rfl
    · rw [dbg_retireTo, yPut_dbg, hth]
  · intro act s hr hh hw hi hs ht
    refine congrArg (fun u => Host.Outcome.next (settle u)) ((yStep_of_trigger (s := s.begin) _ none hr hh hw hi hs ht).trans ?_)
    unfold triggerAct
    rw [yTrap_exception (by exact hh)]
    rfl
  · intro i v s ho hh hp
    have hr : (BitVec.ofNat 16 (0x1000 + i.val)).toNat = 0x1000 + i.val := by
      rw [BitVec.toNat_ofNat]
      omega
    exact ⟨congrArg (fun u => Host.Outcome.next (settle u)) (abstractCommand_readReg (s := s.begin) ho hh hp i.isLt hr),
      congrArg (fun u => Host.Outcome.next (settle u)) (abstractCommand_writeReg (s := s.begin) ho hh hp i.isLt hr v)⟩
  · exact fun c s ho hh => congrArg (fun u => Host.Outcome.next (settle u)) (abstractCommand_running (s := s.begin) ho hh)
  · intro write a v sz s ho
    exact ⟨fun d t hf => congrArg (fun u => Host.Outcome.next (settle u)) (systemBus_ok (s := s.begin) ho hf),
      fun c t hf => congrArg (fun u => Host.Outcome.next (settle u)) (systemBus_refused (s := s.begin) ho hf)⟩

end Sys2Proof.Machine
end

section
/-!
PROOFS. A start of a DMA channel by CID 0: against the first clause of O12.
-/
namespace Sys2Proof.Machine

/-- The reset access rules let CID 0 write the control word of DMA channel 0, which CID 1 owns. -/
theorem admits_dmaCtl_reset : Admits 0 true (R.DMA_CHnCTL 0).addr State.reset := by decide +kernel

/-- What the start by CID 0 comes to: the DMA block's rule takes CID 1 and the owner only, and denies it. -/
theorem dmaStart_of_zero :
    (settle (fabricWrite 0 (R.DMA_CHnCTL 0).addr 1#32 State.reset.begin)).get (F.DMA_CHnCTL_EN 0) = 0 := by decide +kernel

/-- What the statement says it comes to. -/
def dmaStarted : State :=
  let u := ((State.reset.begin.set (F.DMA_CHnCTL_EN 0) 1).set (F.DMA_CHnSTAT_BUSY 0) 1).set (F.DMA_CHnSTAT_CODE 0) 0
  (u.set (F.DMA_CHnCUR_ADDR 0) (u.get (F.DMA_CHnDESC_ADDR 0))).setDma 0 { fetching := true }

theorem dmaStarted_on : dmaStarted.get (F.DMA_CHnCTL_EN 0) = 1 := by decide +kernel

/-- Refutes O12: its first clause lets CID 0 start a channel that CID 1 owns, and the channel's registers refuse it with DENY. -/
theorem not_dmaChannels : ¬ Obligations.DmaChannels := by
  unfold Obligations.DmaChannels
  rintro ⟨⟨hstart, -⟩, -⟩
  have hends := hstart 0 0 State.reset admits_dmaCtl_reset (Or.inl (by decide)) (by decide +kernel)
  have hsame : settle (fabricWrite 0 (R.DMA_CHnCTL 0).addr 1#32 State.reset.begin) = dmaStarted := Host.Outcome.next.inj hends
  have hon := dmaStart_of_zero.symm.trans ((congrArg (fun u : State => u.get (F.DMA_CHnCTL_EN 0)) hsame).trans dmaStarted_on)
  exact absurd hon (by decide)

end Sys2Proof.Machine
end

section
/-!
PROOFS. What the steps of the scheduler, the governor, the policy sequencer and a leg leave of a carrier group.
-/
namespace Sys2Proof.Machine

/-- A register of a carrier group (R293, R319): of the first 512 bytes of a PWM block. -/
abbrev GroupReg (r : Reg) : Prop :=
  0x50008000 ≤ r.addr ∧ r.addr < 0x50008200 ∨ 0x50009000 ≤ r.addr ∧ r.addr < 0x50009200

/-- `t` has the groups, their registers, memory and Yarrow of `s`. -/
structure GroupKept (s t : State) : Prop where
  word : ∀ r : Reg, GroupReg r → t.word r = s.word r
  grp : t.pwm.grp = s.pwm.grp
  mem : t.mem = s.mem
  yar : t.yar = s.yar

namespace GroupKept

variable {s t u : State}

theorem refl (s : State) : GroupKept s s := ⟨fun _ _ => rfl, rfl, rfl, rfl⟩

theorem trans (h : GroupKept s t) (k : GroupKept t u) : GroupKept s u :=
  ⟨fun r hr => (k.word r hr).trans (h.word r hr), k.grp.trans h.grp, k.mem.trans h.mem, k.yar.trans h.yar⟩

theorem get (h : GroupKept s t) {f : Fld} (hf : GroupReg f.reg) : t.get f = s.get f := by
  rw [State.get, State.get, h.word f.reg hf]

theorem ite {c : Prop} [Decidable c] (ht : GroupKept s t) (hu : GroupKept s u) : GroupKept s (if c then t else u) := by
  split
  · exact ht
  · exact hu

theorem foldl {β : Type} {f : State → β → State} :
    ∀ (l : List β), (∀ u, ∀ b ∈ l, GroupKept s u → GroupKept s (f u b)) → ∀ {t}, GroupKept s t → GroupKept s (l.foldl f t)
  | [], _, _, h => h
  | b :: l, hf, _, h => foldl l (fun u x hx => hf u x (List.mem_cons_of_mem _ hx)) (hf _ b List.mem_cons_self h)

variable (h : GroupKept s t)
include h

theorem forEach {n : Nat} {f : Nat → State → State} (hf : ∀ i < n, ∀ u, GroupKept s u → GroupKept s (f i u)) :
    GroupKept s (Machine.forEach n f t) := foldl _ (fun u i hi => hf i (List.mem_range.mp hi) u) h

theorem setWord {q : Reg} (hq : ¬GroupReg q) (w : Word) : GroupKept s (t.setWord q w) :=
  ⟨fun r hr => (State.word_setWord_other t w fun heq => hq (by rw [GroupReg, ← heq]; exact hr)).trans (h.word r hr), h.grp, h.mem, h.yar⟩

theorem set {f : Fld} (hf : ¬GroupReg f.reg) (v : Nat) : GroupKept s (t.set f v) := setWord h hf _

theorem raise (n : Nat) : GroupKept s (t.raise n) :=
  ⟨fun r hr => ((routerOnly_raise t n).word r (by simp only [GroupReg] at hr; omega)).trans (h.word r hr),
    (congrArg Pwm.grp (State.raise_pwm t n)).trans h.grp, (State.raise_mem t n).trans h.mem, (State.raise_yar t n).trans h.yar⟩

theorem setSched (c : Fin 2) (f : Sched → Sched) : GroupKept s (t.updSched c f) := ⟨h.word, h.grp, h.mem, h.yar⟩
theorem setGov (x : Gov) : GroupKept s { t with gov := x } := ⟨h.word, h.grp, h.mem, h.yar⟩
theorem setPol (x : Pol) : GroupKept s { t with pol := x } := ⟨h.word, h.grp, h.mem, h.yar⟩
theorem setTb (x : Tb) : GroupKept s { t with tb := x } := ⟨h.word, h.grp, h.mem, h.yar⟩
theorem setLegs (v : Vector Leg 16) : GroupKept s { t with pwm := { t.pwm with leg := v } } := ⟨h.word, h.grp, h.mem, h.yar⟩

/-! The governor (R435 to R438). -/

theorem govEnds : GroupKept s (govEnds t) :=
  ite (raise (set (set h (by decide) _) (by decide) _) _) (set (set h (by decide) _) (by decide) _)

theorem govWindow : GroupKept s (govWindow t) := set (setGov h _) (by decide) _

theorem govTarget (v : Nat) : GroupKept s (govTarget v t) := govWindow (govEnds (set (ite h (setGov h _)) (by decide) _))

theorem govEmergency : GroupKept s (govEmergency t) :=
  raise (govTarget (set (set (setGov h _) (by decide) _) (by decide) _) _) _

theorem govWindowEnd : GroupKept s (govWindowEnd t) := by
  unfold Machine.govWindowEnd
  extract_lets u v w
  have hu : GroupKept s u := by
    show GroupKept s (match t.gov.minSlk with
      | some v => t.setInt F.SYS_GOVSLK_MIN v
      | none => t)
    cases t.gov.minSlk with
    | none => exact h
    | some v => exact set h (by decide) _
  exact ite (govTarget (ite (set hu (by decide) _) hu) _) (govWindow hu)

theorem govInstance (c : Fin 2) (v : Int) (lsper : Nat) : GroupKept s (govInstance c v lsper t) :=
  ite h (ite (govEmergency h) (ite (govTarget (ite (set h (by decide) _) h) _)
    (ite (govWindowEnd (set (setGov h _) (by decide) _)) (set (setGov h _) (by decide) _))))

/-! A leg's latch and its brake (R311, R316). -/

theorem legStat {l : Nat} {f : Fld} (hf : f.reg = R.PWM_LnSTAT (l / 8) (l % 8)) (v : Nat) : GroupKept s (t.set f v) := by
  refine set h ?_ v
  simp only [hf, GroupReg, R.PWM_LnSTAT]
  omega

theorem legAcc {l : Nat} (w : Word) : GroupKept s (t.setWord (R.PWM_LnACC (l / 8) (l % 8)) w) := by
  refine setWord h ?_ w
  simp only [GroupReg, R.PWM_LnACC]
  omega

theorem legLatch (l c x : Nat) : GroupKept s (legLatch l c x t) :=
  ite h (raise (legStat (legStat (legStat (legAcc (setLegs h _) _) rfl _) rfl _) rfl _) _)

theorem legFault (l c x : Nat) : GroupKept s (legFault l c x t) := ite (legLatch h l c x) h

theorem legBrake (l n : Nat) : GroupKept s (legBrake l n t) :=
  raise (legStat (legStat (legStat (legAcc (setLegs h _) _) rfl _) rfl _) rfl _) _

theorem legsFault (p : Nat → Bool) (c : Nat) : GroupKept s (legsFault p c t) :=
  forEach h fun l _ _ hu => ite (legFault hu l c 0) hu

/-! The policy sequencer (R440 to R442). -/

theorem polMark (b : Nat) (on : Bool) : GroupKept s (polMark b on t) :=
  ite (set (set h (by decide) _) (by decide) _) (set h (by decide) _)

theorem polUpdate : GroupKept s (polUpdate t) := by
  unfold Machine.polUpdate
  extract_lets live act0 esc act der act1 der1 p u1 u2 u3 q u4
  have h2 : GroupKept s u2 := set (set (setPol h _) (by decide) _) (by decide) _
  have h3 : GroupKept s u3 := ite (raise h2 _) h2
  have h4 : GroupKept s u4 := ite (set (setPol h3 _) (by decide) _) (ite (set (setPol h3 _) (by decide) _) h3)
  exact ite (legsFault h4 _ _) h4

theorem polSet (b : Nat) (on : Bool) : GroupKept s (polSet b on t) := polUpdate (polMark h b on)

/-! The loop schedulers (R128 to R133). -/

theorem schedSlack (c : Fin 2) (v : Int) : GroupKept s (schedSlack c v t) := govInstance (setSched h c _) c v _

theorem schedMet (c : Fin 2) (d : Int) : GroupKept s (schedMet c d t) := ite (schedSlack (setSched h c _) c _) (schedSlack h c _)

theorem deadlineFault (c : Fin 2) (g : Nat) : GroupKept s (deadlineFault c g t) := by
  have hlegs := forEach h (n := 16) (f := fun l s =>
    if legOwnedBy c.val l s && legGroup l s == g && (legState l s == 1 || legState l s == 2) then
      if natBit (polByte 0x0E t) 0 && (s.get (F.PWM_LnCFG_BRAKE (l / 8) (l % 8)) == 1 || s.get (F.PWM_LnCFG_BRAKE (l / 8) (l % 8)) == 2) then
        Machine.legBrake l (groupNow g s) s
      else Machine.legFault l 3 0 s
    else s) fun l _ _ hu => ite (ite (legBrake hu l _) (legFault hu l _ _)) hu
  exact ite (polSet (setPol hlegs _) _ _) hlegs

theorem schedMiss (c : Fin 2) : GroupKept s (schedMiss c t) := by
  unfold Machine.schedMiss
  dsimp only
  split
  · exact h
  · exact ite (deadlineFault (schedSlack (setSched h c _) c _) c _) (schedSlack (setSched h c _) c _)

theorem schedShadow (c : Fin 2) (g : Nat) : GroupKept s (schedShadow c g t) := by
  unfold Machine.schedShadow
  extract_lets x due keep u v
  have hv : GroupKept s v := foldl _ (fun w _ _ hw => schedMet hw c _) (setSched h c _)
  clear_value v
  split
  · exact hv
  · exact ite hv (ite (schedMiss (setSched hv c _) c) (setSched hv c _))

theorem schedCarrier (c : Fin 2) (g : Nat) (peak : Bool) : GroupKept s (schedCarrier c g peak t) :=
  ite h (ite (setSched h c _) (setSched (setSched h c _) c _))

/-! The shadow values of a leg (R306). -/

theorem legLoad (l perT : Nat) (perNew : Bool) : GroupKept s (legLoad l perT perNew t) := by
  have hclear (u : State) (hu : GroupKept s u) (p : Prop) [Decidable p] :
      GroupKept s (if p then u.setWord (R.PWM_LnACC (lb l) (li l)) 0#32 else u) := ite (legAcc hu _) hu
  unfold Machine.legLoad
  extract_lets x clear
  split
  · exact hclear t h _
  · exact ite (legStat (setLegs (hclear t h _) _) rfl _) (hclear _ (setLegs h _) _)

end GroupKept

end Sys2Proof.Machine
end

section
/-!
PROOFS. The carrier events of a group (R293, R306) and its trigger compares (R313, R314).
-/
namespace Sys2Proof.Machine

/-- `t` has the control word, the half, the start of the period and the other groups of `s`, and its memory and Yarrow. -/
structure CarrierStep (g : Fin 4) (s t : State) : Prop where
  gctl : t.word (R.PWM_GCTL (gb g) (gi g)) = s.word (R.PWM_GCTL (gb g) (gi g))
  half : t.get (F.PWM_GSTAT_HALF (gb g) (gi g)) = s.get (F.PWM_GSTAT_HALF (gb g) (gi g))
  zeroAt : (t.grp g).zeroAt = (s.grp g).zeroAt
  others : ∀ h : Fin 4, h ≠ g → t.grp h = s.grp h
  mem : t.mem = s.mem
  yar : t.yar = s.yar

theorem groupReg_of_group (g : Fin 4) : GroupReg (R.PWM_GCTL (gb g) (gi g)) ∧ GroupReg (R.PWM_GSTAT (gb g) (gi g)) := by
  have hg := g.isLt
  simp only [GroupReg, R.PWM_GCTL, R.PWM_GSTAT, gb, gi]
  omega

theorem grpIx_ne {g h : Fin 4} (hne : h ≠ g) : grpIx h ≠ grpIx g := by
  rw [grpIx_fin, grpIx_fin]
  exact hne

namespace CarrierStep

variable {g : Fin 4} {s t u : State}

theorem refl (s : State) : CarrierStep g s s := ⟨rfl, rfl, rfl, fun _ _ => rfl, rfl, rfl⟩

theorem ite {c : Prop} [Decidable c] (ht : CarrierStep g s t) (hu : CarrierStep g s u) : CarrierStep g s (if c then t else u) := by
  split
  · exact ht
  · exact hu

variable (h : CarrierStep g s t)
include h

theorem kept (k : GroupKept t u) : CarrierStep g s u where
  gctl := (k.word _ (groupReg_of_group g).1).trans h.gctl
  half := (k.get (groupReg_of_group g).2).trans h.half
  zeroAt := (congrArg (fun v : Vector Grp 4 => (v.get (grpIx g)).zeroAt) k.grp).trans h.zeroAt
  others := fun i hi => (congrArg (fun v : Vector Grp 4 => v.get (grpIx i)) k.grp).trans (h.others i hi)
  mem := k.mem.trans h.mem
  yar := k.yar.trans h.yar

theorem setGrp {x : Grp} (hx : x.zeroAt = (t.grp g).zeroAt) : CarrierStep g s (t.setGrp g x) where
  gctl := h.gctl
  half := h.half
  zeroAt := (congrArg Grp.zeroAt (grp_setGrp_same x)).trans (hx.trans h.zeroAt)
  others := fun i hi => (grp_setGrp_other (grpIx_ne hi) x).trans (h.others i hi)
  mem := h.mem
  yar := h.yar

theorem setStat {lo wid : Nat} (h32 : lo + wid ≤ 32) (hd : lo + wid ≤ 2 ∨ 3 ≤ lo) (v : Nat) :
    CarrierStep g s (t.set ⟨R.PWM_GSTAT (gb g) (gi g), lo, wid⟩ v) where
  gctl := (t.word_set_other (f := ⟨R.PWM_GSTAT (gb g) (gi g), lo, wid⟩)
    (by simp only [R.PWM_GCTL, R.PWM_GSTAT]; omega) v).trans h.gctl
  half := (State.get_set_beside t (f := ⟨R.PWM_GSTAT (gb g) (gi g), lo, wid⟩) (g := F.PWM_GSTAT_HALF (gb g) (gi g)) rfl h32
    (by simp only [F.PWM_GSTAT_HALF]; omega) v).trans h.half
  zeroAt := h.zeroAt
  others := h.others
  mem := h.mem
  yar := h.yar

theorem setErr (v : Int) : CarrierStep g s (t.setInt (F.PWM_CLERR_ERR (gb g) (gi g)) v) where
  gctl := (t.word_set_other (f := F.PWM_CLERR_ERR (gb g) (gi g))
    (by simp only [R.PWM_GCTL, F.PWM_CLERR_ERR, R.PWM_CLERR]; omega) _).trans h.gctl
  half := (State.get_set_other t (f := F.PWM_CLERR_ERR (gb g) (gi g)) (g := F.PWM_GSTAT_HALF (gb g) (gi g))
    (by simp only [F.PWM_GSTAT_HALF, R.PWM_GSTAT, F.PWM_CLERR_ERR, R.PWM_CLERR]; omega) _).trans h.half
  zeroAt := h.zeroAt
  others := h.others
  mem := h.mem
  yar := h.yar

theorem raise (n : Nat) : CarrierStep g s (t.raise n) := kept h ((GroupKept.refl t).raise n)

theorem shadowLoad : CarrierStep g s (shadowLoad g t) := by
  unfold Machine.shadowLoad
  extract_lets gr legs n refuse n' repeats u1 u2 u3 u4 u5 u6
  have h1 : CarrierStep g s u1 := setGrp h rfl
  have h2 : CarrierStep g s u2 := ite (setStat h1 (by decide) (by decide) _) h1
  have h3 : CarrierStep g s u3 := kept h2 (GroupKept.foldl _ (fun _ l _ hu => hu.legLoad l _ _) (.refl u2))
  have h4 : CarrierStep g s u4 := setStat h3 (by decide) (by decide) _
  have h5 : CarrierStep g s u5 := ite (raise h4 _) h4
  have h6 : CarrierStep g s u6 := ite (raise h5 _) h5
  exact kept h6 (((GroupKept.refl u6).schedShadow 0 g).schedShadow 1 g)

end CarrierStep

section
variable {g : Fin 4} {s t : State}

theorem perAct_raise (g n : Nat) (s : State) : ((s.raise n).grp g).perAct = (s.grp g).perAct :=
  congrArg (fun p : Pwm => (p.grp.get (grpIx g)).perAct) (State.raise_pwm s n)

theorem perAct_setGrp {n : Nat} {x : Grp} (hx : x.perAct = n) (s : State) : ((s.setGrp g x).grp g).perAct = n :=
  (congrArg Grp.perAct (grp_setGrp_same x)).trans hx

theorem perAct_locked {p : Prop} [Decidable p] (f : Fld) (b : Bool) (n g : Nat) (s : State) :
    ((if p then s else (s.setB f b).raise n).grp g).perAct = (s.grp g).perAct := by
  split
  · rfl
  · exact perAct_raise ..

/-- Chain-locked steering leaves the period of the group. -/
theorem chainSteer_step (perT : Nat) (s : State) :
    CarrierStep g s (chainSteer g perT s).2 ∧ ((chainSteer g perT s).2.grp g).perAct = (s.grp g).perAct := by
  unfold chainSteer
  extract_lets gr step r e trim n u1 good bad was lock old u2 u3
  split
  · unfold clDrop
    extract_lets v
    have hv : CarrierStep g s v := (CarrierStep.refl s).setGrp rfl
    have hper : (v.grp g).perAct = (s.grp g).perAct := perAct_setGrp rfl s
    split
    · have hdrop : CarrierStep g s (v.set (F.PWM_GSTAT_CLLOCKED (gb g) (gi g)) 0) := hv.setStat (by decide) (by decide) 0
      exact ⟨hdrop.raise _, (perAct_raise ..).trans hper⟩
    · exact ⟨hv, hper⟩
  · have h1 : CarrierStep g s u1 := (CarrierStep.refl s).setErr _
    have h2 : CarrierStep g s u2 := h1.setGrp rfl
    have hper : (u2.grp g).perAct = (s.grp g).perAct := perAct_setGrp rfl u1
    exact ⟨h2.ite ((h2.setStat (by decide) (by decide) _).raise _), (perAct_locked ..).trans hper⟩

theorem chainSteer_unlocked (perT : Nat) (h : s.on (F.PWM_GCTL_CLOCK (gb g) (gi g)) = false) : (chainSteer g perT s).1 = 0 := by
  unfold chainSteer clSteers
  rw [if_pos (by rw [h]; rfl)]

theorem perTaps_congr (h : t.word (R.PWM_GCTL (gb g) (gi g)) = s.word (R.PWM_GCTL (gb g) (gi g))) (per : Nat) :
    perTaps g per t = perTaps g per s := by
  unfold perTaps prescaler State.get
  rw [show (F.PWM_GCTL_PRESC (gb g) (gi g)).reg = R.PWM_GCTL (gb g) (gi g) from rfl, h]

theorem on_gctl_congr (h : t.word (R.PWM_GCTL (gb g) (gi g)) = s.word (R.PWM_GCTL (gb g) (gi g))) {f : Fld}
    (hf : f.reg = R.PWM_GCTL (gb g) (gi g)) : t.on f = s.on f := by
  unfold State.on State.get
  rw [hf, h]

/-- What a zero event leaves (R293): the period that ended is counted, the next one is the period in force, trimmed where the group steers,
and nothing of the other groups, of memory and of Yarrow is touched. -/
theorem zeroEvent_group (g : Fin 4) (s : State) :
    ((zeroEvent g s).grp g).zeroAt = (s.grp g).zeroAt + (s.grp g).len ∧
    ((zeroEvent g s).grp g).perT = perTaps g ((zeroEvent g s).grp g).perAct (zeroEvent g s) ∧
    (zeroEvent g s).get (F.PWM_GSTAT_HALF (gb g) (gi g)) = 0 ∧
    ((zeroEvent g s).grp g).upDown = !s.on (F.PWM_GCTL_MODE (gb g) (gi g)) ∧
    (s.on (F.PWM_GCTL_CLOCK (gb g) (gi g)) = false → ((zeroEvent g s).grp g).len = ((zeroEvent g s).grp g).perT) ∧
    (∀ h : Fin 4, h ≠ g → (zeroEvent g s).grp h = s.grp h) ∧ (zeroEvent g s).mem = s.mem ∧ (zeroEvent g s).yar = s.yar := by
  unfold zeroEvent
  extract_lets gr s1 s2 s3 s4 perT r old s5 s6 tb
  have hgctl : s2.word (R.PWM_GCTL (gb g) (gi g)) = s.word (R.PWM_GCTL (gb g) (gi g)) :=
    State.word_set_other s1 (f := F.PWM_GSTAT_HALF (gb g) (gi g)) (r := R.PWM_GCTL (gb g) (gi g))
      (by simp only [R.PWM_GCTL, F.PWM_GSTAT_HALF, R.PWM_GSTAT]; omega) 0
  have hhalf : s2.get (F.PWM_GSTAT_HALF (gb g) (gi g)) = 0 :=
    State.get_set_same s1 (f := F.PWM_GSTAT_HALF (gb g) (gi g)) (show 2 + 1 ≤ 32 by decide) 0
  have hgrp : s2.grp g = { gr with
      zeroAt := gr.zeroAt + gr.len, zeroTb7 := s.tb.cnt.get 7, zeroTb8 := s.tb.cnt.get 8
      zeroTbP := if g.val / 2 = 0 then s.tb.cnt.get 1 else s.tb.cnt.get 2 } := grp_setGrp_same (s := s) (l := g) _
  have hothers : ∀ h : Fin 4, h ≠ g → s2.grp h = s.grp h := fun h hne => grp_setGrp_other (s := s) (grpIx_ne hne) _
  have h3 : CarrierStep g s2 s3 := (CarrierStep.refl s2).raise _
  have h4 : CarrierStep g s2 s4 := h3.shadowLoad.ite h3
  obtain ⟨hsteer, hper⟩ := chainSteer_step (g := g) perT s4
  have h5 : CarrierStep g s4 s5 := hsteer.setGrp rfl
  have hact : (s5.grp g).perAct = (s4.grp g).perAct := (congrArg Grp.perAct (grp_setGrp_same (s := r.2) (l := g) _)).trans hper
  have hperT : (s5.grp g).perT = perT := congrArg Grp.perT (grp_setGrp_same (s := r.2) (l := g) _)
  have hlen : (s5.grp g).len = ((perT : Int) + r.1).toNat := congrArg Grp.len (grp_setGrp_same (s := r.2) (l := g) _)
  have hmode : (s5.grp g).upDown = !s4.on (F.PWM_GCTL_MODE (gb g) (gi g)) :=
    congrArg Grp.upDown (grp_setGrp_same (s := r.2) (l := g) _)
  have hkept : GroupKept s5 s6 := ((GroupKept.refl s5).schedCarrier 0 g false).schedCarrier 1 g false
  have hend : GroupKept s5 (if s6.tb.retReady = true ∧ s6.get F.TB_REFCTL_REFSYNC = g then { s6 with tb := { tb with retZero := true } }
      else s6) := (hkept.setTb _).ite hkept
  have hall : ∀ h : Fin 4, (if s6.tb.retReady = true ∧ s6.get F.TB_REFCTL_REFSYNC = g then { s6 with tb := { tb with retZero := true } }
      else s6 : State).grp h = s5.grp h := fun h => congrArg (fun v : Vector Grp 4 => v.get (grpIx h)) hend.grp
  clear_value s5 s4
  refine ⟨?_, ?_, ?_, ?_, fun hc => ?_, fun h hne => ?_, ?_, ?_⟩
  · rw [hall, h5.zeroAt, h4.zeroAt, hgrp]
  · rw [hall, hperT, hact, perTaps_congr (hend.word _ (groupReg_of_group g).1), perTaps_congr h5.gctl]
  · rw [hend.get (groupReg_of_group g).2, h5.half, h4.half, hhalf]
  · rw [hall, hmode, on_gctl_congr (h4.gctl.trans hgctl) rfl]
  · rw [hall, hlen, hperT, chainSteer_unlocked perT ((on_gctl_congr (h4.gctl.trans hgctl) rfl).trans hc)]
    omega
  · rw [hall, h5.others h hne, h4.others h hne, hothers h hne]
  · rw [hend.mem, h5.mem, h4.mem]
    rfl
  · rw [hend.yar, h5.yar, h4.yar]
    rfl

end

end Sys2Proof.Machine
end

section
/-!
PROOFS. The local zero and the local peak of a leg (R302 to R304), and its edges.
-/
namespace Sys2Proof.Machine

/-! The class of a period (R302). -/

section
variable {de : Int} {perT dtr dtf minT pol : Nat}

theorem classify_off (h : de ≤ 0) : classify de perT dtr dtf minT pol = (.fullOff, 0, 0) := if_pos h

theorem classify_on (hp : 0 < perT) (h : (perT : Int) ≤ de) : classify de perT dtr dtf minT pol = (.fullOn, 0, (perT : Int)) :=
  (if_neg (by omega)).trans (if_pos h)

theorem classify_short (h0 : 0 < de) (h1 : de < perT) (h : de < (minT + dtr : Nat)) : classify de perT dtr dtf minT pol =
    if pol = 1 then (.stretched, 1, ((minT + dtr : Nat) : Int)) else (.fullOff, 1, 0) :=
  (if_neg (by omega)).trans ((if_neg (by omega)).trans (if_pos (by omega)))

theorem classify_long (h0 : 0 < de) (h1 : de < perT) (h : (minT + dtr : Nat) ≤ de) (hl : (perT : Int) < de + (minT + dtf : Nat)) :
    classify de perT dtr dtf minT pol =
      if pol = 1 then (.stretched, 2, (perT : Int) - minT - dtf) else (.fullOn, 2, (perT : Int)) :=
  (if_neg (by omega)).trans ((if_neg (by omega)).trans ((if_neg (by omega)).trans (if_pos (by omega))))

theorem classify_normal (h0 : 0 < de) (hm : 0 < minT) (h : (minT + dtr : Nat) ≤ de) (hl : de + (minT + dtf : Nat) ≤ perT) :
    classify de perT dtr dtf minT pol = (.normal, 0, de) :=
  (if_neg (by omega)).trans ((if_neg (by omega)).trans ((if_neg (by omega)).trans (if_neg (by omega))))

end

/-! What the planning of a period's edges leaves of the leg. -/

/-- `y` has the period of `x`: its start and length, class, on-time, and the values in use. -/
structure PeriodKept (x y : Leg) : Prop where
  t0 : y.t0 = x.t0
  perT : y.perT = x.perT
  cls : y.cls = x.cls
  da : y.da = x.da
  loaded : y.loaded = x.loaded
  dtr : y.dtr = x.dtr
  dtf : y.dtf = x.dtf
  minT : y.minT = x.minT

namespace PeriodKept

variable {x y : Leg}

theorem refl (x : Leg) : PeriodKept x x := ⟨rfl, rfl, rfl, rfl, rfl, rfl, rfl, rfl⟩

theorem planChange (h : PeriodKept x y) (v : Bool) (t : Nat) : PeriodKept x (planChange v t y).1 :=
  ⟨h.t0, h.perT, h.cls, h.da, h.loaded, h.dtr, h.dtf, h.minT⟩

theorem planTo {p : Leg × Bool} (h : PeriodKept x p.1) (v : Bool) (t : Nat) : PeriodKept x (planTo v t p).1 := by
  unfold Machine.planTo
  split
  · exact h
  · exact h.planChange v t

end PeriodKept

/-- A turn-on that is planned for a change waits for its dead time after the turn-off, which is not before the change (R301). -/
theorem planChange_deadTime (v : Bool) (t : Nat) (x : Leg) : ∀ e ∈ (planChange v t x).1.edges, e.at_ ≤ t ∨ e.on = false ∨
    t + (if v then x.dtr else x.dtf) ≤ e.at_ := by
  unfold planChange
  extract_lets keep offO onO offV onV tOff offE onE
  have hoff : t ≤ tOff := by
    show t ≤ match offV with
      | some u => max t (u + x.minT)
      | none => t
    cases offV with
    | some u => exact Nat.le_max_left ..
    | none => exact Nat.le_refl t
  intro e he
  rcases List.mem_append.mp he with he | he
  · rcases List.mem_append.mp he with he | he
    · exact .inl (of_decide_eq_true (List.mem_filter.mp he).2)
    · right; left
      unfold offE at he
      split at he
      · rw [List.mem_singleton.mp he]
      · exact absurd he List.not_mem_nil
  · right; right
    unfold onE at he
    split at he
    · exact absurd he List.not_mem_nil
    · rw [List.mem_singleton.mp he]
      exact Nat.add_le_add_right hoff _

/-! What the registers of a leg and events leave of its state. -/

/-- `t` differs from `s` in registers other than the leg's state, and in the router, alone. -/
structure LegRegs (l : Nat) (s t : State) : Prop where
  pwm : t.pwm = s.pwm
  mem : t.mem = s.mem
  yar : t.yar = s.yar
  state : legState l t = legState l s

namespace LegRegs

variable {l : Nat} {s t u : State}

theorem refl (s : State) : LegRegs l s s := ⟨rfl, rfl, rfl, rfl⟩

theorem ite {c : Prop} [Decidable c] (ht : LegRegs l s t) (hu : LegRegs l s u) : LegRegs l s (if c then t else u) := by
  split
  · exact ht
  · exact hu

variable (h : LegRegs l s t)
include h

theorem set {f : Fld} (hf : Apart f (F.PWM_LnSTAT_STATE (l / 8) (l % 8))) (v : Nat) : LegRegs l s (t.set f v) :=
  ⟨h.pwm, h.mem, h.yar, (t.get_set_apart hf v).trans h.state⟩

theorem sticky (b : Nat) : LegRegs l s (legSticky l b t) :=
  set h (f := ⟨R.PWM_LnSTAT (lb l) (li l), 16, 7⟩) (.inr ⟨rfl, show 16 + 7 ≤ 32 by decide, .inl (show 0 + 3 ≤ 16 by decide)⟩) _

theorem raise (n : Nat) : LegRegs l s (t.raise n) :=
  ⟨(State.raise_pwm t n).trans h.pwm, (State.raise_mem t n).trans h.mem, (State.raise_yar t n).trans h.yar,
    (State.get_raise _ _ (noRouter_legStat l)).trans h.state⟩

theorem setAct (v : Int) : LegRegs l s (t.setInt (F.PWM_LnACT_D (lb l) (li l)) v) :=
  set h (.inl (by simp only [F.PWM_LnSTAT_STATE, R.PWM_LnSTAT, F.PWM_LnACT_D, R.PWM_LnACT]; omega)) _

theorem putAcc (v : Int) (perT : Nat) : LegRegs l s (putAcc l v perT t) := by
  have hacc (w : Int) : LegRegs l s (t.setInt (F.PWM_LnACC_ACC (lb l) (li l)) w) :=
    set h (.inl (by simp only [F.PWM_LnSTAT_STATE, R.PWM_LnSTAT, F.PWM_LnACC_ACC, R.PWM_LnACC]; omega)) _
  exact ite (hacc _) (sticky (hacc _) 5)

end LegRegs

section
variable {l : Fin 16} {s : State}

theorem legIx_ne {k : Fin 16} (h : k ≠ l) : legIx k ≠ legIx l := by
  rw [legIx_fin, legIx_fin]
  exact h

theorem localZero_idle (h1 : legState l s ≠ 1) (h2 : legState l s ≠ 2) : localZero l s = s := if_pos ⟨h1, h2⟩

theorem localZero_barred (h1 : legState l s = 1) (h : legBarred l s = true) : localZero l s = legFault l 6 0 s :=
  (if_neg (by omega)).trans (if_pos ⟨h1, h⟩)

/-- The effective request of leg `l` in taps (R300, R303). -/
def legRequest (l : Nat) (s : State) : Int :=
  let req : Int := requestTaps (s.leg l).act (prescaler (legGroup l s) s) (s.grp (legGroup l s)).perT
  if s.get (F.PWM_LnCFG_POLICY (lb l) (li l)) = 2 then req + s.getInt (F.PWM_LnACC_ACC (lb l) (li l)) else req

/-- The class of the period that begins at the local zero of leg `l` (R302). -/
def legClass (l : Nat) (s : State) : LegClass × Nat × Int :=
  classify (legRequest l s) (s.grp (legGroup l s)).perT (s.leg l).act.dtr (s.leg l).act.dtf ((s.leg l).act.minpw * 256)
    (s.get (F.PWM_LnCFG_POLICY (lb l) (li l)))

/-- `t` is `s` with leg `l` in RUN and its period taken anew. -/
structure PeriodTaken (l : Fin 16) (s t : State) : Prop where
  t0 : (t.leg l).t0 = (s.grp (legGroup l s)).zeroAt + legPhase l (s.grp (legGroup l s)).perT s
  perT : (t.leg l).perT = (s.grp (legGroup l s)).perT
  cls : (t.leg l).cls = (legClass l s).1
  da : (t.leg l).da = (legClass l s).2.2.toNat
  loaded : (t.leg l).loaded = false
  dtr : (t.leg l).dtr = (s.leg l).act.dtr
  dtf : (t.leg l).dtf = (s.leg l).act.dtf
  state : legState l t = 2
  others : ∀ k : Fin 16, k ≠ l → t.leg k = s.leg k
  mem : t.mem = s.mem
  yar : t.yar = s.yar

/-- The local zero of a leg in RUN, or of one that enters it: the period's values are taken, and its edges planned. -/
theorem localZero_runs (h : legState l s = 2 ∨ (legState l s = 1 ∧ legBarred l s = false)) : PeriodTaken l s (localZero l s) := by
  have hst : ¬(legState l s ≠ 1 ∧ legState l s ≠ 2) := by omega
  have hbar : ¬(legState l s = 1 ∧ legBarred l s = true) := by
    rintro ⟨h1, hb⟩
    rcases h with h2 | ⟨-, hn⟩
    · omega
    · rw [hb] at hn
      cases hn
  suffices key : ∀ t, t = localZero l s → PeriodTaken l s t from key _ rfl
  intro t ht
  unfold localZero at ht
  extract_lets st g gr x perT t0 minT d pol acc de s1 hp fresh at ht
  rw [if_neg hst, if_neg hbar] at ht
  have hclass : legClass l s = classify de perT x.act.dtr x.act.dtf minT pol := rfl
  rcases hc : classify de perT x.act.dtr x.act.dtf minT pol with ⟨cls, short, eff⟩
  rw [hc] at ht
  dsimp -zeta only at ht
  extract_lets s2 da y qRise qFall high start r s3 s4 s5 at ht
  have h1 : LegRegs l s s1 := (LegRegs.refl s).setAct _
  have h2 : LegRegs l s s2 := by
    refine LegRegs.ite ?_ h1
    cases cls with
    | fullOff => exact h1.putAcc _ _
    | fullOn => exact h1.putAcc _ _
    | stretched => exact h1.putAcc _ _
    | normal => exact h1.putAcc _ _
  have hstart : PeriodKept y start.1 := by
    by_cases hf : fresh
    · rw [show start = _ from if_pos hf]
      exact ⟨rfl, rfl, rfl, rfl, rfl, rfl, rfl, rfl⟩
    · rw [show start = _ from if_neg hf]
      exact .refl y
  have hr : PeriodKept y r.1 := by
    have hmid : PeriodKept y (if gr.upDown = true then planTo false t0 start else start).1 := by
      split
      · exact hstart.planTo false t0
      · exact hstart
    cases cls with
    | fullOff => exact hstart.planTo false t0
    | fullOn => exact hstart.planTo true t0
    | stretched => exact (hmid.planTo true qRise).planTo false qFall
    | normal => exact (hmid.planTo true qRise).planTo false qFall
  have hrun : legState l s4 = 2 := by
    by_cases hf : fresh
    · rw [show s4 = _ from if_pos hf]
      exact State.get_set_same s3 (f := F.PWM_LnSTAT_STATE (lb l) (li l)) (show 0 + 3 ≤ 32 by decide) 2
    · rw [show s4 = _ from if_neg hf]
      have hst2 : legState l s = 2 := h.resolve_right fun hn => hf hn.1
      exact h2.state.trans hst2
  have hset : s4.pwm = s3.pwm ∧ s4.mem = s3.mem ∧ s4.yar = s3.yar := by
    by_cases hf : fresh
    · rw [show s4 = _ from if_pos hf]
      exact ⟨rfl, rfl, rfl⟩
    · rw [show s4 = _ from if_neg hf]
      exact ⟨rfl, rfl, rfl⟩
  have h5 : LegRegs l s4 s5 := ((LegRegs.refl s4).sticky 4).ite (.refl s4)
  have hend : LegRegs l s4 t := by
    rw [ht]
    exact h5.ite ((h5.sticky _).raise _)
  have hleg : ∀ k : Fin 16, t.leg k = s3.leg k := fun k =>
    congrArg (fun p : Pwm => p.leg.get (legIx k)) (hend.pwm.trans hset.1)
  have hsame : t.leg l = r.1 := (hleg l).trans (leg_setLeg_same r.1)
  refine ⟨?_, ?_, ?_, ?_, ?_, ?_, ?_, hend.state.trans hrun, fun k hk => ?_, ?_, ?_⟩
  · rw [hsame, hr.t0]
  · rw [hsame, hr.perT]
  · rw [hsame, hr.cls, hclass, hc]
  · rw [hsame, hr.da, hclass, hc]
  · rw [hsame, hr.loaded]
  · rw [hsame, hr.dtr]
  · rw [hsame, hr.dtf]
  · exact (hleg k).trans ((leg_setLeg_other (legIx_ne hk) r.1).trans (congrArg (fun p : Pwm => p.leg.get (legIx k)) h2.pwm))
  · exact hend.mem.trans (hset.2.1.trans h2.mem)
  · exact hend.yar.trans (hset.2.2.trans h2.yar)

/-! The local peak (R295, R304). -/

theorem localPeak_idle (h : legState l s ≠ 2 ∨ (s.leg l).upDown = false ∨ (s.leg l).loaded = false) : localPeak l s = s :=
  if_pos (by simpa using h)

/-- The leg with the values loaded since the local zero in use. -/
def peakLeg (l : Nat) (s : State) : Leg :=
  { s.leg l with loaded := false, dtr := (s.leg l).act.dtr, dtf := (s.leg l).act.dtf, minT := (s.leg l).act.minpw * 256 }

theorem localPeak_full (h2 : legState l s = 2) (hu : (s.leg l).upDown = true) (hl : (s.leg l).loaded = true)
    (hc : (s.leg l).cls = .fullOff ∨ (s.leg l).cls = .fullOn) : localPeak l s = s.setLeg l (peakLeg l s) :=
  (if_neg (by simp [h2, hu, hl])).trans (if_pos hc)

/-- The local peak of a period with a falling edge plans it anew. -/
theorem localPeak_planned (h2 : legState l s = 2) (hu : (s.leg l).upDown = true) (hl : (s.leg l).loaded = true)
    (hc : ¬((s.leg l).cls = .fullOff ∨ (s.leg l).cls = .fullOn)) :
    ∃ r : Leg, PeriodKept (peakLeg l s) r ∧ r.q = false ∧ LegRegs l ((s.setLeg l (peakLeg l s)).setLeg l r) (localPeak l s) := by
  suffices key : ∀ t, t = localPeak l s → ∃ r : Leg, PeriodKept (peakLeg l s) r ∧ r.q = false ∧
      LegRegs l ((s.setLeg l (peakLeg l s)).setLeg l r) t from key _ rfl
  intro t ht
  unfold localPeak at ht
  extract_lets x g y s1 peak d lo hi db tp keep r s2 s3 at ht
  rw [if_neg (by simp [x, h2, hu, hl]), if_neg hc] at ht
  have h3 : LegRegs l s2 s3 := ((LegRegs.refl s2).sticky 4).ite (.refl s2)
  refine ⟨r.1, (PeriodKept.mk rfl rfl rfl rfl rfl rfl rfl rfl : PeriodKept (peakLeg l s) { y with q := true, edges := keep }).planChange _ _,
    rfl, ?_⟩
  rw [ht]
  exact h3.ite (h3.sticky 3)

/-! The earliest edge (R298, R301). -/

theorem outputEdge_none (h : (s.leg l).edges = []) : outputEdge l s = s := by
  unfold outputEdge
  dsimp only
  rw [h]

theorem outputEdge_next {e : Edge} {rest : List Edge} (h : (s.leg l).edges = e :: rest) : outputEdge l s =
    (let at' := if legFine l s then e.at_ else e.at_ / 256 * 256
     let v := if e.on then some at' else none
     let u := s.setLeg l (match e.out with
       | .hs => { s.leg l with edges := rest, hs := v }
       | .ls => { s.leg l with edges := rest, ls := v })
     if e.on then blankOpen l e.out u else u) := by
  unfold outputEdge
  dsimp only
  rewrite [h]
  obtain ⟨_, out, _⟩ := e
  cases out with
  | hs => rfl
  | ls => rfl

end

end Sys2Proof.Machine
end

section
/-!
PROOFS. The commands of the carriers, the trigger compares and the legs' periods.
-/
namespace Sys2Proof.Machine

/-! A trigger compare (R313, R314). -/

theorem forEach_kept {α : Type} {view : State → α} {f : Nat → State → State} (hf : ∀ i s, view (f i s) = view s) (n : Nat) (s : State) :
    view (forEach n f s) = view s := by
  unfold forEach
  induction List.range n generalizing s with
  | nil => rfl
  | cons i is ih => exact (ih _).trans (hf i s)

theorem pwm_adcTake (c : Nat) (coarse : Bool) (s : State) : (adcTake c coarse s).pwm = s.pwm := by
  unfold adcTake
  dsimp only
  split <;> rfl

theorem pwm_adcSkip (c : Nat) (s : State) : (adcSkip c s).pwm = s.pwm := by
  unfold adcSkip
  rw [State.raise_pwm, State.set_pwm, State.count_pwm]

theorem pwm_adcPwmTrigger (t : Nat) (coarse : Bool) (s : State) : (adcPwmTrigger t coarse s).pwm = s.pwm := by
  refine forEach_kept (view := State.pwm) (fun c s => ?_) 4 s
  dsimp only
  split
  · rfl
  · split
    · exact pwm_adcTake ..
    · split
      · exact pwm_adcSkip ..
      · rfl

section
variable {g : Fin 4} {k : Fin 8} {s : State}

/-- Does trigger compare `k` fire in the period in force (R313)? -/
abbrev TrigFires (g : Fin 4) (k : Fin 8) (s : State) : Prop :=
  s.on (F.PWM_GSTAT_RUN (gb g) (gi g)) = true ∧ fieldOf 31 1 ((s.grp g).tcAct.get k) = 1 ∧
    fieldOf 0 24 ((s.grp g).tcAct.get k) * prescaler g s < (s.grp g).perT

theorem tc_getD (g : Fin 4) (k : Fin 8) (s : State) : (s.grp g).tcAct.toList.getD k 0#32 = (s.grp g).tcAct.get k := by
  rw [List.getD_eq_getElem _ _ (by simp), Vector.getElem_toList]
  rfl

theorem trigTick_of_fires (h : TrigFires g k s) :
    trigTick g k s = some ((s.grp g).zeroTbP + fieldOf 0 24 ((s.grp g).tcAct.get k) * prescaler g s / 256) := by
  obtain ⟨hrun, hen, hpos⟩ := h
  unfold trigTick
  dsimp only
  rw [tc_getD, if_pos (by simp [hrun, hen, hpos])]

theorem trigTick_of_silent (h : ¬TrigFires g k s) : trigTick g k s = none := by
  unfold trigTick
  dsimp only
  rw [tc_getD]
  exact if_neg fun hc => h (by simpa [and_assoc] using hc)

theorem triggerFire_of_silent (h : ¬TrigFires g k s) : triggerFire g k s = s := by
  unfold triggerFire
  rw [trigTick_of_silent h]

/-- A trigger's event is raised where its word asks for it. -/
def trigTold (g : Fin 4) (k : Fin 8) (s u : State) : State := if fieldOf 30 1 ((s.grp g).tcAct.get k) = 1 then u.raise (groupEvent g 7) else u

/-- Has the trigger one of the eight taps of its coarse tick (R314)? -/
def trigHasLine (g : Fin 4) (k : Fin 8) (s : State) : Bool :=
  ((trigLine (gb g) ((s.grp g).zeroTbP + fieldOf 0 24 ((s.grp g).tcAct.get k) * prescaler g s / 256) s).take 8).contains (g.val, k.val)

theorem trigTold_adc (f : Fld) (p : Prop) [Decidable p] (n : Nat) (b : Bool) :
    (if fieldOf 30 1 (((adcPwmTrigger n b (if p then s.count f else s)).grp g).tcAct.toList.getD k 0#32) = 1 then
      (adcPwmTrigger n b (if p then s.count f else s)).raise (groupEvent g 7) else adcPwmTrigger n b (if p then s.count f else s)) =
    trigTold g k s (adcPwmTrigger n b (if p then s.count f else s)) := by
  have htc : ((adcPwmTrigger n b (if p then s.count f else s)).grp g).tcAct = (s.grp g).tcAct := by
    refine congrArg (fun q : Pwm => (q.grp.get (grpIx g)).tcAct) ((pwm_adcPwmTrigger ..).trans ?_)
    split <;> rfl
  rw [htc, tc_getD]
  rfl

theorem triggerFire_of_fires (h : TrigFires g k s) : triggerFire g k s =
    trigTold g k s (adcPwmTrigger (8 * g + k) (!s.bit F.TB_DLSTAT_FINE (2 + gb g) || !trigHasLine g k s)
      (if (s.bit F.TB_DLSTAT_FINE (2 + gb g) && !trigHasLine g k s) = true then s.count (F.PWM_TCCOLL_COUNT (gb g)) else s)) := by
  unfold triggerFire
  rw [trigTick_of_fires h]
  exact trigTold_adc ..

theorem triggerFire_coarse (h : TrigFires g k s) (hf : s.bit F.TB_DLSTAT_FINE (2 + gb g) = false) :
    triggerFire g k s = trigTold g k s (adcPwmTrigger (8 * g + k) true s) := by
  rw [triggerFire_of_fires h, hf, Bool.not_false, Bool.true_or, Bool.false_and, if_neg Bool.false_ne_true]

theorem triggerFire_fine (h : TrigFires g k s) (hf : s.bit F.TB_DLSTAT_FINE (2 + gb g) = true) (hl : trigHasLine g k s = true) :
    triggerFire g k s = trigTold g k s (adcPwmTrigger (8 * g + k) false s) := by
  rw [triggerFire_of_fires h, hf, hl, Bool.not_true, Bool.or_false, Bool.and_false, if_neg Bool.false_ne_true]

theorem triggerFire_crowded (h : TrigFires g k s) (hf : s.bit F.TB_DLSTAT_FINE (2 + gb g) = true) (hl : trigHasLine g k s = false) :
    triggerFire g k s = trigTold g k s (adcPwmTrigger (8 * g + k) true (s.count (F.PWM_TCCOLL_COUNT (gb g)))) := by
  rw [triggerFire_of_fires h, hf, hl, Bool.not_false, Bool.or_true, Bool.and_true, if_pos rfl]

/-! The carrier's events (R293). -/

theorem startAt_reached (o : Option Nat) (n : Nat) : o.all (fun t => decide (t < n)) = true ↔ ∀ t ∈ o, t < n := by
  cases o <;> simp

theorem carrierStart_of (h : s.on (F.PWM_GCTL_EN (gb g) (gi g)) = true ∧ s.on (F.PWM_GSTAT_RUN (gb g) (gi g)) = false ∧
    ∀ t ∈ (s.grp g).startAt, t < 256 * (s.tb.time + 1)) : carrierStart g s =
      zeroEvent g ((s.set (F.PWM_GSTAT_RUN (gb g) (gi g)) 1).setGrp g
        { s.grp g with len := 0, zeroAt := 0, good := 0, bad := 0, startAt := none }) := by
  obtain ⟨hen, hrun, hat⟩ := h
  refine if_pos ?_
  rw [hen, hrun, (startAt_reached ..).mpr hat]
  rfl

theorem carrierStart_not (h : ¬(s.on (F.PWM_GCTL_EN (gb g) (gi g)) = true ∧ s.on (F.PWM_GSTAT_RUN (gb g) (gi g)) = false ∧
    ∀ t ∈ (s.grp g).startAt, t < 256 * (s.tb.time + 1))) : carrierStart g s = s := by
  refine if_neg fun hc => h ?_
  simp only [Bool.and_eq_true, Bool.not_eq_true', startAt_reached, and_assoc] at hc
  exact hc

theorem carrierPeak_of (h : s.on (F.PWM_GSTAT_RUN (gb g) (gi g)) = true ∧ s.on (F.PWM_GSTAT_HALF (gb g) (gi g)) = false) :
    carrierPeak g s =
      (let u := (s.set (F.PWM_GSTAT_HALF (gb g) (gi g)) 1).raise (groupEvent g 1)
       schedCarrier 1 g true (schedCarrier 0 g true
         (if natBit (u.get (F.PWM_GCTL_LOAD (gb g) (gi g))) 1 then shadowLoad g u else u))) :=
  if_pos (by simpa using h)

theorem carrierPeak_not (h : ¬(s.on (F.PWM_GSTAT_RUN (gb g) (gi g)) = true ∧ s.on (F.PWM_GSTAT_HALF (gb g) (gi g)) = false)) :
    carrierPeak g s = s := if_neg fun hc => h (by simpa using hc)

end

/-- Settles O34: a carrier event runs `zeroEvent` or the peak's loads where the carrier passes it; a leg's zero and peak take and plan its
period, and its earliest edge is launched. -/
theorem carriersAndPeriods : Obligations.CarriersAndPeriods := by
  unfold Obligations.CarriersAndPeriods
  refine ⟨⟨fun g s => ?_, fun g s => ?_, fun g s => ?_, fun g s => ?_, fun g k s => ?_⟩, fun l s => ?_, ?_, fun l s => ?_, ?_, ?_, ?_⟩
  · intro starts
    exact ⟨fun h => congrArg Host.Outcome.next (carrierStart_of (s := s.begin) h),
      fun h => congrArg Host.Outcome.next (carrierStart_not (s := s.begin) h)⟩
  · rfl
  · exact zeroEvent_group g s
  · intro passes u
    exact ⟨fun h => congrArg Host.Outcome.next (carrierPeak_of (s := s.begin) h),
      fun h => congrArg Host.Outcome.next (carrierPeak_not (s := s.begin) h)⟩
  · intro tc fires fine tick left told
    exact ⟨fun h => congrArg Host.Outcome.next (triggerFire_of_silent (s := s.begin) h),
      fun h hf => congrArg Host.Outcome.next (triggerFire_coarse (s := s.begin) h hf),
      fun h hf hl => congrArg Host.Outcome.next (triggerFire_fine (s := s.begin) h hf hl),
      fun h hf hl => congrArg Host.Outcome.next (triggerFire_crowded (s := s.begin) h hf hl)⟩
  · intro g x perT pol req d c
    refine ⟨fun h1 h2 => congrArg Host.Outcome.next (localZero_idle (s := s.begin) h1 h2),
      fun h1 hb => congrArg Host.Outcome.next (localZero_barred (s := s.begin) h1 hb), fun h => ?_⟩
    have ht := localZero_runs (s := s.begin) h
    exact ⟨_, rfl, ht.t0, ht.perT, ht.cls, ht.da, ht.loaded, ht.dtr, ht.dtf, ht.state, ht.others, ht.mem, ht.yar⟩
  · exact fun de perT dtr dtf minT pol hp => ⟨classify_off, classify_on hp, classify_short, classify_long, classify_normal⟩
  · intro x y
    refine ⟨fun h => congrArg Host.Outcome.next (localPeak_idle (s := s.begin) h),
      fun h2 hu hl hc => congrArg Host.Outcome.next (localPeak_full (s := s.begin) h2 hu hl hc), fun h2 hu hl hc => ?_⟩
    have hc' : ¬((s.leg l).cls = .fullOff ∨ (s.leg l).cls = .fullOn) := by
      rcases hc with hc | hc <;> rw [hc] <;> decide
    obtain ⟨r, hr, hq, hregs⟩ := localPeak_planned (s := s.begin) h2 hu hl hc'
    have hleg : ∀ k : Fin 16, (localPeak l s.begin).leg k = ((s.begin.setLeg l (peakLeg l s.begin)).setLeg l r).leg k := fun k =>
      congrArg (fun p : Pwm => p.leg.get (legIx k)) hregs.pwm
    have hsame : (localPeak l s.begin).leg l = r := (hleg l).trans (leg_setLeg_same r)
    refine ⟨_, rfl, ?_, ?_, ?_, ?_, ?_, ?_, ?_, ?_, fun k hk => ?_, ?_, ?_, ?_⟩
    · rw [hsame, hr.loaded]
      rfl
    · rw [hsame, hr.dtr]
      rfl
    · rw [hsame, hr.dtf]
      rfl
    · rw [hsame, hr.minT]
      rfl
    · rw [hsame, hq]
    · rw [hsame, hr.t0]
      rfl
    · rw [hsame, hr.perT]
      rfl
    · rw [hsame, hr.cls]
      rfl
    · exact (hleg k).trans ((leg_setLeg_other (legIx_ne hk) r).trans (leg_setLeg_other (legIx_ne hk) (peakLeg l s.begin)))
    · exact (congrArg Pwm.grp hregs.pwm).trans rfl
    · exact hregs.mem
    · exact hregs.yar
  · exact fun l s h => congrArg Host.Outcome.next (outputEdge_none (s := s.begin) h)
  · intro l e rest s h at' v u
    exact congrArg Host.Outcome.next (outputEdge_next (s := s.begin) h)
  · exact fun v t x => planChange_deadTime v t x

end Sys2Proof.Machine
end

section
/-!
PROOFS. The converters (R325 to R333), the comparators (R334 to R336), the temperature sensor and the supply monitors (R337, R338).
-/
namespace Sys2Proof.Machine

variable {s t u : State}

/-! Enabling and disabling a converter (R328, R330). -/

section
variable {c : Fin 4} {w : Word}

theorem fieldOf_one_nat (w : Word) : (fieldOf 0 1 w != 0) = natBit w.toNat 0 := by
  unfold fieldOf natBit
  rfl

/-- The converter with LOOP written. -/
def adcLooped (c : Nat) (w : Word) (s : State) : State := s.set (F.ADC_cSEQCTL_LOOP c) (fieldOf 1 1 w)

/-- PTR of a converter that converts nothing goes back to 0, and WAIT is shown. -/
def adcShown (c : Nat) (s t : State) : State := adcWait c (if (s.conv c).cur.isSome then t else t.set (F.ADC_cSTAT_PTR c) 0)

theorem timerNext_looped (c n : Nat) (w : Word) (s : State) : timerNext c n (adcLooped c w s) = timerNext c n s := by
  have hget : (adcLooped c w s).get (F.ADC_cTIMER_PERIOD c) = s.get (F.ADC_cTIMER_PERIOD c) :=
    State.get_set_other _ (by simp only [F.ADC_cTIMER_PERIOD, R.ADC_cTIMER, F.ADC_cSEQCTL_LOOP, R.ADC_cSEQCTL]; omega) _
  unfold timerNext
  rw [hget]

/-- The entries of the sequence name no channel that does not exist. -/
def adcBad (c : Nat) (u : State) : Bool := (adcEntries c u).any (fun e => decide (40 ≤ u.get (F.ADC_cENTe_CH c e)))

section
variable {c : Nat}

theorem adcSeqctl_start (hw : natBit w.toNat 0 = true) (hs : s.on (F.ADC_cSEQCTL_EN c) = false) (hb : adcBad c (adcLooped c w s) = false) :
    adcSeqctl c w s = adcShown c s (((adcLooped c w s).set (F.ADC_cSEQCTL_EN c) 1).setConv c
      { s.conv c with want := some 0, trig := none, timerAt := timerNext c (s.tb.cnt.get 3) s }) := by
  rw [← timerNext_looped c _ w s]
  unfold adcSeqctl
  rw [fieldOf_one_nat]
  dsimp only
  rw [if_pos (by rw [hw, hs]; rfl)]
  exact if_neg (Bool.eq_false_iff.mp hb)

theorem adcSeqctl_bad (hw : natBit w.toNat 0 = true) (hs : s.on (F.ADC_cSEQCTL_EN c) = false) (hb : adcBad c (adcLooped c w s) = true) :
    adcSeqctl c w s = (adcLooped c w s).set (F.ADC_cSTAT_CFGERR c) 1 := by
  unfold adcSeqctl
  rw [fieldOf_one_nat]
  dsimp only
  rw [if_pos (by rw [hw, hs]; rfl)]
  exact if_pos hb

theorem adcSeqctl_stop (hw : natBit w.toNat 0 = false) (hs : s.on (F.ADC_cSEQCTL_EN c) = true) :
    adcSeqctl c w s = adcShown c s (((adcLooped c w s).set (F.ADC_cSEQCTL_EN c) 0).setConv c
      { s.conv c with want := none, trig := none, timerAt := none }) := by
  unfold adcSeqctl
  rw [fieldOf_one_nat]
  dsimp only
  rw [if_neg (by rw [hw, hs]; decide), if_pos (by rw [hw, hs]; rfl)]
  rfl

theorem adcSeqctl_same (h : natBit w.toNat 0 = s.on (F.ADC_cSEQCTL_EN c)) : adcSeqctl c w s = adcLooped c w s := by
  unfold adcSeqctl
  rw [fieldOf_one_nat, h]
  dsimp only
  rw [if_neg (by cases s.on (F.ADC_cSEQCTL_EN c) <;> decide), if_neg (by cases s.on (F.ADC_cSEQCTL_EN c) <;> decide)]
  rfl

end

theorem senseWrite_seqctl (c : Fin 4) (w : Word) (s : State) :
    senseWrite (R.ADC_cSEQCTL c.val).addr w s = some (.ok 0#64, adcSeqctl c w s) := by
  have hc := c.isLt
  have h1 : (0x5000A000 + 256 * c.val - 0x5000A000) / 0x100 = c.val := by omega
  have h2 : (0x5000A000 + 256 * c.val) % 0x100 = 0 := by omega
  show senseWrite (0x5000A000 + 256 * c.val) w s = _
  unfold senseWrite
  rw [if_pos (by omega)]
  dsimp only
  rw [if_pos h2, h1]

theorem senseWrite_soft (c : Fin 4) (w : Word) (s : State) :
    senseWrite (R.ADC_cSOFT c.val).addr w s = some (.ok 0#64, adcKindTrigger c 3 s) := by
  have hc := c.isLt
  have h1 : (0x5000A010 + 256 * c.val - 0x5000A000) / 0x100 = c.val := by omega
  have h2 : (0x5000A010 + 256 * c.val) % 0x100 = 0x10 := by omega
  show senseWrite (0x5000A010 + 256 * c.val) w s = _
  unfold senseWrite
  rw [if_pos (by omega)]
  dsimp only
  rw [h2, h1, if_neg (by decide), if_neg (by decide), if_pos rfl]

theorem senseRead_resa (c : Fin 4) (e : Fin 16) (s : State) : senseRead (R.ADC_cRESAe c.val e.val).addr s = some (resaRead c e s) := by
  have hc := c.isLt
  have he := e.isLt
  have h1 : (0x5000A400 + 256 * c.val + 16 * e.val - 0x5000A400) / 0x100 = c.val := by omega
  have h2 : (0x5000A400 + 256 * c.val + 16 * e.val) % 0x100 / 16 = e.val := by omega
  have h3 : (0x5000A400 + 256 * c.val + 16 * e.val) % 16 = 0 := by omega
  show senseRead (0x5000A400 + 256 * c.val + 16 * e.val) s = _
  unfold senseRead
  rw [if_pos (by omega)]
  dsimp only
  rw [if_pos h3, h1, h2]

theorem adc_rows (c : Fin 4) : ((regRow? (R.ADC_cSEQCTL c.val).addr).isSome = true ∧ (regRow? (R.ADC_cSOFT c.val).addr).isSome = true) ∧
    ∀ e : Fin 16, (regRow? (R.ADC_cRESAe c.val e.val).addr).isSome = true := by
  revert c
  decide +kernel

theorem exec_adcSeqctl {cid : Cid} (h : Admits cid true (R.ADC_cSEQCTL c.val).addr s) (w : Word) :
    rowS (fabricWrite cid.toNat (R.ADC_cSEQCTL c.val).addr w) s = .next (settle (adcSeqctl c w s.begin)) := by
  have hc := c.isLt
  have ha : (R.ADC_cSEQCTL c.val).addr = 0x5000A000 + 256 * c.val := rfl
  exact write_takes (d := 0#64) h (adc_rows c).1.1 (by omega)
    fun _ => (specialWriteSense (by omega)).trans (senseWrite_seqctl c w s.begin)

/-! Triggers (R326, R327). -/

theorem adcTake_taken {c : Nat} {b : Bool} (h : (s.conv c).trig = none) : adcTake c b s = adcWait c (s.setConv c
    { s.conv c with trig := some { coarse := b, late := !adcReady c s } }) := by
  unfold adcTake
  dsimp only
  rw [h]

theorem adcTake_ignored {c : Nat} {b : Bool} (h : (s.conv c).trig.isSome = true) : adcTake c b s = s := by
  obtain ⟨x, hx⟩ := Option.isSome_iff_exists.mp h
  unfold adcTake
  dsimp only
  rw [hx]

theorem conv_setConv_same (c : Nat) (x : Conv) (s : State) : (s.setConv c x).conv c = x := by
  unfold State.conv State.setConv
  exact Vector.getElem_set_self ..

theorem adcAwaits_timer (c : Nat) (n : Option Nat) (s : State) :
    adcAwaits c (s.setConv c { s.conv c with timerAt := n }) = adcAwaits c s := by
  unfold adcAwaits
  rw [conv_setConv_same]
  rfl

theorem adcTimer_fires {c n : Nat} (h : (s.conv c).timerAt = some n) (hn : n ≤ s.tb.cnt.get 3) (he : s.on (F.ADC_cSEQCTL_EN c) = true) :
    adcTimer c s =
      (let u := s.setConv c { s.conv c with timerAt := timerNext c n s }
       if (adcAwaits c s).any (fun e => s.get (F.ADC_cENTe_TKIND c e) == 2) then adcTake c false u else u) := by
  unfold adcTimer
  rw [h]
  dsimp only
  rw [if_neg (by simp [he]; omega)]
  unfold adcKindTrigger
  rw [adcAwaits_timer]
  rfl

theorem adcTimer_idle {c : Nat} (h : ((s.conv c).timerAt.all fun t => decide (s.tb.cnt.get 3 < t)) = true ∨ s.on (F.ADC_cSEQCTL_EN c) = false) :
    adcTimer c s = s := by
  unfold adcTimer
  cases ht : (s.conv c).timerAt with
  | none => rfl
  | some n =>
    rw [ht] at h
    exact if_pos (by simpa using h)

/-! The sampling instant (R325, R328). -/

section
variable {c e : Nat} {v : Analog}

theorem adcSample_none (h : adcAwaits c s = none) : adcSample c v s = s := by
  unfold adcSample
  dsimp only
  rw [h]

theorem adcSample_unready (h : adcReady c s = false) : adcSample c v s = s := by
  unfold adcSample
  dsimp only
  cases adcAwaits c s with
  | none => rfl
  | some e => exact if_pos (by rw [h]; rfl)

theorem adcSample_untriggered (h : adcAwaits c s = some e) (hk : s.get (F.ADC_cENTe_TKIND c e) ≠ 0) (ht : (s.conv c).trig = none) :
    adcSample c v s = s := by
  unfold adcSample
  dsimp only
  rw [h]
  exact if_pos (by simp [hk, ht])

theorem adcSample_taken (h : adcAwaits c s = some e) (hr : adcReady c s = true)
    (ht : s.get (F.ADC_cENTe_TKIND c e) = 0 ∨ (s.conv c).trig.isSome = true) :
    adcSample c v s =
      (let tr := (s.conv c).trig.getD { coarse := false, late := false }
       let r := channelVolt (s.get (F.ADC_cENTe_CH c e)) v s
       let code := adcCode r.1 v.vdda
       let smp : Sample := { entry := e, code := code, ts := stampTime s, late := tr.late, clip := code == 0 || code == 4095 || r.2, coarse := tr.coarse }
       let u := adcWait c ((((setVolts v s).setConv c
         { s.conv c with cur := some smp, trig := none, want := none }).set (F.ADC_cSTAT_PTR c) e).set (F.ADC_cSTAT_BUSY c) 1)
       if tr.late then (u.set (F.ADC_cSTAT_LATE c) 1).raise (0xB8 + c) else u) := by
  unfold adcSample
  dsimp only
  rw [h]
  refine if_neg ?_
  rcases ht with ht | ht
  · simp [hr, ht]
  · simp [hr, Option.isSome_iff_ne_none.mp ht]

end
end

end Sys2Proof.Machine
end

section
/-!
PROOFS. The end of a conversion, the comparators, the temperature sensor and the supply monitors; the commands of sensing.
-/
namespace Sys2Proof.Machine

variable {s t u : State}

/-! The end of a conversion (R328, R331). -/

/-- `t` keeps the result port of entry `e` of converter `c`, BUSY, and the sensing state of `u`, memory and Yarrow. -/
structure PortKept (c e : Nat) (u t : State) : Prop where
  port : t.word (R.ADC_cRESAe c e) = u.word (R.ADC_cRESAe c e)
  busy : t.get (F.ADC_cSTAT_BUSY c) = u.get (F.ADC_cSTAT_BUSY c)
  sense : t.sense = u.sense
  cnt : t.tb = u.tb
  mem : t.mem = u.mem
  yar : t.yar = u.yar

namespace PortKept

variable {c e : Nat}

theorem refl (u : State) : PortKept c e u u := ⟨rfl, rfl, rfl, rfl, rfl, rfl⟩

theorem ite {p : Prop} [Decidable p] {v : State} (ht : PortKept c e u t) (hv : PortKept c e u v) : PortKept c e u (if p then t else v) := by
  split
  · exact ht
  · exact hv

variable (h : PortKept c e u t)
include h

theorem raise (n : Nat) : PortKept c e u (t.raise n) where
  port := ((routerOnly_raise t n).word _ (.inr (by simp only [R.ADC_cRESAe]; omega))).trans h.port
  busy := (State.get_raise _ _ (.inr (by simp only [F.ADC_cSTAT_BUSY, R.ADC_cSTAT]; omega))).trans h.busy
  sense := (State.raise_sense t n).trans h.sense
  cnt := (State.raise_tb t n).trans h.cnt
  mem := (State.raise_mem t n).trans h.mem
  yar := (State.raise_yar t n).trans h.yar

theorem set {f : Fld} (hp : (R.ADC_cRESAe c e).addr ≠ f.reg.addr) (hb : Apart f (F.ADC_cSTAT_BUSY c)) (v : Nat) :
    PortKept c e u (t.set f v) :=
  ⟨(t.word_set_other hp v).trans h.port, (t.get_set_apart hb v).trans h.busy, h.sense, h.cnt, h.mem, h.yar⟩

theorem setStat {lo wid : Nat} (h32 : lo + wid ≤ 32) (hd : 5 ≤ lo ∨ lo + wid ≤ 4) (v : Nat) :
    PortKept c e u (t.set ⟨R.ADC_cSTAT c, lo, wid⟩ v) := by
  refine set h (f := ⟨R.ADC_cSTAT c, lo, wid⟩) ?_ (.inr ⟨rfl, h32, ?_⟩) v
  · simp only [R.ADC_cRESAe, R.ADC_cSTAT]
    omega
  · simp only [F.ADC_cSTAT_BUSY]
    omega

theorem setSeq (v : Nat) : PortKept c e u (t.set (F.ADC_cSEQCTL_EN c) v) := by
  refine set h ?_ (.inl ?_) v
  · simp only [R.ADC_cRESAe, F.ADC_cSEQCTL_EN, R.ADC_cSEQCTL]
    omega
  · simp only [F.ADC_cSTAT_BUSY, R.ADC_cSTAT, F.ADC_cSEQCTL_EN, R.ADC_cSEQCTL]
    omega

theorem adcWait : PortKept c e u (adcWait c t) := setStat h (lo := 5) (wid := 1) (by decide) (by decide) _

end PortKept

section
variable {c : Fin 4} {m : Sample}

/-- SEQ and the flags that a conversion leaves in its result port. -/
def portStatus (c : Nat) (m : Sample) (s : State) : Nat :=
  (s.get (F.ADC_cRESAe_STATUS c m.entry) + 1) % 256 + (if m.late then 256 else 0) + (if m.clip then 512 else 0) +
    (if m.coarse then 1024 else 0)

theorem portStatus_lt (c : Nat) (m : Sample) (s : State) : portStatus c m s < 2 ^ 16 := by
  unfold portStatus
  split <;> split <;> split <;> omega

/-- The result port of the entry written: value, SEQ and flags, and stamp. -/
def portWritten (c : Nat) (m : Sample) (s : State) : State :=
  let t := (s.set (F.ADC_cRESAe_VALUE c m.entry) (adcValue (s.on (F.ADC_cENTe_FMT c m.entry)) m.code)).set
    (F.ADC_cRESAe_STATUS c m.entry) (portStatus c m s)
  { t with sense := { t.sense with ts := smapSet (16 * c + m.entry) (BitVec.ofNat 32 m.ts) 0#32 t.sense.ts } }

/-- The converter is free again. -/
def freedConv (c : Nat) (m : Sample) (s : State) : Conv :=
  let next := adcAwaits c (portWritten c m s)
  { s.conv c with cur := none, want := next, endTick := some (s.tb.cnt.get 3), trig := if next.isSome then (s.conv c).trig else none }

def convFreed (c : Nat) (m : Sample) (s : State) : State :=
  ((portWritten c m s).setConv c (freedConv c m s)).set (F.ADC_cSTAT_BUSY c) 0

theorem adcEnd_none {c : Nat} (h : (s.conv c).cur = none) : adcEnd c s = s := by
  unfold adcEnd
  dsimp only
  rw [h]

theorem adcEnd_freed (h : (s.conv c).cur = some m) : PortKept c m.entry (convFreed c m s) (adcEnd c s) := by
  suffices key : ∀ t, t = adcEnd c s → PortKept c m.entry (convFreed c m s) t from key _ rfl
  intro t ht
  unfold adcEnd at ht
  extract_lets x at ht
  rw [h] at ht
  dsimp -zeta only at ht
  extract_lets entry seq status s1 s2 old s3 next s4 s5 s6 s7 at ht
  have hs5 : s5 = (convFreed c m s).set (F.ADC_cSTAT_PTR c) (next.getD 0) := rfl
  have h5 : PortKept c m.entry (convFreed c m s) s5 := by
    rw [hs5]
    exact (PortKept.refl _).setStat (lo := 0) (wid := 4) (by decide) (by decide) _
  have h6 : PortKept c m.entry (convFreed c m s) s6 := (h5.raise _).ite h5
  have h7 : PortKept c m.entry (convFreed c m s) s7 := ((h6.setSeq 0).ite h6).adcWait
  rw [ht]
  exact (h7.raise _).ite h7

theorem conv_set (f : Fld) (v c : Nat) (s : State) : (s.set f v).conv c = s.conv c := rfl

theorem portTs_set (f : Fld) (v i : Nat) (s : State) : portTs i (s.set f v) = portTs i s := rfl

theorem portTs_setConv (c i : Nat) (x : Conv) (s : State) : portTs i (s.setConv c x) = portTs i s := rfl

theorem conv_convFreed : (convFreed c m s).conv c = freedConv c m s := (conv_set ..).trans (conv_setConv_same ..)

theorem stamp_portWritten : portTs (16 * c + m.entry) (portWritten c m s) = BitVec.ofNat 32 m.ts := by
  unfold portWritten portTs
  exact smapGet_set_same ..

theorem stamp_convFreed : portTs (16 * c + m.entry) (convFreed c m s) = BitVec.ofNat 32 m.ts :=
  (portTs_set ..).trans ((portTs_setConv ..).trans stamp_portWritten)

theorem rest_portWritten : (portWritten c m s).mem = s.mem ∧ (portWritten c m s).yar = s.yar := by
  unfold portWritten
  dsimp only
  rw [State.set_mem, State.set_mem, State.set_yar, State.set_yar]
  exact ⟨rfl, rfl⟩

theorem rest_setConv (c : Nat) (x : Conv) (s : State) : (s.setConv c x).mem = s.mem ∧ (s.setConv c x).yar = s.yar := ⟨rfl, rfl⟩

theorem rest_convFreed : (convFreed c m s).mem = s.mem ∧ (convFreed c m s).yar = s.yar := by
  unfold convFreed
  rw [State.set_mem, State.set_yar, (rest_setConv ..).1, (rest_setConv ..).2]
  exact rest_portWritten

theorem word_convFreed : (convFreed c m s).word (R.ADC_cRESAe c m.entry) =
    (((s.set (F.ADC_cRESAe_VALUE c m.entry) (adcValue (s.on (F.ADC_cENTe_FMT c m.entry)) m.code)).set
      (F.ADC_cRESAe_STATUS c m.entry) (portStatus c m s))).word (R.ADC_cRESAe c m.entry) :=
  State.word_set_other _ (f := F.ADC_cSTAT_BUSY c) (by simp only [R.ADC_cRESAe, F.ADC_cSTAT_BUSY, R.ADC_cSTAT]; omega) 0

/-- What a conversion leaves in its result port, and of its converter. -/
structure PortTaken (c : Nat) (m : Sample) (s t : State) : Prop where
  value : t.get (F.ADC_cRESAe_VALUE c m.entry) = adcValue (s.on (F.ADC_cENTe_FMT c m.entry)) m.code % 65536
  status : t.get (F.ADC_cRESAe_STATUS c m.entry) = portStatus c m s
  stamp : portTs (16 * c + m.entry) t = BitVec.ofNat 32 m.ts
  cur : (t.conv c).cur = none
  endTick : (t.conv c).endTick = some (s.tb.cnt.get 3)
  busy : t.get (F.ADC_cSTAT_BUSY c) = 0
  mem : t.mem = s.mem
  yar : t.yar = s.yar

theorem portTaken_of_kept (h : PortKept c m.entry (convFreed c m s) t) : PortTaken c m s t where
  value := by
    rw [State.get, show (F.ADC_cRESAe_VALUE c m.entry).reg = R.ADC_cRESAe c m.entry from rfl, h.port, word_convFreed]
    exact (State.get_set_beside _ (f := F.ADC_cRESAe_STATUS c m.entry) (g := F.ADC_cRESAe_VALUE c m.entry) rfl
      (show 16 + 16 ≤ 32 by decide) (.inl (show 0 + 16 ≤ 16 by decide)) _).trans
        (State.get_set_same s (f := F.ADC_cRESAe_VALUE c m.entry) (show 0 + 16 ≤ 32 by decide) _)
  status := by
    rw [State.get, show (F.ADC_cRESAe_STATUS c m.entry).reg = R.ADC_cRESAe c m.entry from rfl, h.port, word_convFreed]
    exact (State.get_set_same _ (f := F.ADC_cRESAe_STATUS c m.entry) (show 16 + 16 ≤ 32 by decide) _).trans
      (Nat.mod_eq_of_lt (portStatus_lt c m s))
  stamp := by
    unfold portTs
    rw [h.sense]
    exact stamp_convFreed
  cur := (congrArg (fun x : Sense => (x.conv.get (convIx c)).cur) h.sense).trans
    (congrArg Conv.cur conv_convFreed)
  endTick := (congrArg (fun x : Sense => (x.conv.get (convIx c)).endTick) h.sense).trans
    (congrArg Conv.endTick conv_convFreed)
  busy := h.busy.trans (State.get_set_same _ (f := F.ADC_cSTAT_BUSY c) (show 4 + 1 ≤ 32 by decide) 0)
  mem := h.mem.trans rest_convFreed.1
  yar := h.yar.trans rest_convFreed.2

theorem thermUpdate_frame (s : State) : RefFrame s (thermUpdate s) := by
  unfold thermUpdate
  extract_lets
  exact ((((RefFrame.setPol _ s).trans (.set (by decide) _ _)).trans (.polMark ..)).trans (.polMark ..)).trans (.polUpdate _)

theorem xsrcUpdate_frame (c : Nat) (m : Sample) (s : State) : RefFrame s (xsrcUpdate c m s) :=
  .ite ((RefFrame.setPol _ s).trans (thermUpdate_frame _)) (.refl s)

theorem PortTaken.of_refFrame (h : PortTaken c m s t) (k : RefFrame t u) : PortTaken c m s u := by
  have hc := c.isLt
  have hsense : u.sense = t.sense := (congrArg State.sense k.rest :)
  have hport : u.word (R.ADC_cRESAe c m.entry) = t.word (R.ADC_cRESAe c m.entry) :=
    k.word _ (by simp only [RefReg, R.ADC_cRESAe]; omega)
  have hstat : u.word (R.ADC_cSTAT c) = t.word (R.ADC_cSTAT c) := k.word _ (by simp only [RefReg, R.ADC_cSTAT]; omega)
  refine ⟨?_, ?_, ?_, ?_, ?_, ?_, (congrArg State.mem k.rest :).trans h.mem, (congrArg State.yar k.rest :).trans h.yar⟩
  · exact (congrArg (fieldOf 0 16) hport).trans h.value
  · exact (congrArg (fieldOf 16 16) hport).trans h.status
  · unfold portTs
    rw [hsense]
    exact h.stamp
  · unfold State.conv
    rw [hsense]
    exact h.cur
  · unfold State.conv
    rw [hsense]
    exact h.endTick
  · exact (congrArg (fieldOf 4 1) hstat).trans h.busy

end

/-! The comparators (R334 to R336). -/

section
variable {k : Nat} {v : Analog}

theorem out_beside_raw (b : Bool) (s : State) : (s.setBit F.CMP_STAT_RAW k b).bit F.CMP_STAT_OUT k = s.bit F.CMP_STAT_OUT k :=
  State.bit_setBit_apart _ (by decide) ..

theorem cmpRaw_masked {b : Bool} (h : cmpBlanked k s = true ∨ s.bit F.CMP_STAT_OUT k = b) : cmpRaw k b s = s.setBit F.CMP_STAT_RAW k b := by
  refine ite_eq_left_iff.mpr fun hb => if_pos ?_
  rw [out_beside_raw]
  exact h.resolve_left fun hs => hb hs

theorem cmpRaw_trips (hb : cmpBlanked k s = false) (ho : s.bit F.CMP_STAT_OUT k = false) : cmpRaw k true s =
    (faultInput (8 + k) ((s.setBit F.CMP_STAT_RAW k true).setBit F.CMP_STAT_OUT k true)).raise (0xC0 + k) := by
  have hout : ¬(s.setBit F.CMP_STAT_RAW k true).bit F.CMP_STAT_OUT k = true := by
    rw [out_beside_raw, ho]
    decide
  exact (if_neg (Bool.eq_false_iff.mp hb)).trans (if_neg hout)

theorem cmpRaw_releases (hb : cmpBlanked k s = false) (ho : s.bit F.CMP_STAT_OUT k = true) : cmpRaw k false s =
    ((s.setBit F.CMP_STAT_RAW k false).setBit F.CMP_STAT_OUT k false).raise (0xC8 + k) := by
  have hout : ¬(s.setBit F.CMP_STAT_RAW k false).bit F.CMP_STAT_OUT k = false := by
    rw [out_beside_raw, ho]
    decide
  exact (if_neg (Bool.eq_false_iff.mp hb)).trans (if_neg hout)

theorem cmpTrip_of (h : cmpTripped k v s = true ∧ s.bit F.CMP_STAT_RAW k = false) : cmpTrip k v s = cmpRaw k true (setVolts v s) :=
  if_pos (by rw [h.1, h.2]; rfl)

theorem cmpTrip_not (h : ¬(cmpTripped k v s = true ∧ s.bit F.CMP_STAT_RAW k = false)) : cmpTrip k v s = s :=
  if_neg (by simpa using h)

theorem cmpRelease_of (h : cmpTripped k v s = false ∧ s.bit F.CMP_STAT_RAW k = true) : cmpRelease k v s = cmpRaw k false (setVolts v s) :=
  if_pos (by rw [h.1, h.2]; rfl)

theorem cmpRelease_not (h : ¬(cmpTripped k v s = false ∧ s.bit F.CMP_STAT_RAW k = true)) : cmpRelease k v s = s :=
  if_neg fun hc => h (by simpa [and_comm] using hc)

theorem blankClose_open (h : ((blankEnd k s).all fun t => decide (legTicks (s.get (F.CMP_kCTL_BLEG k)) s < t)) = true) :
    blankClose k s = s := by
  unfold blankClose
  cases hb : blankEnd k s with
  | none => rfl
  | some n =>
    rw [hb] at h
    exact if_pos (of_decide_eq_true h)

theorem blankClose_trips {n : Nat} (h : blankEnd k s = some n) (hn : n ≤ legTicks (s.get (F.CMP_kCTL_BLEG k)) s)
    (hr : s.bit F.CMP_STAT_RAW k = true) (ho : s.bit F.CMP_STAT_OUT k = false) : blankClose k s =
      (faultInput (8 + k) ((setBlank k none s).setBit F.CMP_STAT_OUT k true)).raise (0xC0 + k) := by
  unfold blankClose
  rw [h]
  have hout : ¬(setBlank k none s).bit F.CMP_STAT_OUT k = true := by
    rw [show (setBlank k none s).bit F.CMP_STAT_OUT k = false from ho]
    decide
  exact (if_neg (Nat.not_lt.mpr hn)).trans ((if_pos (show (setBlank k none s).bit F.CMP_STAT_RAW k = true from hr)).trans (if_neg hout))

theorem blankClose_quiet {n : Nat} (h : blankEnd k s = some n) (hn : n ≤ legTicks (s.get (F.CMP_kCTL_BLEG k)) s)
    (hq : s.bit F.CMP_STAT_RAW k = false ∨ s.bit F.CMP_STAT_OUT k = true) : blankClose k s = setBlank k none s := by
  unfold blankClose
  rw [h]
  refine (if_neg (Nat.not_lt.mpr hn)).trans (ite_eq_right_iff.mpr fun hr => if_pos ?_)
  exact hq.resolve_left ((by rw [show s.bit F.CMP_STAT_RAW k = true from hr]; decide))

end

/-! The temperature sensor (R337). -/

theorem calEnvironment_frame (s : State) : RefFrame s (calEnvironment s) := by
  unfold calEnvironment
  extract_lets n out
  refine .ite (.refl s) (.trans (RefFrame.foldl _ (fun u g _ => ?_) s) (.tbEvent ..))
  exact (RefFrame.setBit (by decide) _ _ _).trans (.updCal ..)

end Sys2Proof.Machine
end

section
/-!
PROOFS. The temperature sensor (R337), and the commands of sensing.
-/
namespace Sys2Proof.Machine

section
variable {s : State} {x : Int}

/-- The measurement with TEMP taken and TJHI looked at, before TSHUT follows. -/
def tjTaken (x : Int) (s : State) : State :=
  let u := s.setInt F.ADC_TJ_TEMP x
  let thi := 4 * u.getInt F.ADC_TJLIM_THI
  if u.sense.tjReady ∧ thi ≤ x then
    ({ u with sense := { u.sense with tjReady := false } }.set F.ADC_SUPSTAT_TJHI 1).raise 0xBC
  else if x < thi - 20 then { u with sense := { u.sense with tjReady := true } }
  else u

theorem tjMeasure_eq (x : Int) (s : State) : tjMeasure x s =
    if 600 ≤ x then (if (tjTaken x s).on F.ADC_TJ_TSHUT then tjTaken x s else ((tjTaken x s).set F.ADC_TJ_TSHUT 1).raise 0xBE)
    else if x < 560 then (tjTaken x s).set F.ADC_TJ_TSHUT 0 else tjTaken x s := rfl

theorem word_tjTaken (x : Int) (s : State) : (tjTaken x s).word R.ADC_TJ = (s.setInt F.ADC_TJ_TEMP x).word R.ADC_TJ := by
  unfold tjTaken
  extract_lets u thi
  split
  · exact ((routerOnly_raise _ _).word _ (by decide)).trans (State.word_set_other _ (by decide) _)
  · split
    · rfl
    · rfl

theorem get_of_word {t u : State} {f : Fld} (h : t.word f.reg = u.word f.reg) : t.get f = u.get f := congrArg (fieldOf f.lo f.wid) h

theorem temp_tjTaken (h : -200 < x) (h' : x ≤ 2047) : tempOf (tjTaken x s) = x := by
  have hget : (tjTaken x s).get F.ADC_TJ_TEMP = (BitVec.ofInt 12 x).toNat % 2 ^ 12 :=
    (get_of_word (f := F.ADC_TJ_TEMP) (word_tjTaken x s)).trans (State.get_set_same s (f := F.ADC_TJ_TEMP) (by decide) _)
  have hval : (BitVec.ofNat 12 ((tjTaken x s).get F.ADC_TJ_TEMP)).toInt = x := by
    rw [hget, Nat.mod_eq_of_lt (BitVec.isLt _), BitVec.ofNat_toNat, BitVec.setWidth_eq, BitVec.toInt_ofInt,
      Int.bmod_eq_of_le (by omega) (by omega)]
  exact hval

theorem shut_tjTaken (x : Int) (s : State) : (tjTaken x s).on F.ADC_TJ_TSHUT = s.on F.ADC_TJ_TSHUT :=
  State.on_congr ((get_of_word (f := F.ADC_TJ_TSHUT) (word_tjTaken x s)).trans
    (State.get_setInt_apart (f := F.ADC_TJ_TEMP) (g := F.ADC_TJ_TSHUT) s (by decide) x))

theorem on_shut_set (v : Nat) (s : State) : (s.set F.ADC_TJ_TSHUT v).on F.ADC_TJ_TSHUT = (v % 2 != 0) := by
  unfold State.on
  rw [State.get_set_same s (f := F.ADC_TJ_TSHUT) (by decide)]
  rfl

/-- A write of TSHUT leaves TEMP. -/
theorem temp_shut (v : Nat) (s : State) : tempOf (s.set F.ADC_TJ_TSHUT v) = tempOf s := by
  unfold tempOf State.getInt
  rw [State.get_set_apart (f := F.ADC_TJ_TSHUT) (g := F.ADC_TJ_TEMP) s (by decide)]

theorem word_raise_tj (n : Nat) (s : State) : (s.raise n).word R.ADC_TJ = s.word R.ADC_TJ := (routerOnly_raise s n).word _ (by decide)

theorem tempOf_of_word {t u : State} (h : t.word R.ADC_TJ = u.word R.ADC_TJ) : tempOf t = tempOf u :=
  congrArg (fun n => (BitVec.ofNat 12 n).toInt) (get_of_word (f := F.ADC_TJ_TEMP) h)

theorem shut_of_word {t u : State} (h : t.word R.ADC_TJ = u.word R.ADC_TJ) : t.on F.ADC_TJ_TSHUT = u.on F.ADC_TJ_TSHUT :=
  State.on_congr (get_of_word (f := F.ADC_TJ_TSHUT) h)

/-- TEMP takes the measurement, and TSHUT follows it with its hysteresis (R337). -/
theorem tjMeasure_taken (h : -200 < x) (h' : x ≤ 2047) : tempOf (tjMeasure x s) = x ∧
    (600 ≤ x → (tjMeasure x s).on F.ADC_TJ_TSHUT = true) ∧ (x < 560 → (tjMeasure x s).on F.ADC_TJ_TSHUT = false) ∧
    (560 ≤ x → x < 600 → (tjMeasure x s).on F.ADC_TJ_TSHUT = s.on F.ADC_TJ_TSHUT) := by
  have htemp := temp_tjTaken (s := s) h h'
  rw [tjMeasure_eq]
  by_cases hot : 600 ≤ x
  · rw [if_pos hot]
    by_cases hon : (tjTaken x s).on F.ADC_TJ_TSHUT = true
    · rw [if_pos hon]
      exact ⟨htemp, fun _ => hon, fun hc => absurd hc (by omega), fun _ hc => absurd hc (by omega)⟩
    · rw [if_neg hon, tempOf_of_word (word_raise_tj ..), shut_of_word (word_raise_tj ..), temp_shut, on_shut_set]
      exact ⟨htemp, fun _ => rfl, fun hc => absurd hc (by omega), fun _ hc => absurd hc (by omega)⟩
  · rw [if_neg hot]
    by_cases hcold : x < 560
    · rw [if_pos hcold, temp_shut, on_shut_set]
      exact ⟨htemp, fun hc => absurd hc hot, fun _ => rfl, fun hc _ => absurd hcold (by omega)⟩
    · rw [if_neg hcold]
      exact ⟨htemp, fun hc => absurd hc hot, fun hc => absurd hc hcold, fun _ _ => shut_tjTaken x s⟩

/-- What follows a measurement writes no word of the sensor. -/
theorem word_measured (x : Int) (s : State) :
    (tampEnd 5 (calEnvironment (thermUpdate (tjMeasure x s))).faultEval).word R.ADC_TJ = (tjMeasure x s).word R.ADC_TJ :=
  (State.word_set_other _ (f := F.LCS_TAMPSTAT_LIVE) (by decide) _).trans
    (((FaultFrame.faultEval _).word _ (by decide)).trans (((calEnvironment_frame _).word _ (by decide)).trans
      ((thermUpdate_frame _).word _ (by decide))))

end

section
variable {c : Fin 4} {s : State}

theorem exec_adcSoft {cid : Cid} (h : Admits cid true (R.ADC_cSOFT c.val).addr s) (w : Word) :
    exec (.adcSoft cid c w) s = .next (settle (adcKindTrigger c 3 s.begin)) := by
  have hc := c.isLt
  have ha : (R.ADC_cSOFT c.val).addr = 0x5000A010 + 256 * c.val := rfl
  exact write_takes (d := 0#64) h (adc_rows c).1.2 (by omega)
    fun _ => (specialWriteSense (by omega)).trans (senseWrite_soft c w s.begin)

theorem exec_resaRead {cid : Cid} {e : Fin 16} (h : Admits cid false (R.ADC_cRESAe c.val e.val).addr s) :
    exec (.resaRead cid c e) s = .next (settle ((resaRead c e s.begin).2.answer (resaRead c e s.begin).1.toNat)) := by
  have hc := c.isLt
  have he := e.isLt
  have ha : (R.ADC_cRESAe c.val e.val).addr = 0x5000A400 + 256 * c.val + 16 * e.val := rfl
  exact read_takes h ((adc_rows c).2 e) (by omega) ((specialReadSense (by omega)).trans (senseRead_resa c e s.begin))

theorem exec_conversionEnd_none (h : (s.conv c).cur = none) : exec (.conversionEnd c) s = .next s.begin := by
  have hrow : exec (.conversionEnd c) s = .next (match (s.begin.conv c).cur with
    | some x => xsrcUpdate c.val x (adcEnd c.val s.begin)
    | none => adcEnd c.val s.begin) := rfl
  rw [hrow, show (s.begin.conv c).cur = none from h]
  exact congrArg Host.Outcome.next (adcEnd_none (s := s.begin) h)

theorem exec_conversionEnd_some {m : Sample} (h : (s.conv c).cur = some m) :
    exec (.conversionEnd c) s = .next (xsrcUpdate c.val m (adcEnd c.val s.begin)) := by
  have hrow : exec (.conversionEnd c) s = .next (match (s.begin.conv c).cur with
    | some x => xsrcUpdate c.val x (adcEnd c.val s.begin)
    | none => adcEnd c.val s.begin) := rfl
  rw [hrow, show (s.begin.conv c).cur = some m from h]

end

/-- Settles O36: a converter's commands by the branches of `adcSeqctl`, `adcTimer`, `adcSample` and `adcEnd`; a comparator's by its state
before and after blanking; the temperature by `tjMeasure`, whose word nothing after it writes. -/
theorem sensing : Obligations.Sensing := by
  unfold Obligations.Sensing
  refine ⟨⟨fun cid c v s h => ?_, fun c s => ?_, fun c v s => ?_, fun c s h => exec_conversionEnd_none h, fun c m s h _ => ?_,
    fun k c e s => rfl, fun cid c e s h => exec_resaRead h⟩, fun k v s he hr => ?_, fun k v s => ?_, fun x s h h' => ?_, fun x s h => ?_,
    fun j s => ?_⟩
  · intro u bad on off ends was
    have hrow := exec_adcSeqctl h v
    refine ⟨fun hv hw hb => ?_, fun hv hw hb => ?_, fun hv hw => ?_, fun hv hw => ?_, fun hv hw => ?_⟩
    · exact hrow.trans (congrArg (fun t => Host.Outcome.next (settle t)) (adcSeqctl_start (s := s.begin) hv hw hb))
    · exact hrow.trans (congrArg (fun t => Host.Outcome.next (settle t)) (adcSeqctl_bad (s := s.begin) hv hw hb))
    · exact hrow.trans (congrArg (fun t => Host.Outcome.next (settle t)) (adcSeqctl_same (s := s.begin) (hv.trans hw.symm)))
    · exact hrow.trans (congrArg (fun t => Host.Outcome.next (settle t)) (adcSeqctl_stop (s := s.begin) hv hw))
    · exact hrow.trans (congrArg (fun t => Host.Outcome.next (settle t)) (adcSeqctl_same (s := s.begin) (hv.trans hw.symm)))
  · intro awaits
    exact ⟨fun t ht hn he => congrArg Host.Outcome.next (adcTimer_fires (s := s.begin) ht hn he),
      fun h => congrArg Host.Outcome.next (adcTimer_idle (s := s.begin) h), fun cid v h => exec_adcSoft h v,
      fun coarse ht => adcTake_taken ht, fun coarse ht => adcTake_ignored ht⟩
  · refine ⟨fun e he hr ht => ?_, fun h => ?_, fun e he hk ht => ?_⟩
    · exact congrArg Host.Outcome.next (adcSample_taken (s := s.begin) he hr ht)
    · rcases h with h | h
      · exact congrArg Host.Outcome.next (adcSample_none (s := s.begin) h)
      · exact congrArg Host.Outcome.next (adcSample_unready (s := s.begin) h)
    · exact congrArg Host.Outcome.next (adcSample_untriggered (s := s.begin) he hk ht)
  · have ht : PortTaken c m s.begin (xsrcUpdate c m (adcEnd c s.begin)) :=
      (portTaken_of_kept (adcEnd_freed (s := s.begin) h)).of_refFrame (xsrcUpdate_frame ..)
    exact ⟨_, exec_conversionEnd_some h, ht.value, ht.status, ht.stamp, ht.cur, ht.endTick, ht.busy, ht.mem, ht.yar⟩
  · intro x d
    unfold cmpTripped
    simp only [he, hr, Bool.true_and, Bool.false_eq_true, if_false, Int.add_zero, Int.sub_zero]
    rfl
  · intro raw low shut out trips releases fault
    refine ⟨fun ht h => ?_, fun ht hs ho => ?_, fun ht => ?_, fun ht h => ?_, fun ht hs ho => ?_, fun ht => ?_, fun n hb hn => ⟨?_, ?_⟩,
      fun hb => ?_⟩
    · exact congrArg Host.Outcome.next ((cmpTrip_of (s := s.begin) ht).trans (cmpRaw_masked (s := setVolts v s.begin) h))
    · exact congrArg Host.Outcome.next ((cmpTrip_of (s := s.begin) ht).trans (cmpRaw_trips (s := setVolts v s.begin) hs ho))
    · exact congrArg Host.Outcome.next (cmpTrip_not (s := s.begin) ht)
    · exact congrArg Host.Outcome.next ((cmpRelease_of (s := s.begin) ht).trans (cmpRaw_masked (s := setVolts v s.begin) h))
    · exact congrArg Host.Outcome.next ((cmpRelease_of (s := s.begin) ht).trans (cmpRaw_releases (s := setVolts v s.begin) hs ho))
    · exact congrArg Host.Outcome.next (cmpRelease_not (s := s.begin) ht)
    · exact fun hr ho => congrArg Host.Outcome.next (blankClose_trips (s := s.begin) hb hn hr ho)
    · exact fun hq => congrArg Host.Outcome.next (blankClose_quiet (s := s.begin) hb hn hq)
    · exact congrArg Host.Outcome.next (blankClose_open (s := s.begin) hb)
  · have hword := word_measured x s.begin
    refine ⟨_, congrArg Host.Outcome.next (if_neg (by omega)), ?_⟩
    dsimp only
    rw [tempOf_of_word hword, shut_of_word hword]
    exact tjMeasure_taken (s := s.begin) h h'
  · exact congrArg Host.Outcome.next (if_pos h)
  · exact ⟨fun h => congrArg Host.Outcome.next (if_neg (Bool.eq_false_iff.mp h)), fun h => congrArg Host.Outcome.next (if_pos h), rfl⟩

end Sys2Proof.Machine
end

section
/-!
PROOFS. A power request for a bank number that names no bank: against the first clause of O29.
-/
namespace Sys2Proof.Machine

/-- The reset access rules let CID 0 write region 20 at the word that the power register of bank 0x18 would have; the register tables
hold none there, as banks 0x18 to 0x1F do not exist. -/
theorem admits_pwr_hole : Admits 0 true (R.MEM_PWR 24).addr State.reset ∧ (regRow? (R.MEM_PWR 24).addr).isNone = true := by decide +kernel

/-- The write is refused as UNMAPPED, and PWRERR is not set. -/
theorem pwrerr_of_hole :
    (settle (fabricWrite 0 (R.MEM_PWR 24).addr 3#32 State.reset.begin)).get (F.MEM_PWR_PWRERR 24) = 0 := by decide +kernel

/-- What the statement says of a request of state 3. -/
def pwrRefused : State := settle ((State.reset.begin.set (F.MEM_PWR_AUTOWAKE 24) 0).set (F.MEM_PWR_PWRERR 24) 1)

theorem pwrerr_of_refused : pwrRefused.get (F.MEM_PWR_PWRERR 24) = 1 := by decide +kernel

/-- Refutes O29: its first clause ranges over the bank numbers below 68, and those between the banks have no power register. -/
theorem not_memoryControl : ¬ Obligations.MemoryControl := by
  unfold Obligations.MemoryControl
  rintro ⟨⟨hreq, -⟩, -⟩
  have hends := (hreq 0 24 3#32 State.reset admits_pwr_hole.1 (by decide)).1 (Or.inl (by decide))
  have hsame : settle (fabricWrite 0 (R.MEM_PWR 24).addr 3#32 State.reset.begin) = pwrRefused := Host.Outcome.next.inj hends
  have herr := pwrerr_of_hole.symm.trans ((congrArg (fun u : State => u.get (F.MEM_PWR_PWRERR 24)) hsame).trans pwrerr_of_refused)
  exact absurd herr (by decide)

end Sys2Proof.Machine
end

section
/-!
PROOFS. Semaphore results of other units, and messages between units (R418 to R420, R433).
-/
namespace Sys2Proof.Machine

variable {s t u : State}

theorem rowS_of_eq {op : State → State} (h : op s.begin = u) : rowS op s = .next (settle u) :=
  congrArg (fun v => Host.Outcome.next (settle v)) h

theorem rowS_of_received {p cls typ : Nat} {f : Frame} {act : Frame → State → State} (h : Received p cls typ f s u)
    (ha : act f u = t) : rowS (onFrame p cls typ act) s = .next (settle t) :=
  (h.rowS act).trans (congrArg (fun v => Host.Outcome.next (settle v)) ha)

/-- The clock and the time limits of the chain stand: what a deadline is counted from and by. -/
structure LimitsKept (s t : State) : Prop where
  now : t.now = s.now
  word : t.word R.CHN_TRCFG0 = s.word R.CHN_TRCFG0

namespace LimitsKept

theorem refl (s : State) : LimitsKept s s := ⟨rfl, rfl⟩
theorem trans (h : LimitsKept s t) (k : LimitsKept t u) : LimitsKept s u := ⟨k.now.trans h.now, k.word.trans h.word⟩

theorem of_regs (hn : t.now = s.now) (hr : t.regs = s.regs) : LimitsKept s t := ⟨hn, by unfold State.word; rw [hr]⟩

theorem ite {c : Prop} [Decidable c] (ht : LimitsKept s t) (hu : LimitsKept s u) : LimitsKept s (if c then t else u) := by
  split
  · exact ht
  · exact hu

theorem raise (n : Nat) (s : State) : LimitsKept s (s.raise n) :=
  ⟨by simp, (routerOnly_raise s n).word R.CHN_TRCFG0 (Or.inr (by decide))⟩

theorem poolLevels (n : Nat) (s : State) : LimitsKept s (poolLevels n s) :=
  (ite (raise _ s) (refl s)).trans (ite (raise _ _) (refl _))

theorem setBuf (i : Nat) (b : Buf) (s : State) : LimitsKept s (s.setBuf i b) := of_regs rfl rfl

theorem moveAll (f : Buf → Buf) (l : List Nat) (s : State) : LimitsKept s (moveAll f l s) := by
  induction l generalizing s with
  | nil => exact refl s
  | cons i l ih =>
    show LimitsKept s (Machine.moveAll f l (s.setBuf i (f (s.buf i))))
    exact (setBuf ..).trans (ih _)

theorem setSlots (p : Nat) (l : List Slot) (s : State) : LimitsKept s (setSlots p l s) :=
  ite (of_regs rfl rfl) (of_regs rfl rfl)

theorem releaseClass (p c : Nat) (s : State) : LimitsKept s (releaseClass p c s) := ite (refl s) (of_regs rfl rfl)

theorem slotDone (p : Nat) (x : Slot) (s : State) : LimitsKept s (slotDone p x s) :=
  ite (setSlots ..) ((setSlots ..).trans (releaseClass ..))

theorem takeBuf (p : List Nat × State) : LimitsKept p.2 (takeBuf p).2 := by
  unfold Machine.takeBuf
  generalize lowestFree p.2 = o
  cases o with
  | none => exact refl _
  | some i => exact of_regs rfl rfl

theorem takeBuf_foldl (l : List Nat) (p : List Nat × State) : LimitsKept p.2 (l.foldl (fun p _ => Machine.takeBuf p) p).2 := by
  induction l generalizing p with
  | nil => exact refl p.2
  | cons _ l ih =>
    rw [List.foldl_cons]
    exact (takeBuf p).trans (ih (Machine.takeBuf p))

theorem takeBufs (n : Nat) (s : State) : LimitsKept s (takeBufs n s).2 := takeBuf_foldl (List.range n) ([], s)

theorem msgDue (h : LimitsKept s t) : msgDue t = msgDue s := by
  have hw : t.get F.CHN_TRCFG0_MSGTO = s.get F.CHN_TRCFG0_MSGTO := get_of_word (f := F.CHN_TRCFG0_MSGTO) h.word
  unfold Machine.msgDue
  rw [h.now, hw]

end LimitsKept

theorem moveAll_chn (f : Buf → Buf) (l : List Nat) (s : State) : (moveAll f l s).chn = s.chn := by
  induction l generalizing s with
  | nil => rfl
  | cons i l ih => exact ih _

/-! The start of a message at its receiver (R420 step 3). -/

section
variable {p : Nat} {x : Slot}

/-- The buffers of an MSTART are taken where there is room, and else it is noted as held, once. -/
def takenAt (p : Nat) (x : Slot) (held : Bool) (due : Nat) (b : State) : State :=
  let n := x.f.at_ 1 1
  let r := takeBufs n (slotDone p x (unhold x.f b))
  let v := poolLevels (freeCount b) r.2
  if msgRoom n b then
    { v with chn := { v.chn with msgIn := v.chn.msgIn ++ [{ src := x.f.src, tag := x.f.tag, mbx := x.f.at_ 0 1, bufs := r.1, due := due }] } }
  else if held then b else { b with chn := { b.chn with msgHeld := b.chn.msgHeld ++ [(x.f.src, x.f.tag, due)] } }

theorem msgTake_eq (p : Nat) (x : Slot) (b : State) :
    msgTake p x b = takenAt p x (b.chn.msgHeld.any (heldFor x.f)) (msgDue b) b := by
  have hdue : msgDue (poolLevels (freeCount b) (takeBufs (x.f.at_ 1 1) (slotDone p x (unhold x.f b))).2) = msgDue b :=
    (((LimitsKept.of_regs (t := unhold x.f b) rfl rfl).trans (LimitsKept.slotDone ..)).trans
      ((LimitsKept.takeBufs ..).trans (LimitsKept.poolLevels ..))).msgDue
  unfold msgTake takenAt
  dsimp only
  rw [hdue]

theorem msgTake_msgDrop (m : MsgIn) (s : State) :
    msgTake p x (msgDrop m s) = takenAt p x (s.chn.msgHeld.any (heldFor x.f)) (msgDue s) (msgDrop m s) := by
  have hchn : (msgDrop m s).chn = { s.chn with msgIn := s.chn.msgIn.erase m } := moveAll_chn ..
  have hdue : msgDue (msgDrop m s) = msgDue s := ((LimitsKept.of_regs rfl rfl).trans (LimitsKept.moveAll freed m.bufs _)).msgDue
  rw [msgTake_eq, hdue, hchn]

theorem msgAllocate_of_held (h : slotFind p 2 1 s = some x) (hh : s.chn.msgHeld.any (heldFor x.f) = true) :
    msgAllocate p s = takenAt p x true (msgDue s) s := by
  unfold msgAllocate
  rw [h]
  exact (if_pos hh).trans ((msgTake_eq p x s).trans (by rw [hh]))

theorem msgAllocate_of_free (h : slotFind p 2 1 s = some x) (hh : s.chn.msgHeld.any (heldFor x.f) = false) : msgAllocate p s = s := by
  unfold msgAllocate
  rw [h]
  exact if_neg (by simp [hh])

theorem msgAllocate_of_none (h : slotFind p 2 1 s = none) : msgAllocate p s = s := by
  unfold msgAllocate
  rw [h]

theorem onMstart_of_none (h : slotFind p 2 1 s = none) : onMstart p s = s := by
  unfold onMstart
  rw [h]

theorem onMstart_of_quarantined (h : slotFind p 2 1 s = some x) (hq : quarantined s = true) :
    onMstart p s = chainSend (errReply x.f 7) (slotDone p x s) := by
  unfold onMstart
  rw [h]
  exact if_pos hq

theorem onMstart_of_repeated {r : Frame} (h : slotFind p 2 1 s = some x) (hq : quarantined s = false) (hd : dupFind x.f s = some r) :
    onMstart p s = chainSend r (slotDone p x s) := by
  unfold onMstart
  rw [h]
  refine (if_neg (by simp [hq])).trans ?_
  rw [hd]

/-- A new MSTART: a message in assembly of the same source and TAG is given up. -/
theorem onMstart_of_new (h : slotFind p 2 1 s = some x) (hq : quarantined s = false) (hd : dupFind x.f s = none) :
    onMstart p s = msgTake p x (match s.chn.msgIn.find? (fun m => m.src == x.f.src && m.tag == x.f.tag) with
      | some m => msgDrop m s
      | none => s) := by
  unfold onMstart
  rw [h]
  refine (if_neg (by simp [hq])).trans ?_
  rewrite [hd]
  rfl

end

/-! A message's data and its end (R420 steps 4, 5). -/

section
variable {f : Frame} {m : MsgIn}

theorem onMdata_of_none (h : s.chn.msgIn.find? (fun m => m.src == f.src && m.tag == f.tag) = none) : onMdata f s = s := by
  unfold onMdata
  rw [h]

theorem onMdata_of_open {b : Nat} (h : s.chn.msgIn.find? (fun m => m.src == f.src && m.tag == f.tag) = some m)
    (hb : m.bufs[m.got]? = some b) : onMdata f s =
      let m' := { m with got := m.got + 1, due := msgDue s }
      let v := bufPut { cid := portBCid f.src, origin := f.src } b f.data
        { s with chn := { s.chn with msgIn := s.chn.msgIn.map (fun x => if x = m then m' else x) } }
      if m.got + 1 = m.bufs.length then msgPost m' f v else v := by
  unfold onMdata
  rw [h]
  dsimp only
  rw [hb]

theorem msgtoHeld_of_found {p : Nat} {x : Slot} (h : slotFind p 2 1 s = some x) : msgtoHeld p s =
    if s.chn.msgHeld.any (fun e => heldFor x.f e && decide (e.2.2 ≤ s.now)) then
      replyKept x.f (errReply x.f 8) (slotDone p x (unhold x.f s)) else s := by
  unfold msgtoHeld
  rw [h]

theorem msgtoAssembly_of_found {src tag : Nat} (h : s.chn.msgIn.find? (fun m => m.src == src && m.tag == tag) = some m) :
    msgtoAssembly src tag s = if s.now < m.due then s else
      replyKept { cls := 2, dst := 0, typ := 1, src := src, tag := tag } (errReply { cls := 2, dst := 0, typ := 1, src := src, tag := tag } 8)
        (msgDrop m s) := by
  unfold msgtoAssembly
  rw [h]

end

/-! A message at its sender (R420 steps 1, 2). -/

theorem msgSend_eq (cid : Nat) (v : Word) (s : State) : msgSend cid v s =
    let h := v.toNat % 65536
    let r := poolTransit cid h 32 s
    let mo : MsgOut := { rec_ := 32, handle := h, cid := cid }
    let w : State := { r.2 with chn := { r.2.chn with msgOut := r.2.chn.msgOut ++ [mo] } }
    if r.1 then
      match issueCheck (fieldOf 24 7 v) w with
      | some c => msgEnd mo c w
      | none => startReq
        { f := { cls := 2, dst := fieldOf 24 7 v, typ := 1, src := 0, data := [BitVec.ofNat 8 (fieldOf 16 5 v), BitVec.ofNat 8 (chain (h % 512) w).length, 64#8, BitVec.ofNat 8 cid, 0#8, 0#8, 0#8, 0#8] },
          by_ := .msg, off := 0, cid := cid, kind := 3 } w
    else r.2 := by
  unfold msgSend
  dsimp only
  obtain ⟨_ | _, u⟩ := poolTransit cid (v.toNat % 65536) 32 s
  · rfl
  · dsimp only
    rewrite [if_pos rfl]
    cases issueCheck (fieldOf 24 7 v) _ <;> rfl

theorem chnWrite_msgsend (c : Nat) (w : Word) (s : State) : chnWrite c R.CHN_MSGSEND.addr w s = some (.ok 0#64, msgSend c w s) := by
  simp [chnWrite, show R.CHN_MSGSEND.addr - 0x5000D000 = 0x160 from rfl]

theorem chnRead_msgres (s : State) : chnRead R.CHN_MSGRES.addr s = some (msgresRead s) := by
  simp [chnRead, show R.CHN_MSGRES.addr - 0x5000D000 = 0x164 from rfl]

theorem msgsend_runs {cid : Cid} {v : Word} (h : Admits cid true R.CHN_MSGSEND.addr s) (hu : msgSend cid.toNat v s.begin = u) :
    exec (.msgsend cid v) s = .next (settle u) :=
  write_takes (d := 0#64) h (by decide +kernel) (by decide) fun _ =>
    (specialWriteChn (by decide)).trans ((chnWrite_msgsend ..).trans (by rw [hu]))

theorem msgresRead_runs {cid : Cid} (h : Admits cid false R.CHN_MSGRES.addr s) :
    exec (.msgresRead cid) s = .next (settle ((msgresRead s.begin).2.answer (msgresRead s.begin).1.toNat)) :=
  read_takes h (by decide +kernel) (by decide) ((specialReadChn (by decide)).trans (chnRead_msgres _))

/-! The results of remote semaphores (R418). -/

theorem onSemevt_of_known {f : Frame} (h : s.chn.acked.contains (f.src, f.tag) = true) : onSemevt f s = chainSend (reply f 8 []) s := by
  unfold onSemevt
  dsimp only
  rw [if_pos h]

theorem onSemevt_of_new {f : Frame} (h : s.chn.acked.contains (f.src, f.tag) = false) : onSemevt f s =
    chainSend (reply f 8 []) (remoteResult f.src (96 + f.at_ 4 1 % 32) (f.at_ 5 1 % 64) (f.at_ 0 4 % 16)
      { s with chn := { s.chn with
        acked := ((f.src, f.tag) :: s.chn.acked).filter (fun e => e.1 != f.src || decide ((f.tag + 256 - e.2) % 256 < 128)) } }) := by
  unfold onSemevt
  dsimp only
  rw [if_neg (by simp only [h]; decide)]

theorem semevtTimeout_of_none {dst tag : Nat} (h : s.chn.events.find? (fun e => e.dst == dst && e.tag == tag) = none) :
    semevtTimeout dst tag s = s := by
  unfold semevtTimeout
  rw [h]

/-- An outcome that waits for its acknowledgement: kept before its time, dropped with the last try, and else sent again. -/
theorem semevtTimeout_of_found {dst tag : Nat} {e : SemEvent}
    (h : s.chn.events.find? (fun e => e.dst == dst && e.tag == tag) = some e) : semevtTimeout dst tag s =
      let gone : State := { s with chn := { s.chn with events := s.chn.events.erase e } }
      if s.now < e.due then s
      else if e.tries = 0 then
        if e.res.toNat % 16 = 1 then semOrphanGive (96 + e.sem) ⟨e.cid, e.dst, 0⟩ gone else gone
      else chainSend
        { cls := 1, dst := dst, typ := 7, src := 0, tag := tag,
          data := leBytes 4 e.res.toNat ++ [BitVec.ofNat 8 e.sem, BitVec.ofNat 8 e.cid, 0#8, 0#8] }
        { s with chn := { s.chn with events := s.chn.events.map (fun x => if x = e then { x with tries := x.tries - 1, due := rspDue s } else x) } } := by
  unfold semevtTimeout
  rw [h]

/-- Settles O46: each frame, register and deadline by its case. -/
theorem semaphoreEventsAndMessages : Obligations.SemaphoreEventsAndMessages := by
  unfold Obligations.SemaphoreEventsAndMessages
  refine ⟨⟨?_, ?_, ?_, ?_⟩, ?_, ?_, ?_, ?_, ?_, ?_, ?_⟩
  · intro p f s u h acked
    exact ⟨fun hk => rowS_of_received h (onSemevt_of_known hk),
      fun hk => rowS_of_received h (onSemevt_of_new hk)⟩
  · exact fun p f s u h => h.rowS onSemack
  · intro dst tag s found
    have hrun {v : State} (hv : semevtTimeout dst.toNat tag.toNat s.begin = v) : exec (.semevtTimeout dst tag) s = .next (settle v) :=
      rowS_of_eq hv
    refine ⟨?_, fun hn => hrun (semevtTimeout_of_none (s := s.begin) hn)⟩
    intro e he gone evs
    have hall := semevtTimeout_of_found (s := s.begin) he
    refine ⟨fun hd => hrun (hall.trans (if_pos hd)), fun hd h0 h1 => hrun (hall.trans ?_), fun hd h0 h1 => hrun (hall.trans ?_),
      fun hd h0 => hrun (hall.trans ?_)⟩
    · exact (if_neg (Nat.not_lt.mpr hd)).trans ((if_pos h0).trans (if_neg h1))
    · exact (if_neg (Nat.not_lt.mpr hd)).trans ((if_pos h0).trans (if_pos h1))
    · exact (if_neg (Nat.not_lt.mpr hd)).trans (if_neg h0)
  · exact fun p f s u h => h.rowS onPinote
  · intro cid v s u h n dst mo w
    have hsend := msgSend_eq cid.toNat v s.begin
    refine ⟨fun ht => msgsend_runs h (hsend.trans ?_), fun c ht hc => msgsend_runs h (hsend.trans ?_),
      fun ht hc => msgsend_runs h (hsend.trans ?_)⟩
    all_goals
      dsimp only
      rewrite [show poolTransit cid.toNat (v.toNat % 65536) 32 s.begin = _ from ht]
    · exact if_neg Bool.false_ne_true
    · refine (if_pos rfl).trans ?_
      rewrite [show issueCheck (fieldOf 24 7 v) _ = _ from hc]
      rfl
    · refine (if_pos rfl).trans ?_
      rewrite [show issueCheck (fieldOf 24 7 v) _ = _ from hc]
      rfl
  · intro p x s h f n held taken into note take open_
    have hnew {v : State} (hq : quarantined s = false) (hd : dupFind f s = none)
        (ho : (match open_ with
          | some m => msgDrop m s.begin
          | none => s.begin) = v) : onMstart p.val s.begin = msgTake p.val x v := by
      rw [← ho]
      exact onMstart_of_new h hq hd
    have hstart {v : State} (hv : onMstart p.val s.begin = v) : exec (.mstart p) s = .next (settle v) :=
      rowS_of_eq hv
    have htaken (b : State) : takenAt p.val x held (msgDue s) b = take b := rfl
    refine ⟨fun hh => rowS_of_eq ((msgAllocate_of_held (s := s.begin) h hh).trans ?_),
      fun hh => rowS_of_eq (msgAllocate_of_free (s := s.begin) h hh),
      fun hq => hstart (onMstart_of_quarantined h hq), fun r hq hd => hstart (onMstart_of_repeated h hq hd),
      fun hq hd ho => hstart ?_, fun m hq hd ho => hstart ?_⟩
    · rw [← htaken, hh]
      rfl
    · exact (hnew hq hd (by rewrite [ho]; rfl)).trans (msgTake_eq p.val x s.begin)
    · exact (hnew hq hd (by rewrite [ho]; rfl)).trans (msgTake_msgDrop m s.begin)
  · exact fun p s h => ⟨rowS_of_eq (msgAllocate_of_none h),
      rowS_of_eq (onMstart_of_none h)⟩
  · intro p f s u h open_
    exact
      ⟨fun m b ho hb => rowS_of_received h (onMdata_of_open ho hb),
        fun ho => rowS_of_received h (onMdata_of_none ho)⟩
  · intro p src tag x s h late
    exact rowS_of_eq (msgtoHeld_of_found (s := s.begin) h)
  · intro src tag m s h start
    have hall := msgtoAssembly_of_found (s := s.begin) h
    exact ⟨fun hd => rowS_of_eq (hall.trans (if_neg (Nat.not_lt.mpr hd))),
      fun hd => rowS_of_eq (hall.trans (if_pos hd))⟩
  · intro cid s h
    refine ⟨fun r rs hr => (msgresRead_runs h).trans ?_, fun hr => (msgresRead_runs h).trans ?_⟩
    all_goals
      unfold msgresRead
      rewrite [show s.begin.chn.msgRes = _ from hr]
    · dsimp only
      rw [BitVec.toNat_ofNat]
      rfl
    · rfl

end Sys2Proof.Machine
end

section
/-!
PROOFS. The records of open requests to other units (R410 to R412, R288).
-/
namespace Sys2Proof.Machine

variable {s t u : State}

/-- The records of open requests, the requests that wait and the pool's buffers stand. -/
structure ReqsKept (s t : State) : Prop where
  reqs : t.chn.reqs = s.chn.reqs
  waitQ : t.chn.waitQ = s.chn.waitQ
  share : t.share = s.share

namespace ReqsKept

theorem refl (s : State) : ReqsKept s s := ⟨rfl, rfl, rfl⟩
theorem trans (h : ReqsKept s t) (k : ReqsKept t u) : ReqsKept s u :=
  ⟨k.reqs.trans h.reqs, k.waitQ.trans h.waitQ, k.share.trans h.share⟩

theorem ite {c : Prop} [Decidable c] (ht : ReqsKept s t) (hu : ReqsKept s u) : ReqsKept s (if c then t else u) := by
  split
  · exact ht
  · exact hu

theorem foldl {β : Type} {f : State → β → State} (hf : ∀ u b, ReqsKept s u → ReqsKept s (f u b)) :
    ∀ (l : List β) {t : State}, ReqsKept s t → ReqsKept s (l.foldl f t)
  | [], _, h => h
  | b :: l, _, h => foldl hf l (hf _ b h)

section
variable (h : ReqsKept s t)
include h

theorem of_chn (hc : u.chn = t.chn) (hs : u.share = t.share) : ReqsKept s u := h.trans ⟨by rw [hc], by rw [hc], hs⟩
theorem raise (n : Nat) : ReqsKept s (t.raise n) := of_chn h (by simp) (by simp)
theorem setWord (r : Reg) (w : Word) : ReqsKept s (t.setWord r w) := ⟨h.reqs, h.waitQ, h.share⟩
theorem set (f : Fld) (v : Nat) : ReqsKept s (t.set f v) := setWord h _ _
theorem setBit (f : Fld) (i : Nat) (b : Bool) : ReqsKept s (t.setBit f i b) := set h _ _
theorem count (f : Fld) (n : Nat) : ReqsKept s (t.count f n) := set h _ _
theorem setMem (m : Memory) : ReqsKept s { t with mem := m } := ⟨h.reqs, h.waitQ, h.share⟩
theorem setMemCtl (m : MemCtl) : ReqsKept s { t with memCtl := m } := ⟨h.reqs, h.waitQ, h.share⟩
theorem setPort (p : Fin 2) (x : Port) : ReqsKept s (t.setPort p x) := ⟨h.reqs, h.waitQ, h.share⟩

theorem setDone (l : List (ReqBy × Option DWord)) : ReqsKept s { t with chn := { t.chn with done := l } } := ⟨h.reqs, h.waitQ, h.share⟩

theorem fault (k : FaultFrame t u) : ReqsKept s u := of_chn h (congrArg State.chn k.rest :) (congrArg State.share k.rest :)

theorem busErr (who : Who) (write : Bool) (a : Nat) (c : Cause) : ReqsKept s (busErr who write a c t) := by
  unfold Machine.busErr
  exact raise (set (setWord (setWord (count h _ _) _ _) _ _) _ _) _

theorem xEvent (b : Nat) : ReqsKept s (xEvent b t) := ite (raise (setBit h F.CHN_XEVT b true) _) (setBit h F.CHN_XEVT b true)

theorem chainSendOn (p : Fin 2) (f : Frame) : ReqsKept s (chainSendOn p f t) := ite h (ite (setPort h _ _) h)

theorem hostPut (f : Frame) : ReqsKept s (hostPut f t) := by
  unfold Machine.hostPut
  exact ite ⟨h.reqs, h.waitQ, h.share⟩ h

theorem chainSend (f : Frame) : ReqsKept s (chainSend f t) := by
  unfold Machine.chainSend
  exact ite (chainSendOn (ite h (chainSendOn h _ _)) _ _) (ite (ite (hostPut h _) h) (ite (chainSendOn h _ _) h))

theorem poolLevels (n : Nat) : ReqsKept s (poolLevels n t) := by
  have hlow : ReqsKept s (if t.get F.POOL_LOWMARK_MARK ≤ n ∧ freeCount t < t.get F.POOL_LOWMARK_MARK then t.raise 0x35 else t) :=
    ite (raise h _) h
  exact ite (raise hlow _) hlow

/-! One word of a buffer. -/

theorem bankReach (b n : Nat) : ReqsKept s (bankReach b n t) := by
  unfold Machine.bankReach
  extract_lets wasOff mc s1 s2 s3
  have h2 : ReqsKept s s2 := ite (setMem (setMemCtl h _) _) (setMemCtl h _)
  have h3 : ReqsKept s s3 := set (set h2 _ _) _ _
  exact ite (raise h3 _) h3

theorem bankWake (b : Nat) : ReqsKept s (bankWake b t).2 := by
  unfold Machine.bankWake
  split
  · exact bankReach h b 0
  · split
    · exact bankReach h b 0
    · exact raise h _
  · exact raise h _
  · split
    · exact h
    · split
      · exact bankReach h b 0
      · exact raise h _
    · exact raise h _

theorem bankReady (a : Nat) : ReqsKept s (bankReady a t).2 := by
  unfold Machine.bankReady
  split
  · exact h
  · split
    · exact h
    · exact bankWake h _

theorem bankServed (a cid : Nat) : ReqsKept s (bankServed a cid t) := by
  unfold Machine.bankServed
  split
  · exact h
  · split
    · exact h
    · exact setMemCtl h _

theorem noteCorrected (who : Who) (a p : Nat) : ReqsKept s (noteCorrected who a p t) := by
  unfold Machine.noteCorrected
  exact raise (set (set (setWord (count h _ _) _ _) _ _) _ _) _

theorem noteUncorrectable (who : Who) (a kind : Nat) : ReqsKept s (noteUncorrectable who a kind t) := by
  unfold Machine.noteUncorrectable
  exact fault (raise (set (set (set (set (set (setWord (count h _ _) _ _) _ _) _ _) _ _) _ _) _ _) _) (.faultPulse _ _)

theorem ramReadWord (who : Who) (kind a : Nat) : ReqsKept s (ramReadWord who kind a t).2 := by
  unfold Machine.ramReadWord
  dsimp only
  split
  · exact bankServed h _ _
  · exact noteCorrected (setMem (bankServed h _ _) _) _ _ _
  · exact noteUncorrectable (bankServed h _ _) _ _ _

theorem ramReadSmall (who : Who) (kind a size : Nat) : ReqsKept s (ramReadSmall who kind a size t).2 := by
  have hready := bankReady h a
  unfold Machine.ramReadSmall
  generalize Machine.bankReady a t = r at hready
  obtain ⟨_ | _, u⟩ := r
  · exact hready
  · have hread := ramReadWord hready who kind (wordAddr a)
    dsimp only at hread ⊢
    generalize Machine.ramReadWord who kind (wordAddr a) u = q at hread
    obtain ⟨_ | w, v⟩ := q <;> exact hread

theorem bufWord (who : Who) (i j : Nat) : ReqsKept s (bufWord who i j t).2 := by
  obtain ⟨a, ha⟩ : ∃ a, a = 0x43000000 + 64 * i + 4 * j := ⟨_, rfl⟩
  have hread := ramReadSmall h who 0 a 4
  rw [IdKept.bufWord_at who ha]
  generalize Machine.ramReadSmall who 0 a 4 t = r at hread
  obtain ⟨d | c, v⟩ := r
  · exact hread
  · exact busErr (show ReqsKept s v from hread) who false a c

theorem bufGet (who : Who) (i : Nat) : ReqsKept s (bufGet who i t).2 := by
  have hall : ∀ (l : List Nat) (p : List Byte × State), ReqsKept s p.2 →
      ReqsKept s (l.foldl (fun p j => let r := Machine.bufWord who i j p.2; (p.1 ++ leBytes 4 r.1, r.2)) p).2 := by
    intro l
    induction l with
    | nil => exact fun _ hp => hp
    | cons j l ih => exact fun p hp => ih _ (bufWord hp who i j)
  exact hall _ ([], t) h

theorem sendData (f : Frame) (cid i : Nat) (last : Bool) : ReqsKept s (sendData f cid i last t) := by
  unfold Machine.sendData
  exact chainSend (bufGet h _ _) _

theorem sendReq (r : Req) (flag : Bool) : ReqsKept s (sendReq r flag t) := by
  unfold Machine.sendReq
  refine ite ?_ (chainSend h _)
  split
  · exact foldl (fun u b hu => sendData hu _ _ _ _) _ (chainSend h _)
  · exact chainSend h _

theorem txErr (off dst cid code kind : Nat) : ReqsKept s (txErr off dst cid code kind t) := by
  unfold Machine.txErr
  exact xEvent (set (setWord (set (set h _ _) _ _) _ _) _ _) _

end

end ReqsKept

/-! The start of a request (R410, R411, R288). -/

theorem LimitsKept.poolReserve (cid : Nat) (s : State) : LimitsKept s (poolReserve cid s).2 := by
  unfold Machine.poolReserve
  split
  · exact .refl s
  · split
    · exact .refl s
    · exact (LimitsKept.setBuf ..).trans (.poolLevels ..)

theorem LimitsKept.rspDue (h : LimitsKept s t) : rspDue t = rspDue s := by
  have hw : t.get F.CHN_TRCFG0_RSPTO = s.get F.CHN_TRCFG0_RSPTO := get_of_word (f := F.CHN_TRCFG0_RSPTO) h.word
  unfold Machine.rspDue
  rw [h.now, hw]

theorem chn_poolLevels (n : Nat) (s : State) : (poolLevels n s).chn = s.chn := by
  unfold poolLevels
  dsimp only
  split <;> split <;> simp

/-- A reservation leaves the chain as it is and its buffer reserved. -/
theorem poolReserve_some {cid b : Nat} {v : State} (h : poolReserve cid s = (some b, v)) : v.chn = s.chn ∧ (v.buf b).st = .reserved := by
  unfold poolReserve at h
  split at h
  · simp at h
  · split at h
    · simp at h
    · next i _ =>
      obtain ⟨hb, rfl⟩ := Prod.mk.inj h
      obtain rfl := Option.some.inj hb
      refine ⟨(chn_poolLevels ..).trans rfl, ?_⟩
      rw [buf_congr (ReqsKept.poolLevels (.refl _) _).share, buf_setBuf_same]

theorem startReq_of_none {q : Plan}
    (h : (List.range 32).find? (fun i => (s.chn.reqs.get (recIx i)).isNone) = none ∨ (poolReserve q.cid s).1 = none) :
    startReq q s = { s with chn := { s.chn with waitQ := s.chn.waitQ ++ [q] } } := by
  unfold startReq
  split
  · next i b u hi hb =>
    rcases h with h | h
    · exact absurd (h.symm.trans hi) (by simp)
    · exact absurd (h.symm.trans (congrArg Prod.fst hb)) (by simp)
  · rfl

/-- The record of a request that has begun. -/
def reqOf (q : Plan) (i b : Nat) (v : State) : Req :=
  { f := { q.f with tag := i + 32 * (v.chn.uses.get (recIx i) % 4) }, by_ := q.by_, off := q.off, cid := q.cid, kind := q.kind,
    take := q.take, buf := b, tries := v.get F.CHN_TRCFG0_RETRIES, due := rspDue v }

theorem startReq_of_some {q : Plan} {i b : Nat} {v : State}
    (hi : (List.range 32).find? (fun i => (s.chn.reqs.get (recIx i)).isNone) = some i) (hb : poolReserve q.cid s = (some b, v)) :
    (startReq q s).chn.reqs.get (recIx i) = some (reqOf q i b v) ∧ ((startReq q s).buf b).st = .reserved := by
  unfold startReq
  rw [hi, hb]
  have hsent (w : State) := ReqsKept.sendReq (.refl w) (reqOf q i b v) false
  constructor
  · refine (congrArg (fun l => Vector.get l (recIx i)) (hsent _).reqs).trans ?_
    exact Vector.getElem_set_self ..
  · exact (congrArg Buf.st (buf_congr (hsent _).share b)).trans (poolReserve_some hb).2

/-! The end of a request (R411, R412). -/

theorem chn_poolRelease (i : Nat) (s : State) : (poolRelease i s).chn = s.chn := by
  unfold poolRelease
  split <;> rfl

/-- The end of a message changes no request record. -/
theorem msgEnd_reqs (m : MsgOut) (code : Nat) (s : State) : (msgEnd m code s).chn.reqs = s.chn.reqs ∧ (msgEnd m code s).chn.waitQ = s.chn.waitQ := by
  have hres (h c k : Nat) (v : State) : (msgResult h c k v).chn.reqs = v.chn.reqs ∧ (msgResult h c k v).chn.waitQ = v.chn.waitQ := by
    have hx := ReqsKept.xEvent (.refl (if v.chn.msgRes.length < 8 then
      { v with chn := { v.chn with msgRes := v.chn.msgRes ++ [⟨h, c, k⟩] } } else v)) 1
    refine ⟨hx.reqs.trans ?_, hx.waitQ.trans ?_⟩ <;> split <;> rfl
  obtain ⟨h1, h2⟩ := hres m.handle code m.cid _
  refine ⟨h1.trans ?_, h2.trans ?_⟩
  all_goals
    split <;> rw [moveAll_chn]

/-- The record is free, its use counted on and its reservation released. -/
def reqClosed (i : Nat) (r : Req) (s : State) : State :=
  let s := { s with chn := { s.chn with
    reqs := s.chn.reqs.set (recIx i).val none (recIx i).isLt
    uses := vupd s.chn.uses (recIx i) (fun u => (u + 1) % 4) } }
  poolRelease r.buf (s.set F.CHN_TXSTAT_OUTST (s.get F.CHN_TXSTAT_OUTST - 1))

/-- A refused access is logged (R92, R93). -/
def reqRefused (r : Req) (c : Nat) (s : State) : State :=
  let s := txErr r.off r.f.dst r.cid c r.kind s
  let write := r.kind = 1 ∨ r.kind = 3 ∨ (r.kind = 2 ∧ (r.f.at_ 0 1 ≠ 0 ∨ r.take))
  let s := busErr { cid := r.cid } write (0x60000000 + (r.f.dst - 1) * 0x8000 + r.off) .remote s
  { s with chn := { s.chn with done := s.chn.done ++ [(r.by_, none)] } }

theorem ReqsKept.reqRefused (r : Req) (c : Nat) (s : State) : ReqsKept s (reqRefused r c s) := by
  unfold Machine.reqRefused
  exact setDone (busErr (txErr (refl s) _ _ _ _ _) _ _ _ _) _

/-- Who waits for the request is told its end. -/
def reqTold (i : Nat) (r : Req) (x : Except Nat DWord) (s : State) : State :=
  if r.by_ = .msg then
    match s.chn.msgOut.find? (fun m => m.rec_ == i) with
    | some m => msgEnd m (match x with
      | .ok _ => 0
      | .error c => c) s
    | none => s
  else match x with
    | .ok d => { s with chn := { s.chn with done := s.chn.done ++ [(r.by_, some d)] } }
    | .error c => reqRefused r c s

theorem endReq_of_open {i : Nat} {r : Req} (hr : s.chn.reqs.get (recIx i) = some r) (x : Except Nat DWord) :
    endReq i x s =
      let s := reqTold i r x (reqClosed i r s)
      match s.chn.waitQ with
      | [] => s
      | q :: qs => startReq q { s with chn := { s.chn with waitQ := qs } } := by
  unfold endReq
  rewrite [hr]
  rfl

theorem chn_reqClosed (i : Nat) (r : Req) (s : State) : (reqClosed i r s).chn = { s.chn with
    reqs := s.chn.reqs.set (recIx i).val none (recIx i).isLt, uses := vupd s.chn.uses (recIx i) (fun u => (u + 1) % 4) } := by
  unfold reqClosed
  dsimp only
  rw [chn_poolRelease, State.set_chn]

theorem reqTold_reqs (i : Nat) (r : Req) (x : Except Nat DWord) (s : State) :
    (reqTold i r x s).chn.reqs = s.chn.reqs ∧ (reqTold i r x s).chn.waitQ = s.chn.waitQ := by
  unfold reqTold
  split
  · split
    · exact msgEnd_reqs ..
    · exact ⟨rfl, rfl⟩
  · split
    · exact ⟨rfl, rfl⟩
    · exact ⟨(ReqsKept.reqRefused r _ s).reqs, (ReqsKept.reqRefused r _ s).waitQ⟩

/-- The record of a request that ends is free, where none waits for it. -/
theorem endReq_free (i : Nat) (x : Except Nat DWord) (h : s.chn.waitQ = []) : (endReq i x s).chn.reqs.get (recIx i) = none := by
  cases hr : s.chn.reqs.get (recIx i) with
  | none =>
    unfold endReq
    rewrite [hr]
    exact hr
  | some r =>
    obtain ⟨hreqs, hwait⟩ := reqTold_reqs i r x (reqClosed i r s)
    rw [chn_reqClosed] at hreqs hwait
    rw [endReq_of_open hr]
    dsimp only
    rewrite [hwait.trans h]
    refine (congrArg (fun l => Vector.get l (recIx i)) hreqs).trans ?_
    exact Vector.getElem_set_self ..

end Sys2Proof.Machine
end

section
/-!
PROOFS. Accesses through the windows of other units, and the ends of their requests (R408 to R412).
-/
namespace Sys2Proof.Machine

variable {s t u : State}

/-! What a client sees of an access to another unit's window. -/

/-- The answer of an access to another unit, or its wait for the response. -/
def remoteReply (cid : Nat) (w : Bool) (a : Nat) (r : Reply × State) : State :=
  match r.1 with
  | .ans (.ok d) => r.2.answer d.toNat
  | .ans (.refused c) => (busErr { cid := cid } w a c r.2).answerRefused c.code
  | .wait => r.2

theorem chainAccess_of_logged {cid : Cid} {w : Bool} {a : Word} {sz : Fin 4} {v : DWord} {r : Reply × State}
    (h : fabric .other { cid := cid.toNat } w a.toNat (2 ^ sz.val) (v.toNat % 256 ^ 2 ^ sz.val) s =
      loggedReply { cid := cid.toNat } w a.toNat r) : chainAccess cid w a sz v s = remoteReply cid.toNat w a.toNat r := by
  unfold chainAccess remoteReply
  rewrite [h]
  unfold loggedReply logged
  obtain ⟨(d | c) | _, u⟩ := r <;> dsimp only

section
variable {cid : Cid} {w : Bool} {a : Word} {sz : Fin 4} {v : DWord}

theorem chainAccess_remote
    (h : (accessCheck { cid := cid.toNat } w a.toNat (2 ^ sz.val) s).toOption = some 32)
    (hn : (a.toNat - 0x60000000) / 0x8000 + 1 ≠ ownAddr s) :
    chainAccess cid w a sz v s = remoteReply cid.toNat w a.toNat (remoteAccess .other cid.toNat w ((a.toNat - 0x60000000) / 0x8000 + 1)
      (a.toNat % 0x8000) (2 ^ sz.val) (v.toNat % 256 ^ 2 ^ sz.val) s) := by
  refine chainAccess_of_logged ?_
  unfold fabric
  rewrite [accessCheck_of_toOption h]
  exact (if_neg (by decide)).trans ((if_pos rfl).trans (if_neg hn))

theorem chainAccess_broadcast
    (h : (accessCheck { cid := cid.toNat } w a.toNat (2 ^ sz.val) s).toOption = some 33) :
    chainAccess cid w a sz v s = remoteReply cid.toNat w a.toNat
      (.ans (broadcastWrite cid.toNat (a.toNat % 0x8000) (2 ^ sz.val) (v.toNat % 256 ^ 2 ^ sz.val) s).1,
        (broadcastWrite cid.toNat (a.toNat % 0x8000) (2 ^ sz.val) (v.toNat % 256 ^ 2 ^ sz.val) s).2) := by
  refine chainAccess_of_logged ?_
  unfold fabric
  rewrite [accessCheck_of_toOption h]
  exact (if_neg (by decide)).trans ((if_neg (by decide)).trans (if_pos rfl))

end

theorem issuePlan_of_sent {q : Plan} (h : issueCheck q.f.dst s = none) : issuePlan q s = (true, startReq q s) := by
  unfold issuePlan
  rewrite [h]
  rfl

theorem issuePlan_of_refused {q : Plan} {e : Nat} (h : issueCheck q.f.dst s = some e) :
    issuePlan q s = (false, txErr q.off q.f.dst q.cid e q.kind s) := by
  unfold issuePlan
  rewrite [h]
  rfl

theorem remoteReply_sent {c : Nat} {w : Bool} {a : Nat} {q : Plan} (h : issueCheck q.f.dst s = none) :
    remoteReply c w a (issued (issuePlan q s)) = startReq q s := by
  rw [issuePlan_of_sent h]
  rfl

theorem remoteReply_refused {c e : Nat} {w : Bool} {a : Nat} {q : Plan} (h : issueCheck q.f.dst s = some e) :
    remoteReply c w a (issued (issuePlan q s)) =
      (busErr { cid := c } w a .remote (txErr q.off q.f.dst q.cid e q.kind s)).answerRefused Cause.remote.code := by
  rw [issuePlan_of_refused h]
  rfl

theorem remoteReply_posted {c : Nat} {w : Bool} {a : Nat} {q : Plan} (h : issueCheck q.f.dst s = none) :
    remoteReply c w a (issued ((issuePlan q s).1, if (issuePlan q s).1 then setStage c none (issuePlan q s).2 else (issuePlan q s).2)) =
      setStage c none (startReq q s) := by
  rw [issuePlan_of_sent h]
  simp only [issued, remoteReply, if_true]

theorem remoteReply_postRefused {c e : Nat} {w : Bool} {a : Nat} {q : Plan} (h : issueCheck q.f.dst s = some e) :
    remoteReply c w a (issued ((issuePlan q s).1, if (issuePlan q s).1 then setStage c none (issuePlan q s).2 else (issuePlan q s).2)) =
      (busErr { cid := c } w a .remote (txErr q.off q.f.dst q.cid e q.kind s)).answerRefused Cause.remote.code := by
  rw [issuePlan_of_refused h]
  simp only [issued, remoteReply, Bool.false_eq_true, if_false]

/-! What an access asks of the other unit (R408, R409). -/

section
variable {cid n off size v : Nat} {w : Bool}

/-- A request of class 0 to unit n. -/
def accessPlan (cid n off typ kind : Nat) (data : List Byte) : Plan :=
  { f := { cls := 0, dst := n, typ := typ, src := 0, data := data }, by_ := .other, off := off, cid := cid, kind := kind }

/-- A semaphore operation by its code. -/
def semPlan (cid n off : Nat) (op : Byte) (s : State) : Plan :=
  accessPlan cid n off 3 2 [op, BitVec.ofNat 8 ((off - 0x7C00) / 4), BitVec.ofNat 8 cid, BitVec.ofNat 8 (epri cid s)]

/-- The payload words staged for mailbox m of unit n. -/
def stagedWords (cid n m : Nat) (s : State) : List Word :=
  match stageOf cid s with
  | some g => if g.unit = n ∧ g.mbx = m then g.w.toList else [0#32, 0#32, 0#32]
  | none => [0#32, 0#32, 0#32]

/-- A mailbox post to unit n, with the words staged for it. -/
def postPlan (cid n off v : Nat) (s : State) : Plan :=
  accessPlan cid n off 4 3 ([BitVec.ofNat 8 ((off - 0x7D00) / 16), BitVec.ofNat 8 cid] ++ leBytes 2 (v % 65536) ++
    (stagedWords cid n ((off - 0x7D00) / 16) s).flatMap (fun w => leBytes 4 w.toNat))

abbrev SemWord (off size : Nat) : Prop := 0x7C00 ≤ off ∧ off < 0x7C80 ∧ size = 4
abbrev MbxWord (off : Nat) : Prop := 0x7D00 ≤ off ∧ off < 0x7F00

theorem remoteAccess_read (h : ¬ SemWord off size) : remoteAccess .other cid false n off size v s =
    issued (issuePlan (accessPlan cid n off 1 0 (leBytes 2 off ++ [BitVec.ofNat 8 (sizeCode size), BitVec.ofNat 8 cid])) s) := by
  unfold remoteAccess
  simp only [h, decide_false, Bool.false_eq_true, false_and, if_false]
  rfl

theorem remoteAccess_write (h : ¬ SemWord off size) (hp : ¬ (MbxWord off ∧ 4 ≤ off % 16)) (hb : ¬ (MbxWord off ∧ size = 4)) :
    remoteAccess .other cid true n off size v s = issued (issuePlan (accessPlan cid n off 2 1
      (leBytes 2 off ++ [BitVec.ofNat 8 (sizeCode size), BitVec.ofNat 8 cid] ++ leBytes size v)) s) := by
  unfold remoteAccess
  simp only [h, decide_false, Bool.false_eq_true, if_false, decide_eq_true_eq, true_and, hp, hb, if_true]
  rfl

theorem remoteAccess_payload (h : ¬ SemWord off size) (hm : MbxWord off) (ho : 4 ≤ off % 16) :
    remoteAccess .other cid true n off size v s =
      (.ans (.ok 0#64), stageStore cid n ((off - 0x7D00) / 16) (off % 16) size v s) := by
  unfold remoteAccess
  simp only [h, decide_false, Bool.false_eq_true, if_false, decide_eq_true_eq, true_and, hm, ho, and_self, if_true]

theorem remoteAccess_semRead (h : SemWord off size) :
    remoteAccess .other cid false n off size v s = issued (issuePlan (semPlan cid n off 0#8 s) s) := by
  unfold remoteAccess
  simp only [h, Bool.false_eq_true, if_false]
  rfl

/-- A write to a semaphore word: the operation that the two low bits of the word name. -/
theorem remoteAccess_semWrite (h : SemWord off size) : remoteAccess .other cid true n off size v s =
    match v % 4 with
    | 1 => issued (issuePlan (semPlan cid n off 2#8 s) s)
    | 2 => if waitsAny cid s then issued (issuePlan { semPlan cid n off 0#8 s with take := true } s)
      else issued (issuePlan (semPlan cid n off 1#8 s) s)
    | 3 => issued (issuePlan (semPlan cid n off 3#8 s) s)
    | _ => (.ans (.ok 0#64), s) := by
  unfold remoteAccess
  simp only [h]
  rfl

/-- A write to a doorbell word: nothing but for a POST, which is refused with a handle. -/
theorem remoteAccess_bell (hm : MbxWord off) (ho : off % 16 < 4) (h4 : size = 4) : remoteAccess .other cid true n off size v s =
    if v / 0x40000000 % 4 ≠ 2 then (.ans (.ok 0#64), s)
    else if natBit v 29 then (.ans (.refused .remote), s)
    else issued ((issuePlan (postPlan cid n off v s) s).1,
      if (issuePlan (postPlan cid n off v s) s).1 then setStage cid none (issuePlan (postPlan cid n off v s) s).2
      else (issuePlan (postPlan cid n off v s) s).2) := by
  have hsem : ¬ SemWord off size := fun h => absurd (Nat.le_trans hm.1 h.2.1.le) (by decide)
  have hpay : ¬ 4 ≤ off % 16 := by omega
  unfold remoteAccess
  simp only [hsem, decide_false, Bool.false_eq_true, if_false]
  simp only [decide_eq_true_eq, true_and, hm, hpay, h4, if_true]
  rfl

theorem remoteAccess_post (hm : MbxWord off) (ho : off % 16 < 4) (h4 : size = 4) (hp : v / 0x40000000 % 4 = 2) (hh : natBit v 29 = false) :
    remoteAccess .other cid true n off size v s = issued ((issuePlan (postPlan cid n off v s) s).1,
      if (issuePlan (postPlan cid n off v s) s).1 then setStage cid none (issuePlan (postPlan cid n off v s) s).2
      else (issuePlan (postPlan cid n off v s) s).2) := by
  rw [remoteAccess_bell hm ho h4, if_neg (not_not.mpr hp), if_neg (by simp [hh])]

end

theorem broadcastWrite_sent {cid off size v : Nat} (hq : quarantined s = false) (ha : ownAddr s ≠ 0) : broadcastWrite cid off size v s =
    (.ok 0#64, chainSend
      { cls := 0, dst := 0x7F, typ := 5, src := 0, data := leBytes 2 off ++ [BitVec.ofNat 8 (sizeCode size), BitVec.ofNat 8 cid] ++ leBytes size v } s) :=
  if_neg (by simp [hq, ha])

theorem broadcastWrite_refused {cid off size v : Nat} (h : quarantined s = true ∨ ownAddr s = 0) : broadcastWrite cid off size v s =
    (.refused .remote, txErr off 0x7F cid 7 1 s) := if_pos h

theorem sizeCode_pow (sz : Fin 4) : sizeCode (2 ^ sz.val) = sz.val := by
  revert sz
  decide

theorem pow_eq_four (sz : Fin 4) : 2 ^ sz.val = 4 ↔ sz = 2 := by
  revert sz
  decide

/-! A response, and a request that times out (R411, R412). -/

section
variable {f : Frame} {r : Req}

theorem onResponse_of_none (h : answered f s = none) : onResponse f s = s.count F.CHN_TXSTAT_STALE := by
  unfold onResponse
  rewrite [h]
  rfl

theorem onResponse_of_other (h : answered f s = some r) (ha : answers f.typ f r = false) : onResponse f s = s.count F.CHN_TXSTAT_STALE := by
  unfold onResponse
  rewrite [h]
  exact if_pos (by simp [ha])

/-- A response that answers its request: the payload lands in the reserved buffer, and the request ends by the response's type. -/
theorem onResponse_of_open (h : answered f s = some r) (ha : answers f.typ f r = true) : onResponse f s =
    let v := bufPut { cid := r.cid } r.buf f.data s
    if f.typ = 6 then endReq (f.tag % 32) (.error (f.at_ 0 1)) v
    else if f.typ = 3 then remoteAnswer r (f.at_ 0 4 % 16) (endReq (f.tag % 32) (.ok (BitVec.ofNat 64 (f.at_ 0 4))) v)
    else endReq (f.tag % 32) (.ok (BitVec.ofNat 64 (leNat f.data))) v := by
  unfold onResponse
  rewrite [h]
  exact if_neg (by simp [ha])

/-- A response of type 1 or 2: it ends its request, or counts as stale. -/
theorem onResponse_plain {p : Nat} (h : answered f u = some r) (ht : f.typ = p) (h6 : p ≠ 6) (h3 : p ≠ 3) : onResponse f u =
    if answers p f r then endReq (f.tag % 32) (.ok (BitVec.ofNat 64 (leNat f.data))) (bufPut { cid := r.cid } r.buf f.data u)
    else u.count F.CHN_TXSTAT_STALE := by
  subst ht
  cases ha : answers f.typ f r with
  | false => exact onResponse_of_other h ha
  | true => exact (onResponse_of_open h ha).trans ((if_neg h6).trans (if_neg h3))

theorem onResponse_sem (h : answered f u = some r) (ht : f.typ = 3) : onResponse f u =
    if answers 3 f r then remoteAnswer r (f.at_ 0 4 % 16) (endReq (f.tag % 32) (.ok (BitVec.ofNat 64 (f.at_ 0 4)))
      (bufPut { cid := r.cid } r.buf f.data u))
    else u.count F.CHN_TXSTAT_STALE := by
  rw [← ht]
  cases ha : answers f.typ f r with
  | false => exact onResponse_of_other h ha
  | true => exact (onResponse_of_open h ha).trans ((if_neg (by omega)).trans (if_pos ht))

theorem onResponse_err (h : answered f u = some r) (ht : f.typ = 6) : onResponse f u =
    endReq (f.tag % 32) (.error (f.at_ 0 1)) (bufPut { cid := r.cid } r.buf f.data u) :=
  (onResponse_of_open h (by rw [ht]; exact if_pos rfl)).trans (if_pos ht)

theorem respTimeout_of_none {i : Nat} (h : s.chn.reqs.get (recIx i) = none) : respTimeout i s = s := by
  unfold respTimeout
  rewrite [h]
  rfl

theorem respTimeout_of_some {i : Nat} (h : s.chn.reqs.get (recIx i) = some r) : respTimeout i s =
    let r' := { r with tries := r.tries - 1, due := rspDue s }
    if s.now < r.due then s
    else if r.tries = 0 then endReq i (.error 10) s
    else sendReq r' true { s with chn := { s.chn with reqs := s.chn.reqs.set (recIx i).val (some r') (recIx i).isLt } } := by
  unfold respTimeout
  rewrite [h]
  rfl

theorem hostTimeout_of_none {tag : Nat} (h : s.chn.hostReqs.find? (fun e => e.1.tag == tag) = none) : hostTimeout tag s = s := by
  unfold hostTimeout
  rewrite [h]
  rfl

theorem hostTimeout_of_some {tag tries due : Nat} (h : s.chn.hostReqs.find? (fun e => e.1.tag == tag) = some (f, tries, due)) :
    hostTimeout tag s =
      let rest := s.chn.hostReqs.erase (f, tries, due)
      if s.now < due then s
      else if tries = 0 then
        hostPut { cls := 1, dst := 1, typ := 6, src := f.dst, tag := tag, data := [10#8, BitVec.ofNat 8 f.typ, 0#8, 0#8] }
          { s with chn := { s.chn with hostReqs := rest } }
      else chainSend { f with flag := true } { s with chn := { s.chn with hostReqs := rest ++ [(f, tries - 1, rspDue s)] } } := by
  unfold hostTimeout
  rewrite [h]
  rfl

end

theorem recIx_fin (j : Fin 32) : recIx j.val = j := Fin.ext (Nat.mod_eq_of_lt j.isLt)

end Sys2Proof.Machine
end

section
/-!
PROOFS. Requests to other units: how they start, and how they end (R408 to R412).
-/
namespace Sys2Proof.Machine

/-- The words staged for mailbox m of unit n, asked of the filtered stage. -/
theorem stagedWords_filter (cid n m : Nat) (s : State) : stagedWords cid n m s =
    match (stageOf cid s).filter fun g => g.unit == n && g.mbx == m with
    | some g => g.w.toList
    | none => [0#32, 0#32, 0#32] := by
  unfold stagedWords
  cases stageOf cid s with
  | none => rfl
  | some g =>
    by_cases h : g.unit = n ∧ g.mbx = m
    · have hb : (g.unit == n && g.mbx == m) = true := by simpa using h
      simp only [if_pos h, Option.filter, hb, if_true]
    · have hb : (g.unit == n && g.mbx == m) = false := by simpa using h
      simp only [if_neg h, Option.filter, hb, Bool.false_eq_true, if_false]

/-- A store to a payload word of another unit's mailbox is staged (R409). -/
theorem postStageStore_runs (cid : Cid) (n : Fin 64) (m : Fin 32) (w : Fin 3) (v : Word) (s : State)
    (h : (accessCheck { cid := cid.toNat } true (0x60000000 + 0x8000 * n.val + 0x7D04 + 16 * m.val + 4 * w.val) 4 s).toOption = some 32)
    (hn : n.val + 1 ≠ ownAddr s) : exec (.postStageStore cid n m w v) s =
      .next (settle ((stageStore cid.toNat (n.val + 1) m.val (4 + 4 * w.val) 4 v.toNat s.begin).answer 0)) := by
  have hbits {k : Nat} (hk : k < 2 ^ 32) : (BitVec.ofNat 32 k).toNat = k := Nat.mod_eq_of_lt hk
  have haddr := hbits (k := 0x60000000 + 0x8000 * n.val + 0x7D04 + 16 * m.val + 4 * w.val) (by omega)
  have hv : (v.setWidth 64).toNat % 256 ^ 2 ^ (2 : Fin 4).val = v.toNat := by
    rw [BitVec.toNat_setWidth, Nat.mod_eq_of_lt (v.isLt.trans (by decide))]
    exact Nat.mod_eq_of_lt v.isLt
  have hunit : (0x60000000 + 0x8000 * n.val + 0x7D04 + 16 * m.val + 4 * w.val - 0x60000000) / 0x8000 + 1 = n.val + 1 := by omega
  refine rowS_of_eq ((chainAccess_remote (sz := 2) (s := s.begin) (by rw [haddr]; exact h)
    (by rw [haddr, hunit]; exact hn)).trans ?_)
  rw [haddr, hv, remoteAccess_payload (fun h => absurd h.2.1 (by omega)) (by unfold MbxWord; omega) (by omega)]
  rw [hunit,
    show ((0x60000000 + 0x8000 * n.val + 0x7D04 + 16 * m.val + 4 * w.val) % 0x8000 - 0x7D00) / 16 = m.val by omega,
    show (0x60000000 + 0x8000 * n.val + 0x7D04 + 16 * m.val + 4 * w.val) % 0x8000 % 16 = 4 + 4 * w.val by omega]
  rfl

/-- Settles O44: an access by what it asks of the other unit, and each request by its end. -/
theorem remoteRequests : Obligations.RemoteRequests := by
  unfold Obligations.RemoteRequests
  refine ⟨⟨?_, ?_, ?_⟩, ?_, ?_, ?_, fun i x s h => endReq_free i x h⟩
  · intro cid w a sz v s run n off d cb k check reach sem pay bell refused plan sends semop head nothing
    have hsize : BitVec.ofNat 8 (sizeCode (2 ^ sz.val)) = BitVec.ofNat 8 sz.val := by rw [sizeCode_pow]
    have hsem : sem ↔ SemWord off (2 ^ sz.val) := and_congr_right fun _ => and_congr_right fun _ => (pow_eq_four sz).symm
    have hreach (hr : reach) : run = .next (settle (remoteReply cid.toNat w a.toNat
        (remoteAccess .other cid.toNat w n off (2 ^ sz.val) d s.begin))) :=
      rowS_of_eq (op := chainAccess cid w a sz v) (chainAccess_remote (s := s.begin) hr.1 hr.2)
    have hsends (q : Plan) (hq : q.f.dst = n ∧ q.off = off ∧ q.cid = cid.toNat) :
        Host.Outcome.next (settle (remoteReply cid.toNat w a.toNat (issued (issuePlan q s.begin)))) = sends q := by
      obtain ⟨hdst, hoff, hcid⟩ := hq
      cases hc : issueCheck n s with
      | none =>
        rw [remoteReply_sent (show issueCheck q.f.dst s.begin = none by rw [hdst]; exact hc)]
        simp only [sends]
        rewrite [hc]
        rfl
      | some e =>
        rw [remoteReply_refused (show issueCheck q.f.dst s.begin = some e by rw [hdst]; exact hc), hdst, hoff, hcid]
        simp only [sends]
        rewrite [hc]
        rfl
    have hrun {q : Plan} (hr : reach)
        (hx : remoteAccess .other cid.toNat w n off (2 ^ sz.val) d s.begin = issued (issuePlan q s.begin))
        (hq : q.f.dst = n ∧ q.off = off ∧ q.cid = cid.toNat) : run = sends q :=
      ((hreach hr).trans (congrArg (fun x => Host.Outcome.next (settle (remoteReply cid.toNat w a.toNat x))) hx)).trans (hsends q hq)
    have hanswer {v : State} (hr : reach)
        (hx : remoteAccess .other cid.toNat w n off (2 ^ sz.val) d s.begin = (.ans (.ok 0#64), v)) : run = .next (settle (v.answer 0)) :=
      (hreach hr).trans (congrArg (fun x => Host.Outcome.next (settle (remoteReply cid.toNat w a.toNat x))) hx)
    have hcast (hr : check = some 33) := rowS_of_eq (op := chainAccess cid w a sz v) (chainAccess_broadcast (s := s.begin) hr)
    refine ⟨fun hr hns hw => hrun hr ?_ ⟨rfl, rfl, rfl⟩, fun hr hns hw hnp hnb => hrun hr ?_ ⟨rfl, rfl, rfl⟩,
      fun hr hs hw => hrun hr ?_ ⟨rfl, rfl, rfl⟩, fun hr hs hw h1 => hrun hr ?_ ⟨rfl, rfl, rfl⟩, fun hr hs hw h2 => ?_,
      fun hr hs hw h3 => hrun hr ?_ ⟨rfl, rfl, rfl⟩, fun hr hs hw h0 => hanswer hr ?_, fun hr hp => hanswer hr ?_,
      fun hr hb hpost => hanswer hr ?_, fun hr hb hpost hh => ?_, fun hr hb hpost hh => ?_, fun hr hw hq ha => (hcast hr).trans ?_,
      fun hr hw hq => (hcast hr).trans ?_⟩
    · rw [hw, remoteAccess_read (mt hsem.mpr hns), hsize]
      rfl
    · rw [hw, remoteAccess_write (mt hsem.mpr hns) (fun h => hnp ⟨hw, h.1.1, h.1.2, h.2⟩) (fun h => ?_), hsize]
      · rfl
      · have hlow : off % 16 < 4 := by
          by_contra hge
          exact hnp ⟨hw, h.1.1, h.1.2, by omega⟩
        exact hnb ⟨hw, h.1.1, h.1.2, hlow, (pow_eq_four sz).mp h.2⟩
    · rw [hw, remoteAccess_semRead (hsem.mp hs)]
      rfl
    · rw [hw, remoteAccess_semWrite (hsem.mp hs)]
      rewrite [h1]
      rfl
    · have hx : remoteAccess .other cid.toNat w n off (2 ^ sz.val) d s.begin =
          if waitsAny cid.toNat s then issued (issuePlan { semop 0 with take := true } s.begin)
          else issued (issuePlan (semop 1) s.begin) := by
        rw [hw, remoteAccess_semWrite (hsem.mp hs)]
        rewrite [h2]
        rfl
      cases hwait : waitsAny cid.toNat s with
      | true => exact hrun hr (hx.trans (if_pos hwait)) ⟨rfl, rfl, rfl⟩
      | false => exact hrun hr (hx.trans (if_neg (by simp [hwait]))) ⟨rfl, rfl, rfl⟩
    · rw [hw, remoteAccess_semWrite (hsem.mp hs)]
      rewrite [h3]
      rfl
    · rw [hw, remoteAccess_semWrite (hsem.mp hs)]
      rewrite [h0]
      rfl
    · obtain ⟨hw, hlo, hhi, hge⟩ := hp
      rw [hw, remoteAccess_payload (fun h => absurd (Nat.le_trans hlo h.2.1.le) (by decide)) ⟨hlo, hhi⟩ hge]
    · obtain ⟨hw, hlo, hhi, hlt, hz⟩ := hb
      rw [hw, remoteAccess_bell ⟨hlo, hhi⟩ hlt ((pow_eq_four sz).mpr hz)]
      exact if_pos hpost
    · obtain ⟨hw, hlo, hhi, hlt, hz⟩ := hb
      have hx : remoteAccess .other cid.toNat w n off (2 ^ sz.val) d s.begin = (.ans (.refused .remote), s.begin) := by
        rw [hw, remoteAccess_bell ⟨hlo, hhi⟩ hlt ((pow_eq_four sz).mpr hz)]
        exact (if_neg (not_not.mpr hpost)).trans (if_pos hh)
      exact (hreach hr).trans (congrArg (fun x => Host.Outcome.next (settle (remoteReply cid.toNat w a.toNat x))) hx)
    · intro m staged words q
      obtain ⟨hw, hlo, hhi, hlt, hz⟩ := hb
      have hq : postPlan cid.toNat n off d s.begin = q := by
        rw [postPlan, stagedWords_filter]
        rfl
      have hx : remoteAccess .other cid.toNat w n off (2 ^ sz.val) d s.begin = issued ((issuePlan q s.begin).1,
          if (issuePlan q s.begin).1 then setStage cid.toNat none (issuePlan q s.begin).2 else (issuePlan q s.begin).2) := by
        rw [hw, remoteAccess_post ⟨hlo, hhi⟩ hlt ((pow_eq_four sz).mpr hz) hpost hh, hq]
      refine (hreach hr).trans ((congrArg (fun x => Host.Outcome.next (settle (remoteReply cid.toNat w a.toNat x))) hx).trans ?_)
      cases hc : issueCheck n s with
      | none =>
        rw [remoteReply_posted (s := s.begin) hc]
      | some e =>
        rw [remoteReply_postRefused (s := s.begin) hc]
    · rw [broadcastWrite_sent (s := s.begin) hq ha, hsize]
      rfl
    · rw [broadcastWrite_refused (s := s.begin) hq]
      rfl
  · intro q s free
    refine ⟨?_, fun h => startReq_of_none h⟩
    intro i b v hi hb t
    obtain ⟨hreq, hbuf⟩ := startReq_of_some hi hb
    refine ⟨reqOf q i b v, hreq, ?_, rfl, rfl, rfl, rfl, ?_, hbuf⟩
    · rw [reqOf, (poolReserve_some hb).1]
    · exact LimitsKept.rspDue (hb ▸ LimitsKept.poolReserve q.cid s :)
  · exact postStageStore_runs
  · intro p f r s u h v i ok
    exact ⟨fun hu ht => rowS_of_received hu (onResponse_plain h ht (by decide) (by decide)),
      fun hu ht => rowS_of_received hu (onResponse_plain h ht (by decide) (by decide)),
      fun hu ht => rowS_of_received hu (onResponse_sem h ht), fun hu ht => rowS_of_received hu (onResponse_err h ht)⟩
  · intro p f s u e he hu h
    simp only [List.mem_cons, List.not_mem_nil, or_false] at he
    rcases he with rfl | rfl | rfl | rfl <;> exact rowS_of_received hu (onResponse_of_none h)
  · intro j s
    refine ⟨fun r h => ?_, fun h => rowS_of_eq (op := respTimeout j.val) (respTimeout_of_none ((congrArg s.chn.reqs.get (recIx_fin j)).trans h)),
      ?_, fun tag h => rowS_of_eq (op := hostTimeout tag.toNat) (hostTimeout_of_none (s := s.begin) h)⟩
    · have hall := respTimeout_of_some (s := s.begin) ((congrArg s.chn.reqs.get (recIx_fin j)).trans h)
      refine ⟨fun hd => rowS_of_eq (op := respTimeout j.val) (hall.trans (if_pos hd)),
        fun hd h0 => rowS_of_eq (op := respTimeout j.val) (hall.trans ((if_neg (Nat.not_lt.mpr hd)).trans (if_pos h0))),
        fun hd h0 => rowS_of_eq (op := respTimeout j.val) (hall.trans ((if_neg (Nat.not_lt.mpr hd)).trans ((if_neg h0).trans ?_)))⟩
      rw [recIx_fin]
      rfl
    · intro tag f tries due h rest
      have hall := hostTimeout_of_some (s := s.begin) h
      exact ⟨fun hd => rowS_of_eq (op := hostTimeout tag.toNat) (hall.trans (if_pos hd)),
        fun hd h0 => rowS_of_eq (op := hostTimeout tag.toNat) (hall.trans ((if_neg (Nat.not_lt.mpr hd)).trans (if_pos h0))),
        fun hd h0 => rowS_of_eq (op := hostTimeout tag.toNat) (hall.trans ((if_neg (Nat.not_lt.mpr hd)).trans (if_neg h0)))⟩

end Sys2Proof.Machine
end

section
/-!
PROOFS. A chain link comes up and goes down, and its idle symbols (R376, R378, R398).
-/
namespace Sys2Proof.Machine

variable {s t u : State}

theorem port_setPort_same (p : Fin 2) (x : Port) (s : State) : (s.setPort p x).port p = x := Vector.getElem_set_self ..

theorem port_setPort_other {p q : Fin 2} (h : q ≠ p) (x : Port) (s : State) : (s.setPort p x).port q = s.port q :=
  Vector.getElem_set_ne p.isLt q.isLt fun he => h (Fin.ext he.symm)

/-! What leaves LINK of both ports as it is. -/

/-- The links that are up are the same. -/
structure LinkKept (s t : State) : Prop where
  up : ∀ p : Fin 2, linkUp p t = linkUp p s

namespace LinkKept

theorem refl (s : State) : LinkKept s s := ⟨fun _ => rfl⟩
theorem trans (h : LinkKept s t) (k : LinkKept t u) : LinkKept s u := ⟨fun p => (k.up p).trans (h.up p)⟩

theorem ite {c : Prop} [Decidable c] (ht : LinkKept s t) (hu : LinkKept s u) : LinkKept s (if c then t else u) := by
  split
  · exact ht
  · exact hu

theorem foldl {β : Type} {f : State → β → State} (hf : ∀ u b, LinkKept s u → LinkKept s (f u b)) :
    ∀ (l : List β) {t : State}, LinkKept s t → LinkKept s (l.foldl f t)
  | [], _, h => h
  | b :: l, _, h => foldl hf l (hf _ b h)

theorem linkReg (p : Fin 2) : IdReg (F.CHN_pSTAT_LINK p.val).reg.addr := by
  revert p
  decide

section
variable (h : LinkKept s t)
include h

/-- A step that leaves the registers of the address, the ports and the routes. -/
theorem kept (k : IdKept t u) : LinkKept s u := h.trans ⟨fun p => k.on (linkReg p)⟩

/-- A step that shows the same registers. -/
theorem of_regs (k : u.regs = t.regs) : LinkKept s u := h.kept ⟨fun r _ => by unfold State.word; rw [k]⟩

theorem set {f : Fld} (hf : ∀ p : Fin 2, Apart f (F.CHN_pSTAT_LINK p.val)) (v : Nat) : LinkKept s (t.set f v) :=
  h.trans ⟨fun p => State.on_set_apart t (hf p) v⟩

theorem setWord {q : Reg} (hq : ∀ p : Fin 2, (R.CHN_pSTAT p.val).addr ≠ q.addr) (w : Word) : LinkKept s (t.setWord q w) :=
  h.trans ⟨fun p => State.on_congr (get_of_word (f := F.CHN_pSTAT_LINK p.val) (State.word_setWord_other t w (hq p)))⟩

theorem setPort (p : Fin 2) (x : Port) : LinkKept s (t.setPort p x) := of_regs h rfl
theorem setSlots (p : Nat) (l : List Slot) : LinkKept s (setSlots p l t) := ite (of_regs h rfl) (of_regs h rfl)
theorem releaseClass (p c : Nat) : LinkKept s (releaseClass p c t) := ite h (of_regs h rfl)
theorem chainSend (f : Frame) : LinkKept s (chainSend f t) := h.kept ((IdKept.refl t).chainSend f)
theorem chainSendOn (p : Fin 2) (f : Frame) : LinkKept s (chainSendOn p f t) := h.kept ((IdKept.refl t).chainSendOn p f)
theorem idPage : LinkKept s (idPage t) := h.kept (idKept_idPage t)
theorem chnEvent (b : Nat) : LinkKept s (chnEvent b t) := h.kept ((IdKept.refl t).chnEvent b)
theorem reachUpdate : LinkKept s (reachUpdate t) := h.kept ((IdKept.refl t).reachUpdate)

theorem unreach (f : Frame) : LinkKept s (unreach f t) := ite (chainSend h _) h

theorem cutAbort (p : Fin 2) : LinkKept s (cutAbort p t) := by
  unfold Machine.cutAbort
  split
  · exact h
  · exact ite (of_regs (releaseClass (setPort h _ _) _ _) rfl) (releaseClass (setPort h _ _) _ _)

theorem dropFor (p : Nat) (q : Fin 2) : LinkKept s (dropFor p q t) := by
  unfold Machine.dropFor
  exact foldl (fun u x hu => unreach (ite (setSlots hu _ _) (releaseClass (setSlots hu _ _) _ _)) _) _ h

theorem setMap64 {lo hi : Reg} (hlo : ∀ p : Fin 2, (R.CHN_pSTAT p.val).addr ≠ lo.addr)
    (hhi : ∀ p : Fin 2, (R.CHN_pSTAT p.val).addr ≠ hi.addr) (m : Nat) : LinkKept s (t.setMap64 lo hi m) :=
  setWord (setWord h hlo _) hhi _

theorem setUpmap (m : Nat) : LinkKept s (setUpmap m t) := setMap64 h (by decide) (by decide) m
theorem setLive (m : Nat) : LinkKept s (setLive m t) := reachUpdate (setMap64 h (by decide) (by decide) m)

theorem setRingbrk (v : Bool) : LinkKept s (setRingbrk v t) := ite h (chnEvent (set h (f := F.CHN_ADDR_RINGBRK) (by decide) _) 9)

theorem routeAll : LinkKept s (routeAll t) := chainSend h _

theorem headRoutes : LinkKept s (headRoutes t) := by
  unfold Machine.headRoutes
  refine ite h (ite (routeAll (setLive h _)) (ite (routeAll (setLive (setUpmap (setRingbrk h _) _) _)) ?_))
  exact foldl (fun u i hu => ite (chainSend hu _) hu) _ (setLive (setUpmap (setRingbrk h _) _) _)

theorem headLink (a p : Nat) (up : Bool) : LinkKept s (headLink a p up t) := headRoutes (of_regs h rfl)

theorem polSet (b : Nat) (on : Bool) : LinkKept s (polSet b on t) :=
  h.kept ⟨fun r hr => (RefFrame.polSet b on t).word r (by
    simp only [IdReg] at hr
    simp only [RefReg]
    omega)⟩

theorem setOrphan (v : Bool) : LinkKept s (setOrphan v t) :=
  ite h (polSet (chnEvent (set h (f := F.CHN_ADDR_ORPHAN) (by decide) _) 13) 5 v)

end

end LinkKept

/-- A link that goes down is not up. -/
theorem linkUp_linkDown (p : Fin 2) (e : Bool) (s : State) : linkUp p (linkDown p e s) = false := by
  by_cases hup : linkUp p s = true
  · unfold linkDown
    rw [if_neg (by simp [hup])]
    extract_lets s1 s2 s3 s4 x s5 y s6 s7 s8 ring rpt s9 live alone s10
    have hdown : linkUp p s1 = false := by
      refine (State.on_count_apart _ (show Apart (F.CHN_pERR_LINKDN p.val) (F.CHN_pSTAT_LINK p.val) from ?_) 1).trans ?_
      · clear * -
        revert p
        decide
      · rw [State.on, State.get_set_same s (f := F.CHN_pSTAT_LINK p.val) (show 1 + 1 ≤ 32 by decide) 0]
        rfl
    have hlock (q : Fin 2) : Apart (F.CHN_pSTAT_LOCK p.val) (F.CHN_pSTAT_LINK q.val) := by
      clear * -
      revert p q
      decide
    have h2 : LinkKept s1 s2 := (LinkKept.refl s1).chnEvent _
    have h5 : LinkKept s1 s5 := ((LinkKept.ite (h2.chnEvent 12) h2).cutAbort p).setPort _ _
    have h6 : LinkKept s1 s6 := .ite ((h5.set hlock 0).setPort _ _) h5
    have h8 : LinkKept s1 s8 := ((h6.dropFor _ _).dropFor _ _).reachUpdate
    have h9 : LinkKept s1 s9 := .ite (h8.headLink _ _ _) (.ite h8 (.ite (h8.chainSendOn _ _) (h8.chainSend _)))
    exact ((LinkKept.ite (((h9.chainSendOn _ _).setLive _).setOrphan _ |>.idPage) h9).up p).trans hdown
  · unfold linkDown
    rw [if_pos (by simp [hup])]
    simpa using hup

/-! Receiver lock, and its loss (R378). -/

section
variable {p : Fin 2}

theorem port_unholdAll (l : List Slot) (s : State) : (l.foldl (fun s y => unhold y.f s) s).port p = s.port p := by
  induction l generalizing s with
  | nil => rfl
  | cons y l ih => exact ih (unhold y.f s)

theorem receiverLock_of_held {inv : Bool} {rate : Nat} (h : (s.port p).ignore = true ∨ s.on (F.CHN_pSTAT_LOCK p) = true) :
    receiverLock p inv rate s = s := if_pos h

theorem receiverLock_of_free {inv : Bool} {rate : Nat} (hi : (s.port p).ignore = false) (hl : ¬ s.on (F.CHN_pSTAT_LOCK p) = true) :
    receiverLock p inv rate s =
      let z : Vector Nat 4 := Vector.replicate 4 0
      let v := (s.port p).slots.foldl (fun v y => unhold y.f v)
        (((s.set (F.CHN_pSTAT_LOCK p) 1).setB (F.CHN_pSTAT_RXINV p) inv).set (F.CHN_pSTAT_RXRATE p) rate)
      sendHello p (v.setPort p { s.port p with acc := z, rel := z, snt := z, crt := z, slots := [], cut := none }) := by
  refine (if_neg (by simp [hi, hl])).trans ?_
  dsimp only
  rw [port_unholdAll]
  rfl

theorem now_releaseClass (q c : Nat) (s : State) : (releaseClass q c s).now = s.now := by
  unfold releaseClass
  split <;> rfl

theorem now_cutAbort (p : Fin 2) (s : State) : (cutAbort p s).now = s.now := by
  unfold cutAbort
  split
  · rfl
  · dsimp only
    split
    · exact now_releaseClass p.val _ (s.setPort p { s.port p with cut := none })
    · exact now_releaseClass p.val _ (s.setPort p { s.port p with cut := none })

theorem lossOfLock_of_free {e : Bool} (h : ¬ s.on (F.CHN_pSTAT_LOCK p) = true) : lossOfLock p e s = s := if_pos (by simpa using h)

theorem lossOfLock_of_held {e : Bool} (h : s.on (F.CHN_pSTAT_LOCK p) = true) : lossOfLock p e s =
    let v := cutAbort p (s.set (F.CHN_pSTAT_LOCK p) 0)
    let w := v.setPort p { v.port p with lostAt := s.now }
    if e then lineError p (w.count (F.CHN_pERR_CODEERR p)) else w := by
  refine (if_neg (by simp [h])).trans ?_
  dsimp only
  rw [now_cutAbort]
  rfl

theorem lineError_eq (p : Fin 2) (s : State) : lineError p s =
    let n := errCount p s + 1
    let v := s.setPort p { s.port p with errs := n, errIv := errSpan s }
    if s.get F.CHN_CFG_ERRLIM = 0 ∨ n < s.get F.CHN_CFG_ERRLIM then v else linkDown p true v := by
  unfold lineError
  dsimp only
  have hlim (v : Port) : (s.setPort p v).get F.CHN_CFG_ERRLIM = s.get F.CHN_CFG_ERRLIM := rfl
  rw [hlim]
  by_cases h : s.get F.CHN_CFG_ERRLIM = 0 ∨ errCount p s + 1 < s.get F.CHN_CFG_ERRLIM
  · rw [if_pos h, if_neg (by omega)]
  · rw [if_neg h, if_pos (by omega)]

/-! An idle symbol (R376). -/

theorem idleSymbol_of_bad {bs : List Byte} {chk : Byte} (h : ¬ (bs.length = 3 ∧ crc8 bs = chk ∧ s.on (F.CHN_pSTAT_LOCK p) = true)) :
    idleSymbol p bs chk s = s := by
  refine if_pos ?_
  rw [not_and_or, not_and_or] at h
  simpa using h

/-- The frames of class c that were lost, and the credits they held, are made good. -/
def creditStep (p : Fin 2) (v c : Nat) (s : State) : State :=
  let x := s.port p
  let n := (cnt3 v c + 8 - x.acc.toList.getD c 0) % 8
  let up := fun (w : Vector Nat 4) => w.set! c ((w.toList.getD c 0 + n) % 8)
  let s := (s.setPort p { x with acc := up x.acc, rel := up x.rel }).count (F.CHN_pDROP_MISSFR p.val) n
  ledgerNote 3 (4 * p.val + c) (creditOff p c s) s

theorem idleSymbol_of_good {bs : List Byte} {chk : Byte} (h : bs.length = 3 ∧ crc8 bs = chk ∧ s.on (F.CHN_pSTAT_LOCK p) = true) :
    idleSymbol p bs chk s =
      if linkUp p s then forEach 4 (creditStep p (leNat bs / 4096)) (takeCrt p (leNat bs % 4096) s)
      else takeCrt p (leNat bs % 4096) s := by
  obtain ⟨hlen, hchk, hlock⟩ := h
  exact if_neg (by simp [hlen, hchk, hlock])

theorem set!_get (w : Vector Nat 4) (c : Nat) (k : Fin 4) (n : Nat) : (w.set! c n).get k = if c = k then n else w.get k := by
  show (w.set! c n)[k.val] = if c = k.val then n else w[k.val]
  by_cases h : c = k.val
  · subst h
    simp [Vector.set!]
  · simp [Vector.set!, h]

theorem getD_get (w : Vector Nat 4) (k : Fin 4) : w.toList.getD k 0 = w.get k := by
  show w.toList.getD k.val 0 = w[k.val]
  simp

/-- ACC and the release count of one class. -/
def creditsOf (p : Fin 2) (k : Fin 4) (s : State) : Nat × Nat := ((s.port p).acc.get k, (s.port p).rel.get k)

/-- How a step moves them. -/
def creditsMoved (v : Nat) (k : Fin 4) (e : Nat × Nat) : Nat × Nat :=
  ((e.1 + (cnt3 v k + 8 - e.1) % 8) % 8, (e.2 + (cnt3 v k + 8 - e.1) % 8) % 8)

theorem chn_ledgerNote (i j : Nat) (off : Bool) (s : State) : (ledgerNote i j off s).chn = s.chn := rfl

theorem chn_creditStep (p : Fin 2) (v c : Nat) (s : State) : (creditStep p v c s).chn = (s.setPort p { s.port p with
      acc := (s.port p).acc.set! c (((s.port p).acc.toList.getD c 0 + (cnt3 v c + 8 - (s.port p).acc.toList.getD c 0) % 8) % 8)
      rel := (s.port p).rel.set! c (((s.port p).rel.toList.getD c 0 + (cnt3 v c + 8 - (s.port p).acc.toList.getD c 0) % 8) % 8) }).chn := by
  unfold creditStep
  dsimp only
  rw [chn_ledgerNote, State.count_chn]

theorem creditsOf_step (p : Fin 2) (v c : Nat) (k : Fin 4) (s : State) :
    creditsOf p k (creditStep p v c s) = if c = k then creditsMoved v k (creditsOf p k s) else creditsOf p k s := by
  have hport : (creditStep p v c s).port p = { s.port p with
      acc := (s.port p).acc.set! c (((s.port p).acc.toList.getD c 0 + (cnt3 v c + 8 - (s.port p).acc.toList.getD c 0) % 8) % 8)
      rel := (s.port p).rel.set! c (((s.port p).rel.toList.getD c 0 + (cnt3 v c + 8 - (s.port p).acc.toList.getD c 0) % 8) % 8) } :=
    (congrArg (fun n : Chain => n.port.get p) (chn_creditStep p v c s)).trans (port_setPort_same ..)
  unfold creditsOf
  rw [hport, set!_get, set!_get]
  by_cases h : c = k
  · subst h
    rw [if_pos rfl, if_pos rfl, if_pos rfl, getD_get, getD_get]
    rfl
  · rw [if_neg h, if_neg h, if_neg h]

theorem done_idleSymbol (v n : Nat) (s : State) : (forEach 4 (creditStep p v) (takeCrt p n s)).chn.done = s.chn.done :=
  forEach_kept (view := fun s => s.chn.done) (fun i s => (congrArg Chain.done (chn_creditStep p v i s)).trans rfl) 4 (takeCrt p n s)

/-- The credits that an idle symbol leaves on a link that is up. -/
theorem idleSymbol_credits (v n : Nat) (k : Fin 4) (h : (s.port p).acc.get k < 8) :
    let t := forEach 4 (creditStep p v) (takeCrt p n s)
    (t.port p).acc.get k = cnt3 v k ∧
      (t.port p).rel.get k = ((s.port p).rel.get k + (cnt3 v k + 8 - (s.port p).acc.get k) % 8) % 8 := by
  have hall := forEach_view (view := creditsOf p k) (g := creditsMoved v k) (f := creditStep p v) (i := k)
    (fun s => (creditsOf_step p v k k s).trans (if_pos rfl)) 4 (fun j _ hj s => (creditsOf_step p v j k s).trans (if_neg hj))
    (takeCrt p n s)
  rw [if_pos k.isLt] at hall
  have hstart : creditsOf p k (takeCrt p n s) = creditsOf p k s := by
    unfold creditsOf takeCrt
    rw [port_setPort_same]
  rw [hstart] at hall
  obtain ⟨hacc, hrel⟩ := Prod.mk.inj hall
  have hcnt : cnt3 v k < 8 := Nat.mod_lt _ (by decide)
  refine ⟨hacc.trans ?_, hrel⟩
  show ((s.port p).acc.get k + (cnt3 v k + 8 - (s.port p).acc.get k) % 8) % 8 = cnt3 v k
  omega

end

end Sys2Proof.Machine
end

section
/-!
PROOFS. Frames of a chain link: checked, placed, cut through and sent (R382 to R389).
-/
namespace Sys2Proof.Machine

variable {s : State}

/-! The routes and a forwarded copy read registers alone. -/

theorem routeIn_congr {t : State} (h : t.regs = s.regs) (p : Nat) (f : Frame) : routeIn p f t = routeIn p f s := by
  have hw (r : Reg) : t.word r = s.word r := by unfold State.word; rw [h]
  have hget (f : Fld) : t.get f = s.get f := get_of_word (hw f.reg)
  have hon (f : Fld) : t.on f = s.on f := State.on_congr (hget f)
  unfold routeIn routePort isHead ownAddr headPort routePort upmap State.map64
  simp only [hw, hget, hon]

theorem forwardCopy_congr {t : State} (h : t.regs = s.regs) (f : Frame) (n : Nat) : forwardCopy f n t = forwardCopy f n s := by
  have hw (r : Reg) : t.word r = s.word r := by unfold State.word; rw [h]
  have hbit : t.bit F.TB_DLSTAT_FINE 4 = s.bit F.TB_DLSTAT_FINE 4 := State.bit_congr (get_of_word (hw _)) 4
  unfold forwardCopy stampFine
  rw [hw, hbit]

/-! A frame that has come in (R382). -/

section
variable {p : Fin 2} {cls n : Nat} {bs : List Byte} {err eofp : Bool}

theorem frameReceive_of_lost (h : s.on (F.CHN_pSTAT_LOCK p) = false) : frameReceive p cls bs err eofp n s = s :=
  if_pos (.inl (by simp [h]))

/-- The state in which the port's frame in cut-through is over. -/
def cutOver (p : Fin 2) (s : State) : State := s.setPort p { s.port p with cut := none }

/-- Its copy that went ahead ends with EOFP. -/
def copyPoisoned (p : Fin 2) (s : State) : State :=
  match (s.port p).cut with
  | some c => if c.started then lineSend (other p) { cls := c.cls, dst := c.dst, typ := 0, src := 0 } true (cutOver p s) else cutOver p s
  | none => cutOver p s

/-- A good frame is counted on its class. -/
def frameCounted (p : Fin 2) (cls crt : Nat) (s : State) : State :=
  let v := takeCrt p crt s
  v.setPort p { v.port p with acc := (v.port p).acc.set! cls (((v.port p).acc.toList.getD cls 0 + 1) % 8) }

/-- Is the frame for this unit? -/
def hereIn (p : Fin 2) (f : Frame) (s : State) : Bool :=
  match routeIn p f s with
  | some (d, _) => d
  | none => false

theorem slotsOf_lineSend (p q : Nat) (g : Frame) (b : Bool) (v : State) : slotsOf p (lineSend q g b v) = slotsOf p v := rfl
theorem port_lineSend (p : Fin 2) (q : Nat) (g : Frame) (b : Bool) (v : State) : (lineSend q g b v).port p = v.port p := rfl

theorem hereIn_lineSend (p : Fin 2) (f g : Frame) (q : Nat) (b : Bool) (v : State) :
    hereIn p f (lineSend q g b v) = (routeIn p f v).any (fun r => r.1) := by
  unfold hereIn
  rw [routeIn_congr (s := v) (t := lineSend q g b v) rfl]
  cases routeIn p f v <;> rfl

/-- Where a good frame goes whose copy went ahead. -/
def copyEnded (p : Fin 2) (cls n : Nat) (f : Frame) (v : State) : State :=
  if f.hop = 63 then releaseClass p cls (lineSend (other p) (forwardCopy f n v) true (v.count (F.CHN_pDROP_HOPDROP p)))
  else
    let w := lineSend (other p) (forwardCopy f n v) false v
    if hereIn p f w && frameKnown f then setSlots p (slotsOf p w ++ [⟨f, true, none⟩]) w
    else releaseClass p cls (if hereIn p f w then unkType p w else w)

theorem frameReceive_of_lock (h : s.on (F.CHN_pSTAT_LOCK p) = true) (hc : cls < 4) : frameReceive p cls bs err eofp n s =
    let bad : (State → State) → State := fun why => discard p cls why (copyPoisoned p s)
    if err then lineError p (bad fun v => v.count (F.CHN_pERR_CODEERR p))
    else if !crcGood bs then lineError p (bad fun v => v.count (F.CHN_pERR_CRCERR p))
    else if eofp then bad fun v => v.count (F.CHN_pDROP_POISON p)
    else match parseFrame cls bs with
      | none => bad (unkType p)
      | some (f, crt) =>
        if 4 ≤ occupied p cls (cutOver p s) then bad (unkType p)
        else if (s.port p).cut.any (fun c => c.started) then copyEnded p cls n f (frameCounted p cls crt (cutOver p s))
        else placeFrame p f (frameCounted p cls crt (cutOver p s)) := by
  have hguard : ¬ ((!s.on (F.CHN_pSTAT_LOCK p.val)) = true ∨ 4 ≤ cls) := by
    rw [h]
    simp only [Bool.not_true, Bool.false_eq_true, false_or]
    omega
  unfold frameReceive copyPoisoned
  rw [if_neg hguard]
  cases hcut : (s.port p).cut with
  | none =>
    simp only [Bool.false_eq_true, if_false, Option.any_none]
    cases parseFrame cls bs <;> rfl
  | some c =>
    cases hstart : c.started with
    | false =>
      simp only [hstart, Bool.false_eq_true, if_false, Option.any_some]
      cases parseFrame cls bs <;> rfl
    | true =>
      simp only [hstart, if_true, Option.any_some]
      cases parseFrame cls bs <;> rfl

section
variable {f : Frame} {v : State}

theorem copyEnded_of_far (h : f.hop = 63) : copyEnded p cls n f v =
    releaseClass p cls (lineSend (other p) (forwardCopy f n v) true (v.count (F.CHN_pDROP_HOPDROP p))) := if_pos h

theorem copyEnded_of_here (h : f.hop ≠ 63) (hh : (routeIn p f v).any (fun r => r.1) = true) (hk : frameKnown f = true) :
    copyEnded p cls n f v = setSlots p (slotsOf p v ++ [⟨f, true, none⟩]) (lineSend (other p) (forwardCopy f n v) false v) := by
  refine (if_neg h).trans ?_
  dsimp only
  rw [hereIn_lineSend, hh, hk, slotsOf_lineSend]
  exact if_pos rfl

theorem copyEnded_of_away (h : f.hop ≠ 63) (hh : (routeIn p f v).any (fun r => r.1) = false) :
    copyEnded p cls n f v = releaseClass p cls (lineSend (other p) (forwardCopy f n v) false v) := by
  refine (if_neg h).trans ?_
  dsimp only
  rw [hereIn_lineSend, hh]
  exact if_neg Bool.false_ne_true

theorem copyEnded_of_unknown (h : f.hop ≠ 63) (hh : (routeIn p f v).any (fun r => r.1) = true) (hk : frameKnown f = false) :
    copyEnded p cls n f v = releaseClass p cls (unkType p (lineSend (other p) (forwardCopy f n v) false v)) := by
  refine (if_neg h).trans ?_
  dsimp only
  rw [hereIn_lineSend, hh, hk, if_pos rfl]
  exact if_neg Bool.false_ne_true

end

end

/-! Where a frame is placed (R383, R386). -/

section
variable {p : Nat} {f : Frame}

theorem placeFrame_of_none (h : routeIn p f s = none) : placeFrame p f s = releaseClass p f.cls (unkType p s) := by
  unfold placeFrame
  rewrite [h]
  rfl

theorem placeFrame_here (h : routeIn p f s = some (true, none)) (hk : frameKnown f = true) (hd : deliverAtOnce f s = none) :
    placeFrame p f s = setSlots p (slotsOf p s ++ [⟨f, true, none⟩]) s := by
  unfold placeFrame
  rewrite [h]
  simp only [hk, hd, Bool.not_true, Bool.and_false, Bool.and_true, Bool.false_eq_true, if_false, Option.isNone_none, and_self, if_true]

theorem placeFrame_away {o : Fin 2} (h : routeIn p f s = some (false, some o)) (hu : linkUp o s = true) :
    placeFrame p f s = setSlots p (slotsOf p s ++ [⟨f, false, some o⟩]) s := by
  unfold placeFrame
  rewrite [h]
  simp only [hu, Bool.not_true, Bool.false_and, Bool.false_eq_true, if_false, Option.isNone_some, and_self, Bool.and_false]

theorem placeFrame_dead {o : Fin 2} (h : routeIn p f s = some (false, some o)) (hu : linkUp o s = false) :
    placeFrame p f s = releaseClass p f.cls (unreach f s) := by
  unfold placeFrame
  rewrite [h]
  simp only [hu, Bool.not_false, Bool.false_and, Bool.false_eq_true, if_false, if_true, Option.isNone_none, false_and, Bool.and_self]

end

/-! A frame to another unit starts out at once (R384). -/

section
variable {p o : Fin 2} {cls dst : Nat}

/-- Cut-through may begin. -/
abbrev MayCut (p : Fin 2) (cls : Nat) (s : State) : Prop :=
  s.on (F.CHN_pSTAT_LOCK p) = true ∧ (s.port p).cut = none ∧ occupied p cls s < 4

theorem cutThrough_of_not (h : ¬ MayCut p cls s) : cutThrough p cls dst s = s := by
  refine if_pos ?_
  by_contra hn
  simp only [Bool.not_eq_true', not_or, Bool.not_eq_false, Nat.not_le] at hn
  obtain ⟨hlock, hcut, _, hocc⟩ := hn
  exact h ⟨hlock, Option.not_isSome_iff_eq_none.mp hcut, hocc⟩

theorem cutThrough_of_may (hc : cls < 4) (h : MayCut p cls s) : cutThrough p cls dst s =
    match routeIn p { cls := cls, dst := dst, typ := 0, src := 0 } s with
    | some (_, some o) =>
      let go := o = other p ∧ linkUp o s ∧ 0 < credits o cls s ∧ (s.port o).streak < 16
      let v := s.setPort p { s.port p with cut := some ⟨cls, dst, decide go⟩ }
      if go then v.setPort o (sentAs cls true (v.port o)) else v
    | _ => s := by
  obtain ⟨hl, hn, ho⟩ := h
  refine if_neg ?_
  rw [hl, hn]
  simp only [Bool.not_true, Bool.false_eq_true, Option.isSome_none, false_or]
  omega

theorem cutThrough_of_stay (hc : cls < 4)
    (h : (routeIn p { cls := cls, dst := dst, typ := 0, src := 0 } s).bind (fun e => e.2) = none) : cutThrough p cls dst s = s := by
  by_cases hm : MayCut p cls s
  · rw [cutThrough_of_may hc hm]
    obtain hr | ⟨d, hr⟩ : routeIn p { cls := cls, dst := dst, typ := 0, src := 0 } s = none ∨
        ∃ d, routeIn p { cls := cls, dst := dst, typ := 0, src := 0 } s = some (d, none) := by
      cases hr : routeIn p { cls := cls, dst := dst, typ := 0, src := 0 } s with
      | none => exact .inl rfl
      | some r => exact .inr ⟨r.1, congrArg some (Prod.ext rfl (by rw [hr] at h; exact h))⟩
    · rewrite [hr]
      rfl
    · rewrite [hr]
      rfl
  · exact cutThrough_of_not hm

theorem other_ne (p : Fin 2) : other p ≠ p := by
  revert p
  decide

theorem cutThrough_of_go {d : Bool} (hc : cls < 4) (h : MayCut p cls s)
    (hr : routeIn p { cls := cls, dst := dst, typ := 0, src := 0 } s = some (d, some o))
    (hg : o = other p ∧ linkUp o s = true ∧ 0 < credits o cls s ∧ (s.port o).streak < 16) : cutThrough p cls dst s =
      (s.setPort p { s.port p with cut := some ⟨cls, dst, true⟩ }).setPort o (sentAs cls true (s.port o)) := by
  rw [cutThrough_of_may hc h]
  rewrite [hr]
  refine (if_pos hg).trans ?_
  dsimp only
  rw [decide_eq_true hg, port_setPort_other (by rw [hg.1]; exact other_ne p)]

theorem cutThrough_of_wait {d : Bool} (hc : cls < 4) (h : MayCut p cls s)
    (hr : routeIn p { cls := cls, dst := dst, typ := 0, src := 0 } s = some (d, some o))
    (hg : ¬ (o = other p ∧ linkUp o s = true ∧ 0 < credits o cls s ∧ (s.port o).streak < 16)) : cutThrough p cls dst s =
      s.setPort p { s.port p with cut := some ⟨cls, dst, false⟩ } := by
  rw [cutThrough_of_may hc h]
  rewrite [hr]
  refine (if_neg hg).trans ?_
  dsimp only
  rw [decide_eq_false hg]

end

/-! The next frame to leave (R388, R389). -/

section
variable {p : Fin 2} {n : Nat}

theorem transmitNext_of_busy (h : cutBusy p s = true) : transmitNext p n s = s := if_pos h

/-- The next frame is chosen once the relay round has fed the port. -/
def fed (p : Fin 2) (s : State) : State := if p = 1 then relayFeed s else s

theorem transmitNext_of_idle (h : cutBusy p s = false) (hi : 16 ≤ ((fed p s).port p).streak ∨ txPick p (fed p s) = none) :
    transmitNext p n s = idleSend p ((fed p s).setPort p { (fed p s).port p with streak := 0 }) := by
  refine (if_neg (by simp [h])).trans ?_
  by_cases hs : 16 ≤ ((fed p s).port p).streak
  · exact if_pos hs
  · refine (if_neg hs).trans ?_
    rewrite [show txPick p (if p = 1 then relayFeed s else s) = none from hi.resolve_left hs]
    rfl

/-- A RATECHG takes effect on the line once it has left. -/
def rateChanged (p : Fin 2) (f : Frame) (w : State) : State :=
  if f.cls = 3 ∧ f.typ = 8 then
    match (w.port p).rateTo with
    | some r => (w.set (F.CHN_pSTAT_TXRATE p) r).setPort p { w.port p with rateTo := none }
    | none => w
  else w

theorem rateChanged_of_stay {f : Frame} {w : State} (h : f.cls ≠ 3 ∨ f.typ ≠ 8 ∨ (w.port p).rateTo = none) : rateChanged p f w = w := by
  unfold rateChanged
  by_cases hf : f.cls = 3 ∧ f.typ = 8
  · rw [if_pos hf, (h.resolve_left (not_not.mpr hf.1)).resolve_left (not_not.mpr hf.2)]
  · exact if_neg hf

theorem rateChanged_of_rate {f : Frame} {w : State} {r : Nat} (hc : f.cls = 3) (ht : f.typ = 8) (h : (w.port p).rateTo = some r) :
    rateChanged p f w = (w.set (F.CHN_pSTAT_TXRATE p) r).setPort p { w.port p with rateTo := none } := by
  unfold rateChanged
  rw [if_pos ⟨hc, ht⟩, h]

/-- A frame of this unit leaves. -/
theorem transmitNext_of_own {f : Frame} (h : cutBusy p s = false) (hs : ((fed p s).port p).streak < 16)
    (hp : txPick p (fed p s) = some (.own f)) : transmitNext p n s = rateChanged p f (lineSend p f false ((fed p s).setPort p
      { sentAs f.cls false ((fed p s).port p) with queue := ((fed p s).port p).queue.erase f })) := by
  refine (if_neg (by simp [h])).trans ((if_neg (Nat.not_le.mpr hs)).trans ?_)
  rewrite [show txPick p (if p = 1 then relayFeed s else s) = some (.own f) from hp]
  rfl

/-- A frame to be forwarded leaves. -/
theorem transmitNext_of_fwd {q : Fin 2} {y : Slot} (h : cutBusy p s = false) (hs : ((fed p s).port p).streak < 16)
    (hp : txPick p (fed p s) = some (.fwd q y)) (hd : y.dlv = false) (hh : y.f.hop ≠ 63) : transmitNext p n s =
      let w := (fed p s).setPort p (sentAs y.f.cls true ((fed p s).port p))
      lineSend p (forwardCopy y.f n w) false (releaseClass q y.f.cls (setSlots q ((slotsOf q w).erase y) w)) := by
  have hregs (q c : Nat) (l : List Slot) (w : State) : (releaseClass q c (setSlots q l w)).regs = w.regs := by
    unfold releaseClass setSlots
    split <;> rfl
  refine (if_neg (by simp [h])).trans ((if_neg (Nat.not_le.mpr hs)).trans ?_)
  rewrite [show txPick p (if p = 1 then relayFeed s else s) = some (.fwd q y) from hp]
  dsimp only
  rw [hd, decide_eq_false hh, if_neg Bool.false_ne_true, if_neg (fun h => Bool.false_ne_true h.1), forwardCopy_congr (hregs ..)]
  rfl

end

end Sys2Proof.Machine
end

section
/-!
PROOFS. The chain links and their frames, put together (R376 to R389).
-/
namespace Sys2Proof.Machine

variable {s : State} {p : Fin 2}

theorem row_of_eq {op : State → State} {u : State} (h : op s.begin = u) : row op s = .next u := congrArg Host.Outcome.next h

theorem lockLostLong_of_long (h : s.on (F.CHN_pSTAT_LOCK p) = false ∧ max (s.port p).lostAt (s.port p).grace + 2000 ≤ s.now) :
    lockLostLong p s = linkDown p false s := if_pos ⟨by simp [h.1], h.2⟩

theorem lockLostLong_of_short (h : ¬ (s.on (F.CHN_pSTAT_LOCK p) = false ∧ max (s.port p).lostAt (s.port p).grace + 2000 ≤ s.now)) :
    lockLostLong p s = s := if_neg fun hn => h ⟨by simpa using hn.1, hn.2⟩

/-- Settles O40: the link's own steps, a frame by its checks, its place, and the next frame by its choice. -/
theorem chainLinksAndFrames : Obligations.ChainLinksAndFrames := by
  unfold Obligations.ChainLinksAndFrames
  refine ⟨?_, ?_, ?_, fun p f s => placeFrame_here, fun p f o s h => ⟨placeFrame_away h, placeFrame_dead h⟩, fun p f s => placeFrame_of_none,
    ?_, ?_⟩
  · intro p s x z lock none
    refine ⟨?_, ?_, lineError_eq p s, ?_, fun e => linkUp_linkDown p e s, row_of_eq rfl, fun h => row_of_eq (if_pos h),
      fun h => row_of_eq (if_neg (Nat.not_le.mpr h)), ?_⟩
    · intro inv rate v
      exact ⟨fun hi hl => rowS_of_eq (op := receiverLock p inv rate.val) (receiverLock_of_free (s := s.begin) hi hl),
        fun h => rowS_of_eq (op := receiverLock p inv rate.val) (receiverLock_of_held (s := s.begin) h)⟩
    · intro v w
      exact ⟨fun h => rowS_of_eq (op := lossOfLock p false) ((lossOfLock_of_held (s := s.begin) h).trans (if_neg Bool.false_ne_true)),
        fun h => rowS_of_eq (op := lossOfLock p true) ((lossOfLock_of_held (s := s.begin) h).trans (if_pos rfl)),
        fun e h => rowS_of_eq (op := lossOfLock p e) (lossOfLock_of_free (s := s.begin) h)⟩
    · intro long
      exact ⟨fun h => rowS_of_eq (lockLostLong_of_long (s := s.begin) h), fun h => rowS_of_eq (lockLostLong_of_short (s := s.begin) h)⟩
    · intro bs chk good v
      refine ⟨fun h => rowS_of_eq (idleSymbol_of_bad (s := s.begin) h),
        fun h hu => rowS_of_eq ((idleSymbol_of_good (s := s.begin) h).trans (if_neg (by rw [show linkUp p s.begin = false from hu]; decide))),
        fun h hu ha hd => ?_⟩
      have hrun : exec (.idleSymbol p bs chk) s = .next (settle _) :=
        rowS_of_eq ((idleSymbol_of_good (s := s.begin) h).trans (if_pos hu))
      rw [settle_of_nil ((done_idleSymbol (s := s.begin) ..).trans hd)] at hrun
      exact ⟨_, hrun, fun c => idleSymbol_credits (s := s.begin) _ _ c (ha c)⟩
  · intro p cls bs err eofp n s hl u ahead w bad ends
    have hall := frameReceive_of_lock (s := s.begin) (bs := bs) (err := err) (eofp := eofp) (n := n) hl cls.isLt
    have hw : copyPoisoned p s.begin = w := by
      unfold copyPoisoned
      simp only [w]
      rw [show s.begin.port p = s.port p from rfl]
      cases (s.port p).cut <;> rfl
    rw [hw] at hall
    have hrun {v : State} (hv : frameReceive p cls bs err eofp n s.begin = v) : exec (.frameReceive p cls bs err eofp n) s = ends v :=
      rowS_of_eq (op := frameReceive p cls bs err eofp n) hv
    have hchecked {v : State} (he : err = false) (hc : crcGood bs = true) (ho : eofp = false)
        (hv : (match parseFrame cls bs with
          | none => bad (unkType p)
          | some (f, crt) =>
            if 4 ≤ occupied p cls (cutOver p s.begin) then bad (unkType p)
            else if ahead then copyEnded p cls n f (frameCounted p cls crt (cutOver p s.begin))
            else placeFrame p f (frameCounted p cls crt (cutOver p s.begin))) = v) : exec (.frameReceive p cls bs err eofp n) s = ends v :=
      hrun (hall.trans ((if_neg (by simp [he])).trans ((if_neg (by simp [hc])).trans ((if_neg (by simp [ho])).trans hv))))
    refine ⟨fun he => hrun (hall.trans (if_pos he)), fun he hc => hrun (hall.trans ((if_neg (by simp [he])).trans (if_pos (by simp [hc])))),
      fun he hc ho => hrun (hall.trans ((if_neg (by simp [he])).trans ((if_neg (by simp [hc])).trans (if_pos ho)))),
      fun he hc ho hbad => hchecked he hc ho ?_, ?_⟩
    · cases hp : parseFrame cls bs with
      | none => rfl
      | some g => exact if_pos (hbad.resolve_left (by simp [hp]))
    · intro f crt he hc ho hp hocc v y v' here out
      have hplaced {w : State} (hv : (if ahead then copyEnded p cls n f v' else placeFrame p f v') = w) :
          exec (.frameReceive p cls bs err eofp n) s = ends w := by
        refine hchecked he hc ho ?_
        rewrite [hp]
        exact (if_neg (Nat.not_le.mpr hocc)).trans hv
      exact ⟨fun ha => hplaced (if_neg (by simp [ha])),
        fun ha hf => hplaced ((if_pos ha).trans (copyEnded_of_far hf)),
        fun ha hf hh hk => hplaced ((if_pos ha).trans (copyEnded_of_here hf hh hk)),
        fun ha hf hh => hplaced ((if_pos ha).trans (copyEnded_of_away hf hh)),
        fun ha hf hh hk => hplaced ((if_pos ha).trans (copyEnded_of_unknown hf hh hk))⟩
  · exact fun p cls bs err eofp n s h => rowS_of_eq (op := frameReceive p cls bs err eofp n) (frameReceive_of_lost (s := s.begin) h)
  · intro p cls dst s may r cut
    refine ⟨fun d o hm hr => ?_, ?_⟩
    · intro go
      exact ⟨fun hg => rowS_of_eq (op := cutThrough p cls dst.toNat) (cutThrough_of_go (s := s.begin) cls.isLt hm hr hg),
        fun hg => rowS_of_eq (op := cutThrough p cls dst.toNat) (cutThrough_of_wait (s := s.begin) cls.isLt hm hr hg)⟩
    · rintro (h | h)
      · exact rowS_of_eq (op := cutThrough p cls dst.toNat) (cutThrough_of_not (s := s.begin) h)
      · exact rowS_of_eq (op := cutThrough p cls dst.toNat) (cutThrough_of_stay (s := s.begin) cls.isLt h)
  · intro p n s v x ends
    refine ⟨fun h => rowS_of_eq (op := transmitNext p n) (transmitNext_of_busy (s := s.begin) h),
      fun h hi => rowS_of_eq (op := transmitNext p n) (transmitNext_of_idle (s := s.begin) h hi), fun f h hs hp => ?_,
      fun q y h hs hp hd hh => rowS_of_eq (op := transmitNext p n) (transmitNext_of_fwd (s := s.begin) h hs hp hd hh)⟩
    intro y w
    have hport : w.port p = { y with queue := x.queue.erase f } := (port_lineSend ..).trans (port_setPort_same ..)
    have hown := transmitNext_of_own (s := s.begin) (n := n) h hs hp
    have hrun {u : State} (hu : rateChanged p f w = u) : exec (.transmitNextFrame p n) s = ends u :=
      rowS_of_eq (op := transmitNext p n) (hown.trans hu)
    refine ⟨fun hst => hrun (rateChanged_of_stay (by rw [hport]; exact hst)), fun r hc ht hr => hrun ?_⟩
    rw [rateChanged_of_rate (r := r) hc ht (by rw [hport]; exact hr), hport]

end Sys2Proof.Machine
end

section
/-!
PROOFS. The UARTs (R362 to R366).
-/
namespace Sys2Proof.Machine

variable {s : State} {u : Fin 2}

theorem uartIx_fin (u : Fin 2) : uartIx u = u := Fin.ext (Nat.mod_eq_of_lt u.isLt)

theorem ua_setUa (x : Uart) (s : State) : (s.setUa u x).ua u = x := Vector.getElem_set_self ..

/-! The data register (R365). -/

/-- The rows of SER_UuDATA, and its place in the block. -/
theorem uartData_row (u : Fin 2) : (regRow? (R.SER_UuDATA u).addr).isSome = true ∧ (R.SER_UuDATA u).addr = 0x5000E008 + 0x100 * u.val := by
  revert u
  decide +kernel

theorem serWrite_uartData {c : Nat} {w : Word} (hc : c ≤ 1 ∨ c = serOwner (R.SER_UuDATA u).addr s) :
    serWrite c (R.SER_UuDATA u).addr w s = some (uartPush u (fieldOf 0 9 w) s) := by
  have hcl : (!isZeroOne c && c != serOwner (R.SER_UuDATA u).addr s) = false := by
    unfold isZeroOne
    rcases hc with hc | hc <;> simp [hc]
  have ha := (uartData_row u).2
  unfold serWrite
  rw [if_neg (by omega), if_neg (by omega), hcl, if_neg Bool.false_ne_true, if_neg (by omega), if_pos (by omega)]
  dsimp only
  rw [if_pos (by omega), show ((R.SER_UuDATA u).addr - 0x5000E000) / 0x100 = u.val by omega]

theorem serWrite_uartData_denied {c : Nat} {w : Word} (hc : ¬ (c ≤ 1 ∨ c = serOwner (R.SER_UuDATA u).addr s)) :
    serWrite c (R.SER_UuDATA u).addr w s = some (.refused .deny, s) := by
  have hcl : (!isZeroOne c && c != serOwner (R.SER_UuDATA u).addr s) = true := by
    unfold isZeroOne
    simpa using hc
  have ha := (uartData_row u).2
  unfold serWrite
  rw [if_neg (by omega), if_neg (by omega), hcl, if_pos rfl]

theorem serRead_uartData (u : Fin 2) (s : State) : serRead (R.SER_UuDATA u).addr s = some (uartPop u s) := by
  have ha := (uartData_row u).2
  unfold serRead
  obtain rfl | rfl : u = 0 ∨ u = 1 := by omega
  · exact if_pos ha
  · exact (if_neg (by rw [ha]; decide)).trans (if_pos ha)

theorem uartPush_full {d : Nat} (h : 16 ≤ (s.ua u).tx.length) : uartPush u d s = (.refused .busy, s) := if_pos h

/-- A byte joins the transmit FIFO, asserting DE in half duplex. -/
theorem uartPush_room {d : Nat} (h : (s.ua u).tx.length < 16) : uartPush u d s = (.ok 0#64, uartEvents u (s.setUa u
    { s.ua u with tx := (s.ua u).tx ++ [d % 512], outTx := (s.ua u).outTx - 1,
                  de := s.on (F.SER_UuCTL_EN u) && s.on (F.SER_UuCTL_TXEN u) && s.on (F.SER_UuCTL_HDX u) })) := by
  have hde (b : Bool) : (b || !((s.ua u).tx ++ [d % 512]).isEmpty) = true := by
    rw [List.isEmpty_eq_false_iff.mpr (by simp)]
    exact Bool.or_true b
  refine (if_neg (Nat.not_le.mpr h)).trans ?_
  unfold uartDrive
  dsimp only
  rw [hde, Bool.and_true]

theorem uartPop_empty (h : (s.ua u).rx = []) : uartPop u s = (0#32, s) := by
  unfold uartPop
  dsimp only
  rewrite [h]
  rfl

theorem uartPop_oldest {b : Nat} {rest : List Nat} (h : (s.ua u).rx = b :: rest) : uartPop u s =
    (BitVec.ofNat 32 (b + 2 ^ 31), uartEvents u (s.setUa u { s.ua u with rx := rest, outRx := (s.ua u).outRx - 1 })) := by
  unfold uartPop
  dsimp only
  rewrite [h]
  rfl

/-! A frame received (R362, R364). -/

section
variable {d : Nat}

theorem fmt_lt (u : Fin 2) (s : State) : s.get (F.SER_UuCTL_FMT u) < 4 := State.get_lt s (F.SER_UuCTL_FMT u)

/-- A frame of nine bits is out of its format's parity. -/
abbrev ParityError (fmt d : Nat) : Prop := (fmt = 1 ∧ natBit d 8 ≠ oddOnes d) ∨ (fmt = 2 ∧ natBit d 8 = oddOnes d)

theorem nine_bits (h : d < 512) : d = d % 256 + if natBit d 8 then 256 else 0 := by
  unfold natBit
  by_cases hb : d / 256 % 2 = 0
  · simp [hb]
    omega
  · have : d / 256 % 2 = 1 := by omega
    simp [this]
    omega

/-- A ninth bit that a rule gives is wrong where the frame's own differs. -/
theorem ninth_ne_iff (h : d < 512) (b : Bool) : d % 256 + (if b then 256 else 0) ≠ d ↔ natBit d 8 ≠ b := by
  have hd := nine_bits h
  cases hn : natBit d 8 <;> cases b <;> simp [hn] at hd ⊢ <;> omega

theorem uartBits_ne_iff (h : d < 512) (h8 : s.get (F.SER_UuCTL_FMT u) = 0 → d < 256) :
    (uartBits u d s != d) = true ↔ ParityError (s.get (F.SER_UuCTL_FMT u)) d := by
  have hf := fmt_lt u s
  unfold uartBits
  generalize s.get (F.SER_UuCTL_FMT u) = fmt at h8 hf
  rw [bne_iff_ne]
  obtain rfl | rfl | rfl | rfl : fmt = 0 ∨ fmt = 1 ∨ fmt = 2 ∨ fmt = 3 := by omega
  · simp [Nat.mod_eq_of_lt (h8 rfl)]
  · show d % 256 + (if oddOnes d then 256 else 0) ≠ d ↔ _
    rw [ninth_ne_iff h]
    simp [ParityError]
  · have hflip : (if oddOnes d then 0 else 256) = if !oddOnes d then 256 else 0 := by cases oddOnes d <;> rfl
    show d % 256 + (if oddOnes d then 0 else 256) ≠ d ↔ _
    rw [hflip, ninth_ne_iff h]
    simp [ParityError]
  · simp [Nat.mod_eq_of_lt h]

/-- The port listens to the line. -/
abbrev RxLive (u : Fin 2) (s : State) : Prop :=
  s.on (F.SER_UuCTL_EN u) = true ∧ s.on (F.SER_UuCTL_RXEN u) = true ∧ uartWired u s = true ∧
    ((s.ua u).de = false ∨ s.on (F.SER_UuCTL_ECHO u) = true)

theorem uartReceive_of_deaf {bits : Nat} {stop : Bool} (h : ¬ RxLive u s) : uartReceive u bits stop s = s := by
  unfold uartReceive
  dsimp only
  by_cases hoff : (!s.on (F.SER_UuCTL_EN u) || !s.on (F.SER_UuCTL_RXEN u) || !uartWired u s) = true
  · exact if_pos hoff
  · refine (if_neg hoff).trans (if_pos ?_)
    simp only [Bool.or_eq_true, Bool.not_eq_true', not_or, Bool.not_eq_false] at hoff
    obtain ⟨⟨hen, hrx⟩, hw⟩ := hoff
    simpa [RxLive, hen, hrx, hw] using h

/-- The data bits of a frame by its format. -/
def rxData (u : Fin 2) (bits : Nat) (s : State) : Nat := if s.get (F.SER_UuCTL_FMT u) = 0 then bits % 256 else bits

/-- Does the address filter act, and does it let the frame's station hear? -/
def rxFilter (u : Fin 2) (s : State) : Bool := s.get (F.SER_UuCTL_FMT u) == 3 && s.on (F.SER_UuCTL_ADDRM u)
def rxSel (u : Fin 2) (d : Nat) (s : State) : Bool :=
  if natBit d 8 then decide (d % 256 = s.get (F.SER_UuCTL_ADDR u)) else (s.ua u).sel

/-- The state once the filter has looked at the frame. -/
def rxFiltered (u : Fin 2) (d : Nat) (s : State) : State :=
  if rxFilter u s then s.setUa u { s.ua u with sel := rxSel u d s } else s

/-- The port once the filter has looked at the frame. -/
def rxPort (u : Fin 2) (d : Nat) (s : State) : Uart := if rxFilter u s then { s.ua u with sel := rxSel u d s } else s.ua u

theorem ua_rxFiltered (u : Fin 2) (d : Nat) (s : State) : (rxFiltered u d s).ua u = rxPort u d s := by
  unfold rxFiltered rxPort
  split
  · exact ua_setUa ..
  · rfl

theorem rx_rxPort (u : Fin 2) (d : Nat) (s : State) : (rxPort u d s).rx = (s.ua u).rx := by
  unfold rxPort
  split <;> rfl

/-- The sticky errors of a frame. -/
def rxErrors (u : Fin 2) (pe fe brk : Bool) (a : State) : State :=
  let a := if pe then uartError u 1 a else a
  let a := if fe then uartError u 2 a else a
  if brk then uartError u 3 a else a

/-- The word that a frame leaves in the receive FIFO. -/
def rxWord (nine pe fe brk : Bool) (d : Nat) : Nat :=
  (if nine then d % 512 else d % 256) + (if pe then 4096 else 0) + (if fe then 8192 else 0) + if brk then 16384 else 0

theorem uartReceive_of_live {bits : Nat} {stop : Bool} (h : RxLive u s) : uartReceive u bits stop s =
    let d := rxData u bits s
    let k := rxFiltered u d s
    let pe := uartBits u d s != d
    let brk := !stop && d == 0
    if rxFilter u s && !rxSel u d s then k
    else if 16 ≤ (s.ua u).rx.length then uartError u 0 k
    else uartEvents u (rxErrors u pe (!stop) brk (k.setUa u
      { rxPort u d s with rx := (s.ua u).rx ++ [rxWord (s.get (F.SER_UuCTL_FMT u) == 3) pe (!stop) brk d] })) := by
  obtain ⟨hen, hrx, hw, hde⟩ := h
  have hecho : ¬ ((s.ua u).de && !s.on (F.SER_UuCTL_ECHO u)) = true := by
    rcases hde with hde | hde <;> simp [hde]
  have hk : uartReceive u bits stop s =
      let d := rxData u bits s
      let k := rxFiltered u d s
      let pe := uartBits u d s != d
      let brk := !stop && d == 0
      if rxFilter u s && !rxSel u d s then k
      else if 16 ≤ (k.ua u).rx.length then uartError u 0 k
      else uartEvents u (rxErrors u pe (!stop) brk (k.setUa u
        { k.ua u with rx := (k.ua u).rx ++ [rxWord (s.get (F.SER_UuCTL_FMT u) == 3) pe (!stop) brk d] })) :=
    (if_neg (by simp [hen, hrx, hw])).trans (if_neg hecho)
  simpa only [ua_rxFiltered, rx_rxPort] using hk

end

/-! A frame sent (R363). -/

theorem uartSent_of_off (h : ¬ s.on (F.SER_UuCTL_EN u) = true ∨ s.on (F.SER_UuCTL_TXEN u) = false) : uartSent u s = s := by
  refine if_pos ?_
  rcases h with h | h <;> simp [h]

theorem uartSent_of_empty (he : s.on (F.SER_UuCTL_EN u) = true) (ht : s.on (F.SER_UuCTL_TXEN u) = true) (h : (s.ua u).tx = []) :
    uartSent u s = s.setUa u { s.ua u with de := false } := by
  refine (if_neg (by simp [he, ht])).trans ?_
  split
  · rfl
  · next d rest hd => exact absurd (hd.symm.trans h) (List.cons_ne_nil d rest)

theorem uartSent_of_frame {d : Nat} {rest : List Nat} (he : s.on (F.SER_UuCTL_EN u) = true) (ht : s.on (F.SER_UuCTL_TXEN u) = true)
    (h : (s.ua u).tx = d :: rest) : uartSent u s = uartEvents u ((s.setUa u
      { s.ua u with tx := rest, de := s.on (F.SER_UuCTL_HDX u) && (!rest.isEmpty || s.get (F.SER_UuDE_DETAIL u) != 0) }).answer
        (uartBits u d s)) := by
  refine (if_neg (by simp [he, ht])).trans ?_
  rewrite [h]
  rfl

/-- The bits of a frame sent, by its format. -/
theorem uartBits_eq (u : Fin 2) (d : Nat) (s : State) : uartBits u d s =
    if s.get (F.SER_UuCTL_FMT u) = 3 then d % 512
    else d % 256 + (if s.get (F.SER_UuCTL_FMT u) ≠ 0 ∧ oddOnes d = decide (s.get (F.SER_UuCTL_FMT u) = 1) then 256 else 0) := by
  have hf := fmt_lt u s
  unfold uartBits
  generalize s.get (F.SER_UuCTL_FMT u) = fmt at hf
  obtain rfl | rfl | rfl | rfl : fmt = 0 ∨ fmt = 1 ∨ fmt = 2 ∨ fmt = 3 := by omega
  · rfl
  · cases oddOnes d <;> rfl
  · cases oddOnes d <;> rfl
  · rfl

end Sys2Proof.Machine
end

section
/-!
PROOFS. The I²C port, the host port, and the serial ports put together (R367 to R372, R426).
-/
namespace Sys2Proof.Machine

variable {s : State}

/-! The I²C controller (R368). -/

/-- The pads' functions are the same, so the port is wired as before. -/
theorem i2cWired_congr {t : State} (h : ∀ i < 80, t.word (R.PIN_CFG i) = s.word (R.PIN_CFG i)) : i2cWired t = i2cWired s := by
  have hpad (i : Nat) (hi : i < 80) (f : Nat) : padCarries i f t = padCarries i f s := by
    have hfunc : t.get (F.PIN_CFG_FUNC i) = s.get (F.PIN_CFG_FUNC i) := get_of_word (h i hi)
    have htrans : t.on (F.PIN_CFG_TRANS i) = s.on (F.PIN_CFG_TRANS i) := State.on_congr (get_of_word (h i hi))
    unfold padCarries
    rw [hfunc, htrans]
  unfold i2cWired
  rw [hpad 38 (by decide), hpad 78 (by decide), hpad 39 (by decide), hpad 79 (by decide)]

theorem i2cWired_set {f : Fld} (hf : 0x5000E000 ≤ f.reg.addr) (v : Nat) (s : State) : i2cWired (s.set f v) = i2cWired s := by
  refine i2cWired_congr fun i hi => State.word_set_other s ?_ v
  simp only [R.PIN_CFG]
  omega

section
variable {op c : Nat} {rest : List Nat} {f : Nat → State → State}

theorem i2cRun_of_front (h : s.i2c.cmd = c :: rest) (ho : c % 16 = op) (hc : s.on F.SER_ICTL_CEN = true) :
    i2cRun op f s = f c (i2cFifo rest s) := by
  unfold i2cRun
  rewrite [h]
  exact if_pos ⟨ho, hc⟩

theorem i2cRun_of_other (h : s.on F.SER_ICTL_CEN = false ∨ (s.i2c.cmd.head?.map fun c => c % 16) ≠ some op) : i2cRun op f s = s := by
  unfold i2cRun
  split
  · rfl
  · next c rest hc =>
    refine if_neg fun hn => ?_
    rcases h with h | h
    · exact absurd (h.symm.trans hn.2) Bool.false_ne_true
    · exact h (by rw [hc]; exact congrArg some hn.1)

end

theorem i2cArbLost_of_busy (hc : s.on F.SER_ICTL_CEN = true) (hb : s.on F.SER_ISTAT_BUSY = true) :
    i2cArbLost s = i2cFifo [] ((s.setBit ⟨R.SER_ISTAT, 8, 6⟩ 1 true).raise 0x7E) := if_pos (by simp [hc, hb])

theorem i2cArbLost_of_idle (h : s.on F.SER_ICTL_CEN = false ∨ s.on F.SER_ISTAT_BUSY = false) : i2cArbLost s = s := by
  refine if_neg ?_
  rcases h with h | h <;> simp [h]

/-! The port as target (R369). -/

/-- The port answers as target. -/
abbrev TargetOn (s : State) : Prop := s.on F.SER_ICTL_TEN = true ∧ i2cWired s = true

/-- A change of BUSY leaves the settings of the target and its wires. -/
theorem targetOn_setBusy (v : Nat) (s : State) : TargetOn (s.set F.SER_ISTAT_BUSY v) ↔ TargetOn s := by
  have hten : (s.set F.SER_ISTAT_BUSY v).on F.SER_ICTL_TEN = s.on F.SER_ICTL_TEN := State.on_set_apart s (by decide) v
  unfold TargetOn
  rw [hten, i2cWired_set (by decide)]

theorem guard_iff (s : State) : (!s.on F.SER_ICTL_TEN || !i2cWired s) = true ↔ ¬ TargetOn s := by
  unfold TargetOn
  cases s.on F.SER_ICTL_TEN <;> cases i2cWired s <;> simp

theorem i2cTarget_of_off {a : I2cAccess} (h : ¬ TargetOn (i2cBus a s)) : i2cTarget a s = i2cBus a s := if_pos ((guard_iff _).mpr h)

theorem i2cTarget_of_on {a : I2cAccess} (h : TargetOn (i2cBus a s)) : i2cTarget a s =
    let s := i2cBus a s
    match a with
    | .start addr rd =>
      if addr.toNat = s.get F.SER_ICTL_TADDR then
        let s := i2cSticky 2 { s with i2c := { s.i2c with sel := true, selRead := rd, ready := false } }
        if rd then i2cSticky 4 s else s
      else { s with i2c := { s.i2c with sel := false } }
    | .byteIn d =>
      if s.i2c.sel && !s.i2c.selRead && !s.i2c.full then
        i2cSticky 5 ({ s with i2c := { s.i2c with full := true } }.set F.SER_ITDATA_DATA d.toNat)
      else s
    | .byteOut =>
      if s.i2c.sel && s.i2c.selRead && s.i2c.ready then
        i2cSticky 4 ({ s with i2c := { s.i2c with ready := false } }.answer (s.get F.SER_ITDATA_DATA))
      else s
    | .stop => if s.i2c.sel then i2cSticky 3 { s with i2c := { s.i2c with sel := false } } else s := by
  refine (if_neg fun hn => (guard_iff _).mp hn h).trans ?_
  cases a <;> rfl

/-! The host port (R370, R426). -/

/-- The unit's host port is there. -/
abbrev HostPort (s : State) : Prop := s.on F.SYS_STRAP_HEAD = true ∧ hostWired s = true

theorem hostAbort_of_port (h : HostPort s) : hostAbort s = ((s.set F.SER_HSTAT_ABORT 1).set F.SER_HSTAT_SELECTED 0).raise 0x7F :=
  if_pos (by simp [h.1, h.2])

theorem hostAbort_of_none (h : ¬ HostPort s) : hostAbort s = s := if_neg fun hn => h (by simpa using hn)

section
variable {mode3 rx : Bool} {tx : Option (Nat × List Byte)}

theorem hostSpi_of_none (h : ¬ HostPort s) : hostSpi mode3 tx rx s = s := by
  refine if_pos ?_
  rw [HostPort, not_and_or] at h
  simpa using h

theorem hostSpi_of_member (h : HostPort s) (hh : isHead s = false) : hostSpi mode3 tx rx s = s.setB F.SER_HSTAT_MODE3 mode3 :=
  (if_neg (by simp [h.1, h.2])).trans (if_pos (by simp [hh]))

/-- What the port shows, and the frame that the host has read. -/
def hostShown (mode3 rx : Bool) (s : State) : State :=
  let u := (s.setB F.SER_HSTAT_MODE3 mode3).answer (hostFree s + 8 * bit01 (!s.chn.hostOut.isEmpty))
  match rx, s.chn.hostOut with
  | true, f :: fs => lineSend 2 f false { u with chn := { s.chn with hostOut := fs } }
  | _, _ => u

/-- What becomes of the host's frame, with `free` places for it. -/
def hostTaken (free : Nat) (tx : Option (Nat × List Byte)) (s : State) : State :=
  match tx with
  | none => s
  | some (c, bs) =>
    if free = 0 then s.count F.CHN_HOSTSTAT_HOVF
    else if !crcGood bs then s.count F.CHN_HOSTSTAT_HDISC
    else match parseFrame c bs with
      | none => s.count F.CHN_HOSTSTAT_HDISC
      | some (f, _) =>
        if f.src ≠ 1 ∨ !((f.cls = 0 ∧ 128 ≤ f.tag) ∨ f.cls = 3) then s.count F.CHN_HOSTSTAT_HDISC
        else
          let s := if f.cls = 0 ∧ f.dst ≠ 0x7F then
              { s with chn := { s.chn with hostReqs := s.chn.hostReqs ++ [(f, s.get F.CHN_TRCFG0_RETRIES, rspDue s)] } } else s
          if f.dst = 0x7F then chainSend f s else placeFrame 2 f s

theorem hostSpi_of_head (h : HostPort s) (hh : isHead s = true) :
    hostSpi mode3 tx rx s = hostStat (hostTaken (hostFree s) tx (hostShown mode3 rx s)) := by
  have hshown : hostShown mode3 rx s =
      let u := (s.setB F.SER_HSTAT_MODE3 mode3).answer (hostFree s + 8 * bit01 (!s.chn.hostOut.isEmpty))
      if rx then
        match u.chn.hostOut with
        | [] => u
        | f :: fs => lineSend 2 f false { u with chn := { u.chn with hostOut := fs } }
      else u := by
    unfold hostShown
    dsimp only
    rw [show (State.answer (s.setB F.SER_HSTAT_MODE3 mode3) (hostFree s + 8 * bit01 (!s.chn.hostOut.isEmpty))).chn = s.chn from rfl]
    cases rx <;> cases s.chn.hostOut <;> rfl
  rw [hshown]
  refine (if_neg (by simp [h.1, h.2])).trans ((if_neg (by simp [hh])).trans ?_)
  unfold hostTaken
  cases tx with
  | none => rfl
  | some e =>
    cases parseFrame e.1 e.2 <;> rfl

end

end Sys2Proof.Machine
end

section
/-!
PROOFS. The serial ports, put together (R362 to R372, R426).
-/
namespace Sys2Proof.Machine

variable {s : State}

/-! A frame received, in the terms of its format. -/

theorem rxData_lt (u : Fin 2) (b : BitVec 9) (s : State) :
    rxData u b.toNat s < 512 ∧ (s.get (F.SER_UuCTL_FMT u) = 0 → rxData u b.toNat s < 256) := by
  have hb := b.isLt
  unfold rxData
  split <;> constructor <;> intros <;> omega

theorem rxFilter_iff (u : Fin 2) (s : State) :
    rxFilter u s = true ↔ s.get (F.SER_UuCTL_FMT u) = 3 ∧ s.on (F.SER_UuCTL_ADDRM u) = true := by simp [rxFilter]

theorem uartData_read {cid : Cid} {u : Fin 2} (h : Admits cid false (R.SER_UuDATA u).addr s) :
    exec (.uartDataRead cid u) s = .next (settle ((uartPop u s.begin).2.answer (uartPop u s.begin).1.toNat)) := by
  obtain ⟨hrow, haddr⟩ := uartData_row u
  exact read_takes h hrow (by omega) ((specialReadSer (by omega)).trans (serRead_uartData u s.begin))

/-- Settles O39: each port's step by its case. -/
theorem serialPorts : Obligations.SerialPorts := by
  unfold Obligations.SerialPorts
  refine ⟨?_, fun s => ⟨?_, ?_, fun hc hb => row_of_eq (i2cArbLost_of_busy (s := s.begin) hc hb),
    fun h => row_of_eq (i2cArbLost_of_idle (s := s.begin) h), ?_⟩, ?_⟩
  · intro u s x on fmt
    refine ⟨?_, ?_, ?_, ?_, ?_, ?_, ?_⟩
    · intro cid v h may go refuse
      obtain ⟨hrow, haddr⟩ := uartData_row u
      have hmem : 0x50000000 ≤ (R.SER_UuDATA u).addr ∧ (R.SER_UuDATA u).addr < 0x50010000 := by omega
      have hblock : ((R.SER_UuDATA u).addr - 0x50000000) / 0x1000 = 14 := by omega
      refine ⟨fun hm hlen => write_takes (d := 0#64) h hrow hmem fun row => (specialWriteSer hblock).trans
          ((serWrite_uartData (s := s.begin) hm).trans (congrArg some ?_)),
        fun hm hlen => write_denied h hrow hmem fun row => (specialWriteSer hblock).trans
          ((serWrite_uartData (s := s.begin) hm).trans (congrArg some (uartPush_full (s := s.begin) hlen))),
        fun hm => write_denied h hrow hmem fun row => (specialWriteSer hblock).trans (serWrite_uartData_denied (s := s.begin) hm)⟩
      rw [uartPush_room (s := s.begin) hlen, show fieldOf 0 9 v % 512 = v.toNat % 512 by simp [fieldOf]]
      rfl
    · intro cid b rest h hr
      exact (uartData_read h).trans (by rw [uartPop_oldest (s := s.begin) hr]; rfl)
    · intro cid h hr
      exact (uartData_read h).trans (by rw [uartPop_empty (s := s.begin) hr]; rfl)
    · intro s7 s8 s9 stop b d live filt sel y k pe brk n a a1 a2 a3
      obtain ⟨hlt, hlt8⟩ := rxData_lt u b s
      have hfilt : rxFilter u s = true ↔ filt := rxFilter_iff u s
      have hpe : (uartBits u d s != d) = true ↔ pe := uartBits_ne_iff hlt hlt8
      have hbrk : (!stop && d == 0) = true ↔ brk := by
        cases stop <;> simp [brk]
      have hy : rxPort u d s.begin = y := if_congr hfilt rfl rfl
      have hk : rxFiltered u d s.begin = k := by
        by_cases hf : filt
        · simp only [k, y, if_pos hf]
          exact if_pos (hfilt.mpr hf)
        · simp only [k, if_neg hf]
          exact if_neg (mt hfilt.mp hf)
      have hn : rxWord (s.get (F.SER_UuCTL_FMT u) == 3) (uartBits u d s != d) (!stop) (!stop && d == 0) d = n := by
        unfold rxWord
        rw [if_congr hpe rfl rfl, if_congr hbrk rfl rfl, show d % 512 = d from Nat.mod_eq_of_lt hlt, if_congr (beq_iff_eq (a := s.get (F.SER_UuCTL_FMT u))) rfl rfl]
        cases stop <;> rfl
      have ha : rxErrors u (uartBits u d s != d) (!stop) (!stop && d == 0) a = a3 := by
        unfold rxErrors
        dsimp only
        have hflip (p q : State) : (if (!stop) = true then p else q) = if stop = true then q else p := by cases stop <;> rfl
        rw [if_congr hpe rfl rfl, if_congr hbrk rfl rfl, hflip]
      have hskip : (rxFilter u s && !rxSel u d s) = true ↔ filt ∧ sel = false := by
        rw [Bool.and_eq_true, hfilt, Bool.not_eq_true']
        rfl
      have hall (hl : live) : uartReceive u b.toNat stop s.begin = if filt ∧ sel = false then k
          else if 16 ≤ x.rx.length then uartError u 0 k else uartEvents u a3 := by
        have hjoined : (rxFiltered u d s.begin).setUa u { rxPort u d s.begin with
            rx := x.rx ++ [rxWord (s.get (F.SER_UuCTL_FMT u) == 3) (uartBits u d s != d) (!stop) (!stop && d == 0) d] } = a := by
          rw [hk, hy, hn]
        exact (uartReceive_of_live (s := s.begin) hl).trans (if_congr hskip hk (if_congr Iff.rfl (congrArg (uartError u 0) hk)
          (congrArg (uartEvents u) ((congrArg (rxErrors u (uartBits u d s != d) (!stop) (!stop && d == 0)) hjoined).trans ha))))
      exact ⟨fun hl => row_of_eq (op := uartReceive u b.toNat stop) (uartReceive_of_deaf (s := s.begin) hl),
        fun hl hf => row_of_eq (op := uartReceive u b.toNat stop) ((hall hl).trans (if_pos hf)),
        fun hl hf hr => row_of_eq (op := uartReceive u b.toNat stop) ((hall hl).trans ((if_neg hf).trans (if_pos hr))),
        fun hl hf hr => row_of_eq (op := uartReceive u b.toNat stop) ((hall hl).trans ((if_neg hf).trans (if_neg (Nat.not_le.mpr hr))))⟩
    · intro d rest hen htx hd hold
      refine row_of_eq ((uartSent_of_frame (s := s.begin) hen htx hd).trans ?_)
      rw [uartBits_eq]
      rfl
    · exact fun hen htx hd => row_of_eq (uartSent_of_empty (s := s.begin) hen htx hd)
    · exact fun h => row_of_eq (uartSent_of_off (s := s.begin) h)
  · intro c rest hc hen u ok
    have hfront (op : Nat) (f : Nat → State → State) (ho : c % 16 = op) : i2cRun op f s.begin = f c u :=
      i2cRun_of_front (s := s.begin) hc ho hen
    refine ⟨fun ack ho => row_of_eq ((hfront 1 _ ho).trans ?_), fun ack ho => row_of_eq (hfront 2 _ ho),
      fun d ho => row_of_eq (hfront 3 _ ho), fun ho => row_of_eq (hfront 4 _ ho)⟩
    simp only [ok, i2cWired_set (f := F.SER_ISTAT_BUSY) (by decide)]
  · intro ack d e he h
    simp only [List.mem_cons, List.not_mem_nil, or_false] at he
    rcases he with rfl | rfl | rfl | rfl <;> exact row_of_eq (i2cRun_of_other (s := s.begin) h)
  · intro tgt x
    have hon (a : I2cAccess) : TargetOn (i2cBus a s.begin) ↔ tgt := by
      cases a with
      | start _ _ => exact targetOn_setBusy _ s.begin
      | stop => exact targetOn_setBusy _ s.begin
      | byteIn _ => exact Iff.rfl
      | byteOut => exact Iff.rfl
    have hoff {a : I2cAccess} (h : ¬ tgt) : exec (.i2cTargetAccess a) s = .next (i2cBus a s.begin) :=
      row_of_eq (i2cTarget_of_off (mt (hon a).mp h))
    refine ⟨?_, ?_, ?_, ?_⟩
    · intro a rd b v
      have haddr : b.get F.SER_ICTL_TADDR = s.get F.SER_ICTL_TADDR := State.get_set_apart s.begin (by decide) _
      refine ⟨fun ht ha => row_of_eq ((i2cTarget_of_on ((hon _).mpr ht)).trans (if_pos (ha.trans haddr.symm))),
        fun ht ha => row_of_eq ((i2cTarget_of_on ((hon _).mpr ht)).trans (if_neg fun h => ha (h.trans haddr))), hoff⟩
    · intro d may
      have hiff : (x.sel && !x.selRead && !x.full) = true ↔ x.sel = true ∧ x.selRead = false ∧ x.full = false := by simp [and_assoc]
      refine ⟨fun hm => row_of_eq ((i2cTarget_of_on ((hon _).mpr hm.1)).trans (if_pos (hiff.mpr hm.2))), fun hm => ?_⟩
      by_cases ht : tgt
      · exact row_of_eq ((i2cTarget_of_on ((hon _).mpr ht)).trans (if_neg fun hn => hm ⟨ht, hiff.mp hn⟩))
      · exact hoff ht
    · intro may
      have hiff : (x.sel && x.selRead && x.ready) = true ↔ x.sel = true ∧ x.selRead = true ∧ x.ready = true := by simp [and_assoc]
      refine ⟨fun hm => row_of_eq ((i2cTarget_of_on ((hon _).mpr hm.1)).trans (if_pos (hiff.mpr hm.2))), fun hm => ?_⟩
      by_cases ht : tgt
      · exact row_of_eq ((i2cTarget_of_on ((hon _).mpr ht)).trans (if_neg fun hn => hm ⟨ht, hiff.mp hn⟩))
      · exact hoff ht
    · intro b
      refine ⟨fun ht hs => row_of_eq ((i2cTarget_of_on ((hon _).mpr ht)).trans (if_pos hs)), fun hm => ?_⟩
      by_cases ht : tgt
      · exact row_of_eq ((i2cTarget_of_on ((hon _).mpr ht)).trans (if_neg fun hs => hm ⟨ht, hs⟩))
      · exact hoff ht
  · intro s port
    refine ⟨?_, ?_, fun h => row_of_eq (hostAbort_of_port (s := s.begin) h), fun h => row_of_eq (hostAbort_of_none (s := s.begin) h)⟩
    · intro mode3 rx hp hh q u v ends
      have hv : hostShown mode3 rx s.begin = v := by
        unfold hostShown
        simp only [v, q, u]
        rw [show s.begin.chn = s.chn from rfl]
        cases rx <;> cases s.chn.hostOut <;> rfl
      have hall (tx : Option (Nat × List Byte)) : exec (.hostSpiTransaction mode3 tx rx) s = ends (hostTaken (hostFree s) tx v) := by
        rw [← hv]
        exact rowS_of_eq (op := hostSpi mode3 tx rx) (hostSpi_of_head (s := s.begin) hp hh)
      refine ⟨hall none, ?_⟩
      intro cls bs tx disc
      have hrun {w : State} (hw : hostTaken (hostFree s) tx v = w) : exec (.hostSpiTransaction mode3 tx rx) s = ends w :=
        (hall tx).trans (congrArg ends hw)
      have hroom (hf : 0 < hostFree s) : ¬ hostFree s = 0 := Nat.pos_iff_ne_zero.mp hf
      refine ⟨fun hf => hrun (if_pos hf), fun hf hbad => hrun ((if_neg (hroom hf)).trans ?_), ?_⟩
      · by_cases hg : crcGood bs = true
        · refine (if_neg (by simp [hg])).trans ?_
          rewrite [hbad.resolve_left (by simp [hg])]
          rfl
        · exact if_pos (by simpa using hg)
      · intro f crt hf hc hp legal w
        have hlegal : (f.src ≠ 1 ∨ !((f.cls = 0 ∧ 128 ≤ f.tag) ∨ f.cls = 3)) ↔ ¬ legal := by
          simp only [legal, Bool.not_eq_true', decide_eq_false_iff_not, ← not_and_or]
        have hframe {z : State} (hz : (if f.src ≠ 1 ∨ !((f.cls = 0 ∧ 128 ≤ f.tag) ∨ f.cls = 3) then v.count F.CHN_HOSTSTAT_HDISC
            else if f.dst = 0x7F then chainSend f w else placeFrame 2 f w) = z) : exec (.hostSpiTransaction mode3 tx rx) s = ends z := by
          refine hrun ((if_neg (hroom hf)).trans ((if_neg (by simp [hc])).trans ?_))
          rewrite [hp]
          exact hz
        exact ⟨fun hn => hframe (if_pos (hlegal.mpr hn)),
          fun hl hb => hframe ((if_neg fun h => hlegal.mp h hl).trans (if_pos hb)),
          fun hl hb => hframe ((if_neg fun h => hlegal.mp h hl).trans (if_neg hb))⟩
    · exact fun mode3 rx tx => ⟨fun hp hh => rowS_of_eq (op := hostSpi mode3 tx rx) (hostSpi_of_member (s := s.begin) hp hh),
        fun hp => rowS_of_eq (op := hostSpi mode3 tx rx) (hostSpi_of_none (s := s.begin) hp)⟩

end Sys2Proof.Machine
end


section
/-!
PROOFS. The step of a Teasel channel by what its instruction comes to (R345, R346, R357, R360).
-/
namespace Sys2Proof.Machine

/-- The state that a step of channel `t` on `s` leaves when the engine comes to the channel and its instruction comes to the outcome. -/
def tslEnds (t : Fin 24) (s : State) : TslOut → State
  | .next v => v.tslAt t (s.get (F.TSL_CHtPC_PC t) + 1)
  | .goto k v => v.tslAt t k
  | .wait v => s.begin.tslWaits t v
  | .stop c v =>
    (if c = 1 then (v.set (F.TSL_CHtSTAT_WAIT t) 0).set (F.TSL_CHtPC_PC t) (s.get (F.TSL_CHtPC_PC t) + 1) else v).tslStops t c

section
variable {t : Fin 24} {w : Word} {s u : State} {mine : Word → Bool}

/-- In its turn a channel does what its instruction comes to. -/
theorem tslStep_of_turn (hf : TslFetches t w s u) (ht : tslTurn t s.begin = true) (hm : mine w = true) :
    tslStep t mine s.begin = tslEnds t s (tslExec t w u) := by
  obtain ⟨e, hready, hread⟩ := hf.eq
  have hrun : tslRuns t s.begin = true := hf.1
  cases hx : tslExec t w u <;>
    simp [tslStep, tslAddr, hrun, hready, hread, hm, hx, ht, tslEnds, State.tslAt, State.tslStops, State.tslWaits]

theorem rowS_tslStep (hf : TslFetches t w s u) (ht : tslTurn t s.begin = true) (hm : mine w = true) {o : TslOut}
    (hx : tslExec t w u = o) : rowS (tslStep t mine) s = .next (settle (tslEnds t s o)) :=
  rowS_of_eq ((tslStep_of_turn hf ht hm).trans (congrArg (tslEnds t s) hx))

/-- A word of no instruction comes to a stop as ILLEGAL (R351). -/
theorem tslExec_of_noClass (hc : fieldOf 28 4 w = 0 ∨ 9 < fieldOf 28 4 w) : tslExec t w u = .stop 2 u := by
  unfold tslExec
  split
  case h_10 => rfl
  all_goals omega

/-- A word of no instruction stops its channel, whatever instruction the command names. -/
theorem tslStep_of_noClass (hf : TslFetches t w s u) (ht : tslTurn t s.begin = true) (hc : fieldOf 28 4 w = 0 ∨ 9 < fieldOf 28 4 w) :
    tslStep t mine s.begin = u.tslStops t 2 := by
  obtain ⟨e, hready, hread⟩ := hf.eq
  have hrun : tslRuns t s.begin = true := hf.1
  have hlegal : ¬(1 ≤ fieldOf 28 4 w ∧ fieldOf 28 4 w ≤ 9) := by omega
  simp [tslStep, tslAddr, hrun, hready, hread, hlegal, tslExec_of_noClass hc, ht, State.tslStops]

/-- A command leaves the instruction of another alone. -/
theorem tslStep_of_other (hf : TslFetches t w s u) (hc : 1 ≤ fieldOf 28 4 w ∧ fieldOf 28 4 w ≤ 9) (hm : mine w = false) :
    tslStep t mine s.begin = s.begin := by
  obtain ⟨e, hready, hread⟩ := hf.eq
  have hrun : tslRuns t s.begin = true := hf.1
  simp [tslStep, tslAddr, hrun, hready, hread, hc, hm]

/-- Out of its turn a channel takes no step: only a wait shows. -/
theorem tslStep_of_noTurn (hf : TslFetches t w s u) (ht : tslTurn t s.begin = false) (hx : ∀ v, tslExec t w u ≠ .wait v) :
    tslStep t mine s.begin = s.begin := by
  obtain ⟨e, hready, hread⟩ := hf.eq
  have hrun : tslRuns t s.begin = true := hf.1
  cases ho : tslExec t w u with
  | wait v => exact absurd ho (hx v)
  | next v => simp [tslStep, tslAddr, hrun, hready, hread, ho, ht]
  | goto k v => simp [tslStep, tslAddr, hrun, hready, hread, ho, ht]
  | stop c v => simp [tslStep, tslAddr, hrun, hready, hread, ho, ht]

theorem tslStep_of_idle (h : tslRuns t s = false) : tslStep t mine s = s := by simp [tslStep, h]

/-- A fetch that its bank refuses stops the channel as REFUSED (R231, R360). -/
theorem tslStep_of_refused (hr : tslRuns t s = true) (ht : tslTurn t s = true) (hb : (bankReady (tslAddr t s) s).1 = false) :
    tslStep t mine s =
      (busErr { cid := 26 + t, fetch := true } false (tslAddr t s) .busy (bankReady (tslAddr t s) s).2).tslStops t 4 := by
  have h : bankReady (tslAddr t s) s = (false, (bankReady (tslAddr t s) s).2) := Prod.ext hb rfl
  unfold tslStep
  rewrite [if_neg (by simp [hr]), h]
  exact if_pos ht

/-- An instruction that cannot be corrected stops the channel (R231, R360). -/
theorem tslStep_of_uncorrectable (hr : tslRuns t s = true) (ht : tslTurn t s = true) (hb : (bankReady (tslAddr t s) s).1 = true)
    (hw : ramReadWord { cid := 26 + t, fetch := true } 1 (tslAddr t s) (bankReady (tslAddr t s) s).2 = (none, u)) :
    tslStep t mine s = u.tslStops t 5 := by
  have h : bankReady (tslAddr t s) s = (true, (bankReady (tslAddr t s) s).2) := Prod.ext hb rfl
  unfold tslStep
  rewrite [if_neg (by simp [hr]), h]
  dsimp only
  rewrite [hw]
  exact if_pos ht

end

/-- Each of the commands of the Teasel instructions is a step of its channel. -/
theorem exec_of_tslForms : ∀ e ∈ tslForms, ∀ (t : Fin 24) (s : State), exec (e.2 t) s = rowS (tslStep t e.1) s := by
  simp only [tslForms, List.forall_mem_cons]
  exact ⟨fun _ _ => rfl, fun _ _ => rfl, fun _ _ => rfl, fun _ _ => rfl, fun _ _ => rfl, fun _ _ => rfl, fun _ _ => rfl,
    fun _ _ => rfl, fun _ _ => rfl, fun _ _ => rfl, fun _ _ => rfl, fun _ _ => rfl, fun _ _ => rfl, fun _ _ => rfl, fun _ _ => rfl,
    by simp⟩

/-- The engine comes to channel `t` next where no runnable channel stands before it (R345). -/
theorem tslTurn_iff (t : Fin 24) (s : State) : tslTurn t s = true ↔
    ∀ u < 24, tslReady u s = true → (t.val + 24 - s.svc.tslNext) % 24 ≤ (u + 24 - s.svc.tslNext) % 24 := by
  simp only [tslTurn, List.all_eq_true, List.mem_range, Bool.or_eq_true, decide_eq_true_eq, Bool.not_eq_true']
  refine forall₂_congr fun u _ => ?_
  cases tslReady u s <;> simp

/-! What clearing STALL leaves of a channel's cursor and configuration. -/

section
variable (t : Fin 24) (v : Nat) (s : State)

@[simp] theorem tb9_set (f : Fld) : tb9 (s.set f v) = tb9 s := rfl

theorem tslTick_set_stall : tslTick t (s.set (F.TSL_CHtSTAT_STALL t) v) = tslTick t s := by
  unfold tslTick
  rw [tb9_set, State.get_set_other _ (by simp [F.TSL_CHtTC_TC, F.TSL_CHtSTAT_STALL, R.TSL_CHtTC, R.TSL_CHtSTAT])]

theorem get_lead_set_stall : (s.set (F.TSL_CHtSTAT_STALL t) v).get (F.TSL_CHtCFG_LEAD t) = s.get (F.TSL_CHtCFG_LEAD t) :=
  s.get_set_other (by simp [F.TSL_CHtCFG_LEAD, F.TSL_CHtSTAT_STALL, R.TSL_CHtCFG, R.TSL_CHtSTAT]) v

theorem on_resync_set_stall : (s.set (F.TSL_CHtSTAT_STALL t) v).on (F.TSL_CHtCFG_RESYNC t) = s.on (F.TSL_CHtCFG_RESYNC t) :=
  State.on_congr (s.get_set_other (by simp [F.TSL_CHtCFG_RESYNC, F.TSL_CHtSTAT_STALL, R.TSL_CHtCFG, R.TSL_CHtSTAT]) v)

/-- A channel that was stalled takes up its cursor anew under RESYNC (R357). -/
theorem tslResume_of_stalled (h : s.on (F.TSL_CHtSTAT_STALL t) = true) :
    tslResume t s = if s.on (F.TSL_CHtCFG_RESYNC t)
      then putTick t (max (tslTick t s) ((tb9 s + s.get (F.TSL_CHtCFG_LEAD t) : Nat) : Int)) (s.set (F.TSL_CHtSTAT_STALL t) 0)
      else s.set (F.TSL_CHtSTAT_STALL t) 0 := by
  unfold tslResume
  rewrite [if_pos h]
  dsimp only
  rw [on_resync_set_stall, tslTick_set_stall, get_lead_set_stall, tb9_set]

theorem tslResume_of_running (h : s.on (F.TSL_CHtSTAT_STALL t) = false) : tslResume t s = s := by simp [tslResume, h]

end

/-- The clauses of R345 and R351 that hold for every Teasel instruction alike. -/
theorem tslForms_fetch : ∀ e ∈ tslForms, ∀ (t : Fin 24) (w : Word) (s u : State), TslFetches t w s u →
    (fieldOf 28 4 w = 0 ∨ 9 < fieldOf 28 4 w → tslTurn t s.begin = true → exec (e.2 t) s = .next (settle (u.tslStops t 2))) ∧
    (1 ≤ fieldOf 28 4 w → fieldOf 28 4 w ≤ 9 → e.1 w = false → exec (e.2 t) s = .next (settle s.begin)) ∧
    (tslTurn t s.begin = false → (∀ v, tslExec t w u ≠ .wait v) → exec (e.2 t) s = .next (settle s.begin)) := by
  intro e he t w s u hf
  rw [exec_of_tslForms e he]
  exact ⟨fun hc ht => rowS_of_eq (tslStep_of_noClass hf ht hc), fun h1 h9 hm => rowS_of_eq (tslStep_of_other hf ⟨h1, h9⟩ hm),
    fun ht hx => rowS_of_eq (tslStep_of_noTurn hf ht hx)⟩

/-- A fetch that gives no word stops the channel, whatever instruction the command names (R231, R360). -/
theorem tslForms_noFetch : ∀ e ∈ tslForms, ∀ (t : Fin 24) (s : State), tslRuns t s = true → tslTurn t s.begin = true →
    let who : Who := { cid := 26 + t, fetch := true }
    let r := bankReady (tslAddr t s) s.begin
    (r.1 = false → exec (e.2 t) s = .next (settle ((busErr who false (tslAddr t s) .busy r.2).tslStops t 4))) ∧
    (∀ u, r.1 = true → ramReadWord who 1 (tslAddr t s) r.2 = (none, u) → exec (e.2 t) s = .next (settle (u.tslStops t 5))) := by
  intro e he t s hr ht who r
  rw [exec_of_tslForms e he]
  exact ⟨fun hb => rowS_of_eq (tslStep_of_refused (s := s.begin) hr ht hb),
    fun u hb hw => rowS_of_eq (tslStep_of_uncorrectable (s := s.begin) hr ht hb hw)⟩

end Sys2Proof.Machine
end


section
/-!
PROOFS. The Teasel instructions on pins and counts: DRIVE, SAMPLE, SHIFT, COUNT (R352, R355).
-/
namespace Sys2Proof.Machine

section
variable {t n : Nat} {w : Word} {s : State}

theorem tslExec_of_class1 (h : fieldOf 28 4 w = 1) : tslExec t w s = tslDrive t w s := by unfold tslExec; rewrite [h]; rfl
theorem tslExec_of_class2 (h : fieldOf 28 4 w = 2) : tslExec t w s = tslSample t w s := by unfold tslExec; rewrite [h]; rfl
theorem tslExec_of_class3 (h : fieldOf 28 4 w = 3) : tslExec t w s = tslShift t w s := by unfold tslExec; rewrite [h]; rfl
theorem tslExec_of_class7 (h : fieldOf 28 4 w = 7) : tslExec t w s = tslCount4 t w s := by unfold tslExec; rewrite [h]; rfl

theorem tslClass_of_eq {c : Nat} (h : fieldOf 28 4 w = c) : tslClass c w = true := by simp [tslClass, h]

/-! DRIVE. -/

theorem tslDrive_of_reserved (h : fieldOf 16 6 w ≠ 0 ∨ tslPinOf t (fieldOf 25 3 w) s = none) : tslDrive t w s = .stop 2 s := by
  unfold tslDrive
  cases hn : tslPinOf t (fieldOf 25 3 w) s with
  | none => rfl
  | some n => exact if_pos (h.resolve_right (by simp [hn]))

theorem tslDrive_of_full (hz : fieldOf 16 6 w = 0) (hn : tslPinOf t (fieldOf 25 3 w) s = some n)
    (hq : 2 ≤ (pinAt n s).queue.length) : tslDrive t w s = .wait s := by
  unfold tslDrive
  rewrite [hn]
  exact (if_neg (not_not_intro hz)).trans (if_pos hq)

/-- A post after the cursor has moved still finds the pin's queue as it was. -/
theorem postPin_putTick (t : Nat) (d : PinDrive) (c : Int) (k : Nat) (s : State) : (putTick t c s).postPin n d k =
    setPin n { pinAt n s with queue := (pinAt n s).queue.filter (fun e => e.2 != k) ++ [(d, k)] } (putTick t c s) := by
  rw [State.postPin, pinAt_putTick]

theorem postPin_noteLate (t : Nat) (d : PinDrive) (c : Int) (k : Nat) (s : State) :
    ((putTick t c s).noteLate t).postPin n d k =
      setPin n { pinAt n s with queue := (pinAt n s).queue.filter (fun e => e.2 != k) ++ [(d, k)] } ((putTick t c s).noteLate t) := by
  rw [State.postPin, pinAt_noteLate, pinAt_putTick]

/-- Pin `n` of `s` takes the event `(d, k)`; the result stands in `v` (R348). -/
def pinPosted (n : Nat) (d : PinDrive) (k : Nat) (s v : State) : State :=
  setPin n { pinAt n s with queue := (pinAt n s).queue.filter (fun e => e.2 != k) ++ [(d, k)] } v

section
variable {t : Fin 24} (hc : fieldOf 28 4 w = 1) (hz : fieldOf 16 6 w = 0) (hn : tslPinOf t (fieldOf 25 3 w) s = some n)
  (hq : ¬2 ≤ (pinAt n s).queue.length)
include hc hz hn hq

theorem tslExec_drive_onTime (hk : (tb9 s : Int) + 2 ≤ driveTick t w s) : tslExec t w s =
    .next (pinPosted n (driveLevel t w s) (driveTick t w s).toNat s (putTick t (driveTick t w s) s)) := by
  rw [tslExec_drive hc hz hn (not_le.1 hq), tslPost_of_onTime (by rwa [tb9_putTick]), postPin_putTick, pinPosted]

theorem tslExec_drive_late (hk : driveTick t w s < (tb9 s : Int) + 2) (hp : s.on (F.TSL_CHtCFG_LATEPOL t) = false) :
    tslExec t w s = .next (pinPosted n (driveLevel t w s) (tb9 s + 2) s ((putTick t (driveTick t w s) s).noteLate t)) := by
  rw [tslExec_drive hc hz hn (not_le.1 hq), tslPost_of_late (by rwa [tb9_putTick]) (by rwa [on_latepol_putTick]), postPin_noteLate,
    tb9_putTick, pinPosted]

theorem tslExec_drive_stops (hk : driveTick t w s < (tb9 s : Int) + 2) (hp : s.on (F.TSL_CHtCFG_LATEPOL t) = true) :
    tslExec t w s = .stop 3 (putTick t (driveTick t w s) s) := by
  rw [tslExec_drive hc hz hn (not_le.1 hq), tslPost_of_late_stop (by rwa [tb9_putTick]) (by rwa [on_latepol_putTick])]

end

/-! SAMPLE. -/

theorem tslSample_of_reserved (h : fieldOf 16 9 w ≠ 0 ∨ tslPinOf t (fieldOf 25 3 w) s = none) : tslSample t w s = .stop 2 s := by
  unfold tslSample
  cases hn : tslPinOf t (fieldOf 25 3 w) s with
  | none => rfl
  | some n => exact if_pos (h.resolve_right (by simp [hn]))

theorem tslSample_of_unknown (hz : fieldOf 16 9 w = 0) (hn : tslPinOf t (fieldOf 25 3 w) s = some n)
    (hk : levelKnown (tslTick t s + (fieldOf 0 16 w : Nat)) s = false) : tslSample t w s = .wait s := by
  unfold tslSample
  rewrite [hn]
  exact (if_neg (not_not_intro hz)).trans (if_pos (by simp [hk]))

theorem tslSample_of_known (hz : fieldOf 16 9 w = 0) (hn : tslPinOf t (fieldOf 25 3 w) s = some n)
    (hk : levelKnown (tslTick t s + (fieldOf 0 16 w : Nat)) s = true) :
    let k := tslTick t s + (fieldOf 0 16 w : Nat)
    let b := if levelAt n k s then 1 else 0
    tslSample t w s = .next (tslSetC t (levelAt n k s) ((putTick t k s).set (F.TSL_CHtSI t)
      (if s.on (F.TSL_CHtCFG_SIDIR t) then s.get (F.TSL_CHtSI t) / 2 + b * 2 ^ 31 else s.get (F.TSL_CHtSI t) * 2 + b))) := by
  unfold tslSample
  rewrite [hn]
  exact (if_neg (not_not_intro hz)).trans (if_neg (by simp [hk]))

/-! SHIFT. -/

/-- The register that SHIFT names by `k` (R352). -/
def shiftReg (t k : Nat) : Fld :=
  if k = 0 then F.TSL_CHtSO t else if k = 1 then F.TSL_CHtSI t else if k = 2 then F.TSL_CHtS0 t else F.TSL_CHtS1 t

theorem tslShift_of_reserved (h : fieldOf 0 18 w ≠ 0) : tslShift t w s = .stop 2 s := if_pos h

theorem tslShift_of_formed (h : fieldOf 0 18 w = 0) :
    let a := BitVec.ofNat 32 (s.get (shiftReg t (fieldOf 24 2 w)))
    let r := if fieldOf 23 1 w = 0 then a >>> fieldOf 18 5 w else a <<< fieldOf 18 5 w
    tslShift t w s = .next (tslZn t r (s.set (shiftReg t (fieldOf 26 2 w)) r.toNat)) := by
  unfold tslShift
  rewrite [if_neg (not_not_intro h)]
  generalize fieldOf 24 2 w = i
  generalize fieldOf 26 2 w = j
  rcases i with _ | _ | _ | i <;> rcases j with _ | _ | _ | j <;> rfl

/-! COUNT. -/

theorem tslCount4_of_reserved (h : fieldOf 16 8 w ≠ 0 ∨ 4 ≤ fieldOf 24 3 w) : tslCount4 t w s = .stop 2 s := if_pos h

/-- The register of a COUNT (R352). -/
def countReg (t : Nat) (w : Word) : Fld := if fieldOf 27 1 w = 1 then F.TSL_CHtS1 t else F.TSL_CHtS0 t

/-- A COUNT whose result is `v` writes it to its register, with Z and N of it. -/
def countPut (t : Nat) (w v : Word) (s : State) : TslOut := .next (tslZn t v (s.set (countReg t w) v.toNat))

section
variable (hz : fieldOf 16 8 w = 0)
include hz

theorem tslCount4_add (ho : fieldOf 24 3 w = 0) : tslCount4 t w s =
    countPut t w (BitVec.ofNat 32 (s.get (countReg t w)) + (BitVec.ofNat 16 (fieldOf 0 16 w)).signExtend 32) s := by
  unfold tslCount4
  rewrite [ho, if_neg (by simp [hz])]
  rfl

theorem tslCount4_load (ho : fieldOf 24 3 w = 1) :
    tslCount4 t w s = countPut t w ((BitVec.ofNat 16 (fieldOf 0 16 w)).signExtend 32) s := by
  unfold tslCount4
  rewrite [ho, if_neg (by simp [hz])]
  rfl

theorem tslCount4_stamp (ho : fieldOf 24 3 w = 2) :
    tslCount4 t w s = countPut t w (BitVec.ofNat 32 (s.get (F.TSL_CHtTC_TC t))) s := by
  unfold tslCount4
  rewrite [ho, if_neg (by simp [hz])]
  rfl

theorem tslCount4_delta (ho : fieldOf 24 3 w = 3) : tslCount4 t w s =
    countPut t w (BitVec.ofNat 32 (s.get (F.TSL_CHtTC_TC t)) - BitVec.ofNat 32 (s.get (countReg t w))) s := by
  unfold tslCount4
  rewrite [ho, if_neg (by simp [hz])]
  rfl

end

theorem tslCountOp_of_eq {o : Nat} (hc : fieldOf 28 4 w = 7) (ho : fieldOf 24 3 w = o) : tslCountOp o w = true := by
  simp [tslCountOp, hc, ho]

theorem tslCountOp_of_reserved {o : Nat} (hc : fieldOf 28 4 w = 7) (ho : 4 ≤ fieldOf 24 3 w) : tslCountOp o w = true := by
  simp [tslCountOp, hc, ho]

end

end Sys2Proof.Machine
end


section
/-!
PROOFS. The Teasel instructions on FIFOs, waits, branches and signals: FETCH, DEPOSIT, AWAIT, BRANCH, SIGNAL (R352 to R354, R357).
-/
namespace Sys2Proof.Machine

section
variable {t n : Nat} {w : Word} {s : State}

theorem tslExec_of_class4 (h : fieldOf 28 4 w = 4) : tslExec t w s = tslFetch t w s := by unfold tslExec; rewrite [h]; rfl
theorem tslExec_of_class5 (h : fieldOf 28 4 w = 5) : tslExec t w s = tslDeposit t w s := by unfold tslExec; rewrite [h]; rfl
theorem tslExec_of_class6 (h : fieldOf 28 4 w = 6) : tslExec t w s = tslAwait t w s := by unfold tslExec; rewrite [h]; rfl
theorem tslExec_of_class8 (h : fieldOf 28 4 w = 8) : tslExec t w s = tslBranch t w s := by unfold tslExec; rewrite [h]; rfl
theorem tslExec_of_class9 (h : fieldOf 28 4 w = 9) : tslExec t w s = tslSignal t w s := by unfold tslExec; rewrite [h]; rfl

/-! FETCH and DEPOSIT. -/

theorem tslFetch_of_reserved (h : fieldOf 0 26 w ≠ 0 ∨ fieldOf 26 2 w = 1) : tslFetch t w s = .stop 2 s := if_pos h

theorem tslFetch_of_empty (hz : fieldOf 0 26 w = 0) (hd : fieldOf 26 2 w ≠ 1) (hq : (s.ts t).outq = []) :
    tslFetch t w s = tslStall t s := by
  unfold tslFetch
  rewrite [if_neg (by simp [hz, hd])]
  dsimp only
  rewrite [hq]
  rfl

theorem tslFetch_of_cons {d : Word} {rest : List Word} (hz : fieldOf 0 26 w = 0) (hd : fieldOf 26 2 w ≠ 1)
    (hq : (s.ts t).outq = d :: rest) : tslFetch t w s = .next (fifoKick t (((tslResume t s).set
      (if fieldOf 26 2 w = 0 then F.TSL_CHtSO t else if fieldOf 26 2 w = 2 then F.TSL_CHtS0 t else F.TSL_CHtS1 t) d.toNat).setTs t
        { s.ts t with outq := rest })) := by
  unfold tslFetch
  rewrite [if_neg (by simp [hz, hd])]
  dsimp only
  rewrite [hq]
  rfl

theorem tslDeposit_of_reserved (h : fieldOf 0 26 w ≠ 0) : tslDeposit t w s = .stop 2 s := if_pos h

theorem tslDeposit_of_full (hz : fieldOf 0 26 w = 0) (hq : 4 ≤ (s.ts t).inq.length) : tslDeposit t w s = tslStall t s :=
  (if_neg (not_not_intro hz)).trans (if_pos hq)

theorem tslDeposit_of_room (hz : fieldOf 0 26 w = 0) (hq : (s.ts t).inq.length < 4) :
    tslDeposit t w s = .next (fifoKick t ((tslResume t s).setTs t { s.ts t with inq := (s.ts t).inq ++ [BitVec.ofNat 32
      ((tslResume t s).get (if fieldOf 26 2 w = 0 then F.TSL_CHtSI t else if fieldOf 26 2 w = 1 then F.TSL_CHtTC_TC t
        else if fieldOf 26 2 w = 2 then F.TSL_CHtS0 t else F.TSL_CHtS1 t))] })) := by
  unfold tslDeposit
  rewrite [if_neg (not_not_intro hz)]
  dsimp only
  rewrite [if_neg (not_le.2 hq)]
  generalize fieldOf 26 2 w = i
  rcases i with _ | _ | _ | i <;> rfl

/-! AWAIT. -/

theorem tslAwait_of_reserved (h : fieldOf 16 6 w ≠ 0 ∨ fieldOf 22 3 w = 7) : tslAwait t w s = .stop 2 s := if_pos h

section
variable (hz : fieldOf 16 6 w = 0)
include hz

/-- COND 6 waits for a tick (R353). -/
theorem tslAwait_tick (hc : fieldOf 22 3 w = 6) : tslAwait t w s =
    if tslTick t s + (fieldOf 0 16 w : Nat) ≤ tb9 s then .next (putTick t (tslTick t s + (fieldOf 0 16 w : Nat)) s) else .wait s := by
  unfold tslAwait
  dsimp only
  rw [if_neg (by omega), if_pos hc]

/-- COND 5 takes an event input that is pending before its timeout (R353). -/
theorem tslAwait_of_event {q : Nat} (hc : fieldOf 22 3 w = 5)
    (ho : fieldOf 0 16 w ≠ 0 → (tb9 s : Int) ≤ tslTick t s + (fieldOf 0 16 w : Nat)) (hq : eventInput (fieldOf 25 3 w) s = some q) :
    tslAwait t w s = .next (tslSetC t true (putTick t (tb9 s) (setRoutePend q false s))) := by
  unfold tslAwait
  dsimp only
  rewrite [if_neg (by omega), if_neg (by omega), if_pos hc, if_pos (decide_eq_true (or_iff_not_imp_left.2 ho)), hq]
  rfl

theorem tslAwait_of_noEvent (hc : fieldOf 22 3 w = 5) (hq : eventInput (fieldOf 25 3 w) s = none)
    (ho : ¬(fieldOf 0 16 w ≠ 0 ∧ tslTick t s + (fieldOf 0 16 w : Nat) ≤ tb9 s)) : tslAwait t w s = .wait s := by
  unfold tslAwait
  dsimp only
  rewrite [if_neg (by omega), if_neg (by omega), if_pos hc, hq, ite_self]
  exact if_neg ho

theorem tslAwait_of_eventTimeout (hc : fieldOf 22 3 w = 5) (hto : fieldOf 0 16 w ≠ 0)
    (h : tslTick t s + (fieldOf 0 16 w : Nat) < tb9 s ∨
      (tslTick t s + (fieldOf 0 16 w : Nat) = tb9 s ∧ eventInput (fieldOf 25 3 w) s = none)) :
    tslAwait t w s = .next (tslSetC t false (putTick t (tslTick t s + (fieldOf 0 16 w : Nat)) s)) := by
  have hnone : (if decide (fieldOf 0 16 w = 0 ∨ (tb9 s : Int) ≤ tslTick t s + (fieldOf 0 16 w : Nat)) = true
      then eventInput (fieldOf 25 3 w) s else none) = none := by
    rcases h with h | ⟨-, h⟩
    · exact if_neg (by simp only [decide_eq_true_eq]; omega)
    · rw [h, ite_self]
  unfold tslAwait
  dsimp only
  rewrite [if_neg (by omega), if_neg (by omega), if_pos hc, hnone]
  exact if_pos ⟨hto, by omega⟩

theorem tslAwait_noPin (hc : fieldOf 22 3 w < 5) (hn : tslPinOf t (fieldOf 25 3 w) s = none) : tslAwait t w s = .stop 2 s := by
  unfold tslAwait
  dsimp only
  rewrite [if_neg (by omega), if_neg (by omega), if_neg (by omega), hn]
  rfl

/-- The state in which an AWAIT for pin `n` ends or waits: OVERRUN shows a lost edge (R350, R353). -/
def awaitNoted (t n : Nat) (w : Word) (s : State) : State :=
  if (awaitPinTick n (fieldOf 22 3 w) (tslTick t s) s).2 then s.set (F.TSL_CHtSTAT_OVERRUN t) 1 else s

section
variable (hc : fieldOf 22 3 w < 5) (hn : tslPinOf t (fieldOf 25 3 w) s = some n)
include hc hn

theorem tslAwait_of_met {k : Int} (hk : (awaitPinTick n (fieldOf 22 3 w) (tslTick t s) s).1 = some k)
    (ho : ¬fieldOf 0 16 w ≠ 0 ∨ k ≤ tslTick t s + (fieldOf 0 16 w : Nat)) :
    tslAwait t w s = .next (tslSetC t true (putTick t k (awaitNoted t n w s))) := by
  unfold tslAwait
  dsimp only
  rewrite [if_neg (by omega), if_neg (by omega), if_neg (by omega), hn]
  dsimp only
  rewrite [hk]
  exact if_pos (ho.imp_left not_not.1)

theorem tslAwait_of_late {k : Int} (hk : (awaitPinTick n (fieldOf 22 3 w) (tslTick t s) s).1 = some k) (hto : fieldOf 0 16 w ≠ 0)
    (ho : tslTick t s + (fieldOf 0 16 w : Nat) < k) : tslAwait t w s =
      .next (tslSetC t false (putTick t (tslTick t s + (fieldOf 0 16 w : Nat)) (awaitNoted t n w s))) := by
  unfold tslAwait
  dsimp only
  rewrite [if_neg (by omega), if_neg (by omega), if_neg (by omega), hn]
  dsimp only
  rewrite [hk]
  exact if_neg (by omega)

theorem tslAwait_of_unmet (hk : (awaitPinTick n (fieldOf 22 3 w) (tslTick t s) s).1 = none) : tslAwait t w s =
    if fieldOf 0 16 w ≠ 0 ∧ levelKnown (tslTick t s + (fieldOf 0 16 w : Nat)) (awaitNoted t n w s)
      then .next (tslSetC t false (putTick t (tslTick t s + (fieldOf 0 16 w : Nat)) (awaitNoted t n w s)))
      else .wait (awaitNoted t n w s) := by
  unfold tslAwait
  dsimp only
  rewrite [if_neg (by omega), if_neg (by omega), if_neg (by omega), hn]
  dsimp only
  rewrite [hk]
  rfl

end
end

/-! BRANCH. -/

/-- Is the BRANCH well formed but for its condition (R354)? -/
abbrev BranchFormed (w : Word) : Prop := fieldOf 11 7 w = 0 ∧ (fieldOf 18 3 w = 0 ∨ fieldOf 24 4 w = 8 ∨ fieldOf 24 4 w = 9)

/-- A BRANCH goes to its target, or falls through. -/
def branchGo (w : Word) (s : State) (b : Bool) : TslOut := if b then .goto (fieldOf 0 11 w) s else .next s

/-- The conditions of BRANCH that look at no pin (R354). -/
def branchConds (t : Nat) (s : State) : List (Nat × Bool) :=
  let fl := s.get (F.TSL_CHtSTAT_C t)
  let x := s.ts t
  [(0, true), (1, natBit fl 1), (2, !natBit fl 1), (3, natBit fl 2), (4, natBit fl 0), (5, !natBit fl 0),
    (10, x.outq.isEmpty), (11, decide (4 ≤ x.inq.length))]

theorem tslBranch_of_reserved (h : ¬BranchFormed w ∨ 12 ≤ fieldOf 24 4 w) : tslBranch t w s = .stop 2 s := if_pos (by omega)

section
variable (hf : BranchFormed w)
include hf

theorem tslBranch_of_cond : ∀ e ∈ branchConds t s, fieldOf 24 4 w = e.1 → tslBranch t w s = branchGo w s e.2 := by
  have hlegal (h : fieldOf 24 4 w < 12) : ¬(fieldOf 11 7 w ≠ 0 ∨ 12 ≤ fieldOf 24 4 w ∨
      (fieldOf 18 3 w ≠ 0 ∧ fieldOf 24 4 w ≠ 8 ∧ fieldOf 24 4 w ≠ 9)) := by omega
  simp only [branchConds, List.forall_mem_cons]
  refine ⟨?_, ?_, ?_, ?_, ?_, ?_, ?_, ?_, by simp⟩ <;>
  · intro h
    unfold tslBranch
    rewrite [if_neg (hlegal (by omega)), h]
    rfl

variable (h6 : 6 ≤ fieldOf 24 4 w) (h9 : fieldOf 24 4 w ≤ 9)
include h6 h9

theorem tslBranch_of_noPin (hn : tslPinOf t (fieldOf 21 3 w) s = none ∨ tslPinOf t (fieldOf 18 3 w) s = none) :
    tslBranch t w s = .stop 2 s := by
  unfold tslBranch
  dsimp only
  rewrite [if_neg (by omega)]
  obtain h | h | h | h : fieldOf 24 4 w = 6 ∨ fieldOf 24 4 w = 7 ∨ fieldOf 24 4 w = 8 ∨ fieldOf 24 4 w = 9 := by omega
  all_goals
    rewrite [h]
    rcases hn with hn | hn
    · rewrite [hn]; rfl
    · rewrite [hn]
      cases tslPinOf t (fieldOf 21 3 w) s <;> rfl

/-- The conditions of BRANCH on the levels of two pins (R354). -/
def branchLevels (t : Nat) (w : Word) (a b : Nat) (s : State) : Bool :=
  let la := levelAt a (tslTick t s) s
  let lb := levelAt b (tslTick t s) s
  if fieldOf 24 4 w = 6 then la else if fieldOf 24 4 w = 7 then !la else if fieldOf 24 4 w = 8 then la == lb else la != lb

theorem tslBranch_of_pins {a b : Nat} (ha : tslPinOf t (fieldOf 21 3 w) s = some a) (hb : tslPinOf t (fieldOf 18 3 w) s = some b) :
    tslBranch t w s = if levelKnown (tslTick t s) s then branchGo w s (branchLevels t w a b s) else .wait s := by
  unfold tslBranch branchLevels
  dsimp only
  rewrite [if_neg (by omega), ha, hb]
  obtain h | h | h | h : fieldOf 24 4 w = 6 ∨ fieldOf 24 4 w = 7 ∨ fieldOf 24 4 w = 8 ∨ fieldOf 24 4 w = 9 := by omega
  all_goals
    rewrite [h]
    cases levelKnown (tslTick t s) s <;> rfl

end

/-! SIGNAL. -/

/-- The access of a SIGNAL to the semaphore word that it names, a read for TRY and a write for GIVE (R352). -/
def signalAccess (t : Nat) (give : Bool) (w : Word) (s : State) : Reply × State :=
  fabric .other { cid := 26 + t } give (0x50005000 + 4 * fieldOf 0 7 w) 4 0 s

theorem tslSignalOp_of_eq {o : Nat} (hc : fieldOf 28 4 w = 9) (ho : fieldOf 26 2 w = o) : tslSignalOp o w = true := by
  simp [tslSignalOp, hc, ho]

theorem tslSignal_of_reserved (h : ¬fieldOf 7 18 w = 0 ∨ (fieldOf 26 2 w ≠ 3 ∧ fieldOf 25 1 w ≠ 0)) :
    tslSignal t w s = .stop 2 s := by
  have hop : fieldOf 26 2 w < 4 := Nat.mod_lt _ (by decide)
  exact if_pos (by omega)

section
variable (hz : fieldOf 7 18 w = 0)
include hz

theorem tslSignal_stop (ho : fieldOf 26 2 w = 3) :
    tslSignal t w s = .stop 1 (if fieldOf 25 1 w = 1 then s.raise (0x60 + t) else s) := by
  unfold tslSignal
  dsimp only
  rewrite [if_neg (by omega), ho]
  rfl

variable (he : fieldOf 25 1 w = 0)
include he

theorem tslSignal_event (ho : fieldOf 26 2 w = 0) : tslSignal t w s = .next (s.raise (0x60 + t)) := by
  unfold tslSignal
  dsimp only
  rewrite [if_neg (by omega), ho]
  rfl

theorem tslSignal_try_of_ok {d : BitVec 64} (ho : fieldOf 26 2 w = 1)
    (h : (signalAccess t false w s).1 = .ans (.ok d)) :
    tslSignal t w s = .next (tslSetC t (d.toNat % 16 == 1) (signalAccess t false w s).2) := by
  unfold tslSignal
  unfold signalAccess at *
  dsimp only
  rewrite [if_neg (by omega), ho]
  generalize fabric .other { cid := 26 + t } false (0x50005000 + 4 * fieldOf 0 7 w) 4 0 s = r at *
  obtain ⟨reply, v⟩ := r
  obtain rfl := h
  rfl

theorem tslSignal_try_of_refused {c : Cause} (ho : fieldOf 26 2 w = 1)
    (h : (signalAccess t false w s).1 = .ans (.refused c)) : tslSignal t w s = .stop 4 (signalAccess t false w s).2 := by
  unfold tslSignal
  unfold signalAccess at *
  dsimp only
  rewrite [if_neg (by omega), ho]
  generalize fabric .other { cid := 26 + t } false (0x50005000 + 4 * fieldOf 0 7 w) 4 0 s = r at *
  obtain ⟨reply, v⟩ := r
  obtain rfl := h
  rfl

theorem tslSignal_give_of_ok {d : BitVec 64} (ho : fieldOf 26 2 w = 2)
    (h : (signalAccess t true w s).1 = .ans (.ok d)) : tslSignal t w s = .next (signalAccess t true w s).2 := by
  unfold tslSignal
  unfold signalAccess at *
  dsimp only
  rewrite [if_neg (by omega), ho]
  generalize fabric .other { cid := 26 + t } true (0x50005000 + 4 * fieldOf 0 7 w) 4 0 s = r at *
  obtain ⟨reply, v⟩ := r
  obtain rfl := h
  rfl

theorem tslSignal_give_of_refused {c : Cause} (ho : fieldOf 26 2 w = 2)
    (h : (signalAccess t true w s).1 = .ans (.refused c)) : tslSignal t w s = .stop 4 (signalAccess t true w s).2 := by
  unfold tslSignal
  unfold signalAccess at *
  dsimp only
  rewrite [if_neg (by omega), ho]
  generalize fabric .other { cid := 26 + t } true (0x50005000 + 4 * fieldOf 0 7 w) 4 0 s = r at *
  obtain ⟨reply, v⟩ := r
  obtain rfl := h
  rfl

end

end

end Sys2Proof.Machine
end


section
/-!
PROOFS. The commands of the Teasel instructions (R345 to R360).
-/
namespace Sys2Proof.Machine

section
variable {t : Fin 24} {w : Word} {s u : State} (hf : TslFetches t w s u) (ht : tslTurn t s.begin = true) {o : TslOut}
include hf ht

/-! Each command comes to what the operation of its class does to the state after the fetch. -/

theorem drive_of_out (hc : fieldOf 28 4 w = 1) (hx : tslDrive t w u = o) : exec (.drive t) s = .next (settle (tslEnds t s o)) :=
  rowS_tslStep hf ht (tslClass_of_eq hc) ((tslExec_of_class1 hc).trans hx)

theorem sample_of_out (hc : fieldOf 28 4 w = 2) (hx : tslSample t w u = o) : exec (.sample t) s = .next (settle (tslEnds t s o)) :=
  rowS_tslStep hf ht (tslClass_of_eq hc) ((tslExec_of_class2 hc).trans hx)

theorem shift_of_out (hc : fieldOf 28 4 w = 3) (hx : tslShift t w u = o) : exec (.shift t) s = .next (settle (tslEnds t s o)) :=
  rowS_tslStep hf ht (tslClass_of_eq hc) ((tslExec_of_class3 hc).trans hx)

theorem fetch_of_out (hc : fieldOf 28 4 w = 4) (hx : tslFetch t w u = o) : exec (.fetch t) s = .next (settle (tslEnds t s o)) :=
  rowS_tslStep hf ht (tslClass_of_eq hc) ((tslExec_of_class4 hc).trans hx)

theorem deposit_of_out (hc : fieldOf 28 4 w = 5) (hx : tslDeposit t w u = o) : exec (.deposit t) s = .next (settle (tslEnds t s o)) :=
  rowS_tslStep hf ht (tslClass_of_eq hc) ((tslExec_of_class5 hc).trans hx)

theorem awaitPin_of_out (hc : fieldOf 28 4 w = 6) (hx : tslAwait t w u = o) : exec (.awaitPin t) s = .next (settle (tslEnds t s o)) :=
  rowS_tslStep hf ht (tslClass_of_eq hc) ((tslExec_of_class6 hc).trans hx)

theorem branchTsl_of_out (hc : fieldOf 28 4 w = 8) (hx : tslBranch t w u = o) : exec (.branchTsl t) s = .next (settle (tslEnds t s o)) :=
  rowS_tslStep hf ht (tslClass_of_eq hc) ((tslExec_of_class8 hc).trans hx)

theorem countAdd_of_out (hc : fieldOf 28 4 w = 7) (ho : fieldOf 24 3 w = 0) (hx : tslCount4 t w u = o) :
    exec (.countAdd t) s = .next (settle (tslEnds t s o)) :=
  rowS_tslStep hf ht (tslCountOp_of_eq hc ho) ((tslExec_of_class7 hc).trans hx)

theorem countLoad_of_out (hc : fieldOf 28 4 w = 7) (ho : fieldOf 24 3 w = 1) (hx : tslCount4 t w u = o) :
    exec (.countLoad t) s = .next (settle (tslEnds t s o)) :=
  rowS_tslStep hf ht (tslCountOp_of_eq hc ho) ((tslExec_of_class7 hc).trans hx)

theorem countStamp_of_out (hc : fieldOf 28 4 w = 7) (ho : fieldOf 24 3 w = 2) (hx : tslCount4 t w u = o) :
    exec (.countStamp t) s = .next (settle (tslEnds t s o)) :=
  rowS_tslStep hf ht (tslCountOp_of_eq hc ho) ((tslExec_of_class7 hc).trans hx)

theorem countDelta_of_out (hc : fieldOf 28 4 w = 7) (ho : fieldOf 24 3 w = 3) (hx : tslCount4 t w u = o) :
    exec (.countDelta t) s = .next (settle (tslEnds t s o)) :=
  rowS_tslStep hf ht (tslCountOp_of_eq hc ho) ((tslExec_of_class7 hc).trans hx)

theorem signalEvent_of_out (hc : fieldOf 28 4 w = 9) (ho : fieldOf 26 2 w = 0) (hx : tslSignal t w u = o) :
    exec (.signalEvent t) s = .next (settle (tslEnds t s o)) :=
  rowS_tslStep hf ht (tslSignalOp_of_eq hc ho) ((tslExec_of_class9 hc).trans hx)

theorem signalTry_of_out (hc : fieldOf 28 4 w = 9) (ho : fieldOf 26 2 w = 1) (hx : tslSignal t w u = o) :
    exec (.signalTry t) s = .next (settle (tslEnds t s o)) :=
  rowS_tslStep hf ht (tslSignalOp_of_eq hc ho) ((tslExec_of_class9 hc).trans hx)

theorem signalGive_of_out (hc : fieldOf 28 4 w = 9) (ho : fieldOf 26 2 w = 2) (hx : tslSignal t w u = o) :
    exec (.signalGive t) s = .next (settle (tslEnds t s o)) :=
  rowS_tslStep hf ht (tslSignalOp_of_eq hc ho) ((tslExec_of_class9 hc).trans hx)

theorem signalStop_of_out (hc : fieldOf 28 4 w = 9) (ho : fieldOf 26 2 w = 3) (hx : tslSignal t w u = o) :
    exec (.signalStop t) s = .next (settle (tslEnds t s o)) :=
  rowS_tslStep hf ht (tslSignalOp_of_eq hc ho) ((tslExec_of_class9 hc).trans hx)

end

/-- A branch ends at its target or at the next word. -/
theorem tslEnds_branchGo (t : Fin 24) (w : Word) (s u : State) (b : Bool) :
    tslEnds t s (branchGo w u b) = u.tslAt t (if b then fieldOf 0 11 w else s.get (F.TSL_CHtPC_PC t) + 1) := by
  cases b <;> rfl

/-- Settles O37: in its turn a channel comes to what the operation of its word's class does to the state after the fetch, stated case by
case of that operation. Each command's lemma is elaborated on its own, as `(… :)`, and then compared with the clause. -/
theorem teaselInstructions : Obligations.TeaselInstructions := by
  unfold Obligations.TeaselInstructions
  refine ⟨?_, ?_, ?_, tslForms_fetch, tslForms_noFetch, tslTurn_iff, fun t s => ?_⟩
  · intro t w s u hf ht pc ends reg pin
    refine ⟨?_, ?_, ?_, ?_⟩ <;> intro hc
    · refine ⟨fun h => (drive_of_out hf ht hc (tslDrive_of_reserved h) :), ?_⟩
      intro n hz hn k lvl full v post
      have hm := tslClass_of_eq hc
      exact ⟨fun hq => (drive_of_out hf ht hc (tslDrive_of_full hz hn hq) :),
        fun hq hk => (rowS_tslStep hf ht hm (tslExec_drive_onTime hc hz hn hq hk) :),
        fun hq hk hp => (rowS_tslStep hf ht hm (tslExec_drive_stops hc hz hn hq hk hp) :),
        fun hq hk hp => (rowS_tslStep hf ht hm (tslExec_drive_late hc hz hn hq hk hp) :)⟩
    · refine ⟨fun h => (sample_of_out hf ht hc (tslSample_of_reserved h) :), ?_⟩
      intro n hz hn k b si
      exact ⟨fun hk => (sample_of_out hf ht hc (tslSample_of_unknown hz hn hk) :),
        fun hk => (sample_of_out hf ht hc (tslSample_of_known hz hn hk) :)⟩
    · exact ⟨fun h => (shift_of_out hf ht hc (tslShift_of_formed h) :), fun h => (shift_of_out hf ht hc (tslShift_of_reserved h) :)⟩
    · intro f r imm tc put
      refine ⟨fun hz => ⟨fun ho => ?_, fun ho => ?_, fun ho => ?_, fun ho => ?_⟩, fun ho => ?_, fun hz ho => ?_⟩
      · exact (countAdd_of_out hf ht hc ho (tslCount4_add hz ho) :)
      · exact (countLoad_of_out hf ht hc ho (tslCount4_load hz ho) :)
      · exact (countStamp_of_out hf ht hc ho (tslCount4_stamp hz ho) :)
      · exact (countDelta_of_out hf ht hc ho (tslCount4_delta hz ho) :)
      · exact (rowS_tslStep hf ht (tslCountOp_of_reserved hc ho) ((tslExec_of_class7 hc).trans (tslCount4_of_reserved (.inr ho))) :)
      · exact (countAdd_of_out hf ht hc ho (tslCount4_of_reserved (.inl hz)) :)
  · intro t w s u hf ht pc ends illegal stalls waits x dst v
    refine ⟨?_, ?_, ?_, ?_, ?_⟩ <;> intro hc
    · exact ⟨fun h => (fetch_of_out hf ht hc (tslFetch_of_reserved h) :),
        fun hz hd hq => (fetch_of_out hf ht hc (tslFetch_of_empty hz hd hq) :),
        fun d rest hz hd hq => (fetch_of_out hf ht hc (tslFetch_of_cons hz hd hq) :)⟩
    · exact ⟨fun h => (deposit_of_out hf ht hc (tslDeposit_of_reserved h) :),
        fun hz hq => (deposit_of_out hf ht hc (tslDeposit_of_full hz hq) :),
        fun hz hq => (deposit_of_out hf ht hc (tslDeposit_of_room hz hq) :)⟩
    · intro tc dead timed cond
      refine ⟨fun h => (awaitPin_of_out hf ht hc (tslAwait_of_reserved h) :), fun hz hcond => ?_, fun hz hcond => ⟨?_, ?_, ?_⟩,
        fun hz hcond hn => (awaitPin_of_out hf ht hc (tslAwait_noPin hz hcond hn) :), ?_⟩
      · rw [(awaitPin_of_out hf ht hc (tslAwait_tick hz hcond) :)]
        split <;> rfl
      · exact fun q ho hq => (awaitPin_of_out hf ht hc (tslAwait_of_event hz hcond ho hq) :)
      · exact fun _ hq ho => (awaitPin_of_out hf ht hc (tslAwait_of_noEvent hz hcond hq ho) :)
      · exact fun hto h => (awaitPin_of_out hf ht hc (tslAwait_of_eventTimeout hz hcond hto h) :)
      · intro n hz hcond hn r o
        refine ⟨fun k hk ho => ?_, fun k hk hto ho => ?_, fun hk hto hknown => ?_, fun hk ho => ?_⟩
        · exact (awaitPin_of_out hf ht hc (tslAwait_of_met hz hcond hn hk ho) :)
        · exact (awaitPin_of_out hf ht hc (tslAwait_of_late hz hcond hn hk hto ho) :)
        · exact (awaitPin_of_out hf ht hc ((tslAwait_of_unmet hz hcond hn hk).trans (if_pos ⟨hto, hknown⟩)) :)
        · exact (awaitPin_of_out hf ht hc ((tslAwait_of_unmet hz hcond hn hk).trans
            (if_neg fun h => ho.elim (· h.1) fun hunknown => Bool.false_ne_true (hunknown.symm.trans h.2))) :)
    · intro fl cond pa pb go conds formed
      refine ⟨fun h => (branchTsl_of_out hf ht hc (tslBranch_of_reserved h) :), fun hform e he h => ?_,
        fun hform h6 h9 hn => (branchTsl_of_out hf ht hc (tslBranch_of_noPin hform h6 h9 hn) :), ?_⟩
      · exact (branchTsl_of_out hf ht hc (tslBranch_of_cond hform e he h) :).trans (congrArg ends (tslEnds_branchGo t w s u e.2))
      · intro a b hform h6 h9 ha hb la lb
        rw [(branchTsl_of_out hf ht hc (tslBranch_of_pins hform h6 h9 ha hb) :)]
        split
        · exact congrArg ends (tslEnds_branchGo t w s u _)
        · rfl
    · intro a ev tried given formed
      refine ⟨fun hz ho he => ?_, fun hz ho he => ⟨fun d h => ?_, fun c h => ?_⟩, fun hz ho he => ⟨fun d h => ?_, fun c h => ?_⟩,
        fun hz ho => ?_, fun h => ⟨fun ho => ?_, fun ho => ?_, fun ho => ?_, fun ho => ?_⟩⟩
      · exact (signalEvent_of_out hf ht hc ho (tslSignal_event hz he ho) :)
      · exact (signalTry_of_out hf ht hc ho (tslSignal_try_of_ok hz he ho h) :)
      · exact (signalTry_of_out hf ht hc ho (tslSignal_try_of_refused hz he ho h) :)
      · exact (signalGive_of_out hf ht hc ho (tslSignal_give_of_ok hz he ho h) :)
      · exact (signalGive_of_out hf ht hc ho (tslSignal_give_of_refused hz he ho h) :)
      · exact (signalStop_of_out hf ht hc ho (tslSignal_stop hz ho) :)
      · exact (signalEvent_of_out hf ht hc ho (tslSignal_of_reserved h) :)
      · exact (signalTry_of_out hf ht hc ho (tslSignal_of_reserved h) :)
      · exact (signalGive_of_out hf ht hc ho (tslSignal_of_reserved h) :)
      · exact (signalStop_of_out hf ht hc ho (tslSignal_of_reserved h) :)
  · intro e he t s h
    rw [exec_of_tslForms e he]
    exact rowS_of_eq (tslStep_of_idle (s := s.begin) h)
  · exact ⟨tslResume_of_running t s, tslResume_of_stalled t s⟩

end Sys2Proof.Machine
end
